-- ==== Sys2Proof/Syntax.lean ====
section
/-! DEFINITION. Syntax.lean: the commands of the block, one constructor for each row of spec/opcode_table.json, and the
types of their operands. A command is either an access from outside (a register write, a frame, a request), an event on a pin, or
an event that the device's own engines reach; its operands are what the event itself brings. -/
namespace Sys2Proof

/-- Who sends an access to the registers (00 R8): the host through PF0, a virtual function, or an Atelier core. -/
inductive Requester where
  | pf0
  | vf (n : Fin 64)
  | atelier0
  | atelier1
  deriving DecidableEq, Repr

/-- PF0 or an Atelier core, the requesters that management registers accept. -/
def Requester.manages : Requester → Bool
  | .vf _ => false
  | _ => true

/-- An Atelier core. -/
def Requester.atelier : Requester → Bool
  | .atelier0 => true
  | .atelier1 => true
  | _ => false

/-- The select registers (00 R10 and the chapters that add their own). -/
inductive Selector where
  | strCh | flw | ethPort | tcCore | scCore | eas | memStk | radCell | fltInj | egsNode | clmZone
  deriving DecidableEq, Repr

/-- A clock domain (00, 03). -/
inductive Domain where
  | k | s | h | q
  deriving DecidableEq, Repr

/-- A run of bytes of a given length held sparsely: the bytes that are not zero, by offset. -/
structure Blob where
  len : Nat
  bytes : List (Nat × Byte)
  deriving DecidableEq, Repr

/-- The byte of a blob at an offset. -/
def Blob.byte (b : Blob) (o : Nat) : Nat :=
  match b.bytes.find? (fun e => decide (e.1 = o)) with
  | some e => e.2.toNat
  | none => 0

/-- `n` bytes of a blob from an offset, little-endian (02 "Layout"). -/
def Blob.le (b : Blob) (o : Nat) : Nat → Nat
  | 0 => 0
  | n + 1 => b.byte o + 256 * b.le (o + 1) n

/-- Whether `n` bytes of a blob from an offset are all zero. -/
def Blob.zero (b : Blob) (o n : Nat) : Bool := b.bytes.all (fun e => decide (e.1 < o ∨ o + n ≤ e.1) || e.2 == 0)

/-- What an ECC or parity check of stored data found as the data arrived (04 R111, R112; 05 R152; 07 R222): an input of the
commands that read memories, since cells fail by themselves. -/
inductive Ecc where
  | ok
  | corrected
  | uncorrectable
  deriving DecidableEq, Repr

/-- The atomic operations (13 R395; codes 1 to 6 of AOP, R391). -/
inductive AtomicOp where
  | add | min | max | minu | maxu | cas
  deriving DecidableEq, Repr

/-- An error that the check of a memory found as a request was served: its kind, the 64-byte granule of the request it lies in,
counted from 0, and the lane in error (0 to 17, 0x1F for two lanes; 04 R111, R120). -/
structure EccEvent where
  kind : Ecc
  granule : Nat
  lane : Nat
  deriving DecidableEq, Repr

/-- An operation record or a response record of a Yaroz packet (13 R394, R396): its four header fields, the 8-byte ADDR or INFO, and the
payload bytes. In a response, `opc` is STATUS and `flags` FLAGS. -/
structure YzRec where
  opc : Nat
  flags : Nat
  len : Nat
  tag : Nat
  addr : Nat
  payload : List Nat
  deriving DecidableEq, Repr

/-- A Yaroz packet (13 R384): the header fields that are not fixed, and its records. -/
structure YzPkt where
  type : Nat
  flags : Nat
  job : Nat
  src : Nat
  dst : Nat
  epoch : Nat
  gen : Nat
  psn : Nat
  ack : Option Nat
  lseq : Nat
  lack : Nat
  credit : Nat
  recs : List YzRec
  deriving DecidableEq, Repr

/-- An engine that the schedulers grant commands to (10 R318). -/
inductive Engine where
  | tcore (core : Fin 48)
  | score (core : Fin 192)
  deriving DecidableEq, Repr

/-- One allocation of a slot request (08 R239, R243): its kind (0 PDSCH, 1 PDCCH, 2 SSB, 3 CSI-RS, 4 PUSCH, 5 PUCCH, 6 PRACH, 7 SRS), the L2's handle, RNTI and
HARQ process, new data, layers, base graph (1 or 2) and code blocks, soft values of a code block's circular buffer, symbols (bits 0 to 13), streams of its
kind in the order of R234, first PRB and PRBs. -/
structure RadPdu where
  kind : Nat
  handle : Nat
  rnti : Nat
  harq : Nat
  newData : Bool
  layers : Nat
  bg : Nat
  cbs : Nat
  soft : Nat
  syms : Nat
  streams : Nat
  prb : Nat
  num : Nat
  deriving DecidableEq, Repr

/-- A transport block of a TX_Data.request: its PDU's handle, the host address of a payload outside the message, the payload (17 R497). -/
structure RadTx where
  handle : Nat
  addr : Option Nat
  data : Blob
  deriving DecidableEq, Repr

/-- A command, radio stroke or hard-block job of a slot plan (08 R244, R262): its engine (0 T-core, 1 S-core, 2 LDPC decoder, 3 LDPC encoder, 4 FFT engine,
5 polar decoder, 6 radio stroke), the core, panel or channel, its words (a stroke's: descriptor address and count), latest start and release in cycles of
its engine, the semaphores it takes and signals, earlier items of the plan whose product it consumes, and the handles of the PDUs it serves. The words of a
decoder's job are its PDU's handle and its code block; of an FFT engine's its use (0 FFT, 1 inverse, 2 transform decoding, 3 PRACH) and its points or PRACH
format (0 to 3, then A1, A2, A3, B1, B2, B3, B4, C0, C1, C2); of a polar decoder's its coded bits. -/
structure PlanItem where
  engine : Nat
  unit : Nat
  words : List Nat
  latest : Nat
  release : Nat
  takes : List Nat
  signals : List Nat
  inputs : List Nat
  serves : List Nat
  deriving DecidableEq, Repr

/-- A resource with power states (19 R526). -/
inductive PowRes where
  | tcore (core : Fin 48)
  | stack (k : Fin 18)
  | link (l : Fin 16)
  deriving DecidableEq, Repr

/-- A request to bonded memory (04 R100): a load of some bytes, a store, an atomic on a word of 4 or 8 bytes with its operand and compare value (13 R395). -/
inductive MemAcc where
  | load (n : Nat)
  | store (bytes : List Nat)
  | atomic (w : Nat) (op : AtomicOp) (operand compare : Nat)
  deriving DecidableEq, Repr

/-- A CXL.mem request of the host (17 R498): within one 64-byte granule. -/
inductive CxlMemOp where
  | read (n : Nat)
  | write (bytes : List Nat)
  deriving DecidableEq, Repr


/-- A Yaroz frame as it arrives (13 R384, R385): whether its FCS and its ICRC hold, its MAC addresses, its packet. -/
structure YzFrame where
  fcs : Bool
  icrc : Bool
  dmac : Nat
  smac : Nat
  pkt : YzPkt
  deriving DecidableEq, Repr

/-- The commands, in the order of spec/opcode_table.json. -/
inductive Instr where
  /-- REGISTER_WRITE (R3): A host or core write to a register that has no row of its own, applied per its access code. `off` is the BAR0 offset, `size` the access width in bytes. -/
  | registerWrite (req : Requester) (off : Nat) (size : Nat) (value : BitVec 64)
  /-- LOW_REGISTER_READ (R5): A read of the low half of a 64-bit pair snapshots the high half for the same requester. -/
  | lowRegisterRead (req : Requester) (off : Nat) (size : Nat)
  /-- PAIRED_HIGH_WRITE (R5): A write of the high half commits a held low-half write so both halves take effect together. -/
  | pairedHighWrite (req : Requester) (off : Nat) (value : BitVec 32)
  /-- SELECT_REGISTER_WRITE (R9): A write to a requester's copy of a select register; an out-of-range index is discarded. -/
  | selectRegisterWrite (req : Requester) (sel : Selector) (value : BitVec 32)
  /-- POWER_ON_RESET (R77): The power-on detector resets the chip, clears RST_CAUSE and sets bit 0. -/
  | powerOnReset
  /-- CARD_RESET_ASSERT (R62): CARD_RESET_N asserts and causes a chip-reach reset. -/
  | cardResetAssert
  /-- CARD_RESET_RELEASE (R76): CARD_RESET_N releases; if it was the last chip-reach source, bring-up begins. -/
  | cardResetRelease
  /-- PERST_ASSERT (R66): PERST_N asserts, resetting the CXL controller and holding tenant easels, or the chip with alternative reach. -/
  | perstAssert
  /-- PERST_RELEASE (R80): PERST_N releases and the CXL controller leaves reset. -/
  | perstRelease
  /-- CXL_HOT_RESET (R66): A CXL hot reset resets the CXL controller and holds tenant easels, or the chip with alternative reach. -/
  | cxlHotReset
  /-- LINK_DISABLE (R66): Link disable holds the CXL controller in reset until the host re-enables the link. -/
  | linkDisable
  /-- LINK_REENABLE (R66): The host re-enables the CXL link and the controller leaves reset. -/
  | linkReenable
  /-- CLOCK_LOSS (R61): Loss of the reference, root PLL lock or a divided clock puts every domain into chip reset. `doms`: bit 0 K, 1 S, 2 H, 3 Q. -/
  | clockLoss (doms : BitVec 4) (ref root : Bool)
  /-- REFERENCE_RETURN (R61): The reference returns after a clock loss and bring-up restarts at the root PLL. -/
  | referenceReturn
  /-- ROOT_PLL_LOCK (R60): The root PLL reports lock. -/
  | rootPllLock
  /-- DOMAIN_SETTLE (R59): A clock domain has run 4,096 of its own cycles after lock and leaves reset. -/
  | domainSettle (d : Domain)
  /-- WATCHDOG_EXPIRY (R67): The watchdog runs out, causing a chip reset with RST_CAUSE bit 4. -/
  | watchdogExpiry
  /-- WATCHDOG_KICK (R67): An Atelier core writes the key to RST_WDOG_KICK to restart the watchdog. -/
  | watchdogKick (req : Requester) (value : BitVec 32)
  /-- RAIL_RESET_LEVEL (R86): A rail below its reset level for 8 Q-cycles causes a chip reset and sets PWR_SUP_TRIP.UNDER. -/
  | railResetLevel (rails : BitVec 7)
  /-- RAIL_OVER_VOLTAGE (R86): A rail 10% above nominal for 8 Q-cycles causes a chip reset and sets PWR_SUP_TRIP.OVER. -/
  | railOverVoltage (rails : BitVec 7)
  /-- BRACE_ENTRY (R87): A rail below its warning level enters brace mode, stopping tenant admission and issue. -/
  | braceEntry (rails : BitVec 7)
  /-- BRACE_EXIT (R88): All rails stay above warning plus hysteresis for 2 ms and brace mode ends. `us`: how long the episode lasted. -/
  | braceExit (us : BitVec 32)
  /-- SUPPLY_MEAS_PERIOD (R92): At the end of each 1,024 Q-cycle period the rail means in PWR_SUP_MEAS update. `mv`: the seven means, in rail order. -/
  | supplyMeasPeriod (mv : List (BitVec 16))
  /-- SOFT_RESET_CHIP (R72): RST_SOFT with REACH chip causes a chip-reach reset. -/
  | softResetChip (req : Requester) (key : BitVec 8) (target : BitVec 9) (force : Bool)
  /-- SOFT_RESET_IO_DIE (R72): RST_SOFT with REACH I/O die resets one I/O die. -/
  | softResetIoDie (req : Requester) (key : BitVec 8) (target : BitVec 9) (force : Bool)
  /-- SOFT_RESET_PANEL (R72): RST_SOFT with REACH panel resets one panel after putting its stacks in self-refresh. -/
  | softResetPanel (req : Requester) (key : BitVec 8) (target : BitVec 9) (force : Bool)
  /-- SOFT_RESET_CORE (R72): RST_SOFT with REACH core resets one T-core or S-core. -/
  | softResetCore (req : Requester) (key : BitVec 8) (target : BitVec 9) (force : Bool)
  /-- SOFT_RESET_HOLD_END (R605): The held time of a soft reset expires and the unit is brought back. -/
  | softResetHoldEnd
  /-- SOFT_RESET_DONE (R605): The reset unit accepts work again and RST_SOFT_STATUS reads DONE. -/
  | softResetDone
  /-- PANEL_RETRAIN_DONE (R117): Retraining of a reset panel's stacks completes or fails, releasing or holding the panel. `trained`: which of the panel's stacks retrained. -/
  | panelRetrainDone (trained : BitVec 6)
  /-- ROM_BOOT (R552): The ROM derives identity, chooses the source and verifies the image header, firmware and canvas header. `flash`: the image in the card's flash; `ident`: its identity record; none where a read fails. -/
  | romBoot (flash ident : Option Blob)
  /-- APPLY_BEGIN (R27): The firmware begins apply: check, clocks and early sections. `lost`: the flash could not deliver what phase 1 reads. -/
  | applyBegin (lost : Bool)
  /-- STACK_TRAINING_DONE (R114): Training of the bonded interfaces completes and apply proceeds to the late sections. `trained`: the stacks whose channels all trained; `spares`: the spare lanes each stack uses; `filled`: the zero fill has ended too; `lost`: the flash could not deliver the late sections. -/
  | stackTrainingDone (trained : BitVec 18) (spares : List Nat) (filled lost : Bool)
  /-- EASEL0_START (R78): Easel 0's programs run and flows are armed; RADIO_READY is set. `us`: the time since the release of the last chip-reach source. -/
  | easel0Start (us : BitVec 32)
  /-- RETOUCH_GO (R41): CVS_RT_CTRL.GO submits a retouch which the device fetches over CXL.cache. -/
  | retouchGo (req : Requester)
  /-- RETOUCH_CHECK (R44): The fetched retouch is checked in order and accepted or refused. `data`: the bytes read from CVS_RT_ADDR; `fail`: the read failed. -/
  | retouchCheck (data : Blob) (fail : Bool)
  /-- RETOUCH_CANCEL (R54): CVS_RT_CTRL.CANCEL drops the rest of a pending retouch of a type. -/
  | retouchCancel (req : Requester) (types : BitVec 4)
  /-- SHAPER_REFILL (R449): Every 1 µs all shapers add RATE bits and clip to BURST. -/
  | shaperRefill
  /-- BONDED_REQUEST (R100): A request to bonded memory is translated through the easel's map and served. -/
  | bondedRequest (easel : Fin 64) (addr : Nat) (acc : MemAcc) (ecc : Option EccEvent)
  /-- BANK_PAGE_TIMEOUT (R106): A page open 32 K-cycles without a hit is closed. -/
  | bankPageTimeout (stack : Fin 18) (channel : Fin 48) (bank : Fin 32)
  /-- STACK_REFRESH (R110): A bank's refresh interval expires and it is refreshed. -/
  | stackRefresh (stack : Fin 18) (channel : Fin 48) (bank : Fin 32)
  /-- STACK_TEMP_READING (R110): A stack reports its hottest die temperature every 32 µs. `temp`: the hottest die in °C; `bad`: the sensor is out of range or stuck. -/
  | stackTempReading (stack : Fin 18) (temp : Nat) (bad : Bool)
  /-- PATROL_SCRUB (R113): The patrol scrubber reads the next granule and treats its errors. `ecc`, `lane`: what its check found. -/
  | patrolScrub (stack : Fin 18) (ecc : Ecc) (lane : Nat)
  /-- MEM_RELEASE_GO (R103): MEM_EAS_REL_CTRL.GO starts zeroing a range of the easel's units. -/
  | memReleaseGo (req : Requester)
  /-- MEM_RELEASE_DONE (R103): Zeroing of the release range ends, USED bits clear and the watermark lowers. -/
  | memReleaseDone (easel : Fin 64)
  /-- TC_MATMUL (R130): A MATMUL command launches and runs its passes. `faults`: the arrays and column groups in which a check of the arrays fails; `ecc`: errors the scratchpad's check finds, by granule of the core's scratchpad share. -/
  | tcMatmul (core : Fin 48) (faults : List (Fin 4 × Fin 4)) (ecc : List EccEvent)
  /-- TC_ELEMWISE (R142): An ELEMWISE command runs diagonal mode over its rows. -/
  | tcElemwise (core : Fin 48) (faults : List (Fin 4 × Fin 4)) (ecc : List EccEvent)
  /-- TC_RELEASE (R153): A T-core RELEASE command zeroes scratchpad units and clears USED bits. -/
  | tcRelease (core : Fin 48)
  /-- TC_MARK (R159): A MARK completes once earlier commands of its easel on the T-core complete. -/
  | tcMark (core : Fin 48)
  /-- TC_PRELOAD (R166): A PRELOAD loads chunk 0 into the idle set of each named array. `ecc`: the errors its scratchpad reads find. -/
  | tcPreload (core : Fin 48) (ecc : List EccEvent)
  /-- TC_COMPLETION (R161): A T-core command or group finishes, signals its semaphore and posts its completion record. `id` and `group` name the launched command and group that finishes; `cycles`: K-cycles from its launch, used where the spec gives a bound only; `busy`: K-cycles with an array of the core occupied since they were last counted. -/
  | tcCompletion (core : Fin 48) (id group cycles busy : Nat)
  /-- SC_RUN (R223): A RUN command launches its program in its context. -/
  | scRun (core : Fin 192)
  /-- SC_RELEASE (R225): An S-core RELEASE zeroes DMEM or PMEM units and clears USED bits. -/
  | scRelease (core : Fin 192)
  /-- SC_MARK (R225): An S-core MARK completes once earlier commands of its easel complete. -/
  | scMark (core : Fin 192)
  /-- SC_LOADPROG (R225): LOADPROG copies packets from DMEM to PMEM. -/
  | scLoadprog (core : Fin 192) (ecc : Option EccEvent)
  /-- SC_COMPLETION (R227): An S-core command ends and its completion record is posted 4 S-cycles after DONE. `pm`: what the check of the fetch of the packet about to issue found; `parkedCyc`: S-cycles the command spent parked. -/
  | scCompletion (core : Fin 192) (pm : Ecc) (parkedCyc : Nat)
  /-- NOP (R203): No operation in a slot. -/
  | nop (core : Fin 192)
  /-- VADD (R203): Vector add. -/
  | vadd (core : Fin 192)
  /-- VSUB (R203): Vector subtract. -/
  | vsub (core : Fin 192)
  /-- VMAC (R200): Real-lane multiply-accumulate into an accumulator. -/
  | vmac (core : Fin 192)
  /-- VCMAC (R200): CI16 multiply-accumulate, optionally conjugating B. -/
  | vcmac (core : Fin 192)
  /-- TAP_C (R216): Complex filter tap with delay-line shift. -/
  | tapC (core : Fin 192)
  /-- TAP_R (R216): Real filter tap with delay-line shift. -/
  | tapR (core : Fin 192)
  /-- VPACK (R203): Accumulator shifted right and narrowed to 16 bits. -/
  | vpack (core : Fin 192)
  /-- VSHR (R214): Vector arithmetic truncating right shift. -/
  | vshr (core : Fin 192)
  /-- VSHL (R203): Vector left shift. -/
  | vshl (core : Fin 192)
  /-- VMAX (R203): Lane-wise maximum. -/
  | vmax (core : Fin 192)
  /-- VMIN (R203): Lane-wise minimum. -/
  | vmin (core : Fin 192)
  /-- VCONJ (R203): Conjugate of a vector. -/
  | vconj (core : Fin 192)
  /-- VSEL (R203): Select lanes by predicate. -/
  | vsel (core : Fin 192)
  /-- VCLR (R200): Clear an accumulator. -/
  | vclr (core : Fin 192)
  /-- VLD (R218): Load 64 bytes into a vector register. -/
  | vld (core : Fin 192) (ecc : Option EccEvent)
  /-- VST (R201): Store a vector register to DMEM. -/
  | vst (core : Fin 192)
  /-- LDF (R217): Load 64 bytes into a part of a delay line. -/
  | ldf (core : Fin 192) (ecc : Option EccEvent)
  /-- LD (R218): Load a 32-bit word into a scalar register. -/
  | ld (core : Fin 192) (ecc : Option EccEvent)
  /-- ST (R201): Store a scalar register to DMEM. -/
  | st (core : Fin 192)
  /-- VPERM (R203): Permute lanes by an index vector. -/
  | vperm (core : Fin 192)
  /-- ADD (R203): Scalar add. -/
  | add (core : Fin 192)
  /-- SUB (R203): Scalar subtract. -/
  | sub (core : Fin 192)
  /-- AND (R203): Scalar bitwise and. -/
  | andS (core : Fin 192)
  /-- OR (R203): Scalar bitwise or. -/
  | orS (core : Fin 192)
  /-- XOR (R203): Scalar bitwise exclusive or. -/
  | xorS (core : Fin 192)
  /-- SHL (R203): Scalar left shift. -/
  | shl (core : Fin 192)
  /-- SHR (R214): Scalar truncating right shift. -/
  | shr (core : Fin 192)
  /-- CMP (R203): Compare and set a predicate register. -/
  | cmp (core : Fin 192)
  /-- BR (R205): Branch with three delay slots. -/
  | br (core : Fin 192)
  /-- REPEAT (R206): Start a hardware loop over the following packets. -/
  | repeatLoop (core : Fin 192)
  /-- SEMTRY (R288): Take a semaphore count if available without waiting. -/
  | semtry (core : Fin 192)
  /-- SEMSIG (R203): Add one count to a semaphore. -/
  | semsig (core : Fin 192)
  /-- DONE (R223): End the running command. -/
  | doneCmd (core : Fin 192)
  /-- REPEAT_CEILING (R209): A loop would exceed REP_CEIL packets and the command ends with REPEAT_CEILING. -/
  | repeatCeiling (core : Fin 192) (parkedCyc : Nat)
  /-- OVERRUN (R212): A context-1 command issues RUN_LEN packets without DONE and raises an overrun fault. -/
  | overrun (core : Fin 192)
  /-- PREEMPT_SWITCH (R211): At the first boundary with no delay slots or loop left, the tenant command parks and the radio command starts. -/
  | preemptSwitch (core : Fin 192) (ecc : Option EccEvent)
  /-- DEBUG_HALT (R211): A debug halt of an S-core takes effect after hold-off. -/
  | debugHalt (core : Fin 192)
  /-- FAPI_PARAM (R239): A PARAM.request is answered. The contents of the oldest message of queue pair `qp`: `cell` is its CELL_ID. -/
  | fapiParam (qp : Fin 64) (cell : Nat)
  /-- FAPI_CONFIG (R240): A CONFIG.request is checked against CELLMAP and accepted or refused. `body`: the rest of the configuration. -/
  | fapiConfig (qp : Fin 64) (cell prbs scs ports duplex : Nat) (body : List Nat)
  /-- FAPI_START (R241): A START.request moves a cell to RUNNING or WAIT_SYNC. -/
  | fapiStart (qp : Fin 64) (cell : Nat)
  /-- FAPI_STOP (R241): A STOP.request returns a cell to CONFIGURED after its last slot. -/
  | fapiStop (qp : Fin 64) (cell : Nat)
  /-- DL_TTI_REQUEST (R243): A DL_TTI.request for a slot is taken if not late. `mib`: the MIB of an SSB PDU. -/
  | dlTtiRequest (qp : Fin 64) (cell sfn slot : Nat) (pdus : List RadPdu) (mib : Option Nat)
  /-- UL_TTI_REQUEST (R243): A UL_TTI.request for a slot is taken if not late. -/
  | ulTtiRequest (qp : Fin 64) (cell sfn slot : Nat) (pdus : List RadPdu)
  /-- UL_DCI_REQUEST (R243): A UL_DCI.request for a slot is taken if not late. -/
  | ulDciRequest (qp : Fin 64) (cell sfn slot : Nat) (pdus : List RadPdu)
  /-- TX_DATA_REQUEST (R497): A TX_Data.request and its payload are taken for a slot. -/
  | txDataRequest (qp : Fin 64) (cell sfn slot : Nat) (tbs : List RadTx)
  /-- SLOT_INDICATION (R242): SLOT.indication is posted at T(n) − REQ_LEAD − 500 µs. -/
  | slotIndication (cell : Fin 384)
  /-- REQUEST_DEADLINE (R243): The request deadline of a slot passes and planning starts. `n`: the slot, counted from SFN 0 of the grid's origin. -/
  | requestDeadline (cell : Fin 384) (n : Nat)
  /-- SLOT_PLAN (R244): The slot plan with latest starts is complete, at K-cycle `kNow` of the T-cores and S-cycle `sNow` of the other engines. -/
  | slotPlan (cell : Fin 384) (n kNow sNow : Nat) (items : List PlanItem)
  /-- UL_WINDOW_CLOSE (R246): A symbol's window ends and missing PRBs become zero samples. -/
  | ulWindowClose (cell : Fin 384) (n : Nat) (sym : Fin 14)
  /-- LDPC_DECODE_DONE (R248): An LDPC decoder finishes a code block. `soft`: the soft values of this reception; `fault`: the decoder's parity check failed. -/
  | ldpcDecodeDone (cell : Fin 384) (n handle cb : Nat) (soft : List (BitVec 8)) (fault : Bool)
  /-- RESULT_DEADLINE (R250): The result deadline passes and undecoded transport blocks report CRC failure. -/
  | resultDeadline (cell : Fin 384) (n : Nat)
  /-- HARQ_AGE_EXPIRY (R251): A HARQ buffer without a request for HARQ_AGE slots is freed. -/
  | harqAgeExpiry (cell : Fin 384) (rnti harq : Nat)
  /-- LDPC_ENCODE_DONE (R254): An LDPC encoder finishes a code block. -/
  | ldpcEncodeDone (cell : Fin 384) (n item : Nat) (fault : Bool)
  /-- FFT_DONE (R257): An FFT/iFFT engine finishes a transform. -/
  | fftDone (cell : Fin 384) (n item : Nat) (fault : Bool)
  /-- POLAR_DECODE_DONE (R258): A polar decoder finishes a UCI block. -/
  | polarDecodeDone (cell : Fin 384) (n item : Nat) (fault : Bool)
  /-- DL_DATA_CHECK (R256): 2 µs before launch, unready PRBs are sent as zero samples. -/
  | dlDataCheck (cell : Fin 384) (n : Nat) (sym : Fin 14)
  /-- RADIO_SHED (R262): A radio command misses its latest start and it and its dependents are shed. `now`: the cycle of its engine. -/
  | radioShed (cell : Fin 384) (n item now : Nat)
  /-- CELL_SLOT_BOUNDARY (R261): At a slot boundary a cell moves between RUNNING, WAIT_SYNC and HELD as required. -/
  | cellSlotBoundary (cell : Fin 384)
  /-- SSB_HOLD_EXPIRY (R265): SSB_HOLD_S seconds elapse and held SSB bursts stop. -/
  | ssbHoldExpiry (cell : Fin 384)
  /-- CHANNEL_ARM (R273): STR_CH_CTRL.ARM starts or latches a descriptor run. -/
  | channelArm (req : Requester)
  /-- CHANNEL_RESUME (R296): RESUME reissues a halted channel's failing request. -/
  | channelResume (req : Requester)
  /-- CHANNEL_SKIP (R296): SKIP treats a halted channel's failing run as done. -/
  | channelSkip (req : Requester)
  /-- CHANNEL_ABORT (R296): ABORT ends the channel's run. -/
  | channelAbort (req : Requester)
  /-- SEMAPHORE_SET (R287): A write of STR_CH_SEM sets both counts of a link. -/
  | semaphoreSet (req : Requester) (value : BitVec 32)
  /-- DESCRIPTOR_FETCH_DONE (R273): A burst of descriptors arrives at the channel. -/
  | descriptorFetchDone (ch : Fin 2048) (host : Blob) (fail : Bool)
  /-- THREAD_TAKE (R271): A ready channel takes a free stream thread. -/
  | threadTake (ch : Fin 2048) (thread : Fin 64)
  /-- STROKE_START (R276): A descriptor's stroke is fetched and checked before any request. -/
  | strokeStart (ch : Fin 2048) (ecc : Option EccEvent)
  /-- DIM (R279): Set one dimension of the address nest. -/
  | dim (ch : Fin 2048)
  /-- STROKE_RUN (R279): Set the contiguous run length. -/
  | strokeRun (ch : Fin 2048)
  /-- WRAP (R281): Make a side a ring. -/
  | wrap (ch : Fin 2048)
  /-- GATHER (R282): Take a dimension's offsets from the index list. -/
  | gather (ch : Fin 2048)
  /-- MOVE (R280): Move the nest as set from source to destination. `host`, `idx`: bytes and page-list bytes the host returns; `hostFail`: the host request refused; `ecc`: errors the checks find, by granule. -/
  | moveNest (ch : Fin 2048) (host idx : Blob) (hostFail : Option Nat) (ecc : List (Nat × EccEvent))
  /-- ADV (R279): Add a step to a side's cursor. -/
  | adv (ch : Fin 2048)
  /-- LOOP (R279): Return to a target instruction until the count is spent. -/
  | loopStroke (ch : Fin 2048)
  /-- SWAIT (R279): Take one count of a semaphore. -/
  | swait (ch : Fin 2048)
  /-- SSIG (R283): Add one count once prior writes complete. -/
  | ssig (ch : Fin 2048)
  /-- FENCE (R283): Wait until every write issued so far completes. -/
  | fence (ch : Fin 2048)
  /-- STROKE_ARM (R279): A stroke arms a channel of the same easel. -/
  | strokeArm (ch : Fin 2048)
  /-- END (R284): End the stroke and start the next descriptor. -/
  | endStroke (ch : Fin 2048)
  /-- SEMAPHORE_SIGNAL_ARRIVAL (R289): A signal reaches the semaphore count and waiting takes are granted. -/
  | semaphoreSignalArrival (sem : BitVec 12)
  /-- DESCRIPTOR_COMPLETE (R284): Every write of a descriptor completes and its record is posted. -/
  | descriptorComplete (ch : Fin 2048)
  /-- PALETTE_READ_RESUME (R299): Bytes arrive for a channel waiting to read a Palette queue. -/
  | paletteReadResume (ch : Fin 2048)
  /-- GRANULE_WAIT_RESUME (R300): A granule becomes available to a write waiting for one. -/
  | granuleWaitResume (ch : Fin 2048)
  /-- SQ_TAIL_WRITE (R314): A write of EAS_SQ_TAIL makes new submission entries waiting. -/
  | sqTailWrite (req : Requester) (tail : BitVec 16)
  /-- EASEL_ENABLE (R314): EAS_CTRL.ENABLE activates the rings and zeroes heads and tails. -/
  | easelEnable (req : Requester)
  /-- SUBMIT_T_CORE (R316): A T-core command entry is admitted to its queue. `host`: the 128 bytes of the ring's head entry when the ring lies in host memory. -/
  | submitTCore (easel : Fin 64) (host : Blob)
  /-- SUBMIT_S_CORE (R316): An S-core command entry is admitted to its queue. -/
  | submitSCore (easel : Fin 64) (host : Blob)
  /-- SUBMIT_CHANNEL_ARM (R316): A channel-arm entry acts as STR_CH_CTRL.ARM. -/
  | submitChannelArm (easel : Fin 64) (host : Blob)
  /-- GRANT (R318): At a decision point the scheduler grants a radio, management or tenant command. `t`: the decision point in cycles of the engine's clock; `ready`: for a T-core, the arrays that are ready or at their last slot; `pLive`: P_live (R165); `early`: the arrays whose running pass has not begun its last frame (R166). -/
  | grant (eng : Engine) (t : Nat) (ready : BitVec 4) (pLive : Nat) (early : BitVec 4)
  /-- TO_NORMAL (R312): SCH_MODE_CTRL leaves partitioned mode. -/
  | toNormal (req : Requester) (key : BitVec 8)
  /-- TO_PARTITIONED (R312): SCH_MODE_CTRL enters partitioned mode. -/
  | toPartitioned (req : Requester) (key : BitVec 8)
  /-- CQ_HEAD_WRITE (R336): An advance of EAS_CQ_HEAD resumes held completion delivery. -/
  | cqHeadWrite (req : Requester) (head : BitVec 16)
  /-- PARKED_WAIT_DONE (R328): The last parked operation completes and the channel becomes ready. -/
  | parkedWaitDone (ch : Fin 2048)
  /-- SEQ_ENABLE (R340): SEQ_EAS_CTRL.ENABLE checks the declared areas and starts serving. -/
  | seqEnable (req : Requester) (auto : Bool)
  /-- SEQ_OPEN (R347): SEQ_OPEN fills a sequence entry and sets QUEUED. `host`: the entry at the ring's head where the ring lies in host memory. -/
  | seqOpen (easel : Fin 64) (host : Blob)
  /-- SEQ_CLOSE (R348): SEQ_CLOSE ends a sequence with CANCELLED. -/
  | seqClose (easel : Fin 64) (host : Blob)
  /-- STEP_BUILD (R351): The builder builds the next step's work list and posts BUILT. -/
  | stepBuild (easel : Fin 64) (host : Blob)
  /-- BUILD_RETRY (R350): A waiting build proceeds after admission or a retry event. -/
  | buildRetry (easel : Fin 64)
  /-- SAMPLE_DRAFT (R358): A DRAFT sample draws draft tokens for VERIFY segments. `ecc`: errors found as logit rows are read, by row of the SAMPLE. -/
  | sampleDraft (easel : Fin 64) (host : Blob) (ecc : List (Nat × EccEvent))
  /-- SAMPLE_FINAL (R359): The FINAL sample draws the committed tokens of each segment. `ecc`: errors found as logit rows are read, by row of the SAMPLE. -/
  | sampleFinal (easel : Fin 64) (host : Blob) (ecc : List (Nat × EccEvent))
  /-- DRAFT_PUT (R358): DRAFT_PUT writes tenant drafts into a VERIFY segment. -/
  | draftPut (easel : Fin 64) (host : Blob)
  /-- SEQ_SWAP_OUT (R352): SEQ_SWAP out copies a sequence's pages to host swap space. -/
  | seqSwapOut (easel : Fin 64) (host : Blob)
  /-- SEQ_SWAP_IN (R352): SEQ_SWAP in copies a sequence's pages back. -/
  | seqSwapIn (easel : Fin 64) (host : Blob)
  /-- SWAP_COPY_DONE (R352): A swap copy completes or fails and the entry changes state. `host`: the bytes read of the swap slots. -/
  | swapCopyDone (easel : Fin 64) (index : Nat) (host : Blob) (fail : Bool)
  /-- VARNISH (R360): The step's outcomes are applied atomically per sequence and the step closes. -/
  | varnish (easel : Fin 64)
  /-- SEQ_LOSE (R363): SEQ_LOSE ends sequences with LOST. -/
  | seqLose (req : Requester) (easel : Fin 64) (all : Bool) (index : Fin 8192) (key : BitVec 8)
  /-- SEQ_PEEK (R366): SEQ_EAS_PEEK snapshots a sequence entry. -/
  | seqPeek (req : Requester) (index : Fin 8192) (underpaint : Bool)
  /-- SEQ_DBG_READ (R365): SEQ_DBG_CTRL.GO reads 64 bytes of an easel's bonded memory. -/
  | seqDbgRead (req : Requester) (easel : Fin 64) (underpaint : Bool) (ecc : Option EccEvent)
  /-- OUTPUT_RING_HEAD_WRITE (R350): An advance of SEQ_OR_HEAD frees room and may retry a build. -/
  | outputRingHeadWrite (req : Requester) (ring : Fin 64) (head : BitVec 16)
  /-- EMB_ENABLE (R368): EMB_EAS_CTRL.ENABLE copies and checks the table directory. -/
  | embEnable (req : Requester)
  /-- EMB_GATHER (R371): An EMB_GATHER request is admitted and checked. -/
  | embGather (easel : Fin 64) (host : Blob)
  /-- EMB_LAUNCH (R372): A gather request launches once its WAIT and accumulator space are available. -/
  | embLaunch (engine : Fin 3) (easel : Fin 64)
  /-- EMB_ROW_ARRIVAL (R374): A row arrives and is pooled in list order. `id`: the request; `row`: the global index of a local row. -/
  | embRowArrival (id row : Nat) (ecc : Option EccEvent)
  /-- EMB_DEADLINE (R376): The request deadline expires and outstanding rows are missing. -/
  | embDeadline (id : Nat)
  /-- EMB_COMPLETE (R380): All output writes complete and the record is posted. -/
  | embComplete (id cycles : Nat)
  /-- YAROZ_REQ (R398): A REQ packet is accepted and queued in PSN order. -/
  | yarozReq (path : Fin 24) (frame : YzFrame)
  /-- YZF_LOAD (R394): A LOAD operation reads the target easel's bonded memory. The connection's next operation; `busy`: its granule is being served. -/
  | yzfLoad (slot : Fin 16) (rank : Fin 4096) (busy : Bool) (ecc : Option EccEvent)
  /-- YZF_STORE (R394): A STORE operation writes the target easel's bonded memory. -/
  | yzfStore (slot : Fin 16) (rank : Fin 4096) (busy : Bool)
  /-- YZF_ATOMIC (R395): An ATOMIC operation updates a word indivisibly. -/
  | yzfAtomic (slot : Fin 16) (rank : Fin 4096) (busy : Bool) (ecc : Option EccEvent)
  /-- YZF_PROBE (R397): A PROBE returns health, generation and epoch. -/
  | yzfProbe (slot : Fin 16) (rank : Fin 4096)
  /-- HOME_QUEUE_SERVE (R406): A queued operation reaches the head of its granule and executes. `pos`: the place in the home queue. -/
  | homeQueueServe (pos : Nat) (ecc : Option EccEvent)
  /-- YAROZ_RESP (R396): A RESP packet completes operations at the requester by status. -/
  | yarozResp (path : Fin 24) (frame : YzFrame)
  /-- YAROZ_ACK (R398): An ACK acknowledges packets cumulatively. -/
  | yarozAck (path : Fin 24) (frame : YzFrame)
  /-- YAROZ_NAK (R399): A NAK triggers immediate retransmission. -/
  | yarozNak (path : Fin 24) (frame : YzFrame)
  /-- YAROZ_CREDIT (R400): A CREDIT packet grants packets to the requester. -/
  | yarozCredit (path : Fin 24) (frame : YzFrame)
  /-- RETRANSMIT_TIMEOUT (R399): An unacknowledged packet times out and is retransmitted. -/
  | retransmitTimeout (slot : Fin 16) (rank : Fin 4096) (psn : BitVec 24)
  /-- LINK_REPLAY (R399): A DIRECT link replays frames from LACK + 1. -/
  | linkReplay (link : Fin 16) (lack : BitVec 16)
  /-- PATH_PROBE (R401): A withdrawn path is probed every 100 µs and restored when acknowledged. -/
  | pathProbe (slot : Fin 16) (rank : Fin 4096) (path : Fin 24) (acked : Bool)
  /-- YAROZ_LINK_DOWN (R401): A Yaroz link loses its lanes and outstanding packets go to another path. -/
  | yarozLinkDown (link : Fin 16)
  /-- FENCE_TIMEOUT (R403): A fence waits FENCE_US and completes with FENCE_TIMEOUT. -/
  | fenceTimeout (ch : Fin 2048)
  /-- DEAD_TIMER_EXPIRY (R404): An operation's dead timer reaches DEAD_US and it completes with DEAD_TARGET. -/
  | deadTimerExpiry (tag : BitVec 32)
  /-- RETRY_AFTER_REISSUE (R396): After a RETRY_AFTER wait the operation is reissued. -/
  | retryAfterReissue (tag : BitVec 32)
  /-- GEN_AHEAD_REISSUE (R396): 10 µs after GEN_AHEAD the operation is reissued. -/
  | genAheadReissue (tag : BitVec 32)
  /-- EPOCH_REISSUE (R414): An operation held for an epoch mismatch is reissued. -/
  | epochReissue (tag : BitVec 32)
  /-- MCAST_LOAD (R407): YZF_EAS_MCAST_CTRL.LOAD copies and checks the multicast table. -/
  | mcastLoad (req : Requester)
  /-- MCAST_PRUNE (R409): A window full for HOLD_US prunes slow receivers. -/
  | mcastPrune (ch : Fin 2048) (rank : Fin 4096)
  /-- TOMBSTONE_DRAINED (R412): A tombstone with no arrivals for 100 µs and no unacknowledged MOVED becomes DRAINED. -/
  | tombstoneDrained (slot : Fin 16)
  /-- TOMBSTONE_EXPIRED (R412): A tombstone not drained within 2 ms becomes EXPIRED. -/
  | tombstoneExpired (slot : Fin 16)
  /-- ETH_FRAME_RX (R425): A received frame is classified and dispatched. `bytes`: the frame without its FCS; `fcs`: the FCS is good; `stamp`: the MAC receive timestamp in 2^-16 ns; `fecCe`, `fecUe`: codewords the port's FEC corrected and could not correct since the last frame. -/
  | ethFrameRx (sub : Fin 32) (bytes : List Nat) (fcs : Bool) (stamp : Nat) (fecCe fecUe : Nat)
  /-- TX_RECORD_HEAD (R430): A transmit record reaches the head of its flow and is checked. -/
  | txRecordHead (flow : Fin 8192) (ecc : Option EccEvent)
  /-- QUEUED_FRAME_START (R448): At an idle start slot the scheduler starts an eligible queued frame. `slot`: the start slot, as a multiple of the subport's slot interval. -/
  | queuedFrameStart (sub : Fin 32) (slot : Nat)
  /-- LAUNCH_FRAME_START (R434): A pending launch frame starts at the first slot after its launch time. -/
  | launchFrameStart (sub : Fin 32)
  /-- LAUNCH_FRAME_DROP (R436): A launch frame that cannot start within LATE_NS is dropped. -/
  | launchFrameDrop (sub : Fin 32)
  /-- SUBPORT_LINK_DOWN (R437): A subport link goes down. -/
  | subportLinkDown (sub : Fin 32)
  /-- SUBPORT_LINK_UP (R420): A subport link comes up. -/
  | subportLinkUp (sub : Fin 32)
  /-- QUEUE_SAMPLE (R456): Every 4 µs each flow's depth and delay are sampled into histograms. -/
  | queueSample
  /-- HISTOGRAM_CLEAR (R457): EGS_Q_CTRL.CLEAR zeroes a flow's histograms. -/
  | histogramClear (req : Requester)
  /-- TOD_SET (R469): TOD_CTRL.SET captures a value for a step at the next 1 µs boundary. -/
  | todSet (req : Requester)
  /-- TOD_SET_PPS (R469): TOD_CTRL.SET_PPS captures a value for a step at the next PPS_IN edge. -/
  | todSetPps (req : Requester)
  /-- TOD_STEP (R465): A pending step lands at a boundary with no cell RUNNING. -/
  | todStep
  /-- TOD_SOURCE_WRITE (R469): A write of TOD_CFG.SOURCE changes the reference and state. -/
  | todSourceWrite (req : Requester) (source : BitVec 2) (txHold : BitVec 16)
  /-- FRAME_OFFSET_WRITE (R466): A write of TOD_FRAME_OFS while no cell runs. -/
  | frameOffsetWrite (req : Requester) (value : BitVec 32)
  /-- TOD_LOCKED (R467): The offset stays within ±20 ns for 10 s and the state becomes LOCKED. -/
  | todLocked
  /-- SOURCE_LOST (R467): The source is lost for 2 s and the state changes. -/
  | sourceLost
  /-- HOLDOVER_LIMIT (R467): HOLDOVER lasts 14,400 s and the state becomes FREERUN. -/
  | holdoverLimit
  /-- PTP_SYNC_RX (R472): A Sync message is received and time-stamped. `stamp`: the MAC stamp in 2^-16 ns. -/
  | ptpSyncRx (sub : Fin 32) (frame : List Nat) (stamp : Nat)
  /-- PTP_FOLLOW_UP_RX (R472): A Follow_Up message supplies the two-step origin. -/
  | ptpFollowUpRx (sub : Fin 32) (frame : List Nat)
  /-- PTP_DELAY_REQ_RX (R474): A Delay_Req is received and answered with Delay_Resp. -/
  | ptpDelayReqRx (sub : Fin 32) (frame : List Nat) (stamp : Nat)
  /-- PTP_DELAY_RESP_RX (R472): A Delay_Resp completes a delay measurement. -/
  | ptpDelayRespRx (sub : Fin 32) (frame : List Nat)
  /-- PTP_ANNOUNCE_RX (R472): An Announce message feeds best-master selection. -/
  | ptpAnnounceRx (sub : Fin 32) (frame : List Nat)
  /-- PTP_SYNC_TX (R474): A Sync is queued as a launch frame at the message rate. `launch`: the launch time L the time block chooses, in ns. -/
  | ptpSyncTx (sub : Fin 32) (launch : Nat)
  /-- PTP_DELAY_REQ_TX (R474): A Delay_Req is queued as a launch frame. -/
  | ptpDelayReqTx (sub : Fin 32) (launch : Nat)
  /-- PTP_ANNOUNCE_TX (R472): An Announce is sent at the message rate. -/
  | ptpAnnounceTx (sub : Fin 32) (launch : Nat)
  /-- ESMC_RX (R476): An ESMC PDU updates a subport's quality level. -/
  | esmcRx (sub : Fin 32) (frame : List Nat)
  /-- ESMC_INFO_TX (R476): ESMC information PDUs are sent once per second. `event`: an event PDU. -/
  | esmcInfoTx (sub : Fin 32) (launch : Nat) (event : Bool)
  /-- PPS_IN_EDGE (R479): A rising edge on PPS_IN is stamped and counted. `stamp`: the counter at the edge, in 2^-16 ns. -/
  | ppsInEdge (stamp : Nat)
  /-- PPS_OUT_RISE (R478): PPS_OUT rises at each whole second plus PPS_OFS. -/
  | ppsOutRise
  /-- PPS_OUT_FALL (R478): PPS_OUT falls WIDTH_US after its rise. -/
  | ppsOutFall
  /-- ALARM_FIRE (R480): An alarm reaches ALM_TIME and signals its link. -/
  | alarmFire (k : Fin 16)
  /-- CXL_LINK_TRAINING (R485): The CXL link trains to a rate, width and mode. `rate`: 0 below 32 GT/s, 1 32, 2 64, 3 128 GT/s; `width`: lanes; `flit256`: 256-byte flits were agreed. -/
  | cxlLinkTraining (rate : Fin 4) (width : Fin 17) (flit256 lopt : Bool)
  /-- VF_ENABLE (R486): VF Enable is set and tenant easels leave easel reset. `num`: NumVFs. -/
  | vfEnable (num : Nat)
  /-- VF_DISABLE (R486): VF Enable is cleared and tenant easels enter easel reset. -/
  | vfDisable
  /-- VF_FLR (R487): An FLR of a VF resets its easel. -/
  | vfFlr (n : Fin 64)
  /-- PF_FLR (R487): An FLR of PF0 clears VF Enable, easel 0 rings and FAPI queue pairs. -/
  | pfFlr
  /-- ATS_INVALIDATION (R489): An ATS invalidation completes accesses using the old translation. `pages`: the 4 KiB page numbers invalidated; `refused`: those of them that the host now refuses to translate. -/
  | atsInvalidation (fn : Fin 64) (pages refused : List Nat)
  /-- FAPI_POLL (R495): Every 2 µs the device reads a queue pair's control line and fetches requests. `line`, `ring`: the control line and the request ring as the host holds them. -/
  | fapiPoll (qp : Fin 64) (line ring : Blob)
  /-- FQ_ENABLE (R494): FQ_RQ_CFG.ENABLE starts serving a queue pair from the control line offsets. -/
  | fqEnable (req : Requester) (qp : Fin 64) (line : Blob)
  /-- CXL_MEM_REQUEST (R500): A host CXL.mem request is served or refused. -/
  | cxlMemRequest (easel : Fin 64) (off : Nat) (acc : CxlMemOp) (ecc : Option EccEvent)
  /-- IDE_FAILURE (R503): An IDE integrity check fails and the stream becomes insecure. 0 CXL.cachemem, 1 the CXL.io link stream, 2 and 3 the selective streams. -/
  | ideFailure (stream : Fin 4)
  /-- IDE_REQUIRE (R504): Setting CXL_IDE_POLICY.REQUIRE enforces secure streams. -/
  | ideRequire (req : Requester)
  /-- DL_DOWN (R506): A transition to DL_Down acts as a hot reset. -/
  | dlDown
  /-- MSI_MODERATION_TIMER (R502): TIME µs after an unsignalled record the vector fires. -/
  | msiModerationTimer (easel : Fin 64) (vec : Fin 2)
  /-- FREEZE (R515): FREEZE stops admission at the next step boundary and drains the easel. -/
  | freeze (req : Requester) (key : BitVec 8)
  /-- FREEZE_DRAINED (R515): The easel's work has drained and it becomes FROZEN. -/
  | freezeDrained (easel : Fin 64)
  /-- FREEZE_BOUND_EXPIRY (R515): FREEZING lasts EAS_FREEZE_US and the easel becomes STUCK. -/
  | freezeBoundExpiry (easel : Fin 64)
  /-- THAW (R517): THAW returns the easel to READY. -/
  | thaw (req : Requester) (key : BitVec 8)
  /-- SAVE (R518): SAVE starts writing the frozen easel's image to host memory. -/
  | save (req : Requester) (key : BitVec 8)
  /-- SAVE_DONE (R518): The image save completes or fails. `fail`: a write of the image could not be made. -/
  | saveDone (easel : Fin 64) (fail : Bool)
  /-- RESTORE (R519): RESTORE starts reading an image into the easel. `hdr`: the image's header as it is read. -/
  | restore (req : Requester) (key : BitVec 8) (hdr : Blob)
  /-- RESTORE_DONE (R519): The restore completes or fails. `image`: the image's bytes; `fail`: a read of it could not be made. -/
  | restoreDone (easel : Fin 64) (image : Blob) (fail : Bool)
  /-- RESET (R514): The RESET operation puts the easel through HELD and CLEARING. -/
  | reset (req : Requester) (key : BitVec 8)
  /-- EASEL_RESET_RELEASE (R513): The last easel-reset source releases and clearing starts. -/
  | easelResetRelease (easel : Fin 64)
  /-- CLEARING_DONE (R521): Clearing ends and the easel becomes READY. -/
  | clearingDone (easel : Fin 64)
  /-- TC_CLOCK_GATE (R526): An idle T-core enters clock gating after its dwell. -/
  | tcClockGate (core : Fin 48)
  /-- TC_POWER_GATE (R526): A clock-gated T-core enters power gating after its dwell. -/
  | tcPowerGate (core : Fin 48)
  /-- STACK_SELF_REFRESH_ENTRY (R526): An idle stack enters self-refresh after its dwell. -/
  | stackSelfRefreshEntry (stack : Fin 18)
  /-- LANE_SLEEP (R526): An idle DIRECT Yaroz link enters lane sleep after its dwell. -/
  | laneSleep (link : Fin 16)
  /-- POWER_WAKE (R530): A wake trigger starts a resource's exit from its power state. `peer`: the link's peer asks to wake. -/
  | powerWake (res : PowRes) (peer : Bool)
  /-- WAKE_EXIT_DONE (R530): A resource's exit completes and waiting work launches. -/
  | wakeExitDone (res : PowRes)
  /-- WAKE_BUDGET_WRITE (R527): A write of PWR_EAS_WAKE changes an easel's wake budget. -/
  | wakeBudgetWrite (req : Requester) (us : BitVec 16)
  /-- DIE_SENSOR_READING (R532): Die sensors are read every 10 µs. `temps`: the 64 die readings in 0.25 °C; `bad`: sensors out of range or stuck. -/
  | dieSensorReading (temps : List Nat) (bad : List Nat)
  /-- COOLANT_READING (R532): Coolant inlet and outlet are read over I3C every 10 ms. In 0.25 °C. -/
  | coolantReading (inlet outlet : Nat)
  /-- COOLANT_SENSOR_LOSS (R533): A coolant sensor fails to answer for 50 ms or reads out of range. -/
  | coolantSensorLoss (outlet : Bool)
  /-- DRIVE_ADJUST (R536): Every 10 ms the drive level is raised, lowered or held. -/
  | driveAdjust
  /-- ADMISSION_EVALUATE (R540): Every 1 ms the device predicts temperatures, estimates power and sets the admission level. `est`: the power estimate in W; `prad`: each zone's radio power in the last 1 ms, in W. -/
  | admissionEvaluate (est : Nat) (prad : List Nat)
  /-- ESCALATION_END (R537): After 100 ms of margin escalation ends. -/
  | escalationEnd
  /-- PUMP_FAILURE (R538): The tachometer reads below 1,200 rpm for 1 s at high duty. -/
  | pumpFailure (rpm : BitVec 16)
  /-- PUMP_FAIL_CLEAR (R538): PF0 clears CLM_DRIVE.PUMP_FAIL. -/
  | pumpFailClear (req : Requester)
  /-- HOLDUP_SAMPLE (R543): Every 1 ms the hold-up bank voltage is read and charging controlled. -/
  | holdupSample (mv : BitVec 16)
  /-- PUSH_START (R556): TRU_MBX_CTRL.START begins a host push. -/
  | pushStart (req : Requester)
  /-- PUSH_DONE (R556): TRU_MBX_CTRL.DONE delivers the requested image bytes. -/
  | pushDone (req : Requester)
  /-- PUSH_ABORT (R557): TRU_MBX_CTRL.ABORT ends the push. -/
  | pushAbort (req : Requester)
  /-- PUSH_REQUEST_TIMEOUT (R557): A push request unanswered for 1 s ends the push. -/
  | pushRequestTimeout
  /-- SVN_COMMIT (R560): SVN_COMMIT raises SVN_MIN to the running SVN. -/
  | svnCommit (req : Requester) (key : BitVec 8)
  /-- UPDATE_GO (R561): TRU_UPD_CTRL.GO starts fetching a flash update image. -/
  | updateGo (req : Requester)
  /-- UPDATE_FETCH_DONE (R561): The update image is fetched, checked and programming begins. `image`: the bytes read; `fail`: a read failed. -/
  | updateFetchDone (image : Blob) (fail : Bool)
  /-- UPDATE_PROGRAM_DONE (R561): Programming and read-back complete. `differs`: the read-back differed. -/
  | updateProgramDone (differs : Bool)
  /-- GRANT_GO (R566): TRU_GRANT_CTRL.GO fetches a debug grant. -/
  | grantGo (req : Requester)
  /-- GRANT_VERDICT (R566): The fetched grant is checked and made active or refused. `grant`: the 256 bytes read; `fail`: the read failed. -/
  | grantVerdict (grant : Blob) (fail : Bool)
  /-- GRANT_REVOKE (R568): REVOKE ends the grant in force. -/
  | grantRevoke (req : Requester)
  /-- GRANT_EXPIRY (R568): The grant's lifetime elapses and it ends. -/
  | grantExpiry
  /-- DEBUG_RESET (R567): TRU_DBG_RESET with DEBUG_RESET held causes a chip reset. -/
  | debugReset (req : Requester) (value : BitVec 32)
  /-- GET_VERSION (R563): SPDM GET_VERSION request. -/
  | getVersion (sess : Option (Fin 4))
  /-- GET_CAPABILITIES (R563): SPDM GET_CAPABILITIES request. -/
  | getCapabilities (sess : Option (Fin 4))
  /-- NEGOTIATE_ALGORITHMS (R563): SPDM NEGOTIATE_ALGORITHMS request. -/
  | negotiateAlgorithms (sess : Option (Fin 4))
  /-- GET_DIGESTS (R563): SPDM GET_DIGESTS request. `sess`: the secured session that carries the request, if one does. -/
  | getDigests (sess : Option (Fin 4))
  /-- GET_CERTIFICATE (R563): SPDM GET_CERTIFICATE request. -/
  | getCertificate (sess : Option (Fin 4)) (slot offset len : Nat)
  /-- CHALLENGE (R563): SPDM CHALLENGE request. -/
  | challenge (sess : Option (Fin 4)) (slot : Nat)
  /-- GET_MEASUREMENTS (R564): SPDM GET_MEASUREMENTS reports all indices from one H-cycle. `index`: 0 how many, 0xFF every one, else one of them. -/
  | getMeasurements (sess : Option (Fin 4)) (index : Nat) (signed : Bool)
  /-- KEY_EXCHANGE (R563): SPDM KEY_EXCHANGE request. -/
  | keyExchange (slot : Nat)
  /-- FINISH (R563): SPDM FINISH request. `good`: the requester's verification data holds. -/
  | finish (sess : Fin 4) (good : Bool)
  /-- END_SESSION (R563): SPDM END_SESSION request. -/
  | endSession (sess : Fin 4)
  /-- HEARTBEAT (R563): SPDM HEARTBEAT request. -/
  | heartbeat (sess : Fin 4)
  /-- KEY_UPDATE (R563): SPDM KEY_UPDATE request. -/
  | keyUpdate (sess : Fin 4)
  /-- IDE_KM (R503): An IDE_KM message over a secured session sets up or refreshes IDE keys. `stream`: the IDE stream whose keys are set: 0 CXL.cachemem, 1 the CXL.io link stream, 2 and 3 the selective streams. -/
  | ideKm (sess : Fin 4) (stream : Fin 4)
  /-- FOLD_WINDOW_END (R575): A corrected-fault record's 1 ms fold window ends and it is delivered. -/
  | foldWindowEnd
  /-- INJECT_ARM (R580): FLT_INJARM.ARM arms a detector's injection point. -/
  | injectArm (req : Requester)
  /-- INJECT_DISARM (R580): FLT_INJARM.DISARM disarms the injection point. -/
  | injectDisarm (req : Requester)
  /-- HEALTH_EVALUATION (R582): Every 1 s the penalty decays and the raw and published scores update. -/
  | healthEvaluation
  /-- QUARANTINE_ENTER (R585): FLT_QUAR_CTRL.ENTER holds every tenant easel in reset. -/
  | quarantineEnter (req : Requester) (key : BitVec 8)
  /-- QUARANTINE_LEAVE (R585): FLT_QUAR_CTRL.LEAVE releases tenant easels through clearing. -/
  | quarantineLeave (req : Requester) (key : BitVec 8)
  /-- SUPPLY_RESET_RELEASE (R600): Every rail has been above its reset level for 1 ms, so the power-on and supply reset sources release and bring-up may start. -/
  | supplyResetRelease
  /-- YAROZ_LINK_UP (R401): A Yaroz link trains its lanes and comes up, so its path becomes usable again. -/
  | yarozLinkUp (link : Fin 16) (lanes : Fin 5)
  /-- SYNCE_DPLL_LOCK (R476): The SyncE DPLL locks to its input subport's recovered clock, or loses it and enters holdover. -/
  | synceDpllLock (locked : Bool)
  /-- HOLDOVER_TX_LIMIT (R468): HOLD_S reaches TX_HOLD_S in HOLDOVER and TX_OK clears. -/
  | holdoverTxLimit
  /-- CONFIG_REQUEST (R80): A CXL configuration request from the host completes normally or with retry status, depending on sealing and host push. -/
  | configRequest (fn : Fin 64)
  /-- MSIX_VECTOR_UNMASK (R502): The host unmasks an MSI-X vector whose pending bit is set, and one message is sent. -/
  | msixVectorUnmask (fn : Fin 64) (vec : Fin 72)
  /-- TOD_NOW_FRAC_READ (R481): A read of TOD_NOW_FRAC snapshots the whole time-of-day counter for the same requester's next reads of NS_LO and NS_HI. -/
  | todNowFracRead (req : Requester)
  /-- JTAG_INSTRUCTION (R567): An instruction shifted in on the JTAG port runs boundary scan, or runs debug access only when the JTAG power is held. -/
  | jtagInstruction
  deriving DecidableEq, Repr

end Sys2Proof
end

