-- ==== Sys2Proof/Config.lean ====
section
/-! DEFINITION. Config.lean: the constants of the device that the spec leaves to the implementation and the free values it does not
state. Each is opaque: no proof can see what it is (notes/assumptions/ names each). -/
namespace Sys2Proof.Config

/-- The physical unit, within its stack, that an easel-relative unit of an easel was given (04 R97 to R99 name the stack and not the
unit): easel, unit. -/
opaque physUnit : Nat → Nat → Nat

/-- The physical scratchpad unit that an easel's unit lies in (05 R147 gives the easel-relative address only): T-core, easel, unit. -/
opaque physScratchUnit : Nat → Nat → Nat → Nat

/-- A byte of chunk 0 of an array's weights where the warm set was loaded in another format (05 R167 knows a set by easel and W_ADDR alone): the set's bytes, its format, the
command's format, the byte's place. -/
opaque warmByte : List Nat → Nat → Nat → Nat → BitVec 8

/-- What a block whose MXINT8 scale byte is 0xFF adds to an integer accumulator (06 R173 makes its elements NaN, R182 gives no
integer for NaN): applied to the block's sum of products. -/
opaque nanBlockInt : Int → Int

/-- The activation functions other than NONE and RELU where 05 R146 gives no bound (an input that is not finite, 1/0, the root of a negative number): function code, FP32 bits. -/
opaque actFn : Nat → BitVec 32 → BitVec 32

/-- Which of the FP32 values within 4 ulp an activation function answers (05 R146): function code, FP32 bits. -/
opaque actUlp : Nat → BitVec 32 → Fin 8

/-- The packets a requester may send to a rank before the first grant arrives (13 R400 gives the grants only). -/
opaque firstCredit : Nat

/-- The imaginary component −32,768 after an S-core conjugates it (07 R203, R215 give no result outside 16 bits): by the SAT bit. -/
opaque scConjMost : Bool → BitVec 16

/-- The lane that VPERM takes for a lane index of 32 or more (07 R203): by the index. -/
opaque scPermLane : Nat → BitVec 16

/-- A scalar shift by 32 or more (07 R203 states no result): right or left, value, count. -/
opaque scShiftOver : Bool → BitVec 32 → BitVec 32 → BitVec 32

/-- A component of a received PRB whose exponent lies above the range of 08 R259, so that it does not fit CI16: by mantissa width, exponent and mantissa. -/
opaque bfpOver : Nat → Nat → Nat → BitVec 16

/-- The message that the device sends the L2 in the formats of SCF FAPI, which the spec names and does not state (08 R239): the kind of FAPI.lean, cell, SFN, slot,
and what it reports. -/
opaque fapiMsg : Nat → Nat → Nat → Nat → List (List Nat) → List Nat

/-- What an LDPC decoder makes of a code block's soft values in some iterations (08 R248 names the base graphs and not the arithmetic): base graph, soft values,
iterations; every parity check holds, the CRC holds, the bits. -/
opaque ldpcDecode : Nat → List Int → Nat → Bool × Bool × List Nat

/-- The beam weights of an SRS estimate (08 R234 names them and not their arithmetic): the draw of the estimate, a PDU's handle, stream and antenna; 16-bit I and Q. -/
opaque beamWeight : Nat → Nat → Nat → Nat → BitVec 32

/-- A field of a C-plane message that 08 R260 does not state: which (0 reMask, 1 beamId, 2 timeOffset, 3 frameStructure, 4 cpLength, 5 frequencyOffset), cell, PDU's handle. -/
opaque cplaneField : Nat → Nat → Nat → Nat

/-- The SSB bursts of a slot after a CONFIG and an MIB (08 R265; SCF FAPI places them): CONFIG, MIB, SFN, slot; symbols, streams, first PRB and PRBs of each. -/
opaque ssbBursts : List Nat → Nat → Nat → Nat → List (Nat × Nat × Nat × Nat)

/-- What a radio program or a hard block finds in what it was given (08 "Uplink" names the results and not the algorithms): a number drawn afresh. -/
opaque radioResult : Nat → List Nat

/-- The filtered offset after a measured one (16 R467 names the filter and not its response): the previous filtered offset in 2^-8 ns, the measured
offset in 2^-16 ns. -/
opaque offsetFilter : Int → Int → Int

/-- The rate correction the servo sets, in parts per 10^12, within the bound it is given (16 R464): state, filtered offset. -/
opaque servoRate : Nat → Int → Int

/-- Best-master selection of G.8275.1 (16 R472): the state of a port, from the Announce messages of all ports: 6 MASTER, 7 PASSIVE, 9 SLAVE. -/
opaque portState : List (Nat × List Nat) → Nat → Nat

/-- The Announce fields that G.8275.1 prescribes for the clock's state and parent: clockClass, clockAccuracy, stepsRemoved, and the rest of the message. -/
opaque announce : Nat → List Nat → Nat × Nat × Nat × List Nat

/-- The order of ESMC quality levels, the best lowest (16 R476), and the level of an ESMC message. -/
opaque qlRank : Nat → Nat
opaque qlOf : List Nat → Nat

/-- An ESMC PDU (16 R476): event, quality level. -/
opaque esmcPdu : Bool → Nat → List Nat

/-- Whether a number that is not whole is shown rounded up: percentages and temperatures, for which 08 R267 and 19 R546 give no rounding. -/
opaque roundsUp : Rat → Bool

/-- The rate the SyncE DPLL gives the counter in HOLDOVER, in parts per 10^12 (16 R467 names the source and not its rate): a number drawn afresh. -/
opaque dpllRate : Nat → Int

/-- How many ns beyond the 1 µs of 16 R473 the time block puts between placing a frame of its own choosing and its launch time: a number drawn afresh. -/
opaque relayLead : Nat → Nat

/-- TRU_FUSE as manufacture left it (20 R549, R570 "per device"; its reserved bits read zero), and the fused digests: image-signing keys by slot, debug-authority keys by slot, the provisioning key. -/
opaque fuseWord : BitVec 32
opaque fuseRoot : Nat → List Nat
opaque fuseDebug : Nat → List Nat
opaque fuseProv : List Nat

/-- Whether an SM2 signature of GB/T 32918 holds (20 R550 names the standard): public key, message, signature. -/
opaque sm2Valid : List Nat → List Nat → List Nat → Bool

/-- The identity public key that the PUF yields with some helper data (20 R558). -/
opaque pufKey : List Nat → List Nat

/-- The version of the mask ROM, which measurement 1 covers (20 R564). -/
opaque romVersion : List Nat

/-- The certificate chain as SPDM sends and digests it (20 R563 names the standard): from the DER certificates of the identity record. -/
opaque spdmChain : List Nat → List Nat

/-- Translation misses counted, and the seconds left of a grant: what a register that counts by itself shows when it is read, drawn afresh. -/
opaque atcMisses : Nat → BitVec 16
opaque secondsLeft : Nat → Nat

/-- PHASE and SEQNO in the device log's copy of a record that its ring could not take (21 R578 states neither): a number drawn afresh. -/
opaque lostMark : Nat → Bool × Nat

/-- The boot nonce drawn at a sealing (02 "Retouch"), and the time an apply took in µs: numbers drawn afresh. -/
opaque bootNonce : Nat → BitVec 64
opaque applyTime : Nat → BitVec 32

/-- The weight exp((x − x_max)/TEMP) of a candidate where 11 R356 gives no bound (a value or TEMP that is not finite, TEMP below 0), in FP32 bits: x, x_max, TEMP in FP32 bits. -/
opaque seqExp : Nat → Nat → Nat → Nat

/-- Which of the FP32 values within 4 ulp the sampler answers for a weight (11 R356): x, x_max, TEMP in FP32 bits. -/
opaque seqUlp : Nat → Nat → Nat → Fin 8

/-- The status of a SEQ_SWAP whose copy failed (11 R349, R352 name none). -/
opaque swapFailStatus : Nat

/-- The section identifier that the C-plane gave the PRBs of a PDU (08 R256 sends zero samples "in their sections"): by the PDU's handle. -/
opaque sectionId : Nat → Nat

/-- What an easel's state holds after a restore where the image does not carry it (18 R518 lists the contents): a number drawn afresh. -/
opaque restored : Nat → Nat

/-- PARKED_CYC of a command that a core reset ends while parked (07 R227; the S-cycles are no part of the state): a number drawn afresh. -/
opaque parkedCycles : Nat → BitVec 32

/-- Bytes of an image written when a save stops with FETCH or SPACE (18 R518 gives no count): a number drawn afresh. -/
opaque saveProgress : Nat → Nat

end Sys2Proof.Config
end

