-- ==== Sys2Proof/Machine/SMap.lean ====
section
/-! DEFINITION. Machine/SMap.lean: the sparse map every table and memory of the state is held in: a list of key and value
pairs with strictly rising keys, no entry equal to what an unlisted key reads as, so that equal maps are equal data. -/
namespace Sys2Proof.Machine

/-- A sparse map: what an unlisted key reads as is the argument `d` of the operations. -/
abbrev SMap (α : Type) := List (Nat × α)

/-- The value at a key. -/
def SMap.get {α : Type} (d : Nat → α) : SMap α → Nat → α
  | [], x => d x
  | (k, v) :: r, x => if x = k then v else SMap.get d r x

/-- Insert or replace an entry, in the order of the keys. -/
def SMap.put {α : Type} (x : Nat) (a : α) : SMap α → SMap α
  | [] => [(x, a)]
  | (k, v) :: r => if x < k then (x, a) :: (k, v) :: r else if x = k then (x, a) :: r else (k, v) :: SMap.put x a r

/-- Remove the entry of a key. -/
def SMap.del {α : Type} (x : Nat) : SMap α → SMap α
  | [] => []
  | (k, v) :: r => if x = k then SMap.del x r else (k, v) :: SMap.del x r

/-- Write a value, in the order of the keys: writing what an unlisted key reads as removes the entry. -/
def SMap.set {α : Type} [DecidableEq α] (d : Nat → α) : SMap α → Nat → α → SMap α
  | [], x, a => if a = d x then [] else [(x, a)]
  | (k, v) :: r, x, a =>
    if x < k then (if a = d x then SMap.del x ((k, v) :: r) else (x, a) :: (k, v) :: r)
    else if x = k then (if a = d x then SMap.del x r else (x, a) :: r)
    else (k, v) :: SMap.set d r x a

/-- Keep the entries whose key passes a test (a reset of part of a table). -/
def SMap.keep {α : Type} (p : Nat → Bool) (m : SMap α) : SMap α := m.filter (fun e => p e.1)

/-- Every key of the map is above a bound. -/
def SMap.above {α : Type} (b : Nat) (m : SMap α) : Bool := m.all (fun e => decide (b < e.1))

/-- The canonical form: strictly rising keys and no entry equal to what an unlisted key reads as. -/
def SMap.wf {α : Type} [DecidableEq α] (d : Nat → α) : SMap α → Bool
  | [] => true
  | (k, v) :: r => SMap.above k r && decide (v ≠ d k) && SMap.wf d r

/-- A sorted set of keys. -/
abbrev NSet := List Nat

/-- Add a member. -/
def NSet.add (x : Nat) : NSet → NSet
  | [] => [x]
  | k :: r => if x < k then x :: k :: r else if x = k then k :: r else k :: NSet.add x r

/-- Remove a member. -/
def NSet.remove (x : Nat) (m : NSet) : NSet := m.filter (fun k => decide (k ≠ x))

/-- Membership. -/
def NSet.has (x : Nat) (m : NSet) : Bool := m.any (fun k => decide (k = x))

/-- The canonical form of a set: strictly rising. -/
def NSet.wf : NSet → Bool
  | [] => true
  | k :: r => r.all (fun j => decide (k < j)) && NSet.wf r

end Sys2Proof.Machine
end

