-- ==== Sys2Proof/Machine/RegMap.lean ====
section
/-! DEFINITION. Machine/RegMap.lean: the register map of the device, transcribed from the register tables of spec/
(each block's rule is named beside its rows): where each register lies in BAR0, what it holds at reset, and which of its
bits take which access code (00 R6). A register of a replicated unit stands once, at the offset of its window (00 R7). A reset entry
"per canvas", "per stepping", "per device", "per seal" or "per detector" is 0 here: notes/assumptions/2.md names the choice. -/
namespace Sys2Proof.Machine

/-- A field of a register: the register's BAR0 offset, its lowest bit and its width (00 R6 tables). -/
structure Fld where
  off : Nat
  lo : Nat
  width : Nat
  deriving DecidableEq, Repr

/-- A register of the map, or an array of `count` like registers `stride` bytes apart: its reset word, and the masks of its
bits by access code (00 R6), and of every bit that belongs to a field; the others are reserved (00 R4). -/
structure RegRow where
  off : Nat
  stride : Nat
  count : Nat
  reset : Nat
  rw : Nat
  w1c : Nat
  w1s : Nat
  wo : Nat
  rws : Nat
  used : Nat
  deriving DecidableEq, Repr

/-- Which select register, or easel scope, chooses the unit a window reaches (00 R7, R10). -/
inductive Window where
  | global | stack | easel | tcore | tcoreEasel | score | scoreEasel | channel | port | flow | node | cell | detector | zone
  deriving DecidableEq, Repr

/-- The windows: first and last offset, and what chooses the unit (00 R7 and each chapter's register tables). -/
def windows : List (Nat × Nat × Window) :=
  [(0x40100, 0x401FF, .stack),
   (0x40200, 0x402FF, .easel),
   (0x100100, 0x1001FF, .tcore),
   (0x100200, 0x1002FF, .tcoreEasel),
   (0x140100, 0x1401FF, .score),
   (0x140200, 0x1402FF, .scoreEasel),
   (0x180100, 0x1801FF, .channel),
   (0x180500, 0x1805FF, .easel),
   (0x200100, 0x2001FF, .easel),
   (0x1C0100, 0x1C01FF, .easel),
   (0x1C0400, 0x1C0BFF, .easel),
   (0x1E0100, 0x1E01FF, .easel),
   (0x240400, 0x2404FF, .easel),
   (0x280100, 0x2801FF, .port),
   (0x280200, 0x2802FF, .flow),
   (0x2C0100, 0x2C01FF, .node),
   (0x2C0200, 0x2C02FF, .easel),
   (0x2C0400, 0x2C04FF, .flow),
   (0x300100, 0x30017F, .port),
   (0x3C0100, 0x3C01FF, .cell),
   (0x340100, 0x3401FF, .detector),
   (0x340200, 0x3402FF, .easel),
   (0x400200, 0x4002FF, .easel),
   (0x30280, 0x302FF, .zone),
   (0x30400, 0x304FF, .easel)]

/-- The window an offset lies in. -/
def windowOf (off : Nat) : Window :=
  match windows.find? (fun w => decide (w.1 ≤ off ∧ off ≤ w.2.1)) with
  | some w => w.2.2
  | none => .global

/-- Rows ID_VENDOR to ID_PARAM2 (00 R2). -/
def regRows0 : List RegRow :=
  [⟨0x0, 4, 1, 0x9481F3A, 0x0, 0x0, 0x0, 0x0, 0x0, 0xFFFFFFFF⟩,
   ⟨0x4, 4, 1, 0x0, 0x0, 0x0, 0x0, 0x0, 0x0, 0xFFFF⟩,
   ⟨0x8, 4, 1, 0x6041003, 0x0, 0x0, 0x0, 0x0, 0x0, 0x7071F03⟩,
   ⟨0xC, 4, 1, 0x401008, 0x0, 0x0, 0x0, 0x0, 0x0, 0xFF1F0F⟩,
   ⟨0x10, 4, 1, 0xD440, 0x0, 0x0, 0x0, 0x0, 0x0, 0xFF7F⟩]

/-- Rows CVS_STATE to CVS_LIVE_DIG (02 R56). -/
def regRows1 : List RegRow :=
  [⟨0x10000, 4, 1, 0x0, 0x0, 0x0, 0x0, 0x0, 0x0, 0x3FF⟩,
   ⟨0x10004, 4, 1, 0x0, 0xFFFFFF, 0x0, 0x0, 0x0, 0xFFFFFF, 0xFFFFFF⟩,
   ⟨0x10008, 4, 1, 0x0, 0x0, 0x0, 0x0, 0x0, 0x0, 0xFFFFFFFF⟩,
   ⟨0x1000C, 4, 1, 0x0, 0x0, 0x0, 0x0, 0x0, 0x0, 0xFFFFFFFF⟩,
   ⟨0x10010, 4, 1, 0x0, 0x0, 0x0, 0x0, 0x0, 0x0, 0x1FFFFFF⟩,
   ⟨0x10014, 4, 1, 0x0, 0x0, 0x0, 0x0, 0x0, 0x0, 0xFFFFFFFF⟩,
   ⟨0x10018, 4, 1, 0x0, 0x3, 0x0, 0x0, 0x0, 0x3, 0x3⟩,
   ⟨0x1001C, 4, 1, 0x0, 0x0, 0x0, 0x0, 0x0, 0x0, 0xFFFFFFFF⟩,
   ⟨0x10020, 4, 8, 0x0, 0x0, 0x0, 0x0, 0x0, 0x0, 0xFFFFFFFF⟩,
   ⟨0x10040, 4, 1, 0x0, 0x0, 0xFFFF, 0x0, 0x0, 0x0, 0xFFFFF⟩,
   ⟨0x10044, 4, 1, 0x0, 0x0, 0x0, 0x0, 0x0, 0x0, 0x3FFFFFF⟩,
   ⟨0x10048, 4, 1, 0x0, 0x0, 0x0, 0x0, 0x0, 0x0, 0xFFFFFFFF⟩,
   ⟨0x1004C, 4, 1, 0x0, 0x0, 0x0, 0x0, 0x0, 0x0, 0xFFFFFFFF⟩,
   ⟨0x10100, 4, 1, 0x0, 0xFFFFFFFF, 0x0, 0x0, 0x0, 0x0, 0xFFFFFFFF⟩,
   ⟨0x10104, 4, 1, 0x0, 0xFFFFFFFF, 0x0, 0x0, 0x0, 0x0, 0xFFFFFFFF⟩,
   ⟨0x10108, 4, 1, 0x0, 0x1FFFFF, 0x0, 0x0, 0x0, 0x0, 0x1FFFFF⟩,
   ⟨0x1010C, 4, 1, 0x0, 0x0, 0x0, 0x0, 0xF1, 0x0, 0xF1⟩,
   ⟨0x10110, 4, 1, 0x0, 0x0, 0xFF00, 0x0, 0x0, 0x0, 0x1FFFFFFF⟩,
   ⟨0x10114, 4, 1, 0x0, 0x0, 0x0, 0x0, 0x0, 0x0, 0xFFFFFFFF⟩,
   ⟨0x10118, 4, 1, 0x0, 0x0, 0x0, 0x0, 0x0, 0x0, 0xF⟩,
   ⟨0x10200, 4, 32, 0x0, 0x0, 0x0, 0x0, 0x0, 0x0, 0xFFFFFFFF⟩]

/-- Rows CLK_STATUS to RST_LAST (03 R91). -/
def regRows2 : List RegRow :=
  [⟨0x20000, 4, 1, 0x0, 0x0, 0x0, 0x0, 0x0, 0x0, 0x3F⟩,
   ⟨0x20004, 4, 1, 0x20100804, 0x0, 0x0, 0x0, 0x0, 0x0, 0x3F3F3F3F⟩,
   ⟨0x20008, 4, 1, 0x0, 0xFF3F, 0x0, 0x0, 0x0, 0xFF3F, 0xFF3F⟩,
   ⟨0x20010, 4, 1, 0x1, 0x0, 0x3FFFFF, 0x0, 0x0, 0x0, 0x3FFFFF⟩,
   ⟨0x20014, 4, 1, 0x0, 0x0, 0x0, 0x0, 0x0, 0x0, 0x3FFFFF⟩,
   ⟨0x20018, 4, 1, 0x0, 0x0, 0x0, 0x0, 0x0, 0x0, 0xF7⟩,
   ⟨0x2001C, 4, 1, 0x1400, 0x0, 0x0, 0x0, 0x0, 0x0, 0xFF03⟩,
   ⟨0x20020, 4, 1, 0x0, 0x0, 0x0, 0x0, 0xFF011FF3, 0x0, 0xFF011FF3⟩,
   ⟨0x20024, 4, 1, 0x0, 0x0, 0x0, 0x0, 0x0, 0x0, 0xF⟩,
   ⟨0x20028, 4, 1, 0x0, 0x0, 0x0, 0x0, 0xFFFFFFFF, 0x0, 0xFFFFFFFF⟩,
   ⟨0x2002C, 4, 1, 0x0, 0x0, 0x0, 0x0, 0x0, 0x0, 0x3F⟩,
   ⟨0x20030, 4, 1, 0x0, 0x0, 0x0, 0x0, 0x0, 0x0, 0xFFFFFFFF⟩,
   ⟨0x20034, 4, 1, 0x1, 0x0, 0x0, 0x0, 0x0, 0x0, 0x3FFFFF⟩]

/-- Rows PWR_SUP_CFG to PWR_EAS_WAKE_WAIT (03 R92, 19 R545, 19 R546, 19 R547, 19 R548). -/
def regRows3 : List RegRow :=
  [⟨0x30000, 8, 7, 0xA7846, 0x0, 0x0, 0x0, 0x0, 0x0, 0xFFFFFF⟩,
   ⟨0x30004, 8, 7, 0x0, 0x0, 0x0, 0x0, 0x0, 0x0, 0xFFFF⟩,
   ⟨0x30040, 4, 1, 0x0, 0x0, 0x0, 0x0, 0x0, 0x0, 0x17F⟩,
   ⟨0x30044, 4, 1, 0x0, 0x0, 0x7F, 0x0, 0x0, 0x0, 0x7F⟩,
   ⟨0x30048, 4, 1, 0x0, 0x0, 0xFFFF, 0x0, 0x0, 0x0, 0xFFFF⟩,
   ⟨0x3004C, 4, 1, 0x0, 0x0, 0x0, 0x0, 0x0, 0x0, 0xFFFFFFFF⟩,
   ⟨0x30050, 4, 1, 0x0, 0x7F7F, 0x0, 0x0, 0x0, 0x7F7F, 0x7F7F⟩,
   ⟨0x30100, 4, 1, 0x0, 0x0, 0x7FF0000, 0x0, 0x0, 0x0, 0x7FF07FF⟩,
   ⟨0x30104, 4, 1, 0x6AE, 0x7FF, 0x0, 0x0, 0x0, 0x0, 0x7FF⟩,
   ⟨0x30108, 4, 1, 0x0, 0x0, 0x0, 0x0, 0x0, 0x0, 0x31F⟩,
   ⟨0x3010C, 4, 1, 0xFFFF, 0x0, 0x0, 0x0, 0x0, 0x0, 0xFFFF⟩,
   ⟨0x30110, 4, 3, 0x0, 0x0, 0x0, 0x0, 0x0, 0x0, 0xFFFFFFFF⟩,
   ⟨0x3011C, 4, 1, 0x0, 0x0, 0x0, 0x0, 0x0, 0x0, 0x3FFFF⟩,
   ⟨0x30120, 4, 1, 0x0, 0x0, 0x0, 0x0, 0x0, 0x0, 0xFFFF⟩,
   ⟨0x30124, 4, 1, 0x0, 0x0, 0x0, 0x0, 0x0, 0x0, 0xFFFFFFFF⟩,
   ⟨0x30200, 4, 1, 0x800555, 0x3FF0FFF, 0x0, 0x0, 0x0, 0x0, 0x3FF0FFF⟩,
   ⟨0x30204, 4, 1, 0x3FF, 0x0, 0x20000, 0x0, 0x0, 0x0, 0x703FF⟩,
   ⟨0x30208, 4, 1, 0x64, 0x0, 0x0, 0x0, 0x0, 0x0, 0xFFFF007F⟩,
   ⟨0x3020C, 4, 1, 0x64, 0x0, 0x0, 0x0, 0x0, 0x0, 0x7F⟩,
   ⟨0x30210, 4, 1, 0x0, 0x0, 0x0, 0x0, 0x0, 0x0, 0x3FF03FF⟩,
   ⟨0x30214, 4, 1, 0x0, 0x0, 0x0, 0x0, 0x0, 0x0, 0x1FFFFFFF⟩,
   ⟨0x30218, 4, 1, 0x0, 0x0, 0x0, 0x0, 0x0, 0x0, 0x7FFF03FF⟩,
   ⟨0x3021C, 4, 1, 0x10000, 0x0, 0x0, 0x0, 0x0, 0x0, 0x3FFFF⟩,
   ⟨0x30220, 4, 1, 0x1E001CC, 0x3FF03FF, 0x0, 0x0, 0x0, 0x0, 0x3FF03FF⟩,
   ⟨0x30224, 4, 1, 0x0, 0x0, 0xFFFFFFFF, 0x0, 0x0, 0x0, 0xFFFFFFFF⟩,
   ⟨0x30228, 4, 1, 0x0, 0x3FF7F, 0x0, 0x0, 0x0, 0x3FF7F, 0x3FF7F⟩,
   ⟨0x3022C, 4, 1, 0x0, 0x1F, 0x0, 0x0, 0x0, 0x0, 0x1F⟩,
   ⟨0x30280, 4, 1, 0x2BC, 0xFFFF, 0x0, 0x0, 0x0, 0x0, 0xFFFF⟩,
   ⟨0x30284, 4, 1, 0x28, 0xFF, 0x0, 0x0, 0x0, 0x0, 0xFF⟩,
   ⟨0x30288, 4, 1, 0x64, 0x3FF, 0x0, 0x0, 0x0, 0x0, 0x3FF⟩,
   ⟨0x3028C, 4, 1, 0x0, 0x0, 0x0, 0x0, 0x0, 0x0, 0x3FF⟩,
   ⟨0x30290, 4, 1, 0x0, 0x0, 0x0, 0x0, 0x0, 0x0, 0x3FF03FF⟩,
   ⟨0x30300, 4, 64, 0x0, 0x0, 0x0, 0x0, 0x0, 0x0, 0x3FF⟩,
   ⟨0x30400, 4, 1, 0x0, 0xFFFF, 0x0, 0x0, 0x0, 0x0, 0xFFFF⟩,
   ⟨0x30404, 4, 1, 0x0, 0x0, 0xFFFF, 0x0, 0x0, 0x0, 0xFFFF⟩]

/-- Rows MEM_STKSEL to MEM_EAS_FAULTS (04 R119, 04 R120, 04 R121). -/
def regRows4 : List RegRow :=
  [⟨0x40000, 4, 1, 0x0, 0x1F, 0x0, 0x0, 0x0, 0x0, 0x1F⟩,
   ⟨0x40004, 4, 1, 0x0, 0x0, 0x0, 0x0, 0x0, 0x0, 0x3FFFF⟩,
   ⟨0x40008, 4, 1, 0x0, 0x0, 0x3FFFF, 0x0, 0x0, 0x0, 0x3FFFF⟩,
   ⟨0x40010, 4, 1, 0x0, 0x0, 0x0, 0x0, 0x0, 0x0, 0x1F1F1F07⟩,
   ⟨0x40014, 4, 1, 0x0, 0x0, 0x0, 0x0, 0x0, 0x0, 0xFFFFFFFF⟩,
   ⟨0x40100, 4, 1, 0x0, 0x0, 0x0, 0x0, 0x0, 0x0, 0x1FFF⟩,
   ⟨0x40104, 4, 1, 0x0, 0x0, 0xFF00, 0x0, 0x0, 0x0, 0xFFFF⟩,
   ⟨0x40108, 4, 1, 0x0, 0x0, 0xFFFFFFFF, 0x0, 0x0, 0x0, 0xFFFFFFFF⟩,
   ⟨0x4010C, 4, 1, 0x0, 0x0, 0xFFFF, 0x0, 0x0, 0x0, 0xFFFF⟩,
   ⟨0x40110, 4, 1, 0x0, 0x0, 0x0, 0x0, 0x0, 0x0, 0xFFFFFFFF⟩,
   ⟨0x40114, 4, 1, 0x0, 0x0, 0x0, 0x0, 0x0, 0x0, 0xFF⟩,
   ⟨0x40118, 4, 1, 0x0, 0x0, 0x0, 0x0, 0x0, 0x0, 0xFFFF⟩,
   ⟨0x4011C, 4, 1, 0x0, 0x0, 0x0, 0x0, 0x0, 0x0, 0xFFFFFFFF⟩,
   ⟨0x40120, 4, 1, 0x0, 0x0, 0x0, 0x0, 0x0, 0x0, 0xFFFFFFFF⟩,
   ⟨0x40124, 4, 1, 0x0, 0x0, 0x0, 0x0, 0x0, 0x0, 0x7FFFF⟩,
   ⟨0x40200, 4, 1, 0x0, 0x0, 0x0, 0x0, 0x0, 0x0, 0x7FFFFF⟩,
   ⟨0x40204, 4, 1, 0x0, 0x0, 0x0, 0x0, 0x0, 0x0, 0x7FFFFF⟩,
   ⟨0x40208, 4, 1, 0x0, 0x0, 0x0, 0x0, 0x0, 0x0, 0x7FFFFF⟩,
   ⟨0x4020C, 4, 1, 0x0, 0x0, 0x0, 0x0, 0x0, 0x0, 0x1F3⟩,
   ⟨0x40210, 4, 1, 0x0, 0x7FFFFF, 0x0, 0x0, 0x0, 0x0, 0x7FFFFF⟩,
   ⟨0x40214, 4, 1, 0x0, 0x7FFFFF, 0x0, 0x0, 0x0, 0x0, 0x7FFFFF⟩,
   ⟨0x40218, 4, 1, 0x0, 0x0, 0x0, 0x0, 0x1, 0x0, 0x1⟩,
   ⟨0x4021C, 4, 1, 0x0, 0x0, 0x0, 0x0, 0x0, 0x0, 0x3⟩,
   ⟨0x40220, 4, 1, 0x0, 0x0, 0xFFFFFFFF, 0x0, 0x0, 0x0, 0xFFFFFFFF⟩]

/-- Rows TC_CORESEL to TC_EAS_ERRORS (05 R169, 05 R170, 05 R171). -/
def regRows5 : List RegRow :=
  [⟨0x100000, 4, 1, 0x0, 0x3F, 0x0, 0x0, 0x0, 0x0, 0x3F⟩,
   ⟨0x100004, 4, 1, 0x0, 0x0, 0x0, 0x0, 0x0, 0x0, 0xFFFFFFFF⟩,
   ⟨0x100008, 4, 1, 0x0, 0x0, 0x0, 0x0, 0x0, 0x0, 0xFFFF⟩,
   ⟨0x10000C, 4, 1, 0x0, 0x0, 0xFFFFFFFF, 0x0, 0x0, 0x0, 0xFFFFFFFF⟩,
   ⟨0x100010, 4, 1, 0x0, 0x0, 0xFFFF, 0x0, 0x0, 0x0, 0xFFFF⟩,
   ⟨0x100100, 4, 1, 0x0, 0x0, 0x0, 0x0, 0x0, 0x0, 0x1FF3FF7⟩,
   ⟨0x100104, 4, 1, 0x0, 0x0, 0x0, 0x0, 0x0, 0x0, 0x3F⟩,
   ⟨0x100108, 4, 1, 0x0, 0x0, 0x0, 0x0, 0x0, 0x0, 0xFFFFFFFF⟩,
   ⟨0x10010C, 4, 1, 0x0, 0x0, 0x0, 0x0, 0x0, 0x0, 0xFFFFFFFF⟩,
   ⟨0x100110, 4, 1, 0x0, 0x0, 0x0, 0x0, 0x0, 0x0, 0xFFFFFFFF⟩,
   ⟨0x100114, 4, 1, 0x0, 0x0, 0x0, 0x0, 0x0, 0x0, 0xFFFFFFFF⟩,
   ⟨0x100118, 4, 1, 0x0, 0x0, 0x0, 0x0, 0x0, 0x0, 0xFFFFFFFF⟩,
   ⟨0x10011C, 4, 1, 0x0, 0x0, 0x0, 0x0, 0x0, 0x0, 0xFFFFFFF⟩,
   ⟨0x100120, 4, 1, 0x0, 0x0, 0xFFFF, 0x0, 0x0, 0x0, 0xFFFF⟩,
   ⟨0x100124, 4, 1, 0x0, 0x0, 0xFFFFFFFF, 0x0, 0x0, 0x0, 0xFFFFFFFF⟩,
   ⟨0x100128, 4, 1, 0x0, 0x0, 0xFFFF, 0x0, 0x0, 0x0, 0xFFFF⟩,
   ⟨0x10012C, 4, 1, 0x0, 0x0, 0x0, 0x0, 0x0, 0x0, 0x7FFFFFFF⟩,
   ⟨0x100130, 4, 1, 0x0, 0x0, 0x0, 0x0, 0x0, 0x0, 0x3F⟩,
   ⟨0x100200, 4, 1, 0x0, 0x0, 0x0, 0x0, 0x0, 0x0, 0x1FF⟩,
   ⟨0x100204, 4, 1, 0x0, 0x0, 0x0, 0x0, 0x0, 0x0, 0x1FF⟩,
   ⟨0x100208, 4, 1, 0x0, 0x0, 0x0, 0x0, 0x0, 0x0, 0xFF⟩,
   ⟨0x10020C, 4, 1, 0x0, 0x0, 0x0, 0x0, 0x0, 0x0, 0xFF⟩,
   ⟨0x100210, 4, 1, 0x0, 0x0, 0x0, 0x0, 0x0, 0x0, 0xFF⟩,
   ⟨0x100214, 4, 1, 0x0, 0x0, 0x0, 0x0, 0x0, 0x0, 0xFFFFFFFF⟩,
   ⟨0x100218, 4, 1, 0x0, 0x0, 0xFFFF, 0x0, 0x0, 0x0, 0xFFFF⟩]

/-- Rows SC_CORESEL to SC_EAS_OVERRUNS (07 R231, 07 R232, 07 R233). -/
def regRows6 : List RegRow :=
  [⟨0x140000, 4, 1, 0x0, 0xFF, 0x0, 0x0, 0x0, 0x0, 0xFF⟩,
   ⟨0x140004, 4, 1, 0x0, 0x0, 0x0, 0x0, 0x0, 0x0, 0x1FFFF⟩,
   ⟨0x140008, 4, 6, 0x0, 0x0, 0xFFFFFFFF, 0x0, 0x0, 0x0, 0xFFFFFFFF⟩,
   ⟨0x140020, 4, 6, 0x0, 0x0, 0x0, 0x0, 0x0, 0x0, 0xFFFFFFFF⟩,
   ⟨0x140100, 4, 1, 0x0, 0x0, 0x0, 0x0, 0x0, 0x0, 0x1FFFF⟩,
   ⟨0x140104, 4, 1, 0x0, 0x0, 0x0, 0x0, 0x0, 0x0, 0x3F⟩,
   ⟨0x140108, 4, 1, 0x0, 0x0, 0x0, 0x0, 0x0, 0x0, 0x1FFFFF⟩,
   ⟨0x14010C, 4, 1, 0x0, 0x0, 0x0, 0x0, 0x0, 0x0, 0xFFF0FFF⟩,
   ⟨0x140110, 4, 1, 0x0, 0x0, 0x0, 0x0, 0x0, 0x0, 0xFFFFFFFF⟩,
   ⟨0x140114, 4, 1, 0x0, 0x0, 0x0, 0x0, 0x0, 0x0, 0xFFFFFFFF⟩,
   ⟨0x140118, 4, 1, 0x0, 0x0, 0x0, 0x0, 0x0, 0x0, 0xFFFFFFFF⟩,
   ⟨0x14011C, 4, 1, 0x0, 0x0, 0xFFFF0000, 0x0, 0x0, 0x0, 0xFFFFFFFF⟩,
   ⟨0x140120, 4, 1, 0x0, 0x0, 0x0, 0x0, 0x0, 0x0, 0x3FFFFFFF⟩,
   ⟨0x140124, 4, 1, 0x0, 0x0, 0x0, 0x0, 0x0, 0x0, 0xFFF⟩,
   ⟨0x140128, 4, 1, 0x0, 0x0, 0xFFFF, 0x0, 0x0, 0x0, 0xFFFF⟩,
   ⟨0x14012C, 4, 1, 0x0, 0x0, 0xFFFFFFFF, 0x0, 0x0, 0x0, 0xFFFFFFFF⟩,
   ⟨0x140130, 4, 1, 0x0, 0x0, 0xFFFFFFFF, 0x0, 0x0, 0x0, 0xFFFFFFFF⟩,
   ⟨0x140134, 4, 1, 0x0, 0x0, 0xFFFFFFFF, 0x0, 0x0, 0x0, 0xFFFFFFFF⟩,
   ⟨0x140200, 4, 1, 0x0, 0x0, 0x0, 0x0, 0x0, 0x0, 0x7F⟩,
   ⟨0x140204, 4, 1, 0x0, 0x0, 0x0, 0x0, 0x0, 0x0, 0x7F⟩,
   ⟨0x140208, 4, 1, 0x0, 0x0, 0x0, 0x0, 0x0, 0x0, 0x7F007F⟩,
   ⟨0x14020C, 4, 1, 0x0, 0x0, 0x0, 0x0, 0x0, 0x0, 0x1F001F⟩,
   ⟨0x140210, 4, 1, 0x0, 0x0, 0x0, 0x0, 0x0, 0x0, 0x1F007F⟩,
   ⟨0x140214, 4, 1, 0x0, 0x0, 0x0, 0x0, 0x0, 0x0, 0xFFFFFFFF⟩,
   ⟨0x140218, 4, 1, 0x0, 0x0, 0xFFFF, 0x0, 0x0, 0x0, 0xFFFF⟩,
   ⟨0x14021C, 4, 1, 0x0, 0x0, 0xFFFF, 0x0, 0x0, 0x0, 0xFFFF⟩]

/-- Rows STR_CHSEL to PAL_EAS_WAITS (09 R304, 09 R305, 09 R306). -/
def regRows7 : List RegRow :=
  [⟨0x180000, 4, 1, 0x0, 0x7FF, 0x0, 0x0, 0x0, 0x0, 0x7FF⟩,
   ⟨0x180004, 4, 1, 0x0, 0x0, 0x0, 0x0, 0x0, 0x0, 0x7F7F7F⟩,
   ⟨0x180008, 4, 1, 0x0, 0x0, 0x0, 0x0, 0x0, 0x0, 0x3F⟩,
   ⟨0x18000C, 4, 1, 0x0, 0x0, 0x0, 0x0, 0x0, 0x0, 0xFFF⟩,
   ⟨0x180010, 4, 1, 0x0, 0x0, 0x0, 0x0, 0x0, 0x0, 0xFFF⟩,
   ⟨0x180100, 4, 1, 0x0, 0x0, 0x0, 0x0, 0x0, 0x0, 0xF3F⟩,
   ⟨0x180104, 4, 1, 0x0, 0x0, 0x0, 0x0, 0x0, 0x0, 0xFFFF7FFF⟩,
   ⟨0x180108, 4, 1, 0x0, 0xFFFFFFFF, 0x0, 0x0, 0x0, 0x0, 0xFFFFFFFF⟩,
   ⟨0x18010C, 4, 1, 0x0, 0xFFFFFFFF, 0x0, 0x0, 0x0, 0x0, 0xFFFFFFFF⟩,
   ⟨0x180110, 4, 1, 0x0, 0x1FFFF, 0x0, 0x0, 0x0, 0x0, 0x1FFFF⟩,
   ⟨0x180114, 4, 1, 0x0, 0x0, 0x0, 0x0, 0xF, 0x0, 0xF⟩,
   ⟨0x180118, 4, 1, 0x0, 0x0, 0xFFFF, 0x0, 0x0, 0x0, 0xFFFF⟩,
   ⟨0x18011C, 4, 1, 0x0, 0x0, 0x0, 0x0, 0x0, 0x0, 0xFFFFFFFF⟩,
   ⟨0x180120, 4, 1, 0x0, 0x0, 0x0, 0x0, 0x0, 0x0, 0xFFFFFFFF⟩,
   ⟨0x180124, 4, 1, 0x0, 0x0, 0x0, 0x0, 0x0, 0x0, 0xFFFFFFFF⟩,
   ⟨0x180128, 4, 1, 0x0, 0x0, 0x0, 0x0, 0x0, 0x0, 0xFFFF1FFF⟩,
   ⟨0x18012C, 4, 1, 0x0, 0x0, 0x0, 0x0, 0x0, 0x0, 0xFFFFFFFF⟩,
   ⟨0x180130, 4, 1, 0x0, 0x0, 0x0, 0x0, 0x0, 0x0, 0xFFFFFFFF⟩,
   ⟨0x180134, 4, 1, 0x0, 0xFFFFFFFF, 0x0, 0x0, 0x0, 0x0, 0xFFFFFFFF⟩,
   ⟨0x180138, 4, 1, 0x0, 0x0, 0x10000, 0x0, 0x0, 0x0, 0x1FFFF⟩,
   ⟨0x18013C, 4, 1, 0x0, 0x0, 0x0, 0x0, 0x0, 0x0, 0x7FFF⟩,
   ⟨0x180140, 4, 1, 0x0, 0x0, 0x0, 0x0, 0x0, 0x0, 0x7FFF7FFF⟩,
   ⟨0x180400, 4, 1, 0x6000, 0x0, 0x0, 0x0, 0x0, 0x0, 0x7FFF⟩,
   ⟨0x180404, 4, 1, 0x0, 0x0, 0xFFFFFFFF, 0x0, 0x0, 0x0, 0xFFFFFFFF⟩,
   ⟨0x180408, 4, 1, 0x0, 0x0, 0xFFFF, 0x0, 0x0, 0x0, 0xFFFF⟩,
   ⟨0x180500, 4, 1, 0x0, 0x0, 0x0, 0x0, 0x0, 0x0, 0x7FFF⟩,
   ⟨0x180504, 4, 1, 0x0, 0x0, 0x0, 0x0, 0x0, 0x0, 0x7FFF⟩,
   ⟨0x180508, 4, 1, 0x0, 0x0, 0x0, 0x0, 0x0, 0x0, 0x7FFF⟩,
   ⟨0x18050C, 4, 1, 0x0, 0x0, 0x0, 0x0, 0x0, 0x0, 0x7FFF⟩,
   ⟨0x180510, 4, 1, 0x0, 0x0, 0xFFFF, 0x0, 0x0, 0x0, 0xFFFF⟩]

/-- Rows SEQ_STATUS to SEQ_OR_BASE_HI (11 R365, 11 R366, 11 R367). -/
def regRows8 : List RegRow :=
  [⟨0x1C0000, 4, 1, 0x0, 0x0, 0x0, 0x0, 0x0, 0x0, 0x13FFF⟩,
   ⟨0x1C0004, 4, 1, 0x0, 0x0, 0x0, 0x0, 0xFF1FFF7F, 0x0, 0xFF1FFF7F⟩,
   ⟨0x1C0008, 4, 1, 0x0, 0x1FFF, 0x0, 0x0, 0x0, 0x0, 0x1FFF⟩,
   ⟨0x1C0010, 4, 1, 0x0, 0x7F, 0x0, 0x0, 0x80, 0x0, 0xFF⟩,
   ⟨0x1C0014, 4, 1, 0x0, 0xFFFFFFFF, 0x0, 0x0, 0x0, 0x0, 0xFFFFFFFF⟩,
   ⟨0x1C0018, 4, 1, 0x0, 0xFFFFFFFF, 0x0, 0x0, 0x0, 0x0, 0xFFFFFFFF⟩,
   ⟨0x1C0040, 4, 16, 0x0, 0x0, 0x0, 0x0, 0x0, 0x0, 0xFFFFFFFF⟩,
   ⟨0x1C0100, 4, 1, 0x0, 0x3, 0x0, 0x0, 0x0, 0x0, 0x3⟩,
   ⟨0x1C0104, 4, 1, 0x0, 0x0, 0x0, 0x0, 0x0, 0x0, 0xF⟩,
   ⟨0x1C0108, 4, 1, 0x0, 0x0, 0x0, 0x0, 0x0, 0x0, 0xFFFFFFFF⟩,
   ⟨0x1C010C, 4, 1, 0x10000200, 0x7FFF3FFF, 0x0, 0x0, 0x0, 0x0, 0x7FFF3FFF⟩,
   ⟨0x1C0110, 4, 1, 0x0, 0x1FFFFF, 0x0, 0x0, 0x0, 0x0, 0x1FFFFF⟩,
   ⟨0x1C0114, 4, 1, 0x10, 0x3FFF3F, 0x0, 0x0, 0x0, 0x0, 0x3FFF3F⟩,
   ⟨0x1C0118, 4, 1, 0x0, 0x7FFFFF, 0x0, 0x0, 0x0, 0x0, 0x7FFFFF⟩,
   ⟨0x1C011C, 4, 1, 0x0, 0x7FFFFF, 0x0, 0x0, 0x0, 0x0, 0x7FFFFF⟩,
   ⟨0x1C0120, 4, 1, 0x0, 0x7FFFFF, 0x0, 0x0, 0x0, 0x0, 0x7FFFFF⟩,
   ⟨0x1C0124, 4, 1, 0x0, 0xFFFF, 0x0, 0x0, 0x0, 0x0, 0xFFFF⟩,
   ⟨0x1C0128, 4, 1, 0x0, 0x7FFFFF, 0x0, 0x0, 0x0, 0x0, 0x7FFFFF⟩,
   ⟨0x1C012C, 4, 1, 0x0, 0x7FFFFF, 0x0, 0x0, 0x0, 0x0, 0x7FFFFF⟩,
   ⟨0x1C0130, 4, 1, 0x0, 0xFFF0FFF, 0x0, 0x0, 0x0, 0x0, 0xFFF0FFF⟩,
   ⟨0x1C0134, 4, 1, 0x0, 0xFFF0FFF, 0x0, 0x0, 0x0, 0x0, 0xFFF0FFF⟩,
   ⟨0x1C0138, 4, 1, 0x0, 0xFFFFFFFF, 0x0, 0x0, 0x0, 0x0, 0xFFFFFFFF⟩,
   ⟨0x1C013C, 4, 1, 0x0, 0xFFFFFFFF, 0x0, 0x0, 0x0, 0x0, 0xFFFFFFFF⟩,
   ⟨0x1C0140, 4, 1, 0x0, 0xFFFFFF, 0x0, 0x0, 0x0, 0x0, 0xFFFFFF⟩,
   ⟨0x1C0144, 4, 1, 0x0, 0xFFF, 0x0, 0x0, 0x0, 0x0, 0xFFF⟩,
   ⟨0x1C0148, 4, 1, 0x0, 0x7FFFFF, 0x0, 0x0, 0x0, 0x0, 0x7FFFFF⟩,
   ⟨0x1C014C, 4, 1, 0x0, 0x0, 0x0, 0x0, 0x0, 0x0, 0x3FFF3FFF⟩,
   ⟨0x1C0150, 4, 1, 0x0, 0x0, 0x0, 0x0, 0x0, 0x0, 0x7FFFFF⟩,
   ⟨0x1C0154, 4, 1, 0x0, 0x0, 0x0, 0x0, 0x0, 0x0, 0xFFFFFFFF⟩,
   ⟨0x1C0158, 4, 1, 0x0, 0x0, 0x0, 0x0, 0x0, 0x0, 0xFFFFFFFF⟩,
   ⟨0x1C015C, 4, 1, 0x0, 0x0, 0x0, 0x0, 0x0, 0x0, 0xFFFFFFFF⟩,
   ⟨0x1C0160, 4, 1, 0x0, 0x0, 0x0, 0x0, 0x0, 0x0, 0xFFFFFFFF⟩,
   ⟨0x1C0164, 4, 1, 0x0, 0x0, 0x0, 0x0, 0x0, 0x0, 0xFFFFFFFF⟩,
   ⟨0x1C0168, 4, 1, 0x0, 0x0, 0x0, 0x0, 0x0, 0x0, 0xFFFFFFFF⟩,
   ⟨0x1C016C, 4, 1, 0x0, 0x0, 0xFFFFFFFF, 0x0, 0x0, 0x0, 0xFFFFFFFF⟩,
   ⟨0x1C0170, 4, 1, 0x0, 0x0, 0xFFFF, 0x0, 0x0, 0x0, 0xFFFF⟩,
   ⟨0x1C0174, 4, 1, 0x0, 0x0, 0x0, 0x0, 0x9FFF, 0x0, 0x9FFF⟩,
   ⟨0x1C0180, 4, 32, 0x0, 0x0, 0x0, 0x0, 0x0, 0x0, 0xFFFFFFFF⟩,
   ⟨0x1C0400, 32, 64, 0x0, 0xFFFFFFFF, 0x0, 0x0, 0x0, 0x0, 0xFFFFFFFF⟩,
   ⟨0x1C0404, 32, 64, 0x0, 0xFFFFFFFF, 0x0, 0x0, 0x0, 0x0, 0xFFFFFFFF⟩]

/-- Rows SEQ_OR_SIZE to SEQ_OR_TAIL (11 R367). -/
def regRows9 : List RegRow :=
  [⟨0x1C0408, 32, 64, 0x0, 0x11F, 0x0, 0x0, 0x0, 0x0, 0x11F⟩,
   ⟨0x1C040C, 32, 64, 0x0, 0xFFFF, 0x0, 0x0, 0x0, 0x0, 0xFFFF⟩,
   ⟨0x1C0410, 32, 64, 0x0, 0x0, 0x0, 0x0, 0x0, 0x0, 0xFFFF⟩]

/-- Rows EMB_ENG_STATUS to EMB_EAS_LATE (12 R382). -/
def regRows10 : List RegRow :=
  [⟨0x1E0000, 16, 3, 0x0, 0x0, 0x0, 0x0, 0x0, 0x0, 0x1FF3F3F⟩,
   ⟨0x1E0004, 16, 3, 0x0, 0x0, 0x0, 0x0, 0x0, 0x0, 0xFFFFFFFF⟩,
   ⟨0x1E0100, 4, 1, 0x0, 0x1, 0x0, 0x0, 0x0, 0x0, 0x1⟩,
   ⟨0x1E0104, 4, 1, 0x0, 0x0, 0x0, 0x0, 0x0, 0x0, 0x7F01⟩,
   ⟨0x1E0108, 4, 1, 0x0, 0x7FFFFF, 0x0, 0x0, 0x0, 0x0, 0x7FFFFF⟩,
   ⟨0x1E010C, 4, 1, 0x0, 0x7F, 0x0, 0x0, 0x0, 0x0, 0x7F⟩,
   ⟨0x1E0110, 4, 1, 0x0, 0x0, 0x0, 0x0, 0x0, 0x0, 0xFFFFFFFF⟩,
   ⟨0x1E0114, 4, 1, 0x0, 0x0, 0x0, 0x0, 0x0, 0x0, 0xFFFFFFFF⟩,
   ⟨0x1E0118, 4, 1, 0x0, 0x0, 0xFFFFFFFF, 0x0, 0x0, 0x0, 0xFFFFFFFF⟩,
   ⟨0x1E011C, 4, 1, 0x0, 0x0, 0xFFFF, 0x0, 0x0, 0x0, 0xFFFF⟩,
   ⟨0x1E0120, 4, 1, 0x0, 0x0, 0xFFFF, 0x0, 0x0, 0x0, 0xFFFF⟩]

/-- Rows EAS_SEL to EAS_RESETS (10 R338, 10 R339, 18 R525). -/
def regRows11 : List RegRow :=
  [⟨0x200000, 4, 1, 0x0, 0x3F, 0x0, 0x0, 0x0, 0x0, 0x3F⟩,
   ⟨0x200004, 4, 1, 0x0, 0x0, 0x0, 0x0, 0x0, 0x0, 0xFF0301⟩,
   ⟨0x200008, 4, 1, 0x0, 0x0, 0x0, 0x0, 0xFF000003, 0x0, 0xFF000003⟩,
   ⟨0x20000C, 4, 1, 0xA4100800, 0x0, 0x0, 0x0, 0x0, 0x0, 0xFFFFFFFF⟩,
   ⟨0x200010, 4, 1, 0x0, 0x0, 0xFFFFFFFF, 0x0, 0x0, 0x0, 0xFFFFFFFF⟩,
   ⟨0x200014, 4, 1, 0x0, 0x0, 0x0, 0x0, 0x0, 0x0, 0x7FF07FF⟩,
   ⟨0x200018, 4, 1, 0x0, 0x0, 0x0, 0x0, 0x0, 0x0, 0x7FF⟩,
   ⟨0x20001C, 4, 1, 0x0, 0x0, 0xFFFF, 0x0, 0x0, 0x0, 0xFFFF⟩,
   ⟨0x200100, 4, 1, 0x0, 0x0, 0x0, 0x0, 0x0, 0x0, 0x3FFFFF31⟩,
   ⟨0x200104, 4, 1, 0x0, 0x1, 0x0, 0x0, 0x0, 0x0, 0x1⟩,
   ⟨0x200108, 4, 1, 0x0, 0x0, 0x0, 0x0, 0x0, 0x0, 0xFFF0007⟩,
   ⟨0x20010C, 4, 1, 0x0, 0xFFFFFFFF, 0x0, 0x0, 0x0, 0x0, 0xFFFFFFFF⟩,
   ⟨0x200110, 4, 1, 0x0, 0xFFFFFFFF, 0x0, 0x0, 0x0, 0x0, 0xFFFFFFFF⟩,
   ⟨0x200114, 4, 1, 0x6, 0x11F, 0x0, 0x0, 0x0, 0x0, 0x11F⟩,
   ⟨0x200118, 4, 1, 0x0, 0xFFFF, 0x0, 0x0, 0x0, 0x0, 0xFFFF⟩,
   ⟨0x20011C, 4, 1, 0x0, 0x0, 0x0, 0x0, 0x0, 0x0, 0xFFFF⟩,
   ⟨0x200120, 4, 1, 0x0, 0xFFFFFFFF, 0x0, 0x0, 0x0, 0x0, 0xFFFFFFFF⟩,
   ⟨0x200124, 4, 1, 0x0, 0xFFFFFFFF, 0x0, 0x0, 0x0, 0x0, 0xFFFFFFFF⟩,
   ⟨0x200128, 4, 1, 0x6, 0x11F, 0x0, 0x0, 0x0, 0x0, 0x11F⟩,
   ⟨0x20012C, 4, 1, 0x0, 0xFFFF, 0x0, 0x0, 0x0, 0x0, 0xFFFF⟩,
   ⟨0x200130, 4, 1, 0x0, 0x0, 0x0, 0x0, 0x0, 0x0, 0xFFFF⟩,
   ⟨0x200134, 4, 1, 0x0, 0x0, 0x0, 0x0, 0x0, 0x0, 0xFFFFFFFF⟩,
   ⟨0x200138, 4, 1, 0x0, 0x0, 0xFFFF, 0x0, 0x0, 0x0, 0xFFFF⟩,
   ⟨0x200140, 4, 1, 0x0, 0x0, 0x0, 0x0, 0x0, 0x0, 0xF1F⟩,
   ⟨0x200144, 4, 1, 0x0, 0x0, 0x0, 0x0, 0xFF00000F, 0x0, 0xFF00000F⟩,
   ⟨0x200148, 4, 1, 0x0, 0x0, 0x0, 0x0, 0x0, 0x0, 0xFFF⟩,
   ⟨0x20014C, 4, 1, 0xC350, 0xFFFFF, 0x0, 0x0, 0x0, 0x0, 0xFFFFF⟩,
   ⟨0x200150, 4, 1, 0x0, 0xFFFFFFFF, 0x0, 0x0, 0x0, 0x0, 0xFFFFFFFF⟩,
   ⟨0x200154, 4, 1, 0x0, 0xFFFFFFFF, 0x0, 0x0, 0x0, 0x0, 0xFFFFFFFF⟩,
   ⟨0x200158, 4, 1, 0x0, 0xFFFFFFFF, 0x0, 0x0, 0x0, 0x0, 0xFFFFFFFF⟩,
   ⟨0x20015C, 4, 1, 0x0, 0xFFFFFFFF, 0x0, 0x0, 0x0, 0x0, 0xFFFFFFFF⟩,
   ⟨0x200160, 4, 1, 0x0, 0x0, 0x0, 0x0, 0x0, 0x0, 0xFFFFFFFF⟩,
   ⟨0x200164, 4, 1, 0x0, 0x0, 0x0, 0x0, 0x0, 0x0, 0xFFFFFFFF⟩,
   ⟨0x200168, 4, 1, 0x0, 0x0, 0x0, 0x0, 0x0, 0x0, 0xFFFFFFFF⟩,
   ⟨0x200170, 4, 8, 0x0, 0x0, 0x0, 0x0, 0x0, 0x0, 0xFFFFFFFF⟩,
   ⟨0x200190, 4, 1, 0x0, 0x0, 0xFFFF, 0x0, 0x0, 0x0, 0xFFFF⟩]

/-- Rows YZF_STATUS to YZF_EAS_MISSED (13 R417, 13 R418). -/
def regRows12 : List RegRow :=
  [⟨0x240000, 4, 1, 0x0, 0x0, 0x0, 0x0, 0x0, 0x0, 0x1FFFFFFF⟩,
   ⟨0x240004, 4, 1, 0x0, 0x0, 0x0, 0x0, 0x0, 0x0, 0xFF0FFFFF⟩,
   ⟨0x240008, 4, 1, 0x0, 0x0, 0x0, 0x0, 0x0, 0x0, 0xFFF⟩,
   ⟨0x24000C, 4, 1, 0x0, 0x0, 0x0, 0x0, 0x0, 0x0, 0xFFFFFFFF⟩,
   ⟨0x240010, 4, 1, 0x0, 0x0, 0x0, 0x0, 0x0, 0x0, 0xFFFF⟩,
   ⟨0x240014, 4, 1, 0x0, 0x0, 0x0, 0x0, 0x0, 0x0, 0xFFFFFFFF⟩,
   ⟨0x240018, 4, 1, 0x0, 0x0, 0x0, 0x0, 0x0, 0x0, 0xFFFF⟩,
   ⟨0x24001C, 4, 1, 0x0, 0x0, 0x1FFF0000, 0x0, 0x0, 0x0, 0x1FFF1FFF⟩,
   ⟨0x240020, 4, 1, 0x0, 0x0, 0xFFFFFFFF, 0x0, 0x0, 0x0, 0xFFFFFFFF⟩,
   ⟨0x240024, 4, 1, 0x0, 0x0, 0x0, 0x0, 0x0, 0x0, 0xFFFFFFFF⟩,
   ⟨0x240028, 4, 1, 0x0, 0x0, 0xFFFFFFFF, 0x0, 0x0, 0x0, 0xFFFFFFFF⟩,
   ⟨0x24002C, 4, 1, 0x0, 0x0, 0xFFFF, 0x0, 0x0, 0x0, 0xFFFF⟩,
   ⟨0x240040, 16, 16, 0x0, 0x0, 0x0, 0x0, 0x0, 0x0, 0xF7⟩,
   ⟨0x240044, 16, 16, 0x0, 0x0, 0xFFFF, 0x0, 0x0, 0x0, 0xFFFF⟩,
   ⟨0x240048, 16, 16, 0x0, 0x0, 0x0, 0x0, 0x0, 0x0, 0xFFFFFFFF⟩,
   ⟨0x24004C, 16, 16, 0x0, 0x0, 0x0, 0x0, 0x0, 0x0, 0xFFFFFFFF⟩,
   ⟨0x240140, 4, 1, 0x0, 0xFFF000F, 0x0, 0x0, 0x0, 0x0, 0xFFF000F⟩,
   ⟨0x240144, 4, 4, 0x0, 0x0, 0x0, 0x0, 0x0, 0x0, 0xFFFFFFFF⟩,
   ⟨0x240200, 32, 16, 0x0, 0x0, 0x0, 0x0, 0x0, 0x0, 0xFFFFFFFF⟩,
   ⟨0x240204, 32, 16, 0x0, 0x0, 0x0, 0x0, 0x0, 0x0, 0xFFFFFFFF⟩,
   ⟨0x240208, 32, 16, 0x0, 0x0, 0x0, 0x0, 0x0, 0x0, 0x1FFF0FFF⟩,
   ⟨0x24020C, 32, 16, 0x0, 0x0, 0x0, 0x0, 0x0, 0x0, 0xFFFFFFFF⟩,
   ⟨0x240210, 32, 16, 0x0, 0x0, 0x0, 0x0, 0x0, 0x0, 0xFFFFFFFF⟩,
   ⟨0x240214, 32, 16, 0x0, 0x0, 0xFFFF0000, 0x0, 0x0, 0x0, 0xFFFFFF03⟩,
   ⟨0x240218, 32, 16, 0x0, 0x0, 0x0, 0x0, 0x0, 0x0, 0xFFFFFFFF⟩,
   ⟨0x240400, 4, 1, 0x0, 0x0, 0x0, 0x0, 0x0, 0x0, 0x7F⟩,
   ⟨0x240404, 4, 1, 0x0, 0x7FFFFF, 0x0, 0x0, 0x0, 0x0, 0x7FFFFF⟩,
   ⟨0x240408, 4, 1, 0x0, 0x0, 0x0, 0x0, 0x1, 0x0, 0x1⟩,
   ⟨0x24040C, 4, 1, 0x0, 0x0, 0x0, 0x0, 0x0, 0x0, 0xFFFFFFFF⟩,
   ⟨0x240410, 4, 1, 0x0, 0x0, 0xFFFF, 0x0, 0x0, 0x0, 0xFFFF⟩,
   ⟨0x240414, 4, 1, 0x0, 0x0, 0xFFFF, 0x0, 0x0, 0x0, 0x7FFFFFF⟩,
   ⟨0x240418, 4, 1, 0x0, 0x0, 0x0, 0x0, 0x0, 0x0, 0x1FFF⟩,
   ⟨0x24041C, 4, 4, 0x0, 0x0, 0x0, 0x0, 0x0, 0x0, 0x1FFF1FFF⟩,
   ⟨0x24042C, 4, 1, 0x0, 0x0, 0xFFFFFFFF, 0x0, 0x0, 0x0, 0xFFFFFFFF⟩,
   ⟨0x240430, 4, 1, 0x0, 0x0, 0xFFFF, 0x0, 0x0, 0x0, 0xFFFFFFF⟩]

/-- Rows ETH_PORTSEL to FLW_TIMING (14 R440, 14 R441, 14 R442). -/
def regRows13 : List RegRow :=
  [⟨0x280000, 4, 1, 0x0, 0x7, 0x0, 0x0, 0x0, 0x0, 0x7⟩,
   ⟨0x280004, 4, 1, 0x0, 0x1FFF, 0x0, 0x0, 0x0, 0x0, 0x1FFF⟩,
   ⟨0x280008, 4, 1, 0x0, 0x0, 0x0, 0x0, 0x0, 0x0, 0xFFFFFFFF⟩,
   ⟨0x28000C, 4, 1, 0x0, 0x0, 0x0, 0x0, 0x0, 0x0, 0x3FFF⟩,
   ⟨0x280100, 4, 1, 0x0, 0x0, 0x0, 0x0, 0x0, 0x0, 0x3FFF001F⟩,
   ⟨0x280104, 4, 1, 0x0, 0x0, 0x0, 0x0, 0x0, 0x0, 0xFFF⟩,
   ⟨0x280108, 4, 1, 0x0, 0x0, 0xFFFFFFFF, 0x0, 0x0, 0x0, 0xFFFFFFFF⟩,
   ⟨0x28010C, 4, 1, 0x0, 0x0, 0xFFFF, 0x0, 0x0, 0x0, 0xFFFF⟩,
   ⟨0x280110, 8, 4, 0x0, 0x0, 0x0, 0x0, 0x0, 0x0, 0xFFFFFFFF⟩,
   ⟨0x280114, 8, 4, 0x0, 0x0, 0x0, 0x0, 0x0, 0x0, 0xFFFF⟩,
   ⟨0x280140, 16, 4, 0x0, 0x0, 0x0, 0x0, 0x0, 0x0, 0xFFFFFFFF⟩,
   ⟨0x280144, 16, 4, 0x0, 0x0, 0x0, 0x0, 0x0, 0x0, 0xFFFFFFFF⟩,
   ⟨0x280148, 16, 4, 0x0, 0x0, 0xFFFFFFFF, 0x0, 0x0, 0x0, 0xFFFFFFFF⟩,
   ⟨0x28014C, 16, 4, 0x0, 0x0, 0xFFFFFFFF, 0x0, 0x0, 0x0, 0xFFFFFFFF⟩,
   ⟨0x280200, 4, 1, 0x0, 0x0, 0x0, 0x0, 0x0, 0x0, 0x1FFFF7⟩,
   ⟨0x280204, 4, 1, 0x0, 0x0, 0x0, 0x0, 0x0, 0x0, 0xFFFF7FFF⟩,
   ⟨0x280208, 4, 1, 0x0, 0x0, 0x0, 0x0, 0x0, 0x0, 0xFFFFFFFF⟩,
   ⟨0x28020C, 4, 1, 0x0, 0x0, 0x0, 0x0, 0x0, 0x0, 0xFFFF⟩,
   ⟨0x280210, 4, 1, 0x0, 0x0, 0x0, 0x0, 0x0, 0x0, 0x7FFF7FFF⟩,
   ⟨0x280214, 4, 1, 0x0, 0x0, 0x0, 0x0, 0x0, 0x0, 0x7FFF⟩,
   ⟨0x280218, 4, 1, 0x0, 0x0, 0x0, 0x0, 0x0, 0x0, 0xFFFFFFFF⟩,
   ⟨0x28021C, 4, 1, 0x0, 0x0, 0xFFFFFFFF, 0x0, 0x0, 0x0, 0xFFFFFFFF⟩,
   ⟨0x280220, 4, 1, 0x0, 0x0, 0xFFFFFFFF, 0x0, 0x0, 0x0, 0xFFFFFFFF⟩,
   ⟨0x280224, 4, 1, 0x0, 0x0, 0xFFFFFFFF, 0x0, 0x0, 0x0, 0xFFFFFFFF⟩,
   ⟨0x280228, 4, 1, 0x0, 0x0, 0x0, 0x0, 0x0, 0x0, 0xFFFFFFFF⟩]

/-- Rows EGS_NODESEL to EGS_Q_LHIST (15 R459, 15 R460, 15 R461, 15 R462). -/
def regRows14 : List RegRow :=
  [⟨0x2C0000, 4, 1, 0x0, 0xFFF, 0x0, 0x0, 0x0, 0x0, 0xFFF⟩,
   ⟨0x2C0004, 4, 1, 0x0, 0x0, 0x0, 0x0, 0x0, 0x0, 0x1FFF⟩,
   ⟨0x2C0008, 4, 1, 0x0, 0x0, 0x0, 0x0, 0x0, 0x0, 0xFFFFFFFF⟩,
   ⟨0x2C000C, 4, 1, 0x0, 0x0, 0x0, 0x0, 0x0, 0x0, 0xFFFFFFFF⟩,
   ⟨0x2C0100, 4, 1, 0x0, 0x0, 0x0, 0x0, 0x0, 0x0, 0xFFF3F7F⟩,
   ⟨0x2C0104, 4, 1, 0x0, 0x0, 0x0, 0x0, 0x0, 0x0, 0xFFFFF⟩,
   ⟨0x2C0108, 4, 1, 0x0, 0x0, 0x0, 0x0, 0x0, 0x0, 0x1FFFFFF⟩,
   ⟨0x2C010C, 4, 1, 0x0, 0x0, 0x0, 0x0, 0x0, 0x0, 0xFFFFFFF⟩,
   ⟨0x2C0110, 4, 1, 0x0, 0x0, 0x0, 0x0, 0x0, 0x0, 0xFFFFFFFF⟩,
   ⟨0x2C0114, 4, 1, 0x0, 0x0, 0x0, 0x0, 0x0, 0x0, 0xFFFFFFFF⟩,
   ⟨0x2C0118, 4, 1, 0x0, 0x0, 0x0, 0x0, 0x0, 0x0, 0xFFFFFFFF⟩,
   ⟨0x2C011C, 4, 1, 0x0, 0x0, 0x0, 0x0, 0x0, 0x0, 0xFFFFFFFF⟩,
   ⟨0x2C0120, 4, 1, 0x0, 0x0, 0xFFFF, 0x0, 0x0, 0x0, 0xFFFF⟩,
   ⟨0x2C0200, 4, 1, 0x0, 0x0, 0x0, 0x0, 0x0, 0x0, 0x1FFFFF⟩,
   ⟨0x2C0204, 4, 1, 0x0, 0x0, 0x0, 0x0, 0x0, 0x0, 0x1FFFFF⟩,
   ⟨0x2C0208, 4, 1, 0x0, 0x0, 0x0, 0x0, 0x0, 0x0, 0x1FFFFF⟩,
   ⟨0x2C020C, 4, 1, 0x0, 0x0, 0x0, 0x0, 0x0, 0x0, 0xFFFFFFFF⟩,
   ⟨0x2C0210, 4, 1, 0x0, 0x0, 0x0, 0x0, 0x0, 0x0, 0xFFFFFFFF⟩,
   ⟨0x2C0214, 4, 1, 0x0, 0x0, 0x0, 0x0, 0x0, 0x0, 0xFFFFFFFF⟩,
   ⟨0x2C0400, 4, 1, 0x0, 0x0, 0x0, 0x0, 0x1, 0x0, 0x1⟩,
   ⟨0x2C0404, 4, 1, 0x0, 0x0, 0x0, 0x0, 0x0, 0x0, 0x7FFFFFF⟩,
   ⟨0x2C0408, 4, 1, 0x0, 0x0, 0x0, 0x0, 0x0, 0x0, 0xFFFFFFFF⟩,
   ⟨0x2C0440, 4, 16, 0x0, 0x0, 0x0, 0x0, 0x0, 0x0, 0xFFFFFFFF⟩,
   ⟨0x2C0480, 4, 16, 0x0, 0x0, 0x0, 0x0, 0x0, 0x0, 0xFFFFFFFF⟩]

/-- Rows TOD_NOW_FRAC to PTP_ALM_PERIOD (16 R482, 16 R483). -/
def regRows15 : List RegRow :=
  [⟨0x300000, 4, 1, 0x0, 0x0, 0x0, 0x0, 0x0, 0x0, 0xFFFF⟩,
   ⟨0x300004, 4, 1, 0x0, 0x0, 0x0, 0x0, 0x0, 0x0, 0xFFFFFFFF⟩,
   ⟨0x300008, 4, 1, 0x0, 0x0, 0x0, 0x0, 0x0, 0x0, 0xFFFFFFFF⟩,
   ⟨0x30000C, 4, 1, 0x0, 0x0, 0x0, 0x0, 0x0, 0x0, 0xFFFF003F⟩,
   ⟨0x300010, 4, 1, 0x0, 0xFFFF0003, 0x0, 0x0, 0x0, 0x0, 0xFFFF0003⟩,
   ⟨0x300014, 4, 1, 0x0, 0xFFFFFFFF, 0x0, 0x0, 0x0, 0x0, 0xFFFFFFFF⟩,
   ⟨0x300018, 4, 1, 0x0, 0xFFFFFFFF, 0x0, 0x0, 0x0, 0x0, 0xFFFFFFFF⟩,
   ⟨0x30001C, 4, 1, 0x0, 0x0, 0x0, 0x0, 0x3, 0x0, 0x3⟩,
   ⟨0x300020, 4, 1, 0xCF3CF3CF, 0x0, 0x0, 0x0, 0x0, 0x0, 0xFFFFFFFF⟩,
   ⟨0x300024, 4, 1, 0xF3, 0x0, 0x0, 0x0, 0x0, 0x0, 0xFF⟩,
   ⟨0x300028, 4, 1, 0x0, 0x0, 0x0, 0x0, 0x0, 0x0, 0xFFFFFFFF⟩,
   ⟨0x30002C, 4, 1, 0x0, 0x0, 0x0, 0x0, 0x0, 0x0, 0xFFFFFFFF⟩,
   ⟨0x300030, 4, 1, 0x0, 0xFFFFFFFF, 0x0, 0x0, 0x0, 0x0, 0xFFFFFFFF⟩,
   ⟨0x300034, 4, 1, 0x0, 0x0, 0xFFFF, 0x0, 0x0, 0x0, 0xFFFF⟩,
   ⟨0x300040, 4, 1, 0x0, 0x1FF, 0x0, 0x0, 0x0, 0x0, 0x1FF⟩,
   ⟨0x300044, 4, 1, 0x0, 0x0, 0x0, 0x0, 0x0, 0x0, 0xF1F3⟩,
   ⟨0x300048, 4, 1, 0x18, 0x3FFFF, 0x0, 0x0, 0x0, 0x0, 0x3FFFF⟩,
   ⟨0x30004C, 4, 1, 0xFEF8, 0x0, 0x0, 0x0, 0x0, 0x0, 0xFFFFFFFF⟩,
   ⟨0x300050, 4, 1, 0x640000, 0xFFFF0003, 0x0, 0x0, 0x0, 0x0, 0xFFFF0003⟩,
   ⟨0x300054, 4, 1, 0x0, 0xFFFFFFFF, 0x0, 0x0, 0x0, 0x0, 0xFFFFFFFF⟩,
   ⟨0x300058, 4, 1, 0x0, 0x0, 0x0, 0x0, 0x0, 0x0, 0xFFFFFFFF⟩,
   ⟨0x30005C, 4, 1, 0x0, 0x0, 0x0, 0x0, 0x0, 0x0, 0xFFFFFFFF⟩,
   ⟨0x300060, 4, 1, 0x0, 0x0, 0x0, 0x0, 0x0, 0x0, 0xFFFFFFFF⟩,
   ⟨0x300064, 4, 1, 0x0, 0x0, 0xFFFFFFFF, 0x0, 0x0, 0x0, 0xFFFFFFFF⟩,
   ⟨0x300100, 32, 4, 0x0, 0x7, 0x0, 0x0, 0x0, 0x0, 0x7⟩,
   ⟨0x300104, 32, 4, 0x1, 0x0, 0x0, 0x0, 0x0, 0x0, 0xF⟩,
   ⟨0x300108, 32, 4, 0x0, 0x0, 0x0, 0x0, 0x0, 0x0, 0xFFFFFFFF⟩,
   ⟨0x30010C, 32, 4, 0x0, 0xFFFFFFFF, 0x0, 0x0, 0x0, 0x0, 0xFFFFFFFF⟩,
   ⟨0x300110, 32, 4, 0x0, 0x0, 0x0, 0x0, 0x0, 0x0, 0xFFFFFFFF⟩,
   ⟨0x300114, 32, 4, 0x0, 0x0, 0x0, 0x0, 0x0, 0x0, 0xFFFFFFFF⟩,
   ⟨0x300118, 32, 4, 0x0, 0x0, 0x0, 0x0, 0x0, 0x0, 0xFFFFFFFF⟩,
   ⟨0x30011C, 32, 4, 0x0, 0x0, 0xFFFF, 0x0, 0x0, 0x0, 0xFFFF⟩,
   ⟨0x300200, 16, 16, 0x0, 0xFFFFFFFF, 0x0, 0x0, 0x0, 0x0, 0xFFFFFFFF⟩,
   ⟨0x300204, 16, 16, 0x0, 0xFFFFFFFF, 0x0, 0x0, 0x0, 0x0, 0xFFFFFFFF⟩,
   ⟨0x300208, 16, 16, 0x0, 0xFFF, 0x0, 0x0, 0x0, 0x0, 0xFFF⟩,
   ⟨0x30020C, 16, 16, 0x0, 0xFFFFFFFF, 0x0, 0x0, 0x0, 0x0, 0xFFFFFFFF⟩]

/-- Rows FLT_INJSEL to FLT_EAS_SUMMARY (21 R588, 21 R589, 21 R590). -/
def regRows16 : List RegRow :=
  [⟨0x340000, 4, 1, 0x0, 0xFF, 0x0, 0x0, 0x0, 0x0, 0xFF⟩,
   ⟨0x340004, 4, 1, 0x3E8, 0x0, 0x0, 0x0, 0x0, 0x0, 0x1FFF⟩,
   ⟨0x340008, 4, 1, 0x3E8, 0x0, 0x0, 0x0, 0x0, 0x0, 0x7FFF⟩,
   ⟨0x34000C, 4, 1, 0x0, 0x0, 0x0, 0x0, 0x0, 0x0, 0xFFFF⟩,
   ⟨0x340010, 4, 1, 0x0, 0x0, 0x0, 0x0, 0x0, 0x0, 0xFFFFFF⟩,
   ⟨0x340014, 4, 1, 0x0, 0x0, 0x0, 0x0, 0xFF000003, 0x0, 0xFF000003⟩,
   ⟨0x340020, 4, 6, 0xFFFFFFFF, 0x0, 0x0, 0x0, 0x0, 0x0, 0xFFFFFFFF⟩,
   ⟨0x340038, 4, 1, 0xFFFFF, 0x0, 0x0, 0x0, 0x0, 0x0, 0xFFFFF⟩,
   ⟨0x34003C, 4, 1, 0x0, 0x0, 0x0, 0x0, 0x0, 0x0, 0x0⟩,
   ⟨0x340040, 4, 8, 0x0, 0x0, 0xFFFFFFFF, 0x0, 0x0, 0x0, 0xFFFFFFFF⟩,
   ⟨0x340060, 4, 1, 0x0, 0x0, 0x0, 0x0, 0x0, 0x0, 0xFFFFFFFF⟩,
   ⟨0x340064, 4, 1, 0x0, 0x3FFFF, 0x0, 0x0, 0x0, 0x0, 0x3FFFF⟩,
   ⟨0x340080, 4, 8, 0x0, 0x0, 0x0, 0x0, 0x0, 0x0, 0xFFFFFFFF⟩,
   ⟨0x3400A0, 4, 1, 0x0, 0x0, 0x0, 0x0, 0x0, 0x0, 0xF1FFF⟩,
   ⟨0x3400A4, 4, 1, 0x0, 0x0, 0x0, 0x0, 0x0, 0x0, 0xFFFFFFFF⟩,
   ⟨0x3400A8, 4, 1, 0x0, 0x0, 0x0, 0x0, 0x0, 0x0, 0xFFFFFFFF⟩,
   ⟨0x340100, 4, 1, 0x0, 0x0, 0x0, 0x0, 0x0, 0x0, 0xF7F⟩,
   ⟨0x340104, 4, 1, 0x0, 0x0, 0xFFFFFFFF, 0x0, 0x0, 0x0, 0xFFFFFFFF⟩,
   ⟨0x340108, 4, 1, 0x101F8, 0xFFFFFFFF, 0x0, 0x0, 0x0, 0x0, 0xFFFFFFFF⟩,
   ⟨0x34010C, 4, 1, 0x0, 0x0, 0x0, 0x0, 0x3, 0x0, 0x3⟩,
   ⟨0x340110, 4, 1, 0x0, 0x0, 0xFFFF0000, 0x0, 0x0, 0x0, 0xFFFF0003⟩,
   ⟨0x340200, 4, 1, 0x0, 0x1, 0x0, 0x0, 0x0, 0x0, 0x1⟩,
   ⟨0x340204, 4, 1, 0x0, 0xFFFFFFFF, 0x0, 0x0, 0x0, 0x0, 0xFFFFFFFF⟩,
   ⟨0x340208, 4, 1, 0x0, 0xFFFFFFFF, 0x0, 0x0, 0x0, 0x0, 0xFFFFFFFF⟩,
   ⟨0x34020C, 4, 1, 0x6, 0x1F, 0x0, 0x0, 0x0, 0x0, 0x1F⟩,
   ⟨0x340210, 4, 1, 0x0, 0xFFFF, 0x0, 0x0, 0x0, 0x0, 0xFFFF⟩,
   ⟨0x340214, 4, 1, 0x0, 0x0, 0x0, 0x0, 0x0, 0x0, 0xFFFF⟩,
   ⟨0x340218, 4, 1, 0x0, 0x0, 0xFFFF, 0x0, 0x0, 0x0, 0xFFFF⟩,
   ⟨0x34021C, 4, 1, 0x0, 0x0, 0x1FF, 0x0, 0x0, 0x0, 0x1FF⟩]

/-- Rows TRU_BOOT to TRU_SPDM (20 R570). -/
def regRows17 : List RegRow :=
  [⟨0x380000, 4, 1, 0x0, 0x0, 0x0, 0x0, 0x0, 0x0, 0xFF03⟩,
   ⟨0x380004, 4, 1, 0x0, 0x1, 0x0, 0x0, 0xFF000002, 0x1, 0xFF000003⟩,
   ⟨0x380008, 4, 1, 0x0, 0x0, 0x0, 0x0, 0x0, 0x0, 0x3F3FF1⟩,
   ⟨0x38000C, 4, 1, 0x0, 0x0, 0x0, 0x0, 0x0, 0x0, 0xFFFFFFFF⟩,
   ⟨0x380010, 4, 1, 0x0, 0x0, 0x0, 0x0, 0x0, 0x0, 0x3⟩,
   ⟨0x380020, 4, 8, 0x0, 0x0, 0x0, 0x0, 0x0, 0x0, 0xFFFFFFFF⟩,
   ⟨0x380040, 4, 1, 0x0, 0x0, 0x0, 0x0, 0x7, 0x0, 0x7⟩,
   ⟨0x380044, 4, 1, 0x0, 0x0, 0x0, 0x0, 0x0, 0x0, 0x7⟩,
   ⟨0x380048, 4, 1, 0x0, 0x0, 0x0, 0x0, 0x0, 0x0, 0xFFFFFFFF⟩,
   ⟨0x38004C, 4, 1, 0x0, 0x0, 0x0, 0x0, 0x0, 0x0, 0x1FFFF⟩,
   ⟨0x380060, 4, 1, 0x0, 0xFFFFFFFF, 0x0, 0x0, 0x0, 0x0, 0xFFFFFFFF⟩,
   ⟨0x380064, 4, 1, 0x0, 0xFFFFFFFF, 0x0, 0x0, 0x0, 0x0, 0xFFFFFFFF⟩,
   ⟨0x380068, 4, 1, 0x0, 0x7FFFFFF, 0x0, 0x0, 0x0, 0x0, 0x7FFFFFF⟩,
   ⟨0x38006C, 4, 1, 0x0, 0x0, 0x0, 0x0, 0x1, 0x0, 0x1⟩,
   ⟨0x380070, 4, 1, 0x0, 0x0, 0x0, 0x0, 0x0, 0x0, 0x7FFF⟩,
   ⟨0x380080, 4, 1, 0x0, 0xFFFFFFFF, 0x0, 0x0, 0x0, 0x0, 0xFFFFFFFF⟩,
   ⟨0x380084, 4, 1, 0x0, 0xFFFFFFFF, 0x0, 0x0, 0x0, 0x0, 0xFFFFFFFF⟩,
   ⟨0x380088, 4, 1, 0x0, 0x0, 0x0, 0x0, 0x3, 0x0, 0x3⟩,
   ⟨0x38008C, 4, 1, 0x0, 0x0, 0x0, 0x0, 0x0, 0x0, 0x3FFF⟩,
   ⟨0x380090, 4, 1, 0x0, 0x0, 0x0, 0x0, 0x0, 0x0, 0x1FFFF⟩,
   ⟨0x380094, 4, 1, 0x0, 0x0, 0x0, 0x0, 0xFFFFFFFF, 0x0, 0xFFFFFFFF⟩,
   ⟨0x3800A0, 4, 1, 0x0, 0x0, 0xFFFF0000, 0x0, 0x0, 0x0, 0xFFFF0007⟩]

/-- Rows TRU_MBX_DATA to TRU_MBX_DATA (20 R570). -/
def regRows18 : List RegRow :=
  [⟨0x390000, 4, 16384, 0x0, 0x0, 0x0, 0x0, 0xFFFFFFFF, 0x0, 0xFFFFFFFF⟩]

/-- Rows RAD_CELLSEL to RAD_CELL_SHED (08 R267, 08 R268). -/
def regRows19 : List RegRow :=
  [⟨0x3C0000, 4, 1, 0x0, 0x1FF, 0x0, 0x0, 0x0, 0x0, 0x1FF⟩,
   ⟨0x3C0004, 4, 1, 0x0, 0x0, 0x0, 0x0, 0x0, 0x0, 0xFFFFFFF⟩,
   ⟨0x3C0008, 4, 1, 0x0, 0x0, 0x0, 0x0, 0x0, 0x0, 0xFFFFFF⟩,
   ⟨0x3C000C, 4, 1, 0x0, 0x0, 0xFFFF, 0x0, 0x0, 0x0, 0xFFFF⟩,
   ⟨0x3C0100, 4, 1, 0x0, 0x0, 0x0, 0x0, 0x0, 0x0, 0x1FFFFFBF⟩,
   ⟨0x3C0104, 4, 1, 0x0, 0x0, 0x0, 0x0, 0x0, 0x0, 0x1FFF7F3F⟩,
   ⟨0x3C0108, 4, 1, 0x0, 0x0, 0x0, 0x0, 0x0, 0x0, 0x7FFF7⟩,
   ⟨0x3C010C, 4, 1, 0x0, 0x0, 0x0, 0x0, 0x0, 0x0, 0xFFFFFFFF⟩,
   ⟨0x3C0110, 4, 1, 0x0, 0x0, 0xFFFF, 0x0, 0x0, 0x0, 0xFFFF⟩,
   ⟨0x3C0114, 4, 1, 0x0, 0x0, 0xFFFF, 0x0, 0x0, 0x0, 0xFFFF⟩,
   ⟨0x3C0118, 4, 1, 0x0, 0x0, 0xFFFFFFFF, 0x0, 0x0, 0x0, 0xFFFFFFFF⟩,
   ⟨0x3C011C, 4, 1, 0x0, 0x0, 0xFFFFFFFF, 0x0, 0x0, 0x0, 0xFFFFFFFF⟩,
   ⟨0x3C0120, 4, 1, 0x0, 0x0, 0xFFFFFFFF, 0x0, 0x0, 0x0, 0xFFFFFFFF⟩,
   ⟨0x3C0124, 4, 1, 0x0, 0x0, 0xFFFFFFFF, 0x0, 0x0, 0x0, 0xFFFFFFFF⟩,
   ⟨0x3C0128, 4, 1, 0x0, 0x0, 0x0, 0x0, 0x0, 0x0, 0x7FFFF⟩,
   ⟨0x3C012C, 4, 1, 0x0, 0x0, 0xFFFF, 0x0, 0x0, 0x0, 0xFFFF⟩]

/-- Rows CXL_LINK to FQ_MSGS_OUT (17 R509, 17 R510, 17 R511). -/
def regRows20 : List RegRow :=
  [⟨0x400000, 4, 1, 0x0, 0x0, 0x0, 0x0, 0x0, 0x0, 0x3FF⟩,
   ⟨0x400004, 4, 1, 0x0, 0x0, 0xFFFFFFFF, 0x0, 0x0, 0x0, 0xFFFFFFFF⟩,
   ⟨0x400008, 4, 1, 0x0, 0x0, 0xFFFFFFFF, 0x0, 0x0, 0x0, 0xFFFFFFFF⟩,
   ⟨0x40000C, 4, 1, 0x0, 0x0, 0x0, 0x1, 0x0, 0x0, 0x1⟩,
   ⟨0x400010, 4, 1, 0x0, 0x0, 0xFFFF0000, 0x0, 0x0, 0x0, 0xFFFF000F⟩,
   ⟨0x400014, 4, 1, 0x0, 0x0, 0x0, 0x0, 0x0, 0x0, 0xFFFFFFFF⟩,
   ⟨0x400018, 4, 1, 0x0, 0x0, 0xFFFFFFFF, 0x0, 0x0, 0x0, 0xFFFFFFFF⟩,
   ⟨0x40001C, 4, 1, 0x0, 0x0, 0xFFFF, 0x0, 0x0, 0x0, 0xFFFF⟩,
   ⟨0x400200, 4, 1, 0x1, 0xFFFF00FF, 0x0, 0x0, 0x0, 0x0, 0xFFFF00FF⟩,
   ⟨0x400204, 4, 1, 0x0, 0x0, 0xFFFF, 0x0, 0x0, 0x0, 0xFFFF⟩,
   ⟨0x400208, 4, 1, 0x0, 0x0, 0x0, 0x0, 0x0, 0x0, 0xFFFFFFFF⟩,
   ⟨0x40020C, 4, 1, 0x0, 0x0, 0x0, 0x0, 0x0, 0x0, 0xFFFFFFFF⟩,
   ⟨0x400210, 4, 1, 0x0, 0x0, 0x0, 0x0, 0x0, 0x0, 0xFFFFFFFF⟩,
   ⟨0x400400, 64, 64, 0x0, 0xFFFFFFFF, 0x0, 0x0, 0x0, 0x0, 0xFFFFFFFF⟩,
   ⟨0x400404, 64, 64, 0x0, 0xFFFFFFFF, 0x0, 0x0, 0x0, 0x0, 0xFFFFFFFF⟩,
   ⟨0x400408, 64, 64, 0x10, 0x11F, 0x0, 0x0, 0x0, 0x0, 0x11F⟩,
   ⟨0x40040C, 64, 64, 0x0, 0x0, 0x0, 0x0, 0x0, 0x0, 0xFFFFFFFF⟩,
   ⟨0x400410, 64, 64, 0x0, 0xFFFFFFFF, 0x0, 0x0, 0x0, 0x0, 0xFFFFFFFF⟩,
   ⟨0x400414, 64, 64, 0x0, 0xFFFFFFFF, 0x0, 0x0, 0x0, 0x0, 0xFFFFFFFF⟩,
   ⟨0x400418, 64, 64, 0x10, 0x1F, 0x0, 0x0, 0x0, 0x0, 0x1F⟩,
   ⟨0x40041C, 64, 64, 0x0, 0x0, 0x0, 0x0, 0x0, 0x0, 0xFFFFFFFF⟩,
   ⟨0x400420, 64, 64, 0x0, 0xFFFFFFFF, 0x0, 0x0, 0x0, 0x0, 0xFFFFFFFF⟩,
   ⟨0x400424, 64, 64, 0x0, 0xFFFFFFFF, 0x0, 0x0, 0x0, 0x0, 0xFFFFFFFF⟩,
   ⟨0x400428, 64, 64, 0x0, 0x0, 0x0, 0x0, 0x0, 0x0, 0x3⟩,
   ⟨0x40042C, 64, 64, 0x0, 0x0, 0xFFFF, 0x0, 0x0, 0x0, 0xFFFF⟩,
   ⟨0x400430, 64, 64, 0x0, 0x0, 0x0, 0x0, 0x0, 0x0, 0xFFFFFFFF⟩,
   ⟨0x400434, 64, 64, 0x0, 0x0, 0x0, 0x0, 0x0, 0x0, 0xFFFFFFFF⟩]

/-- The whole register map. -/
def regRows : List RegRow :=
  regRows0 ++ regRows1 ++ regRows2 ++ regRows3 ++ regRows4 ++ regRows5 ++ regRows6 ++ regRows7 ++ regRows8 ++ regRows9 ++ regRows10 ++ regRows11 ++ regRows12 ++ regRows13 ++ regRows14 ++ regRows15 ++ regRows16 ++ regRows17 ++ regRows18 ++ regRows19 ++ regRows20

/-- Whether a row holds the register at an offset. -/
def RegRow.covers (r : RegRow) (off : Nat) : Bool :=
  decide (r.off ≤ off ∧ off < r.off + r.stride * r.count) && (off - r.off) % r.stride == 0

/-- The row of the register at an offset, if there is one (an offset without a register reads 0: notes/assumptions/4.md). -/
def regRow? (off : Nat) : Option RegRow := regRows.find? (fun r => r.covers off)

/-- What the register at an offset holds at reset (0 where the map has no register). -/
def resetWord (off : Nat) : BitVec 32 :=
  match regRow? off with
  | some r => BitVec.ofNat 32 r.reset
  | none => 0

end Sys2Proof.Machine

/-! The fields, each under the name REGISTER_FIELD of its table; an array's fields take the index. -/
namespace Sys2Proof.Machine.F

/-! ### 00 R2 -/
abbrev ID_VENDOR_VENDOR : Fld := ⟨0x0, 0, 16⟩
abbrev ID_VENDOR_DEVICE : Fld := ⟨0x0, 16, 16⟩
abbrev ID_STEP_STEP_MIN : Fld := ⟨0x4, 0, 8⟩
abbrev ID_STEP_STEP_MAJ : Fld := ⟨0x4, 8, 8⟩
abbrev ID_PARAM0_PANELS : Fld := ⟨0x8, 0, 2⟩
abbrev ID_PARAM0_TC_PER_PANEL : Fld := ⟨0x8, 8, 5⟩
abbrev ID_PARAM0_ARRAYS_PER_TC : Fld := ⟨0x8, 16, 3⟩
abbrev ID_PARAM0_STACKS_PER_PANEL : Fld := ⟨0x8, 24, 3⟩
abbrev ID_PARAM1_ETH_PORTS : Fld := ⟨0xC, 0, 4⟩
abbrev ID_PARAM1_FABRIC_LINKS : Fld := ⟨0xC, 8, 5⟩
abbrev ID_PARAM1_SC_PER_PANEL : Fld := ⟨0xC, 16, 8⟩
abbrev ID_PARAM2_EASELS : Fld := ⟨0x10, 0, 7⟩
abbrev ID_PARAM2_DETECTORS : Fld := ⟨0x10, 8, 8⟩
/-! ### 02 R56 -/
abbrev CVS_STATE_STATE : Fld := ⟨0x10000, 0, 4⟩
abbrev CVS_STATE_PHASE : Fld := ⟨0x10000, 4, 4⟩
abbrev CVS_STATE_SOURCE : Fld := ⟨0x10000, 8, 2⟩
abbrev CVS_FAULT_CODE : Fld := ⟨0x10004, 0, 8⟩
abbrev CVS_FAULT_SECTION : Fld := ⟨0x10004, 8, 16⟩
abbrev CVS_ID_LO_ID : Fld := ⟨0x10008, 0, 32⟩
abbrev CVS_ID_HI_ID : Fld := ⟨0x1000C, 0, 32⟩
abbrev CVS_FORMAT_FORMAT_VER : Fld := ⟨0x10010, 0, 16⟩
abbrev CVS_FORMAT_SECTIONS : Fld := ⟨0x10010, 16, 9⟩
abbrev CVS_APPLY_TIME_US : Fld := ⟨0x10014, 0, 32⟩
abbrev CVS_FLASH_TRIES_TRIES : Fld := ⟨0x10018, 0, 2⟩
abbrev CVS_LEN_TOTAL_LEN : Fld := ⟨0x1001C, 0, 32⟩
abbrev CVS_SIGNER_SIGNER (i : Nat) : Fld := ⟨0x10020 + i * 4, 0, 32⟩
abbrev CVS_RWL_LOG_COUNT : Fld := ⟨0x10040, 0, 16⟩
abbrev CVS_RWL_LOG_REQ : Fld := ⟨0x10040, 16, 4⟩
abbrev CVS_RWL_OFFSET_OFFSET : Fld := ⟨0x10044, 0, 26⟩
abbrev CVS_BOOT_NONCE_LO_NONCE : Fld := ⟨0x10048, 0, 32⟩
abbrev CVS_BOOT_NONCE_HI_NONCE : Fld := ⟨0x1004C, 0, 32⟩
abbrev CVS_RT_ADDR_LO_ADDR : Fld := ⟨0x10100, 0, 32⟩
abbrev CVS_RT_ADDR_HI_ADDR : Fld := ⟨0x10104, 0, 32⟩
abbrev CVS_RT_LEN_LEN : Fld := ⟨0x10108, 0, 21⟩
abbrev CVS_RT_CTRL_GO : Fld := ⟨0x1010C, 0, 1⟩
abbrev CVS_RT_CTRL_CANCEL : Fld := ⟨0x1010C, 4, 4⟩
abbrev CVS_RT_STATUS_CODE : Fld := ⟨0x10110, 0, 8⟩
abbrev CVS_RT_STATUS_DISCARDS : Fld := ⟨0x10110, 8, 8⟩
abbrev CVS_RT_STATUS_RECORD : Fld := ⟨0x10110, 16, 13⟩
abbrev CVS_RT_SEQ_SEQ : Fld := ⟨0x10114, 0, 32⟩
abbrev CVS_RT_PENDING_TYPES : Fld := ⟨0x10118, 0, 4⟩
abbrev CVS_LIVE_DIG_DIGEST (i : Nat) : Fld := ⟨0x10200 + i * 4, 0, 32⟩
/-! ### 03 R91 -/
abbrev CLK_STATUS_REF_OK : Fld := ⟨0x20000, 0, 1⟩
abbrev CLK_STATUS_ROOT_LOCK : Fld := ⟨0x20000, 1, 1⟩
abbrev CLK_STATUS_RUN : Fld := ⟨0x20000, 2, 4⟩
abbrev CLK_DIV_K_DIV : Fld := ⟨0x20004, 0, 6⟩
abbrev CLK_DIV_S_DIV : Fld := ⟨0x20004, 8, 6⟩
abbrev CLK_DIV_H_DIV : Fld := ⟨0x20004, 16, 6⟩
abbrev CLK_DIV_Q_DIV : Fld := ⟨0x20004, 24, 6⟩
abbrev CLK_LOSS_DOMAIN : Fld := ⟨0x20008, 0, 4⟩
abbrev CLK_LOSS_REF : Fld := ⟨0x20008, 4, 1⟩
abbrev CLK_LOSS_ROOT : Fld := ⟨0x20008, 5, 1⟩
abbrev CLK_LOSS_COUNT : Fld := ⟨0x20008, 8, 8⟩
abbrev RST_CAUSE_CAUSE : Fld := ⟨0x20010, 0, 22⟩
abbrev RST_HELD_HELD : Fld := ⟨0x20014, 0, 22⟩
abbrev RST_DOMAIN_PANEL : Fld := ⟨0x20018, 0, 3⟩
abbrev RST_DOMAIN_IODIE : Fld := ⟨0x20018, 4, 2⟩
abbrev RST_DOMAIN_CXL : Fld := ⟨0x20018, 6, 1⟩
abbrev RST_DOMAIN_TENANTS : Fld := ⟨0x20018, 7, 1⟩
abbrev RST_REACH_PERST_CHIP : Fld := ⟨0x2001C, 0, 1⟩
abbrev RST_REACH_HOT_CHIP : Fld := ⟨0x2001C, 1, 1⟩
abbrev RST_REACH_WDOG_PERIOD : Fld := ⟨0x2001C, 8, 8⟩
abbrev RST_SOFT_REACH : Fld := ⟨0x20020, 0, 2⟩
abbrev RST_SOFT_TARGET : Fld := ⟨0x20020, 4, 9⟩
abbrev RST_SOFT_FORCE : Fld := ⟨0x20020, 16, 1⟩
abbrev RST_SOFT_KEY : Fld := ⟨0x20020, 24, 8⟩
abbrev RST_SOFT_STATUS_RESULT : Fld := ⟨0x20024, 0, 4⟩
abbrev RST_WDOG_KICK_KICK : Fld := ⟨0x20028, 0, 32⟩
abbrev RST_BRINGUP_STEP : Fld := ⟨0x2002C, 0, 4⟩
abbrev RST_BRINGUP_RADIO_READY : Fld := ⟨0x2002C, 4, 1⟩
abbrev RST_BRINGUP_RECOVERY : Fld := ⟨0x2002C, 5, 1⟩
abbrev RST_READY_TIME_US : Fld := ⟨0x20030, 0, 32⟩
abbrev RST_LAST_SOURCES : Fld := ⟨0x20034, 0, 22⟩
/-! ### 03 R92 -/
abbrev PWR_SUP_CFG_WARN (i : Nat) : Fld := ⟨0x30000 + i * 8, 0, 8⟩
abbrev PWR_SUP_CFG_RESET (i : Nat) : Fld := ⟨0x30000 + i * 8, 8, 8⟩
abbrev PWR_SUP_CFG_HYST (i : Nat) : Fld := ⟨0x30000 + i * 8, 16, 8⟩
abbrev PWR_SUP_MEAS_MV (i : Nat) : Fld := ⟨0x30004 + i * 8, 0, 16⟩
abbrev PWR_SUP_STATUS_BELOW_WARN : Fld := ⟨0x30040, 0, 7⟩
abbrev PWR_SUP_STATUS_BRACE : Fld := ⟨0x30040, 8, 1⟩
abbrev PWR_BRACE_CAUSE_RAIL : Fld := ⟨0x30044, 0, 7⟩
abbrev PWR_NEARMISS_COUNT : Fld := ⟨0x30048, 0, 16⟩
abbrev PWR_BRACE_LAST_US : Fld := ⟨0x3004C, 0, 32⟩
abbrev PWR_SUP_TRIP_UNDER : Fld := ⟨0x30050, 0, 7⟩
abbrev PWR_SUP_TRIP_OVER : Fld := ⟨0x30050, 8, 7⟩
/-! ### 19 R545 -/
abbrev PWR_EST_W : Fld := ⟨0x30100, 0, 11⟩
abbrev PWR_EST_PEAK : Fld := ⟨0x30100, 16, 11⟩
abbrev PWR_CAP_W : Fld := ⟨0x30104, 0, 11⟩
abbrev PWR_ADMIT_LEVEL : Fld := ⟨0x30108, 0, 5⟩
abbrev PWR_ADMIT_BY_TEMP : Fld := ⟨0x30108, 8, 1⟩
abbrev PWR_ADMIT_BY_POWER : Fld := ⟨0x30108, 9, 1⟩
abbrev PWR_RADIO_WAKE_US : Fld := ⟨0x3010C, 0, 16⟩
abbrev PWR_TC_STATE_STATE (i : Nat) : Fld := ⟨0x30110 + i * 4, 0, 32⟩
abbrev PWR_STK_SR_SR : Fld := ⟨0x3011C, 0, 18⟩
abbrev PWR_LINK_SLEEP_SLEEP : Fld := ⟨0x30120, 0, 16⟩
abbrev PWR_WAKES_COUNT : Fld := ⟨0x30124, 0, 32⟩
/-! ### 19 R546 -/
abbrev CLM_CFG_T_SET : Fld := ⟨0x30200, 0, 8⟩
abbrev CLM_CFG_HEADROOM : Fld := ⟨0x30200, 8, 4⟩
abbrev CLM_CFG_D_MIN : Fld := ⟨0x30200, 16, 10⟩
abbrev CLM_DRIVE_LEVEL : Fld := ⟨0x30204, 0, 10⟩
abbrev CLM_DRIVE_ESCALATED : Fld := ⟨0x30204, 16, 1⟩
abbrev CLM_DRIVE_PUMP_FAIL : Fld := ⟨0x30204, 17, 1⟩
abbrev CLM_DRIVE_SENSOR_LOST : Fld := ⟨0x30204, 18, 1⟩
abbrev CLM_PUMP_DUTY : Fld := ⟨0x30208, 0, 7⟩
abbrev CLM_PUMP_RPM : Fld := ⟨0x30208, 16, 16⟩
abbrev CLM_VALVE_OPEN : Fld := ⟨0x3020C, 0, 7⟩
abbrev CLM_COOLANT_INLET : Fld := ⟨0x30210, 0, 10⟩
abbrev CLM_COOLANT_OUTLET : Fld := ⟨0x30210, 16, 10⟩
abbrev CLM_HOT_DIE_MAX : Fld := ⟨0x30214, 0, 10⟩
abbrev CLM_HOT_SENSOR : Fld := ⟨0x30214, 10, 6⟩
abbrev CLM_HOT_STACK_MAX : Fld := ⟨0x30214, 16, 8⟩
abbrev CLM_HOT_STACK : Fld := ⟨0x30214, 24, 5⟩
abbrev CLM_PRED_AT_LEVEL : Fld := ⟨0x30218, 0, 10⟩
abbrev CLM_PRED_AT_ZERO : Fld := ⟨0x30218, 16, 10⟩
abbrev CLM_PRED_ZONE : Fld := ⟨0x30218, 26, 5⟩
abbrev CLM_HOLDUP_MV : Fld := ⟨0x3021C, 0, 16⟩
abbrev CLM_HOLDUP_CHG : Fld := ⟨0x3021C, 16, 1⟩
abbrev CLM_HOLDUP_LOW : Fld := ⟨0x3021C, 17, 1⟩
abbrev CLM_HOLDUP_CFG_ON : Fld := ⟨0x30220, 0, 10⟩
abbrev CLM_HOLDUP_CFG_OFF : Fld := ⟨0x30220, 16, 10⟩
abbrev CLM_EVENTS_ESCALATIONS : Fld := ⟨0x30224, 0, 8⟩
abbrev CLM_EVENTS_PUMP_FAILS : Fld := ⟨0x30224, 8, 8⟩
abbrev CLM_EVENTS_SENSOR_LOSS : Fld := ⟨0x30224, 16, 8⟩
abbrev CLM_EVENTS_HOLDUP_LOW : Fld := ⟨0x30224, 24, 8⟩
abbrev CLM_TRIP_SOURCE : Fld := ⟨0x30228, 0, 7⟩
abbrev CLM_TRIP_TEMP : Fld := ⟨0x30228, 8, 10⟩
abbrev CLM_ZONESEL_ZONE : Fld := ⟨0x3022C, 0, 5⟩
/-! ### 19 R547 -/
abbrev CLM_ZONE_R_MKW : Fld := ⟨0x30280, 0, 16⟩
abbrev CLM_ZONE_TAU_MS : Fld := ⟨0x30284, 0, 8⟩
abbrev CLM_ZONE_PINF_W : Fld := ⟨0x30288, 0, 10⟩
abbrev CLM_ZONE_PRAD_W : Fld := ⟨0x3028C, 0, 10⟩
abbrev CLM_ZONE_T_TEMP : Fld := ⟨0x30290, 0, 10⟩
abbrev CLM_ZONE_T_PRED : Fld := ⟨0x30290, 16, 10⟩
/-! ### 19 R546 -/
abbrev CLM_DIE_TEMP_TEMP (i : Nat) : Fld := ⟨0x30300 + i * 4, 0, 10⟩
/-! ### 19 R548 -/
abbrev PWR_EAS_WAKE_US : Fld := ⟨0x30400, 0, 16⟩
abbrev PWR_EAS_WAKE_WAIT_COUNT : Fld := ⟨0x30404, 0, 16⟩
/-! ### 04 R119 -/
abbrev MEM_STKSEL_STACK : Fld := ⟨0x40000, 0, 5⟩
abbrev MEM_READY_READY : Fld := ⟨0x40004, 0, 18⟩
abbrev MEM_UE_STACKS_UE : Fld := ⟨0x40008, 0, 18⟩
abbrev MEM_NOC_CFG_ROUTE : Fld := ⟨0x40010, 0, 2⟩
abbrev MEM_NOC_CFG_RADIO_PRIO : Fld := ⟨0x40010, 2, 1⟩
abbrev MEM_NOC_CFG_WEIGHT1 : Fld := ⟨0x40010, 8, 5⟩
abbrev MEM_NOC_CFG_WEIGHT2 : Fld := ⟨0x40010, 16, 5⟩
abbrev MEM_NOC_CFG_WEIGHT3 : Fld := ⟨0x40010, 24, 5⟩
abbrev MEM_NOC_CREDITS_CR : Fld := ⟨0x40014, 0, 32⟩
/-! ### 04 R120 -/
abbrev MEM_STK_STATUS_STATE : Fld := ⟨0x40100, 0, 4⟩
abbrev MEM_STK_STATUS_REPAIRED : Fld := ⟨0x40100, 4, 7⟩
abbrev MEM_STK_STATUS_RATE : Fld := ⟨0x40100, 11, 2⟩
abbrev MEM_STK_TEMP_TEMP : Fld := ⟨0x40104, 0, 8⟩
abbrev MEM_STK_TEMP_PEAK : Fld := ⟨0x40104, 8, 8⟩
abbrev MEM_STK_CE_COUNT : Fld := ⟨0x40108, 0, 32⟩
abbrev MEM_STK_UE_COUNT : Fld := ⟨0x4010C, 0, 16⟩
abbrev MEM_STK_ERRLOC_CHANNEL : Fld := ⟨0x40110, 0, 6⟩
abbrev MEM_STK_ERRLOC_BANK : Fld := ⟨0x40110, 6, 5⟩
abbrev MEM_STK_ERRLOC_ROW : Fld := ⟨0x40110, 11, 14⟩
abbrev MEM_STK_ERRLOC_COL : Fld := ⟨0x40110, 25, 2⟩
abbrev MEM_STK_ERRLOC_LANE : Fld := ⟨0x40110, 27, 5⟩
abbrev MEM_STK_ERRINFO_EASEL : Fld := ⟨0x40114, 0, 6⟩
abbrev MEM_STK_ERRINFO_UE : Fld := ⟨0x40114, 6, 1⟩
abbrev MEM_STK_ERRINFO_SCRUB : Fld := ⟨0x40114, 7, 1⟩
abbrev MEM_STK_SCRUB_PASSES : Fld := ⟨0x40118, 0, 16⟩
abbrev MEM_STK_RD_UNITS : Fld := ⟨0x4011C, 0, 32⟩
abbrev MEM_STK_WR_UNITS : Fld := ⟨0x40120, 0, 32⟩
abbrev MEM_STK_FREE_UNITS : Fld := ⟨0x40124, 0, 19⟩
/-! ### 04 R121 -/
abbrev MEM_EAS_SHARE_UNITS : Fld := ⟨0x40200, 0, 23⟩
abbrev MEM_EAS_MAPPED_UNITS : Fld := ⟨0x40204, 0, 23⟩
abbrev MEM_EAS_WATERMARK_UNITS : Fld := ⟨0x40208, 0, 23⟩
abbrev MEM_EAS_PLACE_MODE : Fld := ⟨0x4020C, 0, 2⟩
abbrev MEM_EAS_PLACE_TARGET : Fld := ⟨0x4020C, 4, 5⟩
abbrev MEM_EAS_REL_BASE_UNIT : Fld := ⟨0x40210, 0, 23⟩
abbrev MEM_EAS_REL_COUNT_UNITS : Fld := ⟨0x40214, 0, 23⟩
abbrev MEM_EAS_REL_CTRL_GO : Fld := ⟨0x40218, 0, 1⟩
abbrev MEM_EAS_REL_STATUS_BUSY : Fld := ⟨0x4021C, 0, 1⟩
abbrev MEM_EAS_REL_STATUS_REL_RANGE : Fld := ⟨0x4021C, 1, 1⟩
abbrev MEM_EAS_FAULTS_OOS : Fld := ⟨0x40220, 0, 16⟩
abbrev MEM_EAS_FAULTS_UE : Fld := ⟨0x40220, 16, 16⟩
/-! ### 05 R169 -/
abbrev TC_CORESEL_CORE : Fld := ⟨0x100000, 0, 6⟩
abbrev TC_BUSY_LO_BUSY : Fld := ⟨0x100004, 0, 32⟩
abbrev TC_BUSY_HI_BUSY : Fld := ⟨0x100008, 0, 16⟩
abbrev TC_FAULT_LO_FAULT : Fld := ⟨0x10000C, 0, 32⟩
abbrev TC_FAULT_HI_FAULT : Fld := ⟨0x100010, 0, 16⟩
/-! ### 05 R170 -/
abbrev TC_STATUS_STATE : Fld := ⟨0x100100, 0, 3⟩
abbrev TC_STATUS_ARRAYS_BUSY : Fld := ⟨0x100100, 4, 4⟩
abbrev TC_STATUS_LAST_EASEL : Fld := ⟨0x100100, 8, 6⟩
abbrev TC_STATUS_QDEPTH : Fld := ⟨0x100100, 16, 9⟩
abbrev TC_PARTITION_OWNER : Fld := ⟨0x100104, 0, 6⟩
abbrev TC_DONE_COUNT : Fld := ⟨0x100108, 0, 32⟩
abbrev TC_PASSES_COUNT : Fld := ⟨0x10010C, 0, 32⟩
abbrev TC_BUSYCYC_LO_CYCLES : Fld := ⟨0x100110, 0, 32⟩
abbrev TC_BUSYCYC_HI_CYCLES : Fld := ⟨0x100114, 0, 32⟩
abbrev TC_SWITCHES_SWITCHES : Fld := ⟨0x100118, 0, 16⟩
abbrev TC_SWITCHES_COLD : Fld := ⟨0x100118, 16, 16⟩
abbrev TC_ERR_LAST_TAG : Fld := ⟨0x10011C, 0, 16⟩
abbrev TC_ERR_LAST_STATUS : Fld := ⟨0x10011C, 16, 8⟩
abbrev TC_ERR_LAST_GROUP : Fld := ⟨0x10011C, 24, 4⟩
abbrev TC_ERR_COUNT_COUNT : Fld := ⟨0x100120, 0, 16⟩
abbrev TC_SP_CE_COUNT : Fld := ⟨0x100124, 0, 32⟩
abbrev TC_SP_UE_COUNT : Fld := ⟨0x100128, 0, 16⟩
abbrev TC_SP_ERRLOC_ADDR : Fld := ⟨0x10012C, 0, 24⟩
abbrev TC_SP_ERRLOC_EASEL : Fld := ⟨0x10012C, 24, 6⟩
abbrev TC_SP_ERRLOC_UE : Fld := ⟨0x10012C, 30, 1⟩
abbrev TC_ERR_EASEL_EASEL : Fld := ⟨0x100130, 0, 6⟩
/-! ### 05 R171 -/
abbrev TC_EAS_QLIMIT_SLOTS : Fld := ⟨0x100200, 0, 9⟩
abbrev TC_EAS_QDEPTH_DEPTH : Fld := ⟨0x100204, 0, 9⟩
abbrev TC_EAS_SP_SHARE_UNITS : Fld := ⟨0x100208, 0, 8⟩
abbrev TC_EAS_SP_MAPPED_UNITS : Fld := ⟨0x10020C, 0, 8⟩
abbrev TC_EAS_SP_WATERMARK_UNITS : Fld := ⟨0x100210, 0, 8⟩
abbrev TC_EAS_DONE_COUNT : Fld := ⟨0x100214, 0, 32⟩
abbrev TC_EAS_ERRORS_COUNT : Fld := ⟨0x100218, 0, 16⟩
/-! ### 07 R231 -/
abbrev SC_CORESEL_CORE : Fld := ⟨0x140000, 0, 8⟩
abbrev SC_LIMITS_REP_CEIL : Fld := ⟨0x140004, 0, 17⟩
abbrev SC_FAULT_FAULT (i : Nat) : Fld := ⟨0x140008 + i * 4, 0, 32⟩
abbrev SC_BUSY_BUSY (i : Nat) : Fld := ⟨0x140020 + i * 4, 0, 32⟩
/-! ### 07 R232 -/
abbrev SC_STATUS_STATE : Fld := ⟨0x140100, 0, 3⟩
abbrev SC_STATUS_PARKED : Fld := ⟨0x140100, 3, 1⟩
abbrev SC_STATUS_LAST_EASEL : Fld := ⟨0x140100, 4, 6⟩
abbrev SC_STATUS_QDEPTH : Fld := ⟨0x140100, 10, 7⟩
abbrev SC_PARTITION_OWNER : Fld := ⟨0x140104, 0, 6⟩
abbrev SC_LIVE_D_LIVE : Fld := ⟨0x140108, 0, 2⟩
abbrev SC_LIVE_LOOP : Fld := ⟨0x140108, 2, 1⟩
abbrev SC_LIVE_NESTED : Fld := ⟨0x140108, 3, 1⟩
abbrev SC_LIVE_L_LIVE : Fld := ⟨0x140108, 4, 17⟩
abbrev SC_PC_PC0 : Fld := ⟨0x14010C, 0, 12⟩
abbrev SC_PC_PC1 : Fld := ⟨0x14010C, 16, 12⟩
abbrev SC_DONE_COUNT : Fld := ⟨0x140110, 0, 32⟩
abbrev SC_BUSYCYC_LO_CYCLES : Fld := ⟨0x140114, 0, 32⟩
abbrev SC_BUSYCYC_HI_CYCLES : Fld := ⟨0x140118, 0, 32⟩
abbrev SC_PREEMPT_COUNT : Fld := ⟨0x14011C, 0, 16⟩
abbrev SC_PREEMPT_MAX_TSW : Fld := ⟨0x14011C, 16, 16⟩
abbrev SC_ERR_LAST_TAG : Fld := ⟨0x140120, 0, 16⟩
abbrev SC_ERR_LAST_STATUS : Fld := ⟨0x140120, 16, 8⟩
abbrev SC_ERR_LAST_EASEL : Fld := ⟨0x140120, 24, 6⟩
abbrev SC_ERR_PC_PC : Fld := ⟨0x140124, 0, 12⟩
abbrev SC_ERR_COUNT_COUNT : Fld := ⟨0x140128, 0, 16⟩
abbrev SC_DM_CE_COUNT : Fld := ⟨0x14012C, 0, 32⟩
abbrev SC_MEM_UE_DM : Fld := ⟨0x140130, 0, 16⟩
abbrev SC_MEM_UE_PM : Fld := ⟨0x140130, 16, 16⟩
abbrev SC_PM_CE_COUNT : Fld := ⟨0x140134, 0, 32⟩
/-! ### 07 R233 -/
abbrev SC_EAS_QLIMIT_SLOTS : Fld := ⟨0x140200, 0, 7⟩
abbrev SC_EAS_QDEPTH_DEPTH : Fld := ⟨0x140204, 0, 7⟩
abbrev SC_EAS_DM_SHARE : Fld := ⟨0x140208, 0, 7⟩
abbrev SC_EAS_DM_MAPPED : Fld := ⟨0x140208, 16, 7⟩
abbrev SC_EAS_PM_SHARE : Fld := ⟨0x14020C, 0, 5⟩
abbrev SC_EAS_PM_MAPPED : Fld := ⟨0x14020C, 16, 5⟩
abbrev SC_EAS_WATERMARK_DM : Fld := ⟨0x140210, 0, 7⟩
abbrev SC_EAS_WATERMARK_PM : Fld := ⟨0x140210, 16, 5⟩
abbrev SC_EAS_DONE_COUNT : Fld := ⟨0x140214, 0, 32⟩
abbrev SC_EAS_ERRORS_COUNT : Fld := ⟨0x140218, 0, 16⟩
abbrev SC_EAS_OVERRUNS_COUNT : Fld := ⟨0x14021C, 0, 16⟩
/-! ### 09 R304 -/
abbrev STR_CHSEL_CHANNEL : Fld := ⟨0x180000, 0, 11⟩
abbrev STR_THREADS_W : Fld := ⟨0x180004, 0, 7⟩
abbrev STR_THREADS_C : Fld := ⟨0x180004, 8, 7⟩
abbrev STR_THREADS_E : Fld := ⟨0x180004, 16, 7⟩
abbrev STR_RADIO_THREADS_COUNT : Fld := ⟨0x180008, 0, 6⟩
abbrev STR_HALTED_COUNT : Fld := ⟨0x18000C, 0, 12⟩
abbrev STR_PATIENT_COUNT : Fld := ⟨0x180010, 0, 12⟩
/-! ### 09 R305 -/
abbrev STR_CH_CFG_EASEL : Fld := ⟨0x180100, 0, 6⟩
abbrev STR_CH_CFG_PANEL : Fld := ⟨0x180100, 8, 2⟩
abbrev STR_CH_CFG_ENABLED : Fld := ⟨0x180100, 10, 1⟩
abbrev STR_CH_CFG_PATIENT : Fld := ⟨0x180100, 11, 1⟩
abbrev STR_CH_STATE_STATE : Fld := ⟨0x180104, 0, 3⟩
abbrev STR_CH_STATE_PEND : Fld := ⟨0x180104, 3, 1⟩
abbrev STR_CH_STATE_THREAD : Fld := ⟨0x180104, 4, 6⟩
abbrev STR_CH_STATE_PC : Fld := ⟨0x180104, 10, 5⟩
abbrev STR_CH_STATE_LEFT : Fld := ⟨0x180104, 16, 16⟩
abbrev STR_CH_ARM_ADDR_LO_ADDR : Fld := ⟨0x180108, 0, 32⟩
abbrev STR_CH_ARM_ADDR_HI_ADDR : Fld := ⟨0x18010C, 0, 32⟩
abbrev STR_CH_ARM_CNT_COUNT : Fld := ⟨0x180110, 0, 16⟩
abbrev STR_CH_ARM_CNT_SPACE : Fld := ⟨0x180110, 16, 1⟩
abbrev STR_CH_CTRL_ARM : Fld := ⟨0x180114, 0, 1⟩
abbrev STR_CH_CTRL_RESUME : Fld := ⟨0x180114, 1, 1⟩
abbrev STR_CH_CTRL_SKIP : Fld := ⟨0x180114, 2, 1⟩
abbrev STR_CH_CTRL_ABORT : Fld := ⟨0x180114, 3, 1⟩
abbrev STR_CH_OVERRUN_COUNT : Fld := ⟨0x180118, 0, 16⟩
abbrev STR_CH_DONE_COUNT : Fld := ⟨0x18011C, 0, 32⟩
abbrev STR_CH_BYTES_LO_BYTES : Fld := ⟨0x180120, 0, 32⟩
abbrev STR_CH_BYTES_HI_BYTES : Fld := ⟨0x180124, 0, 32⟩
abbrev STR_CH_FAULT_STATUS : Fld := ⟨0x180128, 0, 8⟩
abbrev STR_CH_FAULT_PC : Fld := ⟨0x180128, 8, 5⟩
abbrev STR_CH_FAULT_DESC : Fld := ⟨0x180128, 16, 16⟩
abbrev STR_CH_FAULT_ADDR_LO_ADDR : Fld := ⟨0x18012C, 0, 32⟩
abbrev STR_CH_FAULT_ADDR_HI_ADDR : Fld := ⟨0x180130, 0, 32⟩
abbrev STR_CH_SEM_FULL : Fld := ⟨0x180134, 0, 16⟩
abbrev STR_CH_SEM_EMPTY : Fld := ⟨0x180134, 16, 16⟩
abbrev STR_CH_SEMSTAT_FULL_WAIT : Fld := ⟨0x180138, 0, 8⟩
abbrev STR_CH_SEMSTAT_EMPTY_WAIT : Fld := ⟨0x180138, 8, 8⟩
abbrev STR_CH_SEMSTAT_OVF : Fld := ⟨0x180138, 16, 1⟩
abbrev STR_CH_PAL_HELD : Fld := ⟨0x18013C, 0, 15⟩
abbrev STR_CH_PAL_LIM_MIN : Fld := ⟨0x180140, 0, 15⟩
abbrev STR_CH_PAL_LIM_CAP : Fld := ⟨0x180140, 16, 15⟩
/-! ### 09 R306 -/
abbrev PAL_FREE_GRANULES : Fld := ⟨0x180400, 0, 15⟩
abbrev PAL_CE_COUNT : Fld := ⟨0x180404, 0, 32⟩
abbrev PAL_UE_COUNT : Fld := ⟨0x180408, 0, 16⟩
abbrev PAL_EAS_SHARE_GRANULES : Fld := ⟨0x180500, 0, 15⟩
abbrev PAL_EAS_MINSUM_GRANULES : Fld := ⟨0x180504, 0, 15⟩
abbrev PAL_EAS_HELD_GRANULES : Fld := ⟨0x180508, 0, 15⟩
abbrev PAL_EAS_WATERMARK_GRANULES : Fld := ⟨0x18050C, 0, 15⟩
abbrev PAL_EAS_WAITS_COUNT : Fld := ⟨0x180510, 0, 16⟩
/-! ### 11 R365 -/
abbrev SEQ_STATUS_ACTIVE : Fld := ⟨0x1C0000, 0, 14⟩
abbrev SEQ_STATUS_SAMPLER_BUSY : Fld := ⟨0x1C0000, 16, 1⟩
abbrev SEQ_LOSE_EASEL : Fld := ⟨0x1C0004, 0, 6⟩
abbrev SEQ_LOSE_ALL : Fld := ⟨0x1C0004, 6, 1⟩
abbrev SEQ_LOSE_INDEX : Fld := ⟨0x1C0004, 8, 13⟩
abbrev SEQ_LOSE_KEY : Fld := ⟨0x1C0004, 24, 8⟩
abbrev SEQ_LOSE_RANK_RANK : Fld := ⟨0x1C0008, 0, 12⟩
abbrev SEQ_LOSE_RANK_VALID : Fld := ⟨0x1C0008, 12, 1⟩
abbrev SEQ_DBG_CTRL_EASEL : Fld := ⟨0x1C0010, 0, 6⟩
abbrev SEQ_DBG_CTRL_UNDERPAINT : Fld := ⟨0x1C0010, 6, 1⟩
abbrev SEQ_DBG_CTRL_GO : Fld := ⟨0x1C0010, 7, 1⟩
abbrev SEQ_DBG_ADDR_LO_ADDR : Fld := ⟨0x1C0014, 0, 32⟩
abbrev SEQ_DBG_ADDR_HI_ADDR : Fld := ⟨0x1C0018, 0, 32⟩
abbrev SEQ_DBG_DATA_DATA (i : Nat) : Fld := ⟨0x1C0040 + i * 4, 0, 32⟩
/-! ### 11 R366 -/
abbrev SEQ_EAS_CTRL_ENABLE : Fld := ⟨0x1C0100, 0, 1⟩
abbrev SEQ_EAS_CTRL_AUTO : Fld := ⟨0x1C0100, 1, 1⟩
abbrev SEQ_EAS_STATUS_PHASE : Fld := ⟨0x1C0104, 0, 2⟩
abbrev SEQ_EAS_STATUS_ADMIT_WAIT : Fld := ⟨0x1C0104, 2, 1⟩
abbrev SEQ_EAS_STATUS_CFG_ERR : Fld := ⟨0x1C0104, 3, 1⟩
abbrev SEQ_EAS_STEP_STEP : Fld := ⟨0x1C0108, 0, 32⟩
abbrev SEQ_EAS_CFG0_CHUNK : Fld := ⟨0x1C010C, 0, 14⟩
abbrev SEQ_EAS_CFG0_STEP_ROWS : Fld := ⟨0x1C010C, 16, 15⟩
abbrev SEQ_EAS_CFG1_VOCAB : Fld := ⟨0x1C0110, 0, 21⟩
abbrev SEQ_EAS_PAGE_CFG_PAGE_TOKENS : Fld := ⟨0x1C0114, 0, 6⟩
abbrev SEQ_EAS_PAGE_CFG_LAYERS : Fld := ⟨0x1C0114, 8, 8⟩
abbrev SEQ_EAS_PAGE_CFG_ROW_64 : Fld := ⟨0x1C0114, 16, 6⟩
abbrev SEQ_EAS_KV_BASE_UNIT : Fld := ⟨0x1C0118, 0, 23⟩
abbrev SEQ_EAS_KV_PAGES_PAGES : Fld := ⟨0x1C011C, 0, 23⟩
abbrev SEQ_EAS_PL_BASE_UNIT : Fld := ⟨0x1C0120, 0, 23⟩
abbrev SEQ_EAS_PL_LEN_PAGES : Fld := ⟨0x1C0124, 0, 16⟩
abbrev SEQ_EAS_WL_BASE_UNIT : Fld := ⟨0x1C0128, 0, 23⟩
abbrev SEQ_EAS_STOP_BASE_UNIT : Fld := ⟨0x1C012C, 0, 23⟩
abbrev SEQ_EAS_PASS_CH01_CH0 : Fld := ⟨0x1C0130, 0, 11⟩
abbrev SEQ_EAS_PASS_CH01_V0 : Fld := ⟨0x1C0130, 11, 1⟩
abbrev SEQ_EAS_PASS_CH01_CH1 : Fld := ⟨0x1C0130, 16, 11⟩
abbrev SEQ_EAS_PASS_CH01_V1 : Fld := ⟨0x1C0130, 27, 1⟩
abbrev SEQ_EAS_PASS_CH23_CH2 : Fld := ⟨0x1C0134, 0, 11⟩
abbrev SEQ_EAS_PASS_CH23_V2 : Fld := ⟨0x1C0134, 11, 1⟩
abbrev SEQ_EAS_PASS_CH23_CH3 : Fld := ⟨0x1C0134, 16, 11⟩
abbrev SEQ_EAS_PASS_CH23_V3 : Fld := ⟨0x1C0134, 27, 1⟩
abbrev SEQ_EAS_SWAP_BASE_LO_ADDR : Fld := ⟨0x1C0138, 0, 32⟩
abbrev SEQ_EAS_SWAP_BASE_HI_ADDR : Fld := ⟨0x1C013C, 0, 32⟩
abbrev SEQ_EAS_SWAP_SLOTS_PAGES : Fld := ⟨0x1C0140, 0, 24⟩
abbrev SEQ_EAS_SWAP_CH_CH : Fld := ⟨0x1C0144, 0, 11⟩
abbrev SEQ_EAS_SWAP_CH_VALID : Fld := ⟨0x1C0144, 11, 1⟩
abbrev SEQ_EAS_RESERVE_PAGES : Fld := ⟨0x1C0148, 0, 23⟩
abbrev SEQ_EAS_COUNTS_ACTIVE : Fld := ⟨0x1C014C, 0, 14⟩
abbrev SEQ_EAS_COUNTS_SWAPPED : Fld := ⟨0x1C014C, 16, 14⟩
abbrev SEQ_EAS_PAGES_FREE_PAGES : Fld := ⟨0x1C0150, 0, 23⟩
abbrev SEQ_EAS_BILL_PREFILL_LO_TOKENS : Fld := ⟨0x1C0154, 0, 32⟩
abbrev SEQ_EAS_BILL_PREFILL_HI_TOKENS : Fld := ⟨0x1C0158, 0, 32⟩
abbrev SEQ_EAS_BILL_GEN_LO_TOKENS : Fld := ⟨0x1C015C, 0, 32⟩
abbrev SEQ_EAS_BILL_GEN_HI_TOKENS : Fld := ⟨0x1C0160, 0, 32⟩
abbrev SEQ_EAS_SPEC_PROP_COUNT : Fld := ⟨0x1C0164, 0, 32⟩
abbrev SEQ_EAS_SPEC_ACC_COUNT : Fld := ⟨0x1C0168, 0, 32⟩
abbrev SEQ_EAS_MASKED_READS : Fld := ⟨0x1C016C, 0, 16⟩
abbrev SEQ_EAS_MASKED_WRITES : Fld := ⟨0x1C016C, 16, 16⟩
abbrev SEQ_EAS_LOST_COUNT : Fld := ⟨0x1C0170, 0, 16⟩
abbrev SEQ_EAS_PEEK_INDEX : Fld := ⟨0x1C0174, 0, 13⟩
abbrev SEQ_EAS_PEEK_UNDERPAINT : Fld := ⟨0x1C0174, 15, 1⟩
abbrev SEQ_EAS_PEEK_DATA_DATA (i : Nat) : Fld := ⟨0x1C0180 + i * 4, 0, 32⟩
/-! ### 11 R367 -/
abbrev SEQ_OR_BASE_LO_ADDR (i : Nat) : Fld := ⟨0x1C0400 + i * 32, 0, 32⟩
abbrev SEQ_OR_BASE_HI_ADDR (i : Nat) : Fld := ⟨0x1C0404 + i * 32, 0, 32⟩
abbrev SEQ_OR_SIZE_SIZE (i : Nat) : Fld := ⟨0x1C0408 + i * 32, 0, 5⟩
abbrev SEQ_OR_SIZE_SPACE (i : Nat) : Fld := ⟨0x1C0408 + i * 32, 8, 1⟩
abbrev SEQ_OR_HEAD_HEAD (i : Nat) : Fld := ⟨0x1C040C + i * 32, 0, 16⟩
abbrev SEQ_OR_TAIL_TAIL (i : Nat) : Fld := ⟨0x1C0410 + i * 32, 0, 16⟩
/-! ### 12 R382 -/
abbrev EMB_ENG_STATUS_INFLIGHT (i : Nat) : Fld := ⟨0x1E0000 + i * 16, 0, 6⟩
abbrev EMB_ENG_STATUS_PARKED (i : Nat) : Fld := ⟨0x1E0000 + i * 16, 8, 6⟩
abbrev EMB_ENG_STATUS_ACC_KIB (i : Nat) : Fld := ⟨0x1E0000 + i * 16, 16, 9⟩
abbrev EMB_ENG_ROWS_COUNT (i : Nat) : Fld := ⟨0x1E0004 + i * 16, 0, 32⟩
abbrev EMB_EAS_CTRL_ENABLE : Fld := ⟨0x1E0100, 0, 1⟩
abbrev EMB_EAS_STATUS_CFG_ERR : Fld := ⟨0x1E0104, 0, 1⟩
abbrev EMB_EAS_STATUS_INFLIGHT : Fld := ⟨0x1E0104, 8, 7⟩
abbrev EMB_EAS_DIR_UNIT : Fld := ⟨0x1E0108, 0, 23⟩
abbrev EMB_EAS_DIR_COUNT_COUNT : Fld := ⟨0x1E010C, 0, 7⟩
abbrev EMB_EAS_ROWS_LOCAL_COUNT : Fld := ⟨0x1E0110, 0, 32⟩
abbrev EMB_EAS_ROWS_REMOTE_COUNT : Fld := ⟨0x1E0114, 0, 32⟩
abbrev EMB_EAS_MISSING_DEADLINE : Fld := ⟨0x1E0118, 0, 16⟩
abbrev EMB_EAS_MISSING_DEAD : Fld := ⟨0x1E0118, 16, 16⟩
abbrev EMB_EAS_BADIDX_COUNT : Fld := ⟨0x1E011C, 0, 16⟩
abbrev EMB_EAS_LATE_COUNT : Fld := ⟨0x1E0120, 0, 16⟩
/-! ### 10 R338 -/
abbrev EAS_SEL_EASEL : Fld := ⟨0x200000, 0, 6⟩
abbrev SCH_MODE_PARTITIONED : Fld := ⟨0x200004, 0, 1⟩
abbrev SCH_MODE_PART_MODE : Fld := ⟨0x200004, 8, 2⟩
abbrev SCH_MODE_MOVING : Fld := ⟨0x200004, 16, 8⟩
abbrev SCH_MODE_CTRL_TO_NORMAL : Fld := ⟨0x200008, 0, 1⟩
abbrev SCH_MODE_CTRL_TO_PARTITIONED : Fld := ⟨0x200008, 1, 1⟩
abbrev SCH_MODE_CTRL_KEY : Fld := ⟨0x200008, 24, 8⟩
abbrev SCH_LIMITS_TILE_MAX : Fld := ⟨0x20000C, 0, 16⟩
abbrev SCH_LIMITS_HORIZON : Fld := ⟨0x20000C, 16, 16⟩
abbrev SCH_FIT_DENY_COUNT : Fld := ⟨0x200010, 0, 32⟩
abbrev SCH_PARK_USE0_W : Fld := ⟨0x200014, 0, 11⟩
abbrev SCH_PARK_USE0_C : Fld := ⟨0x200014, 16, 11⟩
abbrev SCH_PARK_USE1_E : Fld := ⟨0x200018, 0, 11⟩
abbrev SCH_PARK_FULL_COUNT : Fld := ⟨0x20001C, 0, 16⟩
/-! ### 10 R339 -/
abbrev EAS_CFG_EXISTS : Fld := ⟨0x200100, 0, 1⟩
abbrev EAS_CFG_PRIO : Fld := ⟨0x200100, 4, 2⟩
abbrev EAS_CFG_WEIGHT : Fld := ⟨0x200100, 8, 8⟩
abbrev EAS_CFG_SEQ : Fld := ⟨0x200100, 16, 14⟩
abbrev EAS_CTRL_ENABLE : Fld := ⟨0x200104, 0, 1⟩
abbrev EAS_STATUS_RING_WAIT : Fld := ⟨0x200108, 0, 1⟩
abbrev EAS_STATUS_CQ_FULL : Fld := ⟨0x200108, 1, 1⟩
abbrev EAS_STATUS_RING_FAULT : Fld := ⟨0x200108, 2, 1⟩
abbrev EAS_STATUS_PARKED : Fld := ⟨0x200108, 16, 12⟩
abbrev EAS_SQ_BASE_LO_ADDR : Fld := ⟨0x20010C, 0, 32⟩
abbrev EAS_SQ_BASE_HI_ADDR : Fld := ⟨0x200110, 0, 32⟩
abbrev EAS_SQ_SIZE_SIZE : Fld := ⟨0x200114, 0, 5⟩
abbrev EAS_SQ_SIZE_SPACE : Fld := ⟨0x200114, 8, 1⟩
abbrev EAS_SQ_TAIL_TAIL : Fld := ⟨0x200118, 0, 16⟩
abbrev EAS_SQ_HEAD_HEAD : Fld := ⟨0x20011C, 0, 16⟩
abbrev EAS_CQ_BASE_LO_ADDR : Fld := ⟨0x200120, 0, 32⟩
abbrev EAS_CQ_BASE_HI_ADDR : Fld := ⟨0x200124, 0, 32⟩
abbrev EAS_CQ_SIZE_SIZE : Fld := ⟨0x200128, 0, 5⟩
abbrev EAS_CQ_SIZE_SPACE : Fld := ⟨0x200128, 8, 1⟩
abbrev EAS_CQ_HEAD_HEAD : Fld := ⟨0x20012C, 0, 16⟩
abbrev EAS_CQ_TAIL_TAIL : Fld := ⟨0x200130, 0, 16⟩
abbrev EAS_STEPS_COUNT : Fld := ⟨0x200134, 0, 32⟩
abbrev EAS_FIT_WAIT_COUNT : Fld := ⟨0x200138, 0, 16⟩
/-! ### 18 R525 -/
abbrev EAS_LIFE_STATE : Fld := ⟨0x200140, 0, 4⟩
abbrev EAS_LIFE_QUAR : Fld := ⟨0x200140, 4, 1⟩
abbrev EAS_LIFE_HOLD : Fld := ⟨0x200140, 8, 4⟩
abbrev EAS_LIFE_CTRL_OP : Fld := ⟨0x200144, 0, 4⟩
abbrev EAS_LIFE_CTRL_KEY : Fld := ⟨0x200144, 24, 8⟩
abbrev EAS_LIFE_STATUS_CODE : Fld := ⟨0x200148, 0, 8⟩
abbrev EAS_LIFE_STATUS_OP : Fld := ⟨0x200148, 8, 4⟩
abbrev EAS_FREEZE_US_US : Fld := ⟨0x20014C, 0, 20⟩
abbrev EAS_IMG_ADDR_LO_ADDR : Fld := ⟨0x200150, 0, 32⟩
abbrev EAS_IMG_ADDR_HI_ADDR : Fld := ⟨0x200154, 0, 32⟩
abbrev EAS_IMG_LEN_LO_BYTES : Fld := ⟨0x200158, 0, 32⟩
abbrev EAS_IMG_LEN_HI_BYTES : Fld := ⟨0x20015C, 0, 32⟩
abbrev EAS_IMG_USED_LO_BYTES : Fld := ⟨0x200160, 0, 32⟩
abbrev EAS_IMG_USED_HI_BYTES : Fld := ⟨0x200164, 0, 32⟩
abbrev EAS_LIFE_TIME_US : Fld := ⟨0x200168, 0, 32⟩
abbrev EAS_IMG_DIG_DIGEST (i : Nat) : Fld := ⟨0x200170 + i * 4, 0, 32⟩
abbrev EAS_RESETS_COUNT : Fld := ⟨0x200190, 0, 16⟩
/-! ### 13 R417 -/
abbrev YZF_STATUS_LINK_UP : Fld := ⟨0x240000, 0, 16⟩
abbrev YZF_STATUS_ETH_UP : Fld := ⟨0x240000, 16, 8⟩
abbrev YZF_STATUS_JOBS : Fld := ⟨0x240000, 24, 5⟩
abbrev YZF_CFG_ETYPE : Fld := ⟨0x240004, 0, 16⟩
abbrev YZF_CFG_MTU9K : Fld := ⟨0x240004, 16, 1⟩
abbrev YZF_CFG_PCP : Fld := ⟨0x240004, 17, 3⟩
abbrev YZF_CFG_ETH_PATHS : Fld := ⟨0x240004, 24, 8⟩
abbrev YZF_VLAN_VID : Fld := ⟨0x240008, 0, 12⟩
abbrev YZF_BOUNDS_FENCE_US : Fld := ⟨0x24000C, 0, 16⟩
abbrev YZF_BOUNDS_DEAD_US : Fld := ⟨0x24000C, 16, 16⟩
abbrev YZF_MCAST_HOLD_HOLD_US : Fld := ⟨0x240010, 0, 16⟩
abbrev YZF_MAC_LO_MAC : Fld := ⟨0x240014, 0, 32⟩
abbrev YZF_MAC_HI_MAC : Fld := ⟨0x240018, 0, 16⟩
abbrev YZF_HOMEQ_DEPTH : Fld := ⟨0x24001C, 0, 13⟩
abbrev YZF_HOMEQ_PEAK : Fld := ⟨0x24001C, 16, 13⟩
abbrev YZF_REFUSED_COUNT : Fld := ⟨0x240020, 0, 32⟩
abbrev YZF_COMBINED_COUNT : Fld := ⟨0x240024, 0, 32⟩
abbrev YZF_DROP_JOB : Fld := ⟨0x240028, 0, 16⟩
abbrev YZF_DROP_SPOOF : Fld := ⟨0x240028, 16, 16⟩
abbrev YZF_ICRC_COUNT : Fld := ⟨0x24002C, 0, 16⟩
abbrev YZF_LINK_STATUS_MODE (i : Nat) : Fld := ⟨0x240040 + i * 16, 0, 2⟩
abbrev YZF_LINK_STATUS_UP (i : Nat) : Fld := ⟨0x240040 + i * 16, 2, 1⟩
abbrev YZF_LINK_STATUS_LANES_UP (i : Nat) : Fld := ⟨0x240040 + i * 16, 4, 4⟩
abbrev YZF_LINK_REPLAY_COUNT (i : Nat) : Fld := ⟨0x240044 + i * 16, 0, 16⟩
abbrev YZF_LINK_TX_UNITS (i : Nat) : Fld := ⟨0x240048 + i * 16, 0, 32⟩
abbrev YZF_LINK_RX_UNITS (i : Nat) : Fld := ⟨0x24004C + i * 16, 0, 32⟩
abbrev YZF_RANK_Q_SLOT : Fld := ⟨0x240140, 0, 4⟩
abbrev YZF_RANK_Q_RANK : Fld := ⟨0x240140, 16, 12⟩
abbrev YZF_RANK_DATA_ENTRY (i : Nat) : Fld := ⟨0x240144 + i * 4, 0, 32⟩
abbrev YZF_JOB_ID_JOB (i : Nat) : Fld := ⟨0x240200 + i * 32, 0, 32⟩
abbrev YZF_JOB_EPOCH_EPOCH (i : Nat) : Fld := ⟨0x240204 + i * 32, 0, 32⟩
abbrev YZF_JOB_RANKS_SELF (i : Nat) : Fld := ⟨0x240208 + i * 32, 0, 12⟩
abbrev YZF_JOB_RANKS_COUNT (i : Nat) : Fld := ⟨0x240208 + i * 32, 16, 13⟩
abbrev YZF_JOB_EASELS_LO_MASK (i : Nat) : Fld := ⟨0x24020C + i * 32, 0, 32⟩
abbrev YZF_JOB_EASELS_HI_MASK (i : Nat) : Fld := ⟨0x240210 + i * 32, 0, 32⟩
abbrev YZF_JOB_MIG_STATE (i : Nat) : Fld := ⟨0x240214 + i * 32, 0, 2⟩
abbrev YZF_JOB_MIG_GEN (i : Nat) : Fld := ⟨0x240214 + i * 32, 8, 8⟩
abbrev YZF_JOB_MIG_LATE (i : Nat) : Fld := ⟨0x240214 + i * 32, 16, 16⟩
abbrev YZF_JOB_MIG_US_US (i : Nat) : Fld := ⟨0x240218 + i * 32, 0, 32⟩
/-! ### 13 R418 -/
abbrev YZF_EAS_STATUS_MEMBER : Fld := ⟨0x240400, 0, 1⟩
abbrev YZF_EAS_STATUS_SLOT : Fld := ⟨0x240400, 1, 4⟩
abbrev YZF_EAS_STATUS_CFG_ERR : Fld := ⟨0x240400, 5, 1⟩
abbrev YZF_EAS_STATUS_MCAST : Fld := ⟨0x240400, 6, 1⟩
abbrev YZF_EAS_MCAST_UNIT : Fld := ⟨0x240404, 0, 23⟩
abbrev YZF_EAS_MCAST_CTRL_LOAD : Fld := ⟨0x240408, 0, 1⟩
abbrev YZF_EAS_OPS_COUNT : Fld := ⟨0x24040C, 0, 32⟩
abbrev YZF_EAS_DEAD_COUNT : Fld := ⟨0x240410, 0, 16⟩
abbrev YZF_EAS_FTO_COUNT : Fld := ⟨0x240414, 0, 16⟩
abbrev YZF_EAS_FTO_CHANNEL : Fld := ⟨0x240414, 16, 11⟩
abbrev YZF_EAS_FTO_N_RANKS : Fld := ⟨0x240418, 0, 13⟩
abbrev YZF_EAS_FTO_RANK_RANK_A (i : Nat) : Fld := ⟨0x24041C + i * 4, 0, 12⟩
abbrev YZF_EAS_FTO_RANK_VALID_A (i : Nat) : Fld := ⟨0x24041C + i * 4, 12, 1⟩
abbrev YZF_EAS_FTO_RANK_RANK_B (i : Nat) : Fld := ⟨0x24041C + i * 4, 16, 12⟩
abbrev YZF_EAS_FTO_RANK_VALID_B (i : Nat) : Fld := ⟨0x24041C + i * 4, 28, 1⟩
abbrev YZF_EAS_RETRY_MOVED : Fld := ⟨0x24042C, 0, 16⟩
abbrev YZF_EAS_RETRY_OTHER : Fld := ⟨0x24042C, 16, 16⟩
abbrev YZF_EAS_MISSED_COUNT : Fld := ⟨0x240430, 0, 16⟩
abbrev YZF_EAS_MISSED_LAST_RANK : Fld := ⟨0x240430, 16, 12⟩
/-! ### 14 R440 -/
abbrev ETH_PORTSEL_PORT : Fld := ⟨0x280000, 0, 3⟩
abbrev FLW_SEL_FLOW : Fld := ⟨0x280004, 0, 13⟩
abbrev ETH_LINK_UP_UP : Fld := ⟨0x280008, 0, 32⟩
abbrev FLW_ACTIVE_FLOWS : Fld := ⟨0x28000C, 0, 14⟩
/-! ### 14 R441 -/
abbrev ETH_PORT_CFG_MODE : Fld := ⟨0x280100, 0, 2⟩
abbrev ETH_PORT_CFG_MEDIA : Fld := ⟨0x280100, 2, 2⟩
abbrev ETH_PORT_CFG_YAROZ : Fld := ⟨0x280100, 4, 1⟩
abbrev ETH_PORT_CFG_MAX_FRAME : Fld := ⟨0x280100, 16, 14⟩
abbrev ETH_PORT_LINK_UP : Fld := ⟨0x280104, 0, 4⟩
abbrev ETH_PORT_LINK_AN_DONE : Fld := ⟨0x280104, 4, 4⟩
abbrev ETH_PORT_LINK_FEC_ALIGN : Fld := ⟨0x280104, 8, 4⟩
abbrev ETH_PORT_FEC_CE_COUNT : Fld := ⟨0x280108, 0, 32⟩
abbrev ETH_PORT_FEC_UE_COUNT : Fld := ⟨0x28010C, 0, 16⟩
abbrev ETH_SUB_MAC_LO_MAC (i : Nat) : Fld := ⟨0x280110 + i * 8, 0, 32⟩
abbrev ETH_SUB_MAC_HI_MAC (i : Nat) : Fld := ⟨0x280114 + i * 8, 0, 16⟩
abbrev ETH_SUB_RX_COUNT (i : Nat) : Fld := ⟨0x280140 + i * 16, 0, 32⟩
abbrev ETH_SUB_TX_COUNT (i : Nat) : Fld := ⟨0x280144 + i * 16, 0, 32⟩
abbrev ETH_SUB_ERR_FCS (i : Nat) : Fld := ⟨0x280148 + i * 16, 0, 16⟩
abbrev ETH_SUB_ERR_NOFLOW (i : Nat) : Fld := ⟨0x280148 + i * 16, 16, 16⟩
abbrev ETH_SUB_CTRL_CTRL (i : Nat) : Fld := ⟨0x28014C + i * 16, 0, 16⟩
abbrev ETH_SUB_CTRL_ECPRI_OTHER (i : Nat) : Fld := ⟨0x28014C + i * 16, 16, 16⟩
/-! ### 14 R442 -/
abbrev FLW_CFG_KIND : Fld := ⟨0x280200, 0, 3⟩
abbrev FLW_CFG_EASEL : Fld := ⟨0x280200, 4, 6⟩
abbrev FLW_CFG_PORT : Fld := ⟨0x280200, 10, 3⟩
abbrev FLW_CFG_SUBPORT : Fld := ⟨0x280200, 13, 2⟩
abbrev FLW_CFG_LAUNCH : Fld := ⟨0x280200, 15, 1⟩
abbrev FLW_CFG_BCAST : Fld := ⟨0x280200, 16, 1⟩
abbrev FLW_CFG_COMP : Fld := ⟨0x280200, 17, 4⟩
abbrev FLW_KEY_VID : Fld := ⟨0x280204, 0, 12⟩
abbrev FLW_KEY_PCP : Fld := ⟨0x280204, 12, 3⟩
abbrev FLW_KEY_EAXC : Fld := ⟨0x280204, 16, 16⟩
abbrev FLW_MAC_LO_MAC : Fld := ⟨0x280208, 0, 32⟩
abbrev FLW_MAC_HI_MAC : Fld := ⟨0x28020C, 0, 16⟩
abbrev FLW_PAL_LIM_MIN : Fld := ⟨0x280210, 0, 15⟩
abbrev FLW_PAL_LIM_CAP : Fld := ⟨0x280210, 16, 15⟩
abbrev FLW_PAL_HELD : Fld := ⟨0x280214, 0, 15⟩
abbrev FLW_FRAMES_COUNT : Fld := ⟨0x280218, 0, 32⟩
abbrev FLW_RX_DROP_NOBUF : Fld := ⟨0x28021C, 0, 16⟩
abbrev FLW_RX_DROP_SRC : Fld := ⟨0x28021C, 16, 16⟩
abbrev FLW_TX_DROP_BAD : Fld := ⟨0x280220, 0, 16⟩
abbrev FLW_TX_DROP_SPOOF : Fld := ⟨0x280220, 16, 16⟩
abbrev FLW_LATE_COUNT : Fld := ⟨0x280224, 0, 16⟩
abbrev FLW_LATE_MAX : Fld := ⟨0x280224, 16, 16⟩
abbrev FLW_TIMING_LATE_NS : Fld := ⟨0x280228, 0, 16⟩
abbrev FLW_TIMING_NODE : Fld := ⟨0x280228, 16, 16⟩
/-! ### 15 R459 -/
abbrev EGS_NODESEL_NODE : Fld := ⟨0x2C0000, 0, 12⟩
abbrev EGS_NODES_USED : Fld := ⟨0x2C0004, 0, 13⟩
abbrev EGS_REFILLS_COUNT : Fld := ⟨0x2C0008, 0, 32⟩
abbrev EGS_SAMPLES_COUNT : Fld := ⟨0x2C000C, 0, 32⟩
/-! ### 15 R460 -/
abbrev EGS_NODE_CFG_LEVEL : Fld := ⟨0x2C0100, 0, 2⟩
abbrev EGS_NODE_CFG_RADIO : Fld := ⟨0x2C0100, 2, 1⟩
abbrev EGS_NODE_CFG_KIND : Fld := ⟨0x2C0100, 3, 1⟩
abbrev EGS_NODE_CFG_SERVICE : Fld := ⟨0x2C0100, 4, 3⟩
abbrev EGS_NODE_CFG_EASEL : Fld := ⟨0x2C0100, 8, 6⟩
abbrev EGS_NODE_CFG_PARENT : Fld := ⟨0x2C0100, 16, 12⟩
abbrev EGS_NODE_RATE_MBPS : Fld := ⟨0x2C0104, 0, 20⟩
abbrev EGS_NODE_BURST_BYTES : Fld := ⟨0x2C0108, 0, 25⟩
abbrev EGS_NODE_CREDIT_BITS : Fld := ⟨0x2C010C, 0, 28⟩
abbrev EGS_NODE_BYTES_LO_BYTES : Fld := ⟨0x2C0110, 0, 32⟩
abbrev EGS_NODE_BYTES_HI_BYTES : Fld := ⟨0x2C0114, 0, 32⟩
abbrev EGS_NODE_FRAMES_COUNT : Fld := ⟨0x2C0118, 0, 32⟩
abbrev EGS_NODE_LAUNCH_COUNT : Fld := ⟨0x2C011C, 0, 32⟩
abbrev EGS_NODE_WAITS_COUNT : Fld := ⟨0x2C0120, 0, 16⟩
/-! ### 15 R461 -/
abbrev EGS_EAS_Q_ETH_BYTES : Fld := ⟨0x2C0200, 0, 21⟩
abbrev EGS_EAS_Q_YZF_BYTES : Fld := ⟨0x2C0204, 0, 21⟩
abbrev EGS_EAS_Q_CXL_BYTES : Fld := ⟨0x2C0208, 0, 21⟩
abbrev EGS_EAS_ETH_UNITS : Fld := ⟨0x2C020C, 0, 32⟩
abbrev EGS_EAS_YZF_UNITS : Fld := ⟨0x2C0210, 0, 32⟩
abbrev EGS_EAS_CXL_UNITS : Fld := ⟨0x2C0214, 0, 32⟩
/-! ### 15 R462 -/
abbrev EGS_Q_CTRL_CLEAR : Fld := ⟨0x2C0400, 0, 1⟩
abbrev EGS_Q_NOW_DEPTH : Fld := ⟨0x2C0404, 0, 27⟩
abbrev EGS_Q_NOW_DELAY_NS : Fld := ⟨0x2C0408, 0, 32⟩
abbrev EGS_Q_DHIST_COUNT (i : Nat) : Fld := ⟨0x2C0440 + i * 4, 0, 32⟩
abbrev EGS_Q_LHIST_COUNT (i : Nat) : Fld := ⟨0x2C0480 + i * 4, 0, 32⟩
/-! ### 16 R482 -/
abbrev TOD_NOW_FRAC_FRAC : Fld := ⟨0x300000, 0, 16⟩
abbrev TOD_NOW_NS_LO_NS : Fld := ⟨0x300004, 0, 32⟩
abbrev TOD_NOW_NS_HI_NS : Fld := ⟨0x300008, 0, 32⟩
abbrev TOD_STATE_STATE : Fld := ⟨0x30000C, 0, 2⟩
abbrev TOD_STATE_SOURCE : Fld := ⟨0x30000C, 2, 2⟩
abbrev TOD_STATE_TX_OK : Fld := ⟨0x30000C, 4, 1⟩
abbrev TOD_STATE_STEP_WAIT : Fld := ⟨0x30000C, 5, 1⟩
abbrev TOD_STATE_HOLD_S : Fld := ⟨0x30000C, 16, 16⟩
abbrev TOD_CFG_SOURCE : Fld := ⟨0x300010, 0, 2⟩
abbrev TOD_CFG_TX_HOLD_S : Fld := ⟨0x300010, 16, 16⟩
abbrev TOD_SET_LO_NS : Fld := ⟨0x300014, 0, 32⟩
abbrev TOD_SET_HI_NS : Fld := ⟨0x300018, 0, 32⟩
abbrev TOD_CTRL_SET : Fld := ⟨0x30001C, 0, 1⟩
abbrev TOD_CTRL_SET_PPS : Fld := ⟨0x30001C, 1, 1⟩
abbrev TOD_INCR_LO_INCR : Fld := ⟨0x300020, 0, 32⟩
abbrev TOD_INCR_HI_INCR : Fld := ⟨0x300024, 0, 8⟩
abbrev TOD_OFFSET_OFS : Fld := ⟨0x300028, 0, 32⟩
abbrev TOD_FFO_PPT : Fld := ⟨0x30002C, 0, 32⟩
abbrev TOD_FRAME_OFS_NS : Fld := ⟨0x300030, 0, 32⟩
abbrev TOD_STEPS_COUNT : Fld := ⟨0x300034, 0, 16⟩
abbrev PTP_SYNCE_CFG_MODE : Fld := ⟨0x300040, 0, 2⟩
abbrev PTP_SYNCE_CFG_BW : Fld := ⟨0x300040, 2, 2⟩
abbrev PTP_SYNCE_CFG_FORCE_SUB : Fld := ⟨0x300040, 4, 5⟩
abbrev PTP_SYNCE_STATE_STATE : Fld := ⟨0x300044, 0, 2⟩
abbrev PTP_SYNCE_STATE_SUB : Fld := ⟨0x300044, 4, 5⟩
abbrev PTP_SYNCE_STATE_SSM : Fld := ⟨0x300044, 12, 4⟩
abbrev PTP_CFG_DOMAIN : Fld := ⟨0x300048, 0, 8⟩
abbrev PTP_CFG_TC_DOMAIN : Fld := ⟨0x300048, 8, 8⟩
abbrev PTP_CFG_TC_EN : Fld := ⟨0x300048, 16, 1⟩
abbrev PTP_CFG_NONFWD : Fld := ⟨0x300048, 17, 1⟩
abbrev PTP_ANNOUNCE_CLASS : Fld := ⟨0x30004C, 0, 8⟩
abbrev PTP_ANNOUNCE_ACCURACY : Fld := ⟨0x30004C, 8, 8⟩
abbrev PTP_ANNOUNCE_STEPS_REMOVED : Fld := ⟨0x30004C, 16, 16⟩
abbrev PTP_PPS_CFG_OUT_EN : Fld := ⟨0x300050, 0, 1⟩
abbrev PTP_PPS_CFG_ALWAYS : Fld := ⟨0x300050, 1, 1⟩
abbrev PTP_PPS_CFG_WIDTH_US : Fld := ⟨0x300050, 16, 16⟩
abbrev PTP_PPS_OFS_NS : Fld := ⟨0x300054, 0, 32⟩
abbrev PTP_PPS_IN_LO_NS : Fld := ⟨0x300058, 0, 32⟩
abbrev PTP_PPS_IN_HI_NS : Fld := ⟨0x30005C, 0, 32⟩
abbrev PTP_PPS_IN_CNT_COUNT : Fld := ⟨0x300060, 0, 32⟩
abbrev PTP_ALM_STATUS_FIRED : Fld := ⟨0x300064, 0, 16⟩
abbrev PTP_ALM_STATUS_ERR : Fld := ⟨0x300064, 16, 16⟩
/-! ### 16 R483 -/
abbrev PTP_SUB_CFG_PTP_EN (i : Nat) : Fld := ⟨0x300100 + i * 32, 0, 1⟩
abbrev PTP_SUB_CFG_MASTER_ONLY (i : Nat) : Fld := ⟨0x300100 + i * 32, 1, 1⟩
abbrev PTP_SUB_CFG_SYNCE_EN (i : Nat) : Fld := ⟨0x300100 + i * 32, 2, 1⟩
abbrev PTP_SUB_STATE_PORT_STATE (i : Nat) : Fld := ⟨0x300104 + i * 32, 0, 4⟩
abbrev PTP_SUB_CONST_TX (i : Nat) : Fld := ⟨0x300108 + i * 32, 0, 16⟩
abbrev PTP_SUB_CONST_RX (i : Nat) : Fld := ⟨0x300108 + i * 32, 16, 16⟩
abbrev PTP_SUB_CARD_TX (i : Nat) : Fld := ⟨0x30010C + i * 32, 0, 16⟩
abbrev PTP_SUB_CARD_RX (i : Nat) : Fld := ⟨0x30010C + i * 32, 16, 16⟩
abbrev PTP_SUB_MPD_PS (i : Nat) : Fld := ⟨0x300110 + i * 32, 0, 32⟩
abbrev PTP_SUB_TX_COUNT (i : Nat) : Fld := ⟨0x300114 + i * 32, 0, 32⟩
abbrev PTP_SUB_RX_COUNT (i : Nat) : Fld := ⟨0x300118 + i * 32, 0, 32⟩
abbrev PTP_SUB_LATE_COUNT (i : Nat) : Fld := ⟨0x30011C + i * 32, 0, 16⟩
/-! ### 16 R482 -/
abbrev PTP_ALM_TIME_LO_NS (i : Nat) : Fld := ⟨0x300200 + i * 16, 0, 32⟩
abbrev PTP_ALM_TIME_HI_NS (i : Nat) : Fld := ⟨0x300204 + i * 16, 0, 32⟩
abbrev PTP_ALM_CFG_LINK (i : Nat) : Fld := ⟨0x300208 + i * 16, 0, 11⟩
abbrev PTP_ALM_CFG_EN (i : Nat) : Fld := ⟨0x300208 + i * 16, 11, 1⟩
abbrev PTP_ALM_PERIOD_NS (i : Nat) : Fld := ⟨0x30020C + i * 16, 0, 32⟩
/-! ### 21 R588 -/
abbrev FLT_INJSEL_DETECTOR : Fld := ⟨0x340000, 0, 8⟩
abbrev FLT_HEALTH_SCORE : Fld := ⟨0x340004, 0, 10⟩
abbrev FLT_HEALTH_BAND : Fld := ⟨0x340004, 10, 2⟩
abbrev FLT_HEALTH_QUARANTINED : Fld := ⟨0x340004, 12, 1⟩
abbrev FLT_HEALTH_RAW_RAW : Fld := ⟨0x340008, 0, 10⟩
abbrev FLT_HEALTH_RAW_RAW_BAND : Fld := ⟨0x340008, 10, 2⟩
abbrev FLT_HEALTH_RAW_CAP : Fld := ⟨0x340008, 12, 3⟩
abbrev FLT_HEALTH_DWELL_S : Fld := ⟨0x34000C, 0, 16⟩
abbrev FLT_PENALTY_D : Fld := ⟨0x340010, 0, 24⟩
abbrev FLT_QUAR_CTRL_ENTER : Fld := ⟨0x340014, 0, 1⟩
abbrev FLT_QUAR_CTRL_LEAVE : Fld := ⟨0x340014, 1, 1⟩
abbrev FLT_QUAR_CTRL_KEY : Fld := ⟨0x340014, 24, 8⟩
abbrev FLT_EN_EN (i : Nat) : Fld := ⟨0x340020 + i * 4, 0, 32⟩
abbrev FLT_SEEN_SEEN (i : Nat) : Fld := ⟨0x340040 + i * 4, 0, 32⟩
abbrev FLT_LOG_COUNT_COUNT : Fld := ⟨0x340060, 0, 32⟩
abbrev FLT_LOG_IDX_INDEX : Fld := ⟨0x340064, 0, 18⟩
abbrev FLT_LOG_DATA_DATA (i : Nat) : Fld := ⟨0x340080 + i * 4, 0, 32⟩
abbrev FLT_LOSS_RANK : Fld := ⟨0x3400A0, 0, 12⟩
abbrev FLT_LOSS_VALID : Fld := ⟨0x3400A0, 12, 1⟩
abbrev FLT_LOSS_SLOT : Fld := ⟨0x3400A0, 16, 4⟩
abbrev FLT_LOSS_EASELS_LO_MASK : Fld := ⟨0x3400A4, 0, 32⟩
abbrev FLT_LOSS_EASELS_HI_MASK : Fld := ⟨0x3400A8, 0, 32⟩
/-! ### 21 R589 -/
abbrev FLT_DET_INFO_CLASS : Fld := ⟨0x340100, 0, 3⟩
abbrev FLT_DET_INFO_ATTRIB : Fld := ⟨0x340100, 3, 2⟩
abbrev FLT_DET_INFO_MASKABLE : Fld := ⟨0x340100, 5, 1⟩
abbrev FLT_DET_INFO_ENABLED : Fld := ⟨0x340100, 6, 1⟩
abbrev FLT_DET_INFO_WHAT_OK : Fld := ⟨0x340100, 8, 4⟩
abbrev FLT_DET_COUNT_COUNT : Fld := ⟨0x340104, 0, 32⟩
abbrev FLT_INJCFG_WHEN : Fld := ⟨0x340108, 0, 1⟩
abbrev FLT_INJCFG_WHAT : Fld := ⟨0x340108, 1, 2⟩
abbrev FLT_INJCFG_EASEL : Fld := ⟨0x340108, 3, 6⟩
abbrev FLT_INJCFG_SEL : Fld := ⟨0x340108, 9, 7⟩
abbrev FLT_INJCFG_N : Fld := ⟨0x340108, 16, 16⟩
abbrev FLT_INJARM_ARM : Fld := ⟨0x34010C, 0, 1⟩
abbrev FLT_INJARM_DISARM : Fld := ⟨0x34010C, 1, 1⟩
abbrev FLT_INJSTAT_ARMED : Fld := ⟨0x340110, 0, 1⟩
abbrev FLT_INJSTAT_REFUSED : Fld := ⟨0x340110, 1, 1⟩
abbrev FLT_INJSTAT_FIRED : Fld := ⟨0x340110, 16, 16⟩
/-! ### 21 R590 -/
abbrev FLT_EAS_CTRL_ENABLE : Fld := ⟨0x340200, 0, 1⟩
abbrev FLT_EAS_BASE_LO_ADDR : Fld := ⟨0x340204, 0, 32⟩
abbrev FLT_EAS_BASE_HI_ADDR : Fld := ⟨0x340208, 0, 32⟩
abbrev FLT_EAS_SIZE_SIZE : Fld := ⟨0x34020C, 0, 5⟩
abbrev FLT_EAS_HEAD_HEAD : Fld := ⟨0x340210, 0, 16⟩
abbrev FLT_EAS_TAIL_TAIL : Fld := ⟨0x340214, 0, 16⟩
abbrev FLT_EAS_LOST_COUNT : Fld := ⟨0x340218, 0, 16⟩
abbrev FLT_EAS_SUMMARY_CLASS : Fld := ⟨0x34021C, 0, 8⟩
abbrev FLT_EAS_SUMMARY_USAGE : Fld := ⟨0x34021C, 8, 1⟩
/-! ### 20 R570 -/
abbrev TRU_BOOT_SOURCE : Fld := ⟨0x380000, 0, 2⟩
abbrev TRU_BOOT_RESULT : Fld := ⟨0x380000, 8, 8⟩
abbrev TRU_BOOT_CTRL_PUSH_NEXT : Fld := ⟨0x380004, 0, 1⟩
abbrev TRU_BOOT_CTRL_SVN_COMMIT : Fld := ⟨0x380004, 1, 1⟩
abbrev TRU_BOOT_CTRL_KEY : Fld := ⟨0x380004, 24, 8⟩
abbrev TRU_FUSE_LIFECYCLE : Fld := ⟨0x380008, 0, 1⟩
abbrev TRU_FUSE_ROOT_VALID : Fld := ⟨0x380008, 4, 4⟩
abbrev TRU_FUSE_ROOT_REVOKED : Fld := ⟨0x380008, 8, 4⟩
abbrev TRU_FUSE_DEBUG_VALID : Fld := ⟨0x380008, 12, 2⟩
abbrev TRU_FUSE_SVN_MIN : Fld := ⟨0x380008, 16, 6⟩
abbrev TRU_SVN_SVN : Fld := ⟨0x38000C, 0, 32⟩
abbrev TRU_ID_STATE : Fld := ⟨0x380010, 0, 2⟩
abbrev TRU_ID_DIG_DIGEST (i : Nat) : Fld := ⟨0x380020 + i * 4, 0, 32⟩
abbrev TRU_MBX_CTRL_START : Fld := ⟨0x380040, 0, 1⟩
abbrev TRU_MBX_CTRL_DONE : Fld := ⟨0x380040, 1, 1⟩
abbrev TRU_MBX_CTRL_ABORT : Fld := ⟨0x380040, 2, 1⟩
abbrev TRU_MBX_STATUS_STATE : Fld := ⟨0x380044, 0, 3⟩
abbrev TRU_MBX_REQ_OFS_OFS : Fld := ⟨0x380048, 0, 32⟩
abbrev TRU_MBX_REQ_LEN_LEN : Fld := ⟨0x38004C, 0, 17⟩
abbrev TRU_UPD_ADDR_LO_ADDR : Fld := ⟨0x380060, 0, 32⟩
abbrev TRU_UPD_ADDR_HI_ADDR : Fld := ⟨0x380064, 0, 32⟩
abbrev TRU_UPD_LEN_BYTES : Fld := ⟨0x380068, 0, 27⟩
abbrev TRU_UPD_CTRL_GO : Fld := ⟨0x38006C, 0, 1⟩
abbrev TRU_UPD_STATUS_CODE : Fld := ⟨0x380070, 0, 8⟩
abbrev TRU_UPD_STATUS_PERCENT : Fld := ⟨0x380070, 8, 7⟩
abbrev TRU_GRANT_ADDR_LO_ADDR : Fld := ⟨0x380080, 0, 32⟩
abbrev TRU_GRANT_ADDR_HI_ADDR : Fld := ⟨0x380084, 0, 32⟩
abbrev TRU_GRANT_CTRL_GO : Fld := ⟨0x380088, 0, 1⟩
abbrev TRU_GRANT_CTRL_REVOKE : Fld := ⟨0x380088, 1, 1⟩
abbrev TRU_GRANT_STATUS_CODE : Fld := ⟨0x38008C, 0, 8⟩
abbrev TRU_GRANT_STATUS_CAPS : Fld := ⟨0x38008C, 8, 6⟩
abbrev TRU_GRANT_LEFT_S : Fld := ⟨0x380090, 0, 17⟩
abbrev TRU_DBG_RESET_KICK : Fld := ⟨0x380094, 0, 32⟩
abbrev TRU_SPDM_SESSIONS : Fld := ⟨0x3800A0, 0, 3⟩
abbrev TRU_SPDM_ERRORS : Fld := ⟨0x3800A0, 16, 16⟩
abbrev TRU_MBX_DATA_DATA (i : Nat) : Fld := ⟨0x390000 + i * 4, 0, 32⟩
/-! ### 08 R267 -/
abbrev RAD_CELLSEL_CELL : Fld := ⟨0x3C0000, 0, 9⟩
abbrev RAD_STATUS_CELLS : Fld := ⟨0x3C0004, 0, 9⟩
abbrev RAD_STATUS_UNITS : Fld := ⟨0x3C0004, 9, 9⟩
abbrev RAD_STATUS_RUNNING : Fld := ⟨0x3C0004, 18, 9⟩
abbrev RAD_STATUS_SYNC_WAIT : Fld := ⟨0x3C0004, 27, 1⟩
abbrev RAD_LDPC_UTIL_W : Fld := ⟨0x3C0008, 0, 8⟩
abbrev RAD_LDPC_UTIL_C : Fld := ⟨0x3C0008, 8, 8⟩
abbrev RAD_LDPC_UTIL_E : Fld := ⟨0x3C0008, 16, 8⟩
abbrev RAD_RISK_SHED : Fld := ⟨0x3C000C, 0, 16⟩
/-! ### 08 R268 -/
abbrev RAD_CELL_CFG_CLASS : Fld := ⟨0x3C0100, 0, 2⟩
abbrev RAD_CELL_CFG_SCS : Fld := ⟨0x3C0100, 2, 1⟩
abbrev RAD_CELL_CFG_DUPLEX : Fld := ⟨0x3C0100, 3, 1⟩
abbrev RAD_CELL_CFG_PANEL : Fld := ⟨0x3C0100, 4, 2⟩
abbrev RAD_CELL_CFG_PRBS : Fld := ⟨0x3C0100, 7, 9⟩
abbrev RAD_CELL_CFG_UNITS : Fld := ⟨0x3C0100, 16, 4⟩
abbrev RAD_CELL_CFG_CELL_ID : Fld := ⟨0x3C0100, 20, 9⟩
abbrev RAD_CELL_MAP_SC_FIRST : Fld := ⟨0x3C0104, 0, 6⟩
abbrev RAD_CELL_MAP_SC_COUNT : Fld := ⟨0x3C0104, 8, 7⟩
abbrev RAD_CELL_MAP_FLOW_BASE : Fld := ⟨0x3C0104, 16, 13⟩
abbrev RAD_CELL_STATE_STATE : Fld := ⟨0x3C0108, 0, 3⟩
abbrev RAD_CELL_STATE_SFN : Fld := ⟨0x3C0108, 4, 10⟩
abbrev RAD_CELL_STATE_SLOT : Fld := ⟨0x3C0108, 14, 5⟩
abbrev RAD_CELL_SLOTS_COUNT : Fld := ⟨0x3C010C, 0, 32⟩
abbrev RAD_CELL_LATE_REQ_COUNT : Fld := ⟨0x3C0110, 0, 16⟩
abbrev RAD_CELL_DL_BLANK_COUNT : Fld := ⟨0x3C0114, 0, 16⟩
abbrev RAD_CELL_UL_WIN_EARLY : Fld := ⟨0x3C0118, 0, 16⟩
abbrev RAD_CELL_UL_WIN_LATE : Fld := ⟨0x3C0118, 16, 16⟩
abbrev RAD_CELL_UL_MISS_MISSING : Fld := ⟨0x3C011C, 0, 16⟩
abbrev RAD_CELL_UL_MISS_BADHDR : Fld := ⟨0x3C011C, 16, 16⟩
abbrev RAD_CELL_LDPC_ITER_CAP : Fld := ⟨0x3C0120, 0, 16⟩
abbrev RAD_CELL_LDPC_DEC_TIMEOUT : Fld := ⟨0x3C0120, 16, 16⟩
abbrev RAD_CELL_HARQ_NOBUF : Fld := ⟨0x3C0124, 0, 16⟩
abbrev RAD_CELL_HARQ_POISON : Fld := ⟨0x3C0124, 16, 16⟩
abbrev RAD_CELL_HARQ_USE_KIB : Fld := ⟨0x3C0128, 0, 19⟩
abbrev RAD_CELL_SHED_COUNT : Fld := ⟨0x3C012C, 0, 16⟩
/-! ### 17 R509 -/
abbrev CXL_LINK_MODE : Fld := ⟨0x400000, 0, 2⟩
abbrev CXL_LINK_RATE : Fld := ⟨0x400000, 2, 2⟩
abbrev CXL_LINK_WIDTH : Fld := ⟨0x400000, 4, 5⟩
abbrev CXL_LINK_LOPT : Fld := ⟨0x400000, 9, 1⟩
abbrev CXL_LINK_EVENTS_RETRAINS : Fld := ⟨0x400004, 0, 16⟩
abbrev CXL_LINK_EVENTS_DOWNS : Fld := ⟨0x400004, 16, 16⟩
abbrev CXL_FLR_PF : Fld := ⟨0x400008, 0, 16⟩
abbrev CXL_FLR_VF : Fld := ⟨0x400008, 16, 16⟩
abbrev CXL_IDE_POLICY_REQUIRE : Fld := ⟨0x40000C, 0, 1⟩
abbrev CXL_IDE_STATUS_CM_SECURE : Fld := ⟨0x400010, 0, 1⟩
abbrev CXL_IDE_STATUS_IO_LINK : Fld := ⟨0x400010, 1, 1⟩
abbrev CXL_IDE_STATUS_IO_SEL : Fld := ⟨0x400010, 2, 2⟩
abbrev CXL_IDE_STATUS_FAILS : Fld := ⟨0x400010, 16, 16⟩
abbrev CXL_ATC_MISSES : Fld := ⟨0x400014, 0, 16⟩
abbrev CXL_ATC_INVALS : Fld := ⟨0x400014, 16, 16⟩
abbrev CXL_MEM_ERR_REFUSED : Fld := ⟨0x400018, 0, 16⟩
abbrev CXL_MEM_ERR_POISON : Fld := ⟨0x400018, 16, 16⟩
abbrev CXL_LOST_WR_COUNT : Fld := ⟨0x40001C, 0, 16⟩
/-! ### 17 R511 -/
abbrev CXL_EAS_IRQ_COUNT : Fld := ⟨0x400200, 0, 8⟩
abbrev CXL_EAS_IRQ_TIME : Fld := ⟨0x400200, 16, 16⟩
abbrev CXL_EAS_XLATE_FAULTS : Fld := ⟨0x400204, 0, 16⟩
abbrev CXL_EAS_HOST_RD_UNITS : Fld := ⟨0x400208, 0, 32⟩
abbrev CXL_EAS_MEM_RD_UNITS : Fld := ⟨0x40020C, 0, 32⟩
abbrev CXL_EAS_MEM_WR_UNITS : Fld := ⟨0x400210, 0, 32⟩
/-! ### 17 R510 -/
abbrev FQ_RQ_BASE_LO_ADDR (i : Nat) : Fld := ⟨0x400400 + i * 64, 0, 32⟩
abbrev FQ_RQ_BASE_HI_ADDR (i : Nat) : Fld := ⟨0x400404 + i * 64, 0, 32⟩
abbrev FQ_RQ_CFG_SIZE (i : Nat) : Fld := ⟨0x400408 + i * 64, 0, 5⟩
abbrev FQ_RQ_CFG_ENABLE (i : Nat) : Fld := ⟨0x400408 + i * 64, 8, 1⟩
abbrev FQ_RQ_HEAD_OFS (i : Nat) : Fld := ⟨0x40040C + i * 64, 0, 32⟩
abbrev FQ_IND_BASE_LO_ADDR (i : Nat) : Fld := ⟨0x400410 + i * 64, 0, 32⟩
abbrev FQ_IND_BASE_HI_ADDR (i : Nat) : Fld := ⟨0x400414 + i * 64, 0, 32⟩
abbrev FQ_IND_CFG_SIZE (i : Nat) : Fld := ⟨0x400418 + i * 64, 0, 5⟩
abbrev FQ_IND_TAIL_OFS (i : Nat) : Fld := ⟨0x40041C + i * 64, 0, 32⟩
abbrev FQ_LINE_LO_ADDR (i : Nat) : Fld := ⟨0x400420 + i * 64, 0, 32⟩
abbrev FQ_LINE_HI_ADDR (i : Nat) : Fld := ⟨0x400424 + i * 64, 0, 32⟩
abbrev FQ_STATUS_BADMSG (i : Nat) : Fld := ⟨0x400428 + i * 64, 0, 1⟩
abbrev FQ_STATUS_IND_HELD (i : Nat) : Fld := ⟨0x400428 + i * 64, 1, 1⟩
abbrev FQ_IND_DROP_COUNT (i : Nat) : Fld := ⟨0x40042C + i * 64, 0, 16⟩
abbrev FQ_MSGS_IN_COUNT (i : Nat) : Fld := ⟨0x400430 + i * 64, 0, 32⟩
abbrev FQ_MSGS_OUT_COUNT (i : Nat) : Fld := ⟨0x400434 + i * 64, 0, 32⟩

end Sys2Proof.Machine.F
end

