-- ==== Sys2Proof/Machine/Detectors.lean ====
section
/-! DEFINITION. Machine/Detectors.lean: the catalogue of the 212 fault detectors (21 R571, R572, R579, R589) and what a register
holds at reset, unit by unit. -/
namespace Sys2Proof.Machine

/-- A range of the catalogue: last index, class (FLT_DET_INFO.CLASS), attribution (R573), penalty of a corrected and of another
event in 1/64 point (R571, R582). -/
structure DetRange where
  last : Nat
  cls : Nat
  attrib : Nat
  penCorr : Nat
  pen : Nat
  deriving DecidableEq, Repr

/-- The catalogue of R571, range by range. -/
def detRanges : List DetRange :=
  [⟨17, 0, 0, 1, 1600⟩, ⟨35, 1, 0, 1600, 1600⟩, ⟨83, 0, 0, 1, 1600⟩, ⟨131, 1, 0, 1600, 1600⟩, ⟨134, 0, 0, 1, 1600⟩,
   ⟨137, 1, 0, 1600, 1600⟩, ⟨138, 0, 0, 1, 1600⟩, ⟨141, 1, 0, 1600, 1600⟩, ⟨142, 2, 3, 0, 0⟩, ⟨143, 2, 0, 1600, 1600⟩,
   ⟨146, 2, 0, 1600, 1600⟩, ⟨147, 2, 1, 0, 0⟩, ⟨148, 2, 1, 0, 0⟩, ⟨173, 3, 0, 1, 1⟩, ⟨174, 4, 3, 0, 0⟩, ⟨176, 4, 1, 0, 0⟩,
   ⟨177, 4, 3, 0, 0⟩, ⟨184, 5, 2, 640, 640⟩, ⟨191, 5, 2, 12800, 12800⟩, ⟨192, 5, 2, 3200, 3200⟩, ⟨193, 6, 2, 12800, 12800⟩,
   ⟨198, 6, 0, 12800, 12800⟩, ⟨200, 7, 2, 640, 640⟩, ⟨201, 7, 2, 6400, 6400⟩, ⟨202, 7, 2, 1280, 1280⟩,
   ⟨205, 7, 0, 1280, 1280⟩, ⟨208, 7, 0, 320, 320⟩, ⟨209, 7, 0, 19200, 19200⟩, ⟨211, 7, 0, 640, 640⟩]

/-- The range that holds a detector. -/
def detRange (d : Nat) : DetRange :=
  match detRanges.find? (fun r => decide (d ≤ r.last)) with
  | some r => r
  | none => ⟨0, 0, 0, 0, 0⟩

/-- The detectors that cause resets (R572): no section may disable them. -/
def detResets (d : Nat) : Bool := decide ((185 ≤ d ∧ d ≤ 191) ∨ (193 ≤ d ∧ d ≤ 198) ∨ d = 209)

/-- Whether an alteration is allowed for a class (R579). -/
def whatOk (cls what : Nat) : Bool :=
  match what with
  | 0 => decide (4 ≤ cls)
  | 1 => decide (cls = 0 ∨ cls = 1 ∨ cls = 3)
  | 2 => decide (cls = 0)
  | 3 => decide (cls = 2)
  | _ => false

/-- FLT_DET_INFO of a detector before apply, when every detector is enabled (R572, R589). -/
def detInfo (d : Nat) : Nat :=
  let r := detRange d
  r.cls + 8 * r.attrib + (if detResets d then 0 else 32) + 64 +
    256 * ((if whatOk r.cls 0 then 1 else 0) + (if whatOk r.cls 1 then 2 else 0) + (if whatOk r.cls 2 then 4 else 0) +
      (if whatOk r.cls 3 then 8 else 0))

/-- The units between two keys of the register file: BAR0 is a 64 MiB window (00 "Registers"). -/
def regSpan : Nat := 0x4000000

/-- What the register of a key holds at reset. -/
def regDefault (k : Nat) : BitVec 32 :=
  if k % regSpan = 0x340100 then BitVec.ofNat 32 (detInfo (k / regSpan))
  else if k % regSpan = 0x380008 then Sys2Proof.Config.fuseWord &&& 0x3F3FF1
  else resetWord (k % regSpan)

/-- The key of a register: the unit its window reaches (0 for a global register) and its offset (00 R7). -/
def regKey (unit off : Nat) : Nat := unit * regSpan + off

/-- The bits that keep their value at every reset but POR (00 R6 RWS; 03 R68, R77, R89; 04 R120 PASSES; 21 R582), and the fuses, which no reset changes (20 R549), by offset. -/
def stickyMask (off : Nat) : BitVec 32 :=
  if off = 0x20010 ∨ off = 0x20034 ∨ off = 0x30044 ∨ off = 0x30048 ∨ off = 0x340004 ∨ off = 0x340008 ∨ off = 0x34000C ∨
      off = 0x340010 ∨ off = 0x380008 ∨ off = 0x40118 then 0xFFFFFFFF
  else match regRow? off with
    | some r => BitVec.ofNat 32 r.rws
    | none => 0

end Sys2Proof.Machine
end

