-- ==== Sys2Proof/Machine/State.lean ====
section
/-! DEFINITION. Machine/State.lean: everything the spec gives the device that changes while it runs, as plain data. A value that a
register shows lives in the register file `State.regs` and nowhere else; what no register shows has a field of its own. -/
namespace Sys2Proof.Machine

open Sys2Proof

/-- Why the block could stop on a command. -/
inductive Fault where
  /-- Raised by no command: every fault of the spec is an effect on the state (21 R573). Safe. -/
  | none
  deriving DecidableEq, Repr

/-- Why a command could have no meaning in the model. -/
inductive Refusal where
  /-- Raised by Dispatch.lean for a command that has no meaning yet. Safe. -/
  | notModelled (mnemonic : String)
  deriving DecidableEq, Repr

/-- The answers of the SPDM responder (20 R563). -/
inductive SpdmResp where
  | version
  | capabilities
  | algorithms
  | digests (d : List Nat)
  | certificate (bytes : List Nat) (more : Nat)
  | challengeAuth
  | count (n : Nat)
  | measurements (m : List (Nat × List Nat)) (signed : Bool)
  | keyExchange (sess : Nat)
  | finish
  | endSession
  | heartbeat
  | keyUpdate
  | ideKm
  | busy
  | unspecified
  /-- A request that the device does not answer in the state it is in: the error of SPDM that fits. -/
  | refused
  deriving DecidableEq, Repr

/-- What leaves the block: the model's own record of it, oldest first (notes/assumptions/1.md). -/
inductive Output where
  /-- Bytes written to host memory through a function (17 R489, R490). -/
  | hostWrite (fn addr : Nat) (bytes : List Nat)
  /-- An MSI-X message of a function (17 R501). -/
  | msix (fn vec : Nat)
  /-- The value of a register read (00 R5). -/
  | readData (req : Requester) (off : Nat) (value : BitVec 32)
  /-- A Yaroz packet sent on a path (13 R384). -/
  | yaroz (path : Nat) (pkt : YzPkt)
  /-- A frame started on a subport in a start slot, from the destination MAC to the end of the padded payload (14 R433). -/
  | ethFrame (sub slot : Nat) (bytes : List Nat)
  /-- The answer of a request to bonded memory (04 R101): easel, status (0 OK, 1 OUT_OF_SHARE, 2 poison), data. -/
  | memResp (easel status : Nat) (data : List Nat)
  /-- The answer of a configuration request: completed normally, or with retry status (03 R80). -/
  | config (fn : Nat) (retry : Bool)
  /-- An answer of the SPDM responder (20 R563). -/
  | spdm (r : SpdmResp)
  /-- The image programmed into the card's flash (20 R561). -/
  | flash (image : Blob)
  /-- An edge of PPS_OUT (16 R478). -/
  | ppsOut (high : Bool)
  deriving DecidableEq, Repr

/-- A fault record (21 R573) without the fields that its delivery adds. -/
structure FaultRec where
  det : Nat
  code : Nat
  sev : Nat
  attrib : Nat
  injected : Bool
  usage : Bool
  easel : Nat
  unitKind : Nat
  unit : Nat
  info : Nat
  count : Nat
  time : Nat
  deriving DecidableEq, Repr

/-- The progress of one ring the device writes: the PHASE it writes next and the records delivered (10 R334, R335). -/
structure RingPos where
  phase : Bool
  seqno : Nat
  deriving DecidableEq, Repr

/-- A ring as its ENABLE leaves it (10 R335). -/
def RingPos.start : RingPos := ⟨true, 0⟩

/-- Faults (21): records waiting for their fold window, the device log by position (32 bytes each), the rings' progress, the events each injection point has
seen since it was armed. -/
structure FltSt where
  folds : List FaultRec
  log : SMap (List Nat)
  ring : SMap RingPos
  injSeen : SMap Nat
  deriving DecidableEq, Repr

/-- A deficit round robin (15 R451): the active easels from the head, their deficits, and whether the head's quantum has been added at this visit. -/
structure Drr where
  active : List Nat
  deficit : SMap Nat
  visited : Bool
  deriving DecidableEq, Repr

/-- The link to the host (17): open MSI-X vectors and their pending bits, records not yet signalled, host pages whose translation is refused. -/
structure CxlSt where
  msixOpen : NSet
  msixPending : NSet
  unsignalled : SMap Nat
  denied : NSet
  /-- An insecure CXL.cachemem stream has stopped CXL.cache and CXL.mem (R503). -/
  stopped : Bool
  /-- NumVFs while VF Enable is set, else 0 (R486). -/
  vfs : Nat
  /-- By easel, the writes to host memory and the MSI-X messages behind them that wait for the link, and the round robin of the CXL instance (15 R451, R453). -/
  egress : SMap (List Output)
  drr : Drr
  deriving DecidableEq, Repr

/-- Bonded memory beside its bytes (04): open rows by bank, the refresh rate due at a stack's next interval, the patrol scrubber's next
granule. -/
structure BondSt where
  openRow : SMap Nat
  rateDue : SMap Nat
  scrubPos : SMap Nat
  deriving DecidableEq, Repr

/-- An easel's shares, the fields BONDED to SEQ of its EASELS entry (10 R307). -/
structure ShareVec where
  bonded : Nat
  scratch : Nat
  dmem : Nat
  pmem : Nat
  scSlots : Nat
  tcSlots : Nat
  palette : Nat
  seq : Nat
  deriving DecidableEq, Repr

/-- One easel of a pending EASELS retouch: its shares before and after, and whether its memory shrinks have taken effect (02 R47). -/
structure PendShare where
  easel : Nat
  old : ShareVec
  new : ShareVec
  shrunk : Bool
  deriving DecidableEq, Repr

/-- A record waiting in its scoreboard entry for the completion ring (10 R334, R336). -/
structure PostedRec where
  kind : Nat
  bytes : List Nat
  time : Nat
  deriving DecidableEq, Repr

/-- Who waits for a count of a semaphore (09 R287, R288). -/
inductive Waiter where
  /-- The next command of an easel to launch on a T-core. -/
  | tcore (core id : Nat)
  /-- A stream channel. -/
  | channel (n : Nat)
  /-- A gather request of an embedding engine. -/
  | emb (id : Nat)
  /-- A radio command of an S-core's plan. -/
  | score (core id : Nat)
  deriving DecidableEq, Repr

/-- Scoreboards and schedulers (10): per easel the commands and descriptors not yet complete in admission order, completed step-end marks
that wait for earlier ones, the next admission number, records waiting for the ring, the ring's progress. -/
structure SchedSt where
  outstanding : SMap (List Nat)
  marks : SMap (List Nat)
  nextId : Nat
  undelivered : SMap (List PostedRec)
  ring : SMap RingPos
  /-- Virtual time by engine and easel (R319). -/
  vtime : SMap Rat
  /-- Takes waiting on each semaphore, in arrival order (09 R288). -/
  waiting : SMap (List Waiter)
  /-- Signals on their way to a semaphore (09 R289). -/
  signals : List Nat
  /-- Takes granted and not yet used by their waiter (09 R289). -/
  granted : List Waiter
  /-- Occupancy granted to tenant commands by engine in the power window (19 R541). -/
  window : SMap Nat
  /-- Commands in flight or parked that launched in the mode not in force (10 R312). -/
  moving : List Nat
  /-- By engine, the easels with an eligible command at its latest decision point (10 R319). -/
  elig : SMap (List Nat)
  /-- By 2 · easel for the submission ring, and that plus 1 for the completion ring: 1 a ring that could not be accessed and waits for its owner's write, 2 one that may be tried
  again (10 R607). -/
  ringBad : SMap Nat
  deriving DecidableEq, Repr

/-- A command in a T-core's or S-core's queue (05 R154, 07 R223): its admission number and easel, its command words, whether it is a radio
command of the slot plan with its latest start and release in cycles of its engine (10 R321, R326), whether its take was sent, whether it has
been counted as passed over (10 R318). -/
structure Cmd where
  id : Nat
  easel : Nat
  words : List Nat
  radio : Bool
  latest : Nat
  release : Nat
  sent : Bool
  passed : Bool
  deriving DecidableEq, Repr

/-- How one group of a launched T-core command ends: group (15 for none), status, arrays whose outputs are poisoned (05 R161), and the output rows that are
written by then: address in the easel's share, bytes. -/
structure GroupEnd where
  group : Nat
  status : Nat
  arrays : Nat
  rows : List (Nat × List Nat)
  deriving DecidableEq, Repr

/-- A launched T-core command and the groups whose records are still due. -/
structure TcRun where
  cmd : Cmd
  ends : List GroupEnd
  deriving DecidableEq, Repr

/-- The idle weight set of an array as it was loaded (05 R126, R166, R167): easel, W_ADDR, format, and the bytes of chunk 0's tile, 256 added to a
poisoned one. -/
structure TcWarm where
  easel : Nat
  wAddr : Nat
  fmt : Nat
  tile : List Nat
  deriving DecidableEq, Repr

/-- An idle set that holds nothing known. -/
def TcWarm.none : TcWarm := ⟨64, 0, 0, []⟩

/-- A T-core (05): commands queued and not granted, granted and not launched, running; by array the easel of the previous launch and the idle weight
set; whether a command has launched since the core was reset. -/
structure TcSt where
  queue : List Cmd
  granted : List Cmd
  running : List TcRun
  prev : SMap Nat
  warm : SMap TcWarm
  launched : Bool
  deriving DecidableEq, Repr

/-- A T-core with nothing queued. -/
def TcSt.empty : TcSt := ⟨[], [], [], [], [], false⟩

/-- A register write on its way in an S-core's context (07 R198): the packet count at which it lands, where, the value and the bits of
the old value it keeps (R204); `late` lands after the others of its cycle (R217). -/
structure ScWr where
  due : Nat
  key : Nat
  val : Nat
  keep : Nat
  late : Bool
  deriving DecidableEq, Repr

/-- An active repeat loop (07 R206): first and last packet of its body, iterations left with the present one. -/
structure ScLoop where
  first : Nat
  stop : Nat
  left : Nat
  deriving DecidableEq, Repr

/-- A context of an S-core (07 R193, R197): its command, its registers (SCore.lean gives the keys), writes on their way, the packet counter, packets
issued, the next slot of the packet that is issuing, a branch on its way (packets before its target issues, target), loops with the innermost
first, packets issued before the outermost body, OVERRAN, pre-empted at least once, and the status and packet with which the command has ended. -/
structure ScCtx where
  cmd : Cmd
  regs : SMap Nat
  wr : List ScWr
  pc : Nat
  cyc : Nat
  slot : Nat
  delay : Option (Nat × Nat)
  loops : List ScLoop
  base : Nat
  overran : Bool
  parked : Bool
  ended : Option (Nat × Nat)
  deriving DecidableEq, Repr

/-- An S-core (07): commands queued and not granted, granted and not launched; its two contexts and the one that runs; T_sw of a pre-emption that
waits for its boundary (R211); a debug halt. `running` is true for context 0. -/
structure ScSt where
  queue : List Cmd
  granted : List Cmd
  radio : Option ScCtx
  tenant : Option ScCtx
  running : Option Bool
  req : Option Nat
  halted : Bool
  deriving DecidableEq, Repr

/-- An S-core with nothing queued. -/
def ScSt.empty : ScSt := ⟨[], [], none, none, none, none, false⟩

/-- A sequence-table entry (11 R344): its fields, the number of its swap-out in order (R351), and an end that waits for the open step: CANCELLED by
SEQ_CLOSE (R348), LOST by poison in its committed slots or by SEQ_LOSE, with the fault's INFO (R363). -/
structure SeqEntry where
  state : Nat
  endCode : Nat
  spec : Bool
  ringWait : Bool
  pageWait : Bool
  draftStop : Bool
  draftMax : Nat
  prov : Nat
  outRing : Nat
  stopSet : Nat
  hist : List Nat
  tag : Nat
  seed : Nat
  promptAddr : Nat
  promptLen : Nat
  prefilled : Nat
  ctxLen : Nat
  genCount : Nat
  maxGen : Nat
  lastToken : Nat
  temp : Nat
  topP : Nat
  topK : Nat
  pages : Nat
  admitNo : Nat
  swapSlot : Nat
  swapNo : Nat
  cancel : Bool
  lost : Option Nat
  deriving DecidableEq, Repr

/-- A FREE entry. -/
def SeqEntry.free : SeqEntry :=
  ⟨0, 0, false, false, false, false, 0, 0, 0, 0, [], 0, 0, 0, 0, 0, 0, 0, 0, 0, 0, 0, 0, 0, 0, 0xFFFFFFFF, 0, false, none⟩

/-- A segment of the open step's work list (11 R353), the tokens its FINAL sample drew, and whether a logit row it needed was poisoned or empty. -/
structure SeqSeg where
  seq : Nat
  kind : Nat
  drafts : Nat
  row : Nat
  count : Nat
  pos : Nat
  logit : Nat
  toks : List Nat
  poison : Bool
  deriving DecidableEq, Repr

/-- A record on its way to an output ring (11 R361): the ring, the sequence, the 32 bytes with PHASE clear, and whether it is an END record. -/
structure OutRec where
  ring : Nat
  seq : Nat
  bytes : List Nat
  ends : Bool
  deriving DecidableEq, Repr

/-- The sequence engine's state for an easel (11): table entries by index, the open step's segments, rows and logit rows, the latest draft sample's
J, whether drafts or the FINAL sample have been taken, where the next step's decode selection starts, admission and swap-out counters, the
stop-set table as ENABLE copied it, the output rings' progress, a build that waits for admission (and whether AUTO tries again after an empty one), the admission
number of the FINAL sample in progress, entries waiting in the engine (admission number, bytes), by sequence one more than the admission number of the SEQ_SWAP whose
copy is in progress, records not yet written to their output rings, and by work-list buffer the draft rows of a closed step that were not varnished (R362). -/
structure SeqEas where
  entries : SMap SeqEntry
  segs : List SeqSeg
  rows : Nat
  logitRows : Nat
  lastDraft : Nat
  resume : Nat
  admitNo : Nat
  swapNo : Nat
  stop : List Nat
  ring : SMap RingPos
  buildWaits : Bool
  buildRetry : Bool
  finalTag : Nat
  queue : List (Nat × List Nat)
  swaps : SMap Nat
  outq : List OutRec
  stale : SMap (List Nat)
  deriving DecidableEq, Repr

/-- Before ENABLE. -/
def SeqEas.empty : SeqEas := ⟨[], [], 0, 0, 0, 0, 0, 0, [], [], false, false, 0, [], [], [], []⟩

/-- A Palette queue (09 R299): the stream position of its front, its bytes from there (256 is added to a byte marked poisoned, 512 stands for a
byte whose write has not completed). -/
structure PalQ where
  front : Nat
  bytes : List Nat
  deriving DecidableEq, Repr

/-- An empty queue. -/
def PalQ.empty : PalQ := ⟨0, []⟩

/-- A place in a space (09 R275). -/
structure Place where
  space : Nat
  target : Nat
  addr : Nat
  len : Nat
  deriving DecidableEq, Repr

/-- An instruction of a stroke (09 R278). -/
structure SInstr where
  op : Nat
  a : Nat
  b : Nat
  c : Nat
  d : Nat
  e : Nat
  deriving DecidableEq, Repr

/-- Who armed a run (09 R273; 10 R316, R333): for the slot plan, the items it serves (08 R244); the sequence engine arms the swap channel (11 R352). -/
inductive ArmBy where
  | register
  | ring
  | stroke
  | radio (items : List Nat)
  | engine
  deriving DecidableEq, Repr

/-- A descriptor run as it was armed (09 R273): address, count, host or bonded memory, and who armed it. -/
structure Arm where
  addr : Nat
  count : Nat
  host : Bool
  origin : ArmBy
  deriving DecidableEq, Repr

/-- GATHER on a side (09 R282): dimension, 32-bit index, shift. -/
structure Gather where
  dim : Nat
  wide : Bool
  shift : Nat
  deriving DecidableEq, Repr

/-- The nest and cursors of a side (09 R280 to R282): strides by dimension, cursor, wrap length (0 for none), gather. -/
structure Side where
  strides : List Int
  cur : Int
  wrap : Nat
  gather : Option Gather
  deriving DecidableEq, Repr

/-- A descriptor in execution (09): its 64 bytes and position, its stroke, the pc, the nest, loop counters by instruction, requests of the current MOVE done, what its
record will carry, whether its stroke has been fetched and checked, and whether its MOVE has the reading of a Palette queue (R299). -/
structure StrExec where
  desc : List Nat
  index : Nat
  stroke : List SInstr
  pc : Nat
  counts : List Nat
  run : Nat
  src : Side
  dst : Side
  loops : SMap Nat
  reqs : Nat
  status : Nat
  stPc : Nat
  bytes : Nat
  halted : Bool
  skipped : Bool
  started : Bool
  moving : Bool
  deriving DecidableEq, Repr

/-- A descriptor that has ended and whose writes may still be completing (09 R284). -/
structure StrDone where
  desc : List Nat
  index : Nat
  status : Nat
  stPc : Nat
  bytes : Nat
  halted : Bool
  skipped : Bool
  deriving DecidableEq, Repr

/-- A running run: the admission number of its first descriptor, the others following (10 R333); descriptors in hand, descriptors fetched and started so far, the status that
ends it once set (09 R293), whether its first record was posted, whether that sets OVERRUN, whether a descriptor ended with an error. -/
structure StrRun where
  arm : Arm
  base : Nat
  hand : List (List Nat)
  fetched : Nat
  started : Nat
  ending : Option Nat
  firstDone : Bool
  overrun : Bool
  bad : Bool
  deriving DecidableEq, Repr

/-- Who issued a fabric operation: a stream channel's descriptor, by its position in the run, or a gather request's row. -/
inductive YzOwner where
  | chan (n desc : Nat)
  | emb (id row : Nat)
  deriving DecidableEq, Repr

/-- What a fabric operation waits for at the requester (13 R396, R411, R414). -/
inductive YzHold where
  /-- Its packet waits for credits or a path, or is in flight. -/
  | flight
  | moved (gen : Nat)
  | retry
  | ahead
  | epochLow (epoch : Nat)
  | epochHigh
  deriving DecidableEq, Repr

/-- An outstanding fabric operation (13 R391 to R396): tag, easel, owner, job slot and rank, record fields, payload, where a load's data or an
atomic's old value goes, when it was first issued or its timer restarted, whether it belongs to a multicast stream. -/
structure YzOp where
  tag : Nat
  easel : Nat
  owner : YzOwner
  slot : Nat
  rank : Nat
  op : YzRec
  dest : List Place
  hold : YzHold
  mcast : Bool
  sent : Bool
  deriving DecidableEq, Repr

/-- A stream channel (09): its run, the pending arm and whether it coalesced, the descriptor in execution, those draining, the thread held,
whether it is parked, the status it halted with, and the fabric operations that RESUME reissues (R296). -/
structure Chan where
  run : Option StrRun
  pend : Option Arm
  pendOver : Bool
  exec : Option StrExec
  drain : List StrDone
  thread : Option Nat
  parked : Bool
  halt : Option Nat
  failed : List YzOp
  deriving DecidableEq, Repr

/-- An idle channel. -/
def Chan.idle : Chan := ⟨none, none, false, none, [], none, false, none, []⟩

/-- Stream engines (09): channels by number, the channels ready for a thread in the order they became ready (R271), and the runs of the slot plan that are over and
not yet consumed by the radio pipeline: the items they served, and whether a descriptor ended with an error (10 R333). -/
structure StrSt where
  chans : SMap Chan
  ready : List Nat
  finished : List (List Nat × Bool)
  deriving DecidableEq, Repr

/-- A packet sent or waiting to be sent: its number on the connection (given as it is first sent), its path once sent, timeouts so far, its easel, its multicast stream (channel, descriptor; 13
R408), its bytes as records; `type` REQ or RESP. -/
structure YzTx where
  psn : Nat
  path : Option Nat
  tries : Nat
  easel : Nat
  stream : Option (Nat × Nat)
  pkt : YzPkt
  deriving DecidableEq, Repr

/-- A connection to a rank (13 R398 to R401): next packet number, packets not acknowledged, packets waiting to be sent, packets granted and
packets sent under credits, next number expected, packets held ahead of a
gap, paths withdrawn, consecutive timeouts by path, round-robin position; packets granted to the peer and REQ packets received from it. -/
structure YzConn where
  nextPsn : Nat
  unacked : List YzTx
  waiting : List YzTx
  granted : Nat
  sent : Nat
  rxPsn : Nat
  ahead : List YzPkt
  withdrawn : NSet
  tmo : SMap Nat
  rr : Nat
  given : Nat
  got : Nat
  deriving DecidableEq, Repr

/-- An operation accepted at the target (13 R398, R406): connection, packet number, record. -/
structure YzIn where
  slot : Nat
  rank : Nat
  psn : Nat
  op : YzRec
  deriving DecidableEq, Repr

/-- The fabric (13): outstanding operations, the next tag, connections by slot · 4096 + rank, accepted operations in order, the home queue,
the multicast tables by easel (groups of ranks), receivers pruned (channel, descriptor, rank; 13 R409), rank entries by slot · 4096 + rank, when a slot became a tombstone and when a request last arrived for it, DEAD_TARGET counts by
easel, slot and rank (21 R586), and by link the next number sent, the latest received and the frames its replay buffer holds. -/
structure YzSt where
  ops : List YzOp
  nextTag : Nat
  conns : SMap YzConn
  ingress : List YzIn
  home : List YzIn
  mcast : SMap (List (List Nat))
  pruned : List (Nat × Nat × Nat)
  ranks : SMap (Nat × Nat × Nat × Nat)
  tombAt : SMap Nat
  tombLast : SMap Nat
  deadBy : SMap Nat
  lseq : SMap Nat
  lrx : SMap Nat
  replay : SMap (List YzPkt)
  deriving DecidableEq, Repr

/-- The canvas (02): the EASELS retouch that is pending; the payloads in force by section type. -/
structure CvsSt where
  pendShares : List PendShare
  live : SMap Blob
  /-- Entries of a FLOWS retouch and of a SHAPER_PARAM retouch that wait for the next refill (02 R49, R50): index, bytes. -/
  pendFlows : List (Nat × List Nat)
  pendParam : List (Nat × List Nat)
  /-- The latest submission's bit of CVS_RT_PENDING while it is pending; 4 for none. CVS_RT_STATUS shows the latest submission alone (02 R44). -/
  latest : Nat
  deriving DecidableEq, Repr

/-- Tenancy (18): easels whose admission a freeze has stopped (R515); by easel when the operation in progress began, in ns. -/
structure TenSt where
  stopped : NSet
  since : SMap Nat
  deriving DecidableEq, Repr

/-- Where the image comes from and how far it has come (20 R552, R553; 02 R27): `idle`, `header` and `firmware` while the ROM reads a push, `checked` once the
ROM has accepted it; `table`, `padding`, `early` and `late` while apply reads a push, in that order; `ready` once all of it is there. -/
inductive BootStage where
  | idle
  | header
  | firmware
  | checked
  | table
  | padding
  | early
  | late
  | ready
  deriving DecidableEq, Repr

/-- Boot and apply (02, 20): the image as far as it has been read, the ranges a push still has to bring (the posted request first), measurements 1 to 4 (R564), the
identity's certificate chain, and the public key that signed the image. -/
structure BootSt where
  image : Blob
  stage : BootStage
  want : List (Nat × Nat)
  meas : List (List Nat)
  chain : List Nat
  key : List Nat
  deriving DecidableEq, Repr

/-- Nothing read. -/
def BootSt.empty : BootSt := ⟨⟨0, []⟩, .idle, [], [], [], []⟩

/-- Trust (20): the powers of the debug grant in force, the debug chain E, the image of an update once fetched, sessions open (and whether FINISH has
completed each). -/
structure TruSt where
  caps : Nat
  chain : List Nat
  upd : Blob
  sess : List (Nat × Bool)
  deriving DecidableEq, Repr

/-- A row that a gather request reads (12 R371 to R377): 0 outstanding, 1 present, missing because its rank is dead 2, at the deadline 3, by its index 4, for another
cause 5; read from another rank; its bytes, 256 added to a poisoned one. -/
structure EmbRow where
  state : Nat
  remote : Bool
  bytes : List Nat
  deriving DecidableEq, Repr

/-- A gather request (12 R370): its admission number, easel and engine, its entry, whether it has launched, parked or met its deadline; indices, offsets and weights (256 · 2^32
added to a poisoned one), rows by global index, bags written, whether one was written poisoned under R377. -/
structure EmbReq where
  id : Nat
  easel : Nat
  engine : Nat
  entry : List Nat
  launched : Bool
  parked : Bool
  expired : Bool
  idx : List Nat
  ofs : List Nat
  wgt : List Nat
  rows : SMap EmbRow
  written : NSet
  poisoned : Bool
  deriving DecidableEq, Repr

/-- Embedding engines (12): requests not complete in admission order, and the directories as ENABLE copied them, by easel. -/
structure EmbSt where
  reqs : List EmbReq
  dir : SMap (List Nat)
  deriving DecidableEq, Repr

/-- A Yaroz packet that waits for an Ethernet subport, and the easel it belongs to (64 for ACK, NAK and CREDIT) (15 R448, R452). -/
structure YzWait where
  easel : Nat
  pkt : YzPkt
  deriving DecidableEq, Repr

/-- A frame of the time block waiting at a subport (14 R438): its launch time in ns, its bytes, and for an event message the time in ns that its departure's
correction is measured from (16 R474, R475). -/
structure TbFrame where
  launch : Nat
  bytes : List Nat
  base : Option Int
  deriving DecidableEq, Repr

/-- Ports, flows and egress (14, 15): by subport the end of its latest frame in hundredths of ns; by flow the readable records (stream position of their end, time
of day when they became readable); transmit flows whose head record passed its checks; by flow the nodes its head was counted as waiting for; deleted flows
whose queue is not empty (02 R51); by subport the time block's frames; the round robins of the 32 subports and, after them, of the 16 links; by round-robin set the member served last; by path the Yaroz packets
that wait; by flow the frames of the radio pipeline that wait for a granule (08 R256). -/
structure EthSt where
  busy : SMap Nat
  recs : SMap (List (Nat × Nat))
  checked : NSet
  waited : SMap NSet
  freeing : NSet
  tb : SMap (List TbFrame)
  drr : SMap Drr
  turns : SMap Nat
  yzq : SMap (List YzWait)
  hold : SMap (List (List Nat))
  deriving DecidableEq, Repr

/-- A FAPI queue pair (17 R493 to R496): when each message taken and not yet executed became visible, offsets of the next request and of the L2's head of
indications, indications held back (cell, bytes). -/
structure FqSt where
  inbox : List Nat
  rq : Nat
  indHead : Nat
  held : List (Nat × List Nat)
  deriving DecidableEq, Repr

/-- A queue pair not enabled. -/
def FqSt.off : FqSt := ⟨[], 0, 0, []⟩

/-- An item of a slot plan (08 R244): the item, the number of its command, whether it has been done (1) or shed (2), and for a job that a
hard block has started when that was, in ns, and the iteration limit of a code block (R249). -/
structure RadItem where
  item : PlanItem
  id : Nat
  stat : Nat
  started : Option (Nat × Nat)
  deriving DecidableEq, Repr

/-- The decoding of an uplink transport block (08 R248 to R250): its PDU's handle, code blocks decoded (number, passed, bits), reported. -/
structure RadTb where
  handle : Nat
  done : List (Nat × Bool × List Nat)
  reported : Bool
  deriving DecidableEq, Repr

/-- A slot of a cell (08): message types taken or found late, PDUs, payloads by handle, the plan once complete, U-plane sections arrived (symbol, stream,
first PRB, PRBs), symbols whose window has closed, frames checked 2 µs before launch (symbol · 2^16 + place), transport blocks, handles of PDUs whose work
was shed, handles reported, the result deadline passed, PRBs taken as zero samples (symbol, stream, PRB), and symbols sent with zero samples. -/
structure RadSlot where
  taken : NSet
  late : NSet
  pdus : List RadPdu
  tx : List (Nat × List Nat)
  planned : Bool
  items : List RadItem
  arrived : List (Nat × Nat × Nat × Nat)
  closed : NSet
  checked : NSet
  tbs : List RadTb
  lost : List Nat
  reported : List Nat
  ended : Bool
  zeros : List (Nat × Nat × Nat)
  blank : NSet
  deriving DecidableEq, Repr

/-- A slot nothing is known of. -/
def RadSlot.empty : RadSlot := ⟨[], [], [], [], false, [], [], [], [], [], [], [], false, [], []⟩

/-- A HARQ buffer (08 R251): its 4 KiB blocks of the cell's pool, the slot of its latest request, bytes of a code block's soft values. -/
structure HarqBuf where
  blocks : List Nat
  last : Nat
  soft : Nat
  deriving DecidableEq, Repr

/-- A cell (08): its accepted configuration and last MIB, the move to HELD that a host reset asked for, the slot after which STOP takes effect, its slots, its HARQ
buffers by RNTI · 32 + process, the slot of the latest SLOT.indication, when held SSB bursts began, and the draw that the beam weights of the latest SRS come from. -/
structure RadCell where
  config : Option (List Nat)
  mib : Option Nat
  holdReq : Bool
  stopAfter : Option Nat
  slots : SMap RadSlot
  harq : SMap HarqBuf
  lastInd : Option Nat
  ssbFrom : Option Nat
  weights : Nat
  deriving DecidableEq, Repr

/-- A cell in IDLE. -/
def RadCell.idle : RadCell := ⟨none, none, false, none, [], [], none, none, 0⟩

/-- A PTP port (16 R472): the latest Sync (sequence, t_rx, origin with corrections, whether its origin is complete), the latest Delay_Req sent (sequence, t_tx), in
2^-16 ns; the difference of the latest Sync, when the latest valid pair came, the latest Announce, the latest quality level, and next sequence numbers. -/
structure PtpSub where
  syncSeq : Nat
  syncRx : Int
  syncOrg : Option Int
  reqSeq : Nat
  reqTx : Option Int
  fwd : Option Int
  pairAt : Option Nat
  announce : List Nat
  ql : Option Nat
  txSeq : Nat
  rqSeq : Nat
  anSeq : Nat
  deriving DecidableEq, Repr

/-- A port that has seen nothing. -/
def PtpSub.empty : PtpSub := ⟨0, 0, none, 0, none, none, none, [], none, 0, 0, 0⟩

/-- A step that waits (16 R465, R467, R469): SET, SET_PPS, or the servo's onto a source from which the counter differs by some 2^-16 ns. -/
inductive TodStep where
  | set (ns : Nat)
  | setPps (ns : Nat)
  | servo (ofs : Int)
  deriving DecidableEq, Repr

/-- The time block (16): the pending step, whether the servo has stepped since ACQUIRING was entered, the latest rate correction of LOCKED, since when the filtered offset has stayed within 20 ns, when HOLDOVER began, when the latest
PPS_IN edge that counts came, PTP ports, the latest whole second marked on PPS_OUT, and the end of the PPS_OUT pulse. -/
structure TimeSt where
  step : Option TodStep
  stepped : Bool
  lockRate : Nat
  inBand : Option Nat
  holdFrom : Nat
  ppsAt : Option Nat
  subs : SMap PtpSub
  ppsSec : Option Nat
  ppsEnd : Option Nat
  deriving DecidableEq, Repr

/-- Power and climate (19): resources in their exit (T-core c, 64 + stack, 128 + link), consecutive hot readings by die sensor and by stack, evaluations in a row in
which escalation's end condition held, each zone's radio power in each 1 ms of the last 100 ms, the latest first. -/
structure PowSt where
  waking : NSet
  dieHot : SMap Nat
  stkHot : SMap Nat
  calm : Nat
  prad : SMap (List Nat)
  deriving DecidableEq, Repr

/-- Resets (03): chip-reach sources asserted, by bit of R62; the reference is absent; the soft reset in progress (reach, target), and whether its held time is over; while the watchdog runs,
the time of day of its latest restart (R67). -/
structure RstSt where
  chipSrc : Nat
  refLost : Bool
  soft : Option (Nat × Nat)
  softOut : Bool
  wdog : Option Nat
  deriving DecidableEq, Repr

/-- What one requester holds: its select registers (00 R8) and YZF_RANK_Q (13 R416), by the register's key one more than a snapshot of a high half and than a held
low write (00 R5), and the halves of the time of day that a read of TOD_NOW_FRAC snapshot (16 R481). -/
structure ReqCtx where
  sel : SMap Nat
  snap : SMap Nat
  held : SMap Nat
  todLo : Option (BitVec 32)
  todHi : Option (BitVec 32)
  deriving DecidableEq, Repr

/-- The whole state of the block. -/
structure State where
  /-- The register file: key unit · 2^26 + BAR0 offset (00 R7). -/
  regs : SMap (BitVec 32)
  /-- Bytes of a counter of 64 KiB units that do not fill a unit yet, by the register's key. -/
  part : SMap Nat
  reqs : SMap ReqCtx
  /-- Every byte of bonded memory, scratchpads, DMEM and PMEM (Memory.lean gives the keys); an unlisted byte reads 0 (04 R115). -/
  mem : List Host.Cell
  /-- Granules that carry a poison mark (04 R112), by the key of their first byte divided by 64. -/
  poison : NSet
  /-- Units whose USED bit is set (04 R102; 05 R153; 07 R221), by the key of their first byte. -/
  used : NSet
  bond : BondSt
  /-- The time-of-day counter in units of 2^-40 ns (16 R463). -/
  tod : Nat
  flt : FltSt
  cxl : CxlSt
  tru : TruSt
  boot : BootSt
  sched : SchedSt
  tc : SMap TcSt
  sc : SMap ScSt
  seq : SMap SeqEas
  pal : SMap PalQ
  str : StrSt
  emb : EmbSt
  yz : YzSt
  ten : TenSt
  cvs : CvsSt
  eth : EthSt
  fq : SMap FqSt
  rad : SMap RadCell
  /-- By panel, the code blocks decoded in the last 10 ms: when, and S-cycles of a decoder (08 R267). -/
  ldpc : SMap (List (Nat × Nat))
  time : TimeSt
  pow : PowSt
  rst : RstSt
  out : List Output
  /-- The model's own counter of free values drawn (notes/assumptions/1.md). -/
  free : Nat
  /-- Commands waiting, first in, first out. -/
  pending : List Instr
  deriving DecidableEq, Repr

/-- The device right after its power-on reset (03 R75, R76): every register at the reset value of its table, which the empty register
file shows; memories zero and unused; nothing queued, armed or in flight. What the spec gives no reset value is named in
notes/assumptions/2.md and 3.md. -/
def State.reset : State :=
  { regs := [], part := [], reqs := [], mem := [], poison := [], used := []
    bond := ⟨[], [], []⟩
    tod := 0
    flt := ⟨[], [], [], []⟩
    cxl := ⟨[], [], [], [], false, 0, [], ⟨[], [], false⟩⟩
    tru := ⟨0, List.replicate 32 0, ⟨0, []⟩, []⟩
    boot := BootSt.empty
    sched := ⟨[], [], 0, [], [], [], [], [], [], [], [], [], []⟩
    tc := [], sc := [], seq := [], pal := []
    str := ⟨[], [], []⟩
    emb := ⟨[], []⟩
    yz := ⟨[], 0, [], [], [], [], [], [], [], [], [], [], [], []⟩
    ten := ⟨[], []⟩
    cvs := ⟨[], [], [], [], 4⟩
    eth := ⟨[], [], [], [], [], [], [], [], [], []⟩
    fq := [], rad := [], ldpc := []
    time := ⟨none, false, 0, none, 0, none, [], none, none⟩
    pow := ⟨[], [], [], 0, []⟩
    rst := ⟨1, false, none, false, none⟩
    out := [], free := 0, pending := [] }

end Sys2Proof.Machine
end

