-- ==== Sys2Proof/Machine/Ops.lean ====
section
/-! DEFINITION. Machine/Ops.lean: the operations every family uses: the register file and its fields, counters, time, free values,
what leaves the device (host memory, MSI-X), and the list helpers. -/
namespace Sys2Proof.Machine

open Sys2Proof

/-- What every meaning answers. -/
abbrev Res := Host.Outcome State Fault Refusal

/-! ### The register file (00 R3, R7) -/

/-- The word of a register of a unit (unit 0 for a global register). -/
def State.reg (s : State) (u off : Nat) : BitVec 32 := SMap.get regDefault s.regs (regKey u off)

/-- Set the word of a register. -/
def State.setReg (s : State) (u off : Nat) (w : BitVec 32) : State :=
  { s with regs := SMap.set regDefault s.regs (regKey u off) w }

/-- A field of a word. -/
def fieldOf (w : BitVec 32) (lo width : Nat) : Nat := w.toNat / 2 ^ lo % 2 ^ width

/-- A word with one field replaced; a value too wide for the field keeps its low bits. -/
def putField (w : BitVec 32) (lo width v : Nat) : BitVec 32 :=
  BitVec.ofNat 32 (w.toNat - fieldOf w lo width * 2 ^ lo + v % 2 ^ width * 2 ^ lo)

/-- The value of a register field. -/
def State.fld (s : State) (u : Nat) (f : Fld) : Nat := fieldOf (s.reg u f.off) f.lo f.width

/-- Set a register field. -/
def State.setFld (s : State) (u : Nat) (f : Fld) (v : Nat) : State :=
  s.setReg u f.off (putField (s.reg u f.off) f.lo f.width v)

/-- A one-bit field as a Bool. -/
def State.flag (s : State) (u : Nat) (f : Fld) : Bool := decide (s.fld u f ≠ 0)

/-- Set a one-bit field. -/
def State.setFlag (s : State) (u : Nat) (f : Fld) (b : Bool) : State := s.setFld u f (if b then 1 else 0)

/-- Set the bits of a mask in a field. -/
def State.orFld (s : State) (u : Nat) (f : Fld) (m : Nat) : State := s.setFld u f (s.fld u f ||| m)

/-- Clear the bits of a mask in a field. -/
def State.clrFld (s : State) (u : Nat) (f : Fld) (m : Nat) : State := s.setFld u f (s.fld u f - (s.fld u f &&& m))

/-- Raise a counting field that saturates at its largest value. -/
def State.incSat (s : State) (u : Nat) (f : Fld) (n : Nat) : State := s.setFld u f (min (s.fld u f + n) (2 ^ f.width - 1))

/-- Raise a counting field that wraps. -/
def State.incWrap (s : State) (u : Nat) (f : Fld) (n : Nat) : State := s.setFld u f (s.fld u f + n)

/-- A 64-bit value in two adjacent registers, bits 31:0 at the lower address (00 R5). -/
def State.fld64 (s : State) (u : Nat) (lo hi : Fld) : Nat := s.fld u lo + 2 ^ 32 * s.fld u hi

/-- Set a 64-bit value in two adjacent registers. -/
def State.setFld64 (s : State) (u : Nat) (lo hi : Fld) (v : Nat) : State := (s.setFld u lo v).setFld u hi (v / 2 ^ 32)

/-- Raise a 64-bit counter, wrapping. -/
def State.inc64 (s : State) (u : Nat) (lo hi : Fld) (n : Nat) : State := s.setFld64 u lo hi (s.fld64 u lo hi + n)

/-- Count bytes in a register that counts units of `unitBytes` and wraps. -/
def State.countUnits (s : State) (u : Nat) (f : Fld) (unitBytes n : Nat) : State :=
  let k := regKey u f.off
  let t := SMap.get (fun _ => 0) s.part k + n
  { s.incWrap u f (t / unitBytes) with part := SMap.set (fun _ => 0) s.part k (t % unitBytes) }

/-! ### Time, free values, outputs -/

/-- The increment of the time of day at a divider of the S domain, in 2^-40 ns (16 R464). -/
def nominalIncr (sDiv : Nat) : Nat := sDiv * 2 ^ 40 * 10 / 84

/-- The time-of-day counter in whole ns, 64 bits (16 R463). -/
def State.nowNs (s : State) : Nat := s.tod / 2 ^ 40 % 2 ^ 64

/-- Draw a free value: the number of the draw, and the state that has drawn it. -/
def State.draw (s : State) : Nat × State := (s.free, { s with free := s.free + 1 })

/-- A number as a register shows it: exact where it is whole, else rounded down or up (08 R267 and 19 R546 give no rounding). -/
def shown (r : Rat) : Nat := r.num.toNat / r.den + (if r.den ≠ 1 ∧ 0 < r ∧ Config.roundsUp r then 1 else 0)

/-- Record what leaves the device. -/
def State.emit (s : State) (o : Output) : State := { s with out := s.out ++ [o] }

/-- `n` bytes of a number, the lowest first. -/
def leBytes : Nat → Nat → List Nat
  | 0, _ => []
  | n + 1, v => v % 256 :: leBytes n (v / 256)

/-- A number from its bytes, the lowest first. -/
def ofLe : List Nat → Nat
  | [] => 0
  | b :: r => b % 256 + 256 * ofLe r

/-- The key of a host page of a function (pages of 4 KiB; 17 R489). -/
def hostPage (fn addr : Nat) : Nat := fn * 2 ^ 52 + addr / 4096

/-- Whether host memory can be reached over CXL.cache: the link is in CXL mode (17 R485), its stream is not stopped (R503), and it is secure
where REQUIRE asks for it (R504). -/
def State.hostUp (s : State) : Bool :=
  decide (s.fld 0 F.CXL_LINK_MODE = 2) && !s.cxl.stopped && (!s.flag 0 F.CXL_IDE_POLICY_REQUIRE || s.flag 0 F.CXL_IDE_STATUS_CM_SECURE)

/-- Whether the host translates an address for a function (17 R489). -/
def State.translates (s : State) (fn addr : Nat) : Bool := !NSet.has (hostPage fn addr) s.cxl.denied

/-- What waits for the link to the host, by easel (15 R453). -/
def State.hostQueue (s : State) (e : Nat) : List Output := SMap.get (fun _ => []) s.cxl.egress e

/-- Queue a write to host memory or a message for the link (15 R453). -/
def State.toHost (s : State) (e : Nat) (o : Output) : State :=
  { s with cxl := { s.cxl with egress := SMap.set (fun _ => []) s.cxl.egress e (s.hostQueue e ++ [o]) } }

/-- Write bytes to host memory for an easel through its function: the write waits for its turn on the link (15 R453; 17 R489). -/
def State.hostWrite (s : State) (easel addr : Nat) (bytes : List Nat) : State := s.toHost easel (.hostWrite easel addr bytes)

/-- The key of an MSI-X vector of a function. -/
def vecKey (fn vec : Nat) : Nat := fn * 128 + vec

/-- Fire an MSI-X vector: a masked one sets its pending bit (17 R502); the message follows the function's writes (notes/assumptions/151.md). -/
def State.fire (s : State) (fn vec : Nat) : State :=
  if NSet.has (vecKey fn vec) s.cxl.msixOpen then s.toHost fn (.msix fn vec)
  else { s with cxl := { s.cxl with msixPending := NSet.add (vecKey fn vec) s.cxl.msixPending } }

/-- A record was written to a ring whose vector is moderated: it fires when COUNT records wait, and at once with COUNT 0 or 1 or
TIME 0 (17 R502). -/
def State.fireModerated (s : State) (easel vec : Nat) : State :=
  let k := vecKey easel vec
  let n := SMap.get (fun _ => 0) s.cxl.unsignalled k + 1
  let c := s.fld easel F.CXL_EAS_IRQ_COUNT
  if c ≤ n ∨ s.fld easel F.CXL_EAS_IRQ_TIME = 0 then
    ({ s with cxl := { s.cxl with unsignalled := SMap.set (fun _ => 0) s.cxl.unsignalled k 0 } }).fire easel vec
  else { s with cxl := { s.cxl with unsignalled := SMap.set (fun _ => 0) s.cxl.unsignalled k n } }

/-! ### Requesters and selections (00 R8 to R10) -/

/-- The number of a requester: PF0 0, VF n n, the Atelier cores 64 and 65. -/
def reqNum : Requester → Nat
  | .pf0 => 0
  | .vf n => n.val
  | .atelier0 => 64
  | .atelier1 => 65

/-- What a requester holds before it has written anything. -/
def ReqCtx.init : ReqCtx := ⟨[], [], [], none, none⟩

/-- A requester's context. -/
def State.ctxOf (s : State) (r : Requester) : ReqCtx := SMap.get (fun _ => ReqCtx.init) s.reqs (reqNum r)

/-- Set a requester's context. -/
def State.setCtx (s : State) (r : Requester) (c : ReqCtx) : State :=
  { s with reqs := SMap.set (fun _ => ReqCtx.init) s.reqs (reqNum r) c }

/-- The number of a select register within a requester's copies. -/
def selNum : Selector → Nat
  | .strCh => 0
  | .flw => 1
  | .ethPort => 2
  | .tcCore => 3
  | .scCore => 4
  | .eas => 5
  | .memStk => 6
  | .radCell => 7
  | .fltInj => 8
  | .egsNode => 9
  | .clmZone => 10

/-- A requester's selection; through a VF, EAS_SEL reads as the VF's own easel (00 R10). -/
def State.selOf (s : State) (r : Requester) (x : Selector) : Nat :=
  match r, x with
  | .vf n, .eas => n.val
  | _, _ => SMap.get (fun _ => 0) (s.ctxOf r).sel (selNum x)

/-! ### Units in reset (03 R75, R605; 04 R117) -/

/-- Whether a panel is held in reset: by a soft reset until it is done, or because a stack of it failed to retrain. -/
def State.panelHeld (s : State) (p : Nat) : Bool := decide (s.rst.soft = some (2, p)) || (s.fld 0 F.RST_DOMAIN_PANEL).testBit p

/-- Whether a T-core or an S-core is held in reset. -/
def State.tcHeld (s : State) (core : Nat) : Bool := decide (s.rst.soft = some (3, core)) || s.panelHeld (core / 16)
def State.scHeld (s : State) (core : Nat) : Bool := decide (s.rst.soft = some (3, 256 + core)) || s.panelHeld (core / 64)

/-! ### List helpers -/

/-- Apply a step for each number below `n`, from 0 up. -/
def forUpto {σ : Type} (n : Nat) (f : Nat → σ → σ) (s : σ) : σ := (List.range n).foldl (fun t i => f i t) s

/-- Apply a step for each element of a list. -/
def forEach {σ α : Type} (l : List α) (f : α → σ → σ) (s : σ) : σ := l.foldl (fun t a => f a t) s

/-- The bits set in a number, among the lowest `n`. -/
def bitsOf (n m : Nat) : List Nat := (List.range n).filter (fun i => m.testBit i)

/-- The element at an index, or a default. -/
def nth {α : Type} (d : α) (l : List α) (i : Nat) : α := (l[i]?).getD d

/-- Round up to a multiple. -/
def alignUp (n m : Nat) : Nat := (n + m - 1) / m * m

end Sys2Proof.Machine
end

