-- ==== Sys2Proof/Machine/Access.lean ====
section
/-! DEFINITION. Machine/Access.lean: what an access of a requester to the registers reaches (00 R7, R8; 03 R80; 17 R485, R504): the link admits it, and the select registers
name the unit. The commands that are writes of one register go through `State.access`. -/
namespace Sys2Proof.Machine

open Sys2Proof

/-- Whether an IDE stream is secure: 0 CXL.cachemem, 1 the CXL.io link stream, 2 and 3 the selective streams. -/
def State.ideSecure (s : State) (k : Nat) : Bool := (s.reg 0 F.CXL_IDE_STATUS_CM_SECURE.off).toNat.testBit k

/-- The bit of CLK_STATUS.RUN of a domain (03 R91). -/
def domBit : Domain → Nat
  | .k => 0
  | .s => 1
  | .h => 2
  | .q => 3

/-- Whether a domain runs: the root PLL has locked and the domain has settled (03 R59, R91). -/
def State.runs (s : State) (d : Domain) : Bool := (s.fld 0 F.CLK_STATUS_RUN).testBit (domBit d)

/-- The Q domain is out of reset (03 R78): from bring-up step 3, outside a chip reset. -/
def State.qRuns (s : State) : Bool := decide (s.rst.chipSrc = 0 ∧ 3 ≤ s.fld 0 F.RST_BRINGUP_STEP)

/-- The device has taken the pins of step 9: pump, valve, charging, PPS_OUT and I3C (03 R83; 19 R536). -/
def State.pinsTaken (s : State) : Bool := s.qRuns && decide (9 ≤ s.fld 0 F.RST_BRINGUP_STEP)

/-- Whether CXL.io accesses are accepted: the link is up, and secure where REQUIRE asks for it (17 R485, R504). -/
def State.ioOpen (s : State) : Bool :=
  decide (s.fld 0 F.CXL_LINK_MODE ≠ 0) && (!s.flag 0 F.CXL_IDE_POLICY_REQUIRE || s.ideSecure 1 || s.ideSecure 2 || s.ideSecure 3)

/-- Whether the device answers an access of a requester: the chip is out of reset and the H domain, which holds the register bus and Atelier, has settled (03 R59); through PF0 and the VFs the link accepts it; before the canvas is sealed PF0 reaches, in
recovery or a push, the ID, CVS and TRU blocks only (03 R80; 20 R553); a VF is enabled (17 R486). -/
def State.barOpen (s : State) (req : Requester) (off : Nat) : Bool :=
  decide (s.rst.chipSrc = 0) && s.runs .h &&
    match req with
    | .atelier0 => true
    | .atelier1 => true
    | .pf0 => s.ioOpen && (decide (s.fld 0 F.CVS_STATE_STATE = 2) ||
        ((s.flag 0 F.RST_BRINGUP_RECOVERY || decide (s.fld 0 F.CVS_STATE_SOURCE = 2)) && decide (off < 0x20000 ∨ (0x380000 ≤ off ∧ off < 0x3A0000))))
    | .vf n => s.ioOpen && decide (s.fld 0 F.CVS_STATE_STATE = 2 ∧ 1 ≤ n.val ∧ n.val ≤ s.cxl.vfs)

/-- The unit number of a window reached by a core and an easel together. -/
def ce (core easel : Nat) : Nat := core * 64 + easel

/-- The unit that an access addresses (R7). -/
def State.unitAt (s : State) (req : Requester) (off : Nat) : Nat :=
  match windowOf off with
  | .global => 0
  | .stack => s.selOf req .memStk
  | .easel => s.selOf req .eas
  | .tcore => s.selOf req .tcCore
  | .tcoreEasel => ce (s.selOf req .tcCore) (s.selOf req .eas)
  | .score => s.selOf req .scCore
  | .scoreEasel => ce (s.selOf req .scCore) (s.selOf req .eas)
  | .channel => s.selOf req .strCh
  | .port => s.selOf req .ethPort
  | .flow => s.selOf req .flw
  | .node => s.selOf req .egsNode
  | .cell => s.selOf req .radCell
  | .detector => s.selOf req .fltInj
  | .zone => s.selOf req .clmZone

/-- A write of the register at an offset, whose effect is `f` of the unit that the requester's select register names at that moment (R7): nothing where the link does not
admit the access. -/
def State.access (s : State) (req : Requester) (off : Nat) (f : Nat → Res) : Res := if s.barOpen req off then f (s.unitAt req off) else .next s

end Sys2Proof.Machine
end

