-- ==== Sys2Proof/Machine/Faults.lean ====
section
/-! DEFINITION. Machine/Faults.lean: what an event of a detector and a usage fault do (21 R571 to R577), injection (R579 to R581), the
health score (R582, R583), and the meanings of the commands that belong to them. -/
namespace Sys2Proof.Machine

open Sys2Proof

/-! ### Names of the codes -/

/-- Severities (21 R573). -/
def sevCorrected : Nat := 0
def sevContained : Nat := 1
def sevService : Nat := 2
def sevFatal : Nat := 3

/-- Unit kinds of a record (21 R573). -/
def ukNone : Nat := 0
def ukTcore : Nat := 1
def ukScore : Nat := 2
def ukStack : Nat := 3
def ukChannel : Nat := 4
def ukFlow : Nat := 5
def ukPort : Nat := 6
def ukYzfLink : Nat := 7
def ukSequence : Nat := 8
def ukRail : Nat := 9
def ukSensor : Nat := 10
def ukCell : Nat := 11

/-- The easel a record of Atelier is charged to; the record's EASEL byte then reads 0x3F (21 R571). -/
def atelier : Nat := 64

/-- Codes of usage faults (21 R574). -/
def ufOutOfShare : Nat := 0x80
def ufOverrun : Nat := 0x81
def ufSemOverflow : Nat := 0x82
def ufTxRefused : Nat := 0x83
def ufTranslation : Nat := 0x84
def ufSeqLost : Nat := 0x85
def ufRankLost : Nat := 0x86
def ufChannelFault : Nat := 0x87

/-- Powers of a debug grant (20 R567). -/
def powInject : Nat := 0
def powUnderpaint : Nat := 1
def powRadioRead : Nat := 2
def powDebugReset : Nat := 3
def powHalt : Nat := 4
def powJtag : Nat := 5

/-- Whether a debug power is held: always in DEVELOPMENT, by the grant in force in PRODUCTION (20 R567). -/
def State.power (s : State) (p : Nat) : Bool := decide (s.fld 0 F.TRU_FUSE_LIFECYCLE = 0) || s.tru.caps.testBit p

/-! ### Records and rings -/

/-- The 32 bytes of a record as its ring or log holds it (21 R573). -/
def FaultRec.bytes (r : FaultRec) (phase : Bool) (seqno : Nat) : List Nat :=
  leBytes 2 r.det ++ leBytes 1 r.code ++
    leBytes 1 (r.sev + 4 * r.attrib + (if r.injected then 16 else 0) + (if r.usage then 32 else 0) + (if phase then 64 else 0)) ++
    leBytes 1 (if r.easel = atelier then 0x3F else r.easel) ++ leBytes 1 r.unitKind ++ leBytes 2 r.unit ++ leBytes 8 r.info ++
    leBytes 4 r.count ++ leBytes 4 seqno ++ leBytes 8 r.time

/-- A log entry before any record has been written to it. -/
def logBlank : List Nat := List.replicate 32 0

/-- The ring that receives a record: the easel's own, or easel 0's for a record of Atelier (21 R571, R576). -/
def FaultRec.ring (r : FaultRec) : Nat := if r.easel = atelier then 0 else r.easel

/-- Copy a record into the device log, which overwrites the oldest of 262,144 (21 R578). -/
def State.logFault (s : State) (r : FaultRec) (phase : Bool) (seqno : Nat) : State :=
  let i := s.fld 0 F.FLT_LOG_COUNT_COUNT % 262144
  { s.incWrap 0 F.FLT_LOG_COUNT_COUNT 1 with
    flt := { s.flt with log := SMap.set (fun _ => logBlank) s.flt.log i (r.bytes phase seqno) } }

/-- Whether a fault ring can take a record now (21 R577). -/
def State.faultRingOpen (s : State) (e : Nat) : Bool :=
  let t := s.fld e F.FLT_EAS_TAIL_TAIL
  s.flag e F.FLT_EAS_CTRL_ENABLE && decide (s.fld e F.EAS_LIFE_STATE ≠ 1) && decide (s.fld e F.EAS_LIFE_STATE ≠ 2) &&
    decide ((t + 1) % 2 ^ s.fld e F.FLT_EAS_SIZE_SIZE ≠ s.fld e F.FLT_EAS_HEAD_HEAD) &&
    s.hostUp && s.translates e (s.fld64 e F.FLT_EAS_BASE_LO_ADDR F.FLT_EAS_BASE_HI_ADDR + 32 * t)

/-- Write a record into a fault ring and send its vector (21 R576). -/
def State.faultRingWrite (s : State) (e : Nat) (r : FaultRec) : State :=
  let t := s.fld e F.FLT_EAS_TAIL_TAIL
  let p := SMap.get (fun _ => RingPos.start) s.flt.ring e
  let t' := (t + 1) % 2 ^ s.fld e F.FLT_EAS_SIZE_SIZE
  let s1 := s.hostWrite e (s.fld64 e F.FLT_EAS_BASE_LO_ADDR F.FLT_EAS_BASE_HI_ADDR + 32 * t) (r.bytes p.phase p.seqno)
  let p' : RingPos := ⟨if t' = 0 then !p.phase else p.phase, (p.seqno + 1) % 2 ^ 32⟩
  let s2 := { s1 with flt := { s1.flt with ring := SMap.set (fun _ => RingPos.start) s1.flt.ring e p' } }
  (s2.setFld e F.FLT_EAS_TAIL_TAIL t').fire e (if e = 0 then 1 else 2)

/-- Discard a record that its ring cannot take (21 R577). -/
def State.faultLost (s : State) (e : Nat) (r : FaultRec) : State :=
  let s1 := s.incSat e F.FLT_EAS_LOST_COUNT 1
  if r.usage then s1.setFlag e F.FLT_EAS_SUMMARY_USAGE true
  else s1.orFld e F.FLT_EAS_SUMMARY_CLASS (2 ^ (detRange r.det).cls)

/-- Deliver a record: the device log and the ring of the easel it is charged to (21 R576 to R578). The copy in the log carries the PHASE and SEQNO of
the ring's record; of a record that no ring took the spec states neither. -/
def State.deliverFault (s : State) (r : FaultRec) : State :=
  if s.faultRingOpen r.ring then
    let p := SMap.get (fun _ => RingPos.start) s.flt.ring r.ring
    (s.logFault r p.phase p.seqno).faultRingWrite r.ring r
  else
    let (k, s1) := s.draw
    (s1.logFault r (Config.lostMark k).1 (Config.lostMark k).2).faultLost r.ring r

/-! ### Events -/

/-- Whether a record stands for events of the same detector, easel and unit within 1 ms (21 R575). -/
def FaultRec.folds (f r : FaultRec) : Bool :=
  decide (f.det = r.det ∧ f.easel = r.easel ∧ f.unitKind = r.unitKind ∧ f.unit = r.unit ∧ r.time < f.time + 1000000)

/-- Fold an event into the first record it belongs to, or start a record that waits (21 R575). -/
def foldInto (r : FaultRec) : List FaultRec → List FaultRec
  | [] => [r]
  | f :: t => if f.folds r then { f with count := f.count + 1, injected := f.injected || r.injected } :: t else f :: foldInto r t

/-- Add the penalty of an event to D (21 R582): none for an injected event; PEER and HOST detectors have penalty 0 (R571). -/
def State.penalise (s : State) (det : Nat) (sev : Nat) (injected : Bool) : State :=
  if injected then s
  else s.incSat 0 F.FLT_PENALTY_D (if sev = sevCorrected then (detRange det).penCorr else (detRange det).pen)

/-- Whether the DETECTORS section enables a detector (21 R572, R588). -/
def State.detEnabled (s : State) (det : Nat) : Bool := (s.fld 0 (F.FLT_EN_EN (det / 32))).testBit (det % 32)

/-- An event of a detector: it is counted always; for an enabled detector it adds its penalty, marks FLT_SEEN and makes a record, which
waits to fold when its severity is CORRECTED (21 R572, R573, R575). -/
def State.detect (s : State) (det easel unitKind unit info code sev : Nat) (injected : Bool) : State :=
  let s1 := s.incSat det F.FLT_DET_COUNT_COUNT 1
  if s1.detEnabled det then
    let s2 := (s1.penalise det sev injected).orFld 0 (F.FLT_SEEN_SEEN (det / 32)) (2 ^ (det % 32))
    let r : FaultRec := ⟨det, code, sev, (detRange det).attrib, injected, false, easel, unitKind, unit, info, 1, s2.nowNs⟩
    if sev = sevCorrected then { s2 with flt := { s2.flt with folds := foldInto r s2.flt.folds } } else s2.deliverFault r
  else s1

/-- A usage fault of an easel (21 R574). -/
def State.usageFault (s : State) (easel unitKind unit info code : Nat) : State :=
  s.deliverFault ⟨0xFFFF, code, sevContained, 3, false, true, easel, unitKind, unit, info, 1, s.nowNs⟩

/-! ### Injection -/

/-- Whether an armed point's filter takes an event of an easel (21 R579). -/
def injMatches (filter easel : Nat) : Bool := decide (filter = 0x3F ∨ (filter = easel ∧ easel < 63))

/-- Check a detector's next event against its injection point: what alters it, if the point is due (21 R579), and the state after. -/
def State.inject (s : State) (det easel : Nat) : Option Nat × State :=
  if s.flag det F.FLT_INJSTAT_ARMED && injMatches (s.fld det F.FLT_INJCFG_EASEL) easel then
    let n := SMap.get (fun _ => 0) s.flt.injSeen det + 1
    let s1 := { s with flt := { s.flt with injSeen := SMap.set (fun _ => 0) s.flt.injSeen det n } }
    let fired := s1.incSat det F.FLT_INJSTAT_FIRED 1
    if s.flag det F.FLT_INJCFG_WHEN then
      if n % s.fld det F.FLT_INJCFG_N = 0 then (some (s.fld det F.FLT_INJCFG_WHAT), fired) else (none, s1)
    else (some (s.fld det F.FLT_INJCFG_WHAT), fired.setFlag det F.FLT_INJSTAT_ARMED false)
  else (none, s)

/-- A checked word after injection: FLIP2 makes it uncorrectable, FLIP1 adds one wrong bit (21 R579, R581). -/
def eccFlip (e : Ecc) (what : Option Nat) : Ecc :=
  match what, e with
  | some 2, _ => .uncorrectable
  | some 1, .ok => .corrected
  | some 1, _ => .uncorrectable
  | _, e => e

/-- Whether a detector's events belong to an easel, so that a filter other than 0x3F can match one (21 R571, R579). -/
def detHasEasel (d : Nat) : Bool :=
  decide (d ≤ 17 ∨ (36 ≤ d ∧ d ≤ 142) ∨ (144 ≤ d ∧ d ≤ 148) ∨ d = 177)

/-- Why an ARM is refused (21 R580). -/
def State.armRefused (s : State) (d : Nat) : Bool :=
  !whatOk (detRange d).cls (s.fld d F.FLT_INJCFG_WHAT) || !s.detEnabled d ||
    (s.flag d F.FLT_INJCFG_WHEN && decide (s.fld d F.FLT_INJCFG_N = 0)) ||
    (decide (s.fld d F.FLT_INJCFG_EASEL ≠ 0x3F) && !detHasEasel d) || (detResets d && !s.power powDebugReset)

/-- Disarm a point. -/
def State.disarm (s : State) (d : Nat) : State := s.setFlag d F.FLT_INJSTAT_ARMED false

/-- FLT_INJARM.ARM (21 R580). -/
def execInjectArm (req : Requester) (s : State) : Res :=
  s.access req F.FLT_INJARM_ARM.off (fun det =>
    if req.manages && s.power powInject then
      if s.armRefused det then .next ((s.disarm det).setFlag det F.FLT_INJSTAT_REFUSED true)
      else
        let s1 := { s with flt := { s.flt with injSeen := SMap.set (fun _ => 0) s.flt.injSeen det 0 } }
        .next ((s1.setFlag det F.FLT_INJSTAT_REFUSED false).setFlag det F.FLT_INJSTAT_ARMED true)
    else .next s)

/-- FLT_INJARM.DISARM (21 R580, R587). -/
def execInjectDisarm (req : Requester) (s : State) : Res :=
  s.access req F.FLT_INJARM_ARM.off (fun det =>
    .next (if req.manages then s.disarm det else s))

/-- The fold window of the oldest waiting record ends and the record is delivered (21 R575). -/
def execFoldWindowEnd (s : State) : Res :=
  match s.flt.folds with
  | [] => .next s
  | r :: t => .next (({ s with flt := { s.flt with folds := t } }).deliverFault r)

/-! ### The health score -/

/-- The 600th power. -/
def pow600 (x : Nat) : Nat := (x ^ 200) ^ 3

/-- The largest `n` below `2 ^ bits` that is at most x · 2^(−1/600), found bit by bit from `acc` (21 R582). -/
def decayBits (x : Nat) : Nat → Nat → Nat
  | 0, acc => acc
  | b + 1, acc => let t := acc + 2 ^ b; decayBits x b (if 2 * pow600 t ≤ pow600 x then t else acc)

/-- D after one second: D · 2^(−1/600), rounded down (21 R582). -/
def decayD (d : Nat) : Nat := decayBits d 24 0

/-- The band of a score (21 R583). -/
def bandOf (score : Nat) : Nat := if 800 ≤ score then 0 else if 500 ≤ score then 1 else if 200 ≤ score then 2 else 3

/-- The least and the greatest score of a band (21 R583). -/
def bandRange : Nat → Nat × Nat
  | 0 => (800, 1000)
  | 1 => (500, 799)
  | 2 => (200, 499)
  | _ => (0, 199)

/-- The cap C of the raw score: bit 0 of `caps` a stack failed, bit 1 the pump, bit 2 the hold-up bank (21 R582). -/
def capOf (caps : Nat) : Nat :=
  if caps.testBit 0 then 199 else if caps.testBit 1 then 499 else if caps.testBit 2 then 799 else 1000

/-- Whether any stack is in FAILED, or a panel is held by one (21 R582; 04 R117). -/
def State.anyStackFailed (s : State) : Bool := (List.range 18).any (fun k => decide (s.fld k F.MEM_STK_STATUS_STATE = 5))

/-- The conditions that hold now, laid out as FLT_HEALTH_RAW.CAP (21 R582, R588). -/
def State.healthCaps (s : State) : Nat :=
  (if s.anyStackFailed then 1 else 0) + (if s.flag 0 F.CLM_DRIVE_PUMP_FAIL then 2 else 0) +
    (if s.flag 0 F.CLM_HOLDUP_LOW then 4 else 0)

/-- The evaluation of each second (21 R582, R583). -/
def execHealthEvaluation (s : State) : Res :=
  let d := decayD (s.fld 0 F.FLT_PENALTY_D)
  let caps := s.healthCaps
  let raw := min (capOf caps) (1000 - d / 64)
  let dwell := min (s.fld 0 F.FLT_HEALTH_DWELL_S + 1) 0xFFFF
  let band := s.fld 0 F.FLT_HEALTH_BAND
  let band' := if 60 ≤ dwell then bandOf raw else band
  let r := bandRange band'
  .next (((((((s.setFld 0 F.FLT_PENALTY_D d).setFld 0 F.FLT_HEALTH_RAW_RAW raw).setFld 0 F.FLT_HEALTH_RAW_RAW_BAND (bandOf raw)).setFld
    0 F.FLT_HEALTH_RAW_CAP caps).setFld 0 F.FLT_HEALTH_BAND band').setFld 0 F.FLT_HEALTH_SCORE (max r.1 (min r.2 raw))).setFld
    0 F.FLT_HEALTH_DWELL_S (if band' = band then dwell else 0))

end Sys2Proof.Machine
end

