-- ==== Sys2Proof/Machine/Memory.lean ====
section
/-! DEFINITION. Machine/Memory.lean: the device's memories byte by byte, poison marks and USED bits, and requests to bonded memory: where a
unit lies (04 R96 to R98), refusal beyond the share (R100, R101), USED bits (R102), correction and poison (R111, R112), atomics (13
R395). -/
namespace Sys2Proof.Machine

open Sys2Proof

/-! ### Bytes -/

/-- What an unlisted byte reads as: zero fill (04 R115) and the zeroed scratchpads, DMEM and PMEM (notes/assumptions/3.md). -/
def memDefault : Nat → Byte := fun _ => 0

/-- The canonical form of the memory: addresses strictly rising, no byte that reads as an unlisted one. -/
def Memory.wf (m : List Host.Cell) : Bool := SMap.wf memDefault m

/-- The key of a byte of easel-relative bonded memory. -/
def bondKey (easel addr : Nat) : Nat := easel * 2 ^ 46 + addr

/-- The key of a byte of an easel's share of a T-core's scratchpad. -/
def scratchKey (core easel addr : Nat) : Nat := 2 ^ 60 + (core * 64 + easel) * 2 ^ 46 + addr

/-- The key of a byte of an easel's share of an S-core's DMEM. -/
def dmemKey (core easel addr : Nat) : Nat := 2 ^ 61 + (core * 64 + easel) * 2 ^ 46 + addr

/-- The key of a byte of an easel's share of an S-core's PMEM. -/
def pmemKey (core easel addr : Nat) : Nat := 2 ^ 61 + 2 ^ 60 + (core * 64 + easel) * 2 ^ 46 + addr

/-- Read one byte. -/
def State.byte (s : State) (k : Nat) : Byte := SMap.get memDefault s.mem k

/-- Write one byte. -/
def State.setByte (s : State) (k : Nat) (b : Byte) : State := { s with mem := SMap.set memDefault s.mem k b }

/-- Read `n` bytes from a key up. -/
def State.readBytes (s : State) (k : Nat) : Nat → List Nat
  | 0 => []
  | n + 1 => (s.byte k).toNat :: s.readBytes (k + 1) n

/-- Write bytes from a key up. -/
def State.writeBytes (s : State) (k : Nat) : List Nat → State
  | [] => s
  | b :: r => (s.setByte k (BitVec.ofNat 8 b)).writeBytes (k + 1) r

/-- A little-endian number of `n` bytes. -/
def State.readLe (s : State) (k n : Nat) : Nat := ofLe (s.readBytes k n)

/-- Zero `n` bytes from a key, with valid ECC: their poison marks go too (04 R103, R112). -/
def State.zeroBytes (s : State) (k n : Nat) : State :=
  { s with
    mem := SMap.keep (fun x => decide (x < k ∨ k + n ≤ x)) s.mem
    poison := s.poison.filter (fun g => decide (g * 64 + 64 ≤ k ∨ k + n ≤ g * 64)) }

/-- Whether any granule of `n` bytes from a key carries a poison mark. -/
def State.poisoned (s : State) (k n : Nat) : Bool := s.poison.any (fun g => decide (k < g * 64 + 64 ∧ g * 64 < k + n))

/-- Poison the granule that holds a byte. -/
def State.markPoison (s : State) (k : Nat) : State := { s with poison := NSet.add (k / 64) s.poison }

/-- Poison every granule that `n` bytes from a key touch. -/
def State.markPoisonRange (s : State) (k n : Nat) : State :=
  if n = 0 then s else forUpto ((k + n - 1) / 64 - k / 64 + 1) (fun i t => t.markPoison (k / 64 * 64 + 64 * i)) s

/-- A store of `n` bytes clears the poison of the granules it covers whole (04 R112). -/
def State.healPoison (s : State) (k n : Nat) : State :=
  { s with poison := s.poison.filter (fun g => decide (g * 64 < k ∨ k + n < g * 64 + 64)) }

/-- Store bytes: the contents change, and a granule whose 64 bytes are all written loses its poison mark (04 R112). -/
def State.storeRaw (s : State) (k : Nat) (bs : List Nat) : State := (s.writeBytes k bs).healPoison k bs.length

/-! ### USED bits -/

/-- Set the USED bit of a unit. -/
def State.setUsed (s : State) (k : Nat) : State := { s with used := NSet.add k s.used }

/-- Set the USED bits of the units of `size` bytes that `n` bytes from `base + addr` touch; `base` is a multiple of `size`. -/
def State.setUsedRange (s : State) (base size addr n : Nat) : State :=
  if n = 0 then s else
    forUpto ((addr + n - 1) / size - addr / size + 1) (fun i t => t.setUsed (base + (addr / size + i) * size)) s

/-- Clear the USED bits of the units whose keys lie in a range. -/
def State.clearUsed (s : State) (k n : Nat) : State :=
  { s with used := s.used.filter (fun x => decide (x < k ∨ k + n ≤ x)) }

/-- The live watermark of a memory of `span` bytes from a key, in units of `size` bytes: one more than the highest unit whose USED bit is
set, or 0 (02 R46, 04 R102). -/
def State.watermark (s : State) (base span size : Nat) : Nat :=
  s.used.foldl (fun m x => if base ≤ x ∧ x < base + span then max m ((x - base) / size + 1) else m) 0

/-! ### Where a bonded unit lies -/

/-- The bay of a T-core within its panel (01 R12). -/
def bayOfTcore (core : Nat) : Nat := if core % 16 < 12 then core % 16 / 3 else 4 + (core % 16 - 12) / 2

/-- The bay of an S-core within its panel (01 R12). -/
def bayOfScore (core : Nat) : Nat := if core % 64 < 44 then core % 64 / 11 else 4 + (core % 64 - 44) / 10

/-- The stack of the bay that holds an S-core: panel × 6 + bay (01 R12). -/
def stackOfScore (core : Nat) : Nat := core / 64 * 6 + bayOfScore core

/-- Units of a cell's block (04 R98): 2,016 for each cell unit. -/
def State.cellBlock (s : State) (c : Nat) : Nat := 2016 * s.fld c F.RAD_CELL_CFG_UNITS

/-- The number of a cell's first S-core: RAD_CELL_MAP counts it within the home panel (08 R237, R268). -/
def State.cellFirst (s : State) (c : Nat) : Nat := 64 * s.fld c F.RAD_CELL_CFG_PANEL + s.fld c F.RAD_CELL_MAP_SC_FIRST

/-- How many of a cell's S-cores lie in the bay of a stack. -/
def State.cellCoresAt (s : State) (c stack : Nat) : Nat :=
  ((List.range (s.fld c F.RAD_CELL_MAP_SC_COUNT)).filter
    (fun i => decide (stackOfScore (s.cellFirst c + i) = stack))).length

/-- The units of a cell's block that a stack holds: in proportion to the cell's S-cores, rounded down, the bay of the first S-core
taking the remainder (04 R98). -/
def State.cellPart (s : State) (c stack : Nat) : Nat :=
  let n := s.fld c F.RAD_CELL_MAP_SC_COUNT
  let part := fun k => s.cellBlock c * s.cellCoresAt c k / n
  if stackOfScore (s.cellFirst c) = stack then
    s.cellBlock c - ((List.range 18).foldl (fun t k => if k = stack then t else t + part k) 0)
  else part stack

/-- The stack of unit `u` of a cell's block, the parts in rising bay order (04 R98). -/
def State.cellStack (s : State) (c : Nat) : List Nat → Nat → Nat
  | [], _ => 0
  | k :: r, u => if u < s.cellPart c k then k else s.cellStack c r (u - s.cellPart c k)

/-- The stack of unit `u` of easel 0, cell block by cell block and then in SPREAD order counted afresh (04 R98). -/
def State.easel0Stack (s : State) : Nat → Nat → Nat → Nat
  | 0, _, u => u % 18
  | n + 1, c, u => if u < s.cellBlock c then s.cellStack c (List.range 18) u else s.easel0Stack n (c + 1) (u - s.cellBlock c)

/-- The stack that holds an easel-relative unit (04 R97, R98). -/
def State.stackOf (s : State) (easel u : Nat) : Nat :=
  if easel = 0 then s.easel0Stack (s.fld 0 F.RAD_STATUS_CELLS) 0 u
  else match s.fld easel F.MEM_EAS_PLACE_MODE with
    | 1 => s.fld easel F.MEM_EAS_PLACE_TARGET * 6 + u % 6
    | 2 => s.fld easel F.MEM_EAS_PLACE_TARGET
    | _ => u % 18

/-- The place of a byte within a stack: channel, bank, row, and block within the page (04 R96). -/
structure StackLoc where
  channel : Nat
  bank : Nat
  row : Nat
  col : Nat
  deriving DecidableEq, Repr

/-- The split of a stack-local byte address (04 R96). -/
def stackLoc (addr : Nat) : StackLoc :=
  let blk := addr / 256
  let b := blk / 48
  ⟨blk % 48, Nat.xor (b / 4 % 32) (b / 128 % 32), b / 128 % 16384, b % 4⟩

/-- Where an easel-relative address lies within its stack: the physical unit is the device's choice (Config.physUnit). -/
def bondLoc (easel addr : Nat) : StackLoc := stackLoc (Config.physUnit easel (addr / 65536) * 65536 + addr % 65536)

/-- The key of a bank's open row. -/
def bankKey (stack channel bank : Nat) : Nat := (stack * 48 + channel) * 32 + bank

/-- A stack leaves self-refresh when a request reaches it; the request waited for it (19 R526, R530). -/
def State.wakeStack (s : State) (stack easel : Nat) : State :=
  if (s.fld 0 F.PWR_STK_SR_SR).testBit stack then
    let s1 := (s.clrFld 0 F.PWR_STK_SR_SR (2 ^ stack)).incWrap 0 F.PWR_WAKES_COUNT 1
    { (s1.incSat easel F.PWR_EAS_WAKE_WAIT_COUNT 1).setFld stack F.MEM_STK_STATUS_STATE 3 with
      pow := { s1.pow with waking := NSet.remove (64 + stack) s1.pow.waking } }
  else s

/-- An access leaves the bank's page open (04 R106); 0 in the table means closed, r + 1 row r open. -/
def State.openAt (s : State) (stack : Nat) (l : StackLoc) : State :=
  { s with bond := { s.bond with openRow := SMap.set (fun _ => 0) s.bond.openRow (bankKey stack l.channel l.bank) (l.row + 1) } }

/-- A request for the bytes from an address opens the page of each 256-byte block that it touches; its stack leaves self-refresh for it. -/
def State.openBlock (s : State) (easel addr : Nat) : State :=
  (s.wakeStack (s.stackOf easel (addr / 65536)) easel).openAt (s.stackOf easel (addr / 65536)) (bondLoc easel addr)
def State.openPage (s : State) (easel addr n : Nat) : State :=
  forUpto ((addr + max n 1 - 1) / 256 - addr / 256 + 1) (fun i (t : State) => t.openBlock easel (addr / 256 * 256 + 256 * i)) s

/-- Count bytes read or written in the counters of the stacks that hold them, unit by unit (04 R120). Model's choice: notes/assumptions/134.md. -/
def State.countStack (s : State) (f : Fld) (easel addr n : Nat) : State :=
  if n = 0 then s else
    forUpto ((addr + n - 1) / 65536 - addr / 65536 + 1) (fun i t =>
      let u := addr / 65536 + i
      let lo := max addr (u * 65536)
      let hi := min (addr + n) (u * 65536 + 65536)
      t.countUnits (t.stackOf easel u) f 65536 (hi - lo)) s

/-! ### Requests -/

/-- How a memory request ends. -/
inductive MemStatus where
  | ok | outOfShare | poison
  deriving DecidableEq, Repr

/-- Whether every byte of a request lies below the easel's admission limit and in its map (04 R100, R101). -/
def State.inShare (s : State) (easel addr n : Nat) : Bool :=
  decide (addr + n ≤ 65536 * s.fld easel F.MEM_EAS_SHARE_UNITS ∧ addr + n ≤ 65536 * s.fld easel F.MEM_EAS_MAPPED_UNITS)

/-- The refusal of a request beyond the share (04 R101; 21 R574). -/
def State.refuseShare (s : State) (easel addr : Nat) : State :=
  (s.incSat easel F.MEM_EAS_FAULTS_OOS 1).usageFault easel ukNone 0 addr ufOutOfShare

/-- The key of a poison mark of a granule that no easel's map covers: its stack and the stack-local byte address. -/
def stackKey (stack addr : Nat) : Nat := 2 ^ 62 + stack * 2 ^ 36 + addr

/-- A granule of a stack: where it lies, the easel whose map holds it (`atelier` for the reserve or a free unit; notes/assumptions/135.md), its address there, and the key of its poison
mark. -/
structure Granule where
  loc : StackLoc
  easel : Nat
  addr : Nat
  key : Nat
  deriving DecidableEq, Repr

/-- The granule at an easel-relative address. -/
def bondGranule (easel addr : Nat) : Granule := ⟨bondLoc easel addr, easel, addr, bondKey easel addr⟩

/-- The easel whose map holds a unit of a stack, and the easel-relative unit (04 R97 to R99). Model's choice: notes/assumptions/155.md. -/
def State.ownerOf (s : State) (stack unit : Nat) : Option (Nat × Nat) :=
  (List.range 64).findSome? (fun e =>
    ((List.range (s.fld e F.MEM_EAS_MAPPED_UNITS)).find? (fun u => decide (Config.physUnit e u = unit ∧ s.stackOf e u = stack))).map (fun u => (e, u)))

/-- The granule at a stack-local byte address. -/
def State.stackGranule (s : State) (stack addr : Nat) : Granule :=
  match s.ownerOf stack (addr / 65536) with
  | some (e, u) => ⟨stackLoc addr, e, 65536 * u + addr % 65536, bondKey e (65536 * u + addr % 65536)⟩
  | none => ⟨stackLoc addr, atelier, 0, stackKey stack addr⟩

/-- Record an error's place (04 R111, R112, R120). -/
def State.errorPlace (s : State) (stack : Nat) (l : StackLoc) (easel lane : Nat) (ue scrub : Bool) : State :=
  (((((((s.setFld stack F.MEM_STK_ERRLOC_CHANNEL l.channel).setFld stack F.MEM_STK_ERRLOC_BANK l.bank).setFld stack
    F.MEM_STK_ERRLOC_ROW l.row).setFld stack F.MEM_STK_ERRLOC_COL l.col).setFld stack F.MEM_STK_ERRLOC_LANE lane).setFld stack
    F.MEM_STK_ERRINFO_EASEL (if easel = atelier then 0x3F else easel)).setFlag stack F.MEM_STK_ERRINFO_UE ue).setFlag stack
    F.MEM_STK_ERRINFO_SCRUB scrub

/-- What the check of a bonded granule found: a correction is counted and written back (04 R111); an uncorrectable error is counted,
poisons the granule and raises a fault to the easel whose map holds the unit, or to Atelier (R112). -/
def State.bondEcc (s : State) (stack : Nat) (g : Granule) (lane code : Nat) (e : Ecc) (scrub injected : Bool) : State :=
  match e with
  | .ok => s
  | .corrected =>
    ((s.incSat stack F.MEM_STK_CE_COUNT 1).errorPlace stack g.loc g.easel lane false scrub).detect stack g.easel ukStack stack g.addr 0
      sevCorrected injected
  | .uncorrectable =>
    let s1 := (s.incSat stack F.MEM_STK_UE_COUNT 1).orFld 0 F.MEM_UE_STACKS_UE (2 ^ stack)
    ((s1.errorPlace stack g.loc g.easel lane true scrub).markPoison g.key).detect stack g.easel ukStack stack g.addr code sevContained injected

/-- The checks of one read of bonded memory: the injection point of the stack's detector may alter the word (21 R579), and the error
that the command brings is handled. `code` is the completion status that poison gives the requester's command. -/
def State.bondCheck (s : State) (easel addr code : Nat) (e : Option EccEvent) : State :=
  let a := match e with
    | some x => addr / 64 * 64 + 64 * x.granule
    | none => addr / 64 * 64
  let stack := s.stackOf easel (a / 65536)
  let (what, s1) := s.inject stack easel
  let kind := match e with
    | some x => eccFlip x.kind what
    | none => eccFlip .ok what
  let sel := s.fld stack F.FLT_INJCFG_SEL
  let lane := match what with
    | some 2 => 0x1F
    | some _ => sel % 18
    | none => (match e with
      | some x => x.lane
      | none => 0)
  s1.bondEcc stack (bondGranule easel a) lane code kind false what.isSome

/-- The answer of a memory request: its status, the data, and the state after. -/
structure MemResp where
  status : MemStatus
  data : List Nat
  st : State

/-- Load bytes of an easel's bonded memory (04 R100, R101, R111, R112). -/
def State.bondLoad (s : State) (easel addr n code : Nat) (e : Option EccEvent) : MemResp :=
  if s.inShare easel addr n then
    let s1 := ((s.bondCheck easel addr code e).openPage easel addr n).countStack F.MEM_STK_RD_UNITS easel addr n
    if s1.poisoned (bondKey easel addr) n then
      ⟨.poison, s1.readBytes (bondKey easel addr) n, s1.incSat easel F.MEM_EAS_FAULTS_UE 1⟩
    else ⟨.ok, s1.readBytes (bondKey easel addr) n, s1⟩
  else ⟨.outOfShare, List.replicate n 0, s.refuseShare easel addr⟩

/-- Bring MEM_EAS_WATERMARK to the live watermark (04 R102). -/
def State.bondWatermark (s : State) (easel : Nat) : State :=
  s.setFld easel F.MEM_EAS_WATERMARK_UNITS (s.watermark (bondKey easel 0) (2 ^ 46) 65536)

/-- Store bytes to an easel's bonded memory (04 R100 to R102, R112). -/
def State.bondStore (s : State) (easel addr : Nat) (bs : List Nat) : MemResp :=
  if s.inShare easel addr bs.length then
    let s1 := (s.storeRaw (bondKey easel addr) bs).setUsedRange (bondKey easel 0) 65536 addr bs.length
    let s2 := (s1.openPage easel addr bs.length).countStack F.MEM_STK_WR_UNITS easel addr bs.length
    ⟨.ok, [], s2.bondWatermark easel⟩
  else ⟨.outOfShare, [], s.refuseShare easel addr⟩

/-- The signed value of a word of `bits` bits. -/
def sext (bits v : Nat) : Int := if v < 2 ^ (bits - 1) then (v : Int) else (v : Int) - 2 ^ bits

/-- The new value of an atomic's word: ADD wraps, MIN and MAX are signed, MINU and MAXU unsigned, CAS writes when the word equals the
compare value (13 R395). -/
def atomicNew (op : AtomicOp) (bits old operand compare : Nat) : Nat :=
  match op with
  | .add => (old + operand) % 2 ^ bits
  | .min => if sext bits operand < sext bits old then operand else old
  | .max => if sext bits old < sext bits operand then operand else old
  | .minu => min old operand
  | .maxu => max old operand
  | .cas => if old = compare then operand else old

/-- An atomic on a word of `w` bytes of bonded memory; the answer's data is the old value (13 R395; 04 R101, R102). Model's choice: notes/assumptions/134.md. -/
def State.bondAtomic (s : State) (easel addr w : Nat) (op : AtomicOp) (operand compare code : Nat) (e : Option EccEvent) : MemResp :=
  if s.inShare easel addr w then
    let s1 := (s.bondCheck easel addr code e).openPage easel addr w
    let k := bondKey easel addr
    if s1.poisoned k w then ⟨.poison, s1.readBytes k w, s1.incSat easel F.MEM_EAS_FAULTS_UE 1⟩
    else
      let old := s1.readLe k w
      let s2 := s1.storeRaw k (leBytes w (atomicNew op (8 * w) old (operand % 2 ^ (8 * w)) (compare % 2 ^ (8 * w))))
      let s3 := (s2.setUsedRange (bondKey easel 0) 65536 addr w).countStack F.MEM_STK_WR_UNITS easel addr w
      ⟨.ok, leBytes w old, s3.bondWatermark easel⟩
  else ⟨.outOfShare, List.replicate w 0, s.refuseShare easel addr⟩

end Sys2Proof.Machine
end

