-- ==== Sys2Proof/Machine/Real.lean ====
section
/-! DEFINITION. Machine/Real.lean: real functions as the device may compute them (05 R146; 11 R356): the value to 1,024 fraction bits, cut to 24 bits, and the FP32 values
within 4 units in the last place of it. -/
namespace Sys2Proof.Machine

open Sys2Proof

/-! ### Cutting to FP32 -/

/-- Halve a multiplier until it fits 24 bits. -/
def trim24 : Nat → Nat → Int → Nat × Int
  | 0, q, e => (q, e)
  | k + 1, q, e => if q < 2 ^ 24 then (q, e) else trim24 k (q / 2) (e + 1)

/-- The unit in which a positive value with `2^l` near it is first cut: two bits finer than FP32's, or FP32's smallest step. -/
def cutUnit (l : Int) : Int := max (-149) (l - 25)

/-- `n/d` divided by `2^e`, cut to an integer. -/
def cutAt (n d : Nat) (e : Int) : Nat := n * 2 ^ (-e).toNat / (d * 2 ^ e.toNat)

/-- The largest FP32 magnitude that is no more than `n/d`: its multiplier below 2^24 and its exponent. -/
def cutRat (n d : Nat) : Nat × Int :=
  let e := cutUnit ((Nat.log2 n : Int) - Nat.log2 d)
  trim24 4 (cutAt n d e) e

/-- The largest FP32 magnitude that is no more than the square root of `n/d`. -/
def cutRoot (n d : Nat) : Nat × Int :=
  let e := cutUnit (((Nat.log2 n : Int) - Nat.log2 d) / 2)
  trim24 4 (Nat.sqrt (cutAt n d (2 * e))) e

/-- The magnitude `k − 3` units of the last place from a cut value, cut again where that passes a power of two; `k` is at most 7. As the value lies less than a unit above the cut one,
these are the FP32 values within 4 units of it. -/
def nearCut (q : Nat) (e : Int) (k : Nat) : Int × Int :=
  let m : Int := (q : Int) + k - 3
  if m < 2 ^ 24 then (m, e) else (m / 2, e + 1)

/-! ### The exponential -/

/-- One in fixed point. -/
def fixOne : Nat := 2 ^ 1024

/-- The Taylor sum of the exponential by Horner's rule, from term `k` down. -/
def expTaylor (x : Nat) : Nat → Nat → Nat
  | 0, acc => acc
  | k + 1, acc => expTaylor x k (fixOne + acc * x / fixOne / (k + 1))

/-- Square in fixed point `k` times. -/
def squareFix : Nat → Nat → Nat
  | 0, v => v
  | k + 1, v => squareFix k (v * v / fixOne)

/-- e to the `n/d`, in fixed point, for `n/d` of at most 256; a larger one counts as 256, whose exponential no FP32 value reaches. -/
def expFix (n d : Nat) : Nat := squareFix 10 (expTaylor (min (n * fixOne / d) (256 * fixOne) / 1024) 160 fixOne)

/-- The exponential of ± `n/d` as a fraction. -/
def expRat (neg : Bool) (n d : Nat) : Nat × Nat := if neg then (fixOne, expFix n d) else (expFix n d, fixOne)

/-- 1/(1 + e^−t) of t = ± `n/d` as a fraction. -/
def sigmoidRat (neg : Bool) (n d : Nat) : Nat × Nat :=
  let v := expFix n d
  if neg then (fixOne, fixOne + v) else (v, fixOne + v)

/-- √(2/π) to 80 decimal digits, as a fraction. -/
def rootTwoPi : Nat × Nat := (79788456080286535587989211986876373695171726232986931533185165934131585179860368, 10 ^ 80)

/-- The magnitude of GELU's u = √(2/π)·(x + 0.044715·x³) for |x| = `n/d`, doubled, as a fraction. -/
def geluArg (n d : Nat) : Nat × Nat :=
  (2 * rootTwoPi.1 * n * (1000000 * d ^ 2 + 44715 * n ^ 2), rootTwoPi.2 * 1000000 * d ^ 3)

/-! ### The activation functions -/

/-- The value of an activation function at ± `n/d`, cut to FP32: its sign, multiplier and exponent. GELU's tanh form is x/(1 + e^(−2u)). None where the function has no value. -/
def actCut (code : Nat) (neg : Bool) (n d : Nat) : Option (Bool × Nat × Int) :=
  match code with
  | 2 =>
    let a := geluArg n d
    let g := sigmoidRat neg a.1 a.2
    some (neg, cutRat (n * g.1) (d * g.2))
  | 3 =>
    let g := sigmoidRat neg n d
    some (neg, cutRat (n * g.1) (d * g.2))
  | 4 =>
    let g := sigmoidRat neg n d
    some (false, cutRat g.1 g.2)
  | 5 =>
    let v := expFix (2 * n) d
    some (neg, cutRat (v - fixOne) (v + fixOne))
  | 6 =>
    let g := expRat neg n d
    some (false, cutRat g.1 g.2)
  | 7 => if n = 0 then none else some (neg, cutRat d n)
  | 8 => if n = 0 ∨ neg then none else some (false, cutRoot d n)
  | _ => none

end Sys2Proof.Machine
end

