-- ==== Sys2Proof/Machine/Arith.lean ====
section
/-! DEFINITION. Machine/Arith.lean: the number formats and the arithmetic of the arrays and their finishers (06): decoding elements, exact
sums, rounding to nearest even, saturation, and conversion to the output formats. -/
namespace Sys2Proof.Machine

open Sys2Proof

/-! ### Exact numbers and rounding -/

/-- A floating value: NaN, an infinity of a sign, or ± man · 2^exp. -/
inductive Fp where
  | nan
  | inf (neg : Bool)
  | fin (neg : Bool) (man : Nat) (exp : Int)
  deriving DecidableEq, Repr

/-- Plus zero. -/
def Fp.zero : Fp := .fin false 0 0

/-- `m / 2^k` rounded to nearest even. -/
def rneShift (m k : Nat) : Nat :=
  let q := m / 2 ^ k
  let r := m % 2 ^ k
  if k = 0 then m else if 2 * r < 2 ^ k then q else if 2 ^ k < 2 * r then q + 1 else q + q % 2

/-- An integer shifted right by `k` with rounding to nearest even. -/
def rneShiftInt (m : Int) (k : Nat) : Int := if m < 0 then -(rneShift m.natAbs k : Int) else (rneShift m.natAbs k : Int)

/-- The signed number man · 2^exp as an exact pair. -/
def signed (neg : Bool) (man : Nat) : Int := if neg then -(man : Int) else (man : Int)

/-- A binary floating format: precision in bits, the exponent of its smallest subnormal, the exponent of its largest power of two. -/
structure FpFmt where
  prec : Nat
  qmin : Int
  emax : Int
  deriving DecidableEq, Repr

def fmtFp32 : FpFmt := ⟨24, -149, 127⟩
def fmtBf16 : FpFmt := ⟨8, -133, 127⟩
def fmtFp16 : FpFmt := ⟨11, -24, 15⟩

/-- The multiple of a power of two that is nearest to man · 2^exp, ties to even: its multiplier and the exponent (06 R177, R180). -/
def roundMan (f : FpFmt) (man : Nat) (exp : Int) : Nat × Int :=
  let q := max ((Nat.log2 man : Int) + exp - (f.prec - 1 : Nat)) f.qmin
  if q ≤ exp then (man * 2 ^ (exp - q).toNat, q) else (rneShift man (q - exp).toNat, q)

/-- Round a value to a format; beyond the largest finite value it becomes an infinity (06 R181). -/
def roundFp (f : FpFmt) (neg : Bool) (man : Nat) (exp : Int) : Fp :=
  if man = 0 then .fin neg 0 0
  else
    let r := roundMan f man exp
    if r.1 ≠ 0 ∧ f.emax < (Nat.log2 r.1 : Int) + r.2 then .inf neg else .fin neg r.1 r.2

/-- Round a signed exact value; an exact zero takes the sign `nz`. -/
def roundSigned (f : FpFmt) (v : Int) (exp : Int) (nz : Bool) : Fp :=
  if v = 0 then .fin nz 0 0 else roundFp f (decide (v < 0)) v.natAbs exp

/-- The exact sum of two finite values, as a multiplier and exponent. -/
def addExact (m1 : Int) (e1 : Int) (m2 : Int) (e2 : Int) : Int × Int :=
  let e := min e1 e2
  (m1 * 2 ^ (e1 - e).toNat + m2 * 2 ^ (e2 - e).toNat, e)

/-- The sum in FP32 with one rounding (06 R177 to R181). -/
def fpAdd (a b : Fp) : Fp :=
  match a, b with
  | .nan, _ => .nan
  | _, .nan => .nan
  | .inf x, .inf y => if x = y then .inf x else .nan
  | .inf x, _ => .inf x
  | _, .inf y => .inf y
  | .fin n1 m1 e1, .fin n2 m2 e2 =>
    let r := addExact (signed n1 m1) e1 (signed n2 m2) e2
    roundSigned fmtFp32 r.1 r.2 (n1 && n2)

/-- The exact product of two elements (06 R177, R178); it has no rounding. -/
def fpMulExact (a b : Fp) : Fp :=
  match a, b with
  | .nan, _ => .nan
  | _, .nan => .nan
  | .inf x, .inf y => .inf (x != y)
  | .inf x, .fin y m _ => if m = 0 then .nan else .inf (x != y)
  | .fin x m _, .inf y => if m = 0 then .nan else .inf (x != y)
  | .fin x m e, .fin y n g => .fin (x != y) (m * n) (e + g)

/-- Round any value to a format. -/
def Fp.round (f : FpFmt) : Fp → Fp
  | .fin n m e => roundFp f n m e
  | v => v

/-- The product in FP32 with one rounding (06 R184). -/
def fpMul (a b : Fp) : Fp := (fpMulExact a b).round fmtFp32

/-- The negative of a value. -/
def Fp.neg : Fp → Fp
  | .nan => .nan
  | .inf n => .inf (!n)
  | .fin n m e => .fin (!n) m e

/-- Whether a is less than b; false with a NaN. -/
def fpLt (a b : Fp) : Bool :=
  match a, b with
  | .nan, _ => false
  | _, .nan => false
  | .inf x, .inf y => x && !y
  | .inf x, _ => x
  | _, .inf y => !y
  | .fin n1 m1 e1, .fin n2 m2 e2 => decide ((addExact (signed n1 m1) e1 (-(signed n2 m2)) e2).1 < 0)

/-- A value times a power of two, exactly. -/
def Fp.scale (k : Int) : Fp → Fp
  | .fin n m e => .fin n m (e + k)
  | v => v

/-! ### Element encodings (06 R172, R173) -/

/-- Decode a floating element of `eb` exponent and `mb` mantissa bits and a bias, without special values. -/
def decodePlain (eb mb : Nat) (bias : Int) (w : Nat) : Fp :=
  let s := w.testBit (eb + mb)
  let e := w / 2 ^ mb % 2 ^ eb
  let m := w % 2 ^ mb
  if e = 0 then .fin s m (1 - bias - mb) else .fin s (m + 2 ^ mb) ((e : Int) - bias - mb)

/-- Decode with the IEEE meaning of the largest exponent. -/
def decodeIeee (eb mb : Nat) (bias : Int) (w : Nat) : Fp :=
  if w / 2 ^ mb % 2 ^ eb = 2 ^ eb - 1 then (if w % 2 ^ mb = 0 then .inf (w.testBit (eb + mb)) else .nan)
  else decodePlain eb mb bias w

/-- Decode an element of a floating format, or of MXINT8, by its format code. -/
def decodeElem (fmt w : Nat) : Fp :=
  match fmt with
  | 0 => if w % 128 = 127 then .nan else decodePlain 4 3 7 (w % 256)
  | 1 => decodeIeee 5 2 15 (w % 256)
  | 2 => decodePlain 3 2 3 (w % 64)
  | 3 => decodePlain 2 3 1 (w % 64)
  | 4 => decodePlain 2 1 1 (w % 16)
  | 5 => .fin (decide (sext 8 (w % 256) < 0)) (sext 8 (w % 256)).natAbs (-6)
  | 6 => decodeIeee 8 7 127 (w % 65536)
  | 7 => decodeIeee 5 10 15 (w % 65536)
  | _ => decodeIeee 8 23 127 (w % 2 ^ 32)

/-- Encode a finite value that the format holds, with `mb` mantissa bits and a bias. -/
def encodeFin (eb mb : Nat) (bias : Int) (neg : Bool) (man : Nat) (exp : Int) : Nat :=
  let sgn := if neg then 2 ^ (eb + mb) else 0
  if man = 0 then sgn
  else
    let e := (Nat.log2 man : Int) + exp
    if e < 1 - bias then sgn + (man * 2 ^ (exp - (1 - bias - mb)).toNat) / 2 ^ ((1 - bias - mb) - exp).toNat
    else
      let k := e - mb
      let m := if k ≤ exp then man * 2 ^ (exp - k).toNat else man / 2 ^ (k - exp).toNat
      sgn + (e + bias).toNat * 2 ^ mb + (m - 2 ^ mb)

/-- The FP32 bits of a value that FP32 holds; a NaN is the quiet NaN with the sign clear (06 R181). -/
def encodeFp32 : Fp → Nat
  | .nan => 0x7FC00000
  | .inf n => if n then 0xFF800000 else 0x7F800000
  | .fin n m e => encodeFin 8 23 127 n m e

/-- Convert to BF16 (06 R186). -/
def encodeBf16 (v : Fp) : Nat :=
  match v.round fmtBf16 with
  | .nan => 0x7FC0
  | .inf n => if n then 0xFF80 else 0x7F80
  | .fin n m e => encodeFin 8 7 127 n m e

/-- Convert to FP16 (06 R186). -/
def encodeFp16 (v : Fp) : Nat :=
  match v.round fmtFp16 with
  | .nan => 0x7E00
  | .inf n => if n then 0xFC00 else 0x7C00
  | .fin n m e => encodeFin 5 10 15 n m e

/-- An MX element format: exponent and mantissa bits, bias, e_max, and the magnitude of the largest finite element as a bit pattern. -/
structure MxFmt where
  eb : Nat
  mb : Nat
  bias : Int
  emax : Int
  top : Nat
  deriving DecidableEq, Repr

/-- The floating MX formats (06 R172). -/
def mxFmt : Nat → MxFmt
  | 0 => ⟨4, 3, 7, 8, 0x7E⟩
  | 1 => ⟨5, 2, 15, 15, 0x7B⟩
  | 2 => ⟨3, 2, 3, 4, 0x1F⟩
  | 3 => ⟨2, 3, 1, 2, 0x1F⟩
  | _ => ⟨2, 1, 1, 2, 0x7⟩

/-- Convert a finite value to an MX element, saturating to the largest finite (06 R186). -/
def encodeMxFin (fmt : Nat) (neg : Bool) (man : Nat) (exp : Int) : Nat :=
  if fmt = 5 then
    let m := if exp + 6 < 0 then rneShift man (-(exp + 6)).toNat else man * 2 ^ (exp + 6).toNat
    (if neg then 256 - min m 127 else min m 127) % 256
  else
    let f := mxFmt fmt
    let r := roundMan ⟨f.mb + 1, 1 - f.bias - f.mb, f.emax⟩ man exp
    let sgn := if neg then 2 ^ (f.eb + f.mb) else 0
    if man = 0 ∨ r.1 = 0 then sgn
    else if f.emax < (Nat.log2 r.1 : Int) + r.2 then sgn + f.top
    else sgn + min (encodeFin f.eb f.mb f.bias false r.1 r.2) f.top

/-- An MX element of a value already divided by the block scale (06 R186): in MXFP8 an infinity or NaN has an encoding. -/
def encodeMx (fmt : Nat) (v : Fp) : Nat :=
  match v with
  | .fin n m e => encodeMxFin fmt n m e
  | .nan => if fmt = 1 then 0x7E else 0x7F
  | .inf n => if fmt = 1 then (if n then 0xFC else 0x7C) else 0x7F

/-- Whether a value is an infinity or NaN. -/
def Fp.special : Fp → Bool
  | .fin _ _ _ => false
  | _ => true

/-- ⌊log₂⌋ of the largest magnitude among the finite values of a block, if any is not zero (06 R187). -/
def blockLog (vs : List Fp) : Option Int :=
  vs.foldl (fun a v => match v with
    | .fin _ m e => if m = 0 then a else
        let l := (Nat.log2 m : Int) + e
        (match a with
          | some b => some (max b l)
          | none => some l)
    | _ => a) none

/-- e_max of an MX format (06 R172). -/
def mxEmax (fmt : Nat) : Int := if fmt = 5 then 0 else (mxFmt fmt).emax

/-- The elements and the scale byte of one block of an MX output row (06 R187). -/
def encodeBlock (fmt : Nat) (vs : List Fp) : List Nat × Nat :=
  if 2 ≤ fmt ∧ vs.any Fp.special then (vs.map (fun _ => 0), 0xFF)
  else match blockLog vs with
    | none => (vs.map (encodeMx fmt), 0)
    | some l =>
      let x := max (-127) (min 127 (l - mxEmax fmt))
      (vs.map (fun v => encodeMx fmt (v.scale (-x))), (x + 127).toNat)

/-! ### Layout (06 R174, R175) -/

/-- Whether a format has block scales. -/
def isMx (fmt : Nat) : Bool := decide (fmt ≤ 5)

/-- Bits of an element. -/
def elemBits : Nat → Nat
  | 0 => 8
  | 1 => 8
  | 2 => 6
  | 3 => 6
  | 4 => 4
  | 5 => 8
  | 6 => 16
  | 7 => 16
  | 8 => 8
  | _ => 32

/-- Bytes of a row of `n` elements, its scales included (06 R174). -/
def rowBytes (fmt n : Nat) : Nat :=
  if isMx fmt then (n + 31) / 32 * (4 * elemBits fmt + 1) else n * elemBits fmt / 8

/-- The bits of element `i` of elements packed from a byte address; `rd` reads a byte. -/
def packedElem (rd : Nat → Nat) (base fmt i : Nat) : Nat :=
  match elemBits fmt with
  | 4 => if i % 2 = 0 then rd (base + i / 2) % 16 else rd (base + i / 2) / 16
  | 6 =>
    let g := base + i / 4 * 3
    (rd g + 256 * rd (g + 1) + 65536 * rd (g + 2)) / 2 ^ (6 * (i % 4)) % 64
  | b => ofLe ((List.range (b / 8)).map (fun j => rd (base + i * (b / 8) + j)))

/-- The scale byte of element `i` of a row of `n` elements (06 R174). -/
def rowScale (rd : Nat → Nat) (base fmt n i : Nat) : Nat := rd (base + (n + 31) / 32 * (4 * elemBits fmt) + i / 32)

/-- A block scale: its exponent, or NaN for 0xFF (06 R173). -/
def scaleExp (b : Nat) : Option Int := if b = 255 then none else some ((b : Int) - 127)

/-- The columns of an array by weight format, and its weight rows: N_max and K_f (05 R133). -/
def nMaxOf (fmtW : Nat) : Nat := if fmtW = 4 then 256 else if fmtW = 9 then 64 else 128
def kfOf (fmtW : Nat) : Nat := if fmtW = 9 then 64 else 128

/-- Bytes of one weight row of a tile. -/
def tileRow (fmtW : Nat) : Nat := nMaxOf fmtW * elemBits fmtW / 8

/-- S_tile (06 R175). -/
def sTile (fmtW : Nat) : Nat := kfOf fmtW * tileRow fmtW + (if isMx fmtW then 4 * nMaxOf fmtW else 0)

/-- The bits of the weight in row `r`, column `n` of a tile, and its scale byte (06 R175). -/
def tileElem (rd : Nat → Nat) (tile fmtW r n : Nat) : Nat := packedElem rd (tile + r * tileRow fmtW) fmtW n
def tileScale (rd : Nat → Nat) (tile fmtW r n : Nat) : Nat :=
  rd (tile + kfOf fmtW * tileRow fmtW + r / 32 * nMaxOf fmtW + n)

/-! ### Sums (06 R177 to R183) -/

/-- Sum of a list exactly, as a multiplier and exponent, with the rules for special values (06 R177, R181). -/
def exactSum (vs : List Fp) : Fp :=
  vs.foldl (fun a v => match a, v with
    | .nan, _ => .nan
    | _, .nan => .nan
    | .inf x, .inf y => if x = y then .inf x else .nan
    | .inf x, _ => .inf x
    | _, .inf y => .inf y
    | .fin n1 m1 e1, .fin n2 m2 e2 =>
      let r := addExact (signed n1 m1) e1 (signed n2 m2) e2
      if r.1 = 0 then .fin false 0 0 else .fin (decide (r.1 < 0)) r.1.natAbs r.2) Fp.zero

/-- One operand's value and block scale at a reduction row. -/
structure Operand where
  elem : Nat → Nat
  scale : Nat → Nat
  fmt : Nat

/-- An element of an operand as a float, NaN where its block scale is 0xFF; the scale itself is applied later (06 R173). -/
def Operand.val (o : Operand) (k : Nat) : Fp :=
  if isMx o.fmt ∧ o.scale k = 255 then .nan else decodeElem o.fmt (o.elem k)

/-- The exponent of an operand's block scale; 0 for formats without scales. -/
def Operand.exp (o : Operand) (k : Nat) : Int := if isMx o.fmt then ((scaleExp (o.scale k)).getD 0) else 0

/-- The FP32 partial sum of one chunk in the 8-bit float and packed FP4 modes: one rounding for each block of 32 rows (06 R177). -/
def chunkFloat8 (a w : Operand) (kk : Nat) (f : Nat) : Fp :=
  (List.range 4).foldl (fun p b =>
    let k0 := f * 128 + b * 32
    if k0 < kk then
      let s := exactSum ((List.range (min 32 (kk - k0))).map (fun r => fpMulExact (a.val (k0 + r)) (w.val (k0 + r))))
      fpAdd p (s.scale (a.exp k0 + w.exp k0))
    else p) Fp.zero

/-- The FP32 partial sum of one chunk in the 16-bit float mode: one rounding for each product (06 R178). -/
def chunkFloat16 (a w : Operand) (kk : Nat) (f : Nat) : Fp :=
  (List.range 128).foldl (fun p r =>
    let k := f * 128 + r
    if k < kk then fpAdd p (fpMulExact (a.val k) (w.val k)) else p) Fp.zero

/-- The running value over the chunks, in order, from the initial value (06 R179). -/
def accFloat (wide : Bool) (a w : Operand) (kk : Nat) (init : Fp) : Fp :=
  (List.range ((kk + 127) / 128)).foldl (fun acc f =>
    fpAdd acc (if wide then chunkFloat16 a w kk f else chunkFloat8 a w kk f)) init

/-- Saturate to a two's-complement width. -/
def satInt (bits : Nat) (v : Int) : Int := max (-(2 ^ (bits - 1))) (min (2 ^ (bits - 1) - 1) v)

/-- The accumulator of the 8-bit integer mode: each block's exact sum shifted by the scales' exponents, the accumulator saturating at
32 bits (06 R182). A block whose MXINT8 scale is 0xFF adds a free value: the spec gives NaN no integer (notes/assumptions/43.md). -/
def accInt (a w : Operand) (kk : Nat) (init : Int) : Int :=
  (List.range ((kk + 31) / 32)).foldl (fun acc b =>
    let k0 := b * 32
    let s := ((List.range (min 32 (kk - k0))).map
      (fun r => sext 8 (a.elem (k0 + r) % 256) * sext 8 (w.elem (k0 + r) % 256))).foldl (· + ·) 0
    if (a.fmt = 5 ∧ a.scale k0 = 255) ∨ (w.fmt = 5 ∧ w.scale k0 = 255) then satInt 32 (acc + Config.nanBlockInt s)
    else
      let d := (if a.fmt = 5 then a.exp k0 else 0) + (if w.fmt = 5 then w.exp k0 else 0)
      satInt 32 (acc + (if 0 ≤ d then s * 2 ^ d.toNat else rneShiftInt s (-d).toNat))) init

/-- The real and imaginary parts of a CI16 element (06 R172). -/
def ciRe (w : Nat) : Int := sext 16 (w % 65536)
def ciIm (w : Nat) : Int := sext 16 (w / 65536 % 65536)

/-- The accumulators of the CI16 mode: exact products, chunk sums of 64 terms, two INT40 accumulators that saturate (06 R183). -/
def accCi (a w : Nat → Nat) (kk : Nat) (init : Int × Int) : Int × Int :=
  (List.range ((kk + 63) / 64)).foldl (fun acc f =>
    let ks := (List.range (min 64 (kk - f * 64))).map (fun r => f * 64 + r)
    let re := (ks.map (fun k => ciRe (a k) * ciRe (w k) - ciIm (a k) * ciIm (w k))).foldl (· + ·) 0
    let im := (ks.map (fun k => ciRe (a k) * ciIm (w k) + ciIm (a k) * ciRe (w k))).foldl (· + ·) 0
    (satInt 40 (acc.1 + re), satInt 40 (acc.2 + im))) init

/-! ### The finisher (05 R144 to R146, 06 R184 to R188) -/

/-- An accumulator value: FP32, INT32, or a CI16 pair. -/
inductive Acc where
  | flt (v : Fp)
  | int (v : Int)
  | ci (re im : Int)
  deriving DecidableEq, Repr

/-- ± man · 2^exp as a fraction without its sign. -/
def ratOf (man : Nat) (exp : Int) : Nat × Nat := (man * 2 ^ exp.toNat, 2 ^ (-exp).toNat)

/-- The FP32 value that lies `k − 3` units of the last place from a cut value (05 R146); beyond FP32's range it is an infinity. -/
def nearFp (neg : Bool) (c : Nat × Int) (k : Nat) : Fp :=
  let m := nearCut c.1 c.2 k
  roundFp fmtFp32 (neg != decide (m.1 < 0)) m.1.natAbs m.2

/-- The activation functions (05 R146): NONE and RELU are exact; the others are within 4 ulp of the function for a finite input, the device's choice among those values being free.
Where the function has no value, and for an input that is not finite, the result is free (notes/assumptions/42.md). -/
def actFn (code : Nat) (v : Fp) : Fp :=
  let bits := BitVec.ofNat 32 (encodeFp32 v)
  let free := decodeIeee 8 23 127 (Config.actFn code bits).toNat
  match code with
  | 0 => v
  | 1 => if v = .nan then .nan else if fpLt Fp.zero v then v else Fp.zero
  | _ =>
    match v with
    | .fin neg man exp =>
      match actCut code neg (ratOf man exp).1 (ratOf man exp).2 with
      | some (n, c) => nearFp n c (Config.actUlp code bits).val
      | none => free
    | _ => free

/-- The finisher's float steps: scale, residual, activation function, each rounded in FP32 (05 R144, 06 R184). -/
def finishFloat (scale resid : Option Fp) (act : Nat) (v : Fp) : Fp :=
  let v1 := match scale with
    | some k => fpMul v k
    | none => v
  let v2 := match resid with
    | some r => fpAdd v1 r
    | none => v1
  actFn act v2

/-- A residual element as FP32 (06 R184): an MX element with its block scale. -/
def residVal (rd : Nat → Nat) (row fmt n i : Nat) : Fp :=
  let e := packedElem rd row fmt i
  if isMx fmt then
    match scaleExp (rowScale rd row fmt n i) with
    | some x => ((decodeElem fmt e).scale x).round fmtFp32
    | none => .nan
  else decodeElem fmt e

/-- The finisher's integer steps: shift right with rounding to nearest even, RELU (05 R144, 06 R185). -/
def finishInt (shift act : Nat) (v : Int) : Int :=
  let r := rneShiftInt v shift
  if act = 1 ∧ r < 0 then 0 else r

/-- A signed integer as `n` bits. -/
def ofInt (n : Nat) (v : Int) : Nat := (v % 2 ^ n).toNat

/-- Convert an integer-mode result (06 R185); `unit` is the number of MXINT8 operands. -/
def convInt (fmtOut unit : Nat) (v : Int) : Nat :=
  match fmtOut with
  | 8 => ofInt 8 (satInt 8 v)
  | 11 => ofInt 32 (satInt 32 v)
  | 6 => encodeBf16 (.fin (decide (v < 0)) v.natAbs (-6 * unit))
  | _ => encodeFp32 (roundFp fmtFp32 (decide (v < 0)) v.natAbs (-6 * unit))

/-- Convert a CI16 result: each component saturates on its own (06 R185). -/
def convCi (re im : Int) : Nat := ofInt 16 (satInt 16 re) + 65536 * ofInt 16 (satInt 16 im)

/-- Pack elements of 4, 6 or 8 bits, a block of 32 at a time (06 R174). -/
def packBlock (fmt : Nat) (es : List Nat) : List Nat :=
  let bits := elemBits fmt
  leBytes (4 * bits) ((es.zipIdx.map (fun p => p.1 % 2 ^ bits * 2 ^ (bits * p.2))).foldl (· + ·) 0)

/-- The elements of a list, 32 at a time, the last block filled up with `d`. -/
def blocks32 {α : Type} (d : α) (vs : List α) : List (List α) :=
  (List.range ((vs.length + 31) / 32)).map (fun b =>
    let t := (vs.drop (32 * b)).take 32
    t ++ List.replicate (32 - t.length) d)

/-- A float output row in its format's layout (06 R174, R186 to R188). -/
def floatRow (fmt : Nat) (vs : List Fp) : List Nat :=
  if isMx fmt then
    let bs := (List.range ((vs.length + 31) / 32)).map (fun b => encodeBlock fmt ((vs.drop (32 * b)).take 32))
    (bs.map (fun p => packBlock fmt p.1)).flatten ++ bs.map (fun p => p.2)
  else
    match fmt with
    | 6 => (vs.map (fun v => leBytes 2 (encodeBf16 v))).flatten
    | 7 => (vs.map (fun v => leBytes 2 (encodeFp16 v))).flatten
    | _ => (vs.map (fun v => leBytes 4 (encodeFp32 v))).flatten

end Sys2Proof.Machine
end

