-- ==== Sys2Proof/Machine/Sm3.lean ====
section
/-! DEFINITION. Machine/Sm3.lean: the SM3 digest of GB/T 32905, which the spec names (02 R22; 11 R357; 18 R518; 20 R550) and does not restate: its constants
and its compression function are taken from that standard (notes/assumptions/8.md). -/
namespace Sys2Proof.Machine

open Sys2Proof

/-- A word rotated left. -/
def rotl (w : Word) (n : Nat) : Word := w.rotateLeft (n % 32)

/-- P0 and P1. -/
def sm3P0 (x : Word) : Word := x ^^^ rotl x 9 ^^^ rotl x 17
def sm3P1 (x : Word) : Word := x ^^^ rotl x 15 ^^^ rotl x 23

/-- T_j, FF_j and GG_j. -/
def sm3T (j : Nat) : Word := if j < 16 then 0x79CC4519 else 0x7A879D8A
def sm3FF (j : Nat) (x y z : Word) : Word := if j < 16 then x ^^^ y ^^^ z else (x &&& y) ||| (x &&& z) ||| (y &&& z)
def sm3GG (j : Nat) (x y z : Word) : Word := if j < 16 then x ^^^ y ^^^ z else (x &&& y) ||| (~~~x &&& z)

/-- The eight words of the chaining value. -/
structure Sm3State where
  a : Word
  b : Word
  c : Word
  d : Word
  e : Word
  f : Word
  g : Word
  h : Word
  deriving DecidableEq, Repr

/-- The initial value. -/
def sm3Init : Sm3State :=
  ⟨0x7380166F, 0x4914B2B9, 0x172442D7, 0xDA8A0600, 0xA96F30BC, 0x163138AA, 0xE38DEE4D, 0xB0FB0E4E⟩

/-- Round `j` with W_j and W'_j. -/
def sm3Round (j : Nat) (w w' : Word) (s : Sm3State) : Sm3State :=
  let ss1 := rotl (rotl s.a 12 + s.e + rotl (sm3T j) j) 7
  let ss2 := ss1 ^^^ rotl s.a 12
  let tt1 := sm3FF j s.a s.b s.c + s.d + ss2 + w'
  let tt2 := sm3GG j s.e s.f s.g + s.h + ss1 + w
  ⟨tt1, s.a, rotl s.b 9, s.c, sm3P0 tt2, s.e, rotl s.f 19, s.g⟩

/-- Rounds from `j` on. `win` holds W_j to W_{j+15}; each round shifts it by one. -/
def sm3Rounds : Nat → Nat → List Word → Sm3State → Sm3State
  | 0, _, _, s => s
  | n + 1, j, win, s =>
    let at_ := fun (i : Nat) => (win[i]?).getD 0
    let nx := sm3P1 (at_ 0 ^^^ at_ 7 ^^^ rotl (at_ 13) 15) ^^^ rotl (at_ 3) 7 ^^^ at_ 10
    sm3Rounds n (j + 1) (win.drop 1 ++ [nx]) (sm3Round j (at_ 0) (at_ 0 ^^^ at_ 4) s)

/-- Compress one block of 16 words. -/
def sm3Block (s : Sm3State) (ws : List Word) : Sm3State :=
  let r := sm3Rounds 64 0 ws s
  ⟨r.a ^^^ s.a, r.b ^^^ s.b, r.c ^^^ s.c, r.d ^^^ s.d, r.e ^^^ s.e, r.f ^^^ s.f, r.g ^^^ s.g, r.h ^^^ s.h⟩

/-- Big-endian words of bytes. -/
def beWords : Nat → List Nat → List Word
  | 0, _ => []
  | n + 1, bs =>
    let at_ := fun (i : Nat) => (bs[i]?).getD 0 % 256
    BitVec.ofNat 32 (at_ 0 * 2 ^ 24 + at_ 1 * 2 ^ 16 + at_ 2 * 2 ^ 8 + at_ 3) :: beWords n (bs.drop 4)

/-- Big-endian bytes of a number. -/
def sm3Bytes (n v : Nat) : List Nat := (List.range n).map (fun i => v / 256 ^ (n - 1 - i) % 256)

/-- The message with its padding: 0x80, zeros, and the length in bits as 64 bits big-endian. -/
def sm3Pad (bs : List Nat) : List Nat :=
  bs ++ [0x80] ++ List.replicate ((119 - bs.length % 64) % 64) 0 ++ sm3Bytes 8 (8 * bs.length)

/-- Blocks of 64 bytes, one after another. -/
def sm3Blocks : Nat → List Nat → Sm3State → Sm3State
  | 0, _, s => s
  | n + 1, bs, s => sm3Blocks n (bs.drop 64) (sm3Block s (beWords 16 bs))

/-- The 32 bytes of the digest of a message. -/
def sm3 (bs : List Nat) : List Nat :=
  let p := sm3Pad bs
  let r := sm3Blocks (p.length / 64) p sm3Init
  ([r.a, r.b, r.c, r.d, r.e, r.f, r.g, r.h].map (fun w => sm3Bytes 4 w.toNat)).flatten

end Sys2Proof.Machine
end

