-- ==== Sys2Proof/Machine/Shares.lean ====
section
/-! DEFINITION. Machine/Shares.lean: the shares of an easel in every resource, as the registers show them, and how the shrinks and growths
of an EASELS retouch take effect (02 R46, R47; 10 R331, R332; 04 R99). -/
namespace Sys2Proof.Machine

open Sys2Proof

/-! ### The sections in force (02 R36, R40, R56) -/

/-- Bytes of a blob. -/
def blobSlice (b : Blob) (o n : Nat) : List Nat := (List.range n).map (fun i => b.byte (o + i))

/-- All bytes of a blob. -/
def blobBytes (b : Blob) : List Nat := blobSlice b 0 b.len

/-- A blob with bytes written over it from an offset. -/
def blobPut (b : Blob) (o : Nat) (d : List Nat) : Blob :=
  ⟨b.len, b.bytes.filter (fun p => decide (p.1 < o ∨ o + d.length ≤ p.1)) ++
    (d.zipIdx.filter (fun p => decide (p.1 % 256 ≠ 0))).map (fun p => (o + p.2, BitVec.ofNat 8 p.1))⟩

/-- Show a digest in eight words, its first byte lowest (00 R603). -/
def State.setDigest (s : State) (f : Nat → Fld) (d : List Nat) : State :=
  forUpto 8 (fun w (t : State) => t.setFld 0 (f w) (ofLe ((d.drop (4 * w)).take 4))) s

/-- Where CVS_LIVE_DIG shows a section. -/
def liveIndex : Nat → Option Nat
  | 0x7 => some 0
  | 0xC => some 1
  | 0xE => some 2
  | 0x10 => some 3
  | _ => none

/-- The payload of a section in force. -/
def State.sec (s : State) (t : Nat) : Blob := SMap.get (fun _ => ⟨0, []⟩) s.cvs.live t

/-- Keep a section's payload in force, and show its digest if it can be retouched. -/
def State.keepSec (s : State) (t : Nat) (b : Blob) : State :=
  let s1 := { s with cvs := { s.cvs with live := SMap.set (fun _ => ⟨0, []⟩) s.cvs.live t b } }
  match liveIndex t with
  | some i => s1.setDigest (fun w => F.CVS_LIVE_DIG_DIGEST (8 * i + w)) (sm3 (blobBytes b))
  | none => s1

/-- The share fields of an EASELS entry (10 R307). -/
def ShareVec.bytes (v : ShareVec) : List Nat :=
  leBytes 4 v.bonded ++ leBytes 1 v.scratch ++ leBytes 1 v.dmem ++ leBytes 1 v.pmem ++ leBytes 1 v.scSlots ++ leBytes 2 v.tcSlots ++ leBytes 2 v.palette ++
    leBytes 2 v.seq

/-- EASELS with the shares of some easels replaced. -/
def putShares (b : Blob) (l : List (Nat × ShareVec)) : Blob := forEach l (fun p (c : Blob) => blobPut c (64 * p.1 + 8) p.2.bytes) b

/-! ### Shares -/

/-- How many numbers below `x` leave the rest `r` modulo `n`. -/
def countMod (x n r : Nat) : Nat := (x + n - 1 - r) / n

/-- How many of the first `x` units of a cell's block lie in a stack: its part follows those of the bays below it (04 R98). -/
def State.cellBelow (s : State) (c x stack : Nat) : Nat :=
  min (s.cellPart c stack) (x - ((List.range stack).map (s.cellPart c)).foldl (· + ·) 0)

/-- How many of easel 0's first `x` units lie in a stack, with `n` cells from cell `c` on (04 R98). -/
def State.radioBelow (s : State) (stack : Nat) : Nat → Nat → Nat → Nat
  | 0, _, x => countMod x 18 stack
  | n + 1, c, x => s.cellBelow c x stack + s.radioBelow stack n (c + 1) (x - s.cellBlock c)

/-- How many of an easel's units below `x` lie in a stack (04 R97, R98). -/
def State.unitsBelow (s : State) (easel x stack : Nat) : Nat :=
  if easel = 0 then s.radioBelow stack (s.fld 0 F.RAD_STATUS_CELLS) 0 x
  else match s.fld easel F.MEM_EAS_PLACE_MODE with
    | 1 =>
      let p := s.fld easel F.MEM_EAS_PLACE_TARGET
      if stack / 6 = p then countMod x 6 (stack % 6) else 0
    | 2 => if stack = s.fld easel F.MEM_EAS_PLACE_TARGET then x else 0
    | _ => countMod x 18 stack

/-- The key of a poison mark once a granule's unit has joined or left a map: the granule stays in its stack (04 R99, R112). -/
def State.granuleKey (s : State) (k : Nat) : Nat :=
  let a := k % 2 ^ 46
  let e := k / 2 ^ 46
  if 2 ^ 62 ≤ k then (s.stackGranule ((k - 2 ^ 62) / 2 ^ 36) (k % 2 ^ 36)).key
  else if k < 2 ^ 52 ∧ s.fld e F.MEM_EAS_MAPPED_UNITS ≤ a / 65536 then stackKey (s.stackOf e (a / 65536)) (Config.physUnit e (a / 65536) * 65536 + a % 65536)
  else k

/-- Set the number of bonded units in an easel's map, and the free units of every stack with it (04 R99, R120); poisoned granules keep their marks. -/
def State.setBondMapped (s : State) (easel n : Nat) : State :=
  let m := s.fld easel F.MEM_EAS_MAPPED_UNITS
  let s1 := forUpto 18 (fun k t =>
    t.setFld k F.MEM_STK_FREE_UNITS (s.fld k F.MEM_STK_FREE_UNITS + s.unitsBelow easel m k - s.unitsBelow easel n k)) s
  let s2 := s1.setFld easel F.MEM_EAS_MAPPED_UNITS n
  { s2 with poison := s2.poison.foldl (fun (l : NSet) g => NSet.add (s2.granuleKey (64 * g) / 64) l) [] }

/-- Set an easel's admission limits: the lower of two share vectors' fields is passed in (02 R47). -/
def State.setLimits (s : State) (e : Nat) (v : ShareVec) : State :=
  let s1 := (s.setFld e F.MEM_EAS_SHARE_UNITS v.bonded).setFld e F.PAL_EAS_SHARE_GRANULES v.palette
  let s2 := s1.setFld e F.EAS_CFG_SEQ v.seq
  let s3 := forUpto 48 (fun c t => (t.setFld (ce c e) F.TC_EAS_SP_SHARE_UNITS v.scratch).setFld (ce c e) F.TC_EAS_QLIMIT_SLOTS v.tcSlots) s2
  forUpto 192 (fun c t =>
    ((t.setFld (ce c e) F.SC_EAS_DM_SHARE v.dmem).setFld (ce c e) F.SC_EAS_PM_SHARE v.pmem).setFld (ce c e) F.SC_EAS_QLIMIT_SLOTS v.scSlots) s3

/-- Set the units in an easel's maps. -/
def State.setMapped (s : State) (e : Nat) (v : ShareVec) : State :=
  let s1 := s.setBondMapped e v.bonded
  let s2 := forUpto 48 (fun c t => t.setFld (ce c e) F.TC_EAS_SP_MAPPED_UNITS v.scratch) s1
  forUpto 192 (fun c t => (t.setFld (ce c e) F.SC_EAS_DM_MAPPED v.dmem).setFld (ce c e) F.SC_EAS_PM_MAPPED v.pmem) s2

/-- Field by field minimum of two share vectors. -/
def ShareVec.min (a b : ShareVec) : ShareVec :=
  ⟨Nat.min a.bonded b.bonded, Nat.min a.scratch b.scratch, Nat.min a.dmem b.dmem, Nat.min a.pmem b.pmem, Nat.min a.scSlots b.scSlots,
   Nat.min a.tcSlots b.tcSlots, Nat.min a.palette b.palette, Nat.min a.seq b.seq⟩

/-- Whether a memory share shrinks (02 R46): queue-slot shares are no memory shares. -/
def PendShare.shrinks (p : PendShare) : Bool :=
  decide (p.new.bonded < p.old.bonded ∨ p.new.scratch < p.old.scratch ∨ p.new.dmem < p.old.dmem ∨ p.new.pmem < p.old.pmem ∨
    p.new.palette < p.old.palette ∨ p.new.seq < p.old.seq)

/-- Whether a shrink of a pending retouch has not taken effect yet (02 R47). -/
def PendShare.waits (p : PendShare) : Bool := p.shrinks && !p.shrunk

/-- The pending bit and the verdict of a retouch whose last effect has taken place (02 R44, R56), with PF0's vector 2 (17 R501). `bit` is the
type's bit of CVS_RT_PENDING. -/
def State.retouchDone (s : State) (bit : Nat) : State :=
  let s1 := s.clrFld 0 F.CVS_RT_PENDING_TYPES (2 ^ bit)
  if s1.fld 0 F.CVS_RT_STATUS_CODE = 2 ∧ s1.cvs.latest = bit then (s1.setFld 0 F.CVS_RT_STATUS_CODE 3).fire 0 2 else s1

/-- All growths of the retouch take effect together with its last shrink (02 R47), and the live section is the retouched one. -/
def State.growShares (s : State) : State :=
  let s1 := forEach s.cvs.pendShares (fun p t => (t.setLimits p.easel p.new).setMapped p.easel p.new) s
  let s2 := { s1 with cvs := { s1.cvs with pendShares := [] } }
  (s2.keepSec 0x7 (putShares (s2.sec 0x7) (s.cvs.pendShares.map (fun p => (p.easel, p.new))))).retouchDone 0

/-- The pending shrink of an easel takes effect at its step boundary: units beyond the new size leave its maps; with the last shrink the
growths follow (02 R47, R48). -/
def State.shrinkEffect (s : State) (e : Nat) : State :=
  if s.cvs.pendShares.any (fun p => decide (p.easel = e) && p.waits) then
    let s1 := forEach (s.cvs.pendShares.filter (fun p => decide (p.easel = e)))
      (fun p t => t.setMapped p.easel (p.new.min p.old)) s
    let ps := s.cvs.pendShares.map (fun p => if p.easel = e then { p with shrunk := true } else p)
    let s2 := { s1 with cvs := { s1.cvs with pendShares := ps } }
    if ps.any PendShare.waits then s2 else s2.growShares
  else s

end Sys2Proof.Machine
end

