-- ==== Sys2Proof/Machine/CellMap.lean ====
section
/-! DEFINITION. Machine/CellMap.lean: what the live CELLMAP and RADIO_CODE sections say of an S-core, and the loading of its program image (07 R229; 08
R236, R237). -/
namespace Sys2Proof.Machine

open Sys2Proof

/-- Types of sections (02 "Section types"). -/
def secCellmap : Nat := 0xA
def secRadioCode : Nat := 0xB

/-- A field of a CELLMAP entry (08 R237). -/
def State.cellLe (s : State) (c o n : Nat) : Nat := (s.sec secCellmap).le (64 + 64 * c + o) n

/-- CELL_COUNT (08 R267). -/
def State.cellCount (s : State) : Nat := s.fld 0 F.RAD_STATUS_CELLS

/-- The streams of a class (08 R234): DL, UL, SRS, PRACH. -/
def classStreams : Nat → Nat × Nat × Nat × Nat
  | 0 => (4, 4, 0, 4)
  | 1 => (8, 8, 0, 8)
  | 2 => (16, 8, 32, 4)
  | _ => (16, 16, 64, 4)

/-- The most DL layers and UL layers of a class (08 R234). -/
def classLayers : Nat → Nat × Nat
  | 0 => (4, 2)
  | 1 => (8, 4)
  | 2 => (16, 8)
  | _ => (16, 16)

/-- The cell units and flows of a class (08 R234). -/
def classUnits : Nat → Nat
  | 0 => 1
  | 1 => 2
  | 2 => 4
  | _ => 8
def classFlows (c : Nat) : Nat := (classStreams c).1 + (classStreams c).2.1 + (classStreams c).2.2.1 + (classStreams c).2.2.2

def State.cellStreams (s : State) (c : Nat) : Nat × Nat × Nat × Nat := classStreams (s.fld c F.RAD_CELL_CFG_CLASS)
def State.cellLayers (s : State) (c : Nat) : Nat × Nat := classLayers (s.fld c F.RAD_CELL_CFG_CLASS)
def State.cellFlowBase (s : State) (c : Nat) : Nat := s.fld c F.RAD_CELL_MAP_FLOW_BASE

/-- The cell whose range holds a flow (08 R237). -/
def State.cellOfFlow (s : State) (f : Nat) : Option Nat :=
  (List.range s.cellCount).find? (fun c =>
    decide (s.cellFlowBase c ≤ f ∧ f < s.cellFlowBase c + classFlows (s.fld c F.RAD_CELL_CFG_CLASS)))

/-- The first cell whose S-cores include one. -/
def State.cellOfCore (s : State) (core : Nat) : Option Nat :=
  (List.range s.cellCount).find? (fun c =>
    decide (s.cellFirst c ≤ core ∧ core < s.cellFirst c + s.fld c F.RAD_CELL_MAP_SC_COUNT))

/-- The share of a panel's decoders that was busy over the last 10 ms, in per cent (08 R267). -/
def State.ldpcShare (s : State) (panel : Nat) : Nat :=
  let l : List (Nat × Nat) := (SMap.get (fun _ => []) s.ldpc panel).filter (fun p => decide (s.nowNs < p.1 + 10000000))
  let sum : Nat := (l.map (fun p => p.2)).foldl (· + ·) 0
  shown ((sum : Rat) / (12 * 84000000 / (s.fld 0 F.CLK_DIV_S_DIV : Rat)))

/-- Show them (08 R267). -/
def State.showLdpc (s : State) : State :=
  ((s.setFld 0 F.RAD_LDPC_UTIL_W (s.ldpcShare 0)).setFld 0 F.RAD_LDPC_UTIL_C (s.ldpcShare 1)).setFld 0 F.RAD_LDPC_UTIL_E (s.ldpcShare 2)

/-- The directory entry of a RADIO_CODE image: its offset within the payload (07 R229). -/
def imageEntry (b : Blob) (id : Nat) : Option Nat :=
  ((List.range (b.le 0 2)).map (fun i => 64 + 32 * i)).find? (fun o => decide (b.le o 1 = 1 ∧ b.le (o + 2) 2 = id))

end Sys2Proof.Machine
end

