-- ==== Sys2Proof/Machine/SeqBase.lean ====
section
/-! DEFINITION. Machine/SeqBase.lean: the areas an easel gives the sequence engine, the sequence table, and what each reader sees of them (11 R340 to
R342, R362). -/
namespace Sys2Proof.Machine

open Sys2Proof

/-- The sequence engine's state for an easel. -/
def State.seqEas (s : State) (e : Nat) : SeqEas := SMap.get (fun _ => SeqEas.empty) s.seq e

/-- Set it. -/
def State.setSeqEas (s : State) (e : Nat) (x : SeqEas) : State := { s with seq := SMap.set (fun _ => SeqEas.empty) s.seq e x }

/-- A sequence-table entry by its easel-relative index. -/
def State.seqEntry (s : State) (e i : Nat) : SeqEntry := SMap.get (fun _ => SeqEntry.free) (s.seqEas e).entries i

/-- Entries not FREE, in index order. -/
def SeqEas.active (x : SeqEas) : List (Nat × SeqEntry) := x.entries.filter (fun p => decide (p.2.state ≠ 0))

/-- Show the table's counts (11 R365, R366). -/
def State.showSeqCounts (s : State) (e : Nat) : State :=
  let x := s.seqEas e
  let s1 := (s.setFld e F.SEQ_EAS_COUNTS_ACTIVE x.active.length).setFld e F.SEQ_EAS_COUNTS_SWAPPED
    (x.active.filter (fun p => decide (p.2.state = 5))).length
  s1.setFld 0 F.SEQ_STATUS_ACTIVE ((s1.seq.map (fun p => p.2.active.length)).foldl (· + ·) 0)

/-- Set a sequence-table entry. -/
def State.setSeqEntry (s : State) (e i : Nat) (t : SeqEntry) : State :=
  let x := s.seqEas e
  (s.setSeqEas e { x with entries := SMap.set (fun _ => SeqEntry.free) x.entries i t }).showSeqCounts e

/-! ### Areas (R340, R341) -/

/-- Whether the engine serves an easel. -/
def State.seqOn (s : State) (e : Nat) : Bool := s.flag e F.SEQ_EAS_CTRL_ENABLE

def State.pageTokens (s : State) (e : Nat) : Nat := s.fld e F.SEQ_EAS_PAGE_CFG_PAGE_TOKENS

/-- ROW_BYTES: 64 to 4,096 (R366). -/
def State.rowLen (s : State) (e : Nat) : Nat :=
  if s.fld e F.SEQ_EAS_PAGE_CFG_ROW_64 = 0 then 4096 else 64 * s.fld e F.SEQ_EAS_PAGE_CFG_ROW_64

/-- PAGE_BYTES (R341). -/
def State.pageBytes (s : State) (e : Nat) : Nat := s.pageTokens e * s.fld e F.SEQ_EAS_PAGE_CFG_LAYERS * 2 * s.rowLen e

def State.kvBase (s : State) (e : Nat) : Nat := 65536 * s.fld e F.SEQ_EAS_KV_BASE_UNIT

/-- The page-list area: base and bytes, whole units (R340). -/
def State.plBase (s : State) (e : Nat) : Nat := 65536 * s.fld e F.SEQ_EAS_PL_BASE_UNIT
def State.plBytes (s : State) (e : Nat) : Nat := alignUp (s.fld e F.EAS_CFG_SEQ * s.fld e F.SEQ_EAS_PL_LEN_PAGES * 4) 65536

/-- The address of entry `p` of sequence `i`'s page list (R342). -/
def State.plAddr (s : State) (e i p : Nat) : Nat := s.plBase e + (i * s.fld e F.SEQ_EAS_PL_LEN_PAGES + p) * 4

/-- The pool page in an entry of a page list. -/
def State.pageAt (s : State) (e i p : Nat) : Nat := s.readLe (bondKey e (s.plAddr e i p)) 4

/-- The work-list buffer of a step (R353). -/
def State.wlBuf (s : State) (e step : Nat) : Nat := 65536 * s.fld e F.SEQ_EAS_WL_BASE_UNIT + step % 2 * 2 ^ 20

/-- The sequence and list position that hold a pool page. -/
def State.pageOwner (s : State) (e g : Nat) : Option (Nat × Nat) :=
  (s.seqEas e).active.findSome? (fun q => ((List.range q.2.pages).find? (fun p => decide (s.pageAt e q.1 p = g))).map (fun p => (q.1, p)))

/-- Whether a sequence is in the open step. -/
def State.inOpenStep (s : State) (e i : Nat) : Bool := (s.seqEas e).segs.any (fun g => decide (g.seq = i))

/-- Whether a byte of a token array is in a draft row that a closed step left unvarnished (11 "What each reader sees"). -/
def State.staleRow (s : State) (e a : Nat) : Bool :=
  [0, 1].any (fun b =>
    let tok := s.wlBuf e b + 0x40040
    decide (tok ≤ a) && (SMap.get (fun _ => []) (s.seqEas e).stale b).contains ((a - tok) / 4))

/-- Whether a byte is provisional, and for which sequence: a KV slot at or beyond CTX_LEN (a page of no sequence has no committed slot), or a draft
row of the token array (11 "What each reader sees"). The outer `none` is a committed byte or one of no underpainting area. -/
def State.provisional (s : State) (e a : Nat) : Option (Option Nat) :=
  if !s.seqOn e then none
  else
    let kv := s.kvBase e
    let pb := s.pageBytes e
    let tok := s.wlBuf e (s.fld e F.SEQ_EAS_STEP_STEP) + 0x40040
    if kv ≤ a ∧ a < kv + s.fld e F.SEQ_EAS_KV_PAGES_PAGES * pb then
      match s.pageOwner e ((a - kv) / pb) with
      | none => some none
      | some (i, p) =>
        let pos := p * s.pageTokens e + (a - kv) % pb / s.rowLen e % s.pageTokens e
        if pos < (s.seqEntry e i).ctxLen then none else some (some i)
    else if tok ≤ a ∧ a < tok + 4 * (s.seqEas e).rows then
      let row := (a - tok) / 4
      ((s.seqEas e).segs.find? (fun g => decide (g.kind = 3 ∧ g.row < row ∧ row < g.row + g.count))).map (fun g => some g.seq)
    else if s.staleRow e a then some none else none

/-- Who reads bonded memory (R362). -/
inductive Reader where
  /-- A pass channel or the easel's embedding engine. -/
  | pass
  /-- Everybody else with a committed view. -/
  | committed
  /-- The engine itself, and debug reads under a grant. -/
  | full
  deriving DecidableEq, Repr

/-- Whether a reader sees a byte as zero (R362). -/
def State.masks (s : State) (r : Reader) (e a : Nat) : Bool :=
  match r, s.provisional e a with
  | .full, _ => false
  | _, none => false
  | .pass, some (some i) => !s.inOpenStep e i
  | _, some _ => true

/-- Whether a range holds a masked byte. -/
def State.masksAny (s : State) (r : Reader) (e a n : Nat) : Bool := (List.range n).any (fun i => s.masks r e (a + i))

/-- Data of an easel's memory as a reader sees it. -/
def State.viewOf (s : State) (r : Reader) (e a : Nat) (bs : List Nat) : List Nat :=
  bs.zipIdx.map (fun p => if s.masks r e (a + p.2) then 0 else p.1)

/-- Whether two ranges of bytes meet. -/
def overlaps (a n b m : Nat) : Bool := decide (a < b + m ∧ b < a + n)

/-- Whether a store touches the page lists, which only the engine writes (R342). -/
def State.hitsPageList (s : State) (e a n : Nat) : Bool := s.seqOn e && overlaps a n (s.plBase e) (s.plBytes e)

/-- Whether a range touches an underpainting area: the KV pool, the page lists or the work lists (11 "What each reader sees"). -/
def State.hitsUnderpainting (s : State) (e a n : Nat) : Bool :=
  s.seqOn e && (overlaps a n (s.kvBase e) (s.fld e F.SEQ_EAS_KV_PAGES_PAGES * s.pageBytes e) || overlaps a n (s.plBase e) (s.plBytes e) ||
    overlaps a n (65536 * s.fld e F.SEQ_EAS_WL_BASE_UNIT) (2 * 2 ^ 20))

/-- Whether a channel is one of the easel's pass channels (R340, R366). -/
def State.isPass (s : State) (e n : Nat) : Bool :=
  (s.flag e F.SEQ_EAS_PASS_CH01_V0 && decide (s.fld e F.SEQ_EAS_PASS_CH01_CH0 = n)) ||
  (s.flag e F.SEQ_EAS_PASS_CH01_V1 && decide (s.fld e F.SEQ_EAS_PASS_CH01_CH1 = n)) ||
  (s.flag e F.SEQ_EAS_PASS_CH23_V2 && decide (s.fld e F.SEQ_EAS_PASS_CH23_CH2 = n)) ||
  (s.flag e F.SEQ_EAS_PASS_CH23_V3 && decide (s.fld e F.SEQ_EAS_PASS_CH23_CH3 = n))

/-- The view of a stream channel on its easel's memory (R362). -/
def State.chanReader (s : State) (e n : Nat) : Reader := if s.isPass e n then .pass else .committed

/-- The sequence in the open step whose committed slot holds a poisoned byte at an address of an easel, if there is one (R363). -/
def State.poisonedSeq (s : State) (e a : Nat) : Option Nat :=
  let kv := s.kvBase e
  let pb := s.pageBytes e
  if kv ≤ a ∧ a < kv + s.fld e F.SEQ_EAS_KV_PAGES_PAGES * pb ∧ s.poisoned (bondKey e a) 1 = true ∧ (s.provisional e a).isNone then
    ((s.pageOwner e ((a - kv) / pb)).map (·.1)).filter (s.inOpenStep e)
  else none

/-- A pass channel read poison from committed slots of sequences in the open step: they end with LOST at their varnish (R363). Slots are whole granules of 64 bytes. -/
def State.notePoisonedRead (s : State) (e n a len : Nat) : State :=
  if !s.isPass e n then s
  else
    forEach (((List.range ((a % 64 + len + 63) / 64)).filterMap (fun g => s.poisonedSeq e ((a / 64 + g) * 64))).dedup)
      (fun i (t : State) => t.setSeqEntry e i { t.seqEntry e i with lost := some 0 }) s

end Sys2Proof.Machine
end

