-- ==== Sys2Proof/Machine/Scoreboard.lean ====
section
/-! DEFINITION. Machine/Scoreboard.lean: completion records and their rings (10 R333 to R336, R607), admission and step boundaries (02 R48, 10
R333), link semaphores (09 R269, R287 to R289). -/
namespace Sys2Proof.Machine

open Sys2Proof

/-! ### Completion rings -/

/-- Kinds of a record's source (10 R315; 11 and 12 give 0x10 up). -/
def kindTcore : Nat := 1
def kindScore : Nat := 2
def kindChannel : Nat := 3

/-- A ring before its ENABLE has been set. -/
def ringDefault : Nat → RingPos := fun _ => RingPos.start

/-- Whether the next entry's place in the completion ring is free (10 R336). -/
def State.cqFull (s : State) (e : Nat) : Bool :=
  decide ((s.fld e F.EAS_CQ_TAIL_TAIL + 1) % 2 ^ s.fld e F.EAS_CQ_SIZE_SIZE = s.fld e F.EAS_CQ_HEAD_HEAD)

/-- The address of the completion ring's next entry. -/
def State.cqAddr (s : State) (e : Nat) : Nat :=
  s.fld64 e F.EAS_CQ_BASE_LO_ADDR F.EAS_CQ_BASE_HI_ADDR + 32 * s.fld e F.EAS_CQ_TAIL_TAIL

/-- Whether the next entry can be written where the ring lies (10 R607). -/
def State.cqReachable (s : State) (e : Nat) : Bool :=
  if s.flag e F.EAS_CQ_SIZE_SPACE then s.inShare e (s.cqAddr e) 32 && !s.hitsPageList e (s.cqAddr e) 32 else s.translates e (s.cqAddr e)

/-- The submission ring and the completion ring of an easel, as they are keyed in `ringBad`. -/
def sqRing (e : Nat) : Nat := 2 * e
def cqRing (e : Nat) : Nat := 2 * e + 1

/-- What is noted of a ring that could not be accessed (10 R607). -/
def State.ringNote (s : State) (r : Nat) : Nat := SMap.get (fun _ => 0) s.sched.ringBad r

/-- Note it, and show in RING_FAULT whether either ring of the easel has failed. -/
def State.setRingNote (s : State) (r v : Nat) : State :=
  let s1 := { s with sched := { s.sched with ringBad := SMap.set (fun _ => 0) s.sched.ringBad r v } }
  s1.setFlag (r / 2) F.EAS_STATUS_RING_FAULT (decide (s1.ringNote (sqRing (r / 2)) ≠ 0 ∨ s1.ringNote (cqRing (r / 2)) ≠ 0))

/-- The owner writes a ring's register: an access that failed is tried again (10 R607). -/
def State.ringRetry (s : State) (r : Nat) : State := if s.ringNote r = 1 then s.setRingNote r 2 else s

/-- A ring access that cannot be made: counted once, RING_FAULT set, a usage fault to the easel; the ring then waits for its owner's write (10 R607). -/
def State.ringFault (s : State) (r addr : Nat) (bonded : Bool) : State :=
  let e := r / 2
  let s1 := s.setRingNote r 1
  if s.ringNote r ≠ 0 then s1
  else
    if bonded then (s1.incSat e F.MEM_EAS_FAULTS_OOS 1).usageFault e ukNone 0 addr ufOutOfShare
    else (s1.incSat e F.CXL_EAS_XLATE_FAULTS 1).usageFault e ukNone 0 0 ufTranslation

/-- Show whether the completion ring is full (10 R336, R339). -/
def State.showCqFull (s : State) (e : Nat) : State := s.setFlag e F.EAS_STATUS_CQ_FULL (s.cqFull e)

/-- The 32 bytes of a ring entry: the engine's record and the envelope (10 R334). -/
def PostedRec.entry (r : PostedRec) (p : RingPos) : List Nat :=
  r.bytes ++ leBytes 1 r.kind ++ leBytes 1 (if p.phase then 1 else 0) ++ leBytes 2 0 ++ leBytes 4 p.seqno ++ leBytes 8 r.time

/-- Write one record to the completion ring and advance the tail (10 R334, R335). Model's choice: notes/assumptions/162.md. -/
def State.cqWrite (s : State) (e : Nat) (r : PostedRec) : State :=
  let p := SMap.get ringDefault s.sched.ring e
  let t' := (s.fld e F.EAS_CQ_TAIL_TAIL + 1) % 2 ^ s.fld e F.EAS_CQ_SIZE_SIZE
  let s1 := if s.flag e F.EAS_CQ_SIZE_SPACE then (s.bondStore e (s.cqAddr e) (r.entry p)).st else s.hostWrite e (s.cqAddr e) (r.entry p)
  let p' : RingPos := ⟨if t' = 0 then !p.phase else p.phase, (p.seqno + 1) % 2 ^ 32⟩
  let s2 := { s1 with sched := { s1.sched with ring := SMap.set ringDefault s1.sched.ring e p' } }
  ((s2.setFld e F.EAS_CQ_TAIL_TAIL t').showCqFull e).fireModerated e 0

/-- Set the records that wait for an easel's ring. -/
def State.setUndelivered (s : State) (e : Nat) (l : List PostedRec) : State :=
  { s with sched := { s.sched with undelivered := SMap.set (fun _ => []) s.sched.undelivered e l } }

/-- Deliver waiting records in order while the ring is active, has room and can be written (10 R335, R336, R607). -/
def deliverList (e : Nat) : List PostedRec → State → State
  | [], s => s.setUndelivered e []
  | r :: t, s =>
    if !s.flag e F.EAS_CTRL_ENABLE || s.cqFull e || decide (s.ringNote (cqRing e) = 1) || (!s.flag e F.EAS_CQ_SIZE_SPACE && !s.hostUp) then s.setUndelivered e (r :: t)
    else if s.cqReachable e then deliverList e t ((s.setRingNote (cqRing e) 0).cqWrite e r)
    else (s.ringFault (cqRing e) (s.cqAddr e) (s.flag e F.EAS_CQ_SIZE_SPACE)).setUndelivered e (r :: t)

/-- Deliver what waits for an easel's ring. -/
def State.deliver (s : State) (e : Nat) : State := deliverList e (SMap.get (fun _ => []) s.sched.undelivered e) s

/-- An engine posts a 16-byte record of an easel; records of one easel are delivered in the order posted (10 R333 to R335). -/
def State.postRecord (s : State) (e kind : Nat) (rec : List Nat) : State :=
  let l := SMap.get (fun _ => []) s.sched.undelivered e ++ [⟨kind, rec, s.nowNs⟩]
  (s.setUndelivered e l).deliver e

/-- Whether an easel's ring holds back its work: it is full, or records wait because it cannot be written (10 R336, R607). -/
def State.cqHeld (s : State) (e : Nat) : Bool :=
  s.flag e F.EAS_STATUS_CQ_FULL || !(SMap.get (fun _ => []) s.sched.undelivered e).isEmpty

/-! ### Admission and step boundaries -/

/-- The easel's commands and descriptors that are not complete, in admission order. -/
def State.live (s : State) (e : Nat) : List Nat := SMap.get (fun _ => []) s.sched.outstanding e

/-- Admit a command of an easel: its admission number, and the state after (10 R333). -/
def State.enroll (s : State) (e : Nat) : Nat × State :=
  (s.sched.nextId,
   { s with sched := { s.sched with
      nextId := s.sched.nextId + 1
      outstanding := SMap.set (fun _ => []) s.sched.outstanding e (s.live e ++ [s.sched.nextId]) } })

/-- A step boundary: counted; a pending shrink of the easel takes effect (02 R47, R48; 10 R333); a freeze stops admission (18 R515). -/
def State.stepBoundary (s : State) (e : Nat) : State :=
  let s1 := (s.incWrap e F.EAS_STEPS_COUNT 1).shrinkEffect e
  if s1.fld e F.EAS_LIFE_STATE = 4 then { s1 with ten := { s1.ten with stopped := NSet.add e s1.ten.stopped } } else s1

/-- Whether a step of the sequence engine is open for the easel, or being built (02 R48). -/
def State.seqStepOpen (s : State) (e : Nat) : Bool := decide (s.fld e F.SEQ_EAS_STATUS_PHASE ≠ 0) || s.flag e F.SEQ_EAS_STATUS_ADMIT_WAIT

/-- Whether the easel has active sequence-table entries (02 R48). -/
def State.seqActive (s : State) (e : Nat) : Bool := decide (s.fld e F.SEQ_EAS_COUNTS_ACTIVE ≠ 0)

/-- No channel of the easel has a run. -/
def State.noRuns (s : State) (e : Nat) : Bool :=
  s.str.chans.all (fun p => decide (s.fld p.1 F.STR_CH_CFG_EASEL ≠ e) || (p.2.run.isNone && p.2.pend.isNone))

/-- Nothing of the easel is queued or in flight, and no step is open (02 R48). -/
def State.easelIdle (s : State) (e : Nat) : Bool := (s.live e).isEmpty && s.noRuns e && !s.seqStepOpen e

/-- A completed step-end mark whose easel has no earlier command outstanding is due (02 R48). -/
def State.dueMark (s : State) (e : Nat) : Bool :=
  !s.seqActive e && (SMap.get (fun _ => []) s.sched.marks e).any (fun m => (s.live e).all (fun i => decide (m < i)))

/-- Judge step boundaries after a completion (02 R48): at once when the easel has become idle, else where a step-end mark has been reached, unless the easel has active
sequence-table entries, for which a mark counts for nothing. -/
def State.judgeBoundary (s : State) (e : Nat) : State :=
  let ms := (SMap.get (fun _ => []) s.sched.marks e).filter (fun m => !(s.live e).all (fun i => decide (m < i)))
  let s1 := { s with sched := { s.sched with marks := SMap.set (fun _ => []) s.sched.marks e (if s.easelIdle e then [] else ms) } }
  if s.easelIdle e || s.dueMark e then s1.stepBoundary e else s1

/-- Admit a run of descriptors of an easel: the admission number of the first; the scoreboard is shown by the lowest that is not complete, as they complete in order (10 R333). -/
def State.enrollRun (s : State) (e n : Nat) : Nat × State :=
  (s.sched.nextId,
   { s with sched := { s.sched with
      nextId := s.sched.nextId + n
      outstanding := SMap.set (fun _ => []) s.sched.outstanding e (s.live e ++ [s.sched.nextId]) } })

/-- A descriptor of a run completes: the next one of the run is the lowest not complete, if there is one (09 R284; 10 R333). -/
def State.passDesc (s : State) (e id : Nat) (last stepEnd : Bool) : State :=
  let l := if last then (s.live e).filter (fun i => decide (i ≠ id)) else (s.live e).map (fun i => if i = id then id + 1 else i)
  { s with sched := { s.sched with
      outstanding := SMap.set (fun _ => []) s.sched.outstanding e l
      marks := if stepEnd then SMap.set (fun _ => []) s.sched.marks e (SMap.get (fun _ => []) s.sched.marks e ++ [id]) else s.sched.marks } }

/-- A run leaves the scoreboard. -/
def State.dropRun (s : State) (e base n : Nat) : State :=
  { s with sched := { s.sched with outstanding := SMap.set (fun _ => []) s.sched.outstanding e ((s.live e).filter (fun i => decide (i < base ∨ base + n ≤ i))) } }

/-- A command completes: it leaves the outstanding ones, and the easel's step boundaries are judged (02 R48, 10 R333). -/
def State.retire (s : State) (e id : Nat) (stepEnd : Bool) : State :=
  let s1 := { s with sched := { s.sched with
      outstanding := SMap.set (fun _ => []) s.sched.outstanding e ((s.live e).filter (fun i => decide (i ≠ id)))
      marks := if stepEnd then SMap.set (fun _ => []) s.sched.marks e (SMap.get (fun _ => []) s.sched.marks e ++ [id]) else s.sched.marks } }
  s1.judgeBoundary e

/-- Commands that T-cores run and that S-cores run or hold parked. -/
def State.inFlight (s : State) : List Nat :=
  (s.tc.map (fun p => p.2.running.map (fun r => r.cmd.id))).flatten ++
    (s.sc.map (fun p => (p.2.radio.toList ++ p.2.tenant.toList).map (fun x => x.cmd.id))).flatten

/-- Show SCH_MODE.MOVING: the cores that still hold a command launched in the other mode (10 R312, R338). -/
def State.showMoving (s : State) : State :=
  let old := fun (l : List Nat) => l.any (fun i => decide (i ∈ s.sched.moving))
  let n := (s.tc.filter (fun p => old (p.2.running.map (fun r => r.cmd.id)))).length +
    (s.sc.filter (fun p => old ((p.2.radio.toList ++ p.2.tenant.toList).map (fun x => x.cmd.id)))).length
  ({ s with sched := { s.sched with moving := s.sched.moving.filter (fun i => decide (i ∈ s.inFlight)) } }).setFld 0 F.SCH_MODE_MOVING n

/-! ### Semaphores -/

/-- The number of a semaphore: link n has FULL 2n and EMPTY 2n + 1 (09 R269). -/
def semId (link : Nat) (empty : Bool) : Nat := 2 * link + (if empty then 1 else 0)

/-- The count field of a semaphore (09 R305). -/
def semFld (sem : Nat) : Fld := if sem % 2 = 0 then F.STR_CH_SEM_FULL else F.STR_CH_SEM_EMPTY

/-- A semaphore's count. -/
def State.semCount (s : State) (sem : Nat) : Nat := s.fld (sem / 2) (semFld sem)

/-- Set a semaphore's count. -/
def State.setSem (s : State) (sem n : Nat) : State := s.setFld (sem / 2) (semFld sem) n

/-- Takes waiting on a semaphore, in arrival order. -/
def State.semWaiters (s : State) (sem : Nat) : List Waiter := SMap.get (fun _ => []) s.sched.waiting sem

/-- Set the takes waiting on a semaphore and show their number, saturating at 0xFF (09 R305). -/
def State.setWaiters (s : State) (sem : Nat) (l : List Waiter) : State :=
  let s1 := { s with sched := { s.sched with waiting := SMap.set (fun _ => []) s.sched.waiting sem l } }
  s1.setFld (sem / 2) (if sem % 2 = 0 then F.STR_CH_SEMSTAT_FULL_WAIT else F.STR_CH_SEMSTAT_EMPTY_WAIT) (min l.length 0xFF)

/-- Whether a link belongs to an easel: a channel that PALETTE does not enable belongs to none (09 R269). -/
def State.ownsLink (s : State) (e link : Nat) : Bool := s.flag link F.STR_CH_CFG_ENABLED && decide (s.fld link F.STR_CH_CFG_EASEL = e)

/-- A channel becomes ready for a thread (09 R271). -/
def State.makeReady (s : State) (n : Nat) : State :=
  if s.str.ready.any (fun x => decide (x = n)) then s else { s with str := { s.str with ready := s.str.ready ++ [n] } }

/-- A granted take reaches its waiter (09 R289): a channel that waited becomes ready; another engine finds its take granted. -/
def State.grantTake (s : State) (w : Waiter) : State :=
  let s1 := { s with sched := { s.sched with granted := s.sched.granted ++ [w] } }
  match w with
  | .channel n => s1.makeReady n
  | _ => s1

/-- Whether a take of a waiter has been granted. -/
def State.takeGranted (s : State) (w : Waiter) : Bool := s.sched.granted.any (fun x => decide (x = w))

/-- Use up a granted take. -/
def State.useTake (s : State) (w : Waiter) : State := { s with sched := { s.sched with granted := s.sched.granted.erase w } }

/-- A waiter that has ended waits no longer, and a take granted to it goes unused (R298; notes/assumptions/142.md). -/
def State.dropTakes (s : State) (w : Waiter) : State :=
  let ks := (s.sched.waiting.filter (fun p => p.2.any (fun x => decide (x = w)))).map (·.1)
  let s1 := ks.foldl (fun (t : State) k => t.setWaiters k ((t.semWaiters k).filter (fun x => decide (x ≠ w)))) s
  { s1 with sched := { s1.sched with granted := s1.sched.granted.filter (fun x => decide (x ≠ w)) } }

/-- Serve waiting takes from the count, in arrival order, one count each (09 R287, R288). -/
def serveTakes (sem : Nat) : List Waiter → State → State
  | [], s => s.setWaiters sem []
  | w :: t, s => if s.semCount sem = 0 then s.setWaiters sem (w :: t) else serveTakes sem t ((s.setSem sem (s.semCount sem - 1)).grantTake w)

/-- Serve the takes that wait on a semaphore. -/
def State.serveSem (s : State) (sem : Nat) : State := serveTakes sem (s.semWaiters sem) s

/-- Send a take: granted at once when the count can serve it and none waits before it, else it waits (09 R287 to R289). -/
def State.sendTake (s : State) (sem : Nat) (w : Waiter) : State := (s.setWaiters sem (s.semWaiters sem ++ [w])).serveSem sem

/-- Issue a signal; it reaches its count with SEMAPHORE_SIGNAL_ARRIVAL (09 R289). -/
def State.sendSignal (s : State) (sem : Nat) : State := { s with sched := { s.sched with signals := s.sched.signals ++ [sem] } }

/-- A signal reaches its count: one is added and waiting takes are served; at 65,535 the count stays, OVF is set and a usage fault goes to
the easel (09 R287, R288). -/
def State.landSignal (s : State) (sem : Nat) : State :=
  if s.semCount sem = 65535 then
    (s.setFlag (sem / 2) F.STR_CH_SEMSTAT_OVF true).usageFault (s.fld (sem / 2) F.STR_CH_CFG_EASEL) ukChannel (sem / 2) 0 ufSemOverflow
  else (s.setSem sem (s.semCount sem + 1)).serveSem sem

end Sys2Proof.Machine
end

