-- ==== Sys2Proof/Machine/Palette.lean ====
section
/-! DEFINITION. Machine/Palette.lean: the queues of the Palette, their granules and their bytes (09 R299 to R302). A queue's number is its channel's
number, or 0x2000 + f for flow f (R275). -/
namespace Sys2Proof.Machine

open Sys2Proof

/-- A queue. -/
def State.palQ (s : State) (q : Nat) : PalQ := SMap.get (fun _ => PalQ.empty) s.pal q

/-- Granules of 4 KiB that a queue holds (R299): those its bytes lie in, and the one its end lies in. -/
def PalQ.held (q : PalQ) : Nat := (q.front + q.bytes.length + 4095) / 4096 - q.front / 4096

/-- The queue of flow `f`. -/
def flowQ (f : Nat) : Nat := 0x2000 + f

/-- The easel that owns a queue (R269; 14 flows). -/
def State.palEasel (s : State) (q : Nat) : Nat :=
  if q < 0x2000 then s.fld q F.STR_CH_CFG_EASEL else s.fld (q - 0x2000) F.FLW_CFG_EASEL

/-- Minimum and cap of a queue. -/
def State.palMin (s : State) (q : Nat) : Nat := if q < 0x2000 then s.fld q F.STR_CH_PAL_LIM_MIN else s.fld (q - 0x2000) F.FLW_PAL_LIM_MIN
def State.palCap (s : State) (q : Nat) : Nat := if q < 0x2000 then s.fld q F.STR_CH_PAL_LIM_CAP else s.fld (q - 0x2000) F.FLW_PAL_LIM_CAP

/-- Stream positions where the records of a flow's readable bytes end (14 R427, R429): a 32-byte header whose first 2 bytes are LEN, and LEN bytes padded to a
multiple of 16. -/
def recEnds : Nat → Nat → List Nat → List Nat
  | 0, _, _ => []
  | n + 1, pos, bs =>
    let len := 32 + alignUp (nth 0 bs 0 % 256 + 256 * (nth 0 bs 1 % 256)) 16
    if bs.length < len then [] else (pos + len) :: recEnds n (pos + len) (bs.drop len)

/-- Note when each record of a flow became readable whole (15 R456). -/
def State.noteRecs (s : State) (f : Nat) (v : PalQ) : State :=
  let old := SMap.get (fun _ => []) s.eth.recs f
  let r := v.bytes.takeWhile (fun b => decide (b < 512))
  let l := (recEnds r.length v.front r).map (fun e => (e, ((old.find? (fun o => decide (o.1 = e))).map (·.2)).getD s.tod))
  { s with eth := { s.eth with recs := SMap.set (fun _ => []) s.eth.recs f l } }

/-- Set a queue and show its granules: its own, its easel's, the free ones and the watermark (R301, R305, R306). -/
def State.setPal (s : State) (q : Nat) (v : PalQ) : State :=
  let h := (s.palQ q).held
  let h' := v.held
  let e := s.palEasel q
  let m := s.palMin q
  let s0 := { s with pal := SMap.set (fun _ => PalQ.empty) s.pal q v }
  let s1 := if q < 0x2000 then s0 else s0.noteRecs (q - 0x2000) v
  let s2 := if q < 0x2000 then s1.setFld q F.STR_CH_PAL_HELD h' else s1.setFld (q - 0x2000) F.FLW_PAL_HELD h'
  let s3 := s2.setFld 0 F.PAL_FREE_GRANULES (s.fld 0 F.PAL_FREE_GRANULES + h - h')
  let s4 := s3.setFld e F.PAL_EAS_HELD_GRANULES (s.fld e F.PAL_EAS_HELD_GRANULES + h' - h)
  s4.setFld e F.PAL_EAS_WATERMARK_GRANULES (s.fld e F.PAL_EAS_WATERMARK_GRANULES + max h' m - max h m)

/-- Whether a queue can hold `v` more granules than it does: below its cap, from its minimum or its easel's remainder (R300). -/
def State.palCanGrow (s : State) (q h' : Nat) : Bool :=
  let e := s.palEasel q
  let h := (s.palQ q).held
  decide (h' ≤ h) ||
    (decide (h' ≤ s.palCap q) && (decide (h' ≤ s.palMin q) ||
      decide (s.fld e F.PAL_EAS_WATERMARK_GRANULES + max h' (s.palMin q) ≤ s.fld e F.PAL_EAS_SHARE_GRANULES + max h (s.palMin q))))

/-- Append bytes to a queue, when granules can be had for all of them (R299, R300). -/
def State.palAppend (s : State) (q : Nat) (bs : List Nat) : Option State :=
  let v := s.palQ q
  let v' := { v with bytes := v.bytes ++ bs }
  if s.palCanGrow q v'.held then some (s.setPal q v') else none

/-- A write waits for a granule (R300). -/
def State.palWait (s : State) (q : Nat) : State := s.incSat (s.palEasel q) F.PAL_EAS_WAITS_COUNT 1

/-- The readable bytes: the contiguous prefix of completed writes (R299). -/
def PalQ.readable (q : PalQ) : Nat := (q.bytes.takeWhile (fun b => decide (b < 512))).length

/-- Consume bytes from the front; a granule is freed when the front passes its end (R299). -/
def State.palConsume (s : State) (q n : Nat) : State :=
  let v := s.palQ q
  s.setPal q { v with front := v.front + n, bytes := v.bytes.drop n }

/-- Fill in bytes of a write that completes after later ones were appended (R299); `pos` is a stream position. -/
def State.palFill (s : State) (q pos : Nat) (bs : List Nat) : State :=
  let v := s.palQ q
  let i := pos - v.front
  s.setPal q { v with bytes := v.bytes.take i ++ bs ++ v.bytes.drop (i + bs.length) }

/-- Empty a queue and free its granules (09 R298). -/
def State.palClear (s : State) (q : Nat) : State := s.setPal q PalQ.empty

/-- A check of Palette data (R302): a correction is counted; an uncorrectable error marks the 64 bytes around byte `i` of the queue. -/
def State.palEcc (s : State) (q code : Nat) (x : EccEvent) : State :=
  let e := s.palEasel q
  let (what, s1) := s.inject 138 e
  match eccFlip x.kind what with
  | .ok => s1
  | .corrected => (s1.incSat 0 F.PAL_CE_COUNT 1).detect 138 e ukChannel (q % 0x2000) 0 0 sevCorrected what.isSome
  | .uncorrectable =>
    let v := s1.palQ q
    let lo := (v.front / 64 + x.granule) * 64
    let bs := v.bytes.zipIdx.map (fun p => if lo ≤ v.front + p.2 ∧ v.front + p.2 < lo + 64 ∧ p.1 < 256 then p.1 + 256 else p.1)
    ((s1.incSat 0 F.PAL_UE_COUNT 1).setPal q { v with bytes := bs }).detect 138 e
      (if q < 0x2000 then ukChannel else ukFlow) (q % 0x2000) 0 code sevContained what.isSome

end Sys2Proof.Machine
end

