-- ==== Sys2Proof/Machine/TCore.lean ====
section
/-! DEFINITION. Machine/TCore.lean: the T-cores (05): the command word and its checks, array products and diagonal mode over the scratchpad, launch,
poison and array faults, completion records. -/
namespace Sys2Proof.Machine

open Sys2Proof

/-! ### The command word (05 R158) -/

/-- A field of a command word. -/
def Cmd.bits (c : Cmd) (w lo width : Nat) : Nat := nth 0 c.words w / 2 ^ lo % 2 ^ width

def Cmd.opcode (c : Cmd) : Nat := c.bits 0 0 8
def Cmd.stepEnd (c : Cmd) : Bool := decide (c.bits 0 14 1 = 1)
def Cmd.waitPrior (c : Cmd) : Bool := decide (c.bits 0 15 1 = 1)
def Cmd.tag (c : Cmd) : Nat := c.bits 0 16 16
def Cmd.arrays (c : Cmd) : Nat := c.bits 1 0 4
def Cmd.groups (c : Cmd) : Nat := c.bits 1 4 2
def Cmd.fmtA (c : Cmd) : Nat := c.bits 1 8 4
def Cmd.fmtW (c : Cmd) : Nat := c.bits 1 12 4
def Cmd.fmtOut (c : Cmd) : Nat := c.bits 1 16 4
def Cmd.initBias (c : Cmd) : Bool := decide (c.bits 1 20 1 = 1)
def Cmd.residEn (c : Cmd) : Bool := decide (c.bits 1 21 1 = 1)
def Cmd.scaleMode (c : Cmd) : Nat := c.bits 1 22 2
def Cmd.actFn (c : Cmd) : Nat := c.bits 1 24 8
def Cmd.m (c : Cmd) : Nat := c.bits 2 0 13
def Cmd.n (c : Cmd) : Nat := c.bits 2 16 9
def Cmd.k (c : Cmd) : Nat := c.bits 3 0 21
def Cmd.aAddr (c : Cmd) : Nat := c.bits 4 0 24
def Cmd.unitBase (c : Cmd) : Nat := c.bits 4 0 8
def Cmd.unitCount (c : Cmd) : Nat := c.bits 4 8 8
def Cmd.wAddr (c : Cmd) : Nat := c.bits 5 0 24
def Cmd.outAddr (c : Cmd) : Nat := c.bits 6 0 24
def Cmd.biasAddr (c : Cmd) : Nat := c.bits 7 0 24
def Cmd.scaleAddr (c : Cmd) : Nat := c.bits 8 0 24
def Cmd.aStride (c : Cmd) : Nat := 256 * c.bits 9 0 16
def Cmd.outStride (c : Cmd) : Nat := 256 * c.bits 9 16 16
def Cmd.wAStride (c : Cmd) : Nat := 256 * c.bits 10 0 16
def Cmd.gStrideA (c : Cmd) : Nat := 256 * c.bits 11 0 16
def Cmd.gStrideOut (c : Cmd) : Nat := 256 * c.bits 11 16 16
def Cmd.residAddr (c : Cmd) : Nat := c.bits 12 0 24
def Cmd.shift (c : Cmd) : Nat := c.bits 12 24 6
def Cmd.waitEn (c : Cmd) : Bool := decide (c.bits 13 11 1 = 1)
def Cmd.waitSem (c : Cmd) : Nat := semId (c.bits 13 0 11) (decide (c.bits 13 12 1 = 1))
def Cmd.waitLink (c : Cmd) : Nat := c.bits 13 0 11
def Cmd.signalEn (c : Cmd) : Bool := decide (c.bits 13 27 1 = 1)
def Cmd.signalLink (c : Cmd) : Nat := c.bits 13 16 11
def Cmd.signalSem (c : Cmd) : Nat := semId (c.bits 13 16 11) (decide (c.bits 13 28 1 = 1))
def Cmd.elemOp (c : Cmd) : Nat := c.bits 14 0 4

/-- Every reserved field is zero (05 R158). -/
def Cmd.reservedZero (c : Cmd) : Bool :=
  decide (c.bits 1 6 2 = 0 ∧ c.bits 2 13 3 = 0 ∧ c.bits 2 25 7 = 0 ∧ c.bits 3 21 11 = 0 ∧ c.bits 4 24 8 = 0 ∧ c.bits 5 24 8 = 0 ∧
    c.bits 6 24 8 = 0 ∧ c.bits 7 24 8 = 0 ∧ c.bits 8 24 8 = 0 ∧ c.bits 10 16 16 = 0 ∧ c.bits 12 30 2 = 0 ∧ c.bits 13 13 3 = 0 ∧
    c.bits 13 29 3 = 0 ∧ c.bits 14 4 28 = 0 ∧ c.bits 15 0 32 = 0)

/-- The arrays a command names, in ascending order. -/
def Cmd.arrayList (c : Cmd) : List Nat := bitsOf 4 c.arrays

/-- The number of column groups; 0 for the reserved code (05 R135, R158). -/
def Cmd.groupCount (c : Cmd) : Nat := if c.groups = 3 then 0 else 2 ^ c.groups

/-! ### Statuses (05 R160, 07 R226, 09 R286) -/

def stOk : Nat := 0x00
def stEmpty : Nat := 0x01
def stOpcode : Nat := 0x10
def stFormat : Nat := 0x11
def stShape : Nat := 0x12
def stAlign : Nat := 0x13
def stOutOfShare : Nat := 0x14
def stPoison : Nat := 0x15
def stArrayFault : Nat := 0x16
def stCoreReset : Nat := 0x17
def stEaselReset : Nat := 0x18
def stNotOwner : Nat := 0x19
def stSem : Nat := 0x1A

/-- Whether a status ends a command without array work (05 R160). -/
def isLaunchError (st : Nat) : Bool := decide (0x10 ≤ st ∧ st ≤ 0x14) || decide (st = 0x1A)

/-! ### Modes (05 R133, R143) -/

/-- The array modes. -/
inductive Mode where
  | float8 | packed4 | int8 | float16 | ci16
  deriving DecidableEq, Repr

/-- The mode of a MATMUL's input formats (05 R133). -/
def matMode (fmtW fmtA : Nat) : Option Mode :=
  if fmtW ≤ 3 ∧ fmtA ≤ 4 then some .float8
  else if fmtW = 4 ∧ fmtA ≤ 4 then some .packed4
  else if (fmtW = 5 ∨ fmtW = 8) ∧ (fmtA = 5 ∨ fmtA = 8) then some .int8
  else if (fmtW = 6 ∨ fmtW = 7) ∧ fmtA = fmtW then some .float16
  else if fmtW = 9 ∧ fmtA = 9 then some .ci16
  else none

/-- The mode of an ELEMWISE's operand formats (05 R143). -/
def elemMode (fmtX fmtY : Nat) : Option Mode :=
  let cls := fun f => if f = 0 ∨ f = 1 then some Mode.float8 else if f = 6 ∨ f = 7 then some Mode.float16
    else if f = 8 then some Mode.int8 else if f = 9 then some Mode.ci16 else none
  match cls fmtX, cls fmtY with
  | some .int8, some .int8 => some .int8
  | some .ci16, some .ci16 => some .ci16
  | some .int8, _ => none
  | some .ci16, _ => none
  | some _, some .int8 => none
  | some _, some .ci16 => none
  | some a, some _ => some a
  | _, _ => none

/-- FMT_OUT allowed in a mode (05 R133). -/
def outOk : Mode → Nat → Bool
  | .int8, f => decide (f = 6 ∨ f = 8 ∨ f = 10 ∨ f = 11)
  | .ci16, f => decide (f = 9)
  | _, f => decide (f ≤ 7 ∨ f = 10)

/-- K-cycles of a frame (05 R133). -/
def frameLen : Mode → Nat
  | .float16 => 256
  | _ => 128

/-- The mode a command runs in. -/
def Cmd.mode (c : Cmd) : Option Mode := if c.opcode = 2 then elemMode c.fmtA c.fmtW else matMode c.fmtW c.fmtA

/-- Chunks of a pass: F = ⌈K / K_f⌉, at least 1 (05 R124). -/
def Cmd.chunks (c : Cmd) : Nat := max 1 ((c.k + kfOf c.fmtW - 1) / kfOf c.fmtW)

/-- T_pass (05 R128). -/
def Cmd.tPass (c : Cmd) : Nat := c.chunks * frameLen (c.mode.getD .float8) + 383

/-- P (05 R130). -/
def Cmd.passes (c : Cmd) : Nat := (c.m + 127) / 128

/-- The occupancy D of a command in K-cycles (10 R319, R323). PRELOAD takes 128 K-cycles for each array (05 R126, R166). -/
def Cmd.occupancy (c : Cmd) : Nat :=
  match c.opcode with
  | 1 => c.passes * c.tPass
  | 2 => (((c.k + 127) / 128) + max 1 c.arrayList.length - 1) / max 1 c.arrayList.length + 383
  | 3 => 128 * c.unitCount
  | 5 => 128 * c.arrayList.length
  | _ => 0

/-! ### Checks at the launch point (05 R148, R149, R158, R160) -/

/-- The last byte + 1 of `rows` rows of `n` bytes, `stride` apart. -/
def extentEnd (base n stride rows : Nat) : Nat := if n = 0 ∨ rows = 0 then 0 else base + (rows - 1) * stride + n

/-- Columns of an output row: the arrays' columns follow one another in rising array order (notes/assumptions/40.md). -/
def Cmd.rowCols (c : Cmd) : Nat := c.arrayList.length * c.n

/-- The bytes of a bias element (05 R145). -/
def Cmd.biasBytes (c : Cmd) : Nat := if c.fmtW = 9 then 8 else 4

/-- Whether a command reduces nothing (05 R139, R140). -/
def Cmd.isEmpty (c : Cmd) : Bool :=
  match c.opcode with
  | 1 => decide (c.m = 0 ∨ c.n = 0 ∨ c.k = 0)
  | 2 => decide (c.k = 0)
  | _ => false

/-- Whether a command runs in a float mode, whose finisher scales (05 R144). -/
def Cmd.floats (c : Cmd) : Bool :=
  match c.mode with
  | some .int8 => false
  | some .ci16 => false
  | _ => true

/-- The scale operand's first column and bytes for columns `q` to `q + n - 1` of a row: none where no scale is read (05 R144). -/
def Cmd.scaleSpan (c : Cmd) (q n : Nat) : Nat × Nat :=
  if !c.floats then (0, 0) else if c.scaleMode = 1 then (c.scaleAddr + 4 * q, 4 * n) else if c.scaleMode = 2 then (c.scaleAddr, 4) else (0, 0)

/-- The end of a span. -/
def spanEnd (p : Nat × Nat) : Nat := if p.2 = 0 then 0 else p.1 + p.2

/-- The end of the furthest operand or output of a command (05 R148). -/
def Cmd.extent (c : Cmd) : Nat :=
  match c.opcode with
  | 1 =>
    if c.m = 0 ∨ c.n = 0 then 0 else
    let out := (List.range c.groupCount).foldl (fun t g =>
      max t (extentEnd (c.outAddr + g * c.gStrideOut) (rowBytes c.fmtOut c.rowCols) c.outStride c.m)) 0
    let bias := if c.initBias then c.biasAddr + c.biasBytes * c.rowCols else 0
    if c.k = 0 then max out bias else
    let act := (List.range c.groupCount).foldl (fun t g =>
      max t (extentEnd (c.aAddr + g * c.gStrideA) (rowBytes c.fmtA c.k) c.aStride c.m)) 0
    let wts := c.arrayList.foldl (fun t a => max t (c.wAddr + a * c.wAStride + c.chunks * sTile c.fmtW)) 0
    let res := if c.residEn then extentEnd c.residAddr (rowBytes c.fmtOut c.rowCols) c.outStride c.m else 0
    max out (max bias (max act (max wts (max res (spanEnd (c.scaleSpan 0 c.rowCols))))))
  | 2 =>
    if c.k = 0 then 0 else
    max (c.aAddr + rowBytes c.fmtA c.k) (max (if c.elemOp = 5 then 0 else c.wAddr + rowBytes c.fmtW c.k)
      (max (c.outAddr + rowBytes c.fmtOut c.k) (max (if c.residEn then c.residAddr + rowBytes c.fmtOut c.k else 0) (spanEnd (c.scaleSpan 0 c.k)))))
  | 3 => 65536 * (c.unitBase + c.unitCount)
  | 5 => c.arrayList.foldl (fun t a => max t (c.wAddr + a * c.wAStride + sTile c.fmtW)) 0
  | _ => 0

/-- The limit of an easel's scratchpad share on a T-core in bytes: below its admission limit and in its map (05 R147, R148). -/
def State.scratchLimit (s : State) (core e : Nat) : Nat :=
  65536 * min (s.fld (ce core e) F.TC_EAS_SP_SHARE_UNITS) (s.fld (ce core e) F.TC_EAS_SP_MAPPED_UNITS)

/-- The status of a command's checks, OK when it passes them all, in rising order of their codes (05 R160; notes/assumptions/39.md). Model's choice: notes/assumptions/136.md; notes/assumptions/137.md. -/
def State.tcCheck (s : State) (core : Nat) (c : Cmd) : Nat :=
  let op := c.opcode
  let work := decide (op = 1 ∨ op = 2)
  if op = 0 ∨ 5 < op ∨ !c.reservedZero then stOpcode
  else if (work || decide (op = 5)) && decide (c.arrays = 0) then stOpcode
  else if work && (decide (8 < c.actFn) || decide (c.scaleMode = 3) || decide (40 < c.shift)) then stOpcode
  else if decide (op = 2) && decide (5 < c.elemOp) then stOpcode
  else if work && (match c.mode with
    | some md => !outOk md c.fmtOut
    | none => true) then stFormat
  else if work && (match c.mode with
    | some .int8 => decide (1 < c.actFn)
    | some .ci16 => decide (0 < c.actFn)
    | _ => false) then stOpcode
  else if decide (op = 5) && decide (9 < c.fmtW) then stFormat
  else if decide (op = 1) && (decide (c.groupCount = 0) || decide (4096 < c.m) || decide (1048576 < c.k) ||
      decide (nMaxOf c.fmtW / c.groupCount < c.n)) then stShape
  else if decide (op = 2) && (decide (c.groupCount = 0) || decide (1048576 < c.k)) then stShape
  else if (work || decide (op = 5)) && decide (c.aAddr % 256 ≠ 0 ∨ c.wAddr % 256 ≠ 0 ∨ c.outAddr % 256 ≠ 0 ∨ c.biasAddr % 256 ≠ 0 ∨
      c.scaleAddr % 256 ≠ 0 ∨ c.residAddr % 256 ≠ 0) then stAlign
  else if s.scratchLimit core c.easel < c.extent then stOutOfShare
  else if (c.waitEn && !s.ownsLink c.easel c.waitLink) || (c.signalEn && !s.ownsLink c.easel c.signalLink) then stSem
  else stOk

/-! ### Products over the scratchpad -/

/-- Read a byte of an easel's share of a T-core's scratchpad. -/
def State.spByte (s : State) (core e : Nat) (a : Nat) : Nat := (s.byte (scratchKey core e a)).toNat

/-- The activation operand of row `m` of group `g` (05 R135, R149; 06 R174). -/
def Cmd.actOperand (c : Cmd) (rd : Nat → Nat) (g m : Nat) : Operand :=
  let base := c.aAddr + g * c.gStrideA + m * c.aStride
  ⟨packedElem rd base c.fmtA, rowScale rd base c.fmtA c.k, c.fmtA⟩

/-- The weight operand of column `n` of group `g` of array `a`; `wr` reads a byte of the weights that the array works on (05 R122, R126, R135, R149; 06 R175). -/
def Cmd.wgtOperand (c : Cmd) (wr : Nat → Nat → Nat) (a g n : Nat) : Operand :=
  let rd := wr a
  let tile := fun k => c.wAddr + a * c.wAStride + k / kfOf c.fmtW * sTile c.fmtW
  let col := g * (nMaxOf c.fmtW / c.groupCount) + n
  ⟨fun k => tileElem rd (tile k) c.fmtW (k % kfOf c.fmtW) col, fun k => tileScale rd (tile k) c.fmtW (k % kfOf c.fmtW) col, c.fmtW⟩

/-- The 32-bit word at an address. -/
def word32 (rd : Nat → Nat) (a : Nat) : Nat := ofLe ((List.range 4).map (fun j => rd (a + j)))

/-- The initial value of column `q` of a row: the bias or zero (05 R145). -/
def Cmd.initAcc (c : Cmd) (rd : Nat → Nat) (md : Mode) (q : Nat) : Acc :=
  match md with
  | .int8 => .int (if c.initBias then sext 32 (word32 rd (c.biasAddr + 4 * q)) else 0)
  | .ci16 => if c.initBias then .ci (sext 32 (word32 rd (c.biasAddr + 8 * q))) (sext 32 (word32 rd (c.biasAddr + 8 * q + 4))) else .ci 0 0
  | _ => .flt (if c.initBias then decodeElem 10 (word32 rd (c.biasAddr + 4 * q)) else Fp.zero)

/-- The accumulator of output column `n` of array `a` and group `g` in row `m`; `q` is the column's place in its row (06 R177 to R183). -/
def Cmd.acc (c : Cmd) (rd : Nat → Nat) (wr : Nat → Nat → Nat) (md : Mode) (a g m n q : Nat) : Acc :=
  let x := c.actOperand rd g m
  let w := c.wgtOperand wr a g n
  match md, c.initAcc rd md q with
  | .int8, .int v => .int (accInt x w c.k v)
  | .ci16, .ci re im => let r := accCi x.elem w.elem c.k (re, im); .ci r.1 r.2
  | .float16, .flt v => .flt (accFloat true x w c.k v)
  | _, .flt v => .flt (accFloat false x w c.k v)
  | _, v => v

/-- The number of MXINT8 operands of a command (06 R182). -/
def Cmd.mxints (c : Cmd) : Nat := (if c.fmtA = 5 then 1 else 0) + (if c.fmtW = 5 then 1 else 0)

/-- A row of accumulators after the finisher, as the bytes of its output row (05 R144, 06 R184 to R188). `resid` is the row's residual tensor;
with `convOnly` only the conversion applies (05 R139). -/
def Cmd.finishRow (c : Cmd) (rd : Nat → Nat) (accs : List Acc) (resid : Nat) (convOnly : Bool) : List Nat :=
  let cols := accs.length
  let act := if convOnly then 0 else c.actFn
  let shift := if convOnly then 0 else c.shift
  let useRes := c.residEn && !convOnly
  let unit := c.mxints
  let fl := accs.zipIdx.map (fun p => match p.1 with
    | .flt v =>
      let sc := if convOnly then none else match c.scaleMode with
        | 1 => some (decodeElem 10 (word32 rd (c.scaleAddr + 4 * p.2)))
        | 2 => some (decodeElem 10 (word32 rd c.scaleAddr))
        | _ => none
      finishFloat sc (if useRes then some (residVal rd resid c.fmtOut cols p.2) else none) act v
    | .int v =>
      let sh := rneShiftInt v shift
      let f : Fp := .fin (decide (sh < 0)) sh.natAbs (-6 * unit)
      let r := if useRes then exactSum [f, residVal rd resid c.fmtOut cols p.2] else f
      let r' := if act = 1 ∧ fpLt r Fp.zero then Fp.zero else r
      if c.fmtOut = 6 then r' else r'.round fmtFp32
    | .ci _ _ => Fp.zero)
  match c.fmtOut, accs with
  | 8, _ => (accs.zipIdx.map (fun p => match p.1 with
      | .int v => leBytes 1 (convInt 8 unit (finishInt 0 act
          (rneShiftInt v shift + (if useRes then sext 8 (rd (resid + p.2)) else 0))))
      | _ => [0])).flatten
  | 11, _ => (accs.zipIdx.map (fun p => match p.1 with
      | .int v => leBytes 4 (convInt 11 unit (finishInt 0 act
          (rneShiftInt v shift + (if useRes then sext 32 (word32 rd (resid + 4 * p.2)) else 0))))
      | _ => [0, 0, 0, 0])).flatten
  | 9, _ => (accs.zipIdx.map (fun p => match p.1 with
      | .ci re im =>
        let w := word32 rd (resid + 4 * p.2)
        leBytes 4 (convCi (rneShiftInt re shift + (if useRes then ciRe w else 0)) (rneShiftInt im shift + (if useRes then ciIm w else 0)))
      | _ => [0, 0, 0, 0])).flatten
  | f, _ => floatRow f fl

/-- One output row of a MATMUL: row `m` of group `g`, the arrays' columns in rising array order (05 R135, R137, R139, R144). -/
def Cmd.matRow (c : Cmd) (rd : Nat → Nat) (wr : Nat → Nat → Nat) (md : Mode) (g m : Nat) : List Nat :=
  let accs := (c.arrayList.zipIdx.map (fun p => (List.range c.n).map (fun n =>
    let q := p.2 * c.n + n
    if c.k = 0 then c.initAcc rd md q else c.acc rd wr md p.1 g m n q))).flatten
  c.finishRow rd accs (c.residAddr + m * c.outStride) (decide (c.k = 0))

/-- Every output row of a group of a MATMUL with its address in the easel's share. -/
def Cmd.matRows (c : Cmd) (rd : Nat → Nat) (wr : Nat → Nat → Nat) (md : Mode) (g : Nat) : List (Nat × List Nat) :=
  (List.range c.m).map (fun m => (c.outAddr + g * c.gStrideOut + m * c.outStride, c.matRow rd wr md g m))

/-- The lane result of ELEM_OP (05 R143, 06 R189); PASS gives x. -/
def elemLane (op : Nat) (x y : Acc) : Acc :=
  match x, y with
  | .flt a, .flt b => .flt (match op with
      | 0 => fpAdd a b
      | 1 => fpAdd a b.neg
      | 2 => fpMul a b
      | 3 => if a = .nan ∨ b = .nan then .nan else if fpLt a b then b else a
      | 4 => if a = .nan ∨ b = .nan then .nan else if fpLt b a then b else a
      | _ => a)
  | .int a, .int b => .int (match op with
      | 0 => satInt 32 (a + b)
      | 1 => satInt 32 (a - b)
      | 2 => satInt 32 (a * b)
      | 3 => max a b
      | 4 => min a b
      | _ => a)
  | .ci ar ai, .ci br bi => (match op with
      | 0 => .ci (satInt 40 (ar + br)) (satInt 40 (ai + bi))
      | 1 => .ci (satInt 40 (ar - br)) (satInt 40 (ai - bi))
      | 2 => .ci (satInt 40 (ar * br - ai * bi)) (satInt 40 (ar * bi + ai * br))
      | 3 => .ci (max ar br) (max ai bi)
      | 4 => .ci (min ar br) (min ai bi)
      | _ => .ci ar ai)
  | a, _ => a

/-- An operand element of an ELEMWISE in the accumulator type of its mode (06 R189). -/
def elemAcc (rd : Nat → Nat) (base fmt n i : Nat) : Acc :=
  let e := packedElem rd base fmt i
  if fmt = 8 then .int (sext 8 (e % 256)) else if fmt = 9 then .ci (ciRe e) (ciIm e) else .flt (residVal rd base fmt n i)

/-- The output row of an ELEMWISE: all its elements as one packed row (05 R142, 06 R189; notes/assumptions/41.md). -/
def Cmd.elemRow (c : Cmd) (rd : Nat → Nat) : List Nat :=
  let accs := (List.range c.k).map (fun i =>
    let x := elemAcc rd c.aAddr c.fmtA c.k i
    if c.elemOp = 5 then x else elemLane c.elemOp x (elemAcc rd c.wAddr c.fmtW c.k i))
  c.finishRow rd accs c.residAddr false

/-! ### Poison and faults (05 R152, R163) -/

/-- Mark a T-core as having reported an array or scratchpad fault (05 R169). -/
def State.setTcFault (s : State) (core : Nat) : State :=
  if core < 32 then s.orFld 0 F.TC_FAULT_LO_FAULT (2 ^ core) else s.orFld 0 F.TC_FAULT_HI_FAULT (2 ^ (core - 32))

/-- Where the latest scratchpad error lies (05 R152, R170); the physical unit is the device's (Config.physScratchUnit). -/
def State.spErrLoc (s : State) (core e a : Nat) (ue : Bool) : State :=
  ((s.setFld core F.TC_SP_ERRLOC_ADDR (65536 * Config.physScratchUnit core e (a / 65536) + a % 65536)).setFld core
    F.TC_SP_ERRLOC_EASEL e).setFlag core F.TC_SP_ERRLOC_UE ue

/-- A scratchpad word's check: a correction is counted and written back; an uncorrectable error poisons its granule (05 R152). -/
def State.spEcc (s : State) (core e code : Nat) (x : EccEvent) : State :=
  let a := 64 * x.granule
  let (what, s0) := s.inject (36 + core) e
  match eccFlip x.kind what with
  | .ok => s0
  | .corrected =>
    ((s0.incSat core F.TC_SP_CE_COUNT 1).spErrLoc core e a false).detect (36 + core) e ukTcore core a 0 sevCorrected what.isSome
  | .uncorrectable =>
    let s1 := ((s0.incSat core F.TC_SP_UE_COUNT 1).spErrLoc core e a true).markPoison (scratchKey core e a)
    (s1.setTcFault core).detect (36 + core) e ukTcore core a code sevContained what.isSome

/-- Bring TC_EAS_SP_WATERMARK to the watermark (05 R153). -/
def State.spWatermark (s : State) (core e : Nat) : State :=
  s.setFld (ce core e) F.TC_EAS_SP_WATERMARK_UNITS (s.watermark (scratchKey core e 0) (2 ^ 46) 65536)

/-- Store bytes in an easel's scratchpad share, with USED bits and the watermark (05 R152, R153). -/
def State.spStore (s : State) (core e a : Nat) (bs : List Nat) : State :=
  ((s.storeRaw (scratchKey core e a) bs).setUsedRange (scratchKey core e 0) 65536 a bs.length).spWatermark core e

/-- Zero units of an easel's scratchpad share and clear their USED bits (05 R153). -/
def State.spRelease (s : State) (core e base count : Nat) : State :=
  ((s.zeroBytes (scratchKey core e (65536 * base)) (65536 * count)).clearUsed (scratchKey core e (65536 * base))
    (65536 * count)).spWatermark core e

/-! ### The T-core's own state -/

/-- A T-core. -/
def State.tcore (s : State) (core : Nat) : TcSt := SMap.get (fun _ => TcSt.empty) s.tc core

/-- The arrays that a running command occupies: none where it does no array work (05 R139, R140, R159, R160). -/
def TcRun.arrays (r : TcRun) : Nat :=
  if r.cmd.isEmpty ∨ ¬ (r.cmd.opcode = 1 ∨ r.cmd.opcode = 2 ∨ r.cmd.opcode = 5) ∨ r.ends.any (fun e => isLaunchError e.status) = true then 0 else r.cmd.arrays

/-- The arrays that running commands occupy. -/
def TcSt.busy (t : TcSt) : Nat := t.running.foldl (fun m r => m ||| r.arrays) 0

/-- The idle set of an array. -/
def TcSt.idleSet (t : TcSt) (a : Nat) : TcWarm := SMap.get (fun _ => TcWarm.none) t.warm a

/-- Whether an array's idle set holds chunk 0 of a command: a warm set is known by easel and W_ADDR (05 R167). -/
def TcSt.isWarm (t : TcSt) (c : Cmd) (a : Nat) : Bool := decide ((t.idleSet a).easel = c.easel ∧ (t.idleSet a).wAddr = c.wAddr)

/-- The arrays of a command that are cold: their idle set does not hold its chunk 0, which a command without an array product has not (05 R165). -/
def TcSt.cold (t : TcSt) (c : Cmd) : List Nat := if c.opcode = 1 ∧ !c.isEmpty then c.arrayList.filter (fun a => !t.isWarm c a) else []

/-- STATE of TC_STATUS of a core that takes commands: RUNNING while one runs; while a granted one waits, SWITCHING if its easel is not that of the previous launch on its
arrays, else COLD_LOAD if an array is cold (05 R155, R165, R170; notes/assumptions/140.md). -/
def TcSt.shown (t : TcSt) : Nat :=
  if !t.running.isEmpty then 2
  else match t.granted with
    | [] => 1
    | c :: _ => if c.arrayList.any (fun a => decide (SMap.get (fun _ => c.easel) t.prev a ≠ c.easel)) then 3 else if (t.cold c).isEmpty then 1 else 4

/-- The T-core's waiting commands of an easel. -/
def TcSt.depth (t : TcSt) (e : Nat) : Nat := ((t.queue ++ t.granted).filter (fun c => decide (c.easel = e))).length

/-- Set one bit of a pair of registers that hold a mask of the 48 T-cores. -/
def State.setTcBit (s : State) (lo hi : Fld) (core : Nat) (b : Bool) : State :=
  let f := if core < 32 then lo else hi
  let m := 2 ^ (core % 32)
  if b then s.orFld 0 f m else s.clrFld 0 f m

/-- Set a T-core's own state and show it in TC_STATUS, TC_BUSY and TC_EAS_QDEPTH of an easel (05 R169 to R171). -/
def State.setTcore (s : State) (core e : Nat) (t : TcSt) : State :=
  let s1 := { s with tc := SMap.set (fun _ => TcSt.empty) s.tc core t }
  let s2 := (s1.setFld core F.TC_STATUS_STATE (if s.tcHeld core then 0 else t.shown)).setFld core F.TC_STATUS_ARRAYS_BUSY t.busy
  let s3 := s2.setFld core F.TC_STATUS_QDEPTH (t.queue ++ t.granted).length
  (s3.setTcBit F.TC_BUSY_LO_BUSY F.TC_BUSY_HI_BUSY core (decide (t.busy ≠ 0))).setFld (ce core e) F.TC_EAS_QDEPTH_DEPTH (t.depth e)

/-- Show in TC_STATUS whether a T-core is held (R170). -/
def State.tcShow (s : State) (core : Nat) : State := s.setFld core F.TC_STATUS_STATE (if s.tcHeld core then 0 else (s.tcore core).shown)

/-- The commands of a list that are next of their easel to launch and whose take has not been sent: radio and other commands of easel 0 stand in no order to
one another (10 R608). -/
def nextUnsent (waits : Cmd → Bool) : List Cmd → List (Nat × Bool) → List Cmd
  | [], _ => []
  | c :: r, seen =>
    let k := (c.easel, c.radio)
    if k ∈ seen then nextUnsent waits r seen
    else (if waits c && !c.sent then [c] else []) ++ nextUnsent waits r (k :: seen)

/-- Mark commands' takes as sent. -/
def markSent (ids : List Nat) (l : List Cmd) : List Cmd := l.map (fun c => if c.id ∈ ids then { c with sent := true } else c)

/-- A T-core command sends its take when it becomes its easel's next to launch (09 R288). -/
def State.tcTakes (s : State) (core : Nat) : State :=
  let t := s.tcore core
  let l := nextUnsent (fun c => c.waitEn && s.ownsLink c.easel c.waitLink) (t.granted ++ t.queue) []
  let ids := l.map (·.id)
  let s1 := s.setTcore core 0 { t with queue := markSent ids t.queue, granted := markSent ids t.granted }
  forEach l (fun c u => u.sendTake c.waitSem (.tcore core c.id)) s1

/-! ### Launch (05 R155, R156) -/

/-- Whether two commands stand in an order to one another: those of one easel do, but easel 0's radio commands and its other ones (05 R156; 10 R608). -/
def Cmd.ordered (a b : Cmd) : Bool := decide (a.easel = b.easel ∧ a.radio = b.radio)

/-- The conditions of R155 that both a grant and a launch ask for: for WAIT_PRIOR and MARK every earlier command has completed, and with WAIT_EN its count has been taken,
unless the semaphore is not its easel's (R160 SEM). -/
def State.tcReady (s : State) (core : Nat) (c : Cmd) : Bool :=
  (!(c.waitPrior || decide (c.opcode = 4)) || (s.tcore core).running.all (fun r => !r.cmd.ordered c)) &&
  (!c.waitEn || s.takeGranted (.tcore core c.id) || !s.ownsLink c.easel c.waitLink)

/-- Whether a granted command meets the launch conditions the model holds: it is its easel's next on the T-core (05 R155, R156). The device reports by the command
itself that arrays and grant are ready. -/
def State.canLaunch (s : State) (core : Nat) (before : List Cmd) (c : Cmd) : Bool := before.all (fun b => !b.ordered c) && s.tcReady core c

/-- The first granted command that satisfies `p` and can launch. -/
def State.findLaunch (s : State) (core : Nat) (p : Cmd → Bool) : List Cmd → List Cmd → Option Cmd
  | _, [] => none
  | before, c :: r => if p c && s.canLaunch core before c then some c else s.findLaunch core p (before ++ [c]) r

/-- The groups of a command's records: one for each group of a grouped command, else one (05 R161). -/
def Cmd.recordGroups (c : Cmd) : List Nat := if c.opcode = 1 ∧ 1 < c.groupCount then List.range c.groupCount else [0xF]

/-- The same end for every record of a command. -/
def Cmd.endsAll (c : Cmd) (status : Nat) : List GroupEnd := c.recordGroups.map (fun g => ⟨g, status, 0, []⟩)

/-- A command launches: it leaves the queue and runs, its take is used, LAST_EASEL and the switch count follow (05 R155, R170). -/
def State.launch (s : State) (core : Nat) (c : Cmd) (ends : List GroupEnd) : State :=
  let t := s.tcore core
  let switched := t.launched && decide (s.fld core F.TC_STATUS_LAST_EASEL ≠ c.easel)
  let t' : TcSt := { t with
    granted := t.granted.filter (fun x => decide (x.id ≠ c.id))
    running := t.running ++ [⟨c, ends⟩]
    prev := (bitsOf 4 (TcRun.arrays ⟨c, ends⟩)).foldl (fun m a => SMap.put a c.easel m) t.prev
    launched := true }
  let s1 := (s.useTake (.tcore core c.id)).setTcore core c.easel t'
  let s2 := if switched then s1.incWrap core F.TC_SWITCHES_SWITCHES 1 else s1
  (s2.setFld core F.TC_STATUS_LAST_EASEL c.easel).tcTakes core

/-- Arrays of a command that are cold (05 R165). -/
def State.coldArrays (s : State) (core : Nat) (c : Cmd) : List Nat := (s.tcore core).cold c

/-- Chunk 0 of a command's weights for an array, as the scratchpad holds it now (05 R149, R152). -/
def State.tile0 (s : State) (core : Nat) (c : Cmd) (a : Nat) : TcWarm :=
  ⟨c.easel, c.wAddr, c.fmtW, (List.range (sTile c.fmtW)).map (fun i =>
    let k := scratchKey core c.easel (c.wAddr + a * c.wAStride + i)
    (s.byte k).toNat + if s.poisoned k 1 then 256 else 0)⟩

/-- An array's idle set is loaded with chunk 0 of a command (05 R126, R166). -/
def State.loadSet (s : State) (core : Nat) (c : Cmd) (a : Nat) : State :=
  let t := s.tcore core
  { s with tc := SMap.set (fun _ => TcSt.empty) s.tc core { t with warm := SMap.put a (s.tile0 core c a) t.warm } }

/-- An array's idle set holds nothing known. -/
def State.dropSet (s : State) (core a : Nat) : State :=
  let t := s.tcore core
  { s with tc := SMap.set (fun _ => TcSt.empty) s.tc core { t with warm := SMap.del a t.warm } }

/-- Weights at a MATMUL's launch: its cold arrays are counted, and every array's idle set becomes its working set. The next command to launch on an array, where it is
granted already and is a MATMUL that passes its checks, has its chunk 0 loaded in the last frame of this one (05 R166, R167). Model's choice: notes/assumptions/138.md. -/
def State.loadWeights (s : State) (core : Nat) (c : Cmd) : State :=
  let s1 := s.incWrap core F.TC_SWITCHES_COLD (s.coldArrays core c).length
  forEach c.arrayList (fun a (t : State) =>
    match (t.tcore core).granted.find? (fun x => decide (x.id ≠ c.id) && x.arrays.testBit a) with
    | some x => if x.opcode = 1 ∧ !x.isEmpty ∧ t.tcCheck core x = stOk then t.loadSet core x a else t.dropSet core a
    | none => t.dropSet core a) s1

/-- The byte of an array's weights at an address: chunk 0 comes from a warm set. A set that was loaded in another format gives a free value, which the spec does not state
(05 R126, R166, R167). 256 is added to a poisoned byte. -/
def State.wgtByte (s : State) (core : Nat) (c : Cmd) (a i : Nat) : Nat :=
  let o := c.wAddr + a * c.wAStride
  let t := s.tcore core
  if t.isWarm c a && decide (o ≤ i ∧ i < o + sTile c.fmtW) then
    (if (t.idleSet a).fmt = c.fmtW then nth 0 (t.idleSet a).tile (i - o) else (Config.warmByte (t.idleSet a).tile (t.idleSet a).fmt c.fmtW (i - o)).toNat)
  else
    let k := scratchKey core c.easel i
    (s.byte k).toNat + if s.poisoned k 1 then 256 else 0

/-- The byte ranges of elements `lo` to `lo + cnt - 1` of a row of `n` elements, with their block scales (06 R174). -/
def rowSpan (fmt n lo cnt : Nat) : List (Nat × Nat) :=
  if cnt = 0 then [] else
  let b := elemBits fmt
  let d := (lo * b / 8, ((lo + cnt) * b + 7) / 8 - lo * b / 8)
  if isMx fmt then [d, ((n + 31) / 32 * (4 * b) + lo / 32, (lo + cnt - 1) / 32 - lo / 32 + 1)] else [d]

/-- Whether elements of a row in an easel's scratchpad share touch poison. -/
def State.rowPoisoned (s : State) (core e base fmt n lo cnt : Nat) : Bool :=
  (rowSpan fmt n lo cnt).any (fun p => s.poisoned (scratchKey core e (base + p.1)) p.2)

/-- Poison elements of a row in an easel's scratchpad share. -/
def State.poisonRow (s : State) (core e base fmt n lo cnt : Nat) : State :=
  forEach (rowSpan fmt n lo cnt) (fun p t => t.markPoisonRange (scratchKey core e (base + p.1)) p.2) s

/-- Whether bytes of an easel's scratchpad share touch poison. -/
def State.spanPoisoned (s : State) (core e : Nat) (p : Nat × Nat) : Bool := s.poisoned (scratchKey core e p.1) p.2

/-- The bytes of the weights of row `r` and columns `lo` to `lo + n - 1` of a tile, with their block scales (06 R175). -/
def tileSpans (fmtW r lo n : Nat) : List (Nat × Nat) :=
  let b := elemBits fmtW
  let d := (r * tileRow fmtW + lo * b / 8, ((lo + n) * b + 7) / 8 - lo * b / 8)
  if isMx fmtW then [d, (kfOf fmtW * tileRow fmtW + r / 32 * nMaxOf fmtW + lo, n)] else [d]

/-- Whether group `g` of array `a` reads poisoned weights: those of its own columns, in the reduction rows below K (05 R125, R135; 06 R176). -/
def State.wgtPoison (s : State) (core : Nat) (c : Cmd) (a g : Nat) : Bool :=
  let w := nMaxOf c.fmtW / max 1 c.groupCount
  (List.range c.k).any (fun k =>
    let o := c.wAddr + a * c.wAStride + k / kfOf c.fmtW * sTile c.fmtW
    (tileSpans c.fmtW (k % kfOf c.fmtW) (g * w) w).any (fun p => (List.range p.2).any (fun i => decide (256 ≤ s.wgtByte core c a (o + p.1 + i)))))

/-- Whether group `g` of array `a`, the `j`-th in ARRAYS, reads poison: its activation stream, its weights, and the bias, scales and residual of its columns (05 R135, R137, R144,
R145, R163). -/
def State.matPoison (s : State) (core : Nat) (c : Cmd) (a j g : Nat) : Bool :=
  (c.initBias && s.spanPoisoned core c.easel (c.biasAddr + c.biasBytes * (j * c.n), c.biasBytes * c.n)) ||
  (decide (c.k ≠ 0) && ((List.range c.m).any (fun m => s.rowPoisoned core c.easel (c.aAddr + g * c.gStrideA + m * c.aStride) c.fmtA c.k 0 c.k) ||
    s.wgtPoison core c a g ||
    (c.residEn && (List.range c.m).any (fun m => s.rowPoisoned core c.easel (c.residAddr + m * c.outStride) c.fmtOut c.rowCols (j * c.n) c.n)) ||
    s.spanPoisoned core c.easel (c.scaleSpan (j * c.n) c.n)))

/-- Write output rows. -/
def State.writeRows (s : State) (core e : Nat) (rows : List (Nat × List Nat)) : State :=
  forEach rows (fun p t => t.spStore core e p.1 p.2) s

/-- Mask of a list of arrays. -/
def maskOf (l : List Nat) : Nat := l.foldl (fun m a => m ||| 2 ^ a) 0

/-- The checks that a command's operand reads meet: the errors the command brings, or the injection point of the scratchpad's detector on
its first read (05 R152; 21 R579). -/
def State.spChecks (s : State) (core : Nat) (c : Cmd) (ecc : List EccEvent) : State :=
  forEach (if ecc.isEmpty then [⟨.ok, (if c.opcode = 5 then c.wAddr else c.aAddr) / 64, 0⟩] else ecc) (fun x t => t.spEcc core c.easel stPoison x) s

/-- Array checks that fail, one injected by the armed point of the arrays' detector included (05 R163; 21 R579): array and group pairs, whether
one was injected, and the state after. -/
def State.arrayChecks (s : State) (core : Nat) (c : Cmd) (faults : List (Nat × Nat)) : List (Nat × Nat) × Bool × State :=
  let (what, s1) := s.inject (84 + core) c.easel
  let own := faults.filter (fun f => c.arrays.testBit f.1 && decide (f.2 < max 1 c.groupCount))
  match what, c.arrayList with
  | some _, a :: _ => ((a, 0) :: own, true, s1)
  | _, _ => (own, false, s1)

/-- Report the array checks that failed (05 R164): the detector's fault goes to the command's easel. -/
def State.reportArrays (s : State) (core : Nat) (c : Cmd) (bad : List (Nat × Nat)) (injected : Bool) : State :=
  (List.range bad.length).foldl (fun t i =>
    (t.setTcFault core).detect (84 + core) c.easel ukTcore core 0 stArrayFault sevContained (injected && decide (i = 0))) s

/-- A command has read poison: its T-core's detector raises a fault to the easel (05 R164, R169; 21 R571). -/
def State.reportPoison (s : State) (core : Nat) (c : Cmd) : State := (s.setTcFault core).detect (84 + core) c.easel ukTcore core 0 stPoison sevContained false

/-- How the groups of a MATMUL end, group by group: the arrays of the group that are at fault by a check, and those that read poison
(05 R163). A group with both reports ARRAY_FAULT. -/
def State.matEnd (s : State) (core : Nat) (c : Cmd) (bad : List (Nat × Nat)) (g : Nat) : GroupEnd :=
  let flt := c.arrayList.filter (fun a => bad.any (fun f => decide (f = (a, g))))
  let poi := (c.arrayList.zipIdx.filter (fun p => s.matPoison core c p.1 p.2 g)).map (·.1)
  ⟨if 1 < c.groupCount then g else 0xF, if !flt.isEmpty then stArrayFault else if !poi.isEmpty then stPoison
    else if c.k = 0 then stEmpty else stOk, maskOf (flt ++ poi),
    c.matRows (s.spByte core c.easel) (fun a i => s.wgtByte core c a i % 256) (c.mode.getD .float8) g⟩

/-- Poison the outputs of a MATMUL group in the arrays of a mask (05 R163). -/
def State.poisonGroup (s : State) (core : Nat) (c : Cmd) (g arrays : Nat) : State :=
  forEach (c.arrayList.zipIdx.filter (fun p => arrays.testBit p.1)) (fun p t =>
    forUpto c.m (fun m u =>
      u.poisonRow core c.easel (c.outAddr + g * c.gStrideOut + m * c.outStride) c.fmtOut c.rowCols (p.2 * c.n) c.n) t) s

/-- A MATMUL that passes its checks: its operands are read and checked, its arrays too; its outputs are written by its completion (05 R130, R139, R140, R162, R163). Model's choice: notes/assumptions/139.md. -/
def State.runMatmul (s : State) (core : Nat) (c : Cmd) (faults : List (Nat × Nat)) (ecc : List EccEvent) : State :=
  if c.m = 0 ∨ c.n = 0 then s.launch core c (c.endsAll stEmpty)
  else
    let s1 := s.spChecks core c ecc
    let (bad, inj, s2) := if c.k = 0 then ([], false, s1) else s1.arrayChecks core c faults
    let s3 := s2.reportArrays core c bad inj
    let ends := (List.range c.groupCount).map (fun g => s3.matEnd core c bad g)
    let s4 := forEach (ends.filter (fun e => decide (e.status = stPoison))) (fun _ (t : State) => t.reportPoison core c) s3
    (if c.k = 0 then s4 else s4.loadWeights core c).launch core c ends

/-- Launch the first granted command of an opcode: `run` is its effect once its checks pass (05 R155, R160). OUT_OF_SHARE raises a usage
fault (R148). -/
def State.launchOp (s : State) (core op : Nat) (run : State → Cmd → State) : State :=
  match s.findLaunch core (fun c => decide (c.opcode = op)) [] (s.tcore core).granted with
  | none => s
  | some c =>
    let st := s.tcCheck core c
    if st = stOk then run s c
    else
      let s1 := if st = stOutOfShare then s.usageFault c.easel ukTcore core c.extent ufOutOfShare else s
      s1.launch core c (c.endsAll st)

/-- The rows of an ELEMWISE that array number `j` of `A` takes (05 R142). -/
def Cmd.elemRowsOf (c : Cmd) (j : Nat) : List Nat :=
  (List.range ((c.k + 127) / 128)).filter (fun r => decide (r % max 1 c.arrayList.length = j))

/-- Elements of row `r` of an ELEMWISE. -/
def Cmd.elemCnt (c : Cmd) (r : Nat) : Nat := min 128 (c.k - 128 * r)

/-- Whether array number `j` of an ELEMWISE reads poison (05 R142, R163). -/
def State.elemPoison (s : State) (core : Nat) (c : Cmd) (j : Nat) : Bool :=
  (c.elemRowsOf j).any (fun r =>
    s.rowPoisoned core c.easel c.aAddr c.fmtA c.k (128 * r) (c.elemCnt r) ||
    (decide (c.elemOp ≠ 5) && s.rowPoisoned core c.easel c.wAddr c.fmtW c.k (128 * r) (c.elemCnt r)) ||
    (c.residEn && s.rowPoisoned core c.easel c.residAddr c.fmtOut c.k (128 * r) (c.elemCnt r)) ||
    s.spanPoisoned core c.easel (c.scaleSpan (128 * r) (c.elemCnt r)))

/-- An ELEMWISE that passes its checks (05 R141 to R143, R163). -/
def State.runElemwise (s : State) (core : Nat) (c : Cmd) (faults : List (Nat × Nat)) (ecc : List EccEvent) : State :=
  if c.k = 0 then s.launch core c (c.endsAll stEmpty)
  else
    let s1 := s.spChecks core c ecc
    let (bad, inj, s2) := s1.arrayChecks core c (faults.filter (fun f => decide (f.2 = 0)))
    let s3 := s2.reportArrays core c bad inj
    let flt := c.arrayList.filter (fun a => bad.any (fun f => decide (f.1 = a)))
    let poi := (c.arrayList.zipIdx.filter (fun p => s3.elemPoison core c p.2)).map (·.1)
    (if flt.isEmpty && !poi.isEmpty then s3.reportPoison core c else s3).launch core c
      [⟨0xF, if !flt.isEmpty then stArrayFault else if !poi.isEmpty then stPoison else stOk, maskOf (flt ++ poi), [(c.outAddr, c.elemRow (s3.spByte core c.easel))]⟩]

/-- The outputs of a group are written, poisoned in the arrays at fault, and its passes counted (05 R130, R142, R163). -/
def State.tcOutputs (s : State) (core : Nat) (c : Cmd) (e : GroupEnd) : State :=
  let s1 := s.writeRows core c.easel e.rows
  if c.opcode = 1 then s1.poisonGroup core c (if e.group = 0xF then 0 else e.group) e.arrays
  else if c.opcode = 2 then
    forEach (c.arrayList.zipIdx.filter (fun p => e.arrays.testBit p.1)) (fun p t =>
      forEach (c.elemRowsOf p.2) (fun r u => u.poisonRow core c.easel c.outAddr c.fmtOut c.k (128 * r) (c.elemCnt r)) t) s1
  else s1

/-! ### Completion (05 R157, R161) -/

/-- The array column at which the last output of a group leaves the array, counted as R129 counts output times (05 R129, R136). -/
def Cmd.lastColumn (c : Cmd) (g : Nat) : Nat :=
  let col := g * (nMaxOf c.fmtW / max 1 c.groupCount) + c.n - 1
  if c.fmtW = 4 then col / 2 else if c.fmtW = 9 then 2 * col + 1 else col

/-- K-cycles from launch to a group's record: exact for a MATMUL with array work (05 R129, R130, R161), else the value the device measured. -/
def Cmd.cycles (c : Cmd) (e : GroupEnd) (measured : Nat) : Nat :=
  if c.opcode = 1 ∧ !isLaunchError e.status ∧ ¬ c.isEmpty then
    let lf := frameLen (c.mode.getD .float8)
    (c.passes - 1) * c.tPass + 1 + (c.chunks - 1) * lf + (c.m - 128 * (c.passes - 1) - 1) * (lf / 128) + 259 +
      c.lastColumn (if e.group = 0xF then 0 else e.group) + 1
  else measured

/-- The 16-byte record (05 R161). -/
def tcRecord (tag status group easel core arrays cycles : Nat) : List Nat :=
  leBytes 2 tag ++ leBytes 1 status ++ leBytes 1 group ++ leBytes 1 easel ++ leBytes 1 core ++ leBytes 1 arrays ++ leBytes 1 0 ++
    leBytes 4 cycles ++ leBytes 4 0

/-- Whether a status counts as an error (05 R160, R170). -/
def isError (st : Nat) : Bool := decide (0x10 ≤ st)

/-- Count an error completion of a T-core (05 R170, R171). -/
def State.tcError (s : State) (core : Nat) (c : Cmd) (e : GroupEnd) : State :=
  if isError e.status then
    ((((((s.setFld core F.TC_ERR_LAST_TAG c.tag).setFld core F.TC_ERR_LAST_STATUS e.status).setFld core F.TC_ERR_LAST_GROUP e.group).setFld
      core F.TC_ERR_EASEL_EASEL c.easel).incSat core F.TC_ERR_COUNT_COUNT 1).incSat (ce core c.easel) F.TC_EAS_ERRORS_COUNT 1)
  else s

/-- A record of a T-core command is posted; a radio command's is consumed by the radio pipeline (10 R333, R336). -/
def State.tcPost (s : State) (core : Nat) (c : Cmd) (e : GroupEnd) (cycles : Nat) : State :=
  let s1 := s.tcError core c e
  if c.radio then s1
  else s1.postRecord c.easel kindTcore (tcRecord c.tag e.status e.group c.easel core e.arrays (c.cycles e cycles))

/-- The last record of a command: its signal comes before the record (05 R157), then it leaves the T-core. -/
def State.tcRetire (s : State) (core : Nat) (c : Cmd) (e : GroupEnd) (cycles : Nat) : State :=
  let s1 := if c.signalEn && s.ownsLink c.easel c.signalLink then s.sendSignal c.signalSem else s
  let t := s1.tcore core
  let s2 := s1.setTcore core c.easel { t with running := t.running.filter (fun r => decide (r.cmd.id ≠ c.id)) }
  let s3 := (s2.incWrap core F.TC_DONE_COUNT 1).incWrap (ce core c.easel) F.TC_EAS_DONE_COUNT 1
  ((s3.tcPost core c e cycles).retire c.easel c.id c.stepEnd).showMoving

/-- One record of a running command: `id` and `group` name it (05 R161). -/
def State.tcFinish (s : State) (core id group cycles : Nat) : State :=
  let t := s.tcore core
  match t.running.find? (fun r => decide (r.cmd.id = id)) with
  | none => s
  | some r =>
    match r.ends.find? (fun e => decide (e.group = group)) with
    | none => s
    | some e =>
      let rest := r.ends.filter (fun x => decide (x.group ≠ group))
      let s0 := s.tcOutputs core r.cmd e
      if rest.isEmpty then
        (if r.cmd.opcode = 1 ∧ !r.cmd.isEmpty ∧ !isLaunchError e.status then s0.incWrap core F.TC_PASSES_COUNT (r.cmd.passes * r.cmd.arrayList.length)
          else s0).tcRetire core r.cmd e cycles
      else
        let run := t.running.map (fun x => if x.cmd.id = id then { x with ends := rest } else x)
        (s0.setTcore core r.cmd.easel { t with running := run }).tcPost core r.cmd e cycles

/-- A granted command whose opcode is none of R159's completes from its launch point (05 R159, R160). -/
def State.launchBad (s : State) (core id : Nat) : State :=
  match s.findLaunch core (fun c => decide (c.id = id ∧ (c.opcode = 0 ∨ 5 < c.opcode))) [] (s.tcore core).granted with
  | none => s
  | some c => s.launch core c (c.endsAll stOpcode)

/-- TC_MATMUL (05 R130). -/
def execTcMatmul (core : Fin 48) (faults : List (Fin 4 × Fin 4)) (ecc : List EccEvent) (s : State) : Res :=
  .next (s.launchOp core 1 (fun t c => t.runMatmul core c (faults.map (fun f => (f.1.val, f.2.val))) ecc))

/-- TC_ELEMWISE (05 R142). -/
def execTcElemwise (core : Fin 48) (faults : List (Fin 4 × Fin 4)) (ecc : List EccEvent) (s : State) : Res :=
  .next (s.launchOp core 2 (fun t c => t.runElemwise core c (faults.map (fun f => (f.1.val, f.2.val))) ecc))

/-- TC_RELEASE (05 R153). -/
def execTcRelease (core : Fin 48) (s : State) : Res :=
  .next (s.launchOp core 3 (fun t c => (t.spRelease core c.easel c.unitBase c.unitCount).launch core c (c.endsAll stOk)))

/-- TC_MARK (05 R159). -/
def execTcMark (core : Fin 48) (s : State) : Res :=
  .next (s.launchOp core 4 (fun t c => t.launch core c (c.endsAll stOk)))

/-- A PRELOAD that passes its checks: chunk 0 is read, checked, and loaded into the idle set of each array; the weights it read stay poisoned there (05 R152, R159, R163, R166). Model's choice: notes/assumptions/154.md. -/
def State.runPreload (s : State) (core : Nat) (c : Cmd) (ecc : List EccEvent) : State :=
  let s1 := forEach c.arrayList (fun a (t : State) => t.loadSet core c a) (s.spChecks core c ecc)
  let bad := c.arrayList.any (fun a => ((s1.tcore core).idleSet a).tile.any (fun b => decide (256 ≤ b)))
  (if bad then s1.reportPoison core c else s1).launch core c (c.endsAll (if bad then stPoison else stOk))

/-- TC_PRELOAD (05 R166, R167). -/
def execTcPreload (core : Fin 48) (ecc : List EccEvent) (s : State) : Res := .next (s.launchOp core 5 (fun t c => t.runPreload core c ecc))

end Sys2Proof.Machine
end

