-- ==== Sys2Proof/Machine/Spaces.lean ====
section
/-! DEFINITION. Machine/Spaces.lean: the spaces that strokes reach (09 R275): reads and writes of bonded memory, scratchpads, S-core data memories
and host memory by an engine of an easel, with refusal, poison and ECC. -/
namespace Sys2Proof.Machine

open Sys2Proof

/-! ### Statuses of streams (09 R286) -/

def stSpace : Nat := 0x30
def stDead : Nat := 0x31
def stFence : Nat := 0x32
def stAborted : Nat := 0x33
def stChannel : Nat := 0x34
def stFetch : Nat := 0x35
def stMissed : Nat := 0x36

/-! ### Codes of spaces (09 R275) -/

def spNone : Nat := 0
def spBonded : Nat := 1
def spScratch : Nat := 2
def spDmem : Nat := 3
def spPalette : Nat := 4
def spFabric : Nat := 5
def spHost : Nat := 6

/-! ### DMEM (07 R220 to R222) -/

/-- Set or clear an S-core's bit in a register array of six words. -/
def State.setScBit (s : State) (f : Nat → Fld) (core : Nat) (b : Bool) : State :=
  if b then s.orFld 0 (f (core / 32)) (2 ^ (core % 32)) else s.clrFld 0 (f (core / 32)) (2 ^ (core % 32))

/-- The limit of an easel's DMEM share in bytes, and of its PMEM share. -/
def State.dmemLimit (s : State) (core e : Nat) : Nat := 4096 * min (s.fld (ce core e) F.SC_EAS_DM_SHARE) (s.fld (ce core e) F.SC_EAS_DM_MAPPED)
def State.pmemLimit (s : State) (core e : Nat) : Nat := 4096 * min (s.fld (ce core e) F.SC_EAS_PM_SHARE) (s.fld (ce core e) F.SC_EAS_PM_MAPPED)

/-- Bring SC_EAS_WATERMARK to the watermarks (07 R221). -/
def State.scWatermark (s : State) (core e : Nat) : State :=
  (s.setFld (ce core e) F.SC_EAS_WATERMARK_DM (s.watermark (dmemKey core e 0) (2 ^ 46) 4096)).setFld (ce core e) F.SC_EAS_WATERMARK_PM
    (s.watermark (pmemKey core e 0) (2 ^ 46) 4096)

/-- Store bytes in an easel's DMEM share (07 R221). -/
def State.dmemStore (s : State) (core e a : Nat) (bs : List Nat) : State :=
  ((s.storeRaw (dmemKey core e a) bs).setUsedRange (dmemKey core e 0) 4096 a bs.length).scWatermark core e

/-- Store bytes in an easel's PMEM share (07 R221). -/
def State.pmemStore (s : State) (core e a : Nat) (bs : List Nat) : State :=
  ((s.storeRaw (pmemKey core e a) bs).setUsedRange (pmemKey core e 0) 4096 a bs.length).scWatermark core e

/-- A DMEM word's check: a correction is counted; an uncorrectable error poisons its 64-byte line (07 R222). -/
def State.dmemEcc (s : State) (core e code : Nat) (x : EccEvent) : State :=
  let a := 64 * x.granule
  let (what, s0) := s.inject (132 + core / 64) e
  match eccFlip x.kind what with
  | .ok => s0
  | .corrected => (s0.incSat core F.SC_DM_CE_COUNT 1).detect (132 + core / 64) e ukScore core a 0 sevCorrected what.isSome
  | .uncorrectable =>
    let s1 := (s0.incSat core F.SC_MEM_UE_DM 1).markPoison (dmemKey core e a)
    (s1.setScBit F.SC_FAULT_FAULT core true).detect (132 + core / 64) e ukScore core a code sevContained what.isSome

/-! ### Reads and writes -/

/-- Mark the bytes whose granule is poisoned by adding 256. -/
def State.tagPoison (s : State) (k : Nat) (bs : List Nat) : List Nat :=
  bs.zipIdx.map (fun p => if s.poisoned (k + p.2) 1 then p.1 + 256 else p.1)

/-- Poison the granules that hold the marked bytes of a store (09 R294). -/
def State.layPoison (s : State) (k : Nat) (bs : List Nat) : State :=
  forEach (bs.zipIdx.filter (fun p => decide (256 ≤ p.1))) (fun p t => t.markPoison (k + p.2)) s

/-- The answer to an access of a space. -/
structure SpResp where
  status : Nat
  bytes : List Nat
  st : State

/-- Whether PARTITION assigns a core to an easel; OWNER 0x3F is unassigned (10 R310). -/
def State.coreOwned (s : State) (owner : Fld) (core e : Nat) : Bool :=
  decide (s.fld core owner = e ∧ s.fld core owner ≠ 0x3F)

/-- Whether PARTITION lets an easel reach a core (09 R275, 10 R310): always in normal service. -/
def State.coreReach (s : State) (owner : Fld) (core e : Nat) : Bool :=
  !s.flag 0 F.SCH_MODE_PARTITIONED || s.coreOwned owner core e

/-- Whether a space and target are valid and within an easel's reach (09 R275). FABRIC targets are judged on their own (13 R391). -/
def State.targetOk (s : State) (e space target : Nat) : Bool :=
  match space with
  | 0 => decide (target = 0)
  | 1 => decide (target = 0)
  | 2 => decide (target < 48) && s.coreReach F.TC_PARTITION_OWNER target e
  | 3 => decide (target < 192) && s.coreReach F.SC_PARTITION_OWNER target e
  | 4 => (decide (target < 2048) && s.ownsLink e target) ||
      (decide (0x2000 ≤ target ∧ target < 0x4000) && decide (s.fld (target - 0x2000) F.FLW_CFG_KIND ≠ 0 ∧ s.fld (target - 0x2000) F.FLW_CFG_EASEL = e))
  | 5 => true
  | 6 => decide (target = 0)
  | _ => false

/-- A refused translation: counted and reported to the easel (17 R489). -/
def State.refuseXlate (s : State) (e unitKind unit : Nat) : State :=
  (s.incSat e F.CXL_EAS_XLATE_FAULTS 1).usageFault e unitKind unit 0 ufTranslation

/-- Read bytes of a space for an easel, as a reader sees bonded memory (09 R275, R294; 11 R362); a core in reset answers CORE_RESET (09 R286). Poisoned bytes come marked. `host` holds the bytes of
host memory, and `ecc` an error the memory's check finds. -/
def State.spRead (s : State) (r : Reader) (e : Nat) (p : Place) (host : List Nat) (ecc : Option EccEvent) : SpResp :=
  match p.space with
  | 1 =>
    if s.inShare e p.addr p.len then
      let m := s.bondLoad e p.addr p.len stPoison ecc
      ⟨if m.status = .poison then stPoison else stOk, m.st.viewOf r e p.addr (m.st.tagPoison (bondKey e p.addr) m.data), m.st⟩
    else ⟨stOutOfShare, [], s⟩
  | 2 =>
    if s.tcHeld p.target then ⟨stCoreReset, [], s⟩
    else if p.addr + p.len ≤ s.scratchLimit p.target e then
      let s1 := s.spEcc p.target e stPoison (ecc.getD ⟨.ok, p.addr / 64, 0⟩)
      let k := scratchKey p.target e p.addr
      ⟨if s1.poisoned k p.len then stPoison else stOk, s1.tagPoison k (s1.readBytes k p.len), s1⟩
    else ⟨stOutOfShare, [], s⟩
  | 3 =>
    if s.scHeld p.target then ⟨stCoreReset, [], s⟩
    else if p.addr + p.len ≤ s.dmemLimit p.target e then
      let s1 := s.dmemEcc p.target e stPoison (ecc.getD ⟨.ok, p.addr / 64, 0⟩)
      let k := dmemKey p.target e p.addr
      ⟨if s1.poisoned k p.len then stPoison else stOk, s1.tagPoison k (s1.readBytes k p.len), s1⟩
    else ⟨stOutOfShare, [], s⟩
  | 6 =>
    if s.hostUp && s.translates e p.addr then ⟨stOk, host, s.countUnits e F.CXL_EAS_HOST_RD_UNITS 65536 p.len⟩
    else ⟨stFetch, [], if s.hostUp then s.refuseXlate e ukNone 0 else s⟩
  | _ => ⟨stSpace, [], s⟩

/-- Write bytes to a space for an easel; marked bytes poison their granules (09 R275, R294; 11 R342). -/
def State.spWrite (s : State) (e : Nat) (p : Place) (bs : List Nat) : SpResp :=
  let raw := bs.map (· % 256)
  match p.space with
  | 1 =>
    if s.inShare e p.addr bs.length && !s.hitsPageList e p.addr bs.length then
      ⟨stOk, [], (s.bondStore e p.addr raw).st.layPoison (bondKey e p.addr) bs⟩
    else ⟨stOutOfShare, [], s⟩
  | 2 =>
    if s.tcHeld p.target then ⟨stCoreReset, [], s⟩
    else if p.addr + bs.length ≤ s.scratchLimit p.target e then
      ⟨stOk, [], (s.spStore p.target e p.addr raw).layPoison (scratchKey p.target e p.addr) bs⟩
    else ⟨stOutOfShare, [], s⟩
  | 3 =>
    if s.scHeld p.target then ⟨stCoreReset, [], s⟩
    else if p.addr + bs.length ≤ s.dmemLimit p.target e then
      ⟨stOk, [], (s.dmemStore p.target e p.addr raw).layPoison (dmemKey p.target e p.addr) bs⟩
    else ⟨stOutOfShare, [], s⟩
  | 6 =>
    if s.hostUp && s.translates e p.addr then ⟨stOk, [], s.hostWrite e p.addr raw⟩
    else ⟨stSpace, [], if s.hostUp then s.refuseXlate e ukNone 0 else s⟩
  | _ => ⟨stSpace, [], s⟩

end Sys2Proof.Machine
end

