-- ==== Sys2Proof/Machine/YzBase.lean ====
section
/-! DEFINITION. Machine/YzBase.lean: the Yaroz fabric below its commands (13): jobs and ranks, connections, paths and packets sent, operations issued,
and what an operation does at its target. -/
namespace Sys2Proof.Machine

open Sys2Proof

/-! ### Jobs and ranks (R387, R389) -/

/-- The job slot of an easel (R418). -/
def State.jobOf (s : State) (e : Nat) : Option Nat :=
  if s.flag e F.YZF_EAS_STATUS_MEMBER then some (s.fld e F.YZF_EAS_STATUS_SLOT) else none

/-- The job slot that holds a job identifier (R417); identifier 0 marks an empty slot. -/
def State.slotOf (s : State) (job : Nat) : Option Nat :=
  (List.range 16).find? (fun j => decide (job ≠ 0 ∧ s.fld 0 (F.YZF_JOB_ID_JOB j) = job))

/-- The key of a rank of a slot. -/
def rankKey (slot rank : Nat) : Nat := slot * 4096 + rank

/-- A rank entry: MAC, GEN, STATE (1 DEAD), PATHS (R389); a rank outside the job is DEAD. -/
def State.rankEntry (s : State) (slot rank : Nat) : Nat × Nat × Nat × Nat := SMap.get (fun _ => (0, 0, 1, 0)) s.yz.ranks (rankKey slot rank)

def State.selfRank (s : State) (slot : Nat) : Nat := s.fld 0 (F.YZF_JOB_RANKS_SELF slot)

/-- Whether a slot's placement is a tombstone, drained or expired (R410, R412). -/
def State.tombstone (s : State) (slot : Nat) : Bool := decide (s.fld 0 (F.YZF_JOB_MIG_STATE slot) ≠ 0)

/-- Whether an easel belongs to a job (EASEL_MASK). -/
def State.inJob (s : State) (slot e : Nat) : Bool :=
  (s.fld64 0 (F.YZF_JOB_EASELS_LO_MASK slot) (F.YZF_JOB_EASELS_HI_MASK slot)).testBit e

/-- Whether generation `a` is newer than `b` (R389). -/
def genNewer (a b : Nat) : Bool := let d := (a + 256 - b % 256) % 256; decide (1 ≤ d ∧ d ≤ 127)

/-! ### Connections, paths and packets (R398 to R401) -/

/-- A connection nothing has been sent on. -/
def YzConn.new : YzConn := ⟨0, [], [], 0, 0, 0, [], [], [], 0, 0, 0⟩

def State.yzConn (s : State) (slot rank : Nat) : YzConn := SMap.get (fun _ => YzConn.new) s.yz.conns (rankKey slot rank)

def State.setConn (s : State) (slot rank : Nat) (c : YzConn) : State :=
  { s with yz := { s.yz with conns := SMap.set (fun _ => YzConn.new) s.yz.conns (rankKey slot rank) c } }

/-- Whether a path is up (R383, R401). -/
def State.pathUp (s : State) (p : Nat) : Bool :=
  if p < 16 then s.flag 0 (F.YZF_LINK_STATUS_UP p) else (s.fld 0 F.YZF_STATUS_ETH_UP).testBit (p - 16)

/-- The YAROZ leaf of an easel under the root of subport 0 of a port: the lowest-numbered (15 R443, R452). -/
def State.yzLeaf (s : State) (easel port : Nat) : Option Nat :=
  ((List.range 4064).map (· + 32)).find? (fun n =>
    decide (s.fld n F.EGS_NODE_CFG_LEVEL = 3 ∧ s.fld n F.EGS_NODE_CFG_SERVICE = 5 ∧ s.fld n F.EGS_NODE_CFG_EASEL = easel ∧
      s.fld (s.fld n F.EGS_NODE_CFG_PARENT) F.EGS_NODE_CFG_PARENT = 4 * port))

/-- The paths a packet of an easel to a rank may take (R401; 15 R452). -/
def State.openPaths (s : State) (slot rank easel : Nat) : List Nat :=
  (bitsOf 24 (s.rankEntry slot rank).2.2.2).filter (fun p => s.pathUp p && !NSet.has p (s.yzConn slot rank).withdrawn &&
    (decide (p < 16) || (s.yzLeaf easel (p - 16)).isSome))

/-- Bytes of a record with its payload, padded to 4 (R394). -/
def recSize (r : YzRec) : Nat := 16 + alignUp r.payload.length 4

/-- LEN of a packet: bytes of its records (R384). -/
def pktLen (p : YzPkt) : Nat := (p.recs.map recSize).foldl (· + ·) 0

/-- Bytes of the Ethernet frame of a packet, without preamble and gap (R384). -/
def State.yzFrameLen (s : State) (p : YzPkt) : Nat := max 64 (14 + (if s.fld 0 F.YZF_VLAN_VID = 0 then 0 else 4) + 36 + pktLen p + 4)

/-- Keep the newest frames that fit the 512 KiB replay buffer (R399). -/
def trimReplay : List YzPkt → Nat → List YzPkt
  | [], _ => []
  | p :: r, room => if 36 + pktLen p ≤ room then p :: trimReplay r (room - 36 - pktLen p) else []

/-- A packet for a link in lane sleep starts the link's exit, and waits for it (19 R530, R531). -/
def State.wakeLink (s : State) (l : Nat) : State :=
  if (s.fld 0 F.PWR_LINK_SLEEP_SLEEP).testBit l then { s with pow := { s.pow with waking := NSet.add (128 + l) s.pow.waking } } else s

/-- The packets that wait on a path. -/
def State.yzWaits (s : State) (path : Nat) : List YzWait := SMap.get (fun _ => []) s.eth.yzq path
def State.setYzWaits (s : State) (path : Nat) (l : List YzWait) : State :=
  { s with eth := { s.eth with yzq := SMap.set (fun _ => []) s.eth.yzq path l } }

/-- Put a packet of an easel (64 for none) on a path, where it waits for its turn (15 R448, R451, R452). -/
def State.yzEmit (s0 : State) (path easel : Nat) (p : YzPkt) : State :=
  let s := if path < 16 then s0.wakeLink path else s0
  s.setYzWaits path (s.yzWaits path ++ [⟨easel, p⟩])

/-- A packet leaves on a link: on a DIRECT link it carries LSEQ and LACK and stays in the replay buffer (R384, R399, R417; 15 R461). -/
def State.yzDepart (s0 : State) (path : Nat) (w : YzWait) : State :=
  let p := w.pkt
  let s := if w.easel < 64 then s0.countUnits w.easel F.EGS_EAS_YZF_UNITS 65536 (s0.yzFrameLen p) else s0
  if s.fld 0 (F.YZF_LINK_STATUS_MODE path) = 1 then
    let n := SMap.get (fun _ => 0) s.yz.lseq path
    let q := { p with flags := p.flags % 2 + 2, lseq := n, lack := SMap.get (fun _ => 0) s.yz.lrx path }
    let rp := trimReplay (q :: SMap.get (fun _ => []) s.yz.replay path) 524288
    let s1 := { s with yz := { s.yz with lseq := SMap.set (fun _ => 0) s.yz.lseq path ((n + 1) % 65536), replay := SMap.set (fun _ => []) s.yz.replay path rp } }
    (s1.emit (.yaroz path q)).countUnits 0 (F.YZF_LINK_TX_UNITS path) 65536 (s.yzFrameLen q)
  else
    (s.emit (.yaroz path p)).countUnits 0 (F.YZF_LINK_TX_UNITS path) 65536 (s.yzFrameLen p)

/-- The header of a packet to a rank (R384). Model's choice: notes/assumptions/161.md. -/
def State.yzHeader (s : State) (slot rank type psn : Nat) (recs : List YzRec) : YzPkt :=
  ⟨type, 0, s.fld 0 (F.YZF_JOB_ID_JOB slot), s.selfRank slot, rank, s.fld 0 (F.YZF_JOB_EPOCH_EPOCH slot) % 65536,
    if type = 1 then (s.rankEntry slot rank).2.1 else 0, psn, some (((s.yzConn slot rank).rxPsn + 2 ^ 24 - 1) % 2 ^ 24), 0, 0, 0, recs⟩

/-- A packet that is sent again no longer waits where it was put before. -/
def State.unwait (s : State) (x : YzTx) : State :=
  match x.path with
  | none => s
  | some p => s.setYzWaits p ((s.yzWaits p).filter (fun w => !decide (w.easel < 64 ∧ w.pkt.job = x.pkt.job ∧ w.pkt.dst = x.pkt.dst ∧ w.pkt.psn = x.psn)))

/-- Send one packet on the next open path in round robin, and count it as in flight; its header says what holds as it is sent (R384, R401). -/
def State.yzPut (s0 : State) (slot rank : Nat) (x : YzTx) : State :=
  let s := s0.unwait x
  let ps := s.openPaths slot rank x.easel
  match ps[(s.yzConn slot rank).rr % max 1 ps.length]? with
  | none => s
  | some path =>
    let c := s.yzConn slot rank
    let s1 := s.setConn slot rank { c with rr := c.rr + 1, unacked := c.unacked.filter (fun y => decide (y.psn ≠ x.psn)) ++ [{ x with path := some path }] }
    s1.yzEmit path x.easel { s.yzHeader slot rank x.pkt.type x.psn x.pkt.recs with flags := if x.path.isSome then 1 else 0 }

/-- Packets of a multicast stream that wait or are not acknowledged on a connection. -/
def YzConn.ofStream (c : YzConn) (k : Nat × Nat) : Nat :=
  ((c.unacked ++ c.waiting).filter (fun x => decide (x.stream = some k))).length

/-- Packets from the stream's oldest one that some receiver has not acknowledged (R408): every receiver has been given the same packets. -/
def State.streamSpan (s : State) (k : Nat × Nat) : Nat := s.yz.conns.foldl (fun m p => max m (p.2.ofStream k)) 0

/-- Whether the first of the packets of a stream that wait on a connection lies within the window of 64 (R408). -/
def State.yzWindow (s : State) (c : YzConn) (k : Option (Nat × Nat)) : Bool :=
  match k with
  | none => true
  | some k => decide (s.streamSpan k < 64 + (c.waiting.filter (fun x => decide (x.stream = some k))).length)

/-- The first packet of each easel among those that wait: an easel's packets keep their order. -/
def firstTx : List YzTx → List Nat → List YzTx
  | [], _ => []
  | x :: r, seen => if seen.contains x.easel then firstTx r seen else x :: firstTx r (x.easel :: seen)

/-- Whether a packet may be sent for the first time: credits for a request (responses need none), a path, and its window (R400, R401, R408). -/
def State.maySend (s : State) (slot rank : Nat) (x : YzTx) : Bool :=
  let c := s.yzConn slot rank
  (decide (x.pkt.type ≠ 1) || decide (c.sent < Config.firstCredit + c.granted)) && !(s.openPaths slot rank x.easel).isEmpty && s.yzWindow c x.stream

/-- Send the packets that wait on a connection while they may be; a packet takes the connection's next number as it is first sent (R398). -/
def State.yzPump (s : State) (slot rank : Nat) : Nat → State
  | 0 => s
  | n + 1 =>
    let c := s.yzConn slot rank
    match (firstTx c.waiting []).find? (s.maySend slot rank) with
    | none => s
    | some x =>
      let s1 := s.setConn slot rank { c with
        nextPsn := (c.nextPsn + 1) % 2 ^ 24, waiting := c.waiting.erase x, sent := c.sent + (if x.pkt.type = 1 then 1 else 0) }
      (s1.yzPut slot rank { x with psn := c.nextPsn, pkt := { x.pkt with psn := c.nextPsn } }).yzPump slot rank n

/-- Send what can be sent on a connection. -/
def State.yzKick (s : State) (slot rank : Nat) : State := s.yzPump slot rank (s.yzConn slot rank).waiting.length

/-- Queue a packet of records of an easel on a connection (R398). -/
def State.yzQueue (s : State) (slot rank type easel : Nat) (stream : Option (Nat × Nat)) (recs : List YzRec) : State :=
  let c := s.yzConn slot rank
  let x : YzTx := ⟨0, none, 0, easel, stream, s.yzHeader slot rank type 0 recs⟩
  (s.setConn slot rank { c with waiting := c.waiting ++ [x] }).yzKick slot rank

/-- The Ethernet payload a packet may fill (R383). -/
def State.yzMtu (s : State) : Nat := if s.flag 0 F.YZF_CFG_MTU9K then 9000 else 1500

/-- Packets outstanding on a path that goes down are retransmitted at once on another path (R401). -/
def State.yzReroute (s0 : State) (path : Nat) : State :=
  let s := s0.setYzWaits path ((s0.yzWaits path).filter (fun w => decide (w.easel = 64)))
  forEach s.yz.conns (fun p (t : State) =>
    forEach (p.2.unacked.filter (fun x => decide (x.path = some path))) (fun x (u : State) => u.yzPut (p.1 / 4096) (p.1 % 4096) x) t) s

/-- Packets that wait for a path or for credits are sent where they can be (R400, R401). -/
def State.yzKickAll (s : State) : State := forEach s.yz.conns (fun p (t : State) => t.yzKick (p.1 / 4096) (p.1 % 4096)) s

/-- Cut records into packets of up to 32 records that fit the MTU (R392). -/
def packRecs (mtu : Nat) : List YzRec → List YzRec → List (List YzRec)
  | cur, [] => if cur.isEmpty then [] else [cur]
  | cur, r :: t =>
    if cur.length < 32 ∧ 36 + ((cur ++ [r]).map recSize).foldl (· + ·) 0 ≤ mtu then packRecs mtu (cur ++ [r]) t
    else (if cur.isEmpty then [] else [cur]) ++ packRecs mtu [r] t

/-- The multicast stream an operation belongs to: its descriptor's (R408). -/
def YzOp.stream (o : YzOp) : Option (Nat × Nat) :=
  match o.mcast, o.owner with
  | true, .chan n d => some (n, d)
  | _, _ => none

/-- What operations packed together share: slot, rank, easel, stream. -/
def YzOp.packKey (o : YzOp) : Nat × Nat × Nat × Option (Nat × Nat) := (o.slot, o.rank, o.easel, o.stream)

/-- Pack and queue every operation not yet sent, by rank, easel and multicast stream (R392, R408; 15 R452). -/
def State.yzFlush (s : State) : State :=
  let keys := (s.yz.ops.filter (fun o => !o.sent)).foldl (fun l o => if l.contains o.packKey then l else l ++ [o.packKey]) []
  let s1 := { s with yz := { s.yz with ops := s.yz.ops.map (fun o => { o with sent := true }) } }
  forEach keys (fun k t =>
    forEach (packRecs s.yzMtu [] ((s.yz.ops.filter (fun o => !o.sent && decide (o.packKey = k))).map (·.op)))
      (fun rs u => u.yzQueue k.1 k.2.1 1 k.2.2.1 k.2.2.2 rs) t) s1

/-- Issue an operation (R391 to R394): it gets a tag and is counted. -/
def State.yzIssue (s : State) (e : Nat) (owner : YzOwner) (slot rank : Nat) (r : YzRec) (dest : List Place) (mcast : Bool) : State :=
  let op : YzOp := ⟨s.yz.nextTag, e, owner, slot, rank, { r with tag := s.yz.nextTag }, dest, .flight, mcast, false⟩
  ({ s with yz := { s.yz with ops := s.yz.ops ++ [op], nextTag := (s.yz.nextTag + 1) % 2 ^ 32 } }).incWrap e F.YZF_EAS_OPS_COUNT 1

/-- The key of a DEAD_TARGET count (21 R586). -/
def deadKey (e slot rank : Nat) : Nat := (e * 16 + slot) * 4096 + rank

/-- An operation ends with DEAD_TARGET: counted and reported to its easel (R404; 21 R571). -/
def State.yzDead (s : State) (e slot rank unitKind unit : Nat) (injected : Bool := false) : State :=
  let k := deadKey e slot rank
  let s1 := { s with yz := { s.yz with deadBy := SMap.set (fun _ => 0) s.yz.deadBy k (SMap.get (fun _ => 0) s.yz.deadBy k + 1) } }
  (s1.incSat e F.YZF_EAS_DEAD_COUNT 1).detect 147 e unitKind unit (rank + 65536 * slot) stDead sevContained injected

/-- The value a dead load returns: 0xDEAD in every half word (R404). -/
def deadBytes (n : Nat) : List Nat := (List.range n).map (fun i => if i % 2 = 0 then 0xAD else 0xDE)

/-! ### An operation at its target (R394 to R397) -/

/-- The atomic operation of an AOP code (R391). -/
def aopOf : Nat → Option AtomicOp
  | 1 => some .add
  | 2 => some .min
  | 3 => some .max
  | 4 => some .minu
  | 5 => some .maxu
  | 6 => some .cas
  | _ => none

/-- Statuses of a response (R396). -/
def yzOk : Nat := 0
def yzOutOfShare : Nat := 1
def yzPoison : Nat := 2
def yzNoEasel : Nat := 3
def yzMoved : Nat := 4
def yzRetry : Nat := 5
def yzAhead : Nat := 6
def yzEpoch : Nat := 7

/-- A target's answer to an operation: status, flags, INFO, data, and the state after. -/
structure YzAns where
  status : Nat
  flags : Nat
  info : Nat
  data : List Nat
  st : State

/-- The data of a PROBE (R397). -/
def State.probeData (s : State) (slot : Nat) : List Nat :=
  leBytes 2 (s.fld 0 F.FLT_HEALTH_SCORE) ++ leBytes 1 (s.fld 0 F.FLT_HEALTH_BAND) ++ leBytes 1 (s.rankEntry slot (s.selfRank slot)).2.1 ++
    leBytes 4 (s.fld 0 (F.YZF_JOB_EPOCH_EPOCH slot)) ++ leBytes 1 (s.fld 0 F.FLT_HEALTH_QUARANTINED) ++ leBytes 7 0

/-- Whether an easel's writes from outside wait for a thaw (18 R516). -/
def State.frozen (s : State) (e : Nat) : Bool := decide (s.fld e F.EAS_LIFE_STATE = 5 ∨ s.fld e F.EAS_LIFE_STATE = 6 ∨ s.fld e F.EAS_LIFE_STATE = 8)

/-- An inbound store to an underpainting area is refused and counted (11 R362). -/
def State.refuseUnderpaint (s : State) (e : Nat) : State := s.incSat e F.SEQ_EAS_MASKED_WRITES 1

/-- Perform an operation on this device for a job (R386, R388, R394 to R397; 11 R362; 18 R516; 21 R585). -/
def State.yzServe (s : State) (slot : Nat) (r : YzRec) (ecc : Option EccEvent) : YzAns :=
  let e := r.addr / 2 ^ 46 % 64
  let a := r.addr % 2 ^ 46
  if r.opc = 4 then ⟨yzOk, 0, 0, s.probeData slot, s⟩
  else if !s.inJob slot e || s.flag 0 F.FLT_HEALTH_QUARANTINED then ⟨yzNoEasel, 0, 0, [], s⟩
  else if r.opc = 1 then
    let m := s.bondLoad e a r.len stPoison ecc
    match m.status with
    | .outOfShare => ⟨yzOutOfShare, 0, 0, [], m.st⟩
    | st =>
      let masked := m.st.masksAny .committed e a r.len
      let s1 := if masked then m.st.incSat e F.SEQ_EAS_MASKED_READS 1 else m.st
      let poisoned := decide (st = .poison)
      ⟨if poisoned then yzPoison else yzOk, (if masked then 1 else 0) + (if poisoned then 2 else 0), 0, s1.viewOf .committed e a m.data, s1⟩
  else if s.frozen e then ⟨yzRetry, 0, 10000, [], s⟩
  else if r.opc = 2 then
    if s.hitsUnderpainting e a r.len then ⟨yzOutOfShare, 0, 0, [], s.refuseUnderpaint e⟩
    else
      let m := s.bondStore e a (r.payload.take r.len)
      ⟨if m.status = .outOfShare then yzOutOfShare else yzOk, 0, 0, [], m.st⟩
  else
    let w := if (r.flags / 16) % 2 = 1 then 8 else 4
    match aopOf (r.flags % 16) with
    | none => ⟨yzOk, 0, 0, [], s⟩
    | some op =>
      if s.hitsUnderpainting e a w then ⟨yzOutOfShare, 0, 0, [], s.refuseUnderpaint e⟩
      else
        let v1 := ofLe (r.payload.take w)
        let v2 := ofLe ((r.payload.drop w).take w)
        let m := s.bondAtomic e a w op (if op = .cas then v2 else v1) v1 stPoison ecc
        match m.status with
        | .outOfShare => ⟨yzOutOfShare, 0, 0, [], m.st⟩
        | .poison => ⟨yzPoison, 2, 0, m.data, m.st⟩
        | .ok => ⟨yzOk, 0, 0, if (r.flags / 32) % 2 = 1 then m.data else [], m.st⟩

end Sys2Proof.Machine
end

