-- ==== Sys2Proof/Machine/EthBase.lean ====
section
/-! DEFINITION. Machine/EthBase.lean: what the Ethernet chapters share (14, 15): subports and flows, the fields of a frame, U-plane sections and their
compression (08 R259; 14 R428, R432), records of a flow's queue, and the flow table. -/
namespace Sys2Proof.Machine

open Sys2Proof

/-! ### Numbers in frames -/

/-- A number from its bytes, the highest first. -/
def ofBe : List Nat → Nat := List.foldl (fun t b => 256 * t + b % 256) 0

/-- `n` bytes of a number, the highest first. -/
def beBytes (n v : Nat) : List Nat := (leBytes n v).reverse

/-- A field of a frame, the highest byte first. -/
def beAt (d : List Nat) (o n : Nat) : Nat := ofBe ((d.drop o).take n)

/-- A little-endian field of an entry. -/
def leAt (d : List Nat) (o n : Nat) : Nat := ofLe ((d.drop o).take n)

/-- Bytes with a part replaced. -/
def patch (d : List Nat) (o : Nat) (v : List Nat) : List Nat := d.take o ++ v ++ d.drop (o + v.length)

/-- Bytes followed by zeros up to a length. -/
def padTo (n : Nat) (d : List Nat) : List Nat := d ++ List.replicate (n - d.length) 0

/-! ### Subports (14 R419, R420, R433) -/

/-- The hundredths of a nanosecond that a byte lasts in a mode. -/
def modeK : Nat → Nat
  | 1 => 1
  | 2 => 2
  | _ => 4

/-- Subports of a mode. -/
def modeSubs : Nat → Nat
  | 0 => 0
  | m => modeK m

def State.subMode (s : State) (sub : Nat) : Nat := s.fld (sub / 4) F.ETH_PORT_CFG_MODE
def State.subK (s : State) (sub : Nat) : Nat := modeK (s.subMode sub)
def State.subExists (s : State) (sub : Nat) : Bool := decide (sub % 4 < modeSubs (s.subMode sub))
def State.subUp (s : State) (sub : Nat) : Bool := (s.fld 0 F.ETH_LINK_UP_UP).testBit sub

/-- The MAC address of a subport. -/
def State.subMac (s : State) (sub : Nat) : List Nat :=
  leBytes 4 (s.fld (sub / 4) (F.ETH_SUB_MAC_LO_MAC (sub % 4))) ++ leBytes 2 (s.fld (sub / 4) (F.ETH_SUB_MAC_HI_MAC (sub % 4)))

/-- The fabric MAC (13 R383). -/
def State.fabricMac (s : State) : List Nat := leBytes 4 (s.fld 0 F.YZF_MAC_LO_MAC) ++ leBytes 2 (s.fld 0 F.YZF_MAC_HI_MAC)

/-- Whether a port carries a Yaroz path. -/
def State.ethPath (s : State) (port : Nat) : Bool := (s.fld 0 F.YZF_CFG_ETH_PATHS).testBit port

/-! ### Flows (14 R422) -/

/-- The flows whose KIND is not UNUSED, in flow order. -/
def State.flowsUsed (s : State) : List Nat :=
  (s.regs.filter (fun p => decide (p.1 % regSpan = F.FLW_CFG_KIND.off) && decide (fieldOf p.2 F.FLW_CFG_KIND.lo F.FLW_CFG_KIND.width ≠ 0))).map
    (fun p => p.1 / regSpan)

def State.flowKind (s : State) (f : Nat) : Nat := s.fld f F.FLW_CFG_KIND
def State.flowEasel (s : State) (f : Nat) : Nat := s.fld f F.FLW_CFG_EASEL
def State.flowSub (s : State) (f : Nat) : Nat := 4 * s.fld f F.FLW_CFG_PORT + s.fld f F.FLW_CFG_SUBPORT
def State.flowMac (s : State) (f : Nat) : List Nat := leBytes 4 (s.fld f F.FLW_MAC_LO_MAC) ++ leBytes 2 (s.fld f F.FLW_MAC_HI_MAC)
def State.flowLaunch (s : State) (f : Nat) : Bool := s.flag f F.FLW_CFG_LAUNCH
def State.flowComp (s : State) (f : Nat) : Nat := s.fld f F.FLW_CFG_COMP
def State.flowTx (s : State) (f : Nat) : Bool := decide (s.flowKind f = 2 ∨ s.flowKind f = 4)

/-- The receive key of an RX flow (R425). -/
def State.rxKey (s : State) (f : Nat) : Nat × Nat × Nat × List Nat :=
  (s.flowSub f, s.fld f F.FLW_KEY_VID, if s.flowKind f = 1 then s.fld f F.FLW_KEY_EAXC else 65536, if s.flowKind f = 1 then [] else s.flowMac f)

/-- A flow's granules as its easel counts them are taken from its counts, or added (09 R301, R306). -/
def State.flowCounts (s : State) (f : Nat) (add : Bool) : State :=
  let e := s.flowEasel f
  let m := s.fld f F.FLW_PAL_LIM_MIN
  let h := (s.palQ (flowQ f)).held
  let w := max h m
  let upd := fun (v n : Nat) => if add then v + n else v - n
  ((s.setFld e F.PAL_EAS_HELD_GRANULES (upd (s.fld e F.PAL_EAS_HELD_GRANULES) h)).setFld e F.PAL_EAS_MINSUM_GRANULES (upd (s.fld e F.PAL_EAS_MINSUM_GRANULES) m)).setFld e F.PAL_EAS_WATERMARK_GRANULES
    (upd (s.fld e F.PAL_EAS_WATERMARK_GRANULES) w)

/-- Write a flow's registers from its 64-byte entry (R422, R442). -/
def State.setFlowRegs (s : State) (f : Nat) (d : List Nat) : State :=
  let vl := leAt d 4 2
  let s1 := (s.setFld f F.FLW_CFG_KIND (leAt d 0 1)).setFld f F.FLW_CFG_EASEL (leAt d 1 1)
  let s2 := (s1.setFld f F.FLW_CFG_PORT (leAt d 2 1 % 8)).setFld f F.FLW_CFG_SUBPORT (leAt d 2 1 / 16)
  let s3 := (s2.setFld f F.FLW_CFG_LAUNCH (leAt d 3 1)).setFld f F.FLW_CFG_BCAST (leAt d 3 1 / 2)
  let s4 := ((s3.setFld f F.FLW_CFG_COMP (leAt d 14 1)).setFld f F.FLW_KEY_VID vl).setFld f F.FLW_KEY_PCP (vl / 4096)
  let s5 := ((s4.setFld f F.FLW_KEY_EAXC (leAt d 6 2)).setFld f F.FLW_MAC_LO_MAC (leAt d 8 4)).setFld f F.FLW_MAC_HI_MAC (leAt d 12 2)
  let s6 := (s5.setFld f F.FLW_PAL_LIM_MIN (leAt d 16 2)).setFld f F.FLW_PAL_LIM_CAP (leAt d 18 2)
  (s6.setFld f F.FLW_TIMING_LATE_NS (leAt d 20 2)).setFld f F.FLW_TIMING_NODE (leAt d 22 2)

/-- A flow's counters and histograms start at zero with a new entry. -/
def State.clearFlow (s : State) (f : Nat) : State :=
  let s1 := (((s.setFld f F.FLW_FRAMES_COUNT 0).setReg f F.FLW_RX_DROP_NOBUF.off 0).setReg f F.FLW_TX_DROP_BAD.off 0).setReg f F.FLW_LATE_COUNT.off 0
  let s2 := forUpto 16 (fun i t => (t.setFld f (F.EGS_Q_DHIST_COUNT i) 0).setFld f (F.EGS_Q_LHIST_COUNT i) 0) s1
  (s2.setReg f F.EGS_Q_NOW_DEPTH.off 0).setReg f F.EGS_Q_NOW_DELAY_NS.off 0

/-- Show the flows in use (R440). -/
def State.showFlows (s : State) : State :=
  s.setFld 0 F.FLW_ACTIVE_FLOWS ((s.flowsUsed.filter (fun f => !NSet.has f s.eth.freeing)).length)

/-- A deleted flow's index is free once its queue is empty (02 R51). -/
def State.freeFlow (s : State) (f : Nat) : State :=
  if NSet.has f s.eth.freeing && (s.palQ (flowQ f)).bytes.isEmpty then
    let s1 := (((s.palClear (flowQ f)).flowCounts f false).clearFlow f).setFlowRegs f (List.replicate 64 0)
    { s1 with eth := { s1.eth with freeing := NSet.remove f s1.eth.freeing, checked := NSet.remove f s1.eth.checked } }
  else s

/-- A flow's entry takes effect (02 R50, R51): a deleted flow keeps its old entry until its queue is empty. -/
def State.loadFlow (s : State) (f : Nat) (d : List Nat) : State :=
  if leAt d 0 1 = 0 then
    if s.flowKind f = 0 then s
    else (({ s with eth := { s.eth with freeing := NSet.add f s.eth.freeing } }).freeFlow f).showFlows
  else
    let s1 := if s.flowKind f = 0 then s.clearFlow f else s.flowCounts f false
    ((s1.setFlowRegs f d).flowCounts f true).showFlows

/-! ### Records (14 R427, R429) -/

/-- Bytes of a record with `len` bytes of data. -/
def recLen (len : Nat) : Nat := 32 + alignUp len 16

/-- A received frame's record. -/
def rxRecord (data : List Nat) (flags sub seq stamp : Nat) : List Nat :=
  leBytes 2 data.length ++ leBytes 1 flags ++ leBytes 1 (sub / 4 + 16 * (sub % 4)) ++ leBytes 4 seq ++ leBytes 8 (stamp / 65536) ++ leBytes 2 stamp ++
    leBytes 14 0 ++ padTo (alignUp data.length 16) data

/-- A transmit record. -/
def txRecord (data : List Nat) (launch : Option Nat) (compress : Bool) : List Nat :=
  leBytes 2 data.length ++ leBytes 1 ((if launch.isSome then 1 else 0) + (if compress then 2 else 0)) ++ leBytes 5 0 ++ leBytes 8 (launch.getD 0) ++
    leBytes 16 0 ++ padTo (alignUp data.length 16) data

/-- The head record of a flow when it is readable whole: its bytes, and when it became readable. -/
def State.headRec (s : State) (f : Nat) : Option (List Nat × Nat) :=
  match SMap.get (fun _ => []) s.eth.recs f with
  | [] => none
  | (e, t) :: _ =>
    let q := s.palQ (flowQ f)
    some ((q.bytes.take (e - q.front)).map (· % 256), t)

/-- Append to a flow's queue, in order, the records of the radio pipeline that wait for granules (08 R256). -/
def sendHeld (f : Nat) : List (List Nat) → State → State
  | [], s => { s with eth := { s.eth with hold := SMap.set (fun _ => []) s.eth.hold f [] } }
  | r :: t, s =>
    match s.palAppend (flowQ f) r with
    | some s1 => sendHeld f t s1
    | none => { s with eth := { s.eth with hold := SMap.set (fun _ => []) s.eth.hold f (r :: t) } }

/-- The radio pipeline sends a record on a flow: it is appended once granules can be had, and never left out (08 R256). -/
def State.flowSend (s : State) (f : Nat) (r : List Nat) : State := sendHeld f (SMap.get (fun _ => []) s.eth.hold f ++ [r]) s

/-! ### Fields of a frame -/

/-- Whether a frame carries one 802.1Q tag, its VID, and where its EtherType stands. -/
def tagged (d : List Nat) : Bool := decide (beAt d 12 2 = 0x8100)
def vidOf (d : List Nat) : Nat := if tagged d then beAt d 14 2 % 4096 else 0
def etherAt (d : List Nat) : Nat := if tagged d then 16 else 12
def etherOf (d : List Nat) : Nat := beAt d (etherAt d) 2

/-- Where the eCPRI header starts. -/
def ecpriAt (d : List Nat) : Nat := etherAt d + 2

/-! ### U-plane (08 R259, R260; O-RAN CUS) -/

/-- The timing of a U-plane message: frame, subframe, slot, symbol. -/
structure UTime where
  frame : Nat
  sub : Nat
  slot : Nat
  sym : Nat

/-- The timing header of a U-plane message. -/
def uTime (d : List Nat) : UTime :=
  let h := ecpriAt d + 8
  let w := beAt d (h + 2) 2
  ⟨beAt d (h + 1) 1, w / 4096, w / 64 % 64, w % 64⟩

/-- A U-plane section: its 6 bytes of header, first PRB and PRBs, udCompHdr, the bytes that follow. -/
structure USec where
  hdr : List Nat
  prb : Nat
  num : Nat
  comp : Nat
  body : List Nat

/-- Bytes of a PRB under a udCompHdr: width in bits 7:4 (0 for 16), method in bits 3:0 (0 none, 1 block floating point); none when the device cannot tell. -/
def prbLen (comp : Nat) : Option Nat :=
  let w := if comp / 16 % 16 = 0 then 16 else comp / 16 % 16
  match comp % 16 with
  | 0 => some (3 * w)
  | 1 => some (1 + 3 * w)
  | _ => none

/-- Cut the sections of a U-plane message. `fix` gives the bytes of a PRB where every PRB is CI16; `all` is what numPrbu 0 means. A section whose PRBs run past the
end keeps what is left. -/
def uSecs (fix : Option Nat) (all : Nat) : Nat → List Nat → List USec
  | 0, _ => []
  | n + 1, d =>
    if d.length < 6 then []
    else
      let w := beAt d 0 4
      let num := if w % 256 = 0 then all else w % 256
      let comp := nth 0 d 4
      let body := d.drop 6
      match fix.orElse (fun _ => prbLen comp) with
      | none => [⟨d.take 6, w / 256 % 1024, num, comp, body⟩]
      | some l => ⟨d.take 6, w / 256 % 1024, num, comp, body.take (l * num)⟩ :: uSecs fix all n (body.drop (l * num))

/-- The bits of numbers of `w` bits, the first the highest. -/
def packBits (w : Nat) (vs : List Nat) : Nat := vs.foldl (fun t v => t * 2 ^ w + v % 2 ^ w) 0

/-- The components of a CI16 PRB. -/
def ciVals (d : List Nat) : List Int := (List.range 24).map (fun i => sext 16 (leAt d (2 * i) 2))

/-- The smallest exponent that fits every component into `w` bits (08 R259). -/
def bfpExp (w : Nat) (vs : List Int) : Nat :=
  ((List.range 16).find? (fun e => vs.all (fun v => decide (-(2 : Int) ^ (w - 1 + e) ≤ v ∧ v < (2 : Int) ^ (w - 1 + e))))).getD 15

/-- Compress a CI16 PRB to block floating point with mantissas of `w` bits (08 R259). -/
def bfpCompress (w : Nat) (d : List Nat) : List Nat :=
  let vs := ciVals d
  let e := bfpExp w vs
  let ms := vs.map (fun v => ofInt w (min (rneShiftInt v e) (2 ^ (w - 1) - 1)))
  e :: beBytes (3 * w) (packBits w ms)

/-- Expand a block floating point PRB into CI16 (08 R259): an exponent above the range of R259 leaves the value open. -/
def bfpExpand (w : Nat) (d : List Nat) : List Nat :=
  let e := nth 0 d 0 % 16
  let n := ofBe ((d.drop 1).take (3 * w))
  ((List.range 24).map (fun i =>
    let m := n / 2 ^ (w * (23 - i)) % 2 ^ w
    leBytes 2 (if e ≤ 16 - w then ofInt 16 (sext w m * 2 ^ e) else (Config.bfpOver w e m).toNat))).flatten

/-- Cut bytes into pieces of `n`. -/
def chunks (n : Nat) : Nat → List Nat → List (List Nat)
  | 0, _ => []
  | k + 1, d => d.take n :: chunks n k (d.drop n)

/-- Compress the U-plane sections of a frame (14 R432). -/
def compressFrame (w all : Nat) (d : List Nat) : List Nat :=
  let h := ecpriAt d + 12
  d.take h ++ ((uSecs (some 48) all d.length (d.drop h)).map (fun x =>
    let n := x.body.length / 48
    patch x.hdr 4 [16 * w + 1] ++ ((chunks 48 n x.body).map (bfpCompress w)).flatten ++ x.body.drop (48 * n))).flatten

/-! ### Checks of a transmit record (14 R429 to R432) -/

def hdrLen (r : List Nat) : Nat := leAt r 0 2
def hdrLaunch (r : List Nat) : Nat := leAt r 8 8
def hdrCompress (r : List Nat) : Bool := decide (nth 0 r 2 / 2 % 2 = 1)

/-- The PRBs that numPrbu 0 stands for on a flow: those of the cell it belongs to, else 273 (08 R235). -/
def State.flowPrbs (s : State) (f : Nat) : Nat :=
  match s.cellOfFlow f with
  | some c => s.fld c F.RAD_CELL_CFG_PRBS
  | none => 273

/-- The frame that leaves for a record, from the destination MAC to the end of its payload (R429, R431, R432). -/
def State.txFrame (s : State) (f : Nat) (r : List Nat) : List Nat :=
  let d := (r.drop 32).take (hdrLen r)
  let d1 := if hdrCompress r then compressFrame (s.flowComp f) (s.flowPrbs f) d else d
  let d2 := if tagged d1 then patch d1 14 [nth 0 d1 14 % 32 + 32 * s.fld f F.FLW_KEY_PCP] else d1
  padTo 60 d2

/-- Whether a record is BAD (R430). -/
def State.txBad (s : State) (f : Nat) (r : List Nat) : Bool :=
  decide (hdrLen r < 14 ∨ 12288 < hdrLen r) || decide ((nth 0 r 2 % 2 = 1) ≠ (s.flowLaunch f = true)) || decide (4 ≤ nth 0 r 2) ||
    !((r.drop 3).take 5).all (fun b => decide (b = 0)) || (!s.flowLaunch f && decide (hdrLaunch r ≠ 0)) ||
    !((r.drop 16).take 16).all (fun b => decide (b = 0)) || (hdrCompress r && (decide (s.flowKind f ≠ 2) || decide (s.flowComp f = 0))) ||
    decide (s.fld (s.flowSub f / 4) F.ETH_PORT_CFG_MAX_FRAME < (s.txFrame f r).length + 4)

/-- Whether a record's frame fails the source check (R431). -/
def State.txSpoof (s : State) (f : Nat) (r : List Nat) : Bool :=
  let d := (r.drop 32).take (hdrLen r)
  let tag := decide (vidOf d = s.fld f F.FLW_KEY_VID) && (decide (tagged d = false) || decide (s.fld f F.FLW_KEY_VID ≠ 0))
  let ty := etherOf d
  if s.flowKind f = 2 then
    !(decide (d.take 6 = s.flowMac f) && decide ((d.drop 6).take 6 = s.subMac (s.flowSub f)) && tag && decide (ty = 0xAEFE))
  else
    !(decide ((d.drop 6).take 6 = s.flowMac f) && tag &&
      decide (¬ (ty = s.fld 0 F.YZF_CFG_ETYPE ∨ ty = 0x88F7 ∨ ty = 0x8808 ∨ ty = 0x8809 ∨ ty = 0x88A8 ∨ ty = 0xAEFE)))

/-- The head record of a flow leaves its queue (02 R51; 08 R256). -/
def State.dropHead (s : State) (f : Nat) : State :=
  match s.headRec f with
  | none => s
  | some (r, _) =>
    let s1 := s.palConsume (flowQ f) r.length
    let s2 := { s1 with eth := { s1.eth with checked := NSet.remove f s1.eth.checked, waited := SMap.set (fun _ => []) s1.eth.waited f [] } }
    (sendHeld f (SMap.get (fun _ => []) s2.eth.hold f) s2).freeFlow f

end Sys2Proof.Machine
end

