-- ==== Sys2Proof/Machine/Fapi.lean ====
section
/-! DEFINITION. Machine/Fapi.lean: the FAPI queue pairs (17 R493 to R497): requests taken from the request ring, indications written, held and dropped. -/
namespace Sys2Proof.Machine

open Sys2Proof

/-- A queue pair. -/
def State.fqp (s : State) (q : Nat) : FqSt := SMap.get (fun _ => FqSt.off) s.fq q

/-- Set a queue pair, and show whether indications wait (R510). -/
def State.setFqp (s : State) (q : Nat) (v : FqSt) : State :=
  ({ s with fq := SMap.set (fun _ => FqSt.off) s.fq q v }).setFlag 0 (F.FQ_STATUS_IND_HELD q) (!v.held.isEmpty)

def State.fqOn (s : State) (q : Nat) : Bool := s.flag 0 (F.FQ_RQ_CFG_ENABLE q)
def State.indBase (s : State) (q : Nat) : Nat := s.fld64 0 (F.FQ_IND_BASE_LO_ADDR q) (F.FQ_IND_BASE_HI_ADDR q)
def State.rqBase (s : State) (q : Nat) : Nat := s.fld64 0 (F.FQ_RQ_BASE_LO_ADDR q) (F.FQ_RQ_BASE_HI_ADDR q)
def State.fqLine (s : State) (q : Nat) : Nat := s.fld64 0 (F.FQ_LINE_LO_ADDR q) (F.FQ_LINE_HI_ADDR q)

/-! ### Indications (R494, R496, R501) -/

/-- Bytes of a message with its envelope (R494). -/
def msgLen (n : Nat) : Nat := alignUp (16 + n) 64

/-- Where a message of `n` bytes goes in the indication ring, and the tail after it, when it fits up to IND_HEAD (R494, R496). -/
def State.indPlace (s : State) (q n : Nat) : Option (Nat × Nat) :=
  let size := 2 ^ s.fld 0 (F.FQ_IND_CFG_SIZE q)
  let tail := s.fld 0 (F.FQ_IND_TAIL_OFS q)
  let pad := if size < tail + msgLen n then size - tail else 0
  let at_ := if pad = 0 then tail else 0
  if (tail + size - (s.fqp q).indHead % size) % size + pad + msgLen n < size then some (at_, (at_ + msgLen n) % size) else none

/-- Write one indication: a PAD envelope where it would wrap, the envelope and message, IND_TAIL, and the queue pair's vector (R494, R496, R501). -/
def State.indWrite (s : State) (q : Nat) (m : List Nat) (p : Nat × Nat) : State :=
  let tail := s.fld 0 (F.FQ_IND_TAIL_OFS q)
  let s1 := if p.1 = tail then s else s.hostWrite 0 (s.indBase q + tail) (leBytes 4 0 ++ leBytes 2 1 ++ leBytes 10 0)
  let s2 := s1.hostWrite 0 (s.indBase q + p.1) (leBytes 4 m.length ++ leBytes 2 0 ++ leBytes 10 0 ++ m)
  let s3 := (s2.setFld 0 (F.FQ_IND_TAIL_OFS q) p.2).hostWrite 0 (s.fqLine q + 16) (leBytes 8 p.2)
  (s3.incWrap 0 (F.FQ_MSGS_OUT_COUNT q) 1).fire 0 (8 + q)

/-- Whether the indication ring can be written (R489). -/
def State.indReach (s : State) (q : Nat) : Bool :=
  s.fqOn q && !s.flag 0 (F.FQ_STATUS_BADMSG q) && s.hostUp && s.translates 0 (s.indBase q + s.fld 0 (F.FQ_IND_TAIL_OFS q)) && s.translates 0 (s.fqLine q)

/-- Write held indications in order while there is room (R496). -/
def indRelease (q : Nat) : List (Nat × List Nat) → State → State
  | [], s => s.setFqp q { s.fqp q with held := [] }
  | (c, m) :: r, s =>
    match s.indReach q, s.indPlace q m.length with
    | true, some p => indRelease q r (s.indWrite q m p)
    | _, _ => s.setFqp q { s.fqp q with held := (c, m) :: r }

/-- Post an indication of a cell on a queue pair: written, else held up to 256 KiB, else dropped and counted (R496). -/
def State.postInd (s : State) (q cell : Nat) (m : List Nat) : State :=
  if !s.fqOn q then s
  else
    let v := s.fqp q
    if 262144 < ((v.held.map (fun h => h.2.length)).foldl (· + ·) 0) + m.length then s.incSat 0 (F.FQ_IND_DROP_COUNT q) 1
    else indRelease q (v.held ++ [(cell, m)]) s

/-- Discard the indications held for a cell (R496; 08 R264). -/
def State.dropInds (s : State) (q cell : Nat) : State :=
  s.setFqp q { s.fqp q with held := (s.fqp q).held.filter (fun h => decide (h.1 ≠ cell)) }

/-! ### Requests (R493 to R495) -/

/-- What reading the request ring finds: messages taken, where the next starts, and whether an envelope was bad. -/
structure RqScan where
  count : Nat
  ofs : Nat
  bad : Bool

/-- Take the messages from an offset up to RQ_TAIL (R494). -/
def rqScan (ring : Blob) (size tail : Nat) : Nat → Nat → RqScan
  | 0, o => ⟨0, o, false⟩
  | n + 1, o =>
    if o = tail then ⟨0, o, false⟩
    else
      let len := ring.le o 4
      let fl := ring.le (o + 4) 2
      let lim := if o < tail then tail else size
      if 1 < fl ∨ ring.le (o + 6) 10 ≠ 0 ∨ (fl = 1 ∧ len ≠ 0) then ⟨0, o, true⟩
      else if fl = 1 then (if tail < o then rqScan ring size tail n 0 else ⟨0, o, true⟩)
      else if lim < o + 16 + len then ⟨0, o, true⟩
      else
        let r := rqScan ring size tail n ((o + msgLen len) % size)
        { r with count := r.count + 1 }

/-- A queue pair stops at a bad envelope (R494; 21 R571). -/
def State.fqBad (s : State) (q : Nat) (injected : Bool) : State :=
  (s.setFlag 0 (F.FQ_STATUS_BADMSG q) true).detect 177 0 ukNone q 0 0 sevContained injected

/-- The messages between OFS and the tail that the control line shows, as far as they are whole (17 R494, R495): they become visible, and the head goes back to the
control line. `tail` is the L2's tail; a detected or injected error stops the queue pair. -/
def State.fqTake (s : State) (q tail : Nat) (ring : Blob) : State :=
  let size := 2 ^ s.fld 0 (F.FQ_RQ_CFG_SIZE q)
  let o := (s.fqp q).rq
  let (what, s1) := s.inject 177 0
  let r := if size ≤ tail then ⟨0, o, true⟩ else rqScan ring size tail (size / 64 + 1) o
  let v := s1.fqp q
  let s2 := s1.setFqp q { v with inbox := v.inbox ++ List.replicate r.count s1.nowNs, rq := r.ofs }
  let s3 := ((s2.incWrap 0 (F.FQ_MSGS_IN_COUNT q) r.count).setFld 0 (F.FQ_RQ_HEAD_OFS q) r.ofs).hostWrite 0 (s.fqLine q + 24) (leBytes 8 r.ofs)
  let s4 := s3.countUnits 0 F.CXL_EAS_HOST_RD_UNITS 65536 (64 * r.count)
  if r.bad || what.isSome then s4.fqBad q what.isSome else s4

/-- The control line has been read: indications held back are written as its IND_HEAD allows, and requests up to its RQ_TAIL are taken (17 R493 to R496). -/
def State.fqLineRead (s : State) (q indHead tail : Nat) (ring : Blob) : State :=
  let s1 := (s.setFqp q { s.fqp q with indHead := indHead }).countUnits 0 F.CXL_EAS_HOST_RD_UNITS 65536 64
  let s2 := indRelease q (s1.fqp q).held s1
  if tail = (s2.fqp q).rq then s2
  else if !s2.translates 0 (s2.rqBase q + (s2.fqp q).rq) then (s2.incSat 0 F.CXL_EAS_XLATE_FAULTS 1).usageFault 0 ukNone 0 0 ufTranslation
  else s2.fqTake q tail ring

/-- FAPI_POLL (R495): the device reads the control line and takes every request up to RQ_TAIL; held indications are written as IND_HEAD allows. -/
def execFapiPoll (qp : Fin 64) (line ring : Blob) (s : State) : Res :=
  let q := qp.val
  if !s.fqOn q || s.flag 0 (F.FQ_STATUS_BADMSG q) || !s.hostUp then .next s
  else if !s.translates 0 (s.fqLine q) then .next ((s.incSat 0 F.CXL_EAS_XLATE_FAULTS 1).usageFault 0 ukNone 0 0 ufTranslation)
  else .next (s.fqLineRead q (line.le 8 8) (line.le 0 8) ring)

/-- FQ_ENABLE (R494, R510): PF0 or an Atelier core sets FQ_RQ_CFG.ENABLE; both offsets take the values in the control line. -/
def execFqEnable (req : Requester) (qp : Fin 64) (line : Blob) (s : State) : Res :=
  s.access req (F.FQ_RQ_CFG_ENABLE qp).off (fun _ =>
    let q := qp.val
    if req.manages && !s.fqOn q then
      let s1 := (s.setFlag 0 (F.FQ_RQ_CFG_ENABLE q) true).setFlag 0 (F.FQ_STATUS_BADMSG q) false
      let s2 := (s1.setFld 0 (F.FQ_RQ_HEAD_OFS q) (line.le 24 8)).setFld 0 (F.FQ_IND_TAIL_OFS q) (line.le 16 8)
      .next (s2.setFqp q { FqSt.off with rq := line.le 24 8, indHead := line.le 8 8 })
    else .next s)

/-- A queue pair is disabled: what it holds is dropped (R487, R505). -/
def State.fqDisable (s : State) (q : Nat) : State := (s.setFlag 0 (F.FQ_RQ_CFG_ENABLE q) false).setFqp q FqSt.off

end Sys2Proof.Machine
end

