-- ==== Sys2Proof/Machine/Streams.lean ====
section
/-! DEFINITION. Machine/Streams.lean: stream channels (09): arming, descriptors, threads, the checks of a stroke, its instructions other than MOVE,
waits, errors and halts, completion. -/
namespace Sys2Proof.Machine

open Sys2Proof

/-! ### The channel and what its registers show (R305) -/

def State.chan (s : State) (n : Nat) : Chan := SMap.get (fun _ => Chan.idle) s.str.chans n

/-- A little-endian field of a byte list. -/
def fieldLe (d : List Nat) (o n : Nat) : Nat := ofLe ((d.drop o).take n)

def State.chEasel (s : State) (n : Nat) : Nat := s.fld n F.STR_CH_CFG_EASEL
def State.chEnabled (s : State) (n : Nat) : Bool := s.flag n F.STR_CH_CFG_ENABLED

/-- States of a channel (R305). -/
def chIdle : Nat := 0
def chFetch : Nat := 1
def chRunning : Nat := 2
def chWaitSem : Nat := 3
def chWaitPal : Nat := 4
def chHalted : Nat := 5
def chDraining : Nat := 6

/-- Set a channel, and show PEND, PC and LEFT. -/
def State.setChan (s : State) (n : Nat) (c : Chan) : State :=
  let s1 := { s with str := { s.str with chans := SMap.set (fun _ => Chan.idle) s.str.chans n c } }
  let s2 := (s1.setFlag n F.STR_CH_STATE_PEND c.pend.isSome).setFld n F.STR_CH_STATE_PC (match c.exec with
    | some x => x.pc
    | none => 0)
  s2.setFld n F.STR_CH_STATE_LEFT (match c.run with
    | some r => r.arm.count - r.started
    | none => 0)

/-- Set STR_CH_STATE.STATE. -/
def State.chState (s : State) (n st : Nat) : State := s.setFld n F.STR_CH_STATE_STATE st

/-- The thread count of a panel (R304). -/
def threadFld (panel : Nat) : Fld := if panel = 0 then F.STR_THREADS_W else if panel = 1 then F.STR_THREADS_C else F.STR_THREADS_E

/-- A channel gives up its thread (R271). -/
def State.dropThread (s : State) (n : Nat) : State :=
  let c := s.chan n
  match c.thread with
  | none => s
  | some _ =>
    let f := threadFld (s.fld n F.STR_CH_CFG_PANEL)
    ((s.setChan n { c with thread := none }).setFld n F.STR_CH_STATE_THREAD 0).setFld 0 f (s.fld 0 f - 1)

/-- Outstanding fabric operations of a channel, and of one of its descriptors. -/
def State.chOps (s : State) (n : Nat) : List YzOp :=
  s.yz.ops.filter (fun o => match o.owner with
    | .chan m _ => decide (m = n)
    | .emb _ _ => false)
def State.descOps (s : State) (n d : Nat) : List YzOp := s.yz.ops.filter (fun o => decide (o.owner = .chan n d))

/-! ### Runs (R273, R284, R291, R292) -/

/-- A run as it starts; `base` is the admission number of its first descriptor. -/
def StrRun.start (a : Arm) (base : Nat) (ovr : Bool) : StrRun := ⟨a, base, [], 0, 0, none, false, ovr, false⟩

/-- Start a run on an idle channel: the scoreboard holds its descriptors (10 R333). -/
def State.startRun (s : State) (n : Nat) (a : Arm) (ovr : Bool) : State :=
  let (base, s1) := s.enrollRun (s.chEasel n) a.count
  (s1.setChan n { s1.chan n with run := some (StrRun.start a base ovr), pend := none, pendOver := false }).chState n chFetch

/-- Who armed a run that serves two arms: a run of the slot plan serves the items of both. -/
def ArmBy.join : ArmBy → ArmBy → ArmBy
  | .radio l, .radio m => .radio (l ++ m)
  | _, b => b

/-- Arm a channel: an idle one starts; else the arm is latched, or coalesces with the one pending (R291, R292). -/
def State.armChan (s : State) (n : Nat) (a : Arm) : State :=
  let c := s.chan n
  if c.run.isNone then s.startRun n a false
  else match c.pend with
    | some b => (s.setChan n { c with pend := some { a with origin := b.origin.join a.origin }, pendOver := true }).incSat n F.STR_CH_OVERRUN_COUNT 1
    | none => s.setChan n { c with pend := some a }

/-- Whether a run is over: every descriptor has been started, none is in execution and none drains (R284). -/
def Chan.over (c : Chan) (r : StrRun) : Bool := decide (r.started = r.arm.count) && c.exec.isNone && c.drain.isEmpty

/-- The items of the slot plan that a run serves; none for a run of another origin. -/
def Arm.items (a : Arm) : Option (List Nat) :=
  match a.origin with
  | .radio l => some l
  | _ => none

/-- A run that is over leaves the scoreboard, and one of the slot plan is noted for the radio pipeline; a pending arm then starts (R284, R291; 10 R333). -/
def State.finishRun (s : State) (n : Nat) : State :=
  let c := s.chan n
  match c.run with
  | none => s
  | some r =>
    if c.over r then
      let s0 := match r.arm.items with
        | some l => { s with str := { s.str with finished := s.str.finished ++ [(l, r.bad)] } }
        | none => s
      let s1 := s0.dropRun (s.chEasel n) r.base r.arm.count
      match c.pend with
      | some a => s1.startRun n a c.pendOver
      | none => (s1.setChan n { c with run := none }).chState n chIdle
    else s

/-- The same where the run may be over without a completion, after which the step boundaries are judged (02 R48). -/
def State.closeRun (s : State) (n : Nat) : State :=
  if (s.chan n).run.any (s.chan n).over then (s.finishRun n).judgeBoundary (s.chEasel n) else s

/-! ### Errors (R293, R295; 21 R574) -/

/-- Whether a status halts a patient channel (R286). -/
def haltsPatient (st : Nat) : Bool := decide (st = stOutOfShare ∨ st = stDead ∨ st = stFence ∨ st = stFetch)

/-- The fault of an error status: a refusal beyond a share is a usage fault of its own, a dead target and a fence were reported by their detectors,
every other status is CHANNEL_FAULT (21 R574). -/
def State.chanReport (s : State) (n status addr : Nat) : State :=
  let e := s.chEasel n
  if status = stOutOfShare then (s.incSat e F.MEM_EAS_FAULTS_OOS 1).usageFault e ukChannel n addr ufOutOfShare
  else if status = stDead ∨ status = stFence then s
  else s.usageFault e ukChannel n 0 ufChannelFault

/-- Record an error in the channel's fault registers (R293, R295, R305). -/
def State.chanFaultRegs (s : State) (n status pc desc addr : Nat) : State :=
  (((s.setFld n F.STR_CH_FAULT_STATUS status).setFld n F.STR_CH_FAULT_PC pc).setFld n F.STR_CH_FAULT_DESC desc).setFld64 n
    F.STR_CH_FAULT_ADDR_LO_ADDR F.STR_CH_FAULT_ADDR_HI_ADDR addr

/-- A descriptor as it drains. -/
def StrExec.done (x : StrExec) : StrDone := ⟨x.desc, x.index, x.status, x.stPc, x.bytes, x.halted, x.skipped⟩

/-- A channel leaves HALTED. -/
def State.unhalt (s : State) (n : Nat) : State :=
  if (s.chan n).halt.isSome then (s.setChan n { s.chan n with halt := none }).setFld 0 F.STR_HALTED_COUNT (s.fld 0 F.STR_HALTED_COUNT - 1) else s

/-- What a channel does after its descriptor has left execution: the next one in hand makes it ready, else it fetches or drains (R284). -/
def State.nextDesc (s : State) (n : Nat) : State :=
  let s1 := s.dropThread n
  match (s1.chan n).run with
  | none => s1.chState n chIdle
  | some r =>
    if !r.hand.isEmpty then (s1.chState n chFetch).makeReady n
    else if r.started = r.arm.count then s1.chState n chDraining
    else s1.chState n chFetch

/-- Descriptors of an ended run that are in hand complete at once with ABORTED, without starting (R293). -/
def State.abortHand (s : State) (n : Nat) : State :=
  let c := s.chan n
  match c.run with
  | some r =>
    if r.ending.isSome then
      let ds := r.hand.zipIdx.map (fun p => (⟨p.1, r.started + p.2, stAborted, 0xFF, 0, false, false⟩ : StrDone))
      let s1 := s.setChan n { c with run := some { r with hand := [], started := r.started + r.hand.length }, drain := c.drain ++ ds }
      if r.started + r.hand.length = r.arm.count then s1.chState n chDraining else s1
    else s
  | none => s

/-- The descriptor that a status ends: the one in execution, else the next of the run, which an error of its fetch may leave unread (R286, R293): `h` says that the channel halted
there. With ABORTED only a descriptor in execution ends so; the others follow as later ones. -/
def Chan.endDesc (c : Chan) (r : StrRun) (status pc : Nat) (h : Bool) : List StrDone × StrRun :=
  match c.exec with
  | some x => ([{ x.done with status := status, stPc := pc }], r)
  | none =>
    if status = stAborted ∨ r.started = r.arm.count then ([], r)
    else ([⟨r.hand.headD [], r.started, status, pc, 0, h, false⟩], { r with hand := r.hand.tail, started := r.started + 1, fetched := max r.fetched (r.started + 1) })

/-- End the descriptor in execution with a status and the run with it: later descriptors complete with ABORTED, and the channel waits for nothing (R293). -/
def State.endRun (s : State) (n status pc : Nat) : State :=
  let h := (s.chan n).halt.isSome
  let s1 := (s.unhalt n).dropTakes (.channel n)
  let c := s1.chan n
  match c.run with
  | none => s1
  | some r =>
    let (ds, r1) := c.endDesc r status pc h
    let s2 := s1.setChan n { c with exec := none, drain := c.drain ++ ds, run := some { r1 with ending := some stAborted }, failed := [] }
    (({ s2 with str := { s2.str with ready := s2.str.ready.filter (fun m => decide (m ≠ n)) } }).abortHand n).nextDesc n

/-- A patient channel halts (R295): it gives up its thread, and its state is HALTED. -/
def State.haltChan (s : State) (n status : Nat) : State :=
  let c := s.chan n
  let s1 := (s.setChan n { c with halt := some status }).dropThread n
  (if c.halt.isNone then s1.setFld 0 F.STR_HALTED_COUNT (s1.fld 0 F.STR_HALTED_COUNT + 1) else s1).chState n chHalted

/-- A descriptor meets an error status (R293, R295). -/
def State.chanError (s : State) (n status pc addr : Nat) : State :=
  let idx := match (s.chan n).exec with
    | some x => x.index
    | none => match (s.chan n).run with
      | some r => r.started
      | none => 0
  let s1 := (s.chanFaultRegs n status (pc % 32) idx addr).chanReport n status addr
  if s.flag n F.STR_CH_CFG_PATIENT && haltsPatient status then
    (s1.setChan n { s1.chan n with exec := (s1.chan n).exec.map (fun x => { x with halted := true }) }).haltChan n status
  else s1.endRun n status pc

/-- Change the descriptor in execution. -/
def State.setExec (s : State) (n : Nat) (x : StrExec) : State := s.setChan n { s.chan n with exec := some x }

/-! ### Commands on a channel (R273, R291, R296, R303) -/

/-- Whether a requester may command a channel: a VF its own easel's, PF0 easel 0's (R303, 00 R10). -/
def State.mayCommand (s : State) (req : Requester) (n : Nat) : Bool :=
  s.chEnabled n && (match req with
    | .vf v => decide (s.chEasel n = v.val)
    | _ => decide (s.chEasel n = 0))

/-- STR_CH_CTRL.ARM (R273, R291). -/
def execChannelArm (req : Requester) (s : State) : Res :=
  s.access req F.STR_CH_CTRL_ARM.off (fun ch =>
    let count := s.fld ch F.STR_CH_ARM_CNT_COUNT
    if s.mayCommand req ch && decide (count ≠ 0) then
      .next (s.armChan ch ⟨s.fld64 ch F.STR_CH_ARM_ADDR_LO_ADDR F.STR_CH_ARM_ADDR_HI_ADDR, count, s.flag ch F.STR_CH_ARM_CNT_SPACE, .register⟩)
    else .next s)

/-- The failing request goes again: the channel becomes ready, and failed fabric operations are issued again (R296). -/
def State.resume (s : State) (n : Nat) : State :=
  let fs := (s.chan n).failed
  let s1 := (s.unhalt n).setChan n { (s.unhalt n).chan n with failed := [] }
  let s2 := forEach fs (fun o t => t.yzIssue o.easel o.owner o.slot o.rank o.op o.dest o.mcast) s1
  let s3 := s2.yzFlush
  if (s3.chan n).exec.isSome || (s3.chan n).run.any (fun r => !r.hand.isEmpty) then (s3.chState n chFetch).makeReady n
  else
    let last := (s3.chan n).run.any (fun r => decide (r.started = r.arm.count))
    s3.chState n (if last then chDraining else chFetch)

/-- STR_CH_CTRL.RESUME (R296). -/
def execChannelResume (req : Requester) (s : State) : Res :=
  s.access req F.STR_CH_CTRL_ARM.off (fun ch =>
    .next (if s.mayCommand req ch && (s.chan ch).halt.isSome then s.resume ch else s))

/-- The request after the failing run: the next run of a MOVE, the instruction after a FENCE or SSIG (R296). The bytes of a skipped run do not count (R285). -/
def StrExec.skip (x : StrExec) : StrExec :=
  match x.stroke[x.pc]? with
  | some i =>
    if i.op = 5 then { x with reqs := (x.reqs / 2 ^ 17 + 1) * 2 ^ 17, bytes := x.bytes - x.reqs % 2 ^ 17, skipped := true }
    else if i.op = 9 ∨ i.op = 10 then { x with pc := x.pc + 1, skipped := true } else { x with skipped := true }
  | none => { x with skipped := true }

/-- The bytes that a fabric operation writes (13 R394, R395). -/
def YzOp.writes (o : YzOp) : Nat := if o.op.opc = 3 then (if o.op.flags / 16 % 2 = 1 then 8 else 4) else o.op.len

/-- Bytes of the failed operations of a descriptor, and whether there are any (R285, R296). -/
def Chan.failedBytes (c : Chan) (n d : Nat) : Nat := ((c.failed.filter (fun o => decide (o.owner = .chan n d))).map YzOp.writes).foldl (· + ·) 0
def Chan.failedOf (c : Chan) (n d : Nat) : Bool := c.failed.any (fun o => decide (o.owner = .chan n d))

/-- The channel after SKIP (R296): the failing run counts as done; failed fabric operations are dropped from the descriptors they belong to. -/
def Chan.skip (c : Chan) (n : Nat) : Chan :=
  if c.failed.isEmpty then { c with exec := c.exec.map StrExec.skip }
  else { c with
    exec := c.exec.map (fun x => { x with skipped := x.skipped || c.failedOf n x.index, bytes := x.bytes - c.failedBytes n x.index })
    drain := c.drain.map (fun x => { x with skipped := x.skipped || c.failedOf n x.index, bytes := x.bytes - c.failedBytes n x.index })
    failed := [] }

/-- STR_CH_CTRL.SKIP (R296). -/
def execChannelSkip (req : Requester) (s : State) : Res :=
  s.access req F.STR_CH_CTRL_ARM.off (fun ch =>
    let c := s.chan ch
    if s.mayCommand req ch && c.halt.isSome then .next ((s.setChan ch (c.skip ch)).resume ch)
    else .next s)

/-- STR_CH_CTRL.ABORT: a halted run ends with the halting status, any other running run with ABORTED; PF0 may abort any channel (R296, R303). -/
def State.abortChan (s : State) (req : Requester) (n : Nat) : State :=
  let c := s.chan n
  if (req.manages || s.mayCommand req n) && c.run.isSome then
    if c.run.any (fun r => decide (r.arm.origin = .engine)) then
      ((s.setChan n { c with run := c.run.map (fun r => { r with started := r.arm.count }) }).finishRun n).judgeBoundary (s.chEasel n)
    else (s.endRun n (c.halt.getD stAborted) (c.exec.elim 0xFF (·.pc))).closeRun n
  else s

/-- A write of STR_CH_SEM: both counts are set, and waiting takes are served (R287, R303). -/
def execSemaphoreSet (req : Requester) (value : BitVec 32) (s : State) : Res :=
  s.access req F.STR_CH_SEM_FULL.off (fun ch =>
    if s.mayCommand req ch then
      let s1 := (s.setFld ch F.STR_CH_SEM_FULL (value.toNat % 65536)).setFld ch F.STR_CH_SEM_EMPTY (value.toNat / 65536)
      .next ((s1.serveSem (2 * ch)).serveSem (2 * ch + 1))
    else .next s)

/-- SEMAPHORE_SIGNAL_ARRIVAL (R287 to R289): a signal on its way to semaphore `sem` reaches its count; signals to different links take different times. -/
def execSemaphoreSignalArrival (sem : BitVec 12) (s : State) : Res :=
  if s.sched.signals.contains sem.toNat then
    .next (({ s with sched := { s.sched with signals := s.sched.signals.erase sem.toNat } }).landSignal sem.toNat)
  else .next s

/-! ### Descriptors (R273, R274) -/

/-- The next burst: up to 16 descriptors of those left (R273). -/
def StrRun.burst (r : StrRun) : Nat := min 16 (r.arm.count - r.fetched)

/-- Cut bytes into descriptors of 64. -/
def cut64 : Nat → List Nat → List (List Nat)
  | 0, _ => []
  | n + 1, bs => bs.take 64 :: cut64 n (bs.drop 64)

/-- A burst of descriptors that cannot be read: the channel meets the error once the descriptors before it are done (R293); in an ended run its descriptors complete with ABORTED. Model's choice: notes/assumptions/157.md. -/
def State.burstFailed (s : State) (n k status addr : Nat) : State :=
  let c := s.chan n
  match c.run with
  | none => s
  | some r =>
    if r.ending.isSome then (s.setChan n { c with run := some { r with hand := r.hand ++ List.replicate k [], fetched := r.fetched + k } }).abortHand n
    else if c.exec.isSome ∨ !r.hand.isEmpty then s
    else s.chanError n status 0xFF addr

/-- A burst of descriptors arrives from bonded memory, or in `host` for a run in host memory; it may be that it cannot be read (R273). -/
def State.burstDone (s : State) (ch : Nat) (host : Blob) (fail : Bool) : State :=
  let e := s.chEasel ch
  match (s.chan ch).run with
  | none => s
  | some r =>
    let k := r.burst
    if k = 0 ∨ 4 < r.hand.length ∨ (s.chan ch).halt.isSome then s
    else
      let a := r.arm.addr + 64 * r.fetched
      let p : Place := ⟨if r.arm.host then spHost else spBonded, 0, a, 64 * k⟩
      let m := s.spRead (s.chanReader e ch) e p ((List.range (64 * k)).map host.byte) none
      if r.arm.host && fail then s.burstFailed ch k stFetch a
      else if m.status ≠ stOk ∧ m.status ≠ stPoison then m.st.burstFailed ch k m.status a
      else
        let ds := cut64 k (m.bytes.map (· % 256))
        let c := m.st.chan ch
        let s1 := m.st.setChan ch { c with run := some { r with hand := r.hand ++ ds, fetched := r.fetched + k } }
        if r.ending.isSome then s1.abortHand ch
        else if (s1.chan ch).exec.isNone ∧ s1.fld ch F.STR_CH_STATE_STATE = chFetch then s1.makeReady ch else s1

/-! ### Threads (R271, R327, R328) -/

/-- Whether a full completion ring or a state of its easel keeps a channel from taking a thread (10 R336; 18 R513). -/
def State.heldByRing (s : State) (n : Nat) : Bool :=
  let e := s.chEasel n
  s.cqHeld e && (decide (e ≠ 0) || (s.chan n).run.any (fun r => decide (r.arm.origin = .ring)))

/-- Channels of a panel ready for a thread, in order, those a full ring holds left out. -/
def State.readyOn (s : State) (panel : Nat) : List Nat :=
  s.str.ready.filter (fun n => decide (s.fld n F.STR_CH_CFG_PANEL = panel) && !s.heldByRing n)

/-- The channel of a panel that takes the next thread: easel 0's first, tenants' in the order they became ready (R271). -/
def State.nextForThread (s : State) (panel : Nat) : Option Nat :=
  match (s.readyOn panel).find? (fun n => decide (s.chEasel n = 0)) with
  | some n => some n
  | none => (s.readyOn panel).head?

/-- Channels of a panel that hold a thread. -/
def State.holders (s : State) (panel : Nat) : List Nat :=
  (s.str.chans.filter (fun p => p.2.thread.isSome && decide (s.fld p.1 F.STR_CH_CFG_PANEL = panel))).map (·.1)

/-- Whether a channel's stroke stands at SSIG or FENCE. -/
def State.atFence (s : State) (n : Nat) : Bool :=
  match (s.chan n).exec with
  | some x => (match x.stroke[x.pc]? with
    | some i => decide (i.op = 9 ∨ i.op = 10)
    | none => false)
  | none => false

/-- Whether a channel waits at SSIG or FENCE for fabric operations only (R327). -/
def State.remoteWait (s : State) (n : Nat) : Bool := s.atFence n && !(s.chOps n).isEmpty

/-- The park-table field of a panel (10 R338). -/
def parkFld (panel : Nat) : Fld := if panel = 0 then F.SCH_PARK_USE0_W else if panel = 1 then F.SCH_PARK_USE0_C else F.SCH_PARK_USE1_E

/-- Channels of a panel that wait after END for fabric operations only, and are not parked (R327). They hold no thread any more (09 R271). Model's choice: notes/assumptions/158.md. -/
def State.endWaits (s : State) (panel : Nat) : List Nat :=
  (s.str.chans.filter (fun p => decide (s.fld p.1 F.STR_CH_CFG_PANEL = panel ∧ s.fld p.1 F.STR_CH_STATE_STATE = chDraining) && p.2.exec.isNone && !p.2.drain.isEmpty &&
    !p.2.parked && !(s.chOps p.1).isEmpty)).map (·.1)

/-- Park a remote wait: its thread is freed, and STR_CH_STATE shows `st` (R327). A full park table is counted instead. -/
def State.parkWait (s : State) (n st : Nat) : State :=
  let f := parkFld (s.fld n F.STR_CH_CFG_PANEL)
  if 1024 ≤ s.fld 0 f then s.incSat 0 F.SCH_PARK_FULL_COUNT 1
  else
    let s1 := ((s.setChan n { s.chan n with parked := true }).dropThread n).setFld 0 f (s.fld 0 f + 1)
    (s1.setFld (s.chEasel n) F.EAS_STATUS_PARKED (s1.fld (s.chEasel n) F.EAS_STATUS_PARKED + 1)).chState n st

/-- A channel leaves the park table (R328). -/
def State.unpark (s : State) (n : Nat) : State :=
  if (s.chan n).parked then
    let f := parkFld (s.fld n F.STR_CH_CFG_PANEL)
    let e := s.chEasel n
    ((s.setChan n { s.chan n with parked := false }).setFld 0 f (s.fld 0 f - 1)).setFld e F.EAS_STATUS_PARKED (s.fld e F.EAS_STATUS_PARKED - 1)
  else s

/-- PARKED_WAIT_DONE (R328): the last operation of a parked channel has completed; one with a stroke to go on with becomes ready. -/
def execParkedWaitDone (ch : Fin 2048) (s : State) : Res :=
  .next (if (s.chan ch).parked && (s.chOps ch).isEmpty then (if (s.chan ch).exec.isSome then (s.unpark ch).makeReady ch else s.unpark ch) else s)

/-- Whether one more thread may go to a channel: RADIO_THREADS threads of each panel serve easel 0 only (R271). -/
def State.threadQuota (s : State) (n : Nat) : Bool :=
  decide (s.chEasel n = 0) ||
    decide (((s.holders (s.fld n F.STR_CH_CFG_PANEL)).filter (fun m => decide (s.chEasel m ≠ 0))).length + s.fld 0 F.STR_RADIO_THREADS_COUNT < 64)

/-- THREAD_TAKE (R271): a ready channel takes thread `thread`. When no thread is free for it, a remote wait that holds the thread is parked first, and so are those after END
(R327). -/
def execThreadTake (ch : Fin 2048) (thread : Fin 64) (s : State) : Res :=
  let panel := s.fld ch F.STR_CH_CFG_PANEL
  if s.nextForThread panel = some ch.val ∧ (s.chan ch).thread.isNone ∧ (s.chan ch).halt.isNone then
    let holder := (s.holders panel).find? (fun m => decide ((s.chan m).thread = some thread.val))
    let none_free := !decide ((s.holders panel).length < 64) || !s.threadQuota ch
    let s0 := if none_free then forEach (s.endWaits panel) (fun m (t : State) => t.parkWait m chDraining) s else s
    let s1 := match holder with
      | some m => if none_free && s.remoteWait m then s0.parkWait m chWaitSem else s0
      | none => s0
    if (s1.holders panel).all (fun m => decide ((s1.chan m).thread ≠ some thread.val)) && s1.threadQuota ch then
      let s2 := { s1 with str := { s1.str with ready := s1.str.ready.filter (fun m => decide (m ≠ ch.val)) } }
      let f := threadFld panel
      .next ((((s2.setChan ch { s2.chan ch with thread := some thread.val }).setFld ch F.STR_CH_STATE_THREAD thread).setFld 0 f
        (s2.fld 0 f + 1)).chState ch chRunning)
    else .next s1
  else .next s

/-! ### The stroke and its checks (R276 to R279) -/

/-- Decode an instruction's 16 bytes (R278). -/
def sinstrOf (b : List Nat) : SInstr := ⟨fieldLe b 0 1, fieldLe b 1 1, fieldLe b 2 2, fieldLe b 4 4, fieldLe b 8 4, fieldLe b 12 4⟩

/-- The bits of A that an instruction uses, and which of B, C, D and E it uses (R279). -/
def sinstrUse (op : Nat) : Option (Nat × Bool × Bool × Bool × Bool) :=
  match op with
  | 0x01 => some (0x37, false, true, true, true)
  | 0x02 => some (0, false, true, false, false)
  | 0x03 => some (1, false, true, false, false)
  | 0x04 => some (0x1F, true, false, false, false)
  | 0x05 => some (1, false, false, false, false)
  | 0x06 => some (1, false, true, true, false)
  | 0x07 => some (0x30, true, true, false, false)
  | 0x08 => some (1, true, false, false, false)
  | 0x09 => some (1, true, false, false, false)
  | 0x0A => some (0, false, false, false, false)
  | 0x0B => some (0, true, true, false, false)
  | 0x0F => some (0, false, false, false, false)
  | _ => none

/-- Whether an instruction is well formed: a known opcode, unused fields zero, a dimension of 0 to 5, B of a link or channel within 11 bits
(R276, R278, R279). -/
def SInstr.ok (i : SInstr) : Bool :=
  match sinstrUse i.op with
  | none => false
  | some (am, ub, uc, ud, ue) =>
    decide (i.a ||| am = am) && (ub || decide (i.b = 0)) && (uc || decide (i.c = 0)) && (ud || decide (i.d = 0)) && (ue || decide (i.e = 0)) &&
      (decide (i.op ≠ 1 ∧ i.op ≠ 4) || decide (i.a % 8 < 6)) && (decide (i.op ≠ 8 ∧ i.op ≠ 9 ∧ i.op ≠ 11) || decide (i.b < 2048))

/-- The instructions up to END, among the first 32 (R276). -/
def upToEnd : Nat → List SInstr → Option (List SInstr)
  | 0, _ => none
  | _, [] => none
  | n + 1, i :: r => if i.op = 0x0F then some [i] else (upToEnd n r).map (fun t => i :: t)

/-- LOOP ranges: each target is an earlier instruction, and no two ranges cross (R276). -/
def loopsOk (is : List SInstr) : Bool :=
  let ls := (is.zipIdx.filter (fun p => decide (p.1.op = 7))).map (fun p => (p.1.b, p.2))
  ls.all (fun l => decide (l.1 < l.2)) &&
    ls.all (fun l => ls.all (fun m => !decide (l.1 < m.1 ∧ m.1 ≤ l.2 ∧ l.2 < m.2)))

/-- Check a stroke (R276). -/
def strokeOk (is : List SInstr) : Bool := is.all SInstr.ok && loopsOk is

/-- Where a library's stroke lies in the RADIO_CODE payload: the entry whose position is `idx`, walking the library's entries (R277). -/
def libEntry (b : Blob) : Nat → Nat → Nat → Option (Nat × Nat)
  | 0, _, _ => none
  | n + 1, off, idx => if idx = 0 then some (off + 16, b.le (off + 2) 1) else libEntry b n (off + 16 + 16 * b.le (off + 2) 1) (idx - 1)

/-- The bytes of a library stroke (R277; 07 R229). -/
def libStroke (b : Blob) (lib idx : Nat) : Option (List Nat) :=
  let n := b.le 0 2 + b.le 2 2
  match (List.range n).find? (fun i => decide (b.le (64 + 32 * i) 1 = 2 ∧ b.le (64 + 32 * i + 2) 2 = lib)) with
  | none => none
  | some i =>
    let base := b.le (64 + 32 * i + 4) 4
    if idx < b.le base 2 then
      (libEntry b (idx + 1) (base + 16) idx).map (fun p => (List.range (16 * p.2)).map (fun j => b.byte (p.1 + j)))
    else none

/-- Cut bytes into instructions. -/
def cutInstrs : Nat → List Nat → List SInstr
  | 0, _ => []
  | n + 1, bs => if bs.length < 16 then [] else sinstrOf (bs.take 16) :: cutInstrs n (bs.drop 16)

/-- The canvas payload of a section type in force (02 R26). -/
def State.section (s : State) (type : Nat) : Blob := SMap.get (fun _ => ⟨0, []⟩) s.cvs.live type

/-! ### A descriptor's fields (R274) -/

def StrExec.flags (x : StrExec) : Nat := fieldLe x.desc 2 2
def StrExec.lib (x : StrExec) : Bool := x.flags.testBit 0
def StrExec.srcSpace (x : StrExec) : Nat := fieldLe x.desc 8 1
def StrExec.dstSpace (x : StrExec) : Nat := fieldLe x.desc 9 1
def StrExec.idxSpace (x : StrExec) : Nat := fieldLe x.desc 0x0A 1
def StrExec.srcTarget (x : StrExec) : Nat := fieldLe x.desc 0x0C 4
def StrExec.dstTarget (x : StrExec) : Nat := fieldLe x.desc 0x10 4
def StrExec.idxTarget (x : StrExec) : Nat := fieldLe x.desc 0x14 4
def StrExec.srcBase (x : StrExec) : Nat := fieldLe x.desc 0x18 8
def StrExec.dstBase (x : StrExec) : Nat := fieldLe x.desc 0x20 8
def StrExec.idxBase (x : StrExec) : Nat := fieldLe x.desc 0x28 8
def StrExec.param (x : StrExec) (a : Nat) (c : Nat) : Nat :=
  if a.testBit 4 then (if a.testBit 5 then fieldLe x.desc 0x34 4 else fieldLe x.desc 0x30 4) else c
def StrExec.waitWord (x : StrExec) : Nat := fieldLe x.desc 0x38 2
def signalWord (d : List Nat) : Nat := fieldLe d 0x3A 2
def linkOf (w : Nat) : Nat := w % 2048
def linkSem (w : Nat) : Nat := semId (w % 2048) (w.testBit 12)

/-- Every reserved byte and bit of a descriptor is zero (R274). -/
def StrExec.reservedZero (x : StrExec) : Bool :=
  decide (x.flags < 8 ∧ fieldLe x.desc 0x0B 1 = 0 ∧ fieldLe x.desc 0x3C 4 = 0 ∧ x.waitWord < 8192 ∧ signalWord x.desc < 8192)

/-- AOP, W64, FETCH and MCAST of a FABRIC target (13 R391). -/
def aopField (t : Nat) : Nat := t / 2 ^ 18 % 16
def w64Field (t : Nat) : Bool := t.testBit 22
def fetchField (t : Nat) : Bool := t.testBit 23
def mcastField (t : Nat) : Bool := t.testBit 31

/-- The check of a FABRIC side (13 R387, R391, R393, R407; 18 R523). -/
def State.fabricCheck (s : State) (e : Nat) (dst : Bool) (target base src : Nat) : Nat :=
  if target / 2 ^ 24 % 128 ≠ 0 ∨ 2 ^ 46 ≤ base ∨ 6 < aopField target then stShape
  else if !dst && decide (aopField target ≠ 0 ∨ w64Field target = true ∨ fetchField target = true ∨ mcastField target = true) then stShape
  else if mcastField target && decide (aopField target ≠ 0 ∨ target / 64 % 64 ≠ 0) then stShape
  else if fetchField target && decide (src ≠ spBonded ∧ src ≠ spScratch ∧ src ≠ spDmem) then stShape
  else match s.jobOf e with
    | none => stSpace
    | some j =>
      if s.tombstone j then stSpace
      else if mcastField target then (if s.flag e F.YZF_EAS_STATUS_MCAST then stOk else stSpace)
      else if s.fld 0 (F.YZF_JOB_RANKS_COUNT j) ≤ target % 4096 then stSpace else stOk

/-- Whether a target is a flow that a retouch has deleted: it admits nothing more (02 R51). -/
def State.deletedFlow (s : State) (space target : Nat) : Bool := decide (space = spPalette ∧ 0x2000 ≤ target) && NSet.has (target - 0x2000) s.eth.freeing

/-- The checks of a descriptor before its stroke runs (R274, R275, R282; 13 R391), OK when it passes. -/
def State.descCheck (s : State) (e : Nat) (x : StrExec) : Nat :=
  if !x.reservedZero then stOpcode
  else if x.lib && decide (e ≠ 0) then stOpcode
  else if x.srcSpace = spFabric ∧ x.dstSpace = spFabric then stSpace
  else if x.dstSpace = spNone ∨ !s.targetOk e x.srcSpace x.srcTarget ∨ !s.targetOk e x.dstSpace x.dstTarget ∨ s.deletedFlow x.dstSpace x.dstTarget then stSpace
  else if x.idxSpace = spPalette ∨ x.idxSpace = spFabric ∨ !s.targetOk e x.idxSpace x.idxTarget then stSpace
  else if x.srcSpace = spFabric ∧ s.fabricCheck e false x.srcTarget x.srcBase x.srcSpace ≠ stOk then
    s.fabricCheck e false x.srcTarget x.srcBase x.srcSpace
  else if x.dstSpace = spFabric ∧ s.fabricCheck e true x.dstTarget x.dstBase x.srcSpace ≠ stOk then
    s.fabricCheck e true x.dstTarget x.dstBase x.srcSpace
  else if (x.srcSpace ≠ spPalette ∧ x.srcBase % 4 ≠ 0) ∨ (x.dstSpace ≠ spPalette ∧ x.dstBase % 4 ≠ 0) ∨ x.idxBase % 4 ≠ 0 then stAlign
  else if (x.waitWord.testBit 11 && !s.ownsLink e (linkOf x.waitWord)) || ((signalWord x.desc).testBit 11 &&
      !s.ownsLink e (linkOf (signalWord x.desc))) then stSem
  else stOk

/-- A side with nothing set (R280). -/
def Side.zero : Side := ⟨[0, 0, 0, 0, 0, 0], 0, 0, none⟩

/-- A descriptor as it begins. -/
def StrExec.begin (d : List Nat) (index : Nat) : StrExec :=
  ⟨d, index, [], 0, [1, 1, 1, 1, 1, 1], 0, Side.zero, Side.zero, [], 0, stOk, 0xFF, 0, false, false, false, false⟩

/-- Take the next descriptor in hand into execution (R284). -/
def State.beginDesc (s : State) (n : Nat) : State :=
  let c := s.chan n
  match c.exec, c.run with
  | none, some r =>
    (match r.hand with
      | [] => s
      | d :: t => s.setChan n { c with exec := some (StrExec.begin d r.started), run := some { r with hand := t, started := r.started + 1 } })
  | _, _ => s

/-- The bytes of the stroke a descriptor names: a library's, or up to 512 bytes of bonded memory; only the part up to END must lie in the share
(R276, R277). -/
def State.strokeBytes (s : State) (n e : Nat) (x : StrExec) : Option (List Nat) :=
  let w := fieldLe x.desc 4 4
  if x.lib then libStroke (s.section 0x000B) (w / 65536) (w % 65536)
  else some (s.viewOf (s.chanReader e n) e (256 * w) (s.readBytes (bondKey e (256 * w)) 512))

/-- A descriptor's stroke is fetched and checked; its WAIT is taken first, and is used up once the stroke can run, so that a channel that halts here does not take it again
(R274, R276, R296). -/
def State.strokeStart (s0 : State) (n : Nat) (ecc : Option EccEvent) : State :=
  let s := s0.beginDesc n
  let e := s.chEasel n
  match (s.chan n).exec with
  | none => s
  | some x =>
    if x.started then s
    else
      let st := s.descCheck e x
      if st ≠ stOk then s.chanError n st 0xFF 0
      else
        let need := x.waitWord.testBit 11
        let s1 := if need && !s.takeGranted (.channel n) then s.sendTake (linkSem x.waitWord) (.channel n) else s
        if need && !s1.takeGranted (.channel n) then (s1.chState n chWaitSem).dropThread n
        else
          match s1.strokeBytes n e x with
          | none => s1.chanError n stOpcode 0xFF 0
          | some bs =>
            match upToEnd 32 (cutInstrs 32 bs) with
            | none =>
              if !x.lib && !s1.inShare e (256 * fieldLe x.desc 4 4) 512 then s1.chanError n stOutOfShare 0xFF (256 * fieldLe x.desc 4 4)
              else s1.chanError n stOpcode 0xFF 0
            | some is =>
              let a := 256 * fieldLe x.desc 4 4
              if !x.lib && !s1.inShare e a (16 * is.length) then s1.chanError n stOutOfShare 0xFF a
              else
                let m := if x.lib then ⟨.ok, [], s1⟩ else s1.bondLoad e a (16 * is.length) stPoison ecc
                if m.status = .poison then m.st.chanError n stPoison 0xFF a
                else if !strokeOk is then m.st.chanError n stOpcode 0xFF 0
                else (m.st.useTake (.channel n)).setExec n { x with stroke := is, started := true }

/-- STROKE_START: a channel with a thread starts its descriptor's stroke. -/
def execStrokeStart (ch : Fin 2048) (ecc : Option EccEvent) (s : State) : Res :=
  .next (if (s.chan ch).thread.isSome then s.strokeStart ch ecc else s)

/-! ### Instructions other than MOVE (R279) -/

/-- Run an instruction: the channel must hold a thread, its stroke must have started, and the current instruction must be of this opcode. -/
def State.runInstr (s : State) (n op : Nat) (f : State → StrExec → SInstr → State) : State :=
  match (s.chan n).thread, (s.chan n).exec with
  | some _, some x =>
    (match x.started, x.stroke[x.pc]? with
      | true, some i => if i.op = op then f s x i else s
      | _, _ => s)
  | _, _ => s

/-- Go on with the next instruction. -/
def StrExec.step (x : StrExec) : StrExec := { x with pc := x.pc + 1 }

/-- A stride: 32 bits, signed. -/
def stride (v : Nat) : Int := sext 32 v

/-- DIM (R279, R282). -/
def execDim (ch : Fin 2048) (s : State) : Res :=
  .next (s.runInstr ch 1 (fun t x i =>
    let d := i.a % 8
    if i.d % 4 ≠ 0 ∨ i.e % 4 ≠ 0 then t.chanError ch stAlign x.pc 0
    else t.setExec ch { x.step with
      counts := x.counts.set d (x.param i.a i.c)
      src := { x.src with strides := x.src.strides.set d (stride i.d) }
      dst := { x.dst with strides := x.dst.strides.set d (stride i.e) } }))

/-- RUN (R279, R282). -/
def execStrokeRun (ch : Fin 2048) (s : State) : Res :=
  .next (s.runInstr ch 2 (fun t x i =>
    if i.c < 4 ∨ 65536 < i.c then t.chanError ch stShape x.pc 0
    else if i.c % 4 ≠ 0 then t.chanError ch stAlign x.pc 0
    else t.setExec ch { x.step with run := i.c }))

/-- WRAP (R279, R281). -/
def execWrap (ch : Fin 2048) (s : State) : Res :=
  .next (s.runInstr ch 3 (fun t x i =>
    let pal := if i.a = 0 then decide (x.srcSpace = spPalette) else decide (x.dstSpace = spPalette)
    if pal || decide (i.c % 64 ≠ 0 ∨ i.c < 64) then t.chanError ch stShape x.pc 0
    else if i.a = 0 then t.setExec ch { x.step with src := { x.src with wrap := i.c } }
    else t.setExec ch { x.step with dst := { x.dst with wrap := i.c } }))

/-- GATHER (R279, R282). -/
def execGather (ch : Fin 2048) (s : State) : Res :=
  .next (s.runInstr ch 4 (fun t x i =>
    let dst := i.a.testBit 3
    let side := if dst then x.dst else x.src
    let pal := if dst then decide (x.dstSpace = spPalette) else decide (x.srcSpace = spPalette)
    let g : Gather := ⟨i.a % 8, i.a.testBit 4, i.b⟩
    if pal || side.gather.isSome || decide (20 < i.b) then t.chanError ch stShape x.pc 0
    else if dst then t.setExec ch { x.step with dst := { side with gather := some g } }
    else t.setExec ch { x.step with src := { side with gather := some g } }))

/-- ADV (R279, R282): a signed 64-bit step, its low word in C and its high word in D. -/
def execAdv (ch : Fin 2048) (s : State) : Res :=
  .next (s.runInstr ch 6 (fun t x i =>
    let v := sext 64 (i.c + 2 ^ 32 * i.d)
    if i.c % 4 ≠ 0 then t.chanError ch stAlign x.pc 0
    else if i.a = 0 then t.setExec ch { x.step with src := { x.src with cur := x.src.cur + v } }
    else t.setExec ch { x.step with dst := { x.dst with cur := x.dst.cur + v } }))

/-- LOOP: back to the target until the loop has run C times (R279). -/
def execLoopStroke (ch : Fin 2048) (s : State) : Res :=
  .next (s.runInstr ch 7 (fun t x i =>
    let c := x.param i.a i.c
    let done := SMap.get (fun _ => 0) x.loops x.pc + 1
    if c = 0 ∨ 16777216 < c then t.chanError ch stShape x.pc 0
    else if done < c then t.setExec ch { x with pc := i.b, loops := SMap.set (fun _ => 0) x.loops x.pc done }
    else t.setExec ch { x.step with loops := SMap.set (fun _ => 0) x.loops x.pc 0 }))

/-- SWAIT: take one count; a channel that must wait gives up its thread (R271, R279, R287). -/
def execSwait (ch : Fin 2048) (s : State) : Res :=
  .next (s.runInstr ch 8 (fun t x i =>
    if !t.ownsLink (t.chEasel ch) i.b then t.chanError ch stSem x.pc 0
    else
      let t1 := if t.takeGranted (.channel ch) then t else t.sendTake (semId i.b (decide (i.a = 1))) (.channel ch)
      if t1.takeGranted (.channel ch) then
        let t2 := t1.useTake (.channel ch)
        ({ t2 with str := { t2.str with ready := t2.str.ready.filter (fun m => decide (m ≠ ch.val)) } }).setExec ch x.step
      else (t1.chState ch chWaitSem).dropThread ch))

/-- SSIG: one count once every write issued so far is complete (R279, R283). -/
def execSsig (ch : Fin 2048) (s : State) : Res :=
  .next (s.runInstr ch 9 (fun t x i =>
    if !t.ownsLink (t.chEasel ch) i.b then t.chanError ch stSem x.pc 0
    else if (t.chOps ch).isEmpty then (t.sendSignal (semId i.b (decide (i.a = 1)))).setExec ch x.step
    else t))

/-- The ranks that operations of a channel are outstanding to, the lowest first. -/
def State.openRanks (s : State) (n : Nat) : List Nat := (List.range 4096).filter (fun r => (s.chOps n).any (fun o => decide (o.rank = r)))

/-- What marks an operation whose descriptor a fence timeout has ended: it completes on its own (13 R403). -/
def orphan : Nat := 2 ^ 32

/-- Operations of a descriptor that stay in flight after it has ended (13 R403). -/
def State.orphanOps (s : State) (n d : Nat) : State :=
  { s with yz := { s.yz with ops := s.yz.ops.map (fun o => if o.owner = .chan n d then { o with owner := .chan n (d + orphan) } else o) } }

/-- A fence has waited FENCE_US (13 R403): the ranks are recorded, the fault goes to the easel, and a channel that is not patient ends its run. -/
def State.fenceTimeout (s : State) (n : Nat) (injected : Bool) : State :=
  let e := s.chEasel n
  let rs := s.openRanks n
  let s1 := ((s.incSat e F.YZF_EAS_FTO_COUNT 1).setFld e F.YZF_EAS_FTO_CHANNEL n).setFld e F.YZF_EAS_FTO_N_RANKS rs.length
  let s2 := forUpto 4 (fun i (t : State) =>
    (((t.setFld e (F.YZF_EAS_FTO_RANK_RANK_A i) (nth 0 rs (2 * i))).setFlag e (F.YZF_EAS_FTO_RANK_VALID_A i) (decide (2 * i < rs.length))).setFld e
      (F.YZF_EAS_FTO_RANK_RANK_B i) (nth 0 rs (2 * i + 1))).setFlag e (F.YZF_EAS_FTO_RANK_VALID_B i) (decide (2 * i + 1 < rs.length))) s1
  let s3 := s2.detect 148 e ukChannel n (nth 0 rs 0 + 65536 * (s.jobOf e).getD 0) stFence sevContained injected
  match (s.chan n).exec with
  | some x =>
    let s4 := s3.unpark n
    if s.flag n F.STR_CH_CFG_PATIENT then s4.chanError n stFence x.pc 0 else (s4.orphanOps n x.index).chanError n stFence x.pc 0
  | none =>
    match (s.chan n).drain with
    | [] => s3
    | d :: t =>
      let s4 := ((s3.unpark n).orphanOps n d.index).chanFaultRegs n stFence 31 d.index 0
      let s5 := s4.setChan n { s4.chan n with
        drain := { d with status := stFence, stPc := 0xFF } :: t, run := (s4.chan n).run.map (fun r => { r with ending := some stAborted }) }
      s5.abortHand n

/-- FENCE: goes on once every write issued so far is complete (R279, R283); an injection may hold it past its bound (21 R579). -/
def execFence (ch : Fin 2048) (s : State) : Res :=
  .next (s.runInstr ch 10 (fun t x _ =>
    if (t.chOps ch).isEmpty then
      let (what, t1) := t.inject 148 (t.chEasel ch)
      if what.isSome then t1.fenceTimeout ch true else t1.setExec ch x.step
    else t))

/-- ARM by a stroke: the run lies at P0 · 64 in the easel's bonded memory (R273, R279). -/
def execStrokeArm (ch : Fin 2048) (s : State) : Res :=
  .next (s.runInstr ch 11 (fun t x i =>
    if !t.ownsLink (t.chEasel ch) i.b then t.chanError ch stChannel x.pc 0
    else if i.c = 0 ∨ 65535 < i.c then t.chanError ch stShape x.pc 0
    else (t.setExec ch x.step).armChan i.b ⟨64 * fieldLe x.desc 0x30 4, i.c, false, .stroke⟩))

/-- END: the stroke gives up its thread; the next descriptor may start while this one's writes complete (R271, R284). -/
def execEndStroke (ch : Fin 2048) (s : State) : Res :=
  .next (s.runInstr ch 15 (fun t x _ =>
    (t.setChan ch { t.chan ch with exec := none, drain := (t.chan ch).drain ++ [x.done] }).nextDesc ch))

/-! ### Completion (R284, R285) -/

/-- The 16-byte record (R285). -/
def strRecord (tag status flags easel pc chan bytes index : Nat) : List Nat :=
  leBytes 2 tag ++ leBytes 1 status ++ leBytes 1 flags ++ leBytes 1 easel ++ leBytes 1 pc ++ leBytes 2 chan ++ leBytes 4 bytes ++ leBytes 4 index

/-- Post a descriptor's record when it has REPORT or an error status; ABORTED needs REPORT; a radio run's goes to the radio pipeline
(R285, R292, R293; 10 R333). -/
def State.postDesc (s : State) (n : Nat) (r : StrRun) (d : StrDone) : State :=
  let report := (fieldLe d.desc 2 2).testBit 2
  let ovr := r.overrun && !r.firstDone
  if (report || (decide (d.status ≠ stOk) && decide (d.status ≠ stAborted))) && r.arm.items.isNone then
    let flags := (if ovr then 1 else 0) + (if d.halted then 2 else 0) + (if d.skipped then 4 else 0)
    let s1 := s.setChan n { s.chan n with run := some { r with firstDone := true } }
    s1.postRecord (s.chEasel n) kindChannel (strRecord (fieldLe d.desc 0 2) d.status flags (s.chEasel n) d.stPc n d.bytes d.index)
  else s

/-- Whether a status lets the descriptor's SIGNAL go out: its stroke ran to END. -/
def ranToEnd (st : Nat) : Bool := decide (st = stOk ∨ st = stPoison ∨ st = stMissed)

/-- The oldest ended descriptor of a channel completes once its writes have: its signal, its record, its step-end mark (R283 to R285); a halted channel sends no signal (R295). -/
def State.completeDesc (s : State) (n : Nat) : State :=
  let c := s.chan n
  match c.drain, c.run with
  | d :: t, some r =>
    if (s.descOps n d.index).isEmpty ∧ c.failed.isEmpty ∧ c.halt.isNone then
      let s0 := { s with yz := { s.yz with pruned := s.yz.pruned.filter (fun p => decide (¬ (p.1 = n ∧ p.2.1 = d.index))) } }
      let r1 := { r with bad := r.bad || (decide (d.status ≠ stOk ∧ d.status ≠ stMissed)) }
      let s1 := s0.setChan n { c with drain := t, run := some r1 }
      let s2 := if ranToEnd d.status ∧ (signalWord d.desc).testBit 11 then s1.sendSignal (linkSem (signalWord d.desc)) else s1
      let s3 := (s2.incWrap n F.STR_CH_DONE_COUNT 1).postDesc n r1 d
      let e := s.chEasel n
      let s4 := s3.passDesc e (r.base + d.index) (decide (d.index + 1 = r.arm.count)) ((fieldLe d.desc 2 2).testBit 1)
      ((if (s4.chOps n).isEmpty then s4.unpark n else s4).finishRun n).judgeBoundary e
    else s
  | _, _ => s

/-- The descriptors of a channel that have ended complete, in order. -/
def State.completeAll (s : State) (n : Nat) : State := forUpto (s.chan n).drain.length (fun _ t => t.completeDesc n) s

/-- End every run of a channel for a reset: pending arms go, the run ends with the status under R293 (without records for an easel's reset, 18 R520), counts and waits end, the
queue is emptied (R298). -/
def State.resetChan (s : State) (n status : Nat) : State :=
  let c := s.chan n
  let open_ := fun (d : Nat) => !(s.descOps n d).isEmpty
  let s1 := { s with yz := { s.yz with ops := s.yz.ops.filter (fun o => match o.owner with
      | .chan m _ => decide (m ≠ n)
      | .emb _ _ => true) } }
  let s2 := (s1.unpark n).dropThread n
  let s2 := match c.pend.bind Arm.items with
    | some l => { s2 with str := { s2.str with finished := s2.str.finished ++ [(l, true)] } }
    | none => s2
  let s3 := s2.setChan n { s2.chan n with
    pend := none, pendOver := false, failed := [], drain := (s2.chan n).drain.map (fun d => if open_ d.index then { d with status := status, stPc := 0xFF } else d) }
  let pc := c.exec.elim 0xFF (·.pc)
  let s4 := match c.run with
    | none => s3
    | some r =>
      let t := ((s3.chanFaultRegs n status (pc % 32) (c.exec.elim r.started (·.index)) 0).chanReport n status 0).endRun n status pc
      if status = stEaselReset then t.incWrap n F.STR_CH_DONE_COUNT (t.chan n).drain.length else t.completeAll n
  let s5 := match (s4.chan n).run with
    | none => s4
    | some r =>
      let t := s4.dropRun (s.chEasel n) r.base r.arm.count
      match r.arm.items with
      | some l => { t with str := { t.str with finished := t.str.finished ++ [(l, true)] } }
      | none => t
  let s6 := ((s5.dropTakes (.channel n)).setChan n Chan.idle).chState n chIdle
  let s7 := { s6 with
    str := { s6.str with ready := s6.str.ready.filter (fun m => decide (m ≠ n)) }
    sched := { s6.sched with signals := s6.sched.signals.filter (fun m => decide (m / 2 ≠ n)) } }
  let s8 := ((s7.setWaiters (2 * n) []).setWaiters (2 * n + 1) []).setSem (2 * n) 0
  (s8.setSem (2 * n + 1) 0).palClear n

end Sys2Proof.Machine
end

