-- ==== Sys2Proof/Machine/Move.lean ====
section
/-! DEFINITION. Machine/Move.lean: MOVE (09 R280 to R283, R294, R299, R300; 13 R388, R391 to R393, R407), request by request, the waits on Palette
queues, and what the answer to a channel's fabric operation does (13 R396, R404). -/
namespace Sys2Proof.Machine

open Sys2Proof

/-! ### Addresses (R280 to R282) -/

/-- The product of the counts below dimension `d`. -/
def below (counts : List Nat) (d : Nat) : Nat := (counts.take d).foldl (· * ·) 1

/-- Points of the nest. -/
def StrExec.points (x : StrExec) : Nat := x.counts.foldl (· * ·) 1

/-- The index i_d of point `k`. -/
def digitAt (counts : List Nat) (k d : Nat) : Nat := k / below counts d % nth 1 counts d

/-- The offset of a point on a side: the cursor, the strides, and a gathered dimension's offset in place of its stride (R280, R282). -/
def Side.offset (sd : Side) (counts : List Nat) (k : Nat) (gv : Int) : Int :=
  (List.range 6).foldl (fun t d =>
    t + (match sd.gather with
      | some g => if g.dim = d then gv else (digitAt counts k d : Int) * nth 0 sd.strides d
      | none => (digitAt counts k d : Int) * nth 0 sd.strides d)) sd.cur

/-- The address of byte `o` of the run whose offset is `off` (R280, R281). -/
def Side.addr (sd : Side) (base : Nat) (off : Int) (o : Nat) : Nat :=
  let v := off + (o : Int)
  (((base : Int) + (if sd.wrap = 0 then v else v % (sd.wrap : Int))) % 2 ^ 64).toNat

/-- Bytes up to the ring's end. -/
def Side.room (sd : Side) (off : Int) (o : Nat) : Nat := if sd.wrap = 0 then 65536 else sd.wrap - ((off + (o : Int)) % (sd.wrap : Int)).toNat

/-- Where the index of point `k` lies: each step of the gathered dimension reads the next entry (R282). -/
def StrExec.idxPlace (x : StrExec) (g : Gather) (k : Nat) : Place :=
  let w := if g.wide then 4 else 2
  ⟨x.idxSpace, x.idxTarget, x.idxBase + k / below x.counts g.dim * w, w⟩

/-- What an index is: none for an all-ones index, whether it is poisoned, its offset (R282, R294). -/
structure IdxVal where
  null : Bool
  poison : Bool
  off : Int

/-- The value of an index from its bytes. -/
def idxVal (g : Gather) (bs : List Nat) : IdxVal :=
  let v := ofLe (bs.map (· % 256))
  ⟨decide (v = if g.wide then 0xFFFFFFFF else 0xFFFF), bs.any (fun b => decide (256 ≤ b)), (v * 2 ^ g.shift : Nat)⟩

/-! ### One request -/

/-- Why a MOVE stops before its end. -/
inductive MvStop where
  | palette
  | granule
  /-- As many operations are outstanding as a thread or its panel may hold (R272). -/
  | full
  | error (status addr : Nat)
  deriving DecidableEq, Repr

/-- A MOVE in progress: the state, the next request (run · 2^17 + byte), bytes written, bytes of host memory consumed, requests of this command so
far, whether poison was read, and why it stops. -/
structure Mv where
  st : State
  prog : Nat
  bytes : Nat
  host : Nat
  req : Nat
  poison : Bool
  stop : Option MvStop

/-- Read the index of a side for a point; only the first request of a run counts as a read of memory. -/
def State.readIdx (s : State) (n e : Nat) (x : StrExec) (sd : Side) (k : Nat) (first : Bool) (idx : Blob) : SpResp × IdxVal :=
  match sd.gather with
  | none => (⟨stOk, [], s⟩, ⟨false, false, 0⟩)
  | some g =>
    let p := x.idxPlace g k
    let r := s.spRead (s.chanReader e n) e p ((List.range p.len).map (fun j => idx.byte (p.addr - x.idxBase + j))) none
    (⟨r.status, r.bytes, if first ∨ (r.status ≠ stOk ∧ r.status ≠ stPoison) then r.st else s⟩, idxVal g r.bytes)

/-- The channel status of a fabric answer (13 R396). -/
def ofYz (st : Nat) : Nat :=
  if st = yzOk then stOk else if st = yzOutOfShare then stOutOfShare else if st = yzPoison then stPoison else if st = yzNoEasel then stSpace else stOk

/-- The result of fetching a request's source bytes: the bytes, marked where poisoned; an error; or a wait. `fabric` says that a remote load is to
be issued, `dead` that its rank is dead. -/
structure SrcResp where
  status : Nat
  bytes : List Nat
  st : State
  wait : Bool
  fabric : Bool
  host : Nat

/-- Whether another channel's MOVE is reading a queue (R299). -/
def State.palBusy (s : State) (n q : Nat) : Bool :=
  s.str.chans.any (fun p => decide (p.1 ≠ n) && (match p.2.exec with
    | some y => y.moving && decide (y.srcSpace = spPalette ∧ y.srcTarget = q)
    | none => false))

/-- The address word of a fabric record (13 R394). -/
def fabAddr (target addr : Nat) : Nat := addr % 2 ^ 46 + 2 ^ 46 * (target / 2 ^ 12 % 64)

/-- Fetch the source bytes of a request. Bytes of a Palette queue are consumed by the caller. -/
def State.moveSrc (s : State) (n e : Nat) (x : StrExec) (addr len : Nat) (m : Mv) (host : Blob) (hostFail : Option Nat)
    (ecc : Option EccEvent) : SrcResp :=
  if x.srcSpace = spPalette then
    let q := s.palQ x.srcTarget
    if s.palBusy n x.srcTarget || decide (q.readable < len) then ⟨stOk, [], s, true, false, 0⟩
    else
      let s1 := match ecc with
        | some y => s.palEcc x.srcTarget stPoison y
        | none => s.palEcc x.srcTarget stPoison ⟨.ok, 0, 0⟩
      ⟨stOk, (s1.palQ x.srcTarget).bytes.take len, s1, false, false, 0⟩
  else if x.srcSpace = spFabric then
    match s.jobOf e with
    | none => ⟨stSpace, [], s, false, false, 0⟩
    | some j =>
      let rank := x.srcTarget % 4096
      if rank = s.selfRank j then
        let a := s.yzServe j ⟨1, 0, len, 0, fabAddr x.srcTarget addr, []⟩ ecc
        let tag := if a.status = yzPoison then 256 else 0
        ⟨if a.status = yzPoison then stOk else ofYz a.status, a.data.map (· + tag), a.st, false, false, 0⟩
      else if (s.rankEntry j rank).2.2.1 = 1 then ⟨stDead, deadBytes len, s.yzDead e j rank ukChannel n, false, false, 0⟩
      else ⟨stOk, List.replicate len 512, s, false, true, 0⟩
  else
    let p : Place := ⟨x.srcSpace, x.srcTarget, addr, len⟩
    if x.srcSpace = spHost ∧ hostFail = some m.req then ⟨stFetch, [], s, false, false, 0⟩
    else
      let r := s.spRead (s.chanReader e n) e p ((List.range len).map (fun j => host.byte (m.host + j))) ecc
      let s1 := if r.status = stPoison ∧ x.srcSpace = spBonded then r.st.notePoisonedRead e n addr len else r.st
      ⟨if r.status = stPoison then stOk else r.status, r.bytes, s1, false, false, if x.srcSpace = spHost then len else 0⟩

/-- Ranks a FABRIC destination names: one, or the members of a multicast group that have not been pruned (13 R407, R409). -/
def State.dstRanks (s : State) (n e : Nat) (x : StrExec) : List Nat :=
  if mcastField x.dstTarget then
    (nth [] (SMap.get (fun _ => []) s.yz.mcast e) (x.dstTarget % 64)).filter (fun r => !s.yz.pruned.contains (n, x.index, r))
  else [x.dstTarget % 4096]

/-- The records of a request to a FABRIC destination: one store, or one atomic for each word (13 R392, R393). -/
def StrExec.fabRecs (x : StrExec) (src : Side) (soff : Int) (so addr len : Nat) (bs : List Nat) : List (YzRec × List Place) :=
  let aop := aopField x.dstTarget
  if aop = 0 then [(⟨2, 0, len, 0, fabAddr x.dstTarget addr, bs.map (· % 256)⟩, [])]
  else
    let w := if w64Field x.dstTarget then 8 else 4
    let sw := if aop = 6 then 2 * w else w
    (List.range (len / w)).map (fun i =>
      let fl := aop + (if w64Field x.dstTarget then 16 else 0) + (if fetchField x.dstTarget then 32 else 0)
      (⟨3, fl, sw, 0, fabAddr x.dstTarget (addr + w * i), ((bs.drop (sw * i)).take sw).map (· % 256)⟩,
       if fetchField x.dstTarget then [⟨x.srcSpace, x.srcTarget, src.addr x.srcBase soff (so + sw * i), w⟩] else []))

/-- An operation to the device's own rank that a frozen easel answers with RETRY_AFTER is held, and goes again as any held operation (13 R388, R396; 18 R516). -/
def State.holdLocal (s : State) (e : Nat) (owner : YzOwner) (slot rank : Nat) (r : YzRec) (dest : List Place) (mcast : Bool) : State :=
  let op : YzOp := ⟨s.yz.nextTag, e, owner, slot, rank, { r with tag := s.yz.nextTag }, dest, .retry, mcast, true⟩
  ({ s with yz := { s.yz with ops := s.yz.ops ++ [op], nextTag := (s.yz.nextTag + 1) % 2 ^ 32 } }).incSat e F.YZF_EAS_RETRY_OTHER 1

/-- Send one record of a channel's descriptor to a rank: served here for the device's own rank, ended at once for a dead one, else issued
(13 R388, R404). -/
def State.fabSend (s : State) (n e j rank d : Nat) (r : YzRec) (dest : List Place) (mc : Bool) : Nat × State :=
  if rank = s.selfRank j then
    let a := s.yzServe j r none
    if a.status = yzRetry then (stOk, a.st.holdLocal e (.chan n d) j rank r dest mc)
    else (ofYz a.status, forEach dest (fun p t => (t.spWrite e p a.data).st) a.st)
  else if (s.rankEntry j rank).2.2.1 = 1 then (stDead, s.yzDead e j rank ukChannel n)
  else (stOk, s.yzIssue e (.chan n d) j rank r dest mc)

/-- The result of a request's write. -/
structure DstResp where
  status : Nat
  st : State
  wait : Bool

/-- Write a request's bytes. Remote loads (`fabric`) reserve their place instead and are issued. -/
def State.moveDst (s : State) (n e : Nat) (x : StrExec) (soff : Int) (so saddr addr : Nat) (bs : List Nat) (fabric : Bool) : DstResp :=
  let len := bs.length
  let load := fun (t : State) (p : Place) => match t.jobOf e with
    | some j => t.yzIssue e (.chan n x.index) j (x.srcTarget % 4096) ⟨1, 0, len, 0, fabAddr x.srcTarget saddr, []⟩ [p] false
    | none => t
  if s.deletedFlow x.dstSpace x.dstTarget then ⟨stSpace, s, false⟩
  else if x.dstSpace = spPalette then
    let pos := (s.palQ x.dstTarget).front + (s.palQ x.dstTarget).bytes.length
    match s.palAppend x.dstTarget bs with
    | none => ⟨stOk, s.palWait x.dstTarget, true⟩
    | some t => ⟨stOk, if fabric then load t ⟨spPalette, x.dstTarget, pos, len⟩ else t, false⟩
  else if x.dstSpace = spFabric then
    match s.jobOf e with
    | none => ⟨stSpace, s, false⟩
    | some j =>
      let dl := if aopField x.dstTarget = 6 then len / 2 else len
      let r := (x.fabRecs x.src soff so addr dl bs).foldl (fun t q =>
        (t.2.dstRanks n e x).foldl (fun u rank =>
          let v := u.2.fabSend n e j rank x.index q.1 q.2 (mcastField x.dstTarget)
          (if u.1 = stOk then v.1 else u.1, v.2)) t) (stOk, s)
      ⟨if r.1 = stPoison then stOk else r.1, r.2, false⟩
  else if fabric then ⟨stOk, load s ⟨x.dstSpace, x.dstTarget, addr, len⟩, false⟩
  else
    let r := s.spWrite e ⟨x.dstSpace, x.dstTarget, addr, len⟩ bs
    ⟨r.status, r.st, false⟩

/-- The length of the next request: up to 256 bytes, within the run, a fabric side's 256-byte block and both rings (R272, R281; 13 R392).
A CAS reads two source bytes for each byte it writes. -/
def StrExec.reqLen (x : StrExec) (soff doff : Int) (o : Nat) : Nat :=
  let cas := decide (x.dstSpace = spFabric) && decide (aopField x.dstTarget = 6)
  let a := if x.srcSpace = spFabric then 256 - x.src.addr x.srcBase soff o % 256
    else if x.dstSpace = spFabric then 256 - x.dst.addr x.dstBase doff o % 256 else 256 - o % 256
  let sr := if cas then x.src.room soff (2 * o) / 2 else x.src.room soff o
  min (min (x.run - o) a) (min sr (x.dst.room doff o))

/-- Mark the bytes of a run with poison. -/
def poisonIf (p : Bool) (bs : List Nat) : List Nat := if p then bs.map (fun b => if b < 256 then b + 256 else b) else bs

/-- A MOVE stops with an error. -/
def Mv.fail (m : Mv) (st a : Nat) (t : State) : Mv := { m with st := t, stop := some (.error st a) }

/-- Where a request of a MOVE lies: its bytes at the destination, its first byte, bytes and address at the source (a CAS reads twice as many bytes), the
source's offset of its run, the address at the destination, and the request that follows it. -/
structure MvReq where
  len : Nat
  so : Nat
  sl : Nat
  soff : Int
  sa : Nat
  da : Nat
  next : Nat
  deriving DecidableEq, Repr

/-- The request at byte `o` of run `k`, whose indices are read. -/
def moveAt (x : StrExec) (k o : Nat) (si di : IdxVal) : MvReq :=
  let soff := x.src.offset x.counts k si.off
  let doff := x.dst.offset x.counts k di.off
  let len := max 4 (x.reqLen soff doff o)
  let cas := decide (x.dstSpace = spFabric) && decide (aopField x.dstTarget = 6)
  let so := if cas then 2 * o else o
  ⟨len, so, if cas then 2 * len else len, soff, x.src.addr x.srcBase soff so, x.dst.addr x.dstBase doff o,
    if o + len < x.run then k * 2 ^ 17 + o + len else (k + 1) * 2 ^ 17⟩

/-- A queue's reader consumes from its front; a deleted flow's index is free once its queue is empty (R299; 02 R51). -/
def State.palTake (s : State) (q n : Nat) : State :=
  let s1 := s.palConsume q n
  if 0x2000 ≤ q then s1.freeFlow (q - 0x2000) else s1

/-- The bytes of a request have been fetched: they are written. A poisoned index makes its destination run poison, whatever a remote load would have returned (R294). -/
def movePut (n e : Nat) (x : StrExec) (m : Mv) (q : MvReq) (isZero : Bool) (si di : IdxVal) (src0 : SrcResp) : Mv :=
  let bad := si.poison || di.poison
  let src := if src0.fabric && bad then { src0 with bytes := List.replicate q.sl 0, fabric := false } else src0
  let bs := if src.fabric then src.bytes else poisonIf bad src.bytes
  let dst : DstResp := if di.null then ⟨stOk, src.st, false⟩ else src.st.moveDst n e x q.soff q.so q.sa q.da bs src.fabric
  if dst.wait then { m with st := dst.st, stop := some .granule }
  else if dst.status ≠ stOk then m.fail dst.status q.da dst.st
  else
    let s1 := if x.srcSpace = spPalette ∧ !isZero then dst.st.palTake x.srcTarget q.sl else dst.st
    if src.status ≠ stOk then m.fail src.status q.sa s1
    else { m with
      st := s1, prog := q.next, host := m.host + src.host, req := m.req + 1, bytes := m.bytes + (if di.null then 0 else q.len)
      poison := m.poison || bs.any (fun b => decide (256 ≤ b ∧ b < 512)) }

/-- The indices of a request have been read: its bytes are fetched and written. An all-ones index names no address that could be misaligned (R282). -/
def moveGo (n e : Nat) (x : StrExec) (zero : Bool) (host : Blob) (hostFail : Option Nat) (w : Option EccEvent) (m : Mv) (q : MvReq) (si di : IdxVal) (s : State) : Mv :=
  if (x.srcSpace ≠ spPalette ∧ q.sa % 4 ≠ 0 ∧ !zero ∧ !si.null) ∨ (x.dstSpace ≠ spPalette ∧ q.da % 4 ≠ 0 ∧ !di.null) ∨
      (x.dstSpace = spFabric ∧ aopField x.dstTarget ≠ 0 ∧ w64Field x.dstTarget ∧ q.da % 8 ≠ 0 ∧ !di.null) then m.fail stAlign q.da s
  else
    let isZero := zero || si.null
    let src : SrcResp := if isZero || (di.null && decide (x.srcSpace = spFabric)) then ⟨stOk, List.replicate q.sl 0, s, false, false, 0⟩
      else s.moveSrc n e x q.sa q.sl m host hostFail w
    if src.wait then { m with st := src.st, stop := some .palette }
    else if src.status ≠ stOk ∧ ¬ (src.status = stDead ∧ !src.st.flag n F.STR_CH_CFG_PATIENT) then m.fail src.status q.sa src.st
    else movePut n e x m q isZero si di src

/-- The address of a side's index for a point. -/
def StrExec.idxAddr (x : StrExec) (sd : Side) (k : Nat) : Nat :=
  match sd.gather with
  | some g => (x.idxPlace g k).addr
  | none => 0

/-- One request of a MOVE: the indices of both sides, then its bytes. -/
def moveReq (n e : Nat) (x : StrExec) (zero : Bool) (host idx : Blob) (hostFail : Option Nat) (ecc : List (Nat × EccEvent)) (m : Mv) : Mv :=
  let k := m.prog / 2 ^ 17
  let o := m.prog % 2 ^ 17
  let r := m.st.readIdx n e x x.src k (decide (o = 0)) idx
  let t := r.1.st.readIdx n e x x.dst k (decide (o = 0)) idx
  if r.1.status ≠ stOk ∧ r.1.status ≠ stPoison then m.fail r.1.status (x.idxAddr x.src k) r.1.st
  else if t.1.status ≠ stOk ∧ t.1.status ≠ stPoison then m.fail t.1.status (x.idxAddr x.dst k) t.1.st
  else moveGo n e x zero host hostFail ((ecc.find? (fun p => decide (p.1 = m.req))).map (·.2)) m (moveAt x k o r.2 t.2) r.2 t.2 t.1.st

/-- Outstanding operations of a panel's channels. -/
def State.panelOps (s : State) (panel : Nat) : Nat :=
  (s.yz.ops.filter (fun o => match o.owner with
    | .chan m _ => decide (s.fld m F.STR_CH_CFG_PANEL = panel)
    | .emb _ _ => false)).length

/-- Whether a thread or its panel holds as many requests outstanding as it may: 256 and 4,096 (R272). -/
def State.reqsFull (s : State) (n : Nat) : Bool := decide (256 ≤ (s.chOps n).length ∨ 4096 ≤ s.panelOps (s.fld n F.STR_CH_CFG_PANEL))

/-- Requests of a MOVE until it ends or stops. -/
def moveLoop (n e : Nat) (x : StrExec) (zero : Bool) (host idx : Blob) (hostFail : Option Nat) (ecc : List (Nat × EccEvent)) : Nat → Mv → Mv
  | 0, m => m
  | f + 1, m =>
    if m.stop.isSome ∨ x.points ≤ m.prog / 2 ^ 17 then m
    else if (x.srcSpace = spFabric ∨ x.dstSpace = spFabric) ∧ m.st.reqsFull n then { m with stop := some .full }
    else moveLoop n e x zero host idx hostFail ecc f (moveReq n e x zero host idx hostFail ecc m)

/-- The checks of a MOVE before its requests (R275, R281, R282; 13 R393). -/
def StrExec.moveCheck (x : StrExec) (zero : Bool) : Nat :=
  if x.srcSpace = spNone ∧ !zero then stSpace
  else if x.run = 0 ∨ (x.src.wrap ≠ 0 ∧ x.src.wrap < x.run) ∨ (x.dst.wrap ≠ 0 ∧ x.dst.wrap < x.run) then stShape
  else if x.dstSpace = spFabric ∧ aopField x.dstTarget ≠ 0 ∧ w64Field x.dstTarget ∧ (x.run % 8 ≠ 0 ∨ x.dstBase % 8 ≠ 0) then stAlign
  else stOk

/-- Count the bytes a channel wrote (R305). -/
def State.countChBytes (s : State) (n b : Nat) : State := s.inc64 n F.STR_CH_BYTES_LO_BYTES F.STR_CH_BYTES_HI_BYTES b

/-- Run a MOVE from where it stands (R280); one that may hold no more requests outstanding keeps its thread and goes on later (R271, R272). -/
def State.runMove (s : State) (n : Nat) (x : StrExec) (i : SInstr) (host idx : Blob) (hostFail : Option Nat) (ecc : List (Nat × EccEvent)) : State :=
  let e := s.chEasel n
  let zero := decide (i.a = 1)
  let st := x.moveCheck zero
  if st ≠ stOk then s.chanError n st x.pc 0
  else
    let m := moveLoop n e x zero host idx hostFail ecc (x.points * (x.run / 4 + 1)) ⟨s, x.reqs, 0, 0, 0, false, none⟩
    let s1 := (m.st.countChBytes n m.bytes).yzFlush
    let x1 := { x with reqs := m.prog, bytes := (x.bytes + m.bytes) % 2 ^ 32, status := if m.poison then stPoison else x.status,
                       stPc := if m.poison then x.pc else x.stPc, moving := x.moving || !s.palBusy n x.srcTarget }
    match m.stop with
    | none => s1.setExec n { x1.step with reqs := 0, moving := false }
    | some (.error st a) => (s1.setExec n x1).chanError n st x.pc a
    | some .full => s1.setExec n x1
    | some _ => ((s1.setExec n x1).chState n chWaitPal).dropThread n

/-- MOVE (R280). `host` and `idx` hold what is read of host memory, in the order it is read; `hostFail` is the request whose host read fails; `ecc`
the errors the memories' checks find, by request. -/
def execMoveNest (ch : Fin 2048) (host idx : Blob) (hostFail : Option Nat) (ecc : List (Nat × EccEvent)) (s : State) : Res :=
  .next (s.runInstr ch 5 (fun t x i => t.runMove ch x i host idx hostFail ecc))

/-- Bytes have arrived in the queue a channel waits to read (R299). -/
def execPaletteReadResume (ch : Fin 2048) (s : State) : Res :=
  match (s.chan ch).exec with
  | some x =>
    .next (if s.fld ch F.STR_CH_STATE_STATE = chWaitPal ∧ x.srcSpace = spPalette ∧ 0 < (s.palQ x.srcTarget).readable ∧ !s.palBusy ch x.srcTarget
      then s.makeReady ch else s)
  | none => .next s

/-- A granule has become available to the write a channel waits with (R300). -/
def execGranuleWaitResume (ch : Fin 2048) (s : State) : Res :=
  match (s.chan ch).exec with
  | some x =>
    .next (if s.fld ch F.STR_CH_STATE_STATE = chWaitPal ∧ x.dstSpace = spPalette ∧ s.palCanGrow x.dstTarget ((s.palQ x.dstTarget).held + 1)
      then s.makeReady ch else s)
  | none => .next s

/-! ### Answers to a channel's fabric operations -/

/-- Remove an operation. -/
def State.dropOp (s : State) (tag : Nat) : State := { s with yz := { s.yz with ops := s.yz.ops.filter (fun o => decide (o.tag ≠ tag)) } }

/-- Give a descriptor that goes on a status of its own: POISON or MISSED (R294; 13 R409). -/
def State.noteStatus (s : State) (n d st : Nat) : State :=
  let c := s.chan n
  let put := fun (old : Nat) => if old = stOk ∨ old = stPoison ∨ old = stMissed then st else old
  s.setChan n { c with
    exec := c.exec.map (fun x => if x.index = d then { x with status := put x.status } else x)
    drain := c.drain.map (fun x => if x.index = d then { x with status := put x.status } else x) }

/-- A descriptor's fabric operation ends with an error: the channel halts if it is patient, else its run ends with the descriptor that issued it
(R293, R295; 10 R329). -/
def State.chanOpError (s : State) (n : Nat) (o : YzOp) (d st : Nat) : State :=
  let c := s.chan n
  let halts := s.flag n F.STR_CH_CFG_PATIENT && haltsPatient st
  let s1 := if halts then s.setChan n { c with failed := c.failed ++ [o] } else s
  let s2 := s1.unpark n
  if c.exec.any (fun x => decide (x.index = d)) then s2.chanError n st (c.exec.elim 0xFF (·.pc)) (o.op.addr % 2 ^ 46)
  else
    let s3 := (s2.chanFaultRegs n st 31 d (o.op.addr % 2 ^ 46)).chanReport n st (o.op.addr % 2 ^ 46)
    let c3 := s3.chan n
    if halts then (s3.setChan n { c3 with drain := c3.drain.map (fun x => if x.index = d then { x with halted := true } else x) }).haltChan n st
    else
    let s4 := s3.setChan n { c3 with drain := c3.drain.map (fun x => if x.index = d then { x with status := st, stPc := 0xFF } else x) }
    if c3.exec.isSome then (if s.atFence n ∧ st = stDead then s4.endRun n stDead (c3.exec.elim 0xFF (·.pc)) else s4.endRun n stAborted 0xFF)
    else (s4.setChan n { s4.chan n with run := (s4.chan n).run.map (fun r => { r with ending := some stAborted }) }).abortHand n

/-- Write what an operation returns to the places that wait for it. -/
def State.landData (s : State) (e : Nat) (dest : List Place) (bs : List Nat) : State :=
  (dest.foldl (fun t p =>
    let b := t.2.take p.len
    (if p.space = spPalette then t.1.palFill p.target p.addr b else (t.1.spWrite e p b).st, t.2.drop p.len)) (s, bs)).1

/-- An operation of a channel ends: `st` is its status, `bs` the data it returns, poisoned bytes marked (13 R396, R404). -/
def State.chanOpDone (s : State) (o : YzOp) (n d st : Nat) (bs : List Nat) : State :=
  let s1 := s.dropOp o.tag
  if st = stOk ∨ orphan ≤ d then s1.landData o.easel o.dest bs
  else if st = stPoison then (s1.landData o.easel o.dest bs).noteStatus n d stPoison
  else
    let s2 := if st = stDead ∧ !s.flag n F.STR_CH_CFG_PATIENT then s1.landData o.easel o.dest bs else s1
    s2.chanOpError n o d st

end Sys2Proof.Machine
end

