-- ==== Sys2Proof/Machine/SCore.lean ====
section
/-! DEFINITION. Machine/SCore.lean: the S-cores (07) apart from the meaning of each instruction: contexts and registers, the packet and its checks,
issue, branches and loops, launch, pre-emption, completion. -/
namespace Sys2Proof.Machine

open Sys2Proof

/-! ### The command word (07 R224) -/

def Cmd.scEntry (c : Cmd) : Nat := c.bits 1 0 12
def Cmd.scRunLen (c : Cmd) : Nat := c.bits 1 12 20
def Cmd.scWaitEn (c : Cmd) : Bool := decide (c.bits 2 11 1 = 1)
def Cmd.scWaitLink (c : Cmd) : Nat := c.bits 2 0 11
def Cmd.scWaitSem (c : Cmd) : Nat := semId (c.bits 2 0 11) (decide (c.bits 2 12 1 = 1))
def Cmd.scSignalEn (c : Cmd) : Bool := decide (c.bits 2 27 1 = 1)
def Cmd.scSignalLink (c : Cmd) : Nat := c.bits 2 16 11
def Cmd.scSignalSem (c : Cmd) : Nat := semId (c.bits 2 16 11) (decide (c.bits 2 28 1 = 1))
def Cmd.scArg (c : Cmd) (i : Nat) : Nat := c.bits (3 + i) 0 32

/-- Every reserved field is zero (07 R224). -/
def Cmd.scReservedZero (c : Cmd) : Bool := decide (c.bits 0 15 1 = 0 ∧ c.bits 2 13 3 = 0 ∧ c.bits 2 29 3 = 0)

/-- S-cycles that a RELEASE or a LOADPROG takes (07 R225). -/
def Cmd.scDuration (c : Cmd) : Nat :=
  match c.opcode with
  | 3 => 64 * c.scArg 1 + 4
  | 6 => (c.scArg 1 + 3) / 4 + 4
  | _ => 0

/-! ### Statuses (07 R226) -/

def stIllegalSlot : Nat := 0x20
def stRepeatRange : Nat := 0x21
def stRepeatCeiling : Nat := 0x22
def stPmemError : Nat := 0x23

/-! ### Registers of a context (07 R192, R198 to R200) -/

/-- Keys of a context's registers: scalar, predicate, a 16-bit lane of a vector and of a delay line, a 40-bit value of an accumulator as its readers see
it, and as the next accumulate finds it (R200). -/
def kA (i : Nat) : Nat := i
def kP (i : Nat) : Nat := 32 + i
def kV (v l : Nat) : Nat := 256 + 32 * v + l
def kD (d l : Nat) : Nat := 2048 + 128 * d + l
def kAcc (a l : Nat) : Nat := 4096 + 32 * a + l
def kSum (a l : Nat) : Nat := 8192 + 32 * a + l

/-- The raw value at a key. -/
def ScCtx.rd (x : ScCtx) (k : Nat) : Nat := SMap.get (fun _ => 0) x.regs k

/-- Set the raw value at a key. -/
def ScCtx.put (x : ScCtx) (k v : Nat) : ScCtx := { x with regs := SMap.set (fun _ => 0) x.regs k v }

/-- A scalar register; A0 reads as zero. -/
def ScCtx.a (x : ScCtx) (i : Nat) : Nat := if i = 0 then 0 else x.rd (kA i)

/-- A predicate register; P0 reads as all ones. -/
def ScCtx.p (x : ScCtx) (i : Nat) : Nat := if i = 0 then 2 ^ 32 - 1 else x.rd (kP i)

/-- A lane of a vector and of a delay line, signed. -/
def ScCtx.v (x : ScCtx) (v l : Nat) : Int := sext 16 (x.rd (kV v l))
def ScCtx.dl (x : ScCtx) (d l : Nat) : Int := sext 16 (x.rd (kD d l))

/-- A write with a latency: a packet issued that many cycles later reads it (R198). Writes to A0 and P0 are discarded. -/
def ScCtx.push (x : ScCtx) (lat k v : Nat) : ScCtx :=
  if k = kA 0 ∨ k = kP 0 then x else { x with wr := x.wr ++ [⟨x.cyc + lat, k, v, 0, false⟩] }

/-- A write that lands after the others of its cycle (R217). -/
def ScCtx.pushLate (x : ScCtx) (lat k v : Nat) : ScCtx := { x with wr := x.wr ++ [⟨x.cyc + lat, k, v, 0, true⟩] }

/-- The writes due at a cycle land, in the order they were issued, the late ones last (R199, R217). -/
def ScCtx.land (x : ScCtx) (t : Nat) : ScCtx :=
  let due := x.wr.filter (fun w => decide (w.due ≤ t))
  let x1 := { x with wr := x.wr.filter (fun w => decide (t < w.due)) }
  (due.filter (fun w => !w.late) ++ due.filter (fun w => w.late)).foldl (fun y w => y.put w.key (w.val ||| (y.rd w.key &&& w.keep))) x1

/-- Every write on its way lands, within 4 S-cycles (R211). -/
def ScCtx.landAll (x : ScCtx) : ScCtx := forUpto 5 (fun i y => y.land (x.cyc + i)) x

/-- A context at a launch: every register zero except A1 to A5 (R194). -/
def ScCtx.start (c : Cmd) : ScCtx :=
  ⟨c, (List.range 5).foldl (fun m i => SMap.set (fun _ => 0) m (kA (i + 1)) (c.scArg i)) [], [], c.scEntry, 0, 0, none, [], 0, false, false, none⟩

/-! ### Slot words (07 R202, R203) -/

/-- A field of a slot word. -/
def wBits (w lo n : Nat) : Nat := w / 2 ^ lo % 2 ^ n

def wOp (w : Nat) : Nat := wBits w 26 6
def wSat (w : Nat) : Bool := decide (wBits w 25 1 = 1)
def wPred (w : Nat) : Nat := wBits w 22 3
def wD (w : Nat) : Nat := wBits w 17 5
def wA (w : Nat) : Nat := wBits w 12 5
def wB (w : Nat) : Nat := wBits w 7 5
def wCplx (w : Nat) : Bool := decide (wBits w 6 1 = 1)
def wImm (w : Nat) : Nat := wBits w 0 6
def wPost (w : Nat) : Bool := decide (wBits w 11 1 = 1)
def wOff (w : Nat) : Int := 4 * sext 11 (wBits w 0 11)

/-- Codes of OP (07 R203). -/
def opNop : Nat := 0x00
def opVadd : Nat := 0x01
def opVsub : Nat := 0x02
def opVmac : Nat := 0x03
def opVcmac : Nat := 0x04
def opTapC : Nat := 0x05
def opTapR : Nat := 0x06
def opVpack : Nat := 0x07
def opVshr : Nat := 0x08
def opVshl : Nat := 0x09
def opVmax : Nat := 0x0A
def opVmin : Nat := 0x0B
def opVconj : Nat := 0x0C
def opVsel : Nat := 0x0D
def opVclr : Nat := 0x0E
def opVld : Nat := 0x10
def opVst : Nat := 0x11
def opLdf : Nat := 0x12
def opLd : Nat := 0x13
def opSt : Nat := 0x14
def opVperm : Nat := 0x15
def opAdd : Nat := 0x20
def opSub : Nat := 0x21
def opAnd : Nat := 0x22
def opOr : Nat := 0x23
def opXor : Nat := 0x24
def opShl : Nat := 0x25
def opShr : Nat := 0x26
def opCmp : Nat := 0x27
def opBr : Nat := 0x28
def opRepeat : Nat := 0x29
def opSemtry : Nat := 0x2A
def opSemsig : Nat := 0x2B
def opDone : Nat := 0x2C

/-- Whether the PRED of a word sets bit `i` (CI16 lane i / 2 by its even bit) (R204). -/
def ScCtx.en (x : ScCtx) (w : Nat) (cplx : Bool) (i : Nat) : Bool := (x.p (wPred w)).testBit (if cplx then i / 2 * 2 else i)

/-- Whether an SB instruction issues (R204). -/
def ScCtx.sbOn (x : ScCtx) (w : Nat) : Bool := (x.p (wPred w)).testBit 0

/-- The accumulators and delay lines a MA or MB word names (R200). -/
def wNames (w : Nat) : List (Nat × Nat) :=
  let op := wOp w
  if op = opVmac ∨ op = opVcmac ∨ op = opVclr then [(0, wD w)]
  else if op = opTapC ∨ op = opTapR then [(0, wD w), (1, wA w)]
  else if op = opVpack then [(0, wA w)]
  else []

/-- Whether a slot word is not an instruction of its slot (R202, R203): a reserved OP or one of another slot, a reserved field that is not zero, a
register number or shift that its operation does not have (notes/assumptions/46.md), SAT in SB. -/
def wBad (slot w : Nat) : Bool :=
  let op := wOp w
  if op = opNop then decide (slot = 3) && wSat w
  else if slot < 2 then
    decide (op < 1 ∨ 0xE < op) || (decide (op = opVmac ∨ op = opVcmac ∨ op = opTapC ∨ op = opTapR ∨ op = opVclr) && decide (7 < wD w)) ||
      (decide (op = opTapC ∨ op = opTapR) && decide (3 < wA w)) || (decide (op = opVpack) && decide (7 < wA w ∨ 39 < wImm w)) ||
      (decide (op = opVshr ∨ op = opVshl) && decide (15 < wImm w))
  else if slot = 2 then
    decide (op < 0x10 ∨ 0x15 < op) || (decide (op = opLdf) && decide (wBits w 20 2 = 3 ∨ wBits w 17 1 ≠ 0))
  else
    decide (op < 0x20 ∨ 0x2C < op) || wSat w ||
      (decide (op ≤ opCmp) && decide (wBits w 11 1 = 0 ∧ wBits w 5 6 ≠ 0)) || (decide (op = opBr) && decide (wBits w 12 10 ≠ 0)) ||
      (decide (op = opRepeat) && decide (wBits w 13 1 = 1 ∧ wBits w 5 8 ≠ 0)) || (decide (op = opSemtry) && decide (wBits w 12 7 ≠ 0)) ||
      (decide (op = opSemsig) && decide (wBits w 12 10 ≠ 0))

/-- Body and count of a REPEAT (R202, R206). -/
def wBody (w : Nat) : Nat := wBits w 14 8 + 1
def ScCtx.count (x : ScCtx) (w : Nat) : Nat := if wBits w 13 1 = 1 then x.a (wBits w 0 5) else wBits w 0 13 + 1

/-! ### The core -/

def State.score (s : State) (core : Nat) : ScSt := SMap.get (fun _ => ScSt.empty) s.sc core

/-- The context a command runs in: context 0 for a radio command (R193). -/
def ScSt.ctx (t : ScSt) (radio : Bool) : Option ScCtx := if radio then t.radio else t.tenant
def ScSt.setCtx (t : ScSt) (radio : Bool) (x : Option ScCtx) : ScSt := if radio then { t with radio := x } else { t with tenant := x }

/-- The context that runs. -/
def ScSt.cur (t : ScSt) : Option ScCtx := t.running.bind t.ctx

/-- D_live and L_live at the packet boundary (R210): exact without an inner loop, else the bound that REP_CEIL gives. -/
def ScCtx.dLive (x : ScCtx) : Nat := match x.delay with
  | some d => d.1
  | none => 0
def ScCtx.lLive (x : ScCtx) (ceil : Nat) : Nat :=
  match x.loops with
  | [] => 0
  | [l] => (l.left - 1) * (l.stop + 1 - l.first) + (l.stop + 1 - x.pc)
  | _ => ceil - (x.cyc - x.base)

/-- SC_STATUS.STATE of a core that is not held (R232): a parked command without a running one is on its way back or is being displaced. -/
def ScSt.shown (t : ScSt) : Nat :=
  if t.halted then 5 else match t.running with
    | none => if t.tenant.isSome then 4 else 1
    | some r => if (t.cur.bind (·.ended)).isSome || t.req.isSome then 4 else if r then 2 else 3

/-- Show in SC_STATUS whether an S-core is held (R232). -/
def State.scShow (s : State) (core : Nat) : State := s.setFld core F.SC_STATUS_STATE (if s.scHeld core then 0 else (s.score core).shown)

/-- The core's waiting commands of an easel. -/
def ScSt.depth (t : ScSt) (e : Nat) : Nat := ((t.queue ++ t.granted).filter (fun c => decide (c.easel = e))).length

/-- Set an S-core and show it in its registers (R231 to R233); `e` is the easel whose queue may have changed. -/
def State.setScore (s : State) (core e : Nat) (t : ScSt) : State :=
  let s1 := { s with sc := SMap.set (fun _ => ScSt.empty) s.sc core t }
  let s2 := ((s1.setFld core F.SC_STATUS_STATE (if s.scHeld core then 0 else t.shown)).setFlag core F.SC_STATUS_PARKED
    (t.tenant.isSome && decide (t.running ≠ some false))).setFld core F.SC_STATUS_QDEPTH (t.queue ++ t.granted).length
  let pcOf := fun (o : Option ScCtx) => match o with
    | some x => x.pc
    | none => 0
  let s3 := (s2.setFld core F.SC_PC_PC0 (pcOf t.radio)).setFld core F.SC_PC_PC1 (pcOf t.tenant)
  let ceil := s3.fld 0 F.SC_LIMITS_REP_CEIL
  let s4 := match t.cur with
    | some x => (((s3.setFld core F.SC_LIVE_D_LIVE x.dLive).setFlag core F.SC_LIVE_LOOP (!x.loops.isEmpty)).setFlag core F.SC_LIVE_NESTED
        (decide (1 < x.loops.length))).setFld core F.SC_LIVE_L_LIVE (x.lLive ceil)
    | none => s3.setReg core F.SC_LIVE_D_LIVE.off 0
  (s4.setScBit F.SC_BUSY_BUSY core t.cur.isSome).setFld (ce core e) F.SC_EAS_QDEPTH_DEPTH (t.depth e)

/-! ### Takes (09 R288; 07 R223) -/

/-- An S-core command sends its take when it becomes its easel's next to launch. -/
def State.scTakes (s : State) (core : Nat) : State :=
  let t := s.score core
  let l := nextUnsent (fun c => c.scWaitEn && s.ownsLink c.easel c.scWaitLink) (t.granted ++ t.queue) []
  let ids := l.map (·.id)
  let s1 := s.setScore core 0 { t with queue := markSent ids t.queue, granted := markSent ids t.granted }
  forEach l (fun c u => u.sendTake c.scWaitSem (.score core c.id)) s1

/-! ### Packets (07 R197, R202 to R209) -/

/-- A slot word of a packet in an easel's PMEM share. -/
def State.scWord (s : State) (core e pc slot : Nat) : Nat := s.readLe (pmemKey core e (16 * pc + 4 * slot)) 4

/-- The address of an LS access (R202): AN + OFF. -/
def ScCtx.lsAddr (x : ScCtx) (w : Nat) : Nat := (((x.a (wA w) : Int) + wOff w) % 2 ^ 32).toNat

/-- Bytes of an LS access: 0 for VPERM and NOP. -/
def lsLen (op : Nat) : Nat :=
  if op = opVld ∨ op = opVst ∨ op = opLdf then 64 else if op = opLd ∨ op = opSt then 4 else 0

/-- Whether an S-core program of an easel may use a link: the easel's own, homed in the core's panel (09 R288). -/
def State.scLinkOk (s : State) (core e link : Nat) : Bool :=
  s.ownsLink e link && decide (s.fld link F.STR_CH_CFG_PANEL = core / 64)

/-- The status of R208 when the SB instruction is about to issue. -/
def ScCtx.slotIllegal (x : ScCtx) (w : Nat) : Bool :=
  let op := wOp w
  (x.delay.isSome && decide (op = opBr ∨ op = opRepeat ∨ op = opDone)) ||
  (!x.loops.isEmpty && decide (op = opBr ∨ op = opDone)) ||
  (decide (op = opRepeat) && (match x.loops with
    | [] => false
    | [l] => decide (l.stop < x.pc + wBody w)
    | _ => true))

/-- Why the packet about to issue ends the command instead (R202, R200, R208, R218, R220, R206, R288), without the repeat ceiling. -/
def State.scExcept (s : State) (core : Nat) (x : ScCtx) : Option Nat :=
  let e := x.cmd.easel
  let w := s.scWord core e x.pc
  let ls := w 2
  let sb := w 3
  let n := lsLen (wOp ls)
  let on := x.sbOn sb && decide (wOp sb ≠ opNop)
  if s.pmemLimit core e < 16 * x.pc + 16 then some stOutOfShare
  else if (List.range 4).any (fun i => wBad i (w i)) then some stOpcode
  else if (wNames (w 0)).any (fun a => decide (a ∈ wNames (w 1))) then some stIllegalSlot
  else if on && x.slotIllegal sb then some stIllegalSlot
  else if n ≠ 0 ∧ x.lsAddr ls % 4 ≠ 0 then some stAlign
  else if n ≠ 0 ∧ s.dmemLimit core e < x.lsAddr ls + n then some stOutOfShare
  else if on && decide (wOp sb = opBr) && decide (s.pmemLimit core e < 16 * wBits sb 0 12 + 16) then some stOutOfShare
  else if on && decide (wOp sb = opRepeat) && decide (65536 < x.count sb) then some stRepeatRange
  else if on && decide (wOp sb = opSemtry ∨ wOp sb = opSemsig) && !s.scLinkOk core e (wBits sb 0 11) then some stSem
  else none

/-- Whether the packet about to issue breaks the repeat ceiling (R209). -/
def State.scCeiling (s : State) (core : Nat) (x : ScCtx) : Bool :=
  let sb := s.scWord core x.cmd.easel x.pc 3
  let ceil := s.fld 0 F.SC_LIMITS_REP_CEIL
  (!x.loops.isEmpty && decide (ceil ≤ x.cyc - x.base)) ||
    (x.loops.isEmpty && decide (wOp sb = opRepeat) && x.sbOn sb && decide (ceil < x.count sb * wBody sb))

/-- Whether the command in context 1 has issued RUN_LEN packets and its overrun has not been raised yet (R212). -/
def ScCtx.overrunDue (x : ScCtx) : Bool := !x.cmd.radio && !x.overran && decide (x.cmd.scRunLen ≤ x.cyc)

/-- The packet counter after a packet whose last address is `pc`: the loops that end there wrap or end (R206). -/
def ScCtx.wrap (x : ScCtx) (pc : Nat) : List ScLoop → ScCtx
  | [] => { x with pc := pc + 1, loops := [] }
  | l :: r =>
    if l.stop ≤ pc then
      if 1 < l.left then { x with pc := l.first, loops := { l with left := l.left - 1 } :: r } else x.wrap pc r
    else { x with pc := pc + 1, loops := l :: r }

/-- The packet counter of the next packet: a branch on its way reaches its target after its third delay slot (R205). -/
def ScCtx.advance (x : ScCtx) : ScCtx :=
  match x.delay with
  | some (1, t) => { x with pc := t, delay := none }
  | some (n, t) => { x with pc := x.pc + 1, delay := some (n - 1, t) }
  | none => x.wrap x.pc x.loops

/-- A packet has issued: the writes due for the next one land. -/
def ScCtx.endPacket (x : ScCtx) : ScCtx :=
  let x1 := if x.ended.isSome then x else x.advance
  ({ x1 with cyc := x.cyc + 1, slot := 0 }).land (x.cyc + 1)

/-- The running context, when its packet's next slot may issue: a program runs, is not halted, and the packet has no exception. -/
def State.scGo (s : State) (core : Nat) : Option ScCtx :=
  let t := s.score core
  match t.cur with
  | none => none
  | some x =>
    if t.halted || x.ended.isSome || decide (x.cmd.opcode ≠ 1) then none
    else if x.slot = 0 ∧ ((s.scExcept core x).isSome ∨ s.scCeiling core x ∨ x.overrunDue) then none
    else some x

/-- The instruction `op` of the next slot issues: `f` is its effect on the context and the state. The SB slot, or an end of the command, ends the packet. -/
def State.scIssue (s : State) (core op : Nat) (f : Nat → ScCtx → State → ScCtx × State) : State :=
  match s.scGo core with
  | none => s
  | some x =>
    let w := s.scWord core x.cmd.easel x.pc x.slot
    if wOp w ≠ op then s
    else
      let (x1, s1) := f w x s
      let t := s1.score core
      if x.slot = 3 ∨ x1.ended.isSome then
        (s1.setScore core x.cmd.easel (t.setCtx x.cmd.radio (some x1.endPacket))).inc64 core F.SC_BUSYCYC_LO_CYCLES F.SC_BUSYCYC_HI_CYCLES 1
      else s1.setScore core x.cmd.easel (t.setCtx x.cmd.radio (some { x1 with slot := x.slot + 1 }))

/-- An instruction that acts on the context alone. -/
def State.scPure (s : State) (core op : Nat) (f : Nat → ScCtx → ScCtx) : State := s.scIssue core op (fun w x u => (f w x, u))

/-! ### Launch (07 R193, R194, R223, R225) -/

/-- The status of the checks of a command word, OK when it passes. -/
def State.scCheck (s : State) (core : Nat) (c : Cmd) : Nat :=
  let e := c.easel
  let pm := decide (c.opcode = 3 ∧ c.scArg 2 % 2 = 1)
  let lim := if pm then s.pmemLimit core e else s.dmemLimit core e
  if ¬ (c.opcode = 1 ∨ c.opcode = 3 ∨ c.opcode = 4 ∨ c.opcode = 6) ∨ !c.scReservedZero then stOpcode
  else if c.opcode = 3 ∧ lim < 4096 * c.scArg 1 then stShape
  else if c.opcode = 6 ∧ (s.pmemLimit core e < 16 * c.scArg 1 ∨ s.dmemLimit core e < 16 * c.scArg 1) then stShape
  else if c.opcode = 6 ∧ c.scArg 0 % 4 ≠ 0 then stAlign
  else if c.opcode = 3 ∧ lim < 4096 * (c.scArg 0 + c.scArg 1) then stOutOfShare
  else if c.opcode = 6 ∧ (s.dmemLimit core e < c.scArg 0 + 16 * c.scArg 1 ∨ s.pmemLimit core e < 16 * (c.scEntry + c.scArg 1)) then stOutOfShare
  else if (c.scWaitEn && !s.ownsLink e c.scWaitLink) || (c.scSignalEn && !s.ownsLink e c.scSignalLink) then stSem
  else stOk

/-- Whether a granted command can launch: it is its easel's next, every earlier command of its easel on the core has completed, its take is granted, and its
context is free (R223). -/
def State.scCanLaunch (s : State) (core : Nat) (before : List Cmd) (c : Cmd) : Bool :=
  let t := s.score core
  before.all (fun b => decide (b.easel ≠ c.easel ∨ b.radio ≠ c.radio)) && !t.halted && t.running.isNone && (t.ctx c.radio).isNone &&
  (!c.scWaitEn || s.takeGranted (.score core c.id) || !s.ownsLink c.easel c.scWaitLink)

/-- The effect of a command that passed its checks, and the status it ends with at once, if it is no program (R225): RELEASE zeroes units; MARK does nothing; LOADPROG copies
packets from DMEM to PMEM, and a poisoned line ends it. `ecc` is what the check of its reads finds. -/
def State.scEffect (s : State) (core : Nat) (ecc : Option EccEvent) (c : Cmd) : State × Option Nat :=
  match c.opcode with
  | 3 =>
    let k := if c.scArg 2 % 2 = 1 then pmemKey core c.easel (4096 * c.scArg 0) else dmemKey core c.easel (4096 * c.scArg 0)
    ((((s.zeroBytes k (4096 * c.scArg 1)).clearUsed k (4096 * c.scArg 1)).scWatermark core c.easel), some stOk)
  | 4 => (s, some stOk)
  | 6 =>
    let k := dmemKey core c.easel (c.scArg 0)
    let u1 := s.dmemEcc core c.easel stPoison (ecc.getD ⟨.ok, c.scArg 0 / 64, 0⟩)
    if u1.poisoned k (16 * c.scArg 1) then (u1, some stPoison)
    else (u1.pmemStore core c.easel (16 * c.scEntry) (u1.readBytes k (16 * c.scArg 1)), some stOk)
  | _ => (s, none)

/-- The first granted command that satisfies `p` and can launch. -/
def State.scFind (s : State) (core : Nat) (p : Cmd → Bool) : List Cmd → List Cmd → Option Cmd
  | _, [] => none
  | before, c :: r => if p c && s.scCanLaunch core before c then some c else s.scFind core p (before ++ [c]) r

/-- A command launches in its context; `st` is the status it ends with at once, if any (R194, R223, R232). -/
def State.scStart (s : State) (core : Nat) (c : Cmd) (st : Option Nat) : State :=
  let s1 := s.useTake (.score core c.id)
  let t := s1.score core
  let x := { ScCtx.start c with ended := st.map (fun v => (v, c.scEntry)) }
  let t1 := { (t.setCtx c.radio (some x)) with running := some c.radio, granted := t.granted.filter (fun d => decide (d.id ≠ c.id)) }
  ((s1.setScore core c.easel t1).setFld core F.SC_STATUS_LAST_EASEL c.easel).scTakes core

/-- A granted command launches: one that fails a check ends at once with that status, and has no other effect. -/
def State.scLaunch (s : State) (core : Nat) (ecc : Option EccEvent) (c : Cmd) : State :=
  let st := s.scCheck core c
  if st = stOk then (s.scEffect core ecc c).1.scStart core c (s.scEffect core ecc c).2 else s.scStart core c (some st)

/-- Launch the first granted command of an opcode. -/
def State.scLaunchOp (s : State) (core op : Nat) (ecc : Option EccEvent) : State :=
  match s.scFind core (fun c => decide (c.opcode = op)) [] (s.score core).granted with
  | none => s
  | some c => s.scLaunch core ecc c

/-- A granted command with an opcode that R225 does not give launches and ends with OPCODE. -/
def State.scLaunchBad (s : State) (core : Nat) : State :=
  match s.scFind core (fun c => decide (¬ (c.opcode = 1 ∨ c.opcode = 3 ∨ c.opcode = 4 ∨ c.opcode = 6))) [] (s.score core).granted with
  | none => s
  | some c => s.scStart core c (some stOpcode)

/-! ### Completion (07 R223, R226, R227) -/

/-- The 16-byte record (R227). -/
def scRecord (tag status : Nat) (overran parked : Bool) (easel core pc packets parkedCyc : Nat) : List Nat :=
  leBytes 2 tag ++ leBytes 1 status ++ leBytes 1 ((if overran then 1 else 0) + (if parked then 2 else 0)) ++ leBytes 1 easel ++ leBytes 1 core ++
    leBytes 2 pc ++ leBytes 4 packets ++ leBytes 4 parkedCyc

/-- Statuses that a memory or program fault of the core causes (R231 SC_FAULT). -/
def scFaults (st : Nat) : Bool :=
  decide (st = stOpcode ∨ st = stAlign ∨ st = stOutOfShare ∨ st = stPoison ∨ st = stSem ∨ (0x20 ≤ st ∧ st ≤ 0x23))

/-- The address of DMEM or PMEM that an OUT_OF_SHARE of a command refuses (21 R573). -/
def State.scRefused (s : State) (core : Nat) (x : ScCtx) : Nat :=
  if x.cmd.opcode ≠ 1 then (if x.cmd.opcode = 3 then 4096 * x.cmd.scArg 0 else x.cmd.scArg 0)
  else if s.pmemLimit core x.cmd.easel < 16 * x.pc + 16 then 16 * x.pc
  else
    let ls := s.scWord core x.cmd.easel x.pc 2
    if lsLen (wOp ls) ≠ 0 ∧ s.dmemLimit core x.cmd.easel < x.lsAddr ls + lsLen (wOp ls) then x.lsAddr ls
    else 16 * wBits (s.scWord core x.cmd.easel x.pc 3) 0 12

/-- Count an error completion (R232, R233); OUT_OF_SHARE raises a usage fault (21 R574). -/
def State.scError (s : State) (core : Nat) (c : Cmd) (st pc addr : Nat) : State :=
  if isError st then
    let s1 := ((((s.setFld core F.SC_ERR_LAST_TAG c.tag).setFld core F.SC_ERR_LAST_STATUS st).setFld core F.SC_ERR_LAST_EASEL c.easel).setFld
      core F.SC_ERR_PC_PC pc).incSat core F.SC_ERR_COUNT_COUNT 1
    let s2 := s1.incSat (ce core c.easel) F.SC_EAS_ERRORS_COUNT 1
    let s3 := if scFaults st then s2.setScBit F.SC_FAULT_FAULT core true else s2
    if st = stOutOfShare then s3.usageFault c.easel ukScore core addr ufOutOfShare else s3
  else s

/-- Post the record of a command: the radio pipeline consumes a radio command's (10 R333). Either is complete then, and a step end is judged (R223; 02 R48). -/
def State.scPost (s : State) (core : Nat) (c : Cmd) (st pc addr packets parkedCyc : Nat) (overran parked : Bool) : State :=
  let s1 := (s.scError core c st pc addr).incWrap core F.SC_DONE_COUNT 1
  let s2 := s1.incWrap (ce core c.easel) F.SC_EAS_DONE_COUNT 1
  (if c.radio then s2 else s2.postRecord c.easel kindScore (scRecord c.tag st overran parked c.easel core pc packets parkedCyc)).retire c.easel c.id c.stepEnd

/-- The program image of a CELLMAP core is loaded from the sealed RADIO_CODE copy: the program from packet 0 of easel 0's PMEM share, the DMEM part at DM_ADDR
(R222, R229; 03 R71). -/
def State.loadImage (s : State) (core : Nat) : State :=
  match s.cellOfCore core with
  | none => s
  | some c =>
    let b := s.sec secRadioCode
    match imageEntry b (s.cellLe c 0xA 2) with
    | none => s
    | some o =>
      let at_ := b.le (o + 4) 4
      let pm := b.le (o + 8) 4
      let dm := b.le (o + 12) 4
      (s.pmemStore core 0 0 (blobSlice b at_ pm)).dmemStore core 0 (b.le (o + 16) 4) (blobSlice b (at_ + pm) dm)

/-- The running command ends: its signal, its record, its context free (R223). A parked command returns when no radio command waits on the core; where one does, the next
decision point gives it the core or lets the parked one return (R211; 10 R318). -/
def State.scEnd (s : State) (core : Nat) (x : ScCtx) (st pc parkedCyc : Nat) : State :=
  let c := x.cmd
  let s1 := if c.scSignalEn && s.ownsLink c.easel c.scSignalLink then s.sendSignal c.scSignalSem else s
  let t := s1.score core
  let t1 := t.setCtx c.radio none
  let back := c.radio && t1.tenant.isSome && !(t1.queue ++ t1.granted).any (·.radio)
  let s2 := s1.setScore core c.easel { t1 with running := if back then some false else none, req := none }
  (s2.scPost core c st pc (s.scRefused core x) x.cyc parkedCyc x.overran x.parked).showMoving

/-- An uncorrectable PMEM error found by a fetch: counted and reported; a CELLMAP core reloads its image (R222). -/
def State.pmemUe (s : State) (core : Nat) (x : ScCtx) (injected : Bool) : State :=
  let s1 := (s.incSat core F.SC_MEM_UE_PM 1).setScBit F.SC_FAULT_FAULT core true
  (s1.detect (132 + core / 64) x.cmd.easel ukScore core (16 * x.pc) stPmemError sevContained injected).loadImage core

/-- OVERRUN (07 R212). -/
def execOverrun (core : Fin 192) (s : State) : Res :=
  match (s.score core).cur with
  | none => .next s
  | some x =>
    if x.overrunDue ∧ x.cmd.opcode = 1 ∧ x.ended.isNone ∧ x.slot = 0 then
      let t := s.score core
      let s1 := s.setScore core x.cmd.easel (t.setCtx false (some { x with overran := true }))
      .next ((s1.incSat (ce core x.cmd.easel) F.SC_EAS_OVERRUNS_COUNT 1).usageFault x.cmd.easel ukScore core 0 ufOverrun)
    else .next s

/-- PREEMPT_SWITCH (07 R195, R211): at the first boundary with no delay slots or loop left the command of context 1 parks, its results land, and the radio
command granted starts. A command that an exception ends at that boundary completes instead. `ecc` is what the check of the reads of a LOADPROG that starts finds. -/
def execPreemptSwitch (core : Fin 192) (ecc : Option EccEvent) (s : State) : Res :=
  let t := s.score core
  match t.running, t.tenant, t.granted.find? (·.radio) with
  | some false, some x, some c =>
    if x.cmd.opcode = 1 ∧ x.slot = 0 ∧ x.delay.isNone ∧ x.loops.isEmpty ∧ x.ended.isNone ∧ t.radio.isNone ∧ t.halted = false ∧
        (s.scExcept core x).isNone ∧ s.scCeiling core x = false then
      let y := { x.landAll with parked := true }
      let s1 := s.setScore core x.cmd.easel { t with tenant := some y, running := none, req := none }
      let s2 := (s1.incWrap core F.SC_PREEMPT_COUNT 1).setFld core F.SC_PREEMPT_MAX_TSW
        (max (s.fld core F.SC_PREEMPT_MAX_TSW) (min 0xFFFF (t.req.getD 4)))
      .next (s2.scLaunch core ecc c)
    else .next s
  | _, _, _ => .next s

/-- DEBUG_HALT (07 R211; 20 R567): a halt of an S-core takes effect at the first boundary with no delay slots or loop left. -/
def execDebugHalt (core : Fin 192) (s : State) : Res :=
  let t := s.score core
  let held := match t.cur with
    | some x => decide (x.slot ≠ 0) || x.delay.isSome || !x.loops.isEmpty
    | none => false
  if s.power powHalt && !held && !t.halted then
    let t1 := match t.running, t.cur with
      | some r, some x => t.setCtx r (some x.landAll)
      | _, _ => t
    .next (s.setScore core 0 { t1 with halted := true })
  else .next s

/-! ### Commands other than programs (07 R223, R225) -/

/-- SC_RUN (07 R223, R194). -/
def execScRun (core : Fin 192) (s : State) : Res := .next (s.scLaunchOp core 1 none)

/-- SC_RELEASE (07 R225). -/
def execScRelease (core : Fin 192) (s : State) : Res :=
  .next (s.scLaunchOp core 3 none)

/-- SC_MARK (07 R225). -/
def execScMark (core : Fin 192) (s : State) : Res := .next (s.scLaunchOp core 4 none)

/-- SC_LOADPROG (07 R225): packets are copied from DMEM to PMEM; a poisoned line ends it. -/
def execScLoadprog (core : Fin 192) (ecc : Option EccEvent) (s : State) : Res :=
  .next (s.scLaunchOp core 6 ecc)

end Sys2Proof.Machine
end

