-- ==== Sys2Proof/Machine/ScoreIsa.lean ====
section
/-! DEFINITION. Machine/ScoreIsa.lean: the instructions of the S-cores (07 R203 to R209, R213 to R218). Each command is one slot of the packet that issues on the
core; a slot whose word is another instruction, or a packet that ends the command, is left to its own command. -/
namespace Sys2Proof.Machine

open Sys2Proof

/-! ### Narrowing and vector results (R213 to R215) -/

/-- A result narrowed to `bits` bits: clamped with SAT, else its low bits. -/
def fitTo (bits : Nat) (sat : Bool) (v : Int) : Nat := ((if sat then satInt bits v else v) % 2 ^ bits).toNat

/-- Write the enabled lanes of a vector register with latency 2 (R198, R204). -/
def ScCtx.vecOut (x : ScCtx) (w : Nat) (cplx : Bool) (f : Nat → Nat) : ScCtx :=
  forUpto 32 (fun i y => if x.en w cplx i then y.push 2 (kV (wD w) i) (f i) else y) x

/-- A lane-wise operation of two vectors whose result is narrowed. -/
def vecOp (g : Int → Int → Int) (w : Nat) (x : ScCtx) : ScCtx :=
  x.vecOut w (wCplx w) (fun i => fitTo 16 (wSat w) (g (x.v (wA w) i) (x.v (wB w) i)))

/-- The real or imaginary component, by lane, of the product of two CI16 values (R213; 06 R183), the second conjugated when `conj` is set. -/
def cmulLane (conj : Bool) (i : Nat) (ar ai br bi : Int) : Int :=
  let b := if conj then -bi else bi
  if i % 2 = 0 then ar * br - ai * b else ar * b + ai * br

/-- Add to the enabled values of accumulator D, as they stand after every accumulate before (R200, R215). -/
def ScCtx.accum (x : ScCtx) (w : Nat) (cplx : Bool) (f : Nat → Int) : ScCtx :=
  forUpto 32 (fun i y =>
    if x.en w cplx i then
      let v := fitTo 40 (wSat w) (sext 40 (y.rd (kSum (wD w) i)) + f i)
      (y.put (kSum (wD w) i) v).push 4 (kAcc (wD w) i) v
    else y) x

/-- Shift a delay line down by `n` real lanes (R216). -/
def ScCtx.shiftDl (x : ScCtx) (d n : Nat) : ScCtx :=
  forUpto 96 (fun i y => y.push 1 (kD d i) (if i + n < 96 then x.rd (kD d (i + n)) else 0)) x

/-! ### MA and MB -/

/-- NOP (R203), in any slot. -/
def execNop (core : Fin 192) (s : State) : Res := .next (s.scPure core opNop (fun _ x => x))

/-- VADD (R203, R215). -/
def execVadd (core : Fin 192) (s : State) : Res := .next (s.scPure core opVadd (vecOp (· + ·)))

/-- VSUB (R203, R215). -/
def execVsub (core : Fin 192) (s : State) : Res := .next (s.scPure core opVsub (vecOp (· - ·)))

/-- VMAC (R200, R203, R213). -/
def execVmac (core : Fin 192) (s : State) : Res :=
  .next (s.scPure core opVmac (fun w x => x.accum w false (fun i => x.v (wA w) i * x.v (wB w) i)))

/-- VCMAC (R200, R203, R213): IMM bit 0 conjugates B. -/
def execVcmac (core : Fin 192) (s : State) : Res :=
  .next (s.scPure core opVcmac (fun w x => x.accum w true (fun i =>
    let j := i / 2 * 2
    cmulLane ((wImm w).testBit 0) i (x.v (wA w) j) (x.v (wA w) (j + 1)) (x.v (wB w) j) (x.v (wB w) (j + 1)))))

/-- TAP.C (R216). -/
def execTapC (core : Fin 192) (s : State) : Res :=
  .next (s.scPure core opTapC (fun w x =>
    let l := 2 * (wImm w % 16)
    (x.accum w true (fun i =>
      let j := i / 2 * 2
      cmulLane ((wImm w).testBit 5) i (x.dl (wA w) j) (x.dl (wA w) (j + 1)) (x.v (wB w) l) (x.v (wB w) (l + 1)))).shiftDl (wA w) 2))

/-- TAP.R (R216). -/
def execTapR (core : Fin 192) (s : State) : Res :=
  .next (s.scPure core opTapR (fun w x =>
    (x.accum w false (fun i => x.dl (wA w) i * x.v (wB w) (wImm w % 32))).shiftDl (wA w) 1))

/-- VPACK (R203, R214, R215). -/
def execVpack (core : Fin 192) (s : State) : Res :=
  .next (s.scPure core opVpack (fun w x => x.vecOut w (wCplx w) (fun i =>
    fitTo 16 (wSat w) (sext 40 (x.rd (kAcc (wA w) i)) / 2 ^ wImm w))))

/-- VSHR (R203, R214). -/
def execVshr (core : Fin 192) (s : State) : Res := .next (s.scPure core opVshr (fun w x => vecOp (fun a _ => a / 2 ^ wImm w) w x))

/-- VSHL (R203, R215). -/
def execVshl (core : Fin 192) (s : State) : Res := .next (s.scPure core opVshl (fun w x => vecOp (fun a _ => a * 2 ^ wImm w) w x))

/-- VMAX (R203). -/
def execVmax (core : Fin 192) (s : State) : Res := .next (s.scPure core opVmax (vecOp max))

/-- VMIN (R203). -/
def execVmin (core : Fin 192) (s : State) : Res := .next (s.scPure core opVmin (vecOp min))

/-- VCONJ (R203): the imaginary component −32,768 has no conjugate within 16 bits, and its result is a free value. -/
def execVconj (core : Fin 192) (s : State) : Res :=
  .next (s.scPure core opVconj (fun w x => x.vecOut w true (fun i =>
    let a := x.v (wA w) i
    if i % 2 = 0 then fitTo 16 false a else if a = -32768 then (Config.scConjMost (wSat w)).toNat else fitTo 16 false (-a))))

/-- VSEL (R203): PRED chooses between A and B, and every lane is written. -/
def execVsel (core : Fin 192) (s : State) : Res :=
  .next (s.scPure core opVsel (fun w x => forUpto 32 (fun i y =>
    y.push 2 (kV (wD w) i) (x.rd (kV (if x.en w (wCplx w) i then wA w else wB w) i))) x))

/-- VCLR (R200, R203). -/
def execVclr (core : Fin 192) (s : State) : Res :=
  .next (s.scPure core opVclr (fun w x => forUpto 32 (fun i y =>
    if x.en w (wCplx w) i then (y.put (kSum (wD w) i) 0).push 1 (kAcc (wD w) i) 0 else y) x))

/-! ### LS (R202, R218) -/

/-- POST: AN takes the address of the access. -/
def ScCtx.post (x : ScCtx) (w : Nat) : ScCtx := if wPost w then x.push 1 (kA (wA w)) (x.lsAddr w) else x

/-- A load of `n` bytes: a poisoned line ends the command with POISON (R222); else `f` takes the bytes. -/
def State.scLoad (s : State) (core n : Nat) (ecc : Option EccEvent) (w : Nat) (x : ScCtx) (f : List Nat → ScCtx) : ScCtx × State :=
  let e := x.cmd.easel
  let a := x.lsAddr w
  let s1 := s.dmemEcc core e stPoison (ecc.getD ⟨.ok, a / 64, 0⟩)
  let k := dmemKey core e a
  if s1.poisoned k n then ({ x with ended := some (stPoison, x.pc) }, s1) else ((f (s1.readBytes k n)).post w, s1)

/-- A 16-bit lane of loaded bytes. -/
def laneAt (bs : List Nat) (i : Nat) : Nat := nth 0 bs (2 * i) + 256 * nth 0 bs (2 * i + 1)

/-- VLD (R203, R204, R218, R222). -/
def execVld (core : Fin 192) (ecc : Option EccEvent) (s : State) : Res :=
  .next (s.scIssue core opVld (fun w x u => u.scLoad core 64 ecc w x (fun bs =>
    forUpto 32 (fun i y => if x.en w false i then y.push 4 (kV (wD w) i) (laneAt bs i) else y) x)))

/-- LDF (R203, R217): PART p of delay line DL. -/
def execLdf (core : Fin 192) (ecc : Option EccEvent) (s : State) : Res :=
  .next (s.scIssue core opLdf (fun w x u => u.scLoad core 64 ecc w x (fun bs =>
    forUpto 32 (fun i y => if x.en w false i then y.pushLate 4 (kD (wBits w 18 2) (32 * wBits w 20 2 + i)) (laneAt bs i) else y) x)))

/-- The bits of a 32-bit word whose 16-bit halves PRED enables (R204). -/
def ScCtx.halves (x : ScCtx) (w : Nat) : Nat := (if x.en w false 0 then 0xFFFF else 0) + (if x.en w false 1 then 0xFFFF0000 else 0)

/-- LD (R203, R204, R218, R222). -/
def execLd (core : Fin 192) (ecc : Option EccEvent) (s : State) : Res :=
  .next (s.scIssue core opLd (fun w x u => u.scLoad core 4 ecc w x (fun bs =>
    if wD w = 0 then x
    else { x with wr := x.wr ++ [⟨x.cyc + 3, kA (wD w), ofLe bs &&& x.halves w, 0xFFFFFFFF - x.halves w, false⟩] })))

/-- Store the enabled 16-bit elements of `n` (R204): all of them as one store, so that a whole line loses its poison (R222). -/
def State.scStore (s : State) (core : Nat) (w : Nat) (x : ScCtx) (vals : List Nat) : ScCtx × State :=
  let e := x.cmd.easel
  let a := x.lsAddr w
  let bs := (vals.map (leBytes 2)).flatten
  let ens := (List.range vals.length).filter (x.en w false)
  let s1 := if ens.length = vals.length then s.dmemStore core e a bs
    else forEach ens (fun i u => u.dmemStore core e (a + 2 * i) (leBytes 2 (nth 0 vals i))) s
  (x.post w, s1)

/-- VST (R201, R203, R204, R221). -/
def execVst (core : Fin 192) (s : State) : Res :=
  .next (s.scIssue core opVst (fun w x u => u.scStore core w x ((List.range 32).map (fun i => x.rd (kV (wD w) i)))))

/-- ST (R201, R203, R204, R221). -/
def execSt (core : Fin 192) (s : State) : Res :=
  .next (s.scIssue core opSt (fun w x u => u.scStore core w x [x.a (wD w) % 65536, x.a (wD w) / 65536]))

/-- VPERM (R203): a lane index of 32 or more takes a free value. -/
def execVperm (core : Fin 192) (s : State) : Res :=
  .next (s.scPure core opVperm (fun w x => x.vecOut w false (fun i =>
    let j := x.rd (kV (wBits w 0 5) i)
    if j < 32 then x.rd (kV (wA w) j) else (Config.scPermLane j).toNat)))

/-! ### SB (R203 to R206, R215) -/

/-- An SB instruction, which issues only when bit 0 of its predicate is set (R204). -/
def State.scSb (s : State) (core op : Nat) (f : Nat → ScCtx → ScCtx) : State :=
  s.scPure core op (fun w x => if x.sbOn w then f w x else x)

/-- The second operand of the scalar ALU: the signed immediate or B (R202). -/
def ScCtx.aluB (x : ScCtx) (w : Nat) : BitVec 32 :=
  if wBits w 11 1 = 1 then BitVec.ofInt 32 (sext 11 (wBits w 0 11)) else BitVec.ofNat 32 (x.a (wBits w 0 5))

/-- A scalar ALU operation, with latency 1; its result wraps. -/
def State.scAlu (s : State) (core op : Nat) (g : BitVec 32 → BitVec 32 → BitVec 32) : State :=
  s.scSb core op (fun w x => x.push 1 (kA (wD w)) (g (BitVec.ofNat 32 (x.a (wA w))) (x.aluB w)).toNat)

/-- ADD (R203). -/
def execAdd (core : Fin 192) (s : State) : Res := .next (s.scAlu core opAdd (· + ·))

/-- SUB (R203). -/
def execSub (core : Fin 192) (s : State) : Res := .next (s.scAlu core opSub (· - ·))

/-- AND (R203). -/
def execAndS (core : Fin 192) (s : State) : Res := .next (s.scAlu core opAnd (· &&& ·))

/-- OR (R203). -/
def execOrS (core : Fin 192) (s : State) : Res := .next (s.scAlu core opOr (· ||| ·))

/-- XOR (R203). -/
def execXorS (core : Fin 192) (s : State) : Res := .next (s.scAlu core opXor (· ^^^ ·))

/-- SHL (R203, R215): a count of 32 or more leaves a free value. -/
def execShl (core : Fin 192) (s : State) : Res :=
  .next (s.scAlu core opShl (fun a b => if b.toNat < 32 then a <<< b.toNat else Config.scShiftOver false a b))

/-- SHR (R203, R214): arithmetic; a count of 32 or more leaves a free value. -/
def execShr (core : Fin 192) (s : State) : Res :=
  .next (s.scAlu core opShr (fun a b => if b.toNat < 32 then a.sshiftRight b.toNat else Config.scShiftOver true a b))

/-- CMP (R203): EQ, NE, LT, GE of signed values. -/
def execCmp (core : Fin 192) (s : State) : Res :=
  .next (s.scSb core opCmp (fun w x =>
    let a := BitVec.ofNat 32 (x.a (wA w))
    let b := x.aluB w
    let r := match wBits w 20 2 with
      | 0 => a == b
      | 1 => a != b
      | 2 => a.slt b
      | _ => !a.slt b
    x.push 1 (kP (wBits w 17 3)) (if r then 2 ^ 32 - 1 else 0)))

/-- BR (R205): three delay slots. -/
def execBr (core : Fin 192) (s : State) : Res :=
  .next (s.scSb core opBr (fun w x => { x with delay := some (4, wBits w 0 12) }))

/-- REPEAT (R206, R207): a count of zero skips the body. -/
def execRepeatLoop (core : Fin 192) (s : State) : Res :=
  .next (s.scSb core opRepeat (fun w x =>
    let n := x.count w
    if n = 0 then { x with pc := x.pc + wBody w }
    else { x with loops := ⟨x.pc + 1, x.pc + wBody w, n⟩ :: x.loops, base := if x.loops.isEmpty then x.cyc + 1 else x.base }))

/-- SEMTRY (R203; 09 R288): one count is taken if one is there and no take waits. -/
def execSemtry (core : Fin 192) (s : State) : Res :=
  .next (s.scIssue core opSemtry (fun w x u =>
    if x.sbOn w then
      let sem := semId (wBits w 0 11) (decide (wBits w 11 1 = 1))
      let k := kP (wBits w 19 3)
      if u.semCount sem ≠ 0 ∧ (u.semWaiters sem).isEmpty then (x.push 4 k (2 ^ 32 - 1), u.setSem sem (u.semCount sem - 1))
      else (x.push 4 k 0, u)
    else (x, u)))

/-- SEMSIG (R203; 09 R287, R289). -/
def execSemsig (core : Fin 192) (s : State) : Res :=
  .next (s.scIssue core opSemsig (fun w x u =>
    if x.sbOn w then (x, u.sendSignal (semId (wBits w 0 11) (decide (wBits w 11 1 = 1)))) else (x, u)))

/-- DONE (R203, R223): the command ends; its record follows with SC_COMPLETION. -/
def execDoneCmd (core : Fin 192) (s : State) : Res :=
  .next (s.scSb core opDone (fun _ x => { x with ended := some (stOk, x.pc) }))

end Sys2Proof.Machine
end

