-- ==== Sys2Proof/Machine/Sched.lean ====
section
/-! DEFINITION. Machine/Sched.lean: submission rings and admission (10 R314 to R317, R607), grants (R318 to R326, R608), modes (R310 to R313), and the writes
that drive them. -/
namespace Sys2Proof.Machine

open Sys2Proof

/-! ### Who may write an easel's registers (R337) -/

/-- The owner of an easel's window: its VF, or PF0 and the Atelier cores for easel 0. -/
def ownsEas (req : Requester) (e : Nat) : Bool :=
  match req with
  | .vf n => decide (n.val = e)
  | _ => decide (e = 0)

/-! ### Rings (R314, R336) -/

/-- EAS_SQ_TAIL (R314): a fetch that failed may be tried again (R607). -/
def execSqTailWrite (req : Requester) (tail : BitVec 16) (s : State) : Res :=
  s.access req F.EAS_SQ_TAIL_TAIL.off (fun easel =>
    if ownsEas req easel && decide (tail.toNat < 2 ^ s.fld easel F.EAS_SQ_SIZE_SIZE) then
      .next ((s.setFld easel F.EAS_SQ_TAIL_TAIL tail.toNat).ringRetry (sqRing easel))
    else .next s)

/-- EAS_CTRL.ENABLE is set (R314, R334, R335, R607): heads and tails of both rings are zero, and RING_FAULT clears. -/
def State.easEnable (s : State) (e : Nat) : State :=
  if s.flag e F.EAS_CTRL_ENABLE then s
  else
    let s1 := ((s.setFlag e F.EAS_CTRL_ENABLE true).setFld e F.EAS_SQ_TAIL_TAIL 0).setFld e F.EAS_SQ_HEAD_HEAD 0
    let s2 := (((s1.setRingNote (sqRing e) 0).setRingNote (cqRing e) 0).setFld e F.EAS_CQ_HEAD_HEAD 0).setFld e F.EAS_CQ_TAIL_TAIL 0
    let s3 := { s2 with sched := { s2.sched with ring := SMap.set ringDefault s2.sched.ring e RingPos.start } }
    ((s3.setFlag e F.EAS_STATUS_RING_WAIT false).showCqFull e).deliver e

/-- EASEL_ENABLE (R314). -/
def execEaselEnable (req : Requester) (s : State) : Res :=
  s.access req F.EAS_CTRL_ENABLE.off (fun easel =>
    .next (if ownsEas req easel then s.easEnable easel else s))

/-- EAS_CQ_HEAD: held delivery resumes (R336, R607). -/
def execCqHeadWrite (req : Requester) (head : BitVec 16) (s : State) : Res :=
  s.access req F.EAS_CQ_HEAD_HEAD.off (fun easel =>
    if ownsEas req easel && decide (head.toNat < 2 ^ s.fld easel F.EAS_CQ_SIZE_SIZE) then
      .next ((((s.setFld easel F.EAS_CQ_HEAD_HEAD head.toNat).ringRetry (cqRing easel)).showCqFull easel).deliver easel)
    else .next s)

/-- Whether the submission ring has an entry that admission may take (R314, R607; 18 R515). -/
def State.sqWaiting (s : State) (e : Nat) : Bool :=
  s.flag e F.EAS_CTRL_ENABLE && !NSet.has e s.ten.stopped && decide (s.fld e F.EAS_SQ_TAIL_TAIL ≠ s.fld e F.EAS_SQ_HEAD_HEAD ∧ s.ringNote (sqRing e) ≠ 1)

/-- The address of the submission ring's head entry. -/
def State.sqAddr (s : State) (e : Nat) : Nat :=
  s.fld64 e F.EAS_SQ_BASE_LO_ADDR F.EAS_SQ_BASE_HI_ADDR + 128 * s.fld e F.EAS_SQ_HEAD_HEAD

/-- Fetch the head entry (R607): none when it cannot be read. `host` holds its bytes in host memory. -/
def State.sqFetch (s : State) (e : Nat) (host : Blob) : Option (List Nat) × State :=
  let a := s.sqAddr e
  if s.flag e F.EAS_SQ_SIZE_SPACE then
    if s.inShare e a 128 then
      let m := s.bondLoad e a 128 stPoison none
      (some m.data, m.st.setRingNote (sqRing e) 0)
    else (none, s.ringFault (sqRing e) a true)
  else if !s.hostUp then (none, s)
  else if s.translates e a then (some (blobSlice host 0 128), (s.setRingNote (sqRing e) 0).countUnits e F.CXL_EAS_HOST_RD_UNITS 65536 128)
  else (none, s.ringFault (sqRing e) a false)

/-- The head entry leaves the ring. -/
def State.sqAdvance (s : State) (e : Nat) : State :=
  (s.setFld e F.EAS_SQ_HEAD_HEAD ((s.fld e F.EAS_SQ_HEAD_HEAD + 1) % 2 ^ s.fld e F.EAS_SQ_SIZE_SIZE)).setFlag e F.EAS_STATUS_RING_WAIT false

/-- Whether PARTITION lets a core grant commands of an easel (R313): always in normal service. -/
def State.coreServes (s : State) (owner : Fld) (core e : Nat) : Bool := !s.flag 0 F.SCH_MODE_PARTITIONED || s.coreOwned owner core e

/-! ### Entries that cannot be executed (R317) -/

/-- Kinds that name a source: cores, channels, and those of the chapters on the sequence engine and embedding gather (R315; 11 R346; 12 R370). -/
def kindKnown (k : Nat) : Bool := decide ((1 ≤ k ∧ k ≤ 3) ∨ (0x10 ≤ k ∧ k ≤ 0x15) ∨ k = 0x18)

/-- Whether `n` bytes of a list from an offset are zero. -/
def zeroAt (d : List Nat) (o n : Nat) : Bool := ((d.drop o).take n).all (fun b => decide (b = 0))

/-- Bytes of the BODY that a kind of a core or channel uses. -/
def bodyLen (kind : Nat) : Nat := if kind = 1 then 64 else if kind = 2 then 32 else 11

/-- Every reserved field of an entry is zero (R315). -/
def entryZero (d : List Nat) (kind : Nat) : Bool :=
  zeroAt d 1 1 && zeroAt d 4 12 && zeroAt d (16 + bodyLen kind) (112 - bodyLen kind) && (decide (kind ≠ 3) || decide (nth 0 d 26 ≤ 1))

/-- Targets of a kind. -/
def targets (kind : Nat) : Nat := if kind = 1 then 48 else if kind = 2 then 192 else 2048

/-- Words of a command with the EASEL field written by the scheduler (R154, R316). -/
def cmdWords (d : List Nat) (n e : Nat) : List Nat :=
  (List.range n).map (fun i =>
    let w := fieldLe d (16 + 4 * i) 4
    if i = 0 then w - w / 256 % 64 * 256 + e * 256 else w)

/-- The command of an entry. -/
def entryCmd (d : List Nat) (kind e id : Nat) : Cmd := ⟨id, e, cmdWords d (if kind = 1 then 16 else 8) e, false, 0, 0, false, false⟩

/-- Why an entry of a core or channel completes at admission, if it does (R313, R317; 07 R225). -/
def State.entryRefused (s : State) (e : Nat) (d : List Nat) : Option Nat :=
  let kind := nth 0 d 0
  let target := fieldLe d 2 2
  let c := entryCmd d kind e 0
  let foreign := fun f => !s.coreServes f target e
  if !kindKnown kind || !entryZero d kind then some stOpcode
  else if targets kind ≤ target then some stShape
  else if kind = 3 ∧ !s.ownsLink e target then some stChannel
  else if (decide (kind = 1) && foreign F.TC_PARTITION_OWNER) || (decide (kind = 2) && foreign F.SC_PARTITION_OWNER) then some stNotOwner
  else if kind = 2 ∧ (c.opcode = 3 ∨ c.opcode = 6) ∧ c.scRunLen < c.scDuration then some stShape
  else none

/-- Events of the sequence engine's records by KIND, a SAMPLE by its MODE (11 R349). -/
def seqEvent (d : List Nat) : Nat :=
  match nth 0 d 0 with
  | 0x10 => 4
  | 0x11 => 5
  | 0x12 => if nth 0 d 20 = 1 then 2 else 3
  | 0x13 => 1
  | 0x14 => 6
  | 0x15 => 7
  | _ => 0

/-- A record of the sequence engine (11 R349). -/
def seqRecord (step st ev e a b : Nat) : List Nat := leBytes 4 step ++ leBytes 1 st ++ leBytes 1 ev ++ leBytes 1 e ++ leBytes 1 0 ++ leBytes 4 a ++ leBytes 4 b

/-- STEP of a record: the sequence index, the step an entry names, or the step in force (11 R349). -/
def State.seqStepOf (s : State) (e : Nat) (d : List Nat) : Nat :=
  let k := nth 0 d 0
  if k = 0x10 ∨ k = 0x11 ∨ k = 0x14 then fieldLe d 2 2
  else if k = 0x12 ∨ k = 0x15 then fieldLe d 16 4 else s.fld e F.SEQ_EAS_STEP_STEP

/-- A record of an embedding engine (12 R380). -/
def embRecord (tag st flags e engine missing remote unique cycles : Nat) : List Nat :=
  leBytes 2 tag ++ leBytes 1 st ++ leBytes 1 flags ++ leBytes 1 e ++ leBytes 1 engine ++ leBytes 2 missing ++ leBytes 2 remote ++ leBytes 2 unique ++
    leBytes 4 cycles

/-- The record of an entry with a reserved KIND (R317): `pos` is the entry's index in the submission ring. -/
def kindRecord (st e pos : Nat) : List Nat := leBytes 2 0 ++ leBytes 1 st ++ leBytes 1 0 ++ leBytes 1 e ++ leBytes 3 0 ++ leBytes 4 pos ++ leBytes 4 0

/-- The record of a refused entry, in the layout of the source its kind names (R317). -/
def State.refusedRecord (s : State) (e st : Nat) (d : List Nat) : List Nat :=
  let target := fieldLe d 2 2
  let tag := fieldLe d 18 2
  let k := nth 0 d 0
  match k with
  | 1 => tcRecord tag st 0 e (if target < 48 then target else 0xFF) 0 0
  | 2 => scRecord tag st false false e (if target < 192 then target else 0xFF) 0 0 0
  | 3 => strRecord 0 st 0 e 0xFF (if target < 2048 then target else 0xFFFF) 0 0
  | _ =>
    if !kindKnown k then kindRecord st e (s.fld e F.EAS_SQ_HEAD_HEAD)
    else if k = 0x18 then embRecord (fieldLe d 64 2) st (if (nth 0 d 19).testBit 0 then 2 else 0) e target 0 0 0 0
    else seqRecord (s.seqStepOf e d) st (seqEvent d) e 0 0

/-- An entry completes at admission. -/
def State.refuseEntry (s : State) (e st : Nat) (d : List Nat) : State :=
  (s.postRecord e (nth 0 d 0) (s.refusedRecord e st d)).sqAdvance e

/-- Whether a queue has room for one more command of an easel (R316; 05 R154; 07 R223). -/
def State.queueRoom (s : State) (e kind target : Nat) : Bool :=
  if kind = 1 then
    let t := s.tcore target
    decide (t.depth e < s.fld (ce target e) F.TC_EAS_QLIMIT_SLOTS ∧ (t.queue ++ t.granted).length < 256)
  else if kind = 2 then
    let t := s.score target
    decide (t.depth e < s.fld (ce target e) F.SC_EAS_QLIMIT_SLOTS ∧ (t.queue ++ t.granted).length < 64)
  else true

/-- Admit an entry that passes its checks (R316, R333): an arm of no descriptor is discarded (09 R305). -/
def State.admitEntry (s : State) (e : Nat) (d : List Nat) : State :=
  let kind := nth 0 d 0
  let target := fieldLe d 2 2
  if kind = 1 then
    let (id, s1) := s.enroll e
    let t := s1.tcore target
    (s1.setTcore target e { t with queue := t.queue ++ [entryCmd d kind e id] }).tcTakes target
  else if kind = 2 then
    let (id, s1) := s.enroll e
    let t := s1.score target
    (s1.setScore target e { t with queue := t.queue ++ [entryCmd d kind e id] }).scTakes target
  else if fieldLe d 24 2 = 0 then s
  else s.armChan target ⟨fieldLe d 16 8, fieldLe d 24 2, decide (nth 0 d 26 = 1), .ring⟩

/-- Take the head entry of an easel's ring when its kind is `kind` or a reserved one: it is admitted, completes at once, or waits for a queue slot
(R316, R317, R607). -/
def State.submitHead (s : State) (e kind : Nat) (host : Blob) : State :=
  if !s.sqWaiting e then s
  else
    match s.sqFetch e host with
    | (none, s1) => s1
    | (some d, s1) =>
      let k := nth 0 d 0
      if k ≠ kind ∧ kindKnown k then s
      else
        match s1.entryRefused e d with
        | some st => s1.refuseEntry e st d
        | none =>
          if s1.queueRoom e k (fieldLe d 2 2) then (s1.admitEntry e d).sqAdvance e
          else s1.setFlag e F.EAS_STATUS_RING_WAIT true

/-- SUBMIT_T_CORE (R316). -/
def execSubmitTCore (easel : Fin 64) (host : Blob) (s : State) : Res := .next (s.submitHead easel 1 host)

/-- SUBMIT_S_CORE (R316). -/
def execSubmitSCore (easel : Fin 64) (host : Blob) (s : State) : Res := .next (s.submitHead easel 2 host)

/-- SUBMIT_CHANNEL_ARM (R316). -/
def execSubmitChannelArm (easel : Fin 64) (host : Blob) (s : State) : Res := .next (s.submitHead easel 3 host)

/-! ### Grants (R318 to R326) -/

/-- An engine's number: T-cores from 0, S-cores from 64. -/
def engNum : Engine → Nat
  | .tcore c => c
  | .score c => 64 + c

/-- Brace mode (03 R87). -/
def State.brace (s : State) : Bool := s.flag 0 F.PWR_SUP_STATUS_BRACE

/-- Whether a tenant's core in partitioned mode leaves out the fit test (R313). -/
def State.tenantCore (s : State) (owner : Fld) (core : Nat) : Bool :=
  s.flag 0 F.SCH_MODE_PARTITIONED && decide (s.fld core owner ≠ 0)

/-- Whether a waiting radio command has been released (R326). -/
def State.released (s : State) (t : Nat) (waits : Bool) (w : Waiter) (c : Cmd) : Bool :=
  c.radio && (if waits then s.takeGranted w else decide (c.release ≤ t))

/-- The first of a list by a measure, ties in list order. -/
def firstBy (f : Cmd → Nat) : List Cmd → Option Cmd
  | [] => none
  | c :: r => match firstBy f r with
    | some d => if f d < f c then some d else some c
    | none => some c

/-- Virtual times (R319). -/
def State.vtime (s : State) (eng e : Nat) : Rat := SMap.get (fun _ => 0) s.sched.vtime (eng * 64 + e)
def State.setVtime (s : State) (eng e : Nat) (v : Rat) : State :=
  { s with sched := { s.sched with vtime := SMap.set (fun _ => 0) s.sched.vtime (eng * 64 + e) v } }

/-- The least virtual time of some easels. -/
def State.leastVtime (s : State) (eng : Nat) : List Nat → Option Rat
  | [] => none
  | e :: r => match s.leastVtime eng r with
    | some v => some (min (s.vtime eng e) v)
    | none => some (s.vtime eng e)

/-- The easels with eligible commands at a decision point: one that had none takes the larger of its own virtual time and the least among the others (R319). -/
def State.noteEligible (s : State) (eng : Nat) (es : List Nat) : State :=
  let old := SMap.get (fun _ => []) s.sched.elig eng
  let s1 := match s.leastVtime eng (es.filter (fun e => decide (e ∈ old))) with
    | some v => forEach (es.filter (fun e => decide (e ∉ old))) (fun e (u : State) => u.setVtime eng e (max (u.vtime eng e) v)) s
    | none => s
  { s1 with sched := { s1.sched with elig := SMap.set (fun _ => []) s1.sched.elig eng es } }

/-- Whether one candidate goes before another: PRIO, then virtual time, then easel number (R318). -/
def State.before (s : State) (eng : Nat) (a b : Cmd) : Bool :=
  let p := s.fld a.easel F.EAS_CFG_PRIO
  let q := s.fld b.easel F.EAS_CFG_PRIO
  decide (q < p) || (decide (p = q) && (decide (s.vtime eng a.easel < s.vtime eng b.easel) ||
    (decide (s.vtime eng a.easel = s.vtime eng b.easel) && decide (a.easel < b.easel))))

/-- The best of the candidates. -/
def State.best (s : State) (eng : Nat) : List Cmd → Option Cmd
  | [] => none
  | c :: r => match s.best eng r with
    | some d => if s.before eng d c then some d else some c
    | none => some c

/-- Occupancy granted to tenants on an engine in the present window, and the cap (19 R541). -/
def State.windowUsed (s : State) (eng : Nat) : Nat := SMap.get (fun _ => 0) s.sched.window eng
def State.windowCap (s : State) (eng : Nat) : Nat := s.fld 0 F.PWR_ADMIT_LEVEL * (if eng < 64 then 131250 else 65625)

/-- Charge a grant to a tenant's virtual time and to the window (R319; 19 R541). -/
def State.charge (s : State) (eng e d : Nat) : State :=
  if e = 0 then s
  else
    let s1 := s.setVtime eng e (s.vtime eng e + (d : Rat) / (s.fld e F.EAS_CFG_WEIGHT : Rat))
    { s1 with sched := { s1.sched with window := SMap.set (fun _ => 0) s1.sched.window eng (s1.windowUsed eng + d) } }

/-- A command passed over: counted the first time (R318). -/
def State.passOver (s : State) (c : Cmd) : State :=
  if c.passed then s else (s.incSat c.easel F.EAS_FIT_WAIT_COUNT 1).incSat 0 F.SCH_FIT_DENY_COUNT 1

/-- Mark commands as passed over. -/
def markPassed (ids : List Nat) (l : List Cmd) : List Cmd := l.map (fun c => if c.id ∈ ids then { c with passed := true } else c)

/-- The commands that are their easel's next in a queue, easel 0's radio commands left out. -/
def nextOf : List Cmd → List Nat → List Cmd
  | [], _ => []
  | c :: r, seen => if c.radio ∨ c.easel ∈ seen then nextOf r seen else c :: nextOf r (c.easel :: seen)

/-- LS_next and the arrays to charge for the radio command there (R322, R323); `near` holds the radio commands that count. -/
def lsNext (t horizon : Nat) (near : List Cmd) : Nat × Nat :=
  match firstBy (·.latest) near with
  | some c => if c.latest ≤ t + horizon then (c.latest, c.arrayList.length) else (t + horizon, 4)
  | none => (t + horizon, 4)

/-- T_in (R165, R323). -/
def State.switchIn (s : State) (core pLive : Nat) (c : Cmd) : Nat :=
  (if c.arrayList.all (fun a => decide (SMap.get (fun _ => 64) (s.tcore core).prev a = c.easel)) then 0 else 12) + min pLive 383 +
    128 * (s.coldArrays core c).length

/-- The fit test and the tile bound on a T-core, and the window's cap for a tenant (R322, R323, R326; 19 R541). -/
def State.tcFits (s : State) (core t pLive : Nat) (pend : Bool) (c : Cmd) : Bool :=
  let q := s.tcore core
  let near := (q.queue ++ q.granted).filter (fun r => r.radio && (decide (r.arrays &&& c.arrays ≠ 0)))
  let (ls, ar) := lsNext t (s.fld 0 F.SCH_LIMITS_HORIZON) near
  (s.tenantCore F.TC_PARTITION_OWNER core || decide (s.cellCount = 0) ||
    decide (t + s.switchIn core pLive c + c.occupancy + 12 + 128 * ar ≤ ls)) &&
  (!pend || decide (c.occupancy ≤ s.fld 0 F.SCH_LIMITS_TILE_MAX)) &&
  (decide (c.easel = 0) || decide (s.windowUsed core + c.occupancy ≤ s.windowCap core))

/-- The power state of a T-core: 0 on, 1 clock gated, 2 power gated (19 R545). -/
def State.tcPower (s : State) (core : Nat) : Nat := s.fld 0 (F.PWR_TC_STATE_STATE (core / 16)) / 4 ^ (core % 16) % 4

/-- Whether a waiting tenant or management command of a T-core meets every launch condition but the tests (R155, R156, R313, R318, R320, R336). -/
def State.tcEligible (s : State) (core ready : Nat) (c : Cmd) : Bool :=
  let q := s.tcore core
  decide (s.tcPower core = 0) && !s.brace && !s.cqHeld c.easel && s.coreServes F.TC_PARTITION_OWNER core c.easel && decide (c.arrays &&& ready = c.arrays) &&
    q.granted.all (fun g => !g.ordered c) && s.tcReady core c

/-- Move a command of a T-core from its queue to the granted ones. It is the next to launch on its arrays: where a pass that runs there has not begun its last frame
(`early`), its chunk 0 is loaded in that frame (05 R166). -/
def State.tcGrant (s : State) (core early : Nat) (c : Cmd) : State :=
  let q := s.tcore core
  let on := c.arrayList.filter (fun a => early.testBit a && q.running.any (fun r => r.arrays.testBit a) && !q.granted.any (fun g => g.arrays.testBit a))
  let s1 := if c.opcode = 1 ∧ !c.isEmpty ∧ s.tcCheck core c = stOk then forEach on (fun a (t : State) => t.loadSet core c a) s else s
  let q1 := s1.tcore core
  s1.setTcore core c.easel { q1 with queue := q1.queue.filter (fun x => decide (x.id ≠ c.id)), granted := q1.granted ++ [c] }

/-- A decision point of a T-core (R318). -/
def State.tcDecide (s : State) (core t ready pLive early : Nat) : State :=
  let q := s.tcore core
  let pend := (q.queue ++ q.granted).filter (fun c => s.released t (c.waitEn && s.ownsLink c.easel c.waitLink) (.tcore core c.id) c)
  let cand := (nextOf q.queue []).filter (s.tcEligible core ready)
  let s0 := s.noteEligible core ((cand.filter (fun c => decide (c.easel ≠ 0))).map (·.easel))
  match firstBy (·.latest) ((q.queue.filter (fun c => s.released t (c.waitEn && s.ownsLink c.easel c.waitLink) (.tcore core c.id) c)).filter
      (fun c => decide (c.arrays &&& ready = c.arrays ∧ s.tcPower core = 0) && s.coreServes F.TC_PARTITION_OWNER core 0)) with
  | some c => s0.tcGrant core early c
  | none =>
    let fits := s0.tcFits core t pLive (!pend.isEmpty)
    let bad := fun (l : List Cmd) (u : State) =>
      let ids := (l.filter (fun c => !fits c)).map (·.id)
      let q1 := u.tcore core
      forEach (l.filter (fun c => !fits c)) (fun c v => v.passOver c) (u.setTcore core 0 { q1 with queue := markPassed ids q1.queue })
    let mgmt := cand.filter (fun c => decide (c.easel = 0))
    match mgmt.find? fits with
    | some c => s0.tcGrant core early c
    | none =>
      let tens := cand.filter (fun c => decide (c.easel ≠ 0))
      let s1 := bad tens (bad mgmt s0)
      match s1.best core (tens.filter fits) with
      | some c => (s1.tcGrant core early c).charge core c.easel c.occupancy
      | none => s1

/-- The fit test on an S-core, and the window's cap for a tenant (R322, R324; 19 R541). -/
def State.scFits (s : State) (core t : Nat) (c : Cmd) : Bool :=
  let q := s.score core
  let (ls, _) := lsNext t (s.fld 0 F.SCH_LIMITS_HORIZON / 2) ((q.queue ++ q.granted).filter (·.radio))
  (s.tenantCore F.SC_PARTITION_OWNER core || decide (s.cellCount = 0) || decide (t + 4 + c.scRunLen + 4 ≤ ls)) &&
  (decide (c.easel = 0) || decide (s.windowUsed (64 + core) + c.scRunLen ≤ s.windowCap (64 + core)))

/-- Whether a waiting tenant or management command of an S-core meets every launch condition but the tests (R313, R318, R320, R336; 07 R223). -/
def State.scEligible (s : State) (core : Nat) (c : Cmd) : Bool :=
  let q := s.score core
  !s.brace && !s.cqHeld c.easel && s.coreServes F.SC_PARTITION_OWNER core c.easel && q.running.isNone && q.tenant.isNone && q.granted.isEmpty &&
    (!c.scWaitEn || s.takeGranted (.score core c.id) || !s.ownsLink c.easel c.scWaitLink)

/-- Whether a released radio command may be granted on an S-core: context 0 is free, and context 1 is not running or can be pre-empted, because its command
has overrun or the decision point has reached LS_next − (7 + REP_CEIL) (R325; 07 R225). -/
def State.scRadioMay (s : State) (core t : Nat) : Bool :=
  let q := s.score core
  q.radio.isNone && !q.granted.any (·.radio) && (match q.running, q.tenant with
    | some false, some x => decide (x.cmd.opcode = 1) && (x.overran ||
        decide ((lsNext t (s.fld 0 F.SCH_LIMITS_HORIZON / 2) (q.queue.filter (·.radio))).1 ≤ t + 7 + s.fld 0 F.SC_LIMITS_REP_CEIL))
    | some true, _ => false
    | _, _ => true)

/-- Move a command of an S-core from its queue to the granted ones; one that must pre-empt notes T_sw of its request (07 R211). -/
def State.scGrant (s : State) (core : Nat) (c : Cmd) : State :=
  let q := s.score core
  let req := match c.radio, q.running, q.tenant with
    | true, some false, some x => some (4 + x.dLive + x.lLive (s.fld 0 F.SC_LIMITS_REP_CEIL))
    | _, _, _ => q.req
  s.setScore core c.easel { q with queue := q.queue.filter (fun x => decide (x.id ≠ c.id)), granted := q.granted ++ [c], req := req }

/-- A decision point of an S-core (R318). A parked command returns where no radio command takes the core (07 R211). -/
def State.scDecide (s : State) (core t : Nat) : State :=
  let q := s.score core
  let eng := 64 + core
  let cand := (nextOf q.queue []).filter (s.scEligible core)
  let s0 := s.noteEligible eng ((cand.filter (fun c => decide (c.easel ≠ 0))).map (·.easel))
  match firstBy (·.latest) (q.queue.filter (fun c => s.released t (c.scWaitEn && s.ownsLink c.easel c.scWaitLink) (.score core c.id) c && s.scRadioMay core t && s.coreServes F.SC_PARTITION_OWNER core 0)) with
  | some c => s0.scGrant core c
  | none =>
    if q.running.isNone ∧ q.tenant.isSome ∧ !q.granted.any (·.radio) then s0.setScore core 0 { s0.score core with running := some false }
    else
    let fits := s0.scFits core t
    let bad := fun (l : List Cmd) (u : State) =>
      let ids := (l.filter (fun c => !fits c)).map (·.id)
      let q1 := u.score core
      forEach (l.filter (fun c => !fits c)) (fun c v => v.passOver c) (u.setScore core 0 { q1 with queue := markPassed ids q1.queue })
    let mgmt := cand.filter (fun c => decide (c.easel = 0))
    match mgmt.find? fits with
    | some c => s0.scGrant core c
    | none =>
      let tens := cand.filter (fun c => decide (c.easel ≠ 0))
      let s1 := bad tens (bad mgmt s0)
      match s1.best eng (tens.filter fits) with
      | some c => (s1.scGrant core c).charge eng c.easel c.scRunLen
      | none => s1

/-- GRANT (R318): a core in reset takes no command (03 R75). -/
def execGrant (eng : Engine) (t : Nat) (ready : BitVec 4) (pLive : Nat) (early : BitVec 4) (s : State) : Res :=
  match eng with
  | .tcore c => .next (if s.tcHeld c then s else s.tcDecide c t ready.toNat pLive early.toNat)
  | .score c => .next (if s.scHeld c then s else s.scDecide c t)

/-! ### Modes (R312) -/

/-- Enter or leave partitioned mode: the commands in flight were launched in the other mode (R312, R338). -/
def State.setPartitioned (s : State) (b : Bool) : State :=
  if s.flag 0 F.SCH_MODE_PARTITIONED = b then s
  else
    let l := s.inFlight.filter (fun i => decide (i ∉ s.sched.moving))
    (({ s with sched := { s.sched with moving := l } }).setFlag 0 F.SCH_MODE_PARTITIONED b).showMoving

/-- Whether a write of SCH_MODE_CTRL is accepted (R312). -/
def State.modeWrite (s : State) (req : Requester) (key : BitVec 8) : Bool :=
  req.manages && decide (key = 0xA5) && decide (s.fld 0 F.SCH_MODE_PART_MODE = 1)

/-- TO_NORMAL (R312). -/
def execToNormal (req : Requester) (key : BitVec 8) (s : State) : Res :=
  s.access req F.SCH_MODE_CTRL_TO_NORMAL.off (fun _ =>
    .next (if s.modeWrite req key then s.setPartitioned false else s))

/-- TO_PARTITIONED (R312). -/
def execToPartitioned (req : Requester) (key : BitVec 8) (s : State) : Res :=
  s.access req F.SCH_MODE_CTRL_TO_NORMAL.off (fun _ =>
    .next (if s.modeWrite req key then s.setPartitioned true else s))

end Sys2Proof.Machine
end

