-- ==== Sys2Proof/Machine/RadBase.lean ====
section
/-! DEFINITION. Machine/RadBase.lean: the radio pipeline below its commands (08): cells and their states, slot and symbol times (16 R466), messages to the L2, slot plans and
what shedding removes (R262), HARQ buffers (R251 to R253). -/
namespace Sys2Proof.Machine

open Sys2Proof

/-! ### Cells -/

def State.radCell (s : State) (c : Nat) : RadCell := SMap.get (fun _ => RadCell.idle) s.rad c
def State.setRad (s : State) (c : Nat) (v : RadCell) : State := { s with rad := SMap.set (fun _ => RadCell.idle) s.rad c v }
def State.radSlot (s : State) (c n : Nat) : RadSlot := SMap.get (fun _ => RadSlot.empty) (s.radCell c).slots n
def State.setSlot (s : State) (c n : Nat) (v : RadSlot) : State :=
  let r := s.radCell c
  s.setRad c { r with slots := SMap.set (fun _ => RadSlot.empty) r.slots n v }

/-- The cell of a CELL_ID (R237). -/
def State.cellOfId (s : State) (id : Nat) : Option Nat := (List.range s.cellCount).find? (fun c => decide (s.fld c F.RAD_CELL_CFG_CELL_ID = id))

/-- The queue pair of a cell. -/
def State.cellQp (s : State) (c : Nat) : Nat := s.cellLe c 0x24 1

/-- States of a cell (R241). -/
def csIdle : Nat := 0
def csConfigured : Nat := 1
def csRunning : Nat := 2
def csWaitSync : Nat := 3
def csHeld : Nat := 4

def State.cellSt (s : State) (c : Nat) : Nat := s.fld c F.RAD_CELL_STATE_STATE

/-- Show how many cells run and wait, and easel 0's wake budget (R267; 19 R528, R548). -/
def State.showCells (s : State) : State :=
  let cs := List.range s.cellCount
  let run := (cs.filter (fun c => decide (s.cellSt c = csRunning))).length
  let wait := cs.any (fun c => decide (s.cellSt c = csWaitSync))
  let ssb := cs.any (fun c => (s.radCell c).ssbFrom.isSome)
  let us := if run ≠ 0 || wait || ssb then 5 else 0xFFFF
  (((s.setFld 0 F.RAD_STATUS_RUNNING run).setFlag 0 F.RAD_STATUS_SYNC_WAIT wait).setFld 0 F.PWR_RADIO_WAKE_US us).setFld 0 F.PWR_EAS_WAKE_US us

/-- Move a cell to a state. -/
def State.setCell (s : State) (c st : Nat) : State := (s.setFld c F.RAD_CELL_STATE_STATE st).showCells

/-! ### Time (16 R466) -/

/-- A 32-bit field as a signed number. -/
def sgn32 (n : Nat) : Int := sext 32 n

/-- Where SFN 0 begins, in ns. -/
def State.gridOrigin (s : State) : Int := 315964819 * 10 ^ 9 + sgn32 (s.fld 0 F.TOD_FRAME_OFS_NS)

/-- Nanoseconds of a slot of a cell, and slots of a frame. -/
def State.slotNs (s : State) (c : Nat) : Nat := if s.flag c F.RAD_CELL_CFG_SCS then 500000 else 1000000
def State.frameSlots (s : State) (c : Nat) : Nat := 10000000 / s.slotNs c

/-- T(n) in ns. -/
def State.slotStart (s : State) (c n : Nat) : Int := s.gridOrigin + (n * s.slotNs c : Nat)

/-- The slot that a time in ns lies in. -/
def State.slotAt (s : State) (c : Nat) (t : Int) : Nat := ((t - s.gridOrigin) / (s.slotNs c : Int)).toNat

def State.slotNow (s : State) (c : Nat) : Nat := s.slotAt c s.nowNs

/-- The SFN of a slot, and its place in the frame. -/
def State.sfnOf (s : State) (c n : Nat) : Nat := n / s.frameSlots c % 1024
def State.slotInFrame (s : State) (c n : Nat) : Nat := n % s.frameSlots c

/-- The slot nearest to the present one whose number modulo `cyc` is `r`. -/
def nearest (now cyc r : Nat) : Nat :=
  let d := (r + cyc - now % cyc) % cyc
  if d < cyc / 2 ∨ now + d < cyc then now + d else now + d - cyc

/-- The slot that an SFN and a slot number name. -/
def State.slotOfSfn (s : State) (c sfn slot : Nat) : Nat :=
  nearest (s.slotNow c) (1024 * s.frameSlots c) (sfn % 1024 * s.frameSlots c + slot)

/-- Where a symbol begins within its slot, in units of 1/30.72 µs (notes/assumptions/55.md). -/
def State.symTs (s : State) (c k : Nat) : Nat :=
  if s.flag c F.RAD_CELL_CFG_SCS then (if k = 0 then 0 else 16 + 1096 * k)
  else (if k = 0 then 0 else if k < 8 then 16 + 2192 * k else 32 + 2192 * k)

/-- The start of a symbol in units of 1/96 ns. -/
def State.symStart96 (s : State) (c n k : Nat) : Int := 96 * s.slotStart c n + (3125 * s.symTs c k : Nat)

/-- Times of a cell's CELLMAP entry in ns (R237). -/
def State.t1aUp (s : State) (c : Nat) : Nat := 100 * s.cellLe c 0x10 2
def State.ta4Min (s : State) (c : Nat) : Nat := 100 * s.cellLe c 0x16 2
def State.ta4Max (s : State) (c : Nat) : Nat := 100 * s.cellLe c 0x18 2
def State.txSpread (s : State) (c : Nat) : Nat := 100 * s.cellLe c 0x1A 2
def State.reqLead (s : State) (c : Nat) : Nat := 1000 * s.cellLe c 0x1C 2
def State.ulLat (s : State) (c : Nat) : Nat := 1000 * s.cellLe c 0x1E 2

/-- The request deadline of a slot (R243). -/
def State.reqDeadline (s : State) (c n : Nat) : Int := s.slotStart c n - s.reqLead c

/-- The result deadline of a slot (R245). -/
def State.resDeadline (s : State) (c n : Nat) : Int := s.slotStart c (n + 1) + s.ulLat c

/-! ### Messages to the L2 (R239) -/

def fmParamResponse : Nat := 0
def fmConfigResponse : Nat := 1
def fmStopIndication : Nat := 3
def fmSlotIndication : Nat := 4
def fmError : Nat := 5
def fmCrc : Nat := 6
def fmRxData : Nat := 7
def fmUci : Nat := 8
def fmRach : Nat := 9
def fmSrs : Nat := 10

/-- Error codes of ERROR.indication. -/
def errState : Nat := 1
def errConfig : Nat := 2
def errSlot : Nat := 4

/-- The messages of a cell to its queue pair (R239). -/
def State.sayL2 (s : State) (c kind n : Nat) (args : List (List Nat)) : State :=
  s.postInd (s.cellQp c) c (Config.fapiMsg kind (s.fld c F.RAD_CELL_CFG_CELL_ID) (s.sfnOf c n) (s.slotInFrame c n) args)

/-- Send an indication of a cell for a slot; a HELD cell's are discarded (R264). -/
def State.tellL2 (s : State) (c kind n : Nat) (args : List (List Nat)) : State := if s.cellSt c = csHeld then s else s.sayL2 c kind n args

/-- ERROR.indication that answers a request of the L2, also for a HELD cell (R240, R264). -/
def State.answerError (s : State) (c n code : Nat) : State := s.sayL2 c fmError n [[code]]

/-- ERROR.indication MSG_SLOT_ERR of shed work and of zero samples (R263). -/
def State.tellSlotErr (s : State) (c n : Nat) : State := s.tellL2 c fmError n [[errSlot]]

/-- A fresh result of a radio program or hard block. -/
def State.radioData (s : State) : List Nat × State := (Config.radioResult s.draw.1, s.draw.2)

/-! ### Hard blocks (R236, R248, R249) -/

/-- A cell's home panel, whose hard blocks serve it (R236). -/
def State.cellPanel (s : State) (c : Nat) : Nat := s.fld c F.RAD_CELL_CFG_PANEL

/-- Engines of a slot plan that are hard blocks, and how many a panel has (08 "The cell map"). -/
def engDecoder : Nat := 2
def engFft : Nat := 4
def engPolar : Nat := 5
def poolSize (engine : Nat) : Nat := if engine = 2 then 12 else if engine = 3 then 4 else if engine = 4 then 16 else 2

/-- A job of a hard block: its latest start, and where it stands. -/
structure HardJob where
  latest : Nat
  cell : Nat
  slot : Nat
  item : Nat

/-- The jobs of an engine in a panel that satisfy a test, over the slots of its cells. -/
def State.hardJobs (s : State) (panel engine : Nat) (f : RadSlot → RadItem → Bool) : List HardJob :=
  ((s.rad.filter (fun p => decide (s.cellPanel p.1 = panel))).map (fun p => (p.2.slots.map (fun q =>
    (q.2.items.zipIdx.filter (fun x => decide (x.1.item.engine = engine ∧ x.1.stat = 0) && f q.2 x.1)).map (fun x =>
      (⟨x.1.item.latest, p.1, q.1, x.2⟩ : HardJob)))).flatten)).flatten

/-- A job is queued once every product it consumes is there. -/
def RadSlot.queued (v : RadSlot) (x : RadItem) : Bool := x.started.isNone && x.item.inputs.all (fun i => (v.items[i]?).any (fun y => decide (y.stat = 1)))

/-- The queue of an engine in a panel, in order of latest start (R236). -/
def State.hardQueue (s : State) (panel engine : Nat) : List HardJob := (s.hardJobs panel engine RadSlot.queued).insertionSort (fun a b => a.latest ≤ b.latest)

/-- The uplink PDU and code block that a decoder's job works on. -/
def State.jobPdu (s : State) (j : HardJob) : Option (RadPdu × Nat) :=
  let v := s.radSlot j.cell j.slot
  (v.items[j.item]?).bind (fun x => (v.pdus.find? (fun p => decide (p.kind = 4 ∧ p.handle = nth 0 x.item.words 0))).map (fun p => (p, nth 0 x.item.words 1)))

/-- S-cycles of a code block in some iterations (R248). -/
def ldpcCycles (bg its : Nat) : Nat := (if bg = 1 then 184 else 168) * its + 64

/-- A code block at a panel's decoders: its deadline, base graph, least iterations and limit. -/
structure DecJob where
  deadline : Int
  bg : Nat
  least : Nat
  limit : Nat

def State.decJob (s : State) (j : HardJob) : DecJob :=
  ⟨s.resDeadline j.cell j.slot, ((s.jobPdu j).map (fun p => p.1.bg)).getD 1, s.cellLe j.cell 0x21 1, s.cellLe j.cell 0x20 1⟩

/-- Whether code blocks that start in order on decoders free from the given times all finish by their deadlines; an S-cycle lasts S_DIV · 10 / 84 ns. -/
def allMeet (div : Nat) : List Rat → List DecJob → Bool
  | _, [] => true
  | free, j :: r =>
    let m := (free.min?).getD 0
    let f := m + (ldpcCycles j.bg j.limit * div * 10 : Nat) / 84
    decide (f ≤ (j.deadline : Rat)) && allMeet div (f :: free.erase m) r

/-- Lower by one iteration the limit of the code block with the latest deadline, the last of those that share it, where one is above its least (R249). -/
def lowerLast (l : List DecJob) : Option (List DecJob) :=
  let top := ((l.filter (fun j => decide (j.least < j.limit))).map (fun j => j.deadline)).max?
  let i := top.bind (fun d => ((List.range l.length).filter (fun i => (l[i]?).any (fun j => decide (j.least < j.limit ∧ j.deadline = d)))).getLast?)
  i.map (fun i => l.zipIdx.map (fun p => if p.2 = i then { p.1 with limit := p.1.limit - 1 } else p.1))

/-- Lower limits until every code block finishes by its deadline, or none can be lowered (R249). -/
def lowerLimits (div : Nat) (free : List Rat) : Nat → List DecJob → List DecJob
  | 0, l => l
  | k + 1, l => if allMeet div free l then l else match lowerLast l with
    | some m => lowerLimits div free k m
    | none => l

/-- The limit with which the first of a panel's queued code blocks starts (R249). -/
def State.firstLimit (s : State) (panel : Nat) (queue : List HardJob) : Nat :=
  let run := s.hardJobs panel engDecoder (fun _ x => x.started.isSome)
  let div := s.fld 0 F.CLK_DIV_S_DIV
  let ends := run.map (fun j =>
    let st : Nat × Nat := (((s.radSlot j.cell j.slot).items[j.item]?).bind (fun x => x.started)).getD (0, 0)
    max (s.nowNs : Rat) ((st.1 : Rat) + (ldpcCycles (s.decJob j).bg st.2 * div * 10 : Nat) / 84))
  let free := ends ++ List.replicate (12 - ends.length) (s.nowNs : Rat)
  ((lowerLimits div free (16 * queue.length) (queue.map s.decJob)).head?.map (·.limit)).getD 0

/-- Start the first queued job of an engine when a block of its pool is free; a code block that starts with a lowered limit is counted (R236, R249). Model's choice: notes/assumptions/159.md. -/
def State.startHard (s : State) (panel engine : Nat) : State :=
  let busy := (s.hardJobs panel engine (fun _ x => x.started.isSome)).length
  let l := s.hardQueue panel engine
  match l with
  | [] => s
  | j :: _ =>
    if poolSize engine ≤ busy then s
    else
      let lim := if engine = engDecoder then s.firstLimit panel l else 0
      let v := s.radSlot j.cell j.slot
      let s1 := s.setSlot j.cell j.slot { v with items := v.items.zipIdx.map (fun p => if p.2 = j.item then { p.1 with started := some (s.nowNs, lim) } else p.1) }
      if engine = engDecoder ∧ lim < s.cellLe j.cell 0x20 1 then s1.incSat j.cell F.RAD_CELL_LDPC_ITER_CAP 1 else s1

/-- Start what can start on the hard blocks of a panel. -/
def State.pumpHard (s : State) (panel : Nat) : State :=
  forEach [2, 3, 4, 5] (fun e (t : State) => forUpto (poolSize e) (fun _ u => u.startHard panel e) t) s

/-! ### Slot plans (R244, R262, R263) -/

/-- The indication that reports an uplink PDU of a kind. -/
def indOf (kind : Nat) : Nat := if kind = 5 then fmUci else if kind = 6 then fmRach else fmSrs

/-- Report the uplink PDUs, other than PUSCH, whose items are all done before the result deadline (R245): SRS only for classes 0 and 1 (R239); in classes 2
and 3 it gives the beam weights from then on (R234). -/
def State.reportDone (s : State) (c n : Nat) : State :=
  let v := s.radSlot c n
  let l := v.pdus.filter (fun p => decide (5 ≤ p.kind) && !v.lost.contains p.handle && !v.reported.contains p.handle &&
    v.items.any (fun i => i.item.serves.contains p.handle) &&
    v.items.all (fun i => decide (i.stat = 1) || !i.item.serves.contains p.handle))
  if v.ended then s
  else
    forEach l (fun p (t : State) =>
      let w := t.radSlot c n
      let t1 := t.setSlot c n { w with reported := p.handle :: w.reported }
      if p.kind = 7 ∧ 2 ≤ t.fld c F.RAD_CELL_CFG_CLASS then
        let (k, t2) := t1.draw
        t2.setRad c { t2.radCell c with weights := k }
      else
        let (d, t2) := t1.radioData
        t2.tellL2 c (indOf p.kind) n [[p.handle], d]) s

/-- An item of a plan is done: what it was a product for may start. -/
def State.itemDone (s : State) (c n i : Nat) : State :=
  let v := s.radSlot c n
  ((s.setSlot c n { v with items := v.items.zipIdx.map (fun p => if p.2 = i ∧ p.1.stat = 0 then { p.1 with stat := 1 } else p.1) }).reportDone c n).pumpHard
    (s.cellPanel c)

/-- The items of a plan that an item's removal takes along: those that take a semaphore one of them would have signalled, and those that consume a product of
one (R262). -/
def shedSet (items : List RadItem) : Nat → List Nat → List Nat
  | 0, out => out
  | k + 1, out =>
    let sigs := (out.map (fun i => ((items[i]?).map (fun x => x.item.signals)).getD [])).flatten
    let more := (List.range items.length).filter (fun j => !out.contains j && ((items[j]?).any (fun x =>
      decide (x.stat = 0) && (x.item.takes.any (fun q => sigs.contains q) || x.item.inputs.any (fun i => out.contains i)))))
    if more.isEmpty then out else shedSet items k (out ++ more)

/-- Take an item of the slot plan out of the runs of a channel (R262): out of a pending arm; a run that served it alone and has not started leaves the scoreboard; one that waits for
a count that will not come ends. -/
def State.removeStroke (s : State) (n id : Nat) : State :=
  let c := s.chan n
  let without := fun (a : Arm) => match a.origin with
    | .radio l => { a with origin := .radio (l.filter (fun i => decide (i ≠ id))) }
    | _ => a
  let s1 := s.setChan n { c with pend := (c.pend.map without).filter (fun a => decide (a.items ≠ some [])) }
  match (s1.chan n).run with
  | none => s1
  | some r =>
    let r1 := { r with arm := without r.arm }
    if r.arm.items ≠ some [id] then s1.setChan n { s1.chan n with run := some r1 }
    else if r.started = 0 then
      let s2 := (s1.dropRun (s1.chEasel n) r.base r.arm.count).dropTakes (.channel n)
      let s3 := (s2.setChan n { s2.chan n with run := none, exec := none, drain := [] }).chState n chIdle
      let s4 := { s3 with str := { s3.str with ready := s3.str.ready.filter (fun m => decide (m ≠ n)) } }
      match (s4.chan n).pend with
      | some a => s4.startRun n a (s4.chan n).pendOver
      | none => s4
    else if s.fld n F.STR_CH_STATE_STATE = chWaitSem then (s1.setChan n { s1.chan n with run := some r1 }).endRun n stAborted 0xFF
    else s1.setChan n { s1.chan n with run := some r1 }

/-- Remove the command or stroke of an item: a command leaves its queue and the scoreboard, and a take of it its semaphore's queue (R262; 10 R333). -/
def State.removeItem (s : State) (x : RadItem) : State :=
  let u := x.item.unit
  match x.item.engine with
  | 0 =>
    let q := s.tcore u
    let s1 := s.setTcore u 0 { q with queue := q.queue.filter (fun c => decide (c.id ≠ x.id)), granted := q.granted.filter (fun c => decide (c.id ≠ x.id)) }
    (s1.dropTakes (.tcore u x.id)).retire 0 x.id false
  | 1 =>
    let q := s.score u
    let s1 := s.setScore u 0 { q with queue := q.queue.filter (fun c => decide (c.id ≠ x.id)), granted := q.granted.filter (fun c => decide (c.id ≠ x.id)) }
    (s1.dropTakes (.score u x.id)).retire 0 x.id false
  | 6 => s.removeStroke u x.id
  | _ => s

/-- Shed an item of a plan and every item that depends on it, count them, note the PDUs that lose their work, and report it (R262, R263). -/
def State.shedItem (s : State) (c n i : Nat) : State :=
  let v := s.radSlot c n
  if (v.items[i]?).any (fun x => decide (x.stat = 0)) then
    let out := shedSet v.items v.items.length [i]
    let gone := (v.items.zipIdx.filter (fun p => out.contains p.2)).map (·.1)
    let s1 := s.setSlot c n { v with
      items := v.items.zipIdx.map (fun p => if out.contains p.2 then { p.1 with stat := 2 } else p.1)
      lost := (gone.map (fun x => x.item.serves)).flatten ++ v.lost }
    let s2 := forEach gone (fun x (t : State) => t.removeItem x) s1
    (((s2.incSat c F.RAD_CELL_SHED_COUNT out.length).incSat 0 F.RAD_RISK_SHED out.length).tellSlotErr c n).pumpHard (s.cellPanel c)
  else s

/-- Whether an item has been launched: its command has left the queue and the granted ones, its run has started a descriptor, its job a hard block. -/
def State.itemLaunched (s : State) (x : RadItem) : Bool :=
  let u := x.item.unit
  let waits := fun (l : List Cmd) => l.any (fun c => decide (c.id = x.id))
  match x.item.engine with
  | 0 => !waits ((s.tcore u).queue ++ (s.tcore u).granted)
  | 1 => !waits ((s.score u).queue ++ (s.score u).granted)
  | 6 => (s.chan u).run.any (fun r => (r.arm.items.getD []).contains x.id && decide (r.started ≠ 0))
  | _ => x.started.isSome

/-- The item of a radio command or stroke: its cell, slot and place in the plan. -/
def State.itemOf (s : State) (id : Nat) : Option (Nat × Nat × Nat) :=
  s.rad.findSome? (fun p => p.2.slots.findSome? (fun q =>
    (q.2.items.zipIdx.find? (fun x => decide (x.1.id = id ∧ x.1.stat = 0))).map (fun x => (p.1, q.1, x.2))))

/-- A radio command ends: one that ends with an error is handled as shed work (R263). -/
def State.radioEnd (s : State) (id st : Nat) : State :=
  match s.itemOf id with
  | none => s
  | some (c, n, i) => if st = stOk then s.itemDone c n i else s.shedItem c n i

/-- The radio pipeline consumes the runs of its own that are over (R263; 10 R333): the items of one with a faulty descriptor are handled as shed work. -/
def State.consumeRuns (s : State) : State :=
  forEach s.str.finished (fun r (t : State) => forEach r.1 (fun id (u : State) => u.radioEnd id (if r.2 then stAborted else stOk)) t)
    { s with str := { s.str with finished := [] } }

/-- The jobs of a panel's hard blocks are lost with the panel: they are handled as shed work (R263; 03 R68). -/
def State.hardPanelReset (s : State) (p : Nat) : State :=
  forEach (([2, 3, 4, 5].map (fun e => s.hardJobs p e (fun _ _ => true))).flatten) (fun j (t : State) => t.shedItem j.cell j.slot j.item) s

/-! ### HARQ buffers (R251 to R253; 04 R105) -/

/-- Where a cell's block of easel 0's memory begins: its HARQ pool stands first (notes/assumptions/54.md). -/
def State.cellMem (s : State) (c : Nat) : Nat := 65536 * ((List.range c).map s.cellBlock).foldl (· + ·) 0

/-- 4 KiB blocks of a cell's pool: 48 MiB for each cell unit. -/
def State.harqPool (s : State) (c : Nat) : Nat := 12288 * s.fld c F.RAD_CELL_CFG_UNITS

def harqKey (rnti harq : Nat) : Nat := rnti * 32 + harq % 32

/-- The `need` lowest blocks not in use, below the pool's end. -/
def pickBlocks (used : List Nat) (pool : Nat) : Nat → Nat → Nat → List Nat
  | 0, _, _ => []
  | _, 0, _ => []
  | k + 1, need + 1, b =>
    if pool ≤ b then [] else if used.contains b then pickBlocks used pool k (need + 1) (b + 1) else b :: pickBlocks used pool k need (b + 1)

/-- Show the pool's use (R268). -/
def State.showHarq (s : State) (c : Nat) : State :=
  s.setFld c F.RAD_CELL_HARQ_USE_KIB (4 * (((s.radCell c).harq.map (fun p => p.2.blocks.length)).foldl (· + ·) 0))

/-- Free a buffer. -/
def State.harqFree (s : State) (c k : Nat) : State :=
  let r := s.radCell c
  (s.setRad c { r with harq := SMap.del k r.harq }).showHarq c

/-- The buffer of a key. -/
def State.harqBuf (s : State) (c k : Nat) : Option HarqBuf := ((s.radCell c).harq.find? (fun p => decide (p.1 = k))).map (·.2)

/-- Allocate a buffer for a transport block, when there is space (R252). -/
def State.harqAlloc (s : State) (c n : Nat) (p : RadPdu) : State :=
  let r := s.radCell c
  let used := (r.harq.map (fun q => q.2.blocks)).flatten
  let need := (p.cbs * p.soft + 4095) / 4096
  let l := pickBlocks used (s.harqPool c) (need + used.length) need 0
  if l.length = need then (s.setRad c { r with harq := SMap.put (harqKey p.rnti p.harq) ⟨l, n, p.soft⟩ r.harq }).showHarq c
  else s.incSat c F.RAD_CELL_HARQ_NOBUF 1

/-- A PUSCH request meets the buffers (R251, R252): new data frees the old buffer and takes a new one; a retransmission without one is counted. -/
def State.harqRequest (s : State) (c n : Nat) (p : RadPdu) : State :=
  let k := harqKey p.rnti p.harq
  if p.newData then (s.harqFree c k).harqAlloc c n p
  else
    match s.harqBuf c k with
    | some b =>
      let r := s.radCell c
      s.setRad c { r with harq := SMap.put k { b with last := n } r.harq }
    | none => s.incSat c F.RAD_CELL_HARQ_NOBUF 1

/-- The runs of addresses of `n` soft values of a buffer from a value on. -/
def State.harqRuns (s : State) (c : Nat) (b : HarqBuf) : Nat → Nat → Nat → List (Nat × Nat)
  | 0, _, _ => []
  | _, _, 0 => []
  | k + 1, o, n =>
    let len := min n (4096 - o % 4096)
    (s.cellMem c + 4096 * nth 0 b.blocks (o / 4096) + o % 4096, len) :: s.harqRuns c b k (o + len) (n - len)

/-- Read soft values; a poisoned granule reads as zeros and is counted (R253). -/
def State.harqRead (s : State) (c : Nat) : List (Nat × Nat) → List Int × State
  | [] => ([], s)
  | (a, n) :: r =>
    let m := s.bondLoad 0 a n 0 none
    let vs := (m.st.tagPoison (bondKey 0 a) m.data).map (fun b => if 256 ≤ b then 0 else sext 8 b)
    let g := (List.range ((a + n - 1) / 64 + 1 - a / 64)).filter (fun i => m.st.poisoned (bondKey 0 ((a / 64 + i) * 64)) 1)
    let (vs', t) := (m.st.incSat c F.RAD_CELL_HARQ_POISON g.length).harqRead c r
    (vs ++ vs', t)

/-- The granules that some bytes touch lose their poison marks. -/
def State.unpoison (s : State) (k n : Nat) : State :=
  { s with poison := s.poison.filter (fun g => decide (g * 64 + 64 ≤ k ∨ k + n ≤ g * 64)) }

/-- The poisoned granules that some bytes touch are filled with zero soft values, which is what they read as, and lose their poison (R253). -/
def State.healRun (s : State) (a n : Nat) : State :=
  let g := ((List.range ((a + n - 1) / 64 + 1 - a / 64)).map (fun i => (a / 64 + i) * 64)).filter (fun x => s.poisoned (bondKey 0 x) 1)
  forEach g (fun x (t : State) => (t.bondStore 0 x (List.replicate 64 0)).st.unpoison (bondKey 0 x) 64) s

/-- Write soft values back; the granules they lie in lose their poison (R253). -/
def State.harqWrite (s : State) (runs : List (Nat × Nat)) (vs : List Int) : State :=
  (runs.foldl (fun (t : State × List Int) p =>
    (((t.1.healRun p.1 p.2).bondStore 0 p.1 ((t.2.take p.2).map (ofInt 8))).st, t.2.drop p.2)) (s, vs)).1

/-! ### Host resets (R264) -/

/-- Every RUNNING or WAIT_SYNC cell is to move to HELD at its next slot boundary. -/
def State.holdCells (s : State) : State :=
  forEach ((List.range s.cellCount).filter (fun c => decide (s.cellSt c = csRunning ∨ s.cellSt c = csWaitSync))) (fun c (t : State) =>
    t.setRad c { t.radCell c with holdReq := true }) s

/-- Every FAPI queue pair is disabled and the cells move to HELD (17 R487, R505). -/
def State.dropFapi (s : State) : State := forUpto 64 (fun q t => t.fqDisable q) s.holdCells

/-! ### U-plane frames (R246, R247) -/

/-- The slot that a U-plane message names, nearest to the present. -/
def State.uSlot (s : State) (c : Nat) (u : UTime) : Nat :=
  let fs := s.frameSlots c
  nearest (s.slotNow c) (256 * fs) (u.frame * fs + (u.sub * fs / 10 + u.slot))

/-- Where a MAC stamp in 2^-16 ns lies against a symbol's window: before, within, after (R246). -/
def State.inWindow (s : State) (c n k stamp : Nat) : Ordering :=
  let t : Int := 96 * stamp
  let b := s.symStart96 c n k
  if t < 65536 * (b + (96 * s.ta4Min c : Nat)) then .lt else if 65536 * (b + (96 * s.ta4Max c : Nat)) < t then .gt else .eq

end Sys2Proof.Machine
end

