-- ==== Sys2Proof/Machine/Eth.lean ====
section
/-! DEFINITION. Machine/Eth.lean: the Ethernet ports and their flows (14): receiving, checks of transmit records, links. -/
namespace Sys2Proof.Machine

open Sys2Proof

/-! ### Receiving (R425 to R428) -/

/-- What a subport does with a received frame (R425). -/
inductive RxAct where
  | badFrame
  | control
  | ecpriOther
  | noFlow
  /-- To the Yaroz block or the time block, whose commands take it from here. -/
  | block
  /-- To flows; broadcast copies are marked. -/
  | flows (fs : List Nat) (bcast : Bool)
  deriving DecidableEq, Repr

/-- The RX flows of a subport that a test accepts; a deleted flow admits nothing (02 R51). -/
def State.rxFlows (s : State) (sub : Nat) (p : Nat → Bool) : List Nat :=
  s.flowsUsed.filter (fun f => decide (s.flowSub f = sub) && !s.flowTx f && !NSet.has f s.eth.freeing && p f)

/-- The flows found, or none. -/
def rxTo (fs : List Nat) (bcast : Bool) : RxAct := if fs.isEmpty then .noFlow else .flows fs bcast

/-- Classify a frame; `d` runs from the destination MAC to the end of the payload (R425). -/
def State.rxClassify (s : State) (sub : Nat) (d : List Nat) (fcs : Bool) : RxAct :=
  let dst := d.take 6
  let ty := etherOf d
  if !fcs || decide (d.length + 4 < 64) || decide (s.fld (sub / 4) F.ETH_PORT_CFG_MAX_FRAME < d.length + 4) then .badFrame
  else if beAt d 12 2 = 0x88A8 ∨ (tagged d ∧ beAt d 16 2 = 0x8100) ∨ ty = 0x8808 then .control
  else if ty = s.fld 0 F.YZF_CFG_ETYPE ∧ s.fld 0 F.YZF_CFG_ETYPE ≠ 0 ∧ (sub % 4 = 0 ∨ s.ethPath (sub / 4) = false) then
    (if sub % 4 = 0 && s.ethPath (sub / 4) then .block else .noFlow)
  else if ty = 0x88F7 ∧ (dst = [0x01, 0x1B, 0x19, 0, 0, 0] ∨ dst = [0x01, 0x80, 0xC2, 0, 0, 0x0E]) then .block
  else if ty = 0x8809 then (if nth 0 d (etherAt d + 2) = 0x0A then .block else .control)
  else if ty = 0xAEFE ∧ dst = s.subMac sub then
    let h := ecpriAt d
    if nth 0 d h % 2 = 0 ∧ nth 0 d (h + 1) = 0 then
      rxTo (s.rxFlows sub (fun f => decide (s.flowKind f = 1 ∧ s.fld f F.FLW_KEY_VID = vidOf d ∧ s.fld f F.FLW_KEY_EAXC = beAt d (h + 4) 2))) false
    else .ecpriOther
  else if dst = List.replicate 6 0xFF then
    rxTo (s.rxFlows sub (fun f => decide (s.flowKind f = 3 ∧ s.fld f F.FLW_KEY_VID = vidOf d) && s.flag f F.FLW_CFG_BCAST)) true
  else rxTo (s.rxFlows sub (fun f => decide (s.flowKind f = 3 ∧ s.fld f F.FLW_KEY_VID = vidOf d ∧ s.flowMac f = dst))) false

/-- Append a record to a flow's queue, or drop the frame when a granule is lacking, or the easel is in easel reset (R426) or frozen (18 R516). -/
def State.rxAppend (s : State) (f flags sub stamp : Nat) (d : List Nat) : State :=
  let e := s.flowEasel f
  let drop := s.incSat f F.FLW_RX_DROP_NOBUF 1
  if s.fld e F.EAS_LIFE_STATE = 1 ∨ s.fld e F.EAS_LIFE_STATE = 2 ∨ s.frozen e then drop
  else
    match s.palAppend (flowQ f) (rxRecord d flags sub (s.fld f F.FLW_FRAMES_COUNT) stamp) with
    | some t => t.incWrap f F.FLW_FRAMES_COUNT 1
    | none => drop

/-- Sections of a cell's U-plane frame (08 R247): those kept, how many are dropped, and what has arrived. -/
structure USift where
  kept : List USec
  bad : Nat
  got : List (Nat × Nat × Nat × Nat)

/-- Whether a section repeats a PRB that has arrived for its symbol and stream. -/
def uDup (got : List (Nat × Nat × Nat × Nat)) (k st : Nat) (x : USec) : Bool :=
  got.any (fun a => decide (a.1 = k ∧ a.2.1 = st ∧ a.2.2.1 < x.prb + x.num ∧ x.prb < a.2.2.1 + a.2.2.2))

/-- Keep the first section of a symbol, stream and PRB range; drop repeats, sections of another compression, and those beyond PRBS (08 R247). -/
def uSift (w prbs k st : Nat) : List USec → List (Nat × Nat × Nat × Nat) → USift
  | [], got => ⟨[], 0, got⟩
  | x :: r, got =>
    if x.comp ≠ 16 * w + 1 ∨ prbs < x.prb + x.num ∨ uDup got k st x then
      let y := uSift w prbs k st r got
      { y with bad := y.bad + 1 }
    else
      let y := uSift w prbs k st r (got ++ [(k, st, x.prb, x.num)])
      { y with kept := x :: y.kept }

/-- A section expanded into CI16 where it is block floating point of the flow's width and lies whole in the frame, else as received (R428). -/
def expandSec (w : Nat) (x : USec) : List Nat × Bool :=
  if x.comp = 16 * w + 1 ∧ x.body.length = (1 + 3 * w) * x.num then (x.hdr ++ ((chunks (1 + 3 * w) x.num x.body).map (bfpExpand w)).flatten, true)
  else (x.hdr ++ x.body, false)

/-- Expand the sections of a frame: the data stored, and its EXPANDED and UNEXPANDED bits (R428). -/
def expandFrame (w : Nat) (head : List Nat) (secs : List USec) : List Nat × Nat :=
  let xs := secs.map (expandSec w)
  (head ++ (xs.map (fun x => x.1)).flatten, (if xs.any (fun x => x.2) then 1 else 0) + (if xs.any (fun x => !x.2) then 2 else 0))

/-- The sections of a received U-plane frame, within its eCPRI payload. -/
def rxSecs (all : Nat) (d : List Nat) : List USec :=
  let h := ecpriAt d
  uSecs none all d.length ((d.take (h + 4 + beAt d (h + 2) 2)).drop (h + 12))

/-- A frame for an ECPRI_RX flow of no cell (R428). -/
def State.rxEcpri (s : State) (f flags sub stamp : Nat) (d : List Nat) : State :=
  if s.flowComp f = 0 then s.rxAppend f flags sub stamp d
  else
    let (d', x) := expandFrame (s.flowComp f) (d.take (ecpriAt d + 12)) (rxSecs (s.flowPrbs f) d)
    s.rxAppend f (flags + x) sub stamp d'

/-- A frame for a stream of a cell: judged against its symbol's window and against what has arrived; a HELD cell drops it without counting, but for a slot already planned (08
R246, R247, R264). -/
def State.rxCell (s : State) (c f flags sub stamp : Nat) (d : List Nat) : State :=
  let u := uTime d
  let n := s.uSlot c u
  if s.cellSt c = csHeld ∧ (s.radSlot c n).planned = false then s
  else
    match s.inWindow c n u.sym stamp with
    | .lt => s.incSat c F.RAD_CELL_UL_WIN_EARLY 1
    | .gt => s.incSat c F.RAD_CELL_UL_WIN_LATE 1
    | .eq =>
      let w := s.cellLe c 0xE 1
      let v := s.radSlot c n
      let y := uSift w (s.flowPrbs f) u.sym (f - s.cellFlowBase c) (rxSecs (s.flowPrbs f) d) v.arrived
      let s1 := s.incSat c F.RAD_CELL_UL_MISS_BADHDR y.bad
      if y.kept.isEmpty then s1
      else
        let (d', x) := expandFrame w (d.take (ecpriAt d + 12)) y.kept
        let s2 := s1.rxAppend f (flags + x) sub stamp d'
        if s2.fld f F.FLW_FRAMES_COUNT = s1.fld f F.FLW_FRAMES_COUNT then s2 else s2.setSlot c n { v with arrived := y.got }

/-- A frame reaches one of its flows. -/
def State.rxFlow (s : State) (sub stamp : Nat) (bcast : Bool) (d : List Nat) (f : Nat) : State :=
  let flags := (if tagged d then 4 else 0) + (if bcast then 8 else 0)
  if s.flowKind f = 1 then
    if (d.drop 6).take 6 = s.flowMac f then
      match s.cellOfFlow f with
      | some c => s.rxCell c f flags sub stamp d
      | none => s.rxEcpri f flags sub stamp d
    else s.incSat f F.FLW_RX_DROP_SRC 1
  else s.rxAppend f flags sub stamp d

/-- Codewords of a port's FEC (R421, R441; 21 R571). -/
def State.fecCount (s : State) (port ce ue : Nat) : State :=
  let (what, s1) := s.inject (165 + port) 64
  let n := if what.isSome then ue + 1 else ue
  let s2 := (s1.incSat port F.ETH_PORT_FEC_CE_COUNT ce).incSat port F.ETH_PORT_FEC_UE_COUNT n
  (List.range n).foldl (fun t i => t.detect (165 + port) atelier ukPort port 0 0 sevContained (what.isSome && decide (i = 0))) s2

/-- ETH_FRAME_RX (R425 to R428; 08 R246, R247). -/
def execEthFrameRx (sub : Fin 32) (bytes : List Nat) (fcs : Bool) (stamp fecCe fecUe : Nat) (s : State) : Res :=
  let p := sub.val / 4
  let i := sub.val % 4
  if !s.subExists sub || !s.subUp sub then .next s
  else
    let s1 := s.fecCount p fecCe fecUe
    let s2 := if fcs then s1.incWrap p (F.ETH_SUB_RX_COUNT i) 1 else s1
    match s2.rxClassify sub bytes fcs with
    | .badFrame => .next (s2.incSat p (F.ETH_SUB_ERR_FCS i) 1)
    | .control => .next (s2.incSat p (F.ETH_SUB_CTRL_CTRL i) 1)
    | .ecpriOther => .next (s2.incSat p (F.ETH_SUB_CTRL_ECPRI_OTHER i) 1)
    | .noFlow => .next (s2.incSat p (F.ETH_SUB_ERR_NOFLOW i) 1)
    | .block => .next s2
    | .flows fs b => .next (forEach fs (fun f (t : State) => t.rxFlow sub stamp b bytes f) s2)

/-! ### Transmit records (R430, R431) -/

/-- A record is refused: counted, reported and removed (R430, R431; 21 R574). -/
def State.txRefuse (s : State) (f : Nat) (cnt : Fld) : State :=
  ((s.incSat f cnt 1).usageFault (s.flowEasel f) ukFlow f 0 ufTxRefused).dropHead f

/-- TX_RECORD_HEAD (R430, R431): a record that passes stays at the head until its frame starts. -/
def execTxRecordHead (flow : Fin 8192) (ecc : Option EccEvent) (s : State) : Res :=
  let f := flow.val
  match s.headRec f with
  | none => .next s
  | some _ =>
    if !s.flowTx f || NSet.has f s.eth.checked then .next s
    else
      let s1 := s.palEcc (flowQ f) 0 (ecc.getD ⟨.ok, 0, 0⟩)
      match s1.headRec f with
      | none => .next s1
      | some (r, _) =>
        if s1.txBad f r then .next (s1.txRefuse f F.FLW_TX_DROP_BAD)
        else if s1.txSpoof f r then .next (s1.txRefuse f F.FLW_TX_DROP_SPOOF)
        else .next { s1 with eth := { s1.eth with checked := NSet.add f s1.eth.checked } }

/-! ### Links (R420, R437) -/

/-- Show whether a subport's link is up (R440, R441); lane training has its own bit on copper and backplane media. -/
def State.setLink (s : State) (sub : Nat) (up : Bool) : State :=
  let p := sub / 4
  let m := 2 ^ (sub % 4)
  let put := fun (t : State) (u : Nat) (f : Fld) (b : Nat) => if up then t.orFld u f b else t.clrFld u f b
  let s1 := put (put (put s 0 F.ETH_LINK_UP_UP (2 ^ sub)) p F.ETH_PORT_LINK_UP m) p F.ETH_PORT_LINK_FEC_ALIGN m
  if s.fld p F.ETH_PORT_CFG_MEDIA = 2 then s1 else put s1 p F.ETH_PORT_LINK_AN_DONE m

/-- SUBPORT_LINK_DOWN (R437, R420): packets on the port's Yaroz path go to another path (13 R401). -/
def execSubportLinkDown (sub : Fin 32) (s : State) : Res :=
  if s.subUp sub then
    let s1 := s.setLink sub false
    if sub.val % 4 = 0 ∧ s.ethPath (sub.val / 4) = true then
      let s2 := s1.clrFld 0 F.YZF_STATUS_ETH_UP (2 ^ (sub.val / 4))
      .next (s2.yzReroute (16 + sub.val / 4))
    else .next s1
  else .next s

/-- SUBPORT_LINK_UP (R420): a port's Yaroz path is up with it, and waiting packets are sent. -/
def execSubportLinkUp (sub : Fin 32) (s : State) : Res :=
  if s.subExists sub && !s.subUp sub then
    let s1 := s.setLink sub true
    if sub.val % 4 = 0 ∧ s.ethPath (sub.val / 4) = true then
      .next ((s1.orFld 0 F.YZF_STATUS_ETH_UP (2 ^ (sub.val / 4))).yzKickAll)
    else .next s1
  else .next s

end Sys2Proof.Machine
end

