-- ==== Sys2Proof/Machine/Egress.lean ====
section
/-! DEFINITION. Machine/Egress.lean: when frames leave (14 R433 to R438) and which queued frame leaves next (15): launch frames, shapers, deficit round robin, samples. -/
namespace Sys2Proof.Machine

open Sys2Proof

/-! ### Start slots (14 R433) -/

/-- Times below are in hundredths of a nanosecond. The present, rounded up, and a time of day in 2^-40 ns. -/
def hundOf (t : Nat) : Nat := (100 * t + 2 ^ 40 - 1) / 2 ^ 40
def State.subBusy (s : State) (sub : Nat) : Nat := SMap.get (fun _ => 0) s.eth.busy sub

/-- The first start slot of a subport at or after a time, and the time of a slot. -/
def State.slotFrom (s : State) (sub t : Nat) : Nat := (t + 64 * s.subK sub - 1) / (64 * s.subK sub)
def State.slotTime (s : State) (sub slot : Nat) : Nat := 64 * s.subK sub * slot

/-- Line bytes of a frame, and the time it occupies: preamble, gap and FCS counted (R433). -/
def lineBytes (d : List Nat) : Nat := d.length + 24
def State.lineTime (s : State) (sub bytes : Nat) : Nat := bytes * s.subK sub

/-- A frame starts on a subport. -/
def State.ethSend (s : State) (sub slot : Nat) (d : List Nat) : State :=
  let s1 := { s with eth := { s.eth with busy := SMap.set (fun _ => 0) s.eth.busy sub (s.slotTime sub slot + s.lineTime sub (lineBytes d)) } }
  (s1.emit (.ethFrame sub slot d)).incWrap (sub / 4) (F.ETH_SUB_TX_COUNT (sub % 4)) 1

/-! ### Launch frames (R434 to R438) -/

/-- A launch frame that waits: its flow (none for the time block's), its launch time in ns, when it became readable, its lateness tolerance in ns. -/
structure LaunchC where
  flow : Option Nat
  launch : Nat
  ready : Nat
  late : Nat

/-- The transmit flows of a subport. -/
def State.txFlows (s : State) (sub : Nat) : List Nat := s.flowsUsed.filter (fun f => s.flowTx f && decide (s.flowSub f = sub))

/-- The launch frame at the head of a flow, checked or not. -/
def State.launchHead (s : State) (f : Nat) : Option LaunchC :=
  (s.headRec f).map (fun r => ⟨some f, hdrLaunch r.1, hundOf r.2, s.fld f F.FLW_TIMING_LATE_NS⟩)

/-- The frames of the time block that wait at a subport. -/
def State.tbFrames (s : State) (sub : Nat) : List TbFrame := SMap.get (fun _ => []) s.eth.tb sub

/-- The launch frames that could start next on a subport: the time block's first, then the flows' by rising index (R435, R438). -/
def State.launchCands (s : State) (sub : Nat) : List LaunchC :=
  ((s.tbFrames sub).head?.map (fun t => (⟨none, t.launch, 0, 10000⟩ : LaunchC))).toList ++
    ((s.txFlows sub).filter (fun f => s.flowLaunch f && NSet.has f s.eth.checked)).filterMap s.launchHead

/-- The start slot of a launch frame: the first at or after its launch time, the end of the frame in progress and the moment it became pending (R434). -/
def State.launchSlot (s : State) (sub : Nat) (c : LaunchC) : Nat := s.slotFrom sub (max (100 * c.launch) (max (s.subBusy sub) c.ready))

/-- Whether a launch frame cannot start by its launch time plus its tolerance (R436). -/
def State.launchLate (s : State) (sub : Nat) (c : LaunchC) : Bool := decide (100 * (c.launch + c.late) < s.slotTime sub (s.launchSlot sub c))

/-- The launch frame that starts first: by start slot, then launch time, then in the order of the list (R435). -/
def State.firstLaunch (s : State) (sub : Nat) : List LaunchC → Option LaunchC
  | [] => none
  | c :: r =>
    match s.firstLaunch sub r with
    | none => some c
    | some d =>
      let a := s.launchSlot sub c
      let b := s.launchSlot sub d
      if b < a ∨ (a = b ∧ d.launch < c.launch) then some d else some c

/-- C_tx and CARD_TX of a subport, and C_rx and CARD_RX, in ps (16 R470). -/
def State.txConst (s : State) (sub : Nat) : Nat :=
  s.fld (sub / 4) (F.PTP_SUB_CONST_TX (sub % 4)) + s.fld (sub / 4) (F.PTP_SUB_CARD_TX (sub % 4))
def State.rxConst (s : State) (sub : Nat) : Nat :=
  s.fld (sub / 4) (F.PTP_SUB_CONST_RX (sub % 4)) + s.fld (sub / 4) (F.PTP_SUB_CARD_RX (sub % 4))

/-- Picoseconds in 2^-16 ns, rounded to nearest. -/
def psTo16 (ps : Int) : Int := (ps * 65536 * 2 + 1000) / 2000

/-- A PTP event message as it departs: the MAC adds the time from its base to the reference plane to correctionField (16 R474, R475). -/
def State.tbDepart (s : State) (sub slot : Nat) (t : TbFrame) : List Nat :=
  match t.base with
  | none => t.bytes
  | some b =>
    let ps : Int := (10 * s.slotTime sub slot : Nat) + (s.txConst sub : Int) - 1000 * b
    patch t.bytes 22 (beBytes 8 ((beAt t.bytes 22 8 : Int) + psTo16 ps).toNat)

/-- The first frame of the time block leaves a subport's queue. -/
def State.tbPop (s : State) (sub : Nat) : State :=
  { s with eth := { s.eth with tb := SMap.set (fun _ => []) s.eth.tb sub (s.tbFrames sub).tail } }

/-- Note that an event message has departed: a Delay_Req's time for its port (16 R472). -/
def State.tbSent (s : State) (sub slot : Nat) (t : TbFrame) : State :=
  if t.base.isNone then s
  else
    let s1 := s.incWrap (sub / 4) (F.PTP_SUB_TX_COUNT (sub % 4)) 1
    if nth 0 t.bytes 14 % 16 = 1 ∧ beAt t.bytes 18 1 = s.fld 0 F.PTP_CFG_DOMAIN then
      let v := SMap.get (fun _ => PtpSub.empty) s.time.subs sub
      let tx := psTo16 ((10 * s.slotTime sub slot : Nat) + (s.txConst sub : Int))
      { s1 with time := { s1.time with subs := SMap.set (fun _ => PtpSub.empty) s1.time.subs sub { v with reqSeq := beAt t.bytes 44 2, reqTx := some tx } } }
    else s1

/-- A launch frame starts (R434, R436; 15 R450, R461). -/
def State.launchStart (s : State) (sub : Nat) (c : LaunchC) : State :=
  let slot := s.launchSlot sub c
  match c.flow with
  | none =>
    match s.tbFrames sub with
    | [] => s
    | t :: _ => ((s.tbPop sub).ethSend sub slot (s.tbDepart sub slot t)).tbSent sub slot t
  | some f =>
    match s.headRec f with
    | none => s
    | some (r, _) =>
      let d := s.txFrame f r
      let late := (s.slotTime sub slot - 100 * c.launch) / 100
      let s1 := (s.ethSend sub slot d).setFld f F.FLW_LATE_MAX (max (s.fld f F.FLW_LATE_MAX) (min late 0xFFFF))
      let s2 := (s1.incWrap (s.fld f F.FLW_TIMING_NODE) F.EGS_NODE_LAUNCH_COUNT 1).incWrap f F.FLW_FRAMES_COUNT 1
      (s2.countUnits (s.flowEasel f) F.EGS_EAS_ETH_UNITS 65536 (lineBytes d)).dropHead f

/-- A launch frame is dropped, unsent (R436; 16 R473). -/
def State.launchDrop (s : State) (sub : Nat) (c : LaunchC) : State :=
  match c.flow with
  | none => (s.tbPop sub).incSat (sub / 4) (F.PTP_SUB_LATE_COUNT (sub % 4)) 1
  | some f => (s.incSat f F.FLW_LATE_COUNT 1).dropHead f

/-- LAUNCH_FRAME_START (R434 to R436). -/
def execLaunchFrameStart (sub : Fin 32) (s : State) : Res :=
  match s.firstLaunch sub ((s.launchCands sub).filter (fun c => !s.launchLate sub c)) with
  | none => .next s
  | some c =>
    if s.subUp sub && decide (s.slotTime sub (s.launchSlot sub c) ≤ hundOf s.tod) then .next (s.launchStart sub c) else .next s

/-- LAUNCH_FRAME_DROP (R436, R437): the first launch frame that can no longer start in time, or any while the link is down. -/
def execLaunchFrameDrop (sub : Fin 32) (s : State) : Res :=
  match (s.launchCands sub).find? (fun c => s.launchLate sub c || !s.subUp sub) with
  | none => .next s
  | some c => .next (s.launchDrop sub c)

/-! ### Queued frames (15 R447, R448) -/

/-- A queued frame or Yaroz packet that could start: its leaf, flow (none for a Yaroz packet), easel and line bytes. -/
structure QCand where
  leaf : Nat
  flow : Option Nat
  easel : Nat
  bytes : Nat

/-- The nodes a frame of a leaf is charged to: the leaf, its subscriber, the root (R447). -/
def State.nodePath (s : State) (leaf : Nat) : List Nat :=
  let sb := s.fld leaf F.EGS_NODE_CFG_PARENT
  [leaf, sb, s.fld sb F.EGS_NODE_CFG_PARENT]

/-- Nodes of a path that lack the credit for some line bits. -/
def State.shortNodes (s : State) (c : QCand) : List Nat :=
  (s.nodePath c.leaf).filter (fun n => decide (s.fld n F.EGS_NODE_RATE_MBPS ≠ 0 ∧ s.fld n F.EGS_NODE_CREDIT_BITS < 8 * c.bytes))

/-- The launch times of the launch frames that are pending at a time: the time block's and those readable at the heads of flows (R434). -/
def State.pendingLaunch (s : State) (sub t : Nat) : List Nat :=
  (s.tbFrames sub).map (fun f => f.launch) ++
    ((((s.txFlows sub).filter s.flowLaunch).filterMap s.launchHead).filter (fun c => decide (c.ready ≤ t))).map (fun c => c.launch)

/-- Whether a frame that starts in a slot ends at or before every pending launch time (R434, R447). -/
def State.endsInTime (s : State) (sub slot : Nat) (c : QCand) : Bool :=
  (s.pendingLaunch sub (s.slotTime sub slot)).all (fun l => decide (s.slotTime sub slot + s.lineTime sub c.bytes ≤ 100 * l))

/-- Queued frames checked and readable by a slot, flow by flow. -/
def State.flowCands (s : State) (sub slot : Nat) : List QCand :=
  ((s.txFlows sub).filter (fun f => !s.flowLaunch f && NSet.has f s.eth.checked)).filterMap (fun f =>
    match s.headRec f with
    | some (r, t) => if hundOf t ≤ s.slotTime sub slot then
        some ⟨s.fld f F.FLW_TIMING_NODE, some f, s.flowEasel f, lineBytes (s.txFrame f r)⟩ else none
    | none => none)

/-- The first waiting Yaroz packet of each easel (R452). -/
def firstPerEasel : List YzWait → List Nat → List YzWait
  | [], _ => []
  | w :: r, seen => if w.easel = 64 ∨ w.easel ∈ seen then firstPerEasel r seen else w :: firstPerEasel r (w.easel :: seen)

/-- Yaroz REQ and RESP packets that could start on subport 0 of a port. -/
def State.yzCands (s : State) (sub : Nat) : List QCand :=
  if sub % 4 ≠ 0 then []
  else (firstPerEasel (s.yzWaits (16 + sub / 4)) []).filterMap (fun w =>
    (s.yzLeaf w.easel (sub / 4)).map (fun n => ⟨n, none, w.easel, s.yzFrameLen w.pkt + 20⟩))

/-- Every candidate whose turn may come in a slot, before credit. -/
def State.allCands (s : State) (sub slot : Nat) : List QCand := (s.flowCands sub slot ++ s.yzCands sub).filter (s.endsInTime sub slot)

/-- Count the head frames that wait for a node's credit, once each (R460). -/
def State.noteWaits (s : State) (l : List QCand) : State :=
  forEach l (fun c (t : State) =>
    match c.flow with
    | none => t
    | some f =>
      forEach (t.shortNodes c) (fun n (u : State) =>
        let w := SMap.get (fun _ => []) u.eth.waited f
        if NSet.has n w then u
        else { u.incSat n F.EGS_NODE_WAITS_COUNT 1 with eth := { u.eth with waited := SMap.set (fun _ => []) u.eth.waited f (NSet.add n w) } }) t) s

/-- Round robin by number: the first member above the one served last, else the lowest. -/
def nextTurn (last : Option Nat) (l : List Nat) : Option Nat :=
  match last with
  | none => l.min?
  | some x => match (l.filter (fun y => decide (x < y))).min? with
    | some y => some y
    | none => l.min?

/-- Keys of the round robins: RADIO leaves of a subport and service, an easel's subscribers at a subport, a leaf's flows (Yaroz packets stand as 8,192). -/
def turnRadio (sub sv : Nat) : Nat := sub * 8 + sv
def turnSub (sub easel : Nat) : Nat := 2 ^ 16 + sub * 64 + easel
def turnFlow (leaf : Nat) : Nat := 2 ^ 17 + leaf

/-- Who was served last in a round robin (numbers are held raised by one). -/
def State.lastTurn (s : State) (k : Nat) : Option Nat :=
  let v := SMap.get (fun _ => 0) s.eth.turns k
  if v = 0 then none else some (v - 1)
def State.setTurn (s : State) (k v : Nat) : State := { s with eth := { s.eth with turns := SMap.set (fun _ => 0) s.eth.turns k (v + 1) } }

def QCand.num (c : QCand) : Nat := c.flow.getD 8192

def State.service (s : State) (c : QCand) : Nat := s.fld c.leaf F.EGS_NODE_CFG_SERVICE
def State.isRadioLeaf (s : State) (c : QCand) : Bool := s.flag c.leaf F.EGS_NODE_CFG_RADIO
def State.subscriber (s : State) (c : QCand) : Nat := s.fld c.leaf F.EGS_NODE_CFG_PARENT

/-- Among frames of one leaf, the flow whose turn it is. -/
def State.leafPick (s : State) (l : List QCand) (leaf : Nat) : Option QCand :=
  let m := l.filter (fun c => decide (c.leaf = leaf))
  match nextTurn (s.lastTurn (turnFlow leaf)) (m.map QCand.num) with
  | some f => m.find? (fun c => decide (c.num = f))
  | none => none

/-- A frame of a RADIO leaf: C-PLANE before U-PLANE, leaves in turn (R448). -/
def State.radioPick (s : State) (sub : Nat) (l : List QCand) : Option QCand :=
  let m := l.filter s.isRadioLeaf
  match (m.map s.service).min? with
  | none => none
  | some sv =>
    match nextTurn (s.lastTurn (turnRadio sub sv)) ((m.filter (fun c => decide (s.service c = sv))).map (fun c => c.leaf)) with
    | some n => s.leafPick m n
    | none => none

/-- An easel's next frame: subscribers in turn, services strictly, the lowest leaf of the service, its flows in turn (R448). -/
def State.easelPick (s : State) (sub easel : Nat) (l : List QCand) : Option QCand :=
  let m := l.filter (fun c => decide (c.easel = easel))
  match nextTurn (s.lastTurn (turnSub sub easel)) (m.map s.subscriber) with
  | none => none
  | some sb =>
    let k := m.filter (fun c => decide (s.subscriber c = sb))
    match (k.map s.service).min? with
    | none => none
    | some sv =>
      match ((k.filter (fun c => decide (s.service c = sv))).map (fun c => c.leaf)).min? with
      | some n => s.leafPick k n
      | none => none

/-! ### Deficit round robin (R451) -/

def Drr.empty : Drr := ⟨[], [], false⟩
def State.drrOf (s : State) (i : Nat) : Drr := SMap.get (fun _ => Drr.empty) s.eth.drr i
def State.setDrr (s : State) (i : Nat) (d : Drr) : State := { s with eth := { s.eth with drr := SMap.set (fun _ => Drr.empty) s.eth.drr i d } }

/-- The active list follows the easels that have an eligible unit: one without leaves with a deficit of zero, a new one joins at the tail. -/
def Drr.follow (d : Drr) (es : List Nat) : Drr :=
  let keep := d.active.filter (fun e => decide (e ∈ es))
  ⟨keep ++ es.filter (fun e => decide (e ∉ d.active)), d.deficit.filter (fun p => decide (p.1 ∈ keep)), d.visited && decide (keep.head? = d.active.head?)⟩

/-- The easel that sends next, and the round robin after its unit is subtracted (R451). `size` gives the next unit of an easel, `q` its quantum. -/
def Drr.serve (size q : Nat → Nat) : Nat → Drr → Option (Nat × Drr)
  | 0, _ => none
  | k + 1, d =>
    match d.active with
    | [] => none
    | e :: r =>
      let v := SMap.get (fun _ => 0) d.deficit e + (if d.visited then 0 else q e)
      if size e ≤ v then some (e, ⟨e :: r, SMap.set (fun _ => 0) d.deficit e (v - size e), true⟩)
      else Drr.serve size q k ⟨r ++ [e], SMap.set (fun _ => 0) d.deficit e v, false⟩

/-- Rounds that are enough for any unit: the smallest quantum is 1,024 bytes (R445). -/
def drrFuel : Nat := 64 * 16

/-- The queued frame that starts, and the state with the round robins moved on (R448). -/
def State.pickQueued (s : State) (sub : Nat) (l : List QCand) : Option (QCand × State) :=
  match s.radioPick sub l with
  | some c => some (c, (s.setTurn (turnRadio sub (s.service c)) c.leaf).setTurn (turnFlow c.leaf) c.num)
  | none =>
    let m := l.filter (fun c => !s.isRadioLeaf c)
    let es := (List.range 64).filter (fun e => m.any (fun c => decide (c.easel = e)))
    let size := fun e => ((s.easelPick sub e m).map (fun c => c.bytes)).getD 0
    match ((s.drrOf sub).follow es).serve size (fun e => s.fld e F.EGS_EAS_Q_ETH_BYTES) drrFuel with
    | none => none
    | some (e, d) =>
      (s.easelPick sub e m).map (fun c =>
        (c, ((s.setDrr sub d).setTurn (turnSub sub e) (s.subscriber c)).setTurn (turnFlow c.leaf) c.num))

/-- Charge a frame's path (R448, R460). -/
def State.chargePath (s : State) (c : QCand) : State :=
  forEach (s.nodePath c.leaf) (fun n (t : State) =>
    let t1 := if t.fld n F.EGS_NODE_RATE_MBPS = 0 then t else t.setFld n F.EGS_NODE_CREDIT_BITS (t.fld n F.EGS_NODE_CREDIT_BITS - 8 * c.bytes)
    (t1.inc64 n F.EGS_NODE_BYTES_LO_BYTES F.EGS_NODE_BYTES_HI_BYTES c.bytes).incWrap n F.EGS_NODE_FRAMES_COUNT 1) s

/-- Remove the first packet that waits on a path and that a test accepts. -/
def State.yzTake (s : State) (path : Nat) (p : YzWait → Bool) : Option (YzWait × State) :=
  ((s.yzWaits path).find? p).map (fun w => (w, s.setYzWaits path ((s.yzWaits path).erase w)))

/-- A Yaroz packet starts on subport 0 of a port. -/
def State.yzStart (s : State) (sub slot : Nat) (w : YzWait) : State :=
  let n := s.yzFrameLen w.pkt + 20
  let s1 := { s with eth := { s.eth with busy := SMap.set (fun _ => 0) s.eth.busy sub (s.slotTime sub slot + s.lineTime sub n) } }
  let s2 := (s1.emit (.yaroz (16 + sub / 4) w.pkt)).incWrap (sub / 4) (F.ETH_SUB_TX_COUNT (sub % 4)) 1
  if w.easel < 64 then s2.countUnits w.easel F.EGS_EAS_ETH_UNITS 65536 n else s2

/-- A queued frame or packet starts. -/
def State.queuedStart (s : State) (sub slot : Nat) (c : QCand) : State :=
  let s1 := s.chargePath c
  match c.flow with
  | none =>
    match s1.yzTake (16 + sub / 4) (fun w => decide (w.easel = c.easel)) with
    | some (w, s2) => s2.yzStart sub slot w
    | none => s1
  | some f =>
    match s1.headRec f with
    | none => s1
    | some (r, _) =>
      let d := s1.txFrame f r
      (((s1.ethSend sub slot d).incWrap f F.FLW_FRAMES_COUNT 1).countUnits c.easel F.EGS_EAS_ETH_UNITS 65536 (lineBytes d)).dropHead f

/-- The ACK, NAK or CREDIT that a subport's start slot takes first, when it ends in time. -/
def State.ctrlTake (s : State) (sub slot : Nat) : Option (YzWait × State) :=
  if sub % 4 = 0 then
    match s.yzTake (16 + sub / 4) (fun w => decide (w.easel = 64)) with
    | some (w, s1) => if s.endsInTime sub slot ⟨0, none, 64, s.yzFrameLen w.pkt + 20⟩ then some (w, s1) else none
    | none => none
  else none

/-- QUEUED_FRAME_START (R447, R448; 14 R434): what starts in an idle start slot. -/
def execQueuedFrameStart (sub : Fin 32) (slot : Nat) (s : State) : Res :=
  if !s.subUp sub || decide (s.slotTime sub slot < s.subBusy sub) || decide (hundOf s.tod < s.slotTime sub slot) then .next s
  else
    match s.ctrlTake sub slot with
    | some (w, s1) => .next (s1.yzStart sub slot w)
    | none =>
      let l := s.allCands sub slot
      let s1 := s.noteWaits l
      match s1.pickQueued sub (l.filter (fun c => (s.shortNodes c).isEmpty)) with
      | some (c, s2) => .next (s2.queuedStart sub slot c)
      | none => .next s1

/-! ### Shapers (R445, R449, R454; 02 R49, R50) -/

/-- An entry of SHAPER_PARAM takes effect: INDEX 0 to 4,095 is a node, 4,096 + e easel e (R445). -/
def State.loadParam (s : State) (i : Nat) (d : List Nat) : State :=
  if i < 4096 then (s.setFld i F.EGS_NODE_RATE_MBPS (leAt d 0 4)).setFld i F.EGS_NODE_BURST_BYTES (leAt d 4 4)
  else
    let e := i - 4096
    ((s.setFld e F.EGS_EAS_Q_ETH_BYTES (leAt d 0 4)).setFld e F.EGS_EAS_Q_YZF_BYTES (leAt d 4 4)).setFld e F.EGS_EAS_Q_CXL_BYTES (leAt d 8 4)

/-- The nodes in use. -/
def State.nodesUsed (s : State) : List Nat :=
  (s.regs.filter (fun p => decide (p.1 % regSpan = F.EGS_NODE_CFG_LEVEL.off) && decide (fieldOf p.2 F.EGS_NODE_CFG_LEVEL.lo F.EGS_NODE_CFG_LEVEL.width ≠ 0))).map
    (fun p => p.1 / regSpan)

/-- Every shaper adds RATE bits and clips to BURST × 8 (R449). -/
def State.refill (s : State) : State :=
  forEach s.nodesUsed (fun n (t : State) =>
    t.setFld n F.EGS_NODE_CREDIT_BITS (min (t.fld n F.EGS_NODE_CREDIT_BITS + t.fld n F.EGS_NODE_RATE_MBPS) (8 * t.fld n F.EGS_NODE_BURST_BYTES))) s

/-- The bits of CVS_RT_PENDING by type (02 R56): EASELS 0, FLOWS 1, SHAPER_PARAM 2. -/
def rtFlows : Nat := 1
def rtParam : Nat := 2

/-- The retouches that wait for a refill take effect (02 R49, R50). -/
def State.refillRetouch (s : State) : State :=
  let s1 := if !(s.fld 0 F.CVS_RT_PENDING_TYPES).testBit rtParam then s
    else
      let u := forEach s.cvs.pendParam (fun p (t : State) => t.loadParam p.1 p.2) s
      let u1 := { u with cvs := { u.cvs with pendParam := [] } }
      (u1.keepSec 0xE (forEach s.cvs.pendParam (fun p (b : Blob) => blobPut b (16 * p.1) p.2) (u1.sec 0xE))).retouchDone rtParam
  if !(s1.fld 0 F.CVS_RT_PENDING_TYPES).testBit rtFlows then s1
  else
    let s2 := forEach s1.cvs.pendFlows (fun p (t : State) => t.loadFlow p.1 p.2) s1
    let s3 := { s2 with cvs := { s2.cvs with pendFlows := [] } }
    (s3.keepSec 0xC (forEach s1.cvs.pendFlows (fun p (b : Blob) => blobPut b (64 * p.1) p.2) (s3.sec 0xC))).retouchDone rtFlows

/-- Whether the time-of-day counter's boundaries reach the egress block: from sealing on, while the S domain runs (R449, R456, R459). -/
def State.paced (s : State) : Bool := s.runs .s && decide (s.fld 0 F.CVS_STATE_STATE = 2)

/-- SHAPER_REFILL (R449, R454). -/
def execShaperRefill (s : State) : Res := .next (if s.paced then s.refillRetouch.refill.incWrap 0 F.EGS_REFILLS_COUNT 1 else s)

/-! ### Samples (R456, R457) -/

/-- The bin of a value: `b0` is the lowest power of two that starts bin 2. -/
def histBin (b0 v : Nat) : Nat := if v = 0 then 0 else if v < 2 ^ b0 then 1 else min 15 (Nat.log2 v - b0 + 2)

/-- Depth and delay of a flow's queue (R456). -/
def State.flowDepth (s : State) (f : Nat) : Nat :=
  match (SMap.get (fun _ => []) s.eth.recs f).getLast? with
  | none => 0
  | some p => p.1 - (s.palQ (flowQ f)).front
def State.flowDelay (s : State) (f : Nat) : Nat :=
  match SMap.get (fun _ => []) s.eth.recs f with
  | [] => 0
  | (_, t) :: _ => s.nowNs - t / 2 ^ 40

/-- The bin of a delay: bin 1 starts at 1 ns for a queue that is not empty. -/
def State.delayBin (s : State) (f : Nat) : Nat :=
  if (SMap.get (fun _ => []) s.eth.recs f).isEmpty then 0 else max 1 (histBin 7 (s.flowDelay f))

/-- Sample one flow. -/
def State.sampleFlow (s : State) (f : Nat) : State :=
  let s1 := (s.setFld f F.EGS_Q_NOW_DEPTH (s.flowDepth f)).setFld f F.EGS_Q_NOW_DELAY_NS (min (s.flowDelay f) 0xFFFFFFFF)
  (s1.incSat f (F.EGS_Q_DHIST_COUNT (histBin 11 (s.flowDepth f))) 1).incSat f (F.EGS_Q_LHIST_COUNT (s.delayBin f)) 1

/-- The sample of each 4 µs, of every flow in use. -/
def State.queueSample (s : State) : State := (forEach s.flowsUsed (fun f (t : State) => t.sampleFlow f) s).incWrap 0 F.EGS_SAMPLES_COUNT 1

/-- QUEUE_SAMPLE (R456). -/
def execQueueSample (s : State) : Res := .next (if s.paced then s.queueSample else s)

/-- Who may write an easel's clear registers through a window of its flows: PF0, the Atelier cores, or the VF that owns it (14 R439; R458). -/
def mayClear (req : Requester) (e : Nat) : Bool := req.manages || ownsEas req e

/-- HISTOGRAM_CLEAR (R457, R458). -/
def execHistogramClear (req : Requester) (s : State) : Res :=
  s.access req F.EGS_Q_CTRL_CLEAR.off (fun flow =>
    if mayClear req (s.flowEasel flow) && decide (s.flowKind flow ≠ 0) then
      .next (forUpto 16 (fun i (t : State) => (t.setFld flow (F.EGS_Q_DHIST_COUNT i) 0).setFld flow (F.EGS_Q_LHIST_COUNT i) 0) s)
    else .next s)

/-! ### Yaroz links (R451, R452) -/

/-- The key of a link's round robin, after those of the 32 subports. -/
def drrLink (l : Nat) : Nat := 32 + l

/-- The packet that leaves next on a link, and the state without it: ACK, NAK and CREDIT first, then by DRR with Q_YZF (R451, R452). -/
def State.linkPick (s : State) (l : Nat) : Option (YzWait × State) :=
  match s.yzTake l (fun w => decide (w.easel = 64)) with
  | some r => some r
  | none =>
    let heads := firstPerEasel (s.yzWaits l) []
    let size := fun e => ((heads.find? (fun w => decide (w.easel = e))).map (fun w => s.yzFrameLen w.pkt + 20)).getD 0
    match ((s.drrOf (drrLink l)).follow ((List.range 64).filter (fun e => heads.any (fun w => decide (w.easel = e))))).serve size
        (fun e => s.fld e F.EGS_EAS_Q_YZF_BYTES) drrFuel with
    | none => none
    | some (e, d) => (s.setDrr (drrLink l) d).yzTake l (fun w => decide (w.easel = e))

/-- One packet leaves on a link that is up and awake (19 R531). -/
def State.linkSend (s : State) (l : Nat) : State :=
  if s.pathUp l && !(s.fld 0 F.PWR_LINK_SLEEP_SLEEP).testBit l then
    match s.linkPick l with
    | some (w, s1) => s1.yzDepart l w
    | none => s
  else s

/-! ### The CXL instance (R451, R453) -/

/-- Payload bytes of a unit on the link to the host; a message behind a write is not charged. -/
def hostBytes : Output → Nat
  | .hostWrite _ _ bs => bs.length
  | _ => 0

/-- The easel whose unit goes next: easel 0 before every other, which share what remains by DRR with their Q_CXL (R453). -/
def State.hostNext (s : State) : Option (Nat × Drr) :=
  if s.hostQueue 0 ≠ [] then some (0, s.cxl.drr)
  else
    let es := (List.range 64).filter (fun e => decide (e ≠ 0 ∧ s.hostQueue e ≠ []))
    let size := fun e => ((s.hostQueue e).head?.map hostBytes).getD 0
    (s.cxl.drr.follow es).serve size (fun e => s.fld e F.EGS_EAS_Q_CXL_BYTES) (64 * 4096)

/-- One unit leaves on the link to the host, counted in EGS_EAS_CXL (R453, R461). -/
def State.hostSend (s : State) : State :=
  if !s.hostUp then s
  else
    match s.hostNext with
    | none => s
    | some (e, d) =>
      match s.hostQueue e with
      | [] => s
      | o :: r =>
        let s1 := { s with cxl := { s.cxl with egress := SMap.set (fun _ => []) s.cxl.egress e r, drr := d } }
        (s1.emit o).countUnits e F.EGS_EAS_CXL_UNITS 0x10000 (hostBytes o)

end Sys2Proof.Machine
end

