-- ==== Sys2Proof/Machine/SeqBuild.lean ====
section
/-! DEFINITION. Machine/SeqBuild.lean: pages and page lists (11 R341, R342, R352), output rings (11 R361, R367), how sequences end (11 R360, R363), and the
builder of a step (11 R350 to R353). -/
namespace Sys2Proof.Machine

open Sys2Proof

/-- States of a sequence-table entry (R345). -/
def sqFree : Nat := 0
def sqQueued : Nat := 1
def sqPrefill : Nat := 2
def sqDecode : Nat := 3
def sqSwapOut : Nat := 4
def sqSwapped : Nat := 5
def sqSwapIn : Nat := 6
def sqEnding : Nat := 7

/-- Kinds of a segment (R353). -/
def sgDecode : Nat := 0
def sgPrefill : Nat := 1
def sgLast : Nat := 2
def sgVerify : Nat := 3

/-- The value that names no token, no logit row and no swap slot. -/
def noToken : Nat := 0xFFFFFFFF

/-- Insert by a measure, before the entries of the same measure. -/
def insertFront {α : Type} (f : α → Nat) (a : α) : List α → List α
  | [] => [a]
  | b :: r => if f b < f a then b :: insertFront f a r else a :: b :: r

/-- Sort by a measure, keeping the order of equals. -/
def sortBy {α : Type} (f : α → Nat) : List α → List α
  | [] => []
  | a :: r => insertFront f a (sortBy f r)

/-- Change an entry. -/
def State.updSeq (s : State) (e i : Nat) (f : SeqEntry → SeqEntry) : State := s.setSeqEntry e i (f (s.seqEntry e i))

/-! ### Pages (R341, R342, R352) -/

/-- Pool pages in the page lists. -/
def State.usedPages (s : State) (e : Nat) : List Nat :=
  ((s.seqEas e).active.map (fun q => (List.range q.2.pages).map (fun p => s.pageAt e q.1 p))).flatten

def State.freePages (s : State) (e : Nat) : Nat := s.fld e F.SEQ_EAS_KV_PAGES_PAGES - (s.usedPages e).length

/-- The `n` lowest free pages of the pool. -/
def State.lowestFree (s : State) (e n : Nat) : List Nat :=
  let u := s.usedPages e
  ((List.range (min (s.fld e F.SEQ_EAS_KV_PAGES_PAGES) (u.length + n))).filter (fun g => !u.contains g)).take n

/-- Show SEQ_EAS_PAGES_FREE. -/
def State.showFree (s : State) (e : Nat) : State := s.setFld e F.SEQ_EAS_PAGES_FREE_PAGES (s.freePages e)

/-- A store of the engine itself in an area of the easel (R340); marked bytes lay poison. -/
def State.seqStore (s : State) (e a : Nat) (bs : List Nat) : State :=
  (((s.storeRaw (bondKey e a) (bs.map (· % 256))).setUsedRange (bondKey e 0) 65536 a bs.length).bondWatermark e).layPoison (bondKey e a) bs

/-- The pages a sequence needs up to a position, at most its whole list. -/
def State.pagesTo (s : State) (e pos : Nat) : Nat := min (pos / s.pageTokens e + 1) (s.fld e F.SEQ_EAS_PL_LEN_PAGES)

/-- The pages a sequence lacks up to a position. -/
def State.lacks (s : State) (e i pos : Nat) : Nat := s.pagesTo e pos - (s.seqEntry e i).pages

/-- Lengthen a sequence's page list to `n` pages (R352). -/
def State.growList (s : State) (e i n : Nat) : State :=
  let p := (s.seqEntry e i).pages
  if n ≤ p then s
  else
    let s1 := forEach ((s.lowestFree e (n - p)).zipIdx) (fun g (t : State) => t.seqStore e (t.plAddr e i (p + g.2)) (leBytes 4 g.1)) s
    (s1.updSeq e i (fun t => { t with pages := n })).showFree e

/-- Free the pages whose first position is at or above CTX_LEN (R360). -/
def State.trimList (s : State) (e i : Nat) : State :=
  (s.updSeq e i (fun t => { t with pages := min t.pages ((t.ctxLen + s.pageTokens e - 1) / s.pageTokens e) })).showFree e

/-! ### Output rings (R361, R367) -/

def State.orSize (s : State) (e r : Nat) : Nat := s.fld e (F.SEQ_OR_SIZE_SIZE r)
def State.orEntries (s : State) (e r : Nat) : Nat := if s.orSize e r = 0 then 0 else 2 ^ s.orSize e r

/-- Entries of a ring that the device may still write (R335). -/
def State.orRoom (s : State) (e r : Nat) : Nat :=
  let n := s.orEntries e r
  n - 1 - (s.fld e (F.SEQ_OR_TAIL_TAIL r) + n - s.fld e (F.SEQ_OR_HEAD_HEAD r)) % max 1 n

def State.orAddr (s : State) (e r : Nat) : Nat :=
  s.fld64 e (F.SEQ_OR_BASE_LO_ADDR r) (F.SEQ_OR_BASE_HI_ADDR r) + 32 * s.fld e (F.SEQ_OR_TAIL_TAIL r)

/-- Whether the next record can be written where the ring lies (17 R489). -/
def State.orReachable (s : State) (e r : Nat) : Bool :=
  if s.flag e (F.SEQ_OR_SIZE_SPACE r) then s.inShare e (s.orAddr e r) 32 else s.hostUp && s.translates e (s.orAddr e r)

/-- Write one record, with PHASE in bit 7 of its KIND, advance the tail and signal vector 1 (R361; 10 R335; 17 R501). -/
def State.orWrite (s : State) (e : Nat) (o : OutRec) : State :=
  let x := s.seqEas e
  let p := SMap.get (fun _ => RingPos.start) x.ring o.ring
  let bs := o.bytes.set 10 (nth 0 o.bytes 10 + (if p.phase then 128 else 0))
  let t' := (s.fld e (F.SEQ_OR_TAIL_TAIL o.ring) + 1) % s.orEntries e o.ring
  let a := s.orAddr e o.ring
  let s1 := if s.flag e (F.SEQ_OR_SIZE_SPACE o.ring) then (s.bondStore e a bs).st else s.hostWrite e a bs
  let p' : RingPos := ⟨if t' = 0 then !p.phase else p.phase, (p.seqno + 1) % 2 ^ 32⟩
  let s2 := s1.setSeqEas e { s1.seqEas e with ring := SMap.set (fun _ => RingPos.start) x.ring o.ring p' }
  (s2.setFld e (F.SEQ_OR_TAIL_TAIL o.ring) t').fireModerated e 1

/-- An entry whose END record has been written becomes FREE (R345, R360). -/
def State.outWritten (s : State) (e : Nat) (o : OutRec) : State :=
  if o.ends then (s.setSeqEntry e o.seq SeqEntry.free).showFree e else s

/-- Write the records that wait, in order by ring: a full or unreachable ring keeps its own back. -/
def outLoop (e : Nat) : List OutRec → List OutRec → State → State
  | [], kept, s => s.setSeqEas e { s.seqEas e with outq := kept }
  | o :: r, kept, s =>
    if kept.any (fun k => decide (k.ring = o.ring)) || decide (s.orRoom e o.ring = 0) then outLoop e r (kept ++ [o]) s
    else if s.orReachable e o.ring then outLoop e r kept ((s.orWrite e o).outWritten e o)
    else outLoop e r (kept ++ [o]) (if s.flag e (F.SEQ_OR_SIZE_SPACE o.ring) ∨ !s.hostUp then s else s.refuseXlate e ukNone 0)

/-- Write what waits for the output rings. -/
def State.flushOut (s : State) (e : Nat) : State := outLoop e (s.seqEas e).outq [] s

/-- Queue records of the output rings and write what can be written. -/
def State.outPut (s : State) (e : Nat) (os : List OutRec) : State :=
  (s.setSeqEas e { s.seqEas e with outq := (s.seqEas e).outq ++ os }).flushOut e

/-- A TOKENS record of up to 4 tokens (R361). -/
def tokensRec (t : SeqEntry) (i pos : Nat) (toks : List Nat) : OutRec :=
  ⟨t.outRing, i, leBytes 8 t.tag ++ leBytes 2 i ++ leBytes 1 1 ++ leBytes 1 toks.length ++ leBytes 4 pos ++
    ((toks ++ List.replicate (4 - toks.length) noToken).map (leBytes 4)).flatten, false⟩

/-- TOKENS records of up to 4 tokens each, in order. -/
def tokensRecs (t : SeqEntry) (i : Nat) : Nat → Nat → List Nat → List OutRec
  | 0, _, _ => []
  | n + 1, pos, toks => if toks.isEmpty then [] else tokensRec t i pos (toks.take 4) :: tokensRecs t i n (pos + 4) (toks.drop 4)

/-- An END record (R361). -/
def endRec (t : SeqEntry) (i : Nat) : OutRec :=
  ⟨t.outRing, i, leBytes 8 t.tag ++ leBytes 2 i ++ leBytes 1 2 ++ leBytes 1 0 ++ leBytes 4 t.ctxLen ++ leBytes 1 t.endCode ++ leBytes 3 0 ++
    leBytes 4 t.genCount ++ leBytes 4 t.prefilled ++ leBytes 4 0, true⟩

/-! ### Endings (R359, R360, R363) -/

def endStopToken : Nat := 1
def endStopSeq : Nat := 2
def endMaxGen : Nat := 3
def endMaxCtx : Nat := 4
def endCancelled : Nat := 5
def endPoison : Nat := 6
def endLost : Nat := 7

/-- End a sequence: its pages are freed and its END record goes out; LOST is counted and reported with `info` (R360, R363; 21 R573, R574, R586). `recs` go before. -/
def State.endSeq (s : State) (e i code info : Nat) (recs : List OutRec) : State :=
  let s1 := (s.updSeq e i (fun t => { t with state := sqEnding, endCode := code, pages := 0, swapSlot := noToken, cancel := false, lost := none })).showFree e
  let s2 := if code = endLost then (s1.incSat e F.SEQ_EAS_LOST_COUNT 1).usageFault e ukSequence i info ufSeqLost else s1
  s2.outPut e (recs ++ [endRec (s2.seqEntry e i) i])

/-- A sequence is lost: at its varnish when it is in the open step, else at once (R363). -/
def State.loseSeq (s : State) (e i info : Nat) : State :=
  let t := s.seqEntry e i
  if t.state = sqFree ∨ t.state = sqEnding then s
  else if s.inOpenStep e i then s.setSeqEntry e i { t with lost := some info }
  else s.endSeq e i endLost info []

/-- Sequences whose page list holds an uncorrectable error are lost (R363). Model's choice: notes/assumptions/160.md. -/
def State.loseBadLists (s : State) (e : Nat) : State :=
  forEach (s.seqEas e).active (fun q (t : State) =>
    if q.2.pages ≠ 0 ∧ t.poisoned (bondKey e (t.plAddr e q.1 0)) (4 * q.2.pages) then t.loseSeq e q.1 0 else t) s

/-! ### Swapping (R352) -/

/-- Whether swap space and the swap channel are declared. -/
def State.swapOn (s : State) (e : Nat) : Bool := decide (s.fld e F.SEQ_EAS_SWAP_SLOTS_PAGES ≠ 0) && s.flag e F.SEQ_EAS_SWAP_CH_VALID

/-- Pages of a sequence's CTX_LEN positions. -/
def State.ctxPages (s : State) (e i : Nat) : Nat := ((s.seqEntry e i).ctxLen + s.pageTokens e - 1) / s.pageTokens e

/-- The lowest run of free swap slots that a sequence's positions fit: slots are taken from a swap-out's choice until its sequence has been copied back. -/
def State.swapSlotFor (s : State) (e i : Nat) : Option Nat :=
  let n := s.ctxPages e i
  let held := (s.seqEas e).active.filter (fun q => decide (q.2.swapSlot ≠ noToken))
  (List.range (s.fld e F.SEQ_EAS_SWAP_SLOTS_PAGES + 1 - n)).find? (fun k =>
    held.all (fun q => !overlaps k n q.2.swapSlot (s.ctxPages e q.1)))

/-- The swap channel. -/
def State.swapCh (s : State) (e : Nat) : Nat := s.fld e F.SEQ_EAS_SWAP_CH_CH

/-- Whether the engine's own run is on the swap channel. -/
def State.swapping (s : State) (e : Nat) : Bool := (s.chan (s.swapCh e)).run.any (fun r => decide (r.arm.origin = .engine))

/-- The engine arms the swap channel with its own descriptors, one for each page, unless a copy is already under way there (R352). -/
def State.swapArm (s : State) (e pages : Nat) : State :=
  let n := s.swapCh e
  if s.swapping e then s
  else
    let s1 := s.armChan n ⟨0, pages, false, .engine⟩
    match (s1.chan n).run with
    | some r => if r.arm.origin = .engine then (s1.setChan n { s1.chan n with run := some { r with fetched := pages } }).chState n chRunning else s1
    | none => s1

/-- A copy on the swap channel has ended: descriptors done and bytes copied are counted, and the engine's run ends with the last copy (R352; 09 R303). -/
def State.swapStep (s : State) (e pages : Nat) : State :=
  let n := s.swapCh e
  if !s.swapping e then s
  else
    let s1 := (s.incWrap n F.STR_CH_DONE_COUNT pages).inc64 n F.STR_CH_BYTES_LO_BYTES F.STR_CH_BYTES_HI_BYTES (pages * s.pageBytes e)
    if (s1.seqEas e).active.any (fun q => decide (q.2.state = sqSwapOut ∨ q.2.state = sqSwapIn)) then s1
    else
      let c := s1.chan n
      ((s1.setChan n { c with run := c.run.map (fun r => { r with started := r.arm.count }) }).finishRun n).judgeBoundary e

/-- Start a swap-out when slots are free: whether it was started, and the state after. -/
def State.swapOutStart (s : State) (e i : Nat) : Bool × State :=
  if s.swapOn e then
    match s.swapSlotFor e i with
    | some k => (true, (s.updSeq e i (fun t => { t with state := sqSwapOut, swapSlot := k })).swapArm e (s.ctxPages e i))
    | none => (false, s)
  else (false, s)

/-- Start a swap-in to newly allocated pages. -/
def State.swapInStart (s : State) (e i : Nat) : State :=
  ((s.growList e i (s.ctxPages e i)).updSeq e i (fun t => { t with state := sqSwapIn })).swapArm e (s.ctxPages e i)

/-! ### The builder (R350 to R353) -/

/-- Rows of a sequence's decode segment (R351). -/
def SeqEntry.decRows (t : SeqEntry) : Nat := if t.spec then 1 + t.draftMax else 1

/-- Records a sequence of a step may need (R351). -/
def SeqEntry.ringNeed (t : SeqEntry) : Nat := (t.draftMax + 1 + 3) / 4 + 1

/-- Whether a sequence's ring has room beyond what waits for it and what the sequences taken so far have reserved (R351). -/
def State.hasRoom (s : State) (e i : Nat) (taken : List Nat) : Bool :=
  let r := (s.seqEntry e i).outRing
  let waits := ((s.seqEas e).outq.filter (fun o => decide (o.ring = r))).length
  let held := taken.foldl (fun n j => if (s.seqEntry e j).outRing = r then n + (s.seqEntry e j).ringNeed else n) 0
  decide (waits + held + (s.seqEntry e i).ringNeed ≤ s.orRoom e r)

/-- Sequences of a state, in index order. -/
def State.seqsIn (s : State) (e st : Nat) : List Nat := ((s.seqEas e).active.filter (fun q => decide (q.2.state = st))).map (·.1)

/-- Pick decode sequences in order until the row budget is met: those taken, whether the budget cut the choice, and the state with RING_WAIT set where a ring
lacks room (R351). -/
def pickDecode (e budget : Nat) : List Nat → List Nat → Nat → State → List Nat × Bool × State
  | [], taken, _, s => (taken, false, s)
  | i :: r, taken, rows, s =>
    let n := (s.seqEntry e i).decRows
    if budget < rows + n then (taken, true, s)
    else if s.hasRoom e i taken then pickDecode e budget r (taken ++ [i]) (rows + n) s
    else pickDecode e budget r taken rows (s.updSeq e i (fun t => { t with ringWait := true }))

/-- The last position of a decode segment. -/
def SeqEntry.decLast (t : SeqEntry) : Nat := t.ctxLen + t.decRows - 1

/-- Leave out victims, the latest admitted first, until the pages suffice (R352). -/
def dropVictims (e : Nat) : Nat → List Nat → State → List Nat × State
  | 0, taken, s => (taken, s)
  | n + 1, taken, s =>
    if taken.foldl (fun m i => m + s.lacks e i (s.seqEntry e i).decLast) 0 ≤ s.freePages e then (taken, s)
    else
      match (sortBy (fun i => (s.seqEntry e i).admitNo) taken).getLast? with
      | none => (taken, s)
      | some v =>
        let s1 := s.updSeq e v (fun t => { t with pageWait := true })
        dropVictims e n (taken.filter (fun i => decide (i ≠ v))) (s1.swapOutStart e v).2

/-- Add a segment to the step that is being built, with the pages its last row needs (R352, R353). -/
def State.addSeg (s : State) (e i kind pos n : Nat) : State :=
  let s1 := s.growList e i (s.pagesTo e (pos + n - 1))
  let x := s1.seqEas e
  let lg := if kind = sgPrefill then 0 else if kind = sgVerify then n else 1
  let g : SeqSeg := ⟨i, kind, if kind = sgVerify then (s1.seqEntry e i).draftMax else 0, x.rows, n, pos, if lg = 0 then noToken else x.logitRows, [], false⟩
  s1.setSeqEas e { x with segs := x.segs ++ [g], rows := x.rows + n, logitRows := x.logitRows + lg }

/-- Sequences in the segments so far. -/
def State.inSegs (s : State) (e : Nat) : List Nat := (s.seqEas e).segs.map (·.seq)

/-- Rows the step may still take. -/
def State.rowsLeft (s : State) (e : Nat) : Nat := s.fld e F.SEQ_EAS_CFG0_STEP_ROWS - (s.seqEas e).rows

/-- The next chunk of a prompt (R351). -/
def State.chunkOf (s : State) (e i : Nat) : Nat :=
  min (s.fld e F.SEQ_EAS_CFG0_CHUNK) (min ((s.seqEntry e i).promptLen - (s.seqEntry e i).prefilled) (s.rowsLeft e))

/-- Add a prefill segment. -/
def State.addPrefill (s : State) (e i n : Nat) : State :=
  let t := s.seqEntry e i
  s.addSeg e i (if t.prefilled + n = t.promptLen then sgLast else sgPrefill) t.prefilled n

/-- Prefill in ADMIT_NO order; one whose pages are not free waits (R351, R352). -/
def State.takePrefill (s : State) (e i : Nat) : State :=
  let n := s.chunkOf e i
  if n = 0 then s
  else if s.freePages e < s.lacks e i ((s.seqEntry e i).prefilled + n - 1) then s.updSeq e i (fun t => { t with pageWait := true })
  else if s.hasRoom e i (s.inSegs e) then s.addPrefill e i n
  else s.updSeq e i (fun t => { t with ringWait := true })

/-- Swap-ins in the order of the swap-outs, while the free pages stay at or above RESERVE (R351). -/
def takeSwapped (e : Nat) : List Nat → State → State
  | [], s => s
  | i :: r, s =>
    if s.fld e F.SEQ_EAS_RESERVE_PAGES + s.ctxPages e i ≤ s.freePages e then takeSwapped e r (s.swapInStart e i) else s

/-- Admissions in ADMIT_NO order, while the free pages stay at or above RESERVE (R351). -/
def takeQueued (e : Nat) : List Nat → State → State
  | [], s => s
  | i :: r, s =>
    let n := s.chunkOf e i
    if n = 0 ∨ s.freePages e < s.fld e F.SEQ_EAS_RESERVE_PAGES + s.lacks e i (n - 1) then s
    else if s.hasRoom e i (s.inSegs e) then
      takeQueued e r ((s.updSeq e i (fun t => { t with state := sqPrefill })).addPrefill e i n)
    else takeQueued e r (s.updSeq e i (fun t => { t with ringWait := true }))

/-- Choose the segments of a step (R351, R352). -/
def State.fillStep (s0 : State) (e : Nat) : State :=
  let x0 := s0.seqEas e
  let s := forEach x0.active (fun q (t : State) => t.updSeq e q.1 (fun y => { y with ringWait := false, pageWait := false }))
    (s0.setSeqEas e { x0 with segs := [], rows := 0, logitRows := 0, lastDraft := 0 })
  let budget := s.fld e F.SEQ_EAS_CFG0_STEP_ROWS
  let dec := s.seqsIn e sqDecode
  let order := dec.filter (fun i => decide (x0.resume ≤ i)) ++ dec.filter (fun i => decide (i < x0.resume))
  let (taken, cut, s1) := pickDecode e budget order [] 0 s
  let nx := if cut then (match taken.getLast? with
    | some i => i + 1
    | none => x0.resume) else 0
  let s2 := s1.setSeqEas e { s1.seqEas e with resume := nx }
  let (kept, s3) := dropVictims e taken.length taken s2
  let s4 := forEach kept (fun i (t : State) =>
    let y := t.seqEntry e i
    t.addSeg e i (if 1 < y.decRows then sgVerify else sgDecode) y.ctxLen y.decRows) s3
  let s5 := forEach (sortBy (fun i => (s4.seqEntry e i).admitNo) (s4.seqsIn e sqPrefill)) (fun i (t : State) => t.takePrefill e i) s4
  let s6 := takeSwapped e (sortBy (fun i => (s5.seqEntry e i).swapNo) (s5.seqsIn e sqSwapped)) s5
  takeQueued e (sortBy (fun i => (s6.seqEntry e i).admitNo) (s6.seqsIn e sqQueued)) s6

/-- The input tokens of a segment (R353): prompt tokens carry the poison of the memory they lie in. -/
def State.segTokens (s : State) (e : Nat) (g : SeqSeg) : List Nat :=
  let t := s.seqEntry e g.seq
  if g.kind = sgDecode ∨ g.kind = sgVerify then leBytes 4 t.lastToken ++ (List.replicate (4 * (g.count - 1)) 255)
  else
    let k := bondKey e (t.promptAddr + 4 * g.pos)
    s.tagPoison k (s.readBytes k (4 * g.count))

/-- The 32 bytes of a segment (R353). -/
def State.segBytes (s : State) (e : Nat) (g : SeqSeg) : List Nat :=
  leBytes 2 g.seq ++ leBytes 1 g.kind ++ leBytes 1 g.drafts ++ leBytes 4 g.row ++ leBytes 4 g.count ++ leBytes 4 g.pos ++ leBytes 4 g.logit ++
    leBytes 4 (s.seqEntry e g.seq).pages ++ leBytes 8 (s.plAddr e g.seq 0)

/-- The rows behind the logit rows of a segment (R353). -/
def SeqSeg.logitRows (g : SeqSeg) : List Nat :=
  if g.kind = sgPrefill then [] else if g.kind = sgLast then [g.row + g.count - 1] else (List.range g.count).map (g.row + ·)

/-- ROWS_PAD of a step of some rows. -/
def rowsPad (rows : Nat) : Nat := alignUp rows 128

/-- Write the work list of a step (R353). -/
def State.writeWorkList (s : State) (e step : Nat) : State :=
  let x := s.seqEas e
  let a := s.wlBuf e step
  let pad := rowsPad x.rows
  let count := fun (p : SeqSeg → Bool) => (x.segs.filter p).length
  let fill := List.replicate (4 * (pad - x.rows)) 255
  let hdr := leBytes 4 step ++ leBytes 4 x.segs.length ++ leBytes 4 x.rows ++ leBytes 4 pad ++ leBytes 4 x.logitRows ++
    leBytes 4 (count (fun g => decide (g.kind = sgDecode))) ++ leBytes 4 (count (fun g => decide (g.kind = sgVerify))) ++
    leBytes 4 (count (fun g => decide (g.kind = sgPrefill ∨ g.kind = sgLast))) ++ leBytes 32 0
  let toks := (x.segs.map (s.segTokens e)).flatten ++ fill
  let poss := (x.segs.map (fun g => ((List.range g.count).map (fun j => leBytes 4 (g.pos + j))).flatten)).flatten ++ fill
  let lgs := (x.segs.map (fun g => (g.logitRows.map (leBytes 4)).flatten)).flatten
  ((((s.seqStore e a hdr).seqStore e (a + 0x40) ((x.segs.map (s.segBytes e)).flatten)).seqStore e (a + 0x40040) toks).seqStore e (a + 0x50040)
    poss).seqStore e (a + 0x60040) lgs

/-- Post a record of the sequence engine (R349). -/
def State.seqPost (s : State) (e kind step st ev a b : Nat) : State := s.postRecord e kind (seqRecord step st ev e a b)

/-- Whether a build may go on: brace mode does not hold and climate control admits work (R350; 19 R540). -/
def State.mayBuild (s : State) : Bool := !s.brace && decide (s.fld 0 F.PWR_ADMIT_LEVEL ≠ 0)

/-- Build step s + 1: the segments, the work list and the record BUILT; whether any sequence took a row (R350 to R354). -/
def State.buildStep (s : State) (e : Nat) : Bool × State :=
  let s1 := (s.loseBadLists e).fillStep e
  let x := s1.seqEas e
  if x.segs.isEmpty then (false, s1)
  else
    let step := (s1.fld e F.SEQ_EAS_STEP_STEP + 1) % 2 ^ 32
    let s0 := s1.setSeqEas e { s1.seqEas e with stale := SMap.set (fun _ => []) (s1.seqEas e).stale (step % 2) [] }
    let s2 := (s0.writeWorkList e step).setFld e F.SEQ_EAS_STEP_STEP step
    (true, (s2.setFld e F.SEQ_EAS_STATUS_PHASE 1).seqPost e 0x13 step stOk 1 (rowsPad x.rows) x.segs.length)

/-- Note whether a build waits for admission (R350). -/
def State.setBuildWaits (s : State) (e : Nat) (waits retry : Bool) : State :=
  (s.setSeqEas e { s.seqEas e with buildWaits := waits, buildRetry := retry }).setFlag e F.SEQ_EAS_STATUS_ADMIT_WAIT waits

/-- The build that AUTO asks for: it waits for admission, opens a step, or is tried again at the next event that may help; a freeze allows none (R350; 18 R515). -/
def State.autoTry (s : State) (e : Nat) : State :=
  if !s.flag e F.SEQ_EAS_CTRL_AUTO || !s.seqOn e || decide (s.fld e F.SEQ_EAS_STATUS_PHASE ≠ 0) then s.setBuildWaits e false false
  else if s.fld e F.EAS_LIFE_STATE ≠ 3 then s.setBuildWaits e false true
  else if !s.mayBuild then s.setBuildWaits e true true
  else
    let r := (s.setBuildWaits e false false).buildStep e
    if r.1 then r.2 else r.2.setBuildWaits e false true

/-- The same, where a build that waited no longer waits and opened no step: the step boundaries are judged (02 R48). -/
def State.autoBuild (s : State) (e : Nat) : State :=
  let t := s.autoTry e
  if (s.seqEas e).buildWaits && !t.seqStepOpen e then t.judgeBoundary e else t

/-- An event after which a build that found no sequence is tried again under AUTO (R350). -/
def State.retryBuild (s : State) (e : Nat) : State := if (s.seqEas e).buildRetry && !(s.seqEas e).buildWaits then s.autoBuild e else s

end Sys2Proof.Machine
end

