-- ==== Sys2Proof/Machine/Bonded.lean ====
section
/-! DEFINITION. Machine/Bonded.lean: the meanings of the commands of bonded memory (04): a request to it, its page and refresh controllers, the patrol
scrubber, and the release of a tenant's units. -/
namespace Sys2Proof.Machine

open Sys2Proof

/-- The number of a request's status as its answer carries it (04 R101, R112). -/
def MemStatus.num : MemStatus → Nat
  | .ok => 0
  | .outOfShare => 1
  | .poison => 2

/-- A store to the page lists changes nothing, since only the sequence engine writes them (11 R342). -/
def State.bondWrite (s : State) (easel addr n : Nat) (r : MemResp) : MemResp :=
  if s.hitsPageList easel addr n then ⟨.outOfShare, [], s.refuseShare easel addr⟩ else r

/-- A request to an easel's bonded memory is translated and served, or refused beyond its share (04 R100, R101); a load sees the committed view of an
underpainting area (11 R362). -/
def State.bondRequest (s : State) (easel addr : Nat) (acc : MemAcc) (ecc : Option EccEvent) : State :=
  let r := match acc with
    | .load n => let m := s.bondLoad easel addr n 0 ecc; { m with data := m.st.viewOf .committed easel addr m.data }
    | .store bytes => s.bondWrite easel addr bytes.length (s.bondStore easel addr bytes)
    | .atomic w op operand compare => s.bondWrite easel addr w (s.bondAtomic easel addr w op operand compare 0 ecc)
  r.st.emit (.memResp easel r.status.num r.data)

/-- BONDED_REQUEST (04 R100); a sequence whose page list suffers an uncorrectable error is lost (11 R363). -/
def execBondedRequest (easel : Fin 64) (addr : Nat) (acc : MemAcc) (ecc : Option EccEvent) (s : State) : Res :=
  .next ((s.bondRequest easel addr acc ecc).loseBadLists easel)

/-- Close the page of a bank (04 R106). -/
def State.closePage (s : State) (stack channel bank : Nat) : State :=
  { s with bond := { s.bond with openRow := SMap.set (fun _ => 0) s.bond.openRow (bankKey stack channel bank) 0 } }

/-- A bank's page has been open 32 K-cycles without a hit (04 R106). -/
def execBankPageTimeout (stack : Fin 18) (channel : Fin 48) (bank : Fin 32) (s : State) : Res :=
  .next (s.closePage stack channel bank)

/-- The refresh rate that waits for a stack's next refresh interval takes effect (04 R110); `rateDue` holds it plus 1. -/
def State.takeRate (s : State) (stack : Nat) : State :=
  match SMap.get (fun _ => 0) s.bond.rateDue stack with
  | 0 => s
  | r + 1 =>
    ({ s with bond := { s.bond with rateDue := SMap.set (fun _ => 0) s.bond.rateDue stack 0 } }).setFld stack F.MEM_STK_STATUS_RATE r

/-- A bank's refresh interval expires: its page closes (04 R106), a changed rate takes effect (R110). -/
def execStackRefresh (stack : Fin 18) (channel : Fin 48) (bank : Fin 32) (s : State) : Res :=
  .next ((s.closePage stack channel bank).takeRate stack)

/-- The refresh rate of a stack at a reading: it rises at the first reading above its threshold, and falls only after a reading 2 °C or more below it (04
R110). -/
def rateAt (old temp : Nat) : Nat :=
  if 95 < temp then 2
  else if old = 2 then (if temp ≤ 83 then 0 else if temp ≤ 93 then 1 else 2)
  else if 85 < temp then 1
  else if old = 1 then (if temp ≤ 83 then 0 else 1)
  else 0

/-- The rate that a stack refreshes at once what waits has taken effect. -/
def State.rateNext (s : State) (stack : Nat) : Nat :=
  match SMap.get (fun _ => 0) s.bond.rateDue stack with
  | 0 => s.fld stack F.MEM_STK_STATUS_RATE
  | r + 1 => r

/-- A reading's refresh rate waits for the stack's next refresh interval (04 R110). -/
def State.aimRate (s : State) (stack temp : Nat) : State :=
  let r := rateAt (s.rateNext stack) temp
  { s with bond := { s.bond with rateDue := SMap.set (fun _ => 0) s.bond.rateDue stack (if r = s.fld stack F.MEM_STK_STATUS_RATE then 0 else r + 1) } }

/-! ### The patrol scrubber (04 R113) -/

/-- The granules of a stack (04 R93). -/
def stackGranules : Nat := 402653184

/-- The scrubber goes on to its next granule; PASSES counts its passes (04 R113, R120). -/
def State.scrubOn (s : State) (stack : Nat) : State :=
  let n := SMap.get (fun _ => 0) s.bond.scrubPos stack + 1
  let s1 := { s with bond := { s.bond with scrubPos := SMap.set (fun _ => 0) s.bond.scrubPos stack (n % stackGranules) } }
  if n = stackGranules then s1.incWrap stack F.MEM_STK_SCRUB_PASSES 1 else s1

/-- The check of the scrubber's granule, which an injection point of the stack may alter (04 R111, R112; 21 R579). -/
def State.scrubCheck (s : State) (stack : Nat) (g : Granule) (ecc : Ecc) (lane : Nat) : State :=
  let (what, s1) := s.inject stack g.easel
  let sel := s.fld stack F.FLT_INJCFG_SEL
  let lane := match what with
    | some 2 => 0x1F
    | some _ => sel % 18
    | none => lane
  s1.bondEcc stack g lane 0 (eccFlip ecc what) true what.isSome

/-- The granule that a stack's scrubber reads next. -/
def State.scrubNext (s : State) (stack : Nat) : Granule := s.stackGranule stack (64 * SMap.get (fun _ => 0) s.bond.scrubPos stack)

/-- PATROL_SCRUB (04 R113): a stack in service; the read opens the granule's page (R106); a sequence whose page list suffers an uncorrectable error is lost (11 R363). Model's choice: notes/assumptions/135.md. -/
def execPatrolScrub (stack : Fin 18) (ecc : Ecc) (lane : Nat) (s : State) : Res :=
  if s.fld stack F.MEM_STK_STATUS_STATE = 3 then
    let s1 := ((s.scrubCheck stack (s.scrubNext stack) ecc lane).openAt stack (s.scrubNext stack).loc).scrubOn stack
    .next (s1.loseBadLists (s.scrubNext stack).easel)
  else .next s

/-! ### Release (04 R103) -/

/-- A release range is zeroed and its USED bits clear. -/
def State.releaseUnits (s : State) (easel base count : Nat) : State :=
  (s.zeroBytes (bondKey easel (base * 65536)) (count * 65536)).clearUsed (bondKey easel (base * 65536)) (count * 65536)

/-- MEM_EAS_REL_CTRL.GO of an easel (04 R103): discarded while BUSY; a range beyond the admission limit is refused. Model's choice: notes/assumptions/133.md. -/
def State.releaseGo (s : State) (easel : Nat) : State :=
  if s.flag easel F.MEM_EAS_REL_STATUS_BUSY then s
  else
    let base := s.fld easel F.MEM_EAS_REL_BASE_UNIT
    let count := s.fld easel F.MEM_EAS_REL_COUNT_UNITS
    if s.fld easel F.MEM_EAS_SHARE_UNITS < base + count then s.setFlag easel F.MEM_EAS_REL_STATUS_REL_RANGE true
    else (((s.releaseUnits easel base count).setFlag easel F.MEM_EAS_REL_STATUS_REL_RANGE false).setFlag easel F.MEM_EAS_REL_STATUS_BUSY true)

/-- MEM_RELEASE_GO: a VF's for its own easel, the others' for easel 0 (04 R118). -/
def execMemReleaseGo (req : Requester) (s : State) : Res :=
  s.access req F.MEM_EAS_REL_CTRL_GO.off (fun easel =>
    .next (if ownsEas req easel then s.releaseGo easel else s))

/-- MEM_RELEASE_DONE: the release in progress ends and the watermark lowers (04 R102, R103). -/
def execMemReleaseDone (easel : Fin 64) (s : State) : Res :=
  .next (if s.flag easel F.MEM_EAS_REL_STATUS_BUSY then (s.bondWatermark easel).setFlag easel F.MEM_EAS_REL_STATUS_BUSY false else s)

end Sys2Proof.Machine
end

