-- ==== Sys2Proof/Machine/Radio.lean ====
section
/-! DEFINITION. Machine/Radio.lean: the commands of the radio pipeline (08 R239 to R265). -/
namespace Sys2Proof.Machine

open Sys2Proof

/-! ### Requests of the L2 (R239 to R243; 17 R497) -/

/-- The oldest message of a queue pair is taken for execution: when it became visible. -/
def State.takeMsg (s : State) (q : Nat) : Option (Nat × State) :=
  match (s.fqp q).inbox with
  | [] => none
  | t :: r => some (t, s.setFqp q { s.fqp q with inbox := r })

/-- Execute the oldest message of a queue pair for the cell it names: a CELL_ID that no cell of the queue pair has leaves nothing to do. -/
def State.withMsg (s : State) (q id : Nat) (f : Nat → Nat → State → State) : State :=
  match s.takeMsg q with
  | none => s
  | some (t, s1) =>
    match s1.cellOfId id with
    | some c => if s1.cellQp c = q then f c t s1 else s1
    | none => s1

/-- FAPI_PARAM (R239). -/
def execFapiParam (qp : Fin 64) (cell : Nat) (s : State) : Res :=
  .next (s.withMsg qp cell (fun c _ u => u.sayL2 c fmParamResponse (u.slotNow c) [[u.cellSt c]]))

/-- FAPI_CONFIG (R240): accepted in IDLE, CONFIGURED and HELD when it agrees with CELLMAP. A HELD cell stays HELD until START. -/
def execFapiConfig (qp : Fin 64) (cell prbs scs ports duplex : Nat) (body : List Nat) (s : State) : Res :=
  .next (s.withMsg qp cell (fun c _ u =>
    let n := u.slotNow c
    let st := u.cellSt c
    if ¬ (st = csIdle ∨ st = csConfigured ∨ st = csHeld) then u.answerError c n errState
    else if ¬ (prbs = u.fld c F.RAD_CELL_CFG_PRBS ∧ scs = u.fld c F.RAD_CELL_CFG_SCS ∧ duplex = u.fld c F.RAD_CELL_CFG_DUPLEX ∧
        ports = (u.cellStreams c).1) then u.answerError c n errConfig
    else
      let u1 := u.setRad c { u.radCell c with config := some body }
      let u2 := if st = csIdle then u1.setCell c csConfigured else u1
      u2.sayL2 c fmConfigResponse n [[0]]))

/-- Whether the time block lets cells transmit (R261; 16 R468). -/
def State.txOk (s : State) : Bool := s.flag 0 F.TOD_STATE_TX_OK

/-- FAPI_START (R241, R251, R264): the cell's HARQ buffers are cleared. -/
def execFapiStart (qp : Fin 64) (cell : Nat) (s : State) : Res :=
  .next (s.withMsg qp cell (fun c _ u =>
    if u.cellSt c = csConfigured ∨ u.cellSt c = csHeld then
      let u1 := (u.setRad c { u.radCell c with harq := [], slots := [], holdReq := false, stopAfter := none, ssbFrom := none, lastInd := none }).showHarq c
      u1.setCell c (if u.txOk then csRunning else csWaitSync)
    else u.answerError c (u.slotNow c) errState))

/-- The last slot for which requests were accepted. -/
def RadCell.lastSlot (r : RadCell) : Option Nat := ((r.slots.filter (fun p => !p.2.taken.isEmpty)).map (·.1)).max?

/-- FAPI_STOP (R241). -/
def execFapiStop (qp : Fin 64) (cell : Nat) (s : State) : Res :=
  .next (s.withMsg qp cell (fun c _ u =>
    if u.cellSt c = csRunning ∨ u.cellSt c = csWaitSync then
      let r := u.radCell c
      u.setRad c { r with stopAfter := some (r.lastSlot.getD 0) }
    else u.answerError c (u.slotNow c) errState))

/-- Types of slot requests. -/
def rqDl : Nat := 0
def rqUl : Nat := 1
def rqDci : Nat := 2
def rqTx : Nat := 3

/-- A slot request of a type (R241, R243, R264): taken in RUNNING before the deadline; late ones are counted and answered; WAIT_SYNC discards them. After a STOP the cell
takes none for a slot beyond its last (notes/assumptions/145.md). -/
def State.slotRequest (s : State) (q id sfn slot type : Nat) (f : Nat → Nat → State → State) : State :=
  s.withMsg q id (fun c t u =>
    let n := u.slotOfSfn c sfn slot
    let st := u.cellSt c
    if st = csWaitSync then u
    else if st ≠ csRunning ∨ (u.radCell c).stopAfter.any (fun l => decide (l < n)) then u.answerError c n errState
    else if u.reqDeadline c n ≤ (t : Int) then
      let v := u.radSlot c n
      ((u.setSlot c n { v with late := NSet.add type v.late }).incSat c F.RAD_CELL_LATE_REQ_COUNT 1).answerError c n errSlot
    else
      let v := u.radSlot c n
      f c n (u.setSlot c n { v with taken := NSet.add type v.taken }))

/-- Streams of a kind of PDU in a cell (R234): SRS of classes 0 and 1 arrives on the UL streams (notes/assumptions/146.md). -/
def State.pduStreams (s : State) (c kind : Nat) : Nat :=
  let (dl, ul, srs, pr) := s.cellStreams c
  if kind ≤ 3 then dl else if kind = 6 then pr else if kind = 7 ∧ srs ≠ 0 then srs else ul

/-- Whether a cell's class supports a PDU (R234): its layers and its streams. -/
def State.pduOk (s : State) (c : Nat) (p : RadPdu) : Bool :=
  decide (p.layers ≤ if p.kind ≤ 3 then (s.cellLayers c).1 else (s.cellLayers c).2) && decide (p.streams < 2 ^ s.pduStreams c p.kind)

/-- Add the PDUs of a request to a slot; one with more layers or other streams than its cell's class has is not taken, and the request is answered so
(notes/assumptions/147.md). -/
def State.addPdus (s : State) (c n : Nat) (ps : List RadPdu) : State :=
  let v := s.radSlot c n
  let s1 := s.setSlot c n { v with pdus := v.pdus ++ ps.filter (s.pduOk c) }
  if ps.all (s.pduOk c) then s1 else s1.answerError c n errSlot

/-- DL_TTI_REQUEST (R243): the MIB of its SSB is kept for R265. -/
def execDlTtiRequest (qp : Fin 64) (cell sfn slot : Nat) (pdus : List RadPdu) (mib : Option Nat) (s : State) : Res :=
  .next (s.slotRequest qp cell sfn slot rqDl (fun c n u =>
    let u1 := u.addPdus c n (pdus.filter (fun p => decide (p.kind ≤ 3)))
    if mib.isSome then u1.setRad c { u1.radCell c with mib := mib } else u1))

/-- UL_TTI_REQUEST (R243, R251, R252). -/
def execUlTtiRequest (qp : Fin 64) (cell sfn slot : Nat) (pdus : List RadPdu) (s : State) : Res :=
  .next (s.slotRequest qp cell sfn slot rqUl (fun c n u =>
    let ps := pdus.filter (fun p => decide (4 ≤ p.kind ∧ p.kind ≤ 7))
    let u1 := u.addPdus c n ps
    let pu := ps.filter (fun p => decide (p.kind = 4) && u.pduOk c p)
    let v := u1.radSlot c n
    let u2 := u1.setSlot c n { v with tbs := v.tbs ++ pu.map (fun p => ⟨p.handle, [], false⟩) }
    forEach pu (fun p (t : State) => t.harqRequest c n p) u2))

/-- UL_DCI_REQUEST (R243). -/
def execUlDciRequest (qp : Fin 64) (cell sfn slot : Nat) (pdus : List RadPdu) (s : State) : Res :=
  .next (s.slotRequest qp cell sfn slot rqDci (fun c n u => u.addPdus c n (pdus.filter (fun p => decide (p.kind = 1)))))

/-- Take one payload of a TX_Data.request: from the message, or from host memory through PF0 (17 R489, R497). -/
def State.takeTx (s : State) (c n : Nat) (x : RadTx) : State :=
  let put := fun (u : State) =>
    let v := u.radSlot c n
    u.setSlot c n { v with tx := v.tx ++ [(x.handle, blobSlice x.data 0 x.data.len)] }
  match x.addr with
  | none => put s
  | some a =>
    if !s.hostUp then s
    else if s.translates 0 a then put (s.countUnits 0 F.CXL_EAS_HOST_RD_UNITS 65536 x.data.len)
    else s.refuseXlate 0 ukCell c

/-- TX_DATA_REQUEST (R243; 17 R497). -/
def execTxDataRequest (qp : Fin 64) (cell sfn slot : Nat) (tbs : List RadTx) (s : State) : Res :=
  .next (s.slotRequest qp cell sfn slot rqTx (fun c n u => forEach tbs (fun x (t : State) => t.takeTx c n x) u))

/-! ### A slot's course (R242 to R245) -/

/-- SLOT_INDICATION (R242). -/
def execSlotIndication (cell : Fin 384) (s : State) : Res :=
  let n := s.slotAt cell ((s.nowNs : Int) + s.reqLead cell + 500000)
  if s.cellSt cell = csRunning ∧ (s.radCell cell).lastInd ≠ some n then
    .next ((s.setRad cell { s.radCell cell with lastInd := some n }).tellL2 cell fmSlotIndication n [])
  else .next s

/-- REQUEST_DEADLINE (R243): from now on every request of the slot is late. -/
def execRequestDeadline (cell : Fin 384) (n : Nat) (s : State) : Res :=
  if s.cellSt cell = csRunning ∧ s.reqDeadline cell n ≤ s.nowNs then
    let v := s.radSlot cell n
    .next (s.setSlot cell n { v with late := [rqDl, rqUl, rqDci, rqTx].filter (fun t => !NSet.has t v.taken) })
  else .next s

/-- Whether a number of points is a transform-decoding size: 12 · 2^a · 3^b · 5^c up to 3,276 (R257). -/
def dftSize (n : Nat) : Bool :=
  decide (n ≤ 3276) && (List.range 9).any (fun a => (List.range 6).any (fun b => (List.range 4).any (fun c => decide (n = 12 * 2 ^ a * 3 ^ b * 5 ^ c))))

/-- Whether an FFT engine supports a job of a cell (R257): PRACH formats 0 to 3 in 15 kHz cells alone. -/
def State.fftOk (s : State) (c : Nat) (w : List Nat) : Bool :=
  let x := nth 0 w 1
  match nth 0 w 0 with
  | 0 => true
  | 1 => true
  | 2 => dftSize x
  | 3 => decide (x < 14) && (decide (4 ≤ x) || !s.flag c F.RAD_CELL_CFG_SCS)
  | _ => false

/-- Whether a plan's item may be placed where it is: commands on the cell's own S-cores and, in partitioned mode, on cores of easel 0 (R234; 10 R311), strokes on its channels, hard-block
jobs on the cell's home panel as its blocks support them (R236, R257, R258). -/
def State.itemOk (s : State) (c : Nat) (x : PlanItem) : Bool :=
  match x.engine with
  | 0 => decide (x.unit < 48) && s.coreReach F.TC_PARTITION_OWNER x.unit 0
  | 1 => decide (x.unit < 192 ∧ s.cellFirst c ≤ x.unit ∧ x.unit < s.cellFirst c + s.fld c F.RAD_CELL_MAP_SC_COUNT) && s.coreReach F.SC_PARTITION_OWNER x.unit 0
  | 6 => decide (x.unit < 2048) && s.ownsLink 0 x.unit
  | 4 => decide (x.unit = s.cellPanel c) && s.fftOk c x.words
  | 5 => decide (x.unit = s.cellPanel c ∧ nth 0 x.words 0 ≤ 1024)
  | e => decide (e ≤ 6 ∧ x.unit = s.cellPanel c)

/-- A resource named by a plan starts its exit from its power state (19 R528, R530); T-cores are 0 to 47, stacks 64 up. -/
def State.wakeNamed (s : State) (k : Nat) : State :=
  let asleep := if k < 48 then decide (s.tcPower k ≠ 0) else (s.fld 0 F.PWR_STK_SR_SR).testBit (k - 64)
  if asleep then { s with pow := { s.pow with waking := NSet.add k s.pow.waking } } else s

/-- The command of an item: the scheduler writes easel 0 into it (05 R154). -/
def planCmd (id : Nat) (x : PlanItem) : Cmd :=
  ⟨id, 0, x.words.zipIdx.map (fun p => if p.2 = 0 then p.1 - p.1 / 256 % 64 * 256 else p.1), true, x.latest, x.release, false, false⟩

/-- The scoreboard holds a command of the plan (10 R333). -/
def State.enrollItem (s : State) (id : Nat) : State :=
  { s with sched := { s.sched with outstanding := SMap.set (fun _ => []) s.sched.outstanding 0 (s.live 0 ++ [id]) } }

/-- Place an item of a plan: a command goes to its core's queue, a stroke's run to its channel (R244). -/
def State.placeItem (s : State) (x : PlanItem) (id : Nat) : State :=
  match x.engine with
  | 0 =>
    let s1 := s.enrollItem id
    let t := s1.tcore x.unit
    ((s1.setTcore x.unit 0 { t with queue := t.queue ++ [planCmd id x] }).tcTakes x.unit).wakeNamed x.unit
  | 1 =>
    let s1 := s.enrollItem id
    let t := s1.score x.unit
    (s1.setScore x.unit 0 { t with queue := t.queue ++ [planCmd id x] }).scTakes x.unit
  | 6 => s.armChan x.unit ⟨nth 0 x.words 0, nth 0 x.words 1, false, .radio [id]⟩
  | _ => s

/-- Whether radio commands of a T-core, in order of latest start, launch by their latest starts when each is charged 12 + 383 + 128 · A K-cycles of switching (10 R321); `free`
gives when each array is free. -/
def tcMeet : (Nat → Nat) → List Cmd → Bool
  | _, [] => true
  | free, c :: r =>
    let at_ := (c.arrayList.map free).foldl max c.release + 395 + 128 * c.arrayList.length
    decide (at_ ≤ c.latest) && tcMeet (fun a => if c.arrays.testBit a then at_ + (c.occupancy - 383) else free a) r

/-- The same on an S-core, with 7 + REP_CEIL S-cycles for each (10 R321). -/
def scMeet (ceil : Nat) : Nat → List Cmd → Bool
  | _, [] => true
  | free, c :: r =>
    let at_ := max free c.release + 7 + ceil
    decide (at_ ≤ c.latest) && scMeet ceil (at_ + c.scRunLen) r

/-- The radio commands that wait on a core with those a plan adds, in order of latest start. -/
def withPlan (queue : List Cmd) (items : List PlanItem) (engine unit : Nat) : List Cmd :=
  (queue.filter (fun c => c.radio) ++ (items.filter (fun x => decide (x.engine = engine ∧ x.unit = unit))).map (planCmd 0)).insertionSort
    (fun a b => a.latest ≤ b.latest)

/-- Whether a plan's latest starts are what 10 R321 asks: none within 20 µs, and every engine's radio commands alone meet them. -/
def State.latestOk (s : State) (kNow sNow : Nat) (items : List PlanItem) : Bool :=
  items.all (fun x => if x.engine = 0 then decide (kNow + 42000 ≤ x.latest) else decide (sNow + 21000 ≤ x.latest)) &&
    ((items.filter (fun x => decide (x.engine = 0))).map (fun (x : PlanItem) => x.unit)).dedup.all (fun u =>
      tcMeet (fun _ => kNow) (withPlan ((s.tcore u).queue ++ (s.tcore u).granted) items 0 u)) &&
    ((items.filter (fun x => decide (x.engine = 1))).map (fun (x : PlanItem) => x.unit)).dedup.all (fun u =>
      scMeet (s.fld 0 F.SC_LIMITS_REP_CEIL) sNow (withPlan ((s.score u).queue ++ (s.score u).granted) items 1 u))

/-- Whether the queues of the cores have room for a plan's commands (05 R154; 07 R223). -/
def State.roomOk (s : State) (items : List PlanItem) : Bool :=
  items.all (fun x =>
    let k := (items.filter (fun y => decide (y.engine = x.engine ∧ y.unit = x.unit))).length
    if x.engine = 0 then
      let t := s.tcore x.unit
      decide (t.depth 0 + k ≤ s.fld (ce x.unit 0) F.TC_EAS_QLIMIT_SLOTS ∧ (t.queue ++ t.granted).length + k ≤ 256)
    else if x.engine = 1 then
      let t := s.score x.unit
      decide (t.depth 0 + k ≤ s.fld (ce x.unit 0) F.SC_EAS_QLIMIT_SLOTS ∧ (t.queue ++ t.granted).length + k ≤ 64)
    else true)

/-- Whether a plan covers its slot (R244): some item serves every PDU, and a decoder's job every code block. -/
def RadSlot.covered (v : RadSlot) (items : List PlanItem) : Bool :=
  v.pdus.all (fun p => items.any (fun x => x.serves.contains p.handle) &&
    (decide (p.kind ≠ 4) || (List.range p.cbs).all (fun b => items.any (fun x => decide (x.engine = engDecoder ∧ x.words = [p.handle, b]) && x.serves.contains p.handle))))

/-- Whether a slot may be planned: its request deadline has passed; a HELD cell plans its SSB bursts alone, while the time block lets cells transmit (R244, R261, R265). -/
def State.mayPlan (s : State) (c n : Nat) : Bool :=
  !(s.radSlot c n).planned && decide (s.reqDeadline c n ≤ s.nowNs) &&
    (decide (s.cellSt c = csRunning) || (decide (s.cellSt c = csHeld) && (s.radCell c).ssbFrom.isSome && s.txOk))

/-! ### C-plane (R255, R260; 14 R424) -/

/-- The runs of consecutive symbols of a mask: the first and how many. -/
def symRuns (syms : Nat) : List (Nat × Nat) :=
  ((List.range 14).filter (fun k => syms.testBit k && (decide (k = 0) || !syms.testBit (k - 1)))).map (fun k =>
    (k, ((List.range (14 - k)).takeWhile (fun i => syms.testBit (k + i))).length))

/-- Section extension 1 (R260): the weights of a stream for every antenna of a class 2 or 3 cell, 16-bit I and Q, uncompressed. -/
def State.weightExt (s : State) (c handle st : Nat) : List Nat :=
  let a := if s.fld c F.RAD_CELL_CFG_CLASS = 2 then 32 else 64
  [1, a + 1, 0] ++ ((List.range a).map (fun i => beBytes 4 (Config.beamWeight (s.radCell c).weights handle st i).toNat)).flatten ++ [0]

/-- The bytes of a C-plane message after its eCPRI header (R260; the layout is O-RAN's, notes/assumptions/143.md): section type 1, or 3 for PRACH, with one section. -/
def State.cplaneBody (s : State) (c n : Nat) (p : RadPdu) (k num st : Nat) : List Nat :=
  let w := s.cellLe c 0xE 1
  let fs := s.frameSlots c
  let ty := if p.kind = 6 then 3 else 1
  let ext := decide (2 ≤ s.fld c F.RAD_CELL_CFG_CLASS ∧ ty = 1 ∧ p.kind ≠ 7)
  let x := fun i => Config.cplaneField i c p.handle
  let head := [(if p.kind ≤ 3 then 0x90 else 0x10) + (if ty = 3 then 1 else 0), s.sfnOf c n % 256] ++
    beBytes 2 (s.slotInFrame c n * 10 / fs * 4096 + s.slotInFrame c n % (fs / 10) * 64 + k) ++ [1, ty]
  let mid := if ty = 3 then beBytes 2 (x 2 % 65536) ++ [x 3 % 256] ++ beBytes 2 (x 4 % 65536) ++ [w % 16 * 16 + 1] else [w % 16 * 16 + 1, 0]
  let sec := beBytes 4 (Config.sectionId p.handle % 4096 * 2 ^ 20 + p.prb % 1024 * 256 + (if p.num < 256 then p.num else 0)) ++
    beBytes 2 (x 0 % 4096 * 16 + num) ++ beBytes 2 ((if ext then 32768 else 0) + x 1 % 32768)
  head ++ mid ++ sec ++ (if ty = 3 then beBytes 3 (x 5 % 2 ^ 24) ++ [0] else []) ++ (if ext then s.weightExt c p.handle st else [])

/-- The header of a fronthaul frame on a DL flow up to its eCPRI payload: message type, eAxC ID, bytes after the eCPRI common header. -/
def State.ecpriHead (s : State) (f type eaxc len : Nat) : List Nat :=
  let tag := if s.fld f F.FLW_KEY_VID = 0 then [] else beBytes 2 0x8100 ++ beBytes 2 (s.fld f F.FLW_KEY_VID)
  s.flowMac f ++ s.subMac (s.flowSub f) ++ tag ++ beBytes 2 0xAEFE ++ [0x10, type] ++ beBytes 2 len ++ beBytes 2 eaxc ++ [s.fld f F.FLW_FRAMES_COUNT % 256, 0x80]

/-- The place of a cell's first stream of a PDU's kind among its flows (R234, R237). -/
def State.firstFlow (s : State) (c kind : Nat) : Nat :=
  let (dl, ul, srs, _) := s.cellStreams c
  if kind ≤ 3 then 0 else if kind = 6 then dl + ul + srs else if kind = 7 ∧ srs ≠ 0 then dl + ul else dl

/-- Queue the C-plane messages of a slot, each for launch at the first symbol it describes minus T1A_CP_DL or T1A_CP_UL (R255), on the DL flow that carries its eAxC ID (14 R424). -/
def State.sendCplane (s : State) (c n : Nat) : State :=
  let dl := (s.cellStreams c).1
  forEach (s.radSlot c n).pdus (fun p (t : State) =>
    forEach (symRuns p.syms) (fun k (u : State) =>
      forEach (bitsOf 64 p.streams) (fun st (x : State) =>
        let f := x.cellFlowBase c + st % dl
        let b := x.cplaneBody c n p k.1 k.2 st
        let eaxc := x.fld (x.cellFlowBase c + x.firstFlow c p.kind + st) F.FLW_KEY_EAXC
        let at_ := (x.symStart96 c n k.1 / 96 - (100 * x.cellLe c (if p.kind ≤ 3 then 0x12 else 0x14) 2 : Nat)).toNat
        x.flowSend f (txRecord (x.ecpriHead f 2 eaxc (4 + b.length) ++ b) (some at_) false)) u) t) s

/-- SLOT_PLAN (R244; 10 R311, R321; 19 R528): the plan's commands are queued, the T-cores and stacks it names are woken, and the slot's C-plane messages are queued. The operand is a plan
as the device builds it: one that R244, R321 or the queues do not allow changes nothing (notes/assumptions/144.md). -/
def execSlotPlan (cell : Fin 384) (n kNow sNow : Nat) (items : List PlanItem) (s : State) : Res :=
  let c := cell.val
  let v := s.radSlot c n
  if s.mayPlan c n && items.all (s.itemOk c) && v.covered items && s.roomOk items && s.latestOk kNow sNow items then
    let id := s.sched.nextId
    let s1 := { s with sched := { s.sched with nextId := id + items.length } }
    let s2 := s1.setSlot c n { v with planned := true, items := items.zipIdx.map (fun p => ⟨p.1, id + p.2, 0, none⟩) }
    let s3 := forEach items.zipIdx (fun p (t : State) => t.placeItem p.1 (id + p.2)) s2
    let s4 := forEach ((List.range 18).filter (fun k => decide (0 < s.cellCoresAt c k))) (fun k (t : State) => t.wakeNamed (64 + k)) s3
    .next ((s4.pumpHard (s.cellPanel c)).sendCplane c n)
  else .next s

/-! ### Uplink (R246 to R253) -/

/-- Whether a PRB of a symbol and stream has arrived. -/
def RadSlot.has (v : RadSlot) (k st prb : Nat) : Bool := v.arrived.any (fun a => decide (a.1 = k ∧ a.2.1 = st ∧ a.2.2.1 ≤ prb ∧ prb < a.2.2.1 + a.2.2.2))

/-- The scheduled PRBs of a symbol that have not arrived, with their streams among the cell's flows. -/
def State.missing (s : State) (c n k : Nat) : List (Nat × Nat) :=
  let v := s.radSlot c n
  ((v.pdus.filter (fun p => decide (4 ≤ p.kind) && p.syms.testBit k)).map (fun p =>
    (((bitsOf 64 p.streams).map (· + s.firstFlow c p.kind)).map (fun st =>
      ((List.range p.num).filter (fun i => !v.has k st (p.prb + i))).map (fun i => (st, p.prb + i)))).flatten)).flatten.dedup

/-- UL_WINDOW_CLOSE (R246): missing PRBs are taken as zero samples, and each symbol and stream that lacks some is counted; a HELD cell completes only slots already planned (R264). Model's choice: notes/assumptions/148.md. -/
def execUlWindowClose (cell : Fin 384) (n : Nat) (sym : Fin 14) (s : State) : Res :=
  let v := s.radSlot cell n
  if decide (s.symStart96 cell n sym + (96 * s.ta4Max cell : Nat) ≤ 96 * (s.nowNs : Int)) && !NSet.has sym v.closed then
    let m := s.missing cell n sym
    .next ((s.setSlot cell n { v with closed := NSet.add sym v.closed, zeros := v.zeros ++ m.map (fun x => (sym.val, x.1, x.2)) }).incSat cell
      F.RAD_CELL_UL_MISS_MISSING ((m.map (fun x => x.1)).dedup).length)
  else .next s

/-- A parity error of a hard block (21 R571). -/
def State.hardFault (s : State) (c : Nat) (fault : Bool) : Bool × State :=
  let p := s.cellPanel c
  let (what, s1) := s.inject (135 + p) 0
  if fault || what.isSome then (true, s1.detect (135 + p) 0 ukCell c 0 0 sevContained what.isSome) else (false, s1)

/-- Note the S-cycles of a decoder and show the panel's share over the last 10 ms (R267). -/
def State.ldpcBusy (s : State) (panel cyc : Nat) : State :=
  let l : List (Nat × Nat) := (SMap.get (fun _ => []) s.ldpc panel ++ [(s.nowNs, cyc)]).filter (fun p => decide (s.nowNs < p.1 + 10000000))
  ({ s with ldpc := SMap.set (fun _ => []) s.ldpc panel l }).showLdpc

/-- Report a transport block (R245). -/
def State.reportTb (s : State) (c n handle : Nat) (pass : Bool) (bits : List Nat) : State :=
  let v := s.radSlot c n
  let s1 := s.setSlot c n { v with tbs := v.tbs.map (fun t => if t.handle = handle then { t with reported := true } else t) }
  let s2 := s1.tellL2 c fmCrc n [[handle, if pass then 1 else 0]]
  if pass then s2.tellL2 c fmRxData n [[handle], bits] else s2

/-- A code block has been decoded (R248, R250, R251): when it is the last, the transport block is reported, and a passed one frees its buffer. -/
def State.cbDecoded (s : State) (c n : Nat) (p : RadPdu) (cb : Nat) (res : Bool × List Nat) : State :=
  let v := s.radSlot c n
  match v.tbs.find? (fun t => decide (t.handle = p.handle)) with
  | none => s
  | some t =>
    let dn := t.done.filter (fun d => decide (d.1 ≠ cb)) ++ [(cb, res)]
    let s1 := s.setSlot c n { v with tbs := v.tbs.map (fun x => if x.handle = p.handle then { x with done := dn } else x) }
    if dn.length = p.cbs ∧ t.reported = false ∧ v.lost.contains p.handle = false then
      let pass := dn.all (fun d => d.2.1)
      let bits := ((List.range p.cbs).map (fun i => ((dn.find? (fun d => decide (d.1 = i))).map (fun d => d.2.2)).getD [])).flatten
      let s2 := if pass then s1.harqFree c (harqKey p.rnti p.harq) else s1
      s2.reportTb c n p.handle pass bits
    else s1

/-- The soft values a decoder works on: those of the buffer and of this reception added, saturated at ±127 and written back; without a buffer those of
this reception alone (R251 to R253). -/
def State.combine (s : State) (c : Nat) (p : RadPdu) (cb : Nat) (own : List Int) : List Int × State :=
  match s.harqBuf c (harqKey p.rnti p.harq) with
  | none => (own, s)
  | some b =>
    let runs := s.harqRuns c b (p.soft / 4096 + 2) (cb * p.soft) p.soft
    let old := if p.newData then (List.replicate p.soft 0, s) else s.harqRead c runs
    let vs := (List.range p.soft).map (fun i => max (-127) (min 127 (nth 0 own i + nth 0 old.1 i)))
    (vs, old.2.harqWrite runs vs)

/-- The iterations of a code block: up to the first after which every parity check holds, else the limit (R248). -/
def ldpcIts (bg : Nat) (vs : List Int) (limit : Nat) : Nat := ((List.range limit).find? (fun i => (Config.ldpcDecode bg vs (i + 1)).1)).elim limit (· + 1)

/-- LDPC_DECODE_DONE (R248 to R253): a decoder finishes a code block it has started; one whose decoder fails its parity check is handled as shed work (R263). -/
def execLdpcDecodeDone (cell : Fin 384) (n handle cb : Nat) (soft : List (BitVec 8)) (fault : Bool) (s : State) : Res :=
  let c := cell.val
  let v := s.radSlot c n
  match v.items.zipIdx.find? (fun x => decide (x.1.item.engine = engDecoder ∧ x.1.item.words = [handle, cb] ∧ x.1.stat = 0) && x.1.started.isSome),
      v.pdus.find? (fun p => decide (p.kind = 4 ∧ p.handle = handle ∧ cb < p.cbs)) with
  | some x, some p =>
    let lim := (x.1.started.getD (0, 0)).2
    let own := (List.range p.soft).map (fun i => max (-127) (nth 0 (soft.map BitVec.toInt) i))
    let (bad, s1) := s.hardFault c fault
    let (vs, s2) := s1.combine c p cb own
    let it := ldpcIts p.bg vs lim
    let s3 := s2.ldpcBusy (s.cellPanel c) (ldpcCycles p.bg it)
    .next (if bad then s3.shedItem c n x.2
      else (s3.cbDecoded c n p cb (Config.ldpcDecode p.bg vs it).2).itemDone c n x.2)
  | _, _ => .next s

/-- Report what an uplink slot still owes (R245, R250, R262): transport blocks not decoded as CRC failures, UCI as undetected, PRACH without a preamble. -/
def State.reportRest (s : State) (c n : Nat) : State :=
  let v := s.radSlot c n
  let s1 := forEach (v.tbs.filter (fun t => !t.reported)) (fun t (u : State) => (u.incSat c F.RAD_CELL_LDPC_DEC_TIMEOUT 1).reportTb c n t.handle false []) s
  forEach (v.pdus.filter (fun p => decide (p.kind = 5 ∨ p.kind = 6) && !v.reported.contains p.handle)) (fun p (u : State) =>
    let w := u.radSlot c n
    (u.setSlot c n { w with reported := p.handle :: w.reported }).tellL2 c (indOf p.kind) n [[p.handle], []]) s1

/-- RESULT_DEADLINE (R245, R250). -/
def execResultDeadline (cell : Fin 384) (n : Nat) (s : State) : Res :=
  let c := cell.val
  if s.resDeadline c n ≤ s.nowNs ∧ (s.radSlot c n).ended = false ∧ (s.radSlot c n).pdus.isEmpty = false then
    let s1 := s.reportRest c n
    .next (s1.setSlot c n { s1.radSlot c n with ended := true })
  else .next s

/-- HARQ_AGE_EXPIRY (R251). -/
def execHarqAgeExpiry (cell : Fin 384) (rnti harq : Nat) (s : State) : Res :=
  match s.harqBuf cell (harqKey rnti harq) with
  | none => .next s
  | some b => if b.last + s.cellLe cell 0x22 1 ≤ s.slotNow cell then .next (s.harqFree cell (harqKey rnti harq)) else .next s

/-! ### Hard blocks (R254, R257, R258) -/

/-- A job that a hard block has started finishes; one whose block fails its parity check is handled as shed work (R263). -/
def State.hardDone (s : State) (c n i engine : Nat) (fault : Bool) : State :=
  match (s.radSlot c n).items[i]? with
  | none => s
  | some x =>
    if x.item.engine = engine ∧ x.stat = 0 ∧ x.started.isSome then
      let (bad, s1) := s.hardFault c fault
      if bad then s1.shedItem c n i else s1.itemDone c n i
    else s

/-- LDPC_ENCODE_DONE (R254). -/
def execLdpcEncodeDone (cell : Fin 384) (n item : Nat) (fault : Bool) (s : State) : Res := .next (s.hardDone cell n item 3 fault)

/-- FFT_DONE (R257). -/
def execFftDone (cell : Fin 384) (n item : Nat) (fault : Bool) (s : State) : Res := .next (s.hardDone cell n item 4 fault)

/-- POLAR_DECODE_DONE (R258). -/
def execPolarDecodeDone (cell : Fin 384) (n item : Nat) (fault : Bool) (s : State) : Res := .next (s.hardDone cell n item 5 fault)

/-! ### Downlink (R255, R256) -/

/-- Whether the data of a downlink PDU is ready: its items are done, and a PDSCH has its payload. -/
def RadSlot.ready (v : RadSlot) (p : RadPdu) : Bool :=
  v.planned && v.items.all (fun i => decide (i.stat = 1) || !i.item.serves.contains p.handle) &&
    (decide (p.kind ≠ 0) || v.tx.any (fun t => decide (t.1 = p.handle)))

/-- PRBs of a frame of up to 1,500 bytes of payload at a mantissa width (R260). -/
def prbsPerFrame (w : Nat) : Nat := 1482 / (1 + 3 * w)

/-- A U-plane frame of zero samples for PRBs of a stream's symbol (R256; 14 R422, R429; notes/assumptions/143.md). -/
def State.zeroFrame (s : State) (c n k f handle prb num : Nat) : List Nat :=
  let w := s.cellLe c 0xE 1
  let fs := s.frameSlots c
  s.ecpriHead f 0 (s.fld f F.FLW_KEY_EAXC) (14 + num * (1 + 3 * w)) ++ [0x90, s.sfnOf c n % 256] ++
    beBytes 2 (s.slotInFrame c n * 10 / fs * 4096 + s.slotInFrame c n % (fs / 10) * 64 + k) ++
    beBytes 4 (Config.sectionId handle % 4096 * 2 ^ 20 + prb % 1024 * 256 + (if num < 256 then num else 0)) ++ [w % 16 * 16 + 1, 0] ++ List.replicate (48 * num) 0

/-- The pieces of PRBs that fit a frame each. -/
def prbPieces (m : Nat) : Nat → Nat → Nat → List (Nat × Nat)
  | 0, _, _ => []
  | k + 1, prb, num => if num = 0 then [] else (prb, min m num) :: prbPieces m k (prb + min m num) (num - min m num)

/-- The U-plane frames of a downlink symbol, in the order they are launched: PDU, stream, first PRB and PRBs (R255, R260). -/
def State.symFrames (s : State) (c n k : Nat) : List (RadPdu × Nat × Nat × Nat) :=
  (((s.radSlot c n).pdus.filter (fun p => decide (p.kind ≤ 3) && p.syms.testBit k)).map (fun p =>
    ((bitsOf 16 p.streams).map (fun st => (prbPieces (prbsPerFrame (s.cellLe c 0xE 1)) 300 p.prb p.num).map (fun q => (p, st, q.1, q.2)))).flatten)).flatten

/-- The launch time of one of the `m` frames of a symbol: they are spread evenly from T1A_UP before the symbol to TX_SPREAD later (R255). -/
def State.symLaunch (s : State) (c n k i m : Nat) : Nat :=
  (s.symStart96 c n k / 96 - s.t1aUp c).toNat + s.txSpread c * i / max 1 (m - 1)

/-- Whether a cell sends U-plane for a slot: in RUNNING, and in HELD for a slot planned before or for its SSB bursts (R241, R261, R264, R265). -/
def State.sendsUplane (s : State) (c n : Nat) : Bool :=
  decide (s.cellSt c = csRunning) || (decide (s.cellSt c = csHeld) && (s.radSlot c n).planned)

/-- DL_DATA_CHECK (R256): 2 µs before the launch of a frame of a symbol, the PRBs whose data is not ready are sent as zero samples; the symbol is counted and reported once (R263). -/
def execDlDataCheck (cell : Fin 384) (n : Nat) (sym : Fin 14) (s : State) : Res :=
  let c := cell.val
  let v := s.radSlot c n
  let l := s.symFrames c n sym
  let due := l.zipIdx.filter (fun x => decide (s.symLaunch c n sym x.2 l.length ≤ s.nowNs + 2000) && !NSet.has (sym.val * 65536 + x.2) v.checked)
  let bad := due.filter (fun x => !v.ready x.1.1)
  if !s.sendsUplane c n then .next s
  else
    let s1 := s.setSlot c n { v with
      checked := due.foldl (fun t x => NSet.add (sym.val * 65536 + x.2) t) v.checked
      blank := if bad.isEmpty then v.blank else NSet.add sym v.blank }
    let s2 := if bad.isEmpty || NSet.has sym v.blank then s1 else (s1.incSat c F.RAD_CELL_DL_BLANK_COUNT 1).tellSlotErr c n
    .next (forEach bad (fun x (t : State) =>
      let f := t.cellFlowBase c + x.1.2.1
      t.flowSend f (txRecord (t.zeroFrame c n sym f x.1.1.handle x.1.2.2.1 x.1.2.2.2) (some (t.symLaunch c n sym x.2 l.length)) true)) s2)

/-! ### Shedding and slot boundaries (R261 to R265) -/

/-- RADIO_SHED (R262, R263): an item that has not been launched by its latest start. -/
def execRadioShed (cell : Fin 384) (n item now : Nat) (s : State) : Res :=
  .next (if ((s.radSlot cell n).items[item]?).any (fun x => decide (x.item.latest < now) && !s.itemLaunched x) then s.shedItem cell n item else s)

/-- Slots that are over and whose late code blocks no longer count leave the state. -/
def RadCell.prune (r : RadCell) (now : Nat) : RadCell := { r with slots := r.slots.filter (fun p => !(p.2.ended && decide (p.1 + 255 < now))) }

/-- The state a cell has after a slot boundary (R241, R261, R264). -/
def State.nextCell (s : State) (c : Nat) : Nat :=
  let st := s.cellSt c
  let r := s.radCell c
  if st = csRunning ∨ st = csWaitSync then
    if r.holdReq then csHeld
    else if r.stopAfter.any (fun n => decide (n < s.slotNow c)) then csConfigured
    else if s.txOk then csRunning else csWaitSync
  else st

/-- Whether a HELD cell keeps sending its SSB bursts, and may (R261, R265). -/
def State.ssbHeld (s : State) (c : Nat) : Bool := decide (s.cellSt c = csHeld) && (s.radCell c).ssbFrom.isSome && s.txOk

/-- The SSB bursts of the next slot to plan, from the last accepted CONFIG and the last MIB (R265). -/
def State.ssbSlot (s : State) (c : Nat) : State :=
  let r := s.radCell c
  let n := s.slotAt c ((s.nowNs : Int) + s.reqLead c) + 1
  match r.config, r.mib with
  | some b, some m =>
    let v := s.radSlot c n
    let l := Config.ssbBursts b m (s.sfnOf c n) (s.slotInFrame c n)
    let ps : List RadPdu := l.zipIdx.map (fun x => ⟨2, x.2, 0, 0, false, 1, 1, 0, 0, x.1.1 % 2 ^ 14, x.1.2.1, x.1.2.2.1, x.1.2.2.2⟩)
    s.setSlot c n { v with pdus := ps.filter (s.pduOk c), tx := [] }
  | _, _ => s

/-- CELL_SLOT_BOUNDARY (R241, R261, R264, R265): the slot that ends is counted as processed when the cell ran in it, the SFN advances also while SSB bursts are
held, and the cell moves as required. -/
def execCellSlotBoundary (cell : Fin 384) (s : State) : Res :=
  let c := cell.val
  let st := s.cellSt c
  let nx := s.nextCell c
  let n := s.slotNow c - 1
  let s0 := (s.setFld c F.RAD_CELL_STATE_SFN (s.sfnOf c n)).setFld c F.RAD_CELL_STATE_SLOT (s.slotInFrame c n)
  let s1 := if st = csRunning then s0.incWrap c F.RAD_CELL_SLOTS_COUNT 1 else if s.ssbHeld c then s0.ssbSlot c else s
  let r := (s1.radCell c).prune (s.slotNow c)
  if st = nx then .next (s1.setRad c r)
  else
    let ssb := decide (nx = csHeld) && decide (s.cellLe c 0xF 1 % 2 = 1) && decide (s.cellLe c 0x23 1 ≠ 0)
    let r1 := { r with holdReq := false, stopAfter := none, ssbFrom := if ssb then some s.nowNs else none }
    let s2 := (s1.setRad c r1).setCell c nx
    if nx = csHeld then .next (s2.dropInds (s.cellQp c) c)
    else if nx = csConfigured then .next (s2.tellL2 c fmStopIndication n []) else .next s2

/-- SSB_HOLD_EXPIRY (R265). -/
def execSsbHoldExpiry (cell : Fin 384) (s : State) : Res :=
  match (s.radCell cell).ssbFrom with
  | none => .next s
  | some t =>
    if t + 1000000000 * s.cellLe cell 0x23 1 ≤ s.nowNs then .next ((s.setRad cell { s.radCell cell with ssbFrom := none }).showCells) else .next s

end Sys2Proof.Machine
end

