-- ==== Sys2Proof/Machine/Complete.lean ====
section
/-! DEFINITION. Machine/Complete.lean: the ends of commands on T-cores and S-cores (05 R161; 07 R223, R226, R227), with what the radio pipeline makes of its
own (08 R263). -/
namespace Sys2Proof.Machine

open Sys2Proof

/-- A record of a running T-core command: the radio pipeline consumes that of a radio command (08 R263; 10 R333). -/
def State.tcEnd (s : State) (core id group cycles : Nat) : State :=
  match (s.tcore core).running.find? (fun r => decide (r.cmd.id = id)) with
  | none => s
  | some r =>
    match r.ends.find? (fun e => decide (e.group = group)) with
    | none => s
    | some e =>
      let s1 := s.tcFinish core id group cycles
      if r.cmd.radio ∧ (isError e.status ∨ r.ends.length = 1) then s1.radioEnd id (if isError e.status then e.status else stOk) else s1

/-- TC_COMPLETION (05 R161, R171). -/
def execTcCompletion (core : Fin 48) (id group cycles busy : Nat) (s : State) : Res :=
  let s1 := s.inc64 core F.TC_BUSYCYC_LO_CYCLES F.TC_BUSYCYC_HI_CYCLES busy
  .next ((s1.launchBad core id).tcEnd core id group cycles)

/-- The running command of an S-core ends; an ERROR of a radio command is handled as shed work (08 R263). -/
def State.scFinish (s : State) (core : Nat) (x : ScCtx) (st pc parkedCyc : Nat) : State :=
  let s1 := s.scEnd core x st pc parkedCyc
  if x.cmd.radio then s1.radioEnd x.cmd.id (if isError st then st else stOk) else s1

/-- SC_COMPLETION (07 R223, R226, R227): the command of the running context ends, by DONE or by what its next packet meets; `pm` is what the check of the
packet's fetch found, `parkedCyc` the S-cycles the command spent parked. On a core where none runs, a granted command whose opcode R225 does not give launches and ends. -/
def execScCompletion (core : Fin 192) (pm : Ecc) (parkedCyc : Nat) (s : State) : Res :=
  match (s.score core).cur with
  | none =>
    let s1 := s.scLaunchBad core
    match (s1.score core).cur with
    | none => .next s1
    | some x => .next (s1.scFinish core x stOpcode x.pc 0)
  | some x =>
    match x.ended with
    | some (st, pc) => .next (s.scFinish core x st pc parkedCyc)
    | none =>
      if x.cmd.opcode ≠ 1 ∨ x.slot ≠ 0 ∨ (s.score core).halted then .next s
      else
        let (what, s1) := s.inject (132 + core.val / 64) x.cmd.easel
        match eccFlip pm what with
        | .uncorrectable => .next ((s1.pmemUe core x what.isSome).scFinish core x stPmemError x.pc parkedCyc)
        | .corrected =>
          .next ((s1.incSat core F.SC_PM_CE_COUNT 1).detect (132 + core.val / 64) x.cmd.easel ukScore core (16 * x.pc) 0 sevCorrected what.isSome)
        | .ok =>
          match s1.scExcept core x with
          | some st => .next (s1.scFinish core x st x.pc parkedCyc)
          | none => .next s1

/-- REPEAT_CEILING (07 R209). -/
def execRepeatCeiling (core : Fin 192) (parkedCyc : Nat) (s : State) : Res :=
  match s.scGo core, (s.score core).cur with
  | none, some x =>
    if x.slot = 0 ∧ x.cmd.opcode = 1 ∧ x.ended.isNone ∧ (s.score core).halted = false ∧ (s.scExcept core x).isNone ∧ s.scCeiling core x then
      .next (s.scFinish core x stRepeatCeiling x.pc parkedCyc)
    else .next s
  | _, _ => .next s

/-! ### Runs of channels (09 R273, R284, R296; 10 R333) -/

/-- DESCRIPTOR_FETCH_DONE (09 R273): the radio pipeline consumes what is over with it. -/
def execDescriptorFetchDone (ch : Fin 2048) (host : Blob) (fail : Bool) (s : State) : Res := .next (s.burstDone ch host fail).consumeRuns

/-- DESCRIPTOR_COMPLETE (09 R283 to R285). -/
def execDescriptorComplete (ch : Fin 2048) (s : State) : Res := .next (s.completeDesc ch).consumeRuns

/-- STR_CH_CTRL.ABORT (09 R296, R303). -/
def execChannelAbort (req : Requester) (s : State) : Res :=
  s.access req F.STR_CH_CTRL_ARM.off (fun ch => .next (s.abortChan req ch).consumeRuns)

end Sys2Proof.Machine
end

