-- ==== Sys2Proof/Machine/Seq.lean ====
section
/-! DEFINITION. Machine/Seq.lean: the sequence engine's commands (11): ENABLE, the entries of its kinds, sampling, varnish, swaps, losses, and the reads of its
registers that act. -/
namespace Sys2Proof.Machine

open Sys2Proof

/-! ### ENABLE (R340, R341, R343) -/

/-- Whether an area lies wholly below the easel's bonded admission limit (R340). -/
def State.areaOk (s : State) (e base len : Nat) : Bool := decide (base + len ≤ 65536 * s.fld e F.MEM_EAS_SHARE_UNITS)

/-- The stop-set table's address. -/
def State.stopBase (s : State) (e : Nat) : Nat := 65536 * s.fld e F.SEQ_EAS_STOP_BASE_UNIT

/-- Whether a named channel is an enabled channel of the easel, or none is named. -/
def State.chanNamedOk (s : State) (e : Nat) (v c : Fld) : Bool := !s.flag e v || s.ownsLink e (s.fld e c)

/-- The declared numbers lie in their ranges (R341, R366). -/
def State.seqRanges (s : State) (e : Nat) : Bool :=
  let chunk := s.fld e F.SEQ_EAS_CFG0_CHUNK
  let rows := s.fld e F.SEQ_EAS_CFG0_STEP_ROWS
  let vocab := s.fld e F.SEQ_EAS_CFG1_VOCAB
  let pt := s.pageTokens e
  decide (16 ≤ chunk ∧ chunk ≤ 8192 ∧ chunk % 16 = 0) && decide (128 ≤ rows ∧ rows ≤ 16384 ∧ rows % 128 = 0) &&
    decide (2 ≤ vocab ∧ vocab ≤ 1048576) && decide (pt = 8 ∨ pt = 16 ∨ pt = 32) && decide (s.fld e F.SEQ_EAS_PAGE_CFG_LAYERS ≠ 0) &&
    decide (s.pageBytes e % 65536 = 0) && decide (s.fld e F.SEQ_EAS_PL_LEN_PAGES ≠ 0)

/-- The checks of ENABLE (R340). -/
def State.seqChecks (s : State) (e : Nat) : Bool :=
  s.seqRanges e && s.areaOk e (s.kvBase e) (s.fld e F.SEQ_EAS_KV_PAGES_PAGES * s.pageBytes e) && s.areaOk e (s.plBase e) (s.plBytes e) &&
    s.areaOk e (65536 * s.fld e F.SEQ_EAS_WL_BASE_UNIT) (2 * 2 ^ 20) && s.areaOk e (s.stopBase e) 4096 &&
    (List.range 64).all (fun r => decide (s.orSize e r = 0) || !s.flag e (F.SEQ_OR_SIZE_SPACE r) ||
      s.areaOk e (s.fld64 e (F.SEQ_OR_BASE_LO_ADDR r) (F.SEQ_OR_BASE_HI_ADDR r)) (32 * 2 ^ s.orSize e r)) &&
    s.chanNamedOk e F.SEQ_EAS_PASS_CH01_V0 F.SEQ_EAS_PASS_CH01_CH0 && s.chanNamedOk e F.SEQ_EAS_PASS_CH01_V1 F.SEQ_EAS_PASS_CH01_CH1 &&
    s.chanNamedOk e F.SEQ_EAS_PASS_CH23_V2 F.SEQ_EAS_PASS_CH23_CH2 && s.chanNamedOk e F.SEQ_EAS_PASS_CH23_V3 F.SEQ_EAS_PASS_CH23_CH3 &&
    s.chanNamedOk e F.SEQ_EAS_SWAP_CH_VALID F.SEQ_EAS_SWAP_CH_CH

/-- ENABLE is set: the areas are checked, the stop-set table is copied, and every output ring's head and tail are zero (R340, R343, R367). -/
def State.seqEnable (s : State) (e : Nat) : State :=
  if s.seqOn e then s
  else if s.seqChecks e then
    let s1 := (s.setFlag e F.SEQ_EAS_CTRL_ENABLE true).setFlag e F.SEQ_EAS_STATUS_CFG_ERR false
    let s2 := forUpto 64 (fun r (t : State) => (t.setFld e (F.SEQ_OR_HEAD_HEAD r) 0).setFld e (F.SEQ_OR_TAIL_TAIL r) 0) s1
    (s2.setSeqEas e { s2.seqEas e with stop := s2.readBytes (bondKey e (s2.stopBase e)) 4096, ring := [] }).showFree e
  else s.setFlag e F.SEQ_EAS_STATUS_CFG_ERR true

/-- A tenant's own VF: PF0 and the Atelier cores write no field of the window (R364; 12 R381). -/
def isVf (req : Requester) (e : Nat) : Bool :=
  match req with
  | .vf n => decide (n.val = e)
  | _ => false

/-- SEQ_EAS_CTRL with ENABLE set (R340, R366). -/
def execSeqEnable (req : Requester) (auto : Bool) (s : State) : Res :=
  s.access req F.SEQ_EAS_CTRL_ENABLE.off (fun easel =>
    .next (if isVf req easel && decide (easel ≠ 0) then (s.setFlag easel F.SEQ_EAS_CTRL_AUTO auto).seqEnable easel else s))

/-! ### Entries (R346 to R349) -/

/-- Bytes of the BODY that a kind names, and whether every other byte of an entry is zero (R346; 10 R315). -/
def seqEntryZero (d : List Nat) : Bool :=
  let body := match nth 0 d 0 with
    | 0x10 => 46
    | 0x12 => 20
    | 0x14 => 1
    | 0x15 => 40
    | _ => 0
  zeroAt d 1 1 && zeroAt d 4 12 && zeroAt d (16 + body) (112 - body) && (decide (nth 0 d 0 ≠ 0x15) || zeroAt d 21 3) &&
    (decide (nth 0 d 0 ≠ 0x12) || zeroAt d 23 1) && (decide (nth 0 d 0 ≠ 0x12 ∧ nth 0 d 0 ≠ 0x13) || zeroAt d 2 2)

/-- Whether a value read as FP32 is finite and not negative, and whether it lies in (0, 1] (R347). -/
def tempOk (w : Nat) : Bool := decide (w < 0x7F800000 ∨ w = 0x80000000)
def topPOk (w : Nat) : Bool := decide (0 < w ∧ w ≤ 0x3F800000)

/-- The checks of SEQ_OPEN, in their order (R347, R367). -/
def State.openStatus (s : State) (e : Nat) (d : List Nat) : Nat :=
  let i := fieldLe d 2 2
  let p := fieldLe d 40 4
  let g := fieldLe d 44 4
  if p = 0 ∨ s.fld e F.SEQ_EAS_PL_LEN_PAGES * s.pageTokens e < p + g ∨ g = 0 ∨ !tempOk (fieldLe d 48 4) ∨ !topPOk (fieldLe d 52 4) ∨ 1024 < fieldLe d 56 2 ∨
      8 < nth 0 d 58 ∨ 1 < nth 0 d 59 ∨ 63 < nth 0 d 60 ∨ s.orSize e (nth 0 d 60) = 0 ∨ (15 < nth 0 d 61 ∧ nth 0 d 61 ≠ 255) then stShape
  else if fieldLe d 32 8 % 4 ≠ 0 then stAlign
  else if s.fld e F.EAS_CFG_SEQ ≤ i ∨ !s.inShare e (fieldLe d 32 8) (4 * p) then stOutOfShare
  else if (s.seqEntry e i).state ≠ sqFree then 0x40 else stOk

/-- Status codes of the engine (R349). -/
def stSeqState : Nat := 0x41
def stStepState : Nat := 0x42
def stNotEnabled : Nat := 0x43

/-- The entry that SEQ_OPEN fills (R347). -/
def openEntry (d : List Nat) (admitNo : Nat) : SeqEntry :=
  { SeqEntry.free with
    state := sqQueued, tag := fieldLe d 16 8, seed := fieldLe d 24 8, promptAddr := fieldLe d 32 8, promptLen := fieldLe d 40 4, maxGen := fieldLe d 44 4
    temp := fieldLe d 48 4, topP := fieldLe d 52 4, topK := fieldLe d 56 2, draftMax := nth 0 d 58, spec := decide (nth 0 d 59 = 1), outRing := nth 0 d 60
    stopSet := nth 0 d 61, admitNo := admitNo }

/-- An entry ends: its record is posted and it leaves the outstanding ones (R349; 10 R333). -/
def State.seqDone (s : State) (e id : Nat) (d : List Nat) (st a b : Nat) : State :=
  (s.seqPost e (nth 0 d 0) (s.seqStepOf e d) st (seqEvent d) a b).retire e id false

/-- Execute SEQ_OPEN (R347, R350). -/
def State.seqOpen (s : State) (e id : Nat) (d : List Nat) : State :=
  let st := s.openStatus e d
  if st ≠ stOk then s.seqDone e id d st 0 0
  else
    let x := s.seqEas e
    let s1 := (s.setSeqEas e { x with admitNo := (x.admitNo + 1) % 2 ^ 32 }).setSeqEntry e (fieldLe d 2 2) (openEntry d x.admitNo)
    (s1.seqDone e id d stOk 0 0).retryBuild e

/-- Execute SEQ_CLOSE (R348). -/
def State.seqClose (s : State) (e id : Nat) (d : List Nat) : State :=
  let i := fieldLe d 2 2
  let t := s.seqEntry e i
  if s.fld e F.EAS_CFG_SEQ ≤ i then s.seqDone e id d stOutOfShare 0 0
  else if s.inOpenStep e i then (s.setSeqEntry e i { t with cancel := true }).seqDone e id d stOk 0 0
  else if t.state = sqQueued ∨ t.state = sqSwapped ∨ t.state = sqDecode ∨ t.state = sqPrefill then
    (s.endSeq e i endCancelled 0 []).seqDone e id d stOk 0 0
  else s.seqDone e id d stSeqState 0 0

/-- Execute SEQ_SWAP: the moves of R352 by hand, for a sequence outside the open step. -/
def State.seqSwap (s : State) (e id : Nat) (d : List Nat) : State :=
  let i := fieldLe d 2 2
  let t := s.seqEntry e i
  let out := decide (nth 0 d 16 = 0)
  let note := fun (u : State) => u.setSeqEas e { u.seqEas e with swaps := SMap.set (fun _ => 0) (u.seqEas e).swaps i (id + 1) }
  if 1 < nth 0 d 16 then s.seqDone e id d stShape 0 0
  else if s.fld e F.EAS_CFG_SEQ ≤ i then s.seqDone e id d stOutOfShare 0 0
  else if s.inOpenStep e i then s.seqDone e id d stSeqState 0 0
  else if out ∧ t.state = sqDecode then
    let r := s.swapOutStart e i
    if r.1 then note r.2 else s.seqDone e id d stSeqState 0 0
  else if !out ∧ t.state = sqSwapped ∧ s.ctxPages e i ≤ s.freePages e then note (s.swapInStart e i)
  else s.seqDone e id d stSeqState 0 0

/-! ### Sampling (R355 to R359) -/

/-- u(q) = n · 2^-24 (R357): the numerator n. -/
def seqU (t : SeqEntry) (q : Nat) : Nat :=
  let h := sm3 (leBytes 8 t.seed ++ leBytes 8 t.tag ++ leBytes 4 q)
  nth 0 h 0 * 65536 + nth 0 h 1 * 256 + nth 0 h 2

/-- Whether a value is a NaN. -/
def Fp.isNan : Fp → Bool
  | .nan => true
  | _ => false

/-- Whether a value is finite or +∞ (R356). -/
def Fp.usable : Fp → Bool
  | .nan => false
  | .inf neg => !neg
  | .fin _ _ _ => true

/-- Insert a candidate in the order of falling value, the lower identifier first among equals. -/
def insertCand (c : Nat × Fp) : List (Nat × Fp) → List (Nat × Fp)
  | [] => [c]
  | x :: r => if fpLt x.2 c.2 || (!fpLt c.2 x.2 && decide (c.1 < x.1)) then c :: x :: r else x :: insertCand c r

/-- Candidates in the order of falling value, at most `k` kept (R356). -/
def topCands (k : Nat) (l : List (Nat × Fp)) : List (Nat × Fp) := l.foldl (fun a c => (insertCand c a).take k) []

/-- The shortest prefix whose sum is at least a bound: its length and sum (R356). -/
def cutPrefix (bound : Fp) : List Fp → Nat → Fp → Nat × Fp
  | [], n, acc => (n, acc)
  | w :: r, n, acc =>
    let t := fpAdd acc w
    if fpLt t bound then cutPrefix bound r (n + 1) t else (n + 1, t)

/-- The first candidate whose running sum exceeds a bound (R356); the last of the prefix when rounding leaves none. -/
def pickCand (bound : Fp) : List (Nat × Fp) → Fp → Nat → Nat
  | [], _, last => last
  | c :: r, acc, _ =>
    let t := fpAdd acc c.2
    if fpLt bound t then c.1 else pickCand bound r t c.1

/-- The weight of a candidate (R356): exp((x − x_max)/TEMP) within 4 ulp, the device's choice among those FP32 values being free; where R356 gives no bound, free
(notes/assumptions/42.md). -/
def candWeight (x xmax : Fp) (temp : Nat) : Fp :=
  let free := decodeElem 0xA (Config.seqExp (encodeFp32 x) (encodeFp32 xmax) temp)
  match x, xmax, decodeElem 0xA temp with
  | .fin n1 m1 e1, .fin n2 m2 e2, .fin false mt et =>
    let d := addExact (signed n1 m1) e1 (-(signed n2 m2)) e2
    let a := ratOf d.1.natAbs d.2
    let b := ratOf mt et
    if mt = 0 then free
    else
      let g := expRat (decide (d.1 < 0)) (a.1 * b.2) (a.2 * b.1)
      nearFp false (cutRat g.1 g.2) (Config.seqUlp (encodeFp32 x) (encodeFp32 xmax) temp).val
  | _, _, _ => free

/-- Draw a token from the elements of a logit row (R356): none for a row that has no element that is finite or +∞. -/
def drawToken (t : SeqEntry) (vals : List Fp) (q : Nat) : Option Nat :=
  let cs := (vals.zipIdx.map (fun p => (p.2, p.1))).filter (fun c => !c.2.isNan)
  if cs.all (fun c => !c.2.usable) then none
  else if t.temp % 2 ^ 31 = 0 then (topCands 1 cs).head?.map (·.1)
  else
    let k := if 1 ≤ t.topK ∧ t.topK ≤ 1024 then t.topK else 1024
    let top := topCands k cs
    let xmax := (top.head?.map (·.2)).getD Fp.zero
    let ws := topCands k (top.map (fun c => (c.1, candWeight c.2 xmax t.temp)))
    let total := ws.foldl (fun a c => fpAdd a c.2) Fp.zero
    let (n, sum) := cutPrefix (fpMul (decodeElem 0xA t.topP) total) (ws.map (·.2)) 0 Fp.zero
    some (pickCand (fpMul (.fin false (seqU t q) (-24)) sum) (ws.take n) Fp.zero 0)

/-- Bytes of an element of a logit row. -/
def logitBytes (fmt : Nat) : Nat := if fmt = 0xA then 4 else 2

/-- A SAMPLE's fields. -/
def smpFmt (d : List Nat) : Nat := nth 0 d 22
def smpLogits (d : List Nat) : Nat := fieldLe d 24 8
def smpStride (d : List Nat) : Nat := fieldLe d 32 4

/-- Read logit row `r` of a SAMPLE and draw a token for a position: none for a poisoned or empty row (R355, R356). -/
def State.sampleRow (s : State) (e : Nat) (d : List Nat) (t : SeqEntry) (r q : Nat) (ecc : List (Nat × EccEvent)) : Option Nat × State :=
  let b := logitBytes (smpFmt d)
  let a := smpLogits d + r * smpStride d
  let n := s.fld e F.SEQ_EAS_CFG1_VOCAB
  let m := s.bondLoad e a (n * b) stPoison ((ecc.find? (fun p => decide (p.1 = r))).map (·.2))
  if m.status = .ok then (drawToken t ((List.range n).map (fun i => decodeElem (smpFmt d) (fieldLe m.data (i * b) b))) q, m.st) else (none, m.st)

/-- The checks of a SAMPLE that reads `rows` logit rows (R349, R354, R355). -/
def State.sampleStatus (s : State) (e : Nat) (d : List Nat) (rows : Nat) : Nat :=
  let x := s.seqEas e
  let j := nth 0 d 21
  let len := s.fld e F.SEQ_EAS_CFG1_VOCAB * logitBytes (smpFmt d)
  if 1 < nth 0 d 20 ∨ (smpFmt d ≠ 6 ∧ smpFmt d ≠ 0xA) ∨ smpStride d < len ∨ (nth 0 d 20 = 1 ∧ (j = 0 ∨ 8 < j)) then stShape
  else if smpLogits d % 256 ≠ 0 ∨ smpStride d % 256 ≠ 0 then stAlign
  else if s.fld e F.SEQ_EAS_STATUS_PHASE ≠ 1 ∨ fieldLe d 16 4 ≠ s.fld e F.SEQ_EAS_STEP_STEP ∨ (nth 0 d 20 = 1 ∧ j ≤ x.lastDraft) then stStepState
  else if rows ≠ 0 ∧ !s.inShare e (smpLogits d) ((rows - 1) * smpStride d + len) then stOutOfShare else stOk

/-- A sequence's stop set, as ENABLE copied it (R343). -/
def State.stopSet (s : State) (e : Nat) (t : SeqEntry) : List Nat := if t.stopSet = 255 then [] else ((s.seqEas e).stop.drop (256 * t.stopSet)).take 256

/-- Whether a token is a stop token (R343). -/
def isStop (set : List Nat) (tok : Nat) : Bool :=
  !set.isEmpty && decide (tok ≠ noToken) && (List.range 16).any (fun i => decide (fieldLe set (4 * i) 4 = tok))

/-- Whether the history ends with a stop sequence (R343). -/
def endsStop (set hist : List Nat) : Bool :=
  !set.isEmpty && (List.range 4).any (fun i =>
    let b := 64 + 40 * i
    let n := fieldLe set b 4
    decide (1 ≤ n ∧ n ≤ 8 ∧ n ≤ hist.length) && decide (hist.drop (hist.length - n) = (List.range n).map (fun k => fieldLe set (b + 4 + 4 * k) 4)))

/-- The address of row `r` of the token array of the open step (R353). -/
def State.tokAddr (s : State) (e r : Nat) : Nat := s.wlBuf e (s.fld e F.SEQ_EAS_STEP_STEP) + 0x40040 + 4 * r

/-- Put draft `j` of a segment into its row (R358). -/
def State.putDraft (s : State) (e : Nat) (g : SeqSeg) (j tok : Nat) : State :=
  (s.seqStore e (s.tokAddr e (g.row + j)) (leBytes 4 tok)).updSeq e g.seq (fun t => { t with prov := j })

/-- The draft in row `j` of a segment. -/
def State.draftAt (s : State) (e : Nat) (g : SeqSeg) (j : Nat) : Nat := s.readLe (bondKey e (s.tokAddr e (g.row + j))) 4

/-- One VERIFY segment of a DRAFT sample (R358): drafts written so far, and the state. -/
def draftSeg (e : Nat) (d : List Nat) (ecc : List (Nat × EccEvent)) (p : SeqSeg × Nat) (a : Nat × State) : Nat × State :=
  let g := p.1
  let s := a.2
  let t := s.seqEntry e g.seq
  let j := nth 0 d 21
  if g.kind = sgVerify ∧ t.prov + 1 = j ∧ j ≤ g.drafts ∧ !t.draftStop then
    match s.sampleRow e d t p.2 (g.pos + j) ecc with
    | (some tok, s1) =>
      let s2 := (s1.putDraft e g j tok).updSeq e g.seq (fun t => { t with draftStop := isStop (s.stopSet e t) tok })
      (a.1 + 1, s2)
    | (none, s1) =>
      let x := s1.seqEas e
      (a.1, s1.setSeqEas e { x with segs := x.segs.map (fun h => if h.seq = g.seq then { h with poison := true } else h) })
  else a

/-- Execute a SAMPLE with MODE DRAFT (R358). -/
def State.sampleDraft (s : State) (e id : Nat) (d : List Nat) (ecc : List (Nat × EccEvent)) : State :=
  let x := s.seqEas e
  let st := s.sampleStatus e d x.segs.length
  if st ≠ stOk then s.seqDone e id d st 0 0
  else
    let r := x.segs.zipIdx.foldl (fun a p => draftSeg e d ecc p a) (0, s)
    (r.2.setSeqEas e { r.2.seqEas e with lastDraft := nth 0 d 21 }).seqDone e id d stOk r.1 0

/-- Execute DRAFT_PUT (R358): it comes before any DRAFT sample of the step. -/
def State.draftPut (s : State) (e id : Nat) (d : List Nat) : State :=
  let i := fieldLe d 2 2
  let n := nth 0 d 20
  let x := s.seqEas e
  if s.fld e F.EAS_CFG_SEQ ≤ i then s.seqDone e id d stOutOfShare 0 0
  else if s.fld e F.SEQ_EAS_STATUS_PHASE ≠ 1 ∨ fieldLe d 16 4 ≠ s.fld e F.SEQ_EAS_STEP_STEP then s.seqDone e id d stStepState 0 0
  else
    match x.segs.find? (fun g => decide (g.seq = i ∧ g.kind = sgVerify)) with
    | none => s.seqDone e id d stSeqState 0 0
    | some g =>
      if n = 0 ∨ g.drafts < n then s.seqDone e id d stShape 0 0
      else if (s.seqEntry e i).prov ≠ 0 ∨ x.lastDraft ≠ 0 then s.seqDone e id d stSeqState 0 0
      else (forUpto n (fun k (t : State) => t.putDraft e g (k + 1) (fieldLe d (24 + 4 * k) 4)) s).seqDone e id d stOk 0 0

/-- The draws of a segment from logit row `k` on, up to the first that differs from its draft (R359): the tokens, whether a row was bad, the state. -/
def finalDraws (e : Nat) (d : List Nat) (ecc : List (Nat × EccEvent)) (g : SeqSeg) (t : SeqEntry) : Nat → Nat → List Nat → State → List Nat × Bool × State
  | 0, _, toks, s => (toks, false, s)
  | n + 1, k, toks, s =>
    match s.sampleRow e d t (g.logit + k) (if g.kind = sgLast then t.promptLen else g.pos + 1 + k) ecc with
    | (none, s1) => (toks, true, s1)
    | (some tok, s1) =>
      if g.kind = sgVerify ∧ k < t.prov ∧ tok = s1.draftAt e g (k + 1) then finalDraws e d ecc g t n (k + 1) (toks ++ [tok]) s1
      else (toks ++ [tok], false, s1)

/-- One segment of the FINAL sample (R359). -/
def finalSeg (e : Nat) (d : List Nat) (ecc : List (Nat × EccEvent)) (g : SeqSeg) (s : State) : SeqSeg × State :=
  if g.kind = sgPrefill then (g, s)
  else
    let r := finalDraws e d ecc g (s.seqEntry e g.seq) (g.drafts + 1) 0 [] s
    ({ g with toks := r.1, poison := g.poison || r.2.1 }, r.2.2)

/-- Execute a SAMPLE with MODE FINAL: every segment's tokens are drawn; sampling lasts until the next tick or the varnish (R359, R360; notes/assumptions/149.md). -/
def State.sampleFinal (s : State) (e id : Nat) (d : List Nat) (ecc : List (Nat × EccEvent)) : State :=
  let x := s.seqEas e
  let st := s.sampleStatus e d x.logitRows
  if st ≠ stOk then s.seqDone e id d st 0 0
  else
    let r := x.segs.foldl (fun (a : List SeqSeg × State) g =>
      let y := finalSeg e d ecc g a.2
      (a.1 ++ [y.1], y.2)) ([], s)
    ((r.2.setSeqEas e { r.2.seqEas e with segs := r.1, finalTag := id }).setFld e F.SEQ_EAS_STATUS_PHASE 2).setFlag 0 F.SEQ_STATUS_SAMPLER_BUSY true

/-- The FINAL sample in progress is over: varnishing begins, and the sampler is idle once no easel's is in progress (R360, R365, R366). -/
def State.sampled (s : State) (e : Nat) : State :=
  if s.fld e F.SEQ_EAS_STATUS_PHASE = 2 then
    let s1 := s.setFld e F.SEQ_EAS_STATUS_PHASE 3
    s1.setFlag 0 F.SEQ_STATUS_SAMPLER_BUSY ((List.range 64).any (fun i => decide (s1.fld i F.SEQ_EAS_STATUS_PHASE = 2)))
  else s

/-! ### The engine's order (R346) -/

/-- Execute one entry. -/
def State.seqExec (s : State) (e id : Nat) (d : List Nat) (ecc : List (Nat × EccEvent)) : State :=
  if !s.seqOn e then s.seqDone e id d stNotEnabled 0 0
  else match nth 0 d 0 with
    | 0x10 => s.seqOpen e id d
    | 0x11 => s.seqClose e id d
    | 0x12 => if nth 0 d 20 = 1 then s.sampleDraft e id d ecc else s.sampleFinal e id d ecc
    | 0x14 => s.seqSwap e id d
    | 0x15 => s.draftPut e id d
    | _ =>
      if s.fld e F.SEQ_EAS_STATUS_PHASE ≠ 0 then s.seqDone e id d stStepState 0 0
      else if s.fld e F.EAS_LIFE_STATE ≠ 3 then s.retire e id false
      else
        let r := (s.setBuildWaits e false (s.seqEas e).buildRetry).buildStep e
        let s1 := if r.1 then r.2.setBuildWaits e false false else r.2.setBuildWaits e false (r.2.flag e F.SEQ_EAS_CTRL_AUTO)
        s1.retire e id false

/-- Whether the entry at the front must wait: a step is being sampled or varnished, or its build waits for admission (R346, R350). -/
def State.seqHeld (s : State) (e : Nat) (d : List Nat) : Bool :=
  decide (2 ≤ s.fld e F.SEQ_EAS_STATUS_PHASE) ||
    (decide (nth 0 d 0 = 0x13) && s.seqOn e && decide (s.fld e F.SEQ_EAS_STATUS_PHASE = 0) && decide (s.fld e F.EAS_LIFE_STATE = 3) && !s.mayBuild)

/-- Execute the entries that wait, in order, while the engine may. -/
def seqDrain (e : Nat) (ecc : List (Nat × EccEvent)) : Nat → State → State
  | 0, s => s
  | n + 1, s =>
    match (s.seqEas e).queue with
    | [] => s
    | (id, d) :: r =>
      if s.seqHeld e d then (if nth 0 d 0 = 0x13 ∧ s.fld e F.SEQ_EAS_STATUS_PHASE = 0 then s.setBuildWaits e true (s.seqEas e).buildRetry else s)
      else seqDrain e ecc n ((s.setSeqEas e { s.seqEas e with queue := r }).seqExec e id d ecc)

/-- Execute what may be executed. -/
def State.seqGo (s : State) (e : Nat) (ecc : List (Nat × EccEvent)) : State := seqDrain e ecc 65 s

/-- Take the ring's head entry when `p` accepts it: it is queued in the engine and executed in its turn; a nonzero reserved byte completes at admission, and
a 65th entry waits (R346; 10 R316, R317). -/
def State.seqSubmit (s : State) (e : Nat) (p : List Nat → Bool) (host : Blob) (ecc : List (Nat × EccEvent)) : State :=
  if !s.sqWaiting e then s
  else
    match s.sqFetch e host with
    | (none, s1) => s1
    | (some d, s1) =>
      if !p d then s
      else if !seqEntryZero d then s1.refuseEntry e stOpcode d
      else if 64 ≤ (s1.seqEas e).queue.length then s1.setFlag e F.EAS_STATUS_RING_WAIT true
      else
        let r := s1.enroll e
        let s2 := r.2.setSeqEas e { r.2.seqEas e with queue := (r.2.seqEas e).queue ++ [(r.1, d)] }
        (s2.sqAdvance e).seqGo e ecc

/-- SEQ_OPEN (R347). -/
def execSeqOpen (easel : Fin 64) (host : Blob) (s : State) : Res := .next (s.seqSubmit easel (fun d => decide (nth 0 d 0 = 0x10)) host [])

/-- SEQ_CLOSE (R348). -/
def execSeqClose (easel : Fin 64) (host : Blob) (s : State) : Res := .next (s.seqSubmit easel (fun d => decide (nth 0 d 0 = 0x11)) host [])

/-- STEP_BUILD (R350 to R354). -/
def execStepBuild (easel : Fin 64) (host : Blob) (s : State) : Res := .next (s.seqSubmit easel (fun d => decide (nth 0 d 0 = 0x13)) host [])

/-- A build that waited for admission goes on, or AUTO tries again (R350). -/
def State.resumeBuild (s : State) (e : Nat) : State :=
  let x := s.seqEas e
  let s1 := if x.buildRetry then s.autoBuild e else s
  if x.buildWaits then (if s1.mayBuild then s1.setBuildWaits e false (s1.seqEas e).buildRetry else s1).seqGo e [] else s1

/-- Every build that waits is tried again once climate control or the end of brace mode admits it (R350; 19 R541). -/
def State.admitBuilds (s : State) : State :=
  if s.mayBuild then forUpto 64 (fun e (t : State) => if (t.seqEas e).buildWaits then t.resumeBuild e else t) s else s

/-- BUILD_RETRY: a build that waited for admission goes on, or AUTO tries again (R350). -/
def execBuildRetry (easel : Fin 64) (s : State) : Res := .next (s.resumeBuild easel)

/-- SAMPLE with MODE DRAFT (R358). -/
def execSampleDraft (easel : Fin 64) (host : Blob) (ecc : List (Nat × EccEvent)) (s : State) : Res :=
  .next (s.seqSubmit easel (fun d => decide (nth 0 d 0 = 0x12 ∧ nth 0 d 20 = 1)) host ecc)

/-- SAMPLE with MODE FINAL (R359). -/
def execSampleFinal (easel : Fin 64) (host : Blob) (ecc : List (Nat × EccEvent)) (s : State) : Res :=
  .next (s.seqSubmit easel (fun d => decide (nth 0 d 0 = 0x12 ∧ nth 0 d 20 ≠ 1)) host ecc)

/-- DRAFT_PUT (R358). -/
def execDraftPut (easel : Fin 64) (host : Blob) (s : State) : Res := .next (s.seqSubmit easel (fun d => decide (nth 0 d 0 = 0x15)) host [])

/-- SEQ_SWAP with DIR out (R352). -/
def execSeqSwapOut (easel : Fin 64) (host : Blob) (s : State) : Res :=
  .next (s.seqSubmit easel (fun d => decide (nth 0 d 0 = 0x14 ∧ nth 0 d 16 ≠ 1)) host [])

/-- SEQ_SWAP with DIR in (R352). -/
def execSeqSwapIn (easel : Fin 64) (host : Blob) (s : State) : Res :=
  .next (s.seqSubmit easel (fun d => decide (nth 0 d 0 = 0x14 ∧ nth 0 d 16 = 1)) host [])

/-! ### Swap copies (R352) -/

/-- The host address of a swap slot. -/
def State.swapAddr (s : State) (e slot : Nat) : Nat := s.fld64 e F.SEQ_EAS_SWAP_BASE_LO_ADDR F.SEQ_EAS_SWAP_BASE_HI_ADDR + slot * s.pageBytes e

/-- Copy a sequence's pages to its slots, in the committed view of the swap channel (R352, R362). -/
def State.swapCopyOut (s : State) (e i : Nat) : State :=
  let t := s.seqEntry e i
  forUpto (s.ctxPages e i) (fun p (u : State) =>
    let a := u.kvBase e + u.pageAt e i p * u.pageBytes e
    u.hostWrite e (u.swapAddr e (t.swapSlot + p)) (u.viewOf .committed e a (u.readBytes (bondKey e a) (u.pageBytes e)))) s

/-- Copy a sequence's slots back to its pages (R352). -/
def State.swapCopyIn (s : State) (e i : Nat) (host : Blob) : State :=
  forUpto (s.ctxPages e i) (fun p (u : State) =>
    let n := u.pageBytes e
    (u.countUnits e F.CXL_EAS_HOST_RD_UNITS 65536 n).seqStore e (u.kvBase e + u.pageAt e i p * n) ((List.range n).map (fun j => host.byte (p * n + j)))) s

/-- The record of a SEQ_SWAP whose copy has ended (R349). -/
def State.swapRecord (s : State) (e i st : Nat) : State :=
  let k := SMap.get (fun _ => 0) (s.seqEas e).swaps i
  if k = 0 then s
  else
    let s1 := s.setSeqEas e { s.seqEas e with swaps := SMap.set (fun _ => 0) (s.seqEas e).swaps i 0 }
    (s1.seqPost e 0x14 i st 6 0 0).retire e (k - 1) false

/-- SWAP_COPY_DONE (R345, R352, R363): a failed copy, or one whose host memory cannot be reached, leaves a swap-out in DECODE with its pages and ends a
swap-in with LOST. -/
def execSwapCopyDone (easel : Fin 64) (index : Nat) (host : Blob) (fail : Bool) (s : State) : Res :=
  let t := s.seqEntry easel index
  let pages := s.ctxPages easel index
  let reach := s.hostUp && s.swapping easel && (List.range (s.ctxPages easel index)).all (fun p => s.translates easel (s.swapAddr easel (t.swapSlot + p)))
  let bad := fail || !reach
  if t.state = sqSwapOut then
    if bad then .next (((s.updSeq easel index (fun y => { y with state := sqDecode, swapSlot := noToken })).swapStep easel 0).swapRecord easel index Config.swapFailStatus)
    else
      let s1 := s.swapCopyOut easel index
      let x := s1.seqEas easel
      let s2 := s1.setSeqEas easel { x with swapNo := x.swapNo + 1 }
      let s3 := (s2.updSeq easel index (fun y => { y with state := sqSwapped, pages := 0, swapNo := x.swapNo })).showFree easel
      .next ((s3.swapStep easel pages).swapRecord easel index stOk)
  else if t.state = sqSwapIn then
    if bad then .next (((s.endSeq easel index endLost 0 []).swapStep easel 0).swapRecord easel index Config.swapFailStatus)
    else
      let s1 := (s.swapCopyIn easel index host).updSeq easel index (fun y => { y with state := sqDecode, swapSlot := noToken })
      .next (((s1.swapStep easel pages).swapRecord easel index stOk).retryBuild easel)
  else .next ((s.swapStep easel 0).swapRecord easel index Config.swapFailStatus)

/-! ### Varnish (R360) -/

/-- What checking committed tokens makes of an entry: the tokens kept and the END_CODE (R359, R360). `ctx` is CTX_LEN once the next token is committed. -/
def keepTokens (set : List Nat) (limit : Nat) : List Nat → Nat → SeqEntry → List Nat → SeqEntry × List Nat × Nat
  | [], _, t, kept => (t, kept, 0)
  | tok :: r, ctx, t, kept =>
    let h := t.hist ++ [tok]
    let t1 := { t with hist := h.drop (h.length - 7), genCount := t.genCount + 1, lastToken := tok }
    let code := if isStop set tok then endStopToken else if endsStop set h then endStopSeq else if t1.genCount = t1.maxGen then endMaxGen
      else if limit ≤ ctx + 1 then endMaxCtx else 0
    if code ≠ 0 then (t1, kept ++ [tok], code) else keepTokens set limit r (ctx + 1) t1 (kept ++ [tok])

/-- Varnish one sequence: tokens kept so far, sequences ended so far, and the state (R360, R363). -/
def varnishSeg (e : Nat) (g : SeqSeg) (a : Nat × Nat × State) : Nat × Nat × State :=
  let s := a.2.2
  let i := g.seq
  let t := s.seqEntry e i
  let proposed := if g.kind = sgVerify then t.prov else 0
  let s0 := s.incWrap e F.SEQ_EAS_SPEC_PROP_COUNT proposed
  match t.lost with
  | some info => (a.1, a.2.1 + 1, (s0.updSeq e i (fun y => { y with prov := 0, draftStop := false })).endSeq e i endLost info [])
  | none =>
    if g.poison then (a.1, a.2.1 + 1, (s0.updSeq e i (fun y => { y with prov := 0, draftStop := false })).endSeq e i endPoison 0 [])
    else if t.cancel then (a.1, a.2.1 + 1, (s0.updSeq e i (fun y => { y with prov := 0, draftStop := false })).endSeq e i endCancelled 0 [])
    else
      let chunk := if g.kind = sgPrefill ∨ g.kind = sgLast then g.count else 0
      let ctx := if chunk ≠ 0 then g.pos + g.count else g.pos + g.toks.length
      let first := if chunk ≠ 0 then ctx else g.pos + 1
      let limit := s.fld e F.SEQ_EAS_PL_LEN_PAGES * s.pageTokens e
      let (t1, kept, code) := keepTokens (s.stopSet e t) limit g.toks first t []
      let t2 := { t1 with
        ctxLen := ctx, prefilled := t.prefilled + chunk, prov := 0, draftStop := false, state := if g.kind = sgLast then sqDecode else t.state }
      let s1 := (s0.setSeqEntry e i t2).trimList e i
      let s2 := (s1.inc64 e F.SEQ_EAS_BILL_GEN_LO_TOKENS F.SEQ_EAS_BILL_GEN_HI_TOKENS kept.length).inc64 e F.SEQ_EAS_BILL_PREFILL_LO_TOKENS
        F.SEQ_EAS_BILL_PREFILL_HI_TOKENS chunk
      let s3 := if g.kind = sgVerify then s2.incWrap e F.SEQ_EAS_SPEC_ACC_COUNT (min (g.toks.length - 1) kept.length) else s2
      let recs := tokensRecs t2 i kept.length first kept
      if code ≠ 0 then (a.1 + kept.length, a.2.1 + 1, s3.endSeq e i code 0 recs) else (a.1 + kept.length, a.2.1, s3.outPut e recs)

/-- Close the step: the drafts that were not varnished stay provisional (R362), VARNISHED is posted, the easel meets a step boundary, and AUTO builds the next step (R350, R360; 02 R48). -/
def State.closeStep (s : State) (e tokens ended : Nat) : State :=
  let x := s.seqEas e
  let left := (x.segs.filter (fun g => decide (g.kind = sgVerify))).map (fun g => (List.range (g.count - g.toks.length)).map (fun i => g.row + g.toks.length + i))
  let y := { x with segs := [], rows := 0, logitRows := 0, lastDraft := 0, stale := SMap.set (fun _ => []) x.stale (s.fld e F.SEQ_EAS_STEP_STEP % 2) left.flatten }
  let s1 := (s.setSeqEas e y).setFld e F.SEQ_EAS_STATUS_PHASE 0
  let n := s1.fld e F.EAS_STEPS_COUNT
  let s2 := (s1.seqPost e 0x12 (s1.fld e F.SEQ_EAS_STEP_STEP) stOk 3 tokens ended).retire e x.finalTag false
  let s3 := if s2.fld e F.EAS_STEPS_COUNT = n then s2.stepBoundary e else s2
  (s3.autoBuild e).seqGo e []

/-- VARNISH (R360). -/
def execVarnish (easel : Fin 64) (s : State) : Res :=
  if 2 ≤ s.fld easel F.SEQ_EAS_STATUS_PHASE then
    let r := (s.seqEas easel).segs.foldl (fun a g => varnishSeg easel g a) (0, 0, s.sampled easel)
    .next (r.2.2.closeStep easel r.1 r.2.1)
  else .next s

/-! ### Losses and registers that act (R363 to R367) -/

/-- The INFO of SEQ_LOSE's fault record: the rank, when it is given (R363; 21 R573). -/
def State.loseInfo (s : State) : Nat := if s.flag 0 F.SEQ_LOSE_RANK_VALID then s.fld 0 F.SEQ_LOSE_RANK_RANK + 0x8000 else 0

/-- SEQ_LOSE (R363, R364). -/
def execSeqLose (req : Requester) (easel : Fin 64) (all : Bool) (index : Fin 8192) (key : BitVec 8) (s : State) : Res :=
  s.access req F.SEQ_LOSE_EASEL.off (fun _ =>
    if req.manages && decide (key = 0x4C) then
      let is := if all then (s.seqEas easel).active.map (·.1) else [index.val]
      .next (forEach is (fun i (t : State) => t.loseSeq easel i t.loseInfo) s)
    else .next s)

/-- Sequences with a page in a failed stack are lost (R363; 04 R117). -/
def State.loseStack (s : State) (stack : Nat) : State :=
  forEach s.seq (fun p (t : State) =>
    forEach p.2.active (fun q (u : State) =>
      let n := u.pageBytes p.1 / 65536
      if (List.range q.2.pages).any (fun k =>
          (List.range n).any (fun j => decide (u.stackOf p.1 (u.fld p.1 F.SEQ_EAS_KV_BASE_UNIT + u.pageAt p.1 q.1 k * n + j) = stack)))
      then u.loseSeq p.1 q.1 0 else u) t) s

/-- The 128 bytes of an entry (R344); PROV and the draft state show under UNDERPAINT only (R362, R366). -/
def SeqEntry.bytes (t : SeqEntry) (under : Bool) : List Nat :=
  let flags := (if t.spec then 1 else 0) + (if t.ringWait then 2 else 0) + (if t.pageWait then 4 else 0) + (if t.draftStop ∧ under then 8 else 0)
  leBytes 1 t.state ++ leBytes 1 t.endCode ++ leBytes 1 flags ++ leBytes 1 t.draftMax ++ leBytes 1 (if under then t.prov else 0) ++ leBytes 1 t.outRing ++
    leBytes 1 t.stopSet ++ leBytes 1 t.hist.length ++ leBytes 8 t.tag ++ leBytes 8 t.seed ++ leBytes 8 t.promptAddr ++ leBytes 4 t.promptLen ++
    leBytes 4 t.prefilled ++ leBytes 4 t.ctxLen ++ leBytes 4 t.genCount ++ leBytes 4 t.maxGen ++ leBytes 4 t.lastToken ++ leBytes 4 t.temp ++
    leBytes 4 t.topP ++ leBytes 2 t.topK ++ leBytes 2 t.pages ++ leBytes 4 t.admitNo ++
    (((t.hist ++ List.replicate (7 - t.hist.length) 0).take 7).map (leBytes 4)).flatten ++
    leBytes 4 (if t.state = sqSwapped then t.swapSlot else noToken) ++ leBytes 24 0

/-- Show words in consecutive registers. -/
def State.showWords (s : State) (u : Nat) (f : Nat → Fld) (n : Nat) (bs : List Nat) : State :=
  forUpto n (fun i (t : State) => t.setFld u (f i) (fieldLe bs (4 * i) 4)) s

/-- SEQ_EAS_PEEK (R362, R364, R366): a VF snapshots its own easel's entry, and UNDERPAINT needs PF0 and a debug grant. -/
def execSeqPeek (req : Requester) (index : Fin 8192) (underpaint : Bool) (s : State) : Res :=
  s.access req F.SEQ_EAS_PEEK_INDEX.off (fun easel =>
    if (!underpaint && isVf req easel) || (underpaint && req.manages && s.power powUnderpaint) then
      .next (s.showWords easel F.SEQ_EAS_PEEK_DATA_DATA 32 ((s.seqEntry easel index).bytes underpaint))
    else .next s)

/-- SEQ_DBG_CTRL.GO (R362, R364, R365): 64 bytes of an easel's bonded memory, in full under UNDERPAINT and a debug grant; easel 0's needs RADIO_READ (17 R500; 20 R567). -/
def execSeqDbgRead (req : Requester) (easel : Fin 64) (underpaint : Bool) (ecc : Option EccEvent) (s : State) : Res :=
  s.access req F.SEQ_DBG_CTRL_GO.off (fun _ =>
    if req.manages && (!underpaint || s.power powUnderpaint) && (decide (easel.val ≠ 0) || s.power powRadioRead) then
      let s1 := (s.setFld 0 F.SEQ_DBG_CTRL_EASEL easel).setFlag 0 F.SEQ_DBG_CTRL_UNDERPAINT underpaint
      let a := s1.fld64 0 F.SEQ_DBG_ADDR_LO_ADDR F.SEQ_DBG_ADDR_HI_ADDR
      let m := s1.bondLoad easel a 64 stPoison ecc
      let bs := if m.status = .outOfShare then List.replicate 64 0 else m.st.viewOf (if underpaint then .full else .committed) easel a m.data
      .next (m.st.showWords 0 F.SEQ_DBG_DATA_DATA 16 bs)
    else .next s)

/-- SEQ_OR_HEAD: room is freed, what waits is written, and AUTO may try again (R350, R361, R364, R367). -/
def execOutputRingHeadWrite (req : Requester) (ring : Fin 64) (head : BitVec 16) (s : State) : Res :=
  s.access req (F.SEQ_OR_HEAD_HEAD ring).off (fun easel =>
    if isVf req easel && decide (head.toNat < s.orEntries easel ring) then
      .next (((s.setFld easel (F.SEQ_OR_HEAD_HEAD ring) head.toNat).flushOut easel).retryBuild easel)
    else .next s)

/-- An easel reset frees every entry without writing records and clears the easel's step state and counters (R363). -/
def State.seqReset (s : State) (e : Nat) : State := (s.setSeqEas e SeqEas.empty).showSeqCounts e

end Sys2Proof.Machine
end

