-- ==== Sys2Proof/Machine/Emb.lean ====
section
/-! DEFINITION. Machine/Emb.lean: embedding gather and reduce (12): the table directory, requests, rows, pooling and completion. -/
namespace Sys2Proof.Machine

open Sys2Proof

/-! ### The table directory (R368, R369) -/

/-- An entry of an easel's directory as ENABLE copied it. -/
def State.embEntry (s : State) (e t : Nat) : List Nat := ((SMap.get (fun _ => []) s.emb.dir e).drop (64 * t)).take 64

def tbFmt (t : List Nat) : Nat := nth 0 t 0
def tbDim (t : List Nat) : Nat := fieldLe t 2 2
def tbRowBytes (t : List Nat) : Nat := fieldLe t 4 4
def tbRows (t : List Nat) : Nat := fieldLe t 8 4
def tbShards (t : List Nat) : Nat := fieldLe t 12 2
def tbRange (t : List Nat) : Bool := decide (nth 0 t 14 = 1)
def tbRemote (t : List Nat) : Nat := nth 0 t 15
def tbShardRows (t : List Nat) : Nat := fieldLe t 16 4
def tbRank0 (t : List Nat) : Nat := fieldLe t 20 2
def tbJob (t : List Nat) : Nat := fieldLe t 24 4
def tbBase (t : List Nat) : Nat := fieldLe t 32 8
def tbValid (t : List Nat) : Bool := decide (nth 0 t 1 = 1)

/-- A float format that tables and output rows may have (R368, R370). -/
def embFmt (f : Nat) : Bool := decide (f = 0 ∨ f = 6 ∨ f = 7 ∨ f = 0xA)

/-- The checks of a directory entry (R368); an entry without VALID has no fields to check but FLAGS. -/
def tbOk (t : List Nat) : Bool :=
  decide (nth 0 t 1 ≤ 1) && (!tbValid t ||
    (embFmt (tbFmt t) && decide (1 ≤ tbDim t ∧ tbDim t ≤ 4096 ∧ (tbFmt t ≠ 0 ∨ tbDim t % 32 = 0)) &&
      decide (tbRowBytes t % 64 = 0 ∧ rowBytes (tbFmt t) (tbDim t) ≤ tbRowBytes t) && decide (1 ≤ tbRows t ∧ tbRows t ≤ 0xFFFFFFFE) &&
      decide (1 ≤ tbShards t ∧ tbShards t ≤ 4096 ∧ nth 0 t 14 ≤ 1 ∧ tbRemote t < 64) &&
      decide (if tbRange t then (tbRows t + tbShards t - 1) / tbShards t ≤ tbShardRows t else tbShardRows t = 0) &&
      decide (tbRank0 t + tbShards t ≤ 4096) && zeroAt t 22 2 && zeroAt t 28 4 && decide (tbBase t % 64 = 0) && zeroAt t 40 24))

/-- Whether the engines serve an easel. -/
def State.embOn (s : State) (e : Nat) : Bool := s.flag e F.EMB_EAS_CTRL_ENABLE

/-- ENABLE is set: the directory is copied and checked (R368). -/
def State.embEnable (s : State) (e : Nat) : State :=
  if s.embOn e then s
  else
    let n := s.fld e F.EMB_EAS_DIR_COUNT_COUNT
    let a := 65536 * s.fld e F.EMB_EAS_DIR_UNIT
    let bs := s.readBytes (bondKey e a) (64 * n)
    if decide (1 ≤ n ∧ n ≤ 64) && s.inShare e a (64 * n) && !s.poisoned (bondKey e a) (64 * n) && (cut64 n bs).all tbOk then
      (({ s with emb := { s.emb with dir := SMap.set (fun _ => []) s.emb.dir e bs } }).setFlag e F.EMB_EAS_CTRL_ENABLE true).setFlag e
        F.EMB_EAS_STATUS_CFG_ERR false
    else s.setFlag e F.EMB_EAS_STATUS_CFG_ERR true

/-- EMB_EAS_CTRL.ENABLE (R368, R381). -/
def execEmbEnable (req : Requester) (s : State) : Res :=
  s.access req F.EMB_EAS_CTRL_ENABLE.off (fun easel =>
    .next (if isVf req easel && decide (easel ≠ 0) then s.embEnable easel else s))

/-! ### A request's fields (R370) -/

def rqTable (d : List Nat) : Nat := nth 0 d 16
def rqPool (d : List Nat) : Nat := nth 0 d 17
def rqFmtOut (d : List Nat) : Nat := nth 0 d 18
def rqFlags (d : List Nat) : Nat := nth 0 d 19
def rqCount (d : List Nat) : Nat := fieldLe d 20 2
def rqBags (d : List Nat) : Nat := fieldLe d 22 2
def rqIdx (d : List Nat) : Nat := fieldLe d 24 8
def rqOfs (d : List Nat) : Nat := fieldLe d 32 8
def rqWgt (d : List Nat) : Nat := fieldLe d 40 8
def rqSpace (d : List Nat) : Nat := nth 0 d 48
def rqTarget (d : List Nat) : Nat := fieldLe d 50 2
def rqStride (d : List Nat) : Nat := fieldLe d 52 4
def rqOut (d : List Nat) : Nat := fieldLe d 56 8
def rqTag (d : List Nat) : Nat := fieldLe d 64 2
def rqWait (d : List Nat) : Nat := fieldLe d 66 2
def rqSignal (d : List Nat) : Nat := fieldLe d 68 2
def rqDeadline (d : List Nat) : Nat := fieldLe d 70 2
def rqStrict (d : List Nat) : Bool := (rqFlags d).testBit 0

/-- Every byte of an entry that R370 does not name is zero. -/
def embEntryZero (d : List Nat) : Bool := zeroAt d 1 1 && zeroAt d 4 12 && zeroAt d 49 1 && zeroAt d 72 56

/-- Bytes of one output row. -/
def State.outRow (s : State) (e : Nat) (d : List Nat) : Nat := rowBytes (rqFmtOut d) (tbDim (s.embEntry e (rqTable d)))

/-- Whether a semaphore word names no link that is not the easel's. -/
def State.semWordOk (s : State) (e w : Nat) : Bool := !w.testBit 11 || s.ownsLink e (linkOf w)

/-- Codes of R380. -/
def stTable : Nat := 0x51
def stPartial : Nat := 0x50

/-- What marks a poisoned index, offset or weight. -/
def embMark : Nat := 2 ^ 40

/-- A list of `n` words of an easel's memory, as the engine sees it (R362, R375); poisoned ones are marked. -/
def State.embWords (s : State) (e a n : Nat) : List Nat :=
  let k := bondKey e a
  let bs := s.viewOf .pass e a (s.tagPoison k (s.readBytes k (4 * n)))
  (List.range n).map (fun i =>
    let w := (bs.drop (4 * i)).take 4
    ofLe w + (if w.any (fun b => decide (256 ≤ b)) then embMark else 0))

/-- A poisoned word. -/
def marked (w : Nat) : Bool := decide (embMark ≤ w)

/-- The offsets start at 0, never fall and end at COUNT, as far as they can be read (R370, R377). -/
def ofsOk (count : Nat) (l : List Nat) : Bool :=
  let good := l.takeWhile (fun w => !marked w)
  (decide (good = []) || decide (nth 0 good 0 = 0)) && good.all (fun w => decide (w ≤ count)) && decide (good.Pairwise (· ≤ ·)) &&
    (decide (good.length < l.length) || decide (good.getLast? = some count))

/-- The checks of a request that follow those of its fields, in their order: ALIGN, SPACE or OUT_OF_SHARE, SEM (R371). -/
def State.embAfter (s : State) (e : Nat) (d : List Nat) : Nat :=
  let row := s.outRow e d
  let none_ := decide (rqPool d = 0)
  let last := rqOut d + (rqBags d - 1) * rqStride d + row
  let off := fun (a n : Nat) => !s.inShare e a n
  if rqStride d % 64 ≠ 0 ∨ rqOut d % 64 ≠ 0 ∨ rqIdx d % 4 ≠ 0 ∨ (!none_ ∧ rqOfs d % 4 ≠ 0) ∨ (rqPool d = 4 ∧ rqWgt d % 4 ≠ 0) then stAlign
  else if !s.targetOk e (rqSpace d) (rqTarget d) then stSpace
  else if off (rqIdx d) (4 * rqCount d) ∨ (!none_ ∧ off (rqOfs d) (4 * (rqBags d + 1))) ∨ (rqPool d = 4 ∧ off (rqWgt d) (4 * rqCount d)) ∨
      (rqSpace d = 1 ∧ (off (rqOut d) (last - rqOut d) ∨ s.hitsPageList e (rqOut d) (last - rqOut d))) ∨
      (rqSpace d = 2 ∧ s.scratchLimit (rqTarget d) e < last) then stOutOfShare
  else if !s.semWordOk e (rqWait d) || !s.semWordOk e (rqSignal d) then stSem else stOk

/-- Whether a request's offsets break R370, as far as they lie in the easel's share and can be read. -/
def State.ofsBad (s : State) (e : Nat) (d : List Nat) : Bool :=
  decide (rqPool d ≠ 0) && s.inShare e (rqOfs d) (4 * (rqBags d + 1)) && !ofsOk (rqCount d) (s.embWords e (rqOfs d) (rqBags d + 1))

/-- The status with which a request completes without reading a row, the first that applies; offsets are judged at admission only when the request completes
there, since they may be written until its launch (R371; notes/assumptions/150.md). -/
def State.embStatus (s : State) (e : Nat) (d : List Nat) : Nat :=
  let t := s.embEntry e (rqTable d)
  let none_ := decide (rqPool d = 0)
  if !s.embOn e then stNotEnabled
  else if s.fld e F.EMB_EAS_DIR_COUNT_COUNT ≤ rqTable d ∨ !tbValid t then stTable
  else if 2 < fieldLe d 2 2 ∨ 4 < rqPool d ∨ !embFmt (rqFmtOut d) ∨ 3 < rqFlags d ∨ rqCount d = 0 ∨ 4096 < rqCount d ∨ rqBags d = 0 ∨ 4096 < rqBags d ∨
      (none_ ∧ rqBags d ≠ rqCount d) ∨ (rqSpace d ≠ 1 ∧ rqSpace d ≠ 2) ∨ (rqSpace d = 1 ∧ rqTarget d ≠ 0) ∨ 8192 ≤ rqWait d ∨ 8192 ≤ rqSignal d ∨
      rqStride d < s.outRow e d ∨ 1048576 < rqBags d * tbDim t then stShape
  else if s.embAfter e d ≠ stOk ∧ s.ofsBad e d then stShape
  else s.embAfter e d

/-! ### Requests in the engines -/

/-- Set the requests. -/
def State.setReqsEmb (s : State) (l : List EmbReq) : State := { s with emb := { s.emb with reqs := l } }

/-- Change a request. -/
def State.updReq (s : State) (id : Nat) (f : EmbReq → EmbReq) : State :=
  s.setReqsEmb (s.emb.reqs.map (fun r => if r.id = id then f r else r))

def State.embReq (s : State) (id : Nat) : Option EmbReq := s.emb.reqs.find? (fun r => decide (r.id = id))

/-- Bytes of a request's accumulator (R372). -/
def State.accBytes (s : State) (r : EmbReq) : Nat := rqBags r.entry * tbDim (s.embEntry r.easel (rqTable r.entry)) * 4

/-- Requests launched on an engine. -/
def State.embLaunched (s : State) (p : Nat) : List EmbReq := s.emb.reqs.filter (fun r => r.launched && decide (r.engine = p))

/-- Bytes of accumulators in use on an engine. -/
def State.accUsed (s : State) (p : Nat) : Nat := (s.embLaunched p).foldl (fun n r => n + s.accBytes r) 0

/-- Show what the engines' and the easel's registers count (R382): the accumulator in whole units of 64 KiB. -/
def State.showEmb (s : State) (p e : Nat) : State :=
  let l := s.embLaunched p
  let s1 := ((s.setFld 0 (F.EMB_ENG_STATUS_INFLIGHT p) l.length).setFld 0 (F.EMB_ENG_STATUS_PARKED p) (l.filter (·.parked)).length).setFld 0
    (F.EMB_ENG_STATUS_ACC_KIB p) ((s.accUsed p + 65535) / 65536)
  s1.setFld e F.EMB_EAS_STATUS_INFLIGHT (s.emb.reqs.filter (fun r => r.launched && decide (r.easel = e))).length

/-- The easel's oldest request on an engine that has not launched. -/
def State.embNext (s : State) (p e : Nat) : Option EmbReq := s.emb.reqs.find? (fun r => decide (r.engine = p ∧ r.easel = e) && !r.launched)

/-- The oldest request's WAIT is sent once (R372; 09 R287). -/
def State.embTake (s : State) (p e : Nat) : State :=
  match s.embNext p e with
  | none => s
  | some r =>
    let w := rqWait r.entry
    if w.testBit 11 && !s.takeGranted (.emb r.id) && !(s.semWaiters (linkSem w)).contains (.emb r.id) then s.sendTake (linkSem w) (.emb r.id) else s

/-- EMB_GATHER (R370, R371): the ring's head entry is admitted and checked; an engine holds at most 32 of an easel's requests that wait. -/
def execEmbGather (easel : Fin 64) (host : Blob) (s : State) : Res :=
  if !s.sqWaiting easel then .next s
  else
    match s.sqFetch easel host with
    | (none, s1) => .next s1
    | (some d, s1) =>
      let p := fieldLe d 2 2
      if nth 0 d 0 ≠ 0x18 then .next s
      else if !embEntryZero d then .next (s1.refuseEntry easel stOpcode d)
      else if s1.embStatus easel d ≠ stOk then .next (s1.refuseEntry easel (s1.embStatus easel d) d)
      else if 32 ≤ (s1.emb.reqs.filter (fun r => decide (r.engine = p ∧ r.easel = easel.val) && !r.launched)).length then
        .next (s1.setFlag easel F.EAS_STATUS_RING_WAIT true)
      else
        let a := s1.enroll easel
        let r : EmbReq := ⟨a.1, easel, p, d, false, false, false, [], [], [], [], [], false⟩
        .next (((a.2.setReqsEmb (a.2.emb.reqs ++ [r])).embTake p easel).sqAdvance easel)

/-! ### Rows (R369, R373, R375, R376, R378) -/

/-- States of a row. -/
def rwOut : Nat := 0
def rwHere : Nat := 1
def rwDead : Nat := 2
def rwLate : Nat := 3
def rwBad : Nat := 4
def rwOther : Nat := 5

/-- How often a request lists a row. -/
def EmbReq.times (r : EmbReq) (i : Nat) : Nat := (r.idx.filter (fun w => decide (w = i))).length

/-- Set a row of a request. -/
def State.setRow (s : State) (id i : Nat) (w : EmbRow) : State :=
  s.updReq id (fun r => { r with rows := SMap.set (fun _ => ⟨0, false, []⟩) r.rows i w })

def EmbReq.row (r : EmbReq) (i : Nat) : EmbRow := SMap.get (fun _ => ⟨0, false, []⟩) r.rows i

/-- A row is missing: counted for each time it is listed (R376, R382). -/
def State.missRow (s : State) (r : EmbReq) (i st : Nat) : State :=
  let n := r.times i
  let s1 := if st = rwDead then s.incSat r.easel F.EMB_EAS_MISSING_DEAD n
    else if st = rwLate then s.incSat r.easel F.EMB_EAS_MISSING_DEADLINE n
    else if st = rwBad then s.incSat r.easel F.EMB_EAS_BADIDX_COUNT n else s
  s1.setRow r.id i { r.row i with state := st }

/-- Shard and local row of a global row (R369). -/
def shardOf (t : List Nat) (i : Nat) : Nat × Nat :=
  if tbRange t then (i / max 1 (tbShardRows t), i % max 1 (tbShardRows t)) else (i % max 1 (tbShards t), i / max 1 (tbShards t))

/-- Cut a row's bytes into loads of up to 256 bytes within 256-byte blocks: offset in the row and length (13 R392). -/
def cutLoads (a : Nat) : Nat → Nat → Nat → List (Nat × Nat)
  | 0, _, _ => []
  | n + 1, o, len =>
    if len = 0 then []
    else
      let k := min len (256 - (a + o) % 256)
      (o, k) :: cutLoads a n (o + k) (len - k)

/-- Ask for one distinct row of a request (R369, R375, R376, R378; 13 R387, R404; 18 R523). -/
def State.askRow (s : State) (r : EmbReq) (i : Nat) : State :=
  let t := s.embEntry r.easel (rqTable r.entry)
  let sh := shardOf t i
  let a := tbBase t + sh.2 * tbRowBytes t
  let len := alignUp (rowBytes (tbFmt t) (tbDim t)) 4
  let rank := tbRank0 t + sh.1
  if tbRows t ≤ i then s.missRow r i rwBad
  else match s.jobOf r.easel with
    | none => s.missRow r i rwDead
    | some j =>
      if s.fld 0 (F.YZF_JOB_ID_JOB j) ≠ tbJob t then s.missRow r i rwDead
      else if rank = s.selfRank j ∧ !s.tombstone j then s.setRow r.id i ⟨rwOut, false, []⟩
      else if s.tombstone j then s.missRow r i rwOther
      else if (s.rankEntry j rank).2.2.1 = 1 then (s.yzDead r.easel j rank ukNone 0).missRow r i rwDead
      else
        let s1 := s.setRow r.id i ⟨rwOut, true, List.replicate len 512⟩
        forEach (cutLoads a (len / 4 + 1) 0 len) (fun p (u : State) =>
          u.yzIssue r.easel (.emb r.id i) j rank ⟨1, 0, p.2, 0, (a + p.1) % 2 ^ 46 + 2 ^ 46 * tbRemote t, []⟩ [⟨spNone, 0, p.1, p.2⟩] false) s1

/-- The distinct rows that a request's indices name. -/
def EmbReq.distinct (r : EmbReq) : List Nat := (r.idx.filter (fun w => decide (w < noToken))).foldl (fun l w => if l.contains w then l else l ++ [w]) []

/-- Rows of launched requests on an engine that are outstanding (R373). -/
def State.rowsInFlight (s : State) (p : Nat) : Nat :=
  (s.embLaunched p).foldl (fun n r => n + (r.distinct.filter (fun i => decide ((r.row i).state = rwOut))).length) 0

/-! ### Pooling (R374 to R377) -/

/-- A value divided by a count, rounded to FP32. -/
def fpDivNat (v : Fp) (n : Nat) : Fp :=
  match v with
  | .fin neg man exp =>
    let m := man * 2 ^ 64
    roundFp fmtFp32 neg (2 * (m / n) + (if m % n = 0 then 0 else 1)) (exp - 65)
  | w => w

/-- The larger of two values; a NaN gives NaN (R374). -/
def fpMaxNan (a b : Fp) : Fp := if a.isNan ∨ b.isNan then .nan else if fpLt a b then b else a

/-- The elements of a row as FP32 (R374; 06 R189). -/
def rowVals (t : List Nat) (bs : List Nat) : List Fp :=
  let rd := fun (i : Nat) => nth 0 bs i % 256
  (List.range (tbDim t)).map (fun i => residVal rd 0 (tbFmt t) (tbDim t) i)

/-- Pool the present rows of a bag, in list order: their values and weights (R374). -/
def poolRows (pool : Nat) (dim : Nat) : List (List Fp × Fp) → List Fp
  | [] => List.replicate dim Fp.zero
  | p :: ps =>
    let w := fun (q : List Fp × Fp) => if pool = 4 then q.1.map (fun x => fpMul x q.2) else q.1
    let op := if pool = 3 then fpMaxNan else fpAdd
    let r := ps.foldl (fun acc q => List.zipWith op acc (w q)) (w p)
    if pool = 2 then r.map (fun v => fpDivNat v (ps.length + 1)) else r

/-- The list positions of bag `b` (R370). -/
def EmbReq.bagList (r : EmbReq) (b : Nat) : List Nat :=
  if rqPool r.entry = 0 then [b]
  else
    let lo := nth 0 r.ofs b
    let hi := nth 0 r.ofs (b + 1)
    if marked lo ∨ marked hi then [] else (List.range (hi - lo)).map (lo + ·)

/-- Whether a bag's offsets are poisoned, by its own or an earlier one (R377). -/
def EmbReq.badOfs (r : EmbReq) (b : Nat) : Bool := decide (rqPool r.entry ≠ 0) && (r.ofs.take (b + 2)).any marked

/-- The row index at a list position: none for 0xFFFFFFFF and for a poisoned index (R375, R377). -/
def EmbReq.idxAt (r : EmbReq) (k : Nat) : Option Nat := let w := nth noToken r.idx k; if noToken ≤ w then none else some w

/-- Whether every row of a bag is settled. -/
def EmbReq.bagReady (r : EmbReq) (b : Nat) : Bool :=
  r.badOfs b || (r.bagList b).all (fun k => match r.idxAt k with
    | some i => decide ((r.row i).state ≠ rwOut)
    | none => true)

/-- Write one bag: whether it is poisoned under R377, and the state (R374, R376, R377). -/
def State.writeBag (s : State) (r : EmbReq) (b : Nat) : State :=
  let d := r.entry
  let t := s.embEntry r.easel (rqTable d)
  let ks := r.bagList b
  let here := ks.filterMap (fun k => match r.idxAt k with
    | some i => if (r.row i).state = rwHere then some (rowVals t (r.row i).bytes, decodeElem 0xA (nth 0 r.wgt k % 2 ^ 32)) else none
    | none => none)
  let hot := fun (k : Nat) => marked (nth 0 r.idx k) || (decide (rqPool d = 4) && marked (nth 0 r.wgt k)) || (match r.idxAt k with
    | some i => (r.row i).bytes.any (fun x => decide (256 ≤ x ∧ x < 512)) && decide ((r.row i).state = rwHere)
    | none => false)
  let bad := r.badOfs b || ks.any hot
  let miss := ks.any (fun k => match r.idxAt k with
    | some i => decide (rwDead ≤ (r.row i).state)
    | none => false)
  let bs := floatRow (rqFmtOut d) (poolRows (rqPool d) (tbDim t) here)
  let out := if bad || (miss && rqStrict d) then bs.map (· + 256) else bs
  let s1 := (s.spWrite r.easel ⟨rqSpace d, rqTarget d, rqOut d + b * rqStride d, bs.length⟩ out).st
  s1.updReq r.id (fun q => { q with written := NSet.add b q.written, poisoned := q.poisoned || bad })

/-- A request leaves the park table or enters it (R378; 10 R327, R328). -/
def State.setParked (s : State) (r : EmbReq) (b : Bool) : State :=
  let f := parkFld r.engine
  let e := r.easel
  if r.parked = b then s
  else if b ∧ 1024 ≤ s.fld 0 f then s.incSat 0 F.SCH_PARK_FULL_COUNT 1
  else
    let d := fun (n : Nat) => if b then n + 1 else n - 1
    (((s.updReq r.id (fun q => { q with parked := b })).setFld 0 f (d (s.fld 0 f))).setFld e F.EAS_STATUS_PARKED (d (s.fld e F.EAS_STATUS_PARKED))).showEmb r.engine e

/-- Write every bag that is ready, and park the request while it waits on remote rows only (R374, R378). -/
def State.embProgress (s : State) (id : Nat) : State :=
  match s.embReq id with
  | none => s
  | some r0 =>
    let s1 := forUpto (rqBags r0.entry) (fun b (u : State) =>
      match u.embReq id with
      | some r => if !NSet.has b r.written && r.bagReady b then u.writeBag r b else u
      | none => u) s
    match s1.embReq id with
    | none => s1
    | some r =>
      let out := r.distinct.filter (fun i => decide ((r.row i).state = rwOut))
      s1.setParked r (!out.isEmpty && out.all (fun i => (r.row i).remote))

/-- EMB_LAUNCH (R371, R372, R373, R378): the easel's oldest request on the engine, once its WAIT is taken, its accumulator fits, an issue slot is free and its rows can be
held. -/
def execEmbLaunch (engine : Fin 3) (easel : Fin 64) (s : State) : Res :=
  match s.embNext engine easel with
  | none => .next s
  | some r =>
    let d := r.entry
    let w := rqWait d
    let slots := ((s.embLaunched engine).filter (fun q => !q.parked)).length
    if (w.testBit 11 && !s.takeGranted (.emb r.id)) || decide (2 ^ 24 < s.accUsed engine + s.accBytes r) || decide (4 ≤ slots) || s.brace || s.cqHeld easel then
      .next (s.embTake engine easel)
    else
      let ofs := if rqPool d = 0 then [] else s.embWords easel (rqOfs d) (rqBags d + 1)
      let r1 := { r with
        launched := true, idx := s.embWords easel (rqIdx d) (rqCount d), ofs := ofs
        wgt := if rqPool d = 4 then s.embWords easel (rqWgt d) (rqCount d) else [] }
      let st := if s.embStatus easel d = stOk ∧ rqPool d ≠ 0 ∧ !ofsOk (rqCount d) ofs then stShape else s.embStatus easel d
      if 16384 < s.rowsInFlight engine + r1.distinct.length then .next s
      else if st ≠ stOk then
        let s1 := (s.useTake (.emb r.id)).setReqsEmb (s.emb.reqs.filter (fun q => decide (q.id ≠ r.id)))
        let s2 := s1.postRecord easel 0x18 (embRecord (rqTag d) st (if rqStrict d then 2 else 0) easel engine 0 0 0 0)
        .next ((s2.retire easel r.id ((rqFlags d).testBit 1)).embTake engine easel)
      else
        let s1 := (s.useTake (.emb r.id)).updReq r.id (fun _ => r1)
        let s2 := forEach r1.distinct (fun i (u : State) => match u.embReq r.id with
          | some q => u.askRow q i
          | none => u) s1
        .next (((s2.yzFlush.showEmb engine easel).embTake engine easel).embProgress r.id)

/-- The bytes of a local row as the engine reads them (R369, R373, R377). -/
def State.localRow (s : State) (r : EmbReq) (i : Nat) (ecc : Option EccEvent) : State :=
  let t := s.embEntry r.easel (rqTable r.entry)
  let a := tbBase t + (shardOf t i).2 * tbRowBytes t
  let p := s.spRead .pass r.easel ⟨spBonded, 0, a, rowBytes (tbFmt t) (tbDim t)⟩ [] ecc
  if p.status = stOk ∨ p.status = stPoison then
    let s1 := (p.st.setRow r.id i ⟨rwHere, false, p.bytes⟩).incWrap r.easel F.EMB_EAS_ROWS_LOCAL_COUNT 1
    s1.incWrap 0 (F.EMB_ENG_ROWS_COUNT r.engine) 1
  else (s.refuseShare r.easel a).missRow r i rwOther

/-- EMB_ROW_ARRIVAL: a local row has been read (R373, R374). -/
def execEmbRowArrival (id row : Nat) (ecc : Option EccEvent) (s : State) : Res :=
  match s.embReq id with
  | some r =>
    if r.launched && r.distinct.contains row && decide ((r.row row).state = rwOut) && !(r.row row).remote then
      .next ((s.localRow r row ecc).embProgress id)
    else .next s
  | none => .next s

/-- A fabric load of a row ends with a status and data, poisoned bytes marked (R375, R376, R378; 13 R396, R404). -/
def State.embOpDone (s : State) (o : YzOp) (id row st : Nat) (bs : List Nat) : State :=
  let s1 := s.dropOp o.tag
  let more := s1.yz.ops.any (fun q => decide (q.owner = .emb id row))
  let live := match s.embReq id with
    | some r => r.launched && decide ((r.row row).state = rwOut)
    | none => false
  if !live then (if more then s1 else s1.incSat o.easel F.EMB_EAS_LATE_COUNT 1)
  else match s1.embReq id with
    | none => s1
    | some r =>
      if st = stDead then (s1.missRow r row rwDead).embProgress id
      else if st ≠ stOk ∧ st ≠ stPoison then (s1.missRow r row rwOther).embProgress id
      else
        let w := r.row row
        let off := (o.dest.head?.map (·.addr)).getD 0
        let bytes := w.bytes.take off ++ bs ++ w.bytes.drop (off + bs.length)
        if more then s1.setRow id row { w with bytes := bytes }
        else
          let s2 := (s1.setRow id row ⟨rwHere, true, bytes⟩).incWrap r.easel F.EMB_EAS_ROWS_REMOTE_COUNT 1
          (s2.incWrap 0 (F.EMB_ENG_ROWS_COUNT r.engine) 1).embProgress id

/-- EMB_DEADLINE (R376). -/
def execEmbDeadline (id : Nat) (s : State) : Res :=
  match s.embReq id with
  | some r =>
    if r.launched && !r.expired && decide (rqDeadline r.entry ≠ 0) then
      let s1 := s.updReq id (fun q => { q with expired := true })
      let out := r.distinct.filter (fun i => decide ((r.row i).state = rwOut))
      let s2 := forEach out (fun i (u : State) => match u.embReq id with
        | some q => u.missRow q i rwLate
        | none => u) s1
      .next (s2.embProgress id)
    else .next s
  | none => .next s

/-! ### Completion (R379, R380) -/

/-- Row requests whose row satisfies a test. -/
def EmbReq.count (r : EmbReq) (p : EmbRow → Bool) : Nat :=
  ((List.range r.idx.length).filter (fun k => match r.idxAt k with
    | some i => p (r.row i)
    | none => false)).length

/-- The status of a request whose bags are written (R380). -/
def EmbReq.status (r : EmbReq) : Nat :=
  if r.poisoned then stPoison
  else if r.count (fun w => decide (w.state = rwDead)) ≠ 0 then stDead
  else if r.count (fun w => decide (rwLate ≤ w.state)) ≠ 0 then stPartial else stOk

/-- The record of a request (R380). -/
def EmbReq.record (r : EmbReq) (st cycles : Nat) : List Nat :=
  embRecord (rqTag r.entry) st ((if r.expired then 1 else 0) + (if rqStrict r.entry then 2 else 0)) r.easel r.engine
    (r.count (fun w => decide (rwDead ≤ w.state))) (r.count (fun w => w.remote && decide (w.state = rwHere)))
    (r.distinct.filter (fun i => decide ((r.row i).state = rwHere))).length cycles

/-- A request leaves its engine. -/
def State.embDrop (s : State) (r : EmbReq) : State :=
  let s1 := s.setParked r false
  (s1.setReqsEmb (s1.emb.reqs.filter (fun q => decide (q.id ≠ r.id)))).showEmb r.engine r.easel

/-- EMB_COMPLETE (R380): once every bag is written. -/
def execEmbComplete (id cycles : Nat) (s : State) : Res :=
  match s.embReq id with
  | some r =>
    if r.launched && (List.range (rqBags r.entry)).all (fun b => NSet.has b r.written) then
      let s1 := s.embDrop r
      let s2 := if (rqSignal r.entry).testBit 11 then s1.sendSignal (linkSem (rqSignal r.entry)) else s1
      .next ((s2.postRecord r.easel 0x18 (r.record r.status cycles)).retire r.easel id ((rqFlags r.entry).testBit 1))
    else .next s
  | none => .next s

/-- End the requests of an engine's panel reset with CORE_RESET (R379). -/
def State.embPanelReset (s : State) (p : Nat) : State :=
  forEach (s.emb.reqs.filter (fun r => decide (r.engine = p))) (fun r (u : State) =>
    (((u.embDrop r).dropTakes (.emb r.id)).postRecord r.easel 0x18 (r.record stCoreReset 0)).retire r.easel r.id ((rqFlags r.entry).testBit 1)) s

/-- End the requests of an easel in reset, without records: its completion ring is in reset too (R379; 18 R520). -/
def State.embEaselReset (s : State) (e : Nat) : State :=
  let s1 := forEach (s.emb.reqs.filter (fun r => decide (r.easel = e))) (fun r (u : State) => (u.embDrop r).dropTakes (.emb r.id)) s
  { s1 with emb := { s1.emb with dir := SMap.set (fun _ => []) s1.emb.dir e [] } }

end Sys2Proof.Machine
end

