-- ==== Sys2Proof/Machine/Yaroz.lean ====
section
/-! DEFINITION. Machine/Yaroz.lean: what arrives on the Yaroz fabric and what its timers do (13): frames, requests at their target, responses, acknowledgements,
credits, paths, fences, dead targets, multicast and tombstones. -/
namespace Sys2Proof.Machine

open Sys2Proof

/-! ### Control packets and credits (R398 to R400) -/

/-- Whether a number of some bits lies ahead of another, by less than half the range. -/
def seqAhead (bits a b : Nat) : Bool := let d := (a + 2 ^ bits - b % 2 ^ bits) % 2 ^ bits; decide (0 < d ∧ d < 2 ^ (bits - 1))

/-- The paths an ACK, NAK or CREDIT may take: they pass through no leaf (R401; 15 R448). -/
def State.ctlPaths (s : State) (slot rank : Nat) : List Nat :=
  (bitsOf 24 (s.rankEntry slot rank).2.2.2).filter (fun p => s.pathUp p && !NSet.has p (s.yzConn slot rank).withdrawn)

/-- Send an ACK (3), NAK (4) or CREDIT (5). -/
def State.yzControl (s : State) (slot rank type credit : Nat) : State :=
  match (s.ctlPaths slot rank).head? with
  | none => s
  | some path => s.yzEmit path 64 { s.yzHeader slot rank type 0 [] with credit := credit }

/-- Packets that may be on their way or lie in the ingress buffer for a connection: its share of 16 MiB in packets of the MTU, never below one (R400). -/
def State.ingressShare (s : State) : Nat :=
  let active := (s.yz.ingress.foldl (fun l x => if l.contains (x.slot, x.rank) then l else l ++ [(x.slot, x.rank)]) []).length
  max 1 (2 ^ 24 / max 1 active / s.yzMtu)

/-- Packets of a connection in the ingress buffer. -/
def State.buffered (s : State) (slot rank : Nat) : Nat :=
  ((s.yz.ingress.filter (fun x => decide (x.slot = slot ∧ x.rank = rank))).foldl (fun l x => if l.contains x.psn then l else x.psn :: l) []).length

/-- Grant a connection what its share still allows (R400). -/
def State.yzGrant (s : State) (slot rank : Nat) : State :=
  let c := s.yzConn slot rank
  let n := s.ingressShare - (Config.firstCredit + c.given - c.got + s.buffered slot rank)
  if n = 0 then s else (s.setConn slot rank { c with given := c.given + n }).yzControl slot rank 5 n

/-- Acknowledge cumulatively: packets up to a number leave the connection, and their paths' timeouts start again (R398, R401, R408). -/
def State.yzAcked (s : State) (slot rank ack : Nat) : State :=
  let c := s.yzConn slot rank
  let gone := c.unacked.filter (fun x => !seqAhead 24 x.psn ack)
  if gone.isEmpty then s
  else
    let tmo := gone.foldl (fun m x => match x.path with
      | some p => SMap.set (fun _ => 0) m p 0
      | none => m) c.tmo
    let s1 := s.setConn slot rank { c with unacked := c.unacked.filter (fun x => seqAhead 24 x.psn ack), tmo := tmo }
    if gone.any (fun x => x.stream.isSome) then s1.yzKickAll else s1.yzKick slot rank

/-! ### A frame arrives (R384, R385, R399, R415; 18 R523) -/

/-- The unit a Yaroz fault record names: a link or a port. -/
def yzUnit (path : Nat) : Nat × Nat := if path < 16 then (ukYzfLink, path) else (ukPort, path - 16)

/-- A frame that fails R385: counted and reported. -/
def State.dropIcrc (s : State) (path : Nat) (injected : Bool) : State :=
  (s.incSat 0 F.YZF_ICRC_COUNT 1).detect 175 atelier (yzUnit path).1 (yzUnit path).2 0 0 sevContained injected

/-- A frame that fails R415 or R523: counted and reported. -/
def State.dropSpoof (s : State) (path slot rank : Nat) (injected : Bool) : State :=
  (s.incSat 0 F.YZF_DROP_SPOOF 1).detect 176 atelier (yzUnit path).1 (yzUnit path).2 (rank + 65536 * slot) 0 sevContained injected

/-- The sender of a frame with a bad FCS on a DIRECT link is told the latest number received in order (R399). -/
def State.sendLack (s : State) (path : Nat) : State :=
  let p : YzPkt := ⟨3, 2, 0, 0, 0, 0, 0, 0, none, SMap.get (fun _ => 0) s.yz.lseq path, SMap.get (fun _ => 0) s.yz.lrx path, 0, []⟩
  (s.emit (.yaroz path p)).countUnits 0 (F.YZF_LINK_TX_UNITS path) 65536 (s.yzFrameLen p)

/-- The link numbers of a frame on a DIRECT link (R399). -/
def State.noteLink (s : State) (path : Nat) (p : YzPkt) : State :=
  if path < 16 ∧ s.fld 0 (F.YZF_LINK_STATUS_MODE path) = 1 ∧ 2 ≤ p.flags then
    let rx := SMap.get (fun _ => 0) s.yz.lrx path
    let keep : List YzPkt := (SMap.get (fun _ => []) s.yz.replay path).filter (fun q => seqAhead 16 q.lseq p.lack)
    { s with yz := { s.yz with
      lrx := if p.lseq = (rx + 1) % 65536 then SMap.set (fun _ => 0) s.yz.lrx path p.lseq else s.yz.lrx
      replay := SMap.set (fun _ => []) s.yz.replay path keep } }
  else s

/-- Whether frames with ETYPE are taken on a path. -/
def State.yzPort (s : State) (path : Nat) : Bool :=
  if path < 16 then decide (s.fld 0 (F.YZF_LINK_STATUS_MODE path) ≠ 0) else (s.fld 0 F.YZF_CFG_ETH_PATHS).testBit (path - 16)

/-- The fabric MAC as a number, byte 0 lowest. -/
def State.fabMac (s : State) : Nat := s.fld 0 F.YZF_MAC_LO_MAC + 2 ^ 32 * s.fld 0 F.YZF_MAC_HI_MAC

/-- Check a frame: the job slot it belongs to when it is accepted. -/
def State.yzAccept (s0 : State) (path : Nat) (f : YzFrame) : Option Nat × State :=
  if !s0.yzPort path then (none, s0)
  else
    let s := if path < 16 then s0.countUnits 0 (F.YZF_LINK_RX_UNITS path) 65536 (s0.yzFrameLen f.pkt) else s0
    let (crc, s1) := if path < 16 then s.inject (149 + path) atelier else (none, s)
    if crc.isSome || !f.fcs then
      let s2 := if crc.isSome then s1.detect (149 + path) atelier ukYzfLink path 0 0 sevCorrected true else s1
      (none, if path < 16 ∧ s.fld 0 (F.YZF_LINK_STATUS_MODE path) = 1 then s2.sendLack path else s2)
    else
      let (bad, s2) := (s1.noteLink path f.pkt).inject 175 atelier
      if bad.isSome || !f.icrc || decide (f.dmac ≠ s.fabMac) then (none, s2.dropIcrc path bad.isSome)
      else match s.slotOf f.pkt.job with
        | none => (none, s2.incSat 0 F.YZF_DROP_JOB 1)
        | some j =>
          let (spoof, s3) := s2.inject 176 atelier
          let e := s.rankEntry j f.pkt.src
          if spoof.isSome || decide (f.smac ≠ e.1) || (decide (f.pkt.type = 1) && decide (f.pkt.src = s.selfRank j ∨ e.2.2.1 = 1)) then
            (none, s3.dropSpoof path j f.pkt.src spoof.isSome)
          else (some j, s3)

/-! ### Requests at their target (R396 to R398, R406, R410, R411, R414) -/

/-- Answer an operation. -/
def State.yzAnswer (s : State) (slot rank : Nat) (r : YzRec) (status flags info : Nat) (data : List Nat) : State :=
  s.yzQueue slot rank 2 (r.addr / 2 ^ 46 % 64) none [⟨status, flags, data.length, r.tag, info, data⟩]

/-- Take the operations of a request in order: a tombstone, another epoch and a newer generation are answered at once (R410, R411, R414); the rest enter the
ingress buffer. -/
def State.takeReq (s : State) (slot rank : Nat) (p : YzPkt) : State :=
  let own := (s.rankEntry slot (s.selfRank slot)).2.1
  let epoch := s.fld 0 (F.YZF_JOB_EPOCH_EPOCH slot)
  let all := fun (st info : Nat) (u : State) => forEach p.recs (fun r (t : State) => t.yzAnswer slot rank r st 0 info []) u
  if s.tombstone slot then
    let s1 := { s with yz := { s.yz with tombLast := SMap.set (fun _ => 0) s.yz.tombLast slot s.nowNs } }
    all yzMoved own (s1.incSat 0 (F.YZF_JOB_MIG_LATE slot) p.recs.length)
  else if p.epoch ≠ epoch % 65536 then all yzEpoch epoch s
  else if genNewer p.gen own then all yzAhead 0 s
  else { s with yz := { s.yz with ingress := s.yz.ingress ++ p.recs.map (fun r => ⟨slot, rank, p.psn, r⟩) } }

/-! ### Responses at the requester (R396, R404, R411, R414) -/

/-- Bytes that an operation returns. -/
def YzOp.returns (o : YzOp) : Nat := o.dest.foldl (fun n p => n + p.len) 0

/-- The channel or engine that issued an operation learns how it ended. -/
def State.ownerDone (s : State) (o : YzOp) (st : Nat) (bs : List Nat) : State :=
  match o.owner with
  | .chan n d => s.chanOpDone o n d st bs
  | .emb id row => s.embOpDone o id row st bs

/-- An operation ends with DEAD_TARGET (R404). -/
def State.opDead (s : State) (o : YzOp) (injected : Bool) : State :=
  let u := match o.owner with
    | .chan n _ => (ukChannel, n)
    | .emb _ _ => (ukNone, 0)
  (s.yzDead o.easel o.slot o.rank u.1 u.2 injected).ownerDone o stDead (deadBytes o.returns)

/-- Set what an operation waits for. -/
def State.holdOp (s : State) (tag : Nat) (h : YzHold) : State :=
  { s with yz := { s.yz with ops := s.yz.ops.map (fun o => if o.tag = tag then { o with hold := h } else o) } }

/-- Issue an operation again through the rank table in force: the device's own rank serves it here, to a rank that is dead now it ends at once (R388, R396, R404, R411). -/
def State.reissue (s : State) (o : YzOp) : State :=
  if o.rank = s.selfRank o.slot then
    let a := s.yzServe o.slot o.op none
    if a.status = yzRetry then a.st else a.st.ownerDone o (ofYz a.status) a.data
  else if (s.rankEntry o.slot o.rank).2.2.1 = 1 then s.opDead o false
  else ({ s with yz := { s.yz with ops := s.yz.ops.map (fun (q : YzOp) => if q.tag = o.tag then { q with hold := YzHold.flight, sent := false } else q) } }).yzFlush

/-- Whether a held operation may go again because of the rank table or the epoch in force (R411, R414). -/
def State.mayReissue (s : State) (o : YzOp) : Bool :=
  match o.hold with
  | .moved g => let own := (s.rankEntry o.slot o.rank).2.1; decide (own = g) || genNewer own g
  | .epochLow ep => decide (ep ≤ s.fld 0 (F.YZF_JOB_EPOCH_EPOCH o.slot))
  | _ => false

/-- Held operations that a new rank table or epoch lets go (R411, R414). -/
def State.reissueHeld (s : State) : State :=
  forEach (s.yz.ops.filter s.mayReissue) (fun o (t : State) => t.reissue o) s

/-- Hold an operation whose target answered MOVED, RETRY_AFTER, GEN_AHEAD or EPOCH: its dead timer starts again (R404). -/
def State.yzHeld (s : State) (o : YzOp) (r : YzRec) : State :=
  let e := o.easel
  if r.opc = yzMoved then
    let s1 := (s.incSat e F.YZF_EAS_RETRY_MOVED 1).holdOp o.tag (.moved (r.addr % 256))
    match s1.yz.ops.find? (fun q => decide (q.tag = o.tag)) with
    | some q => if s1.mayReissue q then s1.reissue q else s1
    | none => s1
  else
    let own := s.fld 0 (F.YZF_JOB_EPOCH_EPOCH o.slot)
    let target := r.addr % 2 ^ 32
    let h : YzHold := if r.opc = yzRetry then .retry else if r.opc = yzAhead then .ahead else if own < target then .epochLow target else .epochHigh
    (s.incSat e F.YZF_EAS_RETRY_OTHER 1).holdOp o.tag h

/-- One record of a response (R396); a late one is discarded (R404). -/
def State.takeResp (s : State) (slot rank : Nat) (r : YzRec) : State :=
  match s.yz.ops.find? (fun o => decide (o.tag = r.tag ∧ o.slot = slot ∧ o.rank = rank) && o.sent) with
  | none => s
  | some o =>
    let (what, s1) := s.inject 147 o.easel
    if what.isSome then s1.opDead o true
    else if r.opc = yzMoved ∨ r.opc = yzRetry ∨ r.opc = yzAhead ∨ r.opc = yzEpoch then s1.yzHeld o r
    else
      let data := r.payload.take r.len
      let bad := decide (r.opc = yzPoison) || r.flags.testBit 1
      s1.ownerDone o (if bad then stPoison else ofYz r.opc) (if bad then data.map (· + 256) else data)

/-! ### The order of a connection (R398) -/

/-- A packet of a connection in its turn. -/
def State.takePkt (s : State) (slot rank : Nat) (p : YzPkt) : State :=
  let c := s.yzConn slot rank
  let s1 := s.setConn slot rank { c with rxPsn := (c.rxPsn + 1) % 2 ^ 24, got := c.got + (if p.type = 1 then 1 else 0) }
  if p.type = 1 then s1.takeReq slot rank p else forEach p.recs (fun r (t : State) => t.takeResp slot rank r) s1

/-- Packets that were held ahead of a gap follow in their turn. -/
def State.takeAhead (s : State) (slot rank : Nat) : Nat → State
  | 0 => s
  | n + 1 =>
    let c := s.yzConn slot rank
    match c.ahead.find? (fun p => decide (p.psn = c.rxPsn)) with
    | none => s
    | some p => ((s.setConn slot rank { c with ahead := c.ahead.filter (fun q => decide (q.psn ≠ p.psn)) }).takePkt slot rank p).takeAhead slot rank n

/-- A numbered packet arrives: in its turn, ahead of a gap, or once more (R398, R399). -/
def State.yzNumbered (s : State) (slot rank : Nat) (p : YzPkt) : State :=
  let c := s.yzConn slot rank
  if p.psn = c.rxPsn then
    let s1 := (s.takePkt slot rank p).takeAhead slot rank 64
    let s2 := s1.yzControl slot rank 3 0
    if p.type = 1 then s2.yzGrant slot rank else s2
  else if seqAhead 24 p.psn c.rxPsn then
    let s1 := if c.ahead.length < 64 ∧ c.ahead.all (fun q => decide (q.psn ≠ p.psn)) then s.setConn slot rank { c with ahead := c.ahead ++ [p] } else s
    s1.yzControl slot rank 4 0
  else s.yzControl slot rank 3 0

/-- A packet of type `type` arrives: what it acknowledges and grants comes first. -/
def State.yzInbound (s : State) (path type : Nat) (f : YzFrame) (act : Nat → State → State) : State :=
  if f.pkt.type ≠ type then s
  else
    match s.yzAccept path f with
    | (none, s1) => s1
    | (some j, s1) =>
      let s2 := match f.pkt.ack with
        | some a => s1.yzAcked j f.pkt.src a
        | none => s1
      let c := s2.yzConn j f.pkt.src
      act j ((s2.setConn j f.pkt.src { c with granted := c.granted + f.pkt.credit }).yzKick j f.pkt.src)

/-- YAROZ_REQ (R398, R415). -/
def execYarozReq (path : Fin 24) (frame : YzFrame) (s : State) : Res :=
  .next (s.yzInbound path 1 frame (fun j t => t.yzNumbered j frame.pkt.src frame.pkt))

/-- YAROZ_RESP (R396, R398). -/
def execYarozResp (path : Fin 24) (frame : YzFrame) (s : State) : Res :=
  .next (s.yzInbound path 2 frame (fun j t => t.yzNumbered j frame.pkt.src frame.pkt))

/-- YAROZ_ACK (R398). -/
def execYarozAck (path : Fin 24) (frame : YzFrame) (s : State) : Res := .next (s.yzInbound path 3 frame (fun _ t => t))

/-- YAROZ_NAK (R384, R399): the packet after the acknowledged ones is sent again at once. -/
def execYarozNak (path : Fin 24) (frame : YzFrame) (s : State) : Res :=
  .next (s.yzInbound path 4 frame (fun j t => match frame.pkt.ack with
    | some a => (match (t.yzConn j frame.pkt.src).unacked.find? (fun x => decide (x.psn = (a + 1) % 2 ^ 24)) with
      | some x => t.yzPut j frame.pkt.src x
      | none => t)
    | none => t))

/-- YAROZ_CREDIT (R400). -/
def execYarozCredit (path : Fin 24) (frame : YzFrame) (s : State) : Res := .next (s.yzInbound path 5 frame (fun _ t => t))

/-! ### Operations from the ingress buffer (R394 to R397, R406) -/

/-- The 64-byte granules of an operation. -/
def opGranules (r : YzRec) : Nat × Nat := (r.addr / 64 * 64, alignUp (r.addr % 64 + max 1 r.len) 64)

/-- Whether two operations touch one granule. -/
def sameGranule (a b : YzRec) : Bool := overlaps (opGranules a).1 (opGranules a).2 (opGranules b).1 (opGranules b).2

/-- Show the home queue's depth and peak (R417). -/
def State.showHome (s : State) : State :=
  let s1 := s.setFld 0 F.YZF_HOMEQ_DEPTH s.yz.home.length
  s1.setFld 0 F.YZF_HOMEQ_PEAK (max (s1.fld 0 F.YZF_HOMEQ_PEAK) s.yz.home.length)

/-- Perform an operation and answer it; a placement that has become a tombstone since executes nothing (R410). -/
def State.performOp (s : State) (x : YzIn) (ecc : Option EccEvent) : State :=
  if s.tombstone x.slot then
    (s.incSat 0 (F.YZF_JOB_MIG_LATE x.slot) 1).yzAnswer x.slot x.rank x.op yzMoved 0 (s.rankEntry x.slot (s.selfRank x.slot)).2.1 []
  else
  let a := s.yzServe x.slot x.op ecc
  a.st.yzAnswer x.slot x.rank x.op a.status a.flags a.info a.data

/-- Serve a connection's next operation when it is of an opcode: its granule may be busy, and the home queue full (R406). -/
def State.serveNext (s : State) (slot rank opc : Nat) (busy : Bool) (ecc : Option EccEvent) : State :=
  match s.yz.ingress.find? (fun x => decide (x.slot = slot ∧ x.rank = rank)) with
  | none => s
  | some x =>
    if x.op.opc ≠ opc then s
    else
      let s1 := { s with yz := { s.yz with ingress := s.yz.ingress.erase x } }
      let waits := decide (opc ≠ 4) && (busy || s.yz.home.any (fun h => sameGranule h.op x.op))
      let s2 :=
        if waits then
          (if s.yz.home.length < 4096 then ({ s1 with yz := { s1.yz with home := s1.yz.home ++ [x] } }).showHome
          else (s1.incSat 0 F.YZF_REFUSED_COUNT 1).yzAnswer slot rank x.op yzRetry 0 (max 1000 ((2 * s.yz.home.length * 20 + 20) / 21)) [])
        else s1.performOp x ecc
      s2.yzGrant slot rank

/-- YZF_LOAD (R394). -/
def execYzfLoad (slot : Fin 16) (rank : Fin 4096) (busy : Bool) (ecc : Option EccEvent) (s : State) : Res := .next (s.serveNext slot rank 1 busy ecc)

/-- YZF_STORE (R394). -/
def execYzfStore (slot : Fin 16) (rank : Fin 4096) (busy : Bool) (s : State) : Res := .next (s.serveNext slot rank 2 busy none)

/-- YZF_ATOMIC (R395). -/
def execYzfAtomic (slot : Fin 16) (rank : Fin 4096) (busy : Bool) (ecc : Option EccEvent) (s : State) : Res := .next (s.serveNext slot rank 3 busy ecc)

/-- YZF_PROBE (R397). -/
def execYzfProbe (slot : Fin 16) (rank : Fin 4096) (s : State) : Res := .next (s.serveNext slot rank 4 false none)

/-- Whether a queued atomic is combined with the one at the head of its granule: same operation other than CAS, width and word (R406). -/
def combines (a b : YzRec) : Bool :=
  decide (a.opc = 3 ∧ b.opc = 3 ∧ a.flags % 32 = b.flags % 32 ∧ a.flags % 16 ≠ 6 ∧ a.addr = b.addr)

/-- HOME_QUEUE_SERVE (R406): the operation at a place in the queue executes when none before it touches its granule; atomics that combine with it execute with it,
in arrival order. -/
def execHomeQueueServe (pos : Nat) (ecc : Option EccEvent) (s : State) : Res :=
  match s.yz.home[pos]? with
  | none => .next s
  | some x =>
    if (s.yz.home.take pos).any (fun h => sameGranule h.op x.op) then .next s
    else
      let rest := s.yz.home.eraseIdx pos
      let more := rest.filter (fun h => combines x.op h.op)
      let s1 := ({ s with yz := { s.yz with home := rest.filter (fun h => !combines x.op h.op) } }).showHome
      .next (forEach more (fun h (t : State) => t.performOp h none) ((s1.incWrap 0 F.YZF_COMBINED_COUNT more.length).performOp x ecc))

/-! ### Timers and paths (R399, R401, R403, R404) -/

/-- Packets on a path of a connection go to another one (R401). -/
def State.moveOff (s : State) (slot rank path : Nat) : State :=
  forEach ((s.yzConn slot rank).unacked.filter (fun x => decide (x.path = some path))) (fun x (t : State) => t.yzPut slot rank x) s

/-- RETRANSMIT_TIMEOUT (R399, R401, R404): the third timeout in a row on a path withdraws it for the destination; a request all of whose operations have ended is not
sent again. -/
def execRetransmitTimeout (slot : Fin 16) (rank : Fin 4096) (psn : BitVec 24) (s : State) : Res :=
  let c := s.yzConn slot rank
  match c.unacked.find? (fun x => decide (x.psn = psn.toNat)) with
  | none => .next s
  | some x =>
    if x.pkt.type = 1 ∧ x.pkt.recs.all (fun r => s.yz.ops.all (fun o => decide (o.tag ≠ r.tag))) then
      .next (s.setConn slot rank { c with unacked := c.unacked.filter (fun y => decide (y.psn ≠ psn.toNat)) })
    else
      let y := { x with tries := x.tries + 1 }
      let un := c.unacked.map (fun z => if z.psn = psn.toNat then y else z)
      match x.path with
      | none => .next ((s.setConn slot rank { c with unacked := un }).yzPut slot rank y)
      | some p =>
        let n := SMap.get (fun _ => 0) c.tmo p + 1
        let s1 := s.setConn slot rank { c with
          unacked := un, tmo := SMap.set (fun _ => 0) c.tmo p n, withdrawn := if 3 ≤ n then NSet.add p c.withdrawn else c.withdrawn }
        .next (if 3 ≤ n then s1.moveOff slot rank p else s1.yzPut slot rank y)

/-- LINK_REPLAY (R399): the frames after LACK go again from the replay buffer. -/
def execLinkReplay (link : Fin 16) (lack : BitVec 16) (s : State) : Res :=
  if s.fld 0 (F.YZF_LINK_STATUS_MODE link) = 1 then
    let fs : List YzPkt := ((SMap.get (fun _ => []) s.yz.replay link).filter (fun q => seqAhead 16 q.lseq lack.toNat)).reverse
    let s1 := forEach fs (fun q (t : State) => (t.emit (.yaroz link q)).countUnits 0 (F.YZF_LINK_TX_UNITS link) 65536 (t.yzFrameLen q)) s
    .next ((s1.incSat 0 (F.YZF_LINK_REPLAY_COUNT link) 1).detect (149 + link) atelier ukYzfLink link 0 0 sevCorrected false)
  else .next s

/-- PATH_PROBE (R401). -/
def execPathProbe (slot : Fin 16) (rank : Fin 4096) (path : Fin 24) (acked : Bool) (s : State) : Res :=
  let c := s.yzConn slot rank
  if NSet.has path c.withdrawn && acked then
    .next ((s.setConn slot rank { c with withdrawn := NSet.remove path c.withdrawn, tmo := SMap.set (fun _ => 0) c.tmo path 0 }).yzKick slot rank)
  else .next s

/-- YAROZ_LINK_DOWN (R401, R417). -/
def execYarozLinkDown (link : Fin 16) (s : State) : Res :=
  let s1 := (s.setFlag 0 (F.YZF_LINK_STATUS_UP link) false).setFld 0 (F.YZF_LINK_STATUS_LANES_UP link) 0
  .next ((s1.clrFld 0 F.YZF_STATUS_LINK_UP (2 ^ link.val)).yzReroute link)

/-- YAROZ_LINK_UP (R401, R417): LANES_UP counts the lanes in service. -/
def execYarozLinkUp (link : Fin 16) (lanes : Fin 5) (s : State) : Res :=
  if lanes.val ≠ 0 ∧ s.fld 0 (F.YZF_LINK_STATUS_MODE link) ≠ 0 then
    let s1 := (s.setFlag 0 (F.YZF_LINK_STATUS_UP link) true).setFld 0 (F.YZF_LINK_STATUS_LANES_UP link) lanes
    .next ((s1.orFld 0 F.YZF_STATUS_LINK_UP (2 ^ link.val)).yzKickAll)
  else .next s

/-- FENCE_TIMEOUT (R403): the channel waits at FENCE or SSIG, or its oldest ended descriptor waits to signal. -/
def execFenceTimeout (ch : Fin 2048) (s : State) : Res :=
  let waits := s.remoteWait ch || ((s.chan ch).exec.isNone && (match (s.chan ch).drain with
    | d :: _ => (signalWord d.desc).testBit 11 && !(s.descOps ch d.index).isEmpty
    | [] => false))
  .next (if waits then s.fenceTimeout ch false else s)

/-- An outstanding operation by its tag. -/
def State.opOf (s : State) (tag : Nat) : Option YzOp := s.yz.ops.find? (fun o => decide (o.tag = tag))

/-- DEAD_TIMER_EXPIRY (R404). -/
def execDeadTimerExpiry (tag : BitVec 32) (s : State) : Res :=
  match s.opOf tag.toNat with
  | some o => .next (s.opDead o false)
  | none => .next s

/-- RETRY_AFTER_REISSUE (R396). -/
def execRetryAfterReissue (tag : BitVec 32) (s : State) : Res :=
  match s.opOf tag.toNat with
  | some o => .next (if o.hold = .retry then s.reissue o else s)
  | none => .next s

/-- GEN_AHEAD_REISSUE (R396, R411). -/
def execGenAheadReissue (tag : BitVec 32) (s : State) : Res :=
  match s.opOf tag.toNat with
  | some o => .next (if o.hold = .ahead then s.reissue o else s)
  | none => .next s

/-- EPOCH_REISSUE (R414): at once when this device has reached the target's epoch, after 10 µs when it has the higher one. -/
def execEpochReissue (tag : BitVec 32) (s : State) : Res :=
  match s.opOf tag.toNat with
  | some o => .next (match o.hold with
    | .epochHigh => s.reissue o
    | .epochLow _ => if s.mayReissue o then s.reissue o else s
    | _ => s)
  | none => .next s

/-! ### Multicast (R407 to R409) -/

/-- A group of a multicast table. -/
def mcastGroup (bs : List Nat) (g : Nat) : List Nat := (List.range (fieldLe bs (512 * g) 2)).map (fun i => fieldLe bs (512 * g + 2 + 2 * i) 2)

/-- MCAST_LOAD (R407, R416): a failed check leaves no group loaded. -/
def execMcastLoad (req : Requester) (s : State) : Res :=
  s.access req F.YZF_EAS_MCAST_CTRL_LOAD.off (fun easel =>
    if !isVf req easel then .next s
    else
      let a := 65536 * s.fld easel F.YZF_EAS_MCAST_UNIT
      let bs := s.readBytes (bondKey easel a) 32768
      let gs := (List.range 64).map (mcastGroup bs)
      let n := match s.jobOf easel with
        | some j => s.fld 0 (F.YZF_JOB_RANKS_COUNT j)
        | none => 0
      let ok := s.inShare easel a 32768 && !s.poisoned (bondKey easel a) 32768 && (List.range 64).all (fun g => decide (fieldLe bs (512 * g) 2 ≤ 255)) &&
        gs.all (fun g => g.all (fun r => decide (r < n)) && decide g.Nodup)
      let s1 := { s with yz := { s.yz with mcast := SMap.set (fun _ => []) s.yz.mcast easel (if ok then gs else []) } }
      .next ((s1.setFlag easel F.YZF_EAS_STATUS_MCAST ok).setFlag easel F.YZF_EAS_STATUS_CFG_ERR (!ok)))

/-- Drop a receiver from a stream (R409): packets not yet sent go; those sent stay with the connection, whose order they belong to, and answer no one. Model's choice: notes/assumptions/126.md. -/
def State.dropReceiver (s : State) (slot rank : Nat) (k : Nat × Nat) : State :=
  let c := s.yzConn slot rank
  let s1 := s.setConn slot rank { c with
    waiting := c.waiting.filter (fun x => decide (x.stream ≠ some k)), unacked := c.unacked.map (fun x => if x.stream = some k then { x with stream := none } else x) }
  { s1 with yz := { s1.yz with
    ops := s1.yz.ops.filter (fun o => !(o.mcast && decide (o.owner = .chan k.1 k.2 ∧ o.slot = slot ∧ o.rank = rank)))
    pruned := s1.yz.pruned ++ [(k.1, k.2, rank)] } }

/-- MCAST_PRUNE (R409): the window is full, this receiver has not acknowledged the oldest packet, and some receiver still in the stream has. -/
def execMcastPrune (ch : Fin 2048) (rank : Fin 4096) (s : State) : Res :=
  let e := s.chEasel ch
  match s.jobOf e with
  | none => .next s
  | some j =>
    let c := s.yzConn j rank
    match (c.unacked ++ c.waiting).findSome? (fun x => match x.stream with
      | some k => if k.1 = ch.val then some k else none
      | none => none) with
    | none => .next s
    | some k =>
      let span := s.streamSpan k
      let desc := (((s.chan ch).exec.filter (fun x => decide (x.index = k.2))).map (·.desc)).getD
        ((((s.chan ch).drain.find? (fun d => decide (d.index = k.2))).map (·.desc)).getD [])
      let group := (nth [] (SMap.get (fun _ => []) s.yz.mcast e) (fieldLe desc 0x10 4 % 64)).filter (fun r =>
        decide (r ≠ rank.val ∧ r ≠ s.selfRank j ∧ (s.rankEntry j r).2.2.1 = 0) && !s.yz.pruned.contains (k.1, k.2, r))
      if 64 ≤ span ∧ c.ofStream k = span ∧ group.any (fun r => decide ((s.yzConn j r).ofStream k < span)) then
        let s1 := ((s.dropReceiver j rank k).incSat e F.YZF_EAS_MISSED_COUNT 1).setFld e F.YZF_EAS_MISSED_LAST_RANK rank
        .next ((s1.noteStatus k.1 k.2 stMissed).yzKickAll)
      else .next s

/-! ### Tombstones (R410, R412) -/

/-- Whether a MOVED of a job waits for its acknowledgement. -/
def State.movedOpen (s : State) (slot : Nat) : Bool :=
  s.yz.conns.any (fun p => decide (p.1 / 4096 = slot) && (p.2.unacked ++ p.2.waiting).any (fun x =>
    decide (x.pkt.type = 2) && x.pkt.recs.any (fun r => decide (r.opc = yzMoved))))

/-- A tombstone's time so far in ns. -/
def State.tombAge (s : State) (slot : Nat) : Nat := s.nowNs - SMap.get (fun _ => 0) s.yz.tombAt slot

/-- Complete a migration (R412): the time is shown in whole µs, rounded up from the half. -/
def State.tombDone (s : State) (slot st : Nat) : State :=
  (s.setFld 0 (F.YZF_JOB_MIG_STATE slot) st).setFld 0 (F.YZF_JOB_MIG_US_US slot) ((s.tombAge slot + 500) / 1000)

/-- TOMBSTONE_DRAINED (R412). -/
def execTombstoneDrained (slot : Fin 16) (s : State) : Res :=
  let last := max (SMap.get (fun _ => 0) s.yz.tombAt slot) (SMap.get (fun _ => 0) s.yz.tombLast slot)
  .next (if s.fld 0 (F.YZF_JOB_MIG_STATE slot) = 1 ∧ !s.movedOpen slot ∧ last + 100000 ≤ s.nowNs then s.tombDone slot 2 else s)

/-- TOMBSTONE_EXPIRED (R412). -/
def execTombstoneExpired (slot : Fin 16) (s : State) : Res :=
  .next (if s.fld 0 (F.YZF_JOB_MIG_STATE slot) = 1 ∧ 2000000 ≤ s.tombAge slot then s.tombDone slot 3 else s)

end Sys2Proof.Machine
end

