-- ==== Sys2Proof/Machine/TenBase.lean ====
section
/-! DEFINITION. Machine/TenBase.lean: the life of an easel (18): how its work ends as it is held in reset (R513, R520), and how it is cleared (R521). -/
namespace Sys2Proof.Machine

open Sys2Proof

/-! ### States (R512) and verdicts (R514) -/

def lifeAbsent : Nat := 0
def lifeHeld : Nat := 1
def lifeClearing : Nat := 2
def lifeReady : Nat := 3
def lifeFreezing : Nat := 4
def lifeFrozen : Nat := 5
def lifeSaving : Nat := 6
def lifeRestoring : Nat := 7
def lifeStuck : Nat := 8

def State.life (s : State) (e : Nat) : Nat := s.fld e F.EAS_LIFE_STATE
def State.setLife (s : State) (e st : Nat) : State := s.setFld e F.EAS_LIFE_STATE st

/-- The sources of easel reset, as bits of EAS_LIFE.HOLD (R513, R525). -/
def holdVf : Nat := 1
def holdHost : Nat := 2
def holdFlr : Nat := 4
def holdReset : Nat := 8

def opFreeze : Nat := 1
def opThaw : Nat := 2
def opSave : Nat := 3
def opRestore : Nat := 4
def opReset : Nat := 5

def lvProgress : Nat := 0x01
def lvDone : Nat := 0x02
def lvState : Nat := 0x10
def lvRadio : Nat := 0x11
def lvKey : Nat := 0x12
def lvDrain : Nat := 0x13
def lvFetch : Nat := 0x14
def lvFormat : Nat := 0x15
def lvMember : Nat := 0x16
def lvDigest : Nat := 0x17
def lvShare : Nat := 0x18
def lvChannel : Nat := 0x19
def lvEasel : Nat := 0x1A
def lvAborted : Nat := 0x1B
def lvSpace : Nat := 0x1C

def State.lifeCode (s : State) (e : Nat) : Nat := s.fld e F.EAS_LIFE_STATUS_CODE

/-- Show a verdict. -/
def State.verdict (s : State) (e op code : Nat) : State := (s.setFld e F.EAS_LIFE_STATUS_CODE code).setFld e F.EAS_LIFE_STATUS_OP op

/-- An operation starts (R514). -/
def State.lifeStart (s : State) (e op : Nat) : State :=
  let s1 := s.verdict e op lvProgress
  { s1 with ten := { s1.ten with since := SMap.set (fun _ => 0) s1.ten.since e s.nowNs } }

/-- An operation completes, and EAS_LIFE_TIME records its duration (R514). -/
def State.lifeDone (s : State) (e op : Nat) : State :=
  (s.verdict e op lvDone).setFld e F.EAS_LIFE_TIME_US ((s.nowNs - SMap.get (fun _ => 0) s.ten.since e) / 1000)

/-! ### Ending the work of an easel (R520) -/

/-- The commands of a list that are an easel's. -/
def ofEasel (e : Nat) (l : List Cmd) : List Cmd := l.filter (fun c => decide (c.easel = e))
def notOf (e : Nat) (l : List Cmd) : List Cmd := l.filter (fun c => decide (c.easel ≠ e))

/-- A T-core command ends with a reset's status and no record: it is counted as an error completion (05 R162, R170, R171). -/
def State.tcGone (s : State) (core : Nat) (c : Cmd) (ends : List GroupEnd) : State :=
  let s1 := forEach ends (fun x (t : State) => t.tcError core c x) s
  ((s1.incWrap core F.TC_DONE_COUNT 1).incWrap (ce core c.easel) F.TC_EAS_DONE_COUNT 1).dropTakes (.tcore core c.id)

/-- Queued and running commands of an easel end on a T-core (05 R162). -/
def State.tcEaselReset (s : State) (core e : Nat) : State :=
  let t := s.tcore core
  let gone := (ofEasel e (t.queue ++ t.granted)).map (fun c => (c, c.endsAll stEaselReset)) ++
    (t.running.filter (fun r => decide (r.cmd.easel = e))).map (fun r => (r.cmd, r.ends.map (fun x => ⟨x.group, stEaselReset, 0, []⟩)))
  if gone.isEmpty then s
  else
    let s1 := s.setTcore core e { t with
      queue := notOf e t.queue, granted := notOf e t.granted, running := t.running.filter (fun r => decide (r.cmd.easel ≠ e)) }
    forEach gone (fun g (u : State) => u.tcGone core g.1 g.2) s1

/-- An S-core command ends with a reset's status and no record (07 R211, R231). -/
def State.scGone (s : State) (core : Nat) (c : Cmd) (pc : Nat) : State :=
  let s1 := (s.scError core c stEaselReset pc 0).incWrap core F.SC_DONE_COUNT 1
  (s1.incWrap (ce core c.easel) F.SC_EAS_DONE_COUNT 1).dropTakes (.score core c.id)

/-- Queued, running and parked commands of an easel end on an S-core: a running one without hold-off, and context 1 becomes free (07 R211). -/
def State.scEaselReset (s : State) (core e : Nat) : State :=
  let t := s.score core
  let ten := t.tenant.filter (fun x => decide (x.cmd.easel = e))
  let gone := (ofEasel e (t.queue ++ t.granted)).map (fun c => (c, 0)) ++ (ten.map (fun x => (x.cmd, x.pc))).toList
  if gone.isEmpty then s
  else
    let t1 : ScSt := { t with queue := notOf e t.queue, granted := notOf e t.granted }
    let t2 : ScSt := if ten.isSome then { t1 with tenant := none, running := if t.running = some false then none else t.running, req := none } else t1
    forEach gone (fun g (u : State) => u.scGone core g.1 g.2) (s.setScore core e t2)

/-- The channels PALETTE gives an easel (09 R269). -/
def State.chansOf (s : State) (e : Nat) : List Nat := (List.range 2048).filter (fun n => s.ownsLink e n)

/-- The flows of an easel (14 R422). -/
def State.flowsOf (s : State) (e : Nat) : List Nat := s.flowsUsed.filter (fun f => decide (s.flowEasel f = e))

/-- Empty a flow's queue (14 R426); a deleted flow is then free (02 R51). -/
def State.flushFlow (s : State) (f : Nat) : State :=
  let s1 := s.palClear (flowQ f)
  ({ s1 with eth := { s1.eth with checked := NSet.remove f s1.eth.checked, waited := SMap.set (fun _ => []) s1.eth.waited f [] } }).freeFlow f

/-- Sequence entries, step state and the build that waits are freed without records (11 R363). -/
def State.seqEaselReset (s : State) (e : Nat) : State :=
  (((s.seqReset e).setFld e F.SEQ_EAS_STATUS_PHASE 0).setFlag e F.SEQ_EAS_STATUS_ADMIT_WAIT false).showFree e

/-- What the scoreboard holds of an easel goes: no record of it reaches the completion ring (R520). -/
def State.boardReset (s : State) (e : Nat) : State :=
  { s with sched := { s.sched with
    outstanding := SMap.set (fun _ => []) s.sched.outstanding e []
    marks := SMap.set (fun _ => []) s.sched.marks e []
    undelivered := SMap.set (fun _ => []) s.sched.undelivered e [] } }

/-- All work of an easel ends (R520). -/
def State.endWork (s : State) (e : Nat) : State :=
  let s1 := forEach s.tc (fun p (t : State) => t.tcEaselReset p.1 e) s
  let s2 := forEach s1.sc (fun p (t : State) => t.scEaselReset p.1 e) s1
  let s3 := forEach (s2.chansOf e) (fun n (t : State) => t.resetChan n stEaselReset) s2
  let s4 := forEach (s3.flowsOf e) (fun f (t : State) => t.flushFlow f) s3
  let s5 := ((s4.embEaselReset e).seqEaselReset e).setFlag e F.MEM_EAS_REL_STATUS_BUSY false
  (s5.boardReset e).showMoving

/-! ### HELD (R513, R520) -/

/-- An easel enters HELD: its work ends, its ENABLE bits clear, an operation in progress other than RESET ends ABORTED, and shares that waited for its
step boundary take effect, since nothing of it is left (R513, R520; 02 R48). -/
def State.enterHeld (s : State) (e : Nat) : State :=
  let s1 := if s.life e = lifeClearing then s else s.endWork e
  let s2 := ((s1.setFlag e F.EAS_CTRL_ENABLE false).setFlag e F.SEQ_EAS_CTRL_ENABLE false).setFlag e F.EMB_EAS_CTRL_ENABLE false
  let op := s2.fld e F.EAS_LIFE_STATUS_OP
  let s3 := if s2.lifeCode e = lvProgress ∧ op ≠ opReset then s2.verdict e op lvAborted else s2
  let s4 := { s3 with ten := { s3.ten with stopped := NSet.remove e s3.ten.stopped } }
  (s4.setLife e lifeHeld).shrinkEffect e

/-- A source of easel reset asserts (R513): a tenant easel that exists goes to HELD. -/
def State.holdEasel (s : State) (e src : Nat) : State :=
  if e = 0 ∨ s.life e = lifeAbsent then s
  else
    let s1 := s.orFld e F.EAS_LIFE_HOLD src
    if s.life e = lifeHeld then s1 else s1.enterHeld e

/-- A source releases (R513): the easel leaves HELD with EASEL_RESET_RELEASE. -/
def State.unholdEasel (s : State) (e src : Nat) : State := s.clrFld e F.EAS_LIFE_HOLD src

/-- The tenant easels. -/
def tenants : List Nat := (List.range 64).filter (fun e => decide (e ≠ 0))

/-- A source asserts for every tenant easel. -/
def State.holdAll (s : State) (src : Nat) : State := forEach tenants (fun e (t : State) => t.holdEasel e src) s

/-- A source releases for every tenant easel. -/
def State.unholdAll (s : State) (src : Nat) : State := forEach tenants (fun e (t : State) => t.unholdEasel e src) s

/-! ### CLEARING (R521) -/

/-- Registers of an easel that clearing returns to their reset values: its ring registers, the controls and counters of its windows, the freeze bound, the wake budget (19 R527)
and the image registers (R521). -/
def clearedRegs : List Nat :=
  (List.range 14).map (fun i => 0x200104 + 4 * i) ++ (List.range 7).map (fun i => 0x20014C + 4 * i) ++ (List.range 8).map (fun i => 0x200170 + 4 * i) ++
    (List.range 3).map (fun i => 0x1C0100 + 4 * i) ++ (List.range 8).map (fun i => 0x1C0154 + 4 * i) ++
    (List.range 64).flatMap (fun r => (List.range 5).map (fun i => 0x1C0400 + 32 * r + 4 * i)) ++
    [0x1E0100] ++ (List.range 5).map (fun i => 0x1E0110 + 4 * i) ++ [0x40220, 0x180510, 0x24040C, 0x240410, 0x24042C, 0x30400, 0x30404] ++
    (List.range 3).map (fun i => 0x2C020C + 4 * i) ++ (List.range 4).map (fun i => 0x400204 + 4 * i) ++ (List.range 8).map (fun i => 0x340200 + 4 * i)

/-- Return a register to its reset value, with what it has counted of the next 64 KiB. -/
def State.resetReg (s : State) (u off : Nat) : State :=
  let s1 := s.setReg u off (regDefault (regKey u off))
  { s1 with part := SMap.set (fun _ => 0) s1.part (regKey u off) 0 }

/-- Zero a memory of an easel and clear its USED bits: units whose bit is clear hold zeros already (R521). -/
def State.clearMem (s : State) (k : Nat) : State := (s.zeroBytes k (2 ^ 46)).clearUsed k (2 ^ 46)

/-- Everything an easel has in the memories goes. -/
def State.clearMems (s : State) (e : Nat) : State :=
  let s1 := (s.clearMem (bondKey e 0)).bondWatermark e
  let s2 := forUpto 48 (fun c (t : State) => (t.clearMem (scratchKey c e 0)).spWatermark c e) s1
  forUpto 192 (fun c (t : State) => ((t.clearMem (dmemKey c e 0)).clearMem (pmemKey c e 0)).scWatermark c e) s2

/-- The counters of an easel on the T-cores and S-cores. -/
def State.clearCores (s : State) (e : Nat) : State :=
  let s1 := forUpto 48 (fun c (t : State) => (t.resetReg (ce c e) 0x100214).resetReg (ce c e) 0x100218) s
  forUpto 192 (fun c (t : State) => ((t.resetReg (ce c e) 0x140214).resetReg (ce c e) 0x140218).resetReg (ce c e) 0x14021C) s1

/-- Clear an easel (R521). -/
def State.clearEasel (s : State) (e : Nat) : State :=
  let s1 := (s.clearMems e).clearCores e
  let s2 := forEach clearedRegs (fun o (t : State) => t.resetReg e o) s1
  let s3 := ((s2.setFld e F.YZF_EAS_FTO_COUNT 0).setFld e F.YZF_EAS_MISSED_COUNT 0).setFlag e F.YZF_EAS_STATUS_MCAST false
  let uns := SMap.set (fun _ => 0) (SMap.set (fun _ => 0) s3.cxl.unsignalled (vecKey e 0) 0) (vecKey e 1) 0
  { s3 with
    yz := { s3.yz with mcast := SMap.set (fun _ => []) s3.yz.mcast e [] }
    cxl := { s3.cxl with unsignalled := uns } }

/-- An easel enters CLEARING. -/
def State.startClearing (s : State) (e : Nat) : State := (s.clearEasel e).setLife e lifeClearing

end Sys2Proof.Machine
end

