-- ==== Sys2Proof/Machine/EaselImage.lean ====
section
/-! DEFINITION. Machine/EaselImage.lean: the saved image of an easel (18 R518, R519): how it is laid out from the state, and how it is read back. -/
namespace Sys2Proof.Machine

open Sys2Proof

/-! ### Watermarks and the header (R518) -/

/-- The sequence-table watermark: one more than the highest entry that is not FREE (02 R46). -/
def State.seqWm (s : State) (e : Nat) : Nat := (s.seqEas e).active.foldl (fun m q => max m (q.1 + 1)) 0

/-- The highest watermark of an easel over the cores. -/
def State.scratchWm (s : State) (e : Nat) : Nat := (List.range 48).foldl (fun m c => max m (s.fld (ce c e) F.TC_EAS_SP_WATERMARK_UNITS)) 0
def State.dmemWm (s : State) (e : Nat) : Nat := (List.range 192).foldl (fun m c => max m (s.fld (ce c e) F.SC_EAS_WATERMARK_DM)) 0
def State.pmemWm (s : State) (e : Nat) : Nat := (List.range 192).foldl (fun m c => max m (s.fld (ce c e) F.SC_EAS_WATERMARK_PM)) 0
def State.bondWm (s : State) (e : Nat) : Nat := s.fld e F.MEM_EAS_WATERMARK_UNITS
def State.palWm (s : State) (e : Nat) : Nat := s.fld e F.PAL_EAS_WATERMARK_GRANULES

/-- Whether every live watermark of an easel is zero. -/
def State.wmZero (s : State) (e : Nat) : Bool :=
  decide (s.bondWm e = 0 ∧ s.scratchWm e = 0 ∧ s.dmemWm e = 0 ∧ s.pmemWm e = 0 ∧ s.seqWm e = 0 ∧ s.palWm e = 0)

def imgMagic : Nat := 0x4C534145

/-- The job of an easel, or zero. -/
def State.jobIdOf (s : State) (e : Nat) : Nat :=
  match s.jobOf e with
  | some j => s.fld 0 (F.YZF_JOB_ID_JOB j)
  | none => 0

/-- Bytes 0x00 to 0xDF of the header. -/
def State.imgHeader (s : State) (e sections total time : Nat) : List Nat :=
  leBytes 4 imgMagic ++ leBytes 2 1 ++ leBytes 2 0x100 ++ leBytes 4 (s.reg 0 0).toNat ++ leBytes 4 (s.reg 0 8).toNat ++ leBytes 4 (s.reg 0 12).toNat ++
    leBytes 4 (s.reg 0 16).toNat ++ leBytes 1 e ++ [0] ++ leBytes 2 sections ++ leBytes 4 (s.jobIdOf e) ++ leBytes 8 total ++ leBytes 8 time ++
    leBytes 8 (s.fld64 0 F.CVS_ID_LO_ID F.CVS_ID_HI_ID) ++ leBytes 4 (s.bondWm e) ++ leBytes 1 (s.scratchWm e) ++ leBytes 1 (s.dmemWm e) ++
    leBytes 1 (s.pmemWm e) ++ [0] ++ leBytes 2 (s.seqWm e) ++ leBytes 2 (s.palWm e) ++ List.replicate 156 0

/-! ### Sections (R518) -/

def scControl : Nat := 0x01
def scSeqTable : Nat := 0x02
def scLinks : Nat := 0x03
def scPaletteQ : Nat := 0x04
def scBonded : Nat := 0x10
def scScratch : Nat := 0x11
def scDmem : Nat := 0x12
def scPmem : Nat := 0x13

/-- A section: its header, its payload, zeros to a multiple of 64 bytes. -/
def sectionBytes (type index : Nat) (p : List Nat) : List Nat :=
  leBytes 2 type ++ leBytes 2 index ++ List.replicate 4 0 ++ leBytes 8 p.length ++ sm3 p ++ List.replicate 16 0 ++ p ++
    List.replicate (alignUp p.length 64 - p.length) 0

/-- The registers CONTROL names, in rising order of their blocks: EAS_CTRL to EAS_CQ_TAIL, SEQ_EAS_CTRL to SEQ_EAS_LOST, the output rings, EMB_EAS_CTRL to
EMB_EAS_DIR_COUNT, YZF_EAS_STATUS for its MCAST flag, YZF_EAS_MCAST, and CXL_EAS_IRQ. -/
def controlRegs : List Nat :=
  (List.range 12).map (fun i => 0x200104 + 4 * i) ++ (List.range 29).map (fun i => 0x1C0100 + 4 * i) ++
    (List.range 64).flatMap (fun r => (List.range 5).map (fun i => 0x1C0400 + 32 * r + 4 * i)) ++ (List.range 4).map (fun i => 0x1E0100 + 4 * i) ++
    [0x240400, 0x240404, 0x400200]

/-- The offset of YZF_EAS_STATUS and the bit of it that CONTROL carries. -/
def mcastOff : Nat := 0x240400
def mcastBit : Nat := 64

/-- The value CONTROL carries for a register. -/
def State.controlVal (s : State) (e off : Nat) : Nat :=
  if off = mcastOff then (if s.flag e F.YZF_EAS_STATUS_MCAST then mcastBit else 0) else (s.reg e off).toNat

/-- The units of a memory whose USED bit is set, rising. -/
def State.usedUnits (s : State) (base size : Nat) : List Nat :=
  (s.used.filter (fun k => decide (base ≤ k ∧ k < base + 2 ^ 46))).map (fun k => (k - base) / size)

/-- Poisoned granules of a memory's used units, as offsets. -/
def State.poisonIn (s : State) (base size : Nat) : List Nat :=
  ((s.poison.map (fun g => g * 64)).filter (fun k => decide (base ≤ k ∧ k < base + 2 ^ 46) && NSet.has (base + (k - base) / size * size) s.used)).map
    (fun k => k - base)

/-- Bytes of the bitmap for a watermark. -/
def bitmapLen (wm : Nat) : Nat := alignUp ((wm + 7) / 8) 64

/-- Unit data of a memory (R518). -/
def State.unitData (s : State) (base size wm : Nat) : List Nat :=
  let us := s.usedUnits base size
  let ps := s.poisonIn base size
  leBytes (bitmapLen wm) (us.foldl (fun m u => m + 2 ^ u) 0) ++ us.flatMap (fun u => s.readBytes (base + u * size) size) ++ leBytes 4 ps.length ++
    ps.flatMap (leBytes 8)

/-- Sections of one kind of core memory: only for cores with a USED unit. -/
def State.coreSections (s : State) (type cores size : Nat) (key : Nat → Nat) (wm : Nat → Nat) : List (List Nat) :=
  ((List.range cores).filter (fun c => !(s.usedUnits (key c) size).isEmpty)).map (fun c => sectionBytes type c (s.unitData (key c) size (wm c)))

/-- The image's sections, in the order of the types. -/
def State.imgSections (s : State) (e : Nat) : List (List Nat) :=
  let links := (s.chansOf e).flatMap (fun n =>
    leBytes 2 n ++ leBytes 2 (s.fld n F.STR_CH_SEM_FULL) ++ leBytes 2 (s.fld n F.STR_CH_SEM_EMPTY) ++ leBytes 2 0)
  let qs := (s.chansOf e).filter (fun n => !(s.palQ n).bytes.isEmpty)
  [sectionBytes scControl 0 (controlRegs.flatMap (fun o => leBytes 4 o ++ leBytes 4 (s.controlVal e o))),
   sectionBytes scSeqTable 0 ((List.range (s.seqWm e)).flatMap (fun i => (s.seqEntry e i).bytes true)), sectionBytes scLinks 0 links] ++
    qs.map (fun n => sectionBytes scPaletteQ n ((s.palQ n).bytes.map (fun b => b % 256))) ++
    [sectionBytes scBonded 0 (s.unitData (bondKey e 0) 65536 (s.bondWm e))] ++
    s.coreSections scScratch 48 65536 (fun c => scratchKey c e 0) (fun c => s.fld (ce c e) F.TC_EAS_SP_WATERMARK_UNITS) ++
    s.coreSections scDmem 192 4096 (fun c => dmemKey c e 0) (fun c => s.fld (ce c e) F.SC_EAS_WATERMARK_DM) ++
    s.coreSections scPmem 192 4096 (fun c => pmemKey c e 0) (fun c => s.fld (ce c e) F.SC_EAS_WATERMARK_PM)

/-- An image: header without its digest, sections, digest. -/
structure EaselImg where
  head : List Nat
  body : List Nat
  digest : List Nat

/-- The image of an easel saved at a time. -/
def State.easelImg (s : State) (e time : Nat) : EaselImg :=
  let secs := s.imgSections e
  let body := secs.flatten
  let head := s.imgHeader e secs.length (256 + body.length) time
  ⟨head, body, sm3 (head ++ body)⟩

/-- Show an image digest. -/
def State.showImgDig (s : State) (e : Nat) (d : List Nat) : State := s.showWords e F.EAS_IMG_DIG_DIGEST 8 d

/-! ### Reading an image (R519) -/

/-- Whether the header's fixed fields and reserved bytes are as R518 has them, for an image of `len` bytes. -/
def hdrFormat (b : Blob) (len : Nat) : Bool :=
  decide (b.le 0 4 = imgMagic ∧ b.le 4 2 = 1 ∧ b.le 6 2 = 0x100) && b.zero 0x19 1 && b.zero 0x3F 1 && b.zero 0x44 156 && decide (b.le 0x20 8 = len)

/-- DEVICE and PARAM against the ID block. -/
def State.hdrMember (s : State) (b : Blob) : Bool :=
  decide (b.le 8 4 = (s.reg 0 0).toNat ∧ b.le 12 4 = (s.reg 0 8).toNat ∧ b.le 16 4 = (s.reg 0 12).toNat ∧ b.le 20 4 = (s.reg 0 16).toNat)

/-- Every watermark of the header within the easel's share. -/
def State.hdrShare (s : State) (e : Nat) (b : Blob) : Bool :=
  decide (b.le 0x38 4 ≤ s.fld e F.MEM_EAS_SHARE_UNITS ∧ b.le 0x40 2 ≤ s.fld e F.EAS_CFG_SEQ ∧ b.le 0x42 2 ≤ s.fld e F.PAL_EAS_SHARE_GRANULES) &&
    (List.range 48).all (fun c => decide (b.byte 0x3C ≤ s.fld (ce c e) F.TC_EAS_SP_SHARE_UNITS)) &&
    (List.range 192).all (fun c => decide (b.byte 0x3D ≤ s.fld (ce c e) F.SC_EAS_DM_SHARE ∧ b.byte 0x3E ≤ s.fld (ce c e) F.SC_EAS_PM_SHARE))

/-- EASEL equal to the target, unless JOB is zero. -/
def hdrEasel (e : Nat) (b : Blob) : Bool := decide (b.byte 0x18 = e ∨ b.le 0x1C 4 = 0)

/-- A section found in an image: type, index, where its payload starts, its length. -/
structure Sec where
  type : Nat
  index : Nat
  at_ : Nat
  len : Nat
  deriving DecidableEq, Repr

/-- The sections of an image of `len` bytes from an offset; none where their layout is bad: reserved bytes and padding zero, the last one ends the image. -/
def findSecs (b : Blob) (len : Nat) : Nat → Nat → Option (List Sec)
  | 0, o => if o = len then some [] else none
  | n + 1, o =>
    let l := b.le (o + 8) 8
    let nx := o + 64 + alignUp l 64
    if len < nx ∨ !b.zero (o + 4) 4 ∨ !b.zero (o + 0x30) 16 ∨ !b.zero (o + 64 + l) (alignUp l 64 - l) then none
    else (findSecs b len n nx).map (fun r => ⟨b.le o 2, b.le (o + 2) 2, o + 64, l⟩ :: r)

/-- The size of a unit and the watermark that a header gives a type of unit data. -/
def unitOf (type : Nat) : Nat := if type = scBonded ∨ type = scScratch then 65536 else 4096
def hdrWm (b : Blob) (type : Nat) : Nat :=
  if type = scBonded then b.le 0x38 4 else if type = scScratch then b.byte 0x3C else if type = scDmem then b.byte 0x3D else b.byte 0x3E

/-- Units set in the bitmap of a section of unit data. -/
def secUnits (b : Blob) (x : Sec) : List Nat :=
  (List.range (8 * bitmapLen (hdrWm b x.type))).filter (fun u => (b.byte (x.at_ + u / 8)).testBit (u % 8))

/-- Where the poison list of a section of unit data starts, and its offsets. -/
def secPoisonAt (b : Blob) (x : Sec) : Nat := x.at_ + bitmapLen (hdrWm b x.type) + unitOf x.type * (secUnits b x).length
def secPoison (b : Blob) (x : Sec) : List Nat := (List.range (b.le (secPoisonAt b x) 4)).map (fun i => b.le (secPoisonAt b x + 4 + 8 * i) 8)

/-- Whether a section's index and payload are laid out as its type has them (R518). -/
def secOk (b : Blob) (x : Sec) : Bool :=
  if x.type = scControl then decide (x.index = 0 ∧ x.len = 8 * controlRegs.length) &&
    controlRegs.zipIdx.all (fun p => decide (b.le (x.at_ + 8 * p.2) 4 = p.1))
  else if x.type = scSeqTable then decide (x.index = 0 ∧ x.len = 128 * b.le 0x40 2)
  else if x.type = scLinks then decide (x.index = 0 ∧ x.len % 8 = 0) && (List.range (x.len / 8)).all (fun i => b.zero (x.at_ + 8 * i + 6) 2)
  else if x.type = scPaletteQ then decide (x.len ≠ 0)
  else if x.type = scBonded ∨ x.type = scScratch ∨ x.type = scDmem ∨ x.type = scPmem then
    decide (x.index < (if x.type = scBonded then 1 else if x.type = scScratch then 48 else 192)) &&
      decide (bitmapLen (hdrWm b x.type) + unitOf x.type * (secUnits b x).length + 4 ≤ x.len ∧
        secPoisonAt b x + 4 + 8 * b.le (secPoisonAt b x) 4 = x.at_ + x.len) &&
      (secUnits b x).all (fun u => decide (u < hdrWm b x.type)) &&
      (secPoison b x).all (fun o => decide (o % 64 = 0) && (secUnits b x).contains (o / unitOf x.type))
  else false

/-- Whether the sections are those of an easel's image: CONTROL, SEQTABLE, LINKS and BONDED once each, and no other section twice. -/
def secsOk (l : List Sec) : Bool :=
  let ks := l.map (fun x => (x.type, x.index))
  decide ks.Nodup && [scControl, scSeqTable, scLinks, scBonded].all (fun t => ks.contains (t, 0))

/-- Channels a section names. -/
def secChans (b : Blob) (x : Sec) : List Nat :=
  if x.type = scLinks then (List.range (x.len / 8)).map (fun i => b.le (x.at_ + 8 * i) 2) else if x.type = scPaletteQ then [x.index] else []

/-- The checks of one section: layout, digest, channels. -/
def State.secVerdict (s : State) (e : Nat) (b : Blob) (x : Sec) : Option Nat :=
  if !secOk b x then some lvFormat
  else if sm3 (blobSlice b x.at_ x.len) ≠ blobSlice b (x.at_ - 0x30) 32 then some lvDigest
  else if (secChans b x).all (fun n => decide (n < 2048) && s.ownsLink e n) then none
  else some lvChannel

/-- The digest the device computes of an image. -/
def imgDigest (b : Blob) (len : Nat) : List Nat := sm3 (blobSlice b 0 0xE0 ++ blobSlice b 0x100 (len - 0x100))

/-- The verdict on an image of EAS_IMG_LEN bytes: the header, then each section in turn, the image digest at the end (R519). -/
def State.imgVerdict (s : State) (e : Nat) (b : Blob) : Nat :=
  let len := s.fld64 e F.EAS_IMG_LEN_LO_BYTES F.EAS_IMG_LEN_HI_BYTES
  if !hdrFormat b len then lvFormat
  else if !s.hdrMember b then lvMember
  else if !s.hdrShare e b then lvShare
  else if !hdrEasel e b then lvEasel
  else
    match findSecs b len (b.le 0x1A 2) 256 with
    | none => lvFormat
    | some l =>
      match l.findSome? (s.secVerdict e b) with
      | some v => v
      | none =>
        if !secsOk l then lvFormat else if imgDigest b len = blobSlice b 0xE0 32 then lvDone else lvDigest

/-! ### What a restore writes (R519) -/

/-- A sequence-table entry from its 128 bytes (11 R344); what they do not carry is free. -/
def seqOfBytes (d : List Nat) (swapNo : Nat) : SeqEntry :=
  let f := nth 0 d 2
  let st := nth 0 d 0
  { state := st, endCode := nth 0 d 1, spec := f.testBit 0, ringWait := f.testBit 1, pageWait := f.testBit 2, draftStop := f.testBit 3
    draftMax := nth 0 d 3, prov := nth 0 d 4, outRing := nth 0 d 5, stopSet := nth 0 d 6
    hist := (List.range (min 7 (nth 0 d 7))).map (fun i => fieldLe d (72 + 4 * i) 4)
    tag := fieldLe d 8 8, seed := fieldLe d 16 8, promptAddr := fieldLe d 24 8, promptLen := fieldLe d 32 4, prefilled := fieldLe d 36 4
    ctxLen := fieldLe d 40 4, genCount := fieldLe d 44 4, maxGen := fieldLe d 48 4, lastToken := fieldLe d 52 4, temp := fieldLe d 56 4
    topP := fieldLe d 60 4, topK := fieldLe d 64 2, pages := fieldLe d 66 2, admitNo := fieldLe d 68 4, swapSlot := fieldLe d 100 4
    swapNo := swapNo, cancel := false, lost := none }

/-- Write one register of CONTROL; reserved bits stay zero (00 R4). -/
def State.putControl (s : State) (e off v : Nat) : State :=
  if off = mcastOff then s.setFlag e F.YZF_EAS_STATUS_MCAST (v.testBit 6) else
    match regRow? off with
    | some r => s.setReg e off (BitVec.ofNat 32 (v &&& r.used))
    | none => s

/-- Write the units and poison of a section of unit data at a memory's key. -/
def State.putUnits (s : State) (b : Blob) (x : Sec) (base : Nat) : State :=
  let size := unitOf x.type
  let o := x.at_ + bitmapLen (hdrWm b x.type)
  let s1 := forEach (secUnits b x).zipIdx
    (fun p (t : State) => (t.storeRaw (base + p.1 * size) (blobSlice b (o + p.2 * size) size)).setUsed (base + p.1 * size)) s
  forEach (secPoison b x) (fun a (t : State) => t.markPoison (base + a)) s1

/-- Write the content of one section. -/
def State.putSec (s : State) (e : Nat) (b : Blob) (x : Sec) : State :=
  if x.type = scControl then
    forEach (List.range (x.len / 8)) (fun i (t : State) => t.putControl e (b.le (x.at_ + 8 * i) 4) (b.le (x.at_ + 8 * i + 4) 4)) s
  else if x.type = scSeqTable then
    forEach (List.range (x.len / 128)) (fun i (t : State) =>
      let (d, t1) := t.draw
      t1.setSeqEntry e i (seqOfBytes (blobSlice b (x.at_ + 128 * i) 128) (Config.restored d))) s
  else if x.type = scLinks then
    forEach (List.range (x.len / 8)) (fun i (t : State) =>
      let n := b.le (x.at_ + 8 * i) 2
      (t.setFld n F.STR_CH_SEM_FULL (b.le (x.at_ + 8 * i + 2) 2)).setFld n F.STR_CH_SEM_EMPTY (b.le (x.at_ + 8 * i + 4) 2)) s
  else if x.type = scPaletteQ then s.setPal x.index { PalQ.empty with bytes := blobSlice b x.at_ x.len }
  else if x.type = scBonded then (s.putUnits b x (bondKey e 0)).bondWatermark e
  else if x.type = scScratch then (s.putUnits b x (scratchKey x.index e 0)).spWatermark x.index e
  else if x.type = scDmem then (s.putUnits b x (dmemKey x.index e 0)).scWatermark x.index e
  else (s.putUnits b x (pmemKey x.index e 0)).scWatermark x.index e

/-- The Palette watermark of an easel: its queues' granules, each at least the queue's minimum (09 R301). -/
def State.palRecount (s : State) (e : Nat) : State :=
  let qs := s.chansOf e ++ (s.flowsOf e).map flowQ
  s.setFld e F.PAL_EAS_WATERMARK_GRANULES ((qs.map (fun q => max (s.palQ q).held (s.palMin q))).foldl (· + ·) 0)

/-- Raise the watermarks of an easel to a header's. -/
def State.raiseWms (s : State) (e : Nat) (b : Blob) : State :=
  let s1 := (s.setFld e F.MEM_EAS_WATERMARK_UNITS (b.le 0x38 4)).setFld e F.PAL_EAS_WATERMARK_GRANULES (b.le 0x42 2)
  let s2 := forUpto 48 (fun c (t : State) => t.setFld (ce c e) F.TC_EAS_SP_WATERMARK_UNITS (b.byte 0x3C)) s1
  forUpto 192 (fun c (t : State) => (t.setFld (ce c e) F.SC_EAS_WATERMARK_DM (b.byte 0x3D)).setFld (ce c e) F.SC_EAS_WATERMARK_PM (b.byte 0x3E)) s2

/-- Watermarks as the memories and queues have them. -/
def State.liveWms (s : State) (e : Nat) : State :=
  let s1 := forUpto 48 (fun c (t : State) => t.spWatermark c e) ((s.bondWatermark e).palRecount e)
  forUpto 192 (fun c (t : State) => t.scWatermark c e) s1

/-- Draw some more free values, numbered from the next one. -/
def State.drawMore (s : State) (n : Nat) : State := { s with free := s.free + n }

/-- What the device holds beside registers and memories follows from them as ENABLE and LOAD would copy it; what no image carries is free (notes/assumptions/89.md). -/
def State.rebuild (s : State) (e : Nat) : State :=
  let (d, s1) := s.draw
  let x := s1.seqEas e
  let on := s1.seqOn e
  let ring : SMap RingPos := forUpto 64 (fun r (m : SMap RingPos) =>
    SMap.set (fun _ => RingPos.start) m r ⟨decide (Config.restored (d + r) % 2 = 1), Config.restored (d + r) / 2⟩) []
  let s2 := s1.setSeqEas e { x with
    stop := if on then s1.readBytes (bondKey e (65536 * s1.fld e F.SEQ_EAS_STOP_BASE_UNIT)) 4096 else []
    ring := if on then ring else [], resume := Config.restored (d + 64), admitNo := Config.restored (d + 65), swapNo := Config.restored (d + 66) }
  let n := s2.fld e F.EMB_EAS_DIR_COUNT_COUNT
  let dir := if s2.flag e F.EMB_EAS_CTRL_ENABLE then s2.readBytes (bondKey e (65536 * s2.fld e F.EMB_EAS_DIR_UNIT)) (64 * n) else []
  let tab := s2.readBytes (bondKey e (65536 * s2.fld e F.YZF_EAS_MCAST_UNIT)) 32768
  let mc := if s2.flag e F.YZF_EAS_STATUS_MCAST then (List.range 64).map (mcastGroup tab) else []
  let cq : RingPos := ⟨decide (Config.restored (d + 67) % 2 = 1), Config.restored (d + 67) / 2⟩
  { s2.drawMore 67 with
    emb := { s2.emb with dir := SMap.set (fun _ => []) s2.emb.dir e dir }
    yz := { s2.yz with mcast := SMap.set (fun _ => []) s2.yz.mcast e mc }
    sched := { s2.sched with ring := SMap.set (fun _ => RingPos.start) s2.sched.ring e cq } }

/-- Write an image whose checks all held into an easel. -/
def State.putImage (s : State) (e : Nat) (b : Blob) : State :=
  let len := s.fld64 e F.EAS_IMG_LEN_LO_BYTES F.EAS_IMG_LEN_HI_BYTES
  let l := (findSecs b len (b.le 0x1A 2) 256).getD []
  (((forEach l (fun x (t : State) => t.putSec e b x) s).liveWms e).rebuild e)

end Sys2Proof.Machine
end

