-- ==== Sys2Proof/Machine/Tenancy.lean ====
section
/-! DEFINITION. Machine/Tenancy.lean: operations on tenant easels (18 R514 to R521) and quarantine (21 R585). -/
namespace Sys2Proof.Machine

open Sys2Proof

/-- A write of EAS_LIFE_CTRL (R514): discarded through a VF and while an operation is in progress, unless it is RESET; refused with KEY, RADIO or STATE;
else the operation starts. A refusal does not replace ABORTED. -/
def State.lifeOp (s : State) (req : Requester) (e op key : Nat) (accepts : Bool) (start : State → State) : State :=
  if !req.manages then s
  else if s.lifeCode e = lvProgress ∧ ¬(op = opReset ∧ key = 0xE5) then s
  else
    let refuse := fun (c : Nat) => if s.lifeCode e = lvAborted then s else s.verdict e op c
    if key ≠ 0xE5 then refuse lvKey
    else if e = 0 then refuse lvRadio
    else if accepts then start (s.lifeStart e op)
    else refuse lvState

/-- Admission stops at the easel's step boundary (R515). -/
def State.stopAdmission (s : State) (e : Nat) : State := { s with ten := { s.ten with stopped := NSet.add e s.ten.stopped } }
def State.resumeAdmission (s : State) (e : Nat) : State := { s with ten := { s.ten with stopped := NSet.remove e s.ten.stopped } }

/-- FREEZE (R515): a build that waits is not begun, and an easel that is idle is at its step boundary. -/
def State.freezeStart (s : State) (e : Nat) : State :=
  let s1 := s.setLife e lifeFreezing
  let s2 := if (s1.seqEas e).buildWaits then (s1.setBuildWaits e false true).seqGo e [] else s1
  if s2.easelIdle e then s2.stopAdmission e else s2

def execFreeze (req : Requester) (key : BitVec 8) (s : State) : Res :=
  s.access req F.EAS_LIFE_CTRL_OP.off (fun easel =>
    .next (s.lifeOp req easel opFreeze key.toNat (decide (s.life easel = lifeReady)) (fun t => t.freezeStart easel)))

/-- Whether the easel's admitted work has run out (R515). -/
def State.drained (s : State) (e : Nat) : Bool :=
  (s.live e).isEmpty && s.noRuns e && s.emb.reqs.all (fun r => decide (r.easel ≠ e)) &&
    decide (s.fld e F.EAS_STATUS_PARKED = 0 ∧ s.fld e F.SEQ_EAS_STATUS_PHASE = 0) && (SMap.get (fun _ => []) s.sched.undelivered e).isEmpty

/-- FREEZING ends in FROZEN (R515). -/
def execFreezeDrained (easel : Fin 64) (s : State) : Res :=
  .next (if decide (s.life easel = lifeFreezing) && s.drained easel then ((s.stopAdmission easel).setLife easel lifeFrozen).lifeDone easel opFreeze else s)

/-- Whether FREEZING has lasted EAS_FREEZE_US (R515). Model's choice: notes/assumptions/166.md. -/
def State.freezeOver (s : State) (e : Nat) : Bool :=
  decide (SMap.get (fun _ => 0) s.ten.since e + 1000 * s.fld e F.EAS_FREEZE_US_US ≤ s.nowNs)

/-- The freeze bound has passed: STUCK with DRAIN; admission stays stopped (R515). -/
def execFreezeBoundExpiry (easel : Fin 64) (s : State) : Res :=
  .next (if decide (s.life easel = lifeFreezing) && s.freezeOver easel then ((s.stopAdmission easel).setLife easel lifeStuck).verdict easel opFreeze lvDrain else s)

/-- THAW (R517): admission resumes at EAS_SQ_HEAD, and under AUTO the next step is built at once. -/
def State.thawNow (s : State) (e : Nat) : State :=
  let s1 := ((s.setLife e lifeReady).resumeAdmission e).lifeDone e opThaw
  if s1.fld e F.SEQ_EAS_STATUS_PHASE = 0 then s1.autoBuild e else s1

def execThaw (req : Requester) (key : BitVec 8) (s : State) : Res :=
  s.access req F.EAS_LIFE_CTRL_OP.off (fun easel =>
    .next (s.lifeOp req easel opThaw key.toNat (decide (s.life easel = lifeFrozen ∨ s.life easel = lifeStuck)) (fun t => t.thawNow easel)))

/-- SAVE starts (R518). -/
def execSave (req : Requester) (key : BitVec 8) (s : State) : Res :=
  s.access req F.EAS_LIFE_CTRL_OP.off (fun easel =>
    .next (s.lifeOp req easel opSave key.toNat (decide (s.life easel = lifeFrozen)) (fun t =>
      (t.setLife easel lifeSaving).setFld64 easel F.EAS_IMG_USED_LO_BYTES F.EAS_IMG_USED_HI_BYTES 0)))

/-- Where an easel's image lies in host memory. -/
def State.imgAddr (s : State) (e : Nat) : Nat := s.fld64 e F.EAS_IMG_ADDR_LO_ADDR F.EAS_IMG_ADDR_HI_ADDR

/-- Whether every host page of `n` bytes is translated for PF0 (17 R489). -/
def State.hostRange (s : State) (addr n : Nat) : Bool :=
  s.hostUp && (s.cxl.denied.all (fun k => decide (k < hostPage 0 addr ∨ hostPage 0 (addr + n - 1) < k)))

/-- Bytes of the image go to host memory through PF0, behind easel 0's writes, in pieces the link takes in turn with other easels' (R518; 15 R453). Model's choice: notes/assumptions/165.md. -/
def State.imgWrite (s : State) (e addr : Nat) (bytes : List Nat) : State :=
  ((chunks 4096 ((bytes.length + 4095) / 4096) bytes).zipIdx.foldl (fun t (d, i) => t.toHost e (.hostWrite 0 (addr + 4096 * i) d)) s)

/-- SAVE ends (R518): sections first, the header last. A save that fails has written some of the sections, how many is free, and no header. -/
def execSaveDone (easel : Fin 64) (fail : Bool) (s : State) : Res :=
  let e := easel.val
  if s.life e ≠ lifeSaving then .next s
  else
    let img := s.easelImg e (SMap.get (fun _ => 0) s.ten.since e)
    let total := 256 + img.body.length
    let a := s.imgAddr e
    let len := s.fld64 e F.EAS_IMG_LEN_LO_BYTES F.EAS_IMG_LEN_HI_BYTES
    let bad := fun (c : Nat) =>
      let (d, s1) := s.draw
      let part := img.body.take (Config.saveProgress d % (min len total - 256 + 1))
      ((((s1.imgWrite e (a + 256) part)).setFld64 e F.EAS_IMG_USED_LO_BYTES F.EAS_IMG_USED_HI_BYTES part.length).verdict e opSave
        c).setLife e lifeFrozen
    if len < total then .next (bad lvSpace)
    else if fail || !s.hostRange a total then .next (bad lvFetch)
    else
      let s1 := (s.imgWrite e (a + 256) img.body).imgWrite e a (img.head ++ img.digest)
      let s2 := (s1.setFld64 e F.EAS_IMG_USED_LO_BYTES F.EAS_IMG_USED_HI_BYTES total).showImgDig e img.digest
      .next ((s2.setLife e lifeFrozen).lifeDone e opSave)

/-- RESTORE starts (R514, R519): the watermarks rise to those of a valid header. -/
def execRestore (req : Requester) (key : BitVec 8) (hdr : Blob) (s : State) : Res :=
  s.access req F.EAS_LIFE_CTRL_OP.off (fun easel =>
    let e := easel
    let ok := decide (s.life e = lifeReady) && s.wmZero e && !s.flag e F.EAS_CTRL_ENABLE && !s.flag e F.SEQ_EAS_CTRL_ENABLE && !s.flag e F.EMB_EAS_CTRL_ENABLE
    .next (s.lifeOp req e opRestore key.toNat ok (fun t =>
      let t1 := (t.setLife e lifeRestoring).setFld64 e F.EAS_IMG_USED_LO_BYTES F.EAS_IMG_USED_HI_BYTES 0
      if hdrFormat hdr (t.fld64 e F.EAS_IMG_LEN_LO_BYTES F.EAS_IMG_LEN_HI_BYTES) && t.hdrMember hdr && t.hdrShare e hdr && hdrEasel e hdr then t1.raiseWms e hdr
      else t1)))

/-- RESTORE ends (R519): DONE leaves the easel FROZEN; a failure leaves it in CLEARING with nothing of the image. -/
def execRestoreDone (easel : Fin 64) (image : Blob) (fail : Bool) (s : State) : Res :=
  let e := easel.val
  if s.life e ≠ lifeRestoring then .next s
  else
    let len := s.fld64 e F.EAS_IMG_LEN_LO_BYTES F.EAS_IMG_LEN_HI_BYTES
    let v := if fail || !s.hostRange (s.imgAddr e) len then lvFetch else s.imgVerdict e image
    if v = lvDone then
      let s1 := (s.putImage e image).showImgDig e (imgDigest image len)
      let s2 := s1.setFld64 e F.EAS_IMG_USED_LO_BYTES F.EAS_IMG_USED_HI_BYTES len
      .next (((s2.stopAdmission e).setLife e lifeFrozen).lifeDone e opRestore)
    else .next (((s.palRecount e).verdict e opRestore v).startClearing e)

/-- RESET (R514): IN_PROGRESS from here until the easel is READY. -/
def execReset (req : Requester) (key : BitVec 8) (s : State) : Res :=
  s.access req F.EAS_LIFE_CTRL_OP.off (fun easel =>
    .next (s.lifeOp req easel opReset key.toNat (decide (s.life easel ≠ lifeAbsent)) (fun t => t.holdEasel easel holdReset)))

/-- The last source of easel reset releases and the easel passes through CLEARING (R513): an FLR and the RESET operation release by themselves, the others by
what released them; quarantine holds the source of the RESET operation (21 R585). -/
def execEaselResetRelease (easel : Fin 64) (s : State) : Res :=
  let e := easel.val
  if e = 0 ∨ s.life e ≠ lifeHeld then .next s
  else
    let s1 := s.unholdEasel e holdFlr
    let s2 := if s1.flag e F.EAS_LIFE_QUAR then s1 else s1.unholdEasel e holdReset
    .next (if s2.fld e F.EAS_LIFE_HOLD = 0 then s2.startClearing e else s2)

/-- Clearing ends (R521). -/
def execClearingDone (easel : Fin 64) (s : State) : Res :=
  let e := easel.val
  if s.life e ≠ lifeClearing then .next s
  else
    let s1 := (s.setLife e lifeReady).incSat e F.EAS_RESETS_COUNT 1
    .next (if s1.lifeCode e = lvProgress ∧ s1.fld e F.EAS_LIFE_STATUS_OP = opReset then s1.lifeDone e opReset else s1)

/-! ### Quarantine (21 R585) -/

/-- Whether a tenant easel exists. -/
def State.exists_ (s : State) (e : Nat) : Bool := decide (s.life e ≠ lifeAbsent)

/-- Quarantine reaches an easel: HELD at once, and any operation in progress ends ABORTED. -/
def State.quarantineOne (s : State) (e : Nat) : State :=
  if !s.exists_ e then s
  else
    let s1 := (s.holdEasel e holdReset).setFlag e F.EAS_LIFE_QUAR true
    if s1.lifeCode e = lvProgress then s1.verdict e (s1.fld e F.EAS_LIFE_STATUS_OP) lvAborted else s1

def execQuarantineEnter (req : Requester) (key : BitVec 8) (s : State) : Res :=
  s.access req F.FLT_QUAR_CTRL_ENTER.off (fun _ =>
    if req.manages && decide (key.toNat = 0x51) && !s.flag 0 F.FLT_HEALTH_QUARANTINED then
      .next (forEach tenants (fun e (t : State) => t.quarantineOne e) (s.setFlag 0 F.FLT_HEALTH_QUARANTINED true))
    else .next s)

def execQuarantineLeave (req : Requester) (key : BitVec 8) (s : State) : Res :=
  s.access req F.FLT_QUAR_CTRL_ENTER.off (fun _ =>
    if req.manages && decide (key.toNat = 0x51) && s.flag 0 F.FLT_HEALTH_QUARANTINED then
      .next ((forEach tenants (fun e (t : State) => t.setFlag e F.EAS_LIFE_QUAR false) (s.unholdAll holdReset)).setFlag 0 F.FLT_HEALTH_QUARANTINED false)
    else .next s)

end Sys2Proof.Machine
end

