-- ==== Sys2Proof/Machine/ResetBase.lean ====
section
/-! DEFINITION. Machine/ResetBase.lean: what a reset of each reach does (03 R62 to R77; 17 R505): the chip, the CXL controller, an I/O die, a panel, a core. -/
namespace Sys2Proof.Machine

open Sys2Proof

/-! ### Sources (R62) -/

def srPor : Nat := 1
def srCard : Nat := 2
def srPerst : Nat := 4
def srHot : Nat := 8
def srWdog : Nat := 16
def srSupply : Nat := 32
def srThermal : Nat := 64
def srClock : Nat := 128
def srSoft : Nat := 256
def srApply : Nat := 512
def srDebug : Nat := 1024

/-! ### The chip (R68, R77, R78) -/

/-- What the register file holds after a chip-reach reset: the bits that keep their value, every other bit at its reset value; POR keeps the fuses alone. -/
def keptRegs (por : Bool) (m : SMap (BitVec 32)) : SMap (BitVec 32) :=
  m.filterMap (fun p =>
    let off := p.1 % regSpan
    let mask := if por && decide (off ≠ 0x380008) then 0 else stickyMask off
    let w := (p.2 &&& mask) ||| (regDefault p.1 &&& ~~~mask)
    if w = regDefault p.1 then none else some (p.1, w))

/-- Whether the CXL controller is held: by the host's resets, before the ROM releases it at step 4, or by a reset of I/O die 0, which carries its lanes (R66, R68, R75, R80). -/
def State.cxlHeld (s : State) : Bool :=
  decide (s.fld 0 F.RST_HELD_HELD &&& (srPerst ||| srHot) ≠ 0) ||
    decide (s.rst.chipSrc = 0) && (decide (s.fld 0 F.RST_BRINGUP_STEP < 3) || (decide (s.rst.soft = some (1, 0)) && !s.rst.softOut))

/-- Show whether the CXL controller is held, and the tenants that the host holds (R66, R91). -/
def State.showHeld (s : State) : State :=
  (s.setFlag 0 F.RST_DOMAIN_CXL s.cxlHeld).setFlag 0 F.RST_DOMAIN_TENANTS (decide (s.fld 0 F.RST_HELD_HELD &&& (srPerst ||| srHot) ≠ 0))

/-- Bring-up starts at the release of the last chip-reach source (R76, R78): step 1 is complete; the CXL controller, the I/O dies and the panels are held until their steps. -/
def State.bringUp (s : State) : State :=
  ((((s.setFlag 0 F.CLK_STATUS_REF_OK true).setFld 0 F.RST_BRINGUP_STEP 1).setFld 0 F.RST_DOMAIN_PANEL 7).setFld 0 F.RST_DOMAIN_IODIE 3).showHeld

/-- Step 11 is complete once the CXL controller is out of reset after step 10 (R78, R91). -/
def State.stepEleven (s : State) : State :=
  if s.fld 0 F.RST_BRINGUP_STEP = 10 ∧ s.flag 0 F.RST_DOMAIN_CXL = false then s.setFld 0 F.RST_BRINGUP_STEP 11 else s

/-- A source of chip reach asserts (R62, R68, R75, R77); `latch` is the part of `src` that stays asserted. While another source holds the chip, only the
source's bits change. During apply bit 9 is set too and CVS_FAULT reads INTERRUPTED (02 R31); POR clears what every other reset keeps, whatever holds the chip. -/
def State.chipReset (s : State) (src latch : Nat) : State :=
  if s.rst.chipSrc ≠ 0 ∧ src ≠ srPor then
    let s1 := ((s.orFld 0 F.RST_CAUSE_CAUSE src).orFld 0 F.RST_LAST_SOURCES src).orFld 0 F.RST_HELD_HELD latch
    { s1 with rst := { s1.rst with chipSrc := s1.rst.chipSrc ||| latch } }
  else
    let por := decide (src = srPor)
    let cut := decide (s.fld 0 F.CVS_STATE_STATE = 1) && !por && decide (src ≠ srApply)
    let bits := if cut then src ||| srApply else src
    let s1 := if cut then (s.setFld 0 F.CVS_FAULT_CODE 0x0F).setFld 0 F.CVS_FAULT_SECTION 0 else s
    let host := s.fld 0 F.RST_HELD_HELD &&& (srPerst ||| srHot)
    let held := s.rst.chipSrc ||| latch
    let s2 : State := { State.reset with
      regs := keptRegs por s1.regs
      rst := ⟨held, s.rst.refLost, none, false, none⟩
      out := s.out, free := s.free, pending := s.pending }
    let s3 := if por then s2 else (s2.orFld 0 F.RST_CAUSE_CAUSE bits).setFld 0 F.RST_LAST_SOURCES bits
    let s4 := (s3.setFld 0 F.RST_HELD_HELD (host ||| (held - held % 2))).showHeld
    if held = 0 then s4.bringUp else s4

/-- A source of chip reach releases (R75, R76). -/
def State.chipRelease (s : State) (src : Nat) : State :=
  let c := s.rst.chipSrc - (s.rst.chipSrc &&& src)
  let s1 := { s.clrFld 0 F.RST_HELD_HELD src with rst := { s.rst with chipSrc := c } }
  let s2 := s1.showHeld
  if s.rst.chipSrc ≠ 0 ∧ c = 0 then s2.bringUp else s2

/-- Apply refuses the canvas: the code is recorded and a chip reset follows (02 R30). Model's choice: notes/assumptions/130.md. -/
def State.applyRefuse (s : State) (code section_ : Nat) : State :=
  ((s.setFld 0 F.CVS_FAULT_CODE code).setFld 0 F.CVS_FAULT_SECTION section_).chipReset srApply 0

/-- A fault of a detector whose action is a reset: its penalty stays, and its record is posted after bring-up (21 R571, R578, R582). -/
def State.resetFaultBy (s : State) (det : Nat) (injected : Bool) : State :=
  let s1 := s.incSat det F.FLT_DET_COUNT_COUNT 1
  if s1.detEnabled det then (s1.penalise det sevFatal injected).orFld 0 (F.FLT_SEEN_SEEN (det / 32)) (2 ^ (det % 32)) else s1

/-- The same for an event that the detector's injection point may alter. -/
def State.resetFault (s : State) (det : Nat) : State :=
  let r := s.inject det atelier
  r.2.resetFaultBy det r.1.isSome

/-! ### The host's retouch, push and update (17 R505) -/

/-- A retouch in CHECKING is refused (02 R44; 17 R501). -/
def State.rtRefuse (s : State) (code rec_ : Nat) : State :=
  ((s.setFld 0 F.CVS_RT_STATUS_CODE code).setFld 0 F.CVS_RT_STATUS_RECORD rec_).fire 0 2

/-- Whether a host push is under way, in step 4 and in apply, which the ROM's last work begins (20 R552, R556). -/
def State.pushInRom (s : State) : Bool :=
  decide (s.fld 0 F.CVS_STATE_SOURCE = 2) && decide (s.boot.stage = .header ∨ s.boot.stage = .firmware)
def State.pushInApply (s : State) : Bool :=
  decide (s.fld 0 F.CVS_STATE_SOURCE = 2) && decide (s.boot.stage ≠ .idle ∧ s.boot.stage ≠ .header ∧ s.boot.stage ≠ .firmware ∧ s.boot.stage ≠ .ready)

/-- A push ends: in step 4 the ROM discards what it has received and waits for a new one; in apply the source is lost (20 R557; 02 R32; 03 R82). -/
def State.pushEnd (s : State) : State :=
  if s.pushInApply then s.applyRefuse 0x10 0
  else if s.pushInRom then
    { s.setFld 0 F.TRU_MBX_STATUS_STATE 1 with boot := { s.boot with image := ⟨0, []⟩, stage := .idle, want := [] } }
  else s

/-! ### The CXL controller (17 R505, R508) -/

/-- Offsets of the CXL block; CXL_IDE_POLICY keeps its value. -/
def cxlBlock (off : Nat) : Bool := decide (0x400000 ≤ off ∧ off < 0x410000 ∧ off ≠ 0x40000C)

/-- Writes that wait for the link to the host (15 R453). -/
def State.hostWaiting (s : State) : Nat :=
  s.cxl.egress.foldl (fun n p => n + (p.2.filter (fun o => match o with
    | .hostWrite _ _ _ => true
    | _ => false)).length) 0

/-- A reset of the CXL controller (R505): its registers, VF Enable, MSI-X and ATS; the FAPI queue pairs and the cells; easel 0's rings; a retouch that is being
fetched, an update that is being fetched (20 R562), a push. Writes that have not left are discarded and counted. -/
def State.cxlReset (s : State) : State :=
  let s1 := (((s.holdAll holdVf).dropFapi).setFlag 0 F.EAS_CTRL_ENABLE false)
  let s2 := { s1 with
    regs := SMap.keep (fun k => !cxlBlock (k % regSpan)) s1.regs
    part := SMap.keep (fun k => !cxlBlock (k % regSpan)) s1.part
    cxl := ⟨[], [], [], [], false, 0, [], ⟨[], [], false⟩⟩ }.incSat 0 F.CXL_LOST_WR_COUNT s1.hostWaiting
  let s3 := if s2.fld 0 F.CVS_RT_STATUS_CODE = 1 then s2.rtRefuse 0x1C 0 else s2
  let s4 := if s3.fld 0 F.TRU_UPD_STATUS_CODE = 1 then s3.setFld 0 F.TRU_UPD_STATUS_CODE 0x18 else s3
  s4.pushEnd

/-- Whether PERST_N, and hot reset and link disable, have chip reach (R62, R64, R65). -/
def State.perstChip (s : State) : Bool := s.flag 0 F.RST_REACH_PERST_CHIP
def State.hotChip (s : State) : Bool := s.flag 0 F.RST_REACH_HOT_CHIP

/-- A reset source of the host with default reach asserts (R66). -/
def State.hostReset (s : State) (src : Nat) : State :=
  let s1 := ((s.orFld 0 F.RST_CAUSE_CAUSE src).orFld 0 F.RST_HELD_HELD src).showHeld
  if s.rst.chipSrc ≠ 0 then s1 else (s1.holdAll holdHost).cxlReset

/-- A reset source of the host with default reach releases: once none is left the CXL controller leaves reset, and step 11 is complete after step 10 (R78). -/
def State.hostRelease (s : State) (src : Nat) : State :=
  let s1 := (s.clrFld 0 F.RST_HELD_HELD src).showHeld
  if s1.flag 0 F.RST_DOMAIN_TENANTS || decide (s.rst.chipSrc ≠ 0) then s1 else (s1.unholdAll holdHost).stepEleven

/-- A hot reset (R62, R66): it lasts no longer than the event. -/
def State.hotReset (s : State) : State := if s.hotChip then s.chipReset srHot 0 else (s.hostReset srHot).hostRelease srHot

/-! ### Cores (R68, R71, R605) -/

/-- A command of a core in reset ends: its records are posted and its signal sent as at any completion (R71; 05 R157, R161). Model's choice: notes/assumptions/142.md. -/
def State.tcKill (s : State) (core : Nat) (c : Cmd) (ends : List GroupEnd) : State :=
  let s1 := match ends.reverse with
    | [] => s
    | e :: r => (forEach r.reverse (fun x (t : State) => t.tcPost core c x 0) s).tcRetire core c e 0
  let s2 := s1.dropTakes (.tcore core c.id)
  if c.radio then s2.radioEnd c.id stCoreReset else s2

/-- Every command of a T-core ends with CORE_RESET, and the pipeline forgets what was warm (R71). -/
def State.tcCoreReset (s : State) (core : Nat) : State :=
  let t := s.tcore core
  let gone := (t.queue ++ t.granted).map (fun c => (c, c.endsAll stCoreReset)) ++
    t.running.map (fun r => (r.cmd, r.ends.map (fun x => ⟨x.group, stCoreReset, 0, []⟩)))
  let es := (gone.map (fun g => g.1.easel)).dedup
  let s1 := s.setTcore core 0 TcSt.empty
  let s2 := forEach es (fun e (u : State) => u.setTcore core e TcSt.empty) s1
  forEach gone (fun g (u : State) => u.tcKill core g.1 g.2) s2

/-- A command of an S-core in reset ends (R71); `x` is its context, if it has launched. The S-cycles a parked one spent parked are a free value (notes/assumptions/141.md). -/
def State.scKill (s : State) (core : Nat) (c : Cmd) (x : Option ScCtx) : State :=
  let s1 := if c.scSignalEn && s.ownsLink c.easel c.scSignalLink then s.sendSignal c.scSignalSem else s
  let parked := x.any (·.parked)
  let (cyc, s2) := if parked then ((Config.parkedCycles s1.draw.1).toNat, s1.draw.2) else (0, s1)
  let s3 := (s2.scPost core c stCoreReset ((x.map (·.pc)).getD 0) 0 ((x.map (·.cyc)).getD 0) cyc (x.any (·.overran)) parked).dropTakes (.score core c.id)
  if c.radio then s3.radioEnd c.id stCoreReset else s3

/-- Every command of an S-core ends with CORE_RESET (R71). -/
def State.scCoreReset (s : State) (core : Nat) : State :=
  let t := s.score core
  let gone := (t.queue ++ t.granted).map (fun c => (c, none)) ++ (t.radio.toList ++ t.tenant.toList).map (fun x => (x.cmd, some x))
  let es := (gone.map (fun g => g.1.easel)).dedup
  let s1 := s.setScore core 0 ScSt.empty
  let s2 := forEach es (fun e (u : State) => u.setScore core e ScSt.empty) s1
  (forEach gone (fun g (u : State) => u.scKill core g.1 g.2) s2).showMoving

/-- A core is brought back: its memories are zeroed with valid ECC and their USED bits cleared, and a core of the CELLMAP reloads its image (R71, R605). -/
def State.tcBack (s : State) (core : Nat) : State :=
  forUpto 64 (fun e (t : State) => (t.clearMem (scratchKey core e 0)).spWatermark core e) s
def State.scBack (s : State) (core : Nat) : State :=
  (forUpto 64 (fun e (t : State) => ((t.clearMem (dmemKey core e 0)).clearMem (pmemKey core e 0)).scWatermark core e) s).loadImage core

/-! ### A panel (R68, R69; 04 R117; 09 R298; 12 R379) -/

/-- The stacks of a panel. -/
def panelStacks (p : Nat) : List Nat := (List.range 6).map (fun b => 6 * p + b)

/-- Its stacks go into self-refresh with every page closed. -/
def State.panelRefresh (s : State) (p : Nat) : State :=
  let s1 := { s with bond := { s.bond with openRow := SMap.keep (fun k => decide (k / 1536 / 6 ≠ p)) s.bond.openRow } }
  let s2 := { s1 with pow := { s1.pow with waking := s1.pow.waking.filter (fun r => decide (r < 64 ∨ 128 ≤ r ∨ (r - 64) / 6 ≠ p)) } }
  forEach (panelStacks p) (fun k (t : State) =>
    (if t.fld k F.MEM_STK_STATUS_STATE = 3 then t.setFld k F.MEM_STK_STATUS_STATE 4 else t).clrFld 0 F.PWR_STK_SR_SR (2 ^ k)) s2

/-- What lies in the Centre panel alone: the sequence engine, the easel manager, the schedulers with their virtual times and rings, the Palette. -/
def State.centreReset (s : State) : State :=
  let s1 := forUpto 64 (fun e (t : State) =>
    ((((t.seqEaselReset e).boardReset e).setFlag e F.SEQ_EAS_CTRL_ENABLE false).setFlag e F.EAS_CTRL_ENABLE false)) s
  let s2 := { s1 with sched := { s1.sched with ring := [], vtime := [], window := [], elig := [], ringBad := [] } }
  forEach s2.pal (fun p (t : State) => t.palClear p.1) s2

/-- A panel is reset: its commands, runs and requests end with CORE_RESET. -/
def State.panelReset (s : State) (p : Nat) : State :=
  let s0 := s.panelRefresh p
  let s1 := forUpto 16 (fun i (t : State) => t.tcCoreReset (16 * p + i)) s0
  let s2 := forUpto 64 (fun i (t : State) => t.scCoreReset (64 * p + i)) s1
  let chans := (List.range 2048).filter (fun n => s2.chEnabled n && decide (s2.fld n F.STR_CH_CFG_PANEL = p))
  let s3 := (forEach chans (fun n (t : State) => t.resetChan n stCoreReset) s2).embPanelReset p
  let s4 := { s3.hardPanelReset p with ldpc := SMap.set (fun _ => []) s3.ldpc p [] }.consumeRuns
  if p = 1 then s4.centreReset else s4

/-- A panel's units are brought back; its stacks start to retrain and are out of service until they are READY (04 R114, R117). -/
def State.panelBack (s : State) (p : Nat) : State :=
  let s1 := forUpto 16 (fun i (t : State) => t.tcBack (16 * p + i)) s
  let s2 := forUpto 64 (fun i (t : State) => t.scBack (64 * p + i)) s1
  forEach (panelStacks p) (fun k (t : State) =>
    if t.fld k F.MEM_STK_STATUS_STATE = 4 then (t.setFld k F.MEM_STK_STATUS_STATE 1).clrFld 0 F.MEM_READY_READY (2 ^ k) else t) s2

/-! ### An I/O die (R68) -/

/-- Die 0 holds the CXL and Ethernet lanes, die 1 the Yaroz lanes: links go down, frames queued in the die are lost. -/
def State.ioDieReset (s : State) (d : Nat) : State :=
  if d = 0 then
    let s1 := forUpto 32 (fun i (t : State) => t.setLink i false) s.cxlReset
    let s2 := s1.setFld 0 F.YZF_STATUS_ETH_UP 0
    let s3 := { s2 with eth := { s2.eth with busy := [], tb := [], yzq := SMap.keep (fun k => decide (k < 16)) s2.eth.yzq } }
    forUpto 8 (fun i (t : State) => t.yzReroute (16 + i)) s3
  else
    let s1 := forUpto 16 (fun i (t : State) =>
      (t.setFlag 0 (F.YZF_LINK_STATUS_UP i) false).setFld 0 (F.YZF_LINK_STATUS_LANES_UP i) 0) s
    let s2 := s1.setFld 0 F.YZF_STATUS_LINK_UP 0
    let s3 := { s2 with yz := { s2.yz with lseq := [], lrx := [], replay := [] }, eth := { s2.eth with yzq := SMap.keep (fun k => decide (16 ≤ k)) s2.eth.yzq } }
    forUpto 16 (fun i (t : State) => t.yzReroute i) s3

end Sys2Proof.Machine
end

