-- ==== Sys2Proof/Machine/Cxl.lean ====
section
/-! DEFINITION. Machine/Cxl.lean: the link to the host (17): training, functions, translation, CXL.mem, interrupts and IDE. -/
namespace Sys2Proof.Machine

open Sys2Proof

/-! ### Link and functions (R485 to R489, R506, R507) -/

/-- Whether the CXL controller runs: the ROM has released it and nothing holds it (03 R80, R83). -/
def State.cxlRuns (s : State) : Bool :=
  decide (s.rst.chipSrc = 0 ∧ 3 ≤ s.fld 0 F.RST_BRINGUP_STEP) && !s.flag 0 F.RST_DOMAIN_CXL

/-- Records that waited for host memory are written once it can be reached (10 R607; 11 R361). -/
def State.hostBack (s : State) : State :=
  let s1 := forEach s.sched.undelivered (fun p (t : State) => t.deliver p.1) s
  forEach s1.seq (fun p (t : State) => t.flushOut p.1) s1

/-- CXL_LINK_TRAINING (R485): CXL mode needs 32 GT/s or more and 256-byte flits. -/
def execCxlLinkTraining (rate : Fin 4) (width : Fin 17) (flit256 lopt : Bool) (s : State) : Res :=
  if s.cxlRuns && decide (width.val = 4 ∨ width.val = 8 ∨ width.val = 16) then
    let s1 := if s.fld 0 F.CXL_LINK_MODE = 0 then s else s.incSat 0 F.CXL_LINK_EVENTS_RETRAINS 1
    let cxl := decide (1 ≤ rate.val) && flit256
    let s2 := ((s1.setFld 0 F.CXL_LINK_MODE (if cxl then 2 else 1)).setFld 0 F.CXL_LINK_RATE rate).setFld 0 F.CXL_LINK_WIDTH width
    .next (s2.setFlag 0 F.CXL_LINK_LOPT (lopt && flit256)).hostBack
  else .next s

/-- TotalVFs: the highest easel that exists (R486). -/
def State.totalVfs (s : State) : Nat := (List.range 64).foldl (fun m e => if s.flag e F.EAS_CFG_EXISTS then max m e else m) 0

/-- VF_ENABLE (R486): easels up to NumVFs lose this source of reset; in PCIe mode VFs cannot be enabled (R485). -/
def execVfEnable (num : Nat) (s : State) : Res :=
  if s.cxlRuns && decide (s.fld 0 F.CXL_LINK_MODE = 2 ∧ s.cxl.vfs = 0 ∧ 1 ≤ num ∧ num ≤ s.totalVfs) then
    .next (forEach (tenants.filter (fun e => decide (e ≤ num))) (fun e (t : State) => t.unholdEasel e holdVf) { s with cxl := { s.cxl with vfs := num } })
  else .next s

/-- VF Enable is cleared (R486). -/
def State.vfOff (s : State) : State := { s with cxl := { s.cxl with vfs := 0 } }.holdAll holdVf

/-- VF_DISABLE (R486). -/
def execVfDisable (s : State) : Res := .next s.vfOff

/-- VF_FLR (R487). -/
def execVfFlr (n : Fin 64) (s : State) : Res :=
  if n.val = 0 then .next s else .next ((s.incSat 0 F.CXL_FLR_VF 1).holdEasel n holdFlr)

/-- PF_FLR (R487): VF Enable, easel 0's rings, the FAPI queue pairs, PF0's MSI-X and ATS state, and nothing else. -/
def execPfFlr (s : State) : Res :=
  let s1 := ((s.incSat 0 F.CXL_FLR_PF 1).vfOff.setFlag 0 F.EAS_CTRL_ENABLE false).dropFapi
  .next { s1 with cxl := { s1.cxl with
    msixOpen := s1.cxl.msixOpen.filter (fun k => decide (vecKey 1 0 ≤ k))
    msixPending := s1.cxl.msixPending.filter (fun k => decide (vecKey 1 0 ≤ k))
    denied := s1.cxl.denied.filter (fun k => decide (hostPage 1 0 ≤ k)) } }

/-- ATS_INVALIDATION (R489): the pages are asked for anew, and the host refuses some; work that waited for the others goes on. -/
def execAtsInvalidation (fn : Fin 64) (pages refused : List Nat) (s : State) : Res :=
  let d := forEach pages (fun p (m : NSet) => NSet.remove (hostPage fn (4096 * p)) m) s.cxl.denied
  let d' := forEach (refused.filter (fun p => pages.contains p)) (fun p (m : NSet) => NSet.add (hostPage fn (4096 * p)) m) d
  .next ({ s with cxl := { s.cxl with denied := d' } }.incWrap 0 F.CXL_ATC_INVALS 1).hostBack

/-- DL_DOWN (R506): it acts as a hot reset; the event is counted once the registers have been reset (notes/assumptions/86.md). -/
def execDlDown (s : State) : Res :=
  if s.fld 0 F.CXL_LINK_MODE = 0 then .next s
  else if s.hotChip then .next (s.chipReset srHot 0)
  else .next ((s.hostReset srHot).hostRelease srHot |>.incSat 0 F.CXL_LINK_EVENTS_DOWNS 1)

/-- CONFIG_REQUEST (03 R80, R81; R507): retry status until sealing, unless the ROM waits for a host push or the image comes by one; a controller in reset answers nothing. -/
def execConfigRequest (fn : Fin 64) (s : State) : Res :=
  if s.cxlRuns then
    .next (s.emit (.config fn (decide (s.fld 0 F.CVS_STATE_STATE ≠ 2 ∧ s.fld 0 F.CVS_STATE_SOURCE ≠ 2 ∧ s.flag 0 F.RST_BRINGUP_RECOVERY = false))))
  else .next s

/-! ### CXL.mem (R498 to R500; 18 R516) -/

/-- A refused CXL.mem request: reads answer zeros with poison set, writes complete and are dropped. -/
def State.memRefuse (s : State) (e : Nat) (read : Option Nat) : State :=
  let s1 := s.incSat 0 F.CXL_MEM_ERR_REFUSED 1
  match read with
  | some n => (s1.incSat 0 F.CXL_MEM_ERR_POISON 1).emit (.memResp e 2 (List.replicate n 0))
  | none => s1.emit (.memResp e 0 [])

/-- Whether a CXL.mem request is refused wherever it falls: easel 0's window, an easel that does not exist or is in easel reset. -/
def State.memShut (s : State) (e : Nat) : Bool := decide (e = 0 ∨ s.life e = lifeAbsent ∨ s.life e = lifeHeld ∨ s.life e = lifeClearing)

/-- The bytes of a request's access. -/
def cxlSize : CxlMemOp → Nat
  | .read n => n
  | .write bs => bs.length

/-- CXL_MEM_REQUEST (R500). -/
def execCxlMemRequest (easel : Fin 64) (off : Nat) (acc : CxlMemOp) (ecc : Option EccEvent) (s : State) : Res :=
  let e := easel.val
  let read := match acc with
    | .read n => some n
    | .write _ => none
  if !s.hostUp || decide (2 ^ 39 ≤ off ∨ 64 < off % 64 + cxlSize acc) then .next s
  else if s.memShut e then .next ((s.memRefuse e read).usageFault (if e = 0 then atelier else e) ukNone 0 off ufOutOfShare)
  else if !s.inShare e off (cxlSize acc) then .next ((s.memRefuse e read).refuseShare e off)
  else match acc with
    | .read n =>
      let m := s.bondLoad e off n stPoison ecc
      let s1 := m.st.countUnits e F.CXL_EAS_MEM_RD_UNITS 65536 n
      let bs := m.st.viewOf .committed e off m.data
      let s2 := if m.st.masksAny .committed e off n then s1.incSat e F.SEQ_EAS_MASKED_READS 1 else s1
      if m.status = .poison then .next ((s2.incSat 0 F.CXL_MEM_ERR_POISON 1).emit (.memResp e 2 bs)) else .next (s2.emit (.memResp e 0 bs))
    | .write bs =>
      if s.frozen e then .next (s.memRefuse e none)
      else if s.hitsUnderpainting e off bs.length then .next (((s.memRefuse e none).incSat e F.SEQ_EAS_MASKED_WRITES 1).usageFault e ukNone 0 off ufOutOfShare)
      else .next (((s.bondStore e off bs).st.countUnits e F.CXL_EAS_MEM_WR_UNITS 65536 bs.length).emit (.memResp e 0 []))

/-! ### Interrupts (R501, R502) -/

/-- MSI_MODERATION_TIMER (R502). -/
def execMsiModerationTimer (easel : Fin 64) (vec : Fin 2) (s : State) : Res :=
  let k := vecKey easel vec
  if SMap.get (fun _ => 0) s.cxl.unsignalled k = 0 then .next s
  else .next ({ s with cxl := { s.cxl with unsignalled := SMap.set (fun _ => 0) s.cxl.unsignalled k 0 } }.fire easel vec)

/-- MSIX_VECTOR_UNMASK (R502, R504), a write in BAR2: PF0 has 72 vectors, a VF 4. -/
def execMsixVectorUnmask (fn : Fin 64) (vec : Fin 72) (s : State) : Res :=
  if !s.ioOpen || decide (fn.val ≠ 0 ∧ 4 ≤ vec.val) then .next s
  else
    let k := vecKey fn vec
    let s1 := { s with cxl := { s.cxl with msixOpen := NSet.add k s.cxl.msixOpen, msixPending := NSet.remove k s.cxl.msixPending } }
    .next (if NSet.has k s.cxl.msixPending then s1.toHost fn (.msix fn vec) else s1)

/-! ### IDE (R503, R504) -/

/-- Set it. -/
def State.setIde (s : State) (k : Nat) (b : Bool) : State := s.setFlag 0 ⟨F.CXL_IDE_STATUS_CM_SECURE.off, k, 1⟩ b

/-- IDE_FAILURE (R503): the traffic is discarded and the stream is insecure; CXL.cachemem stops. -/
def execIdeFailure (stream : Fin 4) (s : State) : Res :=
  if s.ideSecure stream then
    let (w, s1) := s.inject 174 atelier
    let s2 := ((s1.setIde stream false).incSat 0 F.CXL_IDE_STATUS_FAILS 1).detect 174 atelier ukNone 0 0 0 sevService w.isSome
    .next { s2 with cxl := { s2.cxl with stopped := s2.cxl.stopped || decide (stream.val = 0) } }
  else .next s

/-- IDE_REQUIRE (R504, R508). -/
def execIdeRequire (req : Requester) (s : State) : Res :=
  s.access req F.CXL_IDE_POLICY_REQUIRE.off (fun _ =>
    .next (if req.manages then s.setFlag 0 F.CXL_IDE_POLICY_REQUIRE true else s))

end Sys2Proof.Machine
end

