-- ==== Sys2Proof/Machine/Power.lean ====
section
/-! DEFINITION. Machine/Power.lean: power states and climate control (19): entries into and exits from power states, sensors and thermal trips, the pump and valve,
prediction and admission, escalation, the hold-up store. -/
namespace Sys2Proof.Machine

open Sys2Proof

/-! ### Power states (R526 to R531) -/

/-- The wake budget of an easel in µs (R527, R528): easel 0's is derived; 65,535 means unbounded. -/
def State.wakeBudget (s : State) (e : Nat) : Nat := if e = 0 then s.fld 0 F.PWR_RADIO_WAKE_US else s.fld e F.PWR_EAS_WAKE_US

/-- The least budget among easels; none is unbounded (R529). -/
def State.leastBudget (s : State) (es : List Nat) : Nat := es.foldl (fun m e => min m (s.wakeBudget e)) 65535

/-- The easels that may need a T-core (R529). -/
def State.tcEasels (s : State) (core : Nat) : List Nat :=
  if s.flag 0 F.SCH_MODE_PARTITIONED then (List.range 64).filter (s.coreOwned F.TC_PARTITION_OWNER core)
  else (List.range 64).filter (fun e => decide (0 < s.fld (ce core e) F.TC_EAS_QLIMIT_SLOTS))

/-- The easels that may need a stack (R529). -/
def State.stackEasels (s : State) (k : Nat) : List Nat :=
  (List.range 64).filter (fun e => decide (0 < s.unitsBelow e (s.fld e F.MEM_EAS_MAPPED_UNITS) k) || decide (e = 0 ∧ k % 6 = 0))

/-- Whether a job slot has a LIVE rank whose PATHS names a link. -/
def State.slotNames (s : State) (slot l : Nat) : Bool :=
  s.yz.ranks.any (fun p => decide (p.1 / 4096 = slot) && decide (p.2.2.2.1 = 0) && p.2.2.2.2.testBit l)

/-- The easels that may need a DIRECT link (R529). -/
def State.linkEasels (s : State) (l : Nat) : List Nat :=
  (List.range 64).filter (fun e => (List.range 16).any (fun j => s.inJob j e && s.slotNames j l))

/-- Exit times in whole µs, rounded up (R526). -/
def exitGate : Nat := 1
def exitRefresh : Nat := 2
def exitLane : Nat := 5
def exitPower : Nat := 20

/-- Set the power state of a T-core (R545). -/
def State.setTcPower (s : State) (core v : Nat) : State :=
  let w := s.fld 0 (F.PWR_TC_STATE_STATE (core / 16))
  s.setFld 0 (F.PWR_TC_STATE_STATE (core / 16)) (w - s.tcPower core * 4 ^ (core % 16) + v % 4 * 4 ^ (core % 16))

/-- Whether a T-core is idle: no array occupied, an empty queue, no radio command planned on it (R526). -/
def State.tcIdle (s : State) (core : Nat) : Bool :=
  let t := s.tcore core
  t.queue.isEmpty && t.granted.isEmpty && t.running.isEmpty

/-- TC_CLOCK_GATE (R526, R529): only as deep as every easel that may need the T-core tolerates. -/
def execTcClockGate (core : Fin 48) (s : State) : Res :=
  .next (if s.qRuns && !s.tcHeld core && s.tcIdle core && decide (s.tcPower core = 0 ∧ exitGate ≤ s.leastBudget (s.tcEasels core)) then s.setTcPower core 1 else s)

/-- TC_POWER_GATE (R526, R531): both weight sets of every array are lost. -/
def execTcPowerGate (core : Fin 48) (s : State) : Res :=
  .next (if s.tcIdle core && decide (s.tcPower core = 1 ∧ exitPower ≤ s.leastBudget (s.tcEasels core)) && !NSet.has core s.pow.waking then
      (s.setTcore core 0 { s.tcore core with warm := [] }).setTcPower core 2
    else s)

/-- STACK_SELF_REFRESH_ENTRY (R526, R529): the stack refreshes itself with every page closed. -/
def execStackSelfRefreshEntry (stack : Fin 18) (s : State) : Res :=
  .next (if decide (s.fld stack F.MEM_STK_STATUS_STATE = 3 ∧ exitRefresh ≤ s.leastBudget (s.stackEasels stack)) then
      ({ s with bond := { s.bond with openRow := SMap.keep (fun k => decide (k / 1536 ≠ stack)) s.bond.openRow } }.orFld 0 F.PWR_STK_SR_SR (2 ^ stack.val)).setFld stack
        F.MEM_STK_STATUS_STATE 4
    else s)

/-- Whether a link has a packet to send or an unacknowledged one. -/
def State.linkBusy (s : State) (l : Nat) : Bool := !(s.yzWaits l).isEmpty || s.yz.conns.any (fun p => p.2.unacked.any (fun x => decide (x.path = some l)))

/-- LANE_SLEEP (R526, R529): UP stays set (R531). -/
def execLaneSleep (link : Fin 16) (s : State) : Res :=
  .next (if decide (s.fld 0 (F.YZF_LINK_STATUS_MODE link) = 1 ∧ exitLane ≤ s.leastBudget (s.linkEasels link)) && s.flag 0 (F.YZF_LINK_STATUS_UP link) &&
      !s.linkBusy link then
      s.orFld 0 F.PWR_LINK_SLEEP_SLEEP (2 ^ link.val)
    else s)

/-- The number of a resource: T-core c, 64 + stack, 128 + link. -/
def resNum : PowRes → Nat
  | .tcore c => c
  | .stack k => 64 + k
  | .link l => 128 + l

/-- Whether a resource is in a power state. -/
def State.asleep (s : State) (r : Nat) : Bool :=
  if r < 64 then decide (s.tcPower r ≠ 0)
  else if r < 128 then (s.fld 0 F.PWR_STK_SR_SR).testBit (r - 64)
  else (s.fld 0 F.PWR_LINK_SLEEP_SLEEP).testBit (r - 128)

/-- A resource in a power state starts its exit (R530). -/
def State.startWake (s : State) (r : Nat) : State :=
  if s.asleep r then { s with pow := { s.pow with waking := NSet.add r s.pow.waking } } else s

/-- POWER_WAKE (R530). -/
def execPowerWake (res : PowRes) (peer : Bool) (s : State) : Res :=
  .next (if peer && decide (resNum res < 128) then s else s.startWake (resNum res))

/-- Count the commands that waited for a T-core's exit (R530). -/
def State.countWaits (s : State) (core : Nat) : State :=
  forEach ((s.tcore core).queue ++ (s.tcore core).granted) (fun c (t : State) => t.incSat c.easel F.PWR_EAS_WAKE_WAIT_COUNT 1) s

/-- A resource accepts work again. -/
def State.endWake (s : State) (r : Nat) : State :=
  let s1 := if r < 64 then (s.countWaits r).setTcPower r 0
    else if r < 128 then (s.clrFld 0 F.PWR_STK_SR_SR (2 ^ (r - 64))).setFld (r - 64) F.MEM_STK_STATUS_STATE 3
    else s.clrFld 0 F.PWR_LINK_SLEEP_SLEEP (2 ^ (r - 128))
  { s1.incWrap 0 F.PWR_WAKES_COUNT 1 with pow := { s1.pow with waking := NSet.remove r s1.pow.waking } }

/-- WAKE_EXIT_DONE (R530). -/
def execWakeExitDone (res : PowRes) (s : State) : Res :=
  .next (if NSet.has (resNum res) s.pow.waking && s.asleep (resNum res) then s.endWake (resNum res) else s)

/-- Whether a resource's governing budget lies below the exit time of the state it is in (R530). -/
def State.overBudget (s : State) (r : Nat) : Bool :=
  if r < 64 then decide (s.leastBudget (s.tcEasels r) < if s.tcPower r = 2 then exitPower else exitGate)
  else if r < 128 then decide (s.leastBudget (s.stackEasels (r - 64)) < exitRefresh)
  else decide (s.leastBudget (s.linkEasels (r - 128)) < exitLane)

/-- Every resource whose governing budget has fallen below its state's exit time starts its exit (R530). -/
def State.wakeOver (s : State) : State :=
  forEach (List.range 48 ++ (List.range 18).map (64 + ·) ++ (List.range 16).map (128 + ·)) (fun r (t : State) => if t.asleep r && t.overBudget r then t.startWake r else t) s

/-- What wakes a resource without a command of its own: a T-core in a power state has work, or a governing budget has fallen below the exit time (R530). -/
def State.wakeDue (s : State) : State :=
  if (List.range 3).all (fun i => decide (s.fld 0 (F.PWR_TC_STATE_STATE i) = 0)) && decide (s.fld 0 F.PWR_STK_SR_SR = 0 ∧ s.fld 0 F.PWR_LINK_SLEEP_SLEEP = 0) then s
  else (forUpto 48 (fun c (t : State) => if t.asleep c && !t.tcIdle c then t.startWake c else t) s).wakeOver

/-- A write of PWR_EAS_WAKE (R527, R528, R544): by the easel's owner, or by management for a tenant. -/
def State.writeWake (s : State) (req : Requester) (e us : Nat) : State :=
  if decide (e ≠ 0) && (req.manages || ownsEas req e) then (s.setFld e F.PWR_EAS_WAKE_US us).wakeOver else s

/-- WAKE_BUDGET_WRITE (R527). -/
def execWakeBudgetWrite (req : Requester) (us : BitVec 16) (s : State) : Res :=
  s.access req F.PWR_EAS_WAKE_US.off (fun easel =>
    .next (s.writeWake req easel us.toNat))

/-! ### Pump and valve (R535 to R538) -/

/-- Pump duty and valve opening at a drive level, in per cent (R535). -/
def pumpDuty (d : Nat) : Rat := if d ≤ 511 then 25 else 25 + 75 * ((d : Rat) - 511) / 512
def valveOpen (d : Nat) : Rat := if d ≤ 511 then 100 * (d : Rat) / 511 else 100

/-- Set the drive level D and what it drives (R535). -/
def State.setDrive (s : State) (d : Nat) : State :=
  ((s.setFld 0 F.CLM_DRIVE_LEVEL d).setFld 0 F.CLM_PUMP_DUTY (shown (pumpDuty d))).setFld 0 F.CLM_VALVE_OPEN (shown (valveOpen d))

/-- DRIVE_ADJUST (R536): escalation and a failed pump hold D at full (R537, R538). -/
def execDriveAdjust (s : State) : Res :=
  let hot := s.fld 0 F.CLM_HOT_DIE_MAX
  let d := s.fld 0 F.CLM_DRIVE_LEVEL
  let lo := s.fld 0 F.CLM_CFG_D_MIN
  let set := 4 * s.fld 0 F.CLM_CFG_T_SET
  .next (if !s.pinsTaken || s.flag 0 F.CLM_DRIVE_ESCALATED || s.flag 0 F.CLM_DRIVE_PUMP_FAIL then s
    else if set < hot then s.setDrive (min (d + 16) 1023)
    else if hot + 8 < set ∧ lo < d then s.setDrive (max (d - 8) lo)
    else s)

/-- Escalation begins (R537): D is full at once; it is counted and raised once. -/
def State.escalate (s : State) (injected : Bool) : State :=
  if s.flag 0 F.CLM_DRIVE_ESCALATED then s
  else
    let s1 := ((s.setDrive 1023).setFlag 0 F.CLM_DRIVE_ESCALATED true).incSat 0 F.CLM_EVENTS_ESCALATIONS 1
    { s1 with pow := { s1.pow with calm := 0 } }.detect 202 atelier ukNone 0 0 0 sevService injected

/-- ESCALATION_END (R537): after 100 evaluations in a row with the margin. -/
def execEscalationEnd (s : State) : Res :=
  .next (if s.flag 0 F.CLM_DRIVE_ESCALATED && decide (100 ≤ s.pow.calm) then s.setFlag 0 F.CLM_DRIVE_ESCALATED false else s)

/-- PUMP_FAILURE (R538): below 1,200 rpm for 1 s at a duty of 50% or more. -/
def execPumpFailure (rpm : BitVec 16) (s : State) : Res :=
  let r := s.inject 201 atelier
  let s1 := r.2.setFld 0 F.CLM_PUMP_RPM rpm.toNat
  let real := decide (50 ≤ pumpDuty (s1.fld 0 F.CLM_DRIVE_LEVEL)) && decide (rpm.toNat < 1200)
  .next (if s.pinsTaken && (real || r.1.isSome) && !s1.flag 0 F.CLM_DRIVE_PUMP_FAIL then
      ((((s1.setDrive 1023).setFlag 0 F.CLM_DRIVE_PUMP_FAIL true).setFld 0 F.PWR_ADMIT_LEVEL 0).incSat 0 F.CLM_EVENTS_PUMP_FAILS 1).detect 201 atelier ukNone 0 0 0
        sevService r.1.isSome
    else s1)

/-- PUMP_FAIL_CLEAR (R538, R544). -/
def execPumpFailClear (req : Requester) (s : State) : Res :=
  s.access req F.CLM_DRIVE_LEVEL.off (fun _ =>
    .next (if req.manages then s.setFlag 0 F.CLM_DRIVE_PUMP_FAIL false else s))

/-! ### Sensors and the thermal trip (R532 to R534) -/

/-- The zone of a die sensor: bays 0 to 17, 18 the Centre services, 19 the I/O die edges (R532). -/
def dieZone (i : Nat) : Nat := if i < 54 then i / 3 else if i < 60 then 18 else 19

/-- The panel whose detector reports a die sensor: the Centre services lie in panel 1; the I/O die edges in none. -/
def diePanel (i : Nat) : Option Nat := if i < 54 then some (i / 18) else if i < 60 then some 1 else none

/-- The index of the largest of `n` values, the lowest index first. -/
def hottest (n : Nat) (f : Nat → Nat) : Nat := (List.range n).foldl (fun m i => if f m < f i then i else m) 0

/-- A thermal trip (R534): the sensor and its reading are kept, and the chip is reset. -/
def State.thermalTrip (s : State) (source temp : Nat) (injected : Bool) : State :=
  (((s.setFld 0 F.CLM_TRIP_SOURCE source).setFld 0 F.CLM_TRIP_TEMP temp).resetFaultBy 209 injected).chipReset srThermal 0

/-- The die limit of R539, in steps of 0.25 °C. -/
def State.dieLimit (s : State) : Nat := 4 * (105 - s.fld 0 F.CLM_CFG_HEADROOM)

/-- A monitor sample of a thermal detector: an event where its condition holds, or where its injection point says so (21 R579). -/
def State.thermal (s : State) (det unitKind unit : Nat) (holds : Bool) : State :=
  let r := s.inject det atelier
  if holds || r.1.isSome then r.2.detect det atelier unitKind unit 0 0 sevContained r.1.isSome else r.2

/-- One die reading: the sensor's register and its consecutive readings of 115 °C or more. -/
def State.readDie (s : State) (i t : Nat) : State :=
  let n := if 460 ≤ t then SMap.get (fun _ => 0) s.pow.dieHot i + 1 else 0
  { s with pow := { s.pow with dieHot := SMap.set (fun _ => 0) s.pow.dieHot i n } }.setFld 0 (F.CLM_DIE_TEMP_TEMP i) (min t 1023)

/-- Show the hottest sensor, and each zone's hottest. -/
def State.showDie (s : State) (temps : Nat → Nat) : State :=
  let h := hottest 64 temps
  let s1 := (s.setFld 0 F.CLM_HOT_DIE_MAX (min (temps h) 1023)).setFld 0 F.CLM_HOT_SENSOR h
  forUpto 20 (fun z (t : State) =>
    t.setFld z F.CLM_ZONE_T_TEMP (min (((List.range 64).filter (fun i => decide (dieZone i = z))).foldl (fun m i => max m (temps i)) 0) 1023)) s1

/-- DIE_SENSOR_READING (R532, R534): a sensor that crosses the die limit is an event of its panel's detector (notes/assumptions/94.md). -/
def execDieSensorReading (temps : List Nat) (bad : List Nat) (s : State) : Res :=
  if !s.qRuns then .next s
  else
    let at_ := fun i => nth 0 temps i
    let lim := s.dieLimit
    let crossed := fun i => decide (s.fld 0 (F.CLM_DIE_TEMP_TEMP i) ≤ lim ∧ lim < at_ i)
    let s1 := (forUpto 64 (fun i (t : State) => t.readDie i (at_ i)) s).showDie at_
    let s2 := forUpto 3 (fun p (t : State) =>
      let mine := (List.range 60).filter (fun i => decide (diePanel i = some p))
      match mine.filter crossed with
      | [] => t.thermal (206 + p) ukSensor (nth 0 mine 0) false
      | i :: r => forEach r (fun j (u : State) => u.detect (206 + p) atelier ukSensor j 0 0 sevContained false) (t.thermal (206 + p) ukSensor i true)) s1
    let s3 := match bad.filter (fun i => decide (i < 64)) with
      | [] => s2.thermal 210 ukSensor 0 false
      | i :: r => forEach r (fun j (u : State) => u.detect 210 atelier ukSensor j 0 0 sevContained false) (s2.thermal 210 ukSensor i true)
    let r := s3.inject 209 atelier
    .next (match (List.range 64).find? (fun i => decide (4 ≤ SMap.get (fun _ => 0) r.2.pow.dieHot i)) with
      | some i => r.2.thermalTrip i (min (at_ i) 1023) r.1.isSome
      | none => if r.1.isSome then r.2.thermalTrip (hottest 64 at_) (min (at_ (hottest 64 at_)) 1023) true else r.2)

/-- STACK_TEMP_READING (04 R110; R532, R534, R537): the refresh rate follows; above 95 °C escalation begins. -/
def execStackTempReading (stack : Fin 18) (temp : Nat) (bad : Bool) (s : State) : Res :=
  if !s.qRuns then .next s
  else
    let k := stack.val
    let was := s.fld k F.MEM_STK_TEMP_TEMP
    let n := if 105 ≤ temp then SMap.get (fun _ => 0) s.pow.stkHot k + 1 else 0
    let s1 := { s with pow := { s.pow with stkHot := SMap.set (fun _ => 0) s.pow.stkHot k n } }
    let s2 := ((s1.setFld k F.MEM_STK_TEMP_TEMP (min temp 255)).setFld k F.MEM_STK_TEMP_PEAK (max (s1.fld k F.MEM_STK_TEMP_PEAK) (min temp 255))).aimRate k temp
    let h := hottest 18 (fun i => s2.fld i F.MEM_STK_TEMP_TEMP)
    let s3 := (s2.setFld 0 F.CLM_HOT_STACK_MAX (s2.fld h F.MEM_STK_TEMP_TEMP)).setFld 0 F.CLM_HOT_STACK h
    let s4 := (s3.thermal (203 + k / 6) ukStack k (decide (was ≤ 95 ∧ 95 < temp))).thermal 211 ukStack k bad
    let s5 := if 95 < temp then s4.escalate false else s4
    .next (if 2 ≤ n then s5.thermalTrip (64 + k) (min (4 * temp) 1023) false else s5)

/-- A coolant sensor is lost (R533): 199 the inlet's detector, 200 the outlet's. -/
def State.coolantLost (s : State) (det : Nat) (injected : Bool) : State :=
  ((s.setFlag 0 F.CLM_DRIVE_SENSOR_LOST true).incSat 0 F.CLM_EVENTS_SENSOR_LOSS 1).detect det atelier ukNone 0 0 0 sevContained injected

/-- A reading of one coolant sensor, in 0.25 °C: valid from 0 to 80 °C (R533). -/
def State.readCoolant (s : State) (det : Nat) (f : Fld) (t : Nat) : State :=
  let r := s.inject det atelier
  let s1 := r.2.setFld 0 f (min t 1023)
  if 320 < t ∨ r.1.isSome = true then s1.coolantLost det r.1.isSome else s1

/-- COOLANT_READING (R532, R533): SENSOR_LOST clears once both sensors answer validly. -/
def execCoolantReading (inlet outlet : Nat) (s : State) : Res :=
  if !s.qRuns then .next s
  else .next (((s.setFlag 0 F.CLM_DRIVE_SENSOR_LOST false).readCoolant 199 F.CLM_COOLANT_INLET inlet).readCoolant 200 F.CLM_COOLANT_OUTLET outlet)

/-- COOLANT_SENSOR_LOSS (R533): no answer for 50 ms. -/
def execCoolantSensorLoss (outlet : Bool) (s : State) : Res :=
  .next (if s.qRuns then s.coolantLost (if outlet then 200 else 199) false else s)

/-! ### Prediction and admission (R539 to R541) -/

/-- The flow table K (R539). -/
def flowK (d : Nat) : Rat := nth 1 [2.60, 2.00, 1.60, 1.35, 1.20, 1.10, 1.04, 1.00] (d / 128)

/-- The inlet temperature: 45 °C while a sensor is lost (R533). -/
def State.inlet (s : State) : Rat := if s.flag 0 F.CLM_DRIVE_SENSOR_LOST then 45 else (s.fld 0 F.CLM_COOLANT_INLET : Rat) / 4

/-- The radio power of a zone (R539): the largest of the last 100 ms. -/
def State.prad (s : State) (z : Nat) : Nat := s.fld z F.CLM_ZONE_PRAD_W

/-- e to the power −10/τ, to 1,024 fraction bits (R539 gives no precision: DESIGN CHOICE, notes/assumptions/125.md). -/
def expDecay (tau : Nat) : Rat := (fixOne : Rat) / (expFix 10 tau : Rat)

/-- A temperature 10 ms ahead at level n/16, from a present temperature (R539). -/
def State.predict (s : State) (z : Nat) (temp : Rat) (n : Nat) : Rat :=
  let e := expDecay (s.fld z F.CLM_ZONE_TAU_MS)
  s.inlet + (temp - s.inlet) * e +
    (s.fld z F.CLM_ZONE_R_MKW : Rat) / 1000 * flowK (s.fld 0 F.CLM_DRIVE_LEVEL) *
      ((s.prad z : Rat) + (n : Rat) / 16 * (s.fld z F.CLM_ZONE_PINF_W : Rat)) * (1 - e)

def State.predictDie (s : State) (z n : Nat) : Rat := s.predict z ((s.fld z F.CLM_ZONE_T_TEMP : Rat) / 4) n
def State.predictStack (s : State) (z n : Nat) : Rat := s.predict z (s.fld z F.MEM_STK_TEMP_TEMP : Rat) n

/-- Whether every zone's predictions at a level lie within their limits less a margin (R537, R540). -/
def State.tempFits (s : State) (n : Nat) (margin : Rat) : Bool :=
  (List.range 20).all (fun z => decide (s.predictDie z n ≤ (s.dieLimit : Rat) / 4 - margin) && (decide (18 ≤ z) || decide (s.predictStack z n ≤ 95 - margin)))

/-- Whether the power at a level stays under the cap (R540). -/
def State.powerFits (s : State) (est now n : Nat) : Bool :=
  let full : Nat := ((List.range 20).map (fun z => s.fld z F.CLM_ZONE_PINF_W)).foldl (· + ·) 0
  decide ((est : Rat) + ((n : Rat) - (now : Rat)) / 16 * (full : Rat) ≤ (s.fld 0 F.PWR_CAP_W : Rat))

/-- A new 1 ms of radio power of each zone (R539). -/
def State.notePrad (s : State) (prad : List Nat) : State :=
  forUpto 20 (fun z (t : State) =>
    let l : List Nat := (nth 0 prad z :: SMap.get (fun _ => []) t.pow.prad z).take 100
    { t with pow := { t.pow with prad := SMap.set (fun _ => []) t.pow.prad z l } }.setFld z F.CLM_ZONE_PRAD_W (min (l.foldl max 0) 1023)) s

/-- Show the predictions at the level in force and at level 0 (R546, R547). -/
def State.showPred (s : State) (n : Nat) : State :=
  let at_ := fun z => shown (4 * s.predictDie z n)
  let zero := fun z => shown (4 * s.predictDie z 0)
  let h := (List.range 20).foldl (fun m z => if s.predictDie m n < s.predictDie z n then z else m) 0
  let h0 := (List.range 20).foldl (fun m z => if s.predictDie m 0 < s.predictDie z 0 then z else m) 0
  let s1 := ((s.setFld 0 F.CLM_PRED_AT_LEVEL (at_ h)).setFld 0 F.CLM_PRED_AT_ZERO (zero h0)).setFld 0 F.CLM_PRED_ZONE h
  forUpto 20 (fun z (t : State) => t.setFld z F.CLM_ZONE_T_PRED (at_ z)) s1

/-- Escalation begins, or its end comes nearer (R537). -/
def State.judgeEscalation (s : State) : State :=
  let r := s.inject 202 atelier
  let cool := (List.range 18).all (fun k => decide (r.2.fld k F.MEM_STK_TEMP_TEMP ≤ 93))
  let hot := (List.range 18).any (fun k => decide (95 < r.2.fld k F.MEM_STK_TEMP_TEMP))
  if !r.2.tempFits 0 0 || hot || r.1.isSome then
    let s1 := r.2.escalate r.1.isSome
    { s1 with pow := { s1.pow with calm := 0 } }
  else { r.2 with pow := { r.2.pow with calm := if r.2.tempFits 0 3 && cool then r.2.pow.calm + 1 else 0 } }

/-- Set the admission level (R540): the largest that meets both conditions, 0 with a failed pump (R538); a window opens (R541). -/
def State.setAdmission (s : State) (est : Nat) : State :=
  let now := s.fld 0 F.PWR_ADMIT_LEVEL
  let n := ((List.range 17).filter (fun n => s.tempFits n 0 && s.powerFits est now n)).foldl max 0
  let s1 := ((s.setFld 0 F.PWR_ADMIT_LEVEL (if s.flag 0 F.CLM_DRIVE_PUMP_FAIL then 0 else n)).setFlag 0 F.PWR_ADMIT_BY_TEMP
    (decide (n < 16) && !(s.tempFits 0 0 && s.tempFits (n + 1) 0))).setFlag 0 F.PWR_ADMIT_BY_POWER
    (decide (n < 16) && !(s.powerFits est now 0 && s.powerFits est now (n + 1)))
  { s1 with sched := { s1.sched with window := [] } }

/-- ADMISSION_EVALUATE (R537, R539 to R541); before step 9 the level is 0. -/
def execAdmissionEvaluate (est : Nat) (prad : List Nat) (s : State) : Res :=
  if !s.pinsTaken then .next s
  else
    let s1 := ((s.notePrad prad).setFld 0 F.PWR_EST_W (min est 2047)).setFld 0 F.PWR_EST_PEAK (max (s.fld 0 F.PWR_EST_PEAK) (min est 2047))
    let s2 := s1.judgeEscalation.setAdmission est
    .next ((s2.showPred (s2.fld 0 F.PWR_ADMIT_LEVEL)).admitBuilds)

/-! ### The hold-up store (R543) -/

/-- HOLDUP_SAMPLE (R543): charging below ON, and always in brace mode or with a rail below warning. -/
def execHoldupSample (mv : BitVec 16) (s : State) : Res :=
  if !s.qRuns then .next s
  else
    let v := mv.toNat
    let s1 := s.setFld 0 F.CLM_HOLDUP_MV v
    let chg := if s.brace || decide (s.fld 0 F.PWR_SUP_STATUS_BELOW_WARN ≠ 0) || decide (v < 100 * s.fld 0 F.CLM_HOLDUP_CFG_ON) then true
      else if 100 * s.fld 0 F.CLM_HOLDUP_CFG_OFF < v then false else s.flag 0 F.CLM_HOLDUP_CHG
    let s2 := if s.pinsTaken then s1.setFlag 0 F.CLM_HOLDUP_CHG chg else s1
    let r := s2.inject 192 atelier
    let low := decide (v < 40000) || r.1.isSome
    let s3 := r.2.setFlag 0 F.CLM_HOLDUP_LOW low
    .next (if low && !s.flag 0 F.CLM_HOLDUP_LOW then (s3.incSat 0 F.CLM_EVENTS_HOLDUP_LOW 1).detect 192 atelier ukNone 0 0 0 sevContained r.1.isSome else s3)

end Sys2Proof.Machine
end

