-- ==== Sys2Proof/Machine/Reset.lean ====
section
/-! DEFINITION. Machine/Reset.lean: the meanings of the reset sources, clock loss and settling, the watchdog, supply supervision and brace mode, and the soft
resets (03), and of the debug reset (20 R567). -/
namespace Sys2Proof.Machine

open Sys2Proof

/-! ### Pins and the host (R62, R66, R75) -/

/-- POWER_ON_RESET (R77): the supply monitors hold the chip until SUPPLY_RESET_RELEASE (22 R600). -/
def execPowerOnReset (s : State) : Res := .next (s.chipReset srPor srPor)

/-- CARD_RESET_ASSERT (R62). -/
def execCardResetAssert (s : State) : Res :=
  .next (if s.fld 0 F.RST_HELD_HELD &&& srCard ≠ 0 then s else s.chipReset srCard srCard)

/-- CARD_RESET_RELEASE (R75, R76). -/
def execCardResetRelease (s : State) : Res :=
  .next (if s.fld 0 F.RST_HELD_HELD &&& srCard ≠ 0 then s.chipRelease srCard else s)

/-- PERST_ASSERT (R62, R64, R66). -/
def execPerstAssert (s : State) : Res :=
  .next (if s.fld 0 F.RST_HELD_HELD &&& srPerst ≠ 0 then s else if s.perstChip then s.chipReset srPerst srPerst else s.hostReset srPerst)

/-- PERST_RELEASE (R75, R78, R80). -/
def execPerstRelease (s : State) : Res :=
  .next (if s.fld 0 F.RST_HELD_HELD &&& srPerst = 0 then s
    else if s.rst.chipSrc &&& srPerst ≠ 0 then s.chipRelease srPerst else s.hostRelease srPerst)

/-- CXL_HOT_RESET (R62, R66). -/
def execCxlHotReset (s : State) : Res := .next s.hotReset

/-- LINK_DISABLE (R66): the controller stays in reset until the link is enabled again. -/
def execLinkDisable (s : State) : Res :=
  .next (if s.fld 0 F.RST_HELD_HELD &&& srHot ≠ 0 then s else if s.hotChip then s.chipReset srHot srHot else s.hostReset srHot)

/-- LINK_REENABLE (R66). -/
def execLinkReenable (s : State) : Res :=
  .next (if s.fld 0 F.RST_HELD_HELD &&& srHot = 0 then s
    else if s.rst.chipSrc &&& srHot ≠ 0 then s.chipRelease srHot else s.hostRelease srHot)

/-- DEBUG_RESET (20 R567, R569). -/
def execDebugReset (req : Requester) (value : BitVec 32) (s : State) : Res :=
  s.access req F.TRU_DBG_RESET_KICK.off (fun _ =>
    .next (if req.manages && s.power powDebugReset && decide (value.toNat = 0xD8B6) && s.qRuns then s.chipReset srDebug 0 else s))

/-! ### Clocks (R59 to R61) -/

/-- Check one monitor of a resetting detector: whether it fires, truly or by injection (21 R579). -/
def State.sample (s : State) (det : Nat) (real : Bool) : Bool × State :=
  let r := s.inject det atelier
  (real || r.1.isSome, if real || r.1.isSome then r.2.resetFaultBy det r.1.isSome else r.2)

/-- Check a row of monitors, the lowest first; bit i of the answer says whether detector `det` + i fired. -/
def State.samples (s : State) (det n real : Nat) : Nat × State :=
  (List.range n).foldl (fun a i => let r := a.2.sample (det + i) (real.testBit i); (if r.1 then a.1 + 2 ^ i else a.1, r.2)) (0, s)

/-- CLOCK_LOSS (R61): the chip stays in reset until the reference is present. Detectors 193 reference, 194 root, 195 to 198 K, S, H, Q. -/
def execClockLoss (doms : BitVec 4) (ref root : Bool) (s : State) : Res :=
  let r := s.samples 193 6 ((if ref then 1 else 0) + (if root then 2 else 0) + 4 * doms.toNat)
  .next (if r.1 = 0 then r.2
    else
      let s1 := (((r.2.setFld 0 F.CLK_LOSS_DOMAIN (r.1 / 4)).setFld 0 F.CLK_LOSS_REF r.1).setFld 0 F.CLK_LOSS_ROOT (r.1 / 2)).incSat 0 F.CLK_LOSS_COUNT 1
      let s2 := s1.chipReset srClock (if ref then srClock else 0)
      if ref then { s2.setFlag 0 F.CLK_STATUS_REF_OK false with rst := { s2.rst with refLost := true } } else s2)

/-- REFERENCE_RETURN (R61). -/
def execReferenceReturn (s : State) : Res :=
  .next (if s.rst.refLost then { s with rst := { s.rst with refLost := false } }.chipRelease srClock else s)

/-- ROOT_PLL_LOCK (R60; R78): bring-up step 2. -/
def execRootPllLock (s : State) : Res :=
  .next (if s.rst.chipSrc = 0 ∧ s.fld 0 F.RST_BRINGUP_STEP = 1 then (s.setFlag 0 F.CLK_STATUS_ROOT_LOCK true).setFld 0 F.RST_BRINGUP_STEP 2 else s)

/-! ### The watchdog (R67) -/

/-- WATCHDOG_EXPIRY (R67): the ROM restarts the watchdog while it waits for a host push. -/
def execWatchdogExpiry (s : State) : Res :=
  .next (if s.rst.wdog.isSome && !s.flag 0 F.RST_BRINGUP_RECOVERY then s.chipReset srWdog 0 else s)

/-- A write of RST_WDOG_KICK (R67, R90). -/
def State.kickWdog (s : State) (req : Requester) (value : Nat) : State :=
  if req.atelier && decide (value = 0x6B1C) && s.rst.wdog.isSome then { s with rst := { s.rst with wdog := some s.nowNs } } else s

/-- WATCHDOG_KICK (R67). -/
def execWatchdogKick (req : Requester) (value : BitVec 32) (s : State) : Res :=
  s.access req F.RST_WDOG_KICK_KICK.off (fun _ =>
    .next (s.kickWdog req value.toNat))

/-! ### Supplies (R86 to R89) -/

/-- A supply reset: rails below their reset level (`lo`) or above nominal; detectors 185 to 191. -/
def State.supplyReset (s : State) (f : Fld) (rails : Nat) : State :=
  let r := s.samples 185 7 rails
  if r.1 = 0 then r.2 else (r.2.orFld 0 f r.1).chipReset srSupply srSupply

/-- RAIL_RESET_LEVEL (R86, R89). -/
def execRailResetLevel (rails : BitVec 7) (s : State) : Res := .next (s.supplyReset F.PWR_SUP_TRIP_UNDER rails.toNat)

/-- RAIL_OVER_VOLTAGE (R86, R89). -/
def execRailOverVoltage (rails : BitVec 7) (s : State) : Res := .next (s.supplyReset F.PWR_SUP_TRIP_OVER rails.toNat)

/-- SUPPLY_RESET_RELEASE (22 R600): the power-on detector and the supply monitors let go. -/
def execSupplyResetRelease (s : State) : Res :=
  .next (if s.rst.chipSrc &&& (srPor ||| srSupply) ≠ 0 then s.chipRelease (srPor ||| srSupply) else s)

/-- The warning monitors, detectors 178 to 184: bit i of the answer says whether rail i is below its warning level, truly or by injection; a rail that falls
below it is an event (R87; 21 R579). -/
def State.warnSamples (s : State) (rails : Nat) : Nat × State :=
  (List.range 7).foldl (fun a i =>
    let q := a.2.inject (178 + i) atelier
    let low := rails.testBit i || q.1.isSome
    let fell := low && !(s.fld 0 F.PWR_SUP_STATUS_BELOW_WARN).testBit i
    (if low then a.1 + 2 ^ i else a.1, if fell then q.2.detect (178 + i) atelier ukRail i 0 0 sevService q.1.isSome else q.2)) (0, s)

/-- BRACE_ENTRY (R87, R88, R92): the rails that the monitors show below their warning level now. Brace mode begins with the first; a further rail makes no new near
miss, and one that has recovered leaves BELOW_WARN. Model's choice: notes/assumptions/153.md. -/
def execBraceEntry (rails : BitVec 7) (s : State) : Res :=
  let r := s.warnSamples rails.toNat
  .next (if !s.qRuns then s
    else if r.1 = 0 then r.2.setFld 0 F.PWR_SUP_STATUS_BELOW_WARN 0
    else
      let s1 := (r.2.orFld 0 F.PWR_BRACE_CAUSE_RAIL r.1).setFld 0 F.PWR_SUP_STATUS_BELOW_WARN r.1
      let s2 := if s.brace then s1 else s1.incSat 0 F.PWR_NEARMISS_COUNT 1
      (s2.setFlag 0 F.PWR_SUP_STATUS_BRACE true).setFlag 0 F.CLM_HOLDUP_CHG true)

/-- BRACE_EXIT (R88): admission and issue resume; builds that wait go on (11 R350). -/
def execBraceExit (us : BitVec 32) (s : State) : Res :=
  .next (if s.brace then
      ((((s.setFlag 0 F.PWR_SUP_STATUS_BRACE false).setFld 0 F.PWR_SUP_STATUS_BELOW_WARN 0).setFld 0 F.PWR_BRACE_LAST_US us.toNat)).admitBuilds
    else s)

/-- SUPPLY_MEAS_PERIOD (R92). -/
def execSupplyMeasPeriod (mv : List (BitVec 16)) (s : State) : Res :=
  .next (if s.runs .q then forUpto 7 (fun r (t : State) => t.setFld 0 (F.PWR_SUP_MEAS_MV r) (nth 0 mv r).toNat) s else s)

/-! ### Soft resets (R72 to R74, R605) -/

/-- What a soft reset names: reach 0 chip, 1 I/O die, 2 panel, 3 core (T-core t as t, S-core n as 256 + n). -/
def softRange (reach target : Nat) : Bool :=
  match reach with
  | 0 => decide (target = 0)
  | 1 => decide (target < 2)
  | 2 => decide (target < 3)
  | _ => decide (target < 48 ∨ 256 ≤ target ∧ target < 256 + 192)

/-- Whether it reaches radio hardware (R73): every T-core carries radio commands. -/
def State.softRadio (s : State) (reach target : Nat) : Bool :=
  decide (0 < s.cellCount) &&
    (match reach with
    | 0 => true
    | 1 => decide (target = 0)
    | 2 => true
    | _ => decide (target < 256) || (s.cellOfCore (target - 256)).isSome)

/-- The refusal of a soft reset, in the order of R74: none where it is accepted. -/
def State.softRefusal (s : State) (reach key target : Nat) (force : Bool) : Option Nat :=
  if key ≠ 0x5A then some 5
  else if s.rst.soft.isSome then some 6
  else if !softRange reach target then some 4
  else if s.softRadio reach target && !force then some 3
  else none

/-- The RST_CAUSE bits of a soft reset (R63, R74). -/
def softBits (reach target : Nat) : Nat :=
  match reach with
  | 1 => srSoft + 2 ^ (20 + target)
  | 2 => srSoft + 2 ^ (16 + target)
  | _ => srSoft

/-- What a soft reset narrower than the chip does on acceptance (R68, R71, R605). -/
def State.softStart (s : State) (reach target : Nat) : State :=
  let b := softBits reach target
  let s1 := ((s.orFld 0 F.RST_CAUSE_CAUSE b).orFld 0 F.RST_HELD_HELD b).setFld 0 F.RST_SOFT_STATUS_RESULT 2
  let s2 := { s1 with rst := { s1.rst with soft := some (reach, target), softOut := false } }
  match reach with
  | 1 => ((s2.orFld 0 F.RST_DOMAIN_IODIE (2 ^ target)).ioDieReset target).showHeld
  | 2 => (s2.orFld 0 F.RST_DOMAIN_PANEL (2 ^ target)).panelReset target
  | _ => if target < 256 then s2.tcCoreReset target else s2.scCoreReset (target - 256)

/-- A write of RST_SOFT (R72 to R74); during apply every reset has chip reach (02 R31). -/
def State.softReset (s : State) (req : Requester) (reach key target : Nat) (force : Bool) : State :=
  if !req.manages || !s.qRuns then s
  else match s.softRefusal reach key target force with
    | some r => s.setFld 0 F.RST_SOFT_STATUS_RESULT r
    | none =>
      if reach = 0 ∨ s.fld 0 F.CVS_STATE_STATE = 1 then s.chipReset srSoft 0 else s.softStart reach target

/-- SOFT_RESET_CHIP (R72). -/
def execSoftResetChip (req : Requester) (key : BitVec 8) (target : BitVec 9) (force : Bool) (s : State) : Res :=
  s.access req F.RST_SOFT_REACH.off (fun _ =>
    .next (s.softReset req 0 key.toNat target.toNat force))

/-- SOFT_RESET_IO_DIE (R72). -/
def execSoftResetIoDie (req : Requester) (key : BitVec 8) (target : BitVec 9) (force : Bool) (s : State) : Res :=
  s.access req F.RST_SOFT_REACH.off (fun _ =>
    .next (s.softReset req 1 key.toNat target.toNat force))

/-- SOFT_RESET_PANEL (R69, R72). -/
def execSoftResetPanel (req : Requester) (key : BitVec 8) (target : BitVec 9) (force : Bool) (s : State) : Res :=
  s.access req F.RST_SOFT_REACH.off (fun _ =>
    .next (s.softReset req 2 key.toNat target.toNat force))

/-- SOFT_RESET_CORE (R71, R72). -/
def execSoftResetCore (req : Requester) (key : BitVec 8) (target : BitVec 9) (force : Bool) (s : State) : Res :=
  s.access req F.RST_SOFT_REACH.off (fun _ =>
    .next (s.softReset req 3 key.toNat target.toNat force))

/-- The held time ends and the unit is brought back (R605); a unit that bring-up has not released yet stays held (R75, R78). -/
def State.softBack (s : State) (reach target : Nat) : State :=
  let s1 := s.clrFld 0 F.RST_HELD_HELD (softBits reach target)
  let s2 := { s1 with rst := { s1.rst with softOut := true } }
  match reach with
  | 1 => if s.fld 0 F.RST_BRINGUP_STEP < 7 then s2.showHeld else (s2.clrFld 0 F.RST_DOMAIN_IODIE (2 ^ target)).showHeld.stepEleven
  | 2 => if s.fld 0 F.RST_BRINGUP_STEP < 9 then s2 else (s2.clrFld 0 F.RST_DOMAIN_PANEL (2 ^ target)).panelBack target
  | _ => if target < 256 then s2.tcBack target else s2.scBack (target - 256)

/-- SOFT_RESET_HOLD_END (R605). -/
def execSoftResetHoldEnd (s : State) : Res :=
  .next (match s.rst.soft with
    | some (reach, target) => if s.rst.softOut then s else s.softBack reach target
    | none => s)

/-- Whether every stack of a panel has retrained (R69; 04 R117). -/
def State.panelTrained (s : State) (p : Nat) : Bool := (panelStacks p).all (fun k => decide (s.fld k F.MEM_STK_STATUS_STATE ≠ 1 ∧ s.fld k F.MEM_STK_STATUS_STATE ≠ 5))

/-- Show that the cores of a unit that was reset take commands again (R605; 05 R170, 07 R232). -/
def State.showCores (s : State) (reach target : Nat) : State :=
  match reach with
  | 2 => forUpto 64 (fun i (t : State) => t.scShow (64 * target + i)) (forUpto 16 (fun i (t : State) => t.tcShow (16 * target + i)) s)
  | 3 => if target < 256 then s.tcShow target else s.scShow (target - 256)
  | _ => s

/-- SOFT_RESET_DONE (R605): the unit accepts work again; a panel with a stack that failed stays held (04 R117). -/
def execSoftResetDone (s : State) : Res :=
  .next (match s.rst.soft with
    | some (reach, target) =>
      if s.rst.softOut && (decide (reach ≠ 2) || s.panelTrained target) then
        ({ s.setFld 0 F.RST_SOFT_STATUS_RESULT 1 with rst := { s.rst with soft := none, softOut := false } }).showCores reach target
      else s
    | none => s)

/-- One stack of a panel ends its retraining (04 R117): READY again, or FAILED, which a fault reports and which loses the sequences in it (11 R363). -/
def State.retrained (s : State) (k : Nat) (ok : Bool) : State :=
  if s.fld k F.MEM_STK_STATUS_STATE ≠ 1 then s
  else if ok then (s.setFld k F.MEM_STK_STATUS_STATE 3).orFld 0 F.MEM_READY_READY (2 ^ k)
  else (((s.setFld k F.MEM_STK_STATUS_STATE 5).orFld 0 F.RST_DOMAIN_PANEL (2 ^ (k / 6))).detect k atelier ukStack k 0 0 sevService false).loseStack k

/-- PANEL_RETRAIN_DONE (R69, R605; 04 R117). -/
def execPanelRetrainDone (trained : BitVec 6) (s : State) : Res :=
  .next (match s.rst.soft with
    | some (2, p) => if s.rst.softOut then (panelStacks p).foldl (fun (t : State) k => t.retrained k (trained.toNat.testBit (k % 6))) s else s
    | _ => s)

end Sys2Proof.Machine
end

