-- ==== Sys2Proof/Machine/Sections.lean ====
section
/-! DEFINITION. Machine/Sections.lean: the ranges that apply and retouches hold the sections of a canvas to: each section's own rules, the lengths of 02 R604, and the
rules that join sections (02 R606; 03 R57, R64, R85; 04 R98, R105, R109; 07 R228, R229; 08 R234 to R238; 09 R270, R277, R297; 10 R307 to R311; 13 R383, R389,
R390; 14 R419, R422 to R424; 15 R443 to R446; 21 R572). -/
namespace Sys2Proof.Machine

open Sys2Proof

/-- The sections of a canvas by type; an absent one is empty. -/
abbrev Secs := Nat → Blob

def secClock : Nat := 0x1
def secReach : Nat := 0x2
def secSupply : Nat := 0x3
def secDetectors : Nat := 0x4
def secNoc : Nat := 0x5
def secPorts : Nat := 0x6
def secEasels : Nat := 0x7
def secPartition : Nat := 0x8
def secPalette : Nat := 0x9
def secFlows : Nat := 0xC
def secTree : Nat := 0xD
def secParam : Nat := 0xE
def secYaroz : Nat := 0xF
def secRanks : Nat := 0x10
def secLimits : Nat := 0x11
def secPatient : Nat := 0x12

/-- Refusal codes of apply (02 R30). -/
def cfFormat : Nat := 0x01
def cfMember : Nat := 0x02
def cfStepping : Nat := 0x03
def cfLength : Nat := 0x04
def cfSignature : Nat := 0x05
def cfDigest : Nat := 0x06
def cfMissing : Nat := 0x07
def cfDuplicate : Nat := 0x08
def cfUnknown : Nat := 0x09
def cfRange : Nat := 0x0A
def cfOvercommit : Nat := 0x0B
def cfCellUnits : Nat := 0x0C
def cfClockRadio : Nat := 0x0D
def cfTraining : Nat := 0x0E
def cfSourceLost : Nat := 0x10

/-- A number within bounds. -/
def within (lo hi v : Nat) : Bool := decide (lo ≤ v ∧ v ≤ hi)

/-- Every number below `n` passes. -/
def allBelow (n : Nat) (f : Nat → Bool) : Bool := (List.range n).all f

/-- Whether a list has no member twice. -/
def distinct : List Nat → Bool
  | [] => true
  | x :: r => !r.contains x && distinct r

/-- A unicast MAC address: the group bit of its first byte is clear, and it is not zero. -/
def unicast (mac : Nat) : Bool := decide (mac % 2 = 0 ∧ mac ≠ 0)

/-! ### Lengths (R604) -/

/-- The fixed length of a section; none where counts in the payload set it. -/
def fixedLen (t : Nat) : Option Nat :=
  match t with
  | 0x1 => some 16
  | 0x2 => some 16
  | 0x3 => some 56
  | 0x4 => some 32
  | 0x5 => some 64
  | 0x6 => some 512
  | 0x7 => some 4096
  | 0x8 => some 256
  | 0x9 => some 16448
  | 0xC => some 524288
  | 0xD => some 65536
  | 0xE => some 66560
  | 0xF => some 320
  | 0x11 => some 16
  | _ => none

/-- Whether a length judged with the section table holds. -/
def tableLen (t n : Nat) : Bool :=
  if t = secPatient then decide (n % 2 = 0 ∧ n ≤ 4096)
  else match fixedLen t with
    | some k => decide (n = k)
    | none => true

/-! ### Clocks, resets, supplies, detectors, mesh, ports -/

/-- CLOCK (03 R57). -/
def clockOk (b : Blob) : Bool :=
  [4, 5, 6, 8].contains (b.byte 0) && decide (b.byte 1 = 2 * b.byte 0 ∧ b.byte 2 = 16 ∧ b.byte 3 = 32) && b.zero 4 12

/-- RESET_REACH (03 R64). -/
def reachOk (b : Blob) : Bool := decide (b.byte 0 ≤ 1 ∧ b.byte 1 ≤ 1) && within 5 80 (b.le 2 2) && b.zero 4 12

/-- SUPPLY (03 R85). -/
def supplyOk (b : Blob) : Bool :=
  allBelow 7 (fun r =>
    let o := 8 * r
    decide (b.byte o = r) && within 40 100 (b.byte (o + 1)) && within 80 150 (b.byte (o + 2)) && decide (b.byte (o + 1) + 30 ≤ b.byte (o + 2)) &&
      within 5 30 (b.byte (o + 3)) && decide (b.byte (o + 3) < b.byte (o + 1)) && b.zero (o + 4) 4)

/-- Detectors whose action is a reset (21 R572). -/
def resetDet (d : Nat) : Bool := within 185 191 d || within 193 198 d || decide (d = 209)

/-- DETECTORS (21 R572). -/
def detectorsOk (b : Blob) : Bool :=
  allBelow 256 (fun d => let on := (b.byte (d / 8)).testBit (d % 8); if d < 212 then !resetDet d || on else !on)

/-- NOC, but for what CELLMAP asks (04 R109). -/
def nocOk (b : Blob) : Bool :=
  decide (b.byte 0 ≤ 3 ∧ b.byte 1 ≤ 1) && allBelow 3 (fun i => within 1 16 (b.byte (2 + i))) && b.zero 5 3 && allBelow 4 (fun i => within 2 16 (b.byte (8 + i))) &&
    decide (b.byte 8 + b.byte 9 + b.byte 10 + b.byte 11 ≤ 32) && b.zero 12 52

/-- The MAC address of a subport in PORTS. -/
def portMac (b : Blob) (p s : Nat) : Nat := b.le (64 * p + 8 + 6 * s) 6

/-- The MAC addresses of the subports that exist. -/
def portMacs (b : Blob) : List Nat := ((List.range 8).map (fun p => (List.range (modeSubs (b.byte (64 * p)))).map (portMac b p))).flatten

/-- PORTS (14 R419). -/
def portsOk (b : Blob) : Bool :=
  allBelow 8 (fun p =>
    let o := 64 * p
    decide (b.byte o ≤ 3 ∧ b.byte (o + 1) ≤ 2) && within 1518 9216 (b.le (o + 2) 2) && b.zero (o + 4) 4 && b.zero (o + 32) 32 &&
      allBelow 4 (fun s => if s < modeSubs (b.byte o) then unicast (portMac b p s) else decide (portMac b p s = 0))) &&
    distinct (portMacs b)

/-! ### Easels, partition, Palette, patience -/

/-- Whether an easel exists in EASELS. -/
def easelIn (b : Blob) (e : Nat) : Bool := decide (e < 64) && (b.byte (64 * e)).testBit 0

/-- The shares of an EASELS entry (10 R307). -/
def shareVec (b : Blob) (e : Nat) : ShareVec :=
  let o := 64 * e
  ⟨b.le (o + 8) 4, b.byte (o + 0xC), b.byte (o + 0xD), b.byte (o + 0xE), b.byte (o + 0xF), b.le (o + 0x10) 2, b.le (o + 0x12) 2, b.le (o + 0x14) 2⟩

/-- What every resource holds (10 R308). -/
def shareMax : ShareVec := ⟨7077888, 192, 64, 16, 64, 256, 24576, 8192⟩

/-- A share vector field by field under another. -/
def ShareVec.le (a b : ShareVec) : Bool :=
  decide (a.bonded ≤ b.bonded ∧ a.scratch ≤ b.scratch ∧ a.dmem ≤ b.dmem ∧ a.pmem ≤ b.pmem ∧ a.scSlots ≤ b.scSlots ∧ a.tcSlots ≤ b.tcSlots ∧ a.palette ≤ b.palette ∧
    a.seq ≤ b.seq)

/-- Field by field sum. -/
def ShareVec.add (a b : ShareVec) : ShareVec :=
  ⟨a.bonded + b.bonded, a.scratch + b.scratch, a.dmem + b.dmem, a.pmem + b.pmem, a.scSlots + b.scSlots, a.tcSlots + b.tcSlots, a.palette + b.palette, a.seq + b.seq⟩

/-- An entry of EASELS (10 R307; 04 R98). -/
def easelOk (b : Blob) (e : Nat) : Bool :=
  let o := 64 * e
  if b.byte o = 0 then decide (e ≠ 0) && b.zero o 64
  else decide (b.byte o = 1) && (shareVec b e).le shareMax && b.zero (o + 5) 3 && b.zero (o + 0x16) 42 &&
    (if e = 0 then b.zero (o + 1) 4 && b.zero (o + 0x14) 2
     else decide (b.byte (o + 1) ≤ 3 ∧ 1 ≤ b.byte (o + 2) ∧ b.byte (o + 3) ≤ 2) &&
       decide (b.byte (o + 4) ≤ match b.byte (o + 3) with
         | 0 => 0
         | 1 => 2
         | _ => 17))

/-- EASELS by itself. -/
def easelsOk (b : Blob) : Bool := allBelow 64 (easelOk b)

/-- The shares total no more than every resource (10 R308). -/
def sharesFit (b : Blob) : Bool := ((List.range 64).foldl (fun (t : ShareVec) e => t.add (shareVec b e)) ⟨0, 0, 0, 0, 0, 0, 0, 0⟩).le shareMax

/-- PARTITION, but for which easels exist (10 R310). -/
def partitionOk (b : Blob) : Bool := decide (b.byte 0 ≤ 2) && b.zero 1 15 && allBelow 240 (fun i => decide (b.byte (16 + i) ≤ 0x3F))

/-- PALETTE, but for which easels exist (09 R270). -/
def paletteOk (b : Blob) : Bool :=
  decide (b.byte 0 ≤ 32) && b.zero 1 63 &&
    allBelow 2048 (fun n =>
      let o := 64 + 8 * n
      if b.byte (o + 2) = 0 then b.zero o 8
      else decide (b.byte (o + 2) = 1 ∧ b.byte o < 64 ∧ b.byte (o + 1) ≤ 2 ∧ b.byte (o + 3) = 0 ∧ b.le (o + 4) 2 ≤ b.le (o + 6) 2 ∧ b.le (o + 6) 2 ≤ 24576))

/-- The channels of PATIENT. -/
def patientList (b : Blob) : List Nat := (List.range (b.len / 2)).map (fun i => b.le (2 * i) 2)

/-- Strictly rising. -/
def rising : List Nat → Bool
  | [] => true
  | x :: r => r.all (fun y => decide (x < y)) && rising r

/-- PATIENT, but for which channels are enabled (09 R297). -/
def patientOk (b : Blob) : Bool := rising (patientList b) && (patientList b).all (fun c => decide (c < 2048))

/-- CORE_LIMITS, but for what CELLMAP asks (07 R228). -/
def limitsOk (b : Blob) : Bool := within 16 65536 (b.le 0 4) && b.zero 4 12

/-! ### The radio -/

/-- The number of cells. -/
def cmCells (b : Blob) : Nat := b.le 0 2

/-- A field of a cell's entry (08 R237). -/
def cm (b : Blob) (c o n : Nat) : Nat := b.le (64 + 64 * c + o) n

/-- An entry of CELLMAP (08 R235, R237, R238). -/
def cellOk (b : Blob) (c : Nat) : Bool :=
  let f := cm b c
  within 0 383 (f 0 2) && decide (f 2 1 ≤ 3 ∧ f 3 1 ≤ 1 ∧ f 6 1 ≤ 1 ∧ f 7 1 ≤ 2) && within 11 (if f 3 1 = 0 then 270 else 273) (f 4 2) &&
    decide (f 8 1 ≤ 63 ∧ 1 ≤ f 9 1 ∧ f 8 1 + f 9 1 ≤ 64) && [9, 12].contains (f 0xE 1) && decide (f 0xF 1 ≤ 1) &&
    within 710 4000 (f 0x10 2) && within (f 0x10 2) 6000 (f 0x12 2) && within 710 6000 (f 0x14 2) && decide (f 0x16 2 ≤ 2000) &&
    within (f 0x16 2 + 300) 4000 (f 0x18 2) && decide (f 0x1A 2 ≤ 200) && within 500 2000 (f 0x1C 2) && within 500 3000 (f 0x1E 2) &&
    within 1 16 (f 0x20 1) && within 1 (f 0x20 1) (f 0x21 1) && decide (8 ≤ f 0x22 1 ∧ f 0x23 1 ≤ 60 ∧ f 0x24 1 ≤ 63) &&
    b.zero (64 + 64 * c + 0x25) 3 && b.zero (64 + 64 * c + 0x2E) 18 &&
    decide (max (f 0x10 2) (max (f 0x12 2) (f 0x14 2)) + 2500 ≤ 10 * f 0x1C 2) &&
    decide (f 0xC 2 + classFlows (f 2 1) ≤ 8192)

/-- The cell units of CELLMAP, of every panel (3) or of one (08 R234, R236). -/
def cmUnits (b : Blob) (p : Nat) : Nat :=
  (((List.range (cmCells b)).filter (fun c => decide (p = 3 ∨ cm b c 7 1 = p))).map (fun c => classUnits (cm b c 2 1))).foldl (· + ·) 0

/-- Two cells' flow ranges lie apart. -/
def cellsApart (b : Blob) (c d : Nat) : Bool :=
  decide (cm b c 0xC 2 + classFlows (cm b c 2 1) ≤ cm b d 0xC 2 ∨ cm b d 0xC 2 + classFlows (cm b d 2 1) ≤ cm b c 0xC 2)

/-- CELLMAP (08 R236 to R238), but for the total of R18. -/
def cellmapOk (b : Blob) : Bool :=
  let n := cmCells b
  b.zero 2 62 && allBelow n (cellOk b) && distinct ((List.range n).map (fun c => cm b c 0 2)) && allBelow 3 (fun p => decide (cmUnits b p ≤ 128)) &&
    allBelow n (fun c => allBelow c (cellsApart b c))

/-- Entries of RADIO_CODE's directory (07 R229). -/
def codeEntries (b : Blob) : Nat := b.le 0 2 + b.le 2 2
def codeField (b : Blob) (i o n : Nat) : Nat := b.le (64 + 32 * i + o) n

/-- Bytes of an entry's image or library. -/
def codeLen (b : Blob) (i : Nat) : Nat := codeField b i 8 4 + codeField b i 12 4

/-- A stroke library's layout (09 R277): `k` entries from one position and offset on; `stop` is the library's end. -/
def libOk (b : Blob) (stop : Nat) : Nat → Nat → Nat → Bool
  | 0, _, _ => true
  | k + 1, i, o =>
    decide (o + 16 ≤ stop ∧ b.le o 2 = i) && within 1 32 (b.byte (o + 2)) && b.zero (o + 3) 13 && decide (o + 16 + 16 * b.byte (o + 2) ≤ stop) &&
      libOk b stop k (i + 1) (o + 16 + 16 * b.byte (o + 2))

/-- A byte of RADIO_CODE that the header, the directory and the entries cover. -/
def codeCovers (b : Blob) (o : Nat) : Bool :=
  decide (o < 64 + 32 * codeEntries b) ||
    (List.range (codeEntries b)).any (fun i => decide (codeField b i 4 4 ≤ o ∧ o < codeField b i 4 4 + codeLen b i))

/-- RADIO_CODE (07 R229; 09 R277), but for what CELLMAP and EASELS ask. -/
def codeOk (b : Blob) : Bool :=
  let n := codeEntries b
  b.zero 4 60 &&
    allBelow n (fun i =>
      let o := 64 + 32 * i
      let at_ := codeField b i 4 4
      decide (b.byte o = if i < b.le 0 2 then 1 else 2) && decide (b.byte (o + 1) = 0 ∧ at_ % 64 = 0) && b.zero (o + 0x14) 12 &&
        (if i < b.le 0 2 then decide (codeField b i 8 4 % 16 = 0)
         else b.zero (o + 12) 8 && within 1 4096 (b.le at_ 2) && b.zero (at_ + 2) 14 && libOk b (at_ + codeField b i 8 4) (b.le at_ 2) 0 (at_ + 16))) &&
    distinct ((List.range n).map (fun i => codeField b i 2 2 + 0x10000 * codeField b i 0 1))

/-! ### Flows and shaping -/

/-- A field of a flow's entry (14 R422). -/
def fl (b : Blob) (f o n : Nat) : Nat := b.le (64 * f + o) n

/-- The flows that are not UNUSED. -/
def flowList (b : Blob) : List Nat := (List.range 8192).filter (fun f => decide (fl b f 0 1 ≠ 0))

/-- A flow's receive key (14 R425); none for one that sends. -/
def flowKey (b : Blob) (f : Nat) : Option (List Nat) :=
  match fl b f 0 1 with
  | 1 => some [1, fl b f 2 1, fl b f 4 2 % 4096, fl b f 6 2]
  | 3 => some [3, fl b f 2 1, fl b f 4 2 % 4096, fl b f 8 6]
  | _ => none

/-- An entry of FLOWS (14 R422). -/
def flowOk (b : Blob) (f : Nat) : Bool :=
  let k := fl b f 0 1
  let tx := decide (k = 2 ∨ k = 4)
  let radio := decide (k = 1 ∨ k = 2)
  let flags := fl b f 3 1
  let vlan := fl b f 4 2
  if k = 0 then b.zero (64 * f) 64
  else decide (k ≤ 4 ∧ fl b f 1 1 < 64 ∧ fl b f 2 1 % 16 < 8 ∧ fl b f 2 1 < 64 ∧ flags < 4) && (tx || !flags.testBit 0) && (decide (k = 3) || !flags.testBit 1) &&
    decide (vlan < 32768 ∧ vlan % 4096 ≤ 4094) && (tx || decide (vlan < 4096)) && (radio || decide (fl b f 6 2 = 0 ∧ fl b f 14 1 = 0)) &&
    [0, 9, 12].contains (fl b f 14 1) && decide (fl b f 15 1 = 0 ∧ fl b f 0x10 2 ≤ fl b f 0x12 2) && within 1 24576 (fl b f 0x12 2) &&
    (flags.testBit 0 || decide (fl b f 0x14 2 = 0)) && (tx || decide (fl b f 0x16 2 = 0)) && b.zero (64 * f + 0x18) 40

/-- Whether no two flows have the same receive key. -/
def keysApart (b : Blob) : List Nat → Bool
  | [] => true
  | f :: r => ((flowKey b f).isNone || r.all (fun g => decide (flowKey b g ≠ flowKey b f))) && keysApart b r

/-- FLOWS by itself (14 R422, R423). -/
def flowsOk (b : Blob) : Bool := allBelow 8192 (flowOk b) && keysApart b (flowList b)

/-- A field of a node's entry (15 R443). -/
def nd (b : Blob) (n o k : Nat) : Nat := b.le (16 * n + o) k

/-- An entry of SHAPER_TREE (15 R443, R444). -/
def nodeOk (b : Blob) (n : Nat) : Bool :=
  let lv := nd b n 0 1
  let par := nd b n 6 2
  if lv = 0 then b.zero (16 * n) 16
  else decide (lv ≤ 3 ∧ (lv = 1 ↔ n < 32) ∧ nd b n 5 1 = 0 ∧ par < 4096) && b.zero (16 * n + 8) 8 &&
    (match lv with
    | 1 => b.zero (16 * n + 1) 7
    | 2 => decide (nd b n 1 1 = 0 ∧ nd b n 2 1 ≤ 1 ∧ nd b n 3 1 = 0 ∧ nd b n 4 1 < 64 ∧ nd b par 0 1 = 1) && (decide (nd b n 2 1 = 1) || decide (nd b n 4 1 = 0))
    | _ =>
      let svc := nd b n 3 1
      decide (nd b n 2 1 = 0 ∧ nd b par 0 1 = 2 ∧ nd b n 4 1 = nd b par 4 1 ∧ nd b n 1 1 ≤ 1) &&
        (if nd b par 2 1 = 0 then [0, 1, 3].contains svc else [4, 5].contains svc) && (decide (nd b n 1 1 = 0) || decide (svc ≤ 1)))

/-- SHAPER_TREE by itself. -/
def treeOk (b : Blob) : Bool := allBelow 4096 (nodeOk b)

/-- Whether a node is a leaf of an easel. -/
def leafOf (t : Blob) (n e : Nat) : Bool := decide (n < 4096 ∧ nd t n 0 1 = 3 ∧ nd t n 4 1 = e)

/-- The root above a node. -/
def rootOf (t : Blob) (n : Nat) : Nat :=
  match nd t n 0 1 with
  | 1 => n
  | 2 => nd t n 6 2
  | _ => nd t (nd t n 6 2) 6 2

/-- A node's entry of SHAPER_PARAM by itself (15 R445). -/
def paramNodeOk (b : Blob) (n : Nat) : Bool :=
  decide (nd b n 0 4 ≤ 800000 ∧ nd b n 4 4 ≤ 16777216) && b.zero (16 * n + 8) 8 && (decide (nd b n 0 4 ≠ 0) || decide (nd b n 4 4 = 0))

/-- A quantum. -/
def quantumOk (q : Nat) : Bool := within 1024 1048576 q

/-- An easel's entry of SHAPER_PARAM, for an easel that exists. -/
def paramEaselOk (b : Blob) (e : Nat) : Bool :=
  let o := 16 * (4096 + e)
  quantumOk (b.le o 4) && b.zero (o + 12) 4 && (if e = 0 then b.zero (o + 4) 8 else quantumOk (b.le (o + 4) 4) && quantumOk (b.le (o + 8) 4))

/-- SHAPER_PARAM by itself. -/
def paramOk (b : Blob) : Bool :=
  allBelow 4096 (paramNodeOk b) && allBelow 64 (fun e => decide (e ≠ 0) && b.zero (16 * (4096 + e)) 16 || paramEaselOk b e)

/-- What SHAPER_TREE and PORTS ask of a node's entry of SHAPER_PARAM, and EASELS of an easel's (15 R445). -/
def paramNodeJoin (sx : Secs) (n : Nat) : Bool :=
  let b := sx secParam
  let t := sx secTree
  let lv := nd t n 0 1
  decide (nd b n 0 4 = 0) ||
    (decide (lv ≠ 0) && !(decide (lv = 3) && decide (nd t n 1 1 = 1)) && decide ((sx secPorts).le (64 * (rootOf t n / 4) + 2) 2 + 20 ≤ nd b n 4 4))
def paramEaselJoin (sx : Secs) (e : Nat) : Bool :=
  if easelIn (sx secEasels) e then paramEaselOk (sx secParam) e else (sx secParam).zero (16 * (4096 + e)) 16

/-- What SHAPER_TREE, PORTS and EASELS ask of SHAPER_PARAM. -/
def paramJoin (sx : Secs) : Bool := allBelow 4096 (paramNodeJoin sx) && allBelow 64 (paramEaselJoin sx)

/-! ### The fabric -/

/-- EtherTypes that Yaroz may not take (13 R383). -/
def badEtype : List Nat := [0x0800, 0x0806, 0x86DD, 0x8100, 0x88A8, 0x8808, 0x88F7, 0xAEFE]

/-- YAROZ by itself (13 R383). -/
def yarozOk (b : Blob) : Bool :=
  within 0x600 0xFFFF (b.le 0 2) && !badEtype.contains (b.le 0 2) && decide (b.byte 2 ≤ 1 ∧ b.byte 3 ≤ 7 ∧ b.le 4 2 ≤ 4094) && unicast (b.le 6 6) &&
    within 100 20000 (b.le 12 2) && within 50 2000 (b.le 14 2) && within 10 1000 (b.le 16 2) && b.zero 0x13 45 &&
    allBelow 16 (fun l =>
      let o := 64 + 16 * l
      decide (b.byte o ≤ 2 ∧ b.byte (o + 1) = 0) && b.zero (o + 8) 8 && (if b.byte o = 1 then unicast (b.le (o + 2) 6) else b.zero (o + 2) 6))

/-- A job of RANKS: its header and its entries by rank (13 R389). -/
structure RJob where
  hdr : List Nat
  ranks : SMap (List Nat)
  deriving DecidableEq, Repr

/-- Little-endian fields of a job. -/
def RJob.le (j : RJob) (o n : Nat) : Nat := ofLe ((j.hdr.drop o).take n)
def RJob.job (j : RJob) : Nat := j.le 0 4
def RJob.epoch (j : RJob) : Nat := j.le 4 4
def RJob.self (j : RJob) : Nat := j.le 8 2
def RJob.count (j : RJob) : Nat := j.le 10 2
def RJob.mask (j : RJob) : Nat := j.le 0x10 8
def RJob.rank (j : RJob) (r : Nat) : List Nat := SMap.get (fun _ => []) j.ranks r

/-- Fields of a rank entry. -/
def rkMac (d : List Nat) : Nat := ofLe (d.take 6)
def rkGen (d : List Nat) : Nat := ofLe ((d.drop 6).take 1)
def rkState (d : List Nat) : Nat := ofLe ((d.drop 7).take 1)
def rkPaths (d : List Nat) : Nat := ofLe ((d.drop 8).take 3)

/-- The jobs of a RANKS payload, `k` of them from an offset; none where a count is out of range. -/
def parseJobs (b : Blob) : Nat → Nat → Option (List RJob × Nat)
  | 0, o => some ([], o)
  | k + 1, o =>
    let n := b.le (o + 10) 2
    if n = 0 ∨ 4096 < n then none
    else
      let j : RJob := ⟨blobSlice b o 32, (List.range n).map (fun r => (r, blobSlice b (o + 32 + 16 * r) 16))⟩
      match parseJobs b k (o + 32 + 16 * n) with
      | some (r, x) => some (j :: r, x)
      | none => none

/-- The jobs of a payload. -/
def ranksOf (b : Blob) : Option (List RJob × Nat) := if 16 < b.le 0 2 then none else parseJobs b (b.le 0 2) 64

/-- What the counts of a RANKS payload say of it, for `k` jobs from an offset: a count out of range, or an end that is not the payload's (R604). -/
def jobsFault (b : Blob) : Nat → Nat → Option Nat
  | 0, o => if b.len = o then none else some cfLength
  | k + 1, o =>
    let n := b.le (o + 10) 2
    if b.len < o + 12 then some cfLength else if n = 0 ∨ 4096 < n then some cfRange else jobsFault b k (o + 32 + 16 * n)

/-- A job's header by itself (13 R389). -/
def jobHdrOk (j : RJob) : Bool :=
  decide (j.job ≠ 0 ∧ j.epoch ≠ 0 ∧ 1 ≤ j.count ∧ j.count ≤ 4096 ∧ j.self < j.count ∧ j.le 12 4 = 0 ∧ j.mask % 2 = 0 ∧ j.le 0x18 8 = 0)

/-- A rank's entry by itself, and what its job asks of it: a path, unless it is a tombstone or the device's own. -/
def rankOk (d : List Nat) : Bool := decide (rkState d ≤ 1) && (d.drop 11).all (fun x => decide (x = 0))
def rankReached (j : RJob) (r : Nat) (d : List Nat) : Bool := decide (rkState d = 1 ∨ r = j.self) || decide (rkPaths d ≠ 0)

/-- Whether a job's ranks are numbered from 0 to RANK_COUNT - 1. -/
def jobNumbered (j : RJob) : Bool := decide (j.ranks.map (·.1) = List.range j.count)

/-- A job by itself (13 R389). -/
def jobOk (j : RJob) : Bool := jobHdrOk j && jobNumbered j && j.ranks.all (fun p => rankOk p.2 && rankReached j p.1 p.2)

/-- Whether no easel belongs to two jobs. -/
def masksApart : List RJob → Bool
  | [] => true
  | j :: r => r.all (fun k => decide (j.mask &&& k.mask = 0)) && masksApart r

/-- The jobs of RANKS by themselves. -/
def jobsOk (js : List RJob) : Bool := decide (js.length ≤ 16) && js.all jobOk && distinct (js.map (·.job)) && masksApart js

/-- What EASELS and YAROZ ask of the jobs of a canvas: easels exist, and the rank of this device carries its MAC (13 R389, R390). -/
def jobsJoin (sx : Secs) (js : List RJob) : Bool :=
  js.all (fun j => allBelow 64 (fun e => !j.mask.testBit e || easelIn (sx secEasels) e) && decide (rkMac (j.rank j.self) = (sx secYaroz).le 6 6))

/-! ### A section by itself (R604, R606 steps 4 and 6) -/

/-- Counts in the payload against their ranges, then the length they set (R604). -/
def countsFault (t : Nat) (b : Blob) : Option Nat :=
  if t = secCellmap then (if 384 < cmCells b then some cfRange else if b.len ≠ 64 + 64 * cmCells b then some cfLength else none)
  else if t = secRadioCode then
    (if !within 1 256 (b.le 0 2) || decide (1024 < b.le 2 2) then some cfRange
     else if b.len < 64 + 32 * codeEntries b ∨ (List.range (codeEntries b)).any (fun i => decide (b.len < codeField b i 4 4 + codeLen b i)) = true then some cfLength
     else if b.bytes.all (fun p => decide (p.2 = 0) || codeCovers b p.1) then none else some cfFormat)
  else if t = secRanks then
    (if 16 < b.le 0 2 then some cfRange else jobsFault b (b.le 0 2) 64)
  else none

/-- A section's own ranges. -/
def ownRanges (t : Nat) (b : Blob) : Bool :=
  match t with
  | 0x1 => clockOk b
  | 0x2 => reachOk b
  | 0x3 => supplyOk b
  | 0x4 => detectorsOk b
  | 0x5 => nocOk b
  | 0x6 => portsOk b
  | 0x7 => easelsOk b
  | 0x8 => partitionOk b
  | 0x9 => paletteOk b
  | 0xA => cellmapOk b
  | 0xB => codeOk b
  | 0xC => flowsOk b
  | 0xD => treeOk b
  | 0xE => paramOk b
  | 0xF => yarozOk b
  | 0x10 => (match ranksOf b with
    | some (js, _) => b.zero 2 62 && jobsOk js
    | none => false)
  | 0x11 => limitsOk b
  | 0x12 => patientOk b
  | _ => true

/-- The first failure of a section by itself, after its digest; CELL_UNITS is judged with CELLMAP, and before the panels' totals, which it always breaks too. -/
def ownFault (t : Nat) (b : Blob) : Option Nat :=
  match countsFault t b with
  | some c => some c
  | none =>
    if t = secCellmap ∧ 384 < cmUnits b 3 ∧ allBelow (cmCells b) (cellOk b) = true then some cfCellUnits
    else if ownRanges t b then none else some cfRange

/-! ### Rules that join sections (R606 step 7) -/

/-- Whether a flow of a cell's range is what R423, R424 and 15 R444 ask. -/
def cellFlowOk (sx : Secs) (c i : Nat) : Bool :=
  let m := sx secCellmap
  let b := sx secFlows
  let f := cm m c 0xC 2 + i
  let dl := decide (i < (classStreams (cm m c 2 1)).1)
  decide (fl b f 1 1 = 0 ∧ fl b f 0 1 = (if dl then 2 else 1) ∧ fl b f 14 1 = cm m c 0xE 1) &&
    (!dl || ((fl b f 3 1).testBit 0 && decide (nd (sx secTree) (fl b f 0x16 2) 1 1 = 1)))

/-- What the other sections ask of a flow that is not UNUSED (14 R422, R424). -/
def flowJoin (sx : Secs) (f : Nat) : Bool :=
  let b := sx secFlows
  let p := sx secPorts
  let port := fl b f 2 1
  easelIn (sx secEasels) (fl b f 1 1) && decide (port / 16 < modeSubs (p.byte (64 * (port % 8)))) &&
    (decide (fl b f 0 1 ≠ 4) || (!(portMacs p).contains (fl b f 8 6) && decide (fl b f 8 6 ≠ (sx secYaroz).le 6 6))) &&
    (decide (fl b f 0 1 = 1 ∨ fl b f 0 1 = 3) || leafOf (sx secTree) (fl b f 0x16 2) (fl b f 1 1))

/-- What the other sections ask of FLOWS (14 R422 to R424). -/
def flowsJoin (sx : Secs) : Bool :=
  (flowList (sx secFlows)).all (flowJoin sx) &&
    allBelow (cmCells (sx secCellmap)) (fun c => allBelow (classFlows (cm (sx secCellmap) c 2 1)) (cellFlowOk sx c))

/-- The Palette minimums of an easel's channels and flows (09 R270). -/
def palMins (sx : Secs) (e : Nat) : Nat :=
  let p := sx secPalette
  let b := sx secFlows
  (((List.range 2048).filter (fun n => decide (p.byte (64 + 8 * n + 2) ≠ 0 ∧ p.byte (64 + 8 * n) = e))).map (fun n => p.le (64 + 8 * n + 4) 2)).foldl (· + ·) 0 +
    (((flowList b).filter (fun f => decide (fl b f 1 1 = e))).map (fun f => fl b f 0x10 2)).foldl (· + ·) 0

/-- Every easel's minimums lie within its Palette share (09 R270). -/
def palFits (sx : Secs) : Bool := allBelow 64 (fun e => decide (palMins sx e ≤ (shareVec (sx secEasels) e).palette))

/-- What a section's chapter asks of it together with the other sections. -/
def joinRanges (sx : Secs) (t : Nat) : Bool :=
  let m := sx secCellmap
  let cells := decide (0 < cmCells m)
  let eas := sx secEasels
  match t with
  | 0x5 => !cells || decide ((sx secNoc).byte 1 = 1)
  | 0x6 => !(portMacs (sx secPorts)).contains ((sx secYaroz).le 6 6) &&
      allBelow 8 (fun p => !((sx secYaroz).byte 0x12).testBit p || decide ((sx secPorts).byte (64 * p) ≠ 0))
  | 0x7 => (!cells || decide (16 ≤ (shareVec eas 0).tcSlots ∧ 8 ≤ (shareVec eas 0).scSlots)) && decide (12288 + 2016 * cmUnits m 3 ≤ (shareVec eas 0).bonded)
  | 0x8 =>
    let p := sx secPartition
    allBelow 240 (fun i => decide (p.byte (16 + i) = 0x3F) || easelIn eas (p.byte (16 + i))) &&
      (decide (p.byte 0 = 0) ||
        allBelow (cmCells m) (fun c =>
          let pan := cm m c 7 1
          allBelow (cm m c 9 1) (fun i => decide (p.byte (0x40 + 64 * pan + cm m c 8 1 + i) = 0)) &&
            decide (4 ≤ ((List.range 16).filter (fun i => decide (p.byte (0x10 + 16 * pan + i) = 0))).length)))
  | 0x9 => (!cells || decide (8 ≤ (sx secPalette).byte 0)) &&
      allBelow 2048 (fun n => decide ((sx secPalette).byte (64 + 8 * n + 2) = 0) || easelIn eas ((sx secPalette).byte (64 + 8 * n)))
  | 0xB =>
    let b := sx secRadioCode
    allBelow (cmCells m) (fun c =>
      match (List.range (b.le 0 2)).find? (fun i => decide (codeField b i 2 2 = cm m c 0xA 2)) with
      | none => false
      | some i => decide (codeField b i 8 4 ≤ 4096 * (shareVec eas 0).pmem ∧ codeField b i 16 4 + codeField b i 12 4 ≤ 4096 * (shareVec eas 0).dmem))
  | 0xC => flowsJoin sx
  | 0xD =>
    let b := sx secTree
    allBelow 32 (fun n => decide (nd b n 0 1 = 1) == decide (n % 4 < modeSubs ((sx secPorts).byte (64 * (n / 4))))) &&
      allBelow 4096 (fun n => decide (nd b n 0 1 ≤ 1) || easelIn eas (nd b n 4 1))
  | 0xE => paramJoin sx
  | 0x10 => (match ranksOf (sx secRanks) with
    | some (js, _) => jobsJoin sx js
    | none => false)
  | 0x11 => !cells || decide ((sx secLimits).le 0 4 ≤ 1024)
  | 0x12 => (patientList (sx secPatient)).all (fun n => decide ((sx secPalette).byte (64 + 8 * n + 2) = 1 ∧ (sx secPalette).byte (64 + 8 * n) ≠ 0))
  | _ => true

/-! #### The stacks (04 R97 to R99) -/

/-- Units of a stack outside the device reserve (04 R104). -/
def stackUnits (k : Nat) : Nat := if k % 6 = 0 then 393216 - 4096 else 393216

/-- Numbers below `x` that leave the rest `r` modulo `n`. -/
def modCount (x n r : Nat) : Nat := (x + n - 1 - r) / n

/-- The units of a cell's block in the stack of a bay (04 R98). -/
def blockPart (m : Blob) (c k : Nat) : Nat :=
  let n := cm m c 9 1
  let first := 64 * cm m c 7 1 + cm m c 8 1
  let block := 2016 * classUnits (cm m c 2 1)
  let part := fun j => block * ((List.range n).filter (fun i => decide (stackOfScore (first + i) = j))).length / n
  if stackOfScore first = k then block - (((List.range 18).filter (fun j => decide (j ≠ k))).map part).foldl (· + ·) 0 else part k

/-- The units that an easel's map takes in a stack (04 R97, R98). -/
def mapUnits (sx : Secs) (e k : Nat) : Nat :=
  let b := sx secEasels
  let n := (shareVec b e).bonded
  let p := b.byte (64 * e + 4)
  if e = 0 then
    let m := sx secCellmap
    let blocks := 2016 * cmUnits m 3
    ((List.range (cmCells m)).map (fun c => blockPart m c k)).foldl (· + ·) 0 + modCount (n - blocks - 12288) 18 k
  else match b.byte (64 * e + 3) with
    | 1 => if k / 6 = p then modCount n 6 (k % 6) else 0
    | 2 => if k = p then n else 0
    | _ => modCount n 18 k

/-- Every stack holds the units that the easels' maps take in it. -/
def stacksFit (sx : Secs) : Bool := allBelow 18 (fun k => decide (((List.range 64).map (fun e => mapUnits sx e k)).foldl (· + ·) 0 ≤ stackUnits k))

/-- The first failure of the rules that join sections: RANGE of the first section in `order`, then OVERCOMMIT, then CLOCK_RADIO (R606 step 7); with the section. -/
def joinFault (sx : Secs) (order : List Nat) : Option (Nat × Nat) :=
  match order.find? (fun t => !joinRanges sx t) with
  | some t => some (cfRange, t)
  | none =>
    match order.find? (fun t => (decide (t = secEasels) && !(sharesFit (sx secEasels) && stacksFit sx)) || (decide (t = secPalette) && !palFits sx)) with
    | some t => some (cfOvercommit, t)
    | none => if (sx secClock).byte 0 ≠ 4 ∧ 0 < cmCells (sx secCellmap) then some (cfClockRadio, secClock) else none

end Sys2Proof.Machine
end

