-- ==== Sys2Proof/Machine/Loaders.lean ====
section
/-! DEFINITION. Machine/Loaders.lean: what each section of a canvas writes when apply writes it (02 R27), and the switch of the rank table (02 R52; 13 R389, R390, R410,
R414; 21 R586). -/
namespace Sys2Proof.Machine

open Sys2Proof

/-- A blob from its bytes. -/
def blobOf (bs : List Nat) : Blob :=
  ⟨bs.length, (bs.zipIdx.filter (fun p => decide (p.1 % 256 ≠ 0))).map (fun p => (p.2, BitVec.ofNat 8 p.1))⟩

/-! ### Phases 2 and 3: clocks, resets, supplies, detectors, mesh, ports -/

/-- The dividers in force, and the S period that the time of day advances by (03 R58; 16 R464). -/
def State.loadClock (s : State) (b : Blob) : State :=
  ((s.setFld 0 F.CLK_DIV_K_DIV (b.byte 0)).setFld 0 F.CLK_DIV_S_DIV (b.byte 1)).setFld64 0 F.TOD_INCR_LO_INCR F.TOD_INCR_HI_INCR (nominalIncr (b.byte 1))

def State.loadReach (s : State) (b : Blob) : State :=
  ((s.setFld 0 F.RST_REACH_PERST_CHIP (b.byte 0)).setFld 0 F.RST_REACH_HOT_CHIP (b.byte 1)).setFld 0 F.RST_REACH_WDOG_PERIOD (b.le 2 2)

def State.loadSupply (s : State) (b : Blob) : State :=
  forUpto 7 (fun r (t : State) =>
    ((t.setFld 0 (F.PWR_SUP_CFG_WARN r) (b.byte (8 * r + 1))).setFld 0 (F.PWR_SUP_CFG_RESET r) (b.byte (8 * r + 2))).setFld 0 (F.PWR_SUP_CFG_HYST r) (b.byte (8 * r + 3))) s

def State.loadDetectors (s : State) (b : Blob) : State :=
  forUpto 212 (fun d (t : State) => t.setFlag d F.FLT_DET_INFO_ENABLED ((b.byte (d / 8)).testBit (d % 8)))
    (forUpto 7 (fun w (t : State) => t.setFld 0 (F.FLT_EN_EN w) (b.le (4 * w) 4)) s)

def State.loadNoc (s : State) (b : Blob) : State :=
  let s1 := (s.setFld 0 F.MEM_NOC_CFG_ROUTE (b.byte 0)).setFld 0 F.MEM_NOC_CFG_RADIO_PRIO (b.byte 1)
  let s2 := ((s1.setFld 0 F.MEM_NOC_CFG_WEIGHT1 (b.byte 2)).setFld 0 F.MEM_NOC_CFG_WEIGHT2 (b.byte 3)).setFld 0 F.MEM_NOC_CFG_WEIGHT3 (b.byte 4)
  s2.setFld 0 F.MEM_NOC_CREDITS_CR (b.le 8 4)

/-- C_tx and C_rx of a port in 800G, 400G and 200G mode, in ps (16 R470). -/
def portConsts : List (List (Nat × Nat)) :=
  [[(18400, 94720), (24960, 121600), (38080, 176640)], [(18520, 94840), (25080, 121720), (38200, 176760)],
   [(18650, 94970), (25210, 121850), (38330, 176890)], [(18770, 95090), (25330, 121970), (38450, 177010)],
   [(18810, 95130), (25370, 122010), (38490, 177050)], [(18690, 95010), (25250, 121890), (38370, 176930)],
   [(18560, 94880), (25120, 121760), (38240, 176800)], [(18440, 94760), (25000, 121640), (38120, 176680)]]

/-- PTP_SUB_CONST holds 16 bits of picoseconds (16 R483): the constants of a port in a mode. -/
def portConst (p mode : Nat) : Nat × Nat := if mode = 0 then (0, 0) else nth (0, 0) (nth [] portConsts p) (mode - 1)

def State.loadPort (s : State) (b : Blob) (p : Nat) : State :=
  let o := 64 * p
  let k := portConst p (b.byte o)
  let s1 := ((s.setFld p F.ETH_PORT_CFG_MODE (b.byte o)).setFld p F.ETH_PORT_CFG_MEDIA (b.byte (o + 1))).setFld p F.ETH_PORT_CFG_MAX_FRAME (b.le (o + 2) 2)
  forUpto 4 (fun i (t : State) =>
    let t1 := (t.setFld p (F.ETH_SUB_MAC_LO_MAC i) (b.le (o + 8 + 6 * i) 4)).setFld p (F.ETH_SUB_MAC_HI_MAC i) (b.le (o + 12 + 6 * i) 2)
    if i < modeSubs (b.byte o) then (t1.setFld p (F.PTP_SUB_CONST_TX i) k.1).setFld p (F.PTP_SUB_CONST_RX i) k.2 else t1) s1

def State.loadPorts (s : State) (b : Blob) : State := forUpto 8 (fun p (t : State) => t.loadPort b p) s

/-! ### Phase 5: the late sections -/

/-- Cells, with what the registers show of them (08 R267, R268); the rest stays in the section in force. -/
def State.loadCells (s : State) (b : Blob) : State :=
  let s1 := (s.setFld 0 F.RAD_STATUS_CELLS (cmCells b)).setFld 0 F.RAD_STATUS_UNITS (cmUnits b 3)
  forUpto (cmCells b) (fun c (t : State) =>
    let f := cm b c
    let t1 := ((((t.setFld c F.RAD_CELL_CFG_CLASS (f 2 1)).setFld c F.RAD_CELL_CFG_SCS (f 3 1)).setFld c F.RAD_CELL_CFG_DUPLEX (f 6 1)).setFld c
      F.RAD_CELL_CFG_PANEL (f 7 1)).setFld c F.RAD_CELL_CFG_PRBS (f 4 2)
    let t2 := (t1.setFld c F.RAD_CELL_CFG_UNITS (classUnits (f 2 1))).setFld c F.RAD_CELL_CFG_CELL_ID (f 0 2)
    ((t2.setFld c F.RAD_CELL_MAP_SC_FIRST (f 8 1)).setFld c F.RAD_CELL_MAP_SC_COUNT (f 9 1)).setFld c F.RAD_CELL_MAP_FLOW_BASE (f 0xC 2)) s1

/-- The easel's own units in its map: easel 0's share pays for the device reserve, which no map covers (04 R98, R104). -/
def mapVec (e : Nat) (v : ShareVec) : ShareVec := if e = 0 then { v with bonded := v.bonded - 12288 } else v

/-- An easel of EASELS: its class, its shares, and a tenant in HELD until its VF is enabled and the host lets go (10 R307; 17 R486; 18 R512, R513; 21 R585). -/
def State.loadEasel (s : State) (b : Blob) (e : Nat) : State :=
  if !easelIn b e then s
  else
    let o := 64 * e
    let v := shareVec b e
    let s1 := ((s.setFlag e F.EAS_CFG_EXISTS true).setFld e F.EAS_CFG_PRIO (b.byte (o + 1))).setFld e F.EAS_CFG_WEIGHT (b.byte (o + 2))
    let s2 := (s1.setFld e F.MEM_EAS_PLACE_MODE (b.byte (o + 3))).setFld e F.MEM_EAS_PLACE_TARGET (b.byte (o + 4))
    let s3 := (s2.setLimits e v).setMapped e (mapVec e v)
    if e = 0 then s3
    else
      let quar := s.flag 0 F.FLT_HEALTH_QUARANTINED
      let hold := holdVf + (if s.fld 0 F.RST_HELD_HELD &&& (srPerst ||| srHot) ≠ 0 then holdHost else 0) + (if quar then holdReset else 0)
      ((s3.setLife e lifeHeld).setFld e F.EAS_LIFE_HOLD hold).setFlag e F.EAS_LIFE_QUAR quar

/-- EASELS: every stack's units are free until the maps take them (04 R99, R104). -/
def State.loadEasels (s : State) (b : Blob) : State :=
  forUpto 64 (fun e (t : State) => t.loadEasel b e) (forUpto 18 (fun k (t : State) => t.setFld k F.MEM_STK_FREE_UNITS (stackUnits k)) s)

def State.loadPartition (s : State) (b : Blob) : State :=
  let s1 := (s.setFld 0 F.SCH_MODE_PART_MODE (b.byte 0)).setFlag 0 F.SCH_MODE_PARTITIONED (decide (b.byte 0 ≠ 0))
  forUpto 192 (fun c (t : State) => t.setFld c F.SC_PARTITION_OWNER (b.byte (0x40 + c))) (forUpto 48 (fun c (t : State) => t.setFld c F.TC_PARTITION_OWNER (b.byte (0x10 + c))) s1)

def State.loadPalette (s : State) (b : Blob) : State :=
  forEach ((List.range 2048).filter (fun n => decide (b.byte (64 + 8 * n + 2) = 1))) (fun n (t : State) =>
    let o := 64 + 8 * n
    let e := b.byte o
    let t1 := ((t.setFld n F.STR_CH_CFG_EASEL e).setFld n F.STR_CH_CFG_PANEL (b.byte (o + 1))).setFlag n F.STR_CH_CFG_ENABLED true
    let t2 := (t1.setFld n F.STR_CH_PAL_LIM_MIN (b.le (o + 4) 2)).setFld n F.STR_CH_PAL_LIM_CAP (b.le (o + 6) 2)
    (t2.setFld e F.PAL_EAS_MINSUM_GRANULES (t2.fld e F.PAL_EAS_MINSUM_GRANULES + b.le (o + 4) 2)).setFld e F.PAL_EAS_WATERMARK_GRANULES
      (t2.fld e F.PAL_EAS_WATERMARK_GRANULES + b.le (o + 4) 2)) (s.setFld 0 F.STR_RADIO_THREADS_COUNT (b.byte 0))

def State.loadPatient (s : State) (b : Blob) : State :=
  forEach (patientList b) (fun n (t : State) => t.setFlag n F.STR_CH_CFG_PATIENT true) (s.setFld 0 F.STR_PATIENT_COUNT (patientList b).length)

def State.loadFlows (s : State) (b : Blob) : State := forEach (flowList b) (fun f (t : State) => t.loadFlow f (blobSlice b (64 * f) 64)) s

def State.loadTree (s : State) (b : Blob) : State :=
  let ns := (List.range 4096).filter (fun n => decide (nd b n 0 1 ≠ 0))
  forEach ns (fun n (t : State) =>
    let t1 := ((t.setFld n F.EGS_NODE_CFG_LEVEL (nd b n 0 1)).setFld n F.EGS_NODE_CFG_RADIO (nd b n 1 1)).setFld n F.EGS_NODE_CFG_KIND (nd b n 2 1)
    ((t1.setFld n F.EGS_NODE_CFG_SERVICE (nd b n 3 1)).setFld n F.EGS_NODE_CFG_EASEL (nd b n 4 1)).setFld n F.EGS_NODE_CFG_PARENT (nd b n 6 2))
    (s.setFld 0 F.EGS_NODES_USED ns.length)

/-- SHAPER_PARAM; every shaper starts with a full bucket (15 R449, R461). -/
def State.loadParams (s : State) (b : Blob) : State :=
  let s1 := forUpto 4160 (fun i (t : State) => if b.zero (16 * i) 16 then t else t.loadParam i (blobSlice b (16 * i) 16)) s
  forEach s1.nodesUsed (fun n (t : State) => t.setFld n F.EGS_NODE_CREDIT_BITS (8 * t.fld n F.EGS_NODE_BURST_BYTES)) s1

def State.loadYaroz (s : State) (b : Blob) : State :=
  let s1 := (((s.setFld 0 F.YZF_CFG_ETYPE (b.le 0 2)).setFld 0 F.YZF_CFG_MTU9K (b.byte 2)).setFld 0 F.YZF_CFG_PCP (b.byte 3)).setFld 0 F.YZF_CFG_ETH_PATHS (b.byte 0x12)
  let s2 := ((s1.setFld 0 F.YZF_VLAN_VID (b.le 4 2)).setFld 0 F.YZF_MAC_LO_MAC (b.le 6 4)).setFld 0 F.YZF_MAC_HI_MAC (b.le 10 2)
  let s3 := ((s2.setFld 0 F.YZF_BOUNDS_FENCE_US (b.le 12 2)).setFld 0 F.YZF_BOUNDS_DEAD_US (b.le 14 2)).setFld 0 F.YZF_MCAST_HOLD_HOLD_US (b.le 16 2)
  let s4 := forUpto 8 (fun p (t : State) => t.setFlag p F.ETH_PORT_CFG_YAROZ ((b.byte 0x12).testBit p)) s3
  forUpto 16 (fun l (t : State) => t.setFld 0 (F.YZF_LINK_STATUS_MODE l) (b.byte (64 + 16 * l))) s4

def State.loadLimits (s : State) (b : Blob) : State := s.setFld 0 F.SC_LIMITS_REP_CEIL (b.le 0 4)

/-! ### The rank table -/

/-- The payload of RANKS from its jobs (13 R389). -/
def ranksBlob (js : List RJob) : Blob :=
  blobOf (leBytes 2 js.length ++ List.replicate 62 0 ++ js.flatMap (fun j => j.hdr ++ j.ranks.flatMap (fun p => p.2)))

/-- The jobs in force. -/
def State.jobs (s : State) : List RJob := ((ranksOf (s.sec secRanks)).map (·.1)).getD []

/-- A job leaves its slot (13 R389, R412): its ranks, its connections and what waits at it as a target go, and operations in flight to its ranks end with DEAD_TARGET
(DESIGN CHOICE: notes/assumptions/73.md). -/
def State.dropJob (s : State) (slot : Nat) : State :=
  let s1 := forEach (s.yz.ops.filter (fun o => decide (o.slot = slot))) (fun o (t : State) => t.opDead o false) s
  let s2 := forUpto 7 (fun i (t : State) => t.setReg 0 (0x240200 + 0x20 * slot + 4 * i) 0) s1
  let other := fun k : Nat => decide (k / 4096 ≠ slot)
  { s2 with yz := { s2.yz with
    ranks := SMap.keep other s2.yz.ranks, conns := SMap.keep other s2.yz.conns
    ingress := s2.yz.ingress.filter (fun x => decide (x.slot ≠ slot)), home := s2.yz.home.filter (fun x => decide (x.slot ≠ slot))
    tombAt := SMap.keep (fun k => decide (k ≠ slot)) s2.yz.tombAt, tombLast := SMap.keep (fun k => decide (k ≠ slot)) s2.yz.tombLast
    deadBy := SMap.keep (fun k => decide (k / 4096 % 16 ≠ slot)) s2.yz.deadBy } }

/-- Ranks lost by a job (21 R586): by its own number within an epoch, by MAC across an epoch change. -/
def lostRanks (old new : RJob) : List Nat :=
  (old.ranks.filter (fun p => decide (rkState p.2 = 0) &&
    (if old.epoch = new.epoch then decide (rkState (new.rank p.1) = 1)
     else !new.ranks.any (fun q => decide (rkState q.2 = 0 ∧ rkMac q.2 = rkMac p.2))))).map (·.1)

/-- The number in the new epoch of a rank of the old one, by its MAC. -/
def movedRank (old new : RJob) (r : Nat) : Option Nat :=
  if old.epoch = new.epoch then some r
  else (new.ranks.find? (fun q => decide (rkMac q.2 = rkMac (old.rank r)))).map (·.1)

/-- A rank is lost (21 R586): a record to each easel of the job as it stood, and FLT_LOSS. -/
def State.rankLost (s : State) (slot rank mask : Nat) : State :=
  let s1 := forEach (bitsOf 64 mask) (fun e (t : State) =>
    t.deliverFault ⟨0xFFFF, ufRankLost, sevContained, 3, false, true, e, ukNone, rank, 65536 * slot, SMap.get (fun _ => 0) t.yz.deadBy (deadKey e slot rank), t.nowNs⟩) s
  let s2 := ((s1.setFld 0 F.FLT_LOSS_RANK rank).setFlag 0 F.FLT_LOSS_VALID true).setFld 0 F.FLT_LOSS_SLOT slot
  s2.setFld64 0 F.FLT_LOSS_EASELS_LO_MASK F.FLT_LOSS_EASELS_HI_MASK mask

/-- An epoch change: operations to ranks that the new epoch deletes end with DEAD_TARGET (R414); what goes on is numbered as the new epoch numbers it (by MAC), and
DEAD_TARGET counts start again (21 R586). -/
def State.renumber (s : State) (slot : Nat) (old new : RJob) : State :=
  let mv := movedRank old new
  let moveIn : List YzIn → List YzIn := fun l => l.filterMap (fun (x : YzIn) => if x.slot = slot then (mv x.rank).map (fun r => { x with rank := r }) else some x)
  let ops : List YzOp := s.yz.ops.map (fun (o : YzOp) => if o.slot = slot then { o with rank := (mv o.rank).getD o.rank } else o)
  let conns : SMap YzConn := s.yz.conns.foldl (fun (m : SMap YzConn) p =>
    if p.1 / 4096 = slot then
      (match mv (p.1 % 4096) with
      | some r => SMap.set (fun _ => YzConn.new) m (rankKey slot r) p.2
      | none => m)
    else SMap.set (fun _ => YzConn.new) m p.1 p.2) []
  { s with yz := { s.yz with
      ops := ops, conns := conns, ingress := moveIn s.yz.ingress, home := moveIn s.yz.home
      deadBy := SMap.keep (fun k => decide (k / 4096 % 16 ≠ slot)) s.yz.deadBy } }

/-- Write a job's slot and its ranks. -/
def State.writeJob (s : State) (slot : Nat) (j : RJob) : State :=
  let s1 := ((s.setFld 0 (F.YZF_JOB_ID_JOB slot) j.job).setFld 0 (F.YZF_JOB_EPOCH_EPOCH slot) j.epoch).setFld 0 (F.YZF_JOB_RANKS_SELF slot) j.self
  let s2 := (s1.setFld 0 (F.YZF_JOB_RANKS_COUNT slot) j.count).setFld64 0 (F.YZF_JOB_EASELS_LO_MASK slot) (F.YZF_JOB_EASELS_HI_MASK slot) j.mask
  let clean := SMap.keep (fun k => decide (k / 4096 ≠ slot)) s2.yz.ranks
  let rk := forEach j.ranks (fun p (m : SMap (Nat × Nat × Nat × Nat)) =>
    SMap.set (fun _ => (0, 0, 1, 0)) m (rankKey slot p.1) (rkMac p.2, rkGen p.2, rkState p.2, rkPaths p.2)) clean
  { s2 with yz := { s2.yz with ranks := rk } }

/-- The device's placement in a job moves away, or moves on (R410). -/
def State.moveSelf (s : State) (slot : Nat) (old new : RJob) : State :=
  let own := s.fld 0 F.YZF_MAC_LO_MAC + 2 ^ 32 * s.fld 0 F.YZF_MAC_HI_MAC
  let d := new.rank new.self
  if rkMac d = own then s
  else if s.tombstone slot then s.setFld 0 (F.YZF_JOB_MIG_GEN slot) (rkGen d)
  else if rkMac (old.rank new.self) = own then
    let s1 := ((s.setFld 0 (F.YZF_JOB_MIG_STATE slot) 1).setFld 0 (F.YZF_JOB_MIG_GEN slot) (rkGen d)).setFld 0 (F.YZF_JOB_MIG_US_US slot) 0
    { s1 with yz := { s1.yz with tombAt := SMap.set (fun _ => 0) s1.yz.tombAt slot s1.nowNs, tombLast := SMap.set (fun _ => 0) s1.yz.tombLast slot 0 } }
  else s

/-- A job that stays: losses, renumbering, its entries, its placement. -/
def State.changeJob (s : State) (slot : Nat) (old new : RJob) : State :=
  let gone := if old.epoch = new.epoch then [] else s.yz.ops.filter (fun o => decide (o.slot = slot) && (movedRank old new o.rank).isNone)
  let s1 := forEach gone (fun o (t : State) => t.opDead o false) s
  let s2 := forEach (lostRanks old new) (fun r (t : State) => t.rankLost slot r old.mask) s1
  let s3 := if old.epoch = new.epoch then s2 else s2.renumber slot old new
  (s3.writeJob slot new).moveSelf slot old new

/-- A job that an INSERT creates takes the lowest free slot (R389). -/
def State.newJob (s : State) (j : RJob) : State :=
  match (List.range 16).find? (fun k => decide (s.fld 0 (F.YZF_JOB_ID_JOB k) = 0)) with
  | some k => s.writeJob k j
  | none => s

/-- Show which easel belongs to which job (R417, R418). -/
def State.showJobs (s : State) : State :=
  let s1 := s.setFld 0 F.YZF_STATUS_JOBS ((List.range 16).filter (fun j => decide (s.fld 0 (F.YZF_JOB_ID_JOB j) ≠ 0))).length
  forUpto 64 (fun e (t : State) =>
    match (List.range 16).find? (fun j => decide (t.fld 0 (F.YZF_JOB_ID_JOB j) ≠ 0) && t.inJob j e) with
    | some j => (t.setFlag e F.YZF_EAS_STATUS_MEMBER true).setFld e F.YZF_EAS_STATUS_SLOT j
    | none => (t.setFlag e F.YZF_EAS_STATUS_MEMBER false).setFld e F.YZF_EAS_STATUS_SLOT 0) s1

/-- Operations that a response has held, to a rank that is DEAD now, end at once (R404, R413). -/
def State.deadHeld (s : State) : State :=
  forEach (s.yz.ops.filter (fun o => decide (o.hold ≠ .flight ∧ (s.rankEntry o.slot o.rank).2.2.1 = 1))) (fun o (t : State) => t.opDead o false) s

/-- One switch of the rank table (02 R52). -/
def State.switchRanks (s : State) (old new : List RJob) : State :=
  let s1 := forUpto 16 (fun k (t : State) =>
    let id := t.fld 0 (F.YZF_JOB_ID_JOB k)
    if id ≠ 0 ∧ new.all (fun j => decide (j.job ≠ id)) = true then t.dropJob k else t) s
  let s2 := forEach new (fun j (t : State) =>
    match t.slotOf j.job, old.find? (fun o => decide (o.job = j.job)) with
    | some k, some o => t.changeJob k o j
    | _, _ => t.newJob j) s1
  let s3 := s2.keepSec secRanks (ranksBlob new)
  s3.showJobs.deadHeld.reissueHeld.yzKickAll

/-! ### A section takes effect -/

/-- Apply writes a section (R27); RADIO_CODE is loaded when easel 0 starts. -/
def State.loadSection (s : State) (t : Nat) (b : Blob) : State :=
  let s1 := s.keepSec t b
  match t with
  | 0x1 => s1.loadClock b
  | 0x2 => s1.loadReach b
  | 0x3 => s1.loadSupply b
  | 0x4 => s1.loadDetectors b
  | 0x5 => s1.loadNoc b
  | 0x6 => s1.loadPorts b
  | 0x7 => s1.loadEasels b
  | 0x8 => s1.loadPartition b
  | 0x9 => s1.loadPalette b
  | 0xA => s1.loadCells b
  | 0xC => s1.loadFlows b
  | 0xD => s1.loadTree b
  | 0xE => s1.loadParams b
  | 0xF => s1.loadYaroz b
  | 0x10 => s.switchRanks [] (((ranksOf b).map (·.1)).getD [])
  | 0x11 => s1.loadLimits b
  | 0x12 => s1.loadPatient b
  | _ => s1

/-- The sections in an order in which each finds what it rests on: cells before easels, nodes before their parameters. -/
def loadOrder : List Nat := [0x1, 0x2, 0x3, 0x4, 0x5, 0x6, 0xA, 0x7, 0x8, 0x9, 0xB, 0xC, 0xD, 0xE, 0xF, 0x10, 0x11, 0x12]

end Sys2Proof.Machine
end

