-- ==== Sys2Proof/Machine/Boot.lean ====
section
/-! DEFINITION. Machine/Boot.lean: the image and its checks (20 R550 to R552), the device's identity (R558, R559), the ROM (R552 to R554; 02 R33; 03 R78, R81), and the
mailbox of a host push (R556, R557). -/
namespace Sys2Proof.Machine

open Sys2Proof

/-- Bytes of a blob, from an offset, as a blob. -/
def subBlob (b : Blob) (o n : Nat) : Blob :=
  ⟨n, b.bytes.filterMap (fun p => if o ≤ p.1 ∧ p.1 < o + n then some (p.1 - o, p.2) else none)⟩

/-! ### The image (R551) -/

def imgSvn (b : Blob) : Nat := b.le 0xC 4
def imgFwLen (b : Blob) : Nat := b.le 0x14 4
def imgCanvasAt (b : Blob) : Nat := b.le 0x18 4
def imgCanvasLen (b : Blob) : Nat := b.le 0x1C 4
def imgKey (b : Blob) : List Nat := blobSlice b 0x60 64

/-- The canvas of an image. -/
def imgCanvas (b : Blob) : Blob := subBlob b (imgCanvasAt b) (imgCanvasLen b)

/-- Order 3 of R552. -/
def imgFormat (b : Blob) : Bool :=
  decide (b.le 0 4 = 0x474D4941 ∧ b.le 4 2 = 1 ∧ b.le 6 2 = 0x100 ∧ b.le 0x10 4 = 0x1000 ∧ 0x10000 ≤ imgFwLen b ∧ imgFwLen b ≤ 0x800000 ∧ imgFwLen b % 0x1000 = 0 ∧
    imgCanvasAt b = alignUp (0x1000 + imgFwLen b) 0x10000 ∧ imgCanvasLen b ≤ 0x4000000) && b.zero 0xA0 32

/-- Whether a key's digest is an unrevoked ROOT slot of the fuses (R549). -/
def State.rootKey (s : State) (digest : List Nat) : Bool :=
  (List.range 4).any (fun i =>
    (s.fld 0 F.TRU_FUSE_ROOT_VALID).testBit i && !(s.fld 0 F.TRU_FUSE_ROOT_REVOKED).testBit i && decide (Config.fuseRoot i = digest))

/-- Orders 3 to 7 of R552. -/
def State.imgHeaderFault (s : State) (b : Blob) : Option Nat :=
  if !imgFormat b then some 0x11
  else if b.le 8 4 ≠ (s.reg 0 0).toNat then some 0x12
  else if !s.rootKey (sm3 (imgKey b)) then some 0x13
  else if !Config.sm2Valid (imgKey b) (blobSlice b 0 0xC0) (blobSlice b 0xC0 64) then some 0x14
  else if imgSvn b < s.fld 0 F.TRU_FUSE_SVN_MIN then some 0x15
  else none

/-- Order 8. -/
def imgFwFault (b : Blob) : Option Nat :=
  if sm3 (blobSlice b 0x1000 (imgFwLen b)) ≠ blobSlice b 0x20 32 then some 0x16 else none

/-- Orders 9 to 11, on the canvas header. -/
def imgCanvasFault (b : Blob) : Option Nat :=
  let c := imgCanvas b
  if sm3 (blobSlice c 0 256) ≠ blobSlice b 0x40 32 then some 0x16
  else if blobSlice c 0x30 32 ≠ sm3 (imgKey b) then some 0x13
  else if c.le 0x18 4 ≠ imgCanvasLen b then some 0x11
  else if !Config.sm2Valid (imgKey b) (blobSlice c 0 0xC0) (blobSlice c 0xC0 64) then some 0x14
  else none

/-- Orders 2 to 11 on an image that is all there; a source that ends too early fails to be read. -/
def State.imgFault (s : State) (b : Blob) : Option Nat :=
  if b.len < 0x100 then some 0x10
  else match s.imgHeaderFault b with
    | some c => some c
    | none =>
      if b.len < 0x1000 + imgFwLen b then some 0x10
      else match imgFwFault b with
        | some c => some c
        | none => if b.len < imgCanvasAt b + 256 then some 0x10 else imgCanvasFault b

/-- Every fuse field of R549, in the order of its table: the layout under measurement 1 is the model's (notes/assumptions/12.md). -/
def State.fuseBytes (s : State) : List Nat :=
  leBytes 1 (s.fld 0 F.TRU_FUSE_LIFECYCLE) ++ (List.range 4).flatMap Config.fuseRoot ++ leBytes 1 (s.fld 0 F.TRU_FUSE_ROOT_REVOKED) ++
    (List.range 2).flatMap Config.fuseDebug ++ Config.fuseProv ++ leBytes 1 (s.fld 0 F.TRU_FUSE_SVN_MIN)

/-! ### Identity (R558, R559) -/

def idChainLen (b : Blob) : Nat := b.le 0xC 4
def idChain (b : Blob) : List Nat := blobSlice b 0x2100 (idChainLen b)

/-- Whether the record is well formed and signed by the provisioning key, and the PUF yields the key it names. -/
def idValid (b : Blob) : Bool :=
  decide (b.le 4 2 = 1 ∧ b.le 8 4 = 8192 ∧ 1 ≤ idChainLen b ∧ idChainLen b ≤ 49152) && b.zero 6 2 && b.zero 0x90 48 &&
    decide (sm3 (blobSlice b 0x50 64) = Config.fuseProv) &&
    Config.sm2Valid (blobSlice b 0x50 64) (blobSlice b 0 0xC0 ++ blobSlice b 0x100 8192 ++ idChain b) (blobSlice b 0xC0 64) &&
    decide (Config.pufKey (blobSlice b 0x100 8192) = blobSlice b 0x10 64)

/-- Derive the identity from the record that the flash holds (none: the flash gives none). -/
def State.deriveId (s : State) (ident : Option Blob) : State :=
  match ident with
  | none => s.setFld 0 F.TRU_ID_STATE 0
  | some b =>
    if b.le 0 4 ≠ 0x44495546 then s.setFld 0 F.TRU_ID_STATE 0
    else
      let s1 := { s with boot := { s.boot with chain := if idChainLen b ≤ 49152 then idChain b else [] } }
      if idValid b then (s1.setFld 0 F.TRU_ID_STATE 1).setDigest F.TRU_ID_DIG_DIGEST (sm3 (blobSlice b 0x10 64)) else s1.setFld 0 F.TRU_ID_STATE 2

/-! ### The mailbox (R556) -/

/-- Requests of 64 to 65,536 bytes at 64-byte offsets that cover a range. -/
def mbxChunksFrom : Nat → Nat → Nat → List (Nat × Nat)
  | 0, _, _ => []
  | k + 1, o, n => if n = 0 then [] else (o, max 64 (min n 65536)) :: mbxChunksFrom k (o + 65536) (n - 65536)
def mbxChunks (o n : Nat) : List (Nat × Nat) :=
  if n = 0 then [] else mbxChunksFrom ((o + n - o / 64 * 64) / 65536 + 1) (o / 64 * 64) (o + n - o / 64 * 64)

/-- Post the first request that waits; with none, the device works on what it has. -/
def State.mbxPost (s : State) : State :=
  match s.boot.want with
  | [] => s.setFld 0 F.TRU_MBX_STATUS_STATE 3
  | (o, n) :: _ => ((s.setFld 0 F.TRU_MBX_REQ_OFS_OFS o).setFld 0 F.TRU_MBX_REQ_LEN_LEN n).setFld 0 F.TRU_MBX_STATUS_STATE 2

/-- Go on to a stage, and ask for what it reads. -/
def State.mbxStage (s : State) (st : BootStage) (want : List (Nat × Nat)) : State :=
  { s with boot := { s.boot with stage := st, want := want } }.mbxPost

/-- The bytes that the window holds. -/
def State.mbxWindow (s : State) (n : Nat) : List Nat := (List.range n).map (fun i => fieldOf (s.reg 0 (0x390000 + i / 4 * 4)) (8 * (i % 4)) 8)

/-- The bytes of the posted request arrive. -/
def State.mbxTake (s : State) : State :=
  let o := s.fld 0 F.TRU_MBX_REQ_OFS_OFS
  let n := s.fld 0 F.TRU_MBX_REQ_LEN_LEN
  let b := s.boot.image
  { s.setFld 0 F.TRU_MBX_STATUS_STATE 3 with boot := { s.boot with image := blobPut ⟨max b.len (o + n), b.bytes⟩ o (s.mbxWindow n), want := s.boot.want.drop 1 } }

/-! ### The ROM (R552 to R554) -/

/-- The ROM waits for a host push (03 R81). -/
def State.romWait (s : State) : State := (s.setFlag 0 F.RST_BRINGUP_RECOVERY true).setFld 0 F.TRU_MBX_STATUS_STATE 1

/-- The source of the image. -/
def State.setSource (s : State) (src : Nat) : State := (s.setFld 0 F.TRU_BOOT_SOURCE src).setFld 0 F.CVS_STATE_SOURCE src

/-- Order 12: the image is accepted, measurements 1 to 4 are recorded (R564) and the firmware starts; bring-up step 4 is complete. -/
def State.romAccept (s : State) (img : Blob) : State :=
  let m := [sm3 (Config.romVersion ++ s.fuseBytes), sm3 (blobSlice img 0 256), blobSlice img 0x20 32, sm3 (blobSlice (imgCanvas img) 0 256)]
  let s1 := ((s.setFld 0 F.TRU_BOOT_RESULT 1).setFld 0 F.TRU_SVN_SVN (imgSvn img)).setFlag 0 F.RST_BRINGUP_RECOVERY false
  { s1.setFld 0 F.RST_BRINGUP_STEP 4 with boot := { s1.boot with image := img, stage := .checked, want := [], meas := m, key := imgKey img } }

/-- The ROM reads the flash; a bad image sends it into the recovery wait (R554). -/
def State.romFlash (s : State) (flash : Option Blob) : State :=
  let s1 := s.setSource 1
  match flash with
  | none => (s1.setFld 0 F.TRU_BOOT_RESULT 0x10).romWait
  | some b =>
    match s1.imgFault b with
    | some c => (s1.setFld 0 F.TRU_BOOT_RESULT c).romWait
    | none => s1.romAccept b

/-- A pushed image fails R552 (R554). -/
def State.romReject (s : State) (c : Nat) : State :=
  let s1 := ((s.setFld 0 F.TRU_BOOT_RESULT c).setFld 0 F.CVS_FAULT_CODE cfSignature).setFld 0 F.CVS_FAULT_SECTION 0
  { s1.setFld 0 F.TRU_MBX_STATUS_STATE 1 with boot := { s1.boot with image := ⟨0, []⟩, stage := .idle, want := [] } }

/-- ROM_BOOT (R552, R553; 02 R33): bring-up step 4. `flash` is the image as the flash delivers it, `ident` the identity record; none where a read fails. -/
def execRomBoot (flash ident : Option Blob) (s : State) : Res :=
  .next (if s.rst.chipSrc ≠ 0 ∨ s.fld 0 F.RST_BRINGUP_STEP ≠ 3 ∨ s.fld 0 F.TRU_BOOT_SOURCE ≠ 0 then s
    else
      let s1 := s.deriveId ident
      if s1.flag 0 F.TRU_BOOT_CTRL_PUSH_NEXT then ((s1.setFlag 0 F.TRU_BOOT_CTRL_PUSH_NEXT false).setSource 2).romWait
      else if (s1.fld 0 F.RST_LAST_SOURCES).testBit 9 then
        (if s1.fld 0 F.CVS_FLASH_TRIES_TRIES < 2 then (s1.incSat 0 F.CVS_FLASH_TRIES_TRIES 1).romFlash flash else (s1.setSource 2).romWait)
      else s1.romFlash flash)

/-- PUSH_START (R556). -/
def State.pushStart (s : State) (req : Requester) : State :=
  if req.manages && decide (s.fld 0 F.TRU_MBX_STATUS_STATE = 1) then
    { s.setSource 2 with boot := { s.boot with image := ⟨0, []⟩ } }.mbxStage .header (mbxChunks 0 256)
  else s
def execPushStart (req : Requester) (s : State) : Res :=
  s.access req F.TRU_MBX_CTRL_START.off (fun _ =>
    .next (s.pushStart req))

/-- A check of a pushed image: a fault code rejects it, and what follows where it passes. -/
def State.romJudge (s : State) (fault : Option Nat) (good : State) : State :=
  match fault with
  | some c => s.romReject c
  | none => good

/-- What has arrived in step 4 is checked, and the next range asked for. -/
def State.romArrived (s : State) : State :=
  let b := s.boot.image
  if s.boot.stage = .header ∧ s.boot.want = [] then
    s.romJudge (s.imgHeaderFault b) (s.mbxStage .firmware (mbxChunks 0x1000 (imgFwLen b) ++ mbxChunks (imgCanvasAt b) 256))
  else if s.boot.stage = .firmware ∧ s.boot.want.length = 1 then s.romJudge (imgFwFault b) s.mbxPost
  else if s.boot.stage = .firmware ∧ s.boot.want = [] then s.romJudge (imgCanvasFault b) (s.romAccept b)
  else s.mbxPost

end Sys2Proof.Machine
end

