-- ==== Sys2Proof/Machine/Apply.lean ====
section
/-! DEFINITION. Machine/Apply.lean: apply (02 R20 to R37, R606; 03 R78; 04 R114, R115), from the check of the canvas to sealing, the push that feeds it (20 R556,
R557), and the start of easel 0 (03 R78; 21 R578). -/
namespace Sys2Proof.Machine

open Sys2Proof

/-! ### The header and the section table (R22 to R24, R26, R28) -/

/-- The canvas that is being applied. -/
def State.canvas (s : State) : Blob := imgCanvas s.boot.image

/-- SECTION_COUNT and TOTAL_LEN. -/
def cvCount (c : Blob) : Nat := c.le 0x1C 2
def cvTotal (c : Blob) : Nat := c.le 0x18 4

/-- A field of an entry of the section table, and its parts. -/
def te (c : Blob) (i o n : Nat) : Nat := c.le (0x100 + 48 * i + o) n
def teType (c : Blob) (i : Nat) : Nat := te c i 0 2
def teOff (c : Blob) (i : Nat) : Nat := te c i 4 4
def teLen (c : Blob) (i : Nat) : Nat := te c i 8 4
def teEnd (c : Blob) (i : Nat) : Nat := teOff c i + teLen c i

/-- The end of the section table. -/
def tableEnd (c : Blob) : Nat := 0x100 + 48 * cvCount c

/-- The payload of an entry, and of a type. -/
def tePayload (c : Blob) (i : Nat) : Blob := subBlob c (teOff c i) (teLen c i)
def cvSection (c : Blob) (t : Nat) : Blob :=
  match (List.range (cvCount c)).find? (fun i => decide (teType c i = t)) with
  | some i => tePayload c i
  | none => ⟨0, []⟩

/-- The types in table order. -/
def cvOrder (c : Blob) : List Nat := (List.range (cvCount c)).map (teType c)

/-- The fixed types, and the annotation types (R26). -/
def fixedType (t : Nat) : Bool := decide (1 ≤ t ∧ t ≤ 0x12)
def noteType (t : Nat) : Bool := decide (0xF000 ≤ t ∧ t ≤ 0xFFFF)

/-- The types of phase 1 (R27). -/
def earlyType (t : Nat) : Bool := decide (1 ≤ t ∧ t ≤ 6)

/-- Step 1 of R606: the header. -/
def State.headerRefusal (s : State) (c : Blob) : Option Nat :=
  if c.le 0 4 ≠ 0x53564E43 ∨ c.le 4 2 ≠ 1 ∨ c.le 6 2 ≠ 0x100 ∨ c.le 0x1E 2 ≠ 0 ∨ !(c.zero 0x2A 6 && c.zero 0x70 80) ∨ cvCount c < 18 ∨ 256 < cvCount c then some cfFormat
  else if c.le 8 4 ≠ (s.reg 0 0).toNat ∨ c.le 0xC 4 ≠ (s.reg 0 8).toNat ∨ c.le 0x10 4 ≠ (s.reg 0 0xC).toNat ∨ c.le 0x14 4 ≠ (s.reg 0 0x10).toNat then some cfMember
  else if fieldOf (s.reg 0 4) 0 16 < c.le 0x28 2 then some cfStepping
  else if 0x4000000 < cvTotal c then some cfLength
  else none

/-- Two payloads share a byte. -/
def teOverlap (c : Blob) (i j : Nat) : Bool := decide (0 < teLen c i ∧ 0 < teLen c j ∧ teOff c i < teEnd c j ∧ teOff c j < teEnd c i)

/-- A payload that breaks R24, R28 or a length that the table shows. -/
def lengthsBad (c : Blob) : Bool :=
  let n := cvCount c
  (List.range n).any (fun i =>
    decide (teOff c i % 64 ≠ 0 ∨ teOff c i < tableEnd c ∨ cvTotal c < teEnd c i) || (decide (teLen c i = 0) && decide (teType c i ≠ secPatient)) ||
      !tableLen (teType c i) (teLen c i) || (List.range i).any (teOverlap c i)) ||
    decide (((List.range n).map (teEnd c)).foldl max 0 ≠ cvTotal c) ||
    decide (2097152 < (((List.range n).filter (fun i => earlyType (teType c i))).map (teLen c)).foldl (· + ·) 0)

/-- Steps 2 and 3 of R606, but for the padding. -/
def tableRefusal (c : Blob) : Option Nat :=
  let n := cvCount c
  let l := List.range n
  if sm3 (blobSlice c 0x100 (48 * n)) ≠ blobSlice c 0x50 32 then some cfDigest
  else if l.any (fun i => decide (te c i 2 1 ≠ 1 ∨ te c i 3 1 ≠ 0 ∨ te c i 0xC 4 ≠ 0)) then some cfFormat
  else if l.any (fun i => !fixedType (teType c i) && !noteType (teType c i)) then some cfUnknown
  else if l.any (fun i => fixedType (teType c i) && (List.range i).any (fun j => decide (teType c j = teType c i))) then some cfDuplicate
  else if (List.range 18).any (fun t => !(cvOrder c).contains (t + 1)) then some cfMissing
  else if lengthsBad c then some cfLength
  else none

/-- The ranges between the table and TOTAL_LEN that no payload covers. -/
def cvGaps (c : Blob) : List (Nat × Nat) :=
  let l := List.range (cvCount c)
  ((tableEnd c :: l.map (teEnd c)).map (fun e =>
    (e, ((l.map (teOff c)).filter (fun o => decide (e ≤ o))).foldl min (max e (cvTotal c)) - e))).filter (fun g => decide (0 < g.2))

/-- The padding is zero (R24). -/
def paddingBad (c : Blob) : Bool := (cvGaps c).any (fun g => !c.zero g.1 g.2)

/-! ### Sections (R25, R606 steps 4, 6 and 7) -/

/-- The first failure of a section. -/
def teFault (c : Blob) (i : Nat) : Option Nat :=
  let b := tePayload c i
  if sm3 (blobBytes b) ≠ blobSlice c (0x100 + 48 * i + 0x10) 32 then some cfDigest else ownFault (teType c i) b

/-- The entries of a phase, in table order. -/
def teList (c : Blob) (early : Bool) : List Nat := (List.range (cvCount c)).filter (fun i => earlyType (teType c i) == early)

/-- The first failure among entries: code and type. -/
def firstFault (c : Blob) : List Nat → Option (Nat × Nat)
  | [] => none
  | i :: r =>
    match teFault c i with
    | some x => some (x, teType c i)
    | none => firstFault c r

/-- Entries whose payload a push has no range of left to bring. -/
def State.arrivedList (s : State) (early : Bool) : List Nat :=
  let base := imgCanvasAt s.boot.image
  (teList s.canvas early).filter (fun i => s.boot.want.all (fun w => decide (base + teEnd s.canvas i ≤ w.1 ∨ w.1 + w.2 ≤ base + teOff s.canvas i)))

/-- Write the sections of the types that a phase names. -/
def State.loadPhase (s : State) (now : Nat → Bool) : State := forEach (loadOrder.filter now) (fun t (u : State) => u.loadSection t (cvSection s.canvas t)) s

/-! ### Phases (R27) -/

/-- Phase 2 begins: the dividers are set from CLOCK, and K and S settle. -/
def State.phaseClocks (s : State) : State := ((s.loadSection secClock (cvSection s.canvas secClock)).setFld 0 F.RST_BRINGUP_STEP 5).setFld 0 F.CVS_STATE_PHASE 2

/-- Phase 3 and the start of phase 4, once K and S run: the other early sections are written, the I/O dies released, and the stacks start to train (04 R114). -/
def State.phaseEarly (s : State) : State :=
  let s1 := (s.loadPhase (fun t => earlyType t && decide (t ≠ secClock))).setFld 0 F.RST_DOMAIN_IODIE 0
  forUpto 18 (fun k (t : State) => t.setFld k F.MEM_STK_STATUS_STATE 1) ((s1.setFld 0 F.RST_BRINGUP_STEP 7).setFld 0 F.CVS_STATE_PHASE 4)

/-- DOMAIN_SETTLE (R59; R78; 02 R27): H and Q settle at step 3, when the ROM starts, releases the CXL controller and starts the watchdog; K and S settle in phase 2 of apply. -/
def execDomainSettle (d : Domain) (s : State) : Res :=
  let s1 := s.orFld 0 F.CLK_STATUS_RUN (2 ^ domBit d)
  .next (if s.runs d || decide (s.rst.chipSrc ≠ 0) then s
    else if domBit d < 2 then
      (if s.fld 0 F.CVS_STATE_STATE = 1 ∧ s.fld 0 F.CVS_STATE_PHASE = 2 then (if s1.runs .k && s1.runs .s then s1.phaseEarly else s1) else s)
    else if s.fld 0 F.RST_BRINGUP_STEP = 2 then
      (if s1.runs .h && s1.runs .q then { (s1.setFld 0 F.RST_BRINGUP_STEP 3).showHeld with rst := { s1.rst with wdog := some s1.nowNs } } else s1)
    else s)

/-- Sealing (R34, R37; 03 R78): what CVS_ shows, the nonce, and the panels are released and their S-cores idle (07 R232). -/
def State.seal (s : State) : State :=
  let c := s.canvas
  let d := s.draw
  let s1 := ((d.2.setFld64 0 F.CVS_ID_LO_ID F.CVS_ID_HI_ID (c.le 0x20 8)).setFld 0 F.CVS_FORMAT_FORMAT_VER (c.le 4 2)).setFld 0 F.CVS_FORMAT_SECTIONS (cvCount c)
  let s2 := (s1.setFld 0 F.CVS_LEN_TOTAL_LEN (cvTotal c)).setDigest F.CVS_SIGNER_SIGNER (blobSlice c 0x30 32)
  let s3 := (s2.setFld64 0 F.CVS_BOOT_NONCE_LO_NONCE F.CVS_BOOT_NONCE_HI_NONCE (Config.bootNonce d.1).toNat).setFld 0 F.CVS_APPLY_TIME_US (Config.applyTime d.1).toNat
  let s4 := ((s3.setFld 0 F.CVS_FLASH_TRIES_TRIES 0).setFld 0 F.CVS_STATE_STATE 2).setFld 0 F.CVS_STATE_PHASE 0
  let s5 := ((s4.setFld 0 F.RST_BRINGUP_STEP 9).setFld 0 F.TRU_MBX_STATUS_STATE 0).setFld 0 F.RST_DOMAIN_PANEL 0
  let s6 := forUpto 192 (fun i (t : State) => t.scShow i) (forUpto 48 (fun i (t : State) => t.tcShow i) s5)
  { s6 with boot := { s6.boot with image := ⟨0, []⟩, stage := .ready, want := [] } }

/-- Phase 5 once the late sections are there: they are checked, joined and written, and phase 6 seals. -/
def State.phaseLate (s : State) : State :=
  let c := s.canvas
  match firstFault c (teList c false) with
  | some r => s.applyRefuse r.1 r.2
  | none =>
    match joinFault (cvSection c) (cvOrder c) with
    | some r => s.applyRefuse r.1 r.2
    | none => (s.loadPhase (fun t => !earlyType t)).seal

/-- Phase 1 from a source that is all there. -/
def State.phaseCheck (s : State) : State :=
  let c := s.canvas
  match s.headerRefusal c with
  | some x => s.applyRefuse x 0
  | none =>
    match tableRefusal c with
    | some x => s.applyRefuse x 0
    | none =>
      if paddingBad c then s.applyRefuse cfLength 0
      else match firstFault c (teList c true) with
        | some r => s.applyRefuse r.1 r.2
        | none => s.phaseClocks

/-! ### A push during apply (20 R556, R557) -/

/-- Requests for ranges of the canvas. -/
def State.cvChunks (s : State) (l : List (Nat × Nat)) : List (Nat × Nat) := l.flatMap (fun r => mbxChunks (imgCanvasAt s.boot.image + r.1) r.2)

/-- The payloads of a phase. -/
def State.wantPhase (s : State) (early : Bool) : List (Nat × Nat) := s.cvChunks ((teList s.canvas early).map (fun i => (teOff s.canvas i, teLen s.canvas i)))

/-- What has arrived in apply is checked, and the next range asked for. -/
def State.applyArrived (s : State) : State :=
  let c := s.canvas
  match s.boot.stage with
  | .table =>
    if s.boot.want ≠ [] then s.mbxPost
    else match tableRefusal c with
      | some x => s.applyRefuse x 0
      | none => if cvGaps c = [] then s.mbxStage .early (s.wantPhase true) else s.mbxStage .padding (s.cvChunks (cvGaps c))
  | .padding =>
    if s.boot.want ≠ [] then s.mbxPost
    else if paddingBad c then s.applyRefuse cfLength 0
    else s.mbxStage .early (s.wantPhase true)
  | .early =>
    (match firstFault c (s.arrivedList true) with
    | some r => s.applyRefuse r.1 r.2
    | none => if s.boot.want ≠ [] then s.mbxPost else { s.phaseClocks with boot := { s.boot with stage := .late } })
  | .late =>
    (match firstFault c (s.arrivedList false) with
    | some r => s.applyRefuse r.1 r.2
    | none => if s.boot.want ≠ [] then s.mbxPost else s.phaseLate)
  | _ => s

/-- PUSH_DONE (20 R556). -/
def State.pushDone (s : State) (req : Requester) : State :=
  if req.manages && decide (s.fld 0 F.TRU_MBX_STATUS_STATE = 2) then
    let s1 := s.mbxTake
    if s1.pushInRom then s1.romArrived else s1.applyArrived
  else s
def execPushDone (req : Requester) (s : State) : Res :=
  s.access req F.TRU_MBX_CTRL_START.off (fun _ =>
    .next (s.pushDone req))

/-- PUSH_ABORT (20 R557). -/
def State.pushAbort (s : State) (req : Requester) : State := if req.manages then s.pushEnd else s
def execPushAbort (req : Requester) (s : State) : Res :=
  s.access req F.TRU_MBX_CTRL_START.off (fun _ =>
    .next (s.pushAbort req))

/-- PUSH_REQUEST_TIMEOUT (20 R557): a posted request has had no answer for 1 s. -/
def execPushRequestTimeout (s : State) : Res := .next (if s.fld 0 F.TRU_MBX_STATUS_STATE = 2 then s.pushEnd else s)

/-! ### Apply (R27) -/

/-- APPLY_BEGIN: phase 1, and phase 2 begins; `lost` says that the flash stopped delivering the canvas. A push brings the table first. -/
def execApplyBegin (lost : Bool) (s : State) : Res :=
  .next (if s.boot.stage ≠ .checked ∨ s.rst.chipSrc ≠ 0 then s
    else
      let s1 := (s.setFld 0 F.CVS_STATE_STATE 1).setFld 0 F.CVS_STATE_PHASE 1
      if s1.fld 0 F.CVS_STATE_SOURCE = 2 then
        (match s1.headerRefusal s1.canvas with
        | some x => s1.applyRefuse x 0
        | none => s1.mbxStage .table (s1.cvChunks [(0x100, 48 * cvCount s1.canvas)]))
      else if lost || decide (s1.boot.image.len < imgCanvasAt s1.boot.image + imgCanvasLen s1.boot.image) then s1.applyRefuse cfSourceLost 0
      else { s1 with boot := { s1.boot with stage := .ready } }.phaseCheck)

/-- A stack that trains ends steps 1 to 3 of its training (04 R114): zero fill begins, or it has FAILED. -/
def State.stackTrained (s : State) (k : Nat) (ok : Bool) (spares : Nat) : State :=
  if s.fld k F.MEM_STK_STATUS_STATE ≠ 1 then s
  else if ok then (s.setFld k F.MEM_STK_STATUS_STATE 2).setFld k F.MEM_STK_STATUS_REPAIRED spares
  else s.setFld k F.MEM_STK_STATUS_STATE 5

/-- A stack's zero fill ends (04 R114, R115). -/
def State.stackFilled (s : State) (k : Nat) : State := (s.setFld k F.MEM_STK_STATUS_STATE 3).orFld 0 F.MEM_READY_READY (2 ^ k)

/-- STACK_TRAINING_DONE: steps 1 to 3 of phase 4 end, and with `filled` zero fill too, which leaves zeros with valid ECC and no USED bit; phases 5 and 6 follow. `trained` says which
interfaces trained, `spares` gives the spare lanes in use, `lost` says that the flash stopped delivering. Model's choice: notes/assumptions/152.md. -/
def execStackTrainingDone (trained : BitVec 18) (spares : List Nat) (filled lost : Bool) (s : State) : Res :=
  .next (if s.fld 0 F.CVS_STATE_STATE ≠ 1 ∨ s.fld 0 F.CVS_STATE_PHASE ≠ 4 ∨ s.rst.chipSrc ≠ 0 then s
    else
      let s0 := forUpto 18 (fun k (t : State) => t.stackTrained k (trained.toNat.testBit k) (nth 0 spares k)) s
      if (List.range 18).any (fun k => decide (s0.fld k F.MEM_STK_STATUS_STATE = 5)) then s0.applyRefuse cfTraining 0
      else if !filled then s0
      else
        let s1 := forUpto 18 (fun k (t : State) => t.stackFilled k) { s0 with mem := [], poison := [], used := [] }
        let s2 := s1.setFld 0 F.CVS_STATE_PHASE 5
        if s2.boot.stage = .late then s2.mbxStage .late (s2.wantPhase false)
        else if lost then s2.applyRefuse cfSourceLost 0
        else s2.phaseLate)

/-! ### Easel 0 (03 R78, R79; 21 R578) -/

/-- One FATAL record that Atelier posts after bring-up. -/
def State.postFatal (s : State) (det unitKind unit : Nat) : State :=
  if s.detEnabled det then s.deliverFault ⟨det, 0, sevFatal, (detRange det).attrib, false, false, atelier, unitKind, unit, 0, 1, s.nowNs⟩ else s

/-- The detectors that the sticky registers show: supplies, brace, the thermal trip, clocks. -/
def State.stickyDets (s : State) : List (Nat × Nat × Nat) :=
  let cause := s.fld 0 F.RST_CAUSE_CAUSE
  let rails := s.fld 0 F.PWR_SUP_TRIP_UNDER ||| s.fld 0 F.PWR_SUP_TRIP_OVER
  let clk := (if s.flag 0 F.CLK_LOSS_REF then [193] else []) ++ (if s.flag 0 F.CLK_LOSS_ROOT then [194] else []) ++
    (bitsOf 4 (s.fld 0 F.CLK_LOSS_DOMAIN)).map (fun d => 195 + d)
  (bitsOf 7 (s.fld 0 F.PWR_BRACE_CAUSE_RAIL)).map (fun r => (178 + r, ukRail, r)) ++
    (if cause.testBit 5 then (bitsOf 7 rails).map (fun r => (185 + r, ukRail, r)) else []) ++
    (if cause.testBit 7 then clk.map (fun d => (d, ukNone, 0)) else []) ++
    (if cause.testBit 6 then [(209, ukNone, 0)] else [])

/-- EASEL0_START: `us` is the time since the release of R76. The CXL controller is out of reset unless the host holds it: step 11 is then complete too. -/
def execEasel0Start (us : BitVec 32) (s : State) : Res :=
  .next (if s.fld 0 F.CVS_STATE_STATE ≠ 2 ∨ s.fld 0 F.RST_BRINGUP_STEP ≠ 9 ∨ s.rst.chipSrc ≠ 0 then s
    else
      let s1 := forUpto 192 (fun n (t : State) => t.loadImage n) s
      let s2 := ((s1.setLife 0 lifeReady).setFlag 0 F.RST_BRINGUP_RADIO_READY true).setFld 0 F.RST_READY_TIME_US us.toNat
      let s3 := s2.setFld 0 F.RST_BRINGUP_STEP (if s2.flag 0 F.RST_DOMAIN_CXL then 10 else 11)
      forEach s3.stickyDets (fun d (t : State) => t.postFatal d.1 d.2.1 d.2.2) s3)

end Sys2Proof.Machine
end

