-- ==== Sys2Proof/Machine/Retouch.lean ====
section
/-! DEFINITION. Machine/Retouch.lean: the retouch (02 R38 to R54, R609; 10 R309; 13 R389, R390; 15 R446): its submission, its checks in the order of R44, its acceptance and its
cancellation. -/
namespace Sys2Proof.Machine

open Sys2Proof

/-! ### Codes (R44) -/

def rtFormat : Nat := 0x11
def rtSignature : Nat := 0x12
def rtTarget : Nat := 0x13
def rtSequence : Nat := 0x14
def rtType : Nat := 0x15
def rtRange : Nat := 0x16
def rtRadio : Nat := 0x17
def rtOvercommit : Nat := 0x18
def rtWatermark : Nat := 0x19
def rtBusy : Nat := 0x1A
def rtDigest : Nat := 0x1B
def rtFetch : Nat := 0x1C

/-! ### Records (R39) -/

/-- A record. -/
structure RtRec where
  op : Nat
  len : Nat
  index : Nat
  key : Nat
  data : List Nat
  deriving DecidableEq, Repr

/-- Operations of a record. -/
def rtReplace : Nat := 1
def rtInsert : Nat := 2
def rtDelete : Nat := 3

/-- The record at an offset. -/
def rtRecAt (b : Blob) (o : Nat) : RtRec := ⟨b.byte o, b.le (o + 2) 2, b.le (o + 4) 4, b.le (o + 8) 4, blobSlice b (o + 16) (b.le (o + 2) 2)⟩

/-- `k` records from an offset, the first of them number `i`, in a retouch of `n` bytes: them, or the number of the record that breaks R39. -/
def rtParse (b : Blob) (n : Nat) : Nat → Nat → Nat → Except Nat (List RtRec)
  | 0, i, o => if o = n then .ok [] else .error (i - 1)
  | k + 1, i, o =>
    let r := rtRecAt b o
    let nx := alignUp (o + 16 + r.len) 4
    if n < o + 16 ∨ n < nx ∨ !(b.zero (o + 1) 1 && b.zero (o + 0xC) 4 && b.zero (o + 16 + r.len) (nx - (o + 16 + r.len))) then .error i
    else match rtParse b n k (i + 1) nx with
      | .ok l => .ok (r :: l)
      | .error e => .error e

/-- The records of a retouch of `n` bytes, or the record that a refusal with FORMAT names (R38, R39, R41). -/
def rtRecords (b : Blob) (n : Nat) : Except Nat (List RtRec) :=
  if n < 160 ∨ 0x100000 < n ∨ b.le 0 4 ≠ 0x48545452 ∨ b.le 4 2 ≠ 1 ∨ !(b.zero 0x1E 2 && b.zero 0x24 28) ∨ b.le 0x1C 2 = 0 ∨ 8192 < b.le 0x1C 2 ∨ b.le 0x20 4 ≠ n then
    .error 0
  else rtParse b n (b.le 0x1C 2) 0 160

/-! ### The section under the records -/

/-- A working copy of a section: bytes, and for RANKS the jobs. -/
structure RtCopy where
  blob : Blob
  jobs : List RJob
  deriving DecidableEq, Repr

/-- Entries of a section and the bytes of each. -/
def rtCount (t : Nat) : Nat := if t = secEasels then 64 else if t = secFlows then 8192 else 4160
def rtSize (t : Nat) : Nat := if t = secEasels ∨ t = secFlows then 64 else 16

/-- INDEX of a job header (13 R389). -/
def rtJobHdr : Nat := 0xFFFFFFFF

/-- The present bytes of an entry. -/
def RtCopy.entry (c : RtCopy) (t i : Nat) : List Nat := blobSlice c.blob (rtSize t * i) (rtSize t)

/-- Replace the job of an identifier. -/
def putJob (js : List RJob) (j : RJob) (job : Nat) : List RJob := js.map (fun k => if k.job = job then j else k)

/-- Apply a record of RANKS (13 R389; 02 R609); none breaks the rules with RANGE. -/
def RtCopy.rankRec (c : RtCopy) (r : RtRec) : Option RtCopy :=
  let job := ofLe (r.data.take 4)
  match c.jobs.find? (fun j => decide (j.job = r.key)) with
  | none => if r.index = rtJobHdr ∧ r.op = rtInsert ∧ job = r.key then some { c with jobs := c.jobs ++ [⟨r.data, []⟩] } else none
  | some j =>
    if r.index = rtJobHdr then
      (if r.op = rtReplace then (if job = r.key then some { c with jobs := putJob c.jobs { j with hdr := r.data } r.key } else none)
       else if r.op = rtDelete then some { c with jobs := c.jobs.filter (fun k => decide (k.job ≠ r.key)) }
       else none)
    else if 4096 ≤ r.index ∨ (j.ranks.any (fun p => decide (p.1 = r.index)) = decide (r.op = rtInsert)) then none
    else some { c with jobs := putJob c.jobs { j with ranks := SMap.set (fun _ => []) j.ranks r.index r.data } r.key }

/-- Apply a record; none breaks R39 or R609 with RANGE. -/
def State.rtApply (s : State) (t : Nat) (c : RtCopy) (r : RtRec) : Option RtCopy :=
  let want := if r.op = rtDelete then 0 else if t = secRanks ∧ r.index = rtJobHdr then 32 else rtSize t
  if !within 1 3 r.op || decide (r.len ≠ want) then none
  else if t = secRanks then c.rankRec r
  else if r.key ≠ 0 ∨ rtCount t ≤ r.index then none
  else
    let old := c.entry t r.index
    let put := some { c with blob := blobPut c.blob (rtSize t * r.index) (if r.op = rtDelete then List.replicate 64 0 else r.data) }
    if t = secFlows then
      (if (decide (nth 0 old 0 ≠ 0) = decide (r.op = rtInsert)) ∨ (r.op ≠ rtDelete ∧ nth 0 r.data 0 = 0) then none else put)
    else if r.op ≠ rtReplace then none
    else if t = secEasels then (if r.data.take 5 = old.take 5 then put else none)
    else if r.index < 4096 ∧ nd (s.sec secTree) r.index 0 1 = 0 then none
    else put

/-- The copies after each record, oldest first; a record that cannot be applied leaves the copy as it stands. -/
def State.rtRun (s : State) (t : Nat) (c : RtCopy) : List RtRec → List RtCopy
  | [] => []
  | r :: l => let d := (s.rtApply t c r).getD c; d :: s.rtRun t d l

/-! ### Rules on the whole section (R44) -/

/-- The sections in force with one replaced. -/
def State.secsWith (s : State) (t : Nat) (b : Blob) : Secs := fun k => if k = t then b else s.sec k

/-- Jobs that the records delete: a job inserted again is a new one. -/
def rtGone (rs : List RtRec) : List Nat := (rs.filter (fun r => decide (r.index = rtJobHdr ∧ r.op = rtDelete))).map (fun r => r.key)

/-- What R390 asks of a job that stays. -/
def jobChangeOk (old new : RJob) : Bool :=
  if new.epoch ≠ old.epoch then decide (new.epoch = old.epoch + 1)
  else decide (new.self = old.self ∧ new.count = old.count ∧ new.mask = old.mask) &&
    new.ranks.all (fun p =>
      let o := old.rank p.1
      (decide (rkMac p.2 = rkMac o ∧ rkPaths p.2 = rkPaths o) || decide (rkGen p.2 = (rkGen o + 1) % 256)) && !(decide (rkState o = 1) && decide (rkState p.2 = 0)))

/-- What R390 asks of the entry at SELF_RANK: the device's MAC, or another's in a tombstone. -/
def State.selfOk (s : State) (old : Option RJob) (new : RJob) : Bool :=
  let own := (s.sec secYaroz).le 6 6
  let d := new.rank new.self
  match old with
  | none => decide (rkMac d = own)
  | some o =>
    let stone := match s.slotOf o.job with
      | some k => s.tombstone k
      | none => false
    if stone then decide (rkMac d ≠ own)
    else decide (rkMac d = own) || decide (rkMac (o.rank new.self) = own ∧ rkGen d = (rkGen (o.rank new.self) + 1) % 256)

/-- The job in force of a job's identifier; none for one that the retouch makes anew. -/
def State.oldJob (s : State) (gone : List Nat) (j : RJob) : Option RJob := if gone.contains j.job then none else s.jobs.find? (fun o => decide (o.job = j.job))

/-- The easels of a job exist. -/
def State.jobEasels (s : State) (j : RJob) : Bool := allBelow 64 (fun e => !j.mask.testBit e || easelIn (s.sec secEasels) e)

/-- The rules that concern a whole section, each with its code and whether the section keeps it. -/
def State.rtRules (s : State) (t : Nat) (gone : List Nat) : List (Nat × (RtCopy → Bool)) :=
  if t = secRanks then
    [(rtRange, fun c => decide (c.jobs.length ≤ 16)), (rtRange, fun c => distinct (c.jobs.map (·.job))), (rtRange, fun c => masksApart c.jobs),
     (rtRange, fun c => c.jobs.all (fun j => jobHdrOk j && s.jobEasels j)), (rtRange, fun c => c.jobs.all jobNumbered),
     (rtRange, fun c => c.jobs.all (fun j => j.ranks.all (fun p => rankOk p.2 && rankReached j p.1 p.2))),
     (rtRange, fun c => c.jobs.all (fun j => s.selfOk (s.oldJob gone j) j)),
     (rtRange, fun c => c.jobs.all (fun j => match s.oldJob gone j with
       | some o => jobChangeOk o j
       | none => true))]
  else
    [(rtRange, fun c => ownRanges t c.blob), (rtRange, fun c => joinRanges (s.secsWith t c.blob) t),
     (rtOvercommit, fun c => decide (t ≠ secEasels) || sharesFit c.blob), (rtOvercommit, fun c => decide (t ≠ secEasels) || stacksFit (s.secsWith t c.blob)),
     (rtOvercommit, fun c => decide (t ≠ secFlows) || palFits (s.secsWith t c.blob))]

/-- The earliest record after which, and after every later one, the section breaks a rule (R44). -/
def lastRun (bad : List Bool) : Nat := bad.length - (bad.reverse.takeWhile (fun b => b)).length

/-! ### Rules on a record -/

/-- Whether the entry that a record has written keeps the ranges that concern it alone (R44); RANKS: its header or its rank's entry. -/
def State.rtEntryOk (s : State) (t : Nat) (c : RtCopy) (r : RtRec) : Bool :=
  let sx := s.secsWith t c.blob
  if r.op = rtDelete then true
  else if t = secRanks then (if r.index = rtJobHdr then jobHdrOk ⟨r.data, []⟩ && s.jobEasels ⟨r.data, []⟩ else rankOk r.data)
  else if t = secEasels then easelOk c.blob r.index
  else if t = secFlows then flowOk c.blob r.index && flowJoin sx r.index
  else if r.index < 4096 then paramNodeOk c.blob r.index && paramNodeJoin sx r.index
  else paramEaselJoin sx (r.index - 4096)

/-- A record that cannot be applied, or whose entry breaks a range: RANGE. -/
def State.rtRangeHit (s : State) (t : Nat) (c : RtCopy) (r : RtRec) : Bool :=
  match s.rtApply t c r with
  | some d => !s.rtEntryOk t d r
  | none => true

/-- Whether a record changes its entry (R45). -/
def RtCopy.changes (c : RtCopy) (t : Nat) (r : RtRec) : Bool := decide (r.op = rtDelete ∨ rtCount t ≤ r.index ∨ r.data ≠ c.entry t r.index)

/-- A record that touches what R45 protects. -/
def State.rtRadioHit (s : State) (t : Nat) (c : RtCopy) (r : RtRec) : Bool :=
  c.changes t r &&
    (if t = secEasels then decide (r.index = 0)
     else if t = secFlows then decide (r.op ≠ rtInsert) && (s.cellOfFlow r.index).isSome
     else if t = secParam then decide (r.index = 4096) || (decide (r.index < 4096) && decide (nd (s.sec secTree) r.index 1 1 % 2 = 1))
     else false)

/-- A record that sets a memory share below the live watermark (R46). -/
def State.rtWmHit (s : State) (t : Nat) (r : RtRec) : Bool :=
  decide (t = secEasels ∧ r.op = rtReplace ∧ 1 ≤ r.index ∧ r.index < 64) &&
    (let v := shareVec (blobOf r.data) 0
     let e := r.index
     decide (v.bonded < s.bondWm e ∨ v.scratch < s.scratchWm e ∨ v.dmem < s.dmemWm e ∨ v.pmem < s.pmemWm e ∨ v.palette < s.palWm e ∨ v.seq < s.seqWm e))

/-- An INSERT at the index of a deleted flow whose queue is not empty (R51). -/
def State.rtBusyHit (s : State) (t : Nat) (r : RtRec) : Bool := decide (t = secFlows ∧ r.op = rtInsert) && NSet.has r.index s.eth.freeing

/-- An INSERT or DELETE of a rank entry in a job that the retouch neither makes, deletes nor moves to EPOCH + 1 (13 R390). -/
def State.rtMemberHit (s : State) (t : Nat) (rs : List RtRec) (c : RtCopy) (r : RtRec) : Bool :=
  decide (t = secRanks ∧ r.op ≠ rtReplace ∧ r.index ≠ rtJobHdr) && !rs.any (fun x => decide (x.key = r.key ∧ x.index = rtJobHdr ∧ x.op ≠ rtReplace)) &&
    (match s.jobs.find? (fun j => decide (j.job = r.key)), c.jobs.find? (fun j => decide (j.job = r.key)) with
    | some o, some n => decide (n.epoch ≠ o.epoch + 1)
    | _, _ => false)

/-- The number of the first record that meets a condition. -/
def firstRec (l : List Bool) : Option Nat := l.findIdx? (fun b => b)

/-- The earlier of two record numbers. -/
def earlier : Option Nat → Option Nat → Option Nat
  | some a, some b => some (min a b)
  | some a, none => some a
  | none, b => b

/-- The present section as a copy. -/
def State.rtCopy (s : State) (t : Nat) : RtCopy := ⟨s.sec t, if t = secRanks then s.jobs else []⟩

/-- The payload of a copy. -/
def RtCopy.payload (c : RtCopy) (t : Nat) : Blob := if t = secRanks then ranksBlob c.jobs else c.blob

/-- BUSY to DIGEST of R44 for records of a type: code and record, or the copy that stands after them. -/
def State.rtJudge (s : State) (t : Nat) (rs : List RtRec) (digest : List Nat) : Except (Nat × Nat) RtCopy :=
  let c0 := s.rtCopy t
  let cs := s.rtRun t c0 rs
  let before := c0 :: cs
  let last := (cs.getLast?).getD c0
  let pairs := before.zip rs
  let wholeAt := fun (code : Nat) => ((s.rtRules t (rtGone rs)).filter (fun k => decide (k.1 = code) && !k.2 last)).foldl
    (fun (m : Option Nat) k => earlier m (some (lastRun (cs.map (fun c => !k.2 c))))) none
  match firstRec (rs.map (s.rtBusyHit t)) with
  | some k => .error (rtBusy, k)
  | none =>
  match firstRec (pairs.map (fun p => s.rtRadioHit t p.1 p.2)) with
  | some k => .error (rtRadio, k)
  | none =>
  match earlier (firstRec (pairs.map (fun p => s.rtRangeHit t p.1 p.2))) (earlier (wholeAt rtRange) (firstRec (rs.map (s.rtMemberHit t rs last)))) with
  | some k => .error (rtRange, k)
  | none =>
  match wholeAt rtOvercommit with
  | some k => .error (rtOvercommit, k)
  | none =>
  match firstRec (rs.map (s.rtWmHit t)) with
  | some k => .error (rtWatermark, k)
  | none => if sm3 (blobBytes (last.payload t)) = digest then .ok last else .error (rtDigest, 0)

/-! ### Submission (R41, R42) -/

/-- A write of GO. -/
def State.retouchGo (s : State) (req : Requester) : State :=
  if !req.manages then s
  else if s.fld 0 F.CVS_RT_STATUS_CODE = 1 then s.incSat 0 F.CVS_RT_STATUS_DISCARDS 1
  else
    let s1 := (s.setFld 0 F.CVS_RT_STATUS_CODE 1).setFld 0 F.CVS_RT_STATUS_RECORD 0
    let s2 := { s1 with cvs := { s1.cvs with latest := 4 } }
    if s.fld 0 F.CVS_RT_STATUS_CODE = 2 then s2.fire 0 2 else s2

/-- RETOUCH_GO (R41, R42): CODE that leaves PENDING fires the vector of 17 R501. -/
def execRetouchGo (req : Requester) (s : State) : Res :=
  s.access req F.CVS_RT_CTRL_GO.off (fun _ =>
    .next (s.retouchGo req))

/-! ### Acceptance (R43, R47 to R53) -/

/-- The bit of a type in CVS_RT_PENDING. -/
def rtBit (t : Nat) : Nat := if t = secEasels then 0 else if t = secFlows then rtFlows else if t = secParam then rtParam else 3

/-- The entries that differ between two payloads, with their new bytes. -/
def changedEntries (t : Nat) (old new : Blob) : List (Nat × List Nat) :=
  ((List.range (rtCount t)).map (fun i => (i, blobSlice new (rtSize t * i) (rtSize t)))).filter (fun p => decide (p.2 ≠ blobSlice old (rtSize t * p.1) (rtSize t)))

/-- An EASELS retouch: limits fall at once, growths wait for the last memory shrink, and an idle easel is at a step boundary (R47, R48). -/
def State.acceptShares (s : State) (new : Blob) : State :=
  let old := s.sec secEasels
  let ps := (changedEntries secEasels old new).map (fun p => (⟨p.1, shareVec old p.1, shareVec new p.1, false⟩ : PendShare))
  let s1 := forEach ps (fun p (t : State) => t.setLimits p.easel (p.new.min p.old)) s
  let s2 := { s1 with cvs := { s1.cvs with pendShares := ps } }
  if ps.any PendShare.waits then forEach (ps.filter PendShare.waits) (fun p (t : State) => if t.easelIdle p.easel then t.shrinkEffect p.easel else t) s2
  else s2.growShares

/-- A RANKS retouch: one switch of the table (R52); a job that the retouch deletes and inserts again is a new one. -/
def State.acceptRanks (s : State) (gone : List Nat) (js : List RJob) : State :=
  let kept := s.jobs.filter (fun j => !gone.contains j.job)
  let s1 := if gone = [] then s else s.switchRanks s.jobs kept
  s1.switchRanks kept js

/-- Acceptance: SEQ is consumed, and the effects take place or wait; the vector of 17 R501 fires once as CODE leaves CHECKING. Model's choice: notes/assumptions/132.md. -/
def State.rtAccept (s : State) (t seq : Nat) (rs : List RtRec) (c : RtCopy) : State :=
  let s1 := s.setFld 0 F.CVS_RT_SEQ_SEQ seq
  if t = secRanks then ((s1.acceptRanks (rtGone rs) c.jobs).setFld 0 F.CVS_RT_STATUS_CODE 3).fire 0 2
  else
    let s2 := (s1.orFld 0 F.CVS_RT_PENDING_TYPES (2 ^ rtBit t)).setFld 0 F.CVS_RT_STATUS_CODE 2
    let s3 := { s2 with cvs := { s2.cvs with latest := rtBit t } }
    let ch := changedEntries t (s.sec t) c.blob
    let s4 := if t = secEasels then s3.acceptShares c.blob
      else if t = secFlows then { s3 with cvs := { s3.cvs with pendFlows := ch } }
      else { s3 with cvs := { s3.cvs with pendParam := ch } }
    if s4.fld 0 F.CVS_RT_STATUS_CODE = 2 then s4.fire 0 2 else s4

/-- The types that a retouch may amend (R26, R38). -/
def rtTypes : List Nat := [secEasels, secFlows, secParam, secRanks]

/-- SIGNATURE to BUSY of R44, and then the records. -/
def State.rtVerdict (s : State) (b : Blob) (n : Nat) (rs : List RtRec) : State :=
  let t := b.le 6 2
  if !Config.sm2Valid s.boot.key (blobSlice b 0 0x60 ++ blobSlice b 160 (n - 160)) (blobSlice b 0x60 64) then s.rtRefuse rtSignature 0
  else if b.le 8 8 ≠ s.fld64 0 F.CVS_ID_LO_ID F.CVS_ID_HI_ID ∨ b.le 0x10 8 ≠ s.fld64 0 F.CVS_BOOT_NONCE_LO_NONCE F.CVS_BOOT_NONCE_HI_NONCE then s.rtRefuse rtTarget 0
  else if b.le 0x18 4 ≠ (s.fld 0 F.CVS_RT_SEQ_SEQ + 1) % 2 ^ 32 then s.rtRefuse rtSequence 0
  else if !rtTypes.contains t then s.rtRefuse rtType 0
  else if (s.fld 0 F.CVS_RT_PENDING_TYPES).testBit (rtBit t) then s.rtRefuse rtBusy 0
  else match s.rtJudge t rs (blobSlice b 0x40 32) with
    | .error e => s.rtRefuse e.1 e.2
    | .ok c => s.rtAccept t (b.le 0x18 4) rs c

/-- RETOUCH_CHECK (R41, R44): `data` is what the host's memory holds, `fail` a read that fails. A refused translation is counted (17 R489). Model's choice: notes/assumptions/131.md. -/
def execRetouchCheck (data : Blob) (fail : Bool) (s : State) : Res :=
  .next (if s.fld 0 F.CVS_RT_STATUS_CODE ≠ 1 then s
    else
      let n := s.fld 0 F.CVS_RT_LEN_LEN
      let addr := s.fld64 0 F.CVS_RT_ADDR_LO_ADDR F.CVS_RT_ADDR_HI_ADDR
      if s.fld 0 F.CVS_STATE_STATE ≠ 2 then s.rtRefuse 0x10 0
      else if n < 160 ∨ 0x100000 < n then s.rtRefuse rtFormat 0
      else if !s.hostUp || fail then s.rtRefuse rtFetch 0
      else if !s.translates 0 addr then (s.refuseXlate 0 ukNone 0).rtRefuse rtFetch 0
      else
        let s1 := s.countUnits 0 F.CXL_EAS_HOST_RD_UNITS 65536 n
        match rtRecords data n with
        | .error k => s1.rtRefuse rtFormat k
        | .ok rs => s1.rtVerdict data n rs)

/-! ### Cancelling (R54) -/

/-- What an easel of a cancelled EASELS retouch keeps: a memory shrink that has taken effect, and a queue-slot shrink, which took effect at acceptance. -/
def PendShare.kept (p : PendShare) : ShareVec :=
  if p.waits then { p.old with scSlots := min p.old.scSlots p.new.scSlots, tcSlots := min p.old.tcSlots p.new.tcSlots } else p.new.min p.old

/-- The rest of a pending retouch of a type is dropped. -/
def State.rtCancelled (s : State) (bit : Nat) : State :=
  let s1 := s.clrFld 0 F.CVS_RT_PENDING_TYPES (2 ^ bit)
  if s1.fld 0 F.CVS_RT_STATUS_CODE = 2 ∧ s1.cvs.latest = bit then (s1.setFld 0 F.CVS_RT_STATUS_CODE 4).fire 0 2 else s1

/-- Cancel one type. -/
def State.cancelType (s : State) (bit : Nat) : State :=
  if !(s.fld 0 F.CVS_RT_PENDING_TYPES).testBit bit then s
  else if bit = 0 then
    let ps := s.cvs.pendShares
    let s1 := forEach ps (fun p (t : State) => t.setLimits p.easel p.kept) s
    let s2 := { s1 with cvs := { s1.cvs with pendShares := [] } }
    (s2.keepSec secEasels (putShares (s2.sec secEasels) (ps.map (fun p => (p.easel, p.kept))))).rtCancelled 0
  else if bit = rtFlows then { s with cvs := { s.cvs with pendFlows := [] } }.rtCancelled bit
  else if bit = rtParam then { s with cvs := { s.cvs with pendParam := [] } }.rtCancelled bit
  else s

/-- A write of CVS_RT_CTRL.CANCEL. -/
def State.retouchCancel (s : State) (req : Requester) (types : Nat) : State :=
  if req.manages then forEach (bitsOf 4 types) (fun b (t : State) => t.cancelType b) s else s

/-- RETOUCH_CANCEL (R54). -/
def execRetouchCancel (req : Requester) (types : BitVec 4) (s : State) : Res :=
  s.access req F.CVS_RT_CTRL_GO.off (fun _ =>
    .next (s.retouchCancel req types.toNat))

end Sys2Proof.Machine
end

