-- ==== Sys2Proof/Machine/Time.lean ====
section
/-! DEFINITION. Machine/Time.lean: the time-of-day counter, its steps and states, PTP, SyncE, PPS and the alarms (16). Times in 2^-16 ns are integers. -/
namespace Sys2Proof.Machine

open Sys2Proof

/-! ### The counter (16 R463, R464) -/

/-- A second, and the numbers of a 32-bit two's complement field. -/
def secNs : Nat := 1000000000
def asU32 (x : Int) : Nat := (x % 2 ^ 32).toNat

/-- The increment in force. -/
def State.todIncr (s : State) : Nat := s.fld64 0 F.TOD_INCR_LO_INCR F.TOD_INCR_HI_INCR

/-- Show the increment of a rate correction in parts per 10^12: the nominal one of S_DIV and its correction (R464). -/
def State.setRate (s : State) (ppt : Int) : State :=
  let nom : Nat := nominalIncr (s.fld 0 F.CLK_DIV_S_DIV)
  (s.setFld 0 F.TOD_FFO_PPT (asU32 ppt)).setFld64 0 F.TOD_INCR_LO_INCR F.TOD_INCR_HI_INCR ((nom : Int) + (nom : Int) * ppt / 10 ^ 12).toNat

/-- Clip to a bound. -/
def clip (b x : Int) : Int := max (-b) (min b x)

/-- States (R467). -/
def tsFreerun : Nat := 0
def tsAcquiring : Nat := 1
def tsLocked : Nat := 2
def tsHoldover : Nat := 3

def State.todSt (s : State) : Nat := s.fld 0 F.TOD_STATE_STATE

/-- The correction's bound in parts per 10^12 (R464). -/
def State.rateBound (s : State) : Int := if s.todSt = tsLocked ∨ s.todSt = tsHoldover then 200000 else 10000000

/-- TX_OK (R468). -/
def State.showTxOk (s : State) : State :=
  s.setFlag 0 F.TOD_STATE_TX_OK
    (decide (s.todSt = tsLocked ∨ (s.todSt = tsHoldover ∧ s.fld 0 F.TOD_STATE_HOLD_S < s.fld 0 F.TOD_CFG_TX_HOLD_S)))

/-- Bring HOLD_S to the present in HOLDOVER, and TX_OK with it. -/
def State.showHold (s : State) : State :=
  (if s.todSt = tsHoldover then s.setFld 0 F.TOD_STATE_HOLD_S (min ((s.nowNs - s.time.holdFrom) / secNs) 0xFFFF) else s).showTxOk

/-- In HOLDOVER the rate comes from the SyncE DPLL while it is LOCKED, else it is LOCKED's last one (R467). -/
def State.holdRate (s : State) : State :=
  if s.fld 0 F.PTP_SYNCE_STATE_STATE = 1 then
    let (n, s1) := s.draw
    s1.setRate (clip s.rateBound (Config.dpllRate n))
  else s.setRate (sgn32 s.time.lockRate)

/-! ### Ports of PTP (R472) -/

def State.ptpSub (s : State) (sub : Nat) : PtpSub := SMap.get (fun _ => PtpSub.empty) s.time.subs sub
def State.setPtpSub (s : State) (sub : Nat) (v : PtpSub) : State :=
  { s with time := { s.time with subs := SMap.set (fun _ => PtpSub.empty) s.time.subs sub v } }

/-- PTP runs on a subport, and the state of its port (R472). -/
def State.ptpOn (s : State) (sub : Nat) : Bool := s.subExists sub && s.flag (sub / 4) (F.PTP_SUB_CFG_PTP_EN (sub % 4))
def State.portSt (s : State) (sub : Nat) : Nat := s.fld (sub / 4) (F.PTP_SUB_STATE_PORT_STATE (sub % 4))

/-- The Announce of the port the clock follows. -/
def State.parentAnnounce (s : State) : List Nat :=
  match (List.range 32).find? (fun p => s.ptpOn p && decide (s.portSt p = 9)) with
  | some p => (s.ptpSub p).announce
  | none => []

/-- Report the Announce fields in force (R472). -/
def State.showAnnounce (s : State) : State :=
  let a := Config.announce s.todSt s.parentAnnounce
  ((s.setFld 0 F.PTP_ANNOUNCE_CLASS a.1).setFld 0 F.PTP_ANNOUNCE_ACCURACY a.2.1).setFld 0 F.PTP_ANNOUNCE_STEPS_REMOVED a.2.2.1

/-- The step that still waits in a state: the servo steps in ACQUIRING only (R467). -/
def keepStep (st : Nat) : Option TodStep → Option TodStep
  | some (.servo o) => if st = tsAcquiring then some (.servo o) else none
  | p => p

/-- Enter a state, which the Announce fields follow (R467, R472); STEP_WAIT clears where no step waits any longer (R465). -/
def State.setTod (s : State) (st : Nat) : State :=
  let wait := s.flag 0 F.TOD_STATE_STEP_WAIT && decide (keepStep st s.time.step ≠ none) && decide (st = tsFreerun ∨ st = tsAcquiring)
  let s1 := ((s.setFld 0 F.TOD_STATE_STATE st).setFld 0 F.TOD_STATE_HOLD_S 0).setFlag 0 F.TOD_STATE_STEP_WAIT wait
  let s2 := { s1 with time := { s1.time with
      holdFrom := s.nowNs
      step := keepStep st s.time.step
      inBand := if st = tsLocked then s.time.inBand else none
      stepped := if st = tsAcquiring then false else s.time.stepped } }
  (if st = tsHoldover then s2.holdRate else s2).showTxOk.showAnnounce

/-! ### Steps (R465, R469) -/

/-- No cell is RUNNING. -/
def State.noCellRuns (s : State) : Bool := (List.range s.cellCount).all (fun c => decide (s.cellSt c ≠ csRunning))

/-- The state permits a step. -/
def State.mayStep (s : State) : Bool := decide (s.todSt = tsFreerun ∨ s.todSt = tsAcquiring)

/-- Show whether a step that is due waits for cells (R465). -/
def State.showStepWait (s : State) (due : Bool) : State := s.setFlag 0 F.TOD_STATE_STEP_WAIT (due && s.mayStep && !s.noCellRuns)

/-- A time that follows the counter over a step. -/
def shiftNs (d : Int) (t : Nat) : Nat := ((t : Int) + d).toNat

/-- A table with a function applied to its values, in its canonical form. -/
def remap {α : Type} [DecidableEq α] (d : α) (f : α → α) (m : SMap α) : SMap α :=
  (m.map (fun p => (p.1, f p.2))).filter (fun p => decide (p.2 ≠ d))

/-- A cell's times over a step: when its hard-block jobs started, when its held SSB bursts began. -/
def shiftCell (d : Int) (c : RadCell) : RadCell :=
  let item := fun (x : RadItem) => { x with started := x.started.map (fun p => (shiftNs d p.1, p.2)) }
  { c with ssbFrom := c.ssbFrom.map (shiftNs d), slots := remap RadSlot.empty (fun v => { v with items := v.items.map item }) c.slots }

/-- What the model times by the counter keeps its distance from the present over a step (notes/assumptions/81.md). -/
def State.shiftTimes (s : State) (d : Int) : State :=
  let hund := (100 * d : Int)
  let sub (v : PtpSub) : PtpSub := { v with syncOrg := none, reqTx := none, fwd := none, pairAt := v.pairAt.map (shiftNs d) }
  { s with
    eth := { s.eth with
      busy := remap 0 (shiftNs hund) s.eth.busy
      recs := remap [] (fun l => l.map (fun r => (r.1, shiftNs (d * 2 ^ 40) r.2))) s.eth.recs }
    ldpc := remap [] (fun l => l.map (fun r => (shiftNs d r.1, r.2))) s.ldpc
    fq := remap FqSt.off (fun v => { v with inbox := v.inbox.map (shiftNs d) }) s.fq
    rad := remap RadCell.idle (shiftCell d) s.rad
    yz := { s.yz with tombAt := remap 0 (shiftNs d) s.yz.tombAt, tombLast := remap 0 (shiftNs d) s.yz.tombLast }
    ten := { s.ten with since := remap 0 (shiftNs d) s.ten.since }
    rst := { s.rst with wdog := s.rst.wdog.map (shiftNs d) }
    time := { s.time with
      inBand := none
      ppsAt := s.time.ppsAt.map (shiftNs d)
      ppsEnd := s.time.ppsEnd.map (shiftNs d)
      subs := remap PtpSub.empty sub s.time.subs } }

/-- Alarm k fires (R480). -/
def State.alarmGo (s : State) (k : Nat) : State :=
  let t := s.fld64 0 (F.PTP_ALM_TIME_LO_NS k) (F.PTP_ALM_TIME_HI_NS k)
  if s.flag 0 (F.PTP_ALM_CFG_EN k) && decide (t ≤ s.nowNs) then
    let l := s.fld 0 (F.PTP_ALM_CFG_LINK k)
    let s1 := s.orFld 0 F.PTP_ALM_STATUS_FIRED (2 ^ k)
    let s2 := if s.flag l F.STR_CH_CFG_ENABLED then s1.landSignal (semId l false) else s1.orFld 0 F.PTP_ALM_STATUS_ERR (2 ^ k)
    let p := s.fld 0 (F.PTP_ALM_PERIOD_NS k)
    if p = 0 then s2.setFlag 0 (F.PTP_ALM_CFG_EN k) false
    else s2.setFld64 0 (F.PTP_ALM_TIME_LO_NS k) (F.PTP_ALM_TIME_HI_NS k) (t + p * ((s.nowNs - t) / p + 1))
  else s

/-- ALARM_FIRE (R480). -/
def execAlarmFire (k : Fin 16) (s : State) : Res := .next (if s.runs .s then s.alarmGo k else s)

/-- The latest whole second plus PPS_OFS that a count has passed. -/
def State.ppsSecond (s : State) (ns : Nat) : Nat := (((ns : Int) - sgn32 (s.fld 0 F.PTP_PPS_OFS_NS)) / secNs).toNat

/-- A step lands: the counter takes a value in 2^-40 ns; one refill, one sample, the alarms, TOD_STEPS (R465, R478). -/
def State.landStep (s : State) (t : Nat) : State :=
  let t' := t % 2 ^ 104
  let d : Int := (t' / 2 ^ 40 : Nat) - (s.nowNs : Int)
  let s1 := s.shiftTimes d
  let s2 := { s1 with tod := t', time := { s1.time with step := none } }
  let s3 := { s2 with time := { s2.time with ppsSec := some (s2.ppsSecond s2.nowNs) } }
  let s4 := (s3.refillRetouch.refill.incWrap 0 F.EGS_REFILLS_COUNT 1).queueSample
  let s5 := forUpto 16 (fun k (u : State) => u.alarmGo k) s4
  (s5.incSat 0 F.TOD_STEPS_COUNT 1).setFlag 0 F.TOD_STATE_STEP_WAIT false

/-- Whether this is the first S-cycle at or after a multiple of a period, both in 2^-40 ns. -/
def State.crossed (s : State) (period ofs : Int) : Bool := decide (((s.tod : Int) - ofs) % period < (s.todIncr : Int))

/-- TOD_STEP (R465): at a 1 µs boundary of the counter as it stood, in the S domain once that runs (03 R59). -/
def execTodStep (s : State) : Res :=
  if s.runs .s && s.mayStep && s.crossed (1000 * 2 ^ 40) 0 then
    match s.time.step with
    | some (.set v) => .next (if s.noCellRuns then s.landStep (v * 2 ^ 40) else s.showStepWait true)
    | some (.servo o) =>
      if s.noCellRuns then
        let s1 := s.landStep ((s.tod : Int) - o * 2 ^ 24).toNat
        .next { s1 with time := { s1.time with stepped := true } }
      else .next (s.showStepWait true)
    | _ => .next s
  else .next s

/-- The value of TOD_SET. -/
def State.todSetValue (s : State) : Nat := s.fld64 0 F.TOD_SET_LO_NS F.TOD_SET_HI_NS

/-- Set the pending step. -/
def State.pendStep (s : State) (p : TodStep) : State := { s with time := { s.time with step := some p } }

/-- SOURCE is NONE or PPS_IN (R469). -/
def State.softSource (s : State) : Bool := decide (s.fld 0 F.TOD_CFG_SOURCE = 0 ∨ s.fld 0 F.TOD_CFG_SOURCE = 2)

/-- TOD_SET (R469). -/
def execTodSet (req : Requester) (s : State) : Res :=
  s.access req F.TOD_CTRL_SET.off (fun _ =>
    .next (if req.manages && s.runs .s && s.softSource && s.mayStep then (s.pendStep (.set s.todSetValue)).showStepWait true else s))

/-- TOD_SET_PPS (R469). -/
def execTodSetPps (req : Requester) (s : State) : Res :=
  s.access req F.TOD_CTRL_SET.off (fun _ =>
    .next (if req.manages && s.runs .s && s.softSource then s.pendStep (.setPps s.todSetValue) else s))

/-! ### Sources (R467) -/

/-- Whether a moment lies within the last 2 s. -/
def State.fresh (s : State) (t : Option Nat) : Bool :=
  match t with
  | some x => decide (s.nowNs < x + 2 * secNs)
  | none => false

/-- Whether a source is valid: a pair within 2 s at a SLAVE port, or an edge within 2 s. -/
def State.srcValid (s : State) (source : Nat) : Bool :=
  if source = 1 then (List.range 32).any (fun p => s.ptpOn p && decide (s.portSt p = 9) && s.fresh (s.ptpSub p).pairAt)
  else decide (source = 2) && s.fresh s.time.ppsAt

/-- The servo takes a measured offset in 2^-16 ns: the state changes that it makes, a step onto the source beyond 1 µs in ACQUIRING, else slewing (R464, R467). -/
def State.measure (s : State) (o : Int) : State :=
  let far := decide (1000 * 65536 < o.natAbs)
  let s1 := if s.todSt = tsFreerun ∨ (s.todSt = tsHoldover ∧ far = true) then s.setTod tsAcquiring else s
  let f := Config.offsetFilter (sgn32 (s1.fld 0 F.TOD_OFFSET_OFS)) o
  let s2 := s1.setFld 0 F.TOD_OFFSET_OFS (asU32 f)
  let r := clip s2.rateBound (Config.servoRate s2.todSt f)
  let band := if f.natAbs ≤ 20 * 256 then (match s2.time.inBand with
    | some t => some t
    | none => some s2.nowNs) else none
  let s3 := { s2 with time := { s2.time with inBand := band, lockRate := if s2.todSt = tsLocked then asU32 r else s2.time.lockRate } }
  let s4 := s3.setRate r
  if s4.todSt = tsAcquiring ∧ far = true ∧ s4.time.stepped = false then s4.pendStep (.servo o) else s4

/-- The rate correction that LOCKED begins with. -/
def State.lockAt (s : State) (r : Int) : State :=
  let s1 := s.setRate r
  { s1 with time := { s1.time with lockRate := asU32 r } }

/-- TOD_LOCKED (R467): ACQUIRING, or HOLDOVER with its source back, and ±20 ns for 10 s. The correction in force comes within the bound of LOCKED (R464). -/
def execTodLocked (s : State) : Res :=
  match s.time.inBand with
  | some t =>
    .next (if (s.todSt = tsAcquiring ∨ s.todSt = tsHoldover) ∧ t + 10 * secNs ≤ s.nowNs ∧ s.srcValid (s.fld 0 F.TOD_CFG_SOURCE) = true
      then (s.setTod tsLocked).lockAt (clip 200000 (sgn32 (s.fld 0 F.TOD_FFO_PPT))) else s)
  | none => .next s

/-- SOURCE_LOST (R467). -/
def execSourceLost (s : State) : Res :=
  .next (if s.srcValid (s.fld 0 F.TOD_CFG_SOURCE) then s
    else if s.todSt = tsAcquiring then s.setTod tsFreerun
    else if s.todSt = tsLocked then s.setTod tsHoldover
    else { s with time := { s.time with inBand := none } })

/-- HOLDOVER_LIMIT (R467). -/
def execHoldoverLimit (s : State) : Res :=
  .next (if s.todSt = tsHoldover ∧ s.time.holdFrom + 14400 * secNs < s.nowNs then s.setTod tsFreerun else s)

/-- HOLDOVER_TX_LIMIT (R468). -/
def execHoldoverTxLimit (s : State) : Res := .next s.showHold

/-- TOD_SOURCE_WRITE (R469, R482): a SOURCE of 3 is discarded. -/
def execTodSourceWrite (req : Requester) (source : BitVec 2) (txHold : BitVec 16) (s : State) : Res :=
  s.access req F.TOD_CFG_SOURCE.off (fun _ =>
    if req.manages && s.runs .s then
      let s1 := s.setFld 0 F.TOD_CFG_TX_HOLD_S txHold.toNat
      let n := source.toNat
      if n = 3 ∨ n = s.fld 0 F.TOD_CFG_SOURCE then .next s1.showTxOk
      else
        let s2 := (s1.setFld 0 F.TOD_CFG_SOURCE n).setFld 0 F.TOD_STATE_SOURCE n
        .next (s2.setTod (if s2.srcValid n then tsAcquiring else tsFreerun))
    else .next s)

/-- FRAME_OFFSET_WRITE (R466). -/
def execFrameOffsetWrite (req : Requester) (value : BitVec 32) (s : State) : Res :=
  s.access req F.TOD_FRAME_OFS_NS.off (fun _ =>
    .next (if req.manages && s.runs .s && s.noCellRuns && decide ((sgn32 value.toNat).natAbs ≤ 5000000) then s.setFld 0 F.TOD_FRAME_OFS_NS value.toNat else s))

/-- TOD_NOW_FRAC_READ (R481): the fraction, and a snapshot of the whole counter for the requester. -/
def execTodNowFracRead (req : Requester) (s : State) : Res :=
  s.access req F.TOD_NOW_FRAC_FRAC.off (fun _ =>
    let c := s.ctxOf req
    let s1 := s.setCtx req { c with todLo := some (BitVec.ofNat 32 s.nowNs), todHi := some (BitVec.ofNat 32 (s.nowNs / 2 ^ 32)) }
    .next (s1.emit (.readData req F.TOD_NOW_FRAC_FRAC.off (BitVec.ofNat 32 (s.tod / 2 ^ 24 % 65536)))))

/-! ### PTP messages (R470 to R475)

The layout of a message is that of IEEE 1588 over Ethernet, which the spec names and does not repeat (notes/assumptions/79.md). -/

/-- Fields of a message: type, domain, two-step flag, correctionField (signed), sequence number, originTimestamp or its kin, the identity of its source, of the requester. -/
def mType (d : List Nat) : Nat := nth 0 d 14 % 16
def mDomain (d : List Nat) : Nat := nth 0 d 18
def mTwoStep (d : List Nat) : Bool := (nth 0 d 20).testBit 1
def mCorr (d : List Nat) : Int := sext 64 (beAt d 22 8)
def mSeq (d : List Nat) : Nat := beAt d 44 2
def mStamp (d : List Nat) : Int := ((beAt d 48 6 * secNs + beAt d 54 4) * 65536 : Nat)
def mSource (d : List Nat) : List Nat := (d.drop 34).take 10
def mRequester (d : List Nat) : List Nat := (d.drop 58).take 10

/-- Ten bytes of a timestamp. -/
def stampBytes (ns : Nat) : List Nat := beBytes 6 (ns / secNs) ++ beBytes 4 (ns % secNs)

/-- The clock identity: the EUI-64 of the first subport of the lowest port that is not OFF (R472). -/
def State.clockId (s : State) : List Nat :=
  match (List.range 8).find? (fun p => decide (s.subMode (4 * p) ≠ 0)) with
  | some p => let m := s.subMac (4 * p); m.take 3 ++ [0xFF, 0xFE] ++ m.drop 3
  | none => List.replicate 8 0

/-- The identity of a subport's PTP port: port number 1 + 4p + s (R472). -/
def State.portId (s : State) (sub : Nat) : List Nat := s.clockId ++ beBytes 2 (1 + sub)

/-- A PTP frame of the device, untagged and padded (R472, R473). -/
def State.ptpFrame (s : State) (sub type seq interval : Nat) (corr : Int) (body : List Nat) : List Nat :=
  let dst := if s.flag 0 F.PTP_CFG_NONFWD then [0x01, 0x80, 0xC2, 0, 0, 0x0E] else [0x01, 0x1B, 0x19, 0, 0, 0]
  let ctl := if type = 0 then 0 else if type = 1 then 1 else if type = 9 then 3 else 5
  padTo 60 (dst ++ s.subMac sub ++ [0x88, 0xF7] ++
    ([type, 2] ++ beBytes 2 (34 + body.length) ++ [s.fld 0 F.PTP_CFG_DOMAIN, 0, 0, 0] ++ beBytes 8 (corr % 2 ^ 64).toNat ++ List.replicate 4 0 ++
      s.portId sub ++ beBytes 2 seq ++ [ctl, interval]) ++ body)

/-- Place a frame in a subport's queue (R473). -/
def State.tbQueue (s : State) (sub : Nat) (t : TbFrame) : State :=
  let l : List TbFrame := s.tbFrames sub ++ [t]
  { s with eth := { s.eth with tb := SMap.set (fun _ => []) s.eth.tb sub l } }

/-- Whether a launch time is at least 1 µs off (R473). -/
def State.launchOk (s : State) (l : Nat) : Bool := decide (s.nowNs + 1000 ≤ l)

/-- A launch time of the time block's own choosing. -/
def State.ownLaunch (s : State) : Nat × State :=
  let (n, s1) := s.draw
  (s.nowNs + 1001 + Config.relayLead n, s1)

/-- The reference-plane time of a receive stamp in 2^-16 ns (R470, R471). -/
def State.tRx (s : State) (sub : Nat) (stamp : Nat) : Int := (stamp : Int) - psTo16 (s.rxConst sub)

/-- Relay a message of TC_DOMAIN to every other PTP subport, unchanged but for the residence time that an event message takes along (R475). -/
def State.relay (s : State) (sub : Nat) (d : List Nat) (tIn : Option Int) : State :=
  forEach ((List.range 32).filter (fun p => s.ptpOn p && decide (p ≠ sub))) (fun p (u : State) =>
    let (l, u1) := u.ownLaunch
    let d' := match tIn with
      | some t => patch d 22 (beBytes 8 ((mCorr d + ((l : Int) * 65536 - t)) % 2 ^ 64).toNat)
      | none => d
    u1.tbQueue p ⟨l, d', tIn.map (fun _ => (l : Int))⟩) s

/-- Whether a message is relayed, and whether it is the device's own domain's. -/
def State.relayed (s : State) (d : List Nat) : Bool := s.flag 0 F.PTP_CFG_TC_EN && decide (mDomain d = s.fld 0 F.PTP_CFG_TC_DOMAIN)
def State.ownDomain (s : State) (d : List Nat) : Bool := decide (mDomain d = s.fld 0 F.PTP_CFG_DOMAIN)

/-- Count an event message received. -/
def State.ptpCount (s : State) (sub : Nat) : State := s.incWrap (sub / 4) (F.PTP_SUB_RX_COUNT (sub % 4)) 1

/-- PTP_SYNC_RX (R471, R472, R475): a slave port notes the difference that the Sync shows, with a Follow_Up's origin once that comes. -/
def execPtpSyncRx (sub : Fin 32) (frame : List Nat) (stamp : Nat) (s : State) : Res :=
  if s.ptpOn sub then
    let s1 := s.ptpCount sub
    let t := s.tRx sub stamp
    if s.relayed frame then .next (s1.relay sub frame (some t))
    else if s.ownDomain frame && decide (s.portSt sub = 9) then
      let t' := t - mCorr frame
      let org := if mTwoStep frame then none else some (mStamp frame)
      let v := s.ptpSub sub
      .next (s1.setPtpSub sub { v with syncSeq := mSeq frame, syncRx := t', syncOrg := org, fwd := match org with
        | some x => some (t' - x)
        | none => v.fwd })
    else .next s1
  else .next s

/-- PTP_FOLLOW_UP_RX (R472, R475). -/
def execPtpFollowUpRx (sub : Fin 32) (frame : List Nat) (s : State) : Res :=
  if s.ptpOn sub then
    if s.relayed frame then .next (s.relay sub frame none)
    else
      let v := s.ptpSub sub
      if s.ownDomain frame && decide (s.portSt sub = 9 ∧ v.syncSeq = mSeq frame) && v.syncOrg.isNone then
        let x := mStamp frame + mCorr frame
        .next (s.setPtpSub sub { v with syncOrg := some x, fwd := some (v.syncRx - x) })
      else .next s
  else .next s

/-- PTP_DELAY_REQ_RX (R474, R475): a MASTER port answers with Delay_Resp; its receiveTimestamp is t_rx, whose fraction goes to correctionField. -/
def execPtpDelayReqRx (sub : Fin 32) (frame : List Nat) (stamp : Nat) (s : State) : Res :=
  if s.ptpOn sub then
    let s1 := s.ptpCount sub
    let t := s.tRx sub stamp
    if s.relayed frame then .next (s1.relay sub frame (some t))
    else if s.ownDomain frame && decide (s.portSt sub = 6) then
      let (l, s2) := s1.ownLaunch
      let d := s2.ptpFrame sub 9 (mSeq frame) 0xFC (mCorr frame - t % 65536) (stampBytes (t / 65536).toNat ++ mSource frame)
      .next (s2.tbQueue sub ⟨l, d, none⟩)
    else .next s1
  else .next s

/-- A pair of Sync and Delay_Resp is complete: the mean path delay and the offset from the master (R472, R467). -/
def State.ptpPair (s : State) (sub : Nat) (fwd back : Int) : State :=
  let mpd := (fwd + back) / 2
  let s1 := s.setFld (sub / 4) (F.PTP_SUB_MPD_PS (sub % 4)) (asU32 (mpd * 1000 / 65536))
  let s2 := s1.setPtpSub sub { s1.ptpSub sub with pairAt := some s.nowNs }
  if s.fld 0 F.TOD_CFG_SOURCE = 1 then s2.measure ((fwd - back) / 2) else s2

/-- PTP_DELAY_RESP_RX (R472). -/
def execPtpDelayRespRx (sub : Fin 32) (frame : List Nat) (s : State) : Res :=
  if s.ptpOn sub then
    if s.relayed frame then .next (s.relay sub frame none)
    else
      let v := s.ptpSub sub
      if s.ownDomain frame && decide (s.portSt sub = 9 ∧ v.reqSeq = mSeq frame ∧ mRequester frame = s.portId sub) then
        match v.reqTx, v.fwd with
        | some tx, some fwd => .next ((s.setPtpSub sub { v with reqTx := none }).ptpPair sub fwd (mStamp frame - mCorr frame - tx))
        | _, _ => .next s
      else .next s
  else .next s

/-- The state of every PTP port by the profile's selection; MASTER_ONLY is never SLAVE (R472). -/
def State.showPorts (s : State) : State :=
  let all := ((List.range 32).filter s.ptpOn).map (fun p => (p, (s.ptpSub p).announce))
  forUpto 32 (fun p (u : State) =>
    let c := if (List.range 32).any s.subExists && s.ptpOn p then
        (match Config.portState all p with
          | 9 => if s.flag (p / 4) (F.PTP_SUB_CFG_MASTER_ONLY (p % 4)) then 6 else 9
          | 7 => 7
          | _ => 6)
      else 1
    u.setFld (p / 4) (F.PTP_SUB_STATE_PORT_STATE (p % 4)) c) s

/-- PTP_ANNOUNCE_RX (R472, R475). -/
def execPtpAnnounceRx (sub : Fin 32) (frame : List Nat) (s : State) : Res :=
  if s.ptpOn sub then
    if s.relayed frame then .next (s.relay sub frame none)
    else if s.ownDomain frame then .next ((s.setPtpSub sub { s.ptpSub sub with announce := frame }).showPorts.showAnnounce)
    else .next s
  else .next s

/-- An event message of the device: its originTimestamp is the launch time carried to the reference plane, rounded down (R474). -/
def State.eventTx (s : State) (sub launch type seq interval : Nat) : State :=
  let org := (1000 * launch + s.txConst sub) / 1000
  s.tbQueue sub ⟨launch, s.ptpFrame sub type seq interval 0 (stampBytes org), some (org : Int)⟩

/-- PTP_SYNC_TX (R473, R474): from a MASTER port, one-step. -/
def execPtpSyncTx (sub : Fin 32) (launch : Nat) (s : State) : Res :=
  if s.ptpOn sub && decide (s.portSt sub = 6) && s.launchOk launch then
    let v := s.ptpSub sub
    .next ((s.setPtpSub sub { v with txSeq := (v.txSeq + 1) % 65536 }).eventTx sub launch 0 v.txSeq 0xFC)
  else .next s

/-- PTP_DELAY_REQ_TX (R473, R474): from a SLAVE port. -/
def execPtpDelayReqTx (sub : Fin 32) (launch : Nat) (s : State) : Res :=
  if s.ptpOn sub && decide (s.portSt sub = 9) && s.launchOk launch then
    let v := s.ptpSub sub
    .next ((s.setPtpSub sub { v with rqSeq := (v.rqSeq + 1) % 65536 }).eventTx sub launch 1 v.rqSeq 0x7F)
  else .next s

/-- PTP_ANNOUNCE_TX (R472, R473): from a MASTER port. -/
def execPtpAnnounceTx (sub : Fin 32) (launch : Nat) (s : State) : Res :=
  if s.ptpOn sub && decide (s.portSt sub = 6) && s.launchOk launch then
    let v := s.ptpSub sub
    let a := Config.announce s.todSt s.parentAnnounce
    let s1 := (s.setPtpSub sub { v with anSeq := (v.anSeq + 1) % 65536 }).showAnnounce
    .next (s1.tbQueue sub ⟨launch, s.ptpFrame sub 0xB v.anSeq 0xFD 0 a.2.2.2, none⟩)
  else .next s

/-! ### SyncE (R476) -/

/-- The DPLL's input: the best quality level in MODE 1, ties to the lowest subport; FORCE_SUB in MODE 2. -/
def State.syncInput (s : State) : Option Nat :=
  match s.fld 0 F.PTP_SYNCE_CFG_MODE with
  | 1 =>
    let l := (List.range 32).filterMap (fun p =>
      if s.subExists p && s.flag (p / 4) (F.PTP_SUB_CFG_SYNCE_EN (p % 4)) then (s.ptpSub p).ql.map (fun q => (p, q)) else none)
    l.foldl (fun (b : Option (Nat × Nat)) x => match b with
      | some y => if Config.qlRank x.2 < Config.qlRank y.2 then some x else b
      | none => some x) none |>.map (fun x => x.1)
  | 2 => some (s.fld 0 F.PTP_SYNCE_CFG_FORCE_SUB)
  | _ => none

/-- Show the DPLL's input and its quality level. -/
def State.showSync (s : State) : State :=
  match s.syncInput with
  | some p => (s.setFld 0 F.PTP_SYNCE_STATE_SUB p).setFld 0 F.PTP_SYNCE_STATE_SSM ((s.ptpSub p).ql.getD 0)
  | none => s

/-- ESMC_RX (R476). -/
def execEsmcRx (sub : Fin 32) (frame : List Nat) (s : State) : Res :=
  .next (if s.subExists sub then (s.setPtpSub sub { s.ptpSub sub with ql := some (Config.qlOf frame) }).showSync else s)

/-- ESMC_INFO_TX (R473, R476). -/
def execEsmcInfoTx (sub : Fin 32) (launch : Nat) (event : Bool) (s : State) : Res :=
  if s.subExists sub && s.flag (sub.val / 4) (F.PTP_SUB_CFG_SYNCE_EN (sub.val % 4)) && s.launchOk launch then
    let d := [0x01, 0x80, 0xC2, 0, 0, 0x02] ++ s.subMac sub ++ [0x88, 0x09, 0x0A] ++ Config.esmcPdu event (s.fld 0 F.PTP_SYNCE_STATE_SSM)
    .next (s.tbQueue sub ⟨launch, padTo 60 d, none⟩)
  else .next s

/-- SYNCE_DPLL_LOCK (R476, R467). -/
def execSynceDpllLock (locked : Bool) (s : State) : Res :=
  if !s.runs .s then .next s else
  if locked then
    if s.syncInput.isSome then
      let s1 := s.showSync.setFld 0 F.PTP_SYNCE_STATE_STATE 1
      .next (if s1.todSt = tsHoldover then s1.holdRate else s1)
    else .next s
  else if s.fld 0 F.PTP_SYNCE_STATE_STATE = 1 then
    let s1 := s.setFld 0 F.PTP_SYNCE_STATE_STATE 2
    .next (if s1.todSt = tsHoldover then s1.holdRate else s1)
  else .next s

/-! ### PPS (R467, R469, R478, R479) -/

/-- The offset of a stamp from the nearest whole second, in 2^-16 ns. -/
def ppsOffset (stamp : Nat) : Int :=
  let r := stamp % (secNs * 65536)
  if 2 * r < secNs * 65536 then (r : Int) else (r : Int) - (secNs * 65536 : Nat)

/-- An edge as a source: in LOCKED one beyond 1 µs counts as missing (R467). -/
def State.ppsSource (s : State) (stamp : Nat) : State :=
  let o := ppsOffset stamp
  if s.fld 0 F.TOD_CFG_SOURCE = 2 then
    if s.todSt = tsLocked ∧ 1000 * 65536 < o.natAbs then s
    else ({ s with time := { s.time with ppsAt := some s.nowNs } }).measure o
  else { s with time := { s.time with ppsAt := some s.nowNs } }

/-- PPS_IN_EDGE (R479): a SET_PPS that waits lands at it when it can (R465, R469); nothing stamps it while the S domain is in reset (03 R59). -/
def execPpsInEdge (stamp : Nat) (s : State) : Res :=
  if !s.runs .s then .next s else
  let s1 := (s.setFld64 0 F.PTP_PPS_IN_LO_NS F.PTP_PPS_IN_HI_NS (stamp / 65536)).incWrap 0 F.PTP_PPS_IN_CNT_COUNT 1
  match s.time.step with
  | some (.setPps v) =>
    if s.mayStep && s.noCellRuns then
      let s2 := s1.landStep (v * 2 ^ 40)
      .next { s2 with time := { s2.time with ppsAt := some s2.nowNs } }
    else .next ((s1.showStepWait true).ppsSource stamp)
  | _ => .next (s1.ppsSource stamp)

/-- PPS_OUT_RISE (R478): as the counter passes a whole second plus PPS_OFS, once the device drives the pin (03 R83). -/
def execPpsOutRise (s : State) : Res :=
  let k := s.ppsSecond s.nowNs
  let ofs := sgn32 (s.fld 0 F.PTP_PPS_OFS_NS) * 2 ^ 40
  if s.pinsTaken && s.flag 0 F.PTP_PPS_CFG_OUT_EN && (s.flag 0 F.TOD_STATE_TX_OK || s.flag 0 F.PTP_PPS_CFG_ALWAYS) && s.crossed (secNs * 2 ^ 40) ofs &&
      decide (s.time.ppsSec ≠ some k) then
    let s1 := s.emit (.ppsOut true)
    .next { s1 with time := { s1.time with ppsSec := some k, ppsEnd := some (s.nowNs + 1000 * s.fld 0 F.PTP_PPS_CFG_WIDTH_US) } }
  else .next s

/-- PPS_OUT_FALL (R478). -/
def execPpsOutFall (s : State) : Res :=
  match s.time.ppsEnd with
  | some t =>
    if t ≤ s.nowNs then
      let s1 := s.emit (.ppsOut false)
      .next { s1 with time := { s1.time with ppsEnd := none } }
    else .next s
  | none => .next s

end Sys2Proof.Machine
end

