-- ==== Sys2Proof/Machine/Trust.lean ====
section
/-! DEFINITION. Machine/Trust.lean: rollback (20 R560), the flash update (R561, R562), debug grants (R565 to R568), attestation over SPDM (R563, R564), IDE keys
(17 R503) and the JTAG port (20 R567). -/
namespace Sys2Proof.Machine

open Sys2Proof

/-! ### Rollback (R560) -/

/-- A write of TRU_BOOT_CTRL.SVN_COMMIT: SVN_MIN has six bits. -/
def State.svnCommit (s : State) (req : Requester) (key : Nat) : State :=
  if req.manages && decide (key = 0x3C ∧ s.fld 0 F.TRU_FUSE_SVN_MIN < s.fld 0 F.TRU_SVN_SVN ∧ s.fld 0 F.TRU_BOOT_SOURCE = 1) && decide (s.fld 0 F.TRU_BOOT_RESULT = 1) then
    s.setFld 0 F.TRU_FUSE_SVN_MIN (min (s.fld 0 F.TRU_SVN_SVN) 63)
  else s

/-- SVN_COMMIT (R560). -/
def execSvnCommit (req : Requester) (key : BitVec 8) (s : State) : Res :=
  s.access req F.TRU_BOOT_CTRL_PUSH_NEXT.off (fun _ =>
    .next (s.svnCommit req key.toNat))

/-! ### Updating the flash (R561, R562) -/

/-- A write of TRU_UPD_CTRL.GO; the bonded memory that takes the image needs a sealed canvas. -/
def State.updateGo (s : State) (req : Requester) : State :=
  let code := s.fld 0 F.TRU_UPD_STATUS_CODE
  if !req.manages || decide (1 ≤ code ∧ code ≤ 3) || decide (s.fld 0 F.CVS_STATE_STATE ≠ 2) then s
  else (s.setFld 0 F.TRU_UPD_STATUS_CODE 1).setFld 0 F.TRU_UPD_STATUS_PERCENT 0

/-- UPDATE_GO (R561). -/
def execUpdateGo (req : Requester) (s : State) : Res :=
  s.access req F.TRU_UPD_CTRL_GO.off (fun _ =>
    .next (s.updateGo req))

/-- Orders 3 to 11 of R552 on an update image, and then its canvas: DEVICE and PARAM, TABLE_DIGEST and every section's DIGEST. An image that ends too early has a bad length. -/
def State.updateFault (s : State) (b : Blob) : Option Nat :=
  match s.imgFault b with
  | some c => some (max c 0x11)
  | none =>
    let c := imgCanvas b
    if b.len < imgCanvasAt b + imgCanvasLen b then some 0x11
    else if c.le 8 4 ≠ (s.reg 0 0).toNat ∨ c.le 0xC 4 ≠ (s.reg 0 8).toNat ∨ c.le 0x10 4 ≠ (s.reg 0 0xC).toNat ∨ c.le 0x14 4 ≠ (s.reg 0 0x10).toNat then some 0x12
    else if sm3 (blobSlice c 0x100 (48 * cvCount c)) ≠ blobSlice c 0x50 32 then some 0x16
    else if (List.range (cvCount c)).any (fun i => decide (sm3 (blobBytes (tePayload c i)) ≠ blobSlice c (0x100 + 48 * i + 0x10) 32)) then some 0x16
    else none

/-- UPDATE_FETCH_DONE (R561): the image that host memory holds is fetched, checked, and programming begins; `fail` says that a read failed. Model's choice: notes/assumptions/163.md. -/
def execUpdateFetchDone (image : Blob) (fail : Bool) (s : State) : Res :=
  .next (if s.fld 0 F.TRU_UPD_STATUS_CODE ≠ 1 then s
    else
      let n := s.fld 0 F.TRU_UPD_LEN_BYTES
      if fail || !s.hostUp then s.setFld 0 F.TRU_UPD_STATUS_CODE 0x18
      else if !s.translates 0 (s.fld64 0 F.TRU_UPD_ADDR_LO_ADDR F.TRU_UPD_ADDR_HI_ADDR) then (s.refuseXlate 0 ukNone 0).setFld 0 F.TRU_UPD_STATUS_CODE 0x18
      else
        let s1 := s.countUnits 0 F.CXL_EAS_HOST_RD_UNITS 65536 n
        let b := subBlob image 0 n
        if 0x7F00000 < n then s1.setFld 0 F.TRU_UPD_STATUS_CODE 0x11
        else match s1.updateFault b with
          | some c => s1.setFld 0 F.TRU_UPD_STATUS_CODE c
          | none => { s1.setFld 0 F.TRU_UPD_STATUS_CODE 3 with tru := { s1.tru with upd := b } })

/-- UPDATE_PROGRAM_DONE (R561): the card's flash holds the image; `differs` says that the read-back did not compare. -/
def execUpdateProgramDone (differs : Bool) (s : State) : Res :=
  .next (if s.fld 0 F.TRU_UPD_STATUS_CODE ≠ 3 then s
    else
      let s1 := (s.emit (.flash s.tru.upd)).setFld 0 F.TRU_UPD_STATUS_CODE (if differs then 0x19 else 4)
      { s1.setFld 0 F.TRU_UPD_STATUS_PERCENT 100 with tru := { s1.tru with upd := ⟨0, []⟩ } })

/-! ### Debug grants (R565 to R568) -/

/-- Whether a grant is in force: its seconds left are never zero before it ends. -/
def State.granted (s : State) : Bool := decide (s.fld 0 F.TRU_GRANT_LEFT_S ≠ 0)

/-- The powers of the grant in force end (R568): injection points, UNDERPAINT settings, halts. -/
def State.dropPowers (s : State) : State :=
  let s1 := forUpto 212 (fun d (t : State) => t.disarm d) s
  let s2 := forUpto 64 (fun e (t : State) => t.setFlag e F.SEQ_EAS_PEEK_UNDERPAINT false) (s1.setFlag 0 F.SEQ_DBG_CTRL_UNDERPAINT false)
  let s3 := forUpto 192 (fun c (t : State) => if (t.score c).halted then t.setScore c 0 { t.score c with halted := false } else t) s2
  (s3.setFld 0 F.TRU_GRANT_STATUS_CAPS 0).setFld 0 F.TRU_GRANT_LEFT_S 0

/-- The grant in force ends; a grant that is being checked stays CHECKING. -/
def State.endGrant (s : State) : State :=
  if s.granted then
    let s1 := { s.dropPowers with tru := { s.tru with caps := 0 } }
    if s1.fld 0 F.TRU_GRANT_STATUS_CODE = 1 then s1 else s1.setFld 0 F.TRU_GRANT_STATUS_CODE 3
  else s

/-- A write of TRU_GRANT_CTRL.GO. -/
def State.grantGo (s : State) (req : Requester) : State := if req.manages && decide (s.fld 0 F.CVS_STATE_STATE = 2) then s.setFld 0 F.TRU_GRANT_STATUS_CODE 1 else s

/-- GRANT_GO (R566). -/
def execGrantGo (req : Requester) (s : State) : Res :=
  s.access req F.TRU_GRANT_CTRL_GO.off (fun _ =>
    .next (s.grantGo req))

/-- The identity's digest (R558). -/
def State.idDigest (s : State) : List Nat := (List.range 8).flatMap (fun w => leBytes 4 (s.fld 0 (F.TRU_ID_DIG_DIGEST w)))

/-- Whether a key's digest is a DEBUG slot of the fuses. -/
def State.debugKey (s : State) (digest : List Nat) : Bool :=
  (List.range 2).any (fun i => (s.fld 0 F.TRU_FUSE_DEBUG_VALID).testBit i && decide (Config.fuseDebug i = digest))

/-- The first check that a grant fails, in the order of R566's codes. -/
def State.grantFault (s : State) (b : Blob) : Option Nat :=
  if b.le 0 4 ≠ 0x544E5247 ∨ b.le 4 2 ≠ 1 ∨ !(b.zero 6 2 && b.zero 0x78 72) ∨ 64 ≤ b.le 0x30 4 ∨ !within 1 86400 (b.le 0x34 4) then some 0x10
  else if s.fld 0 F.TRU_ID_STATE ≠ 1 ∨ blobSlice b 8 32 ≠ s.idDigest then some 0x11
  else if b.le 0x28 8 ≠ s.fld64 0 F.CVS_BOOT_NONCE_LO_NONCE F.CVS_BOOT_NONCE_HI_NONCE then some 0x12
  else if !s.debugKey (sm3 (blobSlice b 0x38 64)) then some 0x13
  else if !Config.sm2Valid (blobSlice b 0x38 64) (blobSlice b 0 0xC0) (blobSlice b 0xC0 64) then some 0x14
  else none

/-- A grant is accepted: the one it replaces ends, and the debug chain takes it in (R564, R566). Model's choice: notes/assumptions/164.md. -/
def State.grantAccept (s : State) (b : Blob) : State :=
  let s1 := if s.granted then s.dropPowers else s
  let caps := b.le 0x30 4
  let s2 := ((s1.setFld 0 F.TRU_GRANT_STATUS_CODE 2).setFld 0 F.TRU_GRANT_STATUS_CAPS caps).setFld 0 F.TRU_GRANT_LEFT_S (b.le 0x34 4)
  { s2 with tru := { s2.tru with caps := caps, chain := sm3 (s2.tru.chain ++ sm3 (blobSlice b 0 256)) } }

/-- GRANT_VERDICT (R566): `grant` is what host memory holds, `fail` a read that fails. -/
def execGrantVerdict (grant : Blob) (fail : Bool) (s : State) : Res :=
  .next (if s.fld 0 F.TRU_GRANT_STATUS_CODE ≠ 1 then s
    else if fail || !s.hostUp then s.setFld 0 F.TRU_GRANT_STATUS_CODE 0x15
    else if !s.translates 0 (s.fld64 0 F.TRU_GRANT_ADDR_LO_ADDR F.TRU_GRANT_ADDR_HI_ADDR) then (s.refuseXlate 0 ukNone 0).setFld 0 F.TRU_GRANT_STATUS_CODE 0x15
    else
      let s1 := s.countUnits 0 F.CXL_EAS_HOST_RD_UNITS 65536 256
      match s1.grantFault grant with
      | some c => s1.setFld 0 F.TRU_GRANT_STATUS_CODE c
      | none => s1.grantAccept grant)

/-- A write of TRU_GRANT_CTRL.REVOKE. -/
def State.grantRevoke (s : State) (req : Requester) : State := if req.manages then s.endGrant else s

/-- GRANT_REVOKE (R568). -/
def execGrantRevoke (req : Requester) (s : State) : Res :=
  s.access req F.TRU_GRANT_CTRL_GO.off (fun _ =>
    .next (s.grantRevoke req))

/-- GRANT_EXPIRY (R568): the Q-domain count runs out. -/
def execGrantExpiry (s : State) : Res := .next s.endGrant

/-! ### Attestation (R563, R564) -/

/-- Answer an SPDM request. -/
def State.spdm (s : State) (r : SpdmResp) : State := s.emit (.spdm r)

/-- Answer it with ERROR, which is counted. -/
def State.spdmError (s : State) (r : SpdmResp) : State := (s.incSat 0 F.TRU_SPDM_ERRORS 1).spdm r

/-- Sessions that a FINISH has completed are shown (R570). -/
def State.setSess (s : State) (l : List (Nat × Bool)) : State :=
  { s.setFld 0 F.TRU_SPDM_SESSIONS (l.filter (fun p => p.2)).length with tru := { s.tru with sess := l } }

/-- Whether a session is open and complete. -/
def State.inSess (s : State) (k : Nat) : Bool := s.tru.sess.any (fun p => decide (p.1 = k) && p.2)

/-- An SPDM request: a controller in reset hears nothing, before sealing the answer is Busy, and a request in a session needs that session. -/
def State.ask (s : State) (sess : Option (Fin 4)) (f : State → State) : Res :=
  .next (if !s.cxlRuns then s
    else if s.fld 0 F.CVS_STATE_STATE ≠ 2 then s.spdmError .busy
    else match sess with
      | some k => if s.inSess k then f s else s.spdmError .refused
      | none => f s)

/-- GET_VERSION (R563). -/
def execGetVersion (sess : Option (Fin 4)) (s : State) : Res := s.ask sess (fun t => t.spdm .version)

/-- GET_CAPABILITIES (R563). -/
def execGetCapabilities (sess : Option (Fin 4)) (s : State) : Res := s.ask sess (fun t => t.spdm .capabilities)

/-- NEGOTIATE_ALGORITHMS (R563). -/
def execNegotiateAlgorithms (sess : Option (Fin 4)) (s : State) : Res := s.ask sess (fun t => t.spdm .algorithms)

/-- GET_DIGESTS (R563): slot 0, from the identity record. -/
def execGetDigests (sess : Option (Fin 4)) (s : State) : Res :=
  s.ask sess (fun t => if t.boot.chain = [] then t.spdmError .unspecified else t.spdm (.digests (sm3 (Config.spdmChain t.boot.chain))))

/-- GET_CERTIFICATE (R563): a part of the chain, and the bytes left after it. -/
def execGetCertificate (sess : Option (Fin 4)) (slot offset len : Nat) (s : State) : Res :=
  s.ask sess (fun t =>
    let c := Config.spdmChain t.boot.chain
    if t.boot.chain = [] then t.spdmError .unspecified
    else if slot ≠ 0 ∨ c.length ≤ offset then t.spdmError .refused
    else t.spdm (.certificate ((c.drop offset).take len) (c.length - (offset + len))))

/-- CHALLENGE (R563). -/
def execChallenge (sess : Option (Fin 4)) (slot : Nat) (s : State) : Res :=
  s.ask sess (fun t =>
    if t.fld 0 F.TRU_ID_STATE ≠ 1 then t.spdmError .unspecified else if slot ≠ 0 then t.spdmError .refused else t.spdm .challengeAuth)

/-- The digest that CVS_LIVE_DIG shows. -/
def State.liveDigest (s : State) (i : Nat) : List Nat := (List.range 8).flatMap (fun w => leBytes 4 (s.fld 0 (F.CVS_LIVE_DIG_DIGEST (8 * i + w))))

/-- The measurements, by index from 1 (R564). -/
def State.measurements (s : State) : List (List Nat) :=
  (List.range 4).map (nth [] s.boot.meas) ++ (List.range 4).map s.liveDigest ++
    [sm3 (leBytes 8 (s.fld64 0 F.CVS_BOOT_NONCE_LO_NONCE F.CVS_BOOT_NONCE_HI_NONCE) ++ leBytes 4 (s.fld 0 F.CVS_RT_SEQ_SEQ)), s.tru.chain]

/-- GET_MEASUREMENTS (R564): index 0 asks for their number, 0xFF for all; a signed answer needs the identity. -/
def execGetMeasurements (sess : Option (Fin 4)) (index : Nat) (signed : Bool) (s : State) : Res :=
  s.ask sess (fun t =>
    let all := (List.range 10).map (fun i => (i + 1, nth [] t.measurements i))
    if signed && decide (t.fld 0 F.TRU_ID_STATE ≠ 1) then t.spdmError .unspecified
    else if index = 0 then t.spdm (.count 10)
    else if index = 0xFF then t.spdm (.measurements all signed)
    else if 10 < index then t.spdmError .refused
    else t.spdm (.measurements (all.filter (fun p => decide (p.1 = index))) signed))

/-- KEY_EXCHANGE (R563): at most four sessions. -/
def execKeyExchange (slot : Nat) (s : State) : Res :=
  s.ask none (fun t =>
    if t.fld 0 F.TRU_ID_STATE ≠ 1 then t.spdmError .unspecified
    else if slot ≠ 0 then t.spdmError .refused
    else match (List.range 4).find? (fun k => !t.tru.sess.any (fun p => decide (p.1 = k))) with
      | some k => (t.setSess (t.tru.sess ++ [(k, false)])).spdm (.keyExchange k)
      | none => t.spdmError .refused)

/-- FINISH (R563): `good` says that its verification data hold; otherwise the session is gone. -/
def execFinish (sess : Fin 4) (good : Bool) (s : State) : Res :=
  s.ask none (fun t =>
    if !t.tru.sess.contains (sess.val, false) then t.spdmError .refused
    else if good then (t.setSess (t.tru.sess.map (fun p => if p.1 = sess.val then (p.1, true) else p))).spdm .finish
    else (t.setSess (t.tru.sess.filter (fun p => decide (p.1 ≠ sess.val)))).spdmError .refused)

/-- END_SESSION (R563). -/
def execEndSession (sess : Fin 4) (s : State) : Res :=
  s.ask (some sess) (fun t => (t.setSess (t.tru.sess.filter (fun p => decide (p.1 ≠ sess.val)))).spdm .endSession)

/-- HEARTBEAT (R563). -/
def execHeartbeat (sess : Fin 4) (s : State) : Res := s.ask (some sess) (fun t => t.spdm .heartbeat)

/-- KEY_UPDATE (R563). -/
def execKeyUpdate (sess : Fin 4) (s : State) : Res := s.ask (some sess) (fun t => t.spdm .keyUpdate)

/-- IDE_KM (17 R503, R504): the stream is keyed; CXL.cache and CXL.mem go on over a stream 0 that had stopped. -/
def execIdeKm (sess : Fin 4) (stream : Fin 4) (s : State) : Res :=
  s.ask (some sess) (fun t =>
    let t1 := t.setIde stream true
    (if stream.val = 0 then { t1 with cxl := { t1.cxl with stopped := false } }.hostBack else t1).spdm .ideKm)

/-! ### The JTAG port (R567) -/

/-- JTAG_INSTRUCTION (R567): boundary scan, and debug access under the JTAG power; neither has an effect that the spec states on the device's state. -/
def execJtagInstruction (s : State) : Res := .next s

end Sys2Proof.Machine
end

