-- ==== Sys2Proof/Machine/Registers.lean ====
section
/-! DEFINITION. Machine/Registers.lean: the accesses that have no row of their own (00 R3 to R10): register writes by access code, reads, 64-bit pairs and select
registers, with who reaches which register and who may write it (the last rules of every chapter). -/
namespace Sys2Proof.Machine

open Sys2Proof

/-! ### Select registers (R8 to R10) -/

/-- Where a select register lies. -/
def selOff : Selector → Nat
  | .strCh => 0x180000
  | .flw => 0x280004
  | .ethPort => 0x280000
  | .tcCore => 0x100000
  | .scCore => 0x140000
  | .eas => 0x200000
  | .memStk => 0x40000
  | .radCell => 0x3C0000
  | .fltInj => 0x340000
  | .egsNode => 0x2C0000
  | .clmZone => 0x3022C

/-- The select register at an offset. -/
def selectAt (off : Nat) : Option Selector :=
  [Selector.strCh, .flw, .ethPort, .tcCore, .scCore, .eas, .memStk, .radCell, .fltInj, .egsNode, .clmZone].find? (fun x => decide (selOff x = off))

/-- How many units a select register chooses among (R10; 15 R459; 19 R544). -/
def selRange : Selector → Nat
  | .strCh => 2048
  | .flw => 8192
  | .ethPort => 8
  | .tcCore => 48
  | .scCore => 192
  | .eas => 64
  | .memStk => 18
  | .radCell => 384
  | .fltInj => 212
  | .egsNode => 4096
  | .clmZone => 20

/-- Whether a requester has a copy of a select register that it may write: through a VF, EAS_SEL is fixed and CLM_ZONESEL is not reached (R10; 19 R544). -/
def selWritable (req : Requester) (x : Selector) : Bool := req.manages || !(x == .eas || x == .clmZone)

/-- Write a requester's copy of a select register; an index beyond the range is discarded (R9). Model's choice: notes/assumptions/127.md. -/
def State.setSel (s : State) (req : Requester) (x : Selector) (v : Nat) : State :=
  if selWritable req x && decide (v < selRange x) then
    let c := s.ctxOf req
    s.setCtx req { c with sel := SMap.set (fun _ => 0) c.sel (selNum x) v }
  else s

/-- The number under which a requester's copy of YZF_RANK_Q is kept among its select registers (13 R416). -/
def rankQ : Nat := 11

/-! ### What an access reaches -/

/-- What a VF sees of the registers (R10; 04 R118; 05 R168; 07 R230; 09 R303; 10 R337; 11 R364; 12 R381; 13 R416; 14 R439; 15 R458; 16 R481; 17 R486, R508; 18 R525; 19 R544;
21 R587): its easel's units, and no more of a VF whose easel does not exist than the ID block. -/
def State.vfSees (s : State) (n off u : Nat) : Bool :=
  decide (off < 0x10000) || s.flag n F.EAS_CFG_EXISTS &&
    match windowOf off with
    | .easel => decide (u = n) && (decide (off < 0x200140 ∨ 0x200200 ≤ off) || decide (off = F.EAS_LIFE_STATE.off ∨ off = 0x200148))
    | .tcoreEasel => s.coreReach F.TC_PARTITION_OWNER (u / 64) n
    | .scoreEasel => s.coreReach F.SC_PARTITION_OWNER (u / 64) n
    | .channel => s.ownsLink n u
    | .flow => decide (s.fld u F.FLW_CFG_EASEL = n ∧ s.fld u F.FLW_CFG_KIND ≠ 0)
    | .node => decide (s.fld u F.EGS_NODE_CFG_EASEL = n ∧ 2 ≤ s.fld u F.EGS_NODE_CFG_LEVEL)
    | .global => decide (off = F.TOD_NOW_FRAC_FRAC.off ∨ off = F.TOD_NOW_NS_LO_NS.off ∨ off = F.TOD_NOW_NS_HI_NS.off ∨ off = F.FLT_HEALTH_SCORE.off)
    | _ => false

/-- Whether a requester sees the register an access addresses. -/
def State.sees (s : State) (req : Requester) (off u : Nat) : Bool :=
  match req with
  | .vf n => s.vfSees n off u
  | _ => true

/-! ### 64-bit pairs (R5) -/

/-- The low registers of the 64-bit values held in two adjacent registers: the first, how many and how far apart. Model's choice: notes/assumptions/129.md. -/
def pairRows : List (Nat × Nat × Nat) :=
  [(0x10008, 1, 8), (0x10048, 1, 8), (0x10100, 1, 8), (0x100110, 1, 8), (0x140114, 1, 8), (0x180108, 1, 8), (0x180120, 1, 8), (0x18012C, 1, 8),
   (0x20010C, 1, 8), (0x200120, 1, 8), (0x200150, 1, 8), (0x200158, 1, 8), (0x200160, 1, 8), (0x1C0014, 1, 8), (0x1C0138, 1, 8), (0x1C0154, 1, 8),
   (0x1C015C, 1, 8), (0x1C0400, 64, 32), (0x24020C, 16, 32), (0x2C0110, 1, 8), (0x300014, 1, 8), (0x300020, 1, 8), (0x300058, 1, 8), (0x300200, 16, 16),
   (0x400400, 64, 64), (0x400410, 64, 64), (0x400420, 64, 64), (0x380060, 1, 8), (0x380080, 1, 8), (0x3400A4, 1, 8), (0x340204, 1, 8)]

/-- Whether an offset is the low register of a pair. -/
def pairLow (off : Nat) : Bool :=
  pairRows.any (fun p => decide (p.1 ≤ off ∧ off < p.1 + p.2.1 * p.2.2) && decide ((off - p.1) % p.2.2 = 0))

/-- Whether an offset is the high register of a pair. -/
def pairHigh (off : Nat) : Bool := decide (4 ≤ off) && pairLow (off - 4)

/-! ### Reads (R3, R5, R6) -/

/-- Word `i` of the rank entry that a requester's YZF_RANK_Q names (13 R389, R417); zero for a rank outside every job. -/
def State.rankData (s : State) (req : Requester) (i : Nat) : Nat :=
  let q := SMap.get (fun _ => 0) (s.ctxOf req).sel rankQ
  let slot := q % 16
  let rank := q / 65536 % 4096
  let (mac, gen, st, paths) := s.rankEntry slot rank
  if rank < s.fld 0 (F.YZF_JOB_RANKS_COUNT slot) then ofLe (((leBytes 6 mac ++ leBytes 1 gen ++ leBytes 1 st ++ leBytes 3 paths ++ leBytes 5 0).drop (4 * i)).take 4)
  else 0

/-- Word `i` of the log entry that FLT_LOG_IDX names (21 R578, R588). -/
def State.logData (s : State) (i : Nat) : Nat :=
  ofLe (((SMap.get (fun _ => logBlank) s.flt.log (s.fld 0 F.FLT_LOG_IDX_INDEX)).drop (4 * i)).take 4)

/-- The subport whose registers lie at an offset of the port windows. -/
def subportAt (off : Nat) : Option Nat :=
  if 0x280110 ≤ off ∧ off < 0x280130 then some ((off - 0x280110) / 8)
  else if 0x280140 ≤ off ∧ off < 0x280180 then some ((off - 0x280140) / 16)
  else if 0x300100 ≤ off ∧ off < 0x300180 then some ((off - 0x300100) / 32)
  else none

/-- Whether a window shows its unit: not a cell beyond CELL_COUNT (08 R268), an absent subport (14 R441; 16 R483), or a flow of KIND UNUSED (14 R442; 15 R462). -/
def State.unitShows (s : State) (u off : Nat) : Bool :=
  match windowOf off with
  | .cell => decide (u < s.cellCount)
  | .flow => decide (s.fld u F.FLW_CFG_KIND ≠ 0)
  | .port => (match subportAt off with
    | some i => s.subExists (4 * u + i)
    | none => true)
  | _ => true

/-- A ring's tail as its register shows it: entries whose write still waits for the link do not count (17 R492). -/
def State.tailSeen (s : State) (e base size tail issued : Nat) : Nat :=
  let wait := ((s.hostQueue e).filter (fun o => match o with
    | .hostWrite _ a bs => decide (base ≤ a ∧ a < base + 32 * 2 ^ size) && decide (bs.length = 32)
    | _ => false)).length
  (tail + 2 ^ size - min wait issued % 2 ^ size) % 2 ^ size

/-- The tail registers of the rings in host memory: completion, fault and output rings (17 R492). -/
def State.ringTail (s : State) (u off : Nat) : Option Nat :=
  if off = F.EAS_CQ_TAIL_TAIL.off then
    if s.flag u F.EAS_CQ_SIZE_SPACE then none
    else some (s.tailSeen u (s.fld64 u F.EAS_CQ_BASE_LO_ADDR F.EAS_CQ_BASE_HI_ADDR) (s.fld u F.EAS_CQ_SIZE_SIZE) (s.fld u F.EAS_CQ_TAIL_TAIL)
      (SMap.get ringDefault s.sched.ring u).seqno)
  else if off = F.FLT_EAS_TAIL_TAIL.off then
    some (s.tailSeen u (s.fld64 u F.FLT_EAS_BASE_LO_ADDR F.FLT_EAS_BASE_HI_ADDR) (s.fld u F.FLT_EAS_SIZE_SIZE) (s.fld u F.FLT_EAS_TAIL_TAIL)
      (SMap.get (fun _ => RingPos.start) s.flt.ring u).seqno)
  else if 0x1C0400 ≤ off ∧ off < 0x1C0C00 ∧ off % 32 = 16 then
    let r := (off - 0x1C0400) / 32
    if s.flag u (F.SEQ_OR_SIZE_SPACE r) then none
    else some (s.tailSeen u (s.fld64 u (F.SEQ_OR_BASE_LO_ADDR r) (F.SEQ_OR_BASE_HI_ADDR r)) (s.orSize u r) (s.fld u (F.SEQ_OR_TAIL_TAIL r))
      (SMap.get (fun _ => RingPos.start) (s.seqEas u).ring r).seqno)
  else none

/-- What a register shows a requester: reserved bits (R4) and WO fields (R6) read zero; some registers show what is held elsewhere. -/
def State.shownWord (s : State) (req : Requester) (u off : Nat) : BitVec 32 :=
  if !s.unitShows u off then 0
  else if off = 0x240140 then BitVec.ofNat 32 (SMap.get (fun _ => 0) (s.ctxOf req).sel rankQ)
  else if 0x240144 ≤ off ∧ off ≤ 0x240150 then BitVec.ofNat 32 (s.rankData req ((off - 0x240144) / 4))
  else if 0x340080 ≤ off ∧ off ≤ 0x34009C then BitVec.ofNat 32 (s.logData ((off - 0x340080) / 4))
  else if off = F.PWR_EAS_WAKE_US.off ∧ u = 0 then s.reg 0 F.PWR_RADIO_WAKE_US.off
  else
    let w := match s.ringTail u off with
      | some t => BitVec.ofNat 32 t
      | none => s.reg u off
    match regRow? off with
    | some r => BitVec.ofNat 32 ((w.toNat &&& r.used) - (w.toNat &&& r.used &&& r.wo))
    | none => w

/-- Registers that change by themselves are brought up to date before a read: the decoders' busy shares, translation misses, the seconds left of a grant (08 R267; 17 R509; 20
R570). -/
def State.refresh (s : State) (off : Nat) : State :=
  if off = F.RAD_LDPC_UTIL_W.off then s.showLdpc
  else if off = F.CXL_ATC_MISSES.off then
    let (k, s1) := s.draw
    s1.setFld 0 F.CXL_ATC_MISSES (Config.atcMisses k).toNat
  else if off = F.TRU_GRANT_LEFT_S.off ∧ s.fld 0 F.TRU_GRANT_LEFT_S ≠ 0 then
    let (k, s1) := s.draw
    s1.setFld 0 F.TRU_GRANT_LEFT_S (1 + Config.secondsLeft k % s.fld 0 F.TRU_GRANT_LEFT_S)
  else s

/-- A read of the time of day (16 R481): FRAC snapshots the whole counter; the next reads of NS_LO and NS_HI return the snapshot; NS_LO without one snapshots NS_HI. -/
def State.readTod (s : State) (req : Requester) (off : Nat) : BitVec 32 × State :=
  let c := s.ctxOf req
  let lo := BitVec.ofNat 32 s.nowNs
  let hi := BitVec.ofNat 32 (s.nowNs / 2 ^ 32)
  if off = F.TOD_NOW_FRAC_FRAC.off then (BitVec.ofNat 32 (s.tod / 2 ^ 24 % 65536), s.setCtx req { c with todLo := some lo, todHi := some hi })
  else if off = F.TOD_NOW_NS_LO_NS.off then
    match c.todLo with
    | some w => (w, s.setCtx req { c with todLo := none })
    | none => (lo, s.setCtx req { c with todHi := some hi })
  else
    match c.todHi with
    | some w => (w, s.setCtx req { c with todHi := none })
    | none => (hi, s)

/-- A read of one register. A read of the low register of a pair snapshots the high one, and the next read of the high register by the same requester returns
the snapshot (R5). -/
def State.readReg (s : State) (req : Requester) (off : Nat) : BitVec 32 × State :=
  match selectAt off with
  | some x => (if selWritable req x || x == .eas then BitVec.ofNat 32 (s.selOf req x) else 0, s)
  | none =>
    let u := s.unitAt req off
    if !s.sees req off u then (0, s)
    else if F.TOD_NOW_FRAC_FRAC.off ≤ off ∧ off ≤ F.TOD_NOW_NS_HI_NS.off then s.readTod req off
    else
      let s1 := s.refresh off
      let c := s1.ctxOf req
      if pairLow off then
        (s1.shownWord req u off, s1.setCtx req { c with snap := SMap.set (fun _ => 0) c.snap (regKey u (off + 4)) (1 + (s1.shownWord req u (off + 4)).toNat) })
      else if pairHigh off && decide (SMap.get (fun _ => 0) c.snap (regKey u off) ≠ 0) then
        (BitVec.ofNat 32 (SMap.get (fun _ => 0) c.snap (regKey u off) - 1), s1.setCtx req { c with snap := SMap.set (fun _ => 0) c.snap (regKey u off) 0 })
      else (s1.shownWord req u off, s1)

/-- A read of 1, 2, 4 or 8 bytes (R3): a narrow one returns the addressed bytes of the register; a misaligned one returns zero and touches nothing. Model's choice: notes/assumptions/128.md. -/
def State.busRead (s : State) (req : Requester) (off size : Nat) : State :=
  if !s.barOpen req off then s
  else if size = 8 ∧ off % 8 = 0 then
    let (a, s1) := s.readReg req off
    let (b, s2) := s1.readReg req (off + 4)
    (s2.emit (.readData req off a)).emit (.readData req (off + 4) b)
  else if size = 4 ∧ off % 4 = 0 then
    let (a, s1) := s.readReg req off
    s1.emit (.readData req off a)
  else if size = 1 ∨ size = 2 then
    let (a, s1) := s.readReg req (off / 4 * 4)
    s1.emit (.readData req off (BitVec.ofNat 32 (a.toNat / 2 ^ (8 * (off % 4)) % 2 ^ (8 * size))))
  else s.emit (.readData req off 0)

/-! ### Who may write -/

/-- Who writes a register. -/
inductive Writer where
  /-- PF0 and the Atelier cores. -/
  | manages
  /-- The easel's own VF alone. -/
  | ownVf
  /-- The easel's own VF, PF0 and the Atelier cores. -/
  | either
  /-- The easel's owner: its VF, or PF0 and the Atelier cores for easel 0. -/
  | owner
  /-- The owner of the channel's easel. -/
  | chanOwner
  /-- The VF of the flow's easel, PF0 and the Atelier cores. -/
  | flowEither
  /-- The VF of the node's easel, PF0 and the Atelier cores. -/
  | nodeEither
  deriving DecidableEq, Repr

/-- The registers that others than PF0 and the Atelier cores write, by first and last offset (04 R118; 05 R168; 07 R230; 09 R303; 10 R337; 11 R364; 12 R381; 13 R416; 14 R439;
15 R458; 17 R508; 21 R587). -/
def writerRows : List (Nat × Nat × Writer) :=
  [(0x40210, 0x40220, .either), (0x100218, 0x100218, .either), (0x140218, 0x14021C, .either), (0x180108, 0x180110, .chanOwner), (0x180510, 0x180510, .either),
   (0x200104, 0x200128, .owner), (0x1C0100, 0x1C0148, .ownVf), (0x1C0400, 0x1C0BFF, .ownVf), (0x1E0100, 0x1E010C, .ownVf), (0x240404, 0x240404, .ownVf),
   (0x280200, 0x2802FF, .flowEither), (0x2C0120, 0x2C0120, .nodeEither), (0x400200, 0x400200, .owner), (0x340200, 0x34021C, .owner)]

/-- Who writes the register at an offset. -/
def writerOf (off : Nat) : Writer :=
  match writerRows.find? (fun w => decide (w.1 ≤ off ∧ off ≤ w.2.1)) with
  | some w => w.2.2
  | none => .manages

/-- The easel of a unit of the easel windows; those of the cores count 64 easels per core. -/
def easelOfUnit (off u : Nat) : Nat :=
  match windowOf off with
  | .tcoreEasel => u % 64
  | .scoreEasel => u % 64
  | _ => u

/-- Whether a requester may write a register. -/
def State.mayWrite (s : State) (req : Requester) (off u : Nat) : Bool :=
  match writerOf off with
  | .manages => req.manages
  | .ownVf => isVf req u
  | .either => req.manages || isVf req (easelOfUnit off u)
  | .owner => ownsEas req u
  | .chanOwner => ownsEas req (s.chEasel u)
  | .flowEither => req.manages || isVf req (s.fld u F.FLW_CFG_EASEL)
  | .nodeEither => req.manages || isVf req (s.fld u F.EGS_NODE_CFG_EASEL)

/-! ### Which values are taken -/

/-- A signed number of 32 bits within a bound. -/
def signedWithin (v bound : Nat) : Bool := decide ((sgn32 v).natAbs ≤ bound)

/-- A ring size within bounds. -/
def sizeIn (n lo hi : Nat) : Bool := decide (lo ≤ n ∧ n ≤ hi)

/-- The conditions on a write, by first and last offset: a write that breaks one is discarded whole. -/
def State.writeConds (s : State) (off u : Nat) (v : BitVec 32) : List (Nat × Nat × Bool) :=
  let f := fun (x : Fld) => fieldOf v x.lo x.width
  let easOff := !s.flag u F.EAS_CTRL_ENABLE
  let life := s.life u
  let q := (off - 0x400400) / 64
  let fqOff := !s.flag 0 (F.FQ_RQ_CFG_ENABLE q)
  let part := (off - 0x400400) % 64
  [-- 10 R314, R334
   (0x20010C, 0x200114, easOff), (0x200120, 0x200128, easOff), (0x200114, 0x200114, sizeIn (f F.EAS_SQ_SIZE_SIZE) 6 16), (0x200128, 0x200128, sizeIn (f F.EAS_CQ_SIZE_SIZE) 6 16),
   -- 18 R525
   (0x20014C, 0x20015C, decide (life = lifeReady ∨ life = lifeFrozen)), (0x20014C, 0x20014C, sizeIn (f F.EAS_FREEZE_US_US) 100 1000000),
   -- 21 R576
   (0x340204, 0x34020C, !s.flag u F.FLT_EAS_CTRL_ENABLE), (0x34020C, 0x34020C, sizeIn (f F.FLT_EAS_SIZE_SIZE) 6 16),
   -- 11 R340, R364, R367
   (0x1C010C, 0x1C0148, !s.seqOn u), (0x1C0400, 0x1C0BFF, decide (12 ≤ off % 32) || !s.seqOn u),
   (0x1C0400, 0x1C0BFF, decide (off % 32 ≠ 8) || (let n := fieldOf v 0 5; decide (n = 0) || sizeIn n 6 16)),
   (0x1C0010, 0x1C0010, decide (f F.SEQ_DBG_CTRL_UNDERPAINT = 0) || s.power powUnderpaint),
   -- 17 R493, R494
   (0x400400, 0x4013FF, decide (part = 8 ∨ 0x28 ≤ part) || fqOff), (0x400400, 0x4013FF, decide (part ≠ 8 ∧ part ≠ 0x18) || !fqOff || sizeIn (fieldOf v 0 5) 16 26),
   -- 19 R541, R544
   (0x30104, 0x30104, sizeIn (f F.PWR_CAP_W) 600 1710), (0x30200, 0x30200, sizeIn (f F.CLM_CFG_T_SET) 60 100 && sizeIn (f F.CLM_CFG_HEADROOM) 2 10),
   (0x30220, 0x30220, sizeIn (f F.CLM_HOLDUP_CFG_ON) 400 500 && sizeIn (f F.CLM_HOLDUP_CFG_OFF) (f F.CLM_HOLDUP_CFG_ON + 5) 520),
   (0x30280, 0x30280, sizeIn (f F.CLM_ZONE_R_MKW) 100 5000), (0x30284, 0x30284, sizeIn (f F.CLM_ZONE_TAU_MS) 5 200), (0x30288, 0x30288, sizeIn (f F.CLM_ZONE_PINF_W) 0 400),
   -- 16 R472, R475, R476, R478
   (0x300048, 0x300048, sizeIn (f F.PTP_CFG_DOMAIN) 24 43 && decide (f F.PTP_CFG_TC_DOMAIN ≠ f F.PTP_CFG_DOMAIN)),
   (0x300050, 0x300050, decide (1 ≤ f F.PTP_PPS_CFG_WIDTH_US)), (0x300054, 0x300054, signedWithin v.toNat 500000000),
   (0x300040, 0x300040, decide (f F.PTP_SYNCE_CFG_MODE ≤ 2 ∧ f F.PTP_SYNCE_CFG_BW ≤ 2))]

/-- Whether the value of a write is taken. -/
def State.valueOk (s : State) (off u : Nat) (v : BitVec 32) : Bool :=
  (s.writeConds off u v).all (fun r => decide (off < r.1 ∨ r.2.1 < off) || r.2.2)

/-! ### Writes (R3 to R6) -/

/-- A register word after a write, by the access codes of its bits (R6): RW and RWS bits take the value, W1C bits clear where it has a 1, W1S bits set; no other bit changes. -/
def RegRow.write (r : RegRow) (old v : Nat) : Nat :=
  let m := r.rw ||| r.rws
  let a := (old - (old &&& m)) ||| (v &&& m)
  let b := a - (a &&& (v &&& r.w1c))
  b ||| (v &&& r.w1s)

/-- The registers whose writes are commands of their own (EAS_SQ_TAIL, EAS_CQ_HEAD, STR_CH_SEM, TOD_CFG, TOD_FRAME_OFS, CXL_IDE_POLICY, PWR_EAS_WAKE, CLM_DRIVE, SEQ_OR_HEAD):
REGISTER_WRITE, a write "to a register that has no row of its own", does nothing there. -/
def ownRow (off : Nat) : Bool :=
  [0x200118, 0x20012C, 0x180134, 0x300010, 0x300030, 0x40000C, 0x30400, 0x30204].contains off || (decide (0x1C0400 ≤ off ∧ off < 0x1C0C00) && decide (off % 32 = 12))

/-- Clear FQ_RQ_CFG.ENABLE, or write its SIZE while it is clear (17 R494); setting it is FQ_ENABLE. -/
def State.writeFqCfg (s : State) (q : Nat) (v : BitVec 32) : State :=
  if s.flag 0 (F.FQ_RQ_CFG_ENABLE q) then (if v.toNat.testBit 8 then s else s.fqDisable q)
  else s.setFld 0 (F.FQ_RQ_CFG_SIZE q) v.toNat

/-- FLT_EAS_CTRL (21 R576): setting ENABLE sets head and tail to zero and starts the ring anew. -/
def State.writeFltCtrl (s : State) (e : Nat) (v : BitVec 32) : State :=
  if v.toNat.testBit 0 && !s.flag e F.FLT_EAS_CTRL_ENABLE then
    let s1 := ((s.setFlag e F.FLT_EAS_CTRL_ENABLE true).setFld e F.FLT_EAS_HEAD_HEAD 0).setFld e F.FLT_EAS_TAIL_TAIL 0
    { s1 with flt := { s1.flt with ring := SMap.set (fun _ => RingPos.start) s1.flt.ring e RingPos.start } }
  else s.setFlag e F.FLT_EAS_CTRL_ENABLE (v.toNat.testBit 0)

/-- A write of a register that is no select register: who may write it and which values it takes have been checked. -/
def State.putReg (s : State) (off u : Nat) (v : BitVec 32) : State :=
  if off = F.EAS_CTRL_ENABLE.off then (if v.toNat.testBit 0 then s else s.setFlag u F.EAS_CTRL_ENABLE false)
  else if off = F.SEQ_EAS_CTRL_ENABLE.off then
    if v.toNat.testBit 0 || !s.seqOn u then s.setFlag u F.SEQ_EAS_CTRL_AUTO (v.toNat.testBit 1)
    else if (s.seqEas u).entries.all (fun p => decide (p.2.state = 0)) then
      (s.setFlag u F.SEQ_EAS_CTRL_ENABLE false).setFlag u F.SEQ_EAS_CTRL_AUTO (v.toNat.testBit 1)
    else s
  else if off = F.EMB_EAS_CTRL_ENABLE.off then
    (if v.toNat.testBit 0 || s.emb.reqs.any (fun r => decide (r.easel = u)) then s else s.setFlag u F.EMB_EAS_CTRL_ENABLE false)
  else if off = F.FLT_EAS_CTRL_ENABLE.off then s.writeFltCtrl u v
  else if 0x400400 ≤ off ∧ off < 0x401400 ∧ (off - 0x400400) % 64 = 8 then s.writeFqCfg ((off - 0x400400) / 64) v
  else if 0x390000 ≤ off ∧ off < 0x3A0000 then (if s.fld 0 F.TRU_MBX_STATUS_STATE = 2 then s.setReg 0 off v else s)
  else
    match regRow? off with
    | some r => s.setReg u off (BitVec.ofNat 32 (r.write (s.reg u off).toNat v.toNat))
    | none => s

/-- What follows a write of the PTP and SyncE configuration: the states of the PTP ports and the DPLL's input (16 R472, R476). -/
def State.afterPtp (s : State) (off : Nat) : State :=
  if off = F.PTP_CFG_DOMAIN.off ∨ (0x300100 ≤ off ∧ off < 0x300180 ∧ off % 32 = 0) then s.showPorts.showAnnounce
  else if off = F.PTP_SYNCE_CFG_MODE.off then s.showSync else s

/-- A 32-bit write of a register that a requester may not write, or of a value it does not take, is discarded. -/
def State.writeReg (s : State) (req : Requester) (off u : Nat) (v : BitVec 32) : State :=
  if !ownRow off && s.mayWrite req off u && s.valueOk off u v then (s.putReg off u v).afterPtp off else s

/-- Both halves of a pair take effect together (R5). -/
def State.writePair (s : State) (req : Requester) (off u : Nat) (lo hi : BitVec 32) : State := (s.writeReg req off u lo).writeReg req (off + 4) u hi

/-- Whether the low register of a pair is one that a write could change. -/
def pairWritable (off : Nat) : Bool :=
  match regRow? off with
  | some r => decide (r.rw ≠ 0)
  | none => false

/-- An aligned 32-bit write (R5, R9): a low half is held until the same requester writes the high half. -/
def State.writeWord (s : State) (req : Requester) (off : Nat) (v : BitVec 32) : State :=
  match selectAt off with
  | some x => s.setSel req x v.toNat
  | none =>
    let c := s.ctxOf req
    let u := s.unitAt req off
    if off = 0x240140 then
      if req.manages then s.setCtx req { c with sel := SMap.set (fun _ => 0) c.sel rankQ (v.toNat &&& 0xFFF000F) } else s
    else if !s.sees req off u then s
    else if pairLow off && pairWritable off then s.setCtx req { c with held := SMap.set (fun _ => 0) c.held (regKey u off) (1 + v.toNat) }
    else if pairHigh off && pairWritable off then
      let h := SMap.get (fun _ => 0) c.held (regKey u (off - 4))
      if h = 0 then s.writeReg req off u v
      else (s.setCtx req { c with held := SMap.set (fun _ => 0) c.held (regKey u (off - 4)) 0 }).writePair req (off - 4) u (BitVec.ofNat 32 (h - 1)) v
    else s.writeReg req off u v

/-- A write of 1, 2, 4 or 8 bytes (R3): narrow and misaligned ones are discarded; a 64-bit one is atomic (R5). -/
def State.busWrite (s : State) (req : Requester) (off size : Nat) (v : BitVec 64) : State :=
  if !s.barOpen req off then s
  else if size = 8 ∧ off % 8 = 0 then (s.writeWord req off (BitVec.ofNat 32 v.toNat)).writeWord req (off + 4) (BitVec.ofNat 32 (v.toNat / 2 ^ 32))
  else if size = 4 ∧ off % 4 = 0 then s.writeWord req off (BitVec.ofNat 32 v.toNat)
  else s

/-- REGISTER_WRITE (R3). -/
def execRegisterWrite (req : Requester) (off : Nat) (size : Nat) (value : BitVec 64) (s : State) : Res := .next (s.busWrite req off size value)

/-- LOW_REGISTER_READ (R5), and every other read of a register. -/
def execLowRegisterRead (req : Requester) (off : Nat) (size : Nat) (s : State) : Res := .next (s.busRead req off size)

/-- PAIRED_HIGH_WRITE (R5). -/
def execPairedHighWrite (req : Requester) (off : Nat) (value : BitVec 32) (s : State) : Res := .next (s.busWrite req off 4 (value.setWidth 64))

/-- SELECT_REGISTER_WRITE (R9). -/
def execSelectRegisterWrite (req : Requester) (sel : Selector) (value : BitVec 32) (s : State) : Res := s.access req (selOff sel) (fun _ => .next (s.setSel req sel value.toNat))

end Sys2Proof.Machine
end

