-- ==== Sys2Proof/Machine/Dispatch.lean ====
section
/-! DEFINITION. Machine/Dispatch.lean: which meaning each command has; one arm per row of the command table. -/
namespace Sys2Proof.Machine

open Sys2Proof

/-- The effect of a command on everything but the queue. -/
def exec (i : Instr) (s : State) : Host.Outcome State Fault Refusal :=
  match i with
  | .registerWrite req off size value => Sys2Proof.Machine.execRegisterWrite req off size value s
  | .lowRegisterRead req off size => Sys2Proof.Machine.execLowRegisterRead req off size s
  | .pairedHighWrite req off value => Sys2Proof.Machine.execPairedHighWrite req off value s
  | .selectRegisterWrite req sel value => Sys2Proof.Machine.execSelectRegisterWrite req sel value s
  | .powerOnReset => Sys2Proof.Machine.execPowerOnReset s
  | .cardResetAssert => Sys2Proof.Machine.execCardResetAssert s
  | .cardResetRelease => Sys2Proof.Machine.execCardResetRelease s
  | .perstAssert => Sys2Proof.Machine.execPerstAssert s
  | .perstRelease => Sys2Proof.Machine.execPerstRelease s
  | .cxlHotReset => Sys2Proof.Machine.execCxlHotReset s
  | .linkDisable => Sys2Proof.Machine.execLinkDisable s
  | .linkReenable => Sys2Proof.Machine.execLinkReenable s
  | .clockLoss doms ref root => Sys2Proof.Machine.execClockLoss doms ref root s
  | .referenceReturn => Sys2Proof.Machine.execReferenceReturn s
  | .rootPllLock => Sys2Proof.Machine.execRootPllLock s
  | .domainSettle d => Sys2Proof.Machine.execDomainSettle d s
  | .watchdogExpiry => Sys2Proof.Machine.execWatchdogExpiry s
  | .watchdogKick req value => Sys2Proof.Machine.execWatchdogKick req value s
  | .railResetLevel rails => Sys2Proof.Machine.execRailResetLevel rails s
  | .railOverVoltage rails => Sys2Proof.Machine.execRailOverVoltage rails s
  | .braceEntry rails => Sys2Proof.Machine.execBraceEntry rails s
  | .braceExit us => Sys2Proof.Machine.execBraceExit us s
  | .supplyMeasPeriod mv => Sys2Proof.Machine.execSupplyMeasPeriod mv s
  | .softResetChip req key target force => Sys2Proof.Machine.execSoftResetChip req key target force s
  | .softResetIoDie req key target force => Sys2Proof.Machine.execSoftResetIoDie req key target force s
  | .softResetPanel req key target force => Sys2Proof.Machine.execSoftResetPanel req key target force s
  | .softResetCore req key target force => Sys2Proof.Machine.execSoftResetCore req key target force s
  | .softResetHoldEnd => Sys2Proof.Machine.execSoftResetHoldEnd s
  | .softResetDone => Sys2Proof.Machine.execSoftResetDone s
  | .panelRetrainDone trained => Sys2Proof.Machine.execPanelRetrainDone trained s
  | .romBoot flash ident => Sys2Proof.Machine.execRomBoot flash ident s
  | .applyBegin lost => Sys2Proof.Machine.execApplyBegin lost s
  | .stackTrainingDone trained spares filled lost => Sys2Proof.Machine.execStackTrainingDone trained spares filled lost s
  | .easel0Start us => Sys2Proof.Machine.execEasel0Start us s
  | .retouchGo req => Sys2Proof.Machine.execRetouchGo req s
  | .retouchCheck data fail => Sys2Proof.Machine.execRetouchCheck data fail s
  | .retouchCancel req types => Sys2Proof.Machine.execRetouchCancel req types s
  | .shaperRefill => Sys2Proof.Machine.execShaperRefill s
  | .bondedRequest easel addr acc ecc => Sys2Proof.Machine.execBondedRequest easel addr acc ecc s
  | .bankPageTimeout stack channel bank => Sys2Proof.Machine.execBankPageTimeout stack channel bank s
  | .stackRefresh stack channel bank => Sys2Proof.Machine.execStackRefresh stack channel bank s
  | .stackTempReading stack temp bad => Sys2Proof.Machine.execStackTempReading stack temp bad s
  | .patrolScrub stack ecc lane => Sys2Proof.Machine.execPatrolScrub stack ecc lane s
  | .memReleaseGo req => Sys2Proof.Machine.execMemReleaseGo req s
  | .memReleaseDone easel => Sys2Proof.Machine.execMemReleaseDone easel s
  | .tcMatmul core faults ecc => Sys2Proof.Machine.execTcMatmul core faults ecc s
  | .tcElemwise core faults ecc => Sys2Proof.Machine.execTcElemwise core faults ecc s
  | .tcRelease core => Sys2Proof.Machine.execTcRelease core s
  | .tcMark core => Sys2Proof.Machine.execTcMark core s
  | .tcPreload core ecc => Sys2Proof.Machine.execTcPreload core ecc s
  | .tcCompletion core id group cycles busy => Sys2Proof.Machine.execTcCompletion core id group cycles busy s
  | .scRun core => Sys2Proof.Machine.execScRun core s
  | .scRelease core => Sys2Proof.Machine.execScRelease core s
  | .scMark core => Sys2Proof.Machine.execScMark core s
  | .scLoadprog core ecc => Sys2Proof.Machine.execScLoadprog core ecc s
  | .scCompletion core pm parkedCyc => Sys2Proof.Machine.execScCompletion core pm parkedCyc s
  | .nop core => Sys2Proof.Machine.execNop core s
  | .vadd core => Sys2Proof.Machine.execVadd core s
  | .vsub core => Sys2Proof.Machine.execVsub core s
  | .vmac core => Sys2Proof.Machine.execVmac core s
  | .vcmac core => Sys2Proof.Machine.execVcmac core s
  | .tapC core => Sys2Proof.Machine.execTapC core s
  | .tapR core => Sys2Proof.Machine.execTapR core s
  | .vpack core => Sys2Proof.Machine.execVpack core s
  | .vshr core => Sys2Proof.Machine.execVshr core s
  | .vshl core => Sys2Proof.Machine.execVshl core s
  | .vmax core => Sys2Proof.Machine.execVmax core s
  | .vmin core => Sys2Proof.Machine.execVmin core s
  | .vconj core => Sys2Proof.Machine.execVconj core s
  | .vsel core => Sys2Proof.Machine.execVsel core s
  | .vclr core => Sys2Proof.Machine.execVclr core s
  | .vld core ecc => Sys2Proof.Machine.execVld core ecc s
  | .vst core => Sys2Proof.Machine.execVst core s
  | .ldf core ecc => Sys2Proof.Machine.execLdf core ecc s
  | .ld core ecc => Sys2Proof.Machine.execLd core ecc s
  | .st core => Sys2Proof.Machine.execSt core s
  | .vperm core => Sys2Proof.Machine.execVperm core s
  | .add core => Sys2Proof.Machine.execAdd core s
  | .sub core => Sys2Proof.Machine.execSub core s
  | .andS core => Sys2Proof.Machine.execAndS core s
  | .orS core => Sys2Proof.Machine.execOrS core s
  | .xorS core => Sys2Proof.Machine.execXorS core s
  | .shl core => Sys2Proof.Machine.execShl core s
  | .shr core => Sys2Proof.Machine.execShr core s
  | .cmp core => Sys2Proof.Machine.execCmp core s
  | .br core => Sys2Proof.Machine.execBr core s
  | .repeatLoop core => Sys2Proof.Machine.execRepeatLoop core s
  | .semtry core => Sys2Proof.Machine.execSemtry core s
  | .semsig core => Sys2Proof.Machine.execSemsig core s
  | .doneCmd core => Sys2Proof.Machine.execDoneCmd core s
  | .repeatCeiling core parkedCyc => Sys2Proof.Machine.execRepeatCeiling core parkedCyc s
  | .overrun core => Sys2Proof.Machine.execOverrun core s
  | .preemptSwitch core ecc => Sys2Proof.Machine.execPreemptSwitch core ecc s
  | .debugHalt core => Sys2Proof.Machine.execDebugHalt core s
  | .fapiParam qp cell => Sys2Proof.Machine.execFapiParam qp cell s
  | .fapiConfig qp cell prbs scs ports duplex body => Sys2Proof.Machine.execFapiConfig qp cell prbs scs ports duplex body s
  | .fapiStart qp cell => Sys2Proof.Machine.execFapiStart qp cell s
  | .fapiStop qp cell => Sys2Proof.Machine.execFapiStop qp cell s
  | .dlTtiRequest qp cell sfn slot pdus mib => Sys2Proof.Machine.execDlTtiRequest qp cell sfn slot pdus mib s
  | .ulTtiRequest qp cell sfn slot pdus => Sys2Proof.Machine.execUlTtiRequest qp cell sfn slot pdus s
  | .ulDciRequest qp cell sfn slot pdus => Sys2Proof.Machine.execUlDciRequest qp cell sfn slot pdus s
  | .txDataRequest qp cell sfn slot tbs => Sys2Proof.Machine.execTxDataRequest qp cell sfn slot tbs s
  | .slotIndication cell => Sys2Proof.Machine.execSlotIndication cell s
  | .requestDeadline cell n => Sys2Proof.Machine.execRequestDeadline cell n s
  | .slotPlan cell n kNow sNow items => Sys2Proof.Machine.execSlotPlan cell n kNow sNow items s
  | .ulWindowClose cell n sym => Sys2Proof.Machine.execUlWindowClose cell n sym s
  | .ldpcDecodeDone cell n handle cb soft fault => Sys2Proof.Machine.execLdpcDecodeDone cell n handle cb soft fault s
  | .resultDeadline cell n => Sys2Proof.Machine.execResultDeadline cell n s
  | .harqAgeExpiry cell rnti harq => Sys2Proof.Machine.execHarqAgeExpiry cell rnti harq s
  | .ldpcEncodeDone cell n item fault => Sys2Proof.Machine.execLdpcEncodeDone cell n item fault s
  | .fftDone cell n item fault => Sys2Proof.Machine.execFftDone cell n item fault s
  | .polarDecodeDone cell n item fault => Sys2Proof.Machine.execPolarDecodeDone cell n item fault s
  | .dlDataCheck cell n sym => Sys2Proof.Machine.execDlDataCheck cell n sym s
  | .radioShed cell n item now => Sys2Proof.Machine.execRadioShed cell n item now s
  | .cellSlotBoundary cell => Sys2Proof.Machine.execCellSlotBoundary cell s
  | .ssbHoldExpiry cell => Sys2Proof.Machine.execSsbHoldExpiry cell s
  | .channelArm req => Sys2Proof.Machine.execChannelArm req s
  | .channelResume req => Sys2Proof.Machine.execChannelResume req s
  | .channelSkip req => Sys2Proof.Machine.execChannelSkip req s
  | .channelAbort req => Sys2Proof.Machine.execChannelAbort req s
  | .semaphoreSet req value => Sys2Proof.Machine.execSemaphoreSet req value s
  | .descriptorFetchDone ch host fail => Sys2Proof.Machine.execDescriptorFetchDone ch host fail s
  | .threadTake ch thread => Sys2Proof.Machine.execThreadTake ch thread s
  | .strokeStart ch ecc => Sys2Proof.Machine.execStrokeStart ch ecc s
  | .dim ch => Sys2Proof.Machine.execDim ch s
  | .strokeRun ch => Sys2Proof.Machine.execStrokeRun ch s
  | .wrap ch => Sys2Proof.Machine.execWrap ch s
  | .gather ch => Sys2Proof.Machine.execGather ch s
  | .moveNest ch host idx hostFail ecc => Sys2Proof.Machine.execMoveNest ch host idx hostFail ecc s
  | .adv ch => Sys2Proof.Machine.execAdv ch s
  | .loopStroke ch => Sys2Proof.Machine.execLoopStroke ch s
  | .swait ch => Sys2Proof.Machine.execSwait ch s
  | .ssig ch => Sys2Proof.Machine.execSsig ch s
  | .fence ch => Sys2Proof.Machine.execFence ch s
  | .strokeArm ch => Sys2Proof.Machine.execStrokeArm ch s
  | .endStroke ch => Sys2Proof.Machine.execEndStroke ch s
  | .semaphoreSignalArrival sem => Sys2Proof.Machine.execSemaphoreSignalArrival sem s
  | .descriptorComplete ch => Sys2Proof.Machine.execDescriptorComplete ch s
  | .paletteReadResume ch => Sys2Proof.Machine.execPaletteReadResume ch s
  | .granuleWaitResume ch => Sys2Proof.Machine.execGranuleWaitResume ch s
  | .sqTailWrite req tail => Sys2Proof.Machine.execSqTailWrite req tail s
  | .easelEnable req => Sys2Proof.Machine.execEaselEnable req s
  | .submitTCore easel host => Sys2Proof.Machine.execSubmitTCore easel host s
  | .submitSCore easel host => Sys2Proof.Machine.execSubmitSCore easel host s
  | .submitChannelArm easel host => Sys2Proof.Machine.execSubmitChannelArm easel host s
  | .grant eng t ready pLive early => Sys2Proof.Machine.execGrant eng t ready pLive early s
  | .toNormal req key => Sys2Proof.Machine.execToNormal req key s
  | .toPartitioned req key => Sys2Proof.Machine.execToPartitioned req key s
  | .cqHeadWrite req head => Sys2Proof.Machine.execCqHeadWrite req head s
  | .parkedWaitDone ch => Sys2Proof.Machine.execParkedWaitDone ch s
  | .seqEnable req auto => Sys2Proof.Machine.execSeqEnable req auto s
  | .seqOpen easel host => Sys2Proof.Machine.execSeqOpen easel host s
  | .seqClose easel host => Sys2Proof.Machine.execSeqClose easel host s
  | .stepBuild easel host => Sys2Proof.Machine.execStepBuild easel host s
  | .buildRetry easel => Sys2Proof.Machine.execBuildRetry easel s
  | .sampleDraft easel host ecc => Sys2Proof.Machine.execSampleDraft easel host ecc s
  | .sampleFinal easel host ecc => Sys2Proof.Machine.execSampleFinal easel host ecc s
  | .draftPut easel host => Sys2Proof.Machine.execDraftPut easel host s
  | .seqSwapOut easel host => Sys2Proof.Machine.execSeqSwapOut easel host s
  | .seqSwapIn easel host => Sys2Proof.Machine.execSeqSwapIn easel host s
  | .swapCopyDone easel index host fail => Sys2Proof.Machine.execSwapCopyDone easel index host fail s
  | .varnish easel => Sys2Proof.Machine.execVarnish easel s
  | .seqLose req easel all index key => Sys2Proof.Machine.execSeqLose req easel all index key s
  | .seqPeek req index underpaint => Sys2Proof.Machine.execSeqPeek req index underpaint s
  | .seqDbgRead req easel underpaint ecc => Sys2Proof.Machine.execSeqDbgRead req easel underpaint ecc s
  | .outputRingHeadWrite req ring head => Sys2Proof.Machine.execOutputRingHeadWrite req ring head s
  | .embEnable req => Sys2Proof.Machine.execEmbEnable req s
  | .embGather easel host => Sys2Proof.Machine.execEmbGather easel host s
  | .embLaunch engine easel => Sys2Proof.Machine.execEmbLaunch engine easel s
  | .embRowArrival id row ecc => Sys2Proof.Machine.execEmbRowArrival id row ecc s
  | .embDeadline id => Sys2Proof.Machine.execEmbDeadline id s
  | .embComplete id cycles => Sys2Proof.Machine.execEmbComplete id cycles s
  | .yarozReq path frame => Sys2Proof.Machine.execYarozReq path frame s
  | .yzfLoad slot rank busy ecc => Sys2Proof.Machine.execYzfLoad slot rank busy ecc s
  | .yzfStore slot rank busy => Sys2Proof.Machine.execYzfStore slot rank busy s
  | .yzfAtomic slot rank busy ecc => Sys2Proof.Machine.execYzfAtomic slot rank busy ecc s
  | .yzfProbe slot rank => Sys2Proof.Machine.execYzfProbe slot rank s
  | .homeQueueServe pos ecc => Sys2Proof.Machine.execHomeQueueServe pos ecc s
  | .yarozResp path frame => Sys2Proof.Machine.execYarozResp path frame s
  | .yarozAck path frame => Sys2Proof.Machine.execYarozAck path frame s
  | .yarozNak path frame => Sys2Proof.Machine.execYarozNak path frame s
  | .yarozCredit path frame => Sys2Proof.Machine.execYarozCredit path frame s
  | .retransmitTimeout slot rank psn => Sys2Proof.Machine.execRetransmitTimeout slot rank psn s
  | .linkReplay link lack => Sys2Proof.Machine.execLinkReplay link lack s
  | .pathProbe slot rank path acked => Sys2Proof.Machine.execPathProbe slot rank path acked s
  | .yarozLinkDown link => Sys2Proof.Machine.execYarozLinkDown link s
  | .fenceTimeout ch => Sys2Proof.Machine.execFenceTimeout ch s
  | .deadTimerExpiry tag => Sys2Proof.Machine.execDeadTimerExpiry tag s
  | .retryAfterReissue tag => Sys2Proof.Machine.execRetryAfterReissue tag s
  | .genAheadReissue tag => Sys2Proof.Machine.execGenAheadReissue tag s
  | .epochReissue tag => Sys2Proof.Machine.execEpochReissue tag s
  | .mcastLoad req => Sys2Proof.Machine.execMcastLoad req s
  | .mcastPrune ch rank => Sys2Proof.Machine.execMcastPrune ch rank s
  | .tombstoneDrained slot => Sys2Proof.Machine.execTombstoneDrained slot s
  | .tombstoneExpired slot => Sys2Proof.Machine.execTombstoneExpired slot s
  | .ethFrameRx sub bytes fcs stamp fecCe fecUe => Sys2Proof.Machine.execEthFrameRx sub bytes fcs stamp fecCe fecUe s
  | .txRecordHead flow ecc => Sys2Proof.Machine.execTxRecordHead flow ecc s
  | .queuedFrameStart sub slot => Sys2Proof.Machine.execQueuedFrameStart sub slot s
  | .launchFrameStart sub => Sys2Proof.Machine.execLaunchFrameStart sub s
  | .launchFrameDrop sub => Sys2Proof.Machine.execLaunchFrameDrop sub s
  | .subportLinkDown sub => Sys2Proof.Machine.execSubportLinkDown sub s
  | .subportLinkUp sub => Sys2Proof.Machine.execSubportLinkUp sub s
  | .queueSample => Sys2Proof.Machine.execQueueSample s
  | .histogramClear req => Sys2Proof.Machine.execHistogramClear req s
  | .todSet req => Sys2Proof.Machine.execTodSet req s
  | .todSetPps req => Sys2Proof.Machine.execTodSetPps req s
  | .todStep => Sys2Proof.Machine.execTodStep s
  | .todSourceWrite req source txHold => Sys2Proof.Machine.execTodSourceWrite req source txHold s
  | .frameOffsetWrite req value => Sys2Proof.Machine.execFrameOffsetWrite req value s
  | .todLocked => Sys2Proof.Machine.execTodLocked s
  | .sourceLost => Sys2Proof.Machine.execSourceLost s
  | .holdoverLimit => Sys2Proof.Machine.execHoldoverLimit s
  | .ptpSyncRx sub frame stamp => Sys2Proof.Machine.execPtpSyncRx sub frame stamp s
  | .ptpFollowUpRx sub frame => Sys2Proof.Machine.execPtpFollowUpRx sub frame s
  | .ptpDelayReqRx sub frame stamp => Sys2Proof.Machine.execPtpDelayReqRx sub frame stamp s
  | .ptpDelayRespRx sub frame => Sys2Proof.Machine.execPtpDelayRespRx sub frame s
  | .ptpAnnounceRx sub frame => Sys2Proof.Machine.execPtpAnnounceRx sub frame s
  | .ptpSyncTx sub launch => Sys2Proof.Machine.execPtpSyncTx sub launch s
  | .ptpDelayReqTx sub launch => Sys2Proof.Machine.execPtpDelayReqTx sub launch s
  | .ptpAnnounceTx sub launch => Sys2Proof.Machine.execPtpAnnounceTx sub launch s
  | .esmcRx sub frame => Sys2Proof.Machine.execEsmcRx sub frame s
  | .esmcInfoTx sub launch event => Sys2Proof.Machine.execEsmcInfoTx sub launch event s
  | .ppsInEdge stamp => Sys2Proof.Machine.execPpsInEdge stamp s
  | .ppsOutRise => Sys2Proof.Machine.execPpsOutRise s
  | .ppsOutFall => Sys2Proof.Machine.execPpsOutFall s
  | .alarmFire k => Sys2Proof.Machine.execAlarmFire k s
  | .cxlLinkTraining rate width flit256 lopt => Sys2Proof.Machine.execCxlLinkTraining rate width flit256 lopt s
  | .vfEnable num => Sys2Proof.Machine.execVfEnable num s
  | .vfDisable => Sys2Proof.Machine.execVfDisable s
  | .vfFlr n => Sys2Proof.Machine.execVfFlr n s
  | .pfFlr => Sys2Proof.Machine.execPfFlr s
  | .atsInvalidation fn pages refused => Sys2Proof.Machine.execAtsInvalidation fn pages refused s
  | .fapiPoll qp line ring => Sys2Proof.Machine.execFapiPoll qp line ring s
  | .fqEnable req qp line => Sys2Proof.Machine.execFqEnable req qp line s
  | .cxlMemRequest easel off acc ecc => Sys2Proof.Machine.execCxlMemRequest easel off acc ecc s
  | .ideFailure stream => Sys2Proof.Machine.execIdeFailure stream s
  | .ideRequire req => Sys2Proof.Machine.execIdeRequire req s
  | .dlDown => Sys2Proof.Machine.execDlDown s
  | .msiModerationTimer easel vec => Sys2Proof.Machine.execMsiModerationTimer easel vec s
  | .freeze req key => Sys2Proof.Machine.execFreeze req key s
  | .freezeDrained easel => Sys2Proof.Machine.execFreezeDrained easel s
  | .freezeBoundExpiry easel => Sys2Proof.Machine.execFreezeBoundExpiry easel s
  | .thaw req key => Sys2Proof.Machine.execThaw req key s
  | .save req key => Sys2Proof.Machine.execSave req key s
  | .saveDone easel fail => Sys2Proof.Machine.execSaveDone easel fail s
  | .restore req key hdr => Sys2Proof.Machine.execRestore req key hdr s
  | .restoreDone easel image fail => Sys2Proof.Machine.execRestoreDone easel image fail s
  | .reset req key => Sys2Proof.Machine.execReset req key s
  | .easelResetRelease easel => Sys2Proof.Machine.execEaselResetRelease easel s
  | .clearingDone easel => Sys2Proof.Machine.execClearingDone easel s
  | .tcClockGate core => Sys2Proof.Machine.execTcClockGate core s
  | .tcPowerGate core => Sys2Proof.Machine.execTcPowerGate core s
  | .stackSelfRefreshEntry stack => Sys2Proof.Machine.execStackSelfRefreshEntry stack s
  | .laneSleep link => Sys2Proof.Machine.execLaneSleep link s
  | .powerWake res peer => Sys2Proof.Machine.execPowerWake res peer s
  | .wakeExitDone res => Sys2Proof.Machine.execWakeExitDone res s
  | .wakeBudgetWrite req us => Sys2Proof.Machine.execWakeBudgetWrite req us s
  | .dieSensorReading temps bad => Sys2Proof.Machine.execDieSensorReading temps bad s
  | .coolantReading inlet outlet => Sys2Proof.Machine.execCoolantReading inlet outlet s
  | .coolantSensorLoss outlet => Sys2Proof.Machine.execCoolantSensorLoss outlet s
  | .driveAdjust => Sys2Proof.Machine.execDriveAdjust s
  | .admissionEvaluate est prad => Sys2Proof.Machine.execAdmissionEvaluate est prad s
  | .escalationEnd => Sys2Proof.Machine.execEscalationEnd s
  | .pumpFailure rpm => Sys2Proof.Machine.execPumpFailure rpm s
  | .pumpFailClear req => Sys2Proof.Machine.execPumpFailClear req s
  | .holdupSample mv => Sys2Proof.Machine.execHoldupSample mv s
  | .pushStart req => Sys2Proof.Machine.execPushStart req s
  | .pushDone req => Sys2Proof.Machine.execPushDone req s
  | .pushAbort req => Sys2Proof.Machine.execPushAbort req s
  | .pushRequestTimeout => Sys2Proof.Machine.execPushRequestTimeout s
  | .svnCommit req key => Sys2Proof.Machine.execSvnCommit req key s
  | .updateGo req => Sys2Proof.Machine.execUpdateGo req s
  | .updateFetchDone image fail => Sys2Proof.Machine.execUpdateFetchDone image fail s
  | .updateProgramDone differs => Sys2Proof.Machine.execUpdateProgramDone differs s
  | .grantGo req => Sys2Proof.Machine.execGrantGo req s
  | .grantVerdict grant fail => Sys2Proof.Machine.execGrantVerdict grant fail s
  | .grantRevoke req => Sys2Proof.Machine.execGrantRevoke req s
  | .grantExpiry => Sys2Proof.Machine.execGrantExpiry s
  | .debugReset req value => Sys2Proof.Machine.execDebugReset req value s
  | .getVersion sess => Sys2Proof.Machine.execGetVersion sess s
  | .getCapabilities sess => Sys2Proof.Machine.execGetCapabilities sess s
  | .negotiateAlgorithms sess => Sys2Proof.Machine.execNegotiateAlgorithms sess s
  | .getDigests sess => Sys2Proof.Machine.execGetDigests sess s
  | .getCertificate sess slot offset len => Sys2Proof.Machine.execGetCertificate sess slot offset len s
  | .challenge sess slot => Sys2Proof.Machine.execChallenge sess slot s
  | .getMeasurements sess index signed => Sys2Proof.Machine.execGetMeasurements sess index signed s
  | .keyExchange slot => Sys2Proof.Machine.execKeyExchange slot s
  | .finish sess good => Sys2Proof.Machine.execFinish sess good s
  | .endSession sess => Sys2Proof.Machine.execEndSession sess s
  | .heartbeat sess => Sys2Proof.Machine.execHeartbeat sess s
  | .keyUpdate sess => Sys2Proof.Machine.execKeyUpdate sess s
  | .ideKm sess stream => Sys2Proof.Machine.execIdeKm sess stream s
  | .foldWindowEnd => Sys2Proof.Machine.execFoldWindowEnd s
  | .injectArm req => Sys2Proof.Machine.execInjectArm req s
  | .injectDisarm req => Sys2Proof.Machine.execInjectDisarm req s
  | .healthEvaluation => Sys2Proof.Machine.execHealthEvaluation s
  | .quarantineEnter req key => Sys2Proof.Machine.execQuarantineEnter req key s
  | .quarantineLeave req key => Sys2Proof.Machine.execQuarantineLeave req key s
  | .supplyResetRelease => Sys2Proof.Machine.execSupplyResetRelease s
  | .yarozLinkUp link lanes => Sys2Proof.Machine.execYarozLinkUp link lanes s
  | .synceDpllLock locked => Sys2Proof.Machine.execSynceDpllLock locked s
  | .holdoverTxLimit => Sys2Proof.Machine.execHoldoverTxLimit s
  | .configRequest fn => Sys2Proof.Machine.execConfigRequest fn s
  | .msixVectorUnmask fn vec => Sys2Proof.Machine.execMsixVectorUnmask fn vec s
  | .todNowFracRead req => Sys2Proof.Machine.execTodNowFracRead req s
  | .jtagInstruction => Sys2Proof.Machine.execJtagInstruction s

end Sys2Proof.Machine
end

