-- ==== Sys2Proof/Machine/Tick.lean ====
section
/-! DEFINITION. Machine/Tick.lean: what the block does while no command waits (notes/assumptions/5.md). -/
namespace Sys2Proof.Machine

open Sys2Proof

/-- One packet leaves on each Yaroz link. -/
def State.sendLinks (s : State) : State := if s.eth.yzq.isEmpty then s else forUpto 16 (fun l (t : State) => t.linkSend l) s

/-- One S-cycle passes: samples in progress end, one write leaves on the link to the host and one packet on each Yaroz link, resources that have work or whose budget has fallen start to wake, the time-of-day counter advances by TOD_INCR while the S domain runs, and HOLD_S follows it (11 R360; 15 R452, R453; 16 R463, R468; 19 R530). -/
def State.tick (s0 : State) : State :=
  let s := (if s0.flag 0 F.SEQ_STATUS_SAMPLER_BUSY then forUpto 64 (fun e t => t.sampled e) s0 else s0).hostSend.sendLinks.wakeDue
  if s.runs .s then ({ s with tod := (s.tod + s.fld64 0 F.TOD_INCR_LO_INCR F.TOD_INCR_HI_INCR) % 2 ^ 104 }).showHold else s

end Sys2Proof.Machine
end

