-- ==== Sys2Proof/Safety.lean ====
section
/-! DEFINITION. Safety.lean: what every run keeps, in the terms the statements use. -/
namespace Sys2Proof.Machine

open Sys2Proof

/-- What every step keeps: memory and the register file are in canonical form, so that equal contents are equal data; the sets of poisoned granules and of used
units list each key once, in order; the time-of-day counter is a 64-bit count of whole ns with 40 bits below (16 R463). -/
structure State.Inv (s : State) : Prop where
  mem : Memory.wf s.mem = true
  regs : SMap.wf regDefault s.regs = true
  poison : NSet.wf s.poison = true
  used : NSet.wf s.used = true
  tod : s.tod < 2 ^ 104

/-- What every operation of the model does to the whole state: it leaves the queue of commands alone, takes back nothing that has left the device, draws no free value a
second time, and keeps the invariant. -/
structure State.Follows (s t : State) : Prop where
  pending : t.pending = s.pending
  out : s.out <+: t.out
  free : s.free ≤ t.free
  inv : s.Inv → t.Inv

/-! ### Terms of the statements -/

/-- A register that a write changes by its access codes alone: no select register, no register with a row or a rule of its own, and none whose value the PTP ports follow. -/
def ordinaryReg (off : Nat) : Bool :=
  (selectAt off).isNone && !ownRow off && decide (off ≠ 0x240140) && decide (off < 0x390000 ∨ 0x3A0000 ≤ off) &&
    decide (off < 0x400400 ∨ 0x401400 ≤ off ∨ (off - 0x400400) % 64 ≠ 8) &&
    decide (off ≠ F.PTP_CFG_DOMAIN.off ∧ off ≠ F.PTP_SYNCE_CFG_MODE.off ∧ (off < 0x300100 ∨ 0x300180 ≤ off ∨ off % 32 ≠ 0)) &&
    !([F.EAS_CTRL_ENABLE.off, F.SEQ_EAS_CTRL_ENABLE.off, F.EMB_EAS_CTRL_ENABLE.off, F.FLT_EAS_CTRL_ENABLE.off].contains off)
/-- The registers whose bits a chip-reach reset sets itself: RST_CAUSE, RST_HELD, RST_DOMAIN, RST_LAST, and the first of bring-up, CLK_STATUS and RST_BRINGUP. -/
def resetShown (off : Nat) : Bool := [0x20010, 0x20014, 0x20018, 0x20034, 0x20000, 0x2002C].contains off

/-- What a chip-reach reset by a source leaves (03 R62, R68, R75, R77): the source's bit is added to RST_CAUSE and alone in RST_LAST; every other register keeps the bits that
survive a reset and has its reset value in the rest; nothing is left of memory, of queues and of work; what has left the device has left it. `latch` is what stays asserted. -/
structure State.ChipReset (s t : State) (src latch : Nat) : Prop where
  held : t.rst.chipSrc = latch
  cause : t.fld 0 F.RST_CAUSE_CAUSE = s.fld 0 F.RST_CAUSE_CAUSE ||| src
  last : t.fld 0 F.RST_LAST_SOURCES = src
  regs : ∀ u off, off < regSpan → resetShown off = false → t.reg u off = (s.reg u off &&& stickyMask off) ||| (regDefault (regKey u off) &&& ~~~stickyMask off)
  mem : t.mem = [] ∧ t.poison = [] ∧ t.used = []
  work : t.sched = State.reset.sched ∧ t.tc = [] ∧ t.sc = [] ∧ t.seq = [] ∧ t.str = State.reset.str ∧ t.emb = State.reset.emb ∧ t.yz = State.reset.yz ∧ t.fq = [] ∧ t.rad = []
  kept : t.out = s.out ∧ t.free = s.free ∧ t.pending = s.pending
/-- The registers that show an S-core's own work: SC_BUSY, SC_STATUS, SC_LIVE, SC_PC, SC_BUSYCYC and SC_EAS_QDEPTH (07 R231 to R233). -/
def scoreShown (off : Nat) : Bool := decide (0x140020 ≤ off ∧ off < 0x140038) || [0x140100, 0x140108, 0x14010C, 0x140114, 0x140118, 0x140204].contains off

/-- What the issue of a slot leaves, `x` being the context before, `y` with the instruction's own effect, and `s` the state with that effect on memory: the context at
the next slot, or past the packet when its last slot has issued or the command has ended; no other core, register or part of the block. -/
structure State.Issued (s t : State) (core : Nat) (x y : ScCtx) : Prop where
  ctx : t.score core = (s.score core).setCtx x.cmd.radio (some (if x.slot = 3 ∨ y.ended.isSome then y.endPacket else { y with slot := x.slot + 1 }))
  others : ∀ c, c ≠ core → t.score c = s.score c
  regs : ∀ u off, off < regSpan → scoreShown off = false → t.reg u off = s.reg u off
  mem : t.mem = s.mem ∧ t.poison = s.poison ∧ t.used = s.used
  work : t.sched = s.sched ∧ t.tc = s.tc ∧ t.seq = s.seq ∧ t.str = s.str ∧ t.emb = s.emb ∧ t.yz = s.yz ∧ t.fq = s.fq ∧ t.rad = s.rad ∧ t.out = s.out

/-- A context with one more write on its way from each lane below 32 that `en` enables: lane i's value lands at its key `lat` cycles after the packet (07 R198, R204). -/
def ScCtx.lanes (x : ScCtx) (lat : Nat) (en : Nat → Bool) (key val : Nat → Nat) : ScCtx :=
  { x with wr := x.wr ++ ((List.range 32).filter en).map (fun i => ⟨x.cyc + lat, key i, val i, 0, false⟩) }

end Sys2Proof.Machine
end

