-- ==== Sys2Proof/Certificates/Slice0/Obligations.lean ====
section
/-! DEFINITION. Certificates/Slice0/Obligations.lean: the statements for the provers, each about every state; its docstring names the rules it formalises. -/
open Sys2Proof Sys2Proof.Machine

/-- 00 R7, R9: where the link admits the access, a write of a select register takes an index in range, which reading the register back then shows, and changes no other selection; an index beyond the range
is discarded, and reading back shows the index in force. That the value written is compared whole, reserved bits with it, is this model's choice (log 127). -/
def Obligations.SelectRegistersHoldTheirRange : Prop :=
  ∀ (s : State) (req : Requester) (x : Selector) (v : BitVec 32), selWritable req x = true → s.barOpen req (selOff x) = true →
    (v.toNat < selRange x → ∃ t, exec (.selectRegisterWrite req x v) s = .next t ∧ t.selOf req x = v.toNat ∧
      (∀ r y, reqNum r ≠ reqNum req ∨ y ≠ x → t.selOf r y = s.selOf r y) ∧ t.regs = s.regs ∧ t.mem = s.mem ∧ t.out = s.out) ∧
    (selRange x ≤ v.toNat → exec (.selectRegisterWrite req x v) s = .next s) ∧
    (∀ off, selectAt off = some x → s.barOpen req off = true →
      exec (.lowRegisterRead req off 4) s = .next (s.emit (.readData req off (BitVec.ofNat 32 (s.selOf req x)))))

/-- 00 R3, R6, R7, R10: an aligned 32-bit write by PF0 or an Atelier core of a plain register, of a value its rule takes, changes that register of the selected unit by the
access codes of its bits and nothing else; a narrow or misaligned write is discarded; a misaligned read answers zero and touches nothing; through a VF a register outside its
scope reads zero and takes no write. -/
def Obligations.AccessesFollowTheAccessCodes : Prop :=
  ∀ (s : State) (req : Requester) (off : Nat) (v : BitVec 64), s.barOpen req off = true →
    (∀ r, ordinaryReg off = true → pairLow off = false → pairHigh off = false → req.manages = true → off % 4 = 0 → regRow? off = some r → writerOf off = .manages →
      s.valueOk off (s.unitAt req off) (BitVec.ofNat 32 v.toNat) = true →
      exec (.registerWrite req off 4 v) s =
        .next (s.setReg (s.unitAt req off) off (BitVec.ofNat 32 (r.write (s.reg (s.unitAt req off) off).toNat (v.toNat % 2 ^ 32))))) ∧
    (∀ size, size = 1 ∨ size = 2 ∨ size = 4 ∧ off % 4 ≠ 0 ∨ size = 8 ∧ off % 8 ≠ 0 → exec (.registerWrite req off size v) s = .next s) ∧
    (∀ size, size = 4 ∧ off % 4 ≠ 0 ∨ size = 8 ∧ off % 8 ≠ 0 → exec (.lowRegisterRead req off size) s = .next (s.emit (.readData req off 0))) ∧
    (selectAt off = none → s.sees req off (s.unitAt req off) = false → off % 4 = 0 →
      exec (.lowRegisterRead req off 4) s = .next (s.emit (.readData req off 0)) ∧ (off ≠ 0x240140 → exec (.registerWrite req off 4 v) s = .next s))

/-- 00 R5: for a 64-bit value in two adjacent registers, a low half written by a requester waits, and its write of the high half makes both take effect together; a read of
the low register snapshots the high one, and the next read of the high register by the same requester answers the snapshot whatever has happened to the register meanwhile. -/
def Obligations.PairHalvesTakeEffectTogether : Prop :=
  ∀ (s : State) (req : Requester) (off u : Nat), pairLow off = true → pairLow (off + 4) = false → off % 4 = 0 → ordinaryReg off = true → ordinaryReg (off + 4) = true →
    u = s.unitAt req off → windowOf (off + 4) = windowOf off → s.barOpen req off = true → s.sees req off u = true → s.sees req (off + 4) u = true →
    (s.barOpen req (off + 4) = true → ∀ (lo hi : BitVec 32) (r1 r2 : RegRow), pairWritable off = true → pairWritable (off + 4) = true →
      regRow? off = some r1 → regRow? (off + 4) = some r2 →
      let w1 := BitVec.ofNat 32 (r1.write (s.reg u off).toNat lo.toNat)
      s.mayWrite req off u = true → (s.setReg u off w1).mayWrite req (off + 4) u = true → s.valueOk off u lo = true → (s.setReg u off w1).valueOk (off + 4) u hi = true →
      ∃ t, exec (.registerWrite req off 4 (lo.setWidth 64)) s = .next t ∧ t.regs = s.regs ∧
        ∃ w, exec (.pairedHighWrite req (off + 4) hi) t = .next w ∧ w.reg u off = w1 ∧
          w.reg u (off + 4) = BitVec.ofNat 32 (r2.write (s.reg u (off + 4)).toNat hi.toNat) ∧ w.mem = s.mem ∧ w.out = s.out) ∧
    (off ≠ F.CXL_ATC_MISSES.off → off ≠ F.TRU_GRANT_LEFT_S.off → off + 4 ≠ F.CXL_ATC_MISSES.off → off + 4 ≠ F.TRU_GRANT_LEFT_S.off →
      off ≠ F.RAD_LDPC_UTIL_W.off → off + 4 ≠ F.RAD_LDPC_UTIL_W.off → (off < F.TOD_NOW_FRAC_FRAC.off - 4 ∨ F.TOD_NOW_NS_HI_NS.off < off) →
      ∃ t, exec (.lowRegisterRead req off 4) s = .next t ∧ t.out = s.out ++ [.readData req off (s.shownWord req u off)] ∧
        ∀ w : State, w.ctxOf req = t.ctxOf req → w.unitAt req (off + 4) = u → w.barOpen req (off + 4) = true → w.sees req (off + 4) u = true →
          ∃ x, exec (.lowRegisterRead req (off + 4) 4) w = .next x ∧ x.out = w.out ++ [.readData req (off + 4) (s.shownWord req u (off + 4))])

/-- 03 R62, R67, R68, R72 to R75, R77; 20 R567: with no other source of chip reach asserted and outside apply, each source of chip reach resets the whole chip: the pins and the
host's resets where RESET_REACH gives them chip reach, the watchdog, a debug reset under its grant and an accepted soft reset of the chip. -/
def Obligations.ChipReachSourcesRebuildTheChip : Prop :=
  ∀ s : State, s.Inv → s.rst.chipSrc = 0 → s.fld 0 F.CVS_STATE_STATE ≠ 1 →
    (s.fld 0 F.RST_HELD_HELD &&& srCard = 0 → ∃ t, exec .cardResetAssert s = .next t ∧ s.ChipReset t srCard srCard) ∧
    (s.perstChip = true → s.fld 0 F.RST_HELD_HELD &&& srPerst = 0 → ∃ t, exec .perstAssert s = .next t ∧ s.ChipReset t srPerst srPerst) ∧
    (s.hotChip = true → ∃ t, exec .cxlHotReset s = .next t ∧ s.ChipReset t srHot 0) ∧
    (s.hotChip = true → s.fld 0 F.RST_HELD_HELD &&& srHot = 0 → ∃ t, exec .linkDisable s = .next t ∧ s.ChipReset t srHot srHot) ∧
    (s.rst.wdog.isSome = true → s.flag 0 F.RST_BRINGUP_RECOVERY = false → ∃ t, exec .watchdogExpiry s = .next t ∧ s.ChipReset t srWdog 0) ∧
    (∀ req, req.manages = true → s.barOpen req F.TRU_DBG_RESET_KICK.off = true → s.power powDebugReset = true → s.qRuns = true → ∃ t, exec (.debugReset req 0xD8B6) s = .next t ∧ s.ChipReset t srDebug 0) ∧
    (∀ req force, req.manages = true → s.barOpen req F.RST_SOFT_REACH.off = true → s.qRuns = true → s.rst.soft = none → (s.cellCount = 0 ∨ force = true) →
      ∃ t, exec (.softResetChip req 0x5A 0 force) s = .next t ∧ s.ChipReset t srSoft 0)

/-- 03 R75 to R78, R61; 22 R600: when a source that holds the chip releases, RST_HELD drops its bit, and once the last source is gone bring-up starts at step 1 with the
reference present; memory and RST_CAUSE stay as they are. -/
def Obligations.ReleasedSourcesStartBringUp : Prop :=
  ∀ s : State, ∀ (c : Instr) (src : Nat),
    (c = .cardResetRelease ∧ src = srCard ∧ s.fld 0 F.RST_HELD_HELD &&& srCard ≠ 0 ∨
      c = .perstRelease ∧ src = srPerst ∧ s.fld 0 F.RST_HELD_HELD &&& srPerst ≠ 0 ∧ s.rst.chipSrc &&& srPerst ≠ 0 ∨
      c = .linkReenable ∧ src = srHot ∧ s.fld 0 F.RST_HELD_HELD &&& srHot ≠ 0 ∧ s.rst.chipSrc &&& srHot ≠ 0 ∨
      c = .referenceReturn ∧ src = srClock ∧ s.rst.refLost = true ∨
      c = .supplyResetRelease ∧ src = srPor ||| srSupply ∧ s.rst.chipSrc &&& (srPor ||| srSupply) ≠ 0) →
    ∃ t, exec c s = .next t ∧ t.rst.chipSrc = s.rst.chipSrc - (s.rst.chipSrc &&& src) ∧
      t.fld 0 F.RST_HELD_HELD = s.fld 0 F.RST_HELD_HELD - (s.fld 0 F.RST_HELD_HELD &&& src) ∧
      (s.rst.chipSrc ≠ 0 → t.rst.chipSrc = 0 → t.fld 0 F.RST_BRINGUP_STEP = 1 ∧ t.flag 0 F.CLK_STATUS_REF_OK = true) ∧
      (t.rst.chipSrc ≠ 0 → t.fld 0 F.RST_BRINGUP_STEP = s.fld 0 F.RST_BRINGUP_STEP) ∧
      t.fld 0 F.RST_CAUSE_CAUSE = s.fld 0 F.RST_CAUSE_CAUSE ∧ t.mem = s.mem ∧ t.out = s.out ∧ (c = .referenceReturn → t.rst.refLost = false)

/-- 03 R66, R77, R78; 17 R505: with default reach PERST_N, a hot reset and link disable set their bits, hold the tenants' easels and reset the CXL controller, and leave the rest
of the chip running; the release of the last of them lets the tenants go and, where nothing
else holds it, the CXL controller, and completes step 11 after step 10. -/
def Obligations.HostResetsOfDefaultReach : Prop :=
  ∀ (s : State) (src : Nat), s.rst.chipSrc = 0 →
    (let asserted := ((((s.orFld 0 F.RST_CAUSE_CAUSE src).orFld 0 F.RST_HELD_HELD src).showHeld).holdAll holdHost).cxlReset
     (src = srPerst → s.perstChip = false → s.fld 0 F.RST_HELD_HELD &&& srPerst = 0 → exec .perstAssert s = .next asserted) ∧
     (src = srHot → s.hotChip = false → s.fld 0 F.RST_HELD_HELD &&& srHot = 0 → exec .linkDisable s = .next asserted) ∧
     (src = srHot → s.hotChip = false → exec .cxlHotReset s = .next (asserted.hostRelease srHot))) ∧
    (let released := (s.clrFld 0 F.RST_HELD_HELD src).showHeld
     (s.fld 0 F.RST_HELD_HELD - (s.fld 0 F.RST_HELD_HELD &&& src)) &&& (srPerst ||| srHot) = 0 → s.fld 0 F.RST_HELD_HELD &&& src ≠ 0 →
     let u := released.unholdAll holdHost
     let t := if u.fld 0 F.RST_BRINGUP_STEP = 10 ∧ u.flag 0 F.RST_DOMAIN_CXL = false then u.setFld 0 F.RST_BRINGUP_STEP 11 else u
     (3 ≤ s.fld 0 F.RST_BRINGUP_STEP → s.rst.soft ≠ some (1, 0) → released.flag 0 F.RST_DOMAIN_CXL = false) ∧ released.flag 0 F.RST_DOMAIN_TENANTS = false ∧
     (src = srPerst → exec .perstRelease s = .next t) ∧ (src = srHot → exec .linkReenable s = .next t))

/-- 03 R72 to R74, R605, R69, R71: an accepted soft reset of an I/O die, a panel or a core sets bit 8 and the unit's own bit in RST_CAUSE and RST_HELD, reads IN_PROGRESS and
resets that unit; the held time's end brings the unit back; RESULT reads DONE once it accepts work. A refusal changes RST_SOFT_STATUS alone, in the order of R74. -/
def Obligations.SoftResetsOfUnits : Prop :=
  ∀ (s : State) (req : Requester) (key : BitVec 8) (target : BitVec 9) (force : Bool), req.manages = true → s.barOpen req F.RST_SOFT_REACH.off = true → s.qRuns = true → s.fld 0 F.CVS_STATE_STATE ≠ 1 →
    (key = 0x5A → s.rst.soft = none →
      (∀ reach b, b = softBits reach target.toNat →
        let marked := ((s.orFld 0 F.RST_CAUSE_CAUSE b).orFld 0 F.RST_HELD_HELD b).setFld 0 F.RST_SOFT_STATUS_RESULT 2
        let t : State := { marked with rst := { marked.rst with soft := some (reach, target.toNat), softOut := false } }
        (reach = 1 → target.toNat < 2 → (target.toNat = 0 → s.cellCount = 0 ∨ force = true) →
          exec (.softResetIoDie req key target force) s = .next ((t.orFld 0 F.RST_DOMAIN_IODIE (2 ^ target.toNat)).ioDieReset target.toNat).showHeld) ∧
        (reach = 2 → target.toNat < 3 → (s.cellCount = 0 ∨ force = true) →
          exec (.softResetPanel req key target force) s = .next ((t.orFld 0 F.RST_DOMAIN_PANEL (2 ^ target.toNat)).panelReset target.toNat)) ∧
        (reach = 3 → target.toNat < 48 → (s.cellCount = 0 ∨ force = true) → exec (.softResetCore req key target force) s = .next (t.tcCoreReset target.toNat)) ∧
        (reach = 3 → 256 ≤ target.toNat → target.toNat < 448 → (s.cellCount = 0 ∨ force = true ∨ s.cellOfCore (target.toNat - 256) = none) →
          exec (.softResetCore req key target force) s = .next (t.scCoreReset (target.toNat - 256))))) ∧
    (∀ reach r, s.softRefusal reach key.toNat target.toNat force = some r →
      (reach = 0 → exec (.softResetChip req key target force) s = .next (s.setFld 0 F.RST_SOFT_STATUS_RESULT r)) ∧
      (reach = 1 → exec (.softResetIoDie req key target force) s = .next (s.setFld 0 F.RST_SOFT_STATUS_RESULT r)) ∧
      (reach = 2 → exec (.softResetPanel req key target force) s = .next (s.setFld 0 F.RST_SOFT_STATUS_RESULT r)) ∧
      (reach = 3 → exec (.softResetCore req key target force) s = .next (s.setFld 0 F.RST_SOFT_STATUS_RESULT r)))

/-- 03 R605, R69; 04 R117: the end of the held time brings the unit back, where bring-up has reached its release; each stack of a panel retrains to READY or FAILED; RESULT reads DONE when the unit accepts work, which a
panel does once no stack of it is training or failed. -/
def Obligations.SoftResetEndsAndPanelsRetrain : Prop :=
  ∀ (s : State) (reach target : Nat), s.rst.soft = some (reach, target) →
    (s.rst.softOut = false →
      (∃ t, exec .softResetHoldEnd s = .next t ∧
        let freed := s.clrFld 0 F.RST_HELD_HELD (softBits reach target)
        let out : State := { freed with rst := { freed.rst with softOut := true } }
        (reach = 1 → t = if s.fld 0 F.RST_BRINGUP_STEP < 7 then out.showHeld else (out.clrFld 0 F.RST_DOMAIN_IODIE (2 ^ target)).showHeld.stepEleven) ∧
        (reach = 2 → t = if s.fld 0 F.RST_BRINGUP_STEP < 9 then out else (out.clrFld 0 F.RST_DOMAIN_PANEL (2 ^ target)).panelBack target) ∧
        (reach = 3 → t = if target < 256 then out.tcBack target else out.scBack (target - 256)))) ∧
    (s.rst.softOut = true → reach = 2 → target < 3 → ∀ trained : BitVec 6,
      ∃ t, exec (.panelRetrainDone trained) s = .next t ∧
        (trained = 0x3F → (∀ k ∈ panelStacks target, s.fld k F.MEM_STK_STATUS_STATE = 1) → ∀ k ∈ panelStacks target, t.fld k F.MEM_STK_STATUS_STATE = 3) ∧
        ((∀ k ∈ panelStacks target, s.fld k F.MEM_STK_STATUS_STATE ≠ 1) → t = s)) ∧
    (s.rst.softOut = true → (reach ≠ 2 ∨ s.panelTrained target = true) →
      ∃ t, exec .softResetDone s = .next t ∧ t.fld 0 F.RST_SOFT_STATUS_RESULT = 1 ∧ t.rst.soft = none ∧ t.mem = s.mem ∧ t.fld 0 F.RST_CAUSE_CAUSE = s.fld 0 F.RST_CAUSE_CAUSE)

/-- 03 R61, R86, R89; 21 R571: a clock loss records the clocks that failed and resets the chip, which stays in reset until the reference is back; a rail below its reset level, or
above nominal by 10%, sets its bit of PWR_SUP_TRIP and resets the chip. The monitors that saw a loss are among those recorded; injection can add others. -/
def Obligations.ClockAndSupplyLossResetTheChip : Prop :=
  ∀ s : State,
    (∀ (doms : BitVec 4) (ref root : Bool), let real := (if ref then 1 else 0) + (if root then 2 else 0) + 4 * doms.toNat
      real ≠ 0 → let r := s.samples 193 6 real
      let lost := (((r.2.setFld 0 F.CLK_LOSS_DOMAIN (r.1 / 4)).setFld 0 F.CLK_LOSS_REF r.1).setFld 0 F.CLK_LOSS_ROOT (r.1 / 2)).incSat 0 F.CLK_LOSS_COUNT 1
      (∀ i, real.testBit i = true → r.1.testBit i = true) ∧
      (ref = false → exec (.clockLoss doms ref root) s = .next (lost.chipReset srClock 0)) ∧
      (ref = true → ∃ t, exec (.clockLoss doms ref root) s = .next t ∧ t.rst.refLost = true ∧ t.flag 0 F.CLK_STATUS_REF_OK = false ∧
        t.rst.chipSrc = (lost.chipReset srClock srClock).rst.chipSrc ∧ t.rst.chipSrc &&& srClock ≠ 0)) ∧
    (∀ rails : BitVec 7, rails ≠ 0 → let r := s.samples 185 7 rails.toNat
      (∀ i, rails.toNat.testBit i = true → r.1.testBit i = true) ∧
      exec (.railResetLevel rails) s = .next ((r.2.orFld 0 F.PWR_SUP_TRIP_UNDER r.1).chipReset srSupply srSupply) ∧
      exec (.railOverVoltage rails) s = .next ((r.2.orFld 0 F.PWR_SUP_TRIP_OVER r.1).chipReset srSupply srSupply))

/-- 03 R87, R88, R92: rails below their warning level set their bits, count a near miss unless brace mode is on already, and enter brace mode; its end clears the state, records the
episode and lets admission go on; each measuring period refreshes the seven readings while the Q domain runs. -/
def Obligations.BraceModeEntersAndLeaves : Prop :=
  ∀ s : State,
    (∀ rails : BitVec 7, rails ≠ 0 → s.qRuns = true → let r := s.warnSamples rails.toNat
      ∃ t, exec (.braceEntry rails) s = .next t ∧ (∀ i, rails.toNat.testBit i = true → r.1.testBit i = true) ∧ t.brace = true ∧ t.flag 0 F.CLM_HOLDUP_CHG = true ∧
        t.fld 0 F.PWR_BRACE_CAUSE_RAIL = (r.2.fld 0 F.PWR_BRACE_CAUSE_RAIL ||| r.1) % 2 ^ 7 ∧ t.fld 0 F.PWR_SUP_STATUS_BELOW_WARN = r.1 % 2 ^ 7 ∧
        t.fld 0 F.PWR_NEARMISS_COUNT = (if s.brace then r.2.fld 0 F.PWR_NEARMISS_COUNT else min (r.2.fld 0 F.PWR_NEARMISS_COUNT + 1) (2 ^ F.PWR_NEARMISS_COUNT.width - 1)) ∧
        t.mem = r.2.mem ∧ t.out = r.2.out) ∧
    (∀ us, s.brace = true →
      exec (.braceExit us) s = .next (((s.setFlag 0 F.PWR_SUP_STATUS_BRACE false).setFld 0 F.PWR_SUP_STATUS_BELOW_WARN 0).setFld 0 F.PWR_BRACE_LAST_US us.toNat).admitBuilds) ∧
    (∀ mv, s.runs .q = true → ∃ t, exec (.supplyMeasPeriod mv) s = .next t ∧ (∀ r, r < 7 → t.fld 0 (F.PWR_SUP_MEAS_MV r) = (nth 0 mv r).toNat) ∧
      (∀ u off, off < regSpan → (∀ r, r < 7 → off ≠ (F.PWR_SUP_MEAS_MV r).off) → t.reg u off = s.reg u off) ∧ t.mem = s.mem ∧ t.out = s.out)

/-- 03 R68, R77; 20 R549: a power-on reset leaves the device as reset describes it, whatever it held and whatever holds it: every register but RST_HELD at its
reset value, so that RST_CAUSE holds bit 0 alone, the fuses as they were, and nothing of memory, queues and work; the power-on source stays asserted beside those that hold the chip. -/
def Obligations.PowerOnResetIsTheResetState : Prop :=
  ∀ s : State, s.Inv → ∃ t, exec .powerOnReset s = .next t ∧ t.rst.chipSrc = s.rst.chipSrc ||| srPor ∧ t.fld 0 F.RST_CAUSE_CAUSE = srPor ∧
      (∀ u off, off < regSpan → off ≠ F.RST_HELD_HELD.off → off ≠ F.RST_DOMAIN_CXL.off → off ≠ F.TRU_FUSE_LIFECYCLE.off → t.reg u off = regDefault (regKey u off)) ∧
      (∀ u, t.reg u F.TRU_FUSE_LIFECYCLE.off = s.reg u F.TRU_FUSE_LIFECYCLE.off) ∧
      { t with regs := [], rst := State.reset.rst, out := [], free := 0, pending := [] } = State.reset ∧ t.out = s.out ∧ t.pending = s.pending

/-- 03 R59, R60, R67, R78; 02 R27: the root PLL's lock completes step 2; the H and Q domains settle to step 3, which starts the watchdog; the K and S domains settle in phase 2 of apply, and
with both running phase 3 writes its sections and the stacks train; only an Atelier core's write of 0x6B1C restarts the watchdog. -/
def Obligations.BringUpStartsTheClocks : Prop :=
  ∀ s : State, s.rst.chipSrc = 0 →
    (s.fld 0 F.RST_BRINGUP_STEP = 1 → ∃ t, exec .rootPllLock s = .next t ∧ t.flag 0 F.CLK_STATUS_ROOT_LOCK = true ∧ t.fld 0 F.RST_BRINGUP_STEP = 2 ∧
      t.fld 0 F.CLK_STATUS_RUN = s.fld 0 F.CLK_STATUS_RUN ∧ t.mem = s.mem ∧ t.rst = s.rst) ∧
    (∀ d, s.runs d = false → d = .h ∨ d = .q → s.fld 0 F.RST_BRINGUP_STEP = 2 → ∃ t, exec (.domainSettle d) s = .next t ∧ t.runs d = true ∧
      (∀ e, e ≠ d → t.runs e = s.runs e) ∧
      ((∀ e, e = .h ∨ e = .q → e ≠ d → s.runs e = true) → t.fld 0 F.RST_BRINGUP_STEP = 3 ∧ t.rst.wdog = some s.nowNs) ∧
      ((∃ e, (e = .h ∨ e = .q) ∧ e ≠ d ∧ s.runs e = false) → t.fld 0 F.RST_BRINGUP_STEP = 2 ∧ t.rst = s.rst)) ∧
    (∀ d, s.runs d = false → d = .k ∨ d = .s → s.fld 0 F.CVS_STATE_STATE = 1 → s.fld 0 F.CVS_STATE_PHASE = 2 → ∃ t, exec (.domainSettle d) s = .next t ∧
      (∀ e, e = .k ∨ e = .s → e ≠ d → s.runs e = false → t = s.orFld 0 F.CLK_STATUS_RUN (2 ^ domBit d) ∧ t.runs d = true) ∧
      ((∀ e, e = .k ∨ e = .s → e ≠ d → s.runs e = true) → t = (s.orFld 0 F.CLK_STATUS_RUN (2 ^ domBit d)).phaseEarly ∧ t.fld 0 F.RST_BRINGUP_STEP = 7 ∧ t.fld 0 F.CVS_STATE_PHASE = 4 ∧ ∀ k, k < 18 → t.fld k F.MEM_STK_STATUS_STATE = 1)) ∧
    (∀ req (v : BitVec 32), s.barOpen req F.RST_WDOG_KICK_KICK.off = true → s.rst.wdog.isSome = true → ∃ t, exec (.watchdogKick req v) s = .next t ∧
      t = (if req.atelier = true ∧ v = 0x6B1C then { s with rst := { s.rst with wdog := some s.nowNs } } else s))

/-- 20 R552 to R554; 02 R27, R30, R32, R33; 03 R78, R79, R81; 04 R114, R115: in bring-up step 3 the ROM reads the flash, or waits for a push, and accepts an image that passes every check; apply
starts with phase 1; training that succeeds on every stack leaves them in INIT, and their fill zeroes memory and goes on to phase 5; one stack that fails refuses the canvas; easel 0 then
starts. -/
def Obligations.RomAndApplyBringTheCanvasIn : Prop :=
  ∀ s : State, s.rst.chipSrc = 0 →
    (∀ flash ident, s.fld 0 F.RST_BRINGUP_STEP = 3 → s.fld 0 F.TRU_BOOT_SOURCE = 0 → let s1 := s.deriveId ident
      (s1.flag 0 F.TRU_BOOT_CTRL_PUSH_NEXT = true → ∃ t, exec (.romBoot flash ident) s = .next t ∧ t.flag 0 F.TRU_BOOT_CTRL_PUSH_NEXT = false ∧
        t.fld 0 F.TRU_BOOT_SOURCE = 2 ∧ t.flag 0 F.RST_BRINGUP_RECOVERY = true ∧ t.fld 0 F.TRU_MBX_STATUS_STATE = 1) ∧
      (s1.flag 0 F.TRU_BOOT_CTRL_PUSH_NEXT = false → (s1.fld 0 F.RST_LAST_SOURCES).testBit 9 = true → 2 ≤ s1.fld 0 F.CVS_FLASH_TRIES_TRIES →
        ∃ t, exec (.romBoot flash ident) s = .next t ∧ t.fld 0 F.TRU_BOOT_SOURCE = 2 ∧ t.flag 0 F.RST_BRINGUP_RECOVERY = true ∧ t.fld 0 F.TRU_MBX_STATUS_STATE = 1) ∧
      (s1.flag 0 F.TRU_BOOT_CTRL_PUSH_NEXT = false → ((s1.fld 0 F.RST_LAST_SOURCES).testBit 9 = true → s1.fld 0 F.CVS_FLASH_TRIES_TRIES < 2) →
        let s2 := (if (s1.fld 0 F.RST_LAST_SOURCES).testBit 9 then s1.incSat 0 F.CVS_FLASH_TRIES_TRIES 1 else s1).setSource 1
        ∃ t, exec (.romBoot flash ident) s = .next t ∧ t.fld 0 F.TRU_BOOT_SOURCE = 1 ∧
          (∀ b, flash = some b → s2.imgFault b = none → t = s2.romAccept b ∧ t.boot.image = b ∧ t.boot.stage = .checked ∧ t.fld 0 F.TRU_BOOT_RESULT = 1 ∧ t.fld 0 F.RST_BRINGUP_STEP = 4) ∧
          (∀ b c, flash = some b → s2.imgFault b = some c → c < 32 → t.fld 0 F.TRU_BOOT_RESULT = c ∧ t.flag 0 F.RST_BRINGUP_RECOVERY = true ∧ t.fld 0 F.TRU_MBX_STATUS_STATE = 1) ∧
          (flash = none → t.fld 0 F.TRU_BOOT_RESULT = 0x10 ∧ t.flag 0 F.RST_BRINGUP_RECOVERY = true ∧ t.fld 0 F.TRU_MBX_STATUS_STATE = 1))) ∧
    (∀ lost, s.boot.stage = .checked → let s1 := (s.setFld 0 F.CVS_STATE_STATE 1).setFld 0 F.CVS_STATE_PHASE 1
      (s.fld 0 F.CVS_STATE_SOURCE ≠ 2 → lost = false → imgCanvasAt s.boot.image + imgCanvasLen s.boot.image ≤ s.boot.image.len →
        exec (.applyBegin lost) s = .next ({ s1 with boot := { s1.boot with stage := .ready } }.phaseCheck)) ∧
      (s.fld 0 F.CVS_STATE_SOURCE ≠ 2 → lost = true → exec (.applyBegin lost) s = .next (s1.applyRefuse cfSourceLost 0)) ∧
      (s.fld 0 F.CVS_STATE_SOURCE = 2 → s1.headerRefusal s1.canvas = none →
        exec (.applyBegin lost) s = .next (s1.mbxStage .table (s1.cvChunks [(0x100, 48 * cvCount s1.canvas)])))) ∧
    (∀ spares lost, s.fld 0 F.CVS_STATE_STATE = 1 → s.fld 0 F.CVS_STATE_PHASE = 4 →
      let up := fun (m : Nat) => forUpto 18 (fun k (t : State) => t.stackTrained k (m.testBit k) (nth 0 spares k)) s
      let full := (forUpto 18 (fun k (t : State) => t.stackFilled k) { up (2 ^ 18 - 1) with mem := [], poison := [], used := [] }).setFld 0 F.CVS_STATE_PHASE 5
      ((∀ k, k < 18 → s.fld k F.MEM_STK_STATUS_STATE = 1) →
        exec (.stackTrainingDone (BitVec.allOnes 18) spares false lost) s = .next (up (2 ^ 18 - 1)) ∧ (∀ k, k < 18 → (up (2 ^ 18 - 1)).fld k F.MEM_STK_STATUS_STATE = 2)) ∧
      ((∀ k, k < 18 → s.fld k F.MEM_STK_STATUS_STATE = 1 ∨ s.fld k F.MEM_STK_STATUS_STATE = 2) → s.boot.stage ≠ .late → lost = false → exec (.stackTrainingDone (BitVec.allOnes 18) spares true lost) s = .next full.phaseLate) ∧
      ((∀ k, k < 18 → s.fld k F.MEM_STK_STATUS_STATE = 1 ∨ s.fld k F.MEM_STK_STATUS_STATE = 2) → s.boot.stage = .late → exec (.stackTrainingDone (BitVec.allOnes 18) spares true lost) s = .next (full.mbxStage .late (full.wantPhase false))) ∧
      full.mem = [] ∧ full.poison = [] ∧ full.used = [] ∧
      (∀ (trained : BitVec 18) filled, (∀ k, k < 18 → s.fld k F.MEM_STK_STATUS_STATE = 1) → trained ≠ BitVec.allOnes 18 → exec (.stackTrainingDone trained spares filled lost) s = .next ((up trained.toNat).applyRefuse cfTraining 0))) ∧
    (∀ us : BitVec 32, s.fld 0 F.CVS_STATE_STATE = 2 → s.fld 0 F.RST_BRINGUP_STEP = 9 →
      ∃ u : State, exec (.easel0Start us) s = .next (forEach u.stickyDets (fun d (t : State) => t.postFatal d.1 d.2.1 d.2.2) u) ∧ u.flag 0 F.RST_BRINGUP_RADIO_READY = true ∧
        u.fld 0 F.RST_READY_TIME_US = us.toNat ∧ u.life 0 = lifeReady ∧ u.fld 0 F.RST_BRINGUP_STEP = if u.flag 0 F.RST_DOMAIN_CXL then 10 else 11)

/-- 02 R42: a GO written while CVS_RT_STATUS shows CHECKING is discarded and counted in DISCARDS; nothing else changes. -/
def Obligations.RetouchGoWhileCheckingIsDiscarded : Prop :=
  ∀ (s : State) (req : Requester), req.manages = true → s.barOpen req F.CVS_RT_CTRL_GO.off = true → s.fld 0 F.CVS_RT_STATUS_CODE = 1 →
    exec (.retouchGo req) s = .next (s.incSat 0 F.CVS_RT_STATUS_DISCARDS 1) ∧
    ∃ t, exec (.retouchGo req) s = .next t ∧ t.fld 0 F.CVS_RT_STATUS_CODE = 1 ∧
      t.fld 0 F.CVS_RT_STATUS_DISCARDS = min (s.fld 0 F.CVS_RT_STATUS_DISCARDS + 1) (2 ^ F.CVS_RT_STATUS_DISCARDS.width - 1)

/-- 02 R41 to R44, R54; 17 R501: GO takes CODE to CHECKING, and fires the vector when CODE leaves PENDING; the check reads the host's records and either accepts or refuses with the code of R44;
CANCEL drops what a pending FLOWS or SHAPER_PARAM retouch still had to do. -/
def Obligations.RetouchesAreSubmittedCheckedAndCancelled : Prop :=
  ∀ (s : State),
    (∀ req, req.manages = true → s.barOpen req F.CVS_RT_CTRL_GO.off = true → s.fld 0 F.CVS_RT_STATUS_CODE ≠ 1 → ∃ t, exec (.retouchGo req) s = .next t ∧ t.fld 0 F.CVS_RT_STATUS_CODE = 1 ∧ t.fld 0 F.CVS_RT_STATUS_RECORD = 0 ∧
      t.mem = s.mem ∧ t.fld 0 F.CVS_RT_SEQ_SEQ = s.fld 0 F.CVS_RT_SEQ_SEQ ∧
      (s.fld 0 F.CVS_RT_STATUS_CODE ≠ 2 → t.cxl = s.cxl) ∧ (s.fld 0 F.CVS_RT_STATUS_CODE = 2 → NSet.has (vecKey 0 2) s.cxl.msixOpen = true → t.hostQueue 0 = s.hostQueue 0 ++ [.msix 0 2])) ∧
    (∀ data fail, s.fld 0 F.CVS_RT_STATUS_CODE = 1 → let n := s.fld 0 F.CVS_RT_LEN_LEN
      let addr := s.fld64 0 F.CVS_RT_ADDR_LO_ADDR F.CVS_RT_ADDR_HI_ADDR
      (s.fld 0 F.CVS_STATE_STATE ≠ 2 → exec (.retouchCheck data fail) s = .next (s.rtRefuse 0x10 0)) ∧
      (s.fld 0 F.CVS_STATE_STATE = 2 →
        (n < 160 ∨ 0x100000 < n → exec (.retouchCheck data fail) s = .next (s.rtRefuse rtFormat 0)) ∧
        (160 ≤ n → n ≤ 0x100000 →
          (s.hostUp = false ∨ fail = true → exec (.retouchCheck data fail) s = .next (s.rtRefuse rtFetch 0)) ∧
          (s.hostUp = true → fail = false → s.translates 0 addr = false → exec (.retouchCheck data fail) s = .next ((s.refuseXlate 0 ukNone 0).rtRefuse rtFetch 0)) ∧
          (s.hostUp = true → fail = false → s.translates 0 addr = true → let s1 := s.countUnits 0 F.CXL_EAS_HOST_RD_UNITS 65536 n
            (∀ k, rtRecords data n = .error k → exec (.retouchCheck data fail) s = .next (s1.rtRefuse rtFormat k)) ∧
            (∀ rs, rtRecords data n = .ok rs → exec (.retouchCheck data fail) s = .next (s1.rtVerdict data n rs)))))) ∧
    (∀ req, req.manages = true → s.barOpen req F.CVS_RT_CTRL_GO.off = true →
      ((s.fld 0 F.CVS_RT_PENDING_TYPES).testBit 1 = true → ∃ t, exec (.retouchCancel req 2) s = .next t ∧ t.cvs.pendFlows = [] ∧ (t.fld 0 F.CVS_RT_PENDING_TYPES).testBit 1 = false ∧
        t.cvs.pendParam = s.cvs.pendParam ∧ t.mem = s.mem) ∧
      ((s.fld 0 F.CVS_RT_PENDING_TYPES).testBit 2 = true → ∃ t, exec (.retouchCancel req 4) s = .next t ∧ t.cvs.pendParam = [] ∧ (t.fld 0 F.CVS_RT_PENDING_TYPES).testBit 2 = false ∧
        t.cvs.pendFlows = s.cvs.pendFlows ∧ t.mem = s.mem))

/-- 20 R556, R557; 03 R82: a push starts with a request for the image's first 256 bytes; each PUSH_DONE takes the window's bytes to their place in the image and lets the ROM, or apply, go on;
an abort or an unanswered request ends the push, which the ROM waits to see anew and which apply answers with SOURCE_LOST. -/
def Obligations.HostPushFillsTheMailbox : Prop :=
  ∀ (s : State) (req : Requester), req.manages = true → s.barOpen req F.TRU_MBX_CTRL_START.off = true →
    (s.fld 0 F.TRU_MBX_STATUS_STATE = 1 → ∃ t, exec (.pushStart req) s = .next t ∧ t.boot.image = ⟨0, []⟩ ∧ t.boot.stage = .header ∧ t.boot.want = [(0, 256)] ∧
      t.fld 0 F.TRU_BOOT_SOURCE = 2 ∧ t.fld 0 F.TRU_MBX_STATUS_STATE = 2 ∧ t.fld 0 F.TRU_MBX_REQ_OFS_OFS = 0 ∧ t.fld 0 F.TRU_MBX_REQ_LEN_LEN = 256 ∧ t.mem = s.mem ∧ t.out = s.out) ∧
    (s.fld 0 F.TRU_MBX_STATUS_STATE ≠ 1 → exec (.pushStart req) s = .next s) ∧
    (s.fld 0 F.TRU_MBX_STATUS_STATE = 2 → let taken := s.mbxTake
      taken.boot.image = blobPut ⟨max s.boot.image.len (s.fld 0 F.TRU_MBX_REQ_OFS_OFS + s.fld 0 F.TRU_MBX_REQ_LEN_LEN), s.boot.image.bytes⟩ (s.fld 0 F.TRU_MBX_REQ_OFS_OFS)
        (s.mbxWindow (s.fld 0 F.TRU_MBX_REQ_LEN_LEN)) ∧
      taken.boot.want = s.boot.want.drop 1 ∧ taken.fld 0 F.TRU_MBX_STATUS_STATE = 3 ∧
      (s.pushInRom = true → exec (.pushDone req) s = .next taken.romArrived) ∧ (s.pushInRom = false → exec (.pushDone req) s = .next taken.applyArrived)) ∧
    (s.pushInRom = true → ∃ t, exec (.pushAbort req) s = .next t ∧ t.fld 0 F.TRU_MBX_STATUS_STATE = 1 ∧ t.boot.image = ⟨0, []⟩ ∧ t.boot.stage = .idle ∧ t.mem = s.mem ∧
      (s.fld 0 F.TRU_MBX_STATUS_STATE = 2 → exec .pushRequestTimeout s = .next t)) ∧
    (s.pushInApply = true → exec (.pushAbort req) s = .next (s.applyRefuse 0x10 0) ∧
      (s.fld 0 F.TRU_MBX_STATUS_STATE = 2 → exec .pushRequestTimeout s = .next (s.applyRefuse 0x10 0)))

/-- 20 R560 to R562: SVN_COMMIT raises SVN_MIN to the running image's SVN; GO starts a fetch, whose image is checked like one at boot; programming leaves the card's flash with the image and
reports DONE, or VERIFY where the read-back differs. -/
def Obligations.RollbackAndFlashUpdate : Prop :=
  ∀ s : State,
    (∀ req, req.manages = true → s.barOpen req F.TRU_BOOT_CTRL_PUSH_NEXT.off = true → s.fld 0 F.TRU_FUSE_SVN_MIN < s.fld 0 F.TRU_SVN_SVN → s.fld 0 F.TRU_BOOT_SOURCE = 1 → s.fld 0 F.TRU_BOOT_RESULT = 1 →
      ∃ t, exec (.svnCommit req 0x3C) s = .next t ∧ t.fld 0 F.TRU_FUSE_SVN_MIN = min (s.fld 0 F.TRU_SVN_SVN) 63 ∧ t.fld 0 F.TRU_SVN_SVN = s.fld 0 F.TRU_SVN_SVN ∧ t.mem = s.mem) ∧
    (∀ req key, s.fld 0 F.TRU_SVN_SVN ≤ s.fld 0 F.TRU_FUSE_SVN_MIN ∨ key ≠ 0x3C → exec (.svnCommit req key) s = .next s) ∧
    (∀ req, req.manages = true → s.barOpen req F.TRU_UPD_CTRL_GO.off = true → s.fld 0 F.CVS_STATE_STATE = 2 → (s.fld 0 F.TRU_UPD_STATUS_CODE = 0 ∨ 3 < s.fld 0 F.TRU_UPD_STATUS_CODE) →
      ∃ t, exec (.updateGo req) s = .next t ∧ t.fld 0 F.TRU_UPD_STATUS_CODE = 1 ∧ t.fld 0 F.TRU_UPD_STATUS_PERCENT = 0 ∧ t.mem = s.mem) ∧
    (∀ image fail, s.fld 0 F.TRU_UPD_STATUS_CODE = 1 → let n := s.fld 0 F.TRU_UPD_LEN_BYTES
      (fail = true ∨ s.hostUp = false → exec (.updateFetchDone image fail) s = .next (s.setFld 0 F.TRU_UPD_STATUS_CODE 0x18)) ∧
      (fail = false → s.hostUp = true → s.translates 0 (s.fld64 0 F.TRU_UPD_ADDR_LO_ADDR F.TRU_UPD_ADDR_HI_ADDR) = true → n ≤ 0x7F00000 →
        let s1 := s.countUnits 0 F.CXL_EAS_HOST_RD_UNITS 65536 n
        (∀ c, s1.updateFault (subBlob image 0 n) = some c → exec (.updateFetchDone image fail) s = .next (s1.setFld 0 F.TRU_UPD_STATUS_CODE c)) ∧
        (s1.updateFault (subBlob image 0 n) = none →
          exec (.updateFetchDone image fail) s = .next { s1.setFld 0 F.TRU_UPD_STATUS_CODE 3 with tru := { s1.tru with upd := subBlob image 0 n } }))) ∧
    (∀ differs, s.fld 0 F.TRU_UPD_STATUS_CODE = 3 → ∃ t, exec (.updateProgramDone differs) s = .next t ∧ t.out = s.out ++ [.flash s.tru.upd] ∧
      t.fld 0 F.TRU_UPD_STATUS_CODE = (if differs then 0x19 else 4) ∧ t.fld 0 F.TRU_UPD_STATUS_PERCENT = 100 ∧ t.mem = s.mem)

/-- 20 R565 to R568: a grant is fetched and checked after GO; an accepted one is in force with its powers and its time, and replaces another; revoking it, or its end, takes the powers, the armed
injection points and the debug settings away. A JTAG instruction changes nothing that the specification gives the device. -/
def Obligations.DebugGrantsGiveAndTakePowers : Prop :=
  ∀ s : State,
    (∀ req, req.manages = true → s.barOpen req F.TRU_GRANT_CTRL_GO.off = true → s.fld 0 F.CVS_STATE_STATE = 2 → exec (.grantGo req) s = .next (s.setFld 0 F.TRU_GRANT_STATUS_CODE 1)) ∧
    (∀ grant fail, s.fld 0 F.TRU_GRANT_STATUS_CODE = 1 →
      (fail = true ∨ s.hostUp = false → exec (.grantVerdict grant fail) s = .next (s.setFld 0 F.TRU_GRANT_STATUS_CODE 0x15)) ∧
      (fail = false → s.hostUp = true → s.translates 0 (s.fld64 0 F.TRU_GRANT_ADDR_LO_ADDR F.TRU_GRANT_ADDR_HI_ADDR) = true →
        let s1 := s.countUnits 0 F.CXL_EAS_HOST_RD_UNITS 65536 256
        (∀ c, s1.grantFault grant = some c → exec (.grantVerdict grant fail) s = .next (s1.setFld 0 F.TRU_GRANT_STATUS_CODE c)) ∧
        (s1.grantFault grant = none → ∃ t, exec (.grantVerdict grant fail) s = .next t ∧ t.fld 0 F.TRU_GRANT_STATUS_CODE = 2 ∧ t.tru.caps = grant.le 0x30 4 ∧
          t.fld 0 F.TRU_GRANT_LEFT_S = grant.le 0x34 4 % 2 ^ F.TRU_GRANT_LEFT_S.width ∧
          (s.granted = false → t.tru.chain = sm3 (s.tru.chain ++ sm3 (blobSlice grant 0 256)) ∧ t.mem = s.mem)))) ∧
    (∀ req, req.manages = true → s.barOpen req F.TRU_GRANT_CTRL_GO.off = true → s.granted = true → let t0 : State := { s.dropPowers with tru := { s.tru with caps := 0 } }
      ∃ t, (t = if t0.fld 0 F.TRU_GRANT_STATUS_CODE = 1 then t0 else t0.setFld 0 F.TRU_GRANT_STATUS_CODE 3) ∧ t.tru.caps = 0 ∧ t.granted = false ∧
        exec (.grantRevoke req) s = .next t ∧ exec .grantExpiry s = .next t) ∧
    (s.granted = false → exec .grantExpiry s = .next s) ∧ exec .jtagInstruction s = .next s

/-- 20 R563, R564: with the canvas sealed and the CXL controller out of reset every SPDM request is answered: version, capabilities and algorithms; digests, certificate and challenge from the
identity record; the measurements by index; outside a session or in one that is complete. Before sealing the answer is Busy and counted. -/
def Obligations.SpdmAnswersFromTheIdentity : Prop :=
  ∀ (s : State) (sess : Option (Fin 4)), s.cxlRuns = true →
    (s.fld 0 F.CVS_STATE_STATE = 2 → (∀ k, sess = some k → s.inSess k = true) →
      exec (.getVersion sess) s = .next (s.emit (.spdm .version)) ∧
      exec (.getCapabilities sess) s = .next (s.emit (.spdm .capabilities)) ∧
      exec (.negotiateAlgorithms sess) s = .next (s.emit (.spdm .algorithms)) ∧
      (s.boot.chain ≠ [] → exec (.getDigests sess) s = .next (s.emit (.spdm (.digests (sm3 (Config.spdmChain s.boot.chain)))))) ∧
      (∀ offset len, s.boot.chain ≠ [] → let c := Config.spdmChain s.boot.chain
        exec (.getCertificate sess 0 offset len) s = .next (if offset < c.length then s.emit (.spdm (.certificate ((c.drop offset).take len) (c.length - (offset + len))))
          else (s.incSat 0 F.TRU_SPDM_ERRORS 1).emit (.spdm .refused))) ∧
      (s.fld 0 F.TRU_ID_STATE = 1 → exec (.challenge sess 0) s = .next (s.emit (.spdm .challengeAuth))) ∧
      (∀ index signed, signed = false ∨ s.fld 0 F.TRU_ID_STATE = 1 →
        (index = 0 → exec (.getMeasurements sess index signed) s = .next (s.emit (.spdm (.count 10)))) ∧
        (1 ≤ index → index ≤ 10 → exec (.getMeasurements sess index signed) s = .next (s.emit (.spdm (.measurements [(index, nth [] s.measurements (index - 1))] signed)))) ∧
        (index = 0xFF → exec (.getMeasurements sess index signed) s =
          .next (s.emit (.spdm (.measurements ((List.range 10).map (fun i => (i + 1, nth [] s.measurements i))) signed)))))) ∧
    (s.fld 0 F.CVS_STATE_STATE ≠ 2 → exec (.getVersion sess) s = .next ((s.incSat 0 F.TRU_SPDM_ERRORS 1).emit (.spdm .busy)))

/-- 20 R563, R570; 17 R503, R504: KEY_EXCHANGE opens one of four sessions, FINISH completes it, END_SESSION ends it; HEARTBEAT and KEY_UPDATE are answered in it; IDE_KM keys a stream and, for
stream 0, lets CXL.cache and CXL.mem go on. SESSIONS shows the sessions that are complete. -/
def Obligations.SpdmSessionsOpenAndClose : Prop :=
  ∀ s : State, s.cxlRuns = true → s.fld 0 F.CVS_STATE_STATE = 2 →
    (∀ k, s.fld 0 F.TRU_ID_STATE = 1 → (List.range 4).find? (fun k => !s.tru.sess.any (fun p => decide (p.1 = k))) = some k →
      ∃ t, exec (.keyExchange 0) s = .next t ∧ t.tru.sess = s.tru.sess ++ [(k, false)] ∧ t.out = s.out ++ [.spdm (.keyExchange k)] ∧ t.mem = s.mem) ∧
    (∀ sess : Fin 4, s.tru.sess.contains (sess.val, false) = true →
      (∃ t, exec (.finish sess true) s = .next t ∧ t.tru.sess = s.tru.sess.map (fun p => if p.1 = sess.val then (p.1, true) else p) ∧ t.out = s.out ++ [.spdm .finish] ∧
        t.fld 0 F.TRU_SPDM_SESSIONS = (t.tru.sess.filter (fun p => p.2)).length % 2 ^ F.TRU_SPDM_SESSIONS.width) ∧
      (∃ t, exec (.finish sess false) s = .next t ∧ t.tru.sess = s.tru.sess.filter (fun p => decide (p.1 ≠ sess.val)) ∧ t.out = s.out ++ [.spdm .refused])) ∧
    (∀ sess : Fin 4, s.inSess sess = true →
      (∃ t, exec (.endSession sess) s = .next t ∧ t.tru.sess = s.tru.sess.filter (fun p => decide (p.1 ≠ sess.val)) ∧ t.out = s.out ++ [.spdm .endSession] ∧ t.inSess sess = false) ∧
      exec (.heartbeat sess) s = .next (s.emit (.spdm .heartbeat)) ∧ exec (.keyUpdate sess) s = .next (s.emit (.spdm .keyUpdate)) ∧
      (∀ stream : Fin 4, stream ≠ 0 → exec (.ideKm sess stream) s = .next ((s.setIde stream true).emit (.spdm .ideKm))) ∧
      exec (.ideKm sess 0) s = .next ((State.hostBack { s.setIde 0 true with cxl := { (s.setIde 0 true).cxl with stopped := false } }).emit (.spdm .ideKm)))

/-- 19 R526 to R531: an idle unit enters a power state whose exit time every easel that may need it tolerates: a T-core is clock gated and then power gated, which forgets its warm weight sets; a
stack refreshes itself with its pages closed; a DIRECT link sleeps. A wake starts the exit, whose end brings the unit back and is counted; a lower budget wakes every unit that it governs. -/
def Obligations.PowerStatesAreEnteredAndLeft : Prop :=
  ∀ s : State,
    (∀ core : Fin 48, s.tcIdle core = true →
      (s.qRuns = true → s.tcHeld core = false → s.tcPower core = 0 → exitGate ≤ s.leastBudget (s.tcEasels core) → exec (.tcClockGate core) s = .next (s.setTcPower core 1)) ∧
      (s.tcPower core = 1 → exitPower ≤ s.leastBudget (s.tcEasels core) → NSet.has core s.pow.waking = false →
        exec (.tcPowerGate core) s = .next ((s.setTcore core 0 { s.tcore core with warm := [] }).setTcPower core 2)) ∧
      (s.leastBudget (s.tcEasels core) < exitGate → exec (.tcClockGate core) s = .next s ∧ exec (.tcPowerGate core) s = .next s)) ∧
    (∀ k : Fin 18, s.fld k F.MEM_STK_STATUS_STATE = 3 → exitRefresh ≤ s.leastBudget (s.stackEasels k) → ∃ t, exec (.stackSelfRefreshEntry k) s = .next t ∧
      t.fld k F.MEM_STK_STATUS_STATE = 4 ∧ (t.fld 0 F.PWR_STK_SR_SR).testBit k = true ∧ (∀ j, j / 1536 = k.val → SMap.get (fun _ => 0) t.bond.openRow j = 0) ∧ t.mem = s.mem ∧ t.poison = s.poison) ∧
    (∀ l : Fin 16, s.fld 0 (F.YZF_LINK_STATUS_MODE l) = 1 → exitLane ≤ s.leastBudget (s.linkEasels l) → s.flag 0 (F.YZF_LINK_STATUS_UP l) = true → s.linkBusy l = false →
      exec (.laneSleep l) s = .next (s.orFld 0 F.PWR_LINK_SLEEP_SLEEP (2 ^ l.val))) ∧
    (∀ res peer, s.asleep (resNum res) = true →
      (peer = false ∨ 128 ≤ resNum res → exec (.powerWake res peer) s = .next { s with pow := { s.pow with waking := NSet.add (resNum res) s.pow.waking } }) ∧
      (NSet.has (resNum res) s.pow.waking = true → exec (.wakeExitDone res) s = .next (s.endWake (resNum res)))) ∧
    (∀ k : Fin 18, s.asleep (64 + k) = true → NSet.has (64 + k.val) s.pow.waking = true → ∃ t, exec (.wakeExitDone (.stack k)) s = .next t ∧ t.fld k F.MEM_STK_STATUS_STATE = 3 ∧
      NSet.has (64 + k.val) t.pow.waking = false ∧ t.fld 0 F.PWR_WAKES_COUNT = (s.fld 0 F.PWR_WAKES_COUNT + 1) % 2 ^ F.PWR_WAKES_COUNT.width ∧ t.mem = s.mem) ∧
    (∀ req e us, s.barOpen req F.PWR_EAS_WAKE_US.off = true → s.unitAt req F.PWR_EAS_WAKE_US.off = e → e ≠ 0 → req.manages = true ∨ ownsEas req e = true →
      exec (.wakeBudgetWrite req us) s = .next ((s.setFld e F.PWR_EAS_WAKE_US us.toNat).wakeOver))

/-- 19 R533, R535 to R538, R543: the drive level rises by 16 above the set point and falls by 8 below it, down to its least value; escalation ends after 100 calm evaluations; a pump that fails holds
the drive full and admission at 0 until software clears it; coolant readings outside 0 to 80 °C, or none, lose the sensor; the hold-up store charges below ON and stops above OFF. -/
def Obligations.PumpValveAndHoldUpAreDriven : Prop :=
  ∀ s : State,
    (let hot := s.fld 0 F.CLM_HOT_DIE_MAX; let d := s.fld 0 F.CLM_DRIVE_LEVEL; let set := 4 * s.fld 0 F.CLM_CFG_T_SET
     s.pinsTaken = true → s.flag 0 F.CLM_DRIVE_ESCALATED = false → s.flag 0 F.CLM_DRIVE_PUMP_FAIL = false →
      (set < hot → exec .driveAdjust s = .next (s.setDrive (min (d + 16) 1023))) ∧
      (hot + 8 < set → s.fld 0 F.CLM_CFG_D_MIN < d → exec .driveAdjust s = .next (s.setDrive (max (d - 8) (s.fld 0 F.CLM_CFG_D_MIN)))) ∧
      (hot ≤ set → set ≤ hot + 8 → exec .driveAdjust s = .next s)) ∧
    (s.flag 0 F.CLM_DRIVE_ESCALATED = true → 100 ≤ s.pow.calm → exec .escalationEnd s = .next (s.setFlag 0 F.CLM_DRIVE_ESCALATED false)) ∧
    (∀ rpm : BitVec 16, rpm.toNat < 1200 → let r := s.inject 201 atelier; let s1 := r.2.setFld 0 F.CLM_PUMP_RPM rpm.toNat
      s.pinsTaken = true → 50 ≤ pumpDuty (s1.fld 0 F.CLM_DRIVE_LEVEL) → s1.flag 0 F.CLM_DRIVE_PUMP_FAIL = false →
      ∃ u, exec (.pumpFailure rpm) s = .next (u.detect 201 atelier ukNone 0 0 0 sevService r.1.isSome) ∧
        u = (((s1.setDrive 1023).setFlag 0 F.CLM_DRIVE_PUMP_FAIL true).setFld 0 F.PWR_ADMIT_LEVEL 0).incSat 0 F.CLM_EVENTS_PUMP_FAILS 1 ∧
        u.fld 0 F.CLM_DRIVE_LEVEL = 1023 ∧ u.fld 0 F.PWR_ADMIT_LEVEL = 0 ∧ u.flag 0 F.CLM_DRIVE_PUMP_FAIL = true) ∧
    (∀ req, req.manages = true → s.barOpen req F.CLM_DRIVE_LEVEL.off = true → exec (.pumpFailClear req) s = .next (s.setFlag 0 F.CLM_DRIVE_PUMP_FAIL false)) ∧
    (s.qRuns = true →
      (∀ inlet outlet, inlet ≤ 320 → outlet ≤ 320 → s.flag 199 F.FLT_INJSTAT_ARMED = false → s.flag 200 F.FLT_INJSTAT_ARMED = false → ∃ t, exec (.coolantReading inlet outlet) s = .next t ∧
        t.flag 0 F.CLM_DRIVE_SENSOR_LOST = false ∧ t.fld 0 F.CLM_COOLANT_INLET = inlet ∧ t.fld 0 F.CLM_COOLANT_OUTLET = outlet ∧ t.mem = s.mem ∧ t.out = s.out) ∧
      (∀ inlet outlet, exec (.coolantReading inlet outlet) s =
        .next (((s.setFlag 0 F.CLM_DRIVE_SENSOR_LOST false).readCoolant 199 F.CLM_COOLANT_INLET inlet).readCoolant 200 F.CLM_COOLANT_OUTLET outlet)) ∧
      (∀ outlet : Bool, exec (.coolantSensorLoss outlet) s =
        .next (((s.setFlag 0 F.CLM_DRIVE_SENSOR_LOST true).incSat 0 F.CLM_EVENTS_SENSOR_LOSS 1).detect (if outlet then 200 else 199) atelier ukNone 0 0 0 sevContained false)) ∧
      (∀ mv : BitVec 16, s.pinsTaken = true → s.flag 192 F.FLT_INJSTAT_ARMED = false → (40000 ≤ mv.toNat ∨ s.flag 0 F.CLM_HOLDUP_LOW = true) → ∃ t, exec (.holdupSample mv) s = .next t ∧
        t.fld 0 F.CLM_HOLDUP_MV = mv.toNat ∧ t.flag 0 F.CLM_HOLDUP_LOW = decide (mv.toNat < 40000) ∧ t.mem = s.mem ∧
        (s.brace = true ∨ mv.toNat < 100 * s.fld 0 F.CLM_HOLDUP_CFG_ON → t.flag 0 F.CLM_HOLDUP_CHG = true) ∧
        (s.brace = false → s.fld 0 F.PWR_SUP_STATUS_BELOW_WARN = 0 → 100 * s.fld 0 F.CLM_HOLDUP_CFG_ON ≤ mv.toNat → 100 * s.fld 0 F.CLM_HOLDUP_CFG_OFF < mv.toNat →
          t.flag 0 F.CLM_HOLDUP_CHG = false)))

/-- 19 R532, R534, R537, R539 to R541; 04 R110: die readings without an event are shown as they are, with the hottest; a stack's reading sets its temperature, peak and refresh rate, escalates
above 95 °C, and trips the chip at the second reading of 105 °C or more in a row; admission takes the largest level whose predictions and power fit, and 0 with a failed pump. -/
def Obligations.TemperaturesAndAdmission : Prop :=
  ∀ s : State,
    (s.qRuns = true → s.dieLimit < 460 → ∀ temps, (∀ i, i < 64 → nth 0 temps i ≤ s.dieLimit) → (∀ i, SMap.get (fun _ => 0) s.pow.dieHot i < 4) → (∀ d, 206 ≤ d → d ≤ 210 → s.flag d F.FLT_INJSTAT_ARMED = false) →
      exec (.dieSensorReading temps []) s = .next ((forUpto 64 (fun i (t : State) => t.readDie i (nth 0 temps i)) s).showDie (fun i => nth 0 temps i))) ∧
    (s.qRuns = true → ∀ (stack : Fin 18) (temp : Nat) (bad : Bool), let k := stack.val
      let n := if 105 ≤ temp then SMap.get (fun _ => 0) s.pow.stkHot k + 1 else 0
      let s1 : State := { s with pow := { s.pow with stkHot := SMap.set (fun _ => 0) s.pow.stkHot k n } }
      let s2 := ((s1.setFld k F.MEM_STK_TEMP_TEMP (min temp 255)).setFld k F.MEM_STK_TEMP_PEAK (max (s1.fld k F.MEM_STK_TEMP_PEAK) (min temp 255))).aimRate k temp
      let h := hottest 18 (fun i => s2.fld i F.MEM_STK_TEMP_TEMP)
      let s3 := (s2.setFld 0 F.CLM_HOT_STACK_MAX (s2.fld h F.MEM_STK_TEMP_TEMP)).setFld 0 F.CLM_HOT_STACK h
      (temp ≤ 95 → bad = false → s3.flag (203 + k / 6) F.FLT_INJSTAT_ARMED = false → s3.flag 211 F.FLT_INJSTAT_ARMED = false → exec (.stackTempReading stack temp bad) s = .next s3) ∧
      (105 ≤ temp → 1 ≤ SMap.get (fun _ => 0) s.pow.stkHot k →
        let s4 := (s3.thermal (203 + k / 6) ukStack k (decide (s.fld k F.MEM_STK_TEMP_TEMP ≤ 95 ∧ 95 < temp))).thermal 211 ukStack k bad
        exec (.stackTempReading stack temp bad) s = .next ((s4.escalate false).thermalTrip (64 + k) (min (4 * temp) 1023) false))) ∧
    (s.pinsTaken = true → ∀ est prad,
      let s1 := ((s.notePrad prad).setFld 0 F.PWR_EST_W (min est 2047)).setFld 0 F.PWR_EST_PEAK (max (s.fld 0 F.PWR_EST_PEAK) (min est 2047))
      let u := s1.judgeEscalation
      let s2 := u.setAdmission est
      exec (.admissionEvaluate est prad) s = .next ((s2.showPred (s2.fld 0 F.PWR_ADMIT_LEVEL)).admitBuilds) ∧
      (u.flag 0 F.CLM_DRIVE_PUMP_FAIL = true → s2.fld 0 F.PWR_ADMIT_LEVEL = 0) ∧
      (u.flag 0 F.CLM_DRIVE_PUMP_FAIL = false → let fits := fun n => u.tempFits n 0 && u.powerFits est (u.fld 0 F.PWR_ADMIT_LEVEL) n
        (∀ n, n ≤ 16 → fits n = true → n ≤ s2.fld 0 F.PWR_ADMIT_LEVEL) ∧ (s2.fld 0 F.PWR_ADMIT_LEVEL ≠ 0 → fits (s2.fld 0 F.PWR_ADMIT_LEVEL) = true)))

/-- 16 R465, R466, R469, R481: TOD_SET and TOD_SET_PPS make a step pending under the conditions of each; a pending step lands at a 1 µs boundary while no cell runs,
and waits else; the frame offset moves with no cell running; a read of the fraction answers it and holds the counter for the requester. -/
def Obligations.TimeOfDayStepsAreSetAndLand : Prop :=
  ∀ s : State, s.runs .s = true →
    (∀ req, req.manages = true → s.barOpen req F.TOD_CTRL_SET.off = true → s.softSource = true → s.mayStep = true → ∃ t, exec (.todSet req) s = .next t ∧
      t.time.step = some (.set (s.fld64 0 F.TOD_SET_LO_NS F.TOD_SET_HI_NS)) ∧ t.flag 0 F.TOD_STATE_STEP_WAIT = !s.noCellRuns ∧ t.tod = s.tod) ∧
    (∀ req, req.manages = false ∨ s.softSource = false ∨ s.mayStep = false → exec (.todSet req) s = .next s) ∧
    (∀ req, req.manages = true → s.barOpen req F.TOD_CTRL_SET.off = true → s.softSource = true → exec (.todSetPps req) s =
      .next { s with time := { s.time with step := some (.setPps (s.fld64 0 F.TOD_SET_LO_NS F.TOD_SET_HI_NS)) } }) ∧
    (∀ v, s.mayStep = true → (s.tod : Int) % (1000 * 2 ^ 40) < (s.todIncr : Int) → s.time.step = some (.set v) →
      (s.noCellRuns = true → exec .todStep s = .next (s.landStep (v * 2 ^ 40))) ∧
      (s.noCellRuns = false → ∃ t, exec .todStep s = .next t ∧ t.flag 0 F.TOD_STATE_STEP_WAIT = true ∧ t.tod = s.tod ∧ t.time = s.time)) ∧
    (∀ req (v : BitVec 32), req.manages = true → s.barOpen req F.TOD_FRAME_OFS_NS.off = true → s.noCellRuns = true → -5000000 ≤ v.toInt → v.toInt ≤ 5000000 →
      ∃ t, exec (.frameOffsetWrite req v) s = .next t ∧ t.fld 0 F.TOD_FRAME_OFS_NS = v.toNat ∧ t.tod = s.tod ∧ t.mem = s.mem) ∧
    (∀ req, s.barOpen req F.TOD_NOW_FRAC_FRAC.off = true → ∃ t, exec (.todNowFracRead req) s = .next t ∧ t.out = s.out ++ [.readData req F.TOD_NOW_FRAC_FRAC.off (BitVec.ofNat 32 (s.tod / 2 ^ 24 % 65536))] ∧
      (t.ctxOf req).todLo = some (BitVec.ofNat 32 s.nowNs) ∧ (t.ctxOf req).todHi = some (BitVec.ofNat 32 (s.nowNs / 2 ^ 32)) ∧ t.tod = s.tod ∧ t.regs = s.regs) ∧
    (∀ k : Fin 16, s.flag 0 (F.PTP_ALM_CFG_EN k) = true → s.fld64 0 (F.PTP_ALM_TIME_LO_NS k) (F.PTP_ALM_TIME_HI_NS k) ≤ s.nowNs → s.fld 0 (F.PTP_ALM_PERIOD_NS k) = 0 →
      s.flag (s.fld 0 (F.PTP_ALM_CFG_LINK k)) F.STR_CH_CFG_ENABLED = false → ∃ t, exec (.alarmFire k) s = .next t ∧
      t.fld 0 F.PTP_ALM_STATUS_FIRED = s.fld 0 F.PTP_ALM_STATUS_FIRED ||| 2 ^ k.val ∧ t.fld 0 F.PTP_ALM_STATUS_ERR = s.fld 0 F.PTP_ALM_STATUS_ERR ||| 2 ^ k.val ∧
      t.flag 0 (F.PTP_ALM_CFG_EN k) = false) ∧
    (∀ stamp, (∀ v, s.time.step ≠ some (.setPps v)) → s.fld 0 F.TOD_CFG_SOURCE ≠ 2 → ∃ t, exec (.ppsInEdge stamp) s = .next t ∧ t.time.ppsAt = some s.nowNs ∧
      t.fld 0 F.PTP_PPS_IN_CNT_COUNT = (s.fld 0 F.PTP_PPS_IN_CNT_COUNT + 1) % 2 ^ 32 ∧ t.fld64 0 F.PTP_PPS_IN_LO_NS F.PTP_PPS_IN_HI_NS = stamp / 65536 % 2 ^ 64 ∧ t.tod = s.tod)

/-- 16 R467 to R469, R476, R478: which state the clock takes when its offset has stayed within 20 ns for 10 s (with the rate correction in force, brought within 200 ppb: R464), when its source is lost and at the holdover limit;
TX_OK ends with the holdover transmission limit; a write of SOURCE restarts; the 1 PPS output rises and falls; the SyncE DPLL reports its lock. -/
def Obligations.ClockStatesFollowTheirSource : Prop :=
  ∀ s : State, s.runs .s = true →
    (∀ since, s.time.inBand = some since → s.todSt = tsAcquiring ∨ s.todSt = tsHoldover → since + 10 * secNs ≤ s.nowNs → s.srcValid (s.fld 0 F.TOD_CFG_SOURCE) = true →
      ∃ t, exec .todLocked s = .next t ∧ t.todSt = tsLocked ∧ t.flag 0 F.TOD_STATE_TX_OK = true ∧ t.tod = s.tod ∧ t.time.lockRate = asU32 (clip 200000 (sgn32 (s.fld 0 F.TOD_FFO_PPT)))) ∧
    (s.srcValid (s.fld 0 F.TOD_CFG_SOURCE) = false →
      (s.todSt = tsAcquiring → ∃ t, exec .sourceLost s = .next t ∧ t.todSt = tsFreerun ∧ t.flag 0 F.TOD_STATE_TX_OK = false ∧ t.tod = s.tod) ∧
      (s.todSt = tsLocked → ∃ t, exec .sourceLost s = .next t ∧ t.todSt = tsHoldover ∧ t.fld 0 F.TOD_STATE_HOLD_S = 0 ∧ t.tod = s.tod) ∧
      (s.todSt ≠ tsAcquiring → s.todSt ≠ tsLocked → exec .sourceLost s = .next { s with time := { s.time with inBand := none } })) ∧
    (s.todSt = tsHoldover → s.time.holdFrom + 14400 * secNs < s.nowNs → ∃ t, exec .holdoverLimit s = .next t ∧ t.todSt = tsFreerun ∧ t.tod = s.tod) ∧
    (s.todSt = tsHoldover → s.nowNs < s.time.holdFrom + 65536 * secNs → ∃ t, exec .holdoverTxLimit s = .next t ∧
      t.fld 0 F.TOD_STATE_HOLD_S = (s.nowNs - s.time.holdFrom) / secNs ∧
      t.flag 0 F.TOD_STATE_TX_OK = decide ((s.nowNs - s.time.holdFrom) / secNs < s.fld 0 F.TOD_CFG_TX_HOLD_S)) ∧
    (∀ req (source : BitVec 2) (hold : BitVec 16), req.manages = true → s.barOpen req F.TOD_CFG_SOURCE.off = true →
      (source = 3 → ∃ t, exec (.todSourceWrite req source hold) s = .next t ∧ t.fld 0 F.TOD_CFG_SOURCE = s.fld 0 F.TOD_CFG_SOURCE ∧ t.fld 0 F.TOD_CFG_TX_HOLD_S = hold.toNat) ∧
      (source = 0 → s.fld 0 F.TOD_CFG_SOURCE ≠ 0 → ∃ t, exec (.todSourceWrite req source hold) s = .next t ∧ t.todSt = tsFreerun ∧
        t.fld 0 F.TOD_CFG_SOURCE = 0 ∧ t.fld 0 F.TOD_STATE_SOURCE = 0 ∧ t.fld 0 F.TOD_CFG_TX_HOLD_S = hold.toNat)) ∧
    (s.pinsTaken = true → s.flag 0 F.PTP_PPS_CFG_OUT_EN = true → s.flag 0 F.TOD_STATE_TX_OK = true ∨ s.flag 0 F.PTP_PPS_CFG_ALWAYS = true →
      ((s.tod : Int) - sgn32 (s.fld 0 F.PTP_PPS_OFS_NS) * 2 ^ 40) % (secNs * 2 ^ 40) < (s.todIncr : Int) → s.time.ppsSec ≠ some (s.ppsSecond s.nowNs) →
      ∃ t, exec .ppsOutRise s = .next t ∧ t.out = s.out ++ [.ppsOut true] ∧ t.time.ppsEnd = some (s.nowNs + 1000 * s.fld 0 F.PTP_PPS_CFG_WIDTH_US) ∧ t.regs = s.regs) ∧
    (∀ e, s.time.ppsEnd = some e → e ≤ s.nowNs → ∃ t, exec .ppsOutFall s = .next t ∧ t.out = s.out ++ [.ppsOut false] ∧ t.time.ppsEnd = none ∧ t.regs = s.regs) ∧
    (s.todSt ≠ tsHoldover →
      (∀ p, s.syncInput = some p → ∃ t, exec (.synceDpllLock true) s = .next t ∧ t.fld 0 F.PTP_SYNCE_STATE_STATE = 1 ∧ t.fld 0 F.PTP_SYNCE_STATE_SUB = p % 32) ∧
      (s.fld 0 F.PTP_SYNCE_STATE_STATE = 1 → exec (.synceDpllLock false) s = .next (s.setFld 0 F.PTP_SYNCE_STATE_STATE 2)))

/-- 16 R470 to R476: with no transparent clock for its domain, a slave subport notes the difference that a one-step Sync shows; a Follow_Up completes a two-step one; a Delay_Resp to its own
request gives the path delay; a master subport answers Delay_Req; an Announce selects the ports' states; a message of the device's own is queued for a launch at least 1 µs off, with its launch
time at the reference plane in it, and raises its sequence number; SyncE messages carry the quality level. A message for a subport without PTP does nothing. -/
def Obligations.PtpMessagesAreTakenAndSent : Prop :=
  ∀ (s : State) (sub : Fin 32) (d : List Nat),
    (s.ptpOn sub = true → s.relayed d = false → s.ownDomain d = true →
      (∀ stamp, s.portSt sub = 9 → mTwoStep d = false → ∃ t, exec (.ptpSyncRx sub d stamp) s = .next t ∧
        t.fld (sub / 4) (F.PTP_SUB_RX_COUNT (sub % 4)) = (s.fld (sub / 4) (F.PTP_SUB_RX_COUNT (sub % 4)) + 1) % 2 ^ (F.PTP_SUB_RX_COUNT (sub % 4)).width ∧
        (t.ptpSub sub).fwd = some (s.tRx sub stamp - mCorr d - mStamp d) ∧ t.tod = s.tod ∧ t.eth = s.eth) ∧
      (s.portSt sub = 9 → (s.ptpSub sub).syncSeq = mSeq d → (s.ptpSub sub).syncOrg = none → ∃ t, exec (.ptpFollowUpRx sub d) s = .next t ∧
        (t.ptpSub sub).fwd = some ((s.ptpSub sub).syncRx - (mStamp d + mCorr d)) ∧ t.regs = s.regs ∧ t.eth = s.eth) ∧
      (∀ tx fwd, s.portSt sub = 9 → (s.ptpSub sub).reqSeq = mSeq d → mRequester d = s.portId sub → (s.ptpSub sub).reqTx = some tx → (s.ptpSub sub).fwd = some fwd →
        s.fld 0 F.TOD_CFG_SOURCE ≠ 1 → ∃ t, exec (.ptpDelayRespRx sub d) s = .next t ∧
        t.fld (sub / 4) (F.PTP_SUB_MPD_PS (sub % 4)) = asU32 ((fwd + (mStamp d - mCorr d - tx)) / 2 * 1000 / 65536) ∧ (t.ptpSub sub).pairAt = some s.nowNs ∧ (t.ptpSub sub).reqTx = none) ∧
      (∀ stamp, s.portSt sub = 6 → ∃ (t : State) (f : TbFrame), exec (.ptpDelayReqRx sub d stamp) s = .next t ∧ t.tbFrames sub = s.tbFrames sub ++ [f] ∧ s.nowNs + 1000 < f.launch ∧
        t.fld (sub / 4) (F.PTP_SUB_RX_COUNT (sub % 4)) = (s.fld (sub / 4) (F.PTP_SUB_RX_COUNT (sub % 4)) + 1) % 2 ^ (F.PTP_SUB_RX_COUNT (sub % 4)).width) ∧
      exec (.ptpAnnounceRx sub d) s = .next ((s.setPtpSub sub { s.ptpSub sub with announce := d }).showPorts.showAnnounce)) ∧
    (s.ptpOn sub = false → ∀ stamp, exec (.ptpSyncRx sub d stamp) s = .next s ∧ exec (.ptpFollowUpRx sub d) s = .next s ∧ exec (.ptpDelayReqRx sub d stamp) s = .next s ∧
      exec (.ptpDelayRespRx sub d) s = .next s ∧ exec (.ptpAnnounceRx sub d) s = .next s) ∧
    (∀ launch, s.nowNs + 1000 ≤ launch →
      let org := (1000 * launch + s.txConst sub) / 1000
      (s.ptpOn sub = true → s.portSt sub = 6 → ∃ t, exec (.ptpSyncTx sub launch) s = .next t ∧ (t.ptpSub sub).txSeq = ((s.ptpSub sub).txSeq + 1) % 65536 ∧
        t.tbFrames sub = s.tbFrames sub ++ [⟨launch, s.ptpFrame sub 0 (s.ptpSub sub).txSeq 0xFC 0 (stampBytes org), some (org : Int)⟩] ∧ t.regs = s.regs) ∧
      (s.ptpOn sub = true → s.portSt sub = 9 → ∃ t, exec (.ptpDelayReqTx sub launch) s = .next t ∧ (t.ptpSub sub).rqSeq = ((s.ptpSub sub).rqSeq + 1) % 65536 ∧
        t.tbFrames sub = s.tbFrames sub ++ [⟨launch, s.ptpFrame sub 1 (s.ptpSub sub).rqSeq 0x7F 0 (stampBytes org), some (org : Int)⟩] ∧ t.regs = s.regs) ∧
      (s.ptpOn sub = true → s.portSt sub = 6 → ∃ (t : State) (body : List Nat), exec (.ptpAnnounceTx sub launch) s = .next t ∧ (t.ptpSub sub).anSeq = ((s.ptpSub sub).anSeq + 1) % 65536 ∧
        t.tbFrames sub = s.tbFrames sub ++ [⟨launch, s.ptpFrame sub 11 (s.ptpSub sub).anSeq 0xFD 0 body, none⟩]) ∧
      (s.subExists sub = true → s.flag (sub / 4) (F.PTP_SUB_CFG_SYNCE_EN (sub % 4)) = true → ∀ event, ∃ (t : State) (f : TbFrame), exec (.esmcInfoTx sub launch event) s = .next t ∧
        t.tbFrames sub = s.tbFrames sub ++ [f] ∧ f.launch = launch ∧ t.regs = s.regs)) ∧
    (∀ launch, launch < s.nowNs + 1000 → ∀ event, exec (.ptpSyncTx sub launch) s = .next s ∧ exec (.ptpDelayReqTx sub launch) s = .next s ∧ exec (.ptpAnnounceTx sub launch) s = .next s ∧
      exec (.esmcInfoTx sub launch event) s = .next s) ∧
    (s.subExists sub = true → ∃ t, exec (.esmcRx sub d) s = .next t ∧ (t.ptpSub sub).ql = some (Config.qlOf d) ∧ t.eth = s.eth)

/-- 17 R485 to R489, R506, R507: the link trains in CXL mode with 256-byte flits at 32 GT/s or more and else in PCIe mode; VF Enable with NumVFs in range releases the easels it covers and
its end holds every tenant easel; a function-level reset is counted and holds its easel, one of PF0 also stops easel 0's rings and the FAPI queues; the invalidated pages are asked for anew;
a configuration request is answered with retry status until the canvas is sealed, unless the image comes by host push or the ROM is in recovery; the link's loss resets the host's side. -/
def Obligations.LinkTrainsAndFunctionsReset : Prop :=
  ∀ s : State,
    (∀ (rate : Fin 4) (width : Fin 17) flit lopt, s.cxlRuns = true → width.val = 4 ∨ width.val = 8 ∨ width.val = 16 →
      ∃ u : State, exec (.cxlLinkTraining rate width flit lopt) s = .next u.hostBack ∧
        u.fld 0 F.CXL_LINK_MODE = (if 1 ≤ rate.val ∧ flit = true then 2 else 1) ∧ u.fld 0 F.CXL_LINK_RATE = rate ∧ u.fld 0 F.CXL_LINK_WIDTH = width ∧
        u.flag 0 F.CXL_LINK_LOPT = (lopt && flit) ∧
        u.fld 0 F.CXL_LINK_EVENTS_RETRAINS = (if s.fld 0 F.CXL_LINK_MODE = 0 then s.fld 0 F.CXL_LINK_EVENTS_RETRAINS else min (s.fld 0 F.CXL_LINK_EVENTS_RETRAINS + 1) (2 ^ F.CXL_LINK_EVENTS_RETRAINS.width - 1)) ∧
        u.mem = s.mem ∧ u.cxl = s.cxl) ∧
    (s.cxlRuns = true → s.fld 0 F.CXL_LINK_MODE = 2 → s.cxl.vfs = 0 →
      (∀ n, 1 ≤ n → n ≤ s.totalVfs → ∃ t, exec (.vfEnable n) s = .next t ∧ t.cxl = { s.cxl with vfs := n } ∧ t.mem = s.mem ∧
        (∀ e, 0 < e → e < 64 → t.fld e F.EAS_LIFE_HOLD = if e ≤ n then s.fld e F.EAS_LIFE_HOLD - (s.fld e F.EAS_LIFE_HOLD &&& holdVf) else s.fld e F.EAS_LIFE_HOLD)) ∧
      (∀ n, s.totalVfs < n → exec (.vfEnable n) s = .next s)) ∧
    exec .vfDisable s = .next ({ s with cxl := { s.cxl with vfs := 0 } }.holdAll holdVf) ∧
    (∀ n : Fin 64, n.val ≠ 0 → s.life n = lifeHeld → ∃ t, exec (.vfFlr n) s = .next t ∧ t.life n = lifeHeld ∧ t.mem = s.mem ∧
      t.fld n F.EAS_LIFE_HOLD = s.fld n F.EAS_LIFE_HOLD ||| holdFlr ∧ t.fld 0 F.CXL_FLR_VF = min (s.fld 0 F.CXL_FLR_VF + 1) (2 ^ F.CXL_FLR_VF.width - 1)) ∧
    (∃ t, exec .pfFlr s = .next t ∧ (∀ v, v < 128 → NSet.has (vecKey 0 v) t.cxl.msixOpen = false ∧ NSet.has (vecKey 0 v) t.cxl.msixPending = false)) ∧
    (∀ (fn : Fin 64) (pages refused : List Nat) p, p ∈ pages → p ∉ refused → ∃ u : State, exec (.atsInvalidation fn pages refused) s = .next u.hostBack ∧
      NSet.has (hostPage fn (4096 * p)) u.cxl.denied = false ∧ u.fld 0 F.CXL_ATC_INVALS = (s.fld 0 F.CXL_ATC_INVALS + 1) % 2 ^ F.CXL_ATC_INVALS.width ∧ u.mem = s.mem) ∧
    (∀ fn, s.cxlRuns = true → exec (.configRequest fn) s = .next { s with out := s.out ++ [.config fn (decide (s.fld 0 F.CVS_STATE_STATE ≠ 2 ∧ s.fld 0 F.CVS_STATE_SOURCE ≠ 2 ∧ s.flag 0 F.RST_BRINGUP_RECOVERY = false))] }) ∧
    (s.fld 0 F.CXL_LINK_MODE ≠ 0 → (s.hotChip = true → exec .dlDown s = .next (s.chipReset srHot 0)) ∧
      (s.hotChip = false → ∃ u : State, u = (s.hostReset srHot).hostRelease srHot ∧ exec .dlDown s = .next (u.incSat 0 F.CXL_LINK_EVENTS_DOWNS 1)))

/-- 17 R500 to R504; 18 R516: a CXL.mem write within the share of a running easel writes exactly its bytes and completes; one to easel 0's window or to an easel in reset completes
and changes no byte, and a read there answers zeros with poison; while the host cannot be reached nothing happens; a moderated vector's time fires it; unmasking a vector fires it if it
was pending; a failed IDE stream becomes insecure, CXL.cachemem's stops it; REQUIRE is set by management. -/
def Obligations.HostMemoryRequestsAndInterrupts : Prop :=
  ∀ (s : State) (e : Fin 64),
    (s.hostUp = true →
      (∀ off (bs : List Nat) ecc, off < 2 ^ 39 → off % 64 + bs.length ≤ 64 → s.memShut e = false → s.inShare e off bs.length = true → s.frozen e = false → s.seqOn e = false →
        ∃ t, exec (.cxlMemRequest e off (.write bs) ecc) s = .next t ∧ t.out = s.out ++ [.memResp e 0 []] ∧
        (∀ i, (h : i < bs.length) → t.byte (bondKey e off + i) = BitVec.ofNat 8 bs[i]) ∧
        (∀ k, k < bondKey e off ∨ bondKey e off + bs.length ≤ k → t.byte k = s.byte k)) ∧
      (∀ off n, off < 2 ^ 39 → off % 64 + n ≤ 64 → s.memShut e = false → s.inShare e off n = true → s.poison = [] → s.seqOn e = false →
        s.flag (s.stackOf e (off / 64 * 64 / 65536)) F.FLT_INJSTAT_ARMED = false →
        ∃ t, exec (.cxlMemRequest e off (.read n) none) s = .next t ∧ t.out = s.out ++ [.memResp e 0 (s.readBytes (bondKey e off) n)] ∧ t.mem = s.mem) ∧
      (∀ off acc ecc, off < 2 ^ 39 → off % 64 + cxlSize acc ≤ 64 → s.memShut e = true → ∃ t, exec (.cxlMemRequest e off acc ecc) s = .next t ∧ t.mem = s.mem ∧
        (Output.memResp e (match acc with
          | .read _ => 2
          | .write _ => 0) (match acc with
          | .read n => List.replicate n 0
          | .write _ => [])) ∈ t.out)) ∧
    (s.hostUp = false → ∀ off acc ecc, exec (.cxlMemRequest e off acc ecc) s = .next s) ∧
    (∀ vec : Fin 2, SMap.get (fun _ => 0) s.cxl.unsignalled (vecKey e vec) ≠ 0 → NSet.has (vecKey e vec) s.cxl.msixOpen = true → ∃ t, exec (.msiModerationTimer e vec) s = .next t ∧
      t.hostQueue e = s.hostQueue e ++ [.msix e vec] ∧ SMap.get (fun _ => 0) t.cxl.unsignalled (vecKey e vec) = 0 ∧ t.regs = s.regs) ∧
    (∀ vec : Fin 72, s.ioOpen = true → e.val = 0 ∨ vec.val < 4 → ∃ t, exec (.msixVectorUnmask e vec) s = .next t ∧ NSet.has (vecKey e vec) t.cxl.msixOpen = true ∧
      NSet.has (vecKey e vec) t.cxl.msixPending = false ∧ t.hostQueue e = (if NSet.has (vecKey e vec) s.cxl.msixPending = true then s.hostQueue e ++ [.msix e vec] else s.hostQueue e) ∧ t.regs = s.regs) ∧
    (∀ k : Fin 4, s.ideSecure k = true → s.flag 174 F.FLT_INJSTAT_ARMED = false →
      let u := ((s.setIde k false).incSat 0 F.CXL_IDE_STATUS_FAILS 1).detect 174 atelier ukNone 0 0 0 sevService false
      exec (.ideFailure k) s = .next { u with cxl := { u.cxl with stopped := u.cxl.stopped || decide (k.val = 0) } } ∧ (s.setIde k false).ideSecure k = false) ∧
    (∀ req, s.barOpen req F.CXL_IDE_POLICY_REQUIRE.off = true → exec (.ideRequire req) s = .next (if req.manages = true then s.setFlag 0 F.CXL_IDE_POLICY_REQUIRE true else s))

/-- 04 R100 to R103, R106, R110, R113; 11 R363; 17 R489: a store within the share writes exactly its bytes and answers 0; an access beyond the share changes no byte, is counted and answers 1; a load answers
with the bytes of the committed view; a page time-out and a refresh close the bank's page, and a refresh lets a changed rate in; the patrol scrubber of a stack in service goes on by a granule; a sequence whose page
list holds an uncorrectable error is lost after such an access (`State.loseBadLists`, 11 R363);
a release in range zeroes its units, clears their USED bits and stays BUSY until it is done. -/
def Obligations.BondedMemoryIsServedAndReleased : Prop :=
  ∀ (s : State) (e : Fin 64),
    (∀ addr (bs : List Nat) ecc, s.inShare e addr bs.length = true → s.hitsPageList e addr bs.length = false →
      ∃ t : State, exec (.bondedRequest e addr (.store bs) ecc) s = .next (t.loseBadLists e) ∧ t.out = s.out ++ [.memResp e 0 []] ∧
        (∀ i, (h : i < bs.length) → t.byte (bondKey e addr + i) = BitVec.ofNat 8 bs[i]) ∧
        (∀ k, k < bondKey e addr ∨ bondKey e addr + bs.length ≤ k → t.byte k = s.byte k)) ∧
    (∀ addr n, s.inShare e addr n = true → s.poison = [] → s.seqOn e = false → s.flag (s.stackOf e (addr / 64 * 64 / 65536)) F.FLT_INJSTAT_ARMED = false →
      ∃ t, exec (.bondedRequest e addr (.load n) none) s = .next t ∧ t.out = s.out ++ [.memResp e 0 (s.readBytes (bondKey e addr) n)] ∧ t.mem = s.mem ∧ t.poison = s.poison) ∧
    (∀ addr (acc : MemAcc) ecc, s.inShare e addr (match acc with
        | .load n => n
        | .store bs => bs.length
        | .atomic w _ _ _ => w) = false →
      ∃ t : State, exec (.bondedRequest e addr acc ecc) s = .next (t.loseBadLists e) ∧ t.mem = s.mem ∧ t.poison = s.poison) ∧
    (∀ (k : Fin 18) (c : Fin 48) (b : Fin 32), ∃ t u, exec (.bankPageTimeout k c b) s = .next t ∧ exec (.stackRefresh k c b) s = .next u ∧
      (∀ j, SMap.get (fun _ => 0) t.bond.openRow j = if j = bankKey k c b then 0 else SMap.get (fun _ => 0) s.bond.openRow j) ∧ t.regs = s.regs ∧ t.mem = s.mem ∧
      u.bond.openRow = t.bond.openRow ∧ u.mem = s.mem ∧
      u.fld k F.MEM_STK_STATUS_RATE = (match SMap.get (fun _ => 0) s.bond.rateDue k with
        | 0 => s.fld k F.MEM_STK_STATUS_RATE
        | r + 1 => r % 4)) ∧
    (∀ k : Fin 18, s.fld k F.MEM_STK_STATUS_STATE = 3 → s.flag k F.FLT_INJSTAT_ARMED = false → ∀ lane, ∃ t : State, exec (.patrolScrub k .ok lane) s = .next (t.loseBadLists (s.scrubNext k).easel) ∧ t.mem = s.mem ∧ t.poison = s.poison ∧
      SMap.get (fun _ => 0) t.bond.scrubPos k = (SMap.get (fun _ => 0) s.bond.scrubPos k + 1) % stackGranules) ∧
    (∀ req, s.barOpen req F.MEM_EAS_REL_CTRL_GO.off = true → s.unitAt req F.MEM_EAS_REL_CTRL_GO.off = e → ownsEas req e = true → s.flag e F.MEM_EAS_REL_STATUS_BUSY = false →
      let base := s.fld e F.MEM_EAS_REL_BASE_UNIT
      let count := s.fld e F.MEM_EAS_REL_COUNT_UNITS
      (base + count ≤ s.fld e F.MEM_EAS_SHARE_UNITS → ∃ t, exec (.memReleaseGo req) s = .next t ∧ t.flag e F.MEM_EAS_REL_STATUS_BUSY = true ∧
        t.flag e F.MEM_EAS_REL_STATUS_REL_RANGE = false ∧
        (∀ k, t.byte k = if bondKey e (base * 65536) ≤ k ∧ k < bondKey e (base * 65536) + count * 65536 then memDefault k else s.byte k) ∧
        ∃ u, exec (.memReleaseDone e) t = .next u ∧ u.flag e F.MEM_EAS_REL_STATUS_BUSY = false ∧ u.mem = t.mem) ∧
      (s.fld e F.MEM_EAS_SHARE_UNITS < base + count → ∃ t, exec (.memReleaseGo req) s = .next t ∧ t.flag e F.MEM_EAS_REL_STATUS_REL_RANGE = true ∧ t.mem = s.mem))

/-- 18 R512 to R521: which operations an easel's state accepts and what each shows when it starts and ends; a wrong key and easel 0 are refused with their codes; an operation through a VF
is discarded; the freeze bound leaves the easel STUCK; clearing leaves every byte of the easel's bonded memory zero and ends READY with the reset counted. -/
def Obligations.EaselLifecycleOperations : Prop :=
  ∀ (s : State) (e : Fin 64) (req : Requester),
    (req.manages = false → ∀ (key : BitVec 8) h, exec (.freeze req key) s = .next s ∧ exec (.thaw req key) s = .next s ∧ exec (.save req key) s = .next s ∧
      exec (.restore req key h) s = .next s ∧ exec (.reset req key) s = .next s) ∧
    (s.barOpen req F.EAS_LIFE_CTRL_OP.off = true → s.unitAt req F.EAS_LIFE_CTRL_OP.off = e → req.manages = true → s.lifeCode e ≠ lvProgress → s.lifeCode e ≠ lvAborted → ∀ (key : BitVec 8) h, key ≠ 0xE5 →
      exec (.freeze req key) s = .next (s.verdict e opFreeze lvKey) ∧ exec (.thaw req key) s = .next (s.verdict e opThaw lvKey) ∧
      exec (.save req key) s = .next (s.verdict e opSave lvKey) ∧ exec (.restore req key h) s = .next (s.verdict e opRestore lvKey) ∧
      exec (.reset req key) s = .next (s.verdict e opReset lvKey)) ∧
    (s.barOpen req F.EAS_LIFE_CTRL_OP.off = true → s.unitAt req F.EAS_LIFE_CTRL_OP.off = e → req.manages = true → e.val ≠ 0 →
      (s.lifeCode e ≠ lvProgress →
        (s.life e = lifeReady → (s.seqEas e).buildWaits = false → ∃ t, exec (.freeze req 0xE5) s = .next t ∧ t.life e = lifeFreezing ∧ t.lifeCode e = lvProgress ∧
          t.fld e F.EAS_LIFE_STATUS_OP = opFreeze ∧ t.mem = s.mem) ∧
        (s.life e = lifeFrozen ∨ s.life e = lifeStuck → s.fld e F.SEQ_EAS_STATUS_PHASE ≠ 0 → ∃ t, exec (.thaw req 0xE5) s = .next t ∧ t.life e = lifeReady ∧
          t.lifeCode e = lvDone ∧ t.fld e F.EAS_LIFE_STATUS_OP = opThaw ∧ NSet.has e t.ten.stopped = false ∧ t.mem = s.mem) ∧
        (s.life e = lifeFrozen → ∃ t, exec (.save req 0xE5) s = .next t ∧ t.life e = lifeSaving ∧ t.lifeCode e = lvProgress ∧ t.fld e F.EAS_LIFE_STATUS_OP = opSave ∧
          t.fld64 e F.EAS_IMG_USED_LO_BYTES F.EAS_IMG_USED_HI_BYTES = 0 ∧ t.mem = s.mem) ∧
        (s.life e = lifeReady → s.wmZero e = true → s.flag e F.EAS_CTRL_ENABLE = false → s.flag e F.SEQ_EAS_CTRL_ENABLE = false → s.flag e F.EMB_EAS_CTRL_ENABLE = false →
          ∀ h, hdrFormat h (s.fld64 e F.EAS_IMG_LEN_LO_BYTES F.EAS_IMG_LEN_HI_BYTES) = false → ∃ t, exec (.restore req 0xE5 h) s = .next t ∧ t.life e = lifeRestoring ∧
          t.lifeCode e = lvProgress ∧ t.fld e F.EAS_LIFE_STATUS_OP = opRestore ∧ t.mem = s.mem)) ∧
      (s.life e = lifeHeld → ∃ t, exec (.reset req 0xE5) s = .next t ∧ t.life e = lifeHeld ∧ t.lifeCode e = lvProgress ∧ t.fld e F.EAS_LIFE_STATUS_OP = opReset ∧
        t.fld e F.EAS_LIFE_HOLD = s.fld e F.EAS_LIFE_HOLD ||| holdReset ∧ t.mem = s.mem)) ∧
    (s.life e = lifeFreezing →
      (s.drained e = true → ∃ t, exec (.freezeDrained e) s = .next t ∧ t.life e = lifeFrozen ∧ t.lifeCode e = lvDone ∧ NSet.has e t.ten.stopped = true ∧ t.mem = s.mem) ∧
      (s.drained e = false → exec (.freezeDrained e) s = .next s) ∧
      (s.freezeOver e = true → ∃ t, exec (.freezeBoundExpiry e) s = .next t ∧ t.life e = lifeStuck ∧ t.lifeCode e = lvDrain ∧ NSet.has e t.ten.stopped = true ∧ t.mem = s.mem)) ∧
    (s.life e = lifeSaving → ∃ t, exec (.saveDone e true) s = .next t ∧ t.life e = lifeFrozen ∧ (t.lifeCode e = lvFetch ∨ t.lifeCode e = lvSpace) ∧ t.mem = s.mem) ∧
    (s.life e = lifeRestoring → ∀ image, ∃ t, exec (.restoreDone e image true) s = .next t ∧ t.life e = lifeClearing ∧ ∀ k, bondKey e 0 ≤ k → k < bondKey e 0 + 2 ^ 46 → t.byte k = 0) ∧
    (e.val ≠ 0 → s.life e = lifeHeld → s.flag e F.EAS_LIFE_QUAR = false → s.fld e F.EAS_LIFE_HOLD = 0 ∨ s.fld e F.EAS_LIFE_HOLD = holdFlr ∨ s.fld e F.EAS_LIFE_HOLD = holdReset →
      ∃ t, exec (.easelResetRelease e) s = .next t ∧ t.life e = lifeClearing ∧ ∀ k, bondKey e 0 ≤ k → k < bondKey e 0 + 2 ^ 46 → t.byte k = 0) ∧
    (s.life e = lifeClearing → ∃ t, exec (.clearingDone e) s = .next t ∧ t.life e = lifeReady ∧ t.fld e F.EAS_RESETS_COUNT = min (s.fld e F.EAS_RESETS_COUNT + 1) 65535 ∧ t.mem = s.mem)

/-- 21 R575, R580, R582, R583, R585: arming a point under the injection power either arms it from a fresh count or refuses it; management disarms it; the oldest fold window's end delivers
its record; each second D becomes the largest whole number not above D times the 600th root of one half, the raw score is capped, and the band moves once it has lasted 60 s, with the score kept
in its range; quarantine is entered and left by its key, and marks every tenant easel that exists. -/
def Obligations.InjectionHealthAndQuarantine : Prop :=
  ∀ s : State,
    (∀ (req : Requester) (d : Nat), s.barOpen req F.FLT_INJARM_ARM.off = true → s.unitAt req F.FLT_INJARM_ARM.off = d → d < 212 → req.manages = true → s.power powInject = true →
      (s.armRefused d = true → ∃ t, exec (.injectArm req) s = .next t ∧ t.flag d F.FLT_INJSTAT_ARMED = false ∧ t.flag d F.FLT_INJSTAT_REFUSED = true) ∧
      (s.armRefused d = false → ∃ t, exec (.injectArm req) s = .next t ∧ t.flag d F.FLT_INJSTAT_ARMED = true ∧ t.flag d F.FLT_INJSTAT_REFUSED = false ∧
        SMap.get (fun _ => 0) t.flt.injSeen d = 0)) ∧
    (∀ (req : Requester) (d : Nat), s.barOpen req F.FLT_INJARM_ARM.off = true → s.unitAt req F.FLT_INJARM_ARM.off = d → req.manages = true → ∃ t, exec (.injectDisarm req) s = .next t ∧ t.flag d F.FLT_INJSTAT_ARMED = false ∧
      (∀ d', d' ≠ d → t.flag d' F.FLT_INJSTAT_ARMED = s.flag d' F.FLT_INJSTAT_ARMED) ∧ t.mem = s.mem) ∧
    (∀ r l, s.flt.folds = r :: l → exec .foldWindowEnd s = .next (({ s with flt := { s.flt with folds := l } }).deliverFault r)) ∧
    (∃ t, exec .healthEvaluation s = .next t ∧
      (let d := t.fld 0 F.FLT_PENALTY_D
       let x := s.fld 0 F.FLT_PENALTY_D
       2 * d ^ 600 ≤ x ^ 600 ∧ x ^ 600 < 2 * (d + 1) ^ 600 ∧ t.fld 0 F.FLT_HEALTH_RAW_RAW = min (capOf s.healthCaps) (1000 - d / 64)) ∧
      (s.fld 0 F.FLT_HEALTH_DWELL_S + 1 < 60 → t.fld 0 F.FLT_HEALTH_BAND = s.fld 0 F.FLT_HEALTH_BAND ∧ t.fld 0 F.FLT_HEALTH_DWELL_S = s.fld 0 F.FLT_HEALTH_DWELL_S + 1) ∧
      (60 ≤ s.fld 0 F.FLT_HEALTH_DWELL_S + 1 → t.fld 0 F.FLT_HEALTH_BAND = bandOf (t.fld 0 F.FLT_HEALTH_RAW_RAW)) ∧
      (let r := bandRange (t.fld 0 F.FLT_HEALTH_BAND)
       r.1 ≤ t.fld 0 F.FLT_HEALTH_SCORE ∧ t.fld 0 F.FLT_HEALTH_SCORE ≤ r.2) ∧ t.mem = s.mem ∧ t.out = s.out) ∧
    (∀ req : Requester, req.manages = true → s.barOpen req F.FLT_QUAR_CTRL_ENTER.off = true →
      (s.flag 0 F.FLT_HEALTH_QUARANTINED = false → exec (.quarantineEnter req 0x51) s =
        .next (forEach tenants (fun e (t : State) => t.quarantineOne e) (s.setFlag 0 F.FLT_HEALTH_QUARANTINED true))) ∧
      (s.flag 0 F.FLT_HEALTH_QUARANTINED = true → ∃ t, exec (.quarantineLeave req 0x51) s = .next t ∧ t.flag 0 F.FLT_HEALTH_QUARANTINED = false ∧
        (∀ e, 0 < e → e < 64 → t.flag e F.EAS_LIFE_QUAR = false ∧ t.life e = s.life e ∧ (t.fld e F.EAS_LIFE_HOLD).testBit 3 = false) ∧ t.mem = s.mem) ∧
      (∀ key : BitVec 8, key ≠ 0x51 → exec (.quarantineEnter req key) s = .next s ∧ exec (.quarantineLeave req key) s = .next s))

/-- 08 R239 to R243, R264; 17 R493 to R495: the oldest message of a queue pair, for a cell of that queue pair: PARAM is answered with the state; CONFIG and START are taken in their states and
else answered with an error; START runs the cell, or waits for time; STOP notes the last slot; a request for a slot is kept before its deadline, is late after it and counted, is discarded while
the cell waits for time and is an error in other states and after the last slot of a STOP; a PDU beyond its cell's class is answered with an error and not kept. Polling without a new message takes none; enabling a queue pair takes both offsets from the control line. -/
def Obligations.CellRequestsOfTheL2 : Prop :=
  ∀ (s : State) (qp : Fin 64),
    (∀ id c t r, (s.fqp qp).inbox = t :: r → let u := s.setFqp qp { s.fqp qp with inbox := r }
      u.cellOfId id = some c → u.cellQp c = qp →
      exec (.fapiParam qp id) s = .next (u.sayL2 c fmParamResponse (u.slotNow c) [[u.cellSt c]]) ∧
      (u.cellSt c = csIdle → ∀ body, ∃ v : State, v.cellSt c = csConfigured ∧ (v.radCell c).config = some body ∧
        exec (.fapiConfig qp id (u.fld c F.RAD_CELL_CFG_PRBS) (u.fld c F.RAD_CELL_CFG_SCS) (u.cellStreams c).1 (u.fld c F.RAD_CELL_CFG_DUPLEX) body) s =
          .next (v.sayL2 c fmConfigResponse (u.slotNow c) [[0]])) ∧
      (u.cellSt c = csConfigured ∨ u.cellSt c = csHeld → ∃ v, exec (.fapiStart qp id) s = .next v ∧ v.cellSt c = (if u.txOk = true then csRunning else csWaitSync) ∧
        (v.radCell c).harq = [] ∧ (v.radCell c).slots = [] ∧ v.fld c F.RAD_CELL_HARQ_USE_KIB = 0 ∧ v.mem = u.mem ∧ v.out = u.out) ∧
      (u.cellSt c = csIdle ∨ u.cellSt c = csRunning → exec (.fapiStart qp id) s = .next (u.answerError c (u.slotNow c) errState)) ∧
      (u.cellSt c = csRunning ∨ u.cellSt c = csWaitSync → exec (.fapiStop qp id) s = .next (u.setRad c { u.radCell c with stopAfter := some ((u.radCell c).lastSlot.getD 0) })) ∧
      (∀ sfn slot pdus mib tbs, let n := u.slotOfSfn c sfn slot
        (u.cellSt c = csWaitSync → exec (.dlTtiRequest qp id sfn slot pdus mib) s = .next u ∧ exec (.ulTtiRequest qp id sfn slot pdus) s = .next u ∧
          exec (.ulDciRequest qp id sfn slot pdus) s = .next u ∧ exec (.txDataRequest qp id sfn slot tbs) s = .next u) ∧
        (u.cellSt c = csRunning → (u.radCell c).stopAfter.any (fun l => decide (l < n)) = true → exec (.dlTtiRequest qp id sfn slot pdus mib) s = .next (u.answerError c n errState)) ∧
        (u.cellSt c = csRunning → (u.radCell c).stopAfter.any (fun l => decide (l < n)) = false → (t : Int) < u.reqDeadline c n →
          (∃ v : State, (let ps := pdus.filter (fun p => decide (p.kind ≤ 3)); exec (.dlTtiRequest qp id sfn slot pdus none) s = .next (if ps.all (u.pduOk c) then v else v.answerError c n errSlot) ∧
              (v.radSlot c n).pdus = (u.radSlot c n).pdus ++ ps.filter (u.pduOk c)) ∧
            NSet.has rqDl (v.radSlot c n).taken = true ∧ v.regs = u.regs ∧ v.out = u.out) ∧
          (∃ v : State, (let ps := pdus.filter (fun p => decide (p.kind = 1)); exec (.ulDciRequest qp id sfn slot pdus) s = .next (if ps.all (u.pduOk c) then v else v.answerError c n errSlot) ∧
              (v.radSlot c n).pdus = (u.radSlot c n).pdus ++ ps.filter (u.pduOk c)) ∧
            NSet.has rqDci (v.radSlot c n).taken = true ∧ v.regs = u.regs ∧ v.out = u.out) ∧
          ((∀ p ∈ pdus, p.kind ≠ 4 ∧ u.pduOk c p = true) → ∃ v, exec (.ulTtiRequest qp id sfn slot pdus) s = .next v ∧
            (v.radSlot c n).pdus = (u.radSlot c n).pdus ++ pdus.filter (fun p => decide (4 ≤ p.kind ∧ p.kind ≤ 7)) ∧ NSet.has rqUl (v.radSlot c n).taken = true ∧ v.regs = u.regs ∧ v.out = u.out) ∧
          (∀ h data, ∃ v, exec (.txDataRequest qp id sfn slot [⟨h, none, data⟩]) s = .next v ∧ (v.radSlot c n).tx = (u.radSlot c n).tx ++ [(h, blobSlice data 0 data.len)] ∧
            NSet.has rqTx (v.radSlot c n).taken = true ∧ v.regs = u.regs ∧ v.out = u.out)) ∧
        (u.cellSt c = csRunning → (u.radCell c).stopAfter.any (fun l => decide (l < n)) = false → u.reqDeadline c n ≤ (t : Int) →
          exec (.dlTtiRequest qp id sfn slot pdus mib) s = .next (((u.setSlot c n { u.radSlot c n with late := NSet.add rqDl (u.radSlot c n).late }).incSat c F.RAD_CELL_LATE_REQ_COUNT 1).answerError c n errSlot)))) ∧
    ((s.fqp qp).inbox = [] → ∀ id, exec (.fapiParam qp id) s = .next s ∧ exec (.fapiStart qp id) s = .next s ∧ exec (.fapiStop qp id) s = .next s) ∧
    (s.fqOn qp = true → s.flag 0 (F.FQ_STATUS_BADMSG qp) = false → s.hostUp = true → s.translates 0 (s.fqLine qp) = true → ∀ line ring,
      exec (.fapiPoll qp line ring) s = .next (s.fqLineRead qp (line.le 8 8) (line.le 0 8) ring)) ∧
    (∀ req line, req.manages = true → s.barOpen req (F.FQ_RQ_CFG_ENABLE qp).off = true → s.fqOn qp = false → ∃ v, exec (.fqEnable req qp line) s = .next v ∧ v.fqOn qp = true ∧ v.flag 0 (F.FQ_STATUS_BADMSG qp) = false ∧
      v.fld 0 (F.FQ_RQ_HEAD_OFS qp) = line.le 24 8 % 2 ^ (F.FQ_RQ_HEAD_OFS qp).width ∧ v.fld 0 (F.FQ_IND_TAIL_OFS qp) = line.le 16 8 % 2 ^ (F.FQ_IND_TAIL_OFS qp).width ∧ v.mem = s.mem)

/-- 08 R241 to R246, R248, R250 to R258, R260 to R265: each slot of a running cell is announced once; requests not taken by the deadline are late; a slot is planned once, by a plan that covers it, and its C-plane is queued; a symbol's uplink window closes once
and takes what is missing as zero samples; a code block's decoding stops within its limit and its block is reported; at the result deadline what is owed is reported and the slot ends; an aged buffer is freed; a hard block's job
ends its item, or sheds it on a parity error; downlink data that is ready by 2 µs before its frame's launch is sent, an item whose latest start has passed is shed; at a slot boundary a cell moves as holds, stops and time ask; SSB bursts end. -/
def Obligations.SlotsRunTheirCourse : Prop :=
  ∀ (s : State) (c : Fin 384) (n : Nat),
    (s.cellSt c = csRunning → let m := s.slotAt c ((s.nowNs : Int) + s.reqLead c + 500000)
      ((s.radCell c).lastInd ≠ some m → exec (.slotIndication c) s = .next ((s.setRad c { s.radCell c with lastInd := some m }).tellL2 c fmSlotIndication m [])) ∧
      ((s.radCell c).lastInd = some m → exec (.slotIndication c) s = .next s)) ∧
    (s.cellSt c = csRunning → s.reqDeadline c n ≤ s.nowNs → ∃ t, exec (.requestDeadline c n) s = .next t ∧
      (∀ k, k < 4 → (k ∈ (t.radSlot c n).late ↔ NSet.has k (s.radSlot c n).taken = false)) ∧ (t.radSlot c n).pdus = (s.radSlot c n).pdus ∧ t.regs = s.regs) ∧
    (∀ x kNow sNow, s.mayPlan c n = true → x.engine = 3 → s.itemOk c x = true → (s.radSlot c n).covered [x] = true → s.latestOk kNow sNow [x] = true → (∀ k, s.cellCoresAt c k = 0) →
      let u := ({ s with sched := { s.sched with nextId := s.sched.nextId + 1 } } : State).setSlot c n { s.radSlot c n with planned := true, items := [⟨x, s.sched.nextId, 0, none⟩] }
      exec (.slotPlan c n kNow sNow [x]) s = .next ((u.pumpHard (s.cellPanel c)).sendCplane c n)) ∧
    (∀ kNow sNow items, s.mayPlan c n = false ∨ (s.radSlot c n).covered items = false ∨ s.roomOk items = false ∨ s.latestOk kNow sNow items = false → exec (.slotPlan c n kNow sNow items) s = .next s) ∧
    (∀ k : Fin 14, s.symStart96 c n k + (96 * s.ta4Max c : Nat) ≤ 96 * (s.nowNs : Int) →
      (NSet.has k (s.radSlot c n).closed = false → ∃ t, exec (.ulWindowClose c n k) s = .next t ∧ NSet.has k (t.radSlot c n).closed = true ∧
        (t.radSlot c n).zeros = (s.radSlot c n).zeros ++ (s.missing c n k).map (fun x => (k.val, x.1, x.2)) ∧
        t.fld c F.RAD_CELL_UL_MISS_MISSING = min (s.fld c F.RAD_CELL_UL_MISS_MISSING + (((s.missing c n k).map (fun x => x.1)).dedup).length) (2 ^ F.RAD_CELL_UL_MISS_MISSING.width - 1)) ∧
      (NSet.has k (s.radSlot c n).closed = true → exec (.ulWindowClose c n k) s = .next s)) ∧
    (∀ h cb soft p x i st, (s.radSlot c n).pdus.find? (fun p => decide (p.kind = 4 ∧ p.handle = h ∧ cb < p.cbs)) = some p → s.flag (135 + s.cellPanel c) F.FLT_INJSTAT_ARMED = false →
      (s.radSlot c n).items.zipIdx.find? (fun x => decide (x.1.item.engine = engDecoder ∧ x.1.item.words = [h, cb] ∧ x.1.stat = 0) && x.1.started.isSome) = some (x, i) → x.started = some st →
      let r := s.combine c p cb ((List.range p.soft).map (fun i => max (-127) (nth 0 (soft.map BitVec.toInt) i)))
      let it := ldpcIts p.bg r.1 st.2
      it ≤ st.2 ∧ exec (.ldpcDecodeDone c n h cb soft false) s = .next (((r.2.ldpcBusy (s.cellPanel c) (ldpcCycles p.bg it)).cbDecoded c n p cb (Config.ldpcDecode p.bg r.1 it).2).itemDone c n i)) ∧
    (s.resDeadline c n ≤ s.nowNs → (s.radSlot c n).ended = false → (s.radSlot c n).pdus ≠ [] → ∃ t, exec (.resultDeadline c n) s = .next t ∧ (t.radSlot c n).ended = true ∧
      t.out = (s.reportRest c n).out) ∧
    (∀ rnti harq b, s.harqBuf c (harqKey rnti harq) = some b →
      (b.last + s.cellLe c 0x22 1 ≤ s.slotNow c → ∃ t, exec (.harqAgeExpiry c rnti harq) s = .next t ∧ t.harqBuf c (harqKey rnti harq) = none ∧ t.mem = s.mem) ∧
      (s.slotNow c < b.last + s.cellLe c 0x22 1 → exec (.harqAgeExpiry c rnti harq) s = .next s)) ∧
    (∀ i x, (s.radSlot c n).items[i]? = some x → x.stat = 0 → s.flag (135 + s.cellPanel c) F.FLT_INJSTAT_ARMED = false → x.started.isSome = true →
      (x.item.engine = 3 → exec (.ldpcEncodeDone c n i false) s = .next (s.itemDone c n i)) ∧
      (x.item.engine = 4 → exec (.fftDone c n i false) s = .next (s.itemDone c n i)) ∧
      (x.item.engine = 5 → exec (.polarDecodeDone c n i false) s = .next (s.itemDone c n i))) ∧
    (∀ i x now, (s.radSlot c n).items[i]? = some x →
      exec (.radioShed c n i now) s = .next (if x.item.latest < now ∧ s.itemLaunched x = false then s.shedItem c n i else s)) ∧
    (∀ k : Fin 14, (s.sendsUplane c n = false → exec (.dlDataCheck c n k) s = .next s) ∧
      (s.sendsUplane c n = true → (∀ p ∈ (s.radSlot c n).pdus, p.kind ≤ 3 → p.syms.testBit k = true → (s.radSlot c n).ready p = true) → ∃ t, exec (.dlDataCheck c n k) s = .next t ∧
        (∀ i, i < (s.symFrames c n k).length → s.symLaunch c n k i (s.symFrames c n k).length ≤ s.nowNs + 2000 → NSet.has (k.val * 65536 + i) (t.radSlot c n).checked = true) ∧
        t.regs = s.regs ∧ t.out = s.out)) ∧
    (s.cellSt c = csRunning → (s.radCell c).holdReq = false → (s.radCell c).stopAfter = none → ∃ t, exec (.cellSlotBoundary c) s = .next t ∧
      t.fld c F.RAD_CELL_SLOTS_COUNT = (s.fld c F.RAD_CELL_SLOTS_COUNT + 1) % 2 ^ 32 ∧ t.cellSt c = (if s.txOk = true then csRunning else csWaitSync) ∧ t.mem = s.mem ∧ t.out = s.out) ∧
    (∀ t0, (s.radCell c).ssbFrom = some t0 →
      (t0 + 1000000000 * s.cellLe c 0x23 1 ≤ s.nowNs → ∃ t, exec (.ssbHoldExpiry c) s = .next t ∧ (t.radCell c).ssbFrom = none ∧ t.cellSt c = s.cellSt c) ∧
      (s.nowNs < t0 + 1000000000 * s.cellLe c 0x23 1 → exec (.ssbHoldExpiry c) s = .next s))

/-- The slot words of S-core instructions whose result is a vector register (07 R198, R203, R204, R213 to R215): a slot that holds the instruction issues it. Every lane that PRED
enables gets its result two cycles later, narrowed with SAT by clamping and without it by its low 16 bits; VSEL writes every lane, from A where PRED is set and from B elsewhere;
NOP issues and writes nothing. The value of a VCONJ of -32768 and of a VPERM index of 32 or more is free. A slot of another instruction, or a core with nothing to issue, is left alone. -/
def Obligations.VectorInstructionsWriteTheirLanes : Prop :=
  ∀ (s : State) (core : Fin 192),
    let all : List (Instr × Nat) := [(.nop core, 0x00), (.vadd core, 0x01), (.vsub core, 0x02), (.vpack core, 0x07), (.vshr core, 0x08), (.vshl core, 0x09), (.vmax core, 0x0A),
      (.vmin core, 0x0B), (.vconj core, 0x0C), (.vsel core, 0x0D), (.vperm core, 0x15)]
    (s.scGo core = none → ∀ c ∈ all, exec c.1 s = .next s) ∧
    ∀ x w, s.scGo core = some x → s.scWord core x.cmd.easel x.pc x.slot = w →
      let a := fun i => x.v (wA w) i
      let b := fun i => x.v (wB w) i
      let fit := fun (v : Int) => ((if wSat w then max (-32768) (min 32767 v) else v) % 65536).toNat
      let en := x.en w (wCplx w)
      let vec := fun (val : Nat → Nat) => x.lanes 2 en (kV (wD w)) val
      let runs := fun (op : Nat) (c : Instr) (y : ScCtx) => wOp w = op → ∃ t, exec c s = .next t ∧ s.Issued t core x y
      (∀ c ∈ all, wOp w ≠ c.2 → exec c.1 s = .next s) ∧
      runs 0x00 (.nop core) x ∧
      runs 0x01 (.vadd core) (vec (fun i => fit (a i + b i))) ∧
      runs 0x02 (.vsub core) (vec (fun i => fit (a i - b i))) ∧
      runs 0x07 (.vpack core) (vec (fun i => fit (sext 40 (x.rd (kAcc (wA w) i)) / 2 ^ wImm w))) ∧
      runs 0x08 (.vshr core) (vec (fun i => fit (a i / 2 ^ wImm w))) ∧
      runs 0x09 (.vshl core) (vec (fun i => fit (a i * 2 ^ wImm w))) ∧
      runs 0x0A (.vmax core) (vec (fun i => fit (max (a i) (b i)))) ∧
      runs 0x0B (.vmin core) (vec (fun i => fit (min (a i) (b i)))) ∧
      (wOp w = 0x0C → ∃ t val, exec (.vconj core) s = .next t ∧ s.Issued t core x (x.lanes 2 (x.en w true) (kV (wD w)) val) ∧
        ∀ i, (i % 2 = 0 → val i = (a i % 65536).toNat) ∧ (i % 2 = 1 → a i ≠ -32768 → val i = ((-a i) % 65536).toNat)) ∧
      runs 0x0D (.vsel core) (x.lanes 2 (fun _ => true) (kV (wD w)) (fun i => x.rd (kV (if en i then wA w else wB w) i))) ∧
      (wOp w = 0x15 → ∃ t val, exec (.vperm core) s = .next t ∧ s.Issued t core x (x.lanes 2 (x.en w false) (kV (wD w)) val) ∧
        ∀ i, x.rd (kV (wBits w 0 5) i) < 32 → val i = x.rd (kV (wA w) (x.rd (kV (wBits w 0 5) i))))

/-- VMAC, VCMAC, TAP.R, TAP.C and VCLR (07 R200, R203, R204, R213, R215, R216): every value of accumulator D that PRED enables takes the exact product of its lane added to the sum
that every earlier accumulate left, wrapped to 40 bits or clamped with SAT, and its readers see it four cycles later; a CI16 product is (ar + ai j)(br + bi j), its second factor
conjugated where the instruction says so. A tap also moves its delay line down by its sample, zeros coming in at the top, one cycle later. VCLR clears the values, seen one cycle later. -/
def Obligations.AccumulatingInstructionsAddToTheirAccumulator : Prop :=
  ∀ (s : State) (core : Fin 192) (x : ScCtx) (w : Nat), s.scGo core = some x → s.scWord core x.cmd.easel x.pc x.slot = w →
    let a := fun i => x.v (wA w) i
    let b := fun i => x.v (wB w) i
    let dl := fun i => x.dl (wA w) i
    let fit := fun (v : Int) => ((if wSat w then max (-(2 ^ 39)) (min (2 ^ 39 - 1) v) else v) % 2 ^ 40).toNat
    let re := fun (ar ai br bi : Int) => ar * br - ai * bi
    let im := fun (ar ai br bi : Int) => ar * bi + ai * br
    let conj := fun (c : Bool) (v : Int) => if c then -v else v
    let adds := fun (op : Nat) (c : Instr) (en : Nat → Bool) (lat : Nat) (val : Nat → Nat) (more : List ScWr) =>
      wOp w = op → ∃ t y, exec c s = .next t ∧ s.Issued t core x y ∧ y.wr = (x.lanes lat en (kAcc (wD w)) val).wr ++ more ∧
        (∀ i, i < 32 → y.rd (kSum (wD w) i) = if en i then val i else x.rd (kSum (wD w) i)) ∧
        (∀ k, (∀ i, i < 32 → k ≠ kSum (wD w) i) → y.rd k = x.rd k) ∧ { y with wr := x.wr, regs := x.regs } = x
    let sum := fun (f : Nat → Int) i => fit (sext 40 (x.rd (kSum (wD w) i)) + f i)
    let down := fun n => (List.range 96).map (fun i => (⟨x.cyc + 1, kD (wA w) i, if i + n < 96 then x.rd (kD (wA w) (i + n)) else 0, 0, false⟩ : ScWr))
    adds 0x03 (.vmac core) (x.en w false) 4 (sum (fun i => a i * b i)) [] ∧
    adds 0x04 (.vcmac core) (x.en w true) 4 (sum (fun i =>
      let j := i / 2 * 2
      let bi := conj ((wImm w).testBit 0) (b (j + 1))
      if i % 2 = 0 then re (a j) (a (j + 1)) (b j) bi else im (a j) (a (j + 1)) (b j) bi)) [] ∧
    adds 0x05 (.tapC core) (x.en w true) 4 (sum (fun i =>
      let j := i / 2 * 2
      let l := 2 * (wImm w % 16)
      let bi := conj ((wImm w).testBit 5) (b (l + 1))
      if i % 2 = 0 then re (dl j) (dl (j + 1)) (b l) bi else im (dl j) (dl (j + 1)) (b l) bi)) (down 2) ∧
    adds 0x06 (.tapR core) (x.en w false) 4 (sum (fun i => dl i * b (wImm w % 32))) (down 1) ∧
    adds 0x0E (.vclr core) (x.en w (wCplx w)) 1 (fun _ => 0) []

/-- VLD, LDF, LD, VST and ST (07 R202 to R204, R217, R218, R221, R222): the address is AN + 4 OFF modulo 2^32, in the DMEM share of the running command's easel; the elements PRED enables
are loaded, their registers written four cycles later, three for LD, or stored, and no other byte changes; POST puts the address in AN, one cycle later. A load that touches a poisoned
line ends its command with POISON at its packet. Nothing else of the block changes but the watermark. -/
def Obligations.LoadsAndStoresReachTheDataShare : Prop :=
  ∀ (s : State) (core : Fin 192) (x : ScCtx) (w : Nat), s.scGo core = some x → s.scWord core x.cmd.easel x.pc x.slot = w →
    let addr := (((x.a (wA w) : Int) + 4 * sext 11 (w % 2 ^ 11)) % 2 ^ 32).toNat
    let k := dmemKey core x.cmd.easel addr
    let half := fun i => (s.byte (k + 2 * i)).toNat + 256 * (s.byte (k + 2 * i + 1)).toNat
    let en := x.en w false
    let mask := (if en 0 then 0xFFFF else 0) + (if en 1 then 0xFFFF0000 else 0)
    let post := fun (y : ScCtx) => if wPost w ∧ wA w ≠ 0 then { y with wr := y.wr ++ [⟨x.cyc + 1, wA w, addr, 0, false⟩] } else y
    let loads := fun (op n : Nat) (c : Instr) (wr : List ScWr) => wOp w = op → s.flag (132 + core / 64) F.FLT_INJSTAT_ARMED = false →
      (s.poisoned k n = false → ∃ t, exec c s = .next t ∧ s.Issued t core x (post { x with wr := x.wr ++ wr })) ∧
      (s.poisoned k n = true → ∃ t, exec c s = .next t ∧ s.Issued t core x { x with ended := some (0x15, x.pc) })
    let stores := fun (op n : Nat) (c : Instr) (val : Nat → Nat) => wOp w = op → ∃ u t : State, exec c s = .next t ∧ u.Issued t core x (post x) ∧ u.sc = s.sc ∧
      (∀ i b, i < n → b < 2 → u.byte (k + 2 * i + b) = if en i then BitVec.ofNat 8 (val i / 256 ^ b) else s.byte (k + 2 * i + b)) ∧
      (∀ j, j < k ∨ k + 2 * n ≤ j → u.byte j = s.byte j) ∧
      (∀ v off, off < regSpan → off ≠ F.SC_EAS_WATERMARK_DM.off → u.reg v off = s.reg v off)
    loads 0x10 64 (.vld core none) (((List.range 32).filter en).map (fun i => ⟨x.cyc + 4, kV (wD w) i, half i, 0, false⟩)) ∧
    loads 0x12 64 (.ldf core none) (((List.range 32).filter en).map (fun i => ⟨x.cyc + 4, kD (wBits w 18 2) (32 * wBits w 20 2 + i), half i, 0, true⟩)) ∧
    loads 0x13 4 (.ld core none) (if wD w = 0 then [] else [⟨x.cyc + 3, wD w, s.readLe k 4 &&& mask, 0xFFFFFFFF - mask, false⟩]) ∧
    stores 0x11 32 (.vst core) (fun i => x.rd (kV (wD w) i)) ∧
    stores 0x14 2 (.st core) (fun i => if i = 0 then x.a (wD w) % 65536 else x.a (wD w) / 65536)

/-- The SB instructions (07 R203 to R208, R214, R215, R223; 09 R287 to R289), each issued only when bit 0 of its predicate is set: ADD, SUB, AND, OR, XOR, SHL and SHR of a 32-bit register with a
register or a signed immediate, written one cycle later (a count of 32 or more leaves a free value); CMP sets a predicate to all ones or zero; BR branches after three delay slots; REPEAT
opens a loop over the next packets or, with a count of zero, goes past them; SEMTRY takes a count if one is there and no take waits, and says so four cycles later; SEMSIG sends a signal;
DONE ends the command with OK. -/
def Obligations.ScalarAndControlInstructionsIssue : Prop :=
  ∀ (s : State) (core : Fin 192) (x : ScCtx) (w : Nat), s.scGo core = some x → s.scWord core x.cmd.easel x.pc x.slot = w →
    let a := BitVec.ofNat 32 (x.a (wA w))
    let b := if w.testBit 11 then BitVec.ofInt 32 (sext 11 (w % 2 ^ 11)) else BitVec.ofNat 32 (x.a (w % 2 ^ 5))
    let on := (x.p (wPred w)).testBit 0
    let all : List (Instr × Nat) := [(.add core, 0x20), (.sub core, 0x21), (.andS core, 0x22), (.orS core, 0x23), (.xorS core, 0x24), (.shl core, 0x25), (.shr core, 0x26), (.cmp core, 0x27),
      (.br core, 0x28), (.repeatLoop core, 0x29), (.semtry core, 0x2A), (.semsig core, 0x2B), (.doneCmd core, 0x2C)]
    let write := fun (lat k v : Nat) => ({ x with wr := x.wr ++ [⟨x.cyc + lat, k, v, 0, false⟩] } : ScCtx)
    let reg := fun (v : BitVec 32) => if wD w = 0 then x else write 1 (wD w) v.toNat
    let pred := fun (lat p : Nat) (v : Bool) => if p = 0 then x else write lat (32 + p) (if v then 0xFFFFFFFF else 0)
    let sem := semId (w % 2 ^ 11) (w.testBit 11)
    let runs := fun (op : Nat) (c : Instr) (y : ScCtx) => on = true → wOp w = op → ∃ t, exec c s = .next t ∧ s.Issued t core x y
    (∀ c ∈ all, wOp w ≠ c.2 → exec c.1 s = .next s) ∧
    (∀ c ∈ all, wOp w = c.2 → on = false → ∃ t, exec c.1 s = .next t ∧ s.Issued t core x x) ∧
    runs 0x20 (.add core) (reg (a + b)) ∧ runs 0x21 (.sub core) (reg (a - b)) ∧
    runs 0x22 (.andS core) (reg (a &&& b)) ∧ runs 0x23 (.orS core) (reg (a ||| b)) ∧ runs 0x24 (.xorS core) (reg (a ^^^ b)) ∧
    (on = true → wOp w = 0x25 → ∃ t v, exec (.shl core) s = .next t ∧ s.Issued t core x (reg v) ∧ (b.toNat < 32 → v = a <<< b.toNat)) ∧
    (on = true → wOp w = 0x26 → ∃ t v, exec (.shr core) s = .next t ∧ s.Issued t core x (reg v) ∧ (b.toNat < 32 → v.toInt = a.toInt / 2 ^ b.toNat)) ∧
    (wBits w 20 2 = 0 → runs 0x27 (.cmp core) (pred 1 (wBits w 17 3) (decide (a.toInt = b.toInt)))) ∧
    (wBits w 20 2 = 1 → runs 0x27 (.cmp core) (pred 1 (wBits w 17 3) (decide (a.toInt ≠ b.toInt)))) ∧
    (wBits w 20 2 = 2 → runs 0x27 (.cmp core) (pred 1 (wBits w 17 3) (decide (a.toInt < b.toInt)))) ∧
    (wBits w 20 2 = 3 → runs 0x27 (.cmp core) (pred 1 (wBits w 17 3) (decide (b.toInt ≤ a.toInt)))) ∧
    runs 0x28 (.br core) { x with delay := some (4, w % 2 ^ 12) } ∧
    (x.count w = 0 → runs 0x29 (.repeatLoop core) { x with pc := x.pc + (wBits w 14 8 + 1) }) ∧
    (x.count w ≠ 0 → runs 0x29 (.repeatLoop core) { x with
      loops := ⟨x.pc + 1, x.pc + (wBits w 14 8 + 1), x.count w⟩ :: x.loops, base := if x.loops = [] then x.cyc + 1 else x.base }) ∧
    (on = true → wOp w = 0x2A → s.semCount sem ≠ 0 → s.semWaiters sem = [] →
      ∃ t, exec (.semtry core) s = .next t ∧ (s.setSem sem (s.semCount sem - 1)).Issued t core x (pred 4 (wBits w 19 3) true)) ∧
    (s.semCount sem = 0 ∨ s.semWaiters sem ≠ [] → runs 0x2A (.semtry core) (pred 4 (wBits w 19 3) false)) ∧
    (on = true → wOp w = 0x2B → ∃ t, exec (.semsig core) s = .next t ∧ (s.sendSignal sem).Issued t core x x) ∧
    runs 0x2C (.doneCmd core) { x with ended := some (0, x.pc) }

/-- TC_MATMUL, TC_ELEMWISE, TC_RELEASE, TC_MARK and TC_PRELOAD (05 R126, R130, R139, R140, R142, R148, R153, R155, R159 to R162, R166): the first granted command of the opcode that meets the
launch conditions starts, and no other of its number stays granted. One that fails a check runs with the check's status and touches no memory; of those that pass, MARK only
completes, PRELOAD leaves each array's chunk 0 in its idle set, RELEASE zeroes its units and no other byte, ELEMWISE and MATMUL compute their output rows from the scratchpad, which their
completion writes, and a command that has nothing to reduce or to write ends EMPTY. Clean operands, without array or ECC errors, give OK. -/
def Obligations.TensorCommandsLaunch : Prop :=
  ∀ (s : State) (core : Fin 48) (c : Cmd),
    let finds := fun (op : Nat) => s.findLaunch core (fun d => decide (d.opcode = op)) [] (s.tcore core).granted = some c
    let started := fun (ins : Instr) (ends : List GroupEnd) (P : State → Prop) => ∃ t, exec ins s = .next t ∧ ⟨c, ends⟩ ∈ (t.tcore core).running ∧
      (∀ d ∈ (t.tcore core).granted, d.id ≠ c.id) ∧ P t
    let same := fun (t : State) => t.mem = s.mem
    let clean := s.poison = [] ∧ s.flag (36 + core) F.FLT_INJSTAT_ARMED = false ∧ s.flag (84 + core) F.FLT_INJSTAT_ARMED = false
    let key := fun (a : Nat) => scratchKey core c.easel a
    let all := fun (st : Nat) => c.recordGroups.map (fun g => (⟨g, st, 0, []⟩ : GroupEnd))
    (∀ op ins, (op, ins) ∈ [(1, Instr.tcMatmul core [] []), (2, .tcElemwise core [] []), (3, .tcRelease core), (4, .tcMark core), (5, .tcPreload core [])] → finds op →
      s.tcCheck core c ≠ 0 → s.tcCheck core c ≠ 0x14 → started ins (all (s.tcCheck core c)) same) ∧
    (s.tcCheck core c = 0 →
      (finds 4 → started (.tcMark core) (all 0) same) ∧
      (finds 5 → clean → started (.tcPreload core []) (all 0) (fun t => same t ∧
        ∀ a, a < 4 → c.arrays.testBit a = true → SMap.get (fun _ => TcWarm.none) (t.tcore core).warm a =
          ⟨c.easel, c.wAddr, c.fmtW, (List.range (sTile c.fmtW)).map (fun i => (s.byte (key (c.wAddr + a * c.wAStride + i))).toNat)⟩)) ∧
      (finds 3 → started (.tcRelease core) (all 0) (fun t =>
        (∀ a, 65536 * c.unitBase ≤ a → a < 65536 * (c.unitBase + c.unitCount) → t.byte (key a) = 0) ∧
        (∀ k, k < key (65536 * c.unitBase) ∨ key (65536 * (c.unitBase + c.unitCount)) ≤ k → t.byte k = s.byte k))) ∧
      (finds 2 → c.k = 0 → started (.tcElemwise core [] []) (all 1) same) ∧
      (finds 2 → c.k ≠ 0 → clean → started (.tcElemwise core [] []) [⟨0xF, 0, 0, [(c.outAddr, c.elemRow (fun a => (s.byte (key a)).toNat))]⟩] same) ∧
      (finds 1 → c.m = 0 ∨ c.n = 0 → started (.tcMatmul core [] []) (all 1) same) ∧
      (finds 1 → c.m ≠ 0 → c.n ≠ 0 → clean → (∀ a i, s.wgtByte core c a i < 256) → started (.tcMatmul core [] [])
        ((List.range c.groupCount).map (fun g => ⟨if 1 < c.groupCount then g else 0xF, if c.k = 0 then 1 else 0, 0,
          c.matRows (fun a => (s.byte (key a)).toNat) (fun a i => s.wgtByte core c a i) (c.mode.getD .float8) g⟩)) same))

/-- TC_COMPLETION, SC_COMPLETION and REPEAT_CEILING (05 R161; 07 R209, R223, R226, R227; 10 R333 to R335): the record named by the command of a T-core, or that of the context that runs on
an S-core, joins the records of its easel, in order, with its status and counts and the time of day; it waits while the completion ring is not enabled. A T-core's record goes with the output rows
of its group, which are then in the scratchpad (05 R130). With its last record the command
leaves the core and its easel's outstanding commands, and is counted; a loop that breaks the repeat ceiling ends with REPEAT_CEILING. Stated for commands without a signal or a step end,
while another command of the easel is outstanding. -/
def Obligations.EndsOfCoreCommandsPostTheirRecords : Prop :=
  ∀ (s : State) (e : Nat),
    let posted := fun (s : State) => SMap.get (fun _ => []) s.sched.undelivered e
    let other := fun (id : Nat) => (∃ i ∈ s.live e, i ≠ id) ∧ SMap.get (fun _ => []) s.sched.marks e = []
    s.flag e F.EAS_CTRL_ENABLE = false →
    (∀ (core : Fin 48) id group cycles busy r en, (∀ d ∈ (s.tcore core).granted, d.id ≠ id) → (s.tcore core).running.find? (fun x => decide (x.cmd.id = id)) = some r →
      r.ends.find? (fun x => decide (x.group = group)) = some en → r.cmd.radio = false → r.cmd.easel = e →
      let rest := r.ends.filter (fun x => decide (x.group ≠ group))
      let c := r.cmd
      (rest = [] → c.signalEn = false ∧ c.stepEnd = false ∧ other id) → ∃ t, exec (.tcCompletion core id group cycles busy) s = .next t ∧
        posted t = posted s ++ [⟨1, tcRecord c.tag en.status group e core en.arrays (c.cycles en cycles), s.nowNs⟩] ∧
        t.mem = (en.rows.foldl (fun (u : State) p => u.writeBytes (scratchKey core e p.1) p.2) s).mem ∧
        (rest ≠ [] → (t.tcore core).running = (s.tcore core).running.map (fun x => if x.cmd.id = id then { x with ends := rest } else x) ∧ t.live e = s.live e) ∧
        (rest = [] → (t.tcore core).running = (s.tcore core).running.filter (fun x => decide (x.cmd.id ≠ id)) ∧ t.live e = (s.live e).filter (fun i => decide (i ≠ id)) ∧
          t.fld core F.TC_DONE_COUNT = (s.fld core F.TC_DONE_COUNT + 1) % 2 ^ 32)) ∧
    (∀ (core : Fin 192) (x : ScCtx) parked, (s.score core).cur = some x → x.cmd.radio = false → x.cmd.easel = e → x.cmd.scSignalEn = false → x.cmd.stepEnd = false → other x.cmd.id →
      let ends := fun (ins : Instr) (st pc : Nat) => ∃ t, exec ins s = .next t ∧
        posted t = posted s ++ [⟨2, scRecord x.cmd.tag st x.overran x.parked e core pc x.cyc parked, s.nowNs⟩] ∧ t.mem = s.mem ∧ (t.score core).tenant = none ∧ (t.score core).running = none ∧
        (t.score core).radio = (s.score core).radio ∧ t.live e = (s.live e).filter (fun i => decide (i ≠ x.cmd.id)) ∧ t.fld core F.SC_DONE_COUNT = (s.fld core F.SC_DONE_COUNT + 1) % 2 ^ 32
      (∀ pm st pc, x.ended = some (st, pc) → st ≠ 0x14 → ends (.scCompletion core pm parked) st pc) ∧
      (s.scGo core = none → x.slot = 0 → x.cmd.opcode = 1 → x.ended = none → (s.score core).halted = false → s.scExcept core x = none → s.scCeiling core x = true →
        ends (.repeatCeiling core parked) 0x22 x.pc))

/-- S-core commands of an easel (07 R193, R194, R211, R212, R223, R225, R232; 20 R567): SC_RUN starts a granted program that can launch at ENTRY, every register zero but A1 to A5; SC_MARK,
SC_RELEASE and SC_LOADPROG, their checks passed, do their work at launch: nothing, zeroed units, packets copied from DMEM to PMEM. PREEMPT_SWITCH parks the command of context 1 at a
boundary without delay slots or loops, where it neither ends by an exception nor breaks its ceiling, and starts the radio command granted, a program or a mark; OVERRUN marks a command that has issued RUN_LEN packets and counts it; DEBUG_HALT stops the core at such a
boundary, its writes landed, and not before. -/
def Obligations.SignalCoresStartSwitchAndHalt : Prop :=
  ∀ (s : State) (core : Fin 192) (c : Cmd),
    let finds := fun (op : Nat) => s.scFind core (fun d => decide (d.opcode = op)) [] (s.score core).granted = some c ∧ s.scCheck core c = 0
    let starts := fun (ins : Instr) (x : ScCtx) (P : State → Prop) => ∃ t, exec ins s = .next t ∧ (t.score core).ctx c.radio = some x ∧ (t.score core).running = some c.radio ∧
      (t.score core).ctx (!c.radio) = (s.score core).ctx (!c.radio) ∧ (∀ d ∈ (t.score core).granted, d.id ≠ c.id) ∧ P t
    let same := fun (t : State) => t.mem = s.mem
    let done := { ScCtx.start c with ended := some (0, c.scEntry) }
    let dm := fun (a : Nat) => dmemKey core c.easel a
    (finds 1 → starts (.scRun core) (ScCtx.start c) same) ∧
    (finds 4 → starts (.scMark core) done same) ∧
    (finds 3 → c.scArg 2 % 2 = 0 → starts (.scRelease core) done (fun t => ∀ k, t.byte k = if dm (4096 * c.scArg 0) ≤ k ∧ k < dm (4096 * (c.scArg 0 + c.scArg 1)) then 0 else s.byte k)) ∧
    (finds 6 → s.flag (132 + core / 64) F.FLT_INJSTAT_ARMED = false → s.poisoned (dm (c.scArg 0)) (16 * c.scArg 1) = false →
      starts (.scLoadprog core none) done (fun t => ∀ k, t.byte k = (s.writeBytes (pmemKey core c.easel (16 * c.scEntry)) (s.readBytes (dm (c.scArg 0)) (16 * c.scArg 1))).byte k)) ∧
    (∀ x, let bound := x.slot = 0 ∧ x.delay = none ∧ x.loops = []
      ((s.score core).running = some false → (s.score core).tenant = some x → (s.score core).granted.find? (·.radio) = some c → x.cmd.opcode = 1 → bound → x.ended = none →
        (s.score core).radio = none → (s.score core).halted = false → s.scExcept core x = none → s.scCeiling core x = false → c.radio = true → c.opcode = 1 ∨ c.opcode = 4 →
        ∃ t, exec (.preemptSwitch core none) s = .next t ∧ (t.score core).running = some true ∧ (t.score core).tenant = some { x.landAll with parked := true } ∧
          (t.score core).radio = some { ScCtx.start c with ended := if s.scCheck core c = 0 ∧ c.opcode = 1 then none else some (s.scCheck core c, c.scEntry) } ∧
          t.fld core F.SC_PREEMPT_COUNT = (s.fld core F.SC_PREEMPT_COUNT + 1) % 2 ^ F.SC_PREEMPT_COUNT.width ∧ same t) ∧
      ((s.score core).cur = some x → x.overrunDue = true → x.cmd.opcode = 1 → x.ended = none → x.slot = 0 → (s.score core).running = some false →
        ∃ t, exec (.overrun core) s = .next t ∧ t.fld (ce core x.cmd.easel) F.SC_EAS_OVERRUNS_COUNT = min (s.fld (ce core x.cmd.easel) F.SC_EAS_OVERRUNS_COUNT + 1) (2 ^ F.SC_EAS_OVERRUNS_COUNT.width - 1) ∧
          (t.score core).tenant = some { x with overran := true }) ∧
      ((s.score core).cur = some x → s.power powHalt = true → (s.score core).halted = false → bound → ∃ t, exec (.debugHalt core) s = .next t ∧ (t.score core).halted = true ∧
        (t.score core).cur = some x.landAll ∧ same t) ∧
      ((s.score core).cur = some x → ¬ bound → exec (.debugHalt core) s = .next s))

/-- DIM, RUN, WRAP, GATHER, ADV, LOOP, SWAIT, SSIG, FENCE, ARM and END (09 R271, R276 to R284, R287 to R289, R293): a channel that holds a thread runs the instruction its started stroke stands at, and
goes on with the next one; a malformed operand ends the descriptor and its run (here one that holds no further descriptor in hand) with its status, shown with the instruction in the channel's fault registers. A LOOP returns to its target until
it has run its count; SWAIT takes a granted count; SSIG and FENCE wait for the channel's fabric operations; END hands the descriptor over to drain. No memory changes, and no instruction
acts where the stroke stands at another. -/
def Obligations.StrokeInstructionsRun : Prop :=
  ∀ (s : State) (ch : Fin 2048),
    let all : List (Instr × Nat) := [(.dim ch, 1), (.strokeRun ch, 2), (.wrap ch, 3), (.gather ch, 4), (.adv ch, 6), (.loopStroke ch, 7), (.swait ch, 8), (.ssig ch, 9), (.fence ch, 10), (.strokeArm ch, 11), (.endStroke ch, 15)]
    ((s.chan ch).thread = none → ∀ c ∈ all, exec c.1 s = .next s) ∧
    ∀ th x i, (s.chan ch).thread = some th → (s.chan ch).exec = some x → x.started = true → x.stroke[x.pc]? = some i →
      let goes := fun (ins : Instr) (y : StrExec) => ∃ t, exec ins s = .next t ∧ t.chan ch = { s.chan ch with exec := some y } ∧ (∀ n, n ≠ ch.val → t.chan n = s.chan n) ∧
        t.fld ch F.STR_CH_STATE_PC = y.pc % 32 ∧ t.mem = s.mem ∧ t.out = s.out
      let fails := fun (ins : Instr) (st : Nat) => ∀ r, (s.chan ch).run = some r → r.hand = [] → ∃ t, exec ins s = .next t ∧ t.fld ch F.STR_CH_FAULT_STATUS = st ∧ t.fld ch F.STR_CH_FAULT_PC = x.pc % 32 ∧ t.mem = s.mem ∧
        (t.chan ch).exec = none ∧ (t.chan ch).drain = (s.chan ch).drain ++ [{ x.done with status := st, stPc := x.pc }] ∧ (t.chan ch).run = some { r with ending := some 0x33 }
      let y := { x with pc := x.pc + 1 }
      let d := i.a % 8
      let side := if i.a.testBit 3 then x.dst else x.src
      let space := fun (b : Bool) => if b then x.dstSpace else x.srcSpace
      (∀ c ∈ all, i.op ≠ c.2 → exec c.1 s = .next s) ∧
      (i.op = 1 → (i.d % 4 = 0 ∧ i.e % 4 = 0 → goes (.dim ch) { y with
          counts := x.counts.set d (if i.a.testBit 4 then fieldLe x.desc (if i.a.testBit 5 then 0x34 else 0x30) 4 else i.c),
          src := { x.src with strides := x.src.strides.set d (sext 32 i.d) }, dst := { x.dst with strides := x.dst.strides.set d (sext 32 i.e) } }) ∧
        (¬ (i.d % 4 = 0 ∧ i.e % 4 = 0) → fails (.dim ch) 0x13)) ∧
      (i.op = 2 → (4 ≤ i.c ∧ i.c ≤ 65536 ∧ i.c % 4 = 0 → goes (.strokeRun ch) { y with run := i.c }) ∧ (i.c < 4 ∨ 65536 < i.c → fails (.strokeRun ch) 0x12)) ∧
      (i.op = 3 → (space (decide (i.a ≠ 0)) ≠ 4 ∧ i.c % 64 = 0 ∧ 64 ≤ i.c → (i.a = 0 → goes (.wrap ch) { y with src := { x.src with wrap := i.c } }) ∧ (i.a ≠ 0 → goes (.wrap ch) { y with dst := { x.dst with wrap := i.c } })) ∧
        (i.c % 64 ≠ 0 → fails (.wrap ch) 0x12)) ∧
      (i.op = 4 → (space (i.a.testBit 3) ≠ 4 ∧ side.gather = none ∧ i.b ≤ 20 →
          (i.a.testBit 3 = false → goes (.gather ch) { y with src := { x.src with gather := some ⟨d, i.a.testBit 4, i.b⟩ } }) ∧
          (i.a.testBit 3 = true → goes (.gather ch) { y with dst := { x.dst with gather := some ⟨d, i.a.testBit 4, i.b⟩ } })) ∧ (20 < i.b → fails (.gather ch) 0x12)) ∧
      (i.op = 6 → (i.c % 4 = 0 → (i.a = 0 → goes (.adv ch) { y with src := { x.src with cur := x.src.cur + sext 64 (i.c + 2 ^ 32 * i.d) } }) ∧
          (i.a ≠ 0 → goes (.adv ch) { y with dst := { x.dst with cur := x.dst.cur + sext 64 (i.c + 2 ^ 32 * i.d) } })) ∧ (i.c % 4 ≠ 0 → fails (.adv ch) 0x13)) ∧
      (i.op = 7 → let c := if i.a.testBit 4 then fieldLe x.desc (if i.a.testBit 5 then 0x34 else 0x30) 4 else i.c
        let ran := SMap.get (fun _ => 0) x.loops x.pc + 1
        (c ≠ 0 → c ≤ 16777216 → ran < c → goes (.loopStroke ch) { x with pc := i.b, loops := SMap.set (fun _ => 0) x.loops x.pc ran }) ∧
        (c ≠ 0 → c ≤ 16777216 → c ≤ ran → goes (.loopStroke ch) { y with loops := SMap.set (fun _ => 0) x.loops x.pc 0 }) ∧ (c = 0 → fails (.loopStroke ch) 0x12)) ∧
      (i.op = 8 → (s.ownsLink (s.chEasel ch) i.b = true → s.takeGranted (.channel ch) = true → goes (.swait ch) y) ∧ (s.ownsLink (s.chEasel ch) i.b = false → fails (.swait ch) 0x1A)) ∧
      (i.op = 9 → (s.ownsLink (s.chEasel ch) i.b = true → s.chOps ch = [] → goes (.ssig ch) y) ∧ (s.ownsLink (s.chEasel ch) i.b = true → s.chOps ch ≠ [] → exec (.ssig ch) s = .next s)) ∧
      (i.op = 10 → (s.chOps ch = [] → s.flag 148 F.FLT_INJSTAT_ARMED = false → goes (.fence ch) y) ∧ (s.chOps ch ≠ [] → exec (.fence ch) s = .next s)) ∧
      (i.op = 11 → s.ownsLink (s.chEasel ch) i.b = true → 0 < i.c → i.c < 65536 → i.b ≠ ch → (s.chan i.b).run = none →
        ∃ t, exec (.strokeArm ch) s = .next t ∧ t.chan ch = { s.chan ch with exec := some y } ∧
          (t.chan i.b).run = some ⟨⟨64 * fieldLe x.desc 0x30 4, i.c, false, .stroke⟩, s.sched.nextId, [], 0, 0, none, false, false, false⟩ ∧ t.fld i.b F.STR_CH_STATE_STATE = 1) ∧
      (i.op = 15 → ∃ t, exec (.endStroke ch) s = .next t ∧ (t.chan ch).exec = none ∧ (t.chan ch).drain = (s.chan ch).drain ++ [x.done] ∧ (t.chan ch).thread = none ∧ (t.chan ch).run = (s.chan ch).run ∧ t.mem = s.mem)

/-- The commands around a stream channel (09 R271, R273, R284, R287 to R292, R296, R303, R327, R328): ARM starts an idle channel's run, is latched while one runs, and coalesces with a pending arm; RESUME
and SKIP take a halted channel on, ABORT ends its run with the status that halted it or with ABORTED; a semaphore write sets both counts, and a signal adds one;
a burst of up to 16 descriptors joins those in hand; a ready channel takes a free thread; a parked channel whose operations are done is ready again; and the oldest ended descriptor completes.
A requester that does not own the channel changes nothing. -/
def Obligations.ChannelsAreArmedFedAndServed : Prop :=
  ∀ (s : State) (req : Requester) (ch : Fin 2048),
    let c := s.chan ch
    let e := s.chEasel ch
    let arm : Arm := ⟨s.fld64 ch F.STR_CH_ARM_ADDR_LO_ADDR F.STR_CH_ARM_ADDR_HI_ADDR, s.fld ch F.STR_CH_ARM_CNT_COUNT, s.flag ch F.STR_CH_ARM_CNT_SPACE, .register⟩
    let mine := s.mayCommand req ch = true
    let reach := fun (o : Nat) => s.barOpen req o = true ∧ s.unitAt req o = ch.val
    let ctrl := reach F.STR_CH_CTRL_ARM.off
    let kept := s.str.finished = []
    (∀ v, kept → ctrl → reach F.STR_CH_SEM_FULL.off → s.mayCommand req ch = false → req.manages = false →
      ∀ i ∈ [Instr.channelArm req, .channelResume req, .channelSkip req, .channelAbort req, .semaphoreSet req v], exec i s = .next s) ∧
    (ctrl → mine → arm.count ≠ 0 →
      (c.run = none → ∃ t, exec (.channelArm req) s = .next t ∧ (t.chan ch).run = some ⟨arm, s.sched.nextId, [], 0, 0, none, false, false, false⟩ ∧ t.fld ch F.STR_CH_STATE_STATE = 1) ∧
      (c.run ≠ none → c.pend = none → ∃ t, exec (.channelArm req) s = .next t ∧ t.chan ch = { c with pend := some arm }) ∧
      (∀ p, c.run ≠ none → c.pend = some p → ∃ t, exec (.channelArm req) s = .next t ∧ t.chan ch = { c with pend := some { arm with origin := p.origin.join .register }, pendOver := true } ∧
        t.fld ch F.STR_CH_OVERRUN_COUNT = min (s.fld ch F.STR_CH_OVERRUN_COUNT + 1) (2 ^ F.STR_CH_OVERRUN_COUNT.width - 1))) ∧
    (∀ x st, ctrl → mine → c.halt = some st → c.exec = some x → c.failed = [] → (∀ o ∈ s.yz.ops, o.sent = true) →
      (∃ t, exec (.channelResume req) s = .next t ∧ t.chan ch = { c with halt := none } ∧ ch.val ∈ t.str.ready) ∧
      (∃ t, exec (.channelSkip req) s = .next t ∧ t.chan ch = { c with halt := none, exec := some x.skip } ∧ ch.val ∈ t.str.ready)) ∧
    (∀ x r, kept → ctrl → mine → c.run = some r → r.hand = [] → r.arm.origin ≠ .engine → c.exec = some x → ∃ t, exec (.channelAbort req) s = .next t ∧ (t.chan ch).exec = none ∧ (t.chan ch).halt = none ∧
      (t.chan ch).drain = c.drain ++ [{ x.done with status := c.halt.getD 0x33, stPc := x.pc }] ∧ (t.chan ch).run = some { r with ending := some 0x33 }) ∧
    (∀ v : BitVec 32, reach F.STR_CH_SEM_FULL.off → mine → s.semWaiters (2 * ch) = [] → s.semWaiters (2 * ch + 1) = [] → ∃ t, exec (.semaphoreSet req v) s = .next t ∧ t.semCount (2 * ch) = v.toNat % 65536 ∧ t.semCount (2 * ch + 1) = v.toNat / 65536) ∧
    (∀ m : BitVec 12, m.toNat ∈ s.sched.signals → s.semWaiters m.toNat = [] → s.semCount m.toNat < 65535 →
      ∃ t, exec (.semaphoreSignalArrival m) s = .next t ∧ t.semCount m.toNat = s.semCount m.toNat + 1 ∧ t.sched.signals = s.sched.signals.erase m.toNat) ∧
    (∀ m : BitVec 12, m.toNat ∉ s.sched.signals → exec (.semaphoreSignalArrival m) s = .next s) ∧
    (∀ r host, kept → c.run = some r → r.hand = [] → r.ending = none → c.halt = none → c.exec = none → r.arm.host = false → r.fetched < r.arm.count →
      let k := min 16 (r.arm.count - r.fetched)
      let a := r.arm.addr + 64 * r.fetched
      s.inShare e a (64 * k) = true → s.poison = [] → s.seqOn e = false → s.flag (s.stackOf e (a / 64 * 64 / 65536)) F.FLT_INJSTAT_ARMED = false →
      ∃ t hand, exec (.descriptorFetchDone ch host false) s = .next t ∧ (t.chan ch).run = some { r with hand := hand, fetched := r.fetched + k } ∧
        hand = (List.range k).map (fun i => (List.range 64).map (fun j => (s.byte (bondKey e (a + 64 * i + j))).toNat)) ∧ t.mem = s.mem) ∧
    (c.parked = true → s.chOps ch = [] → ∃ t, exec (.parkedWaitDone ch) s = .next t ∧ t.chan ch = { c with parked := false } ∧ (c.exec ≠ none → ch.val ∈ t.str.ready)) ∧
    (c.parked = false ∨ s.chOps ch ≠ [] → exec (.parkedWaitDone ch) s = .next s) ∧
    (∀ th : Fin 64, let p := s.fld ch F.STR_CH_CFG_PANEL
      s.nextForThread p = some ch.val → c.thread = none → c.halt = none → (s.holders p).length < 64 → (∀ m ∈ s.holders p, (s.chan m).thread ≠ some th.val) → s.threadQuota ch = true →
      ∃ t, exec (.threadTake ch th) s = .next t ∧ t.chan ch = { c with thread := some th.val } ∧ ch.val ∉ t.str.ready ∧ t.fld ch F.STR_CH_STATE_STATE = 2 ∧ t.fld ch F.STR_CH_STATE_THREAD = th) ∧
    (∀ x is, c.thread ≠ none → c.exec = some x → x.started = false → s.descCheck e x = 0 → x.waitWord.testBit 11 = false → x.lib = false →
      let a := 256 * fieldLe x.desc 4 4
      upToEnd 32 (cutInstrs 32 ((List.range 512).map (fun i => (s.byte (bondKey e (a + i))).toNat))) = some is → strokeOk is = true → s.inShare e a (16 * is.length) = true → s.poison = [] → s.seqOn e = false →
      s.flag (s.stackOf e (a / 64 * 64 / 65536)) F.FLT_INJSTAT_ARMED = false → ∃ t, exec (.strokeStart ch none) s = .next t ∧ t.chan ch = { c with exec := some { x with stroke := is, started := true } } ∧ t.mem = s.mem) ∧
    (∀ d ds r, kept → c.halt = none → c.parked = false → c.drain = d :: ds → c.run = some r → s.descOps ch d.index = [] → c.failed = [] → d.status = 0 → (signalWord d.desc).testBit 11 = false → fieldLe d.desc 2 2 = 0 → ds ≠ [] →
      (∃ i ∈ s.live e, i ≠ r.base + d.index) → SMap.get (fun _ => []) s.sched.marks e = [] →
      ∃ t, exec (.descriptorComplete ch) s = .next t ∧ t.chan ch = { c with drain := ds } ∧ t.fld ch F.STR_CH_DONE_COUNT = (s.fld ch F.STR_CH_DONE_COUNT + 1) % 2 ^ 32 ∧ 
        t.live e = (if d.index + 1 = r.arm.count then (s.live e).filter (fun i => decide (i ≠ r.base + d.index)) else (s.live e).map (fun i => if i = r.base + d.index then r.base + d.index + 1 else i)))

/-- MOVE, and the two events that take a waiting one on (09 R275, R280, R281, R283, R299, R300, R305): a MOVE of one request copies its run from the source address to the destination address of
the easel's bonded memory, or with ZERO writes zeros, every other byte keeping its value; its bytes are counted in its descriptor and in the channel's count, and the channel goes on with the next
instruction. A MOVE with no source ends with SPACE and one with no run with SHAPE (here with no further descriptor in hand). Where the Palette queue it reads holds too few bytes the channel waits without a thread, nothing written, and is ready
again when bytes arrive, or, for a queue it writes, when a granule is available. -/
def Obligations.MovesCopyZeroAndWait : Prop :=
  ∀ (s : State) (ch : Fin 2048) (host idx : Blob) (hf : Option Nat),
    let e := s.chEasel ch
    let mv : Instr := .moveNest ch host idx hf []
    ((s.chan ch).thread = none → exec mv s = .next s) ∧
    (∀ th x i, (s.chan ch).thread = some th → (s.chan ch).exec = some x → x.started = true → x.stroke[x.pc]? = some i → i.op ≠ 5 → exec mv s = .next s) ∧
    (∀ th x i, (s.chan ch).thread = some th → (s.chan ch).exec = some x → x.started = true → x.stroke[x.pc]? = some i → i.op = 5 → x.reqs = 0 → x.counts.foldl (· * ·) 1 = 1 →
      x.src.gather = none → x.dst.gather = none → x.src.wrap = 0 → x.dst.wrap = 0 → (∀ o ∈ s.yz.ops, o.sent = true) →
      let sa := (((x.srcBase : Int) + x.src.cur) % 2 ^ 64).toNat
      let da := (((x.dstBase : Int) + x.dst.cur) % 2 ^ 64).toNat
      let fails := fun (st : Nat) => ∀ r, (s.chan ch).run = some r → r.hand = [] → ∃ t, exec mv s = .next t ∧ t.mem = s.mem ∧ t.fld ch F.STR_CH_FAULT_STATUS = st ∧ (t.chan ch).exec = none ∧ (t.chan ch).drain = (s.chan ch).drain ++ [{ x.done with status := st, stPc := x.pc }]
      (4 ≤ x.run → x.run ≤ 256 → x.dstSpace = 1 → da % 4 = 0 → s.inShare e da x.run = true → s.poison = [] → s.seqOn e = false →
        (i.a = 1 ∧ x.srcSpace ≠ 5 ∨ i.a ≠ 1 ∧ x.srcSpace = 1 ∧ sa % 4 = 0 ∧ s.inShare e sa x.run = true ∧ s.flag (s.stackOf e (sa / 64 * 64 / 65536)) F.FLT_INJSTAT_ARMED = false) →
        ∃ t, exec mv s = .next t ∧ t.chan ch = { s.chan ch with exec := some { x with pc := x.pc + 1, bytes := (x.bytes + x.run) % 2 ^ 32, moving := false } } ∧
          (∀ j, j < x.run → t.byte (bondKey e (da + j)) = if i.a = 1 then 0 else s.byte (bondKey e (sa + j))) ∧
          (∀ k, k < bondKey e da ∨ bondKey e (da + x.run) ≤ k → t.byte k = s.byte k) ∧
          t.fld64 ch F.STR_CH_BYTES_LO_BYTES F.STR_CH_BYTES_HI_BYTES = (s.fld64 ch F.STR_CH_BYTES_LO_BYTES F.STR_CH_BYTES_HI_BYTES + x.run) % 2 ^ 64) ∧
      (x.srcSpace = 0 → i.a ≠ 1 → fails 0x30) ∧
      (x.srcSpace ≠ 0 → x.run = 0 → fails 0x12) ∧
      (4 ≤ x.run → x.run ≤ 256 → x.srcSpace = 4 → i.a ≠ 1 → (x.dstSpace = 1 ∨ x.dstSpace = 2 ∨ x.dstSpace = 3) → da % 4 = 0 → (s.palQ x.srcTarget).readable < x.run →
        ∃ t, exec mv s = .next t ∧ t.mem = s.mem ∧ t.chan ch = { s.chan ch with exec := some { x with bytes := x.bytes % 2 ^ 32, moving := x.moving || !s.palBusy ch x.srcTarget }, thread := none } ∧ t.fld ch F.STR_CH_STATE_STATE = 4)) ∧
    (∀ x, (s.chan ch).exec = some x → s.fld ch F.STR_CH_STATE_STATE = 4 →
      (x.srcSpace = 4 → 0 < (s.palQ x.srcTarget).readable → s.palBusy ch x.srcTarget = false → ∃ t, exec (.paletteReadResume ch) s = .next t ∧ t.chan ch = s.chan ch ∧ ch.val ∈ t.str.ready ∧ t.mem = s.mem) ∧
      (x.dstSpace = 4 → s.palCanGrow x.dstTarget ((s.palQ x.dstTarget).held + 1) = true → ∃ t, exec (.granuleWaitResume ch) s = .next t ∧ t.chan ch = s.chan ch ∧ ch.val ∈ t.str.ready ∧ t.mem = s.mem)) ∧
    (s.fld ch F.STR_CH_STATE_STATE ≠ 4 → exec (.paletteReadResume ch) s = .next s ∧ exec (.granuleWaitResume ch) s = .next s)

/-- EAS_SQ_TAIL, EAS_CTRL.ENABLE and EAS_CQ_HEAD as their owner writes them, and the admission of the submission ring's head entry to a T-core, an S-core or a channel (10 R314 to R317, R333,
R334, R336, R607): an index beyond the ring and a write of another requester change nothing; enabling a ring clears its heads and tails; an entry is fetched from where the ring lies, joins its core's
queue with the next command number and the scheduler's EASEL field, or arms its channel unless its count is zero; after a fault a ring is not fetched from until its index is written again; an entry whose queue is full waits; one that cannot be executed leaves its record and the ring goes on. -/
def Obligations.SubmissionRingsAreEnabledAndAdmitted : Prop :=
  ∀ (s : State) (e : Fin 64) (host : Blob),
    let sq := sqRing e
    let again := fun (r : Nat) => if s.ringNote r = 1 then 2 else s.ringNote r
    let reach := fun (req : Requester) => ∀ o ∈ [F.EAS_SQ_TAIL_TAIL.off, F.EAS_CTRL_ENABLE.off, F.EAS_CQ_HEAD_HEAD.off], s.barOpen req o = true ∧ s.unitAt req o = e.val
    (∀ req v, reach req → ownsEas req e = false → exec (.sqTailWrite req v) s = .next s ∧ exec (.easelEnable req) s = .next s ∧ exec (.cqHeadWrite req v) s = .next s) ∧
    (∀ req (v : BitVec 16), reach req → ownsEas req e = true →
      (2 ^ s.fld e F.EAS_SQ_SIZE_SIZE ≤ v.toNat → exec (.sqTailWrite req v) s = .next s) ∧
      (2 ^ s.fld e F.EAS_CQ_SIZE_SIZE ≤ v.toNat → exec (.cqHeadWrite req v) s = .next s) ∧
      (v.toNat < 2 ^ s.fld e F.EAS_SQ_SIZE_SIZE → ∃ t, exec (.sqTailWrite req v) s = .next t ∧ t.fld e F.EAS_SQ_TAIL_TAIL = v.toNat ∧ t.ringNote sq = again sq ∧ t.mem = s.mem ∧
        ∀ u off, off < regSpan → off ≠ F.EAS_SQ_TAIL_TAIL.off → off ≠ F.EAS_STATUS_RING_FAULT.off → t.reg u off = s.reg u off) ∧
      (SMap.get (fun _ => []) s.sched.undelivered e.val = [] →
        (v.toNat < 2 ^ s.fld e F.EAS_CQ_SIZE_SIZE → ∃ t, exec (.cqHeadWrite req v) s = .next t ∧ t.fld e F.EAS_CQ_HEAD_HEAD = v.toNat ∧ t.ringNote (cqRing e) = again (cqRing e) ∧
          t.flag e F.EAS_STATUS_CQ_FULL = decide ((s.fld e F.EAS_CQ_TAIL_TAIL + 1) % 2 ^ s.fld e F.EAS_CQ_SIZE_SIZE = v.toNat) ∧ t.mem = s.mem ∧ t.out = s.out) ∧
        (s.flag e F.EAS_CTRL_ENABLE = false → ∃ t, exec (.easelEnable req) s = .next t ∧ t.flag e F.EAS_CTRL_ENABLE = true ∧ t.fld e F.EAS_SQ_TAIL_TAIL = 0 ∧ t.fld e F.EAS_SQ_HEAD_HEAD = 0 ∧
          t.fld e F.EAS_CQ_TAIL_TAIL = 0 ∧ t.fld e F.EAS_CQ_HEAD_HEAD = 0 ∧ t.flag e F.EAS_STATUS_RING_FAULT = false ∧ SMap.get ringDefault t.sched.ring e.val = ⟨true, 0⟩ ∧ t.mem = s.mem)) ∧
      (s.flag e F.EAS_CTRL_ENABLE = true → exec (.easelEnable req) s = .next s)) ∧
    (∀ ins ∈ [Instr.submitTCore e host, .submitSCore e host, .submitChannelArm e host],
      s.flag e F.EAS_CTRL_ENABLE = false ∨ NSet.has e.val s.ten.stopped = true ∨ s.fld e F.EAS_SQ_TAIL_TAIL = s.fld e F.EAS_SQ_HEAD_HEAD ∨ s.ringNote sq = 1 → exec ins s = .next s) ∧
    (s.sqWaiting e = true →
      let a := s.fld64 e F.EAS_SQ_BASE_LO_ADDR F.EAS_SQ_BASE_HI_ADDR + 128 * s.fld e F.EAS_SQ_HEAD_HEAD
      ∀ d, (s.flag e F.EAS_SQ_SIZE_SPACE = false ∧ s.hostUp = true ∧ s.translates e a = true ∧ d = (List.range 128).map host.byte ∨
          s.flag e F.EAS_SQ_SIZE_SPACE = true ∧ s.inShare e a 128 = true ∧ s.poison = [] ∧ s.seqOn e = false ∧ s.flag (s.stackOf e (a / 64 * 64 / 65536)) F.FLT_INJSTAT_ARMED = false ∧
            d = (List.range 128).map (fun i => (s.byte (bondKey e (a + i))).toNat)) →
        let k := nth 0 d 0
        let target := fieldLe d 2 2
        let done := fun (t : State) => t.fld e F.EAS_SQ_HEAD_HEAD = (s.fld e F.EAS_SQ_HEAD_HEAD + 1) % 2 ^ s.fld e F.EAS_SQ_SIZE_SIZE % 2 ^ 16 ∧ t.flag e F.EAS_STATUS_RING_WAIT = false ∧ t.mem = s.mem
        let id := s.sched.nextId
        (∀ c ∈ [(1, Instr.submitTCore e host), (2, .submitSCore e host), (3, .submitChannelArm e host)],
          (k ≠ c.1 → kindKnown k = true → exec c.2 s = .next s) ∧
          (k = c.1 → s.entryRefused e d = none → s.queueRoom e k target = false → ∃ t, exec c.2 s = .next t ∧ t.flag e F.EAS_STATUS_RING_WAIT = true ∧
            t.fld e F.EAS_SQ_HEAD_HEAD = s.fld e F.EAS_SQ_HEAD_HEAD ∧ t.tc = s.tc ∧ t.sc = s.sc ∧ t.str = s.str ∧ t.mem = s.mem) ∧
          (∀ st, k = c.1 ∨ kindKnown k = false → s.entryRefused e d = some st → s.cqFull e = true → SMap.get (fun _ => []) s.sched.undelivered e.val = [] → ∃ t, exec c.2 s = .next t ∧ done t ∧
            SMap.get (fun _ => []) t.sched.undelivered e.val = [⟨k, s.refusedRecord e st d, s.nowNs⟩] ∧ t.tc = s.tc ∧ t.sc = s.sc ∧ t.str = s.str)) ∧
        (k = 1 → s.entryRefused e d = none → s.queueRoom e 1 target = true → ∃ t, exec (.submitTCore e host) s = .next t ∧ done t ∧ t.live e = s.live e ++ [id] ∧
          (t.tcore target).queue.map (fun c => (c.id, c.words)) = (s.tcore target).queue.map (fun c => (c.id, c.words)) ++ [(id, cmdWords d 16 e)]) ∧
        (k = 2 → s.entryRefused e d = none → s.queueRoom e 2 target = true → ∃ t, exec (.submitSCore e host) s = .next t ∧ done t ∧ t.live e = s.live e ++ [id] ∧
          (t.score target).queue.map (fun c => (c.id, c.words)) = (s.score target).queue.map (fun c => (c.id, c.words)) ++ [(id, cmdWords d 8 e)]) ∧
        (k = 3 → s.entryRefused e d = none → fieldLe d 24 2 = 0 → ∃ t, exec (.submitChannelArm e host) s = .next t ∧ done t ∧ t.str = s.str) ∧
        (k = 3 → s.entryRefused e d = none → fieldLe d 24 2 ≠ 0 → (s.chan target).run = none → ∃ t, exec (.submitChannelArm e host) s = .next t ∧ done t ∧
          (t.chan target).run = some ⟨⟨fieldLe d 16 8, fieldLe d 24 2, decide (nth 0 d 26 = 1), .ring⟩, id, [], 0, 0, none, false, false, false⟩))

/-- GRANT, TO_NORMAL and TO_PARTITIONED (10 R312, R318, R319, R322 to R326; 03 R75): at a decision point a core in reset takes nothing; a released radio command with the earliest deadline is
granted first; then the first management command that fits; then, among the tenants' commands that fit, that of the highest priority, its occupancy charged to its easel's window; with
none the commands passed over stay, marked. On an S-core whose program was parked for a radio command, the program returns where no radio command takes the core. A granted command moves from the core's queue to the granted ones. SCH_MODE_CTRL switches only for management with the key, where the image
allows partitioned mode; the commands then in flight are those still moving. -/
def Obligations.GrantsFollowTheOrderAndModesSwitch : Prop :=
  ∀ (s : State) (t pl : Nat) (ready early : BitVec 4),
    let first := fun (rel : List Cmd) (r : Cmd) => ∃ l1 l2, rel = l1 ++ r :: l2 ∧ (∀ x ∈ l1, r.latest < x.latest) ∧ ∀ x ∈ l2, r.latest ≤ x.latest
    let prio := fun (r : Cmd) => s.fld r.easel F.EAS_CFG_PRIO
    (∀ c : Fin 48, (s.tcHeld c = true → exec (.grant (.tcore c) t ready pl early) s = .next s) ∧
      (s.tcHeld c = false →
        let q := s.tcore c
        let rel := q.queue.filter (fun r => s.released t (r.waitEn && s.ownsLink r.easel r.waitLink) (.tcore c r.id) r && (decide (r.arrays &&& ready.toNat = r.arrays ∧ s.tcPower c = 0) && s.coreServes F.TC_PARTITION_OWNER c 0))
        let cand := (nextOf q.queue []).filter (s.tcEligible c ready.toNat)
        let fits := fun r => s.tcFits c t pl (!((q.queue ++ q.granted).filter (fun r => s.released t (r.waitEn && s.ownsLink r.easel r.waitLink) (.tcore c r.id) r)).isEmpty) r = true
        let takes := fun (r : Cmd) (w : Nat) => ∃ u, exec (.grant (.tcore c) t ready pl early) s = .next u ∧ (u.tcore c).granted = q.granted ++ [r] ∧
          (u.tcore c).queue.map (·.id) = (q.queue.map (·.id)).filter (fun i => decide (i ≠ r.id)) ∧ (u.tcore c).running = q.running ∧ u.windowUsed c = s.windowUsed c + w ∧ u.mem = s.mem
        (∀ r, first rel r → takes r 0) ∧
        (∀ r l1 l2, rel = [] → cand.filter (fun c => decide (c.easel = 0)) = l1 ++ r :: l2 → (∀ x ∈ l1, ¬ fits x) → fits r → takes r 0) ∧
        (∀ r ∈ cand, rel = [] → (∀ x ∈ cand, x.easel = 0 → ¬ fits x) → r.easel ≠ 0 → fits r → (∀ x ∈ cand, x.easel ≠ 0 → fits x → x = r ∨ prio x < prio r) → takes r r.occupancy) ∧
        (rel = [] → (∀ x ∈ cand, ¬ fits x) → ∃ u, exec (.grant (.tcore c) t ready pl early) s = .next u ∧ (u.tcore c).granted = q.granted ∧ (u.tcore c).queue.map (·.id) = q.queue.map (·.id) ∧
          (∀ x ∈ (u.tcore c).queue, x.id ∈ cand.map (·.id) → x.passed = true) ∧ (u.tcore c).running = q.running ∧ u.mem = s.mem))) ∧
    (∀ c : Fin 192, (s.scHeld c = true → exec (.grant (.score c) t ready pl early) s = .next s) ∧
      (s.scHeld c = false →
        let q := s.score c
        let rel := q.queue.filter (fun r => s.released t (r.scWaitEn && s.ownsLink r.easel r.scWaitLink) (.score c r.id) r && s.scRadioMay c t && s.coreServes F.SC_PARTITION_OWNER c 0)
        let cand := (nextOf q.queue []).filter (s.scEligible c)
        let fits := fun r => s.scFits c t r = true
        let takes := fun (r : Cmd) (w : Nat) => ∃ u, exec (.grant (.score c) t ready pl early) s = .next u ∧ (u.score c).granted = q.granted ++ [r] ∧
          (u.score c).queue.map (·.id) = (q.queue.map (·.id)).filter (fun i => decide (i ≠ r.id)) ∧ (u.score c).cur = q.cur ∧ u.windowUsed (64 + c) = s.windowUsed (64 + c) + w ∧ u.mem = s.mem
        (∀ r, first rel r → takes r 0) ∧
        (∀ r l1 l2, rel = [] → cand.filter (fun c => decide (c.easel = 0)) = l1 ++ r :: l2 → (∀ x ∈ l1, ¬ fits x) → fits r → takes r 0) ∧
        (∀ r ∈ cand, rel = [] → (∀ x ∈ cand, x.easel = 0 → ¬ fits x) → r.easel ≠ 0 → fits r → (∀ x ∈ cand, x.easel ≠ 0 → fits x → x = r ∨ prio x < prio r) → takes r r.scRunLen) ∧
        (rel = [] → q.running = none → q.tenant ≠ none → (∀ x ∈ q.granted, x.radio = false) → ∃ u, exec (.grant (.score c) t ready pl early) s = .next u ∧
          u.score c = { q with running := some false } ∧ u.mem = s.mem) ∧
        (rel = [] → (∀ x ∈ cand, ¬ fits x) → q.running ≠ none ∨ q.tenant = none → ∃ u, exec (.grant (.score c) t ready pl early) s = .next u ∧ (u.score c).granted = q.granted ∧ (u.score c).queue.map (·.id) = q.queue.map (·.id) ∧
          (∀ x ∈ (u.score c).queue, x.id ∈ cand.map (·.id) → x.passed = true) ∧ (u.score c).cur = q.cur ∧ u.mem = s.mem))) ∧
    (∀ req (key : BitVec 8), s.barOpen req F.SCH_MODE_CTRL_TO_NORMAL.off = true → let may := req.manages = true ∧ key = 0xA5 ∧ s.fld 0 F.SCH_MODE_PART_MODE = 1
      (¬ may → exec (.toNormal req key) s = .next s ∧ exec (.toPartitioned req key) s = .next s) ∧
      (may → ∀ b, let ins : Instr := if b then .toPartitioned req key else .toNormal req key
        (s.flag 0 F.SCH_MODE_PARTITIONED = b → exec ins s = .next s) ∧
        (s.flag 0 F.SCH_MODE_PARTITIONED = !b → ∃ u, exec ins s = .next u ∧ u.flag 0 F.SCH_MODE_PARTITIONED = b ∧ u.sched.moving = s.inFlight.filter (fun i => decide (i ∉ s.sched.moving)) ∧ u.mem = s.mem ∧ u.tc = s.tc ∧ u.sc = s.sc)))

/-- 14 R420, R421, R425, R426, R430, R431, R437; 18 R516: a frame of a subport that is absent or down is nothing; one with a bad FCS, too short or too long is counted, a control frame is counted, and
one of an ordinary EtherType goes to the flow of its subport, VLAN and destination, whose queue takes its record whole unless granules lack or its easel is in reset or frozen; without a flow it is
counted. A readable record at the head of a transmit flow is refused when it is bad or forges a source, and else waits checked at the head. A subport's link goes down and comes up alone; with a
Yaroz path on it the path moves with it. -/
def Obligations.EthernetFramesAreSortedAndRecordsChecked : Prop :=
  ∀ (s : State),
    (∀ (sub : Fin 32) bytes fcs stamp ce, let p := sub.val / 4; let i := sub.val % 4
      (∀ ue, s.subExists sub = false ∨ s.subUp sub = false → exec (.ethFrameRx sub bytes fcs stamp ce ue) s = .next s) ∧
      (s.subExists sub = true → s.subUp sub = true → s.flag (165 + p) F.FLT_INJSTAT_ARMED = false →
        let counted := (s.incSat p F.ETH_PORT_FEC_CE_COUNT ce).incSat p F.ETH_PORT_FEC_UE_COUNT 0
        let good := counted.incWrap p (F.ETH_SUB_RX_COUNT i) 1
        let len := bytes.length + 4
        let max := s.fld p F.ETH_PORT_CFG_MAX_FRAME
        (fcs = false → exec (.ethFrameRx sub bytes fcs stamp ce 0) s = .next (counted.incSat p (F.ETH_SUB_ERR_FCS i) 1)) ∧
        (fcs = true → len < 64 ∨ max < len → exec (.ethFrameRx sub bytes fcs stamp ce 0) s = .next (good.incSat p (F.ETH_SUB_ERR_FCS i) 1)) ∧
        (fcs = true → 64 ≤ len → len ≤ max →
          (etherOf bytes = 0x8808 → exec (.ethFrameRx sub bytes fcs stamp ce 0) s = .next (good.incSat p (F.ETH_SUB_CTRL_CTRL i) 1)) ∧
          (etherOf bytes ∉ [0x8808, 0x88F7, 0x8809, 0xAEFE, s.fld 0 F.YZF_CFG_ETYPE] → beAt bytes 12 2 ≠ 0x88A8 → (tagged bytes = true → beAt bytes 16 2 ≠ 0x8100) →
            bytes.take 6 ≠ List.replicate 6 0xFF →
            let fs := good.rxFlows sub (fun f => decide (good.flowKind f = 3 ∧ good.fld f F.FLW_KEY_VID = vidOf bytes ∧ good.flowMac f = bytes.take 6))
            (fs = [] → exec (.ethFrameRx sub bytes fcs stamp ce 0) s = .next (good.incSat p (F.ETH_SUB_ERR_NOFLOW i) 1)) ∧
            (∀ f, fs = [f] → let e := good.flowEasel f
              let record := rxRecord bytes (if tagged bytes then 4 else 0) sub (good.fld f F.FLW_FRAMES_COUNT) stamp
              let shut := good.fld e F.EAS_LIFE_STATE = lifeHeld ∨ good.fld e F.EAS_LIFE_STATE = lifeClearing ∨ good.frozen e = true
              (shut ∨ good.palAppend (flowQ f) record = none → exec (.ethFrameRx sub bytes fcs stamp ce 0) s = .next (good.incSat f F.FLW_RX_DROP_NOBUF 1)) ∧
              (¬ shut → good.palCanGrow (flowQ f) { good.palQ (flowQ f) with bytes := (good.palQ (flowQ f)).bytes ++ record }.held = true →
                ∃ t, exec (.ethFrameRx sub bytes fcs stamp ce 0) s = .next t ∧ (t.palQ (flowQ f)).bytes = (s.palQ (flowQ f)).bytes ++ record ∧ (∀ q, q ≠ flowQ f → t.palQ q = s.palQ q) ∧
                  t.mem = s.mem ∧ t.out = s.out)))))) ∧
    (∀ (flow : Fin 8192) ecc,
      (s.headRec flow = none ∨ s.flowTx flow = false ∨ NSet.has flow s.eth.checked = true → exec (.txRecordHead flow ecc) s = .next s) ∧
      (∀ r t, s.headRec flow = some (r, t) → s.flowTx flow = true → NSet.has flow s.eth.checked = false → s.flag 138 F.FLT_INJSTAT_ARMED = false →
        let refused := fun (cnt : Fld) => (((s.incSat flow cnt 1).usageFault (s.flowEasel flow) ukFlow flow 0 ufTxRefused).dropHead flow)
        (s.txBad flow r = true → exec (.txRecordHead flow none) s = .next (refused F.FLW_TX_DROP_BAD)) ∧
        (s.txBad flow r = false → s.txSpoof flow r = true → exec (.txRecordHead flow none) s = .next (refused F.FLW_TX_DROP_SPOOF)) ∧
        (s.txBad flow r = false → s.txSpoof flow r = false → ∃ u, exec (.txRecordHead flow none) s = .next u ∧ NSet.has flow u.eth.checked = true ∧
          (∀ f, f ≠ flow.val → NSet.has f u.eth.checked = NSet.has f s.eth.checked) ∧ u.headRec flow = some (r, t) ∧ u.regs = s.regs ∧ u.mem = s.mem ∧ u.out = s.out))) ∧
    (∀ sub : Fin 32, let path := sub.val % 4 = 0 ∧ s.ethPath (sub.val / 4) = true; let bit := 2 ^ (sub.val / 4)
      (∀ up x, (s.setLink sub up).subUp x = if x = sub.val then up else s.subUp x) ∧
      (s.subUp sub = true → (¬ path → exec (.subportLinkDown sub) s = .next (s.setLink sub false)) ∧
        (path → exec (.subportLinkDown sub) s = .next (((s.setLink sub false).clrFld 0 F.YZF_STATUS_ETH_UP bit).yzReroute (16 + sub.val / 4)))) ∧
      (s.subUp sub = false → exec (.subportLinkDown sub) s = .next s ∧ (s.subExists sub = true →
        (¬ path → exec (.subportLinkUp sub) s = .next (s.setLink sub true)) ∧
        (path → exec (.subportLinkUp sub) s = .next (((s.setLink sub true).orFld 0 F.YZF_STATUS_ETH_UP bit).yzKickAll)))) ∧
      (s.subUp sub = true ∨ s.subExists sub = false → exec (.subportLinkUp sub) s = .next s))

/-- 14 R433 to R437; 15 R447 to R449, R454, R456 to R458; 02 R49, R50: the launch frame that starts first leaves once its start slot has come, on a subport that is up, and occupies the line for its bytes
and 24 more; one that can no longer start in time, or whose link is down, is dropped and counted. In an idle start slot an ACK, NAK or CREDIT that ends in time leaves first; then a frame of a RADIO
leaf whose path has the credit; with no frame that may start nothing leaves. While the sources run and with no retouch waiting, a refill adds each shaper's rate to its credit, up to its burst. A sample shows each flow's depth and is counted; a clear
zeroes the bins of its flow alone, for those who may write them. -/
def Obligations.FramesLeaveInTheirOrder : Prop :=
  ∀ (s : State),
    (∀ (sub : Fin 32),
      (∀ c f r t, s.firstLaunch sub ((s.launchCands sub).filter (fun c => !s.launchLate sub c)) = some c → c.flow = some f → s.headRec f = some (r, t) →
        (s.subUp sub = true → s.slotTime sub (s.launchSlot sub c) ≤ hundOf s.tod → ∃ u, exec (.launchFrameStart sub) s = .next u ∧
          u.out = s.out ++ [.ethFrame sub (s.launchSlot sub c) (s.txFrame f r)] ∧
          u.subBusy sub = s.slotTime sub (s.launchSlot sub c) + ((s.txFrame f r).length + 24) * s.subK sub ∧ (∀ x, x ≠ sub.val → u.subBusy x = s.subBusy x) ∧ u.mem = s.mem) ∧
        (s.subUp sub = false ∨ hundOf s.tod < s.slotTime sub (s.launchSlot sub c) → exec (.launchFrameStart sub) s = .next s)) ∧
      (∀ c, (s.launchCands sub).find? (fun c => s.launchLate sub c || !s.subUp sub) = some c →
        (∀ f, c.flow = some f → exec (.launchFrameDrop sub) s = .next ((s.incSat f F.FLW_LATE_COUNT 1).dropHead f)) ∧
        (c.flow = none → ∃ u, exec (.launchFrameDrop sub) s = .next u ∧ u.tbFrames sub = (s.tbFrames sub).tail ∧
          u.fld (sub.val / 4) (F.PTP_SUB_LATE_COUNT (sub.val % 4)) =
            min (s.fld (sub.val / 4) (F.PTP_SUB_LATE_COUNT (sub.val % 4)) + 1) (2 ^ (F.PTP_SUB_LATE_COUNT (sub.val % 4)).width - 1) ∧ u.out = s.out)) ∧
      ((s.launchCands sub).find? (fun c => s.launchLate sub c || !s.subUp sub) = none → exec (.launchFrameDrop sub) s = .next s) ∧
      (∀ slot, s.subUp sub = false ∨ s.slotTime sub slot < s.subBusy sub ∨ hundOf s.tod < s.slotTime sub slot → exec (.queuedFrameStart sub slot) s = .next s) ∧
      (∀ slot, s.subUp sub = true → s.subBusy sub ≤ s.slotTime sub slot → s.slotTime sub slot ≤ hundOf s.tod →
        (∀ w, sub.val % 4 = 0 → (s.yzWaits (16 + sub.val / 4)).find? (fun w => decide (w.easel = 64)) = some w → s.endsInTime sub slot ⟨0, none, 64, s.yzFrameLen w.pkt + 20⟩ = true →
          ∃ u, exec (.queuedFrameStart sub slot) s = .next u ∧ u.out = s.out ++ [.yaroz (16 + sub.val / 4) w.pkt] ∧ u.yzWaits (16 + sub.val / 4) = (s.yzWaits (16 + sub.val / 4)).erase w ∧
            u.subBusy sub = s.slotTime sub slot + (s.yzFrameLen w.pkt + 20) * s.subK sub ∧ u.mem = s.mem) ∧
        (s.ctrlTake sub slot = none → let l := s.allCands sub slot
          let s1 := s.noteWaits l
          let elig := l.filter (fun c => (s.shortNodes c).isEmpty)
          (elig = [] → exec (.queuedFrameStart sub slot) s = .next s1) ∧
          (∀ c f r t, s1.radioPick sub elig = some c → c.flow = some f → s1.headRec f = some (r, t) → ∃ u, exec (.queuedFrameStart sub slot) s = .next u ∧
            u.subBusy sub = s1.slotTime sub slot + ((s1.txFrame f r).length + 24) * s1.subK sub ∧ u.mem = s.mem ∧ u.out = s.out ++ [.ethFrame sub slot (s1.txFrame f r)])))) ∧
    (s.paced = true → (s.fld 0 F.CVS_RT_PENDING_TYPES).testBit rtParam = false → (s.fld 0 F.CVS_RT_PENDING_TYPES).testBit rtFlows = false → s.Inv → ∃ u, exec .shaperRefill s = .next u ∧
      (∀ n, n ∈ s.nodesUsed → u.fld n F.EGS_NODE_CREDIT_BITS =
        min (s.fld n F.EGS_NODE_CREDIT_BITS + s.fld n F.EGS_NODE_RATE_MBPS) (8 * s.fld n F.EGS_NODE_BURST_BYTES) % 2 ^ F.EGS_NODE_CREDIT_BITS.width) ∧
      (∀ n, n ∉ s.nodesUsed → u.fld n F.EGS_NODE_CREDIT_BITS = s.fld n F.EGS_NODE_CREDIT_BITS) ∧
      u.fld 0 F.EGS_REFILLS_COUNT = (s.fld 0 F.EGS_REFILLS_COUNT + 1) % 2 ^ F.EGS_REFILLS_COUNT.width ∧ u.eth = s.eth ∧ u.mem = s.mem ∧ u.out = s.out) ∧
    (s.paced = true → ∃ u, exec .queueSample s = .next u ∧ u.fld 0 F.EGS_SAMPLES_COUNT = (s.fld 0 F.EGS_SAMPLES_COUNT + 1) % 2 ^ F.EGS_SAMPLES_COUNT.width ∧
      (∀ f, f ∈ s.flowsUsed → u.fld f F.EGS_Q_NOW_DEPTH = s.flowDepth f % 2 ^ F.EGS_Q_NOW_DEPTH.width) ∧ u.eth = s.eth ∧ u.pal = s.pal ∧ u.mem = s.mem ∧ u.out = s.out) ∧
    (s.paced = false → exec .shaperRefill s = .next s ∧ exec .queueSample s = .next s) ∧
    (∀ (req : Requester), let flow := s.unitAt req F.EGS_Q_CTRL_CLEAR.off
      let may := s.barOpen req F.EGS_Q_CTRL_CLEAR.off = true ∧ (req.manages = true ∨ ownsEas req (s.flowEasel flow) = true) ∧ s.flowKind flow ≠ 0
      (may → ∃ u, exec (.histogramClear req) s = .next u ∧
        (∀ i, i < 16 → u.fld flow (F.EGS_Q_DHIST_COUNT i) = 0 ∧ u.fld flow (F.EGS_Q_LHIST_COUNT i) = 0) ∧
        (∀ g, g ≠ flow → ∀ i, i < 16 → u.fld g (F.EGS_Q_DHIST_COUNT i) = s.fld g (F.EGS_Q_DHIST_COUNT i) ∧ u.fld g (F.EGS_Q_LHIST_COUNT i) = s.fld g (F.EGS_Q_LHIST_COUNT i)) ∧
        u.mem = s.mem ∧ u.out = s.out) ∧
      (¬ may → exec (.histogramClear req) s = .next s))

/-- 11 R346 to R350, R352, R353, R358; 10 R315, R316: a command takes the entry at the head of its easel's ring when it is of its kind; a nonzero reserved byte refuses it, a full engine queue makes it wait,
and it waits its turn while a step is sampled or varnished; else the engine executes it. SEQ_OPEN fills its FREE entry; SEQ_CLOSE ends a sequence, in an open step at its varnish; DRAFT_PUT writes drafts;
SEQ_SWAP starts a copy either way; STEP_BUILD opens the next step with the segments chosen; each that may not be executed completes with its status and changes nothing else. -/
def Obligations.SequenceEntriesAreExecutedInTurn : Prop :=
  ∀ (s : State) (e : Fin 64),
    (∀ host ecc,
      let cmds : List (Instr × List (Nat × EccEvent) × (List Nat → Bool)) := [(.seqOpen e host, [], fun d => decide (nth 0 d 0 = 0x10)), (.seqClose e host, [], fun d => decide (nth 0 d 0 = 0x11)),
        (.stepBuild e host, [], fun d => decide (nth 0 d 0 = 0x13)), (.sampleDraft e host ecc, ecc, fun d => decide (nth 0 d 0 = 0x12 ∧ nth 0 d 20 = 1)),
        (.sampleFinal e host ecc, ecc, fun d => decide (nth 0 d 0 = 0x12 ∧ nth 0 d 20 ≠ 1)), (.seqSwapOut e host, [], fun d => decide (nth 0 d 0 = 0x14 ∧ nth 0 d 16 ≠ 1)),
        (.seqSwapIn e host, [], fun d => decide (nth 0 d 0 = 0x14 ∧ nth 0 d 16 = 1)), (.draftPut e host, [], fun d => decide (nth 0 d 0 = 0x15))]
      ∀ c ∈ cmds,
        (s.sqWaiting e = false → exec c.1 s = .next s) ∧
        (∀ s1, s.sqWaiting e = true → s.sqFetch e host = (none, s1) → exec c.1 s = .next s1) ∧
        (∀ d s1, s.sqWaiting e = true → s.sqFetch e host = (some d, s1) →
          (c.2.2 d = false → exec c.1 s = .next s) ∧
          (c.2.2 d = true → seqEntryZero d = false → exec c.1 s = .next (s1.refuseEntry e stOpcode d)) ∧
          (c.2.2 d = true → seqEntryZero d = true → 64 ≤ (s1.seqEas e).queue.length → exec c.1 s = .next (s1.setFlag e F.EAS_STATUS_RING_WAIT true)) ∧
          (c.2.2 d = true → seqEntryZero d = true → (s1.seqEas e).queue.length < 64 →
            let w := ((s1.enroll e).2.setSeqEas e { s1.seqEas e with queue := (s1.seqEas e).queue ++ [(s1.sched.nextId, d)] }).sqAdvance e
            (2 ≤ s1.fld e F.SEQ_EAS_STATUS_PHASE → exec c.1 s = .next w) ∧
            ((s1.seqEas e).queue = [] → w.seqHeld e d = false →
              exec c.1 s = .next (seqDrain e c.2.1 64 ((w.setSeqEas e { w.seqEas e with queue := [] }).seqExec e s1.sched.nextId d c.2.1)))))) ∧
    (∀ id d ecc, let t := s.seqExec e id d ecc; let i := fieldLe d 2 2; let y := s.seqEntry e i
      (s.seqOn e = false → t = s.seqDone e id d stNotEnabled 0 0) ∧
      (s.seqOn e = true → (s.seqEas e).buildRetry = false → nth 0 d 0 = 0x10 →
        (s.openStatus e d ≠ stOk → t = s.seqDone e id d (s.openStatus e d) 0 0) ∧
        (s.openStatus e d = stOk → t.seqEntry e i = openEntry d (s.seqEas e).admitNo ∧ (t.seqEas e).admitNo = ((s.seqEas e).admitNo + 1) % 2 ^ 32 ∧ ∀ j, j ≠ i → t.seqEntry e j = s.seqEntry e j)) ∧
      (s.seqOn e = true → nth 0 d 0 = 0x11 →
        (s.fld e F.EAS_CFG_SEQ ≤ i → t = s.seqDone e id d stOutOfShare 0 0) ∧
        (i < s.fld e F.EAS_CFG_SEQ → s.inOpenStep e i = true → t.seqEntry e i = { y with cancel := true } ∧ ∀ j, j ≠ i → t.seqEntry e j = s.seqEntry e j) ∧
        (i < s.fld e F.EAS_CFG_SEQ → s.inOpenStep e i = false → y.state ∈ [sqQueued, sqPrefill, sqDecode, sqSwapped] →
          t.seqEntry e i = SeqEntry.free ∨ (t.seqEntry e i).state = sqEnding ∧ (t.seqEntry e i).endCode = endCancelled ∧ (t.seqEntry e i).pages = 0) ∧
        (i < s.fld e F.EAS_CFG_SEQ → s.inOpenStep e i = false → y.state ∉ [sqQueued, sqPrefill, sqDecode, sqSwapped] → t = s.seqDone e id d stSeqState 0 0)) ∧
      (s.seqOn e = true → nth 0 d 0 = 0x15 → let n := nth 0 d 20
        (i < s.fld e F.EAS_CFG_SEQ → s.fld e F.SEQ_EAS_STATUS_PHASE ≠ 1 ∨ fieldLe d 16 4 ≠ s.fld e F.SEQ_EAS_STEP_STEP → t = s.seqDone e id d stStepState 0 0) ∧
        (∀ g, i < s.fld e F.EAS_CFG_SEQ → s.fld e F.SEQ_EAS_STATUS_PHASE = 1 → fieldLe d 16 4 = s.fld e F.SEQ_EAS_STEP_STEP →
          (s.seqEas e).segs.find? (fun g => decide (g.seq = i ∧ g.kind = sgVerify)) = some g →
          (n = 0 ∨ g.drafts < n → t = s.seqDone e id d stShape 0 0) ∧
          (0 < n → n ≤ g.drafts → y.prov ≠ 0 ∨ (s.seqEas e).lastDraft ≠ 0 → t = s.seqDone e id d stSeqState 0 0) ∧
          (0 < n → n ≤ g.drafts → y.prov = 0 → (s.seqEas e).lastDraft = 0 → t.seqEntry e i = { y with prov := n } ∧ (∀ j, j ≠ i → t.seqEntry e j = s.seqEntry e j) ∧
            ∃ w : State, t = w.seqDone e id d stOk 0 0 ∧ ∀ k, k < n → w.draftAt e g (k + 1) = fieldLe d (24 + 4 * k) 4 % 2 ^ 32))) ∧
      (s.seqOn e = true → nth 0 d 0 = 0x14 → i < s.fld e F.EAS_CFG_SEQ → s.inOpenStep e i = false →
        (∀ k, nth 0 d 16 = 0 → y.state = sqDecode → s.swapOn e = true → s.swapSlotFor e i = some k →
          t.seqEntry e i = { y with state := sqSwapOut, swapSlot := k } ∧ (∀ j, j ≠ i → t.seqEntry e j = s.seqEntry e j) ∧ SMap.get (fun _ => 0) (t.seqEas e).swaps i = id + 1) ∧
        (nth 0 d 16 = 1 → y.state = sqSwapped → s.ctxPages e i ≤ s.freePages e →
          (t.seqEntry e i).state = sqSwapIn ∧ s.ctxPages e i ≤ (t.seqEntry e i).pages ∧ (∀ j, j ≠ i → t.seqEntry e j = s.seqEntry e j) ∧ SMap.get (fun _ => 0) (t.seqEas e).swaps i = id + 1) ∧
        (nth 0 d 16 = 0 → y.state ≠ sqDecode ∨ s.swapOn e = false → t = s.seqDone e id d stSeqState 0 0) ∧
        (nth 0 d 16 = 1 → y.state ≠ sqSwapped ∨ s.freePages e < s.ctxPages e i → t = s.seqDone e id d stSeqState 0 0)) ∧
      (s.seqOn e = true → nth 0 d 0 = 0x13 →
        (s.fld e F.SEQ_EAS_STATUS_PHASE ≠ 0 → t = s.seqDone e id d stStepState 0 0) ∧
        (s.fld e F.SEQ_EAS_STATUS_PHASE = 0 → s.fld e F.EAS_LIFE_STATE = 3 →
          let f := ((s.setBuildWaits e false (s.seqEas e).buildRetry).loseBadLists e).fillStep e
          ((f.seqEas e).segs = [] → t = (f.setBuildWaits e false (f.flag e F.SEQ_EAS_CTRL_AUTO)).retire e id false) ∧
          ((f.seqEas e).segs ≠ [] → ∃ b : State, b.fld e F.SEQ_EAS_STATUS_PHASE = 1 ∧ b.fld e F.SEQ_EAS_STEP_STEP = (f.fld e F.SEQ_EAS_STEP_STEP + 1) % 2 ^ 32 ∧ (b.seqEas e).segs = (f.seqEas e).segs ∧
            t = ((b.seqPost e 0x13 ((f.fld e F.SEQ_EAS_STEP_STEP + 1) % 2 ^ 32) stOk 1 (rowsPad (f.seqEas e).rows) (f.seqEas e).segs.length).setBuildWaits e false false).retire e id false))))

/-- 11 R340, R343, R350, R352, R355 to R367: ENABLE checks the declarations and copies the stop sets; a DRAFT sample writes the token it draws, a FINAL sample keeps each segment's tokens, and varnish
applies them sequence by sequence and closes the step; a copy's end swaps its sequence; SEQ_LOSE ends sequences with LOST; PEEK and debug reads show entries and memory; a ring's head frees room; a build
that waited goes on. What a requester may not do is discarded. -/
def Obligations.SequencesAreSampledVarnishedAndLost : Prop :=
  ∀ (s : State) (e : Fin 64),
    (∀ req auto, let f := s.unitAt req F.SEQ_EAS_CTRL_ENABLE.off; let a := s.setFlag f F.SEQ_EAS_CTRL_AUTO auto
      let own := s.barOpen req F.SEQ_EAS_CTRL_ENABLE.off = true ∧ isVf req f = true ∧ f ≠ 0
      (¬ own → exec (.seqEnable req auto) s = .next s) ∧
      (own → s.seqOn f = true → exec (.seqEnable req auto) s = .next a) ∧
      (own → s.seqOn f = false → a.seqChecks f = false → exec (.seqEnable req auto) s = .next (a.setFlag f F.SEQ_EAS_STATUS_CFG_ERR true)) ∧
      (own → s.seqOn f = false → a.seqChecks f = true → ∃ t, exec (.seqEnable req auto) s = .next t ∧ t.seqOn f = true ∧ t.flag f F.SEQ_EAS_STATUS_CFG_ERR = false ∧
        t.flag f F.SEQ_EAS_CTRL_AUTO = auto ∧ (∀ r, r < 64 → t.fld f (F.SEQ_OR_HEAD_HEAD r) = 0 ∧ t.fld f (F.SEQ_OR_TAIL_TAIL r) = 0) ∧
        (t.seqEas f).stop = s.readBytes (bondKey f (s.stopBase f)) 4096 ∧ (∀ i, t.seqEntry f i = s.seqEntry f i) ∧ t.mem = s.mem ∧ t.out = s.out)) ∧
    (∀ id d ecc, s.seqOn e = true → nth 0 d 0 = 0x12 → nth 0 d 20 = 1 → let t := s.seqExec e id d ecc; let j := nth 0 d 21; let st := s.sampleStatus e d (s.seqEas e).segs.length
      (st ≠ stOk → t = s.seqDone e id d st 0 0) ∧
      (∀ g, st = stOk → (s.seqEas e).segs = [g] → let y := s.seqEntry e g.seq
        let due := g.kind = sgVerify ∧ y.prov + 1 = j ∧ j ≤ g.drafts ∧ y.draftStop = false
        (¬ due → (∀ i, t.seqEntry e i = s.seqEntry e i) ∧ (t.seqEas e).lastDraft = j) ∧
        (∀ tok s1, due → s.sampleRow e d y 0 (g.pos + j) ecc = (some tok, s1) →
          t.seqEntry e g.seq = { s1.seqEntry e g.seq with prov := j, draftStop := isStop (s.stopSet e (s1.seqEntry e g.seq)) tok } ∧ (t.seqEas e).lastDraft = j ∧
          ∃ w : State, t = w.seqDone e id d stOk 1 0 ∧ w.draftAt e g j = tok % 2 ^ 32) ∧
        (∀ s1, due → s.sampleRow e d y 0 (g.pos + j) ecc = (none, s1) → (t.seqEas e).segs = (s1.seqEas e).segs.map (fun h => if h.seq = g.seq then { h with poison := true } else h)))) ∧
    (∀ id d ecc, s.seqOn e = true → nth 0 d 0 = 0x12 → nth 0 d 20 ≠ 1 → let t := s.seqExec e id d ecc; let st := s.sampleStatus e d (s.seqEas e).logitRows
      (st ≠ stOk → t = s.seqDone e id d st 0 0) ∧
      (∀ g, st = stOk → (s.seqEas e).segs = [g] → t.fld e F.SEQ_EAS_STATUS_PHASE = 2 ∧ t.flag 0 F.SEQ_STATUS_SAMPLER_BUSY = true ∧ (t.seqEas e).finalTag = id ∧
        (g.kind = sgPrefill → (t.seqEas e).segs = [g]) ∧
        (∀ tok s1, g.kind = sgDecode → s.sampleRow e d (s.seqEntry e g.seq) g.logit (g.pos + 1) ecc = (some tok, s1) → (t.seqEas e).segs = [{ g with toks := [tok] }]) ∧
        (∀ s1, g.kind = sgDecode → s.sampleRow e d (s.seqEntry e g.seq) g.logit (g.pos + 1) ecc = (none, s1) → (t.seqEas e).segs = [{ g with toks := [], poison := true }]) ∧
        (∀ tok s1 tok' s2, g.kind = sgVerify → 0 < g.drafts → 0 < (s.seqEntry e g.seq).prov → s.sampleRow e d (s.seqEntry e g.seq) g.logit (g.pos + 1) ecc = (some tok, s1) → tok = s1.draftAt e g 1 →
          s1.sampleRow e d (s.seqEntry e g.seq) (g.logit + 1) (g.pos + 2) ecc = (some tok', s2) → ¬ (1 < (s.seqEntry e g.seq).prov ∧ tok' = s2.draftAt e g 2) →
          (t.seqEas e).segs = [{ g with toks := [tok, tok'] }]))) ∧
    (s.fld e F.SEQ_EAS_STATUS_PHASE < 2 → exec (.varnish e) s = .next s) ∧
    (2 ≤ s.fld e F.SEQ_EAS_STATUS_PHASE → let r := (s.seqEas e).segs.foldl (fun a g => varnishSeg e g a) (0, 0, s.sampled e)
      ∃ b : State, b.fld e F.SEQ_EAS_STATUS_PHASE = 0 ∧ (b.seqEas e).segs = [] ∧ (b.seqEas e).rows = 0 ∧ (∀ i, b.seqEntry e i = r.2.2.seqEntry e i) ∧
        let p := (b.seqPost e 0x12 (b.fld e F.SEQ_EAS_STEP_STEP) stOk 3 r.1 r.2.1).retire e (r.2.2.seqEas e).finalTag false
        exec (.varnish e) s = .next (((if p.fld e F.EAS_STEPS_COUNT = b.fld e F.EAS_STEPS_COUNT then p.stepBoundary e else p).autoBuild e).seqGo e [])) ∧
    (∀ (g : SeqSeg) (n k : Nat), let y := s.seqEntry e g.seq; let r := varnishSeg e g (n, k, s)
      let gone := fun code => r.2.2.seqEntry e g.seq = SeqEntry.free ∨ (r.2.2.seqEntry e g.seq).state = sqEnding ∧ (r.2.2.seqEntry e g.seq).endCode = code
      (y.lost ≠ none → r.1 = n ∧ r.2.1 = k + 1 ∧ gone endLost) ∧
      (y.lost = none → g.poison = true → r.1 = n ∧ r.2.1 = k + 1 ∧ gone endPoison) ∧
      (y.lost = none → g.poison = false → y.cancel = true → r.1 = n ∧ r.2.1 = k + 1 ∧ gone endCancelled) ∧
      (∀ tok, y.lost = none → g.poison = false → y.cancel = false → g.kind = sgDecode → g.toks = [tok] →
        let u := keepTokens (s.stopSet e y) (s.fld e F.SEQ_EAS_PL_LEN_PAGES * s.pageTokens e) [tok] (g.pos + 1) y []
        (u.2.2 ≠ 0 → r.1 = n + 1 ∧ r.2.1 = k + 1 ∧ gone u.2.2) ∧
        (u.2.2 = 0 → r.1 = n + 1 ∧ r.2.1 = k ∧ ((r.2.2.seqEntry e g.seq = SeqEntry.free) ∨ (r.2.2.seqEntry e g.seq).ctxLen = g.pos + 1 ∧ (r.2.2.seqEntry e g.seq).lastToken = tok ∧
          (r.2.2.seqEntry e g.seq).genCount = y.genCount + 1 ∧ (r.2.2.seqEntry e g.seq).state = y.state)))) ∧
    (∀ i host fail, let y := s.seqEntry e i
      let bad := fail = true ∨ s.hostUp = false ∨ s.swapping e = false ∨ ∃ p, p < s.ctxPages e i ∧ s.translates e (s.swapAddr e (y.swapSlot + p)) = false
      ∃ t, exec (.swapCopyDone e i host fail) s = .next t ∧ (∀ j, j ≠ i → (s.seqEas e).buildRetry = false → t.seqEntry e j = s.seqEntry e j ∨ t.seqEntry e j = SeqEntry.free) ∧
        (y.state = sqSwapOut → bad → t.seqEntry e i = { y with state := sqDecode, swapSlot := noToken }) ∧
        (y.state = sqSwapOut → ¬ bad → t.seqEntry e i = { y with state := sqSwapped, pages := 0, swapNo := (s.seqEas e).swapNo } ∧ (t.seqEas e).swapNo = (s.seqEas e).swapNo + 1) ∧
        (y.state = sqSwapIn → bad → t.seqEntry e i = SeqEntry.free ∨ (t.seqEntry e i).state = sqEnding ∧ (t.seqEntry e i).endCode = endLost) ∧
        (y.state = sqSwapIn → ¬ bad → (s.seqEas e).buildRetry = false → t.seqEntry e i = { y with state := sqDecode, swapSlot := noToken }) ∧
        (y.state ≠ sqSwapOut → y.state ≠ sqSwapIn → t.seqEntry e i = y)) ∧
    (∀ req all (i : Fin 8192) key, let may := s.barOpen req F.SEQ_LOSE_EASEL.off = true ∧ req.manages = true ∧ key = 0x4C
      (¬ may → exec (.seqLose req e all i key) s = .next s) ∧
      (may → all = true → exec (.seqLose req e all i key) s = .next (forEach ((s.seqEas e).active.map (·.1)) (fun i (t : State) => t.loseSeq e i t.loseInfo) s)) ∧
      (may → all = false → let y := s.seqEntry e i
        (y.state = sqFree ∨ y.state = sqEnding → exec (.seqLose req e all i key) s = .next s) ∧
        (y.state ≠ sqFree → y.state ≠ sqEnding → s.inOpenStep e i = true → exec (.seqLose req e all i key) s = .next (s.setSeqEntry e i { y with lost := some s.loseInfo })) ∧
        (y.state ≠ sqFree → y.state ≠ sqEnding → s.inOpenStep e i = false → ∃ t, exec (.seqLose req e all i key) s = .next t ∧
          (t.seqEntry e i = SeqEntry.free ∨ (t.seqEntry e i).state = sqEnding ∧ (t.seqEntry e i).endCode = endLost ∧ (t.seqEntry e i).pages = 0)))) ∧
    (∀ req (i : Fin 8192) under, let f := s.unitAt req F.SEQ_EAS_PEEK_INDEX.off
      let may := s.barOpen req F.SEQ_EAS_PEEK_INDEX.off = true ∧ (under = false ∧ isVf req f = true ∨ under = true ∧ req.manages = true ∧ s.power powUnderpaint = true)
      (¬ may → exec (.seqPeek req i under) s = .next s) ∧
      (may → ∃ t, exec (.seqPeek req i under) s = .next t ∧ (∀ k, k < 32 → t.fld f (F.SEQ_EAS_PEEK_DATA_DATA k) = fieldLe ((s.seqEntry f i).bytes under) (4 * k) 4 % 2 ^ 32) ∧ t.seq = s.seq ∧ t.mem = s.mem ∧
        t.out = s.out)) ∧
    (∀ req under ecc,
      let may := s.barOpen req F.SEQ_DBG_CTRL_GO.off = true ∧ req.manages = true ∧ (under = false ∨ s.power powUnderpaint = true) ∧ (e.val ≠ 0 ∨ s.power powRadioRead = true)
      let m := ((s.setFld 0 F.SEQ_DBG_CTRL_EASEL e).setFlag 0 F.SEQ_DBG_CTRL_UNDERPAINT under).bondLoad e (s.fld64 0 F.SEQ_DBG_ADDR_LO_ADDR F.SEQ_DBG_ADDR_HI_ADDR) 64 stPoison ecc
      (¬ may → exec (.seqDbgRead req e under ecc) s = .next s) ∧
      (may → m.status ≠ .outOfShare → ∃ t, exec (.seqDbgRead req e under ecc) s = .next t ∧ ∀ k, k < 16 →
        t.fld 0 (F.SEQ_DBG_DATA_DATA k) = fieldLe (m.st.viewOf (if under then .full else .committed) e (s.fld64 0 F.SEQ_DBG_ADDR_LO_ADDR F.SEQ_DBG_ADDR_HI_ADDR) m.data) (4 * k) 4 % 2 ^ 32) ∧
      (may → m.status = .outOfShare → ∃ t, exec (.seqDbgRead req e under ecc) s = .next t ∧ ∀ k, k < 16 → t.fld 0 (F.SEQ_DBG_DATA_DATA k) = 0)) ∧
    (∀ req (r : Fin 64) (h : BitVec 16), let f := s.unitAt req (F.SEQ_OR_HEAD_HEAD r).off
      let may := s.barOpen req (F.SEQ_OR_HEAD_HEAD r).off = true ∧ isVf req f = true ∧ h.toNat < s.orEntries f r
      (¬ may → exec (.outputRingHeadWrite req r h) s = .next s) ∧
      (may → (s.seqEas f).buildRetry = false → (s.seqEas f).outq = [] → ∃ t, exec (.outputRingHeadWrite req r h) s = .next t ∧ t.fld f (F.SEQ_OR_HEAD_HEAD r) = h.toNat ∧ t.seqEas f = s.seqEas f ∧
        t.mem = s.mem ∧ t.out = s.out) ∧
      (may → exec (.outputRingHeadWrite req r h) s = .next (((s.setFld f (F.SEQ_OR_HEAD_HEAD r) h.toNat).flushOut f).retryBuild f))) ∧
    ((s.seqEas e).buildWaits = false → (s.seqEas e).buildRetry = false → exec (.buildRetry e) s = .next s) ∧
    ((s.seqEas e).buildWaits = false → (s.seqEas e).buildRetry = true → s.flag e F.SEQ_EAS_CTRL_AUTO = true → s.seqOn e = true → s.fld e F.SEQ_EAS_STATUS_PHASE = 0 → s.fld e F.EAS_LIFE_STATE = 3 → s.mayBuild = true →
      let w := s.setBuildWaits e false false; let f := (w.loseBadLists e).fillStep e
      ((f.seqEas e).segs = [] → exec (.buildRetry e) s = .next (f.setBuildWaits e false true)) ∧
      ((f.seqEas e).segs ≠ [] → ∃ b : State, b.fld e F.SEQ_EAS_STATUS_PHASE = 1 ∧ b.fld e F.SEQ_EAS_STEP_STEP = (f.fld e F.SEQ_EAS_STEP_STEP + 1) % 2 ^ 32 ∧ (b.seqEas e).segs = (f.seqEas e).segs ∧
        exec (.buildRetry e) s = .next (b.seqPost e 0x13 ((f.fld e F.SEQ_EAS_STEP_STEP + 1) % 2 ^ 32) stOk 1 (rowsPad (f.seqEas e).rows) (f.seqEas e).segs.length))) ∧
    ((s.seqEas e).buildWaits = true → (s.seqEas e).buildRetry = false → s.mayBuild = true → exec (.buildRetry e) s = .next ((s.setBuildWaits e false false).seqGo e []))

/-- 12 R368, R370 to R373, R376, R379, R380; 10 R316: ENABLE copies and checks the directory, or sets CFG_ERR; EMB_GATHER takes the ring's entry of KIND 0x18: one with a nonzero reserved byte, or that fails R371, completes
with its status, one beyond 32 waits, else the request joins its engine; a launch waits for its take, accumulator and slot, completes under R371, or asks for each distinct row; a local row is here as it is read, or missing;
at the deadline every outstanding row is missing; a request whose bags are written leaves, sends its signal and posts its record. -/
def Obligations.EmbeddingRequestsAreGathered : Prop :=
  ∀ (s : State),
    (∀ (req : Requester) (e : Nat), s.barOpen req F.EMB_EAS_CTRL_ENABLE.off = true → s.unitAt req F.EMB_EAS_CTRL_ENABLE.off = e →
      (isVf req e = false ∨ e = 0 ∨ s.embOn e = true → exec (.embEnable req) s = .next s) ∧
      (isVf req e = true → e ≠ 0 → s.embOn e = false → let n := s.fld e F.EMB_EAS_DIR_COUNT_COUNT; let a := 65536 * s.fld e F.EMB_EAS_DIR_UNIT; let bs := s.readBytes (bondKey e a) (64 * n)
        let ok := 1 ≤ n ∧ n ≤ 64 ∧ s.inShare e a (64 * n) = true ∧ s.poisoned (bondKey e a) (64 * n) = false ∧ ∀ x ∈ cut64 n bs, tbOk x = true
        (ok → ∃ t, exec (.embEnable req) s = .next t ∧ t.embOn e = true ∧ t.flag e F.EMB_EAS_STATUS_CFG_ERR = false ∧ (∀ i, t.embEntry e i = (bs.drop (64 * i)).take 64) ∧
          (∀ f i, f ≠ e → t.embEntry f i = s.embEntry f i) ∧ t.emb.reqs = s.emb.reqs ∧ t.mem = s.mem) ∧
        (¬ ok → exec (.embEnable req) s = .next (s.setFlag e F.EMB_EAS_STATUS_CFG_ERR true)))) ∧
    (∀ (e : Fin 64) host,
      (s.sqWaiting e = false → exec (.embGather e host) s = .next s) ∧
      (∀ s1, s.sqWaiting e = true → s.sqFetch e host = (none, s1) → exec (.embGather e host) s = .next s1) ∧
      (∀ d s1, s.sqWaiting e = true → s.sqFetch e host = (some d, s1) → let p := fieldLe d 2 2; let st := s1.embStatus e d
        let waits := (s1.emb.reqs.filter (fun r => decide (r.engine = p ∧ r.easel = e.val) && !r.launched)).length
        (nth 0 d 0 ≠ 0x18 → exec (.embGather e host) s = .next s) ∧
        (nth 0 d 0 = 0x18 → embEntryZero d = false → exec (.embGather e host) s = .next (s1.refuseEntry e stOpcode d)) ∧
        (nth 0 d 0 = 0x18 → embEntryZero d = true → st ≠ stOk → exec (.embGather e host) s = .next (s1.refuseEntry e st d)) ∧
        (nth 0 d 0 = 0x18 → embEntryZero d = true → st = stOk → 32 ≤ waits → exec (.embGather e host) s = .next (s1.setFlag e F.EAS_STATUS_RING_WAIT true)) ∧
        (nth 0 d 0 = 0x18 → embEntryZero d = true → st = stOk → waits < 32 →
          let r : EmbReq := ⟨s1.sched.nextId, e, p, d, false, false, false, [], [], [], [], [], false⟩
          exec (.embGather e host) s = .next ((((s1.enroll e).2.setReqsEmb (s1.emb.reqs ++ [r])).embTake p e).sqAdvance e)))) ∧
    (∀ (p : Fin 3) (e : Fin 64),
      (s.embNext p e = none → exec (.embLaunch p e) s = .next s) ∧
      (∀ r, s.embNext p e = some r → let d := r.entry; let none_ := rqPool d = 0
        let room := s.accUsed p + s.accBytes r ≤ 2 ^ 24 ∧ ((s.embLaunched p).filter (fun q => !q.parked)).length < 4 ∧ s.brace = false ∧ s.cqHeld e = false
        let ofs := if none_ then [] else s.embWords e (rqOfs d) (rqBags d + 1)
        let q := { r with launched := true, idx := s.embWords e (rqIdx d) (rqCount d), ofs := ofs, wgt := if rqPool d = 4 then s.embWords e (rqWgt d) (rqCount d) else [] }
        ((rqWait d).testBit 11 = true ∧ s.takeGranted (.emb r.id) = false ∨ ¬ room → exec (.embLaunch p e) s = .next (s.embTake p e)) ∧
        ((rqWait d).testBit 11 = false ∨ s.takeGranted (.emb r.id) = true → room →
          (16384 < s.rowsInFlight p + q.distinct.length → exec (.embLaunch p e) s = .next s) ∧
          (s.rowsInFlight p + q.distinct.length ≤ 16384 →
            (∀ st, st ≠ stOk → st = s.embStatus e d ∨ (s.embStatus e d = stOk ∧ st = stShape ∧ ¬ none_ ∧ ofsOk (rqCount d) ofs = false) →
              exec (.embLaunch p e) s = .next (((((s.useTake (.emb r.id)).setReqsEmb (s.emb.reqs.filter (fun x => decide (x.id ≠ r.id)))).postRecord e 0x18
                (embRecord (rqTag d) st (if rqStrict d then 2 else 0) e p 0 0 0 0)).retire e r.id ((rqFlags d).testBit 1)).embTake p e)) ∧
            (s.embStatus e d = stOk → (none_ ∨ ofsOk (rqCount d) ofs = true) →
              exec (.embLaunch p e) s = .next ((((forEach q.distinct (fun i (u : State) => match u.embReq r.id with
                | some x => u.askRow x i
                | none => u) ((s.useTake (.emb r.id)).updReq r.id (fun _ => q))).yzFlush.showEmb p e).embTake p e).embProgress r.id)))))) ∧
    (∀ id,
      (s.embReq id = none → (∀ row ecc, exec (.embRowArrival id row ecc) s = .next s) ∧ exec (.embDeadline id) s = .next s ∧ ∀ k, exec (.embComplete id k) s = .next s) ∧
      (∀ r, s.embReq id = some r →
        (∀ row ecc,
          (r.launched = false ∨ row ∉ r.distinct ∨ (r.row row).state ≠ rwOut ∨ (r.row row).remote = true → exec (.embRowArrival id row ecc) s = .next s) ∧
          (r.launched = true → row ∈ r.distinct → (r.row row).state = rwOut → (r.row row).remote = false →
            exec (.embRowArrival id row ecc) s = .next ((s.localRow r row ecc).embProgress id) ∧
            let t := s.embEntry r.easel (rqTable r.entry); let a := tbBase t + (shardOf t row).2 * tbRowBytes t; let n := rowBytes (tbFmt t) (tbDim t)
            (s.inShare r.easel a n = false → s.localRow r row ecc = (s.refuseShare r.easel a).missRow r row rwOther) ∧
            (s.inShare r.easel a n = true → let m := s.bondLoad r.easel a n stPoison ecc
              s.localRow r row ecc = ((m.st.setRow r.id row ⟨rwHere, false, m.st.viewOf .pass r.easel a (m.st.tagPoison (bondKey r.easel a) m.data)⟩).incWrap r.easel F.EMB_EAS_ROWS_LOCAL_COUNT 1).incWrap 0 (F.EMB_ENG_ROWS_COUNT r.engine) 1))) ∧
        (r.launched = false ∨ r.expired = true ∨ rqDeadline r.entry = 0 → exec (.embDeadline id) s = .next s) ∧
        (r.launched = true → r.expired = false → rqDeadline r.entry ≠ 0 → exec (.embDeadline id) s = .next
          ((forEach (r.distinct.filter (fun i => decide ((r.row i).state = rwOut))) (fun i (u : State) => match u.embReq id with
            | some q => u.missRow q i rwLate
            | none => u) (s.updReq id (fun q => { q with expired := true }))).embProgress id)) ∧
        (∀ k, let all := r.launched = true ∧ ∀ b, b < rqBags r.entry → NSet.has b r.written = true
          (¬ all → exec (.embComplete id k) s = .next s) ∧
          (all → let s1 := s.embDrop r; let s2 := if (rqSignal r.entry).testBit 11 then s1.sendSignal (linkSem (rqSignal r.entry)) else s1
            exec (.embComplete id k) s = .next ((s2.postRecord r.easel 0x18 (embRecord (rqTag r.entry) r.status ((if r.expired then 1 else 0) + (if rqStrict r.entry then 2 else 0)) r.easel r.engine
              (r.count (fun w => decide (rwDead ≤ w.state))) (r.count (fun w => w.remote && decide (w.state = rwHere)))
              (r.distinct.filter (fun i => decide ((r.row i).state = rwHere))).length k)).retire r.easel id ((rqFlags r.entry).testBit 1)) ∧
            ∀ q ∈ s1.emb.reqs, q.id ≠ r.id)))) ∧
    (∀ (r : EmbReq) (i : Nat), let t := s.embEntry r.easel (rqTable r.entry); let sh := shardOf t i
      (tbRows t ≤ i → s.askRow r i = s.missRow r i rwBad) ∧
      (i < tbRows t → s.jobOf r.easel = none → s.askRow r i = s.missRow r i rwDead) ∧
      (∀ j, i < tbRows t → s.jobOf r.easel = some j →
        (s.fld 0 (F.YZF_JOB_ID_JOB j) ≠ tbJob t → s.askRow r i = s.missRow r i rwDead) ∧
        (s.fld 0 (F.YZF_JOB_ID_JOB j) = tbJob t → s.tombstone j = false → tbRank0 t + sh.1 = s.selfRank j → s.askRow r i = s.setRow r.id i ⟨rwOut, false, []⟩)))

/-- 13 R384, R385, R398 to R401, R410, R411, R414, R415, R417; 18 R523: a frame of a command's type is checked: a closed path takes none, one with a bad FCS, a bad ICRC or another MAC, of no job, or from no rank of it, is dropped and counted;
a taken one first acknowledges and grants. A request or a response is taken when its number is due, held when it lies ahead of a gap, and only acknowledged when it came before; a NAK has the packet after its number sent again.
A request to a tombstone, of another epoch or of a newer generation executes nothing. LINK_REPLAY sends the frames after LACK again; a link that goes down moves its packets to other paths, one that comes up lets those that wait go. -/
def Obligations.FabricFramesAreTakenInTurn : Prop :=
  ∀ (s : State),
    (∀ (path : Fin 24) (f : YzFrame),
      let cmds : List (Instr × Nat × (Nat → State → State)) := [(.yarozReq path f, 1, fun j t => t.yzNumbered j f.pkt.src f.pkt), (.yarozResp path f, 2, fun j t => t.yzNumbered j f.pkt.src f.pkt),
        (.yarozAck path f, 3, fun _ t => t), (.yarozCredit path f, 5, fun _ t => t),
        (.yarozNak path f, 4, fun j t => ((f.pkt.ack.bind (fun a => (t.yzConn j f.pkt.src).unacked.find? (fun x => decide (x.psn = (a + 1) % 2 ^ 24)))).map (t.yzPut j f.pkt.src)).getD t)]
      (∀ c ∈ cmds,
        (f.pkt.type ≠ c.2.1 → exec c.1 s = .next s) ∧
        (∀ s1, f.pkt.type = c.2.1 → s.yzAccept path f = (none, s1) → exec c.1 s = .next s1) ∧
        (∀ j s1, f.pkt.type = c.2.1 → s.yzAccept path f = (some j, s1) → let r := f.pkt.src; let s2 := (f.pkt.ack.map (s1.yzAcked j r)).getD s1
          exec c.1 s = .next (c.2.2 j ((s2.setConn j r { s2.yzConn j r with granted := (s2.yzConn j r).granted + f.pkt.credit }).yzKick j r)))) ∧
      (s.yzPort path = false → s.yzAccept path f = (none, s)) ∧
      (s.yzPort path = true → let u := if path.val < 16 then s.countUnits 0 (F.YZF_LINK_RX_UNITS path) 65536 (s.yzFrameLen f.pkt) else s; let v := u.noteLink path f.pkt
        let direct := path.val < 16 ∧ u.fld 0 (F.YZF_LINK_STATUS_MODE path) = 1;
        (path.val < 16 → u.flag (149 + path) F.FLT_INJSTAT_ARMED = false) → u.flag 175 F.FLT_INJSTAT_ARMED = false → u.flag 176 F.FLT_INJSTAT_ARMED = false →
          (f.fcs = false → s.yzAccept path f = (none, if direct then u.sendLack path else u)) ∧
          (f.fcs = true → f.icrc = false ∨ f.dmac ≠ u.fabMac → s.yzAccept path f = (none, v.dropIcrc path false)) ∧
          (f.fcs = true → f.icrc = true → f.dmac = u.fabMac →
            (v.slotOf f.pkt.job = none → s.yzAccept path f = (none, v.incSat 0 F.YZF_DROP_JOB 1)) ∧
            (∀ j, v.slotOf f.pkt.job = some j → let e := v.rankEntry j f.pkt.src; let bad := f.smac ≠ e.1 ∨ (f.pkt.type = 1 ∧ (f.pkt.src = v.selfRank j ∨ e.2.2.1 = 1))
              (bad → s.yzAccept path f = (none, v.dropSpoof path j f.pkt.src false)) ∧ (¬ bad → s.yzAccept path f = (some j, v)))))) ∧
    (∀ (j r : Nat) (p : YzPkt), let c := s.yzConn j r
      (p.psn = c.rxPsn → let t := ((s.takePkt j r p).takeAhead j r 64).yzControl j r 3 0; s.yzNumbered j r p = if p.type = 1 then t.yzGrant j r else t) ∧
      (p.psn ≠ c.rxPsn → seqAhead 24 p.psn c.rxPsn = true → c.ahead.length < 64 → (∀ q ∈ c.ahead, q.psn ≠ p.psn) → s.yzNumbered j r p = (s.setConn j r { c with ahead := c.ahead ++ [p] }).yzControl j r 4 0) ∧
      (p.psn ≠ c.rxPsn → seqAhead 24 p.psn c.rxPsn = true → 64 ≤ c.ahead.length ∨ (∃ q ∈ c.ahead, q.psn = p.psn) → s.yzNumbered j r p = s.yzControl j r 4 0) ∧
      (p.psn ≠ c.rxPsn → seqAhead 24 p.psn c.rxPsn = false → s.yzNumbered j r p = s.yzControl j r 3 0) ∧
      (let u := s.setConn j r { c with rxPsn := (c.rxPsn + 1) % 2 ^ 24, got := c.got + (if p.type = 1 then 1 else 0) };
        (p.type = 1 → s.takePkt j r p = u.takeReq j r p) ∧ (p.type ≠ 1 → s.takePkt j r p = forEach p.recs (fun x (t : State) => t.takeResp j r x) u)) ∧
      (let own := (s.rankEntry j (s.selfRank j)).2.1; let epoch := s.fld 0 (F.YZF_JOB_EPOCH_EPOCH j)
        (s.tombstone j = true → s.takeReq j r p = forEach p.recs (fun x (t : State) => t.yzAnswer j r x yzMoved 0 own [])
          (({ s with yz := { s.yz with tombLast := SMap.set (fun _ => 0) s.yz.tombLast j s.nowNs } }).incSat 0 (F.YZF_JOB_MIG_LATE j) p.recs.length)) ∧
        (s.tombstone j = false → p.epoch ≠ epoch % 65536 → s.takeReq j r p = forEach p.recs (fun x (t : State) => t.yzAnswer j r x yzEpoch 0 epoch []) s) ∧
        (s.tombstone j = false → p.epoch = epoch % 65536 → genNewer p.gen own = true → s.takeReq j r p = forEach p.recs (fun x (t : State) => t.yzAnswer j r x yzAhead 0 0 []) s) ∧
        (s.tombstone j = false → p.epoch = epoch % 65536 → genNewer p.gen own = false →
          s.takeReq j r p = { s with yz := { s.yz with ingress := s.yz.ingress ++ p.recs.map (fun x => ⟨j, r, p.psn, x⟩) } }))) ∧
    (∀ (l : Fin 16),
      (∀ lack : BitVec 16,
        (s.fld 0 (F.YZF_LINK_STATUS_MODE l) ≠ 1 → exec (.linkReplay l lack) s = .next s) ∧
        (s.fld 0 (F.YZF_LINK_STATUS_MODE l) = 1 → let again := ((SMap.get (fun _ => []) s.yz.replay l.val).filter (fun q => seqAhead 16 q.lseq lack.toNat)).reverse
          let t := forEach again (fun q (t : State) => (t.emit (.yaroz l q)).countUnits 0 (F.YZF_LINK_TX_UNITS l) 65536 (t.yzFrameLen q)) s
          exec (.linkReplay l lack) s = .next ((t.incSat 0 (F.YZF_LINK_REPLAY_COUNT l) 1).detect (149 + l) atelier ukYzfLink l 0 0 sevCorrected false) ∧
          t.out = s.out ++ again.map (fun q => Output.yaroz l q))) ∧
      (∃ t, exec (.yarozLinkDown l) s = .next t ∧ t.flag 0 (F.YZF_LINK_STATUS_UP l) = false ∧ t.fld 0 (F.YZF_LINK_STATUS_LANES_UP l) = 0 ∧ t.pathUp l = false ∧
        t = (((s.setFlag 0 (F.YZF_LINK_STATUS_UP l) false).setFld 0 (F.YZF_LINK_STATUS_LANES_UP l) 0).clrFld 0 F.YZF_STATUS_LINK_UP (2 ^ l.val)).yzReroute l) ∧
      (∀ n : Fin 5,
        (n.val = 0 ∨ s.fld 0 (F.YZF_LINK_STATUS_MODE l) = 0 → exec (.yarozLinkUp l n) s = .next s) ∧
        (n.val ≠ 0 → s.fld 0 (F.YZF_LINK_STATUS_MODE l) ≠ 0 → ∃ t, exec (.yarozLinkUp l n) s = .next t ∧ t.fld 0 (F.YZF_LINK_STATUS_LANES_UP l) = n ∧ t.pathUp l = true ∧
          t = (((s.setFlag 0 (F.YZF_LINK_STATUS_UP l) true).setFld 0 (F.YZF_LINK_STATUS_LANES_UP l) n).orFld 0 F.YZF_STATUS_LINK_UP (2 ^ l.val)).yzKickAll)))

/-- 13 R394 to R397, R406, R410, R412; 11 R362; 18 R516; 21 R585: a command serves the oldest operation of a connection when it is of its kind: one whose granule is busy or queued waits in the home queue, of 4,096, or is answered RETRY_AFTER,
and is executed there once no earlier one touches its granule, together with the atomics that combine with it; a tombstone executes nothing and answers MOVED. A PROBE answers the device's state; an easel outside the job, or a quarantined device,
answers NO_EASEL; a write to a frozen easel RETRY_AFTER 10 µs. A tombstone is drained 100 µs after its last arrival once each MOVED is acknowledged, and expires after 2 ms. -/
def Obligations.FabricOperationsAreServedInTurn : Prop :=
  ∀ (s : State),
    (∀ (j : Fin 16) (r : Fin 4096) (busy0 : Bool) (ecc0 : Option EccEvent),
      let cmds : List (Instr × Nat × Bool × Option EccEvent) := [(.yzfLoad j r busy0 ecc0, 1, busy0, ecc0), (.yzfStore j r busy0, 2, busy0, none), (.yzfAtomic j r busy0 ecc0, 3, busy0, ecc0), (.yzfProbe j r, 4, false, none)]
      ∀ c ∈ cmds, let opc := c.2.1; let busy := c.2.2.1; let ecc := c.2.2.2
        (s.yz.ingress.find? (fun x => decide (x.slot = j.val ∧ x.rank = r.val)) = none → exec c.1 s = .next s) ∧
        (∀ x, s.yz.ingress.find? (fun x => decide (x.slot = j.val ∧ x.rank = r.val)) = some x →
          (x.op.opc ≠ opc → exec c.1 s = .next s) ∧
          (x.op.opc = opc → let u : State := { s with yz := { s.yz with ingress := s.yz.ingress.erase x } }
            let waits := opc ≠ 4 ∧ (busy = true ∨ ∃ h ∈ s.yz.home, sameGranule h.op x.op = true);
            (¬ waits → exec c.1 s = .next ((u.performOp x ecc).yzGrant j r)) ∧
            (waits → s.yz.home.length < 4096 → exec c.1 s = .next (({ u with yz := { u.yz with home := s.yz.home ++ [x] } }).showHome.yzGrant j r)) ∧
            (waits → 4096 ≤ s.yz.home.length →
              exec c.1 s = .next (((u.incSat 0 F.YZF_REFUSED_COUNT 1).yzAnswer j r x.op yzRetry 0 (max 1000 ((2 * s.yz.home.length * 20 + 20) / 21)) []).yzGrant j r))))) ∧
    (∀ (pos : Nat) ecc,
      (s.yz.home[pos]? = none → exec (.homeQueueServe pos ecc) s = .next s) ∧
      (∀ x, s.yz.home[pos]? = some x →
        ((∃ h ∈ s.yz.home.take pos, sameGranule h.op x.op = true) → exec (.homeQueueServe pos ecc) s = .next s) ∧
        ((∀ h ∈ s.yz.home.take pos, sameGranule h.op x.op = false) → let rest := s.yz.home.eraseIdx pos; let more := rest.filter (fun h => combines x.op h.op)
          let u := ({ s with yz := { s.yz with home := rest.filter (fun h => !combines x.op h.op) } }).showHome
          exec (.homeQueueServe pos ecc) s = .next (forEach more (fun h (t : State) => t.performOp h none) ((u.incWrap 0 F.YZF_COMBINED_COUNT more.length).performOp x ecc))))) ∧
    (∀ (x : YzIn) ecc,
      (s.tombstone x.slot = true → s.performOp x ecc = (s.incSat 0 (F.YZF_JOB_MIG_LATE x.slot) 1).yzAnswer x.slot x.rank x.op yzMoved 0 (s.rankEntry x.slot (s.selfRank x.slot)).2.1 []) ∧
      (s.tombstone x.slot = false → let a := s.yzServe x.slot x.op ecc; s.performOp x ecc = a.st.yzAnswer x.slot x.rank x.op a.status a.flags a.info a.data)) ∧
    (∀ (j : Nat) (r : YzRec) ecc, let e := r.addr / 2 ^ 46 % 64; let a := r.addr % 2 ^ 46; let q := s.flag 0 F.FLT_HEALTH_QUARANTINED
      (r.opc = 4 → s.yzServe j r ecc = ⟨yzOk, 0, 0, s.probeData j, s⟩) ∧
      (r.opc ≠ 4 → s.inJob j e = false ∨ q = true → s.yzServe j r ecc = ⟨yzNoEasel, 0, 0, [], s⟩) ∧
      (s.inJob j e = true → q = false →
        (r.opc = 1 → s.inShare e a r.len = false → (s.yzServe j r ecc).status = yzOutOfShare ∧ (s.yzServe j r ecc).data = []) ∧
        (r.opc = 1 → s.inShare e a r.len = true → s.poison = [] → s.seqOn e = false → ecc = none → s.flag (s.stackOf e (a / 64 * 64 / 65536)) F.FLT_INJSTAT_ARMED = false → (s.yzServe j r ecc).status = yzOk ∧ (s.yzServe j r ecc).data = s.readBytes (bondKey e a) r.len) ∧
        (r.opc = 2 ∨ r.opc = 3 → s.frozen e = true → s.yzServe j r ecc = ⟨yzRetry, 0, 10000, [], s⟩) ∧
        (r.opc = 2 → s.frozen e = false →
          (s.hitsUnderpainting e a r.len = true → s.yzServe j r ecc = ⟨yzOutOfShare, 0, 0, [], s.refuseUnderpaint e⟩) ∧
          (s.hitsUnderpainting e a r.len = false → s.inShare e a (r.payload.take r.len).length = true → s.yzServe j r ecc = ⟨yzOk, 0, 0, [], (s.bondStore e a (r.payload.take r.len)).st⟩) ∧
          (s.hitsUnderpainting e a r.len = false → s.inShare e a (r.payload.take r.len).length = false → (s.yzServe j r ecc).status = yzOutOfShare ∧ (s.yzServe j r ecc).st.mem = s.mem)) ∧
        (∀ op, r.opc = 3 → s.frozen e = false → aopOf (r.flags % 16) = some op → let w := if (r.flags / 16) % 2 = 1 then 8 else 4; let v1 := ofLe (r.payload.take w); let v2 := ofLe ((r.payload.drop w).take w)
          s.hitsUnderpainting e a w = false → let m := s.bondAtomic e a w op (if op = .cas then v2 else v1) v1 stPoison ecc
          m.status = .ok → s.yzServe j r ecc = ⟨yzOk, 0, 0, if (r.flags / 32) % 2 = 1 then m.data else [], m.st⟩))) ∧
    (∀ j : Fin 16, let age := s.tombAge j; let last := max (SMap.get (fun _ => 0) s.yz.tombAt j.val) (SMap.get (fun _ => 0) s.yz.tombLast j.val)
      let cmds : List (Instr × Nat × Prop) := [(.tombstoneDrained j, 2, s.movedOpen j = false ∧ last + 100000 ≤ s.nowNs), (.tombstoneExpired j, 3, 2000000 ≤ age)]
      ∀ c ∈ cmds,
        (s.fld 0 (F.YZF_JOB_MIG_STATE j) ≠ 1 ∨ ¬ c.2.2 → exec c.1 s = .next s) ∧
        (s.fld 0 (F.YZF_JOB_MIG_STATE j) = 1 → c.2.2 → ∃ t, exec c.1 s = .next t ∧ t.fld 0 (F.YZF_JOB_MIG_STATE j) = c.2.1 ∧ t.fld 0 (F.YZF_JOB_MIG_US_US j) = (age + 500) / 1000 % 2 ^ (F.YZF_JOB_MIG_US_US j).width ∧
          t.mem = s.mem ∧ t.yz = s.yz ∧ t.out = s.out))

/-- 13 R388, R396, R399, R401, R403, R404, R407, R409, R411, R414, R416; 11 R362: an unacknowledged packet that times out is sent again, unless its operations have all ended; the third timeout in a row on a path withdraws it, until a probe there is acknowledged.
A fence that timed out records itself and ends its descriptor with FENCE_TIMEOUT. An operation whose dead timer expires ends with DEAD_TARGET; one held for RETRY_AFTER, GEN_AHEAD or EPOCH is issued again, here when its rank is this device's own, and ends at once when that is dead.
A multicast table is loaded when its groups are well formed; a receiver that alone holds a full window back is dropped, counted and named. That the packets a dropped receiver was sent keep their place in its connection is this model's choice (log row 126). -/
def Obligations.FabricTimersAndMulticast : Prop :=
  ∀ (s : State),
    (∀ (j : Fin 16) (r : Fin 4096) (psn : BitVec 24), let c := s.yzConn j r; let i := Instr.retransmitTimeout j r psn
      (c.unacked.find? (fun x => decide (x.psn = psn.toNat)) = none → exec i s = .next s) ∧
      (∀ x, c.unacked.find? (fun x => decide (x.psn = psn.toNat)) = some x → let y := { x with tries := x.tries + 1 }
        let un := c.unacked.map (fun z => if z.psn = psn.toNat then y else z); let ended := x.pkt.type = 1 ∧ ∀ q ∈ x.pkt.recs, ∀ o ∈ s.yz.ops, o.tag ≠ q.tag;
        (ended → exec i s = .next (s.setConn j r { c with unacked := c.unacked.filter (fun z => decide (z.psn ≠ psn.toNat)) })) ∧
        (¬ ended → x.path = none → exec i s = .next ((s.setConn j r { c with unacked := un }).yzPut j r y)) ∧
        (∀ p, ¬ ended → x.path = some p → let n := SMap.get (fun _ => 0) c.tmo p + 1; let w := { c with unacked := un, tmo := SMap.set (fun _ => 0) c.tmo p n };
          (n < 3 → exec i s = .next ((s.setConn j r w).yzPut j r y)) ∧
          (3 ≤ n → exec i s = .next ((s.setConn j r { w with withdrawn := NSet.add p c.withdrawn }).moveOff j r p)))) ∧
      (∀ (path : Fin 24) acked,
        (NSet.has path.val c.withdrawn = false ∨ acked = false → exec (.pathProbe j r path acked) s = .next s) ∧
        (NSet.has path.val c.withdrawn = true → acked = true →
          exec (.pathProbe j r path acked) s = .next ((s.setConn j r { c with withdrawn := NSet.remove path c.withdrawn, tmo := SMap.set (fun _ => 0) c.tmo path 0 }).yzKick j r)))) ∧
    (∀ ch : Fin 2048, let waits := s.remoteWait ch = true ∨ ((s.chan ch).exec = none ∧ ∃ d l, (s.chan ch).drain = d :: l ∧ (signalWord d.desc).testBit 11 = true ∧ s.descOps ch d.index ≠ []);
      (¬ waits → exec (.fenceTimeout ch) s = .next s) ∧
      (waits → exec (.fenceTimeout ch) s = .next (s.fenceTimeout ch false)) ∧
      (∀ x, (s.chan ch).exec = some x → let e := s.chEasel ch; let rs := s.openRanks ch
        ∃ t, t.fld e F.YZF_EAS_FTO_COUNT = min (s.fld e F.YZF_EAS_FTO_COUNT + 1) (2 ^ F.YZF_EAS_FTO_COUNT.width - 1) ∧ t.fld e F.YZF_EAS_FTO_CHANNEL = ch.val ∧ t.fld e F.YZF_EAS_FTO_N_RANKS = rs.length % 2 ^ F.YZF_EAS_FTO_N_RANKS.width ∧
          let u := (forUpto 4 (fun i (t : State) => (((t.setFld e (F.YZF_EAS_FTO_RANK_RANK_A i) (nth 0 rs (2 * i))).setFlag e (F.YZF_EAS_FTO_RANK_VALID_A i) (decide (2 * i < rs.length))).setFld e
            (F.YZF_EAS_FTO_RANK_RANK_B i) (nth 0 rs (2 * i + 1))).setFlag e (F.YZF_EAS_FTO_RANK_VALID_B i) (decide (2 * i + 1 < rs.length))) t)
          let v := (u.detect 148 e ukChannel ch (nth 0 rs 0 + 65536 * (s.jobOf e).getD 0) stFence sevContained false).unpark ch
          s.fenceTimeout ch false = (if s.flag ch F.STR_CH_CFG_PATIENT then v else v.orphanOps ch x.index).chanError ch stFence x.pc 0)) ∧
    (∀ tag : BitVec 32,
      (s.opOf tag.toNat = none → ∀ i ∈ [Instr.deadTimerExpiry tag, .retryAfterReissue tag, .genAheadReissue tag, .epochReissue tag], exec i s = .next s) ∧
      (∀ o, s.opOf tag.toNat = some o →
        (exec (.deadTimerExpiry tag) s = .next (s.opDead o false)) ∧
        (∀ n d, o.owner = .chan n d → s.opDead o false = (s.yzDead o.easel o.slot o.rank ukChannel n false).ownerDone o stDead (deadBytes o.returns)) ∧
        (∀ n d, o.owner = .emb n d → s.opDead o false = (s.yzDead o.easel o.slot o.rank ukNone 0 false).ownerDone o stDead (deadBytes o.returns)) ∧
        (exec (.retryAfterReissue tag) s = .next (if o.hold = .retry then s.reissue o else s)) ∧
        (exec (.genAheadReissue tag) s = .next (if o.hold = .ahead then s.reissue o else s)) ∧
        (o.hold = .epochHigh → exec (.epochReissue tag) s = .next (s.reissue o)) ∧
        (∀ ep, o.hold = .epochLow ep → exec (.epochReissue tag) s = .next (if ep ≤ s.fld 0 (F.YZF_JOB_EPOCH_EPOCH o.slot) then s.reissue o else s)) ∧
        (o.hold ≠ .epochHigh → (∀ ep, o.hold ≠ .epochLow ep) → exec (.epochReissue tag) s = .next s) ∧
        (o.rank = s.selfRank o.slot → let a := s.yzServe o.slot o.op none; s.reissue o = if a.status = yzRetry then a.st else a.st.ownerDone o (ofYz a.status) a.data) ∧
        (o.rank ≠ s.selfRank o.slot → (s.rankEntry o.slot o.rank).2.2.1 = 1 → s.reissue o = s.opDead o false) ∧
        (o.rank ≠ s.selfRank o.slot → (s.rankEntry o.slot o.rank).2.2.1 ≠ 1 →
          s.reissue o = ({ s with yz := { s.yz with ops := s.yz.ops.map (fun (q : YzOp) => if q.tag = o.tag then { q with hold := .flight, sent := false } else q) } } : State).yzFlush))) ∧
    (∀ (req : Requester) (e : Nat), s.barOpen req F.YZF_EAS_MCAST_CTRL_LOAD.off = true → s.unitAt req F.YZF_EAS_MCAST_CTRL_LOAD.off = e →
      (isVf req e = false → exec (.mcastLoad req) s = .next s) ∧
      (isVf req e = true → let a := 65536 * s.fld e F.YZF_EAS_MCAST_UNIT; let bs := s.readBytes (bondKey e a) 32768; let n := (s.jobOf e).elim 0 (fun j => s.fld 0 (F.YZF_JOB_RANKS_COUNT j))
        let ok := s.inShare e a 32768 = true ∧ s.poisoned (bondKey e a) 32768 = false ∧ ∀ g, g < 64 → fieldLe bs (512 * g) 2 ≤ 255 ∧ (∀ r ∈ mcastGroup bs g, r < n) ∧ (mcastGroup bs g).Nodup
        ∃ t, exec (.mcastLoad req) s = .next t ∧ t.mem = s.mem ∧ (t.flag e F.YZF_EAS_STATUS_MCAST = true ↔ ok) ∧ (t.flag e F.YZF_EAS_STATUS_CFG_ERR = true ↔ ¬ ok) ∧
          (ok → SMap.get (fun _ => []) t.yz.mcast e = (List.range 64).map (mcastGroup bs)) ∧ (¬ ok → SMap.get (fun _ => []) t.yz.mcast e = []) ∧
          ∀ f, f ≠ e → SMap.get (fun _ => []) t.yz.mcast f = SMap.get (fun _ => []) s.yz.mcast f)) ∧
    (∀ (ch : Fin 2048) (r : Fin 4096), let e := s.chEasel ch; let i := Instr.mcastPrune ch r
      (s.jobOf e = none → exec i s = .next s) ∧
      (∀ j, s.jobOf e = some j → let c := s.yzConn j r; let stream := (c.unacked ++ c.waiting).findSome? (fun x => x.stream.filter (fun k => decide (k.1 = ch.val)))
        (stream = none → exec i s = .next s) ∧
        (∀ k, stream = some k → let desc := (((s.chan ch).exec.filter (fun x => decide (x.index = k.2))).map (·.desc)).getD ((((s.chan ch).drain.find? (fun d => decide (d.index = k.2))).map (·.desc)).getD [])
          let others := (nth [] (SMap.get (fun _ => []) s.yz.mcast e) (fieldLe desc 0x10 4 % 64)).filter (fun x => decide (x ≠ r.val ∧ x ≠ s.selfRank j ∧ (s.rankEntry j x).2.2.1 = 0) && !s.yz.pruned.contains (k.1, k.2, x))
          let due := 64 ≤ s.streamSpan k ∧ c.ofStream k = s.streamSpan k ∧ ∃ x ∈ others, (s.yzConn j x).ofStream k < s.streamSpan k;
          (¬ due → exec i s = .next s) ∧
          (due → exec i s = .next (((((s.dropReceiver j r k).incSat e F.YZF_EAS_MISSED_COUNT 1).setFld e F.YZF_EAS_MISSED_LAST_RANK r).noteStatus k.1 k.2 stMissed).yzKickAll)))))

/-- The order of commands (00 R7, the order of accesses; the queue is the model's, log 5): with a command at the front of the queue, a step runs it on the state with the queue's rest, whatever command and
state these are. -/
def Obligations.StepRunsTheFrontCommand : Prop :=
  ∀ (s : State) (c : Instr) (rest : List Instr), s.pending = c :: rest → step s = exec c { s with pending := rest }

/-- An empty queue (11 R360; 15 R452, R453; 16 R463; that this is when they happen is the model's choice, log 5): a step lets one S-cycle pass, in which the time-of-day counter adds TOD_INCR while the S
domain runs, the samples in progress end, and one unit leaves on the link to the host, easel 0's before any other; with nothing waiting nothing leaves and nothing else changes. Stated with no packet
waiting for a Yaroz link and no T-core, stack or link asleep. -/
def Obligations.IdleStepAdvancesTheTimeOfDay : Prop :=
  ∀ (s : State), s.pending = [] → s.eth.yzq = [] → s.fld 0 F.PWR_STK_SR_SR = 0 → s.fld 0 F.PWR_LINK_SLEEP_SLEEP = 0 → (∀ i, i < 3 → s.fld 0 (F.PWR_TC_STATE_STATE i) = 0) →
    let tod := if s.runs .s then (s.tod + s.fld64 0 F.TOD_INCR_LO_INCR F.TOD_INCR_HI_INCR) % 2 ^ 104 else s.tod
    (s.flag 0 F.SEQ_STATUS_SAMPLER_BUSY = false → s.hostUp = false ∨ (∀ e, e < 64 → s.hostQueue e = []) →
      ∃ t, step s = .next t ∧ t.tod = tod ∧ t.mem = s.mem ∧ t.out = s.out ∧ t.pending = [] ∧ (s.runs .s = false → t = s)) ∧
    (∀ o r, s.flag 0 F.SEQ_STATUS_SAMPLER_BUSY = false → s.hostUp = true → s.hostQueue 0 = o :: r →
      ∃ t, step s = .next t ∧ t.tod = tod ∧ t.out = s.out ++ [o] ∧ t.hostQueue 0 = r ∧ (∀ e, e ≠ 0 → t.hostQueue e = s.hostQueue e) ∧ t.mem = s.mem ∧ t.pending = []) ∧
    (s.flag 0 F.SEQ_STATUS_SAMPLER_BUSY = true → s.hostUp = false →
      ∃ t, step s = .next t ∧ t.tod = tod ∧ (∀ e, e < 64 → s.fld e F.SEQ_EAS_STATUS_PHASE = 2 → t.fld e F.SEQ_EAS_STATUS_PHASE = 3) ∧ t.mem = s.mem ∧ t.out = s.out)

/-- The whole table (00 R3: an access completes normally on the link, with no error status; a command that its rule refuses changes nothing or what the rule says): every command, in every state, answers a
next state, in which no command has been put in or taken out of the queue, what had left the block has left it, and no free value is drawn a second time. -/
def Obligations.EveryCommandAnswersANextState : Prop :=
  ∀ (c : Instr) (s : State), ∃ t, exec c s = .next t ∧ t.pending = s.pending ∧ s.out <+: t.out ∧ s.free ≤ t.free

/-- What every step keeps, from every state and not only from reset: memory, the register file and the sets of poisoned and used units stay in canonical form, so that equal contents are equal data, and the
time-of-day counter stays a count of 64 bits of whole ns with the 40 bits below (16 R463). -/
def Obligations.EveryStepKeepsTheInvariant : Prop :=
  ∀ (s t : State), s.Inv → step s = .next t → t.Inv

/-- The state right after reset (03 R68, R77) meets the invariant that every step keeps, and nothing has left the block, been drawn or been queued. -/
def Obligations.ResetMeetsTheInvariant : Prop :=
  State.reset.Inv ∧ State.reset.out = [] ∧ State.reset.free = 0 ∧ State.reset.pending = []

/-- 02 R55: through a VF every CVS_ register reads as zero and a write of one is discarded, whatever the size and the value: a read answers zeros only and changes nothing else, and a write changes nothing. -/
def Obligations.CanvasRegistersAreClosedToVfs : Prop :=
  ∀ (s : State) (n : Fin 64) (off size : Nat), 0x10000 ≤ off → off < 0x20000 → off + size ≤ 0x20000 →
    (∀ v, exec (.registerWrite (.vf n) off size v) s = .next s) ∧ (∀ v, exec (.pairedHighWrite (.vf n) off v) s = .next s) ∧
    ∃ l, exec (.lowRegisterRead (.vf n) off size) s = .next { s with out := s.out ++ l } ∧ (∀ o ∈ l, ∃ a, o = .readData (.vf n) a 0) ∧
      (s.barOpen (.vf n) off = true → 1 ≤ l.length)

/-- 03 R90: through a VF every CLK_, RST_ and PWR_SUP register, PWR_BRACE_CAUSE, PWR_NEARMISS and PWR_BRACE_LAST reads as zero and a write of one is discarded; a write of RST_WDOG_KICK from any requester other
than an Atelier core is discarded. -/
def Obligations.ResetRegistersAreClosedToVfs : Prop :=
  (∀ (s : State) (n : Fin 64) (off size : Nat), 0x20000 ≤ off → off < 0x30000 → off + size ≤ 0x30000 →
    (∀ v, exec (.registerWrite (.vf n) off size v) s = .next s) ∧ (∀ v, exec (.pairedHighWrite (.vf n) off v) s = .next s) ∧
    ∃ l, exec (.lowRegisterRead (.vf n) off size) s = .next { s with out := s.out ++ l } ∧ (∀ o ∈ l, ∃ a, o = .readData (.vf n) a 0) ∧
      (s.barOpen (.vf n) off = true → 1 ≤ l.length)) ∧
  ∀ (s : State) (req : Requester) (v : BitVec 32), req ≠ .atelier0 → req ≠ .atelier1 → exec (.watchdogKick req v) s = .next s
end

