-- ==== Sys2Proof/Laws/SMap.lean ====
section
/-! SUPPORT. Laws/SMap.lean: reads after writes of a sparse map, and that every operation on maps and sets keeps their canonical form. -/
namespace Sys2Proof.Machine

variable {α : Type}

theorem SMap.get_del_same (d : Nat → α) (m : SMap α) (x : Nat) : SMap.get d (SMap.del x m) x = d x := by
  induction m with
  | nil => rfl
  | cons e r ih =>
    obtain ⟨k, v⟩ := e
    by_cases h : x = k
    · simp only [SMap.del, h, if_true]; simpa only [h] using ih
    · simp [SMap.del, SMap.get, h, ih]

theorem SMap.get_del_ne (d : Nat → α) (m : SMap α) {x y : Nat} (h : y ≠ x) : SMap.get d (SMap.del x m) y = SMap.get d m y := by
  induction m with
  | nil => rfl
  | cons e r ih =>
    obtain ⟨k, v⟩ := e
    by_cases h1 : x = k
    · subst h1; simp only [SMap.del, if_true, SMap.get, h, if_false, ih]
    · simp only [SMap.del, h1, if_false, SMap.get, ih]

/-- A read after a write to the same key gives the value written. -/
@[simp] theorem SMap.get_set_same [DecidableEq α] (d : Nat → α) (m : SMap α) (x : Nat) (a : α) : SMap.get d (SMap.set d m x a) x = a := by
  induction m with
  | nil => by_cases h : a = d x <;> simp [SMap.set, SMap.get, h]
  | cons e r ih =>
    obtain ⟨k, v⟩ := e
    unfold SMap.set
    split
    · split
      · rename_i h; rw [SMap.get_del_same, h]
      · simp [SMap.get]
    · split
      · split
        · rename_i h; rw [SMap.get_del_same, h]
        · simp [SMap.get]
      · rename_i h; simp only [SMap.get, h, if_false, ih]

/-- A write leaves every other key alone. -/
theorem SMap.get_set_ne [DecidableEq α] (d : Nat → α) (m : SMap α) {x y : Nat} (a : α) (h : y ≠ x) :
    SMap.get d (SMap.set d m x a) y = SMap.get d m y := by
  induction m with
  | nil => by_cases c : a = d x <;> simp [SMap.set, SMap.get, c, h]
  | cons e r ih =>
    obtain ⟨k, v⟩ := e
    unfold SMap.set
    split
    · split
      · exact SMap.get_del_ne d _ h
      · simp only [SMap.get, h, if_false]
    · split
      · rename_i c; subst c
        split
        · rw [SMap.get_del_ne d _ h]; simp only [SMap.get, h, if_false]
        · simp only [SMap.get, h, if_false]
      · simp only [SMap.get, ih]

/-- A read after a write. -/
theorem SMap.get_set [DecidableEq α] (d : Nat → α) (m : SMap α) (x y : Nat) (a : α) :
    SMap.get d (SMap.set d m x a) y = if y = x then a else SMap.get d m y := by
  split
  · rename_i h; rw [h, SMap.get_set_same]
  · rename_i h; exact SMap.get_set_ne d m a h

theorem SMap.above_mono {a b : Nat} (h : a ≤ b) (m : SMap α) (hm : SMap.above b m = true) : SMap.above a m = true := by
  simp only [SMap.above, List.all_eq_true, decide_eq_true_eq] at *
  intro e he; have := hm e he; omega

theorem SMap.above_filter {b : Nat} (p : Nat × α → Bool) (m : SMap α) (hm : SMap.above b m = true) : SMap.above b (m.filter p) = true := by
  simp only [SMap.above, List.all_eq_true, decide_eq_true_eq] at *
  intro e he; exact hm e (List.mem_of_mem_filter he)

theorem SMap.above_del {b : Nat} (x : Nat) (m : SMap α) (hm : SMap.above b m = true) : SMap.above b (SMap.del x m) = true := by
  induction m with
  | nil => rfl
  | cons e r ih =>
    obtain ⟨k, v⟩ := e
    simp only [SMap.above, List.all_cons, Bool.and_eq_true] at hm ih ⊢
    unfold SMap.del
    split
    · exact ih hm.2
    · simp only [List.all_cons, Bool.and_eq_true]; exact ⟨hm.1, ih hm.2⟩

theorem SMap.above_set [DecidableEq α] {b : Nat} (d : Nat → α) (m : SMap α) (x : Nat) (a : α) (hx : b < x) (hm : SMap.above b m = true) :
    SMap.above b (SMap.set d m x a) = true := by
  induction m with
  | nil => by_cases h : a = d x <;> simp [SMap.set, SMap.above, h, hx]
  | cons e r ih =>
    obtain ⟨k, v⟩ := e
    have h1 : b < k := by simp [SMap.above] at hm; exact hm.1
    have h2 : SMap.above b r = true := by simp [SMap.above] at hm ⊢; exact hm.2
    have add : ∀ (y : Nat) (c : α) (l : SMap α), b < y → SMap.above b l = true → SMap.above b ((y, c) :: l) = true := by
      intro y c l hy hl; simp only [SMap.above, List.all_cons, hy, decide_true, Bool.true_and]; exact hl
    unfold SMap.set
    split
    · split
      · exact SMap.above_del x _ hm
      · exact add _ _ _ hx hm
    · split
      · split
        · exact SMap.above_del x r h2
        · exact add _ _ _ hx h2
      · exact add _ _ _ h1 (ih h2)

theorem SMap.wf_cons [DecidableEq α] {d : Nat → α} {k : Nat} {v : α} {r : SMap α} :
    SMap.wf d ((k, v) :: r) = true ↔ SMap.above k r = true ∧ v ≠ d k ∧ SMap.wf d r = true := by
  simp [SMap.wf, and_assoc]

theorem SMap.wf_del [DecidableEq α] (d : Nat → α) (m : SMap α) (x : Nat) (hm : SMap.wf d m = true) : SMap.wf d (SMap.del x m) = true := by
  induction m with
  | nil => rfl
  | cons e r ih =>
    obtain ⟨k, v⟩ := e
    obtain ⟨h1, h2, h3⟩ := SMap.wf_cons.mp hm
    unfold SMap.del
    split
    · exact ih h3
    · exact SMap.wf_cons.mpr ⟨SMap.above_del x r h1, h2, ih h3⟩

/-- A write keeps the canonical form. -/
theorem SMap.wf_set [DecidableEq α] (d : Nat → α) (m : SMap α) (x : Nat) (a : α) (hm : SMap.wf d m = true) : SMap.wf d (SMap.set d m x a) = true := by
  induction m with
  | nil => by_cases h : a = d x <;> simp [SMap.set, SMap.wf, SMap.above, h]
  | cons e r ih =>
    obtain ⟨k, v⟩ := e
    obtain ⟨h1, h2, h3⟩ := SMap.wf_cons.mp hm
    unfold SMap.set
    split
    · rename_i c1
      split
      · exact SMap.wf_del d _ x hm
      · rename_i ha
        refine SMap.wf_cons.mpr ⟨?_, ha, hm⟩
        simp only [SMap.above, List.all_cons, c1, decide_true, Bool.true_and]
        exact SMap.above_mono (Nat.le_of_lt c1) r h1
    · rename_i c1
      split
      · rename_i c2
        subst c2
        split
        · exact SMap.wf_del d r x h3
        · rename_i ha; exact SMap.wf_cons.mpr ⟨h1, ha, h3⟩
      · rename_i c2
        exact SMap.wf_cons.mpr ⟨SMap.above_set d r x a (by omega) h1, h2, ih h3⟩

/-- Dropping entries keeps the canonical form. -/
theorem SMap.wf_filter [DecidableEq α] (d : Nat → α) (m : SMap α) (p : Nat × α → Bool) (hm : SMap.wf d m = true) : SMap.wf d (m.filter p) = true := by
  induction m with
  | nil => rfl
  | cons e r ih =>
    obtain ⟨k, v⟩ := e
    obtain ⟨h1, h2, h3⟩ := SMap.wf_cons.mp hm
    by_cases c : p (k, v) = true
    · rw [List.filter_cons_of_pos c]; exact SMap.wf_cons.mpr ⟨SMap.above_filter p r h1, h2, ih h3⟩
    · rw [List.filter_cons_of_neg c]; exact ih h3

theorem SMap.wf_keep [DecidableEq α] (d : Nat → α) (m : SMap α) (p : Nat → Bool) (hm : SMap.wf d m = true) : SMap.wf d (SMap.keep p m) = true :=
  SMap.wf_filter d m _ hm

theorem NSet.wf_cons {k : Nat} {r : NSet} : NSet.wf (k :: r) = true ↔ (∀ j ∈ r, k < j) ∧ NSet.wf r = true := by simp [NSet.wf]

theorem NSet.mem_add {x y : Nat} {m : NSet} : y ∈ NSet.add x m ↔ y = x ∨ y ∈ m := by
  induction m with
  | nil => simp [NSet.add]
  | cons k r ih =>
    by_cases c1 : x < k
    · simp [NSet.add, c1]
    · by_cases c2 : x = k
      · simp [NSet.add, c2]
      · simp only [NSet.add, c1, c2, if_false, List.mem_cons, ih]; tauto

/-- Adding a member keeps a set in its form. -/
theorem NSet.wf_add (x : Nat) (m : NSet) (hm : NSet.wf m = true) : NSet.wf (NSet.add x m) = true := by
  induction m with
  | nil => simp [NSet.add, NSet.wf]
  | cons k r ih =>
    obtain ⟨h1, h2⟩ := NSet.wf_cons.mp hm
    by_cases c1 : x < k
    · simp only [NSet.add, c1, if_true]
      refine NSet.wf_cons.mpr ⟨?_, hm⟩
      intro j hj
      rcases List.mem_cons.mp hj with rfl | hj
      · exact c1
      · have := h1 j hj; omega
    · by_cases c2 : x = k
      · subst c2; simpa only [NSet.add, lt_irrefl, if_false, if_true] using hm
      · simp only [NSet.add, c1, c2, if_false]
        refine NSet.wf_cons.mpr ⟨?_, ih h2⟩
        intro j hj
        rcases NSet.mem_add.mp hj with rfl | hj
        · omega
        · exact h1 j hj

/-- Dropping members keeps a set in its form. -/
theorem NSet.wf_filter (m : NSet) (p : Nat → Bool) (hm : NSet.wf m = true) : NSet.wf (m.filter p) = true := by
  induction m with
  | nil => rfl
  | cons k r ih =>
    obtain ⟨h1, h2⟩ := NSet.wf_cons.mp hm
    by_cases c : p k = true
    · rw [List.filter_cons_of_pos c]
      exact NSet.wf_cons.mpr ⟨fun j hj => h1 j (List.mem_of_mem_filter hj), ih h2⟩
    · rw [List.filter_cons_of_neg c]; exact ih h2

/-- Membership after adding. -/
theorem NSet.has_add (x y : Nat) (m : NSet) : NSet.has y (NSet.add x m) = (decide (y = x) || NSet.has y m) := by
  rw [Bool.eq_iff_iff]
  simp only [NSet.has, List.any_eq_true, decide_eq_true_eq, Bool.or_eq_true]
  constructor
  · rintro ⟨z, hz, rfl⟩
    rcases NSet.mem_add.mp hz with h | h
    · exact Or.inl h
    · exact Or.inr ⟨z, h, rfl⟩
  · rintro (h | ⟨z, hz, rfl⟩)
    · exact ⟨y, NSet.mem_add.mpr (Or.inl h), rfl⟩
    · exact ⟨z, NSet.mem_add.mpr (Or.inr hz), rfl⟩

end Sys2Proof.Machine
end

