-- ==== Sys2Proof/Laws/Follows.lean ====
section
/-! SUPPORT. Laws/Follows.lean: `State.Follows` is a preorder, an update of any other field follows, and so do the operations that write what it speaks of. -/
namespace Sys2Proof.Machine

open Sys2Proof

theorem State.Follows.refl (s : State) : s.Follows s := ⟨rfl, List.prefix_refl _, Nat.le_refl _, id⟩

theorem State.Follows.trans {s t u : State} (h : s.Follows t) (k : t.Follows u) : s.Follows u :=
  ⟨k.pending.trans h.pending, h.out.trans k.out, h.free.trans k.free, fun i => k.inv (h.inv i)⟩

/-- An update of the other fields follows. -/
theorem State.Follows.upd {s t : State} (h : s.Follows t) {part reqs bond flt cxl tru boot sched tc sc seq pal str emb yz ten cvs eth fq rad ldpc time pow rst} :
    s.Follows ⟨t.regs, part, reqs, t.mem, t.poison, t.used, bond, t.tod, flt, cxl, tru, boot, sched, tc, sc, seq, pal, str, emb, yz, ten, cvs, eth, fq, rad, ldpc, time, pow, rst,
      t.out, t.free, t.pending⟩ :=
  ⟨h.pending, h.out, h.free, fun i => let k := h.inv i; ⟨k.mem, k.regs, k.poison, k.used, k.tod⟩⟩

/-- What a result is: its state follows. -/
def Res.Follows (s : State) (r : Res) : Prop :=
  match r with
  | .next t => s.Follows t
  | _ => True

theorem Res.Follows.next {s t : State} (h : s.Follows t) : Res.Follows s (.next t) := h

theorem State.Follows.ite {s a b : State} {c : Prop} [Decidable c] (h : c → s.Follows a) (k : ¬c → s.Follows b) : s.Follows (if c then a else b) := by
  by_cases hc : c
  · rw [if_pos hc]; exact h hc
  · rw [if_neg hc]; exact k hc

theorem State.Follows.ite_fst {α : Type} {s : State} {a b : State × α} {c : Prop} [Decidable c] (h : c → s.Follows a.1) (k : ¬c → s.Follows b.1) :
    s.Follows (if c then a else b).1 := by
  by_cases hc : c
  · rw [if_pos hc]; exact h hc
  · rw [if_neg hc]; exact k hc

theorem State.Follows.ite_snd {α : Type} {s : State} {a b : α × State} {c : Prop} [Decidable c] (h : c → s.Follows a.2) (k : ¬c → s.Follows b.2) :
    s.Follows (if c then a else b).2 := by
  by_cases hc : c
  · rw [if_pos hc]; exact h hc
  · rw [if_neg hc]; exact k hc

theorem State.Follows.ite_trd {α β : Type} {s : State} {a b : α × β × State} {c : Prop} [Decidable c] (h : c → s.Follows a.2.2) (k : ¬c → s.Follows b.2.2) :
    s.Follows (if c then a else b).2.2 := by
  by_cases hc : c
  · rw [if_pos hc]; exact h hc
  · rw [if_neg hc]; exact k hc

theorem Res.Follows.ite {s : State} {a b : Res} {c : Prop} [Decidable c] (h : c → Res.Follows s a) (k : ¬c → Res.Follows s b) : Res.Follows s (if c then a else b) := by
  by_cases hc : c
  · rw [if_pos hc]; exact h hc
  · rw [if_neg hc]; exact k hc

theorem State.Follows.of_snd {α : Type} {s t : State} {a : α} {p : α × State} (e : p = (a, t)) (h : s.Follows p.2) : s.Follows t := by subst e; exact h

theorem State.Follows.of_trd {α β : Type} {s t : State} {a : α} {b : β} {p : α × β × State} (e : p = (a, b, t)) (h : s.Follows p.2.2) : s.Follows t := by
  subst e; exact h

theorem State.Follows.of_fst {α : Type} {s t : State} {a : α} {p : State × α} (e : p = (t, a)) (h : s.Follows p.1) : s.Follows t := by subst e; exact h

theorem State.Follows.getD {s t : State} {o : Option State} (h : ∀ v, o = some v → s.Follows v) (k : s.Follows t) : s.Follows (o.getD t) := by
  cases o with
  | none => exact k
  | some v => exact h v rfl

theorem State.Follows.of_opt {s t : State} {o : Option State} (e : o = some t) (h : ∀ v, o = some v → s.Follows v) : s.Follows t := h t e

theorem State.Follows.of_opt_snd {α : Type} {s t : State} {a : α} {o : Option (α × State)} (e : o = some (a, t)) (h : ∀ v, o = some v → s.Follows v.2) : s.Follows t :=
  h (a, t) e

theorem State.Follows.of_opt_fst {α : Type} {s t : State} {a : α} {o : Option (State × α)} (e : o = some (t, a)) (h : ∀ v, o = some v → s.Follows v.1) : s.Follows t :=
  h (t, a) e

/-- A loop over a list follows when its body does. -/
theorem forEach_follows {α : Type} {s : State} (l : List α) (f : α → State → State) (hf : ∀ a t, s.Follows t → s.Follows (f a t)) {t : State} (h : s.Follows t) :
    s.Follows (forEach l f t) := by
  unfold forEach
  induction l generalizing t with
  | nil => exact h
  | cons a r ih => exact ih (hf a t h)

/-- A counted loop follows when its body does. -/
theorem forUpto_follows {s : State} (n : Nat) (f : Nat → State → State) (hf : ∀ a t, s.Follows t → s.Follows (f a t)) {t : State} (h : s.Follows t) :
    s.Follows (forUpto n f t) := by
  unfold forUpto
  generalize List.range n = l
  induction l generalizing t with
  | nil => exact h
  | cons a r ih => exact ih (hf a t h)

/-- A fold over a list follows when its body does. -/
theorem foldl_follows {α : Type} {s : State} (l : List α) (f : State → α → State) (hf : ∀ t a, s.Follows t → s.Follows (f t a)) {t : State} (h : s.Follows t) :
    s.Follows (l.foldl f t) := by
  induction l generalizing t with
  | nil => exact h
  | cons a r ih => exact ih (hf t a h)

/-- A fold that carries a value beside the state follows when its body does. -/
theorem foldl_fst_follows {α β : Type} {s : State} (l : List α) (f : State × β → α → State × β) (hf : ∀ p a, s.Follows p.1 → s.Follows (f p a).1) {p : State × β}
    (h : s.Follows p.1) : s.Follows (l.foldl f p).1 := by
  induction l generalizing p with
  | nil => exact h
  | cons a r ih => exact ih (hf p a h)

/-- A fold that carries a value before the state follows when its body does. -/
theorem foldl_snd_follows {α β : Type} {s : State} (l : List α) (f : β × State → α → β × State) (hf : ∀ p a, s.Follows p.2 → s.Follows (f p a).2) {p : β × State}
    (h : s.Follows p.2) : s.Follows (l.foldl f p).2 := by
  induction l generalizing p with
  | nil => exact h
  | cons a r ih => exact ih (hf p a h)

/-- A fold that carries two values before the state follows when its body does. -/
theorem foldl_trd_follows {α β γ : Type} {s : State} (l : List α) (f : β × γ × State → α → β × γ × State) (hf : ∀ p a, s.Follows p.2.2 → s.Follows (f p a).2.2)
    {p : β × γ × State} (h : s.Follows p.2.2) : s.Follows (l.foldl f p).2.2 := by
  induction l generalizing p with
  | nil => exact h
  | cons a r ih => exact ih (hf p a h)

/-! ### The operations that write registers, memory, marks, outputs and the draw counter -/

theorem State.setReg_follows {s0 s : State} (u off : Nat) (w : BitVec 32) (h : s0.Follows s) : s0.Follows (s.setReg u off w) :=
  ⟨h.pending, h.out, h.free, fun i => let k := h.inv i; ⟨k.mem, SMap.wf_set _ _ _ _ k.regs, k.poison, k.used, k.tod⟩⟩

theorem State.draw_follows {s0 s : State} (h : s0.Follows s) : s0.Follows s.draw.2 :=
  ⟨h.pending, h.out, h.free.trans (Nat.le_succ _), fun i => let k := h.inv i; ⟨k.mem, k.regs, k.poison, k.used, k.tod⟩⟩

theorem State.emit_follows {s0 s : State} (o : Output) (h : s0.Follows s) : s0.Follows (s.emit o) :=
  ⟨h.pending, h.out.trans (List.prefix_append _ _), h.free, fun i => let k := h.inv i; ⟨k.mem, k.regs, k.poison, k.used, k.tod⟩⟩

theorem State.setByte_follows {s0 s : State} (k : Nat) (b : Byte) (h : s0.Follows s) : s0.Follows (s.setByte k b) :=
  ⟨h.pending, h.out, h.free, fun i => let j := h.inv i; ⟨SMap.wf_set _ _ _ _ j.mem, j.regs, j.poison, j.used, j.tod⟩⟩

theorem State.writeBytes_follows {s0 : State} (bs : List Nat) {s : State} (k : Nat) (h : s0.Follows s) : s0.Follows (s.writeBytes k bs) := by
  induction bs generalizing s k with
  | nil => exact h
  | cons b r ih => exact ih (k + 1) (State.setByte_follows k _ h)

theorem State.zeroBytes_follows {s0 s : State} (k n : Nat) (h : s0.Follows s) : s0.Follows (s.zeroBytes k n) := by
  refine ⟨h.pending, h.out, h.free, fun i => ?_⟩
  have j := h.inv i
  exact ⟨SMap.wf_keep memDefault s.mem (fun x => decide (x < k ∨ k + n ≤ x)) j.mem, j.regs, NSet.wf_filter _ _ j.poison, j.used, j.tod⟩

theorem State.markPoison_follows {s0 s : State} (k : Nat) (h : s0.Follows s) : s0.Follows (s.markPoison k) :=
  ⟨h.pending, h.out, h.free, fun i => let j := h.inv i; ⟨j.mem, j.regs, NSet.wf_add _ _ j.poison, j.used, j.tod⟩⟩

theorem State.healPoison_follows {s0 s : State} (k n : Nat) (h : s0.Follows s) : s0.Follows (s.healPoison k n) :=
  ⟨h.pending, h.out, h.free, fun i => let j := h.inv i; ⟨j.mem, j.regs, NSet.wf_filter _ _ j.poison, j.used, j.tod⟩⟩

theorem State.setUsed_follows {s0 s : State} (k : Nat) (h : s0.Follows s) : s0.Follows (s.setUsed k) :=
  ⟨h.pending, h.out, h.free, fun i => let j := h.inv i; ⟨j.mem, j.regs, j.poison, NSet.wf_add _ _ j.used, j.tod⟩⟩

theorem State.clearUsed_follows {s0 s : State} (k n : Nat) (h : s0.Follows s) : s0.Follows (s.clearUsed k n) :=
  ⟨h.pending, h.out, h.free, fun i => let j := h.inv i; ⟨j.mem, j.regs, j.poison, NSet.wf_filter _ _ j.used, j.tod⟩⟩

end Sys2Proof.Machine
end

