-- ==== Sys2Proof/Laws/OpsFollows.lean ====
section
/-! SUPPORT. Laws/OpsFollows.lean: every operation of Machine/Ops.lean follows: what it does to the queue, the outputs, the draw counter and the invariant (Safety.lean). -/
set_option linter.unusedVariables false
set_option linter.unreachableTactic false
set_option linter.unusedTactic false
namespace Sys2Proof.Machine

open Sys2Proof

theorem State.setFld_follows {z : State} {s : State} (u : Nat) (f : Fld) (v : Nat) (hs : z.Follows s) :
    z.Follows (State.setFld s u f v) := by
  unfold State.setFld
  repeat' (first | with_reducible assumption | with_reducible apply State.setReg_follows | with_reducible apply Res.Follows.next | fail_if_no_progress with_reducible apply State.Follows.upd | split | trivial | intro _ | dsimp only)

theorem State.setFlag_follows {z : State} {s : State} (u : Nat) (f : Fld) (b : Bool) (hs : z.Follows s) :
    z.Follows (State.setFlag s u f b) := by
  unfold State.setFlag
  repeat' (first | with_reducible assumption | with_reducible refine State.Follows.ite (fun _ => ?_) (fun _ => ?_) | with_reducible apply State.setFld_follows | with_reducible apply Res.Follows.next | fail_if_no_progress with_reducible apply State.Follows.upd | split | trivial | intro _ | dsimp only)

theorem State.orFld_follows {z : State} {s : State} (u : Nat) (f : Fld) (m : Nat) (hs : z.Follows s) :
    z.Follows (State.orFld s u f m) := by
  unfold State.orFld
  repeat' (first | with_reducible assumption | with_reducible apply State.setFld_follows | with_reducible apply Res.Follows.next | fail_if_no_progress with_reducible apply State.Follows.upd | split | trivial | intro _ | dsimp only)

theorem State.clrFld_follows {z : State} {s : State} (u : Nat) (f : Fld) (m : Nat) (hs : z.Follows s) :
    z.Follows (State.clrFld s u f m) := by
  unfold State.clrFld
  repeat' (first | with_reducible assumption | with_reducible apply State.setFld_follows | with_reducible apply Res.Follows.next | fail_if_no_progress with_reducible apply State.Follows.upd | split | trivial | intro _ | dsimp only)

theorem State.incSat_follows {z : State} {s : State} (u : Nat) (f : Fld) (n : Nat) (hs : z.Follows s) :
    z.Follows (State.incSat s u f n) := by
  unfold State.incSat
  repeat' (first | with_reducible assumption | with_reducible apply State.setFld_follows | with_reducible apply Res.Follows.next | fail_if_no_progress with_reducible apply State.Follows.upd | split | trivial | intro _ | dsimp only)

theorem State.incWrap_follows {z : State} {s : State} (u : Nat) (f : Fld) (n : Nat) (hs : z.Follows s) :
    z.Follows (State.incWrap s u f n) := by
  unfold State.incWrap
  repeat' (first | with_reducible assumption | with_reducible apply State.setFld_follows | with_reducible apply Res.Follows.next | fail_if_no_progress with_reducible apply State.Follows.upd | split | trivial | intro _ | dsimp only)

theorem State.setFld64_follows {z : State} {s : State} (u : Nat) (lo : Fld) (hi : Fld) (v : Nat) (hs : z.Follows s) :
    z.Follows (State.setFld64 s u lo hi v) := by
  unfold State.setFld64
  repeat' (first | with_reducible assumption | with_reducible apply State.setFld_follows | with_reducible apply Res.Follows.next | fail_if_no_progress with_reducible apply State.Follows.upd | split | trivial | intro _ | dsimp only)

theorem State.inc64_follows {z : State} {s : State} (u : Nat) (lo : Fld) (hi : Fld) (n : Nat) (hs : z.Follows s) :
    z.Follows (State.inc64 s u lo hi n) := by
  unfold State.inc64
  repeat' (first | with_reducible assumption | with_reducible apply State.setFld64_follows | with_reducible apply Res.Follows.next | fail_if_no_progress with_reducible apply State.Follows.upd | split | trivial | intro _ | dsimp only)

theorem State.countUnits_follows {z : State} {s : State} (u : Nat) (f : Fld) (unitBytes : Nat) (n : Nat) (hs : z.Follows s) :
    z.Follows (State.countUnits s u f unitBytes n) := by
  unfold State.countUnits
  repeat' (first | with_reducible assumption | with_reducible apply State.incWrap_follows | with_reducible apply Res.Follows.next | fail_if_no_progress with_reducible apply State.Follows.upd | split | trivial | intro _ | dsimp only)

theorem State.toHost_follows {z : State} {s : State} (e : Nat) (o : Output) (hs : z.Follows s) :
    z.Follows (State.toHost s e o) := by
  unfold State.toHost
  repeat' (first | with_reducible assumption | with_reducible apply Res.Follows.next | fail_if_no_progress with_reducible apply State.Follows.upd | split | trivial | intro _ | dsimp only)

theorem State.hostWrite_follows {z : State} {s : State} (easel : Nat) (addr : Nat) (bytes : List Nat) (hs : z.Follows s) :
    z.Follows (State.hostWrite s easel addr bytes) := by
  unfold State.hostWrite
  repeat' (first | with_reducible assumption | with_reducible apply State.toHost_follows | with_reducible apply Res.Follows.next | fail_if_no_progress with_reducible apply State.Follows.upd | split | trivial | intro _ | dsimp only)

theorem State.fire_follows {z : State} {s : State} (fn : Nat) (vec : Nat) (hs : z.Follows s) :
    z.Follows (State.fire s fn vec) := by
  unfold State.fire
  repeat' (first | with_reducible assumption | with_reducible refine State.Follows.ite (fun _ => ?_) (fun _ => ?_) | with_reducible apply State.toHost_follows | with_reducible apply Res.Follows.next | fail_if_no_progress with_reducible apply State.Follows.upd | split | trivial | intro _ | dsimp only)

theorem State.fireModerated_follows {z : State} {s : State} (easel : Nat) (vec : Nat) (hs : z.Follows s) :
    z.Follows (State.fireModerated s easel vec) := by
  unfold State.fireModerated
  repeat' (first | with_reducible assumption | with_reducible refine State.Follows.ite (fun _ => ?_) (fun _ => ?_) | with_reducible apply State.fire_follows | with_reducible apply Res.Follows.next | fail_if_no_progress with_reducible apply State.Follows.upd | split | trivial | intro _ | dsimp only)

theorem State.setCtx_follows {z : State} {s : State} (r : Requester) (c : ReqCtx) (hs : z.Follows s) :
    z.Follows (State.setCtx s r c) := by
  unfold State.setCtx
  repeat' (first | with_reducible assumption | with_reducible apply Res.Follows.next | fail_if_no_progress with_reducible apply State.Follows.upd | split | trivial | intro _ | dsimp only)

end Sys2Proof.Machine
end

