-- ==== Sys2Proof/Laws/AccessFollows.lean ====
section
/-! SUPPORT. Laws/AccessFollows.lean: every operation of Machine/Access.lean follows: what it does to the queue, the outputs, the draw counter and the invariant (Safety.lean). -/
set_option linter.unusedVariables false
set_option linter.unreachableTactic false
set_option linter.unusedTactic false
namespace Sys2Proof.Machine

open Sys2Proof

theorem State.access_follows {z s : State} (req : Requester) (off : Nat) (f : Nat → Res) (hf : ∀ u, Res.Follows z (f u)) (hs : z.Follows s) :
    Res.Follows z (s.access req off f) := by
  unfold State.access
  exact Res.Follows.ite (fun _ => hf _) (fun _ => hs)

end Sys2Proof.Machine
end

