-- ==== Sys2Proof/Laws/Answers.lean ====
section
/-! SUPPORT. Laws/Answers.lean: each meaning answers a next state. -/
set_option linter.unusedVariables false
set_option linter.unusedTactic false
set_option linter.unreachableTactic false
namespace Sys2Proof.Machine

open Sys2Proof

theorem execDomainSettle_next (d : Domain) (s : State) : ∃ u, execDomainSettle d s = .next u := by
  unfold execDomainSettle
  try unfold State.access
  repeat' (first | exact ⟨_, rfl⟩ | split | dsimp only)
theorem execPushDone_next (req : Requester) (s : State) : ∃ u, execPushDone req s = .next u := by
  unfold execPushDone
  try unfold State.access
  repeat' (first | exact ⟨_, rfl⟩ | split | dsimp only)
theorem execPushAbort_next (req : Requester) (s : State) : ∃ u, execPushAbort req s = .next u := by
  unfold execPushAbort
  try unfold State.access
  repeat' (first | exact ⟨_, rfl⟩ | split | dsimp only)
theorem execPushRequestTimeout_next (s : State) : ∃ u, execPushRequestTimeout s = .next u := by
  unfold execPushRequestTimeout
  try unfold State.access
  repeat' (first | exact ⟨_, rfl⟩ | split | dsimp only)
theorem execApplyBegin_next (lost : Bool) (s : State) : ∃ u, execApplyBegin lost s = .next u := by
  unfold execApplyBegin
  try unfold State.access
  repeat' (first | exact ⟨_, rfl⟩ | split | dsimp only)
theorem execStackTrainingDone_next (trained : BitVec 18) (spares : List Nat) (filled lost : Bool) (s : State) : ∃ u, execStackTrainingDone trained spares filled lost s = .next u := by
  unfold execStackTrainingDone
  try unfold State.access
  repeat' (first | exact ⟨_, rfl⟩ | split | dsimp only)
theorem execEasel0Start_next (us : BitVec 32) (s : State) : ∃ u, execEasel0Start us s = .next u := by
  unfold execEasel0Start
  try unfold State.access
  repeat' (first | exact ⟨_, rfl⟩ | split | dsimp only)
theorem execBondedRequest_next (easel : Fin 64) (addr : Nat) (acc : MemAcc) (ecc : Option EccEvent) (s : State) : ∃ u, execBondedRequest easel addr acc ecc s = .next u := by
  unfold execBondedRequest
  try unfold State.access
  repeat' (first | exact ⟨_, rfl⟩ | split | dsimp only)
theorem execBankPageTimeout_next (stack : Fin 18) (channel : Fin 48) (bank : Fin 32) (s : State) : ∃ u, execBankPageTimeout stack channel bank s = .next u := by
  unfold execBankPageTimeout
  try unfold State.access
  repeat' (first | exact ⟨_, rfl⟩ | split | dsimp only)
theorem execStackRefresh_next (stack : Fin 18) (channel : Fin 48) (bank : Fin 32) (s : State) : ∃ u, execStackRefresh stack channel bank s = .next u := by
  unfold execStackRefresh
  try unfold State.access
  repeat' (first | exact ⟨_, rfl⟩ | split | dsimp only)
theorem execPatrolScrub_next (stack : Fin 18) (ecc : Ecc) (lane : Nat) (s : State) : ∃ u, execPatrolScrub stack ecc lane s = .next u := by
  unfold execPatrolScrub
  try unfold State.access
  repeat' (first | exact ⟨_, rfl⟩ | split | dsimp only)
theorem execMemReleaseGo_next (req : Requester) (s : State) : ∃ u, execMemReleaseGo req s = .next u := by
  unfold execMemReleaseGo
  try unfold State.access
  repeat' (first | exact ⟨_, rfl⟩ | split | dsimp only)
theorem execMemReleaseDone_next (easel : Fin 64) (s : State) : ∃ u, execMemReleaseDone easel s = .next u := by
  unfold execMemReleaseDone
  try unfold State.access
  repeat' (first | exact ⟨_, rfl⟩ | split | dsimp only)
theorem execRomBoot_next (flash : Option Blob) (ident : Option Blob) (s : State) : ∃ u, execRomBoot flash ident s = .next u := by
  unfold execRomBoot
  try unfold State.access
  repeat' (first | exact ⟨_, rfl⟩ | split | dsimp only)
theorem execPushStart_next (req : Requester) (s : State) : ∃ u, execPushStart req s = .next u := by
  unfold execPushStart
  try unfold State.access
  repeat' (first | exact ⟨_, rfl⟩ | split | dsimp only)
theorem execTcCompletion_next (core : Fin 48) (id : Nat) (group : Nat) (cycles : Nat) (busy : Nat) (s : State) : ∃ u, execTcCompletion core id group cycles busy s = .next u := by
  unfold execTcCompletion
  try unfold State.access
  repeat' (first | exact ⟨_, rfl⟩ | split | dsimp only)
theorem execScCompletion_next (core : Fin 192) (pm : Ecc) (parkedCyc : Nat) (s : State) : ∃ u, execScCompletion core pm parkedCyc s = .next u := by
  unfold execScCompletion
  try unfold State.access
  repeat' (first | exact ⟨_, rfl⟩ | split | dsimp only)
theorem execRepeatCeiling_next (core : Fin 192) (parkedCyc : Nat) (s : State) : ∃ u, execRepeatCeiling core parkedCyc s = .next u := by
  unfold execRepeatCeiling
  try unfold State.access
  repeat' (first | exact ⟨_, rfl⟩ | split | dsimp only)
theorem execDescriptorFetchDone_next (ch : Fin 2048) (host : Blob) (fail : Bool) (s : State) : ∃ u, execDescriptorFetchDone ch host fail s = .next u := by
  unfold execDescriptorFetchDone
  try unfold State.access
  repeat' (first | exact ⟨_, rfl⟩ | split | dsimp only)
theorem execDescriptorComplete_next (ch : Fin 2048) (s : State) : ∃ u, execDescriptorComplete ch s = .next u := by
  unfold execDescriptorComplete
  try unfold State.access
  repeat' (first | exact ⟨_, rfl⟩ | split | dsimp only)
theorem execChannelAbort_next (req : Requester) (s : State) : ∃ u, execChannelAbort req s = .next u := by
  unfold execChannelAbort
  try unfold State.access
  repeat' (first | exact ⟨_, rfl⟩ | split | dsimp only)
theorem execCxlLinkTraining_next (rate : Fin 4) (width : Fin 17) (flit256 : Bool) (lopt : Bool) (s : State) : ∃ u, execCxlLinkTraining rate width flit256 lopt s = .next u := by
  unfold execCxlLinkTraining
  try unfold State.access
  repeat' (first | exact ⟨_, rfl⟩ | split | dsimp only)
theorem execVfEnable_next (num : Nat) (s : State) : ∃ u, execVfEnable num s = .next u := by
  unfold execVfEnable
  try unfold State.access
  repeat' (first | exact ⟨_, rfl⟩ | split | dsimp only)
theorem execVfDisable_next (s : State) : ∃ u, execVfDisable s = .next u := by
  unfold execVfDisable
  try unfold State.access
  repeat' (first | exact ⟨_, rfl⟩ | split | dsimp only)
theorem execVfFlr_next (n : Fin 64) (s : State) : ∃ u, execVfFlr n s = .next u := by
  unfold execVfFlr
  try unfold State.access
  repeat' (first | exact ⟨_, rfl⟩ | split | dsimp only)
theorem execPfFlr_next (s : State) : ∃ u, execPfFlr s = .next u := by
  unfold execPfFlr
  try unfold State.access
  repeat' (first | exact ⟨_, rfl⟩ | split | dsimp only)
theorem execAtsInvalidation_next (fn : Fin 64) (pages : List Nat) (refused : List Nat) (s : State) : ∃ u, execAtsInvalidation fn pages refused s = .next u := by
  unfold execAtsInvalidation
  try unfold State.access
  repeat' (first | exact ⟨_, rfl⟩ | split | dsimp only)
theorem execDlDown_next (s : State) : ∃ u, execDlDown s = .next u := by
  unfold execDlDown
  try unfold State.access
  repeat' (first | exact ⟨_, rfl⟩ | split | dsimp only)
theorem execConfigRequest_next (fn : Fin 64) (s : State) : ∃ u, execConfigRequest fn s = .next u := by
  unfold execConfigRequest
  try unfold State.access
  repeat' (first | exact ⟨_, rfl⟩ | split | dsimp only)
theorem execCxlMemRequest_next (easel : Fin 64) (off : Nat) (acc : CxlMemOp) (ecc : Option EccEvent) (s : State) : ∃ u, execCxlMemRequest easel off acc ecc s = .next u := by
  unfold execCxlMemRequest
  try unfold State.access
  repeat' (first | exact ⟨_, rfl⟩ | split | dsimp only)
theorem execMsiModerationTimer_next (easel : Fin 64) (vec : Fin 2) (s : State) : ∃ u, execMsiModerationTimer easel vec s = .next u := by
  unfold execMsiModerationTimer
  try unfold State.access
  repeat' (first | exact ⟨_, rfl⟩ | split | dsimp only)
theorem execMsixVectorUnmask_next (fn : Fin 64) (vec : Fin 72) (s : State) : ∃ u, execMsixVectorUnmask fn vec s = .next u := by
  unfold execMsixVectorUnmask
  try unfold State.access
  repeat' (first | exact ⟨_, rfl⟩ | split | dsimp only)
theorem execIdeFailure_next (stream : Fin 4) (s : State) : ∃ u, execIdeFailure stream s = .next u := by
  unfold execIdeFailure
  try unfold State.access
  repeat' (first | exact ⟨_, rfl⟩ | split | dsimp only)
theorem execIdeRequire_next (req : Requester) (s : State) : ∃ u, execIdeRequire req s = .next u := by
  unfold execIdeRequire
  try unfold State.access
  repeat' (first | exact ⟨_, rfl⟩ | split | dsimp only)
theorem execLaunchFrameStart_next (sub : Fin 32) (s : State) : ∃ u, execLaunchFrameStart sub s = .next u := by
  unfold execLaunchFrameStart
  try unfold State.access
  repeat' (first | exact ⟨_, rfl⟩ | split | dsimp only)
theorem execLaunchFrameDrop_next (sub : Fin 32) (s : State) : ∃ u, execLaunchFrameDrop sub s = .next u := by
  unfold execLaunchFrameDrop
  try unfold State.access
  repeat' (first | exact ⟨_, rfl⟩ | split | dsimp only)
theorem execQueuedFrameStart_next (sub : Fin 32) (slot : Nat) (s : State) : ∃ u, execQueuedFrameStart sub slot s = .next u := by
  unfold execQueuedFrameStart
  try unfold State.access
  repeat' (first | exact ⟨_, rfl⟩ | split | dsimp only)
theorem execShaperRefill_next (s : State) : ∃ u, execShaperRefill s = .next u := by
  unfold execShaperRefill
  try unfold State.access
  repeat' (first | exact ⟨_, rfl⟩ | split | dsimp only)
theorem execQueueSample_next (s : State) : ∃ u, execQueueSample s = .next u := by
  unfold execQueueSample
  try unfold State.access
  repeat' (first | exact ⟨_, rfl⟩ | split | dsimp only)
theorem execHistogramClear_next (req : Requester) (s : State) : ∃ u, execHistogramClear req s = .next u := by
  unfold execHistogramClear
  try unfold State.access
  repeat' (first | exact ⟨_, rfl⟩ | split | dsimp only)
theorem execEmbEnable_next (req : Requester) (s : State) : ∃ u, execEmbEnable req s = .next u := by
  unfold execEmbEnable
  try unfold State.access
  repeat' (first | exact ⟨_, rfl⟩ | split | dsimp only)
theorem execEmbGather_next (easel : Fin 64) (host : Blob) (s : State) : ∃ u, execEmbGather easel host s = .next u := by
  unfold execEmbGather
  try unfold State.access
  repeat' (first | exact ⟨_, rfl⟩ | split | dsimp only)
theorem execEmbLaunch_next (engine : Fin 3) (easel : Fin 64) (s : State) : ∃ u, execEmbLaunch engine easel s = .next u := by
  unfold execEmbLaunch
  try unfold State.access
  repeat' (first | exact ⟨_, rfl⟩ | split | dsimp only)
theorem execEmbRowArrival_next (id : Nat) (row : Nat) (ecc : Option EccEvent) (s : State) : ∃ u, execEmbRowArrival id row ecc s = .next u := by
  unfold execEmbRowArrival
  try unfold State.access
  repeat' (first | exact ⟨_, rfl⟩ | split | dsimp only)
theorem execEmbDeadline_next (id : Nat) (s : State) : ∃ u, execEmbDeadline id s = .next u := by
  unfold execEmbDeadline
  try unfold State.access
  repeat' (first | exact ⟨_, rfl⟩ | split | dsimp only)
theorem execEmbComplete_next (id : Nat) (cycles : Nat) (s : State) : ∃ u, execEmbComplete id cycles s = .next u := by
  unfold execEmbComplete
  try unfold State.access
  repeat' (first | exact ⟨_, rfl⟩ | split | dsimp only)
theorem execEthFrameRx_next (sub : Fin 32) (bytes : List Nat) (fcs : Bool) (stamp : Nat) (fecCe : Nat) (fecUe : Nat) (s : State) : ∃ u, execEthFrameRx sub bytes fcs stamp fecCe fecUe s = .next u := by
  unfold execEthFrameRx
  try unfold State.access
  repeat' (first | exact ⟨_, rfl⟩ | split | dsimp only)
theorem execTxRecordHead_next (flow : Fin 8192) (ecc : Option EccEvent) (s : State) : ∃ u, execTxRecordHead flow ecc s = .next u := by
  unfold execTxRecordHead
  try unfold State.access
  repeat' (first | exact ⟨_, rfl⟩ | split | dsimp only)
theorem execSubportLinkDown_next (sub : Fin 32) (s : State) : ∃ u, execSubportLinkDown sub s = .next u := by
  unfold execSubportLinkDown
  try unfold State.access
  repeat' (first | exact ⟨_, rfl⟩ | split | dsimp only)
theorem execSubportLinkUp_next (sub : Fin 32) (s : State) : ∃ u, execSubportLinkUp sub s = .next u := by
  unfold execSubportLinkUp
  try unfold State.access
  repeat' (first | exact ⟨_, rfl⟩ | split | dsimp only)
theorem execFapiPoll_next (qp : Fin 64) (line : Blob) (ring : Blob) (s : State) : ∃ u, execFapiPoll qp line ring s = .next u := by
  unfold execFapiPoll
  try unfold State.access
  repeat' (first | exact ⟨_, rfl⟩ | split | dsimp only)
theorem execFqEnable_next (req : Requester) (qp : Fin 64) (line : Blob) (s : State) : ∃ u, execFqEnable req qp line s = .next u := by
  unfold execFqEnable
  try unfold State.access
  repeat' (first | exact ⟨_, rfl⟩ | split | dsimp only)
theorem execInjectArm_next (req : Requester) (s : State) : ∃ u, execInjectArm req s = .next u := by
  unfold execInjectArm
  try unfold State.access
  repeat' (first | exact ⟨_, rfl⟩ | split | dsimp only)
theorem execInjectDisarm_next (req : Requester) (s : State) : ∃ u, execInjectDisarm req s = .next u := by
  unfold execInjectDisarm
  try unfold State.access
  repeat' (first | exact ⟨_, rfl⟩ | split | dsimp only)
theorem execFoldWindowEnd_next (s : State) : ∃ u, execFoldWindowEnd s = .next u := by
  unfold execFoldWindowEnd
  try unfold State.access
  repeat' (first | exact ⟨_, rfl⟩ | split | dsimp only)
theorem execHealthEvaluation_next (s : State) : ∃ u, execHealthEvaluation s = .next u := by
  unfold execHealthEvaluation
  try unfold State.access
  repeat' (first | exact ⟨_, rfl⟩ | split | dsimp only)
theorem execMoveNest_next (ch : Fin 2048) (host : Blob) (idx : Blob) (hostFail : Option Nat) (ecc : List (Nat × EccEvent)) (s : State) : ∃ u, execMoveNest ch host idx hostFail ecc s = .next u := by
  unfold execMoveNest
  try unfold State.access
  repeat' (first | exact ⟨_, rfl⟩ | split | dsimp only)
theorem execPaletteReadResume_next (ch : Fin 2048) (s : State) : ∃ u, execPaletteReadResume ch s = .next u := by
  unfold execPaletteReadResume
  try unfold State.access
  repeat' (first | exact ⟨_, rfl⟩ | split | dsimp only)
theorem execGranuleWaitResume_next (ch : Fin 2048) (s : State) : ∃ u, execGranuleWaitResume ch s = .next u := by
  unfold execGranuleWaitResume
  try unfold State.access
  repeat' (first | exact ⟨_, rfl⟩ | split | dsimp only)
theorem execTcClockGate_next (core : Fin 48) (s : State) : ∃ u, execTcClockGate core s = .next u := by
  unfold execTcClockGate
  try unfold State.access
  repeat' (first | exact ⟨_, rfl⟩ | split | dsimp only)
theorem execTcPowerGate_next (core : Fin 48) (s : State) : ∃ u, execTcPowerGate core s = .next u := by
  unfold execTcPowerGate
  try unfold State.access
  repeat' (first | exact ⟨_, rfl⟩ | split | dsimp only)
theorem execStackSelfRefreshEntry_next (stack : Fin 18) (s : State) : ∃ u, execStackSelfRefreshEntry stack s = .next u := by
  unfold execStackSelfRefreshEntry
  try unfold State.access
  repeat' (first | exact ⟨_, rfl⟩ | split | dsimp only)
theorem execLaneSleep_next (link : Fin 16) (s : State) : ∃ u, execLaneSleep link s = .next u := by
  unfold execLaneSleep
  try unfold State.access
  repeat' (first | exact ⟨_, rfl⟩ | split | dsimp only)
theorem execPowerWake_next (res : PowRes) (peer : Bool) (s : State) : ∃ u, execPowerWake res peer s = .next u := by
  unfold execPowerWake
  try unfold State.access
  repeat' (first | exact ⟨_, rfl⟩ | split | dsimp only)
theorem execWakeExitDone_next (res : PowRes) (s : State) : ∃ u, execWakeExitDone res s = .next u := by
  unfold execWakeExitDone
  try unfold State.access
  repeat' (first | exact ⟨_, rfl⟩ | split | dsimp only)
theorem execWakeBudgetWrite_next (req : Requester) (us : BitVec 16) (s : State) : ∃ u, execWakeBudgetWrite req us s = .next u := by
  unfold execWakeBudgetWrite
  try unfold State.access
  repeat' (first | exact ⟨_, rfl⟩ | split | dsimp only)
theorem execDriveAdjust_next (s : State) : ∃ u, execDriveAdjust s = .next u := by
  unfold execDriveAdjust
  try unfold State.access
  repeat' (first | exact ⟨_, rfl⟩ | split | dsimp only)
theorem execEscalationEnd_next (s : State) : ∃ u, execEscalationEnd s = .next u := by
  unfold execEscalationEnd
  try unfold State.access
  repeat' (first | exact ⟨_, rfl⟩ | split | dsimp only)
theorem execPumpFailure_next (rpm : BitVec 16) (s : State) : ∃ u, execPumpFailure rpm s = .next u := by
  unfold execPumpFailure
  try unfold State.access
  repeat' (first | exact ⟨_, rfl⟩ | split | dsimp only)
theorem execPumpFailClear_next (req : Requester) (s : State) : ∃ u, execPumpFailClear req s = .next u := by
  unfold execPumpFailClear
  try unfold State.access
  repeat' (first | exact ⟨_, rfl⟩ | split | dsimp only)
theorem execDieSensorReading_next (temps : List Nat) (bad : List Nat) (s : State) : ∃ u, execDieSensorReading temps bad s = .next u := by
  unfold execDieSensorReading
  try unfold State.access
  repeat' (first | exact ⟨_, rfl⟩ | split | dsimp only)
theorem execStackTempReading_next (stack : Fin 18) (temp : Nat) (bad : Bool) (s : State) : ∃ u, execStackTempReading stack temp bad s = .next u := by
  unfold execStackTempReading
  try unfold State.access
  repeat' (first | exact ⟨_, rfl⟩ | split | dsimp only)
theorem execCoolantReading_next (inlet : Nat) (outlet : Nat) (s : State) : ∃ u, execCoolantReading inlet outlet s = .next u := by
  unfold execCoolantReading
  try unfold State.access
  repeat' (first | exact ⟨_, rfl⟩ | split | dsimp only)
theorem execCoolantSensorLoss_next (outlet : Bool) (s : State) : ∃ u, execCoolantSensorLoss outlet s = .next u := by
  unfold execCoolantSensorLoss
  try unfold State.access
  repeat' (first | exact ⟨_, rfl⟩ | split | dsimp only)
theorem execAdmissionEvaluate_next (est : Nat) (prad : List Nat) (s : State) : ∃ u, execAdmissionEvaluate est prad s = .next u := by
  unfold execAdmissionEvaluate
  try unfold State.access
  repeat' (first | exact ⟨_, rfl⟩ | split | dsimp only)
theorem execHoldupSample_next (mv : BitVec 16) (s : State) : ∃ u, execHoldupSample mv s = .next u := by
  unfold execHoldupSample
  try unfold State.access
  repeat' (first | exact ⟨_, rfl⟩ | split | dsimp only)
theorem execFapiParam_next (qp : Fin 64) (cell : Nat) (s : State) : ∃ u, execFapiParam qp cell s = .next u := by
  unfold execFapiParam
  try unfold State.access
  repeat' (first | exact ⟨_, rfl⟩ | split | dsimp only)
theorem execFapiConfig_next (qp : Fin 64) (cell : Nat) (prbs : Nat) (scs : Nat) (ports : Nat) (duplex : Nat) (body : List Nat) (s : State) : ∃ u, execFapiConfig qp cell prbs scs ports duplex body s = .next u := by
  unfold execFapiConfig
  try unfold State.access
  repeat' (first | exact ⟨_, rfl⟩ | split | dsimp only)
theorem execFapiStart_next (qp : Fin 64) (cell : Nat) (s : State) : ∃ u, execFapiStart qp cell s = .next u := by
  unfold execFapiStart
  try unfold State.access
  repeat' (first | exact ⟨_, rfl⟩ | split | dsimp only)
theorem execFapiStop_next (qp : Fin 64) (cell : Nat) (s : State) : ∃ u, execFapiStop qp cell s = .next u := by
  unfold execFapiStop
  try unfold State.access
  repeat' (first | exact ⟨_, rfl⟩ | split | dsimp only)
theorem execDlTtiRequest_next (qp : Fin 64) (cell : Nat) (sfn : Nat) (slot : Nat) (pdus : List RadPdu) (mib : Option Nat) (s : State) : ∃ u, execDlTtiRequest qp cell sfn slot pdus mib s = .next u := by
  unfold execDlTtiRequest
  try unfold State.access
  repeat' (first | exact ⟨_, rfl⟩ | split | dsimp only)
theorem execUlTtiRequest_next (qp : Fin 64) (cell : Nat) (sfn : Nat) (slot : Nat) (pdus : List RadPdu) (s : State) : ∃ u, execUlTtiRequest qp cell sfn slot pdus s = .next u := by
  unfold execUlTtiRequest
  try unfold State.access
  repeat' (first | exact ⟨_, rfl⟩ | split | dsimp only)
theorem execUlDciRequest_next (qp : Fin 64) (cell : Nat) (sfn : Nat) (slot : Nat) (pdus : List RadPdu) (s : State) : ∃ u, execUlDciRequest qp cell sfn slot pdus s = .next u := by
  unfold execUlDciRequest
  try unfold State.access
  repeat' (first | exact ⟨_, rfl⟩ | split | dsimp only)
theorem execTxDataRequest_next (qp : Fin 64) (cell : Nat) (sfn : Nat) (slot : Nat) (tbs : List RadTx) (s : State) : ∃ u, execTxDataRequest qp cell sfn slot tbs s = .next u := by
  unfold execTxDataRequest
  try unfold State.access
  repeat' (first | exact ⟨_, rfl⟩ | split | dsimp only)
theorem execSlotIndication_next (cell : Fin 384) (s : State) : ∃ u, execSlotIndication cell s = .next u := by
  unfold execSlotIndication
  try unfold State.access
  repeat' (first | exact ⟨_, rfl⟩ | split | dsimp only)
theorem execRequestDeadline_next (cell : Fin 384) (n : Nat) (s : State) : ∃ u, execRequestDeadline cell n s = .next u := by
  unfold execRequestDeadline
  try unfold State.access
  repeat' (first | exact ⟨_, rfl⟩ | split | dsimp only)
theorem execSlotPlan_next (cell : Fin 384) (n : Nat) (kNow : Nat) (sNow : Nat) (items : List PlanItem) (s : State) : ∃ u, execSlotPlan cell n kNow sNow items s = .next u := by
  unfold execSlotPlan
  try unfold State.access
  repeat' (first | exact ⟨_, rfl⟩ | split | dsimp only)
theorem execUlWindowClose_next (cell : Fin 384) (n : Nat) (sym : Fin 14) (s : State) : ∃ u, execUlWindowClose cell n sym s = .next u := by
  unfold execUlWindowClose
  try unfold State.access
  repeat' (first | exact ⟨_, rfl⟩ | split | dsimp only)
theorem execLdpcDecodeDone_next (cell : Fin 384) (n : Nat) (handle : Nat) (cb : Nat) (soft : List (BitVec 8)) (fault : Bool) (s : State) : ∃ u, execLdpcDecodeDone cell n handle cb soft fault s = .next u := by
  unfold execLdpcDecodeDone
  try unfold State.access
  repeat' (first | exact ⟨_, rfl⟩ | split | dsimp only)
theorem execResultDeadline_next (cell : Fin 384) (n : Nat) (s : State) : ∃ u, execResultDeadline cell n s = .next u := by
  unfold execResultDeadline
  try unfold State.access
  repeat' (first | exact ⟨_, rfl⟩ | split | dsimp only)
theorem execHarqAgeExpiry_next (cell : Fin 384) (rnti : Nat) (harq : Nat) (s : State) : ∃ u, execHarqAgeExpiry cell rnti harq s = .next u := by
  unfold execHarqAgeExpiry
  try unfold State.access
  repeat' (first | exact ⟨_, rfl⟩ | split | dsimp only)
theorem execLdpcEncodeDone_next (cell : Fin 384) (n : Nat) (item : Nat) (fault : Bool) (s : State) : ∃ u, execLdpcEncodeDone cell n item fault s = .next u := by
  unfold execLdpcEncodeDone
  try unfold State.access
  repeat' (first | exact ⟨_, rfl⟩ | split | dsimp only)
theorem execFftDone_next (cell : Fin 384) (n : Nat) (item : Nat) (fault : Bool) (s : State) : ∃ u, execFftDone cell n item fault s = .next u := by
  unfold execFftDone
  try unfold State.access
  repeat' (first | exact ⟨_, rfl⟩ | split | dsimp only)
theorem execPolarDecodeDone_next (cell : Fin 384) (n : Nat) (item : Nat) (fault : Bool) (s : State) : ∃ u, execPolarDecodeDone cell n item fault s = .next u := by
  unfold execPolarDecodeDone
  try unfold State.access
  repeat' (first | exact ⟨_, rfl⟩ | split | dsimp only)
theorem execDlDataCheck_next (cell : Fin 384) (n : Nat) (sym : Fin 14) (s : State) : ∃ u, execDlDataCheck cell n sym s = .next u := by
  unfold execDlDataCheck
  try unfold State.access
  repeat' (first | exact ⟨_, rfl⟩ | split | dsimp only)
theorem execRadioShed_next (cell : Fin 384) (n : Nat) (item : Nat) (now : Nat) (s : State) : ∃ u, execRadioShed cell n item now s = .next u := by
  unfold execRadioShed
  try unfold State.access
  repeat' (first | exact ⟨_, rfl⟩ | split | dsimp only)
theorem execCellSlotBoundary_next (cell : Fin 384) (s : State) : ∃ u, execCellSlotBoundary cell s = .next u := by
  unfold execCellSlotBoundary
  try unfold State.access
  repeat' (first | exact ⟨_, rfl⟩ | split | dsimp only)
theorem execSsbHoldExpiry_next (cell : Fin 384) (s : State) : ∃ u, execSsbHoldExpiry cell s = .next u := by
  unfold execSsbHoldExpiry
  try unfold State.access
  repeat' (first | exact ⟨_, rfl⟩ | split | dsimp only)
theorem execRegisterWrite_next (req : Requester) (off : Nat) (size : Nat) (value : BitVec 64) (s : State) : ∃ u, execRegisterWrite req off size value s = .next u := by
  unfold execRegisterWrite
  try unfold State.access
  repeat' (first | exact ⟨_, rfl⟩ | split | dsimp only)
theorem execLowRegisterRead_next (req : Requester) (off : Nat) (size : Nat) (s : State) : ∃ u, execLowRegisterRead req off size s = .next u := by
  unfold execLowRegisterRead
  try unfold State.access
  repeat' (first | exact ⟨_, rfl⟩ | split | dsimp only)
theorem execPairedHighWrite_next (req : Requester) (off : Nat) (value : BitVec 32) (s : State) : ∃ u, execPairedHighWrite req off value s = .next u := by
  unfold execPairedHighWrite
  try unfold State.access
  repeat' (first | exact ⟨_, rfl⟩ | split | dsimp only)
theorem execSelectRegisterWrite_next (req : Requester) (sel : Selector) (value : BitVec 32) (s : State) : ∃ u, execSelectRegisterWrite req sel value s = .next u := by
  unfold execSelectRegisterWrite
  try unfold State.access
  repeat' (first | exact ⟨_, rfl⟩ | split | dsimp only)
theorem execPowerOnReset_next (s : State) : ∃ u, execPowerOnReset s = .next u := by
  unfold execPowerOnReset
  try unfold State.access
  repeat' (first | exact ⟨_, rfl⟩ | split | dsimp only)
theorem execCardResetAssert_next (s : State) : ∃ u, execCardResetAssert s = .next u := by
  unfold execCardResetAssert
  try unfold State.access
  repeat' (first | exact ⟨_, rfl⟩ | split | dsimp only)
theorem execCardResetRelease_next (s : State) : ∃ u, execCardResetRelease s = .next u := by
  unfold execCardResetRelease
  try unfold State.access
  repeat' (first | exact ⟨_, rfl⟩ | split | dsimp only)
theorem execPerstAssert_next (s : State) : ∃ u, execPerstAssert s = .next u := by
  unfold execPerstAssert
  try unfold State.access
  repeat' (first | exact ⟨_, rfl⟩ | split | dsimp only)
theorem execPerstRelease_next (s : State) : ∃ u, execPerstRelease s = .next u := by
  unfold execPerstRelease
  try unfold State.access
  repeat' (first | exact ⟨_, rfl⟩ | split | dsimp only)
theorem execCxlHotReset_next (s : State) : ∃ u, execCxlHotReset s = .next u := by
  unfold execCxlHotReset
  try unfold State.access
  repeat' (first | exact ⟨_, rfl⟩ | split | dsimp only)
theorem execLinkDisable_next (s : State) : ∃ u, execLinkDisable s = .next u := by
  unfold execLinkDisable
  try unfold State.access
  repeat' (first | exact ⟨_, rfl⟩ | split | dsimp only)
theorem execLinkReenable_next (s : State) : ∃ u, execLinkReenable s = .next u := by
  unfold execLinkReenable
  try unfold State.access
  repeat' (first | exact ⟨_, rfl⟩ | split | dsimp only)
theorem execDebugReset_next (req : Requester) (value : BitVec 32) (s : State) : ∃ u, execDebugReset req value s = .next u := by
  unfold execDebugReset
  try unfold State.access
  repeat' (first | exact ⟨_, rfl⟩ | split | dsimp only)
theorem execClockLoss_next (doms : BitVec 4) (ref : Bool) (root : Bool) (s : State) : ∃ u, execClockLoss doms ref root s = .next u := by
  unfold execClockLoss
  try unfold State.access
  repeat' (first | exact ⟨_, rfl⟩ | split | dsimp only)
theorem execReferenceReturn_next (s : State) : ∃ u, execReferenceReturn s = .next u := by
  unfold execReferenceReturn
  try unfold State.access
  repeat' (first | exact ⟨_, rfl⟩ | split | dsimp only)
theorem execRootPllLock_next (s : State) : ∃ u, execRootPllLock s = .next u := by
  unfold execRootPllLock
  try unfold State.access
  repeat' (first | exact ⟨_, rfl⟩ | split | dsimp only)
theorem execWatchdogExpiry_next (s : State) : ∃ u, execWatchdogExpiry s = .next u := by
  unfold execWatchdogExpiry
  try unfold State.access
  repeat' (first | exact ⟨_, rfl⟩ | split | dsimp only)
theorem execWatchdogKick_next (req : Requester) (value : BitVec 32) (s : State) : ∃ u, execWatchdogKick req value s = .next u := by
  unfold execWatchdogKick
  try unfold State.access
  repeat' (first | exact ⟨_, rfl⟩ | split | dsimp only)
theorem execRailResetLevel_next (rails : BitVec 7) (s : State) : ∃ u, execRailResetLevel rails s = .next u := by
  unfold execRailResetLevel
  try unfold State.access
  repeat' (first | exact ⟨_, rfl⟩ | split | dsimp only)
theorem execRailOverVoltage_next (rails : BitVec 7) (s : State) : ∃ u, execRailOverVoltage rails s = .next u := by
  unfold execRailOverVoltage
  try unfold State.access
  repeat' (first | exact ⟨_, rfl⟩ | split | dsimp only)
theorem execSupplyResetRelease_next (s : State) : ∃ u, execSupplyResetRelease s = .next u := by
  unfold execSupplyResetRelease
  try unfold State.access
  repeat' (first | exact ⟨_, rfl⟩ | split | dsimp only)
theorem execBraceEntry_next (rails : BitVec 7) (s : State) : ∃ u, execBraceEntry rails s = .next u := by
  unfold execBraceEntry
  try unfold State.access
  repeat' (first | exact ⟨_, rfl⟩ | split | dsimp only)
theorem execBraceExit_next (us : BitVec 32) (s : State) : ∃ u, execBraceExit us s = .next u := by
  unfold execBraceExit
  try unfold State.access
  repeat' (first | exact ⟨_, rfl⟩ | split | dsimp only)
theorem execSupplyMeasPeriod_next (mv : List (BitVec 16)) (s : State) : ∃ u, execSupplyMeasPeriod mv s = .next u := by
  unfold execSupplyMeasPeriod
  try unfold State.access
  repeat' (first | exact ⟨_, rfl⟩ | split | dsimp only)
theorem execSoftResetChip_next (req : Requester) (key : BitVec 8) (target : BitVec 9) (force : Bool) (s : State) : ∃ u, execSoftResetChip req key target force s = .next u := by
  unfold execSoftResetChip
  try unfold State.access
  repeat' (first | exact ⟨_, rfl⟩ | split | dsimp only)
theorem execSoftResetIoDie_next (req : Requester) (key : BitVec 8) (target : BitVec 9) (force : Bool) (s : State) : ∃ u, execSoftResetIoDie req key target force s = .next u := by
  unfold execSoftResetIoDie
  try unfold State.access
  repeat' (first | exact ⟨_, rfl⟩ | split | dsimp only)
theorem execSoftResetPanel_next (req : Requester) (key : BitVec 8) (target : BitVec 9) (force : Bool) (s : State) : ∃ u, execSoftResetPanel req key target force s = .next u := by
  unfold execSoftResetPanel
  try unfold State.access
  repeat' (first | exact ⟨_, rfl⟩ | split | dsimp only)
theorem execSoftResetCore_next (req : Requester) (key : BitVec 8) (target : BitVec 9) (force : Bool) (s : State) : ∃ u, execSoftResetCore req key target force s = .next u := by
  unfold execSoftResetCore
  try unfold State.access
  repeat' (first | exact ⟨_, rfl⟩ | split | dsimp only)
theorem execSoftResetHoldEnd_next (s : State) : ∃ u, execSoftResetHoldEnd s = .next u := by
  unfold execSoftResetHoldEnd
  try unfold State.access
  repeat' (first | exact ⟨_, rfl⟩ | split | dsimp only)
theorem execSoftResetDone_next (s : State) : ∃ u, execSoftResetDone s = .next u := by
  unfold execSoftResetDone
  try unfold State.access
  repeat' (first | exact ⟨_, rfl⟩ | split | dsimp only)
theorem execPanelRetrainDone_next (trained : BitVec 6) (s : State) : ∃ u, execPanelRetrainDone trained s = .next u := by
  unfold execPanelRetrainDone
  try unfold State.access
  repeat' (first | exact ⟨_, rfl⟩ | split | dsimp only)
theorem execRetouchGo_next (req : Requester) (s : State) : ∃ u, execRetouchGo req s = .next u := by
  unfold execRetouchGo
  try unfold State.access
  repeat' (first | exact ⟨_, rfl⟩ | split | dsimp only)
theorem execRetouchCheck_next (data : Blob) (fail : Bool) (s : State) : ∃ u, execRetouchCheck data fail s = .next u := by
  unfold execRetouchCheck
  try unfold State.access
  repeat' (first | exact ⟨_, rfl⟩ | split | dsimp only)
theorem execRetouchCancel_next (req : Requester) (types : BitVec 4) (s : State) : ∃ u, execRetouchCancel req types s = .next u := by
  unfold execRetouchCancel
  try unfold State.access
  repeat' (first | exact ⟨_, rfl⟩ | split | dsimp only)
theorem execOverrun_next (core : Fin 192) (s : State) : ∃ u, execOverrun core s = .next u := by
  unfold execOverrun
  try unfold State.access
  repeat' (first | exact ⟨_, rfl⟩ | split | dsimp only)
theorem execPreemptSwitch_next (core : Fin 192) (ecc : Option EccEvent) (s : State) : ∃ u, execPreemptSwitch core ecc s = .next u := by
  unfold execPreemptSwitch
  try unfold State.access
  repeat' (first | exact ⟨_, rfl⟩ | split | dsimp only)
theorem execDebugHalt_next (core : Fin 192) (s : State) : ∃ u, execDebugHalt core s = .next u := by
  unfold execDebugHalt
  try unfold State.access
  repeat' (first | exact ⟨_, rfl⟩ | split | dsimp only)
theorem execScRun_next (core : Fin 192) (s : State) : ∃ u, execScRun core s = .next u := by
  unfold execScRun
  try unfold State.access
  repeat' (first | exact ⟨_, rfl⟩ | split | dsimp only)
theorem execScRelease_next (core : Fin 192) (s : State) : ∃ u, execScRelease core s = .next u := by
  unfold execScRelease
  try unfold State.access
  repeat' (first | exact ⟨_, rfl⟩ | split | dsimp only)
theorem execScMark_next (core : Fin 192) (s : State) : ∃ u, execScMark core s = .next u := by
  unfold execScMark
  try unfold State.access
  repeat' (first | exact ⟨_, rfl⟩ | split | dsimp only)
theorem execScLoadprog_next (core : Fin 192) (ecc : Option EccEvent) (s : State) : ∃ u, execScLoadprog core ecc s = .next u := by
  unfold execScLoadprog
  try unfold State.access
  repeat' (first | exact ⟨_, rfl⟩ | split | dsimp only)
theorem execSqTailWrite_next (req : Requester) (tail : BitVec 16) (s : State) : ∃ u, execSqTailWrite req tail s = .next u := by
  unfold execSqTailWrite
  try unfold State.access
  repeat' (first | exact ⟨_, rfl⟩ | split | dsimp only)
theorem execEaselEnable_next (req : Requester) (s : State) : ∃ u, execEaselEnable req s = .next u := by
  unfold execEaselEnable
  try unfold State.access
  repeat' (first | exact ⟨_, rfl⟩ | split | dsimp only)
theorem execCqHeadWrite_next (req : Requester) (head : BitVec 16) (s : State) : ∃ u, execCqHeadWrite req head s = .next u := by
  unfold execCqHeadWrite
  try unfold State.access
  repeat' (first | exact ⟨_, rfl⟩ | split | dsimp only)
theorem execSubmitTCore_next (easel : Fin 64) (host : Blob) (s : State) : ∃ u, execSubmitTCore easel host s = .next u := by
  unfold execSubmitTCore
  try unfold State.access
  repeat' (first | exact ⟨_, rfl⟩ | split | dsimp only)
theorem execSubmitSCore_next (easel : Fin 64) (host : Blob) (s : State) : ∃ u, execSubmitSCore easel host s = .next u := by
  unfold execSubmitSCore
  try unfold State.access
  repeat' (first | exact ⟨_, rfl⟩ | split | dsimp only)
theorem execSubmitChannelArm_next (easel : Fin 64) (host : Blob) (s : State) : ∃ u, execSubmitChannelArm easel host s = .next u := by
  unfold execSubmitChannelArm
  try unfold State.access
  repeat' (first | exact ⟨_, rfl⟩ | split | dsimp only)
theorem execGrant_next (eng : Engine) (t : Nat) (ready : BitVec 4) (pLive : Nat) (early : BitVec 4) (s : State) : ∃ u, execGrant eng t ready pLive early s = .next u := by
  unfold execGrant
  try unfold State.access
  repeat' (first | exact ⟨_, rfl⟩ | split | dsimp only)
theorem execToNormal_next (req : Requester) (key : BitVec 8) (s : State) : ∃ u, execToNormal req key s = .next u := by
  unfold execToNormal
  try unfold State.access
  repeat' (first | exact ⟨_, rfl⟩ | split | dsimp only)
theorem execToPartitioned_next (req : Requester) (key : BitVec 8) (s : State) : ∃ u, execToPartitioned req key s = .next u := by
  unfold execToPartitioned
  try unfold State.access
  repeat' (first | exact ⟨_, rfl⟩ | split | dsimp only)
theorem execNop_next (core : Fin 192) (s : State) : ∃ u, execNop core s = .next u := by
  unfold execNop
  try unfold State.access
  repeat' (first | exact ⟨_, rfl⟩ | split | dsimp only)
theorem execVadd_next (core : Fin 192) (s : State) : ∃ u, execVadd core s = .next u := by
  unfold execVadd
  try unfold State.access
  repeat' (first | exact ⟨_, rfl⟩ | split | dsimp only)
theorem execVsub_next (core : Fin 192) (s : State) : ∃ u, execVsub core s = .next u := by
  unfold execVsub
  try unfold State.access
  repeat' (first | exact ⟨_, rfl⟩ | split | dsimp only)
theorem execVmac_next (core : Fin 192) (s : State) : ∃ u, execVmac core s = .next u := by
  unfold execVmac
  try unfold State.access
  repeat' (first | exact ⟨_, rfl⟩ | split | dsimp only)
theorem execVcmac_next (core : Fin 192) (s : State) : ∃ u, execVcmac core s = .next u := by
  unfold execVcmac
  try unfold State.access
  repeat' (first | exact ⟨_, rfl⟩ | split | dsimp only)
theorem execTapC_next (core : Fin 192) (s : State) : ∃ u, execTapC core s = .next u := by
  unfold execTapC
  try unfold State.access
  repeat' (first | exact ⟨_, rfl⟩ | split | dsimp only)
theorem execTapR_next (core : Fin 192) (s : State) : ∃ u, execTapR core s = .next u := by
  unfold execTapR
  try unfold State.access
  repeat' (first | exact ⟨_, rfl⟩ | split | dsimp only)
theorem execVpack_next (core : Fin 192) (s : State) : ∃ u, execVpack core s = .next u := by
  unfold execVpack
  try unfold State.access
  repeat' (first | exact ⟨_, rfl⟩ | split | dsimp only)
theorem execVshr_next (core : Fin 192) (s : State) : ∃ u, execVshr core s = .next u := by
  unfold execVshr
  try unfold State.access
  repeat' (first | exact ⟨_, rfl⟩ | split | dsimp only)
theorem execVshl_next (core : Fin 192) (s : State) : ∃ u, execVshl core s = .next u := by
  unfold execVshl
  try unfold State.access
  repeat' (first | exact ⟨_, rfl⟩ | split | dsimp only)
theorem execVmax_next (core : Fin 192) (s : State) : ∃ u, execVmax core s = .next u := by
  unfold execVmax
  try unfold State.access
  repeat' (first | exact ⟨_, rfl⟩ | split | dsimp only)
theorem execVmin_next (core : Fin 192) (s : State) : ∃ u, execVmin core s = .next u := by
  unfold execVmin
  try unfold State.access
  repeat' (first | exact ⟨_, rfl⟩ | split | dsimp only)
theorem execVconj_next (core : Fin 192) (s : State) : ∃ u, execVconj core s = .next u := by
  unfold execVconj
  try unfold State.access
  repeat' (first | exact ⟨_, rfl⟩ | split | dsimp only)
theorem execVsel_next (core : Fin 192) (s : State) : ∃ u, execVsel core s = .next u := by
  unfold execVsel
  try unfold State.access
  repeat' (first | exact ⟨_, rfl⟩ | split | dsimp only)
theorem execVclr_next (core : Fin 192) (s : State) : ∃ u, execVclr core s = .next u := by
  unfold execVclr
  try unfold State.access
  repeat' (first | exact ⟨_, rfl⟩ | split | dsimp only)
theorem execVld_next (core : Fin 192) (ecc : Option EccEvent) (s : State) : ∃ u, execVld core ecc s = .next u := by
  unfold execVld
  try unfold State.access
  repeat' (first | exact ⟨_, rfl⟩ | split | dsimp only)
theorem execLdf_next (core : Fin 192) (ecc : Option EccEvent) (s : State) : ∃ u, execLdf core ecc s = .next u := by
  unfold execLdf
  try unfold State.access
  repeat' (first | exact ⟨_, rfl⟩ | split | dsimp only)
theorem execLd_next (core : Fin 192) (ecc : Option EccEvent) (s : State) : ∃ u, execLd core ecc s = .next u := by
  unfold execLd
  try unfold State.access
  repeat' (first | exact ⟨_, rfl⟩ | split | dsimp only)
theorem execVst_next (core : Fin 192) (s : State) : ∃ u, execVst core s = .next u := by
  unfold execVst
  try unfold State.access
  repeat' (first | exact ⟨_, rfl⟩ | split | dsimp only)
theorem execSt_next (core : Fin 192) (s : State) : ∃ u, execSt core s = .next u := by
  unfold execSt
  try unfold State.access
  repeat' (first | exact ⟨_, rfl⟩ | split | dsimp only)
theorem execVperm_next (core : Fin 192) (s : State) : ∃ u, execVperm core s = .next u := by
  unfold execVperm
  try unfold State.access
  repeat' (first | exact ⟨_, rfl⟩ | split | dsimp only)
theorem execAdd_next (core : Fin 192) (s : State) : ∃ u, execAdd core s = .next u := by
  unfold execAdd
  try unfold State.access
  repeat' (first | exact ⟨_, rfl⟩ | split | dsimp only)
theorem execSub_next (core : Fin 192) (s : State) : ∃ u, execSub core s = .next u := by
  unfold execSub
  try unfold State.access
  repeat' (first | exact ⟨_, rfl⟩ | split | dsimp only)
theorem execAndS_next (core : Fin 192) (s : State) : ∃ u, execAndS core s = .next u := by
  unfold execAndS
  try unfold State.access
  repeat' (first | exact ⟨_, rfl⟩ | split | dsimp only)
theorem execOrS_next (core : Fin 192) (s : State) : ∃ u, execOrS core s = .next u := by
  unfold execOrS
  try unfold State.access
  repeat' (first | exact ⟨_, rfl⟩ | split | dsimp only)
theorem execXorS_next (core : Fin 192) (s : State) : ∃ u, execXorS core s = .next u := by
  unfold execXorS
  try unfold State.access
  repeat' (first | exact ⟨_, rfl⟩ | split | dsimp only)
theorem execShl_next (core : Fin 192) (s : State) : ∃ u, execShl core s = .next u := by
  unfold execShl
  try unfold State.access
  repeat' (first | exact ⟨_, rfl⟩ | split | dsimp only)
theorem execShr_next (core : Fin 192) (s : State) : ∃ u, execShr core s = .next u := by
  unfold execShr
  try unfold State.access
  repeat' (first | exact ⟨_, rfl⟩ | split | dsimp only)
theorem execCmp_next (core : Fin 192) (s : State) : ∃ u, execCmp core s = .next u := by
  unfold execCmp
  try unfold State.access
  repeat' (first | exact ⟨_, rfl⟩ | split | dsimp only)
theorem execBr_next (core : Fin 192) (s : State) : ∃ u, execBr core s = .next u := by
  unfold execBr
  try unfold State.access
  repeat' (first | exact ⟨_, rfl⟩ | split | dsimp only)
theorem execRepeatLoop_next (core : Fin 192) (s : State) : ∃ u, execRepeatLoop core s = .next u := by
  unfold execRepeatLoop
  try unfold State.access
  repeat' (first | exact ⟨_, rfl⟩ | split | dsimp only)
theorem execSemtry_next (core : Fin 192) (s : State) : ∃ u, execSemtry core s = .next u := by
  unfold execSemtry
  try unfold State.access
  repeat' (first | exact ⟨_, rfl⟩ | split | dsimp only)
theorem execSemsig_next (core : Fin 192) (s : State) : ∃ u, execSemsig core s = .next u := by
  unfold execSemsig
  try unfold State.access
  repeat' (first | exact ⟨_, rfl⟩ | split | dsimp only)
theorem execDoneCmd_next (core : Fin 192) (s : State) : ∃ u, execDoneCmd core s = .next u := by
  unfold execDoneCmd
  try unfold State.access
  repeat' (first | exact ⟨_, rfl⟩ | split | dsimp only)
theorem execSeqEnable_next (req : Requester) (auto : Bool) (s : State) : ∃ u, execSeqEnable req auto s = .next u := by
  unfold execSeqEnable
  try unfold State.access
  repeat' (first | exact ⟨_, rfl⟩ | split | dsimp only)
theorem execSeqOpen_next (easel : Fin 64) (host : Blob) (s : State) : ∃ u, execSeqOpen easel host s = .next u := by
  unfold execSeqOpen
  try unfold State.access
  repeat' (first | exact ⟨_, rfl⟩ | split | dsimp only)
theorem execSeqClose_next (easel : Fin 64) (host : Blob) (s : State) : ∃ u, execSeqClose easel host s = .next u := by
  unfold execSeqClose
  try unfold State.access
  repeat' (first | exact ⟨_, rfl⟩ | split | dsimp only)
theorem execStepBuild_next (easel : Fin 64) (host : Blob) (s : State) : ∃ u, execStepBuild easel host s = .next u := by
  unfold execStepBuild
  try unfold State.access
  repeat' (first | exact ⟨_, rfl⟩ | split | dsimp only)
theorem execBuildRetry_next (easel : Fin 64) (s : State) : ∃ u, execBuildRetry easel s = .next u := by
  unfold execBuildRetry
  try unfold State.access
  repeat' (first | exact ⟨_, rfl⟩ | split | dsimp only)
theorem execSampleDraft_next (easel : Fin 64) (host : Blob) (ecc : List (Nat × EccEvent)) (s : State) : ∃ u, execSampleDraft easel host ecc s = .next u := by
  unfold execSampleDraft
  try unfold State.access
  repeat' (first | exact ⟨_, rfl⟩ | split | dsimp only)
theorem execSampleFinal_next (easel : Fin 64) (host : Blob) (ecc : List (Nat × EccEvent)) (s : State) : ∃ u, execSampleFinal easel host ecc s = .next u := by
  unfold execSampleFinal
  try unfold State.access
  repeat' (first | exact ⟨_, rfl⟩ | split | dsimp only)
theorem execDraftPut_next (easel : Fin 64) (host : Blob) (s : State) : ∃ u, execDraftPut easel host s = .next u := by
  unfold execDraftPut
  try unfold State.access
  repeat' (first | exact ⟨_, rfl⟩ | split | dsimp only)
theorem execSeqSwapOut_next (easel : Fin 64) (host : Blob) (s : State) : ∃ u, execSeqSwapOut easel host s = .next u := by
  unfold execSeqSwapOut
  try unfold State.access
  repeat' (first | exact ⟨_, rfl⟩ | split | dsimp only)
theorem execSeqSwapIn_next (easel : Fin 64) (host : Blob) (s : State) : ∃ u, execSeqSwapIn easel host s = .next u := by
  unfold execSeqSwapIn
  try unfold State.access
  repeat' (first | exact ⟨_, rfl⟩ | split | dsimp only)
theorem execSwapCopyDone_next (easel : Fin 64) (index : Nat) (host : Blob) (fail : Bool) (s : State) : ∃ u, execSwapCopyDone easel index host fail s = .next u := by
  unfold execSwapCopyDone
  try unfold State.access
  repeat' (first | exact ⟨_, rfl⟩ | split | dsimp only)
theorem execVarnish_next (easel : Fin 64) (s : State) : ∃ u, execVarnish easel s = .next u := by
  unfold execVarnish
  try unfold State.access
  repeat' (first | exact ⟨_, rfl⟩ | split | dsimp only)
theorem execSeqLose_next (req : Requester) (easel : Fin 64) (all : Bool) (index : Fin 8192) (key : BitVec 8) (s : State) : ∃ u, execSeqLose req easel all index key s = .next u := by
  unfold execSeqLose
  try unfold State.access
  repeat' (first | exact ⟨_, rfl⟩ | split | dsimp only)
theorem execSeqPeek_next (req : Requester) (index : Fin 8192) (underpaint : Bool) (s : State) : ∃ u, execSeqPeek req index underpaint s = .next u := by
  unfold execSeqPeek
  try unfold State.access
  repeat' (first | exact ⟨_, rfl⟩ | split | dsimp only)
theorem execSeqDbgRead_next (req : Requester) (easel : Fin 64) (underpaint : Bool) (ecc : Option EccEvent) (s : State) : ∃ u, execSeqDbgRead req easel underpaint ecc s = .next u := by
  unfold execSeqDbgRead
  try unfold State.access
  repeat' (first | exact ⟨_, rfl⟩ | split | dsimp only)
theorem execOutputRingHeadWrite_next (req : Requester) (ring : Fin 64) (head : BitVec 16) (s : State) : ∃ u, execOutputRingHeadWrite req ring head s = .next u := by
  unfold execOutputRingHeadWrite
  try unfold State.access
  repeat' (first | exact ⟨_, rfl⟩ | split | dsimp only)
theorem execChannelArm_next (req : Requester) (s : State) : ∃ u, execChannelArm req s = .next u := by
  unfold execChannelArm
  try unfold State.access
  repeat' (first | exact ⟨_, rfl⟩ | split | dsimp only)
theorem execChannelResume_next (req : Requester) (s : State) : ∃ u, execChannelResume req s = .next u := by
  unfold execChannelResume
  try unfold State.access
  repeat' (first | exact ⟨_, rfl⟩ | split | dsimp only)
theorem execChannelSkip_next (req : Requester) (s : State) : ∃ u, execChannelSkip req s = .next u := by
  unfold execChannelSkip
  try unfold State.access
  repeat' (first | exact ⟨_, rfl⟩ | split | dsimp only)
theorem execSemaphoreSet_next (req : Requester) (value : BitVec 32) (s : State) : ∃ u, execSemaphoreSet req value s = .next u := by
  unfold execSemaphoreSet
  try unfold State.access
  repeat' (first | exact ⟨_, rfl⟩ | split | dsimp only)
theorem execSemaphoreSignalArrival_next (sem : BitVec 12) (s : State) : ∃ u, execSemaphoreSignalArrival sem s = .next u := by
  unfold execSemaphoreSignalArrival
  try unfold State.access
  repeat' (first | exact ⟨_, rfl⟩ | split | dsimp only)
theorem execParkedWaitDone_next (ch : Fin 2048) (s : State) : ∃ u, execParkedWaitDone ch s = .next u := by
  unfold execParkedWaitDone
  try unfold State.access
  repeat' (first | exact ⟨_, rfl⟩ | split | dsimp only)
theorem execThreadTake_next (ch : Fin 2048) (thread : Fin 64) (s : State) : ∃ u, execThreadTake ch thread s = .next u := by
  unfold execThreadTake
  try unfold State.access
  repeat' (first | exact ⟨_, rfl⟩ | split | dsimp only)
theorem execStrokeStart_next (ch : Fin 2048) (ecc : Option EccEvent) (s : State) : ∃ u, execStrokeStart ch ecc s = .next u := by
  unfold execStrokeStart
  try unfold State.access
  repeat' (first | exact ⟨_, rfl⟩ | split | dsimp only)
theorem execDim_next (ch : Fin 2048) (s : State) : ∃ u, execDim ch s = .next u := by
  unfold execDim
  try unfold State.access
  repeat' (first | exact ⟨_, rfl⟩ | split | dsimp only)
theorem execStrokeRun_next (ch : Fin 2048) (s : State) : ∃ u, execStrokeRun ch s = .next u := by
  unfold execStrokeRun
  try unfold State.access
  repeat' (first | exact ⟨_, rfl⟩ | split | dsimp only)
theorem execWrap_next (ch : Fin 2048) (s : State) : ∃ u, execWrap ch s = .next u := by
  unfold execWrap
  try unfold State.access
  repeat' (first | exact ⟨_, rfl⟩ | split | dsimp only)
theorem execGather_next (ch : Fin 2048) (s : State) : ∃ u, execGather ch s = .next u := by
  unfold execGather
  try unfold State.access
  repeat' (first | exact ⟨_, rfl⟩ | split | dsimp only)
theorem execAdv_next (ch : Fin 2048) (s : State) : ∃ u, execAdv ch s = .next u := by
  unfold execAdv
  try unfold State.access
  repeat' (first | exact ⟨_, rfl⟩ | split | dsimp only)
theorem execLoopStroke_next (ch : Fin 2048) (s : State) : ∃ u, execLoopStroke ch s = .next u := by
  unfold execLoopStroke
  try unfold State.access
  repeat' (first | exact ⟨_, rfl⟩ | split | dsimp only)
theorem execSwait_next (ch : Fin 2048) (s : State) : ∃ u, execSwait ch s = .next u := by
  unfold execSwait
  try unfold State.access
  repeat' (first | exact ⟨_, rfl⟩ | split | dsimp only)
theorem execSsig_next (ch : Fin 2048) (s : State) : ∃ u, execSsig ch s = .next u := by
  unfold execSsig
  try unfold State.access
  repeat' (first | exact ⟨_, rfl⟩ | split | dsimp only)
theorem execFence_next (ch : Fin 2048) (s : State) : ∃ u, execFence ch s = .next u := by
  unfold execFence
  try unfold State.access
  repeat' (first | exact ⟨_, rfl⟩ | split | dsimp only)
theorem execStrokeArm_next (ch : Fin 2048) (s : State) : ∃ u, execStrokeArm ch s = .next u := by
  unfold execStrokeArm
  try unfold State.access
  repeat' (first | exact ⟨_, rfl⟩ | split | dsimp only)
theorem execEndStroke_next (ch : Fin 2048) (s : State) : ∃ u, execEndStroke ch s = .next u := by
  unfold execEndStroke
  try unfold State.access
  repeat' (first | exact ⟨_, rfl⟩ | split | dsimp only)
theorem execTcMatmul_next (core : Fin 48) (faults : List (Fin 4 × Fin 4)) (ecc : List EccEvent) (s : State) : ∃ u, execTcMatmul core faults ecc s = .next u := by
  unfold execTcMatmul
  try unfold State.access
  repeat' (first | exact ⟨_, rfl⟩ | split | dsimp only)
theorem execTcElemwise_next (core : Fin 48) (faults : List (Fin 4 × Fin 4)) (ecc : List EccEvent) (s : State) : ∃ u, execTcElemwise core faults ecc s = .next u := by
  unfold execTcElemwise
  try unfold State.access
  repeat' (first | exact ⟨_, rfl⟩ | split | dsimp only)
theorem execTcRelease_next (core : Fin 48) (s : State) : ∃ u, execTcRelease core s = .next u := by
  unfold execTcRelease
  try unfold State.access
  repeat' (first | exact ⟨_, rfl⟩ | split | dsimp only)
theorem execTcMark_next (core : Fin 48) (s : State) : ∃ u, execTcMark core s = .next u := by
  unfold execTcMark
  try unfold State.access
  repeat' (first | exact ⟨_, rfl⟩ | split | dsimp only)
theorem execTcPreload_next (core : Fin 48) (ecc : List EccEvent) (s : State) : ∃ u, execTcPreload core ecc s = .next u := by
  unfold execTcPreload
  try unfold State.access
  repeat' (first | exact ⟨_, rfl⟩ | split | dsimp only)
theorem execFreeze_next (req : Requester) (key : BitVec 8) (s : State) : ∃ u, execFreeze req key s = .next u := by
  unfold execFreeze
  try unfold State.access
  repeat' (first | exact ⟨_, rfl⟩ | split | dsimp only)
theorem execFreezeDrained_next (easel : Fin 64) (s : State) : ∃ u, execFreezeDrained easel s = .next u := by
  unfold execFreezeDrained
  try unfold State.access
  repeat' (first | exact ⟨_, rfl⟩ | split | dsimp only)
theorem execFreezeBoundExpiry_next (easel : Fin 64) (s : State) : ∃ u, execFreezeBoundExpiry easel s = .next u := by
  unfold execFreezeBoundExpiry
  try unfold State.access
  repeat' (first | exact ⟨_, rfl⟩ | split | dsimp only)
theorem execThaw_next (req : Requester) (key : BitVec 8) (s : State) : ∃ u, execThaw req key s = .next u := by
  unfold execThaw
  try unfold State.access
  repeat' (first | exact ⟨_, rfl⟩ | split | dsimp only)
theorem execSave_next (req : Requester) (key : BitVec 8) (s : State) : ∃ u, execSave req key s = .next u := by
  unfold execSave
  try unfold State.access
  repeat' (first | exact ⟨_, rfl⟩ | split | dsimp only)
theorem execSaveDone_next (easel : Fin 64) (fail : Bool) (s : State) : ∃ u, execSaveDone easel fail s = .next u := by
  unfold execSaveDone
  try unfold State.access
  repeat' (first | exact ⟨_, rfl⟩ | split | dsimp only)
theorem execRestore_next (req : Requester) (key : BitVec 8) (hdr : Blob) (s : State) : ∃ u, execRestore req key hdr s = .next u := by
  unfold execRestore
  try unfold State.access
  repeat' (first | exact ⟨_, rfl⟩ | split | dsimp only)
theorem execRestoreDone_next (easel : Fin 64) (image : Blob) (fail : Bool) (s : State) : ∃ u, execRestoreDone easel image fail s = .next u := by
  unfold execRestoreDone
  try unfold State.access
  repeat' (first | exact ⟨_, rfl⟩ | split | dsimp only)
theorem execReset_next (req : Requester) (key : BitVec 8) (s : State) : ∃ u, execReset req key s = .next u := by
  unfold execReset
  try unfold State.access
  repeat' (first | exact ⟨_, rfl⟩ | split | dsimp only)
theorem execEaselResetRelease_next (easel : Fin 64) (s : State) : ∃ u, execEaselResetRelease easel s = .next u := by
  unfold execEaselResetRelease
  try unfold State.access
  repeat' (first | exact ⟨_, rfl⟩ | split | dsimp only)
theorem execClearingDone_next (easel : Fin 64) (s : State) : ∃ u, execClearingDone easel s = .next u := by
  unfold execClearingDone
  try unfold State.access
  repeat' (first | exact ⟨_, rfl⟩ | split | dsimp only)
theorem execQuarantineEnter_next (req : Requester) (key : BitVec 8) (s : State) : ∃ u, execQuarantineEnter req key s = .next u := by
  unfold execQuarantineEnter
  try unfold State.access
  repeat' (first | exact ⟨_, rfl⟩ | split | dsimp only)
theorem execQuarantineLeave_next (req : Requester) (key : BitVec 8) (s : State) : ∃ u, execQuarantineLeave req key s = .next u := by
  unfold execQuarantineLeave
  try unfold State.access
  repeat' (first | exact ⟨_, rfl⟩ | split | dsimp only)
theorem execAlarmFire_next (k : Fin 16) (s : State) : ∃ u, execAlarmFire k s = .next u := by
  unfold execAlarmFire
  try unfold State.access
  repeat' (first | exact ⟨_, rfl⟩ | split | dsimp only)
theorem execTodStep_next (s : State) : ∃ u, execTodStep s = .next u := by
  unfold execTodStep
  try unfold State.access
  repeat' (first | exact ⟨_, rfl⟩ | split | dsimp only)
theorem execTodSet_next (req : Requester) (s : State) : ∃ u, execTodSet req s = .next u := by
  unfold execTodSet
  try unfold State.access
  repeat' (first | exact ⟨_, rfl⟩ | split | dsimp only)
theorem execTodSetPps_next (req : Requester) (s : State) : ∃ u, execTodSetPps req s = .next u := by
  unfold execTodSetPps
  try unfold State.access
  repeat' (first | exact ⟨_, rfl⟩ | split | dsimp only)
theorem execTodLocked_next (s : State) : ∃ u, execTodLocked s = .next u := by
  unfold execTodLocked
  try unfold State.access
  repeat' (first | exact ⟨_, rfl⟩ | split | dsimp only)
theorem execSourceLost_next (s : State) : ∃ u, execSourceLost s = .next u := by
  unfold execSourceLost
  try unfold State.access
  repeat' (first | exact ⟨_, rfl⟩ | split | dsimp only)
theorem execHoldoverLimit_next (s : State) : ∃ u, execHoldoverLimit s = .next u := by
  unfold execHoldoverLimit
  try unfold State.access
  repeat' (first | exact ⟨_, rfl⟩ | split | dsimp only)
theorem execHoldoverTxLimit_next (s : State) : ∃ u, execHoldoverTxLimit s = .next u := by
  unfold execHoldoverTxLimit
  try unfold State.access
  repeat' (first | exact ⟨_, rfl⟩ | split | dsimp only)
theorem execTodSourceWrite_next (req : Requester) (source : BitVec 2) (txHold : BitVec 16) (s : State) : ∃ u, execTodSourceWrite req source txHold s = .next u := by
  unfold execTodSourceWrite
  try unfold State.access
  repeat' (first | exact ⟨_, rfl⟩ | split | dsimp only)
theorem execFrameOffsetWrite_next (req : Requester) (value : BitVec 32) (s : State) : ∃ u, execFrameOffsetWrite req value s = .next u := by
  unfold execFrameOffsetWrite
  try unfold State.access
  repeat' (first | exact ⟨_, rfl⟩ | split | dsimp only)
theorem execTodNowFracRead_next (req : Requester) (s : State) : ∃ u, execTodNowFracRead req s = .next u := by
  unfold execTodNowFracRead
  try unfold State.access
  repeat' (first | exact ⟨_, rfl⟩ | split | dsimp only)
theorem execPtpSyncRx_next (sub : Fin 32) (frame : List Nat) (stamp : Nat) (s : State) : ∃ u, execPtpSyncRx sub frame stamp s = .next u := by
  unfold execPtpSyncRx
  try unfold State.access
  repeat' (first | exact ⟨_, rfl⟩ | split | dsimp only)
theorem execPtpFollowUpRx_next (sub : Fin 32) (frame : List Nat) (s : State) : ∃ u, execPtpFollowUpRx sub frame s = .next u := by
  unfold execPtpFollowUpRx
  try unfold State.access
  repeat' (first | exact ⟨_, rfl⟩ | split | dsimp only)
theorem execPtpDelayReqRx_next (sub : Fin 32) (frame : List Nat) (stamp : Nat) (s : State) : ∃ u, execPtpDelayReqRx sub frame stamp s = .next u := by
  unfold execPtpDelayReqRx
  try unfold State.access
  repeat' (first | exact ⟨_, rfl⟩ | split | dsimp only)
theorem execPtpDelayRespRx_next (sub : Fin 32) (frame : List Nat) (s : State) : ∃ u, execPtpDelayRespRx sub frame s = .next u := by
  unfold execPtpDelayRespRx
  try unfold State.access
  repeat' (first | exact ⟨_, rfl⟩ | split | dsimp only)
theorem execPtpAnnounceRx_next (sub : Fin 32) (frame : List Nat) (s : State) : ∃ u, execPtpAnnounceRx sub frame s = .next u := by
  unfold execPtpAnnounceRx
  try unfold State.access
  repeat' (first | exact ⟨_, rfl⟩ | split | dsimp only)
theorem execPtpSyncTx_next (sub : Fin 32) (launch : Nat) (s : State) : ∃ u, execPtpSyncTx sub launch s = .next u := by
  unfold execPtpSyncTx
  try unfold State.access
  repeat' (first | exact ⟨_, rfl⟩ | split | dsimp only)
theorem execPtpDelayReqTx_next (sub : Fin 32) (launch : Nat) (s : State) : ∃ u, execPtpDelayReqTx sub launch s = .next u := by
  unfold execPtpDelayReqTx
  try unfold State.access
  repeat' (first | exact ⟨_, rfl⟩ | split | dsimp only)
theorem execPtpAnnounceTx_next (sub : Fin 32) (launch : Nat) (s : State) : ∃ u, execPtpAnnounceTx sub launch s = .next u := by
  unfold execPtpAnnounceTx
  try unfold State.access
  repeat' (first | exact ⟨_, rfl⟩ | split | dsimp only)
theorem execEsmcRx_next (sub : Fin 32) (frame : List Nat) (s : State) : ∃ u, execEsmcRx sub frame s = .next u := by
  unfold execEsmcRx
  try unfold State.access
  repeat' (first | exact ⟨_, rfl⟩ | split | dsimp only)
theorem execEsmcInfoTx_next (sub : Fin 32) (launch : Nat) (event : Bool) (s : State) : ∃ u, execEsmcInfoTx sub launch event s = .next u := by
  unfold execEsmcInfoTx
  try unfold State.access
  repeat' (first | exact ⟨_, rfl⟩ | split | dsimp only)
theorem execSynceDpllLock_next (locked : Bool) (s : State) : ∃ u, execSynceDpllLock locked s = .next u := by
  unfold execSynceDpllLock
  try unfold State.access
  repeat' (first | exact ⟨_, rfl⟩ | split | dsimp only)
theorem execPpsInEdge_next (stamp : Nat) (s : State) : ∃ u, execPpsInEdge stamp s = .next u := by
  unfold execPpsInEdge
  try unfold State.access
  repeat' (first | exact ⟨_, rfl⟩ | split | dsimp only)
theorem execPpsOutRise_next (s : State) : ∃ u, execPpsOutRise s = .next u := by
  unfold execPpsOutRise
  try unfold State.access
  repeat' (first | exact ⟨_, rfl⟩ | split | dsimp only)
theorem execPpsOutFall_next (s : State) : ∃ u, execPpsOutFall s = .next u := by
  unfold execPpsOutFall
  try unfold State.access
  repeat' (first | exact ⟨_, rfl⟩ | split | dsimp only)
theorem execSvnCommit_next (req : Requester) (key : BitVec 8) (s : State) : ∃ u, execSvnCommit req key s = .next u := by
  unfold execSvnCommit
  try unfold State.access
  repeat' (first | exact ⟨_, rfl⟩ | split | dsimp only)
theorem execUpdateGo_next (req : Requester) (s : State) : ∃ u, execUpdateGo req s = .next u := by
  unfold execUpdateGo
  try unfold State.access
  repeat' (first | exact ⟨_, rfl⟩ | split | dsimp only)
theorem execUpdateFetchDone_next (image : Blob) (fail : Bool) (s : State) : ∃ u, execUpdateFetchDone image fail s = .next u := by
  unfold execUpdateFetchDone
  try unfold State.access
  repeat' (first | exact ⟨_, rfl⟩ | split | dsimp only)
theorem execUpdateProgramDone_next (differs : Bool) (s : State) : ∃ u, execUpdateProgramDone differs s = .next u := by
  unfold execUpdateProgramDone
  try unfold State.access
  repeat' (first | exact ⟨_, rfl⟩ | split | dsimp only)
theorem execGrantGo_next (req : Requester) (s : State) : ∃ u, execGrantGo req s = .next u := by
  unfold execGrantGo
  try unfold State.access
  repeat' (first | exact ⟨_, rfl⟩ | split | dsimp only)
theorem execGrantVerdict_next (grant : Blob) (fail : Bool) (s : State) : ∃ u, execGrantVerdict grant fail s = .next u := by
  unfold execGrantVerdict
  try unfold State.access
  repeat' (first | exact ⟨_, rfl⟩ | split | dsimp only)
theorem execGrantRevoke_next (req : Requester) (s : State) : ∃ u, execGrantRevoke req s = .next u := by
  unfold execGrantRevoke
  try unfold State.access
  repeat' (first | exact ⟨_, rfl⟩ | split | dsimp only)
theorem execGrantExpiry_next (s : State) : ∃ u, execGrantExpiry s = .next u := by
  unfold execGrantExpiry
  try unfold State.access
  repeat' (first | exact ⟨_, rfl⟩ | split | dsimp only)
theorem execGetVersion_next (sess : Option (Fin 4)) (s : State) : ∃ u, execGetVersion sess s = .next u := by
  unfold execGetVersion
  try unfold State.access
  repeat' (first | exact ⟨_, rfl⟩ | split | dsimp only)
theorem execGetCapabilities_next (sess : Option (Fin 4)) (s : State) : ∃ u, execGetCapabilities sess s = .next u := by
  unfold execGetCapabilities
  try unfold State.access
  repeat' (first | exact ⟨_, rfl⟩ | split | dsimp only)
theorem execNegotiateAlgorithms_next (sess : Option (Fin 4)) (s : State) : ∃ u, execNegotiateAlgorithms sess s = .next u := by
  unfold execNegotiateAlgorithms
  try unfold State.access
  repeat' (first | exact ⟨_, rfl⟩ | split | dsimp only)
theorem execGetDigests_next (sess : Option (Fin 4)) (s : State) : ∃ u, execGetDigests sess s = .next u := by
  unfold execGetDigests
  try unfold State.access
  repeat' (first | exact ⟨_, rfl⟩ | split | dsimp only)
theorem execGetCertificate_next (sess : Option (Fin 4)) (slot : Nat) (offset : Nat) (len : Nat) (s : State) : ∃ u, execGetCertificate sess slot offset len s = .next u := by
  unfold execGetCertificate
  try unfold State.access
  repeat' (first | exact ⟨_, rfl⟩ | split | dsimp only)
theorem execChallenge_next (sess : Option (Fin 4)) (slot : Nat) (s : State) : ∃ u, execChallenge sess slot s = .next u := by
  unfold execChallenge
  try unfold State.access
  repeat' (first | exact ⟨_, rfl⟩ | split | dsimp only)
theorem execGetMeasurements_next (sess : Option (Fin 4)) (index : Nat) (signed : Bool) (s : State) : ∃ u, execGetMeasurements sess index signed s = .next u := by
  unfold execGetMeasurements
  try unfold State.access
  repeat' (first | exact ⟨_, rfl⟩ | split | dsimp only)
theorem execKeyExchange_next (slot : Nat) (s : State) : ∃ u, execKeyExchange slot s = .next u := by
  unfold execKeyExchange
  try unfold State.access
  repeat' (first | exact ⟨_, rfl⟩ | split | dsimp only)
theorem execFinish_next (sess : Fin 4) (good : Bool) (s : State) : ∃ u, execFinish sess good s = .next u := by
  unfold execFinish
  try unfold State.access
  repeat' (first | exact ⟨_, rfl⟩ | split | dsimp only)
theorem execEndSession_next (sess : Fin 4) (s : State) : ∃ u, execEndSession sess s = .next u := by
  unfold execEndSession
  try unfold State.access
  repeat' (first | exact ⟨_, rfl⟩ | split | dsimp only)
theorem execHeartbeat_next (sess : Fin 4) (s : State) : ∃ u, execHeartbeat sess s = .next u := by
  unfold execHeartbeat
  try unfold State.access
  repeat' (first | exact ⟨_, rfl⟩ | split | dsimp only)
theorem execKeyUpdate_next (sess : Fin 4) (s : State) : ∃ u, execKeyUpdate sess s = .next u := by
  unfold execKeyUpdate
  try unfold State.access
  repeat' (first | exact ⟨_, rfl⟩ | split | dsimp only)
theorem execIdeKm_next (sess : Fin 4) (stream : Fin 4) (s : State) : ∃ u, execIdeKm sess stream s = .next u := by
  unfold execIdeKm
  try unfold State.access
  repeat' (first | exact ⟨_, rfl⟩ | split | dsimp only)
theorem execJtagInstruction_next (s : State) : ∃ u, execJtagInstruction s = .next u := by
  unfold execJtagInstruction
  try unfold State.access
  repeat' (first | exact ⟨_, rfl⟩ | split | dsimp only)
theorem execYarozReq_next (path : Fin 24) (frame : YzFrame) (s : State) : ∃ u, execYarozReq path frame s = .next u := by
  unfold execYarozReq
  try unfold State.access
  repeat' (first | exact ⟨_, rfl⟩ | split | dsimp only)
theorem execYarozResp_next (path : Fin 24) (frame : YzFrame) (s : State) : ∃ u, execYarozResp path frame s = .next u := by
  unfold execYarozResp
  try unfold State.access
  repeat' (first | exact ⟨_, rfl⟩ | split | dsimp only)
theorem execYarozAck_next (path : Fin 24) (frame : YzFrame) (s : State) : ∃ u, execYarozAck path frame s = .next u := by
  unfold execYarozAck
  try unfold State.access
  repeat' (first | exact ⟨_, rfl⟩ | split | dsimp only)
theorem execYarozNak_next (path : Fin 24) (frame : YzFrame) (s : State) : ∃ u, execYarozNak path frame s = .next u := by
  unfold execYarozNak
  try unfold State.access
  repeat' (first | exact ⟨_, rfl⟩ | split | dsimp only)
theorem execYarozCredit_next (path : Fin 24) (frame : YzFrame) (s : State) : ∃ u, execYarozCredit path frame s = .next u := by
  unfold execYarozCredit
  try unfold State.access
  repeat' (first | exact ⟨_, rfl⟩ | split | dsimp only)
theorem execYzfLoad_next (slot : Fin 16) (rank : Fin 4096) (busy : Bool) (ecc : Option EccEvent) (s : State) : ∃ u, execYzfLoad slot rank busy ecc s = .next u := by
  unfold execYzfLoad
  try unfold State.access
  repeat' (first | exact ⟨_, rfl⟩ | split | dsimp only)
theorem execYzfStore_next (slot : Fin 16) (rank : Fin 4096) (busy : Bool) (s : State) : ∃ u, execYzfStore slot rank busy s = .next u := by
  unfold execYzfStore
  try unfold State.access
  repeat' (first | exact ⟨_, rfl⟩ | split | dsimp only)
theorem execYzfAtomic_next (slot : Fin 16) (rank : Fin 4096) (busy : Bool) (ecc : Option EccEvent) (s : State) : ∃ u, execYzfAtomic slot rank busy ecc s = .next u := by
  unfold execYzfAtomic
  try unfold State.access
  repeat' (first | exact ⟨_, rfl⟩ | split | dsimp only)
theorem execYzfProbe_next (slot : Fin 16) (rank : Fin 4096) (s : State) : ∃ u, execYzfProbe slot rank s = .next u := by
  unfold execYzfProbe
  try unfold State.access
  repeat' (first | exact ⟨_, rfl⟩ | split | dsimp only)
theorem execHomeQueueServe_next (pos : Nat) (ecc : Option EccEvent) (s : State) : ∃ u, execHomeQueueServe pos ecc s = .next u := by
  unfold execHomeQueueServe
  try unfold State.access
  repeat' (first | exact ⟨_, rfl⟩ | split | dsimp only)
theorem execRetransmitTimeout_next (slot : Fin 16) (rank : Fin 4096) (psn : BitVec 24) (s : State) : ∃ u, execRetransmitTimeout slot rank psn s = .next u := by
  unfold execRetransmitTimeout
  try unfold State.access
  repeat' (first | exact ⟨_, rfl⟩ | split | dsimp only)
theorem execLinkReplay_next (link : Fin 16) (lack : BitVec 16) (s : State) : ∃ u, execLinkReplay link lack s = .next u := by
  unfold execLinkReplay
  try unfold State.access
  repeat' (first | exact ⟨_, rfl⟩ | split | dsimp only)
theorem execPathProbe_next (slot : Fin 16) (rank : Fin 4096) (path : Fin 24) (acked : Bool) (s : State) : ∃ u, execPathProbe slot rank path acked s = .next u := by
  unfold execPathProbe
  try unfold State.access
  repeat' (first | exact ⟨_, rfl⟩ | split | dsimp only)
theorem execYarozLinkDown_next (link : Fin 16) (s : State) : ∃ u, execYarozLinkDown link s = .next u := by
  unfold execYarozLinkDown
  try unfold State.access
  repeat' (first | exact ⟨_, rfl⟩ | split | dsimp only)
theorem execYarozLinkUp_next (link : Fin 16) (lanes : Fin 5) (s : State) : ∃ u, execYarozLinkUp link lanes s = .next u := by
  unfold execYarozLinkUp
  try unfold State.access
  repeat' (first | exact ⟨_, rfl⟩ | split | dsimp only)
theorem execFenceTimeout_next (ch : Fin 2048) (s : State) : ∃ u, execFenceTimeout ch s = .next u := by
  unfold execFenceTimeout
  try unfold State.access
  repeat' (first | exact ⟨_, rfl⟩ | split | dsimp only)
theorem execDeadTimerExpiry_next (tag : BitVec 32) (s : State) : ∃ u, execDeadTimerExpiry tag s = .next u := by
  unfold execDeadTimerExpiry
  try unfold State.access
  repeat' (first | exact ⟨_, rfl⟩ | split | dsimp only)
theorem execRetryAfterReissue_next (tag : BitVec 32) (s : State) : ∃ u, execRetryAfterReissue tag s = .next u := by
  unfold execRetryAfterReissue
  try unfold State.access
  repeat' (first | exact ⟨_, rfl⟩ | split | dsimp only)
theorem execGenAheadReissue_next (tag : BitVec 32) (s : State) : ∃ u, execGenAheadReissue tag s = .next u := by
  unfold execGenAheadReissue
  try unfold State.access
  repeat' (first | exact ⟨_, rfl⟩ | split | dsimp only)
theorem execEpochReissue_next (tag : BitVec 32) (s : State) : ∃ u, execEpochReissue tag s = .next u := by
  unfold execEpochReissue
  try unfold State.access
  repeat' (first | exact ⟨_, rfl⟩ | split | dsimp only)
theorem execMcastLoad_next (req : Requester) (s : State) : ∃ u, execMcastLoad req s = .next u := by
  unfold execMcastLoad
  try unfold State.access
  repeat' (first | exact ⟨_, rfl⟩ | split | dsimp only)
theorem execMcastPrune_next (ch : Fin 2048) (rank : Fin 4096) (s : State) : ∃ u, execMcastPrune ch rank s = .next u := by
  unfold execMcastPrune
  try unfold State.access
  repeat' (first | exact ⟨_, rfl⟩ | split | dsimp only)
theorem execTombstoneDrained_next (slot : Fin 16) (s : State) : ∃ u, execTombstoneDrained slot s = .next u := by
  unfold execTombstoneDrained
  try unfold State.access
  repeat' (first | exact ⟨_, rfl⟩ | split | dsimp only)
theorem execTombstoneExpired_next (slot : Fin 16) (s : State) : ∃ u, execTombstoneExpired slot s = .next u := by
  unfold execTombstoneExpired
  try unfold State.access
  repeat' (first | exact ⟨_, rfl⟩ | split | dsimp only)

end Sys2Proof.Machine
end

