-- ==== Sys2Proof/Laws/FaultsFollows.lean ====
section
/-! SUPPORT. Laws/FaultsFollows.lean: every operation of Machine/Faults.lean follows: what it does to the queue, the outputs, the draw counter and the invariant (Safety.lean). -/
set_option linter.unusedVariables false
set_option linter.unreachableTactic false
set_option linter.unusedTactic false
namespace Sys2Proof.Machine

open Sys2Proof

theorem State.logFault_follows {z : State} {s : State} (r : FaultRec) (phase : Bool) (seqno : Nat) (hs : z.Follows s) :
    z.Follows (State.logFault s r phase seqno) := by
  unfold State.logFault
  repeat' (first | with_reducible assumption | with_reducible apply State.incWrap_follows | with_reducible apply Res.Follows.next | fail_if_no_progress with_reducible apply State.Follows.upd | split | trivial | intro _ | dsimp only)

theorem State.faultRingWrite_follows {z : State} {s : State} (e : Nat) (r : FaultRec) (hs : z.Follows s) :
    z.Follows (State.faultRingWrite s e r) := by
  unfold State.faultRingWrite
  repeat' (first | with_reducible assumption | with_reducible refine State.Follows.ite (fun _ => ?_) (fun _ => ?_) | with_reducible apply State.setFld_follows | with_reducible apply State.hostWrite_follows | with_reducible apply State.fire_follows | with_reducible apply Res.Follows.next | fail_if_no_progress with_reducible apply State.Follows.upd | split | trivial | intro _ | dsimp only)

theorem State.faultLost_follows {z : State} {s : State} (e : Nat) (r : FaultRec) (hs : z.Follows s) :
    z.Follows (State.faultLost s e r) := by
  unfold State.faultLost
  repeat' (first | with_reducible assumption | with_reducible refine State.Follows.ite (fun _ => ?_) (fun _ => ?_) | with_reducible apply State.setFlag_follows | with_reducible apply State.orFld_follows | with_reducible apply State.incSat_follows | with_reducible apply Res.Follows.next | fail_if_no_progress with_reducible apply State.Follows.upd | split | trivial | intro _ | dsimp only)

theorem State.deliverFault_follows {z : State} {s : State} (r : FaultRec) (hs : z.Follows s) :
    z.Follows (State.deliverFault s r) := by
  unfold State.deliverFault
  repeat' (first | with_reducible assumption | with_reducible refine State.Follows.ite (fun _ => ?_) (fun _ => ?_) | with_reducible apply State.draw_follows | with_reducible apply State.logFault_follows | with_reducible apply State.faultRingWrite_follows | with_reducible apply State.faultLost_follows | with_reducible apply Res.Follows.next | fail_if_no_progress with_reducible apply State.Follows.upd | (with_reducible refine State.Follows.of_snd (by with_reducible assumption) ?_) | (with_reducible refine State.Follows.of_fst (by with_reducible assumption) ?_) | (with_reducible refine State.Follows.of_trd (by with_reducible assumption) ?_) | split | trivial | intro _ | dsimp only)

theorem State.penalise_follows {z : State} {s : State} (det : Nat) (sev : Nat) (injected : Bool) (hs : z.Follows s) :
    z.Follows (State.penalise s det sev injected) := by
  unfold State.penalise
  repeat' (first | with_reducible assumption | with_reducible refine State.Follows.ite (fun _ => ?_) (fun _ => ?_) | with_reducible apply State.incSat_follows | with_reducible apply Res.Follows.next | fail_if_no_progress with_reducible apply State.Follows.upd | split | trivial | intro _ | dsimp only)

theorem State.detect_follows {z : State} {s : State} (det : Nat) (easel : Nat) (unitKind : Nat) (unit : Nat) (info : Nat) (code : Nat) (sev : Nat) (injected : Bool) (hs : z.Follows s) :
    z.Follows (State.detect s det easel unitKind unit info code sev injected) := by
  unfold State.detect
  repeat' (first | with_reducible assumption | with_reducible refine State.Follows.ite (fun _ => ?_) (fun _ => ?_) | with_reducible apply State.orFld_follows | with_reducible apply State.incSat_follows | with_reducible apply State.deliverFault_follows | with_reducible apply State.penalise_follows | with_reducible apply Res.Follows.next | fail_if_no_progress with_reducible apply State.Follows.upd | split | trivial | intro _ | dsimp only)

theorem State.usageFault_follows {z : State} {s : State} (easel : Nat) (unitKind : Nat) (unit : Nat) (info : Nat) (code : Nat) (hs : z.Follows s) :
    z.Follows (State.usageFault s easel unitKind unit info code) := by
  unfold State.usageFault
  repeat' (first | with_reducible assumption | with_reducible apply State.deliverFault_follows | with_reducible apply Res.Follows.next | fail_if_no_progress with_reducible apply State.Follows.upd | split | trivial | intro _ | dsimp only)

theorem State.inject_follows {z : State} {s : State} (det : Nat) (easel : Nat) (hs : z.Follows s) :
    z.Follows (State.inject s det easel).2 := by
  unfold State.inject
  repeat' (first | with_reducible assumption | with_reducible refine State.Follows.ite_snd (fun _ => ?_) (fun _ => ?_) | with_reducible refine State.Follows.ite (fun _ => ?_) (fun _ => ?_) | with_reducible apply State.setFlag_follows | with_reducible apply State.incSat_follows | with_reducible apply Res.Follows.next | fail_if_no_progress with_reducible apply State.Follows.upd | split | trivial | intro _ | dsimp only)

theorem State.disarm_follows {z : State} {s : State} (d : Nat) (hs : z.Follows s) :
    z.Follows (State.disarm s d) := by
  unfold State.disarm
  repeat' (first | with_reducible assumption | with_reducible apply State.setFlag_follows | with_reducible apply Res.Follows.next | fail_if_no_progress with_reducible apply State.Follows.upd | split | trivial | intro _ | dsimp only)

theorem execInjectArm_follows {z : State} (req : Requester) {s : State} (hs : z.Follows s) :
    Res.Follows z (execInjectArm req s) := by
  unfold execInjectArm
  repeat' (first | with_reducible assumption | with_reducible refine Res.Follows.ite (fun _ => ?_) (fun _ => ?_) | with_reducible refine State.Follows.ite (fun _ => ?_) (fun _ => ?_) | with_reducible apply State.setFlag_follows | with_reducible apply State.access_follows | with_reducible apply State.disarm_follows | with_reducible apply Res.Follows.next | fail_if_no_progress with_reducible apply State.Follows.upd | split | trivial | intro _ | dsimp only)

theorem execInjectDisarm_follows {z : State} (req : Requester) {s : State} (hs : z.Follows s) :
    Res.Follows z (execInjectDisarm req s) := by
  unfold execInjectDisarm
  repeat' (first | with_reducible assumption | with_reducible refine Res.Follows.ite (fun _ => ?_) (fun _ => ?_) | with_reducible refine State.Follows.ite (fun _ => ?_) (fun _ => ?_) | with_reducible apply State.access_follows | with_reducible apply State.disarm_follows | with_reducible apply Res.Follows.next | fail_if_no_progress with_reducible apply State.Follows.upd | split | trivial | intro _ | dsimp only)

theorem execFoldWindowEnd_follows {z : State} {s : State} (hs : z.Follows s) :
    Res.Follows z (execFoldWindowEnd s) := by
  unfold execFoldWindowEnd
  repeat' (first | with_reducible assumption | with_reducible apply State.deliverFault_follows | with_reducible apply Res.Follows.next | fail_if_no_progress with_reducible apply State.Follows.upd | split | trivial | intro _ | dsimp only)

theorem execHealthEvaluation_follows {z : State} {s : State} (hs : z.Follows s) :
    Res.Follows z (execHealthEvaluation s) := by
  unfold execHealthEvaluation
  repeat' (first | with_reducible assumption | with_reducible refine Res.Follows.ite (fun _ => ?_) (fun _ => ?_) | with_reducible refine State.Follows.ite (fun _ => ?_) (fun _ => ?_) | with_reducible apply State.setFld_follows | with_reducible apply Res.Follows.next | fail_if_no_progress with_reducible apply State.Follows.upd | split | trivial | intro _ | dsimp only)

end Sys2Proof.Machine
end

