-- ==== Sys2Proof/Laws/MemoryFollows.lean ====
section
/-! SUPPORT. Laws/MemoryFollows.lean: every operation of Machine/Memory.lean follows: what it does to the queue, the outputs, the draw counter and the invariant (Safety.lean). -/
set_option linter.unusedVariables false
set_option linter.unreachableTactic false
set_option linter.unusedTactic false
namespace Sys2Proof.Machine

open Sys2Proof

theorem State.markPoisonRange_follows {z : State} {s : State} (k : Nat) (n : Nat) (hs : z.Follows s) :
    z.Follows (State.markPoisonRange s k n) := by
  unfold State.markPoisonRange
  repeat' (first | with_reducible assumption | with_reducible refine State.Follows.ite (fun _ => ?_) (fun _ => ?_) | with_reducible apply forUpto_follows | with_reducible apply State.markPoison_follows | with_reducible apply Res.Follows.next | fail_if_no_progress with_reducible apply State.Follows.upd | split | trivial | intro _ | dsimp only)

theorem State.storeRaw_follows {z : State} {s : State} (k : Nat) (bs : List Nat) (hs : z.Follows s) :
    z.Follows (State.storeRaw s k bs) := by
  unfold State.storeRaw
  repeat' (first | with_reducible assumption | with_reducible apply State.writeBytes_follows | with_reducible apply State.healPoison_follows | with_reducible apply Res.Follows.next | fail_if_no_progress with_reducible apply State.Follows.upd | split | trivial | intro _ | dsimp only)

theorem State.setUsedRange_follows {z : State} {s : State} (base : Nat) (size : Nat) (addr : Nat) (n : Nat) (hs : z.Follows s) :
    z.Follows (State.setUsedRange s base size addr n) := by
  unfold State.setUsedRange
  repeat' (first | with_reducible assumption | with_reducible refine State.Follows.ite (fun _ => ?_) (fun _ => ?_) | with_reducible apply forUpto_follows | with_reducible apply State.setUsed_follows | with_reducible apply Res.Follows.next | fail_if_no_progress with_reducible apply State.Follows.upd | split | trivial | intro _ | dsimp only)

theorem State.wakeStack_follows {z : State} {s : State} (stack : Nat) (easel : Nat) (hs : z.Follows s) :
    z.Follows (State.wakeStack s stack easel) := by
  unfold State.wakeStack
  repeat' (first | with_reducible assumption | with_reducible refine State.Follows.ite (fun _ => ?_) (fun _ => ?_) | with_reducible apply State.setFld_follows | with_reducible apply State.clrFld_follows | with_reducible apply State.incSat_follows | with_reducible apply State.incWrap_follows | with_reducible apply Res.Follows.next | fail_if_no_progress with_reducible apply State.Follows.upd | split | trivial | intro _ | dsimp only)

theorem State.openAt_follows {z : State} {s : State} (stack : Nat) (l : StackLoc) (hs : z.Follows s) :
    z.Follows (State.openAt s stack l) := by
  unfold State.openAt
  repeat' (first | with_reducible assumption | with_reducible apply Res.Follows.next | fail_if_no_progress with_reducible apply State.Follows.upd | split | trivial | intro _ | dsimp only)

theorem State.openBlock_follows {z : State} {s : State} (easel : Nat) (addr : Nat) (hs : z.Follows s) :
    z.Follows (State.openBlock s easel addr) := by
  unfold State.openBlock
  repeat' (first | with_reducible assumption | with_reducible apply State.wakeStack_follows | with_reducible apply State.openAt_follows | with_reducible apply Res.Follows.next | fail_if_no_progress with_reducible apply State.Follows.upd | split | trivial | intro _ | dsimp only)

theorem State.openPage_follows {z : State} {s : State} (easel : Nat) (addr : Nat) (n : Nat) (hs : z.Follows s) :
    z.Follows (State.openPage s easel addr n) := by
  unfold State.openPage
  repeat' (first | with_reducible assumption | with_reducible apply forUpto_follows | with_reducible apply State.openBlock_follows | with_reducible apply Res.Follows.next | fail_if_no_progress with_reducible apply State.Follows.upd | split | trivial | intro _ | dsimp only)

theorem State.countStack_follows {z : State} {s : State} (f : Fld) (easel : Nat) (addr : Nat) (n : Nat) (hs : z.Follows s) :
    z.Follows (State.countStack s f easel addr n) := by
  unfold State.countStack
  repeat' (first | with_reducible assumption | with_reducible refine State.Follows.ite (fun _ => ?_) (fun _ => ?_) | with_reducible apply forUpto_follows | with_reducible apply State.countUnits_follows | with_reducible apply Res.Follows.next | fail_if_no_progress with_reducible apply State.Follows.upd | split | trivial | intro _ | dsimp only)

theorem State.refuseShare_follows {z : State} {s : State} (easel : Nat) (addr : Nat) (hs : z.Follows s) :
    z.Follows (State.refuseShare s easel addr) := by
  unfold State.refuseShare
  repeat' (first | with_reducible assumption | with_reducible apply State.incSat_follows | with_reducible apply State.usageFault_follows | with_reducible apply Res.Follows.next | fail_if_no_progress with_reducible apply State.Follows.upd | split | trivial | intro _ | dsimp only)

theorem State.errorPlace_follows {z : State} {s : State} (stack : Nat) (l : StackLoc) (easel : Nat) (lane : Nat) (ue : Bool) (scrub : Bool) (hs : z.Follows s) :
    z.Follows (State.errorPlace s stack l easel lane ue scrub) := by
  unfold State.errorPlace
  repeat' (first | with_reducible assumption | with_reducible refine State.Follows.ite (fun _ => ?_) (fun _ => ?_) | with_reducible apply State.setFld_follows | with_reducible apply State.setFlag_follows | with_reducible apply Res.Follows.next | fail_if_no_progress with_reducible apply State.Follows.upd | split | trivial | intro _ | dsimp only)

theorem State.bondEcc_follows {z : State} {s : State} (stack : Nat) (g : Granule) (lane : Nat) (code : Nat) (e : Ecc) (scrub : Bool) (injected : Bool) (hs : z.Follows s) :
    z.Follows (State.bondEcc s stack g lane code e scrub injected) := by
  unfold State.bondEcc
  repeat' (first | with_reducible assumption | with_reducible apply State.markPoison_follows | with_reducible apply State.orFld_follows | with_reducible apply State.incSat_follows | with_reducible apply State.detect_follows | with_reducible apply State.errorPlace_follows | with_reducible apply Res.Follows.next | fail_if_no_progress with_reducible apply State.Follows.upd | split | trivial | intro _ | dsimp only)

theorem State.bondCheck_follows {z : State} {s : State} (easel : Nat) (addr : Nat) (code : Nat) (e : Option EccEvent) (hs : z.Follows s) :
    z.Follows (State.bondCheck s easel addr code e) := by
  unfold State.bondCheck
  repeat' (first | with_reducible assumption | with_reducible apply State.inject_follows | with_reducible apply State.bondEcc_follows | with_reducible apply Res.Follows.next | fail_if_no_progress with_reducible apply State.Follows.upd | (with_reducible refine State.Follows.of_snd (by with_reducible assumption) ?_) | (with_reducible refine State.Follows.of_fst (by with_reducible assumption) ?_) | (with_reducible refine State.Follows.of_trd (by with_reducible assumption) ?_) | split | trivial | intro _ | dsimp only)

theorem State.bondLoad_follows {z : State} {s : State} (easel : Nat) (addr : Nat) (n : Nat) (code : Nat) (e : Option EccEvent) (hs : z.Follows s) :
    z.Follows (State.bondLoad s easel addr n code e).st := by
  unfold State.bondLoad
  repeat' (first | with_reducible assumption | with_reducible refine State.Follows.ite (fun _ => ?_) (fun _ => ?_) | with_reducible apply State.incSat_follows | with_reducible apply State.openPage_follows | with_reducible apply State.countStack_follows | with_reducible apply State.refuseShare_follows | with_reducible apply State.bondCheck_follows | with_reducible apply Res.Follows.next | fail_if_no_progress with_reducible apply State.Follows.upd | split | trivial | intro _ | dsimp only)

theorem State.bondWatermark_follows {z : State} {s : State} (easel : Nat) (hs : z.Follows s) :
    z.Follows (State.bondWatermark s easel) := by
  unfold State.bondWatermark
  repeat' (first | with_reducible assumption | with_reducible apply State.setFld_follows | with_reducible apply Res.Follows.next | fail_if_no_progress with_reducible apply State.Follows.upd | split | trivial | intro _ | dsimp only)

theorem State.bondStore_follows {z : State} {s : State} (easel : Nat) (addr : Nat) (bs : List Nat) (hs : z.Follows s) :
    z.Follows (State.bondStore s easel addr bs).st := by
  unfold State.bondStore
  repeat' (first | with_reducible assumption | with_reducible refine State.Follows.ite (fun _ => ?_) (fun _ => ?_) | with_reducible apply State.storeRaw_follows | with_reducible apply State.setUsedRange_follows | with_reducible apply State.openPage_follows | with_reducible apply State.countStack_follows | with_reducible apply State.refuseShare_follows | with_reducible apply State.bondWatermark_follows | with_reducible apply Res.Follows.next | fail_if_no_progress with_reducible apply State.Follows.upd | split | trivial | intro _ | dsimp only)

theorem State.bondAtomic_follows {z : State} {s : State} (easel : Nat) (addr : Nat) (w : Nat) (op : AtomicOp) (operand : Nat) (compare : Nat) (code : Nat) (e : Option EccEvent) (hs : z.Follows s) :
    z.Follows (State.bondAtomic s easel addr w op operand compare code e).st := by
  unfold State.bondAtomic
  repeat' (first | with_reducible assumption | with_reducible refine State.Follows.ite (fun _ => ?_) (fun _ => ?_) | with_reducible apply State.incSat_follows | with_reducible apply State.storeRaw_follows | with_reducible apply State.setUsedRange_follows | with_reducible apply State.openPage_follows | with_reducible apply State.countStack_follows | with_reducible apply State.refuseShare_follows | with_reducible apply State.bondCheck_follows | with_reducible apply State.bondWatermark_follows | with_reducible apply Res.Follows.next | fail_if_no_progress with_reducible apply State.Follows.upd | split | trivial | intro _ | dsimp only)

end Sys2Proof.Machine
end

