-- ==== Sys2Proof/Laws/SharesFollows.lean ====
section
/-! SUPPORT. Laws/SharesFollows.lean: every operation of Machine/Shares.lean follows: what it does to the queue, the outputs, the draw counter and the invariant (Safety.lean). -/
set_option linter.unusedVariables false
set_option linter.unreachableTactic false
set_option linter.unusedTactic false
namespace Sys2Proof.Machine

open Sys2Proof

theorem State.setDigest_follows {z : State} {s : State} (f : Nat → Fld) (d : List Nat) (hs : z.Follows s) :
    z.Follows (State.setDigest s f d) := by
  unfold State.setDigest
  repeat' (first | with_reducible assumption | with_reducible apply forUpto_follows | with_reducible apply State.setFld_follows | with_reducible apply Res.Follows.next | fail_if_no_progress with_reducible apply State.Follows.upd | split | trivial | intro _ | dsimp only)

theorem State.keepSec_follows {z : State} {s : State} (t : Nat) (b : Blob) (hs : z.Follows s) :
    z.Follows (State.keepSec s t b) := by
  unfold State.keepSec
  repeat' (first | with_reducible assumption | with_reducible apply State.setDigest_follows | with_reducible apply Res.Follows.next | fail_if_no_progress with_reducible apply State.Follows.upd | split | trivial | intro _ | dsimp only)

/-- Keys added to a set one by one. -/
theorem NSet.wf_foldl_add {α : Type} (f : α → Nat) (l : List α) (m : NSet) (hm : NSet.wf m = true) : NSet.wf (l.foldl (fun (m : NSet) a => NSet.add (f a) m) m) = true := by
  induction l generalizing m with
  | nil => exact hm
  | cons a r ih => exact ih _ (NSet.wf_add _ _ hm)

theorem State.setBondMapped_follows {z s : State} (easel n : Nat) (hs : z.Follows s) : z.Follows (State.setBondMapped s easel n) := by
  unfold State.setBondMapped
  dsimp only
  generalize h : (fun k (t : State) => State.setFld t k F.MEM_STK_FREE_UNITS _) = f
  have h1 : z.Follows (forUpto 18 f s) := forUpto_follows _ _ (fun k u hu => by subst h; exact State.setFld_follows _ _ _ hu) hs
  generalize forUpto 18 f s = s1 at h1
  have h2 := State.setFld_follows easel F.MEM_EAS_MAPPED_UNITS n h1
  generalize s1.setFld easel F.MEM_EAS_MAPPED_UNITS n = s2 at h2
  exact ⟨h2.pending, h2.out, h2.free, fun i => let j := h2.inv i; ⟨j.mem, j.regs, NSet.wf_foldl_add _ _ _ rfl, j.used, j.tod⟩⟩

theorem State.setLimits_follows {z : State} {s : State} (e : Nat) (v : ShareVec) (hs : z.Follows s) :
    z.Follows (State.setLimits s e v) := by
  unfold State.setLimits
  repeat' (first | with_reducible assumption | with_reducible apply forUpto_follows | with_reducible apply State.setFld_follows | with_reducible apply Res.Follows.next | fail_if_no_progress with_reducible apply State.Follows.upd | split | trivial | intro _ | dsimp only)

theorem State.setMapped_follows {z : State} {s : State} (e : Nat) (v : ShareVec) (hs : z.Follows s) :
    z.Follows (State.setMapped s e v) := by
  unfold State.setMapped
  repeat' (first | with_reducible assumption | with_reducible apply forUpto_follows | with_reducible apply State.setFld_follows | with_reducible apply State.setBondMapped_follows | with_reducible apply Res.Follows.next | fail_if_no_progress with_reducible apply State.Follows.upd | split | trivial | intro _ | dsimp only)

theorem State.retouchDone_follows {z : State} {s : State} (bit : Nat) (hs : z.Follows s) :
    z.Follows (State.retouchDone s bit) := by
  unfold State.retouchDone
  repeat' (first | with_reducible assumption | with_reducible refine State.Follows.ite (fun _ => ?_) (fun _ => ?_) | with_reducible apply State.setFld_follows | with_reducible apply State.clrFld_follows | with_reducible apply State.fire_follows | with_reducible apply Res.Follows.next | fail_if_no_progress with_reducible apply State.Follows.upd | split | trivial | intro _ | dsimp only)

theorem State.growShares_follows {z : State} {s : State} (hs : z.Follows s) :
    z.Follows (State.growShares s) := by
  unfold State.growShares
  repeat' (first | with_reducible assumption | with_reducible apply forEach_follows | with_reducible apply State.keepSec_follows | with_reducible apply State.setLimits_follows | with_reducible apply State.setMapped_follows | with_reducible apply State.retouchDone_follows | with_reducible apply Res.Follows.next | fail_if_no_progress with_reducible apply State.Follows.upd | split | trivial | intro _ | dsimp only)

theorem State.shrinkEffect_follows {z : State} {s : State} (e : Nat) (hs : z.Follows s) :
    z.Follows (State.shrinkEffect s e) := by
  unfold State.shrinkEffect
  repeat' (first | with_reducible assumption | with_reducible refine State.Follows.ite (fun _ => ?_) (fun _ => ?_) | with_reducible apply forEach_follows | with_reducible apply State.setMapped_follows | with_reducible apply State.growShares_follows | with_reducible apply Res.Follows.next | fail_if_no_progress with_reducible apply State.Follows.upd | split | trivial | intro _ | dsimp only)

end Sys2Proof.Machine
end

