-- ==== Sys2Proof/Laws/CellMapFollows.lean ====
section
/-! SUPPORT. Laws/CellMapFollows.lean: every operation of Machine/CellMap.lean follows: what it does to the queue, the outputs, the draw counter and the invariant (Safety.lean). -/
set_option linter.unusedVariables false
set_option linter.unreachableTactic false
set_option linter.unusedTactic false
namespace Sys2Proof.Machine

open Sys2Proof

theorem State.showLdpc_follows {z : State} {s : State} (hs : z.Follows s) :
    z.Follows (State.showLdpc s) := by
  unfold State.showLdpc
  repeat' (first | with_reducible assumption | with_reducible apply State.setFld_follows | with_reducible apply Res.Follows.next | fail_if_no_progress with_reducible apply State.Follows.upd | split | trivial | intro _ | dsimp only)

end Sys2Proof.Machine
end

