-- ==== Sys2Proof/Laws/SeqBaseFollows.lean ====
section
/-! SUPPORT. Laws/SeqBaseFollows.lean: every operation of Machine/SeqBase.lean follows: what it does to the queue, the outputs, the draw counter and the invariant (Safety.lean). -/
set_option linter.unusedVariables false
set_option linter.unreachableTactic false
set_option linter.unusedTactic false
namespace Sys2Proof.Machine

open Sys2Proof

theorem State.setSeqEas_follows {z : State} {s : State} (e : Nat) (x : SeqEas) (hs : z.Follows s) :
    z.Follows (State.setSeqEas s e x) := by
  unfold State.setSeqEas
  repeat' (first | with_reducible assumption | with_reducible apply Res.Follows.next | fail_if_no_progress with_reducible apply State.Follows.upd | split | trivial | intro _ | dsimp only)

theorem State.showSeqCounts_follows {z : State} {s : State} (e : Nat) (hs : z.Follows s) :
    z.Follows (State.showSeqCounts s e) := by
  unfold State.showSeqCounts
  repeat' (first | with_reducible assumption | with_reducible apply State.setFld_follows | with_reducible apply Res.Follows.next | fail_if_no_progress with_reducible apply State.Follows.upd | with_reducible apply foldl_follows | with_reducible apply foldl_fst_follows | with_reducible apply foldl_snd_follows | with_reducible apply foldl_trd_follows | split | trivial | intro _ | dsimp only)

theorem State.setSeqEntry_follows {z : State} {s : State} (e : Nat) (i : Nat) (t : SeqEntry) (hs : z.Follows s) :
    z.Follows (State.setSeqEntry s e i t) := by
  unfold State.setSeqEntry
  repeat' (first | with_reducible assumption | with_reducible apply State.setSeqEas_follows | with_reducible apply State.showSeqCounts_follows | with_reducible apply Res.Follows.next | fail_if_no_progress with_reducible apply State.Follows.upd | split | trivial | intro _ | dsimp only)

theorem State.notePoisonedRead_follows {z : State} {s : State} (e : Nat) (n : Nat) (a : Nat) (len : Nat) (hs : z.Follows s) :
    z.Follows (State.notePoisonedRead s e n a len) := by
  unfold State.notePoisonedRead
  repeat' (first | with_reducible assumption | with_reducible refine State.Follows.ite (fun _ => ?_) (fun _ => ?_) | with_reducible apply forEach_follows | with_reducible apply State.setSeqEntry_follows | with_reducible apply Res.Follows.next | fail_if_no_progress with_reducible apply State.Follows.upd | split | trivial | intro _ | dsimp only)

end Sys2Proof.Machine
end

