-- ==== Sys2Proof/Laws/ScoreboardFollows.lean ====
section
/-! SUPPORT. Laws/ScoreboardFollows.lean: every operation of Machine/Scoreboard.lean follows: what it does to the queue, the outputs, the draw counter and the invariant (Safety.lean). -/
set_option linter.unusedVariables false
set_option linter.unreachableTactic false
set_option linter.unusedTactic false
namespace Sys2Proof.Machine

open Sys2Proof

theorem State.setRingNote_follows {z : State} {s : State} (r : Nat) (v : Nat) (hs : z.Follows s) :
    z.Follows (State.setRingNote s r v) := by
  unfold State.setRingNote
  repeat' (first | with_reducible assumption | with_reducible apply State.setFlag_follows | with_reducible apply Res.Follows.next | fail_if_no_progress with_reducible apply State.Follows.upd | split | trivial | intro _ | dsimp only)

theorem State.ringRetry_follows {z : State} {s : State} (r : Nat) (hs : z.Follows s) :
    z.Follows (State.ringRetry s r) := by
  unfold State.ringRetry
  repeat' (first | with_reducible assumption | with_reducible refine State.Follows.ite (fun _ => ?_) (fun _ => ?_) | with_reducible apply State.setRingNote_follows | with_reducible apply Res.Follows.next | fail_if_no_progress with_reducible apply State.Follows.upd | split | trivial | intro _ | dsimp only)

theorem State.ringFault_follows {z : State} {s : State} (r : Nat) (addr : Nat) (bonded : Bool) (hs : z.Follows s) :
    z.Follows (State.ringFault s r addr bonded) := by
  unfold State.ringFault
  repeat' (first | with_reducible assumption | with_reducible refine State.Follows.ite (fun _ => ?_) (fun _ => ?_) | with_reducible apply State.incSat_follows | with_reducible apply State.usageFault_follows | with_reducible apply State.setRingNote_follows | with_reducible apply Res.Follows.next | fail_if_no_progress with_reducible apply State.Follows.upd | split | trivial | intro _ | dsimp only)

theorem State.showCqFull_follows {z : State} {s : State} (e : Nat) (hs : z.Follows s) :
    z.Follows (State.showCqFull s e) := by
  unfold State.showCqFull
  repeat' (first | with_reducible assumption | with_reducible apply State.setFlag_follows | with_reducible apply Res.Follows.next | fail_if_no_progress with_reducible apply State.Follows.upd | split | trivial | intro _ | dsimp only)

theorem State.cqWrite_follows {z : State} {s : State} (e : Nat) (r : PostedRec) (hs : z.Follows s) :
    z.Follows (State.cqWrite s e r) := by
  unfold State.cqWrite
  repeat' (first | with_reducible assumption | with_reducible refine State.Follows.ite (fun _ => ?_) (fun _ => ?_) | with_reducible apply State.setFld_follows | with_reducible apply State.hostWrite_follows | with_reducible apply State.fireModerated_follows | with_reducible apply State.bondStore_follows | with_reducible apply State.showCqFull_follows | with_reducible apply Res.Follows.next | fail_if_no_progress with_reducible apply State.Follows.upd | split | trivial | intro _ | dsimp only)

theorem State.setUndelivered_follows {z : State} {s : State} (e : Nat) (l : List PostedRec) (hs : z.Follows s) :
    z.Follows (State.setUndelivered s e l) := by
  unfold State.setUndelivered
  repeat' (first | with_reducible assumption | with_reducible apply Res.Follows.next | fail_if_no_progress with_reducible apply State.Follows.upd | split | trivial | intro _ | dsimp only)

theorem deliverList_follows {z : State} (e : Nat) (x1 : List PostedRec) {s : State} (hs : z.Follows s) :
    z.Follows (deliverList e x1 s) := by
  induction x1 generalizing s with
  | nil => unfold deliverList; repeat' (first | with_reducible assumption | with_reducible refine State.Follows.ite (fun _ => ?_) (fun _ => ?_) | with_reducible apply State.setRingNote_follows | with_reducible apply State.ringFault_follows | with_reducible apply State.cqWrite_follows | with_reducible apply State.setUndelivered_follows | with_reducible apply ih | with_reducible apply Res.Follows.next | fail_if_no_progress with_reducible apply State.Follows.upd | (with_reducible refine State.Follows.of_snd (by with_reducible assumption) ?_) | (with_reducible refine State.Follows.of_fst (by with_reducible assumption) ?_) | (with_reducible refine State.Follows.of_trd (by with_reducible assumption) ?_) | split | trivial | intro _ | dsimp only)
  | cons a r ih => unfold deliverList; repeat' (first | with_reducible assumption | with_reducible refine State.Follows.ite (fun _ => ?_) (fun _ => ?_) | with_reducible apply State.setRingNote_follows | with_reducible apply State.ringFault_follows | with_reducible apply State.cqWrite_follows | with_reducible apply State.setUndelivered_follows | with_reducible apply ih | with_reducible apply Res.Follows.next | fail_if_no_progress with_reducible apply State.Follows.upd | (with_reducible refine State.Follows.of_snd (by with_reducible assumption) ?_) | (with_reducible refine State.Follows.of_fst (by with_reducible assumption) ?_) | (with_reducible refine State.Follows.of_trd (by with_reducible assumption) ?_) | split | trivial | intro _ | dsimp only)

theorem State.deliver_follows {z : State} {s : State} (e : Nat) (hs : z.Follows s) :
    z.Follows (State.deliver s e) := by
  unfold State.deliver
  repeat' (first | with_reducible assumption | with_reducible apply deliverList_follows | with_reducible apply Res.Follows.next | fail_if_no_progress with_reducible apply State.Follows.upd | split | trivial | intro _ | dsimp only)

theorem State.postRecord_follows {z : State} {s : State} (e : Nat) (kind : Nat) (rec : List Nat) (hs : z.Follows s) :
    z.Follows (State.postRecord s e kind rec) := by
  unfold State.postRecord
  repeat' (first | with_reducible assumption | with_reducible apply State.setUndelivered_follows | with_reducible apply State.deliver_follows | with_reducible apply Res.Follows.next | fail_if_no_progress with_reducible apply State.Follows.upd | split | trivial | intro _ | dsimp only)

theorem State.enroll_follows {z : State} {s : State} (e : Nat) (hs : z.Follows s) :
    z.Follows (State.enroll s e).2 := by
  unfold State.enroll
  repeat' (first | with_reducible assumption | with_reducible apply Res.Follows.next | fail_if_no_progress with_reducible apply State.Follows.upd | split | trivial | intro _ | dsimp only)

theorem State.stepBoundary_follows {z : State} {s : State} (e : Nat) (hs : z.Follows s) :
    z.Follows (State.stepBoundary s e) := by
  unfold State.stepBoundary
  repeat' (first | with_reducible assumption | with_reducible refine State.Follows.ite (fun _ => ?_) (fun _ => ?_) | with_reducible apply State.incWrap_follows | with_reducible apply State.shrinkEffect_follows | with_reducible apply Res.Follows.next | fail_if_no_progress with_reducible apply State.Follows.upd | split | trivial | intro _ | dsimp only)

theorem State.judgeBoundary_follows {z : State} {s : State} (e : Nat) (hs : z.Follows s) :
    z.Follows (State.judgeBoundary s e) := by
  unfold State.judgeBoundary
  repeat' (first | with_reducible assumption | with_reducible refine State.Follows.ite (fun _ => ?_) (fun _ => ?_) | with_reducible apply State.stepBoundary_follows | with_reducible apply Res.Follows.next | fail_if_no_progress with_reducible apply State.Follows.upd | split | trivial | intro _ | dsimp only)

theorem State.enrollRun_follows {z : State} {s : State} (e : Nat) (n : Nat) (hs : z.Follows s) :
    z.Follows (State.enrollRun s e n).2 := by
  unfold State.enrollRun
  repeat' (first | with_reducible assumption | with_reducible apply Res.Follows.next | fail_if_no_progress with_reducible apply State.Follows.upd | split | trivial | intro _ | dsimp only)

theorem State.passDesc_follows {z : State} {s : State} (e : Nat) (id : Nat) (last : Bool) (stepEnd : Bool) (hs : z.Follows s) :
    z.Follows (State.passDesc s e id last stepEnd) := by
  unfold State.passDesc
  repeat' (first | with_reducible assumption | with_reducible refine State.Follows.ite (fun _ => ?_) (fun _ => ?_) | with_reducible apply Res.Follows.next | fail_if_no_progress with_reducible apply State.Follows.upd | split | trivial | intro _ | dsimp only)

theorem State.dropRun_follows {z : State} {s : State} (e : Nat) (base : Nat) (n : Nat) (hs : z.Follows s) :
    z.Follows (State.dropRun s e base n) := by
  unfold State.dropRun
  repeat' (first | with_reducible assumption | with_reducible apply Res.Follows.next | fail_if_no_progress with_reducible apply State.Follows.upd | split | trivial | intro _ | dsimp only)

theorem State.retire_follows {z : State} {s : State} (e : Nat) (id : Nat) (stepEnd : Bool) (hs : z.Follows s) :
    z.Follows (State.retire s e id stepEnd) := by
  unfold State.retire
  repeat' (first | with_reducible assumption | with_reducible refine State.Follows.ite (fun _ => ?_) (fun _ => ?_) | with_reducible apply State.judgeBoundary_follows | with_reducible apply Res.Follows.next | fail_if_no_progress with_reducible apply State.Follows.upd | split | trivial | intro _ | dsimp only)

theorem State.showMoving_follows {z : State} {s : State} (hs : z.Follows s) :
    z.Follows (State.showMoving s) := by
  unfold State.showMoving
  repeat' (first | with_reducible assumption | with_reducible apply State.setFld_follows | with_reducible apply Res.Follows.next | fail_if_no_progress with_reducible apply State.Follows.upd | split | trivial | intro _ | dsimp only)

theorem State.setSem_follows {z : State} {s : State} (sem : Nat) (n : Nat) (hs : z.Follows s) :
    z.Follows (State.setSem s sem n) := by
  unfold State.setSem
  repeat' (first | with_reducible assumption | with_reducible apply State.setFld_follows | with_reducible apply Res.Follows.next | fail_if_no_progress with_reducible apply State.Follows.upd | split | trivial | intro _ | dsimp only)

theorem State.setWaiters_follows {z : State} {s : State} (sem : Nat) (l : List Waiter) (hs : z.Follows s) :
    z.Follows (State.setWaiters s sem l) := by
  unfold State.setWaiters
  repeat' (first | with_reducible assumption | with_reducible refine State.Follows.ite (fun _ => ?_) (fun _ => ?_) | with_reducible apply State.setFld_follows | with_reducible apply Res.Follows.next | fail_if_no_progress with_reducible apply State.Follows.upd | split | trivial | intro _ | dsimp only)

theorem State.makeReady_follows {z : State} {s : State} (n : Nat) (hs : z.Follows s) :
    z.Follows (State.makeReady s n) := by
  unfold State.makeReady
  repeat' (first | with_reducible assumption | with_reducible refine State.Follows.ite (fun _ => ?_) (fun _ => ?_) | with_reducible apply Res.Follows.next | fail_if_no_progress with_reducible apply State.Follows.upd | split | trivial | intro _ | dsimp only)

theorem State.grantTake_follows {z : State} {s : State} (w : Waiter) (hs : z.Follows s) :
    z.Follows (State.grantTake s w) := by
  unfold State.grantTake
  repeat' (first | with_reducible assumption | with_reducible apply State.makeReady_follows | with_reducible apply Res.Follows.next | fail_if_no_progress with_reducible apply State.Follows.upd | split | trivial | intro _ | dsimp only)

theorem State.useTake_follows {z : State} {s : State} (w : Waiter) (hs : z.Follows s) :
    z.Follows (State.useTake s w) := by
  unfold State.useTake
  repeat' (first | with_reducible assumption | with_reducible apply Res.Follows.next | fail_if_no_progress with_reducible apply State.Follows.upd | split | trivial | intro _ | dsimp only)

theorem State.dropTakes_follows {z : State} {s : State} (w : Waiter) (hs : z.Follows s) :
    z.Follows (State.dropTakes s w) := by
  unfold State.dropTakes
  repeat' (first | with_reducible assumption | with_reducible apply State.setWaiters_follows | with_reducible apply Res.Follows.next | fail_if_no_progress with_reducible apply State.Follows.upd | with_reducible apply foldl_follows | with_reducible apply foldl_fst_follows | with_reducible apply foldl_snd_follows | with_reducible apply foldl_trd_follows | split | trivial | intro _ | dsimp only)

theorem serveTakes_follows {z : State} (sem : Nat) (x1 : List Waiter) {s : State} (hs : z.Follows s) :
    z.Follows (serveTakes sem x1 s) := by
  induction x1 generalizing s with
  | nil => unfold serveTakes; repeat' (first | with_reducible assumption | with_reducible refine State.Follows.ite (fun _ => ?_) (fun _ => ?_) | with_reducible apply State.setSem_follows | with_reducible apply State.setWaiters_follows | with_reducible apply State.grantTake_follows | with_reducible apply ih | with_reducible apply Res.Follows.next | fail_if_no_progress with_reducible apply State.Follows.upd | (with_reducible refine State.Follows.of_snd (by with_reducible assumption) ?_) | (with_reducible refine State.Follows.of_fst (by with_reducible assumption) ?_) | (with_reducible refine State.Follows.of_trd (by with_reducible assumption) ?_) | split | trivial | intro _ | dsimp only)
  | cons a r ih => unfold serveTakes; repeat' (first | with_reducible assumption | with_reducible refine State.Follows.ite (fun _ => ?_) (fun _ => ?_) | with_reducible apply State.setSem_follows | with_reducible apply State.setWaiters_follows | with_reducible apply State.grantTake_follows | with_reducible apply ih | with_reducible apply Res.Follows.next | fail_if_no_progress with_reducible apply State.Follows.upd | (with_reducible refine State.Follows.of_snd (by with_reducible assumption) ?_) | (with_reducible refine State.Follows.of_fst (by with_reducible assumption) ?_) | (with_reducible refine State.Follows.of_trd (by with_reducible assumption) ?_) | split | trivial | intro _ | dsimp only)

theorem State.serveSem_follows {z : State} {s : State} (sem : Nat) (hs : z.Follows s) :
    z.Follows (State.serveSem s sem) := by
  unfold State.serveSem
  repeat' (first | with_reducible assumption | with_reducible apply serveTakes_follows | with_reducible apply Res.Follows.next | fail_if_no_progress with_reducible apply State.Follows.upd | split | trivial | intro _ | dsimp only)

theorem State.sendTake_follows {z : State} {s : State} (sem : Nat) (w : Waiter) (hs : z.Follows s) :
    z.Follows (State.sendTake s sem w) := by
  unfold State.sendTake
  repeat' (first | with_reducible assumption | with_reducible apply State.setWaiters_follows | with_reducible apply State.serveSem_follows | with_reducible apply Res.Follows.next | fail_if_no_progress with_reducible apply State.Follows.upd | split | trivial | intro _ | dsimp only)

theorem State.sendSignal_follows {z : State} {s : State} (sem : Nat) (hs : z.Follows s) :
    z.Follows (State.sendSignal s sem) := by
  unfold State.sendSignal
  repeat' (first | with_reducible assumption | with_reducible apply Res.Follows.next | fail_if_no_progress with_reducible apply State.Follows.upd | split | trivial | intro _ | dsimp only)

theorem State.landSignal_follows {z : State} {s : State} (sem : Nat) (hs : z.Follows s) :
    z.Follows (State.landSignal s sem) := by
  unfold State.landSignal
  repeat' (first | with_reducible assumption | with_reducible refine State.Follows.ite (fun _ => ?_) (fun _ => ?_) | with_reducible apply State.setFlag_follows | with_reducible apply State.usageFault_follows | with_reducible apply State.setSem_follows | with_reducible apply State.serveSem_follows | with_reducible apply Res.Follows.next | fail_if_no_progress with_reducible apply State.Follows.upd | split | trivial | intro _ | dsimp only)

end Sys2Proof.Machine
end

