-- ==== Sys2Proof/Laws/PaletteFollows.lean ====
section
/-! SUPPORT. Laws/PaletteFollows.lean: every operation of Machine/Palette.lean follows: what it does to the queue, the outputs, the draw counter and the invariant (Safety.lean). -/
set_option linter.unusedVariables false
set_option linter.unreachableTactic false
set_option linter.unusedTactic false
namespace Sys2Proof.Machine

open Sys2Proof

theorem State.noteRecs_follows {z : State} {s : State} (f : Nat) (v : PalQ) (hs : z.Follows s) :
    z.Follows (State.noteRecs s f v) := by
  unfold State.noteRecs
  repeat' (first | with_reducible assumption | with_reducible apply Res.Follows.next | fail_if_no_progress with_reducible apply State.Follows.upd | split | trivial | intro _ | dsimp only)

theorem State.setPal_follows {z : State} {s : State} (q : Nat) (v : PalQ) (hs : z.Follows s) :
    z.Follows (State.setPal s q v) := by
  unfold State.setPal
  repeat' (first | with_reducible assumption | with_reducible refine State.Follows.ite (fun _ => ?_) (fun _ => ?_) | with_reducible apply State.setFld_follows | with_reducible apply State.noteRecs_follows | with_reducible apply Res.Follows.next | fail_if_no_progress with_reducible apply State.Follows.upd | split | trivial | intro _ | dsimp only)

theorem State.palAppend_follows {z : State} {s : State} (q : Nat) (bs : List Nat) (hs : z.Follows s) :
    ∀ v, (State.palAppend s q bs) = some v → z.Follows v := by
  unfold State.palAppend
  intro v e
  revert e
  repeat' (first | split | dsimp only)
  all_goals intro e
  all_goals (first | (simp only [Option.some.injEq] at e; subst e) | (obtain ⟨_, _, rfl⟩ := Option.map_eq_some_iff.mp e) | exact absurd e (by simp))
  all_goals repeat' (first | with_reducible assumption | with_reducible refine State.Follows.ite (fun _ => ?_) (fun _ => ?_) | with_reducible apply State.setPal_follows | with_reducible apply Res.Follows.next | fail_if_no_progress with_reducible apply State.Follows.upd | split | trivial | intro _ | dsimp only)

theorem State.palWait_follows {z : State} {s : State} (q : Nat) (hs : z.Follows s) :
    z.Follows (State.palWait s q) := by
  unfold State.palWait
  repeat' (first | with_reducible assumption | with_reducible apply State.incSat_follows | with_reducible apply Res.Follows.next | fail_if_no_progress with_reducible apply State.Follows.upd | split | trivial | intro _ | dsimp only)

theorem State.palConsume_follows {z : State} {s : State} (q : Nat) (n : Nat) (hs : z.Follows s) :
    z.Follows (State.palConsume s q n) := by
  unfold State.palConsume
  repeat' (first | with_reducible assumption | with_reducible apply State.setPal_follows | with_reducible apply Res.Follows.next | fail_if_no_progress with_reducible apply State.Follows.upd | split | trivial | intro _ | dsimp only)

theorem State.palFill_follows {z : State} {s : State} (q : Nat) (pos : Nat) (bs : List Nat) (hs : z.Follows s) :
    z.Follows (State.palFill s q pos bs) := by
  unfold State.palFill
  repeat' (first | with_reducible assumption | with_reducible apply State.setPal_follows | with_reducible apply Res.Follows.next | fail_if_no_progress with_reducible apply State.Follows.upd | split | trivial | intro _ | dsimp only)

theorem State.palClear_follows {z : State} {s : State} (q : Nat) (hs : z.Follows s) :
    z.Follows (State.palClear s q) := by
  unfold State.palClear
  repeat' (first | with_reducible assumption | with_reducible apply State.setPal_follows | with_reducible apply Res.Follows.next | fail_if_no_progress with_reducible apply State.Follows.upd | split | trivial | intro _ | dsimp only)

theorem State.palEcc_follows {z : State} {s : State} (q : Nat) (code : Nat) (x : EccEvent) (hs : z.Follows s) :
    z.Follows (State.palEcc s q code x) := by
  unfold State.palEcc
  repeat' (first | with_reducible assumption | with_reducible refine State.Follows.ite (fun _ => ?_) (fun _ => ?_) | with_reducible apply State.incSat_follows | with_reducible apply State.detect_follows | with_reducible apply State.inject_follows | with_reducible apply State.setPal_follows | with_reducible apply Res.Follows.next | fail_if_no_progress with_reducible apply State.Follows.upd | (with_reducible refine State.Follows.of_snd (by with_reducible assumption) ?_) | (with_reducible refine State.Follows.of_fst (by with_reducible assumption) ?_) | (with_reducible refine State.Follows.of_trd (by with_reducible assumption) ?_) | split | trivial | intro _ | dsimp only)

end Sys2Proof.Machine
end

