-- ==== Sys2Proof/Laws/TCoreFollows.lean ====
section
/-! SUPPORT. Laws/TCoreFollows.lean: every operation of Machine/TCore.lean follows: what it does to the queue, the outputs, the draw counter and the invariant (Safety.lean). -/
set_option linter.unusedVariables false
set_option linter.unreachableTactic false
set_option linter.unusedTactic false
namespace Sys2Proof.Machine

open Sys2Proof

theorem State.setTcFault_follows {z : State} {s : State} (core : Nat) (hs : z.Follows s) :
    z.Follows (State.setTcFault s core) := by
  unfold State.setTcFault
  repeat' (first | with_reducible assumption | with_reducible refine State.Follows.ite (fun _ => ?_) (fun _ => ?_) | with_reducible apply State.orFld_follows | with_reducible apply Res.Follows.next | fail_if_no_progress with_reducible apply State.Follows.upd | split | trivial | intro _ | dsimp only)

theorem State.spErrLoc_follows {z : State} {s : State} (core : Nat) (e : Nat) (a : Nat) (ue : Bool) (hs : z.Follows s) :
    z.Follows (State.spErrLoc s core e a ue) := by
  unfold State.spErrLoc
  repeat' (first | with_reducible assumption | with_reducible apply State.setFld_follows | with_reducible apply State.setFlag_follows | with_reducible apply Res.Follows.next | fail_if_no_progress with_reducible apply State.Follows.upd | split | trivial | intro _ | dsimp only)

theorem State.spEcc_follows {z : State} {s : State} (core : Nat) (e : Nat) (code : Nat) (x : EccEvent) (hs : z.Follows s) :
    z.Follows (State.spEcc s core e code x) := by
  unfold State.spEcc
  repeat' (first | with_reducible assumption | with_reducible apply State.markPoison_follows | with_reducible apply State.incSat_follows | with_reducible apply State.detect_follows | with_reducible apply State.inject_follows | with_reducible apply State.setTcFault_follows | with_reducible apply State.spErrLoc_follows | with_reducible apply Res.Follows.next | fail_if_no_progress with_reducible apply State.Follows.upd | (with_reducible refine State.Follows.of_snd (by with_reducible assumption) ?_) | (with_reducible refine State.Follows.of_fst (by with_reducible assumption) ?_) | (with_reducible refine State.Follows.of_trd (by with_reducible assumption) ?_) | split | trivial | intro _ | dsimp only)

theorem State.spWatermark_follows {z : State} {s : State} (core : Nat) (e : Nat) (hs : z.Follows s) :
    z.Follows (State.spWatermark s core e) := by
  unfold State.spWatermark
  repeat' (first | with_reducible assumption | with_reducible apply State.setFld_follows | with_reducible apply Res.Follows.next | fail_if_no_progress with_reducible apply State.Follows.upd | split | trivial | intro _ | dsimp only)

theorem State.spStore_follows {z : State} {s : State} (core : Nat) (e : Nat) (a : Nat) (bs : List Nat) (hs : z.Follows s) :
    z.Follows (State.spStore s core e a bs) := by
  unfold State.spStore
  repeat' (first | with_reducible assumption | with_reducible apply State.storeRaw_follows | with_reducible apply State.setUsedRange_follows | with_reducible apply State.spWatermark_follows | with_reducible apply Res.Follows.next | fail_if_no_progress with_reducible apply State.Follows.upd | split | trivial | intro _ | dsimp only)

theorem State.spRelease_follows {z : State} {s : State} (core : Nat) (e : Nat) (base : Nat) (count : Nat) (hs : z.Follows s) :
    z.Follows (State.spRelease s core e base count) := by
  unfold State.spRelease
  repeat' (first | with_reducible assumption | with_reducible apply State.clearUsed_follows | with_reducible apply State.zeroBytes_follows | with_reducible apply State.spWatermark_follows | with_reducible apply Res.Follows.next | fail_if_no_progress with_reducible apply State.Follows.upd | split | trivial | intro _ | dsimp only)

theorem State.setTcBit_follows {z : State} {s : State} (lo : Fld) (hi : Fld) (core : Nat) (b : Bool) (hs : z.Follows s) :
    z.Follows (State.setTcBit s lo hi core b) := by
  unfold State.setTcBit
  repeat' (first | with_reducible assumption | with_reducible refine State.Follows.ite (fun _ => ?_) (fun _ => ?_) | with_reducible apply State.orFld_follows | with_reducible apply State.clrFld_follows | with_reducible apply Res.Follows.next | fail_if_no_progress with_reducible apply State.Follows.upd | split | trivial | intro _ | dsimp only)

theorem State.setTcore_follows {z : State} {s : State} (core : Nat) (e : Nat) (t : TcSt) (hs : z.Follows s) :
    z.Follows (State.setTcore s core e t) := by
  unfold State.setTcore
  repeat' (first | with_reducible assumption | with_reducible refine State.Follows.ite (fun _ => ?_) (fun _ => ?_) | with_reducible apply State.setFld_follows | with_reducible apply State.setTcBit_follows | with_reducible apply Res.Follows.next | fail_if_no_progress with_reducible apply State.Follows.upd | split | trivial | intro _ | dsimp only)

theorem State.tcShow_follows {z : State} {s : State} (core : Nat) (hs : z.Follows s) :
    z.Follows (State.tcShow s core) := by
  unfold State.tcShow
  repeat' (first | with_reducible assumption | with_reducible refine State.Follows.ite (fun _ => ?_) (fun _ => ?_) | with_reducible apply State.setFld_follows | with_reducible apply Res.Follows.next | fail_if_no_progress with_reducible apply State.Follows.upd | split | trivial | intro _ | dsimp only)

theorem State.tcTakes_follows {z : State} {s : State} (core : Nat) (hs : z.Follows s) :
    z.Follows (State.tcTakes s core) := by
  unfold State.tcTakes
  repeat' (first | with_reducible assumption | with_reducible apply forEach_follows | with_reducible apply State.sendTake_follows | with_reducible apply State.setTcore_follows | with_reducible apply Res.Follows.next | fail_if_no_progress with_reducible apply State.Follows.upd | split | trivial | intro _ | dsimp only)

theorem State.launch_follows {z : State} {s : State} (core : Nat) (c : Cmd) (ends : List GroupEnd) (hs : z.Follows s) :
    z.Follows (State.launch s core c ends) := by
  unfold State.launch
  repeat' (first | with_reducible assumption | with_reducible refine State.Follows.ite (fun _ => ?_) (fun _ => ?_) | with_reducible apply State.setFld_follows | with_reducible apply State.incWrap_follows | with_reducible apply State.useTake_follows | with_reducible apply State.setTcore_follows | with_reducible apply State.tcTakes_follows | with_reducible apply Res.Follows.next | fail_if_no_progress with_reducible apply State.Follows.upd | with_reducible apply foldl_follows | with_reducible apply foldl_fst_follows | with_reducible apply foldl_snd_follows | with_reducible apply foldl_trd_follows | split | trivial | intro _ | dsimp only)

theorem State.loadSet_follows {z : State} {s : State} (core : Nat) (c : Cmd) (a : Nat) (hs : z.Follows s) :
    z.Follows (State.loadSet s core c a) := by
  unfold State.loadSet
  repeat' (first | with_reducible assumption | with_reducible apply Res.Follows.next | fail_if_no_progress with_reducible apply State.Follows.upd | split | trivial | intro _ | dsimp only)

theorem State.dropSet_follows {z : State} {s : State} (core : Nat) (a : Nat) (hs : z.Follows s) :
    z.Follows (State.dropSet s core a) := by
  unfold State.dropSet
  repeat' (first | with_reducible assumption | with_reducible apply Res.Follows.next | fail_if_no_progress with_reducible apply State.Follows.upd | split | trivial | intro _ | dsimp only)

theorem State.loadWeights_follows {z : State} {s : State} (core : Nat) (c : Cmd) (hs : z.Follows s) :
    z.Follows (State.loadWeights s core c) := by
  unfold State.loadWeights
  repeat' (first | with_reducible assumption | with_reducible refine State.Follows.ite (fun _ => ?_) (fun _ => ?_) | with_reducible apply forEach_follows | with_reducible apply State.incWrap_follows | with_reducible apply State.loadSet_follows | with_reducible apply State.dropSet_follows | with_reducible apply Res.Follows.next | fail_if_no_progress with_reducible apply State.Follows.upd | split | trivial | intro _ | dsimp only)

theorem State.poisonRow_follows {z : State} {s : State} (core : Nat) (e : Nat) (base : Nat) (fmt : Nat) (n : Nat) (lo : Nat) (cnt : Nat) (hs : z.Follows s) :
    z.Follows (State.poisonRow s core e base fmt n lo cnt) := by
  unfold State.poisonRow
  repeat' (first | with_reducible assumption | with_reducible apply forEach_follows | with_reducible apply State.markPoisonRange_follows | with_reducible apply Res.Follows.next | fail_if_no_progress with_reducible apply State.Follows.upd | split | trivial | intro _ | dsimp only)

theorem State.writeRows_follows {z : State} {s : State} (core : Nat) (e : Nat) (rows : List (Nat × List Nat)) (hs : z.Follows s) :
    z.Follows (State.writeRows s core e rows) := by
  unfold State.writeRows
  repeat' (first | with_reducible assumption | with_reducible apply forEach_follows | with_reducible apply State.spStore_follows | with_reducible apply Res.Follows.next | fail_if_no_progress with_reducible apply State.Follows.upd | split | trivial | intro _ | dsimp only)

theorem State.spChecks_follows {z : State} {s : State} (core : Nat) (c : Cmd) (ecc : List EccEvent) (hs : z.Follows s) :
    z.Follows (State.spChecks s core c ecc) := by
  unfold State.spChecks
  repeat' (first | with_reducible assumption | with_reducible refine State.Follows.ite (fun _ => ?_) (fun _ => ?_) | with_reducible apply forEach_follows | with_reducible apply State.spEcc_follows | with_reducible apply Res.Follows.next | fail_if_no_progress with_reducible apply State.Follows.upd | split | trivial | intro _ | dsimp only)

theorem State.arrayChecks_follows {z : State} {s : State} (core : Nat) (c : Cmd) (faults : List (Nat × Nat)) (hs : z.Follows s) :
    z.Follows (State.arrayChecks s core c faults).2.2 := by
  unfold State.arrayChecks
  repeat' (first | with_reducible assumption | with_reducible apply State.inject_follows | with_reducible apply Res.Follows.next | fail_if_no_progress with_reducible apply State.Follows.upd | (with_reducible refine State.Follows.of_snd (by with_reducible assumption) ?_) | (with_reducible refine State.Follows.of_fst (by with_reducible assumption) ?_) | (with_reducible refine State.Follows.of_trd (by with_reducible assumption) ?_) | split | trivial | intro _ | dsimp only)

theorem State.reportArrays_follows {z : State} {s : State} (core : Nat) (c : Cmd) (bad : List (Nat × Nat)) (injected : Bool) (hs : z.Follows s) :
    z.Follows (State.reportArrays s core c bad injected) := by
  unfold State.reportArrays
  repeat' (first | with_reducible assumption | with_reducible apply State.detect_follows | with_reducible apply State.setTcFault_follows | with_reducible apply Res.Follows.next | fail_if_no_progress with_reducible apply State.Follows.upd | with_reducible apply foldl_follows | with_reducible apply foldl_fst_follows | with_reducible apply foldl_snd_follows | with_reducible apply foldl_trd_follows | split | trivial | intro _ | dsimp only)

theorem State.reportPoison_follows {z : State} {s : State} (core : Nat) (c : Cmd) (hs : z.Follows s) :
    z.Follows (State.reportPoison s core c) := by
  unfold State.reportPoison
  repeat' (first | with_reducible assumption | with_reducible apply State.detect_follows | with_reducible apply State.setTcFault_follows | with_reducible apply Res.Follows.next | fail_if_no_progress with_reducible apply State.Follows.upd | split | trivial | intro _ | dsimp only)

theorem State.poisonGroup_follows {z : State} {s : State} (core : Nat) (c : Cmd) (g : Nat) (arrays : Nat) (hs : z.Follows s) :
    z.Follows (State.poisonGroup s core c g arrays) := by
  unfold State.poisonGroup
  repeat' (first | with_reducible assumption | with_reducible apply forUpto_follows | with_reducible apply forEach_follows | with_reducible apply State.poisonRow_follows | with_reducible apply Res.Follows.next | fail_if_no_progress with_reducible apply State.Follows.upd | split | trivial | intro _ | dsimp only)

theorem State.runMatmul_follows {z : State} {s : State} (core : Nat) (c : Cmd) (faults : List (Nat × Nat)) (ecc : List EccEvent) (hs : z.Follows s) :
    z.Follows (State.runMatmul s core c faults ecc) := by
  unfold State.runMatmul
  repeat' (first | with_reducible assumption | with_reducible refine State.Follows.ite (fun _ => ?_) (fun _ => ?_) | with_reducible apply forEach_follows | with_reducible apply State.launch_follows | with_reducible apply State.loadWeights_follows | with_reducible apply State.spChecks_follows | with_reducible apply State.arrayChecks_follows | with_reducible apply State.reportArrays_follows | with_reducible apply State.reportPoison_follows | with_reducible apply Res.Follows.next | fail_if_no_progress with_reducible apply State.Follows.upd | (with_reducible refine State.Follows.of_snd (by with_reducible assumption) ?_) | (with_reducible refine State.Follows.of_fst (by with_reducible assumption) ?_) | (with_reducible refine State.Follows.of_trd (by with_reducible assumption) ?_) | split | trivial | intro _ | dsimp only)

theorem State.launchOp_follows {z : State} {s : State} (core : Nat) (op : Nat) (run : State → Cmd → State) (runF : ∀ a0 a1, z.Follows a0 → z.Follows (run a0 a1)) (hs : z.Follows s) :
    z.Follows (State.launchOp s core op run) := by
  unfold State.launchOp
  repeat' (first | with_reducible assumption | with_reducible refine State.Follows.ite (fun _ => ?_) (fun _ => ?_) | with_reducible apply State.usageFault_follows | with_reducible apply State.launch_follows | with_reducible apply runF | with_reducible apply Res.Follows.next | fail_if_no_progress with_reducible apply State.Follows.upd | (with_reducible refine State.Follows.of_snd (by with_reducible assumption) ?_) | (with_reducible refine State.Follows.of_fst (by with_reducible assumption) ?_) | (with_reducible refine State.Follows.of_trd (by with_reducible assumption) ?_) | split | trivial | intro _ | dsimp only)

theorem State.runElemwise_follows {z : State} {s : State} (core : Nat) (c : Cmd) (faults : List (Nat × Nat)) (ecc : List EccEvent) (hs : z.Follows s) :
    z.Follows (State.runElemwise s core c faults ecc) := by
  unfold State.runElemwise
  repeat' (first | with_reducible assumption | with_reducible refine State.Follows.ite (fun _ => ?_) (fun _ => ?_) | with_reducible apply State.launch_follows | with_reducible apply State.spChecks_follows | with_reducible apply State.arrayChecks_follows | with_reducible apply State.reportArrays_follows | with_reducible apply State.reportPoison_follows | with_reducible apply Res.Follows.next | fail_if_no_progress with_reducible apply State.Follows.upd | (with_reducible refine State.Follows.of_snd (by with_reducible assumption) ?_) | (with_reducible refine State.Follows.of_fst (by with_reducible assumption) ?_) | (with_reducible refine State.Follows.of_trd (by with_reducible assumption) ?_) | split | trivial | intro _ | dsimp only)

theorem State.tcOutputs_follows {z : State} {s : State} (core : Nat) (c : Cmd) (e : GroupEnd) (hs : z.Follows s) :
    z.Follows (State.tcOutputs s core c e) := by
  unfold State.tcOutputs
  repeat' (first | with_reducible assumption | with_reducible refine State.Follows.ite (fun _ => ?_) (fun _ => ?_) | with_reducible apply forEach_follows | with_reducible apply State.poisonRow_follows | with_reducible apply State.writeRows_follows | with_reducible apply State.poisonGroup_follows | with_reducible apply Res.Follows.next | fail_if_no_progress with_reducible apply State.Follows.upd | split | trivial | intro _ | dsimp only)

theorem State.tcError_follows {z : State} {s : State} (core : Nat) (c : Cmd) (e : GroupEnd) (hs : z.Follows s) :
    z.Follows (State.tcError s core c e) := by
  unfold State.tcError
  repeat' (first | with_reducible assumption | with_reducible refine State.Follows.ite (fun _ => ?_) (fun _ => ?_) | with_reducible apply State.setFld_follows | with_reducible apply State.incSat_follows | with_reducible apply Res.Follows.next | fail_if_no_progress with_reducible apply State.Follows.upd | split | trivial | intro _ | dsimp only)

theorem State.tcPost_follows {z : State} {s : State} (core : Nat) (c : Cmd) (e : GroupEnd) (cycles : Nat) (hs : z.Follows s) :
    z.Follows (State.tcPost s core c e cycles) := by
  unfold State.tcPost
  repeat' (first | with_reducible assumption | with_reducible refine State.Follows.ite (fun _ => ?_) (fun _ => ?_) | with_reducible apply State.postRecord_follows | with_reducible apply State.tcError_follows | with_reducible apply Res.Follows.next | fail_if_no_progress with_reducible apply State.Follows.upd | split | trivial | intro _ | dsimp only)

theorem State.tcRetire_follows {z : State} {s : State} (core : Nat) (c : Cmd) (e : GroupEnd) (cycles : Nat) (hs : z.Follows s) :
    z.Follows (State.tcRetire s core c e cycles) := by
  unfold State.tcRetire
  repeat' (first | with_reducible assumption | with_reducible refine State.Follows.ite (fun _ => ?_) (fun _ => ?_) | with_reducible apply State.incWrap_follows | with_reducible apply State.retire_follows | with_reducible apply State.showMoving_follows | with_reducible apply State.sendSignal_follows | with_reducible apply State.setTcore_follows | with_reducible apply State.tcPost_follows | with_reducible apply Res.Follows.next | fail_if_no_progress with_reducible apply State.Follows.upd | split | trivial | intro _ | dsimp only)

theorem State.tcFinish_follows {z : State} {s : State} (core : Nat) (id : Nat) (group : Nat) (cycles : Nat) (hs : z.Follows s) :
    z.Follows (State.tcFinish s core id group cycles) := by
  unfold State.tcFinish
  repeat' (first | with_reducible assumption | with_reducible refine State.Follows.ite (fun _ => ?_) (fun _ => ?_) | with_reducible apply State.incWrap_follows | with_reducible apply State.setTcore_follows | with_reducible apply State.tcOutputs_follows | with_reducible apply State.tcPost_follows | with_reducible apply State.tcRetire_follows | with_reducible apply Res.Follows.next | fail_if_no_progress with_reducible apply State.Follows.upd | split | trivial | intro _ | dsimp only)

theorem State.launchBad_follows {z : State} {s : State} (core : Nat) (id : Nat) (hs : z.Follows s) :
    z.Follows (State.launchBad s core id) := by
  unfold State.launchBad
  repeat' (first | with_reducible assumption | with_reducible apply State.launch_follows | with_reducible apply Res.Follows.next | fail_if_no_progress with_reducible apply State.Follows.upd | split | trivial | intro _ | dsimp only)

theorem execTcMatmul_follows {z : State} (core : Fin 48) (faults : List (Fin 4 × Fin 4)) (ecc : List EccEvent) {s : State} (hs : z.Follows s) :
    Res.Follows z (execTcMatmul core faults ecc s) := by
  unfold execTcMatmul
  repeat' (first | with_reducible assumption | with_reducible apply State.runMatmul_follows | with_reducible apply State.launchOp_follows | with_reducible apply Res.Follows.next | fail_if_no_progress with_reducible apply State.Follows.upd | split | trivial | intro _ | dsimp only)

theorem execTcElemwise_follows {z : State} (core : Fin 48) (faults : List (Fin 4 × Fin 4)) (ecc : List EccEvent) {s : State} (hs : z.Follows s) :
    Res.Follows z (execTcElemwise core faults ecc s) := by
  unfold execTcElemwise
  repeat' (first | with_reducible assumption | with_reducible apply State.launchOp_follows | with_reducible apply State.runElemwise_follows | with_reducible apply Res.Follows.next | fail_if_no_progress with_reducible apply State.Follows.upd | split | trivial | intro _ | dsimp only)

theorem execTcRelease_follows {z : State} (core : Fin 48) {s : State} (hs : z.Follows s) :
    Res.Follows z (execTcRelease core s) := by
  unfold execTcRelease
  repeat' (first | with_reducible assumption | with_reducible apply State.spRelease_follows | with_reducible apply State.launch_follows | with_reducible apply State.launchOp_follows | with_reducible apply Res.Follows.next | fail_if_no_progress with_reducible apply State.Follows.upd | split | trivial | intro _ | dsimp only)

theorem execTcMark_follows {z : State} (core : Fin 48) {s : State} (hs : z.Follows s) :
    Res.Follows z (execTcMark core s) := by
  unfold execTcMark
  repeat' (first | with_reducible assumption | with_reducible apply State.launch_follows | with_reducible apply State.launchOp_follows | with_reducible apply Res.Follows.next | fail_if_no_progress with_reducible apply State.Follows.upd | split | trivial | intro _ | dsimp only)

theorem State.runPreload_follows {z : State} {s : State} (core : Nat) (c : Cmd) (ecc : List EccEvent) (hs : z.Follows s) :
    z.Follows (State.runPreload s core c ecc) := by
  unfold State.runPreload
  repeat' (first | with_reducible assumption | with_reducible refine State.Follows.ite (fun _ => ?_) (fun _ => ?_) | with_reducible apply forEach_follows | with_reducible apply State.launch_follows | with_reducible apply State.loadSet_follows | with_reducible apply State.spChecks_follows | with_reducible apply State.reportPoison_follows | with_reducible apply Res.Follows.next | fail_if_no_progress with_reducible apply State.Follows.upd | split | trivial | intro _ | dsimp only)

theorem execTcPreload_follows {z : State} (core : Fin 48) (ecc : List EccEvent) {s : State} (hs : z.Follows s) :
    Res.Follows z (execTcPreload core ecc s) := by
  unfold execTcPreload
  repeat' (first | with_reducible assumption | with_reducible apply State.launchOp_follows | with_reducible apply State.runPreload_follows | with_reducible apply Res.Follows.next | fail_if_no_progress with_reducible apply State.Follows.upd | split | trivial | intro _ | dsimp only)

end Sys2Proof.Machine
end

