-- ==== Sys2Proof/Laws/SpacesFollows.lean ====
section
/-! SUPPORT. Laws/SpacesFollows.lean: every operation of Machine/Spaces.lean follows: what it does to the queue, the outputs, the draw counter and the invariant (Safety.lean). -/
set_option linter.unusedVariables false
set_option linter.unreachableTactic false
set_option linter.unusedTactic false
namespace Sys2Proof.Machine

open Sys2Proof

theorem State.setScBit_follows {z : State} {s : State} (f : Nat → Fld) (core : Nat) (b : Bool) (hs : z.Follows s) :
    z.Follows (State.setScBit s f core b) := by
  unfold State.setScBit
  repeat' (first | with_reducible assumption | with_reducible refine State.Follows.ite (fun _ => ?_) (fun _ => ?_) | with_reducible apply State.orFld_follows | with_reducible apply State.clrFld_follows | with_reducible apply Res.Follows.next | fail_if_no_progress with_reducible apply State.Follows.upd | split | trivial | intro _ | dsimp only)

theorem State.scWatermark_follows {z : State} {s : State} (core : Nat) (e : Nat) (hs : z.Follows s) :
    z.Follows (State.scWatermark s core e) := by
  unfold State.scWatermark
  repeat' (first | with_reducible assumption | with_reducible apply State.setFld_follows | with_reducible apply Res.Follows.next | fail_if_no_progress with_reducible apply State.Follows.upd | split | trivial | intro _ | dsimp only)

theorem State.dmemStore_follows {z : State} {s : State} (core : Nat) (e : Nat) (a : Nat) (bs : List Nat) (hs : z.Follows s) :
    z.Follows (State.dmemStore s core e a bs) := by
  unfold State.dmemStore
  repeat' (first | with_reducible assumption | with_reducible apply State.storeRaw_follows | with_reducible apply State.setUsedRange_follows | with_reducible apply State.scWatermark_follows | with_reducible apply Res.Follows.next | fail_if_no_progress with_reducible apply State.Follows.upd | split | trivial | intro _ | dsimp only)

theorem State.pmemStore_follows {z : State} {s : State} (core : Nat) (e : Nat) (a : Nat) (bs : List Nat) (hs : z.Follows s) :
    z.Follows (State.pmemStore s core e a bs) := by
  unfold State.pmemStore
  repeat' (first | with_reducible assumption | with_reducible apply State.storeRaw_follows | with_reducible apply State.setUsedRange_follows | with_reducible apply State.scWatermark_follows | with_reducible apply Res.Follows.next | fail_if_no_progress with_reducible apply State.Follows.upd | split | trivial | intro _ | dsimp only)

theorem State.dmemEcc_follows {z : State} {s : State} (core : Nat) (e : Nat) (code : Nat) (x : EccEvent) (hs : z.Follows s) :
    z.Follows (State.dmemEcc s core e code x) := by
  unfold State.dmemEcc
  repeat' (first | with_reducible assumption | with_reducible apply State.markPoison_follows | with_reducible apply State.incSat_follows | with_reducible apply State.detect_follows | with_reducible apply State.inject_follows | with_reducible apply State.setScBit_follows | with_reducible apply Res.Follows.next | fail_if_no_progress with_reducible apply State.Follows.upd | (with_reducible refine State.Follows.of_snd (by with_reducible assumption) ?_) | (with_reducible refine State.Follows.of_fst (by with_reducible assumption) ?_) | (with_reducible refine State.Follows.of_trd (by with_reducible assumption) ?_) | split | trivial | intro _ | dsimp only)

theorem State.layPoison_follows {z : State} {s : State} (k : Nat) (bs : List Nat) (hs : z.Follows s) :
    z.Follows (State.layPoison s k bs) := by
  unfold State.layPoison
  repeat' (first | with_reducible assumption | with_reducible apply State.markPoison_follows | with_reducible apply forEach_follows | with_reducible apply Res.Follows.next | fail_if_no_progress with_reducible apply State.Follows.upd | split | trivial | intro _ | dsimp only)

theorem State.refuseXlate_follows {z : State} {s : State} (e : Nat) (unitKind : Nat) (unit : Nat) (hs : z.Follows s) :
    z.Follows (State.refuseXlate s e unitKind unit) := by
  unfold State.refuseXlate
  repeat' (first | with_reducible assumption | with_reducible apply State.incSat_follows | with_reducible apply State.usageFault_follows | with_reducible apply Res.Follows.next | fail_if_no_progress with_reducible apply State.Follows.upd | split | trivial | intro _ | dsimp only)

theorem State.spRead_follows {z : State} {s : State} (r : Reader) (e : Nat) (p : Place) (host : List Nat) (ecc : Option EccEvent) (hs : z.Follows s) :
    z.Follows (State.spRead s r e p host ecc).st := by
  unfold State.spRead
  repeat' (first | with_reducible assumption | with_reducible refine State.Follows.ite (fun _ => ?_) (fun _ => ?_) | with_reducible apply State.countUnits_follows | with_reducible apply State.bondLoad_follows | with_reducible apply State.spEcc_follows | with_reducible apply State.dmemEcc_follows | with_reducible apply State.refuseXlate_follows | with_reducible apply Res.Follows.next | fail_if_no_progress with_reducible apply State.Follows.upd | split | trivial | intro _ | dsimp only)

theorem State.spWrite_follows {z : State} {s : State} (e : Nat) (p : Place) (bs : List Nat) (hs : z.Follows s) :
    z.Follows (State.spWrite s e p bs).st := by
  unfold State.spWrite
  repeat' (first | with_reducible assumption | with_reducible refine State.Follows.ite (fun _ => ?_) (fun _ => ?_) | with_reducible apply State.hostWrite_follows | with_reducible apply State.bondStore_follows | with_reducible apply State.spStore_follows | with_reducible apply State.dmemStore_follows | with_reducible apply State.layPoison_follows | with_reducible apply State.refuseXlate_follows | with_reducible apply Res.Follows.next | fail_if_no_progress with_reducible apply State.Follows.upd | split | trivial | intro _ | dsimp only)

end Sys2Proof.Machine
end

