-- ==== Sys2Proof/Laws/YzBaseFollows.lean ====
section
/-! SUPPORT. Laws/YzBaseFollows.lean: every operation of Machine/YzBase.lean follows: what it does to the queue, the outputs, the draw counter and the invariant (Safety.lean). -/
set_option linter.unusedVariables false
set_option linter.unreachableTactic false
set_option linter.unusedTactic false
namespace Sys2Proof.Machine

open Sys2Proof

theorem State.setConn_follows {z : State} {s : State} (slot : Nat) (rank : Nat) (c : YzConn) (hs : z.Follows s) :
    z.Follows (State.setConn s slot rank c) := by
  unfold State.setConn
  repeat' (first | with_reducible assumption | with_reducible apply Res.Follows.next | fail_if_no_progress with_reducible apply State.Follows.upd | split | trivial | intro _ | dsimp only)

theorem State.wakeLink_follows {z : State} {s : State} (l : Nat) (hs : z.Follows s) :
    z.Follows (State.wakeLink s l) := by
  unfold State.wakeLink
  repeat' (first | with_reducible assumption | with_reducible refine State.Follows.ite (fun _ => ?_) (fun _ => ?_) | with_reducible apply Res.Follows.next | fail_if_no_progress with_reducible apply State.Follows.upd | split | trivial | intro _ | dsimp only)

theorem State.setYzWaits_follows {z : State} {s : State} (path : Nat) (l : List YzWait) (hs : z.Follows s) :
    z.Follows (State.setYzWaits s path l) := by
  unfold State.setYzWaits
  repeat' (first | with_reducible assumption | with_reducible apply Res.Follows.next | fail_if_no_progress with_reducible apply State.Follows.upd | split | trivial | intro _ | dsimp only)

theorem State.yzEmit_follows {z : State} {s0 : State} (path : Nat) (easel : Nat) (p : YzPkt) (hs0 : z.Follows s0) :
    z.Follows (State.yzEmit s0 path easel p) := by
  unfold State.yzEmit
  repeat' (first | with_reducible assumption | with_reducible refine State.Follows.ite (fun _ => ?_) (fun _ => ?_) | with_reducible apply State.wakeLink_follows | with_reducible apply State.setYzWaits_follows | with_reducible apply Res.Follows.next | fail_if_no_progress with_reducible apply State.Follows.upd | split | trivial | intro _ | dsimp only)

theorem State.yzDepart_follows {z : State} {s0 : State} (path : Nat) (w : YzWait) (hs0 : z.Follows s0) :
    z.Follows (State.yzDepart s0 path w) := by
  unfold State.yzDepart
  repeat' (first | with_reducible assumption | with_reducible refine State.Follows.ite (fun _ => ?_) (fun _ => ?_) | with_reducible apply State.emit_follows | with_reducible apply State.countUnits_follows | with_reducible apply Res.Follows.next | fail_if_no_progress with_reducible apply State.Follows.upd | split | trivial | intro _ | dsimp only)

theorem State.unwait_follows {z : State} {s : State} (x : YzTx) (hs : z.Follows s) :
    z.Follows (State.unwait s x) := by
  unfold State.unwait
  repeat' (first | with_reducible assumption | with_reducible apply State.setYzWaits_follows | with_reducible apply Res.Follows.next | fail_if_no_progress with_reducible apply State.Follows.upd | split | trivial | intro _ | dsimp only)

theorem State.yzPut_follows {z : State} {s0 : State} (slot : Nat) (rank : Nat) (x : YzTx) (hs0 : z.Follows s0) :
    z.Follows (State.yzPut s0 slot rank x) := by
  unfold State.yzPut
  repeat' (first | with_reducible assumption | with_reducible refine State.Follows.ite (fun _ => ?_) (fun _ => ?_) | with_reducible apply State.setConn_follows | with_reducible apply State.yzEmit_follows | with_reducible apply State.unwait_follows | with_reducible apply Res.Follows.next | fail_if_no_progress with_reducible apply State.Follows.upd | split | trivial | intro _ | dsimp only)

theorem State.yzPump_follows {z : State} {s : State} (slot : Nat) (rank : Nat) (x1 : Nat) (hs : z.Follows s) :
    z.Follows (State.yzPump s slot rank x1) := by
  induction x1 generalizing s with
  | zero => unfold State.yzPump; repeat' (first | with_reducible assumption | with_reducible refine State.Follows.ite (fun _ => ?_) (fun _ => ?_) | with_reducible apply State.setConn_follows | with_reducible apply State.yzPut_follows | with_reducible apply ih | with_reducible apply Res.Follows.next | fail_if_no_progress with_reducible apply State.Follows.upd | (with_reducible refine State.Follows.of_snd (by with_reducible assumption) ?_) | (with_reducible refine State.Follows.of_fst (by with_reducible assumption) ?_) | (with_reducible refine State.Follows.of_trd (by with_reducible assumption) ?_) | split | trivial | intro _ | dsimp only)
  | succ n ih => unfold State.yzPump; repeat' (first | with_reducible assumption | with_reducible refine State.Follows.ite (fun _ => ?_) (fun _ => ?_) | with_reducible apply State.setConn_follows | with_reducible apply State.yzPut_follows | with_reducible apply ih | with_reducible apply Res.Follows.next | fail_if_no_progress with_reducible apply State.Follows.upd | (with_reducible refine State.Follows.of_snd (by with_reducible assumption) ?_) | (with_reducible refine State.Follows.of_fst (by with_reducible assumption) ?_) | (with_reducible refine State.Follows.of_trd (by with_reducible assumption) ?_) | split | trivial | intro _ | dsimp only)

theorem State.yzKick_follows {z : State} {s : State} (slot : Nat) (rank : Nat) (hs : z.Follows s) :
    z.Follows (State.yzKick s slot rank) := by
  unfold State.yzKick
  repeat' (first | with_reducible assumption | with_reducible apply State.yzPump_follows | with_reducible apply Res.Follows.next | fail_if_no_progress with_reducible apply State.Follows.upd | split | trivial | intro _ | dsimp only)

theorem State.yzQueue_follows {z : State} {s : State} (slot : Nat) (rank : Nat) (type : Nat) (easel : Nat) (stream : Option (Nat × Nat)) (recs : List YzRec) (hs : z.Follows s) :
    z.Follows (State.yzQueue s slot rank type easel stream recs) := by
  unfold State.yzQueue
  repeat' (first | with_reducible assumption | with_reducible apply State.setConn_follows | with_reducible apply State.yzKick_follows | with_reducible apply Res.Follows.next | fail_if_no_progress with_reducible apply State.Follows.upd | split | trivial | intro _ | dsimp only)

theorem State.yzReroute_follows {z : State} {s0 : State} (path : Nat) (hs0 : z.Follows s0) :
    z.Follows (State.yzReroute s0 path) := by
  unfold State.yzReroute
  repeat' (first | with_reducible assumption | with_reducible apply forEach_follows | with_reducible apply State.setYzWaits_follows | with_reducible apply State.yzPut_follows | with_reducible apply Res.Follows.next | fail_if_no_progress with_reducible apply State.Follows.upd | split | trivial | intro _ | dsimp only)

theorem State.yzKickAll_follows {z : State} {s : State} (hs : z.Follows s) :
    z.Follows (State.yzKickAll s) := by
  unfold State.yzKickAll
  repeat' (first | with_reducible assumption | with_reducible apply forEach_follows | with_reducible apply State.yzKick_follows | with_reducible apply Res.Follows.next | fail_if_no_progress with_reducible apply State.Follows.upd | split | trivial | intro _ | dsimp only)

theorem State.yzFlush_follows {z : State} {s : State} (hs : z.Follows s) :
    z.Follows (State.yzFlush s) := by
  unfold State.yzFlush
  repeat' (first | with_reducible assumption | with_reducible refine State.Follows.ite (fun _ => ?_) (fun _ => ?_) | with_reducible apply forEach_follows | with_reducible apply State.yzQueue_follows | with_reducible apply Res.Follows.next | fail_if_no_progress with_reducible apply State.Follows.upd | with_reducible apply foldl_follows | with_reducible apply foldl_fst_follows | with_reducible apply foldl_snd_follows | with_reducible apply foldl_trd_follows | split | trivial | intro _ | dsimp only)

theorem State.yzIssue_follows {z : State} {s : State} (e : Nat) (owner : YzOwner) (slot : Nat) (rank : Nat) (r : YzRec) (dest : List Place) (mcast : Bool) (hs : z.Follows s) :
    z.Follows (State.yzIssue s e owner slot rank r dest mcast) := by
  unfold State.yzIssue
  repeat' (first | with_reducible assumption | with_reducible apply State.incWrap_follows | with_reducible apply Res.Follows.next | fail_if_no_progress with_reducible apply State.Follows.upd | split | trivial | intro _ | dsimp only)

theorem State.yzDead_follows {z : State} {s : State} (e : Nat) (slot : Nat) (rank : Nat) (unitKind : Nat) (unit : Nat) (injected : Bool := false) (hs : z.Follows s) :
    z.Follows (State.yzDead s e slot rank unitKind unit injected) := by
  unfold State.yzDead
  repeat' (first | with_reducible assumption | with_reducible apply State.incSat_follows | with_reducible apply State.detect_follows | with_reducible apply Res.Follows.next | fail_if_no_progress with_reducible apply State.Follows.upd | split | trivial | intro _ | dsimp only)

theorem State.refuseUnderpaint_follows {z : State} {s : State} (e : Nat) (hs : z.Follows s) :
    z.Follows (State.refuseUnderpaint s e) := by
  unfold State.refuseUnderpaint
  repeat' (first | with_reducible assumption | with_reducible apply State.incSat_follows | with_reducible apply Res.Follows.next | fail_if_no_progress with_reducible apply State.Follows.upd | split | trivial | intro _ | dsimp only)

theorem State.yzServe_follows {z : State} {s : State} (slot : Nat) (r : YzRec) (ecc : Option EccEvent) (hs : z.Follows s) :
    z.Follows (State.yzServe s slot r ecc).st := by
  unfold State.yzServe
  repeat' (first | with_reducible assumption | with_reducible refine State.Follows.ite (fun _ => ?_) (fun _ => ?_) | with_reducible apply State.incSat_follows | with_reducible apply State.bondLoad_follows | with_reducible apply State.bondStore_follows | with_reducible apply State.bondAtomic_follows | with_reducible apply State.refuseUnderpaint_follows | with_reducible apply Res.Follows.next | fail_if_no_progress with_reducible apply State.Follows.upd | split | trivial | intro _ | dsimp only)

end Sys2Proof.Machine
end

