-- ==== Sys2Proof/Laws/EthBaseFollows.lean ====
section
/-! SUPPORT. Laws/EthBaseFollows.lean: every operation of Machine/EthBase.lean follows: what it does to the queue, the outputs, the draw counter and the invariant (Safety.lean). -/
set_option linter.unusedVariables false
set_option linter.unreachableTactic false
set_option linter.unusedTactic false
namespace Sys2Proof.Machine

open Sys2Proof

theorem State.flowCounts_follows {z : State} {s : State} (f : Nat) (add : Bool) (hs : z.Follows s) :
    z.Follows (State.flowCounts s f add) := by
  unfold State.flowCounts
  repeat' (first | with_reducible assumption | with_reducible refine State.Follows.ite (fun _ => ?_) (fun _ => ?_) | with_reducible apply State.setFld_follows | with_reducible apply Res.Follows.next | fail_if_no_progress with_reducible apply State.Follows.upd | split | trivial | intro _ | dsimp only)

theorem State.setFlowRegs_follows {z : State} {s : State} (f : Nat) (d : List Nat) (hs : z.Follows s) :
    z.Follows (State.setFlowRegs s f d) := by
  unfold State.setFlowRegs
  repeat' (first | with_reducible assumption | with_reducible apply State.setFld_follows | with_reducible apply Res.Follows.next | fail_if_no_progress with_reducible apply State.Follows.upd | split | trivial | intro _ | dsimp only)

theorem State.clearFlow_follows {z : State} {s : State} (f : Nat) (hs : z.Follows s) :
    z.Follows (State.clearFlow s f) := by
  unfold State.clearFlow
  repeat' (first | with_reducible assumption | with_reducible apply State.setReg_follows | with_reducible apply forUpto_follows | with_reducible apply State.setFld_follows | with_reducible apply Res.Follows.next | fail_if_no_progress with_reducible apply State.Follows.upd | split | trivial | intro _ | dsimp only)

theorem State.showFlows_follows {z : State} {s : State} (hs : z.Follows s) :
    z.Follows (State.showFlows s) := by
  unfold State.showFlows
  repeat' (first | with_reducible assumption | with_reducible apply State.setFld_follows | with_reducible apply Res.Follows.next | fail_if_no_progress with_reducible apply State.Follows.upd | split | trivial | intro _ | dsimp only)

theorem State.freeFlow_follows {z : State} {s : State} (f : Nat) (hs : z.Follows s) :
    z.Follows (State.freeFlow s f) := by
  unfold State.freeFlow
  repeat' (first | with_reducible assumption | with_reducible refine State.Follows.ite (fun _ => ?_) (fun _ => ?_) | with_reducible apply State.palClear_follows | with_reducible apply State.flowCounts_follows | with_reducible apply State.setFlowRegs_follows | with_reducible apply State.clearFlow_follows | with_reducible apply Res.Follows.next | fail_if_no_progress with_reducible apply State.Follows.upd | split | trivial | intro _ | dsimp only)

theorem State.loadFlow_follows {z : State} {s : State} (f : Nat) (d : List Nat) (hs : z.Follows s) :
    z.Follows (State.loadFlow s f d) := by
  unfold State.loadFlow
  repeat' (first | with_reducible assumption | with_reducible refine State.Follows.ite (fun _ => ?_) (fun _ => ?_) | with_reducible apply State.flowCounts_follows | with_reducible apply State.setFlowRegs_follows | with_reducible apply State.clearFlow_follows | with_reducible apply State.showFlows_follows | with_reducible apply State.freeFlow_follows | with_reducible apply Res.Follows.next | fail_if_no_progress with_reducible apply State.Follows.upd | split | trivial | intro _ | dsimp only)

theorem sendHeld_follows {z : State} (f : Nat) (x1 : List (List Nat)) {s : State} (hs : z.Follows s) :
    z.Follows (sendHeld f x1 s) := by
  induction x1 generalizing s with
  | nil => unfold sendHeld; repeat' (first | with_reducible assumption | (with_reducible refine fun _ h_ => State.palAppend_follows _ _ ?_ _ h_) | with_reducible apply ih | with_reducible apply Res.Follows.next | fail_if_no_progress with_reducible apply State.Follows.upd | (with_reducible refine State.Follows.of_opt (by with_reducible assumption) ?_) | (with_reducible refine State.Follows.of_opt_snd (by with_reducible assumption) ?_) | (with_reducible refine State.Follows.of_opt_fst (by with_reducible assumption) ?_) | (with_reducible refine State.Follows.of_snd (by with_reducible assumption) ?_) | (with_reducible refine State.Follows.of_fst (by with_reducible assumption) ?_) | (with_reducible refine State.Follows.of_trd (by with_reducible assumption) ?_) | split | trivial | intro _ | dsimp only)
  | cons a r ih => unfold sendHeld; repeat' (first | with_reducible assumption | (with_reducible refine fun _ h_ => State.palAppend_follows _ _ ?_ _ h_) | with_reducible apply ih | with_reducible apply Res.Follows.next | fail_if_no_progress with_reducible apply State.Follows.upd | (with_reducible refine State.Follows.of_opt (by with_reducible assumption) ?_) | (with_reducible refine State.Follows.of_opt_snd (by with_reducible assumption) ?_) | (with_reducible refine State.Follows.of_opt_fst (by with_reducible assumption) ?_) | (with_reducible refine State.Follows.of_snd (by with_reducible assumption) ?_) | (with_reducible refine State.Follows.of_fst (by with_reducible assumption) ?_) | (with_reducible refine State.Follows.of_trd (by with_reducible assumption) ?_) | split | trivial | intro _ | dsimp only)

theorem State.flowSend_follows {z : State} {s : State} (f : Nat) (r : List Nat) (hs : z.Follows s) :
    z.Follows (State.flowSend s f r) := by
  unfold State.flowSend
  repeat' (first | with_reducible assumption | with_reducible apply sendHeld_follows | with_reducible apply Res.Follows.next | fail_if_no_progress with_reducible apply State.Follows.upd | split | trivial | intro _ | dsimp only)

theorem State.dropHead_follows {z : State} {s : State} (f : Nat) (hs : z.Follows s) :
    z.Follows (State.dropHead s f) := by
  unfold State.dropHead
  repeat' (first | with_reducible assumption | with_reducible apply State.palConsume_follows | with_reducible apply State.freeFlow_follows | with_reducible apply sendHeld_follows | with_reducible apply Res.Follows.next | fail_if_no_progress with_reducible apply State.Follows.upd | split | trivial | intro _ | dsimp only)

end Sys2Proof.Machine
end

