-- ==== Sys2Proof/Laws/FapiFollows.lean ====
section
/-! SUPPORT. Laws/FapiFollows.lean: every operation of Machine/Fapi.lean follows: what it does to the queue, the outputs, the draw counter and the invariant (Safety.lean). -/
set_option linter.unusedVariables false
set_option linter.unreachableTactic false
set_option linter.unusedTactic false
namespace Sys2Proof.Machine

open Sys2Proof

theorem State.setFqp_follows {z : State} {s : State} (q : Nat) (v : FqSt) (hs : z.Follows s) :
    z.Follows (State.setFqp s q v) := by
  unfold State.setFqp
  repeat' (first | with_reducible assumption | with_reducible apply State.setFlag_follows | with_reducible apply Res.Follows.next | fail_if_no_progress with_reducible apply State.Follows.upd | split | trivial | intro _ | dsimp only)

theorem State.indWrite_follows {z : State} {s : State} (q : Nat) (m : List Nat) (p : Nat × Nat) (hs : z.Follows s) :
    z.Follows (State.indWrite s q m p) := by
  unfold State.indWrite
  repeat' (first | with_reducible assumption | with_reducible refine State.Follows.ite (fun _ => ?_) (fun _ => ?_) | with_reducible apply State.setFld_follows | with_reducible apply State.incWrap_follows | with_reducible apply State.hostWrite_follows | with_reducible apply State.fire_follows | with_reducible apply Res.Follows.next | fail_if_no_progress with_reducible apply State.Follows.upd | split | trivial | intro _ | dsimp only)

theorem indRelease_follows {z : State} (q : Nat) (x1 : List (Nat × List Nat)) {s : State} (hs : z.Follows s) :
    z.Follows (indRelease q x1 s) := by
  induction x1 generalizing s with
  | nil => unfold indRelease; repeat' (first | with_reducible assumption | with_reducible apply State.setFqp_follows | with_reducible apply State.indWrite_follows | with_reducible apply ih | with_reducible apply Res.Follows.next | fail_if_no_progress with_reducible apply State.Follows.upd | (with_reducible refine State.Follows.of_snd (by with_reducible assumption) ?_) | (with_reducible refine State.Follows.of_fst (by with_reducible assumption) ?_) | (with_reducible refine State.Follows.of_trd (by with_reducible assumption) ?_) | split | trivial | intro _ | dsimp only)
  | cons a r ih => unfold indRelease; repeat' (first | with_reducible assumption | with_reducible apply State.setFqp_follows | with_reducible apply State.indWrite_follows | with_reducible apply ih | with_reducible apply Res.Follows.next | fail_if_no_progress with_reducible apply State.Follows.upd | (with_reducible refine State.Follows.of_snd (by with_reducible assumption) ?_) | (with_reducible refine State.Follows.of_fst (by with_reducible assumption) ?_) | (with_reducible refine State.Follows.of_trd (by with_reducible assumption) ?_) | split | trivial | intro _ | dsimp only)

theorem State.postInd_follows {z : State} {s : State} (q : Nat) (cell : Nat) (m : List Nat) (hs : z.Follows s) :
    z.Follows (State.postInd s q cell m) := by
  unfold State.postInd
  repeat' (first | with_reducible assumption | with_reducible refine State.Follows.ite (fun _ => ?_) (fun _ => ?_) | with_reducible apply State.incSat_follows | with_reducible apply indRelease_follows | with_reducible apply Res.Follows.next | fail_if_no_progress with_reducible apply State.Follows.upd | with_reducible apply foldl_follows | with_reducible apply foldl_fst_follows | with_reducible apply foldl_snd_follows | with_reducible apply foldl_trd_follows | split | trivial | intro _ | dsimp only)

theorem State.dropInds_follows {z : State} {s : State} (q : Nat) (cell : Nat) (hs : z.Follows s) :
    z.Follows (State.dropInds s q cell) := by
  unfold State.dropInds
  repeat' (first | with_reducible assumption | with_reducible apply State.setFqp_follows | with_reducible apply Res.Follows.next | fail_if_no_progress with_reducible apply State.Follows.upd | split | trivial | intro _ | dsimp only)

theorem State.fqBad_follows {z : State} {s : State} (q : Nat) (injected : Bool) (hs : z.Follows s) :
    z.Follows (State.fqBad s q injected) := by
  unfold State.fqBad
  repeat' (first | with_reducible assumption | with_reducible apply State.setFlag_follows | with_reducible apply State.detect_follows | with_reducible apply Res.Follows.next | fail_if_no_progress with_reducible apply State.Follows.upd | split | trivial | intro _ | dsimp only)

theorem State.fqTake_follows {z : State} {s : State} (q : Nat) (tail : Nat) (ring : Blob) (hs : z.Follows s) :
    z.Follows (State.fqTake s q tail ring) := by
  unfold State.fqTake
  repeat' (first | with_reducible assumption | with_reducible refine State.Follows.ite (fun _ => ?_) (fun _ => ?_) | with_reducible apply State.setFld_follows | with_reducible apply State.incWrap_follows | with_reducible apply State.countUnits_follows | with_reducible apply State.hostWrite_follows | with_reducible apply State.inject_follows | with_reducible apply State.setFqp_follows | with_reducible apply State.fqBad_follows | with_reducible apply Res.Follows.next | fail_if_no_progress with_reducible apply State.Follows.upd | (with_reducible refine State.Follows.of_snd (by with_reducible assumption) ?_) | (with_reducible refine State.Follows.of_fst (by with_reducible assumption) ?_) | (with_reducible refine State.Follows.of_trd (by with_reducible assumption) ?_) | split | trivial | intro _ | dsimp only)

theorem State.fqLineRead_follows {z : State} {s : State} (q : Nat) (indHead : Nat) (tail : Nat) (ring : Blob) (hs : z.Follows s) :
    z.Follows (State.fqLineRead s q indHead tail ring) := by
  unfold State.fqLineRead
  repeat' (first | with_reducible assumption | with_reducible refine State.Follows.ite (fun _ => ?_) (fun _ => ?_) | with_reducible apply State.incSat_follows | with_reducible apply State.countUnits_follows | with_reducible apply State.usageFault_follows | with_reducible apply State.setFqp_follows | with_reducible apply indRelease_follows | with_reducible apply State.fqTake_follows | with_reducible apply Res.Follows.next | fail_if_no_progress with_reducible apply State.Follows.upd | split | trivial | intro _ | dsimp only)

theorem execFapiPoll_follows {z : State} (qp : Fin 64) (line : Blob) (ring : Blob) {s : State} (hs : z.Follows s) :
    Res.Follows z (execFapiPoll qp line ring s) := by
  unfold execFapiPoll
  repeat' (first | with_reducible assumption | with_reducible refine Res.Follows.ite (fun _ => ?_) (fun _ => ?_) | with_reducible refine State.Follows.ite (fun _ => ?_) (fun _ => ?_) | with_reducible apply State.incSat_follows | with_reducible apply State.usageFault_follows | with_reducible apply State.fqLineRead_follows | with_reducible apply Res.Follows.next | fail_if_no_progress with_reducible apply State.Follows.upd | split | trivial | intro _ | dsimp only)

theorem execFqEnable_follows {z : State} (req : Requester) (qp : Fin 64) (line : Blob) {s : State} (hs : z.Follows s) :
    Res.Follows z (execFqEnable req qp line s) := by
  unfold execFqEnable
  repeat' (first | with_reducible assumption | with_reducible refine Res.Follows.ite (fun _ => ?_) (fun _ => ?_) | with_reducible refine State.Follows.ite (fun _ => ?_) (fun _ => ?_) | with_reducible apply State.setFld_follows | with_reducible apply State.setFlag_follows | with_reducible apply State.access_follows | with_reducible apply State.setFqp_follows | with_reducible apply Res.Follows.next | fail_if_no_progress with_reducible apply State.Follows.upd | split | trivial | intro _ | dsimp only)

theorem State.fqDisable_follows {z : State} {s : State} (q : Nat) (hs : z.Follows s) :
    z.Follows (State.fqDisable s q) := by
  unfold State.fqDisable
  repeat' (first | with_reducible assumption | with_reducible apply State.setFlag_follows | with_reducible apply State.setFqp_follows | with_reducible apply Res.Follows.next | fail_if_no_progress with_reducible apply State.Follows.upd | split | trivial | intro _ | dsimp only)

end Sys2Proof.Machine
end

