-- ==== Sys2Proof/Laws/StreamsFollows.lean ====
section
/-! SUPPORT. Laws/StreamsFollows.lean: every operation of Machine/Streams.lean follows: what it does to the queue, the outputs, the draw counter and the invariant (Safety.lean). -/
set_option linter.unusedVariables false
set_option linter.unreachableTactic false
set_option linter.unusedTactic false
namespace Sys2Proof.Machine

open Sys2Proof

theorem State.setChan_follows {z : State} {s : State} (n : Nat) (c : Chan) (hs : z.Follows s) :
    z.Follows (State.setChan s n c) := by
  unfold State.setChan
  repeat' (first | with_reducible assumption | with_reducible apply State.setFld_follows | with_reducible apply State.setFlag_follows | with_reducible apply Res.Follows.next | fail_if_no_progress with_reducible apply State.Follows.upd | split | trivial | intro _ | dsimp only)

theorem State.chState_follows {z : State} {s : State} (n : Nat) (st : Nat) (hs : z.Follows s) :
    z.Follows (State.chState s n st) := by
  unfold State.chState
  repeat' (first | with_reducible assumption | with_reducible apply State.setFld_follows | with_reducible apply Res.Follows.next | fail_if_no_progress with_reducible apply State.Follows.upd | split | trivial | intro _ | dsimp only)

theorem State.dropThread_follows {z : State} {s : State} (n : Nat) (hs : z.Follows s) :
    z.Follows (State.dropThread s n) := by
  unfold State.dropThread
  repeat' (first | with_reducible assumption | with_reducible apply State.setFld_follows | with_reducible apply State.setChan_follows | with_reducible apply Res.Follows.next | fail_if_no_progress with_reducible apply State.Follows.upd | split | trivial | intro _ | dsimp only)

theorem State.startRun_follows {z : State} {s : State} (n : Nat) (a : Arm) (ovr : Bool) (hs : z.Follows s) :
    z.Follows (State.startRun s n a ovr) := by
  unfold State.startRun
  repeat' (first | with_reducible assumption | with_reducible apply State.enrollRun_follows | with_reducible apply State.setChan_follows | with_reducible apply State.chState_follows | with_reducible apply Res.Follows.next | fail_if_no_progress with_reducible apply State.Follows.upd | (with_reducible refine State.Follows.of_snd (by with_reducible assumption) ?_) | (with_reducible refine State.Follows.of_fst (by with_reducible assumption) ?_) | (with_reducible refine State.Follows.of_trd (by with_reducible assumption) ?_) | split | trivial | intro _ | dsimp only)

theorem State.armChan_follows {z : State} {s : State} (n : Nat) (a : Arm) (hs : z.Follows s) :
    z.Follows (State.armChan s n a) := by
  unfold State.armChan
  repeat' (first | with_reducible assumption | with_reducible refine State.Follows.ite (fun _ => ?_) (fun _ => ?_) | with_reducible apply State.incSat_follows | with_reducible apply State.setChan_follows | with_reducible apply State.startRun_follows | with_reducible apply Res.Follows.next | fail_if_no_progress with_reducible apply State.Follows.upd | split | trivial | intro _ | dsimp only)

theorem State.finishRun_follows {z : State} {s : State} (n : Nat) (hs : z.Follows s) :
    z.Follows (State.finishRun s n) := by
  unfold State.finishRun
  repeat' (first | with_reducible assumption | with_reducible refine State.Follows.ite (fun _ => ?_) (fun _ => ?_) | with_reducible apply State.dropRun_follows | with_reducible apply State.setChan_follows | with_reducible apply State.chState_follows | with_reducible apply State.startRun_follows | with_reducible apply Res.Follows.next | fail_if_no_progress with_reducible apply State.Follows.upd | split | trivial | intro _ | dsimp only)

theorem State.closeRun_follows {z : State} {s : State} (n : Nat) (hs : z.Follows s) :
    z.Follows (State.closeRun s n) := by
  unfold State.closeRun
  repeat' (first | with_reducible assumption | with_reducible refine State.Follows.ite (fun _ => ?_) (fun _ => ?_) | with_reducible apply State.judgeBoundary_follows | with_reducible apply State.finishRun_follows | with_reducible apply Res.Follows.next | fail_if_no_progress with_reducible apply State.Follows.upd | split | trivial | intro _ | dsimp only)

theorem State.chanReport_follows {z : State} {s : State} (n : Nat) (status : Nat) (addr : Nat) (hs : z.Follows s) :
    z.Follows (State.chanReport s n status addr) := by
  unfold State.chanReport
  repeat' (first | with_reducible assumption | with_reducible refine State.Follows.ite (fun _ => ?_) (fun _ => ?_) | with_reducible apply State.incSat_follows | with_reducible apply State.usageFault_follows | with_reducible apply Res.Follows.next | fail_if_no_progress with_reducible apply State.Follows.upd | split | trivial | intro _ | dsimp only)

theorem State.chanFaultRegs_follows {z : State} {s : State} (n : Nat) (status : Nat) (pc : Nat) (desc : Nat) (addr : Nat) (hs : z.Follows s) :
    z.Follows (State.chanFaultRegs s n status pc desc addr) := by
  unfold State.chanFaultRegs
  repeat' (first | with_reducible assumption | with_reducible apply State.setFld_follows | with_reducible apply State.setFld64_follows | with_reducible apply Res.Follows.next | fail_if_no_progress with_reducible apply State.Follows.upd | split | trivial | intro _ | dsimp only)

theorem State.unhalt_follows {z : State} {s : State} (n : Nat) (hs : z.Follows s) :
    z.Follows (State.unhalt s n) := by
  unfold State.unhalt
  repeat' (first | with_reducible assumption | with_reducible refine State.Follows.ite (fun _ => ?_) (fun _ => ?_) | with_reducible apply State.setFld_follows | with_reducible apply State.setChan_follows | with_reducible apply Res.Follows.next | fail_if_no_progress with_reducible apply State.Follows.upd | split | trivial | intro _ | dsimp only)

theorem State.nextDesc_follows {z : State} {s : State} (n : Nat) (hs : z.Follows s) :
    z.Follows (State.nextDesc s n) := by
  unfold State.nextDesc
  repeat' (first | with_reducible assumption | with_reducible refine State.Follows.ite (fun _ => ?_) (fun _ => ?_) | with_reducible apply State.makeReady_follows | with_reducible apply State.chState_follows | with_reducible apply State.dropThread_follows | with_reducible apply Res.Follows.next | fail_if_no_progress with_reducible apply State.Follows.upd | split | trivial | intro _ | dsimp only)

theorem State.abortHand_follows {z : State} {s : State} (n : Nat) (hs : z.Follows s) :
    z.Follows (State.abortHand s n) := by
  unfold State.abortHand
  repeat' (first | with_reducible assumption | with_reducible refine State.Follows.ite (fun _ => ?_) (fun _ => ?_) | with_reducible apply State.setChan_follows | with_reducible apply State.chState_follows | with_reducible apply Res.Follows.next | fail_if_no_progress with_reducible apply State.Follows.upd | split | trivial | intro _ | dsimp only)

theorem State.endRun_follows {z : State} {s : State} (n : Nat) (status : Nat) (pc : Nat) (hs : z.Follows s) :
    z.Follows (State.endRun s n status pc) := by
  unfold State.endRun
  repeat' (first | with_reducible assumption | with_reducible apply State.dropTakes_follows | with_reducible apply State.setChan_follows | with_reducible apply State.unhalt_follows | with_reducible apply State.nextDesc_follows | with_reducible apply State.abortHand_follows | with_reducible apply Res.Follows.next | fail_if_no_progress with_reducible apply State.Follows.upd | split | trivial | intro _ | dsimp only)

theorem State.haltChan_follows {z : State} {s : State} (n : Nat) (status : Nat) (hs : z.Follows s) :
    z.Follows (State.haltChan s n status) := by
  unfold State.haltChan
  repeat' (first | with_reducible assumption | with_reducible refine State.Follows.ite (fun _ => ?_) (fun _ => ?_) | with_reducible apply State.setFld_follows | with_reducible apply State.setChan_follows | with_reducible apply State.chState_follows | with_reducible apply State.dropThread_follows | with_reducible apply Res.Follows.next | fail_if_no_progress with_reducible apply State.Follows.upd | split | trivial | intro _ | dsimp only)

theorem State.chanError_follows {z : State} {s : State} (n : Nat) (status : Nat) (pc : Nat) (addr : Nat) (hs : z.Follows s) :
    z.Follows (State.chanError s n status pc addr) := by
  unfold State.chanError
  repeat' (first | with_reducible assumption | with_reducible refine State.Follows.ite (fun _ => ?_) (fun _ => ?_) | with_reducible apply State.setChan_follows | with_reducible apply State.chanReport_follows | with_reducible apply State.chanFaultRegs_follows | with_reducible apply State.endRun_follows | with_reducible apply State.haltChan_follows | with_reducible apply Res.Follows.next | fail_if_no_progress with_reducible apply State.Follows.upd | split | trivial | intro _ | dsimp only)

theorem State.setExec_follows {z : State} {s : State} (n : Nat) (x : StrExec) (hs : z.Follows s) :
    z.Follows (State.setExec s n x) := by
  unfold State.setExec
  repeat' (first | with_reducible assumption | with_reducible apply State.setChan_follows | with_reducible apply Res.Follows.next | fail_if_no_progress with_reducible apply State.Follows.upd | split | trivial | intro _ | dsimp only)

theorem execChannelArm_follows {z : State} (req : Requester) {s : State} (hs : z.Follows s) :
    Res.Follows z (execChannelArm req s) := by
  unfold execChannelArm
  repeat' (first | with_reducible assumption | with_reducible refine Res.Follows.ite (fun _ => ?_) (fun _ => ?_) | with_reducible refine State.Follows.ite (fun _ => ?_) (fun _ => ?_) | with_reducible apply State.access_follows | with_reducible apply State.armChan_follows | with_reducible apply Res.Follows.next | fail_if_no_progress with_reducible apply State.Follows.upd | split | trivial | intro _ | dsimp only)

theorem State.resume_follows {z : State} {s : State} (n : Nat) (hs : z.Follows s) :
    z.Follows (State.resume s n) := by
  unfold State.resume
  repeat' (first | with_reducible assumption | with_reducible refine State.Follows.ite (fun _ => ?_) (fun _ => ?_) | with_reducible apply forEach_follows | with_reducible apply State.makeReady_follows | with_reducible apply State.yzFlush_follows | with_reducible apply State.yzIssue_follows | with_reducible apply State.setChan_follows | with_reducible apply State.chState_follows | with_reducible apply State.unhalt_follows | with_reducible apply Res.Follows.next | fail_if_no_progress with_reducible apply State.Follows.upd | split | trivial | intro _ | dsimp only)

theorem execChannelResume_follows {z : State} (req : Requester) {s : State} (hs : z.Follows s) :
    Res.Follows z (execChannelResume req s) := by
  unfold execChannelResume
  repeat' (first | with_reducible assumption | with_reducible refine Res.Follows.ite (fun _ => ?_) (fun _ => ?_) | with_reducible refine State.Follows.ite (fun _ => ?_) (fun _ => ?_) | with_reducible apply State.access_follows | with_reducible apply State.resume_follows | with_reducible apply Res.Follows.next | fail_if_no_progress with_reducible apply State.Follows.upd | split | trivial | intro _ | dsimp only)

theorem execChannelSkip_follows {z : State} (req : Requester) {s : State} (hs : z.Follows s) :
    Res.Follows z (execChannelSkip req s) := by
  unfold execChannelSkip
  repeat' (first | with_reducible assumption | with_reducible refine Res.Follows.ite (fun _ => ?_) (fun _ => ?_) | with_reducible refine State.Follows.ite (fun _ => ?_) (fun _ => ?_) | with_reducible apply State.access_follows | with_reducible apply State.setChan_follows | with_reducible apply State.resume_follows | with_reducible apply Res.Follows.next | fail_if_no_progress with_reducible apply State.Follows.upd | split | trivial | intro _ | dsimp only)

theorem State.abortChan_follows {z : State} {s : State} (req : Requester) (n : Nat) (hs : z.Follows s) :
    z.Follows (State.abortChan s req n) := by
  unfold State.abortChan
  repeat' (first | with_reducible assumption | with_reducible refine State.Follows.ite (fun _ => ?_) (fun _ => ?_) | with_reducible apply State.judgeBoundary_follows | with_reducible apply State.setChan_follows | with_reducible apply State.finishRun_follows | with_reducible apply State.closeRun_follows | with_reducible apply State.endRun_follows | with_reducible apply Res.Follows.next | fail_if_no_progress with_reducible apply State.Follows.upd | split | trivial | intro _ | dsimp only)

theorem execSemaphoreSet_follows {z : State} (req : Requester) (value : BitVec 32) {s : State} (hs : z.Follows s) :
    Res.Follows z (execSemaphoreSet req value s) := by
  unfold execSemaphoreSet
  repeat' (first | with_reducible assumption | with_reducible refine Res.Follows.ite (fun _ => ?_) (fun _ => ?_) | with_reducible refine State.Follows.ite (fun _ => ?_) (fun _ => ?_) | with_reducible apply State.setFld_follows | with_reducible apply State.access_follows | with_reducible apply State.serveSem_follows | with_reducible apply Res.Follows.next | fail_if_no_progress with_reducible apply State.Follows.upd | split | trivial | intro _ | dsimp only)

theorem execSemaphoreSignalArrival_follows {z : State} (sem : BitVec 12) {s : State} (hs : z.Follows s) :
    Res.Follows z (execSemaphoreSignalArrival sem s) := by
  unfold execSemaphoreSignalArrival
  repeat' (first | with_reducible assumption | with_reducible refine Res.Follows.ite (fun _ => ?_) (fun _ => ?_) | with_reducible refine State.Follows.ite (fun _ => ?_) (fun _ => ?_) | with_reducible apply State.landSignal_follows | with_reducible apply Res.Follows.next | fail_if_no_progress with_reducible apply State.Follows.upd | split | trivial | intro _ | dsimp only)

theorem State.burstFailed_follows {z : State} {s : State} (n : Nat) (k : Nat) (status : Nat) (addr : Nat) (hs : z.Follows s) :
    z.Follows (State.burstFailed s n k status addr) := by
  unfold State.burstFailed
  repeat' (first | with_reducible assumption | with_reducible refine State.Follows.ite (fun _ => ?_) (fun _ => ?_) | with_reducible apply State.setChan_follows | with_reducible apply State.abortHand_follows | with_reducible apply State.chanError_follows | with_reducible apply Res.Follows.next | fail_if_no_progress with_reducible apply State.Follows.upd | split | trivial | intro _ | dsimp only)

theorem State.burstDone_follows {z : State} {s : State} (ch : Nat) (host : Blob) (fail : Bool) (hs : z.Follows s) :
    z.Follows (State.burstDone s ch host fail) := by
  unfold State.burstDone
  repeat' (first | with_reducible assumption | with_reducible refine State.Follows.ite (fun _ => ?_) (fun _ => ?_) | with_reducible apply State.makeReady_follows | with_reducible apply State.spRead_follows | with_reducible apply State.setChan_follows | with_reducible apply State.abortHand_follows | with_reducible apply State.burstFailed_follows | with_reducible apply Res.Follows.next | fail_if_no_progress with_reducible apply State.Follows.upd | split | trivial | intro _ | dsimp only)

theorem State.parkWait_follows {z : State} {s : State} (n : Nat) (st : Nat) (hs : z.Follows s) :
    z.Follows (State.parkWait s n st) := by
  unfold State.parkWait
  repeat' (first | with_reducible assumption | with_reducible refine State.Follows.ite (fun _ => ?_) (fun _ => ?_) | with_reducible apply State.setFld_follows | with_reducible apply State.incSat_follows | with_reducible apply State.setChan_follows | with_reducible apply State.chState_follows | with_reducible apply State.dropThread_follows | with_reducible apply Res.Follows.next | fail_if_no_progress with_reducible apply State.Follows.upd | split | trivial | intro _ | dsimp only)

theorem State.unpark_follows {z : State} {s : State} (n : Nat) (hs : z.Follows s) :
    z.Follows (State.unpark s n) := by
  unfold State.unpark
  repeat' (first | with_reducible assumption | with_reducible refine State.Follows.ite (fun _ => ?_) (fun _ => ?_) | with_reducible apply State.setFld_follows | with_reducible apply State.setChan_follows | with_reducible apply Res.Follows.next | fail_if_no_progress with_reducible apply State.Follows.upd | split | trivial | intro _ | dsimp only)

theorem execParkedWaitDone_follows {z : State} (ch : Fin 2048) {s : State} (hs : z.Follows s) :
    Res.Follows z (execParkedWaitDone ch s) := by
  unfold execParkedWaitDone
  repeat' (first | with_reducible assumption | with_reducible refine Res.Follows.ite (fun _ => ?_) (fun _ => ?_) | with_reducible refine State.Follows.ite (fun _ => ?_) (fun _ => ?_) | with_reducible apply State.makeReady_follows | with_reducible apply State.unpark_follows | with_reducible apply Res.Follows.next | fail_if_no_progress with_reducible apply State.Follows.upd | split | trivial | intro _ | dsimp only)

theorem execThreadTake_follows {z : State} (ch : Fin 2048) (thread : Fin 64) {s : State} (hs : z.Follows s) :
    Res.Follows z (execThreadTake ch thread s) := by
  unfold execThreadTake
  repeat' (first | with_reducible assumption | with_reducible refine Res.Follows.ite (fun _ => ?_) (fun _ => ?_) | with_reducible refine State.Follows.ite (fun _ => ?_) (fun _ => ?_) | with_reducible apply forEach_follows | with_reducible apply State.setFld_follows | with_reducible apply State.setChan_follows | with_reducible apply State.chState_follows | with_reducible apply State.parkWait_follows | with_reducible apply Res.Follows.next | fail_if_no_progress with_reducible apply State.Follows.upd | split | trivial | intro _ | dsimp only)

theorem State.beginDesc_follows {z : State} {s : State} (n : Nat) (hs : z.Follows s) :
    z.Follows (State.beginDesc s n) := by
  unfold State.beginDesc
  repeat' (first | with_reducible assumption | with_reducible apply State.setChan_follows | with_reducible apply Res.Follows.next | fail_if_no_progress with_reducible apply State.Follows.upd | split | trivial | intro _ | dsimp only)

theorem State.strokeStart_follows {z : State} {s0 : State} (n : Nat) (ecc : Option EccEvent) (hs0 : z.Follows s0) :
    z.Follows (State.strokeStart s0 n ecc) := by
  unfold State.strokeStart
  repeat' (first | with_reducible assumption | with_reducible refine State.Follows.ite (fun _ => ?_) (fun _ => ?_) | with_reducible apply State.bondLoad_follows | with_reducible apply State.useTake_follows | with_reducible apply State.sendTake_follows | with_reducible apply State.chState_follows | with_reducible apply State.dropThread_follows | with_reducible apply State.chanError_follows | with_reducible apply State.setExec_follows | with_reducible apply State.beginDesc_follows | with_reducible apply Res.Follows.next | fail_if_no_progress with_reducible apply State.Follows.upd | split | trivial | intro _ | dsimp only)

theorem execStrokeStart_follows {z : State} (ch : Fin 2048) (ecc : Option EccEvent) {s : State} (hs : z.Follows s) :
    Res.Follows z (execStrokeStart ch ecc s) := by
  unfold execStrokeStart
  repeat' (first | with_reducible assumption | with_reducible refine Res.Follows.ite (fun _ => ?_) (fun _ => ?_) | with_reducible refine State.Follows.ite (fun _ => ?_) (fun _ => ?_) | with_reducible apply State.strokeStart_follows | with_reducible apply Res.Follows.next | fail_if_no_progress with_reducible apply State.Follows.upd | split | trivial | intro _ | dsimp only)

theorem State.runInstr_follows {z : State} {s : State} (n : Nat) (op : Nat) (f : State → StrExec → SInstr → State) (fF : ∀ a0 a1 a2, z.Follows a0 → z.Follows (f a0 a1 a2)) (hs : z.Follows s) :
    z.Follows (State.runInstr s n op f) := by
  unfold State.runInstr
  repeat' (first | with_reducible assumption | with_reducible refine State.Follows.ite (fun _ => ?_) (fun _ => ?_) | with_reducible apply fF | with_reducible apply Res.Follows.next | fail_if_no_progress with_reducible apply State.Follows.upd | (with_reducible refine State.Follows.of_snd (by with_reducible assumption) ?_) | (with_reducible refine State.Follows.of_fst (by with_reducible assumption) ?_) | (with_reducible refine State.Follows.of_trd (by with_reducible assumption) ?_) | split | trivial | intro _ | dsimp only)

theorem execDim_follows {z : State} (ch : Fin 2048) {s : State} (hs : z.Follows s) :
    Res.Follows z (execDim ch s) := by
  unfold execDim
  repeat' (first | with_reducible assumption | with_reducible refine Res.Follows.ite (fun _ => ?_) (fun _ => ?_) | with_reducible refine State.Follows.ite (fun _ => ?_) (fun _ => ?_) | with_reducible apply State.chanError_follows | with_reducible apply State.setExec_follows | with_reducible apply State.runInstr_follows | with_reducible apply Res.Follows.next | fail_if_no_progress with_reducible apply State.Follows.upd | split | trivial | intro _ | dsimp only)

theorem execStrokeRun_follows {z : State} (ch : Fin 2048) {s : State} (hs : z.Follows s) :
    Res.Follows z (execStrokeRun ch s) := by
  unfold execStrokeRun
  repeat' (first | with_reducible assumption | with_reducible refine Res.Follows.ite (fun _ => ?_) (fun _ => ?_) | with_reducible refine State.Follows.ite (fun _ => ?_) (fun _ => ?_) | with_reducible apply State.chanError_follows | with_reducible apply State.setExec_follows | with_reducible apply State.runInstr_follows | with_reducible apply Res.Follows.next | fail_if_no_progress with_reducible apply State.Follows.upd | split | trivial | intro _ | dsimp only)

theorem execWrap_follows {z : State} (ch : Fin 2048) {s : State} (hs : z.Follows s) :
    Res.Follows z (execWrap ch s) := by
  unfold execWrap
  repeat' (first | with_reducible assumption | with_reducible refine Res.Follows.ite (fun _ => ?_) (fun _ => ?_) | with_reducible refine State.Follows.ite (fun _ => ?_) (fun _ => ?_) | with_reducible apply State.chanError_follows | with_reducible apply State.setExec_follows | with_reducible apply State.runInstr_follows | with_reducible apply Res.Follows.next | fail_if_no_progress with_reducible apply State.Follows.upd | split | trivial | intro _ | dsimp only)

theorem execGather_follows {z : State} (ch : Fin 2048) {s : State} (hs : z.Follows s) :
    Res.Follows z (execGather ch s) := by
  unfold execGather
  repeat' (first | with_reducible assumption | with_reducible refine Res.Follows.ite (fun _ => ?_) (fun _ => ?_) | with_reducible refine State.Follows.ite (fun _ => ?_) (fun _ => ?_) | with_reducible apply State.chanError_follows | with_reducible apply State.setExec_follows | with_reducible apply State.runInstr_follows | with_reducible apply Res.Follows.next | fail_if_no_progress with_reducible apply State.Follows.upd | split | trivial | intro _ | dsimp only)

theorem execAdv_follows {z : State} (ch : Fin 2048) {s : State} (hs : z.Follows s) :
    Res.Follows z (execAdv ch s) := by
  unfold execAdv
  repeat' (first | with_reducible assumption | with_reducible refine Res.Follows.ite (fun _ => ?_) (fun _ => ?_) | with_reducible refine State.Follows.ite (fun _ => ?_) (fun _ => ?_) | with_reducible apply State.chanError_follows | with_reducible apply State.setExec_follows | with_reducible apply State.runInstr_follows | with_reducible apply Res.Follows.next | fail_if_no_progress with_reducible apply State.Follows.upd | split | trivial | intro _ | dsimp only)

theorem execLoopStroke_follows {z : State} (ch : Fin 2048) {s : State} (hs : z.Follows s) :
    Res.Follows z (execLoopStroke ch s) := by
  unfold execLoopStroke
  repeat' (first | with_reducible assumption | with_reducible refine Res.Follows.ite (fun _ => ?_) (fun _ => ?_) | with_reducible refine State.Follows.ite (fun _ => ?_) (fun _ => ?_) | with_reducible apply State.chanError_follows | with_reducible apply State.setExec_follows | with_reducible apply State.runInstr_follows | with_reducible apply Res.Follows.next | fail_if_no_progress with_reducible apply State.Follows.upd | split | trivial | intro _ | dsimp only)

theorem execSwait_follows {z : State} (ch : Fin 2048) {s : State} (hs : z.Follows s) :
    Res.Follows z (execSwait ch s) := by
  unfold execSwait
  repeat' (first | with_reducible assumption | with_reducible refine Res.Follows.ite (fun _ => ?_) (fun _ => ?_) | with_reducible refine State.Follows.ite (fun _ => ?_) (fun _ => ?_) | with_reducible apply State.useTake_follows | with_reducible apply State.sendTake_follows | with_reducible apply State.chState_follows | with_reducible apply State.dropThread_follows | with_reducible apply State.chanError_follows | with_reducible apply State.setExec_follows | with_reducible apply State.runInstr_follows | with_reducible apply Res.Follows.next | fail_if_no_progress with_reducible apply State.Follows.upd | split | trivial | intro _ | dsimp only)

theorem execSsig_follows {z : State} (ch : Fin 2048) {s : State} (hs : z.Follows s) :
    Res.Follows z (execSsig ch s) := by
  unfold execSsig
  repeat' (first | with_reducible assumption | with_reducible refine Res.Follows.ite (fun _ => ?_) (fun _ => ?_) | with_reducible refine State.Follows.ite (fun _ => ?_) (fun _ => ?_) | with_reducible apply State.sendSignal_follows | with_reducible apply State.chanError_follows | with_reducible apply State.setExec_follows | with_reducible apply State.runInstr_follows | with_reducible apply Res.Follows.next | fail_if_no_progress with_reducible apply State.Follows.upd | split | trivial | intro _ | dsimp only)

theorem State.orphanOps_follows {z : State} {s : State} (n : Nat) (d : Nat) (hs : z.Follows s) :
    z.Follows (State.orphanOps s n d) := by
  unfold State.orphanOps
  repeat' (first | with_reducible assumption | with_reducible refine State.Follows.ite (fun _ => ?_) (fun _ => ?_) | with_reducible apply Res.Follows.next | fail_if_no_progress with_reducible apply State.Follows.upd | split | trivial | intro _ | dsimp only)

theorem State.fenceTimeout_follows {z : State} {s : State} (n : Nat) (injected : Bool) (hs : z.Follows s) :
    z.Follows (State.fenceTimeout s n injected) := by
  unfold State.fenceTimeout
  repeat' (first | with_reducible assumption | with_reducible refine State.Follows.ite (fun _ => ?_) (fun _ => ?_) | with_reducible apply forUpto_follows | with_reducible apply State.setFld_follows | with_reducible apply State.setFlag_follows | with_reducible apply State.incSat_follows | with_reducible apply State.detect_follows | with_reducible apply State.setChan_follows | with_reducible apply State.chanFaultRegs_follows | with_reducible apply State.abortHand_follows | with_reducible apply State.chanError_follows | with_reducible apply State.unpark_follows | with_reducible apply State.orphanOps_follows | with_reducible apply Res.Follows.next | fail_if_no_progress with_reducible apply State.Follows.upd | split | trivial | intro _ | dsimp only)

theorem execFence_follows {z : State} (ch : Fin 2048) {s : State} (hs : z.Follows s) :
    Res.Follows z (execFence ch s) := by
  unfold execFence
  repeat' (first | with_reducible assumption | with_reducible refine Res.Follows.ite (fun _ => ?_) (fun _ => ?_) | with_reducible refine State.Follows.ite (fun _ => ?_) (fun _ => ?_) | with_reducible apply State.inject_follows | with_reducible apply State.setExec_follows | with_reducible apply State.runInstr_follows | with_reducible apply State.fenceTimeout_follows | with_reducible apply Res.Follows.next | fail_if_no_progress with_reducible apply State.Follows.upd | (with_reducible refine State.Follows.of_snd (by with_reducible assumption) ?_) | (with_reducible refine State.Follows.of_fst (by with_reducible assumption) ?_) | (with_reducible refine State.Follows.of_trd (by with_reducible assumption) ?_) | split | trivial | intro _ | dsimp only)

theorem execStrokeArm_follows {z : State} (ch : Fin 2048) {s : State} (hs : z.Follows s) :
    Res.Follows z (execStrokeArm ch s) := by
  unfold execStrokeArm
  repeat' (first | with_reducible assumption | with_reducible refine Res.Follows.ite (fun _ => ?_) (fun _ => ?_) | with_reducible refine State.Follows.ite (fun _ => ?_) (fun _ => ?_) | with_reducible apply State.armChan_follows | with_reducible apply State.chanError_follows | with_reducible apply State.setExec_follows | with_reducible apply State.runInstr_follows | with_reducible apply Res.Follows.next | fail_if_no_progress with_reducible apply State.Follows.upd | split | trivial | intro _ | dsimp only)

theorem execEndStroke_follows {z : State} (ch : Fin 2048) {s : State} (hs : z.Follows s) :
    Res.Follows z (execEndStroke ch s) := by
  unfold execEndStroke
  repeat' (first | with_reducible assumption | with_reducible apply State.setChan_follows | with_reducible apply State.nextDesc_follows | with_reducible apply State.runInstr_follows | with_reducible apply Res.Follows.next | fail_if_no_progress with_reducible apply State.Follows.upd | split | trivial | intro _ | dsimp only)

theorem State.postDesc_follows {z : State} {s : State} (n : Nat) (r : StrRun) (d : StrDone) (hs : z.Follows s) :
    z.Follows (State.postDesc s n r d) := by
  unfold State.postDesc
  repeat' (first | with_reducible assumption | with_reducible refine State.Follows.ite (fun _ => ?_) (fun _ => ?_) | with_reducible apply State.postRecord_follows | with_reducible apply State.setChan_follows | with_reducible apply Res.Follows.next | fail_if_no_progress with_reducible apply State.Follows.upd | split | trivial | intro _ | dsimp only)

theorem State.completeDesc_follows {z : State} {s : State} (n : Nat) (hs : z.Follows s) :
    z.Follows (State.completeDesc s n) := by
  unfold State.completeDesc
  repeat' (first | with_reducible assumption | with_reducible refine State.Follows.ite (fun _ => ?_) (fun _ => ?_) | with_reducible apply State.incWrap_follows | with_reducible apply State.judgeBoundary_follows | with_reducible apply State.passDesc_follows | with_reducible apply State.sendSignal_follows | with_reducible apply State.setChan_follows | with_reducible apply State.finishRun_follows | with_reducible apply State.unpark_follows | with_reducible apply State.postDesc_follows | with_reducible apply Res.Follows.next | fail_if_no_progress with_reducible apply State.Follows.upd | split | trivial | intro _ | dsimp only)

theorem State.completeAll_follows {z : State} {s : State} (n : Nat) (hs : z.Follows s) :
    z.Follows (State.completeAll s n) := by
  unfold State.completeAll
  repeat' (first | with_reducible assumption | with_reducible apply forUpto_follows | with_reducible apply State.completeDesc_follows | with_reducible apply Res.Follows.next | fail_if_no_progress with_reducible apply State.Follows.upd | split | trivial | intro _ | dsimp only)

theorem State.resetChan_follows {z : State} {s : State} (n : Nat) (status : Nat) (hs : z.Follows s) :
    z.Follows (State.resetChan s n status) := by
  unfold State.resetChan
  repeat' (first | with_reducible assumption | with_reducible refine State.Follows.ite (fun _ => ?_) (fun _ => ?_) | with_reducible apply State.incWrap_follows | with_reducible apply State.dropRun_follows | with_reducible apply State.setSem_follows | with_reducible apply State.setWaiters_follows | with_reducible apply State.dropTakes_follows | with_reducible apply State.palClear_follows | with_reducible apply State.setChan_follows | with_reducible apply State.chState_follows | with_reducible apply State.dropThread_follows | with_reducible apply State.chanReport_follows | with_reducible apply State.chanFaultRegs_follows | with_reducible apply State.endRun_follows | with_reducible apply State.unpark_follows | with_reducible apply State.completeAll_follows | with_reducible apply Res.Follows.next | fail_if_no_progress with_reducible apply State.Follows.upd | split | trivial | intro _ | dsimp only)

end Sys2Proof.Machine
end

