-- ==== Sys2Proof/Laws/MoveFollows.lean ====
section
/-! SUPPORT. Laws/MoveFollows.lean: every operation of Machine/Move.lean follows: what it does to the queue, the outputs, the draw counter and the invariant (Safety.lean). -/
set_option linter.unusedVariables false
set_option linter.unreachableTactic false
set_option linter.unusedTactic false
namespace Sys2Proof.Machine

open Sys2Proof

theorem State.readIdx_follows {z : State} {s : State} (n : Nat) (e : Nat) (x : StrExec) (sd : Side) (k : Nat) (first : Bool) (idx : Blob) (hs : z.Follows s) :
    z.Follows (State.readIdx s n e x sd k first idx).1.st := by
  unfold State.readIdx
  repeat' (first | with_reducible assumption | with_reducible refine State.Follows.ite (fun _ => ?_) (fun _ => ?_) | with_reducible apply State.spRead_follows | with_reducible apply Res.Follows.next | fail_if_no_progress with_reducible apply State.Follows.upd | split | trivial | intro _ | dsimp only)

theorem State.moveSrc_follows {z : State} {s : State} (n : Nat) (e : Nat) (x : StrExec) (addr : Nat) (len : Nat) {m : Mv} (host : Blob) (hostFail : Option Nat) (ecc : Option EccEvent) (hs : z.Follows s) (hm : z.Follows m.st) :
    z.Follows (State.moveSrc s n e x addr len m host hostFail ecc).st := by
  unfold State.moveSrc
  repeat' (first | with_reducible assumption | with_reducible refine State.Follows.ite (fun _ => ?_) (fun _ => ?_) | with_reducible apply State.notePoisonedRead_follows | with_reducible apply State.palEcc_follows | with_reducible apply State.spRead_follows | with_reducible apply State.yzDead_follows | with_reducible apply State.yzServe_follows | with_reducible apply Res.Follows.next | fail_if_no_progress with_reducible apply State.Follows.upd | split | trivial | intro _ | dsimp only)

theorem State.holdLocal_follows {z : State} {s : State} (e : Nat) (owner : YzOwner) (slot : Nat) (rank : Nat) (r : YzRec) (dest : List Place) (mcast : Bool) (hs : z.Follows s) :
    z.Follows (State.holdLocal s e owner slot rank r dest mcast) := by
  unfold State.holdLocal
  repeat' (first | with_reducible assumption | with_reducible apply State.incSat_follows | with_reducible apply Res.Follows.next | fail_if_no_progress with_reducible apply State.Follows.upd | split | trivial | intro _ | dsimp only)

theorem State.fabSend_follows {z : State} {s : State} (n : Nat) (e : Nat) (j : Nat) (rank : Nat) (d : Nat) (r : YzRec) (dest : List Place) (mc : Bool) (hs : z.Follows s) :
    z.Follows (State.fabSend s n e j rank d r dest mc).2 := by
  unfold State.fabSend
  repeat' (first | with_reducible assumption | with_reducible refine State.Follows.ite_snd (fun _ => ?_) (fun _ => ?_) | with_reducible refine State.Follows.ite (fun _ => ?_) (fun _ => ?_) | with_reducible apply forEach_follows | with_reducible apply State.spWrite_follows | with_reducible apply State.yzIssue_follows | with_reducible apply State.yzDead_follows | with_reducible apply State.yzServe_follows | with_reducible apply State.holdLocal_follows | with_reducible apply Res.Follows.next | fail_if_no_progress with_reducible apply State.Follows.upd | split | trivial | intro _ | dsimp only)

theorem State.moveDst_follows {z : State} {s : State} (n : Nat) (e : Nat) (x : StrExec) (soff : Int) (so : Nat) (saddr : Nat) (addr : Nat) (bs : List Nat) (fabric : Bool) (hs : z.Follows s) :
    z.Follows (State.moveDst s n e x soff so saddr addr bs fabric).st := by
  unfold State.moveDst
  repeat' (first | with_reducible assumption | with_reducible refine State.Follows.ite (fun _ => ?_) (fun _ => ?_) | (with_reducible refine fun _ h_ => State.palAppend_follows _ _ ?_ _ h_) | with_reducible apply State.palWait_follows | with_reducible apply State.spWrite_follows | with_reducible apply State.yzIssue_follows | with_reducible apply State.fabSend_follows | with_reducible apply Res.Follows.next | fail_if_no_progress with_reducible apply State.Follows.upd | with_reducible apply foldl_follows | with_reducible apply foldl_fst_follows | with_reducible apply foldl_snd_follows | with_reducible apply foldl_trd_follows | (with_reducible refine State.Follows.of_opt (by with_reducible assumption) ?_) | (with_reducible refine State.Follows.of_opt_snd (by with_reducible assumption) ?_) | (with_reducible refine State.Follows.of_opt_fst (by with_reducible assumption) ?_) | (with_reducible refine State.Follows.of_snd (by with_reducible assumption) ?_) | (with_reducible refine State.Follows.of_fst (by with_reducible assumption) ?_) | (with_reducible refine State.Follows.of_trd (by with_reducible assumption) ?_) | split | trivial | intro _ | dsimp only)

theorem Mv.fail_follows {z : State} {m : Mv} (st : Nat) (a : Nat) {t : State} (hm : z.Follows m.st) (ht : z.Follows t) :
    z.Follows (Mv.fail m st a t).st := by
  unfold Mv.fail
  repeat' (first | with_reducible assumption | with_reducible apply Res.Follows.next | fail_if_no_progress with_reducible apply State.Follows.upd | split | trivial | intro _ | dsimp only)

theorem State.palTake_follows {z : State} {s : State} (q : Nat) (n : Nat) (hs : z.Follows s) :
    z.Follows (State.palTake s q n) := by
  unfold State.palTake
  repeat' (first | with_reducible assumption | with_reducible refine State.Follows.ite (fun _ => ?_) (fun _ => ?_) | with_reducible apply State.palConsume_follows | with_reducible apply State.freeFlow_follows | with_reducible apply Res.Follows.next | fail_if_no_progress with_reducible apply State.Follows.upd | split | trivial | intro _ | dsimp only)

theorem movePut_follows {z : State} (n : Nat) (e : Nat) (x : StrExec) {m : Mv} (q : MvReq) (isZero : Bool) (si : IdxVal) (di : IdxVal) {src0 : SrcResp} (hm : z.Follows m.st) (hsrc0 : z.Follows src0.st) :
    z.Follows (movePut n e x m q isZero si di src0).st := by
  unfold movePut
  repeat' (first | with_reducible assumption | with_reducible refine State.Follows.ite (fun _ => ?_) (fun _ => ?_) | with_reducible apply State.moveDst_follows | with_reducible apply Mv.fail_follows | with_reducible apply State.palTake_follows | with_reducible apply Res.Follows.next | fail_if_no_progress with_reducible apply State.Follows.upd | split | trivial | intro _ | dsimp only)

theorem moveGo_follows {z : State} (n : Nat) (e : Nat) (x : StrExec) (zero : Bool) (host : Blob) (hostFail : Option Nat) (w : Option EccEvent) {m : Mv} (q : MvReq) (si : IdxVal) (di : IdxVal) {s : State} (hm : z.Follows m.st) (hs : z.Follows s) :
    z.Follows (moveGo n e x zero host hostFail w m q si di s).st := by
  unfold moveGo
  repeat' (first | with_reducible assumption | with_reducible refine State.Follows.ite (fun _ => ?_) (fun _ => ?_) | with_reducible apply State.moveSrc_follows | with_reducible apply Mv.fail_follows | with_reducible apply movePut_follows | with_reducible apply Res.Follows.next | fail_if_no_progress with_reducible apply State.Follows.upd | split | trivial | intro _ | dsimp only)

theorem moveReq_follows {z : State} (n : Nat) (e : Nat) (x : StrExec) (zero : Bool) (host : Blob) (idx : Blob) (hostFail : Option Nat) (ecc : List (Nat × EccEvent)) {m : Mv} (hm : z.Follows m.st) :
    z.Follows (moveReq n e x zero host idx hostFail ecc m).st := by
  unfold moveReq
  repeat' (first | with_reducible assumption | with_reducible refine State.Follows.ite (fun _ => ?_) (fun _ => ?_) | with_reducible apply State.readIdx_follows | with_reducible apply Mv.fail_follows | with_reducible apply moveGo_follows | with_reducible apply Res.Follows.next | fail_if_no_progress with_reducible apply State.Follows.upd | (with_reducible refine State.Follows.of_snd (by with_reducible assumption) ?_) | (with_reducible refine State.Follows.of_fst (by with_reducible assumption) ?_) | (with_reducible refine State.Follows.of_trd (by with_reducible assumption) ?_) | split | trivial | intro _ | dsimp only)

theorem moveLoop_follows {z : State} (n : Nat) (e : Nat) (x : StrExec) (zero : Bool) (host : Blob) (idx : Blob) (hostFail : Option Nat) (ecc : List (Nat × EccEvent)) (x1 : Nat) {s : Mv} (hs : z.Follows s.st) :
    z.Follows (moveLoop n e x zero host idx hostFail ecc x1 s).st := by
  induction x1 generalizing s with
  | zero => unfold moveLoop; repeat' (first | with_reducible assumption | with_reducible refine State.Follows.ite (fun _ => ?_) (fun _ => ?_) | with_reducible apply moveReq_follows | with_reducible apply ih | with_reducible apply Res.Follows.next | fail_if_no_progress with_reducible apply State.Follows.upd | (with_reducible refine State.Follows.of_snd (by with_reducible assumption) ?_) | (with_reducible refine State.Follows.of_fst (by with_reducible assumption) ?_) | (with_reducible refine State.Follows.of_trd (by with_reducible assumption) ?_) | split | trivial | intro _ | dsimp only)
  | succ n ih => unfold moveLoop; repeat' (first | with_reducible assumption | with_reducible refine State.Follows.ite (fun _ => ?_) (fun _ => ?_) | with_reducible apply moveReq_follows | with_reducible apply ih | with_reducible apply Res.Follows.next | fail_if_no_progress with_reducible apply State.Follows.upd | (with_reducible refine State.Follows.of_snd (by with_reducible assumption) ?_) | (with_reducible refine State.Follows.of_fst (by with_reducible assumption) ?_) | (with_reducible refine State.Follows.of_trd (by with_reducible assumption) ?_) | split | trivial | intro _ | dsimp only)

theorem State.countChBytes_follows {z : State} {s : State} (n : Nat) (b : Nat) (hs : z.Follows s) :
    z.Follows (State.countChBytes s n b) := by
  unfold State.countChBytes
  repeat' (first | with_reducible assumption | with_reducible apply State.inc64_follows | with_reducible apply Res.Follows.next | fail_if_no_progress with_reducible apply State.Follows.upd | split | trivial | intro _ | dsimp only)

theorem State.runMove_follows {z : State} {s : State} (n : Nat) (x : StrExec) (i : SInstr) (host : Blob) (idx : Blob) (hostFail : Option Nat) (ecc : List (Nat × EccEvent)) (hs : z.Follows s) :
    z.Follows (State.runMove s n x i host idx hostFail ecc) := by
  unfold State.runMove
  repeat' (first | with_reducible assumption | with_reducible refine State.Follows.ite (fun _ => ?_) (fun _ => ?_) | with_reducible apply State.yzFlush_follows | with_reducible apply State.chState_follows | with_reducible apply State.dropThread_follows | with_reducible apply State.chanError_follows | with_reducible apply State.setExec_follows | with_reducible apply moveLoop_follows | with_reducible apply State.countChBytes_follows | with_reducible apply Res.Follows.next | fail_if_no_progress with_reducible apply State.Follows.upd | split | trivial | intro _ | dsimp only)

theorem execMoveNest_follows {z : State} (ch : Fin 2048) (host : Blob) (idx : Blob) (hostFail : Option Nat) (ecc : List (Nat × EccEvent)) {s : State} (hs : z.Follows s) :
    Res.Follows z (execMoveNest ch host idx hostFail ecc s) := by
  unfold execMoveNest
  repeat' (first | with_reducible assumption | with_reducible apply State.runInstr_follows | with_reducible apply State.runMove_follows | with_reducible apply Res.Follows.next | fail_if_no_progress with_reducible apply State.Follows.upd | split | trivial | intro _ | dsimp only)

theorem execPaletteReadResume_follows {z : State} (ch : Fin 2048) {s : State} (hs : z.Follows s) :
    Res.Follows z (execPaletteReadResume ch s) := by
  unfold execPaletteReadResume
  repeat' (first | with_reducible assumption | with_reducible refine Res.Follows.ite (fun _ => ?_) (fun _ => ?_) | with_reducible refine State.Follows.ite (fun _ => ?_) (fun _ => ?_) | with_reducible apply State.makeReady_follows | with_reducible apply Res.Follows.next | fail_if_no_progress with_reducible apply State.Follows.upd | split | trivial | intro _ | dsimp only)

theorem execGranuleWaitResume_follows {z : State} (ch : Fin 2048) {s : State} (hs : z.Follows s) :
    Res.Follows z (execGranuleWaitResume ch s) := by
  unfold execGranuleWaitResume
  repeat' (first | with_reducible assumption | with_reducible refine Res.Follows.ite (fun _ => ?_) (fun _ => ?_) | with_reducible refine State.Follows.ite (fun _ => ?_) (fun _ => ?_) | with_reducible apply State.makeReady_follows | with_reducible apply Res.Follows.next | fail_if_no_progress with_reducible apply State.Follows.upd | split | trivial | intro _ | dsimp only)

theorem State.dropOp_follows {z : State} {s : State} (tag : Nat) (hs : z.Follows s) :
    z.Follows (State.dropOp s tag) := by
  unfold State.dropOp
  repeat' (first | with_reducible assumption | with_reducible apply Res.Follows.next | fail_if_no_progress with_reducible apply State.Follows.upd | split | trivial | intro _ | dsimp only)

theorem State.noteStatus_follows {z : State} {s : State} (n : Nat) (d : Nat) (st : Nat) (hs : z.Follows s) :
    z.Follows (State.noteStatus s n d st) := by
  unfold State.noteStatus
  repeat' (first | with_reducible assumption | with_reducible refine State.Follows.ite (fun _ => ?_) (fun _ => ?_) | with_reducible apply State.setChan_follows | with_reducible apply Res.Follows.next | fail_if_no_progress with_reducible apply State.Follows.upd | split | trivial | intro _ | dsimp only)

theorem State.chanOpError_follows {z : State} {s : State} (n : Nat) (o : YzOp) (d : Nat) (st : Nat) (hs : z.Follows s) :
    z.Follows (State.chanOpError s n o d st) := by
  unfold State.chanOpError
  repeat' (first | with_reducible assumption | with_reducible refine State.Follows.ite (fun _ => ?_) (fun _ => ?_) | with_reducible apply State.setChan_follows | with_reducible apply State.chanReport_follows | with_reducible apply State.chanFaultRegs_follows | with_reducible apply State.abortHand_follows | with_reducible apply State.endRun_follows | with_reducible apply State.haltChan_follows | with_reducible apply State.chanError_follows | with_reducible apply State.unpark_follows | with_reducible apply Res.Follows.next | fail_if_no_progress with_reducible apply State.Follows.upd | split | trivial | intro _ | dsimp only)

theorem State.landData_follows {z : State} {s : State} (e : Nat) (dest : List Place) (bs : List Nat) (hs : z.Follows s) :
    z.Follows (State.landData s e dest bs) := by
  unfold State.landData
  repeat' (first | with_reducible assumption | with_reducible refine State.Follows.ite (fun _ => ?_) (fun _ => ?_) | with_reducible apply State.palFill_follows | with_reducible apply State.spWrite_follows | with_reducible apply Res.Follows.next | fail_if_no_progress with_reducible apply State.Follows.upd | with_reducible apply foldl_follows | with_reducible apply foldl_fst_follows | with_reducible apply foldl_snd_follows | with_reducible apply foldl_trd_follows | split | trivial | intro _ | dsimp only)

theorem State.chanOpDone_follows {z : State} {s : State} (o : YzOp) (n : Nat) (d : Nat) (st : Nat) (bs : List Nat) (hs : z.Follows s) :
    z.Follows (State.chanOpDone s o n d st bs) := by
  unfold State.chanOpDone
  repeat' (first | with_reducible assumption | with_reducible refine State.Follows.ite (fun _ => ?_) (fun _ => ?_) | with_reducible apply State.dropOp_follows | with_reducible apply State.noteStatus_follows | with_reducible apply State.chanOpError_follows | with_reducible apply State.landData_follows | with_reducible apply Res.Follows.next | fail_if_no_progress with_reducible apply State.Follows.upd | split | trivial | intro _ | dsimp only)

end Sys2Proof.Machine
end

