-- ==== Sys2Proof/Laws/SCoreFollows.lean ====
section
/-! SUPPORT. Laws/SCoreFollows.lean: every operation of Machine/SCore.lean follows: what it does to the queue, the outputs, the draw counter and the invariant (Safety.lean). -/
set_option linter.unusedVariables false
set_option linter.unreachableTactic false
set_option linter.unusedTactic false
namespace Sys2Proof.Machine

open Sys2Proof

theorem State.scShow_follows {z : State} {s : State} (core : Nat) (hs : z.Follows s) :
    z.Follows (State.scShow s core) := by
  unfold State.scShow
  repeat' (first | with_reducible assumption | with_reducible refine State.Follows.ite (fun _ => ?_) (fun _ => ?_) | with_reducible apply State.setFld_follows | with_reducible apply Res.Follows.next | fail_if_no_progress with_reducible apply State.Follows.upd | split | trivial | intro _ | dsimp only)

theorem State.setScore_follows {z : State} {s : State} (core : Nat) (e : Nat) (t : ScSt) (hs : z.Follows s) :
    z.Follows (State.setScore s core e t) := by
  unfold State.setScore
  repeat' (first | with_reducible assumption | with_reducible refine State.Follows.ite (fun _ => ?_) (fun _ => ?_) | with_reducible apply State.setReg_follows | with_reducible apply State.setFld_follows | with_reducible apply State.setFlag_follows | with_reducible apply State.setScBit_follows | with_reducible apply Res.Follows.next | fail_if_no_progress with_reducible apply State.Follows.upd | split | trivial | intro _ | dsimp only)

theorem State.scTakes_follows {z : State} {s : State} (core : Nat) (hs : z.Follows s) :
    z.Follows (State.scTakes s core) := by
  unfold State.scTakes
  repeat' (first | with_reducible assumption | with_reducible apply forEach_follows | with_reducible apply State.sendTake_follows | with_reducible apply State.setScore_follows | with_reducible apply Res.Follows.next | fail_if_no_progress with_reducible apply State.Follows.upd | split | trivial | intro _ | dsimp only)

theorem State.scIssue_follows {z : State} {s : State} (core : Nat) (op : Nat) (f : Nat → ScCtx → State → ScCtx × State) (fF : ∀ a0 a1 a2, z.Follows a2 → z.Follows (f a0 a1 a2).2) (hs : z.Follows s) :
    z.Follows (State.scIssue s core op f) := by
  unfold State.scIssue
  repeat' (first | with_reducible assumption | with_reducible refine State.Follows.ite (fun _ => ?_) (fun _ => ?_) | with_reducible apply State.inc64_follows | with_reducible apply State.setCtx_follows | with_reducible apply State.setScore_follows | with_reducible apply fF | with_reducible apply Res.Follows.next | fail_if_no_progress with_reducible apply State.Follows.upd | (with_reducible refine State.Follows.of_snd (by with_reducible assumption) ?_) | (with_reducible refine State.Follows.of_fst (by with_reducible assumption) ?_) | (with_reducible refine State.Follows.of_trd (by with_reducible assumption) ?_) | split | trivial | intro _ | dsimp only)

theorem State.scPure_follows {z : State} {s : State} (core : Nat) (op : Nat) (f : Nat → ScCtx → ScCtx) (hs : z.Follows s) :
    z.Follows (State.scPure s core op f) := by
  unfold State.scPure
  repeat' (first | with_reducible assumption | with_reducible apply State.scIssue_follows | with_reducible apply Res.Follows.next | fail_if_no_progress with_reducible apply State.Follows.upd | split | trivial | intro _ | dsimp only)

theorem State.scEffect_follows {z : State} {s : State} (core : Nat) (ecc : Option EccEvent) (c : Cmd) (hs : z.Follows s) :
    z.Follows (State.scEffect s core ecc c).1 := by
  unfold State.scEffect
  repeat' (first | with_reducible assumption | with_reducible refine State.Follows.ite_fst (fun _ => ?_) (fun _ => ?_) | with_reducible refine State.Follows.ite (fun _ => ?_) (fun _ => ?_) | with_reducible apply State.clearUsed_follows | with_reducible apply State.zeroBytes_follows | with_reducible apply State.scWatermark_follows | with_reducible apply State.pmemStore_follows | with_reducible apply State.dmemEcc_follows | with_reducible apply Res.Follows.next | fail_if_no_progress with_reducible apply State.Follows.upd | split | trivial | intro _ | dsimp only)

theorem State.scStart_follows {z : State} {s : State} (core : Nat) (c : Cmd) (st : Option Nat) (hs : z.Follows s) :
    z.Follows (State.scStart s core c st) := by
  unfold State.scStart
  repeat' (first | with_reducible assumption | with_reducible apply State.setFld_follows | with_reducible apply State.setCtx_follows | with_reducible apply State.useTake_follows | with_reducible apply State.setScore_follows | with_reducible apply State.scTakes_follows | with_reducible apply Res.Follows.next | fail_if_no_progress with_reducible apply State.Follows.upd | split | trivial | intro _ | dsimp only)

theorem State.scLaunch_follows {z : State} {s : State} (core : Nat) (ecc : Option EccEvent) (c : Cmd) (hs : z.Follows s) :
    z.Follows (State.scLaunch s core ecc c) := by
  unfold State.scLaunch
  repeat' (first | with_reducible assumption | with_reducible refine State.Follows.ite (fun _ => ?_) (fun _ => ?_) | with_reducible apply State.scEffect_follows | with_reducible apply State.scStart_follows | with_reducible apply Res.Follows.next | fail_if_no_progress with_reducible apply State.Follows.upd | (with_reducible refine State.Follows.of_snd (by with_reducible assumption) ?_) | (with_reducible refine State.Follows.of_fst (by with_reducible assumption) ?_) | (with_reducible refine State.Follows.of_trd (by with_reducible assumption) ?_) | split | trivial | intro _ | dsimp only)

theorem State.scLaunchOp_follows {z : State} {s : State} (core : Nat) (op : Nat) (ecc : Option EccEvent) (hs : z.Follows s) :
    z.Follows (State.scLaunchOp s core op ecc) := by
  unfold State.scLaunchOp
  repeat' (first | with_reducible assumption | with_reducible apply State.scLaunch_follows | with_reducible apply Res.Follows.next | fail_if_no_progress with_reducible apply State.Follows.upd | split | trivial | intro _ | dsimp only)

theorem State.scLaunchBad_follows {z : State} {s : State} (core : Nat) (hs : z.Follows s) :
    z.Follows (State.scLaunchBad s core) := by
  unfold State.scLaunchBad
  repeat' (first | with_reducible assumption | with_reducible apply State.scStart_follows | with_reducible apply Res.Follows.next | fail_if_no_progress with_reducible apply State.Follows.upd | split | trivial | intro _ | dsimp only)

theorem State.scError_follows {z : State} {s : State} (core : Nat) (c : Cmd) (st : Nat) (pc : Nat) (addr : Nat) (hs : z.Follows s) :
    z.Follows (State.scError s core c st pc addr) := by
  unfold State.scError
  repeat' (first | with_reducible assumption | with_reducible refine State.Follows.ite (fun _ => ?_) (fun _ => ?_) | with_reducible apply State.setFld_follows | with_reducible apply State.incSat_follows | with_reducible apply State.usageFault_follows | with_reducible apply State.setScBit_follows | with_reducible apply Res.Follows.next | fail_if_no_progress with_reducible apply State.Follows.upd | split | trivial | intro _ | dsimp only)

theorem State.scPost_follows {z : State} {s : State} (core : Nat) (c : Cmd) (st : Nat) (pc : Nat) (addr : Nat) (packets : Nat) (parkedCyc : Nat) (overran : Bool) (parked : Bool) (hs : z.Follows s) :
    z.Follows (State.scPost s core c st pc addr packets parkedCyc overran parked) := by
  unfold State.scPost
  repeat' (first | with_reducible assumption | with_reducible refine State.Follows.ite (fun _ => ?_) (fun _ => ?_) | with_reducible apply State.incWrap_follows | with_reducible apply State.postRecord_follows | with_reducible apply State.retire_follows | with_reducible apply State.scError_follows | with_reducible apply Res.Follows.next | fail_if_no_progress with_reducible apply State.Follows.upd | split | trivial | intro _ | dsimp only)

theorem State.loadImage_follows {z : State} {s : State} (core : Nat) (hs : z.Follows s) :
    z.Follows (State.loadImage s core) := by
  unfold State.loadImage
  repeat' (first | with_reducible assumption | with_reducible apply State.dmemStore_follows | with_reducible apply State.pmemStore_follows | with_reducible apply Res.Follows.next | fail_if_no_progress with_reducible apply State.Follows.upd | split | trivial | intro _ | dsimp only)

theorem State.scEnd_follows {z : State} {s : State} (core : Nat) (x : ScCtx) (st : Nat) (pc : Nat) (parkedCyc : Nat) (hs : z.Follows s) :
    z.Follows (State.scEnd s core x st pc parkedCyc) := by
  unfold State.scEnd
  repeat' (first | with_reducible assumption | with_reducible refine State.Follows.ite (fun _ => ?_) (fun _ => ?_) | with_reducible apply State.setCtx_follows | with_reducible apply State.showMoving_follows | with_reducible apply State.sendSignal_follows | with_reducible apply State.setScore_follows | with_reducible apply State.scPost_follows | with_reducible apply Res.Follows.next | fail_if_no_progress with_reducible apply State.Follows.upd | split | trivial | intro _ | dsimp only)

theorem State.pmemUe_follows {z : State} {s : State} (core : Nat) (x : ScCtx) (injected : Bool) (hs : z.Follows s) :
    z.Follows (State.pmemUe s core x injected) := by
  unfold State.pmemUe
  repeat' (first | with_reducible assumption | with_reducible apply State.incSat_follows | with_reducible apply State.detect_follows | with_reducible apply State.setScBit_follows | with_reducible apply State.loadImage_follows | with_reducible apply Res.Follows.next | fail_if_no_progress with_reducible apply State.Follows.upd | split | trivial | intro _ | dsimp only)

theorem execOverrun_follows {z : State} (core : Fin 192) {s : State} (hs : z.Follows s) :
    Res.Follows z (execOverrun core s) := by
  unfold execOverrun
  repeat' (first | with_reducible assumption | with_reducible refine Res.Follows.ite (fun _ => ?_) (fun _ => ?_) | with_reducible refine State.Follows.ite (fun _ => ?_) (fun _ => ?_) | with_reducible apply State.incSat_follows | with_reducible apply State.setCtx_follows | with_reducible apply State.usageFault_follows | with_reducible apply State.setScore_follows | with_reducible apply Res.Follows.next | fail_if_no_progress with_reducible apply State.Follows.upd | split | trivial | intro _ | dsimp only)

theorem execPreemptSwitch_follows {z : State} (core : Fin 192) (ecc : Option EccEvent) {s : State} (hs : z.Follows s) :
    Res.Follows z (execPreemptSwitch core ecc s) := by
  unfold execPreemptSwitch
  repeat' (first | with_reducible assumption | with_reducible refine Res.Follows.ite (fun _ => ?_) (fun _ => ?_) | with_reducible refine State.Follows.ite (fun _ => ?_) (fun _ => ?_) | with_reducible apply State.setFld_follows | with_reducible apply State.incWrap_follows | with_reducible apply State.setScore_follows | with_reducible apply State.scLaunch_follows | with_reducible apply Res.Follows.next | fail_if_no_progress with_reducible apply State.Follows.upd | split | trivial | intro _ | dsimp only)

theorem execDebugHalt_follows {z : State} (core : Fin 192) {s : State} (hs : z.Follows s) :
    Res.Follows z (execDebugHalt core s) := by
  unfold execDebugHalt
  repeat' (first | with_reducible assumption | with_reducible refine Res.Follows.ite (fun _ => ?_) (fun _ => ?_) | with_reducible refine State.Follows.ite (fun _ => ?_) (fun _ => ?_) | with_reducible apply State.setCtx_follows | with_reducible apply State.setScore_follows | with_reducible apply Res.Follows.next | fail_if_no_progress with_reducible apply State.Follows.upd | split | trivial | intro _ | dsimp only)

theorem execScRun_follows {z : State} (core : Fin 192) {s : State} (hs : z.Follows s) :
    Res.Follows z (execScRun core s) := by
  unfold execScRun
  repeat' (first | with_reducible assumption | with_reducible apply State.scLaunchOp_follows | with_reducible apply Res.Follows.next | fail_if_no_progress with_reducible apply State.Follows.upd | split | trivial | intro _ | dsimp only)

theorem execScRelease_follows {z : State} (core : Fin 192) {s : State} (hs : z.Follows s) :
    Res.Follows z (execScRelease core s) := by
  unfold execScRelease
  repeat' (first | with_reducible assumption | with_reducible apply State.scLaunchOp_follows | with_reducible apply Res.Follows.next | fail_if_no_progress with_reducible apply State.Follows.upd | split | trivial | intro _ | dsimp only)

theorem execScMark_follows {z : State} (core : Fin 192) {s : State} (hs : z.Follows s) :
    Res.Follows z (execScMark core s) := by
  unfold execScMark
  repeat' (first | with_reducible assumption | with_reducible apply State.scLaunchOp_follows | with_reducible apply Res.Follows.next | fail_if_no_progress with_reducible apply State.Follows.upd | split | trivial | intro _ | dsimp only)

theorem execScLoadprog_follows {z : State} (core : Fin 192) (ecc : Option EccEvent) {s : State} (hs : z.Follows s) :
    Res.Follows z (execScLoadprog core ecc s) := by
  unfold execScLoadprog
  repeat' (first | with_reducible assumption | with_reducible apply State.scLaunchOp_follows | with_reducible apply Res.Follows.next | fail_if_no_progress with_reducible apply State.Follows.upd | split | trivial | intro _ | dsimp only)

end Sys2Proof.Machine
end

