-- ==== Sys2Proof/Laws/ScoreIsaFollows.lean ====
section
/-! SUPPORT. Laws/ScoreIsaFollows.lean: every operation of Machine/ScoreIsa.lean follows: what it does to the queue, the outputs, the draw counter and the invariant (Safety.lean). -/
set_option linter.unusedVariables false
set_option linter.unreachableTactic false
set_option linter.unusedTactic false
namespace Sys2Proof.Machine

open Sys2Proof

theorem execNop_follows {z : State} (core : Fin 192) {s : State} (hs : z.Follows s) :
    Res.Follows z (execNop core s) := by
  unfold execNop
  repeat' (first | with_reducible assumption | with_reducible apply State.scPure_follows | with_reducible apply Res.Follows.next | fail_if_no_progress with_reducible apply State.Follows.upd | split | trivial | intro _ | dsimp only)

theorem execVadd_follows {z : State} (core : Fin 192) {s : State} (hs : z.Follows s) :
    Res.Follows z (execVadd core s) := by
  unfold execVadd
  repeat' (first | with_reducible assumption | with_reducible apply State.scPure_follows | with_reducible apply Res.Follows.next | fail_if_no_progress with_reducible apply State.Follows.upd | split | trivial | intro _ | dsimp only)

theorem execVsub_follows {z : State} (core : Fin 192) {s : State} (hs : z.Follows s) :
    Res.Follows z (execVsub core s) := by
  unfold execVsub
  repeat' (first | with_reducible assumption | with_reducible apply State.scPure_follows | with_reducible apply Res.Follows.next | fail_if_no_progress with_reducible apply State.Follows.upd | split | trivial | intro _ | dsimp only)

theorem execVmac_follows {z : State} (core : Fin 192) {s : State} (hs : z.Follows s) :
    Res.Follows z (execVmac core s) := by
  unfold execVmac
  repeat' (first | with_reducible assumption | with_reducible apply State.scPure_follows | with_reducible apply Res.Follows.next | fail_if_no_progress with_reducible apply State.Follows.upd | split | trivial | intro _ | dsimp only)

theorem execVcmac_follows {z : State} (core : Fin 192) {s : State} (hs : z.Follows s) :
    Res.Follows z (execVcmac core s) := by
  unfold execVcmac
  repeat' (first | with_reducible assumption | with_reducible apply State.scPure_follows | with_reducible apply Res.Follows.next | fail_if_no_progress with_reducible apply State.Follows.upd | split | trivial | intro _ | dsimp only)

theorem execTapC_follows {z : State} (core : Fin 192) {s : State} (hs : z.Follows s) :
    Res.Follows z (execTapC core s) := by
  unfold execTapC
  repeat' (first | with_reducible assumption | with_reducible apply State.scPure_follows | with_reducible apply Res.Follows.next | fail_if_no_progress with_reducible apply State.Follows.upd | split | trivial | intro _ | dsimp only)

theorem execTapR_follows {z : State} (core : Fin 192) {s : State} (hs : z.Follows s) :
    Res.Follows z (execTapR core s) := by
  unfold execTapR
  repeat' (first | with_reducible assumption | with_reducible apply State.scPure_follows | with_reducible apply Res.Follows.next | fail_if_no_progress with_reducible apply State.Follows.upd | split | trivial | intro _ | dsimp only)

theorem execVpack_follows {z : State} (core : Fin 192) {s : State} (hs : z.Follows s) :
    Res.Follows z (execVpack core s) := by
  unfold execVpack
  repeat' (first | with_reducible assumption | with_reducible apply State.scPure_follows | with_reducible apply Res.Follows.next | fail_if_no_progress with_reducible apply State.Follows.upd | split | trivial | intro _ | dsimp only)

theorem execVshr_follows {z : State} (core : Fin 192) {s : State} (hs : z.Follows s) :
    Res.Follows z (execVshr core s) := by
  unfold execVshr
  repeat' (first | with_reducible assumption | with_reducible apply State.scPure_follows | with_reducible apply Res.Follows.next | fail_if_no_progress with_reducible apply State.Follows.upd | split | trivial | intro _ | dsimp only)

theorem execVshl_follows {z : State} (core : Fin 192) {s : State} (hs : z.Follows s) :
    Res.Follows z (execVshl core s) := by
  unfold execVshl
  repeat' (first | with_reducible assumption | with_reducible apply State.scPure_follows | with_reducible apply Res.Follows.next | fail_if_no_progress with_reducible apply State.Follows.upd | split | trivial | intro _ | dsimp only)

theorem execVmax_follows {z : State} (core : Fin 192) {s : State} (hs : z.Follows s) :
    Res.Follows z (execVmax core s) := by
  unfold execVmax
  repeat' (first | with_reducible assumption | with_reducible apply State.scPure_follows | with_reducible apply Res.Follows.next | fail_if_no_progress with_reducible apply State.Follows.upd | split | trivial | intro _ | dsimp only)

theorem execVmin_follows {z : State} (core : Fin 192) {s : State} (hs : z.Follows s) :
    Res.Follows z (execVmin core s) := by
  unfold execVmin
  repeat' (first | with_reducible assumption | with_reducible apply State.scPure_follows | with_reducible apply Res.Follows.next | fail_if_no_progress with_reducible apply State.Follows.upd | split | trivial | intro _ | dsimp only)

theorem execVconj_follows {z : State} (core : Fin 192) {s : State} (hs : z.Follows s) :
    Res.Follows z (execVconj core s) := by
  unfold execVconj
  repeat' (first | with_reducible assumption | with_reducible refine Res.Follows.ite (fun _ => ?_) (fun _ => ?_) | with_reducible refine State.Follows.ite (fun _ => ?_) (fun _ => ?_) | with_reducible apply State.scPure_follows | with_reducible apply Res.Follows.next | fail_if_no_progress with_reducible apply State.Follows.upd | split | trivial | intro _ | dsimp only)

theorem execVsel_follows {z : State} (core : Fin 192) {s : State} (hs : z.Follows s) :
    Res.Follows z (execVsel core s) := by
  unfold execVsel
  repeat' (first | with_reducible assumption | with_reducible refine Res.Follows.ite (fun _ => ?_) (fun _ => ?_) | with_reducible refine State.Follows.ite (fun _ => ?_) (fun _ => ?_) | with_reducible apply forUpto_follows | with_reducible apply State.scPure_follows | with_reducible apply Res.Follows.next | fail_if_no_progress with_reducible apply State.Follows.upd | split | trivial | intro _ | dsimp only)

theorem execVclr_follows {z : State} (core : Fin 192) {s : State} (hs : z.Follows s) :
    Res.Follows z (execVclr core s) := by
  unfold execVclr
  repeat' (first | with_reducible assumption | with_reducible refine Res.Follows.ite (fun _ => ?_) (fun _ => ?_) | with_reducible refine State.Follows.ite (fun _ => ?_) (fun _ => ?_) | with_reducible apply forUpto_follows | with_reducible apply State.scPure_follows | with_reducible apply Res.Follows.next | fail_if_no_progress with_reducible apply State.Follows.upd | split | trivial | intro _ | dsimp only)

theorem State.scLoad_follows {z : State} {s : State} (core : Nat) (n : Nat) (ecc : Option EccEvent) (w : Nat) (x : ScCtx) (f : List Nat → ScCtx) (hs : z.Follows s) :
    z.Follows (State.scLoad s core n ecc w x f).2 := by
  unfold State.scLoad
  repeat' (first | with_reducible assumption | with_reducible refine State.Follows.ite_snd (fun _ => ?_) (fun _ => ?_) | with_reducible refine State.Follows.ite (fun _ => ?_) (fun _ => ?_) | with_reducible apply State.dmemEcc_follows | with_reducible apply Res.Follows.next | fail_if_no_progress with_reducible apply State.Follows.upd | split | trivial | intro _ | dsimp only)

theorem execVld_follows {z : State} (core : Fin 192) (ecc : Option EccEvent) {s : State} (hs : z.Follows s) :
    Res.Follows z (execVld core ecc s) := by
  unfold execVld
  repeat' (first | with_reducible assumption | with_reducible refine Res.Follows.ite (fun _ => ?_) (fun _ => ?_) | with_reducible refine State.Follows.ite (fun _ => ?_) (fun _ => ?_) | with_reducible apply forUpto_follows | with_reducible apply State.scIssue_follows | with_reducible apply State.scLoad_follows | with_reducible apply Res.Follows.next | fail_if_no_progress with_reducible apply State.Follows.upd | (with_reducible refine State.Follows.of_snd (by with_reducible assumption) ?_) | (with_reducible refine State.Follows.of_fst (by with_reducible assumption) ?_) | (with_reducible refine State.Follows.of_trd (by with_reducible assumption) ?_) | split | trivial | intro _ | dsimp only)

theorem execLdf_follows {z : State} (core : Fin 192) (ecc : Option EccEvent) {s : State} (hs : z.Follows s) :
    Res.Follows z (execLdf core ecc s) := by
  unfold execLdf
  repeat' (first | with_reducible assumption | with_reducible refine Res.Follows.ite (fun _ => ?_) (fun _ => ?_) | with_reducible refine State.Follows.ite (fun _ => ?_) (fun _ => ?_) | with_reducible apply forUpto_follows | with_reducible apply State.scIssue_follows | with_reducible apply State.scLoad_follows | with_reducible apply Res.Follows.next | fail_if_no_progress with_reducible apply State.Follows.upd | (with_reducible refine State.Follows.of_snd (by with_reducible assumption) ?_) | (with_reducible refine State.Follows.of_fst (by with_reducible assumption) ?_) | (with_reducible refine State.Follows.of_trd (by with_reducible assumption) ?_) | split | trivial | intro _ | dsimp only)

theorem execLd_follows {z : State} (core : Fin 192) (ecc : Option EccEvent) {s : State} (hs : z.Follows s) :
    Res.Follows z (execLd core ecc s) := by
  unfold execLd
  repeat' (first | with_reducible assumption | with_reducible refine Res.Follows.ite (fun _ => ?_) (fun _ => ?_) | with_reducible refine State.Follows.ite (fun _ => ?_) (fun _ => ?_) | with_reducible apply State.scIssue_follows | with_reducible apply State.scLoad_follows | with_reducible apply Res.Follows.next | fail_if_no_progress with_reducible apply State.Follows.upd | (with_reducible refine State.Follows.of_snd (by with_reducible assumption) ?_) | (with_reducible refine State.Follows.of_fst (by with_reducible assumption) ?_) | (with_reducible refine State.Follows.of_trd (by with_reducible assumption) ?_) | split | trivial | intro _ | dsimp only)

theorem State.scStore_follows {z : State} {s : State} (core : Nat) (w : Nat) (x : ScCtx) (vals : List Nat) (hs : z.Follows s) :
    z.Follows (State.scStore s core w x vals).2 := by
  unfold State.scStore
  repeat' (first | with_reducible assumption | with_reducible refine State.Follows.ite_snd (fun _ => ?_) (fun _ => ?_) | with_reducible refine State.Follows.ite (fun _ => ?_) (fun _ => ?_) | with_reducible apply forEach_follows | with_reducible apply State.dmemStore_follows | with_reducible apply Res.Follows.next | fail_if_no_progress with_reducible apply State.Follows.upd | split | trivial | intro _ | dsimp only)

theorem execVst_follows {z : State} (core : Fin 192) {s : State} (hs : z.Follows s) :
    Res.Follows z (execVst core s) := by
  unfold execVst
  repeat' (first | with_reducible assumption | with_reducible apply State.scIssue_follows | with_reducible apply State.scStore_follows | with_reducible apply Res.Follows.next | fail_if_no_progress with_reducible apply State.Follows.upd | (with_reducible refine State.Follows.of_snd (by with_reducible assumption) ?_) | (with_reducible refine State.Follows.of_fst (by with_reducible assumption) ?_) | (with_reducible refine State.Follows.of_trd (by with_reducible assumption) ?_) | split | trivial | intro _ | dsimp only)

theorem execSt_follows {z : State} (core : Fin 192) {s : State} (hs : z.Follows s) :
    Res.Follows z (execSt core s) := by
  unfold execSt
  repeat' (first | with_reducible assumption | with_reducible apply State.scIssue_follows | with_reducible apply State.scStore_follows | with_reducible apply Res.Follows.next | fail_if_no_progress with_reducible apply State.Follows.upd | (with_reducible refine State.Follows.of_snd (by with_reducible assumption) ?_) | (with_reducible refine State.Follows.of_fst (by with_reducible assumption) ?_) | (with_reducible refine State.Follows.of_trd (by with_reducible assumption) ?_) | split | trivial | intro _ | dsimp only)

theorem execVperm_follows {z : State} (core : Fin 192) {s : State} (hs : z.Follows s) :
    Res.Follows z (execVperm core s) := by
  unfold execVperm
  repeat' (first | with_reducible assumption | with_reducible refine Res.Follows.ite (fun _ => ?_) (fun _ => ?_) | with_reducible refine State.Follows.ite (fun _ => ?_) (fun _ => ?_) | with_reducible apply State.scPure_follows | with_reducible apply Res.Follows.next | fail_if_no_progress with_reducible apply State.Follows.upd | split | trivial | intro _ | dsimp only)

theorem State.scSb_follows {z : State} {s : State} (core : Nat) (op : Nat) (f : Nat → ScCtx → ScCtx) (hs : z.Follows s) :
    z.Follows (State.scSb s core op f) := by
  unfold State.scSb
  repeat' (first | with_reducible assumption | with_reducible refine State.Follows.ite (fun _ => ?_) (fun _ => ?_) | with_reducible apply State.scPure_follows | with_reducible apply Res.Follows.next | fail_if_no_progress with_reducible apply State.Follows.upd | split | trivial | intro _ | dsimp only)

theorem State.scAlu_follows {z : State} {s : State} (core : Nat) (op : Nat) (g : BitVec 32 → BitVec 32 → BitVec 32) (hs : z.Follows s) :
    z.Follows (State.scAlu s core op g) := by
  unfold State.scAlu
  repeat' (first | with_reducible assumption | with_reducible apply State.scSb_follows | with_reducible apply Res.Follows.next | fail_if_no_progress with_reducible apply State.Follows.upd | split | trivial | intro _ | dsimp only)

theorem execAdd_follows {z : State} (core : Fin 192) {s : State} (hs : z.Follows s) :
    Res.Follows z (execAdd core s) := by
  unfold execAdd
  repeat' (first | with_reducible assumption | with_reducible apply State.scAlu_follows | with_reducible apply Res.Follows.next | fail_if_no_progress with_reducible apply State.Follows.upd | split | trivial | intro _ | dsimp only)

theorem execSub_follows {z : State} (core : Fin 192) {s : State} (hs : z.Follows s) :
    Res.Follows z (execSub core s) := by
  unfold execSub
  repeat' (first | with_reducible assumption | with_reducible apply State.scAlu_follows | with_reducible apply Res.Follows.next | fail_if_no_progress with_reducible apply State.Follows.upd | split | trivial | intro _ | dsimp only)

theorem execAndS_follows {z : State} (core : Fin 192) {s : State} (hs : z.Follows s) :
    Res.Follows z (execAndS core s) := by
  unfold execAndS
  repeat' (first | with_reducible assumption | with_reducible apply State.scAlu_follows | with_reducible apply Res.Follows.next | fail_if_no_progress with_reducible apply State.Follows.upd | split | trivial | intro _ | dsimp only)

theorem execOrS_follows {z : State} (core : Fin 192) {s : State} (hs : z.Follows s) :
    Res.Follows z (execOrS core s) := by
  unfold execOrS
  repeat' (first | with_reducible assumption | with_reducible apply State.scAlu_follows | with_reducible apply Res.Follows.next | fail_if_no_progress with_reducible apply State.Follows.upd | split | trivial | intro _ | dsimp only)

theorem execXorS_follows {z : State} (core : Fin 192) {s : State} (hs : z.Follows s) :
    Res.Follows z (execXorS core s) := by
  unfold execXorS
  repeat' (first | with_reducible assumption | with_reducible apply State.scAlu_follows | with_reducible apply Res.Follows.next | fail_if_no_progress with_reducible apply State.Follows.upd | split | trivial | intro _ | dsimp only)

theorem execShl_follows {z : State} (core : Fin 192) {s : State} (hs : z.Follows s) :
    Res.Follows z (execShl core s) := by
  unfold execShl
  repeat' (first | with_reducible assumption | with_reducible refine Res.Follows.ite (fun _ => ?_) (fun _ => ?_) | with_reducible refine State.Follows.ite (fun _ => ?_) (fun _ => ?_) | with_reducible apply State.scAlu_follows | with_reducible apply Res.Follows.next | fail_if_no_progress with_reducible apply State.Follows.upd | split | trivial | intro _ | dsimp only)

theorem execShr_follows {z : State} (core : Fin 192) {s : State} (hs : z.Follows s) :
    Res.Follows z (execShr core s) := by
  unfold execShr
  repeat' (first | with_reducible assumption | with_reducible refine Res.Follows.ite (fun _ => ?_) (fun _ => ?_) | with_reducible refine State.Follows.ite (fun _ => ?_) (fun _ => ?_) | with_reducible apply State.scAlu_follows | with_reducible apply Res.Follows.next | fail_if_no_progress with_reducible apply State.Follows.upd | split | trivial | intro _ | dsimp only)

theorem execCmp_follows {z : State} (core : Fin 192) {s : State} (hs : z.Follows s) :
    Res.Follows z (execCmp core s) := by
  unfold execCmp
  repeat' (first | with_reducible assumption | with_reducible refine Res.Follows.ite (fun _ => ?_) (fun _ => ?_) | with_reducible refine State.Follows.ite (fun _ => ?_) (fun _ => ?_) | with_reducible apply State.scSb_follows | with_reducible apply Res.Follows.next | fail_if_no_progress with_reducible apply State.Follows.upd | split | trivial | intro _ | dsimp only)

theorem execBr_follows {z : State} (core : Fin 192) {s : State} (hs : z.Follows s) :
    Res.Follows z (execBr core s) := by
  unfold execBr
  repeat' (first | with_reducible assumption | with_reducible apply State.scSb_follows | with_reducible apply Res.Follows.next | fail_if_no_progress with_reducible apply State.Follows.upd | split | trivial | intro _ | dsimp only)

theorem execRepeatLoop_follows {z : State} (core : Fin 192) {s : State} (hs : z.Follows s) :
    Res.Follows z (execRepeatLoop core s) := by
  unfold execRepeatLoop
  repeat' (first | with_reducible assumption | with_reducible refine Res.Follows.ite (fun _ => ?_) (fun _ => ?_) | with_reducible refine State.Follows.ite (fun _ => ?_) (fun _ => ?_) | with_reducible apply State.scSb_follows | with_reducible apply Res.Follows.next | fail_if_no_progress with_reducible apply State.Follows.upd | split | trivial | intro _ | dsimp only)

theorem execSemtry_follows {z : State} (core : Fin 192) {s : State} (hs : z.Follows s) :
    Res.Follows z (execSemtry core s) := by
  unfold execSemtry
  repeat' (first | with_reducible assumption | with_reducible refine Res.Follows.ite (fun _ => ?_) (fun _ => ?_) | with_reducible refine State.Follows.ite (fun _ => ?_) (fun _ => ?_) | with_reducible apply State.setSem_follows | with_reducible apply State.scIssue_follows | with_reducible apply Res.Follows.next | fail_if_no_progress with_reducible apply State.Follows.upd | split | trivial | intro _ | dsimp only)

theorem execSemsig_follows {z : State} (core : Fin 192) {s : State} (hs : z.Follows s) :
    Res.Follows z (execSemsig core s) := by
  unfold execSemsig
  repeat' (first | with_reducible assumption | with_reducible refine Res.Follows.ite (fun _ => ?_) (fun _ => ?_) | with_reducible refine State.Follows.ite (fun _ => ?_) (fun _ => ?_) | with_reducible apply State.sendSignal_follows | with_reducible apply State.scIssue_follows | with_reducible apply Res.Follows.next | fail_if_no_progress with_reducible apply State.Follows.upd | split | trivial | intro _ | dsimp only)

theorem execDoneCmd_follows {z : State} (core : Fin 192) {s : State} (hs : z.Follows s) :
    Res.Follows z (execDoneCmd core s) := by
  unfold execDoneCmd
  repeat' (first | with_reducible assumption | with_reducible apply State.scSb_follows | with_reducible apply Res.Follows.next | fail_if_no_progress with_reducible apply State.Follows.upd | split | trivial | intro _ | dsimp only)

end Sys2Proof.Machine
end

