-- ==== Sys2Proof/Laws/SchedFollows.lean ====
section
/-! SUPPORT. Laws/SchedFollows.lean: every operation of Machine/Sched.lean follows: what it does to the queue, the outputs, the draw counter and the invariant (Safety.lean). -/
set_option linter.unusedVariables false
set_option linter.unreachableTactic false
set_option linter.unusedTactic false
namespace Sys2Proof.Machine

open Sys2Proof

theorem execSqTailWrite_follows {z : State} (req : Requester) (tail : BitVec 16) {s : State} (hs : z.Follows s) :
    Res.Follows z (execSqTailWrite req tail s) := by
  unfold execSqTailWrite
  repeat' (first | with_reducible assumption | with_reducible refine Res.Follows.ite (fun _ => ?_) (fun _ => ?_) | with_reducible refine State.Follows.ite (fun _ => ?_) (fun _ => ?_) | with_reducible apply State.setFld_follows | with_reducible apply State.access_follows | with_reducible apply State.ringRetry_follows | with_reducible apply Res.Follows.next | fail_if_no_progress with_reducible apply State.Follows.upd | split | trivial | intro _ | dsimp only)

theorem State.easEnable_follows {z : State} {s : State} (e : Nat) (hs : z.Follows s) :
    z.Follows (State.easEnable s e) := by
  unfold State.easEnable
  repeat' (first | with_reducible assumption | with_reducible refine State.Follows.ite (fun _ => ?_) (fun _ => ?_) | with_reducible apply State.setFld_follows | with_reducible apply State.setFlag_follows | with_reducible apply State.setRingNote_follows | with_reducible apply State.showCqFull_follows | with_reducible apply State.deliver_follows | with_reducible apply Res.Follows.next | fail_if_no_progress with_reducible apply State.Follows.upd | split | trivial | intro _ | dsimp only)

theorem execEaselEnable_follows {z : State} (req : Requester) {s : State} (hs : z.Follows s) :
    Res.Follows z (execEaselEnable req s) := by
  unfold execEaselEnable
  repeat' (first | with_reducible assumption | with_reducible refine Res.Follows.ite (fun _ => ?_) (fun _ => ?_) | with_reducible refine State.Follows.ite (fun _ => ?_) (fun _ => ?_) | with_reducible apply State.access_follows | with_reducible apply State.easEnable_follows | with_reducible apply Res.Follows.next | fail_if_no_progress with_reducible apply State.Follows.upd | split | trivial | intro _ | dsimp only)

theorem execCqHeadWrite_follows {z : State} (req : Requester) (head : BitVec 16) {s : State} (hs : z.Follows s) :
    Res.Follows z (execCqHeadWrite req head s) := by
  unfold execCqHeadWrite
  repeat' (first | with_reducible assumption | with_reducible refine Res.Follows.ite (fun _ => ?_) (fun _ => ?_) | with_reducible refine State.Follows.ite (fun _ => ?_) (fun _ => ?_) | with_reducible apply State.setFld_follows | with_reducible apply State.access_follows | with_reducible apply State.ringRetry_follows | with_reducible apply State.showCqFull_follows | with_reducible apply State.deliver_follows | with_reducible apply Res.Follows.next | fail_if_no_progress with_reducible apply State.Follows.upd | split | trivial | intro _ | dsimp only)

theorem State.sqFetch_follows {z : State} {s : State} (e : Nat) (host : Blob) (hs : z.Follows s) :
    z.Follows (State.sqFetch s e host).2 := by
  unfold State.sqFetch
  repeat' (first | with_reducible assumption | with_reducible refine State.Follows.ite_snd (fun _ => ?_) (fun _ => ?_) | with_reducible refine State.Follows.ite (fun _ => ?_) (fun _ => ?_) | with_reducible apply State.countUnits_follows | with_reducible apply State.bondLoad_follows | with_reducible apply State.setRingNote_follows | with_reducible apply State.ringFault_follows | with_reducible apply Res.Follows.next | fail_if_no_progress with_reducible apply State.Follows.upd | split | trivial | intro _ | dsimp only)

theorem State.sqAdvance_follows {z : State} {s : State} (e : Nat) (hs : z.Follows s) :
    z.Follows (State.sqAdvance s e) := by
  unfold State.sqAdvance
  repeat' (first | with_reducible assumption | with_reducible apply State.setFld_follows | with_reducible apply State.setFlag_follows | with_reducible apply Res.Follows.next | fail_if_no_progress with_reducible apply State.Follows.upd | split | trivial | intro _ | dsimp only)

theorem State.refuseEntry_follows {z : State} {s : State} (e : Nat) (st : Nat) (d : List Nat) (hs : z.Follows s) :
    z.Follows (State.refuseEntry s e st d) := by
  unfold State.refuseEntry
  repeat' (first | with_reducible assumption | with_reducible apply State.postRecord_follows | with_reducible apply State.sqAdvance_follows | with_reducible apply Res.Follows.next | fail_if_no_progress with_reducible apply State.Follows.upd | split | trivial | intro _ | dsimp only)

theorem State.admitEntry_follows {z : State} {s : State} (e : Nat) (d : List Nat) (hs : z.Follows s) :
    z.Follows (State.admitEntry s e d) := by
  unfold State.admitEntry
  repeat' (first | with_reducible assumption | with_reducible refine State.Follows.ite (fun _ => ?_) (fun _ => ?_) | with_reducible apply State.enroll_follows | with_reducible apply State.setTcore_follows | with_reducible apply State.tcTakes_follows | with_reducible apply State.armChan_follows | with_reducible apply State.setScore_follows | with_reducible apply State.scTakes_follows | with_reducible apply Res.Follows.next | fail_if_no_progress with_reducible apply State.Follows.upd | (with_reducible refine State.Follows.of_snd (by with_reducible assumption) ?_) | (with_reducible refine State.Follows.of_fst (by with_reducible assumption) ?_) | (with_reducible refine State.Follows.of_trd (by with_reducible assumption) ?_) | split | trivial | intro _ | dsimp only)

theorem State.submitHead_follows {z : State} {s : State} (e : Nat) (kind : Nat) (host : Blob) (hs : z.Follows s) :
    z.Follows (State.submitHead s e kind host) := by
  unfold State.submitHead
  repeat' (first | with_reducible assumption | with_reducible refine State.Follows.ite (fun _ => ?_) (fun _ => ?_) | with_reducible apply State.setFlag_follows | with_reducible apply State.sqFetch_follows | with_reducible apply State.sqAdvance_follows | with_reducible apply State.refuseEntry_follows | with_reducible apply State.admitEntry_follows | with_reducible apply Res.Follows.next | fail_if_no_progress with_reducible apply State.Follows.upd | (with_reducible refine State.Follows.of_snd (by with_reducible assumption) ?_) | (with_reducible refine State.Follows.of_fst (by with_reducible assumption) ?_) | (with_reducible refine State.Follows.of_trd (by with_reducible assumption) ?_) | split | trivial | intro _ | dsimp only)

theorem execSubmitTCore_follows {z : State} (easel : Fin 64) (host : Blob) {s : State} (hs : z.Follows s) :
    Res.Follows z (execSubmitTCore easel host s) := by
  unfold execSubmitTCore
  repeat' (first | with_reducible assumption | with_reducible apply State.submitHead_follows | with_reducible apply Res.Follows.next | fail_if_no_progress with_reducible apply State.Follows.upd | split | trivial | intro _ | dsimp only)

theorem execSubmitSCore_follows {z : State} (easel : Fin 64) (host : Blob) {s : State} (hs : z.Follows s) :
    Res.Follows z (execSubmitSCore easel host s) := by
  unfold execSubmitSCore
  repeat' (first | with_reducible assumption | with_reducible apply State.submitHead_follows | with_reducible apply Res.Follows.next | fail_if_no_progress with_reducible apply State.Follows.upd | split | trivial | intro _ | dsimp only)

theorem execSubmitChannelArm_follows {z : State} (easel : Fin 64) (host : Blob) {s : State} (hs : z.Follows s) :
    Res.Follows z (execSubmitChannelArm easel host s) := by
  unfold execSubmitChannelArm
  repeat' (first | with_reducible assumption | with_reducible apply State.submitHead_follows | with_reducible apply Res.Follows.next | fail_if_no_progress with_reducible apply State.Follows.upd | split | trivial | intro _ | dsimp only)

theorem State.setVtime_follows {z : State} {s : State} (eng : Nat) (e : Nat) (v : Rat) (hs : z.Follows s) :
    z.Follows (State.setVtime s eng e v) := by
  unfold State.setVtime
  repeat' (first | with_reducible assumption | with_reducible apply Res.Follows.next | fail_if_no_progress with_reducible apply State.Follows.upd | split | trivial | intro _ | dsimp only)

theorem State.noteEligible_follows {z : State} {s : State} (eng : Nat) (es : List Nat) (hs : z.Follows s) :
    z.Follows (State.noteEligible s eng es) := by
  unfold State.noteEligible
  repeat' (first | with_reducible assumption | with_reducible apply forEach_follows | with_reducible apply State.setVtime_follows | with_reducible apply Res.Follows.next | fail_if_no_progress with_reducible apply State.Follows.upd | split | trivial | intro _ | dsimp only)

theorem State.charge_follows {z : State} {s : State} (eng : Nat) (e : Nat) (d : Nat) (hs : z.Follows s) :
    z.Follows (State.charge s eng e d) := by
  unfold State.charge
  repeat' (first | with_reducible assumption | with_reducible refine State.Follows.ite (fun _ => ?_) (fun _ => ?_) | with_reducible apply State.setVtime_follows | with_reducible apply Res.Follows.next | fail_if_no_progress with_reducible apply State.Follows.upd | split | trivial | intro _ | dsimp only)

theorem State.passOver_follows {z : State} {s : State} (c : Cmd) (hs : z.Follows s) :
    z.Follows (State.passOver s c) := by
  unfold State.passOver
  repeat' (first | with_reducible assumption | with_reducible refine State.Follows.ite (fun _ => ?_) (fun _ => ?_) | with_reducible apply State.incSat_follows | with_reducible apply Res.Follows.next | fail_if_no_progress with_reducible apply State.Follows.upd | split | trivial | intro _ | dsimp only)

theorem State.tcGrant_follows {z : State} {s : State} (core : Nat) (early : Nat) (c : Cmd) (hs : z.Follows s) :
    z.Follows (State.tcGrant s core early c) := by
  unfold State.tcGrant
  repeat' (first | with_reducible assumption | with_reducible refine State.Follows.ite (fun _ => ?_) (fun _ => ?_) | with_reducible apply forEach_follows | with_reducible apply State.setTcore_follows | with_reducible apply State.loadSet_follows | with_reducible apply Res.Follows.next | fail_if_no_progress with_reducible apply State.Follows.upd | split | trivial | intro _ | dsimp only)

theorem State.tcDecide_follows {z : State} {s : State} (core : Nat) (t : Nat) (ready : Nat) (pLive : Nat) (early : Nat) (hs : z.Follows s) :
    z.Follows (State.tcDecide s core t ready pLive early) := by
  unfold State.tcDecide
  repeat' (first | with_reducible assumption | with_reducible apply forEach_follows | with_reducible apply State.setTcore_follows | with_reducible apply State.noteEligible_follows | with_reducible apply State.charge_follows | with_reducible apply State.passOver_follows | with_reducible apply State.tcGrant_follows | with_reducible apply Res.Follows.next | fail_if_no_progress with_reducible apply State.Follows.upd | split | trivial | intro _ | dsimp only)

theorem State.scGrant_follows {z : State} {s : State} (core : Nat) (c : Cmd) (hs : z.Follows s) :
    z.Follows (State.scGrant s core c) := by
  unfold State.scGrant
  repeat' (first | with_reducible assumption | with_reducible apply State.setScore_follows | with_reducible apply Res.Follows.next | fail_if_no_progress with_reducible apply State.Follows.upd | split | trivial | intro _ | dsimp only)

theorem State.scDecide_follows {z : State} {s : State} (core : Nat) (t : Nat) (hs : z.Follows s) :
    z.Follows (State.scDecide s core t) := by
  unfold State.scDecide
  repeat' (first | with_reducible assumption | with_reducible refine State.Follows.ite (fun _ => ?_) (fun _ => ?_) | with_reducible apply forEach_follows | with_reducible apply State.setScore_follows | with_reducible apply State.noteEligible_follows | with_reducible apply State.charge_follows | with_reducible apply State.passOver_follows | with_reducible apply State.scGrant_follows | with_reducible apply Res.Follows.next | fail_if_no_progress with_reducible apply State.Follows.upd | split | trivial | intro _ | dsimp only)

theorem execGrant_follows {z : State} (eng : Engine) (t : Nat) (ready : BitVec 4) (pLive : Nat) (early : BitVec 4) {s : State} (hs : z.Follows s) :
    Res.Follows z (execGrant eng t ready pLive early s) := by
  unfold execGrant
  repeat' (first | with_reducible assumption | with_reducible refine Res.Follows.ite (fun _ => ?_) (fun _ => ?_) | with_reducible refine State.Follows.ite (fun _ => ?_) (fun _ => ?_) | with_reducible apply State.tcDecide_follows | with_reducible apply State.scDecide_follows | with_reducible apply Res.Follows.next | fail_if_no_progress with_reducible apply State.Follows.upd | split | trivial | intro _ | dsimp only)

theorem State.setPartitioned_follows {z : State} {s : State} (b : Bool) (hs : z.Follows s) :
    z.Follows (State.setPartitioned s b) := by
  unfold State.setPartitioned
  repeat' (first | with_reducible assumption | with_reducible refine State.Follows.ite (fun _ => ?_) (fun _ => ?_) | with_reducible apply State.setFlag_follows | with_reducible apply State.showMoving_follows | with_reducible apply Res.Follows.next | fail_if_no_progress with_reducible apply State.Follows.upd | split | trivial | intro _ | dsimp only)

theorem execToNormal_follows {z : State} (req : Requester) (key : BitVec 8) {s : State} (hs : z.Follows s) :
    Res.Follows z (execToNormal req key s) := by
  unfold execToNormal
  repeat' (first | with_reducible assumption | with_reducible refine Res.Follows.ite (fun _ => ?_) (fun _ => ?_) | with_reducible refine State.Follows.ite (fun _ => ?_) (fun _ => ?_) | with_reducible apply State.access_follows | with_reducible apply State.setPartitioned_follows | with_reducible apply Res.Follows.next | fail_if_no_progress with_reducible apply State.Follows.upd | split | trivial | intro _ | dsimp only)

theorem execToPartitioned_follows {z : State} (req : Requester) (key : BitVec 8) {s : State} (hs : z.Follows s) :
    Res.Follows z (execToPartitioned req key s) := by
  unfold execToPartitioned
  repeat' (first | with_reducible assumption | with_reducible refine Res.Follows.ite (fun _ => ?_) (fun _ => ?_) | with_reducible refine State.Follows.ite (fun _ => ?_) (fun _ => ?_) | with_reducible apply State.access_follows | with_reducible apply State.setPartitioned_follows | with_reducible apply Res.Follows.next | fail_if_no_progress with_reducible apply State.Follows.upd | split | trivial | intro _ | dsimp only)

end Sys2Proof.Machine
end

