-- ==== Sys2Proof/Laws/RadBaseFollows.lean ====
section
/-! SUPPORT. Laws/RadBaseFollows.lean: every operation of Machine/RadBase.lean follows: what it does to the queue, the outputs, the draw counter and the invariant (Safety.lean). -/
set_option linter.unusedVariables false
set_option linter.unreachableTactic false
set_option linter.unusedTactic false
namespace Sys2Proof.Machine

open Sys2Proof

theorem State.setRad_follows {z : State} {s : State} (c : Nat) (v : RadCell) (hs : z.Follows s) :
    z.Follows (State.setRad s c v) := by
  unfold State.setRad
  repeat' (first | with_reducible assumption | with_reducible apply Res.Follows.next | fail_if_no_progress with_reducible apply State.Follows.upd | split | trivial | intro _ | dsimp only)

theorem State.setSlot_follows {z : State} {s : State} (c : Nat) (n : Nat) (v : RadSlot) (hs : z.Follows s) :
    z.Follows (State.setSlot s c n v) := by
  unfold State.setSlot
  repeat' (first | with_reducible assumption | with_reducible apply State.setRad_follows | with_reducible apply Res.Follows.next | fail_if_no_progress with_reducible apply State.Follows.upd | split | trivial | intro _ | dsimp only)

theorem State.showCells_follows {z : State} {s : State} (hs : z.Follows s) :
    z.Follows (State.showCells s) := by
  unfold State.showCells
  repeat' (first | with_reducible assumption | with_reducible refine State.Follows.ite (fun _ => ?_) (fun _ => ?_) | with_reducible apply State.setFld_follows | with_reducible apply State.setFlag_follows | with_reducible apply Res.Follows.next | fail_if_no_progress with_reducible apply State.Follows.upd | split | trivial | intro _ | dsimp only)

theorem State.setCell_follows {z : State} {s : State} (c : Nat) (st : Nat) (hs : z.Follows s) :
    z.Follows (State.setCell s c st) := by
  unfold State.setCell
  repeat' (first | with_reducible assumption | with_reducible apply State.setFld_follows | with_reducible apply State.showCells_follows | with_reducible apply Res.Follows.next | fail_if_no_progress with_reducible apply State.Follows.upd | split | trivial | intro _ | dsimp only)

theorem State.sayL2_follows {z : State} {s : State} (c : Nat) (kind : Nat) (n : Nat) (args : List (List Nat)) (hs : z.Follows s) :
    z.Follows (State.sayL2 s c kind n args) := by
  unfold State.sayL2
  repeat' (first | with_reducible assumption | with_reducible apply State.postInd_follows | with_reducible apply Res.Follows.next | fail_if_no_progress with_reducible apply State.Follows.upd | split | trivial | intro _ | dsimp only)

theorem State.tellL2_follows {z : State} {s : State} (c : Nat) (kind : Nat) (n : Nat) (args : List (List Nat)) (hs : z.Follows s) :
    z.Follows (State.tellL2 s c kind n args) := by
  unfold State.tellL2
  repeat' (first | with_reducible assumption | with_reducible refine State.Follows.ite (fun _ => ?_) (fun _ => ?_) | with_reducible apply State.sayL2_follows | with_reducible apply Res.Follows.next | fail_if_no_progress with_reducible apply State.Follows.upd | split | trivial | intro _ | dsimp only)

theorem State.answerError_follows {z : State} {s : State} (c : Nat) (n : Nat) (code : Nat) (hs : z.Follows s) :
    z.Follows (State.answerError s c n code) := by
  unfold State.answerError
  repeat' (first | with_reducible assumption | with_reducible apply State.sayL2_follows | with_reducible apply Res.Follows.next | fail_if_no_progress with_reducible apply State.Follows.upd | split | trivial | intro _ | dsimp only)

theorem State.tellSlotErr_follows {z : State} {s : State} (c : Nat) (n : Nat) (hs : z.Follows s) :
    z.Follows (State.tellSlotErr s c n) := by
  unfold State.tellSlotErr
  repeat' (first | with_reducible assumption | with_reducible apply State.tellL2_follows | with_reducible apply Res.Follows.next | fail_if_no_progress with_reducible apply State.Follows.upd | split | trivial | intro _ | dsimp only)

theorem State.radioData_follows {z : State} {s : State} (hs : z.Follows s) :
    z.Follows (State.radioData s).2 := by
  unfold State.radioData
  repeat' (first | with_reducible assumption | with_reducible apply State.draw_follows | with_reducible apply Res.Follows.next | fail_if_no_progress with_reducible apply State.Follows.upd | (with_reducible refine State.Follows.of_snd (by with_reducible assumption) ?_) | (with_reducible refine State.Follows.of_fst (by with_reducible assumption) ?_) | (with_reducible refine State.Follows.of_trd (by with_reducible assumption) ?_) | split | trivial | intro _ | dsimp only)

theorem State.startHard_follows {z : State} {s : State} (panel : Nat) (engine : Nat) (hs : z.Follows s) :
    z.Follows (State.startHard s panel engine) := by
  unfold State.startHard
  repeat' (first | with_reducible assumption | with_reducible refine State.Follows.ite (fun _ => ?_) (fun _ => ?_) | with_reducible apply State.incSat_follows | with_reducible apply State.setSlot_follows | with_reducible apply Res.Follows.next | fail_if_no_progress with_reducible apply State.Follows.upd | split | trivial | intro _ | dsimp only)

theorem State.pumpHard_follows {z : State} {s : State} (panel : Nat) (hs : z.Follows s) :
    z.Follows (State.pumpHard s panel) := by
  unfold State.pumpHard
  repeat' (first | with_reducible assumption | with_reducible apply forUpto_follows | with_reducible apply forEach_follows | with_reducible apply State.startHard_follows | with_reducible apply Res.Follows.next | fail_if_no_progress with_reducible apply State.Follows.upd | split | trivial | intro _ | dsimp only)

theorem State.reportDone_follows {z : State} {s : State} (c : Nat) (n : Nat) (hs : z.Follows s) :
    z.Follows (State.reportDone s c n) := by
  unfold State.reportDone
  repeat' (first | with_reducible assumption | with_reducible refine State.Follows.ite (fun _ => ?_) (fun _ => ?_) | with_reducible apply forEach_follows | with_reducible apply State.draw_follows | with_reducible apply State.setRad_follows | with_reducible apply State.setSlot_follows | with_reducible apply State.tellL2_follows | with_reducible apply State.radioData_follows | with_reducible apply Res.Follows.next | fail_if_no_progress with_reducible apply State.Follows.upd | (with_reducible refine State.Follows.of_snd (by with_reducible assumption) ?_) | (with_reducible refine State.Follows.of_fst (by with_reducible assumption) ?_) | (with_reducible refine State.Follows.of_trd (by with_reducible assumption) ?_) | split | trivial | intro _ | dsimp only)

theorem State.itemDone_follows {z : State} {s : State} (c : Nat) (n : Nat) (i : Nat) (hs : z.Follows s) :
    z.Follows (State.itemDone s c n i) := by
  unfold State.itemDone
  repeat' (first | with_reducible assumption | with_reducible refine State.Follows.ite (fun _ => ?_) (fun _ => ?_) | with_reducible apply State.setSlot_follows | with_reducible apply State.pumpHard_follows | with_reducible apply State.reportDone_follows | with_reducible apply Res.Follows.next | fail_if_no_progress with_reducible apply State.Follows.upd | split | trivial | intro _ | dsimp only)

theorem State.removeStroke_follows {z : State} {s : State} (n : Nat) (id : Nat) (hs : z.Follows s) :
    z.Follows (State.removeStroke s n id) := by
  unfold State.removeStroke
  repeat' (first | with_reducible assumption | with_reducible refine State.Follows.ite (fun _ => ?_) (fun _ => ?_) | with_reducible apply State.dropRun_follows | with_reducible apply State.dropTakes_follows | with_reducible apply State.setChan_follows | with_reducible apply State.chState_follows | with_reducible apply State.startRun_follows | with_reducible apply State.endRun_follows | with_reducible apply Res.Follows.next | fail_if_no_progress with_reducible apply State.Follows.upd | split | trivial | intro _ | dsimp only)

theorem State.removeItem_follows {z : State} {s : State} (x : RadItem) (hs : z.Follows s) :
    z.Follows (State.removeItem s x) := by
  unfold State.removeItem
  repeat' (first | with_reducible assumption | with_reducible apply State.retire_follows | with_reducible apply State.dropTakes_follows | with_reducible apply State.setTcore_follows | with_reducible apply State.setScore_follows | with_reducible apply State.removeStroke_follows | with_reducible apply Res.Follows.next | fail_if_no_progress with_reducible apply State.Follows.upd | split | trivial | intro _ | dsimp only)

theorem State.shedItem_follows {z : State} {s : State} (c : Nat) (n : Nat) (i : Nat) (hs : z.Follows s) :
    z.Follows (State.shedItem s c n i) := by
  unfold State.shedItem
  repeat' (first | with_reducible assumption | with_reducible refine State.Follows.ite (fun _ => ?_) (fun _ => ?_) | with_reducible apply forEach_follows | with_reducible apply State.incSat_follows | with_reducible apply State.setSlot_follows | with_reducible apply State.tellSlotErr_follows | with_reducible apply State.pumpHard_follows | with_reducible apply State.removeItem_follows | with_reducible apply Res.Follows.next | fail_if_no_progress with_reducible apply State.Follows.upd | split | trivial | intro _ | dsimp only)

theorem State.radioEnd_follows {z : State} {s : State} (id : Nat) (st : Nat) (hs : z.Follows s) :
    z.Follows (State.radioEnd s id st) := by
  unfold State.radioEnd
  repeat' (first | with_reducible assumption | with_reducible refine State.Follows.ite (fun _ => ?_) (fun _ => ?_) | with_reducible apply State.itemDone_follows | with_reducible apply State.shedItem_follows | with_reducible apply Res.Follows.next | fail_if_no_progress with_reducible apply State.Follows.upd | split | trivial | intro _ | dsimp only)

theorem State.consumeRuns_follows {z : State} {s : State} (hs : z.Follows s) :
    z.Follows (State.consumeRuns s) := by
  unfold State.consumeRuns
  repeat' (first | with_reducible assumption | with_reducible refine State.Follows.ite (fun _ => ?_) (fun _ => ?_) | with_reducible apply forEach_follows | with_reducible apply State.radioEnd_follows | with_reducible apply Res.Follows.next | fail_if_no_progress with_reducible apply State.Follows.upd | split | trivial | intro _ | dsimp only)

theorem State.hardPanelReset_follows {z : State} {s : State} (p : Nat) (hs : z.Follows s) :
    z.Follows (State.hardPanelReset s p) := by
  unfold State.hardPanelReset
  repeat' (first | with_reducible assumption | with_reducible apply forEach_follows | with_reducible apply State.shedItem_follows | with_reducible apply Res.Follows.next | fail_if_no_progress with_reducible apply State.Follows.upd | split | trivial | intro _ | dsimp only)

theorem State.showHarq_follows {z : State} {s : State} (c : Nat) (hs : z.Follows s) :
    z.Follows (State.showHarq s c) := by
  unfold State.showHarq
  repeat' (first | with_reducible assumption | with_reducible apply State.setFld_follows | with_reducible apply Res.Follows.next | fail_if_no_progress with_reducible apply State.Follows.upd | with_reducible apply foldl_follows | with_reducible apply foldl_fst_follows | with_reducible apply foldl_snd_follows | with_reducible apply foldl_trd_follows | split | trivial | intro _ | dsimp only)

theorem State.harqFree_follows {z : State} {s : State} (c : Nat) (k : Nat) (hs : z.Follows s) :
    z.Follows (State.harqFree s c k) := by
  unfold State.harqFree
  repeat' (first | with_reducible assumption | with_reducible apply State.setRad_follows | with_reducible apply State.showHarq_follows | with_reducible apply Res.Follows.next | fail_if_no_progress with_reducible apply State.Follows.upd | split | trivial | intro _ | dsimp only)

theorem State.harqAlloc_follows {z : State} {s : State} (c : Nat) (n : Nat) (p : RadPdu) (hs : z.Follows s) :
    z.Follows (State.harqAlloc s c n p) := by
  unfold State.harqAlloc
  repeat' (first | with_reducible assumption | with_reducible refine State.Follows.ite (fun _ => ?_) (fun _ => ?_) | with_reducible apply State.incSat_follows | with_reducible apply State.setRad_follows | with_reducible apply State.showHarq_follows | with_reducible apply Res.Follows.next | fail_if_no_progress with_reducible apply State.Follows.upd | split | trivial | intro _ | dsimp only)

theorem State.harqRequest_follows {z : State} {s : State} (c : Nat) (n : Nat) (p : RadPdu) (hs : z.Follows s) :
    z.Follows (State.harqRequest s c n p) := by
  unfold State.harqRequest
  repeat' (first | with_reducible assumption | with_reducible refine State.Follows.ite (fun _ => ?_) (fun _ => ?_) | with_reducible apply State.incSat_follows | with_reducible apply State.setRad_follows | with_reducible apply State.harqFree_follows | with_reducible apply State.harqAlloc_follows | with_reducible apply Res.Follows.next | fail_if_no_progress with_reducible apply State.Follows.upd | split | trivial | intro _ | dsimp only)

theorem State.harqRead_follows {z : State} {s : State} (c : Nat) (x1 : List (Nat × Nat)) (hs : z.Follows s) :
    z.Follows (State.harqRead s c x1).2 := by
  induction x1 generalizing s with
  | nil => unfold State.harqRead; repeat' (first | with_reducible assumption | with_reducible refine State.Follows.ite_snd (fun _ => ?_) (fun _ => ?_) | with_reducible refine State.Follows.ite (fun _ => ?_) (fun _ => ?_) | with_reducible apply State.incSat_follows | with_reducible apply State.bondLoad_follows | with_reducible apply ih | with_reducible apply Res.Follows.next | fail_if_no_progress with_reducible apply State.Follows.upd | (with_reducible refine State.Follows.of_snd (by with_reducible assumption) ?_) | (with_reducible refine State.Follows.of_fst (by with_reducible assumption) ?_) | (with_reducible refine State.Follows.of_trd (by with_reducible assumption) ?_) | split | trivial | intro _ | dsimp only)
  | cons a r ih => unfold State.harqRead; repeat' (first | with_reducible assumption | with_reducible refine State.Follows.ite_snd (fun _ => ?_) (fun _ => ?_) | with_reducible refine State.Follows.ite (fun _ => ?_) (fun _ => ?_) | with_reducible apply State.incSat_follows | with_reducible apply State.bondLoad_follows | with_reducible apply ih | with_reducible apply Res.Follows.next | fail_if_no_progress with_reducible apply State.Follows.upd | (with_reducible refine State.Follows.of_snd (by with_reducible assumption) ?_) | (with_reducible refine State.Follows.of_fst (by with_reducible assumption) ?_) | (with_reducible refine State.Follows.of_trd (by with_reducible assumption) ?_) | split | trivial | intro _ | dsimp only)

theorem State.unpoison_follows {z s : State} (k n : Nat) (hs : z.Follows s) : z.Follows (State.unpoison s k n) :=
  ⟨hs.pending, hs.out, hs.free, fun i => let j := hs.inv i; ⟨j.mem, j.regs, NSet.wf_filter _ _ j.poison, j.used, j.tod⟩⟩

theorem State.healRun_follows {z : State} {s : State} (a : Nat) (n : Nat) (hs : z.Follows s) :
    z.Follows (State.healRun s a n) := by
  unfold State.healRun
  repeat' (first | with_reducible assumption | with_reducible apply forEach_follows | with_reducible apply State.bondStore_follows | with_reducible apply State.unpoison_follows | with_reducible apply Res.Follows.next | fail_if_no_progress with_reducible apply State.Follows.upd | split | trivial | intro _ | dsimp only)

theorem State.harqWrite_follows {z : State} {s : State} (runs : List (Nat × Nat)) (vs : List Int) (hs : z.Follows s) :
    z.Follows (State.harqWrite s runs vs) := by
  unfold State.harqWrite
  repeat' (first | with_reducible assumption | with_reducible apply State.bondStore_follows | with_reducible apply State.healRun_follows | with_reducible apply Res.Follows.next | fail_if_no_progress with_reducible apply State.Follows.upd | with_reducible apply foldl_follows | with_reducible apply foldl_fst_follows | with_reducible apply foldl_snd_follows | with_reducible apply foldl_trd_follows | split | trivial | intro _ | dsimp only)

theorem State.holdCells_follows {z : State} {s : State} (hs : z.Follows s) :
    z.Follows (State.holdCells s) := by
  unfold State.holdCells
  repeat' (first | with_reducible assumption | with_reducible apply forEach_follows | with_reducible apply State.setRad_follows | with_reducible apply Res.Follows.next | fail_if_no_progress with_reducible apply State.Follows.upd | split | trivial | intro _ | dsimp only)

theorem State.dropFapi_follows {z : State} {s : State} (hs : z.Follows s) :
    z.Follows (State.dropFapi s) := by
  unfold State.dropFapi
  repeat' (first | with_reducible assumption | with_reducible apply forUpto_follows | with_reducible apply State.fqDisable_follows | with_reducible apply State.holdCells_follows | with_reducible apply Res.Follows.next | fail_if_no_progress with_reducible apply State.Follows.upd | split | trivial | intro _ | dsimp only)

end Sys2Proof.Machine
end

