-- ==== Sys2Proof/Laws/EthFollows.lean ====
section
/-! SUPPORT. Laws/EthFollows.lean: every operation of Machine/Eth.lean follows: what it does to the queue, the outputs, the draw counter and the invariant (Safety.lean). -/
set_option linter.unusedVariables false
set_option linter.unreachableTactic false
set_option linter.unusedTactic false
namespace Sys2Proof.Machine

open Sys2Proof

theorem State.rxAppend_follows {z : State} {s : State} (f : Nat) (flags : Nat) (sub : Nat) (stamp : Nat) (d : List Nat) (hs : z.Follows s) :
    z.Follows (State.rxAppend s f flags sub stamp d) := by
  unfold State.rxAppend
  repeat' (first | with_reducible assumption | with_reducible refine State.Follows.ite (fun _ => ?_) (fun _ => ?_) | with_reducible apply State.incSat_follows | with_reducible apply State.incWrap_follows | (with_reducible refine fun _ h_ => State.palAppend_follows _ _ ?_ _ h_) | with_reducible apply Res.Follows.next | fail_if_no_progress with_reducible apply State.Follows.upd | (with_reducible refine State.Follows.of_opt (by with_reducible assumption) ?_) | (with_reducible refine State.Follows.of_opt_snd (by with_reducible assumption) ?_) | (with_reducible refine State.Follows.of_opt_fst (by with_reducible assumption) ?_) | split | trivial | intro _ | dsimp only)

theorem State.rxEcpri_follows {z : State} {s : State} (f : Nat) (flags : Nat) (sub : Nat) (stamp : Nat) (d : List Nat) (hs : z.Follows s) :
    z.Follows (State.rxEcpri s f flags sub stamp d) := by
  unfold State.rxEcpri
  repeat' (first | with_reducible assumption | with_reducible refine State.Follows.ite (fun _ => ?_) (fun _ => ?_) | with_reducible apply State.rxAppend_follows | with_reducible apply Res.Follows.next | fail_if_no_progress with_reducible apply State.Follows.upd | split | trivial | intro _ | dsimp only)

theorem State.rxCell_follows {z : State} {s : State} (c : Nat) (f : Nat) (flags : Nat) (sub : Nat) (stamp : Nat) (d : List Nat) (hs : z.Follows s) :
    z.Follows (State.rxCell s c f flags sub stamp d) := by
  unfold State.rxCell
  repeat' (first | with_reducible assumption | with_reducible refine State.Follows.ite (fun _ => ?_) (fun _ => ?_) | with_reducible apply State.incSat_follows | with_reducible apply State.setSlot_follows | with_reducible apply State.rxAppend_follows | with_reducible apply Res.Follows.next | fail_if_no_progress with_reducible apply State.Follows.upd | split | trivial | intro _ | dsimp only)

theorem State.rxFlow_follows {z : State} {s : State} (sub : Nat) (stamp : Nat) (bcast : Bool) (d : List Nat) (f : Nat) (hs : z.Follows s) :
    z.Follows (State.rxFlow s sub stamp bcast d f) := by
  unfold State.rxFlow
  repeat' (first | with_reducible assumption | with_reducible refine State.Follows.ite (fun _ => ?_) (fun _ => ?_) | with_reducible apply State.incSat_follows | with_reducible apply State.rxAppend_follows | with_reducible apply State.rxEcpri_follows | with_reducible apply State.rxCell_follows | with_reducible apply Res.Follows.next | fail_if_no_progress with_reducible apply State.Follows.upd | split | trivial | intro _ | dsimp only)

theorem State.fecCount_follows {z : State} {s : State} (port : Nat) (ce : Nat) (ue : Nat) (hs : z.Follows s) :
    z.Follows (State.fecCount s port ce ue) := by
  unfold State.fecCount
  repeat' (first | with_reducible assumption | with_reducible refine State.Follows.ite (fun _ => ?_) (fun _ => ?_) | with_reducible apply State.incSat_follows | with_reducible apply State.detect_follows | with_reducible apply State.inject_follows | with_reducible apply Res.Follows.next | fail_if_no_progress with_reducible apply State.Follows.upd | with_reducible apply foldl_follows | with_reducible apply foldl_fst_follows | with_reducible apply foldl_snd_follows | with_reducible apply foldl_trd_follows | (with_reducible refine State.Follows.of_snd (by with_reducible assumption) ?_) | (with_reducible refine State.Follows.of_fst (by with_reducible assumption) ?_) | (with_reducible refine State.Follows.of_trd (by with_reducible assumption) ?_) | split | trivial | intro _ | dsimp only)

theorem execEthFrameRx_follows {z : State} (sub : Fin 32) (bytes : List Nat) (fcs : Bool) (stamp : Nat) (fecCe : Nat) (fecUe : Nat) {s : State} (hs : z.Follows s) :
    Res.Follows z (execEthFrameRx sub bytes fcs stamp fecCe fecUe s) := by
  unfold execEthFrameRx
  repeat' (first | with_reducible assumption | with_reducible refine Res.Follows.ite (fun _ => ?_) (fun _ => ?_) | with_reducible refine State.Follows.ite (fun _ => ?_) (fun _ => ?_) | with_reducible apply forEach_follows | with_reducible apply State.incSat_follows | with_reducible apply State.incWrap_follows | with_reducible apply State.rxFlow_follows | with_reducible apply State.fecCount_follows | with_reducible apply Res.Follows.next | fail_if_no_progress with_reducible apply State.Follows.upd | split | trivial | intro _ | dsimp only)

theorem State.txRefuse_follows {z : State} {s : State} (f : Nat) (cnt : Fld) (hs : z.Follows s) :
    z.Follows (State.txRefuse s f cnt) := by
  unfold State.txRefuse
  repeat' (first | with_reducible assumption | with_reducible apply State.incSat_follows | with_reducible apply State.usageFault_follows | with_reducible apply State.dropHead_follows | with_reducible apply Res.Follows.next | fail_if_no_progress with_reducible apply State.Follows.upd | split | trivial | intro _ | dsimp only)

theorem execTxRecordHead_follows {z : State} (flow : Fin 8192) (ecc : Option EccEvent) {s : State} (hs : z.Follows s) :
    Res.Follows z (execTxRecordHead flow ecc s) := by
  unfold execTxRecordHead
  repeat' (first | with_reducible assumption | with_reducible refine Res.Follows.ite (fun _ => ?_) (fun _ => ?_) | with_reducible refine State.Follows.ite (fun _ => ?_) (fun _ => ?_) | with_reducible apply State.palEcc_follows | with_reducible apply State.txRefuse_follows | with_reducible apply Res.Follows.next | fail_if_no_progress with_reducible apply State.Follows.upd | split | trivial | intro _ | dsimp only)

theorem State.setLink_follows {z : State} {s : State} (sub : Nat) (up : Bool) (hs : z.Follows s) :
    z.Follows (State.setLink s sub up) := by
  unfold State.setLink
  repeat' (first | with_reducible assumption | with_reducible refine State.Follows.ite (fun _ => ?_) (fun _ => ?_) | with_reducible apply State.orFld_follows | with_reducible apply State.clrFld_follows | with_reducible apply Res.Follows.next | fail_if_no_progress with_reducible apply State.Follows.upd | split | trivial | intro _ | dsimp only)

theorem execSubportLinkDown_follows {z : State} (sub : Fin 32) {s : State} (hs : z.Follows s) :
    Res.Follows z (execSubportLinkDown sub s) := by
  unfold execSubportLinkDown
  repeat' (first | with_reducible assumption | with_reducible refine Res.Follows.ite (fun _ => ?_) (fun _ => ?_) | with_reducible refine State.Follows.ite (fun _ => ?_) (fun _ => ?_) | with_reducible apply State.clrFld_follows | with_reducible apply State.yzReroute_follows | with_reducible apply State.setLink_follows | with_reducible apply Res.Follows.next | fail_if_no_progress with_reducible apply State.Follows.upd | split | trivial | intro _ | dsimp only)

theorem execSubportLinkUp_follows {z : State} (sub : Fin 32) {s : State} (hs : z.Follows s) :
    Res.Follows z (execSubportLinkUp sub s) := by
  unfold execSubportLinkUp
  repeat' (first | with_reducible assumption | with_reducible refine Res.Follows.ite (fun _ => ?_) (fun _ => ?_) | with_reducible refine State.Follows.ite (fun _ => ?_) (fun _ => ?_) | with_reducible apply State.orFld_follows | with_reducible apply State.yzKickAll_follows | with_reducible apply State.setLink_follows | with_reducible apply Res.Follows.next | fail_if_no_progress with_reducible apply State.Follows.upd | split | trivial | intro _ | dsimp only)

end Sys2Proof.Machine
end

