-- ==== Sys2Proof/Laws/EgressFollows.lean ====
section
/-! SUPPORT. Laws/EgressFollows.lean: every operation of Machine/Egress.lean follows: what it does to the queue, the outputs, the draw counter and the invariant (Safety.lean). -/
set_option linter.unusedVariables false
set_option linter.unreachableTactic false
set_option linter.unusedTactic false
namespace Sys2Proof.Machine

open Sys2Proof

theorem State.ethSend_follows {z : State} {s : State} (sub : Nat) (slot : Nat) (d : List Nat) (hs : z.Follows s) :
    z.Follows (State.ethSend s sub slot d) := by
  unfold State.ethSend
  repeat' (first | with_reducible assumption | with_reducible apply State.emit_follows | with_reducible apply State.incWrap_follows | with_reducible apply Res.Follows.next | fail_if_no_progress with_reducible apply State.Follows.upd | split | trivial | intro _ | dsimp only)

theorem State.tbPop_follows {z : State} {s : State} (sub : Nat) (hs : z.Follows s) :
    z.Follows (State.tbPop s sub) := by
  unfold State.tbPop
  repeat' (first | with_reducible assumption | with_reducible apply Res.Follows.next | fail_if_no_progress with_reducible apply State.Follows.upd | split | trivial | intro _ | dsimp only)

theorem State.tbSent_follows {z : State} {s : State} (sub : Nat) (slot : Nat) (t : TbFrame) (hs : z.Follows s) :
    z.Follows (State.tbSent s sub slot t) := by
  unfold State.tbSent
  repeat' (first | with_reducible assumption | with_reducible refine State.Follows.ite (fun _ => ?_) (fun _ => ?_) | with_reducible apply State.incWrap_follows | with_reducible apply Res.Follows.next | fail_if_no_progress with_reducible apply State.Follows.upd | split | trivial | intro _ | dsimp only)

theorem State.launchStart_follows {z : State} {s : State} (sub : Nat) (c : LaunchC) (hs : z.Follows s) :
    z.Follows (State.launchStart s sub c) := by
  unfold State.launchStart
  repeat' (first | with_reducible assumption | with_reducible apply State.setFld_follows | with_reducible apply State.incWrap_follows | with_reducible apply State.countUnits_follows | with_reducible apply State.launch_follows | with_reducible apply State.dropHead_follows | with_reducible apply State.ethSend_follows | with_reducible apply State.tbPop_follows | with_reducible apply State.tbSent_follows | with_reducible apply Res.Follows.next | fail_if_no_progress with_reducible apply State.Follows.upd | split | trivial | intro _ | dsimp only)

theorem State.launchDrop_follows {z : State} {s : State} (sub : Nat) (c : LaunchC) (hs : z.Follows s) :
    z.Follows (State.launchDrop s sub c) := by
  unfold State.launchDrop
  repeat' (first | with_reducible assumption | with_reducible apply State.incSat_follows | with_reducible apply State.dropHead_follows | with_reducible apply State.tbPop_follows | with_reducible apply Res.Follows.next | fail_if_no_progress with_reducible apply State.Follows.upd | split | trivial | intro _ | dsimp only)

theorem execLaunchFrameStart_follows {z : State} (sub : Fin 32) {s : State} (hs : z.Follows s) :
    Res.Follows z (execLaunchFrameStart sub s) := by
  unfold execLaunchFrameStart
  repeat' (first | with_reducible assumption | with_reducible refine Res.Follows.ite (fun _ => ?_) (fun _ => ?_) | with_reducible refine State.Follows.ite (fun _ => ?_) (fun _ => ?_) | with_reducible apply State.launchStart_follows | with_reducible apply Res.Follows.next | fail_if_no_progress with_reducible apply State.Follows.upd | split | trivial | intro _ | dsimp only)

theorem execLaunchFrameDrop_follows {z : State} (sub : Fin 32) {s : State} (hs : z.Follows s) :
    Res.Follows z (execLaunchFrameDrop sub s) := by
  unfold execLaunchFrameDrop
  repeat' (first | with_reducible assumption | with_reducible apply State.launchDrop_follows | with_reducible apply Res.Follows.next | fail_if_no_progress with_reducible apply State.Follows.upd | split | trivial | intro _ | dsimp only)

theorem State.noteWaits_follows {z : State} {s : State} (l : List QCand) (hs : z.Follows s) :
    z.Follows (State.noteWaits s l) := by
  unfold State.noteWaits
  repeat' (first | with_reducible assumption | with_reducible refine State.Follows.ite (fun _ => ?_) (fun _ => ?_) | with_reducible apply forEach_follows | with_reducible apply State.incSat_follows | with_reducible apply Res.Follows.next | fail_if_no_progress with_reducible apply State.Follows.upd | split | trivial | intro _ | dsimp only)

theorem State.setTurn_follows {z : State} {s : State} (k : Nat) (v : Nat) (hs : z.Follows s) :
    z.Follows (State.setTurn s k v) := by
  unfold State.setTurn
  repeat' (first | with_reducible assumption | with_reducible apply Res.Follows.next | fail_if_no_progress with_reducible apply State.Follows.upd | split | trivial | intro _ | dsimp only)

theorem State.setDrr_follows {z : State} {s : State} (i : Nat) (d : Drr) (hs : z.Follows s) :
    z.Follows (State.setDrr s i d) := by
  unfold State.setDrr
  repeat' (first | with_reducible assumption | with_reducible apply Res.Follows.next | fail_if_no_progress with_reducible apply State.Follows.upd | split | trivial | intro _ | dsimp only)

theorem State.pickQueued_follows {z : State} {s : State} (sub : Nat) (l : List QCand) (hs : z.Follows s) :
    ∀ v, (State.pickQueued s sub l) = some v → z.Follows v.2 := by
  unfold State.pickQueued
  intro v e
  revert e
  repeat' (first | split | dsimp only)
  all_goals intro e
  all_goals (first | (simp only [Option.some.injEq] at e; subst e) | (obtain ⟨_, _, rfl⟩ := Option.map_eq_some_iff.mp e) | exact absurd e (by simp))
  all_goals repeat' (first | with_reducible assumption | with_reducible apply State.setTurn_follows | with_reducible apply State.setDrr_follows | with_reducible apply Res.Follows.next | fail_if_no_progress with_reducible apply State.Follows.upd | split | trivial | intro _ | dsimp only)

theorem State.chargePath_follows {z : State} {s : State} (c : QCand) (hs : z.Follows s) :
    z.Follows (State.chargePath s c) := by
  unfold State.chargePath
  repeat' (first | with_reducible assumption | with_reducible refine State.Follows.ite (fun _ => ?_) (fun _ => ?_) | with_reducible apply forEach_follows | with_reducible apply State.setFld_follows | with_reducible apply State.incWrap_follows | with_reducible apply State.inc64_follows | with_reducible apply Res.Follows.next | fail_if_no_progress with_reducible apply State.Follows.upd | split | trivial | intro _ | dsimp only)

theorem State.yzTake_follows {z : State} {s : State} (path : Nat) (p : YzWait → Bool) (hs : z.Follows s) :
    ∀ v, (State.yzTake s path p) = some v → z.Follows v.2 := by
  unfold State.yzTake
  intro v e
  revert e
  repeat' (first | split | dsimp only)
  all_goals intro e
  all_goals (first | (simp only [Option.some.injEq] at e; subst e) | (obtain ⟨_, _, rfl⟩ := Option.map_eq_some_iff.mp e) | exact absurd e (by simp))
  all_goals repeat' (first | with_reducible assumption | with_reducible apply State.setYzWaits_follows | with_reducible apply Res.Follows.next | fail_if_no_progress with_reducible apply State.Follows.upd | split | trivial | intro _ | dsimp only)

theorem State.yzStart_follows {z : State} {s : State} (sub : Nat) (slot : Nat) (w : YzWait) (hs : z.Follows s) :
    z.Follows (State.yzStart s sub slot w) := by
  unfold State.yzStart
  repeat' (first | with_reducible assumption | with_reducible refine State.Follows.ite (fun _ => ?_) (fun _ => ?_) | with_reducible apply State.emit_follows | with_reducible apply State.incWrap_follows | with_reducible apply State.countUnits_follows | with_reducible apply Res.Follows.next | fail_if_no_progress with_reducible apply State.Follows.upd | split | trivial | intro _ | dsimp only)

theorem State.queuedStart_follows {z : State} {s : State} (sub : Nat) (slot : Nat) (c : QCand) (hs : z.Follows s) :
    z.Follows (State.queuedStart s sub slot c) := by
  unfold State.queuedStart
  repeat' (first | with_reducible assumption | with_reducible apply State.incWrap_follows | with_reducible apply State.countUnits_follows | with_reducible apply State.dropHead_follows | with_reducible apply State.ethSend_follows | with_reducible apply State.chargePath_follows | (with_reducible refine fun _ h_ => State.yzTake_follows _ _ ?_ _ h_) | with_reducible apply State.yzStart_follows | with_reducible apply Res.Follows.next | fail_if_no_progress with_reducible apply State.Follows.upd | (with_reducible refine State.Follows.of_opt (by with_reducible assumption) ?_) | (with_reducible refine State.Follows.of_opt_snd (by with_reducible assumption) ?_) | (with_reducible refine State.Follows.of_opt_fst (by with_reducible assumption) ?_) | split | trivial | intro _ | dsimp only)

theorem State.ctrlTake_follows {z : State} {s : State} (sub : Nat) (slot : Nat) (hs : z.Follows s) :
    ∀ v, (State.ctrlTake s sub slot) = some v → z.Follows v.2 := by
  unfold State.ctrlTake
  intro v e
  revert e
  repeat' (first | split | dsimp only)
  all_goals intro e
  all_goals (first | (simp only [Option.some.injEq] at e; subst e) | (obtain ⟨_, _, rfl⟩ := Option.map_eq_some_iff.mp e) | exact absurd e (by simp))
  all_goals repeat' (first | with_reducible assumption | with_reducible refine State.Follows.ite (fun _ => ?_) (fun _ => ?_) | (with_reducible refine fun _ h_ => State.yzTake_follows _ _ ?_ _ h_) | with_reducible apply Res.Follows.next | fail_if_no_progress with_reducible apply State.Follows.upd | (with_reducible refine State.Follows.of_opt (by with_reducible assumption) ?_) | (with_reducible refine State.Follows.of_opt_snd (by with_reducible assumption) ?_) | (with_reducible refine State.Follows.of_opt_fst (by with_reducible assumption) ?_) | split | trivial | intro _ | dsimp only)

theorem execQueuedFrameStart_follows {z : State} (sub : Fin 32) (slot : Nat) {s : State} (hs : z.Follows s) :
    Res.Follows z (execQueuedFrameStart sub slot s) := by
  unfold execQueuedFrameStart
  repeat' (first | with_reducible assumption | with_reducible refine Res.Follows.ite (fun _ => ?_) (fun _ => ?_) | with_reducible refine State.Follows.ite (fun _ => ?_) (fun _ => ?_) | with_reducible apply State.noteWaits_follows | (with_reducible refine fun _ h_ => State.pickQueued_follows _ _ ?_ _ h_) | with_reducible apply State.yzStart_follows | with_reducible apply State.queuedStart_follows | (with_reducible refine fun _ h_ => State.ctrlTake_follows _ _ ?_ _ h_) | with_reducible apply Res.Follows.next | fail_if_no_progress with_reducible apply State.Follows.upd | (with_reducible refine State.Follows.of_opt (by with_reducible assumption) ?_) | (with_reducible refine State.Follows.of_opt_snd (by with_reducible assumption) ?_) | (with_reducible refine State.Follows.of_opt_fst (by with_reducible assumption) ?_) | split | trivial | intro _ | dsimp only)

theorem State.loadParam_follows {z : State} {s : State} (i : Nat) (d : List Nat) (hs : z.Follows s) :
    z.Follows (State.loadParam s i d) := by
  unfold State.loadParam
  repeat' (first | with_reducible assumption | with_reducible refine State.Follows.ite (fun _ => ?_) (fun _ => ?_) | with_reducible apply State.setFld_follows | with_reducible apply Res.Follows.next | fail_if_no_progress with_reducible apply State.Follows.upd | split | trivial | intro _ | dsimp only)

theorem State.refill_follows {z : State} {s : State} (hs : z.Follows s) :
    z.Follows (State.refill s) := by
  unfold State.refill
  repeat' (first | with_reducible assumption | with_reducible apply forEach_follows | with_reducible apply State.setFld_follows | with_reducible apply Res.Follows.next | fail_if_no_progress with_reducible apply State.Follows.upd | split | trivial | intro _ | dsimp only)

theorem State.refillRetouch_follows {z : State} {s : State} (hs : z.Follows s) :
    z.Follows (State.refillRetouch s) := by
  unfold State.refillRetouch
  repeat' (first | with_reducible assumption | with_reducible refine State.Follows.ite (fun _ => ?_) (fun _ => ?_) | with_reducible apply forEach_follows | with_reducible apply State.keepSec_follows | with_reducible apply State.retouchDone_follows | with_reducible apply State.loadFlow_follows | with_reducible apply State.loadParam_follows | with_reducible apply Res.Follows.next | fail_if_no_progress with_reducible apply State.Follows.upd | split | trivial | intro _ | dsimp only)

theorem execShaperRefill_follows {z : State} {s : State} (hs : z.Follows s) :
    Res.Follows z (execShaperRefill s) := by
  unfold execShaperRefill
  repeat' (first | with_reducible assumption | with_reducible refine Res.Follows.ite (fun _ => ?_) (fun _ => ?_) | with_reducible refine State.Follows.ite (fun _ => ?_) (fun _ => ?_) | with_reducible apply State.incWrap_follows | with_reducible apply State.refill_follows | with_reducible apply State.refillRetouch_follows | with_reducible apply Res.Follows.next | fail_if_no_progress with_reducible apply State.Follows.upd | split | trivial | intro _ | dsimp only)

theorem State.sampleFlow_follows {z : State} {s : State} (f : Nat) (hs : z.Follows s) :
    z.Follows (State.sampleFlow s f) := by
  unfold State.sampleFlow
  repeat' (first | with_reducible assumption | with_reducible apply State.setFld_follows | with_reducible apply State.incSat_follows | with_reducible apply Res.Follows.next | fail_if_no_progress with_reducible apply State.Follows.upd | split | trivial | intro _ | dsimp only)

theorem State.queueSample_follows {z : State} {s : State} (hs : z.Follows s) :
    z.Follows (State.queueSample s) := by
  unfold State.queueSample
  repeat' (first | with_reducible assumption | with_reducible apply forEach_follows | with_reducible apply State.incWrap_follows | with_reducible apply State.sampleFlow_follows | with_reducible apply Res.Follows.next | fail_if_no_progress with_reducible apply State.Follows.upd | split | trivial | intro _ | dsimp only)

theorem execQueueSample_follows {z : State} {s : State} (hs : z.Follows s) :
    Res.Follows z (execQueueSample s) := by
  unfold execQueueSample
  repeat' (first | with_reducible assumption | with_reducible refine Res.Follows.ite (fun _ => ?_) (fun _ => ?_) | with_reducible refine State.Follows.ite (fun _ => ?_) (fun _ => ?_) | with_reducible apply State.queueSample_follows | with_reducible apply Res.Follows.next | fail_if_no_progress with_reducible apply State.Follows.upd | split | trivial | intro _ | dsimp only)

theorem execHistogramClear_follows {z : State} (req : Requester) {s : State} (hs : z.Follows s) :
    Res.Follows z (execHistogramClear req s) := by
  unfold execHistogramClear
  repeat' (first | with_reducible assumption | with_reducible refine Res.Follows.ite (fun _ => ?_) (fun _ => ?_) | with_reducible refine State.Follows.ite (fun _ => ?_) (fun _ => ?_) | with_reducible apply forUpto_follows | with_reducible apply State.setFld_follows | with_reducible apply State.access_follows | with_reducible apply Res.Follows.next | fail_if_no_progress with_reducible apply State.Follows.upd | split | trivial | intro _ | dsimp only)

theorem State.linkPick_follows {z : State} {s : State} (l : Nat) (hs : z.Follows s) :
    ∀ v, (State.linkPick s l) = some v → z.Follows v.2 := by
  unfold State.linkPick
  intro v e
  revert e
  repeat' (first | split | dsimp only)
  all_goals intro e
  all_goals (first | (simp only [Option.some.injEq] at e; subst e) | (obtain ⟨_, _, rfl⟩ := Option.map_eq_some_iff.mp e) | exact absurd e (by simp))
  all_goals repeat' (first | with_reducible assumption | with_reducible apply State.setDrr_follows | (with_reducible refine fun _ h_ => State.yzTake_follows _ _ ?_ _ h_) | with_reducible refine State.Follows.getD ?_ ?_ | with_reducible apply Res.Follows.next | fail_if_no_progress with_reducible apply State.Follows.upd | (with_reducible refine State.Follows.of_opt (by with_reducible assumption) ?_) | (with_reducible refine State.Follows.of_opt_snd (by with_reducible assumption) ?_) | (with_reducible refine State.Follows.of_opt_fst (by with_reducible assumption) ?_) | split | trivial | intro _ | dsimp only)

theorem State.linkSend_follows {z : State} {s : State} (l : Nat) (hs : z.Follows s) :
    z.Follows (State.linkSend s l) := by
  unfold State.linkSend
  repeat' (first | with_reducible assumption | with_reducible refine State.Follows.ite (fun _ => ?_) (fun _ => ?_) | with_reducible apply State.yzDepart_follows | (with_reducible refine fun _ h_ => State.linkPick_follows _ ?_ _ h_) | with_reducible apply Res.Follows.next | fail_if_no_progress with_reducible apply State.Follows.upd | (with_reducible refine State.Follows.of_opt (by with_reducible assumption) ?_) | (with_reducible refine State.Follows.of_opt_snd (by with_reducible assumption) ?_) | (with_reducible refine State.Follows.of_opt_fst (by with_reducible assumption) ?_) | split | trivial | intro _ | dsimp only)

theorem State.hostSend_follows {z : State} {s : State} (hs : z.Follows s) :
    z.Follows (State.hostSend s) := by
  unfold State.hostSend
  repeat' (first | with_reducible assumption | with_reducible refine State.Follows.ite (fun _ => ?_) (fun _ => ?_) | with_reducible apply State.emit_follows | with_reducible apply State.countUnits_follows | with_reducible apply Res.Follows.next | fail_if_no_progress with_reducible apply State.Follows.upd | split | trivial | intro _ | dsimp only)

end Sys2Proof.Machine
end

