-- ==== Sys2Proof/Laws/SeqBuildFollows.lean ====
section
/-! SUPPORT. Laws/SeqBuildFollows.lean: every operation of Machine/SeqBuild.lean follows: what it does to the queue, the outputs, the draw counter and the invariant (Safety.lean). -/
set_option linter.unusedVariables false
set_option linter.unreachableTactic false
set_option linter.unusedTactic false
namespace Sys2Proof.Machine

open Sys2Proof

theorem State.updSeq_follows {z : State} {s : State} (e : Nat) (i : Nat) (f : SeqEntry → SeqEntry) (hs : z.Follows s) :
    z.Follows (State.updSeq s e i f) := by
  unfold State.updSeq
  repeat' (first | with_reducible assumption | with_reducible apply State.setSeqEntry_follows | with_reducible apply Res.Follows.next | fail_if_no_progress with_reducible apply State.Follows.upd | split | trivial | intro _ | dsimp only)

theorem State.showFree_follows {z : State} {s : State} (e : Nat) (hs : z.Follows s) :
    z.Follows (State.showFree s e) := by
  unfold State.showFree
  repeat' (first | with_reducible assumption | with_reducible apply State.setFld_follows | with_reducible apply Res.Follows.next | fail_if_no_progress with_reducible apply State.Follows.upd | split | trivial | intro _ | dsimp only)

theorem State.seqStore_follows {z : State} {s : State} (e : Nat) (a : Nat) (bs : List Nat) (hs : z.Follows s) :
    z.Follows (State.seqStore s e a bs) := by
  unfold State.seqStore
  repeat' (first | with_reducible assumption | with_reducible apply State.storeRaw_follows | with_reducible apply State.setUsedRange_follows | with_reducible apply State.bondWatermark_follows | with_reducible apply State.layPoison_follows | with_reducible apply Res.Follows.next | fail_if_no_progress with_reducible apply State.Follows.upd | split | trivial | intro _ | dsimp only)

theorem State.growList_follows {z : State} {s : State} (e : Nat) (i : Nat) (n : Nat) (hs : z.Follows s) :
    z.Follows (State.growList s e i n) := by
  unfold State.growList
  repeat' (first | with_reducible assumption | with_reducible refine State.Follows.ite (fun _ => ?_) (fun _ => ?_) | with_reducible apply forEach_follows | with_reducible apply State.updSeq_follows | with_reducible apply State.showFree_follows | with_reducible apply State.seqStore_follows | with_reducible apply Res.Follows.next | fail_if_no_progress with_reducible apply State.Follows.upd | split | trivial | intro _ | dsimp only)

theorem State.trimList_follows {z : State} {s : State} (e : Nat) (i : Nat) (hs : z.Follows s) :
    z.Follows (State.trimList s e i) := by
  unfold State.trimList
  repeat' (first | with_reducible assumption | with_reducible apply State.updSeq_follows | with_reducible apply State.showFree_follows | with_reducible apply Res.Follows.next | fail_if_no_progress with_reducible apply State.Follows.upd | split | trivial | intro _ | dsimp only)

theorem State.orWrite_follows {z : State} {s : State} (e : Nat) (o : OutRec) (hs : z.Follows s) :
    z.Follows (State.orWrite s e o) := by
  unfold State.orWrite
  repeat' (first | with_reducible assumption | with_reducible refine State.Follows.ite (fun _ => ?_) (fun _ => ?_) | with_reducible apply State.setFld_follows | with_reducible apply State.hostWrite_follows | with_reducible apply State.fireModerated_follows | with_reducible apply State.bondStore_follows | with_reducible apply State.setSeqEas_follows | with_reducible apply Res.Follows.next | fail_if_no_progress with_reducible apply State.Follows.upd | split | trivial | intro _ | dsimp only)

theorem State.outWritten_follows {z : State} {s : State} (e : Nat) (o : OutRec) (hs : z.Follows s) :
    z.Follows (State.outWritten s e o) := by
  unfold State.outWritten
  repeat' (first | with_reducible assumption | with_reducible refine State.Follows.ite (fun _ => ?_) (fun _ => ?_) | with_reducible apply State.setSeqEntry_follows | with_reducible apply State.showFree_follows | with_reducible apply Res.Follows.next | fail_if_no_progress with_reducible apply State.Follows.upd | split | trivial | intro _ | dsimp only)

theorem outLoop_follows {z : State} (e : Nat) (x1 : List OutRec) (x2 : List OutRec) {s : State} (hs : z.Follows s) :
    z.Follows (outLoop e x1 x2 s) := by
  induction x1 generalizing x2 s with
  | nil => unfold outLoop; repeat' (first | with_reducible assumption | with_reducible refine State.Follows.ite (fun _ => ?_) (fun _ => ?_) | with_reducible apply State.setSeqEas_follows | with_reducible apply State.refuseXlate_follows | with_reducible apply State.orWrite_follows | with_reducible apply State.outWritten_follows | with_reducible apply ih | with_reducible apply Res.Follows.next | fail_if_no_progress with_reducible apply State.Follows.upd | (with_reducible refine State.Follows.of_snd (by with_reducible assumption) ?_) | (with_reducible refine State.Follows.of_fst (by with_reducible assumption) ?_) | (with_reducible refine State.Follows.of_trd (by with_reducible assumption) ?_) | split | trivial | intro _ | dsimp only)
  | cons a r ih => unfold outLoop; repeat' (first | with_reducible assumption | with_reducible refine State.Follows.ite (fun _ => ?_) (fun _ => ?_) | with_reducible apply State.setSeqEas_follows | with_reducible apply State.refuseXlate_follows | with_reducible apply State.orWrite_follows | with_reducible apply State.outWritten_follows | with_reducible apply ih | with_reducible apply Res.Follows.next | fail_if_no_progress with_reducible apply State.Follows.upd | (with_reducible refine State.Follows.of_snd (by with_reducible assumption) ?_) | (with_reducible refine State.Follows.of_fst (by with_reducible assumption) ?_) | (with_reducible refine State.Follows.of_trd (by with_reducible assumption) ?_) | split | trivial | intro _ | dsimp only)

theorem State.flushOut_follows {z : State} {s : State} (e : Nat) (hs : z.Follows s) :
    z.Follows (State.flushOut s e) := by
  unfold State.flushOut
  repeat' (first | with_reducible assumption | with_reducible apply outLoop_follows | with_reducible apply Res.Follows.next | fail_if_no_progress with_reducible apply State.Follows.upd | split | trivial | intro _ | dsimp only)

theorem State.outPut_follows {z : State} {s : State} (e : Nat) (os : List OutRec) (hs : z.Follows s) :
    z.Follows (State.outPut s e os) := by
  unfold State.outPut
  repeat' (first | with_reducible assumption | with_reducible apply State.setSeqEas_follows | with_reducible apply State.flushOut_follows | with_reducible apply Res.Follows.next | fail_if_no_progress with_reducible apply State.Follows.upd | split | trivial | intro _ | dsimp only)

theorem State.endSeq_follows {z : State} {s : State} (e : Nat) (i : Nat) (code : Nat) (info : Nat) (recs : List OutRec) (hs : z.Follows s) :
    z.Follows (State.endSeq s e i code info recs) := by
  unfold State.endSeq
  repeat' (first | with_reducible assumption | with_reducible refine State.Follows.ite (fun _ => ?_) (fun _ => ?_) | with_reducible apply State.incSat_follows | with_reducible apply State.usageFault_follows | with_reducible apply State.updSeq_follows | with_reducible apply State.showFree_follows | with_reducible apply State.outPut_follows | with_reducible apply Res.Follows.next | fail_if_no_progress with_reducible apply State.Follows.upd | split | trivial | intro _ | dsimp only)

theorem State.loseSeq_follows {z : State} {s : State} (e : Nat) (i : Nat) (info : Nat) (hs : z.Follows s) :
    z.Follows (State.loseSeq s e i info) := by
  unfold State.loseSeq
  repeat' (first | with_reducible assumption | with_reducible refine State.Follows.ite (fun _ => ?_) (fun _ => ?_) | with_reducible apply State.setSeqEntry_follows | with_reducible apply State.endSeq_follows | with_reducible apply Res.Follows.next | fail_if_no_progress with_reducible apply State.Follows.upd | split | trivial | intro _ | dsimp only)

theorem State.loseBadLists_follows {z : State} {s : State} (e : Nat) (hs : z.Follows s) :
    z.Follows (State.loseBadLists s e) := by
  unfold State.loseBadLists
  repeat' (first | with_reducible assumption | with_reducible refine State.Follows.ite (fun _ => ?_) (fun _ => ?_) | with_reducible apply forEach_follows | with_reducible apply State.loseSeq_follows | with_reducible apply Res.Follows.next | fail_if_no_progress with_reducible apply State.Follows.upd | split | trivial | intro _ | dsimp only)

theorem State.swapArm_follows {z : State} {s : State} (e : Nat) (pages : Nat) (hs : z.Follows s) :
    z.Follows (State.swapArm s e pages) := by
  unfold State.swapArm
  repeat' (first | with_reducible assumption | with_reducible refine State.Follows.ite (fun _ => ?_) (fun _ => ?_) | with_reducible apply State.setChan_follows | with_reducible apply State.chState_follows | with_reducible apply State.armChan_follows | with_reducible apply Res.Follows.next | fail_if_no_progress with_reducible apply State.Follows.upd | split | trivial | intro _ | dsimp only)

theorem State.swapStep_follows {z : State} {s : State} (e : Nat) (pages : Nat) (hs : z.Follows s) :
    z.Follows (State.swapStep s e pages) := by
  unfold State.swapStep
  repeat' (first | with_reducible assumption | with_reducible refine State.Follows.ite (fun _ => ?_) (fun _ => ?_) | with_reducible apply State.incWrap_follows | with_reducible apply State.inc64_follows | with_reducible apply State.judgeBoundary_follows | with_reducible apply State.setChan_follows | with_reducible apply State.finishRun_follows | with_reducible apply Res.Follows.next | fail_if_no_progress with_reducible apply State.Follows.upd | split | trivial | intro _ | dsimp only)

theorem State.swapOutStart_follows {z : State} {s : State} (e : Nat) (i : Nat) (hs : z.Follows s) :
    z.Follows (State.swapOutStart s e i).2 := by
  unfold State.swapOutStart
  repeat' (first | with_reducible assumption | with_reducible refine State.Follows.ite_snd (fun _ => ?_) (fun _ => ?_) | with_reducible refine State.Follows.ite (fun _ => ?_) (fun _ => ?_) | with_reducible apply State.updSeq_follows | with_reducible apply State.swapArm_follows | with_reducible apply Res.Follows.next | fail_if_no_progress with_reducible apply State.Follows.upd | split | trivial | intro _ | dsimp only)

theorem State.swapInStart_follows {z : State} {s : State} (e : Nat) (i : Nat) (hs : z.Follows s) :
    z.Follows (State.swapInStart s e i) := by
  unfold State.swapInStart
  repeat' (first | with_reducible assumption | with_reducible apply State.updSeq_follows | with_reducible apply State.growList_follows | with_reducible apply State.swapArm_follows | with_reducible apply Res.Follows.next | fail_if_no_progress with_reducible apply State.Follows.upd | split | trivial | intro _ | dsimp only)

theorem pickDecode_follows {z : State} (e : Nat) (budget : Nat) (x1 : List Nat) (x2 : List Nat) (x3 : Nat) {s : State} (hs : z.Follows s) :
    z.Follows (pickDecode e budget x1 x2 x3 s).2.2 := by
  induction x1 generalizing x2 x3 s with
  | nil => unfold pickDecode; repeat' (first | with_reducible assumption | with_reducible refine State.Follows.ite_trd (fun _ => ?_) (fun _ => ?_) | with_reducible refine State.Follows.ite (fun _ => ?_) (fun _ => ?_) | with_reducible apply State.updSeq_follows | with_reducible apply ih | with_reducible apply Res.Follows.next | fail_if_no_progress with_reducible apply State.Follows.upd | (with_reducible refine State.Follows.of_snd (by with_reducible assumption) ?_) | (with_reducible refine State.Follows.of_fst (by with_reducible assumption) ?_) | (with_reducible refine State.Follows.of_trd (by with_reducible assumption) ?_) | split | trivial | intro _ | dsimp only)
  | cons a r ih => unfold pickDecode; repeat' (first | with_reducible assumption | with_reducible refine State.Follows.ite_trd (fun _ => ?_) (fun _ => ?_) | with_reducible refine State.Follows.ite (fun _ => ?_) (fun _ => ?_) | with_reducible apply State.updSeq_follows | with_reducible apply ih | with_reducible apply Res.Follows.next | fail_if_no_progress with_reducible apply State.Follows.upd | (with_reducible refine State.Follows.of_snd (by with_reducible assumption) ?_) | (with_reducible refine State.Follows.of_fst (by with_reducible assumption) ?_) | (with_reducible refine State.Follows.of_trd (by with_reducible assumption) ?_) | split | trivial | intro _ | dsimp only)

theorem dropVictims_follows {z : State} (e : Nat) (x1 : Nat) (x2 : List Nat) {s : State} (hs : z.Follows s) :
    z.Follows (dropVictims e x1 x2 s).2 := by
  induction x1 generalizing x2 s with
  | zero => unfold dropVictims; repeat' (first | with_reducible assumption | with_reducible refine State.Follows.ite_snd (fun _ => ?_) (fun _ => ?_) | with_reducible refine State.Follows.ite (fun _ => ?_) (fun _ => ?_) | with_reducible apply State.updSeq_follows | with_reducible apply State.swapOutStart_follows | with_reducible apply ih | with_reducible apply Res.Follows.next | fail_if_no_progress with_reducible apply State.Follows.upd | with_reducible apply foldl_follows | with_reducible apply foldl_fst_follows | with_reducible apply foldl_snd_follows | with_reducible apply foldl_trd_follows | (with_reducible refine State.Follows.of_snd (by with_reducible assumption) ?_) | (with_reducible refine State.Follows.of_fst (by with_reducible assumption) ?_) | (with_reducible refine State.Follows.of_trd (by with_reducible assumption) ?_) | split | trivial | intro _ | dsimp only)
  | succ n ih => unfold dropVictims; repeat' (first | with_reducible assumption | with_reducible refine State.Follows.ite_snd (fun _ => ?_) (fun _ => ?_) | with_reducible refine State.Follows.ite (fun _ => ?_) (fun _ => ?_) | with_reducible apply State.updSeq_follows | with_reducible apply State.swapOutStart_follows | with_reducible apply ih | with_reducible apply Res.Follows.next | fail_if_no_progress with_reducible apply State.Follows.upd | with_reducible apply foldl_follows | with_reducible apply foldl_fst_follows | with_reducible apply foldl_snd_follows | with_reducible apply foldl_trd_follows | (with_reducible refine State.Follows.of_snd (by with_reducible assumption) ?_) | (with_reducible refine State.Follows.of_fst (by with_reducible assumption) ?_) | (with_reducible refine State.Follows.of_trd (by with_reducible assumption) ?_) | split | trivial | intro _ | dsimp only)

theorem State.addSeg_follows {z : State} {s : State} (e : Nat) (i : Nat) (kind : Nat) (pos : Nat) (n : Nat) (hs : z.Follows s) :
    z.Follows (State.addSeg s e i kind pos n) := by
  unfold State.addSeg
  repeat' (first | with_reducible assumption | with_reducible refine State.Follows.ite (fun _ => ?_) (fun _ => ?_) | with_reducible apply State.setSeqEas_follows | with_reducible apply State.growList_follows | with_reducible apply Res.Follows.next | fail_if_no_progress with_reducible apply State.Follows.upd | split | trivial | intro _ | dsimp only)

theorem State.addPrefill_follows {z : State} {s : State} (e : Nat) (i : Nat) (n : Nat) (hs : z.Follows s) :
    z.Follows (State.addPrefill s e i n) := by
  unfold State.addPrefill
  repeat' (first | with_reducible assumption | with_reducible refine State.Follows.ite (fun _ => ?_) (fun _ => ?_) | with_reducible apply State.addSeg_follows | with_reducible apply Res.Follows.next | fail_if_no_progress with_reducible apply State.Follows.upd | split | trivial | intro _ | dsimp only)

theorem State.takePrefill_follows {z : State} {s : State} (e : Nat) (i : Nat) (hs : z.Follows s) :
    z.Follows (State.takePrefill s e i) := by
  unfold State.takePrefill
  repeat' (first | with_reducible assumption | with_reducible refine State.Follows.ite (fun _ => ?_) (fun _ => ?_) | with_reducible apply State.updSeq_follows | with_reducible apply State.addPrefill_follows | with_reducible apply Res.Follows.next | fail_if_no_progress with_reducible apply State.Follows.upd | split | trivial | intro _ | dsimp only)

theorem takeSwapped_follows {z : State} (e : Nat) (x1 : List Nat) {s : State} (hs : z.Follows s) :
    z.Follows (takeSwapped e x1 s) := by
  induction x1 generalizing s with
  | nil => unfold takeSwapped; repeat' (first | with_reducible assumption | with_reducible refine State.Follows.ite (fun _ => ?_) (fun _ => ?_) | with_reducible apply State.swapInStart_follows | with_reducible apply ih | with_reducible apply Res.Follows.next | fail_if_no_progress with_reducible apply State.Follows.upd | (with_reducible refine State.Follows.of_snd (by with_reducible assumption) ?_) | (with_reducible refine State.Follows.of_fst (by with_reducible assumption) ?_) | (with_reducible refine State.Follows.of_trd (by with_reducible assumption) ?_) | split | trivial | intro _ | dsimp only)
  | cons a r ih => unfold takeSwapped; repeat' (first | with_reducible assumption | with_reducible refine State.Follows.ite (fun _ => ?_) (fun _ => ?_) | with_reducible apply State.swapInStart_follows | with_reducible apply ih | with_reducible apply Res.Follows.next | fail_if_no_progress with_reducible apply State.Follows.upd | (with_reducible refine State.Follows.of_snd (by with_reducible assumption) ?_) | (with_reducible refine State.Follows.of_fst (by with_reducible assumption) ?_) | (with_reducible refine State.Follows.of_trd (by with_reducible assumption) ?_) | split | trivial | intro _ | dsimp only)

theorem takeQueued_follows {z : State} (e : Nat) (x1 : List Nat) {s : State} (hs : z.Follows s) :
    z.Follows (takeQueued e x1 s) := by
  induction x1 generalizing s with
  | nil => unfold takeQueued; repeat' (first | with_reducible assumption | with_reducible refine State.Follows.ite (fun _ => ?_) (fun _ => ?_) | with_reducible apply State.updSeq_follows | with_reducible apply State.addPrefill_follows | with_reducible apply ih | with_reducible apply Res.Follows.next | fail_if_no_progress with_reducible apply State.Follows.upd | (with_reducible refine State.Follows.of_snd (by with_reducible assumption) ?_) | (with_reducible refine State.Follows.of_fst (by with_reducible assumption) ?_) | (with_reducible refine State.Follows.of_trd (by with_reducible assumption) ?_) | split | trivial | intro _ | dsimp only)
  | cons a r ih => unfold takeQueued; repeat' (first | with_reducible assumption | with_reducible refine State.Follows.ite (fun _ => ?_) (fun _ => ?_) | with_reducible apply State.updSeq_follows | with_reducible apply State.addPrefill_follows | with_reducible apply ih | with_reducible apply Res.Follows.next | fail_if_no_progress with_reducible apply State.Follows.upd | (with_reducible refine State.Follows.of_snd (by with_reducible assumption) ?_) | (with_reducible refine State.Follows.of_fst (by with_reducible assumption) ?_) | (with_reducible refine State.Follows.of_trd (by with_reducible assumption) ?_) | split | trivial | intro _ | dsimp only)

theorem State.fillStep_follows {z : State} {s0 : State} (e : Nat) (hs0 : z.Follows s0) :
    z.Follows (State.fillStep s0 e) := by
  unfold State.fillStep
  repeat' (first | with_reducible assumption | with_reducible refine State.Follows.ite (fun _ => ?_) (fun _ => ?_) | with_reducible apply forEach_follows | with_reducible apply State.setSeqEas_follows | with_reducible apply State.resume_follows | with_reducible apply State.updSeq_follows | with_reducible apply pickDecode_follows | with_reducible apply dropVictims_follows | with_reducible apply State.addSeg_follows | with_reducible apply State.takePrefill_follows | with_reducible apply takeSwapped_follows | with_reducible apply takeQueued_follows | with_reducible apply Res.Follows.next | fail_if_no_progress with_reducible apply State.Follows.upd | (with_reducible refine State.Follows.of_snd (by with_reducible assumption) ?_) | (with_reducible refine State.Follows.of_fst (by with_reducible assumption) ?_) | (with_reducible refine State.Follows.of_trd (by with_reducible assumption) ?_) | split | trivial | intro _ | dsimp only)

theorem State.writeWorkList_follows {z : State} {s : State} (e : Nat) (step : Nat) (hs : z.Follows s) :
    z.Follows (State.writeWorkList s e step) := by
  unfold State.writeWorkList
  repeat' (first | with_reducible assumption | with_reducible apply State.seqStore_follows | with_reducible apply Res.Follows.next | fail_if_no_progress with_reducible apply State.Follows.upd | split | trivial | intro _ | dsimp only)

theorem State.seqPost_follows {z : State} {s : State} (e : Nat) (kind : Nat) (step : Nat) (st : Nat) (ev : Nat) (a : Nat) (b : Nat) (hs : z.Follows s) :
    z.Follows (State.seqPost s e kind step st ev a b) := by
  unfold State.seqPost
  repeat' (first | with_reducible assumption | with_reducible apply State.postRecord_follows | with_reducible apply Res.Follows.next | fail_if_no_progress with_reducible apply State.Follows.upd | split | trivial | intro _ | dsimp only)

theorem State.buildStep_follows {z : State} {s : State} (e : Nat) (hs : z.Follows s) :
    z.Follows (State.buildStep s e).2 := by
  unfold State.buildStep
  repeat' (first | with_reducible assumption | with_reducible refine State.Follows.ite_snd (fun _ => ?_) (fun _ => ?_) | with_reducible refine State.Follows.ite (fun _ => ?_) (fun _ => ?_) | with_reducible apply State.setFld_follows | with_reducible apply State.setSeqEas_follows | with_reducible apply State.loseBadLists_follows | with_reducible apply State.fillStep_follows | with_reducible apply State.writeWorkList_follows | with_reducible apply State.seqPost_follows | with_reducible apply Res.Follows.next | fail_if_no_progress with_reducible apply State.Follows.upd | split | trivial | intro _ | dsimp only)

theorem State.setBuildWaits_follows {z : State} {s : State} (e : Nat) (waits : Bool) (retry : Bool) (hs : z.Follows s) :
    z.Follows (State.setBuildWaits s e waits retry) := by
  unfold State.setBuildWaits
  repeat' (first | with_reducible assumption | with_reducible apply State.setFlag_follows | with_reducible apply State.setSeqEas_follows | with_reducible apply Res.Follows.next | fail_if_no_progress with_reducible apply State.Follows.upd | split | trivial | intro _ | dsimp only)

theorem State.autoTry_follows {z : State} {s : State} (e : Nat) (hs : z.Follows s) :
    z.Follows (State.autoTry s e) := by
  unfold State.autoTry
  repeat' (first | with_reducible assumption | with_reducible refine State.Follows.ite (fun _ => ?_) (fun _ => ?_) | with_reducible apply State.buildStep_follows | with_reducible apply State.setBuildWaits_follows | with_reducible apply Res.Follows.next | fail_if_no_progress with_reducible apply State.Follows.upd | (with_reducible refine State.Follows.of_snd (by with_reducible assumption) ?_) | (with_reducible refine State.Follows.of_fst (by with_reducible assumption) ?_) | (with_reducible refine State.Follows.of_trd (by with_reducible assumption) ?_) | split | trivial | intro _ | dsimp only)

theorem State.autoBuild_follows {z : State} {s : State} (e : Nat) (hs : z.Follows s) :
    z.Follows (State.autoBuild s e) := by
  unfold State.autoBuild
  repeat' (first | with_reducible assumption | with_reducible refine State.Follows.ite (fun _ => ?_) (fun _ => ?_) | with_reducible apply State.judgeBoundary_follows | with_reducible apply State.autoTry_follows | with_reducible apply Res.Follows.next | fail_if_no_progress with_reducible apply State.Follows.upd | split | trivial | intro _ | dsimp only)

theorem State.retryBuild_follows {z : State} {s : State} (e : Nat) (hs : z.Follows s) :
    z.Follows (State.retryBuild s e) := by
  unfold State.retryBuild
  repeat' (first | with_reducible assumption | with_reducible refine State.Follows.ite (fun _ => ?_) (fun _ => ?_) | with_reducible apply State.autoBuild_follows | with_reducible apply Res.Follows.next | fail_if_no_progress with_reducible apply State.Follows.upd | split | trivial | intro _ | dsimp only)

end Sys2Proof.Machine
end

