-- ==== Sys2Proof/Laws/BondedFollows.lean ====
section
/-! SUPPORT. Laws/BondedFollows.lean: every operation of Machine/Bonded.lean follows: what it does to the queue, the outputs, the draw counter and the invariant (Safety.lean). -/
set_option linter.unusedVariables false
set_option linter.unreachableTactic false
set_option linter.unusedTactic false
namespace Sys2Proof.Machine

open Sys2Proof

theorem State.bondWrite_follows {z : State} {s : State} (easel : Nat) (addr : Nat) (n : Nat) {r : MemResp} (hs : z.Follows s) (hr : z.Follows r.st) :
    z.Follows (State.bondWrite s easel addr n r).st := by
  unfold State.bondWrite
  repeat' (first | with_reducible assumption | with_reducible refine State.Follows.ite (fun _ => ?_) (fun _ => ?_) | with_reducible apply State.refuseShare_follows | with_reducible apply Res.Follows.next | fail_if_no_progress with_reducible apply State.Follows.upd | split | trivial | intro _ | dsimp only)

theorem State.bondRequest_follows {z : State} {s : State} (easel : Nat) (addr : Nat) (acc : MemAcc) (ecc : Option EccEvent) (hs : z.Follows s) :
    z.Follows (State.bondRequest s easel addr acc ecc) := by
  unfold State.bondRequest
  repeat' (first | with_reducible assumption | with_reducible apply State.emit_follows | with_reducible apply State.bondLoad_follows | with_reducible apply State.bondStore_follows | with_reducible apply State.bondAtomic_follows | with_reducible apply State.bondWrite_follows | with_reducible apply Res.Follows.next | fail_if_no_progress with_reducible apply State.Follows.upd | split | trivial | intro _ | dsimp only)

theorem execBondedRequest_follows {z : State} (easel : Fin 64) (addr : Nat) (acc : MemAcc) (ecc : Option EccEvent) {s : State} (hs : z.Follows s) :
    Res.Follows z (execBondedRequest easel addr acc ecc s) := by
  unfold execBondedRequest
  repeat' (first | with_reducible assumption | with_reducible apply State.loseBadLists_follows | with_reducible apply State.bondRequest_follows | with_reducible apply Res.Follows.next | fail_if_no_progress with_reducible apply State.Follows.upd | split | trivial | intro _ | dsimp only)

theorem State.closePage_follows {z : State} {s : State} (stack : Nat) (channel : Nat) (bank : Nat) (hs : z.Follows s) :
    z.Follows (State.closePage s stack channel bank) := by
  unfold State.closePage
  repeat' (first | with_reducible assumption | with_reducible apply Res.Follows.next | fail_if_no_progress with_reducible apply State.Follows.upd | split | trivial | intro _ | dsimp only)

theorem execBankPageTimeout_follows {z : State} (stack : Fin 18) (channel : Fin 48) (bank : Fin 32) {s : State} (hs : z.Follows s) :
    Res.Follows z (execBankPageTimeout stack channel bank s) := by
  unfold execBankPageTimeout
  repeat' (first | with_reducible assumption | with_reducible apply State.closePage_follows | with_reducible apply Res.Follows.next | fail_if_no_progress with_reducible apply State.Follows.upd | split | trivial | intro _ | dsimp only)

theorem State.takeRate_follows {z : State} {s : State} (stack : Nat) (hs : z.Follows s) :
    z.Follows (State.takeRate s stack) := by
  unfold State.takeRate
  repeat' (first | with_reducible assumption | with_reducible apply State.setFld_follows | with_reducible apply Res.Follows.next | fail_if_no_progress with_reducible apply State.Follows.upd | split | trivial | intro _ | dsimp only)

theorem execStackRefresh_follows {z : State} (stack : Fin 18) (channel : Fin 48) (bank : Fin 32) {s : State} (hs : z.Follows s) :
    Res.Follows z (execStackRefresh stack channel bank s) := by
  unfold execStackRefresh
  repeat' (first | with_reducible assumption | with_reducible apply State.closePage_follows | with_reducible apply State.takeRate_follows | with_reducible apply Res.Follows.next | fail_if_no_progress with_reducible apply State.Follows.upd | split | trivial | intro _ | dsimp only)

theorem State.aimRate_follows {z : State} {s : State} (stack : Nat) (temp : Nat) (hs : z.Follows s) :
    z.Follows (State.aimRate s stack temp) := by
  unfold State.aimRate
  repeat' (first | with_reducible assumption | with_reducible refine State.Follows.ite (fun _ => ?_) (fun _ => ?_) | with_reducible apply Res.Follows.next | fail_if_no_progress with_reducible apply State.Follows.upd | split | trivial | intro _ | dsimp only)

theorem State.scrubOn_follows {z : State} {s : State} (stack : Nat) (hs : z.Follows s) :
    z.Follows (State.scrubOn s stack) := by
  unfold State.scrubOn
  repeat' (first | with_reducible assumption | with_reducible refine State.Follows.ite (fun _ => ?_) (fun _ => ?_) | with_reducible apply State.incWrap_follows | with_reducible apply Res.Follows.next | fail_if_no_progress with_reducible apply State.Follows.upd | split | trivial | intro _ | dsimp only)

theorem State.scrubCheck_follows {z : State} {s : State} (stack : Nat) (g : Granule) (ecc : Ecc) (lane : Nat) (hs : z.Follows s) :
    z.Follows (State.scrubCheck s stack g ecc lane) := by
  unfold State.scrubCheck
  repeat' (first | with_reducible assumption | with_reducible apply State.inject_follows | with_reducible apply State.bondEcc_follows | with_reducible apply Res.Follows.next | fail_if_no_progress with_reducible apply State.Follows.upd | (with_reducible refine State.Follows.of_snd (by with_reducible assumption) ?_) | (with_reducible refine State.Follows.of_fst (by with_reducible assumption) ?_) | (with_reducible refine State.Follows.of_trd (by with_reducible assumption) ?_) | split | trivial | intro _ | dsimp only)

theorem execPatrolScrub_follows {z : State} (stack : Fin 18) (ecc : Ecc) (lane : Nat) {s : State} (hs : z.Follows s) :
    Res.Follows z (execPatrolScrub stack ecc lane s) := by
  unfold execPatrolScrub
  repeat' (first | with_reducible assumption | with_reducible refine Res.Follows.ite (fun _ => ?_) (fun _ => ?_) | with_reducible refine State.Follows.ite (fun _ => ?_) (fun _ => ?_) | with_reducible apply State.openAt_follows | with_reducible apply State.loseBadLists_follows | with_reducible apply State.scrubOn_follows | with_reducible apply State.scrubCheck_follows | with_reducible apply Res.Follows.next | fail_if_no_progress with_reducible apply State.Follows.upd | split | trivial | intro _ | dsimp only)

theorem State.releaseUnits_follows {z : State} {s : State} (easel : Nat) (base : Nat) (count : Nat) (hs : z.Follows s) :
    z.Follows (State.releaseUnits s easel base count) := by
  unfold State.releaseUnits
  repeat' (first | with_reducible assumption | with_reducible apply State.clearUsed_follows | with_reducible apply State.zeroBytes_follows | with_reducible apply Res.Follows.next | fail_if_no_progress with_reducible apply State.Follows.upd | split | trivial | intro _ | dsimp only)

theorem State.releaseGo_follows {z : State} {s : State} (easel : Nat) (hs : z.Follows s) :
    z.Follows (State.releaseGo s easel) := by
  unfold State.releaseGo
  repeat' (first | with_reducible assumption | with_reducible refine State.Follows.ite (fun _ => ?_) (fun _ => ?_) | with_reducible apply State.setFlag_follows | with_reducible apply State.releaseUnits_follows | with_reducible apply Res.Follows.next | fail_if_no_progress with_reducible apply State.Follows.upd | split | trivial | intro _ | dsimp only)

theorem execMemReleaseGo_follows {z : State} (req : Requester) {s : State} (hs : z.Follows s) :
    Res.Follows z (execMemReleaseGo req s) := by
  unfold execMemReleaseGo
  repeat' (first | with_reducible assumption | with_reducible refine Res.Follows.ite (fun _ => ?_) (fun _ => ?_) | with_reducible refine State.Follows.ite (fun _ => ?_) (fun _ => ?_) | with_reducible apply State.access_follows | with_reducible apply State.releaseGo_follows | with_reducible apply Res.Follows.next | fail_if_no_progress with_reducible apply State.Follows.upd | split | trivial | intro _ | dsimp only)

theorem execMemReleaseDone_follows {z : State} (easel : Fin 64) {s : State} (hs : z.Follows s) :
    Res.Follows z (execMemReleaseDone easel s) := by
  unfold execMemReleaseDone
  repeat' (first | with_reducible assumption | with_reducible refine Res.Follows.ite (fun _ => ?_) (fun _ => ?_) | with_reducible refine State.Follows.ite (fun _ => ?_) (fun _ => ?_) | with_reducible apply State.setFlag_follows | with_reducible apply State.bondWatermark_follows | with_reducible apply Res.Follows.next | fail_if_no_progress with_reducible apply State.Follows.upd | split | trivial | intro _ | dsimp only)

end Sys2Proof.Machine
end

