-- ==== Sys2Proof/Laws/RadioFollows.lean ====
section
/-! SUPPORT. Laws/RadioFollows.lean: every operation of Machine/Radio.lean follows: what it does to the queue, the outputs, the draw counter and the invariant (Safety.lean). -/
set_option linter.unusedVariables false
set_option linter.unreachableTactic false
set_option linter.unusedTactic false
namespace Sys2Proof.Machine

open Sys2Proof

theorem State.takeMsg_follows {z : State} {s : State} (q : Nat) (hs : z.Follows s) :
    ∀ v, (State.takeMsg s q) = some v → z.Follows v.2 := by
  unfold State.takeMsg
  intro v e
  revert e
  repeat' (first | split | dsimp only)
  all_goals intro e
  all_goals (first | (simp only [Option.some.injEq] at e; subst e) | (obtain ⟨_, _, rfl⟩ := Option.map_eq_some_iff.mp e) | exact absurd e (by simp))
  all_goals repeat' (first | with_reducible assumption | with_reducible apply State.setFqp_follows | with_reducible apply Res.Follows.next | fail_if_no_progress with_reducible apply State.Follows.upd | split | trivial | intro _ | dsimp only)

theorem State.withMsg_follows {z : State} {s : State} (q : Nat) (id : Nat) (f : Nat → Nat → State → State) (fF : ∀ a0 a1 a2, z.Follows a2 → z.Follows (f a0 a1 a2)) (hs : z.Follows s) :
    z.Follows (State.withMsg s q id f) := by
  unfold State.withMsg
  repeat' (first | with_reducible assumption | with_reducible refine State.Follows.ite (fun _ => ?_) (fun _ => ?_) | (with_reducible refine fun _ h_ => State.takeMsg_follows _ ?_ _ h_) | with_reducible apply fF | with_reducible apply Res.Follows.next | fail_if_no_progress with_reducible apply State.Follows.upd | (with_reducible refine State.Follows.of_opt (by with_reducible assumption) ?_) | (with_reducible refine State.Follows.of_opt_snd (by with_reducible assumption) ?_) | (with_reducible refine State.Follows.of_opt_fst (by with_reducible assumption) ?_) | (with_reducible refine State.Follows.of_snd (by with_reducible assumption) ?_) | (with_reducible refine State.Follows.of_fst (by with_reducible assumption) ?_) | (with_reducible refine State.Follows.of_trd (by with_reducible assumption) ?_) | split | trivial | intro _ | dsimp only)

theorem execFapiParam_follows {z : State} (qp : Fin 64) (cell : Nat) {s : State} (hs : z.Follows s) :
    Res.Follows z (execFapiParam qp cell s) := by
  unfold execFapiParam
  repeat' (first | with_reducible assumption | with_reducible apply State.sayL2_follows | with_reducible apply State.withMsg_follows | with_reducible apply Res.Follows.next | fail_if_no_progress with_reducible apply State.Follows.upd | split | trivial | intro _ | dsimp only)

theorem execFapiConfig_follows {z : State} (qp : Fin 64) (cell : Nat) (prbs : Nat) (scs : Nat) (ports : Nat) (duplex : Nat) (body : List Nat) {s : State} (hs : z.Follows s) :
    Res.Follows z (execFapiConfig qp cell prbs scs ports duplex body s) := by
  unfold execFapiConfig
  repeat' (first | with_reducible assumption | with_reducible refine Res.Follows.ite (fun _ => ?_) (fun _ => ?_) | with_reducible refine State.Follows.ite (fun _ => ?_) (fun _ => ?_) | with_reducible apply State.setRad_follows | with_reducible apply State.setCell_follows | with_reducible apply State.sayL2_follows | with_reducible apply State.answerError_follows | with_reducible apply State.withMsg_follows | with_reducible apply Res.Follows.next | fail_if_no_progress with_reducible apply State.Follows.upd | split | trivial | intro _ | dsimp only)

theorem execFapiStart_follows {z : State} (qp : Fin 64) (cell : Nat) {s : State} (hs : z.Follows s) :
    Res.Follows z (execFapiStart qp cell s) := by
  unfold execFapiStart
  repeat' (first | with_reducible assumption | with_reducible refine Res.Follows.ite (fun _ => ?_) (fun _ => ?_) | with_reducible refine State.Follows.ite (fun _ => ?_) (fun _ => ?_) | with_reducible apply State.setRad_follows | with_reducible apply State.setCell_follows | with_reducible apply State.answerError_follows | with_reducible apply State.showHarq_follows | with_reducible apply State.withMsg_follows | with_reducible apply Res.Follows.next | fail_if_no_progress with_reducible apply State.Follows.upd | split | trivial | intro _ | dsimp only)

theorem execFapiStop_follows {z : State} (qp : Fin 64) (cell : Nat) {s : State} (hs : z.Follows s) :
    Res.Follows z (execFapiStop qp cell s) := by
  unfold execFapiStop
  repeat' (first | with_reducible assumption | with_reducible refine Res.Follows.ite (fun _ => ?_) (fun _ => ?_) | with_reducible refine State.Follows.ite (fun _ => ?_) (fun _ => ?_) | with_reducible apply State.setRad_follows | with_reducible apply State.answerError_follows | with_reducible apply State.withMsg_follows | with_reducible apply Res.Follows.next | fail_if_no_progress with_reducible apply State.Follows.upd | split | trivial | intro _ | dsimp only)

theorem State.slotRequest_follows {z : State} {s : State} (q : Nat) (id : Nat) (sfn : Nat) (slot : Nat) (type : Nat) (f : Nat → Nat → State → State) (fF : ∀ a0 a1 a2, z.Follows a2 → z.Follows (f a0 a1 a2)) (hs : z.Follows s) :
    z.Follows (State.slotRequest s q id sfn slot type f) := by
  unfold State.slotRequest
  repeat' (first | with_reducible assumption | with_reducible refine State.Follows.ite (fun _ => ?_) (fun _ => ?_) | with_reducible apply State.incSat_follows | with_reducible apply State.setSlot_follows | with_reducible apply State.answerError_follows | with_reducible apply State.withMsg_follows | with_reducible apply fF | with_reducible apply Res.Follows.next | fail_if_no_progress with_reducible apply State.Follows.upd | (with_reducible refine State.Follows.of_snd (by with_reducible assumption) ?_) | (with_reducible refine State.Follows.of_fst (by with_reducible assumption) ?_) | (with_reducible refine State.Follows.of_trd (by with_reducible assumption) ?_) | split | trivial | intro _ | dsimp only)

theorem State.addPdus_follows {z : State} {s : State} (c : Nat) (n : Nat) (ps : List RadPdu) (hs : z.Follows s) :
    z.Follows (State.addPdus s c n ps) := by
  unfold State.addPdus
  repeat' (first | with_reducible assumption | with_reducible refine State.Follows.ite (fun _ => ?_) (fun _ => ?_) | with_reducible apply State.setSlot_follows | with_reducible apply State.answerError_follows | with_reducible apply Res.Follows.next | fail_if_no_progress with_reducible apply State.Follows.upd | split | trivial | intro _ | dsimp only)

theorem execDlTtiRequest_follows {z : State} (qp : Fin 64) (cell : Nat) (sfn : Nat) (slot : Nat) (pdus : List RadPdu) (mib : Option Nat) {s : State} (hs : z.Follows s) :
    Res.Follows z (execDlTtiRequest qp cell sfn slot pdus mib s) := by
  unfold execDlTtiRequest
  repeat' (first | with_reducible assumption | with_reducible refine Res.Follows.ite (fun _ => ?_) (fun _ => ?_) | with_reducible refine State.Follows.ite (fun _ => ?_) (fun _ => ?_) | with_reducible apply State.setRad_follows | with_reducible apply State.slotRequest_follows | with_reducible apply State.addPdus_follows | with_reducible apply Res.Follows.next | fail_if_no_progress with_reducible apply State.Follows.upd | split | trivial | intro _ | dsimp only)

theorem execUlTtiRequest_follows {z : State} (qp : Fin 64) (cell : Nat) (sfn : Nat) (slot : Nat) (pdus : List RadPdu) {s : State} (hs : z.Follows s) :
    Res.Follows z (execUlTtiRequest qp cell sfn slot pdus s) := by
  unfold execUlTtiRequest
  repeat' (first | with_reducible assumption | with_reducible apply forEach_follows | with_reducible apply State.setSlot_follows | with_reducible apply State.harqRequest_follows | with_reducible apply State.slotRequest_follows | with_reducible apply State.addPdus_follows | with_reducible apply Res.Follows.next | fail_if_no_progress with_reducible apply State.Follows.upd | split | trivial | intro _ | dsimp only)

theorem execUlDciRequest_follows {z : State} (qp : Fin 64) (cell : Nat) (sfn : Nat) (slot : Nat) (pdus : List RadPdu) {s : State} (hs : z.Follows s) :
    Res.Follows z (execUlDciRequest qp cell sfn slot pdus s) := by
  unfold execUlDciRequest
  repeat' (first | with_reducible assumption | with_reducible apply State.slotRequest_follows | with_reducible apply State.addPdus_follows | with_reducible apply Res.Follows.next | fail_if_no_progress with_reducible apply State.Follows.upd | split | trivial | intro _ | dsimp only)

theorem State.takeTx_follows {z : State} {s : State} (c : Nat) (n : Nat) (x : RadTx) (hs : z.Follows s) :
    z.Follows (State.takeTx s c n x) := by
  unfold State.takeTx
  repeat' (first | with_reducible assumption | with_reducible refine State.Follows.ite (fun _ => ?_) (fun _ => ?_) | with_reducible apply State.countUnits_follows | with_reducible apply State.refuseXlate_follows | with_reducible apply State.setSlot_follows | with_reducible apply Res.Follows.next | fail_if_no_progress with_reducible apply State.Follows.upd | split | trivial | intro _ | dsimp only)

theorem execTxDataRequest_follows {z : State} (qp : Fin 64) (cell : Nat) (sfn : Nat) (slot : Nat) (tbs : List RadTx) {s : State} (hs : z.Follows s) :
    Res.Follows z (execTxDataRequest qp cell sfn slot tbs s) := by
  unfold execTxDataRequest
  repeat' (first | with_reducible assumption | with_reducible apply forEach_follows | with_reducible apply State.slotRequest_follows | with_reducible apply State.takeTx_follows | with_reducible apply Res.Follows.next | fail_if_no_progress with_reducible apply State.Follows.upd | split | trivial | intro _ | dsimp only)

theorem execSlotIndication_follows {z : State} (cell : Fin 384) {s : State} (hs : z.Follows s) :
    Res.Follows z (execSlotIndication cell s) := by
  unfold execSlotIndication
  repeat' (first | with_reducible assumption | with_reducible refine Res.Follows.ite (fun _ => ?_) (fun _ => ?_) | with_reducible refine State.Follows.ite (fun _ => ?_) (fun _ => ?_) | with_reducible apply State.setRad_follows | with_reducible apply State.tellL2_follows | with_reducible apply Res.Follows.next | fail_if_no_progress with_reducible apply State.Follows.upd | split | trivial | intro _ | dsimp only)

theorem execRequestDeadline_follows {z : State} (cell : Fin 384) (n : Nat) {s : State} (hs : z.Follows s) :
    Res.Follows z (execRequestDeadline cell n s) := by
  unfold execRequestDeadline
  repeat' (first | with_reducible assumption | with_reducible refine Res.Follows.ite (fun _ => ?_) (fun _ => ?_) | with_reducible refine State.Follows.ite (fun _ => ?_) (fun _ => ?_) | with_reducible apply State.setSlot_follows | with_reducible apply Res.Follows.next | fail_if_no_progress with_reducible apply State.Follows.upd | split | trivial | intro _ | dsimp only)

theorem State.wakeNamed_follows {z : State} {s : State} (k : Nat) (hs : z.Follows s) :
    z.Follows (State.wakeNamed s k) := by
  unfold State.wakeNamed
  repeat' (first | with_reducible assumption | with_reducible refine State.Follows.ite (fun _ => ?_) (fun _ => ?_) | with_reducible apply Res.Follows.next | fail_if_no_progress with_reducible apply State.Follows.upd | split | trivial | intro _ | dsimp only)

theorem State.enrollItem_follows {z : State} {s : State} (id : Nat) (hs : z.Follows s) :
    z.Follows (State.enrollItem s id) := by
  unfold State.enrollItem
  repeat' (first | with_reducible assumption | with_reducible apply Res.Follows.next | fail_if_no_progress with_reducible apply State.Follows.upd | split | trivial | intro _ | dsimp only)

theorem State.placeItem_follows {z : State} {s : State} (x : PlanItem) (id : Nat) (hs : z.Follows s) :
    z.Follows (State.placeItem s x id) := by
  unfold State.placeItem
  repeat' (first | with_reducible assumption | with_reducible apply State.setTcore_follows | with_reducible apply State.tcTakes_follows | with_reducible apply State.armChan_follows | with_reducible apply State.setScore_follows | with_reducible apply State.scTakes_follows | with_reducible apply State.wakeNamed_follows | with_reducible apply State.enrollItem_follows | with_reducible apply Res.Follows.next | fail_if_no_progress with_reducible apply State.Follows.upd | split | trivial | intro _ | dsimp only)

theorem State.sendCplane_follows {z : State} {s : State} (c : Nat) (n : Nat) (hs : z.Follows s) :
    z.Follows (State.sendCplane s c n) := by
  unfold State.sendCplane
  repeat' (first | with_reducible assumption | with_reducible refine State.Follows.ite (fun _ => ?_) (fun _ => ?_) | with_reducible apply forEach_follows | with_reducible apply State.flowSend_follows | with_reducible apply Res.Follows.next | fail_if_no_progress with_reducible apply State.Follows.upd | split | trivial | intro _ | dsimp only)

theorem execSlotPlan_follows {z : State} (cell : Fin 384) (n : Nat) (kNow : Nat) (sNow : Nat) (items : List PlanItem) {s : State} (hs : z.Follows s) :
    Res.Follows z (execSlotPlan cell n kNow sNow items s) := by
  unfold execSlotPlan
  repeat' (first | with_reducible assumption | with_reducible refine Res.Follows.ite (fun _ => ?_) (fun _ => ?_) | with_reducible refine State.Follows.ite (fun _ => ?_) (fun _ => ?_) | with_reducible apply forEach_follows | with_reducible apply State.setSlot_follows | with_reducible apply State.pumpHard_follows | with_reducible apply State.wakeNamed_follows | with_reducible apply State.placeItem_follows | with_reducible apply State.sendCplane_follows | with_reducible apply Res.Follows.next | fail_if_no_progress with_reducible apply State.Follows.upd | split | trivial | intro _ | dsimp only)

theorem execUlWindowClose_follows {z : State} (cell : Fin 384) (n : Nat) (sym : Fin 14) {s : State} (hs : z.Follows s) :
    Res.Follows z (execUlWindowClose cell n sym s) := by
  unfold execUlWindowClose
  repeat' (first | with_reducible assumption | with_reducible refine Res.Follows.ite (fun _ => ?_) (fun _ => ?_) | with_reducible refine State.Follows.ite (fun _ => ?_) (fun _ => ?_) | with_reducible apply State.incSat_follows | with_reducible apply State.setSlot_follows | with_reducible apply Res.Follows.next | fail_if_no_progress with_reducible apply State.Follows.upd | split | trivial | intro _ | dsimp only)

theorem State.hardFault_follows {z : State} {s : State} (c : Nat) (fault : Bool) (hs : z.Follows s) :
    z.Follows (State.hardFault s c fault).2 := by
  unfold State.hardFault
  repeat' (first | with_reducible assumption | with_reducible refine State.Follows.ite_snd (fun _ => ?_) (fun _ => ?_) | with_reducible refine State.Follows.ite (fun _ => ?_) (fun _ => ?_) | with_reducible apply State.detect_follows | with_reducible apply State.inject_follows | with_reducible apply Res.Follows.next | fail_if_no_progress with_reducible apply State.Follows.upd | (with_reducible refine State.Follows.of_snd (by with_reducible assumption) ?_) | (with_reducible refine State.Follows.of_fst (by with_reducible assumption) ?_) | (with_reducible refine State.Follows.of_trd (by with_reducible assumption) ?_) | split | trivial | intro _ | dsimp only)

theorem State.ldpcBusy_follows {z : State} {s : State} (panel : Nat) (cyc : Nat) (hs : z.Follows s) :
    z.Follows (State.ldpcBusy s panel cyc) := by
  unfold State.ldpcBusy
  repeat' (first | with_reducible assumption | with_reducible apply State.showLdpc_follows | with_reducible apply Res.Follows.next | fail_if_no_progress with_reducible apply State.Follows.upd | split | trivial | intro _ | dsimp only)

theorem State.reportTb_follows {z : State} {s : State} (c : Nat) (n : Nat) (handle : Nat) (pass : Bool) (bits : List Nat) (hs : z.Follows s) :
    z.Follows (State.reportTb s c n handle pass bits) := by
  unfold State.reportTb
  repeat' (first | with_reducible assumption | with_reducible refine State.Follows.ite (fun _ => ?_) (fun _ => ?_) | with_reducible apply State.setSlot_follows | with_reducible apply State.tellL2_follows | with_reducible apply Res.Follows.next | fail_if_no_progress with_reducible apply State.Follows.upd | split | trivial | intro _ | dsimp only)

theorem State.cbDecoded_follows {z : State} {s : State} (c : Nat) (n : Nat) (p : RadPdu) (cb : Nat) (res : Bool × List Nat) (hs : z.Follows s) :
    z.Follows (State.cbDecoded s c n p cb res) := by
  unfold State.cbDecoded
  repeat' (first | with_reducible assumption | with_reducible refine State.Follows.ite (fun _ => ?_) (fun _ => ?_) | with_reducible apply State.setSlot_follows | with_reducible apply State.harqFree_follows | with_reducible apply State.reportTb_follows | with_reducible apply Res.Follows.next | fail_if_no_progress with_reducible apply State.Follows.upd | split | trivial | intro _ | dsimp only)

theorem State.combine_follows {z : State} {s : State} (c : Nat) (p : RadPdu) (cb : Nat) (own : List Int) (hs : z.Follows s) :
    z.Follows (State.combine s c p cb own).2 := by
  unfold State.combine
  repeat' (first | with_reducible assumption | with_reducible refine State.Follows.ite_snd (fun _ => ?_) (fun _ => ?_) | with_reducible refine State.Follows.ite (fun _ => ?_) (fun _ => ?_) | with_reducible apply State.harqRead_follows | with_reducible apply State.harqWrite_follows | with_reducible apply Res.Follows.next | fail_if_no_progress with_reducible apply State.Follows.upd | (with_reducible refine State.Follows.of_snd (by with_reducible assumption) ?_) | (with_reducible refine State.Follows.of_fst (by with_reducible assumption) ?_) | (with_reducible refine State.Follows.of_trd (by with_reducible assumption) ?_) | split | trivial | intro _ | dsimp only)

theorem execLdpcDecodeDone_follows {z : State} (cell : Fin 384) (n : Nat) (handle : Nat) (cb : Nat) (soft : List (BitVec 8)) (fault : Bool) {s : State} (hs : z.Follows s) :
    Res.Follows z (execLdpcDecodeDone cell n handle cb soft fault s) := by
  unfold execLdpcDecodeDone
  repeat' (first | with_reducible assumption | with_reducible refine Res.Follows.ite (fun _ => ?_) (fun _ => ?_) | with_reducible refine State.Follows.ite (fun _ => ?_) (fun _ => ?_) | with_reducible apply State.itemDone_follows | with_reducible apply State.shedItem_follows | with_reducible apply State.hardFault_follows | with_reducible apply State.ldpcBusy_follows | with_reducible apply State.cbDecoded_follows | with_reducible apply State.combine_follows | with_reducible apply Res.Follows.next | fail_if_no_progress with_reducible apply State.Follows.upd | (with_reducible refine State.Follows.of_snd (by with_reducible assumption) ?_) | (with_reducible refine State.Follows.of_fst (by with_reducible assumption) ?_) | (with_reducible refine State.Follows.of_trd (by with_reducible assumption) ?_) | split | trivial | intro _ | dsimp only)

theorem State.reportRest_follows {z : State} {s : State} (c : Nat) (n : Nat) (hs : z.Follows s) :
    z.Follows (State.reportRest s c n) := by
  unfold State.reportRest
  repeat' (first | with_reducible assumption | with_reducible apply forEach_follows | with_reducible apply State.incSat_follows | with_reducible apply State.setSlot_follows | with_reducible apply State.tellL2_follows | with_reducible apply State.reportTb_follows | with_reducible apply Res.Follows.next | fail_if_no_progress with_reducible apply State.Follows.upd | split | trivial | intro _ | dsimp only)

theorem execResultDeadline_follows {z : State} (cell : Fin 384) (n : Nat) {s : State} (hs : z.Follows s) :
    Res.Follows z (execResultDeadline cell n s) := by
  unfold execResultDeadline
  repeat' (first | with_reducible assumption | with_reducible refine Res.Follows.ite (fun _ => ?_) (fun _ => ?_) | with_reducible refine State.Follows.ite (fun _ => ?_) (fun _ => ?_) | with_reducible apply State.setSlot_follows | with_reducible apply State.reportRest_follows | with_reducible apply Res.Follows.next | fail_if_no_progress with_reducible apply State.Follows.upd | split | trivial | intro _ | dsimp only)

theorem execHarqAgeExpiry_follows {z : State} (cell : Fin 384) (rnti : Nat) (harq : Nat) {s : State} (hs : z.Follows s) :
    Res.Follows z (execHarqAgeExpiry cell rnti harq s) := by
  unfold execHarqAgeExpiry
  repeat' (first | with_reducible assumption | with_reducible refine Res.Follows.ite (fun _ => ?_) (fun _ => ?_) | with_reducible refine State.Follows.ite (fun _ => ?_) (fun _ => ?_) | with_reducible apply State.harqFree_follows | with_reducible apply Res.Follows.next | fail_if_no_progress with_reducible apply State.Follows.upd | split | trivial | intro _ | dsimp only)

theorem State.hardDone_follows {z : State} {s : State} (c : Nat) (n : Nat) (i : Nat) (engine : Nat) (fault : Bool) (hs : z.Follows s) :
    z.Follows (State.hardDone s c n i engine fault) := by
  unfold State.hardDone
  repeat' (first | with_reducible assumption | with_reducible refine State.Follows.ite (fun _ => ?_) (fun _ => ?_) | with_reducible apply State.itemDone_follows | with_reducible apply State.shedItem_follows | with_reducible apply State.hardFault_follows | with_reducible apply Res.Follows.next | fail_if_no_progress with_reducible apply State.Follows.upd | (with_reducible refine State.Follows.of_snd (by with_reducible assumption) ?_) | (with_reducible refine State.Follows.of_fst (by with_reducible assumption) ?_) | (with_reducible refine State.Follows.of_trd (by with_reducible assumption) ?_) | split | trivial | intro _ | dsimp only)

theorem execLdpcEncodeDone_follows {z : State} (cell : Fin 384) (n : Nat) (item : Nat) (fault : Bool) {s : State} (hs : z.Follows s) :
    Res.Follows z (execLdpcEncodeDone cell n item fault s) := by
  unfold execLdpcEncodeDone
  repeat' (first | with_reducible assumption | with_reducible apply State.hardDone_follows | with_reducible apply Res.Follows.next | fail_if_no_progress with_reducible apply State.Follows.upd | split | trivial | intro _ | dsimp only)

theorem execFftDone_follows {z : State} (cell : Fin 384) (n : Nat) (item : Nat) (fault : Bool) {s : State} (hs : z.Follows s) :
    Res.Follows z (execFftDone cell n item fault s) := by
  unfold execFftDone
  repeat' (first | with_reducible assumption | with_reducible apply State.hardDone_follows | with_reducible apply Res.Follows.next | fail_if_no_progress with_reducible apply State.Follows.upd | split | trivial | intro _ | dsimp only)

theorem execPolarDecodeDone_follows {z : State} (cell : Fin 384) (n : Nat) (item : Nat) (fault : Bool) {s : State} (hs : z.Follows s) :
    Res.Follows z (execPolarDecodeDone cell n item fault s) := by
  unfold execPolarDecodeDone
  repeat' (first | with_reducible assumption | with_reducible apply State.hardDone_follows | with_reducible apply Res.Follows.next | fail_if_no_progress with_reducible apply State.Follows.upd | split | trivial | intro _ | dsimp only)

theorem execDlDataCheck_follows {z : State} (cell : Fin 384) (n : Nat) (sym : Fin 14) {s : State} (hs : z.Follows s) :
    Res.Follows z (execDlDataCheck cell n sym s) := by
  unfold execDlDataCheck
  repeat' (first | with_reducible assumption | with_reducible refine Res.Follows.ite (fun _ => ?_) (fun _ => ?_) | with_reducible refine State.Follows.ite (fun _ => ?_) (fun _ => ?_) | with_reducible apply forEach_follows | with_reducible apply State.incSat_follows | with_reducible apply State.flowSend_follows | with_reducible apply State.setSlot_follows | with_reducible apply State.tellSlotErr_follows | with_reducible apply Res.Follows.next | fail_if_no_progress with_reducible apply State.Follows.upd | with_reducible apply foldl_follows | with_reducible apply foldl_fst_follows | with_reducible apply foldl_snd_follows | with_reducible apply foldl_trd_follows | split | trivial | intro _ | dsimp only)

theorem execRadioShed_follows {z : State} (cell : Fin 384) (n : Nat) (item : Nat) (now : Nat) {s : State} (hs : z.Follows s) :
    Res.Follows z (execRadioShed cell n item now s) := by
  unfold execRadioShed
  repeat' (first | with_reducible assumption | with_reducible refine Res.Follows.ite (fun _ => ?_) (fun _ => ?_) | with_reducible refine State.Follows.ite (fun _ => ?_) (fun _ => ?_) | with_reducible apply State.shedItem_follows | with_reducible apply Res.Follows.next | fail_if_no_progress with_reducible apply State.Follows.upd | split | trivial | intro _ | dsimp only)

theorem State.ssbSlot_follows {z : State} {s : State} (c : Nat) (hs : z.Follows s) :
    z.Follows (State.ssbSlot s c) := by
  unfold State.ssbSlot
  repeat' (first | with_reducible assumption | with_reducible apply State.setSlot_follows | with_reducible apply Res.Follows.next | fail_if_no_progress with_reducible apply State.Follows.upd | split | trivial | intro _ | dsimp only)

theorem execCellSlotBoundary_follows {z : State} (cell : Fin 384) {s : State} (hs : z.Follows s) :
    Res.Follows z (execCellSlotBoundary cell s) := by
  unfold execCellSlotBoundary
  repeat' (first | with_reducible assumption | with_reducible refine Res.Follows.ite (fun _ => ?_) (fun _ => ?_) | with_reducible refine State.Follows.ite (fun _ => ?_) (fun _ => ?_) | with_reducible apply State.setFld_follows | with_reducible apply State.incWrap_follows | with_reducible apply State.dropInds_follows | with_reducible apply State.setRad_follows | with_reducible apply State.setCell_follows | with_reducible apply State.tellL2_follows | with_reducible apply State.ssbSlot_follows | with_reducible apply Res.Follows.next | fail_if_no_progress with_reducible apply State.Follows.upd | split | trivial | intro _ | dsimp only)

theorem execSsbHoldExpiry_follows {z : State} (cell : Fin 384) {s : State} (hs : z.Follows s) :
    Res.Follows z (execSsbHoldExpiry cell s) := by
  unfold execSsbHoldExpiry
  repeat' (first | with_reducible assumption | with_reducible refine Res.Follows.ite (fun _ => ?_) (fun _ => ?_) | with_reducible refine State.Follows.ite (fun _ => ?_) (fun _ => ?_) | with_reducible apply State.setRad_follows | with_reducible apply State.showCells_follows | with_reducible apply Res.Follows.next | fail_if_no_progress with_reducible apply State.Follows.upd | split | trivial | intro _ | dsimp only)

end Sys2Proof.Machine
end

