-- ==== Sys2Proof/Laws/CompleteFollows.lean ====
section
/-! SUPPORT. Laws/CompleteFollows.lean: every operation of Machine/Complete.lean follows: what it does to the queue, the outputs, the draw counter and the invariant (Safety.lean). -/
set_option linter.unusedVariables false
set_option linter.unreachableTactic false
set_option linter.unusedTactic false
namespace Sys2Proof.Machine

open Sys2Proof

theorem State.tcEnd_follows {z : State} {s : State} (core : Nat) (id : Nat) (group : Nat) (cycles : Nat) (hs : z.Follows s) :
    z.Follows (State.tcEnd s core id group cycles) := by
  unfold State.tcEnd
  repeat' (first | with_reducible assumption | with_reducible refine State.Follows.ite (fun _ => ?_) (fun _ => ?_) | with_reducible apply State.tcFinish_follows | with_reducible apply State.radioEnd_follows | with_reducible apply Res.Follows.next | fail_if_no_progress with_reducible apply State.Follows.upd | split | trivial | intro _ | dsimp only)

theorem execTcCompletion_follows {z : State} (core : Fin 48) (id : Nat) (group : Nat) (cycles : Nat) (busy : Nat) {s : State} (hs : z.Follows s) :
    Res.Follows z (execTcCompletion core id group cycles busy s) := by
  unfold execTcCompletion
  repeat' (first | with_reducible assumption | with_reducible apply State.inc64_follows | with_reducible apply State.launchBad_follows | with_reducible apply State.tcEnd_follows | with_reducible apply Res.Follows.next | fail_if_no_progress with_reducible apply State.Follows.upd | split | trivial | intro _ | dsimp only)

theorem State.scFinish_follows {z : State} {s : State} (core : Nat) (x : ScCtx) (st : Nat) (pc : Nat) (parkedCyc : Nat) (hs : z.Follows s) :
    z.Follows (State.scFinish s core x st pc parkedCyc) := by
  unfold State.scFinish
  repeat' (first | with_reducible assumption | with_reducible refine State.Follows.ite (fun _ => ?_) (fun _ => ?_) | with_reducible apply State.scEnd_follows | with_reducible apply State.radioEnd_follows | with_reducible apply Res.Follows.next | fail_if_no_progress with_reducible apply State.Follows.upd | split | trivial | intro _ | dsimp only)

theorem execScCompletion_follows {z : State} (core : Fin 192) (pm : Ecc) (parkedCyc : Nat) {s : State} (hs : z.Follows s) :
    Res.Follows z (execScCompletion core pm parkedCyc s) := by
  unfold execScCompletion
  repeat' (first | with_reducible assumption | with_reducible refine Res.Follows.ite (fun _ => ?_) (fun _ => ?_) | with_reducible refine State.Follows.ite (fun _ => ?_) (fun _ => ?_) | with_reducible apply State.incSat_follows | with_reducible apply State.detect_follows | with_reducible apply State.inject_follows | with_reducible apply State.scLaunchBad_follows | with_reducible apply State.pmemUe_follows | with_reducible apply State.scFinish_follows | with_reducible apply Res.Follows.next | fail_if_no_progress with_reducible apply State.Follows.upd | (with_reducible refine State.Follows.of_snd (by with_reducible assumption) ?_) | (with_reducible refine State.Follows.of_fst (by with_reducible assumption) ?_) | (with_reducible refine State.Follows.of_trd (by with_reducible assumption) ?_) | split | trivial | intro _ | dsimp only)

theorem execRepeatCeiling_follows {z : State} (core : Fin 192) (parkedCyc : Nat) {s : State} (hs : z.Follows s) :
    Res.Follows z (execRepeatCeiling core parkedCyc s) := by
  unfold execRepeatCeiling
  repeat' (first | with_reducible assumption | with_reducible refine Res.Follows.ite (fun _ => ?_) (fun _ => ?_) | with_reducible refine State.Follows.ite (fun _ => ?_) (fun _ => ?_) | with_reducible apply State.scFinish_follows | with_reducible apply Res.Follows.next | fail_if_no_progress with_reducible apply State.Follows.upd | split | trivial | intro _ | dsimp only)

theorem execDescriptorFetchDone_follows {z : State} (ch : Fin 2048) (host : Blob) (fail : Bool) {s : State} (hs : z.Follows s) :
    Res.Follows z (execDescriptorFetchDone ch host fail s) := by
  unfold execDescriptorFetchDone
  repeat' (first | with_reducible assumption | with_reducible apply State.burstDone_follows | with_reducible apply State.consumeRuns_follows | with_reducible apply Res.Follows.next | fail_if_no_progress with_reducible apply State.Follows.upd | split | trivial | intro _ | dsimp only)

theorem execDescriptorComplete_follows {z : State} (ch : Fin 2048) {s : State} (hs : z.Follows s) :
    Res.Follows z (execDescriptorComplete ch s) := by
  unfold execDescriptorComplete
  repeat' (first | with_reducible assumption | with_reducible apply State.completeDesc_follows | with_reducible apply State.consumeRuns_follows | with_reducible apply Res.Follows.next | fail_if_no_progress with_reducible apply State.Follows.upd | split | trivial | intro _ | dsimp only)

theorem execChannelAbort_follows {z : State} (req : Requester) {s : State} (hs : z.Follows s) :
    Res.Follows z (execChannelAbort req s) := by
  unfold execChannelAbort
  repeat' (first | with_reducible assumption | with_reducible apply State.access_follows | with_reducible apply State.abortChan_follows | with_reducible apply State.consumeRuns_follows | with_reducible apply Res.Follows.next | fail_if_no_progress with_reducible apply State.Follows.upd | split | trivial | intro _ | dsimp only)

end Sys2Proof.Machine
end

