-- ==== Sys2Proof/Laws/SeqFollows.lean ====
section
/-! SUPPORT. Laws/SeqFollows.lean: every operation of Machine/Seq.lean follows: what it does to the queue, the outputs, the draw counter and the invariant (Safety.lean). -/
set_option linter.unusedVariables false
set_option linter.unreachableTactic false
set_option linter.unusedTactic false
namespace Sys2Proof.Machine

open Sys2Proof

theorem State.seqEnable_follows {z : State} {s : State} (e : Nat) (hs : z.Follows s) :
    z.Follows (State.seqEnable s e) := by
  unfold State.seqEnable
  repeat' (first | with_reducible assumption | with_reducible refine State.Follows.ite (fun _ => ?_) (fun _ => ?_) | with_reducible apply forUpto_follows | with_reducible apply State.setFld_follows | with_reducible apply State.setFlag_follows | with_reducible apply State.setSeqEas_follows | with_reducible apply State.showFree_follows | with_reducible apply Res.Follows.next | fail_if_no_progress with_reducible apply State.Follows.upd | split | trivial | intro _ | dsimp only)

theorem execSeqEnable_follows {z : State} (req : Requester) (auto : Bool) {s : State} (hs : z.Follows s) :
    Res.Follows z (execSeqEnable req auto s) := by
  unfold execSeqEnable
  repeat' (first | with_reducible assumption | with_reducible refine Res.Follows.ite (fun _ => ?_) (fun _ => ?_) | with_reducible refine State.Follows.ite (fun _ => ?_) (fun _ => ?_) | with_reducible apply State.setFlag_follows | with_reducible apply State.access_follows | with_reducible apply State.seqEnable_follows | with_reducible apply Res.Follows.next | fail_if_no_progress with_reducible apply State.Follows.upd | split | trivial | intro _ | dsimp only)

theorem State.seqDone_follows {z : State} {s : State} (e : Nat) (id : Nat) (d : List Nat) (st : Nat) (a : Nat) (b : Nat) (hs : z.Follows s) :
    z.Follows (State.seqDone s e id d st a b) := by
  unfold State.seqDone
  repeat' (first | with_reducible assumption | with_reducible apply State.retire_follows | with_reducible apply State.seqPost_follows | with_reducible apply Res.Follows.next | fail_if_no_progress with_reducible apply State.Follows.upd | split | trivial | intro _ | dsimp only)

theorem State.seqOpen_follows {z : State} {s : State} (e : Nat) (id : Nat) (d : List Nat) (hs : z.Follows s) :
    z.Follows (State.seqOpen s e id d) := by
  unfold State.seqOpen
  repeat' (first | with_reducible assumption | with_reducible refine State.Follows.ite (fun _ => ?_) (fun _ => ?_) | with_reducible apply State.setSeqEas_follows | with_reducible apply State.setSeqEntry_follows | with_reducible apply State.retryBuild_follows | with_reducible apply State.seqDone_follows | with_reducible apply Res.Follows.next | fail_if_no_progress with_reducible apply State.Follows.upd | split | trivial | intro _ | dsimp only)

theorem State.seqClose_follows {z : State} {s : State} (e : Nat) (id : Nat) (d : List Nat) (hs : z.Follows s) :
    z.Follows (State.seqClose s e id d) := by
  unfold State.seqClose
  repeat' (first | with_reducible assumption | with_reducible refine State.Follows.ite (fun _ => ?_) (fun _ => ?_) | with_reducible apply State.setSeqEntry_follows | with_reducible apply State.endSeq_follows | with_reducible apply State.seqDone_follows | with_reducible apply Res.Follows.next | fail_if_no_progress with_reducible apply State.Follows.upd | split | trivial | intro _ | dsimp only)

theorem State.seqSwap_follows {z : State} {s : State} (e : Nat) (id : Nat) (d : List Nat) (hs : z.Follows s) :
    z.Follows (State.seqSwap s e id d) := by
  unfold State.seqSwap
  repeat' (first | with_reducible assumption | with_reducible refine State.Follows.ite (fun _ => ?_) (fun _ => ?_) | with_reducible apply State.setSeqEas_follows | with_reducible apply State.swapOutStart_follows | with_reducible apply State.swapInStart_follows | with_reducible apply State.seqDone_follows | with_reducible apply Res.Follows.next | fail_if_no_progress with_reducible apply State.Follows.upd | (with_reducible refine State.Follows.of_snd (by with_reducible assumption) ?_) | (with_reducible refine State.Follows.of_fst (by with_reducible assumption) ?_) | (with_reducible refine State.Follows.of_trd (by with_reducible assumption) ?_) | split | trivial | intro _ | dsimp only)

theorem State.sampleRow_follows {z : State} {s : State} (e : Nat) (d : List Nat) (t : SeqEntry) (r : Nat) (q : Nat) (ecc : List (Nat × EccEvent)) (hs : z.Follows s) :
    z.Follows (State.sampleRow s e d t r q ecc).2 := by
  unfold State.sampleRow
  repeat' (first | with_reducible assumption | with_reducible refine State.Follows.ite_snd (fun _ => ?_) (fun _ => ?_) | with_reducible refine State.Follows.ite (fun _ => ?_) (fun _ => ?_) | with_reducible apply State.bondLoad_follows | with_reducible apply Res.Follows.next | fail_if_no_progress with_reducible apply State.Follows.upd | split | trivial | intro _ | dsimp only)

theorem State.putDraft_follows {z : State} {s : State} (e : Nat) (g : SeqSeg) (j : Nat) (tok : Nat) (hs : z.Follows s) :
    z.Follows (State.putDraft s e g j tok) := by
  unfold State.putDraft
  repeat' (first | with_reducible assumption | with_reducible apply State.updSeq_follows | with_reducible apply State.seqStore_follows | with_reducible apply Res.Follows.next | fail_if_no_progress with_reducible apply State.Follows.upd | split | trivial | intro _ | dsimp only)

theorem draftSeg_follows {z : State} (e : Nat) (d : List Nat) (ecc : List (Nat × EccEvent)) (p : SeqSeg × Nat) {a : Nat × State} (ha : z.Follows a.2) :
    z.Follows (draftSeg e d ecc p a).2 := by
  unfold draftSeg
  repeat' (first | with_reducible assumption | with_reducible refine State.Follows.ite_snd (fun _ => ?_) (fun _ => ?_) | with_reducible refine State.Follows.ite (fun _ => ?_) (fun _ => ?_) | with_reducible apply State.setSeqEas_follows | with_reducible apply State.updSeq_follows | with_reducible apply State.sampleRow_follows | with_reducible apply State.putDraft_follows | with_reducible apply Res.Follows.next | fail_if_no_progress with_reducible apply State.Follows.upd | (with_reducible refine State.Follows.of_snd (by with_reducible assumption) ?_) | (with_reducible refine State.Follows.of_fst (by with_reducible assumption) ?_) | (with_reducible refine State.Follows.of_trd (by with_reducible assumption) ?_) | split | trivial | intro _ | dsimp only)

theorem State.sampleDraft_follows {z : State} {s : State} (e : Nat) (id : Nat) (d : List Nat) (ecc : List (Nat × EccEvent)) (hs : z.Follows s) :
    z.Follows (State.sampleDraft s e id d ecc) := by
  unfold State.sampleDraft
  repeat' (first | with_reducible assumption | with_reducible refine State.Follows.ite (fun _ => ?_) (fun _ => ?_) | with_reducible apply State.setSeqEas_follows | with_reducible apply State.seqDone_follows | with_reducible apply draftSeg_follows | with_reducible apply Res.Follows.next | fail_if_no_progress with_reducible apply State.Follows.upd | with_reducible apply foldl_follows | with_reducible apply foldl_fst_follows | with_reducible apply foldl_snd_follows | with_reducible apply foldl_trd_follows | (with_reducible refine State.Follows.of_snd (by with_reducible assumption) ?_) | (with_reducible refine State.Follows.of_fst (by with_reducible assumption) ?_) | (with_reducible refine State.Follows.of_trd (by with_reducible assumption) ?_) | split | trivial | intro _ | dsimp only)

theorem State.draftPut_follows {z : State} {s : State} (e : Nat) (id : Nat) (d : List Nat) (hs : z.Follows s) :
    z.Follows (State.draftPut s e id d) := by
  unfold State.draftPut
  repeat' (first | with_reducible assumption | with_reducible refine State.Follows.ite (fun _ => ?_) (fun _ => ?_) | with_reducible apply forUpto_follows | with_reducible apply State.seqDone_follows | with_reducible apply State.putDraft_follows | with_reducible apply Res.Follows.next | fail_if_no_progress with_reducible apply State.Follows.upd | split | trivial | intro _ | dsimp only)

theorem finalDraws_follows {z : State} (e : Nat) (d : List Nat) (ecc : List (Nat × EccEvent)) (g : SeqSeg) (t : SeqEntry) (x1 : Nat) (x2 : Nat) (x3 : List Nat) {s : State} (hs : z.Follows s) :
    z.Follows (finalDraws e d ecc g t x1 x2 x3 s).2.2 := by
  induction x1 generalizing x2 x3 s with
  | zero => unfold finalDraws; repeat' (first | with_reducible assumption | with_reducible refine State.Follows.ite_trd (fun _ => ?_) (fun _ => ?_) | with_reducible refine State.Follows.ite (fun _ => ?_) (fun _ => ?_) | with_reducible apply State.sampleRow_follows | with_reducible apply ih | with_reducible apply Res.Follows.next | fail_if_no_progress with_reducible apply State.Follows.upd | (with_reducible refine State.Follows.of_snd (by with_reducible assumption) ?_) | (with_reducible refine State.Follows.of_fst (by with_reducible assumption) ?_) | (with_reducible refine State.Follows.of_trd (by with_reducible assumption) ?_) | split | trivial | intro _ | dsimp only)
  | succ n ih => unfold finalDraws; repeat' (first | with_reducible assumption | with_reducible refine State.Follows.ite_trd (fun _ => ?_) (fun _ => ?_) | with_reducible refine State.Follows.ite (fun _ => ?_) (fun _ => ?_) | with_reducible apply State.sampleRow_follows | with_reducible apply ih | with_reducible apply Res.Follows.next | fail_if_no_progress with_reducible apply State.Follows.upd | (with_reducible refine State.Follows.of_snd (by with_reducible assumption) ?_) | (with_reducible refine State.Follows.of_fst (by with_reducible assumption) ?_) | (with_reducible refine State.Follows.of_trd (by with_reducible assumption) ?_) | split | trivial | intro _ | dsimp only)

theorem finalSeg_follows {z : State} (e : Nat) (d : List Nat) (ecc : List (Nat × EccEvent)) (g : SeqSeg) {s : State} (hs : z.Follows s) :
    z.Follows (finalSeg e d ecc g s).2 := by
  unfold finalSeg
  repeat' (first | with_reducible assumption | with_reducible refine State.Follows.ite_snd (fun _ => ?_) (fun _ => ?_) | with_reducible refine State.Follows.ite (fun _ => ?_) (fun _ => ?_) | with_reducible apply finalDraws_follows | with_reducible apply Res.Follows.next | fail_if_no_progress with_reducible apply State.Follows.upd | (with_reducible refine State.Follows.of_snd (by with_reducible assumption) ?_) | (with_reducible refine State.Follows.of_fst (by with_reducible assumption) ?_) | (with_reducible refine State.Follows.of_trd (by with_reducible assumption) ?_) | split | trivial | intro _ | dsimp only)

theorem State.sampleFinal_follows {z : State} {s : State} (e : Nat) (id : Nat) (d : List Nat) (ecc : List (Nat × EccEvent)) (hs : z.Follows s) :
    z.Follows (State.sampleFinal s e id d ecc) := by
  unfold State.sampleFinal
  repeat' (first | with_reducible assumption | with_reducible refine State.Follows.ite (fun _ => ?_) (fun _ => ?_) | with_reducible apply State.setFld_follows | with_reducible apply State.setFlag_follows | with_reducible apply State.setSeqEas_follows | with_reducible apply State.seqDone_follows | with_reducible apply finalSeg_follows | with_reducible apply Res.Follows.next | fail_if_no_progress with_reducible apply State.Follows.upd | with_reducible apply foldl_follows | with_reducible apply foldl_fst_follows | with_reducible apply foldl_snd_follows | with_reducible apply foldl_trd_follows | (with_reducible refine State.Follows.of_snd (by with_reducible assumption) ?_) | (with_reducible refine State.Follows.of_fst (by with_reducible assumption) ?_) | (with_reducible refine State.Follows.of_trd (by with_reducible assumption) ?_) | split | trivial | intro _ | dsimp only)

theorem State.sampled_follows {z : State} {s : State} (e : Nat) (hs : z.Follows s) :
    z.Follows (State.sampled s e) := by
  unfold State.sampled
  repeat' (first | with_reducible assumption | with_reducible refine State.Follows.ite (fun _ => ?_) (fun _ => ?_) | with_reducible apply State.setFld_follows | with_reducible apply State.setFlag_follows | with_reducible apply Res.Follows.next | fail_if_no_progress with_reducible apply State.Follows.upd | split | trivial | intro _ | dsimp only)

theorem State.seqExec_follows {z : State} {s : State} (e : Nat) (id : Nat) (d : List Nat) (ecc : List (Nat × EccEvent)) (hs : z.Follows s) :
    z.Follows (State.seqExec s e id d ecc) := by
  unfold State.seqExec
  repeat' (first | with_reducible assumption | with_reducible refine State.Follows.ite (fun _ => ?_) (fun _ => ?_) | with_reducible apply State.retire_follows | with_reducible apply State.buildStep_follows | with_reducible apply State.setBuildWaits_follows | with_reducible apply State.seqDone_follows | with_reducible apply State.seqOpen_follows | with_reducible apply State.seqClose_follows | with_reducible apply State.seqSwap_follows | with_reducible apply State.sampleDraft_follows | with_reducible apply State.draftPut_follows | with_reducible apply State.sampleFinal_follows | with_reducible apply Res.Follows.next | fail_if_no_progress with_reducible apply State.Follows.upd | (with_reducible refine State.Follows.of_snd (by with_reducible assumption) ?_) | (with_reducible refine State.Follows.of_fst (by with_reducible assumption) ?_) | (with_reducible refine State.Follows.of_trd (by with_reducible assumption) ?_) | split | trivial | intro _ | dsimp only)

theorem seqDrain_follows {z : State} (e : Nat) (ecc : List (Nat × EccEvent)) (x1 : Nat) {s : State} (hs : z.Follows s) :
    z.Follows (seqDrain e ecc x1 s) := by
  induction x1 generalizing s with
  | zero => unfold seqDrain; repeat' (first | with_reducible assumption | with_reducible refine State.Follows.ite (fun _ => ?_) (fun _ => ?_) | with_reducible apply State.setSeqEas_follows | with_reducible apply State.setBuildWaits_follows | with_reducible apply State.seqExec_follows | with_reducible apply ih | with_reducible apply Res.Follows.next | fail_if_no_progress with_reducible apply State.Follows.upd | (with_reducible refine State.Follows.of_snd (by with_reducible assumption) ?_) | (with_reducible refine State.Follows.of_fst (by with_reducible assumption) ?_) | (with_reducible refine State.Follows.of_trd (by with_reducible assumption) ?_) | split | trivial | intro _ | dsimp only)
  | succ n ih => unfold seqDrain; repeat' (first | with_reducible assumption | with_reducible refine State.Follows.ite (fun _ => ?_) (fun _ => ?_) | with_reducible apply State.setSeqEas_follows | with_reducible apply State.setBuildWaits_follows | with_reducible apply State.seqExec_follows | with_reducible apply ih | with_reducible apply Res.Follows.next | fail_if_no_progress with_reducible apply State.Follows.upd | (with_reducible refine State.Follows.of_snd (by with_reducible assumption) ?_) | (with_reducible refine State.Follows.of_fst (by with_reducible assumption) ?_) | (with_reducible refine State.Follows.of_trd (by with_reducible assumption) ?_) | split | trivial | intro _ | dsimp only)

theorem State.seqGo_follows {z : State} {s : State} (e : Nat) (ecc : List (Nat × EccEvent)) (hs : z.Follows s) :
    z.Follows (State.seqGo s e ecc) := by
  unfold State.seqGo
  repeat' (first | with_reducible assumption | with_reducible apply seqDrain_follows | with_reducible apply Res.Follows.next | fail_if_no_progress with_reducible apply State.Follows.upd | split | trivial | intro _ | dsimp only)

theorem State.seqSubmit_follows {z : State} {s : State} (e : Nat) (p : List Nat → Bool) (host : Blob) (ecc : List (Nat × EccEvent)) (hs : z.Follows s) :
    z.Follows (State.seqSubmit s e p host ecc) := by
  unfold State.seqSubmit
  repeat' (first | with_reducible assumption | with_reducible refine State.Follows.ite (fun _ => ?_) (fun _ => ?_) | with_reducible apply State.setFlag_follows | with_reducible apply State.setSeqEas_follows | with_reducible apply State.enroll_follows | with_reducible apply State.sqFetch_follows | with_reducible apply State.sqAdvance_follows | with_reducible apply State.refuseEntry_follows | with_reducible apply State.seqGo_follows | with_reducible apply Res.Follows.next | fail_if_no_progress with_reducible apply State.Follows.upd | (with_reducible refine State.Follows.of_snd (by with_reducible assumption) ?_) | (with_reducible refine State.Follows.of_fst (by with_reducible assumption) ?_) | (with_reducible refine State.Follows.of_trd (by with_reducible assumption) ?_) | split | trivial | intro _ | dsimp only)

theorem execSeqOpen_follows {z : State} (easel : Fin 64) (host : Blob) {s : State} (hs : z.Follows s) :
    Res.Follows z (execSeqOpen easel host s) := by
  unfold execSeqOpen
  repeat' (first | with_reducible assumption | with_reducible apply State.seqSubmit_follows | with_reducible apply Res.Follows.next | fail_if_no_progress with_reducible apply State.Follows.upd | split | trivial | intro _ | dsimp only)

theorem execSeqClose_follows {z : State} (easel : Fin 64) (host : Blob) {s : State} (hs : z.Follows s) :
    Res.Follows z (execSeqClose easel host s) := by
  unfold execSeqClose
  repeat' (first | with_reducible assumption | with_reducible apply State.seqSubmit_follows | with_reducible apply Res.Follows.next | fail_if_no_progress with_reducible apply State.Follows.upd | split | trivial | intro _ | dsimp only)

theorem execStepBuild_follows {z : State} (easel : Fin 64) (host : Blob) {s : State} (hs : z.Follows s) :
    Res.Follows z (execStepBuild easel host s) := by
  unfold execStepBuild
  repeat' (first | with_reducible assumption | with_reducible apply State.seqSubmit_follows | with_reducible apply Res.Follows.next | fail_if_no_progress with_reducible apply State.Follows.upd | split | trivial | intro _ | dsimp only)

theorem State.resumeBuild_follows {z : State} {s : State} (e : Nat) (hs : z.Follows s) :
    z.Follows (State.resumeBuild s e) := by
  unfold State.resumeBuild
  repeat' (first | with_reducible assumption | with_reducible refine State.Follows.ite (fun _ => ?_) (fun _ => ?_) | with_reducible apply State.setBuildWaits_follows | with_reducible apply State.autoBuild_follows | with_reducible apply State.seqGo_follows | with_reducible apply Res.Follows.next | fail_if_no_progress with_reducible apply State.Follows.upd | split | trivial | intro _ | dsimp only)

theorem State.admitBuilds_follows {z : State} {s : State} (hs : z.Follows s) :
    z.Follows (State.admitBuilds s) := by
  unfold State.admitBuilds
  repeat' (first | with_reducible assumption | with_reducible refine State.Follows.ite (fun _ => ?_) (fun _ => ?_) | with_reducible apply forUpto_follows | with_reducible apply State.resumeBuild_follows | with_reducible apply Res.Follows.next | fail_if_no_progress with_reducible apply State.Follows.upd | split | trivial | intro _ | dsimp only)

theorem execBuildRetry_follows {z : State} (easel : Fin 64) {s : State} (hs : z.Follows s) :
    Res.Follows z (execBuildRetry easel s) := by
  unfold execBuildRetry
  repeat' (first | with_reducible assumption | with_reducible apply State.resumeBuild_follows | with_reducible apply Res.Follows.next | fail_if_no_progress with_reducible apply State.Follows.upd | split | trivial | intro _ | dsimp only)

theorem execSampleDraft_follows {z : State} (easel : Fin 64) (host : Blob) (ecc : List (Nat × EccEvent)) {s : State} (hs : z.Follows s) :
    Res.Follows z (execSampleDraft easel host ecc s) := by
  unfold execSampleDraft
  repeat' (first | with_reducible assumption | with_reducible apply State.seqSubmit_follows | with_reducible apply Res.Follows.next | fail_if_no_progress with_reducible apply State.Follows.upd | split | trivial | intro _ | dsimp only)

theorem execSampleFinal_follows {z : State} (easel : Fin 64) (host : Blob) (ecc : List (Nat × EccEvent)) {s : State} (hs : z.Follows s) :
    Res.Follows z (execSampleFinal easel host ecc s) := by
  unfold execSampleFinal
  repeat' (first | with_reducible assumption | with_reducible apply State.seqSubmit_follows | with_reducible apply Res.Follows.next | fail_if_no_progress with_reducible apply State.Follows.upd | split | trivial | intro _ | dsimp only)

theorem execDraftPut_follows {z : State} (easel : Fin 64) (host : Blob) {s : State} (hs : z.Follows s) :
    Res.Follows z (execDraftPut easel host s) := by
  unfold execDraftPut
  repeat' (first | with_reducible assumption | with_reducible apply State.seqSubmit_follows | with_reducible apply Res.Follows.next | fail_if_no_progress with_reducible apply State.Follows.upd | split | trivial | intro _ | dsimp only)

theorem execSeqSwapOut_follows {z : State} (easel : Fin 64) (host : Blob) {s : State} (hs : z.Follows s) :
    Res.Follows z (execSeqSwapOut easel host s) := by
  unfold execSeqSwapOut
  repeat' (first | with_reducible assumption | with_reducible apply State.seqSubmit_follows | with_reducible apply Res.Follows.next | fail_if_no_progress with_reducible apply State.Follows.upd | split | trivial | intro _ | dsimp only)

theorem execSeqSwapIn_follows {z : State} (easel : Fin 64) (host : Blob) {s : State} (hs : z.Follows s) :
    Res.Follows z (execSeqSwapIn easel host s) := by
  unfold execSeqSwapIn
  repeat' (first | with_reducible assumption | with_reducible apply State.seqSubmit_follows | with_reducible apply Res.Follows.next | fail_if_no_progress with_reducible apply State.Follows.upd | split | trivial | intro _ | dsimp only)

theorem State.swapCopyOut_follows {z : State} {s : State} (e : Nat) (i : Nat) (hs : z.Follows s) :
    z.Follows (State.swapCopyOut s e i) := by
  unfold State.swapCopyOut
  repeat' (first | with_reducible assumption | with_reducible apply forUpto_follows | with_reducible apply State.hostWrite_follows | with_reducible apply Res.Follows.next | fail_if_no_progress with_reducible apply State.Follows.upd | split | trivial | intro _ | dsimp only)

theorem State.swapCopyIn_follows {z : State} {s : State} (e : Nat) (i : Nat) (host : Blob) (hs : z.Follows s) :
    z.Follows (State.swapCopyIn s e i host) := by
  unfold State.swapCopyIn
  repeat' (first | with_reducible assumption | with_reducible apply forUpto_follows | with_reducible apply State.countUnits_follows | with_reducible apply State.seqStore_follows | with_reducible apply Res.Follows.next | fail_if_no_progress with_reducible apply State.Follows.upd | split | trivial | intro _ | dsimp only)

theorem State.swapRecord_follows {z : State} {s : State} (e : Nat) (i : Nat) (st : Nat) (hs : z.Follows s) :
    z.Follows (State.swapRecord s e i st) := by
  unfold State.swapRecord
  repeat' (first | with_reducible assumption | with_reducible refine State.Follows.ite (fun _ => ?_) (fun _ => ?_) | with_reducible apply State.setSeqEas_follows | with_reducible apply State.retire_follows | with_reducible apply State.seqPost_follows | with_reducible apply Res.Follows.next | fail_if_no_progress with_reducible apply State.Follows.upd | split | trivial | intro _ | dsimp only)

theorem execSwapCopyDone_follows {z : State} (easel : Fin 64) (index : Nat) (host : Blob) (fail : Bool) {s : State} (hs : z.Follows s) :
    Res.Follows z (execSwapCopyDone easel index host fail s) := by
  unfold execSwapCopyDone
  repeat' (first | with_reducible assumption | with_reducible refine Res.Follows.ite (fun _ => ?_) (fun _ => ?_) | with_reducible refine State.Follows.ite (fun _ => ?_) (fun _ => ?_) | with_reducible apply State.setSeqEas_follows | with_reducible apply State.updSeq_follows | with_reducible apply State.showFree_follows | with_reducible apply State.endSeq_follows | with_reducible apply State.swapStep_follows | with_reducible apply State.retryBuild_follows | with_reducible apply State.swapCopyOut_follows | with_reducible apply State.swapCopyIn_follows | with_reducible apply State.swapRecord_follows | with_reducible apply Res.Follows.next | fail_if_no_progress with_reducible apply State.Follows.upd | split | trivial | intro _ | dsimp only)

theorem varnishSeg_follows {z : State} (e : Nat) (g : SeqSeg) {a : Nat × Nat × State} (ha : z.Follows a.2.2) :
    z.Follows (varnishSeg e g a).2.2 := by
  unfold varnishSeg
  repeat' (first | with_reducible assumption | with_reducible refine State.Follows.ite_trd (fun _ => ?_) (fun _ => ?_) | with_reducible refine State.Follows.ite (fun _ => ?_) (fun _ => ?_) | with_reducible apply State.incWrap_follows | with_reducible apply State.inc64_follows | with_reducible apply State.setSeqEntry_follows | with_reducible apply State.updSeq_follows | with_reducible apply State.trimList_follows | with_reducible apply State.outPut_follows | with_reducible apply State.endSeq_follows | with_reducible apply Res.Follows.next | fail_if_no_progress with_reducible apply State.Follows.upd | split | trivial | intro _ | dsimp only)

theorem State.closeStep_follows {z : State} {s : State} (e : Nat) (tokens : Nat) (ended : Nat) (hs : z.Follows s) :
    z.Follows (State.closeStep s e tokens ended) := by
  unfold State.closeStep
  repeat' (first | with_reducible assumption | with_reducible refine State.Follows.ite (fun _ => ?_) (fun _ => ?_) | with_reducible apply State.setFld_follows | with_reducible apply State.setSeqEas_follows | with_reducible apply State.stepBoundary_follows | with_reducible apply State.retire_follows | with_reducible apply State.seqPost_follows | with_reducible apply State.autoBuild_follows | with_reducible apply State.seqGo_follows | with_reducible apply Res.Follows.next | fail_if_no_progress with_reducible apply State.Follows.upd | split | trivial | intro _ | dsimp only)

theorem execVarnish_follows {z : State} (easel : Fin 64) {s : State} (hs : z.Follows s) :
    Res.Follows z (execVarnish easel s) := by
  unfold execVarnish
  repeat' (first | with_reducible assumption | with_reducible refine Res.Follows.ite (fun _ => ?_) (fun _ => ?_) | with_reducible refine State.Follows.ite (fun _ => ?_) (fun _ => ?_) | with_reducible apply State.sampled_follows | with_reducible apply varnishSeg_follows | with_reducible apply State.closeStep_follows | with_reducible apply Res.Follows.next | fail_if_no_progress with_reducible apply State.Follows.upd | with_reducible apply foldl_follows | with_reducible apply foldl_fst_follows | with_reducible apply foldl_snd_follows | with_reducible apply foldl_trd_follows | (with_reducible refine State.Follows.of_snd (by with_reducible assumption) ?_) | (with_reducible refine State.Follows.of_fst (by with_reducible assumption) ?_) | (with_reducible refine State.Follows.of_trd (by with_reducible assumption) ?_) | split | trivial | intro _ | dsimp only)

theorem execSeqLose_follows {z : State} (req : Requester) (easel : Fin 64) (all : Bool) (index : Fin 8192) (key : BitVec 8) {s : State} (hs : z.Follows s) :
    Res.Follows z (execSeqLose req easel all index key s) := by
  unfold execSeqLose
  repeat' (first | with_reducible assumption | with_reducible refine Res.Follows.ite (fun _ => ?_) (fun _ => ?_) | with_reducible refine State.Follows.ite (fun _ => ?_) (fun _ => ?_) | with_reducible apply forEach_follows | with_reducible apply State.access_follows | with_reducible apply State.loseSeq_follows | with_reducible apply Res.Follows.next | fail_if_no_progress with_reducible apply State.Follows.upd | split | trivial | intro _ | dsimp only)

theorem State.loseStack_follows {z : State} {s : State} (stack : Nat) (hs : z.Follows s) :
    z.Follows (State.loseStack s stack) := by
  unfold State.loseStack
  repeat' (first | with_reducible assumption | with_reducible refine State.Follows.ite (fun _ => ?_) (fun _ => ?_) | with_reducible apply forEach_follows | with_reducible apply State.loseSeq_follows | with_reducible apply Res.Follows.next | fail_if_no_progress with_reducible apply State.Follows.upd | split | trivial | intro _ | dsimp only)

theorem State.showWords_follows {z : State} {s : State} (u : Nat) (f : Nat → Fld) (n : Nat) (bs : List Nat) (hs : z.Follows s) :
    z.Follows (State.showWords s u f n bs) := by
  unfold State.showWords
  repeat' (first | with_reducible assumption | with_reducible apply forUpto_follows | with_reducible apply State.setFld_follows | with_reducible apply Res.Follows.next | fail_if_no_progress with_reducible apply State.Follows.upd | split | trivial | intro _ | dsimp only)

theorem execSeqPeek_follows {z : State} (req : Requester) (index : Fin 8192) (underpaint : Bool) {s : State} (hs : z.Follows s) :
    Res.Follows z (execSeqPeek req index underpaint s) := by
  unfold execSeqPeek
  repeat' (first | with_reducible assumption | with_reducible refine Res.Follows.ite (fun _ => ?_) (fun _ => ?_) | with_reducible refine State.Follows.ite (fun _ => ?_) (fun _ => ?_) | with_reducible apply State.access_follows | with_reducible apply State.showWords_follows | with_reducible apply Res.Follows.next | fail_if_no_progress with_reducible apply State.Follows.upd | split | trivial | intro _ | dsimp only)

theorem execSeqDbgRead_follows {z : State} (req : Requester) (easel : Fin 64) (underpaint : Bool) (ecc : Option EccEvent) {s : State} (hs : z.Follows s) :
    Res.Follows z (execSeqDbgRead req easel underpaint ecc s) := by
  unfold execSeqDbgRead
  repeat' (first | with_reducible assumption | with_reducible refine Res.Follows.ite (fun _ => ?_) (fun _ => ?_) | with_reducible refine State.Follows.ite (fun _ => ?_) (fun _ => ?_) | with_reducible apply State.setFld_follows | with_reducible apply State.setFlag_follows | with_reducible apply State.access_follows | with_reducible apply State.bondLoad_follows | with_reducible apply State.showWords_follows | with_reducible apply Res.Follows.next | fail_if_no_progress with_reducible apply State.Follows.upd | split | trivial | intro _ | dsimp only)

theorem execOutputRingHeadWrite_follows {z : State} (req : Requester) (ring : Fin 64) (head : BitVec 16) {s : State} (hs : z.Follows s) :
    Res.Follows z (execOutputRingHeadWrite req ring head s) := by
  unfold execOutputRingHeadWrite
  repeat' (first | with_reducible assumption | with_reducible refine Res.Follows.ite (fun _ => ?_) (fun _ => ?_) | with_reducible refine State.Follows.ite (fun _ => ?_) (fun _ => ?_) | with_reducible apply State.setFld_follows | with_reducible apply State.access_follows | with_reducible apply State.flushOut_follows | with_reducible apply State.retryBuild_follows | with_reducible apply Res.Follows.next | fail_if_no_progress with_reducible apply State.Follows.upd | split | trivial | intro _ | dsimp only)

theorem State.seqReset_follows {z : State} {s : State} (e : Nat) (hs : z.Follows s) :
    z.Follows (State.seqReset s e) := by
  unfold State.seqReset
  repeat' (first | with_reducible assumption | with_reducible apply State.setSeqEas_follows | with_reducible apply State.showSeqCounts_follows | with_reducible apply Res.Follows.next | fail_if_no_progress with_reducible apply State.Follows.upd | split | trivial | intro _ | dsimp only)

end Sys2Proof.Machine
end

