-- ==== Sys2Proof/Laws/EmbFollows.lean ====
section
/-! SUPPORT. Laws/EmbFollows.lean: every operation of Machine/Emb.lean follows: what it does to the queue, the outputs, the draw counter and the invariant (Safety.lean). -/
set_option linter.unusedVariables false
set_option linter.unreachableTactic false
set_option linter.unusedTactic false
namespace Sys2Proof.Machine

open Sys2Proof

theorem State.embEnable_follows {z : State} {s : State} (e : Nat) (hs : z.Follows s) :
    z.Follows (State.embEnable s e) := by
  unfold State.embEnable
  repeat' (first | with_reducible assumption | with_reducible refine State.Follows.ite (fun _ => ?_) (fun _ => ?_) | with_reducible apply State.setFlag_follows | with_reducible apply Res.Follows.next | fail_if_no_progress with_reducible apply State.Follows.upd | split | trivial | intro _ | dsimp only)

theorem execEmbEnable_follows {z : State} (req : Requester) {s : State} (hs : z.Follows s) :
    Res.Follows z (execEmbEnable req s) := by
  unfold execEmbEnable
  repeat' (first | with_reducible assumption | with_reducible refine Res.Follows.ite (fun _ => ?_) (fun _ => ?_) | with_reducible refine State.Follows.ite (fun _ => ?_) (fun _ => ?_) | with_reducible apply State.access_follows | with_reducible apply State.embEnable_follows | with_reducible apply Res.Follows.next | fail_if_no_progress with_reducible apply State.Follows.upd | split | trivial | intro _ | dsimp only)

theorem State.setReqsEmb_follows {z : State} {s : State} (l : List EmbReq) (hs : z.Follows s) :
    z.Follows (State.setReqsEmb s l) := by
  unfold State.setReqsEmb
  repeat' (first | with_reducible assumption | with_reducible apply Res.Follows.next | fail_if_no_progress with_reducible apply State.Follows.upd | split | trivial | intro _ | dsimp only)

theorem State.updReq_follows {z : State} {s : State} (id : Nat) (f : EmbReq → EmbReq) (hs : z.Follows s) :
    z.Follows (State.updReq s id f) := by
  unfold State.updReq
  repeat' (first | with_reducible assumption | with_reducible refine State.Follows.ite (fun _ => ?_) (fun _ => ?_) | with_reducible apply State.setReqsEmb_follows | with_reducible apply Res.Follows.next | fail_if_no_progress with_reducible apply State.Follows.upd | split | trivial | intro _ | dsimp only)

theorem State.showEmb_follows {z : State} {s : State} (p : Nat) (e : Nat) (hs : z.Follows s) :
    z.Follows (State.showEmb s p e) := by
  unfold State.showEmb
  repeat' (first | with_reducible assumption | with_reducible apply State.setFld_follows | with_reducible apply Res.Follows.next | fail_if_no_progress with_reducible apply State.Follows.upd | split | trivial | intro _ | dsimp only)

theorem State.embTake_follows {z : State} {s : State} (p : Nat) (e : Nat) (hs : z.Follows s) :
    z.Follows (State.embTake s p e) := by
  unfold State.embTake
  repeat' (first | with_reducible assumption | with_reducible refine State.Follows.ite (fun _ => ?_) (fun _ => ?_) | with_reducible apply State.sendTake_follows | with_reducible apply Res.Follows.next | fail_if_no_progress with_reducible apply State.Follows.upd | split | trivial | intro _ | dsimp only)

theorem execEmbGather_follows {z : State} (easel : Fin 64) (host : Blob) {s : State} (hs : z.Follows s) :
    Res.Follows z (execEmbGather easel host s) := by
  unfold execEmbGather
  repeat' (first | with_reducible assumption | with_reducible refine Res.Follows.ite (fun _ => ?_) (fun _ => ?_) | with_reducible refine State.Follows.ite (fun _ => ?_) (fun _ => ?_) | with_reducible apply State.setFlag_follows | with_reducible apply State.enroll_follows | with_reducible apply State.sqFetch_follows | with_reducible apply State.sqAdvance_follows | with_reducible apply State.refuseEntry_follows | with_reducible apply State.setReqsEmb_follows | with_reducible apply State.embTake_follows | with_reducible apply Res.Follows.next | fail_if_no_progress with_reducible apply State.Follows.upd | (with_reducible refine State.Follows.of_snd (by with_reducible assumption) ?_) | (with_reducible refine State.Follows.of_fst (by with_reducible assumption) ?_) | (with_reducible refine State.Follows.of_trd (by with_reducible assumption) ?_) | split | trivial | intro _ | dsimp only)

theorem State.setRow_follows {z : State} {s : State} (id : Nat) (i : Nat) (w : EmbRow) (hs : z.Follows s) :
    z.Follows (State.setRow s id i w) := by
  unfold State.setRow
  repeat' (first | with_reducible assumption | with_reducible apply State.updReq_follows | with_reducible apply Res.Follows.next | fail_if_no_progress with_reducible apply State.Follows.upd | split | trivial | intro _ | dsimp only)

theorem State.missRow_follows {z : State} {s : State} (r : EmbReq) (i : Nat) (st : Nat) (hs : z.Follows s) :
    z.Follows (State.missRow s r i st) := by
  unfold State.missRow
  repeat' (first | with_reducible assumption | with_reducible refine State.Follows.ite (fun _ => ?_) (fun _ => ?_) | with_reducible apply State.incSat_follows | with_reducible apply State.setRow_follows | with_reducible apply Res.Follows.next | fail_if_no_progress with_reducible apply State.Follows.upd | split | trivial | intro _ | dsimp only)

theorem State.askRow_follows {z : State} {s : State} (r : EmbReq) (i : Nat) (hs : z.Follows s) :
    z.Follows (State.askRow s r i) := by
  unfold State.askRow
  repeat' (first | with_reducible assumption | with_reducible refine State.Follows.ite (fun _ => ?_) (fun _ => ?_) | with_reducible apply forEach_follows | with_reducible apply State.yzIssue_follows | with_reducible apply State.yzDead_follows | with_reducible apply State.setRow_follows | with_reducible apply State.missRow_follows | with_reducible apply Res.Follows.next | fail_if_no_progress with_reducible apply State.Follows.upd | split | trivial | intro _ | dsimp only)

theorem State.writeBag_follows {z : State} {s : State} (r : EmbReq) (b : Nat) (hs : z.Follows s) :
    z.Follows (State.writeBag s r b) := by
  unfold State.writeBag
  repeat' (first | with_reducible assumption | with_reducible refine State.Follows.ite (fun _ => ?_) (fun _ => ?_) | with_reducible apply State.spWrite_follows | with_reducible apply State.updReq_follows | with_reducible apply Res.Follows.next | fail_if_no_progress with_reducible apply State.Follows.upd | split | trivial | intro _ | dsimp only)

theorem State.setParked_follows {z : State} {s : State} (r : EmbReq) (b : Bool) (hs : z.Follows s) :
    z.Follows (State.setParked s r b) := by
  unfold State.setParked
  repeat' (first | with_reducible assumption | with_reducible refine State.Follows.ite (fun _ => ?_) (fun _ => ?_) | with_reducible apply State.setFld_follows | with_reducible apply State.incSat_follows | with_reducible apply State.updReq_follows | with_reducible apply State.showEmb_follows | with_reducible apply Res.Follows.next | fail_if_no_progress with_reducible apply State.Follows.upd | split | trivial | intro _ | dsimp only)

theorem State.embProgress_follows {z : State} {s : State} (id : Nat) (hs : z.Follows s) :
    z.Follows (State.embProgress s id) := by
  unfold State.embProgress
  repeat' (first | with_reducible assumption | with_reducible refine State.Follows.ite (fun _ => ?_) (fun _ => ?_) | with_reducible apply forUpto_follows | with_reducible apply State.writeBag_follows | with_reducible apply State.setParked_follows | with_reducible apply Res.Follows.next | fail_if_no_progress with_reducible apply State.Follows.upd | split | trivial | intro _ | dsimp only)

theorem execEmbLaunch_follows {z : State} (engine : Fin 3) (easel : Fin 64) {s : State} (hs : z.Follows s) :
    Res.Follows z (execEmbLaunch engine easel s) := by
  unfold execEmbLaunch
  repeat' (first | with_reducible assumption | with_reducible refine Res.Follows.ite (fun _ => ?_) (fun _ => ?_) | with_reducible refine State.Follows.ite (fun _ => ?_) (fun _ => ?_) | with_reducible apply forEach_follows | with_reducible apply State.postRecord_follows | with_reducible apply State.retire_follows | with_reducible apply State.useTake_follows | with_reducible apply State.yzFlush_follows | with_reducible apply State.setReqsEmb_follows | with_reducible apply State.updReq_follows | with_reducible apply State.showEmb_follows | with_reducible apply State.embTake_follows | with_reducible apply State.askRow_follows | with_reducible apply State.embProgress_follows | with_reducible apply Res.Follows.next | fail_if_no_progress with_reducible apply State.Follows.upd | split | trivial | intro _ | dsimp only)

theorem State.localRow_follows {z : State} {s : State} (r : EmbReq) (i : Nat) (ecc : Option EccEvent) (hs : z.Follows s) :
    z.Follows (State.localRow s r i ecc) := by
  unfold State.localRow
  repeat' (first | with_reducible assumption | with_reducible refine State.Follows.ite (fun _ => ?_) (fun _ => ?_) | with_reducible apply State.incWrap_follows | with_reducible apply State.refuseShare_follows | with_reducible apply State.spRead_follows | with_reducible apply State.setRow_follows | with_reducible apply State.missRow_follows | with_reducible apply Res.Follows.next | fail_if_no_progress with_reducible apply State.Follows.upd | split | trivial | intro _ | dsimp only)

theorem execEmbRowArrival_follows {z : State} (id : Nat) (row : Nat) (ecc : Option EccEvent) {s : State} (hs : z.Follows s) :
    Res.Follows z (execEmbRowArrival id row ecc s) := by
  unfold execEmbRowArrival
  repeat' (first | with_reducible assumption | with_reducible refine Res.Follows.ite (fun _ => ?_) (fun _ => ?_) | with_reducible refine State.Follows.ite (fun _ => ?_) (fun _ => ?_) | with_reducible apply State.embProgress_follows | with_reducible apply State.localRow_follows | with_reducible apply Res.Follows.next | fail_if_no_progress with_reducible apply State.Follows.upd | split | trivial | intro _ | dsimp only)

theorem State.embOpDone_follows {z : State} {s : State} (o : YzOp) (id : Nat) (row : Nat) (st : Nat) (bs : List Nat) (hs : z.Follows s) :
    z.Follows (State.embOpDone s o id row st bs) := by
  unfold State.embOpDone
  repeat' (first | with_reducible assumption | with_reducible refine State.Follows.ite (fun _ => ?_) (fun _ => ?_) | with_reducible apply State.incSat_follows | with_reducible apply State.incWrap_follows | with_reducible apply State.dropOp_follows | with_reducible apply State.setRow_follows | with_reducible apply State.missRow_follows | with_reducible apply State.embProgress_follows | with_reducible apply Res.Follows.next | fail_if_no_progress with_reducible apply State.Follows.upd | split | trivial | intro _ | dsimp only)

theorem execEmbDeadline_follows {z : State} (id : Nat) {s : State} (hs : z.Follows s) :
    Res.Follows z (execEmbDeadline id s) := by
  unfold execEmbDeadline
  repeat' (first | with_reducible assumption | with_reducible refine Res.Follows.ite (fun _ => ?_) (fun _ => ?_) | with_reducible refine State.Follows.ite (fun _ => ?_) (fun _ => ?_) | with_reducible apply forEach_follows | with_reducible apply State.updReq_follows | with_reducible apply State.missRow_follows | with_reducible apply State.embProgress_follows | with_reducible apply Res.Follows.next | fail_if_no_progress with_reducible apply State.Follows.upd | split | trivial | intro _ | dsimp only)

theorem State.embDrop_follows {z : State} {s : State} (r : EmbReq) (hs : z.Follows s) :
    z.Follows (State.embDrop s r) := by
  unfold State.embDrop
  repeat' (first | with_reducible assumption | with_reducible apply State.setReqsEmb_follows | with_reducible apply State.showEmb_follows | with_reducible apply State.setParked_follows | with_reducible apply Res.Follows.next | fail_if_no_progress with_reducible apply State.Follows.upd | split | trivial | intro _ | dsimp only)

theorem execEmbComplete_follows {z : State} (id : Nat) (cycles : Nat) {s : State} (hs : z.Follows s) :
    Res.Follows z (execEmbComplete id cycles s) := by
  unfold execEmbComplete
  repeat' (first | with_reducible assumption | with_reducible refine Res.Follows.ite (fun _ => ?_) (fun _ => ?_) | with_reducible refine State.Follows.ite (fun _ => ?_) (fun _ => ?_) | with_reducible apply State.postRecord_follows | with_reducible apply State.retire_follows | with_reducible apply State.sendSignal_follows | with_reducible apply State.embDrop_follows | with_reducible apply Res.Follows.next | fail_if_no_progress with_reducible apply State.Follows.upd | split | trivial | intro _ | dsimp only)

theorem State.embPanelReset_follows {z : State} {s : State} (p : Nat) (hs : z.Follows s) :
    z.Follows (State.embPanelReset s p) := by
  unfold State.embPanelReset
  repeat' (first | with_reducible assumption | with_reducible apply forEach_follows | with_reducible apply State.postRecord_follows | with_reducible apply State.retire_follows | with_reducible apply State.dropTakes_follows | with_reducible apply State.embDrop_follows | with_reducible apply Res.Follows.next | fail_if_no_progress with_reducible apply State.Follows.upd | split | trivial | intro _ | dsimp only)

theorem State.embEaselReset_follows {z : State} {s : State} (e : Nat) (hs : z.Follows s) :
    z.Follows (State.embEaselReset s e) := by
  unfold State.embEaselReset
  repeat' (first | with_reducible assumption | with_reducible apply forEach_follows | with_reducible apply State.dropTakes_follows | with_reducible apply State.embDrop_follows | with_reducible apply Res.Follows.next | fail_if_no_progress with_reducible apply State.Follows.upd | split | trivial | intro _ | dsimp only)

end Sys2Proof.Machine
end

