-- ==== Sys2Proof/Laws/YarozFollows.lean ====
section
/-! SUPPORT. Laws/YarozFollows.lean: every operation of Machine/Yaroz.lean follows: what it does to the queue, the outputs, the draw counter and the invariant (Safety.lean). -/
set_option linter.unusedVariables false
set_option linter.unreachableTactic false
set_option linter.unusedTactic false
namespace Sys2Proof.Machine

open Sys2Proof

theorem State.yzControl_follows {z : State} {s : State} (slot : Nat) (rank : Nat) (type : Nat) (credit : Nat) (hs : z.Follows s) :
    z.Follows (State.yzControl s slot rank type credit) := by
  unfold State.yzControl
  repeat' (first | with_reducible assumption | with_reducible apply State.yzEmit_follows | with_reducible apply Res.Follows.next | fail_if_no_progress with_reducible apply State.Follows.upd | split | trivial | intro _ | dsimp only)

theorem State.yzGrant_follows {z : State} {s : State} (slot : Nat) (rank : Nat) (hs : z.Follows s) :
    z.Follows (State.yzGrant s slot rank) := by
  unfold State.yzGrant
  repeat' (first | with_reducible assumption | with_reducible refine State.Follows.ite (fun _ => ?_) (fun _ => ?_) | with_reducible apply State.setConn_follows | with_reducible apply State.yzControl_follows | with_reducible apply Res.Follows.next | fail_if_no_progress with_reducible apply State.Follows.upd | split | trivial | intro _ | dsimp only)

theorem State.yzAcked_follows {z : State} {s : State} (slot : Nat) (rank : Nat) (ack : Nat) (hs : z.Follows s) :
    z.Follows (State.yzAcked s slot rank ack) := by
  unfold State.yzAcked
  repeat' (first | with_reducible assumption | with_reducible refine State.Follows.ite (fun _ => ?_) (fun _ => ?_) | with_reducible apply State.setConn_follows | with_reducible apply State.yzKick_follows | with_reducible apply State.yzKickAll_follows | with_reducible apply Res.Follows.next | fail_if_no_progress with_reducible apply State.Follows.upd | with_reducible apply foldl_follows | with_reducible apply foldl_fst_follows | with_reducible apply foldl_snd_follows | with_reducible apply foldl_trd_follows | split | trivial | intro _ | dsimp only)

theorem State.dropIcrc_follows {z : State} {s : State} (path : Nat) (injected : Bool) (hs : z.Follows s) :
    z.Follows (State.dropIcrc s path injected) := by
  unfold State.dropIcrc
  repeat' (first | with_reducible assumption | with_reducible apply State.incSat_follows | with_reducible apply State.detect_follows | with_reducible apply Res.Follows.next | fail_if_no_progress with_reducible apply State.Follows.upd | split | trivial | intro _ | dsimp only)

theorem State.dropSpoof_follows {z : State} {s : State} (path : Nat) (slot : Nat) (rank : Nat) (injected : Bool) (hs : z.Follows s) :
    z.Follows (State.dropSpoof s path slot rank injected) := by
  unfold State.dropSpoof
  repeat' (first | with_reducible assumption | with_reducible apply State.incSat_follows | with_reducible apply State.detect_follows | with_reducible apply Res.Follows.next | fail_if_no_progress with_reducible apply State.Follows.upd | split | trivial | intro _ | dsimp only)

theorem State.sendLack_follows {z : State} {s : State} (path : Nat) (hs : z.Follows s) :
    z.Follows (State.sendLack s path) := by
  unfold State.sendLack
  repeat' (first | with_reducible assumption | with_reducible apply State.emit_follows | with_reducible apply State.countUnits_follows | with_reducible apply Res.Follows.next | fail_if_no_progress with_reducible apply State.Follows.upd | split | trivial | intro _ | dsimp only)

theorem State.noteLink_follows {z : State} {s : State} (path : Nat) (p : YzPkt) (hs : z.Follows s) :
    z.Follows (State.noteLink s path p) := by
  unfold State.noteLink
  repeat' (first | with_reducible assumption | with_reducible refine State.Follows.ite (fun _ => ?_) (fun _ => ?_) | with_reducible apply Res.Follows.next | fail_if_no_progress with_reducible apply State.Follows.upd | split | trivial | intro _ | dsimp only)

theorem State.yzAccept_follows {z : State} {s0 : State} (path : Nat) (f : YzFrame) (hs0 : z.Follows s0) :
    z.Follows (State.yzAccept s0 path f).2 := by
  unfold State.yzAccept
  repeat' (first | with_reducible assumption | with_reducible refine State.Follows.ite_snd (fun _ => ?_) (fun _ => ?_) | with_reducible refine State.Follows.ite (fun _ => ?_) (fun _ => ?_) | with_reducible apply State.incSat_follows | with_reducible apply State.countUnits_follows | with_reducible apply State.detect_follows | with_reducible apply State.inject_follows | with_reducible apply State.dropIcrc_follows | with_reducible apply State.dropSpoof_follows | with_reducible apply State.sendLack_follows | with_reducible apply State.noteLink_follows | with_reducible apply Res.Follows.next | fail_if_no_progress with_reducible apply State.Follows.upd | (with_reducible refine State.Follows.of_snd (by with_reducible assumption) ?_) | (with_reducible refine State.Follows.of_fst (by with_reducible assumption) ?_) | (with_reducible refine State.Follows.of_trd (by with_reducible assumption) ?_) | split | trivial | intro _ | dsimp only)

theorem State.yzAnswer_follows {z : State} {s : State} (slot : Nat) (rank : Nat) (r : YzRec) (status : Nat) (flags : Nat) (info : Nat) (data : List Nat) (hs : z.Follows s) :
    z.Follows (State.yzAnswer s slot rank r status flags info data) := by
  unfold State.yzAnswer
  repeat' (first | with_reducible assumption | with_reducible apply State.yzQueue_follows | with_reducible apply Res.Follows.next | fail_if_no_progress with_reducible apply State.Follows.upd | split | trivial | intro _ | dsimp only)

theorem State.takeReq_follows {z : State} {s : State} (slot : Nat) (rank : Nat) (p : YzPkt) (hs : z.Follows s) :
    z.Follows (State.takeReq s slot rank p) := by
  unfold State.takeReq
  repeat' (first | with_reducible assumption | with_reducible refine State.Follows.ite (fun _ => ?_) (fun _ => ?_) | with_reducible apply forEach_follows | with_reducible apply State.incSat_follows | with_reducible apply State.yzAnswer_follows | with_reducible apply Res.Follows.next | fail_if_no_progress with_reducible apply State.Follows.upd | split | trivial | intro _ | dsimp only)

theorem State.ownerDone_follows {z : State} {s : State} (o : YzOp) (st : Nat) (bs : List Nat) (hs : z.Follows s) :
    z.Follows (State.ownerDone s o st bs) := by
  unfold State.ownerDone
  repeat' (first | with_reducible assumption | with_reducible apply State.chanOpDone_follows | with_reducible apply State.embOpDone_follows | with_reducible apply Res.Follows.next | fail_if_no_progress with_reducible apply State.Follows.upd | split | trivial | intro _ | dsimp only)

theorem State.opDead_follows {z : State} {s : State} (o : YzOp) (injected : Bool) (hs : z.Follows s) :
    z.Follows (State.opDead s o injected) := by
  unfold State.opDead
  repeat' (first | with_reducible assumption | with_reducible apply State.yzDead_follows | with_reducible apply State.ownerDone_follows | with_reducible apply Res.Follows.next | fail_if_no_progress with_reducible apply State.Follows.upd | split | trivial | intro _ | dsimp only)

theorem State.holdOp_follows {z : State} {s : State} (tag : Nat) (h : YzHold) (hs : z.Follows s) :
    z.Follows (State.holdOp s tag h) := by
  unfold State.holdOp
  repeat' (first | with_reducible assumption | with_reducible refine State.Follows.ite (fun _ => ?_) (fun _ => ?_) | with_reducible apply Res.Follows.next | fail_if_no_progress with_reducible apply State.Follows.upd | split | trivial | intro _ | dsimp only)

theorem State.reissue_follows {z : State} {s : State} (o : YzOp) (hs : z.Follows s) :
    z.Follows (State.reissue s o) := by
  unfold State.reissue
  repeat' (first | with_reducible assumption | with_reducible refine State.Follows.ite (fun _ => ?_) (fun _ => ?_) | with_reducible apply State.yzFlush_follows | with_reducible apply State.yzServe_follows | with_reducible apply State.ownerDone_follows | with_reducible apply State.opDead_follows | with_reducible apply Res.Follows.next | fail_if_no_progress with_reducible apply State.Follows.upd | split | trivial | intro _ | dsimp only)

theorem State.reissueHeld_follows {z : State} {s : State} (hs : z.Follows s) :
    z.Follows (State.reissueHeld s) := by
  unfold State.reissueHeld
  repeat' (first | with_reducible assumption | with_reducible apply forEach_follows | with_reducible apply State.reissue_follows | with_reducible apply Res.Follows.next | fail_if_no_progress with_reducible apply State.Follows.upd | split | trivial | intro _ | dsimp only)

theorem State.yzHeld_follows {z : State} {s : State} (o : YzOp) (r : YzRec) (hs : z.Follows s) :
    z.Follows (State.yzHeld s o r) := by
  unfold State.yzHeld
  repeat' (first | with_reducible assumption | with_reducible refine State.Follows.ite (fun _ => ?_) (fun _ => ?_) | with_reducible apply State.incSat_follows | with_reducible apply State.holdOp_follows | with_reducible apply State.reissue_follows | with_reducible apply Res.Follows.next | fail_if_no_progress with_reducible apply State.Follows.upd | split | trivial | intro _ | dsimp only)

theorem State.takeResp_follows {z : State} {s : State} (slot : Nat) (rank : Nat) (r : YzRec) (hs : z.Follows s) :
    z.Follows (State.takeResp s slot rank r) := by
  unfold State.takeResp
  repeat' (first | with_reducible assumption | with_reducible refine State.Follows.ite (fun _ => ?_) (fun _ => ?_) | with_reducible apply State.inject_follows | with_reducible apply State.ownerDone_follows | with_reducible apply State.opDead_follows | with_reducible apply State.yzHeld_follows | with_reducible apply Res.Follows.next | fail_if_no_progress with_reducible apply State.Follows.upd | (with_reducible refine State.Follows.of_snd (by with_reducible assumption) ?_) | (with_reducible refine State.Follows.of_fst (by with_reducible assumption) ?_) | (with_reducible refine State.Follows.of_trd (by with_reducible assumption) ?_) | split | trivial | intro _ | dsimp only)

theorem State.takePkt_follows {z : State} {s : State} (slot : Nat) (rank : Nat) (p : YzPkt) (hs : z.Follows s) :
    z.Follows (State.takePkt s slot rank p) := by
  unfold State.takePkt
  repeat' (first | with_reducible assumption | with_reducible refine State.Follows.ite (fun _ => ?_) (fun _ => ?_) | with_reducible apply forEach_follows | with_reducible apply State.setConn_follows | with_reducible apply State.takeReq_follows | with_reducible apply State.takeResp_follows | with_reducible apply Res.Follows.next | fail_if_no_progress with_reducible apply State.Follows.upd | split | trivial | intro _ | dsimp only)

theorem State.takeAhead_follows {z : State} {s : State} (slot : Nat) (rank : Nat) (x1 : Nat) (hs : z.Follows s) :
    z.Follows (State.takeAhead s slot rank x1) := by
  induction x1 generalizing s with
  | zero => unfold State.takeAhead; repeat' (first | with_reducible assumption | with_reducible apply State.setConn_follows | with_reducible apply State.takePkt_follows | with_reducible apply ih | with_reducible apply Res.Follows.next | fail_if_no_progress with_reducible apply State.Follows.upd | (with_reducible refine State.Follows.of_snd (by with_reducible assumption) ?_) | (with_reducible refine State.Follows.of_fst (by with_reducible assumption) ?_) | (with_reducible refine State.Follows.of_trd (by with_reducible assumption) ?_) | split | trivial | intro _ | dsimp only)
  | succ n ih => unfold State.takeAhead; repeat' (first | with_reducible assumption | with_reducible apply State.setConn_follows | with_reducible apply State.takePkt_follows | with_reducible apply ih | with_reducible apply Res.Follows.next | fail_if_no_progress with_reducible apply State.Follows.upd | (with_reducible refine State.Follows.of_snd (by with_reducible assumption) ?_) | (with_reducible refine State.Follows.of_fst (by with_reducible assumption) ?_) | (with_reducible refine State.Follows.of_trd (by with_reducible assumption) ?_) | split | trivial | intro _ | dsimp only)

theorem State.yzNumbered_follows {z : State} {s : State} (slot : Nat) (rank : Nat) (p : YzPkt) (hs : z.Follows s) :
    z.Follows (State.yzNumbered s slot rank p) := by
  unfold State.yzNumbered
  repeat' (first | with_reducible assumption | with_reducible refine State.Follows.ite (fun _ => ?_) (fun _ => ?_) | with_reducible apply State.setConn_follows | with_reducible apply State.yzControl_follows | with_reducible apply State.yzGrant_follows | with_reducible apply State.takePkt_follows | with_reducible apply State.takeAhead_follows | with_reducible apply Res.Follows.next | fail_if_no_progress with_reducible apply State.Follows.upd | split | trivial | intro _ | dsimp only)

theorem State.yzInbound_follows {z : State} {s : State} (path : Nat) (type : Nat) (f : YzFrame) (act : Nat → State → State) (actF : ∀ a0 a1, z.Follows a1 → z.Follows (act a0 a1)) (hs : z.Follows s) :
    z.Follows (State.yzInbound s path type f act) := by
  unfold State.yzInbound
  repeat' (first | with_reducible assumption | with_reducible refine State.Follows.ite (fun _ => ?_) (fun _ => ?_) | with_reducible apply State.setConn_follows | with_reducible apply State.yzKick_follows | with_reducible apply State.yzAcked_follows | with_reducible apply State.yzAccept_follows | with_reducible apply actF | with_reducible apply Res.Follows.next | fail_if_no_progress with_reducible apply State.Follows.upd | (with_reducible refine State.Follows.of_snd (by with_reducible assumption) ?_) | (with_reducible refine State.Follows.of_fst (by with_reducible assumption) ?_) | (with_reducible refine State.Follows.of_trd (by with_reducible assumption) ?_) | split | trivial | intro _ | dsimp only)

theorem execYarozReq_follows {z : State} (path : Fin 24) (frame : YzFrame) {s : State} (hs : z.Follows s) :
    Res.Follows z (execYarozReq path frame s) := by
  unfold execYarozReq
  repeat' (first | with_reducible assumption | with_reducible apply State.yzNumbered_follows | with_reducible apply State.yzInbound_follows | with_reducible apply Res.Follows.next | fail_if_no_progress with_reducible apply State.Follows.upd | split | trivial | intro _ | dsimp only)

theorem execYarozResp_follows {z : State} (path : Fin 24) (frame : YzFrame) {s : State} (hs : z.Follows s) :
    Res.Follows z (execYarozResp path frame s) := by
  unfold execYarozResp
  repeat' (first | with_reducible assumption | with_reducible apply State.yzNumbered_follows | with_reducible apply State.yzInbound_follows | with_reducible apply Res.Follows.next | fail_if_no_progress with_reducible apply State.Follows.upd | split | trivial | intro _ | dsimp only)

theorem execYarozAck_follows {z : State} (path : Fin 24) (frame : YzFrame) {s : State} (hs : z.Follows s) :
    Res.Follows z (execYarozAck path frame s) := by
  unfold execYarozAck
  repeat' (first | with_reducible assumption | with_reducible apply State.yzInbound_follows | with_reducible apply Res.Follows.next | fail_if_no_progress with_reducible apply State.Follows.upd | split | trivial | intro _ | dsimp only)

theorem execYarozNak_follows {z : State} (path : Fin 24) (frame : YzFrame) {s : State} (hs : z.Follows s) :
    Res.Follows z (execYarozNak path frame s) := by
  unfold execYarozNak
  repeat' (first | with_reducible assumption | with_reducible apply State.yzPut_follows | with_reducible apply State.yzInbound_follows | with_reducible apply Res.Follows.next | fail_if_no_progress with_reducible apply State.Follows.upd | split | trivial | intro _ | dsimp only)

theorem execYarozCredit_follows {z : State} (path : Fin 24) (frame : YzFrame) {s : State} (hs : z.Follows s) :
    Res.Follows z (execYarozCredit path frame s) := by
  unfold execYarozCredit
  repeat' (first | with_reducible assumption | with_reducible apply State.yzInbound_follows | with_reducible apply Res.Follows.next | fail_if_no_progress with_reducible apply State.Follows.upd | split | trivial | intro _ | dsimp only)

theorem State.showHome_follows {z : State} {s : State} (hs : z.Follows s) :
    z.Follows (State.showHome s) := by
  unfold State.showHome
  repeat' (first | with_reducible assumption | with_reducible apply State.setFld_follows | with_reducible apply Res.Follows.next | fail_if_no_progress with_reducible apply State.Follows.upd | split | trivial | intro _ | dsimp only)

theorem State.performOp_follows {z : State} {s : State} (x : YzIn) (ecc : Option EccEvent) (hs : z.Follows s) :
    z.Follows (State.performOp s x ecc) := by
  unfold State.performOp
  repeat' (first | with_reducible assumption | with_reducible refine State.Follows.ite (fun _ => ?_) (fun _ => ?_) | with_reducible apply State.incSat_follows | with_reducible apply State.yzServe_follows | with_reducible apply State.yzAnswer_follows | with_reducible apply Res.Follows.next | fail_if_no_progress with_reducible apply State.Follows.upd | split | trivial | intro _ | dsimp only)

theorem State.serveNext_follows {z : State} {s : State} (slot : Nat) (rank : Nat) (opc : Nat) (busy : Bool) (ecc : Option EccEvent) (hs : z.Follows s) :
    z.Follows (State.serveNext s slot rank opc busy ecc) := by
  unfold State.serveNext
  repeat' (first | with_reducible assumption | with_reducible refine State.Follows.ite (fun _ => ?_) (fun _ => ?_) | with_reducible apply State.incSat_follows | with_reducible apply State.yzGrant_follows | with_reducible apply State.yzAnswer_follows | with_reducible apply State.showHome_follows | with_reducible apply State.performOp_follows | with_reducible apply Res.Follows.next | fail_if_no_progress with_reducible apply State.Follows.upd | split | trivial | intro _ | dsimp only)

theorem execYzfLoad_follows {z : State} (slot : Fin 16) (rank : Fin 4096) (busy : Bool) (ecc : Option EccEvent) {s : State} (hs : z.Follows s) :
    Res.Follows z (execYzfLoad slot rank busy ecc s) := by
  unfold execYzfLoad
  repeat' (first | with_reducible assumption | with_reducible apply State.serveNext_follows | with_reducible apply Res.Follows.next | fail_if_no_progress with_reducible apply State.Follows.upd | split | trivial | intro _ | dsimp only)

theorem execYzfStore_follows {z : State} (slot : Fin 16) (rank : Fin 4096) (busy : Bool) {s : State} (hs : z.Follows s) :
    Res.Follows z (execYzfStore slot rank busy s) := by
  unfold execYzfStore
  repeat' (first | with_reducible assumption | with_reducible apply State.serveNext_follows | with_reducible apply Res.Follows.next | fail_if_no_progress with_reducible apply State.Follows.upd | split | trivial | intro _ | dsimp only)

theorem execYzfAtomic_follows {z : State} (slot : Fin 16) (rank : Fin 4096) (busy : Bool) (ecc : Option EccEvent) {s : State} (hs : z.Follows s) :
    Res.Follows z (execYzfAtomic slot rank busy ecc s) := by
  unfold execYzfAtomic
  repeat' (first | with_reducible assumption | with_reducible apply State.serveNext_follows | with_reducible apply Res.Follows.next | fail_if_no_progress with_reducible apply State.Follows.upd | split | trivial | intro _ | dsimp only)

theorem execYzfProbe_follows {z : State} (slot : Fin 16) (rank : Fin 4096) {s : State} (hs : z.Follows s) :
    Res.Follows z (execYzfProbe slot rank s) := by
  unfold execYzfProbe
  repeat' (first | with_reducible assumption | with_reducible apply State.serveNext_follows | with_reducible apply Res.Follows.next | fail_if_no_progress with_reducible apply State.Follows.upd | split | trivial | intro _ | dsimp only)

theorem execHomeQueueServe_follows {z : State} (pos : Nat) (ecc : Option EccEvent) {s : State} (hs : z.Follows s) :
    Res.Follows z (execHomeQueueServe pos ecc s) := by
  unfold execHomeQueueServe
  repeat' (first | with_reducible assumption | with_reducible refine Res.Follows.ite (fun _ => ?_) (fun _ => ?_) | with_reducible refine State.Follows.ite (fun _ => ?_) (fun _ => ?_) | with_reducible apply forEach_follows | with_reducible apply State.incWrap_follows | with_reducible apply State.showHome_follows | with_reducible apply State.performOp_follows | with_reducible apply Res.Follows.next | fail_if_no_progress with_reducible apply State.Follows.upd | split | trivial | intro _ | dsimp only)

theorem State.moveOff_follows {z : State} {s : State} (slot : Nat) (rank : Nat) (path : Nat) (hs : z.Follows s) :
    z.Follows (State.moveOff s slot rank path) := by
  unfold State.moveOff
  repeat' (first | with_reducible assumption | with_reducible apply forEach_follows | with_reducible apply State.yzPut_follows | with_reducible apply Res.Follows.next | fail_if_no_progress with_reducible apply State.Follows.upd | split | trivial | intro _ | dsimp only)

theorem execRetransmitTimeout_follows {z : State} (slot : Fin 16) (rank : Fin 4096) (psn : BitVec 24) {s : State} (hs : z.Follows s) :
    Res.Follows z (execRetransmitTimeout slot rank psn s) := by
  unfold execRetransmitTimeout
  repeat' (first | with_reducible assumption | with_reducible refine Res.Follows.ite (fun _ => ?_) (fun _ => ?_) | with_reducible refine State.Follows.ite (fun _ => ?_) (fun _ => ?_) | with_reducible apply State.setConn_follows | with_reducible apply State.yzPut_follows | with_reducible apply State.moveOff_follows | with_reducible apply Res.Follows.next | fail_if_no_progress with_reducible apply State.Follows.upd | split | trivial | intro _ | dsimp only)

theorem execLinkReplay_follows {z : State} (link : Fin 16) (lack : BitVec 16) {s : State} (hs : z.Follows s) :
    Res.Follows z (execLinkReplay link lack s) := by
  unfold execLinkReplay
  repeat' (first | with_reducible assumption | with_reducible refine Res.Follows.ite (fun _ => ?_) (fun _ => ?_) | with_reducible refine State.Follows.ite (fun _ => ?_) (fun _ => ?_) | with_reducible apply forEach_follows | with_reducible apply State.emit_follows | with_reducible apply State.incSat_follows | with_reducible apply State.countUnits_follows | with_reducible apply State.detect_follows | with_reducible apply Res.Follows.next | fail_if_no_progress with_reducible apply State.Follows.upd | split | trivial | intro _ | dsimp only)

theorem execPathProbe_follows {z : State} (slot : Fin 16) (rank : Fin 4096) (path : Fin 24) (acked : Bool) {s : State} (hs : z.Follows s) :
    Res.Follows z (execPathProbe slot rank path acked s) := by
  unfold execPathProbe
  repeat' (first | with_reducible assumption | with_reducible refine Res.Follows.ite (fun _ => ?_) (fun _ => ?_) | with_reducible refine State.Follows.ite (fun _ => ?_) (fun _ => ?_) | with_reducible apply State.setConn_follows | with_reducible apply State.yzKick_follows | with_reducible apply Res.Follows.next | fail_if_no_progress with_reducible apply State.Follows.upd | split | trivial | intro _ | dsimp only)

theorem execYarozLinkDown_follows {z : State} (link : Fin 16) {s : State} (hs : z.Follows s) :
    Res.Follows z (execYarozLinkDown link s) := by
  unfold execYarozLinkDown
  repeat' (first | with_reducible assumption | with_reducible apply State.setFld_follows | with_reducible apply State.setFlag_follows | with_reducible apply State.clrFld_follows | with_reducible apply State.yzReroute_follows | with_reducible apply Res.Follows.next | fail_if_no_progress with_reducible apply State.Follows.upd | split | trivial | intro _ | dsimp only)

theorem execYarozLinkUp_follows {z : State} (link : Fin 16) (lanes : Fin 5) {s : State} (hs : z.Follows s) :
    Res.Follows z (execYarozLinkUp link lanes s) := by
  unfold execYarozLinkUp
  repeat' (first | with_reducible assumption | with_reducible refine Res.Follows.ite (fun _ => ?_) (fun _ => ?_) | with_reducible refine State.Follows.ite (fun _ => ?_) (fun _ => ?_) | with_reducible apply State.setFld_follows | with_reducible apply State.setFlag_follows | with_reducible apply State.orFld_follows | with_reducible apply State.yzKickAll_follows | with_reducible apply Res.Follows.next | fail_if_no_progress with_reducible apply State.Follows.upd | split | trivial | intro _ | dsimp only)

theorem execFenceTimeout_follows {z : State} (ch : Fin 2048) {s : State} (hs : z.Follows s) :
    Res.Follows z (execFenceTimeout ch s) := by
  unfold execFenceTimeout
  repeat' (first | with_reducible assumption | with_reducible refine Res.Follows.ite (fun _ => ?_) (fun _ => ?_) | with_reducible refine State.Follows.ite (fun _ => ?_) (fun _ => ?_) | with_reducible apply State.fenceTimeout_follows | with_reducible apply Res.Follows.next | fail_if_no_progress with_reducible apply State.Follows.upd | split | trivial | intro _ | dsimp only)

theorem execDeadTimerExpiry_follows {z : State} (tag : BitVec 32) {s : State} (hs : z.Follows s) :
    Res.Follows z (execDeadTimerExpiry tag s) := by
  unfold execDeadTimerExpiry
  repeat' (first | with_reducible assumption | with_reducible apply State.opDead_follows | with_reducible apply Res.Follows.next | fail_if_no_progress with_reducible apply State.Follows.upd | split | trivial | intro _ | dsimp only)

theorem execRetryAfterReissue_follows {z : State} (tag : BitVec 32) {s : State} (hs : z.Follows s) :
    Res.Follows z (execRetryAfterReissue tag s) := by
  unfold execRetryAfterReissue
  repeat' (first | with_reducible assumption | with_reducible refine Res.Follows.ite (fun _ => ?_) (fun _ => ?_) | with_reducible refine State.Follows.ite (fun _ => ?_) (fun _ => ?_) | with_reducible apply State.reissue_follows | with_reducible apply Res.Follows.next | fail_if_no_progress with_reducible apply State.Follows.upd | split | trivial | intro _ | dsimp only)

theorem execGenAheadReissue_follows {z : State} (tag : BitVec 32) {s : State} (hs : z.Follows s) :
    Res.Follows z (execGenAheadReissue tag s) := by
  unfold execGenAheadReissue
  repeat' (first | with_reducible assumption | with_reducible refine Res.Follows.ite (fun _ => ?_) (fun _ => ?_) | with_reducible refine State.Follows.ite (fun _ => ?_) (fun _ => ?_) | with_reducible apply State.reissue_follows | with_reducible apply Res.Follows.next | fail_if_no_progress with_reducible apply State.Follows.upd | split | trivial | intro _ | dsimp only)

theorem execEpochReissue_follows {z : State} (tag : BitVec 32) {s : State} (hs : z.Follows s) :
    Res.Follows z (execEpochReissue tag s) := by
  unfold execEpochReissue
  repeat' (first | with_reducible assumption | with_reducible refine Res.Follows.ite (fun _ => ?_) (fun _ => ?_) | with_reducible refine State.Follows.ite (fun _ => ?_) (fun _ => ?_) | with_reducible apply State.reissue_follows | with_reducible apply Res.Follows.next | fail_if_no_progress with_reducible apply State.Follows.upd | split | trivial | intro _ | dsimp only)

theorem execMcastLoad_follows {z : State} (req : Requester) {s : State} (hs : z.Follows s) :
    Res.Follows z (execMcastLoad req s) := by
  unfold execMcastLoad
  repeat' (first | with_reducible assumption | with_reducible refine Res.Follows.ite (fun _ => ?_) (fun _ => ?_) | with_reducible refine State.Follows.ite (fun _ => ?_) (fun _ => ?_) | with_reducible apply State.setFlag_follows | with_reducible apply State.access_follows | with_reducible apply Res.Follows.next | fail_if_no_progress with_reducible apply State.Follows.upd | split | trivial | intro _ | dsimp only)

theorem State.dropReceiver_follows {z : State} {s : State} (slot : Nat) (rank : Nat) (k : Nat × Nat) (hs : z.Follows s) :
    z.Follows (State.dropReceiver s slot rank k) := by
  unfold State.dropReceiver
  repeat' (first | with_reducible assumption | with_reducible refine State.Follows.ite (fun _ => ?_) (fun _ => ?_) | with_reducible apply State.setConn_follows | with_reducible apply Res.Follows.next | fail_if_no_progress with_reducible apply State.Follows.upd | split | trivial | intro _ | dsimp only)

theorem execMcastPrune_follows {z : State} (ch : Fin 2048) (rank : Fin 4096) {s : State} (hs : z.Follows s) :
    Res.Follows z (execMcastPrune ch rank s) := by
  unfold execMcastPrune
  repeat' (first | with_reducible assumption | with_reducible refine Res.Follows.ite (fun _ => ?_) (fun _ => ?_) | with_reducible refine State.Follows.ite (fun _ => ?_) (fun _ => ?_) | with_reducible apply State.setFld_follows | with_reducible apply State.incSat_follows | with_reducible apply State.yzKickAll_follows | with_reducible apply State.noteStatus_follows | with_reducible apply State.dropReceiver_follows | with_reducible apply Res.Follows.next | fail_if_no_progress with_reducible apply State.Follows.upd | split | trivial | intro _ | dsimp only)

theorem State.tombDone_follows {z : State} {s : State} (slot : Nat) (st : Nat) (hs : z.Follows s) :
    z.Follows (State.tombDone s slot st) := by
  unfold State.tombDone
  repeat' (first | with_reducible assumption | with_reducible apply State.setFld_follows | with_reducible apply Res.Follows.next | fail_if_no_progress with_reducible apply State.Follows.upd | split | trivial | intro _ | dsimp only)

theorem execTombstoneDrained_follows {z : State} (slot : Fin 16) {s : State} (hs : z.Follows s) :
    Res.Follows z (execTombstoneDrained slot s) := by
  unfold execTombstoneDrained
  repeat' (first | with_reducible assumption | with_reducible refine Res.Follows.ite (fun _ => ?_) (fun _ => ?_) | with_reducible refine State.Follows.ite (fun _ => ?_) (fun _ => ?_) | with_reducible apply State.tombDone_follows | with_reducible apply Res.Follows.next | fail_if_no_progress with_reducible apply State.Follows.upd | split | trivial | intro _ | dsimp only)

theorem execTombstoneExpired_follows {z : State} (slot : Fin 16) {s : State} (hs : z.Follows s) :
    Res.Follows z (execTombstoneExpired slot s) := by
  unfold execTombstoneExpired
  repeat' (first | with_reducible assumption | with_reducible refine Res.Follows.ite (fun _ => ?_) (fun _ => ?_) | with_reducible refine State.Follows.ite (fun _ => ?_) (fun _ => ?_) | with_reducible apply State.tombDone_follows | with_reducible apply Res.Follows.next | fail_if_no_progress with_reducible apply State.Follows.upd | split | trivial | intro _ | dsimp only)

end Sys2Proof.Machine
end

