-- ==== Sys2Proof/Laws/TenBaseFollows.lean ====
section
/-! SUPPORT. Laws/TenBaseFollows.lean: every operation of Machine/TenBase.lean follows: what it does to the queue, the outputs, the draw counter and the invariant (Safety.lean). -/
set_option linter.unusedVariables false
set_option linter.unreachableTactic false
set_option linter.unusedTactic false
namespace Sys2Proof.Machine

open Sys2Proof

theorem State.setLife_follows {z : State} {s : State} (e : Nat) (st : Nat) (hs : z.Follows s) :
    z.Follows (State.setLife s e st) := by
  unfold State.setLife
  repeat' (first | with_reducible assumption | with_reducible apply State.setFld_follows | with_reducible apply Res.Follows.next | fail_if_no_progress with_reducible apply State.Follows.upd | split | trivial | intro _ | dsimp only)

theorem State.verdict_follows {z : State} {s : State} (e : Nat) (op : Nat) (code : Nat) (hs : z.Follows s) :
    z.Follows (State.verdict s e op code) := by
  unfold State.verdict
  repeat' (first | with_reducible assumption | with_reducible apply State.setFld_follows | with_reducible apply Res.Follows.next | fail_if_no_progress with_reducible apply State.Follows.upd | split | trivial | intro _ | dsimp only)

theorem State.lifeStart_follows {z : State} {s : State} (e : Nat) (op : Nat) (hs : z.Follows s) :
    z.Follows (State.lifeStart s e op) := by
  unfold State.lifeStart
  repeat' (first | with_reducible assumption | with_reducible apply State.verdict_follows | with_reducible apply Res.Follows.next | fail_if_no_progress with_reducible apply State.Follows.upd | split | trivial | intro _ | dsimp only)

theorem State.lifeDone_follows {z : State} {s : State} (e : Nat) (op : Nat) (hs : z.Follows s) :
    z.Follows (State.lifeDone s e op) := by
  unfold State.lifeDone
  repeat' (first | with_reducible assumption | with_reducible apply State.setFld_follows | with_reducible apply State.verdict_follows | with_reducible apply Res.Follows.next | fail_if_no_progress with_reducible apply State.Follows.upd | split | trivial | intro _ | dsimp only)

theorem State.tcGone_follows {z : State} {s : State} (core : Nat) (c : Cmd) (ends : List GroupEnd) (hs : z.Follows s) :
    z.Follows (State.tcGone s core c ends) := by
  unfold State.tcGone
  repeat' (first | with_reducible assumption | with_reducible apply forEach_follows | with_reducible apply State.incWrap_follows | with_reducible apply State.dropTakes_follows | with_reducible apply State.tcError_follows | with_reducible apply Res.Follows.next | fail_if_no_progress with_reducible apply State.Follows.upd | split | trivial | intro _ | dsimp only)

theorem State.tcEaselReset_follows {z : State} {s : State} (core : Nat) (e : Nat) (hs : z.Follows s) :
    z.Follows (State.tcEaselReset s core e) := by
  unfold State.tcEaselReset
  repeat' (first | with_reducible assumption | with_reducible refine State.Follows.ite (fun _ => ?_) (fun _ => ?_) | with_reducible apply forEach_follows | with_reducible apply State.setTcore_follows | with_reducible apply State.tcGone_follows | with_reducible apply Res.Follows.next | fail_if_no_progress with_reducible apply State.Follows.upd | split | trivial | intro _ | dsimp only)

theorem State.scGone_follows {z : State} {s : State} (core : Nat) (c : Cmd) (pc : Nat) (hs : z.Follows s) :
    z.Follows (State.scGone s core c pc) := by
  unfold State.scGone
  repeat' (first | with_reducible assumption | with_reducible apply State.incWrap_follows | with_reducible apply State.dropTakes_follows | with_reducible apply State.scError_follows | with_reducible apply Res.Follows.next | fail_if_no_progress with_reducible apply State.Follows.upd | split | trivial | intro _ | dsimp only)

theorem State.scEaselReset_follows {z : State} {s : State} (core : Nat) (e : Nat) (hs : z.Follows s) :
    z.Follows (State.scEaselReset s core e) := by
  unfold State.scEaselReset
  repeat' (first | with_reducible assumption | with_reducible refine State.Follows.ite (fun _ => ?_) (fun _ => ?_) | with_reducible apply forEach_follows | with_reducible apply State.setScore_follows | with_reducible apply State.scGone_follows | with_reducible apply Res.Follows.next | fail_if_no_progress with_reducible apply State.Follows.upd | split | trivial | intro _ | dsimp only)

theorem State.flushFlow_follows {z : State} {s : State} (f : Nat) (hs : z.Follows s) :
    z.Follows (State.flushFlow s f) := by
  unfold State.flushFlow
  repeat' (first | with_reducible assumption | with_reducible apply State.palClear_follows | with_reducible apply State.freeFlow_follows | with_reducible apply Res.Follows.next | fail_if_no_progress with_reducible apply State.Follows.upd | split | trivial | intro _ | dsimp only)

theorem State.seqEaselReset_follows {z : State} {s : State} (e : Nat) (hs : z.Follows s) :
    z.Follows (State.seqEaselReset s e) := by
  unfold State.seqEaselReset
  repeat' (first | with_reducible assumption | with_reducible apply State.setFld_follows | with_reducible apply State.setFlag_follows | with_reducible apply State.showFree_follows | with_reducible apply State.seqReset_follows | with_reducible apply Res.Follows.next | fail_if_no_progress with_reducible apply State.Follows.upd | split | trivial | intro _ | dsimp only)

theorem State.boardReset_follows {z : State} {s : State} (e : Nat) (hs : z.Follows s) :
    z.Follows (State.boardReset s e) := by
  unfold State.boardReset
  repeat' (first | with_reducible assumption | with_reducible apply Res.Follows.next | fail_if_no_progress with_reducible apply State.Follows.upd | split | trivial | intro _ | dsimp only)

theorem State.endWork_follows {z : State} {s : State} (e : Nat) (hs : z.Follows s) :
    z.Follows (State.endWork s e) := by
  unfold State.endWork
  repeat' (first | with_reducible assumption | with_reducible apply forEach_follows | with_reducible apply State.setFlag_follows | with_reducible apply State.showMoving_follows | with_reducible apply State.resetChan_follows | with_reducible apply State.embEaselReset_follows | with_reducible apply State.tcEaselReset_follows | with_reducible apply State.scEaselReset_follows | with_reducible apply State.flushFlow_follows | with_reducible apply State.seqEaselReset_follows | with_reducible apply State.boardReset_follows | with_reducible apply Res.Follows.next | fail_if_no_progress with_reducible apply State.Follows.upd | split | trivial | intro _ | dsimp only)

theorem State.enterHeld_follows {z : State} {s : State} (e : Nat) (hs : z.Follows s) :
    z.Follows (State.enterHeld s e) := by
  unfold State.enterHeld
  repeat' (first | with_reducible assumption | with_reducible refine State.Follows.ite (fun _ => ?_) (fun _ => ?_) | with_reducible apply State.setFlag_follows | with_reducible apply State.shrinkEffect_follows | with_reducible apply State.setLife_follows | with_reducible apply State.verdict_follows | with_reducible apply State.endWork_follows | with_reducible apply Res.Follows.next | fail_if_no_progress with_reducible apply State.Follows.upd | split | trivial | intro _ | dsimp only)

theorem State.holdEasel_follows {z : State} {s : State} (e : Nat) (src : Nat) (hs : z.Follows s) :
    z.Follows (State.holdEasel s e src) := by
  unfold State.holdEasel
  repeat' (first | with_reducible assumption | with_reducible refine State.Follows.ite (fun _ => ?_) (fun _ => ?_) | with_reducible apply State.orFld_follows | with_reducible apply State.enterHeld_follows | with_reducible apply Res.Follows.next | fail_if_no_progress with_reducible apply State.Follows.upd | split | trivial | intro _ | dsimp only)

theorem State.unholdEasel_follows {z : State} {s : State} (e : Nat) (src : Nat) (hs : z.Follows s) :
    z.Follows (State.unholdEasel s e src) := by
  unfold State.unholdEasel
  repeat' (first | with_reducible assumption | with_reducible apply State.clrFld_follows | with_reducible apply Res.Follows.next | fail_if_no_progress with_reducible apply State.Follows.upd | split | trivial | intro _ | dsimp only)

theorem State.holdAll_follows {z : State} {s : State} (src : Nat) (hs : z.Follows s) :
    z.Follows (State.holdAll s src) := by
  unfold State.holdAll
  repeat' (first | with_reducible assumption | with_reducible apply forEach_follows | with_reducible apply State.holdEasel_follows | with_reducible apply Res.Follows.next | fail_if_no_progress with_reducible apply State.Follows.upd | split | trivial | intro _ | dsimp only)

theorem State.unholdAll_follows {z : State} {s : State} (src : Nat) (hs : z.Follows s) :
    z.Follows (State.unholdAll s src) := by
  unfold State.unholdAll
  repeat' (first | with_reducible assumption | with_reducible apply forEach_follows | with_reducible apply State.unholdEasel_follows | with_reducible apply Res.Follows.next | fail_if_no_progress with_reducible apply State.Follows.upd | split | trivial | intro _ | dsimp only)

theorem State.resetReg_follows {z : State} {s : State} (u : Nat) (off : Nat) (hs : z.Follows s) :
    z.Follows (State.resetReg s u off) := by
  unfold State.resetReg
  repeat' (first | with_reducible assumption | with_reducible apply State.setReg_follows | with_reducible apply Res.Follows.next | fail_if_no_progress with_reducible apply State.Follows.upd | split | trivial | intro _ | dsimp only)

theorem State.clearMem_follows {z : State} {s : State} (k : Nat) (hs : z.Follows s) :
    z.Follows (State.clearMem s k) := by
  unfold State.clearMem
  repeat' (first | with_reducible assumption | with_reducible apply State.clearUsed_follows | with_reducible apply State.zeroBytes_follows | with_reducible apply Res.Follows.next | fail_if_no_progress with_reducible apply State.Follows.upd | split | trivial | intro _ | dsimp only)

theorem State.clearMems_follows {z : State} {s : State} (e : Nat) (hs : z.Follows s) :
    z.Follows (State.clearMems s e) := by
  unfold State.clearMems
  repeat' (first | with_reducible assumption | with_reducible apply forUpto_follows | with_reducible apply State.bondWatermark_follows | with_reducible apply State.spWatermark_follows | with_reducible apply State.scWatermark_follows | with_reducible apply State.clearMem_follows | with_reducible apply Res.Follows.next | fail_if_no_progress with_reducible apply State.Follows.upd | split | trivial | intro _ | dsimp only)

theorem State.clearCores_follows {z : State} {s : State} (e : Nat) (hs : z.Follows s) :
    z.Follows (State.clearCores s e) := by
  unfold State.clearCores
  repeat' (first | with_reducible assumption | with_reducible apply forUpto_follows | with_reducible apply State.resetReg_follows | with_reducible apply Res.Follows.next | fail_if_no_progress with_reducible apply State.Follows.upd | split | trivial | intro _ | dsimp only)

theorem State.clearEasel_follows {z : State} {s : State} (e : Nat) (hs : z.Follows s) :
    z.Follows (State.clearEasel s e) := by
  unfold State.clearEasel
  repeat' (first | with_reducible assumption | with_reducible apply forEach_follows | with_reducible apply State.setFld_follows | with_reducible apply State.setFlag_follows | with_reducible apply State.resetReg_follows | with_reducible apply State.clearMems_follows | with_reducible apply State.clearCores_follows | with_reducible apply Res.Follows.next | fail_if_no_progress with_reducible apply State.Follows.upd | split | trivial | intro _ | dsimp only)

theorem State.startClearing_follows {z : State} {s : State} (e : Nat) (hs : z.Follows s) :
    z.Follows (State.startClearing s e) := by
  unfold State.startClearing
  repeat' (first | with_reducible assumption | with_reducible apply State.setLife_follows | with_reducible apply State.clearEasel_follows | with_reducible apply Res.Follows.next | fail_if_no_progress with_reducible apply State.Follows.upd | split | trivial | intro _ | dsimp only)

end Sys2Proof.Machine
end

