-- ==== Sys2Proof/Laws/EaselImageFollows.lean ====
section
/-! SUPPORT. Laws/EaselImageFollows.lean: every operation of Machine/EaselImage.lean follows: what it does to the queue, the outputs, the draw counter and the invariant (Safety.lean). -/
set_option linter.unusedVariables false
set_option linter.unreachableTactic false
set_option linter.unusedTactic false
namespace Sys2Proof.Machine

open Sys2Proof

theorem State.showImgDig_follows {z : State} {s : State} (e : Nat) (d : List Nat) (hs : z.Follows s) :
    z.Follows (State.showImgDig s e d) := by
  unfold State.showImgDig
  repeat' (first | with_reducible assumption | with_reducible apply State.showWords_follows | with_reducible apply Res.Follows.next | fail_if_no_progress with_reducible apply State.Follows.upd | split | trivial | intro _ | dsimp only)

theorem State.putControl_follows {z : State} {s : State} (e : Nat) (off : Nat) (v : Nat) (hs : z.Follows s) :
    z.Follows (State.putControl s e off v) := by
  unfold State.putControl
  repeat' (first | with_reducible assumption | with_reducible refine State.Follows.ite (fun _ => ?_) (fun _ => ?_) | with_reducible apply State.setReg_follows | with_reducible apply State.setFlag_follows | with_reducible apply Res.Follows.next | fail_if_no_progress with_reducible apply State.Follows.upd | split | trivial | intro _ | dsimp only)

theorem State.putUnits_follows {z : State} {s : State} (b : Blob) (x : Sec) (base : Nat) (hs : z.Follows s) :
    z.Follows (State.putUnits s b x base) := by
  unfold State.putUnits
  repeat' (first | with_reducible assumption | with_reducible apply State.markPoison_follows | with_reducible apply forEach_follows | with_reducible apply State.setUsed_follows | with_reducible apply State.storeRaw_follows | with_reducible apply Res.Follows.next | fail_if_no_progress with_reducible apply State.Follows.upd | split | trivial | intro _ | dsimp only)

theorem State.putSec_follows {z : State} {s : State} (e : Nat) (b : Blob) (x : Sec) (hs : z.Follows s) :
    z.Follows (State.putSec s e b x) := by
  unfold State.putSec
  repeat' (first | with_reducible assumption | with_reducible refine State.Follows.ite (fun _ => ?_) (fun _ => ?_) | with_reducible apply forEach_follows | with_reducible apply State.draw_follows | with_reducible apply State.setFld_follows | with_reducible apply State.bondWatermark_follows | with_reducible apply State.setSeqEntry_follows | with_reducible apply State.setPal_follows | with_reducible apply State.spWatermark_follows | with_reducible apply State.scWatermark_follows | with_reducible apply State.putControl_follows | with_reducible apply State.putUnits_follows | with_reducible apply Res.Follows.next | fail_if_no_progress with_reducible apply State.Follows.upd | (with_reducible refine State.Follows.of_snd (by with_reducible assumption) ?_) | (with_reducible refine State.Follows.of_fst (by with_reducible assumption) ?_) | (with_reducible refine State.Follows.of_trd (by with_reducible assumption) ?_) | split | trivial | intro _ | dsimp only)

theorem State.palRecount_follows {z : State} {s : State} (e : Nat) (hs : z.Follows s) :
    z.Follows (State.palRecount s e) := by
  unfold State.palRecount
  repeat' (first | with_reducible assumption | with_reducible apply State.setFld_follows | with_reducible apply Res.Follows.next | fail_if_no_progress with_reducible apply State.Follows.upd | with_reducible apply foldl_follows | with_reducible apply foldl_fst_follows | with_reducible apply foldl_snd_follows | with_reducible apply foldl_trd_follows | split | trivial | intro _ | dsimp only)

theorem State.raiseWms_follows {z : State} {s : State} (e : Nat) (b : Blob) (hs : z.Follows s) :
    z.Follows (State.raiseWms s e b) := by
  unfold State.raiseWms
  repeat' (first | with_reducible assumption | with_reducible apply forUpto_follows | with_reducible apply State.setFld_follows | with_reducible apply Res.Follows.next | fail_if_no_progress with_reducible apply State.Follows.upd | split | trivial | intro _ | dsimp only)

theorem State.liveWms_follows {z : State} {s : State} (e : Nat) (hs : z.Follows s) :
    z.Follows (State.liveWms s e) := by
  unfold State.liveWms
  repeat' (first | with_reducible assumption | with_reducible apply forUpto_follows | with_reducible apply State.bondWatermark_follows | with_reducible apply State.spWatermark_follows | with_reducible apply State.scWatermark_follows | with_reducible apply State.palRecount_follows | with_reducible apply Res.Follows.next | fail_if_no_progress with_reducible apply State.Follows.upd | split | trivial | intro _ | dsimp only)

theorem State.drawMore_follows {z s : State} (n : Nat) (hs : z.Follows s) : z.Follows (State.drawMore s n) :=
  ⟨hs.pending, hs.out, hs.free.trans (Nat.le_add_right _ _), fun i => let j := hs.inv i; ⟨j.mem, j.regs, j.poison, j.used, j.tod⟩⟩

theorem State.rebuild_follows {z : State} {s : State} (e : Nat) (hs : z.Follows s) :
    z.Follows (State.rebuild s e) := by
  unfold State.rebuild
  repeat' (first | with_reducible assumption | with_reducible refine State.Follows.ite (fun _ => ?_) (fun _ => ?_) | with_reducible apply forUpto_follows | with_reducible apply State.draw_follows | with_reducible apply State.setSeqEas_follows | with_reducible apply State.drawMore_follows | with_reducible apply Res.Follows.next | fail_if_no_progress with_reducible apply State.Follows.upd | (with_reducible refine State.Follows.of_snd (by with_reducible assumption) ?_) | (with_reducible refine State.Follows.of_fst (by with_reducible assumption) ?_) | (with_reducible refine State.Follows.of_trd (by with_reducible assumption) ?_) | split | trivial | intro _ | dsimp only)

theorem State.putImage_follows {z : State} {s : State} (e : Nat) (b : Blob) (hs : z.Follows s) :
    z.Follows (State.putImage s e b) := by
  unfold State.putImage
  repeat' (first | with_reducible assumption | with_reducible apply forEach_follows | with_reducible apply State.putSec_follows | with_reducible apply State.liveWms_follows | with_reducible apply State.rebuild_follows | with_reducible apply Res.Follows.next | fail_if_no_progress with_reducible apply State.Follows.upd | split | trivial | intro _ | dsimp only)

end Sys2Proof.Machine
end

