-- ==== Sys2Proof/Laws/TenancyFollows.lean ====
section
/-! SUPPORT. Laws/TenancyFollows.lean: every operation of Machine/Tenancy.lean follows: what it does to the queue, the outputs, the draw counter and the invariant (Safety.lean). -/
set_option linter.unusedVariables false
set_option linter.unreachableTactic false
set_option linter.unusedTactic false
namespace Sys2Proof.Machine

open Sys2Proof

theorem State.lifeOp_follows {z : State} {s : State} (req : Requester) (e : Nat) (op : Nat) (key : Nat) (accepts : Bool) (start : State → State) (startF : ∀ a0, z.Follows a0 → z.Follows (start a0)) (hs : z.Follows s) :
    z.Follows (State.lifeOp s req e op key accepts start) := by
  unfold State.lifeOp
  repeat' (first | with_reducible assumption | with_reducible refine State.Follows.ite (fun _ => ?_) (fun _ => ?_) | with_reducible apply State.verdict_follows | with_reducible apply State.lifeStart_follows | with_reducible apply startF | with_reducible apply Res.Follows.next | fail_if_no_progress with_reducible apply State.Follows.upd | (with_reducible refine State.Follows.of_snd (by with_reducible assumption) ?_) | (with_reducible refine State.Follows.of_fst (by with_reducible assumption) ?_) | (with_reducible refine State.Follows.of_trd (by with_reducible assumption) ?_) | split | trivial | intro _ | dsimp only)

theorem State.stopAdmission_follows {z : State} {s : State} (e : Nat) (hs : z.Follows s) :
    z.Follows (State.stopAdmission s e) := by
  unfold State.stopAdmission
  repeat' (first | with_reducible assumption | with_reducible apply Res.Follows.next | fail_if_no_progress with_reducible apply State.Follows.upd | split | trivial | intro _ | dsimp only)

theorem State.resumeAdmission_follows {z : State} {s : State} (e : Nat) (hs : z.Follows s) :
    z.Follows (State.resumeAdmission s e) := by
  unfold State.resumeAdmission
  repeat' (first | with_reducible assumption | with_reducible apply Res.Follows.next | fail_if_no_progress with_reducible apply State.Follows.upd | split | trivial | intro _ | dsimp only)

theorem State.freezeStart_follows {z : State} {s : State} (e : Nat) (hs : z.Follows s) :
    z.Follows (State.freezeStart s e) := by
  unfold State.freezeStart
  repeat' (first | with_reducible assumption | with_reducible refine State.Follows.ite (fun _ => ?_) (fun _ => ?_) | with_reducible apply State.setBuildWaits_follows | with_reducible apply State.seqGo_follows | with_reducible apply State.setLife_follows | with_reducible apply State.stopAdmission_follows | with_reducible apply Res.Follows.next | fail_if_no_progress with_reducible apply State.Follows.upd | split | trivial | intro _ | dsimp only)

theorem execFreeze_follows {z : State} (req : Requester) (key : BitVec 8) {s : State} (hs : z.Follows s) :
    Res.Follows z (execFreeze req key s) := by
  unfold execFreeze
  repeat' (first | with_reducible assumption | with_reducible apply State.access_follows | with_reducible apply State.lifeOp_follows | with_reducible apply State.freezeStart_follows | with_reducible apply Res.Follows.next | fail_if_no_progress with_reducible apply State.Follows.upd | split | trivial | intro _ | dsimp only)

theorem execFreezeDrained_follows {z : State} (easel : Fin 64) {s : State} (hs : z.Follows s) :
    Res.Follows z (execFreezeDrained easel s) := by
  unfold execFreezeDrained
  repeat' (first | with_reducible assumption | with_reducible refine Res.Follows.ite (fun _ => ?_) (fun _ => ?_) | with_reducible refine State.Follows.ite (fun _ => ?_) (fun _ => ?_) | with_reducible apply State.setLife_follows | with_reducible apply State.lifeDone_follows | with_reducible apply State.stopAdmission_follows | with_reducible apply Res.Follows.next | fail_if_no_progress with_reducible apply State.Follows.upd | split | trivial | intro _ | dsimp only)

theorem execFreezeBoundExpiry_follows {z : State} (easel : Fin 64) {s : State} (hs : z.Follows s) :
    Res.Follows z (execFreezeBoundExpiry easel s) := by
  unfold execFreezeBoundExpiry
  repeat' (first | with_reducible assumption | with_reducible refine Res.Follows.ite (fun _ => ?_) (fun _ => ?_) | with_reducible refine State.Follows.ite (fun _ => ?_) (fun _ => ?_) | with_reducible apply State.setLife_follows | with_reducible apply State.verdict_follows | with_reducible apply State.stopAdmission_follows | with_reducible apply Res.Follows.next | fail_if_no_progress with_reducible apply State.Follows.upd | split | trivial | intro _ | dsimp only)

theorem State.thawNow_follows {z : State} {s : State} (e : Nat) (hs : z.Follows s) :
    z.Follows (State.thawNow s e) := by
  unfold State.thawNow
  repeat' (first | with_reducible assumption | with_reducible refine State.Follows.ite (fun _ => ?_) (fun _ => ?_) | with_reducible apply State.autoBuild_follows | with_reducible apply State.setLife_follows | with_reducible apply State.lifeDone_follows | with_reducible apply State.resumeAdmission_follows | with_reducible apply Res.Follows.next | fail_if_no_progress with_reducible apply State.Follows.upd | split | trivial | intro _ | dsimp only)

theorem execThaw_follows {z : State} (req : Requester) (key : BitVec 8) {s : State} (hs : z.Follows s) :
    Res.Follows z (execThaw req key s) := by
  unfold execThaw
  repeat' (first | with_reducible assumption | with_reducible apply State.access_follows | with_reducible apply State.lifeOp_follows | with_reducible apply State.thawNow_follows | with_reducible apply Res.Follows.next | fail_if_no_progress with_reducible apply State.Follows.upd | split | trivial | intro _ | dsimp only)

theorem execSave_follows {z : State} (req : Requester) (key : BitVec 8) {s : State} (hs : z.Follows s) :
    Res.Follows z (execSave req key s) := by
  unfold execSave
  repeat' (first | with_reducible assumption | with_reducible apply State.setFld64_follows | with_reducible apply State.access_follows | with_reducible apply State.setLife_follows | with_reducible apply State.lifeOp_follows | with_reducible apply Res.Follows.next | fail_if_no_progress with_reducible apply State.Follows.upd | split | trivial | intro _ | dsimp only)

theorem State.imgWrite_follows {z : State} {s : State} (e : Nat) (addr : Nat) (bytes : List Nat) (hs : z.Follows s) :
    z.Follows (State.imgWrite s e addr bytes) := by
  unfold State.imgWrite
  repeat' (first | with_reducible assumption | with_reducible apply State.toHost_follows | with_reducible apply State.hostWrite_follows | with_reducible apply Res.Follows.next | fail_if_no_progress with_reducible apply State.Follows.upd | with_reducible apply foldl_follows | with_reducible apply foldl_fst_follows | with_reducible apply foldl_snd_follows | with_reducible apply foldl_trd_follows | split | trivial | intro _ | dsimp only)

theorem execSaveDone_follows {z : State} (easel : Fin 64) (fail : Bool) {s : State} (hs : z.Follows s) :
    Res.Follows z (execSaveDone easel fail s) := by
  unfold execSaveDone
  repeat' (first | with_reducible assumption | with_reducible refine Res.Follows.ite (fun _ => ?_) (fun _ => ?_) | with_reducible refine State.Follows.ite (fun _ => ?_) (fun _ => ?_) | with_reducible apply State.draw_follows | with_reducible apply State.setFld64_follows | with_reducible apply State.setLife_follows | with_reducible apply State.verdict_follows | with_reducible apply State.lifeDone_follows | with_reducible apply State.showImgDig_follows | with_reducible apply State.imgWrite_follows | with_reducible apply Res.Follows.next | fail_if_no_progress with_reducible apply State.Follows.upd | (with_reducible refine State.Follows.of_snd (by with_reducible assumption) ?_) | (with_reducible refine State.Follows.of_fst (by with_reducible assumption) ?_) | (with_reducible refine State.Follows.of_trd (by with_reducible assumption) ?_) | split | trivial | intro _ | dsimp only)

theorem execRestore_follows {z : State} (req : Requester) (key : BitVec 8) (hdr : Blob) {s : State} (hs : z.Follows s) :
    Res.Follows z (execRestore req key hdr s) := by
  unfold execRestore
  repeat' (first | with_reducible assumption | with_reducible refine Res.Follows.ite (fun _ => ?_) (fun _ => ?_) | with_reducible refine State.Follows.ite (fun _ => ?_) (fun _ => ?_) | with_reducible apply State.setFld64_follows | with_reducible apply State.access_follows | with_reducible apply State.setLife_follows | with_reducible apply State.raiseWms_follows | with_reducible apply State.lifeOp_follows | with_reducible apply Res.Follows.next | fail_if_no_progress with_reducible apply State.Follows.upd | split | trivial | intro _ | dsimp only)

theorem execRestoreDone_follows {z : State} (easel : Fin 64) (image : Blob) (fail : Bool) {s : State} (hs : z.Follows s) :
    Res.Follows z (execRestoreDone easel image fail s) := by
  unfold execRestoreDone
  repeat' (first | with_reducible assumption | with_reducible refine Res.Follows.ite (fun _ => ?_) (fun _ => ?_) | with_reducible refine State.Follows.ite (fun _ => ?_) (fun _ => ?_) | with_reducible apply State.setFld64_follows | with_reducible apply State.setLife_follows | with_reducible apply State.verdict_follows | with_reducible apply State.lifeDone_follows | with_reducible apply State.startClearing_follows | with_reducible apply State.showImgDig_follows | with_reducible apply State.palRecount_follows | with_reducible apply State.putImage_follows | with_reducible apply State.stopAdmission_follows | with_reducible apply Res.Follows.next | fail_if_no_progress with_reducible apply State.Follows.upd | split | trivial | intro _ | dsimp only)

theorem execReset_follows {z : State} (req : Requester) (key : BitVec 8) {s : State} (hs : z.Follows s) :
    Res.Follows z (execReset req key s) := by
  unfold execReset
  repeat' (first | with_reducible assumption | with_reducible apply State.access_follows | with_reducible apply State.holdEasel_follows | with_reducible apply State.lifeOp_follows | with_reducible apply Res.Follows.next | fail_if_no_progress with_reducible apply State.Follows.upd | split | trivial | intro _ | dsimp only)

theorem execEaselResetRelease_follows {z : State} (easel : Fin 64) {s : State} (hs : z.Follows s) :
    Res.Follows z (execEaselResetRelease easel s) := by
  unfold execEaselResetRelease
  repeat' (first | with_reducible assumption | with_reducible refine Res.Follows.ite (fun _ => ?_) (fun _ => ?_) | with_reducible refine State.Follows.ite (fun _ => ?_) (fun _ => ?_) | with_reducible apply State.unholdEasel_follows | with_reducible apply State.startClearing_follows | with_reducible apply Res.Follows.next | fail_if_no_progress with_reducible apply State.Follows.upd | split | trivial | intro _ | dsimp only)

theorem execClearingDone_follows {z : State} (easel : Fin 64) {s : State} (hs : z.Follows s) :
    Res.Follows z (execClearingDone easel s) := by
  unfold execClearingDone
  repeat' (first | with_reducible assumption | with_reducible refine Res.Follows.ite (fun _ => ?_) (fun _ => ?_) | with_reducible refine State.Follows.ite (fun _ => ?_) (fun _ => ?_) | with_reducible apply State.incSat_follows | with_reducible apply State.setLife_follows | with_reducible apply State.lifeDone_follows | with_reducible apply Res.Follows.next | fail_if_no_progress with_reducible apply State.Follows.upd | split | trivial | intro _ | dsimp only)

theorem State.quarantineOne_follows {z : State} {s : State} (e : Nat) (hs : z.Follows s) :
    z.Follows (State.quarantineOne s e) := by
  unfold State.quarantineOne
  repeat' (first | with_reducible assumption | with_reducible refine State.Follows.ite (fun _ => ?_) (fun _ => ?_) | with_reducible apply State.setFlag_follows | with_reducible apply State.verdict_follows | with_reducible apply State.holdEasel_follows | with_reducible apply Res.Follows.next | fail_if_no_progress with_reducible apply State.Follows.upd | split | trivial | intro _ | dsimp only)

theorem execQuarantineEnter_follows {z : State} (req : Requester) (key : BitVec 8) {s : State} (hs : z.Follows s) :
    Res.Follows z (execQuarantineEnter req key s) := by
  unfold execQuarantineEnter
  repeat' (first | with_reducible assumption | with_reducible refine Res.Follows.ite (fun _ => ?_) (fun _ => ?_) | with_reducible refine State.Follows.ite (fun _ => ?_) (fun _ => ?_) | with_reducible apply forEach_follows | with_reducible apply State.setFlag_follows | with_reducible apply State.access_follows | with_reducible apply State.quarantineOne_follows | with_reducible apply Res.Follows.next | fail_if_no_progress with_reducible apply State.Follows.upd | split | trivial | intro _ | dsimp only)

theorem execQuarantineLeave_follows {z : State} (req : Requester) (key : BitVec 8) {s : State} (hs : z.Follows s) :
    Res.Follows z (execQuarantineLeave req key s) := by
  unfold execQuarantineLeave
  repeat' (first | with_reducible assumption | with_reducible refine Res.Follows.ite (fun _ => ?_) (fun _ => ?_) | with_reducible refine State.Follows.ite (fun _ => ?_) (fun _ => ?_) | with_reducible apply forEach_follows | with_reducible apply State.setFlag_follows | with_reducible apply State.access_follows | with_reducible apply State.unholdAll_follows | with_reducible apply Res.Follows.next | fail_if_no_progress with_reducible apply State.Follows.upd | split | trivial | intro _ | dsimp only)

end Sys2Proof.Machine
end

