-- ==== Sys2Proof/Laws/ResetBaseFollows.lean ====
section
/-! SUPPORT. Laws/ResetBaseFollows.lean: every operation of Machine/ResetBase.lean follows: what it does to the queue, the outputs, the draw counter and the invariant (Safety.lean). -/
set_option linter.unusedVariables false
set_option linter.unreachableTactic false
set_option linter.unusedTactic false
namespace Sys2Proof.Machine

open Sys2Proof

theorem State.showHeld_follows {z : State} {s : State} (hs : z.Follows s) :
    z.Follows (State.showHeld s) := by
  unfold State.showHeld
  repeat' (first | with_reducible assumption | with_reducible apply State.setFlag_follows | with_reducible apply Res.Follows.next | fail_if_no_progress with_reducible apply State.Follows.upd | split | trivial | intro _ | dsimp only)

theorem State.bringUp_follows {z : State} {s : State} (hs : z.Follows s) :
    z.Follows (State.bringUp s) := by
  unfold State.bringUp
  repeat' (first | with_reducible assumption | with_reducible apply State.setFld_follows | with_reducible apply State.setFlag_follows | with_reducible apply State.showHeld_follows | with_reducible apply Res.Follows.next | fail_if_no_progress with_reducible apply State.Follows.upd | split | trivial | intro _ | dsimp only)

theorem State.stepEleven_follows {z : State} {s : State} (hs : z.Follows s) :
    z.Follows (State.stepEleven s) := by
  unfold State.stepEleven
  repeat' (first | with_reducible assumption | with_reducible refine State.Follows.ite (fun _ => ?_) (fun _ => ?_) | with_reducible apply State.setFld_follows | with_reducible apply Res.Follows.next | fail_if_no_progress with_reducible apply State.Follows.upd | split | trivial | intro _ | dsimp only)

/-- A pass over a map that drops entries or rewrites them in place, never to what an unlisted key reads as, keeps the canonical form. -/
theorem SMap.wf_filterMap {α : Type} [DecidableEq α] (d : Nat → α) (f : Nat × α → Option (Nat × α)) (hk : ∀ p q, f p = some q → q.1 = p.1 ∧ q.2 ≠ d q.1) (m : SMap α)
    (hm : SMap.wf d m = true) : SMap.wf d (m.filterMap f) = true := by
  induction m with
  | nil => rfl
  | cons e r ih =>
    obtain ⟨k, v⟩ := e
    obtain ⟨h1, -, h3⟩ := SMap.wf_cons.mp hm
    cases c : f (k, v) with
    | none => rw [List.filterMap_cons_none c]; exact ih h3
    | some q =>
      obtain ⟨k', v'⟩ := q
      obtain ⟨e1, e2⟩ := hk _ _ c
      simp only at e1 e2; subst e1
      rw [List.filterMap_cons_some c]
      refine SMap.wf_cons.mpr ⟨?_, e2, ih h3⟩
      simp only [SMap.above, List.all_eq_true, decide_eq_true_eq] at h1 ⊢
      intro x hx
      obtain ⟨y, hy, hxy⟩ := List.mem_filterMap.mp hx
      rw [(hk _ _ hxy).1]; exact h1 y hy

/-- What a chip reset keeps of the register file is in canonical form. -/
theorem keptRegs_wf (por : Bool) (m : SMap (BitVec 32)) (hm : SMap.wf regDefault m = true) : SMap.wf regDefault (keptRegs por m) = true := by
  unfold keptRegs
  refine SMap.wf_filterMap regDefault _ (fun p q h => ?_) m hm
  dsimp only at h
  generalize (p.2 &&& _ ||| _) = w at h
  by_cases c : w = regDefault p.1
  · rw [if_pos c] at h; exact absurd h (by simp)
  · rw [if_neg c] at h
    obtain rfl := Option.some.inj h
    exact ⟨rfl, c⟩

/-- The state a chip reset rebuilds. -/
theorem chipRebuild_follows {z s s1 : State} (por : Bool) (r : RstSt) (hs : z.Follows s) (h1 : z.Follows s1) :
    z.Follows { State.reset with regs := keptRegs por s1.regs, rst := r, out := s.out, free := s.free, pending := s.pending } :=
  ⟨hs.pending, hs.out, hs.free, fun i => ⟨rfl, keptRegs_wf por _ (h1.inv i).regs, rfl, rfl, by simp only [State.reset]; omega⟩⟩

theorem State.chipReset_follows {z s : State} (src latch : Nat) (hs : z.Follows s) : z.Follows (State.chipReset s src latch) := by
  unfold State.chipReset
  refine State.Follows.ite (fun _ => ?_) (fun _ => ?_)
  · exact State.Follows.upd (State.orFld_follows _ _ _ (State.orFld_follows _ _ _ (State.orFld_follows _ _ _ hs)))
  · refine State.Follows.ite (fun _ => State.bringUp_follows ?_) (fun _ => ?_) <;>
      refine State.showHeld_follows (State.setFld_follows _ _ _ (State.Follows.ite (fun _ => ?_)
        (fun _ => State.setFld_follows _ _ _ (State.orFld_follows _ _ _ ?_)))) <;>
      exact chipRebuild_follows _ _ hs (State.Follows.ite (fun _ => State.setFld_follows _ _ _ (State.setFld_follows _ _ _ hs)) (fun _ => hs))

theorem State.chipRelease_follows {z : State} {s : State} (src : Nat) (hs : z.Follows s) :
    z.Follows (State.chipRelease s src) := by
  unfold State.chipRelease
  repeat' (first | with_reducible assumption | with_reducible refine State.Follows.ite (fun _ => ?_) (fun _ => ?_) | with_reducible apply State.clrFld_follows | with_reducible apply State.showHeld_follows | with_reducible apply State.bringUp_follows | with_reducible apply Res.Follows.next | fail_if_no_progress with_reducible apply State.Follows.upd | split | trivial | intro _ | dsimp only)

theorem State.applyRefuse_follows {z : State} {s : State} (code : Nat) (section_ : Nat) (hs : z.Follows s) :
    z.Follows (State.applyRefuse s code section_) := by
  unfold State.applyRefuse
  repeat' (first | with_reducible assumption | with_reducible apply State.setFld_follows | with_reducible apply State.chipReset_follows | with_reducible apply Res.Follows.next | fail_if_no_progress with_reducible apply State.Follows.upd | split | trivial | intro _ | dsimp only)

theorem State.resetFaultBy_follows {z : State} {s : State} (det : Nat) (injected : Bool) (hs : z.Follows s) :
    z.Follows (State.resetFaultBy s det injected) := by
  unfold State.resetFaultBy
  repeat' (first | with_reducible assumption | with_reducible refine State.Follows.ite (fun _ => ?_) (fun _ => ?_) | with_reducible apply State.orFld_follows | with_reducible apply State.incSat_follows | with_reducible apply State.penalise_follows | with_reducible apply Res.Follows.next | fail_if_no_progress with_reducible apply State.Follows.upd | split | trivial | intro _ | dsimp only)

theorem State.resetFault_follows {z : State} {s : State} (det : Nat) (hs : z.Follows s) :
    z.Follows (State.resetFault s det) := by
  unfold State.resetFault
  repeat' (first | with_reducible assumption | with_reducible apply State.inject_follows | with_reducible apply State.resetFaultBy_follows | with_reducible apply Res.Follows.next | fail_if_no_progress with_reducible apply State.Follows.upd | (with_reducible refine State.Follows.of_snd (by with_reducible assumption) ?_) | (with_reducible refine State.Follows.of_fst (by with_reducible assumption) ?_) | (with_reducible refine State.Follows.of_trd (by with_reducible assumption) ?_) | split | trivial | intro _ | dsimp only)

theorem State.rtRefuse_follows {z : State} {s : State} (code : Nat) (rec_ : Nat) (hs : z.Follows s) :
    z.Follows (State.rtRefuse s code rec_) := by
  unfold State.rtRefuse
  repeat' (first | with_reducible assumption | with_reducible apply State.setFld_follows | with_reducible apply State.fire_follows | with_reducible apply Res.Follows.next | fail_if_no_progress with_reducible apply State.Follows.upd | split | trivial | intro _ | dsimp only)

theorem State.pushEnd_follows {z : State} {s : State} (hs : z.Follows s) :
    z.Follows (State.pushEnd s) := by
  unfold State.pushEnd
  repeat' (first | with_reducible assumption | with_reducible refine State.Follows.ite (fun _ => ?_) (fun _ => ?_) | with_reducible apply State.setFld_follows | with_reducible apply State.applyRefuse_follows | with_reducible apply Res.Follows.next | fail_if_no_progress with_reducible apply State.Follows.upd | split | trivial | intro _ | dsimp only)

theorem State.cxlReset_follows {z s : State} (hs : z.Follows s) : z.Follows (State.cxlReset s) := by
  unfold State.cxlReset
  have h1 : z.Follows (((s.holdAll holdVf).dropFapi).setFlag 0 F.EAS_CTRL_ENABLE false) :=
    State.setFlag_follows _ _ _ (State.dropFapi_follows (State.holdAll_follows _ hs))
  generalize ((s.holdAll holdVf).dropFapi).setFlag 0 F.EAS_CTRL_ENABLE false = s1 at h1
  dsimp only
  have h2 : ∀ c, z.Follows { s1 with
      regs := SMap.keep (fun k => !cxlBlock (k % regSpan)) s1.regs
      part := SMap.keep (fun k => !cxlBlock (k % regSpan)) s1.part
      cxl := c } := fun c =>
    ⟨h1.pending, h1.out, h1.free, fun i => let j := h1.inv i; ⟨j.mem, SMap.wf_keep _ _ (fun k => !cxlBlock (k % regSpan)) j.regs, j.poison, j.used, j.tod⟩⟩
  have h3 := State.incSat_follows 0 F.CXL_LOST_WR_COUNT s1.hostWaiting (h2 ⟨[], [], [], [], false, 0, [], ⟨[], [], false⟩⟩)
  generalize State.incSat _ 0 F.CXL_LOST_WR_COUNT s1.hostWaiting = s3 at h3
  repeat' (first | with_reducible assumption | with_reducible apply State.pushEnd_follows | with_reducible apply State.setFld_follows | with_reducible apply State.rtRefuse_follows | with_reducible refine State.Follows.ite (fun _ => ?_) (fun _ => ?_))

theorem State.hostReset_follows {z : State} {s : State} (src : Nat) (hs : z.Follows s) :
    z.Follows (State.hostReset s src) := by
  unfold State.hostReset
  repeat' (first | with_reducible assumption | with_reducible refine State.Follows.ite (fun _ => ?_) (fun _ => ?_) | with_reducible apply State.orFld_follows | with_reducible apply State.holdAll_follows | with_reducible apply State.showHeld_follows | with_reducible apply State.cxlReset_follows | with_reducible apply Res.Follows.next | fail_if_no_progress with_reducible apply State.Follows.upd | split | trivial | intro _ | dsimp only)

theorem State.hostRelease_follows {z : State} {s : State} (src : Nat) (hs : z.Follows s) :
    z.Follows (State.hostRelease s src) := by
  unfold State.hostRelease
  repeat' (first | with_reducible assumption | with_reducible refine State.Follows.ite (fun _ => ?_) (fun _ => ?_) | with_reducible apply State.clrFld_follows | with_reducible apply State.unholdAll_follows | with_reducible apply State.showHeld_follows | with_reducible apply State.stepEleven_follows | with_reducible apply Res.Follows.next | fail_if_no_progress with_reducible apply State.Follows.upd | split | trivial | intro _ | dsimp only)

theorem State.hotReset_follows {z : State} {s : State} (hs : z.Follows s) :
    z.Follows (State.hotReset s) := by
  unfold State.hotReset
  repeat' (first | with_reducible assumption | with_reducible refine State.Follows.ite (fun _ => ?_) (fun _ => ?_) | with_reducible apply State.chipReset_follows | with_reducible apply State.hostReset_follows | with_reducible apply State.hostRelease_follows | with_reducible apply Res.Follows.next | fail_if_no_progress with_reducible apply State.Follows.upd | split | trivial | intro _ | dsimp only)

theorem State.tcKill_follows {z : State} {s : State} (core : Nat) (c : Cmd) (ends : List GroupEnd) (hs : z.Follows s) :
    z.Follows (State.tcKill s core c ends) := by
  unfold State.tcKill
  repeat' (first | with_reducible assumption | with_reducible refine State.Follows.ite (fun _ => ?_) (fun _ => ?_) | with_reducible apply forEach_follows | with_reducible apply State.dropTakes_follows | with_reducible apply State.tcPost_follows | with_reducible apply State.tcRetire_follows | with_reducible apply State.radioEnd_follows | with_reducible apply Res.Follows.next | fail_if_no_progress with_reducible apply State.Follows.upd | split | trivial | intro _ | dsimp only)

theorem State.tcCoreReset_follows {z : State} {s : State} (core : Nat) (hs : z.Follows s) :
    z.Follows (State.tcCoreReset s core) := by
  unfold State.tcCoreReset
  repeat' (first | with_reducible assumption | with_reducible apply forEach_follows | with_reducible apply State.setTcore_follows | with_reducible apply State.tcKill_follows | with_reducible apply Res.Follows.next | fail_if_no_progress with_reducible apply State.Follows.upd | split | trivial | intro _ | dsimp only)

theorem State.scKill_follows {z : State} {s : State} (core : Nat) (c : Cmd) (x : Option ScCtx) (hs : z.Follows s) :
    z.Follows (State.scKill s core c x) := by
  unfold State.scKill
  repeat' (first | with_reducible assumption | with_reducible refine State.Follows.ite (fun _ => ?_) (fun _ => ?_) | with_reducible apply State.draw_follows | with_reducible apply State.dropTakes_follows | with_reducible apply State.sendSignal_follows | with_reducible apply State.scPost_follows | with_reducible apply State.radioEnd_follows | with_reducible apply Res.Follows.next | fail_if_no_progress with_reducible apply State.Follows.upd | (with_reducible refine State.Follows.of_snd (by with_reducible assumption) ?_) | (with_reducible refine State.Follows.of_fst (by with_reducible assumption) ?_) | (with_reducible refine State.Follows.of_trd (by with_reducible assumption) ?_) | split | trivial | intro _ | dsimp only)

theorem State.scCoreReset_follows {z : State} {s : State} (core : Nat) (hs : z.Follows s) :
    z.Follows (State.scCoreReset s core) := by
  unfold State.scCoreReset
  repeat' (first | with_reducible assumption | with_reducible apply forEach_follows | with_reducible apply State.showMoving_follows | with_reducible apply State.setScore_follows | with_reducible apply State.scKill_follows | with_reducible apply Res.Follows.next | fail_if_no_progress with_reducible apply State.Follows.upd | split | trivial | intro _ | dsimp only)

theorem State.tcBack_follows {z : State} {s : State} (core : Nat) (hs : z.Follows s) :
    z.Follows (State.tcBack s core) := by
  unfold State.tcBack
  repeat' (first | with_reducible assumption | with_reducible apply forUpto_follows | with_reducible apply State.spWatermark_follows | with_reducible apply State.clearMem_follows | with_reducible apply Res.Follows.next | fail_if_no_progress with_reducible apply State.Follows.upd | split | trivial | intro _ | dsimp only)

theorem State.scBack_follows {z : State} {s : State} (core : Nat) (hs : z.Follows s) :
    z.Follows (State.scBack s core) := by
  unfold State.scBack
  repeat' (first | with_reducible assumption | with_reducible apply forUpto_follows | with_reducible apply State.scWatermark_follows | with_reducible apply State.loadImage_follows | with_reducible apply State.clearMem_follows | with_reducible apply Res.Follows.next | fail_if_no_progress with_reducible apply State.Follows.upd | split | trivial | intro _ | dsimp only)

theorem State.panelRefresh_follows {z : State} {s : State} (p : Nat) (hs : z.Follows s) :
    z.Follows (State.panelRefresh s p) := by
  unfold State.panelRefresh
  repeat' (first | with_reducible assumption | with_reducible refine State.Follows.ite (fun _ => ?_) (fun _ => ?_) | with_reducible apply forEach_follows | with_reducible apply State.setFld_follows | with_reducible apply State.clrFld_follows | with_reducible apply Res.Follows.next | fail_if_no_progress with_reducible apply State.Follows.upd | split | trivial | intro _ | dsimp only)

theorem State.centreReset_follows {z : State} {s : State} (hs : z.Follows s) :
    z.Follows (State.centreReset s) := by
  unfold State.centreReset
  repeat' (first | with_reducible assumption | with_reducible apply forUpto_follows | with_reducible apply forEach_follows | with_reducible apply State.setFlag_follows | with_reducible apply State.palClear_follows | with_reducible apply State.seqEaselReset_follows | with_reducible apply State.boardReset_follows | with_reducible apply Res.Follows.next | fail_if_no_progress with_reducible apply State.Follows.upd | split | trivial | intro _ | dsimp only)

theorem State.panelReset_follows {z : State} {s : State} (p : Nat) (hs : z.Follows s) :
    z.Follows (State.panelReset s p) := by
  unfold State.panelReset
  repeat' (first | with_reducible assumption | with_reducible refine State.Follows.ite (fun _ => ?_) (fun _ => ?_) | with_reducible apply forUpto_follows | with_reducible apply forEach_follows | with_reducible apply State.resetChan_follows | with_reducible apply State.consumeRuns_follows | with_reducible apply State.hardPanelReset_follows | with_reducible apply State.embPanelReset_follows | with_reducible apply State.tcCoreReset_follows | with_reducible apply State.scCoreReset_follows | with_reducible apply State.panelRefresh_follows | with_reducible apply State.centreReset_follows | with_reducible apply Res.Follows.next | fail_if_no_progress with_reducible apply State.Follows.upd | split | trivial | intro _ | dsimp only)

theorem State.panelBack_follows {z : State} {s : State} (p : Nat) (hs : z.Follows s) :
    z.Follows (State.panelBack s p) := by
  unfold State.panelBack
  repeat' (first | with_reducible assumption | with_reducible refine State.Follows.ite (fun _ => ?_) (fun _ => ?_) | with_reducible apply forUpto_follows | with_reducible apply forEach_follows | with_reducible apply State.setFld_follows | with_reducible apply State.clrFld_follows | with_reducible apply State.tcBack_follows | with_reducible apply State.scBack_follows | with_reducible apply Res.Follows.next | fail_if_no_progress with_reducible apply State.Follows.upd | split | trivial | intro _ | dsimp only)

theorem State.ioDieReset_follows {z : State} {s : State} (d : Nat) (hs : z.Follows s) :
    z.Follows (State.ioDieReset s d) := by
  unfold State.ioDieReset
  repeat' (first | with_reducible assumption | with_reducible refine State.Follows.ite (fun _ => ?_) (fun _ => ?_) | with_reducible apply forUpto_follows | with_reducible apply State.setFld_follows | with_reducible apply State.setFlag_follows | with_reducible apply State.yzReroute_follows | with_reducible apply State.setLink_follows | with_reducible apply State.cxlReset_follows | with_reducible apply Res.Follows.next | fail_if_no_progress with_reducible apply State.Follows.upd | split | trivial | intro _ | dsimp only)

end Sys2Proof.Machine
end

