-- ==== Sys2Proof/Laws/CxlFollows.lean ====
section
/-! SUPPORT. Laws/CxlFollows.lean: every operation of Machine/Cxl.lean follows: what it does to the queue, the outputs, the draw counter and the invariant (Safety.lean). -/
set_option linter.unusedVariables false
set_option linter.unreachableTactic false
set_option linter.unusedTactic false
namespace Sys2Proof.Machine

open Sys2Proof

theorem State.hostBack_follows {z : State} {s : State} (hs : z.Follows s) :
    z.Follows (State.hostBack s) := by
  unfold State.hostBack
  repeat' (first | with_reducible assumption | with_reducible apply forEach_follows | with_reducible apply State.deliver_follows | with_reducible apply State.flushOut_follows | with_reducible apply Res.Follows.next | fail_if_no_progress with_reducible apply State.Follows.upd | split | trivial | intro _ | dsimp only)

theorem execCxlLinkTraining_follows {z : State} (rate : Fin 4) (width : Fin 17) (flit256 : Bool) (lopt : Bool) {s : State} (hs : z.Follows s) :
    Res.Follows z (execCxlLinkTraining rate width flit256 lopt s) := by
  unfold execCxlLinkTraining
  repeat' (first | with_reducible assumption | with_reducible refine Res.Follows.ite (fun _ => ?_) (fun _ => ?_) | with_reducible refine State.Follows.ite (fun _ => ?_) (fun _ => ?_) | with_reducible apply State.setFld_follows | with_reducible apply State.setFlag_follows | with_reducible apply State.incSat_follows | with_reducible apply State.hostBack_follows | with_reducible apply Res.Follows.next | fail_if_no_progress with_reducible apply State.Follows.upd | split | trivial | intro _ | dsimp only)

theorem execVfEnable_follows {z : State} (num : Nat) {s : State} (hs : z.Follows s) :
    Res.Follows z (execVfEnable num s) := by
  unfold execVfEnable
  repeat' (first | with_reducible assumption | with_reducible refine Res.Follows.ite (fun _ => ?_) (fun _ => ?_) | with_reducible refine State.Follows.ite (fun _ => ?_) (fun _ => ?_) | with_reducible apply forEach_follows | with_reducible apply State.unholdEasel_follows | with_reducible apply Res.Follows.next | fail_if_no_progress with_reducible apply State.Follows.upd | split | trivial | intro _ | dsimp only)

theorem State.vfOff_follows {z : State} {s : State} (hs : z.Follows s) :
    z.Follows (State.vfOff s) := by
  unfold State.vfOff
  repeat' (first | with_reducible assumption | with_reducible apply State.holdAll_follows | with_reducible apply Res.Follows.next | fail_if_no_progress with_reducible apply State.Follows.upd | split | trivial | intro _ | dsimp only)

theorem execVfDisable_follows {z : State} {s : State} (hs : z.Follows s) :
    Res.Follows z (execVfDisable s) := by
  unfold execVfDisable
  repeat' (first | with_reducible assumption | with_reducible apply State.vfOff_follows | with_reducible apply Res.Follows.next | fail_if_no_progress with_reducible apply State.Follows.upd | split | trivial | intro _ | dsimp only)

theorem execVfFlr_follows {z : State} (n : Fin 64) {s : State} (hs : z.Follows s) :
    Res.Follows z (execVfFlr n s) := by
  unfold execVfFlr
  repeat' (first | with_reducible assumption | with_reducible refine Res.Follows.ite (fun _ => ?_) (fun _ => ?_) | with_reducible refine State.Follows.ite (fun _ => ?_) (fun _ => ?_) | with_reducible apply State.incSat_follows | with_reducible apply State.holdEasel_follows | with_reducible apply Res.Follows.next | fail_if_no_progress with_reducible apply State.Follows.upd | split | trivial | intro _ | dsimp only)

theorem execPfFlr_follows {z : State} {s : State} (hs : z.Follows s) :
    Res.Follows z (execPfFlr s) := by
  unfold execPfFlr
  repeat' (first | with_reducible assumption | with_reducible apply State.setFlag_follows | with_reducible apply State.incSat_follows | with_reducible apply State.dropFapi_follows | with_reducible apply State.vfOff_follows | with_reducible apply Res.Follows.next | fail_if_no_progress with_reducible apply State.Follows.upd | split | trivial | intro _ | dsimp only)

theorem execAtsInvalidation_follows {z : State} (fn : Fin 64) (pages : List Nat) (refused : List Nat) {s : State} (hs : z.Follows s) :
    Res.Follows z (execAtsInvalidation fn pages refused s) := by
  unfold execAtsInvalidation
  repeat' (first | with_reducible assumption | with_reducible apply forEach_follows | with_reducible apply State.incWrap_follows | with_reducible apply State.hostBack_follows | with_reducible apply Res.Follows.next | fail_if_no_progress with_reducible apply State.Follows.upd | split | trivial | intro _ | dsimp only)

theorem execDlDown_follows {z : State} {s : State} (hs : z.Follows s) :
    Res.Follows z (execDlDown s) := by
  unfold execDlDown
  repeat' (first | with_reducible assumption | with_reducible refine Res.Follows.ite (fun _ => ?_) (fun _ => ?_) | with_reducible refine State.Follows.ite (fun _ => ?_) (fun _ => ?_) | with_reducible apply State.incSat_follows | with_reducible apply State.chipReset_follows | with_reducible apply State.hostReset_follows | with_reducible apply State.hostRelease_follows | with_reducible apply Res.Follows.next | fail_if_no_progress with_reducible apply State.Follows.upd | split | trivial | intro _ | dsimp only)

theorem execConfigRequest_follows {z : State} (fn : Fin 64) {s : State} (hs : z.Follows s) :
    Res.Follows z (execConfigRequest fn s) := by
  unfold execConfigRequest
  repeat' (first | with_reducible assumption | with_reducible refine Res.Follows.ite (fun _ => ?_) (fun _ => ?_) | with_reducible refine State.Follows.ite (fun _ => ?_) (fun _ => ?_) | with_reducible apply State.emit_follows | with_reducible apply Res.Follows.next | fail_if_no_progress with_reducible apply State.Follows.upd | split | trivial | intro _ | dsimp only)

theorem State.memRefuse_follows {z : State} {s : State} (e : Nat) (read : Option Nat) (hs : z.Follows s) :
    z.Follows (State.memRefuse s e read) := by
  unfold State.memRefuse
  repeat' (first | with_reducible assumption | with_reducible apply State.emit_follows | with_reducible apply State.incSat_follows | with_reducible apply Res.Follows.next | fail_if_no_progress with_reducible apply State.Follows.upd | split | trivial | intro _ | dsimp only)

theorem execCxlMemRequest_follows {z : State} (easel : Fin 64) (off : Nat) (acc : CxlMemOp) (ecc : Option EccEvent) {s : State} (hs : z.Follows s) :
    Res.Follows z (execCxlMemRequest easel off acc ecc s) := by
  unfold execCxlMemRequest
  repeat' (first | with_reducible assumption | with_reducible refine Res.Follows.ite (fun _ => ?_) (fun _ => ?_) | with_reducible refine State.Follows.ite (fun _ => ?_) (fun _ => ?_) | with_reducible apply State.emit_follows | with_reducible apply State.incSat_follows | with_reducible apply State.countUnits_follows | with_reducible apply State.usageFault_follows | with_reducible apply State.refuseShare_follows | with_reducible apply State.bondLoad_follows | with_reducible apply State.bondStore_follows | with_reducible apply State.memRefuse_follows | with_reducible apply Res.Follows.next | fail_if_no_progress with_reducible apply State.Follows.upd | split | trivial | intro _ | dsimp only)

theorem execMsiModerationTimer_follows {z : State} (easel : Fin 64) (vec : Fin 2) {s : State} (hs : z.Follows s) :
    Res.Follows z (execMsiModerationTimer easel vec s) := by
  unfold execMsiModerationTimer
  repeat' (first | with_reducible assumption | with_reducible refine Res.Follows.ite (fun _ => ?_) (fun _ => ?_) | with_reducible refine State.Follows.ite (fun _ => ?_) (fun _ => ?_) | with_reducible apply State.fire_follows | with_reducible apply Res.Follows.next | fail_if_no_progress with_reducible apply State.Follows.upd | split | trivial | intro _ | dsimp only)

theorem execMsixVectorUnmask_follows {z : State} (fn : Fin 64) (vec : Fin 72) {s : State} (hs : z.Follows s) :
    Res.Follows z (execMsixVectorUnmask fn vec s) := by
  unfold execMsixVectorUnmask
  repeat' (first | with_reducible assumption | with_reducible refine Res.Follows.ite (fun _ => ?_) (fun _ => ?_) | with_reducible refine State.Follows.ite (fun _ => ?_) (fun _ => ?_) | with_reducible apply State.toHost_follows | with_reducible apply Res.Follows.next | fail_if_no_progress with_reducible apply State.Follows.upd | split | trivial | intro _ | dsimp only)

theorem State.setIde_follows {z : State} {s : State} (k : Nat) (b : Bool) (hs : z.Follows s) :
    z.Follows (State.setIde s k b) := by
  unfold State.setIde
  repeat' (first | with_reducible assumption | with_reducible apply State.setFlag_follows | with_reducible apply Res.Follows.next | fail_if_no_progress with_reducible apply State.Follows.upd | split | trivial | intro _ | dsimp only)

theorem execIdeFailure_follows {z : State} (stream : Fin 4) {s : State} (hs : z.Follows s) :
    Res.Follows z (execIdeFailure stream s) := by
  unfold execIdeFailure
  repeat' (first | with_reducible assumption | with_reducible refine Res.Follows.ite (fun _ => ?_) (fun _ => ?_) | with_reducible refine State.Follows.ite (fun _ => ?_) (fun _ => ?_) | with_reducible apply State.incSat_follows | with_reducible apply State.detect_follows | with_reducible apply State.inject_follows | with_reducible apply State.setIde_follows | with_reducible apply Res.Follows.next | fail_if_no_progress with_reducible apply State.Follows.upd | (with_reducible refine State.Follows.of_snd (by with_reducible assumption) ?_) | (with_reducible refine State.Follows.of_fst (by with_reducible assumption) ?_) | (with_reducible refine State.Follows.of_trd (by with_reducible assumption) ?_) | split | trivial | intro _ | dsimp only)

theorem execIdeRequire_follows {z : State} (req : Requester) {s : State} (hs : z.Follows s) :
    Res.Follows z (execIdeRequire req s) := by
  unfold execIdeRequire
  repeat' (first | with_reducible assumption | with_reducible refine Res.Follows.ite (fun _ => ?_) (fun _ => ?_) | with_reducible refine State.Follows.ite (fun _ => ?_) (fun _ => ?_) | with_reducible apply State.setFlag_follows | with_reducible apply State.access_follows | with_reducible apply Res.Follows.next | fail_if_no_progress with_reducible apply State.Follows.upd | split | trivial | intro _ | dsimp only)

end Sys2Proof.Machine
end

