-- ==== Sys2Proof/Laws/PowerFollows.lean ====
section
/-! SUPPORT. Laws/PowerFollows.lean: every operation of Machine/Power.lean follows: what it does to the queue, the outputs, the draw counter and the invariant (Safety.lean). -/
set_option linter.unusedVariables false
set_option linter.unreachableTactic false
set_option linter.unusedTactic false
namespace Sys2Proof.Machine

open Sys2Proof

theorem State.setTcPower_follows {z : State} {s : State} (core : Nat) (v : Nat) (hs : z.Follows s) :
    z.Follows (State.setTcPower s core v) := by
  unfold State.setTcPower
  repeat' (first | with_reducible assumption | with_reducible apply State.setFld_follows | with_reducible apply Res.Follows.next | fail_if_no_progress with_reducible apply State.Follows.upd | split | trivial | intro _ | dsimp only)

theorem execTcClockGate_follows {z : State} (core : Fin 48) {s : State} (hs : z.Follows s) :
    Res.Follows z (execTcClockGate core s) := by
  unfold execTcClockGate
  repeat' (first | with_reducible assumption | with_reducible refine Res.Follows.ite (fun _ => ?_) (fun _ => ?_) | with_reducible refine State.Follows.ite (fun _ => ?_) (fun _ => ?_) | with_reducible apply State.setTcPower_follows | with_reducible apply Res.Follows.next | fail_if_no_progress with_reducible apply State.Follows.upd | split | trivial | intro _ | dsimp only)

theorem execTcPowerGate_follows {z : State} (core : Fin 48) {s : State} (hs : z.Follows s) :
    Res.Follows z (execTcPowerGate core s) := by
  unfold execTcPowerGate
  repeat' (first | with_reducible assumption | with_reducible refine Res.Follows.ite (fun _ => ?_) (fun _ => ?_) | with_reducible refine State.Follows.ite (fun _ => ?_) (fun _ => ?_) | with_reducible apply State.setTcore_follows | with_reducible apply State.setTcPower_follows | with_reducible apply Res.Follows.next | fail_if_no_progress with_reducible apply State.Follows.upd | split | trivial | intro _ | dsimp only)

theorem execStackSelfRefreshEntry_follows {z : State} (stack : Fin 18) {s : State} (hs : z.Follows s) :
    Res.Follows z (execStackSelfRefreshEntry stack s) := by
  unfold execStackSelfRefreshEntry
  repeat' (first | with_reducible assumption | with_reducible refine Res.Follows.ite (fun _ => ?_) (fun _ => ?_) | with_reducible refine State.Follows.ite (fun _ => ?_) (fun _ => ?_) | with_reducible apply State.setFld_follows | with_reducible apply State.orFld_follows | with_reducible apply Res.Follows.next | fail_if_no_progress with_reducible apply State.Follows.upd | split | trivial | intro _ | dsimp only)

theorem execLaneSleep_follows {z : State} (link : Fin 16) {s : State} (hs : z.Follows s) :
    Res.Follows z (execLaneSleep link s) := by
  unfold execLaneSleep
  repeat' (first | with_reducible assumption | with_reducible refine Res.Follows.ite (fun _ => ?_) (fun _ => ?_) | with_reducible refine State.Follows.ite (fun _ => ?_) (fun _ => ?_) | with_reducible apply State.orFld_follows | with_reducible apply Res.Follows.next | fail_if_no_progress with_reducible apply State.Follows.upd | split | trivial | intro _ | dsimp only)

theorem State.startWake_follows {z : State} {s : State} (r : Nat) (hs : z.Follows s) :
    z.Follows (State.startWake s r) := by
  unfold State.startWake
  repeat' (first | with_reducible assumption | with_reducible refine State.Follows.ite (fun _ => ?_) (fun _ => ?_) | with_reducible apply Res.Follows.next | fail_if_no_progress with_reducible apply State.Follows.upd | split | trivial | intro _ | dsimp only)

theorem execPowerWake_follows {z : State} (res : PowRes) (peer : Bool) {s : State} (hs : z.Follows s) :
    Res.Follows z (execPowerWake res peer s) := by
  unfold execPowerWake
  repeat' (first | with_reducible assumption | with_reducible refine Res.Follows.ite (fun _ => ?_) (fun _ => ?_) | with_reducible refine State.Follows.ite (fun _ => ?_) (fun _ => ?_) | with_reducible apply State.startWake_follows | with_reducible apply Res.Follows.next | fail_if_no_progress with_reducible apply State.Follows.upd | split | trivial | intro _ | dsimp only)

theorem State.countWaits_follows {z : State} {s : State} (core : Nat) (hs : z.Follows s) :
    z.Follows (State.countWaits s core) := by
  unfold State.countWaits
  repeat' (first | with_reducible assumption | with_reducible apply forEach_follows | with_reducible apply State.incSat_follows | with_reducible apply Res.Follows.next | fail_if_no_progress with_reducible apply State.Follows.upd | split | trivial | intro _ | dsimp only)

theorem State.endWake_follows {z : State} {s : State} (r : Nat) (hs : z.Follows s) :
    z.Follows (State.endWake s r) := by
  unfold State.endWake
  repeat' (first | with_reducible assumption | with_reducible refine State.Follows.ite (fun _ => ?_) (fun _ => ?_) | with_reducible apply State.setFld_follows | with_reducible apply State.clrFld_follows | with_reducible apply State.incWrap_follows | with_reducible apply State.setTcPower_follows | with_reducible apply State.countWaits_follows | with_reducible apply Res.Follows.next | fail_if_no_progress with_reducible apply State.Follows.upd | split | trivial | intro _ | dsimp only)

theorem execWakeExitDone_follows {z : State} (res : PowRes) {s : State} (hs : z.Follows s) :
    Res.Follows z (execWakeExitDone res s) := by
  unfold execWakeExitDone
  repeat' (first | with_reducible assumption | with_reducible refine Res.Follows.ite (fun _ => ?_) (fun _ => ?_) | with_reducible refine State.Follows.ite (fun _ => ?_) (fun _ => ?_) | with_reducible apply State.endWake_follows | with_reducible apply Res.Follows.next | fail_if_no_progress with_reducible apply State.Follows.upd | split | trivial | intro _ | dsimp only)

theorem State.wakeOver_follows {z : State} {s : State} (hs : z.Follows s) :
    z.Follows (State.wakeOver s) := by
  unfold State.wakeOver
  repeat' (first | with_reducible assumption | with_reducible refine State.Follows.ite (fun _ => ?_) (fun _ => ?_) | with_reducible apply forEach_follows | with_reducible apply State.startWake_follows | with_reducible apply Res.Follows.next | fail_if_no_progress with_reducible apply State.Follows.upd | split | trivial | intro _ | dsimp only)

theorem State.wakeDue_follows {z : State} {s : State} (hs : z.Follows s) :
    z.Follows (State.wakeDue s) := by
  unfold State.wakeDue
  repeat' (first | with_reducible assumption | with_reducible refine State.Follows.ite (fun _ => ?_) (fun _ => ?_) | with_reducible apply forUpto_follows | with_reducible apply State.startWake_follows | with_reducible apply State.wakeOver_follows | with_reducible apply Res.Follows.next | fail_if_no_progress with_reducible apply State.Follows.upd | split | trivial | intro _ | dsimp only)

theorem State.writeWake_follows {z : State} {s : State} (req : Requester) (e : Nat) (us : Nat) (hs : z.Follows s) :
    z.Follows (State.writeWake s req e us) := by
  unfold State.writeWake
  repeat' (first | with_reducible assumption | with_reducible refine State.Follows.ite (fun _ => ?_) (fun _ => ?_) | with_reducible apply State.setFld_follows | with_reducible apply State.wakeOver_follows | with_reducible apply Res.Follows.next | fail_if_no_progress with_reducible apply State.Follows.upd | split | trivial | intro _ | dsimp only)

theorem execWakeBudgetWrite_follows {z : State} (req : Requester) (us : BitVec 16) {s : State} (hs : z.Follows s) :
    Res.Follows z (execWakeBudgetWrite req us s) := by
  unfold execWakeBudgetWrite
  repeat' (first | with_reducible assumption | with_reducible apply State.access_follows | with_reducible apply State.writeWake_follows | with_reducible apply Res.Follows.next | fail_if_no_progress with_reducible apply State.Follows.upd | split | trivial | intro _ | dsimp only)

theorem State.setDrive_follows {z : State} {s : State} (d : Nat) (hs : z.Follows s) :
    z.Follows (State.setDrive s d) := by
  unfold State.setDrive
  repeat' (first | with_reducible assumption | with_reducible apply State.setFld_follows | with_reducible apply Res.Follows.next | fail_if_no_progress with_reducible apply State.Follows.upd | split | trivial | intro _ | dsimp only)

theorem execDriveAdjust_follows {z : State} {s : State} (hs : z.Follows s) :
    Res.Follows z (execDriveAdjust s) := by
  unfold execDriveAdjust
  repeat' (first | with_reducible assumption | with_reducible refine Res.Follows.ite (fun _ => ?_) (fun _ => ?_) | with_reducible refine State.Follows.ite (fun _ => ?_) (fun _ => ?_) | with_reducible apply State.setDrive_follows | with_reducible apply Res.Follows.next | fail_if_no_progress with_reducible apply State.Follows.upd | split | trivial | intro _ | dsimp only)

theorem State.escalate_follows {z : State} {s : State} (injected : Bool) (hs : z.Follows s) :
    z.Follows (State.escalate s injected) := by
  unfold State.escalate
  repeat' (first | with_reducible assumption | with_reducible refine State.Follows.ite (fun _ => ?_) (fun _ => ?_) | with_reducible apply State.setFlag_follows | with_reducible apply State.incSat_follows | with_reducible apply State.detect_follows | with_reducible apply State.setDrive_follows | with_reducible apply Res.Follows.next | fail_if_no_progress with_reducible apply State.Follows.upd | split | trivial | intro _ | dsimp only)

theorem execEscalationEnd_follows {z : State} {s : State} (hs : z.Follows s) :
    Res.Follows z (execEscalationEnd s) := by
  unfold execEscalationEnd
  repeat' (first | with_reducible assumption | with_reducible refine Res.Follows.ite (fun _ => ?_) (fun _ => ?_) | with_reducible refine State.Follows.ite (fun _ => ?_) (fun _ => ?_) | with_reducible apply State.setFlag_follows | with_reducible apply Res.Follows.next | fail_if_no_progress with_reducible apply State.Follows.upd | split | trivial | intro _ | dsimp only)

theorem execPumpFailure_follows {z : State} (rpm : BitVec 16) {s : State} (hs : z.Follows s) :
    Res.Follows z (execPumpFailure rpm s) := by
  unfold execPumpFailure
  repeat' (first | with_reducible assumption | with_reducible refine Res.Follows.ite (fun _ => ?_) (fun _ => ?_) | with_reducible refine State.Follows.ite (fun _ => ?_) (fun _ => ?_) | with_reducible apply State.setFld_follows | with_reducible apply State.setFlag_follows | with_reducible apply State.incSat_follows | with_reducible apply State.detect_follows | with_reducible apply State.inject_follows | with_reducible apply State.setDrive_follows | with_reducible apply Res.Follows.next | fail_if_no_progress with_reducible apply State.Follows.upd | (with_reducible refine State.Follows.of_snd (by with_reducible assumption) ?_) | (with_reducible refine State.Follows.of_fst (by with_reducible assumption) ?_) | (with_reducible refine State.Follows.of_trd (by with_reducible assumption) ?_) | split | trivial | intro _ | dsimp only)

theorem execPumpFailClear_follows {z : State} (req : Requester) {s : State} (hs : z.Follows s) :
    Res.Follows z (execPumpFailClear req s) := by
  unfold execPumpFailClear
  repeat' (first | with_reducible assumption | with_reducible refine Res.Follows.ite (fun _ => ?_) (fun _ => ?_) | with_reducible refine State.Follows.ite (fun _ => ?_) (fun _ => ?_) | with_reducible apply State.setFlag_follows | with_reducible apply State.access_follows | with_reducible apply Res.Follows.next | fail_if_no_progress with_reducible apply State.Follows.upd | split | trivial | intro _ | dsimp only)

theorem State.thermalTrip_follows {z : State} {s : State} (source : Nat) (temp : Nat) (injected : Bool) (hs : z.Follows s) :
    z.Follows (State.thermalTrip s source temp injected) := by
  unfold State.thermalTrip
  repeat' (first | with_reducible assumption | with_reducible apply State.setFld_follows | with_reducible apply State.chipReset_follows | with_reducible apply State.resetFaultBy_follows | with_reducible apply Res.Follows.next | fail_if_no_progress with_reducible apply State.Follows.upd | split | trivial | intro _ | dsimp only)

theorem State.thermal_follows {z : State} {s : State} (det : Nat) (unitKind : Nat) (unit : Nat) (holds : Bool) (hs : z.Follows s) :
    z.Follows (State.thermal s det unitKind unit holds) := by
  unfold State.thermal
  repeat' (first | with_reducible assumption | with_reducible refine State.Follows.ite (fun _ => ?_) (fun _ => ?_) | with_reducible apply State.detect_follows | with_reducible apply State.inject_follows | with_reducible apply Res.Follows.next | fail_if_no_progress with_reducible apply State.Follows.upd | (with_reducible refine State.Follows.of_snd (by with_reducible assumption) ?_) | (with_reducible refine State.Follows.of_fst (by with_reducible assumption) ?_) | (with_reducible refine State.Follows.of_trd (by with_reducible assumption) ?_) | split | trivial | intro _ | dsimp only)

theorem State.readDie_follows {z : State} {s : State} (i : Nat) (t : Nat) (hs : z.Follows s) :
    z.Follows (State.readDie s i t) := by
  unfold State.readDie
  repeat' (first | with_reducible assumption | with_reducible refine State.Follows.ite (fun _ => ?_) (fun _ => ?_) | with_reducible apply State.setFld_follows | with_reducible apply Res.Follows.next | fail_if_no_progress with_reducible apply State.Follows.upd | split | trivial | intro _ | dsimp only)

theorem State.showDie_follows {z : State} {s : State} (temps : Nat → Nat) (hs : z.Follows s) :
    z.Follows (State.showDie s temps) := by
  unfold State.showDie
  repeat' (first | with_reducible assumption | with_reducible apply forUpto_follows | with_reducible apply State.setFld_follows | with_reducible apply Res.Follows.next | fail_if_no_progress with_reducible apply State.Follows.upd | with_reducible apply foldl_follows | with_reducible apply foldl_fst_follows | with_reducible apply foldl_snd_follows | with_reducible apply foldl_trd_follows | split | trivial | intro _ | dsimp only)

theorem execDieSensorReading_follows {z : State} (temps : List Nat) (bad : List Nat) {s : State} (hs : z.Follows s) :
    Res.Follows z (execDieSensorReading temps bad s) := by
  unfold execDieSensorReading
  repeat' (first | with_reducible assumption | with_reducible refine Res.Follows.ite (fun _ => ?_) (fun _ => ?_) | with_reducible refine State.Follows.ite (fun _ => ?_) (fun _ => ?_) | with_reducible apply forUpto_follows | with_reducible apply forEach_follows | with_reducible apply State.detect_follows | with_reducible apply State.inject_follows | with_reducible apply State.thermalTrip_follows | with_reducible apply State.thermal_follows | with_reducible apply State.readDie_follows | with_reducible apply State.showDie_follows | with_reducible apply Res.Follows.next | fail_if_no_progress with_reducible apply State.Follows.upd | (with_reducible refine State.Follows.of_snd (by with_reducible assumption) ?_) | (with_reducible refine State.Follows.of_fst (by with_reducible assumption) ?_) | (with_reducible refine State.Follows.of_trd (by with_reducible assumption) ?_) | split | trivial | intro _ | dsimp only)

theorem execStackTempReading_follows {z : State} (stack : Fin 18) (temp : Nat) (bad : Bool) {s : State} (hs : z.Follows s) :
    Res.Follows z (execStackTempReading stack temp bad s) := by
  unfold execStackTempReading
  repeat' (first | with_reducible assumption | with_reducible refine Res.Follows.ite (fun _ => ?_) (fun _ => ?_) | with_reducible refine State.Follows.ite (fun _ => ?_) (fun _ => ?_) | with_reducible apply State.setFld_follows | with_reducible apply State.aimRate_follows | with_reducible apply State.escalate_follows | with_reducible apply State.thermalTrip_follows | with_reducible apply State.thermal_follows | with_reducible apply Res.Follows.next | fail_if_no_progress with_reducible apply State.Follows.upd | split | trivial | intro _ | dsimp only)

theorem State.coolantLost_follows {z : State} {s : State} (det : Nat) (injected : Bool) (hs : z.Follows s) :
    z.Follows (State.coolantLost s det injected) := by
  unfold State.coolantLost
  repeat' (first | with_reducible assumption | with_reducible apply State.setFlag_follows | with_reducible apply State.incSat_follows | with_reducible apply State.detect_follows | with_reducible apply Res.Follows.next | fail_if_no_progress with_reducible apply State.Follows.upd | split | trivial | intro _ | dsimp only)

theorem State.readCoolant_follows {z : State} {s : State} (det : Nat) (f : Fld) (t : Nat) (hs : z.Follows s) :
    z.Follows (State.readCoolant s det f t) := by
  unfold State.readCoolant
  repeat' (first | with_reducible assumption | with_reducible refine State.Follows.ite (fun _ => ?_) (fun _ => ?_) | with_reducible apply State.setFld_follows | with_reducible apply State.inject_follows | with_reducible apply State.coolantLost_follows | with_reducible apply Res.Follows.next | fail_if_no_progress with_reducible apply State.Follows.upd | (with_reducible refine State.Follows.of_snd (by with_reducible assumption) ?_) | (with_reducible refine State.Follows.of_fst (by with_reducible assumption) ?_) | (with_reducible refine State.Follows.of_trd (by with_reducible assumption) ?_) | split | trivial | intro _ | dsimp only)

theorem execCoolantReading_follows {z : State} (inlet : Nat) (outlet : Nat) {s : State} (hs : z.Follows s) :
    Res.Follows z (execCoolantReading inlet outlet s) := by
  unfold execCoolantReading
  repeat' (first | with_reducible assumption | with_reducible refine Res.Follows.ite (fun _ => ?_) (fun _ => ?_) | with_reducible refine State.Follows.ite (fun _ => ?_) (fun _ => ?_) | with_reducible apply State.setFlag_follows | with_reducible apply State.readCoolant_follows | with_reducible apply Res.Follows.next | fail_if_no_progress with_reducible apply State.Follows.upd | split | trivial | intro _ | dsimp only)

theorem execCoolantSensorLoss_follows {z : State} (outlet : Bool) {s : State} (hs : z.Follows s) :
    Res.Follows z (execCoolantSensorLoss outlet s) := by
  unfold execCoolantSensorLoss
  repeat' (first | with_reducible assumption | with_reducible refine Res.Follows.ite (fun _ => ?_) (fun _ => ?_) | with_reducible refine State.Follows.ite (fun _ => ?_) (fun _ => ?_) | with_reducible apply State.coolantLost_follows | with_reducible apply Res.Follows.next | fail_if_no_progress with_reducible apply State.Follows.upd | split | trivial | intro _ | dsimp only)

theorem State.notePrad_follows {z : State} {s : State} (prad : List Nat) (hs : z.Follows s) :
    z.Follows (State.notePrad s prad) := by
  unfold State.notePrad
  repeat' (first | with_reducible assumption | with_reducible apply forUpto_follows | with_reducible apply State.setFld_follows | with_reducible apply Res.Follows.next | fail_if_no_progress with_reducible apply State.Follows.upd | with_reducible apply foldl_follows | with_reducible apply foldl_fst_follows | with_reducible apply foldl_snd_follows | with_reducible apply foldl_trd_follows | split | trivial | intro _ | dsimp only)

theorem State.showPred_follows {z : State} {s : State} (n : Nat) (hs : z.Follows s) :
    z.Follows (State.showPred s n) := by
  unfold State.showPred
  repeat' (first | with_reducible assumption | with_reducible refine State.Follows.ite (fun _ => ?_) (fun _ => ?_) | with_reducible apply forUpto_follows | with_reducible apply State.setFld_follows | with_reducible apply Res.Follows.next | fail_if_no_progress with_reducible apply State.Follows.upd | with_reducible apply foldl_follows | with_reducible apply foldl_fst_follows | with_reducible apply foldl_snd_follows | with_reducible apply foldl_trd_follows | split | trivial | intro _ | dsimp only)

theorem State.judgeEscalation_follows {z : State} {s : State} (hs : z.Follows s) :
    z.Follows (State.judgeEscalation s) := by
  unfold State.judgeEscalation
  repeat' (first | with_reducible assumption | with_reducible refine State.Follows.ite (fun _ => ?_) (fun _ => ?_) | with_reducible apply State.inject_follows | with_reducible apply State.escalate_follows | with_reducible apply Res.Follows.next | fail_if_no_progress with_reducible apply State.Follows.upd | (with_reducible refine State.Follows.of_snd (by with_reducible assumption) ?_) | (with_reducible refine State.Follows.of_fst (by with_reducible assumption) ?_) | (with_reducible refine State.Follows.of_trd (by with_reducible assumption) ?_) | split | trivial | intro _ | dsimp only)

theorem State.setAdmission_follows {z : State} {s : State} (est : Nat) (hs : z.Follows s) :
    z.Follows (State.setAdmission s est) := by
  unfold State.setAdmission
  repeat' (first | with_reducible assumption | with_reducible refine State.Follows.ite (fun _ => ?_) (fun _ => ?_) | with_reducible apply State.setFld_follows | with_reducible apply State.setFlag_follows | with_reducible apply Res.Follows.next | fail_if_no_progress with_reducible apply State.Follows.upd | with_reducible apply foldl_follows | with_reducible apply foldl_fst_follows | with_reducible apply foldl_snd_follows | with_reducible apply foldl_trd_follows | split | trivial | intro _ | dsimp only)

theorem execAdmissionEvaluate_follows {z : State} (est : Nat) (prad : List Nat) {s : State} (hs : z.Follows s) :
    Res.Follows z (execAdmissionEvaluate est prad s) := by
  unfold execAdmissionEvaluate
  repeat' (first | with_reducible assumption | with_reducible refine Res.Follows.ite (fun _ => ?_) (fun _ => ?_) | with_reducible refine State.Follows.ite (fun _ => ?_) (fun _ => ?_) | with_reducible apply State.setFld_follows | with_reducible apply State.admitBuilds_follows | with_reducible apply State.notePrad_follows | with_reducible apply State.showPred_follows | with_reducible apply State.judgeEscalation_follows | with_reducible apply State.setAdmission_follows | with_reducible apply Res.Follows.next | fail_if_no_progress with_reducible apply State.Follows.upd | split | trivial | intro _ | dsimp only)

theorem execHoldupSample_follows {z : State} (mv : BitVec 16) {s : State} (hs : z.Follows s) :
    Res.Follows z (execHoldupSample mv s) := by
  unfold execHoldupSample
  repeat' (first | with_reducible assumption | with_reducible refine Res.Follows.ite (fun _ => ?_) (fun _ => ?_) | with_reducible refine State.Follows.ite (fun _ => ?_) (fun _ => ?_) | with_reducible apply State.setFld_follows | with_reducible apply State.setFlag_follows | with_reducible apply State.incSat_follows | with_reducible apply State.detect_follows | with_reducible apply State.inject_follows | with_reducible apply Res.Follows.next | fail_if_no_progress with_reducible apply State.Follows.upd | (with_reducible refine State.Follows.of_snd (by with_reducible assumption) ?_) | (with_reducible refine State.Follows.of_fst (by with_reducible assumption) ?_) | (with_reducible refine State.Follows.of_trd (by with_reducible assumption) ?_) | split | trivial | intro _ | dsimp only)

end Sys2Proof.Machine
end

