-- ==== Sys2Proof/Laws/ResetFollows.lean ====
section
/-! SUPPORT. Laws/ResetFollows.lean: every operation of Machine/Reset.lean follows: what it does to the queue, the outputs, the draw counter and the invariant (Safety.lean). -/
set_option linter.unusedVariables false
set_option linter.unreachableTactic false
set_option linter.unusedTactic false
namespace Sys2Proof.Machine

open Sys2Proof

theorem execPowerOnReset_follows {z : State} {s : State} (hs : z.Follows s) :
    Res.Follows z (execPowerOnReset s) := by
  unfold execPowerOnReset
  repeat' (first | with_reducible assumption | with_reducible apply State.chipReset_follows | with_reducible apply Res.Follows.next | fail_if_no_progress with_reducible apply State.Follows.upd | split | trivial | intro _ | dsimp only)

theorem execCardResetAssert_follows {z : State} {s : State} (hs : z.Follows s) :
    Res.Follows z (execCardResetAssert s) := by
  unfold execCardResetAssert
  repeat' (first | with_reducible assumption | with_reducible refine Res.Follows.ite (fun _ => ?_) (fun _ => ?_) | with_reducible refine State.Follows.ite (fun _ => ?_) (fun _ => ?_) | with_reducible apply State.chipReset_follows | with_reducible apply Res.Follows.next | fail_if_no_progress with_reducible apply State.Follows.upd | split | trivial | intro _ | dsimp only)

theorem execCardResetRelease_follows {z : State} {s : State} (hs : z.Follows s) :
    Res.Follows z (execCardResetRelease s) := by
  unfold execCardResetRelease
  repeat' (first | with_reducible assumption | with_reducible refine Res.Follows.ite (fun _ => ?_) (fun _ => ?_) | with_reducible refine State.Follows.ite (fun _ => ?_) (fun _ => ?_) | with_reducible apply State.chipRelease_follows | with_reducible apply Res.Follows.next | fail_if_no_progress with_reducible apply State.Follows.upd | split | trivial | intro _ | dsimp only)

theorem execPerstAssert_follows {z : State} {s : State} (hs : z.Follows s) :
    Res.Follows z (execPerstAssert s) := by
  unfold execPerstAssert
  repeat' (first | with_reducible assumption | with_reducible refine Res.Follows.ite (fun _ => ?_) (fun _ => ?_) | with_reducible refine State.Follows.ite (fun _ => ?_) (fun _ => ?_) | with_reducible apply State.chipReset_follows | with_reducible apply State.hostReset_follows | with_reducible apply Res.Follows.next | fail_if_no_progress with_reducible apply State.Follows.upd | split | trivial | intro _ | dsimp only)

theorem execPerstRelease_follows {z : State} {s : State} (hs : z.Follows s) :
    Res.Follows z (execPerstRelease s) := by
  unfold execPerstRelease
  repeat' (first | with_reducible assumption | with_reducible refine Res.Follows.ite (fun _ => ?_) (fun _ => ?_) | with_reducible refine State.Follows.ite (fun _ => ?_) (fun _ => ?_) | with_reducible apply State.chipRelease_follows | with_reducible apply State.hostRelease_follows | with_reducible apply Res.Follows.next | fail_if_no_progress with_reducible apply State.Follows.upd | split | trivial | intro _ | dsimp only)

theorem execCxlHotReset_follows {z : State} {s : State} (hs : z.Follows s) :
    Res.Follows z (execCxlHotReset s) := by
  unfold execCxlHotReset
  repeat' (first | with_reducible assumption | with_reducible apply State.hotReset_follows | with_reducible apply Res.Follows.next | fail_if_no_progress with_reducible apply State.Follows.upd | split | trivial | intro _ | dsimp only)

theorem execLinkDisable_follows {z : State} {s : State} (hs : z.Follows s) :
    Res.Follows z (execLinkDisable s) := by
  unfold execLinkDisable
  repeat' (first | with_reducible assumption | with_reducible refine Res.Follows.ite (fun _ => ?_) (fun _ => ?_) | with_reducible refine State.Follows.ite (fun _ => ?_) (fun _ => ?_) | with_reducible apply State.chipReset_follows | with_reducible apply State.hostReset_follows | with_reducible apply Res.Follows.next | fail_if_no_progress with_reducible apply State.Follows.upd | split | trivial | intro _ | dsimp only)

theorem execLinkReenable_follows {z : State} {s : State} (hs : z.Follows s) :
    Res.Follows z (execLinkReenable s) := by
  unfold execLinkReenable
  repeat' (first | with_reducible assumption | with_reducible refine Res.Follows.ite (fun _ => ?_) (fun _ => ?_) | with_reducible refine State.Follows.ite (fun _ => ?_) (fun _ => ?_) | with_reducible apply State.chipRelease_follows | with_reducible apply State.hostRelease_follows | with_reducible apply Res.Follows.next | fail_if_no_progress with_reducible apply State.Follows.upd | split | trivial | intro _ | dsimp only)

theorem execDebugReset_follows {z : State} (req : Requester) (value : BitVec 32) {s : State} (hs : z.Follows s) :
    Res.Follows z (execDebugReset req value s) := by
  unfold execDebugReset
  repeat' (first | with_reducible assumption | with_reducible refine Res.Follows.ite (fun _ => ?_) (fun _ => ?_) | with_reducible refine State.Follows.ite (fun _ => ?_) (fun _ => ?_) | with_reducible apply State.access_follows | with_reducible apply State.chipReset_follows | with_reducible apply Res.Follows.next | fail_if_no_progress with_reducible apply State.Follows.upd | split | trivial | intro _ | dsimp only)

theorem State.sample_follows {z : State} {s : State} (det : Nat) (real : Bool) (hs : z.Follows s) :
    z.Follows (State.sample s det real).2 := by
  unfold State.sample
  repeat' (first | with_reducible assumption | with_reducible refine State.Follows.ite_snd (fun _ => ?_) (fun _ => ?_) | with_reducible refine State.Follows.ite (fun _ => ?_) (fun _ => ?_) | with_reducible apply State.inject_follows | with_reducible apply State.resetFaultBy_follows | with_reducible apply Res.Follows.next | fail_if_no_progress with_reducible apply State.Follows.upd | (with_reducible refine State.Follows.of_snd (by with_reducible assumption) ?_) | (with_reducible refine State.Follows.of_fst (by with_reducible assumption) ?_) | (with_reducible refine State.Follows.of_trd (by with_reducible assumption) ?_) | split | trivial | intro _ | dsimp only)

theorem State.samples_follows {z : State} {s : State} (det : Nat) (n : Nat) (real : Nat) (hs : z.Follows s) :
    z.Follows (State.samples s det n real).2 := by
  unfold State.samples
  repeat' (first | with_reducible assumption | with_reducible refine State.Follows.ite_snd (fun _ => ?_) (fun _ => ?_) | with_reducible refine State.Follows.ite (fun _ => ?_) (fun _ => ?_) | with_reducible apply State.sample_follows | with_reducible apply Res.Follows.next | fail_if_no_progress with_reducible apply State.Follows.upd | with_reducible apply foldl_follows | with_reducible apply foldl_fst_follows | with_reducible apply foldl_snd_follows | with_reducible apply foldl_trd_follows | (with_reducible refine State.Follows.of_snd (by with_reducible assumption) ?_) | (with_reducible refine State.Follows.of_fst (by with_reducible assumption) ?_) | (with_reducible refine State.Follows.of_trd (by with_reducible assumption) ?_) | split | trivial | intro _ | dsimp only)

theorem execClockLoss_follows {z : State} (doms : BitVec 4) (ref : Bool) (root : Bool) {s : State} (hs : z.Follows s) :
    Res.Follows z (execClockLoss doms ref root s) := by
  unfold execClockLoss
  repeat' (first | with_reducible assumption | with_reducible refine Res.Follows.ite (fun _ => ?_) (fun _ => ?_) | with_reducible refine State.Follows.ite (fun _ => ?_) (fun _ => ?_) | with_reducible apply State.setFld_follows | with_reducible apply State.setFlag_follows | with_reducible apply State.incSat_follows | with_reducible apply State.chipReset_follows | with_reducible apply State.samples_follows | with_reducible apply Res.Follows.next | fail_if_no_progress with_reducible apply State.Follows.upd | (with_reducible refine State.Follows.of_snd (by with_reducible assumption) ?_) | (with_reducible refine State.Follows.of_fst (by with_reducible assumption) ?_) | (with_reducible refine State.Follows.of_trd (by with_reducible assumption) ?_) | split | trivial | intro _ | dsimp only)

theorem execReferenceReturn_follows {z : State} {s : State} (hs : z.Follows s) :
    Res.Follows z (execReferenceReturn s) := by
  unfold execReferenceReturn
  repeat' (first | with_reducible assumption | with_reducible refine Res.Follows.ite (fun _ => ?_) (fun _ => ?_) | with_reducible refine State.Follows.ite (fun _ => ?_) (fun _ => ?_) | with_reducible apply State.chipRelease_follows | with_reducible apply Res.Follows.next | fail_if_no_progress with_reducible apply State.Follows.upd | split | trivial | intro _ | dsimp only)

theorem execRootPllLock_follows {z : State} {s : State} (hs : z.Follows s) :
    Res.Follows z (execRootPllLock s) := by
  unfold execRootPllLock
  repeat' (first | with_reducible assumption | with_reducible refine Res.Follows.ite (fun _ => ?_) (fun _ => ?_) | with_reducible refine State.Follows.ite (fun _ => ?_) (fun _ => ?_) | with_reducible apply State.setFld_follows | with_reducible apply State.setFlag_follows | with_reducible apply Res.Follows.next | fail_if_no_progress with_reducible apply State.Follows.upd | split | trivial | intro _ | dsimp only)

theorem execWatchdogExpiry_follows {z : State} {s : State} (hs : z.Follows s) :
    Res.Follows z (execWatchdogExpiry s) := by
  unfold execWatchdogExpiry
  repeat' (first | with_reducible assumption | with_reducible refine Res.Follows.ite (fun _ => ?_) (fun _ => ?_) | with_reducible refine State.Follows.ite (fun _ => ?_) (fun _ => ?_) | with_reducible apply State.chipReset_follows | with_reducible apply Res.Follows.next | fail_if_no_progress with_reducible apply State.Follows.upd | split | trivial | intro _ | dsimp only)

theorem State.kickWdog_follows {z : State} {s : State} (req : Requester) (value : Nat) (hs : z.Follows s) :
    z.Follows (State.kickWdog s req value) := by
  unfold State.kickWdog
  repeat' (first | with_reducible assumption | with_reducible refine State.Follows.ite (fun _ => ?_) (fun _ => ?_) | with_reducible apply Res.Follows.next | fail_if_no_progress with_reducible apply State.Follows.upd | split | trivial | intro _ | dsimp only)

theorem execWatchdogKick_follows {z : State} (req : Requester) (value : BitVec 32) {s : State} (hs : z.Follows s) :
    Res.Follows z (execWatchdogKick req value s) := by
  unfold execWatchdogKick
  repeat' (first | with_reducible assumption | with_reducible apply State.access_follows | with_reducible apply State.kickWdog_follows | with_reducible apply Res.Follows.next | fail_if_no_progress with_reducible apply State.Follows.upd | split | trivial | intro _ | dsimp only)

theorem State.supplyReset_follows {z : State} {s : State} (f : Fld) (rails : Nat) (hs : z.Follows s) :
    z.Follows (State.supplyReset s f rails) := by
  unfold State.supplyReset
  repeat' (first | with_reducible assumption | with_reducible refine State.Follows.ite (fun _ => ?_) (fun _ => ?_) | with_reducible apply State.orFld_follows | with_reducible apply State.chipReset_follows | with_reducible apply State.samples_follows | with_reducible apply Res.Follows.next | fail_if_no_progress with_reducible apply State.Follows.upd | (with_reducible refine State.Follows.of_snd (by with_reducible assumption) ?_) | (with_reducible refine State.Follows.of_fst (by with_reducible assumption) ?_) | (with_reducible refine State.Follows.of_trd (by with_reducible assumption) ?_) | split | trivial | intro _ | dsimp only)

theorem execRailResetLevel_follows {z : State} (rails : BitVec 7) {s : State} (hs : z.Follows s) :
    Res.Follows z (execRailResetLevel rails s) := by
  unfold execRailResetLevel
  repeat' (first | with_reducible assumption | with_reducible apply State.supplyReset_follows | with_reducible apply Res.Follows.next | fail_if_no_progress with_reducible apply State.Follows.upd | split | trivial | intro _ | dsimp only)

theorem execRailOverVoltage_follows {z : State} (rails : BitVec 7) {s : State} (hs : z.Follows s) :
    Res.Follows z (execRailOverVoltage rails s) := by
  unfold execRailOverVoltage
  repeat' (first | with_reducible assumption | with_reducible apply State.supplyReset_follows | with_reducible apply Res.Follows.next | fail_if_no_progress with_reducible apply State.Follows.upd | split | trivial | intro _ | dsimp only)

theorem execSupplyResetRelease_follows {z : State} {s : State} (hs : z.Follows s) :
    Res.Follows z (execSupplyResetRelease s) := by
  unfold execSupplyResetRelease
  repeat' (first | with_reducible assumption | with_reducible refine Res.Follows.ite (fun _ => ?_) (fun _ => ?_) | with_reducible refine State.Follows.ite (fun _ => ?_) (fun _ => ?_) | with_reducible apply State.chipRelease_follows | with_reducible apply Res.Follows.next | fail_if_no_progress with_reducible apply State.Follows.upd | split | trivial | intro _ | dsimp only)

theorem State.warnSamples_follows {z : State} {s : State} (rails : Nat) (hs : z.Follows s) :
    z.Follows (State.warnSamples s rails).2 := by
  unfold State.warnSamples
  repeat' (first | with_reducible assumption | with_reducible refine State.Follows.ite_snd (fun _ => ?_) (fun _ => ?_) | with_reducible refine State.Follows.ite (fun _ => ?_) (fun _ => ?_) | with_reducible apply State.detect_follows | with_reducible apply State.inject_follows | with_reducible apply Res.Follows.next | fail_if_no_progress with_reducible apply State.Follows.upd | with_reducible apply foldl_follows | with_reducible apply foldl_fst_follows | with_reducible apply foldl_snd_follows | with_reducible apply foldl_trd_follows | (with_reducible refine State.Follows.of_snd (by with_reducible assumption) ?_) | (with_reducible refine State.Follows.of_fst (by with_reducible assumption) ?_) | (with_reducible refine State.Follows.of_trd (by with_reducible assumption) ?_) | split | trivial | intro _ | dsimp only)

theorem execBraceEntry_follows {z : State} (rails : BitVec 7) {s : State} (hs : z.Follows s) :
    Res.Follows z (execBraceEntry rails s) := by
  unfold execBraceEntry
  repeat' (first | with_reducible assumption | with_reducible refine Res.Follows.ite (fun _ => ?_) (fun _ => ?_) | with_reducible refine State.Follows.ite (fun _ => ?_) (fun _ => ?_) | with_reducible apply State.setFld_follows | with_reducible apply State.setFlag_follows | with_reducible apply State.orFld_follows | with_reducible apply State.incSat_follows | with_reducible apply State.warnSamples_follows | with_reducible apply Res.Follows.next | fail_if_no_progress with_reducible apply State.Follows.upd | (with_reducible refine State.Follows.of_snd (by with_reducible assumption) ?_) | (with_reducible refine State.Follows.of_fst (by with_reducible assumption) ?_) | (with_reducible refine State.Follows.of_trd (by with_reducible assumption) ?_) | split | trivial | intro _ | dsimp only)

theorem execBraceExit_follows {z : State} (us : BitVec 32) {s : State} (hs : z.Follows s) :
    Res.Follows z (execBraceExit us s) := by
  unfold execBraceExit
  repeat' (first | with_reducible assumption | with_reducible refine Res.Follows.ite (fun _ => ?_) (fun _ => ?_) | with_reducible refine State.Follows.ite (fun _ => ?_) (fun _ => ?_) | with_reducible apply State.setFld_follows | with_reducible apply State.setFlag_follows | with_reducible apply State.admitBuilds_follows | with_reducible apply Res.Follows.next | fail_if_no_progress with_reducible apply State.Follows.upd | split | trivial | intro _ | dsimp only)

theorem execSupplyMeasPeriod_follows {z : State} (mv : List (BitVec 16)) {s : State} (hs : z.Follows s) :
    Res.Follows z (execSupplyMeasPeriod mv s) := by
  unfold execSupplyMeasPeriod
  repeat' (first | with_reducible assumption | with_reducible refine Res.Follows.ite (fun _ => ?_) (fun _ => ?_) | with_reducible refine State.Follows.ite (fun _ => ?_) (fun _ => ?_) | with_reducible apply forUpto_follows | with_reducible apply State.setFld_follows | with_reducible apply Res.Follows.next | fail_if_no_progress with_reducible apply State.Follows.upd | split | trivial | intro _ | dsimp only)

theorem State.softStart_follows {z : State} {s : State} (reach : Nat) (target : Nat) (hs : z.Follows s) :
    z.Follows (State.softStart s reach target) := by
  unfold State.softStart
  repeat' (first | with_reducible assumption | with_reducible refine State.Follows.ite (fun _ => ?_) (fun _ => ?_) | with_reducible apply State.setFld_follows | with_reducible apply State.orFld_follows | with_reducible apply State.showHeld_follows | with_reducible apply State.tcCoreReset_follows | with_reducible apply State.scCoreReset_follows | with_reducible apply State.panelReset_follows | with_reducible apply State.ioDieReset_follows | with_reducible apply Res.Follows.next | fail_if_no_progress with_reducible apply State.Follows.upd | split | trivial | intro _ | dsimp only)

theorem State.softReset_follows {z : State} {s : State} (req : Requester) (reach : Nat) (key : Nat) (target : Nat) (force : Bool) (hs : z.Follows s) :
    z.Follows (State.softReset s req reach key target force) := by
  unfold State.softReset
  repeat' (first | with_reducible assumption | with_reducible refine State.Follows.ite (fun _ => ?_) (fun _ => ?_) | with_reducible apply State.setFld_follows | with_reducible apply State.chipReset_follows | with_reducible apply State.softStart_follows | with_reducible apply Res.Follows.next | fail_if_no_progress with_reducible apply State.Follows.upd | split | trivial | intro _ | dsimp only)

theorem execSoftResetChip_follows {z : State} (req : Requester) (key : BitVec 8) (target : BitVec 9) (force : Bool) {s : State} (hs : z.Follows s) :
    Res.Follows z (execSoftResetChip req key target force s) := by
  unfold execSoftResetChip
  repeat' (first | with_reducible assumption | with_reducible apply State.access_follows | with_reducible apply State.softReset_follows | with_reducible apply Res.Follows.next | fail_if_no_progress with_reducible apply State.Follows.upd | split | trivial | intro _ | dsimp only)

theorem execSoftResetIoDie_follows {z : State} (req : Requester) (key : BitVec 8) (target : BitVec 9) (force : Bool) {s : State} (hs : z.Follows s) :
    Res.Follows z (execSoftResetIoDie req key target force s) := by
  unfold execSoftResetIoDie
  repeat' (first | with_reducible assumption | with_reducible apply State.access_follows | with_reducible apply State.softReset_follows | with_reducible apply Res.Follows.next | fail_if_no_progress with_reducible apply State.Follows.upd | split | trivial | intro _ | dsimp only)

theorem execSoftResetPanel_follows {z : State} (req : Requester) (key : BitVec 8) (target : BitVec 9) (force : Bool) {s : State} (hs : z.Follows s) :
    Res.Follows z (execSoftResetPanel req key target force s) := by
  unfold execSoftResetPanel
  repeat' (first | with_reducible assumption | with_reducible apply State.access_follows | with_reducible apply State.softReset_follows | with_reducible apply Res.Follows.next | fail_if_no_progress with_reducible apply State.Follows.upd | split | trivial | intro _ | dsimp only)

theorem execSoftResetCore_follows {z : State} (req : Requester) (key : BitVec 8) (target : BitVec 9) (force : Bool) {s : State} (hs : z.Follows s) :
    Res.Follows z (execSoftResetCore req key target force s) := by
  unfold execSoftResetCore
  repeat' (first | with_reducible assumption | with_reducible apply State.access_follows | with_reducible apply State.softReset_follows | with_reducible apply Res.Follows.next | fail_if_no_progress with_reducible apply State.Follows.upd | split | trivial | intro _ | dsimp only)

theorem State.softBack_follows {z : State} {s : State} (reach : Nat) (target : Nat) (hs : z.Follows s) :
    z.Follows (State.softBack s reach target) := by
  unfold State.softBack
  repeat' (first | with_reducible assumption | with_reducible refine State.Follows.ite (fun _ => ?_) (fun _ => ?_) | with_reducible apply State.clrFld_follows | with_reducible apply State.showHeld_follows | with_reducible apply State.stepEleven_follows | with_reducible apply State.tcBack_follows | with_reducible apply State.scBack_follows | with_reducible apply State.panelBack_follows | with_reducible apply Res.Follows.next | fail_if_no_progress with_reducible apply State.Follows.upd | split | trivial | intro _ | dsimp only)

theorem execSoftResetHoldEnd_follows {z : State} {s : State} (hs : z.Follows s) :
    Res.Follows z (execSoftResetHoldEnd s) := by
  unfold execSoftResetHoldEnd
  repeat' (first | with_reducible assumption | with_reducible refine Res.Follows.ite (fun _ => ?_) (fun _ => ?_) | with_reducible refine State.Follows.ite (fun _ => ?_) (fun _ => ?_) | with_reducible apply State.softBack_follows | with_reducible apply Res.Follows.next | fail_if_no_progress with_reducible apply State.Follows.upd | split | trivial | intro _ | dsimp only)

theorem State.showCores_follows {z : State} {s : State} (reach : Nat) (target : Nat) (hs : z.Follows s) :
    z.Follows (State.showCores s reach target) := by
  unfold State.showCores
  repeat' (first | with_reducible assumption | with_reducible refine State.Follows.ite (fun _ => ?_) (fun _ => ?_) | with_reducible apply forUpto_follows | with_reducible apply State.tcShow_follows | with_reducible apply State.scShow_follows | with_reducible apply Res.Follows.next | fail_if_no_progress with_reducible apply State.Follows.upd | split | trivial | intro _ | dsimp only)

theorem execSoftResetDone_follows {z : State} {s : State} (hs : z.Follows s) :
    Res.Follows z (execSoftResetDone s) := by
  unfold execSoftResetDone
  repeat' (first | with_reducible assumption | with_reducible refine Res.Follows.ite (fun _ => ?_) (fun _ => ?_) | with_reducible refine State.Follows.ite (fun _ => ?_) (fun _ => ?_) | with_reducible apply State.setFld_follows | with_reducible apply State.showCores_follows | with_reducible apply Res.Follows.next | fail_if_no_progress with_reducible apply State.Follows.upd | split | trivial | intro _ | dsimp only)

theorem State.retrained_follows {z : State} {s : State} (k : Nat) (ok : Bool) (hs : z.Follows s) :
    z.Follows (State.retrained s k ok) := by
  unfold State.retrained
  repeat' (first | with_reducible assumption | with_reducible refine State.Follows.ite (fun _ => ?_) (fun _ => ?_) | with_reducible apply State.setFld_follows | with_reducible apply State.orFld_follows | with_reducible apply State.detect_follows | with_reducible apply State.loseStack_follows | with_reducible apply Res.Follows.next | fail_if_no_progress with_reducible apply State.Follows.upd | split | trivial | intro _ | dsimp only)

theorem execPanelRetrainDone_follows {z : State} (trained : BitVec 6) {s : State} (hs : z.Follows s) :
    Res.Follows z (execPanelRetrainDone trained s) := by
  unfold execPanelRetrainDone
  repeat' (first | with_reducible assumption | with_reducible refine Res.Follows.ite (fun _ => ?_) (fun _ => ?_) | with_reducible refine State.Follows.ite (fun _ => ?_) (fun _ => ?_) | with_reducible apply State.retrained_follows | with_reducible apply Res.Follows.next | fail_if_no_progress with_reducible apply State.Follows.upd | with_reducible apply foldl_follows | with_reducible apply foldl_fst_follows | with_reducible apply foldl_snd_follows | with_reducible apply foldl_trd_follows | split | trivial | intro _ | dsimp only)

end Sys2Proof.Machine
end

