-- ==== Sys2Proof/Laws/LoadersFollows.lean ====
section
/-! SUPPORT. Laws/LoadersFollows.lean: every operation of Machine/Loaders.lean follows: what it does to the queue, the outputs, the draw counter and the invariant (Safety.lean). -/
set_option linter.unusedVariables false
set_option linter.unreachableTactic false
set_option linter.unusedTactic false
namespace Sys2Proof.Machine

open Sys2Proof

theorem State.loadClock_follows {z : State} {s : State} (b : Blob) (hs : z.Follows s) :
    z.Follows (State.loadClock s b) := by
  unfold State.loadClock
  repeat' (first | with_reducible assumption | with_reducible apply State.setFld_follows | with_reducible apply State.setFld64_follows | with_reducible apply Res.Follows.next | fail_if_no_progress with_reducible apply State.Follows.upd | split | trivial | intro _ | dsimp only)

theorem State.loadReach_follows {z : State} {s : State} (b : Blob) (hs : z.Follows s) :
    z.Follows (State.loadReach s b) := by
  unfold State.loadReach
  repeat' (first | with_reducible assumption | with_reducible apply State.setFld_follows | with_reducible apply Res.Follows.next | fail_if_no_progress with_reducible apply State.Follows.upd | split | trivial | intro _ | dsimp only)

theorem State.loadSupply_follows {z : State} {s : State} (b : Blob) (hs : z.Follows s) :
    z.Follows (State.loadSupply s b) := by
  unfold State.loadSupply
  repeat' (first | with_reducible assumption | with_reducible apply forUpto_follows | with_reducible apply State.setFld_follows | with_reducible apply Res.Follows.next | fail_if_no_progress with_reducible apply State.Follows.upd | split | trivial | intro _ | dsimp only)

theorem State.loadDetectors_follows {z : State} {s : State} (b : Blob) (hs : z.Follows s) :
    z.Follows (State.loadDetectors s b) := by
  unfold State.loadDetectors
  repeat' (first | with_reducible assumption | with_reducible apply forUpto_follows | with_reducible apply State.setFld_follows | with_reducible apply State.setFlag_follows | with_reducible apply Res.Follows.next | fail_if_no_progress with_reducible apply State.Follows.upd | split | trivial | intro _ | dsimp only)

theorem State.loadNoc_follows {z : State} {s : State} (b : Blob) (hs : z.Follows s) :
    z.Follows (State.loadNoc s b) := by
  unfold State.loadNoc
  repeat' (first | with_reducible assumption | with_reducible apply State.setFld_follows | with_reducible apply Res.Follows.next | fail_if_no_progress with_reducible apply State.Follows.upd | split | trivial | intro _ | dsimp only)

theorem State.loadPort_follows {z : State} {s : State} (b : Blob) (p : Nat) (hs : z.Follows s) :
    z.Follows (State.loadPort s b p) := by
  unfold State.loadPort
  repeat' (first | with_reducible assumption | with_reducible refine State.Follows.ite (fun _ => ?_) (fun _ => ?_) | with_reducible apply forUpto_follows | with_reducible apply State.setFld_follows | with_reducible apply Res.Follows.next | fail_if_no_progress with_reducible apply State.Follows.upd | split | trivial | intro _ | dsimp only)

theorem State.loadPorts_follows {z : State} {s : State} (b : Blob) (hs : z.Follows s) :
    z.Follows (State.loadPorts s b) := by
  unfold State.loadPorts
  repeat' (first | with_reducible assumption | with_reducible apply forUpto_follows | with_reducible apply State.loadPort_follows | with_reducible apply Res.Follows.next | fail_if_no_progress with_reducible apply State.Follows.upd | split | trivial | intro _ | dsimp only)

theorem State.loadCells_follows {z : State} {s : State} (b : Blob) (hs : z.Follows s) :
    z.Follows (State.loadCells s b) := by
  unfold State.loadCells
  repeat' (first | with_reducible assumption | with_reducible apply forUpto_follows | with_reducible apply State.setFld_follows | with_reducible apply Res.Follows.next | fail_if_no_progress with_reducible apply State.Follows.upd | split | trivial | intro _ | dsimp only)

theorem State.loadEasel_follows {z : State} {s : State} (b : Blob) (e : Nat) (hs : z.Follows s) :
    z.Follows (State.loadEasel s b e) := by
  unfold State.loadEasel
  repeat' (first | with_reducible assumption | with_reducible refine State.Follows.ite (fun _ => ?_) (fun _ => ?_) | with_reducible apply State.setFld_follows | with_reducible apply State.setFlag_follows | with_reducible apply State.setLimits_follows | with_reducible apply State.setMapped_follows | with_reducible apply State.setLife_follows | with_reducible apply Res.Follows.next | fail_if_no_progress with_reducible apply State.Follows.upd | split | trivial | intro _ | dsimp only)

theorem State.loadEasels_follows {z : State} {s : State} (b : Blob) (hs : z.Follows s) :
    z.Follows (State.loadEasels s b) := by
  unfold State.loadEasels
  repeat' (first | with_reducible assumption | with_reducible apply forUpto_follows | with_reducible apply State.setFld_follows | with_reducible apply State.loadEasel_follows | with_reducible apply Res.Follows.next | fail_if_no_progress with_reducible apply State.Follows.upd | split | trivial | intro _ | dsimp only)

theorem State.loadPartition_follows {z : State} {s : State} (b : Blob) (hs : z.Follows s) :
    z.Follows (State.loadPartition s b) := by
  unfold State.loadPartition
  repeat' (first | with_reducible assumption | with_reducible apply forUpto_follows | with_reducible apply State.setFld_follows | with_reducible apply State.setFlag_follows | with_reducible apply Res.Follows.next | fail_if_no_progress with_reducible apply State.Follows.upd | split | trivial | intro _ | dsimp only)

theorem State.loadPalette_follows {z : State} {s : State} (b : Blob) (hs : z.Follows s) :
    z.Follows (State.loadPalette s b) := by
  unfold State.loadPalette
  repeat' (first | with_reducible assumption | with_reducible apply forEach_follows | with_reducible apply State.setFld_follows | with_reducible apply State.setFlag_follows | with_reducible apply Res.Follows.next | fail_if_no_progress with_reducible apply State.Follows.upd | split | trivial | intro _ | dsimp only)

theorem State.loadPatient_follows {z : State} {s : State} (b : Blob) (hs : z.Follows s) :
    z.Follows (State.loadPatient s b) := by
  unfold State.loadPatient
  repeat' (first | with_reducible assumption | with_reducible apply forEach_follows | with_reducible apply State.setFld_follows | with_reducible apply State.setFlag_follows | with_reducible apply Res.Follows.next | fail_if_no_progress with_reducible apply State.Follows.upd | split | trivial | intro _ | dsimp only)

theorem State.loadFlows_follows {z : State} {s : State} (b : Blob) (hs : z.Follows s) :
    z.Follows (State.loadFlows s b) := by
  unfold State.loadFlows
  repeat' (first | with_reducible assumption | with_reducible apply forEach_follows | with_reducible apply State.loadFlow_follows | with_reducible apply Res.Follows.next | fail_if_no_progress with_reducible apply State.Follows.upd | split | trivial | intro _ | dsimp only)

theorem State.loadTree_follows {z : State} {s : State} (b : Blob) (hs : z.Follows s) :
    z.Follows (State.loadTree s b) := by
  unfold State.loadTree
  repeat' (first | with_reducible assumption | with_reducible apply forEach_follows | with_reducible apply State.setFld_follows | with_reducible apply Res.Follows.next | fail_if_no_progress with_reducible apply State.Follows.upd | split | trivial | intro _ | dsimp only)

theorem State.loadParams_follows {z : State} {s : State} (b : Blob) (hs : z.Follows s) :
    z.Follows (State.loadParams s b) := by
  unfold State.loadParams
  repeat' (first | with_reducible assumption | with_reducible refine State.Follows.ite (fun _ => ?_) (fun _ => ?_) | with_reducible apply forUpto_follows | with_reducible apply forEach_follows | with_reducible apply State.setFld_follows | with_reducible apply State.loadParam_follows | with_reducible apply Res.Follows.next | fail_if_no_progress with_reducible apply State.Follows.upd | split | trivial | intro _ | dsimp only)

theorem State.loadYaroz_follows {z : State} {s : State} (b : Blob) (hs : z.Follows s) :
    z.Follows (State.loadYaroz s b) := by
  unfold State.loadYaroz
  repeat' (first | with_reducible assumption | with_reducible apply forUpto_follows | with_reducible apply State.setFld_follows | with_reducible apply State.setFlag_follows | with_reducible apply Res.Follows.next | fail_if_no_progress with_reducible apply State.Follows.upd | split | trivial | intro _ | dsimp only)

theorem State.loadLimits_follows {z : State} {s : State} (b : Blob) (hs : z.Follows s) :
    z.Follows (State.loadLimits s b) := by
  unfold State.loadLimits
  repeat' (first | with_reducible assumption | with_reducible apply State.setFld_follows | with_reducible apply Res.Follows.next | fail_if_no_progress with_reducible apply State.Follows.upd | split | trivial | intro _ | dsimp only)

theorem State.dropJob_follows {z : State} {s : State} (slot : Nat) (hs : z.Follows s) :
    z.Follows (State.dropJob s slot) := by
  unfold State.dropJob
  repeat' (first | with_reducible assumption | with_reducible apply State.setReg_follows | with_reducible apply forUpto_follows | with_reducible apply forEach_follows | with_reducible apply State.opDead_follows | with_reducible apply Res.Follows.next | fail_if_no_progress with_reducible apply State.Follows.upd | split | trivial | intro _ | dsimp only)

theorem State.rankLost_follows {z : State} {s : State} (slot : Nat) (rank : Nat) (mask : Nat) (hs : z.Follows s) :
    z.Follows (State.rankLost s slot rank mask) := by
  unfold State.rankLost
  repeat' (first | with_reducible assumption | with_reducible apply forEach_follows | with_reducible apply State.setFld_follows | with_reducible apply State.setFlag_follows | with_reducible apply State.setFld64_follows | with_reducible apply State.deliverFault_follows | with_reducible apply Res.Follows.next | fail_if_no_progress with_reducible apply State.Follows.upd | split | trivial | intro _ | dsimp only)

theorem State.renumber_follows {z : State} {s : State} (slot : Nat) (old : RJob) (new : RJob) (hs : z.Follows s) :
    z.Follows (State.renumber s slot old new) := by
  unfold State.renumber
  repeat' (first | with_reducible assumption | with_reducible refine State.Follows.ite (fun _ => ?_) (fun _ => ?_) | with_reducible apply Res.Follows.next | fail_if_no_progress with_reducible apply State.Follows.upd | with_reducible apply foldl_follows | with_reducible apply foldl_fst_follows | with_reducible apply foldl_snd_follows | with_reducible apply foldl_trd_follows | split | trivial | intro _ | dsimp only)

theorem State.writeJob_follows {z : State} {s : State} (slot : Nat) (j : RJob) (hs : z.Follows s) :
    z.Follows (State.writeJob s slot j) := by
  unfold State.writeJob
  repeat' (first | with_reducible assumption | with_reducible apply forEach_follows | with_reducible apply State.setFld_follows | with_reducible apply State.setFld64_follows | with_reducible apply Res.Follows.next | fail_if_no_progress with_reducible apply State.Follows.upd | split | trivial | intro _ | dsimp only)

theorem State.moveSelf_follows {z : State} {s : State} (slot : Nat) (old : RJob) (new : RJob) (hs : z.Follows s) :
    z.Follows (State.moveSelf s slot old new) := by
  unfold State.moveSelf
  repeat' (first | with_reducible assumption | with_reducible refine State.Follows.ite (fun _ => ?_) (fun _ => ?_) | with_reducible apply State.setFld_follows | with_reducible apply Res.Follows.next | fail_if_no_progress with_reducible apply State.Follows.upd | split | trivial | intro _ | dsimp only)

theorem State.changeJob_follows {z : State} {s : State} (slot : Nat) (old : RJob) (new : RJob) (hs : z.Follows s) :
    z.Follows (State.changeJob s slot old new) := by
  unfold State.changeJob
  repeat' (first | with_reducible assumption | with_reducible refine State.Follows.ite (fun _ => ?_) (fun _ => ?_) | with_reducible apply forEach_follows | with_reducible apply State.opDead_follows | with_reducible apply State.rankLost_follows | with_reducible apply State.renumber_follows | with_reducible apply State.writeJob_follows | with_reducible apply State.moveSelf_follows | with_reducible apply Res.Follows.next | fail_if_no_progress with_reducible apply State.Follows.upd | split | trivial | intro _ | dsimp only)

theorem State.newJob_follows {z : State} {s : State} (j : RJob) (hs : z.Follows s) :
    z.Follows (State.newJob s j) := by
  unfold State.newJob
  repeat' (first | with_reducible assumption | with_reducible apply State.writeJob_follows | with_reducible apply Res.Follows.next | fail_if_no_progress with_reducible apply State.Follows.upd | split | trivial | intro _ | dsimp only)

theorem State.showJobs_follows {z : State} {s : State} (hs : z.Follows s) :
    z.Follows (State.showJobs s) := by
  unfold State.showJobs
  repeat' (first | with_reducible assumption | with_reducible apply forUpto_follows | with_reducible apply State.setFld_follows | with_reducible apply State.setFlag_follows | with_reducible apply Res.Follows.next | fail_if_no_progress with_reducible apply State.Follows.upd | split | trivial | intro _ | dsimp only)

theorem State.deadHeld_follows {z : State} {s : State} (hs : z.Follows s) :
    z.Follows (State.deadHeld s) := by
  unfold State.deadHeld
  repeat' (first | with_reducible assumption | with_reducible apply forEach_follows | with_reducible apply State.opDead_follows | with_reducible apply Res.Follows.next | fail_if_no_progress with_reducible apply State.Follows.upd | split | trivial | intro _ | dsimp only)

theorem State.switchRanks_follows {z : State} {s : State} (old : List RJob) (new : List RJob) (hs : z.Follows s) :
    z.Follows (State.switchRanks s old new) := by
  unfold State.switchRanks
  repeat' (first | with_reducible assumption | with_reducible refine State.Follows.ite (fun _ => ?_) (fun _ => ?_) | with_reducible apply forUpto_follows | with_reducible apply forEach_follows | with_reducible apply State.keepSec_follows | with_reducible apply State.yzKickAll_follows | with_reducible apply State.reissueHeld_follows | with_reducible apply State.dropJob_follows | with_reducible apply State.changeJob_follows | with_reducible apply State.newJob_follows | with_reducible apply State.showJobs_follows | with_reducible apply State.deadHeld_follows | with_reducible apply Res.Follows.next | fail_if_no_progress with_reducible apply State.Follows.upd | split | trivial | intro _ | dsimp only)

theorem State.loadSection_follows {z : State} {s : State} (t : Nat) (b : Blob) (hs : z.Follows s) :
    z.Follows (State.loadSection s t b) := by
  unfold State.loadSection
  repeat' (first | with_reducible assumption | with_reducible apply State.keepSec_follows | with_reducible apply State.loadClock_follows | with_reducible apply State.loadReach_follows | with_reducible apply State.loadSupply_follows | with_reducible apply State.loadDetectors_follows | with_reducible apply State.loadNoc_follows | with_reducible apply State.loadPorts_follows | with_reducible apply State.loadCells_follows | with_reducible apply State.loadEasels_follows | with_reducible apply State.loadPartition_follows | with_reducible apply State.loadPalette_follows | with_reducible apply State.loadPatient_follows | with_reducible apply State.loadFlows_follows | with_reducible apply State.loadTree_follows | with_reducible apply State.loadParams_follows | with_reducible apply State.loadYaroz_follows | with_reducible apply State.loadLimits_follows | with_reducible apply State.switchRanks_follows | with_reducible apply Res.Follows.next | fail_if_no_progress with_reducible apply State.Follows.upd | split | trivial | intro _ | dsimp only)

end Sys2Proof.Machine
end

