-- ==== Sys2Proof/Laws/BootFollows.lean ====
section
/-! SUPPORT. Laws/BootFollows.lean: every operation of Machine/Boot.lean follows: what it does to the queue, the outputs, the draw counter and the invariant (Safety.lean). -/
set_option linter.unusedVariables false
set_option linter.unreachableTactic false
set_option linter.unusedTactic false
namespace Sys2Proof.Machine

open Sys2Proof

theorem State.deriveId_follows {z : State} {s : State} (ident : Option Blob) (hs : z.Follows s) :
    z.Follows (State.deriveId s ident) := by
  unfold State.deriveId
  repeat' (first | with_reducible assumption | with_reducible refine State.Follows.ite (fun _ => ?_) (fun _ => ?_) | with_reducible apply State.setFld_follows | with_reducible apply State.setDigest_follows | with_reducible apply Res.Follows.next | fail_if_no_progress with_reducible apply State.Follows.upd | split | trivial | intro _ | dsimp only)

theorem State.mbxPost_follows {z : State} {s : State} (hs : z.Follows s) :
    z.Follows (State.mbxPost s) := by
  unfold State.mbxPost
  repeat' (first | with_reducible assumption | with_reducible apply State.setFld_follows | with_reducible apply Res.Follows.next | fail_if_no_progress with_reducible apply State.Follows.upd | split | trivial | intro _ | dsimp only)

theorem State.mbxStage_follows {z : State} {s : State} (st : BootStage) (want : List (Nat × Nat)) (hs : z.Follows s) :
    z.Follows (State.mbxStage s st want) := by
  unfold State.mbxStage
  repeat' (first | with_reducible assumption | with_reducible apply State.mbxPost_follows | with_reducible apply Res.Follows.next | fail_if_no_progress with_reducible apply State.Follows.upd | split | trivial | intro _ | dsimp only)

theorem State.mbxTake_follows {z : State} {s : State} (hs : z.Follows s) :
    z.Follows (State.mbxTake s) := by
  unfold State.mbxTake
  repeat' (first | with_reducible assumption | with_reducible apply State.setFld_follows | with_reducible apply Res.Follows.next | fail_if_no_progress with_reducible apply State.Follows.upd | split | trivial | intro _ | dsimp only)

theorem State.romWait_follows {z : State} {s : State} (hs : z.Follows s) :
    z.Follows (State.romWait s) := by
  unfold State.romWait
  repeat' (first | with_reducible assumption | with_reducible apply State.setFld_follows | with_reducible apply State.setFlag_follows | with_reducible apply Res.Follows.next | fail_if_no_progress with_reducible apply State.Follows.upd | split | trivial | intro _ | dsimp only)

theorem State.setSource_follows {z : State} {s : State} (src : Nat) (hs : z.Follows s) :
    z.Follows (State.setSource s src) := by
  unfold State.setSource
  repeat' (first | with_reducible assumption | with_reducible apply State.setFld_follows | with_reducible apply Res.Follows.next | fail_if_no_progress with_reducible apply State.Follows.upd | split | trivial | intro _ | dsimp only)

theorem State.romAccept_follows {z : State} {s : State} (img : Blob) (hs : z.Follows s) :
    z.Follows (State.romAccept s img) := by
  unfold State.romAccept
  repeat' (first | with_reducible assumption | with_reducible apply State.setFld_follows | with_reducible apply State.setFlag_follows | with_reducible apply Res.Follows.next | fail_if_no_progress with_reducible apply State.Follows.upd | split | trivial | intro _ | dsimp only)

theorem State.romFlash_follows {z : State} {s : State} (flash : Option Blob) (hs : z.Follows s) :
    z.Follows (State.romFlash s flash) := by
  unfold State.romFlash
  repeat' (first | with_reducible assumption | with_reducible apply State.setFld_follows | with_reducible apply State.romWait_follows | with_reducible apply State.setSource_follows | with_reducible apply State.romAccept_follows | with_reducible apply Res.Follows.next | fail_if_no_progress with_reducible apply State.Follows.upd | split | trivial | intro _ | dsimp only)

theorem State.romReject_follows {z : State} {s : State} (c : Nat) (hs : z.Follows s) :
    z.Follows (State.romReject s c) := by
  unfold State.romReject
  repeat' (first | with_reducible assumption | with_reducible apply State.setFld_follows | with_reducible apply Res.Follows.next | fail_if_no_progress with_reducible apply State.Follows.upd | split | trivial | intro _ | dsimp only)

theorem execRomBoot_follows {z : State} (flash : Option Blob) (ident : Option Blob) {s : State} (hs : z.Follows s) :
    Res.Follows z (execRomBoot flash ident s) := by
  unfold execRomBoot
  repeat' (first | with_reducible assumption | with_reducible refine Res.Follows.ite (fun _ => ?_) (fun _ => ?_) | with_reducible refine State.Follows.ite (fun _ => ?_) (fun _ => ?_) | with_reducible apply State.setFlag_follows | with_reducible apply State.incSat_follows | with_reducible apply State.deriveId_follows | with_reducible apply State.romWait_follows | with_reducible apply State.setSource_follows | with_reducible apply State.romFlash_follows | with_reducible apply Res.Follows.next | fail_if_no_progress with_reducible apply State.Follows.upd | split | trivial | intro _ | dsimp only)

theorem State.pushStart_follows {z : State} {s : State} (req : Requester) (hs : z.Follows s) :
    z.Follows (State.pushStart s req) := by
  unfold State.pushStart
  repeat' (first | with_reducible assumption | with_reducible refine State.Follows.ite (fun _ => ?_) (fun _ => ?_) | with_reducible apply State.mbxStage_follows | with_reducible apply State.setSource_follows | with_reducible apply Res.Follows.next | fail_if_no_progress with_reducible apply State.Follows.upd | split | trivial | intro _ | dsimp only)

theorem execPushStart_follows {z : State} (req : Requester) {s : State} (hs : z.Follows s) :
    Res.Follows z (execPushStart req s) := by
  unfold execPushStart
  repeat' (first | with_reducible assumption | with_reducible apply State.access_follows | with_reducible apply State.pushStart_follows | with_reducible apply Res.Follows.next | fail_if_no_progress with_reducible apply State.Follows.upd | split | trivial | intro _ | dsimp only)

theorem State.romJudge_follows {z : State} {s : State} (fault : Option Nat) {good : State} (hs : z.Follows s) (hgood : z.Follows good) :
    z.Follows (State.romJudge s fault good) := by
  unfold State.romJudge
  repeat' (first | with_reducible assumption | with_reducible apply State.romReject_follows | with_reducible apply Res.Follows.next | fail_if_no_progress with_reducible apply State.Follows.upd | split | trivial | intro _ | dsimp only)

theorem State.romArrived_follows {z : State} {s : State} (hs : z.Follows s) :
    z.Follows (State.romArrived s) := by
  unfold State.romArrived
  repeat' (first | with_reducible assumption | with_reducible refine State.Follows.ite (fun _ => ?_) (fun _ => ?_) | with_reducible apply State.mbxPost_follows | with_reducible apply State.mbxStage_follows | with_reducible apply State.romAccept_follows | with_reducible apply State.romJudge_follows | with_reducible apply Res.Follows.next | fail_if_no_progress with_reducible apply State.Follows.upd | split | trivial | intro _ | dsimp only)

end Sys2Proof.Machine
end

