-- ==== Sys2Proof/Laws/ApplyFollows.lean ====
section
/-! SUPPORT. Laws/ApplyFollows.lean: every operation of Machine/Apply.lean follows: what it does to the queue, the outputs, the draw counter and the invariant (Safety.lean). -/
set_option linter.unusedVariables false
set_option linter.unreachableTactic false
set_option linter.unusedTactic false
namespace Sys2Proof.Machine

open Sys2Proof

theorem State.loadPhase_follows {z : State} {s : State} (now : Nat → Bool) (hs : z.Follows s) :
    z.Follows (State.loadPhase s now) := by
  unfold State.loadPhase
  repeat' (first | with_reducible assumption | with_reducible apply forEach_follows | with_reducible apply State.loadSection_follows | with_reducible apply Res.Follows.next | fail_if_no_progress with_reducible apply State.Follows.upd | split | trivial | intro _ | dsimp only)

theorem State.phaseClocks_follows {z : State} {s : State} (hs : z.Follows s) :
    z.Follows (State.phaseClocks s) := by
  unfold State.phaseClocks
  repeat' (first | with_reducible assumption | with_reducible apply State.setFld_follows | with_reducible apply State.loadSection_follows | with_reducible apply Res.Follows.next | fail_if_no_progress with_reducible apply State.Follows.upd | split | trivial | intro _ | dsimp only)

theorem State.phaseEarly_follows {z : State} {s : State} (hs : z.Follows s) :
    z.Follows (State.phaseEarly s) := by
  unfold State.phaseEarly
  repeat' (first | with_reducible assumption | with_reducible apply forUpto_follows | with_reducible apply State.setFld_follows | with_reducible apply State.loadPhase_follows | with_reducible apply Res.Follows.next | fail_if_no_progress with_reducible apply State.Follows.upd | split | trivial | intro _ | dsimp only)

theorem execDomainSettle_follows {z : State} (d : Domain) {s : State} (hs : z.Follows s) :
    Res.Follows z (execDomainSettle d s) := by
  unfold execDomainSettle
  repeat' (first | with_reducible assumption | with_reducible refine Res.Follows.ite (fun _ => ?_) (fun _ => ?_) | with_reducible refine State.Follows.ite (fun _ => ?_) (fun _ => ?_) | with_reducible apply State.setFld_follows | with_reducible apply State.orFld_follows | with_reducible apply State.showHeld_follows | with_reducible apply State.phaseEarly_follows | with_reducible apply Res.Follows.next | fail_if_no_progress with_reducible apply State.Follows.upd | split | trivial | intro _ | dsimp only)

theorem State.seal_follows {z : State} {s : State} (hs : z.Follows s) :
    z.Follows (State.seal s) := by
  unfold State.seal
  repeat' (first | with_reducible assumption | with_reducible apply forUpto_follows | with_reducible apply State.draw_follows | with_reducible apply State.setFld_follows | with_reducible apply State.setFld64_follows | with_reducible apply State.setDigest_follows | with_reducible apply State.tcShow_follows | with_reducible apply State.scShow_follows | with_reducible apply Res.Follows.next | fail_if_no_progress with_reducible apply State.Follows.upd | (with_reducible refine State.Follows.of_snd (by with_reducible assumption) ?_) | (with_reducible refine State.Follows.of_fst (by with_reducible assumption) ?_) | (with_reducible refine State.Follows.of_trd (by with_reducible assumption) ?_) | split | trivial | intro _ | dsimp only)

theorem State.phaseLate_follows {z : State} {s : State} (hs : z.Follows s) :
    z.Follows (State.phaseLate s) := by
  unfold State.phaseLate
  repeat' (first | with_reducible assumption | with_reducible apply State.applyRefuse_follows | with_reducible apply State.loadPhase_follows | with_reducible apply State.seal_follows | with_reducible apply Res.Follows.next | fail_if_no_progress with_reducible apply State.Follows.upd | split | trivial | intro _ | dsimp only)

theorem State.phaseCheck_follows {z : State} {s : State} (hs : z.Follows s) :
    z.Follows (State.phaseCheck s) := by
  unfold State.phaseCheck
  repeat' (first | with_reducible assumption | with_reducible refine State.Follows.ite (fun _ => ?_) (fun _ => ?_) | with_reducible apply State.applyRefuse_follows | with_reducible apply State.phaseClocks_follows | with_reducible apply Res.Follows.next | fail_if_no_progress with_reducible apply State.Follows.upd | split | trivial | intro _ | dsimp only)

theorem State.applyArrived_follows {z : State} {s : State} (hs : z.Follows s) :
    z.Follows (State.applyArrived s) := by
  unfold State.applyArrived
  repeat' (first | with_reducible assumption | with_reducible refine State.Follows.ite (fun _ => ?_) (fun _ => ?_) | with_reducible apply State.applyRefuse_follows | with_reducible apply State.mbxPost_follows | with_reducible apply State.mbxStage_follows | with_reducible apply State.phaseClocks_follows | with_reducible apply State.phaseLate_follows | with_reducible apply Res.Follows.next | fail_if_no_progress with_reducible apply State.Follows.upd | split | trivial | intro _ | dsimp only)

theorem State.pushDone_follows {z : State} {s : State} (req : Requester) (hs : z.Follows s) :
    z.Follows (State.pushDone s req) := by
  unfold State.pushDone
  repeat' (first | with_reducible assumption | with_reducible refine State.Follows.ite (fun _ => ?_) (fun _ => ?_) | with_reducible apply State.mbxTake_follows | with_reducible apply State.romArrived_follows | with_reducible apply State.applyArrived_follows | with_reducible apply Res.Follows.next | fail_if_no_progress with_reducible apply State.Follows.upd | split | trivial | intro _ | dsimp only)

theorem execPushDone_follows {z : State} (req : Requester) {s : State} (hs : z.Follows s) :
    Res.Follows z (execPushDone req s) := by
  unfold execPushDone
  repeat' (first | with_reducible assumption | with_reducible apply State.access_follows | with_reducible apply State.pushDone_follows | with_reducible apply Res.Follows.next | fail_if_no_progress with_reducible apply State.Follows.upd | split | trivial | intro _ | dsimp only)

theorem State.pushAbort_follows {z : State} {s : State} (req : Requester) (hs : z.Follows s) :
    z.Follows (State.pushAbort s req) := by
  unfold State.pushAbort
  repeat' (first | with_reducible assumption | with_reducible refine State.Follows.ite (fun _ => ?_) (fun _ => ?_) | with_reducible apply State.pushEnd_follows | with_reducible apply Res.Follows.next | fail_if_no_progress with_reducible apply State.Follows.upd | split | trivial | intro _ | dsimp only)

theorem execPushAbort_follows {z : State} (req : Requester) {s : State} (hs : z.Follows s) :
    Res.Follows z (execPushAbort req s) := by
  unfold execPushAbort
  repeat' (first | with_reducible assumption | with_reducible apply State.access_follows | with_reducible apply State.pushAbort_follows | with_reducible apply Res.Follows.next | fail_if_no_progress with_reducible apply State.Follows.upd | split | trivial | intro _ | dsimp only)

theorem execPushRequestTimeout_follows {z : State} {s : State} (hs : z.Follows s) :
    Res.Follows z (execPushRequestTimeout s) := by
  unfold execPushRequestTimeout
  repeat' (first | with_reducible assumption | with_reducible refine Res.Follows.ite (fun _ => ?_) (fun _ => ?_) | with_reducible refine State.Follows.ite (fun _ => ?_) (fun _ => ?_) | with_reducible apply State.pushEnd_follows | with_reducible apply Res.Follows.next | fail_if_no_progress with_reducible apply State.Follows.upd | split | trivial | intro _ | dsimp only)

theorem execApplyBegin_follows {z : State} (lost : Bool) {s : State} (hs : z.Follows s) :
    Res.Follows z (execApplyBegin lost s) := by
  unfold execApplyBegin
  repeat' (first | with_reducible assumption | with_reducible refine Res.Follows.ite (fun _ => ?_) (fun _ => ?_) | with_reducible refine State.Follows.ite (fun _ => ?_) (fun _ => ?_) | with_reducible apply State.setFld_follows | with_reducible apply State.applyRefuse_follows | with_reducible apply State.mbxStage_follows | with_reducible apply State.phaseCheck_follows | with_reducible apply Res.Follows.next | fail_if_no_progress with_reducible apply State.Follows.upd | split | trivial | intro _ | dsimp only)

theorem State.stackTrained_follows {z : State} {s : State} (k : Nat) (ok : Bool) (spares : Nat) (hs : z.Follows s) :
    z.Follows (State.stackTrained s k ok spares) := by
  unfold State.stackTrained
  repeat' (first | with_reducible assumption | with_reducible refine State.Follows.ite (fun _ => ?_) (fun _ => ?_) | with_reducible apply State.setFld_follows | with_reducible apply Res.Follows.next | fail_if_no_progress with_reducible apply State.Follows.upd | split | trivial | intro _ | dsimp only)

theorem State.stackFilled_follows {z : State} {s : State} (k : Nat) (hs : z.Follows s) :
    z.Follows (State.stackFilled s k) := by
  unfold State.stackFilled
  repeat' (first | with_reducible assumption | with_reducible apply State.setFld_follows | with_reducible apply State.orFld_follows | with_reducible apply Res.Follows.next | fail_if_no_progress with_reducible apply State.Follows.upd | split | trivial | intro _ | dsimp only)

theorem execStackTrainingDone_follows {z s : State} (trained : BitVec 18) (spares : List Nat) (filled lost : Bool) (hs : z.Follows s) :
    Res.Follows z (execStackTrainingDone trained spares filled lost s) := by
  unfold execStackTrainingDone
  refine Res.Follows.next (State.Follows.ite (fun _ => hs) (fun _ => ?_))
  dsimp only
  have h0 : z.Follows (forUpto 18 (fun k (t : State) => t.stackTrained k (trained.toNat.testBit k) (nth 0 spares k)) s) :=
    forUpto_follows _ _ (fun k u h => State.stackTrained_follows _ _ _ h) hs
  generalize forUpto 18 _ s = s0 at h0
  have h1 : z.Follows { s0 with mem := [], poison := [], used := [] } :=
    ⟨h0.pending, h0.out, h0.free, fun i => let j := h0.inv i; ⟨rfl, j.regs, rfl, rfl, j.tod⟩⟩
  have h2 := State.setFld_follows 0 F.CVS_STATE_PHASE 5 (forUpto_follows 18 (fun k (t : State) => t.stackFilled k) (fun k u h => State.stackFilled_follows _ h) h1)
  generalize State.setFld _ 0 F.CVS_STATE_PHASE 5 = s1 at h2
  repeat' (first | with_reducible assumption | with_reducible apply State.applyRefuse_follows | with_reducible apply State.mbxStage_follows | with_reducible apply State.wantPhase_follows | with_reducible apply State.phaseLate_follows | with_reducible apply State.setFld_follows | with_reducible refine State.Follows.ite (fun _ => ?_) (fun _ => ?_))

theorem State.postFatal_follows {z : State} {s : State} (det : Nat) (unitKind : Nat) (unit : Nat) (hs : z.Follows s) :
    z.Follows (State.postFatal s det unitKind unit) := by
  unfold State.postFatal
  repeat' (first | with_reducible assumption | with_reducible refine State.Follows.ite (fun _ => ?_) (fun _ => ?_) | with_reducible apply State.deliverFault_follows | with_reducible apply Res.Follows.next | fail_if_no_progress with_reducible apply State.Follows.upd | split | trivial | intro _ | dsimp only)

theorem execEasel0Start_follows {z : State} (us : BitVec 32) {s : State} (hs : z.Follows s) :
    Res.Follows z (execEasel0Start us s) := by
  unfold execEasel0Start
  repeat' (first | with_reducible assumption | with_reducible refine Res.Follows.ite (fun _ => ?_) (fun _ => ?_) | with_reducible refine State.Follows.ite (fun _ => ?_) (fun _ => ?_) | with_reducible apply forUpto_follows | with_reducible apply forEach_follows | with_reducible apply State.setFld_follows | with_reducible apply State.setFlag_follows | with_reducible apply State.loadImage_follows | with_reducible apply State.setLife_follows | with_reducible apply State.postFatal_follows | with_reducible apply Res.Follows.next | fail_if_no_progress with_reducible apply State.Follows.upd | split | trivial | intro _ | dsimp only)

end Sys2Proof.Machine
end

