-- ==== Sys2Proof/Laws/State.lean ====
section
/-! SUPPORT. Laws/State.lean: what each operation on the state reads and leaves alone: bit fields, the register file, and one lemma per field per update. -/
namespace Sys2Proof.Machine

open Sys2Proof

/-- A number from its parts: below 2^lo, the field, and above it. -/
theorem field_parts (n P Q : Nat) : n = n % P + n / P % Q * P + n / (P * Q) * (P * Q) := by
  have h1 := Nat.div_add_mod n P
  have h2 := Nat.div_add_mod (n / P) Q
  rw [Nat.div_div_eq_div_mul] at h2
  generalize n / (P * Q) = c at *
  generalize n / P % Q = f at *
  rw [← h2] at h1
  generalize n % P = a at *
  rw [← h1]; ring

/-- A word with one field replaced, as a number. -/
theorem putField_toNat (w : BitVec 32) (lo width v : Nat) (h : lo + width ≤ 32) :
    (putField w lo width v).toNat = w.toNat % 2 ^ lo + v % 2 ^ width * 2 ^ lo + w.toNat / 2 ^ (lo + width) * 2 ^ (lo + width) := by
  have hp := field_parts w.toNat (2 ^ lo) (2 ^ width)
  have hw := w.isLt
  unfold putField fieldOf
  rw [BitVec.toNat_ofNat]
  rw [← Nat.pow_add] at hp
  have hf : w.toNat / 2 ^ lo % 2 ^ width < 2 ^ width := Nat.mod_lt _ (Nat.two_pow_pos _)
  have hv : v % 2 ^ width < 2 ^ width := Nat.mod_lt _ (Nat.two_pow_pos _)
  have ha : w.toNat % 2 ^ lo < 2 ^ lo := Nat.mod_lt _ (Nat.two_pow_pos _)
  generalize w.toNat / 2 ^ lo % 2 ^ width = f at *
  generalize v % 2 ^ width = y at *
  generalize w.toNat % 2 ^ lo = a at *
  have hc : w.toNat / 2 ^ (lo + width) * 2 ^ (lo + width) + 2 ^ (lo + width) ≤ 2 ^ 32 := by
    have h1 : w.toNat / 2 ^ (lo + width) < 2 ^ (32 - (lo + width)) := by
      apply Nat.div_lt_of_lt_mul; rw [← Nat.pow_add]; rw [show lo + width + (32 - (lo + width)) = 32 by omega]; exact hw
    have h2 : (w.toNat / 2 ^ (lo + width) + 1) * 2 ^ (lo + width) ≤ 2 ^ (32 - (lo + width)) * 2 ^ (lo + width) := Nat.mul_le_mul_right _ h1
    rw [← Nat.pow_add, show 32 - (lo + width) + (lo + width) = 32 by omega, Nat.add_mul, Nat.one_mul] at h2
    exact h2
  have hy : y * 2 ^ lo + 2 ^ lo ≤ 2 ^ (lo + width) := by
    have : (y + 1) * 2 ^ lo ≤ 2 ^ width * 2 ^ lo := Nat.mul_le_mul_right _ hv
    rw [← Nat.pow_add, Nat.add_comm width lo, Nat.add_mul, Nat.one_mul] at this
    exact this
  generalize w.toNat / 2 ^ (lo + width) * 2 ^ (lo + width) = c at *
  rw [Nat.mod_eq_of_lt (by omega)]
  omega

/-- A field reads back what was put in it, cut to its width. -/
theorem fieldOf_putField (w : BitVec 32) (lo width v : Nat) (h : lo + width ≤ 32) : fieldOf (putField w lo width v) lo width = v % 2 ^ width := by
  unfold fieldOf
  rw [putField_toNat w lo width v h]
  have ha : w.toNat % 2 ^ lo < 2 ^ lo := Nat.mod_lt _ (Nat.two_pow_pos _)
  have hv : v % 2 ^ width < 2 ^ width := Nat.mod_lt _ (Nat.two_pow_pos _)
  rw [Nat.pow_add, show ∀ a y c P Q : Nat, a + y * P + c * (P * Q) = a + P * (y + Q * c) from fun a y c P Q => by
    rw [Nat.mul_add, ← Nat.mul_assoc P Q c, Nat.mul_comm c, Nat.mul_comm y]; omega]
  rw [Nat.add_mul_div_left _ _ (Nat.two_pow_pos _), Nat.div_eq_of_lt ha, Nat.zero_add, Nat.add_mul_mod_self_left, Nat.mod_eq_of_lt hv]

/-- Another field of the word is unchanged. -/
theorem fieldOf_putField_ne (w : BitVec 32) (lo width v lo' width' : Nat) (h : lo + width ≤ 32) (d : lo' + width' ≤ lo ∨ lo + width ≤ lo') :
    fieldOf (putField w lo width v) lo' width' = fieldOf w lo' width' := by
  have key : ∀ n : Nat, n / 2 ^ lo' % 2 ^ width' = n % 2 ^ (lo' + width') / 2 ^ lo' := fun n => by rw [Nat.pow_add, Nat.mod_mul_right_div_self]
  have hp := field_parts w.toNat (2 ^ lo) (2 ^ width)
  rw [← Nat.pow_add] at hp
  unfold fieldOf
  rw [putField_toNat w lo width v h]
  rcases d with d | d
  · rw [key, key]
    congr 1
    have e : ∀ y c : Nat, (w.toNat % 2 ^ lo + y * 2 ^ lo + c * 2 ^ (lo + width)) % 2 ^ (lo' + width') = w.toNat % 2 ^ lo % 2 ^ (lo' + width') := fun y c => by
      have p1 : 2 ^ lo = 2 ^ (lo' + width') * 2 ^ (lo - (lo' + width')) := by rw [← Nat.pow_add]; congr 1; omega
      have p2 : 2 ^ (lo + width) = 2 ^ (lo' + width') * 2 ^ (lo + width - (lo' + width')) := by rw [← Nat.pow_add]; congr 1; omega
      generalize w.toNat % 2 ^ lo = a
      rw [p1, p2, Nat.mul_comm y, Nat.mul_comm c, Nat.mul_assoc, Nat.mul_assoc, Nat.add_mul_mod_self_left, Nat.add_mul_mod_self_left]
    rw [e]
    conv => rhs; rw [hp]
    rw [e]
  · have e : ∀ y c : Nat, y < 2 ^ width → (w.toNat % 2 ^ lo + y * 2 ^ lo + c * 2 ^ (lo + width)) / 2 ^ lo' = c / 2 ^ (lo' - (lo + width)) := fun y c hy => by
      have p1 : 2 ^ lo' = 2 ^ (lo + width) * 2 ^ (lo' - (lo + width)) := by rw [← Nat.pow_add]; congr 1; omega
      have ha : w.toNat % 2 ^ lo < 2 ^ lo := Nat.mod_lt _ (Nat.two_pow_pos _)
      have hb : w.toNat % 2 ^ lo + y * 2 ^ lo < 2 ^ (lo + width) := by
        have : (y + 1) * 2 ^ lo ≤ 2 ^ width * 2 ^ lo := Nat.mul_le_mul_right _ hy
        rw [← Nat.pow_add, Nat.add_comm width lo, Nat.add_mul, Nat.one_mul] at this
        omega
      rw [p1, ← Nat.div_div_eq_div_mul, Nat.mul_comm c, Nat.add_mul_div_left _ _ (Nat.two_pow_pos _), Nat.div_eq_of_lt hb, Nat.zero_add]
    rw [e _ _ (Nat.mod_lt _ (Nat.two_pow_pos _))]
    conv => rhs; rw [hp]
    rw [e _ _ (Nat.mod_lt _ (Nat.two_pow_pos _))]

/-! ### The register file -/

@[simp] theorem State.reg_setReg_same (s : State) (u off : Nat) (w : BitVec 32) : (s.setReg u off w).reg u off = w := by simp [State.reg, State.setReg]

/-- Keys of offsets inside the window meet only for the same unit and offset. -/
theorem regKey_ne {u v a b : Nat} (ha : a < regSpan) (hb : b < regSpan) (h : u ≠ v ∨ a ≠ b) : regKey u a ≠ regKey v b := by
  unfold regKey regSpan at *; omega

theorem State.reg_setReg_ne (s : State) {u off v b : Nat} (w : BitVec 32) (h : regKey v b ≠ regKey u off) : (s.setReg u off w).reg v b = s.reg v b := by
  unfold State.reg State.setReg; exact SMap.get_set_ne _ _ _ h

/-- A register write changes one register. -/
theorem State.reg_setReg (s : State) (u off v b : Nat) (w : BitVec 32) : (s.setReg u off w).reg v b = if regKey v b = regKey u off then w else s.reg v b := by
  unfold State.reg State.setReg; exact SMap.get_set _ _ _ _ _

/-- A field inside the word. -/
def Fld.inWord (f : Fld) : Bool := decide (f.lo + f.width ≤ 32 ∧ f.off < regSpan)

/-- Two fields that share no bit. -/
def Fld.apart (f g : Fld) : Bool := decide (f.off ≠ g.off ∨ f.lo + f.width ≤ g.lo ∨ g.lo + g.width ≤ f.lo)

/-- A field reads back what was put in it. -/
theorem State.fld_setFld_same (s : State) (u : Nat) (f : Fld) (v : Nat) (h : f.inWord = true) : (s.setFld u f v).fld u f = v % 2 ^ f.width := by
  simp only [Fld.inWord, decide_eq_true_eq] at h
  simp only [State.fld, State.setFld, State.reg_setReg_same]
  exact fieldOf_putField _ _ _ _ h.1

/-- Another field is unchanged, of any unit. -/
theorem State.fld_setFld_apart (s : State) (u u' : Nat) (f g : Fld) (v : Nat) (h : f.inWord = true) (h' : g.inWord = true) (d : g.apart f = true) :
    (s.setFld u f v).fld u' g = s.fld u' g := by
  simp only [Fld.inWord, Fld.apart, decide_eq_true_eq] at h h' d
  simp only [State.fld, State.setFld, State.reg_setReg]
  split
  · rename_i e
    by_cases c : g.off = f.off ∧ u' = u
    · obtain ⟨c1, rfl⟩ := c
      rw [c1]; exact fieldOf_putField_ne _ _ _ _ _ _ h.1 (by omega)
    · exact absurd e (regKey_ne h'.2 h.2 (by omega))
  · rfl

/-- The same field of another unit is unchanged. -/
theorem State.fld_setFld_unit (s : State) {u u' : Nat} (f g : Fld) (v : Nat) (h : f.inWord = true) (h' : g.inWord = true) (d : u' ≠ u) :
    (s.setFld u f v).fld u' g = s.fld u' g := by
  simp only [Fld.inWord, decide_eq_true_eq] at h h'
  simp only [State.fld, State.setFld, State.reg_setReg, if_neg (regKey_ne h'.2 h.2 (Or.inl d))]



/-! ### One lemma per field per update -/


@[simp] theorem State.setReg_part (s : State) (u off : Nat) (w : BitVec 32) : (s.setReg u off w).part = s.part := rfl
@[simp] theorem State.setReg_reqs (s : State) (u off : Nat) (w : BitVec 32) : (s.setReg u off w).reqs = s.reqs := rfl
@[simp] theorem State.setReg_mem (s : State) (u off : Nat) (w : BitVec 32) : (s.setReg u off w).mem = s.mem := rfl
@[simp] theorem State.setReg_poison (s : State) (u off : Nat) (w : BitVec 32) : (s.setReg u off w).poison = s.poison := rfl
@[simp] theorem State.setReg_used (s : State) (u off : Nat) (w : BitVec 32) : (s.setReg u off w).used = s.used := rfl
@[simp] theorem State.setReg_bond (s : State) (u off : Nat) (w : BitVec 32) : (s.setReg u off w).bond = s.bond := rfl
@[simp] theorem State.setReg_tod (s : State) (u off : Nat) (w : BitVec 32) : (s.setReg u off w).tod = s.tod := rfl
@[simp] theorem State.setReg_flt (s : State) (u off : Nat) (w : BitVec 32) : (s.setReg u off w).flt = s.flt := rfl
@[simp] theorem State.setReg_cxl (s : State) (u off : Nat) (w : BitVec 32) : (s.setReg u off w).cxl = s.cxl := rfl
@[simp] theorem State.setReg_tru (s : State) (u off : Nat) (w : BitVec 32) : (s.setReg u off w).tru = s.tru := rfl
@[simp] theorem State.setReg_boot (s : State) (u off : Nat) (w : BitVec 32) : (s.setReg u off w).boot = s.boot := rfl
@[simp] theorem State.setReg_sched (s : State) (u off : Nat) (w : BitVec 32) : (s.setReg u off w).sched = s.sched := rfl
@[simp] theorem State.setReg_tc (s : State) (u off : Nat) (w : BitVec 32) : (s.setReg u off w).tc = s.tc := rfl
@[simp] theorem State.setReg_sc (s : State) (u off : Nat) (w : BitVec 32) : (s.setReg u off w).sc = s.sc := rfl
@[simp] theorem State.setReg_seq (s : State) (u off : Nat) (w : BitVec 32) : (s.setReg u off w).seq = s.seq := rfl
@[simp] theorem State.setReg_pal (s : State) (u off : Nat) (w : BitVec 32) : (s.setReg u off w).pal = s.pal := rfl
@[simp] theorem State.setReg_str (s : State) (u off : Nat) (w : BitVec 32) : (s.setReg u off w).str = s.str := rfl
@[simp] theorem State.setReg_emb (s : State) (u off : Nat) (w : BitVec 32) : (s.setReg u off w).emb = s.emb := rfl
@[simp] theorem State.setReg_yz (s : State) (u off : Nat) (w : BitVec 32) : (s.setReg u off w).yz = s.yz := rfl
@[simp] theorem State.setReg_ten (s : State) (u off : Nat) (w : BitVec 32) : (s.setReg u off w).ten = s.ten := rfl
@[simp] theorem State.setReg_cvs (s : State) (u off : Nat) (w : BitVec 32) : (s.setReg u off w).cvs = s.cvs := rfl
@[simp] theorem State.setReg_eth (s : State) (u off : Nat) (w : BitVec 32) : (s.setReg u off w).eth = s.eth := rfl
@[simp] theorem State.setReg_fq (s : State) (u off : Nat) (w : BitVec 32) : (s.setReg u off w).fq = s.fq := rfl
@[simp] theorem State.setReg_rad (s : State) (u off : Nat) (w : BitVec 32) : (s.setReg u off w).rad = s.rad := rfl
@[simp] theorem State.setReg_ldpc (s : State) (u off : Nat) (w : BitVec 32) : (s.setReg u off w).ldpc = s.ldpc := rfl
@[simp] theorem State.setReg_time (s : State) (u off : Nat) (w : BitVec 32) : (s.setReg u off w).time = s.time := rfl
@[simp] theorem State.setReg_pow (s : State) (u off : Nat) (w : BitVec 32) : (s.setReg u off w).pow = s.pow := rfl
@[simp] theorem State.setReg_rst (s : State) (u off : Nat) (w : BitVec 32) : (s.setReg u off w).rst = s.rst := rfl
@[simp] theorem State.setReg_out (s : State) (u off : Nat) (w : BitVec 32) : (s.setReg u off w).out = s.out := rfl
@[simp] theorem State.setReg_free (s : State) (u off : Nat) (w : BitVec 32) : (s.setReg u off w).free = s.free := rfl
@[simp] theorem State.setReg_pending (s : State) (u off : Nat) (w : BitVec 32) : (s.setReg u off w).pending = s.pending := rfl

@[simp] theorem State.setFld_part (s : State) (u : Nat) (f : Fld) (v : Nat) : (s.setFld u f v).part = s.part := rfl
@[simp] theorem State.setFld_reqs (s : State) (u : Nat) (f : Fld) (v : Nat) : (s.setFld u f v).reqs = s.reqs := rfl
@[simp] theorem State.setFld_mem (s : State) (u : Nat) (f : Fld) (v : Nat) : (s.setFld u f v).mem = s.mem := rfl
@[simp] theorem State.setFld_poison (s : State) (u : Nat) (f : Fld) (v : Nat) : (s.setFld u f v).poison = s.poison := rfl
@[simp] theorem State.setFld_used (s : State) (u : Nat) (f : Fld) (v : Nat) : (s.setFld u f v).used = s.used := rfl
@[simp] theorem State.setFld_bond (s : State) (u : Nat) (f : Fld) (v : Nat) : (s.setFld u f v).bond = s.bond := rfl
@[simp] theorem State.setFld_tod (s : State) (u : Nat) (f : Fld) (v : Nat) : (s.setFld u f v).tod = s.tod := rfl
@[simp] theorem State.setFld_flt (s : State) (u : Nat) (f : Fld) (v : Nat) : (s.setFld u f v).flt = s.flt := rfl
@[simp] theorem State.setFld_cxl (s : State) (u : Nat) (f : Fld) (v : Nat) : (s.setFld u f v).cxl = s.cxl := rfl
@[simp] theorem State.setFld_tru (s : State) (u : Nat) (f : Fld) (v : Nat) : (s.setFld u f v).tru = s.tru := rfl
@[simp] theorem State.setFld_boot (s : State) (u : Nat) (f : Fld) (v : Nat) : (s.setFld u f v).boot = s.boot := rfl
@[simp] theorem State.setFld_sched (s : State) (u : Nat) (f : Fld) (v : Nat) : (s.setFld u f v).sched = s.sched := rfl
@[simp] theorem State.setFld_tc (s : State) (u : Nat) (f : Fld) (v : Nat) : (s.setFld u f v).tc = s.tc := rfl
@[simp] theorem State.setFld_sc (s : State) (u : Nat) (f : Fld) (v : Nat) : (s.setFld u f v).sc = s.sc := rfl
@[simp] theorem State.setFld_seq (s : State) (u : Nat) (f : Fld) (v : Nat) : (s.setFld u f v).seq = s.seq := rfl
@[simp] theorem State.setFld_pal (s : State) (u : Nat) (f : Fld) (v : Nat) : (s.setFld u f v).pal = s.pal := rfl
@[simp] theorem State.setFld_str (s : State) (u : Nat) (f : Fld) (v : Nat) : (s.setFld u f v).str = s.str := rfl
@[simp] theorem State.setFld_emb (s : State) (u : Nat) (f : Fld) (v : Nat) : (s.setFld u f v).emb = s.emb := rfl
@[simp] theorem State.setFld_yz (s : State) (u : Nat) (f : Fld) (v : Nat) : (s.setFld u f v).yz = s.yz := rfl
@[simp] theorem State.setFld_ten (s : State) (u : Nat) (f : Fld) (v : Nat) : (s.setFld u f v).ten = s.ten := rfl
@[simp] theorem State.setFld_cvs (s : State) (u : Nat) (f : Fld) (v : Nat) : (s.setFld u f v).cvs = s.cvs := rfl
@[simp] theorem State.setFld_eth (s : State) (u : Nat) (f : Fld) (v : Nat) : (s.setFld u f v).eth = s.eth := rfl
@[simp] theorem State.setFld_fq (s : State) (u : Nat) (f : Fld) (v : Nat) : (s.setFld u f v).fq = s.fq := rfl
@[simp] theorem State.setFld_rad (s : State) (u : Nat) (f : Fld) (v : Nat) : (s.setFld u f v).rad = s.rad := rfl
@[simp] theorem State.setFld_ldpc (s : State) (u : Nat) (f : Fld) (v : Nat) : (s.setFld u f v).ldpc = s.ldpc := rfl
@[simp] theorem State.setFld_time (s : State) (u : Nat) (f : Fld) (v : Nat) : (s.setFld u f v).time = s.time := rfl
@[simp] theorem State.setFld_pow (s : State) (u : Nat) (f : Fld) (v : Nat) : (s.setFld u f v).pow = s.pow := rfl
@[simp] theorem State.setFld_rst (s : State) (u : Nat) (f : Fld) (v : Nat) : (s.setFld u f v).rst = s.rst := rfl
@[simp] theorem State.setFld_out (s : State) (u : Nat) (f : Fld) (v : Nat) : (s.setFld u f v).out = s.out := rfl
@[simp] theorem State.setFld_free (s : State) (u : Nat) (f : Fld) (v : Nat) : (s.setFld u f v).free = s.free := rfl
@[simp] theorem State.setFld_pending (s : State) (u : Nat) (f : Fld) (v : Nat) : (s.setFld u f v).pending = s.pending := rfl

@[simp] theorem State.setFlag_part (s : State) (u : Nat) (f : Fld) (b : Bool) : (s.setFlag u f b).part = s.part := rfl
@[simp] theorem State.setFlag_reqs (s : State) (u : Nat) (f : Fld) (b : Bool) : (s.setFlag u f b).reqs = s.reqs := rfl
@[simp] theorem State.setFlag_mem (s : State) (u : Nat) (f : Fld) (b : Bool) : (s.setFlag u f b).mem = s.mem := rfl
@[simp] theorem State.setFlag_poison (s : State) (u : Nat) (f : Fld) (b : Bool) : (s.setFlag u f b).poison = s.poison := rfl
@[simp] theorem State.setFlag_used (s : State) (u : Nat) (f : Fld) (b : Bool) : (s.setFlag u f b).used = s.used := rfl
@[simp] theorem State.setFlag_bond (s : State) (u : Nat) (f : Fld) (b : Bool) : (s.setFlag u f b).bond = s.bond := rfl
@[simp] theorem State.setFlag_tod (s : State) (u : Nat) (f : Fld) (b : Bool) : (s.setFlag u f b).tod = s.tod := rfl
@[simp] theorem State.setFlag_flt (s : State) (u : Nat) (f : Fld) (b : Bool) : (s.setFlag u f b).flt = s.flt := rfl
@[simp] theorem State.setFlag_cxl (s : State) (u : Nat) (f : Fld) (b : Bool) : (s.setFlag u f b).cxl = s.cxl := rfl
@[simp] theorem State.setFlag_tru (s : State) (u : Nat) (f : Fld) (b : Bool) : (s.setFlag u f b).tru = s.tru := rfl
@[simp] theorem State.setFlag_boot (s : State) (u : Nat) (f : Fld) (b : Bool) : (s.setFlag u f b).boot = s.boot := rfl
@[simp] theorem State.setFlag_sched (s : State) (u : Nat) (f : Fld) (b : Bool) : (s.setFlag u f b).sched = s.sched := rfl
@[simp] theorem State.setFlag_tc (s : State) (u : Nat) (f : Fld) (b : Bool) : (s.setFlag u f b).tc = s.tc := rfl
@[simp] theorem State.setFlag_sc (s : State) (u : Nat) (f : Fld) (b : Bool) : (s.setFlag u f b).sc = s.sc := rfl
@[simp] theorem State.setFlag_seq (s : State) (u : Nat) (f : Fld) (b : Bool) : (s.setFlag u f b).seq = s.seq := rfl
@[simp] theorem State.setFlag_pal (s : State) (u : Nat) (f : Fld) (b : Bool) : (s.setFlag u f b).pal = s.pal := rfl
@[simp] theorem State.setFlag_str (s : State) (u : Nat) (f : Fld) (b : Bool) : (s.setFlag u f b).str = s.str := rfl
@[simp] theorem State.setFlag_emb (s : State) (u : Nat) (f : Fld) (b : Bool) : (s.setFlag u f b).emb = s.emb := rfl
@[simp] theorem State.setFlag_yz (s : State) (u : Nat) (f : Fld) (b : Bool) : (s.setFlag u f b).yz = s.yz := rfl
@[simp] theorem State.setFlag_ten (s : State) (u : Nat) (f : Fld) (b : Bool) : (s.setFlag u f b).ten = s.ten := rfl
@[simp] theorem State.setFlag_cvs (s : State) (u : Nat) (f : Fld) (b : Bool) : (s.setFlag u f b).cvs = s.cvs := rfl
@[simp] theorem State.setFlag_eth (s : State) (u : Nat) (f : Fld) (b : Bool) : (s.setFlag u f b).eth = s.eth := rfl
@[simp] theorem State.setFlag_fq (s : State) (u : Nat) (f : Fld) (b : Bool) : (s.setFlag u f b).fq = s.fq := rfl
@[simp] theorem State.setFlag_rad (s : State) (u : Nat) (f : Fld) (b : Bool) : (s.setFlag u f b).rad = s.rad := rfl
@[simp] theorem State.setFlag_ldpc (s : State) (u : Nat) (f : Fld) (b : Bool) : (s.setFlag u f b).ldpc = s.ldpc := rfl
@[simp] theorem State.setFlag_time (s : State) (u : Nat) (f : Fld) (b : Bool) : (s.setFlag u f b).time = s.time := rfl
@[simp] theorem State.setFlag_pow (s : State) (u : Nat) (f : Fld) (b : Bool) : (s.setFlag u f b).pow = s.pow := rfl
@[simp] theorem State.setFlag_rst (s : State) (u : Nat) (f : Fld) (b : Bool) : (s.setFlag u f b).rst = s.rst := rfl
@[simp] theorem State.setFlag_out (s : State) (u : Nat) (f : Fld) (b : Bool) : (s.setFlag u f b).out = s.out := rfl
@[simp] theorem State.setFlag_free (s : State) (u : Nat) (f : Fld) (b : Bool) : (s.setFlag u f b).free = s.free := rfl
@[simp] theorem State.setFlag_pending (s : State) (u : Nat) (f : Fld) (b : Bool) : (s.setFlag u f b).pending = s.pending := rfl

@[simp] theorem State.orFld_part (s : State) (u : Nat) (f : Fld) (m : Nat) : (s.orFld u f m).part = s.part := rfl
@[simp] theorem State.orFld_reqs (s : State) (u : Nat) (f : Fld) (m : Nat) : (s.orFld u f m).reqs = s.reqs := rfl
@[simp] theorem State.orFld_mem (s : State) (u : Nat) (f : Fld) (m : Nat) : (s.orFld u f m).mem = s.mem := rfl
@[simp] theorem State.orFld_poison (s : State) (u : Nat) (f : Fld) (m : Nat) : (s.orFld u f m).poison = s.poison := rfl
@[simp] theorem State.orFld_used (s : State) (u : Nat) (f : Fld) (m : Nat) : (s.orFld u f m).used = s.used := rfl
@[simp] theorem State.orFld_bond (s : State) (u : Nat) (f : Fld) (m : Nat) : (s.orFld u f m).bond = s.bond := rfl
@[simp] theorem State.orFld_tod (s : State) (u : Nat) (f : Fld) (m : Nat) : (s.orFld u f m).tod = s.tod := rfl
@[simp] theorem State.orFld_flt (s : State) (u : Nat) (f : Fld) (m : Nat) : (s.orFld u f m).flt = s.flt := rfl
@[simp] theorem State.orFld_cxl (s : State) (u : Nat) (f : Fld) (m : Nat) : (s.orFld u f m).cxl = s.cxl := rfl
@[simp] theorem State.orFld_tru (s : State) (u : Nat) (f : Fld) (m : Nat) : (s.orFld u f m).tru = s.tru := rfl
@[simp] theorem State.orFld_boot (s : State) (u : Nat) (f : Fld) (m : Nat) : (s.orFld u f m).boot = s.boot := rfl
@[simp] theorem State.orFld_sched (s : State) (u : Nat) (f : Fld) (m : Nat) : (s.orFld u f m).sched = s.sched := rfl
@[simp] theorem State.orFld_tc (s : State) (u : Nat) (f : Fld) (m : Nat) : (s.orFld u f m).tc = s.tc := rfl
@[simp] theorem State.orFld_sc (s : State) (u : Nat) (f : Fld) (m : Nat) : (s.orFld u f m).sc = s.sc := rfl
@[simp] theorem State.orFld_seq (s : State) (u : Nat) (f : Fld) (m : Nat) : (s.orFld u f m).seq = s.seq := rfl
@[simp] theorem State.orFld_pal (s : State) (u : Nat) (f : Fld) (m : Nat) : (s.orFld u f m).pal = s.pal := rfl
@[simp] theorem State.orFld_str (s : State) (u : Nat) (f : Fld) (m : Nat) : (s.orFld u f m).str = s.str := rfl
@[simp] theorem State.orFld_emb (s : State) (u : Nat) (f : Fld) (m : Nat) : (s.orFld u f m).emb = s.emb := rfl
@[simp] theorem State.orFld_yz (s : State) (u : Nat) (f : Fld) (m : Nat) : (s.orFld u f m).yz = s.yz := rfl
@[simp] theorem State.orFld_ten (s : State) (u : Nat) (f : Fld) (m : Nat) : (s.orFld u f m).ten = s.ten := rfl
@[simp] theorem State.orFld_cvs (s : State) (u : Nat) (f : Fld) (m : Nat) : (s.orFld u f m).cvs = s.cvs := rfl
@[simp] theorem State.orFld_eth (s : State) (u : Nat) (f : Fld) (m : Nat) : (s.orFld u f m).eth = s.eth := rfl
@[simp] theorem State.orFld_fq (s : State) (u : Nat) (f : Fld) (m : Nat) : (s.orFld u f m).fq = s.fq := rfl
@[simp] theorem State.orFld_rad (s : State) (u : Nat) (f : Fld) (m : Nat) : (s.orFld u f m).rad = s.rad := rfl
@[simp] theorem State.orFld_ldpc (s : State) (u : Nat) (f : Fld) (m : Nat) : (s.orFld u f m).ldpc = s.ldpc := rfl
@[simp] theorem State.orFld_time (s : State) (u : Nat) (f : Fld) (m : Nat) : (s.orFld u f m).time = s.time := rfl
@[simp] theorem State.orFld_pow (s : State) (u : Nat) (f : Fld) (m : Nat) : (s.orFld u f m).pow = s.pow := rfl
@[simp] theorem State.orFld_rst (s : State) (u : Nat) (f : Fld) (m : Nat) : (s.orFld u f m).rst = s.rst := rfl
@[simp] theorem State.orFld_out (s : State) (u : Nat) (f : Fld) (m : Nat) : (s.orFld u f m).out = s.out := rfl
@[simp] theorem State.orFld_free (s : State) (u : Nat) (f : Fld) (m : Nat) : (s.orFld u f m).free = s.free := rfl
@[simp] theorem State.orFld_pending (s : State) (u : Nat) (f : Fld) (m : Nat) : (s.orFld u f m).pending = s.pending := rfl

@[simp] theorem State.clrFld_part (s : State) (u : Nat) (f : Fld) (m : Nat) : (s.clrFld u f m).part = s.part := rfl
@[simp] theorem State.clrFld_reqs (s : State) (u : Nat) (f : Fld) (m : Nat) : (s.clrFld u f m).reqs = s.reqs := rfl
@[simp] theorem State.clrFld_mem (s : State) (u : Nat) (f : Fld) (m : Nat) : (s.clrFld u f m).mem = s.mem := rfl
@[simp] theorem State.clrFld_poison (s : State) (u : Nat) (f : Fld) (m : Nat) : (s.clrFld u f m).poison = s.poison := rfl
@[simp] theorem State.clrFld_used (s : State) (u : Nat) (f : Fld) (m : Nat) : (s.clrFld u f m).used = s.used := rfl
@[simp] theorem State.clrFld_bond (s : State) (u : Nat) (f : Fld) (m : Nat) : (s.clrFld u f m).bond = s.bond := rfl
@[simp] theorem State.clrFld_tod (s : State) (u : Nat) (f : Fld) (m : Nat) : (s.clrFld u f m).tod = s.tod := rfl
@[simp] theorem State.clrFld_flt (s : State) (u : Nat) (f : Fld) (m : Nat) : (s.clrFld u f m).flt = s.flt := rfl
@[simp] theorem State.clrFld_cxl (s : State) (u : Nat) (f : Fld) (m : Nat) : (s.clrFld u f m).cxl = s.cxl := rfl
@[simp] theorem State.clrFld_tru (s : State) (u : Nat) (f : Fld) (m : Nat) : (s.clrFld u f m).tru = s.tru := rfl
@[simp] theorem State.clrFld_boot (s : State) (u : Nat) (f : Fld) (m : Nat) : (s.clrFld u f m).boot = s.boot := rfl
@[simp] theorem State.clrFld_sched (s : State) (u : Nat) (f : Fld) (m : Nat) : (s.clrFld u f m).sched = s.sched := rfl
@[simp] theorem State.clrFld_tc (s : State) (u : Nat) (f : Fld) (m : Nat) : (s.clrFld u f m).tc = s.tc := rfl
@[simp] theorem State.clrFld_sc (s : State) (u : Nat) (f : Fld) (m : Nat) : (s.clrFld u f m).sc = s.sc := rfl
@[simp] theorem State.clrFld_seq (s : State) (u : Nat) (f : Fld) (m : Nat) : (s.clrFld u f m).seq = s.seq := rfl
@[simp] theorem State.clrFld_pal (s : State) (u : Nat) (f : Fld) (m : Nat) : (s.clrFld u f m).pal = s.pal := rfl
@[simp] theorem State.clrFld_str (s : State) (u : Nat) (f : Fld) (m : Nat) : (s.clrFld u f m).str = s.str := rfl
@[simp] theorem State.clrFld_emb (s : State) (u : Nat) (f : Fld) (m : Nat) : (s.clrFld u f m).emb = s.emb := rfl
@[simp] theorem State.clrFld_yz (s : State) (u : Nat) (f : Fld) (m : Nat) : (s.clrFld u f m).yz = s.yz := rfl
@[simp] theorem State.clrFld_ten (s : State) (u : Nat) (f : Fld) (m : Nat) : (s.clrFld u f m).ten = s.ten := rfl
@[simp] theorem State.clrFld_cvs (s : State) (u : Nat) (f : Fld) (m : Nat) : (s.clrFld u f m).cvs = s.cvs := rfl
@[simp] theorem State.clrFld_eth (s : State) (u : Nat) (f : Fld) (m : Nat) : (s.clrFld u f m).eth = s.eth := rfl
@[simp] theorem State.clrFld_fq (s : State) (u : Nat) (f : Fld) (m : Nat) : (s.clrFld u f m).fq = s.fq := rfl
@[simp] theorem State.clrFld_rad (s : State) (u : Nat) (f : Fld) (m : Nat) : (s.clrFld u f m).rad = s.rad := rfl
@[simp] theorem State.clrFld_ldpc (s : State) (u : Nat) (f : Fld) (m : Nat) : (s.clrFld u f m).ldpc = s.ldpc := rfl
@[simp] theorem State.clrFld_time (s : State) (u : Nat) (f : Fld) (m : Nat) : (s.clrFld u f m).time = s.time := rfl
@[simp] theorem State.clrFld_pow (s : State) (u : Nat) (f : Fld) (m : Nat) : (s.clrFld u f m).pow = s.pow := rfl
@[simp] theorem State.clrFld_rst (s : State) (u : Nat) (f : Fld) (m : Nat) : (s.clrFld u f m).rst = s.rst := rfl
@[simp] theorem State.clrFld_out (s : State) (u : Nat) (f : Fld) (m : Nat) : (s.clrFld u f m).out = s.out := rfl
@[simp] theorem State.clrFld_free (s : State) (u : Nat) (f : Fld) (m : Nat) : (s.clrFld u f m).free = s.free := rfl
@[simp] theorem State.clrFld_pending (s : State) (u : Nat) (f : Fld) (m : Nat) : (s.clrFld u f m).pending = s.pending := rfl

@[simp] theorem State.incSat_part (s : State) (u : Nat) (f : Fld) (n : Nat) : (s.incSat u f n).part = s.part := rfl
@[simp] theorem State.incSat_reqs (s : State) (u : Nat) (f : Fld) (n : Nat) : (s.incSat u f n).reqs = s.reqs := rfl
@[simp] theorem State.incSat_mem (s : State) (u : Nat) (f : Fld) (n : Nat) : (s.incSat u f n).mem = s.mem := rfl
@[simp] theorem State.incSat_poison (s : State) (u : Nat) (f : Fld) (n : Nat) : (s.incSat u f n).poison = s.poison := rfl
@[simp] theorem State.incSat_used (s : State) (u : Nat) (f : Fld) (n : Nat) : (s.incSat u f n).used = s.used := rfl
@[simp] theorem State.incSat_bond (s : State) (u : Nat) (f : Fld) (n : Nat) : (s.incSat u f n).bond = s.bond := rfl
@[simp] theorem State.incSat_tod (s : State) (u : Nat) (f : Fld) (n : Nat) : (s.incSat u f n).tod = s.tod := rfl
@[simp] theorem State.incSat_flt (s : State) (u : Nat) (f : Fld) (n : Nat) : (s.incSat u f n).flt = s.flt := rfl
@[simp] theorem State.incSat_cxl (s : State) (u : Nat) (f : Fld) (n : Nat) : (s.incSat u f n).cxl = s.cxl := rfl
@[simp] theorem State.incSat_tru (s : State) (u : Nat) (f : Fld) (n : Nat) : (s.incSat u f n).tru = s.tru := rfl
@[simp] theorem State.incSat_boot (s : State) (u : Nat) (f : Fld) (n : Nat) : (s.incSat u f n).boot = s.boot := rfl
@[simp] theorem State.incSat_sched (s : State) (u : Nat) (f : Fld) (n : Nat) : (s.incSat u f n).sched = s.sched := rfl
@[simp] theorem State.incSat_tc (s : State) (u : Nat) (f : Fld) (n : Nat) : (s.incSat u f n).tc = s.tc := rfl
@[simp] theorem State.incSat_sc (s : State) (u : Nat) (f : Fld) (n : Nat) : (s.incSat u f n).sc = s.sc := rfl
@[simp] theorem State.incSat_seq (s : State) (u : Nat) (f : Fld) (n : Nat) : (s.incSat u f n).seq = s.seq := rfl
@[simp] theorem State.incSat_pal (s : State) (u : Nat) (f : Fld) (n : Nat) : (s.incSat u f n).pal = s.pal := rfl
@[simp] theorem State.incSat_str (s : State) (u : Nat) (f : Fld) (n : Nat) : (s.incSat u f n).str = s.str := rfl
@[simp] theorem State.incSat_emb (s : State) (u : Nat) (f : Fld) (n : Nat) : (s.incSat u f n).emb = s.emb := rfl
@[simp] theorem State.incSat_yz (s : State) (u : Nat) (f : Fld) (n : Nat) : (s.incSat u f n).yz = s.yz := rfl
@[simp] theorem State.incSat_ten (s : State) (u : Nat) (f : Fld) (n : Nat) : (s.incSat u f n).ten = s.ten := rfl
@[simp] theorem State.incSat_cvs (s : State) (u : Nat) (f : Fld) (n : Nat) : (s.incSat u f n).cvs = s.cvs := rfl
@[simp] theorem State.incSat_eth (s : State) (u : Nat) (f : Fld) (n : Nat) : (s.incSat u f n).eth = s.eth := rfl
@[simp] theorem State.incSat_fq (s : State) (u : Nat) (f : Fld) (n : Nat) : (s.incSat u f n).fq = s.fq := rfl
@[simp] theorem State.incSat_rad (s : State) (u : Nat) (f : Fld) (n : Nat) : (s.incSat u f n).rad = s.rad := rfl
@[simp] theorem State.incSat_ldpc (s : State) (u : Nat) (f : Fld) (n : Nat) : (s.incSat u f n).ldpc = s.ldpc := rfl
@[simp] theorem State.incSat_time (s : State) (u : Nat) (f : Fld) (n : Nat) : (s.incSat u f n).time = s.time := rfl
@[simp] theorem State.incSat_pow (s : State) (u : Nat) (f : Fld) (n : Nat) : (s.incSat u f n).pow = s.pow := rfl
@[simp] theorem State.incSat_rst (s : State) (u : Nat) (f : Fld) (n : Nat) : (s.incSat u f n).rst = s.rst := rfl
@[simp] theorem State.incSat_out (s : State) (u : Nat) (f : Fld) (n : Nat) : (s.incSat u f n).out = s.out := rfl
@[simp] theorem State.incSat_free (s : State) (u : Nat) (f : Fld) (n : Nat) : (s.incSat u f n).free = s.free := rfl
@[simp] theorem State.incSat_pending (s : State) (u : Nat) (f : Fld) (n : Nat) : (s.incSat u f n).pending = s.pending := rfl

@[simp] theorem State.incWrap_part (s : State) (u : Nat) (f : Fld) (n : Nat) : (s.incWrap u f n).part = s.part := rfl
@[simp] theorem State.incWrap_reqs (s : State) (u : Nat) (f : Fld) (n : Nat) : (s.incWrap u f n).reqs = s.reqs := rfl
@[simp] theorem State.incWrap_mem (s : State) (u : Nat) (f : Fld) (n : Nat) : (s.incWrap u f n).mem = s.mem := rfl
@[simp] theorem State.incWrap_poison (s : State) (u : Nat) (f : Fld) (n : Nat) : (s.incWrap u f n).poison = s.poison := rfl
@[simp] theorem State.incWrap_used (s : State) (u : Nat) (f : Fld) (n : Nat) : (s.incWrap u f n).used = s.used := rfl
@[simp] theorem State.incWrap_bond (s : State) (u : Nat) (f : Fld) (n : Nat) : (s.incWrap u f n).bond = s.bond := rfl
@[simp] theorem State.incWrap_tod (s : State) (u : Nat) (f : Fld) (n : Nat) : (s.incWrap u f n).tod = s.tod := rfl
@[simp] theorem State.incWrap_flt (s : State) (u : Nat) (f : Fld) (n : Nat) : (s.incWrap u f n).flt = s.flt := rfl
@[simp] theorem State.incWrap_cxl (s : State) (u : Nat) (f : Fld) (n : Nat) : (s.incWrap u f n).cxl = s.cxl := rfl
@[simp] theorem State.incWrap_tru (s : State) (u : Nat) (f : Fld) (n : Nat) : (s.incWrap u f n).tru = s.tru := rfl
@[simp] theorem State.incWrap_boot (s : State) (u : Nat) (f : Fld) (n : Nat) : (s.incWrap u f n).boot = s.boot := rfl
@[simp] theorem State.incWrap_sched (s : State) (u : Nat) (f : Fld) (n : Nat) : (s.incWrap u f n).sched = s.sched := rfl
@[simp] theorem State.incWrap_tc (s : State) (u : Nat) (f : Fld) (n : Nat) : (s.incWrap u f n).tc = s.tc := rfl
@[simp] theorem State.incWrap_sc (s : State) (u : Nat) (f : Fld) (n : Nat) : (s.incWrap u f n).sc = s.sc := rfl
@[simp] theorem State.incWrap_seq (s : State) (u : Nat) (f : Fld) (n : Nat) : (s.incWrap u f n).seq = s.seq := rfl
@[simp] theorem State.incWrap_pal (s : State) (u : Nat) (f : Fld) (n : Nat) : (s.incWrap u f n).pal = s.pal := rfl
@[simp] theorem State.incWrap_str (s : State) (u : Nat) (f : Fld) (n : Nat) : (s.incWrap u f n).str = s.str := rfl
@[simp] theorem State.incWrap_emb (s : State) (u : Nat) (f : Fld) (n : Nat) : (s.incWrap u f n).emb = s.emb := rfl
@[simp] theorem State.incWrap_yz (s : State) (u : Nat) (f : Fld) (n : Nat) : (s.incWrap u f n).yz = s.yz := rfl
@[simp] theorem State.incWrap_ten (s : State) (u : Nat) (f : Fld) (n : Nat) : (s.incWrap u f n).ten = s.ten := rfl
@[simp] theorem State.incWrap_cvs (s : State) (u : Nat) (f : Fld) (n : Nat) : (s.incWrap u f n).cvs = s.cvs := rfl
@[simp] theorem State.incWrap_eth (s : State) (u : Nat) (f : Fld) (n : Nat) : (s.incWrap u f n).eth = s.eth := rfl
@[simp] theorem State.incWrap_fq (s : State) (u : Nat) (f : Fld) (n : Nat) : (s.incWrap u f n).fq = s.fq := rfl
@[simp] theorem State.incWrap_rad (s : State) (u : Nat) (f : Fld) (n : Nat) : (s.incWrap u f n).rad = s.rad := rfl
@[simp] theorem State.incWrap_ldpc (s : State) (u : Nat) (f : Fld) (n : Nat) : (s.incWrap u f n).ldpc = s.ldpc := rfl
@[simp] theorem State.incWrap_time (s : State) (u : Nat) (f : Fld) (n : Nat) : (s.incWrap u f n).time = s.time := rfl
@[simp] theorem State.incWrap_pow (s : State) (u : Nat) (f : Fld) (n : Nat) : (s.incWrap u f n).pow = s.pow := rfl
@[simp] theorem State.incWrap_rst (s : State) (u : Nat) (f : Fld) (n : Nat) : (s.incWrap u f n).rst = s.rst := rfl
@[simp] theorem State.incWrap_out (s : State) (u : Nat) (f : Fld) (n : Nat) : (s.incWrap u f n).out = s.out := rfl
@[simp] theorem State.incWrap_free (s : State) (u : Nat) (f : Fld) (n : Nat) : (s.incWrap u f n).free = s.free := rfl
@[simp] theorem State.incWrap_pending (s : State) (u : Nat) (f : Fld) (n : Nat) : (s.incWrap u f n).pending = s.pending := rfl

@[simp] theorem State.setFld64_part (s : State) (u : Nat) (lo hi : Fld) (v : Nat) : (s.setFld64 u lo hi v).part = s.part := rfl
@[simp] theorem State.setFld64_reqs (s : State) (u : Nat) (lo hi : Fld) (v : Nat) : (s.setFld64 u lo hi v).reqs = s.reqs := rfl
@[simp] theorem State.setFld64_mem (s : State) (u : Nat) (lo hi : Fld) (v : Nat) : (s.setFld64 u lo hi v).mem = s.mem := rfl
@[simp] theorem State.setFld64_poison (s : State) (u : Nat) (lo hi : Fld) (v : Nat) : (s.setFld64 u lo hi v).poison = s.poison := rfl
@[simp] theorem State.setFld64_used (s : State) (u : Nat) (lo hi : Fld) (v : Nat) : (s.setFld64 u lo hi v).used = s.used := rfl
@[simp] theorem State.setFld64_bond (s : State) (u : Nat) (lo hi : Fld) (v : Nat) : (s.setFld64 u lo hi v).bond = s.bond := rfl
@[simp] theorem State.setFld64_tod (s : State) (u : Nat) (lo hi : Fld) (v : Nat) : (s.setFld64 u lo hi v).tod = s.tod := rfl
@[simp] theorem State.setFld64_flt (s : State) (u : Nat) (lo hi : Fld) (v : Nat) : (s.setFld64 u lo hi v).flt = s.flt := rfl
@[simp] theorem State.setFld64_cxl (s : State) (u : Nat) (lo hi : Fld) (v : Nat) : (s.setFld64 u lo hi v).cxl = s.cxl := rfl
@[simp] theorem State.setFld64_tru (s : State) (u : Nat) (lo hi : Fld) (v : Nat) : (s.setFld64 u lo hi v).tru = s.tru := rfl
@[simp] theorem State.setFld64_boot (s : State) (u : Nat) (lo hi : Fld) (v : Nat) : (s.setFld64 u lo hi v).boot = s.boot := rfl
@[simp] theorem State.setFld64_sched (s : State) (u : Nat) (lo hi : Fld) (v : Nat) : (s.setFld64 u lo hi v).sched = s.sched := rfl
@[simp] theorem State.setFld64_tc (s : State) (u : Nat) (lo hi : Fld) (v : Nat) : (s.setFld64 u lo hi v).tc = s.tc := rfl
@[simp] theorem State.setFld64_sc (s : State) (u : Nat) (lo hi : Fld) (v : Nat) : (s.setFld64 u lo hi v).sc = s.sc := rfl
@[simp] theorem State.setFld64_seq (s : State) (u : Nat) (lo hi : Fld) (v : Nat) : (s.setFld64 u lo hi v).seq = s.seq := rfl
@[simp] theorem State.setFld64_pal (s : State) (u : Nat) (lo hi : Fld) (v : Nat) : (s.setFld64 u lo hi v).pal = s.pal := rfl
@[simp] theorem State.setFld64_str (s : State) (u : Nat) (lo hi : Fld) (v : Nat) : (s.setFld64 u lo hi v).str = s.str := rfl
@[simp] theorem State.setFld64_emb (s : State) (u : Nat) (lo hi : Fld) (v : Nat) : (s.setFld64 u lo hi v).emb = s.emb := rfl
@[simp] theorem State.setFld64_yz (s : State) (u : Nat) (lo hi : Fld) (v : Nat) : (s.setFld64 u lo hi v).yz = s.yz := rfl
@[simp] theorem State.setFld64_ten (s : State) (u : Nat) (lo hi : Fld) (v : Nat) : (s.setFld64 u lo hi v).ten = s.ten := rfl
@[simp] theorem State.setFld64_cvs (s : State) (u : Nat) (lo hi : Fld) (v : Nat) : (s.setFld64 u lo hi v).cvs = s.cvs := rfl
@[simp] theorem State.setFld64_eth (s : State) (u : Nat) (lo hi : Fld) (v : Nat) : (s.setFld64 u lo hi v).eth = s.eth := rfl
@[simp] theorem State.setFld64_fq (s : State) (u : Nat) (lo hi : Fld) (v : Nat) : (s.setFld64 u lo hi v).fq = s.fq := rfl
@[simp] theorem State.setFld64_rad (s : State) (u : Nat) (lo hi : Fld) (v : Nat) : (s.setFld64 u lo hi v).rad = s.rad := rfl
@[simp] theorem State.setFld64_ldpc (s : State) (u : Nat) (lo hi : Fld) (v : Nat) : (s.setFld64 u lo hi v).ldpc = s.ldpc := rfl
@[simp] theorem State.setFld64_time (s : State) (u : Nat) (lo hi : Fld) (v : Nat) : (s.setFld64 u lo hi v).time = s.time := rfl
@[simp] theorem State.setFld64_pow (s : State) (u : Nat) (lo hi : Fld) (v : Nat) : (s.setFld64 u lo hi v).pow = s.pow := rfl
@[simp] theorem State.setFld64_rst (s : State) (u : Nat) (lo hi : Fld) (v : Nat) : (s.setFld64 u lo hi v).rst = s.rst := rfl
@[simp] theorem State.setFld64_out (s : State) (u : Nat) (lo hi : Fld) (v : Nat) : (s.setFld64 u lo hi v).out = s.out := rfl
@[simp] theorem State.setFld64_free (s : State) (u : Nat) (lo hi : Fld) (v : Nat) : (s.setFld64 u lo hi v).free = s.free := rfl
@[simp] theorem State.setFld64_pending (s : State) (u : Nat) (lo hi : Fld) (v : Nat) : (s.setFld64 u lo hi v).pending = s.pending := rfl

@[simp] theorem State.inc64_part (s : State) (u : Nat) (lo hi : Fld) (n : Nat) : (s.inc64 u lo hi n).part = s.part := rfl
@[simp] theorem State.inc64_reqs (s : State) (u : Nat) (lo hi : Fld) (n : Nat) : (s.inc64 u lo hi n).reqs = s.reqs := rfl
@[simp] theorem State.inc64_mem (s : State) (u : Nat) (lo hi : Fld) (n : Nat) : (s.inc64 u lo hi n).mem = s.mem := rfl
@[simp] theorem State.inc64_poison (s : State) (u : Nat) (lo hi : Fld) (n : Nat) : (s.inc64 u lo hi n).poison = s.poison := rfl
@[simp] theorem State.inc64_used (s : State) (u : Nat) (lo hi : Fld) (n : Nat) : (s.inc64 u lo hi n).used = s.used := rfl
@[simp] theorem State.inc64_bond (s : State) (u : Nat) (lo hi : Fld) (n : Nat) : (s.inc64 u lo hi n).bond = s.bond := rfl
@[simp] theorem State.inc64_tod (s : State) (u : Nat) (lo hi : Fld) (n : Nat) : (s.inc64 u lo hi n).tod = s.tod := rfl
@[simp] theorem State.inc64_flt (s : State) (u : Nat) (lo hi : Fld) (n : Nat) : (s.inc64 u lo hi n).flt = s.flt := rfl
@[simp] theorem State.inc64_cxl (s : State) (u : Nat) (lo hi : Fld) (n : Nat) : (s.inc64 u lo hi n).cxl = s.cxl := rfl
@[simp] theorem State.inc64_tru (s : State) (u : Nat) (lo hi : Fld) (n : Nat) : (s.inc64 u lo hi n).tru = s.tru := rfl
@[simp] theorem State.inc64_boot (s : State) (u : Nat) (lo hi : Fld) (n : Nat) : (s.inc64 u lo hi n).boot = s.boot := rfl
@[simp] theorem State.inc64_sched (s : State) (u : Nat) (lo hi : Fld) (n : Nat) : (s.inc64 u lo hi n).sched = s.sched := rfl
@[simp] theorem State.inc64_tc (s : State) (u : Nat) (lo hi : Fld) (n : Nat) : (s.inc64 u lo hi n).tc = s.tc := rfl
@[simp] theorem State.inc64_sc (s : State) (u : Nat) (lo hi : Fld) (n : Nat) : (s.inc64 u lo hi n).sc = s.sc := rfl
@[simp] theorem State.inc64_seq (s : State) (u : Nat) (lo hi : Fld) (n : Nat) : (s.inc64 u lo hi n).seq = s.seq := rfl
@[simp] theorem State.inc64_pal (s : State) (u : Nat) (lo hi : Fld) (n : Nat) : (s.inc64 u lo hi n).pal = s.pal := rfl
@[simp] theorem State.inc64_str (s : State) (u : Nat) (lo hi : Fld) (n : Nat) : (s.inc64 u lo hi n).str = s.str := rfl
@[simp] theorem State.inc64_emb (s : State) (u : Nat) (lo hi : Fld) (n : Nat) : (s.inc64 u lo hi n).emb = s.emb := rfl
@[simp] theorem State.inc64_yz (s : State) (u : Nat) (lo hi : Fld) (n : Nat) : (s.inc64 u lo hi n).yz = s.yz := rfl
@[simp] theorem State.inc64_ten (s : State) (u : Nat) (lo hi : Fld) (n : Nat) : (s.inc64 u lo hi n).ten = s.ten := rfl
@[simp] theorem State.inc64_cvs (s : State) (u : Nat) (lo hi : Fld) (n : Nat) : (s.inc64 u lo hi n).cvs = s.cvs := rfl
@[simp] theorem State.inc64_eth (s : State) (u : Nat) (lo hi : Fld) (n : Nat) : (s.inc64 u lo hi n).eth = s.eth := rfl
@[simp] theorem State.inc64_fq (s : State) (u : Nat) (lo hi : Fld) (n : Nat) : (s.inc64 u lo hi n).fq = s.fq := rfl
@[simp] theorem State.inc64_rad (s : State) (u : Nat) (lo hi : Fld) (n : Nat) : (s.inc64 u lo hi n).rad = s.rad := rfl
@[simp] theorem State.inc64_ldpc (s : State) (u : Nat) (lo hi : Fld) (n : Nat) : (s.inc64 u lo hi n).ldpc = s.ldpc := rfl
@[simp] theorem State.inc64_time (s : State) (u : Nat) (lo hi : Fld) (n : Nat) : (s.inc64 u lo hi n).time = s.time := rfl
@[simp] theorem State.inc64_pow (s : State) (u : Nat) (lo hi : Fld) (n : Nat) : (s.inc64 u lo hi n).pow = s.pow := rfl
@[simp] theorem State.inc64_rst (s : State) (u : Nat) (lo hi : Fld) (n : Nat) : (s.inc64 u lo hi n).rst = s.rst := rfl
@[simp] theorem State.inc64_out (s : State) (u : Nat) (lo hi : Fld) (n : Nat) : (s.inc64 u lo hi n).out = s.out := rfl
@[simp] theorem State.inc64_free (s : State) (u : Nat) (lo hi : Fld) (n : Nat) : (s.inc64 u lo hi n).free = s.free := rfl
@[simp] theorem State.inc64_pending (s : State) (u : Nat) (lo hi : Fld) (n : Nat) : (s.inc64 u lo hi n).pending = s.pending := rfl

@[simp] theorem State.countUnits_reqs (s : State) (u : Nat) (f : Fld) (b n : Nat) : (s.countUnits u f b n).reqs = s.reqs := rfl
@[simp] theorem State.countUnits_mem (s : State) (u : Nat) (f : Fld) (b n : Nat) : (s.countUnits u f b n).mem = s.mem := rfl
@[simp] theorem State.countUnits_poison (s : State) (u : Nat) (f : Fld) (b n : Nat) : (s.countUnits u f b n).poison = s.poison := rfl
@[simp] theorem State.countUnits_used (s : State) (u : Nat) (f : Fld) (b n : Nat) : (s.countUnits u f b n).used = s.used := rfl
@[simp] theorem State.countUnits_bond (s : State) (u : Nat) (f : Fld) (b n : Nat) : (s.countUnits u f b n).bond = s.bond := rfl
@[simp] theorem State.countUnits_tod (s : State) (u : Nat) (f : Fld) (b n : Nat) : (s.countUnits u f b n).tod = s.tod := rfl
@[simp] theorem State.countUnits_flt (s : State) (u : Nat) (f : Fld) (b n : Nat) : (s.countUnits u f b n).flt = s.flt := rfl
@[simp] theorem State.countUnits_cxl (s : State) (u : Nat) (f : Fld) (b n : Nat) : (s.countUnits u f b n).cxl = s.cxl := rfl
@[simp] theorem State.countUnits_tru (s : State) (u : Nat) (f : Fld) (b n : Nat) : (s.countUnits u f b n).tru = s.tru := rfl
@[simp] theorem State.countUnits_boot (s : State) (u : Nat) (f : Fld) (b n : Nat) : (s.countUnits u f b n).boot = s.boot := rfl
@[simp] theorem State.countUnits_sched (s : State) (u : Nat) (f : Fld) (b n : Nat) : (s.countUnits u f b n).sched = s.sched := rfl
@[simp] theorem State.countUnits_tc (s : State) (u : Nat) (f : Fld) (b n : Nat) : (s.countUnits u f b n).tc = s.tc := rfl
@[simp] theorem State.countUnits_sc (s : State) (u : Nat) (f : Fld) (b n : Nat) : (s.countUnits u f b n).sc = s.sc := rfl
@[simp] theorem State.countUnits_seq (s : State) (u : Nat) (f : Fld) (b n : Nat) : (s.countUnits u f b n).seq = s.seq := rfl
@[simp] theorem State.countUnits_pal (s : State) (u : Nat) (f : Fld) (b n : Nat) : (s.countUnits u f b n).pal = s.pal := rfl
@[simp] theorem State.countUnits_str (s : State) (u : Nat) (f : Fld) (b n : Nat) : (s.countUnits u f b n).str = s.str := rfl
@[simp] theorem State.countUnits_emb (s : State) (u : Nat) (f : Fld) (b n : Nat) : (s.countUnits u f b n).emb = s.emb := rfl
@[simp] theorem State.countUnits_yz (s : State) (u : Nat) (f : Fld) (b n : Nat) : (s.countUnits u f b n).yz = s.yz := rfl
@[simp] theorem State.countUnits_ten (s : State) (u : Nat) (f : Fld) (b n : Nat) : (s.countUnits u f b n).ten = s.ten := rfl
@[simp] theorem State.countUnits_cvs (s : State) (u : Nat) (f : Fld) (b n : Nat) : (s.countUnits u f b n).cvs = s.cvs := rfl
@[simp] theorem State.countUnits_eth (s : State) (u : Nat) (f : Fld) (b n : Nat) : (s.countUnits u f b n).eth = s.eth := rfl
@[simp] theorem State.countUnits_fq (s : State) (u : Nat) (f : Fld) (b n : Nat) : (s.countUnits u f b n).fq = s.fq := rfl
@[simp] theorem State.countUnits_rad (s : State) (u : Nat) (f : Fld) (b n : Nat) : (s.countUnits u f b n).rad = s.rad := rfl
@[simp] theorem State.countUnits_ldpc (s : State) (u : Nat) (f : Fld) (b n : Nat) : (s.countUnits u f b n).ldpc = s.ldpc := rfl
@[simp] theorem State.countUnits_time (s : State) (u : Nat) (f : Fld) (b n : Nat) : (s.countUnits u f b n).time = s.time := rfl
@[simp] theorem State.countUnits_pow (s : State) (u : Nat) (f : Fld) (b n : Nat) : (s.countUnits u f b n).pow = s.pow := rfl
@[simp] theorem State.countUnits_rst (s : State) (u : Nat) (f : Fld) (b n : Nat) : (s.countUnits u f b n).rst = s.rst := rfl
@[simp] theorem State.countUnits_out (s : State) (u : Nat) (f : Fld) (b n : Nat) : (s.countUnits u f b n).out = s.out := rfl
@[simp] theorem State.countUnits_free (s : State) (u : Nat) (f : Fld) (b n : Nat) : (s.countUnits u f b n).free = s.free := rfl
@[simp] theorem State.countUnits_pending (s : State) (u : Nat) (f : Fld) (b n : Nat) : (s.countUnits u f b n).pending = s.pending := rfl

@[simp] theorem State.emit_regs (s : State) (o : Output) : (s.emit o).regs = s.regs := rfl
@[simp] theorem State.emit_part (s : State) (o : Output) : (s.emit o).part = s.part := rfl
@[simp] theorem State.emit_reqs (s : State) (o : Output) : (s.emit o).reqs = s.reqs := rfl
@[simp] theorem State.emit_mem (s : State) (o : Output) : (s.emit o).mem = s.mem := rfl
@[simp] theorem State.emit_poison (s : State) (o : Output) : (s.emit o).poison = s.poison := rfl
@[simp] theorem State.emit_used (s : State) (o : Output) : (s.emit o).used = s.used := rfl
@[simp] theorem State.emit_bond (s : State) (o : Output) : (s.emit o).bond = s.bond := rfl
@[simp] theorem State.emit_tod (s : State) (o : Output) : (s.emit o).tod = s.tod := rfl
@[simp] theorem State.emit_flt (s : State) (o : Output) : (s.emit o).flt = s.flt := rfl
@[simp] theorem State.emit_cxl (s : State) (o : Output) : (s.emit o).cxl = s.cxl := rfl
@[simp] theorem State.emit_tru (s : State) (o : Output) : (s.emit o).tru = s.tru := rfl
@[simp] theorem State.emit_boot (s : State) (o : Output) : (s.emit o).boot = s.boot := rfl
@[simp] theorem State.emit_sched (s : State) (o : Output) : (s.emit o).sched = s.sched := rfl
@[simp] theorem State.emit_tc (s : State) (o : Output) : (s.emit o).tc = s.tc := rfl
@[simp] theorem State.emit_sc (s : State) (o : Output) : (s.emit o).sc = s.sc := rfl
@[simp] theorem State.emit_seq (s : State) (o : Output) : (s.emit o).seq = s.seq := rfl
@[simp] theorem State.emit_pal (s : State) (o : Output) : (s.emit o).pal = s.pal := rfl
@[simp] theorem State.emit_str (s : State) (o : Output) : (s.emit o).str = s.str := rfl
@[simp] theorem State.emit_emb (s : State) (o : Output) : (s.emit o).emb = s.emb := rfl
@[simp] theorem State.emit_yz (s : State) (o : Output) : (s.emit o).yz = s.yz := rfl
@[simp] theorem State.emit_ten (s : State) (o : Output) : (s.emit o).ten = s.ten := rfl
@[simp] theorem State.emit_cvs (s : State) (o : Output) : (s.emit o).cvs = s.cvs := rfl
@[simp] theorem State.emit_eth (s : State) (o : Output) : (s.emit o).eth = s.eth := rfl
@[simp] theorem State.emit_fq (s : State) (o : Output) : (s.emit o).fq = s.fq := rfl
@[simp] theorem State.emit_rad (s : State) (o : Output) : (s.emit o).rad = s.rad := rfl
@[simp] theorem State.emit_ldpc (s : State) (o : Output) : (s.emit o).ldpc = s.ldpc := rfl
@[simp] theorem State.emit_time (s : State) (o : Output) : (s.emit o).time = s.time := rfl
@[simp] theorem State.emit_pow (s : State) (o : Output) : (s.emit o).pow = s.pow := rfl
@[simp] theorem State.emit_rst (s : State) (o : Output) : (s.emit o).rst = s.rst := rfl
@[simp] theorem State.emit_free (s : State) (o : Output) : (s.emit o).free = s.free := rfl
@[simp] theorem State.emit_pending (s : State) (o : Output) : (s.emit o).pending = s.pending := rfl

@[simp] theorem State.setCtx_regs (s : State) (r : Requester) (c : ReqCtx) : (s.setCtx r c).regs = s.regs := rfl
@[simp] theorem State.setCtx_part (s : State) (r : Requester) (c : ReqCtx) : (s.setCtx r c).part = s.part := rfl
@[simp] theorem State.setCtx_mem (s : State) (r : Requester) (c : ReqCtx) : (s.setCtx r c).mem = s.mem := rfl
@[simp] theorem State.setCtx_poison (s : State) (r : Requester) (c : ReqCtx) : (s.setCtx r c).poison = s.poison := rfl
@[simp] theorem State.setCtx_used (s : State) (r : Requester) (c : ReqCtx) : (s.setCtx r c).used = s.used := rfl
@[simp] theorem State.setCtx_bond (s : State) (r : Requester) (c : ReqCtx) : (s.setCtx r c).bond = s.bond := rfl
@[simp] theorem State.setCtx_tod (s : State) (r : Requester) (c : ReqCtx) : (s.setCtx r c).tod = s.tod := rfl
@[simp] theorem State.setCtx_flt (s : State) (r : Requester) (c : ReqCtx) : (s.setCtx r c).flt = s.flt := rfl
@[simp] theorem State.setCtx_cxl (s : State) (r : Requester) (c : ReqCtx) : (s.setCtx r c).cxl = s.cxl := rfl
@[simp] theorem State.setCtx_tru (s : State) (r : Requester) (c : ReqCtx) : (s.setCtx r c).tru = s.tru := rfl
@[simp] theorem State.setCtx_boot (s : State) (r : Requester) (c : ReqCtx) : (s.setCtx r c).boot = s.boot := rfl
@[simp] theorem State.setCtx_sched (s : State) (r : Requester) (c : ReqCtx) : (s.setCtx r c).sched = s.sched := rfl
@[simp] theorem State.setCtx_tc (s : State) (r : Requester) (c : ReqCtx) : (s.setCtx r c).tc = s.tc := rfl
@[simp] theorem State.setCtx_sc (s : State) (r : Requester) (c : ReqCtx) : (s.setCtx r c).sc = s.sc := rfl
@[simp] theorem State.setCtx_seq (s : State) (r : Requester) (c : ReqCtx) : (s.setCtx r c).seq = s.seq := rfl
@[simp] theorem State.setCtx_pal (s : State) (r : Requester) (c : ReqCtx) : (s.setCtx r c).pal = s.pal := rfl
@[simp] theorem State.setCtx_str (s : State) (r : Requester) (c : ReqCtx) : (s.setCtx r c).str = s.str := rfl
@[simp] theorem State.setCtx_emb (s : State) (r : Requester) (c : ReqCtx) : (s.setCtx r c).emb = s.emb := rfl
@[simp] theorem State.setCtx_yz (s : State) (r : Requester) (c : ReqCtx) : (s.setCtx r c).yz = s.yz := rfl
@[simp] theorem State.setCtx_ten (s : State) (r : Requester) (c : ReqCtx) : (s.setCtx r c).ten = s.ten := rfl
@[simp] theorem State.setCtx_cvs (s : State) (r : Requester) (c : ReqCtx) : (s.setCtx r c).cvs = s.cvs := rfl
@[simp] theorem State.setCtx_eth (s : State) (r : Requester) (c : ReqCtx) : (s.setCtx r c).eth = s.eth := rfl
@[simp] theorem State.setCtx_fq (s : State) (r : Requester) (c : ReqCtx) : (s.setCtx r c).fq = s.fq := rfl
@[simp] theorem State.setCtx_rad (s : State) (r : Requester) (c : ReqCtx) : (s.setCtx r c).rad = s.rad := rfl
@[simp] theorem State.setCtx_ldpc (s : State) (r : Requester) (c : ReqCtx) : (s.setCtx r c).ldpc = s.ldpc := rfl
@[simp] theorem State.setCtx_time (s : State) (r : Requester) (c : ReqCtx) : (s.setCtx r c).time = s.time := rfl
@[simp] theorem State.setCtx_pow (s : State) (r : Requester) (c : ReqCtx) : (s.setCtx r c).pow = s.pow := rfl
@[simp] theorem State.setCtx_rst (s : State) (r : Requester) (c : ReqCtx) : (s.setCtx r c).rst = s.rst := rfl
@[simp] theorem State.setCtx_out (s : State) (r : Requester) (c : ReqCtx) : (s.setCtx r c).out = s.out := rfl
@[simp] theorem State.setCtx_free (s : State) (r : Requester) (c : ReqCtx) : (s.setCtx r c).free = s.free := rfl
@[simp] theorem State.setCtx_pending (s : State) (r : Requester) (c : ReqCtx) : (s.setCtx r c).pending = s.pending := rfl

@[simp] theorem State.toHost_regs (s : State) (e : Nat) (o : Output) : (s.toHost e o).regs = s.regs := rfl
@[simp] theorem State.toHost_part (s : State) (e : Nat) (o : Output) : (s.toHost e o).part = s.part := rfl
@[simp] theorem State.toHost_reqs (s : State) (e : Nat) (o : Output) : (s.toHost e o).reqs = s.reqs := rfl
@[simp] theorem State.toHost_mem (s : State) (e : Nat) (o : Output) : (s.toHost e o).mem = s.mem := rfl
@[simp] theorem State.toHost_poison (s : State) (e : Nat) (o : Output) : (s.toHost e o).poison = s.poison := rfl
@[simp] theorem State.toHost_used (s : State) (e : Nat) (o : Output) : (s.toHost e o).used = s.used := rfl
@[simp] theorem State.toHost_bond (s : State) (e : Nat) (o : Output) : (s.toHost e o).bond = s.bond := rfl
@[simp] theorem State.toHost_tod (s : State) (e : Nat) (o : Output) : (s.toHost e o).tod = s.tod := rfl
@[simp] theorem State.toHost_flt (s : State) (e : Nat) (o : Output) : (s.toHost e o).flt = s.flt := rfl
@[simp] theorem State.toHost_tru (s : State) (e : Nat) (o : Output) : (s.toHost e o).tru = s.tru := rfl
@[simp] theorem State.toHost_boot (s : State) (e : Nat) (o : Output) : (s.toHost e o).boot = s.boot := rfl
@[simp] theorem State.toHost_sched (s : State) (e : Nat) (o : Output) : (s.toHost e o).sched = s.sched := rfl
@[simp] theorem State.toHost_tc (s : State) (e : Nat) (o : Output) : (s.toHost e o).tc = s.tc := rfl
@[simp] theorem State.toHost_sc (s : State) (e : Nat) (o : Output) : (s.toHost e o).sc = s.sc := rfl
@[simp] theorem State.toHost_seq (s : State) (e : Nat) (o : Output) : (s.toHost e o).seq = s.seq := rfl
@[simp] theorem State.toHost_pal (s : State) (e : Nat) (o : Output) : (s.toHost e o).pal = s.pal := rfl
@[simp] theorem State.toHost_str (s : State) (e : Nat) (o : Output) : (s.toHost e o).str = s.str := rfl
@[simp] theorem State.toHost_emb (s : State) (e : Nat) (o : Output) : (s.toHost e o).emb = s.emb := rfl
@[simp] theorem State.toHost_yz (s : State) (e : Nat) (o : Output) : (s.toHost e o).yz = s.yz := rfl
@[simp] theorem State.toHost_ten (s : State) (e : Nat) (o : Output) : (s.toHost e o).ten = s.ten := rfl
@[simp] theorem State.toHost_cvs (s : State) (e : Nat) (o : Output) : (s.toHost e o).cvs = s.cvs := rfl
@[simp] theorem State.toHost_eth (s : State) (e : Nat) (o : Output) : (s.toHost e o).eth = s.eth := rfl
@[simp] theorem State.toHost_fq (s : State) (e : Nat) (o : Output) : (s.toHost e o).fq = s.fq := rfl
@[simp] theorem State.toHost_rad (s : State) (e : Nat) (o : Output) : (s.toHost e o).rad = s.rad := rfl
@[simp] theorem State.toHost_ldpc (s : State) (e : Nat) (o : Output) : (s.toHost e o).ldpc = s.ldpc := rfl
@[simp] theorem State.toHost_time (s : State) (e : Nat) (o : Output) : (s.toHost e o).time = s.time := rfl
@[simp] theorem State.toHost_pow (s : State) (e : Nat) (o : Output) : (s.toHost e o).pow = s.pow := rfl
@[simp] theorem State.toHost_rst (s : State) (e : Nat) (o : Output) : (s.toHost e o).rst = s.rst := rfl
@[simp] theorem State.toHost_out (s : State) (e : Nat) (o : Output) : (s.toHost e o).out = s.out := rfl
@[simp] theorem State.toHost_free (s : State) (e : Nat) (o : Output) : (s.toHost e o).free = s.free := rfl
@[simp] theorem State.toHost_pending (s : State) (e : Nat) (o : Output) : (s.toHost e o).pending = s.pending := rfl

@[simp] theorem State.hostWrite_regs (s : State) (e a : Nat) (bs : List Nat) : (s.hostWrite e a bs).regs = s.regs := rfl
@[simp] theorem State.hostWrite_part (s : State) (e a : Nat) (bs : List Nat) : (s.hostWrite e a bs).part = s.part := rfl
@[simp] theorem State.hostWrite_reqs (s : State) (e a : Nat) (bs : List Nat) : (s.hostWrite e a bs).reqs = s.reqs := rfl
@[simp] theorem State.hostWrite_mem (s : State) (e a : Nat) (bs : List Nat) : (s.hostWrite e a bs).mem = s.mem := rfl
@[simp] theorem State.hostWrite_poison (s : State) (e a : Nat) (bs : List Nat) : (s.hostWrite e a bs).poison = s.poison := rfl
@[simp] theorem State.hostWrite_used (s : State) (e a : Nat) (bs : List Nat) : (s.hostWrite e a bs).used = s.used := rfl
@[simp] theorem State.hostWrite_bond (s : State) (e a : Nat) (bs : List Nat) : (s.hostWrite e a bs).bond = s.bond := rfl
@[simp] theorem State.hostWrite_tod (s : State) (e a : Nat) (bs : List Nat) : (s.hostWrite e a bs).tod = s.tod := rfl
@[simp] theorem State.hostWrite_flt (s : State) (e a : Nat) (bs : List Nat) : (s.hostWrite e a bs).flt = s.flt := rfl
@[simp] theorem State.hostWrite_tru (s : State) (e a : Nat) (bs : List Nat) : (s.hostWrite e a bs).tru = s.tru := rfl
@[simp] theorem State.hostWrite_boot (s : State) (e a : Nat) (bs : List Nat) : (s.hostWrite e a bs).boot = s.boot := rfl
@[simp] theorem State.hostWrite_sched (s : State) (e a : Nat) (bs : List Nat) : (s.hostWrite e a bs).sched = s.sched := rfl
@[simp] theorem State.hostWrite_tc (s : State) (e a : Nat) (bs : List Nat) : (s.hostWrite e a bs).tc = s.tc := rfl
@[simp] theorem State.hostWrite_sc (s : State) (e a : Nat) (bs : List Nat) : (s.hostWrite e a bs).sc = s.sc := rfl
@[simp] theorem State.hostWrite_seq (s : State) (e a : Nat) (bs : List Nat) : (s.hostWrite e a bs).seq = s.seq := rfl
@[simp] theorem State.hostWrite_pal (s : State) (e a : Nat) (bs : List Nat) : (s.hostWrite e a bs).pal = s.pal := rfl
@[simp] theorem State.hostWrite_str (s : State) (e a : Nat) (bs : List Nat) : (s.hostWrite e a bs).str = s.str := rfl
@[simp] theorem State.hostWrite_emb (s : State) (e a : Nat) (bs : List Nat) : (s.hostWrite e a bs).emb = s.emb := rfl
@[simp] theorem State.hostWrite_yz (s : State) (e a : Nat) (bs : List Nat) : (s.hostWrite e a bs).yz = s.yz := rfl
@[simp] theorem State.hostWrite_ten (s : State) (e a : Nat) (bs : List Nat) : (s.hostWrite e a bs).ten = s.ten := rfl
@[simp] theorem State.hostWrite_cvs (s : State) (e a : Nat) (bs : List Nat) : (s.hostWrite e a bs).cvs = s.cvs := rfl
@[simp] theorem State.hostWrite_eth (s : State) (e a : Nat) (bs : List Nat) : (s.hostWrite e a bs).eth = s.eth := rfl
@[simp] theorem State.hostWrite_fq (s : State) (e a : Nat) (bs : List Nat) : (s.hostWrite e a bs).fq = s.fq := rfl
@[simp] theorem State.hostWrite_rad (s : State) (e a : Nat) (bs : List Nat) : (s.hostWrite e a bs).rad = s.rad := rfl
@[simp] theorem State.hostWrite_ldpc (s : State) (e a : Nat) (bs : List Nat) : (s.hostWrite e a bs).ldpc = s.ldpc := rfl
@[simp] theorem State.hostWrite_time (s : State) (e a : Nat) (bs : List Nat) : (s.hostWrite e a bs).time = s.time := rfl
@[simp] theorem State.hostWrite_pow (s : State) (e a : Nat) (bs : List Nat) : (s.hostWrite e a bs).pow = s.pow := rfl
@[simp] theorem State.hostWrite_rst (s : State) (e a : Nat) (bs : List Nat) : (s.hostWrite e a bs).rst = s.rst := rfl
@[simp] theorem State.hostWrite_out (s : State) (e a : Nat) (bs : List Nat) : (s.hostWrite e a bs).out = s.out := rfl
@[simp] theorem State.hostWrite_free (s : State) (e a : Nat) (bs : List Nat) : (s.hostWrite e a bs).free = s.free := rfl
@[simp] theorem State.hostWrite_pending (s : State) (e a : Nat) (bs : List Nat) : (s.hostWrite e a bs).pending = s.pending := rfl

@[simp] theorem State.setByte_regs (s : State) (k : Nat) (b : Byte) : (s.setByte k b).regs = s.regs := rfl
@[simp] theorem State.setByte_part (s : State) (k : Nat) (b : Byte) : (s.setByte k b).part = s.part := rfl
@[simp] theorem State.setByte_reqs (s : State) (k : Nat) (b : Byte) : (s.setByte k b).reqs = s.reqs := rfl
@[simp] theorem State.setByte_poison (s : State) (k : Nat) (b : Byte) : (s.setByte k b).poison = s.poison := rfl
@[simp] theorem State.setByte_used (s : State) (k : Nat) (b : Byte) : (s.setByte k b).used = s.used := rfl
@[simp] theorem State.setByte_bond (s : State) (k : Nat) (b : Byte) : (s.setByte k b).bond = s.bond := rfl
@[simp] theorem State.setByte_tod (s : State) (k : Nat) (b : Byte) : (s.setByte k b).tod = s.tod := rfl
@[simp] theorem State.setByte_flt (s : State) (k : Nat) (b : Byte) : (s.setByte k b).flt = s.flt := rfl
@[simp] theorem State.setByte_cxl (s : State) (k : Nat) (b : Byte) : (s.setByte k b).cxl = s.cxl := rfl
@[simp] theorem State.setByte_tru (s : State) (k : Nat) (b : Byte) : (s.setByte k b).tru = s.tru := rfl
@[simp] theorem State.setByte_boot (s : State) (k : Nat) (b : Byte) : (s.setByte k b).boot = s.boot := rfl
@[simp] theorem State.setByte_sched (s : State) (k : Nat) (b : Byte) : (s.setByte k b).sched = s.sched := rfl
@[simp] theorem State.setByte_tc (s : State) (k : Nat) (b : Byte) : (s.setByte k b).tc = s.tc := rfl
@[simp] theorem State.setByte_sc (s : State) (k : Nat) (b : Byte) : (s.setByte k b).sc = s.sc := rfl
@[simp] theorem State.setByte_seq (s : State) (k : Nat) (b : Byte) : (s.setByte k b).seq = s.seq := rfl
@[simp] theorem State.setByte_pal (s : State) (k : Nat) (b : Byte) : (s.setByte k b).pal = s.pal := rfl
@[simp] theorem State.setByte_str (s : State) (k : Nat) (b : Byte) : (s.setByte k b).str = s.str := rfl
@[simp] theorem State.setByte_emb (s : State) (k : Nat) (b : Byte) : (s.setByte k b).emb = s.emb := rfl
@[simp] theorem State.setByte_yz (s : State) (k : Nat) (b : Byte) : (s.setByte k b).yz = s.yz := rfl
@[simp] theorem State.setByte_ten (s : State) (k : Nat) (b : Byte) : (s.setByte k b).ten = s.ten := rfl
@[simp] theorem State.setByte_cvs (s : State) (k : Nat) (b : Byte) : (s.setByte k b).cvs = s.cvs := rfl
@[simp] theorem State.setByte_eth (s : State) (k : Nat) (b : Byte) : (s.setByte k b).eth = s.eth := rfl
@[simp] theorem State.setByte_fq (s : State) (k : Nat) (b : Byte) : (s.setByte k b).fq = s.fq := rfl
@[simp] theorem State.setByte_rad (s : State) (k : Nat) (b : Byte) : (s.setByte k b).rad = s.rad := rfl
@[simp] theorem State.setByte_ldpc (s : State) (k : Nat) (b : Byte) : (s.setByte k b).ldpc = s.ldpc := rfl
@[simp] theorem State.setByte_time (s : State) (k : Nat) (b : Byte) : (s.setByte k b).time = s.time := rfl
@[simp] theorem State.setByte_pow (s : State) (k : Nat) (b : Byte) : (s.setByte k b).pow = s.pow := rfl
@[simp] theorem State.setByte_rst (s : State) (k : Nat) (b : Byte) : (s.setByte k b).rst = s.rst := rfl
@[simp] theorem State.setByte_out (s : State) (k : Nat) (b : Byte) : (s.setByte k b).out = s.out := rfl
@[simp] theorem State.setByte_free (s : State) (k : Nat) (b : Byte) : (s.setByte k b).free = s.free := rfl
@[simp] theorem State.setByte_pending (s : State) (k : Nat) (b : Byte) : (s.setByte k b).pending = s.pending := rfl

@[simp] theorem State.markPoison_regs (s : State) (k : Nat) : (s.markPoison k).regs = s.regs := rfl
@[simp] theorem State.markPoison_part (s : State) (k : Nat) : (s.markPoison k).part = s.part := rfl
@[simp] theorem State.markPoison_reqs (s : State) (k : Nat) : (s.markPoison k).reqs = s.reqs := rfl
@[simp] theorem State.markPoison_mem (s : State) (k : Nat) : (s.markPoison k).mem = s.mem := rfl
@[simp] theorem State.markPoison_used (s : State) (k : Nat) : (s.markPoison k).used = s.used := rfl
@[simp] theorem State.markPoison_bond (s : State) (k : Nat) : (s.markPoison k).bond = s.bond := rfl
@[simp] theorem State.markPoison_tod (s : State) (k : Nat) : (s.markPoison k).tod = s.tod := rfl
@[simp] theorem State.markPoison_flt (s : State) (k : Nat) : (s.markPoison k).flt = s.flt := rfl
@[simp] theorem State.markPoison_cxl (s : State) (k : Nat) : (s.markPoison k).cxl = s.cxl := rfl
@[simp] theorem State.markPoison_tru (s : State) (k : Nat) : (s.markPoison k).tru = s.tru := rfl
@[simp] theorem State.markPoison_boot (s : State) (k : Nat) : (s.markPoison k).boot = s.boot := rfl
@[simp] theorem State.markPoison_sched (s : State) (k : Nat) : (s.markPoison k).sched = s.sched := rfl
@[simp] theorem State.markPoison_tc (s : State) (k : Nat) : (s.markPoison k).tc = s.tc := rfl
@[simp] theorem State.markPoison_sc (s : State) (k : Nat) : (s.markPoison k).sc = s.sc := rfl
@[simp] theorem State.markPoison_seq (s : State) (k : Nat) : (s.markPoison k).seq = s.seq := rfl
@[simp] theorem State.markPoison_pal (s : State) (k : Nat) : (s.markPoison k).pal = s.pal := rfl
@[simp] theorem State.markPoison_str (s : State) (k : Nat) : (s.markPoison k).str = s.str := rfl
@[simp] theorem State.markPoison_emb (s : State) (k : Nat) : (s.markPoison k).emb = s.emb := rfl
@[simp] theorem State.markPoison_yz (s : State) (k : Nat) : (s.markPoison k).yz = s.yz := rfl
@[simp] theorem State.markPoison_ten (s : State) (k : Nat) : (s.markPoison k).ten = s.ten := rfl
@[simp] theorem State.markPoison_cvs (s : State) (k : Nat) : (s.markPoison k).cvs = s.cvs := rfl
@[simp] theorem State.markPoison_eth (s : State) (k : Nat) : (s.markPoison k).eth = s.eth := rfl
@[simp] theorem State.markPoison_fq (s : State) (k : Nat) : (s.markPoison k).fq = s.fq := rfl
@[simp] theorem State.markPoison_rad (s : State) (k : Nat) : (s.markPoison k).rad = s.rad := rfl
@[simp] theorem State.markPoison_ldpc (s : State) (k : Nat) : (s.markPoison k).ldpc = s.ldpc := rfl
@[simp] theorem State.markPoison_time (s : State) (k : Nat) : (s.markPoison k).time = s.time := rfl
@[simp] theorem State.markPoison_pow (s : State) (k : Nat) : (s.markPoison k).pow = s.pow := rfl
@[simp] theorem State.markPoison_rst (s : State) (k : Nat) : (s.markPoison k).rst = s.rst := rfl
@[simp] theorem State.markPoison_out (s : State) (k : Nat) : (s.markPoison k).out = s.out := rfl
@[simp] theorem State.markPoison_free (s : State) (k : Nat) : (s.markPoison k).free = s.free := rfl
@[simp] theorem State.markPoison_pending (s : State) (k : Nat) : (s.markPoison k).pending = s.pending := rfl

@[simp] theorem State.healPoison_regs (s : State) (k n : Nat) : (s.healPoison k n).regs = s.regs := rfl
@[simp] theorem State.healPoison_part (s : State) (k n : Nat) : (s.healPoison k n).part = s.part := rfl
@[simp] theorem State.healPoison_reqs (s : State) (k n : Nat) : (s.healPoison k n).reqs = s.reqs := rfl
@[simp] theorem State.healPoison_mem (s : State) (k n : Nat) : (s.healPoison k n).mem = s.mem := rfl
@[simp] theorem State.healPoison_used (s : State) (k n : Nat) : (s.healPoison k n).used = s.used := rfl
@[simp] theorem State.healPoison_bond (s : State) (k n : Nat) : (s.healPoison k n).bond = s.bond := rfl
@[simp] theorem State.healPoison_tod (s : State) (k n : Nat) : (s.healPoison k n).tod = s.tod := rfl
@[simp] theorem State.healPoison_flt (s : State) (k n : Nat) : (s.healPoison k n).flt = s.flt := rfl
@[simp] theorem State.healPoison_cxl (s : State) (k n : Nat) : (s.healPoison k n).cxl = s.cxl := rfl
@[simp] theorem State.healPoison_tru (s : State) (k n : Nat) : (s.healPoison k n).tru = s.tru := rfl
@[simp] theorem State.healPoison_boot (s : State) (k n : Nat) : (s.healPoison k n).boot = s.boot := rfl
@[simp] theorem State.healPoison_sched (s : State) (k n : Nat) : (s.healPoison k n).sched = s.sched := rfl
@[simp] theorem State.healPoison_tc (s : State) (k n : Nat) : (s.healPoison k n).tc = s.tc := rfl
@[simp] theorem State.healPoison_sc (s : State) (k n : Nat) : (s.healPoison k n).sc = s.sc := rfl
@[simp] theorem State.healPoison_seq (s : State) (k n : Nat) : (s.healPoison k n).seq = s.seq := rfl
@[simp] theorem State.healPoison_pal (s : State) (k n : Nat) : (s.healPoison k n).pal = s.pal := rfl
@[simp] theorem State.healPoison_str (s : State) (k n : Nat) : (s.healPoison k n).str = s.str := rfl
@[simp] theorem State.healPoison_emb (s : State) (k n : Nat) : (s.healPoison k n).emb = s.emb := rfl
@[simp] theorem State.healPoison_yz (s : State) (k n : Nat) : (s.healPoison k n).yz = s.yz := rfl
@[simp] theorem State.healPoison_ten (s : State) (k n : Nat) : (s.healPoison k n).ten = s.ten := rfl
@[simp] theorem State.healPoison_cvs (s : State) (k n : Nat) : (s.healPoison k n).cvs = s.cvs := rfl
@[simp] theorem State.healPoison_eth (s : State) (k n : Nat) : (s.healPoison k n).eth = s.eth := rfl
@[simp] theorem State.healPoison_fq (s : State) (k n : Nat) : (s.healPoison k n).fq = s.fq := rfl
@[simp] theorem State.healPoison_rad (s : State) (k n : Nat) : (s.healPoison k n).rad = s.rad := rfl
@[simp] theorem State.healPoison_ldpc (s : State) (k n : Nat) : (s.healPoison k n).ldpc = s.ldpc := rfl
@[simp] theorem State.healPoison_time (s : State) (k n : Nat) : (s.healPoison k n).time = s.time := rfl
@[simp] theorem State.healPoison_pow (s : State) (k n : Nat) : (s.healPoison k n).pow = s.pow := rfl
@[simp] theorem State.healPoison_rst (s : State) (k n : Nat) : (s.healPoison k n).rst = s.rst := rfl
@[simp] theorem State.healPoison_out (s : State) (k n : Nat) : (s.healPoison k n).out = s.out := rfl
@[simp] theorem State.healPoison_free (s : State) (k n : Nat) : (s.healPoison k n).free = s.free := rfl
@[simp] theorem State.healPoison_pending (s : State) (k n : Nat) : (s.healPoison k n).pending = s.pending := rfl

@[simp] theorem State.setUsed_regs (s : State) (k : Nat) : (s.setUsed k).regs = s.regs := rfl
@[simp] theorem State.setUsed_part (s : State) (k : Nat) : (s.setUsed k).part = s.part := rfl
@[simp] theorem State.setUsed_reqs (s : State) (k : Nat) : (s.setUsed k).reqs = s.reqs := rfl
@[simp] theorem State.setUsed_mem (s : State) (k : Nat) : (s.setUsed k).mem = s.mem := rfl
@[simp] theorem State.setUsed_poison (s : State) (k : Nat) : (s.setUsed k).poison = s.poison := rfl
@[simp] theorem State.setUsed_bond (s : State) (k : Nat) : (s.setUsed k).bond = s.bond := rfl
@[simp] theorem State.setUsed_tod (s : State) (k : Nat) : (s.setUsed k).tod = s.tod := rfl
@[simp] theorem State.setUsed_flt (s : State) (k : Nat) : (s.setUsed k).flt = s.flt := rfl
@[simp] theorem State.setUsed_cxl (s : State) (k : Nat) : (s.setUsed k).cxl = s.cxl := rfl
@[simp] theorem State.setUsed_tru (s : State) (k : Nat) : (s.setUsed k).tru = s.tru := rfl
@[simp] theorem State.setUsed_boot (s : State) (k : Nat) : (s.setUsed k).boot = s.boot := rfl
@[simp] theorem State.setUsed_sched (s : State) (k : Nat) : (s.setUsed k).sched = s.sched := rfl
@[simp] theorem State.setUsed_tc (s : State) (k : Nat) : (s.setUsed k).tc = s.tc := rfl
@[simp] theorem State.setUsed_sc (s : State) (k : Nat) : (s.setUsed k).sc = s.sc := rfl
@[simp] theorem State.setUsed_seq (s : State) (k : Nat) : (s.setUsed k).seq = s.seq := rfl
@[simp] theorem State.setUsed_pal (s : State) (k : Nat) : (s.setUsed k).pal = s.pal := rfl
@[simp] theorem State.setUsed_str (s : State) (k : Nat) : (s.setUsed k).str = s.str := rfl
@[simp] theorem State.setUsed_emb (s : State) (k : Nat) : (s.setUsed k).emb = s.emb := rfl
@[simp] theorem State.setUsed_yz (s : State) (k : Nat) : (s.setUsed k).yz = s.yz := rfl
@[simp] theorem State.setUsed_ten (s : State) (k : Nat) : (s.setUsed k).ten = s.ten := rfl
@[simp] theorem State.setUsed_cvs (s : State) (k : Nat) : (s.setUsed k).cvs = s.cvs := rfl
@[simp] theorem State.setUsed_eth (s : State) (k : Nat) : (s.setUsed k).eth = s.eth := rfl
@[simp] theorem State.setUsed_fq (s : State) (k : Nat) : (s.setUsed k).fq = s.fq := rfl
@[simp] theorem State.setUsed_rad (s : State) (k : Nat) : (s.setUsed k).rad = s.rad := rfl
@[simp] theorem State.setUsed_ldpc (s : State) (k : Nat) : (s.setUsed k).ldpc = s.ldpc := rfl
@[simp] theorem State.setUsed_time (s : State) (k : Nat) : (s.setUsed k).time = s.time := rfl
@[simp] theorem State.setUsed_pow (s : State) (k : Nat) : (s.setUsed k).pow = s.pow := rfl
@[simp] theorem State.setUsed_rst (s : State) (k : Nat) : (s.setUsed k).rst = s.rst := rfl
@[simp] theorem State.setUsed_out (s : State) (k : Nat) : (s.setUsed k).out = s.out := rfl
@[simp] theorem State.setUsed_free (s : State) (k : Nat) : (s.setUsed k).free = s.free := rfl
@[simp] theorem State.setUsed_pending (s : State) (k : Nat) : (s.setUsed k).pending = s.pending := rfl

@[simp] theorem State.clearUsed_regs (s : State) (k n : Nat) : (s.clearUsed k n).regs = s.regs := rfl
@[simp] theorem State.clearUsed_part (s : State) (k n : Nat) : (s.clearUsed k n).part = s.part := rfl
@[simp] theorem State.clearUsed_reqs (s : State) (k n : Nat) : (s.clearUsed k n).reqs = s.reqs := rfl
@[simp] theorem State.clearUsed_mem (s : State) (k n : Nat) : (s.clearUsed k n).mem = s.mem := rfl
@[simp] theorem State.clearUsed_poison (s : State) (k n : Nat) : (s.clearUsed k n).poison = s.poison := rfl
@[simp] theorem State.clearUsed_bond (s : State) (k n : Nat) : (s.clearUsed k n).bond = s.bond := rfl
@[simp] theorem State.clearUsed_tod (s : State) (k n : Nat) : (s.clearUsed k n).tod = s.tod := rfl
@[simp] theorem State.clearUsed_flt (s : State) (k n : Nat) : (s.clearUsed k n).flt = s.flt := rfl
@[simp] theorem State.clearUsed_cxl (s : State) (k n : Nat) : (s.clearUsed k n).cxl = s.cxl := rfl
@[simp] theorem State.clearUsed_tru (s : State) (k n : Nat) : (s.clearUsed k n).tru = s.tru := rfl
@[simp] theorem State.clearUsed_boot (s : State) (k n : Nat) : (s.clearUsed k n).boot = s.boot := rfl
@[simp] theorem State.clearUsed_sched (s : State) (k n : Nat) : (s.clearUsed k n).sched = s.sched := rfl
@[simp] theorem State.clearUsed_tc (s : State) (k n : Nat) : (s.clearUsed k n).tc = s.tc := rfl
@[simp] theorem State.clearUsed_sc (s : State) (k n : Nat) : (s.clearUsed k n).sc = s.sc := rfl
@[simp] theorem State.clearUsed_seq (s : State) (k n : Nat) : (s.clearUsed k n).seq = s.seq := rfl
@[simp] theorem State.clearUsed_pal (s : State) (k n : Nat) : (s.clearUsed k n).pal = s.pal := rfl
@[simp] theorem State.clearUsed_str (s : State) (k n : Nat) : (s.clearUsed k n).str = s.str := rfl
@[simp] theorem State.clearUsed_emb (s : State) (k n : Nat) : (s.clearUsed k n).emb = s.emb := rfl
@[simp] theorem State.clearUsed_yz (s : State) (k n : Nat) : (s.clearUsed k n).yz = s.yz := rfl
@[simp] theorem State.clearUsed_ten (s : State) (k n : Nat) : (s.clearUsed k n).ten = s.ten := rfl
@[simp] theorem State.clearUsed_cvs (s : State) (k n : Nat) : (s.clearUsed k n).cvs = s.cvs := rfl
@[simp] theorem State.clearUsed_eth (s : State) (k n : Nat) : (s.clearUsed k n).eth = s.eth := rfl
@[simp] theorem State.clearUsed_fq (s : State) (k n : Nat) : (s.clearUsed k n).fq = s.fq := rfl
@[simp] theorem State.clearUsed_rad (s : State) (k n : Nat) : (s.clearUsed k n).rad = s.rad := rfl
@[simp] theorem State.clearUsed_ldpc (s : State) (k n : Nat) : (s.clearUsed k n).ldpc = s.ldpc := rfl
@[simp] theorem State.clearUsed_time (s : State) (k n : Nat) : (s.clearUsed k n).time = s.time := rfl
@[simp] theorem State.clearUsed_pow (s : State) (k n : Nat) : (s.clearUsed k n).pow = s.pow := rfl
@[simp] theorem State.clearUsed_rst (s : State) (k n : Nat) : (s.clearUsed k n).rst = s.rst := rfl
@[simp] theorem State.clearUsed_out (s : State) (k n : Nat) : (s.clearUsed k n).out = s.out := rfl
@[simp] theorem State.clearUsed_free (s : State) (k n : Nat) : (s.clearUsed k n).free = s.free := rfl
@[simp] theorem State.clearUsed_pending (s : State) (k n : Nat) : (s.clearUsed k n).pending = s.pending := rfl

@[simp] theorem State.draw_regs (s : State) : s.draw.2.regs = s.regs := rfl
@[simp] theorem State.draw_part (s : State) : s.draw.2.part = s.part := rfl
@[simp] theorem State.draw_reqs (s : State) : s.draw.2.reqs = s.reqs := rfl
@[simp] theorem State.draw_mem (s : State) : s.draw.2.mem = s.mem := rfl
@[simp] theorem State.draw_poison (s : State) : s.draw.2.poison = s.poison := rfl
@[simp] theorem State.draw_used (s : State) : s.draw.2.used = s.used := rfl
@[simp] theorem State.draw_bond (s : State) : s.draw.2.bond = s.bond := rfl
@[simp] theorem State.draw_tod (s : State) : s.draw.2.tod = s.tod := rfl
@[simp] theorem State.draw_flt (s : State) : s.draw.2.flt = s.flt := rfl
@[simp] theorem State.draw_cxl (s : State) : s.draw.2.cxl = s.cxl := rfl
@[simp] theorem State.draw_tru (s : State) : s.draw.2.tru = s.tru := rfl
@[simp] theorem State.draw_boot (s : State) : s.draw.2.boot = s.boot := rfl
@[simp] theorem State.draw_sched (s : State) : s.draw.2.sched = s.sched := rfl
@[simp] theorem State.draw_tc (s : State) : s.draw.2.tc = s.tc := rfl
@[simp] theorem State.draw_sc (s : State) : s.draw.2.sc = s.sc := rfl
@[simp] theorem State.draw_seq (s : State) : s.draw.2.seq = s.seq := rfl
@[simp] theorem State.draw_pal (s : State) : s.draw.2.pal = s.pal := rfl
@[simp] theorem State.draw_str (s : State) : s.draw.2.str = s.str := rfl
@[simp] theorem State.draw_emb (s : State) : s.draw.2.emb = s.emb := rfl
@[simp] theorem State.draw_yz (s : State) : s.draw.2.yz = s.yz := rfl
@[simp] theorem State.draw_ten (s : State) : s.draw.2.ten = s.ten := rfl
@[simp] theorem State.draw_cvs (s : State) : s.draw.2.cvs = s.cvs := rfl
@[simp] theorem State.draw_eth (s : State) : s.draw.2.eth = s.eth := rfl
@[simp] theorem State.draw_fq (s : State) : s.draw.2.fq = s.fq := rfl
@[simp] theorem State.draw_rad (s : State) : s.draw.2.rad = s.rad := rfl
@[simp] theorem State.draw_ldpc (s : State) : s.draw.2.ldpc = s.ldpc := rfl
@[simp] theorem State.draw_time (s : State) : s.draw.2.time = s.time := rfl
@[simp] theorem State.draw_pow (s : State) : s.draw.2.pow = s.pow := rfl
@[simp] theorem State.draw_rst (s : State) : s.draw.2.rst = s.rst := rfl
@[simp] theorem State.draw_out (s : State) : s.draw.2.out = s.out := rfl
@[simp] theorem State.draw_pending (s : State) : s.draw.2.pending = s.pending := rfl
@[simp] theorem State.draw_free (s : State) : s.draw.2.free = s.free + 1 := rfl
@[simp] theorem State.draw_fst (s : State) : s.draw.1 = s.free := rfl
@[simp] theorem State.emit_out (s : State) (x : Output) : (s.emit x).out = s.out ++ [x] := rfl

/-! ### Registers are read alike after an update of anything else -/

@[simp] theorem State.emit_reg (s : State) (o : Output) (i j : Nat) : (s.emit o).reg i j = s.reg i j := rfl
@[simp] theorem State.emit_fld (s : State) (o : Output) (i : Nat) (g : Fld) : (s.emit o).fld i g = s.fld i g := rfl
@[simp] theorem State.emit_flag (s : State) (o : Output) (i : Nat) (g : Fld) : (s.emit o).flag i g = s.flag i g := rfl
@[simp] theorem State.setCtx_reg (s : State) (r : Requester) (c : ReqCtx) (i j : Nat) : (s.setCtx r c).reg i j = s.reg i j := rfl
@[simp] theorem State.setCtx_fld (s : State) (r : Requester) (c : ReqCtx) (i : Nat) (g : Fld) : (s.setCtx r c).fld i g = s.fld i g := rfl
@[simp] theorem State.setCtx_flag (s : State) (r : Requester) (c : ReqCtx) (i : Nat) (g : Fld) : (s.setCtx r c).flag i g = s.flag i g := rfl
@[simp] theorem State.toHost_reg (s : State) (e : Nat) (o : Output) (i j : Nat) : (s.toHost e o).reg i j = s.reg i j := rfl
@[simp] theorem State.toHost_fld (s : State) (e : Nat) (o : Output) (i : Nat) (g : Fld) : (s.toHost e o).fld i g = s.fld i g := rfl
@[simp] theorem State.toHost_flag (s : State) (e : Nat) (o : Output) (i : Nat) (g : Fld) : (s.toHost e o).flag i g = s.flag i g := rfl
@[simp] theorem State.hostWrite_reg (s : State) (e a : Nat) (bs : List Nat) (i j : Nat) : (s.hostWrite e a bs).reg i j = s.reg i j := rfl
@[simp] theorem State.hostWrite_fld (s : State) (e a : Nat) (bs : List Nat) (i : Nat) (g : Fld) : (s.hostWrite e a bs).fld i g = s.fld i g := rfl
@[simp] theorem State.hostWrite_flag (s : State) (e a : Nat) (bs : List Nat) (i : Nat) (g : Fld) : (s.hostWrite e a bs).flag i g = s.flag i g := rfl
@[simp] theorem State.setByte_reg (s : State) (k : Nat) (b : Byte) (i j : Nat) : (s.setByte k b).reg i j = s.reg i j := rfl
@[simp] theorem State.setByte_fld (s : State) (k : Nat) (b : Byte) (i : Nat) (g : Fld) : (s.setByte k b).fld i g = s.fld i g := rfl
@[simp] theorem State.setByte_flag (s : State) (k : Nat) (b : Byte) (i : Nat) (g : Fld) : (s.setByte k b).flag i g = s.flag i g := rfl
@[simp] theorem State.markPoison_reg (s : State) (k : Nat) (i j : Nat) : (s.markPoison k).reg i j = s.reg i j := rfl
@[simp] theorem State.markPoison_fld (s : State) (k : Nat) (i : Nat) (g : Fld) : (s.markPoison k).fld i g = s.fld i g := rfl
@[simp] theorem State.markPoison_flag (s : State) (k : Nat) (i : Nat) (g : Fld) : (s.markPoison k).flag i g = s.flag i g := rfl
@[simp] theorem State.healPoison_reg (s : State) (k n : Nat) (i j : Nat) : (s.healPoison k n).reg i j = s.reg i j := rfl
@[simp] theorem State.healPoison_fld (s : State) (k n : Nat) (i : Nat) (g : Fld) : (s.healPoison k n).fld i g = s.fld i g := rfl
@[simp] theorem State.healPoison_flag (s : State) (k n : Nat) (i : Nat) (g : Fld) : (s.healPoison k n).flag i g = s.flag i g := rfl
@[simp] theorem State.setUsed_reg (s : State) (k : Nat) (i j : Nat) : (s.setUsed k).reg i j = s.reg i j := rfl
@[simp] theorem State.setUsed_fld (s : State) (k : Nat) (i : Nat) (g : Fld) : (s.setUsed k).fld i g = s.fld i g := rfl
@[simp] theorem State.setUsed_flag (s : State) (k : Nat) (i : Nat) (g : Fld) : (s.setUsed k).flag i g = s.flag i g := rfl
@[simp] theorem State.clearUsed_reg (s : State) (k n : Nat) (i j : Nat) : (s.clearUsed k n).reg i j = s.reg i j := rfl
@[simp] theorem State.clearUsed_fld (s : State) (k n : Nat) (i : Nat) (g : Fld) : (s.clearUsed k n).fld i g = s.fld i g := rfl
@[simp] theorem State.clearUsed_flag (s : State) (k n : Nat) (i : Nat) (g : Fld) : (s.clearUsed k n).flag i g = s.flag i g := rfl
@[simp] theorem State.draw_fld (s : State) (i : Nat) (g : Fld) : s.draw.2.fld i g = s.fld i g := rfl
@[simp] theorem State.draw_flag (s : State) (i : Nat) (g : Fld) : s.draw.2.flag i g = s.flag i g := rfl

/-- A field's value is below its width. -/
theorem State.fld_lt (s : State) (u : Nat) (f : Fld) : s.fld u f < 2 ^ f.width := by unfold State.fld fieldOf; exact Nat.mod_lt _ (Nat.two_pow_pos _)

theorem State.flag_setFlag_same (s : State) (u : Nat) (f : Fld) (b : Bool) (h : f.inWord = true) (w : f.width ≠ 0) : (s.setFlag u f b).flag u f = b := by
  unfold State.flag State.setFlag
  rw [State.fld_setFld_same _ _ _ _ h]
  have : 1 < 2 ^ f.width := Nat.one_lt_two_pow w
  cases b
  · simp
  · simp [Nat.mod_eq_of_lt this]

theorem State.flag_setFld_apart (s : State) (u u' : Nat) (f g : Fld) (v : Nat) (h : f.inWord = true) (h' : g.inWord = true) (d : g.apart f = true) :
    (s.setFld u f v).flag u' g = s.flag u' g := by unfold State.flag; rw [State.fld_setFld_apart s u u' f g v h h' d]

theorem State.flag_setFlag_apart (s : State) (u u' : Nat) (f g : Fld) (b : Bool) (h : f.inWord = true) (h' : g.inWord = true) (d : g.apart f = true) :
    (s.setFlag u f b).flag u' g = s.flag u' g := State.flag_setFld_apart s u u' f g _ h h' d

theorem State.fld_setFlag_apart (s : State) (u u' : Nat) (f g : Fld) (b : Bool) (h : f.inWord = true) (h' : g.inWord = true) (d : g.apart f = true) :
    (s.setFlag u f b).fld u' g = s.fld u' g := State.fld_setFld_apart s u u' f g _ h h' d

theorem State.fld_orFld_apart (s : State) (u u' : Nat) (f g : Fld) (v : Nat) (h : f.inWord = true) (h' : g.inWord = true) (d : g.apart f = true) :
    (s.orFld u f v).fld u' g = s.fld u' g := State.fld_setFld_apart s u u' f g _ h h' d

theorem State.fld_orFld_same (s : State) (u : Nat) (f : Fld) (v : Nat) (h : f.inWord = true) (hv : v < 2 ^ f.width) : (s.orFld u f v).fld u f = s.fld u f ||| v := by
  unfold State.orFld; rw [State.fld_setFld_same _ _ _ _ h]; exact Nat.mod_eq_of_lt (Nat.or_lt_two_pow (State.fld_lt s u f) hv)

theorem State.fld_incSat_apart (s : State) (u u' : Nat) (f g : Fld) (v : Nat) (h : f.inWord = true) (h' : g.inWord = true) (d : g.apart f = true) :
    (s.incSat u f v).fld u' g = s.fld u' g := State.fld_setFld_apart s u u' f g _ h h' d

theorem State.fld_incSat_same (s : State) (u : Nat) (f : Fld) (n : Nat) (h : f.inWord = true) : (s.incSat u f n).fld u f = min (s.fld u f + n) (2 ^ f.width - 1) := by
  unfold State.incSat; rw [State.fld_setFld_same _ _ _ _ h]
  have := Nat.two_pow_pos f.width
  exact Nat.mod_eq_of_lt (by omega)

/-- An update of other fields leaves the registers as they read. -/
@[simp] theorem State.reg_upd (t : State) {part reqs mem poison used bond tod flt cxl tru boot sched tc sc seq pal str emb yz ten cvs eth fq rad ldpc time pow rst out free pending} (i j : Nat) :
    (⟨t.regs, part, reqs, mem, poison, used, bond, tod, flt, cxl, tru, boot, sched, tc, sc, seq, pal, str, emb, yz, ten, cvs, eth, fq, rad, ldpc, time, pow, rst, out, free, pending⟩ : State).reg i j = t.reg i j := rfl

@[simp] theorem State.fld_upd (t : State) {part reqs mem poison used bond tod flt cxl tru boot sched tc sc seq pal str emb yz ten cvs eth fq rad ldpc time pow rst out free pending} (i : Nat) (g : Fld) :
    (⟨t.regs, part, reqs, mem, poison, used, bond, tod, flt, cxl, tru, boot, sched, tc, sc, seq, pal, str, emb, yz, ten, cvs, eth, fq, rad, ldpc, time, pow, rst, out, free, pending⟩ : State).fld i g = t.fld i g := rfl

@[simp] theorem State.flag_upd (t : State) {part reqs mem poison used bond tod flt cxl tru boot sched tc sc seq pal str emb yz ten cvs eth fq rad ldpc time pow rst out free pending} (i : Nat) (g : Fld) :
    (⟨t.regs, part, reqs, mem, poison, used, bond, tod, flt, cxl, tru, boot, sched, tc, sc, seq, pal, str, emb, yz, ten, cvs, eth, fq, rad, ldpc, time, pow, rst, out, free, pending⟩ : State).flag i g = t.flag i g := rfl

/-! ### A requester's context -/

@[simp] theorem State.ctxOf_setCtx_same (s : State) (r : Requester) (c : ReqCtx) : (s.setCtx r c).ctxOf r = c := by simp [State.ctxOf, State.setCtx]

theorem State.ctxOf_setCtx_ne (s : State) {r q : Requester} (c : ReqCtx) (h : reqNum q ≠ reqNum r) : (s.setCtx r c).ctxOf q = s.ctxOf q := by
  unfold State.ctxOf State.setCtx; exact SMap.get_set_ne _ _ _ h

/-! ### Bytes of bonded memory -/

@[simp] theorem State.byte_setByte_same (s : State) (k : Nat) (b : Byte) : (s.setByte k b).byte k = b := by simp [State.byte, State.setByte]

theorem State.byte_setByte_ne (s : State) {k j : Nat} (b : Byte) (h : j ≠ k) : (s.setByte k b).byte j = s.byte j := by
  unfold State.byte State.setByte; exact SMap.get_set_ne _ _ _ h

theorem State.byte_writeBytes_below (bs : List Nat) (s : State) (k j : Nat) (h : j < k) : (s.writeBytes k bs).byte j = s.byte j := by
  induction bs generalizing s k with
  | nil => rfl
  | cons b r ih => rw [State.writeBytes, ih _ _ (by omega), State.byte_setByte_ne _ _ (by omega)]

/-- A write of bytes leaves every byte outside them alone. -/
theorem State.byte_writeBytes_out (bs : List Nat) (s : State) (k j : Nat) (h : j < k ∨ k + bs.length ≤ j) : (s.writeBytes k bs).byte j = s.byte j := by
  induction bs generalizing s k with
  | nil => rfl
  | cons b r ih =>
    simp only [List.length_cons] at h
    rw [State.writeBytes, ih _ _ (by omega), State.byte_setByte_ne _ _ (by omega)]

/-- A byte that was written reads back. -/
theorem State.byte_writeBytes_in (bs : List Nat) (s : State) (k i : Nat) (h : i < bs.length) : (s.writeBytes k bs).byte (k + i) = BitVec.ofNat 8 bs[i] := by
  induction bs generalizing s k i with
  | nil => exact absurd h (by simp)
  | cons b r ih =>
    rw [State.writeBytes]
    cases i with
    | zero => rw [State.byte_writeBytes_below _ _ _ _ (by omega)]; exact State.byte_setByte_same _ _ _
    | succ i =>
      simp only [List.length_cons] at h
      rw [show k + (i + 1) = k + 1 + i by omega, ih _ _ _ (by omega)]; rfl

end Sys2Proof.Machine
end

