-- ==== Sys2Proof/Laws/Frames.lean ====
section
/-! SUPPORT. Laws/Frames.lean: what the shared operations keep and leave, once for each, for the proofs of the statements to cite. -/
set_option linter.unusedSimpArgs false
set_option linter.unusedVariables false
namespace Sys2Proof.Laws

open Sys2Proof Sys2Proof.Machine

theorem ex_next {c : Instr} {s t : State} {P : State → Prop} (h : exec c s = .next t) (p : P t) : ∃ t, exec c s = .next t ∧ P t := ⟨t, h, p⟩
theorem ex_next2 {α : Type} {c : Instr} {s t : State} {b : α} {P : State → α → Prop} (h : exec c s = .next t) (p : P t b) : ∃ t b, exec c s = .next t ∧ P t b := ⟨t, b, h, p⟩
theorem flag_orFld_apart (s : State) (u u' : Nat) (f g : Fld) (v : Nat) (h : f.inWord = true) (h' : g.inWord = true) (d : g.apart f = true) :
    (s.orFld u f v).flag u' g = s.flag u' g := by unfold State.orFld; exact State.flag_setFld_apart _ _ _ _ _ _ h h' d
theorem flag_incSat_apart (s : State) (u u' : Nat) (f g : Fld) (v : Nat) (h : f.inWord = true) (h' : g.inWord = true) (d : g.apart f = true) :
    (s.incSat u f v).flag u' g = s.flag u' g := by unfold State.incSat; exact State.flag_setFld_apart _ _ _ _ _ _ h h' d
theorem fld_incWrap_apart (s : State) (u u' : Nat) (f g : Fld) (v : Nat) (h : f.inWord = true) (h' : g.inWord = true) (d : g.apart f = true) :
    (s.incWrap u f v).fld u' g = s.fld u' g := by unfold State.incWrap; exact State.fld_setFld_apart _ _ _ _ _ _ h h' d
theorem flag_incWrap_apart (s : State) (u u' : Nat) (f g : Fld) (v : Nat) (h : f.inWord = true) (h' : g.inWord = true) (d : g.apart f = true) :
    (s.incWrap u f v).flag u' g = s.flag u' g := by unfold State.incWrap; exact State.flag_setFld_apart _ _ _ _ _ _ h h' d
theorem fld_incWrap_same (s : State) (u : Nat) (f : Fld) (v : Nat) (h : f.inWord = true) : (s.incWrap u f v).fld u f = (s.fld u f + v) % 2 ^ f.width := by
  unfold State.incWrap; exact State.fld_setFld_same _ _ _ _ h
theorem fld_incSat_same' (s : State) (u : Nat) (f : Fld) (v : Nat) (h : f.inWord = true) : (s.incSat u f v).fld u f = min (s.fld u f + v) (2 ^ f.width - 1) := by
  unfold State.incSat; rw [State.fld_setFld_same _ _ _ _ h]; apply Nat.mod_eq_of_lt
  have : 0 < 2 ^ f.width := Nat.pow_pos (by omega)
  omega
theorem fld_clrFld_apart (s : State) (u u' : Nat) (f g : Fld) (v : Nat) (h : f.inWord = true) (h' : g.inWord = true) (d : g.apart f = true) :
    (s.clrFld u f v).fld u' g = s.fld u' g := by unfold State.clrFld; exact State.fld_setFld_apart _ _ _ _ _ _ h h' d
theorem fld_setFld64_apart (s : State) (u u' : Nat) (lo hi g : Fld) (v : Nat) (h1 : lo.inWord = true) (h2 : hi.inWord = true) (h' : g.inWord = true) (d1 : g.apart lo = true) (d2 : g.apart hi = true) :
    (s.setFld64 u lo hi v).fld u' g = s.fld u' g := by
  unfold State.setFld64; rw [State.fld_setFld_apart _ _ _ _ _ _ h2 h' d2, State.fld_setFld_apart _ _ _ _ _ _ h1 h' d1]
theorem flag_setFld64_apart (s : State) (u u' : Nat) (lo hi g : Fld) (v : Nat) (h1 : lo.inWord = true) (h2 : hi.inWord = true) (h' : g.inWord = true) (d1 : g.apart lo = true) (d2 : g.apart hi = true) :
    (s.setFld64 u lo hi v).flag u' g = s.flag u' g := by
  unfold State.flag; rw [fld_setFld64_apart _ _ _ _ _ _ _ h1 h2 h' d1 d2]
theorem fld64_setFld64 (s : State) (u : Nat) (lo hi : Fld) (v : Nat) (h1 : lo.inWord = true) (h2 : hi.inWord = true) (d : lo.apart hi = true) (w1 : lo.width = 32) (w2 : hi.width = 32) :
    (s.setFld64 u lo hi v).fld64 u lo hi = v % 2 ^ 64 := by
  unfold State.setFld64 State.fld64
  rw [State.fld_setFld_same _ _ _ _ h2, State.fld_setFld_apart _ _ _ _ _ _ h2 h1 d, State.fld_setFld_same _ _ _ _ h1, w1, w2]
  omega
theorem inj_off (s : State) (d e : Nat) (h : s.flag d F.FLT_INJSTAT_ARMED = false) : s.inject d e = (none, s) := by simp [State.inject, h]
theorem inWord_iff (f : Fld) : f.inWord = true ↔ f.lo + f.width ≤ 32 ∧ f.off < regSpan := decide_eq_true_iff
theorem apart_iff (f g : Fld) : f.apart g = true ↔ (f.off ≠ g.off ∨ f.lo + f.width ≤ g.lo ∨ g.lo + g.width ≤ f.lo) := decide_eq_true_iff
theorem upto_keep {σ : Type} (P : σ → Prop) (n : Nat) (f : Nat → σ → σ) (hf : ∀ i, i < n → ∀ t, P t → P (f i t)) (s : σ) (h : P s) : P (forUpto n f s) := by
  unfold forUpto
  have : ∀ (l : List Nat), (∀ i ∈ l, i < n) → ∀ s, P s → P (l.foldl (fun t i => f i t) s) := by
    intro l
    induction l with
    | nil => intro _ s h; exact h
    | cons a l ih => intro hl s h; exact ih (fun i hi => hl i (List.mem_cons_of_mem _ hi)) _ (hf a (hl a List.mem_cons_self) s h)
  exact this _ (fun i hi => List.mem_range.mp hi) s h
theorem upto_id {σ : Type} (n : Nat) (f : Nat → σ → σ) (s : σ) (hf : ∀ i, i < n → f i s = s) : forUpto n f s = s :=
  upto_keep (fun t => t = s) n f (fun i hi t h => h ▸ hf i hi) s rfl
theorem each_keep {σ α : Type} (P : σ → Prop) (f : α → σ → σ) (hf : ∀ a t, P t → P (f a t)) (l : List α) : ∀ s, P s → P (forEach l f s) := by
  induction l with
  | nil => intro s h; exact h
  | cons a l ih => intro s h; exact ih _ (hf a s h)
theorem each_keep' {σ α : Type} (P : σ → Prop) (l : List α) (f : α → σ → σ) (hf : ∀ a ∈ l, ∀ t, P t → P (f a t)) : ∀ s, P s → P (forEach l f s) := by
  induction l with
  | nil => intro s h; exact h
  | cons a l ih => intro s h; exact ih (fun b hb => hf b (List.mem_cons_of_mem _ hb)) _ (hf a List.mem_cons_self s h)
theorem get_keep {α : Type} (d : Nat → α) (p : Nat → Bool) (m : SMap α) (x : Nat) : SMap.get d (SMap.keep p m) x = if p x then SMap.get d m x else d x := by
  unfold SMap.keep
  induction m with
  | nil => simp [SMap.get]
  | cons e r ih =>
    obtain ⟨k, v⟩ := e
    by_cases c : p k = true
    · rw [List.filter_cons_of_pos (by simpa using c)]
      simp only [SMap.get]
      by_cases h : x = k
      · subst h; simp [c]
      · simp only [if_neg h]; exact ih
    · rw [List.filter_cons_of_neg (by simpa using c), ih]
      simp only [SMap.get]
      by_cases h : x = k
      · subst h; simp [c]
      · simp only [if_neg h]
theorem upto_flag (n : Nat) (f : Nat → State → State) (u : Nat) (g : Fld) (hf : ∀ i t, (f i t).flag u g = t.flag u g) (s : State) : (forUpto n f s).flag u g = s.flag u g :=
  upto_keep (fun t : State => t.flag u g = s.flag u g) n f (fun i _ t h => (hf i t).trans h) s rfl
theorem usedRange_mem (s : State) (a b c d : Nat) : (s.setUsedRange a b c d).mem = s.mem ∧ (s.setUsedRange a b c d).out = s.out := by
  unfold State.setUsedRange; split
  · exact ⟨rfl, rfl⟩
  · exact upto_keep (fun t : State => t.mem = s.mem ∧ t.out = s.out) _ (fun i (t : State) => t.setUsed (a + (c / b + i) * b)) (fun i _ t h => h) _ ⟨rfl, rfl⟩
theorem wake_mem (s : State) (a b : Nat) : (s.wakeStack a b).mem = s.mem ∧ (s.wakeStack a b).out = s.out := by
  unfold State.wakeStack; split <;> exact ⟨rfl, rfl⟩
theorem open_all (P : State → Prop) (s : State) (a b n : Nat) (h : ∀ t c d, P t → P (t.wakeStack c d)) (h' : ∀ t x, P t → P { t with bond := x }) (p : P s) : P (s.openPage a b n) := by
  unfold State.openPage
  exact upto_keep P _ (fun i (t : State) => t.openBlock a (b / 256 * 256 + 256 * i)) (fun i _ t k => h' _ _ (h t _ _ k)) s p
theorem open_mem (s : State) (a b n : Nat) : (s.openPage a b n).mem = s.mem ∧ (s.openPage a b n).out = s.out :=
  open_all (fun t => t.mem = s.mem ∧ t.out = s.out) s a b n (fun t c d k => ⟨(wake_mem t c d).1.trans k.1, (wake_mem t c d).2.trans k.2⟩) (fun _ _ k => k) ⟨rfl, rfl⟩
theorem open_poison (s : State) (a b n : Nat) : (s.openPage a b n).poison = s.poison :=
  open_all (fun t => t.poison = s.poison) s a b n (fun t c d k => by rw [← k]; unfold State.wakeStack; split <;> rfl) (fun _ _ k => k) rfl
theorem open_seqOn (s : State) (a b n e : Nat) : (s.openPage a b n).seqOn e = s.seqOn e :=
  open_all (fun t => t.seqOn e = s.seqOn e) s a b n (fun t c d k => by
    rw [← k]; unfold State.wakeStack State.seqOn; split
    · simp only [State.flag_upd]; unfold State.clrFld; simp (disch := first | decide | exact Nat.one_ne_zero | (simp only [inWord_iff, apart_iff, regSpan] <;> omega)) only [State.fld_setFld_same, State.fld_setFld_apart, State.fld_setFlag_apart, State.flag_setFlag_same, State.flag_setFlag_apart, State.flag_setFld_apart, State.fld_incSat_apart, State.fld_orFld_apart, flag_orFld_apart, flag_incSat_apart, fld_setFld64_apart, flag_setFld64_apart, fld_incWrap_apart, flag_incWrap_apart, fld_incWrap_same, fld_incSat_same', fld_clrFld_apart, fld64_setFld64, State.fld_upd, State.flag_upd]
    · rfl) (fun _ _ k => k) rfl
theorem count_mem (s : State) (f : Fld) (a b n : Nat) : (s.countStack f a b n).mem = s.mem ∧ (s.countStack f a b n).out = s.out := by
  unfold State.countStack; split
  · exact ⟨rfl, rfl⟩
  · exact upto_keep (fun t : State => t.mem = s.mem ∧ t.out = s.out) _ (fun i (t : State) => t.countUnits (t.stackOf a (b / 65536 + i)) f 65536 (min (b + n) ((b / 65536 + i) * 65536 + 65536) - max b ((b / 65536 + i) * 65536))) (fun i _ t h => h) _ ⟨rfl, rfl⟩
theorem writeBytes_out (bs : List Nat) : ∀ (s : State) (k : Nat), (s.writeBytes k bs).out = s.out := by
  induction bs with
  | nil => intro s k; rfl
  | cons b r ih => intro s k; exact (ih _ _).trans rfl
theorem store_mem (s : State) (e addr : Nat) (bs : List Nat) (h : s.inShare e addr bs.length = true) :
    (s.bondStore e addr bs).st.mem = (s.writeBytes (bondKey e addr) bs).mem ∧ (s.bondStore e addr bs).st.out = s.out ∧ (s.bondStore e addr bs).status = .ok ∧ (s.bondStore e addr bs).data = [] := by
  unfold State.bondStore
  rw [if_pos h]
  refine ⟨?_, ?_, rfl, rfl⟩
  · show (State.countStack _ _ _ _ _).mem = _
    rw [(count_mem _ _ _ _ _).1, (open_mem _ _ _ _).1, (usedRange_mem _ _ _ _ _).1]; rfl
  · show (State.countStack _ _ _ _ _).out = _
    rw [(count_mem _ _ _ _ _).2, (open_mem _ _ _ _).2, (usedRange_mem _ _ _ _ _).2]
    exact writeBytes_out _ _ _
theorem readBytes_mem (s t : State) (h : t.mem = s.mem) (n : Nat) : ∀ k, t.readBytes k n = s.readBytes k n := by
  induction n with
  | zero => intro k; rfl
  | succ n ih => intro k; simp only [State.readBytes, State.byte, h, ih]
theorem load_clean (s : State) (e addr n : Nat) (code : Nat) (h1 : s.inShare e addr n = true) (h2 : s.poison = []) (h3 : s.seqOn e = false)
    (h4 : s.flag (s.stackOf e (addr / 64 * 64 / 65536)) F.FLT_INJSTAT_ARMED = false) :
    let m := s.bondLoad e addr n code none
    m.status = .ok ∧ m.data = s.readBytes (bondKey e addr) n ∧ m.st.seqOn e = false ∧ m.st.mem = s.mem ∧ m.st.out = s.out ∧ m.st.poison = s.poison := by
  have c : s.bondCheck e addr code none = s := by
    simp only [State.bondCheck, inj_off _ _ _ h4]; rfl
  have pz : ∀ t : State, (t.countStack F.MEM_STK_RD_UNITS e addr n).poison = t.poison := by
    intro t; unfold State.countStack; split
    · rfl
    · exact upto_keep (fun u : State => u.poison = t.poison) _ (fun i (t : State) => t.countUnits (t.stackOf e (addr / 65536 + i)) F.MEM_STK_RD_UNITS 65536 (min (addr + n) ((addr / 65536 + i) * 65536 + 65536) - max addr ((addr / 65536 + i) * 65536))) (fun i _ t h => h) _ rfl
  have po : (s.openPage e addr n).poison = [] := (open_poison _ _ _ _).trans h2
  have p0 : ((s.openPage e addr n).countStack F.MEM_STK_RD_UNITS e addr n).poisoned (bondKey e addr) n = false := by
    unfold State.poisoned; rw [pz, po]; rfl
  have so : (s.openPage e addr n).seqOn e = false := (open_seqOn _ _ _ _ _).trans h3
  have sc : ∀ t : State, (t.countStack F.MEM_STK_RD_UNITS e addr n).seqOn e = t.seqOn e := by
    intro t; unfold State.countStack; split
    · rfl
    · refine upto_flag _ (fun i (t : State) => t.countUnits (t.stackOf e (addr / 65536 + i)) F.MEM_STK_RD_UNITS 65536 (min (addr + n) ((addr / 65536 + i) * 65536 + 65536) - max addr ((addr / 65536 + i) * 65536))) _ _ (fun i t => ?_) _
      unfold State.countUnits; simp only [State.flag_upd]; simp (disch := first | decide | exact Nat.one_ne_zero | (simp only [inWord_iff, apart_iff, regSpan] <;> omega)) only [State.fld_setFld_same, State.fld_setFld_apart, State.fld_setFlag_apart, State.flag_setFlag_same, State.flag_setFlag_apart, State.flag_setFld_apart, State.fld_incSat_apart, State.fld_orFld_apart, flag_orFld_apart, flag_incSat_apart, fld_setFld64_apart, flag_setFld64_apart, fld_incWrap_apart, flag_incWrap_apart, fld_incWrap_same, fld_incSat_same', fld_clrFld_apart, fld64_setFld64, State.fld_upd, State.flag_upd]
  have E : s.bondLoad e addr n code none = ⟨.ok, ((s.openPage e addr n).countStack F.MEM_STK_RD_UNITS e addr n).readBytes (bondKey e addr) n, (s.openPage e addr n).countStack F.MEM_STK_RD_UNITS e addr n⟩ := by
    unfold State.bondLoad; rw [if_pos h1, c]; simp only [p0, Bool.false_eq_true, if_false]
  intro m
  have hm : m = ⟨.ok, ((s.openPage e addr n).countStack F.MEM_STK_RD_UNITS e addr n).readBytes (bondKey e addr) n, (s.openPage e addr n).countStack F.MEM_STK_RD_UNITS e addr n⟩ := E
  rw [hm]
  refine ⟨rfl, ?_, ?_, ?_, ?_, ?_⟩
  · exact readBytes_mem _ _ ((count_mem _ _ _ _ _).1.trans (open_mem _ _ _ _).1) _ _
  · exact (sc _).trans so
  · exact (count_mem _ _ _ _ _).1.trans (open_mem _ _ _ _).1
  · exact (count_mem _ _ _ _ _).2.trans (open_mem _ _ _ _).2
  · exact (pz _).trans (po.trans h2.symm)
theorem view_id (t : State) (r : Reader) (e a : Nat) (h : t.seqOn e = false) (bs : List Nat) : t.viewOf r e a bs = bs := by
  have : ∀ x, t.masks r e x = false := by intro x; unfold State.masks State.provisional; cases r <;> simp [h]
  unfold State.viewOf
  simp [this, List.zipIdx_map_fst]
def MP (s t : State) : Prop := t.mem = s.mem ∧ t.poison = s.poison
theorem fire_mp (s : State) (a b : Nat) : MP s (s.fire a b) := by unfold State.fire; split <;> exact ⟨rfl, rfl⟩
theorem log_mp (s : State) (r : FaultRec) (p : Bool) (n : Nat) : (s.logFault r p n).mem = s.mem ∧ (s.logFault r p n).poison = s.poison := ⟨rfl, rfl⟩
theorem rw_mp (s : State) (e : Nat) (r : FaultRec) : (s.faultRingWrite e r).mem = s.mem ∧ (s.faultRingWrite e r).poison = s.poison := by
  unfold State.faultRingWrite; exact ⟨(fire_mp _ _ _).1, (fire_mp _ _ _).2⟩
theorem lost_mp (s : State) (e : Nat) (r : FaultRec) : (s.faultLost e r).mem = s.mem ∧ (s.faultLost e r).poison = s.poison := by
  unfold State.faultLost; simp only; split <;> exact ⟨rfl, rfl⟩
theorem deliver_mp (s : State) (r : FaultRec) : MP s (s.deliverFault r) := by
  unfold State.deliverFault MP
  split
  · simp only; rw [(rw_mp _ _ _).1, (rw_mp _ _ _).2]; exact log_mp _ _ _ _
  · simp only; rw [(lost_mp _ _ _).1, (lost_mp _ _ _).2]; exact log_mp _ _ _ _
theorem refuse_mp (s : State) (e a : Nat) : MP s (s.refuseShare e a) := by
  unfold State.refuseShare State.usageFault; exact ⟨(deliver_mp _ _).1.trans rfl, (deliver_mp _ _).2.trans rfl⟩
theorem reg_setFld_off (s : State) (u : Nat) (f : Fld) (v : Nat) (v' off : Nat) (h : off < regSpan) (h1 : f.off < regSpan) (h2 : off ≠ f.off) : (s.setFld u f v).reg v' off = s.reg v' off := by
  unfold State.setFld; exact State.reg_setReg_ne _ _ (regKey_ne h h1 (Or.inr h2))
theorem reg_setFlag_off (s : State) (u : Nat) (f : Fld) (b : Bool) (v' off : Nat) (h : off < regSpan) (h1 : f.off < regSpan) (h2 : off ≠ f.off) : (s.setFlag u f b).reg v' off = s.reg v' off := by
  unfold State.setFlag; exact reg_setFld_off _ _ _ _ _ _ h h1 h2
/-- What showing the held units, and the start of bring-up, leave alone. -/
theorem held_keep (s : State) : (s.showHeld = { s with regs := s.showHeld.regs }) ∧ ∀ u off, off < regSpan → off ≠ 0x20018 → s.showHeld.reg u off = s.reg u off := by
  unfold State.showHeld
  exact ⟨rfl, fun u off h n => (reg_setFlag_off _ _ _ _ _ _ h (by decide) n).trans (reg_setFlag_off _ _ _ _ _ _ h (by decide) n)⟩
theorem up_keep (s : State) : (s.bringUp = { s with regs := s.bringUp.regs }) ∧
    ∀ u off, off < regSpan → off ≠ 0x20018 → off ≠ 0x20000 → off ≠ 0x2002C → s.bringUp.reg u off = s.reg u off := by
  unfold State.bringUp
  refine ⟨(held_keep _).1, fun u off h n n1 n2 => ((held_keep _).2 u off h n).trans ?_⟩
  rw [reg_setFld_off _ _ _ _ _ _ h (by decide) n, reg_setFld_off _ _ _ _ _ _ h (by decide) n, reg_setFld_off _ _ _ _ _ _ h (by decide) n2, reg_setFlag_off _ _ _ _ _ _ h (by decide) n1]
theorem fld_of_reg {s t : State} {u : Nat} {f : Fld} (h : t.reg u f.off = s.reg u f.off) : t.fld u f = s.fld u f := by unfold State.fld; rw [h]
theorem access_open {s : State} {req : Requester} {off : Nat} (f : Nat → Res) (h : s.barOpen req off = true) : s.access req off f = f (s.unitAt req off) := if_pos h
theorem access_at {s : State} {req : Requester} {off u : Nat} (f : Nat → Res) (h : s.barOpen req off = true) (e : s.unitAt req off = u) : s.access req off f = f u := by rw [access_open f h, e]
theorem access_shut {s : State} {req : Requester} {off : Nat} (f : Nat → Res) (h : s.barOpen req off = false) : s.access req off f = .next s := if_neg (by rw [h]; exact Bool.false_ne_true)
theorem setScore_sc (s : State) (core e : Nat) (t : ScSt) : (s.setScore core e t).sc = SMap.set (fun _ => ScSt.empty) s.sc core t := by
  unfold State.setScore State.setScBit; cases t.cur <;> rfl
theorem setScore_keep (s : State) (core e : Nat) (t : ScSt) : let u := s.setScore core e t
    u.mem = s.mem ∧ u.poison = s.poison ∧ u.used = s.used ∧ u.sched = s.sched ∧ u.tc = s.tc ∧ u.seq = s.seq ∧ u.str = s.str ∧ u.emb = s.emb ∧ u.yz = s.yz ∧ u.fq = s.fq ∧ u.rad = s.rad ∧ u.out = s.out := by
  unfold State.setScore State.setScBit; cases t.cur <;> exact ⟨rfl, rfl, rfl, rfl, rfl, rfl, rfl, rfl, rfl, rfl, rfl, rfl⟩
theorem setScore_regs (s : State) (core e : Nat) (t : ScSt) (hc : core < 192) (u off : Nat) (h : off < regSpan) (g : scoreShown off = false) : (s.setScore core e t).reg u off = s.reg u off := by
  simp only [scoreShown, List.contains_cons, List.contains_nil, Bool.or_false, Bool.or_eq_false_iff, decide_eq_false_iff_not, beq_eq_false_iff_ne] at g
  obtain ⟨g0, g1, g2, g3, g4, g5, g6⟩ := g
  have r : ∀ (s : State) (v : Nat) (f : Fld) (n : Nat), f.off < regSpan → off ≠ f.off → (s.setFld v f n).reg u off = s.reg u off := fun s v f n a b => reg_setFld_off s v f n u off h a b
  have rf : ∀ (s : State) (v : Nat) (f : Fld) (n : Bool), f.off < regSpan → off ≠ f.off → (s.setFlag v f n).reg u off = s.reg u off := fun s v f n a b => reg_setFlag_off s v f n u off h a b
  unfold State.setScore State.setScBit
  simp only
  rw [r _ _ _ _ (by decide) g6]
  have b : ∀ (s : State) (bb : Bool) (m : Nat), (if bb then s.orFld 0 (F.SC_BUSY_BUSY (core / 32)) m else s.clrFld 0 (F.SC_BUSY_BUSY (core / 32)) m).reg u off = s.reg u off := by
    intro s bb m
    have z1 : (F.SC_BUSY_BUSY (core / 32)).off < regSpan := by show 0x140020 + core / 32 * 4 < regSpan; unfold regSpan; omega
    have z2 : off ≠ (F.SC_BUSY_BUSY (core / 32)).off := by show off ≠ 0x140020 + core / 32 * 4; omega
    cases bb
    · exact r _ _ _ _ z1 z2
    · exact r _ _ _ _ z1 z2
  rw [b]
  cases t.cur
  rotate_left
  · rw [r _ _ _ _ (by decide) g2, rf _ _ _ _ (by decide) g2, rf _ _ _ _ (by decide) g2, r _ _ _ _ (by decide) g2, r _ _ _ _ (by decide) g3, r _ _ _ _ (by decide) g3,
      r _ _ _ _ (by decide) g1, rf _ _ _ _ (by decide) g1, r _ _ _ _ (by decide) g1]; rfl
  · rw [State.reg_setReg_ne _ _ (regKey_ne h (by decide) (Or.inr g2)), r _ _ _ _ (by decide) g3, r _ _ _ _ (by decide) g3,
      r _ _ _ _ (by decide) g1, rf _ _ _ _ (by decide) g1, r _ _ _ _ (by decide) g1]; rfl
theorem score_set (s : State) (core c e : Nat) (t : ScSt) : (s.setScore core e t).score c = if c = core then t else s.score c := by
  unfold State.score; rw [setScore_sc, SMap.get_set]
theorem setScore_issued (s : State) (core e : Nat) (x y : ScCtx) (hc : core < 192) :
    s.Issued (if x.slot = 3 ∨ y.ended.isSome then (s.setScore core e ((s.score core).setCtx x.cmd.radio (some y.endPacket))).inc64 core F.SC_BUSYCYC_LO_CYCLES F.SC_BUSYCYC_HI_CYCLES 1
      else s.setScore core e ((s.score core).setCtx x.cmd.radio (some { y with slot := x.slot + 1 }))) core x y := by
  have sc64 : ∀ (t : State) c, (t.inc64 core F.SC_BUSYCYC_LO_CYCLES F.SC_BUSYCYC_HI_CYCLES 1).score c = t.score c := fun _ _ => rfl
  by_cases c : x.slot = 3 ∨ y.ended.isSome
  · rw [if_pos c]
    refine ⟨?_, ?_, ?_, ?_, ?_⟩
    · rw [sc64, score_set, if_pos rfl, if_pos c]
    · intro d hd; rw [sc64, score_set, if_neg hd]
    · intro u off h g
      rw [← setScore_regs s core e ((s.score core).setCtx x.cmd.radio (some y.endPacket)) hc u off h g]
      simp only [scoreShown, List.contains_cons, List.contains_nil, Bool.or_false, Bool.or_eq_false_iff, decide_eq_false_iff_not, beq_eq_false_iff_ne] at g
      unfold State.inc64 State.setFld64
      rw [reg_setFld_off _ _ _ _ _ _ h (by decide) g.2.2.2.2.2.1, reg_setFld_off _ _ _ _ _ _ h (by decide) g.2.2.2.2.1]
    · have k := setScore_keep s core e ((s.score core).setCtx x.cmd.radio (some y.endPacket))
      exact ⟨k.1, k.2.1, k.2.2.1⟩
    · have k := setScore_keep s core e ((s.score core).setCtx x.cmd.radio (some y.endPacket))
      obtain ⟨_, _, _, k⟩ := k
      exact k
  · rw [if_neg c]
    have k := setScore_keep s core e ((s.score core).setCtx x.cmd.radio (some { y with slot := x.slot + 1 }))
    refine ⟨?_, ?_, ?_, ⟨k.1, k.2.1, k.2.2.1⟩, k.2.2.2⟩
    · rw [score_set, if_pos rfl, if_neg c]
    · intro d hd; rw [score_set, if_neg hd]
    · intro u off h g; exact setScore_regs s core e _ hc u off h g
theorem pure_issued (s : State) (core : Fin 192) (op : Nat) (f : Nat → ScCtx → ScCtx) (x : ScCtx) (w : Nat) (h : s.scGo core = some x) (hw : s.scWord core x.cmd.easel x.pc x.slot = w) (ho : wOp w = op) :
    s.Issued (s.scPure core op f) core x (f w x) := by
  have E : s.scPure core op f = (if x.slot = 3 ∨ (f w x).ended.isSome then (s.setScore core x.cmd.easel ((s.score core).setCtx x.cmd.radio (some (f w x).endPacket))).inc64 core F.SC_BUSYCYC_LO_CYCLES F.SC_BUSYCYC_HI_CYCLES 1
      else s.setScore core x.cmd.easel ((s.score core).setCtx x.cmd.radio (some { (f w x) with slot := x.slot + 1 }))) := by
    unfold State.scPure State.scIssue
    simp only [h, hw]
    rw [if_neg (by simp [ho])]
  rw [E]; exact setScore_issued s core _ x (f w x) core.isLt
theorem issue_not (s : State) (core op : Nat) (f : Nat → ScCtx → State → ScCtx × State) (x : ScCtx) (h : s.scGo core = some x) (ho : wOp (s.scWord core x.cmd.easel x.pc x.slot) ≠ op) :
    s.scIssue core op f = s := by
  unfold State.scIssue; simp only [h]; rw [if_pos ho]
theorem issue_none (s : State) (core op : Nat) (f : Nat → ScCtx → State → ScCtx × State) (h : s.scGo core = none) : s.scIssue core op f = s := by
  unfold State.scIssue; simp only [h]
theorem push_lane (x : ScCtx) (lat k v : Nat) (h : 256 ≤ k) : x.push lat k v = { x with wr := x.wr ++ [⟨x.cyc + lat, k, v, 0, false⟩] } := by
  unfold ScCtx.push kA kP; rw [if_neg (by omega)]
theorem lanes_push (x : ScCtx) (lat : Nat) (en : Nat → Bool) (key val : Nat → Nat) (h : ∀ i, 256 ≤ key i) :
    forUpto 32 (fun i y => if en i then y.push lat (key i) (val i) else y) x = x.lanes lat en key val := by
  have : ∀ l : List Nat, ∀ y : ScCtx, l.foldl (fun (t : ScCtx) i => if en i then t.push lat (key i) (val i) else t) y =
      { y with wr := y.wr ++ (l.filter en).map (fun i => ⟨y.cyc + lat, key i, val i, 0, false⟩) } := by
    intro l
    induction l with
    | nil => intro y; simp
    | cons a l ih =>
      intro y
      rw [List.foldl_cons]
      by_cases c : en a = true
      · rw [if_pos c, push_lane _ _ _ _ (h a), ih, List.filter_cons_of_pos (by simpa using c)]; simp
      · rw [if_neg c, ih, List.filter_cons_of_neg (by simpa using c)]
  exact this _ _
/-- What a fault's delivery leaves alone. -/
structure DKeep (s t : State) : Prop where
  mem : t.mem = s.mem
  poison : t.poison = s.poison
  sched : t.sched = s.sched
  tc : t.tc = s.tc
  sc : t.sc = s.sc
  seq : t.seq = s.seq
  str : t.str = s.str
  emb : t.emb = s.emb
  yz : t.yz = s.yz
  eth : t.eth = s.eth
  tod : t.tod = s.tod
  fld : ∀ u (g : Fld), g.inWord = true → [F.FLT_LOG_COUNT_COUNT.off, F.FLT_EAS_TAIL_TAIL.off, F.FLT_EAS_LOST_COUNT.off, F.FLT_EAS_SUMMARY_USAGE.off, F.EGS_EAS_CXL_UNITS.off].contains g.off = false → t.fld u g = s.fld u g
theorem DKeep.trans {s t u : State} (h : DKeep s t) (k : DKeep t u) : DKeep s u :=
  ⟨k.mem.trans h.mem, k.poison.trans h.poison, k.sched.trans h.sched, k.tc.trans h.tc, k.sc.trans h.sc, k.seq.trans h.seq, k.str.trans h.str, k.emb.trans h.emb, k.yz.trans h.yz, k.eth.trans h.eth, k.tod.trans h.tod,
    fun v g a b => (k.fld v g a b).trans (h.fld v g a b)⟩
theorem dk_fld (s : State) (u : Nat) (f : Fld) (v : Nat) (hf : f.inWord = true) (h : [F.FLT_LOG_COUNT_COUNT.off, F.FLT_EAS_TAIL_TAIL.off, F.FLT_EAS_LOST_COUNT.off, F.FLT_EAS_SUMMARY_USAGE.off, F.EGS_EAS_CXL_UNITS.off].contains f.off = true) :
    DKeep s (s.setFld u f v) := by
  refine ⟨rfl, rfl, rfl, rfl, rfl, rfl, rfl, rfl, rfl, rfl, rfl, fun w g hg n => State.fld_setFld_apart _ _ _ _ _ _ hf hg ((apart_iff _ _).mpr (Or.inl ?_))⟩
  intro e; rw [e, h] at n; cases n
theorem dk_fire (s : State) (a b : Nat) : DKeep s (s.fire a b) := by
  unfold State.fire; split <;> exact ⟨rfl, rfl, rfl, rfl, rfl, rfl, rfl, rfl, rfl, rfl, rfl, fun _ _ _ _ => rfl⟩
theorem dk_log (s : State) (r : FaultRec) (p : Bool) (n : Nat) : DKeep s (s.logFault r p n) := by
  have h := dk_fld s 0 F.FLT_LOG_COUNT_COUNT (s.fld 0 F.FLT_LOG_COUNT_COUNT + 1) (by decide) (by decide)
  exact ⟨h.mem, h.poison, h.sched, h.tc, h.sc, h.seq, h.str, h.emb, h.yz, h.eth, h.tod, h.fld⟩
theorem dk_host (s : State) (e a : Nat) (bs : List Nat) : DKeep s (s.hostWrite e a bs) := by
  exact ⟨rfl, rfl, rfl, rfl, rfl, rfl, rfl, rfl, rfl, rfl, rfl, fun _ _ _ _ => rfl⟩
theorem dk_ring (s : State) (e : Nat) (r : FaultRec) : DKeep s (s.faultRingWrite e r) := by
  unfold State.faultRingWrite; simp only
  refine DKeep.trans ?_ (dk_fire _ _ _)
  refine DKeep.trans ?_ (dk_fld _ _ _ _ (by decide) (by decide))
  have h := dk_host s e (s.fld64 e F.FLT_EAS_BASE_LO_ADDR F.FLT_EAS_BASE_HI_ADDR + 32 * s.fld e F.FLT_EAS_TAIL_TAIL) (r.bytes (SMap.get (fun _ => RingPos.start) s.flt.ring e).phase (SMap.get (fun _ => RingPos.start) s.flt.ring e).seqno)
  exact ⟨h.mem, h.poison, h.sched, h.tc, h.sc, h.seq, h.str, h.emb, h.yz, h.eth, h.tod, h.fld⟩
theorem dk_lost (s : State) (e : Nat) (r : FaultRec) : DKeep s (s.faultLost e r) := by
  unfold State.faultLost; simp only
  have h1 : DKeep s (s.incSat e F.FLT_EAS_LOST_COUNT 1) := dk_fld _ _ _ _ (by decide) (by decide)
  split
  · exact h1.trans (dk_fld _ _ F.FLT_EAS_SUMMARY_USAGE _ (by decide) (by decide))
  · exact h1.trans (dk_fld _ _ F.FLT_EAS_SUMMARY_CLASS _ (by decide) (by decide))
theorem dk_deliver (s : State) (r : FaultRec) : DKeep s (s.deliverFault r) := by
  unfold State.deliverFault
  split
  · exact (dk_log _ _ _ _).trans (dk_ring _ _ _)
  · refine DKeep.trans ?_ (dk_lost _ _ _)
    have h := dk_log s.draw.2 r (Config.lostMark s.draw.1).1 (Config.lostMark s.draw.1).2
    exact ⟨h.mem, h.poison, h.sched, h.tc, h.sc, h.seq, h.str, h.emb, h.yz, h.eth, h.tod, h.fld⟩
theorem dk_usage (s : State) (e k u i c : Nat) : DKeep s (s.usageFault e k u i c) := dk_deliver _ _
theorem chan_set (s : State) (n m : Nat) (c : Chan) : (s.setChan n c).chan m = if m = n then c else s.chan m := by
  unfold State.chan; show SMap.get _ (SMap.set _ s.str.chans n c) m = _; rw [SMap.get_set]
theorem setChan_fld (s : State) (n : Nat) (c : Chan) (u : Nat) (g : Fld) (hg : g.inWord = true) (h : g.off ≠ F.STR_CH_STATE_PEND.off) : (s.setChan n c).fld u g = s.fld u g := by
  unfold State.setChan; simp only
  have ap : ∀ f : Fld, f.off = F.STR_CH_STATE_PEND.off → g.apart f = true := fun f e => (apart_iff _ _).mpr (Or.inl (e ▸ h))
  rw [State.fld_setFld_apart _ _ _ F.STR_CH_STATE_LEFT _ _ (by decide) hg (ap _ rfl), State.fld_setFld_apart _ _ _ F.STR_CH_STATE_PC _ _ (by decide) hg (ap _ rfl), State.fld_setFlag_apart _ _ _ F.STR_CH_STATE_PEND _ _ (by decide) hg (ap _ rfl)]; rfl
/-- Kept by a channel's own steps: all but the streams' state and a few channel registers. -/
structure CKeep (s t : State) : Prop where
  mem : t.mem = s.mem
  poison : t.poison = s.poison
  out : t.out = s.out
  tc : t.tc = s.tc
  sc : t.sc = s.sc
  seq : t.seq = s.seq
  fld : ∀ u (g : Fld), g.inWord = true → [F.STR_CH_STATE_PEND.off, F.STR_THREADS_W.off, F.STR_THREADS_C.off, F.STR_THREADS_E.off, F.STR_HALTED_COUNT.off, F.STR_CH_SEMSTAT_FULL_WAIT.off].contains g.off = false → t.fld u g = s.fld u g
theorem CKeep.refl (s : State) : CKeep s s := ⟨rfl, rfl, rfl, rfl, rfl, rfl, fun _ _ _ _ => rfl⟩
theorem CKeep.trans {s t u : State} (h : CKeep s t) (k : CKeep t u) : CKeep s u :=
  ⟨k.mem.trans h.mem, k.poison.trans h.poison, k.out.trans h.out, k.tc.trans h.tc, k.sc.trans h.sc, k.seq.trans h.seq, fun v g a b => (k.fld v g a b).trans (h.fld v g a b)⟩
theorem ck_set (s : State) (n : Nat) (c : Chan) : CKeep s (s.setChan n c) := by
  refine ⟨rfl, rfl, rfl, rfl, rfl, rfl, fun u g hg h => setChan_fld s n c u g hg ?_⟩
  simp only [List.contains_cons, Bool.or_eq_false_iff, beq_eq_false_iff_ne] at h; exact h.1
theorem ck_fld (s : State) (u : Nat) (f : Fld) (v : Nat) (hf : f.inWord = true) (h : [F.STR_CH_STATE_PEND.off, F.STR_THREADS_W.off, F.STR_THREADS_C.off, F.STR_THREADS_E.off, F.STR_HALTED_COUNT.off, F.STR_CH_SEMSTAT_FULL_WAIT.off].contains f.off = true) :
    CKeep s (s.setFld u f v) := by
  refine ⟨rfl, rfl, rfl, rfl, rfl, rfl, fun w g hg n => State.fld_setFld_apart _ _ _ _ _ _ hf hg ((apart_iff _ _).mpr (Or.inl ?_))⟩
  intro e; rw [e, h] at n; cases n
theorem ck_state (s : State) (n st : Nat) : CKeep s (s.chState n st) := ck_fld _ _ _ _ (by decide) (by decide)
theorem ck_thread (s : State) (p v : Nat) : CKeep s (s.setFld 0 (threadFld p) v) := by
  unfold threadFld
  split
  · exact ck_fld _ _ _ _ (by decide) (by decide)
  · split
    · exact ck_fld _ _ _ _ (by decide) (by decide)
    · exact ck_fld _ _ _ _ (by decide) (by decide)
theorem chan_thread (c : Chan) (h : c.thread = none) : c = { c with thread := none } := by cases c; simp only at h; subst h; rfl
theorem chan_halt (c : Chan) (h : c.halt = none) : c = { c with halt := none } := by cases c; simp only at h; subst h; rfl
theorem drop_spec (s : State) (n : Nat) : CKeep s (s.dropThread n) ∧ (s.dropThread n).chan n = { s.chan n with thread := none } ∧ (∀ m, m ≠ n → (s.dropThread n).chan m = s.chan m) := by
  unfold State.dropThread; simp only
  cases h : (s.chan n).thread with
  | none => exact ⟨CKeep.refl _, chan_thread _ h, fun _ _ => rfl⟩
  | some v =>
    simp only
    refine ⟨((ck_set _ _ _).trans (ck_fld _ _ F.STR_CH_STATE_THREAD _ (by decide) (by decide))).trans (ck_thread _ _ _), ?_, fun m hm => ?_⟩
    · show (State.setChan _ _ _).chan n = _; rw [chan_set, if_pos rfl]
    · show (State.setChan _ _ _).chan m = _; rw [chan_set, if_neg hm]
theorem ready_spec (s : State) (n : Nat) : CKeep s (s.makeReady n) ∧ ∀ m, (s.makeReady n).chan m = s.chan m := by
  unfold State.makeReady; split <;> exact ⟨⟨rfl, rfl, rfl, rfl, rfl, rfl, fun _ _ _ _ => rfl⟩, fun _ => rfl⟩
theorem next_spec (s : State) (n : Nat) : CKeep s (s.nextDesc n) ∧ (s.nextDesc n).chan n = { s.chan n with thread := none } ∧ (∀ m, m ≠ n → (s.nextDesc n).chan m = s.chan m) := by
  obtain ⟨a, b, c⟩ := drop_spec s n
  unfold State.nextDesc; simp only
  cases h : ((s.dropThread n).chan n).run with
  | none => exact ⟨a.trans (ck_state _ _ _), b, c⟩
  | some r =>
    simp only
    by_cases q : (!r.hand.isEmpty) = true
    · rw [if_pos q]
      have z := ready_spec ((s.dropThread n).chState n chFetch) n
      exact ⟨(a.trans (ck_state _ _ _)).trans z.1, (z.2 n).trans b, fun m hm => (z.2 m).trans (c m hm)⟩
    · rw [if_neg q]
      split
      · exact ⟨a.trans (ck_state _ _ _), b, c⟩
      · exact ⟨a.trans (ck_state _ _ _), b, c⟩
theorem unhalt_spec (s : State) (n : Nat) : CKeep s (s.unhalt n) ∧ (s.unhalt n).chan n = { s.chan n with halt := none } ∧ (∀ m, m ≠ n → (s.unhalt n).chan m = s.chan m) := by
  unfold State.unhalt
  cases h : (s.chan n).halt with
  | none => exact ⟨CKeep.refl _, chan_halt _ h, fun _ _ => rfl⟩
  | some v =>
    simp only [Option.isSome_some, if_true]
    refine ⟨(ck_set _ _ _).trans (ck_fld _ _ _ _ (by decide) (by decide)), ?_, fun m hm => ?_⟩
    · show (State.setChan _ _ _).chan n = _; rw [chan_set, if_pos rfl]
    · show (State.setChan _ _ _).chan m = _; rw [chan_set, if_neg hm]
theorem takes_spec (s : State) (w : Waiter) : CKeep s (s.dropTakes w) ∧ (s.dropTakes w).str = s.str := by
  unfold State.dropTakes
  simp only
  generalize List.map _ _ = ks
  have h : ∀ (l : List Nat) (t : State), CKeep s t ∧ t.str = s.str →
      let u := l.foldl (fun (t : State) k => t.setWaiters k ((t.semWaiters k).filter (fun x => decide (x ≠ w)))) t
      CKeep s u ∧ u.str = s.str := by
    intro l
    induction l with
    | nil => intro t h; exact h
    | cons a r ih =>
      intro t h
      refine ih _ ⟨h.1.trans ?_, h.2⟩
      unfold State.setWaiters
      have k : ∀ (t : State) f v, f.inWord = true → f.off = F.STR_CH_SEMSTAT_FULL_WAIT.off → CKeep t (t.setFld (a / 2) f v) := fun t f v i e => ck_fld _ _ _ _ i (by rw [e]; decide)
      have k0 : ∀ x, CKeep t { t with sched := x } := fun x => ⟨rfl, rfl, rfl, rfl, rfl, rfl, fun _ _ _ _ => rfl⟩
      exact (k0 { t.sched with waiting := SMap.set (fun _ => []) t.sched.waiting a ((t.semWaiters a).filter (fun x => decide (x ≠ w))) }).trans
        (k _ (if a % 2 = 0 then F.STR_CH_SEMSTAT_FULL_WAIT else F.STR_CH_SEMSTAT_EMPTY_WAIT) _ (by split <;> decide) (by split <;> decide))
  obtain ⟨a, b⟩ := h ks s ⟨CKeep.refl s, rfl⟩
  exact ⟨⟨a.mem, a.poison, a.out, a.tc, a.sc, a.seq, a.fld⟩, b⟩
/-- Ending the run of a channel with a descriptor in execution and none in hand. -/
theorem end_spec (s : State) (n st pc : Nat) (x : StrExec) (r : StrRun) (hx : (s.chan n).exec = some x) (hr : (s.chan n).run = some r) (hh : r.hand = []) :
    CKeep s (s.endRun n st pc) ∧ (s.endRun n st pc).chan n = { s.chan n with
      halt := none, exec := none, drain := (s.chan n).drain ++ [{ x.done with status := st, stPc := pc }], run := some { r with ending := some stAborted }, failed := [], thread := none } ∧
      (∀ m, m ≠ n → (s.endRun n st pc).chan m = s.chan m) := by
  obtain ⟨a, b, c⟩ := unhalt_spec s n
  obtain ⟨y, ey⟩ := takes_spec (s.unhalt n) (.channel n)
  have ec : ∀ m, ((s.unhalt n).dropTakes (.channel n)).chan m = (s.unhalt n).chan m := fun m => by unfold State.chan; rw [ey]
  have a' : CKeep s ((s.unhalt n).dropTakes (.channel n)) := a.trans y
  have b' : ((s.unhalt n).dropTakes (.channel n)).chan n = { s.chan n with halt := none } := (ec n).trans b
  have c' : ∀ m, m ≠ n → ((s.unhalt n).dropTakes (.channel n)).chan m = s.chan m := fun m h => (ec m).trans (c m h)
  unfold State.endRun; simp only
  generalize (s.unhalt n).dropTakes (.channel n) = u at *
  have hr' : (u.chan n).run = some r := by rw [b']; exact hr
  have hx' : (u.chan n).exec = some x := by rw [b']; exact hx
  simp only [hr']
  have ed : (u.chan n).endDesc r st pc (s.chan n).halt.isSome = ([{ x.done with status := st, stPc := pc }], r) := by unfold Chan.endDesc; simp only [hx']
  simp only [ed]
  generalize hv : u.setChan n _ = v
  have vk : CKeep u v := by rw [← hv]; exact ck_set _ _ _
  have vc : v.chan n = { u.chan n with exec := none, drain := (u.chan n).drain ++ [{ x.done with status := st, stPc := pc }], run := some { r with ending := some stAborted }, failed := [] } := by
    rw [← hv, chan_set, if_pos rfl]
  have vo : ∀ m, m ≠ n → v.chan m = u.chan m := fun m hm => by rw [← hv, chan_set, if_neg hm]
  generalize hw : ({ v with str := { v.str with ready := v.str.ready.filter (fun m => decide (m ≠ n)) } } : State) = w
  have wk : CKeep v w := by rw [← hw]; exact ⟨rfl, rfl, rfl, rfl, rfl, rfl, fun _ _ _ _ => rfl⟩
  have wc : ∀ m, w.chan m = v.chan m := by rw [← hw]; exact fun _ => rfl
  have hand : ∀ m, (CKeep w (w.abortHand n)) ∧ (w.abortHand n).chan m = w.chan m := by
    intro m
    have e1 : (w.chan n).run = some { r with ending := some stAborted } := by rw [wc, vc]
    unfold State.abortHand
    simp only [e1, Option.isSome_some, if_true, hh, List.zipIdx_nil, List.map_nil, List.append_nil, List.length_nil, Nat.add_zero]
    have e2 : (w.setChan n { w.chan n with run := some { r with ending := some stAborted, hand := [] } }).chan m = w.chan m := by
      rw [chan_set]; split
      · next h => subst h; have := congrArg (fun z => { w.chan m with run := some z }) (show ({ r with ending := some stAborted, hand := [] } : StrRun) = { r with ending := some stAborted } by cases r; simp only at hh; subst hh; rfl)
                  exact this.trans (by rw [← e1])
      · rfl
    split
    · exact ⟨(ck_set _ _ _).trans (ck_state _ _ _), e2⟩
    · exact ⟨ck_set _ _ _, e2⟩
  refine ⟨(((a'.trans vk).trans wk).trans (hand n).1).trans (next_spec _ _).1, ((next_spec _ _).2.1).trans ?_, fun m hm => ((next_spec _ _).2.2 m hm).trans ?_⟩
  · rw [(hand n).2, wc, vc, b']
  · rw [(hand m).2, wc, vo m hm]; exact c' m hm
theorem error_spec (s : State) (n st pc addr : Nat) (x : StrExec) (r : StrRun) (hx : (s.chan n).exec = some x) (hr : (s.chan n).run = some r) (hh : r.hand = []) (h : haltsPatient st = false) (h' : st < 64) : let t := s.chanError n st pc addr
    t.fld n F.STR_CH_FAULT_STATUS = st % 2 ^ F.STR_CH_FAULT_STATUS.width ∧ t.fld n F.STR_CH_FAULT_PC = pc % 32 ∧ t.mem = s.mem ∧ t.poison = s.poison ∧ t.chan n = { s.chan n with
      halt := none, exec := none, drain := (s.chan n).drain ++ [{ x.done with status := st, stPc := pc }], run := some { r with ending := some stAborted }, failed := [], thread := none } := by
  intro t
  have so : st ≠ stOutOfShare ∧ ¬ (st = stDead ∨ st = stFence) := by
    unfold haltsPatient at h; simp only [decide_eq_false_iff_not] at h
    exact ⟨fun z => h (Or.inl z), fun z => h (by rcases z with z | z; exact Or.inr (Or.inl z); exact Or.inr (Or.inr (Or.inl z)))⟩
  let fr := s.chanFaultRegs n st (pc % 32) x.index addr
  have frk : fr.mem = s.mem ∧ fr.poison = s.poison ∧ (∀ m, fr.chan m = s.chan m) ∧ fr.fld n F.STR_CH_FAULT_STATUS = st % 2 ^ F.STR_CH_FAULT_STATUS.width ∧ fr.fld n F.STR_CH_FAULT_PC = pc % 32 := by
    refine ⟨rfl, rfl, fun _ => rfl, ?_, ?_⟩ <;> (unfold fr State.chanFaultRegs; simp (disch := first | decide | exact Nat.one_ne_zero | (simp only [inWord_iff, apart_iff, regSpan] <;> omega)) only [State.fld_setFld_same, State.fld_setFld_apart, State.fld_setFlag_apart, State.flag_setFlag_same, State.flag_setFlag_apart, State.flag_setFld_apart, State.fld_incSat_apart, State.fld_orFld_apart, flag_orFld_apart, flag_incSat_apart, fld_setFld64_apart, flag_setFld64_apart, fld_incWrap_apart, flag_incWrap_apart, fld_incWrap_same, fld_incSat_same', fld_clrFld_apart, fld64_setFld64, State.fld_upd, State.flag_upd])
    exact Nat.mod_mod _ _
  have E : t = (fr.usageFault (fr.chEasel n) ukChannel n 0 ufChannelFault).endRun n st pc := by
    unfold t State.chanError
    simp only [hx, h, Bool.and_false, Bool.false_eq_true, if_false]
    unfold State.chanReport
    rw [if_neg so.1, if_neg so.2]
  have dk := dk_usage fr (fr.chEasel n) ukChannel n 0 ufChannelFault
  have ch : (fr.usageFault (fr.chEasel n) ukChannel n 0 ufChannelFault).chan n = s.chan n := by unfold State.chan; rw [dk.str]; rfl
  obtain ⟨a, b, c⟩ := end_spec (fr.usageFault (fr.chEasel n) ukChannel n 0 ufChannelFault) n st pc x r (by rw [ch]; exact hx) (by rw [ch]; exact hr) hh
  rw [E]
  refine ⟨?_, ?_, a.mem.trans (dk.mem.trans frk.1), a.poison.trans (dk.poison.trans frk.2.1), ?_⟩
  · rw [a.fld _ _ (by decide) (by decide), dk.fld _ _ (by decide) (by decide), frk.2.2.2.1]
  · rw [a.fld _ _ (by decide) (by decide), dk.fld _ _ (by decide) (by decide), frk.2.2.2.2]
  · rw [b, ch]
theorem exec_spec (s : State) (n : Nat) (y : StrExec) : (s.setExec n y).chan n = { s.chan n with exec := some y } ∧ (∀ m, m ≠ n → (s.setExec n y).chan m = s.chan m) ∧ (s.setExec n y).fld n F.STR_CH_STATE_PC = y.pc % 32 ∧
    (s.setExec n y).mem = s.mem ∧ (s.setExec n y).out = s.out := by
  unfold State.setExec
  refine ⟨by rw [chan_set, if_pos rfl], fun m hm => by rw [chan_set, if_neg hm], ?_, rfl, rfl⟩
  unfold State.setChan; simp (disch := first | decide | exact Nat.one_ne_zero | (simp only [inWord_iff, apart_iff, regSpan] <;> omega)) only [State.fld_setFld_same, State.fld_setFld_apart, State.fld_setFlag_apart, State.flag_setFlag_same, State.flag_setFlag_apart, State.flag_setFld_apart, State.fld_incSat_apart, State.fld_orFld_apart, flag_orFld_apart, flag_incSat_apart, fld_setFld64_apart, flag_setFld64_apart, fld_incWrap_apart, flag_incWrap_apart, fld_incWrap_same, fld_incSat_same', fld_clrFld_apart, fld64_setFld64, State.fld_upd, State.flag_upd]; rfl
/-- The registers that an access of bonded memory may change. -/
def lkOffs : List Nat := [F.PWR_STK_SR_SR.off, F.PWR_WAKES_COUNT.off, F.PWR_EAS_WAKE_WAIT_COUNT.off, F.MEM_STK_STATUS_STATE.off, F.MEM_STK_RD_UNITS.off, F.MEM_STK_WR_UNITS.off, F.MEM_EAS_WATERMARK_UNITS.off]
structure LKeep (s t : State) : Prop where
  str : t.str = s.str
  sched : t.sched = s.sched
  yz : t.yz = s.yz
  seq : t.seq = s.seq
  cvs : t.cvs = s.cvs
  emb : t.emb = s.emb
  out : t.out = s.out
  tod : t.tod = s.tod
  fld : ∀ u (g : Fld), g.inWord = true → lkOffs.contains g.off = false → t.fld u g = s.fld u g
theorem LKeep.refl (s : State) : LKeep s s := ⟨rfl, rfl, rfl, rfl, rfl, rfl, rfl, rfl, fun _ _ _ _ => rfl⟩
theorem LKeep.trans {s t u : State} (h : LKeep s t) (k : LKeep t u) : LKeep s u :=
  ⟨k.str.trans h.str, k.sched.trans h.sched, k.yz.trans h.yz, k.seq.trans h.seq, k.cvs.trans h.cvs, k.emb.trans h.emb, k.out.trans h.out, k.tod.trans h.tod, fun v g a b => (k.fld v g a b).trans (h.fld v g a b)⟩
theorem lk_fld (s : State) (u : Nat) (f : Fld) (v : Nat) (hf : f.inWord = true) (h : lkOffs.contains f.off = true) : LKeep s (s.setFld u f v) := by
  refine ⟨rfl, rfl, rfl, rfl, rfl, rfl, rfl, rfl, fun w g hg n => State.fld_setFld_apart _ _ _ _ _ _ hf hg ((apart_iff _ _).mpr (Or.inl ?_))⟩
  intro e; rw [e, h] at n; cases n
theorem lk_same {s t : State} (h : LKeep s t) {u : State} (e1 : u.str = t.str) (e2 : u.sched = t.sched) (e3 : u.yz = t.yz) (e4 : u.seq = t.seq) (e5 : u.cvs = t.cvs) (e6 : u.emb = t.emb) (e7 : u.out = t.out) (e8 : u.tod = t.tod)
    (e9 : u.regs = t.regs) : LKeep s u :=
  ⟨e1.trans h.str, e2.trans h.sched, e3.trans h.yz, e4.trans h.seq, e5.trans h.cvs, e6.trans h.emb, e7.trans h.out, e8.trans h.tod, fun v g a b => by
    have := h.fld v g a b; unfold State.fld State.reg at *; rw [e9]; exact this⟩
theorem lk_wake (s : State) (a b : Nat) : LKeep s (s.wakeStack a b) := by
  unfold State.wakeStack; simp only; split
  · have h1 : LKeep s (s.clrFld 0 F.PWR_STK_SR_SR (2 ^ a)) := lk_fld _ _ _ _ (by decide) (by decide)
    generalize s.clrFld 0 F.PWR_STK_SR_SR (2 ^ a) = s1 at *
    have h2 : LKeep s1 (s1.incWrap 0 F.PWR_WAKES_COUNT 1) := lk_fld _ _ _ _ (by decide) (by decide)
    generalize s1.incWrap 0 F.PWR_WAKES_COUNT 1 = s2 at *
    have h3 : LKeep s2 (s2.incSat b F.PWR_EAS_WAKE_WAIT_COUNT 1) := lk_fld _ _ _ _ (by decide) (by decide)
    generalize s2.incSat b F.PWR_EAS_WAKE_WAIT_COUNT 1 = s3 at *
    have h := ((h1.trans h2).trans h3).trans (lk_fld s3 a F.MEM_STK_STATUS_STATE 3 (by decide) (by decide))
    exact lk_same h rfl rfl rfl rfl rfl rfl rfl rfl rfl
  · exact LKeep.refl _
theorem lk_open (s : State) (a b n : Nat) : LKeep s (s.openPage a b n) :=
  open_all (LKeep s) s a b n (fun t c d k => k.trans (lk_wake t c d)) (fun _ _ k => lk_same k rfl rfl rfl rfl rfl rfl rfl rfl rfl) (LKeep.refl s)
theorem lk_units (s : State) (u : Nat) (f : Fld) (k n : Nat) (hf : f.inWord = true) (h : lkOffs.contains f.off = true) : LKeep s (s.countUnits u f k n) := by
  unfold State.countUnits
  exact lk_same (lk_fld s u f (s.fld u f + (SMap.get (fun _ => 0) s.part (regKey u f.off) + n) / k) hf h) rfl rfl rfl rfl rfl rfl rfl rfl rfl
theorem lk_stack (s : State) (f : Fld) (a b n : Nat) (hf : f.inWord = true) (h : lkOffs.contains f.off = true) : LKeep s (s.countStack f a b n) := by
  unfold State.countStack; split
  · exact LKeep.refl _
  · exact upto_keep (fun t : State => LKeep s t) _ (fun i (t : State) => t.countUnits (t.stackOf a (b / 65536 + i)) f 65536 (min (b + n) ((b / 65536 + i) * 65536 + 65536) - max b ((b / 65536 + i) * 65536)))
      (fun i _ t k => k.trans (lk_units _ _ _ _ _ hf h)) _ (LKeep.refl _)
theorem load_keep (s : State) (e addr n : Nat) (code : Nat) (h1 : s.inShare e addr n = true) (h2 : s.poison = []) (h4 : s.flag (s.stackOf e (addr / 64 * 64 / 65536)) F.FLT_INJSTAT_ARMED = false) : LKeep s (s.bondLoad e addr n code none).st := by
  have c : s.bondCheck e addr code none = s := by
    simp only [State.bondCheck, inj_off _ _ _ h4]; rfl
  have k := (lk_open s e addr n).trans (lk_stack (s.openPage e addr n) F.MEM_STK_RD_UNITS e addr n (by decide) (by decide))
  have p0 : ((s.openPage e addr n).countStack F.MEM_STK_RD_UNITS e addr n).poisoned (bondKey e addr) n = false := by
    have pz : ∀ t : State, (t.countStack F.MEM_STK_RD_UNITS e addr n).poison = t.poison := by
      intro t; unfold State.countStack; split
      · rfl
      · exact upto_keep (fun u : State => u.poison = t.poison) _ (fun i (t : State) => t.countUnits (t.stackOf e (addr / 65536 + i)) F.MEM_STK_RD_UNITS 65536 (min (addr + n) ((addr / 65536 + i) * 65536 + 65536) - max addr ((addr / 65536 + i) * 65536))) (fun i _ t h => h) _ rfl
    have po : (s.openPage e addr n).poison = [] := (open_poison _ _ _ _).trans h2
    unfold State.poisoned; rw [pz, po]; rfl
  unfold State.bondLoad; rw [if_pos h1, c]; simp only [p0, Bool.false_eq_true, if_false]
  exact k
theorem flush_sent (s : State) (h : ∀ o ∈ s.yz.ops, o.sent = true) : s.yzFlush = s := by
  have f : s.yz.ops.filter (fun o => !o.sent) = [] := List.filter_eq_nil_iff.mpr (fun o ho => by simp [h o ho])
  have m : s.yz.ops.map (fun o => { o with sent := true }) = s.yz.ops := by
    conv => rhs; rw [← List.map_id s.yz.ops]
    apply List.map_congr_left; intro o ho
    have := h o ho
    cases o; simp only at this; subst this; rfl
  unfold State.yzFlush
  rw [f, m]; rfl
theorem tag_clean (s : State) (k : Nat) (bs : List Nat) (h : s.poison = []) : s.tagPoison k bs = bs := by
  unfold State.tagPoison State.poisoned
  rw [h]; simp [List.zipIdx_map_fst]
/-- What the posting of a record and the judging of a step boundary leave alone. -/
structure RK (s t : State) : Prop where
  seq : t.seq = s.seq
  emb : t.emb = s.emb
  yz : t.yz = s.yz
  str : t.str = s.str
  eth : t.eth = s.eth
  pal : t.pal = s.pal
theorem RK.refl (s : State) : RK s s := ⟨rfl, rfl, rfl, rfl, rfl, rfl⟩
theorem RK.trans {s t u : State} (h : RK s t) (k : RK t u) : RK s u :=
  ⟨k.seq.trans h.seq, k.emb.trans h.emb, k.yz.trans h.yz, k.str.trans h.str, k.eth.trans h.eth, k.pal.trans h.pal⟩
theorem RK.ite {s a b : State} {c : Prop} [Decidable c] (h : RK s a) (k : RK s b) : RK s (if c then a else b) := by split <;> assumption
theorem rk_upto (n : Nat) (f : Nat → State → State) (hf : ∀ i t, RK t (f i t)) (s : State) : RK s (forUpto n f s) :=
  upto_keep (RK s) n f (fun i _ t h => RK.trans h (hf i t)) s (RK.refl s)
theorem rk_each {α : Type} (f : α → State → State) (hf : ∀ i t, RK t (f i t)) (l : List α) (s : State) : RK s (forEach l f s) :=
  each_keep (RK s) f (fun i t h => RK.trans h (hf i t)) l s (RK.refl s)
theorem rk_set {s t : State} (h : RK s t) (u : Nat) (f : Fld) (v : Nat) : RK s (t.setFld u f v) := ⟨h.seq, h.emb, h.yz, h.str, h.eth, h.pal⟩
theorem rk_flag {s t : State} (h : RK s t) (u : Nat) (f : Fld) (v : Bool) : RK s (t.setFlag u f v) := ⟨h.seq, h.emb, h.yz, h.str, h.eth, h.pal⟩
theorem rk_cxl {s t : State} (h : RK s t) (x : CxlSt) : RK s { t with cxl := x } := ⟨h.seq, h.emb, h.yz, h.str, h.eth, h.pal⟩
theorem rk_sched {s t : State} (h : RK s t) (x : SchedSt) : RK s { t with sched := x } := ⟨h.seq, h.emb, h.yz, h.str, h.eth, h.pal⟩
theorem rk_host (s : State) (e a : Nat) (bs : List Nat) : RK s (s.hostWrite e a bs) := ⟨rfl, rfl, rfl, rfl, rfl, rfl⟩
theorem rk_fire (s : State) (a b : Nat) : RK s (s.fire a b) := by unfold State.fire; split <;> exact ⟨rfl, rfl, rfl, rfl, rfl, rfl⟩
theorem rk_mod (s : State) (a b : Nat) : RK s (s.fireModerated a b) := by
  unfold State.fireModerated
  exact RK.ite ((rk_cxl (RK.refl s) _).trans (rk_fire _ _ _)) (rk_cxl (RK.refl s) _)
theorem rk_log (s : State) (r : FaultRec) (p : Bool) (n : Nat) : RK s (s.logFault r p n) := ⟨rfl, rfl, rfl, rfl, rfl, rfl⟩
theorem rk_ring (s : State) (e : Nat) (r : FaultRec) : RK s (s.faultRingWrite e r) := by
  unfold State.faultRingWrite
  refine RK.trans ?_ (rk_fire _ _ _)
  refine rk_set ?_ _ _ _
  exact ⟨rfl, rfl, rfl, rfl, rfl, rfl⟩
theorem rk_lost (s : State) (e : Nat) (r : FaultRec) : RK s (s.faultLost e r) := by
  unfold State.faultLost; exact RK.ite ⟨rfl, rfl, rfl, rfl, rfl, rfl⟩ ⟨rfl, rfl, rfl, rfl, rfl, rfl⟩
theorem rk_deliver (s : State) (r : FaultRec) : RK s (s.deliverFault r) := by
  unfold State.deliverFault
  refine RK.ite ((rk_log _ _ _ _).trans (rk_ring _ _ _)) ?_
  exact RK.trans (RK.trans (t := s.draw.2) ⟨rfl, rfl, rfl, rfl, rfl, rfl⟩ (rk_log _ _ _ _)) (rk_lost _ _ _)
theorem rk_usage (s : State) (e k u i c : Nat) : RK s (s.usageFault e k u i c) := rk_deliver _ _
theorem rk_note (s : State) (r v : Nat) : RK s (s.setRingNote r v) := by
  unfold State.setRingNote; exact rk_flag (rk_sched (RK.refl s) _) _ _ _
theorem rk_fault (s : State) (r a : Nat) (b : Bool) : RK s (s.ringFault r a b) := by
  unfold State.ringFault
  have h := rk_note s r 1
  generalize s.setRingNote r 1 = s1 at h
  refine RK.ite h (RK.ite ?_ ?_)
  · exact RK.trans (rk_set h _ F.MEM_EAS_FAULTS_OOS _) (rk_usage _ _ _ _ _ _)
  · exact RK.trans (rk_set h _ F.CXL_EAS_XLATE_FAULTS _) (rk_usage _ _ _ _ _ _)
theorem rk_write (bs : List Nat) : ∀ (s : State) (k : Nat), RK s (s.writeBytes k bs) := by
  induction bs with
  | nil => intro s k; exact RK.refl s
  | cons b r ih => 
    intro s k
    show RK s ((s.setByte k (BitVec.ofNat 8 b)).writeBytes (k + 1) r)
    have h : RK s (s.setByte k (BitVec.ofNat 8 b)) := ⟨rfl, rfl, rfl, rfl, rfl, rfl⟩
    exact RK.trans h (ih _ _)
theorem rk_used (s : State) (a b c d : Nat) : RK s (s.setUsedRange a b c d) := by
  unfold State.setUsedRange
  exact RK.ite (RK.refl s) (rk_upto _ (fun i (t : State) => t.setUsed (a + (c / b + i) * b)) (fun i t => ⟨rfl, rfl, rfl, rfl, rfl, rfl⟩) s)
theorem rk_raw (s : State) (k : Nat) (bs : List Nat) : RK s (s.storeRaw k bs) := by
  unfold State.storeRaw
  have h := rk_write bs s k
  exact ⟨h.seq, h.emb, h.yz, h.str, h.eth, h.pal⟩
theorem rk_wake (s : State) (a b : Nat) : RK s (s.wakeStack a b) := by
  unfold State.wakeStack; exact RK.ite ⟨rfl, rfl, rfl, rfl, rfl, rfl⟩ (RK.refl s)
theorem rk_open (s : State) (a b n : Nat) : RK s (s.openPage a b n) :=
  open_all (RK s) s a b n (fun t c d k => k.trans (rk_wake t c d)) (fun _ _ k => ⟨k.seq, k.emb, k.yz, k.str, k.eth, k.pal⟩) (RK.refl s)
theorem rk_stack (s : State) (f : Fld) (a b n : Nat) : RK s (s.countStack f a b n) := by
  unfold State.countStack
  exact RK.ite (RK.refl s) (rk_upto _ (fun i (t : State) => t.countUnits (t.stackOf a (b / 65536 + i)) f 65536 (min (b + n) ((b / 65536 + i) * 65536 + 65536) - max b ((b / 65536 + i) * 65536))) (fun i (t : State) => ⟨rfl, rfl, rfl, rfl, rfl, rfl⟩) s)
theorem rk_store (s : State) (e a : Nat) (bs : List Nat) : RK s (s.bondStore e a bs).st := by
  unfold State.bondStore
  split
  · have h := ((rk_raw s (bondKey e a) bs).trans (rk_used _ (bondKey e 0) 65536 a bs.length)).trans ((rk_open _ e a bs.length).trans (rk_stack _ F.MEM_STK_WR_UNITS e a bs.length))
    exact rk_set h _ F.MEM_EAS_WATERMARK_UNITS _
  · exact RK.trans (rk_set (RK.refl s) _ F.MEM_EAS_FAULTS_OOS _) (rk_usage _ _ _ _ _ _)
theorem rk_full (s : State) (e : Nat) : RK s (s.showCqFull e) := rk_flag (RK.refl s) _ _ _
theorem rk_cq (s : State) (e : Nat) (r : PostedRec) : RK s (s.cqWrite e r) := by
  unfold State.cqWrite
  refine RK.trans ?_ (rk_mod _ _ _)
  refine RK.trans ?_ (rk_full _ _)
  refine rk_set ?_ _ _ _
  refine rk_sched ?_ _
  exact RK.ite (rk_store _ _ _ _) (rk_host _ _ _ _)
theorem rk_list (e : Nat) (l : List PostedRec) : ∀ s, RK s (deliverList e l s) := by
  induction l with
  | nil => intro s; exact rk_sched (RK.refl s) _
  | cons r t ih =>
    intro s; unfold deliverList
    refine RK.ite (rk_sched (RK.refl s) _) (RK.ite ?_ ?_)
    · exact RK.trans (RK.trans (rk_note s _ _) (rk_cq _ _ _)) (ih _)
    · exact rk_sched (rk_fault _ _ _ _) _
theorem rk_post (s : State) (e k : Nat) (r : List Nat) : RK s (s.postRecord e k r) := by
  unfold State.postRecord State.deliver; exact RK.trans (rk_sched (RK.refl s) _) (rk_list _ _ _)
theorem rk_poi {s t : State} (h : RK s t) (x : NSet) : RK s { t with poison := x } := ⟨h.seq, h.emb, h.yz, h.str, h.eth, h.pal⟩
theorem rk_bondm (s : State) (a b : Nat) : RK s (s.setBondMapped a b) := by
  unfold State.setBondMapped
  refine rk_poi (rk_set ?_ _ _ _) _
  exact rk_upto 18 (fun k t => t.setFld k F.MEM_STK_FREE_UNITS (s.fld k F.MEM_STK_FREE_UNITS + s.unitsBelow a (s.fld a F.MEM_EAS_MAPPED_UNITS) k - s.unitsBelow a b k)) (fun k t => rk_set (RK.refl t) _ _ _) s
theorem rk_mapped (s : State) (e : Nat) (v : ShareVec) : RK s (s.setMapped e v) := by
  unfold State.setMapped
  exact RK.trans (rk_bondm s e v.bonded) (RK.trans (rk_upto 48 _ (fun c t => rk_set (RK.refl t) _ _ _) _) (rk_upto 192 _ (fun c t => rk_set (rk_set (RK.refl t) _ _ _) _ _ _) _))
theorem rk_limits (s : State) (e : Nat) (v : ShareVec) : RK s (s.setLimits e v) := by
  unfold State.setLimits
  exact RK.trans (rk_set (rk_set (rk_set (RK.refl s) _ _ _) _ _ _) _ _ _) (RK.trans (rk_upto 48 _ (fun c t => rk_set (rk_set (RK.refl t) _ _ _) _ _ _) _) (rk_upto 192 _ (fun c t => rk_set (rk_set (rk_set (RK.refl t) _ _ _) _ _ _) _ _ _) _))
theorem rk_rtd (s : State) (b : Nat) : RK s (s.retouchDone b) := by
  unfold State.retouchDone
  have h : RK s (s.clrFld 0 F.CVS_RT_PENDING_TYPES (2 ^ b)) := rk_set (RK.refl s) _ _ _
  generalize s.clrFld 0 F.CVS_RT_PENDING_TYPES (2 ^ b) = s1 at h
  exact RK.ite (RK.trans (rk_set h _ _ _) (rk_fire _ _ _)) h
theorem rk_grow (s : State) : RK s s.growShares := by
  unfold State.growShares
  refine RK.trans ?_ (rk_rtd _ _)
  have h := rk_each (fun (p : PendShare) (t : State) => (t.setLimits p.easel p.new).setMapped p.easel p.new) (fun p t => (rk_limits _ _ _).trans (rk_mapped _ _ _)) s.cvs.pendShares s
  exact ⟨h.seq, h.emb, h.yz, h.str, h.eth, h.pal⟩
theorem rk_shrink (s : State) (e : Nat) : RK s (s.shrinkEffect e) := by
  unfold State.shrinkEffect
  refine RK.ite ?_ (RK.refl s)
  have h := rk_each (fun (p : PendShare) (t : State) => t.setMapped p.easel (p.new.min p.old)) (fun p t => rk_mapped _ _ _) (s.cvs.pendShares.filter (fun p => decide (p.easel = e))) s
  have h2 : RK s { (forEach (s.cvs.pendShares.filter (fun p => decide (p.easel = e))) (fun p t => t.setMapped p.easel (p.new.min p.old)) s) with
      cvs := { (forEach (s.cvs.pendShares.filter (fun p => decide (p.easel = e))) (fun p t => t.setMapped p.easel (p.new.min p.old)) s).cvs with
        pendShares := s.cvs.pendShares.map (fun p => if p.easel = e then { p with shrunk := true } else p) } } := ⟨h.seq, h.emb, h.yz, h.str, h.eth, h.pal⟩
  exact RK.ite h2 (RK.trans h2 (rk_grow _))
theorem rk_bound (s : State) (e : Nat) : RK s (s.stepBoundary e) := by
  unfold State.stepBoundary
  have h : RK s ((s.incWrap e F.EAS_STEPS_COUNT 1).shrinkEffect e) := RK.trans (rk_set (RK.refl s) _ _ _) (rk_shrink _ _)
  generalize (s.incWrap e F.EAS_STEPS_COUNT 1).shrinkEffect e = s1 at h
  exact RK.ite ⟨h.seq, h.emb, h.yz, h.str, h.eth, h.pal⟩ h
theorem rk_judge (s : State) (e : Nat) : RK s (s.judgeBoundary e) := by
  unfold State.judgeBoundary
  exact RK.ite (RK.trans (rk_sched (RK.refl s) _) (rk_bound _ _)) (rk_sched (RK.refl s) _)
theorem rk_retire (s : State) (e id : Nat) (b : Bool) : RK s (s.retire e id b) := by
  unfold State.retire; exact RK.trans (rk_sched (RK.refl s) _) (rk_judge _ _)
theorem sq_rk_done (s : State) (e id : Nat) (d : List Nat) (st a b : Nat) : RK s (s.seqDone e id d st a b) := by
  unfold State.seqDone State.seqPost; exact RK.trans (rk_post _ _ _ _) (rk_retire _ _ _ _)
theorem sq_rk_eas {s t : State} (h : RK s t) (e : Nat) : t.seqEas e = s.seqEas e := by unfold State.seqEas; rw [h.seq]
theorem sq_rk_ent {s t : State} (h : RK s t) (e i : Nat) : t.seqEntry e i = s.seqEntry e i := by unfold State.seqEntry; rw [sq_rk_eas h]
theorem sq_setEas_get (s : State) (e : Nat) (x : SeqEas) (f : Nat) : (s.setSeqEas e x).seqEas f = if f = e then x else s.seqEas f := by
  unfold State.seqEas State.setSeqEas; exact SMap.get_set _ _ _ _ _
theorem sq_setEas_same (s : State) (e : Nat) (x : SeqEas) : (s.setSeqEas e x).seqEas e = x := (sq_setEas_get s e x e).trans (if_pos rfl)
theorem sq_setEnt_eas (s : State) (e i : Nat) (y : SeqEntry) : (s.setSeqEntry e i y).seqEas e = { s.seqEas e with entries := SMap.set (fun _ => SeqEntry.free) (s.seqEas e).entries i y } := by
  unfold State.setSeqEntry
  have h : ∀ t : State, (t.showSeqCounts e).seqEas e = t.seqEas e := fun t => rfl
  rw [h]; exact sq_setEas_same _ _ _
theorem sq_setEnt_get (s : State) (e i : Nat) (y : SeqEntry) (j : Nat) : (s.setSeqEntry e i y).seqEntry e j = if j = i then y else s.seqEntry e j := by
  unfold State.seqEntry; rw [sq_setEnt_eas]; exact SMap.get_set _ _ _ _ _
theorem sq_upd_get (s : State) (e i : Nat) (f : SeqEntry → SeqEntry) (j : Nat) : (s.updSeq e i f).seqEntry e j = if j = i then f (s.seqEntry e i) else s.seqEntry e j := sq_setEnt_get _ _ _ _ _
theorem sq_out_step (s : State) (e : Nat) (o : OutRec) (i : Nat) : ((s.orWrite e o).outWritten e o).seqEntry e i = s.seqEntry e i ∨ ((s.orWrite e o).outWritten e o).seqEntry e i = SeqEntry.free := by
  have w : (s.orWrite e o).seqEntry e i = s.seqEntry e i := by
    unfold State.orWrite
    rw [sq_rk_ent (rk_mod _ _ _)]
    show (State.setSeqEas _ e _).seqEntry e i = _
    unfold State.seqEntry
    rw [sq_setEas_same]
    show SMap.get _ (State.seqEas (if _ then _ else _) e).entries i = _
    rw [sq_rk_eas (RK.ite (rk_store _ _ _ _) (rk_host _ _ _ _))]
  unfold State.outWritten
  split
  · have : (((s.orWrite e o).setSeqEntry e o.seq SeqEntry.free).showFree e).seqEntry e i = ((s.orWrite e o).setSeqEntry e o.seq SeqEntry.free).seqEntry e i := rfl
    rw [this, sq_setEnt_get]
    by_cases c : i = o.seq
    · exact Or.inr (if_pos c)
    · rw [if_neg c]; exact Or.inl w
  · exact Or.inl w
theorem sq_out_all (e i : Nat) : ∀ (l kept : List OutRec) (s : State), (outLoop e l kept s).seqEntry e i = s.seqEntry e i ∨ (outLoop e l kept s).seqEntry e i = SeqEntry.free := by
  intro l
  induction l with
  | nil => intro kept s; unfold outLoop; left; unfold State.seqEntry; rw [sq_setEas_same]
  | cons o r ih =>
    intro kept s
    unfold outLoop
    split
    · exact ih _ _
    · split
      · rcases ih kept ((s.orWrite e o).outWritten e o) with h | h
        · rcases sq_out_step s e o i with k | k
          · exact Or.inl (h.trans k)
          · exact Or.inr (h.trans k)
        · exact Or.inr h
      · rcases ih (kept ++ [o]) (if s.flag e (F.SEQ_OR_SIZE_SPACE o.ring) ∨ !s.hostUp then s else s.refuseXlate e ukNone 0) with h | h
        · left; rw [h]
          have : RK s (if s.flag e (F.SEQ_OR_SIZE_SPACE o.ring) ∨ !s.hostUp then s else s.refuseXlate e ukNone 0) := by
            refine RK.ite (RK.refl s) ?_
            unfold State.refuseXlate; exact RK.trans (rk_set (RK.refl s) _ F.CXL_EAS_XLATE_FAULTS _) (rk_usage _ _ _ _ _ _)
          exact sq_rk_ent this e i
        · exact Or.inr h
theorem sq_put_ent (s : State) (e i : Nat) (l : List OutRec) : (s.outPut e l).seqEntry e i = s.seqEntry e i ∨ (s.outPut e l).seqEntry e i = SeqEntry.free := by
  unfold State.outPut State.flushOut
  have h := sq_out_all e i ((s.setSeqEas e { s.seqEas e with outq := (s.seqEas e).outq ++ l }).seqEas e).outq [] (s.setSeqEas e { s.seqEas e with outq := (s.seqEas e).outq ++ l })
  have : (s.setSeqEas e { s.seqEas e with outq := (s.seqEas e).outq ++ l }).seqEntry e i = s.seqEntry e i := by unfold State.seqEntry; rw [sq_setEas_same]
  rw [this] at h; exact h
theorem sq_end_ent (s : State) (e i code info : Nat) (l : List OutRec) : (s.endSeq e i code info l).seqEntry e i = SeqEntry.free ∨
    ((s.endSeq e i code info l).seqEntry e i).state = sqEnding ∧ ((s.endSeq e i code info l).seqEntry e i).endCode = code ∧ ((s.endSeq e i code info l).seqEntry e i).pages = 0 := by
  unfold State.endSeq
  dsimp only
  generalize hs1 : (s.updSeq e i (fun t => { t with state := sqEnding, endCode := code, pages := 0, swapSlot := noToken, cancel := false, lost := none })).showFree e = s1
  have g1 : s1.seqEntry e i = { s.seqEntry e i with state := sqEnding, endCode := code, pages := 0, swapSlot := noToken, cancel := false, lost := none } := by
    rw [← hs1]
    have sf : ∀ t : State, (t.showFree e).seqEntry e i = t.seqEntry e i := fun _ => rfl
    rw [sf, sq_upd_get, if_pos rfl]
  have k : RK s1 (if code = endLost then (s1.incSat e F.SEQ_EAS_LOST_COUNT 1).usageFault e ukSequence i info ufSeqLost else s1) :=
    RK.ite (RK.trans (rk_set (RK.refl s1) _ F.SEQ_EAS_LOST_COUNT _) (rk_usage _ _ _ _ _ _)) (RK.refl s1)
  generalize (if code = endLost then (s1.incSat e F.SEQ_EAS_LOST_COUNT 1).usageFault e ukSequence i info ufSeqLost else s1) = s2 at k
  rcases sq_put_ent s2 e i (l ++ [endRec (s2.seqEntry e i) i]) with h | h
  · right; rw [h, sq_rk_ent k, g1]; exact ⟨rfl, rfl, rfl⟩
  · exact Or.inl h
theorem sq_store_seq (s : State) (e a : Nat) (bs : List Nat) : RK s (s.seqStore e a bs) := by
  unfold State.seqStore State.layPoison
  refine RK.trans ?_ (rk_each (fun (p : Nat × Nat) (t : State) => t.markPoison (bondKey e a + p.2)) (fun p t => ⟨rfl, rfl, rfl, rfl, rfl, rfl⟩) _ _)
  exact RK.trans (RK.trans (rk_raw _ _ _) (rk_used _ _ _ _ _)) (rk_set (RK.refl _) _ _ _)
theorem sq_wb_mem (bs : List Nat) : ∀ (s t : State) (k : Nat), s.mem = t.mem → (s.writeBytes k bs).mem = (t.writeBytes k bs).mem := by
  induction bs with
  | nil => intro s t k h; exact h
  | cons b r ih => intro s t k h; unfold State.writeBytes; apply ih; unfold State.setByte; simp only [h]
theorem sq_used_mem (s : State) (a b c d : Nat) : (s.setUsedRange a b c d).mem = s.mem := (usedRange_mem s a b c d).1
theorem sq_store_mem_ (s : State) (e a : Nat) (bs : List Nat) : (s.seqStore e a bs).mem = (s.writeBytes (bondKey e a) (bs.map (· % 256))).mem := by
  unfold State.seqStore State.layPoison
  refine each_keep (fun t : State => t.mem = _) (fun (p : Nat × Nat) (t : State) => t.markPoison (bondKey e a + p.2)) (fun _ _ h => h) _ _ ?_
  show (State.setUsedRange _ _ _ _ _).mem = _
  rw [sq_used_mem]; rfl
theorem sq_store_fld (s : State) (e a : Nat) (bs : List Nat) (u : Nat) (g : Fld) (hg : g.inWord = true) (h : g.off ≠ F.MEM_EAS_WATERMARK_UNITS.off) : (s.seqStore e a bs).fld u g = s.fld u g := by
  unfold State.seqStore State.layPoison
  refine each_keep (fun t : State => t.fld u g = s.fld u g) (fun (p : Nat × Nat) (t : State) => t.markPoison (bondKey e a + p.2)) (fun _ _ h => h) _ _ ?_
  unfold State.bondWatermark
  rw [State.fld_setFld_apart _ _ _ _ _ _ (by decide) hg ((apart_iff _ _).mpr (Or.inl h))]
  have r1 : ((s.storeRaw (bondKey e a) (bs.map (· % 256))).setUsedRange (bondKey e 0) 65536 a bs.length).regs = (s.storeRaw (bondKey e a) (bs.map (· % 256))).regs := by
    unfold State.setUsedRange; split
    · rfl
    · exact upto_keep (fun t : State => t.regs = (s.storeRaw (bondKey e a) (bs.map (· % 256))).regs) _ (fun i (t : State) => t.setUsed (bondKey e 0 + (a / 65536 + i) * 65536)) (fun i _ t h => h) _ rfl
  have r2 : ∀ (l : List Nat) (t : State) (k : Nat), (t.writeBytes k l).regs = t.regs := by
    intro l; induction l with
    | nil => intro t k; rfl
    | cons b r ih => intro t k; exact ih (t.setByte k (BitVec.ofNat 8 b)) (k + 1)
  unfold State.fld State.reg; rw [r1]; show fieldOf (SMap.get _ (State.writeBytes _ _ _).regs _) _ _ = _; rw [r2]
theorem sq_ofLe_four (b0 b1 b2 b3 : Nat) : ofLe [b0, b1, b2, b3] = b0 % 256 + 256 * (b1 % 256 + 256 * (b2 % 256 + 256 * (b3 % 256))) := by
  simp [ofLe]
theorem sq_read_four (s t : State) (k v : Nat) (h : t.mem = (s.writeBytes k ((leBytes 4 v).map (· % 256))).mem) : t.readLe k 4 = v % 2 ^ 32 := by
  have b : ∀ i, i < 4 → (t.byte (k + i)).toNat = v / 256 ^ i % 256 := by
    intro i hi
    have hb : t.byte (k + i) = (s.writeBytes k ((leBytes 4 v).map (· % 256))).byte (k + i) := by unfold State.byte; rw [h]
    rw [hb, State.byte_writeBytes_in _ _ _ _ (by simp [leBytes]; exact hi)]
    match i, hi with
    | 0, _ => simp [leBytes]
    | 1, _ => simp [leBytes]
    | 2, _ => simp [leBytes]; omega
    | 3, _ => simp [leBytes]; omega
  unfold State.readLe
  have : t.readBytes k 4 = [(t.byte (k + 0)).toNat, (t.byte (k + 1)).toNat, (t.byte (k + 2)).toNat, (t.byte (k + 3)).toNat] := rfl
  rw [this, b 0 (by decide), b 1 (by decide), b 2 (by decide), b 3 (by decide), sq_ofLe_four]
  omega
theorem sq_read_keep (s t : State) (k j v : Nat) (h : t.mem = (s.writeBytes k ((leBytes 4 v).map (· % 256))).mem) (hj : j + 4 ≤ k ∨ k + 4 ≤ j) : t.readLe j 4 = s.readLe j 4 := by
  have b : ∀ i, i < 4 → t.byte (j + i) = s.byte (j + i) := by
    intro i hi
    have hb : t.byte (j + i) = (s.writeBytes k ((leBytes 4 v).map (· % 256))).byte (j + i) := by unfold State.byte; rw [h]
    rw [hb]; exact State.byte_writeBytes_out _ _ _ _ (by simp [leBytes]; omega)
  unfold State.readLe
  have : ∀ u : State, u.readBytes j 4 = [(u.byte (j + 0)).toNat, (u.byte (j + 1)).toNat, (u.byte (j + 2)).toNat, (u.byte (j + 3)).toNat] := fun _ => rfl
  rw [this, this, b 0 (by decide), b 1 (by decide), b 2 (by decide), b 3 (by decide)]
theorem sq_upd_fld (s : State) (e i : Nat) (f : SeqEntry → SeqEntry) (u : Nat) (g : Fld) (hg : g.inWord = true) (h : ∀ o ∈ [F.SEQ_EAS_COUNTS_ACTIVE.off, F.SEQ_EAS_COUNTS_SWAPPED.off, F.SEQ_STATUS_ACTIVE.off], g.off ≠ o) : (s.updSeq e i f).fld u g = s.fld u g := by
  unfold State.updSeq State.setSeqEntry State.showSeqCounts
  rw [State.fld_setFld_apart _ _ _ _ _ _ (by decide) hg ((apart_iff _ _).mpr (Or.inl (h _ (by simp)))), State.fld_setFld_apart _ _ _ _ _ _ (by decide) hg ((apart_iff _ _).mpr (Or.inl (h _ (by simp)))),
    State.fld_setFld_apart _ _ _ _ _ _ (by decide) hg ((apart_iff _ _).mpr (Or.inl (h _ (by simp))))]
  rfl
theorem sq_put_spec (s : State) (e : Nat) (g : SeqSeg) (j tok : Nat) : let t := s.putDraft e g j tok
    t.mem = (s.writeBytes (bondKey e (s.tokAddr e (g.row + j))) ((leBytes 4 tok).map (· % 256))).mem ∧ (∀ r, t.tokAddr e r = s.tokAddr e r) ∧
      t.seqEntry e g.seq = { s.seqEntry e g.seq with prov := j } ∧ ∀ x, x ≠ g.seq → t.seqEntry e x = s.seqEntry e x := by
  intro t
  have k := sq_store_seq s e (s.tokAddr e (g.row + j)) (leBytes 4 tok)
  refine ⟨sq_store_mem_ _ _ _ _, fun r => ?_, ?_, fun x hx => ?_⟩
  · show (State.updSeq _ _ _ _).tokAddr e r = _
    unfold State.tokAddr State.wlBuf
    rw [sq_upd_fld _ _ _ _ _ _ (by decide) (by decide), sq_upd_fld _ _ _ _ _ _ (by decide) (by decide), sq_store_fld _ _ _ _ _ _ (by decide) (by decide), sq_store_fld _ _ _ _ _ _ (by decide) (by decide)]
  · show (State.updSeq _ _ _ _).seqEntry e _ = _
    rw [sq_upd_get, if_pos rfl, sq_rk_ent k]
  · show (State.updSeq _ _ _ _).seqEntry e _ = _
    rw [sq_upd_get, if_neg hx, sq_rk_ent k]
theorem sq_puts_spec (s : State) (e : Nat) (g : SeqSeg) (v : Nat → Nat) : ∀ n, let t := forUpto n (fun k (t : State) => t.putDraft e g (k + 1) (v k)) s
    (∀ k, k < n → t.draftAt e g (k + 1) = v k % 2 ^ 32) ∧ (∀ r, t.tokAddr e r = s.tokAddr e r) ∧
      (t.seqEntry e g.seq = if n = 0 then s.seqEntry e g.seq else { s.seqEntry e g.seq with prov := n }) ∧ ∀ x, x ≠ g.seq → t.seqEntry e x = s.seqEntry e x := by
  intro n
  induction n with
  | zero => exact ⟨fun k h => absurd h (Nat.not_lt_zero _), fun _ => rfl, rfl, fun _ _ => rfl⟩
  | succ n ih =>
    intro t
    have E : t = (forUpto n (fun k (t : State) => t.putDraft e g (k + 1) (v k)) s).putDraft e g (n + 1) (v n) := by
      show forUpto _ _ _ = _; unfold forUpto; rw [List.range_succ, List.foldl_append]; rfl
    obtain ⟨i1, i2, i3, i4⟩ := ih
    generalize forUpto n (fun k (t : State) => t.putDraft e g (k + 1) (v k)) s = u at *
    obtain ⟨p1, p2, p3, p4⟩ := sq_put_spec u e g (n + 1) (v n)
    rw [← E] at p1 p2 p3 p4
    refine ⟨fun k hk => ?_, fun r => (p2 r).trans (i2 r), ?_, fun x hx => (p4 x hx).trans (i4 x hx)⟩
    · unfold State.draftAt; rw [p2]
      by_cases c : k = n
      · rw [c]; exact sq_read_four u t _ _ p1
      · rw [sq_read_keep u t _ _ _ p1 (by unfold bondKey State.tokAddr; omega)]
        have := i1 k (by omega)
        unfold State.draftAt at this; exact this
    · rw [p3, i3, if_neg (Nat.succ_ne_zero n)]; split <;> rfl
theorem sq_store_ent_keep (s : State) (l : List (Nat × Nat)) (e i p : Nat) : RK s (forEach l (fun g (t : State) => t.seqStore e (t.plAddr e i (p + g.2)) (leBytes 4 g.1)) s) :=
  rk_each _ (fun g t => sq_store_seq _ _ _ _) l s
/-- What arming the swap channel leaves of the engine's state. -/
theorem sq_run_seq (s : State) (n : Nat) (a : Arm) (b : Bool) : (s.startRun n a b).seq = s.seq := rfl
theorem sq_arm_seq (s : State) (n : Nat) (a : Arm) : (s.armChan n a).seq = s.seq := by
  unfold State.armChan; dsimp only
  split
  · exact sq_run_seq _ _ _ _
  · split <;> rfl
theorem sq_swap_seq (s : State) (e n : Nat) : (s.swapArm e n).seq = s.seq := by
  unfold State.swapArm; dsimp only
  split
  · rfl
  · have h := sq_arm_seq s (s.swapCh e) ⟨0, n, false, .engine⟩
    split
    · split
      · exact h
      · exact h
    · exact h
theorem sq_seq_ent {s t : State} (h : t.seq = s.seq) (e i : Nat) : t.seqEntry e i = s.seqEntry e i := by unfold State.seqEntry State.seqEas; rw [h]
theorem sq_grow_ent (s : State) (e i n : Nat) : n ≤ ((s.growList e i n).seqEntry e i).pages ∧ (∀ x, x ≠ i → (s.growList e i n).seqEntry e x = s.seqEntry e x) := by
  unfold State.growList
  dsimp only
  split
  · exact ⟨by assumption, fun _ _ => rfl⟩
  · have k := sq_store_ent_keep s ((s.lowestFree e (n - (s.seqEntry e i).pages)).zipIdx) e i (s.seqEntry e i).pages
    have sf : ∀ (t : State) (x : Nat), (t.showFree e).seqEntry e x = t.seqEntry e x := fun _ _ => rfl
    refine ⟨?_, fun x hx => ?_⟩
    · rw [sf, sq_upd_get, if_pos rfl]
    · rw [sf, sq_upd_get, if_neg hx, sq_rk_ent k]
theorem sq_note_get (u : State) (e i id : Nat) : let t := u.setSeqEas e { u.seqEas e with swaps := SMap.set (fun _ => 0) (u.seqEas e).swaps i (id + 1) }
    (∀ x, t.seqEntry e x = u.seqEntry e x) ∧ SMap.get (fun _ => 0) (t.seqEas e).swaps i = id + 1 := by
  intro t
  refine ⟨fun x => ?_, ?_⟩
  · unfold State.seqEntry; rw [sq_setEas_same]
  · rw [sq_setEas_same]; exact SMap.get_set_same _ _ _ _

end Sys2Proof.Laws
end

