-- ==== Sys2Proof/Laws/RetouchFollows.lean ====
section
/-! SUPPORT. Laws/RetouchFollows.lean: every operation of Machine/Retouch.lean follows: what it does to the queue, the outputs, the draw counter and the invariant (Safety.lean). -/
set_option linter.unusedVariables false
set_option linter.unreachableTactic false
set_option linter.unusedTactic false
namespace Sys2Proof.Machine

open Sys2Proof

theorem State.retouchGo_follows {z : State} {s : State} (req : Requester) (hs : z.Follows s) :
    z.Follows (State.retouchGo s req) := by
  unfold State.retouchGo
  repeat' (first | with_reducible assumption | with_reducible refine State.Follows.ite (fun _ => ?_) (fun _ => ?_) | with_reducible apply State.setFld_follows | with_reducible apply State.incSat_follows | with_reducible apply State.fire_follows | with_reducible apply Res.Follows.next | fail_if_no_progress with_reducible apply State.Follows.upd | split | trivial | intro _ | dsimp only)

theorem execRetouchGo_follows {z : State} (req : Requester) {s : State} (hs : z.Follows s) :
    Res.Follows z (execRetouchGo req s) := by
  unfold execRetouchGo
  repeat' (first | with_reducible assumption | with_reducible apply State.access_follows | with_reducible apply State.retouchGo_follows | with_reducible apply Res.Follows.next | fail_if_no_progress with_reducible apply State.Follows.upd | split | trivial | intro _ | dsimp only)

theorem State.acceptShares_follows {z : State} {s : State} (new : Blob) (hs : z.Follows s) :
    z.Follows (State.acceptShares s new) := by
  unfold State.acceptShares
  repeat' (first | with_reducible assumption | with_reducible refine State.Follows.ite (fun _ => ?_) (fun _ => ?_) | with_reducible apply forEach_follows | with_reducible apply State.setLimits_follows | with_reducible apply State.growShares_follows | with_reducible apply State.shrinkEffect_follows | with_reducible apply Res.Follows.next | fail_if_no_progress with_reducible apply State.Follows.upd | split | trivial | intro _ | dsimp only)

theorem State.acceptRanks_follows {z : State} {s : State} (gone : List Nat) (js : List RJob) (hs : z.Follows s) :
    z.Follows (State.acceptRanks s gone js) := by
  unfold State.acceptRanks
  repeat' (first | with_reducible assumption | with_reducible refine State.Follows.ite (fun _ => ?_) (fun _ => ?_) | with_reducible apply State.switchRanks_follows | with_reducible apply Res.Follows.next | fail_if_no_progress with_reducible apply State.Follows.upd | split | trivial | intro _ | dsimp only)

theorem State.rtAccept_follows {z : State} {s : State} (t : Nat) (seq : Nat) (rs : List RtRec) (c : RtCopy) (hs : z.Follows s) :
    z.Follows (State.rtAccept s t seq rs c) := by
  unfold State.rtAccept
  repeat' (first | with_reducible assumption | with_reducible refine State.Follows.ite (fun _ => ?_) (fun _ => ?_) | with_reducible apply State.setFld_follows | with_reducible apply State.orFld_follows | with_reducible apply State.fire_follows | with_reducible apply State.acceptShares_follows | with_reducible apply State.acceptRanks_follows | with_reducible apply Res.Follows.next | fail_if_no_progress with_reducible apply State.Follows.upd | split | trivial | intro _ | dsimp only)

theorem State.rtVerdict_follows {z : State} {s : State} (b : Blob) (n : Nat) (rs : List RtRec) (hs : z.Follows s) :
    z.Follows (State.rtVerdict s b n rs) := by
  unfold State.rtVerdict
  repeat' (first | with_reducible assumption | with_reducible refine State.Follows.ite (fun _ => ?_) (fun _ => ?_) | with_reducible apply State.rtRefuse_follows | with_reducible apply State.rtAccept_follows | with_reducible apply Res.Follows.next | fail_if_no_progress with_reducible apply State.Follows.upd | split | trivial | intro _ | dsimp only)

theorem execRetouchCheck_follows {z : State} (data : Blob) (fail : Bool) {s : State} (hs : z.Follows s) :
    Res.Follows z (execRetouchCheck data fail s) := by
  unfold execRetouchCheck
  repeat' (first | with_reducible assumption | with_reducible refine Res.Follows.ite (fun _ => ?_) (fun _ => ?_) | with_reducible refine State.Follows.ite (fun _ => ?_) (fun _ => ?_) | with_reducible apply State.countUnits_follows | with_reducible apply State.refuseXlate_follows | with_reducible apply State.rtRefuse_follows | with_reducible apply State.rtVerdict_follows | with_reducible apply Res.Follows.next | fail_if_no_progress with_reducible apply State.Follows.upd | split | trivial | intro _ | dsimp only)

theorem State.rtCancelled_follows {z : State} {s : State} (bit : Nat) (hs : z.Follows s) :
    z.Follows (State.rtCancelled s bit) := by
  unfold State.rtCancelled
  repeat' (first | with_reducible assumption | with_reducible refine State.Follows.ite (fun _ => ?_) (fun _ => ?_) | with_reducible apply State.setFld_follows | with_reducible apply State.clrFld_follows | with_reducible apply State.fire_follows | with_reducible apply Res.Follows.next | fail_if_no_progress with_reducible apply State.Follows.upd | split | trivial | intro _ | dsimp only)

theorem State.cancelType_follows {z : State} {s : State} (bit : Nat) (hs : z.Follows s) :
    z.Follows (State.cancelType s bit) := by
  unfold State.cancelType
  repeat' (first | with_reducible assumption | with_reducible refine State.Follows.ite (fun _ => ?_) (fun _ => ?_) | with_reducible apply forEach_follows | with_reducible apply State.keepSec_follows | with_reducible apply State.setLimits_follows | with_reducible apply State.rtCancelled_follows | with_reducible apply Res.Follows.next | fail_if_no_progress with_reducible apply State.Follows.upd | split | trivial | intro _ | dsimp only)

theorem State.retouchCancel_follows {z : State} {s : State} (req : Requester) (types : Nat) (hs : z.Follows s) :
    z.Follows (State.retouchCancel s req types) := by
  unfold State.retouchCancel
  repeat' (first | with_reducible assumption | with_reducible refine State.Follows.ite (fun _ => ?_) (fun _ => ?_) | with_reducible apply forEach_follows | with_reducible apply State.cancelType_follows | with_reducible apply Res.Follows.next | fail_if_no_progress with_reducible apply State.Follows.upd | split | trivial | intro _ | dsimp only)

theorem execRetouchCancel_follows {z : State} (req : Requester) (types : BitVec 4) {s : State} (hs : z.Follows s) :
    Res.Follows z (execRetouchCancel req types s) := by
  unfold execRetouchCancel
  repeat' (first | with_reducible assumption | with_reducible apply State.access_follows | with_reducible apply State.retouchCancel_follows | with_reducible apply Res.Follows.next | fail_if_no_progress with_reducible apply State.Follows.upd | split | trivial | intro _ | dsimp only)

end Sys2Proof.Machine
end

