-- ==== Sys2Proof/Laws/TimeFollows.lean ====
section
/-! SUPPORT. Laws/TimeFollows.lean: every operation of Machine/Time.lean follows: what it does to the queue, the outputs, the draw counter and the invariant (Safety.lean). -/
set_option linter.unusedVariables false
set_option linter.unreachableTactic false
set_option linter.unusedTactic false
namespace Sys2Proof.Machine

open Sys2Proof

theorem State.setRate_follows {z : State} {s : State} (ppt : Int) (hs : z.Follows s) :
    z.Follows (State.setRate s ppt) := by
  unfold State.setRate
  repeat' (first | with_reducible assumption | with_reducible apply State.setFld_follows | with_reducible apply State.setFld64_follows | with_reducible apply Res.Follows.next | fail_if_no_progress with_reducible apply State.Follows.upd | split | trivial | intro _ | dsimp only)

theorem State.showTxOk_follows {z : State} {s : State} (hs : z.Follows s) :
    z.Follows (State.showTxOk s) := by
  unfold State.showTxOk
  repeat' (first | with_reducible assumption | with_reducible apply State.setFlag_follows | with_reducible apply Res.Follows.next | fail_if_no_progress with_reducible apply State.Follows.upd | split | trivial | intro _ | dsimp only)

theorem State.showHold_follows {z : State} {s : State} (hs : z.Follows s) :
    z.Follows (State.showHold s) := by
  unfold State.showHold
  repeat' (first | with_reducible assumption | with_reducible refine State.Follows.ite (fun _ => ?_) (fun _ => ?_) | with_reducible apply State.setFld_follows | with_reducible apply State.showTxOk_follows | with_reducible apply Res.Follows.next | fail_if_no_progress with_reducible apply State.Follows.upd | split | trivial | intro _ | dsimp only)

theorem State.holdRate_follows {z : State} {s : State} (hs : z.Follows s) :
    z.Follows (State.holdRate s) := by
  unfold State.holdRate
  repeat' (first | with_reducible assumption | with_reducible refine State.Follows.ite (fun _ => ?_) (fun _ => ?_) | with_reducible apply State.draw_follows | with_reducible apply State.setRate_follows | with_reducible apply Res.Follows.next | fail_if_no_progress with_reducible apply State.Follows.upd | (with_reducible refine State.Follows.of_snd (by with_reducible assumption) ?_) | (with_reducible refine State.Follows.of_fst (by with_reducible assumption) ?_) | (with_reducible refine State.Follows.of_trd (by with_reducible assumption) ?_) | split | trivial | intro _ | dsimp only)

theorem State.setPtpSub_follows {z : State} {s : State} (sub : Nat) (v : PtpSub) (hs : z.Follows s) :
    z.Follows (State.setPtpSub s sub v) := by
  unfold State.setPtpSub
  repeat' (first | with_reducible assumption | with_reducible apply Res.Follows.next | fail_if_no_progress with_reducible apply State.Follows.upd | split | trivial | intro _ | dsimp only)

theorem State.showAnnounce_follows {z : State} {s : State} (hs : z.Follows s) :
    z.Follows (State.showAnnounce s) := by
  unfold State.showAnnounce
  repeat' (first | with_reducible assumption | with_reducible apply State.setFld_follows | with_reducible apply Res.Follows.next | fail_if_no_progress with_reducible apply State.Follows.upd | split | trivial | intro _ | dsimp only)

theorem State.setTod_follows {z : State} {s : State} (st : Nat) (hs : z.Follows s) :
    z.Follows (State.setTod s st) := by
  unfold State.setTod
  repeat' (first | with_reducible assumption | with_reducible refine State.Follows.ite (fun _ => ?_) (fun _ => ?_) | with_reducible apply State.setFlag_follows | with_reducible apply State.setFld_follows | with_reducible apply State.showTxOk_follows | with_reducible apply State.holdRate_follows | with_reducible apply State.showAnnounce_follows | with_reducible apply Res.Follows.next | fail_if_no_progress with_reducible apply State.Follows.upd | split | trivial | intro _ | dsimp only)

theorem State.showStepWait_follows {z : State} {s : State} (due : Bool) (hs : z.Follows s) :
    z.Follows (State.showStepWait s due) := by
  unfold State.showStepWait
  repeat' (first | with_reducible assumption | with_reducible apply State.setFlag_follows | with_reducible apply Res.Follows.next | fail_if_no_progress with_reducible apply State.Follows.upd | split | trivial | intro _ | dsimp only)

theorem State.shiftTimes_follows {z : State} {s : State} (d : Int) (hs : z.Follows s) :
    z.Follows (State.shiftTimes s d) := by
  unfold State.shiftTimes
  repeat' (first | with_reducible assumption | with_reducible apply Res.Follows.next | fail_if_no_progress with_reducible apply State.Follows.upd | split | trivial | intro _ | dsimp only)

theorem State.alarmGo_follows {z : State} {s : State} (k : Nat) (hs : z.Follows s) :
    z.Follows (State.alarmGo s k) := by
  unfold State.alarmGo
  repeat' (first | with_reducible assumption | with_reducible refine State.Follows.ite (fun _ => ?_) (fun _ => ?_) | with_reducible apply State.setFlag_follows | with_reducible apply State.orFld_follows | with_reducible apply State.setFld64_follows | with_reducible apply State.landSignal_follows | with_reducible apply Res.Follows.next | fail_if_no_progress with_reducible apply State.Follows.upd | split | trivial | intro _ | dsimp only)

theorem execAlarmFire_follows {z : State} (k : Fin 16) {s : State} (hs : z.Follows s) :
    Res.Follows z (execAlarmFire k s) := by
  unfold execAlarmFire
  repeat' (first | with_reducible assumption | with_reducible refine Res.Follows.ite (fun _ => ?_) (fun _ => ?_) | with_reducible refine State.Follows.ite (fun _ => ?_) (fun _ => ?_) | with_reducible apply State.alarmGo_follows | with_reducible apply Res.Follows.next | fail_if_no_progress with_reducible apply State.Follows.upd | split | trivial | intro _ | dsimp only)

theorem State.landStep_follows {z s : State} (t : Nat) (hs : z.Follows s) : z.Follows (State.landStep s t) := by
  unfold State.landStep
  have h2 : ∀ s1, z.Follows s1 → ∀ x, z.Follows { s1 with tod := t % 2 ^ 104, time := x } := fun s1 h1 x =>
    ⟨h1.pending, h1.out, h1.free, fun i => let j := h1.inv i; ⟨j.mem, j.regs, j.poison, j.used, Nat.mod_lt _ (by decide)⟩⟩
  refine State.setFlag_follows _ _ _ (State.incSat_follows _ _ _ (forUpto_follows _ _ (fun k u h => State.alarmGo_follows _ h) ?_))
  exact State.queueSample_follows (State.incWrap_follows _ _ _ (State.refill_follows (State.refillRetouch_follows (h2 _ (State.shiftTimes_follows _ hs) _))))

theorem execTodStep_follows {z : State} {s : State} (hs : z.Follows s) :
    Res.Follows z (execTodStep s) := by
  unfold execTodStep
  repeat' (first | with_reducible assumption | with_reducible refine Res.Follows.ite (fun _ => ?_) (fun _ => ?_) | with_reducible refine State.Follows.ite (fun _ => ?_) (fun _ => ?_) | with_reducible apply State.showStepWait_follows | with_reducible apply State.landStep_follows | with_reducible apply Res.Follows.next | fail_if_no_progress with_reducible apply State.Follows.upd | split | trivial | intro _ | dsimp only)

theorem State.pendStep_follows {z : State} {s : State} (p : TodStep) (hs : z.Follows s) :
    z.Follows (State.pendStep s p) := by
  unfold State.pendStep
  repeat' (first | with_reducible assumption | with_reducible apply Res.Follows.next | fail_if_no_progress with_reducible apply State.Follows.upd | split | trivial | intro _ | dsimp only)

theorem execTodSet_follows {z : State} (req : Requester) {s : State} (hs : z.Follows s) :
    Res.Follows z (execTodSet req s) := by
  unfold execTodSet
  repeat' (first | with_reducible assumption | with_reducible refine Res.Follows.ite (fun _ => ?_) (fun _ => ?_) | with_reducible refine State.Follows.ite (fun _ => ?_) (fun _ => ?_) | with_reducible apply State.access_follows | with_reducible apply State.showStepWait_follows | with_reducible apply State.pendStep_follows | with_reducible apply Res.Follows.next | fail_if_no_progress with_reducible apply State.Follows.upd | split | trivial | intro _ | dsimp only)

theorem execTodSetPps_follows {z : State} (req : Requester) {s : State} (hs : z.Follows s) :
    Res.Follows z (execTodSetPps req s) := by
  unfold execTodSetPps
  repeat' (first | with_reducible assumption | with_reducible refine Res.Follows.ite (fun _ => ?_) (fun _ => ?_) | with_reducible refine State.Follows.ite (fun _ => ?_) (fun _ => ?_) | with_reducible apply State.access_follows | with_reducible apply State.pendStep_follows | with_reducible apply Res.Follows.next | fail_if_no_progress with_reducible apply State.Follows.upd | split | trivial | intro _ | dsimp only)

theorem State.measure_follows {z : State} {s : State} (o : Int) (hs : z.Follows s) :
    z.Follows (State.measure s o) := by
  unfold State.measure
  repeat' (first | with_reducible assumption | with_reducible refine State.Follows.ite (fun _ => ?_) (fun _ => ?_) | with_reducible apply State.setFld_follows | with_reducible apply State.setRate_follows | with_reducible apply State.setTod_follows | with_reducible apply State.pendStep_follows | with_reducible apply Res.Follows.next | fail_if_no_progress with_reducible apply State.Follows.upd | split | trivial | intro _ | dsimp only)

theorem State.lockAt_follows {z : State} {s : State} (r : Int) (hs : z.Follows s) :
    z.Follows (State.lockAt s r) := by
  unfold State.lockAt
  repeat' (first | with_reducible assumption | with_reducible apply State.setRate_follows | fail_if_no_progress with_reducible apply State.Follows.upd | split | trivial | intro _ | dsimp only)

theorem execTodLocked_follows {z : State} {s : State} (hs : z.Follows s) :
    Res.Follows z (execTodLocked s) := by
  unfold execTodLocked
  repeat' (first | with_reducible assumption | with_reducible refine Res.Follows.ite (fun _ => ?_) (fun _ => ?_) | with_reducible refine State.Follows.ite (fun _ => ?_) (fun _ => ?_) | with_reducible apply State.lockAt_follows | with_reducible apply State.setTod_follows | with_reducible apply Res.Follows.next | fail_if_no_progress with_reducible apply State.Follows.upd | split | trivial | intro _ | dsimp only)

theorem execSourceLost_follows {z : State} {s : State} (hs : z.Follows s) :
    Res.Follows z (execSourceLost s) := by
  unfold execSourceLost
  repeat' (first | with_reducible assumption | with_reducible refine Res.Follows.ite (fun _ => ?_) (fun _ => ?_) | with_reducible refine State.Follows.ite (fun _ => ?_) (fun _ => ?_) | with_reducible apply State.setTod_follows | with_reducible apply Res.Follows.next | fail_if_no_progress with_reducible apply State.Follows.upd | split | trivial | intro _ | dsimp only)

theorem execHoldoverLimit_follows {z : State} {s : State} (hs : z.Follows s) :
    Res.Follows z (execHoldoverLimit s) := by
  unfold execHoldoverLimit
  repeat' (first | with_reducible assumption | with_reducible refine Res.Follows.ite (fun _ => ?_) (fun _ => ?_) | with_reducible refine State.Follows.ite (fun _ => ?_) (fun _ => ?_) | with_reducible apply State.setTod_follows | with_reducible apply Res.Follows.next | fail_if_no_progress with_reducible apply State.Follows.upd | split | trivial | intro _ | dsimp only)

theorem execHoldoverTxLimit_follows {z : State} {s : State} (hs : z.Follows s) :
    Res.Follows z (execHoldoverTxLimit s) := by
  unfold execHoldoverTxLimit
  repeat' (first | with_reducible assumption | with_reducible apply State.showHold_follows | with_reducible apply Res.Follows.next | fail_if_no_progress with_reducible apply State.Follows.upd | split | trivial | intro _ | dsimp only)

theorem execTodSourceWrite_follows {z : State} (req : Requester) (source : BitVec 2) (txHold : BitVec 16) {s : State} (hs : z.Follows s) :
    Res.Follows z (execTodSourceWrite req source txHold s) := by
  unfold execTodSourceWrite
  repeat' (first | with_reducible assumption | with_reducible refine Res.Follows.ite (fun _ => ?_) (fun _ => ?_) | with_reducible refine State.Follows.ite (fun _ => ?_) (fun _ => ?_) | with_reducible apply State.setFld_follows | with_reducible apply State.access_follows | with_reducible apply State.showTxOk_follows | with_reducible apply State.setTod_follows | with_reducible apply Res.Follows.next | fail_if_no_progress with_reducible apply State.Follows.upd | split | trivial | intro _ | dsimp only)

theorem execFrameOffsetWrite_follows {z : State} (req : Requester) (value : BitVec 32) {s : State} (hs : z.Follows s) :
    Res.Follows z (execFrameOffsetWrite req value s) := by
  unfold execFrameOffsetWrite
  repeat' (first | with_reducible assumption | with_reducible refine Res.Follows.ite (fun _ => ?_) (fun _ => ?_) | with_reducible refine State.Follows.ite (fun _ => ?_) (fun _ => ?_) | with_reducible apply State.setFld_follows | with_reducible apply State.access_follows | with_reducible apply Res.Follows.next | fail_if_no_progress with_reducible apply State.Follows.upd | split | trivial | intro _ | dsimp only)

theorem execTodNowFracRead_follows {z : State} (req : Requester) {s : State} (hs : z.Follows s) :
    Res.Follows z (execTodNowFracRead req s) := by
  unfold execTodNowFracRead
  repeat' (first | with_reducible assumption | with_reducible apply State.emit_follows | with_reducible apply State.setCtx_follows | with_reducible apply State.access_follows | with_reducible apply Res.Follows.next | fail_if_no_progress with_reducible apply State.Follows.upd | split | trivial | intro _ | dsimp only)

theorem State.tbQueue_follows {z : State} {s : State} (sub : Nat) (t : TbFrame) (hs : z.Follows s) :
    z.Follows (State.tbQueue s sub t) := by
  unfold State.tbQueue
  repeat' (first | with_reducible assumption | with_reducible apply Res.Follows.next | fail_if_no_progress with_reducible apply State.Follows.upd | split | trivial | intro _ | dsimp only)

theorem State.ownLaunch_follows {z : State} {s : State} (hs : z.Follows s) :
    z.Follows (State.ownLaunch s).2 := by
  unfold State.ownLaunch
  repeat' (first | with_reducible assumption | with_reducible apply State.draw_follows | with_reducible apply Res.Follows.next | fail_if_no_progress with_reducible apply State.Follows.upd | (with_reducible refine State.Follows.of_snd (by with_reducible assumption) ?_) | (with_reducible refine State.Follows.of_fst (by with_reducible assumption) ?_) | (with_reducible refine State.Follows.of_trd (by with_reducible assumption) ?_) | split | trivial | intro _ | dsimp only)

theorem State.relay_follows {z : State} {s : State} (sub : Nat) (d : List Nat) (tIn : Option Int) (hs : z.Follows s) :
    z.Follows (State.relay s sub d tIn) := by
  unfold State.relay
  repeat' (first | with_reducible assumption | with_reducible apply forEach_follows | with_reducible apply State.tbQueue_follows | with_reducible apply State.ownLaunch_follows | with_reducible apply Res.Follows.next | fail_if_no_progress with_reducible apply State.Follows.upd | (with_reducible refine State.Follows.of_snd (by with_reducible assumption) ?_) | (with_reducible refine State.Follows.of_fst (by with_reducible assumption) ?_) | (with_reducible refine State.Follows.of_trd (by with_reducible assumption) ?_) | split | trivial | intro _ | dsimp only)

theorem State.ptpCount_follows {z : State} {s : State} (sub : Nat) (hs : z.Follows s) :
    z.Follows (State.ptpCount s sub) := by
  unfold State.ptpCount
  repeat' (first | with_reducible assumption | with_reducible apply State.incWrap_follows | with_reducible apply Res.Follows.next | fail_if_no_progress with_reducible apply State.Follows.upd | split | trivial | intro _ | dsimp only)

theorem execPtpSyncRx_follows {z : State} (sub : Fin 32) (frame : List Nat) (stamp : Nat) {s : State} (hs : z.Follows s) :
    Res.Follows z (execPtpSyncRx sub frame stamp s) := by
  unfold execPtpSyncRx
  repeat' (first | with_reducible assumption | with_reducible refine Res.Follows.ite (fun _ => ?_) (fun _ => ?_) | with_reducible refine State.Follows.ite (fun _ => ?_) (fun _ => ?_) | with_reducible apply State.setPtpSub_follows | with_reducible apply State.relay_follows | with_reducible apply State.ptpCount_follows | with_reducible apply Res.Follows.next | fail_if_no_progress with_reducible apply State.Follows.upd | split | trivial | intro _ | dsimp only)

theorem execPtpFollowUpRx_follows {z : State} (sub : Fin 32) (frame : List Nat) {s : State} (hs : z.Follows s) :
    Res.Follows z (execPtpFollowUpRx sub frame s) := by
  unfold execPtpFollowUpRx
  repeat' (first | with_reducible assumption | with_reducible refine Res.Follows.ite (fun _ => ?_) (fun _ => ?_) | with_reducible refine State.Follows.ite (fun _ => ?_) (fun _ => ?_) | with_reducible apply State.setPtpSub_follows | with_reducible apply State.relay_follows | with_reducible apply Res.Follows.next | fail_if_no_progress with_reducible apply State.Follows.upd | split | trivial | intro _ | dsimp only)

theorem execPtpDelayReqRx_follows {z : State} (sub : Fin 32) (frame : List Nat) (stamp : Nat) {s : State} (hs : z.Follows s) :
    Res.Follows z (execPtpDelayReqRx sub frame stamp s) := by
  unfold execPtpDelayReqRx
  repeat' (first | with_reducible assumption | with_reducible refine Res.Follows.ite (fun _ => ?_) (fun _ => ?_) | with_reducible refine State.Follows.ite (fun _ => ?_) (fun _ => ?_) | with_reducible apply State.tbQueue_follows | with_reducible apply State.ownLaunch_follows | with_reducible apply State.relay_follows | with_reducible apply State.ptpCount_follows | with_reducible apply Res.Follows.next | fail_if_no_progress with_reducible apply State.Follows.upd | (with_reducible refine State.Follows.of_snd (by with_reducible assumption) ?_) | (with_reducible refine State.Follows.of_fst (by with_reducible assumption) ?_) | (with_reducible refine State.Follows.of_trd (by with_reducible assumption) ?_) | split | trivial | intro _ | dsimp only)

theorem State.ptpPair_follows {z : State} {s : State} (sub : Nat) (fwd : Int) (back : Int) (hs : z.Follows s) :
    z.Follows (State.ptpPair s sub fwd back) := by
  unfold State.ptpPair
  repeat' (first | with_reducible assumption | with_reducible refine State.Follows.ite (fun _ => ?_) (fun _ => ?_) | with_reducible apply State.setFld_follows | with_reducible apply State.setPtpSub_follows | with_reducible apply State.measure_follows | with_reducible apply Res.Follows.next | fail_if_no_progress with_reducible apply State.Follows.upd | split | trivial | intro _ | dsimp only)

theorem execPtpDelayRespRx_follows {z : State} (sub : Fin 32) (frame : List Nat) {s : State} (hs : z.Follows s) :
    Res.Follows z (execPtpDelayRespRx sub frame s) := by
  unfold execPtpDelayRespRx
  repeat' (first | with_reducible assumption | with_reducible refine Res.Follows.ite (fun _ => ?_) (fun _ => ?_) | with_reducible refine State.Follows.ite (fun _ => ?_) (fun _ => ?_) | with_reducible apply State.setPtpSub_follows | with_reducible apply State.relay_follows | with_reducible apply State.ptpPair_follows | with_reducible apply Res.Follows.next | fail_if_no_progress with_reducible apply State.Follows.upd | split | trivial | intro _ | dsimp only)

theorem State.showPorts_follows {z : State} {s : State} (hs : z.Follows s) :
    z.Follows (State.showPorts s) := by
  unfold State.showPorts
  repeat' (first | with_reducible assumption | with_reducible refine State.Follows.ite (fun _ => ?_) (fun _ => ?_) | with_reducible apply forUpto_follows | with_reducible apply State.setFld_follows | with_reducible apply Res.Follows.next | fail_if_no_progress with_reducible apply State.Follows.upd | split | trivial | intro _ | dsimp only)

theorem execPtpAnnounceRx_follows {z : State} (sub : Fin 32) (frame : List Nat) {s : State} (hs : z.Follows s) :
    Res.Follows z (execPtpAnnounceRx sub frame s) := by
  unfold execPtpAnnounceRx
  repeat' (first | with_reducible assumption | with_reducible refine Res.Follows.ite (fun _ => ?_) (fun _ => ?_) | with_reducible refine State.Follows.ite (fun _ => ?_) (fun _ => ?_) | with_reducible apply State.setPtpSub_follows | with_reducible apply State.showAnnounce_follows | with_reducible apply State.relay_follows | with_reducible apply State.showPorts_follows | with_reducible apply Res.Follows.next | fail_if_no_progress with_reducible apply State.Follows.upd | split | trivial | intro _ | dsimp only)

theorem State.eventTx_follows {z : State} {s : State} (sub : Nat) (launch : Nat) (type : Nat) (seq : Nat) (interval : Nat) (hs : z.Follows s) :
    z.Follows (State.eventTx s sub launch type seq interval) := by
  unfold State.eventTx
  repeat' (first | with_reducible assumption | with_reducible apply State.tbQueue_follows | with_reducible apply Res.Follows.next | fail_if_no_progress with_reducible apply State.Follows.upd | split | trivial | intro _ | dsimp only)

theorem execPtpSyncTx_follows {z : State} (sub : Fin 32) (launch : Nat) {s : State} (hs : z.Follows s) :
    Res.Follows z (execPtpSyncTx sub launch s) := by
  unfold execPtpSyncTx
  repeat' (first | with_reducible assumption | with_reducible refine Res.Follows.ite (fun _ => ?_) (fun _ => ?_) | with_reducible refine State.Follows.ite (fun _ => ?_) (fun _ => ?_) | with_reducible apply State.setPtpSub_follows | with_reducible apply State.eventTx_follows | with_reducible apply Res.Follows.next | fail_if_no_progress with_reducible apply State.Follows.upd | split | trivial | intro _ | dsimp only)

theorem execPtpDelayReqTx_follows {z : State} (sub : Fin 32) (launch : Nat) {s : State} (hs : z.Follows s) :
    Res.Follows z (execPtpDelayReqTx sub launch s) := by
  unfold execPtpDelayReqTx
  repeat' (first | with_reducible assumption | with_reducible refine Res.Follows.ite (fun _ => ?_) (fun _ => ?_) | with_reducible refine State.Follows.ite (fun _ => ?_) (fun _ => ?_) | with_reducible apply State.setPtpSub_follows | with_reducible apply State.eventTx_follows | with_reducible apply Res.Follows.next | fail_if_no_progress with_reducible apply State.Follows.upd | split | trivial | intro _ | dsimp only)

theorem execPtpAnnounceTx_follows {z : State} (sub : Fin 32) (launch : Nat) {s : State} (hs : z.Follows s) :
    Res.Follows z (execPtpAnnounceTx sub launch s) := by
  unfold execPtpAnnounceTx
  repeat' (first | with_reducible assumption | with_reducible refine Res.Follows.ite (fun _ => ?_) (fun _ => ?_) | with_reducible refine State.Follows.ite (fun _ => ?_) (fun _ => ?_) | with_reducible apply State.setPtpSub_follows | with_reducible apply State.showAnnounce_follows | with_reducible apply State.tbQueue_follows | with_reducible apply Res.Follows.next | fail_if_no_progress with_reducible apply State.Follows.upd | split | trivial | intro _ | dsimp only)

theorem State.showSync_follows {z : State} {s : State} (hs : z.Follows s) :
    z.Follows (State.showSync s) := by
  unfold State.showSync
  repeat' (first | with_reducible assumption | with_reducible apply State.setFld_follows | with_reducible apply Res.Follows.next | fail_if_no_progress with_reducible apply State.Follows.upd | split | trivial | intro _ | dsimp only)

theorem execEsmcRx_follows {z : State} (sub : Fin 32) (frame : List Nat) {s : State} (hs : z.Follows s) :
    Res.Follows z (execEsmcRx sub frame s) := by
  unfold execEsmcRx
  repeat' (first | with_reducible assumption | with_reducible refine Res.Follows.ite (fun _ => ?_) (fun _ => ?_) | with_reducible refine State.Follows.ite (fun _ => ?_) (fun _ => ?_) | with_reducible apply State.setPtpSub_follows | with_reducible apply State.showSync_follows | with_reducible apply Res.Follows.next | fail_if_no_progress with_reducible apply State.Follows.upd | split | trivial | intro _ | dsimp only)

theorem execEsmcInfoTx_follows {z : State} (sub : Fin 32) (launch : Nat) (event : Bool) {s : State} (hs : z.Follows s) :
    Res.Follows z (execEsmcInfoTx sub launch event s) := by
  unfold execEsmcInfoTx
  repeat' (first | with_reducible assumption | with_reducible refine Res.Follows.ite (fun _ => ?_) (fun _ => ?_) | with_reducible refine State.Follows.ite (fun _ => ?_) (fun _ => ?_) | with_reducible apply State.tbQueue_follows | with_reducible apply Res.Follows.next | fail_if_no_progress with_reducible apply State.Follows.upd | split | trivial | intro _ | dsimp only)

theorem execSynceDpllLock_follows {z : State} (locked : Bool) {s : State} (hs : z.Follows s) :
    Res.Follows z (execSynceDpllLock locked s) := by
  unfold execSynceDpllLock
  repeat' (first | with_reducible assumption | with_reducible refine Res.Follows.ite (fun _ => ?_) (fun _ => ?_) | with_reducible refine State.Follows.ite (fun _ => ?_) (fun _ => ?_) | with_reducible apply State.setFld_follows | with_reducible apply State.holdRate_follows | with_reducible apply State.showSync_follows | with_reducible apply Res.Follows.next | fail_if_no_progress with_reducible apply State.Follows.upd | split | trivial | intro _ | dsimp only)

theorem State.ppsSource_follows {z : State} {s : State} (stamp : Nat) (hs : z.Follows s) :
    z.Follows (State.ppsSource s stamp) := by
  unfold State.ppsSource
  repeat' (first | with_reducible assumption | with_reducible refine State.Follows.ite (fun _ => ?_) (fun _ => ?_) | with_reducible apply State.measure_follows | with_reducible apply Res.Follows.next | fail_if_no_progress with_reducible apply State.Follows.upd | split | trivial | intro _ | dsimp only)

theorem execPpsInEdge_follows {z : State} (stamp : Nat) {s : State} (hs : z.Follows s) :
    Res.Follows z (execPpsInEdge stamp s) := by
  unfold execPpsInEdge
  repeat' (first | with_reducible assumption | with_reducible refine Res.Follows.ite (fun _ => ?_) (fun _ => ?_) | with_reducible refine State.Follows.ite (fun _ => ?_) (fun _ => ?_) | with_reducible apply State.incWrap_follows | with_reducible apply State.setFld64_follows | with_reducible apply State.showStepWait_follows | with_reducible apply State.landStep_follows | with_reducible apply State.ppsSource_follows | with_reducible apply Res.Follows.next | fail_if_no_progress with_reducible apply State.Follows.upd | split | trivial | intro _ | dsimp only)

theorem execPpsOutRise_follows {z : State} {s : State} (hs : z.Follows s) :
    Res.Follows z (execPpsOutRise s) := by
  unfold execPpsOutRise
  repeat' (first | with_reducible assumption | with_reducible refine Res.Follows.ite (fun _ => ?_) (fun _ => ?_) | with_reducible refine State.Follows.ite (fun _ => ?_) (fun _ => ?_) | with_reducible apply State.emit_follows | with_reducible apply Res.Follows.next | fail_if_no_progress with_reducible apply State.Follows.upd | split | trivial | intro _ | dsimp only)

theorem execPpsOutFall_follows {z : State} {s : State} (hs : z.Follows s) :
    Res.Follows z (execPpsOutFall s) := by
  unfold execPpsOutFall
  repeat' (first | with_reducible assumption | with_reducible refine Res.Follows.ite (fun _ => ?_) (fun _ => ?_) | with_reducible refine State.Follows.ite (fun _ => ?_) (fun _ => ?_) | with_reducible apply State.emit_follows | with_reducible apply Res.Follows.next | fail_if_no_progress with_reducible apply State.Follows.upd | split | trivial | intro _ | dsimp only)

end Sys2Proof.Machine
end

