-- ==== Sys2Proof/Laws/TrustFollows.lean ====
section
/-! SUPPORT. Laws/TrustFollows.lean: every operation of Machine/Trust.lean follows: what it does to the queue, the outputs, the draw counter and the invariant (Safety.lean). -/
set_option linter.unusedVariables false
set_option linter.unreachableTactic false
set_option linter.unusedTactic false
namespace Sys2Proof.Machine

open Sys2Proof

theorem State.svnCommit_follows {z : State} {s : State} (req : Requester) (key : Nat) (hs : z.Follows s) :
    z.Follows (State.svnCommit s req key) := by
  unfold State.svnCommit
  repeat' (first | with_reducible assumption | with_reducible refine State.Follows.ite (fun _ => ?_) (fun _ => ?_) | with_reducible apply State.setFld_follows | with_reducible apply Res.Follows.next | fail_if_no_progress with_reducible apply State.Follows.upd | split | trivial | intro _ | dsimp only)

theorem execSvnCommit_follows {z : State} (req : Requester) (key : BitVec 8) {s : State} (hs : z.Follows s) :
    Res.Follows z (execSvnCommit req key s) := by
  unfold execSvnCommit
  repeat' (first | with_reducible assumption | with_reducible apply State.access_follows | with_reducible apply State.svnCommit_follows | with_reducible apply Res.Follows.next | fail_if_no_progress with_reducible apply State.Follows.upd | split | trivial | intro _ | dsimp only)

theorem State.updateGo_follows {z : State} {s : State} (req : Requester) (hs : z.Follows s) :
    z.Follows (State.updateGo s req) := by
  unfold State.updateGo
  repeat' (first | with_reducible assumption | with_reducible refine State.Follows.ite (fun _ => ?_) (fun _ => ?_) | with_reducible apply State.setFld_follows | with_reducible apply Res.Follows.next | fail_if_no_progress with_reducible apply State.Follows.upd | split | trivial | intro _ | dsimp only)

theorem execUpdateGo_follows {z : State} (req : Requester) {s : State} (hs : z.Follows s) :
    Res.Follows z (execUpdateGo req s) := by
  unfold execUpdateGo
  repeat' (first | with_reducible assumption | with_reducible apply State.access_follows | with_reducible apply State.updateGo_follows | with_reducible apply Res.Follows.next | fail_if_no_progress with_reducible apply State.Follows.upd | split | trivial | intro _ | dsimp only)

theorem execUpdateFetchDone_follows {z : State} (image : Blob) (fail : Bool) {s : State} (hs : z.Follows s) :
    Res.Follows z (execUpdateFetchDone image fail s) := by
  unfold execUpdateFetchDone
  repeat' (first | with_reducible assumption | with_reducible refine Res.Follows.ite (fun _ => ?_) (fun _ => ?_) | with_reducible refine State.Follows.ite (fun _ => ?_) (fun _ => ?_) | with_reducible apply State.setFld_follows | with_reducible apply State.countUnits_follows | with_reducible apply State.refuseXlate_follows | with_reducible apply Res.Follows.next | fail_if_no_progress with_reducible apply State.Follows.upd | split | trivial | intro _ | dsimp only)

theorem execUpdateProgramDone_follows {z : State} (differs : Bool) {s : State} (hs : z.Follows s) :
    Res.Follows z (execUpdateProgramDone differs s) := by
  unfold execUpdateProgramDone
  repeat' (first | with_reducible assumption | with_reducible refine Res.Follows.ite (fun _ => ?_) (fun _ => ?_) | with_reducible refine State.Follows.ite (fun _ => ?_) (fun _ => ?_) | with_reducible apply State.emit_follows | with_reducible apply State.setFld_follows | with_reducible apply Res.Follows.next | fail_if_no_progress with_reducible apply State.Follows.upd | split | trivial | intro _ | dsimp only)

theorem State.dropPowers_follows {z : State} {s : State} (hs : z.Follows s) :
    z.Follows (State.dropPowers s) := by
  unfold State.dropPowers
  repeat' (first | with_reducible assumption | with_reducible refine State.Follows.ite (fun _ => ?_) (fun _ => ?_) | with_reducible apply forUpto_follows | with_reducible apply State.setFld_follows | with_reducible apply State.setFlag_follows | with_reducible apply State.disarm_follows | with_reducible apply State.setScore_follows | with_reducible apply Res.Follows.next | fail_if_no_progress with_reducible apply State.Follows.upd | split | trivial | intro _ | dsimp only)

theorem State.endGrant_follows {z : State} {s : State} (hs : z.Follows s) :
    z.Follows (State.endGrant s) := by
  unfold State.endGrant
  repeat' (first | with_reducible assumption | with_reducible refine State.Follows.ite (fun _ => ?_) (fun _ => ?_) | with_reducible apply State.setFld_follows | with_reducible apply State.dropPowers_follows | with_reducible apply Res.Follows.next | fail_if_no_progress with_reducible apply State.Follows.upd | split | trivial | intro _ | dsimp only)

theorem State.grantGo_follows {z : State} {s : State} (req : Requester) (hs : z.Follows s) :
    z.Follows (State.grantGo s req) := by
  unfold State.grantGo
  repeat' (first | with_reducible assumption | with_reducible refine State.Follows.ite (fun _ => ?_) (fun _ => ?_) | with_reducible apply State.setFld_follows | with_reducible apply Res.Follows.next | fail_if_no_progress with_reducible apply State.Follows.upd | split | trivial | intro _ | dsimp only)

theorem execGrantGo_follows {z : State} (req : Requester) {s : State} (hs : z.Follows s) :
    Res.Follows z (execGrantGo req s) := by
  unfold execGrantGo
  repeat' (first | with_reducible assumption | with_reducible apply State.access_follows | with_reducible apply State.grantGo_follows | with_reducible apply Res.Follows.next | fail_if_no_progress with_reducible apply State.Follows.upd | split | trivial | intro _ | dsimp only)

theorem State.grantAccept_follows {z : State} {s : State} (b : Blob) (hs : z.Follows s) :
    z.Follows (State.grantAccept s b) := by
  unfold State.grantAccept
  repeat' (first | with_reducible assumption | with_reducible refine State.Follows.ite (fun _ => ?_) (fun _ => ?_) | with_reducible apply State.setFld_follows | with_reducible apply State.dropPowers_follows | with_reducible apply Res.Follows.next | fail_if_no_progress with_reducible apply State.Follows.upd | split | trivial | intro _ | dsimp only)

theorem execGrantVerdict_follows {z : State} (grant : Blob) (fail : Bool) {s : State} (hs : z.Follows s) :
    Res.Follows z (execGrantVerdict grant fail s) := by
  unfold execGrantVerdict
  repeat' (first | with_reducible assumption | with_reducible refine Res.Follows.ite (fun _ => ?_) (fun _ => ?_) | with_reducible refine State.Follows.ite (fun _ => ?_) (fun _ => ?_) | with_reducible apply State.setFld_follows | with_reducible apply State.countUnits_follows | with_reducible apply State.refuseXlate_follows | with_reducible apply State.grantAccept_follows | with_reducible apply Res.Follows.next | fail_if_no_progress with_reducible apply State.Follows.upd | split | trivial | intro _ | dsimp only)

theorem State.grantRevoke_follows {z : State} {s : State} (req : Requester) (hs : z.Follows s) :
    z.Follows (State.grantRevoke s req) := by
  unfold State.grantRevoke
  repeat' (first | with_reducible assumption | with_reducible refine State.Follows.ite (fun _ => ?_) (fun _ => ?_) | with_reducible apply State.endGrant_follows | with_reducible apply Res.Follows.next | fail_if_no_progress with_reducible apply State.Follows.upd | split | trivial | intro _ | dsimp only)

theorem execGrantRevoke_follows {z : State} (req : Requester) {s : State} (hs : z.Follows s) :
    Res.Follows z (execGrantRevoke req s) := by
  unfold execGrantRevoke
  repeat' (first | with_reducible assumption | with_reducible apply State.access_follows | with_reducible apply State.grantRevoke_follows | with_reducible apply Res.Follows.next | fail_if_no_progress with_reducible apply State.Follows.upd | split | trivial | intro _ | dsimp only)

theorem execGrantExpiry_follows {z : State} {s : State} (hs : z.Follows s) :
    Res.Follows z (execGrantExpiry s) := by
  unfold execGrantExpiry
  repeat' (first | with_reducible assumption | with_reducible apply State.endGrant_follows | with_reducible apply Res.Follows.next | fail_if_no_progress with_reducible apply State.Follows.upd | split | trivial | intro _ | dsimp only)

theorem State.spdm_follows {z : State} {s : State} (r : SpdmResp) (hs : z.Follows s) :
    z.Follows (State.spdm s r) := by
  unfold State.spdm
  repeat' (first | with_reducible assumption | with_reducible apply State.emit_follows | with_reducible apply Res.Follows.next | fail_if_no_progress with_reducible apply State.Follows.upd | split | trivial | intro _ | dsimp only)

theorem State.spdmError_follows {z : State} {s : State} (r : SpdmResp) (hs : z.Follows s) :
    z.Follows (State.spdmError s r) := by
  unfold State.spdmError
  repeat' (first | with_reducible assumption | with_reducible apply State.incSat_follows | with_reducible apply State.spdm_follows | with_reducible apply Res.Follows.next | fail_if_no_progress with_reducible apply State.Follows.upd | split | trivial | intro _ | dsimp only)

theorem State.setSess_follows {z : State} {s : State} (l : List (Nat × Bool)) (hs : z.Follows s) :
    z.Follows (State.setSess s l) := by
  unfold State.setSess
  repeat' (first | with_reducible assumption | with_reducible apply State.setFld_follows | with_reducible apply Res.Follows.next | fail_if_no_progress with_reducible apply State.Follows.upd | split | trivial | intro _ | dsimp only)

theorem State.ask_follows {z : State} {s : State} (sess : Option (Fin 4)) (f : State → State) (fF : ∀ a0, z.Follows a0 → z.Follows (f a0)) (hs : z.Follows s) :
    Res.Follows z (State.ask s sess f) := by
  unfold State.ask
  repeat' (first | with_reducible assumption | with_reducible refine Res.Follows.ite (fun _ => ?_) (fun _ => ?_) | with_reducible refine State.Follows.ite (fun _ => ?_) (fun _ => ?_) | with_reducible apply State.spdmError_follows | with_reducible apply fF | with_reducible apply Res.Follows.next | fail_if_no_progress with_reducible apply State.Follows.upd | (with_reducible refine State.Follows.of_snd (by with_reducible assumption) ?_) | (with_reducible refine State.Follows.of_fst (by with_reducible assumption) ?_) | (with_reducible refine State.Follows.of_trd (by with_reducible assumption) ?_) | split | trivial | intro _ | dsimp only)

theorem execGetVersion_follows {z : State} (sess : Option (Fin 4)) {s : State} (hs : z.Follows s) :
    Res.Follows z (execGetVersion sess s) := by
  unfold execGetVersion
  repeat' (first | with_reducible assumption | with_reducible apply State.spdm_follows | with_reducible apply State.ask_follows | with_reducible apply Res.Follows.next | fail_if_no_progress with_reducible apply State.Follows.upd | split | trivial | intro _ | dsimp only)

theorem execGetCapabilities_follows {z : State} (sess : Option (Fin 4)) {s : State} (hs : z.Follows s) :
    Res.Follows z (execGetCapabilities sess s) := by
  unfold execGetCapabilities
  repeat' (first | with_reducible assumption | with_reducible apply State.spdm_follows | with_reducible apply State.ask_follows | with_reducible apply Res.Follows.next | fail_if_no_progress with_reducible apply State.Follows.upd | split | trivial | intro _ | dsimp only)

theorem execNegotiateAlgorithms_follows {z : State} (sess : Option (Fin 4)) {s : State} (hs : z.Follows s) :
    Res.Follows z (execNegotiateAlgorithms sess s) := by
  unfold execNegotiateAlgorithms
  repeat' (first | with_reducible assumption | with_reducible apply State.spdm_follows | with_reducible apply State.ask_follows | with_reducible apply Res.Follows.next | fail_if_no_progress with_reducible apply State.Follows.upd | split | trivial | intro _ | dsimp only)

theorem execGetDigests_follows {z : State} (sess : Option (Fin 4)) {s : State} (hs : z.Follows s) :
    Res.Follows z (execGetDigests sess s) := by
  unfold execGetDigests
  repeat' (first | with_reducible assumption | with_reducible refine Res.Follows.ite (fun _ => ?_) (fun _ => ?_) | with_reducible refine State.Follows.ite (fun _ => ?_) (fun _ => ?_) | with_reducible apply State.spdm_follows | with_reducible apply State.spdmError_follows | with_reducible apply State.ask_follows | with_reducible apply Res.Follows.next | fail_if_no_progress with_reducible apply State.Follows.upd | split | trivial | intro _ | dsimp only)

theorem execGetCertificate_follows {z : State} (sess : Option (Fin 4)) (slot : Nat) (offset : Nat) (len : Nat) {s : State} (hs : z.Follows s) :
    Res.Follows z (execGetCertificate sess slot offset len s) := by
  unfold execGetCertificate
  repeat' (first | with_reducible assumption | with_reducible refine Res.Follows.ite (fun _ => ?_) (fun _ => ?_) | with_reducible refine State.Follows.ite (fun _ => ?_) (fun _ => ?_) | with_reducible apply State.spdm_follows | with_reducible apply State.spdmError_follows | with_reducible apply State.ask_follows | with_reducible apply Res.Follows.next | fail_if_no_progress with_reducible apply State.Follows.upd | split | trivial | intro _ | dsimp only)

theorem execChallenge_follows {z : State} (sess : Option (Fin 4)) (slot : Nat) {s : State} (hs : z.Follows s) :
    Res.Follows z (execChallenge sess slot s) := by
  unfold execChallenge
  repeat' (first | with_reducible assumption | with_reducible refine Res.Follows.ite (fun _ => ?_) (fun _ => ?_) | with_reducible refine State.Follows.ite (fun _ => ?_) (fun _ => ?_) | with_reducible apply State.spdm_follows | with_reducible apply State.spdmError_follows | with_reducible apply State.ask_follows | with_reducible apply Res.Follows.next | fail_if_no_progress with_reducible apply State.Follows.upd | split | trivial | intro _ | dsimp only)

theorem execGetMeasurements_follows {z : State} (sess : Option (Fin 4)) (index : Nat) (signed : Bool) {s : State} (hs : z.Follows s) :
    Res.Follows z (execGetMeasurements sess index signed s) := by
  unfold execGetMeasurements
  repeat' (first | with_reducible assumption | with_reducible refine Res.Follows.ite (fun _ => ?_) (fun _ => ?_) | with_reducible refine State.Follows.ite (fun _ => ?_) (fun _ => ?_) | with_reducible apply State.spdm_follows | with_reducible apply State.spdmError_follows | with_reducible apply State.ask_follows | with_reducible apply Res.Follows.next | fail_if_no_progress with_reducible apply State.Follows.upd | split | trivial | intro _ | dsimp only)

theorem execKeyExchange_follows {z : State} (slot : Nat) {s : State} (hs : z.Follows s) :
    Res.Follows z (execKeyExchange slot s) := by
  unfold execKeyExchange
  repeat' (first | with_reducible assumption | with_reducible refine Res.Follows.ite (fun _ => ?_) (fun _ => ?_) | with_reducible refine State.Follows.ite (fun _ => ?_) (fun _ => ?_) | with_reducible apply State.spdm_follows | with_reducible apply State.spdmError_follows | with_reducible apply State.setSess_follows | with_reducible apply State.ask_follows | with_reducible apply Res.Follows.next | fail_if_no_progress with_reducible apply State.Follows.upd | split | trivial | intro _ | dsimp only)

theorem execFinish_follows {z : State} (sess : Fin 4) (good : Bool) {s : State} (hs : z.Follows s) :
    Res.Follows z (execFinish sess good s) := by
  unfold execFinish
  repeat' (first | with_reducible assumption | with_reducible refine Res.Follows.ite (fun _ => ?_) (fun _ => ?_) | with_reducible refine State.Follows.ite (fun _ => ?_) (fun _ => ?_) | with_reducible apply State.spdm_follows | with_reducible apply State.spdmError_follows | with_reducible apply State.setSess_follows | with_reducible apply State.ask_follows | with_reducible apply Res.Follows.next | fail_if_no_progress with_reducible apply State.Follows.upd | split | trivial | intro _ | dsimp only)

theorem execEndSession_follows {z : State} (sess : Fin 4) {s : State} (hs : z.Follows s) :
    Res.Follows z (execEndSession sess s) := by
  unfold execEndSession
  repeat' (first | with_reducible assumption | with_reducible apply State.spdm_follows | with_reducible apply State.setSess_follows | with_reducible apply State.ask_follows | with_reducible apply Res.Follows.next | fail_if_no_progress with_reducible apply State.Follows.upd | split | trivial | intro _ | dsimp only)

theorem execHeartbeat_follows {z : State} (sess : Fin 4) {s : State} (hs : z.Follows s) :
    Res.Follows z (execHeartbeat sess s) := by
  unfold execHeartbeat
  repeat' (first | with_reducible assumption | with_reducible apply State.spdm_follows | with_reducible apply State.ask_follows | with_reducible apply Res.Follows.next | fail_if_no_progress with_reducible apply State.Follows.upd | split | trivial | intro _ | dsimp only)

theorem execKeyUpdate_follows {z : State} (sess : Fin 4) {s : State} (hs : z.Follows s) :
    Res.Follows z (execKeyUpdate sess s) := by
  unfold execKeyUpdate
  repeat' (first | with_reducible assumption | with_reducible apply State.spdm_follows | with_reducible apply State.ask_follows | with_reducible apply Res.Follows.next | fail_if_no_progress with_reducible apply State.Follows.upd | split | trivial | intro _ | dsimp only)

theorem execIdeKm_follows {z : State} (sess : Fin 4) (stream : Fin 4) {s : State} (hs : z.Follows s) :
    Res.Follows z (execIdeKm sess stream s) := by
  unfold execIdeKm
  repeat' (first | with_reducible assumption | with_reducible refine Res.Follows.ite (fun _ => ?_) (fun _ => ?_) | with_reducible refine State.Follows.ite (fun _ => ?_) (fun _ => ?_) | with_reducible apply State.hostBack_follows | with_reducible apply State.setIde_follows | with_reducible apply State.spdm_follows | with_reducible apply State.ask_follows | with_reducible apply Res.Follows.next | fail_if_no_progress with_reducible apply State.Follows.upd | split | trivial | intro _ | dsimp only)

theorem execJtagInstruction_follows {z : State} {s : State} (hs : z.Follows s) :
    Res.Follows z (execJtagInstruction s) := by
  unfold execJtagInstruction
  repeat' (first | with_reducible assumption | with_reducible apply Res.Follows.next | fail_if_no_progress with_reducible apply State.Follows.upd | split | trivial | intro _ | dsimp only)

end Sys2Proof.Machine
end

