-- ==== Sys2Proof/Laws/RegistersFollows.lean ====
section
/-! SUPPORT. Laws/RegistersFollows.lean: every operation of Machine/Registers.lean follows: what it does to the queue, the outputs, the draw counter and the invariant (Safety.lean). -/
set_option linter.unusedVariables false
set_option linter.unreachableTactic false
set_option linter.unusedTactic false
namespace Sys2Proof.Machine

open Sys2Proof

theorem State.setSel_follows {z : State} {s : State} (req : Requester) (x : Selector) (v : Nat) (hs : z.Follows s) :
    z.Follows (State.setSel s req x v) := by
  unfold State.setSel
  repeat' (first | with_reducible assumption | with_reducible refine State.Follows.ite (fun _ => ?_) (fun _ => ?_) | with_reducible apply State.setCtx_follows | with_reducible apply Res.Follows.next | fail_if_no_progress with_reducible apply State.Follows.upd | split | trivial | intro _ | dsimp only)

theorem State.refresh_follows {z : State} {s : State} (off : Nat) (hs : z.Follows s) :
    z.Follows (State.refresh s off) := by
  unfold State.refresh
  repeat' (first | with_reducible assumption | with_reducible refine State.Follows.ite (fun _ => ?_) (fun _ => ?_) | with_reducible apply State.draw_follows | with_reducible apply State.setFld_follows | with_reducible apply State.showLdpc_follows | with_reducible apply Res.Follows.next | fail_if_no_progress with_reducible apply State.Follows.upd | (with_reducible refine State.Follows.of_snd (by with_reducible assumption) ?_) | (with_reducible refine State.Follows.of_fst (by with_reducible assumption) ?_) | (with_reducible refine State.Follows.of_trd (by with_reducible assumption) ?_) | split | trivial | intro _ | dsimp only)

theorem State.readTod_follows {z : State} {s : State} (req : Requester) (off : Nat) (hs : z.Follows s) :
    z.Follows (State.readTod s req off).2 := by
  unfold State.readTod
  repeat' (first | with_reducible assumption | with_reducible refine State.Follows.ite_snd (fun _ => ?_) (fun _ => ?_) | with_reducible refine State.Follows.ite (fun _ => ?_) (fun _ => ?_) | with_reducible apply State.setCtx_follows | with_reducible apply Res.Follows.next | fail_if_no_progress with_reducible apply State.Follows.upd | split | trivial | intro _ | dsimp only)

theorem State.readReg_follows {z : State} {s : State} (req : Requester) (off : Nat) (hs : z.Follows s) :
    z.Follows (State.readReg s req off).2 := by
  unfold State.readReg
  repeat' (first | with_reducible assumption | with_reducible refine State.Follows.ite_snd (fun _ => ?_) (fun _ => ?_) | with_reducible refine State.Follows.ite (fun _ => ?_) (fun _ => ?_) | with_reducible apply State.setCtx_follows | with_reducible apply State.refresh_follows | with_reducible apply State.readTod_follows | with_reducible apply Res.Follows.next | fail_if_no_progress with_reducible apply State.Follows.upd | (with_reducible refine State.Follows.of_snd (by with_reducible assumption) ?_) | (with_reducible refine State.Follows.of_fst (by with_reducible assumption) ?_) | (with_reducible refine State.Follows.of_trd (by with_reducible assumption) ?_) | split | trivial | intro _ | dsimp only)

theorem State.busRead_follows {z : State} {s : State} (req : Requester) (off : Nat) (size : Nat) (hs : z.Follows s) :
    z.Follows (State.busRead s req off size) := by
  unfold State.busRead
  repeat' (first | with_reducible assumption | with_reducible refine State.Follows.ite (fun _ => ?_) (fun _ => ?_) | with_reducible apply State.emit_follows | with_reducible apply State.readReg_follows | with_reducible apply Res.Follows.next | fail_if_no_progress with_reducible apply State.Follows.upd | (with_reducible refine State.Follows.of_snd (by with_reducible assumption) ?_) | (with_reducible refine State.Follows.of_fst (by with_reducible assumption) ?_) | (with_reducible refine State.Follows.of_trd (by with_reducible assumption) ?_) | split | trivial | intro _ | dsimp only)

theorem State.writeFqCfg_follows {z : State} {s : State} (q : Nat) (v : BitVec 32) (hs : z.Follows s) :
    z.Follows (State.writeFqCfg s q v) := by
  unfold State.writeFqCfg
  repeat' (first | with_reducible assumption | with_reducible refine State.Follows.ite (fun _ => ?_) (fun _ => ?_) | with_reducible apply State.setFld_follows | with_reducible apply State.fqDisable_follows | with_reducible apply Res.Follows.next | fail_if_no_progress with_reducible apply State.Follows.upd | split | trivial | intro _ | dsimp only)

theorem State.writeFltCtrl_follows {z : State} {s : State} (e : Nat) (v : BitVec 32) (hs : z.Follows s) :
    z.Follows (State.writeFltCtrl s e v) := by
  unfold State.writeFltCtrl
  repeat' (first | with_reducible assumption | with_reducible refine State.Follows.ite (fun _ => ?_) (fun _ => ?_) | with_reducible apply State.setFld_follows | with_reducible apply State.setFlag_follows | with_reducible apply Res.Follows.next | fail_if_no_progress with_reducible apply State.Follows.upd | split | trivial | intro _ | dsimp only)

theorem State.putReg_follows {z : State} {s : State} (off : Nat) (u : Nat) (v : BitVec 32) (hs : z.Follows s) :
    z.Follows (State.putReg s off u v) := by
  unfold State.putReg
  repeat' (first | with_reducible assumption | with_reducible refine State.Follows.ite (fun _ => ?_) (fun _ => ?_) | with_reducible apply State.setReg_follows | with_reducible apply State.setFlag_follows | with_reducible apply State.writeFqCfg_follows | with_reducible apply State.writeFltCtrl_follows | with_reducible apply Res.Follows.next | fail_if_no_progress with_reducible apply State.Follows.upd | split | trivial | intro _ | dsimp only)

theorem State.afterPtp_follows {z : State} {s : State} (off : Nat) (hs : z.Follows s) :
    z.Follows (State.afterPtp s off) := by
  unfold State.afterPtp
  repeat' (first | with_reducible assumption | with_reducible refine State.Follows.ite (fun _ => ?_) (fun _ => ?_) | with_reducible apply State.showAnnounce_follows | with_reducible apply State.showPorts_follows | with_reducible apply State.showSync_follows | with_reducible apply Res.Follows.next | fail_if_no_progress with_reducible apply State.Follows.upd | split | trivial | intro _ | dsimp only)

theorem State.writeReg_follows {z : State} {s : State} (req : Requester) (off : Nat) (u : Nat) (v : BitVec 32) (hs : z.Follows s) :
    z.Follows (State.writeReg s req off u v) := by
  unfold State.writeReg
  repeat' (first | with_reducible assumption | with_reducible refine State.Follows.ite (fun _ => ?_) (fun _ => ?_) | with_reducible apply State.putReg_follows | with_reducible apply State.afterPtp_follows | with_reducible apply Res.Follows.next | fail_if_no_progress with_reducible apply State.Follows.upd | split | trivial | intro _ | dsimp only)

theorem State.writePair_follows {z : State} {s : State} (req : Requester) (off : Nat) (u : Nat) (lo : BitVec 32) (hi : BitVec 32) (hs : z.Follows s) :
    z.Follows (State.writePair s req off u lo hi) := by
  unfold State.writePair
  repeat' (first | with_reducible assumption | with_reducible apply State.writeReg_follows | with_reducible apply Res.Follows.next | fail_if_no_progress with_reducible apply State.Follows.upd | split | trivial | intro _ | dsimp only)

theorem State.writeWord_follows {z : State} {s : State} (req : Requester) (off : Nat) (v : BitVec 32) (hs : z.Follows s) :
    z.Follows (State.writeWord s req off v) := by
  unfold State.writeWord
  repeat' (first | with_reducible assumption | with_reducible refine State.Follows.ite (fun _ => ?_) (fun _ => ?_) | with_reducible apply State.setCtx_follows | with_reducible apply State.setSel_follows | with_reducible apply State.writeReg_follows | with_reducible apply State.writePair_follows | with_reducible apply Res.Follows.next | fail_if_no_progress with_reducible apply State.Follows.upd | split | trivial | intro _ | dsimp only)

theorem State.busWrite_follows {z : State} {s : State} (req : Requester) (off : Nat) (size : Nat) (v : BitVec 64) (hs : z.Follows s) :
    z.Follows (State.busWrite s req off size v) := by
  unfold State.busWrite
  repeat' (first | with_reducible assumption | with_reducible refine State.Follows.ite (fun _ => ?_) (fun _ => ?_) | with_reducible apply State.writeWord_follows | with_reducible apply Res.Follows.next | fail_if_no_progress with_reducible apply State.Follows.upd | split | trivial | intro _ | dsimp only)

theorem execRegisterWrite_follows {z : State} (req : Requester) (off : Nat) (size : Nat) (value : BitVec 64) {s : State} (hs : z.Follows s) :
    Res.Follows z (execRegisterWrite req off size value s) := by
  unfold execRegisterWrite
  repeat' (first | with_reducible assumption | with_reducible apply State.busWrite_follows | with_reducible apply Res.Follows.next | fail_if_no_progress with_reducible apply State.Follows.upd | split | trivial | intro _ | dsimp only)

theorem execLowRegisterRead_follows {z : State} (req : Requester) (off : Nat) (size : Nat) {s : State} (hs : z.Follows s) :
    Res.Follows z (execLowRegisterRead req off size s) := by
  unfold execLowRegisterRead
  repeat' (first | with_reducible assumption | with_reducible apply State.busRead_follows | with_reducible apply Res.Follows.next | fail_if_no_progress with_reducible apply State.Follows.upd | split | trivial | intro _ | dsimp only)

theorem execPairedHighWrite_follows {z : State} (req : Requester) (off : Nat) (value : BitVec 32) {s : State} (hs : z.Follows s) :
    Res.Follows z (execPairedHighWrite req off value s) := by
  unfold execPairedHighWrite
  repeat' (first | with_reducible assumption | with_reducible apply State.busWrite_follows | with_reducible apply Res.Follows.next | fail_if_no_progress with_reducible apply State.Follows.upd | split | trivial | intro _ | dsimp only)

theorem execSelectRegisterWrite_follows {z : State} (req : Requester) (sel : Selector) (value : BitVec 32) {s : State} (hs : z.Follows s) :
    Res.Follows z (execSelectRegisterWrite req sel value s) := by
  unfold execSelectRegisterWrite
  repeat' (first | with_reducible assumption | with_reducible apply State.access_follows | with_reducible apply State.setSel_follows | with_reducible apply Res.Follows.next | fail_if_no_progress with_reducible apply State.Follows.upd | split | trivial | intro _ | dsimp only)

end Sys2Proof.Machine
end

