-- ==== Sys2Proof/Laws/TickFollows.lean ====
section
/-! SUPPORT. Laws/TickFollows.lean: every operation of Machine/Tick.lean follows: what it does to the queue, the outputs, the draw counter and the invariant (Safety.lean). -/
set_option linter.unusedVariables false
set_option linter.unreachableTactic false
set_option linter.unusedTactic false
namespace Sys2Proof.Machine

open Sys2Proof

theorem State.sendLinks_follows {z : State} {s : State} (hs : z.Follows s) :
    z.Follows (State.sendLinks s) := by
  unfold State.sendLinks
  repeat' (first | with_reducible assumption | with_reducible refine State.Follows.ite (fun _ => ?_) (fun _ => ?_) | with_reducible apply forUpto_follows | with_reducible apply State.linkSend_follows | with_reducible apply Res.Follows.next | fail_if_no_progress with_reducible apply State.Follows.upd | split | trivial | intro _ | dsimp only)

theorem State.tick_follows {z s : State} (hs : z.Follows s) : z.Follows (State.tick s) := by
  unfold State.tick
  have h1 : z.Follows (if s.flag 0 F.SEQ_STATUS_SAMPLER_BUSY then forUpto 64 (fun e t => t.sampled e) s else s) :=
    State.Follows.ite (fun _ => forUpto_follows _ _ (fun k u h => State.sampled_follows _ h) hs) (fun _ => hs)
  generalize (if s.flag 0 F.SEQ_STATUS_SAMPLER_BUSY then forUpto 64 (fun e t => t.sampled e) s else s) = s1 at h1
  have h2 : z.Follows s1.hostSend.sendLinks.wakeDue := State.wakeDue_follows (State.sendLinks_follows (State.hostSend_follows h1))
  generalize s1.hostSend.sendLinks.wakeDue = s2 at h2
  refine State.Follows.ite (fun _ => State.showHold_follows ?_) (fun _ => h2)
  exact ⟨h2.pending, h2.out, h2.free, fun i => let j := h2.inv i; ⟨j.mem, j.regs, j.poison, j.used, Nat.mod_lt _ (by decide)⟩⟩

end Sys2Proof.Machine
end

