-- ==== Sys2Proof/Machine/Pins.lean ====
section
/-! DEFINITION. Machine/Pins.lean: the state of each pin group during and after reset (03 R83; 22 R592), from the state that governs it. -/
namespace Sys2Proof.Machine

open Sys2Proof

/-- The pin groups of R83; lanes of an Ethernet port and of a Yaroz link by number. -/
inductive PinGroup where
  | cxlLanes
  | ethLanes (port : Nat)
  | yzLanes (link : Nat)
  | pumpPwm
  | valveCtl
  | holdupChgEn
  | ppsOut
  | spi
  | i3c
  /-- PERST_N, CARD_RESET_N, PPS_IN, PUMP_TACH, JTAG. -/
  | input
  /-- REFCLK100 and HOLDUP_SENSE. -/
  | analog
  deriving DecidableEq, Repr

/-- What the device does at a pin. -/
inductive PinState where
  | electricalIdle
  | pulledHigh
  | driven
  | input
  | analog
  deriving DecidableEq, Repr

/-- Whether the device drives a group (R83): CXL lanes from step 4 unless the controller is held, Ethernet and Yaroz lanes once their I/O die is released in step 7, SPI from
step 4, the rest from step 9; inputs never. -/
def State.drives (s : State) (g : PinGroup) : Bool :=
  match g with
  | .cxlLanes => decide (s.rst.chipSrc = 0) && !s.cxlHeld
  | .ethLanes _ => decide (s.rst.chipSrc = 0) && !(s.fld 0 F.RST_DOMAIN_IODIE).testBit 0
  | .yzLanes _ => decide (s.rst.chipSrc = 0) && !(s.fld 0 F.RST_DOMAIN_IODIE).testBit 1
  | .spi => s.qRuns
  | .pumpPwm => s.pinsTaken
  | .valveCtl => s.pinsTaken
  | .holdupChgEn => s.pinsTaken
  | .ppsOut => s.pinsTaken
  | .i3c => s.pinsTaken
  | .input => false
  | .analog => false

/-- The state of a group: its state during reset while the device does not drive it, and electrical idle on the lanes of a link that is down or a port or link whose MODE is
OFF (22 R592). -/
def State.pinState (s : State) (g : PinGroup) : PinState :=
  match g with
  | .cxlLanes => if s.drives g && decide (s.fld 0 F.CXL_LINK_MODE ≠ 0) then .driven else .electricalIdle
  | .ethLanes p => if s.drives g && decide (s.subMode (4 * p) ≠ 0) then .driven else .electricalIdle
  | .yzLanes l => if s.drives g && decide (s.fld 0 (F.YZF_LINK_STATUS_MODE l) ≠ 0) then .driven else .electricalIdle
  | .input => .input
  | .analog => .analog
  | _ => if s.drives g then .driven else .pulledHigh

/-- The level of PPS_OUT: pulled high until the device takes it, then low between pulses (22 R592). -/
def State.ppsLevel (s : State) : Bool := !s.pinsTaken || s.time.ppsEnd.isSome

end Sys2Proof.Machine
end

