-- ==== Sys2Proof/WellFormed.lean ====
section
/-! DEFINITION. WellFormed.lean: when a command is one that can be sent: byte lists hold bytes, blobs are in their one form, and the numbers of an operand fit the field
that brings them. `exec` has no such guard: it gives an ill-formed command a meaning too. -/
namespace Sys2Proof

/-- A list of bytes. -/
def bytesOk (l : List Nat) : Bool := l.all (fun b => decide (b < 256))

/-- Whether a number fits a field of some bits. -/
def fits (n v : Nat) : Bool := decide (v < 2 ^ n)

/-- The entries of a blob lie above an offset, in rising order, below its length, and none is zero. -/
def blobRises (len : Nat) : Option Nat → List (Nat × Byte) → Bool
  | _, [] => true
  | p, (k, v) :: r => (match p with | none => true | some q => decide (q < k)) && decide (k < len) && decide (v ≠ 0) && blobRises len (some k) r

/-- The one form of a run of bytes. -/
def Blob.wf (b : Blob) : Bool := blobRises b.len none b.bytes

/-- A lane of an error: 0 to 17, or 0x1F for two lanes (04 R120). -/
def EccEvent.wf (e : EccEvent) : Bool := decide (e.lane < 18 ∨ e.lane = 31)

/-- An error, if there was one. -/
def eccOk : Option EccEvent → Bool
  | none => true
  | some e => e.wf

/-- An image that may be missing. -/
def blobOk : Option Blob → Bool
  | none => true
  | some b => b.wf

/-- A record of a Yaroz packet: its fields (13 R394, R396). -/
def YzRec.wf (r : YzRec) : Bool := fits 8 r.opc && fits 8 r.flags && fits 16 r.len && fits 32 r.tag && fits 64 r.addr && bytesOk r.payload

/-- A Yaroz packet: its fields, and a REQ or RESP carries 1 to 32 records, the others none (13 R384). -/
def YzPkt.wf (p : YzPkt) : Bool :=
  fits 8 p.type && fits 16 p.flags && fits 32 p.job && fits 12 p.src && fits 12 p.dst && fits 16 p.epoch && fits 8 p.gen && fits 24 p.psn &&
    (match p.ack with | none => true | some a => fits 24 a) && fits 16 p.lseq && fits 16 p.lack && fits 16 p.credit && p.recs.all (fun r => r.wf) &&
    decide (if p.type = 1 ∨ p.type = 2 then 1 ≤ p.recs.length ∧ p.recs.length ≤ 32 else p.recs = [])

/-- A Yaroz frame. -/
def YzFrame.wf (f : YzFrame) : Bool := fits 48 f.dmac && fits 48 f.smac && f.pkt.wf

/-- An allocation of a slot request (08 R239). -/
def RadPdu.wf (p : RadPdu) : Bool := decide (p.kind < 8) && fits 16 p.rnti && fits 14 p.syms && decide (p.bg = 1 ∨ p.bg = 2)

/-- An item of a slot plan (08 R244). -/
def PlanItem.wf (i : PlanItem) : Bool := decide (i.engine < 7)

/-- A request to bonded memory (04 R100). -/
def MemAcc.wf : MemAcc → Bool
  | .load n => decide (0 < n)
  | .store b => bytesOk b
  | .atomic w _ a c => decide (w = 4 ∨ w = 8) && fits (8 * w) a && fits (8 * w) c

/-- A CXL.mem request: within one granule (17 R498). -/
def CxlMemOp.wf : CxlMemOp → Bool
  | .read n => decide (0 < n ∧ n ≤ 64)
  | .write b => bytesOk b && decide (0 < b.length ∧ b.length ≤ 64)

/-- The size of an access: 1, 2, 4 or 8 bytes within the 64 MiB window (00 R2). -/
def accessOk (off size : Nat) : Bool := fits 26 off && decide (size = 1 ∨ size = 2 ∨ size = 4 ∨ size = 8)

/-- Whether the operands of a command are ones that can be sent. -/
def Instr.wf (i : Instr) : Bool :=
  match i with
  | .registerWrite _ off size _ => accessOk off size
  | .lowRegisterRead _ off size => accessOk off size
  | .pairedHighWrite _ off _ => accessOk off 4
  | .selectRegisterWrite _ _ _ => true
  | .powerOnReset => true
  | .cardResetAssert => true
  | .cardResetRelease => true
  | .perstAssert => true
  | .perstRelease => true
  | .cxlHotReset => true
  | .linkDisable => true
  | .linkReenable => true
  | .clockLoss _ _ _ => true
  | .referenceReturn => true
  | .rootPllLock => true
  | .domainSettle _ => true
  | .watchdogExpiry => true
  | .watchdogKick _ _ => true
  | .railResetLevel _ => true
  | .railOverVoltage _ => true
  | .braceEntry _ => true
  | .braceExit _ => true
  | .supplyMeasPeriod mv => decide (mv.length = 7)
  | .softResetChip _ _ _ _ => true
  | .softResetIoDie _ _ _ _ => true
  | .softResetPanel _ _ _ _ => true
  | .softResetCore _ _ _ _ => true
  | .softResetHoldEnd => true
  | .softResetDone => true
  | .panelRetrainDone _ => true
  | .romBoot flash ident => blobOk flash && blobOk ident
  | .applyBegin _ => true
  | .stackTrainingDone _ spares _ _ => spares.all (fun l => decide (l ≤ 96))
  | .easel0Start _ => true
  | .retouchGo _ => true
  | .retouchCheck data _ => data.wf
  | .retouchCancel _ _ => true
  | .shaperRefill => true
  | .bondedRequest _ addr acc ecc => acc.wf && eccOk ecc && fits 46 addr
  | .bankPageTimeout _ _ _ => true
  | .stackRefresh _ _ _ => true
  | .stackTempReading _ temp _ => fits 8 temp
  | .patrolScrub _ _ lane => decide (lane < 18 ∨ lane = 31)
  | .memReleaseGo _ => true
  | .memReleaseDone _ => true
  | .tcMatmul _ _ ecc => ecc.all (fun e => e.wf)
  | .tcElemwise _ _ ecc => ecc.all (fun e => e.wf)
  | .tcRelease _ => true
  | .tcMark _ => true
  | .tcPreload _ ecc => ecc.all (·.wf)
  | .tcCompletion _ _ _ _ _ => true
  | .scRun _ => true
  | .scRelease _ => true
  | .scMark _ => true
  | .scLoadprog _ ecc => eccOk ecc
  | .scCompletion _ _ _ => true
  | .nop _ => true
  | .vadd _ => true
  | .vsub _ => true
  | .vmac _ => true
  | .vcmac _ => true
  | .tapC _ => true
  | .tapR _ => true
  | .vpack _ => true
  | .vshr _ => true
  | .vshl _ => true
  | .vmax _ => true
  | .vmin _ => true
  | .vconj _ => true
  | .vsel _ => true
  | .vclr _ => true
  | .vld _ ecc => eccOk ecc
  | .vst _ => true
  | .ldf _ ecc => eccOk ecc
  | .ld _ ecc => eccOk ecc
  | .st _ => true
  | .vperm _ => true
  | .add _ => true
  | .sub _ => true
  | .andS _ => true
  | .orS _ => true
  | .xorS _ => true
  | .shl _ => true
  | .shr _ => true
  | .cmp _ => true
  | .br _ => true
  | .repeatLoop _ => true
  | .semtry _ => true
  | .semsig _ => true
  | .doneCmd _ => true
  | .repeatCeiling _ _ => true
  | .overrun _ => true
  | .preemptSwitch _ ecc => eccOk ecc
  | .debugHalt _ => true
  | .fapiParam _ _ => true
  | .fapiConfig _ _ _ _ _ _ body => bytesOk body
  | .fapiStart _ _ => true
  | .fapiStop _ _ => true
  | .dlTtiRequest _ _ sfn _ pdus _ => decide (sfn < 1024) && pdus.all (fun p => p.wf)
  | .ulTtiRequest _ _ sfn _ pdus => decide (sfn < 1024) && pdus.all (fun p => p.wf)
  | .ulDciRequest _ _ sfn _ pdus => decide (sfn < 1024) && pdus.all (fun p => p.wf)
  | .txDataRequest _ _ sfn _ tbs => decide (sfn < 1024) && tbs.all (fun t => t.data.wf)
  | .slotIndication _ => true
  | .requestDeadline _ _ => true
  | .slotPlan _ _ _ _ items => items.all (fun p => p.wf)
  | .ulWindowClose _ _ _ => true
  | .ldpcDecodeDone _ _ _ _ _ _ => true
  | .resultDeadline _ _ => true
  | .harqAgeExpiry _ _ _ => true
  | .ldpcEncodeDone _ _ _ _ => true
  | .fftDone _ _ _ _ => true
  | .polarDecodeDone _ _ _ _ => true
  | .dlDataCheck _ _ _ => true
  | .radioShed _ _ _ _ => true
  | .cellSlotBoundary _ => true
  | .ssbHoldExpiry _ => true
  | .channelArm _ => true
  | .channelResume _ => true
  | .channelSkip _ => true
  | .channelAbort _ => true
  | .semaphoreSet _ _ => true
  | .descriptorFetchDone _ host _ => host.wf
  | .threadTake _ _ => true
  | .strokeStart _ ecc => eccOk ecc
  | .dim _ => true
  | .strokeRun _ => true
  | .wrap _ => true
  | .gather _ => true
  | .moveNest _ host idx _ ecc => host.wf && idx.wf && ecc.all (fun e => e.2.wf)
  | .adv _ => true
  | .loopStroke _ => true
  | .swait _ => true
  | .ssig _ => true
  | .fence _ => true
  | .strokeArm _ => true
  | .endStroke _ => true
  | .semaphoreSignalArrival _ => true
  | .descriptorComplete _ => true
  | .paletteReadResume _ => true
  | .granuleWaitResume _ => true
  | .sqTailWrite _ _ => true
  | .easelEnable _ => true
  | .submitTCore _ host => host.wf
  | .submitSCore _ host => host.wf
  | .submitChannelArm _ host => host.wf
  | .grant _ _ _ pLive _ => decide (pLive ≤ 383)
  | .toNormal _ _ => true
  | .toPartitioned _ _ => true
  | .cqHeadWrite _ _ => true
  | .parkedWaitDone _ => true
  | .seqEnable _ _ => true
  | .seqOpen _ host => host.wf
  | .seqClose _ host => host.wf
  | .stepBuild _ host => host.wf
  | .buildRetry _ => true
  | .sampleDraft _ host ecc => host.wf && ecc.all (fun e => e.2.wf)
  | .sampleFinal _ host ecc => host.wf && ecc.all (fun e => e.2.wf)
  | .draftPut _ host => host.wf
  | .seqSwapOut _ host => host.wf
  | .seqSwapIn _ host => host.wf
  | .swapCopyDone _ _ host _ => host.wf
  | .varnish _ => true
  | .seqLose _ _ _ _ _ => true
  | .seqPeek _ _ _ => true
  | .seqDbgRead _ _ _ ecc => eccOk ecc
  | .outputRingHeadWrite _ _ _ => true
  | .embEnable _ => true
  | .embGather _ host => host.wf
  | .embLaunch _ _ => true
  | .embRowArrival _ _ ecc => eccOk ecc
  | .embDeadline _ => true
  | .embComplete _ _ => true
  | .yarozReq _ frame => frame.wf
  | .yzfLoad _ _ _ ecc => eccOk ecc
  | .yzfStore _ _ _ => true
  | .yzfAtomic _ _ _ ecc => eccOk ecc
  | .yzfProbe _ _ => true
  | .homeQueueServe _ ecc => eccOk ecc
  | .yarozResp _ frame => frame.wf
  | .yarozAck _ frame => frame.wf
  | .yarozNak _ frame => frame.wf
  | .yarozCredit _ frame => frame.wf
  | .retransmitTimeout _ _ _ => true
  | .linkReplay _ _ => true
  | .pathProbe _ _ _ _ => true
  | .yarozLinkDown _ => true
  | .fenceTimeout _ => true
  | .deadTimerExpiry _ => true
  | .retryAfterReissue _ => true
  | .genAheadReissue _ => true
  | .epochReissue _ => true
  | .mcastLoad _ => true
  | .mcastPrune _ _ => true
  | .tombstoneDrained _ => true
  | .tombstoneExpired _ => true
  | .ethFrameRx _ bytes _ stamp _ _ => bytesOk bytes && fits 80 stamp
  | .txRecordHead _ ecc => eccOk ecc
  | .queuedFrameStart _ _ => true
  | .launchFrameStart _ => true
  | .launchFrameDrop _ => true
  | .subportLinkDown _ => true
  | .subportLinkUp _ => true
  | .queueSample => true
  | .histogramClear _ => true
  | .todSet _ => true
  | .todSetPps _ => true
  | .todStep => true
  | .todSourceWrite _ _ _ => true
  | .frameOffsetWrite _ _ => true
  | .todLocked => true
  | .sourceLost => true
  | .holdoverLimit => true
  | .ptpSyncRx _ frame stamp => bytesOk frame && fits 80 stamp
  | .ptpFollowUpRx _ frame => bytesOk frame
  | .ptpDelayReqRx _ frame stamp => bytesOk frame && fits 80 stamp
  | .ptpDelayRespRx _ frame => bytesOk frame
  | .ptpAnnounceRx _ frame => bytesOk frame
  | .ptpSyncTx _ launch => fits 80 launch
  | .ptpDelayReqTx _ launch => fits 80 launch
  | .ptpAnnounceTx _ launch => fits 80 launch
  | .esmcRx _ frame => bytesOk frame
  | .esmcInfoTx _ launch _ => fits 80 launch
  | .ppsInEdge stamp => fits 80 stamp
  | .ppsOutRise => true
  | .ppsOutFall => true
  | .alarmFire _ => true
  | .cxlLinkTraining _ _ _ _ => true
  | .vfEnable _ => true
  | .vfDisable => true
  | .vfFlr _ => true
  | .pfFlr => true
  | .atsInvalidation _ pages refused => pages.all (fun p => fits 52 p) && refused.all (fun p => fits 52 p)
  | .fapiPoll _ line ring => line.wf && ring.wf
  | .fqEnable _ _ line => line.wf
  | .cxlMemRequest _ off acc ecc => acc.wf && eccOk ecc && fits 46 off
  | .ideFailure _ => true
  | .ideRequire _ => true
  | .dlDown => true
  | .msiModerationTimer _ _ => true
  | .freeze _ _ => true
  | .freezeDrained _ => true
  | .freezeBoundExpiry _ => true
  | .thaw _ _ => true
  | .save _ _ => true
  | .saveDone _ _ => true
  | .restore _ _ hdr => hdr.wf
  | .restoreDone _ image _ => image.wf
  | .reset _ _ => true
  | .easelResetRelease _ => true
  | .clearingDone _ => true
  | .tcClockGate _ => true
  | .tcPowerGate _ => true
  | .stackSelfRefreshEntry _ => true
  | .laneSleep _ => true
  | .powerWake _ _ => true
  | .wakeExitDone _ => true
  | .wakeBudgetWrite _ _ => true
  | .dieSensorReading temps _ => temps.all (fun t => decide (t < 1024))
  | .coolantReading inlet outlet => fits 10 inlet && fits 10 outlet
  | .coolantSensorLoss _ => true
  | .driveAdjust => true
  | .admissionEvaluate _ prad => decide (prad.length = 20)
  | .escalationEnd => true
  | .pumpFailure _ => true
  | .pumpFailClear _ => true
  | .holdupSample _ => true
  | .pushStart _ => true
  | .pushDone _ => true
  | .pushAbort _ => true
  | .pushRequestTimeout => true
  | .svnCommit _ _ => true
  | .updateGo _ => true
  | .updateFetchDone image _ => image.wf
  | .updateProgramDone _ => true
  | .grantGo _ => true
  | .grantVerdict b _ => b.wf
  | .grantRevoke _ => true
  | .grantExpiry => true
  | .debugReset _ _ => true
  | .getVersion _ => true
  | .getCapabilities _ => true
  | .negotiateAlgorithms _ => true
  | .getDigests _ => true
  | .getCertificate _ _ _ _ => true
  | .challenge _ _ => true
  | .getMeasurements _ _ _ => true
  | .keyExchange _ => true
  | .finish _ _ => true
  | .endSession _ => true
  | .heartbeat _ => true
  | .keyUpdate _ => true
  | .ideKm _ _ => true
  | .foldWindowEnd => true
  | .injectArm _ => true
  | .injectDisarm _ => true
  | .healthEvaluation => true
  | .quarantineEnter _ _ => true
  | .quarantineLeave _ _ => true
  | .supplyResetRelease => true
  | .yarozLinkUp _ _ => true
  | .synceDpllLock _ => true
  | .holdoverTxLimit => true
  | .configRequest _ => true
  | .msixVectorUnmask _ _ => true
  | .todNowFracRead _ => true
  | .jtagInstruction => true

end Sys2Proof
end

