-- ==== Sys2Proof/Tests/Slice0.lean ====
section
/-! SUPPORT. Tests/Slice0.lean: states that meet the hypotheses of each statement together (`witness_`), ill-formed commands that each check of WellFormed.lean refuses
(`illformed_`), and small tests of single commands against the spec's own numbers (`test_`). -/
namespace Sys2Proof.Tests

set_option Elab.async false

open Sys2Proof Sys2Proof.Machine

/-- A state with some fields set (unit, field, value), the other bits of their registers 0, and no source of chip reach asserted. -/
def st (l : List (Nat × Fld × Nat)) : State :=
  { State.reset with
    regs := l.foldl (fun m p => SMap.put (regKey p.1 p.2.1.off) (putField (SMap.get (fun _ => 0) m (regKey p.1 p.2.1.off)) p.2.1.lo p.2.1.width p.2.2) m) State.reset.regs
    rst := { State.reset.rst with chipSrc := 0 } }

/-- A device in service: clocks running, bring-up over, canvas sealed, link up in CXL mode. -/
def up (l : List (Nat × Fld × Nat)) : State :=
  st ([(0, F.CLK_STATUS_RUN, 15), (0, F.RST_BRINGUP_STEP, 11), (0, F.CVS_STATE_STATE, 2), (0, F.CXL_LINK_MODE, 2)] ++ l)

/-- A grant with every power in force (20 R567). -/
def dev (s : State) : State := { s with tru := { s.tru with caps := 0xFF } }

theorem power_of_caps {s : State} {p : Nat} (h : s.tru.caps.testBit p = true) : s.power p = true := by simp [State.power, h]

/-- NumVFs set, so that the VFs' BARs are open. -/
def vfs (n : Nat) (s : State) : State := { s with cxl := { s.cxl with vfs := n } }

/-- A blob of a length with some little-endian numbers in it, in rising order (offset, bytes, value). -/
def bl (len : Nat) (l : List (Nat × Nat × Nat)) : Blob :=
  ⟨len, (l.flatMap (fun p => (List.range p.2.1).map (fun i => (p.1 + i, BitVec.ofNat 8 (p.2.2 / 256 ^ i))))).filter (fun e => decide (e.2 ≠ 0))⟩

/-- A state at a time of day in ns. -/
def at_ (ns : Nat) (s : State) : State := { s with tod := ns * 2 ^ 40 }

/-- The origin of the slot grid: 315,964,819 s (08 R235). -/
def grid : Nat := 315964819 * 10 ^ 9

/-- A state with a slot of cell 0. -/
def slot (n : Nat) (v : RadSlot) (s : State) : State := s.setSlot 0 n v

/-- A PDU of a kind, with a handle, one code block of four soft values, on symbol 0 of stream 0. -/
def pdu (kind handle : Nat) : RadPdu := ⟨kind, handle, 1, 0, true, 1, 1, 1, 4, 1, 1, 0, 1⟩

/-- A plan item on an engine of panel 0 that serves a handle. -/
def item (engine : Nat) (words : List Nat) (handle : Nat) : PlanItem := ⟨engine, 0, words, 10 ^ 9, 0, [], [], [], [handle]⟩

theorem witness_SelectRegistersHoldTheirRange : selWritable .pf0 .strCh = true ∧ (up []).barOpen .pf0 (selOff .strCh) = true ∧ (0x7FF : BitVec 32).toNat < selRange .strCh ∧
    selRange .strCh ≤ (0x800 : BitVec 32).toNat ∧ selectAt (selOff .strCh) = some .strCh := by decide +kernel

theorem witness_AccessesFollowTheAccessCodes :
    (let off := F.TRU_UPD_LEN_BYTES.off
     (up []).barOpen .pf0 off = true ∧ ordinaryReg off = true ∧ pairLow off = false ∧ pairHigh off = false ∧ off % 4 = 0 ∧ (regRow? off).isSome = true ∧ writerOf off = .manages ∧
      (up []).valueOk off ((up []).unitAt .pf0 off) (BitVec.ofNat 32 (5 : BitVec 64).toNat) = true) ∧
    (vfs 1 (up [])).barOpen (.vf 1) 0x30104 = true ∧ selectAt 0x30104 = none ∧ (vfs 1 (up [])).sees (.vf 1) 0x30104 ((vfs 1 (up [])).unitAt (.vf 1) 0x30104) = false ∧ 0x30104 % 4 = 0 := by decide +kernel

theorem witness_PairHalvesTakeEffectTogether :
    let off := F.CVS_RT_ADDR_LO_ADDR.off
    let s := up []
    pairLow off = true ∧ pairLow (off + 4) = false ∧ off % 4 = 0 ∧ ordinaryReg off = true ∧ ordinaryReg (off + 4) = true ∧ s.unitAt .pf0 off = 0 ∧ windowOf (off + 4) = windowOf off ∧
      s.barOpen .pf0 off = true ∧ s.sees .pf0 off 0 = true ∧ s.sees .pf0 (off + 4) 0 = true ∧ s.barOpen .pf0 (off + 4) = true ∧ pairWritable off = true ∧ pairWritable (off + 4) = true ∧
      (regRow? off).isSome = true ∧ (regRow? (off + 4)).isSome = true ∧ s.mayWrite .pf0 off 0 = true ∧ (s.setReg 0 off 64).mayWrite .pf0 (off + 4) 0 = true ∧
      s.valueOk off 0 64 = true ∧ (s.setReg 0 off 64).valueOk (off + 4) 0 1 = true ∧ off ≠ F.CXL_ATC_MISSES.off ∧ off ≠ F.TRU_GRANT_LEFT_S.off ∧ off + 4 ≠ F.CXL_ATC_MISSES.off ∧
      off + 4 ≠ F.TRU_GRANT_LEFT_S.off ∧ off ≠ F.RAD_LDPC_UTIL_W.off ∧ off + 4 ≠ F.RAD_LDPC_UTIL_W.off ∧ (off < F.TOD_NOW_FRAC_FRAC.off - 4 ∨ F.TOD_NOW_NS_HI_NS.off < off) := by decide +kernel

/-- A device in service with chip reach given to PERST_N and hot reset, and its watchdog running. -/
def reach : State :=
  let s := dev (up [(0, F.RST_REACH_PERST_CHIP, 1), (0, F.RST_REACH_HOT_CHIP, 1)])
  { s with rst := { s.rst with wdog := some 0 } }

theorem reach_inv : reach.Inv := ⟨by decide +kernel, by decide +kernel, by decide +kernel, by decide +kernel, by decide +kernel⟩

theorem witness_ChipReachSourcesRebuildTheChip : (reach.rst.chipSrc = 0 ∧ reach.fld 0 F.CVS_STATE_STATE ≠ 1 ∧ reach.fld 0 F.RST_HELD_HELD &&& srCard = 0 ∧ reach.perstChip = true ∧
    reach.fld 0 F.RST_HELD_HELD &&& srPerst = 0 ∧ reach.hotChip = true ∧ reach.fld 0 F.RST_HELD_HELD &&& srHot = 0 ∧ reach.rst.wdog.isSome = true ∧ reach.flag 0 F.RST_BRINGUP_RECOVERY = false ∧
    reach.barOpen .pf0 F.TRU_DBG_RESET_KICK.off = true ∧ reach.qRuns = true ∧ reach.barOpen .pf0 F.RST_SOFT_REACH.off = true ∧ reach.rst.soft = none ∧ reach.cellCount = 0) ∧
    reach.Inv ∧ reach.power powDebugReset = true :=
  ⟨by decide +kernel, reach_inv, power_of_caps (by decide +kernel)⟩

theorem witness_ReleasedSourcesStartBringUp :
    let s := { st [(0, F.RST_HELD_HELD, srCard ||| srPerst ||| srHot)] with rst := { State.reset.rst with chipSrc := srPerst ||| srHot ||| srPor, refLost := true } }
    s.fld 0 F.RST_HELD_HELD &&& srCard ≠ 0 ∧ s.fld 0 F.RST_HELD_HELD &&& srPerst ≠ 0 ∧ s.rst.chipSrc &&& srPerst ≠ 0 ∧ s.fld 0 F.RST_HELD_HELD &&& srHot ≠ 0 ∧ s.rst.chipSrc &&& srHot ≠ 0 ∧
      s.rst.refLost = true ∧ s.rst.chipSrc &&& (srPor ||| srSupply) ≠ 0 := by decide +kernel

theorem witness_HostResetsOfDefaultReach :
    ((up []).rst.chipSrc = 0 ∧ (up []).perstChip = false ∧ (up []).fld 0 F.RST_HELD_HELD &&& srPerst = 0 ∧ (up []).hotChip = false ∧ (up []).fld 0 F.RST_HELD_HELD &&& srHot = 0) ∧
    (let s := up [(0, F.RST_HELD_HELD, srPerst)]
     s.rst.chipSrc = 0 ∧ (s.fld 0 F.RST_HELD_HELD - (s.fld 0 F.RST_HELD_HELD &&& srPerst)) &&& (srPerst ||| srHot) = 0 ∧ s.fld 0 F.RST_HELD_HELD &&& srPerst ≠ 0 ∧
      3 ≤ s.fld 0 F.RST_BRINGUP_STEP ∧ s.rst.soft ≠ some (1, 0)) := by decide +kernel

theorem witness_SoftResetsOfUnits :
    let s := up []
    Requester.pf0.manages = true ∧ s.barOpen .pf0 F.RST_SOFT_REACH.off = true ∧ s.qRuns = true ∧ s.fld 0 F.CVS_STATE_STATE ≠ 1 ∧ s.rst.soft = none ∧ s.cellCount = 0 ∧
      (1 : BitVec 9).toNat < 2 ∧ (47 : BitVec 9).toNat < 48 ∧ 256 ≤ (447 : BitVec 9).toNat ∧ (447 : BitVec 9).toNat < 448 ∧
      (s.softRefusal 2 0 0 false).isSome = true ∧ (s.softRefusal 2 0x5A 3 false).isSome = true := by decide +kernel

theorem witness_SoftResetEndsAndPanelsRetrain :
    let s := { up [] with rst := { (up []).rst with soft := some (2, 1) } }
    let u := { up ((panelStacks 1).map (fun k => (k, F.MEM_STK_STATUS_STATE, 1))) with rst := { (up []).rst with soft := some (2, 1), softOut := true } }
    let v := { up ((panelStacks 1).map (fun k => (k, F.MEM_STK_STATUS_STATE, 3))) with rst := { (up []).rst with soft := some (2, 1), softOut := true } }
    s.rst.soft = some (2, 1) ∧ s.rst.softOut = false ∧ (u.rst.softOut = true ∧ u.rst.soft = some (2, 1) ∧ ∀ k ∈ panelStacks 1, u.fld k F.MEM_STK_STATUS_STATE = 1) ∧
      (v.rst.soft = some (2, 1) ∧ v.rst.softOut = true ∧ v.panelTrained 1 = true ∧ ∀ k ∈ panelStacks 1, v.fld k F.MEM_STK_STATUS_STATE ≠ 1) := by decide +kernel

theorem witness_ClockAndSupplyLossResetTheChip : (let real := (if true then 1 else 0) + (if false then 2 else 0) + 4 * (0 : BitVec 4).toNat; real ≠ 0) ∧ (0x40 : BitVec 7) ≠ 0 := by decide

theorem witness_BraceModeEntersAndLeaves : (1 : BitVec 7) ≠ 0 ∧ (up []).qRuns = true ∧ (up []).runs .q = true ∧ (up [(0, F.PWR_SUP_STATUS_BRACE, 1)]).brace = true := by decide +kernel

theorem witness_PowerOnResetIsTheResetState : reach.Inv := reach_inv

theorem witness_BringUpStartsTheClocks :
    ((st [(0, F.RST_BRINGUP_STEP, 1)]).rst.chipSrc = 0 ∧ (st [(0, F.RST_BRINGUP_STEP, 1)]).fld 0 F.RST_BRINGUP_STEP = 1) ∧
    (let s := st [(0, F.RST_BRINGUP_STEP, 2)]; s.runs .h = false ∧ s.fld 0 F.RST_BRINGUP_STEP = 2 ∧ s.runs .q = false) ∧
    (let s := st [(0, F.RST_BRINGUP_STEP, 2), (0, F.CLK_STATUS_RUN, 2 ^ domBit .h)]; s.runs .q = false ∧ s.fld 0 F.RST_BRINGUP_STEP = 2 ∧ s.runs .h = true) ∧
    (let s := st [(0, F.CVS_STATE_STATE, 1), (0, F.CVS_STATE_PHASE, 2), (0, F.CLK_STATUS_RUN, 2 ^ domBit .k)]
     s.runs .s = false ∧ s.fld 0 F.CVS_STATE_STATE = 1 ∧ s.fld 0 F.CVS_STATE_PHASE = 2 ∧ s.runs .k = true) ∧
    (reach.barOpen .atelier1 F.RST_WDOG_KICK_KICK.off = true ∧ reach.rst.wdog.isSome = true) := by decide +kernel

/-- A chip whose image the ROM has accepted: a canvas of 256 bytes at 0x100 with a header that names this device and 18 sections. -/
def pushed : State :=
  let s := st [(0, F.RST_BRINGUP_STEP, 4), (0, F.CVS_STATE_SOURCE, 2)]
  { s with boot := { s.boot with stage := .checked, image := bl 0x200 [(0x18, 4, 0x100), (0x1C, 4, 0x100), (0x100, 4, 0x53564E43), (0x104, 2, 1), (0x106, 2, 0x100),
      (0x108, 4, (s.reg 0 0).toNat), (0x10C, 4, (s.reg 0 8).toNat), (0x110, 4, (s.reg 0 0xC).toNat), (0x114, 4, (s.reg 0 0x10).toNat), (0x11C, 2, 18)] } }

/-- That an image passes every check of the ROM rests on what an SM2 signature is, which Config.sm2Valid leaves open: of that clause no concrete image can be shown. -/
theorem witness_RomAndApplyBringTheCanvasIn :
    (let s := st [(0, F.RST_BRINGUP_STEP, 3), (0, F.TRU_BOOT_CTRL_PUSH_NEXT, 1)]
     s.rst.chipSrc = 0 ∧ s.fld 0 F.RST_BRINGUP_STEP = 3 ∧ s.fld 0 F.TRU_BOOT_SOURCE = 0 ∧ (s.deriveId none).flag 0 F.TRU_BOOT_CTRL_PUSH_NEXT = true) ∧
    (let s := st [(0, F.RST_BRINGUP_STEP, 3), (0, F.RST_LAST_SOURCES, 2 ^ 9), (0, F.CVS_FLASH_TRIES_TRIES, 2)]
     s.fld 0 F.RST_BRINGUP_STEP = 3 ∧ s.fld 0 F.TRU_BOOT_SOURCE = 0 ∧ (s.deriveId none).flag 0 F.TRU_BOOT_CTRL_PUSH_NEXT = false ∧
      ((s.deriveId none).fld 0 F.RST_LAST_SOURCES).testBit 9 = true ∧ 2 ≤ (s.deriveId none).fld 0 F.CVS_FLASH_TRIES_TRIES) ∧
    (let s := st [(0, F.RST_BRINGUP_STEP, 3), (0, F.RST_LAST_SOURCES, 2 ^ 9), (0, F.CVS_FLASH_TRIES_TRIES, 1)]
     let s1 := s.deriveId none
     s1.flag 0 F.TRU_BOOT_CTRL_PUSH_NEXT = false ∧ (s1.fld 0 F.RST_LAST_SOURCES).testBit 9 = true ∧ s1.fld 0 F.CVS_FLASH_TRIES_TRIES < 2 ∧
      ((s1.incSat 0 F.CVS_FLASH_TRIES_TRIES 1).setSource 1).imgFault (bl 0x80 []) = some 0x10) ∧
    (let s := { pushed.setSource 1 with boot := pushed.boot }
     s.rst.chipSrc = 0 ∧ s.boot.stage = .checked ∧ s.fld 0 F.CVS_STATE_SOURCE ≠ 2 ∧ imgCanvasAt s.boot.image + imgCanvasLen s.boot.image ≤ s.boot.image.len) ∧
    (let s1 := (pushed.setFld 0 F.CVS_STATE_STATE 1).setFld 0 F.CVS_STATE_PHASE 1
     pushed.fld 0 F.CVS_STATE_SOURCE = 2 ∧ s1.headerRefusal s1.canvas = none) ∧
    (let s := st ([(0, F.CVS_STATE_STATE, 1), (0, F.CVS_STATE_PHASE, 4)] ++ (List.range 18).map (fun k => (k, F.MEM_STK_STATUS_STATE, 1)))
     s.fld 0 F.CVS_STATE_STATE = 1 ∧ s.fld 0 F.CVS_STATE_PHASE = 4 ∧ (∀ k, k < 18 → s.fld k F.MEM_STK_STATUS_STATE = 1) ∧ s.boot.stage ≠ .late ∧
      { s with boot := { s.boot with stage := .late } }.boot.stage = .late ∧ (0 : BitVec 18) ≠ BitVec.allOnes 18) ∧
    (let s := st [(0, F.CVS_STATE_STATE, 2), (0, F.RST_BRINGUP_STEP, 9)]; s.fld 0 F.CVS_STATE_STATE = 2 ∧ s.fld 0 F.RST_BRINGUP_STEP = 9) := by decide +kernel

theorem witness_RetouchGoWhileCheckingIsDiscarded :
    Requester.pf0.manages = true ∧ (up [(0, F.CVS_RT_STATUS_CODE, 1)]).barOpen .pf0 F.CVS_RT_CTRL_GO.off = true ∧ (up [(0, F.CVS_RT_STATUS_CODE, 1)]).fld 0 F.CVS_RT_STATUS_CODE = 1 := by decide +kernel

theorem witness_RetouchesAreSubmittedCheckedAndCancelled :
    (let s := { up [(0, F.CVS_RT_STATUS_CODE, 2)] with cxl := { State.reset.cxl with msixOpen := NSet.add (vecKey 0 2) [] } }
     Requester.pf0.manages = true ∧ s.barOpen .pf0 F.CVS_RT_CTRL_GO.off = true ∧ s.fld 0 F.CVS_RT_STATUS_CODE ≠ 1 ∧ s.fld 0 F.CVS_RT_STATUS_CODE = 2 ∧ NSet.has (vecKey 0 2) s.cxl.msixOpen = true) ∧
    ((st [(0, F.CVS_RT_STATUS_CODE, 1)]).fld 0 F.CVS_RT_STATUS_CODE = 1 ∧ (st [(0, F.CVS_RT_STATUS_CODE, 1)]).fld 0 F.CVS_STATE_STATE ≠ 2) ∧
    (let s := up [(0, F.CVS_RT_STATUS_CODE, 1), (0, F.CVS_RT_LEN_LEN, 159)]
     s.fld 0 F.CVS_RT_STATUS_CODE = 1 ∧ s.fld 0 F.CVS_STATE_STATE = 2 ∧ s.fld 0 F.CVS_RT_LEN_LEN < 160) ∧
    (let s := up [(0, F.CVS_RT_STATUS_CODE, 1), (0, F.CVS_RT_LEN_LEN, 160)]
     let d := { s with cxl := { s.cxl with denied := NSet.add (hostPage 0 0) [] } }
     s.fld 0 F.CVS_RT_STATUS_CODE = 1 ∧ s.fld 0 F.CVS_STATE_STATE = 2 ∧ s.fld 0 F.CVS_RT_LEN_LEN = 160 ∧ s.hostUp = true ∧ s.translates 0 (s.fld64 0 F.CVS_RT_ADDR_LO_ADDR F.CVS_RT_ADDR_HI_ADDR) = true ∧
      d.hostUp = true ∧ d.translates 0 (d.fld64 0 F.CVS_RT_ADDR_LO_ADDR F.CVS_RT_ADDR_HI_ADDR) = false ∧
      (rtRecords (bl 160 []) 160).toOption.isNone = true ∧ (rtRecords (bl 176 [(0, 4, 0x48545452), (4, 2, 1), (0x1C, 2, 1), (0x20, 4, 176), (0xA0, 1, 1)]) 176).toOption.isSome = true) ∧
    (let s := up [(0, F.CVS_RT_PENDING_TYPES, 6)]
     s.barOpen .pf0 F.CVS_RT_CTRL_GO.off = true ∧ (s.fld 0 F.CVS_RT_PENDING_TYPES).testBit 1 = true ∧ (s.fld 0 F.CVS_RT_PENDING_TYPES).testBit 2 = true) := by decide +kernel

theorem witness_HostPushFillsTheMailbox :
    (let s := up [(0, F.TRU_MBX_STATUS_STATE, 1)]; Requester.pf0.manages = true ∧ s.barOpen .pf0 F.TRU_MBX_CTRL_START.off = true ∧ s.fld 0 F.TRU_MBX_STATUS_STATE = 1) ∧
    (let s := up [(0, F.TRU_MBX_STATUS_STATE, 2), (0, F.CVS_STATE_SOURCE, 2)]
     let a := { s with boot := { s.boot with stage := .header } }
     let b := { s with boot := { s.boot with stage := .table } }
     a.barOpen .pf0 F.TRU_MBX_CTRL_START.off = true ∧ a.fld 0 F.TRU_MBX_STATUS_STATE = 2 ∧ a.pushInRom = true ∧ b.fld 0 F.TRU_MBX_STATUS_STATE = 2 ∧ b.pushInRom = false ∧ b.pushInApply = true) := by decide +kernel

theorem witness_DebugGrantsGiveAndTakePowers :
    (Requester.pf0.manages = true ∧ (up []).barOpen .pf0 F.TRU_GRANT_CTRL_GO.off = true ∧ (up []).fld 0 F.CVS_STATE_STATE = 2 ∧ (up []).granted = false) ∧
    (let s := up [(0, F.TRU_GRANT_STATUS_CODE, 1)]
     s.fld 0 F.TRU_GRANT_STATUS_CODE = 1 ∧ s.hostUp = true ∧ s.translates 0 (s.fld64 0 F.TRU_GRANT_ADDR_LO_ADDR F.TRU_GRANT_ADDR_HI_ADDR) = true ∧
      (s.countUnits 0 F.CXL_EAS_HOST_RD_UNITS 65536 256).grantFault (bl 256 []) = some 0x10) ∧
    (let s := up [(0, F.TRU_GRANT_LEFT_S, 60)]; s.barOpen .pf0 F.TRU_GRANT_CTRL_GO.off = true ∧ s.granted = true) := by decide +kernel

theorem witness_SpdmAnswersFromTheIdentity :
    (let s := { up [(0, F.TRU_ID_STATE, 1)] with boot := { State.reset.boot with chain := [1] }, tru := { State.reset.tru with sess := [(2, true)] } }
     s.cxlRuns = true ∧ s.fld 0 F.CVS_STATE_STATE = 2 ∧ s.inSess 2 = true ∧ s.boot.chain ≠ [] ∧ s.fld 0 F.TRU_ID_STATE = 1) ∧
    (let s := st [(0, F.RST_BRINGUP_STEP, 5)]; s.cxlRuns = true ∧ s.fld 0 F.CVS_STATE_STATE ≠ 2) := by decide +kernel

theorem witness_SpdmSessionsOpenAndClose :
    let s := { up [(0, F.TRU_ID_STATE, 1)] with tru := { State.reset.tru with sess := [(0, true), (1, false)] } }
    s.cxlRuns = true ∧ s.fld 0 F.CVS_STATE_STATE = 2 ∧ s.fld 0 F.TRU_ID_STATE = 1 ∧ (List.range 4).find? (fun k => !s.tru.sess.any (fun p => decide (p.1 = k))) = some 2 ∧
      s.tru.sess.contains (1, false) = true ∧ s.inSess 0 = true ∧ (3 : Fin 4) ≠ 0 := by decide +kernel

theorem witness_PowerStatesAreEnteredAndLeft :
    (let s := up []
     s.tcIdle 0 = true ∧ s.qRuns = true ∧ s.tcHeld 0 = false ∧ s.tcPower 0 = 0 ∧ exitGate ≤ s.leastBudget (s.tcEasels 0)) ∧
    (let s := up [(0, F.PWR_TC_STATE_STATE 0, 1)]
     s.tcIdle 0 = true ∧ s.tcPower 0 = 1 ∧ exitPower ≤ s.leastBudget (s.tcEasels 0) ∧ NSet.has 0 s.pow.waking = false ∧ s.asleep (resNum (.tcore 0)) = true ∧
      NSet.has (resNum (.tcore 0)) { s.pow with waking := [0] }.waking = true) ∧
    (let s := up [(3, F.MEM_STK_STATUS_STATE, 3)]; s.fld 3 F.MEM_STK_STATUS_STATE = 3 ∧ exitRefresh ≤ s.leastBudget (s.stackEasels 3)) ∧
    (let s := up [(0, F.YZF_LINK_STATUS_MODE 2, 1), (0, F.YZF_LINK_STATUS_UP 2, 1)]
     s.fld 0 (F.YZF_LINK_STATUS_MODE 2) = 1 ∧ exitLane ≤ s.leastBudget (s.linkEasels 2) ∧ s.flag 0 (F.YZF_LINK_STATUS_UP 2) = true ∧ s.linkBusy 2 = false) ∧
    (let s := { up [(0, F.PWR_STK_SR_SR, 8)] with pow := { State.reset.pow with waking := [67] } }; s.asleep (64 + (3 : Fin 18)) = true ∧ NSet.has (64 + (3 : Fin 18).val) s.pow.waking = true) ∧
    (let s := vfs 1 (up []); s.barOpen (.vf 1) F.PWR_EAS_WAKE_US.off = true ∧ s.unitAt (.vf 1) F.PWR_EAS_WAKE_US.off = 1 ∧ ownsEas (.vf 1) 1 = true) := by decide +kernel

theorem witness_PumpValveAndHoldUpAreDriven :
    (let s := up [(0, F.CLM_CFG_T_SET, 80), (0, F.CLM_HOT_DIE_MAX, 321)]
     s.pinsTaken = true ∧ s.flag 0 F.CLM_DRIVE_ESCALATED = false ∧ s.flag 0 F.CLM_DRIVE_PUMP_FAIL = false ∧ 4 * s.fld 0 F.CLM_CFG_T_SET < s.fld 0 F.CLM_HOT_DIE_MAX) ∧
    (let s := up [(0, F.CLM_CFG_T_SET, 80), (0, F.CLM_HOT_DIE_MAX, 311), (0, F.CLM_CFG_D_MIN, 100), (0, F.CLM_DRIVE_LEVEL, 104)]
     s.pinsTaken = true ∧ s.fld 0 F.CLM_HOT_DIE_MAX + 8 < 4 * s.fld 0 F.CLM_CFG_T_SET ∧ s.fld 0 F.CLM_CFG_D_MIN < s.fld 0 F.CLM_DRIVE_LEVEL) ∧
    (let s := up [(0, F.CLM_CFG_T_SET, 80), (0, F.CLM_HOT_DIE_MAX, 312)]
     s.fld 0 F.CLM_HOT_DIE_MAX ≤ 4 * s.fld 0 F.CLM_CFG_T_SET ∧ 4 * s.fld 0 F.CLM_CFG_T_SET ≤ s.fld 0 F.CLM_HOT_DIE_MAX + 8) ∧
    (let s := { up [(0, F.CLM_DRIVE_ESCALATED, 1)] with pow := { State.reset.pow with calm := 100 } }; s.flag 0 F.CLM_DRIVE_ESCALATED = true ∧ 100 ≤ s.pow.calm) ∧
    (let s := up [(0, F.CLM_DRIVE_LEVEL, 1023)]; let s1 := (s.inject 201 atelier).2.setFld 0 F.CLM_PUMP_RPM 1199
     (1199 : BitVec 16).toNat < 1200 ∧ s.pinsTaken = true ∧ 50 ≤ pumpDuty (s1.fld 0 F.CLM_DRIVE_LEVEL) ∧ s1.flag 0 F.CLM_DRIVE_PUMP_FAIL = false) ∧
    (Requester.pf0.manages = true ∧ (up []).barOpen .pf0 F.CLM_DRIVE_LEVEL.off = true) ∧
    (let s := up [(0, F.CLM_HOLDUP_CFG_ON, 450), (0, F.CLM_HOLDUP_CFG_OFF, 480)]
     s.qRuns = true ∧ s.flag 199 F.FLT_INJSTAT_ARMED = false ∧ s.flag 200 F.FLT_INJSTAT_ARMED = false ∧ s.flag 192 F.FLT_INJSTAT_ARMED = false ∧ 40000 ≤ (48001 : BitVec 16).toNat ∧
      s.brace = false ∧ s.fld 0 F.PWR_SUP_STATUS_BELOW_WARN = 0 ∧ 100 * s.fld 0 F.CLM_HOLDUP_CFG_ON ≤ (48001 : BitVec 16).toNat ∧ 100 * s.fld 0 F.CLM_HOLDUP_CFG_OFF < (48001 : BitVec 16).toNat ∧
      (44999 : BitVec 16).toNat < 100 * s.fld 0 F.CLM_HOLDUP_CFG_ON) := by decide +kernel

theorem witness_TemperaturesAndAdmission :
    ((up [(0, F.CLM_CFG_HEADROOM, 5)]).qRuns = true ∧ (up [(0, F.CLM_CFG_HEADROOM, 5)]).dieLimit < 460 ∧ (∀ i, i < 64 → nth 0 (List.replicate 64 400) i ≤ (up [(0, F.CLM_CFG_HEADROOM, 5)]).dieLimit) ∧
      ∀ d, 206 ≤ d → d ≤ 210 → (up [(0, F.CLM_CFG_HEADROOM, 5)]).flag d F.FLT_INJSTAT_ARMED = false) ∧
    (∀ i, SMap.get (fun _ => 0) (up [(0, F.CLM_CFG_HEADROOM, 5)]).pow.dieHot i < 4) ∧
    ((up []).flag (203 + 17 / 6) F.FLT_INJSTAT_ARMED = false ∧ (up []).flag 211 F.FLT_INJSTAT_ARMED = false ∧
      1 ≤ SMap.get (fun _ => 0) ({ up [] with pow := { State.reset.pow with stkHot := [(17, 1)] } } : State).pow.stkHot 17) ∧
    ((up []).pinsTaken = true ∧ (up [(0, F.CLM_DRIVE_PUMP_FAIL, 1)]).flag 0 F.CLM_DRIVE_PUMP_FAIL = true ∧ (up []).flag 0 F.CLM_DRIVE_PUMP_FAIL = false) := by
  refine ⟨⟨by decide +kernel, by decide +kernel, by decide +kernel, fun d h1 h2 => ?_⟩, fun _ => Nat.zero_lt_succ _, by decide +kernel, by decide +kernel⟩
  interval_cases d <;> decide +kernel

theorem witness_RollbackAndFlashUpdate :
    (let u := up [(0, F.TRU_SVN_SVN, 5), (0, F.TRU_BOOT_SOURCE, 1), (0, F.TRU_BOOT_RESULT, 1)]
     let s := { u with regs := SMap.put (regKey 0 F.TRU_FUSE_LIFECYCLE.off) 0 u.regs }
     Requester.pf0.manages = true ∧ s.barOpen .pf0 F.TRU_BOOT_CTRL_PUSH_NEXT.off = true ∧ s.fld 0 F.TRU_FUSE_SVN_MIN < s.fld 0 F.TRU_SVN_SVN ∧ s.fld 0 F.TRU_BOOT_SOURCE = 1 ∧
      s.fld 0 F.TRU_BOOT_RESULT = 1 ∧ (0x3D : BitVec 8) ≠ 0x3C) ∧
    ((up []).barOpen .pf0 F.TRU_UPD_CTRL_GO.off = true ∧ (up []).fld 0 F.CVS_STATE_STATE = 2 ∧ (up []).fld 0 F.TRU_UPD_STATUS_CODE = 0) ∧
    (let s := up [(0, F.TRU_UPD_STATUS_CODE, 1)]
     s.fld 0 F.TRU_UPD_STATUS_CODE = 1 ∧ s.hostUp = true ∧ s.translates 0 (s.fld64 0 F.TRU_UPD_ADDR_LO_ADDR F.TRU_UPD_ADDR_HI_ADDR) = true ∧ s.fld 0 F.TRU_UPD_LEN_BYTES ≤ 0x7F00000 ∧
      (s.countUnits 0 F.CXL_EAS_HOST_RD_UNITS 65536 0).updateFault (subBlob (bl 64 []) 0 0) = some 0x11) ∧
    (up [(0, F.TRU_UPD_STATUS_CODE, 3)]).fld 0 F.TRU_UPD_STATUS_CODE = 3 := by decide +kernel

theorem witness_TimeOfDayStepsAreSetAndLand :
    (let s := up []
     s.runs .s = true ∧ s.barOpen .pf0 F.TOD_CTRL_SET.off = true ∧ s.softSource = true ∧ s.mayStep = true ∧ s.noCellRuns = true ∧ s.barOpen .pf0 F.TOD_FRAME_OFS_NS.off = true ∧
      (-5000000 : Int) ≤ (-5000000 : BitVec 32).toInt ∧ (-5000000 : BitVec 32).toInt ≤ 5000000 ∧ s.barOpen (.atelier0) F.TOD_NOW_FRAC_FRAC.off = true ∧ s.fld 0 F.TOD_CFG_SOURCE ≠ 2 ∧
      (up [(0, F.TOD_CFG_SOURCE, 1)]).softSource = false) ∧
    (let s := { at_ 1000 (up []) with time := { State.reset.time with step := some (.set 7) } }
     s.runs .s = true ∧ s.mayStep = true ∧ (s.tod : Int) % (1000 * 2 ^ 40) < (s.todIncr : Int) ∧ s.time.step = some (.set 7) ∧ s.noCellRuns = true ∧
      (up [(0, F.RAD_STATUS_CELLS, 1), (0, F.RAD_CELL_STATE_STATE, 2)]).noCellRuns = false) ∧
    (let s := at_ 50 (up [(0, F.PTP_ALM_CFG_EN 15, 1), (0, F.PTP_ALM_TIME_LO_NS 15, 50)])
     s.flag 0 (F.PTP_ALM_CFG_EN 15) = true ∧ s.fld64 0 (F.PTP_ALM_TIME_LO_NS 15) (F.PTP_ALM_TIME_HI_NS 15) ≤ s.nowNs ∧ s.fld 0 (F.PTP_ALM_PERIOD_NS 15) = 0 ∧
      s.flag (s.fld 0 (F.PTP_ALM_CFG_LINK 15)) F.STR_CH_CFG_ENABLED = false) := by decide +kernel

theorem witness_ClockStatesFollowTheirSource :
    (let s := { at_ (20 * secNs) (up [(0, F.TOD_CFG_SOURCE, 2), (0, F.TOD_STATE_STATE, tsAcquiring)]) with time := { State.reset.time with inBand := some (10 * secNs), ppsAt := some (19 * secNs) } }
     s.runs .s = true ∧ s.time.inBand = some (10 * secNs) ∧ s.todSt = tsAcquiring ∧ 10 * secNs + 10 * secNs ≤ s.nowNs ∧ s.srcValid (s.fld 0 F.TOD_CFG_SOURCE) = true) ∧
    (let s := fun st => at_ (20 * secNs) (up [(0, F.TOD_CFG_SOURCE, 2), (0, F.TOD_STATE_STATE, st)])
     (∀ k ∈ [tsAcquiring, tsLocked, tsFreerun], (s k).srcValid ((s k).fld 0 F.TOD_CFG_SOURCE) = false ∧ (s k).todSt = k ∧ (s k).runs .s = true)) ∧
    (let s := at_ (14401 * secNs) (up [(0, F.TOD_STATE_STATE, tsHoldover)])
     s.todSt = tsHoldover ∧ s.time.holdFrom + 14400 * secNs < s.nowNs ∧ s.nowNs < s.time.holdFrom + 65536 * secNs) ∧
    ((up [(0, F.TOD_CFG_SOURCE, 1)]).barOpen .pf0 F.TOD_CFG_SOURCE.off = true ∧ (up [(0, F.TOD_CFG_SOURCE, 1)]).fld 0 F.TOD_CFG_SOURCE ≠ 0) ∧
    (let s := at_ secNs (up [(0, F.PTP_PPS_CFG_OUT_EN, 1), (0, F.TOD_STATE_TX_OK, 1)])
     s.pinsTaken = true ∧ s.flag 0 F.PTP_PPS_CFG_OUT_EN = true ∧ s.flag 0 F.TOD_STATE_TX_OK = true ∧
      ((s.tod : Int) - sgn32 (s.fld 0 F.PTP_PPS_OFS_NS) * 2 ^ 40) % (secNs * 2 ^ 40) < (s.todIncr : Int) ∧ s.time.ppsSec ≠ some (s.ppsSecond s.nowNs)) ∧
    (let s := { at_ 10 (up []) with time := { State.reset.time with ppsEnd := some 10 } }; s.time.ppsEnd = some 10 ∧ 10 ≤ s.nowNs) ∧
    (let s := up [(0, F.PTP_SYNCE_CFG_MODE, 2), (0, F.PTP_SYNCE_CFG_FORCE_SUB, 31), (0, F.PTP_SYNCE_STATE_STATE, 1)]
     s.todSt ≠ tsHoldover ∧ s.syncInput = some 31 ∧ s.fld 0 F.PTP_SYNCE_STATE_STATE = 1) := by decide +kernel

/-- A port with PTP on its subport 0, in a state; its latest Sync is the two-step one of sequence 0. -/
def ptp (portSt : Nat) : State := up [(0, F.ETH_PORT_CFG_MODE, 1), (0, F.PTP_SUB_CFG_PTP_EN 0, 1), (0, F.PTP_SUB_CFG_SYNCE_EN 0, 1), (0, F.PTP_SUB_STATE_PORT_STATE 0, portSt), (0, F.PTP_CFG_DOMAIN, 0)]

theorem witness_PtpMessagesAreTakenAndSent :
    (let s := ptp 9; let d := List.replicate 58 0
     s.ptpOn 0 = true ∧ s.relayed d = false ∧ s.ownDomain d = true ∧ s.portSt 0 = 9 ∧ mTwoStep d = false ∧ (s.ptpSub 0).syncSeq = mSeq d ∧ (s.ptpSub 0).syncOrg = none) ∧
    (let s := (ptp 9).setPtpSub 0 { PtpSub.empty with reqTx := some 5, fwd := some 3 }
     let d := List.replicate 58 0 ++ s.portId 0
     s.ptpOn 0 = true ∧ s.relayed d = false ∧ s.ownDomain d = true ∧ s.portSt 0 = 9 ∧ (s.ptpSub 0).reqSeq = mSeq d ∧ mRequester d = s.portId 0 ∧ (s.ptpSub 0).reqTx = some 5 ∧
      (s.ptpSub 0).fwd = some 3 ∧ s.fld 0 F.TOD_CFG_SOURCE ≠ 1) ∧
    (let s := ptp 6; s.ptpOn 0 = true ∧ s.portSt 0 = 6 ∧ s.nowNs + 1000 ≤ 1000 ∧ s.subExists 0 = true ∧ s.flag 0 (F.PTP_SUB_CFG_SYNCE_EN 0) = true ∧ 999 < s.nowNs + 1000) ∧
    (up []).ptpOn 0 = false := by decide +kernel

theorem witness_LinkTrainsAndFunctionsReset :
    (let s := up [(1, F.EAS_CFG_EXISTS, 1), (2, F.EAS_CFG_EXISTS, 1)]
     s.cxlRuns = true ∧ ((8 : Fin 17).val = 4 ∨ (8 : Fin 17).val = 8 ∨ (8 : Fin 17).val = 16) ∧ s.fld 0 F.CXL_LINK_MODE = 2 ∧ s.cxl.vfs = 0 ∧ 1 ≤ 2 ∧ 2 ≤ s.totalVfs ∧ s.totalVfs < 3 ∧
      s.fld 0 F.CXL_LINK_MODE ≠ 0 ∧ s.hotChip = false) ∧
    (let s := up [(63, F.EAS_LIFE_STATE, lifeHeld)]; (63 : Fin 64).val ≠ 0 ∧ s.life (63 : Fin 64) = lifeHeld) ∧
    (7 ∈ [5, 7] ∧ 7 ∉ [5]) ∧ (up [(0, F.RST_REACH_HOT_CHIP, 1)]).hotChip = true := by decide +kernel

/-- Easel 1 running, with two units of bonded memory. -/
def tenant (l : List (Nat × Fld × Nat)) : State := up ([(1, F.EAS_LIFE_STATE, lifeReady), (1, F.EAS_CFG_EXISTS, 1), (1, F.MEM_EAS_SHARE_UNITS, 2), (1, F.MEM_EAS_MAPPED_UNITS, 2)] ++ l)

theorem witness_HostMemoryRequestsAndInterrupts :
    (let s := tenant []
     s.hostUp = true ∧ 131008 < 2 ^ 39 ∧ 131008 % 64 + (List.replicate 64 1).length ≤ 64 ∧ s.memShut (1 : Fin 64) = false ∧ s.inShare (1 : Fin 64) 131008 (List.replicate 64 1).length = true ∧
      s.frozen (1 : Fin 64) = false ∧ s.seqOn (1 : Fin 64) = false ∧ s.poison = [] ∧ s.flag (s.stackOf (1 : Fin 64) (131008 / 64 * 64 / 65536)) F.FLT_INJSTAT_ARMED = false ∧ s.memShut (0 : Fin 64) = true) ∧
    (st []).hostUp = false ∧
    (let s := { up [] with cxl := { State.reset.cxl with unsignalled := [(vecKey 1 1, 3)], msixOpen := [vecKey 1 1] } }
     SMap.get (fun _ => 0) s.cxl.unsignalled (vecKey (1 : Fin 64) (1 : Fin 2)) ≠ 0 ∧ NSet.has (vecKey (1 : Fin 64) (1 : Fin 2)) s.cxl.msixOpen = true ∧ s.ioOpen = true ∧ ((0 : Fin 64).val = 0 ∨ (71 : Fin 72).val < 4)) ∧
    (let s := up [(0, F.CXL_IDE_STATUS_CM_SECURE, 1)]; s.ideSecure (0 : Fin 4) = true ∧ s.flag 174 F.FLT_INJSTAT_ARMED = false ∧ s.barOpen .atelier0 F.CXL_IDE_POLICY_REQUIRE.off = true) := by decide +kernel

theorem witness_BondedMemoryIsServedAndReleased :
    (let s := tenant []
     s.inShare (1 : Fin 64) 65530 (List.replicate 12 1).length = true ∧ s.hitsPageList (1 : Fin 64) 65530 12 = false ∧ s.poison = [] ∧ s.seqOn (1 : Fin 64) = false ∧
      s.flag (s.stackOf (1 : Fin 64) (65530 / 64 * 64 / 65536)) F.FLT_INJSTAT_ARMED = false ∧ s.inShare (1 : Fin 64) 131071 2 = false) ∧
    ((up [(17, F.MEM_STK_STATUS_STATE, 3)]).fld (17 : Fin 18) F.MEM_STK_STATUS_STATE = 3 ∧ (up []).flag (17 : Fin 18) F.FLT_INJSTAT_ARMED = false) ∧
    (let s := vfs 1 (tenant [(1, F.MEM_EAS_REL_BASE_UNIT, 1), (1, F.MEM_EAS_REL_COUNT_UNITS, 1)])
     s.barOpen (.vf 1) F.MEM_EAS_REL_CTRL_GO.off = true ∧ s.unitAt (.vf 1) F.MEM_EAS_REL_CTRL_GO.off = (1 : Fin 64) ∧ ownsEas (.vf 1) (1 : Fin 64) = true ∧ s.flag (1 : Fin 64) F.MEM_EAS_REL_STATUS_BUSY = false ∧
      s.fld (1 : Fin 64) F.MEM_EAS_REL_BASE_UNIT + s.fld (1 : Fin 64) F.MEM_EAS_REL_COUNT_UNITS ≤ s.fld (1 : Fin 64) F.MEM_EAS_SHARE_UNITS) ∧
    (let s := vfs 1 (tenant [(1, F.MEM_EAS_REL_BASE_UNIT, 2), (1, F.MEM_EAS_REL_COUNT_UNITS, 1)])
     s.fld (1 : Fin 64) F.MEM_EAS_SHARE_UNITS < s.fld (1 : Fin 64) F.MEM_EAS_REL_BASE_UNIT + s.fld (1 : Fin 64) F.MEM_EAS_REL_COUNT_UNITS) := by decide +kernel

/-- Easel 1 selected by PF0 and in a state of its life. -/
def life (k : Nat) (l : List (Nat × Fld × Nat)) : State := (up ([(1, F.EAS_LIFE_STATE, k), (1, F.EAS_CFG_EXISTS, 1)] ++ l)).setSel .pf0 .eas 1

theorem witness_EaselLifecycleOperations :
    (let s := life lifeReady []
     Requester.pf0.manages = true ∧ s.barOpen .pf0 F.EAS_LIFE_CTRL_OP.off = true ∧ s.unitAt .pf0 F.EAS_LIFE_CTRL_OP.off = (1 : Fin 64) ∧ s.lifeCode (1 : Fin 64) ≠ lvProgress ∧ s.lifeCode (1 : Fin 64) ≠ lvAborted ∧
      (0xE4 : BitVec 8) ≠ 0xE5 ∧ (1 : Fin 64).val ≠ 0 ∧ s.life (1 : Fin 64) = lifeReady ∧ (s.seqEas (1 : Fin 64)).buildWaits = false ∧ s.wmZero (1 : Fin 64) = true ∧
      s.flag (1 : Fin 64) F.EAS_CTRL_ENABLE = false ∧ s.flag (1 : Fin 64) F.SEQ_EAS_CTRL_ENABLE = false ∧ s.flag (1 : Fin 64) F.EMB_EAS_CTRL_ENABLE = false ∧ hdrFormat (bl 0 []) 0 = false ∧ (Requester.vf 1).manages = false) ∧
    ((life lifeFrozen [(1, F.SEQ_EAS_STATUS_PHASE, 1)]).life (1 : Fin 64) = lifeFrozen ∧ (life lifeFrozen [(1, F.SEQ_EAS_STATUS_PHASE, 1)]).fld (1 : Fin 64) F.SEQ_EAS_STATUS_PHASE ≠ 0) ∧
    ((life lifeFreezing []).life (1 : Fin 64) = lifeFreezing ∧ (life lifeFreezing []).drained (1 : Fin 64) = true ∧ (life lifeFreezing [(1, F.EAS_STATUS_PARKED, 1)]).drained (1 : Fin 64) = false ∧
      (at_ (10 ^ 12) (life lifeFreezing [])).freezeOver (1 : Fin 64) = true) ∧
    (∀ k ∈ [lifeHeld, lifeSaving, lifeRestoring, lifeClearing], (life k []).life (1 : Fin 64) = k ∧ (life k []).lifeCode (1 : Fin 64) ≠ lvProgress) ∧
    ((life lifeHeld [(1, F.EAS_LIFE_HOLD, holdReset)]).flag (1 : Fin 64) F.EAS_LIFE_QUAR = false ∧ (life lifeHeld [(1, F.EAS_LIFE_HOLD, holdReset)]).fld (1 : Fin 64) F.EAS_LIFE_HOLD = holdReset) := by decide +kernel

theorem witness_InjectionHealthAndQuarantine :
    (let s := (dev (up [])).setSel .pf0 .fltInj 211
     (s.barOpen .pf0 F.FLT_INJARM_ARM.off = true ∧ s.unitAt .pf0 F.FLT_INJARM_ARM.off = 211 ∧ Requester.pf0.manages = true ∧ 211 < 212) ∧ s.power powInject = true) ∧
    ((up [(0, F.FLT_INJCFG_WHAT, 7)]).armRefused 0 = true) ∧ ((up [(0, F.FLT_INJCFG_WHAT, 1), (0, F.FLT_INJCFG_EASEL, 0x3F)]).armRefused 0 = false) ∧
    (60 ≤ (up [(0, F.FLT_HEALTH_DWELL_S, 59)]).fld 0 F.FLT_HEALTH_DWELL_S + 1 ∧ (up []).fld 0 F.FLT_HEALTH_DWELL_S + 1 < 60) ∧
    ((up []).barOpen .pf0 F.FLT_QUAR_CTRL_ENTER.off = true ∧ (up []).flag 0 F.FLT_HEALTH_QUARANTINED = false ∧ (up [(0, F.FLT_HEALTH_QUARANTINED, 1)]).flag 0 F.FLT_HEALTH_QUARANTINED = true ∧ (0x50 : BitVec 8) ≠ 0x51) :=
  ⟨⟨by decide +kernel, power_of_caps (by decide +kernel)⟩, by decide +kernel, by decide +kernel, by decide +kernel, by decide +kernel⟩

/-- Cell 0 in a state, of the FAPI queue pair 0, with a message taken by the device at a time. -/
def cell (k t : Nat) (l : List (Nat × Fld × Nat)) : State := { up ([(0, F.RAD_STATUS_CELLS, 1), (0, F.RAD_CELL_STATE_STATE, k)] ++ l) with fq := [(0, { FqSt.off with inbox := [t] })] }

theorem witness_CellRequestsOfTheL2 :
    (∀ k ∈ [csIdle, csConfigured, csRunning, csWaitSync, csHeld], let s := cell k 0 []; let u := s.setFqp (0 : Fin 64) { s.fqp (0 : Fin 64) with inbox := [] }
      (s.fqp (0 : Fin 64)).inbox = [0] ∧ u.cellOfId 0 = some 0 ∧ u.cellQp 0 = (0 : Fin 64) ∧ u.cellSt 0 = k) ∧
    (let s := at_ grid (cell csRunning 0 []); let u := s.setFqp (0 : Fin 64) { s.fqp (0 : Fin 64) with inbox := [] }
     (u.radCell 0).stopAfter.any (fun l => decide (l < u.slotOfSfn 0 0 5)) = false ∧ (0 : Int) < u.reqDeadline 0 (u.slotOfSfn 0 0 5) ∧ u.pduOk 0 (pdu 5 0) = true ∧ (pdu 5 0).kind ≠ 4 ∧
      (u.setRad 0 { RadCell.idle with stopAfter := some 4 }).radCell 0 = { RadCell.idle with stopAfter := some 4 } ∧
      (some 4).any (fun l => decide (l < u.slotOfSfn 0 0 5)) = true ∧ u.reqDeadline 0 (u.slotOfSfn 0 0 5) ≤ ((grid + 10 ^ 9 : Nat) : Int)) ∧
    ((up []).fqp (0 : Fin 64)).inbox = [] ∧
    (let s := up [(0, F.FQ_RQ_CFG_ENABLE 0, 1)]
     s.fqOn (0 : Fin 64) = true ∧ s.flag 0 (F.FQ_STATUS_BADMSG 0) = false ∧ s.hostUp = true ∧ s.translates 0 (s.fqLine (0 : Fin 64)) = true ∧ (up []).barOpen .pf0 (F.FQ_RQ_CFG_ENABLE 0).off = true ∧
      (up []).fqOn (0 : Fin 64) = false) := by decide +kernel

theorem witness_SlotsRunTheirCourse :
    (let s := at_ (grid + 10 ^ 7) (cell csRunning 0 [])
     (s.cellSt 0 = csRunning ∧ (s.radCell 0).lastInd ≠ some (s.slotAt 0 ((s.nowNs : Int) + s.reqLead 0 + 500000)) ∧ s.reqDeadline 0 5 ≤ s.nowNs ∧ s.mayPlan 0 5 = true ∧
      (item 3 [0] 0).engine = 3 ∧ s.itemOk 0 (item 3 [0] 0) = true ∧ (s.radSlot 0 5).covered [item 3 [0] 0] = true ∧ s.latestOk 0 0 [item 3 [0] 0] = true ∧
      (slot 5 { RadSlot.empty with planned := true } s).mayPlan 0 5 = false ∧
      s.symStart96 0 5 13 + (96 * s.ta4Max 0 : Nat) ≤ 96 * (s.nowNs : Int) ∧ NSet.has 13 (s.radSlot 0 5).closed = false ∧
      NSet.has 13 ((slot 5 { RadSlot.empty with closed := [13] } s).radSlot 0 5).closed = true ∧ (s.radCell 0).holdReq = false ∧ (s.radCell 0).stopAfter = none)) ∧
    (∀ k, (at_ (grid + 10 ^ 7) (cell csRunning 0 [])).cellCoresAt 0 k = 0) ∧
    (let v : RadSlot := { RadSlot.empty with planned := true, pdus := [pdu 4 9], items := [⟨item 2 [9, 0] 9, 0, 0, some (0, 8)⟩, ⟨item 3 [9] 9, 1, 0, some (0, 0)⟩, ⟨item 4 [9] 9, 2, 0, some (0, 0)⟩, ⟨item 5 [9] 9, 3, 0, some (0, 0)⟩] }
     let s := slot 5 v (at_ (grid + 10 ^ 7) (cell csRunning 0 []))
     (s.radSlot 0 5).pdus.find? (fun p => decide (p.kind = 4 ∧ p.handle = 9 ∧ 0 < p.cbs)) = some (pdu 4 9) ∧ s.flag (135 + s.cellPanel 0) F.FLT_INJSTAT_ARMED = false ∧
      (s.radSlot 0 5).items.zipIdx.find? (fun x => decide (x.1.item.engine = engDecoder ∧ x.1.item.words = [9, 0] ∧ x.1.stat = 0) && x.1.started.isSome) = some (⟨item 2 [9, 0] 9, 0, 0, some (0, 8)⟩, 0) ∧
      s.resDeadline 0 5 ≤ s.nowNs ∧ (s.radSlot 0 5).ended = false ∧ (s.radSlot 0 5).pdus ≠ [] ∧
      (∀ i ∈ [1, 2, 3], ∃ x ∈ (s.radSlot 0 5).items[i]?, x.stat = 0 ∧ x.started.isSome = true ∧ x.item.engine = i + 2)) ∧
    (let s := (at_ (grid + 10 ^ 7) (cell csHeld 0 [])).setRad 0 { RadCell.idle with harq := [(harqKey 1 0, ⟨[], 3, 0⟩)], ssbFrom := some 0 }
     s.harqBuf 0 (harqKey 1 0) = some ⟨[], 3, 0⟩ ∧ 3 + s.cellLe 0 0x22 1 ≤ s.slotNow 0 ∧ (s.radCell 0).ssbFrom = some 0 ∧ 0 + 1000000000 * s.cellLe 0 0x23 1 ≤ s.nowNs ∧ s.sendsUplane 0 5 = false) ∧
    (let s := slot 5 { RadSlot.empty with planned := true, pdus := [pdu 1 9] } (at_ (grid + 10 ^ 7) (cell csRunning 0 []))
     s.sendsUplane 0 5 = true ∧ (∀ p ∈ (s.radSlot 0 5).pdus, p.kind ≤ 3 → p.syms.testBit 0 = true → (s.radSlot 0 5).ready p = true)) := by
  refine ⟨by decide +kernel, fun k => ?_, by decide +kernel, by decide +kernel, by decide +kernel⟩
  have h : (at_ (grid + 10 ^ 7) (cell csRunning 0 [])).fld 0 F.RAD_CELL_MAP_SC_COUNT = 0 := by decide +kernel
  unfold State.cellCoresAt
  rw [h]
  rfl

/-- Easel 1's program on S-core 0, in its second slot, with an instruction word there; its registers and predicate P1 zero, P0 all ones. -/
def prog (w : Nat) : State :=
  let s := up []
  { s with sc := [(0, { ScSt.empty with tenant := some { ScCtx.start ⟨7, 1, [1], false, 0, 0, false, false⟩ with slot := 1 }, running := some false })] }.writeBytes (pmemKey 0 1 4) (leBytes 4 w)

def progCtx : ScCtx := { ScCtx.start ⟨7, 1, [1], false, 0, 0, false, false⟩ with slot := 1 }

theorem prog_runs : ∀ op ∈ List.range 0x2D, (prog (op * 2 ^ 26)).scGo 0 = some progCtx ∧ (prog (op * 2 ^ 26)).scWord 0 progCtx.cmd.easel progCtx.pc progCtx.slot = op * 2 ^ 26 ∧ wOp (op * 2 ^ 26) = op := by
  decide +kernel

theorem witness_VectorInstructionsWriteTheirLanes : (up []).scGo 0 = none ∧
    ∀ op ∈ [0, 1, 2, 7, 8, 9, 0xA, 0xB, 0xC, 0xD, 0x15], (prog (op * 2 ^ 26)).scGo (0 : Fin 192) = some progCtx ∧ wOp (op * 2 ^ 26) = op := by decide +kernel

theorem witness_AccumulatingInstructionsAddToTheirAccumulator :
    ∀ op ∈ [3, 4, 5, 6, 0xE], (prog (op * 2 ^ 26)).scGo (0 : Fin 192) = some progCtx ∧ (prog (op * 2 ^ 26)).scWord (0 : Fin 192) progCtx.cmd.easel progCtx.pc progCtx.slot = op * 2 ^ 26 ∧ wOp (op * 2 ^ 26) = op := by
  decide +kernel

theorem witness_LoadsAndStoresReachTheDataShare :
    (∀ op ∈ [0x10, 0x11, 0x12, 0x13, 0x14], let s := prog (op * 2 ^ 26)
      s.scGo (0 : Fin 192) = some progCtx ∧ wOp (op * 2 ^ 26) = op ∧ s.flag (132 + (0 : Fin 192) / 64) F.FLT_INJSTAT_ARMED = false ∧ s.poisoned (dmemKey 0 1 0) 64 = false) ∧
    (let s := { prog (0x10 * 2 ^ 26) with poison := [dmemKey 0 1 0 / 64] }; s.scGo (0 : Fin 192) = some progCtx ∧ s.poisoned (dmemKey 0 1 0) 64 = true) := by decide +kernel

theorem witness_ScalarAndControlInstructionsIssue :
    (∀ op ∈ (List.range 13).map (· + 0x20), let w := op * 2 ^ 26; (prog w).scGo (0 : Fin 192) = some progCtx ∧ wOp w = op ∧ (progCtx.p (wPred w)).testBit 0 = true) ∧
    (let w := 0x20 * 2 ^ 26 + 2 ^ 22; (progCtx.p (wPred w)).testBit 0 = false ∧ wOp w = 0x20) ∧ (∀ k ∈ [0, 1, 2, 3], wBits (0x27 * 2 ^ 26 + k * 2 ^ 20) 20 2 = k ∧ wOp (0x27 * 2 ^ 26 + k * 2 ^ 20) = 0x27) ∧
    (progCtx.count (0x29 * 2 ^ 26 + 2 ^ 13) = 0 ∧ progCtx.count (0x29 * 2 ^ 26) ≠ 0) ∧
    (let s := (prog (0x2A * 2 ^ 26)).setSem (semId 0 false) 1; s.semCount (semId 0 false) ≠ 0 ∧ s.semWaiters (semId 0 false) = [] ∧ s.scGo (0 : Fin 192) = some progCtx) ∧
    (prog (0x2A * 2 ^ 26)).semCount (semId 0 false) = 0 := by decide +kernel

/-- A T-core command of easel 1 that is granted, with two units of scratchpad: opcode, word 1, word 2, word 3, word 4. -/
def tcmd (op w1 w2 w3 w4 : Nat) : Cmd := ⟨7, 1, [op, w1, w2, w3, w4], false, 0, 0, false, false⟩
def tcs (c : Cmd) : State := { up [(ce 0 1, F.TC_EAS_SP_SHARE_UNITS, 2), (ce 0 1, F.TC_EAS_SP_MAPPED_UNITS, 2)] with tc := [(0, { TcSt.empty with granted := [c] })] }

theorem tcs_clean (a i : Nat) : (tcs (tcmd 1 1 0x10001 4 0)).wgtByte (0 : Fin 48) (tcmd 1 1 0x10001 4 0) a i < 256 := by
  have h : ((tcs (tcmd 1 1 0x10001 4 0)).tcore (0 : Fin 48)).isWarm (tcmd 1 1 0x10001 4 0) a = false := rfl
  have p : (tcs (tcmd 1 1 0x10001 4 0)).poisoned (scratchKey (0 : Fin 48) 1 i) 1 = false := rfl
  have e : (tcmd 1 1 0x10001 4 0).easel = 1 := rfl
  simp only [State.wgtByte, h, e, p, Bool.false_and, Bool.false_eq_true, if_false, Nat.add_zero]
  exact BitVec.isLt _

theorem witness_TensorCommandsLaunch :
    let finds := fun (c : Cmd) => (tcs c).findLaunch (0 : Fin 48) (fun d => decide (d.opcode = c.opcode)) [] ((tcs c).tcore (0 : Fin 48)).granted = some c
    (∀ op ∈ [1, 2, 5], finds (tcmd op 0 0 0 0) ∧ (tcs (tcmd op 0 0 0 0)).tcCheck (0 : Fin 48) (tcmd op 0 0 0 0) = 0x10) ∧
    (∀ op ∈ [3, 4], finds (tcmd op 0 0 0 0xFFFF) ∧ (tcs (tcmd op 0 (2 ^ 13) 0 0)).tcCheck (0 : Fin 48) (tcmd op 0 (2 ^ 13) 0 0) = 0x10) ∧
    (∀ c ∈ [tcmd 4 0 0 0 0, tcmd 5 1 0 0 0, tcmd 3 0 0 0 0x0100, tcmd 2 1 0 0 0, tcmd 2 1 0 4 0, tcmd 1 1 0 4 0, tcmd 1 1 0x10001 4 0], finds c ∧ (tcs c).tcCheck (0 : Fin 48) c = 0) ∧
    (let c := tcmd 1 1 0x10001 4 0; c.m ≠ 0 ∧ c.n ≠ 0 ∧ c.k ≠ 0 ∧ (tcs c).poison = [] ∧ (tcs c).flag (36 + (0 : Fin 48)) F.FLT_INJSTAT_ARMED = false ∧ (tcs c).flag (84 + (0 : Fin 48)) F.FLT_INJSTAT_ARMED = false) := by decide +kernel

/-- Easel 1 holds two commands that are not complete, with core 0 of either kind in a state of its own. -/
def endsAt (tc : TcSt) (sc : ScSt) : State :=
  let s := up [(0, F.SC_LIMITS_REP_CEIL, 100), (ce 0 1, F.SC_EAS_PM_SHARE, 1), (ce 0 1, F.SC_EAS_PM_MAPPED, 1), (ce 0 1, F.SC_EAS_DM_SHARE, 1), (ce 0 1, F.SC_EAS_DM_MAPPED, 1)]
  { s with tc := [(0, tc)], sc := [(0, sc)], sched := { s.sched with outstanding := [(1, [7, 8])] } }

def scc (w0 w1 : Nat) : Cmd := ⟨7, 1, [w0, w1], false, 0, 0, false, false⟩

theorem witness_EndsOfCoreCommandsPostTheirRecords :
    (∀ ends ∈ [[(⟨0, 0, 0, []⟩ : GroupEnd)], [⟨0, 0, 0, []⟩, ⟨1, 0, 0, []⟩]], let r : TcRun := ⟨tcmd 1 1 0x10001 4 0, ends⟩
      let s := endsAt { TcSt.empty with running := [r] } ScSt.empty
      s.flag 1 F.EAS_CTRL_ENABLE = false ∧ (∀ d ∈ (s.tcore (0 : Fin 48)).granted, d.id ≠ 7) ∧ (s.tcore (0 : Fin 48)).running.find? (fun x => decide (x.cmd.id = 7)) = some r ∧
        r.ends.find? (fun x => decide (x.group = 0)) = some ⟨0, 0, 0, []⟩ ∧ r.cmd.radio = false ∧ r.cmd.easel = 1 ∧ (r.ends.filter (fun x => decide (x.group ≠ 0)) = [] ↔ ends.length = 1) ∧
        r.cmd.signalEn = false ∧ r.cmd.stepEnd = false ∧ (∃ i ∈ s.live 1, i ≠ 7) ∧ SMap.get (fun _ => []) s.sched.marks 1 = []) ∧
    (let x : ScCtx := { ScCtx.start (scc 1 0) with ended := some (0, 5) }; let s := endsAt TcSt.empty { ScSt.empty with tenant := some x, running := some false }
      (s.score (0 : Fin 192)).cur = some x ∧ x.cmd.radio = false ∧ x.cmd.easel = 1 ∧ x.cmd.scSignalEn = false ∧ x.cmd.stepEnd = false ∧ x.cmd.id = 7 ∧ x.ended = some (0, 5) ∧ 0 ≠ 0x14 ∧
        (∃ i ∈ s.live 1, i ≠ 7)) ∧
    (let x : ScCtx := ScCtx.start (scc 1 0); let s := (endsAt TcSt.empty { ScSt.empty with tenant := some x, running := some false }).writeBytes (pmemKey 0 1 12) (leBytes 4 (opRepeat * 2 ^ 26 + 0x1FFF))
      s.scGo (0 : Fin 192) = none ∧ x.slot = 0 ∧ x.cmd.opcode = 1 ∧ x.ended = none ∧ (s.score (0 : Fin 192)).halted = false ∧ s.scExcept (0 : Fin 192) x = none ∧ s.scCeiling (0 : Fin 192) x = true) := by decide +kernel

theorem witness_SignalCoresStartSwitchAndHalt :
    (∀ op ∈ [1, 3, 4, 6], let c := scc op 5; let s := endsAt TcSt.empty { ScSt.empty with granted := [c] }
      s.scFind (0 : Fin 192) (fun d => decide (d.opcode = op)) [] (s.score (0 : Fin 192)).granted = some c ∧ s.scCheck (0 : Fin 192) c = 0 ∧ c.scArg 2 % 2 = 0 ∧
        s.flag (132 + (0 : Fin 192) / 64) F.FLT_INJSTAT_ARMED = false ∧ s.poisoned (dmemKey 0 1 (c.scArg 0)) (16 * c.scArg 1) = false) ∧
    (let c := { scc 1 5 with id := 8, easel := 0, radio := true }; let x := ScCtx.start (scc 1 (2 ^ 12)); let s := endsAt TcSt.empty { ScSt.empty with tenant := some x, running := some false, granted := [c] }
     (s.score (0 : Fin 192)).running = some false ∧ (s.score (0 : Fin 192)).tenant = some x ∧ (s.score (0 : Fin 192)).granted.find? (·.radio) = some c ∧ x.cmd.opcode = 1 ∧ x.slot = 0 ∧ x.delay = none ∧
        x.loops = [] ∧ x.ended = none ∧ (s.score (0 : Fin 192)).radio = none ∧ (s.score (0 : Fin 192)).halted = false ∧ s.scExcept (0 : Fin 192) x = none ∧ s.scCeiling (0 : Fin 192) x = false ∧
        c.radio = true ∧ c.opcode = 1) ∧
    (let x := ScCtx.start (scc 1 0); let s := dev (endsAt TcSt.empty { ScSt.empty with tenant := some x, running := some false })
     (s.score (0 : Fin 192)).cur = some x ∧ x.overrunDue = true ∧ s.tru.caps.testBit powHalt = true ∧ (s.score (0 : Fin 192)).halted = false) ∧
    (let x := { ScCtx.start (scc 1 0) with slot := 1 }; let s := endsAt TcSt.empty { ScSt.empty with tenant := some x, running := some false }
     (s.score (0 : Fin 192)).cur = some x ∧ ¬ (x.slot = 0 ∧ x.delay = none ∧ x.loops = [])) := by decide +kernel

/-- Channel 5 of easel 1 on panel 0, enabled, in a state of its own. -/
def chn (c : Chan) (l : List (Nat × Fld × Nat)) : State :=
  let s := vfs 2 (tenant ([(5, F.STR_CH_CFG_EASEL, 1), (5, F.STR_CH_CFG_ENABLED, 1)] ++ l))
  ({ s with str := { s.str with chans := [(5, c)] } }.setSel (.vf 1) .strCh 5).setSel (.vf 2) .strCh 5

/-- A started stroke of one instruction, of a descriptor of 64 zeros with some numbers in it. -/
def strx (i : SInstr) (d : List (Nat × Nat × Nat)) : StrExec :=
  let b := bl 64 d
  { StrExec.begin ((List.range 64).map b.byte) 0 with stroke := [i], started := true }

def strRun (hand : List (List Nat)) : StrRun := ⟨⟨0, 3, false, .register⟩, 7, hand, 0, 0, none, false, false, false⟩

/-- The channel whose stroke stands at an instruction. -/
def strAt (i : SInstr) : State := chn { Chan.idle with run := some (strRun []), exec := some (strx i []), thread := some 63 } []

theorem witness_StrokeInstructionsRun :
    ((chn Chan.idle []).chan (5 : Fin 2048)).thread = none ∧
    (∀ i ∈ [⟨1, 0x35, 0, 0, 4, 8⟩, ⟨1, 0, 0, 0, 2, 0⟩, ⟨2, 0, 0, 65536, 0, 0⟩, ⟨2, 0, 0, 65540, 0, 0⟩, ⟨3, 0, 0, 64, 0, 0⟩, ⟨3, 1, 0, 64, 0, 0⟩, ⟨3, 0, 0, 65, 0, 0⟩, ⟨4, 0x05, 20, 0, 0, 0⟩, ⟨4, 0x1D, 0, 0, 0, 0⟩, ⟨4, 0, 21, 0, 0, 0⟩,
        ⟨6, 0, 0, 4, 0xFFFFFFFF, 0⟩, ⟨6, 1, 0, 0, 0, 0⟩, ⟨6, 0, 0, 2, 0, 0⟩, ⟨7, 0, 0, 16777216, 0, 0⟩, ⟨7, 0, 0, 1, 0, 0⟩, ⟨7, 0x30, 0, 9, 0, 0⟩, ⟨8, 0, 5, 0, 0, 0⟩, ⟨8, 0, 6, 0, 0, 0⟩, ⟨9, 0, 5, 0, 0, 0⟩, ⟨10, 0, 0, 0, 0, 0⟩, ⟨15, 0, 0, 0, 0, 0⟩],
      let s := strAt i
      (s.chan (5 : Fin 2048)).thread = some 63 ∧ (s.chan (5 : Fin 2048)).exec = some (strx i []) ∧ (strx i []).started = true ∧ (strx i []).stroke[(strx i []).pc]? = some i ∧
        (s.chan (5 : Fin 2048)).run = some (strRun []) ∧ (strRun []).hand = []) ∧
    ((∀ b ∈ [true, false], (if b then (strx ⟨3, 0, 0, 64, 0, 0⟩ []).dstSpace else (strx ⟨3, 0, 0, 64, 0, 0⟩ []).srcSpace) ≠ 4) ∧ (strx ⟨4, 5, 20, 0, 0, 0⟩ []).src.gather = none ∧
      SMap.get (fun _ => 0) (strx ⟨7, 0, 0, 1, 0, 0⟩ []).loops 0 + 1 < 16777216 ∧ 1 ≤ SMap.get (fun _ => 0) (strx ⟨7, 0, 0, 1, 0, 0⟩ []).loops 0 + 1 ∧
      fieldLe (strx ⟨7, 0x30, 0, 9, 0, 0⟩ []).desc 0x34 4 = 0) ∧
    (let s := strAt ⟨8, 0, 5, 0, 0, 0⟩
     s.ownsLink (s.chEasel 5) 5 = true ∧ s.ownsLink (s.chEasel 5) 6 = false ∧ s.chOps 5 = [] ∧ s.flag 148 F.FLT_INJSTAT_ARMED = false ∧
      ({ s with sched := { s.sched with granted := [.channel 5] } } : State).takeGranted (.channel (5 : Fin 2048)) = true) ∧
    (let o : YzOp := ⟨0, 1, .chan 5 0, 0, 0, ⟨2, 0, 0, 0, 0, []⟩, [], .flight, false, true⟩; ({ strAt ⟨9, 0, 5, 0, 0, 0⟩ with yz := { State.reset.yz with ops := [o] } } : State).chOps 5 ≠ []) ∧
    (let i : SInstr := ⟨11, 0, 6, 1, 0, 0⟩; let s := (chn { Chan.idle with run := some (strRun []), exec := some (strx i []), thread := some 0 } [(6, F.STR_CH_CFG_EASEL, 1), (6, F.STR_CH_CFG_ENABLED, 1)])
     s.ownsLink (s.chEasel 5) i.b = true ∧ 0 < i.c ∧ i.c < 65536 ∧ i.b ≠ (5 : Fin 2048).val ∧ (s.chan i.b).run = none ∧ (strx i []).stroke[(strx i []).pc]? = some i) := by decide +kernel

theorem witness_ChannelsAreArmedFedAndServed :
    (let s := chn Chan.idle []
     s.str.finished = [] ∧ (∀ o ∈ [F.STR_CH_CTRL_ARM.off, F.STR_CH_SEM_FULL.off], ∀ v ∈ ([1, 2] : List (Fin 64)), s.barOpen (.vf v) o = true ∧ s.unitAt (.vf v) o = (5 : Fin 2048).val) ∧
      s.mayCommand (.vf 1) (5 : Fin 2048) = true ∧ s.mayCommand (.vf 2) (5 : Fin 2048) = false ∧ (Requester.vf 2).manages = false ∧ s.semWaiters (2 * (5 : Fin 2048)) = [] ∧ s.semWaiters (2 * (5 : Fin 2048) + 1) = []) ∧
    (let a : Arm := ⟨0, 3, false, .register⟩
     ∀ c ∈ [Chan.idle, { Chan.idle with run := some (strRun []) }, { Chan.idle with run := some (strRun []), pend := some a }], let s := chn c [(5, F.STR_CH_ARM_CNT_COUNT, 3)]
      s.chan (5 : Fin 2048) = c ∧ s.fld 5 F.STR_CH_ARM_CNT_COUNT ≠ 0) ∧
    (let x := strx ⟨15, 0, 0, 0, 0, 0⟩ []; let s := chn { Chan.idle with run := some (strRun []), exec := some x, halt := some 0x13 } []
     (s.chan 5).halt = some 0x13 ∧ (s.chan 5).exec = some x ∧ (s.chan 5).failed = [] ∧ (∀ o ∈ s.yz.ops, o.sent = true) ∧ (s.chan 5).run = some (strRun []) ∧ (strRun []).hand = [] ∧
      (strRun []).arm.origin ≠ .engine) ∧
    (let s := { up [] with sched := { State.reset.sched with signals := [4095] } }
     (4095 : BitVec 12).toNat ∈ s.sched.signals ∧ s.semWaiters 4095 = [] ∧ s.semCount 4095 < 65535 ∧ (4094 : BitVec 12).toNat ∉ s.sched.signals) ∧
    (let r := strRun []; let s := chn { Chan.idle with run := some r } []; let k := min 16 (r.arm.count - r.fetched); let a := r.arm.addr + 64 * r.fetched
     (s.chan 5).run = some r ∧ r.hand = [] ∧ r.ending = none ∧ r.arm.host = false ∧ r.fetched < r.arm.count ∧ s.inShare 1 a (64 * k) = true ∧ s.poison = [] ∧ s.seqOn 1 = false ∧
      s.flag (s.stackOf 1 (a / 64 * 64 / 65536)) F.FLT_INJSTAT_ARMED = false) ∧
    (let s := chn { Chan.idle with parked := true } []; (s.chan 5).parked = true ∧ s.chOps 5 = []) ∧
    (let s := chn Chan.idle []
     let s := { s with str := { s.str with ready := [5] } }
     s.nextForThread 0 = some 5 ∧ s.fld 5 F.STR_CH_CFG_PANEL = 0 ∧ (s.chan 5).thread = none ∧ (s.chan 5).halt = none ∧ (s.holders 0).length < 64 ∧ (∀ m ∈ s.holders 0, (s.chan m).thread ≠ some 63) ∧ s.threadQuota 5 = true) ∧
    (let x := { StrExec.begin (strx ⟨0, 0, 0, 0, 0, 0⟩ [(8, 1, 1), (9, 1, 1)]).desc 0 with index := 0 }; let s := (chn { Chan.idle with run := some (strRun []), exec := some x, thread := some 0 } []).writeBytes (bondKey 1 0) [15]
     (s.chan 5).thread ≠ none ∧ (s.chan 5).exec = some x ∧ x.started = false ∧ s.descCheck 1 x = 0 ∧ x.waitWord.testBit 11 = false ∧ x.lib = false ∧ 256 * fieldLe x.desc 4 4 = 0 ∧
      upToEnd 32 (cutInstrs 32 ((List.range 512).map (fun i => (s.byte (bondKey 1 (0 + i))).toNat))) = some [⟨15, 0, 0, 0, 0, 0⟩] ∧ strokeOk [⟨15, 0, 0, 0, 0, 0⟩] = true ∧ s.inShare 1 0 16 = true) ∧
    (let x := strx ⟨15, 0, 0, 0, 0, 0⟩ []; let s := chn { Chan.idle with run := some (strRun []), drain := [x.done, { x.done with index := 1 }] } []
     let s := { s with sched := { s.sched with outstanding := [(1, [7, 20])] } }
     (s.chan 5).drain = x.done :: [{ x.done with index := 1 }] ∧ s.descOps 5 x.done.index = [] ∧ x.done.status = 0 ∧ (signalWord x.done.desc).testBit 11 = false ∧ fieldLe x.done.desc 2 2 = 0 ∧
      (∃ i ∈ s.live 1, i ≠ (strRun []).base + x.done.index) ∧ SMap.get (fun _ => []) s.sched.marks 1 = []) := by refine ⟨?_, ?_, ?_, ?_, ?_, ?_, ?_, ?_, ?_⟩ <;> decide +kernel

theorem witness_MovesCopyZeroAndWait :
    ((chn Chan.idle []).chan (5 : Fin 2048)).thread = none ∧
    (let x := { strx ⟨5, 0, 0, 0, 0, 0⟩ [(8, 1, 1), (9, 1, 1), (0x18, 8, 0), (0x20, 8, 1024)] with run := 256 }; let s := chn { Chan.idle with run := some (strRun []), exec := some x, thread := some 0 } []
     (s.chan 5).thread = some 0 ∧ (s.chan 5).exec = some x ∧ x.started = true ∧ x.stroke[x.pc]? = some ⟨5, 0, 0, 0, 0, 0⟩ ∧ x.reqs = 0 ∧ x.counts.foldl (· * ·) 1 = 1 ∧ x.src.gather = none ∧ x.dst.gather = none ∧
      x.src.wrap = 0 ∧ x.dst.wrap = 0 ∧ (∀ o ∈ s.yz.ops, o.sent = true) ∧ 4 ≤ x.run ∧ x.run ≤ 256 ∧ x.dstSpace = 1 ∧ (((x.dstBase : Int) + x.dst.cur) % 2 ^ 64).toNat = 1024 ∧ 1024 % 4 = 0 ∧ s.inShare 1 1024 x.run = true ∧
      s.poison = [] ∧ s.seqOn 1 = false ∧ x.srcSpace = 1 ∧ (((x.srcBase : Int) + x.src.cur) % 2 ^ 64).toNat = 0 ∧ s.inShare 1 0 x.run = true ∧ s.flag (s.stackOf 1 0) F.FLT_INJSTAT_ARMED = false ∧ x.srcSpace ≠ 5 ∧
      (s.chan 5).run = some (strRun []) ∧ (strRun []).hand = []) ∧
    (let x := strx ⟨5, 0, 0, 0, 0, 0⟩ [(9, 1, 1)]; x.srcSpace = 0) ∧ (let x := strx ⟨5, 0, 0, 0, 0, 0⟩ [(8, 1, 1), (9, 1, 1)]; x.srcSpace ≠ 0 ∧ x.run = 0) ∧
    (let x := { strx ⟨5, 0, 0, 0, 0, 0⟩ [(8, 1, 4), (9, 1, 1)] with run := 4 }; let s := chn { Chan.idle with run := some (strRun []), exec := some x, thread := some 0 } []
     4 ≤ x.run ∧ x.run ≤ 256 ∧ x.srcSpace = 4 ∧ x.dstSpace = 1 ∧ (s.palQ x.srcTarget).readable < x.run) ∧
    (let x := { strx ⟨5, 0, 0, 0, 0, 0⟩ [(8, 1, 4), (9, 1, 4), (0x10, 4, 1)] with run := 4 }; let s := (chn { Chan.idle with run := some (strRun []), exec := some x } [(5, F.STR_CH_STATE_STATE, 4), (1, F.STR_CH_PAL_LIM_CAP, 1), (1, F.STR_CH_PAL_LIM_MIN, 1)])
     let s := { s with pal := [(0, ⟨0, [1, 2, 3, 4]⟩)] }
     (s.chan 5).exec = some x ∧ s.fld 5 F.STR_CH_STATE_STATE = 4 ∧ x.srcSpace = 4 ∧ 0 < (s.palQ x.srcTarget).readable ∧ s.palBusy 5 x.srcTarget = false ∧ x.dstSpace = 4 ∧
      s.palCanGrow x.dstTarget ((s.palQ x.dstTarget).held + 1) = true) ∧
    (chn Chan.idle []).fld 5 F.STR_CH_STATE_STATE ≠ 4 := by refine ⟨?_, ?_, ?_, ?_, ?_, ?_, ?_⟩ <;> decide +kernel

/-- Easel 1's submission ring of four entries, with a fetch waiting. -/
def ring (l : List (Nat × Fld × Nat)) : State :=
  (vfs 2 (tenant ([(1, F.EAS_CTRL_ENABLE, 1), (1, F.EAS_SQ_SIZE_SIZE, 2), (1, F.EAS_CQ_SIZE_SIZE, 2), (1, F.EAS_SQ_TAIL_TAIL, 1), (5, F.STR_CH_CFG_EASEL, 1), (5, F.STR_CH_CFG_ENABLED, 1)] ++ l))).setSel .pf0 .eas 1

/-- The 128 bytes of an entry. -/
def sqe (l : List (Nat × Nat × Nat)) : List Nat := (List.range 128).map (bl 128 l).byte

theorem witness_SubmissionRingsAreEnabledAndAdmitted :
    (let s := ring []
     (∀ req ∈ [Requester.pf0, .vf 1], ∀ o ∈ [F.EAS_SQ_TAIL_TAIL.off, F.EAS_CTRL_ENABLE.off, F.EAS_CQ_HEAD_HEAD.off], s.barOpen req o = true ∧ s.unitAt req o = (1 : Fin 64).val) ∧
      ownsEas .pf0 1 = false ∧ ownsEas (.vf 1) 1 = true ∧ 2 ^ s.fld 1 F.EAS_SQ_SIZE_SIZE ≤ (4 : BitVec 16).toNat ∧ (3 : BitVec 16).toNat < 2 ^ s.fld 1 F.EAS_SQ_SIZE_SIZE ∧
      2 ^ s.fld 1 F.EAS_CQ_SIZE_SIZE ≤ (4 : BitVec 16).toNat ∧ (3 : BitVec 16).toNat < 2 ^ s.fld 1 F.EAS_CQ_SIZE_SIZE ∧ SMap.get (fun _ => []) s.sched.undelivered 1 = [] ∧
      (ring [(1, F.EAS_CTRL_ENABLE, 0)]).flag 1 F.EAS_CTRL_ENABLE = false ∧ s.flag 1 F.EAS_CTRL_ENABLE = true ∧ s.ringNote (sqRing 1) ≠ 1) ∧
    (let s := ring []; s.sqWaiting 1 = true ∧ s.flag 1 F.EAS_SQ_SIZE_SPACE = false ∧ s.hostUp = true ∧ s.translates 1 (s.sqAddr 1) = true) ∧
    (let s := ring [(1, F.EAS_SQ_SIZE_SPACE, 1)]
     s.sqWaiting 1 = true ∧ s.flag 1 F.EAS_SQ_SIZE_SPACE = true ∧ s.sqAddr 1 = 0 ∧ s.inShare 1 0 128 = true ∧ s.poison = [] ∧ s.seqOn 1 = false ∧ s.flag (s.stackOf 1 0) F.FLT_INJSTAT_ARMED = false) ∧
    (∀ k ∈ [1, 2, 3], let d := sqe [(0, 1, k), (2, 2, 5), (24, 2, 3), (26, 1, 0)]
      nth 0 d 0 = k ∧ (ring []).entryRefused 1 (if k = 3 then d else sqe [(0, 1, k), (2, 2, 5)]) = none ∧ kindKnown k = true) ∧
    (∀ c ∈ [(1, F.TC_EAS_QLIMIT_SLOTS), (2, F.SC_EAS_QLIMIT_SLOTS)], (ring []).queueRoom 1 c.1 5 = false ∧ (ring [(ce 5 1, c.2, 1)]).queueRoom 1 c.1 5 = true) ∧
    (let d := sqe [(0, 1, 1), (1, 1, 1)]; let s := ring [(1, F.EAS_CQ_SIZE_SIZE, 0)]
     nth 0 d 0 = 1 ∧ s.entryRefused 1 d = some 0x10 ∧ s.cqFull 1 = true ∧ SMap.get (fun _ => []) s.sched.undelivered 1 = []) ∧
    (let d := sqe [(0, 1, 9)]; kindKnown (nth 0 d 0) = false ∧ (ring []).entryRefused 1 d = some 0x10) ∧
    (fieldLe (sqe [(0, 1, 3), (2, 2, 5), (24, 2, 3)]) 24 2 ≠ 0 ∧ fieldLe (sqe [(0, 1, 3), (2, 2, 5)]) 24 2 = 0 ∧ ((ring []).chan 5).run = none) := by
  refine ⟨?_, ?_, ?_, ?_, ?_, ?_, ?_, ?_⟩ <;> decide +kernel

theorem witness_GrantsFollowTheOrderAndModesSwitch :
    (let tc : List Cmd → State := fun l => { up [(0, F.PWR_ADMIT_LEVEL, 10), (1, F.EAS_CFG_PRIO, 1)] with tc := [(0, { TcSt.empty with queue := l })] }
     let radio : Cmd := ⟨9, 0, [1, 1], true, 10 ^ 6, 0, false, false⟩
     let first : Cmd := ⟨3, 0, [5], false, 0, 0, false, false⟩
     (tc []).tcHeld (0 : Fin 48) = false ∧
     (tc [radio]).released 5 (radio.waitEn && (tc [radio]).ownsLink radio.easel radio.waitLink) (.tcore (0 : Fin 48) radio.id) radio = true ∧ radio.arrays &&& (1 : BitVec 4).toNat = radio.arrays ∧
     (tc [radio]).tcPower (0 : Fin 48) = 0 ∧ (tc [radio]).coreServes F.TC_PARTITION_OWNER (0 : Fin 48) 0 = true ∧
     (∀ c ∈ [first, tcmd 5 0 0 0 0], (nextOf ((tc [c]).tcore (0 : Fin 48)).queue []).filter ((tc [c]).tcEligible (0 : Fin 48) (15 : BitVec 4).toNat) = [c] ∧ (tc [c]).tcFits (0 : Fin 48) 5 0 false c = true) ∧
     (tc [tcmd 5 15 0 0 0]).tcFits (0 : Fin 48) 5 0 false (tcmd 5 15 0 0 0) = true ∧
     (up []).windowCap (0 : Fin 48) = 0 ∧ (tcmd 5 15 0 0 0).occupancy = 512 ∧ (up []).tcFits (0 : Fin 48) 5 0 false (tcmd 5 15 0 0 0) = false) ∧
    (let sc : List Cmd → Option Bool → Option ScCtx → State := fun q run ten => { up [(0, F.PWR_ADMIT_LEVEL, 10)] with sc := [(0, { ScSt.empty with queue := q, running := run, tenant := ten })] }
     let radio : Cmd := ⟨9, 0, [1], true, 10 ^ 6, 0, false, false⟩
     let first : Cmd := ⟨3, 0, [1], false, 0, 0, false, false⟩
     let x := { ScCtx.start (scc 1 0) with parked := true }
     (sc [radio] none none).scHeld (0 : Fin 192) = false ∧
     ((sc [radio] none none).released 5 (radio.scWaitEn && (sc [radio] none none).ownsLink radio.easel radio.scWaitLink) (.score (0 : Fin 192) radio.id) radio && (sc [radio] none none).scRadioMay (0 : Fin 192) 5) = true ∧
     (∀ c ∈ [first, scc 1 4096], (sc [c] none none).scEligible (0 : Fin 192) c = true ∧ (sc [c] none none).scFits (0 : Fin 192) 5 c = true) ∧
     ((sc [] none (some x)).score (0 : Fin 192)).running = none ∧ ((sc [] none (some x)).score (0 : Fin 192)).tenant ≠ none ∧
     ((sc [scc 1 4096] (some false) (some x)).score (0 : Fin 192)).running ≠ none ∧ (sc [scc 1 4096] (some false) (some x)).scEligible (0 : Fin 192) (scc 1 4096) = false) ∧
    (∀ c ∈ [(3, 0), (3, 256)], ({ up [] with rst := { (up []).rst with soft := some c } } : State).tcHeld (0 : Fin 48) = decide (c.2 = 0) ∧
      ({ up [] with rst := { (up []).rst with soft := some c } } : State).scHeld (0 : Fin 192) = decide (c.2 = 256)) ∧
    (∀ b ∈ [0, 1], let s := up [(0, F.SCH_MODE_PART_MODE, 1), (0, F.SCH_MODE_PARTITIONED, b)]
      s.barOpen .pf0 F.SCH_MODE_CTRL_TO_NORMAL.off = true ∧ Requester.pf0.manages = true ∧ s.fld 0 F.SCH_MODE_PART_MODE = 1 ∧ (0xA4 : BitVec 8) ≠ 0xA5 ∧ s.flag 0 F.SCH_MODE_PARTITIONED = decide (b = 1)) := by
  refine ⟨?_, ?_, ?_, ?_⟩ <;> decide +kernel

/-- An Ethernet port of one subport, its link up; flow 3 of easel 1 of a kind, for VID 0 and the MAC 02:00:00:00:00:01. -/
def eth (kind : Nat) (l : List (Nat × Fld × Nat)) : State :=
  vfs 2 (up ([(0, F.ETH_PORT_CFG_MODE, 1), (0, F.ETH_PORT_CFG_MAX_FRAME, 1518), (0, F.ETH_LINK_UP_UP, 1), (3, F.FLW_CFG_KIND, kind), (3, F.FLW_CFG_EASEL, 1), (3, F.FLW_MAC_LO_MAC, 2), (3, F.FLW_MAC_HI_MAC, 256),
    (1, F.EAS_LIFE_STATE, lifeReady)] ++ l))

/-- A frame of 60 bytes: destination, source, EtherType. -/
def frame (dst src : List Nat) (ty : Nat) : List Nat := dst ++ src ++ [ty / 256, ty % 256] ++ List.replicate 46 0
def mac1 : List Nat := [2, 0, 0, 0, 0, 1]

/-- Flow 3 with one readable record of a frame in its queue: launch flag, launch time in ns, source MAC. -/
def sends (launch : Nat) (src : List Nat) (l : List (Nat × Fld × Nat)) : State :=
  let s := eth 4 ([(3, F.FLW_CFG_LAUNCH, if launch = 0 then 0 else 1)] ++ l)
  let r := leBytes 2 60 ++ [if launch = 0 then 0 else 1, 0, 0, 0, 0, 0] ++ leBytes 8 launch ++ List.replicate 16 0 ++ frame [4, 0, 0, 0, 0, 1] src 0x0800 ++ [0, 0, 0, 0]
  { s with pal := [(flowQ 3, ⟨0, r⟩)], eth := { s.eth with recs := [(3, [(96, 0)])] } }

theorem witness_EthernetFramesAreSortedAndRecordsChecked :
    (let s := eth 3 []; let f := frame mac1 mac1 0x0800
     s.subExists (0 : Fin 32) = true ∧ s.subUp (0 : Fin 32) = true ∧ s.flag 165 F.FLT_INJSTAT_ARMED = false ∧ 64 ≤ f.length + 4 ∧ f.length + 4 ≤ s.fld 0 F.ETH_PORT_CFG_MAX_FRAME ∧ etherOf (frame mac1 mac1 0x8808) = 0x8808 ∧
      etherOf f ∉ [0x8808, 0x88F7, 0x8809, 0xAEFE, s.fld 0 F.YZF_CFG_ETYPE] ∧ beAt f 12 2 ≠ 0x88A8 ∧ tagged f = false ∧ f.take 6 ≠ List.replicate 6 0xFF ∧ (f.take 10).length + 4 < 64 ∧
      s.rxFlows (0 : Fin 32) (fun g => decide (s.flowKind g = 3 ∧ s.fld g F.FLW_KEY_VID = vidOf f ∧ s.flowMac g = f.take 6)) = [3]) ∧
    (let s := (up []); s.subExists (0 : Fin 32) = false ∧ s.subUp (0 : Fin 32) = false ∧ s.rxFlows (0 : Fin 32) (fun _ => true) = []) ∧
    (let s := eth 3 [(3, F.FLW_PAL_LIM_MIN, 1), (3, F.FLW_PAL_LIM_CAP, 1)]; let f := frame mac1 mac1 0x0800
     s.palCanGrow (flowQ 3) { s.palQ (flowQ 3) with bytes := (s.palQ (flowQ 3)).bytes ++ rxRecord f 0 (0 : Fin 32) 0 0 }.held = true ∧ s.fld 1 F.EAS_LIFE_STATE ≠ lifeHeld ∧ s.fld 1 F.EAS_LIFE_STATE ≠ lifeClearing ∧
      s.frozen 1 = false ∧ ((eth 3 []).palAppend (flowQ 3) (rxRecord f 0 (0 : Fin 32) 0 0)).isNone = true ∧ (eth 3 [(1, F.EAS_LIFE_STATE, 5)]).frozen 1 = true) ∧
    (∀ src ∈ [mac1, [6, 0, 0, 0, 0, 1]], let s := sends 0 src []
      (s.headRec (3 : Fin 8192)).isSome = true ∧ s.flowTx (3 : Fin 8192) = true ∧ NSet.has 3 s.eth.checked = false ∧ s.flag 138 F.FLT_INJSTAT_ARMED = false ∧
      ((s.headRec (3 : Fin 8192)).map (fun r => s.txBad (3 : Fin 8192) r.1)) = some false ∧ ((s.headRec (3 : Fin 8192)).map (fun r => s.txSpoof (3 : Fin 8192) r.1)) = some (decide (src ≠ mac1))) ∧
    (let s := sends 0 mac1 [(3, F.FLW_CFG_LAUNCH, 1)]; ((s.headRec (3 : Fin 8192)).map (fun r => s.txBad (3 : Fin 8192) r.1)) = some true) ∧
    ((eth 3 [(0, F.YZF_CFG_ETH_PATHS, 1)]).ethPath 0 = true ∧ (eth 3 []).ethPath 0 = false ∧ (eth 3 [(0, F.ETH_LINK_UP_UP, 0)]).subUp (0 : Fin 32) = false ∧ (eth 3 []).headRec (3 : Fin 8192) = none) := by
  refine ⟨?_, ?_, ?_, ?_, ?_, ?_⟩ <;> decide +kernel

theorem inv_of {s : State} (h : Memory.wf s.mem = true ∧ SMap.wf regDefault s.regs = true ∧ NSet.wf s.poison = true ∧ NSet.wf s.used = true ∧ s.tod < 2 ^ 104) : s.Inv :=
  ⟨h.1, h.2.1, h.2.2.1, h.2.2.2.1, h.2.2.2.2⟩

def pkt0 : YzPkt := ⟨3, 0, 1, 2, 1, 0, 0, 0, some 0, 0, 0, 0, []⟩

theorem witness_FramesLeaveInTheirOrder :
    (∀ now ∈ [500, 2000], let s := at_ now (sends 1000 mac1 [(3, F.FLW_TIMING_LATE_NS, 100)])
     let s := { s with eth := { s.eth with checked := [3] } }
     let c := s.firstLaunch (0 : Fin 32) ((s.launchCands (0 : Fin 32)).filter (fun c => !s.launchLate (0 : Fin 32) c))
     c.map (·.flow) = some (some 3) ∧ (s.headRec 3).isSome = true ∧ s.subUp (0 : Fin 32) = true ∧ (c.map (fun c => decide (s.slotTime (0 : Fin 32) (s.launchSlot (0 : Fin 32) c) ≤ hundOf s.tod))) = some (decide (now = 2000))) ∧
    (let s := sends 1000 mac1 []
     let s := { s with eth := { s.eth with checked := [3] } }
     ((s.launchCands (0 : Fin 32)).find? (fun c => s.launchLate (0 : Fin 32) c || !s.subUp (0 : Fin 32))).map (·.flow) = some (some 3)) ∧
    (let s := eth 4 [(0, F.ETH_LINK_UP_UP, 0)]
     let s := { s with eth := { s.eth with tb := [(0, [⟨10, [], none⟩])] } }
     ((s.launchCands (0 : Fin 32)).find? (fun c => s.launchLate (0 : Fin 32) c || !s.subUp (0 : Fin 32))).map (·.flow) = some none ∧ (s.launchCands 1).length = 0) ∧
    (let s := at_ 100 (eth 4 [])
     let s := { s with eth := { s.eth with yzq := [(16, [⟨64, pkt0⟩])] } }
     s.subUp (0 : Fin 32) = true ∧ s.subBusy (0 : Fin 32) ≤ s.slotTime (0 : Fin 32) 100 ∧ s.slotTime (0 : Fin 32) 100 ≤ hundOf s.tod ∧ (s.yzWaits 16).find? (fun w => decide (w.easel = 64)) = some ⟨64, pkt0⟩ ∧
      s.endsInTime (0 : Fin 32) 100 ⟨0, none, 64, s.yzFrameLen pkt0 + 20⟩ = true ∧ hundOf s.tod < s.slotTime (0 : Fin 32) 1000) ∧
    (let s := at_ 100 (sends 0 mac1 [(3, F.FLW_TIMING_NODE, 2), (2, F.EGS_NODE_CFG_RADIO, 1)])
     let s := { s with eth := { s.eth with checked := [3] } }
     let l := s.allCands (0 : Fin 32) 100
     (s.ctrlTake (0 : Fin 32) 100).isNone = true ∧ ((s.noteWaits l).radioPick (0 : Fin 32) (l.filter (fun c => (s.shortNodes c).isEmpty))).map (·.flow) = some (some 3) ∧ ((s.noteWaits l).headRec 3).isSome = true) ∧
    ((eth 4 []).allCands (0 : Fin 32) 100).length = 0 ∧
    (let s := up [(2, F.EGS_NODE_CFG_LEVEL, 3), (2, F.EGS_NODE_RATE_MBPS, 5), (2, F.EGS_NODE_BURST_BYTES, 100)]
     s.paced = true ∧ (s.fld 0 F.CVS_RT_PENDING_TYPES).testBit rtParam = false ∧ (s.fld 0 F.CVS_RT_PENDING_TYPES).testBit rtFlows = false ∧ 2 ∈ s.nodesUsed ∧ 3 ∉ s.nodesUsed ∧ 3 ∈ (eth 4 []).flowsUsed ∧
      (up [(0, F.CVS_STATE_STATE, 1)]).paced = false) ∧
    (let s := ((eth 4 []).setSel (.vf 1) .flw 3).setSel (.vf 2) .flw 3
     s.unitAt (.vf 1) F.EGS_Q_CTRL_CLEAR.off = 3 ∧ s.barOpen (.vf 1) F.EGS_Q_CTRL_CLEAR.off = true ∧ ownsEas (.vf 1) (s.flowEasel 3) = true ∧ s.flowKind 3 ≠ 0 ∧ (Requester.vf 2).manages = false ∧ ownsEas (.vf 2) (s.flowEasel 3) = false) ∧
    (up [(2, F.EGS_NODE_CFG_LEVEL, 3), (2, F.EGS_NODE_RATE_MBPS, 5), (2, F.EGS_NODE_BURST_BYTES, 100)]).Inv := by
  refine ⟨?_, ?_, ?_, ?_, ?_, ?_, ?_, ?_, inv_of (by decide +kernel)⟩ <;> decide +kernel

/-- Easel 1's sequence engine, enabled: 8 pages of 32 tokens, 8 entries, a step of 128 rows, two tokens, one output ring, swap slots. -/
def sqs (x : SeqEas) (l : List (Nat × Fld × Nat)) : State :=
  let s := vfs 2 (tenant ([(1, F.MEM_EAS_SHARE_UNITS, 100), (1, F.MEM_EAS_MAPPED_UNITS, 100), (1, F.EAS_CFG_SEQ, 8), (1, F.SEQ_EAS_CTRL_ENABLE, 1), (0, F.PWR_ADMIT_LEVEL, 10), (1, F.SEQ_EAS_CFG0_CHUNK, 16), (1, F.SEQ_EAS_CFG0_STEP_ROWS, 128),
    (1, F.SEQ_EAS_CFG1_VOCAB, 2), (1, F.SEQ_EAS_PAGE_CFG_PAGE_TOKENS, 32), (1, F.SEQ_EAS_PAGE_CFG_LAYERS, 1), (1, F.SEQ_EAS_PAGE_CFG_ROW_64, 16), (1, F.SEQ_EAS_PL_LEN_PAGES, 4), (1, F.SEQ_EAS_KV_PAGES_PAGES, 8),
    (1, F.SEQ_EAS_KV_BASE_UNIT, 50), (1, F.SEQ_EAS_PL_BASE_UNIT, 60), (1, F.SEQ_EAS_WL_BASE_UNIT, 10), (1, F.SEQ_EAS_STOP_BASE_UNIT, 61),
    (1, F.SEQ_OR_SIZE_SIZE 0, 4), (1, F.SEQ_EAS_SWAP_SLOTS_PAGES, 8), (1, F.SEQ_EAS_SWAP_CH_VALID, 1), (0, F.STR_CH_CFG_EASEL, 1), (0, F.STR_CH_CFG_ENABLED, 1), (1, F.EAS_CTRL_ENABLE, 1), (1, F.EAS_SQ_SIZE_SIZE, 2), (1, F.EAS_SQ_TAIL_TAIL, 1)] ++ l))
  { s with seq := [(1, x)] }

/-- Sequence 3 in a state, with a context of 4 tokens on one page. -/
def sqy (st : Nat) : SeqEntry := { SeqEntry.free with state := st, ctxLen := 4, pages := if st = sqDecode then 1 else 0, maxGen := 100, stopSet := 255, lastToken := 1 }
def sqx (st : Nat) (segs : List SeqSeg) : SeqEas := { SeqEas.empty with entries := [(3, sqy st)], segs := segs }
def sqOpen : List Nat := sqe [(0, 1, 0x10), (2, 2, 3), (40, 4, 2), (44, 4, 5), (52, 4, 0x3F800000), (61, 1, 255)]

theorem witness_SequenceEntriesAreExecutedInTurn :
    (∀ d ∈ [sqOpen, sqe [(0, 1, 0x11)], sqe [(0, 1, 0x12), (20, 1, 1)], sqe [(0, 1, 0x12)], sqe [(0, 1, 0x13)], sqe [(0, 1, 0x14)], sqe [(0, 1, 0x14), (16, 1, 1)], sqe [(0, 1, 0x15)]],
      let s := sqs SeqEas.empty []
      (sqs SeqEas.empty []).sqWaiting (1 : Fin 64) = true ∧ (s.sqFetch (1 : Fin 64) ⟨128, (d.zipIdx.filter (fun p => decide (p.1 ≠ 0))).map (fun p => (p.2, BitVec.ofNat 8 p.1))⟩).1 = some d ∧ seqEntryZero d = true ∧
        (s.seqEas 1).queue.length < 64 ∧ (s.seqEas 1).queue = [] ∧ s.seqHeld 1 d = false) ∧
    ((up []).sqWaiting (1 : Fin 64) = false ∧ ((sqs SeqEas.empty [(0, F.CXL_LINK_MODE, 0)]).sqFetch (1 : Fin 64) (bl 128 [])).1 = none ∧ (sqs SeqEas.empty [(0, F.CXL_LINK_MODE, 0)]).sqWaiting (1 : Fin 64) = true) ∧
    (seqEntryZero (sqe [(0, 1, 0x11), (127, 1, 1)]) = false ∧ 64 ≤ (List.replicate 64 (0, sqOpen)).length ∧ 2 ≤ (sqs SeqEas.empty [(1, F.SEQ_EAS_STATUS_PHASE, 2)]).fld 1 F.SEQ_EAS_STATUS_PHASE) ∧
    (let s := sqs SeqEas.empty []
     (sqs SeqEas.empty [(1, F.SEQ_EAS_CTRL_ENABLE, 0)]).seqOn 1 = false ∧ s.seqOn 1 = true ∧ (s.seqEas 1).buildRetry = false ∧ s.openStatus 1 sqOpen = stOk ∧ s.openStatus 1 (sqe [(0, 1, 0x10)]) ≠ stOk) ∧
    (let g : SeqSeg := ⟨3, sgVerify, 2, 0, 3, 4, 0, [], false⟩; let s := sqs (sqx sqDecode [g]) [(1, F.SEQ_EAS_STATUS_PHASE, 1)]
     fieldLe (sqe [(2, 2, 8)]) 2 2 = 8 ∧ s.fld 1 F.EAS_CFG_SEQ ≤ 8 ∧ 3 < s.fld 1 F.EAS_CFG_SEQ ∧ s.inOpenStep 1 3 = true ∧ (sqs (sqx sqDecode []) []).inOpenStep 1 3 = false ∧ sqDecode ∈ [sqQueued, sqPrefill, sqDecode, sqSwapped] ∧
      ((sqs SeqEas.empty []).seqEntry 1 3).state ∉ [sqQueued, sqPrefill, sqDecode, sqSwapped] ∧ (s.seqEas 1).segs.find? (fun g => decide (g.seq = 3 ∧ g.kind = sgVerify)) = some g ∧
      s.fld 1 F.SEQ_EAS_STATUS_PHASE = 1 ∧ s.fld 1 F.SEQ_EAS_STEP_STEP = 0 ∧ g.drafts < 3 ∧ 1 ≤ g.drafts ∧ (sqy sqDecode).prov = 0 ∧ (s.seqEas 1).lastDraft = 0 ∧ { sqy sqDecode with prov := 1 }.prov ≠ 0) ∧
    (let s := sqs (sqx sqDecode []) []; let t := sqs (sqx sqSwapped []) []
     (s.seqEntry 1 3).state = sqDecode ∧ s.swapOn 1 = true ∧ s.swapSlotFor 1 3 = some 0 ∧ (t.seqEntry 1 3).state = sqSwapped ∧ t.ctxPages 1 3 ≤ t.freePages 1 ∧ (sqs (sqx sqDecode []) [(1, F.SEQ_EAS_SWAP_CH_VALID, 0)]).swapOn 1 = false ∧
      (sqs (sqx sqSwapped []) [(1, F.SEQ_EAS_KV_PAGES_PAGES, 0)]).freePages 1 < t.ctxPages 1 3) ∧
    (∀ x ∈ [SeqEas.empty, sqx sqDecode []], let s := sqs x []
      s.fld 1 F.SEQ_EAS_STATUS_PHASE = 0 ∧ s.fld 1 F.EAS_LIFE_STATE = 3 ∧ ((((s.setBuildWaits 1 false (s.seqEas 1).buildRetry).loseBadLists 1).fillStep 1).seqEas 1).segs.length = if x = SeqEas.empty then 0 else 1) := by
  refine ⟨?_, ?_, ?_, ?_, ?_, ?_, ?_⟩ <;> decide +kernel

/-- A SAMPLE of mode 1 (DRAFT) or 0, J, BF16 logits at 0, 256 bytes a row. -/
def smp (mode j : Nat) : List Nat := sqe [(0, 1, 0x12), (20, 1, mode), (21, 1, j), (22, 1, 6), (32, 4, 256)]

theorem witness_SequencesAreSampledVarnishedAndLost :
    (let s := sqs SeqEas.empty [(1, F.SEQ_EAS_CTRL_ENABLE, 0)]
     s.barOpen (.vf 1) F.SEQ_EAS_CTRL_ENABLE.off = true ∧ s.unitAt (.vf 1) F.SEQ_EAS_CTRL_ENABLE.off = 1 ∧ isVf (.vf 1) 1 = true ∧ s.seqOn 1 = false ∧ (sqs SeqEas.empty []).seqOn 1 = true ∧
      (s.setFlag 1 F.SEQ_EAS_CTRL_AUTO true).seqChecks 1 = true ∧ ((sqs SeqEas.empty [(1, F.SEQ_EAS_CFG1_VOCAB, 1)]).setFlag 1 F.SEQ_EAS_CTRL_AUTO true).seqChecks 1 = false ∧ isVf .pf0 1 = false) ∧
    (let g : SeqSeg := ⟨3, sgVerify, 2, 0, 3, 4, 0, [], false⟩; let s := sqs (sqx sqDecode [g]) [(1, F.SEQ_EAS_STATUS_PHASE, 1)]
     s.seqOn 1 = true ∧ nth 0 (smp 1 1) 0 = 0x12 ∧ nth 0 (smp 1 1) 20 = 1 ∧ s.sampleStatus 1 (smp 1 1) 1 = stOk ∧ s.sampleStatus 1 (smp 1 0) 1 ≠ stOk ∧ (s.seqEas 1).segs = [g] ∧ (s.seqEntry 1 3).prov + 1 = 1 ∧ 1 ≤ g.drafts ∧
      (s.seqEntry 1 3).draftStop = false ∧ (s.seqEntry 1 3).prov + 1 ≠ 2 ∧ (s.sampleRow 1 (smp 1 1) (s.seqEntry 1 3) 0 (g.pos + 1) []).1 = some 0 ∧
      ({ s with poison := [bondKey 1 0 / 64] }.sampleRow 1 (smp 1 1) (s.seqEntry 1 3) 0 (g.pos + 1) []).1 = none) ∧
    (∀ k ∈ [sgPrefill, sgDecode], let g : SeqSeg := ⟨3, k, 0, 0, 1, 4, 0, [], false⟩; let s := sqs { sqx sqDecode [g] with logitRows := 1 } [(1, F.SEQ_EAS_STATUS_PHASE, 1)]
      nth 0 (smp 0 0) 20 ≠ 1 ∧ s.sampleStatus 1 (smp 0 0) (s.seqEas 1).logitRows = stOk ∧ (s.seqEas 1).segs = [g] ∧ (s.sampleRow 1 (smp 0 0) (s.seqEntry 1 3) g.logit (g.pos + 1) []).1 = some 0 ∧
        ({ s with poison := [bondKey 1 0 / 64] }.sampleRow 1 (smp 0 0) (s.seqEntry 1 3) g.logit (g.pos + 1) []).1 = none ∧ (sqs SeqEas.empty []).sampleStatus 1 (smp 0 0) 0 ≠ stOk) ∧
    (let g : SeqSeg := ⟨3, sgVerify, 1, 0, 2, 4, 0, [], false⟩; let s := sqs { sqx sqDecode [g] with entries := [(3, { sqy sqDecode with prov := 1 })], logitRows := 2 } [(1, F.SEQ_EAS_STATUS_PHASE, 1)]
     let r := s.sampleRow 1 (smp 0 0) (s.seqEntry 1 3) g.logit (g.pos + 1) []
     s.sampleStatus 1 (smp 0 0) (s.seqEas 1).logitRows = stOk ∧ (s.seqEas 1).segs = [g] ∧ 0 < g.drafts ∧ 0 < (s.seqEntry 1 3).prov ∧ r.1 = some 0 ∧ 0 = r.2.draftAt 1 g 1 ∧
      (r.2.sampleRow 1 (smp 0 0) (s.seqEntry 1 3) (g.logit + 1) (g.pos + 2) []).1 = some 0 ∧ ¬ 1 < (s.seqEntry 1 3).prov) ∧
    ((sqs SeqEas.empty []).fld 1 F.SEQ_EAS_STATUS_PHASE < 2 ∧ 2 ≤ (sqs SeqEas.empty [(1, F.SEQ_EAS_STATUS_PHASE, 2)]).fld 1 F.SEQ_EAS_STATUS_PHASE) ∧
    (let y := sqy sqDecode
     { y with lost := some 0 }.lost ≠ none ∧ y.lost = none ∧ { y with cancel := true }.cancel = true ∧ y.cancel = false ∧
      (keepTokens [] (4 * 32) [7] 5 y []).2.2 = 0 ∧ (keepTokens [] (4 * 32) [7] 5 { y with maxGen := 1 } []).2.2 ≠ 0) ∧
    (∀ st ∈ [sqSwapOut, sqSwapIn], let s := sqs (sqx st []) []
      let t := { s with str := { s.str with chans := [(0, { Chan.idle with run := some { strRun [] with arm := ⟨0, 1, false, .engine⟩ } })] } }
      (s.seqEntry 1 3).state = st ∧ s.swapping 1 = false ∧ t.hostUp = true ∧ t.swapping 1 = true ∧ (∀ p < t.ctxPages 1 3, t.translates 1 (t.swapAddr 1 ((t.seqEntry 1 3).swapSlot + p)) = true) ∧ (t.seqEas 1).buildRetry = false) ∧
    (let s := sqs (sqx sqDecode []) []
     s.barOpen .pf0 F.SEQ_LOSE_EASEL.off = true ∧ Requester.pf0.manages = true ∧ (s.seqEntry 1 3).state ≠ sqFree ∧ (s.seqEntry 1 3).state ≠ sqEnding ∧ s.inOpenStep 1 3 = false ∧
      (sqs (sqx sqDecode [⟨3, sgDecode, 0, 0, 1, 4, 0, [], false⟩]) []).inOpenStep 1 3 = true ∧ (s.seqEntry 1 4).state = sqFree ∧ (0x4D : BitVec 8) ≠ 0x4C) ∧
    (let s := sqs (sqx sqDecode []) []
     s.barOpen (.vf 1) F.SEQ_EAS_PEEK_INDEX.off = true ∧ s.unitAt (.vf 1) F.SEQ_EAS_PEEK_INDEX.off = 1 ∧ s.barOpen .pf0 F.SEQ_EAS_PEEK_INDEX.off = true ∧ (dev s).tru.caps.testBit powUnderpaint = true ∧
      (dev s).tru.caps.testBit powRadioRead = true ∧ s.barOpen .pf0 F.SEQ_DBG_CTRL_GO.off = true ∧
      (((s.setFld 0 F.SEQ_DBG_CTRL_EASEL 1).setFlag 0 F.SEQ_DBG_CTRL_UNDERPAINT false).bondLoad 1 0 64 stPoison none).status ≠ .outOfShare ∧
      (((s.setFld 0 F.SEQ_DBG_CTRL_EASEL 2).setFlag 0 F.SEQ_DBG_CTRL_UNDERPAINT false).bondLoad 2 0 64 stPoison none).status = .outOfShare) ∧
    (let s := sqs SeqEas.empty []
     s.barOpen (.vf 1) (F.SEQ_OR_HEAD_HEAD (0 : Fin 64)).off = true ∧ s.unitAt (.vf 1) (F.SEQ_OR_HEAD_HEAD (0 : Fin 64)).off = 1 ∧ (15 : BitVec 16).toNat < s.orEntries 1 (0 : Fin 64) ∧ ¬ (16 : BitVec 16).toNat < s.orEntries 1 (0 : Fin 64) ∧
      (s.seqEas 1).buildRetry = false ∧ (s.seqEas 1).outq = [] ∧ (s.seqEas 1).buildWaits = false) ∧
    (∀ y ∈ [SeqEas.empty, sqx sqDecode []], let s := sqs { y with buildRetry := true } [(1, F.SEQ_EAS_CTRL_AUTO, 1)]
      (s.seqEas 1).buildWaits = false ∧ (s.seqEas 1).buildRetry = true ∧ s.flag 1 F.SEQ_EAS_CTRL_AUTO = true ∧ s.seqOn 1 = true ∧ s.fld 1 F.SEQ_EAS_STATUS_PHASE = 0 ∧ s.fld 1 F.EAS_LIFE_STATE = 3 ∧ s.mayBuild = true ∧
        ((((s.setBuildWaits 1 false false).loseBadLists 1).fillStep 1).seqEas 1).segs.length = y.entries.length) ∧
    (let s := sqs { SeqEas.empty with buildWaits := true } []; (s.seqEas 1).buildWaits = true ∧ (s.seqEas 1).buildRetry = false ∧ s.mayBuild = true) := by
  refine ⟨?_, ?_, ?_, ?_, ?_, ?_, ?_, ?_, ?_, ?_, ?_, ?_⟩ <;> decide +kernel

/-- A table of ten rows of 32 BF16 elements in one shard of job 77. -/
def tbl : List Nat := (List.range 64).map (bl 64 [(0, 1, 6), (1, 1, 1), (2, 2, 32), (4, 4, 64), (8, 4, 10), (12, 2, 1), (24, 4, 77)]).byte

/-- Easel 1's gather engine with that table, in job slot 0 as rank 0, and a submission ring with an entry waiting. -/
def emb (reqs : List EmbReq) (l : List (Nat × Fld × Nat)) : State :=
  let s := vfs 2 (tenant ([(1, F.EMB_EAS_CTRL_ENABLE, 1), (1, F.EMB_EAS_DIR_COUNT_COUNT, 1), (1, F.YZF_EAS_STATUS_MEMBER, 1), (0, F.YZF_JOB_ID_JOB 0, 77), (1, F.EAS_CTRL_ENABLE, 1), (1, F.EAS_SQ_SIZE_SIZE, 2), (1, F.EAS_SQ_TAIL_TAIL, 1),
    (1, F.EAS_CQ_SIZE_SIZE, 2)] ++ l))
  { s with emb := { s.emb with reqs := reqs, dir := [(1, tbl)] } }

/-- A gather of one row into bonded memory, with some fields more. -/
def gat (l : List (Nat × Nat × Nat)) : List Nat := sqe ([(0, 1, 0x18), (18, 1, 6), (20, 2, 1), (22, 2, 1), (48, 1, 1), (52, 4, 64)] ++ l)
def greq (l : List (Nat × Nat × Nat)) : EmbReq := ⟨7, 1, 0, gat l, false, false, false, [], [], [], [], [], false⟩
def gon (l : List (Nat × Nat × Nat)) : EmbReq := { greq l with launched := true, idx := [3], rows := [(3, ⟨rwOut, false, []⟩)] }

theorem witness_EmbeddingRequestsAreGathered :
    (let s := (emb [] [(1, F.EMB_EAS_CTRL_ENABLE, 0)]).writeBytes (bondKey 1 0) tbl
     s.barOpen (.vf 1) F.EMB_EAS_CTRL_ENABLE.off = true ∧ s.unitAt (.vf 1) F.EMB_EAS_CTRL_ENABLE.off = 1 ∧ isVf (.vf 1) 1 = true ∧ s.embOn 1 = false ∧ (emb [] []).embOn 1 = true ∧ s.fld 1 F.EMB_EAS_DIR_COUNT_COUNT = 1 ∧
      s.inShare 1 0 64 = true ∧ s.poisoned (bondKey 1 0) 64 = false ∧ (∀ x ∈ cut64 1 (s.readBytes (bondKey 1 0) 64), tbOk x = true) ∧ tbOk (2 :: 2 :: tbl.drop 2) = false) ∧
    ((up []).sqWaiting (1 : Fin 64) = false ∧ (emb [] [(0, F.CXL_LINK_MODE, 0)]).sqWaiting (1 : Fin 64) = true ∧ ((emb [] [(0, F.CXL_LINK_MODE, 0)]).sqFetch (1 : Fin 64) (bl 128 [])).1 = none ∧
      ((emb [] []).sqFetch (1 : Fin 64) (bl 128 [(0, 1, 0x11)])).1 = some (sqe [(0, 1, 0x11)]) ∧
      ((emb [] []).sqFetch (1 : Fin 64) (bl 128 [(0, 1, 0x18), (18, 1, 6), (20, 2, 1), (22, 2, 1), (48, 1, 1), (52, 4, 64)])).1 = some (gat []) ∧ embEntryZero (gat []) = true ∧ embEntryZero (gat [(127, 1, 1)]) = false ∧
      (emb [] []).embStatus (1 : Fin 64) (gat []) = stOk ∧ (emb [] []).embStatus (1 : Fin 64) (gat [(66, 2, 8192)]) = stShape ∧
      32 ≤ ((List.replicate 32 (greq [])).filter (fun r => decide (r.engine = 0 ∧ r.easel = (1 : Fin 64).val) && !r.launched)).length) ∧
    (let s := emb [greq []] []; let q := { greq [] with launched := true, idx := s.embWords (1 : Fin 64) 0 1 }
     s.embNext (0 : Fin 3) (1 : Fin 64) = some (greq []) ∧ (emb [] []).embNext (0 : Fin 3) (1 : Fin 64) = none ∧ s.accUsed (0 : Fin 3) + s.accBytes (greq []) ≤ 2 ^ 24 ∧ ((s.embLaunched (0 : Fin 3)).filter (fun q => !q.parked)).length < 4 ∧
      s.brace = false ∧ s.cqHeld (1 : Fin 64) = false ∧ (rqWait (greq []).entry).testBit 11 = false ∧ s.rowsInFlight (0 : Fin 3) + q.distinct.length ≤ 16384 ∧ s.embStatus (1 : Fin 64) (greq []).entry = stOk ∧ rqPool (greq []).entry = 0 ∧
      (emb [] [(1, F.EMB_EAS_DIR_COUNT_COUNT, 0)]).embStatus (1 : Fin 64) (greq []).entry ≠ stOk ∧ s.takeGranted (.emb 7) = false ∧ (rqWait (gat [(66, 2, 2048)])).testBit 11 = true) ∧
    (let r := gon []; let s := emb [r] []
     s.embReq 7 = some r ∧ s.embReq 8 = none ∧ r.launched = true ∧ 3 ∈ r.distinct ∧ (r.row 3).state = rwOut ∧ (r.row 3).remote = false ∧ 4 ∉ r.distinct ∧ s.inShare 1 (tbBase tbl + (shardOf tbl 3).2 * tbRowBytes tbl) (rowBytes (tbFmt tbl) (tbDim tbl)) = true ∧
      (emb [r] [(1, F.MEM_EAS_SHARE_UNITS, 0)]).inShare 1 (tbBase tbl + (shardOf tbl 3).2 * tbRowBytes tbl) (rowBytes (tbFmt tbl) (tbDim tbl)) = false ∧ r.expired = false ∧ rqDeadline (gon [(70, 2, 5)]).entry ≠ 0 ∧ rqDeadline r.entry = 0 ∧
      (∀ b, b < rqBags r.entry → NSet.has b ({ r with written := [0] }).written = true) ∧ ¬ ∀ b, b < rqBags r.entry → NSet.has b r.written = true) ∧
    (let r := gon []; let s := emb [r] []; let t := s.embEntry r.easel (rqTable r.entry)
     tbRows t ≤ 10 ∧ 9 < tbRows t ∧ s.jobOf r.easel = some 0 ∧ (emb [r] [(1, F.YZF_EAS_STATUS_MEMBER, 0)]).jobOf r.easel = none ∧ s.fld 0 (F.YZF_JOB_ID_JOB 0) = tbJob t ∧ (emb [r] [(0, F.YZF_JOB_ID_JOB 0, 78)]).fld 0 (F.YZF_JOB_ID_JOB 0) ≠ tbJob t ∧
      s.tombstone 0 = false ∧ tbRank0 t + (shardOf t 9).1 = s.selfRank 0) := by
  refine ⟨?_, ?_, ?_, ?_, ?_⟩ <;> decide +kernel

/-- Job 77 in slot 0 with easel 1: this device is rank 1, rank 2 answers with MAC 0xAA, generation 5; link 0 in direct mode. -/
def fab (l : List (Nat × Fld × Nat)) : State :=
  let s := vfs 2 (tenant ([(0, F.YZF_LINK_STATUS_MODE 0, 1), (0, F.YZF_JOB_ID_JOB 0, 77), (0, F.YZF_JOB_RANKS_SELF 0, 1), (0, F.YZF_JOB_RANKS_COUNT 0, 4), (0, F.YZF_JOB_EASELS_LO_MASK 0, 2), (1, F.YZF_EAS_STATUS_MEMBER, 1)] ++ l))
  { s with yz := { s.yz with ranks := [(rankKey 0 1, (0xBB, 5, 0, 0)), (rankKey 0 2, (0xAA, 5, 0, 0))] } }

/-- A packet of a type from rank 2, and its frame. -/
def pk (ty psn : Nat) (recs : List YzRec) : YzPkt := ⟨ty, 0, 77, 2, 1, 0, 5, psn, none, 0, 0, 0, recs⟩
def fr (ty : Nat) : YzFrame := ⟨true, true, 0, 0xAA, pk ty 0 (if ty = 1 ∨ ty = 2 then [⟨2, 1, 8, 9, 2 ^ 46 + 64, List.replicate 8 1⟩] else [])⟩

/-- A state whose connection with rank 2 of slot 0 is given. -/
def withConn (c : YzConn) (s : State) : State := s.setConn 0 2 c

theorem witness_FabricFramesAreTakenInTurn :
    (∀ ty ∈ [1, 2, 3, 4, 5], (fr ty).wf = true ∧ (fr ty).pkt.type = ty ∧ (fr ty).pkt.type ≠ ty + 1 ∧ ((fab []).yzAccept (0 : Fin 24) (fr ty)).1 = some 0 ∧ ((up []).yzAccept (0 : Fin 24) (fr ty)).1 = none) ∧
    (let s := fab []; let f := fr 1
     (up []).yzPort (0 : Fin 24) = false ∧ s.yzPort (0 : Fin 24) = true ∧ s.fld 0 (F.YZF_LINK_STATUS_MODE (0 : Fin 24)) = 1 ∧ s.flag 149 F.FLT_INJSTAT_ARMED = false ∧ s.flag 175 F.FLT_INJSTAT_ARMED = false ∧ s.flag 176 F.FLT_INJSTAT_ARMED = false ∧
      { f with fcs := false }.fcs = false ∧ { f with icrc := false }.icrc = false ∧ f.dmac = s.fabMac ∧ { f with dmac := 1 }.dmac ≠ s.fabMac ∧ s.slotOf 77 = some 0 ∧ s.slotOf 78 = none ∧ f.smac = (s.rankEntry 0 2).1 ∧
      { f with smac := 1 }.smac ≠ (s.rankEntry 0 2).1 ∧ (s.rankEntry 0 3).2.2.1 = 1 ∧ (s.rankEntry 0 2).2.2.1 ≠ 1 ∧ f.pkt.src ≠ s.selfRank 0) ∧
    (let c := (fab []).yzConn 0 2
     (pk 1 0 []).psn = c.rxPsn ∧ seqAhead 24 1 c.rxPsn = true ∧ c.ahead.length < 64 ∧ (∀ q ∈ c.ahead, q.psn ≠ 1) ∧ seqAhead 24 (2 ^ 24 - 1) c.rxPsn = false ∧ 64 ≤ (List.replicate 64 (pk 1 1 [])).length ∧ seqAhead 24 (2 ^ 23 - 1) c.rxPsn = true ∧
      seqAhead 24 (2 ^ 23) c.rxPsn = false) ∧
    (let s := fab []
     (fab [(0, F.YZF_JOB_MIG_STATE 0, 1)]).tombstone 0 = true ∧ s.tombstone 0 = false ∧ (pk 1 0 []).epoch = s.fld 0 (F.YZF_JOB_EPOCH_EPOCH 0) % 65536 ∧ { pk 1 0 [] with epoch := 1 }.epoch ≠ s.fld 0 (F.YZF_JOB_EPOCH_EPOCH 0) % 65536 ∧
      genNewer 6 (s.rankEntry 0 (s.selfRank 0)).2.1 = true ∧ genNewer (pk 1 0 []).gen (s.rankEntry 0 (s.selfRank 0)).2.1 = false) ∧
    (let s := fab []; s.fld 0 (F.YZF_LINK_STATUS_MODE (1 : Fin 16)) ≠ 1 ∧ s.fld 0 (F.YZF_LINK_STATUS_MODE (0 : Fin 16)) = 1 ∧ (4 : Fin 5).val ≠ 0) := by
  refine ⟨?_, ?_, ?_, ?_, ?_⟩ <;> decide +kernel

/-- An operation of rank 2 that has arrived. -/
def yin (op : YzRec) : YzIn := ⟨0, 2, 0, op⟩

/-- A record: opcode, length, flags, at address 64 of easel 1. -/
def rec_ (opc len flags : Nat) : YzRec := ⟨opc, flags, len, 9, 2 ^ 46 + 64, List.replicate 16 1⟩

/-- Operations of rank 2 in the ingress and in the home queue. -/
def served (ingress home : List YzIn) (l : List (Nat × Fld × Nat)) : State := let s := fab l; { s with yz := { s.yz with ingress := ingress, home := home } }

theorem witness_FabricOperationsAreServedInTurn :
    (∀ opc ∈ [1, 2, 3, 4], let x := yin (rec_ opc 8 1); let s := served [x] [] []
      s.yz.ingress.find? (fun y => decide (y.slot = (0 : Fin 16).val ∧ y.rank = (2 : Fin 4096).val)) = some x ∧ x.op.opc = opc ∧ ¬ ∃ h ∈ s.yz.home, sameGranule h.op x.op = true) ∧
    ((fab []).yz.ingress.find? (fun y => decide (y.slot = (0 : Fin 16).val ∧ y.rank = (2 : Fin 4096).val)) = none ∧ (∃ h ∈ (served [] [yin (rec_ 2 8 0)] []).yz.home, sameGranule h.op (rec_ 3 8 1) = true) ∧
      (served [] [yin (rec_ 2 8 0)] []).yz.home.length < 4096 ∧ 4096 ≤ (served [] (List.replicate 4096 (yin (rec_ 2 8 0))) []).yz.home.length) ∧
    (let x := yin (rec_ 3 8 1); let s := served [] [x, x] []
     s.yz.home[2]? = none ∧ s.yz.home[1]? = some x ∧ (∃ h ∈ s.yz.home.take 1, sameGranule h.op x.op = true) ∧ s.yz.home[0]? = some x ∧ (∀ h ∈ s.yz.home.take 0, sameGranule h.op x.op = false) ∧ combines x.op x.op = true) ∧
    ((fab [(0, F.YZF_JOB_MIG_STATE 0, 1)]).tombstone 0 = true ∧ (fab []).tombstone 0 = false) ∧
    (let s := fab []; let r := rec_ 1 64 0; let e := r.addr / 2 ^ 46 % 64; let a := r.addr % 2 ^ 46
     e = 1 ∧ s.inJob 0 e = true ∧ s.inJob 0 2 = false ∧ s.flag 0 F.FLT_HEALTH_QUARANTINED = false ∧ (fab [(0, F.FLT_HEALTH_QUARANTINED, 1)]).flag 0 F.FLT_HEALTH_QUARANTINED = true ∧ s.inShare e a r.len = true ∧ s.inShare e (2 ^ 17) 1 = false ∧
      s.poison = [] ∧ s.seqOn e = false ∧ s.flag (s.stackOf e (a / 64 * 64 / 65536)) F.FLT_INJSTAT_ARMED = false ∧ s.frozen e = false ∧ (fab [(1, F.EAS_LIFE_STATE, 5)]).frozen 1 = true ∧ s.hitsUnderpainting e a r.len = false ∧
      (sqs SeqEas.empty []).hitsUnderpainting 1 (50 * 65536) 1 = true ∧ s.inShare e a ((rec_ 2 8 0).payload.take 8).length = true ∧ s.inShare e (2 ^ 17) ((rec_ 2 8 0).payload.take 8).length = false ∧
      aopOf ((rec_ 3 8 6).flags % 16) = some .cas ∧ (s.bondAtomic e a 4 .add 1 1 stPoison none).status = .ok) ∧
    (let s := { at_ 2000000 (fab [(0, F.YZF_JOB_MIG_STATE 0, 1)]) with yz := (fab []).yz }
     s.fld 0 (F.YZF_JOB_MIG_STATE (0 : Fin 16)) = 1 ∧ s.movedOpen (0 : Fin 16) = false ∧ 100000 ≤ s.nowNs ∧ 2000000 ≤ s.tombAge (0 : Fin 16) ∧ ¬ 2000000 ≤ (fab []).tombAge (0 : Fin 16)) := by
  refine ⟨?_, ?_, ?_, ?_, ?_, ?_⟩ <;> decide +kernel

/-- A packet not acknowledged by rank 2, sent on a path. -/
def tx (path : Option Nat) (stream : Option (Nat × Nat)) (recs : List YzRec) : YzTx := ⟨0, path, 0, 1, stream, pk 1 0 recs⟩

/-- An outstanding operation of channel 5's first descriptor. -/
def yop (hold : YzHold) (rank : Nat) : YzOp := ⟨9, 1, .chan 5 0, 0, rank, rec_ 2 8 0, [], hold, false, true⟩
def withOps (o : List YzOp) (s : State) : State := { s with yz := { s.yz with ops := o } }

theorem witness_FabricTimersAndMulticast :
    (let c := { (fab []).yzConn 0 2 with unacked := [tx (some 0) none [rec_ 2 8 0]] }; let s := withOps [yop .flight 2] (withConn c (fab []))
     (s.yzConn (0 : Fin 16) (2 : Fin 4096)).unacked.find? (fun x => decide (x.psn = (0 : BitVec 24).toNat)) = some (tx (some 0) none [rec_ 2 8 0]) ∧
      (s.yzConn (0 : Fin 16) (2 : Fin 4096)).unacked.find? (fun x => decide (x.psn = (1 : BitVec 24).toNat)) = none ∧ (tx (some 0) none [rec_ 2 8 0]).pkt.type = 1 ∧ (∃ q ∈ (tx (some 0) none [rec_ 2 8 0]).pkt.recs, ∃ o ∈ s.yz.ops, o.tag = q.tag) ∧
      (∀ q ∈ (tx (some 0) none [rec_ 2 8 0]).pkt.recs, ∀ o ∈ (fab []).yz.ops, o.tag ≠ q.tag) ∧ (tx none none []).path = none ∧ SMap.get (fun _ => 0) c.tmo 0 + 1 < 3 ∧ 3 ≤ SMap.get (fun _ => 0) { c with tmo := [(0, 2)] }.tmo 0 + 1) ∧
    (let c := { (fab []).yzConn 0 2 with withdrawn := [23] }; NSet.has (23 : Fin 24).val c.withdrawn = true ∧ NSet.has (0 : Fin 24).val c.withdrawn = false) ∧
    (let s := withOps [yop .flight 2] (strAt ⟨10, 0, 0, 0, 0, 0⟩)
     s.remoteWait (5 : Fin 2048) = true ∧ (fab []).remoteWait (5 : Fin 2048) = false ∧ (s.chan 5).exec = some (strx ⟨10, 0, 0, 0, 0, 0⟩ []) ∧ ((fab []).chan 5).drain = []) ∧
    (∀ h ∈ [YzHold.flight, .retry, .ahead, .epochHigh, .epochLow 0], ∀ r ∈ [1, 2, 3], let o := yop h r; let s := withOps [o] (fab [])
      s.opOf (9 : BitVec 32).toNat = some o ∧ o.hold = h ∧ o.owner = .chan 5 0 ∧ (o.rank = s.selfRank o.slot ↔ r = 1) ∧ ((s.rankEntry o.slot o.rank).2.2.1 = 1 ↔ r = 3) ∧ 0 ≤ s.fld 0 (F.YZF_JOB_EPOCH_EPOCH o.slot)) ∧
    ((fab []).opOf (9 : BitVec 32).toNat = none ∧ ({ yop .flight 2 with owner := .emb 7 3 }).owner = .emb 7 3) ∧
    (let s := fab []
     s.barOpen (.vf 1) F.YZF_EAS_MCAST_CTRL_LOAD.off = true ∧ s.unitAt (.vf 1) F.YZF_EAS_MCAST_CTRL_LOAD.off = 1 ∧ isVf (.vf 1) 1 = true ∧ isVf .pf0 1 = false ∧ s.inShare 1 0 32768 = true ∧ s.poisoned (bondKey 1 0) 32768 = false ∧
      (up []).inShare 1 0 32768 = false) ∧
    (let k := (5, 0); let c := { (fab []).yzConn 0 2 with unacked := List.replicate 64 (tx (some 0) (some k) []) }
     let s := withConn c (chn Chan.idle [(1, F.YZF_EAS_STATUS_MEMBER, 1), (0, F.YZF_JOB_RANKS_SELF 0, 1)])
     s.jobOf (s.chEasel (5 : Fin 2048)) = some 0 ∧ (up []).jobOf ((up []).chEasel (5 : Fin 2048)) = none ∧ (c.unacked ++ c.waiting).findSome? (fun x => x.stream.filter (fun k => decide (k.1 = (5 : Fin 2048).val))) = some k ∧
      64 ≤ s.streamSpan k ∧ c.ofStream k = s.streamSpan k ∧ (s.yzConn 0 3).ofStream k < s.streamSpan k) := by
  refine ⟨?_, ?_, ?_, ?_, ?_, ?_, ?_⟩ <;> decide +kernel

theorem witness_StepRunsTheFrontCommand : ({ up [] with pending := [.powerOnReset] } : State).pending = .powerOnReset :: [] := rfl

theorem witness_IdleStepAdvancesTheTimeOfDay :
    (let s := up []
     s.pending = [] ∧ s.eth.yzq = [] ∧ s.fld 0 F.PWR_STK_SR_SR = 0 ∧ s.fld 0 F.PWR_LINK_SLEEP_SLEEP = 0 ∧ (∀ i, i < 3 → s.fld 0 (F.PWR_TC_STATE_STATE i) = 0) ∧ s.flag 0 F.SEQ_STATUS_SAMPLER_BUSY = false ∧ s.hostUp = true ∧
      (∀ e, e < 64 → s.hostQueue e = []) ∧ s.runs .s = true ∧ State.reset.runs .s = false) ∧
    (let s := up []; let s := { s with cxl := { s.cxl with egress := [(0, [.msix 0 0])] } }; s.hostUp = true ∧ s.hostQueue 0 = .msix 0 0 :: []) ∧
    (let s := up [(0, F.CXL_LINK_MODE, 0), (0, F.SEQ_STATUS_SAMPLER_BUSY, 1), (63, F.SEQ_EAS_STATUS_PHASE, 2)]
     s.flag 0 F.SEQ_STATUS_SAMPLER_BUSY = true ∧ s.hostUp = false ∧ s.fld 63 F.SEQ_EAS_STATUS_PHASE = 2) := by
  refine ⟨?_, ?_, ?_⟩ <;> decide +kernel

theorem witness_EveryStepKeepsTheInvariant : ∃ t, step { up [] with pending := [.powerOnReset] } = .next t := ⟨_, rfl⟩

theorem witness_CanvasRegistersAreClosedToVfs :
    (vfs 2 (up [])).barOpen (.vf (1 : Fin 64)) 0x1FFFC = true ∧ 0x10000 ≤ 0x1FFFC ∧ 0x1FFFC < 0x20000 ∧ 0x1FFFC + 4 ≤ 0x20000 := by decide +kernel

theorem witness_ResetRegistersAreClosedToVfs :
    (vfs 2 (up [])).barOpen (.vf (1 : Fin 64)) 0x2FFFC = true ∧ 0x20000 ≤ 0x2FFFC ∧ 0x2FFFC < 0x30000 ∧ 0x2FFFC + 4 ≤ 0x30000 ∧ Requester.pf0 ≠ .atelier0 ∧ Requester.pf0 ≠ .atelier1 := by decide +kernel

/-! ### Each check of WellFormed.lean refuses an ill-formed command -/

theorem illformed_offset_beyond_the_window : (Instr.registerWrite .pf0 (2 ^ 26) 4 0).wf = false := by decide
theorem illformed_access_of_three_bytes : (Instr.lowRegisterRead .pf0 0 3).wf = false := by decide
theorem illformed_byte_above_255 : (Instr.fapiConfig 0 0 0 0 0 0 [256]).wf = false := by decide
theorem illformed_blob_not_rising : (Instr.seqOpen 0 ⟨8, [(1, 1), (1, 2)]⟩).wf = false := by decide
theorem illformed_blob_beyond_its_length : (Instr.romBoot (some ⟨8, [(8, 1)]⟩) none).wf = false := by decide
theorem illformed_blob_with_a_zero : (Instr.retouchCheck ⟨8, [(0, 0)]⟩ false).wf = false := by decide
theorem illformed_lane_of_an_error : (Instr.tcMatmul 0 [] [⟨.corrected, 0, 18⟩]).wf = false ∧ (Instr.vld 0 (some ⟨.corrected, 0, 32⟩)).wf = false := by decide
theorem illformed_scrub_lane : (Instr.patrolScrub 0 .corrected 18).wf = false := by decide
theorem illformed_record_fields : ∀ r ∈ [(⟨256, 0, 0, 0, 0, []⟩ : YzRec), ⟨1, 256, 0, 0, 0, []⟩, ⟨1, 0, 65536, 0, 0, []⟩, ⟨1, 0, 0, 2 ^ 32, 0, []⟩, ⟨1, 0, 0, 0, 2 ^ 64, []⟩, ⟨1, 0, 0, 0, 0, [256]⟩], r.wf = false := by decide
theorem illformed_packet_fields : let p := pk 3 0 []
    p.wf = true ∧ ∀ q ∈ [{ p with type := 256 }, { p with flags := 65536 }, { p with job := 2 ^ 32 }, { p with src := 4096 }, { p with dst := 4096 }, { p with epoch := 65536 }, { p with gen := 256 }, { p with psn := 2 ^ 24 },
      { p with ack := some (2 ^ 24) }, { p with lseq := 65536 }, { p with lack := 65536 }, { p with credit := 65536 }, { p with recs := [rec_ 2 8 0] }, pk 1 0 [], pk 2 0 (List.replicate 33 (rec_ 2 8 0))], q.wf = false := by decide +kernel
theorem illformed_frame_macs : (Instr.yarozAck 0 { fr 3 with dmac := 2 ^ 48 }).wf = false ∧ (Instr.yarozAck 0 { fr 3 with smac := 2 ^ 48 }).wf = false := by decide +kernel
theorem illformed_allocation : (pdu 8 1).wf = false ∧ { pdu 0 1 with rnti := 65536 }.wf = false ∧ { pdu 0 1 with syms := 2 ^ 14 }.wf = false ∧ { pdu 0 1 with bg := 3 }.wf = false := by decide
theorem illformed_plan_engine : (Instr.slotPlan 0 0 0 0 [item 7 [] 1]).wf = false := by decide
theorem illformed_memory_request : (MemAcc.load 0).wf = false ∧ (MemAcc.store [256]).wf = false ∧ (MemAcc.atomic 2 .add 0 0).wf = false ∧ (MemAcc.atomic 4 .add (2 ^ 32) 0).wf = false ∧ (MemAcc.atomic 4 .cas 0 (2 ^ 32)).wf = false ∧
    (Instr.bondedRequest 0 (2 ^ 46) (.load 1) none).wf = false := by decide
theorem illformed_host_memory_request : (CxlMemOp.read 65).wf = false ∧ (CxlMemOp.write []).wf = false ∧ (CxlMemOp.write [256]).wf = false ∧ (Instr.cxlMemRequest 0 (2 ^ 46) (.read 1) none).wf = false := by decide
theorem illformed_supply_measurement : (Instr.supplyMeasPeriod [0, 0, 0, 0, 0, 0]).wf = false := by decide
theorem illformed_spare_lane : (Instr.stackTrainingDone 0 [97] false false).wf = false := by decide
theorem illformed_stack_temperature : (Instr.stackTempReading 0 256 false).wf = false := by decide
theorem illformed_frame_number : (Instr.dlTtiRequest 0 0 1024 0 [] none).wf = false ∧ (Instr.ulDciRequest 0 0 1024 0 []).wf = false ∧ (Instr.txDataRequest 0 0 1024 0 []).wf = false := by decide
theorem illformed_array_latency : (Instr.grant (.tcore 0) 0 15 384 0).wf = false := by decide
theorem illformed_time_stamp : (Instr.ethFrameRx 0 [] true (2 ^ 80) 0 0).wf = false ∧ (Instr.ptpSyncTx 0 (2 ^ 80)).wf = false ∧ (Instr.ppsInEdge (2 ^ 80)).wf = false := by decide
theorem illformed_page : (Instr.atsInvalidation 0 [2 ^ 52] []).wf = false ∧ (Instr.atsInvalidation 0 [] [2 ^ 52]).wf = false := by decide
theorem illformed_temperatures : (Instr.dieSensorReading [1024] []).wf = false ∧ (Instr.coolantReading 1024 0).wf = false ∧ (Instr.coolantReading 0 1024).wf = false := by decide
theorem illformed_radio_powers : (Instr.admissionEvaluate 0 []).wf = false := by decide

/-! ### Numbers that the spec's own examples give -/

/-- Nothing is queued after reset. -/
theorem test_reset_pending : State.reset.pending = [] := rfl

/-- 04, the traced load: easel 5 spreads over the stacks; unit 149,121 lies in stack 9; its physical unit 48,284 gives channel 19, bank 1, row 2,011, column 3. -/
theorem test_place_of_a_load : (up []).stackOf 5 149121 = 9 ∧ stackLoc (48284 * 65536 + 0x2340) = ⟨19, 1, 2011, 3⟩ := by decide +kernel

/-- 05, four attention problems: T_pass is 511, the records' cycles 417, 449, 481 and 513. -/
theorem test_cycles_of_groups : let c : Cmd := ⟨7, 5, [1, 4 + 2 * 16 + 0 * 256 + 0 * 4096 + 6 * 65536, 128 + 30 * 65536, 128], false, 0, 0, false, false⟩
    c.tPass = 511 ∧ (List.range 4).map (fun g => c.cycles ⟨g, 0, 0, []⟩ 0) = [417, 449, 481, 513] := by decide +kernel

/-- 07 R214, R215: −5 shifted right by 1 is −3; VPACK of −40,000 gives −32,768 with SAT and 25,536 without. -/
theorem test_shift_and_saturation : (-5 : Int) / 2 ^ 1 = -3 ∧ fitTo 16 true (-40000) = ofInt 16 (-32768) ∧ fitTo 16 false (-40000) = 25536 := by decide +kernel

/-- 06 R185: 2^30 + 2^22 + 1 rounds to BF16 once, to 2^30 + 2^23. -/
theorem test_one_rounding_to_bf16 : convInt 6 0 (2 ^ 30 + 2 ^ 22 + 1) = encodeBf16 (.fin false (2 ^ 30 + 2 ^ 23) 0) := by decide +kernel

/-- 14, launch frames on one subport: after a frame that ends at 10,015.42 the next start slot is at 10,016.00; a frame pending at 10,180 may start at 10,180.48. -/
theorem test_start_slots : let s := eth 4 []
    s.slotTime 0 (s.slotFrom 0 1001542) = 1001600 ∧ s.slotTime 0 (s.slotFrom 0 1018000) = 1018048 ∧ s.slotTime 0 (s.slotFrom 0 999000) = 999040 ∧ s.lineTime 0 1542 = 1542 := by decide +kernel

/-- 15, a tenant burst: a depth of 1,449,568 bytes falls in bin 11, a delay of 4,870 ns in bin 7. -/
theorem test_histogram_bins : histBin 11 1449568 = 11 ∧ histBin 7 4870 = 7 := by decide +kernel

end Sys2Proof.Tests
end

/-! SUPPORT. The accesses to the registers (00 R3 to R10): what one aligned word does, by the kind of the register, and the statements about them. -/
namespace Sys2Proof.Machine

open Sys2Proof

/-! ### What an access reaches does not depend on what a requester holds, apart from its selections -/

@[simp] theorem State.barOpen_setCtx (s : State) (r : Requester) (c : ReqCtx) (q : Requester) (off : Nat) : (s.setCtx r c).barOpen q off = s.barOpen q off := by
  cases q <;> rfl

@[simp] theorem State.sees_setCtx (s : State) (r : Requester) (c : ReqCtx) (q : Requester) (off u : Nat) : (s.setCtx r c).sees q off u = s.sees q off u := by
  cases q <;> rfl

/-- A requester's selections are those of its context. -/
theorem State.selOf_of_sel {s t : State} {r : Requester} (h : (t.ctxOf r).sel = (s.ctxOf r).sel) (x : Selector) : t.selOf r x = s.selOf r x := by
  unfold State.selOf; rw [h]

/-- Requesters with the same selections address the same units (R7). -/
theorem State.unitAt_of_sel {s t : State} {r : Requester} (h : (t.ctxOf r).sel = (s.ctxOf r).sel) (off : Nat) : t.unitAt r off = s.unitAt r off := by
  unfold State.unitAt; simp only [State.selOf_of_sel h]

theorem State.unitAt_of_window (s : State) (r : Requester) {a b : Nat} (h : windowOf a = windowOf b) : s.unitAt r a = s.unitAt r b := by
  unfold State.unitAt; rw [h]

/-- PF0 and the Atelier cores see every register (R8, R10). -/
theorem State.sees_of_manages (s : State) {req : Requester} (h : req.manages = true) (off u : Nat) : s.sees req off u = true := by
  cases req with
  | vf n => exact absurd h Bool.false_ne_true
  | pf0 => rfl
  | atelier0 => rfl
  | atelier1 => rfl

/-! ### One access on the bus, by its size and alignment (R3) -/

theorem State.busWrite_word {s : State} {req : Requester} {off : Nat} (v : BitVec 64) (ho : s.barOpen req off = true) (ha : off % 4 = 0) :
    s.busWrite req off 4 v = s.writeWord req off (BitVec.ofNat 32 v.toNat) := by
  simp [State.busWrite, ho, ha]

theorem State.busWrite_odd (s : State) (req : Requester) {off size : Nat} (v : BitVec 64) (h : size = 1 ∨ size = 2 ∨ size = 4 ∧ off % 4 ≠ 0 ∨ size = 8 ∧ off % 8 ≠ 0) :
    s.busWrite req off size v = s := by
  have h8 : ¬(size = 8 ∧ off % 8 = 0) := by omega
  have h4 : ¬(size = 4 ∧ off % 4 = 0) := by omega
  simp only [State.busWrite, if_neg h8, if_neg h4, ite_self]

theorem State.busRead_word {s : State} {req : Requester} {off : Nat} (ho : s.barOpen req off = true) (ha : off % 4 = 0) :
    s.busRead req off 4 = (s.readReg req off).2.emit (.readData req off (s.readReg req off).1) := by
  simp [State.busRead, ho, ha]

theorem State.busRead_misaligned {s : State} {req : Requester} {off size : Nat} (ho : s.barOpen req off = true) (h : size = 4 ∧ off % 4 ≠ 0 ∨ size = 8 ∧ off % 8 ≠ 0) :
    s.busRead req off size = s.emit (.readData req off 0) := by
  have h8 : ¬(size = 8 ∧ off % 8 = 0) := by omega
  have h4 : ¬(size = 4 ∧ off % 4 = 0) := by omega
  have h1 : ¬(size = 1 ∨ size = 2) := by omega
  simp only [State.busRead, ho, if_neg h8, if_neg h4, if_neg h1, Bool.not_true, Bool.false_eq_true, if_false]

/-! ### Select registers (R8 to R10) -/

theorem selNum_injective : Function.Injective selNum := by
  have back : ∀ x, [Selector.strCh, .flw, .ethPort, .tcCore, .scCore, .eas, .memStk, .radCell, .fltInj, .egsNode, .clmZone][selNum x]? = some x := by
    intro x; cases x <;> rfl
  intro x y h
  exact Option.some.inj (by rw [← back x, h, back y])

theorem selOff_of_selectAt {off : Nat} {x : Selector} (h : selectAt off = some x) : selOff x = off := by
  simpa using List.find?_some h

theorem selOff_aligned (x : Selector) : selOff x % 4 = 0 := by cases x <;> rfl

theorem State.setSel_inRange (s : State) {req : Requester} {x : Selector} {v : Nat} (hw : selWritable req x = true) (hv : v < selRange x) :
    s.setSel req x v = s.setCtx req { s.ctxOf req with sel := SMap.set (fun _ => 0) (s.ctxOf req).sel (selNum x) v } := by
  simp [State.setSel, hw, hv]

theorem State.setSel_beyond (s : State) (req : Requester) {x : Selector} {v : Nat} (hv : selRange x ≤ v) : s.setSel req x v = s := by
  simp [State.setSel, Nat.not_lt.mpr hv]

/-- A selection that the requester may write is the one its context holds. -/
theorem State.selOf_writable (s : State) {req : Requester} {x : Selector} (hw : selWritable req x = true) : s.selOf req x = SMap.get (fun _ => 0) (s.ctxOf req).sel (selNum x) := by
  unfold State.selOf
  split
  · exact absurd hw Bool.false_ne_true
  · rfl

theorem State.selOf_setSel_same (s : State) {req : Requester} {x : Selector} {v : Nat} (hw : selWritable req x = true) (hv : v < selRange x) :
    (s.setSel req x v).selOf req x = v := by
  rw [State.selOf_writable _ hw, State.setSel_inRange s hw hv, State.ctxOf_setCtx_same, SMap.get_set_same]

/-- What a requester holds is held under its number. -/
theorem State.ctxOf_of_reqNum (s : State) {r q : Requester} (h : reqNum r = reqNum q) : s.ctxOf r = s.ctxOf q := by
  unfold State.ctxOf; rw [h]

/-- A select register changes its own requester's copy and no other selection (R8). -/
theorem State.selOf_setSel_other (s : State) {req : Requester} {x : Selector} {v : Nat} (hw : selWritable req x = true) (hv : v < selRange x) {r : Requester} {y : Selector}
    (h : reqNum r ≠ reqNum req ∨ y ≠ x) : (s.setSel req x v).selOf r y = s.selOf r y := by
  have held : SMap.get (fun _ => 0) ((s.setSel req x v).ctxOf r).sel (selNum y) = SMap.get (fun _ => 0) (s.ctxOf r).sel (selNum y) := by
    rw [State.setSel_inRange s hw hv]
    by_cases hr : reqNum r = reqNum req
    · have hy : y ≠ x := h.resolve_left (not_not.mpr hr)
      rw [State.ctxOf_of_reqNum _ hr, State.ctxOf_of_reqNum s hr, State.ctxOf_setCtx_same, SMap.get_set_ne _ _ _ (selNum_injective.ne hy)]
    · rw [State.ctxOf_setCtx_ne _ _ hr]
  unfold State.selOf
  split
  · rfl
  · exact held

theorem State.readReg_select (s : State) {req : Requester} {off : Nat} {x : Selector} (h : selectAt off = some x) (hw : selWritable req x = true) :
    s.readReg req off = (BitVec.ofNat 32 (s.selOf req x), s) := by
  simp [State.readReg, h, hw]

/-- Settles O1: a write in range sets the requester's own copy and one beyond it is discarded; the read of the register answers that copy. -/
theorem selectRegistersHoldTheirRange : Obligations.SelectRegistersHoldTheirRange := by
  intro s req x v hw ho
  have hx : exec (.selectRegisterWrite req x v) s = .next (s.setSel req x v.toNat) := Laws.access_open (fun _ => .next (s.setSel req x v.toNat)) ho
  refine ⟨fun hv => ⟨_, hx, State.selOf_setSel_same s hw hv, fun r y h => State.selOf_setSel_other s hw hv h, ?_⟩, fun hv => ?_, fun off hs hoff => ?_⟩
  · rw [State.setSel_inRange s hw hv]; exact ⟨rfl, rfl, rfl⟩
  · rw [hx, State.setSel_beyond s req hv]
  · have ha : off % 4 = 0 := selOff_of_selectAt hs ▸ selOff_aligned x
    change Host.Outcome.next (s.busRead req off 4) = _
    rw [State.busRead_word hoff ha, State.readReg_select s hs hw]

/-! ### A word of a plain register (R3 to R6) -/

/-- A plain register is no select register. -/
theorem ordinaryReg_selectAt {off : Nat} (h : ordinaryReg off = true) : selectAt off = none := by
  simp only [ordinaryReg, Bool.and_eq_true, Option.isNone_iff_eq_none] at h; tauto

theorem ordinaryReg_ownRow {off : Nat} (h : ordinaryReg off = true) : ownRow off = false := by
  simp only [ordinaryReg, Bool.and_eq_true, Bool.not_eq_true'] at h; tauto

theorem ordinaryReg_ne_rankQ {off : Nat} (h : ordinaryReg off = true) : off ≠ 0x240140 := by
  simp only [ordinaryReg, Bool.and_eq_true, decide_eq_true_eq] at h; tauto

theorem State.putReg_ordinary (s : State) {off : Nat} (u : Nat) (v : BitVec 32) {r : RegRow} (h : ordinaryReg off = true) (hr : regRow? off = some r) :
    s.putReg off u v = s.setReg u off (BitVec.ofNat 32 (r.write (s.reg u off).toNat v.toNat)) := by
  simp only [ordinaryReg, Bool.and_eq_true, decide_eq_true_eq, Bool.not_eq_true', List.contains_cons, List.contains_nil, Bool.or_false, Bool.or_eq_false_iff,
    beq_eq_false_iff_ne] at h
  obtain ⟨⟨⟨⟨-, hmbx⟩, hfq⟩, -⟩, heas, hseq, hemb, hflt⟩ := h
  rw [State.putReg, if_neg heas, if_neg hseq, if_neg hemb, if_neg hflt, if_neg (by omega), if_neg (by omega), hr]

theorem State.afterPtp_ordinary (s : State) {off : Nat} (h : ordinaryReg off = true) : s.afterPtp off = s := by
  simp only [ordinaryReg, Bool.and_eq_true, decide_eq_true_eq] at h
  obtain ⟨⟨-, hdomain, hmode, hport⟩, -⟩ := h
  rw [State.afterPtp, if_neg (fun k => k.elim hdomain fun ⟨hlo, hhi, hrow⟩ => by omega), if_neg hmode]

/-- A write that its requester may make, of a value its rule takes, changes a plain register by the access codes of its bits and nothing else. -/
theorem State.writeReg_ordinary (s : State) {req : Requester} {off u : Nat} {v : BitVec 32} {r : RegRow} (h : ordinaryReg off = true) (hr : regRow? off = some r)
    (hm : s.mayWrite req off u = true) (hv : s.valueOk off u v = true) :
    s.writeReg req off u v = s.setReg u off (BitVec.ofNat 32 (r.write (s.reg u off).toNat v.toNat)) := by
  simp only [State.writeReg, ordinaryReg_ownRow h, hm, hv, Bool.not_false, Bool.and_self, if_true, State.putReg_ordinary s u v h hr, State.afterPtp_ordinary _ h]

theorem State.writeWord_unseen (s : State) {req : Requester} {off : Nat} (v : BitVec 32) (hs : selectAt off = none) (hq : off ≠ 0x240140) (hu : s.sees req off (s.unitAt req off) = false) :
    s.writeWord req off v = s := by
  simp [State.writeWord, hs, hq, hu]

theorem State.writeWord_single (s : State) {req : Requester} {off : Nat} (v : BitVec 32) (hs : selectAt off = none) (hq : off ≠ 0x240140) (hu : s.sees req off (s.unitAt req off) = true)
    (hl : pairLow off = false) (hh : pairHigh off = false) : s.writeWord req off v = s.writeReg req off (s.unitAt req off) v := by
  simp [State.writeWord, hs, hq, hu, hl, hh]

theorem State.readReg_unseen (s : State) {req : Requester} {off : Nat} (hs : selectAt off = none) (hu : s.sees req off (s.unitAt req off) = false) :
    s.readReg req off = (0, s) := by
  simp [State.readReg, hs, hu]

/-- A register that PF0 and the Atelier cores write. -/
theorem State.mayWrite_of_manages (s : State) {req : Requester} {off : Nat} (u : Nat) (hw : writerOf off = .manages) (hm : req.manages = true) : s.mayWrite req off u = true := by
  simp [State.mayWrite, hw, hm]

/-- Settles O2: the write of a plain register goes by its access codes, and each access that R3 or R10 discards leaves the state as it is. -/
theorem accessesFollowTheAccessCodes : Obligations.AccessesFollowTheAccessCodes := by
  intro s req off v ho
  refine ⟨fun r h hl hh hm ha hr hw hv => ?_, fun size hsize => ?_, fun size hsize => ?_, fun hs hu ha => ⟨?_, fun hq => ?_⟩⟩
  · have hmay := s.mayWrite_of_manages (s.unitAt req off) hw hm
    have hsees := s.sees_of_manages hm off (s.unitAt req off)
    change Host.Outcome.next (s.busWrite req off 4 v) = _
    rw [State.busWrite_word v ho ha, State.writeWord_single s _ (ordinaryReg_selectAt h) (ordinaryReg_ne_rankQ h) hsees hl hh, State.writeReg_ordinary s h hr hmay hv, BitVec.toNat_ofNat]
  · exact congrArg Host.Outcome.next (s.busWrite_odd req v hsize)
  · exact congrArg Host.Outcome.next (State.busRead_misaligned ho hsize)
  · change Host.Outcome.next (s.busRead req off 4) = _
    rw [State.busRead_word ho ha, State.readReg_unseen s hs hu]
  · change Host.Outcome.next (s.busWrite req off 4 v) = _
    rw [State.busWrite_word v ho ha, State.writeWord_unseen s _ hs hq hu]

/-! ### The halves of a 64-bit pair (R5) -/

/-- What a requester holds after a write of a pair's low half: the value, until it writes the high half. -/
def ReqCtx.holdLow (c : ReqCtx) (u off : Nat) (v : BitVec 32) : ReqCtx := { c with held := SMap.set (fun _ => 0) c.held (regKey u off) (1 + v.toNat) }

/-- What a requester holds once a held low half has taken effect. -/
def ReqCtx.dropLow (c : ReqCtx) (u off : Nat) : ReqCtx := { c with held := SMap.set (fun _ => 0) c.held (regKey u off) 0 }

/-- What a requester holds after a read of a pair's low half: the high half as it was. -/
def ReqCtx.snapHigh (c : ReqCtx) (u off : Nat) (w : BitVec 32) : ReqCtx := { c with snap := SMap.set (fun _ => 0) c.snap (regKey u off) (1 + w.toNat) }

/-- What a requester holds once it has read the high half from its snapshot. -/
def ReqCtx.dropSnap (c : ReqCtx) (u off : Nat) : ReqCtx := { c with snap := SMap.set (fun _ => 0) c.snap (regKey u off) 0 }

@[simp] theorem ReqCtx.holdLow_sel (c : ReqCtx) (u off : Nat) (v : BitVec 32) : (c.holdLow u off v).sel = c.sel := rfl

@[simp] theorem ReqCtx.holdLow_held (c : ReqCtx) (u off : Nat) (v : BitVec 32) : SMap.get (fun _ => 0) (c.holdLow u off v).held (regKey u off) = 1 + v.toNat :=
  SMap.get_set_same _ _ _ _

@[simp] theorem ReqCtx.snapHigh_snap (c : ReqCtx) (u off : Nat) (w : BitVec 32) : SMap.get (fun _ => 0) (c.snapHigh u off w).snap (regKey u off) = 1 + w.toNat :=
  SMap.get_set_same _ _ _ _

/-- The two halves of a pair lie under keys of their own. -/
theorem regKey_high_ne (u off : Nat) : regKey u (off + 4) ≠ regKey u off := by
  unfold regKey; omega

theorem pairHigh_of_pairLow {off : Nat} (h : pairLow off = true) : pairHigh (off + 4) = true := by
  simp [pairHigh, h]

theorem State.writeWord_low (s : State) {req : Requester} {off : Nat} (v : BitVec 32) (h : ordinaryReg off = true) (hu : s.sees req off (s.unitAt req off) = true)
    (hl : pairLow off = true) (hw : pairWritable off = true) : s.writeWord req off v = s.setCtx req ((s.ctxOf req).holdLow (s.unitAt req off) off v) := by
  simp [State.writeWord, ordinaryReg_selectAt h, ordinaryReg_ne_rankQ h, hu, hl, hw, ReqCtx.holdLow]

/-- A write of the high half with the low half held writes both. -/
theorem State.writeWord_high (s : State) {req : Requester} {off : Nat} {lo : BitVec 32} (hi : BitVec 32) (h : ordinaryReg (off + 4) = true)
    (hu : s.sees req (off + 4) (s.unitAt req (off + 4)) = true) (hl : pairLow off = true) (hl' : pairLow (off + 4) = false) (hw : pairWritable (off + 4) = true)
    (hheld : SMap.get (fun _ => 0) (s.ctxOf req).held (regKey (s.unitAt req (off + 4)) off) = 1 + lo.toNat) :
    s.writeWord req (off + 4) hi =
      (s.setCtx req ((s.ctxOf req).dropLow (s.unitAt req (off + 4)) off)).writePair req off (s.unitAt req (off + 4)) lo hi := by
  simp [State.writeWord, ordinaryReg_selectAt h, ordinaryReg_ne_rankQ h, hu, hl', pairHigh_of_pairLow hl, hw, hheld, ReqCtx.dropLow]

/-- Both halves of a plain pair by their access codes. -/
theorem State.writePair_ordinary (s : State) {req : Requester} {off u : Nat} {lo hi : BitVec 32} {r1 r2 : RegRow} (h1 : ordinaryReg off = true) (h2 : ordinaryReg (off + 4) = true)
    (hr1 : regRow? off = some r1) (hr2 : regRow? (off + 4) = some r2) {w1 : BitVec 32} (hw1 : w1 = BitVec.ofNat 32 (r1.write (s.reg u off).toNat lo.toNat))
    (hm1 : s.mayWrite req off u = true) (hm2 : (s.setReg u off w1).mayWrite req (off + 4) u = true)
    (hv1 : s.valueOk off u lo = true) (hv2 : (s.setReg u off w1).valueOk (off + 4) u hi = true) :
    s.writePair req off u lo hi = (s.setReg u off w1).setReg u (off + 4) (BitVec.ofNat 32 (r2.write (s.reg u (off + 4)).toNat hi.toNat)) := by
  rw [State.writePair, State.writeReg_ordinary s h1 hr1 hm1 hv1, ← hw1, State.writeReg_ordinary _ h2 hr2 hm2 hv2, State.reg_setReg_ne s w1 (regKey_high_ne u off)]

/-- A register whose read answers it as it stands: none that a read first brings up to date (08 R267; 17 R509; 20 R570), and none of the time of day's (16 R481). -/
structure PlainRead (off : Nat) : Prop where
  misses : off ≠ F.CXL_ATC_MISSES.off
  grant : off ≠ F.TRU_GRANT_LEFT_S.off
  util : off ≠ F.RAD_LDPC_UTIL_W.off
  time : ¬(F.TOD_NOW_FRAC_FRAC.off ≤ off ∧ off ≤ F.TOD_NOW_NS_HI_NS.off)

theorem State.refresh_plain (s : State) {off : Nat} (h : PlainRead off) : s.refresh off = s := by
  rw [State.refresh, if_neg h.util, if_neg h.misses, if_neg (fun k => h.grant k.1)]

/-- A read of the low half answers it and snapshots the high one. -/
theorem State.readReg_low (s : State) {req : Requester} {off u : Nat} (hs : selectAt off = none) (he : s.unitAt req off = u) (hu : s.sees req off u = true) (hp : PlainRead off)
    (hl : pairLow off = true) :
    s.readReg req off = (s.shownWord req u off, s.setCtx req ((s.ctxOf req).snapHigh u (off + 4) (s.shownWord req u (off + 4)))) := by
  simp [State.readReg, hs, he, hu, hp.time, State.refresh_plain s hp, hl, ReqCtx.snapHigh]

/-- A read of the high half with a snapshot answers the snapshot. -/
theorem State.readReg_snapped (s : State) {req : Requester} {off u : Nat} {x : BitVec 32} (hs : selectAt off = none) (he : s.unitAt req off = u) (hu : s.sees req off u = true)
    (hp : PlainRead off) (hl : pairLow off = false) (hh : pairHigh off = true) (hx : SMap.get (fun _ => 0) (s.ctxOf req).snap (regKey u off) = 1 + x.toNat) :
    s.readReg req off = (x, s.setCtx req ((s.ctxOf req).dropSnap u off)) := by
  simp [State.readReg, hs, he, hu, hp.time, State.refresh_plain s hp, hl, hh, hx, ReqCtx.dropSnap]

/-- A 32-bit write carries its word in the low half of the operand. -/
theorem word_of_operand (v : BitVec 32) : BitVec.ofNat 32 (v.setWidth 64).toNat = v := by
  rw [BitVec.ofNat_toNat, BitVec.setWidth_setWidth_of_le v (by decide), BitVec.setWidth_eq]

/-- A write of a pair's low half waits in the requester's context. -/
theorem State.busWrite_low {s : State} {req : Requester} {off u : Nat} (lo : BitVec 32) (h : ordinaryReg off = true) (ha : off % 4 = 0) (he : s.unitAt req off = u)
    (ho : s.barOpen req off = true) (hu : s.sees req off u = true) (hl : pairLow off = true) (hw : pairWritable off = true) :
    s.busWrite req off 4 (lo.setWidth 64) = s.setCtx req ((s.ctxOf req).holdLow u off lo) := by
  rw [State.busWrite_word _ ho ha, word_of_operand, State.writeWord_low s lo h (he ▸ hu) hl hw, he]

/-- The write of the high half that follows it writes both halves. -/
theorem State.busWrite_high {s : State} {req : Requester} {off u : Nat} (lo hi : BitVec 32) (h : ordinaryReg (off + 4) = true) (ha : off % 4 = 0) (he : s.unitAt req (off + 4) = u)
    (ho : s.barOpen req (off + 4) = true) (hu : s.sees req (off + 4) u = true) (hl : pairLow off = true) (hl' : pairLow (off + 4) = false) (hw : pairWritable (off + 4) = true) :
    (s.setCtx req ((s.ctxOf req).holdLow u off lo)).busWrite req (off + 4) 4 (hi.setWidth 64) =
      ((s.setCtx req ((s.ctxOf req).holdLow u off lo)).setCtx req (((s.ctxOf req).holdLow u off lo).dropLow u off)).writePair req off u lo hi := by
  have hctx := State.ctxOf_setCtx_same s req ((s.ctxOf req).holdLow u off lo)
  have hunit : (s.setCtx req ((s.ctxOf req).holdLow u off lo)).unitAt req (off + 4) = u := (State.unitAt_of_sel (by rw [hctx, ReqCtx.holdLow_sel]) _).trans he
  rw [State.busWrite_word _ ((State.barOpen_setCtx ..).trans ho) (by omega), word_of_operand,
    State.writeWord_high (lo := lo) _ hi h (by rw [hunit, State.sees_setCtx, hu]) hl hl' hw (by rw [hunit, hctx, ReqCtx.holdLow_held]), hunit, hctx]

/-- Settles O3: the low half waits in the requester's context and takes effect with the high half; the read of the low half puts the high one there, and the next read takes it out. -/
theorem pairHalvesTakeEffectTogether : Obligations.PairHalvesTakeEffectTogether := by
  intro s req off u hl hl' ha h1 h2 hu hwin ho hs1 hs2
  have hu' : s.unitAt req (off + 4) = u := hu ▸ s.unitAt_of_window req hwin
  refine ⟨fun ho' lo hi r1 r2 hw1 hw2 hr1 hr2 hm1 hm2 hv1 hv2 => ?_, fun hatc hgrant hatc' hgrant' hldpc hldpc' htod => ?_⟩
  · have hlow := State.busWrite_low lo h1 ha hu.symm ho hs1 hl hw1
    have hhigh := State.busWrite_high lo hi h2 ha hu' ho' hs2 hl hl' hw2
    have hboth := hhigh.trans (State.writePair_ordinary _ h1 h2 hr1 hr2 rfl hm1 hm2 hv1 hv2)
    exact ⟨_, congrArg Host.Outcome.next hlow, rfl, _, congrArg Host.Outcome.next hboth,
      (State.reg_setReg_ne _ _ (regKey_high_ne u off).symm).trans (State.reg_setReg_same ..), State.reg_setReg_same .., rfl, rfl⟩
  · have hp : PlainRead off := ⟨hatc, hgrant, hldpc, by omega⟩
    have hp' : PlainRead (off + 4) := ⟨hatc', hgrant', hldpc', by omega⟩
    have hlow := State.busRead_word ho ha
    rw [State.readReg_low s (ordinaryReg_selectAt h1) hu.symm hs1 hp hl] at hlow
    refine ⟨_, congrArg Host.Outcome.next hlow, rfl, fun w hctx huw how hsw => ?_⟩
    have hheld : w.ctxOf req = (s.ctxOf req).snapHigh u (off + 4) (s.shownWord req u (off + 4)) := hctx.trans (State.ctxOf_setCtx_same ..)
    have hhigh := State.busRead_word how (by omega)
    rw [State.readReg_snapped w (ordinaryReg_selectAt h2) huw hsw hp' hl' (pairHigh_of_pairLow hl) (by rw [hheld, ReqCtx.snapHigh_snap])] at hhigh
    exact ⟨_, congrArg Host.Outcome.next hhigh, rfl⟩

end Sys2Proof.Machine

/-! SUPPORT. The whole table: each command answers a next state that follows (Safety.lean), and the statements about a step. -/
namespace Sys2Proof.Machine

open Sys2Proof

/-- A result is a next state, and it follows. -/
def Res.Answers (s : State) (r : Res) : Prop := ∃ t, r = .next t ∧ s.Follows t

/-- A meaning that answers a next state, and whose next states follow, answers one that follows. -/
theorem Res.Answers.intro {s : State} {r : Res} (hn : ∃ t, r = .next t) (hf : Res.Follows s r) : Res.Answers s r := by
  obtain ⟨t, rfl⟩ := hn
  exact ⟨t, rfl, hf⟩

/-- Each row of the command table answers a next state that follows. -/
theorem exec_answers (c : Instr) (s : State) : Res.Answers s (exec c s) := by
  have hs : s.Follows s := .refl s
  cases c with
  | registerWrite req off size value => exact .intro (execRegisterWrite_next req off size value s) (execRegisterWrite_follows req off size value hs)
  | lowRegisterRead req off size => exact .intro (execLowRegisterRead_next req off size s) (execLowRegisterRead_follows req off size hs)
  | pairedHighWrite req off value => exact .intro (execPairedHighWrite_next req off value s) (execPairedHighWrite_follows req off value hs)
  | selectRegisterWrite req sel value => exact .intro (execSelectRegisterWrite_next req sel value s) (execSelectRegisterWrite_follows req sel value hs)
  | powerOnReset => exact .intro (execPowerOnReset_next s) (execPowerOnReset_follows hs)
  | cardResetAssert => exact .intro (execCardResetAssert_next s) (execCardResetAssert_follows hs)
  | cardResetRelease => exact .intro (execCardResetRelease_next s) (execCardResetRelease_follows hs)
  | perstAssert => exact .intro (execPerstAssert_next s) (execPerstAssert_follows hs)
  | perstRelease => exact .intro (execPerstRelease_next s) (execPerstRelease_follows hs)
  | cxlHotReset => exact .intro (execCxlHotReset_next s) (execCxlHotReset_follows hs)
  | linkDisable => exact .intro (execLinkDisable_next s) (execLinkDisable_follows hs)
  | linkReenable => exact .intro (execLinkReenable_next s) (execLinkReenable_follows hs)
  | clockLoss doms ref root => exact .intro (execClockLoss_next doms ref root s) (execClockLoss_follows doms ref root hs)
  | referenceReturn => exact .intro (execReferenceReturn_next s) (execReferenceReturn_follows hs)
  | rootPllLock => exact .intro (execRootPllLock_next s) (execRootPllLock_follows hs)
  | domainSettle d => exact .intro (execDomainSettle_next d s) (execDomainSettle_follows d hs)
  | watchdogExpiry => exact .intro (execWatchdogExpiry_next s) (execWatchdogExpiry_follows hs)
  | watchdogKick req value => exact .intro (execWatchdogKick_next req value s) (execWatchdogKick_follows req value hs)
  | railResetLevel rails => exact .intro (execRailResetLevel_next rails s) (execRailResetLevel_follows rails hs)
  | railOverVoltage rails => exact .intro (execRailOverVoltage_next rails s) (execRailOverVoltage_follows rails hs)
  | braceEntry rails => exact .intro (execBraceEntry_next rails s) (execBraceEntry_follows rails hs)
  | braceExit us => exact .intro (execBraceExit_next us s) (execBraceExit_follows us hs)
  | supplyMeasPeriod mv => exact .intro (execSupplyMeasPeriod_next mv s) (execSupplyMeasPeriod_follows mv hs)
  | softResetChip req key target force => exact .intro (execSoftResetChip_next req key target force s) (execSoftResetChip_follows req key target force hs)
  | softResetIoDie req key target force => exact .intro (execSoftResetIoDie_next req key target force s) (execSoftResetIoDie_follows req key target force hs)
  | softResetPanel req key target force => exact .intro (execSoftResetPanel_next req key target force s) (execSoftResetPanel_follows req key target force hs)
  | softResetCore req key target force => exact .intro (execSoftResetCore_next req key target force s) (execSoftResetCore_follows req key target force hs)
  | softResetHoldEnd => exact .intro (execSoftResetHoldEnd_next s) (execSoftResetHoldEnd_follows hs)
  | softResetDone => exact .intro (execSoftResetDone_next s) (execSoftResetDone_follows hs)
  | panelRetrainDone trained => exact .intro (execPanelRetrainDone_next trained s) (execPanelRetrainDone_follows trained hs)
  | romBoot flash ident => exact .intro (execRomBoot_next flash ident s) (execRomBoot_follows flash ident hs)
  | applyBegin lost => exact .intro (execApplyBegin_next lost s) (execApplyBegin_follows lost hs)
  | stackTrainingDone trained spares filled lost => exact .intro (execStackTrainingDone_next trained spares filled lost s) (execStackTrainingDone_follows trained spares filled lost hs)
  | easel0Start us => exact .intro (execEasel0Start_next us s) (execEasel0Start_follows us hs)
  | retouchGo req => exact .intro (execRetouchGo_next req s) (execRetouchGo_follows req hs)
  | retouchCheck data fail => exact .intro (execRetouchCheck_next data fail s) (execRetouchCheck_follows data fail hs)
  | retouchCancel req types => exact .intro (execRetouchCancel_next req types s) (execRetouchCancel_follows req types hs)
  | shaperRefill => exact .intro (execShaperRefill_next s) (execShaperRefill_follows hs)
  | bondedRequest easel addr acc ecc => exact .intro (execBondedRequest_next easel addr acc ecc s) (execBondedRequest_follows easel addr acc ecc hs)
  | bankPageTimeout stack channel bank => exact .intro (execBankPageTimeout_next stack channel bank s) (execBankPageTimeout_follows stack channel bank hs)
  | stackRefresh stack channel bank => exact .intro (execStackRefresh_next stack channel bank s) (execStackRefresh_follows stack channel bank hs)
  | stackTempReading stack temp bad => exact .intro (execStackTempReading_next stack temp bad s) (execStackTempReading_follows stack temp bad hs)
  | patrolScrub stack ecc lane => exact .intro (execPatrolScrub_next stack ecc lane s) (execPatrolScrub_follows stack ecc lane hs)
  | memReleaseGo req => exact .intro (execMemReleaseGo_next req s) (execMemReleaseGo_follows req hs)
  | memReleaseDone easel => exact .intro (execMemReleaseDone_next easel s) (execMemReleaseDone_follows easel hs)
  | tcMatmul core faults ecc => exact .intro (execTcMatmul_next core faults ecc s) (execTcMatmul_follows core faults ecc hs)
  | tcElemwise core faults ecc => exact .intro (execTcElemwise_next core faults ecc s) (execTcElemwise_follows core faults ecc hs)
  | tcRelease core => exact .intro (execTcRelease_next core s) (execTcRelease_follows core hs)
  | tcMark core => exact .intro (execTcMark_next core s) (execTcMark_follows core hs)
  | tcPreload core ecc => exact .intro (execTcPreload_next core ecc s) (execTcPreload_follows core ecc hs)
  | tcCompletion core id group cycles busy => exact .intro (execTcCompletion_next core id group cycles busy s) (execTcCompletion_follows core id group cycles busy hs)
  | scRun core => exact .intro (execScRun_next core s) (execScRun_follows core hs)
  | scRelease core => exact .intro (execScRelease_next core s) (execScRelease_follows core hs)
  | scMark core => exact .intro (execScMark_next core s) (execScMark_follows core hs)
  | scLoadprog core ecc => exact .intro (execScLoadprog_next core ecc s) (execScLoadprog_follows core ecc hs)
  | scCompletion core pm parkedCyc => exact .intro (execScCompletion_next core pm parkedCyc s) (execScCompletion_follows core pm parkedCyc hs)
  | nop core => exact .intro (execNop_next core s) (execNop_follows core hs)
  | vadd core => exact .intro (execVadd_next core s) (execVadd_follows core hs)
  | vsub core => exact .intro (execVsub_next core s) (execVsub_follows core hs)
  | vmac core => exact .intro (execVmac_next core s) (execVmac_follows core hs)
  | vcmac core => exact .intro (execVcmac_next core s) (execVcmac_follows core hs)
  | tapC core => exact .intro (execTapC_next core s) (execTapC_follows core hs)
  | tapR core => exact .intro (execTapR_next core s) (execTapR_follows core hs)
  | vpack core => exact .intro (execVpack_next core s) (execVpack_follows core hs)
  | vshr core => exact .intro (execVshr_next core s) (execVshr_follows core hs)
  | vshl core => exact .intro (execVshl_next core s) (execVshl_follows core hs)
  | vmax core => exact .intro (execVmax_next core s) (execVmax_follows core hs)
  | vmin core => exact .intro (execVmin_next core s) (execVmin_follows core hs)
  | vconj core => exact .intro (execVconj_next core s) (execVconj_follows core hs)
  | vsel core => exact .intro (execVsel_next core s) (execVsel_follows core hs)
  | vclr core => exact .intro (execVclr_next core s) (execVclr_follows core hs)
  | vld core ecc => exact .intro (execVld_next core ecc s) (execVld_follows core ecc hs)
  | vst core => exact .intro (execVst_next core s) (execVst_follows core hs)
  | ldf core ecc => exact .intro (execLdf_next core ecc s) (execLdf_follows core ecc hs)
  | ld core ecc => exact .intro (execLd_next core ecc s) (execLd_follows core ecc hs)
  | st core => exact .intro (execSt_next core s) (execSt_follows core hs)
  | vperm core => exact .intro (execVperm_next core s) (execVperm_follows core hs)
  | add core => exact .intro (execAdd_next core s) (execAdd_follows core hs)
  | sub core => exact .intro (execSub_next core s) (execSub_follows core hs)
  | andS core => exact .intro (execAndS_next core s) (execAndS_follows core hs)
  | orS core => exact .intro (execOrS_next core s) (execOrS_follows core hs)
  | xorS core => exact .intro (execXorS_next core s) (execXorS_follows core hs)
  | shl core => exact .intro (execShl_next core s) (execShl_follows core hs)
  | shr core => exact .intro (execShr_next core s) (execShr_follows core hs)
  | cmp core => exact .intro (execCmp_next core s) (execCmp_follows core hs)
  | br core => exact .intro (execBr_next core s) (execBr_follows core hs)
  | repeatLoop core => exact .intro (execRepeatLoop_next core s) (execRepeatLoop_follows core hs)
  | semtry core => exact .intro (execSemtry_next core s) (execSemtry_follows core hs)
  | semsig core => exact .intro (execSemsig_next core s) (execSemsig_follows core hs)
  | doneCmd core => exact .intro (execDoneCmd_next core s) (execDoneCmd_follows core hs)
  | repeatCeiling core parkedCyc => exact .intro (execRepeatCeiling_next core parkedCyc s) (execRepeatCeiling_follows core parkedCyc hs)
  | overrun core => exact .intro (execOverrun_next core s) (execOverrun_follows core hs)
  | preemptSwitch core ecc => exact .intro (execPreemptSwitch_next core ecc s) (execPreemptSwitch_follows core ecc hs)
  | debugHalt core => exact .intro (execDebugHalt_next core s) (execDebugHalt_follows core hs)
  | fapiParam qp cell => exact .intro (execFapiParam_next qp cell s) (execFapiParam_follows qp cell hs)
  | fapiConfig qp cell prbs scs ports duplex body => exact .intro (execFapiConfig_next qp cell prbs scs ports duplex body s) (execFapiConfig_follows qp cell prbs scs ports duplex body hs)
  | fapiStart qp cell => exact .intro (execFapiStart_next qp cell s) (execFapiStart_follows qp cell hs)
  | fapiStop qp cell => exact .intro (execFapiStop_next qp cell s) (execFapiStop_follows qp cell hs)
  | dlTtiRequest qp cell sfn slot pdus mib => exact .intro (execDlTtiRequest_next qp cell sfn slot pdus mib s) (execDlTtiRequest_follows qp cell sfn slot pdus mib hs)
  | ulTtiRequest qp cell sfn slot pdus => exact .intro (execUlTtiRequest_next qp cell sfn slot pdus s) (execUlTtiRequest_follows qp cell sfn slot pdus hs)
  | ulDciRequest qp cell sfn slot pdus => exact .intro (execUlDciRequest_next qp cell sfn slot pdus s) (execUlDciRequest_follows qp cell sfn slot pdus hs)
  | txDataRequest qp cell sfn slot tbs => exact .intro (execTxDataRequest_next qp cell sfn slot tbs s) (execTxDataRequest_follows qp cell sfn slot tbs hs)
  | slotIndication cell => exact .intro (execSlotIndication_next cell s) (execSlotIndication_follows cell hs)
  | requestDeadline cell n => exact .intro (execRequestDeadline_next cell n s) (execRequestDeadline_follows cell n hs)
  | slotPlan cell n kNow sNow items => exact .intro (execSlotPlan_next cell n kNow sNow items s) (execSlotPlan_follows cell n kNow sNow items hs)
  | ulWindowClose cell n sym => exact .intro (execUlWindowClose_next cell n sym s) (execUlWindowClose_follows cell n sym hs)
  | ldpcDecodeDone cell n handle cb soft fault => exact .intro (execLdpcDecodeDone_next cell n handle cb soft fault s) (execLdpcDecodeDone_follows cell n handle cb soft fault hs)
  | resultDeadline cell n => exact .intro (execResultDeadline_next cell n s) (execResultDeadline_follows cell n hs)
  | harqAgeExpiry cell rnti harq => exact .intro (execHarqAgeExpiry_next cell rnti harq s) (execHarqAgeExpiry_follows cell rnti harq hs)
  | ldpcEncodeDone cell n item fault => exact .intro (execLdpcEncodeDone_next cell n item fault s) (execLdpcEncodeDone_follows cell n item fault hs)
  | fftDone cell n item fault => exact .intro (execFftDone_next cell n item fault s) (execFftDone_follows cell n item fault hs)
  | polarDecodeDone cell n item fault => exact .intro (execPolarDecodeDone_next cell n item fault s) (execPolarDecodeDone_follows cell n item fault hs)
  | dlDataCheck cell n sym => exact .intro (execDlDataCheck_next cell n sym s) (execDlDataCheck_follows cell n sym hs)
  | radioShed cell n item now => exact .intro (execRadioShed_next cell n item now s) (execRadioShed_follows cell n item now hs)
  | cellSlotBoundary cell => exact .intro (execCellSlotBoundary_next cell s) (execCellSlotBoundary_follows cell hs)
  | ssbHoldExpiry cell => exact .intro (execSsbHoldExpiry_next cell s) (execSsbHoldExpiry_follows cell hs)
  | channelArm req => exact .intro (execChannelArm_next req s) (execChannelArm_follows req hs)
  | channelResume req => exact .intro (execChannelResume_next req s) (execChannelResume_follows req hs)
  | channelSkip req => exact .intro (execChannelSkip_next req s) (execChannelSkip_follows req hs)
  | channelAbort req => exact .intro (execChannelAbort_next req s) (execChannelAbort_follows req hs)
  | semaphoreSet req value => exact .intro (execSemaphoreSet_next req value s) (execSemaphoreSet_follows req value hs)
  | descriptorFetchDone ch host fail => exact .intro (execDescriptorFetchDone_next ch host fail s) (execDescriptorFetchDone_follows ch host fail hs)
  | threadTake ch thread => exact .intro (execThreadTake_next ch thread s) (execThreadTake_follows ch thread hs)
  | strokeStart ch ecc => exact .intro (execStrokeStart_next ch ecc s) (execStrokeStart_follows ch ecc hs)
  | dim ch => exact .intro (execDim_next ch s) (execDim_follows ch hs)
  | strokeRun ch => exact .intro (execStrokeRun_next ch s) (execStrokeRun_follows ch hs)
  | wrap ch => exact .intro (execWrap_next ch s) (execWrap_follows ch hs)
  | gather ch => exact .intro (execGather_next ch s) (execGather_follows ch hs)
  | moveNest ch host idx hostFail ecc => exact .intro (execMoveNest_next ch host idx hostFail ecc s) (execMoveNest_follows ch host idx hostFail ecc hs)
  | adv ch => exact .intro (execAdv_next ch s) (execAdv_follows ch hs)
  | loopStroke ch => exact .intro (execLoopStroke_next ch s) (execLoopStroke_follows ch hs)
  | swait ch => exact .intro (execSwait_next ch s) (execSwait_follows ch hs)
  | ssig ch => exact .intro (execSsig_next ch s) (execSsig_follows ch hs)
  | fence ch => exact .intro (execFence_next ch s) (execFence_follows ch hs)
  | strokeArm ch => exact .intro (execStrokeArm_next ch s) (execStrokeArm_follows ch hs)
  | endStroke ch => exact .intro (execEndStroke_next ch s) (execEndStroke_follows ch hs)
  | semaphoreSignalArrival sem => exact .intro (execSemaphoreSignalArrival_next sem s) (execSemaphoreSignalArrival_follows sem hs)
  | descriptorComplete ch => exact .intro (execDescriptorComplete_next ch s) (execDescriptorComplete_follows ch hs)
  | paletteReadResume ch => exact .intro (execPaletteReadResume_next ch s) (execPaletteReadResume_follows ch hs)
  | granuleWaitResume ch => exact .intro (execGranuleWaitResume_next ch s) (execGranuleWaitResume_follows ch hs)
  | sqTailWrite req tail => exact .intro (execSqTailWrite_next req tail s) (execSqTailWrite_follows req tail hs)
  | easelEnable req => exact .intro (execEaselEnable_next req s) (execEaselEnable_follows req hs)
  | submitTCore easel host => exact .intro (execSubmitTCore_next easel host s) (execSubmitTCore_follows easel host hs)
  | submitSCore easel host => exact .intro (execSubmitSCore_next easel host s) (execSubmitSCore_follows easel host hs)
  | submitChannelArm easel host => exact .intro (execSubmitChannelArm_next easel host s) (execSubmitChannelArm_follows easel host hs)
  | grant eng t ready pLive early => exact .intro (execGrant_next eng t ready pLive early s) (execGrant_follows eng t ready pLive early hs)
  | toNormal req key => exact .intro (execToNormal_next req key s) (execToNormal_follows req key hs)
  | toPartitioned req key => exact .intro (execToPartitioned_next req key s) (execToPartitioned_follows req key hs)
  | cqHeadWrite req head => exact .intro (execCqHeadWrite_next req head s) (execCqHeadWrite_follows req head hs)
  | parkedWaitDone ch => exact .intro (execParkedWaitDone_next ch s) (execParkedWaitDone_follows ch hs)
  | seqEnable req auto => exact .intro (execSeqEnable_next req auto s) (execSeqEnable_follows req auto hs)
  | seqOpen easel host => exact .intro (execSeqOpen_next easel host s) (execSeqOpen_follows easel host hs)
  | seqClose easel host => exact .intro (execSeqClose_next easel host s) (execSeqClose_follows easel host hs)
  | stepBuild easel host => exact .intro (execStepBuild_next easel host s) (execStepBuild_follows easel host hs)
  | buildRetry easel => exact .intro (execBuildRetry_next easel s) (execBuildRetry_follows easel hs)
  | sampleDraft easel host ecc => exact .intro (execSampleDraft_next easel host ecc s) (execSampleDraft_follows easel host ecc hs)
  | sampleFinal easel host ecc => exact .intro (execSampleFinal_next easel host ecc s) (execSampleFinal_follows easel host ecc hs)
  | draftPut easel host => exact .intro (execDraftPut_next easel host s) (execDraftPut_follows easel host hs)
  | seqSwapOut easel host => exact .intro (execSeqSwapOut_next easel host s) (execSeqSwapOut_follows easel host hs)
  | seqSwapIn easel host => exact .intro (execSeqSwapIn_next easel host s) (execSeqSwapIn_follows easel host hs)
  | swapCopyDone easel index host fail => exact .intro (execSwapCopyDone_next easel index host fail s) (execSwapCopyDone_follows easel index host fail hs)
  | varnish easel => exact .intro (execVarnish_next easel s) (execVarnish_follows easel hs)
  | seqLose req easel all index key => exact .intro (execSeqLose_next req easel all index key s) (execSeqLose_follows req easel all index key hs)
  | seqPeek req index underpaint => exact .intro (execSeqPeek_next req index underpaint s) (execSeqPeek_follows req index underpaint hs)
  | seqDbgRead req easel underpaint ecc => exact .intro (execSeqDbgRead_next req easel underpaint ecc s) (execSeqDbgRead_follows req easel underpaint ecc hs)
  | outputRingHeadWrite req ring head => exact .intro (execOutputRingHeadWrite_next req ring head s) (execOutputRingHeadWrite_follows req ring head hs)
  | embEnable req => exact .intro (execEmbEnable_next req s) (execEmbEnable_follows req hs)
  | embGather easel host => exact .intro (execEmbGather_next easel host s) (execEmbGather_follows easel host hs)
  | embLaunch engine easel => exact .intro (execEmbLaunch_next engine easel s) (execEmbLaunch_follows engine easel hs)
  | embRowArrival id row ecc => exact .intro (execEmbRowArrival_next id row ecc s) (execEmbRowArrival_follows id row ecc hs)
  | embDeadline id => exact .intro (execEmbDeadline_next id s) (execEmbDeadline_follows id hs)
  | embComplete id cycles => exact .intro (execEmbComplete_next id cycles s) (execEmbComplete_follows id cycles hs)
  | yarozReq path frame => exact .intro (execYarozReq_next path frame s) (execYarozReq_follows path frame hs)
  | yzfLoad slot rank busy ecc => exact .intro (execYzfLoad_next slot rank busy ecc s) (execYzfLoad_follows slot rank busy ecc hs)
  | yzfStore slot rank busy => exact .intro (execYzfStore_next slot rank busy s) (execYzfStore_follows slot rank busy hs)
  | yzfAtomic slot rank busy ecc => exact .intro (execYzfAtomic_next slot rank busy ecc s) (execYzfAtomic_follows slot rank busy ecc hs)
  | yzfProbe slot rank => exact .intro (execYzfProbe_next slot rank s) (execYzfProbe_follows slot rank hs)
  | homeQueueServe pos ecc => exact .intro (execHomeQueueServe_next pos ecc s) (execHomeQueueServe_follows pos ecc hs)
  | yarozResp path frame => exact .intro (execYarozResp_next path frame s) (execYarozResp_follows path frame hs)
  | yarozAck path frame => exact .intro (execYarozAck_next path frame s) (execYarozAck_follows path frame hs)
  | yarozNak path frame => exact .intro (execYarozNak_next path frame s) (execYarozNak_follows path frame hs)
  | yarozCredit path frame => exact .intro (execYarozCredit_next path frame s) (execYarozCredit_follows path frame hs)
  | retransmitTimeout slot rank psn => exact .intro (execRetransmitTimeout_next slot rank psn s) (execRetransmitTimeout_follows slot rank psn hs)
  | linkReplay link lack => exact .intro (execLinkReplay_next link lack s) (execLinkReplay_follows link lack hs)
  | pathProbe slot rank path acked => exact .intro (execPathProbe_next slot rank path acked s) (execPathProbe_follows slot rank path acked hs)
  | yarozLinkDown link => exact .intro (execYarozLinkDown_next link s) (execYarozLinkDown_follows link hs)
  | fenceTimeout ch => exact .intro (execFenceTimeout_next ch s) (execFenceTimeout_follows ch hs)
  | deadTimerExpiry tag => exact .intro (execDeadTimerExpiry_next tag s) (execDeadTimerExpiry_follows tag hs)
  | retryAfterReissue tag => exact .intro (execRetryAfterReissue_next tag s) (execRetryAfterReissue_follows tag hs)
  | genAheadReissue tag => exact .intro (execGenAheadReissue_next tag s) (execGenAheadReissue_follows tag hs)
  | epochReissue tag => exact .intro (execEpochReissue_next tag s) (execEpochReissue_follows tag hs)
  | mcastLoad req => exact .intro (execMcastLoad_next req s) (execMcastLoad_follows req hs)
  | mcastPrune ch rank => exact .intro (execMcastPrune_next ch rank s) (execMcastPrune_follows ch rank hs)
  | tombstoneDrained slot => exact .intro (execTombstoneDrained_next slot s) (execTombstoneDrained_follows slot hs)
  | tombstoneExpired slot => exact .intro (execTombstoneExpired_next slot s) (execTombstoneExpired_follows slot hs)
  | ethFrameRx sub bytes fcs stamp fecCe fecUe => exact .intro (execEthFrameRx_next sub bytes fcs stamp fecCe fecUe s) (execEthFrameRx_follows sub bytes fcs stamp fecCe fecUe hs)
  | txRecordHead flow ecc => exact .intro (execTxRecordHead_next flow ecc s) (execTxRecordHead_follows flow ecc hs)
  | queuedFrameStart sub slot => exact .intro (execQueuedFrameStart_next sub slot s) (execQueuedFrameStart_follows sub slot hs)
  | launchFrameStart sub => exact .intro (execLaunchFrameStart_next sub s) (execLaunchFrameStart_follows sub hs)
  | launchFrameDrop sub => exact .intro (execLaunchFrameDrop_next sub s) (execLaunchFrameDrop_follows sub hs)
  | subportLinkDown sub => exact .intro (execSubportLinkDown_next sub s) (execSubportLinkDown_follows sub hs)
  | subportLinkUp sub => exact .intro (execSubportLinkUp_next sub s) (execSubportLinkUp_follows sub hs)
  | queueSample => exact .intro (execQueueSample_next s) (execQueueSample_follows hs)
  | histogramClear req => exact .intro (execHistogramClear_next req s) (execHistogramClear_follows req hs)
  | todSet req => exact .intro (execTodSet_next req s) (execTodSet_follows req hs)
  | todSetPps req => exact .intro (execTodSetPps_next req s) (execTodSetPps_follows req hs)
  | todStep => exact .intro (execTodStep_next s) (execTodStep_follows hs)
  | todSourceWrite req source txHold => exact .intro (execTodSourceWrite_next req source txHold s) (execTodSourceWrite_follows req source txHold hs)
  | frameOffsetWrite req value => exact .intro (execFrameOffsetWrite_next req value s) (execFrameOffsetWrite_follows req value hs)
  | todLocked => exact .intro (execTodLocked_next s) (execTodLocked_follows hs)
  | sourceLost => exact .intro (execSourceLost_next s) (execSourceLost_follows hs)
  | holdoverLimit => exact .intro (execHoldoverLimit_next s) (execHoldoverLimit_follows hs)
  | ptpSyncRx sub frame stamp => exact .intro (execPtpSyncRx_next sub frame stamp s) (execPtpSyncRx_follows sub frame stamp hs)
  | ptpFollowUpRx sub frame => exact .intro (execPtpFollowUpRx_next sub frame s) (execPtpFollowUpRx_follows sub frame hs)
  | ptpDelayReqRx sub frame stamp => exact .intro (execPtpDelayReqRx_next sub frame stamp s) (execPtpDelayReqRx_follows sub frame stamp hs)
  | ptpDelayRespRx sub frame => exact .intro (execPtpDelayRespRx_next sub frame s) (execPtpDelayRespRx_follows sub frame hs)
  | ptpAnnounceRx sub frame => exact .intro (execPtpAnnounceRx_next sub frame s) (execPtpAnnounceRx_follows sub frame hs)
  | ptpSyncTx sub launch => exact .intro (execPtpSyncTx_next sub launch s) (execPtpSyncTx_follows sub launch hs)
  | ptpDelayReqTx sub launch => exact .intro (execPtpDelayReqTx_next sub launch s) (execPtpDelayReqTx_follows sub launch hs)
  | ptpAnnounceTx sub launch => exact .intro (execPtpAnnounceTx_next sub launch s) (execPtpAnnounceTx_follows sub launch hs)
  | esmcRx sub frame => exact .intro (execEsmcRx_next sub frame s) (execEsmcRx_follows sub frame hs)
  | esmcInfoTx sub launch event => exact .intro (execEsmcInfoTx_next sub launch event s) (execEsmcInfoTx_follows sub launch event hs)
  | ppsInEdge stamp => exact .intro (execPpsInEdge_next stamp s) (execPpsInEdge_follows stamp hs)
  | ppsOutRise => exact .intro (execPpsOutRise_next s) (execPpsOutRise_follows hs)
  | ppsOutFall => exact .intro (execPpsOutFall_next s) (execPpsOutFall_follows hs)
  | alarmFire k => exact .intro (execAlarmFire_next k s) (execAlarmFire_follows k hs)
  | cxlLinkTraining rate width flit256 lopt => exact .intro (execCxlLinkTraining_next rate width flit256 lopt s) (execCxlLinkTraining_follows rate width flit256 lopt hs)
  | vfEnable num => exact .intro (execVfEnable_next num s) (execVfEnable_follows num hs)
  | vfDisable => exact .intro (execVfDisable_next s) (execVfDisable_follows hs)
  | vfFlr n => exact .intro (execVfFlr_next n s) (execVfFlr_follows n hs)
  | pfFlr => exact .intro (execPfFlr_next s) (execPfFlr_follows hs)
  | atsInvalidation fn pages refused => exact .intro (execAtsInvalidation_next fn pages refused s) (execAtsInvalidation_follows fn pages refused hs)
  | fapiPoll qp line ring => exact .intro (execFapiPoll_next qp line ring s) (execFapiPoll_follows qp line ring hs)
  | fqEnable req qp line => exact .intro (execFqEnable_next req qp line s) (execFqEnable_follows req qp line hs)
  | cxlMemRequest easel off acc ecc => exact .intro (execCxlMemRequest_next easel off acc ecc s) (execCxlMemRequest_follows easel off acc ecc hs)
  | ideFailure stream => exact .intro (execIdeFailure_next stream s) (execIdeFailure_follows stream hs)
  | ideRequire req => exact .intro (execIdeRequire_next req s) (execIdeRequire_follows req hs)
  | dlDown => exact .intro (execDlDown_next s) (execDlDown_follows hs)
  | msiModerationTimer easel vec => exact .intro (execMsiModerationTimer_next easel vec s) (execMsiModerationTimer_follows easel vec hs)
  | freeze req key => exact .intro (execFreeze_next req key s) (execFreeze_follows req key hs)
  | freezeDrained easel => exact .intro (execFreezeDrained_next easel s) (execFreezeDrained_follows easel hs)
  | freezeBoundExpiry easel => exact .intro (execFreezeBoundExpiry_next easel s) (execFreezeBoundExpiry_follows easel hs)
  | thaw req key => exact .intro (execThaw_next req key s) (execThaw_follows req key hs)
  | save req key => exact .intro (execSave_next req key s) (execSave_follows req key hs)
  | saveDone easel fail => exact .intro (execSaveDone_next easel fail s) (execSaveDone_follows easel fail hs)
  | restore req key hdr => exact .intro (execRestore_next req key hdr s) (execRestore_follows req key hdr hs)
  | restoreDone easel image fail => exact .intro (execRestoreDone_next easel image fail s) (execRestoreDone_follows easel image fail hs)
  | reset req key => exact .intro (execReset_next req key s) (execReset_follows req key hs)
  | easelResetRelease easel => exact .intro (execEaselResetRelease_next easel s) (execEaselResetRelease_follows easel hs)
  | clearingDone easel => exact .intro (execClearingDone_next easel s) (execClearingDone_follows easel hs)
  | tcClockGate core => exact .intro (execTcClockGate_next core s) (execTcClockGate_follows core hs)
  | tcPowerGate core => exact .intro (execTcPowerGate_next core s) (execTcPowerGate_follows core hs)
  | stackSelfRefreshEntry stack => exact .intro (execStackSelfRefreshEntry_next stack s) (execStackSelfRefreshEntry_follows stack hs)
  | laneSleep link => exact .intro (execLaneSleep_next link s) (execLaneSleep_follows link hs)
  | powerWake res peer => exact .intro (execPowerWake_next res peer s) (execPowerWake_follows res peer hs)
  | wakeExitDone res => exact .intro (execWakeExitDone_next res s) (execWakeExitDone_follows res hs)
  | wakeBudgetWrite req us => exact .intro (execWakeBudgetWrite_next req us s) (execWakeBudgetWrite_follows req us hs)
  | dieSensorReading temps bad => exact .intro (execDieSensorReading_next temps bad s) (execDieSensorReading_follows temps bad hs)
  | coolantReading inlet outlet => exact .intro (execCoolantReading_next inlet outlet s) (execCoolantReading_follows inlet outlet hs)
  | coolantSensorLoss outlet => exact .intro (execCoolantSensorLoss_next outlet s) (execCoolantSensorLoss_follows outlet hs)
  | driveAdjust => exact .intro (execDriveAdjust_next s) (execDriveAdjust_follows hs)
  | admissionEvaluate est prad => exact .intro (execAdmissionEvaluate_next est prad s) (execAdmissionEvaluate_follows est prad hs)
  | escalationEnd => exact .intro (execEscalationEnd_next s) (execEscalationEnd_follows hs)
  | pumpFailure rpm => exact .intro (execPumpFailure_next rpm s) (execPumpFailure_follows rpm hs)
  | pumpFailClear req => exact .intro (execPumpFailClear_next req s) (execPumpFailClear_follows req hs)
  | holdupSample mv => exact .intro (execHoldupSample_next mv s) (execHoldupSample_follows mv hs)
  | pushStart req => exact .intro (execPushStart_next req s) (execPushStart_follows req hs)
  | pushDone req => exact .intro (execPushDone_next req s) (execPushDone_follows req hs)
  | pushAbort req => exact .intro (execPushAbort_next req s) (execPushAbort_follows req hs)
  | pushRequestTimeout => exact .intro (execPushRequestTimeout_next s) (execPushRequestTimeout_follows hs)
  | svnCommit req key => exact .intro (execSvnCommit_next req key s) (execSvnCommit_follows req key hs)
  | updateGo req => exact .intro (execUpdateGo_next req s) (execUpdateGo_follows req hs)
  | updateFetchDone image fail => exact .intro (execUpdateFetchDone_next image fail s) (execUpdateFetchDone_follows image fail hs)
  | updateProgramDone differs => exact .intro (execUpdateProgramDone_next differs s) (execUpdateProgramDone_follows differs hs)
  | grantGo req => exact .intro (execGrantGo_next req s) (execGrantGo_follows req hs)
  | grantVerdict grant fail => exact .intro (execGrantVerdict_next grant fail s) (execGrantVerdict_follows grant fail hs)
  | grantRevoke req => exact .intro (execGrantRevoke_next req s) (execGrantRevoke_follows req hs)
  | grantExpiry => exact .intro (execGrantExpiry_next s) (execGrantExpiry_follows hs)
  | debugReset req value => exact .intro (execDebugReset_next req value s) (execDebugReset_follows req value hs)
  | getVersion sess => exact .intro (execGetVersion_next sess s) (execGetVersion_follows sess hs)
  | getCapabilities sess => exact .intro (execGetCapabilities_next sess s) (execGetCapabilities_follows sess hs)
  | negotiateAlgorithms sess => exact .intro (execNegotiateAlgorithms_next sess s) (execNegotiateAlgorithms_follows sess hs)
  | getDigests sess => exact .intro (execGetDigests_next sess s) (execGetDigests_follows sess hs)
  | getCertificate sess slot offset len => exact .intro (execGetCertificate_next sess slot offset len s) (execGetCertificate_follows sess slot offset len hs)
  | challenge sess slot => exact .intro (execChallenge_next sess slot s) (execChallenge_follows sess slot hs)
  | getMeasurements sess index signed => exact .intro (execGetMeasurements_next sess index signed s) (execGetMeasurements_follows sess index signed hs)
  | keyExchange slot => exact .intro (execKeyExchange_next slot s) (execKeyExchange_follows slot hs)
  | finish sess good => exact .intro (execFinish_next sess good s) (execFinish_follows sess good hs)
  | endSession sess => exact .intro (execEndSession_next sess s) (execEndSession_follows sess hs)
  | heartbeat sess => exact .intro (execHeartbeat_next sess s) (execHeartbeat_follows sess hs)
  | keyUpdate sess => exact .intro (execKeyUpdate_next sess s) (execKeyUpdate_follows sess hs)
  | ideKm sess stream => exact .intro (execIdeKm_next sess stream s) (execIdeKm_follows sess stream hs)
  | foldWindowEnd => exact .intro (execFoldWindowEnd_next s) (execFoldWindowEnd_follows hs)
  | injectArm req => exact .intro (execInjectArm_next req s) (execInjectArm_follows req hs)
  | injectDisarm req => exact .intro (execInjectDisarm_next req s) (execInjectDisarm_follows req hs)
  | healthEvaluation => exact .intro (execHealthEvaluation_next s) (execHealthEvaluation_follows hs)
  | quarantineEnter req key => exact .intro (execQuarantineEnter_next req key s) (execQuarantineEnter_follows req key hs)
  | quarantineLeave req key => exact .intro (execQuarantineLeave_next req key s) (execQuarantineLeave_follows req key hs)
  | supplyResetRelease => exact .intro (execSupplyResetRelease_next s) (execSupplyResetRelease_follows hs)
  | yarozLinkUp link lanes => exact .intro (execYarozLinkUp_next link lanes s) (execYarozLinkUp_follows link lanes hs)
  | synceDpllLock locked => exact .intro (execSynceDpllLock_next locked s) (execSynceDpllLock_follows locked hs)
  | holdoverTxLimit => exact .intro (execHoldoverTxLimit_next s) (execHoldoverTxLimit_follows hs)
  | configRequest fn => exact .intro (execConfigRequest_next fn s) (execConfigRequest_follows fn hs)
  | msixVectorUnmask fn vec => exact .intro (execMsixVectorUnmask_next fn vec s) (execMsixVectorUnmask_follows fn vec hs)
  | todNowFracRead req => exact .intro (execTodNowFracRead_next req s) (execTodNowFracRead_follows req hs)
  | jtagInstruction => exact .intro (execJtagInstruction_next s) (execJtagInstruction_follows hs)

/-- Settles O56, row by row of the command table. -/
theorem everyCommandAnswersANextState : Obligations.EveryCommandAnswersANextState := by
  intro c s
  obtain ⟨t, ht, hf⟩ := exec_answers c s
  exact ⟨t, ht, hf.pending, hf.out, hf.free⟩

/-- Settles O54: a step takes the front of the queue by definition. -/
theorem stepRunsTheFrontCommand : Obligations.StepRunsTheFrontCommand := by
  intro s c rest h
  simp only [step, h]

end Sys2Proof.Machine

/-! SUPPORT. Retouches (02 R41 to R44, R54): what a submission, the check and a cancel do, one rule for each case, and the statements about them. -/
namespace Sys2Proof.Machine

open Sys2Proof Sys2Proof.Laws

/-! ### Firing a vector (17 R502) changes what waits for the link, and nothing else -/

/-- A fired vector leaves the registers. -/
@[simp] theorem State.fld_fire (s : State) (fn vec u : Nat) (f : Fld) : (s.fire fn vec).fld u f = s.fld u f := by
  unfold State.fire; split <;> rfl

@[simp] theorem State.cvs_fire (s : State) (fn vec : Nat) : (s.fire fn vec).cvs = s.cvs := by
  unfold State.fire; split <;> rfl

@[simp] theorem State.mem_fire (s : State) (fn vec : Nat) : (s.fire fn vec).mem = s.mem := (fire_mp s fn vec).1

/-- An unmasked vector queues its message behind the function's writes. -/
theorem State.hostQueue_fire_open {s : State} {fn vec : Nat} (h : NSet.has (vecKey fn vec) s.cxl.msixOpen = true) :
    (s.fire fn vec).hostQueue fn = s.hostQueue fn ++ [.msix fn vec] := by
  unfold State.fire; rw [if_pos h]; exact SMap.get_set_same ..

/-! ### A bit that is cleared -/

/-- Subtracting a bit that a number has clears it. -/
theorem testBit_sub_and_two_pow (n i : Nat) : (n - (n &&& 2 ^ i)).testBit i = false := by
  rw [Nat.and_two_pow]
  cases h : n.testBit i with
  | false => simpa using h
  | true =>
    have hle : 2 ^ i ≤ n := Nat.ge_two_pow_of_testBit h
    have hflip := Nat.testBit_two_pow_add_eq (n - 2 ^ i) i
    rw [Nat.add_sub_cancel' hle, h] at hflip
    simpa using hflip.symm

theorem State.testBit_fld_clrFld (s : State) (u i : Nat) {f : Fld} (h : f.inWord = true) : ((s.clrFld u f (2 ^ i)).fld u f).testBit i = false := by
  unfold State.clrFld
  rw [State.fld_setFld_same _ _ _ _ h, Nat.testBit_mod_two_pow, testBit_sub_and_two_pow, Bool.and_false]

/-! ### Submission (R41, R42) -/

theorem exec_retouchGo {s : State} {req : Requester} (ho : s.barOpen req F.CVS_RT_CTRL_GO.off = true) : exec (.retouchGo req) s = .next (s.retouchGo req) :=
  access_open (fun _ => .next (s.retouchGo req)) ho

/-- A GO while CODE shows CHECKING is counted. -/
theorem State.retouchGo_checking {s : State} {req : Requester} (hm : req.manages = true) (hc : s.fld 0 F.CVS_RT_STATUS_CODE = 1) :
    s.retouchGo req = s.incSat 0 F.CVS_RT_STATUS_DISCARDS 1 := by
  simp [State.retouchGo, hm, hc]

/-- The state of a retouch just submitted: CODE shows CHECKING, RECORD 0, and the latest submission is not pending. -/
def State.rtSubmitted (s : State) : State :=
  { (s.setFld 0 F.CVS_RT_STATUS_CODE 1).setFld 0 F.CVS_RT_STATUS_RECORD 0 with cvs := { s.cvs with latest := 4 } }

/-- Any other GO submits, and fires the vector when CODE leaves PENDING (17 R501). -/
theorem State.retouchGo_submits {s : State} {req : Requester} (hm : req.manages = true) (hc : s.fld 0 F.CVS_RT_STATUS_CODE ≠ 1) :
    s.retouchGo req = if s.fld 0 F.CVS_RT_STATUS_CODE = 2 then s.rtSubmitted.fire 0 2 else s.rtSubmitted := by
  simp [State.retouchGo, State.rtSubmitted, hm, hc]

theorem State.rtSubmitted_code (s : State) : s.rtSubmitted.fld 0 F.CVS_RT_STATUS_CODE = 1 := by
  rw [State.rtSubmitted, State.fld_upd, State.fld_setFld_apart _ _ _ _ _ _ (by decide) (by decide) (by decide), State.fld_setFld_same _ _ _ _ (by decide)]
  rfl

theorem State.rtSubmitted_record (s : State) : s.rtSubmitted.fld 0 F.CVS_RT_STATUS_RECORD = 0 := by
  rw [State.rtSubmitted, State.fld_upd, State.fld_setFld_same _ _ _ _ (by decide)]
  rfl

theorem State.rtSubmitted_seq (s : State) : s.rtSubmitted.fld 0 F.CVS_RT_SEQ_SEQ = s.fld 0 F.CVS_RT_SEQ_SEQ := by
  rw [State.rtSubmitted, State.fld_upd, State.fld_setFld_apart _ _ _ _ _ _ (by decide) (by decide) (by decide),
    State.fld_setFld_apart _ _ _ _ _ _ (by decide) (by decide) (by decide)]

@[simp] theorem State.rtSubmitted_mem (s : State) : s.rtSubmitted.mem = s.mem := rfl

@[simp] theorem State.rtSubmitted_cxl (s : State) : s.rtSubmitted.cxl = s.cxl := rfl

/-- Submission, clause by clause: the branch that fires differs only in what waits for the host. -/
theorem State.retouchGo_effects {s : State} {req : Requester} (hm : req.manages = true) (hc : s.fld 0 F.CVS_RT_STATUS_CODE ≠ 1) :
    let t := s.retouchGo req
    t.fld 0 F.CVS_RT_STATUS_CODE = 1 ∧ t.fld 0 F.CVS_RT_STATUS_RECORD = 0 ∧ t.mem = s.mem ∧ t.fld 0 F.CVS_RT_SEQ_SEQ = s.fld 0 F.CVS_RT_SEQ_SEQ ∧
      (s.fld 0 F.CVS_RT_STATUS_CODE ≠ 2 → t.cxl = s.cxl) ∧
      (s.fld 0 F.CVS_RT_STATUS_CODE = 2 → NSet.has (vecKey 0 2) s.cxl.msixOpen = true → t.hostQueue 0 = s.hostQueue 0 ++ [.msix 0 2]) := by
  intro t
  have ht : t = _ := State.retouchGo_submits hm hc
  by_cases hp : s.fld 0 F.CVS_RT_STATUS_CODE = 2
  · rw [ht, if_pos hp, State.fld_fire, State.fld_fire, State.fld_fire]
    exact ⟨s.rtSubmitted_code, s.rtSubmitted_record, State.mem_fire .., s.rtSubmitted_seq, fun hn => absurd hp hn, fun _ hv => State.hostQueue_fire_open hv⟩
  · rw [ht, if_neg hp]
    exact ⟨s.rtSubmitted_code, s.rtSubmitted_record, rfl, s.rtSubmitted_seq, fun _ => rfl, fun h => absurd h hp⟩

/-- Settles O14: the branch of R42. -/
theorem retouchGoWhileCheckingIsDiscarded : Obligations.RetouchGoWhileCheckingIsDiscarded := by
  intro s req hm ho hc
  have he : exec (.retouchGo req) s = .next (s.incSat 0 F.CVS_RT_STATUS_DISCARDS 1) := by rw [exec_retouchGo ho, State.retouchGo_checking hm hc]
  refine ⟨he, _, he, ?_, State.fld_incSat_same _ _ _ _ (by decide)⟩
  rw [State.fld_incSat_apart _ _ _ _ _ _ (by decide) (by decide) (by decide), hc]

/-! ### The check (R44): one rule for each verdict up to FORMAT, in the order of R44 -/

theorem exec_retouchCheck (data : Blob) (fail : Bool) (s : State) : exec (.retouchCheck data fail) s = execRetouchCheck data fail s := rfl

section Check

variable {s : State} (data : Blob) (fail : Bool) (hc : s.fld 0 F.CVS_RT_STATUS_CODE = 1)
include hc

theorem exec_retouchCheck_unsealed (hs : s.fld 0 F.CVS_STATE_STATE ≠ 2) : exec (.retouchCheck data fail) s = .next (s.rtRefuse 0x10 0) := by
  rw [exec_retouchCheck]
  simp [execRetouchCheck, hc, hs]

variable (hs : s.fld 0 F.CVS_STATE_STATE = 2)
include hs

/-- A length outside 160 bytes to 1 MiB (R43). -/
theorem exec_retouchCheck_badLength (hn : s.fld 0 F.CVS_RT_LEN_LEN < 160 ∨ 0x100000 < s.fld 0 F.CVS_RT_LEN_LEN) :
    exec (.retouchCheck data fail) s = .next (s.rtRefuse rtFormat 0) := by
  rw [exec_retouchCheck]
  simp only [execRetouchCheck, hc, hs, ne_eq, not_true_eq_false, if_false, if_pos hn]

variable (hn : ¬(s.fld 0 F.CVS_RT_LEN_LEN < 160 ∨ 0x100000 < s.fld 0 F.CVS_RT_LEN_LEN))
include hn

/-- The link to the host is down, or the read fails. -/
theorem exec_retouchCheck_unread (hu : s.hostUp = false ∨ fail = true) : exec (.retouchCheck data fail) s = .next (s.rtRefuse rtFetch 0) := by
  have hread : (!s.hostUp || fail) = true := by simpa using hu
  rw [exec_retouchCheck]
  simp only [execRetouchCheck, hc, hs, ne_eq, not_true_eq_false, if_false, if_neg hn, hread, if_true]

variable (hu : s.hostUp = true) (hf : fail = false)
include hu hf

theorem exec_retouchCheck_untranslated (ht : s.translates 0 (s.fld64 0 F.CVS_RT_ADDR_LO_ADDR F.CVS_RT_ADDR_HI_ADDR) = false) :
    exec (.retouchCheck data fail) s = .next ((s.refuseXlate 0 ukNone 0).rtRefuse rtFetch 0) := by
  rw [exec_retouchCheck]
  simp [execRetouchCheck, hc, hs, hn, hu, hf, ht]

variable (ht : s.translates 0 (s.fld64 0 F.CVS_RT_ADDR_LO_ADDR F.CVS_RT_ADDR_HI_ADDR) = true)
include ht

theorem exec_retouchCheck_malformed {k : Nat} (hr : rtRecords data (s.fld 0 F.CVS_RT_LEN_LEN) = .error k) :
    exec (.retouchCheck data fail) s = .next ((s.countUnits 0 F.CXL_EAS_HOST_RD_UNITS 65536 (s.fld 0 F.CVS_RT_LEN_LEN)).rtRefuse rtFormat k) := by
  rw [exec_retouchCheck]
  simp [execRetouchCheck, hc, hs, hn, hu, hf, ht, hr]

theorem exec_retouchCheck_judged {rs : List RtRec} (hr : rtRecords data (s.fld 0 F.CVS_RT_LEN_LEN) = .ok rs) :
    exec (.retouchCheck data fail) s =
      .next ((s.countUnits 0 F.CXL_EAS_HOST_RD_UNITS 65536 (s.fld 0 F.CVS_RT_LEN_LEN)).rtVerdict data (s.fld 0 F.CVS_RT_LEN_LEN) rs) := by
  rw [exec_retouchCheck]
  simp [execRetouchCheck, hc, hs, hn, hu, hf, ht, hr]

end Check

/-! ### Cancelling (R54) -/

theorem exec_retouchCancel {s : State} {req : Requester} (types : BitVec 4) (ho : s.barOpen req F.CVS_RT_CTRL_GO.off = true) :
    exec (.retouchCancel req types) s = .next (s.retouchCancel req types.toNat) :=
  access_open (fun _ => .next (s.retouchCancel req types.toNat)) ho

/-- A retouch that is cancelled changes CODE and its pending bit, and may fire the vector. -/
@[simp] theorem State.rtCancelled_cvs (s : State) (bit : Nat) : (s.rtCancelled bit).cvs = s.cvs := by
  unfold State.rtCancelled; dsimp only; split
  · exact State.cvs_fire ..
  · rfl

@[simp] theorem State.rtCancelled_mem (s : State) (bit : Nat) : (s.rtCancelled bit).mem = s.mem := by
  unfold State.rtCancelled; dsimp only; split
  · exact State.mem_fire ..
  · rfl

theorem State.rtCancelled_notPending (s : State) (bit : Nat) : ((s.rtCancelled bit).fld 0 F.CVS_RT_PENDING_TYPES).testBit bit = false := by
  have hclr := s.testBit_fld_clrFld 0 bit (f := F.CVS_RT_PENDING_TYPES) (by decide)
  unfold State.rtCancelled; dsimp only; split
  · rw [State.fld_fire, State.fld_setFld_apart _ _ _ _ _ _ (by decide) (by decide) (by decide), hclr]
  · exact hclr

theorem State.cancelType_flows {s : State} (h : (s.fld 0 F.CVS_RT_PENDING_TYPES).testBit 1 = true) :
    s.cancelType 1 = { s with cvs := { s.cvs with pendFlows := [] } }.rtCancelled 1 := by
  simp [State.cancelType, h, rtFlows]

theorem State.cancelType_param {s : State} (h : (s.fld 0 F.CVS_RT_PENDING_TYPES).testBit 2 = true) :
    s.cancelType 2 = { s with cvs := { s.cvs with pendParam := [] } }.rtCancelled 2 := by
  simp [State.cancelType, h, rtFlows, rtParam]

/-- A CANCEL that names one type cancels that type. -/
theorem State.retouchCancel_one (s : State) {req : Requester} {types bit : Nat} (hm : req.manages = true) (hb : bitsOf 4 types = [bit]) :
    s.retouchCancel req types = s.cancelType bit := by
  simp [State.retouchCancel, hm, hb, forEach]

theorem exec_retouchCancel_flows {s : State} {req : Requester} (hm : req.manages = true) (ho : s.barOpen req F.CVS_RT_CTRL_GO.off = true)
    (hp : (s.fld 0 F.CVS_RT_PENDING_TYPES).testBit 1 = true) :
    exec (.retouchCancel req 2) s = .next ({ s with cvs := { s.cvs with pendFlows := [] } }.rtCancelled 1) := by
  rw [exec_retouchCancel 2 ho, State.retouchCancel_one s (bit := 1) hm (by decide), State.cancelType_flows hp]

theorem exec_retouchCancel_param {s : State} {req : Requester} (hm : req.manages = true) (ho : s.barOpen req F.CVS_RT_CTRL_GO.off = true)
    (hp : (s.fld 0 F.CVS_RT_PENDING_TYPES).testBit 2 = true) :
    exec (.retouchCancel req 4) s = .next ({ s with cvs := { s.cvs with pendParam := [] } }.rtCancelled 2) := by
  rw [exec_retouchCancel 4 ho, State.retouchCancel_one s (bit := 2) hm (by decide), State.cancelType_param hp]

/-- Settles O15: submission, check and cancel, each from its rules above. -/
theorem retouchesAreSubmittedCheckedAndCancelled : Obligations.RetouchesAreSubmittedCheckedAndCancelled := by
  intro s
  refine ⟨fun req hm ho hc => ⟨_, exec_retouchGo ho, State.retouchGo_effects hm hc⟩, fun data fail hc => ⟨exec_retouchCheck_unsealed data fail hc, fun hs => ?check⟩,
    fun req hm ho => ⟨fun hp => ?flows, fun hp => ?param⟩⟩
  case check =>
    refine ⟨exec_retouchCheck_badLength data fail hc hs, fun hlo hhi => ?_⟩
    have hn : ¬(s.fld 0 F.CVS_RT_LEN_LEN < 160 ∨ 0x100000 < s.fld 0 F.CVS_RT_LEN_LEN) := by omega
    exact ⟨exec_retouchCheck_unread data fail hc hs hn, exec_retouchCheck_untranslated data fail hc hs hn,
      fun hu hf ht => ⟨fun _ => exec_retouchCheck_malformed data fail hc hs hn hu hf ht, fun _ => exec_retouchCheck_judged data fail hc hs hn hu hf ht⟩⟩
  case flows => exact ⟨_, exec_retouchCancel_flows hm ho hp, by rw [State.rtCancelled_cvs], State.rtCancelled_notPending .., by rw [State.rtCancelled_cvs], State.rtCancelled_mem ..⟩
  case param => exact ⟨_, exec_retouchCancel_param hm ho hp, by rw [State.rtCancelled_cvs], State.rtCancelled_notPending .., by rw [State.rtCancelled_cvs], State.rtCancelled_mem ..⟩

end Sys2Proof.Machine

/-! SUPPORT. Operations that change some registers and nothing else, and what loops over fields leave. -/
namespace Sys2Proof.Machine

open Sys2Proof Sys2Proof.Laws

/-- `t` is `s` but for registers at the offsets listed. -/
structure State.RegsFrame (offs : List Nat) (s t : State) : Prop where
  rest : t = { s with regs := t.regs }
  reg : ∀ u off, off < regSpan → off ∉ offs → t.reg u off = s.reg u off

namespace State.RegsFrame

variable {offs : List Nat} {s t w : State}

theorem refl (offs : List Nat) (s : State) : RegsFrame offs s s := ⟨rfl, fun _ _ _ _ => rfl⟩

theorem trans (h : RegsFrame offs s t) (k : RegsFrame offs t w) : RegsFrame offs s w :=
  ⟨by rw [k.rest, h.rest], fun u off ho hn => (k.reg u off ho hn).trans (h.reg u off ho hn)⟩

/-- A register written inside the window. -/
theorem setFld (h : RegsFrame offs s t) (u : Nat) (f : Fld) (v : Nat) (hf : f.off < regSpan) (hm : f.off ∈ offs) : RegsFrame offs s (t.setFld u f v) :=
  h.trans ⟨rfl, fun _ _ ho hn => reg_setFld_off _ _ _ _ _ _ ho hf (fun e => hn (e ▸ hm))⟩

theorem setFlag (h : RegsFrame offs s t) (u : Nat) (f : Fld) (b : Bool) (hf : f.off < regSpan) (hm : f.off ∈ offs) : RegsFrame offs s (t.setFlag u f b) :=
  h.setFld u f _ hf hm

theorem showHeld (h : RegsFrame offs s t) (hm : 0x20018 ∈ offs) : RegsFrame offs s t.showHeld :=
  h.trans ⟨(held_keep t).1, fun u off ho hn => (held_keep t).2 u off ho (fun e => hn (e ▸ hm))⟩

theorem bringUp (h : RegsFrame offs s t) (hd : 0x20018 ∈ offs) (hc : 0x20000 ∈ offs) (hb : 0x2002C ∈ offs) : RegsFrame offs s t.bringUp :=
  h.trans ⟨(up_keep t).1, fun u off ho hn => (up_keep t).2 u off ho (fun e => hn (e ▸ hd)) (fun e => hn (e ▸ hc)) (fun e => hn (e ▸ hb))⟩

theorem fld (h : RegsFrame offs s t) (u : Nat) (f : Fld) (hf : f.off < regSpan) (hn : f.off ∉ offs) : t.fld u f = s.fld u f := fld_of_reg (h.reg u f.off hf hn)

theorem flag (h : RegsFrame offs s t) (u : Nat) (f : Fld) (hf : f.off < regSpan) (hn : f.off ∉ offs) : t.flag u f = s.flag u f := by
  unfold State.flag; rw [h.fld u f hf hn]

theorem mem (h : RegsFrame offs s t) : t.mem = s.mem := by rw [h.rest]

theorem out (h : RegsFrame offs s t) : t.out = s.out := by rw [h.rest]

theorem rst (h : RegsFrame offs s t) : t.rst = s.rst := by rw [h.rest]

end State.RegsFrame

/-! ### Loops that write one field of several units or registers -/

theorem forUpto_succ {σ : Type} (n : Nat) (f : Nat → σ → σ) (s : σ) : forUpto (n + 1) f s = f n (forUpto n f s) := by
  unfold forUpto; rw [List.range_succ, List.foldl_append]; rfl

/-- A loop that writes fields apart from one another leaves in each what it put there. -/
theorem State.fld_forUpto_setFld (u : Nat → Nat) (f : Nat → Fld) (v : Nat → Nat) (s : State) (n : Nat) (hw : ∀ i, i < n → (f i).inWord = true)
    (ha : ∀ i j, i < n → j < n → j ≠ i → u j ≠ u i ∨ (f j).apart (f i) = true) (j : Nat) (hj : j < n) :
    (forUpto n (fun i (t : State) => t.setFld (u i) (f i) (v i)) s).fld (u j) (f j) = v j % 2 ^ (f j).width := by
  induction n with
  | zero => exact absurd hj (Nat.not_lt_zero j)
  | succ n ih =>
    rw [forUpto_succ]
    have hwn := hw n (Nat.lt_succ_self n)
    by_cases hjn : j = n
    · subst hjn; exact State.fld_setFld_same _ _ _ _ hwn
    · have hkept := ih (fun i hi => hw i (by omega)) (fun i k hi hk => ha i k (by omega) (by omega)) (by omega)
      rcases ha n j (Nat.lt_succ_self n) hj hjn with hu | hf
      · rw [State.fld_setFld_unit _ _ _ _ hwn (hw j hj) hu, hkept]
      · rw [State.fld_setFld_apart _ _ _ _ _ _ hwn (hw j hj) hf, hkept]

theorem State.RegsFrame.forUpto_setFld {offs : List Nat} (u : Nat → Nat) (f : Nat → Fld) (v : Nat → Nat) (s : State) (n : Nat) (hw : ∀ i, i < n → (f i).off < regSpan)
    (hm : ∀ i, i < n → (f i).off ∈ offs) : State.RegsFrame offs s (forUpto n (fun i (t : State) => t.setFld (u i) (f i) (v i)) s) :=
  upto_keep (State.RegsFrame offs s) n (fun i (t : State) => t.setFld (u i) (f i) (v i)) (fun i hi _ h => h.setFld _ _ _ (hw i hi) (hm i hi)) s (.refl offs s)

end Sys2Proof.Machine

/-! SUPPORT. Chip reach (03 R62, R68, R75 to R77): what a reset rebuilds, what a release leaves, and the statements about them. -/
namespace Sys2Proof.Machine

open Sys2Proof Sys2Proof.Laws

/-! ### What a reset keeps of the register file -/

/-- A key below every key of a map reads as an unlisted one. -/
theorem SMap.get_of_above {α : Type} (d : Nat → α) (m : SMap α) {b : Nat} (h : SMap.above b m = true) {x : Nat} (hx : x ≤ b) : SMap.get d m x = d x := by
  induction m with
  | nil => rfl
  | cons e r ih =>
    obtain ⟨k, v⟩ := e
    simp only [SMap.above, List.all_cons, Bool.and_eq_true, decide_eq_true_eq] at h ih
    rw [SMap.get, if_neg (by omega), ih h.2]

/-- A map rewritten entry by entry, where entries that come to what an unlisted key reads as are dropped, reads at each key as the old value rewritten. -/
theorem SMap.get_rewrite {α : Type} [DecidableEq α] (d : Nat → α) (g : Nat → α → α) (m : SMap α) (hm : SMap.wf d m = true) (x : Nat) (hd : g x (d x) = d x) :
    SMap.get d (m.filterMap (fun p => if g p.1 p.2 = d p.1 then none else some (p.1, g p.1 p.2))) x = g x (SMap.get d m x) := by
  induction m with
  | nil => exact hd.symm
  | cons e r ih =>
    obtain ⟨k, v⟩ := e
    obtain ⟨hk, -, hr⟩ := SMap.wf_cons.mp hm
    have hrest := ih hr
    by_cases hx : x = k
    · subst hx
      rw [SMap.get_of_above d r hk (Nat.le_refl x), hd] at hrest
      by_cases hv : g x v = d x
      · rw [List.filterMap_cons_none (by simp [hv]), hrest, SMap.get, if_pos rfl, hv]
      · rw [List.filterMap_cons_some (b := (x, g x v)) (by simp [hv]), SMap.get, if_pos rfl, SMap.get, if_pos rfl]
    · rw [SMap.get, if_neg hx]
      by_cases hv : g k v = d k
      · rw [List.filterMap_cons_none (by simp [hv]), hrest]
      · rw [List.filterMap_cons_some (b := (k, g k v)) (by simp [hv]), SMap.get, if_neg hx, hrest]

/-- The bits of a register that a reset keeps: POR keeps the fuses alone (R77; 20 R549). -/
def keptMask (por : Bool) (off : Nat) : BitVec 32 := if por && decide (off ≠ 0x380008) then 0 else stickyMask off

theorem keptMask_false (off : Nat) : keptMask false off = stickyMask off := rfl

theorem keptMask_true_of_ne {off : Nat} (h : off ≠ 0x380008) : keptMask true off = 0#32 := by simp [keptMask, h]

/-- A word whose kept bits are its own and whose others are the reset value's. -/
def keptWord (por : Bool) (key : Nat) (w : BitVec 32) : BitVec 32 := (w &&& keptMask por (key % regSpan)) ||| (regDefault key &&& ~~~keptMask por (key % regSpan))

theorem keptWord_default (por : Bool) (key : Nat) : keptWord por key (regDefault key) = regDefault key := by
  rw [keptWord, ← BitVec.and_or_distrib_left, BitVec.or_not_self, BitVec.and_allOnes]

theorem regKey_mod {u off : Nat} (h : off < regSpan) : regKey u off % regSpan = off := by
  rw [regKey, Nat.add_comm, Nat.add_mul_mod_self_right, Nat.mod_eq_of_lt h]

theorem get_keptRegs (por : Bool) {m : SMap (BitVec 32)} (hm : SMap.wf regDefault m = true) (key : Nat) :
    SMap.get regDefault (keptRegs por m) key = keptWord por key (SMap.get regDefault m key) :=
  SMap.get_rewrite regDefault (keptWord por) m hm key (keptWord_default por key)

/-- The state that a chip reset rebuilds, before it shows its source (R68, R77): `held` stays asserted. -/
def State.rebuilt (s : State) (por : Bool) (held : Nat) : State :=
  { State.reset with regs := keptRegs por s.regs, rst := ⟨held, s.rst.refLost, none, false, none⟩, out := s.out, free := s.free, pending := s.pending }

theorem State.reg_rebuilt {s : State} (hi : s.Inv) (por : Bool) (held u : Nat) {off : Nat} (h : off < regSpan) :
    (s.rebuilt por held).reg u off = (s.reg u off &&& keptMask por off) ||| (regDefault (regKey u off) &&& ~~~keptMask por off) := by
  have hkept := get_keptRegs por hi.regs (regKey u off)
  rw [keptWord, regKey_mod h] at hkept
  exact hkept

/-- A register that keeps its value at every reset but POR. -/
theorem State.reg_rebuilt_sticky {s : State} (hi : s.Inv) (por : Bool) (held u : Nat) {off : Nat} (h : off < regSpan) (hk : keptMask por off = 0xFFFFFFFF) :
    (s.rebuilt por held).reg u off = s.reg u off := by
  have hones : (0xFFFFFFFF : BitVec 32) = BitVec.allOnes 32 := by decide
  rw [State.reg_rebuilt hi por held u h, hk, hones, BitVec.and_allOnes, BitVec.not_allOnes, BitVec.and_zero, BitVec.or_zero]

/-- A register that a reset sets to its reset value. -/
theorem State.reg_rebuilt_default {s : State} (hi : s.Inv) (por : Bool) (held u : Nat) {off : Nat} (h : off < regSpan) (hk : keptMask por off = 0#32) :
    (s.rebuilt por held).reg u off = regDefault (regKey u off) := by
  rw [State.reg_rebuilt hi por held u h, hk, BitVec.and_zero, BitVec.zero_or, BitVec.not_zero, BitVec.and_allOnes]

/-! ### A chip reset -/

/-- The sources of the host asserted now, which a chip reset leaves asserted (R75). -/
def State.hostHeld (s : State) : Nat := s.fld 0 F.RST_HELD_HELD &&& (srPerst ||| srHot)

/-- The source that is resetting the chip recorded: added to RST_CAUSE, and alone in RST_LAST (R62, R91). -/
def State.recordSource (t : State) (src : Nat) : State := (t.orFld 0 F.RST_CAUSE_CAUSE src).setFld 0 F.RST_LAST_SOURCES src

/-- A source asserts while no other holds the chip, outside apply. -/
theorem State.chipReset_alone {s : State} {src : Nat} (latch : Nat) (h0 : s.rst.chipSrc = 0) (ha : s.fld 0 F.CVS_STATE_STATE ≠ 1) (hp : src ≠ srPor) :
    s.chipReset src latch =
      let shown := (((s.rebuilt false latch).recordSource src).setFld 0 F.RST_HELD_HELD (s.hostHeld ||| (latch - latch % 2))).showHeld
      if latch = 0 then shown.bringUp else shown := by
  simp [State.chipReset, State.rebuilt, State.recordSource, State.hostHeld, h0, ha, hp]

/-- A power-on reset, whatever holds the chip. -/
theorem State.chipReset_por (s : State) :
    s.chipReset srPor srPor =
      ((s.rebuilt true (s.rst.chipSrc ||| srPor)).setFld 0 F.RST_HELD_HELD (s.hostHeld ||| ((s.rst.chipSrc ||| srPor) - (s.rst.chipSrc ||| srPor) % 2))).showHeld := by
  have hheld : s.rst.chipSrc ||| srPor ≠ 0 := by have := Nat.right_le_or (n := s.rst.chipSrc) (m := srPor); unfold srPor at *; omega
  simp [State.chipReset, State.rebuilt, State.hostHeld, hheld]

/-- Whatever a source is, the chip is held by what it latches. -/
theorem State.chipReset_chipSrc (s : State) (src latch : Nat) : (s.chipReset src latch).rst.chipSrc = s.rst.chipSrc ||| latch := by
  unfold State.chipReset
  split
  · rfl
  · dsimp only; split <;> split <;> rfl

/-- The registers that a chip reset sets beside those that record its source: RST_HELD, RST_DOMAIN, CLK_STATUS and RST_BRINGUP (R75, R76, R78). -/
def heldShownOffs : List Nat := [0x20014, 0x20018, 0x20000, 0x2002C]

theorem State.chipReset_frame {s : State} {src : Nat} (latch : Nat) (h0 : s.rst.chipSrc = 0) (ha : s.fld 0 F.CVS_STATE_STATE ≠ 1) (hp : src ≠ srPor) :
    RegsFrame heldShownOffs ((s.rebuilt false latch).recordSource src) (s.chipReset src latch) := by
  rw [State.chipReset_alone latch h0 ha hp]
  have hshown := ((RegsFrame.refl heldShownOffs ((s.rebuilt false latch).recordSource src)).setFld 0 F.RST_HELD_HELD (s.hostHeld ||| (latch - latch % 2))
    (by decide) (by decide)).showHeld (by decide)
  dsimp only
  split
  · exact hshown.bringUp (by decide) (by decide) (by decide)
  · exact hshown

/-- RST_CAUSE and RST_LAST have a bit for each source (R62). -/
theorem State.recordSource_cause (t : State) {src : Nat} (hs : src < 2 ^ 22) : (t.recordSource src).fld 0 F.RST_CAUSE_CAUSE = t.fld 0 F.RST_CAUSE_CAUSE ||| src := by
  rw [State.recordSource, State.fld_setFld_apart _ _ _ _ _ _ (by decide) (by decide) (by decide), State.fld_orFld_same _ _ _ _ (by decide) hs]

theorem State.recordSource_last (t : State) {src : Nat} (hs : src < 2 ^ 22) : (t.recordSource src).fld 0 F.RST_LAST_SOURCES = src := by
  rw [State.recordSource, State.fld_setFld_same _ _ _ _ (by decide)]
  exact Nat.mod_eq_of_lt hs

theorem State.recordSource_frame (t : State) (src : Nat) : RegsFrame [0x20010, 0x20034] t (t.recordSource src) :=
  ((RegsFrame.refl _ t).setFld 0 F.RST_CAUSE_CAUSE _ (by decide) (by decide)).setFld 0 F.RST_LAST_SOURCES _ (by decide) (by decide)

/-- A source of chip reach that asserts alone outside apply leaves the chip in its reset state, its cause recorded. -/
theorem State.chipReset_resets {s : State} (hi : s.Inv) (h0 : s.rst.chipSrc = 0) (ha : s.fld 0 F.CVS_STATE_STATE ≠ 1) {src : Nat} (hp : src ≠ srPor) (hs : src < 2 ^ 22)
    (latch : Nat) : s.ChipReset (s.chipReset src latch) src latch := by
  have hframe := State.chipReset_frame latch h0 ha hp
  have hrest : s.chipReset src latch = { s.rebuilt false latch with regs := (s.chipReset src latch).regs } := hframe.rest
  refine ⟨by rw [State.chipReset_chipSrc, h0, Nat.zero_or], ?cause, ?last, fun u off ho hn => ?regs, ?mem, ?work, ?kept⟩
  case cause =>
    rw [hframe.fld 0 _ (by decide) (by decide), State.recordSource_cause _ hs, fld_of_reg (State.reg_rebuilt_sticky hi false latch 0 (by decide) (by decide))]
  case last => rw [hframe.fld 0 _ (by decide) (by decide), State.recordSource_last _ hs]
  case regs =>
    have hoff : off ∉ heldShownOffs ∧ off ∉ [0x20010, 0x20034] := by simp [resetShown] at hn; simp [heldShownOffs]; omega
    rw [hframe.reg u off ho hoff.1, (State.recordSource_frame _ src).reg u off ho hoff.2, State.reg_rebuilt hi false latch u ho, keptMask_false]
  case mem => rw [hrest]; exact ⟨rfl, rfl, rfl⟩
  case work => rw [hrest]; exact ⟨rfl, rfl, rfl, rfl, rfl, rfl, rfl, rfl, rfl⟩
  case kept => rw [hrest]; exact ⟨rfl, rfl, rfl⟩

/-! ### The sources of chip reach (R62, R66, R67, R72; 20 R567) -/

section Sources

variable {s : State}

theorem exec_cardResetAssert_apart (h : s.fld 0 F.RST_HELD_HELD &&& srCard = 0) : exec .cardResetAssert s = .next (s.chipReset srCard srCard) :=
  congrArg Host.Outcome.next (if_neg (not_not.mpr h))

theorem exec_perstAssert_apart (h : s.fld 0 F.RST_HELD_HELD &&& srPerst = 0) :
    exec .perstAssert s = .next (if s.perstChip then s.chipReset srPerst srPerst else s.hostReset srPerst) :=
  congrArg Host.Outcome.next (if_neg (not_not.mpr h))

theorem exec_linkDisable_apart (h : s.fld 0 F.RST_HELD_HELD &&& srHot = 0) :
    exec .linkDisable s = .next (if s.hotChip then s.chipReset srHot srHot else s.hostReset srHot) :=
  congrArg Host.Outcome.next (if_neg (not_not.mpr h))

theorem exec_cxlHotReset (s : State) :
    exec .cxlHotReset s = .next (if s.hotChip then s.chipReset srHot 0 else (s.hostReset srHot).hostRelease srHot) := rfl

theorem exec_watchdogExpiry_running (hw : s.rst.wdog.isSome = true) (hr : s.flag 0 F.RST_BRINGUP_RECOVERY = false) :
    exec .watchdogExpiry s = .next (s.chipReset srWdog 0) :=
  congrArg Host.Outcome.next (if_pos (by rw [hw, hr]; rfl))

theorem exec_debugReset_granted {req : Requester} (hm : req.manages = true) (ho : s.barOpen req F.TRU_DBG_RESET_KICK.off = true) (hp : s.power powDebugReset = true)
    (hq : s.qRuns = true) : exec (.debugReset req 0xD8B6) s = .next (s.chipReset srDebug 0) := by
  change execDebugReset req 0xD8B6 s = _
  simp [execDebugReset, access_open _ ho, hm, hp, hq]

end Sources

/-! ### Soft resets (R72 to R74) -/

section Soft

variable {s : State} {req : Requester} (key : BitVec 8) (target : BitVec 9) (force : Bool) (ho : s.barOpen req F.RST_SOFT_REACH.off = true)
include ho

theorem exec_softResetChip : exec (.softResetChip req key target force) s = .next (s.softReset req 0 key.toNat target.toNat force) :=
  access_open (fun _ => .next (s.softReset req 0 key.toNat target.toNat force)) ho

theorem exec_softResetIoDie : exec (.softResetIoDie req key target force) s = .next (s.softReset req 1 key.toNat target.toNat force) :=
  access_open (fun _ => .next (s.softReset req 1 key.toNat target.toNat force)) ho

theorem exec_softResetPanel : exec (.softResetPanel req key target force) s = .next (s.softReset req 2 key.toNat target.toNat force) :=
  access_open (fun _ => .next (s.softReset req 2 key.toNat target.toNat force)) ho

theorem exec_softResetCore : exec (.softResetCore req key target force) s = .next (s.softReset req 3 key.toNat target.toNat force) :=
  access_open (fun _ => .next (s.softReset req 3 key.toNat target.toNat force)) ho

end Soft

section SoftReset

variable {s : State} {req : Requester} {reach key target : Nat} {force : Bool}

theorem State.softReset_refused (hm : req.manages = true) (hq : s.qRuns = true) {r : Nat} (h : s.softRefusal reach key target force = some r) :
    s.softReset req reach key target force = s.setFld 0 F.RST_SOFT_STATUS_RESULT r := by
  simp [State.softReset, hm, hq, h]

theorem State.softReset_accepted (hm : req.manages = true) (hq : s.qRuns = true) (h : s.softRefusal reach key target force = none) :
    s.softReset req reach key target force = if reach = 0 ∨ s.fld 0 F.CVS_STATE_STATE = 1 then s.chipReset srSoft 0 else s.softStart reach target := by
  simp [State.softReset, hm, hq, h]

/-- With the key, none under way and a unit that exists, a soft reset is accepted where it reaches no radio hardware or FORCE is set (R73, R74). -/
theorem State.softRefusal_none (hs : s.rst.soft = none) (hr : softRange reach target = true) (hf : s.softRadio reach target = false ∨ force = true) :
    s.softRefusal reach 0x5A target force = none := by
  have hradio : (s.softRadio reach target && !force) = false := by rcases hf with h | h <;> simp [h]
  simp [State.softRefusal, hs, hr, hradio]

/-- Without a cell no unit is radio hardware in use. -/
theorem State.softRadio_noCells (h : s.cellCount = 0) (reach target : Nat) : s.softRadio reach target = false := by simp [State.softRadio, h]

end SoftReset

/-- Settles O4: each source comes to a chip reset that it asserts alone. -/
theorem chipReachSourcesRebuildTheChip : Obligations.ChipReachSourcesRebuildTheChip := by
  intro s hi h0 ha
  have hresets : ∀ {src : Nat} (latch : Nat), src ≠ srPor → src < 2 ^ 22 → s.ChipReset (s.chipReset src latch) src latch := fun latch hp hs =>
    State.chipReset_resets hi h0 ha hp hs latch
  refine ⟨fun hcard => ?card, fun hchip hperst => ?perst, fun hchip => ?hot, fun hchip hhot => ?disable, fun hw hr => ?watchdog, fun req hm ho hp hq => ?debug,
    fun req force hm ho hq hs hf => ?soft⟩
  case card => exact ⟨_, exec_cardResetAssert_apart hcard, hresets srCard (by decide) (by decide)⟩
  case perst => exact ⟨_, (exec_perstAssert_apart hperst).trans (congrArg _ (if_pos hchip)), hresets srPerst (by decide) (by decide)⟩
  case hot => exact ⟨_, (exec_cxlHotReset s).trans (congrArg _ (if_pos hchip)), hresets 0 (by decide) (by decide)⟩
  case disable => exact ⟨_, (exec_linkDisable_apart hhot).trans (congrArg _ (if_pos hchip)), hresets srHot (by decide) (by decide)⟩
  case watchdog => exact ⟨_, exec_watchdogExpiry_running hw hr, hresets 0 (by decide) (by decide)⟩
  case debug => exact ⟨_, exec_debugReset_granted hm ho hp hq, hresets 0 (by decide) (by decide)⟩
  case soft =>
    have hnone : s.softRefusal 0 0x5A 0 force = none := State.softRefusal_none hs rfl (hf.imp_left (s.softRadio_noCells · 0 0))
    have hx : exec (.softResetChip req 0x5A 0 force) s = .next (s.softReset req 0 0x5A 0 force) := exec_softResetChip 0x5A 0 force ho
    exact ⟨_, hx.trans (congrArg _ ((State.softReset_accepted hm hq hnone).trans (if_pos (Or.inl rfl)))), hresets 0 (by decide) (by decide)⟩

/-! ### Power-on reset (R68, R77) -/

theorem State.chipReset_por_frame (s : State) : RegsFrame [0x20014, 0x20018] (s.rebuilt true (s.rst.chipSrc ||| srPor)) (s.chipReset srPor srPor) := by
  rw [State.chipReset_por]
  exact ((RegsFrame.refl _ _).setFld _ _ _ (by decide) (by decide)).showHeld (by decide)

/-- RST_CAUSE comes out of a power-on reset with bit 0 alone (R62, R91). -/
theorem resetCause_default : fieldOf (regDefault (regKey 0 F.RST_CAUSE_CAUSE.off)) F.RST_CAUSE_CAUSE.lo F.RST_CAUSE_CAUSE.width = srPor := by decide

/-- Settles O11: the rebuilt state keeps no bit of a register but the fuses'. -/
theorem powerOnResetIsTheResetState : Obligations.PowerOnResetIsTheResetState := by
  intro s hi
  have hframe := s.chipReset_por_frame
  have hdefault : ∀ u off, off < regSpan → off ≠ 0x20014 → off ≠ 0x20018 → off ≠ 0x380008 → (s.chipReset srPor srPor).reg u off = regDefault (regKey u off) := fun u off ho hh hd hf => by
    rw [hframe.reg u off ho (by simp [hh, hd]), State.reg_rebuilt_default hi true _ u ho (keptMask_true_of_ne hf)]
  refine ⟨s.chipReset srPor srPor, rfl, s.chipReset_chipSrc srPor srPor, ?cause, fun u off ho hh hd hf => hdefault u off ho hh hd hf, fun u => ?fuses, ?state, ?out, ?pending⟩
  case cause =>
    unfold State.fld
    rw [hdefault 0 _ (by decide) (by decide) (by decide) (by decide), resetCause_default]
  case fuses => rw [hframe.reg u _ (by decide) (by decide), State.reg_rebuilt_sticky hi true _ u (by decide) (by decide)]
  case state => rw [hframe.rest]; rfl
  case out => rw [hframe.rest]; rfl
  case pending => rw [hframe.rest]; rfl

/-- Settles O58: nothing is in any map or set, and the time of day is 0. -/
theorem resetMeetsTheInvariant : Obligations.ResetMeetsTheInvariant :=
  ⟨⟨rfl, rfl, rfl, rfl, by decide⟩, rfl, rfl, rfl⟩

/-! ### The release of a source (R75, R76) -/

theorem State.fld_clrFld_same (s : State) (u : Nat) {f : Fld} (m : Nat) (h : f.inWord = true) : (s.clrFld u f m).fld u f = s.fld u f - (s.fld u f &&& m) := by
  rw [State.clrFld, State.fld_setFld_same _ _ _ _ h]
  exact Nat.mod_eq_of_lt (lt_of_le_of_lt (Nat.sub_le ..) (State.fld_lt s u f))

/-- The sources that hold the chip, and RST_HELD, without `src`. -/
def State.letGo (s : State) (src : Nat) : State :=
  { s.clrFld 0 F.RST_HELD_HELD src with rst := { s.rst with chipSrc := s.rst.chipSrc - (s.rst.chipSrc &&& src) } }

theorem State.chipRelease_eq (s : State) (src : Nat) :
    s.chipRelease src = if s.rst.chipSrc ≠ 0 ∧ (s.letGo src).rst.chipSrc = 0 then (s.letGo src).showHeld.bringUp else (s.letGo src).showHeld := rfl

/-- The registers that show what is held and how far bring-up is: RST_DOMAIN, CLK_STATUS and RST_BRINGUP. -/
def bringUpOffs : List Nat := [0x20018, 0x20000, 0x2002C]

theorem State.chipRelease_frame (s : State) (src : Nat) : RegsFrame bringUpOffs (s.letGo src) (s.chipRelease src) := by
  have hshown := (RegsFrame.refl bringUpOffs (s.letGo src)).showHeld (by decide)
  rw [State.chipRelease_eq]
  split
  · exact hshown.bringUp (by decide) (by decide) (by decide)
  · exact hshown

theorem State.showHeld_frame (s : State) : RegsFrame [0x20018] s s.showHeld := (RegsFrame.refl _ s).showHeld (by decide)

theorem State.bringUp_step (s : State) : s.bringUp.fld 0 F.RST_BRINGUP_STEP = 1 := by
  rw [State.bringUp, (State.showHeld_frame _).fld 0 _ (by decide) (by decide), State.fld_setFld_apart _ _ _ _ _ _ (by decide) (by decide) (by decide),
    State.fld_setFld_apart _ _ _ _ _ _ (by decide) (by decide) (by decide), State.fld_setFld_same _ _ _ _ (by decide)]
  rfl

theorem State.bringUp_refOk (s : State) : s.bringUp.flag 0 F.CLK_STATUS_REF_OK = true := by
  rw [State.bringUp, (State.showHeld_frame _).flag 0 _ (by decide) (by decide), State.flag_setFld_apart _ _ _ _ _ _ (by decide) (by decide) (by decide),
    State.flag_setFld_apart _ _ _ _ _ _ (by decide) (by decide) (by decide), State.flag_setFld_apart _ _ _ _ _ _ (by decide) (by decide) (by decide),
    State.flag_setFlag_same _ _ _ _ (by decide) (by decide)]

/-- What the release of a source leaves: it no longer holds the chip, and with the last one gone bring-up is at step 1 with the reference present. -/
structure State.Released (s t : State) (src : Nat) : Prop where
  chipSrc : t.rst.chipSrc = s.rst.chipSrc - (s.rst.chipSrc &&& src)
  held : t.fld 0 F.RST_HELD_HELD = s.fld 0 F.RST_HELD_HELD - (s.fld 0 F.RST_HELD_HELD &&& src)
  started : s.rst.chipSrc ≠ 0 → t.rst.chipSrc = 0 → t.fld 0 F.RST_BRINGUP_STEP = 1 ∧ t.flag 0 F.CLK_STATUS_REF_OK = true
  waits : t.rst.chipSrc ≠ 0 → t.fld 0 F.RST_BRINGUP_STEP = s.fld 0 F.RST_BRINGUP_STEP
  cause : t.fld 0 F.RST_CAUSE_CAUSE = s.fld 0 F.RST_CAUSE_CAUSE
  mem : t.mem = s.mem
  out : t.out = s.out

theorem State.chipRelease_released (s : State) (src : Nat) : s.Released (s.chipRelease src) src := by
  have hframe := s.chipRelease_frame src
  have hsrc : (s.chipRelease src).rst.chipSrc = (s.letGo src).rst.chipSrc := congrArg _ hframe.rst
  refine ⟨hsrc, ?held, fun h0 h1 => ?started, fun h1 => ?waits, ?cause, hframe.mem, hframe.out⟩
  case held => exact (hframe.fld 0 _ (by decide) (by decide)).trans (s.fld_clrFld_same 0 src (by decide))
  case started =>
    rw [State.chipRelease_eq, if_pos ⟨h0, hsrc ▸ h1⟩]
    exact ⟨State.bringUp_step _, State.bringUp_refOk _⟩
  case waits =>
    rw [State.chipRelease_eq, if_neg (fun h => h1 (hsrc.trans h.2)), (State.showHeld_frame _).fld 0 _ (by decide) (by decide)]
    exact fld_clrFld_apart _ _ _ _ _ _ (by decide) (by decide) (by decide)
  case cause => exact (hframe.fld 0 _ (by decide) (by decide)).trans (fld_clrFld_apart _ _ _ _ _ _ (by decide) (by decide) (by decide))

section Releases

variable {s : State}

theorem exec_cardResetRelease (h : s.fld 0 F.RST_HELD_HELD &&& srCard ≠ 0) : exec .cardResetRelease s = .next (s.chipRelease srCard) :=
  congrArg Host.Outcome.next (if_pos h)

theorem exec_perstRelease (h : s.fld 0 F.RST_HELD_HELD &&& srPerst ≠ 0) :
    exec .perstRelease s = .next (if s.rst.chipSrc &&& srPerst ≠ 0 then s.chipRelease srPerst else s.hostRelease srPerst) :=
  congrArg Host.Outcome.next (if_neg h)

theorem exec_linkReenable (h : s.fld 0 F.RST_HELD_HELD &&& srHot ≠ 0) :
    exec .linkReenable s = .next (if s.rst.chipSrc &&& srHot ≠ 0 then s.chipRelease srHot else s.hostRelease srHot) :=
  congrArg Host.Outcome.next (if_neg h)

theorem exec_supplyResetRelease (h : s.rst.chipSrc &&& (srPor ||| srSupply) ≠ 0) : exec .supplyResetRelease s = .next (s.chipRelease (srPor ||| srSupply)) :=
  congrArg Host.Outcome.next (if_pos h)

/-- The reference is present again (R61). -/
def State.refBack (s : State) : State := { s with rst := { s.rst with refLost := false } }

theorem exec_referenceReturn (h : s.rst.refLost = true) : exec .referenceReturn s = .next (s.refBack.chipRelease srClock) :=
  congrArg Host.Outcome.next (if_pos h)

theorem State.Released.of_refBack {t : State} {src : Nat} (h : s.refBack.Released t src) : s.Released t src :=
  ⟨h.chipSrc, h.held, h.started, h.waits, h.cause, h.mem, h.out⟩

theorem State.refBack_release_refLost (s : State) (src : Nat) : (s.refBack.chipRelease src).rst.refLost = false :=
  congrArg RstSt.refLost (s.refBack.chipRelease_frame src).rst

end Releases

/-- Settles O5: each command comes to the release of its source. -/
theorem releasedSourcesStartBringUp : Obligations.ReleasedSourcesStartBringUp := by
  intro s c src h
  have hreleases : ∃ t, exec c s = .next t ∧ s.Released t src ∧ (c = .referenceReturn → t.rst.refLost = false) := by
    rcases h with ⟨rfl, rfl, hh⟩ | ⟨rfl, rfl, hh, hs⟩ | ⟨rfl, rfl, hh, hs⟩ | ⟨rfl, rfl, hl⟩ | ⟨rfl, rfl, hs⟩
    · exact ⟨_, exec_cardResetRelease hh, s.chipRelease_released srCard, fun e => nomatch e⟩
    · exact ⟨_, (exec_perstRelease hh).trans (congrArg _ (if_pos hs)), s.chipRelease_released srPerst, fun e => nomatch e⟩
    · exact ⟨_, (exec_linkReenable hh).trans (congrArg _ (if_pos hs)), s.chipRelease_released srHot, fun e => nomatch e⟩
    · exact ⟨_, exec_referenceReturn hl, (s.refBack.chipRelease_released srClock).of_refBack, fun _ => s.refBack_release_refLost srClock⟩
    · exact ⟨_, exec_supplyResetRelease hs, s.chipRelease_released (srPor ||| srSupply), fun e => nomatch e⟩
  obtain ⟨t, ht, hr, hl⟩ := hreleases
  exact ⟨t, ht, hr.chipSrc, hr.held, hr.started, hr.waits, hr.cause, hr.mem, hr.out, hl⟩

/-! ### The host's resets of default reach (R66, R77, R78) -/

theorem State.hostReset_default {s : State} (h0 : s.rst.chipSrc = 0) (src : Nat) :
    s.hostReset src = ((((s.orFld 0 F.RST_CAUSE_CAUSE src).orFld 0 F.RST_HELD_HELD src).showHeld).holdAll holdHost).cxlReset :=
  if_neg (not_not.mpr h0)

theorem State.showHeld_cxl (s : State) : s.showHeld.flag 0 F.RST_DOMAIN_CXL = s.cxlHeld := by
  rw [State.showHeld, State.flag_setFlag_apart _ _ _ _ _ _ (by decide) (by decide) (by decide), State.flag_setFlag_same _ _ _ _ (by decide) (by decide)]

theorem State.showHeld_tenants (s : State) : s.showHeld.flag 0 F.RST_DOMAIN_TENANTS = decide (s.fld 0 F.RST_HELD_HELD &&& (srPerst ||| srHot) ≠ 0) := by
  rw [State.showHeld, State.flag_setFlag_same _ _ _ _ (by decide) (by decide)]

/-- Nothing holds the CXL controller: no source of the host, bring-up at or past step 3, and no reset of I/O die 0. -/
theorem State.cxlHeld_free {s : State} (hh : s.fld 0 F.RST_HELD_HELD &&& (srPerst ||| srHot) = 0) (hb : 3 ≤ s.fld 0 F.RST_BRINGUP_STEP) (hs : s.rst.soft ≠ some (1, 0)) :
    s.cxlHeld = false := by
  simp [State.cxlHeld, hh, hs, Nat.not_lt.mpr hb]

/-- The release of the last source of the host. -/
theorem State.hostRelease_last {s : State} (h0 : s.rst.chipSrc = 0) {src : Nat} (ht : (s.clrFld 0 F.RST_HELD_HELD src).showHeld.flag 0 F.RST_DOMAIN_TENANTS = false) :
    s.hostRelease src = ((s.clrFld 0 F.RST_HELD_HELD src).showHeld.unholdAll holdHost).stepEleven := by
  simp [State.hostRelease, h0, ht]

/-- Settles O6: with default reach each event comes to the host's reset, and the release of the last source lets go. -/
theorem hostResetsOfDefaultReach : Obligations.HostResetsOfDefaultReach := by
  intro s src h0
  refine ⟨⟨?perst, ?disable, ?hot⟩, fun hlast hheld => ?released⟩
  case perst =>
    rintro rfl hchip hh
    rw [exec_perstAssert_apart hh, hchip, if_neg Bool.false_ne_true, State.hostReset_default h0]
  case disable =>
    rintro rfl hchip hh
    rw [exec_linkDisable_apart hh, hchip, if_neg Bool.false_ne_true, State.hostReset_default h0]
  case hot =>
    rintro rfl hchip
    rw [exec_cxlHotReset, hchip, if_neg Bool.false_ne_true, State.hostReset_default h0]
  case released =>
    have hfree : (s.clrFld 0 F.RST_HELD_HELD src).fld 0 F.RST_HELD_HELD &&& (srPerst ||| srHot) = 0 := by rwa [s.fld_clrFld_same 0 src (by decide)]
    have htenants : (s.clrFld 0 F.RST_HELD_HELD src).showHeld.flag 0 F.RST_DOMAIN_TENANTS = false := by rw [State.showHeld_tenants, hfree]; rfl
    refine ⟨fun hb hs => ?cxl, htenants, ?perstRelease, ?reenable⟩
    case cxl =>
      rw [State.showHeld_cxl]
      exact State.cxlHeld_free hfree (by rwa [fld_clrFld_apart _ _ _ _ _ _ (by decide) (by decide) (by decide)]) hs
    case perstRelease =>
      rintro rfl
      rw [exec_perstRelease hheld, h0, Nat.zero_and, if_neg (not_not.mpr rfl), State.hostRelease_last h0 htenants, State.stepEleven]
    case reenable =>
      rintro rfl
      rw [exec_linkReenable hheld, h0, Nat.zero_and, if_neg (not_not.mpr rfl), State.hostRelease_last h0 htenants, State.stepEleven]

/-! ### Soft resets narrower than the chip (R68, R71 to R74) -/

/-- A unit that a soft reset names and that exists (R72). -/
theorem softRange_ioDie {d : Nat} (h : d < 2) : softRange 1 d = true := decide_eq_true h

theorem softRange_panel {p : Nat} (h : p < 3) : softRange 2 p = true := decide_eq_true h

theorem softRange_core {n : Nat} (h : n < 48 ∨ 256 ≤ n ∧ n < 256 + 192) : softRange 3 n = true := decide_eq_true h

/-- I/O die 1 carries no radio hardware, and an S-core that no cell uses is none (R73). -/
theorem State.softRadio_ioDie_one (s : State) {d : Nat} (h : d ≠ 0) : s.softRadio 1 d = false := by simp [State.softRadio, h]

theorem State.softRadio_score (s : State) {n : Nat} (h : 256 ≤ n) (hc : s.cellOfCore (n - 256) = none) : s.softRadio 3 n = false := by
  simp [State.softRadio, hc, Nat.not_lt.mpr h]

section Narrow

variable {s : State} {req : Requester} {reach target : Nat} {force : Bool}

/-- Outside apply a soft reset of a unit that is accepted resets that unit. -/
theorem State.softReset_starts (hm : req.manages = true) (hq : s.qRuns = true) (ha : s.fld 0 F.CVS_STATE_STATE ≠ 1) (hs : s.rst.soft = none) (h0 : reach ≠ 0)
    (hr : softRange reach target = true) (hf : s.softRadio reach target = false ∨ force = true) :
    s.softReset req reach 0x5A target force = s.softStart reach target := by
  rw [State.softReset_accepted hm hq (State.softRefusal_none hs hr hf), if_neg (not_or.mpr ⟨h0, ha⟩)]

end Narrow

/-- Settles O7: an acceptance starts the unit's reset, a refusal shows its code. -/
theorem softResetsOfUnits : Obligations.SoftResetsOfUnits := by
  intro s req key target force hm ho hq ha
  refine ⟨fun hk hs => ?accepted, fun reach r hr => ⟨?refusedChip, ?refusedIoDie, ?refusedPanel, ?refusedCore⟩⟩
  case accepted =>
    subst hk
    have hstarts : ∀ {reach : Nat}, reach ≠ 0 → softRange reach target.toNat = true → s.softRadio reach target.toNat = false ∨ force = true →
        Host.Outcome.next (s.softReset req reach (0x5A : BitVec 8).toNat target.toNat force) = (.next (s.softStart reach target.toNat) : Res) := fun h0 hrange hf =>
      congrArg _ (State.softReset_starts hm hq ha hs h0 hrange hf)
    rintro reach b rfl
    refine ⟨?ioDie, ?panel, ?tcore, ?score⟩
    case ioDie =>
      rintro rfl hd hf
      have hradio : s.softRadio 1 target.toNat = false ∨ force = true := by
        by_cases h0 : target.toNat = 0
        · exact (hf h0).imp_left (s.softRadio_noCells · 1 _)
        · exact Or.inl (s.softRadio_ioDie_one h0)
      exact (exec_softResetIoDie 0x5A target force ho).trans (hstarts (by decide) (softRange_ioDie hd) hradio)
    case panel =>
      rintro rfl hp hf
      exact (exec_softResetPanel 0x5A target force ho).trans (hstarts (by decide) (softRange_panel hp) (hf.imp_left (s.softRadio_noCells · 2 _)))
    case tcore =>
      rintro rfl hc hf
      rw [exec_softResetCore 0x5A target force ho, hstarts (by decide) (softRange_core (Or.inl hc)) (hf.imp_left (s.softRadio_noCells · 3 _))]
      exact congrArg _ (if_pos (by omega))
    case score =>
      rintro rfl hl hu hf
      have hradio : s.softRadio 3 target.toNat = false ∨ force = true := by
        rcases hf with hc | hf | hn
        · exact Or.inl (s.softRadio_noCells hc 3 _)
        · exact Or.inr hf
        · exact Or.inl (s.softRadio_score hl hn)
      rw [exec_softResetCore 0x5A target force ho, hstarts (by decide) (softRange_core (Or.inr ⟨hl, hu⟩)) hradio]
      exact congrArg _ (if_neg (Nat.not_lt.mpr hl))
  case refusedChip => rintro rfl; rw [exec_softResetChip key target force ho, State.softReset_refused hm hq hr]
  case refusedIoDie => rintro rfl; rw [exec_softResetIoDie key target force ho, State.softReset_refused hm hq hr]
  case refusedPanel => rintro rfl; rw [exec_softResetPanel key target force ho, State.softReset_refused hm hq hr]
  case refusedCore => rintro rfl; rw [exec_softResetCore key target force ho, State.softReset_refused hm hq hr]

end Sys2Proof.Machine

/-! SUPPORT. The monitors of clocks and supplies (03 R61, R86 to R92; 21 R571, R579): what a row of them answers, brace mode, and the statements about them. -/
namespace Sys2Proof.Machine

open Sys2Proof Sys2Proof.Laws

/-! ### A row of monitors -/

/-- A fold that sets bit i of its answer where a check fires answers a bit for each monitor that truly saw a loss, and none beyond the row. -/
theorem foldl_range_bits {σ : Type} (fires : Nat × σ → Nat → Bool) (next : Nat × σ → Nat → σ) (real : Nat) (hf : ∀ a i, real.testBit i = true → fires a i = true) (s : σ) (n : Nat) :
    let r := (List.range n).foldl (fun a i => (if fires a i then a.1 + 2 ^ i else a.1, next a i)) (0, s)
    r.1 < 2 ^ n ∧ ∀ i, i < n → real.testBit i = true → r.1.testBit i = true := by
  induction n with
  | zero => exact ⟨Nat.one_pos, fun i hi => absurd hi (Nat.not_lt_zero i)⟩
  | succ n ih =>
    simp only [List.range_succ, List.foldl_append, List.foldl_cons, List.foldl_nil] at ih ⊢
    generalize (List.range n).foldl (fun a i => (if fires a i then a.1 + 2 ^ i else a.1, next a i)) (0, s) = r at ih ⊢
    obtain ⟨hlt, hbits⟩ := ih
    have hpow : 2 ^ (n + 1) = 2 ^ n + 2 ^ n := by rw [Nat.pow_succ]; omega
    by_cases hn : fires r n = true
    · rw [if_pos hn]
      refine ⟨by omega, fun i hi hreal => ?_⟩
      rw [Nat.add_comm]
      by_cases hin : i = n
      · rw [hin, Nat.testBit_two_pow_add_eq, Nat.testBit_lt_two_pow hlt]; rfl
      · rw [Nat.testBit_two_pow_add_gt (by omega), hbits i (by omega) hreal]
    · rw [if_neg hn]
      refine ⟨by omega, fun i hi hreal => hbits i ?_ hreal⟩
      have : i ≠ n := fun e => hn (hf r n (e ▸ hreal))
      omega

/-- A number below 2^n has its bits below n. -/
theorem lt_of_testBit {real n i : Nat} (h : real < 2 ^ n) (hi : real.testBit i = true) : i < n :=
  (Nat.pow_lt_pow_iff_right (by decide)).mp (lt_of_le_of_lt (Nat.ge_two_pow_of_testBit hi) h)

/-- The monitors of resetting detectors that saw a loss are among those that fired; injection can add others. -/
theorem State.samples_bits (s : State) (det : Nat) {n real : Nat} (h : real < 2 ^ n) (i : Nat) (hi : real.testBit i = true) : (s.samples det n real).1.testBit i = true := by
  exact (foldl_range_bits (fun a i => (a.2.sample (det + i) (real.testBit i)).1) (fun a i => (a.2.sample (det + i) (real.testBit i)).2) real
    (fun a i hreal => by simp [State.sample, hreal]) s n).2 i (lt_of_testBit h hi) hi

/-- What a warning monitor leaves once it has answered: an event where the rail falls below its level (R87; 21 R579). -/
def State.warnNext (s t : State) (rails i : Nat) : State :=
  let q := t.inject (178 + i) atelier
  let fell := (rails.testBit i || q.1.isSome) && !(s.fld 0 F.PWR_SUP_STATUS_BELOW_WARN).testBit i
  if fell then q.2.detect (178 + i) atelier ukRail i 0 0 sevService q.1.isSome else q.2

theorem State.warnSamples_eq (s : State) (rails : Nat) :
    s.warnSamples rails = (List.range 7).foldl
      (fun a i => (if rails.testBit i || (a.2.inject (178 + i) atelier).1.isSome then a.1 + 2 ^ i else a.1, s.warnNext a.2 rails i)) (0, s) := rfl

/-- The rails that are below their warning level are among those the warning monitors answer. -/
theorem State.warnSamples_bits (s : State) {rails : Nat} (h : rails < 2 ^ 7) (i : Nat) (hi : rails.testBit i = true) : (s.warnSamples rails).1.testBit i = true := by
  obtain ⟨-, hbits⟩ := foldl_range_bits (fun a i => rails.testBit i || (a.2.inject (178 + i) atelier).1.isSome) (fun a i => s.warnNext a.2 rails i) rails
    (fun a i hreal => by simp [hreal]) s 7
  rw [State.warnSamples_eq]
  exact hbits i (lt_of_testBit h hi) hi

theorem ne_zero_of_testBit_imp {a b : Nat} (h : ∀ i, a.testBit i = true → b.testBit i = true) (ha : a ≠ 0) : b ≠ 0 := by
  obtain ⟨i, hi⟩ := Nat.exists_testBit_of_ne_zero ha
  rintro rfl
  simpa using h i hi

/-- A mask of rails is a number below 2^7, not 0 where a rail is in it. -/
theorem rails_ne_zero {rails : BitVec 7} (h : rails ≠ 0) : rails.toNat ≠ 0 := fun e => h (BitVec.eq_of_toNat_eq e)

/-! ### Clock loss (R61) -/

/-- The monitors that truly saw a loss: bit 0 the reference, bit 1 the root PLL, bits 2 to 5 the domains. -/
def lossMask (doms : BitVec 4) (ref root : Bool) : Nat := (if ref then 1 else 0) + (if root then 2 else 0) + 4 * doms.toNat

theorem lossMask_lt (doms : BitVec 4) (ref root : Bool) : lossMask doms ref root < 2 ^ 6 := by
  have := doms.isLt
  cases ref <;> cases root <;> simp [lossMask] <;> omega

/-- The clocks that failed recorded in CLK_LOSS. -/
def State.recordLoss (s : State) (mask : Nat) : State :=
  (((s.setFld 0 F.CLK_LOSS_DOMAIN (mask / 4)).setFld 0 F.CLK_LOSS_REF mask).setFld 0 F.CLK_LOSS_ROOT (mask / 2)).incSat 0 F.CLK_LOSS_COUNT 1

/-- The reference is lost. -/
def State.refGone (s : State) : State := { s.setFlag 0 F.CLK_STATUS_REF_OK false with rst := { s.rst with refLost := true } }

section ClockLoss

variable {s : State} {doms : BitVec 4} {root : Bool}

theorem exec_clockLoss_refPresent {r : Nat × State} (hr : s.samples 193 6 (lossMask doms false root) = r) (h : r.1 ≠ 0) :
    exec (.clockLoss doms false root) s = .next ((r.2.recordLoss r.1).chipReset srClock 0) := by
  subst hr; exact congrArg Host.Outcome.next (if_neg h)

theorem exec_clockLoss_refLost {r : Nat × State} (hr : s.samples 193 6 (lossMask doms true root) = r) (h : r.1 ≠ 0) :
    exec (.clockLoss doms true root) s = .next ((r.2.recordLoss r.1).chipReset srClock srClock).refGone := by
  subst hr; exact congrArg Host.Outcome.next (if_neg h)

end ClockLoss

/-- A source that a reset latches is among those that hold the chip. -/
theorem State.chipReset_holds (s : State) (src : Nat) {latch : Nat} (h : latch ≠ 0) : (s.chipReset src latch).rst.chipSrc &&& latch ≠ 0 := by
  rw [State.chipReset_chipSrc, Nat.and_or_distrib_right, Nat.and_self]
  have := Nat.right_le_or (n := s.rst.chipSrc &&& latch) (m := latch)
  omega

/-! ### Supply resets (R86, R89) -/

theorem State.supplyReset_trips {s : State} {rails : Nat} (f : Fld) (h : (s.samples 185 7 rails).1 ≠ 0) :
    s.supplyReset f rails = ((s.samples 185 7 rails).2.orFld 0 f (s.samples 185 7 rails).1).chipReset srSupply srSupply := if_neg h

/-- Settles O9: the monitors that saw a loss fire, and what fires resets the chip. -/
theorem clockAndSupplyLossResetTheChip : Obligations.ClockAndSupplyLossResetTheChip := by
  intro s
  refine ⟨fun doms ref root hreal => ?clocks, fun rails hrails => ?supplies⟩
  case clocks =>
    have hbits := s.samples_bits 193 (lossMask_lt doms ref root)
    have hfired := ne_zero_of_testBit_imp hbits hreal
    refine ⟨hbits, ?refPresent, ?refLost⟩
    case refPresent =>
      rintro rfl
      exact exec_clockLoss_refPresent rfl hfired
    case refLost =>
      rintro rfl
      exact ⟨_, exec_clockLoss_refLost rfl hfired, rfl, State.flag_setFlag_same _ _ _ _ (by decide) (by decide), rfl, State.chipReset_holds _ _ (by decide)⟩
  case supplies =>
    have hbits := s.samples_bits 185 rails.isLt
    have hfired := ne_zero_of_testBit_imp hbits (rails_ne_zero hrails)
    exact ⟨hbits, congrArg _ (State.supplyReset_trips _ hfired), congrArg _ (State.supplyReset_trips _ hfired)⟩

/-! ### Brace mode (R87, R88, R92) -/

/-- The rails that are below their warning level shown, a near miss counted unless brace mode is on `already`, and brace mode on. -/
def State.braceBegins (s : State) (low : Nat) (already : Bool) : State :=
  let s1 := (s.orFld 0 F.PWR_BRACE_CAUSE_RAIL low).setFld 0 F.PWR_SUP_STATUS_BELOW_WARN low
  ((if already then s1 else s1.incSat 0 F.PWR_NEARMISS_COUNT 1).setFlag 0 F.PWR_SUP_STATUS_BRACE true).setFlag 0 F.CLM_HOLDUP_CHG true

theorem exec_braceEntry_low {s : State} {rails : BitVec 7} (hq : s.qRuns = true) (h : (s.warnSamples rails.toNat).1 ≠ 0) :
    exec (.braceEntry rails) s = .next ((s.warnSamples rails.toNat).2.braceBegins (s.warnSamples rails.toNat).1 s.brace) := by
  change execBraceEntry rails s = _
  simp [execBraceEntry, State.braceBegins, hq, h]

theorem exec_braceExit_on {s : State} (us : BitVec 32) (h : s.brace = true) :
    exec (.braceExit us) s = .next (((s.setFlag 0 F.PWR_SUP_STATUS_BRACE false).setFld 0 F.PWR_SUP_STATUS_BELOW_WARN 0).setFld 0 F.PWR_BRACE_LAST_US us.toNat).admitBuilds :=
  congrArg Host.Outcome.next (if_pos h)

section BraceBegins

variable (s : State) (low : Nat) (already : Bool)

theorem State.braceBegins_frame : RegsFrame [0x30044, 0x30040, 0x30048, 0x3021C] s (s.braceBegins low already) := by
  have hshown := ((RegsFrame.refl [0x30044, 0x30040, 0x30048, 0x3021C] s).setFld 0 F.PWR_BRACE_CAUSE_RAIL (s.fld 0 F.PWR_BRACE_CAUSE_RAIL ||| low) (by decide) (by decide)).setFld 0
    F.PWR_SUP_STATUS_BELOW_WARN low (by decide) (by decide)
  unfold State.braceBegins
  refine RegsFrame.setFlag (RegsFrame.setFlag ?_ 0 F.PWR_SUP_STATUS_BRACE true (by decide) (by decide)) 0 F.CLM_HOLDUP_CHG true (by decide) (by decide)
  split
  · exact hshown
  · exact hshown.setFld 0 F.PWR_NEARMISS_COUNT _ (by decide) (by decide)

theorem State.braceBegins_brace : (s.braceBegins low already).brace = true := by
  rw [State.brace, State.braceBegins, State.flag_setFlag_apart _ _ _ _ _ _ (by decide) (by decide) (by decide), State.flag_setFlag_same _ _ _ _ (by decide) (by decide)]

theorem State.braceBegins_charging : (s.braceBegins low already).flag 0 F.CLM_HOLDUP_CHG = true :=
  State.flag_setFlag_same _ _ _ _ (by decide) (by decide)

theorem State.braceBegins_cause :
    (s.braceBegins low already).fld 0 F.PWR_BRACE_CAUSE_RAIL = (s.fld 0 F.PWR_BRACE_CAUSE_RAIL ||| low) % 2 ^ 7 := by
  cases already <;>
    simp (disch := decide) [State.braceBegins, State.orFld, State.fld_setFlag_apart, State.fld_setFld_apart, State.fld_incSat_apart, State.fld_setFld_same]

theorem State.braceBegins_below : (s.braceBegins low already).fld 0 F.PWR_SUP_STATUS_BELOW_WARN = low % 2 ^ 7 := by
  cases already <;>
    simp (disch := decide) [State.braceBegins, State.fld_setFlag_apart, State.fld_incSat_apart, State.fld_setFld_same]

theorem State.braceBegins_nearMisses :
    (s.braceBegins low already).fld 0 F.PWR_NEARMISS_COUNT =
      if already then s.fld 0 F.PWR_NEARMISS_COUNT else min (s.fld 0 F.PWR_NEARMISS_COUNT + 1) (2 ^ F.PWR_NEARMISS_COUNT.width - 1) := by
  cases already <;>
    simp (disch := decide) [State.braceBegins, State.fld_setFlag_apart, State.fld_setFld_apart, State.fld_orFld_apart, State.fld_incSat_same]

end BraceBegins

/-- PWR_SUP_MEAS has a register of its own for each rail. -/
theorem supMeas_inWord {r : Nat} (h : r < 7) : (F.PWR_SUP_MEAS_MV r).inWord = true := by
  rw [inWord_iff]; simp only [regSpan]; omega

theorem supMeas_apart {r q : Nat} (h : q ≠ r) : (F.PWR_SUP_MEAS_MV q).apart (F.PWR_SUP_MEAS_MV r) = true := by
  rw [apart_iff]; dsimp only; omega

/-- The readings of a measuring period. -/
def State.showReadings (s : State) (mv : List (BitVec 16)) : State := forUpto 7 (fun r (t : State) => t.setFld 0 (F.PWR_SUP_MEAS_MV r) (nth 0 mv r).toNat) s

theorem exec_supplyMeasPeriod_runs {s : State} (mv : List (BitVec 16)) (h : s.runs .q = true) : exec (.supplyMeasPeriod mv) s = .next (s.showReadings mv) :=
  congrArg Host.Outcome.next (if_pos h)

theorem State.showReadings_shown (s : State) (mv : List (BitVec 16)) {r : Nat} (h : r < 7) : (s.showReadings mv).fld 0 (F.PWR_SUP_MEAS_MV r) = (nth 0 mv r).toNat := by
  rw [State.showReadings, State.fld_forUpto_setFld (fun _ => 0) F.PWR_SUP_MEAS_MV (fun r => (nth 0 mv r).toNat) s 7 (fun _ => supMeas_inWord)
    (fun _ _ _ _ hq => Or.inr (supMeas_apart hq)) r h]
  exact Nat.mod_eq_of_lt (nth 0 mv r).isLt

theorem State.showReadings_frame (s : State) (mv : List (BitVec 16)) : RegsFrame ((List.range 7).map fun r => (F.PWR_SUP_MEAS_MV r).off) s (s.showReadings mv) :=
  .forUpto_setFld (fun _ => 0) F.PWR_SUP_MEAS_MV (fun r => (nth 0 mv r).toNat) s 7 (fun _ hr => ((inWord_iff _).mp (supMeas_inWord hr)).2)
    (fun _ hr => List.mem_map_of_mem (List.mem_range.mpr hr))

/-- Settles O10: entry, exit and measuring, each from its rules above. -/
theorem braceModeEntersAndLeaves : Obligations.BraceModeEntersAndLeaves := by
  intro s
  refine ⟨fun rails hrails hq => ?entry, fun us hb => exec_braceExit_on us hb, fun mv hq => ?measuring⟩
  case entry =>
    have hbits := s.warnSamples_bits rails.isLt
    have hframe := (s.warnSamples rails.toNat).2.braceBegins_frame (s.warnSamples rails.toNat).1 s.brace
    exact ⟨_, exec_braceEntry_low hq (ne_zero_of_testBit_imp hbits (rails_ne_zero hrails)), hbits, State.braceBegins_brace .., State.braceBegins_charging ..,
      State.braceBegins_cause .., State.braceBegins_below .., State.braceBegins_nearMisses .., hframe.mem, hframe.out⟩
  case measuring =>
    have hframe := s.showReadings_frame mv
    refine ⟨_, exec_supplyMeasPeriod_runs mv hq, fun r hr => s.showReadings_shown mv hr, fun u off ho hn => hframe.reg u off ho fun hm => ?_, hframe.mem, hframe.out⟩
    obtain ⟨r, hr, he⟩ := List.mem_map.mp hm
    exact hn r (List.mem_range.mp hr) he.symm

end Sys2Proof.Machine

/-! SUPPORT. Bring-up's clocks (03 R59, R60, R67, R78; 02 R27): what the lock of the root PLL, the settling of a domain and a kick of the watchdog do. -/
namespace Sys2Proof.Machine

open Sys2Proof Sys2Proof.Laws

/-! ### The root PLL (R60) -/

/-- The root PLL's lock shown, and step 2 complete. -/
def State.rootLocked (s : State) : State := (s.setFlag 0 F.CLK_STATUS_ROOT_LOCK true).setFld 0 F.RST_BRINGUP_STEP 2

theorem exec_rootPllLock {s : State} (h0 : s.rst.chipSrc = 0) (hb : s.fld 0 F.RST_BRINGUP_STEP = 1) : exec .rootPllLock s = .next s.rootLocked :=
  congrArg Host.Outcome.next (if_pos ⟨h0, hb⟩)

theorem State.rootLocked_lock (s : State) : s.rootLocked.flag 0 F.CLK_STATUS_ROOT_LOCK = true := by
  rw [State.rootLocked, State.flag_setFld_apart _ _ _ _ _ _ (by decide) (by decide) (by decide), State.flag_setFlag_same _ _ _ _ (by decide) (by decide)]

theorem State.rootLocked_step (s : State) : s.rootLocked.fld 0 F.RST_BRINGUP_STEP = 2 := State.fld_setFld_same _ _ _ _ (by decide)

theorem State.rootLocked_run (s : State) : s.rootLocked.fld 0 F.CLK_STATUS_RUN = s.fld 0 F.CLK_STATUS_RUN := by
  rw [State.rootLocked, State.fld_setFld_apart _ _ _ _ _ _ (by decide) (by decide) (by decide), State.fld_setFlag_apart _ _ _ _ _ _ (by decide) (by decide) (by decide)]

/-! ### The settling of a domain (R59) -/

theorem domBit_lt (d : Domain) : domBit d < 4 := by cases d <;> decide

theorem domBit_injective : Function.Injective domBit := by
  have back : ∀ d, [Domain.k, .s, .h, .q][domBit d]? = some d := by intro d; cases d <;> rfl
  intro d e h
  exact Option.some.inj (by rw [← back d, h, back e])

/-- The domain shown as running. -/
def State.settled (s : State) (d : Domain) : State := s.orFld 0 F.CLK_STATUS_RUN (2 ^ domBit d)

theorem State.settled_runs (s : State) (d e : Domain) : (s.settled d).runs e = (s.runs e || decide (e = d)) := by
  have hbit : decide (domBit d = domBit e) = decide (e = d) := decide_eq_decide.mpr (domBit_injective.eq_iff.trans eq_comm)
  rw [State.runs, State.settled, State.fld_orFld_same _ _ _ _ (by decide) (Nat.pow_lt_pow_right (by decide) (domBit_lt d)), Nat.testBit_or, Nat.testBit_two_pow, hbit]
  rfl

theorem State.settled_runs_self (s : State) (d : Domain) : (s.settled d).runs d = true := by simp [State.settled_runs]

theorem State.settled_runs_other (s : State) {d e : Domain} (h : e ≠ d) : (s.settled d).runs e = s.runs e := by simp [State.settled_runs, h]

theorem State.settled_step (s : State) (d : Domain) : (s.settled d).fld 0 F.RST_BRINGUP_STEP = s.fld 0 F.RST_BRINGUP_STEP :=
  State.fld_orFld_apart _ _ _ _ _ _ (by decide) (by decide) (by decide)

/-- The domain that settles in the same step of bring-up: H and Q in step 3, K and S in phase 2 of apply. -/
def partner : Domain → Domain
  | .k => .s
  | .s => .k
  | .h => .q
  | .q => .h

/-- In step 3 the domain beside `d` is its partner. -/
theorem slow_other_iff {d : Domain} (hd : d = .h ∨ d = .q) (e : Domain) : (e = .h ∨ e = .q) ∧ e ≠ d ↔ e = partner d := by
  rcases hd with rfl | rfl <;> cases e <;> decide

/-- In phase 2 of apply the domain beside `d` is its partner. -/
theorem fast_other_iff {d : Domain} (hd : d = .k ∨ d = .s) (e : Domain) : (e = .k ∨ e = .s) ∧ e ≠ d ↔ e = partner d := by
  rcases hd with rfl | rfl <;> cases e <;> decide

theorem State.settled_slow (s : State) {d : Domain} (hd : d = .h ∨ d = .q) : ((s.settled d).runs .h && (s.settled d).runs .q) = s.runs (partner d) := by
  rcases hd with rfl | rfl <;> simp [State.settled_runs, partner]

theorem State.settled_fast (s : State) {d : Domain} (hd : d = .k ∨ d = .s) : ((s.settled d).runs .k && (s.settled d).runs .s) = s.runs (partner d) := by
  rcases hd with rfl | rfl <;> simp [State.settled_runs, partner]

/-- Step 3 is complete: the ROM shows what it holds and starts the watchdog (R67, R78). -/
def State.stepThree (s : State) : State := { (s.setFld 0 F.RST_BRINGUP_STEP 3).showHeld with rst := { s.rst with wdog := some s.nowNs } }

theorem State.stepThree_step (s : State) : s.stepThree.fld 0 F.RST_BRINGUP_STEP = 3 :=
  ((State.showHeld_frame _).fld 0 F.RST_BRINGUP_STEP (by decide) (by decide)).trans (State.fld_setFld_same _ _ _ _ (by decide))

theorem State.stepThree_runs (s : State) (e : Domain) : s.stepThree.runs e = s.runs e := by
  have hrun : s.stepThree.fld 0 F.CLK_STATUS_RUN = s.fld 0 F.CLK_STATUS_RUN :=
    ((State.showHeld_frame _).fld 0 F.CLK_STATUS_RUN (by decide) (by decide)).trans (State.fld_setFld_apart _ _ _ _ _ _ (by decide) (by decide) (by decide))
  unfold State.runs; rw [hrun]

/-- The settling of H or Q after step 2. -/
theorem exec_domainSettle_slow {s : State} {d : Domain} (h0 : s.rst.chipSrc = 0) (hr : s.runs d = false) (hd : d = .h ∨ d = .q) (hb : s.fld 0 F.RST_BRINGUP_STEP = 2) :
    exec (.domainSettle d) s = .next (if s.runs (partner d) then (s.settled d).stepThree else s.settled d) := by
  have hslow : ¬domBit d < 2 := by rcases hd with rfl | rfl <;> decide
  change execDomainSettle d s = _
  rw [← s.settled_slow hd]
  simp [execDomainSettle, State.settled, State.stepThree, h0, hr, hslow, hb]

/-- The settling of K or S in phase 2 of apply. -/
theorem exec_domainSettle_fast {s : State} {d : Domain} (h0 : s.rst.chipSrc = 0) (hr : s.runs d = false) (hd : d = .k ∨ d = .s) (ha : s.fld 0 F.CVS_STATE_STATE = 1)
    (hp : s.fld 0 F.CVS_STATE_PHASE = 2) : exec (.domainSettle d) s = .next (if s.runs (partner d) then (s.settled d).phaseEarly else s.settled d) := by
  have hfast : domBit d < 2 := by rcases hd with rfl | rfl <;> decide
  change execDomainSettle d s = _
  rw [← s.settled_fast hd]
  simp [execDomainSettle, State.settled, h0, hr, hfast, ha, hp]

/-! ### Phase 3 of apply (02 R27; 04 R114) -/

theorem State.phaseEarly_frame (s : State) :
    RegsFrame [F.MEM_STK_STATUS_STATE.off] ((((s.loadPhase (fun t => earlyType t && decide (t ≠ secClock))).setFld 0 F.RST_DOMAIN_IODIE 0).setFld 0 F.RST_BRINGUP_STEP 7).setFld 0
      F.CVS_STATE_PHASE 4) s.phaseEarly :=
  .forUpto_setFld id (fun _ => F.MEM_STK_STATUS_STATE) (fun _ => 1) _ 18 (fun _ _ => by decide) (fun _ _ => List.mem_singleton_self _)

theorem State.phaseEarly_step (s : State) : s.phaseEarly.fld 0 F.RST_BRINGUP_STEP = 7 := by
  rw [s.phaseEarly_frame.fld 0 _ (by decide) (by decide), State.fld_setFld_apart _ _ _ _ _ _ (by decide) (by decide) (by decide), State.fld_setFld_same _ _ _ _ (by decide)]
  rfl

theorem State.phaseEarly_phase (s : State) : s.phaseEarly.fld 0 F.CVS_STATE_PHASE = 4 := by
  rw [s.phaseEarly_frame.fld 0 _ (by decide) (by decide), State.fld_setFld_same _ _ _ _ (by decide)]
  rfl

/-- Every stack starts to train. -/
theorem State.phaseEarly_training (s : State) {k : Nat} (hk : k < 18) : s.phaseEarly.fld k F.MEM_STK_STATUS_STATE = 1 :=
  State.fld_forUpto_setFld id (fun _ => F.MEM_STK_STATUS_STATE) (fun _ => 1) _ 18 (fun _ _ => by decide) (fun _ _ _ _ h => Or.inl h) k hk

/-! ### The watchdog (R67) -/

theorem exec_watchdogKick {s : State} {req : Requester} (v : BitVec 32) (ho : s.barOpen req F.RST_WDOG_KICK_KICK.off = true) :
    exec (.watchdogKick req v) s = .next (s.kickWdog req v.toNat) :=
  access_open (fun _ => .next (s.kickWdog req v.toNat)) ho

theorem State.kickWdog_running {s : State} (req : Requester) (v : BitVec 32) (hw : s.rst.wdog.isSome = true) :
    s.kickWdog req v.toNat = if req.atelier = true ∧ v = 0x6B1C then { s with rst := { s.rst with wdog := some s.nowNs } } else s := by
  have hkey : v.toNat = 0x6B1C ↔ v = 0x6B1C := BitVec.toNat_inj (y := 0x6B1C)
  simp [State.kickWdog, hw, hkey]

/-- Settles O12: the lock, the settling of each pair of domains and the kick, each from its rules above. -/
theorem bringUpStartsTheClocks : Obligations.BringUpStartsTheClocks := by
  intro s h0
  refine ⟨fun hb => ?lock, fun d hr hd hb => ?slow, fun d hr hd ha hp => ?fast, fun req v ho hw => ⟨_, exec_watchdogKick v ho, State.kickWdog_running req v hw⟩⟩
  case lock => exact ⟨_, exec_rootPllLock h0 hb, s.rootLocked_lock, s.rootLocked_step, s.rootLocked_run, rfl, rfl⟩
  case slow =>
    have hx := exec_domainSettle_slow h0 hr hd hb
    obtain ⟨hpair, hne⟩ := (slow_other_iff hd _).mpr rfl
    cases hrun : s.runs (partner d) with
    | true =>
      rw [hrun] at hx
      refine ⟨_, hx, ?_, fun e he => ?_, fun _ => ⟨State.stepThree_step _, rfl⟩, fun ⟨e, he, hed, hoff⟩ => ?_⟩
      · rw [if_pos rfl, State.stepThree_runs, State.settled_runs_self]
      · rw [if_pos rfl, State.stepThree_runs, State.settled_runs_other s he]
      · rw [(slow_other_iff hd e).mp ⟨he, hed⟩, hrun] at hoff; exact absurd hoff (by decide)
    | false =>
      rw [hrun] at hx
      refine ⟨_, hx, s.settled_runs_self d, fun e he => s.settled_runs_other he, fun hall => ?_, fun _ => ⟨(s.settled_step d).trans hb, rfl⟩⟩
      exact absurd (hrun.symm.trans (hall _ hpair hne)) (by decide)
  case fast =>
    have hx := exec_domainSettle_fast h0 hr hd ha hp
    obtain ⟨hpair, hne⟩ := (fast_other_iff hd _).mpr rfl
    refine ⟨_, hx, fun e he hed hoff => ?_, fun hall => ?_⟩
    · rw [(fast_other_iff hd e).mp ⟨he, hed⟩] at hoff
      rw [hoff]
      exact ⟨rfl, s.settled_runs_self d⟩
    · rw [hall _ hpair hne]
      exact ⟨rfl, State.phaseEarly_step _, State.phaseEarly_phase _, fun k hk => State.phaseEarly_training _ hk⟩

end Sys2Proof.Machine

/-! SUPPORT. The T-cores (05): what setting a core, a launch and the operand checks leave, one rule for each, and the statement about launches. -/
namespace Sys2Proof.Machine

open Sys2Proof Sys2Proof.Laws

/-! ### Setting a T-core -/

/-- The registers that show a T-core (05 R169 to R171). -/
def tcShownOffs : List Nat := [F.TC_STATUS_STATE.off, F.TC_BUSY_LO_BUSY.off, F.TC_BUSY_HI_BUSY.off, F.TC_EAS_QDEPTH_DEPTH.off]

theorem State.RegsFrame.setTcBit {offs : List Nat} {s t : State} (h : State.RegsFrame offs s t) (lo hi : Fld) (core : Nat) (b : Bool)
    (hl : lo.off < regSpan) (hh : hi.off < regSpan) (ml : lo.off ∈ offs) (mh : hi.off ∈ offs) : State.RegsFrame offs s (t.setTcBit lo hi core b) := by
  unfold State.setTcBit
  have hf : (if core < 32 then lo else hi).off < regSpan := by split <;> assumption
  have hm : (if core < 32 then lo else hi).off ∈ offs := by split <;> assumption
  cases b
  · exact h.setFld _ _ _ hf hm
  · exact h.setFld _ _ _ hf hm

/-- Setting a T-core changes its own state and the registers that show it. -/
theorem State.setTcore_frame (s : State) (core e : Nat) (t : TcSt) :
    State.RegsFrame tcShownOffs { s with tc := SMap.set (fun _ => TcSt.empty) s.tc core t } (s.setTcore core e t) := by
  have h := State.RegsFrame.refl tcShownOffs { s with tc := SMap.set (fun _ => TcSt.empty) s.tc core t }
  exact ((((h.setFld _ F.TC_STATUS_STATE _ (by decide) (by decide)).setFld _ F.TC_STATUS_ARRAYS_BUSY _ (by decide) (by decide)).setFld _ F.TC_STATUS_QDEPTH _
    (by decide) (by decide)).setTcBit F.TC_BUSY_LO_BUSY F.TC_BUSY_HI_BUSY _ _ (by decide) (by decide) (by decide) (by decide)).setFld _ F.TC_EAS_QDEPTH_DEPTH _ (by decide) (by decide)

@[simp] theorem State.setTcore_tc (s : State) (core e : Nat) (t : TcSt) : (s.setTcore core e t).tc = SMap.set (fun _ => TcSt.empty) s.tc core t := by
  rw [(s.setTcore_frame core e t).rest]

@[simp] theorem State.setTcore_mem (s : State) (core e : Nat) (t : TcSt) : (s.setTcore core e t).mem = s.mem := by
  rw [(s.setTcore_frame core e t).rest]

theorem State.tcore_congr {s t : State} (h : t.tc = s.tc) (core : Nat) : t.tcore core = s.tcore core := by unfold State.tcore; rw [h]

@[simp] theorem State.tcore_setTcore (s : State) (core e : Nat) (t : TcSt) : (s.setTcore core e t).tcore core = t := by
  unfold State.tcore; rw [State.setTcore_tc, SMap.get_set_same]

/-! ### Takes (09 R287 to R289) touch no memory and no T-core -/

/-- `t` holds the memory and the T-cores of `s`. -/
def State.SameCores (s t : State) : Prop := t.mem = s.mem ∧ t.tc = s.tc

theorem State.SameCores.trans {s t u : State} (h : s.SameCores t) (k : t.SameCores u) : s.SameCores u := ⟨k.1.trans h.1, k.2.trans h.2⟩

theorem State.grantTake_sameCores (s : State) (w : Waiter) : s.SameCores (s.grantTake w) := by
  cases w with
  | channel n => unfold State.grantTake State.makeReady; dsimp only; split <;> exact ⟨rfl, rfl⟩
  | _ => exact ⟨rfl, rfl⟩

theorem serveTakes_sameCores (sem : Nat) (l : List Waiter) (s : State) : s.SameCores (serveTakes sem l s) := by
  induction l generalizing s with
  | nil => exact ⟨rfl, rfl⟩
  | cons w r ih =>
    unfold serveTakes
    split
    · exact ⟨rfl, rfl⟩
    · exact .trans (.trans (t := s.setSem sem (s.semCount sem - 1)) ⟨rfl, rfl⟩ (State.grantTake_sameCores _ w)) (ih _)

theorem State.sendTake_sameCores (s : State) (sem : Nat) (w : Waiter) : s.SameCores (s.sendTake sem w) :=
  .trans (t := s.setWaiters sem (s.semWaiters sem ++ [w])) ⟨rfl, rfl⟩ (serveTakes_sameCores sem _ _)

theorem id_of_mem_markSent {ids : List Nat} {l : List Cmd} {d : Cmd} (h : d ∈ markSent ids l) : ∃ x ∈ l, d.id = x.id := by
  obtain ⟨x, hx, rfl⟩ := List.mem_map.mp h
  exact ⟨x, hx, by split <;> rfl⟩

/-- Sending its takes marks waiting commands of a T-core, and changes nothing else of it. -/
theorem State.tcTakes_spec (s : State) (core : Nat) : (s.tcTakes core).mem = s.mem ∧ ((s.tcTakes core).tcore core).running = (s.tcore core).running ∧
    ((s.tcTakes core).tcore core).warm = (s.tcore core).warm ∧ ∀ d ∈ ((s.tcTakes core).tcore core).granted, ∃ x ∈ (s.tcore core).granted, d.id = x.id := by
  have hsent : ∀ (l : List Cmd) (u : State), u.SameCores (forEach l (fun c v => v.sendTake c.waitSem (.tcore core c.id)) u) := fun l u =>
    each_keep u.SameCores _ (fun c v h => h.trans (v.sendTake_sameCores _ _)) l u ⟨rfl, rfl⟩
  unfold State.tcTakes
  dsimp only
  rw [State.tcore_congr (hsent _ _).2 core, State.tcore_setTcore]
  exact ⟨(hsent _ _).1.trans (State.setTcore_mem _ _ _ _), rfl, rfl, fun d hd => id_of_mem_markSent hd⟩

/-! ### A launch (R155, R170) -/

/-- A command runs on a T-core with these ends, and none of its number is granted there. -/
def State.Launched (t : State) (core : Nat) (c : Cmd) (ends : List GroupEnd) : Prop :=
  ⟨c, ends⟩ ∈ (t.tcore core).running ∧ ∀ d ∈ (t.tcore core).granted, d.id ≠ c.id

theorem State.countSwitch_sameCores (s : State) (b : Bool) (core e : Nat) :
    s.SameCores ((if b then s.incWrap core F.TC_SWITCHES_SWITCHES 1 else s).setFld core F.TC_STATUS_LAST_EASEL e) := by
  cases b <;> exact ⟨rfl, rfl⟩

/-- What a launch makes of its T-core. -/
theorem State.launch_spec (s : State) (core : Nat) (c : Cmd) (ends : List GroupEnd) :
    (s.launch core c ends).Launched core c ends ∧ (s.launch core c ends).mem = s.mem ∧ ((s.launch core c ends).tcore core).warm = (s.tcore core).warm := by
  unfold State.launch State.Launched
  dsimp only
  generalize hs : State.setTcore _ core c.easel _ = s1
  have hcore := (congrArg (fun u : State => u.tcore core) hs).symm.trans (State.tcore_setTcore _ _ _ _)
  have hmem : s1.mem = s.mem := hs ▸ State.setTcore_mem _ _ _ _
  have hu := s1.countSwitch_sameCores ((s.tcore core).launched && decide (s.fld core F.TC_STATUS_LAST_EASEL ≠ c.easel)) core c.easel
  generalize State.setFld _ core F.TC_STATUS_LAST_EASEL c.easel = u at hu ⊢
  obtain ⟨hm, hr, hw, hg⟩ := u.tcTakes_spec core
  rw [State.tcore_congr hu.2 core, hcore] at hr hw hg
  rw [hr, hw]
  refine ⟨⟨List.mem_append_right _ (List.mem_singleton.mpr rfl), fun d hd => ?_⟩, hm.trans (hu.1.trans hmem), rfl⟩
  obtain ⟨x, hx, hid⟩ := hg d hd
  rw [hid]
  exact of_decide_eq_true (List.mem_filter.mp hx).2

theorem State.launch_launched (s : State) (core : Nat) (c : Cmd) (ends : List GroupEnd) : (s.launch core c ends).Launched core c ends := (s.launch_spec core c ends).1
@[simp] theorem State.launch_mem (s : State) (core : Nat) (c : Cmd) (ends : List GroupEnd) : (s.launch core c ends).mem = s.mem := (s.launch_spec core c ends).2.1
@[simp] theorem State.launch_warm (s : State) (core : Nat) (c : Cmd) (ends : List GroupEnd) : ((s.launch core c ends).tcore core).warm = (s.tcore core).warm :=
  (s.launch_spec core c ends).2.2

section LaunchOp

variable {s : State} {core op : Nat} {c : Cmd} (run : State → Cmd → State)
  (hfind : s.findLaunch core (fun d => decide (d.opcode = op)) [] (s.tcore core).granted = some c)

include hfind

/-- A command that passes its checks has its effect. -/
theorem State.launchOp_passed (hc : s.tcCheck core c = 0) : s.launchOp core op run = run s c := by
  unfold State.launchOp; rw [hfind]; exact if_pos hc

/-- One that fails them runs with their status; the usage fault of OUT_OF_SHARE apart, that is all. -/
theorem State.launchOp_failed (hc : s.tcCheck core c ≠ 0) (hs : s.tcCheck core c ≠ 0x14) : s.launchOp core op run = s.launch core c (c.endsAll (s.tcCheck core c)) := by
  unfold State.launchOp; rw [hfind]; exact (if_neg hc).trans (congrArg (fun u : State => u.launch core c _) (if_neg hs))

end LaunchOp

/-! ### Clean operands (R152, R163) -/

theorem State.byte_congr {s t : State} (h : t.mem = s.mem) (k : Nat) : t.byte k = s.byte k := by unfold State.byte; rw [h]

/-- Nothing is poisoned, and neither detector of a T-core, of its scratchpad and of its arrays, is armed. -/
structure State.Clean (s : State) (core : Nat) : Prop where
  poison : s.poison = []
  scratch : s.flag (36 + core) F.FLT_INJSTAT_ARMED = false
  arrays : s.flag (84 + core) F.FLT_INJSTAT_ARMED = false

theorem State.reportArrays_nil (s : State) (core : Nat) (c : Cmd) (b : Bool) : s.reportArrays core c [] b = s := rfl

theorem State.wgtPoison_clean {s : State} {core : Nat} {c : Cmd} (hw : ∀ a i, s.wgtByte core c a i < 256) (a g : Nat) : s.wgtPoison core c a g = false := by
  have hlt : ∀ a i, decide (256 ≤ s.wgtByte core c a i) = false := fun a i => decide_eq_false (Nat.not_le.mpr (hw a i))
  simp [State.wgtPoison, hlt]

namespace State.Clean

variable {s : State} {core : Nat} (h : s.Clean core)

include h

theorem poisoned (k n : Nat) : s.poisoned k n = false := by unfold State.poisoned; rw [h.poison]; rfl

/-- The checks of the operand reads find nothing. -/
theorem spChecks (c : Cmd) : s.spChecks core c [] = s := by
  unfold State.spChecks State.spEcc
  simp [forEach, inj_off _ _ _ h.scratch, eccFlip]

theorem arrayChecks (c : Cmd) : s.arrayChecks core c [] = ([], false, s) := by
  unfold State.arrayChecks; simp [inj_off _ _ _ h.arrays]

theorem rowPoisoned (e base fmt n lo cnt : Nat) : s.rowPoisoned core e base fmt n lo cnt = false := by simp [State.rowPoisoned, h.poisoned]

theorem spanPoisoned (e : Nat) (p : Nat × Nat) : s.spanPoisoned core e p = false := h.poisoned _ _

theorem elemPoison (c : Cmd) (j : Nat) : s.elemPoison core c j = false := by simp [State.elemPoison, h.rowPoisoned, h.spanPoisoned]

theorem matPoison {c : Cmd} (hw : ∀ a i, s.wgtByte core c a i < 256) (a j g : Nat) : s.matPoison core c a j g = false := by
  simp [State.matPoison, h.rowPoisoned, h.spanPoisoned, State.wgtPoison_clean hw]

theorem tile0 (c : Cmd) (a : Nat) :
    s.tile0 core c a = ⟨c.easel, c.wAddr, c.fmtW, (List.range (sTile c.fmtW)).map (fun i => (s.byte (scratchKey core c.easel (c.wAddr + a * c.wAStride + i))).toNat)⟩ := by
  simp [State.tile0, h.poisoned]

/-- How a group of a MATMUL ends. -/
theorem matEnd {c : Cmd} (hw : ∀ a i, s.wgtByte core c a i < 256) (g : Nat) :
    s.matEnd core c [] g = ⟨if 1 < c.groupCount then g else 0xF, if c.k = 0 then stEmpty else stOk, 0,
      c.matRows (s.spByte core c.easel) (fun a i => s.wgtByte core c a i) (c.mode.getD .float8) g⟩ := by
  have hmod : (fun a i => s.wgtByte core c a i % 256) = fun a i => s.wgtByte core c a i := funext fun a => funext fun i => Nat.mod_eq_of_lt (hw a i)
  simp [State.matEnd, h.matPoison hw, maskOf, hmod]

end State.Clean

/-! ### PRELOAD (R126, R166) -/

theorem SMap.get_put {α : Type} (d : Nat → α) (m : SMap α) (x y : Nat) (a : α) : SMap.get d (SMap.put x a m) y = if y = x then a else SMap.get d m y := by
  induction m with
  | nil => rfl
  | cons p r ih =>
    obtain ⟨k, v⟩ := p
    unfold SMap.put
    by_cases hlt : x < k
    · rw [if_pos hlt]; rfl
    · by_cases hk : x = k
      · subst hk
        rw [if_neg hlt, if_pos rfl]
        by_cases hy : y = x <;> simp [SMap.get, hy]
      · rw [if_neg hlt, if_neg hk, SMap.get, ih, SMap.get]
        by_cases hy : y = k
        · simp [hy, Ne.symm hk]
        · simp [hy]

theorem State.tcore_loadSet (s : State) (core : Nat) (c : Cmd) (a : Nat) :
    (s.loadSet core c a).tcore core = { s.tcore core with warm := SMap.put a (s.tile0 core c a) (s.tcore core).warm } := SMap.get_set_same _ _ _ _

theorem State.loadSets_mem (s : State) (core : Nat) (c : Cmd) (l : List Nat) : (forEach l (fun a (t : State) => t.loadSet core c a) s).mem = s.mem :=
  each_keep (fun t : State => t.mem = s.mem) (fun a (t : State) => t.loadSet core c a) (fun _ _ h => h) l s rfl

/-- Each array named has chunk 0 in its idle set, as the scratchpad holds it, and the others keep theirs. -/
theorem State.idleSet_loadSets (core : Nat) (c : Cmd) (l : List Nat) (s : State) (a : Nat) :
    ((forEach l (fun b (t : State) => t.loadSet core c b) s).tcore core).idleSet a = if a ∈ l then s.tile0 core c a else (s.tcore core).idleSet a := by
  induction l generalizing s with
  | nil => rfl
  | cons b r ih =>
    have hidle : ((s.loadSet core c b).tcore core).idleSet a = if a = b then s.tile0 core c b else (s.tcore core).idleSet a := by
      rw [State.tcore_loadSet]; exact SMap.get_put _ _ _ _ _
    refine (ih (s.loadSet core c b)).trans ?_
    rw [hidle]
    change (if a ∈ r then s.tile0 core c a else _) = _
    by_cases hb : a = b
    · subst hb; simp
    · simp [hb]

theorem mem_arrayList {c : Cmd} {a : Nat} : a ∈ c.arrayList ↔ a < 4 ∧ c.arrays.testBit a = true := by
  unfold Cmd.arrayList bitsOf; rw [List.mem_filter, List.mem_range]

/-- A PRELOAD of clean bytes launches with OK after loading its sets. -/
theorem State.Clean.runPreload {s : State} {core : Nat} (h : s.Clean core) (c : Cmd) :
    s.runPreload core c [] = (forEach c.arrayList (fun a (t : State) => t.loadSet core c a) s).launch core c (c.endsAll stOk) := by
  have hok : c.arrayList.any (fun a => (((forEach c.arrayList (fun b (t : State) => t.loadSet core c b) s).tcore core).idleSet a).tile.any (fun b => decide (256 ≤ b))) = false := by
    rw [List.any_eq_false]
    intro a ha
    rw [State.idleSet_loadSets, if_pos ha, h.tile0, Bool.not_eq_true, List.any_eq_false]
    intro b hb
    obtain ⟨i, -, rfl⟩ := List.mem_map.mp hb
    simpa using BitVec.isLt _
  unfold State.runPreload
  rw [h.spChecks]
  simp [hok]

/-! ### RELEASE (R153) -/

@[simp] theorem State.byte_zeroBytes (s : State) (k n j : Nat) : (s.zeroBytes k n).byte j = if k ≤ j ∧ j < k + n then 0 else s.byte j := by
  refine (get_keep memDefault (fun x => decide (x < k ∨ k + n ≤ x)) s.mem j).trans ?_
  by_cases h : k ≤ j ∧ j < k + n
  · rw [if_pos h, if_neg (by simp; omega)]; rfl
  · rw [if_neg h, if_pos (by simp; omega)]; rfl

theorem State.byte_spRelease (s : State) (core e base count j : Nat) : (s.spRelease core e base count).byte j =
    if scratchKey core e (65536 * base) ≤ j ∧ j < scratchKey core e (65536 * base) + 65536 * count then 0 else s.byte j :=
  State.byte_zeroBytes s _ _ j

/-! ### ELEMWISE and MATMUL (R130, R139, R140, R142) -/

theorem State.runElemwise_empty (s : State) (core : Nat) {c : Cmd} (hk : c.k = 0) : s.runElemwise core c [] [] = s.launch core c (c.endsAll stEmpty) := if_pos hk

theorem State.runMatmul_empty (s : State) (core : Nat) {c : Cmd} (h : c.m = 0 ∨ c.n = 0) : s.runMatmul core c [] [] = s.launch core c (c.endsAll stEmpty) := if_pos h

theorem State.Clean.runElemwise {s : State} {core : Nat} (h : s.Clean core) {c : Cmd} (hk : c.k ≠ 0) :
    s.runElemwise core c [] [] = s.launch core c [⟨0xF, stOk, 0, [(c.outAddr, c.elemRow (s.spByte core c.easel))]⟩] := by
  unfold State.runElemwise
  rw [if_neg hk, h.spChecks]
  simp [h.arrayChecks, State.reportArrays_nil, h.elemPoison, maskOf]

@[simp] theorem State.loadWeights_mem (s : State) (core : Nat) (c : Cmd) : (s.loadWeights core c).mem = s.mem := by
  unfold State.loadWeights
  refine each_keep (fun t : State => t.mem = s.mem) _ (fun a t h => ?_) _ _ rfl
  split
  · split <;> exact h
  · exact h

/-- A MATMUL of clean operands launches with the rows of each group; where it reduces anything its weights are loaded first. -/
theorem State.Clean.runMatmul {s : State} {core : Nat} (h : s.Clean core) {c : Cmd} (hw : ∀ a i, s.wgtByte core c a i < 256) (hm : c.m ≠ 0) (hn : c.n ≠ 0) :
    s.runMatmul core c [] [] = (if c.k = 0 then s else s.loadWeights core c).launch core c ((List.range c.groupCount).map (s.matEnd core c [])) := by
  have hchk : (if c.k = 0 then ([], false, s) else s.arrayChecks core c []) = ([], false, s) := by rw [h.arrayChecks, ite_self]
  have hok : ((List.range c.groupCount).map (s.matEnd core c [])).filter (fun e => decide (e.status = stPoison)) = [] := by
    rw [List.filter_eq_nil_iff]
    intro e he
    obtain ⟨g, -, rfl⟩ := List.mem_map.mp he
    rw [h.matEnd hw]
    by_cases hk : c.k = 0 <;> simp [hk, stEmpty, stOk, stPoison]
  unfold State.runMatmul
  rw [if_neg (not_or.mpr ⟨hm, hn⟩), h.spChecks]
  simp only [hchk, State.reportArrays_nil, hok, forEach, List.foldl_nil]

/-- Settles O38: each command comes to a launch, by the rules above for its opcode. -/
theorem tensorCommandsLaunch : Obligations.TensorCommandsLaunch := by
  intro s core c finds started same clean key all
  have hstart : ∀ {op ins run u ends P}, exec ins s = .next (s.launchOp core op run) → s.launchOp core op run = State.launch u core c ends → P (u.launch core c ends) → started ins ends P :=
    fun {_ _ _ u ends _} hx hr hP => ⟨_, hx.trans (congrArg _ hr), (u.launch_launched core c ends).1, (u.launch_launched core c ends).2, hP⟩
  have hclean : clean → s.Clean core := fun ⟨hp, hsp, har⟩ => ⟨hp, hsp, har⟩
  have hsame : ∀ ends, same (s.launch core c ends) := s.launch_mem core c
  refine ⟨fun op ins hi hf h0 h14 => ?failed, fun hc => ?passed⟩
  case failed =>
    have hrun := fun run => State.launchOp_failed run hf h0 h14
    simp only [List.mem_cons, List.not_mem_nil, or_false, Prod.mk.injEq] at hi
    obtain ⟨rfl, rfl⟩ | ⟨rfl, rfl⟩ | ⟨rfl, rfl⟩ | ⟨rfl, rfl⟩ | ⟨rfl, rfl⟩ := hi <;> exact hstart rfl (hrun _) (hsame _)
  case passed =>
    have hrun : ∀ {op} run, finds op → s.launchOp core op run = run s c := fun run hf => State.launchOp_passed run hf hc
    refine ⟨fun hf => hstart rfl (hrun _ hf) (hsame _), fun hf hcl => ?preload, fun hf => ?release,
      fun hf hk => hstart rfl ((hrun _ hf).trans (s.runElemwise_empty core hk)) (hsame _),
      fun hf hk hcl => hstart rfl ((hrun _ hf).trans ((hclean hcl).runElemwise hk)) (hsame _),
      fun hf hmn => hstart rfl ((hrun _ hf).trans (s.runMatmul_empty core hmn)) (hsame _), fun hf hm hn hcl hw => ?matmul⟩
    case preload =>
      refine hstart rfl ((hrun _ hf).trans ((hclean hcl).runPreload c)) ⟨(State.launch_mem _ _ _ _).trans (State.loadSets_mem _ _ _ _), fun a ha hb => ?_⟩
      rw [State.launch_warm]
      refine (State.idleSet_loadSets core c c.arrayList s a).trans ?_
      rw [if_pos (mem_arrayList.mpr ⟨ha, hb⟩), (hclean hcl).tile0]
    case release =>
      have hbyte := fun j => (State.byte_congr (State.launch_mem _ core c (all 0)) j).trans (State.byte_spRelease s core c.easel c.unitBase c.unitCount j)
      refine hstart rfl (hrun _ hf) ⟨fun a h1 h2 => (hbyte _).trans (if_pos ?_), fun k hk => (hbyte k).trans (if_neg ?_)⟩
      · simp only [key, scratchKey]; omega
      · simp only [key, scratchKey] at hk ⊢; omega
    case matmul =>
      have hmat := (hclean hcl).runMatmul hw hm hn
      rw [show s.matEnd core c [] = _ from funext ((hclean hcl).matEnd hw)] at hmat
      refine hstart rfl ((hrun _ hf).trans hmat) ((State.launch_mem _ _ _ _).trans ?_)
      split
      · rfl
      · exact s.loadWeights_mem core c

end Sys2Proof.Machine

/-! SUPPORT. The ends of commands on T-cores and S-cores (05 R130, R161; 07 R209, R223; 10 R333 to R335): posting a record while the ring is not enabled, leaving the core, and the statement about them. -/
namespace Sys2Proof.Machine

open Sys2Proof Sys2Proof.Laws

/-- The records of an easel that wait for its ring. -/
def State.posted (s : State) (e : Nat) : List PostedRec := SMap.get (fun _ => []) s.sched.undelivered e

/-- The step-end marks of an easel. -/
def State.marksOf (s : State) (e : Nat) : List Nat := SMap.get (fun _ => []) s.sched.marks e

/-! ### Operations that leave the registers that the end of a command reads -/

/-- `t` is `s` but for stores and registers, and the registers at the offsets listed are the same. -/
structure State.Stored (offs : List Nat) (s t : State) : Prop where
  rest : t = { s with regs := t.regs, mem := t.mem, poison := t.poison, used := t.used }
  reg : ∀ u, ∀ off ∈ offs, t.reg u off = s.reg u off

/-- No byte of memory changes either. -/
structure State.KeepsRegs (offs : List Nat) (s t : State) : Prop extends State.Stored offs s t where
  mem : t.mem = s.mem

/-- ENABLE of the completion ring, and the counts of commands done. -/
def endReads : List Nat := [F.EAS_CTRL_ENABLE.off, F.TC_DONE_COUNT.off, F.SC_DONE_COUNT.off]

namespace State.Stored

variable {offs : List Nat} {s t w : State}

theorem refl (offs : List Nat) (s : State) : Stored offs s s := ⟨rfl, fun _ _ _ => rfl⟩

theorem trans (h : Stored offs s t) (k : Stored offs t w) : Stored offs s w := ⟨by rw [k.rest, h.rest], fun u off ho => (k.reg u off ho).trans (h.reg u off ho)⟩

theorem sched (h : Stored offs s t) : t.sched = s.sched := by rw [h.rest]
theorem posted (h : Stored offs s t) (e : Nat) : t.posted e = s.posted e := by unfold State.posted; rw [h.sched]
theorem live (h : Stored offs s t) (e : Nat) : t.live e = s.live e := by unfold State.live; rw [h.sched]
theorem marksOf (h : Stored offs s t) (e : Nat) : t.marksOf e = s.marksOf e := by unfold State.marksOf; rw [h.sched]
theorem nowNs (h : Stored offs s t) : t.nowNs = s.nowNs := by rw [h.rest]; rfl
theorem tc (h : Stored offs s t) : t.tc = s.tc := by rw [h.rest]
theorem sc (h : Stored offs s t) : t.sc = s.sc := by rw [h.rest]
theorem fld (h : Stored offs s t) (u : Nat) (f : Fld) (hf : f.off ∈ offs := by decide) : t.fld u f = s.fld u f := fld_of_reg (h.reg u f.off hf)
theorem flag (h : Stored offs s t) (u : Nat) (f : Fld) (hf : f.off ∈ offs := by decide) : t.flag u f = s.flag u f := by unfold State.flag; rw [h.fld u f hf]

end State.Stored

namespace State.KeepsRegs

variable {offs : List Nat} {s t w : State}

theorem refl (offs : List Nat) (s : State) : KeepsRegs offs s s := ⟨.refl offs s, rfl⟩

theorem trans (h : KeepsRegs offs s t) (k : KeepsRegs offs t w) : KeepsRegs offs s w := ⟨h.toStored.trans k.toStored, k.mem.trans h.mem⟩

theorem mono {offs' : List Nat} (h : KeepsRegs offs s t) (hs : offs' ⊆ offs := by decide) : KeepsRegs offs' s t := ⟨⟨h.rest, fun u off ho => h.reg u off (hs ho)⟩, h.mem⟩

theorem ofFrame {written : List Nat} (h : State.RegsFrame written s t) (hd : ∀ off ∈ offs, off < regSpan ∧ off ∉ written) : KeepsRegs offs s t :=
  ⟨⟨by rw [h.rest], fun u off ho => h.reg u off (hd off ho).1 (hd off ho).2⟩, h.mem⟩

theorem setReg (h : KeepsRegs offs s t) (u off : Nat) (v : BitVec 32) (hd : ∀ o ∈ offs, o < regSpan ∧ o ≠ off := by decide) (hf : off < regSpan := by decide) : KeepsRegs offs s (t.setReg u off v) :=
  h.trans ⟨⟨rfl, fun _ o ho => State.reg_setReg_ne _ _ (regKey_ne (hd o ho).1 hf (Or.inr (hd o ho).2))⟩, rfl⟩

theorem setFld (h : KeepsRegs offs s t) (u : Nat) (f : Fld) (v : Nat) (hd : ∀ off ∈ offs, off < regSpan ∧ off ≠ f.off := by decide)
    (hf : f.off < regSpan := by decide) : KeepsRegs offs s (t.setFld u f v) :=
  h.setReg u f.off _ hd hf

theorem setFlag (h : KeepsRegs offs s t) (u : Nat) (f : Fld) (b : Bool) (hd : ∀ off ∈ offs, off < regSpan ∧ off ≠ f.off := by decide)
    (hf : f.off < regSpan := by decide) : KeepsRegs offs s (t.setFlag u f b) :=
  h.setFld u f _ hd hf

theorem setScBit (h : KeepsRegs offs s t) (f : Nat → Fld) (core : Nat) (b : Bool) (hd : ∀ off ∈ offs, off < regSpan ∧ off ≠ (f (core / 32)).off) (hf : (f (core / 32)).off < regSpan) :
    KeepsRegs offs s (t.setScBit f core b) := by
  cases b
  · exact h.setFld 0 (f (core / 32)) _ hd hf
  · exact h.setFld 0 (f (core / 32)) _ hd hf

theorem incSat (h : KeepsRegs offs s t) (u : Nat) (f : Fld) (n : Nat) (hd : ∀ off ∈ offs, off < regSpan ∧ off ≠ f.off := by decide)
    (hf : f.off < regSpan := by decide) : KeepsRegs offs s (t.incSat u f n) :=
  h.setFld u f _ hd hf

theorem incWrap (h : KeepsRegs offs s t) (u : Nat) (f : Fld) (n : Nat) (hd : ∀ off ∈ offs, off < regSpan ∧ off ≠ f.off := by decide)
    (hf : f.off < regSpan := by decide) : KeepsRegs offs s (t.incWrap u f n) :=
  h.setFld u f _ hd hf

end State.KeepsRegs

/-! ### Posting a record while the ring is not enabled (10 R333 to R335) -/

/-- `t` is `s` with a record of an easel more that waits, and this list of commands outstanding; the registers at the offsets listed are the same. -/
structure State.Recorded (offs : List Nat) (e : Nat) (rec : PostedRec) (live : List Nat) (s t : State) : Prop where
  posted : t.posted e = s.posted e ++ [rec]
  live : t.live e = live
  marks : t.marksOf e = s.marksOf e
  mem : t.mem = s.mem
  tc : t.tc = s.tc
  sc : t.sc = s.sc
  reg : ∀ u, ∀ off ∈ offs, t.reg u off = s.reg u off

theorem deliverList_shut {s : State} {e : Nat} (h : s.flag e F.EAS_CTRL_ENABLE = false) (l : List PostedRec) : deliverList e l s = s.setUndelivered e l := by
  cases l with
  | nil => rfl
  | cons r t => unfold deliverList; rw [h]; rfl

theorem State.postRecord_recorded (offs : List Nat) {s : State} {e : Nat} (h : s.flag e F.EAS_CTRL_ENABLE = false) (kind : Nat) (bytes : List Nat) :
    State.Recorded offs e ⟨kind, bytes, s.nowNs⟩ (s.live e) s (s.postRecord e kind bytes) := by
  unfold State.postRecord State.deliver
  rw [deliverList_shut (s := s.setUndelivered e _) h]
  exact ⟨(SMap.get_set_same _ _ _ _).trans (SMap.get_set_same _ _ _ _), rfl, rfl, rfl, rfl, rfl, fun _ _ _ => rfl⟩

/-- While other commands of the easel are outstanding and no step end is marked, no step boundary is due. -/
theorem State.judgeBoundary_busy {s : State} {e : Nat} (hl : s.live e ≠ []) (hm : s.marksOf e = []) :
    s.judgeBoundary e = { s with sched := { s.sched with marks := SMap.set (fun _ => []) s.sched.marks e [] } } := by
  have hidle : s.easelIdle e = false := by unfold State.easelIdle; rw [List.isEmpty_eq_false_iff.mpr hl]; rfl
  have hdue : s.dueMark e = false := by
    unfold State.dueMark; change (_ && (s.marksOf e).any _) = _; rw [hm]; exact Bool.and_false _
  unfold State.judgeBoundary
  change (if _ then _ else { s with sched := { s.sched with marks := SMap.set _ s.sched.marks e (if _ then [] else (s.marksOf e).filter _) } }) = _
  rw [hidle, hdue, hm]
  rfl

/-- A command is outstanding no longer. -/
def State.leave (s : State) (e id : Nat) : State :=
  { s with sched := { s.sched with outstanding := SMap.set (fun _ => []) s.sched.outstanding e ((s.live e).filter (fun i => decide (i ≠ id))) } }

theorem State.live_leave (s : State) (e id : Nat) : (s.leave e id).live e = (s.live e).filter (fun i => decide (i ≠ id)) := SMap.get_set_same _ _ _ _

/-- Without a step end, a command that retires leaves the outstanding ones and a boundary is judged. -/
theorem State.retire_eq (s : State) (e id : Nat) : s.retire e id false = (s.leave e id).judgeBoundary e := rfl

namespace State.Recorded

variable {offs live : List Nat} {e : Nat} {rec : PostedRec} {s t u : State}

theorem fld (h : Recorded offs e rec live s t) (v : Nat) (f : Fld) (hf : f.off ∈ offs) : t.fld v f = s.fld v f := fld_of_reg (h.reg v f.off hf)

/-- Registers may change before the record is posted. -/
theorem ofKeeps {offs' : List Nat} (hs : offs' ⊆ offs) (hk : State.KeepsRegs offs' s u) (h : Recorded offs e rec live u t) : Recorded offs' e rec live s t :=
  ⟨hk.posted e ▸ h.posted, h.live, h.marks.trans (hk.marksOf e), h.mem.trans hk.mem, h.tc.trans hk.tc, h.sc.trans hk.sc,
    fun v off ho => (h.reg v off (hs ho)).trans (hk.reg v off ho)⟩

theorem retire (h : Recorded offs e rec live s t) {id : Nat} (hm : s.marksOf e = []) (ho : ∃ i ∈ live, i ≠ id) :
    Recorded offs e rec (live.filter (fun i => decide (i ≠ id))) s (t.retire e id false) := by
  obtain ⟨i, hi, hne⟩ := ho
  have hlive := t.live_leave e id
  rw [h.live] at hlive
  have hbusy : (t.leave e id).live e ≠ [] := hlive ▸ List.ne_nil_of_mem (List.mem_filter.mpr ⟨hi, decide_eq_true hne⟩)
  rw [State.retire_eq, State.judgeBoundary_busy hbusy (h.marks.trans hm)]
  exact ⟨h.posted, hlive, (SMap.get_set_same _ _ _ _).trans hm.symm, h.mem, h.tc, h.sc, h.reg⟩

theorem showMoving (h : Recorded endReads e rec live s t) : Recorded endReads e rec live s t.showMoving := by
  refine ⟨h.posted, h.live, h.marks, h.mem, h.tc, h.sc, fun u off ho => ?_⟩
  have hk : State.KeepsRegs endReads _ t.showMoving := (State.KeepsRegs.refl endReads _).setFld 0 F.SCH_MODE_MOVING _
  exact (hk.reg u off ho).trans (h.reg u off ho)

/-- A command whose record waits is outstanding no longer. Between `v` and `w` no register changes that the end of a command reads; before `v` a count may have. -/
theorem leaves {kind id : Nat} {bytes : List Nat} {v w : State} (hv : State.KeepsRegs [F.EAS_CTRL_ENABLE.off] s v) (hvw : State.KeepsRegs endReads v w)
    (h : Recorded endReads e ⟨kind, bytes, w.nowNs⟩ (w.live e) w t) (hm : s.marksOf e = []) (ho : ∃ i ∈ s.live e, i ≠ id) :
    Recorded [F.EAS_CTRL_ENABLE.off] e ⟨kind, bytes, s.nowNs⟩ ((s.live e).filter (fun i => decide (i ≠ id))) s (t.retire e id false).showMoving ∧
      ∀ x (f : Fld), f.off ∈ endReads → (t.retire e id false).showMoving.fld x f = v.fld x f := by
  have hw := hv.trans (hvw.mono)
  have hend := ((h.retire ((hw.marksOf e).trans hm) (hw.live e ▸ ho)).showMoving).ofKeeps (List.Subset.refl _) hvw
  rw [hw.nowNs, hw.live e] at hend
  exact ⟨hend.ofKeeps (by decide) hv, hend.fld⟩

end State.Recorded

/-! ### The output rows of a group, as its record is posted (05 R130, R152, R163) -/

theorem State.writeBytes_rest (bs : List Nat) (s : State) (k : Nat) : s.writeBytes k bs = { s with mem := (s.writeBytes k bs).mem } := by
  induction bs generalizing s k with
  | nil => rfl
  | cons b r ih => exact ih (s.setByte k (BitVec.ofNat 8 b)) (k + 1)

theorem State.setUsedRange_rest (s : State) (base size addr n : Nat) : s.setUsedRange base size addr n = { s with used := (s.setUsedRange base size addr n).used } := by
  unfold State.setUsedRange
  split
  · rfl
  · exact upto_keep (fun t : State => t = { s with used := t.used }) _ (fun i (t : State) => t.setUsed (base + (addr / size + i) * size)) (fun _ _ t h => by rw [h]; rfl) s rfl

theorem State.spStore_stored (s : State) (core e a : Nat) (bs : List Nat) : State.Stored endReads s (s.spStore core e a bs) := by
  have hraw : State.Stored endReads s (s.storeRaw (scratchKey core e a) bs) := by
    unfold State.storeRaw
    rw [State.writeBytes_rest]
    exact ⟨rfl, fun _ _ _ => rfl⟩
  have hused : State.Stored endReads (s.storeRaw (scratchKey core e a) bs) ((s.storeRaw (scratchKey core e a) bs).setUsedRange (scratchKey core e 0) 65536 a bs.length) := by
    rw [State.setUsedRange_rest]
    exact ⟨rfl, fun _ _ _ => rfl⟩
  exact (hraw.trans hused).trans ((State.KeepsRegs.refl endReads _).setFld _ F.TC_EAS_SP_WATERMARK_UNITS _).toStored

theorem State.spStore_mem (s : State) (core e a : Nat) (bs : List Nat) : (s.spStore core e a bs).mem = (s.writeBytes (scratchKey core e a) bs).mem :=
  (usedRange_mem _ _ _ _ _).1

theorem State.writeRows_stored (s : State) (core e : Nat) (rows : List (Nat × List Nat)) : State.Stored endReads s (s.writeRows core e rows) :=
  each_keep (State.Stored endReads s) _ (fun p t h => h.trans (t.spStore_stored core e p.1 p.2)) rows s (.refl _ s)

/-- The rows are in the scratchpad, one after the other. -/
theorem State.writeRows_mem (core e : Nat) (rows : List (Nat × List Nat)) {s t : State} (h : t.mem = s.mem) :
    (t.writeRows core e rows).mem = (rows.foldl (fun (u : State) p => u.writeBytes (scratchKey core e p.1) p.2) s).mem := by
  induction rows generalizing s t with
  | nil => exact h
  | cons p r ih => exact ih ((t.spStore_mem core e p.1 p.2).trans (sq_wb_mem p.2 t s _ h))

/-- `t` is `s` but for poison. -/
def State.Poisons (s t : State) : Prop := t = { s with poison := t.poison }

theorem State.Poisons.trans {s t u : State} (h : s.Poisons t) (k : t.Poisons u) : s.Poisons u := by
  unfold State.Poisons at *; rw [k, h]

theorem State.Poisons.forEach {α : Type} {f : α → State → State} (hf : ∀ a t, State.Poisons t (f a t)) (l : List α) (s : State) : s.Poisons (forEach l f s) :=
  each_keep s.Poisons f (fun a t h => h.trans (hf a t)) l s rfl

theorem State.markPoisonRange_poisons (s : State) (k n : Nat) : s.Poisons (s.markPoisonRange k n) := by
  unfold State.markPoisonRange
  split
  · rfl
  · exact upto_keep s.Poisons _ (fun i (t : State) => t.markPoison (k / 64 * 64 + 64 * i)) (fun _ _ t h => h.trans (u := t.markPoison _) rfl) s rfl

theorem State.poisonRow_poisons (s : State) (core e base fmt n lo cnt : Nat) : s.Poisons (s.poisonRow core e base fmt n lo cnt) :=
  .forEach (fun _ _ => State.markPoisonRange_poisons _ _ _) _ s

theorem State.poisonGroup_poisons (s : State) (core : Nat) (c : Cmd) (g arrays : Nat) : s.Poisons (s.poisonGroup core c g arrays) :=
  .forEach (fun _ t => upto_keep t.Poisons c.m _ (fun _ _ _ h => h.trans (State.poisonRow_poisons _ _ _ _ _ _ _ _)) t rfl) _ s

/-- Past the writes of its rows, the end of a group only poisons some of them. -/
theorem State.tcOutputs_poisons (s : State) (core : Nat) (c : Cmd) (e : GroupEnd) : (s.writeRows core c.easel e.rows).Poisons (s.tcOutputs core c e) := by
  unfold State.tcOutputs
  dsimp only
  split
  · exact State.poisonGroup_poisons _ _ _ _ _
  · split
    · exact .forEach (fun _ _ => .forEach (fun _ _ => State.poisonRow_poisons _ _ _ _ _ _ _ _) _ _) _ _
    · rfl

theorem State.tcOutputs_stored (s : State) (core : Nat) (c : Cmd) (e : GroupEnd) : State.Stored endReads s (s.tcOutputs core c e) := by
  refine (s.writeRows_stored core c.easel e.rows).trans ?_
  rw [s.tcOutputs_poisons core c e]
  exact ⟨rfl, fun _ _ _ => rfl⟩

theorem State.tcOutputs_mem {s t : State} (h : t.mem = s.mem) (core : Nat) (c : Cmd) (e : GroupEnd) :
    (t.tcOutputs core c e).mem = (e.rows.foldl (fun (u : State) p => u.writeBytes (scratchKey core c.easel p.1) p.2) s).mem := by
  rw [t.tcOutputs_poisons core c e]; exact State.writeRows_mem core c.easel e.rows h

/-! ### T-cores (05 R157, R161, R170) -/

theorem State.setTcore_keeps (s : State) (core e : Nat) (t : TcSt) :
    State.KeepsRegs endReads { s with tc := SMap.set (fun _ => TcSt.empty) s.tc core t } (s.setTcore core e t) :=
  .ofFrame (s.setTcore_frame core e t) (by decide)

theorem State.tcError_keeps (s : State) (core : Nat) (c : Cmd) (e : GroupEnd) : State.KeepsRegs endReads s (s.tcError core c e) := by
  unfold State.tcError
  split
  · exact ((((((State.KeepsRegs.refl endReads s).setFld _ F.TC_ERR_LAST_TAG _).setFld _ F.TC_ERR_LAST_STATUS _).setFld _ F.TC_ERR_LAST_GROUP _).setFld _
      F.TC_ERR_EASEL_EASEL _).incSat _ F.TC_ERR_COUNT_COUNT 1).incSat _ F.TC_EAS_ERRORS_COUNT 1
  · exact .refl _ s

section TcEnd

variable {s : State} {e : Nat} {c : Cmd} (he : c.easel = e) (hr : c.radio = false) (hen : s.flag e F.EAS_CTRL_ENABLE = false)

include he hr hen

/-- The record of a group of a tenant's command waits. -/
theorem State.tcPost_recorded (core : Nat) (en : GroupEnd) (cycles : Nat) :
    State.Recorded endReads e ⟨kindTcore, tcRecord c.tag en.status en.group e core en.arrays (c.cycles en cycles), s.nowNs⟩ (s.live e) s (s.tcPost core c en cycles) := by
  have hk := s.tcError_keeps core c en
  unfold State.tcPost
  rw [if_neg (by rw [hr]; decide), he, ← hk.nowNs, ← hk.live e]
  exact (State.postRecord_recorded endReads ((hk.flag e _).trans hen) _ _).ofKeeps (List.Subset.refl _) hk

/-- The last record of a command that neither signals nor ends a step. -/
theorem State.tcRetire_spec (core : Nat) (en : GroupEnd) (cycles : Nat) (hsig : c.signalEn = false) (hstep : c.stepEnd = false) (ho : ∃ i ∈ s.live e, i ≠ c.id)
    (hm : s.marksOf e = []) : let t := s.tcRetire core c en cycles
    t.posted e = s.posted e ++ [⟨kindTcore, tcRecord c.tag en.status en.group e core en.arrays (c.cycles en cycles), s.nowNs⟩] ∧ t.mem = s.mem ∧
      (t.tcore core).running = (s.tcore core).running.filter (fun x => decide (x.cmd.id ≠ c.id)) ∧ t.live e = (s.live e).filter (fun i => decide (i ≠ c.id)) ∧
      t.fld core F.TC_DONE_COUNT = (s.fld core F.TC_DONE_COUNT + 1) % 2 ^ 32 := by
  intro t
  -- the core without the command (`u`), which is counted for the core (`v`) and for its easel (`w`)
  let left : TcSt := { s.tcore core with running := (s.tcore core).running.filter (fun x => decide (x.cmd.id ≠ c.id)) }
  let u := s.setTcore core e left
  let v := u.incWrap core F.TC_DONE_COUNT 1
  let w := v.incWrap (ce core e) F.TC_EAS_DONE_COUNT 1
  have ht : t = ((w.tcPost core c en cycles).retire e c.id false).showMoving := by
    unfold t State.tcRetire
    rw [hsig, hstep, he]
    rfl
  have hu : State.KeepsRegs endReads { s with tc := SMap.set (fun _ => TcSt.empty) s.tc core left } u := s.setTcore_keeps core e left
  have huv : State.KeepsRegs [F.EAS_CTRL_ENABLE.off] u v := (State.KeepsRegs.refl _ u).incWrap core F.TC_DONE_COUNT 1
  have hvw : State.KeepsRegs endReads v w := (State.KeepsRegs.refl _ v).incWrap (ce core e) F.TC_EAS_DONE_COUNT 1
  have hv := (hu.mono).trans huv
  have hw := hv.trans (hvw.mono)
  obtain ⟨hrec, hfld⟩ := (State.tcPost_recorded he hr ((hw.flag e _).trans hen) core en cycles).leaves hv hvw hm ho
  rw [← ht] at hrec hfld
  refine ⟨hrec.posted, hrec.mem, ?_, hrec.live, ?_⟩
  · rw [State.tcore_congr hrec.tc]; exact congrArg TcSt.running (SMap.get_set_same _ _ _ _)
  · rw [hfld core _ (by decide), fld_incWrap_same _ _ _ _ (by decide), hu.fld core _]; rfl

end TcEnd

/-- The passes of a MATMUL with array work are counted as it ends (R130, R171). -/
def State.countPasses (s : State) (core : Nat) (c : Cmd) (en : GroupEnd) : State :=
  if c.opcode = 1 ∧ !c.isEmpty ∧ !isLaunchError en.status then s.incWrap core F.TC_PASSES_COUNT (c.passes * c.arrayList.length) else s

theorem State.countPasses_keeps (s : State) (core : Nat) (c : Cmd) (en : GroupEnd) : State.KeepsRegs endReads s (s.countPasses core c en) := by
  unfold State.countPasses
  split
  · exact (State.KeepsRegs.refl _ s).incWrap core F.TC_PASSES_COUNT _
  · exact .refl _ s

section TcFinish

variable {s : State} {core id group : Nat} {r : TcRun} {en : GroupEnd} (hrun : (s.tcore core).running.find? (fun x => decide (x.cmd.id = id)) = some r)
  (hen : r.ends.find? (fun x => decide (x.group = group)) = some en)

include hrun hen

/-- A record that is not a command's last: it is one fewer of those due. -/
theorem State.tcFinish_more (cycles : Nat) (hrest : r.ends.filter (fun x => decide (x.group ≠ group)) ≠ []) :
    s.tcFinish core id group cycles = ((s.tcOutputs core r.cmd en).setTcore core r.cmd.easel { s.tcore core with
      running := (s.tcore core).running.map (fun x => if x.cmd.id = id then { x with ends := r.ends.filter (fun x => decide (x.group ≠ group)) } else x) }).tcPost core r.cmd en cycles := by
  unfold State.tcFinish
  simp only [hrun, hen, List.isEmpty_eq_false_iff.mpr hrest, Bool.false_eq_true, if_false]

/-- With its last record a command retires, its passes counted. -/
theorem State.tcFinish_last (cycles : Nat) (hrest : r.ends.filter (fun x => decide (x.group ≠ group)) = []) :
    s.tcFinish core id group cycles = ((s.tcOutputs core r.cmd en).countPasses core r.cmd en).tcRetire core r.cmd en cycles := by
  unfold State.tcFinish State.countPasses
  simp only [hrun, hen, hrest, List.isEmpty_nil, if_true]

/-- The record of a tenant's command, which the radio pipeline does not consume. -/
theorem State.tcEnd_tenant (cycles : Nat) (hr : r.cmd.radio = false) : s.tcEnd core id group cycles = s.tcFinish core id group cycles := by
  unfold State.tcEnd
  simp [hrun, hen, hr]

end TcFinish

theorem State.findLaunch_none (s : State) (core : Nat) (p : Cmd → Bool) (before l : List Cmd) (h : ∀ d ∈ l, p d = false) : s.findLaunch core p before l = none := by
  induction l generalizing before with
  | nil => rfl
  | cons d l ih =>
    unfold State.findLaunch
    rw [h d List.mem_cons_self]
    exact ih _ (fun x hx => h x (List.mem_cons_of_mem _ hx))

theorem State.launchBad_none {s : State} {core id : Nat} (h : ∀ d ∈ (s.tcore core).granted, d.id ≠ id) : s.launchBad core id = s := by
  unfold State.launchBad
  rw [State.findLaunch_none s core _ _ _ (fun d hd => decide_eq_false (fun hid => h d hd hid.1))]

/-- A record of a tenant's command, where no granted command has its number. -/
theorem exec_tcCompletion_tenant {s : State} {core : Fin 48} {id group : Nat} {r : TcRun} {en : GroupEnd} (hgranted : ∀ d ∈ (s.tcore core).granted, d.id ≠ id)
    (hrun : (s.tcore core).running.find? (fun x => decide (x.cmd.id = id)) = some r) (hen : r.ends.find? (fun x => decide (x.group = group)) = some en) (hr : r.cmd.radio = false)
    (cycles busy : Nat) : exec (.tcCompletion core id group cycles busy) s =
      .next ((s.inc64 core F.TC_BUSYCYC_LO_CYCLES F.TC_BUSYCYC_HI_CYCLES busy).tcFinish core id group cycles) := by
  change Host.Outcome.next ((State.launchBad _ core id).tcEnd core id group cycles) = _
  rw [State.launchBad_none (s := s.inc64 core F.TC_BUSYCYC_LO_CYCLES F.TC_BUSYCYC_HI_CYCLES busy) hgranted]
  exact congrArg _ (State.tcEnd_tenant (s := s.inc64 core F.TC_BUSYCYC_LO_CYCLES F.TC_BUSYCYC_HI_CYCLES busy) hrun hen cycles hr)

/-! ### S-cores (07 R209, R223, R226, R227) -/

/-- Six registers of 32 S-cores each, below the counts of the S-cores, are none of those that the end of a command reads. -/
theorem endReads_ne_scBits {core base : Nat} (hc : core < 192) (hl : 0x140000 ≤ base) (hh : base + 24 ≤ F.SC_DONE_COUNT.off) :
    ∀ off ∈ endReads, off < regSpan ∧ off ≠ base + core / 32 * 4 := by
  intro off ho
  simp only [endReads, List.mem_cons, List.not_mem_nil, or_false] at ho
  dsimp only at hh
  simp only [regSpan]
  omega

theorem State.setScore_keeps (s : State) {core : Nat} (hc : core < 192) (e : Nat) (t : ScSt) :
    State.KeepsRegs endReads { s with sc := SMap.set (fun _ => ScSt.empty) s.sc core t } (s.setScore core e t) := by
  have hbusy : (F.SC_BUSY_BUSY (core / 32)).off < regSpan := by simp only [regSpan]; omega
  unfold State.setScore
  dsimp only
  refine (State.KeepsRegs.setScBit ?_ F.SC_BUSY_BUSY core _ (endReads_ne_scBits (base := 0x140020) hc (by decide) (by decide)) hbusy).setFld _ F.SC_EAS_QDEPTH_DEPTH _
  have hshown := fun state parked depth pc0 pc1 => (((((State.KeepsRegs.refl endReads { s with sc := SMap.set (fun _ => ScSt.empty) s.sc core t }).setFld core
    F.SC_STATUS_STATE state).setFlag core F.SC_STATUS_PARKED parked).setFld core F.SC_STATUS_QDEPTH depth).setFld core F.SC_PC_PC0 pc0).setFld core F.SC_PC_PC1 pc1
  cases t.cur with
  | none => exact (hshown _ _ _ _ _).setReg core _ 0
  | some x => exact ((((hshown _ _ _ _ _).setFld core F.SC_LIVE_D_LIVE _).setFlag core F.SC_LIVE_LOOP _).setFlag core F.SC_LIVE_NESTED _).setFld core F.SC_LIVE_L_LIVE _

theorem State.scError_keeps (s : State) {core : Nat} (hc : core < 192) (c : Cmd) {st : Nat} (hst : st ≠ 0x14) (pc addr : Nat) : State.KeepsRegs endReads s (s.scError core c st pc addr) := by
  unfold State.scError
  split
  · dsimp only
    rw [if_neg (show ¬ st = stOutOfShare from hst)]
    have h := ((((((State.KeepsRegs.refl endReads s).setFld core F.SC_ERR_LAST_TAG c.tag).setFld core F.SC_ERR_LAST_STATUS st).setFld core F.SC_ERR_LAST_EASEL c.easel).setFld core
      F.SC_ERR_PC_PC pc).incSat core F.SC_ERR_COUNT_COUNT 1).incSat (ce core c.easel) F.SC_EAS_ERRORS_COUNT 1
    split
    · exact h.setScBit F.SC_FAULT_FAULT core true (endReads_ne_scBits (base := 0x140008) hc (by decide) (by decide)) (by simp only [regSpan]; omega)
    · exact h
  · exact .refl _ s

/-- The end of a tenant's command that neither signals nor ends a step. -/
theorem State.scEnd_spec {s : State} {core e : Nat} {x : ScCtx} (hc : core < 192) (hr : x.cmd.radio = false) (he : x.cmd.easel = e) (hen : s.flag e F.EAS_CTRL_ENABLE = false)
    (hsig : x.cmd.scSignalEn = false) (hstep : x.cmd.stepEnd = false) (ho : ∃ i ∈ s.live e, i ≠ x.cmd.id) (hm : s.marksOf e = []) {st : Nat} (hst : st ≠ 0x14) (pc parked : Nat) :
    let t := s.scEnd core x st pc parked
    t.posted e = s.posted e ++ [⟨kindScore, scRecord x.cmd.tag st x.overran x.parked e core pc x.cyc parked, s.nowNs⟩] ∧ t.mem = s.mem ∧
      t.score core = { s.score core with tenant := none, running := none, req := none } ∧ t.live e = (s.live e).filter (fun i => decide (i ≠ x.cmd.id)) ∧
      t.fld core F.SC_DONE_COUNT = (s.fld core F.SC_DONE_COUNT + 1) % 2 ^ 32 := by
  intro t
  -- the core without the command (`u`), an error shown (`u'`), and the command counted for the core (`v`) and for its easel (`w`)
  let left : ScSt := { s.score core with tenant := none, running := none, req := none }
  let u := s.setScore core e left
  let u' := u.scError core x.cmd st pc (s.scRefused core x)
  let v := u'.incWrap core F.SC_DONE_COUNT 1
  let w := v.incWrap (ce core e) F.SC_EAS_DONE_COUNT 1
  have ht : t = ((w.postRecord e kindScore (scRecord x.cmd.tag st x.overran x.parked e core pc x.cyc parked)).retire e x.cmd.id false).showMoving := by
    unfold t State.scEnd State.scPost
    dsimp only
    rw [hsig, hstep, hr, he]
    rfl
  have hu : State.KeepsRegs endReads { s with sc := SMap.set (fun _ => ScSt.empty) s.sc core left } u' := (s.setScore_keeps hc e left).trans (u.scError_keeps hc x.cmd hst pc _)
  have huv : State.KeepsRegs [F.EAS_CTRL_ENABLE.off] u' v := (State.KeepsRegs.refl _ u').incWrap core F.SC_DONE_COUNT 1
  have hvw : State.KeepsRegs endReads v w := (State.KeepsRegs.refl _ v).incWrap (ce core e) F.SC_EAS_DONE_COUNT 1
  have hv := (hu.mono).trans huv
  have hw := hv.trans (hvw.mono)
  obtain ⟨hrec, hfld⟩ := (State.postRecord_recorded endReads ((hw.flag e _).trans hen) kindScore _).leaves hv hvw hm ho
  rw [← ht] at hrec hfld
  refine ⟨hrec.posted, hrec.mem, ?_, hrec.live, ?_⟩
  · unfold State.score; rw [hrec.sc]; exact SMap.get_set_same _ _ _ _
  · rw [hfld core _ (by decide), fld_incWrap_same _ _ _ _ (by decide), hu.fld core _]; rfl

theorem exec_scCompletion_ended {s : State} {core : Fin 192} {x : ScCtx} {st pc : Nat} (hcur : (s.score core).cur = some x) (hend : x.ended = some (st, pc)) (hr : x.cmd.radio = false)
    (pm : Ecc) (parked : Nat) : exec (.scCompletion core pm parked) s = .next (s.scEnd core x st pc parked) := by
  change execScCompletion core pm parked s = _
  unfold execScCompletion State.scFinish
  simp [hcur, hend, hr]

theorem exec_repeatCeiling_broken {s : State} {core : Fin 192} {x : ScCtx} (hgo : s.scGo core = none) (hcur : (s.score core).cur = some x) (hslot : x.slot = 0) (hop : x.cmd.opcode = 1)
    (hend : x.ended = none) (hhalt : (s.score core).halted = false) (hex : s.scExcept core x = none) (hceil : s.scCeiling core x = true) (hr : x.cmd.radio = false) (parked : Nat) :
    exec (.repeatCeiling core parked) s = .next (s.scEnd core x stRepeatCeiling x.pc parked) := by
  change execRepeatCeiling core parked s = _
  unfold execRepeatCeiling State.scFinish
  simp [hgo, hcur, hslot, hop, hend, hhalt, hex, hceil, hr]

/-- Settles O39: the rows and the record of a group, then what leaves with the last record; on an S-core both ends come to the same one. -/
theorem endsOfCoreCommandsPostTheirRecords : Obligations.EndsOfCoreCommandsPostTheirRecords := by
  intro s e posted other hen
  refine ⟨fun core id group cycles busy r en hgranted hrun hends hr he => ?tcore, fun core x parked hcur hr he hsig hstep hother => ?score⟩
  case tcore =>
    intro rest c hlast
    let s1 := s.inc64 core F.TC_BUSYCYC_LO_CYCLES F.TC_BUSYCYC_HI_CYCLES busy
    let u := s1.tcOutputs core c en
    have h1 : State.KeepsRegs endReads s s1 := ((State.KeepsRegs.refl _ s).setFld core F.TC_BUSYCYC_LO_CYCLES _).setFld core F.TC_BUSYCYC_HI_CYCLES _
    have hu : State.Stored endReads s u := h1.toStored.trans (s1.tcOutputs_stored core c en)
    have hmem : u.mem = (en.rows.foldl (fun (u : State) p => u.writeBytes (scratchKey core e p.1) p.2) s).mem := he ▸ State.tcOutputs_mem h1.mem core c en
    have hx := exec_tcCompletion_tenant hgranted hrun hends hr cycles busy
    have hgroup : en.group = group := by simpa using List.find?_some hends
    have hid : c.id = id := by simpa using List.find?_some hrun
    by_cases hrest : rest = []
    · obtain ⟨hsig, hstep, ho, hm⟩ := hlast hrest
      let v := u.countPasses core c en
      have huv := u.countPasses_keeps core c en
      have hv : State.Stored endReads s v := hu.trans huv.toStored
      obtain ⟨hposted, hvm, hrunning, hlive, hdone⟩ := State.tcRetire_spec he hr ((hv.flag e _).trans hen) core en cycles hsig hstep (hv.live e ▸ hid ▸ ho)
        ((hv.marksOf e).trans hm)
      rw [hv.posted e, hv.nowNs, hgroup] at hposted
      rw [State.tcore_congr hv.tc, hid] at hrunning
      rw [hv.live e, hid] at hlive
      rw [hv.fld core _] at hdone
      exact ⟨_, hx.trans (congrArg _ (State.tcFinish_last (s := s1) hrun hends cycles hrest)), hposted, hvm.trans (huv.mem.trans hmem), fun h => absurd hrest h, fun _ => ⟨hrunning, hlive, hdone⟩⟩
    · have huv := u.setTcore_keeps core c.easel { s1.tcore core with running := (s1.tcore core).running.map (fun x => if x.cmd.id = id then { x with ends := rest } else x) }
      have hrec := (State.tcPost_recorded he hr ((huv.flag e _).trans ((hu.flag e _).trans hen)) core en cycles).ofKeeps (List.Subset.refl _) huv
      rw [huv.nowNs, huv.live e] at hrec
      have hposted : _ = u.posted e ++ [⟨kindTcore, tcRecord c.tag en.status en.group e core en.arrays (c.cycles en cycles), u.nowNs⟩] := hrec.posted
      rw [hu.posted e, hu.nowNs, hgroup] at hposted
      have hcore : TcSt.running _ = _ := (congrArg TcSt.running (State.tcore_congr hrec.tc core)).trans (congrArg TcSt.running (SMap.get_set_same _ _ _ _))
      exact ⟨_, hx.trans (congrArg _ (State.tcFinish_more (s := s1) hrun hends cycles hrest)), hposted, hrec.mem.trans hmem, fun _ => ⟨hcore, hrec.live.trans (hu.live e)⟩, fun h => absurd h hrest⟩
  case score =>
    intro ends
    have hscore : ∀ ins st pc, st ≠ 0x14 → exec ins s = .next (s.scEnd core x st pc parked) → ends ins st pc := fun ins st pc hst hx => by
      obtain ⟨hposted, hmem, hcore, hlive, hdone⟩ := State.scEnd_spec core.isLt hr he hen hsig hstep hother.1 hother.2 hst pc parked
      refine ⟨_, hx, hposted, hmem, ?_, ?_, ?_, hlive, hdone⟩ <;> rw [hcore]
    exact ⟨fun pm st pc hend hst => hscore _ st pc hst (exec_scCompletion_ended hcur hend hr pm parked), fun hgo hslot hop hend hhalt hex hceil =>
      hscore _ _ _ (by decide) (exec_repeatCeiling_broken hgo hcur hslot hop hend hhalt hex hceil hr parked)⟩

end Sys2Proof.Machine

/-! SUPPORT. The instructions of the S-cores (07 R198 to R209, R213 to R216, R223): the issue of a slot, the writes that lanes and accumulators send on their way, and the statements about them. -/
namespace Sys2Proof.Machine

open Sys2Proof Sys2Proof.Laws

/-! ### The issue of a slot (R203) -/

section Issue

variable {s : State} {core : Fin 192} {x y : ScCtx} {w op : Nat} {c : Instr}

/-- A slot that holds the instruction issues it: the context takes its effect, on top of its effect on the state. -/
theorem State.scIssue_runs {f : Nat → ScCtx → State → ScCtx × State} {u : State} (hgo : s.scGo core = some x) (hw : s.scWord core x.cmd.easel x.pc x.slot = w)
    (hc : exec c s = .next (s.scIssue core op f)) (hf : f w x s = (y, u)) (ho : wOp w = op) : ∃ t, exec c s = .next t ∧ u.Issued t core x y := by
  refine ⟨_, hc, ?_⟩
  unfold State.scIssue
  simp only [hgo, hw, ho, hf, ne_eq, not_true_eq_false, if_false]
  exact setScore_issued u core x.cmd.easel x y core.isLt

/-- An instruction that acts on the context alone. -/
theorem State.scPure_runs {f : Nat → ScCtx → ScCtx} (hgo : s.scGo core = some x) (hw : s.scWord core x.cmd.easel x.pc x.slot = w) (hc : exec c s = .next (s.scPure core op f))
    (hf : f w x = y) (ho : wOp w = op) : ∃ t, exec c s = .next t ∧ s.Issued t core x y :=
  ⟨_, hc, hf ▸ pure_issued s core op f x w hgo hw ho⟩

/-- A command that issues an instruction of an S-core. -/
def issuesSlot (core : Fin 192) (c : Instr × Nat) : Prop := ∃ f, ∀ s, exec c.1 s = .next (s.scIssue core c.2 f)

/-- A core with nothing to issue is left alone. -/
theorem issuesSlot.idle {c : Instr × Nat} (h : issuesSlot core c) (hgo : s.scGo core = none) : exec c.1 s = .next s := by
  obtain ⟨f, hf⟩ := h
  rw [hf, issue_none s core _ f hgo]

/-- A slot of another instruction is left alone. -/
theorem issuesSlot.other {c : Instr × Nat} (h : issuesSlot core c) (hgo : s.scGo core = some x) (hw : s.scWord core x.cmd.easel x.pc x.slot = w) (ho : wOp w ≠ c.2) :
    exec c.1 s = .next s := by
  obtain ⟨f, hf⟩ := h
  rw [hf, issue_not s core _ f x hgo (hw ▸ ho)]

end Issue

/-! ### Fields of a slot word (R202) -/

theorem wBits_lt (w lo n : Nat) : wBits w lo n < 2 ^ n := Nat.mod_lt _ (Nat.two_pow_pos n)

theorem wBits_zero (w n : Nat) : wBits w 0 n = w % 2 ^ n := by simp [wBits]

theorem wBits_one (w lo : Nat) : (wBits w lo 1 = 1) = (w.testBit lo = true) := by
  simp [wBits, Nat.testBit_eq_decide_div_mod_eq]

/-! ### Narrowed results (R215) -/

theorem fitTo_16 (sat : Bool) (v : Int) : fitTo 16 sat v = ((if sat then max (-32768) (min 32767 v) else v) % 65536).toNat := by
  simp [fitTo, satInt]

theorem fitTo_40 (sat : Bool) (v : Int) : fitTo 40 sat v = ((if sat then max (-(2 ^ 39)) (min (2 ^ 39 - 1) v) else v) % 2 ^ 40).toNat := by
  simp [fitTo, satInt]

/-! ### Vector results (R198, R204) -/

theorem kV_le (v l : Nat) : 256 ≤ kV v l := by unfold kV; omega

/-- The lanes PRED enables are on their way to the vector register. -/
theorem ScCtx.vecOut_eq (x : ScCtx) (w : Nat) (cplx : Bool) (f : Nat → Nat) : x.vecOut w cplx f = x.lanes 2 (x.en w cplx) (kV (wD w)) f :=
  lanes_push x 2 _ _ f (kV_le (wD w))

theorem vecOp_eq (g : Int → Int → Int) (w : Nat) (x : ScCtx) :
    vecOp g w x = x.lanes 2 (x.en w (wCplx w)) (kV (wD w)) (fun i => fitTo 16 (wSat w) (g (x.v (wA w) i) (x.v (wB w) i))) :=
  x.vecOut_eq w _ _

/-- The commands of the vector instructions, with their codes of OP. -/
def vectorCommands (core : Fin 192) : List (Instr × Nat) :=
  [(.nop core, 0x00), (.vadd core, 0x01), (.vsub core, 0x02), (.vpack core, 0x07), (.vshr core, 0x08), (.vshl core, 0x09), (.vmax core, 0x0A), (.vmin core, 0x0B), (.vconj core, 0x0C),
    (.vsel core, 0x0D), (.vperm core, 0x15)]

theorem issuesSlot_vectorCommands (core : Fin 192) : ∀ c ∈ vectorCommands core, issuesSlot core c := by
  simp only [vectorCommands, List.forall_mem_cons]
  exact ⟨⟨_, fun _ => rfl⟩, ⟨_, fun _ => rfl⟩, ⟨_, fun _ => rfl⟩, ⟨_, fun _ => rfl⟩, ⟨_, fun _ => rfl⟩, ⟨_, fun _ => rfl⟩, ⟨_, fun _ => rfl⟩, ⟨_, fun _ => rfl⟩, ⟨_, fun _ => rfl⟩,
    ⟨_, fun _ => rfl⟩, ⟨_, fun _ => rfl⟩, List.forall_mem_nil _⟩

/-- Settles O34: each instruction's effect is its lanes on their way, and its command does nothing where the slot holds another. -/
theorem vectorInstructionsWriteTheirLanes : Obligations.VectorInstructionsWriteTheirLanes := by
  intro s core all
  refine ⟨fun hgo c hc => (issuesSlot_vectorCommands core c hc).idle hgo, fun x w hgo hw => ?_⟩
  intro a b fit en vec runs
  have hfit : ∀ v, fitTo 16 (wSat w) v = fit v := fitTo_16 (wSat w)
  have hop : ∀ {op c f} (g : Int → Int → Int), exec c s = .next (s.scPure core op f) → f w x = vecOp g w x → runs op c (vec (fun i => fit (g (a i) (b i)))) := fun g hc hf =>
    State.scPure_runs hgo hw hc (hf.trans ((vecOp_eq g w x).trans (by simp only [hfit, vec, en, a, b])))
  refine ⟨fun c hc => (issuesSlot_vectorCommands core c hc).other hgo hw, State.scPure_runs hgo hw rfl rfl, hop (· + ·) rfl rfl, hop (· - ·) rfl rfl, State.scPure_runs hgo hw rfl ?vpack,
    hop (fun a _ => a / 2 ^ wImm w) rfl rfl, hop (fun a _ => a * 2 ^ wImm w) rfl rfl, hop max rfl rfl, hop min rfl rfl, ?vconj,
    State.scPure_runs hgo hw rfl (lanes_push x 2 (fun _ => true) _ _ (kV_le (wD w))), ?vperm⟩
  case vpack => exact (x.vecOut_eq w _ _).trans (by simp only [hfit, vec, en])
  case vconj =>
    intro ho
    obtain ⟨t, hc, ht⟩ := State.scPure_runs (c := .vconj core) hgo hw rfl (x.vecOut_eq w true _) ho
    exact ⟨t, _, hc, ht, fun i => ⟨fun hi => by rw [if_pos hi]; exact fitTo_16 false _, fun hi ha => by rw [if_neg (by omega), if_neg ha]; exact fitTo_16 false _⟩⟩
  case vperm =>
    intro ho
    obtain ⟨t, hc, ht⟩ := State.scPure_runs (c := .vperm core) hgo hw rfl (x.vecOut_eq w false _) ho
    exact ⟨t, _, hc, ht, fun i hi => if_pos hi⟩

/-! ### Accumulators and delay lines (R200, R213, R215, R216) -/

theorem kAcc_le (a l : Nat) : 256 ≤ kAcc a l := by unfold kAcc; omega

theorem kD_le (d l : Nat) : 256 ≤ kD d l := by unfold kD; omega

theorem kSum_injective (a : Nat) : Function.Injective (kSum a) := fun i j h => by unfold kSum at h; omega

/-- No lane of a delay line is kept where an accumulator's sum is. -/
theorem kD_ne_kSum {d l : Nat} (hd : d < 2 ^ 5) (hl : l < 96) (a i : Nat) : kD d l ≠ kSum a i := by unfold kD kSum; omega

@[simp] theorem ScCtx.rd_put (x : ScCtx) (k v j : Nat) : (x.put k v).rd j = if j = k then v else x.rd j := SMap.get_set _ _ _ _ _

/-- One lane of an accumulate: its new sum `v` is kept for the accumulates to come, and is on its way to the accumulator's readers. -/
def ScCtx.addLane (x : ScCtx) (lat d i v : Nat) : ScCtx := (x.put (kSum d i) v).push lat (kAcc d i) v

/-- An accumulate of the lanes below `n` that `en` enables, as a loop: lane i's sum becomes `g i` of what it was. -/
def ScCtx.accumulate (x : ScCtx) (n lat d : Nat) (en : Nat → Bool) (g : Nat → Nat → Nat) : ScCtx :=
  forUpto n (fun i y => if en i then y.addLane lat d i (g i (y.rd (kSum d i))) else y) x

theorem ScCtx.accum_eq (x : ScCtx) (w : Nat) (cplx : Bool) (f : Nat → Int) :
    x.accum w cplx f = x.accumulate 32 4 (wD w) (x.en w cplx) (fun i v => fitTo 40 (wSat w) (sext 40 v + f i)) := rfl

/-- What an accumulate of the lanes below `n` makes of a context, `val` being the new sums. -/
structure ScCtx.Accumulated (x y : ScCtx) (n lat d : Nat) (en : Nat → Bool) (val : Nat → Nat) : Prop where
  wr : y.wr = x.wr ++ ((List.range n).filter en).map (fun i => ⟨x.cyc + lat, kAcc d i, val i, 0, false⟩)
  sum : ∀ i, i < n → y.rd (kSum d i) = if en i then val i else x.rd (kSum d i)
  others : ∀ k, (∀ i, i < n → k ≠ kSum d i) → y.rd k = x.rd k
  rest : { y with wr := x.wr, regs := x.regs } = x

namespace ScCtx.Accumulated

variable {x y : ScCtx} {n lat d : Nat} {en : Nat → Bool} {val : Nat → Nat}

theorem cyc (h : Accumulated x y n lat d en val) : y.cyc = x.cyc := by rw [← h.rest]

/-- The next lane still holds the sum it had. -/
theorem next (h : Accumulated x y n lat d en val) : y.rd (kSum d n) = x.rd (kSum d n) :=
  h.others _ (fun i hi e => absurd (kSum_injective d e) (by omega))

theorem skip (h : Accumulated x y n lat d en val) (hn : en n ≠ true) : Accumulated x y (n + 1) lat d en val := by
  refine ⟨?_, fun i hi => ?_, fun k hk => h.others k (fun i hi => hk i (by omega)), h.rest⟩
  · rw [h.wr, List.range_succ, List.filter_append, List.filter_cons_of_neg hn]; simp
  · rcases Nat.lt_succ_iff_lt_or_eq.mp hi with hlt | rfl
    · exact h.sum i hlt
    · rw [if_neg hn, h.next]

theorem add (h : Accumulated x y n lat d en val) (hn : en n = true) : Accumulated x (y.addLane lat d n (val n)) (n + 1) lat d en val := by
  unfold addLane
  rw [push_lane _ _ _ _ (kAcc_le d n)]
  refine ⟨?_, fun i hi => (y.rd_put _ _ _).trans ?_, fun k hk => (y.rd_put _ _ _).trans ?_, h.rest⟩
  · change y.wr ++ [⟨y.cyc + lat, _, _, _, _⟩] = _
    rw [h.wr, h.cyc, List.range_succ, List.filter_append, List.filter_cons_of_pos hn]; simp
  · rcases Nat.lt_succ_iff_lt_or_eq.mp hi with hlt | rfl
    · rw [if_neg (fun e => absurd (kSum_injective d e) (by omega)), h.sum i hlt]
    · rw [if_pos rfl, if_pos hn]
  · rw [if_neg (hk n (Nat.lt_succ_self n)), h.others k (fun i hi => hk i (by omega))]

end ScCtx.Accumulated

theorem ScCtx.accumulate_spec (x : ScCtx) (n lat d : Nat) (en : Nat → Bool) (g : Nat → Nat → Nat) :
    ScCtx.Accumulated x (x.accumulate n lat d en g) n lat d en (fun i => g i (x.rd (kSum d i))) := by
  induction n with
  | zero => exact ⟨by simp [accumulate, forUpto], fun i hi => absurd hi (Nat.not_lt_zero i), fun _ _ => rfl, rfl⟩
  | succ n ih =>
    unfold accumulate at ih ⊢
    rw [forUpto_succ]
    generalize forUpto n _ x = y at ih ⊢
    by_cases hn : en n = true
    · rw [if_pos hn, ih.next]; exact ih.add hn
    · rw [if_neg hn]; exact ih.skip hn

/-- Writes of registers other than the scalar and the predicate ones, one after the other, are all on their way. -/
theorem ScCtx.forUpto_push (x : ScCtx) (n lat : Nat) (key val : Nat → Nat) (h : ∀ i, 256 ≤ key i) :
    forUpto n (fun i y => y.push lat (key i) (val i)) x = { x with wr := x.wr ++ (List.range n).map (fun i => ⟨x.cyc + lat, key i, val i, 0, false⟩) } := by
  induction n with
  | zero => simp [forUpto]
  | succ n ih => rw [forUpto_succ, ih, push_lane _ _ _ _ (h n)]; simp [List.range_succ]

/-- A delay line moves down: every lane takes the one `n` above it, or zero, one cycle later. -/
theorem ScCtx.shiftDl_eq (x : ScCtx) (d n : Nat) :
    x.shiftDl d n = { x with wr := x.wr ++ (List.range 96).map (fun i => ⟨x.cyc + 1, kD d i, if i + n < 96 then x.rd (kD d (i + n)) else 0, 0, false⟩) } :=
  x.forUpto_push 96 1 (kD d) _ (kD_le d)

/-- What an accumulating instruction makes of its context (R200): the enabled sums, on their way to the accumulator's readers too, then the writes `more`; nothing else. -/
def ScCtx.Adds (x y : ScCtx) (w lat : Nat) (en : Nat → Bool) (val : Nat → Nat) (more : List ScWr) : Prop :=
  y.wr = (x.lanes lat en (kAcc (wD w)) val).wr ++ more ∧ (∀ i, i < 32 → y.rd (kSum (wD w) i) = if en i then val i else x.rd (kSum (wD w) i)) ∧
    (∀ k, (∀ i, i < 32 → k ≠ kSum (wD w) i) → y.rd k = x.rd k) ∧ { y with wr := x.wr, regs := x.regs } = x

theorem ScCtx.Accumulated.adds {x y : ScCtx} {w lat : Nat} {en : Nat → Bool} {val : Nat → Nat} (h : ScCtx.Accumulated x y 32 lat (wD w) en val) : x.Adds y w lat en val [] :=
  ⟨h.wr.trans (List.append_nil _).symm, h.sum, h.others, h.rest⟩

/-- A tap: past its accumulate the delay line moves down, its lanes being no sums. -/
theorem ScCtx.Accumulated.addsTap {x y : ScCtx} {w lat : Nat} {en : Nat → Bool} {val : Nat → Nat} (h : ScCtx.Accumulated x y 32 lat (wD w) en val) (n : Nat) :
    x.Adds (y.shiftDl (wA w) n) w lat en val ((List.range 96).map (fun i => (⟨x.cyc + 1, kD (wA w) i, if i + n < 96 then x.rd (kD (wA w) (i + n)) else 0, 0, false⟩ : ScWr))) := by
  have hdl : ∀ i, (if i + n < 96 then y.rd (kD (wA w) (i + n)) else 0) = if i + n < 96 then x.rd (kD (wA w) (i + n)) else 0 := fun i => by
    split
    · next hi => exact h.others _ (fun j _ => kD_ne_kSum (wBits_lt w 12 5) hi _ j)
    · rfl
  rw [ScCtx.shiftDl_eq]
  refine ⟨?_, h.sum, h.others, h.rest⟩
  simp only [h.wr, h.cyc, hdl]
  rfl

/-- Settles O35: each instruction adds its exact products lane by lane; a tap moves its delay line besides. -/
theorem accumulatingInstructionsAddToTheirAccumulator : Obligations.AccumulatingInstructionsAddToTheirAccumulator := by
  intro s core x w hgo hw a b dl fit re im conj adds sum down
  have hrun : ∀ {op c en lat val more f}, exec c s = .next (s.scPure core op f) → x.Adds (f w x) w lat en val more → adds op c en lat val more := fun hc hy ho => by
    obtain ⟨t, hx, ht⟩ := State.scPure_runs hgo hw hc rfl ho
    exact ⟨t, _, hx, ht, hy⟩
  have hacc : ∀ cplx f, ScCtx.Accumulated x (x.accum w cplx f) 32 4 (wD w) (x.en w cplx) (sum f) := fun cplx f => by
    rw [x.accum_eq]
    simpa only [fitTo_40] using x.accumulate_spec 32 4 (wD w) (x.en w cplx) (fun i v => fitTo 40 (wSat w) (sext 40 v + f i))
  exact ⟨hrun rfl (hacc _ _).adds, hrun rfl (hacc _ _).adds, hrun rfl ((hacc _ _).addsTap 2), hrun rfl ((hacc _ _).addsTap 1),
    hrun rfl (x.accumulate_spec 32 1 (wD w) (x.en w (wCplx w)) (fun _ _ => 0)).adds⟩

/-! ### Scalar and control instructions (R202 to R208, R214, R215; 09 R287 to R289) -/

/-- The semaphore that SEMTRY or SEMSIG names. -/
def wSem (w : Nat) : Nat := semId (w % 2 ^ 11) (w.testBit 11)

theorem wSem_eq (w : Nat) : semId (wBits w 0 11) (decide (wBits w 11 1 = 1)) = wSem w := by
  simp only [wSem, wBits_zero, wBits_one, Bool.decide_eq_true]

/-- What SEMTRY does where its predicate is set: it takes a count that is there when no take waits, and says whether it did. -/
def semtryEffect (w : Nat) (x : ScCtx) (u : State) : ScCtx × State :=
  if u.semCount (wSem w) ≠ 0 ∧ (u.semWaiters (wSem w)).isEmpty then (x.push 4 (kP (wBits w 19 3)) (2 ^ 32 - 1), u.setSem (wSem w) (u.semCount (wSem w) - 1))
  else (x.push 4 (kP (wBits w 19 3)) 0, u)

theorem execSemtry_eq (core : Fin 192) (s : State) : execSemtry core s = .next (s.scIssue core opSemtry (fun w x u => if x.sbOn w then semtryEffect w x u else (x, u))) := by
  simp only [semtryEffect, ← wSem_eq]; rfl

theorem execSemsig_eq (core : Fin 192) (s : State) : execSemsig core s = .next (s.scIssue core opSemsig (fun w x u => if x.sbOn w then (x, u.sendSignal (wSem w)) else (x, u))) := by
  simp only [← wSem_eq]; rfl

/-- A command that issues an SB instruction of an S-core, with the effect `f` where its predicate is set and none where it is not (R204). -/
def issuesSb (core : Fin 192) (c : Instr × Nat) (f : Nat → ScCtx → State → ScCtx × State) : Prop :=
  ∀ s, exec c.1 s = .next (s.scIssue core c.2 (fun w x u => if x.sbOn w then f w x u else (x, u)))

theorem issuesSb_pure {core : Fin 192} {c : Instr × Nat} {f : Nat → ScCtx → ScCtx} (h : ∀ s, exec c.1 s = .next (s.scSb core c.2 f)) : issuesSb core c (fun w x u => (f w x, u)) := fun s => by
  rw [h]
  unfold State.scSb State.scPure
  exact congrArg (fun g => Host.Outcome.next (s.scIssue core c.2 g)) (funext fun w => funext fun x => funext fun u => apply_ite (fun y => (y, u)) _ _ _)

/-- The commands of the SB instructions, with their codes of OP. -/
def scalarCommands (core : Fin 192) : List (Instr × Nat) :=
  [(.add core, 0x20), (.sub core, 0x21), (.andS core, 0x22), (.orS core, 0x23), (.xorS core, 0x24), (.shl core, 0x25), (.shr core, 0x26), (.cmp core, 0x27), (.br core, 0x28),
    (.repeatLoop core, 0x29), (.semtry core, 0x2A), (.semsig core, 0x2B), (.doneCmd core, 0x2C)]

theorem issuesSb_scalarCommands (core : Fin 192) : ∀ c ∈ scalarCommands core, ∃ f, issuesSb core c f := by
  simp only [scalarCommands, List.forall_mem_cons]
  exact ⟨⟨_, issuesSb_pure fun _ => rfl⟩, ⟨_, issuesSb_pure fun _ => rfl⟩, ⟨_, issuesSb_pure fun _ => rfl⟩, ⟨_, issuesSb_pure fun _ => rfl⟩, ⟨_, issuesSb_pure fun _ => rfl⟩,
    ⟨_, issuesSb_pure fun _ => rfl⟩, ⟨_, issuesSb_pure fun _ => rfl⟩, ⟨_, issuesSb_pure fun _ => rfl⟩, ⟨_, issuesSb_pure fun _ => rfl⟩, ⟨_, issuesSb_pure fun _ => rfl⟩,
    ⟨_, execSemtry_eq core⟩, ⟨_, execSemsig_eq core⟩, ⟨_, issuesSb_pure fun _ => rfl⟩, List.forall_mem_nil _⟩

section ScalarInstructions

variable {s u : State} {core : Fin 192} {x y : ScCtx} {w op : Nat} {c : Instr} (hgo : s.scGo core = some x) (hw : s.scWord core x.cmd.easel x.pc x.slot = w)

include hgo hw

theorem issuesSb.off {f : Nat → ScCtx → State → ScCtx × State} (h : issuesSb core (c, op) f) (ho : wOp w = op) (hoff : x.sbOn w = false) : ∃ t, exec c s = .next t ∧ s.Issued t core x x :=
  State.scIssue_runs hgo hw (h s) (by rw [hoff]; rfl) ho

theorem issuesSb.on {f : Nat → ScCtx → State → ScCtx × State} (h : issuesSb core (c, op) f) (hf : f w x s = (y, u)) (hon : x.sbOn w = true) (ho : wOp w = op) :
    ∃ t, exec c s = .next t ∧ u.Issued t core x y :=
  State.scIssue_runs hgo hw (h s) ((if_pos hon).trans hf) ho

end ScalarInstructions

/-- A write of a scalar register; one of A0 is discarded (R198). -/
theorem ScCtx.push_scalar (x : ScCtx) (lat v : Nat) {d : Nat} (hd : d < 32) : x.push lat (kA d) v = if d = 0 then x else { x with wr := x.wr ++ [⟨x.cyc + lat, d, v, 0, false⟩] } := by
  unfold ScCtx.push kA kP
  simp only [show (d = 0 ∨ d = 32 + 0) = (d = 0) from propext ⟨fun h => by omega, Or.inl⟩]

/-- A write of a predicate register; one of P0 is discarded (R198). -/
theorem ScCtx.push_predicate (x : ScCtx) (lat p v : Nat) : x.push lat (kP p) v = if p = 0 then x else { x with wr := x.wr ++ [⟨x.cyc + lat, 32 + p, v, 0, false⟩] } := by
  unfold ScCtx.push kA kP
  simp

theorem ScCtx.aluB_eq (x : ScCtx) (w : Nat) :
    x.aluB w = if w.testBit 11 then BitVec.ofInt 32 (sext 11 (w % 2 ^ 11)) else BitVec.ofNat 32 (x.a (w % 2 ^ 5)) := by
  simp only [ScCtx.aluB, wBits_zero, wBits_one]

/-- What CMP compares: equal, not equal, less, not less, of signed values. -/
def cmpHolds (k : Nat) (a b : BitVec 32) : Bool :=
  match k with
  | 0 => a == b
  | 1 => a != b
  | 2 => a.slt b
  | _ => !a.slt b

theorem execCmp_eq (core : Fin 192) (s : State) : execCmp core s =
    .next (s.scSb core opCmp (fun w x => x.push 1 (kP (wBits w 17 3)) (if cmpHolds (wBits w 20 2) (BitVec.ofNat 32 (x.a (wA w))) (x.aluB w) then 2 ^ 32 - 1 else 0))) := rfl

theorem cmpHolds_eq (a b : BitVec 32) : cmpHolds 0 a b = decide (a.toInt = b.toInt) := by
  simp [cmpHolds, BitVec.toInt_inj, beq_eq_decide]

theorem cmpHolds_ne (a b : BitVec 32) : cmpHolds 1 a b = decide (a.toInt ≠ b.toInt) := by
  simp [cmpHolds, BitVec.toInt_inj, bne, beq_eq_decide]

theorem cmpHolds_lt (a b : BitVec 32) : cmpHolds 2 a b = decide (a.toInt < b.toInt) := rfl

theorem cmpHolds_ge (a b : BitVec 32) : cmpHolds 3 a b = decide (b.toInt ≤ a.toInt) := by
  change (!decide (a.toInt < b.toInt)) = _
  rw [← decide_not]; simp only [not_lt]

/-- Settles O37: where the predicate is set, each instruction has its effect on the context, SEMTRY and SEMSIG on a semaphore too. -/
theorem scalarAndControlInstructionsIssue : Obligations.ScalarAndControlInstructionsIssue := by
  intro s core x w hgo hw a b on all write reg pred sem runs
  have hb : x.aluB w = b := x.aluB_eq w
  have hreg : ∀ v : BitVec 32, x.push 1 (kA (wD w)) v.toNat = reg v := fun v => x.push_scalar 1 v.toNat (wBits_lt w 17 5)
  have hpred : ∀ lat p (v : Bool), x.push lat (kP p) (if v then 2 ^ 32 - 1 else 0) = pred lat p v := fun lat p v => x.push_predicate lat p _
  have hrun : ∀ {op c f y}, (∀ s, exec c s = .next (s.scSb core op f)) → f w x = y → runs op c y := fun hc hf hon ho =>
    issuesSb.on hgo hw (issuesSb_pure (c := (_, _)) hc) (by rw [hf]) hon ho
  have halu : ∀ {op c} (g : BitVec 32 → BitVec 32 → BitVec 32), (∀ s, exec c s = .next (s.scAlu core op g)) → runs op c (reg (g a b)) := fun g hc =>
    hrun hc ((congrArg (fun z => x.push 1 (kA (wD w)) (g a z).toNat) hb).trans (hreg _))
  have hcmp : ∀ {k} {v : Bool}, cmpHolds k a b = v → wBits w 20 2 = k → runs 0x27 (.cmp core) (pred 1 (wBits w 17 3) v) := fun {k v} hv hk =>
    hrun (execCmp_eq core) (by rw [hb, hk, hv]; exact hpred 1 _ v)
  refine ⟨fun c hc => ?other, fun c hc ho hoff => ?off, halu _ fun _ => rfl, halu _ fun _ => rfl, halu _ fun _ => rfl, halu _ fun _ => rfl, halu _ fun _ => rfl, fun hon ho => ?shl, fun hon ho => ?shr,
    hcmp (cmpHolds_eq a b), hcmp (cmpHolds_ne a b), hcmp (cmpHolds_lt a b), hcmp (cmpHolds_ge a b), hrun (fun _ => rfl) ?br, fun hn => hrun (fun _ => rfl) (if_pos hn),
    fun hn => hrun (fun _ => rfl) ((if_neg hn).trans ?loop), fun hon ho hcount hwait => ?took, fun h hon ho => ?missed, fun hon ho => issuesSb.on hgo hw (execSemsig_eq core) rfl hon ho,
    hrun (fun _ => rfl) rfl⟩
  case other =>
    obtain ⟨f, hf⟩ := issuesSb_scalarCommands core c hc
    exact issuesSlot.other ⟨_, hf⟩ hgo hw
  case off =>
    obtain ⟨f, hf⟩ := issuesSb_scalarCommands core c hc
    exact hf.off hgo hw ho hoff
  case shl =>
    obtain ⟨t, hx, ht⟩ := halu (c := .shl core) _ (fun _ => rfl) hon ho
    exact ⟨t, _, hx, ht, fun h => if_pos h⟩
  case shr =>
    obtain ⟨t, hx, ht⟩ := halu (c := .shr core) _ (fun _ => rfl) hon ho
    refine ⟨t, _, hx, ht, fun h => ?_⟩
    rw [if_pos h, BitVec.toInt_sshiftRight, Int.shiftRight_eq_div_pow]
    rfl
  case br => rw [wBits_zero]
  case loop => simp only [wBody, List.isEmpty_iff]
  case took =>
    exact issuesSb.on hgo hw (execSemtry_eq core) ((if_pos ⟨hcount, by rw [List.isEmpty_iff]; exact hwait⟩).trans (congrArg (·, _) (hpred 4 _ true))) hon ho
  case missed =>
    have hno : ¬ (s.semCount sem ≠ 0 ∧ (s.semWaiters sem).isEmpty = true) := fun ⟨hc, hw⟩ => h.elim hc (fun hne => hne (List.isEmpty_iff.mp hw))
    exact issuesSb.on hgo hw (execSemtry_eq core) ((if_neg hno).trans (congrArg (·, s) (hpred 4 _ false))) hon ho

end Sys2Proof.Machine

/-! SUPPORT. Commands on the S-cores (07 R193, R194, R211, R212, R223, R225; 20 R567): what a launch, a switch, an overrun and a halt make of a core, and the statement about them. -/
namespace Sys2Proof.Machine

open Sys2Proof Sys2Proof.Laws

/-! ### Contexts of a core (R193) -/

@[simp] theorem ScSt.ctx_setCtx_same (t : ScSt) (r : Bool) (x : Option ScCtx) : (t.setCtx r x).ctx r = x := by cases r <;> rfl

@[simp] theorem ScSt.ctx_setCtx_other (t : ScSt) (r : Bool) (x : Option ScCtx) : (t.setCtx r x).ctx (!r) = t.ctx (!r) := by cases r <;> rfl

@[simp] theorem ScSt.setCtx_running (t : ScSt) (r : Bool) (x : Option ScCtx) : (t.setCtx r x).running = t.running := by cases r <;> rfl

theorem State.score_congr {s t : State} (h : t.sc = s.sc) (core : Nat) : t.score core = s.score core := by unfold State.score; rw [h]

@[simp] theorem State.score_setScore (s : State) (core e : Nat) (t : ScSt) : (s.setScore core e t).score core = t := by
  rw [score_set, if_pos rfl]

@[simp] theorem State.setScore_mem (s : State) (core e : Nat) (t : ScSt) : (s.setScore core e t).mem = s.mem := (setScore_keep s core e t).1

/-- Setting an S-core leaves the fields of registers that do not show it. -/
theorem State.fld_setScore (s : State) {core : Nat} (hc : core < 192) (e : Nat) (t : ScSt) (u : Nat) (f : Fld) (hf : f.off < regSpan := by decide)
    (hs : scoreShown f.off = false := by decide) : (s.setScore core e t).fld u f = s.fld u f :=
  fld_of_reg (setScore_regs s core e t hc u f.off hf hs)

/-! ### Takes (09 R287 to R289) touch no memory, no S-core and no count of switches -/

/-- `t` holds the memory, the S-cores and the counts of switches of `s`. -/
structure State.SameScores (s t : State) : Prop where
  mem : t.mem = s.mem
  sc : t.sc = s.sc
  switches : ∀ u, t.fld u F.SC_PREEMPT_COUNT = s.fld u F.SC_PREEMPT_COUNT

namespace State.SameScores

variable {s t u : State}

theorem refl (s : State) : s.SameScores s := ⟨rfl, rfl, fun _ => rfl⟩

theorem trans (h : s.SameScores t) (k : t.SameScores u) : s.SameScores u := ⟨k.mem.trans h.mem, k.sc.trans h.sc, fun v => (k.switches v).trans (h.switches v)⟩

theorem setFld (h : s.SameScores t) (v : Nat) (f : Fld) (n : Nat) (hf : f.off < regSpan) (hn : F.SC_PREEMPT_COUNT.off ≠ f.off) : s.SameScores (t.setFld v f n) :=
  h.trans ⟨rfl, rfl, fun w => fld_of_reg (reg_setFld_off t v f n w _ (by decide) hf hn)⟩

theorem setSem (h : s.SameScores t) (sem n : Nat) : s.SameScores (t.setSem sem n) := by
  unfold State.setSem semFld
  split
  · exact h.setFld _ _ _ (by decide) (by decide)
  · exact h.setFld _ _ _ (by decide) (by decide)

theorem setWaiters (h : s.SameScores t) (sem : Nat) (l : List Waiter) : s.SameScores (t.setWaiters sem l) := by
  have hs : s.SameScores { t with sched := { t.sched with waiting := SMap.set (fun _ => []) t.sched.waiting sem l } } := ⟨h.mem, h.sc, h.switches⟩
  unfold State.setWaiters
  split
  · exact hs.setFld _ _ _ (by decide) (by decide)
  · exact hs.setFld _ _ _ (by decide) (by decide)

theorem grantTake (h : s.SameScores t) (w : Waiter) : s.SameScores (t.grantTake w) := by
  cases w with
  | channel n => unfold State.grantTake State.makeReady; dsimp only; split <;> exact ⟨h.mem, h.sc, h.switches⟩
  | _ => exact ⟨h.mem, h.sc, h.switches⟩

theorem serveTakes (sem : Nat) (l : List Waiter) (h : s.SameScores t) : s.SameScores (serveTakes sem l t) := by
  induction l generalizing t with
  | nil => exact h.setWaiters sem []
  | cons w r ih =>
    unfold Machine.serveTakes
    split
    · exact h.setWaiters sem (w :: r)
    · exact ih ((h.setSem sem _).grantTake w)

theorem sendTake (h : s.SameScores t) (sem : Nat) (w : Waiter) : s.SameScores (t.sendTake sem w) := (h.setWaiters sem _).serveTakes sem _

end State.SameScores

theorem State.setScore_sameScores (s : State) {core : Nat} (hc : core < 192) (e : Nat) (t : ScSt) :
    ({ s with sc := SMap.set (fun _ => ScSt.empty) s.sc core t } : State).SameScores (s.setScore core e t) :=
  ⟨State.setScore_mem s core e t, setScore_sc s core e t, fun u => State.fld_setScore s hc e t u F.SC_PREEMPT_COUNT⟩

/-- A core whose waiting commands of these numbers have sent their takes. -/
def ScSt.sentTakes (t : ScSt) (ids : List Nat) : ScSt := { t with queue := markSent ids t.queue, granted := markSent ids t.granted }

/-- Sending its takes marks waiting commands of an S-core, and changes nothing else of it. -/
theorem State.scTakes_spec (s : State) {core : Nat} (hc : core < 192) :
    ∃ ids, ({ s with sc := SMap.set (fun _ => ScSt.empty) s.sc core ((s.score core).sentTakes ids) } : State).SameScores (s.scTakes core) := by
  have hsent : ∀ (l : List Cmd) (u : State), u.SameScores (forEach l (fun c v => v.sendTake c.scWaitSem (.score core c.id)) u) := fun l u =>
    each_keep u.SameScores _ (fun c v h => h.sendTake _ _) l u (.refl u)
  unfold State.scTakes
  exact ⟨_, (s.setScore_sameScores hc 0 _).trans (hsent _ _)⟩

/-! ### A launch (R193, R194, R223) -/

/-- From `s` to `t` the command starts on a core in the context `x`: the other context stays, and no command of its number is still granted. -/
structure State.ScStarted (s t : State) (core : Nat) (c : Cmd) (x : ScCtx) : Prop where
  ctx : (t.score core).ctx c.radio = some x
  running : (t.score core).running = some c.radio
  other : (t.score core).ctx (!c.radio) = (s.score core).ctx (!c.radio)
  granted : ∀ d ∈ (t.score core).granted, d.id ≠ c.id

/-- What a launch makes of its S-core; no byte of memory and no count of switches changes. -/
theorem State.scStart_spec (s : State) {core : Nat} (hc : core < 192) (c : Cmd) (st : Option Nat) : let t := s.scStart core c st
    s.ScStarted t core c { ScCtx.start c with ended := st.map (fun v => (v, c.scEntry)) } ∧ t.mem = s.mem ∧ ∀ u, t.fld u F.SC_PREEMPT_COUNT = s.fld u F.SC_PREEMPT_COUNT := by
  intro t
  let x := { ScCtx.start c with ended := st.map (fun v => (v, c.scEntry)) }
  let t1 : ScSt := { (s.score core).setCtx c.radio (some x) with running := some c.radio, granted := (s.score core).granted.filter (fun d => decide (d.id ≠ c.id)) }
  let u := ((s.useTake (.score core c.id)).setScore core c.easel t1).setFld core F.SC_STATUS_LAST_EASEL c.easel
  have hset : ((s.useTake (.score core c.id)).setScore core c.easel t1).score core = t1 := State.score_setScore _ _ _ _
  have hu : ((s.useTake (.score core c.id)).setScore core c.easel t1).SameScores u := (State.SameScores.refl _).setFld core F.SC_STATUS_LAST_EASEL _ (by decide) (by decide)
  have hcore : u.score core = t1 := (State.score_congr hu.sc core).trans hset
  have hswitches : ∀ v, u.fld v F.SC_PREEMPT_COUNT = s.fld v F.SC_PREEMPT_COUNT := fun v => (hu.switches v).trans (State.fld_setScore _ hc _ _ v F.SC_PREEMPT_COUNT)
  obtain ⟨ids, ht⟩ := u.scTakes_spec hc
  have htakes : t.score core = t1.sentTakes ids := hcore ▸ (State.score_congr ht.sc core).trans (SMap.get_set_same _ _ _ _)
  refine ⟨⟨?_, ?_, ?_, fun d hd => ?_⟩, ht.mem.trans (hu.mem.trans (State.setScore_mem _ _ _ _)), fun v => (ht.switches v).trans (hswitches v)⟩
  · rw [htakes]; exact ScSt.ctx_setCtx_same _ _ _
  · rw [htakes]; rfl
  · rw [htakes]; exact ScSt.ctx_setCtx_other _ _ _
  · rw [htakes] at hd
    obtain ⟨y, hy, hid⟩ := id_of_mem_markSent hd
    rw [hid]
    exact of_decide_eq_true (List.mem_filter.mp hy).2

theorem State.scFind_holds {s : State} {core : Nat} {p : Cmd → Bool} {before l : List Cmd} {c : Cmd} (h : s.scFind core p before l = some c) : p c = true := by
  induction l generalizing before with
  | nil => cases h
  | cons d r ih =>
    unfold State.scFind at h
    split at h
    · next hd => cases h; exact (Bool.and_eq_true_iff.mp hd).1
    · exact ih h

theorem State.scEffect_program (s : State) (core : Nat) (ecc : Option EccEvent) {c : Cmd} (hop : c.opcode = 1) : s.scEffect core ecc c = (s, none) := by
  unfold State.scEffect; rw [hop]; rfl

theorem State.scEffect_mark (s : State) (core : Nat) (ecc : Option EccEvent) {c : Cmd} (hop : c.opcode = 4) : s.scEffect core ecc c = (s, some stOk) := by
  unfold State.scEffect; rw [hop]; rfl

/-- A program or a mark has no effect of its own: what it ends with at once is a mark's OK, or the status of the check that failed. -/
theorem State.scLaunch_plain (s : State) (core : Nat) (ecc : Option EccEvent) {c : Cmd} (hop : c.opcode = 1 ∨ c.opcode = 4) :
    s.scLaunch core ecc c = s.scStart core c (if s.scCheck core c = 0 ∧ c.opcode = 1 then none else some (s.scCheck core c)) := by
  unfold State.scLaunch
  dsimp only
  by_cases hchk : s.scCheck core c = 0
  · rw [if_pos (show _ = stOk from hchk)]
    rcases hop with hop | hop
    · rw [s.scEffect_program core ecc hop, if_pos ⟨hchk, hop⟩]
    · rw [s.scEffect_mark core ecc hop, if_neg (by simp [hop]), hchk]; rfl
  · rw [if_neg (show ¬ _ = stOk from hchk), if_neg (fun h => hchk h.1)]

/-- The first granted command of an opcode launches, its checks passed, with its effect. -/
theorem State.scLaunchOp_passed {s : State} {core op : Nat} {c : Cmd} (hfind : s.scFind core (fun d => decide (d.opcode = op)) [] (s.score core).granted = some c)
    (hchk : s.scCheck core c = 0) (ecc : Option EccEvent) : s.scLaunchOp core op ecc = (s.scEffect core ecc c).1.scStart core c (s.scEffect core ecc c).2 := by
  unfold State.scLaunchOp State.scLaunch
  rw [hfind]; exact if_pos hchk

/-! ### RELEASE and LOADPROG (R225) -/

/-- A RELEASE of DMEM zeroes its units and leaves the cores alone. -/
theorem State.scEffect_release (s : State) (core : Nat) (ecc : Option EccEvent) {c : Cmd} (hop : c.opcode = 3) (hdm : c.scArg 2 % 2 = 0) :
    ∃ u, s.scEffect core ecc c = (u, some stOk) ∧ u.sc = s.sc ∧
      ∀ k, u.byte k = if dmemKey core c.easel (4096 * c.scArg 0) ≤ k ∧ k < dmemKey core c.easel (4096 * (c.scArg 0 + c.scArg 1)) then 0 else s.byte k := by
  have hkey : dmemKey core c.easel (4096 * (c.scArg 0 + c.scArg 1)) = dmemKey core c.easel (4096 * c.scArg 0) + 4096 * c.scArg 1 := by unfold dmemKey; omega
  unfold State.scEffect
  rw [hop]
  dsimp only
  rw [if_neg (show ¬ c.scArg 2 % 2 = 1 by omega)]
  exact ⟨_, rfl, rfl, fun k => hkey ▸ State.byte_zeroBytes s _ _ k⟩

theorem State.pmemStore_stored (s : State) (core e a : Nat) (bs : List Nat) : State.Stored [] s (s.pmemStore core e a bs) := by
  have hraw : State.Stored [] s (s.storeRaw (pmemKey core e a) bs) := by
    unfold State.storeRaw
    rw [State.writeBytes_rest]
    exact ⟨rfl, fun _ _ h => absurd h List.not_mem_nil⟩
  have hused : State.Stored [] (s.storeRaw (pmemKey core e a) bs) ((s.storeRaw (pmemKey core e a) bs).setUsedRange (pmemKey core e 0) 4096 a bs.length) := by
    rw [State.setUsedRange_rest]
    exact ⟨rfl, fun _ _ h => absurd h List.not_mem_nil⟩
  exact (hraw.trans hused).trans (((State.KeepsRegs.refl [] _).setFld _ F.SC_EAS_WATERMARK_DM _).setFld _ F.SC_EAS_WATERMARK_PM _).toStored

theorem State.pmemStore_mem (s : State) (core e a : Nat) (bs : List Nat) : (s.pmemStore core e a bs).mem = (s.writeBytes (pmemKey core e a) bs).mem :=
  (usedRange_mem _ _ _ _ _).1

/-- A LOADPROG of clean lines copies them. -/
theorem State.scEffect_loadprog {s : State} {core : Nat} {c : Cmd} (hop : c.opcode = 6) (hinj : s.flag (132 + core / 64) F.FLT_INJSTAT_ARMED = false)
    (hclean : s.poisoned (dmemKey core c.easel (c.scArg 0)) (16 * c.scArg 1) = false) : s.scEffect core none c =
      (s.pmemStore core c.easel (16 * c.scEntry) (s.readBytes (dmemKey core c.easel (c.scArg 0)) (16 * c.scArg 1)), some stOk) := by
  have hecc : ∀ g, s.dmemEcc core c.easel stPoison ⟨.ok, g, 0⟩ = s := fun g => by simp [State.dmemEcc, inj_off _ _ _ hinj, eccFlip]
  unfold State.scEffect
  simp [hop, hecc, hclean]

/-! ### The checks of a command word (R225) -/

/-- The registers that the checks of a command read: its shares and the channels of its links. -/
def scCheckReads : List Nat := [F.SC_EAS_PM_SHARE.off, F.SC_EAS_PM_MAPPED.off, F.SC_EAS_DM_SHARE.off, F.SC_EAS_DM_MAPPED.off, F.STR_CH_CFG_ENABLED.off, F.STR_CH_CFG_EASEL.off]

theorem State.scCheck_congr {s t : State} (h : ∀ u, ∀ off ∈ scCheckReads, t.reg u off = s.reg u off) (core : Nat) (c : Cmd) : t.scCheck core c = s.scCheck core c := by
  have hfld : ∀ u f, f.off ∈ scCheckReads → t.fld u f = s.fld u f := fun u f hf => fld_of_reg (h u _ hf)
  have hpm : ∀ e, t.pmemLimit core e = s.pmemLimit core e := fun e => by
    unfold State.pmemLimit; rw [hfld _ F.SC_EAS_PM_SHARE (by decide), hfld _ F.SC_EAS_PM_MAPPED (by decide)]
  have hdm : ∀ e, t.dmemLimit core e = s.dmemLimit core e := fun e => by
    unfold State.dmemLimit; rw [hfld _ F.SC_EAS_DM_SHARE (by decide), hfld _ F.SC_EAS_DM_MAPPED (by decide)]
  have hlink : ∀ e l, t.ownsLink e l = s.ownsLink e l := fun e l => by
    unfold State.ownsLink State.flag; rw [hfld _ F.STR_CH_CFG_ENABLED (by decide), hfld _ F.STR_CH_CFG_EASEL (by decide)]
  unfold State.scCheck
  simp only [hpm, hdm, hlink]

/-! ### PREEMPT_SWITCH (R195, R211) -/

/-- A core with the command of context 1 parked, its results landed, and nothing running. -/
def ScSt.park (t : ScSt) (x : ScCtx) : ScSt := { t with tenant := some { x.landAll with parked := true }, running := none, req := none }

/-- The command of context 1 parks and the switch is counted: what the radio command granted finds as it launches. -/
def State.scParked (s : State) (core : Nat) (x : ScCtx) : State :=
  ((s.setScore core x.cmd.easel ((s.score core).park x)).incWrap core F.SC_PREEMPT_COUNT 1).setFld core
    F.SC_PREEMPT_MAX_TSW (max (s.fld core F.SC_PREEMPT_MAX_TSW) (min 0xFFFF ((s.score core).req.getD 4)))

theorem exec_preemptSwitch_due {s : State} {core : Fin 192} {x : ScCtx} {c : Cmd} (hrun : (s.score core).running = some false) (hten : (s.score core).tenant = some x)
    (hgr : (s.score core).granted.find? (·.radio) = some c) (hop : x.cmd.opcode = 1) (hslot : x.slot = 0) (hdelay : x.delay = none) (hloops : x.loops = []) (hend : x.ended = none)
    (hrad : (s.score core).radio = none) (hhalt : (s.score core).halted = false) (hex : s.scExcept core x = none) (hceil : s.scCeiling core x = false) :
    exec (.preemptSwitch core none) s = .next ((s.scParked core x).scLaunch core none c) := by
  change execPreemptSwitch core none s = _
  unfold execPreemptSwitch
  simp [hrun, hten, hgr, hop, hslot, hdelay, hloops, hend, hrad, hhalt, hex, hceil, State.scParked, ScSt.park]

theorem State.score_scParked (s : State) (core : Nat) (x : ScCtx) : (s.scParked core x).score core = (s.score core).park x := by
  unfold State.score State.scParked
  rw [State.setFld_sc, State.incWrap_sc, setScore_sc, SMap.get_set_same]
  rfl

theorem State.scParked_mem (s : State) (core : Nat) (x : ScCtx) : (s.scParked core x).mem = s.mem := by
  unfold State.scParked
  rw [State.setFld_mem, State.incWrap_mem, State.setScore_mem]

theorem State.switches_scParked (s : State) {core : Nat} (hc : core < 192) (x : ScCtx) :
    (s.scParked core x).fld core F.SC_PREEMPT_COUNT = (s.fld core F.SC_PREEMPT_COUNT + 1) % 2 ^ F.SC_PREEMPT_COUNT.width := by
  unfold State.scParked
  rw [State.fld_setFld_apart _ _ _ _ _ _ (by decide) (by decide) (by decide), fld_incWrap_same _ _ _ _ (by decide), s.fld_setScore hc _ _ _ F.SC_PREEMPT_COUNT]

/-- Parking changes no register that the checks of a command read. -/
theorem State.scCheck_scParked (s : State) {core : Nat} (hc : core < 192) (x : ScCtx) (c : Cmd) : (s.scParked core x).scCheck core c = s.scCheck core c := by
  refine State.scCheck_congr (fun u off ho => ?_) core c
  have hoff : off < regSpan ∧ scoreShown off = false ∧ off ≠ F.SC_PREEMPT_COUNT.off := by revert off; decide
  obtain ⟨hspan, hshown, hne⟩ := hoff
  unfold State.scParked State.incWrap
  rw [reg_setFld_off _ _ F.SC_PREEMPT_MAX_TSW _ _ _ hspan (by decide) hne, reg_setFld_off _ _ F.SC_PREEMPT_COUNT _ _ _ hspan (by decide) hne, setScore_regs s core _ _ hc u off hspan hshown]

/-! ### OVERRUN (R212) and DEBUG_HALT (R211; 20 R567) -/

theorem exec_overrun_due {s : State} {core : Fin 192} {x : ScCtx} (hcur : (s.score core).cur = some x) (hdue : x.overrunDue = true) (hop : x.cmd.opcode = 1) (hend : x.ended = none)
    (hslot : x.slot = 0) : exec (.overrun core) s =
      .next (((s.setScore core x.cmd.easel ((s.score core).setCtx false (some { x with overran := true }))).incSat (ce core x.cmd.easel) F.SC_EAS_OVERRUNS_COUNT 1).usageFault
        x.cmd.easel ukScore core 0 ufOverrun) := by
  change execOverrun core s = _
  unfold execOverrun
  simp [hcur, hdue, hop, hend, hslot]

/-- A boundary between packets where a command may be stopped: no delay slot and no loop is left. -/
def ScCtx.atBoundary (x : ScCtx) : Prop := x.slot = 0 ∧ x.delay = none ∧ x.loops = []

theorem ScSt.running_of_cur {t : ScSt} {x : ScCtx} (h : t.cur = some x) : ∃ r, t.running = some r := by
  obtain ⟨r, hr, -⟩ := Option.bind_eq_some_iff.mp h
  exact ⟨r, hr⟩

/-- At such a boundary a core halts once its writes have landed. -/
theorem exec_debugHalt_boundary {s : State} {core : Fin 192} {x : ScCtx} {r : Bool} (hcur : (s.score core).cur = some x) (hrun : (s.score core).running = some r)
    (hpow : s.power powHalt = true) (hhalt : (s.score core).halted = false) (hb : x.atBoundary) :
    exec (.debugHalt core) s = .next (s.setScore core 0 { (s.score core).setCtx r (some x.landAll) with halted := true }) := by
  obtain ⟨hslot, hdelay, hloops⟩ := hb
  change execDebugHalt core s = _
  unfold execDebugHalt
  simp [hcur, hrun, hpow, hhalt, hslot, hdelay, hloops]

theorem exec_debugHalt_within {s : State} {core : Fin 192} {x : ScCtx} (hcur : (s.score core).cur = some x) (hb : ¬ x.atBoundary) : exec (.debugHalt core) s = .next s := by
  have hheld : (decide (x.slot ≠ 0) || x.delay.isSome || !x.loops.isEmpty) = true := by
    by_contra h
    simp only [Bool.not_eq_true, Bool.or_eq_false_iff, decide_eq_false_iff_not, not_not, Option.isSome_eq_false_iff, Option.isNone_iff_eq_none, Bool.not_eq_false', List.isEmpty_iff] at h
    obtain ⟨⟨hslot, hdelay⟩, hloops⟩ := h
    exact hb ⟨hslot, hdelay, hloops⟩
  change execDebugHalt core s = _
  unfold execDebugHalt
  simp only [hcur, hheld, Bool.not_true, Bool.and_false, Bool.false_and, Bool.false_eq_true, if_false]

/-- Settles O40: a launch, its command's work done before it; a switch is a launch on the core that parking leaves; an overrun marks its command and a halt lands its writes. -/
theorem signalCoresStartSwitchAndHalt : Obligations.SignalCoresStartSwitchAndHalt := by
  intro s core c finds starts same done dm
  have hc := core.isLt
  have hstart : ∀ {ins : Instr} {op : Nat} {st : Option Nat} {P : State → Prop} (u : State), exec ins s = .next (s.scLaunchOp core op none) → finds op → s.scEffect core none c = (u, st) → u.sc = s.sc →
      (∀ t : State, t.mem = u.mem → P t) → starts ins { ScCtx.start c with ended := st.map (fun v => (v, c.scEntry)) } P := fun {_ _ st _} u hx hf hu hsc hP => by
    obtain ⟨hgo, hmem, -⟩ := u.scStart_spec hc c st
    obtain ⟨hfind, hchk⟩ := hf
    have hscore := State.score_congr hsc core
    rw [State.scLaunchOp_passed hfind hchk, hu] at hx
    exact ⟨_, hx, hgo.ctx, hgo.running, hgo.other.trans (by rw [hscore]), hgo.granted, hP _ hmem⟩
  have hopc : ∀ {op}, finds op → c.opcode = op := fun hf => of_decide_eq_true (State.scFind_holds hf.1)
  refine ⟨fun hf => ?run, fun hf => ?mark, fun hf hdm => ?release, fun hf hinj hclean => ?loadprog, fun x => ?_⟩
  case run => exact hstart s rfl hf (s.scEffect_program core none (hopc hf)) rfl (fun _ h => h)
  case mark => exact hstart s rfl hf (s.scEffect_mark core none (hopc hf)) rfl (fun _ h => h)
  case release =>
    obtain ⟨u, hu, hsc, hbyte⟩ := s.scEffect_release core none (hopc hf) hdm
    exact hstart u rfl hf hu hsc (fun t h k => (State.byte_congr h k).trans (hbyte k))
  case loadprog =>
    exact hstart _ rfl hf (State.scEffect_loadprog (hopc hf) hinj hclean) (s.pmemStore_stored core c.easel _ _).sc (fun t h => State.byte_congr (h.trans (s.pmemStore_mem core c.easel _ _)))
  intro bound
  refine ⟨fun hrun hten hgr hop hb hend hrad hhalt hex hceil hradio hplain => ?switch, fun hcur hdue hop hend hslot _ => ?overrun, fun hcur hpow hhalt hb => ?halt,
    fun hcur hb => exec_debugHalt_within hcur hb⟩
  case switch =>
    obtain ⟨hslot, hdelay, hloops⟩ := hb
    have hx := exec_preemptSwitch_due hrun hten hgr hop hslot hdelay hloops hend hrad hhalt hex hceil
    rw [State.scLaunch_plain _ _ _ hplain, s.scCheck_scParked hc] at hx
    obtain ⟨hgo, hmem, hswitches⟩ := (s.scParked core x).scStart_spec hc c (if s.scCheck core c = 0 ∧ c.opcode = 1 then none else some (s.scCheck core c))
    obtain ⟨hctx, hrunning, hother, -⟩ := hgo
    rw [hradio] at hctx hrunning hother
    rw [s.score_scParked] at hother
    refine ⟨_, hx, hrunning, hother, hctx.trans ?_, (hswitches core).trans (s.switches_scParked hc x), hmem.trans (s.scParked_mem core x)⟩
    split <;> rfl
  case overrun =>
    let u := s.setScore core x.cmd.easel ((s.score core).setCtx false (some { x with overran := true }))
    have hkeep := dk_usage (u.incSat (ce core x.cmd.easel) F.SC_EAS_OVERRUNS_COUNT 1) x.cmd.easel ukScore core 0 ufOverrun
    refine ⟨_, exec_overrun_due hcur hdue hop hend hslot, ?_, ?_⟩
    · rw [hkeep.fld _ _ (by decide) (by decide), fld_incSat_same' _ _ _ _ (by decide), s.fld_setScore hc _ _ _ F.SC_EAS_OVERRUNS_COUNT]
    · rw [State.score_congr hkeep.sc core]
      exact congrArg ScSt.tenant (s.score_setScore core x.cmd.easel _)
  case halt =>
    obtain ⟨r, hrun⟩ := ScSt.running_of_cur hcur
    refine ⟨_, exec_debugHalt_boundary hcur hrun hpow hhalt hb, ?_, ?_, State.setScore_mem _ _ _ _⟩
    · rw [State.score_setScore]
    · rw [State.score_setScore]
      exact (congrArg (fun o => Option.bind o _) ((ScSt.setCtx_running _ _ _).trans hrun)).trans (ScSt.ctx_setCtx_same _ _ _)

end Sys2Proof.Machine

/-! SUPPORT. The L2's requests (08 R239 to R243, R264; 17 R493 to R495): what taking a message, a cell's states and a slot's requests do, one rule for each case, and the statement about
them. -/
namespace Sys2Proof.Machine

open Sys2Proof Sys2Proof.Laws

/-! ### Cells, their slots and what shows their states -/

@[simp] theorem State.radCell_setRad_same (s : State) (c : Nat) (v : RadCell) : (s.setRad c v).radCell c = v := SMap.get_set_same _ _ _ _

@[simp] theorem State.radSlot_setSlot_same (s : State) (c n : Nat) (v : RadSlot) : (s.setSlot c n v).radSlot c n = v := by
  simp [State.radSlot, State.setSlot]

theorem State.RegsFrame.radCell {offs : List Nat} {s t : State} (h : State.RegsFrame offs s t) (c : Nat) : t.radCell c = s.radCell c := by
  rw [h.rest]; rfl

/-- The registers that show how many cells run and wait, and easel 0's wake budget. -/
def cellsShownOffs : List Nat := [F.RAD_STATUS_RUNNING.off, F.PWR_RADIO_WAKE_US.off, F.PWR_EAS_WAKE_US.off]

theorem State.RegsFrame.showCells {offs : List Nat} {s t : State} (h : State.RegsFrame offs s t) (hm : ∀ off ∈ cellsShownOffs, off ∈ offs) : State.RegsFrame offs s t.showCells :=
  (((h.setFld _ _ _ (by decide) (hm _ (by decide))).setFlag _ _ _ (by decide) (hm _ (by decide))).setFld _ _ _ (by decide) (hm _ (by decide))).setFld _ _ _ (by decide)
    (hm _ (by decide))

theorem State.setCell_frame (s : State) (c st : Nat) : RegsFrame (F.RAD_CELL_STATE_STATE.off :: cellsShownOffs) s (s.setCell c st) :=
  ((RegsFrame.refl _ s).setFld _ _ _ (by decide) (by decide)).showCells (by decide)

/-- A cell that has moved to a state is in it. -/
theorem State.cellSt_setCell (s : State) (c : Nat) {st : Nat} (h : st < 2 ^ F.RAD_CELL_STATE_STATE.width) : (s.setCell c st).cellSt c = st :=
  (((RegsFrame.refl cellsShownOffs (s.setFld c F.RAD_CELL_STATE_STATE st)).showCells fun _ hm => hm).fld c F.RAD_CELL_STATE_STATE (by decide) (by decide)).trans
    ((State.fld_setFld_same _ _ _ _ (by decide)).trans (Nat.mod_eq_of_lt h))

/-! ### Taking a message (17 R494, R497) -/

/-- The oldest message of a queue pair, visible since `t`, names by its CELL_ID the cell `c` of that queue pair; `u` is the state that has taken it. -/
structure State.Takes (s : State) (q id c t : Nat) (u : State) : Prop where
  taken : s.takeMsg q = some (t, u)
  named : u.cellOfId id = some c
  served : u.cellQp c = q

theorem State.takeMsg_cons {s : State} {q t : Nat} {r : List Nat} (h : (s.fqp q).inbox = t :: r) : s.takeMsg q = some (t, s.setFqp q { s.fqp q with inbox := r }) := by
  simp [State.takeMsg, h]

/-- A queue pair without a message does nothing. -/
theorem State.withMsg_empty {s : State} {q : Nat} (id : Nat) (f : Nat → Nat → State → State) (h : (s.fqp q).inbox = []) : s.withMsg q id f = s := by
  simp [State.withMsg, State.takeMsg, h]

/-- A message for a cell of its queue pair is executed for that cell. -/
theorem State.Takes.withMsg {s u : State} {q id c t : Nat} (h : s.Takes q id c t u) (f : Nat → Nat → State → State) : s.withMsg q id f = f c t u := by
  simp [State.withMsg, h.taken, h.named, h.served]

/-! ### What a slot keeps of a request (R243) -/

/-- A request of a type is taken for a slot. -/
def State.acceptReq (u : State) (c n type : Nat) : State := u.setSlot c n { u.radSlot c n with taken := NSet.add type (u.radSlot c n).taken }

/-- A slot keeps the PDUs within its cell's class. -/
def State.keepPdus (u : State) (c n : Nat) (ps : List RadPdu) : State := u.setSlot c n { u.radSlot c n with pdus := (u.radSlot c n).pdus ++ ps.filter (u.pduOk c) }

@[simp] theorem State.radSlot_acceptReq (u : State) (c n type : Nat) :
    (u.acceptReq c n type).radSlot c n = { u.radSlot c n with taken := NSet.add type (u.radSlot c n).taken } := State.radSlot_setSlot_same ..

@[simp] theorem State.radSlot_keepPdus (u : State) (c n : Nat) (ps : List RadPdu) :
    (u.keepPdus c n ps).radSlot c n = { u.radSlot c n with pdus := (u.radSlot c n).pdus ++ ps.filter (u.pduOk c) } := State.radSlot_setSlot_same ..

theorem NSet.has_add_self (x : Nat) (m : NSet) : NSet.has x (NSet.add x m) = true := by simp [NSet.has_add]

/-- A taken request with PDUs: the slot keeps those within the cell's class, and one beyond it is answered. -/
theorem State.addPdus_accepted (u : State) (c n type : Nat) (ps : List RadPdu) : ∃ v : State,
    ((u.acceptReq c n type).addPdus c n ps = (if ps.all (u.pduOk c) then v else v.answerError c n errSlot) ∧
      (v.radSlot c n).pdus = (u.radSlot c n).pdus ++ ps.filter (u.pduOk c)) ∧
    NSet.has type (v.radSlot c n).taken = true ∧ v.regs = u.regs ∧ v.out = u.out := by
  refine ⟨(u.acceptReq c n type).keepPdus c n ps, ⟨rfl, ?_⟩, ?_, rfl, rfl⟩
  · rw [State.radSlot_keepPdus, State.radSlot_acceptReq]; rfl
  · rw [State.radSlot_keepPdus, State.radSlot_acceptReq]; exact NSet.has_add_self ..

theorem pdusKept_of_exec {i : Instr} {s u : State} {c n type : Nat} {ps : List RadPdu} (hx : exec i s = .next ((u.acceptReq c n type).addPdus c n ps)) : ∃ v : State,
    (exec i s = .next (if ps.all (u.pduOk c) then v else v.answerError c n errSlot) ∧ (v.radSlot c n).pdus = (u.radSlot c n).pdus ++ ps.filter (u.pduOk c)) ∧
    NSet.has type (v.radSlot c n).taken = true ∧ v.regs = u.regs ∧ v.out = u.out := by
  obtain ⟨v, ⟨hadd, hpdus⟩, hrest⟩ := u.addPdus_accepted c n type ps
  exact ⟨v, ⟨hx.trans (congrArg Host.Outcome.next hadd), hpdus⟩, hrest⟩

/-! ### Requests of a slot, by the cell's state and the deadline (R241, R243, R264) -/

section SlotRequests

variable {s u : State} {q id c t sfn slot n : Nat} (h : s.Takes q id c t u) (hn : u.slotOfSfn c sfn slot = n) (type : Nat) (f : Nat → Nat → State → State)
include h

/-- A cell that waits for time discards them. -/
theorem State.Takes.slotRequest_discarded (hst : u.cellSt c = csWaitSync) : s.slotRequest q id sfn slot type f = u := by
  rw [State.slotRequest, h.withMsg, if_pos hst]

variable (hst : u.cellSt c = csRunning)
include hn hst

/-- After the last slot of a STOP they are errors. -/
theorem State.Takes.slotRequest_stopped (hstop : (u.radCell c).stopAfter.any (fun l => decide (l < n)) = true) :
    s.slotRequest q id sfn slot type f = u.answerError c n errState := by
  rw [State.slotRequest, h.withMsg, hn, if_neg (by rw [hst]; decide), if_pos (Or.inr hstop)]

variable (hgo : (u.radCell c).stopAfter.any (fun l => decide (l < n)) = false)
include hgo

/-- From the slot's deadline on they are late: noted, counted and answered. -/
theorem State.Takes.slotRequest_late (hdl : u.reqDeadline c n ≤ (t : Int)) : s.slotRequest q id sfn slot type f =
    ((u.setSlot c n { u.radSlot c n with late := NSet.add type (u.radSlot c n).late }).incSat c F.RAD_CELL_LATE_REQ_COUNT 1).answerError c n errSlot := by
  rw [State.slotRequest, h.withMsg, hn, if_neg (by rw [hst]; decide), if_neg (by simp [hst, hgo]), if_pos hdl]

/-- Before it they are taken, and executed on the slot that notes their type. -/
theorem State.Takes.slotRequest_accepted (hdl : (t : Int) < u.reqDeadline c n) : s.slotRequest q id sfn slot type f = f c n (u.acceptReq c n type) := by
  rw [State.slotRequest, h.withMsg, hn, if_neg (by rw [hst]; decide), if_neg (by simp [hst, hgo]), if_neg (by omega)]
  rfl

end SlotRequests

/-! ### PARAM, CONFIG, START and STOP (R239 to R241) -/

/-- What START clears of a cell (R251, R264). -/
def RadCell.cleared (r : RadCell) : RadCell := { r with harq := [], slots := [], holdReq := false, stopAfter := none, ssbFrom := none, lastInd := none }

/-- A cell that START moves to RUNNING, or to WAIT_SYNC while the time block does not let it transmit (R241). -/
def State.startCell (u : State) (c : Nat) : State := ((u.setRad c (u.radCell c).cleared).showHarq c).setCell c (if u.txOk then csRunning else csWaitSync)

section CellMessages

variable {s u : State} {qp : Fin 64} {id c t : Nat} (h : s.Takes qp id c t u)
include h

theorem exec_fapiParam_taken : exec (.fapiParam qp id) s = .next (u.sayL2 c fmParamResponse (u.slotNow c) [[u.cellSt c]]) := congrArg Host.Outcome.next (h.withMsg _)

/-- A CONFIG that agrees with CELLMAP configures an IDLE cell (R240). -/
theorem exec_fapiConfig_idle (hst : u.cellSt c = csIdle) (body : List Nat) :
    exec (.fapiConfig qp id (u.fld c F.RAD_CELL_CFG_PRBS) (u.fld c F.RAD_CELL_CFG_SCS) (u.cellStreams c).1 (u.fld c F.RAD_CELL_CFG_DUPLEX) body) s =
      .next (((u.setRad c { u.radCell c with config := some body }).setCell c csConfigured).sayL2 c fmConfigResponse (u.slotNow c) [[0]]) :=
  congrArg Host.Outcome.next ((h.withMsg _).trans (by simp [hst]))

theorem exec_fapiStart_accepted (hst : u.cellSt c = csConfigured ∨ u.cellSt c = csHeld) : exec (.fapiStart qp id) s = .next (u.startCell c) :=
  congrArg Host.Outcome.next ((h.withMsg _).trans (if_pos hst))

theorem exec_fapiStart_refused (hst : u.cellSt c = csIdle ∨ u.cellSt c = csRunning) : exec (.fapiStart qp id) s = .next (u.answerError c (u.slotNow c) errState) :=
  congrArg Host.Outcome.next ((h.withMsg _).trans (if_neg (by rcases hst with hst | hst <;> rw [hst] <;> decide)))

theorem exec_fapiStop_noted (hst : u.cellSt c = csRunning ∨ u.cellSt c = csWaitSync) :
    exec (.fapiStop qp id) s = .next (u.setRad c { u.radCell c with stopAfter := some ((u.radCell c).lastSlot.getD 0) }) :=
  congrArg Host.Outcome.next ((h.withMsg _).trans (if_pos hst))

end CellMessages

theorem State.startCell_cellSt (u : State) (c : Nat) : (u.startCell c).cellSt c = if u.txOk = true then csRunning else csWaitSync :=
  State.cellSt_setCell _ c (by split <;> decide)

theorem State.startCell_radCell (u : State) (c : Nat) : (u.startCell c).radCell c = (u.radCell c).cleared :=
  ((State.setCell_frame _ c _).radCell c).trans (State.radCell_setRad_same ..)

/-- No HARQ buffer is left in use. -/
theorem State.startCell_harqUse (u : State) (c : Nat) : (u.startCell c).fld c F.RAD_CELL_HARQ_USE_KIB = 0 := by
  rw [State.startCell, (State.setCell_frame _ c _).fld c F.RAD_CELL_HARQ_USE_KIB (by decide) (by decide), State.showHarq, State.fld_setFld_same _ _ _ _ (by decide),
    State.radCell_setRad_same]
  rfl

theorem State.startCell_mem (u : State) (c : Nat) : (u.startCell c).mem = u.mem := (State.setCell_frame _ c _).mem

theorem State.startCell_out (u : State) (c : Nat) : (u.startCell c).out = u.out := (State.setCell_frame _ c _).out

/-! ### Requests taken before the deadline (R243) -/

section Taken

variable {s u : State} {qp : Fin 64} {id c t : Nat} (h : s.Takes qp id c t u) {sfn slot n : Nat} (hn : u.slotOfSfn c sfn slot = n) (hst : u.cellSt c = csRunning)
  (hgo : (u.radCell c).stopAfter.any (fun l => decide (l < n)) = false) (hdl : (t : Int) < u.reqDeadline c n)
include h hn hst hgo hdl

theorem exec_dlTtiRequest_taken (pdus : List RadPdu) :
    exec (.dlTtiRequest qp id sfn slot pdus none) s = .next ((u.acceptReq c n rqDl).addPdus c n (pdus.filter (fun p => decide (p.kind ≤ 3)))) :=
  congrArg Host.Outcome.next (h.slotRequest_accepted hn rqDl _ hst hgo hdl)

theorem exec_ulDciRequest_taken (pdus : List RadPdu) :
    exec (.ulDciRequest qp id sfn slot pdus) s = .next ((u.acceptReq c n rqDci).addPdus c n (pdus.filter (fun p => decide (p.kind = 1)))) :=
  congrArg Host.Outcome.next (h.slotRequest_accepted hn rqDci _ hst hgo hdl)

/-- Uplink PDUs without a PUSCH, all within the cell's class: the slot keeps them, and no transport block is expected. -/
theorem exec_ulTtiRequest_taken {pdus : List RadPdu} (hp : ∀ p ∈ pdus, p.kind ≠ 4 ∧ u.pduOk c p = true) : ∃ v, exec (.ulTtiRequest qp id sfn slot pdus) s = .next v ∧
    (v.radSlot c n).pdus = (u.radSlot c n).pdus ++ pdus.filter (fun p => decide (4 ≤ p.kind ∧ p.kind ≤ 7)) ∧ NSet.has rqUl (v.radSlot c n).taken = true ∧ v.regs = u.regs ∧
    v.out = u.out := by
  let ps := pdus.filter (fun p => decide (4 ≤ p.kind ∧ p.kind ≤ 7))
  have hps : ∀ p ∈ ps, p.kind ≠ 4 ∧ u.pduOk c p = true := fun p hm => hp p (List.mem_of_mem_filter hm)
  obtain ⟨v, ⟨hadd, hpdus⟩, htaken, hregs, hout⟩ := u.addPdus_accepted c n rqUl ps
  rw [if_pos (List.all_eq_true.mpr fun p hm => (hps p hm).2)] at hadd
  rw [List.filter_eq_self.mpr fun p hm => (hps p hm).2] at hpdus
  have hpusch : ps.filter (fun p => decide (p.kind = 4) && (u.acceptReq c n rqUl).pduOk c p) = [] :=
    List.filter_eq_nil_iff.mpr fun p hm => by simp [(hps p hm).1]
  refine ⟨v.setSlot c n { v.radSlot c n with tbs := (v.radSlot c n).tbs ++ [] }, congrArg Host.Outcome.next ((h.slotRequest_accepted hn rqUl _ hst hgo hdl).trans ?_), ?_, ?_, hregs, hout⟩
  · simp only [ps] at hadd hpusch
    simp only [hadd, hpusch]; rfl
  · rw [State.radSlot_setSlot_same]; exact hpdus
  · rw [State.radSlot_setSlot_same]; exact htaken

/-- A payload within the message is kept under its PDU's handle (17 R497). -/
theorem exec_txDataRequest_taken (handle : Nat) (data : Blob) : ∃ v, exec (.txDataRequest qp id sfn slot [⟨handle, none, data⟩]) s = .next v ∧
    (v.radSlot c n).tx = (u.radSlot c n).tx ++ [(handle, blobSlice data 0 data.len)] ∧ NSet.has rqTx (v.radSlot c n).taken = true ∧ v.regs = u.regs ∧ v.out = u.out := by
  let w := u.acceptReq c n rqTx
  refine ⟨w.setSlot c n { w.radSlot c n with tx := (w.radSlot c n).tx ++ [(handle, blobSlice data 0 data.len)] },
    congrArg Host.Outcome.next (h.slotRequest_accepted hn rqTx _ hst hgo hdl), ?_, ?_, rfl, rfl⟩
  · rw [State.radSlot_setSlot_same, State.radSlot_acceptReq]
  · rw [State.radSlot_setSlot_same, State.radSlot_acceptReq]; exact NSet.has_add_self ..

end Taken

/-! ### Queue pairs (17 R494, R495, R510) -/

/-- Fields of one queue pair that share no bit: a write of one leaves the other. `b` and `b'` are the offsets of their registers in queue pair 0. -/
theorem State.fld_setFld_fq (s : State) {q b lo w b' lo' w' : Nat} (v : Nat) (hq : q < 64)
    (hf : b < 0x400440 ∧ b' < 0x400440 ∧ lo + w ≤ 32 ∧ lo' + w' ≤ 32 ∧ (b' ≠ b ∨ lo' + w' ≤ lo ∨ lo + w ≤ lo')) :
    (s.setFld 0 ⟨b + q * 64, lo, w⟩ v).fld 0 ⟨b' + q * 64, lo', w'⟩ = s.fld 0 ⟨b' + q * 64, lo', w'⟩ := by
  obtain ⟨hb, hb', hw, hw', hd⟩ := hf
  refine State.fld_setFld_apart s 0 0 _ _ v ?_ ?_ ?_
  · rw [inWord_iff]; exact ⟨hw, by unfold regSpan; dsimp only; omega⟩
  · rw [inWord_iff]; exact ⟨hw', by unfold regSpan; dsimp only; omega⟩
  · rw [apart_iff]; dsimp only; omega

theorem State.fld_setFld_fq_same (s : State) {q b lo w : Nat} (v : Nat) (hq : q < 64) (hf : b < 0x400440 ∧ lo + w ≤ 32) :
    (s.setFld 0 ⟨b + q * 64, lo, w⟩ v).fld 0 ⟨b + q * 64, lo, w⟩ = v % 2 ^ w :=
  State.fld_setFld_same s 0 _ v ((inWord_iff _).mpr ⟨hf.2, by unfold regSpan; dsimp only; omega⟩)

/-- A queue pair enabled with its two offsets. -/
def State.fqStart (s : State) (q rqHead indTail : Nat) (v : FqSt) : State :=
  ((((s.setFlag 0 (F.FQ_RQ_CFG_ENABLE q) true).setFlag 0 (F.FQ_STATUS_BADMSG q) false).setFld 0 (F.FQ_RQ_HEAD_OFS q) rqHead).setFld 0 (F.FQ_IND_TAIL_OFS q) indTail).setFqp q v

section FqStart

variable (s : State) {q : Nat} (rqHead indTail : Nat) (v : FqSt) (hq : q < 64)
include hq

theorem State.fqStart_indTail : (s.fqStart q rqHead indTail v).fld 0 (F.FQ_IND_TAIL_OFS q) = indTail % 2 ^ (F.FQ_IND_TAIL_OFS q).width :=
  (State.fld_setFld_fq _ _ hq (by decide)).trans (State.fld_setFld_fq_same _ _ hq (by decide))

theorem State.fqStart_rqHead : (s.fqStart q rqHead indTail v).fld 0 (F.FQ_RQ_HEAD_OFS q) = rqHead % 2 ^ (F.FQ_RQ_HEAD_OFS q).width :=
  (State.fld_setFld_fq _ _ hq (by decide)).trans ((State.fld_setFld_fq _ _ hq (by decide)).trans (State.fld_setFld_fq_same _ _ hq (by decide)))

theorem State.fqStart_badmsg : (s.fqStart q rqHead indTail v).flag 0 (F.FQ_STATUS_BADMSG q) = false := by
  have hfld : (s.fqStart q rqHead indTail v).fld 0 (F.FQ_STATUS_BADMSG q) = 0 % 2 ^ 1 :=
    (State.fld_setFld_fq _ _ hq (by decide)).trans ((State.fld_setFld_fq _ _ hq (by decide)).trans ((State.fld_setFld_fq _ _ hq (by decide)).trans
      (State.fld_setFld_fq_same _ _ hq (by decide))))
  simp [State.flag, hfld]

theorem State.fqStart_on : (s.fqStart q rqHead indTail v).fqOn q = true := by
  have hfld : (s.fqStart q rqHead indTail v).fld 0 (F.FQ_RQ_CFG_ENABLE q) = 1 % 2 ^ 1 :=
    (State.fld_setFld_fq _ _ hq (by decide)).trans ((State.fld_setFld_fq _ _ hq (by decide)).trans ((State.fld_setFld_fq _ _ hq (by decide)).trans
      ((State.fld_setFld_fq _ _ hq (by decide)).trans (State.fld_setFld_fq_same _ _ hq (by decide)))))
  simp [State.fqOn, State.flag, hfld]

end FqStart

theorem exec_fqEnable_off {s : State} {req : Requester} {qp : Fin 64} (line : Blob) (hm : req.manages = true) (ho : s.barOpen req (F.FQ_RQ_CFG_ENABLE qp).off = true)
    (hoff : s.fqOn qp = false) :
    exec (.fqEnable req qp line) s = .next (s.fqStart qp (line.le 24 8) (line.le 16 8) { FqSt.off with rq := line.le 24 8, indHead := line.le 8 8 }) := by
  change execFqEnable req qp line s = _
  rw [execFqEnable, access_open _ ho]
  exact if_pos (by simp [hm, hoff])

/-- A line that can be read is taken as it shows (R495). -/
theorem exec_fapiPoll_read {s : State} {qp : Fin 64} (hon : s.fqOn qp = true) (hgood : s.flag 0 (F.FQ_STATUS_BADMSG qp) = false) (hup : s.hostUp = true)
    (htr : s.translates 0 (s.fqLine qp) = true) (line ring : Blob) : exec (.fapiPoll qp line ring) s = .next (s.fqLineRead qp (line.le 8 8) (line.le 0 8) ring) :=
  (if_neg (by simp [hon, hgood, hup])).trans (if_neg (by simp [htr]))

/-- Settles O32: a message by its command and the cell's state, a slot's request by the cell's state and the deadline, then a queue pair's polling and enabling. -/
theorem cellRequestsOfTheL2 : Obligations.CellRequestsOfTheL2 := by
  intro s qp
  refine ⟨?message, fun hin id => ?empty, exec_fapiPoll_read, fun req line hm ho hoff => ?enable⟩
  case message =>
    intro id c t r hin u hc hq
    have h : s.Takes qp id c t u := ⟨State.takeMsg_cons hin, hc, hq⟩
    refine ⟨exec_fapiParam_taken h, fun hst body => ?config, fun hst => ?start, exec_fapiStart_refused h, exec_fapiStop_noted h, ?request⟩
    case config =>
      refine ⟨_, State.cellSt_setCell _ c (by decide), ?_, exec_fapiConfig_idle h hst body⟩
      rw [(State.setCell_frame _ c _).radCell, State.radCell_setRad_same]
    case start =>
      refine ⟨_, exec_fapiStart_accepted h hst, u.startCell_cellSt c, ?_, ?_, u.startCell_harqUse c, u.startCell_mem c, u.startCell_out c⟩
      · rw [u.startCell_radCell]; rfl
      · rw [u.startCell_radCell]; rfl
    case request =>
      intro sfn slot pdus mib tbs n
      refine ⟨fun hst => ?waits, fun hst hstop => congrArg Host.Outcome.next (h.slotRequest_stopped rfl _ _ hst hstop), fun hst hgo hdl => ?taken,
        fun hst hgo hdl => congrArg Host.Outcome.next (h.slotRequest_late rfl _ _ hst hgo hdl)⟩
      case waits =>
        have hnext : ∀ type f, Host.Outcome.next (s.slotRequest qp id sfn slot type f) = (.next u : Res) := fun type f =>
          congrArg Host.Outcome.next (h.slotRequest_discarded type f hst)
        exact ⟨hnext _ _, hnext _ _, hnext _ _, hnext _ _⟩
      case taken =>
        exact ⟨pdusKept_of_exec (exec_dlTtiRequest_taken h rfl hst hgo hdl pdus), pdusKept_of_exec (exec_ulDciRequest_taken h rfl hst hgo hdl pdus),
          exec_ulTtiRequest_taken h rfl hst hgo hdl, exec_txDataRequest_taken h rfl hst hgo hdl⟩
  case empty =>
    have hnext : ∀ f, Host.Outcome.next (s.withMsg qp id f) = (.next s : Res) := fun f => congrArg Host.Outcome.next (State.withMsg_empty id f hin)
    exact ⟨hnext _, hnext _, hnext _⟩
  case enable =>
    have hqp := qp.isLt
    exact ⟨_, exec_fqEnable_off line hm ho hoff, s.fqStart_on _ _ _ hqp, s.fqStart_badmsg _ _ _ hqp, s.fqStart_rqHead _ _ _ hqp, s.fqStart_indTail _ _ _ hqp, rfl⟩

end Sys2Proof.Machine

/-! SUPPORT. Strokes (09 R271, R276 to R289, R293): what the instruction that a channel's stroke stands at does, one rule for each, and the statement about them. -/
namespace Sys2Proof.Machine

open Sys2Proof Sys2Proof.Laws

/-! ### Channels, as other operations leave them -/

theorem State.chan_congr {s t : State} (h : t.str = s.str) (n : Nat) : t.chan n = s.chan n := by unfold State.chan; rw [h]

@[simp] theorem State.chan_setFld (s : State) (u : Nat) (f : Fld) (v n : Nat) : (s.setFld u f v).chan n = s.chan n := rfl

@[simp] theorem State.chan_chState (s : State) (m st n : Nat) : (s.chState m st).chan n = s.chan n := rfl

@[simp] theorem State.chan_setChan_same (s : State) (n : Nat) (c : Chan) : (s.setChan n c).chan n = c := (chan_set s n n c).trans (if_pos rfl)

theorem State.chan_setChan_ne (s : State) {n m : Nat} (c : Chan) (h : m ≠ n) : (s.setChan n c).chan m = s.chan m := (chan_set s n m c).trans (if_neg h)

/-! ### Where a stroke stands (R271, R276) -/

/-- A channel holds a thread, and the stroke it has started stands at an instruction. -/
structure State.StandsAt (s : State) (n : Nat) (x : StrExec) (i : SInstr) : Prop where
  holds : ∃ th, (s.chan n).thread = some th
  inExec : (s.chan n).exec = some x
  started : x.started = true
  instr : x.stroke[x.pc]? = some i

theorem State.runInstr_noThread {s : State} {n : Nat} (h : (s.chan n).thread = none) (op : Nat) (f : State → StrExec → SInstr → State) : s.runInstr n op f = s := by
  unfold State.runInstr; rw [h]

theorem State.StandsAt.runInstr {s : State} {n : Nat} {x : StrExec} {i : SInstr} (h : s.StandsAt n x i) (op : Nat) (f : State → StrExec → SInstr → State) :
    s.runInstr n op f = if i.op = op then f s x i else s := by
  obtain ⟨⟨th, hth⟩, hx, hst, hi⟩ := h
  unfold State.runInstr
  simp only [hth, hx, hst, hi]

/-- An instruction acts where the stroke stands at its opcode. -/
theorem State.StandsAt.acts {s : State} {n : Nat} {x : StrExec} {i : SInstr} (h : s.StandsAt n x i) {ins : Instr} {op : Nat} {f : State → StrExec → SInstr → State}
    (hins : exec ins s = .next (s.runInstr n op f)) (hop : i.op = op) : exec ins s = .next (f s x i) := by rw [hins, h.runInstr, if_pos hop]

/-- The stroke instructions other than MOVE, with their opcodes (R278, R279). -/
def strokeInstrs (ch : Fin 2048) : List (Instr × Nat) :=
  [(.dim ch, 1), (.strokeRun ch, 2), (.wrap ch, 3), (.gather ch, 4), (.adv ch, 6), (.loopStroke ch, 7), (.swait ch, 8), (.ssig ch, 9), (.fence ch, 10), (.strokeArm ch, 11),
    (.endStroke ch, 15)]

/-- Each runs its channel's stroke by its opcode alone. -/
theorem exec_strokeInstr (ch : Fin 2048) : ∀ c ∈ strokeInstrs ch, ∃ f, ∀ s, exec c.1 s = .next (s.runInstr ch c.2 f) := by
  unfold strokeInstrs
  simp only [List.forall_mem_cons]
  exact ⟨⟨_, fun _ => rfl⟩, ⟨_, fun _ => rfl⟩, ⟨_, fun _ => rfl⟩, ⟨_, fun _ => rfl⟩, ⟨_, fun _ => rfl⟩, ⟨_, fun _ => rfl⟩, ⟨_, fun _ => rfl⟩, ⟨_, fun _ => rfl⟩, ⟨_, fun _ => rfl⟩,
    ⟨_, fun _ => rfl⟩, ⟨_, fun _ => rfl⟩, fun _ h => absurd h List.not_mem_nil⟩

/-! ### An instruction goes on, or ends its descriptor (R279, R293) -/

/-- A command leaves `y` in execution on a channel, and no other channel, no byte of memory and nothing that has left the device changes. -/
def State.GoesOn (s : State) (n : Nat) (ins : Instr) (y : StrExec) : Prop :=
  ∃ t, exec ins s = .next t ∧ t.chan n = { s.chan n with exec := some y } ∧ (∀ m, m ≠ n → t.chan m = s.chan m) ∧ t.fld n F.STR_CH_STATE_PC = y.pc % 32 ∧ t.mem = s.mem ∧ t.out = s.out

/-- A command ends a channel's descriptor `x` with a status, and its run where no further descriptor is in hand; the fault registers show where. -/
def State.FailsWith (s : State) (n : Nat) (x : StrExec) (ins : Instr) (st : Nat) : Prop :=
  ∀ r, (s.chan n).run = some r → r.hand = [] → ∃ t, exec ins s = .next t ∧ t.fld n F.STR_CH_FAULT_STATUS = st ∧ t.fld n F.STR_CH_FAULT_PC = x.pc % 32 ∧ t.mem = s.mem ∧
    (t.chan n).exec = none ∧ (t.chan n).drain = (s.chan n).drain ++ [{ x.done with status := st, stPc := x.pc }] ∧ (t.chan n).run = some { r with ending := some 0x33 }

section Outcomes

variable {s : State} {n : Nat} {ins : Instr}

theorem State.goesOn_of_setExec {u : State} {y : StrExec} (h : exec ins s = .next (u.setExec n y)) (hstr : ∀ m, u.chan m = s.chan m) (hmem : u.mem = s.mem) (hout : u.out = s.out) :
    s.GoesOn n ins y := by
  obtain ⟨hchan, hothers, hpc, htmem, htout⟩ := exec_spec u n y
  rw [hstr n] at hchan
  exact ⟨_, h, hchan, fun m hm => (hothers m hm).trans (hstr m), hpc, htmem.trans hmem, htout.trans hout⟩

theorem State.goesOn_here {y : StrExec} (h : exec ins s = .next (s.setExec n y)) : s.GoesOn n ins y := State.goesOn_of_setExec h (fun _ => rfl) rfl rfl

theorem State.failsWith_of_chanError {x : StrExec} {st : Nat} (h : exec ins s = .next (s.chanError n st x.pc 0)) (hx : (s.chan n).exec = some x) (hp : haltsPatient st = false := by decide)
    (hst : st < 64 := by decide) : s.FailsWith n x ins st := by
  intro r hr hhand
  obtain ⟨hstatus, hpc, hmem, -, hchan⟩ := error_spec s n st x.pc 0 x r hx hr hhand hp hst
  exact ⟨_, h, hstatus.trans (Nat.mod_eq_of_lt (Nat.lt_trans hst (by decide))), hpc, hmem, by rw [hchan], by rw [hchan], by rw [hchan]; rfl⟩

end Outcomes

/-- A count of DIM or LOOP: the instruction's own, or one of the descriptor's parameters (R274, R279). -/
theorem StrExec.param_eq (x : StrExec) (a c : Nat) : x.param a c = if a.testBit 4 then fieldLe x.desc (if a.testBit 5 then 0x34 else 0x30) 4 else c := by
  unfold StrExec.param
  split
  · split <;> rfl
  · rfl

/-- A run that starts: its first admission number is the scoreboard's next, and its channel shows FETCH (R273; 10 R333). -/
theorem State.startRun_spec (s : State) (n : Nat) (a : Arm) (ovr : Bool) : ((s.startRun n a ovr).chan n).run = some (StrRun.start a s.sched.nextId ovr) ∧
    (s.startRun n a ovr).fld n F.STR_CH_STATE_STATE = chFetch ∧ ∀ m, m ≠ n → (s.startRun n a ovr).chan m = s.chan m := by
  refine ⟨?run, State.fld_setFld_same _ _ _ _ (by decide), fun m hm => ?others⟩
  case run => exact congrArg Chan.run ((State.chan_chState _ _ _ _).trans (State.chan_setChan_same _ _ _))
  case others => exact ((State.chan_chState _ _ _ _).trans (State.chan_setChan_ne _ _ hm)).trans rfl

/-- Settles O41: each instruction, where the stroke stands at it, comes to the channel's next state or to its error. -/
theorem strokeInstructionsRun : Obligations.StrokeInstructionsRun := by
  intro s ch all
  refine ⟨fun hth c hc => ?idle, fun th x i hth hx hst hi => ?stands⟩
  case idle =>
    obtain ⟨f, hf⟩ := exec_strokeInstr ch c hc
    rw [hf, State.runInstr_noThread hth]
  case stands =>
    intro goes fails y d side space
    have h : s.StandsAt ch x i := ⟨⟨th, hth⟩, hx, hst, hi⟩
    refine ⟨fun c hc hop => ?other, fun hop => ?dim, fun hop => ?run, fun hop => ?wrap, fun hop => ?gather, fun hop => ?adv, fun hop => ?loop, fun hop => ?swait, fun hop => ?ssig,
      fun hop => ?fence, fun hop hown hpos hmax hne hidle => ?arm, fun hop => ?done⟩
    case other =>
      obtain ⟨f, hf⟩ := exec_strokeInstr ch c hc
      rw [hf, h.runInstr, if_neg hop]
    case dim =>
      have hact := h.acts (ins := .dim ch) rfl hop
      rw [StrExec.param_eq] at hact
      exact ⟨fun ha => State.goesOn_here (hact.trans (congrArg _ (if_neg (by omega)))),
        fun ha => State.failsWith_of_chanError (hact.trans (congrArg _ (if_pos (by omega)))) hx⟩
    case run =>
      have hact := h.acts (ins := .strokeRun ch) rfl hop
      exact ⟨fun ha => State.goesOn_here (hact.trans (congrArg _ ((if_neg (by omega)).trans (if_neg (by omega))))),
        fun ha => State.failsWith_of_chanError (hact.trans (congrArg _ (if_pos ha))) hx⟩
    case wrap =>
      have hact := h.acts (ins := .wrap ch) rfl hop
      refine ⟨fun ⟨hsp, hmul, hmin⟩ => ⟨fun ha => ?src, fun ha => ?dst⟩, fun hmul => State.failsWith_of_chanError (hact.trans (congrArg _ (if_pos (by simp [hmul])))) hx⟩
      case src =>
        have hpal : x.srcSpace ≠ spPalette := by simpa [space, ha, spPalette] using hsp
        exact State.goesOn_here (hact.trans (congrArg _ ((if_neg (by simp [ha, hpal, hmul, hmin])).trans (if_pos ha))))
      case dst =>
        have hpal : x.dstSpace ≠ spPalette := by simpa [space, ha, spPalette] using hsp
        exact State.goesOn_here (hact.trans (congrArg _ ((if_neg (by simp [ha, hpal, hmul, hmin])).trans (if_neg ha))))
    case gather =>
      have hact := h.acts (ins := .gather ch) rfl hop
      refine ⟨fun ⟨hsp, hnone, hshift⟩ => ⟨fun ha => ?src, fun ha => ?dst⟩, fun hshift => State.failsWith_of_chanError (hact.trans (congrArg _ (if_pos (by simp [hshift])))) hx⟩
      case src =>
        have hpal : x.srcSpace ≠ spPalette := by simpa [space, ha, spPalette] using hsp
        have hfree : x.src.gather = none := by simpa [side, ha] using hnone
        rw [ha] at hact
        exact State.goesOn_here (hact.trans (congrArg _ (if_neg (by simp [hpal, hfree, hshift]))))
      case dst =>
        have hpal : x.dstSpace ≠ spPalette := by simpa [space, ha, spPalette] using hsp
        have hfree : x.dst.gather = none := by simpa [side, ha] using hnone
        rw [ha] at hact
        exact State.goesOn_here (hact.trans (congrArg _ (if_neg (by simp [hpal, hfree, hshift]))))
    case adv =>
      have hact := h.acts (ins := .adv ch) rfl hop
      exact ⟨fun hmul => ⟨fun ha => State.goesOn_here (hact.trans (congrArg _ ((if_neg (not_not.mpr hmul)).trans (if_pos ha)))),
        fun ha => State.goesOn_here (hact.trans (congrArg _ ((if_neg (not_not.mpr hmul)).trans (if_neg ha))))⟩,
        fun hmul => State.failsWith_of_chanError (hact.trans (congrArg _ (if_pos hmul))) hx⟩
    case loop =>
      intro c ran
      have hact := h.acts (ins := .loopStroke ch) rfl hop
      rw [StrExec.param_eq] at hact
      have hfits : c ≠ 0 → c ≤ 16777216 → ¬ (c = 0 ∨ 16777216 < c) := by omega
      exact ⟨fun h0 hmax hran => State.goesOn_here (hact.trans (congrArg _ ((if_neg (hfits h0 hmax)).trans (if_pos hran)))),
        fun h0 hmax hran => State.goesOn_here (hact.trans (congrArg _ ((if_neg (hfits h0 hmax)).trans (if_neg (Nat.not_lt.mpr hran))))),
        fun h0 => State.failsWith_of_chanError (hact.trans (congrArg _ (if_pos (Or.inl h0)))) hx⟩
    case swait =>
      have hact := h.acts (ins := .swait ch) rfl hop
      refine ⟨fun hown htake => ?_, fun hown => State.failsWith_of_chanError (hact.trans (congrArg _ (if_pos (by simp [hown])))) hx⟩
      simp only [hown, htake, Bool.not_true, Bool.false_eq_true, if_false, if_true] at hact
      exact State.goesOn_of_setExec hact (fun _ => rfl) rfl rfl
    case ssig =>
      have hact := h.acts (ins := .ssig ch) rfl hop
      refine ⟨fun hown hops => ?_, fun hown hops => ?_⟩
      · exact State.goesOn_of_setExec (hact.trans (congrArg _ ((if_neg (by simp [hown])).trans (if_pos (by simp [hops]))))) (fun _ => rfl) rfl rfl
      · exact hact.trans (congrArg _ ((if_neg (by simp [hown])).trans (if_neg (by simp [hops]))))
    case fence =>
      have hact := h.acts (ins := .fence ch) rfl hop
      refine ⟨fun hops harmed => ?_, fun hops => hact.trans (congrArg _ (if_neg (by simp [hops])))⟩
      rw [if_pos (by simp [hops]), inj_off _ _ _ harmed] at hact
      exact State.goesOn_here hact
    case arm =>
      have hact := h.acts (ins := .strokeArm ch) rfl hop
      let a : Arm := ⟨64 * fieldLe x.desc 0x30 4, i.c, false, .stroke⟩
      let u := s.setExec ch y
      obtain ⟨hchan, hothers, -⟩ := exec_spec s ch y
      have hrun : ((u.chan i.b).run).isNone = true := by rw [hothers _ hne, hidle]; rfl
      have hstart : u.armChan i.b a = u.startRun i.b a false := if_pos hrun
      obtain ⟨hbegun, hstate, hkept⟩ := u.startRun_spec i.b a false
      refine ⟨u.startRun i.b a false, hact.trans (congrArg _ ?_), (hkept _ hne.symm).trans hchan, hbegun, hstate⟩
      rw [if_neg (by simp [hown]), if_neg (by omega)]
      exact hstart
    case done =>
      have hact := h.acts (ins := .endStroke ch) rfl hop
      obtain ⟨hkeep, hchan, -⟩ := next_spec (s.setChan ch { s.chan ch with exec := none, drain := (s.chan ch).drain ++ [x.done] }) ch
      rw [State.chan_setChan_same] at hchan
      exact ⟨_, hact, by rw [hchan], by rw [hchan], by rw [hchan], by rw [hchan], hkeep.mem⟩

end Sys2Proof.Machine

/-! SUPPORT. Stream channels (09 R271, R273, R284, R287 to R292, R296, R303, R327, R328): what the commands around a channel do, one rule for each, and the statement about them. -/
namespace Sys2Proof.Machine

open Sys2Proof Sys2Proof.Laws

/-! ### Runs that are over (10 R333) -/

theorem State.consumeRuns_none {s : State} (h : s.str.finished = []) : s.consumeRuns = s := by
  unfold State.consumeRuns
  rw [h]
  change { s with str := { s.str with finished := [] } } = s
  rw [← h]

@[simp] theorem State.finished_makeReady (s : State) (n : Nat) : (s.makeReady n).str.finished = s.str.finished := by
  unfold State.makeReady; split <;> rfl

@[simp] theorem State.finished_dropThread (s : State) (n : Nat) : (s.dropThread n).str.finished = s.str.finished := by
  unfold State.dropThread; dsimp only; split <;> rfl

@[simp] theorem State.finished_unhalt (s : State) (n : Nat) : (s.unhalt n).str.finished = s.str.finished := by
  unfold State.unhalt; split <;> rfl

@[simp] theorem State.finished_abortHand (s : State) (n : Nat) : (s.abortHand n).str.finished = s.str.finished := by
  unfold State.abortHand; dsimp only
  split
  · split
    · split <;> rfl
    · rfl
  · rfl

@[simp] theorem State.finished_nextDesc (s : State) (n : Nat) : (s.nextDesc n).str.finished = s.str.finished := by
  unfold State.nextDesc; dsimp only
  split
  · exact s.finished_dropThread n
  · split
    · exact (State.finished_makeReady _ n).trans (s.finished_dropThread n)
    · split
      · exact s.finished_dropThread n
      · exact s.finished_dropThread n

/-- Ending a run leaves it on its channel until its descriptors are complete. -/
theorem State.finished_endRun (s : State) (n st pc : Nat) : (s.endRun n st pc).str.finished = s.str.finished := by
  have htakes : ((s.unhalt n).dropTakes (.channel n)).str.finished = s.str.finished := by rw [(takes_spec _ _).2, State.finished_unhalt]
  unfold State.endRun; dsimp only
  split
  · exact htakes
  · rw [State.finished_nextDesc, State.finished_abortHand]; exact htakes

/-- A run is not over while a descriptor drains (R284). -/
theorem Chan.over_draining {c : Chan} (h : c.drain ≠ []) (r : StrRun) : c.over r = false := by
  unfold Chan.over; rw [List.isEmpty_eq_false_iff.mpr h, Bool.and_false]

theorem State.finishRun_draining {s : State} {n : Nat} (h : (s.chan n).drain ≠ []) : s.finishRun n = s := by
  unfold State.finishRun; dsimp only
  split
  · rfl
  · exact if_neg (by rw [Chan.over_draining h]; exact Bool.false_ne_true)

theorem State.closeRun_draining {s : State} {n : Nat} (h : (s.chan n).drain ≠ []) : s.closeRun n = s := by
  unfold State.closeRun
  cases (s.chan n).run with
  | none => rfl
  | some r => exact if_neg (by rw [Option.any_some, Chan.over_draining h]; exact Bool.false_ne_true)

/-! ### Commands by registers (R291, R296, R303) -/

/-- What STR_CH_ARM and STR_CH_ARM_CNT say of the run that an ARM starts (R273). -/
def State.armShown (s : State) (n : Nat) : Arm := ⟨s.fld64 n F.STR_CH_ARM_ADDR_LO_ADDR F.STR_CH_ARM_ADDR_HI_ADDR, s.fld n F.STR_CH_ARM_CNT_COUNT, s.flag n F.STR_CH_ARM_CNT_SPACE, .register⟩

section Reached

variable {s : State} {req : Requester} {n : Nat}

section Control

variable (h : s.barOpen req F.STR_CH_CTRL_ARM.off = true ∧ s.unitAt req F.STR_CH_CTRL_ARM.off = n)
include h

theorem exec_channelArm_at : exec (.channelArm req) s =
    if s.mayCommand req n && decide (s.fld n F.STR_CH_ARM_CNT_COUNT ≠ 0) then .next (s.armChan n (s.armShown n)) else .next s := by
  change execChannelArm req s = _
  rw [execChannelArm, access_at _ h.1 h.2]
  rfl

theorem exec_channelResume_at : exec (.channelResume req) s = .next (if s.mayCommand req n && (s.chan n).halt.isSome then s.resume n else s) := by
  change execChannelResume req s = _
  rw [execChannelResume, access_at _ h.1 h.2]

theorem exec_channelSkip_at : exec (.channelSkip req) s =
    if s.mayCommand req n && (s.chan n).halt.isSome then .next ((s.setChan n ((s.chan n).skip n)).resume n) else .next s := by
  change execChannelSkip req s = _
  rw [execChannelSkip, access_at _ h.1 h.2]

theorem exec_channelAbort_at : exec (.channelAbort req) s = .next (s.abortChan req n).consumeRuns := by
  change execChannelAbort req s = _
  rw [execChannelAbort, access_at _ h.1 h.2]

end Control

theorem exec_semaphoreSet_at (h : s.barOpen req F.STR_CH_SEM_FULL.off = true ∧ s.unitAt req F.STR_CH_SEM_FULL.off = n) (v : BitVec 32) : exec (.semaphoreSet req v) s =
    if s.mayCommand req n then
      .next ((((s.setFld n F.STR_CH_SEM_FULL (v.toNat % 65536)).setFld n F.STR_CH_SEM_EMPTY (v.toNat / 65536)).serveSem (2 * n)).serveSem (2 * n + 1))
    else .next s := by
  change execSemaphoreSet req v s = _
  rw [execSemaphoreSet, access_at _ h.1 h.2]

/-- A requester that neither owns a channel nor manages the device aborts nothing. -/
theorem State.abortChan_foreign (hno : s.mayCommand req n = false) (hpf : req.manages = false) : s.abortChan req n = s := if_neg (by rw [hno, hpf]; exact Bool.false_ne_true)

end Reached

/-! ### Arming (R273, R291, R292) -/

section Arming

variable {s : State} {n : Nat} (a : Arm)

theorem State.armChan_idle (h : (s.chan n).run = none) : s.armChan n a = s.startRun n a false := if_pos (by rw [h]; rfl)

theorem State.armChan_latched (hr : (s.chan n).run ≠ none) (hp : (s.chan n).pend = none) : s.armChan n a = s.setChan n { s.chan n with pend := some a } := by
  unfold State.armChan
  rw [if_neg (by rwa [Option.isNone_iff_eq_none]), hp]

theorem State.armChan_coalesced {p : Arm} (hr : (s.chan n).run ≠ none) (hp : (s.chan n).pend = some p) :
    s.armChan n a = (s.setChan n { s.chan n with pend := some { a with origin := p.origin.join a.origin }, pendOver := true }).incSat n F.STR_CH_OVERRUN_COUNT 1 := by
  unfold State.armChan
  rw [if_neg (by rwa [Option.isNone_iff_eq_none]), hp]

end Arming

/-! ### RESUME and SKIP (R296) -/

theorem State.mem_ready_makeReady (s : State) (n : Nat) : n ∈ (s.makeReady n).str.ready := by
  unfold State.makeReady
  split
  next hany => simpa using hany
  next => simp

theorem State.unhalt_yz (s : State) (n : Nat) : (s.unhalt n).yz = s.yz := by unfold State.unhalt; split <;> rfl

/-- A channel whose failing request goes again, no fabric operation of it having failed and none waiting to be sent. -/
theorem State.resume_spec {s : State} {n : Nat} {x : StrExec} (hx : (s.chan n).exec = some x) (hf : (s.chan n).failed = []) (hs : ∀ o ∈ s.yz.ops, o.sent = true) :
    (s.resume n).chan n = { s.chan n with halt := none } ∧ n ∈ (s.resume n).str.ready := by
  obtain ⟨-, hchan, -⟩ := unhalt_spec s n
  let u := (s.unhalt n).setChan n { (s.unhalt n).chan n with failed := [] }
  have hu : u.chan n = { s.chan n with halt := none } := by rw [State.chan_setChan_same, hchan, ← hf]
  have hflush : u.yzFlush = u := flush_sent u (by rw [show u.yz = s.yz from s.unhalt_yz n]; exact hs)
  have hresume : s.resume n = (u.chState n chFetch).makeReady n := by
    unfold State.resume
    rw [hf]
    change (if (u.yzFlush.chan n).exec.isSome || _ then (u.yzFlush.chState n chFetch).makeReady n else _) = _
    rw [hflush, hu, hx]
    rfl
  rw [hresume]
  exact ⟨((ready_spec _ n).2 n).trans ((State.chan_chState _ _ _ _).trans hu), State.mem_ready_makeReady _ n⟩

/-! ### ABORT (R296, R303) -/

theorem State.abortChan_running {s : State} {req : Requester} {n : Nat} {r : StrRun} (hmay : s.mayCommand req n = true) (hrun : (s.chan n).run = some r) (ho : r.arm.origin ≠ .engine) :
    s.abortChan req n = (s.endRun n ((s.chan n).halt.getD stAborted) ((s.chan n).exec.elim 0xFF (·.pc))).closeRun n := by
  unfold State.abortChan
  dsimp only
  rw [hrun, if_pos (by simp [hmay]), if_neg (by simp [ho])]

/-! ### Semaphores (R287 to R289) -/

theorem State.semCount_full (s : State) (n : Nat) : s.semCount (2 * n) = s.fld n F.STR_CH_SEM_FULL := by
  unfold State.semCount semFld
  rw [if_pos (Nat.mul_mod_right 2 n), Nat.mul_div_cancel_left n Nat.two_pos]

theorem State.semCount_empty (s : State) (n : Nat) : s.semCount (2 * n + 1) = s.fld n F.STR_CH_SEM_EMPTY := by
  unfold State.semCount semFld
  rw [if_neg (by omega), show (2 * n + 1) / 2 = n by omega]

theorem semFld_inWord (sem : Nat) : (semFld sem).inWord = true := by unfold semFld; split <;> decide

@[simp] theorem State.semCount_setWaiters (s : State) (sem : Nat) (l : List Waiter) (k : Nat) : (s.setWaiters sem l).semCount k = s.semCount k := by
  have hwait : ∀ f : Fld, f.off = F.STR_CH_SEMSTAT_FULL_WAIT.off → (semFld k).apart f = true := fun f hf => (apart_iff _ _).mpr (Or.inl (by unfold semFld; rw [hf]; split <;> decide))
  unfold State.setWaiters State.semCount
  split
  · exact State.fld_setFld_apart _ _ _ _ _ _ (by decide) (semFld_inWord k) (hwait _ rfl)
  · exact State.fld_setFld_apart _ _ _ _ _ _ (by decide) (semFld_inWord k) (hwait _ rfl)

/-- Where no take waits, serving a semaphore changes no count. -/
theorem State.serveSem_none {s : State} {sem : Nat} (h : s.semWaiters sem = []) : s.serveSem sem = s.setWaiters sem [] := by
  unfold State.serveSem; rw [h]; rfl

theorem State.landSignal_free {s : State} {sem : Nat} (h : s.semWaiters sem = []) (hc : s.semCount sem < 65535) : s.landSignal sem = (s.setSem sem (s.semCount sem + 1)).setWaiters sem [] := by
  unfold State.landSignal
  rw [if_neg (by omega)]
  exact State.serveSem_none (s := s.setSem sem _) h

theorem semFld_width (sem : Nat) : (semFld sem).width = 16 := by unfold semFld; split <;> rfl

theorem State.semCount_setSem_same (s : State) (sem : Nat) {n : Nat} (h : n < 65536) : (s.setSem sem n).semCount sem = n := by
  unfold State.semCount State.setSem
  rw [State.fld_setFld_same _ _ _ _ (semFld_inWord sem), semFld_width]
  exact Nat.mod_eq_of_lt h

/-! ### Parked waits (R327, R328) -/

theorem State.unpark_spec (s : State) (n : Nat) : (s.unpark n).chan n = { s.chan n with parked := false } := by
  unfold State.unpark
  split
  · dsimp only
    rw [State.chan_setFld, State.chan_setFld, State.chan_setChan_same]
  next h => rw [Bool.not_eq_true] at h; rw [← h]

/-! ### Threads (R271) -/

/-- A channel that takes a thread is ready no longer, and runs. -/
def State.takeThread (s : State) (n th : Nat) : State :=
  let f := threadFld (s.fld n F.STR_CH_CFG_PANEL)
  (((({ s with str := { s.str with ready := s.str.ready.filter (fun m => decide (m ≠ n)) } }).setChan n { s.chan n with thread := some th }).setFld n F.STR_CH_STATE_THREAD th).setFld 0 f
    (s.fld 0 f + 1)).chState n chRunning

theorem exec_threadTake_free {s : State} {ch : Fin 2048} {th : Fin 64} (hnext : s.nextForThread (s.fld ch F.STR_CH_CFG_PANEL) = some ch.val) (hth : (s.chan ch).thread = none)
    (hh : (s.chan ch).halt = none) (hroom : (s.holders (s.fld ch F.STR_CH_CFG_PANEL)).length < 64)
    (hfree : ∀ m ∈ s.holders (s.fld ch F.STR_CH_CFG_PANEL), (s.chan m).thread ≠ some th.val) (hq : s.threadQuota ch = true) :
    exec (.threadTake ch th) s = .next (s.takeThread ch th) := by
  have hnone : (s.holders (s.fld ch F.STR_CH_CFG_PANEL)).find? (fun m => decide ((s.chan m).thread = some th.val)) = none :=
    List.find?_eq_none.mpr (fun m hm => by simpa using hfree m hm)
  have hall : (s.holders (s.fld ch F.STR_CH_CFG_PANEL)).all (fun m => decide ((s.chan m).thread ≠ some th.val)) = true := List.all_eq_true.mpr (fun m hm => decide_eq_true (hfree m hm))
  change execThreadTake ch th s = _
  unfold execThreadTake
  rw [if_pos ⟨hnext, by rw [hth]; rfl, by rw [hh]; rfl⟩]
  simp only [hnone, hroom, hq, decide_true, Bool.not_true, Bool.or_false, Bool.false_eq_true, if_false, hall, Bool.and_true, if_true]
  rfl

/-- The count of a panel's threads in use is apart from a channel's registers (R304). -/
theorem State.fld_setThreads (s : State) (p v u : Nat) {g : Fld} (hg : g.inWord = true) (hw : g.apart F.STR_THREADS_W = true := by decide) (hc : g.apart F.STR_THREADS_C = true := by decide)
    (he : g.apart F.STR_THREADS_E = true := by decide) : (s.setFld 0 (threadFld p) v).fld u g = s.fld u g := by
  unfold threadFld
  split
  · exact State.fld_setFld_apart _ _ _ _ _ _ (by decide) hg hw
  · split
    · exact State.fld_setFld_apart _ _ _ _ _ _ (by decide) hg hc
    · exact State.fld_setFld_apart _ _ _ _ _ _ (by decide) hg he

theorem State.takeThread_spec (s : State) (n : Nat) {th : Nat} (h : th < 64) : (s.takeThread n th).chan n = { s.chan n with thread := some th } ∧ n ∉ (s.takeThread n th).str.ready ∧
    (s.takeThread n th).fld n F.STR_CH_STATE_STATE = 2 ∧ (s.takeThread n th).fld n F.STR_CH_STATE_THREAD = th := by
  refine ⟨?chan, ?ready, State.fld_setFld_same _ _ _ _ (by decide), ?thread⟩
  case chan =>
    unfold State.takeThread
    dsimp only
    rw [State.chan_chState, State.chan_setFld, State.chan_setFld, State.chan_setChan_same]
  case ready =>
    change n ∉ s.str.ready.filter (fun m => decide (m ≠ n))
    simp
  case thread =>
    unfold State.takeThread State.chState
    rw [State.fld_setFld_apart _ _ _ _ _ _ (by decide) (by decide) (by decide), State.fld_setThreads _ _ _ _ (by decide), State.fld_setFld_same _ _ _ _ (by decide)]
    exact Nat.mod_eq_of_lt h

/-! ### Reads of bonded memory (R275, R276) -/

theorem State.readBytes_eq_map (s : State) (k n : Nat) : s.readBytes k n = (List.range n).map (fun i => (s.byte (k + i)).toNat) := by
  induction n generalizing k with
  | zero => rfl
  | succ n ih =>
    rw [State.readBytes, ih, List.range_succ_eq_map, List.map_cons, List.map_map]
    congr 1
    refine List.map_congr_left fun i _ => ?_
    rw [Function.comp_apply, Nat.add_right_comm, Nat.add_assoc]

/-- A read within the share, of memory without poison that no sequence engine masks and no injection point alters. -/
theorem State.spRead_clean {s : State} {e addr n : Nat} (hin : s.inShare e addr n = true) (hpoi : s.poison = []) (hseq : s.seqOn e = false)
    (harm : s.flag (s.stackOf e (addr / 64 * 64 / 65536)) F.FLT_INJSTAT_ARMED = false) (rd : Reader) (target : Nat) (host : List Nat) :
    ∃ t, s.spRead rd e ⟨spBonded, target, addr, n⟩ host none = ⟨stOk, s.readBytes (bondKey e addr) n, t⟩ ∧ LKeep s t ∧ t.mem = s.mem ∧ t.poison = s.poison ∧ t.seqOn e = false := by
  obtain ⟨hstatus, hdata, hoff, hmem, -, hkept⟩ := load_clean s e addr n stPoison hin hpoi hseq harm
  refine ⟨(s.bondLoad e addr n stPoison none).st, ?_, load_keep s e addr n stPoison hin hpoi harm, hmem, hkept, hoff⟩
  change (if s.inShare e addr n then _ else _) = _
  rw [if_pos hin]
  dsimp only
  rw [hstatus, hdata, tag_clean _ _ _ (hkept.trans hpoi), view_id _ _ _ _ hoff]
  rfl

/-! ### Descriptors arrive (R273) -/

theorem cut64_eq_map (k : Nat) (bs : List Nat) : cut64 k bs = (List.range k).map (fun i => (bs.drop (64 * i)).take 64) := by
  induction k generalizing bs with
  | zero => rfl
  | succ k ih =>
    rw [cut64, ih, List.range_succ_eq_map, List.map_cons, List.map_map]
    congr 1
    refine List.map_congr_left fun i _ => ?_
    rw [Function.comp_apply, List.drop_drop, Nat.mul_succ, Nat.add_comm]

theorem bondKey_add (e a i : Nat) : bondKey e a + i = bondKey e (a + i) := Nat.add_assoc _ _ _

/-- A burst of bytes read, cut into descriptors. -/
theorem State.cut64_readBytes (s : State) (e a k : Nat) : cut64 k ((s.readBytes (bondKey e a) (64 * k)).map (· % 256)) =
    (List.range k).map (fun i => (List.range 64).map (fun j => (s.byte (bondKey e (a + 64 * i + j))).toNat)) := by
  rw [cut64_eq_map, State.readBytes_eq_map]
  refine List.map_congr_left fun i hi => List.ext_getElem ?_ fun j h1 h2 => ?_
  · have hik := List.mem_range.mp hi
    simp; omega
  · have hbyte := (s.byte (bondKey e a + (64 * i + j))).isLt
    simp only [List.getElem_take, List.getElem_drop, List.getElem_map, List.getElem_range]
    rw [Nat.mod_eq_of_lt hbyte, bondKey_add, Nat.add_assoc]

section Burst

variable {s : State} {ch : Fin 2048} {r : StrRun} (hrun : (s.chan ch).run = some r) (hhand : r.hand = []) (hend : r.ending = none) (hhalt : (s.chan ch).halt = none)
  (hmem : r.arm.host = false) (hleft : r.fetched < r.arm.count)
include hrun hhand hend hhalt hmem hleft

/-- A burst of a run in bonded memory joins the run's descriptors in hand. -/
theorem State.burstDone_arrives (hin : s.inShare (s.chEasel ch) (r.arm.addr + 64 * r.fetched) (64 * r.burst) = true) (hpoi : s.poison = []) (hseq : s.seqOn (s.chEasel ch) = false)
    (harm : s.flag (s.stackOf (s.chEasel ch) ((r.arm.addr + 64 * r.fetched) / 64 * 64 / 65536)) F.FLT_INJSTAT_ARMED = false) (host : Blob) :
    let t := s.burstDone ch host false
    (t.chan ch).run = some { r with
      hand := cut64 r.burst ((s.readBytes (bondKey (s.chEasel ch) (r.arm.addr + 64 * r.fetched)) (64 * r.burst)).map (· % 256)), fetched := r.fetched + r.burst } ∧
    t.mem = s.mem ∧ t.str.finished = s.str.finished := by
  obtain ⟨u, hread, hkeep, humem, -, -⟩ := State.spRead_clean hin hpoi hseq harm (s.chanReader (s.chEasel ch) ch) 0 ((List.range (64 * r.burst)).map host.byte)
  have hburst : r.burst ≠ 0 := by unfold StrRun.burst; omega
  have hgo : ¬ (r.burst = 0 ∨ 4 < r.hand.length ∨ (s.chan ch).halt.isSome = true) := by simp [hburst, hhand, hhalt]
  intro t
  let v := u.setChan ch { u.chan ch with run := some { r with
      hand := r.hand ++ cut64 r.burst ((s.readBytes (bondKey (s.chEasel ch) (r.arm.addr + 64 * r.fetched)) (64 * r.burst)).map (· % 256)), fetched := r.fetched + r.burst } }
  have ht : t = if (v.chan ch).exec.isNone ∧ v.fld ch F.STR_CH_STATE_STATE = chFetch then v.makeReady ch else v := by
    unfold t State.burstDone
    dsimp only
    rw [hrun]
    dsimp only
    rw [if_neg hgo, hmem]
    simp only [Bool.false_eq_true, if_false, hread, Bool.and_false]
    rw [if_neg (by simp), if_neg (by rw [hend]; exact Bool.false_ne_true)]
  have hv : (v.chan ch).run = some { r with
      hand := cut64 r.burst ((s.readBytes (bondKey (s.chEasel ch) (r.arm.addr + 64 * r.fetched)) (64 * r.burst)).map (· % 256)), fetched := r.fetched + r.burst } := by
    rw [State.chan_setChan_same, hhand]; rfl
  have hvfin : v.str.finished = s.str.finished := Eq.trans (b := u.str.finished) rfl (congrArg StrSt.finished hkeep.str)
  rw [ht]
  split
  · obtain ⟨hready, hchan⟩ := ready_spec v ch
    exact ⟨by rw [hchan]; exact hv, hready.mem.trans humem, (State.finished_makeReady v ch).trans hvfin⟩
  · exact ⟨hv, humem, hvfin⟩

end Burst

/-! ### A stroke starts (R274, R276) -/

theorem State.beginDesc_running {s : State} {n : Nat} {x : StrExec} (h : (s.chan n).exec = some x) : s.beginDesc n = s := by
  unfold State.beginDesc; dsimp only; rw [h]

/-- A descriptor that passes its checks starts the stroke its bytes spell, up to END. -/
theorem State.strokeStart_passed {s : State} {n : Nat} {x : StrExec} {is : List SInstr} (hx : (s.chan n).exec = some x) (hst : x.started = false) (hcheck : s.descCheck (s.chEasel n) x = 0)
    (hwait : x.waitWord.testBit 11 = false) (hlib : x.lib = false)
    (hcut : upToEnd 32 (cutInstrs 32 (s.readBytes (bondKey (s.chEasel n) (256 * fieldLe x.desc 4 4)) 512)) = some is) (hok : strokeOk is = true)
    (hin : s.inShare (s.chEasel n) (256 * fieldLe x.desc 4 4) (16 * is.length) = true) (hpoi : s.poison = []) (hseq : s.seqOn (s.chEasel n) = false)
    (harm : s.flag (s.stackOf (s.chEasel n) (256 * fieldLe x.desc 4 4 / 64 * 64 / 65536)) F.FLT_INJSTAT_ARMED = false) :
    (s.strokeStart n none).chan n = { s.chan n with exec := some { x with stroke := is, started := true } } ∧ (s.strokeStart n none).mem = s.mem := by
  have hbytes : s.strokeBytes n (s.chEasel n) x = some (s.readBytes (bondKey (s.chEasel n) (256 * fieldLe x.desc 4 4)) 512) := by
    unfold State.strokeBytes
    rw [hlib]
    exact congrArg some (view_id _ _ _ _ hseq _)
  obtain ⟨hstatus, -, -, hmem, -, -⟩ := load_clean s (s.chEasel n) (256 * fieldLe x.desc 4 4) (16 * is.length) stPoison hin hpoi hseq harm
  have hkeep := load_keep s (s.chEasel n) (256 * fieldLe x.desc 4 4) (16 * is.length) stPoison hin hpoi harm
  have hpass : ¬ s.descCheck (s.chEasel n) x ≠ stOk := not_not.mpr hcheck
  let u := (s.bondLoad (s.chEasel n) (256 * fieldLe x.desc 4 4) (16 * is.length) stPoison none).st
  have hstart : s.strokeStart n none = (u.useTake (.channel n)).setExec n { x with stroke := is, started := true } := by
    unfold State.strokeStart
    dsimp only
    rw [State.beginDesc_running hx, hx]
    dsimp only
    rw [if_neg (by simp [hst]), if_neg hpass]
    simp only [hwait, hlib, hbytes, hcut, hin, hstatus, hok, Bool.false_and, Bool.false_eq_true, Bool.not_true, Bool.not_false, Bool.and_false, if_false, reduceCtorEq]
    rfl
  obtain ⟨hchan, -, -, hsmem, -⟩ := exec_spec (u.useTake (.channel n)) n { x with stroke := is, started := true }
  rw [hstart]
  exact ⟨by rw [hchan, show (u.useTake (.channel n)).chan n = s.chan n from State.chan_congr hkeep.str n], hsmem.trans hmem⟩

/-! ### The oldest ended descriptor completes (R283 to R285) -/

/-- A channel's oldest ended descriptor leaves it, and is counted. -/
def State.dropDone (s : State) (n : Nat) (d : StrDone) (ds : List StrDone) : State :=
  (({ s with yz := { s.yz with pruned := s.yz.pruned.filter (fun p => decide (¬ (p.1 = n ∧ p.2.1 = d.index))) } }).setChan n { s.chan n with drain := ds }).incWrap n F.STR_CH_DONE_COUNT 1

@[simp] theorem State.chan_dropDone (s : State) (n : Nat) (d : StrDone) (ds : List StrDone) : (s.dropDone n d ds).chan n = { s.chan n with drain := ds } := by
  unfold State.dropDone State.incWrap
  rw [State.chan_setFld, State.chan_setChan_same]

section Completion

variable {s : State} {n : Nat} {d : StrDone} {ds : List StrDone} {r : StrRun} (hdrain : (s.chan n).drain = d :: ds) (hrun : (s.chan n).run = some r)
include hdrain hrun

/-- A descriptor that ended with OK, without signal, record or step end, while others drain. -/
theorem State.completeDesc_plain (hhalt : (s.chan n).halt = none) (hpark : (s.chan n).parked = false) (hops : s.descOps n d.index = []) (hfail : (s.chan n).failed = [])
    (hok : d.status = 0) (hsig : (signalWord d.desc).testBit 11 = false) (hflags : fieldLe d.desc 2 2 = 0) (hmore : ds ≠ []) :
    s.completeDesc n = ((s.dropDone n d ds).passDesc (s.chEasel n) (r.base + d.index) (decide (d.index + 1 = r.arm.count)) false).judgeBoundary (s.chEasel n) := by
  let u := (s.dropDone n d ds).passDesc (s.chEasel n) (r.base + d.index) (decide (d.index + 1 = r.arm.count)) false
  have huchan : u.chan n = { s.chan n with drain := ds } := (State.chan_congr rfl n).trans (s.chan_dropDone n d ds)
  have hunpark : u.unpark n = u := by
    unfold State.unpark; rw [huchan]; exact if_neg (by rw [hpark]; exact Bool.false_ne_true)
  have hfinish : u.finishRun n = u := State.finishRun_draining (by rw [huchan]; exact hmore)
  have hbad : ({ r with bad := r.bad || decide (d.status ≠ stOk ∧ d.status ≠ stMissed) } : StrRun) = r := by simp [hok, stOk]
  have hpost : ∀ t : State, t.postDesc n r d = t := fun t => by unfold State.postDesc; simp [hflags, hok, stOk]
  have hsilent : ¬ (ranToEnd d.status = true ∧ (signalWord d.desc).testBit 11 = true) := by simp [hsig]
  unfold State.completeDesc
  dsimp only
  rw [hdrain, hrun]
  dsimp only
  rw [if_pos (by simp [hops, hfail, hhalt]), hbad, ← hrun, if_neg hsilent, hpost, hflags]
  change ((if (u.chOps n).isEmpty then u.unpark n else u).finishRun n).judgeBoundary (s.chEasel n) = _
  rw [hunpark, ite_self, hfinish]

end Completion

/-- The scoreboard after a descriptor of a run: the run's next one in its place, or none after the last (10 R333). -/
theorem State.live_passDesc (s : State) (e id : Nat) (last stepEnd : Bool) :
    (s.passDesc e id last stepEnd).live e = if last then (s.live e).filter (fun i => decide (i ≠ id)) else (s.live e).map (fun i => if i = id then id + 1 else i) :=
  SMap.get_set_same _ _ _ _

theorem State.live_passDesc_ne_nil {s : State} {e id : Nat} (h : ∃ i ∈ s.live e, i ≠ id) (last stepEnd : Bool) : (s.passDesc e id last stepEnd).live e ≠ [] := by
  obtain ⟨i, hi, hne⟩ := h
  rw [State.live_passDesc]
  split
  · exact List.ne_nil_of_mem (List.mem_filter.mpr ⟨hi, decide_eq_true hne⟩)
  · exact List.ne_nil_of_mem (List.mem_map_of_mem hi)

/-- What the completion of a descriptor leaves while another command of the easel is outstanding and no step end is marked. -/
theorem State.passDone_spec (s : State) (n e id : Nat) (d : StrDone) (ds : List StrDone) (last : Bool) (ho : ∃ i ∈ s.live e, i ≠ id) (hm : s.marksOf e = []) :
    let t := ((s.dropDone n d ds).passDesc e id last false).judgeBoundary e
    t.chan n = { s.chan n with drain := ds } ∧ t.str.finished = s.str.finished ∧ t.fld n F.STR_CH_DONE_COUNT = (s.fld n F.STR_CH_DONE_COUNT + 1) % 2 ^ 32 ∧
      t.live e = if last then (s.live e).filter (fun i => decide (i ≠ id)) else (s.live e).map (fun i => if i = id then id + 1 else i) := by
  have hbusy : ((s.dropDone n d ds).passDesc e id last false).live e ≠ [] := State.live_passDesc_ne_nil (s := s.dropDone n d ds) ho last false
  have hcount : (s.dropDone n d ds).fld n F.STR_CH_DONE_COUNT = (s.fld n F.STR_CH_DONE_COUNT + 1) % 2 ^ 32 := by
    unfold State.dropDone
    rw [fld_incWrap_same _ _ _ _ (by decide), setChan_fld _ _ _ _ _ (by decide) (by decide)]
    rfl
  intro t
  have ht : t = _ := State.judgeBoundary_busy hbusy hm
  rw [ht]
  exact ⟨(State.chan_congr rfl n).trans (s.chan_dropDone n d ds), rfl, hcount, State.live_passDesc (s.dropDone n d ds) e id last false⟩

/-- Settles O42: each command, where its channel is reached and the conditions hold, comes to its rule above. -/
theorem channelsAreArmedFedAndServed : Obligations.ChannelsAreArmedFedAndServed := by
  intro s req ch c e arm mine reach ctrl kept
  have harms : ctrl → mine → arm.count ≠ 0 → exec (.channelArm req) s = .next (s.armChan ch arm) := fun hctrl hmine hcount =>
    (exec_channelArm_at hctrl).trans (if_pos (Bool.and_eq_true_iff.mpr ⟨hmine, decide_eq_true hcount⟩))
  refine ⟨fun v hkept hctrl hsem hno hpf => ?closed, fun hctrl hmine hcount => ⟨fun hrun => ?idle, fun hrun hpend => ?latched, fun p hrun hpend => ?coalesced⟩,
    fun x st hctrl hmine hhalt hx hfail hsent => ⟨?resume, ?skip⟩, fun x r hkept hctrl hmine hrun hhand horigin hx => ?abort, fun v hsem hmine hfull hempty => ?semset,
    fun m hm hwait hroom => ?signal, fun m hm => ?nosignal, fun r host hkept hrun hhand hend hhalt hx hbond hleft hin hpoi hseq harm => ?burst, fun hpark hops => ?unpark,
    fun h => ?parked, fun th hnext hth hhalt hroom hfree hquota => ?thread, fun x is hth hx hst hcheck hwait hlib hcut hok hin hpoi hseq harm => ?stroke,
    fun d ds r hkept hhalt hpark hdrain hrun hops hfail hstat hsig hflags hmore ho hmarks => ?complete⟩
  case closed =>
    simp only [List.forall_mem_cons]
    refine ⟨?_, ?_, ?_, ?_, ?_, fun _ h => absurd h List.not_mem_nil⟩
    · rw [exec_channelArm_at hctrl, hno]; rfl
    · rw [exec_channelResume_at hctrl, hno]; rfl
    · rw [exec_channelSkip_at hctrl, hno]; rfl
    · rw [exec_channelAbort_at hctrl, State.abortChan_foreign hno hpf, State.consumeRuns_none hkept]
    · rw [exec_semaphoreSet_at hsem, hno]; rfl
  case idle =>
    obtain ⟨hbegun, hstate, -⟩ := s.startRun_spec ch arm false
    exact ⟨_, (harms hctrl hmine hcount).trans (congrArg _ (State.armChan_idle arm hrun)), hbegun, hstate⟩
  case latched =>
    exact ⟨_, (harms hctrl hmine hcount).trans (congrArg _ (State.armChan_latched arm hrun hpend)), State.chan_setChan_same _ _ _⟩
  case coalesced =>
    refine ⟨_, (harms hctrl hmine hcount).trans (congrArg _ (State.armChan_coalesced arm hrun hpend)), State.chan_setChan_same _ _ _, ?_⟩
    rw [State.fld_incSat_same _ _ _ _ (by decide), setChan_fld _ _ _ _ _ (by decide) (by decide)]
  case resume =>
    have hgo : (s.mayCommand req ch && (s.chan ch).halt.isSome) = true := by rw [show s.mayCommand req ch = true from hmine, show (s.chan ch).halt = some st from hhalt]; rfl
    have hact : exec (.channelResume req) s = .next (s.resume ch) := (exec_channelResume_at hctrl).trans (congrArg _ (if_pos hgo))
    exact ⟨_, hact, State.resume_spec hx hfail hsent⟩
  case skip =>
    have hgo : (s.mayCommand req ch && (s.chan ch).halt.isSome) = true := by rw [show s.mayCommand req ch = true from hmine, show (s.chan ch).halt = some st from hhalt]; rfl
    have hact : exec (.channelSkip req) s = .next ((s.setChan ch (c.skip ch)).resume ch) := (exec_channelSkip_at hctrl).trans (if_pos hgo)
    have hskip : c.skip ch = { c with exec := some x.skip } := (if_pos (by rw [hfail]; rfl)).trans (by rw [hx]; rfl)
    have hu : (s.setChan ch (c.skip ch)).chan ch = { c with exec := some x.skip } := (State.chan_setChan_same _ _ _).trans hskip
    obtain ⟨hchan, hready⟩ := State.resume_spec (s := s.setChan ch (c.skip ch)) (n := ch) (x := x.skip) (by rw [hu]) (by rw [hu]; exact hfail) hsent
    exact ⟨_, hact, hchan.trans (by rw [hu]), hready⟩
  case abort =>
    obtain ⟨-, hchan, -⟩ := end_spec s ch (c.halt.getD stAborted) x.pc x r hx hrun hhand
    have hpc : (c.exec.elim 0xFF (·.pc)) = x.pc := by rw [hx]; rfl
    have habort : s.abortChan req ch = s.endRun ch (c.halt.getD stAborted) x.pc := by
      rw [State.abortChan_running hmine hrun horigin, hpc]
      exact State.closeRun_draining (by rw [hchan]; simp)
    have hact : exec (.channelAbort req) s = .next (s.endRun ch (c.halt.getD stAborted) x.pc) := by
      refine (exec_channelAbort_at hctrl).trans (congrArg _ ?_)
      rw [habort, State.consumeRuns_none ((State.finished_endRun _ _ _ _).trans hkept)]
    exact ⟨_, hact, by rw [hchan], by rw [hchan], by rw [hchan]; rfl, by rw [hchan]; rfl⟩
  case semset =>
    let u := (s.setFld ch F.STR_CH_SEM_FULL (v.toNat % 65536)).setFld ch F.STR_CH_SEM_EMPTY (v.toNat / 65536)
    have hact : exec (.semaphoreSet req v) s = .next ((u.serveSem (2 * ch)).serveSem (2 * ch + 1)) := (exec_semaphoreSet_at hsem v).trans (if_pos hmine)
    have hserved : (u.serveSem (2 * ch)).serveSem (2 * ch + 1) = (u.setWaiters (2 * ch) []).setWaiters (2 * ch + 1) [] := by
      rw [State.serveSem_none (s := u) hfull]
      exact State.serveSem_none ((SMap.get_set_ne _ _ _ (by omega)).trans hempty)
    refine ⟨_, hact, ?_, ?_⟩
    · rw [hserved, State.semCount_setWaiters, State.semCount_setWaiters, State.semCount_full, State.fld_setFld_apart _ _ _ _ _ _ (by decide) (by decide) (by decide),
        State.fld_setFld_same _ _ _ _ (by decide)]
      exact Nat.mod_mod _ _
    · rw [hserved, State.semCount_setWaiters, State.semCount_setWaiters, State.semCount_empty, State.fld_setFld_same _ _ _ _ (by decide)]
      exact Nat.mod_eq_of_lt (Nat.div_lt_of_lt_mul v.isLt)
  case signal =>
    let u : State := { s with sched := { s.sched with signals := s.sched.signals.erase m.toNat } }
    have hact : exec (.semaphoreSignalArrival m) s = .next (u.landSignal m.toNat) := if_pos (List.contains_iff_mem.mpr hm)
    refine ⟨_, hact.trans (congrArg _ (State.landSignal_free (s := u) hwait hroom)), ?_, rfl⟩
    rw [State.semCount_setWaiters]
    exact State.semCount_setSem_same u m.toNat (Nat.succ_lt_succ hroom)
  case nosignal => exact if_neg (fun h => hm (List.contains_iff_mem.mp h))
  case burst =>
    obtain ⟨hnow, hmem, hfin⟩ := State.burstDone_arrives hrun hhand hend hhalt hbond hleft hin hpoi hseq harm host
    have hact : exec (.descriptorFetchDone ch host false) s = .next (s.burstDone ch host false) := congrArg _ (State.consumeRuns_none (hfin.trans hkept))
    exact ⟨_, _, hact, hnow, s.cut64_readBytes _ _ _, hmem⟩
  case unpark =>
    have hdue : ((s.chan ch).parked && (s.chOps ch).isEmpty) = true := by rw [hpark, hops]; rfl
    have hact : exec (.parkedWaitDone ch) s = .next (if (s.chan ch).exec.isSome then (s.unpark ch).makeReady ch else s.unpark ch) := congrArg _ (if_pos hdue)
    refine ⟨_, hact, ?_, fun hne => ?_⟩
    · split
      · exact ((ready_spec _ _).2 ch).trans (s.unpark_spec ch)
      · exact s.unpark_spec ch
    · rw [if_pos (Option.isSome_iff_ne_none.mpr hne)]
      exact State.mem_ready_makeReady _ _
  case parked =>
    refine congrArg _ (if_neg ?_)
    rcases h with hpark | hops
    · rw [hpark]; exact Bool.false_ne_true
    · simp [hops]
  case thread => exact ⟨_, exec_threadTake_free hnext hth hhalt hroom hfree hquota, s.takeThread_spec ch th.isLt⟩
  case stroke =>
    have hact : exec (.strokeStart ch none) s = .next (s.strokeStart ch none) := congrArg _ (if_pos (Option.isSome_iff_ne_none.mpr hth))
    have hbytes : s.readBytes (bondKey e (256 * fieldLe x.desc 4 4)) 512 = (List.range 512).map (fun i => (s.byte (bondKey e (256 * fieldLe x.desc 4 4 + i))).toNat) :=
      (s.readBytes_eq_map _ _).trans (List.map_congr_left fun i _ => by rw [bondKey_add])
    exact ⟨_, hact, State.strokeStart_passed hx hst hcheck hwait hlib (hbytes ▸ hcut) hok hin hpoi hseq harm⟩
  case complete =>
    obtain ⟨hchan, hfin, hcount, hlive⟩ := s.passDone_spec ch e (r.base + d.index) d ds (decide (d.index + 1 = r.arm.count)) ho hmarks
    have hact : exec (.descriptorComplete ch) s = .next (s.completeDesc ch).consumeRuns := rfl
    rw [State.completeDesc_plain hdrain hrun hhalt hpark hops hfail hstat hsig hflags hmore, State.consumeRuns_none (hfin.trans hkept)] at hact
    exact ⟨_, hact, hchan, hcount, hlive.trans (by simp only [decide_eq_true_eq])⟩

end Sys2Proof.Machine

/-! SUPPORT. MOVE (09 R275, R280 to R283, R299, R300, R305): what a MOVE of one request reads and writes, its waits on Palette queues, and the statement about them. -/
namespace Sys2Proof.Machine

open Sys2Proof Sys2Proof.Laws

/-! ### Stores to bonded memory -/

/-- A store within the share changes memory, its marks and a few registers alone. -/
theorem State.bondStore_keeps {s : State} {e a : Nat} {bs : List Nat} (h : s.inShare e a bs.length = true) : LKeep s (s.bondStore e a bs).st := by
  have hraw : LKeep s ((s.storeRaw (bondKey e a) bs).setUsedRange (bondKey e 0) 65536 a bs.length) := by
    rw [State.setUsedRange_rest, State.storeRaw, State.writeBytes_rest]
    exact ⟨rfl, rfl, rfl, rfl, rfl, rfl, rfl, rfl, fun _ _ _ _ => rfl⟩
  unfold State.bondStore
  rw [if_pos h]
  exact ((hraw.trans (lk_open _ _ _ _)).trans (lk_stack _ _ _ _ _ (by decide) (by decide))).trans (lk_fld _ _ F.MEM_EAS_WATERMARK_UNITS _ (by decide) (by decide))

theorem State.layPoison_unmarked (s : State) (k : Nat) {bs : List Nat} (h : ∀ b ∈ bs, b < 256) : s.layPoison k bs = s := by
  have hnone : bs.zipIdx.filter (fun p => decide (256 ≤ p.1)) = [] :=
    List.filter_eq_nil_iff.mpr fun p hp => by simpa using h p.1 (List.fst_mem_of_mem_zipIdx hp)
  unfold State.layPoison; rw [hnone]; rfl

theorem map_mod_of_lt {bs : List Nat} (h : ∀ b ∈ bs, b < 256) : bs.map (· % 256) = bs :=
  (List.map_congr_left fun b hb => Nat.mod_eq_of_lt (h b hb)).trans (List.map_id' bs)

/-- A write of unmarked bytes to bonded memory where no page list lies. -/
theorem State.spWrite_bonded {s : State} {e target a len : Nat} {bs : List Nat} (hin : s.inShare e a bs.length = true) (hseq : s.seqOn e = false) (hbs : ∀ b ∈ bs, b < 256) :
    s.spWrite e ⟨spBonded, target, a, len⟩ bs = ⟨stOk, [], (s.bondStore e a bs).st⟩ := by
  have hlist : s.hitsPageList e a bs.length = false := by unfold State.hitsPageList; rw [hseq]; rfl
  change (if s.inShare e a bs.length && !s.hitsPageList e a bs.length then _ else _) = _
  rw [hin, hlist, map_mod_of_lt hbs]
  exact congrArg (SpResp.mk stOk []) (State.layPoison_unmarked _ _ hbs)

/-! ### A nest of one point (R280, R281) -/

/-- A MOVE at its start whose nest has one point, ungathered and unwrapped, and whose run is one request outside the fabric. -/
structure StrExec.OneRequest (x : StrExec) : Prop where
  fresh : x.reqs = 0
  points : x.points = 1
  srcPlain : x.src.gather = none ∧ x.src.wrap = 0
  dstPlain : x.dst.gather = none ∧ x.dst.wrap = 0
  least : 4 ≤ x.run
  most : x.run ≤ 256
  srcLocal : x.srcSpace ≠ spFabric
  dstLocal : x.dstSpace ≠ spFabric

/-- The address of a side's first byte: its base and cursor, modulo 2^64 (R280). -/
def sideAddr (base : Nat) (sd : Side) : Nat := (((base : Int) + sd.cur) % 2 ^ 64).toNat

/-- No index: an offset of zero. -/
def IdxVal.zero : IdxVal := ⟨false, false, 0⟩

/-- The one request of such a MOVE. -/
def StrExec.wholeRun (x : StrExec) : MvReq := ⟨x.run, 0, x.run, x.src.cur, sideAddr x.srcBase x.src, sideAddr x.dstBase x.dst, 2 ^ 17⟩

theorem Side.offset_first {sd : Side} (h : sd.gather = none) (counts : List Nat) (gv : Int) : sd.offset counts 0 gv = sd.cur := by
  unfold Side.offset
  simp only [h, digitAt, Nat.zero_div, Nat.zero_mod, Nat.cast_zero, zero_mul, add_zero]
  rfl

theorem Side.addr_first {sd : Side} (h : sd.wrap = 0) (base : Nat) : sd.addr base sd.cur 0 = sideAddr base sd := by
  unfold Side.addr
  simp only [h, if_true, Nat.cast_zero, add_zero]
  rfl

theorem Side.room_unwrapped {sd : Side} (h : sd.wrap = 0) (off : Int) (o : Nat) : sd.room off o = 65536 := if_pos h

namespace StrExec.OneRequest

variable {x : StrExec} (h : x.OneRequest)
include h

theorem moveCheck {zero : Bool} (hsrc : zero = true ∨ x.srcSpace ≠ spNone) : x.moveCheck zero = stOk := by
  have hspace : ¬ (x.srcSpace = spNone ∧ (!zero) = true) := fun ⟨h0, hz⟩ => hsrc.elim (fun ht => by rw [ht] at hz; exact Bool.false_ne_true hz) (fun hn => hn h0)
  have hleast := h.least
  unfold StrExec.moveCheck
  rw [if_neg hspace, if_neg (by simp [h.srcPlain.2, h.dstPlain.2]; omega), if_neg (fun hf => h.dstLocal hf.1)]

theorem moveAt : moveAt x 0 0 .zero .zero = x.wholeRun := by
  have hleast := h.least
  have hmost := h.most
  have hlen : x.reqLen x.src.cur x.dst.cur 0 = x.run := by
    unfold StrExec.reqLen
    simp only [if_neg h.srcLocal, h.dstLocal, decide_false, Bool.false_and, Bool.false_eq_true, if_false, Side.room_unwrapped h.srcPlain.2, Side.room_unwrapped h.dstPlain.2]
    omega
  unfold Machine.moveAt
  simp only [Side.offset_first h.srcPlain.1, Side.offset_first h.dstPlain.1, hlen, h.dstLocal, decide_false, Bool.false_and, Bool.false_eq_true, if_false, Side.addr_first h.srcPlain.2,
    Side.addr_first h.dstPlain.2, Nat.max_eq_right hleast, Nat.zero_add, Nat.lt_irrefl]
  rfl

/-- Its first request needs no index. -/
theorem moveReq (s : State) (n e : Nat) (zero : Bool) (host idx : Blob) (hf : Option Nat) :
    moveReq n e x zero host idx hf [] ⟨s, x.reqs, 0, 0, 0, false, none⟩ = moveGo n e x zero host hf none ⟨s, x.reqs, 0, 0, 0, false, none⟩ x.wholeRun .zero .zero s := by
  have hidx : ∀ (sd : Side) (k : Nat) (b : Bool), sd.gather = none → s.readIdx n e x sd k b idx = (⟨stOk, [], s⟩, .zero) := fun sd k b hg => by unfold State.readIdx; rw [hg]; rfl
  unfold Machine.moveReq
  simp only [h.fresh, Nat.zero_div, Nat.zero_mod, hidx _ _ _ h.srcPlain.1, hidx _ _ _ h.dstPlain.1, ne_eq, not_true_eq_false, false_and, if_false, h.moveAt]
  rfl

/-- The MOVE is over with its one request, which either stops it or ends its run. -/
theorem moveLoop {s : State} {n e : Nat} {zero : Bool} {host idx : Blob} {hf : Option Nat} {m : Mv}
    (hm : moveGo n e x zero host hf none ⟨s, x.reqs, 0, 0, 0, false, none⟩ x.wholeRun .zero .zero s = m) (hend : m.stop.isSome ∨ m.prog = 2 ^ 17) :
    moveLoop n e x zero host idx hf [] (x.points * (x.run / 4 + 1)) ⟨s, x.reqs, 0, 0, 0, false, none⟩ = m := by
  obtain ⟨f, hfuel⟩ : ∃ f, x.points * (x.run / 4 + 1) = f + 1 + 1 := ⟨x.run / 4 - 1, by have := h.least; rw [h.points]; omega⟩
  have hover : m.stop.isSome ∨ x.points ≤ m.prog / 2 ^ 17 := hend.imp_right fun hp => by rw [hp, h.points]; decide
  have hbegin : ¬ ((none : Option MvStop).isSome = true ∨ x.points ≤ x.reqs / 2 ^ 17) := by rw [h.points, h.fresh]; decide
  rw [hfuel, Machine.moveLoop, if_neg hbegin, if_neg (fun hfab => hfab.1.elim h.srcLocal h.dstLocal), h.moveReq, hm, Machine.moveLoop, if_pos hover]

end StrExec.OneRequest

theorem State.inShare_keep {s t : State} (h : LKeep s t) (e a n : Nat) : t.inShare e a n = s.inShare e a n := by
  unfold State.inShare; rw [h.fld _ _ (by decide) (by decide), h.fld _ _ (by decide) (by decide)]

/-! ### The request's bytes (R280, R281) -/

/-- What a one-request MOVE stands at once its bytes are in bonded memory. -/
def StrExec.written (x : StrExec) (e : Nat) (bs : List Nat) (t : State) : Mv :=
  ⟨(t.bondStore e (sideAddr x.dstBase x.dst) bs).st, 2 ^ 17, x.run, 0, 1, false, none⟩

section Request

variable {x : StrExec} {s t : State} {n e : Nat} {bs : List Nat}

/-- Unmarked bytes are written where bonded memory holds them, and nothing is taken from a queue. -/
theorem StrExec.movePut_bonded {isZero : Bool} (hk : LKeep s t) (hoff : t.seqOn e = false) (hdst : x.dstSpace = spBonded) (hpal : isZero = true ∨ x.srcSpace ≠ spPalette)
    (hin : s.inShare e (sideAddr x.dstBase x.dst) x.run = true) (hlen : bs.length = x.run) (hlt : ∀ b ∈ bs, b < 256) :
    movePut n e x ⟨s, x.reqs, 0, 0, 0, false, none⟩ x.wholeRun isZero .zero .zero ⟨stOk, bs, t, false, false, 0⟩ = x.written e bs t := by
  have hwrite := State.spWrite_bonded (target := x.dstTarget) (len := bs.length) (State.inShare_keep hk e _ _ ▸ hlen ▸ hin) hoff hlt
  have hput : ∀ soff so sa, t.moveDst n e x soff so sa (sideAddr x.dstBase x.dst) bs false = ⟨stOk, (t.bondStore e (sideAddr x.dstBase x.dst) bs).st, false⟩ := fun soff so sa => by
    have hpalette : ¬ spBonded = spPalette := by decide
    have hfabric : ¬ spBonded = spFabric := by decide
    unfold State.moveDst State.deletedFlow
    simp only [hdst, hpalette, hfabric, false_and, decide_false, Bool.false_and, Bool.false_eq_true, if_false, hwrite]
  have htake : ¬ (x.srcSpace = spPalette ∧ (!isZero) = true) := fun ⟨hs, hz⟩ => hpal.elim (fun ht => by rw [ht] at hz; exact Bool.false_ne_true hz) (fun hn => hn hs)
  have hclean : bs.any (fun b => decide (256 ≤ b ∧ b < 512)) = false := List.any_eq_false.mpr fun b hb => by have := hlt b hb; simp; omega
  unfold movePut
  simp only [IdxVal.zero, StrExec.wholeRun, Bool.or_self, Bool.and_false, Bool.false_eq_true, if_false, poisonIf, hput, if_neg htake, hclean, ne_eq, not_true_eq_false, Nat.zero_add]
  rfl

/-- The bytes such a MOVE writes: zeros, or those at its source (R280). -/
def StrExec.fetched (x : StrExec) (s : State) (e : Nat) (zero : Bool) : List Nat :=
  if zero then List.replicate x.run 0 else s.readBytes (bondKey e (sideAddr x.srcBase x.src)) x.run

theorem StrExec.fetched_length (x : StrExec) (s : State) (e : Nat) (zero : Bool) : (x.fetched s e zero).length = x.run := by
  cases zero
  · exact (congrArg List.length (s.readBytes_eq_map _ _)).trans (by simp)
  · exact List.length_replicate

theorem StrExec.fetched_getElem {x : StrExec} {s : State} {e j : Nat} {zero : Bool} (hj : j < (x.fetched s e zero).length) :
    (x.fetched s e zero)[j] = if zero then 0 else (s.byte (bondKey e (sideAddr x.srcBase x.src + j))).toNat := by
  cases zero <;> simp [StrExec.fetched, State.readBytes_eq_map, bondKey_add]

theorem StrExec.fetched_byte {x : StrExec} {s : State} {e j : Nat} {zero : Bool} (hj : j < (x.fetched s e zero).length) :
    BitVec.ofNat 8 (x.fetched s e zero)[j] = if zero then 0 else s.byte (bondKey e (sideAddr x.srcBase x.src + j)) := by
  rw [StrExec.fetched_getElem hj]
  split
  · rfl
  · rw [BitVec.ofNat_toNat, BitVec.setWidth_eq]

theorem StrExec.fetched_lt {x : StrExec} {s : State} {e : Nat} {zero : Bool} : ∀ b ∈ x.fetched s e zero, b < 256 := by
  intro b hb
  obtain ⟨j, hj, rfl⟩ := List.getElem_of_mem hb
  rw [StrExec.fetched_getElem hj]
  split
  · decide
  · exact (s.byte _).isLt

/-- The source of a one-request MOVE whose bytes are at hand: none where it writes zeros, else a clean range of the easel's bonded memory. -/
def StrExec.SourceAtHand (x : StrExec) (s : State) (e : Nat) (zero : Bool) : Prop :=
  zero = true ∨ zero = false ∧ x.srcSpace = spBonded ∧ sideAddr x.srcBase x.src % 4 = 0 ∧ s.inShare e (sideAddr x.srcBase x.src) x.run = true ∧
    s.flag (s.stackOf e (sideAddr x.srcBase x.src / 64 * 64 / 65536)) F.FLT_INJSTAT_ARMED = false

/-- The request of a MOVE to bonded memory is served at once. -/
theorem StrExec.moveGo_bonded {zero : Bool} {host : Blob} {hf : Option Nat} (hsrc : x.SourceAtHand s e zero) (hpoi : s.poison = []) (hseq : s.seqOn e = false) (hdst : x.dstSpace = spBonded)
    (hda : sideAddr x.dstBase x.dst % 4 = 0) (hin : s.inShare e (sideAddr x.dstBase x.dst) x.run = true) :
    ∃ t, LKeep s t ∧ t.mem = s.mem ∧
      moveGo n e x zero host hf none ⟨s, x.reqs, 0, 0, 0, false, none⟩ x.wholeRun .zero .zero s = x.written e (x.fetched s e zero) t := by
  have hpalette : ¬ spBonded = spPalette := by decide
  have hfabric : ¬ spBonded = spFabric := by decide
  have hput := fun t (hk : LKeep s t) hoff hpal => StrExec.movePut_bonded (n := n) (isZero := zero) hk hoff hdst hpal hin (x.fetched_length s e zero) StrExec.fetched_lt
  rcases hsrc with rfl | ⟨rfl, hspace, hsa, hsin, harm⟩
  · refine ⟨s, LKeep.refl s, rfl, Eq.trans ?_ (hput s (LKeep.refl s) hseq (.inl rfl))⟩
    unfold moveGo
    simp [StrExec.wholeRun, IdxVal.zero, hdst, hda, hfabric, StrExec.fetched, stOk]
  · obtain ⟨t, hread, hk, hmem, -, hoff⟩ := State.spRead_clean hsin hpoi hseq harm (s.chanReader e n) x.srcTarget ((List.range x.run).map (fun j => host.byte (0 + j)))
    refine ⟨t, hk, hmem, Eq.trans ?_ (hput t hk hoff (.inr (hspace ▸ hpalette)))⟩
    have hfetch : s.moveSrc n e x (sideAddr x.srcBase x.src) x.run ⟨s, x.reqs, 0, 0, 0, false, none⟩ host hf none = ⟨stOk, x.fetched s e false, t, false, false, 0⟩ := by
      unfold State.moveSrc
      simp only [hspace, hpalette, hfabric, hread, if_false]
      rfl
    unfold moveGo
    simp [StrExec.wholeRun, IdxVal.zero, hdst, hda, hspace, hsa, hpalette, hfabric, hfetch]

end Request

/-! ### The MOVE as a whole (R280, R299, R305) -/

theorem State.flush_count {s t : State} (hyz : t.yz = s.yz) (hsent : ∀ o ∈ s.yz.ops, o.sent = true) (n b : Nat) : (t.countChBytes n b).yzFlush = t.countChBytes n b :=
  flush_sent _ (hyz ▸ hsent : ∀ o ∈ t.yz.ops, o.sent = true)

/-- The descriptor in execution after a one-request MOVE. -/
def StrExec.movedOne (x : StrExec) : StrExec := { x with pc := x.pc + 1, bytes := (x.bytes + x.run) % 2 ^ 32, moving := false }

section Whole

variable {x : StrExec} {s t : State} {n : Nat} {i : SInstr} {host idx : Blob} {hf : Option Nat}

theorem State.runMove_written (h : x.OneRequest) {bs : List Nat} (hsrc : decide (i.a = 1) = true ∨ x.srcSpace ≠ spNone) (hsent : ∀ o ∈ s.yz.ops, o.sent = true)
    (hk : LKeep s (t.bondStore (s.chEasel n) (sideAddr x.dstBase x.dst) bs).st)
    (hgo : moveGo n (s.chEasel n) x (decide (i.a = 1)) host hf none ⟨s, x.reqs, 0, 0, 0, false, none⟩ x.wholeRun .zero .zero s = x.written (s.chEasel n) bs t) :
    s.runMove n x i host idx hf [] = ((t.bondStore (s.chEasel n) (sideAddr x.dstBase x.dst) bs).st.countChBytes n x.run).setExec n x.movedOne := by
  have hexec : { x with pc := x.pc + 1, reqs := 0, bytes := (x.bytes + x.run) % 2 ^ 32, moving := false } = x.movedOne := by unfold StrExec.movedOne; rw [h.fresh]
  unfold State.runMove
  simp only [h.moveCheck hsrc, h.moveLoop hgo (.inr rfl), StrExec.written, ne_eq, not_true_eq_false, if_false, State.flush_count hk.yz hsent, Bool.false_eq_true]
  exact congrArg _ hexec

/-- A MOVE whose Palette queue holds too few bytes does not begin. -/
theorem State.runMove_waits (h : x.OneRequest) (hzero : i.a ≠ 1) (hsrc : x.srcSpace = spPalette) (hda : sideAddr x.dstBase x.dst % 4 = 0)
    (hfew : (s.palQ x.srcTarget).readable < x.run) (hsent : ∀ o ∈ s.yz.ops, o.sent = true) :
    s.runMove n x i host idx hf [] =
      (((s.countChBytes n 0).setExec n { x with bytes := x.bytes % 2 ^ 32, moving := x.moving || !s.palBusy n x.srcTarget }).chState n chWaitPal).dropThread n := by
  have hz : decide (i.a = 1) = false := decide_eq_false hzero
  have hfabric : ¬ x.dstSpace = 5 := h.dstLocal
  have hgo : moveGo n (s.chEasel n) x (decide (i.a = 1)) host hf none ⟨s, x.reqs, 0, 0, 0, false, none⟩ x.wholeRun .zero .zero s = ⟨s, x.reqs, 0, 0, 0, false, some .palette⟩ := by
    have hwait : s.moveSrc n (s.chEasel n) x (sideAddr x.srcBase x.src) x.run ⟨s, x.reqs, 0, 0, 0, false, none⟩ host hf none = ⟨stOk, [], s, true, false, 0⟩ := by
      unfold State.moveSrc
      simp [hsrc, hfew]
    unfold moveGo
    simp [StrExec.wholeRun, IdxVal.zero, hz, hsrc, hda, hfabric, hwait, spPalette, spFabric]
  unfold State.runMove
  simp only [h.moveCheck (.inr (hsrc ▸ by decide)), h.moveLoop hgo (.inl rfl), ne_eq, not_true_eq_false, if_false, State.flush_count rfl hsent, Bool.false_eq_true, Nat.add_zero]

end Whole

/-- A store of a run changes its bytes alone, and the channel goes on with the byte count shown (R280, R305). -/
theorem State.countStored_spec {s t : State} {e da len : Nat} {bs : List Nat} (hk : LKeep s t) (hmem : t.mem = s.mem) (hlen : bs.length = len) (hin : s.inShare e da len = true) (n : Nat)
    (y : StrExec) :
    let u := ((t.bondStore e da bs).st.countChBytes n len).setExec n y
    u.chan n = { s.chan n with exec := some y } ∧ (∀ j (hj : j < bs.length), u.byte (bondKey e (da + j)) = BitVec.ofNat 8 bs[j]) ∧
      (∀ k, k < bondKey e da ∨ bondKey e (da + len) ≤ k → u.byte k = s.byte k) ∧
      u.fld64 n F.STR_CH_BYTES_LO_BYTES F.STR_CH_BYTES_HI_BYTES = (s.fld64 n F.STR_CH_BYTES_LO_BYTES F.STR_CH_BYTES_HI_BYTES + len) % 2 ^ 64 := by
  subst hlen
  intro u
  have hint : t.inShare e da bs.length = true := (State.inShare_keep hk _ _ _).trans hin
  have hkeep : LKeep s (t.bondStore e da bs).st := hk.trans (State.bondStore_keeps hint)
  have humem : u.mem = (t.writeBytes (bondKey e da) bs).mem := (store_mem t e da bs hint).1
  have hbyte : ∀ k, u.byte k = (t.writeBytes (bondKey e da) bs).byte k := fun k => by unfold State.byte; rw [humem]
  have hfld : ∀ g : Fld, g.inWord = true → g.off ≠ F.STR_CH_STATE_PEND.off → u.fld n g = ((t.bondStore e da bs).st.countChBytes n bs.length).fld n g := fun g hg h => setChan_fld _ _ _ _ _ hg h
  refine ⟨?chan, fun j hj => ?inside, fun k hk => ?outside, ?count⟩
  case chan => rw [(exec_spec _ n y).1]; exact congrArg (fun c : Chan => { c with exec := some y }) (State.chan_congr hkeep.str n)
  case inside => rw [hbyte, ← bondKey_add, State.byte_writeBytes_in _ _ _ _ hj]
  case outside =>
    rw [hbyte, State.byte_writeBytes_out _ _ _ _ (by rw [bondKey_add]; exact hk)]
    unfold State.byte; rw [hmem]
  case count =>
    have hsum : ((t.bondStore e da bs).st.countChBytes n bs.length).fld64 n F.STR_CH_BYTES_LO_BYTES F.STR_CH_BYTES_HI_BYTES =
        (s.fld64 n F.STR_CH_BYTES_LO_BYTES F.STR_CH_BYTES_HI_BYTES + bs.length) % 2 ^ 64 := by
      refine (fld64_setFld64 _ _ _ _ _ (by decide) (by decide) (by decide) rfl rfl).trans ?_
      unfold State.fld64
      rw [hkeep.fld _ _ (by decide) (by decide), hkeep.fld _ _ (by decide) (by decide)]
    rw [← hsum]
    unfold State.fld64
    rw [hfld _ (by decide) (by decide), hfld _ (by decide) (by decide)]

/-- A channel that gives up its thread still shows what it was doing (R271). -/
theorem State.dropThread_state (s : State) (n : Nat) : (s.dropThread n).fld n F.STR_CH_STATE_STATE = s.fld n F.STR_CH_STATE_STATE := by
  unfold State.dropThread
  dsimp only
  split
  · rfl
  · rw [State.fld_setThreads _ _ _ _ (by decide), State.fld_setFld_apart _ _ _ _ _ _ (by decide) (by decide) (by decide)]
    unfold State.setChan
    dsimp only
    rw [State.fld_setFld_apart _ _ _ _ _ _ (by decide) (by decide) (by decide), State.fld_setFld_apart _ _ _ _ _ _ (by decide) (by decide) (by decide),
      State.fld_setFlag_apart _ _ _ _ _ _ (by decide) (by decide) (by decide)]
    rfl

/-- A channel that waits with `y` for a Palette queue. -/
theorem State.waitsPalette_spec (s : State) (n : Nat) (y : StrExec) :
    let u := (((s.countChBytes n 0).setExec n y).chState n chWaitPal).dropThread n
    u.mem = s.mem ∧ u.chan n = { s.chan n with exec := some y, thread := none } ∧ u.fld n F.STR_CH_STATE_STATE = chWaitPal := by
  obtain ⟨hkeep, hchan, -⟩ := drop_spec (((s.countChBytes n 0).setExec n y).chState n chWaitPal) n
  refine ⟨hkeep.mem.trans rfl, hchan.trans ?_, (State.dropThread_state _ _).trans (State.fld_setFld_same _ _ _ _ (by decide))⟩
  rw [State.chan_chState, (exec_spec (s.countChBytes n 0) n y).1]
  rfl

/-- Settles O43: the one request of such a MOVE is served, or waits, or does not begin. -/
theorem movesCopyZeroAndWait : Obligations.MovesCopyZeroAndWait := by
  intro s ch host idx hf e mv
  have hop : exec mv s = .next (s.runInstr ch 5 (fun t x i => t.runMove ch x i host idx hf [])) := rfl
  refine ⟨fun hth => ?idle, fun th x i hth hx hst hi hne => ?other, fun th x i hth hx hst hi h5 hfresh hpoints hsg hdg hsw hdw hsent => ?move, fun x hx hwait => ?resume, fun hne => ?still⟩
  case idle => rw [hop, State.runInstr_noThread hth]
  case other =>
    have h : s.StandsAt ch x i := ⟨⟨th, hth⟩, hx, hst, hi⟩
    rw [hop, h.runInstr, if_neg hne]
  case move =>
    intro sa da fails
    have h : s.StandsAt ch x i := ⟨⟨th, hth⟩, hx, hst, hi⟩
    have hact : exec mv s = .next (s.runMove ch x i host idx hf []) := h.acts (ins := mv) hop h5
    have hfail : ∀ st, x.moveCheck (decide (i.a = 1)) = st → st ≠ stOk → haltsPatient st = false → st < 64 → fails st := by
      intro st hcheck hne hp hlt r hrun hhand
      have herr : exec mv s = .next (s.chanError ch st x.pc 0) := hact.trans (congrArg _ (by unfold State.runMove; simp only [hcheck, if_pos hne]))
      obtain ⟨t, ht, hstatus, -, hmem, hexec, hdrain, -⟩ := State.failsWith_of_chanError herr hx hp hlt r hrun hhand
      exact ⟨t, ht, hmem, hstatus, hexec, hdrain⟩
    refine ⟨fun hleast hmost hdst hda hin hpoi hseq hsrc => ?served, fun hs ha => ?space, fun hs hrun => ?shape, fun hleast hmost hs ha hdst hda hfew => ?waits⟩
    case served =>
      have hlocal : x.srcSpace ≠ spFabric := by
        rcases hsrc with ⟨-, hne⟩ | ⟨-, hs, -⟩
        · exact hne
        · rw [hs]; decide
      have h1 : x.OneRequest := ⟨hfresh, hpoints, ⟨hsg, hsw⟩, ⟨hdg, hdw⟩, hleast, hmost, hlocal, hdst ▸ by decide⟩
      have hhand : x.SourceAtHand s e (decide (i.a = 1)) := hsrc.imp (fun hz => decide_eq_true hz.1) (fun hc => ⟨decide_eq_false hc.1, hc.2⟩)
      have hcheck : decide (i.a = 1) = true ∨ x.srcSpace ≠ spNone := hhand.imp_right fun ⟨_, hs, _⟩ => by rw [hs]; decide
      obtain ⟨t, hk, hmem, hgo⟩ := StrExec.moveGo_bonded (n := ch) (host := host) (hf := hf) hhand hpoi hseq hdst hda hin
      have hlen := x.fetched_length s e (decide (i.a = 1))
      have hstore := State.bondStore_keeps ((State.inShare_keep hk _ _ _).trans (hlen.symm ▸ hin))
      obtain ⟨hchan, hinside, houtside, hcount⟩ := State.countStored_spec hk hmem hlen hin ch x.movedOne
      refine ⟨_, hact.trans (congrArg _ (State.runMove_written h1 hcheck hsent (hk.trans hstore) hgo)), hchan, fun j hj => ?_, houtside, hcount⟩
      refine (hinside j (hlen.symm ▸ hj)).trans ((StrExec.fetched_byte _).trans ?_)
      simp only [decide_eq_true_eq]
      rfl
    case space => exact hfail 0x30 (if_pos ⟨hs, by simp [ha]⟩) (by decide) (by decide) (by decide)
    case shape => exact hfail 0x12 (Eq.trans (if_neg fun h0 => hs h0.1) (if_pos (.inl hrun))) (by decide) (by decide) (by decide)
    case waits =>
      have h1 : x.OneRequest := ⟨hfresh, hpoints, ⟨hsg, hsw⟩, ⟨hdg, hdw⟩, hleast, hmost, hs ▸ by decide, by rcases hdst with hd | hd | hd <;> rw [hd] <;> decide⟩
      obtain ⟨hmem, hchan, hstate⟩ := s.waitsPalette_spec ch { x with bytes := x.bytes % 2 ^ 32, moving := x.moving || !s.palBusy ch x.srcTarget }
      exact ⟨_, hact.trans (congrArg _ (State.runMove_waits h1 ha hs hda hfew hsent)), hmem, hchan, hstate⟩
  case resume =>
    obtain ⟨hready, hchan⟩ := ready_spec s ch
    have hread : exec (.paletteReadResume ch) s = execPaletteReadResume ch s := rfl
    have hgrow : exec (.granuleWaitResume ch) s = execGranuleWaitResume ch s := rfl
    refine ⟨fun hs hbytes hbusy => ⟨s.makeReady ch, ?_, hchan ch, s.mem_ready_makeReady ch, hready.mem⟩, fun hd hroom => ⟨s.makeReady ch, ?_, hchan ch, s.mem_ready_makeReady ch, hready.mem⟩⟩
    · rw [hread]; unfold execPaletteReadResume; rw [hx]
      exact congrArg _ (if_pos ⟨hwait, hs, hbytes, by rw [hbusy]; rfl⟩)
    · rw [hgrow]; unfold execGranuleWaitResume; rw [hx]
      exact congrArg _ (if_pos ⟨hwait, hd, hroom⟩)
  case still =>
    change execPaletteReadResume ch s = _ ∧ execGranuleWaitResume ch s = _
    unfold execPaletteReadResume execGranuleWaitResume
    cases (s.chan ch).exec with
    | none => exact ⟨rfl, rfl⟩
    | some x => exact ⟨congrArg _ (if_neg fun hc => hne hc.1), congrArg _ (if_neg fun hc => hne hc.1)⟩

end Sys2Proof.Machine

/-! SUPPORT. The registers of an easel's rings (10 R314, R336, R607): the notes of rings that could not be accessed, and what the owner's writes do. -/
namespace Sys2Proof.Machine

open Sys2Proof Sys2Proof.Laws

/-! ### Notes of the rings (R607) -/

theorem State.ringNote_setRingNote (s : State) (r v q : Nat) : (s.setRingNote r v).ringNote q = if q = r then v else s.ringNote q := SMap.get_set _ _ _ _ _

/-- A note of a ring shows in its easel's EAS_STATUS and in no other register. -/
theorem State.setRingNote_frame (s : State) (r v : Nat) :
    RegsFrame [F.EAS_STATUS_RING_FAULT.off] { s with sched := { s.sched with ringBad := (s.setRingNote r v).sched.ringBad } } (s.setRingNote r v) :=
  (RegsFrame.refl _ _).setFlag _ F.EAS_STATUS_RING_FAULT _ (by decide) (by decide)

theorem State.ringRetry_frame (s : State) (r : Nat) :
    RegsFrame [F.EAS_STATUS_RING_FAULT.off] { s with sched := { s.sched with ringBad := (s.ringRetry r).sched.ringBad } } (s.ringRetry r) := by
  unfold State.ringRetry
  split
  · exact s.setRingNote_frame r 2
  · exact RegsFrame.refl _ s

theorem State.ringNote_ringRetry (s : State) (r : Nat) : (s.ringRetry r).ringNote r = if s.ringNote r = 1 then 2 else s.ringNote r := by
  unfold State.ringRetry
  split
  · rw [State.ringNote_setRingNote, if_pos rfl]
  · rfl

/-- Easel `e`'s two rings are noted of under keys of their own. -/
theorem sqRing_ne_cqRing (e : Nat) : sqRing e ≠ cqRing e := by unfold sqRing cqRing; omega

theorem cqRing_div (e : Nat) : cqRing e / 2 = e := by unfold cqRing; omega

/-- RING_FAULT shows whether one of the easel's rings has a note. -/
theorem State.flag_ringFault_setRingNote (s : State) (r v : Nat) : (s.setRingNote r v).flag (r / 2) F.EAS_STATUS_RING_FAULT =
    decide ((s.setRingNote r v).ringNote (sqRing (r / 2)) ≠ 0 ∨ (s.setRingNote r v).ringNote (cqRing (r / 2)) ≠ 0) :=
  State.flag_setFlag_same _ _ _ _ (by decide) (by decide)

/-- Neither ring of an easel has a note. -/
def State.clearNotes (s : State) (e : Nat) : State := (s.setRingNote (sqRing e) 0).setRingNote (cqRing e) 0

theorem State.fld_setRingNote (s : State) (r v u : Nat) {f : Fld} (hf : f.off < regSpan) (hn : f.off ∉ [F.EAS_STATUS_RING_FAULT.off]) : (s.setRingNote r v).fld u f = s.fld u f :=
  (s.setRingNote_frame r v).fld u f hf hn

theorem State.fld_clearNotes (s : State) (e u : Nat) {f : Fld} (hf : f.off < regSpan) (hn : f.off ∉ [F.EAS_STATUS_RING_FAULT.off]) : (s.clearNotes e).fld u f = s.fld u f :=
  (State.fld_setRingNote _ _ _ _ hf hn).trans (State.fld_setRingNote _ _ _ _ hf hn)

/-- Without notes RING_FAULT is clear. -/
theorem State.ringFault_clearNotes (s : State) (e : Nat) : (s.clearNotes e).flag e F.EAS_STATUS_RING_FAULT = false := by
  have hshown := (s.setRingNote (sqRing e) 0).flag_ringFault_setRingNote (cqRing e) 0
  rw [cqRing_div, State.ringNote_setRingNote, State.ringNote_setRingNote, if_neg (sqRing_ne_cqRing e), if_pos rfl, State.ringNote_setRingNote, if_pos rfl] at hshown
  exact hshown

/-! ### The registers of the rings (R314, R336) -/

section Written

variable {s : State} {req : Requester} {e : Nat}

/-- A requester reaches an easel's ring registers. -/
def State.ReachesRings (s : State) (req : Requester) (e : Nat) : Prop :=
  ∀ o ∈ [F.EAS_SQ_TAIL_TAIL.off, F.EAS_CTRL_ENABLE.off, F.EAS_CQ_HEAD_HEAD.off], s.barOpen req o = true ∧ s.unitAt req o = e

theorem State.ReachesRings.access (h : s.ReachesRings req e) {o : Nat} (f : Nat → Res) (ho : o ∈ [F.EAS_SQ_TAIL_TAIL.off, F.EAS_CTRL_ENABLE.off, F.EAS_CQ_HEAD_HEAD.off]) :
    s.access req o f = f e := access_at f (h o ho).1 (h o ho).2

variable (h : s.ReachesRings req e)
include h

theorem exec_sqTailWrite_at (v : BitVec 16) : exec (.sqTailWrite req v) s =
    if ownsEas req e && decide (v.toNat < 2 ^ s.fld e F.EAS_SQ_SIZE_SIZE) then .next ((s.setFld e F.EAS_SQ_TAIL_TAIL v.toNat).ringRetry (sqRing e)) else .next s := by
  change execSqTailWrite req v s = _
  rw [execSqTailWrite, h.access _ (by decide)]

theorem exec_easelEnable_at : exec (.easelEnable req) s = .next (if ownsEas req e then s.easEnable e else s) := by
  change execEaselEnable req s = _
  rw [execEaselEnable, h.access _ (by decide)]

theorem exec_cqHeadWrite_at (v : BitVec 16) : exec (.cqHeadWrite req v) s =
    if ownsEas req e && decide (v.toNat < 2 ^ s.fld e F.EAS_CQ_SIZE_SIZE) then
      .next ((((s.setFld e F.EAS_CQ_HEAD_HEAD v.toNat).ringRetry (cqRing e)).showCqFull e).deliver e) else .next s := by
  change execCqHeadWrite req v s = _
  rw [execCqHeadWrite, h.access _ (by decide)]

end Written

/-- With no record waiting, delivery changes nothing but the note that none waits. -/
theorem State.deliver_none {s : State} {e : Nat} (h : SMap.get (fun _ => []) s.sched.undelivered e = []) : s.deliver e = s.setUndelivered e [] := by
  unfold State.deliver; rw [h]; rfl

/-- The tail that the owner writes, and the ring's note after it. -/
theorem State.sqTail_spec (s : State) (e : Nat) {v : Nat} (hv : v < 2 ^ 16) : let t := (s.setFld e F.EAS_SQ_TAIL_TAIL v).ringRetry (sqRing e)
    t.fld e F.EAS_SQ_TAIL_TAIL = v ∧ t.ringNote (sqRing e) = (if s.ringNote (sqRing e) = 1 then 2 else s.ringNote (sqRing e)) ∧ t.mem = s.mem ∧
      ∀ u off, off < regSpan → off ≠ F.EAS_SQ_TAIL_TAIL.off → off ≠ F.EAS_STATUS_RING_FAULT.off → t.reg u off = s.reg u off := by
  intro t
  have hf := (s.setFld e F.EAS_SQ_TAIL_TAIL v).ringRetry_frame (sqRing e)
  refine ⟨?tail, State.ringNote_ringRetry _ _, hf.mem, fun u off ho htail hstatus => ?others⟩
  case tail => exact (hf.fld _ _ (by decide) (by decide)).trans ((State.fld_setFld_same _ _ _ _ (by decide)).trans (Nat.mod_eq_of_lt hv))
  case others => exact (hf.reg u off ho (by simpa using hstatus)).trans (reg_setFld_off _ _ _ _ _ _ ho (by decide) htail)

/-- The head of the completion ring that the owner writes, with no record waiting. -/
theorem State.cqHead_spec {s : State} {e v : Nat} (hnone : SMap.get (fun _ => []) s.sched.undelivered e = []) (hv : v < 2 ^ 16) :
    let t := (((s.setFld e F.EAS_CQ_HEAD_HEAD v).ringRetry (cqRing e)).showCqFull e).deliver e
    t.fld e F.EAS_CQ_HEAD_HEAD = v ∧ t.ringNote (cqRing e) = (if s.ringNote (cqRing e) = 1 then 2 else s.ringNote (cqRing e)) ∧
      t.flag e F.EAS_STATUS_CQ_FULL = decide ((s.fld e F.EAS_CQ_TAIL_TAIL + 1) % 2 ^ s.fld e F.EAS_CQ_SIZE_SIZE = v) ∧ t.mem = s.mem ∧ t.out = s.out := by
  have hf := (s.setFld e F.EAS_CQ_HEAD_HEAD v).ringRetry_frame (cqRing e)
  have hnote := State.ringNote_ringRetry (s.setFld e F.EAS_CQ_HEAD_HEAD v) (cqRing e)
  generalize (s.setFld e F.EAS_CQ_HEAD_HEAD v).ringRetry (cqRing e) = u at hf hnote
  have hhead : u.fld e F.EAS_CQ_HEAD_HEAD = v :=
    (hf.fld _ _ (by decide) (by decide)).trans ((State.fld_setFld_same _ _ _ _ (by decide)).trans (Nat.mod_eq_of_lt hv))
  have hother : ∀ f : Fld, f.inWord = true → f.off ∉ [F.EAS_STATUS_RING_FAULT.off] → f.apart F.EAS_CQ_HEAD_HEAD = true → u.fld e f = s.fld e f := fun f hw hs ha =>
    (hf.fld _ _ ((inWord_iff f).mp hw).2 hs).trans (State.fld_setFld_apart _ _ _ _ _ _ (by decide) hw ha)
  have hund : SMap.get (fun _ => []) (u.showCqFull e).sched.undelivered e = [] := by
    change SMap.get _ u.sched.undelivered e = []; rw [hf.rest]; exact hnone
  intro t
  have ht : t = (u.showCqFull e).setUndelivered e [] := State.deliver_none hund
  rw [ht]
  refine ⟨(State.fld_setFlag_apart _ _ _ _ _ _ (by decide) (by decide) (by decide)).trans hhead, hnote, ?full, hf.mem, hf.out⟩
  case full =>
    refine (State.flag_setFlag_same _ _ _ _ (by decide) (by decide)).trans ?_
    unfold State.cqFull
    rw [hhead, hother _ (by decide) (by decide) (by decide), hother _ (by decide) (by decide) (by decide)]

/-- The submission ring is on and empty (R314). -/
def State.zeroSq (s : State) (e : Nat) : State := ((s.setFlag e F.EAS_CTRL_ENABLE true).setFld e F.EAS_SQ_TAIL_TAIL 0).setFld e F.EAS_SQ_HEAD_HEAD 0

/-- The completion ring is empty. -/
def State.zeroCq (s : State) (e : Nat) : State := (s.setFld e F.EAS_CQ_HEAD_HEAD 0).setFld e F.EAS_CQ_TAIL_TAIL 0

/-- The next completion entry has the first number and phase (R335). -/
def State.restartCq (s : State) (e : Nat) : State := { s with sched := { s.sched with ring := SMap.set ringDefault s.sched.ring e RingPos.start } }

theorem State.easEnable_off {s : State} {e : Nat} (hoff : s.flag e F.EAS_CTRL_ENABLE = false) :
    s.easEnable e = ((((((s.zeroSq e).clearNotes e).zeroCq e).restartCq e).setFlag e F.EAS_STATUS_RING_WAIT false).showCqFull e).deliver e :=
  if_neg (by rw [hoff]; exact Bool.false_ne_true)

theorem State.easEnable_on {s : State} {e : Nat} (hon : s.flag e F.EAS_CTRL_ENABLE = true) : s.easEnable e = s := if_pos hon

/- `(rfl)`: `simp` then rewrites with the equation, where a step by definition would have the kernel compare two whole states. -/
@[simp] theorem State.fld_restartCq (s : State) (e u : Nat) (f : Fld) : (s.restartCq e).fld u f = s.fld u f := (rfl)

@[simp] theorem State.fld_setUndelivered (s : State) (e : Nat) (l : List PostedRec) (u : Nat) (f : Fld) : (s.setUndelivered e l).fld u f = s.fld u f := (rfl)

/-- Enabling rings that are off, with no record waiting. -/
theorem State.easEnable_spec {s : State} {e : Nat} (hnone : SMap.get (fun _ => []) s.sched.undelivered e = []) (hoff : s.flag e F.EAS_CTRL_ENABLE = false) : let t := s.easEnable e
    t.flag e F.EAS_CTRL_ENABLE = true ∧ t.fld e F.EAS_SQ_TAIL_TAIL = 0 ∧ t.fld e F.EAS_SQ_HEAD_HEAD = 0 ∧ t.fld e F.EAS_CQ_TAIL_TAIL = 0 ∧ t.fld e F.EAS_CQ_HEAD_HEAD = 0 ∧
      t.flag e F.EAS_STATUS_RING_FAULT = false ∧ SMap.get ringDefault t.sched.ring e = ⟨true, 0⟩ ∧ t.mem = s.mem := by
  rw [State.easEnable_off hoff, State.deliver_none (s := ((((((s.zeroSq e).clearNotes e).zeroCq e).restartCq e).setFlag e F.EAS_STATUS_RING_WAIT false).showCqFull e)) hnone]
  have hon := State.flag_setFlag_same s e F.EAS_CTRL_ENABLE true (by decide) (by decide)
  have hclear := (s.zeroSq e).ringFault_clearNotes e
  unfold State.flag at hon hclear ⊢
  refine ⟨?on, ?sqTail, ?sqHead, ?cqTail, ?cqHead, ?fault, SMap.get_set_same _ _ _ _, rfl⟩
  case fault => simp (disch := decide) only [State.fld_setUndelivered, State.showCqFull, State.zeroCq, State.fld_restartCq, State.fld_setFlag_apart, State.fld_setFld_apart, hclear]
  case on => simp (disch := decide) only [State.fld_setUndelivered, State.showCqFull, State.zeroCq, State.zeroSq, State.fld_restartCq, State.fld_clearNotes, State.fld_setFlag_apart, State.fld_setFld_apart, hon]
  all_goals
    simp (disch := decide) only [State.fld_setUndelivered, State.showCqFull, State.zeroCq, State.zeroSq, State.fld_restartCq, State.fld_clearNotes, State.fld_setFlag_apart,
      State.fld_setFld_apart, State.fld_setFld_same, Nat.zero_mod]

end Sys2Proof.Machine

/-! SUPPORT. Admission from a submission ring (10 R314 to R317, R333, R607): the fetch of the head entry, its admission to a core or a channel, its record, and the statement about the rings. -/
namespace Sys2Proof.Machine

open Sys2Proof Sys2Proof.Laws

/-! ### The fetch of the head entry (R607) -/

/-- The registers that the fetch of an entry may change: EAS_STATUS, the bytes read of host memory, and those of a load of bonded memory. -/
def fetchOffs : List Nat := F.EAS_STATUS_RING_FAULT.off :: F.CXL_EAS_HOST_RD_UNITS.off :: lkOffs

/-- `t` is `s` after a fetch: no memory, no engine, and of the scheduler only the rings' notes are changed. -/
structure State.Fetched (s t : State) : Prop where
  mem : t.mem = s.mem
  tc : t.tc = s.tc
  sc : t.sc = s.sc
  str : t.str = s.str
  tod : t.tod = s.tod
  sched : t.sched = { s.sched with ringBad := t.sched.ringBad }
  fld : ∀ u (g : Fld), g.inWord = true → g.off ∉ fetchOffs → t.fld u g = s.fld u g

theorem State.wakeStack_cores (s : State) (k e : Nat) : (s.wakeStack k e).tc = s.tc ∧ (s.wakeStack k e).sc = s.sc := by
  unfold State.wakeStack; split <;> exact ⟨rfl, rfl⟩

theorem State.openPage_cores (s : State) (e a n : Nat) : (s.openPage e a n).tc = s.tc ∧ (s.openPage e a n).sc = s.sc :=
  open_all (fun t => t.tc = s.tc ∧ t.sc = s.sc) s e a n (fun t k x h => ⟨(t.wakeStack_cores k x).1.trans h.1, (t.wakeStack_cores k x).2.trans h.2⟩) (fun _ _ h => h) ⟨rfl, rfl⟩

theorem State.countStack_cores (s : State) (f : Fld) (e a n : Nat) : (s.countStack f e a n).tc = s.tc ∧ (s.countStack f e a n).sc = s.sc := by
  unfold State.countStack
  split
  · exact ⟨rfl, rfl⟩
  · refine upto_keep (fun t : State => t.tc = s.tc ∧ t.sc = s.sc) _ _ (fun i _ t h => ?_) s ⟨rfl, rfl⟩
    exact h

/-- A load that no injection point alters leaves the cores. -/
theorem State.bondLoad_cores {s : State} {e a n : Nat} (code : Nat) (hin : s.inShare e a n = true) (harm : s.flag (s.stackOf e (a / 64 * 64 / 65536)) F.FLT_INJSTAT_ARMED = false) :
    (s.bondLoad e a n code none).st.tc = s.tc ∧ (s.bondLoad e a n code none).st.sc = s.sc := by
  have hcheck : s.bondCheck e a code none = s := by simp only [State.bondCheck, inj_off _ _ _ harm]; rfl
  have hopen := s.openPage_cores e a n
  have hcount := (s.openPage e a n).countStack_cores F.MEM_STK_RD_UNITS e a n
  unfold State.bondLoad
  rw [if_pos hin, hcheck]
  dsimp only
  split
  · exact ⟨hcount.1.trans hopen.1, hcount.2.trans hopen.2⟩
  · exact ⟨hcount.1.trans hopen.1, hcount.2.trans hopen.2⟩

theorem State.Fetched.refl (s : State) : s.Fetched s := ⟨rfl, rfl, rfl, rfl, rfl, rfl, fun _ _ _ _ => rfl⟩

/-- The note of a ring that can be accessed. -/
theorem State.Fetched.setRingNote {s t : State} (h : s.Fetched t) (r v : Nat) : s.Fetched (t.setRingNote r v) where
  mem := h.mem
  tc := h.tc
  sc := h.sc
  str := h.str
  tod := h.tod
  sched := by
    have hs : (t.setRingNote r v).sched = { t.sched with ringBad := (t.setRingNote r v).sched.ringBad } := rfl
    rw [hs, h.sched]
  fld u g hg hn := by
    rw [fetchOffs, List.mem_cons, not_or] at hn
    exact (State.fld_setRingNote _ _ _ _ ((inWord_iff g).mp hg).2 (fun hm => hn.1 (List.mem_singleton.mp hm))).trans (h.fld u g hg (by rw [fetchOffs, List.mem_cons, not_or]; exact hn))

theorem State.Fetched.countRead {s t : State} (h : s.Fetched t) (e n : Nat) : s.Fetched (t.countUnits e F.CXL_EAS_HOST_RD_UNITS 65536 n) where
  mem := h.mem
  tc := h.tc
  sc := h.sc
  str := h.str
  tod := h.tod
  sched := h.sched
  fld u g hg hn := by
    have hne : g.off ≠ F.CXL_EAS_HOST_RD_UNITS.off := fun he => hn (by rw [he]; decide)
    refine Eq.trans ?_ (h.fld u g hg hn)
    exact State.fld_setFld_apart _ _ _ _ _ _ (by decide) hg ((apart_iff _ _).mpr (Or.inl hne))

/-- A load of bonded memory that nothing alters, and the ring's note after it. -/
theorem State.fetched_of_load {s : State} {e a n : Nat} (code : Nat) (hin : s.inShare e a n = true) (hpoi : s.poison = []) (hseq : s.seqOn e = false)
    (harm : s.flag (s.stackOf e (a / 64 * 64 / 65536)) F.FLT_INJSTAT_ARMED = false) : s.Fetched (s.bondLoad e a n code none).st := by
  obtain ⟨-, -, -, hmem, -, -⟩ := load_clean s e a n code hin hpoi hseq harm
  have hk := load_keep s e a n code hin hpoi harm
  obtain ⟨htc, hsc⟩ := State.bondLoad_cores code hin harm
  refine ⟨hmem, htc, hsc, hk.str, hk.tod, hk.sched.trans (by rw [hk.sched]), fun u g hg hn => hk.fld u g hg ?_⟩
  rw [fetchOffs, List.mem_cons, List.mem_cons, not_or, not_or] at hn
  simpa using hn.2.2

/-- The bytes of the head entry of an easel's submission ring, where it can be read (R607). -/
def State.HeadEntry (s : State) (e : Nat) (host : Blob) (d : List Nat) : Prop :=
  s.flag e F.EAS_SQ_SIZE_SPACE = false ∧ s.hostUp = true ∧ s.translates e (s.sqAddr e) = true ∧ d = (List.range 128).map host.byte ∨
    s.flag e F.EAS_SQ_SIZE_SPACE = true ∧ s.inShare e (s.sqAddr e) 128 = true ∧ s.poison = [] ∧ s.seqOn e = false ∧
      s.flag (s.stackOf e (s.sqAddr e / 64 * 64 / 65536)) F.FLT_INJSTAT_ARMED = false ∧ d = (List.range 128).map (fun i => (s.byte (bondKey e (s.sqAddr e + i))).toNat)

theorem blobSlice_head (b : Blob) (n : Nat) : blobSlice b 0 n = (List.range n).map b.byte :=
  List.map_congr_left fun i _ => congrArg b.byte (Nat.zero_add i)

theorem State.HeadEntry.sqFetch {s : State} {e : Nat} {host : Blob} {d : List Nat} (h : s.HeadEntry e host d) : ∃ t, s.sqFetch e host = (some d, t) ∧ s.Fetched t := by
  unfold State.sqFetch
  dsimp only
  rcases h with ⟨hspace, hup, htr, rfl⟩ | ⟨hspace, hin, hpoi, hseq, harm, rfl⟩
  · rw [hspace, hup, htr, blobSlice_head]
    exact ⟨_, rfl, ((State.Fetched.refl s).setRingNote _ _).countRead _ _⟩
  · rw [hspace, hin]
    obtain ⟨-, hdata, -⟩ := load_clean s e (s.sqAddr e) 128 stPoison hin hpoi hseq harm
    rw [hdata, State.readBytes_eq_map]
    simp only [bondKey_add]
    exact ⟨_, rfl, (State.fetched_of_load stPoison hin hpoi hseq harm).setRingNote _ _⟩

/-! ### What admission reads of a state is the same after the fetch -/

namespace State.Fetched

variable {s t : State} (h : s.Fetched t)
include h

theorem flag (u : Nat) (f : Fld) (hw : f.inWord = true) (hn : f.off ∉ fetchOffs) : t.flag u f = s.flag u f := by unfold State.flag; rw [h.fld u f hw hn]

theorem coreServes (owner : Fld) (core e : Nat) (hw : owner.inWord = true) (hn : owner.off ∉ fetchOffs) : t.coreServes owner core e = s.coreServes owner core e := by
  unfold State.coreServes State.coreOwned
  rw [h.flag 0 F.SCH_MODE_PARTITIONED (by decide) (by decide), h.fld core owner hw hn]

theorem ownsLink (e link : Nat) : t.ownsLink e link = s.ownsLink e link := by
  unfold State.ownsLink
  rw [h.flag link F.STR_CH_CFG_ENABLED (by decide) (by decide), h.fld link F.STR_CH_CFG_EASEL (by decide) (by decide)]

theorem entryRefused (e : Nat) (d : List Nat) : t.entryRefused e d = s.entryRefused e d := by
  unfold State.entryRefused
  simp only [h.ownsLink, h.coreServes F.TC_PARTITION_OWNER _ _ (by decide) (by decide), h.coreServes F.SC_PARTITION_OWNER _ _ (by decide) (by decide)]

theorem queueRoom (e kind target : Nat) : t.queueRoom e kind target = s.queueRoom e kind target := by
  unfold State.queueRoom
  rw [State.tcore_congr h.tc, State.score_congr h.sc, h.fld _ F.TC_EAS_QLIMIT_SLOTS (by decide) (by decide), h.fld _ F.SC_EAS_QLIMIT_SLOTS (by decide) (by decide)]

theorem refusedRecord (e st : Nat) (d : List Nat) : t.refusedRecord e st d = s.refusedRecord e st d := by
  unfold State.refusedRecord State.seqStepOf
  rw [h.fld e F.EAS_SQ_HEAD_HEAD (by decide) (by decide), h.fld e F.SEQ_EAS_STEP_STEP (by decide) (by decide)]

theorem cqFull (e : Nat) : t.cqFull e = s.cqFull e := by
  unfold State.cqFull
  rw [h.fld e F.EAS_CQ_TAIL_TAIL (by decide) (by decide), h.fld e F.EAS_CQ_SIZE_SIZE (by decide) (by decide), h.fld e F.EAS_CQ_HEAD_HEAD (by decide) (by decide)]

theorem live (e : Nat) : t.live e = s.live e := by unfold State.live; rw [h.sched]

theorem nextId : t.sched.nextId = s.sched.nextId := by rw [h.sched]

theorem undelivered : t.sched.undelivered = s.sched.undelivered := by rw [h.sched]

theorem nowNs : t.nowNs = s.nowNs := by unfold State.nowNs; rw [h.tod]

end State.Fetched

/-! ### The head entry leaves the ring -/

/-- From `s` to `t` the head entry of an easel's ring is taken (R314, R317). -/
structure State.EntryTaken (s t : State) (e : Nat) : Prop where
  head : t.fld e F.EAS_SQ_HEAD_HEAD = (s.fld e F.EAS_SQ_HEAD_HEAD + 1) % 2 ^ s.fld e F.EAS_SQ_SIZE_SIZE % 2 ^ 16
  wait : t.flag e F.EAS_STATUS_RING_WAIT = false
  mem : t.mem = s.mem

/-- The ring's head and size and the memory are those of `s`. -/
structure State.SameRing (s t : State) (e : Nat) : Prop where
  head : t.fld e F.EAS_SQ_HEAD_HEAD = s.fld e F.EAS_SQ_HEAD_HEAD
  size : t.fld e F.EAS_SQ_SIZE_SIZE = s.fld e F.EAS_SQ_SIZE_SIZE
  mem : t.mem = s.mem

theorem State.SameRing.trans {s t u : State} {e : Nat} (h : s.SameRing t e) (k : t.SameRing u e) : s.SameRing u e :=
  ⟨k.head.trans h.head, k.size.trans h.size, k.mem.trans h.mem⟩

theorem State.Fetched.sameRing {s t : State} (h : s.Fetched t) (e : Nat) : s.SameRing t e :=
  ⟨h.fld e F.EAS_SQ_HEAD_HEAD (by decide) (by decide), h.fld e F.EAS_SQ_SIZE_SIZE (by decide) (by decide), h.mem⟩

theorem State.SameRing.sqAdvance {s t : State} {e : Nat} (h : s.SameRing t e) : s.EntryTaken (t.sqAdvance e) e where
  head := by
    unfold State.sqAdvance
    rw [State.fld_setFlag_apart _ _ _ _ _ _ (by decide) (by decide) (by decide), State.fld_setFld_same _ _ _ _ (by decide), h.head, h.size]
  wait := State.flag_setFlag_same _ _ _ _ (by decide) (by decide)
  mem := h.mem

/-! ### The branches of admission (R316, R317, R607) -/

/-- The head entry, once it has been fetched: it completes at once, is admitted, or waits. -/
def State.takeEntry (s : State) (e : Nat) (d : List Nat) : State :=
  match s.entryRefused e d with
  | some st => s.refuseEntry e st d
  | none => if s.queueRoom e (nth 0 d 0) (fieldLe d 2 2) then (s.admitEntry e d).sqAdvance e else s.setFlag e F.EAS_STATUS_RING_WAIT true

section Submit

variable {s t : State} {e kind : Nat} {host : Blob} {d : List Nat}

theorem State.submitHead_idle (hw : s.sqWaiting e = false) : s.submitHead e kind host = s := by
  unfold State.submitHead; rw [hw]; rfl

theorem State.submitHead_other (hw : s.sqWaiting e = true) (hf : s.sqFetch e host = (some d, t)) (hk : nth 0 d 0 ≠ kind) (hknown : kindKnown (nth 0 d 0) = true) :
    s.submitHead e kind host = s := by
  unfold State.submitHead; rw [hw, hf]
  exact if_pos (And.intro hk hknown)

theorem State.submitHead_takes (hw : s.sqWaiting e = true) (hf : s.sqFetch e host = (some d, t)) (hk : nth 0 d 0 = kind ∨ kindKnown (nth 0 d 0) = false) :
    s.submitHead e kind host = t.takeEntry e d := by
  have hnot : ¬(nth 0 d 0 ≠ kind ∧ kindKnown (nth 0 d 0) = true) := fun ⟨hne, hknown⟩ => by
    rcases hk with hk | hk
    · exact hne hk
    · rw [hk] at hknown; exact Bool.false_ne_true hknown
  unfold State.submitHead; rw [hw, hf]
  exact if_neg hnot

/-- An entry whose queue is full waits. -/
theorem State.takeEntry_waits (hr : s.entryRefused e d = none) (hroom : s.queueRoom e (nth 0 d 0) (fieldLe d 2 2) = false) : s.takeEntry e d = s.setFlag e F.EAS_STATUS_RING_WAIT true := by
  unfold State.takeEntry; rw [hr]
  exact if_neg (by rw [hroom]; exact Bool.false_ne_true)

theorem State.takeEntry_admits (hr : s.entryRefused e d = none) (hroom : s.queueRoom e (nth 0 d 0) (fieldLe d 2 2) = true) : s.takeEntry e d = (s.admitEntry e d).sqAdvance e := by
  unfold State.takeEntry; rw [hr]
  exact if_pos hroom

theorem State.takeEntry_refuses {st : Nat} (hr : s.entryRefused e d = some st) : s.takeEntry e d = s.refuseEntry e st d := by
  unfold State.takeEntry; rw [hr]

/-- While the completion ring is full and no record waits, a record that is posted is the one that waits (R336). -/
theorem State.postRecord_full (hfull : s.cqFull e = true) (hnone : SMap.get (fun _ => []) s.sched.undelivered e = []) (k : Nat) (r : List Nat) :
    s.postRecord e k r = (s.setUndelivered e [⟨k, r, s.nowNs⟩]).setUndelivered e [⟨k, r, s.nowNs⟩] := by
  have hfull' : ∀ l, (s.setUndelivered e l).cqFull e = true := fun l => hfull
  have hget : ∀ l, SMap.get (fun _ => []) (s.setUndelivered e l).sched.undelivered e = l := fun l => SMap.get_set_same _ _ _ _
  unfold State.postRecord State.deliver
  rw [hnone, List.nil_append]
  dsimp only
  rw [hget, deliverList, hfull', Bool.or_true, Bool.true_or, Bool.true_or, if_pos rfl]

end Submit

/-! ### Sending takes (09 R287 to R289) -/

/-- The registers of a link's semaphores. -/
def semOffs : List Nat := [F.STR_CH_SEM_FULL.off, F.STR_CH_SEMSTAT_FULL_WAIT.off]

/-- From `s` to `t` takes were sent: counts and waiting takes of semaphores, granted takes and ready channels may have changed. -/
structure State.TakesSent (s t : State) : Prop where
  rest : t = { s with regs := t.regs, str := t.str, sched := { s.sched with waiting := t.sched.waiting, granted := t.sched.granted } }
  reg : ∀ u off, off < regSpan → off ∉ semOffs → t.reg u off = s.reg u off

namespace State.TakesSent

variable {s t u : State}

theorem refl (s : State) : s.TakesSent s := ⟨rfl, fun _ _ _ _ => rfl⟩

theorem trans (h : s.TakesSent t) (k : t.TakesSent u) : s.TakesSent u :=
  ⟨by rw [k.rest, h.rest], fun v off ho hn => (k.reg v off ho hn).trans (h.reg v off ho hn)⟩

theorem setFld (h : s.TakesSent t) (v : Nat) (f : Fld) (n : Nat) (hf : f.off < regSpan) (hm : f.off ∈ semOffs) : s.TakesSent (t.setFld v f n) :=
  h.trans ⟨rfl, fun _ _ ho hn => reg_setFld_off _ _ _ _ _ _ ho hf (fun he => hn (he ▸ hm))⟩

theorem setSem (h : s.TakesSent t) (sem n : Nat) : s.TakesSent (t.setSem sem n) := by
  unfold State.setSem semFld
  split
  · exact h.setFld _ _ _ (by decide) (by decide)
  · exact h.setFld _ _ _ (by decide) (by decide)

theorem setWaiters (h : s.TakesSent t) (sem : Nat) (l : List Waiter) : s.TakesSent (t.setWaiters sem l) := by
  have hs : s.TakesSent { t with sched := { t.sched with waiting := SMap.set (fun _ => []) t.sched.waiting sem l } } := h.trans ⟨rfl, fun _ _ _ _ => rfl⟩
  unfold State.setWaiters
  split
  · exact hs.setFld _ _ _ (by decide) (by decide)
  · exact hs.setFld _ _ _ (by decide) (by decide)

theorem grantTake (h : s.TakesSent t) (w : Waiter) : s.TakesSent (t.grantTake w) := by
  cases w with
  | channel n => unfold State.grantTake State.makeReady; dsimp only; split <;> exact h.trans ⟨rfl, fun _ _ _ _ => rfl⟩
  | _ => exact h.trans ⟨rfl, fun _ _ _ _ => rfl⟩

theorem serveTakes (sem : Nat) (l : List Waiter) (h : s.TakesSent t) : s.TakesSent (serveTakes sem l t) := by
  induction l generalizing t with
  | nil => exact h.setWaiters sem []
  | cons w r ih =>
    unfold Machine.serveTakes
    split
    · exact h.setWaiters sem (w :: r)
    · exact ih ((h.setSem sem _).grantTake w)

theorem sendTake (h : s.TakesSent t) (sem : Nat) (w : Waiter) : s.TakesSent (t.sendTake sem w) := (h.setWaiters sem _).serveTakes sem _

theorem each (h : s.TakesSent t) (sem : Cmd → Nat) (w : Cmd → Waiter) (l : List Cmd) : s.TakesSent (forEach l (fun c v => v.sendTake (sem c) (w c)) t) :=
  each_keep s.TakesSent _ (fun _ _ k => k.sendTake _ _) l t h

theorem mem (h : s.TakesSent t) : t.mem = s.mem := by rw [h.rest]

theorem tc (h : s.TakesSent t) : t.tc = s.tc := by rw [h.rest]

theorem sc (h : s.TakesSent t) : t.sc = s.sc := by rw [h.rest]

theorem live (h : s.TakesSent t) (e : Nat) : t.live e = s.live e := by rw [h.rest]; rfl

theorem fld (h : s.TakesSent t) (v : Nat) (f : Fld) (hf : f.off < regSpan := by decide) (hn : f.off ∉ semOffs := by decide) : t.fld v f = s.fld v f := fld_of_reg (h.reg v f.off hf hn)

end State.TakesSent

/-- A T-core whose waiting commands of these numbers have sent their takes. -/
def TcSt.sentTakes (t : TcSt) (ids : List Nat) : TcSt := { t with queue := markSent ids t.queue, granted := markSent ids t.granted }

theorem State.tcTakes_sent (s : State) (core : Nat) : ∃ ids, (s.setTcore core 0 ((s.tcore core).sentTakes ids)).TakesSent (s.tcTakes core) :=
  ⟨_, (State.TakesSent.refl _).each _ _ _⟩

theorem State.scTakes_sent (s : State) (core : Nat) : ∃ ids, (s.setScore core 0 ((s.score core).sentTakes ids)).TakesSent (s.scTakes core) :=
  ⟨_, (State.TakesSent.refl _).each _ _ _⟩

/-! ### Admission to a core's queue and to a channel (R316, R333) -/

/-- Sending takes keeps the numbers and the words of the commands. -/
theorem markSent_words (ids : List Nat) (l : List Cmd) : (markSent ids l).map (fun c => (c.id, c.words)) = l.map (fun c => (c.id, c.words)) := by
  unfold markSent
  rw [List.map_map]
  refine List.map_congr_left fun c _ => ?_
  rw [Function.comp_apply]
  split <;> rfl

section Admit

variable {s : State} {e : Nat} {d : List Nat}

theorem State.admitEntry_tcore (hk : nth 0 d 0 = 1) : s.admitEntry e d = ((s.enroll e).2.setTcore (fieldLe d 2 2) e
    { s.tcore (fieldLe d 2 2) with queue := (s.tcore (fieldLe d 2 2)).queue ++ [entryCmd d 1 e s.sched.nextId] }).tcTakes (fieldLe d 2 2) := by
  unfold State.admitEntry; rw [hk]; rfl

theorem State.admitEntry_score (hk : nth 0 d 0 = 2) : s.admitEntry e d = ((s.enroll e).2.setScore (fieldLe d 2 2) e
    { s.score (fieldLe d 2 2) with queue := (s.score (fieldLe d 2 2)).queue ++ [entryCmd d 2 e s.sched.nextId] }).scTakes (fieldLe d 2 2) := by
  unfold State.admitEntry; rw [hk]; rfl

theorem State.admitEntry_channel (hk : nth 0 d 0 = 3) : s.admitEntry e d =
    if fieldLe d 24 2 = 0 then s else s.armChan (fieldLe d 2 2) ⟨fieldLe d 16 8, fieldLe d 24 2, decide (nth 0 d 26 = 1), .ring⟩ := by
  unfold State.admitEntry; rw [hk]; rfl

theorem State.live_enroll (s : State) (e : Nat) : (s.enroll e).2.live e = s.live e ++ [s.sched.nextId] := SMap.get_set_same _ _ _ _

theorem State.setTcore_sameRing (s : State) (core e' : Nat) (q : TcSt) (e : Nat) : s.SameRing (s.setTcore core e' q) e :=
  have hf := s.setTcore_frame core e' q
  ⟨hf.fld e F.EAS_SQ_HEAD_HEAD (by decide) (by decide), hf.fld e F.EAS_SQ_SIZE_SIZE (by decide) (by decide), hf.mem⟩

theorem State.live_setTcore (s : State) (core e' : Nat) (q : TcSt) (e : Nat) : (s.setTcore core e' q).live e = s.live e := by
  rw [(s.setTcore_frame core e' q).rest]; rfl

theorem State.setScore_sameRing (s : State) {core : Nat} (hc : core < 192) (e' : Nat) (q : ScSt) (e : Nat) : s.SameRing (s.setScore core e' q) e :=
  ⟨s.fld_setScore hc e' q e F.EAS_SQ_HEAD_HEAD, s.fld_setScore hc e' q e F.EAS_SQ_SIZE_SIZE, s.setScore_mem core e' q⟩

theorem State.live_setScore (s : State) (core e' : Nat) (q : ScSt) (e : Nat) : (s.setScore core e' q).live e = s.live e := by
  obtain ⟨-, -, -, hsched, -⟩ := setScore_keep s core e' q
  unfold State.live; rw [hsched]

theorem State.TakesSent.sameRing {s t : State} (h : s.TakesSent t) (e : Nat) : s.SameRing t e := ⟨h.fld e F.EAS_SQ_HEAD_HEAD, h.fld e F.EAS_SQ_SIZE_SIZE, h.mem⟩

/-- The command of an entry joins its T-core's queue with the next command number. -/
theorem State.admitEntry_tcore_spec (hk : nth 0 d 0 = 1) : let u := s.admitEntry e d
    s.SameRing u e ∧ u.live e = s.live e ++ [s.sched.nextId] ∧
      (u.tcore (fieldLe d 2 2)).queue.map (fun c => (c.id, c.words)) = (s.tcore (fieldLe d 2 2)).queue.map (fun c => (c.id, c.words)) ++ [(s.sched.nextId, cmdWords d 16 e)] := by
  rw [State.admitEntry_tcore hk]
  have hring : s.SameRing (s.enroll e).2 e := ⟨rfl, rfl, rfl⟩
  have hlive := s.live_enroll e
  generalize (s.enroll e).2 = s1 at hring hlive
  generalize hq : ({ s.tcore (fieldLe d 2 2) with queue := _ } : TcSt) = q
  obtain ⟨ids, hsent⟩ := (s1.setTcore (fieldLe d 2 2) e q).tcTakes_sent (fieldLe d 2 2)
  rw [State.tcore_setTcore] at hsent
  refine ⟨((hring.trans (s1.setTcore_sameRing _ _ _ e)).trans (State.setTcore_sameRing _ _ _ _ e)).trans (hsent.sameRing e), ?live, ?queue⟩
  case live => rw [hsent.live, State.live_setTcore, State.live_setTcore, hlive]
  case queue =>
    rw [State.tcore_congr hsent.tc, State.tcore_setTcore, ← hq, TcSt.sentTakes, markSent_words, List.map_append]
    rfl

/-- The command of an entry joins its S-core's queue with the next command number. -/
theorem State.admitEntry_score_spec (hk : nth 0 d 0 = 2) (hc : fieldLe d 2 2 < 192) : let u := s.admitEntry e d
    s.SameRing u e ∧ u.live e = s.live e ++ [s.sched.nextId] ∧
      (u.score (fieldLe d 2 2)).queue.map (fun c => (c.id, c.words)) = (s.score (fieldLe d 2 2)).queue.map (fun c => (c.id, c.words)) ++ [(s.sched.nextId, cmdWords d 8 e)] := by
  rw [State.admitEntry_score hk]
  have hring : s.SameRing (s.enroll e).2 e := ⟨rfl, rfl, rfl⟩
  have hlive := s.live_enroll e
  generalize (s.enroll e).2 = s1 at hring hlive
  generalize hq : ({ s.score (fieldLe d 2 2) with queue := _ } : ScSt) = q
  obtain ⟨ids, hsent⟩ := (s1.setScore (fieldLe d 2 2) e q).scTakes_sent (fieldLe d 2 2)
  rw [State.score_setScore] at hsent
  refine ⟨((hring.trans (s1.setScore_sameRing hc _ _ e)).trans (State.setScore_sameRing _ hc _ _ e)).trans (hsent.sameRing e), ?live, ?queue⟩
  case live => rw [hsent.live, State.live_setScore, State.live_setScore, hlive]
  case queue =>
    rw [State.score_congr hsent.sc, State.score_setScore, ← hq, ScSt.sentTakes, markSent_words, List.map_append]
    rfl

/-- A run started by an entry of the ring. -/
theorem State.startRun_sameRing (s : State) (n : Nat) (a : Arm) (ovr : Bool) (e : Nat) : s.SameRing (s.startRun n a ovr) e := by
  have hk := (ck_set (s.enrollRun (s.chEasel n) a.count).2 n { (s.enrollRun (s.chEasel n) a.count).2.chan n with
    run := some (StrRun.start a s.sched.nextId ovr), pend := none, pendOver := false }).trans (ck_state _ n chFetch)
  exact ⟨hk.fld e F.EAS_SQ_HEAD_HEAD (by decide) (by decide), hk.fld e F.EAS_SQ_SIZE_SIZE (by decide) (by decide), hk.mem⟩

end Admit

/-! ### The three commands of submission -/

/-- The commands of submission, each with its KIND. -/
def submitCommands (e : Fin 64) (host : Blob) : List (Nat × Instr) := [(1, .submitTCore e host), (2, .submitSCore e host), (3, .submitChannelArm e host)]

theorem exec_submit (s : State) (e : Fin 64) (host : Blob) : ∀ c ∈ submitCommands e host, exec c.2 s = .next (s.submitHead e c.1 host) := by
  intro c hc
  simp only [submitCommands, List.mem_cons, List.not_mem_nil, or_false] at hc
  rcases hc with rfl | rfl | rfl <;> rfl

theorem State.sqWaiting_false {s : State} {e : Nat} (h : s.flag e F.EAS_CTRL_ENABLE = false ∨ NSet.has e s.ten.stopped = true ∨
    s.fld e F.EAS_SQ_TAIL_TAIL = s.fld e F.EAS_SQ_HEAD_HEAD ∨ s.ringNote (sqRing e) = 1) : s.sqWaiting e = false := by
  unfold State.sqWaiting
  rcases h with h | h | h | h <;> simp [h]

/-- An entry that passes its checks names a core or a channel that exists (R315, R317). -/
theorem State.target_lt {s : State} {e : Nat} {d : List Nat} (h : s.entryRefused e d = none) : fieldLe d 2 2 < targets (nth 0 d 0) := by
  by_contra hge
  have hle : targets (nth 0 d 0) ≤ fieldLe d 2 2 := Nat.le_of_not_lt hge
  unfold State.entryRefused at h
  simp only [hle, if_true] at h
  split at h <;> exact Option.some_ne_none _ h

section Admission

variable {s : State} {e : Fin 64} {host : Blob} {d : List Nat} (hw : s.sqWaiting e = true) (hd : s.HeadEntry e host d)
include hw hd

/-- An entry of another kind stays. -/
theorem exec_submit_other : ∀ c ∈ submitCommands e host, nth 0 d 0 ≠ c.1 → kindKnown (nth 0 d 0) = true → exec c.2 s = .next s := by
  intro c hc hk hknown
  obtain ⟨t, hf, -⟩ := hd.sqFetch
  rw [exec_submit s e host c hc, State.submitHead_other hw hf hk hknown]

/-- An entry that cannot be executed leaves its record, and the ring goes on (R317). -/
theorem exec_submit_refused (hfull : s.cqFull e = true) (hnone : SMap.get (fun _ => []) s.sched.undelivered e = []) {st : Nat} (hr : s.entryRefused e d = some st) :
    ∀ c ∈ submitCommands e host, nth 0 d 0 = c.1 ∨ kindKnown (nth 0 d 0) = false → ∃ t, exec c.2 s = .next t ∧ s.EntryTaken t e ∧
      SMap.get (fun _ => []) t.sched.undelivered e = [⟨nth 0 d 0, s.refusedRecord e st d, s.nowNs⟩] ∧ t.tc = s.tc ∧ t.sc = s.sc ∧ t.str = s.str := by
  intro c hc hk
  obtain ⟨t, hf, ht⟩ := hd.sqFetch
  have hpost := State.postRecord_full ((ht.cqFull e).trans hfull) (by rw [ht.undelivered]; exact hnone) (nth 0 d 0) (t.refusedRecord e st d)
  have hrun : exec c.2 s = .next ((t.postRecord e (nth 0 d 0) (t.refusedRecord e st d)).sqAdvance e) := by
    rw [exec_submit s e host c hc, State.submitHead_takes hw hf hk, State.takeEntry_refuses ((ht.entryRefused e d).trans hr)]; rfl
  rw [hpost, ht.refusedRecord, ht.nowNs] at hrun
  have hring : t.SameRing ((t.setUndelivered e [⟨nth 0 d 0, s.refusedRecord e st d, s.nowNs⟩]).setUndelivered e [⟨nth 0 d 0, s.refusedRecord e st d, s.nowNs⟩]) e := ⟨rfl, rfl, rfl⟩
  exact ⟨_, hrun, ((ht.sameRing e).trans hring).sqAdvance, SMap.get_set_same _ _ _ _, ht.tc, ht.sc, ht.str⟩

variable (hr : s.entryRefused e d = none)
include hr

/-- An entry whose queue is full waits. -/
theorem exec_submit_waits (hroom : s.queueRoom e (nth 0 d 0) (fieldLe d 2 2) = false) : ∀ c ∈ submitCommands e host, nth 0 d 0 = c.1 → ∃ t, exec c.2 s = .next t ∧
    t.flag e F.EAS_STATUS_RING_WAIT = true ∧ t.fld e F.EAS_SQ_HEAD_HEAD = s.fld e F.EAS_SQ_HEAD_HEAD ∧ t.tc = s.tc ∧ t.sc = s.sc ∧ t.str = s.str ∧ t.mem = s.mem := by
  intro c hc hk
  obtain ⟨t, hf, ht⟩ := hd.sqFetch
  refine ⟨t.setFlag e F.EAS_STATUS_RING_WAIT true, ?run, State.flag_setFlag_same _ _ _ _ (by decide) (by decide), ?head, ht.tc, ht.sc, ht.str, ht.mem⟩
  case run => rw [exec_submit s e host c hc, State.submitHead_takes hw hf (.inl hk), State.takeEntry_waits ((ht.entryRefused e d).trans hr) ((ht.queueRoom _ _ _).trans hroom)]
  case head => exact (State.fld_setFlag_apart _ _ _ _ _ _ (by decide) (by decide) (by decide)).trans (ht.sameRing e).head

/-- An entry for which there is room is admitted to the state after the fetch. -/
theorem exec_submit_admits (hroom : s.queueRoom e (nth 0 d 0) (fieldLe d 2 2) = true) : ∃ t, s.Fetched t ∧
    ∀ c ∈ submitCommands e host, nth 0 d 0 = c.1 → exec c.2 s = .next ((t.admitEntry e d).sqAdvance e) := by
  obtain ⟨t, hf, ht⟩ := hd.sqFetch
  refine ⟨t, ht, fun c hc hk => ?_⟩
  rw [exec_submit s e host c hc, State.submitHead_takes hw hf (.inl hk), State.takeEntry_admits ((ht.entryRefused e d).trans hr) ((ht.queueRoom _ _ _).trans hroom)]

end Admission

/-- Settles O44: the writes of the ring's registers, and each branch of admission. -/
theorem submissionRingsAreEnabledAndAdmitted : Obligations.SubmissionRingsAreEnabledAndAdmitted := by
  intro s e host sq again reach
  refine ⟨fun req v hreach hno => ?foreign, fun req v hreach hown => ?own, fun ins hins hidle => ?idle, fun hw => ?enters⟩
  case foreign =>
    have h : s.ReachesRings req e := hreach
    rw [exec_sqTailWrite_at h, exec_easelEnable_at h, exec_cqHeadWrite_at h, hno]
    exact ⟨rfl, rfl, rfl⟩
  case own =>
    have h : s.ReachesRings req e := hreach
    rw [exec_sqTailWrite_at h, exec_easelEnable_at h, exec_cqHeadWrite_at h, hown, Bool.true_and, Bool.true_and]
    simp only [decide_eq_true_eq, if_true]
    refine ⟨fun hv => if_neg (Nat.not_lt.mpr hv), fun hv => if_neg (Nat.not_lt.mpr hv), fun hv => ⟨_, if_pos hv, s.sqTail_spec e v.isLt⟩, fun hnone => ⟨fun hv => ?head, fun hoff => ?enable⟩,
      fun hon => congrArg _ (State.easEnable_on hon)⟩
    case head => exact ⟨_, if_pos hv, State.cqHead_spec hnone v.isLt⟩
    case enable => exact ⟨_, rfl, State.easEnable_spec hnone hoff⟩
  case idle =>
    have hrun : ∃ c ∈ submitCommands e host, c.2 = ins := by
      simp only [List.mem_cons, List.not_mem_nil, or_false] at hins
      rcases hins with rfl | rfl | rfl <;> simp [submitCommands]
    obtain ⟨c, hc, rfl⟩ := hrun
    rw [exec_submit s e host c hc, State.submitHead_idle (State.sqWaiting_false hidle)]
  case enters =>
    intro a d hd k target done id
    have h : s.HeadEntry e host d := hd
    have hdone : ∀ t, s.EntryTaken t e → done t := fun t ht => ⟨ht.head, ht.wait, ht.mem⟩
    refine ⟨fun c hc => ⟨exec_submit_other hw h c hc, fun hk hr hroom => exec_submit_waits hw h hr hroom c hc hk, fun st hk hr hfull hnone => ?refused⟩,
      fun hk hr hroom => ?tcore, fun hk hr hroom => ?score, fun hk hr hcount => ?discarded, fun hk hr hcount hidle => ?arm⟩
    case refused =>
      obtain ⟨t, ht, htaken, hrest⟩ := exec_submit_refused hw h hfull hnone hr c hc hk
      exact ⟨t, ht, hdone t htaken, hrest⟩
    case tcore =>
      obtain ⟨t, ht, hrun⟩ := exec_submit_admits hw h hr (show s.queueRoom e k target = true by rw [hk]; exact hroom)
      obtain ⟨hring, hlive, hqueue⟩ := State.admitEntry_tcore_spec (s := t) (e := e) hk
      rw [ht.live, ht.nextId] at hlive
      rw [State.tcore_congr ht.tc, ht.nextId] at hqueue
      exact ⟨_, hrun _ (.head _) hk, hdone _ ((ht.sameRing e).trans hring).sqAdvance, hlive, hqueue⟩
    case score =>
      obtain ⟨t, ht, hrun⟩ := exec_submit_admits hw h hr (show s.queueRoom e k target = true by rw [hk]; exact hroom)
      have hlt : target < targets k := State.target_lt hr
      rw [hk] at hlt
      obtain ⟨hring, hlive, hqueue⟩ := State.admitEntry_score_spec (s := t) (e := e) hk hlt
      rw [ht.live, ht.nextId] at hlive
      rw [State.score_congr ht.sc, ht.nextId] at hqueue
      exact ⟨_, hrun _ (.tail _ (.head _)) hk, hdone _ ((ht.sameRing e).trans hring).sqAdvance, hlive, hqueue⟩
    case discarded =>
      obtain ⟨t, ht, hrun⟩ := exec_submit_admits hw h hr (show s.queueRoom e k target = true by rw [hk]; rfl)
      have hadmit : t.admitEntry e d = t := (State.admitEntry_channel hk).trans (if_pos hcount)
      rw [hadmit] at hrun
      exact ⟨_, hrun _ (.tail _ (.tail _ (.head _))) hk, hdone _ (ht.sameRing e).sqAdvance, ht.str⟩
    case arm =>
      obtain ⟨t, ht, hrun⟩ := exec_submit_admits hw h hr (show s.queueRoom e k target = true by rw [hk]; rfl)
      have hadmit := ((State.admitEntry_channel (s := t) (e := e) hk).trans (if_neg hcount)).trans (State.armChan_idle _ ((congrArg Chan.run (State.chan_congr ht.str _)).trans hidle))
      rw [hadmit] at hrun
      obtain ⟨hstarted, -, -⟩ := State.startRun_spec t target ⟨fieldLe d 16 8, fieldLe d 24 2, decide (nth 0 d 26 = 1), .ring⟩ false
      rw [ht.nextId] at hstarted
      exact ⟨_, hrun _ (.tail _ (.tail _ (.head _))) hk, hdone _ ((ht.sameRing e).trans (t.startRun_sameRing _ _ _ e)).sqAdvance, hstarted⟩

end Sys2Proof.Machine

/-! SUPPORT. The order of a decision point (10 R318, R319): which command it takes, and what it leaves of a core, once for both kinds of core. -/
namespace Sys2Proof.Machine

open Sys2Proof Sys2Proof.Laws

/-! ### The first by a measure, and the best by priority (R318) -/

theorem mem_of_firstBy {f : Cmd → Nat} {l : List Cmd} {d : Cmd} (h : firstBy f l = some d) : d ∈ l := by
  induction l generalizing d with
  | nil => cases h
  | cons c r ih =>
    unfold firstBy at h
    cases hr : firstBy f r with
    | none => rw [hr] at h; exact Option.some.inj h ▸ .head _
    | some x =>
      rw [hr] at h
      dsimp only at h
      split at h
      · exact .tail _ (ih (h ▸ hr))
      · exact Option.some.inj h ▸ .head _

/-- The first in list order of those with the least measure. -/
theorem firstBy_split {f : Cmd → Nat} {r : Cmd} {l1 l2 : List Cmd} (h1 : ∀ x ∈ l1, f r < f x) (h2 : ∀ x ∈ l2, f r ≤ f x) : firstBy f (l1 ++ r :: l2) = some r := by
  induction l1 with
  | nil =>
    rw [List.nil_append, firstBy]
    cases hx : firstBy f l2 with
    | none => rfl
    | some x => exact if_neg (Nat.not_lt.mpr (h2 x (mem_of_firstBy hx)))
  | cons c l1 ih =>
    rw [List.cons_append, firstBy, ih fun x hx => h1 x (.tail _ hx)]
    exact if_pos (h1 c (.head _))

theorem State.before_of_prio {s : State} (eng : Nat) {a b : Cmd} (h : s.fld b.easel F.EAS_CFG_PRIO < s.fld a.easel F.EAS_CFG_PRIO) : s.before eng a b = true := by
  unfold State.before; dsimp only; rw [decide_eq_true h, Bool.true_or]

theorem State.not_before_of_prio {s : State} (eng : Nat) {a b : Cmd} (h : s.fld a.easel F.EAS_CFG_PRIO < s.fld b.easel F.EAS_CFG_PRIO) : s.before eng a b = false := by
  unfold State.before; dsimp only
  rw [decide_eq_false (Nat.not_lt.mpr h.le), decide_eq_false h.ne, Bool.false_and, Bool.false_or]

theorem State.best_cons (s : State) (eng : Nat) (c : Cmd) (l : List Cmd) : s.best eng (c :: l) = some c ∨ s.best eng (c :: l) = s.best eng l := by
  rw [State.best]
  split
  · next d hd =>
    split
    · exact .inr hd.symm
    · exact .inl rfl
  · exact .inl rfl

theorem State.mem_of_best {s : State} {eng : Nat} {l : List Cmd} {d : Cmd} (h : s.best eng l = some d) : d ∈ l := by
  induction l with
  | nil => cases h
  | cons c l ih =>
    rcases s.best_cons eng c l with hc | hc
    · exact Option.some.inj (hc.symm.trans h) ▸ .head _
    · exact .tail _ (ih (hc.symm.trans h))

/-- A command of higher priority than every other is the best. -/
theorem State.best_of_prio {s : State} {eng : Nat} {l : List Cmd} {r : Cmd} (hr : r ∈ l) (h : ∀ x ∈ l, x = r ∨ s.fld x.easel F.EAS_CFG_PRIO < s.fld r.easel F.EAS_CFG_PRIO) :
    s.best eng l = some r := by
  induction l with
  | nil => cases hr
  | cons c l ih =>
    unfold State.best
    by_cases hl : r ∈ l
    · rw [ih hl fun x hx => h x (.tail _ hx)]
      dsimp only
      rcases h c (.head _) with hc | hc
      · rw [hc, ite_self]
      · rw [State.before_of_prio eng hc, if_pos rfl]
    · have hc : r = c := (List.mem_cons.mp hr).resolve_right hl
      subst hc
      cases hd : s.best eng l with
      | none => rfl
      | some d =>
        have hmem := State.mem_of_best hd
        have hlt := (h d (.tail _ hmem)).resolve_left fun he => hl (he ▸ hmem)
        dsimp only
        rw [State.not_before_of_prio eng hlt]; rfl

/-! ### Commands marked as passed over (R318) -/

theorem markPassed_ids (ids : List Nat) (l : List Cmd) : (markPassed ids l).map (·.id) = l.map (·.id) := by
  unfold markPassed
  rw [List.map_map]
  refine List.map_congr_left fun c _ => ?_
  rw [Function.comp_apply]
  split <;> rfl

/-- A command is marked where its number is among those passed over, and one marked before stays so. -/
theorem passed_of_mem_markPassed {ids : List Nat} {l : List Cmd} {x : Cmd} (hx : x ∈ markPassed ids l) (h : x.id ∈ ids ∨ ∀ y ∈ l, y.id = x.id → y.passed = true) : x.passed = true := by
  obtain ⟨c, hc, rfl⟩ := List.mem_map.mp hx
  by_cases hid : c.id ∈ ids
  · rw [if_pos hid]
  · rw [if_neg hid] at h ⊢
    exact (h.resolve_left hid) c hc rfl

theorem State.passOver_frame (s : State) (c : Cmd) : RegsFrame [F.EAS_FIT_WAIT_COUNT.off, F.SCH_FIT_DENY_COUNT.off] s (s.passOver c) := by
  unfold State.passOver
  split
  · exact .refl _ s
  · exact ((RegsFrame.refl _ s).setFld _ F.EAS_FIT_WAIT_COUNT _ (by decide) (by decide)).setFld _ F.SCH_FIT_DENY_COUNT _ (by decide) (by decide)

theorem State.passOver_each (l : List Cmd) (s : State) : RegsFrame [F.EAS_FIT_WAIT_COUNT.off, F.SCH_FIT_DENY_COUNT.off] s (forEach l (fun c v => v.passOver c) s) :=
  each_keep (RegsFrame _ s) _ (fun c v h => h.trans (v.passOver_frame c)) l s (.refl _ s)

/-! ### Virtual times, windows (R319; 19 R541) -/

/-- A decision point notes the easels with eligible commands: of the scheduler alone, virtual times and that list change. -/
theorem State.noteEligible_rest (s : State) (eng : Nat) (es : List Nat) : ∃ v x, s.noteEligible eng es = { s with sched := { s.sched with vtime := v, elig := x } } := by
  unfold State.noteEligible
  dsimp only
  split
  · next v _ =>
    obtain ⟨vt, hvt⟩ := each_keep (fun u : State => ∃ vt, u = { s with sched := { s.sched with vtime := vt } })
      (fun e (u : State) => u.setVtime eng e (max (u.vtime eng e) v)) (fun e u hu => by obtain ⟨vt, rfl⟩ := hu; exact ⟨_, rfl⟩)
      (es.filter (fun e => decide (e ∉ SMap.get (fun _ => []) s.sched.elig eng))) s ⟨s.sched.vtime, rfl⟩
    exact ⟨vt, _, by rw [hvt]⟩
  · exact ⟨s.sched.vtime, _, rfl⟩

/-- A grant to a tenant is charged to the engine's window. -/
theorem State.charge_rest (s : State) {eng e : Nat} (d : Nat) (he : e ≠ 0) : ∃ x, s.charge eng e d = { s with sched := x } ∧
    SMap.get (fun _ => 0) x.window eng = s.windowUsed eng + d :=
  ⟨_, if_neg he, SMap.get_set_same _ _ _ _⟩

/-! ### What a decision point sees of a core, of either kind -/

/-- A core's waiting and granted commands, and what else of it a grant leaves alone. None of it lies in the scheduler's own state. -/
structure CoreView (α : Type) where
  queue : State → List Cmd
  granted : State → List Cmd
  rest : State → α
  queue_sched : ∀ (s : State) x, queue { s with sched := x } = queue s
  granted_sched : ∀ (s : State) x, granted { s with sched := x } = granted s
  rest_sched : ∀ (s : State) x, rest { s with sched := x } = rest s

section View

variable {α : Type} (V : CoreView α) (eng : Nat)

/-- From `s` to `t` no command of the core was taken: at most, waiting commands were marked. -/
structure CoreView.Waits (s t : State) : Prop where
  granted : V.granted t = V.granted s
  ids : (V.queue t).map (·.id) = (V.queue s).map (·.id)
  rest : V.rest t = V.rest s
  window : t.windowUsed eng = s.windowUsed eng
  mem : t.mem = s.mem

/-- From `s` to `t` the core took one command, and `w` was charged to its window (R318; 19 R541). -/
structure CoreView.Takes (s t : State) (r : Cmd) (w : Nat) : Prop where
  granted : V.granted t = V.granted s ++ [r]
  ids : (V.queue t).map (·.id) = ((V.queue s).map (·.id)).filter (fun i => decide (i ≠ r.id))
  rest : V.rest t = V.rest s
  window : t.windowUsed eng = s.windowUsed eng + w
  mem : t.mem = s.mem

variable {V eng} {s t u : State}

theorem CoreView.Waits.refl (s : State) : V.Waits eng s s := ⟨rfl, rfl, rfl, rfl, rfl⟩

theorem CoreView.Waits.trans (h : V.Waits eng s t) (k : V.Waits eng t u) : V.Waits eng s u :=
  ⟨k.granted.trans h.granted, k.ids.trans h.ids, k.rest.trans h.rest, k.window.trans h.window, k.mem.trans h.mem⟩

theorem CoreView.Waits.takes {r : Cmd} {w : Nat} (h : V.Waits eng s t) (k : V.Takes eng t u r w) : V.Takes eng s u r w :=
  ⟨by rw [k.granted, h.granted], by rw [k.ids, h.ids], k.rest.trans h.rest, by rw [k.window, h.window], k.mem.trans h.mem⟩

theorem CoreView.waits_noteEligible (V : CoreView α) (eng : Nat) (s : State) (es : List Nat) : V.Waits eng s (s.noteEligible eng es) := by
  obtain ⟨v, x, h⟩ := s.noteEligible_rest eng es
  rw [h]
  exact ⟨V.granted_sched _ _, congrArg _ (V.queue_sched _ _), V.rest_sched _ _, rfl, rfl⟩

theorem CoreView.Takes.charge {r : Cmd} (h : V.Takes eng s t r 0) (he : r.easel ≠ 0) (d : Nat) : V.Takes eng s (t.charge eng r.easel d) r d := by
  obtain ⟨x, ht, hx⟩ := t.charge_rest (eng := eng) d he
  rw [ht]
  exact ⟨(V.granted_sched _ _).trans h.granted, by rw [V.queue_sched]; exact h.ids, (V.rest_sched _ _).trans h.rest, by rw [← Nat.add_zero (s.windowUsed eng), ← h.window]; exact hx, h.mem⟩

/-- A grant moves one command, and passing commands over marks them; neither changes the scheduler's own state or a priority. -/
structure CoreView.Moves (V : CoreView α) (grant : Cmd → State → State) (deny : List Cmd → State → State) : Prop where
  grant_queue : ∀ c s, V.queue (grant c s) = (V.queue s).filter (fun x => decide (x.id ≠ c.id))
  grant_granted : ∀ c s, V.granted (grant c s) = V.granted s ++ [c]
  grant_rest : ∀ c s, V.rest (grant c s) = V.rest s
  grant_sched : ∀ c s, (grant c s).sched = s.sched
  grant_mem : ∀ c s, (grant c s).mem = s.mem
  deny_queue : ∀ l s, V.queue (deny l s) = markPassed (l.map (·.id)) (V.queue s)
  deny_granted : ∀ l s, V.granted (deny l s) = V.granted s
  deny_rest : ∀ l s, V.rest (deny l s) = V.rest s
  deny_sched : ∀ l s, (deny l s).sched = s.sched
  deny_mem : ∀ l s, (deny l s).mem = s.mem
  deny_prio : ∀ l s e, (deny l s).fld e F.EAS_CFG_PRIO = s.fld e F.EAS_CFG_PRIO

variable {grant : Cmd → State → State} {deny : List Cmd → State → State}

theorem CoreView.Moves.takes (h : V.Moves grant deny) (eng : Nat) (s : State) (r : Cmd) : V.Takes eng s (grant r s) r 0 where
  granted := h.grant_granted r s
  ids := by rw [h.grant_queue, List.filter_map]; rfl
  rest := h.grant_rest r s
  window := by unfold State.windowUsed; rw [h.grant_sched]; rfl
  mem := h.grant_mem r s

theorem CoreView.Moves.waits (h : V.Moves grant deny) (eng : Nat) (s : State) (l : List Cmd) : V.Waits eng s (deny l s) where
  granted := h.deny_granted l s
  ids := by rw [h.deny_queue, markPassed_ids]
  rest := h.deny_rest l s
  window := by unfold State.windowUsed; rw [h.deny_sched]
  mem := h.deny_mem l s

/-! ### The order of management and tenants (R318) -/

/-- The decision among the candidates, once no radio command takes the core: the first management command that fits, else the best tenant's command that fits, else none. -/
def State.choose (s : State) (eng : Nat) (grant : Cmd → State → State) (deny : List Cmd → State → State) (len : Cmd → Nat) (fits : Cmd → Bool) (cand : List Cmd) : State :=
  match (cand.filter (fun c => decide (c.easel = 0))).find? fits with
  | some c => grant c s
  | none =>
    let tens := cand.filter (fun c => decide (c.easel ≠ 0))
    let s1 := deny (tens.filter (fun c => !fits c)) (deny ((cand.filter (fun c => decide (c.easel = 0))).filter (fun c => !fits c)) s)
    match s1.best eng (tens.filter fits) with
    | some c => (grant c s1).charge eng c.easel (len c)
    | none => s1

theorem find_management_none {fits : Cmd → Bool} {cand : List Cmd} (h : ∀ x ∈ cand, x.easel = 0 → ¬ fits x = true) : (cand.filter (fun c => decide (c.easel = 0))).find? fits = none :=
  List.find?_eq_none.mpr fun x hx => h x (List.mem_of_mem_filter hx) (of_decide_eq_true (List.mem_filter.mp hx).2)

variable {len : Cmd → Nat} {fits : Cmd → Bool} {cand : List Cmd} (hm : V.Moves grant deny)
include hm

theorem CoreView.Moves.choose_management {r : Cmd} {l1 l2 : List Cmd} (hl : cand.filter (fun c => decide (c.easel = 0)) = l1 ++ r :: l2) (h1 : ∀ x ∈ l1, ¬ fits x = true) (hr : fits r = true) :
    V.Takes eng s (s.choose eng grant deny len fits cand) r 0 := by
  have hfind : (cand.filter (fun c => decide (c.easel = 0))).find? fits = some r := List.find?_eq_some_iff_append.mpr ⟨hr, l1, l2, hl, fun x hx => by simpa using h1 x hx⟩
  unfold State.choose
  rw [hfind]
  exact hm.takes eng s r

theorem CoreView.Moves.choose_tenant {r : Cmd} (hr : r ∈ cand) (h0 : ∀ x ∈ cand, x.easel = 0 → ¬ fits x = true) (he : r.easel ≠ 0) (hfit : fits r = true)
    (hprio : ∀ x ∈ cand, x.easel ≠ 0 → fits x = true → x = r ∨ s.fld x.easel F.EAS_CFG_PRIO < s.fld r.easel F.EAS_CFG_PRIO) :
    V.Takes eng s (s.choose eng grant deny len fits cand) r (len r) := by
  have hbest : ∀ l1 l2, (deny l1 (deny l2 s)).best eng ((cand.filter (fun c => decide (c.easel ≠ 0))).filter fits) = some r := fun l1 l2 => by
    refine State.best_of_prio (List.mem_filter.mpr ⟨List.mem_filter.mpr ⟨hr, decide_eq_true he⟩, hfit⟩) fun x hx => ?_
    obtain ⟨hx, hf⟩ := List.mem_filter.mp hx
    obtain ⟨hc, hne⟩ := List.mem_filter.mp hx
    rw [hm.deny_prio, hm.deny_prio, hm.deny_prio, hm.deny_prio]
    exact hprio x hc (of_decide_eq_true hne) hf
  unfold State.choose
  rw [find_management_none h0]
  dsimp only
  rw [hbest]
  exact ((hm.waits eng s _).trans (hm.waits eng _ _)).takes ((hm.takes eng _ r).charge he (len r))

theorem CoreView.Moves.choose_none (h : ∀ x ∈ cand, ¬ fits x = true) :
    V.Waits eng s (s.choose eng grant deny len fits cand) ∧ ∀ x ∈ V.queue (s.choose eng grant deny len fits cand), x.id ∈ cand.map (·.id) → x.passed = true := by
  have htens : (cand.filter (fun c => decide (c.easel ≠ 0))).filter fits = [] := List.filter_eq_nil_iff.mpr fun x hx => h x (List.mem_of_mem_filter hx)
  have hall : ∀ p : Cmd → Bool, (cand.filter p).filter (fun c => !fits c) = cand.filter p := fun p =>
    List.filter_eq_self.mpr fun x hx => by simpa using h x (List.mem_of_mem_filter hx)
  unfold State.choose
  rw [find_management_none fun x hx _ => h x hx]
  dsimp only
  rw [htens, hall, hall]
  refine ⟨(hm.waits eng s _).trans (hm.waits eng _ _), fun x hx hid => ?_⟩
  replace hx : x ∈ V.queue (deny (cand.filter (fun c => decide (c.easel ≠ 0))) (deny (cand.filter (fun c => decide (c.easel = 0))) s)) := hx
  rw [hm.deny_queue, hm.deny_queue] at hx
  obtain ⟨c, hc, hcid⟩ := List.mem_map.mp hid
  refine passed_of_mem_markPassed hx ?_
  by_cases h0 : c.easel = 0
  · exact .inr fun y hy hyid => passed_of_mem_markPassed hy (.inl (hyid ▸ hcid ▸ List.mem_map_of_mem (List.mem_filter.mpr ⟨hc, decide_eq_true h0⟩)))
  · exact .inl (hcid ▸ List.mem_map_of_mem (List.mem_filter.mpr ⟨hc, decide_eq_true h0⟩))

/-- A decision point of a core goes by the order of R318 among the released radio commands `rel` and the candidates `cand`; `free` says that no program has to return to the core first. -/
structure CoreView.Decides (V : CoreView α) (eng : Nat) (s u : State) (rel cand : List Cmd) (fits : Cmd → Bool) (len : Cmd → Nat) (free : Prop) : Prop where
  radio : ∀ r l1 l2, rel = l1 ++ r :: l2 → (∀ x ∈ l1, r.latest < x.latest) → (∀ x ∈ l2, r.latest ≤ x.latest) → V.Takes eng s u r 0
  management : ∀ r l1 l2, rel = [] → cand.filter (fun c => decide (c.easel = 0)) = l1 ++ r :: l2 → (∀ x ∈ l1, ¬ fits x = true) → fits r = true → V.Takes eng s u r 0
  tenant : ∀ r ∈ cand, rel = [] → (∀ x ∈ cand, x.easel = 0 → ¬ fits x = true) → r.easel ≠ 0 → fits r = true →
    (∀ x ∈ cand, x.easel ≠ 0 → fits x = true → x = r ∨ s.fld x.easel F.EAS_CFG_PRIO < s.fld r.easel F.EAS_CFG_PRIO) → V.Takes eng s u r (len r)
  none : rel = [] → free → (∀ x ∈ cand, ¬ fits x = true) → V.Waits eng s u ∧ ∀ x ∈ V.queue u, x.id ∈ cand.map (·.id) → x.passed = true

theorem CoreView.Moves.decides {rel : List Cmd} {free : Prop} {es : List Nat} (hfree : ∀ x ∈ cand, free)
    (hradio : ∀ r, firstBy (·.latest) rel = some r → u = grant r (s.noteEligible eng es))
    (hchoose : rel = [] → free → u = (s.noteEligible eng es).choose eng grant deny len fits cand) : V.Decides eng s u rel cand fits len free := by
  have hw := V.waits_noteEligible eng s es
  have hprio : ∀ e, (s.noteEligible eng es).fld e F.EAS_CFG_PRIO = s.fld e F.EAS_CFG_PRIO := by
    obtain ⟨v, x, h⟩ := s.noteEligible_rest eng es
    rw [h]; exact fun _ => rfl
  refine ⟨fun r l1 l2 hl h1 h2 => ?radio, fun r l1 l2 h0 hl h1 hr => ?management, fun r hr h0 hmgmt he hfit hbest => ?tenant, fun h0 hf hall => ?none⟩
  case radio =>
    rw [hradio r (by rw [hl]; exact firstBy_split h1 h2)]
    exact hw.takes (hm.takes eng _ r)
  case management =>
    have hr' : r ∈ cand := List.mem_of_mem_filter (p := fun c => decide (c.easel = 0)) (by rw [hl]; simp)
    rw [hchoose h0 (hfree r hr')]
    exact hw.takes (hm.choose_management hl h1 hr)
  case tenant =>
    rw [hchoose h0 (hfree r hr)]
    exact hw.takes (hm.choose_tenant hr hmgmt he hfit fun x hx hx0 hf => by rw [hprio, hprio]; exact hbest x hx hx0 hf)
  case none =>
    rw [hchoose h0 hf]
    obtain ⟨hn, hpassed⟩ := hm.choose_none (eng := eng) (s := s.noteEligible eng es) (len := len) hall
    exact ⟨hw.trans hn, hpassed⟩

end View

end Sys2Proof.Machine

/-! SUPPORT. Grants on T-cores and S-cores and the modes (10 R312, R318, R322 to R326; 03 R75): each core's decision point goes by the order, the switch of the modes, and the statement about them. -/
namespace Sys2Proof.Machine

open Sys2Proof Sys2Proof.Laws

/-! ### A decision point of a T-core (R318, R322, R323) -/

/-- A T-core: a grant leaves the commands that run. -/
def tcView (core : Nat) : CoreView (List TcRun) where
  queue s := (s.tcore core).queue
  granted s := (s.tcore core).granted
  rest s := (s.tcore core).running
  queue_sched _ _ := rfl
  granted_sched _ _ := rfl
  rest_sched _ _ := rfl

/-- Commands of a T-core that do not fit are passed over. -/
def State.tcDeny (s : State) (core : Nat) (l : List Cmd) : State :=
  forEach l (fun c v => v.passOver c) (s.setTcore core 0 { s.tcore core with queue := markPassed (l.map (·.id)) (s.tcore core).queue })

/-- Loading idle sets changes the warm sets of one T-core alone (05 R166). -/
theorem State.loadSets_rest (s : State) (core : Nat) (c : Cmd) (l : List Nat) : let t := forEach l (fun a (u : State) => u.loadSet core c a) s
    t.mem = s.mem ∧ t.sched = s.sched ∧ ∃ w, t.tcore core = { s.tcore core with warm := w } :=
  each_keep (fun t : State => t.mem = s.mem ∧ t.sched = s.sched ∧ ∃ w, t.tcore core = { s.tcore core with warm := w }) (fun a (u : State) => u.loadSet core c a)
    (fun a u ⟨hmem, hsched, w, hw⟩ => ⟨hmem, hsched, _, by rw [State.tcore_loadSet, hw]⟩) l s ⟨rfl, rfl, _, rfl⟩

/-- The idle sets that a grant loads early, before the command is moved. -/
theorem State.tcGrant_eq (s : State) (core early : Nat) (c : Cmd) : ∃ s1 : State, s.tcGrant core early c = s1.setTcore core c.easel
      { s1.tcore core with queue := (s1.tcore core).queue.filter (fun x => decide (x.id ≠ c.id)), granted := (s1.tcore core).granted ++ [c] } ∧
    s1.mem = s.mem ∧ s1.sched = s.sched ∧ ∃ w, s1.tcore core = { s.tcore core with warm := w } := by
  unfold State.tcGrant
  dsimp only
  split
  · exact ⟨_, rfl, s.loadSets_rest core c _⟩
  · exact ⟨_, rfl, rfl, rfl, _, rfl⟩

theorem State.tcore_tcGrant (s : State) (core early : Nat) (c : Cmd) : ∃ w, (s.tcGrant core early c).tcore core =
    { s.tcore core with queue := (s.tcore core).queue.filter (fun x => decide (x.id ≠ c.id)), granted := (s.tcore core).granted ++ [c], warm := w } := by
  obtain ⟨s1, hrun, -, -, w, hw⟩ := s.tcGrant_eq core early c
  exact ⟨w, by rw [hrun, State.tcore_setTcore, hw]⟩

theorem State.sched_setTcore (s : State) (core e : Nat) (t : TcSt) : (s.setTcore core e t).sched = s.sched := by rw [(s.setTcore_frame core e t).rest]

theorem State.sched_tcGrant (s : State) (core early : Nat) (c : Cmd) : (s.tcGrant core early c).sched = s.sched := by
  obtain ⟨s1, hrun, -, hsched, -⟩ := s.tcGrant_eq core early c
  rw [hrun, State.sched_setTcore, hsched]

theorem State.mem_tcGrant (s : State) (core early : Nat) (c : Cmd) : (s.tcGrant core early c).mem = s.mem := by
  obtain ⟨s1, hrun, hmem, -⟩ := s.tcGrant_eq core early c
  rw [hrun, State.setTcore_mem, hmem]

theorem State.tcDeny_passes (s : State) (core : Nat) (l : List Cmd) : RegsFrame [F.EAS_FIT_WAIT_COUNT.off, F.SCH_FIT_DENY_COUNT.off]
    (s.setTcore core 0 { s.tcore core with queue := markPassed (l.map (·.id)) (s.tcore core).queue }) (s.tcDeny core l) := State.passOver_each l _

theorem State.tcore_tcDeny (s : State) (core : Nat) (l : List Cmd) : (s.tcDeny core l).tcore core = { s.tcore core with queue := markPassed (l.map (·.id)) (s.tcore core).queue } := by
  have htc : (s.tcDeny core l).tc = (s.setTcore core 0 { s.tcore core with queue := markPassed (l.map (·.id)) (s.tcore core).queue }).tc := by rw [(s.tcDeny_passes core l).rest]
  rw [State.tcore_congr htc, State.tcore_setTcore]

theorem tcView_moves (core early : Nat) : (tcView core).Moves (fun c s => s.tcGrant core early c) (fun l s => s.tcDeny core l) where
  grant_queue c s := by obtain ⟨w, hw⟩ := s.tcore_tcGrant core early c; exact (congrArg TcSt.queue hw :)
  grant_granted c s := by obtain ⟨w, hw⟩ := s.tcore_tcGrant core early c; exact (congrArg TcSt.granted hw :)
  grant_rest c s := by obtain ⟨w, hw⟩ := s.tcore_tcGrant core early c; exact (congrArg TcSt.running hw :)
  grant_sched c s := s.sched_tcGrant core early c
  grant_mem c s := s.mem_tcGrant core early c
  deny_queue l s := (congrArg TcSt.queue (s.tcore_tcDeny core l) :)
  deny_granted l s := (congrArg TcSt.granted (s.tcore_tcDeny core l) :)
  deny_rest l s := (congrArg TcSt.running (s.tcore_tcDeny core l) :)
  deny_sched l s := by rw [(s.tcDeny_passes core l).rest]; exact s.sched_setTcore core 0 _
  deny_mem l s := (s.tcDeny_passes core l).mem.trans (s.setTcore_mem core 0 _)
  deny_prio l s e := ((s.tcDeny_passes core l).fld e F.EAS_CFG_PRIO (by decide) (by decide)).trans ((s.setTcore_frame core 0 _).fld e F.EAS_CFG_PRIO (by decide) (by decide))

section TcDecide

variable (s : State) (core t ready pl early : Nat)

/-- The released commands of a list. -/
def State.tcReleased (l : List Cmd) : List Cmd := l.filter (fun c => s.released t (c.waitEn && s.ownsLink c.easel c.waitLink) (.tcore core c.id) c)

/-- The radio commands that a decision point may grant. -/
def State.tcRadio : List Cmd :=
  (s.tcReleased core t (s.tcore core).queue).filter (fun c => decide (c.arrays &&& ready = c.arrays ∧ s.tcPower core = 0) && s.coreServes F.TC_PARTITION_OWNER core 0)

/-- The easels' next commands that meet the launch conditions. -/
def State.tcCandidates : List Cmd := (nextOf (s.tcore core).queue []).filter (s.tcEligible core ready)

/-- The tests of a decision point. -/
def State.tcTests : Cmd → Bool := s.tcFits core t pl (!(s.tcReleased core t ((s.tcore core).queue ++ (s.tcore core).granted)).isEmpty)

/-- The state in which the decision is made. -/
def State.tcNoted : State := s.noteEligible core (((s.tcCandidates core ready).filter (fun c => decide (c.easel ≠ 0))).map (·.easel))

variable {s core t ready pl early}

theorem State.tcDecide_radio {r : Cmd} (h : firstBy (·.latest) (s.tcRadio core t ready) = some r) : s.tcDecide core t ready pl early = (s.tcNoted core ready).tcGrant core early r := by
  unfold State.tcRadio State.tcReleased at h
  unfold State.tcDecide
  dsimp only
  rw [h]
  rfl

theorem State.tcFits_noteEligible (s : State) (core t pl eng : Nat) (es : List Nat) (pend : Bool) : (s.noteEligible eng es).tcFits core t pl pend = s.tcFits core t pl pend := by
  obtain ⟨v, x, h⟩ := s.noteEligible_rest eng es
  rw [h]; rfl

theorem State.tcDecide_choose (h : firstBy (·.latest) (s.tcRadio core t ready) = none) : s.tcDecide core t ready pl early =
    (s.tcNoted core ready).choose core (fun c v => v.tcGrant core early c) (fun l v => v.tcDeny core l) (·.occupancy) (s.tcTests core t pl) (s.tcCandidates core ready) := by
  unfold State.tcRadio State.tcReleased at h
  unfold State.tcDecide
  dsimp only
  rw [h, State.tcFits_noteEligible]
  rfl

theorem State.tcDecide_decides (s : State) (core t ready pl early : Nat) : (tcView core).Decides core s (s.tcDecide core t ready pl early) (s.tcRadio core t ready) (s.tcCandidates core ready)
    (s.tcTests core t pl) (·.occupancy) True :=
  (tcView_moves core early).decides (fun _ _ => trivial) (fun _ hr => State.tcDecide_radio hr) fun h0 _ => State.tcDecide_choose (by rw [h0]; rfl)

end TcDecide

/-! ### A decision point of an S-core (R318, R322, R324, R325) -/

/-- An S-core: a grant leaves the context that runs. -/
def scView (core : Nat) : CoreView (Option ScCtx) where
  queue s := (s.score core).queue
  granted s := (s.score core).granted
  rest s := (s.score core).cur
  queue_sched _ _ := rfl
  granted_sched _ _ := rfl
  rest_sched _ _ := rfl

/-- Commands of an S-core that do not fit are passed over. -/
def State.scDeny (s : State) (core : Nat) (l : List Cmd) : State :=
  forEach l (fun c v => v.passOver c) (s.setScore core 0 { s.score core with queue := markPassed (l.map (·.id)) (s.score core).queue })

theorem State.sched_setScore (s : State) (core e : Nat) (t : ScSt) : (s.setScore core e t).sched = s.sched := by
  obtain ⟨-, -, -, hsched, -⟩ := setScore_keep s core e t; exact hsched

theorem State.score_scGrant (s : State) (core : Nat) (c : Cmd) : ∃ req, (s.scGrant core c).score core =
    { s.score core with queue := (s.score core).queue.filter (fun x => decide (x.id ≠ c.id)), granted := (s.score core).granted ++ [c], req := req } :=
  ⟨_, State.score_setScore _ _ _ _⟩

theorem State.scDeny_passes (s : State) (core : Nat) (l : List Cmd) : RegsFrame [F.EAS_FIT_WAIT_COUNT.off, F.SCH_FIT_DENY_COUNT.off]
    (s.setScore core 0 { s.score core with queue := markPassed (l.map (·.id)) (s.score core).queue }) (s.scDeny core l) := State.passOver_each l _

theorem State.score_scDeny (s : State) (core : Nat) (l : List Cmd) : (s.scDeny core l).score core = { s.score core with queue := markPassed (l.map (·.id)) (s.score core).queue } := by
  have hsc : (s.scDeny core l).sc = (s.setScore core 0 { s.score core with queue := markPassed (l.map (·.id)) (s.score core).queue }).sc := by rw [(s.scDeny_passes core l).rest]
  rw [State.score_congr hsc, State.score_setScore]

theorem scView_moves {core : Nat} (hc : core < 192) : (scView core).Moves (fun c s => s.scGrant core c) (fun l s => s.scDeny core l) where
  grant_queue c s := by obtain ⟨q, hq⟩ := s.score_scGrant core c; exact (congrArg ScSt.queue hq :)
  grant_granted c s := by obtain ⟨q, hq⟩ := s.score_scGrant core c; exact (congrArg ScSt.granted hq :)
  grant_rest c s := by obtain ⟨q, hq⟩ := s.score_scGrant core c; exact (congrArg ScSt.cur hq :)
  grant_sched c s := s.sched_setScore core c.easel _
  grant_mem c s := s.setScore_mem core c.easel _
  deny_queue l s := (congrArg ScSt.queue (s.score_scDeny core l) :)
  deny_granted l s := (congrArg ScSt.granted (s.score_scDeny core l) :)
  deny_rest l s := (congrArg ScSt.cur (s.score_scDeny core l) :)
  deny_sched l s := by rw [(s.scDeny_passes core l).rest]; exact s.sched_setScore core 0 _
  deny_mem l s := (s.scDeny_passes core l).mem.trans (s.setScore_mem core 0 _)
  deny_prio l s e := ((s.scDeny_passes core l).fld e F.EAS_CFG_PRIO (by decide) (by decide)).trans (s.fld_setScore hc 0 _ e F.EAS_CFG_PRIO)

section ScDecide

variable (s : State) (core t : Nat)

/-- The radio commands that a decision point may grant. -/
def State.scRadio : List Cmd := (s.score core).queue.filter (fun c => s.released t (c.scWaitEn && s.ownsLink c.easel c.scWaitLink) (.score core c.id) c && s.scRadioMay core t && s.coreServes F.SC_PARTITION_OWNER core 0)

/-- The easels' next commands that meet the launch conditions. -/
def State.scCandidates : List Cmd := (nextOf (s.score core).queue []).filter (s.scEligible core)

/-- The state in which the decision is made. -/
def State.scNoted : State := s.noteEligible (64 + core) (((s.scCandidates core).filter (fun c => decide (c.easel ≠ 0))).map (·.easel))

variable {s core t}

theorem State.scFits_noteEligible (s : State) (core t eng : Nat) (es : List Nat) : (s.noteEligible eng es).scFits core t = s.scFits core t := by
  obtain ⟨v, x, h⟩ := s.noteEligible_rest eng es
  rw [h]; rfl

theorem State.scNoted_spec (s : State) (core : Nat) : (s.scNoted core).score core = s.score core ∧ (s.scNoted core).mem = s.mem := by
  unfold State.scNoted
  generalize List.map _ _ = es
  obtain ⟨v, x, h⟩ := s.noteEligible_rest (64 + core) es
  rw [h]
  exact ⟨rfl, rfl⟩

theorem State.scDecide_radio {r : Cmd} (h : firstBy (·.latest) (s.scRadio core t) = some r) : s.scDecide core t = (s.scNoted core).scGrant core r := by
  unfold State.scRadio at h
  unfold State.scDecide
  dsimp only
  rw [h]
  rfl

/-- A program that was parked returns where no radio command takes the core. -/
def ScSt.parkedAlone (q : ScSt) : Prop := q.running.isNone = true ∧ q.tenant.isSome = true ∧ (!q.granted.any (·.radio)) = true

theorem State.scDecide_returns (h : firstBy (·.latest) (s.scRadio core t) = none) (hp : (s.score core).parkedAlone) :
    s.scDecide core t = (s.scNoted core).setScore core 0 { (s.scNoted core).score core with running := some false } := by
  unfold State.scRadio at h
  unfold State.scDecide
  dsimp only
  rw [h]
  exact if_pos hp

theorem State.scDecide_choose (h : firstBy (·.latest) (s.scRadio core t) = none) (hp : ¬ (s.score core).parkedAlone) : s.scDecide core t =
    (s.scNoted core).choose (64 + core) (fun c v => v.scGrant core c) (fun l v => v.scDeny core l) (·.scRunLen) (s.scFits core t) (s.scCandidates core) := by
  unfold State.scRadio at h
  unfold State.scDecide
  dsimp only
  rw [h, State.scFits_noteEligible]
  exact if_neg hp

/-- A core with a candidate holds no parked program. -/
theorem State.not_parkedAlone_of_candidate {x : Cmd} (hx : x ∈ s.scCandidates core) : ¬ (s.score core).parkedAlone := fun ⟨_, hsome, _⟩ => by
  have he := (List.mem_filter.mp hx).2
  unfold State.scEligible at he
  simp only [Bool.and_eq_true, Option.isNone_iff_eq_none] at he
  obtain ⟨⟨⟨-, htenant⟩, -⟩, -⟩ := he
  rw [htenant] at hsome
  exact Bool.false_ne_true hsome

theorem State.scDecide_decides (s : State) {core : Nat} (hc : core < 192) (t : Nat) : (scView core).Decides (64 + core) s (s.scDecide core t) (s.scRadio core t) (s.scCandidates core)
    (s.scFits core t) (·.scRunLen) (¬ (s.score core).parkedAlone) :=
  (scView_moves hc).decides (fun _ => State.not_parkedAlone_of_candidate) (fun _ hr => State.scDecide_radio hr) fun h0 hp => State.scDecide_choose (by rw [h0]; rfl) hp

end ScDecide

/-! ### Modes (R312) -/

section Modes

variable {s : State} {req : Requester} (key : BitVec 8) (h : s.barOpen req F.SCH_MODE_CTRL_TO_NORMAL.off = true)
include h

theorem exec_toNormal_open : exec (.toNormal req key) s = .next (if s.modeWrite req key then s.setPartitioned false else s) := by
  change execToNormal req key s = _
  rw [execToNormal, access_open _ h]

theorem exec_toPartitioned_open : exec (.toPartitioned req key) s = .next (if s.modeWrite req key then s.setPartitioned true else s) := by
  change execToPartitioned req key s = _
  rw [execToPartitioned, access_open _ h]

end Modes

theorem State.modeWrite_iff (s : State) (req : Requester) (key : BitVec 8) : s.modeWrite req key = true ↔ req.manages = true ∧ key = 0xA5 ∧ s.fld 0 F.SCH_MODE_PART_MODE = 1 := by
  simp [State.modeWrite, and_assoc]

theorem State.setPartitioned_same {s : State} {b : Bool} (h : s.flag 0 F.SCH_MODE_PARTITIONED = b) : s.setPartitioned b = s := if_pos h

/-- The mode changes, and the commands in flight that were not already moving are those still moving. -/
theorem State.setPartitioned_spec {s : State} {b : Bool} (h : s.flag 0 F.SCH_MODE_PARTITIONED ≠ b) : let u := s.setPartitioned b
    u.flag 0 F.SCH_MODE_PARTITIONED = b ∧ u.sched.moving = s.inFlight.filter (fun i => decide (i ∉ s.sched.moving)) ∧ u.mem = s.mem ∧ u.tc = s.tc ∧ u.sc = s.sc := by
  have hrun : s.setPartitioned b = (({ s with sched := { s.sched with moving := s.inFlight.filter (fun i => decide (i ∉ s.sched.moving)) } } : State).setFlag 0 F.SCH_MODE_PARTITIONED b).showMoving :=
    if_neg h
  rw [hrun]
  refine ⟨?mode, ?moving, rfl, rfl, rfl⟩
  case mode => exact (State.flag_setFld_apart _ _ _ _ _ _ (by decide) (by decide) (by decide)).trans (State.flag_setFlag_same _ _ _ _ (by decide) (by decide))
  case moving => exact List.filter_eq_self.mpr fun i hi => decide_eq_true (List.mem_of_mem_filter hi)

/-- Settles O45: the decision point's branches in their order, for both kinds of core, and the switch of the modes. -/
theorem grantsFollowTheOrderAndModesSwitch : Obligations.GrantsFollowTheOrderAndModesSwitch := by
  intro s t pl ready early first prio
  refine ⟨fun c => ⟨fun hheld => congrArg Host.Outcome.next (if_pos hheld), fun hfree => ?tcore⟩, fun c => ⟨fun hheld => congrArg Host.Outcome.next (if_pos hheld), fun hfree => ?score⟩,
    fun req key ho => ⟨fun hno => ?refused, fun hmay b => ?accepted⟩⟩
  case tcore =>
    intro q rel cand fits takes
    have hrun : exec (.grant (.tcore c) t ready pl early) s = .next (s.tcDecide c t ready.toNat pl early.toNat) := congrArg Host.Outcome.next (if_neg (by rw [hfree]; exact Bool.false_ne_true))
    have hrel : s.tcRadio c t ready.toNat = rel := by
      unfold State.tcRadio State.tcReleased
      rw [List.filter_filter]
      exact List.filter_congr fun x _ => Bool.and_comm _ _
    have h := s.tcDecide_decides c t ready.toNat pl early.toNat
    rw [hrel] at h
    have htakes : ∀ {r w}, (tcView c).Takes c s (s.tcDecide c t ready.toNat pl early.toNat) r w → takes r w := fun k => ⟨_, hrun, k.granted, k.ids, k.rest, k.window, k.mem⟩
    refine ⟨fun r ⟨l1, l2, hl, h1, h2⟩ => htakes (h.radio r l1 l2 hl h1 h2), fun r l1 l2 h0 hl h1 hr => htakes (h.management r l1 l2 h0 hl h1 hr),
      fun r hr h0 hmgmt he hfit hbest => htakes (h.tenant r hr h0 hmgmt he hfit hbest), fun h0 hall => ?tcNone⟩
    case tcNone =>
      obtain ⟨k, hpassed⟩ := h.none h0 trivial hall
      exact ⟨_, hrun, k.granted, k.ids, hpassed, k.rest, k.mem⟩
  case score =>
    intro q rel cand fits takes
    have hrun : exec (.grant (.score c) t ready pl early) s = .next (s.scDecide c t) := congrArg Host.Outcome.next (if_neg (by rw [hfree]; exact Bool.false_ne_true))
    have h := s.scDecide_decides c.isLt t
    have htakes : ∀ {r w}, (scView c).Takes (64 + c) s (s.scDecide c t) r w → takes r w := fun k => ⟨_, hrun, k.granted, k.ids, k.rest, k.window, k.mem⟩
    refine ⟨fun r ⟨l1, l2, hl, h1, h2⟩ => htakes (h.radio r l1 l2 hl h1 h2), fun r l1 l2 h0 hl h1 hr => htakes (h.management r l1 l2 h0 hl h1 hr),
      fun r hr h0 hmgmt he hfit hbest => htakes (h.tenant r hr h0 hmgmt he hfit hbest), fun h0 hrunning htenant hradio => ?returns, fun h0 hall hother => ?scNone⟩
    case returns =>
      have hp : q.parkedAlone := ⟨by rw [hrunning]; rfl, Option.isSome_iff_ne_none.mpr htenant, by simpa using hradio⟩
      obtain ⟨hscore, hmem⟩ := s.scNoted_spec c
      refine ⟨_, hrun.trans (congrArg Host.Outcome.next (State.scDecide_returns (congrArg _ h0) hp)), ?_, (State.setScore_mem _ _ _ _).trans hmem⟩
      rw [State.score_setScore, hscore]
    case scNone =>
      have hp : ¬ q.parkedAlone := fun ⟨hnone, hsome, _⟩ => hother.elim (fun h => h (Option.isNone_iff_eq_none.mp hnone)) fun h => by rw [h] at hsome; exact Bool.false_ne_true hsome
      obtain ⟨k, hpassed⟩ := h.none h0 hp hall
      exact ⟨_, hrun, k.granted, k.ids, hpassed, k.rest, k.mem⟩
  case refused =>
    have hw : ¬ s.modeWrite req key = true := fun h => hno ((s.modeWrite_iff req key).mp h)
    rw [exec_toNormal_open key ho, exec_toPartitioned_open key ho, if_neg hw, if_neg hw]
    exact ⟨rfl, rfl⟩
  case accepted =>
    intro ins
    have hw : s.modeWrite req key = true := (s.modeWrite_iff req key).mpr hmay
    have hrun : exec ins s = .next (s.setPartitioned b) := by
      cases b
      · exact (exec_toNormal_open key ho).trans (congrArg _ (if_pos hw))
      · exact (exec_toPartitioned_open key ho).trans (congrArg _ (if_pos hw))
    refine ⟨fun hsame => hrun.trans (congrArg _ (State.setPartitioned_same hsame)), fun hother => ⟨_, hrun, State.setPartitioned_spec ?_⟩⟩
    rw [hother]; cases b <;> decide

end Sys2Proof.Machine

/-! SUPPORT. The step on an empty queue (11 R360; 15 R453; 16 R463): samples in progress end, one unit leaves on the link to the host, and the time of day advances. -/
namespace Sys2Proof.Machine

open Sys2Proof Sys2Proof.Laws

/-! ### A cycle in which nothing wakes and no packet waits -/

/-- No packet waits for a Yaroz link, and no T-core, stack or link is asleep. -/
structure State.Rests (s : State) : Prop where
  packets : s.eth.yzq = []
  bonded : s.fld 0 F.PWR_STK_SR_SR = 0
  links : s.fld 0 F.PWR_LINK_SLEEP_SLEEP = 0
  cores : ∀ i, i < 3 → s.fld 0 (F.PWR_TC_STATE_STATE i) = 0

/-- The power states lie in the registers below 0x30124. -/
theorem State.Rests.keep {s t : State} (h : s.Rests) (heth : t.eth = s.eth) (hk : ∀ f : Fld, f.off < 0x30124 → t.fld 0 f = s.fld 0 f) : t.Rests where
  packets := by rw [heth]; exact h.packets
  bonded := (hk _ (by decide)).trans h.bonded
  links := (hk _ (by decide)).trans h.links
  cores i hi := (hk _ (by show 0x30110 + i * 4 < _; omega)).trans (h.cores i hi)

/-- The samples in progress are over. -/
def State.samplesEnd (s : State) : State := forUpto 64 (fun e t => t.sampled e) s

/-- The time of day moves on while the S domain runs, and HOLD_S with it. -/
def State.countCycle (s : State) : State :=
  if s.runs .s then ({ s with tod := (s.tod + s.fld64 0 F.TOD_INCR_LO_INCR F.TOD_INCR_HI_INCR) % 2 ^ 104 }).showHold else s

theorem State.tick_eq (s : State) :
    s.tick = (if s.flag 0 F.SEQ_STATUS_SAMPLER_BUSY then s.samplesEnd else s).hostSend.sendLinks.wakeDue.countCycle := rfl

theorem State.Rests.sendLinks {s : State} (h : s.Rests) : s.sendLinks = s := if_pos (by rw [h.packets]; rfl)

theorem State.Rests.wakeDue {s : State} (h : s.Rests) : s.wakeDue = s := by
  refine if_pos ?_
  rw [Bool.and_eq_true, List.all_eq_true, decide_eq_true_eq]
  exact ⟨fun i hi => decide_eq_true (h.cores i (List.mem_range.mp hi)), h.bonded, h.links⟩

theorem step_rests {s u : State} (hp : s.pending = []) (hu : (if s.flag 0 F.SEQ_STATUS_SAMPLER_BUSY then s.samplesEnd else s).hostSend = u) (h : u.Rests) :
    step s = .next u.countCycle := by
  have hstep : step s = .next s.tick := by unfold step; rw [hp]
  rw [hstep, State.tick_eq, hu, h.sendLinks, h.wakeDue]

/-! ### The time of day (16 R463, R467, R468) -/

theorem State.showTxOk_frame (s : State) : State.RegsFrame [F.TOD_STATE_STATE.off] s s.showTxOk := (State.RegsFrame.refl _ s).setFlag _ _ _ (by decide) (by decide)

theorem State.showHold_frame (s : State) : State.RegsFrame [F.TOD_STATE_STATE.off] s s.showHold := by
  unfold State.showHold
  split
  · exact ((State.RegsFrame.refl _ s).setFld _ F.TOD_STATE_HOLD_S _ (by decide) (by decide)).trans (State.showTxOk_frame _)
  · exact State.showTxOk_frame s

/-- The counter after a cycle. -/
def State.nextTod (s : State) : Nat := if s.runs .s then (s.tod + s.fld64 0 F.TOD_INCR_LO_INCR F.TOD_INCR_HI_INCR) % 2 ^ 104 else s.tod

theorem State.nextTod_keep {s t : State} (htod : t.tod = s.tod) (hrun : t.fld 0 F.CLK_STATUS_RUN = s.fld 0 F.CLK_STATUS_RUN)
    (hlo : t.fld 0 F.TOD_INCR_LO_INCR = s.fld 0 F.TOD_INCR_LO_INCR) (hhi : t.fld 0 F.TOD_INCR_HI_INCR = s.fld 0 F.TOD_INCR_HI_INCR) : t.nextTod = s.nextTod := by
  unfold State.nextTod State.runs State.fld64
  rw [htod, hrun, hlo, hhi]

theorem State.countCycle_stopped {s : State} (h : s.runs .s = false) : s.countCycle = s := if_neg (by rw [h]; exact Bool.false_ne_true)

theorem State.countCycle_frame (s : State) : State.RegsFrame [F.TOD_STATE_STATE.off] { s with tod := s.nextTod } s.countCycle := by
  unfold State.countCycle State.nextTod
  split
  · exact State.showHold_frame _
  · exact .refl _ s

/-! ### One unit leaves on the link to the host (15 R453) -/

theorem State.hostSend_down {s : State} (h : s.hostUp = false) : s.hostSend = s := if_pos (by rw [h]; rfl)

theorem State.hostNext_idle {s : State} (h : ∀ e, e < 64 → s.hostQueue e = []) : s.hostNext = none := by
  have hnone : (List.range 64).filter (fun e => decide (e ≠ 0 ∧ s.hostQueue e ≠ [])) = [] :=
    List.filter_eq_nil_iff.mpr fun e he => by simp [h e (List.mem_range.mp he)]
  unfold State.hostNext
  rw [if_neg (not_not_intro (h 0 (by decide))), hnone]
  simp [Drr.follow, Drr.serve]

theorem State.hostSend_idle {s : State} (h : s.hostUp = false ∨ ∀ e, e < 64 → s.hostQueue e = []) : s.hostSend = s := by
  rcases h with hdown | hempty
  · exact State.hostSend_down hdown
  · unfold State.hostSend
    rw [State.hostNext_idle hempty]
    exact ite_self _

/-- Easel 0's next unit has left. -/
def State.sentRadio (s : State) (o : Output) (r : List Output) : State :=
  ({ s with cxl := { s.cxl with egress := SMap.set (fun _ => []) s.cxl.egress 0 r } }.emit o).countUnits 0 F.EGS_EAS_CXL_UNITS 0x10000 (hostBytes o)

theorem State.hostSend_radio {s : State} {o : Output} {r : List Output} (hup : s.hostUp = true) (hq : s.hostQueue 0 = o :: r) : s.hostSend = s.sentRadio o r := by
  have hnext : s.hostNext = some (0, s.cxl.drr) := if_pos (by rw [hq]; exact List.cons_ne_nil _ _)
  unfold State.hostSend
  rw [hup, hnext]
  simp only [hq]
  rfl

theorem State.sentRadio_fld (s : State) (o : Output) (r : List Output) (u : Nat) {f : Fld} (hf : f.off < regSpan) (hn : f.off ≠ F.EGS_EAS_CXL_UNITS.off) :
    (s.sentRadio o r).fld u f = s.fld u f := fld_of_reg (reg_setFld_off _ _ _ _ _ _ hf (by decide) hn)

theorem State.sentRadio_hostQueue (s : State) (o : Output) (r : List Output) (e : Nat) : (s.sentRadio o r).hostQueue e = if e = 0 then r else s.hostQueue e :=
  SMap.get_set _ _ _ _ _

/-! ### The samples in progress end (11 R360) -/

/-- The registers that the end of a sample changes: SEQ_EAS_STATUS and SEQ_STATUS. -/
def sampledOffs : List Nat := [F.SEQ_EAS_STATUS_PHASE.off, F.SEQ_STATUS_SAMPLER_BUSY.off]

theorem State.sampled_frame (s : State) (e : Nat) : State.RegsFrame sampledOffs s (s.sampled e) := by
  unfold State.sampled
  split
  · exact ((State.RegsFrame.refl _ s).setFld _ _ _ (by decide) (by decide)).setFlag _ _ _ (by decide) (by decide)
  · exact .refl _ s

/-- Its easel's phase is VARNISHING; no other easel's changes. -/
theorem State.sampled_phase (s : State) (e u : Nat) :
    (s.sampled e).fld u F.SEQ_EAS_STATUS_PHASE = if u = e ∧ s.fld e F.SEQ_EAS_STATUS_PHASE = 2 then 3 else s.fld u F.SEQ_EAS_STATUS_PHASE := by
  unfold State.sampled
  by_cases h : s.fld e F.SEQ_EAS_STATUS_PHASE = 2
  · rw [if_pos h, State.fld_setFlag_apart _ _ _ _ _ _ (by decide) (by decide) (by decide)]
    by_cases hu : u = e
    · rw [hu, if_pos ⟨rfl, h⟩]; exact State.fld_setFld_same _ _ _ _ (by decide)
    · rw [if_neg (fun k => hu k.1)]; exact State.fld_setFld_unit _ _ _ _ (by decide) (by decide) hu
  · rw [if_neg h, if_neg (fun k => h k.2)]

theorem State.forUpto_sampled_frame (s : State) (n : Nat) : State.RegsFrame sampledOffs s (forUpto n (fun e t => t.sampled e) s) :=
  upto_keep (State.RegsFrame sampledOffs s) n (fun e (t : State) => t.sampled e) (fun e _ t h => h.trans (t.sampled_frame e)) s (.refl _ s)

theorem State.forUpto_sampled_phase (s : State) (n u : Nat) :
    (forUpto n (fun e t => t.sampled e) s).fld u F.SEQ_EAS_STATUS_PHASE = if u < n ∧ s.fld u F.SEQ_EAS_STATUS_PHASE = 2 then 3 else s.fld u F.SEQ_EAS_STATUS_PHASE := by
  induction n with
  | zero => simp [forUpto]
  | succ n ih =>
    rw [forUpto_succ, State.sampled_phase, ih]
    by_cases hu : u = n
    · subst hu; simp [ih]
    · rw [if_neg (fun k => hu k.1)]
      exact if_congr (and_congr_left fun _ => by omega) rfl rfl

/-- Settles O55: in each case the state after the unit has left rests, and the cycle counts on it. -/
theorem idleStepAdvancesTheTimeOfDay : Obligations.IdleStepAdvancesTheTimeOfDay := by
  intro s hp hq hstacks hlinks hcores tod
  have hrests : s.Rests := ⟨hq, hstacks, hlinks, hcores⟩
  refine ⟨fun hbusy hidle => ?nothing, fun o r hbusy hup hqueue => ?unit, fun hbusy hdown => ?samples⟩
  case nothing =>
    have hu : (if s.flag 0 F.SEQ_STATUS_SAMPLER_BUSY then s.samplesEnd else s).hostSend = s := by
      rw [if_neg (by rw [hbusy]; exact Bool.false_ne_true), State.hostSend_idle hidle]
    have hc := s.countCycle_frame
    exact ⟨_, step_rests hp hu hrests, by rw [hc.rest]; rfl, hc.mem, hc.out, by rw [hc.rest]; exact hp, State.countCycle_stopped⟩
  case unit =>
    have hu : (if s.flag 0 F.SEQ_STATUS_SAMPLER_BUSY then s.samplesEnd else s).hostSend = s.sentRadio o r := by
      rw [if_neg (by rw [hbusy]; exact Bool.false_ne_true), State.hostSend_radio hup hqueue]
    have hkept : ∀ u (f : Fld), f.off < regSpan → f.off ≠ F.EGS_EAS_CXL_UNITS.off → (s.sentRadio o r).fld u f = s.fld u f := fun u _ => s.sentRadio_fld o r u
    have hc := (s.sentRadio o r).countCycle_frame
    have htod : (s.sentRadio o r).nextTod = tod :=
      State.nextTod_keep rfl (hkept _ _ (by decide) (by decide)) (hkept _ _ (by decide) (by decide)) (hkept _ _ (by decide) (by decide))
    have hrest := hrests.keep (t := s.sentRadio o r) rfl fun f hf => hkept 0 f (hf.trans (by decide)) fun h => absurd (h ▸ hf) (by decide)
    refine ⟨_, step_rests hp hu hrest, by rw [hc.rest]; exact htod, hc.out, ?_, fun e he => ?_, hc.mem, by rw [hc.rest]; exact hp⟩
    · rw [hc.rest]; exact (s.sentRadio_hostQueue o r 0).trans (if_pos rfl)
    · rw [hc.rest]; exact (s.sentRadio_hostQueue o r e).trans (if_neg he)
  case samples =>
    have hf := s.forUpto_sampled_frame 64
    have hrest : s.samplesEnd = { s with regs := s.samplesEnd.regs } := hf.rest
    have hkept : ∀ u (f : Fld), f.off < regSpan → f.off ∉ sampledOffs → s.samplesEnd.fld u f = s.fld u f := fun u f => hf.fld u f
    have hdown' : s.samplesEnd.hostUp = false := by
      have hflag : ∀ f : Fld, f.off < regSpan → f.off ∉ sampledOffs → s.samplesEnd.flag 0 f = s.flag 0 f := fun f => hf.flag 0 f
      have hcxl : s.samplesEnd.cxl = s.cxl := by rw [hrest]
      rw [← hdown]
      unfold State.hostUp
      rw [hkept _ F.CXL_LINK_MODE (by decide) (by decide), hcxl, hflag F.CXL_IDE_POLICY_REQUIRE (by decide) (by decide), hflag F.CXL_IDE_STATUS_CM_SECURE (by decide) (by decide)]
    have hu : (if s.flag 0 F.SEQ_STATUS_SAMPLER_BUSY then s.samplesEnd else s).hostSend = s.samplesEnd := by rw [if_pos hbusy, State.hostSend_down hdown']
    have hc := s.samplesEnd.countCycle_frame
    have htod : s.samplesEnd.nextTod = tod :=
      State.nextTod_keep (by rw [hrest]) (hkept _ _ (by decide) (by decide)) (hkept _ _ (by decide) (by decide)) (hkept _ _ (by decide) (by decide))
    have hrests' := hrests.keep (t := s.samplesEnd) (by rw [hrest]) fun f hf => hkept 0 f (hf.trans (by decide)) fun h =>
      absurd hf (Nat.not_lt.mpr ((by decide : ∀ off ∈ sampledOffs, 0x30124 ≤ off) _ h))
    exact ⟨_, step_rests hp hu hrests', by rw [hc.rest]; exact htod,
      fun e he hphase => (hc.fld e F.SEQ_EAS_STATUS_PHASE (by decide) (by decide)).trans ((s.forUpto_sampled_phase 64 e).trans (if_pos ⟨he, hphase⟩)),
      hc.mem.trans hf.mem, hc.out.trans hf.out⟩

end Sys2Proof.Machine

/-! SUPPORT. The sequence engine's entries (11 R346 to R353, R358; 10 R315, R316): taking an entry, its turn, what each kind does to the table, and the statement about them. -/
namespace Sys2Proof.Machine

open Sys2Proof Sys2Proof.Laws

/-! ### The engine's state for an easel, as other operations leave it -/

theorem State.seqEas_congr {s t : State} (h : t.seq = s.seq) (e : Nat) : t.seqEas e = s.seqEas e := by unfold State.seqEas; rw [h]

theorem State.seqEntry_congr {s t : State} {e : Nat} (h : (t.seqEas e).entries = (s.seqEas e).entries) (i : Nat) : t.seqEntry e i = s.seqEntry e i := by
  unfold State.seqEntry; rw [h]

@[simp] theorem State.seqEas_setSeqEas (s : State) (e : Nat) (x : SeqEas) : (s.setSeqEas e x).seqEas e = x := sq_setEas_same s e x

theorem State.seqEntry_setSeqEas (s : State) {e : Nat} {x : SeqEas} (h : x.entries = (s.seqEas e).entries) (i : Nat) : (s.setSeqEas e x).seqEntry e i = s.seqEntry e i :=
  State.seqEntry_congr (by rw [State.seqEas_setSeqEas, h]) i

theorem State.seqEntry_setSeqEntry_same (s : State) (e i : Nat) (y : SeqEntry) : (s.setSeqEntry e i y).seqEntry e i = y := (sq_setEnt_get s e i y i).trans (if_pos rfl)

theorem State.seqEntry_setSeqEntry_ne (s : State) (e : Nat) {i j : Nat} (h : j ≠ i) (y : SeqEntry) : (s.setSeqEntry e i y).seqEntry e j = s.seqEntry e j :=
  (sq_setEnt_get s e i y j).trans (if_neg h)

@[simp] theorem State.seqEas_seqDone (s : State) (e id : Nat) (d : List Nat) (st a b u : Nat) : (s.seqDone e id d st a b).seqEas u = s.seqEas u := sq_rk_eas (sq_rk_done ..) u

@[simp] theorem State.seqEntry_seqDone (s : State) (e id : Nat) (d : List Nat) (st a b u i : Nat) : (s.seqDone e id d st a b).seqEntry u i = s.seqEntry u i :=
  sq_rk_ent (sq_rk_done ..) u i

theorem State.retryBuild_off {s : State} {e : Nat} (h : (s.seqEas e).buildRetry = false) : s.retryBuild e = s := if_neg (by rw [h]; exact Bool.false_ne_true)

/-! ### Taking the entry at the head of the ring (R346; 10 R315, R316) -/

/-- The entry has left the ring for the engine's queue. -/
def State.queueEntry (s : State) (e : Nat) (d : List Nat) : State :=
  ((s.enroll e).2.setSeqEas e { s.seqEas e with queue := (s.seqEas e).queue ++ [(s.sched.nextId, d)] }).sqAdvance e

section Submission

variable {s t : State} {e : Nat} {p : List Nat → Bool} {host : Blob} {ecc : List (Nat × EccEvent)} {d : List Nat}

theorem State.seqSubmit_idle (hw : s.sqWaiting e = false) : s.seqSubmit e p host ecc = s := if_pos (by rw [hw]; rfl)

theorem State.seqSubmit_unread (hw : s.sqWaiting e = true) (hf : s.sqFetch e host = (none, t)) : s.seqSubmit e p host ecc = t := by
  simp only [State.seqSubmit, hw, hf, Bool.not_true, Bool.false_eq_true, if_false]

/-- An entry that was read: the choices of `seqSubmit` that remain. -/
theorem State.seqSubmit_read (hw : s.sqWaiting e = true) (hf : s.sqFetch e host = (some d, t)) : s.seqSubmit e p host ecc =
    if p d = false then s else if seqEntryZero d = false then t.refuseEntry e stOpcode d else if 64 ≤ (t.seqEas e).queue.length then t.setFlag e F.EAS_STATUS_RING_WAIT true
      else (t.queueEntry e d).seqGo e ecc := by
  simp only [State.seqSubmit, hw, hf, Bool.not_true, Bool.false_eq_true, if_false, Bool.not_eq_true']
  rfl

end Submission

/-- The commands that take an entry, with the corrections and errors they bring and the entries each takes. -/
def seqCommands (e : Fin 64) (host : Blob) (ecc : List (Nat × EccEvent)) : List (Instr × List (Nat × EccEvent) × (List Nat → Bool)) :=
  [(.seqOpen e host, [], fun d => decide (nth 0 d 0 = 0x10)), (.seqClose e host, [], fun d => decide (nth 0 d 0 = 0x11)), (.stepBuild e host, [], fun d => decide (nth 0 d 0 = 0x13)),
    (.sampleDraft e host ecc, ecc, fun d => decide (nth 0 d 0 = 0x12 ∧ nth 0 d 20 = 1)), (.sampleFinal e host ecc, ecc, fun d => decide (nth 0 d 0 = 0x12 ∧ nth 0 d 20 ≠ 1)),
    (.seqSwapOut e host, [], fun d => decide (nth 0 d 0 = 0x14 ∧ nth 0 d 16 ≠ 1)), (.seqSwapIn e host, [], fun d => decide (nth 0 d 0 = 0x14 ∧ nth 0 d 16 = 1)),
    (.draftPut e host, [], fun d => decide (nth 0 d 0 = 0x15))]

theorem exec_seqCommands (s : State) (e : Fin 64) (host : Blob) (ecc : List (Nat × EccEvent)) :
    ∀ c ∈ seqCommands e host ecc, exec c.1 s = .next (s.seqSubmit e c.2.2 host c.2.1) := by
  intro c hc
  simp only [seqCommands, List.mem_cons, List.not_mem_nil, or_false] at hc
  rcases hc with rfl | rfl | rfl | rfl | rfl | rfl | rfl | rfl <;> rfl

/-! ### The engine's order (R346) -/

theorem seqDrain_held {s : State} {e : Nat} (ecc : List (Nat × EccEvent)) (h : 2 ≤ s.fld e F.SEQ_EAS_STATUS_PHASE) (n : Nat) : seqDrain e ecc n s = s := by
  cases n with
  | zero => rfl
  | succ n =>
    unfold seqDrain
    split
    · rfl
    · rw [if_pos (by simp [State.seqHeld, h]), if_neg (by omega)]

theorem seqDrain_runs {s : State} {e id : Nat} {d : List Nat} {r : List (Nat × List Nat)} (hq : (s.seqEas e).queue = (id, d) :: r) (hh : s.seqHeld e d = false)
    (ecc : List (Nat × EccEvent)) (n : Nat) : seqDrain e ecc (n + 1) s = seqDrain e ecc n ((s.setSeqEas e { s.seqEas e with queue := r }).seqExec e id d ecc) := by
  rw [seqDrain]
  simp only [hq, hh, Bool.false_eq_true, if_false]

theorem State.queueEntry_phase (s : State) (e : Nat) (d : List Nat) : (s.queueEntry e d).fld e F.SEQ_EAS_STATUS_PHASE = s.fld e F.SEQ_EAS_STATUS_PHASE := by
  unfold State.queueEntry State.sqAdvance
  rw [State.fld_setFlag_apart _ _ _ _ _ _ (by decide) (by decide) (by decide), State.fld_setFld_apart _ _ _ _ _ _ (by decide) (by decide) (by decide)]
  rfl

theorem State.queueEntry_queue (s : State) (e : Nat) (d : List Nat) : ((s.queueEntry e d).seqEas e).queue = (s.seqEas e).queue ++ [(s.sched.nextId, d)] := by
  have h : (s.queueEntry e d).seqEas e = { s.seqEas e with queue := (s.seqEas e).queue ++ [(s.sched.nextId, d)] } := sq_setEas_same ..
  rw [h]

/-! ### Executing an entry, by its KIND (R347 to R349) -/

section Kinds

variable {s : State} {e : Nat} {d : List Nat} (id : Nat) (ecc : List (Nat × EccEvent))

theorem State.seqExec_off (h : s.seqOn e = false) : s.seqExec e id d ecc = s.seqDone e id d stNotEnabled 0 0 := if_pos (by rw [h]; rfl)

theorem State.seqExec_open (h : s.seqOn e = true) (hk : nth 0 d 0 = 0x10) : s.seqExec e id d ecc = s.seqOpen e id d := by simp [State.seqExec, h, hk]

theorem State.seqExec_close (h : s.seqOn e = true) (hk : nth 0 d 0 = 0x11) : s.seqExec e id d ecc = s.seqClose e id d := by simp [State.seqExec, h, hk]

theorem State.seqExec_swap (h : s.seqOn e = true) (hk : nth 0 d 0 = 0x14) : s.seqExec e id d ecc = s.seqSwap e id d := by simp [State.seqExec, h, hk]

theorem State.seqExec_put (h : s.seqOn e = true) (hk : nth 0 d 0 = 0x15) : s.seqExec e id d ecc = s.draftPut e id d := by simp [State.seqExec, h, hk]

theorem State.seqExec_build_inStep (h : s.seqOn e = true) (hk : nth 0 d 0 = 0x13) (hphase : s.fld e F.SEQ_EAS_STATUS_PHASE ≠ 0) :
    s.seqExec e id d ecc = s.seqDone e id d stStepState 0 0 := by simp [State.seqExec, h, hk, hphase]

/-- Between steps: the entry completes with the build it asks for. -/
theorem State.seqExec_build (h : s.seqOn e = true) (hk : nth 0 d 0 = 0x13) (hphase : s.fld e F.SEQ_EAS_STATUS_PHASE = 0) (hlife : s.fld e F.EAS_LIFE_STATE = 3)
    {built : Bool} {b : State} (hb : (s.setBuildWaits e false (s.seqEas e).buildRetry).buildStep e = (built, b)) :
    s.seqExec e id d ecc = (b.setBuildWaits e false (if built then false else b.flag e F.SEQ_EAS_CTRL_AUTO)).retire e id false := by
  simp only [State.seqExec, h, hk, hphase, hlife, hb]
  cases built <;> rfl

end Kinds

/-! ### SEQ_OPEN and SEQ_CLOSE (R347, R348) -/

section OpenClose

variable {s : State} {e : Nat} {d : List Nat} (id : Nat)

theorem State.seqOpen_refused (h : s.openStatus e d ≠ stOk) : s.seqOpen e id d = s.seqDone e id d (s.openStatus e d) 0 0 := if_pos h

theorem State.seqOpen_opens (hst : s.openStatus e d = stOk) (hretry : (s.seqEas e).buildRetry = false) : let t := s.seqOpen e id d
    t.seqEntry e (fieldLe d 2 2) = openEntry d (s.seqEas e).admitNo ∧ (t.seqEas e).admitNo = ((s.seqEas e).admitNo + 1) % 2 ^ 32 ∧
      ∀ j, j ≠ fieldLe d 2 2 → t.seqEntry e j = s.seqEntry e j := by
  intro t
  let s1 := (s.setSeqEas e { s.seqEas e with admitNo := ((s.seqEas e).admitNo + 1) % 2 ^ 32 }).setSeqEntry e (fieldLe d 2 2) (openEntry d (s.seqEas e).admitNo)
  have heas : s1.seqEas e = { s.seqEas e with
      admitNo := ((s.seqEas e).admitNo + 1) % 2 ^ 32, entries := SMap.set (fun _ => SeqEntry.free) (s.seqEas e).entries (fieldLe d 2 2) (openEntry d (s.seqEas e).admitNo) } := by
    rw [sq_setEnt_eas, State.seqEas_setSeqEas]
  have ht : t = s1.seqDone e id d stOk 0 0 :=
    (if_neg (not_not_intro hst) : t = (s1.seqDone e id d stOk 0 0).retryBuild e).trans (State.retryBuild_off (by rw [State.seqEas_seqDone, heas]; exact hretry))
  rw [ht, State.seqEntry_seqDone, State.seqEas_seqDone, heas]
  refine ⟨State.seqEntry_setSeqEntry_same .., rfl, fun j hj => ?_⟩
  rw [State.seqEntry_seqDone]
  exact (State.seqEntry_setSeqEntry_ne _ e hj _).trans (State.seqEntry_setSeqEas s (x := { s.seqEas e with admitNo := ((s.seqEas e).admitNo + 1) % 2 ^ 32 }) rfl j)

theorem State.seqClose_beyond (h : s.fld e F.EAS_CFG_SEQ ≤ fieldLe d 2 2) : s.seqClose e id d = s.seqDone e id d stOutOfShare 0 0 := if_pos h

theorem State.seqClose_inStep (hin : fieldLe d 2 2 < s.fld e F.EAS_CFG_SEQ) (h : s.inOpenStep e (fieldLe d 2 2) = true) :
    s.seqClose e id d = (s.setSeqEntry e (fieldLe d 2 2) { s.seqEntry e (fieldLe d 2 2) with cancel := true }).seqDone e id d stOk 0 0 :=
  (if_neg (Nat.not_le.mpr hin)).trans (if_pos h)

theorem State.seqClose_ends (hin : fieldLe d 2 2 < s.fld e F.EAS_CFG_SEQ) (hout : s.inOpenStep e (fieldLe d 2 2) = false)
    (h : (s.seqEntry e (fieldLe d 2 2)).state ∈ [sqQueued, sqPrefill, sqDecode, sqSwapped]) :
    s.seqClose e id d = (s.endSeq e (fieldLe d 2 2) endCancelled 0 []).seqDone e id d stOk 0 0 := by
  unfold State.seqClose
  rw [if_neg (Nat.not_le.mpr hin), if_neg (by rw [hout]; exact Bool.false_ne_true), if_pos]
  simp only [List.mem_cons, List.not_mem_nil, or_false] at h
  tauto

theorem State.seqClose_refused (hin : fieldLe d 2 2 < s.fld e F.EAS_CFG_SEQ) (hout : s.inOpenStep e (fieldLe d 2 2) = false)
    (h : (s.seqEntry e (fieldLe d 2 2)).state ∉ [sqQueued, sqPrefill, sqDecode, sqSwapped]) : s.seqClose e id d = s.seqDone e id d stSeqState 0 0 := by
  unfold State.seqClose
  rw [if_neg (Nat.not_le.mpr hin), if_neg (by rw [hout]; exact Bool.false_ne_true), if_neg]
  simp only [List.mem_cons, List.not_mem_nil, or_false] at h
  tauto

end OpenClose

/-! ### DRAFT_PUT (R358) -/

section DraftPut

variable {s : State} {e : Nat} {d : List Nat} (id : Nat)

theorem State.draftPut_noStep (hin : fieldLe d 2 2 < s.fld e F.EAS_CFG_SEQ) (h : s.fld e F.SEQ_EAS_STATUS_PHASE ≠ 1 ∨ fieldLe d 16 4 ≠ s.fld e F.SEQ_EAS_STEP_STEP) :
    s.draftPut e id d = s.seqDone e id d stStepState 0 0 := (if_neg (Nat.not_le.mpr hin)).trans (if_pos h)

variable {g : SeqSeg}

/-- In an open step, for a sequence with a VERIFY segment: the choices that remain. -/
theorem State.draftPut_verify (hin : fieldLe d 2 2 < s.fld e F.EAS_CFG_SEQ) (hphase : s.fld e F.SEQ_EAS_STATUS_PHASE = 1) (hstep : fieldLe d 16 4 = s.fld e F.SEQ_EAS_STEP_STEP)
    (hg : (s.seqEas e).segs.find? (fun g => decide (g.seq = fieldLe d 2 2 ∧ g.kind = sgVerify)) = some g) : s.draftPut e id d =
      if nth 0 d 20 = 0 ∨ g.drafts < nth 0 d 20 then s.seqDone e id d stShape 0 0
      else if (s.seqEntry e (fieldLe d 2 2)).prov ≠ 0 ∨ (s.seqEas e).lastDraft ≠ 0 then s.seqDone e id d stSeqState 0 0
      else (forUpto (nth 0 d 20) (fun k (t : State) => t.putDraft e g (k + 1) (fieldLe d (24 + 4 * k) 4)) s).seqDone e id d stOk 0 0 := by
  unfold State.draftPut
  rw [if_neg (Nat.not_le.mpr hin), if_neg (by rw [hphase, hstep]; simp)]
  simp only [hg]

end DraftPut

/-! ### SEQ_SWAP (R352) -/

section Swap

variable {s : State} {e : Nat} {d : List Nat} (id : Nat)

/-- The SEQ_SWAP of a sequence is noted, for its record when the copy ends. -/
def State.noteSwap (u : State) (e i id : Nat) : State := u.setSeqEas e { u.seqEas e with swaps := SMap.set (fun _ => 0) (u.seqEas e).swaps i (id + 1) }

theorem State.seqSwap_out (hdir : nth 0 d 16 = 0) (hin : fieldLe d 2 2 < s.fld e F.EAS_CFG_SEQ) (hout : s.inOpenStep e (fieldLe d 2 2) = false) : s.seqSwap e id d =
    if (s.seqEntry e (fieldLe d 2 2)).state = sqDecode ∧ (s.swapOutStart e (fieldLe d 2 2)).1 = true then (s.swapOutStart e (fieldLe d 2 2)).2.noteSwap e (fieldLe d 2 2) id
    else s.seqDone e id d stSeqState 0 0 := by
  unfold State.seqSwap State.noteSwap
  simp only [hdir, hout, Nat.not_le.mpr hin, decide_true, Bool.not_true, Bool.false_eq_true, false_and, true_and, if_false, Nat.not_lt_zero, ite_and]

theorem State.seqSwap_in (hdir : nth 0 d 16 = 1) (hin : fieldLe d 2 2 < s.fld e F.EAS_CFG_SEQ) (hout : s.inOpenStep e (fieldLe d 2 2) = false) : s.seqSwap e id d =
    if (s.seqEntry e (fieldLe d 2 2)).state = sqSwapped ∧ s.ctxPages e (fieldLe d 2 2) ≤ s.freePages e then (s.swapInStart e (fieldLe d 2 2)).noteSwap e (fieldLe d 2 2) id
    else s.seqDone e id d stSeqState 0 0 := by
  unfold State.seqSwap State.noteSwap
  simp only [hdir, hout, Nat.not_le.mpr hin, one_ne_zero, decide_false, Bool.not_false, Bool.false_eq_true, false_and, true_and, if_false, lt_irrefl]

/-- A swap-out that starts: the sequence takes its slots, and no other entry changes. -/
theorem State.swapOutStart_starts {i k : Nat} (hon : s.swapOn e = true) (hk : s.swapSlotFor e i = some k) : (s.swapOutStart e i).1 = true ∧
    (s.swapOutStart e i).2.seqEntry e i = { s.seqEntry e i with state := sqSwapOut, swapSlot := k } ∧ ∀ j, j ≠ i → (s.swapOutStart e i).2.seqEntry e j = s.seqEntry e j := by
  have h : s.swapOutStart e i = (true, (s.updSeq e i (fun t => { t with state := sqSwapOut, swapSlot := k })).swapArm e (s.ctxPages e i)) := by
    unfold State.swapOutStart; rw [if_pos hon, hk]
  rw [h]
  refine ⟨rfl, ?_, fun j hj => ?_⟩
  · exact (sq_seq_ent (sq_swap_seq ..) e i).trans (State.seqEntry_setSeqEntry_same ..)
  · exact (sq_seq_ent (sq_swap_seq ..) e j).trans (State.seqEntry_setSeqEntry_ne _ _ hj _)

theorem State.swapOutStart_off {i : Nat} (hoff : s.swapOn e = false) : (s.swapOutStart e i).1 = false := by
  unfold State.swapOutStart; rw [if_neg (by rw [hoff]; exact Bool.false_ne_true)]

/-- A swap-in that starts: the sequence has pages for its positions, and no other entry changes. -/
theorem State.swapInStart_starts (s : State) (e i : Nat) : ((s.swapInStart e i).seqEntry e i).state = sqSwapIn ∧ s.ctxPages e i ≤ ((s.swapInStart e i).seqEntry e i).pages ∧
    ∀ j, j ≠ i → (s.swapInStart e i).seqEntry e j = s.seqEntry e j := by
  obtain ⟨hpages, hothers⟩ := sq_grow_ent s e i (s.ctxPages e i)
  have hi : (s.swapInStart e i).seqEntry e i = { (s.growList e i (s.ctxPages e i)).seqEntry e i with state := sqSwapIn } :=
    (sq_seq_ent (sq_swap_seq ..) e i).trans (State.seqEntry_setSeqEntry_same ..)
  rw [hi]
  exact ⟨rfl, hpages, fun j hj => (sq_seq_ent (sq_swap_seq ..) e j).trans ((State.seqEntry_setSeqEntry_ne _ _ hj _).trans (hothers j hj))⟩

end Swap

/-! ### STEP_BUILD (R350 to R353) -/

/-- The segments of the next step are chosen. -/
def State.chosenStep (s : State) (e : Nat) : State := (s.loseBadLists e).fillStep e

/-- The number of the next step. -/
def State.nextStep (s : State) (e : Nat) : Nat := (s.fld e F.SEQ_EAS_STEP_STEP + 1) % 2 ^ 32

/-- The next step is open with the segments chosen. -/
def State.openStep (f : State) (e : Nat) : State :=
  (((f.setSeqEas e { f.seqEas e with stale := SMap.set (fun _ => []) (f.seqEas e).stale (f.nextStep e % 2) [] }).writeWorkList e (f.nextStep e)).setFld e F.SEQ_EAS_STEP_STEP
    (f.nextStep e)).setFld e F.SEQ_EAS_STATUS_PHASE 1

theorem State.buildStep_empty {s : State} {e : Nat} (h : ((s.chosenStep e).seqEas e).segs = []) : s.buildStep e = (false, s.chosenStep e) := by
  unfold State.buildStep
  extract_lets f x
  have hx : x.segs.isEmpty = true := List.isEmpty_iff.mpr h
  rw [if_pos hx]
  rfl

theorem State.buildStep_opens {s : State} {e : Nat} (h : ((s.chosenStep e).seqEas e).segs ≠ []) : s.buildStep e =
    (true, ((s.chosenStep e).openStep e).seqPost e 0x13 ((s.chosenStep e).nextStep e) stOk 1 (rowsPad ((s.chosenStep e).seqEas e).rows) ((s.chosenStep e).seqEas e).segs.length) := by
  unfold State.buildStep
  extract_lets f x
  have hx : ¬ x.segs.isEmpty = true := fun k => h (List.isEmpty_iff.mp k)
  rw [if_neg hx]
  rfl

theorem State.writeWorkList_rk (s : State) (e step : Nat) : RK s (s.writeWorkList e step) := by
  unfold State.writeWorkList
  extract_lets
  exact ((((sq_store_seq ..).trans (sq_store_seq ..)).trans (sq_store_seq ..)).trans (sq_store_seq ..)).trans (sq_store_seq ..)

theorem State.openStep_spec (f : State) (e : Nat) : (f.openStep e).fld e F.SEQ_EAS_STATUS_PHASE = 1 ∧ (f.openStep e).fld e F.SEQ_EAS_STEP_STEP = f.nextStep e ∧
    ((f.openStep e).seqEas e).segs = (f.seqEas e).segs := by
  refine ⟨State.fld_setFld_same _ _ _ _ (by decide), ?_, ?_⟩
  · unfold State.openStep
    rw [State.fld_setFld_apart _ _ _ _ _ _ (by decide) (by decide) (by decide), State.fld_setFld_same _ _ _ _ (by decide)]
    exact Nat.mod_mod _ _
  · have h : (f.openStep e).seqEas e = { f.seqEas e with stale := SMap.set (fun _ => []) (f.seqEas e).stale (f.nextStep e % 2) [] } :=
      (sq_rk_eas (State.writeWorkList_rk ..) e).trans (State.seqEas_setSeqEas ..)
    rw [h]

/-- Settles O48: the turn of an entry, then each kind by its rules above. -/
theorem sequenceEntriesAreExecutedInTurn : Obligations.SequenceEntriesAreExecutedInTurn := by
  intro s e
  refine ⟨?turn, ?kinds⟩
  case turn =>
    intro host ecc cmds c hc
    have hrun := exec_seqCommands s e host ecc c hc
    refine ⟨fun hw => hrun.trans (congrArg _ (State.seqSubmit_idle hw)), fun s1 hw hf => hrun.trans (congrArg _ (State.seqSubmit_unread hw hf)), fun d s1 hw hf => ?_⟩
    have hread := hrun.trans (congrArg _ (State.seqSubmit_read hw hf))
    refine ⟨fun hp => hread.trans (by rw [if_pos hp]), fun hp hz => hread.trans (by rw [if_neg (by simp [hp]), if_pos hz]),
      fun hp hz hfull => hread.trans (by rw [if_neg (by simp [hp]), if_neg (by simp [hz]), if_pos hfull]), fun hp hz hroom => ?_⟩
    rw [hread, if_neg (by simp [hp]), if_neg (by simp [hz]), if_neg (Nat.not_le.mpr hroom)]
    intro w
    refine ⟨fun hphase => congrArg _ (seqDrain_held _ (by rw [State.queueEntry_phase]; exact hphase) 65), fun hempty hfree => ?_⟩
    have hq : (w.seqEas e).queue = [(s1.sched.nextId, d)] := (s1.queueEntry_queue e d).trans (by rw [hempty]; rfl)
    exact congrArg _ (seqDrain_runs hq hfree _ 64)
  case kinds =>
  intro id d ecc t i y
  refine ⟨fun hoff => State.seqExec_off id ecc hoff, fun hon hretry hk => ?opens, fun hon hk => ?closes, fun hon hk => ?puts, fun hon hk hin hout => ?swaps, fun hon hk => ?builds⟩
  case opens =>
    have ht : t = s.seqOpen e id d := State.seqExec_open id ecc hon hk
    rw [ht]
    exact ⟨State.seqOpen_refused id, fun hst => State.seqOpen_opens id hst hretry⟩
  case closes =>
    have ht : t = s.seqClose e id d := State.seqExec_close id ecc hon hk
    rw [ht]
    refine ⟨State.seqClose_beyond id, fun hin hstep => ?_, fun hin hout hst => ?_, State.seqClose_refused id⟩
    · rw [State.seqClose_inStep id hin hstep]
      exact ⟨(State.seqEntry_seqDone ..).trans (State.seqEntry_setSeqEntry_same ..), fun j hj => (State.seqEntry_seqDone ..).trans (State.seqEntry_setSeqEntry_ne _ _ hj _)⟩
    · rw [State.seqClose_ends id hin hout hst, State.seqEntry_seqDone]
      exact sq_end_ent s e i endCancelled 0 []
  case puts =>
    intro n
    have ht : t = s.draftPut e id d := State.seqExec_put id ecc hon hk
    rw [ht]
    refine ⟨State.draftPut_noStep id, fun g hin hphase hstep hg => ?_⟩
    have hput := State.draftPut_verify id hin hphase hstep hg
    refine ⟨fun hn => hput.trans (if_pos hn), fun h0 hle hused => hput.trans ((if_neg (by omega)).trans (if_pos hused)), fun h0 hle hprov hlast => ?_⟩
    obtain ⟨hdrafts, -, hself, hothers⟩ := sq_puts_spec s e g (fun k => fieldLe d (24 + 4 * k) 4) n
    have hseq : g.seq = i := by have hfound := List.find?_some hg; exact (of_decide_eq_true hfound).1
    have hdone := hput.trans ((if_neg (by omega)).trans (if_neg (by rw [hlast]; exact fun h => h.elim (fun k => k hprov) (fun k => k rfl))))
    rw [hdone, State.seqEntry_seqDone, ← hseq]
    exact ⟨hself.trans ((if_neg (by omega)).trans (by rw [hseq])), fun j hj => (State.seqEntry_seqDone ..).trans (hothers j hj), _, rfl, hdrafts⟩
  case swaps =>
    have ht : t = s.seqSwap e id d := State.seqExec_swap id ecc hon hk
    rw [ht]
    refine ⟨fun k hdir hst hswap hslot => ?_, fun hdir hst hfree => ?_, fun hdir hno => ?_, fun hdir hno => ?_⟩
    · obtain ⟨hstarts, hself, hothers⟩ := State.swapOutStart_starts hswap hslot
      obtain ⟨hkept, hnoted⟩ := sq_note_get (s.swapOutStart e i).2 e i id
      rw [State.seqSwap_out id hdir hin hout, if_pos ⟨hst, hstarts⟩]
      exact ⟨(hkept i).trans hself, fun j hj => (hkept j).trans (hothers j hj), hnoted⟩
    · obtain ⟨hstate, hpages, hothers⟩ := State.swapInStart_starts s e i
      obtain ⟨hkept, hnoted⟩ := sq_note_get (s.swapInStart e i) e i id
      rw [State.seqSwap_in id hdir hin hout, if_pos ⟨hst, hfree⟩]
      exact ⟨(congrArg _ (hkept i)).trans hstate, hpages.trans_eq (congrArg _ (hkept i)).symm, fun j hj => (hkept j).trans (hothers j hj), hnoted⟩
    · exact (State.seqSwap_out id hdir hin hout).trans (if_neg fun ⟨hst, hstarts⟩ =>
        hno.elim (fun h => h hst) (fun h => Bool.false_ne_true ((State.swapOutStart_off h).symm.trans hstarts)))
    · exact (State.seqSwap_in id hdir hin hout).trans (if_neg fun ⟨hst, hfree⟩ => hno.elim (fun h => h hst) (fun h => absurd hfree (Nat.not_le.mpr h)))
  case builds =>
    refine ⟨State.seqExec_build_inStep id ecc hon hk, fun hphase hlife => ?_⟩
    intro f
    refine ⟨fun hnone => ?_, fun hsome => ?_⟩
    · have hb : (s.setBuildWaits e false (s.seqEas e).buildRetry).buildStep e = (false, f) := State.buildStep_empty hnone
      exact (State.seqExec_build id ecc hon hk hphase hlife hb).trans (by rw [if_neg Bool.false_ne_true])
    · have hb := State.buildStep_opens hsome
      obtain ⟨hopen, hstep, hsegs⟩ := f.openStep_spec e
      exact ⟨f.openStep e, hopen, hstep, hsegs, (State.seqExec_build id ecc hon hk hphase hlife hb).trans (by rw [if_pos rfl]; rfl)⟩

end Sys2Proof.Machine

/-! SUPPORT. The sequence engine's registers that act (11 R340, R343, R361 to R367): ENABLE, SEQ_LOSE, PEEK, debug reads and the heads of the output rings. -/
namespace Sys2Proof.Machine

open Sys2Proof Sys2Proof.Laws

/-- An access that acts under a condition, and is discarded otherwise. -/
theorem State.access_ite (s : State) (req : Requester) (off : Nat) (c : Nat → Bool) (g : Nat → State) :
    s.access req off (fun u => if c u then .next (g u) else .next s) = .next (if s.barOpen req off && c (s.unitAt req off) then g (s.unitAt req off) else s) := by
  unfold State.access
  cases s.barOpen req off <;> simp only [Bool.false_and, Bool.true_and, Bool.false_eq_true, if_false, if_true]
  exact (apply_ite Host.Outcome.next _ _ _).symm

/-! ### ENABLE (R340, R343, R367) -/

/-- The output rings from ring `n` down are empty. -/
def State.clearRings (s : State) (e n : Nat) : State := forUpto n (fun r (t : State) => (t.setFld e (F.SEQ_OR_HEAD_HEAD r) 0).setFld e (F.SEQ_OR_TAIL_TAIL r) 0) s

/-- Every ring's head and tail. -/
def ringOffs : List Nat := (List.range 64).flatMap fun r => [(F.SEQ_OR_HEAD_HEAD r).off, (F.SEQ_OR_TAIL_TAIL r).off]

theorem mem_ringOffs {r : Nat} (hr : r < 64) : (F.SEQ_OR_HEAD_HEAD r).off ∈ ringOffs ∧ (F.SEQ_OR_TAIL_TAIL r).off ∈ ringOffs :=
  ⟨List.mem_flatMap.mpr ⟨r, List.mem_range.mpr hr, by simp⟩, List.mem_flatMap.mpr ⟨r, List.mem_range.mpr hr, by simp⟩⟩

theorem ringOffs_inWord {r : Nat} (hr : r < 64) : (F.SEQ_OR_HEAD_HEAD r).inWord = true ∧ (F.SEQ_OR_TAIL_TAIL r).inWord = true := by
  constructor
  · exact (inWord_iff _).mpr ⟨(by decide : 0 + 16 ≤ 32), by show 0x1C040C + r * 32 < 0x4000000; omega⟩
  · exact (inWord_iff _).mpr ⟨(by decide : 0 + 16 ≤ 32), by show 0x1C0410 + r * 32 < 0x4000000; omega⟩

theorem State.clearRings_frame (s : State) (e : Nat) : State.RegsFrame ringOffs s (s.clearRings e 64) :=
  upto_keep (State.RegsFrame ringOffs s) 64 (fun r (t : State) => (t.setFld e (F.SEQ_OR_HEAD_HEAD r) 0).setFld e (F.SEQ_OR_TAIL_TAIL r) 0)
    (fun _ hr _ h => (h.setFld _ _ _ ((inWord_iff _).mp (ringOffs_inWord hr).1).2 (mem_ringOffs hr).1).setFld _ _ _ ((inWord_iff _).mp (ringOffs_inWord hr).2).2 (mem_ringOffs hr).2)
    s (.refl _ s)

theorem State.clearRings_zero (s : State) (e : Nat) : ∀ n, n ≤ 64 → ∀ r, r < n → (s.clearRings e n).fld e (F.SEQ_OR_HEAD_HEAD r) = 0 ∧ (s.clearRings e n).fld e (F.SEQ_OR_TAIL_TAIL r) = 0
  | 0, _, _, hr => absurd hr (Nat.not_lt_zero _)
  | n + 1, hn, r, hr => by
    have hsucc : s.clearRings e (n + 1) = ((s.clearRings e n).setFld e (F.SEQ_OR_HEAD_HEAD n) 0).setFld e (F.SEQ_OR_TAIL_TAIL n) 0 := forUpto_succ ..
    obtain ⟨hwr, hwr'⟩ := ringOffs_inWord (r := r) (by omega)
    obtain ⟨hwn, hwn'⟩ := ringOffs_inWord (r := n) (by omega)
    have hapart : (F.SEQ_OR_HEAD_HEAD r).apart (F.SEQ_OR_TAIL_TAIL n) = true := (apart_iff _ _).mpr (Or.inl (by show 0x1C040C + r * 32 ≠ 0x1C0410 + n * 32; omega))
    have hapart' : (F.SEQ_OR_TAIL_TAIL r).apart (F.SEQ_OR_HEAD_HEAD n) = true := (apart_iff _ _).mpr (Or.inl (by show 0x1C0410 + r * 32 ≠ 0x1C040C + n * 32; omega))
    rw [hsucc, State.fld_setFld_apart _ _ _ _ _ _ hwn' hwr hapart]
    by_cases hrn : r = n
    · subst hrn
      exact ⟨State.fld_setFld_same _ _ _ _ hwr, State.fld_setFld_same _ _ _ _ hwr'⟩
    · have hother : (F.SEQ_OR_HEAD_HEAD r).apart (F.SEQ_OR_HEAD_HEAD n) = true := (apart_iff _ _).mpr (Or.inl (by show 0x1C040C + r * 32 ≠ 0x1C040C + n * 32; omega))
      have hother' : (F.SEQ_OR_TAIL_TAIL r).apart (F.SEQ_OR_TAIL_TAIL n) = true := (apart_iff _ _).mpr (Or.inl (by show 0x1C0410 + r * 32 ≠ 0x1C0410 + n * 32; omega))
      rw [State.fld_setFld_apart _ _ _ _ _ _ hwn hwr hother, State.fld_setFld_apart _ _ _ _ _ _ hwn' hwr' hother', State.fld_setFld_apart _ _ _ _ _ _ hwn hwr' hapart']
      exact State.clearRings_zero s e n (by omega) r (by omega)

theorem State.readBytes_mem {s t : State} (h : t.mem = s.mem) (k n : Nat) : t.readBytes k n = s.readBytes k n := by
  rw [State.readBytes_eq_map, State.readBytes_eq_map]; unfold State.byte; rw [h]

theorem exec_seqEnable (s : State) (req : Requester) (auto : Bool) : let f := s.unitAt req F.SEQ_EAS_CTRL_ENABLE.off
    exec (.seqEnable req auto) s =
      .next (if s.barOpen req F.SEQ_EAS_CTRL_ENABLE.off && (isVf req f && decide (f ≠ 0)) then (s.setFlag f F.SEQ_EAS_CTRL_AUTO auto).seqEnable f else s) := by
  refine Eq.trans ?_ (s.access_ite req F.SEQ_EAS_CTRL_ENABLE.off (fun u => isVf req u && decide (u ≠ 0)) fun u => (s.setFlag u F.SEQ_EAS_CTRL_AUTO auto).seqEnable u)
  show execSeqEnable req auto s = _
  exact congrArg (s.access req F.SEQ_EAS_CTRL_ENABLE.off) (funext fun u => apply_ite Host.Outcome.next _ _ _)

section Enable

variable {s : State} {e : Nat}

theorem State.seqEnable_on (h : s.seqOn e = true) : s.seqEnable e = s := if_pos h

theorem State.seqEnable_bad (h : s.seqOn e = false) (hc : s.seqChecks e = false) : s.seqEnable e = s.setFlag e F.SEQ_EAS_STATUS_CFG_ERR true :=
  (if_neg (by rw [h]; exact Bool.false_ne_true)).trans (if_neg (by rw [hc]; exact Bool.false_ne_true))

/-- An engine that is enabled with its rings empty. -/
def State.ringsReady (s : State) (e : Nat) : State := ((s.setFlag e F.SEQ_EAS_CTRL_ENABLE true).setFlag e F.SEQ_EAS_STATUS_CFG_ERR false).clearRings e 64

/-- The stop-set table is copied, and the free pages show. -/
def State.copyStops (s : State) (e : Nat) : State := (s.setSeqEas e { s.seqEas e with stop := s.readBytes (bondKey e (s.stopBase e)) 4096, ring := [] }).showFree e

theorem State.copyStops_seqEas (s : State) (e : Nat) : (s.copyStops e).seqEas e = { s.seqEas e with stop := s.readBytes (bondKey e (s.stopBase e)) 4096, ring := [] } :=
  State.seqEas_setSeqEas ..

theorem State.copyStops_fld (s : State) (e : Nat) {f : Fld} (hf : f.inWord = true) (hapart : f.apart F.SEQ_EAS_PAGES_FREE_PAGES = true) : (s.copyStops e).fld e f = s.fld e f :=
  State.fld_setFld_apart _ _ _ _ _ _ (by decide) hf hapart

@[simp] theorem State.copyStops_mem (s : State) (e : Nat) : (s.copyStops e).mem = s.mem := rfl

@[simp] theorem State.copyStops_out (s : State) (e : Nat) : (s.copyStops e).out = s.out := rfl

theorem State.seqEnable_good (h : s.seqOn e = false) (hc : s.seqChecks e = true) : s.seqEnable e = (s.ringsReady e).copyStops e := by
  unfold State.seqEnable
  rw [if_neg (by rw [h]; exact Bool.false_ne_true), if_pos hc]
  rfl

/-- The registers that making ready changes. -/
def readyOffs : List Nat := F.SEQ_EAS_CTRL_ENABLE.off :: F.SEQ_EAS_STATUS_CFG_ERR.off :: ringOffs

theorem State.ringsReady_frame (s : State) (e : Nat) : State.RegsFrame readyOffs s (s.ringsReady e) := by
  have hset := ((State.RegsFrame.refl readyOffs s).setFlag e F.SEQ_EAS_CTRL_ENABLE true (by decide) (by decide)).setFlag e F.SEQ_EAS_STATUS_CFG_ERR false (by decide) (by decide)
  have hclear := ((s.setFlag e F.SEQ_EAS_CTRL_ENABLE true).setFlag e F.SEQ_EAS_STATUS_CFG_ERR false).clearRings_frame e
  exact hset.trans ⟨hclear.rest, fun u off ho hn => hclear.reg u off ho fun hm => hn (List.mem_cons_of_mem _ (List.mem_cons_of_mem _ hm))⟩

theorem State.ringsReady_flags (s : State) (e : Nat) : (s.ringsReady e).flag e F.SEQ_EAS_CTRL_ENABLE = true ∧ (s.ringsReady e).flag e F.SEQ_EAS_STATUS_CFG_ERR = false ∧
    (s.ringsReady e).flag e F.SEQ_EAS_CTRL_AUTO = s.flag e F.SEQ_EAS_CTRL_AUTO := by
  have hclear := ((s.setFlag e F.SEQ_EAS_CTRL_ENABLE true).setFlag e F.SEQ_EAS_STATUS_CFG_ERR false).clearRings_frame e
  refine ⟨(hclear.flag e F.SEQ_EAS_CTRL_ENABLE (by decide) (by decide)).trans ?_, (hclear.flag e F.SEQ_EAS_STATUS_CFG_ERR (by decide) (by decide)).trans ?_,
    (hclear.flag e F.SEQ_EAS_CTRL_AUTO (by decide) (by decide)).trans ?_⟩
  · rw [State.flag_setFlag_apart _ _ _ _ _ _ (by decide) (by decide) (by decide)]; exact State.flag_setFlag_same _ _ _ _ (by decide) (by decide)
  · exact State.flag_setFlag_same _ _ _ _ (by decide) (by decide)
  · rw [State.flag_setFlag_apart _ _ _ _ _ _ (by decide) (by decide) (by decide), State.flag_setFlag_apart _ _ _ _ _ _ (by decide) (by decide) (by decide)]

/-- What an enabling whose checks pass leaves. -/
theorem State.seqEnable_spec (h : s.seqOn e = false) (hc : s.seqChecks e = true) : let t := s.seqEnable e
    t.seqOn e = true ∧ t.flag e F.SEQ_EAS_STATUS_CFG_ERR = false ∧ t.flag e F.SEQ_EAS_CTRL_AUTO = s.flag e F.SEQ_EAS_CTRL_AUTO ∧
      (∀ r, r < 64 → t.fld e (F.SEQ_OR_HEAD_HEAD r) = 0 ∧ t.fld e (F.SEQ_OR_TAIL_TAIL r) = 0) ∧ (t.seqEas e).stop = s.readBytes (bondKey e (s.stopBase e)) 4096 ∧
      (∀ i, t.seqEntry e i = s.seqEntry e i) ∧ t.mem = s.mem ∧ t.out = s.out := by
  intro t
  have hframe := s.ringsReady_frame e
  obtain ⟨hon, herr, hauto⟩ := s.ringsReady_flags e
  have ht : t = (s.ringsReady e).copyStops e := State.seqEnable_good h hc
  have heas := (s.ringsReady e).copyStops_seqEas e
  rw [← ht] at heas
  have hfld : ∀ f : Fld, f.inWord = true → f.apart F.SEQ_EAS_PAGES_FREE_PAGES = true → t.fld e f = (s.ringsReady e).fld e f := fun f hf hapart => by
    rw [ht]; exact State.copyStops_fld _ _ hf hapart
  have hflag : ∀ f : Fld, f.inWord = true → f.apart F.SEQ_EAS_PAGES_FREE_PAGES = true → t.flag e f = (s.ringsReady e).flag e f := fun f hf hapart => by
    unfold State.flag; rw [hfld f hf hapart]
  have hstop : (s.ringsReady e).stopBase e = s.stopBase e := by
    unfold State.stopBase; rw [hframe.fld e F.SEQ_EAS_STOP_BASE_UNIT (by decide) (by decide)]
  have hentries : (t.seqEas e).entries = (s.seqEas e).entries := by rw [heas, State.seqEas_congr (s := s) (by rw [hframe.rest])]
  refine ⟨(hflag _ (by decide) (by decide)).trans hon, (hflag _ (by decide) (by decide)).trans herr, (hflag _ (by decide) (by decide)).trans hauto, fun r hr => ?_, ?_,
    State.seqEntry_congr hentries, ?_, ?_⟩
  · obtain ⟨hhead, htail⟩ := ((s.setFlag e F.SEQ_EAS_CTRL_ENABLE true).setFlag e F.SEQ_EAS_STATUS_CFG_ERR false).clearRings_zero e 64 le_rfl r hr
    obtain ⟨hwh, hwt⟩ := ringOffs_inWord hr
    exact ⟨(hfld _ hwh ((apart_iff _ _).mpr (Or.inl (by show 0x1C040C + r * 32 ≠ 0x1C0150; omega)))).trans hhead,
      (hfld _ hwt ((apart_iff _ _).mpr (Or.inl (by show 0x1C0410 + r * 32 ≠ 0x1C0150; omega)))).trans htail⟩
  · rw [heas, ← hstop]; exact State.readBytes_mem hframe.mem _ _
  · rw [ht, State.copyStops_mem, hframe.mem]
  · rw [ht, State.copyStops_out, hframe.out]

end Enable

/-! ### SEQ_LOSE (R363, R364) -/

theorem exec_seqLose (s : State) (req : Requester) (e : Fin 64) (all : Bool) (i : Fin 8192) (key : BitVec 8) : exec (.seqLose req e all i key) s =
    .next (if s.barOpen req F.SEQ_LOSE_EASEL.off && (req.manages && decide (key = 0x4C)) then
      forEach (if all then (s.seqEas e).active.map (·.1) else [i.val]) (fun i (t : State) => t.loseSeq e i t.loseInfo) s else s) := by
  show execSeqLose req e all i key s = _
  exact s.access_ite req F.SEQ_LOSE_EASEL.off (fun _ => req.manages && decide (key = 0x4C)) fun _ =>
    forEach (if all then (s.seqEas e).active.map (·.1) else [i.val]) (fun i (t : State) => t.loseSeq e i t.loseInfo) s

section Lose

variable {s : State} {e i info : Nat}

theorem State.loseSeq_over (h : (s.seqEntry e i).state = sqFree ∨ (s.seqEntry e i).state = sqEnding) : s.loseSeq e i info = s := if_pos h

theorem State.loseSeq_inStep (hfree : (s.seqEntry e i).state ≠ sqFree) (hending : (s.seqEntry e i).state ≠ sqEnding) (hin : s.inOpenStep e i = true) :
    s.loseSeq e i info = s.setSeqEntry e i { s.seqEntry e i with lost := some info } := (if_neg (not_or.mpr ⟨hfree, hending⟩)).trans (if_pos hin)

theorem State.loseSeq_ends (hfree : (s.seqEntry e i).state ≠ sqFree) (hending : (s.seqEntry e i).state ≠ sqEnding) (hout : s.inOpenStep e i = false) :
    s.loseSeq e i info = s.endSeq e i endLost info [] := (if_neg (not_or.mpr ⟨hfree, hending⟩)).trans (if_neg (by rw [hout]; exact Bool.false_ne_true))

end Lose

/-! ### Words shown in registers (R362, R364, R366) -/

theorem State.showWords_rest (s : State) (u : Nat) (f : Nat → Fld) (n : Nat) (bs : List Nat) : s.showWords u f n bs = { s with regs := (s.showWords u f n bs).regs } :=
  upto_keep (fun t : State => t = { s with regs := t.regs }) n (fun i (t : State) => t.setFld u (f i) (fieldLe bs (4 * i) 4)) (fun i _ t h => by rw [h]; rfl) s rfl

/-- Consecutive registers of a word each show the words. -/
theorem State.showWords_fld (s : State) (u : Nat) (f : Nat → Fld) (n : Nat) (bs : List Nat) (base : Nat) (hf : ∀ i, f i = ⟨base + i * 4, 0, 32⟩) (hn : base + n * 4 ≤ regSpan) (k : Nat) (hk : k < n) :
    (s.showWords u f n bs).fld u (f k) = fieldLe bs (4 * k) 4 % 2 ^ 32 := by
  have hword : ∀ i, i < n → (f i).inWord = true := fun i hi => by
    rw [hf]; exact (inWord_iff _).mpr ⟨(by decide : 0 + 32 ≤ 32), by show base + i * 4 < regSpan; omega⟩
  have hapart : ∀ i j, i < n → j < n → j ≠ i → u ≠ u ∨ (f j).apart (f i) = true := fun i j _ _ hne => by
    rw [hf, hf]; exact Or.inr ((apart_iff _ _).mpr (Or.inl (by show base + j * 4 ≠ base + i * 4; omega)))
  have h := State.fld_forUpto_setFld (fun _ => u) f (fun i => fieldLe bs (4 * i) 4) s n hword hapart k hk
  rwa [congrArg Fld.width (hf k)] at h

theorem exec_seqPeek (s : State) (req : Requester) (i : Fin 8192) (under : Bool) : let f := s.unitAt req F.SEQ_EAS_PEEK_INDEX.off
    exec (.seqPeek req i under) s =
      .next (if s.barOpen req F.SEQ_EAS_PEEK_INDEX.off && ((!under && isVf req f) || (under && req.manages && s.power powUnderpaint)) then
        s.showWords f F.SEQ_EAS_PEEK_DATA_DATA 32 ((s.seqEntry f i).bytes under) else s) := by
  show execSeqPeek req i under s = _
  exact s.access_ite req F.SEQ_EAS_PEEK_INDEX.off (fun u => (!under && isVf req u) || (under && req.manages && s.power powUnderpaint)) fun u =>
    s.showWords u F.SEQ_EAS_PEEK_DATA_DATA 32 ((s.seqEntry u i).bytes under)

/-- The bytes that a debug read shows. -/
def dbgBytes (m : MemResp) (under : Bool) (e a : Nat) : List Nat :=
  if m.status = .outOfShare then List.replicate 64 0 else m.st.viewOf (if under then .full else .committed) e a m.data

theorem exec_seqDbgRead (s : State) (req : Requester) (e : Fin 64) (under : Bool) (ecc : Option EccEvent) :
    let m := ((s.setFld 0 F.SEQ_DBG_CTRL_EASEL e).setFlag 0 F.SEQ_DBG_CTRL_UNDERPAINT under).bondLoad e (s.fld64 0 F.SEQ_DBG_ADDR_LO_ADDR F.SEQ_DBG_ADDR_HI_ADDR) 64 stPoison ecc
    exec (.seqDbgRead req e under ecc) s =
      .next (if s.barOpen req F.SEQ_DBG_CTRL_GO.off && (req.manages && (!under || s.power powUnderpaint) && (decide (e.val ≠ 0) || s.power powRadioRead)) then
        m.st.showWords 0 F.SEQ_DBG_DATA_DATA 16 (dbgBytes m under e (s.fld64 0 F.SEQ_DBG_ADDR_LO_ADDR F.SEQ_DBG_ADDR_HI_ADDR)) else s) := by
  have haddr : ((s.setFld 0 F.SEQ_DBG_CTRL_EASEL e).setFlag 0 F.SEQ_DBG_CTRL_UNDERPAINT under).fld64 0 F.SEQ_DBG_ADDR_LO_ADDR F.SEQ_DBG_ADDR_HI_ADDR =
      s.fld64 0 F.SEQ_DBG_ADDR_LO_ADDR F.SEQ_DBG_ADDR_HI_ADDR := by
    unfold State.fld64
    rw [State.fld_setFlag_apart _ _ _ _ _ _ (by decide) (by decide) (by decide), State.fld_setFlag_apart _ _ _ _ _ _ (by decide) (by decide) (by decide),
      State.fld_setFld_apart _ _ _ _ _ _ (by decide) (by decide) (by decide), State.fld_setFld_apart _ _ _ _ _ _ (by decide) (by decide) (by decide)]
  rw [← haddr]
  show execSeqDbgRead req e under ecc s = _
  exact s.access_ite req F.SEQ_DBG_CTRL_GO.off (fun _ => req.manages && (!under || s.power powUnderpaint) && (decide (e.val ≠ 0) || s.power powRadioRead)) fun _ => _

theorem fieldLe_zeros (n k w : Nat) : fieldLe (List.replicate n 0) k w = 0 := by
  have hzero : ∀ l : List Nat, (∀ b ∈ l, b = 0) → ofLe l = 0 := by
    intro l
    induction l with
    | nil => exact fun _ => rfl
    | cons b l ih => intro h; simp [ofLe, h b List.mem_cons_self, ih fun c hc => h c (List.mem_cons_of_mem _ hc)]
  refine hzero _ fun b hb => ?_
  exact List.eq_of_mem_replicate (List.mem_of_mem_drop (List.mem_of_mem_take hb))

/-! ### The heads of the output rings (R361, R367) -/

theorem exec_outputRingHeadWrite (s : State) (req : Requester) (r : Fin 64) (h : BitVec 16) : let f := s.unitAt req (F.SEQ_OR_HEAD_HEAD r).off
    exec (.outputRingHeadWrite req r h) s =
      .next (if s.barOpen req (F.SEQ_OR_HEAD_HEAD r).off && (isVf req f && decide (h.toNat < s.orEntries f r)) then
        ((s.setFld f (F.SEQ_OR_HEAD_HEAD r) h.toNat).flushOut f).retryBuild f else s) := by
  show execOutputRingHeadWrite req r h s = _
  exact s.access_ite req (F.SEQ_OR_HEAD_HEAD r).off (fun u => isVf req u && decide (h.toNat < s.orEntries u r)) fun u => ((s.setFld u (F.SEQ_OR_HEAD_HEAD r) h.toNat).flushOut u).retryBuild u

theorem State.flushOut_idle {s : State} {e : Nat} (h : (s.seqEas e).outq = []) : s.flushOut e = s.setSeqEas e (s.seqEas e) := by
  unfold State.flushOut; rw [h, outLoop, ← h]

end Sys2Proof.Machine

/-! SUPPORT. Samples (11 R355, R356, R358, R359): what a segment's draws make of it and of the engine's state. -/
namespace Sys2Proof.Machine

open Sys2Proof Sys2Proof.Laws

/-! ### One VERIFY segment of a DRAFT sample (R358) -/

section Draft

variable {s s1 : State} {e : Nat} {d : List Nat} {ecc : List (Nat × EccEvent)} {g : SeqSeg} {k n : Nat}

/-- A segment that the sample of draft `nth 0 d 21` draws for. -/
def State.draftDue (s : State) (e : Nat) (d : List Nat) (g : SeqSeg) : Prop :=
  g.kind = sgVerify ∧ (s.seqEntry e g.seq).prov + 1 = nth 0 d 21 ∧ nth 0 d 21 ≤ g.drafts ∧ (s.seqEntry e g.seq).draftStop = false

theorem draftSeg_skips (h : ¬ s.draftDue e d g) : draftSeg e d ecc (g, k) (n, s) = (n, s) :=
  if_neg fun ⟨hkind, hprov, hle, hstop⟩ => h ⟨hkind, hprov, hle, by simpa using hstop⟩

/-- The state after a draft is put, with its stop noted. -/
def State.putDrawn (s1 : State) (e : Nat) (g : SeqSeg) (j tok : Nat) (stop : Bool) : State := (s1.putDraft e g j tok).updSeq e g.seq (fun t => { t with draftStop := stop })

theorem draftSeg_draws {tok : Nat} (h : s.draftDue e d g) (hrow : s.sampleRow e d (s.seqEntry e g.seq) k (g.pos + nth 0 d 21) ecc = (some tok, s1)) :
    draftSeg e d ecc (g, k) (n, s) = (n + 1, s1.putDrawn e g (nth 0 d 21) tok (isStop (s.stopSet e (s1.seqEntry e g.seq)) tok)) := by
  obtain ⟨hkind, hprov, hle, hstop⟩ := h
  obtain ⟨-, -, hself, -⟩ := sq_put_spec s1 e g (nth 0 d 21) tok
  have hset : s.stopSet e ((s1.putDraft e g (nth 0 d 21) tok).seqEntry e g.seq) = s.stopSet e (s1.seqEntry e g.seq) := by rw [hself]; rfl
  unfold draftSeg State.putDrawn State.updSeq
  simp only [hkind, hprov, hle, hstop, hrow, Bool.not_false, and_self, if_true, hset]

theorem draftSeg_poisons (h : s.draftDue e d g) (hrow : s.sampleRow e d (s.seqEntry e g.seq) k (g.pos + nth 0 d 21) ecc = (none, s1)) :
    draftSeg e d ecc (g, k) (n, s) =
      (n, s1.setSeqEas e { s1.seqEas e with segs := (s1.seqEas e).segs.map (fun h => if h.seq = g.seq then { h with poison := true } else h) }) := by
  obtain ⟨hkind, hprov, hle, hstop⟩ := h
  unfold draftSeg
  simp only [hkind, hprov, hle, hstop, hrow, Bool.not_false, and_self, if_true]

@[simp] theorem State.updSeq_mem (s : State) (e i : Nat) (f : SeqEntry → SeqEntry) : (s.updSeq e i f).mem = s.mem := rfl

/-- The draft lies in its row, and its sequence has it. -/
theorem State.putDrawn_spec (s1 : State) (e : Nat) (g : SeqSeg) (j tok : Nat) (stop : Bool) :
    (s1.putDrawn e g j tok stop).seqEntry e g.seq = { s1.seqEntry e g.seq with prov := j, draftStop := stop } ∧ (s1.putDrawn e g j tok stop).draftAt e g j = tok % 2 ^ 32 := by
  obtain ⟨hmem, haddr, hself, -⟩ := sq_put_spec s1 e g j tok
  constructor
  · exact (State.seqEntry_setSeqEntry_same ..).trans (by rw [hself])
  · have htok : (s1.putDrawn e g j tok stop).tokAddr e (g.row + j) = s1.tokAddr e (g.row + j) := by
      rw [← haddr (g.row + j)]
      unfold State.tokAddr State.wlBuf State.putDrawn
      rw [sq_upd_fld _ _ _ _ _ F.SEQ_EAS_WL_BASE_UNIT (by decide) (by decide), sq_upd_fld _ _ _ _ _ F.SEQ_EAS_STEP_STEP (by decide) (by decide)]
    unfold State.draftAt
    rw [htok]
    exact sq_read_four s1 _ _ _ ((State.updSeq_mem ..).trans hmem)

end Draft

/-! ### SAMPLE with MODE DRAFT (R358) -/

section SampleDraft

variable {s : State} {e : Nat} {d : List Nat} {ecc : List (Nat × EccEvent)} (id : Nat)

theorem State.seqExec_draft (h : s.seqOn e = true) (hk : nth 0 d 0 = 0x12) (hm : nth 0 d 20 = 1) : s.seqExec e id d ecc = s.sampleDraft e id d ecc := by simp [State.seqExec, h, hk, hm]

theorem State.sampleDraft_refused (h : s.sampleStatus e d (s.seqEas e).segs.length ≠ stOk) :
    s.sampleDraft e id d ecc = s.seqDone e id d (s.sampleStatus e d (s.seqEas e).segs.length) 0 0 := if_pos h

/-- The draft of the sample in progress is the last one drawn. -/
def State.noteDraft (s : State) (e j : Nat) : State := s.setSeqEas e { s.seqEas e with lastDraft := j }

theorem State.sampleDraft_one {g : SeqSeg} (h : s.sampleStatus e d (s.seqEas e).segs.length = stOk) (hg : (s.seqEas e).segs = [g]) {n : Nat} {t : State}
    (hr : draftSeg e d ecc (g, 0) (0, s) = (n, t)) : s.sampleDraft e id d ecc = (t.noteDraft e (nth 0 d 21)).seqDone e id d stOk n 0 := by
  unfold State.sampleDraft
  dsimp only
  have hfold : (s.seqEas e).segs.zipIdx.foldl (fun a p => draftSeg e d ecc p a) (0, s) = (n, t) := by rw [hg]; exact hr
  rw [if_neg (not_not_intro h), hfold]
  rfl

theorem State.noteDraft_seqEntry (s : State) (e j i : Nat) : (s.noteDraft e j).seqEntry e i = s.seqEntry e i := State.seqEntry_setSeqEas s (x := { s.seqEas e with lastDraft := j }) rfl i

theorem State.noteDraft_draftAt (s : State) (e k : Nat) (g : SeqSeg) (j : Nat) : (s.noteDraft e k).draftAt e g j = s.draftAt e g j := rfl

theorem State.noteDraft_seqEas (s : State) (e j : Nat) : (s.noteDraft e j).seqEas e = { s.seqEas e with lastDraft := j } := State.seqEas_setSeqEas ..

variable {g : SeqSeg}

theorem State.sampleDraft_undue (h : s.sampleStatus e d (s.seqEas e).segs.length = stOk) (hg : (s.seqEas e).segs = [g]) (hno : ¬ s.draftDue e d g) :
    (∀ i, (s.sampleDraft e id d ecc).seqEntry e i = s.seqEntry e i) ∧ ((s.sampleDraft e id d ecc).seqEas e).lastDraft = nth 0 d 21 := by
  rw [State.sampleDraft_one id h hg (draftSeg_skips hno)]
  exact ⟨fun i => (State.seqEntry_seqDone ..).trans (State.noteDraft_seqEntry ..), by rw [State.seqEas_seqDone, State.noteDraft_seqEas]⟩

theorem State.sampleDraft_draws {s1 : State} {tok : Nat} (h : s.sampleStatus e d (s.seqEas e).segs.length = stOk) (hg : (s.seqEas e).segs = [g]) (hdue : s.draftDue e d g)
    (hrow : s.sampleRow e d (s.seqEntry e g.seq) 0 (g.pos + nth 0 d 21) ecc = (some tok, s1)) : let t := s.sampleDraft e id d ecc
    t.seqEntry e g.seq = { s1.seqEntry e g.seq with prov := nth 0 d 21, draftStop := isStop (s.stopSet e (s1.seqEntry e g.seq)) tok } ∧ (t.seqEas e).lastDraft = nth 0 d 21 ∧
      ∃ w : State, t = w.seqDone e id d stOk 1 0 ∧ w.draftAt e g (nth 0 d 21) = tok % 2 ^ 32 := by
  intro t
  have hdone : t = _ := State.sampleDraft_one id h hg (draftSeg_draws hdue hrow)
  obtain ⟨hself, hat⟩ := s1.putDrawn_spec e g (nth 0 d 21) tok (isStop (s.stopSet e (s1.seqEntry e g.seq)) tok)
  refine ⟨?_, ?_, _, hdone, (State.noteDraft_draftAt ..).trans hat⟩
  · rw [hdone, State.seqEntry_seqDone, State.noteDraft_seqEntry, hself]
  · rw [hdone, State.seqEas_seqDone, State.noteDraft_seqEas]

theorem State.sampleDraft_poisons {s1 : State} (h : s.sampleStatus e d (s.seqEas e).segs.length = stOk) (hg : (s.seqEas e).segs = [g]) (hdue : s.draftDue e d g)
    (hrow : s.sampleRow e d (s.seqEntry e g.seq) 0 (g.pos + nth 0 d 21) ecc = (none, s1)) :
    ((s.sampleDraft e id d ecc).seqEas e).segs = (s1.seqEas e).segs.map (fun h => if h.seq = g.seq then { h with poison := true } else h) := by
  rw [State.sampleDraft_one id h hg (draftSeg_poisons hdue hrow), State.seqEas_seqDone, State.noteDraft_seqEas, State.seqEas_setSeqEas]

end SampleDraft

/-! ### SAMPLE with MODE FINAL (R359) -/

section SampleFinal

variable {s s1 : State} {e : Nat} {d : List Nat} {ecc : List (Nat × EccEvent)} {g : SeqSeg} {y : SeqEntry} {n k tok : Nat} {toks : List Nat} (id : Nat)

theorem finalDraws_bad (h : s.sampleRow e d y (g.logit + k) (if g.kind = sgLast then y.promptLen else g.pos + 1 + k) ecc = (none, s1)) :
    finalDraws e d ecc g y (n + 1) k toks s = (toks, true, s1) := by rw [finalDraws, h]

theorem finalDraws_last (h : s.sampleRow e d y (g.logit + k) (if g.kind = sgLast then y.promptLen else g.pos + 1 + k) ecc = (some tok, s1))
    (hlast : ¬ (g.kind = sgVerify ∧ k < y.prov ∧ tok = s1.draftAt e g (k + 1))) : finalDraws e d ecc g y (n + 1) k toks s = (toks ++ [tok], false, s1) := by
  rw [finalDraws, h]; exact if_neg hlast

theorem finalDraws_more (h : s.sampleRow e d y (g.logit + k) (if g.kind = sgLast then y.promptLen else g.pos + 1 + k) ecc = (some tok, s1))
    (hmore : g.kind = sgVerify ∧ k < y.prov ∧ tok = s1.draftAt e g (k + 1)) : finalDraws e d ecc g y (n + 1) k toks s = finalDraws e d ecc g y n (k + 1) (toks ++ [tok]) s1 := by
  rw [finalDraws, h]; exact if_pos hmore

theorem finalSeg_prefill (h : g.kind = sgPrefill) : finalSeg e d ecc g s = (g, s) := if_pos h

theorem finalSeg_draws (h : g.kind ≠ sgPrefill) {bad : Bool} (hr : finalDraws e d ecc g (s.seqEntry e g.seq) (g.drafts + 1) 0 [] s = (toks, bad, s1)) :
    finalSeg e d ecc g s = ({ g with toks := toks, poison := g.poison || bad }, s1) := by
  unfold finalSeg; rw [if_neg h, hr]

theorem finalSeg_decode (hk : g.kind = sgDecode) (hrow : s.sampleRow e d (s.seqEntry e g.seq) g.logit (g.pos + 1) ecc = (some tok, s1)) :
    finalSeg e d ecc g s = ({ g with toks := [tok] }, s1) := by
  have hlast : g.kind ≠ sgLast := by rw [hk]; decide
  have hver : g.kind ≠ sgVerify := by rw [hk]; decide
  rw [finalSeg_draws (by rw [hk]; decide) (finalDraws_last (k := 0) (by rw [if_neg hlast]; exact hrow) fun h => hver h.1), Bool.or_false]
  rfl

theorem finalSeg_decode_bad (hk : g.kind = sgDecode) (hrow : s.sampleRow e d (s.seqEntry e g.seq) g.logit (g.pos + 1) ecc = (none, s1)) :
    finalSeg e d ecc g s = ({ g with toks := [], poison := true }, s1) := by
  have hlast : g.kind ≠ sgLast := by rw [hk]; decide
  rw [finalSeg_draws (by rw [hk]; decide) (finalDraws_bad (k := 0) (by rw [if_neg hlast]; exact hrow)), Bool.or_true]

/-- A VERIFY segment whose first draft is right, and whose second row's token is not another draft. -/
theorem finalSeg_verify_two {s2 : State} {tok' : Nat} (hk : g.kind = sgVerify) (hdrafts : 0 < g.drafts) (hprov : 0 < (s.seqEntry e g.seq).prov)
    (hrow : s.sampleRow e d (s.seqEntry e g.seq) g.logit (g.pos + 1) ecc = (some tok, s1)) (htok : tok = s1.draftAt e g 1)
    (hrow' : s1.sampleRow e d (s.seqEntry e g.seq) (g.logit + 1) (g.pos + 2) ecc = (some tok', s2)) (hend : ¬ (1 < (s.seqEntry e g.seq).prov ∧ tok' = s2.draftAt e g 2)) :
    finalSeg e d ecc g s = ({ g with toks := [tok, tok'] }, s2) := by
  have hlast : g.kind ≠ sgLast := by rw [hk]; decide
  obtain ⟨m, hm⟩ : ∃ m, g.drafts = m + 1 := Nat.exists_eq_succ_of_ne_zero hdrafts.ne'
  have hdraws : finalDraws e d ecc g (s.seqEntry e g.seq) (g.drafts + 1) 0 [] s = ([tok, tok'], false, s2) := by
    rw [hm, finalDraws_more (k := 0) (by rw [if_neg hlast]; exact hrow) ⟨hk, hprov, htok⟩]
    exact finalDraws_last (k := 1) (by rw [if_neg hlast]; exact hrow') fun h => hend h.2
  rw [finalSeg_draws (by rw [hk]; decide) hdraws, Bool.or_false]

theorem State.seqExec_final (h : s.seqOn e = true) (hk : nth 0 d 0 = 0x12) (hm : nth 0 d 20 ≠ 1) : s.seqExec e id d ecc = s.sampleFinal e id d ecc := by simp [State.seqExec, h, hk, hm]

theorem State.sampleFinal_refused (h : s.sampleStatus e d (s.seqEas e).logitRows ≠ stOk) : s.sampleFinal e id d ecc = s.seqDone e id d (s.sampleStatus e d (s.seqEas e).logitRows) 0 0 := if_pos h

/-- The state in which a FINAL sample of the segments lasts. -/
def State.sampling (s : State) (e id : Nat) (segs : List SeqSeg) : State :=
  ((s.setSeqEas e { s.seqEas e with segs := segs, finalTag := id }).setFld e F.SEQ_EAS_STATUS_PHASE 2).setFlag 0 F.SEQ_STATUS_SAMPLER_BUSY true

theorem State.sampling_spec (s : State) (e id : Nat) (segs : List SeqSeg) : (s.sampling e id segs).fld e F.SEQ_EAS_STATUS_PHASE = 2 ∧ (s.sampling e id segs).flag 0 F.SEQ_STATUS_SAMPLER_BUSY = true ∧
    (s.sampling e id segs).seqEas e = { s.seqEas e with segs := segs, finalTag := id } := by
  refine ⟨?_, State.flag_setFlag_same _ _ _ _ (by decide) (by decide), State.seqEas_setSeqEas ..⟩
  exact (State.fld_setFlag_apart _ _ _ _ _ _ (by decide) (by decide) (by decide)).trans (State.fld_setFld_same _ _ _ _ (by decide))

theorem State.sampleFinal_one (h : s.sampleStatus e d (s.seqEas e).logitRows = stOk) (hg : (s.seqEas e).segs = [g]) :
    s.sampleFinal e id d ecc = (finalSeg e d ecc g s).2.sampling e id [(finalSeg e d ecc g s).1] := by
  unfold State.sampleFinal
  dsimp only
  rw [if_neg (not_not_intro h), hg]
  rfl

end SampleFinal

end Sys2Proof.Machine

/-! SUPPORT. Varnish and swap copies (11 R345, R352, R359, R360, R362, R363): what a sequence's entry becomes, and how the step closes. -/
namespace Sys2Proof.Machine

open Sys2Proof Sys2Proof.Laws

@[simp] theorem State.seqEntry_showFree (s : State) (e u i : Nat) : (s.showFree e).seqEntry u i = s.seqEntry u i := rfl

@[simp] theorem State.seqEas_showFree (s : State) (e u : Nat) : (s.showFree e).seqEas u = s.seqEas u := rfl

@[simp] theorem State.seqEntry_inc64 (s : State) (u : Nat) (lo hi : Fld) (n e i : Nat) : (s.inc64 u lo hi n).seqEntry e i = s.seqEntry e i := rfl

/-! ### Varnishing one sequence (R359, R360, R363) -/

section VarnishSeg

variable {s : State} {e : Nat} {g : SeqSeg} {n k : Nat}

/-- The proposals of a segment are counted. -/
def State.propose (s : State) (e : Nat) (g : SeqSeg) : State := s.incWrap e F.SEQ_EAS_SPEC_PROP_COUNT (if g.kind = sgVerify then (s.seqEntry e g.seq).prov else 0)

/-- A sequence ends at its varnish without tokens. -/
def State.varnishEnds (s : State) (e : Nat) (g : SeqSeg) (code info : Nat) : State :=
  ((s.propose e g).updSeq e g.seq (fun y => { y with prov := 0, draftStop := false })).endSeq e g.seq code info []

/-- A sequence has ended with a code: it waits for its END record, or is FREE. -/
def State.hasEnded (s : State) (e i code : Nat) : Prop := s.seqEntry e i = SeqEntry.free ∨ (s.seqEntry e i).state = sqEnding ∧ (s.seqEntry e i).endCode = code

theorem State.endSeq_hasEnded (s : State) (e i code info : Nat) (recs : List OutRec) : (s.endSeq e i code info recs).hasEnded e i code :=
  (sq_end_ent s e i code info recs).imp_right fun ⟨hstate, hcode, _⟩ => ⟨hstate, hcode⟩

theorem varnishSeg_lost {info : Nat} (h : (s.seqEntry e g.seq).lost = some info) : varnishSeg e g (n, k, s) = (n, k + 1, s.varnishEnds e g endLost info) := by
  unfold varnishSeg; simp only [h]; rfl

theorem varnishSeg_poison (h : (s.seqEntry e g.seq).lost = none) (hp : g.poison = true) : varnishSeg e g (n, k, s) = (n, k + 1, s.varnishEnds e g endPoison 0) := by
  unfold varnishSeg; simp only [h, hp, if_true]; rfl

theorem varnishSeg_cancel (h : (s.seqEntry e g.seq).lost = none) (hp : g.poison = false) (hc : (s.seqEntry e g.seq).cancel = true) :
    varnishSeg e g (n, k, s) = (n, k + 1, s.varnishEnds e g endCancelled 0) := by
  unfold varnishSeg; simp only [h, hp, hc, Bool.false_eq_true, if_true, if_false]; rfl

/-- The entry of a DECODE sequence whose token is committed. -/
def SeqSeg.decoded (g : SeqSeg) (y t : SeqEntry) : SeqEntry := { t with ctxLen := g.pos + 1, prefilled := y.prefilled, prov := 0, draftStop := false, state := y.state }

/-- A DECODE sequence has its token: its entry, its pages and the bill. -/
def State.commitOne (s : State) (e : Nat) (g : SeqSeg) (t : SeqEntry) : State :=
  ((((s.propose e g).setSeqEntry e g.seq t).trimList e g.seq).inc64 e F.SEQ_EAS_BILL_GEN_LO_TOKENS F.SEQ_EAS_BILL_GEN_HI_TOKENS 1).inc64 e F.SEQ_EAS_BILL_PREFILL_LO_TOKENS
    F.SEQ_EAS_BILL_PREFILL_HI_TOKENS 0

/-- The entry with a token kept. -/
def SeqEntry.kept (t : SeqEntry) (tok : Nat) : SeqEntry := { t with hist := (t.hist ++ [tok]).drop ((t.hist ++ [tok]).length - 7), genCount := t.genCount + 1, lastToken := tok }

/-- The END_CODE with which a kept token ends its sequence, or 0. -/
def keepCode (set : List Nat) (limit tok ctx : Nat) (t : SeqEntry) : Nat :=
  if isStop set tok then endStopToken else if endsStop set (t.hist ++ [tok]) then endStopSeq else if t.genCount + 1 = t.maxGen then endMaxGen else if limit ≤ ctx + 1 then endMaxCtx else 0

theorem keepTokens_cons (set : List Nat) (limit tok : Nat) (r : List Nat) (ctx : Nat) (t : SeqEntry) (kept : List Nat) : keepTokens set limit (tok :: r) ctx t kept =
    if keepCode set limit tok ctx t ≠ 0 then (t.kept tok, kept ++ [tok], keepCode set limit tok ctx t) else keepTokens set limit r (ctx + 1) (t.kept tok) (kept ++ [tok]) := rfl

theorem keepTokens_one (set : List Nat) (limit tok ctx : Nat) (t : SeqEntry) : keepTokens set limit [tok] ctx t [] = (t.kept tok, [tok], keepCode set limit tok ctx t) := by
  rw [keepTokens_cons]
  by_cases h : keepCode set limit tok ctx t = 0
  · rw [if_neg (not_not_intro h), h]; rfl
  · exact if_pos h

theorem varnishSeg_decode {tok : Nat} (h : (s.seqEntry e g.seq).lost = none) (hp : g.poison = false) (hc : (s.seqEntry e g.seq).cancel = false) (hkind : g.kind = sgDecode)
    (htoks : g.toks = [tok]) : varnishSeg e g (n, k, s) =
      let t := g.decoded (s.seqEntry e g.seq) ((s.seqEntry e g.seq).kept tok)
      let code := keepCode (s.stopSet e (s.seqEntry e g.seq)) (s.fld e F.SEQ_EAS_PL_LEN_PAGES * s.pageTokens e) tok (g.pos + 1) (s.seqEntry e g.seq)
      let recs := tokensRecs t g.seq 1 (g.pos + 1) [tok]
      if code ≠ 0 then (n + 1, k + 1, (s.commitOne e g t).endSeq e g.seq code 0 recs) else (n + 1, k, (s.commitOne e g t).outPut e recs) := by
  have hpre : ¬ sgDecode = sgPrefill := by decide
  have hver : ¬ sgDecode = sgVerify := by decide
  have hlast : ¬ sgDecode = sgLast := by decide
  unfold varnishSeg State.commitOne State.propose SeqSeg.decoded
  simp only [h, hp, hc, hkind, htoks, hpre, hver, hlast, or_self, Bool.false_eq_true, if_false, ne_eq, not_true_eq_false, List.length_singleton, Nat.add_zero, keepTokens_one]

/-- A committed entry keeps all but its pages, whose list is trimmed. -/
theorem State.commitOne_seqEntry (s : State) (e : Nat) (g : SeqSeg) (t : SeqEntry) : ∃ p, (s.commitOne e g t).seqEntry e g.seq = { t with pages := p } := by
  refine ⟨min t.pages ((t.ctxLen + ((s.propose e g).setSeqEntry e g.seq t).pageTokens e - 1) / ((s.propose e g).setSeqEntry e g.seq t).pageTokens e), ?_⟩
  unfold State.commitOne State.trimList
  have hself := State.seqEntry_setSeqEntry_same (s.propose e g) e g.seq t
  generalize (s.propose e g).setSeqEntry e g.seq t = u at *
  rw [State.seqEntry_inc64, State.seqEntry_inc64, State.seqEntry_showFree]
  exact (State.seqEntry_setSeqEntry_same ..).trans (by rw [hself])

end VarnishSeg

/-! ### Closing the step (R350, R360, R362) -/

/-- The step is closed: no segments are left, and the drafts that were not varnished stay provisional. -/
def State.closed (s : State) (e : Nat) : State :=
  (s.setSeqEas e { s.seqEas e with
    segs := [], rows := 0, logitRows := 0, lastDraft := 0,
    stale := SMap.set (fun _ => []) (s.seqEas e).stale (s.fld e F.SEQ_EAS_STEP_STEP % 2) ((((s.seqEas e).segs.filter (fun g => decide (g.kind = sgVerify))).map
      (fun g => (List.range (g.count - g.toks.length)).map (fun i => g.row + g.toks.length + i))).flatten) }).setFld e F.SEQ_EAS_STATUS_PHASE 0

theorem State.closed_spec (s : State) (e : Nat) : (s.closed e).fld e F.SEQ_EAS_STATUS_PHASE = 0 ∧ ((s.closed e).seqEas e).segs = [] ∧ ((s.closed e).seqEas e).rows = 0 ∧
    ∀ i, (s.closed e).seqEntry e i = s.seqEntry e i := by
  have heas : (s.closed e).seqEas e = _ := State.seqEas_setSeqEas ..
  exact ⟨State.fld_setFld_same _ _ _ _ (by decide), by rw [heas], by rw [heas], State.seqEntry_congr (by rw [heas])⟩

theorem State.closeStep_eq (s : State) (e n k : Nat) : s.closeStep e n k =
    let p := ((s.closed e).seqPost e 0x12 ((s.closed e).fld e F.SEQ_EAS_STEP_STEP) stOk 3 n k).retire e (s.seqEas e).finalTag false
    ((if p.fld e F.EAS_STEPS_COUNT = (s.closed e).fld e F.EAS_STEPS_COUNT then p.stepBoundary e else p).autoBuild e).seqGo e [] := rfl

/-! ### A swap copy ends (R345, R352, R363) -/

section Swap

variable {s : State} {e : Nat}

theorem State.finishRun_seq (s : State) (n : Nat) : (s.finishRun n).seq = s.seq := by
  unfold State.finishRun
  dsimp only
  split
  · rfl
  · split
    · split
      · split <;> rfl
      · split <;> rfl
    · rfl

theorem State.swapStep_seq (s : State) (e pages : Nat) : (s.swapStep e pages).seq = s.seq := by
  unfold State.swapStep
  dsimp only
  split
  · rfl
  · split
    · rfl
    · exact (rk_judge _ e).seq.trans (State.finishRun_seq ..)

theorem State.swapRecord_seqEas (s : State) (e i st : Nat) : ∃ m, (s.swapRecord e i st).seqEas e = { s.seqEas e with swaps := m } := by
  unfold State.swapRecord
  dsimp only
  split
  · exact ⟨_, rfl⟩
  · exact ⟨_, (sq_rk_eas ((rk_post _ _ _ _).trans (rk_retire _ _ _ _)) e).trans (State.seqEas_setSeqEas ..)⟩

/-- The end of a copy: what it counts and posts leaves the entries and the numbers of the swaps. -/
theorem State.swapEnds_seqEas (s : State) (e i pages st : Nat) : ∃ m, ((s.swapStep e pages).swapRecord e i st).seqEas e = { s.seqEas e with swaps := m } := by
  obtain ⟨m, hm⟩ := (s.swapStep e pages).swapRecord_seqEas e i st
  exact ⟨m, by rw [hm, State.seqEas_congr (s.swapStep_seq e pages)]⟩

theorem State.swapEnds_seqEntry (s : State) (e i pages st j : Nat) : ((s.swapStep e pages).swapRecord e i st).seqEntry e j = s.seqEntry e j := by
  obtain ⟨m, hm⟩ := s.swapEnds_seqEas e i pages st
  exact State.seqEntry_congr (by rw [hm]) j

theorem State.swapCopyOut_rk (s : State) (e i : Nat) : RK s (s.swapCopyOut e i) := by
  unfold State.swapCopyOut
  exact rk_upto _ _ (fun _ t => rk_host t ..) s

theorem State.swapCopyIn_rk (s : State) (e i : Nat) (host : Blob) : RK s (s.swapCopyIn e i host) := by
  unfold State.swapCopyIn
  refine rk_upto _ _ (fun p t => ?_) s
  have hcount : RK t (t.countUnits e F.CXL_EAS_HOST_RD_UNITS 65536 (t.pageBytes e)) := ⟨rfl, rfl, rfl, rfl, rfl, rfl⟩
  dsimp only
  generalize t.countUnits e F.CXL_EAS_HOST_RD_UNITS 65536 (t.pageBytes e) = u at hcount
  exact hcount.trans (sq_store_seq ..)

/-- A copy that fails, or whose host memory cannot be reached. -/
def State.copyBad (s : State) (e i : Nat) (fail : Bool) : Bool :=
  fail || !(s.hostUp && s.swapping e && (List.range (s.ctxPages e i)).all (fun p => s.translates e (s.swapAddr e ((s.seqEntry e i).swapSlot + p))))

theorem State.copyBad_iff (s : State) (e i : Nat) (fail : Bool) : s.copyBad e i fail = true ↔ fail = true ∨ s.hostUp = false ∨ s.swapping e = false ∨
    ∃ p, p < s.ctxPages e i ∧ s.translates e (s.swapAddr e ((s.seqEntry e i).swapSlot + p)) = false := by
  simp only [State.copyBad, Bool.or_eq_true, Bool.not_eq_true', Bool.and_eq_false_iff, List.all_eq_false, List.mem_range, Bool.not_eq_true, or_assoc]

/-- The sequence is in its slots. -/
def State.swappedOut (s : State) (e i : Nat) : State :=
  (((s.swapCopyOut e i).setSeqEas e { (s.swapCopyOut e i).seqEas e with swapNo := ((s.swapCopyOut e i).seqEas e).swapNo + 1 }).updSeq e i
    (fun y => { y with state := sqSwapped, pages := 0, swapNo := ((s.swapCopyOut e i).seqEas e).swapNo })).showFree e

/-- The sequence is back in its pages. -/
def State.swappedIn (s : State) (e i : Nat) (host : Blob) : State := (s.swapCopyIn e i host).updSeq e i (fun y => { y with state := sqDecode, swapSlot := noToken })

/-- A swap-out that fails: the sequence stays in its pages. -/
def State.swapUndone (s : State) (e i : Nat) : State := s.updSeq e i (fun y => { y with state := sqDecode, swapSlot := noToken })

/-- The end of a copy, by the sequence's state and whether the copy is good. -/
def State.copyDone (s : State) (e i : Nat) (host : Blob) (fail : Bool) : State :=
  if (s.seqEntry e i).state = sqSwapOut then
    if s.copyBad e i fail then ((s.swapUndone e i).swapStep e 0).swapRecord e i Config.swapFailStatus else ((s.swappedOut e i).swapStep e (s.ctxPages e i)).swapRecord e i stOk
  else if (s.seqEntry e i).state = sqSwapIn then
    if s.copyBad e i fail then ((s.endSeq e i endLost 0 []).swapStep e 0).swapRecord e i Config.swapFailStatus
    else (((s.swappedIn e i host).swapStep e (s.ctxPages e i)).swapRecord e i stOk).retryBuild e
  else (s.swapStep e 0).swapRecord e i Config.swapFailStatus

theorem execSwapCopyDone_eq (e : Fin 64) (i : Nat) (host : Blob) (fail : Bool) (s : State) : execSwapCopyDone e i host fail s = .next (s.copyDone e i host fail) := by
  unfold execSwapCopyDone State.copyDone State.copyBad
  dsimp only
  split_ifs <;> rfl

theorem State.swapUndone_seqEntry (s : State) (e i j : Nat) : (s.swapUndone e i).seqEntry e j = if j = i then { s.seqEntry e i with state := sqDecode, swapSlot := noToken } else s.seqEntry e j :=
  sq_upd_get ..

theorem State.swappedOut_spec (s : State) (e i : Nat) : ((s.swappedOut e i).seqEas e).swapNo = (s.seqEas e).swapNo + 1 ∧
    ∀ j, (s.swappedOut e i).seqEntry e j = if j = i then { s.seqEntry e i with state := sqSwapped, pages := 0, swapNo := (s.seqEas e).swapNo } else s.seqEntry e j := by
  have hrk := s.swapCopyOut_rk e i
  have heas := sq_rk_eas hrk e
  have hent : ∀ j, ((s.swapCopyOut e i).setSeqEas e { (s.swapCopyOut e i).seqEas e with swapNo := ((s.swapCopyOut e i).seqEas e).swapNo + 1 }).seqEntry e j = s.seqEntry e j := fun j =>
    (State.seqEntry_setSeqEas _ (x := { (s.swapCopyOut e i).seqEas e with swapNo := ((s.swapCopyOut e i).seqEas e).swapNo + 1 }) rfl j).trans (sq_rk_ent hrk e j)
  constructor
  · have h : (s.swappedOut e i).seqEas e = _ := (State.seqEas_showFree ..).trans (sq_setEnt_eas ..)
    rw [h, State.seqEas_setSeqEas, heas]
  · intro j
    have h : (s.swappedOut e i).seqEntry e j = _ := (State.seqEntry_showFree ..).trans (sq_upd_get ..)
    rw [h, hent, hent, heas]

theorem State.swappedIn_seqEntry (s : State) (e i : Nat) (host : Blob) (j : Nat) :
    (s.swappedIn e i host).seqEntry e j = if j = i then { s.seqEntry e i with state := sqDecode, swapSlot := noToken } else s.seqEntry e j := by
  have hrk := s.swapCopyIn_rk e i host
  refine Eq.trans (sq_upd_get ..) ?_
  rw [sq_rk_ent hrk, sq_rk_ent hrk]

theorem State.swappedIn_buildRetry (s : State) (e i : Nat) (host : Blob) : ((s.swappedIn e i host).seqEas e).buildRetry = (s.seqEas e).buildRetry := by
  have h : (s.swappedIn e i host).seqEas e = _ := sq_setEnt_eas ..
  rw [h, sq_rk_eas (s.swapCopyIn_rk e i host) e]

/-- The end of one sequence leaves the others, but for those whose END record goes out with it. -/
theorem State.endSeq_others (s : State) (e i code info : Nat) (recs : List OutRec) {j : Nat} (hj : j ≠ i) :
    (s.endSeq e i code info recs).seqEntry e j = s.seqEntry e j ∨ (s.endSeq e i code info recs).seqEntry e j = SeqEntry.free := by
  unfold State.endSeq
  dsimp only
  generalize hs1 : (s.updSeq e i (fun t => { t with state := sqEnding, endCode := code, pages := 0, swapSlot := noToken, cancel := false, lost := none })).showFree e = s1
  have h1 : s1.seqEntry e j = s.seqEntry e j := by
    rw [← hs1]; exact (State.seqEntry_showFree ..).trans (State.seqEntry_setSeqEntry_ne _ _ hj _)
  have hrk : RK s1 (if code = endLost then (s1.incSat e F.SEQ_EAS_LOST_COUNT 1).usageFault e ukSequence i info ufSeqLost else s1) :=
    RK.ite ((rk_set (RK.refl s1) _ F.SEQ_EAS_LOST_COUNT _).trans (rk_usage ..)) (RK.refl s1)
  generalize (if code = endLost then (s1.incSat e F.SEQ_EAS_LOST_COUNT 1).usageFault e ukSequence i info ufSeqLost else s1) = s2 at hrk
  rw [← h1, ← sq_rk_ent hrk e j]
  exact sq_put_ent ..

variable {i : Nat} {host : Blob} {fail : Bool}

theorem State.swappedIn_ends (hr : (s.seqEas e).buildRetry = false) (pages st : Nat) :
    (((s.swappedIn e i host).swapStep e pages).swapRecord e i st).retryBuild e = ((s.swappedIn e i host).swapStep e pages).swapRecord e i st := by
  obtain ⟨m, hm⟩ := (s.swappedIn e i host).swapEnds_seqEas e i pages st
  exact State.retryBuild_off (by rw [hm]; exact (s.swappedIn_buildRetry e i host).trans hr)

theorem State.copyDone_others (hr : (s.seqEas e).buildRetry = false) {j : Nat} (hj : j ≠ i) :
    (s.copyDone e i host fail).seqEntry e j = s.seqEntry e j ∨ (s.copyDone e i host fail).seqEntry e j = SeqEntry.free := by
  unfold State.copyDone
  split_ifs
  · exact Or.inl (by rw [State.swapEnds_seqEntry, State.swapUndone_seqEntry, if_neg hj])
  · exact Or.inl (by rw [State.swapEnds_seqEntry, (s.swappedOut_spec e i).2, if_neg hj])
  · rw [State.swapEnds_seqEntry]; exact s.endSeq_others e i endLost 0 [] hj
  · exact Or.inl (by rw [State.swappedIn_ends hr, State.swapEnds_seqEntry, State.swappedIn_seqEntry, if_neg hj])
  · exact Or.inl (State.swapEnds_seqEntry ..)

theorem State.copyDone_outFails (h : (s.seqEntry e i).state = sqSwapOut) (hb : s.copyBad e i fail = true) :
    (s.copyDone e i host fail).seqEntry e i = { s.seqEntry e i with state := sqDecode, swapSlot := noToken } := by
  unfold State.copyDone
  rw [if_pos h, if_pos hb, State.swapEnds_seqEntry, State.swapUndone_seqEntry, if_pos rfl]

theorem State.copyDone_out (h : (s.seqEntry e i).state = sqSwapOut) (hb : ¬ s.copyBad e i fail = true) :
    (s.copyDone e i host fail).seqEntry e i = { s.seqEntry e i with state := sqSwapped, pages := 0, swapNo := (s.seqEas e).swapNo } ∧
      ((s.copyDone e i host fail).seqEas e).swapNo = (s.seqEas e).swapNo + 1 := by
  obtain ⟨hno, hent⟩ := s.swappedOut_spec e i
  obtain ⟨m, hm⟩ := (s.swappedOut e i).swapEnds_seqEas e i (s.ctxPages e i) stOk
  unfold State.copyDone
  rw [if_pos h, if_neg hb, State.swapEnds_seqEntry, hent, if_pos rfl, hm]
  exact ⟨rfl, hno⟩

theorem State.copyDone_inFails (h : (s.seqEntry e i).state = sqSwapIn) (hb : s.copyBad e i fail = true) :
    (s.copyDone e i host fail).seqEntry e i = (s.endSeq e i endLost 0 []).seqEntry e i := by
  unfold State.copyDone
  rw [if_neg (by rw [h]; decide), if_pos h, if_pos hb, State.swapEnds_seqEntry]

theorem State.copyDone_in (h : (s.seqEntry e i).state = sqSwapIn) (hb : ¬ s.copyBad e i fail = true) (hr : (s.seqEas e).buildRetry = false) :
    (s.copyDone e i host fail).seqEntry e i = { s.seqEntry e i with state := sqDecode, swapSlot := noToken } := by
  unfold State.copyDone
  rw [if_neg (by rw [h]; decide), if_pos h, if_neg hb, State.swappedIn_ends hr, State.swapEnds_seqEntry, State.swappedIn_seqEntry, if_pos rfl]

theorem State.copyDone_none (hout : (s.seqEntry e i).state ≠ sqSwapOut) (hin : (s.seqEntry e i).state ≠ sqSwapIn) : (s.copyDone e i host fail).seqEntry e i = s.seqEntry e i := by
  unfold State.copyDone
  rw [if_neg hout, if_neg hin, State.swapEnds_seqEntry]

end Swap

end Sys2Proof.Machine

/-! SUPPORT. Builds that waited (11 R350), and the statement about samples, varnish, swap copies and the registers of the sequence engine. -/
namespace Sys2Proof.Machine

open Sys2Proof Sys2Proof.Laws

section Resume

variable {s : State} {e : Nat}

theorem State.resumeBuild_idle (hw : (s.seqEas e).buildWaits = false) (hr : (s.seqEas e).buildRetry = false) : s.resumeBuild e = s := by
  simp only [State.resumeBuild, hw, hr, Bool.false_eq_true, if_false]

theorem State.resumeBuild_waited (hw : (s.seqEas e).buildWaits = true) (hr : (s.seqEas e).buildRetry = false) (hmay : s.mayBuild = true) :
    s.resumeBuild e = (s.setBuildWaits e false false).seqGo e [] := by
  simp only [State.resumeBuild, hw, hr, hmay, Bool.false_eq_true, if_false, if_true]

theorem State.autoBuild_unheld (h : (s.seqEas e).buildWaits = false) : s.autoBuild e = s.autoTry e := by
  unfold State.autoBuild
  exact if_neg (by rw [h, Bool.false_and]; exact Bool.false_ne_true)

theorem State.resumeBuild_retries (hw : (s.seqEas e).buildWaits = false) (hr : (s.seqEas e).buildRetry = true) : s.resumeBuild e = s.autoTry e := by
  simp only [State.resumeBuild, hw, hr, Bool.false_eq_true, if_false, if_true, State.autoBuild_unheld hw]

/-- AUTO between steps: the build is tried, and tried again at the next event that may help when no sequence took a row. -/
theorem State.autoTry_builds (hauto : s.flag e F.SEQ_EAS_CTRL_AUTO = true) (hon : s.seqOn e = true) (hphase : s.fld e F.SEQ_EAS_STATUS_PHASE = 0) (hlife : s.fld e F.EAS_LIFE_STATE = 3)
    (hmay : s.mayBuild = true) {built : Bool} {b : State} (hb : (s.setBuildWaits e false false).buildStep e = (built, b)) :
    s.autoTry e = if built then b else b.setBuildWaits e false true := by
  simp only [State.autoTry, hauto, hon, hphase, hlife, hmay, hb, Bool.not_true, Bool.or_self, ne_eq, not_true_eq_false, decide_false, Bool.false_eq_true, if_false]

end Resume

/-- Settles O49: each command by its rules above. -/
theorem sequencesAreSampledVarnishedAndLost : Obligations.SequencesAreSampledVarnishedAndLost := by
  intro s e
  refine ⟨?enable, ?draft, ?final, fun h => ?unvarnished, fun h => ?varnish, ?segment, ?swap, ?lose, ?peek, ?debug, ?head, fun hw hr => ?idle, fun hw hr hauto hon hphase hlife hmay => ?retries,
    fun hw hr hmay => ?waited⟩
  case enable =>
    intro req auto f a own
    have hon : a.seqOn f = s.seqOn f := State.flag_setFlag_apart _ _ _ _ _ _ (by decide) (by decide) (by decide)
    have hown : own ↔ (s.barOpen req F.SEQ_EAS_CTRL_ENABLE.off && (isVf req f && decide (f ≠ 0))) = true := by simp [own]
    rw [exec_seqEnable]
    refine ⟨fun hno => by rw [if_neg (mt hown.mpr hno)], fun hmay h => ?_, fun hmay h hc => ?_, fun hmay h hc => ?_⟩ <;> rw [if_pos (hown.mp hmay)]
    · rw [State.seqEnable_on (hon.trans h)]
    · rw [State.seqEnable_bad (hon.trans h) hc]
    · obtain ⟨hen, herr, hauto, hrings, hstop, hent, hmem, hout⟩ := State.seqEnable_spec (hon.trans h) hc
      have hbase : a.stopBase f = s.stopBase f := congrArg (65536 * ·) (State.fld_setFlag_apart _ _ _ _ _ _ (by decide) (by decide) (by decide))
      exact ⟨_, rfl, hen, herr, hauto.trans (State.flag_setFlag_same _ _ _ _ (by decide) (by decide)), hrings,
        by rw [hstop, hbase]; exact State.readBytes_mem (s := s) (t := a) rfl _ _, fun i => (hent i).trans (State.seqEntry_congr rfl i), hmem, hout⟩
  case draft =>
    intro id d ecc hon hk hm t j st
    have ht : t = s.sampleDraft e id d ecc := State.seqExec_draft id hon hk hm
    refine ⟨fun h => ht.trans (State.sampleDraft_refused id h), fun g h hg => ?_⟩
    rw [ht]
    exact ⟨State.sampleDraft_undue id h hg, fun tok s1 => State.sampleDraft_draws id h hg, fun s1 => State.sampleDraft_poisons id h hg⟩
  case final =>
    intro id d ecc hon hk hm t st
    have ht : t = s.sampleFinal e id d ecc := State.seqExec_final id hon hk hm
    refine ⟨fun h => ht.trans (State.sampleFinal_refused id h), fun g h hg => ?_⟩
    have hone := ht.trans (State.sampleFinal_one id h hg)
    obtain ⟨hphase, hbusy, heas⟩ := (finalSeg e d ecc g s).2.sampling_spec e id [(finalSeg e d ecc g s).1]
    rw [← hone] at hphase hbusy heas
    have hsegs : (t.seqEas e).segs = [(finalSeg e d ecc g s).1] := by rw [heas]
    refine ⟨hphase, hbusy, by rw [heas], fun hk => ?_, fun tok s1 hk hrow => ?_, fun s1 hk hrow => ?_, fun tok s1 tok' s2 hk hdrafts hprov hrow htok hrow' hend => ?_⟩ <;> rw [hsegs]
    · rw [finalSeg_prefill hk]
    · rw [finalSeg_decode hk hrow]
    · rw [finalSeg_decode_bad hk hrow]
    · rw [finalSeg_verify_two hk hdrafts hprov hrow htok hrow' hend]
  case unvarnished => exact if_neg (Nat.not_le.mpr h)
  case varnish =>
    intro r
    obtain ⟨hphase, hsegs, hrows, hent⟩ := r.2.2.closed_spec e
    exact ⟨r.2.2.closed e, hphase, hsegs, hrows, hent, (if_pos h).trans (congrArg _ (r.2.2.closeStep_eq e r.1 r.2.1))⟩
  case segment =>
    intro g n k y r gone
    have hleft : ∀ {m j code : Nat} {t : State}, r = (m, j, t) → t.hasEnded e g.seq code → r.1 = m ∧ r.2.1 = j ∧ gone code := fun {m j code t} hr hended => by
      have hgone : gone code = r.2.2.hasEnded e g.seq code := rfl
      rw [hgone, hr]; exact ⟨rfl, rfl, hended⟩
    refine ⟨fun hl => ?_, fun hl hp => hleft (varnishSeg_poison hl hp) (State.endSeq_hasEnded ..), fun hl hp hc => hleft (varnishSeg_cancel hl hp hc) (State.endSeq_hasEnded ..),
      fun tok hl hp hc hk htoks => ?_⟩
    · obtain ⟨info, hinfo⟩ := Option.ne_none_iff_exists'.mp hl
      exact hleft (varnishSeg_lost hinfo) (State.endSeq_hasEnded ..)
    · intro u
      have hu : u = _ := keepTokens_one _ _ tok (g.pos + 1) y
      have hr : r = _ := varnishSeg_decode hl hp hc hk htoks
      rw [hu]
      refine ⟨fun hcode => hleft (hr.trans (if_pos hcode)) (State.endSeq_hasEnded ..), fun hcode => ?_⟩
      obtain ⟨p, hp⟩ := s.commitOne_seqEntry e g (g.decoded y (y.kept tok))
      rw [hr, if_neg (not_not_intro hcode)]
      refine ⟨rfl, rfl, (sq_put_ent (s.commitOne e g (g.decoded y (y.kept tok))) e g.seq _).symm.imp_right fun h => ?_⟩
      rw [h, hp]
      exact ⟨rfl, rfl, rfl, rfl⟩
  case swap =>
    intro i host fail y bad
    have hbad : bad ↔ s.copyBad e i fail = true := (s.copyBad_iff e i fail).symm
    refine ⟨s.copyDone e i host fail, execSwapCopyDone_eq e i host fail s, fun j hj hr => State.copyDone_others hr hj, fun h hb => State.copyDone_outFails h (hbad.mp hb),
      fun h hb => State.copyDone_out h (mt hbad.mpr hb), fun h hb => ?_, fun h hb hr => State.copyDone_in h (mt hbad.mpr hb) hr, fun hout hin => State.copyDone_none hout hin⟩
    rw [State.copyDone_inFails h (hbad.mp hb)]
    exact s.endSeq_hasEnded e i endLost 0 []
  case lose =>
    intro req all i key may
    have hmay : may ↔ (s.barOpen req F.SEQ_LOSE_EASEL.off && (req.manages && decide (key = 0x4C))) = true := by simp [may]
    refine ⟨fun hno => by rw [exec_seqLose, if_neg (mt hmay.mpr hno)], fun h hall => by rw [exec_seqLose, if_pos (hmay.mp h), if_pos hall], fun h hall => ?_⟩
    have hone : exec (.seqLose req e all i key) s = .next (s.loseSeq e i s.loseInfo) := by rw [exec_seqLose, if_pos (hmay.mp h), hall]; rfl
    rw [hone]
    exact ⟨fun h => by rw [State.loseSeq_over h], fun hfree hending hin => by rw [State.loseSeq_inStep hfree hending hin], fun hfree hending hout =>
      ⟨_, rfl, by rw [State.loseSeq_ends hfree hending hout]; exact sq_end_ent s e i endLost s.loseInfo []⟩⟩
  case peek =>
    intro req i under f may
    have hmay : may ↔ (s.barOpen req F.SEQ_EAS_PEEK_INDEX.off && ((!under && isVf req f) || (under && req.manages && s.power powUnderpaint))) = true := by simp [may, and_assoc]
    rw [exec_seqPeek]
    refine ⟨fun hno => by rw [if_neg (mt hmay.mpr hno)], fun h => ?_⟩
    rw [if_pos (hmay.mp h)]
    have hrest := s.showWords_rest f F.SEQ_EAS_PEEK_DATA_DATA 32 ((s.seqEntry f i).bytes under)
    exact ⟨_, rfl, s.showWords_fld f F.SEQ_EAS_PEEK_DATA_DATA 32 _ 0x1C0180 (fun _ => rfl) (by decide), by rw [hrest], by rw [hrest], by rw [hrest]⟩
  case debug =>
    intro req under ecc may m
    have hmay : may ↔ (s.barOpen req F.SEQ_DBG_CTRL_GO.off && (req.manages && (!under || s.power powUnderpaint) && (decide (e.val ≠ 0) || s.power powRadioRead))) = true := by
      simp [may, and_assoc]
    rw [exec_seqDbgRead]
    refine ⟨fun hno => by rw [if_neg (mt hmay.mpr hno)], fun h hst => ?_, fun h hst => ?_⟩ <;> rw [if_pos (hmay.mp h)] <;> refine ⟨_, rfl, fun k hk => ?_⟩
    · rw [State.showWords_fld _ _ _ _ _ 0x1C0040 (fun _ => rfl) (by decide) k hk, dbgBytes, if_neg hst]
    · rw [State.showWords_fld _ _ _ _ _ 0x1C0040 (fun _ => rfl) (by decide) k hk, dbgBytes, if_pos hst, fieldLe_zeros, Nat.zero_mod]
  case head =>
    intro req r h f may
    have hmay : may ↔ (s.barOpen req (F.SEQ_OR_HEAD_HEAD r).off && (isVf req f && decide (h.toNat < s.orEntries f r))) = true := by simp [may]
    rw [exec_outputRingHeadWrite]
    refine ⟨fun hno => by rw [if_neg (mt hmay.mpr hno)], fun hm hretry hq => ?_, fun hm => by rw [if_pos (hmay.mp hm)]⟩
    rw [if_pos (hmay.mp hm)]
    have heas : (s.setFld f (F.SEQ_OR_HEAD_HEAD r) h.toNat).seqEas f = s.seqEas f := State.seqEas_congr rfl f
    have hflush := State.flushOut_idle (s := s.setFld f (F.SEQ_OR_HEAD_HEAD r) h.toNat) (by rw [heas]; exact hq)
    rw [hflush, State.retryBuild_off (by rw [State.seqEas_setSeqEas, heas]; exact hretry)]
    refine ⟨_, rfl, ?_, (State.seqEas_setSeqEas ..).trans heas, rfl, rfl⟩
    exact (State.fld_setFld_same _ _ _ _ (ringOffs_inWord r.isLt).1).trans (Nat.mod_eq_of_lt h.isLt)
  case idle => exact congrArg _ (State.resumeBuild_idle hw hr)
  case retries =>
    intro w f
    have hrun : exec (.buildRetry e) s = .next (s.autoTry e) := congrArg _ (State.resumeBuild_retries hw hr)
    rw [hrun]
    refine ⟨fun hnone => ?_, fun hsome => ?_⟩
    · have hb : w.buildStep e = (false, f) := State.buildStep_empty hnone
      rw [State.autoTry_builds hauto hon hphase hlife hmay hb, if_neg Bool.false_ne_true]
    · have hb := State.buildStep_opens hsome
      obtain ⟨hopen, hstep, hsegs⟩ := f.openStep_spec e
      refine ⟨f.openStep e, hopen, hstep, hsegs, ?_⟩
      rw [State.autoTry_builds hauto hon hphase hlife hmay hb, if_pos rfl]
      rfl
  case waited => exact congrArg _ (State.resumeBuild_waited hw hr hmay)

end Sys2Proof.Machine

/-! SUPPORT. The embedding engines (12 R368 to R380; 10 R316): what ENABLE, the ring's entry, a launch, a row, the deadline and completion make of a state, one rule for each case, and the statement about them. -/
namespace Sys2Proof.Machine

open Sys2Proof Sys2Proof.Laws

/-! ### ENABLE copies and checks the directory (R368) -/

section Directory

variable {s : State} {req : Requester} {e : Nat}

theorem exec_embEnable_at (hopen : s.barOpen req F.EMB_EAS_CTRL_ENABLE.off = true) (hunit : s.unitAt req F.EMB_EAS_CTRL_ENABLE.off = e) :
    exec (.embEnable req) s = .next (if isVf req e && decide (e ≠ 0) then s.embEnable e else s) := by
  change execEmbEnable req s = _
  rw [execEmbEnable, access_at _ hopen hunit]

/-- The directory as it stands in the easel's memory: its address, and its bytes. -/
def State.dirAddr (s : State) (e : Nat) : Nat := 65536 * s.fld e F.EMB_EAS_DIR_UNIT
def State.dirBytes (s : State) (e : Nat) : List Nat := s.readBytes (bondKey e (s.dirAddr e)) (64 * s.fld e F.EMB_EAS_DIR_COUNT_COUNT)

/-- The checks of ENABLE: the count, the share, poison, and each entry. -/
def State.dirChecks (s : State) (e : Nat) : Bool :=
  let n := s.fld e F.EMB_EAS_DIR_COUNT_COUNT
  decide (1 ≤ n ∧ n ≤ 64) && s.inShare e (s.dirAddr e) (64 * n) && !s.poisoned (bondKey e (s.dirAddr e)) (64 * n) && (cut64 n (s.dirBytes e)).all tbOk

theorem State.dirChecks_iff (s : State) (e : Nat) : let n := s.fld e F.EMB_EAS_DIR_COUNT_COUNT
    s.dirChecks e = true ↔
      1 ≤ n ∧ n ≤ 64 ∧ s.inShare e (s.dirAddr e) (64 * n) = true ∧ s.poisoned (bondKey e (s.dirAddr e)) (64 * n) = false ∧ ∀ x ∈ cut64 n (s.dirBytes e), tbOk x = true := by
  simp only [State.dirChecks, Bool.and_eq_true, decide_eq_true_eq, Bool.not_eq_true', List.all_eq_true, and_assoc]

/-- The engines serve the easel with a copy of its directory. -/
def State.copyDir (s : State) (e : Nat) : State :=
  (({ s with emb := { s.emb with dir := SMap.set (fun _ => []) s.emb.dir e (s.dirBytes e) } }).setFlag e F.EMB_EAS_CTRL_ENABLE true).setFlag e F.EMB_EAS_STATUS_CFG_ERR false

theorem State.embEnable_on (h : s.embOn e = true) : s.embEnable e = s := if_pos h

theorem State.embEnable_off (h : s.embOn e = false) : s.embEnable e = if s.dirChecks e then s.copyDir e else s.setFlag e F.EMB_EAS_STATUS_CFG_ERR true :=
  if_neg (by rw [h]; exact Bool.false_ne_true)

theorem State.copyDir_on (s : State) (e : Nat) : (s.copyDir e).embOn e = true := by
  unfold State.embOn State.copyDir
  rw [State.flag_setFlag_apart _ _ _ _ _ _ (by decide) (by decide) (by decide)]
  exact State.flag_setFlag_same _ _ _ _ (by decide) (by decide)

theorem State.copyDir_noError (s : State) (e : Nat) : (s.copyDir e).flag e F.EMB_EAS_STATUS_CFG_ERR = false := State.flag_setFlag_same _ _ _ _ (by decide) (by decide)

theorem State.embEntry_copyDir_same (s : State) (e i : Nat) : (s.copyDir e).embEntry e i = ((s.dirBytes e).drop (64 * i)).take 64 :=
  congrArg (fun l : List Nat => (l.drop (64 * i)).take 64) (SMap.get_set_same _ _ _ _)

theorem State.embEntry_copyDir_ne (s : State) {e f : Nat} (h : f ≠ e) (i : Nat) : (s.copyDir e).embEntry f i = s.embEntry f i :=
  congrArg (fun l : List Nat => (l.drop (64 * i)).take 64) (SMap.get_set_ne _ _ _ h)

end Directory

/-! ### The ring's head entry (R370, R371; 10 R316) -/

/-- An easel's requests that wait for their launch on an engine. -/
def State.embWaits (s : State) (p e : Nat) : Nat := (s.emb.reqs.filter (fun r => decide (r.engine = p ∧ r.easel = e) && !r.launched)).length

/-- The entry joins its engine as the easel's newest request, and leaves the ring. -/
def State.joinEngine (s : State) (e : Nat) (d : List Nat) : State :=
  (((s.enroll e).2.setReqsEmb (s.emb.reqs ++ [⟨s.sched.nextId, e, fieldLe d 2 2, d, false, false, false, [], [], [], [], [], false⟩])).embTake (fieldLe d 2 2) e).sqAdvance e

section Gather

variable {s t : State} {e : Fin 64} {host : Blob} {d : List Nat}

theorem exec_embGather_idle (hw : s.sqWaiting e = false) : exec (.embGather e host) s = .next s := if_pos (by rw [hw]; rfl)

theorem exec_embGather_unread (hw : s.sqWaiting e = true) (hf : s.sqFetch e host = (none, t)) : exec (.embGather e host) s = .next t := by
  change execEmbGather e host s = _
  simp only [execEmbGather, hw, hf, Bool.not_true, Bool.false_eq_true, if_false]

/-- An entry that was read: the choices that remain. -/
theorem exec_embGather_read (hw : s.sqWaiting e = true) (hf : s.sqFetch e host = (some d, t)) : exec (.embGather e host) s =
    if nth 0 d 0 ≠ 0x18 then .next s else if embEntryZero d = false then .next (t.refuseEntry e stOpcode d) else if t.embStatus e d ≠ stOk then .next (t.refuseEntry e (t.embStatus e d) d)
      else if 32 ≤ t.embWaits (fieldLe d 2 2) e then .next (t.setFlag e F.EAS_STATUS_RING_WAIT true) else .next (t.joinEngine e d) := by
  change execEmbGather e host s = _
  simp only [execEmbGather, hw, hf, Bool.not_true, Bool.false_eq_true, if_false, Bool.not_eq_true']
  rfl

end Gather

/-! ### Launches (R371 to R373, R376) -/

/-- A request may launch on an engine: its accumulator fits, an issue slot is free, and nothing holds the easel's launches (R372). -/
def State.launchRoom (s : State) (p e : Nat) (r : EmbReq) : Prop :=
  s.accUsed p + s.accBytes r ≤ 2 ^ 24 ∧ ((s.embLaunched p).filter (fun q => !q.parked)).length < 4 ∧ s.brace = false ∧ s.cqHeld e = false

/-- A launch is held while its take is not granted, and while there is no room for it. -/
def State.launchHeld (s : State) (p e : Nat) (r : EmbReq) : Bool :=
  (rqWait r.entry).testBit 11 && !s.takeGranted (.emb r.id) || decide (2 ^ 24 < s.accUsed p + s.accBytes r) || decide (4 ≤ ((s.embLaunched p).filter (fun q => !q.parked)).length) ||
    s.brace || s.cqHeld e

theorem State.launchHeld_iff (s : State) (p e : Nat) (r : EmbReq) :
    s.launchHeld p e r = true ↔ (rqWait r.entry).testBit 11 = true ∧ s.takeGranted (.emb r.id) = false ∨ ¬s.launchRoom p e r := by
  simp only [State.launchHeld, State.launchRoom, Bool.or_eq_true, Bool.and_eq_true, Bool.not_eq_true', decide_eq_true_eq, not_and_or, not_le, not_lt, Bool.not_eq_false, or_assoc]

/-- A launch whose take is granted, or that takes nothing, is not held while there is room. -/
theorem State.launchHeld_off {s : State} {p e : Nat} {r : EmbReq} (htake : (rqWait r.entry).testBit 11 = false ∨ s.takeGranted (.emb r.id) = true) (hroom : s.launchRoom p e r) :
    ¬s.launchHeld p e r = true := by
  rw [State.launchHeld_iff]
  rintro (⟨hwait, hnot⟩ | hno)
  · rcases htake with h | h
    · exact Bool.false_ne_true (h.symm.trans hwait)
    · exact Bool.false_ne_true (hnot.symm.trans h)
  · exact hno hroom

/-- A request's offsets as its launch reads them. -/
def State.embOfs (s : State) (e : Nat) (d : List Nat) : List Nat := if rqPool d = 0 then [] else s.embWords e (rqOfs d) (rqBags d + 1)

/-- A request with the lists that its launch reads. -/
def State.launchedReq (s : State) (e : Nat) (r : EmbReq) : EmbReq :=
  { r with
    launched := true, idx := s.embWords e (rqIdx r.entry) (rqCount r.entry), ofs := s.embOfs e r.entry
    wgt := if rqPool r.entry = 4 then s.embWords e (rqWgt r.entry) (rqCount r.entry) else [] }

/-- The status of a request at its launch, its offsets judged too (R371). -/
def State.launchStatus (s : State) (e : Nat) (d : List Nat) : Nat :=
  if s.embStatus e d = stOk ∧ rqPool d ≠ 0 ∧ !ofsOk (rqCount d) (s.embOfs e d) then stShape else s.embStatus e d

/-- A request that its launch refuses leaves with its record. -/
def State.refuseLaunch (s : State) (p e : Nat) (r : EmbReq) (st : Nat) : State :=
  let s1 := (s.useTake (.emb r.id)).setReqsEmb (s.emb.reqs.filter (fun q => decide (q.id ≠ r.id)))
  ((s1.postRecord e 0x18 (embRecord (rqTag r.entry) st (if rqStrict r.entry then 2 else 0) e p 0 0 0 0)).retire e r.id ((rqFlags r.entry).testBit 1)).embTake p e

/-- A request is launched: each distinct row is asked for, and bags that need none are written. -/
def State.startLaunch (s : State) (p e : Nat) (r : EmbReq) : State :=
  (((forEach (s.launchedReq e r).distinct (fun i (u : State) => match u.embReq r.id with
    | some q => u.askRow q i
    | none => u) ((s.useTake (.emb r.id)).updReq r.id (fun _ => s.launchedReq e r))).yzFlush.showEmb p e).embTake p e).embProgress r.id

/-- A refused launch answers the first status of R371, or SHAPE for its offsets. -/
theorem State.launchStatus_refused {s : State} {e st : Nat} {d : List Nat} (hst : st ≠ stOk)
    (h : st = s.embStatus e d ∨ (s.embStatus e d = stOk ∧ st = stShape ∧ ¬rqPool d = 0 ∧ ofsOk (rqCount d) (s.embOfs e d) = false)) : s.launchStatus e d = st := by
  rcases h with rfl | ⟨hok, rfl, hpool, hofs⟩
  · exact if_neg fun hc => hst hc.1
  · exact if_pos ⟨hok, hpool, by rw [hofs]; rfl⟩

theorem State.launchStatus_ok {s : State} {e : Nat} {d : List Nat} (hok : s.embStatus e d = stOk) (h : rqPool d = 0 ∨ ofsOk (rqCount d) (s.embOfs e d) = true) :
    s.launchStatus e d = stOk := by
  refine (if_neg ?_).trans hok
  rintro ⟨-, hpool, hofs⟩
  rcases h with h | h
  · exact hpool h
  · rw [h] at hofs; exact Bool.false_ne_true hofs

section Launch

variable {s : State} {p : Fin 3} {e : Fin 64} {r : EmbReq}

theorem exec_embLaunch_none (h : s.embNext p e = none) : exec (.embLaunch p e) s = .next s := by
  change execEmbLaunch p e s = _
  simp only [execEmbLaunch, h]

/-- The oldest request: it is held, or its launch takes its course. -/
theorem exec_embLaunch_some (h : s.embNext p e = some r) : exec (.embLaunch p e) s =
    if s.launchHeld p e r then .next (s.embTake p e) else if 16384 < s.rowsInFlight p + (s.launchedReq e r).distinct.length then .next s
    else if s.launchStatus e r.entry ≠ stOk then .next (s.refuseLaunch p e r (s.launchStatus e r.entry)) else .next (s.startLaunch p e r) := by
  change execEmbLaunch p e s = _
  unfold execEmbLaunch
  rw [h]
  rfl

end Launch

/-! ### Rows (R369, R373, R376) -/

section Rows

variable {s : State} {r : EmbReq} {id row i j : Nat} {ecc : Option EccEvent}

/-- A local row is here once it is read; one beyond the share is missing. -/
theorem State.localRow_eq (s : State) (r : EmbReq) (i : Nat) (ecc : Option EccEvent) :
    let t := s.embEntry r.easel (rqTable r.entry); let a := tbBase t + (shardOf t i).2 * tbRowBytes t; let n := rowBytes (tbFmt t) (tbDim t); let m := s.bondLoad r.easel a n stPoison ecc
    s.localRow r i ecc = if s.inShare r.easel a n then
      ((m.st.setRow r.id i ⟨rwHere, false, m.st.viewOf .pass r.easel a (m.st.tagPoison (bondKey r.easel a) m.data)⟩).incWrap r.easel F.EMB_EAS_ROWS_LOCAL_COUNT 1).incWrap 0
        (F.EMB_ENG_ROWS_COUNT r.engine) 1
    else (s.refuseShare r.easel a).missRow r i rwOther := by
  intro t a n m
  have hread : s.spRead .pass r.easel ⟨spBonded, 0, a, n⟩ [] ecc = if s.inShare r.easel a n then
      ⟨if m.status = .poison then stPoison else stOk, m.st.viewOf .pass r.easel a (m.st.tagPoison (bondKey r.easel a) m.data), m.st⟩ else ⟨stOutOfShare, [], s⟩ := rfl
  unfold State.localRow
  dsimp only
  rw [hread]
  split
  · refine if_pos ?_
    dsimp only
    split
    · exact Or.inr rfl
    · exact Or.inl rfl
  · refine if_neg ?_
    dsimp only
    decide

theorem exec_embRowArrival_absent (h : s.embReq id = none) : exec (.embRowArrival id row ecc) s = .next s := by
  change execEmbRowArrival id row ecc s = _
  simp only [execEmbRowArrival, h]

theorem exec_embRowArrival_some (h : s.embReq id = some r) : exec (.embRowArrival id row ecc) s =
    if r.launched = true ∧ row ∈ r.distinct ∧ (r.row row).state = rwOut ∧ (r.row row).remote = false then .next ((s.localRow r row ecc).embProgress id) else .next s := by
  change execEmbRowArrival id row ecc s = _
  simp only [execEmbRowArrival, h, Bool.and_eq_true, Bool.not_eq_true', decide_eq_true_eq, List.contains_iff_mem, and_assoc]

theorem State.askRow_beyond (h : tbRows (s.embEntry r.easel (rqTable r.entry)) ≤ i) : s.askRow r i = s.missRow r i rwBad := if_pos h

theorem State.askRow_jobless (h : i < tbRows (s.embEntry r.easel (rqTable r.entry))) (hj : s.jobOf r.easel = none) : s.askRow r i = s.missRow r i rwDead := by
  unfold State.askRow
  rw [hj]
  exact if_neg (Nat.not_le.mpr h)

theorem State.askRow_otherJob (h : i < tbRows (s.embEntry r.easel (rqTable r.entry))) (hj : s.jobOf r.easel = some j)
    (hjob : s.fld 0 (F.YZF_JOB_ID_JOB j) ≠ tbJob (s.embEntry r.easel (rqTable r.entry))) : s.askRow r i = s.missRow r i rwDead := by
  unfold State.askRow
  rw [hj]
  exact (if_neg (Nat.not_le.mpr h)).trans (if_pos hjob)

theorem State.askRow_own (h : i < tbRows (s.embEntry r.easel (rqTable r.entry))) (hj : s.jobOf r.easel = some j) (hjob : s.fld 0 (F.YZF_JOB_ID_JOB j) = tbJob (s.embEntry r.easel (rqTable r.entry)))
    (htomb : s.tombstone j = false) (hrank : tbRank0 (s.embEntry r.easel (rqTable r.entry)) + (shardOf (s.embEntry r.easel (rqTable r.entry)) i).1 = s.selfRank j) :
    s.askRow r i = s.setRow r.id i ⟨rwOut, false, []⟩ := by
  unfold State.askRow
  rw [hj]
  exact (if_neg (Nat.not_le.mpr h)).trans ((if_neg (not_not_intro hjob)).trans (if_pos ⟨hrank, by rw [htomb]; rfl⟩))

end Rows

/-! ### The deadline, and completion (R376, R379, R380) -/

/-- At the deadline every outstanding row is missing, and bags that waited for it are written. -/
def State.expireReq (s : State) (id : Nat) (r : EmbReq) : State :=
  (forEach (r.distinct.filter (fun i => decide ((r.row i).state = rwOut))) (fun i (u : State) => match u.embReq id with
    | some q => u.missRow q i rwLate
    | none => u) (s.updReq id (fun q => { q with expired := true }))).embProgress id

/-- A request has launched and each of its bags is written. -/
def EmbReq.complete (r : EmbReq) : Bool := r.launched && (List.range (rqBags r.entry)).all (fun b => NSet.has b r.written)

theorem EmbReq.complete_iff (r : EmbReq) : r.complete = true ↔ r.launched = true ∧ ∀ b, b < rqBags r.entry → NSet.has b r.written = true := by
  simp only [EmbReq.complete, Bool.and_eq_true, List.all_eq_true, List.mem_range]

/-- A complete request leaves, sends its signal and posts its record. -/
def State.completeReq (s : State) (id cycles : Nat) (r : EmbReq) : State :=
  let s1 := s.embDrop r
  let s2 := if (rqSignal r.entry).testBit 11 then s1.sendSignal (linkSem (rqSignal r.entry)) else s1
  (s2.postRecord r.easel 0x18 (r.record r.status cycles)).retire r.easel id ((rqFlags r.entry).testBit 1)

section Ends

variable {s : State} {r : EmbReq} {id : Nat}

theorem exec_embDeadline_absent (h : s.embReq id = none) : exec (.embDeadline id) s = .next s := by
  change execEmbDeadline id s = _
  simp only [execEmbDeadline, h]

theorem exec_embDeadline_some (h : s.embReq id = some r) : exec (.embDeadline id) s =
    if r.launched = true ∧ r.expired = false ∧ rqDeadline r.entry ≠ 0 then .next (s.expireReq id r) else .next s := by
  change execEmbDeadline id s = _
  simp only [execEmbDeadline, h, Bool.and_eq_true, Bool.not_eq_true', decide_eq_true_eq, and_assoc]
  rfl

theorem exec_embComplete_absent (h : s.embReq id = none) (k : Nat) : exec (.embComplete id k) s = .next s := by
  change execEmbComplete id k s = _
  simp only [execEmbComplete, h]

theorem exec_embComplete_some (h : s.embReq id = some r) (k : Nat) : exec (.embComplete id k) s = if r.complete then .next (s.completeReq id k r) else .next s := by
  change execEmbComplete id k s = _
  unfold execEmbComplete
  rw [h]
  rfl

/-- No request with its number is left on the engines. -/
theorem State.embDrop_gone (s : State) (r : EmbReq) : ∀ q ∈ (s.embDrop r).emb.reqs, q.id ≠ r.id := fun _ hq => of_decide_eq_true (List.mem_filter.mp hq).2

end Ends

/-- Settles O50: each command by its rules above. -/
theorem embeddingRequestsAreGathered : Obligations.EmbeddingRequestsAreGathered := by
  intro s
  refine ⟨fun req e hopen hunit => ?enable, fun e host => ?gather, fun p e => ?launch, fun id => ?request, fun r i => ?ask⟩
  case enable =>
    rw [exec_embEnable_at hopen hunit]
    refine ⟨fun hno => ?_, fun hvf he hoff => ?_⟩
    · rcases hno with hvf | he | hon
      · rw [hvf]; rfl
      · rw [he, decide_eq_false (not_not_intro rfl), Bool.and_false]; rfl
      · rw [State.embEnable_on hon, ite_self]
    · intro n a bs ok
      rw [hvf, decide_eq_true he, Bool.true_and, if_pos rfl, State.embEnable_off hoff]
      have hchecks : s.dirChecks e = true ↔ ok := s.dirChecks_iff e
      refine ⟨fun hok => ?_, fun hbad => by rw [if_neg (mt hchecks.mp hbad)]⟩
      rw [if_pos (hchecks.mpr hok)]
      exact ⟨_, rfl, s.copyDir_on e, s.copyDir_noError e, s.embEntry_copyDir_same e, fun f i hf => s.embEntry_copyDir_ne hf i, rfl, rfl⟩
  case gather =>
    refine ⟨exec_embGather_idle, fun s1 => exec_embGather_unread, fun d s1 hw hf => ?_⟩
    intro p st waits
    rw [exec_embGather_read hw hf]
    refine ⟨fun hk => if_pos hk, fun hk hz => ?_, fun hk hz hst => ?_, fun hk hz hst hfull => ?_, fun hk hz hst hroom => ?_⟩ <;> rw [if_neg (not_not_intro hk)]
    · rw [if_pos hz]
    all_goals rw [if_neg (by rw [hz]; exact Bool.noConfusion)]
    · exact if_pos hst
    all_goals rw [if_neg (not_not_intro hst)]
    · exact if_pos hfull
    · exact if_neg (Nat.not_le.mpr hroom)
  case launch =>
    refine ⟨exec_embLaunch_none, fun r hr => ?_⟩
    intro d none_ room ofs q
    rw [exec_embLaunch_some hr]
    refine ⟨fun hheld => if_pos ((s.launchHeld_iff p e r).mpr hheld), fun htake hroom => ?_⟩
    rw [if_neg (State.launchHeld_off htake hroom)]
    refine ⟨fun hmany => if_pos hmany, fun (hfits : s.rowsInFlight p + (s.launchedReq e r).distinct.length ≤ 16384) => ?_⟩
    rw [if_neg (Nat.not_lt.mpr hfits)]
    refine ⟨fun st hst hwhy => ?_, fun hok hofs => ?_⟩
    · rw [State.launchStatus_refused hst hwhy, if_pos hst]
      rfl
    · rw [if_neg (not_not_intro (State.launchStatus_ok hok hofs))]
      rfl
  case request =>
    refine ⟨fun hnone => ⟨fun row ecc => exec_embRowArrival_absent hnone, exec_embDeadline_absent hnone, exec_embComplete_absent hnone⟩, fun r hr => ⟨fun row ecc => ?_, ?_, ?_, fun k => ?_⟩⟩
    · rw [exec_embRowArrival_some hr]
      refine ⟨fun hno => if_neg ?_, fun hl hrow hout hloc => ⟨if_pos ⟨hl, hrow, hout, hloc⟩, fun hin => ?_, fun hin => ?_⟩⟩
      · rintro ⟨hl, hrow, hout, hloc⟩
        simp [hl, hrow, hout, hloc] at hno
      · exact (s.localRow_eq r row ecc).trans (if_neg (by rw [hin]; exact Bool.false_ne_true))
      · exact (s.localRow_eq r row ecc).trans (if_pos hin)
    · intro hno
      rw [exec_embDeadline_some hr]
      refine if_neg ?_
      rintro ⟨hl, hexp, hdl⟩
      simp [hl, hexp, hdl] at hno
    · intro hl hexp hdl
      rw [exec_embDeadline_some hr]
      exact if_pos ⟨hl, hexp, hdl⟩
    · intro all
      rw [exec_embComplete_some hr]
      exact ⟨fun hno => if_neg (mt r.complete_iff.mp hno), fun hall => ⟨if_pos (r.complete_iff.mpr hall), s.embDrop_gone r⟩⟩
  case ask =>
    intro t sh
    exact ⟨State.askRow_beyond, State.askRow_jobless, fun j hi hj => ⟨State.askRow_otherJob hi hj, fun hjob htomb hrank => State.askRow_own hi hj hjob htomb hrank⟩⟩

end Sys2Proof.Machine

/-! SUPPORT. Frames of the Yaroz fabric (13 R384, R385, R398 to R401, R410, R411, R414, R415, R417): the checks of an arriving frame, a packet's turn in its connection, links that go down and come up, and the statement about them. -/
namespace Sys2Proof.Machine

open Sys2Proof Sys2Proof.Laws

/-! ### Sending touches no register (R398 to R401) -/

@[simp] theorem State.unwait_regs (s : State) (x : YzTx) : (s.unwait x).regs = s.regs := by
  unfold State.unwait; split <;> rfl

@[simp] theorem State.wakeLink_regs (s : State) (l : Nat) : (s.wakeLink l).regs = s.regs := by
  unfold State.wakeLink; split <;> rfl

@[simp] theorem State.yzEmit_regs (s : State) (path easel : Nat) (p : YzPkt) : (s.yzEmit path easel p).regs = s.regs := by
  unfold State.yzEmit
  split
  · exact s.wakeLink_regs path
  · rfl

@[simp] theorem State.yzPut_regs (s : State) (slot rank : Nat) (x : YzTx) : (s.yzPut slot rank x).regs = s.regs := by
  unfold State.yzPut
  dsimp only
  split
  · exact s.unwait_regs x
  · exact (State.yzEmit_regs ..).trans (s.unwait_regs x)

@[simp] theorem State.yzPump_regs (s : State) (slot rank n : Nat) : (s.yzPump slot rank n).regs = s.regs := by
  induction n generalizing s with
  | zero => rfl
  | succ n ih =>
    unfold State.yzPump
    dsimp only
    split
    · rfl
    · exact (ih _).trans (State.yzPut_regs ..)

@[simp] theorem State.yzKick_regs (s : State) (slot rank : Nat) : (s.yzKick slot rank).regs = s.regs := s.yzPump_regs slot rank _

@[simp] theorem State.yzKickAll_regs (s : State) : s.yzKickAll.regs = s.regs :=
  each_keep (fun t : State => t.regs = s.regs) (fun (p : Nat × YzConn) (t : State) => t.yzKick (p.1 / 4096) (p.1 % 4096)) (fun _ t h => (t.yzKick_regs _ _).trans h) s.yz.conns s rfl

@[simp] theorem State.yzReroute_regs (s : State) (path : Nat) : (s.yzReroute path).regs = s.regs := by
  unfold State.yzReroute
  refine each_keep (fun t : State => t.regs = s.regs) _ (fun p t ht => ?_) _ _ rfl
  exact each_keep (fun u : State => u.regs = s.regs) (fun (x : YzTx) (u : State) => u.yzPut (p.1 / 4096) (p.1 % 4096) x) (fun x u hu => (u.yzPut_regs _ _ x).trans hu) _ t ht

/-- Equal register files show equal fields. -/
theorem State.fld_of_regs {s t : State} (h : t.regs = s.regs) (u : Nat) (f : Fld) : t.fld u f = s.fld u f := by
  unfold State.fld State.reg; rw [h]

theorem State.flag_of_regs {s t : State} (h : t.regs = s.regs) (u : Nat) (f : Fld) : t.flag u f = s.flag u f := by
  unfold State.flag; rw [State.fld_of_regs h]

/-! ### The checks of a frame (R384, R385, R415; 18 R523) -/

/-- A frame is counted on the link that it arrives on. -/
def State.frameCounted (s : State) (path : Nat) (f : YzFrame) : State :=
  if path < 16 then s.countUnits 0 (F.YZF_LINK_RX_UNITS path) 65536 (s.yzFrameLen f.pkt) else s

/-- No injection point of the checks of a frame is armed. -/
def State.unaltered (s : State) (path : Nat) : Prop :=
  (path < 16 → s.flag (149 + path) F.FLT_INJSTAT_ARMED = false) ∧ s.flag 175 F.FLT_INJSTAT_ARMED = false ∧ s.flag 176 F.FLT_INJSTAT_ARMED = false

/-- A frame of a slot's job comes from no rank of it (R415; 18 R523). -/
def State.spoofed (s : State) (f : YzFrame) (j : Nat) : Bool :=
  let e := s.rankEntry j f.pkt.src
  decide (f.smac ≠ e.1) || (decide (f.pkt.type = 1) && decide (f.pkt.src = s.selfRank j ∨ e.2.2.1 = 1))

theorem State.spoofed_iff (s : State) (f : YzFrame) (j : Nat) : let e := s.rankEntry j f.pkt.src
    s.spoofed f j = true ↔ f.smac ≠ e.1 ∨ (f.pkt.type = 1 ∧ (f.pkt.src = s.selfRank j ∨ e.2.2.1 = 1)) := by
  simp only [State.spoofed, Bool.or_eq_true, Bool.and_eq_true, decide_eq_true_eq]

@[simp] theorem State.noteLink_regs (s : State) (path : Nat) (p : YzPkt) : (s.noteLink path p).regs = s.regs := by
  unfold State.noteLink; split <;> rfl

theorem State.noteLink_slotOf (s : State) (path : Nat) (p : YzPkt) (job : Nat) : (s.noteLink path p).slotOf job = s.slotOf job := by
  unfold State.noteLink; split <;> rfl

theorem State.noteLink_spoofed (s : State) (path : Nat) (p : YzPkt) (f : YzFrame) (j : Nat) : (s.noteLink path p).spoofed f j = s.spoofed f j := by
  unfold State.noteLink; split <;> rfl

section Accept

variable {s : State} {path : Nat} {f : YzFrame}

theorem State.yzAccept_closed (h : s.yzPort path = false) : s.yzAccept path f = (none, s) := if_pos (by rw [h]; rfl)

/-- The choices that remain for a frame on an open path, while nothing is injected. -/
theorem State.yzAccept_open (hport : s.yzPort path = true) (h : (s.frameCounted path f).unaltered path) :
    let u := s.frameCounted path f; let v := u.noteLink path f.pkt
    s.yzAccept path f =
      if f.fcs = false then (none, if path < 16 ∧ u.fld 0 (F.YZF_LINK_STATUS_MODE path) = 1 then u.sendLack path else u)
      else if f.icrc = false ∨ f.dmac ≠ u.fabMac then (none, v.dropIcrc path false)
      else match u.slotOf f.pkt.job with
        | none => (none, v.incSat 0 F.YZF_DROP_JOB 1)
        | some j => if u.spoofed f j then (none, v.dropSpoof path j f.pkt.src false) else (some j, v) := by
  intro u v
  obtain ⟨hlink, hicrc, hspoof⟩ := h
  have hcrc : (if path < 16 then u.inject (149 + path) atelier else (none, u)) = (none, u) := by
    split
    next hp => exact inj_off _ _ _ (hlink hp)
    next => rfl
  have hv (d : Nat) : (u.noteLink path f.pkt).flag d F.FLT_INJSTAT_ARMED = u.flag d F.FLT_INJSTAT_ARMED := State.flag_of_regs (u.noteLink_regs path f.pkt) d _
  have hbad : (u.noteLink path f.pkt).inject 175 atelier = (none, u.noteLink path f.pkt) := inj_off _ _ _ ((hv 175).trans hicrc)
  have hown : (u.noteLink path f.pkt).inject 176 atelier = (none, u.noteLink path f.pkt) := inj_off _ _ _ ((hv 176).trans hspoof)
  have hu : (if path < 16 then s.countUnits 0 (F.YZF_LINK_RX_UNITS path) 65536 (s.yzFrameLen f.pkt) else s) = u := rfl
  unfold State.yzAccept
  rw [if_neg (by rw [hport]; exact Bool.false_ne_true), hu]
  clear_value u
  simp only [hcrc, hbad, hown, State.spoofed, Option.isSome_none, Bool.false_or, Bool.false_eq_true, if_false, Bool.or_eq_true, Bool.and_eq_true, Bool.not_eq_true', decide_eq_true_eq]
  rfl

end Accept

/-! ### A frame of a command's type (R384, R398 to R400) -/

/-- What an accepted packet acknowledges and grants on its connection. -/
def State.creditTaken (s : State) (j : Nat) (p : YzPkt) : State :=
  let t := (p.ack.map (s.yzAcked j p.src)).getD s
  (t.setConn j p.src { t.yzConn j p.src with granted := (t.yzConn j p.src).granted + p.credit }).yzKick j p.src

/-- A NAK has the packet after its number sent again. -/
def State.nakTaken (s : State) (j : Nat) (p : YzPkt) : State :=
  ((p.ack.bind (fun a => (s.yzConn j p.src).unacked.find? (fun x => decide (x.psn = (a + 1) % 2 ^ 24)))).map (s.yzPut j p.src)).getD s

/-- The commands of arriving frames, each with the type it takes and what a packet of that type does once it has acknowledged and granted. -/
def frameCommands (path : Fin 24) (f : YzFrame) : List (Instr × Nat × (Nat → State → State)) :=
  [(.yarozReq path f, 1, fun j t => t.yzNumbered j f.pkt.src f.pkt), (.yarozResp path f, 2, fun j t => t.yzNumbered j f.pkt.src f.pkt), (.yarozAck path f, 3, fun _ t => t),
    (.yarozCredit path f, 5, fun _ t => t), (.yarozNak path f, 4, fun j t => t.nakTaken j f.pkt)]

theorem exec_yarozNak (path : Fin 24) (f : YzFrame) (s : State) : exec (.yarozNak path f) s = .next (s.yzInbound path 4 f (fun j t => t.nakTaken j f.pkt)) := by
  change Host.Outcome.next _ = _
  congr 2
  funext j t
  unfold State.nakTaken
  cases f.pkt.ack with
  | none => rfl
  | some a =>
    dsimp only [Option.bind_some]
    cases (t.yzConn j f.pkt.src).unacked.find? (fun x => decide (x.psn = (a + 1) % 2 ^ 24)) <;> rfl

theorem exec_frameCommand (s : State) (path : Fin 24) (f : YzFrame) : ∀ c ∈ frameCommands path f, exec c.1 s = .next (s.yzInbound path c.2.1 f c.2.2) := by
  simp only [frameCommands, List.forall_mem_cons, List.not_mem_nil, false_implies, implies_true, and_true]
  exact ⟨rfl, rfl, rfl, rfl, exec_yarozNak path f s⟩

section Inbound

variable {s t : State} {path type j : Nat} {f : YzFrame} {act : Nat → State → State}

theorem State.yzInbound_otherType (h : f.pkt.type ≠ type) : s.yzInbound path type f act = s := if_pos h

theorem State.yzInbound_dropped (h : f.pkt.type = type) (ha : s.yzAccept path f = (none, t)) : s.yzInbound path type f act = t := by
  unfold State.yzInbound
  rw [if_neg (not_not_intro h), ha]

theorem State.yzInbound_taken (h : f.pkt.type = type) (ha : s.yzAccept path f = (some j, t)) : s.yzInbound path type f act = act j (t.creditTaken j f.pkt) := by
  unfold State.yzInbound State.creditTaken
  rw [if_neg (not_not_intro h), ha]
  cases f.pkt.ack <;> rfl

end Inbound

/-! ### A packet's turn (R398, R399) -/

section Numbered

variable {s : State} {j r : Nat} {p : YzPkt}

theorem State.yzNumbered_due (h : p.psn = (s.yzConn j r).rxPsn) : let t := ((s.takePkt j r p).takeAhead j r 64).yzControl j r 3 0
    s.yzNumbered j r p = if p.type = 1 then t.yzGrant j r else t := if_pos h

theorem State.yzNumbered_ahead (h : p.psn ≠ (s.yzConn j r).rxPsn) (ha : seqAhead 24 p.psn (s.yzConn j r).rxPsn = true) :
    s.yzNumbered j r p = (if (s.yzConn j r).ahead.length < 64 ∧ (s.yzConn j r).ahead.all (fun q => decide (q.psn ≠ p.psn)) then
      s.setConn j r { s.yzConn j r with ahead := (s.yzConn j r).ahead ++ [p] } else s).yzControl j r 4 0 := (if_neg h).trans (if_pos ha)

theorem State.yzNumbered_again (h : p.psn ≠ (s.yzConn j r).rxPsn) (ha : seqAhead 24 p.psn (s.yzConn j r).rxPsn = false) : s.yzNumbered j r p = s.yzControl j r 3 0 :=
  (if_neg h).trans (if_neg (by rw [ha]; exact Bool.false_ne_true))

end Numbered

/-! ### LINK_REPLAY (R399) -/

/-- Send frames on a link as they are. -/
def State.resend (s : State) (l : Nat) (fs : List YzPkt) : State :=
  forEach fs (fun q (t : State) => (t.emit (.yaroz l q)).countUnits 0 (F.YZF_LINK_TX_UNITS l) 65536 (t.yzFrameLen q)) s

theorem State.resend_out (s : State) (l : Nat) (fs : List YzPkt) : (s.resend l fs).out = s.out ++ fs.map (fun q => Output.yaroz l q) := by
  induction fs generalizing s with
  | nil => exact (List.append_nil _).symm
  | cons q fs ih => exact (ih _).trans (List.append_assoc s.out [Output.yaroz l q] _)

/-! ### Links go down and come up (R401, R417) -/

theorem linkField_inWord (l : Fin 16) : (F.YZF_LINK_STATUS_UP l).inWord = true ∧ (F.YZF_LINK_STATUS_LANES_UP l).inWord = true := by
  simp only [inWord_iff, regSpan]; omega

/-- The global status of the links shares no bit with a link's own. -/
theorem linkField_apart (l : Fin 16) : (F.YZF_LINK_STATUS_UP l).apart F.YZF_STATUS_LINK_UP = true ∧ (F.YZF_LINK_STATUS_LANES_UP l).apart F.YZF_STATUS_LINK_UP = true ∧
    (F.YZF_LINK_STATUS_UP l).apart (F.YZF_LINK_STATUS_LANES_UP l) = true := by
  simp only [apart_iff]; omega

/-- A link shows whether it is up, its lanes, and its bit among the links. -/
def State.showLink (s : State) (l : Fin 16) (up : Bool) (lanes links : Nat) : State :=
  ((s.setFlag 0 (F.YZF_LINK_STATUS_UP l) up).setFld 0 (F.YZF_LINK_STATUS_LANES_UP l) lanes).setFld 0 F.YZF_STATUS_LINK_UP links

theorem State.showLink_up (s : State) (l : Fin 16) (up : Bool) (lanes links : Nat) : (s.showLink l up lanes links).flag 0 (F.YZF_LINK_STATUS_UP l) = up := by
  obtain ⟨hup, hlanes⟩ := linkField_inWord l
  obtain ⟨hall, -, hown⟩ := linkField_apart l
  unfold State.showLink
  rw [State.flag_setFld_apart _ _ _ _ _ _ (by decide) hup hall, State.flag_setFld_apart _ _ _ _ _ _ hlanes hup hown]
  exact State.flag_setFlag_same _ _ _ _ hup (Nat.succ_ne_zero 0)

theorem State.showLink_lanes (s : State) (l : Fin 16) (up : Bool) {lanes : Nat} (h : lanes < 16) (links : Nat) : (s.showLink l up lanes links).fld 0 (F.YZF_LINK_STATUS_LANES_UP l) = lanes := by
  obtain ⟨-, hlanes⟩ := linkField_inWord l
  obtain ⟨-, hall, -⟩ := linkField_apart l
  unfold State.showLink
  rw [State.fld_setFld_apart _ _ _ _ _ _ (by decide) hlanes hall, State.fld_setFld_same _ _ _ _ hlanes]
  exact Nat.mod_eq_of_lt h

/-- Below 16 a path is a link. -/
theorem State.pathUp_link (s : State) (l : Fin 16) : s.pathUp l = s.flag 0 (F.YZF_LINK_STATUS_UP l) := if_pos l.isLt

/-- Settles O51: each command by its rules above. -/
theorem fabricFramesAreTakenInTurn : Obligations.FabricFramesAreTakenInTurn := by
  intro s
  refine ⟨fun path f => ?frames, fun j r p => ?packets, fun l => ?links⟩
  case frames =>
    intro cmds
    refine ⟨fun c hc => ?_, State.yzAccept_closed, fun hport => ?_⟩
    · rw [exec_frameCommand s path f c hc]
      refine ⟨fun h => ?_, fun s1 h ha => ?_, fun j s1 h ha => ?_⟩
      · rw [State.yzInbound_otherType h]
      · rw [State.yzInbound_dropped h ha]
      · rw [State.yzInbound_taken h ha]; rfl
    · intro u v direct hlink hicrc hspoof
      rw [State.yzAccept_open hport ⟨hlink, hicrc, hspoof⟩]
      refine ⟨fun hfcs => if_pos hfcs, fun hfcs hbad => ?_, fun hfcs hok hmac => ?_⟩ <;> rw [if_neg (by rw [hfcs]; exact Bool.noConfusion)]
      · exact if_pos hbad
      · rw [if_neg (by rw [hok]; rintro (h | h); exacts [Bool.noConfusion h, h hmac])]
        refine ⟨fun hnone => ?_, fun j hj => ?_⟩
        · have hslot : (s.frameCounted path f).slotOf f.pkt.job = none := (u.noteLink_slotOf path f.pkt f.pkt.job).symm.trans hnone
          rw [hslot]
          rfl
        · have hslot : (s.frameCounted path f).slotOf f.pkt.job = some j := (u.noteLink_slotOf path f.pkt f.pkt.job).symm.trans hj
          intro e bad
          have hiff : u.spoofed f j = true ↔ bad := by rw [← u.noteLink_spoofed path f.pkt f j]; exact v.spoofed_iff f j
          rw [hslot]
          exact ⟨fun h => if_pos (hiff.mpr h), fun h => if_neg (mt hiff.mp h)⟩
  case packets =>
    intro c
    refine ⟨State.yzNumbered_due, fun hne ha hroom hnew => ?_, fun hne ha hfull => ?_, State.yzNumbered_again, ⟨fun h => if_pos h, fun h => if_neg h⟩, ?_⟩
    · rw [State.yzNumbered_ahead hne ha, if_pos ⟨hroom, List.all_eq_true.mpr fun q hq => decide_eq_true (hnew q hq)⟩]
    · rw [State.yzNumbered_ahead hne ha, if_neg]
      rintro ⟨hroom, hnew⟩
      rcases hfull with hfull | ⟨q, hq, hsame⟩
      · exact absurd hroom (Nat.not_lt.mpr hfull)
      · exact of_decide_eq_true (List.all_eq_true.mp hnew q hq) hsame
    · intro own epoch
      have hlive (ht : s.tombstone j = false) : ¬s.tombstone j = true := by rw [ht]; exact Bool.false_ne_true
      exact ⟨fun ht => if_pos ht, fun ht he => (if_neg (hlive ht)).trans (if_pos he), fun ht he hg => (if_neg (hlive ht)).trans ((if_neg (not_not_intro he)).trans (if_pos hg)),
        fun ht he hg => (if_neg (hlive ht)).trans ((if_neg (not_not_intro he)).trans (if_neg (by rw [hg]; exact Bool.false_ne_true)))⟩
  case links =>
    refine ⟨fun lack => ⟨fun h => if_neg h, fun h => ?_⟩, ?_, fun n => ⟨fun hno => if_neg ?_, fun hn hmode => ?_⟩⟩
    · intro again t
      exact ⟨if_pos h, (s.resend_out l again).trans rfl⟩
    · exact ⟨_, rfl, (State.flag_of_regs (State.yzReroute_regs _ l) _ _).trans (s.showLink_up l false 0 _),
        (State.fld_of_regs (State.yzReroute_regs _ l) _ _).trans (s.showLink_lanes l false (by decide) _),
        ((State.pathUp_link _ l).trans (State.flag_of_regs (State.yzReroute_regs _ l) _ _)).trans (s.showLink_up l false 0 _), rfl⟩
    · rintro ⟨hn, hmode⟩
      exact hno.elim hn hmode
    · exact ⟨_, if_pos ⟨hn, hmode⟩, (State.fld_of_regs (State.yzKickAll_regs _) _ _).trans (s.showLink_lanes l true (by omega) _),
        ((State.pathUp_link _ l).trans (State.flag_of_regs (State.yzKickAll_regs _) _ _)).trans (s.showLink_up l true n _), rfl⟩

end Sys2Proof.Machine

/-! SUPPORT. Operations of the Yaroz fabric at their target (13 R394 to R397, R406, R410, R412; 11 R362; 18 R516; 21 R585): the ingress, the home queue, what an operation does to memory, tombstones, and the statement about them. -/
namespace Sys2Proof.Machine

open Sys2Proof Sys2Proof.Laws

/-! ### The oldest operation of a connection (R394 to R397, R406) -/

/-- The oldest operation of a connection in the ingress buffer. -/
def State.oldestIn (s : State) (j r : Nat) : Option YzIn := s.yz.ingress.find? (fun x => decide (x.slot = j ∧ x.rank = r))

/-- An operation leaves the ingress buffer. -/
def State.leaveIngress (s : State) (x : YzIn) : State := { s with yz := { s.yz with ingress := s.yz.ingress.erase x } }

/-- An operation other than a PROBE waits while its granule is busy or queued (R406). -/
def State.granuleHeld (s : State) (opc : Nat) (busy : Bool) (r : YzRec) : Bool := decide (opc ≠ 4) && (busy || s.yz.home.any (fun h => sameGranule h.op r))

theorem State.granuleHeld_iff (s : State) (opc : Nat) (busy : Bool) (r : YzRec) :
    s.granuleHeld opc busy r = true ↔ opc ≠ 4 ∧ (busy = true ∨ ∃ h ∈ s.yz.home, sameGranule h.op r = true) := by
  simp only [State.granuleHeld, Bool.and_eq_true, Bool.or_eq_true, decide_eq_true_eq, List.any_eq_true]

/-- An operation that waits joins the home queue, or is answered RETRY_AFTER when the queue is full. -/
def State.queueHome (s : State) (j r : Nat) (x : YzIn) : State :=
  if s.yz.home.length < 4096 then ({ s.leaveIngress x with yz := { (s.leaveIngress x).yz with home := s.yz.home ++ [x] } }).showHome
  else ((s.leaveIngress x).incSat 0 F.YZF_REFUSED_COUNT 1).yzAnswer j r x.op yzRetry 0 (max 1000 ((2 * s.yz.home.length * 20 + 20) / 21)) []

theorem State.serveNext_none {s : State} {j r : Nat} (h : s.oldestIn j r = none) (opc : Nat) (busy : Bool) (ecc : Option EccEvent) : s.serveNext j r opc busy ecc = s := by
  unfold State.oldestIn at h
  unfold State.serveNext
  rw [h]

theorem State.serveNext_some {s : State} {j r : Nat} {x : YzIn} (h : s.oldestIn j r = some x) (opc : Nat) (busy : Bool) (ecc : Option EccEvent) :
    s.serveNext j r opc busy ecc =
      if x.op.opc ≠ opc then s else (if s.granuleHeld opc busy x.op then s.queueHome j r x else (s.leaveIngress x).performOp x ecc).yzGrant j r := by
  unfold State.oldestIn at h
  unfold State.serveNext
  rw [h]
  rfl

/-- The commands of the ingress buffer, each with its opcode, whether the granule is busy, and the error of its read. -/
def serveCommands (j : Fin 16) (r : Fin 4096) (busy : Bool) (ecc : Option EccEvent) : List (Instr × Nat × Bool × Option EccEvent) :=
  [(.yzfLoad j r busy ecc, 1, busy, ecc), (.yzfStore j r busy, 2, busy, none), (.yzfAtomic j r busy ecc, 3, busy, ecc), (.yzfProbe j r, 4, false, none)]

theorem exec_serveCommand (s : State) (j : Fin 16) (r : Fin 4096) (busy : Bool) (ecc : Option EccEvent) :
    ∀ c ∈ serveCommands j r busy ecc, exec c.1 s = .next (s.serveNext j r c.2.1 c.2.2.1 c.2.2.2) := by
  simp only [serveCommands, List.forall_mem_cons, List.not_mem_nil, false_implies, implies_true, and_true]
  exact ⟨rfl, rfl, rfl, rfl⟩

/-! ### The home queue (R406) -/

/-- An operation of the home queue is executed, with the atomics that combine with it. -/
def State.serveHome (s : State) (pos : Nat) (x : YzIn) (ecc : Option EccEvent) : State :=
  let rest := s.yz.home.eraseIdx pos
  let more := rest.filter (fun h => combines x.op h.op)
  let u := ({ s with yz := { s.yz with home := rest.filter (fun h => !combines x.op h.op) } }).showHome
  forEach more (fun h (t : State) => t.performOp h none) ((u.incWrap 0 F.YZF_COMBINED_COUNT more.length).performOp x ecc)

section Home

variable {s : State} {pos : Nat} {x : YzIn} {ecc : Option EccEvent}

theorem exec_homeQueueServe_none (h : s.yz.home[pos]? = none) : exec (.homeQueueServe pos ecc) s = .next s := by
  change execHomeQueueServe pos ecc s = _
  unfold execHomeQueueServe
  rw [h]

theorem exec_homeQueueServe_some (h : s.yz.home[pos]? = some x) : exec (.homeQueueServe pos ecc) s =
    if (s.yz.home.take pos).any (fun h => sameGranule h.op x.op) then .next s else .next (s.serveHome pos x ecc) := by
  change execHomeQueueServe pos ecc s = _
  unfold execHomeQueueServe
  rw [h]
  rfl

end Home

/-! ### An operation at its target (R394 to R397; 11 R362; 18 R516; 21 R585) -/

section Serve

variable {s : State} {j e a n w : Nat} {r : YzRec} {ecc : Option EccEvent} {op : AtomicOp}

/-- The answer to a load. -/
def State.loadAnswer (s : State) (e a n : Nat) (ecc : Option EccEvent) : YzAns :=
  let m := s.bondLoad e a n stPoison ecc
  match m.status with
  | .outOfShare => ⟨yzOutOfShare, 0, 0, [], m.st⟩
  | st =>
    let masked := m.st.masksAny .committed e a n
    let t := if masked then m.st.incSat e F.SEQ_EAS_MASKED_READS 1 else m.st
    ⟨if decide (st = .poison) then yzPoison else yzOk, (if masked then 1 else 0) + (if decide (st = .poison) then 2 else 0), 0, t.viewOf .committed e a m.data, t⟩

/-- The answer to a store of bytes to `n` bytes at an address of an easel that is not frozen. -/
def State.storeAnswer (s : State) (e a n : Nat) (bs : List Nat) : YzAns :=
  if s.hitsUnderpainting e a n then ⟨yzOutOfShare, 0, 0, [], s.refuseUnderpaint e⟩
  else ⟨if (s.bondStore e a bs).status = .outOfShare then yzOutOfShare else yzOk, 0, 0, [], (s.bondStore e a bs).st⟩

/-- The answer to an atomic on a word of an easel that is not frozen; `old` says that the old value is returned. -/
def State.atomicAnswer (s : State) (e a w : Nat) (op : AtomicOp) (v1 v2 : Nat) (old : Prop) [Decidable old] (ecc : Option EccEvent) : YzAns :=
  if s.hitsUnderpainting e a w then ⟨yzOutOfShare, 0, 0, [], s.refuseUnderpaint e⟩
  else
    let m := s.bondAtomic e a w op (if op = .cas then v2 else v1) v1 stPoison ecc
    match m.status with
    | .outOfShare => ⟨yzOutOfShare, 0, 0, [], m.st⟩
    | .poison => ⟨yzPoison, 2, 0, m.data, m.st⟩
    | .ok => ⟨yzOk, 0, 0, if old then m.data else [], m.st⟩

theorem State.yzServe_probe (h : r.opc = 4) : s.yzServe j r ecc = ⟨yzOk, 0, 0, s.probeData j, s⟩ := if_pos h

theorem State.yzServe_noEasel (h : r.opc ≠ 4) (hno : s.inJob j (r.addr / 2 ^ 46 % 64) = false ∨ s.flag 0 F.FLT_HEALTH_QUARANTINED = true) : s.yzServe j r ecc = ⟨yzNoEasel, 0, 0, [], s⟩ := by
  refine (if_neg h).trans (if_pos ?_)
  rcases hno with h | h
  · rw [h]; rfl
  · rw [h, Bool.or_true]

section Reached

variable (hjob : s.inJob j (r.addr / 2 ^ 46 % 64) = true) (hq : s.flag 0 F.FLT_HEALTH_QUARANTINED = false)
include hjob hq

/-- An operation on an easel of the job, of a device that is not quarantined: the choices that remain. -/
theorem State.yzServe_reached (h : r.opc ≠ 4) : let e := r.addr / 2 ^ 46 % 64; let a := r.addr % 2 ^ 46; let w := if (r.flags / 16) % 2 = 1 then 8 else 4
    s.yzServe j r ecc =
      if r.opc = 1 then s.loadAnswer e a r.len ecc else if s.frozen e then ⟨yzRetry, 0, 10000, [], s⟩
      else if r.opc = 2 then s.storeAnswer e a r.len (r.payload.take r.len)
      else match aopOf (r.flags % 16) with
        | none => ⟨yzOk, 0, 0, [], s⟩
        | some op => s.atomicAnswer e a w op (ofLe (r.payload.take w)) (ofLe ((r.payload.drop w).take w)) ((r.flags / 32) % 2 = 1) ecc := by
  intro e a w
  have hhere : ¬(!s.inJob j e || s.flag 0 F.FLT_HEALTH_QUARANTINED) = true := by rw [hjob, hq]; exact Bool.false_ne_true
  unfold State.yzServe
  rw [if_neg h, if_neg hhere]
  rfl

theorem State.yzServe_load (h : r.opc = 1) : s.yzServe j r ecc = s.loadAnswer (r.addr / 2 ^ 46 % 64) (r.addr % 2 ^ 46) r.len ecc :=
  (State.yzServe_reached hjob hq (by omega)).trans (if_pos h)

theorem State.yzServe_frozen (h : r.opc = 2 ∨ r.opc = 3) (hf : s.frozen (r.addr / 2 ^ 46 % 64) = true) : s.yzServe j r ecc = ⟨yzRetry, 0, 10000, [], s⟩ :=
  (State.yzServe_reached hjob hq (by omega)).trans ((if_neg (by omega)).trans (if_pos hf))

theorem State.yzServe_store (h : r.opc = 2) (hf : s.frozen (r.addr / 2 ^ 46 % 64) = false) :
    s.yzServe j r ecc = s.storeAnswer (r.addr / 2 ^ 46 % 64) (r.addr % 2 ^ 46) r.len (r.payload.take r.len) :=
  (State.yzServe_reached hjob hq (by omega)).trans ((if_neg (by omega)).trans ((if_neg (by rw [hf]; exact Bool.false_ne_true)).trans (if_pos h)))

theorem State.yzServe_atomic (h : r.opc = 3) (hf : s.frozen (r.addr / 2 ^ 46 % 64) = false) (hop : aopOf (r.flags % 16) = some op) : let w := if (r.flags / 16) % 2 = 1 then 8 else 4
    s.yzServe j r ecc =
      s.atomicAnswer (r.addr / 2 ^ 46 % 64) (r.addr % 2 ^ 46) w op (ofLe (r.payload.take w)) (ofLe ((r.payload.drop w).take w)) ((r.flags / 32) % 2 = 1) ecc := by
  have hlive : ¬s.frozen (r.addr / 2 ^ 46 % 64) = true := by rw [hf]; exact Bool.false_ne_true
  intro w
  rw [State.yzServe_reached hjob hq (by omega), if_neg (show ¬r.opc = 1 by omega), if_neg hlive, if_neg (show ¬r.opc = 2 by omega), hop]

end Reached

theorem State.loadAnswer_beyond (h : s.inShare e a n = false) : s.loadAnswer e a n ecc = ⟨yzOutOfShare, 0, 0, [], s.refuseShare e a⟩ := by
  have hm : s.bondLoad e a n stPoison ecc = ⟨.outOfShare, List.replicate n 0, s.refuseShare e a⟩ := if_neg (by rw [h]; exact Bool.false_ne_true)
  unfold State.loadAnswer
  rw [hm]

/-- While the sequence engine does not serve an easel, nothing of its memory is masked. -/
theorem State.masksAny_off (h : s.seqOn e = false) (k : Reader) : s.masksAny k e a n = false := by
  have hmasks (x : Nat) : s.masks k e x = false := by
    unfold State.masks State.provisional
    cases k <;> simp [h]
  simp [State.masksAny, hmasks]

/-- A load from clean memory answers its bytes. -/
theorem State.loadAnswer_clean (hin : s.inShare e a n = true) (hpoison : s.poison = []) (hseq : s.seqOn e = false)
    (harm : s.flag (s.stackOf e (a / 64 * 64 / 65536)) F.FLT_INJSTAT_ARMED = false) :
    (s.loadAnswer e a n none).status = yzOk ∧ (s.loadAnswer e a n none).data = s.readBytes (bondKey e a) n := by
  obtain ⟨hok, hdata, hoff, -, -, -⟩ := load_clean s e a n stPoison hin hpoison hseq harm
  unfold State.loadAnswer
  dsimp only
  rw [hok, State.masksAny_off hoff, hdata]
  exact ⟨rfl, view_id _ _ _ _ hoff _⟩

theorem State.storeAnswer_painted {bs : List Nat} (h : s.hitsUnderpainting e a n = true) : s.storeAnswer e a n bs = ⟨yzOutOfShare, 0, 0, [], s.refuseUnderpaint e⟩ := if_pos h

theorem State.storeAnswer_stored {bs : List Nat} (h : s.hitsUnderpainting e a n = false) (hin : s.inShare e a bs.length = true) :
    s.storeAnswer e a n bs = ⟨yzOk, 0, 0, [], (s.bondStore e a bs).st⟩ := by
  obtain ⟨-, -, hok, -⟩ := store_mem s e a bs hin
  unfold State.storeAnswer
  rw [if_neg (by rw [h]; exact Bool.false_ne_true), hok]
  rfl

theorem State.storeAnswer_beyond {bs : List Nat} (h : s.hitsUnderpainting e a n = false) (hin : s.inShare e a bs.length = false) :
    s.storeAnswer e a n bs = ⟨yzOutOfShare, 0, 0, [], s.refuseShare e a⟩ := by
  have hm : s.bondStore e a bs = ⟨.outOfShare, [], s.refuseShare e a⟩ := if_neg (by rw [hin]; exact Bool.false_ne_true)
  unfold State.storeAnswer
  rw [if_neg (by rw [h]; exact Bool.false_ne_true), hm]
  rfl

theorem State.atomicAnswer_done {v1 v2 : Nat} {old : Prop} [Decidable old] (h : s.hitsUnderpainting e a w = false) :
    let m := s.bondAtomic e a w op (if op = .cas then v2 else v1) v1 stPoison ecc
    m.status = .ok → s.atomicAnswer e a w op v1 v2 old ecc = ⟨yzOk, 0, 0, if old then m.data else [], m.st⟩ := by
  intro m hok
  unfold State.atomicAnswer
  rw [if_neg (by rw [h]; exact Bool.false_ne_true)]
  dsimp only
  rw [hok]

end Serve

/-! ### Tombstones (R412) -/

theorem migField_inWord (j : Fin 16) : (F.YZF_JOB_MIG_STATE j).inWord = true ∧ (F.YZF_JOB_MIG_US_US j).inWord = true := by
  simp only [inWord_iff, regSpan]; omega

theorem State.tombDone_state (s : State) (j : Fin 16) {st : Nat} (h : st < 4) : (s.tombDone j st).fld 0 (F.YZF_JOB_MIG_STATE j) = st := by
  obtain ⟨hstate, hus⟩ := migField_inWord j
  unfold State.tombDone
  rw [State.fld_setFld_apart _ _ _ _ _ _ hus hstate ((apart_iff _ _).mpr (Or.inl (by dsimp only; omega))), State.fld_setFld_same _ _ _ _ hstate]
  exact Nat.mod_eq_of_lt h

theorem State.tombDone_us (s : State) (j : Fin 16) (st : Nat) : (s.tombDone j st).fld 0 (F.YZF_JOB_MIG_US_US j) = (s.tombAge j + 500) / 1000 % 2 ^ (F.YZF_JOB_MIG_US_US j).width :=
  State.fld_setFld_same _ _ _ _ (migField_inWord j).2

/-- The last arrival at a tombstone, or when it became one. -/
def State.lastArrival (s : State) (j : Nat) : Nat := max (SMap.get (fun _ => 0) s.yz.tombAt j) (SMap.get (fun _ => 0) s.yz.tombLast j)

/-- The commands that complete a migration, each with the state it shows and when it takes effect. -/
def tombCommands (s : State) (j : Fin 16) : List (Instr × Nat × Prop) :=
  [(.tombstoneDrained j, 2, s.movedOpen j = false ∧ s.lastArrival j + 100000 ≤ s.nowNs), (.tombstoneExpired j, 3, 2000000 ≤ s.tombAge j)]

/-- A command completes the migration of a tombstone when its time has come, and else changes nothing. -/
theorem exec_tombCommand (s : State) (j : Fin 16) : ∀ c ∈ tombCommands s j, c.2.1 < 4 ∧
    (s.fld 0 (F.YZF_JOB_MIG_STATE j) = 1 ∧ c.2.2 → exec c.1 s = .next (s.tombDone j c.2.1)) ∧ (¬(s.fld 0 (F.YZF_JOB_MIG_STATE j) = 1 ∧ c.2.2) → exec c.1 s = .next s) := by
  simp only [tombCommands, List.forall_mem_cons, List.not_mem_nil, false_implies, implies_true, and_true]
  refine ⟨⟨by decide, fun h => ?_, fun h => ?_⟩, ⟨by decide, fun h => congrArg _ (if_pos h), fun h => congrArg _ (if_neg h)⟩⟩
  · obtain ⟨hstate, hopen, hlast⟩ := h
    exact congrArg _ (if_pos ⟨hstate, by rw [hopen]; rfl, hlast⟩)
  · refine congrArg _ (if_neg ?_)
    rintro ⟨hstate, hopen, hlast⟩
    exact h ⟨hstate, by simpa only [Bool.not_eq_true'] using hopen, hlast⟩

/-- Settles O52: each command by its rules above. -/
theorem fabricOperationsAreServedInTurn : Obligations.FabricOperationsAreServedInTurn := by
  intro s
  refine ⟨fun j r busy0 ecc0 => ?ingress, fun pos ecc => ?home, fun x ecc => ?perform, fun j r ecc => ?serve, fun j => ?tombs⟩
  case ingress =>
    intro cmds c hc opc busy ecc
    rw [exec_serveCommand s j r busy0 ecc0 c hc]
    refine ⟨fun h => by rw [State.serveNext_none h], fun x hx => ?_⟩
    rw [State.serveNext_some hx]
    refine ⟨fun hk => by rw [if_pos hk], fun hk => ?_⟩
    intro u waits
    have hwaits : s.granuleHeld opc busy x.op = true ↔ waits := s.granuleHeld_iff opc busy x.op
    rw [if_neg (not_not_intro hk)]
    refine ⟨fun h => by rw [if_neg (mt hwaits.mp h)]; rfl, fun h hroom => ?_, fun h hfull => ?_⟩ <;> rw [if_pos (hwaits.mpr h), State.queueHome]
    · rw [if_pos hroom]; rfl
    · rw [if_neg (Nat.not_lt.mpr hfull)]; rfl
  case home =>
    refine ⟨exec_homeQueueServe_none, fun x hx => ?_⟩
    rw [exec_homeQueueServe_some hx]
    refine ⟨fun h => if_pos ?_, fun h => ?_⟩
    · rw [List.any_eq_true]; exact h
    · intro rest more u
      refine if_neg ?_
      rw [List.any_eq_true]
      rintro ⟨y, hy, hsame⟩
      exact Bool.false_ne_true ((h y hy).symm.trans hsame)
  case perform => exact ⟨fun h => if_pos h, fun h => if_neg (by rw [h]; exact Bool.false_ne_true)⟩
  case serve =>
    intro e a q
    refine ⟨State.yzServe_probe, State.yzServe_noEasel, fun hjob hq => ⟨fun h hin => ?_, fun h hin hpoison hseq hecc harm => ?_, State.yzServe_frozen hjob hq, fun h hf => ?_, fun op h hf hop => ?_⟩⟩
    · rw [State.yzServe_load hjob hq h, State.loadAnswer_beyond hin]
      exact ⟨rfl, rfl⟩
    · rw [State.yzServe_load hjob hq h, hecc]
      exact State.loadAnswer_clean hin hpoison hseq harm
    · rw [State.yzServe_store hjob hq h hf]
      refine ⟨State.storeAnswer_painted, State.storeAnswer_stored, fun hno hin => ?_⟩
      rw [State.storeAnswer_beyond hno hin]
      exact ⟨rfl, (refuse_mp s e a).1⟩
    · intro w v1 v2 hno m hok
      rw [State.yzServe_atomic hjob hq h hf hop, State.atomicAnswer_done hno hok]
  case tombs =>
    intro age last cmds c hc
    obtain ⟨hst, hdone, hnot⟩ := exec_tombCommand s j c hc
    exact ⟨fun h => hnot fun ⟨h1, h2⟩ => h.elim (fun hne => hne h1) (fun hno => hno h2),
      fun h1 h2 => ⟨_, hdone ⟨h1, h2⟩, s.tombDone_state j hst, s.tombDone_us j _, rfl, rfl, rfl⟩⟩

end Sys2Proof.Machine

/-! SUPPORT. Timers and multicast of the Yaroz fabric (13 R388, R396, R399, R401, R403, R404, R407, R409, R411, R414, R416): packets sent again, fences, held operations, multicast tables and receivers that are dropped, and the statement about them. -/
namespace Sys2Proof.Machine

open Sys2Proof Sys2Proof.Laws

/-! ### Packets that time out (R399, R401, R404) -/

/-- A packet of a connection that is not acknowledged, by its number. -/
def YzConn.packet (c : YzConn) (psn : Nat) : Option YzTx := c.unacked.find? (fun x => decide (x.psn = psn))

/-- A packet is a request, and every operation of it has ended (R404). -/
def State.requestEnded (s : State) (p : YzPkt) : Bool := decide (p.type = 1) && p.recs.all (fun q => s.yz.ops.all (fun o => decide (o.tag ≠ q.tag)))

theorem State.requestEnded_iff (s : State) (p : YzPkt) : s.requestEnded p = true ↔ p.type = 1 ∧ ∀ q ∈ p.recs, ∀ o ∈ s.yz.ops, o.tag ≠ q.tag := by
  simp only [State.requestEnded, Bool.and_eq_true, decide_eq_true_eq, List.all_eq_true]

/-- A packet counts one more attempt. -/
def YzTx.again (x : YzTx) : YzTx := { x with tries := x.tries + 1 }

/-- A connection counts one more attempt at a packet. -/
def YzConn.again (c : YzConn) (psn : Nat) (x : YzTx) : YzConn := { c with unacked := c.unacked.map (fun z => if z.psn = psn then x.again else z) }

/-- A connection counts one more timeout in a row on a path. -/
def YzConn.pathTimedOut (c : YzConn) (p : Nat) : YzConn := { c with tmo := SMap.set (fun _ => 0) c.tmo p (SMap.get (fun _ => 0) c.tmo p + 1) }

section Retransmit

variable {s : State} {j : Fin 16} {r : Fin 4096} {psn : BitVec 24} {x : YzTx} {p : Nat}

theorem exec_retransmitTimeout_gone (h : (s.yzConn j r).packet psn.toNat = none) : exec (.retransmitTimeout j r psn) s = .next s := by
  unfold YzConn.packet at h
  change execRetransmitTimeout j r psn s = _
  simp only [execRetransmitTimeout, h]

/-- A packet that timed out: the choices that remain. -/
theorem exec_retransmitTimeout_some (h : (s.yzConn j r).packet psn.toNat = some x) : exec (.retransmitTimeout j r psn) s =
    let c := s.yzConn j r; let w := c.again psn.toNat x
    .next (if s.requestEnded x.pkt then s.setConn j r { c with unacked := c.unacked.filter (fun z => decide (z.psn ≠ psn.toNat)) }
      else match x.path with
        | none => (s.setConn j r w).yzPut j r x.again
        | some p =>
          if 3 ≤ SMap.get (fun _ => 0) c.tmo p + 1 then (s.setConn j r { w.pathTimedOut p with withdrawn := NSet.add p c.withdrawn }).moveOff j r p
          else (s.setConn j r (w.pathTimedOut p)).yzPut j r x.again) := by
  have hended : s.requestEnded x.pkt = true ↔ x.pkt.type = 1 ∧ x.pkt.recs.all (fun q => s.yz.ops.all (fun o => decide (o.tag ≠ q.tag))) = true := by
    rw [State.requestEnded, Bool.and_eq_true, decide_eq_true_eq]
  obtain ⟨n, path, tries, easel, stream, pkt⟩ := x
  unfold YzConn.packet at h
  change execRetransmitTimeout j r psn s = _
  unfold execRetransmitTimeout
  dsimp only
  rw [h]
  dsimp only
  by_cases he : s.requestEnded pkt = true
  · rw [if_pos (hended.mp he), if_pos he]
  · rw [if_neg (mt hended.mpr he), if_neg he]
    cases path with
    | none => rfl
    | some p =>
      by_cases hn : 3 ≤ SMap.get (fun _ => 0) (s.yzConn j r).tmo p + 1
      · dsimp only; rw [if_pos hn, if_pos hn, if_pos hn]; rfl
      · dsimp only; rw [if_neg hn, if_neg hn, if_neg hn]; rfl

end Retransmit

/-! ### Fences (R403) -/

/-- A channel waits at a fence or at SSIG, or its oldest ended descriptor waits to signal. -/
def State.fenceWaits (s : State) (ch : Fin 2048) : Bool :=
  s.remoteWait ch || ((s.chan ch).exec.isNone && (match (s.chan ch).drain with
    | d :: _ => (signalWord d.desc).testBit 11 && !(s.descOps ch d.index).isEmpty
    | [] => false))

theorem State.fenceWaits_iff (s : State) (ch : Fin 2048) :
    s.fenceWaits ch = true ↔ s.remoteWait ch = true ∨ ((s.chan ch).exec = none ∧ ∃ d l, (s.chan ch).drain = d :: l ∧ (signalWord d.desc).testBit 11 = true ∧ s.descOps ch d.index ≠ []) := by
  unfold State.fenceWaits
  cases (s.chan ch).drain with
  | nil => simp
  | cons d l => simp

/-- What a fence that timed out shows first: its count, the channel, and the number of ranks. -/
def State.fenceShown (s : State) (n : Nat) : State :=
  let e := s.chEasel n
  ((s.incSat e F.YZF_EAS_FTO_COUNT 1).setFld e F.YZF_EAS_FTO_CHANNEL n).setFld e F.YZF_EAS_FTO_N_RANKS (s.openRanks n).length

section FenceShown

variable (s : State) (n : Nat)

theorem State.fenceShown_count : (s.fenceShown n).fld (s.chEasel n) F.YZF_EAS_FTO_COUNT = min (s.fld (s.chEasel n) F.YZF_EAS_FTO_COUNT + 1) (2 ^ F.YZF_EAS_FTO_COUNT.width - 1) := by
  unfold State.fenceShown
  rw [State.fld_setFld_apart _ _ _ _ _ _ (by decide) (by decide) (by decide), State.fld_setFld_apart _ _ _ _ _ _ (by decide) (by decide) (by decide)]
  exact State.fld_incSat_same _ _ _ _ (by decide)

theorem State.fenceShown_channel (h : n < 2048) : (s.fenceShown n).fld (s.chEasel n) F.YZF_EAS_FTO_CHANNEL = n := by
  unfold State.fenceShown
  rw [State.fld_setFld_apart _ _ _ _ _ _ (by decide) (by decide) (by decide), State.fld_setFld_same _ _ _ _ (by decide)]
  exact Nat.mod_eq_of_lt h

theorem State.fenceShown_ranks : (s.fenceShown n).fld (s.chEasel n) F.YZF_EAS_FTO_N_RANKS = (s.openRanks n).length % 2 ^ F.YZF_EAS_FTO_N_RANKS.width :=
  State.fld_setFld_same _ _ _ _ (by decide)

end FenceShown

/-- A fence that timed out lists the first eight of the ranks. -/
def State.fenceRanks (s : State) (e : Nat) (rs : List Nat) : State :=
  forUpto 4 (fun i (t : State) =>
    (((t.setFld e (F.YZF_EAS_FTO_RANK_RANK_A i) (nth 0 rs (2 * i))).setFlag e (F.YZF_EAS_FTO_RANK_VALID_A i) (decide (2 * i < rs.length))).setFld e
      (F.YZF_EAS_FTO_RANK_RANK_B i) (nth 0 rs (2 * i + 1))).setFlag e (F.YZF_EAS_FTO_RANK_VALID_B i) (decide (2 * i + 1 < rs.length))) s

/-- A fence of a running stroke ends its descriptor with FENCE_TIMEOUT; a patient channel keeps its operations. -/
theorem State.fenceTimeout_running {s : State} {n : Nat} {x : StrExec} (h : (s.chan n).exec = some x) (injected : Bool) : let e := s.chEasel n; let rs := s.openRanks n
    let v := (((s.fenceShown n).fenceRanks e rs).detect 148 e ukChannel n (nth 0 rs 0 + 65536 * (s.jobOf e).getD 0) stFence sevContained injected).unpark n
    s.fenceTimeout n injected = (if s.flag n F.STR_CH_CFG_PATIENT then v else v.orphanOps n x.index).chanError n stFence x.pc 0 := by
  intro e rs v
  unfold State.fenceTimeout
  rw [h]
  by_cases hp : s.flag n F.STR_CH_CFG_PATIENT = true
  · rw [if_pos hp]; exact if_pos hp
  · rw [if_neg hp]; exact if_neg hp

/-! ### Operations that are held, or whose target is dead (R388, R396, R404, R411, R414) -/

section Ops

variable {s : State} {tag : BitVec 32} {o : YzOp}

theorem exec_opTimer_absent (h : s.opOf tag.toNat = none) : ∀ i ∈ [Instr.deadTimerExpiry tag, .retryAfterReissue tag, .genAheadReissue tag, .epochReissue tag], exec i s = .next s := by
  simp only [List.forall_mem_cons, List.not_mem_nil, false_implies, implies_true, and_true]
  refine ⟨?_, ?_, ?_, ?_⟩
  · change execDeadTimerExpiry tag s = _; simp only [execDeadTimerExpiry, h]
  · change execRetryAfterReissue tag s = _; simp only [execRetryAfterReissue, h]
  · change execGenAheadReissue tag s = _; simp only [execGenAheadReissue, h]
  · change execEpochReissue tag s = _; simp only [execEpochReissue, h]

theorem exec_deadTimerExpiry_some (h : s.opOf tag.toNat = some o) : exec (.deadTimerExpiry tag) s = .next (s.opDead o false) := by
  change execDeadTimerExpiry tag s = _; simp only [execDeadTimerExpiry, h]

theorem exec_retryAfterReissue_some (h : s.opOf tag.toNat = some o) : exec (.retryAfterReissue tag) s = .next (if o.hold = .retry then s.reissue o else s) := by
  change execRetryAfterReissue tag s = _; simp only [execRetryAfterReissue, h]

theorem exec_genAheadReissue_some (h : s.opOf tag.toNat = some o) : exec (.genAheadReissue tag) s = .next (if o.hold = .ahead then s.reissue o else s) := by
  change execGenAheadReissue tag s = _; simp only [execGenAheadReissue, h]

theorem exec_epochReissue_high (h : s.opOf tag.toNat = some o) (hh : o.hold = .epochHigh) : exec (.epochReissue tag) s = .next (s.reissue o) := by
  change execEpochReissue tag s = _; simp only [execEpochReissue, h, hh]

theorem exec_epochReissue_low {ep : Nat} (h : s.opOf tag.toNat = some o) (hh : o.hold = .epochLow ep) :
    exec (.epochReissue tag) s = .next (if ep ≤ s.fld 0 (F.YZF_JOB_EPOCH_EPOCH o.slot) then s.reissue o else s) := by
  change execEpochReissue tag s = _; simp only [execEpochReissue, h, hh, State.mayReissue, decide_eq_true_eq]

theorem exec_epochReissue_other (h : s.opOf tag.toNat = some o) (hhigh : o.hold ≠ .epochHigh) (hlow : ∀ ep, o.hold ≠ .epochLow ep) : exec (.epochReissue tag) s = .next s := by
  change execEpochReissue tag s = _
  unfold execEpochReissue
  rw [h]
  dsimp only
  cases hh : o.hold with
  | epochHigh => exact absurd hh hhigh
  | epochLow ep => exact absurd hh (hlow ep)
  | flight | retry | ahead | moved g => rfl

theorem State.opDead_chan {n d : Nat} (h : o.owner = .chan n d) (injected : Bool) :
    s.opDead o injected = (s.yzDead o.easel o.slot o.rank ukChannel n injected).ownerDone o stDead (deadBytes o.returns) := by
  unfold State.opDead; rw [h]

theorem State.opDead_emb {n d : Nat} (h : o.owner = .emb n d) (injected : Bool) :
    s.opDead o injected = (s.yzDead o.easel o.slot o.rank ukNone 0 injected).ownerDone o stDead (deadBytes o.returns) := by
  unfold State.opDead; rw [h]

end Ops

/-! ### Multicast tables (R407, R416) -/

/-- The multicast table as it stands in the easel's memory. -/
def State.mcastAddr (s : State) (e : Nat) : Nat := 65536 * s.fld e F.YZF_EAS_MCAST_UNIT
def State.mcastBytes (s : State) (e : Nat) : List Nat := s.readBytes (bondKey e (s.mcastAddr e)) 32768

/-- The ranks of an easel's job, none without a job. -/
def State.jobRanks (s : State) (e : Nat) : Nat := (s.jobOf e).elim 0 (fun j => s.fld 0 (F.YZF_JOB_RANKS_COUNT j))

/-- The checks of a multicast table: the share, poison, and each group's count, ranks and repeats. -/
def State.mcastChecks (s : State) (e : Nat) : Bool :=
  s.inShare e (s.mcastAddr e) 32768 && !s.poisoned (bondKey e (s.mcastAddr e)) 32768 && (List.range 64).all (fun g => decide (fieldLe (s.mcastBytes e) (512 * g) 2 ≤ 255)) &&
    ((List.range 64).map (mcastGroup (s.mcastBytes e))).all (fun g => g.all (fun r => decide (r < s.jobRanks e)) && decide g.Nodup)

theorem State.mcastChecks_iff (s : State) (e : Nat) : let bs := s.mcastBytes e
    s.mcastChecks e = true ↔ s.inShare e (s.mcastAddr e) 32768 = true ∧ s.poisoned (bondKey e (s.mcastAddr e)) 32768 = false ∧
      ∀ g, g < 64 → fieldLe bs (512 * g) 2 ≤ 255 ∧ (∀ r ∈ mcastGroup bs g, r < s.jobRanks e) ∧ (mcastGroup bs g).Nodup := by
  simp only [State.mcastChecks, Bool.and_eq_true, Bool.not_eq_true', List.all_eq_true, List.mem_range, decide_eq_true_eq, List.forall_mem_map, and_assoc, forall_and]

/-- A table is loaded when it passes its checks; one that fails leaves no group. -/
def State.loadMcast (s : State) (e : Nat) : State :=
  let ok := s.mcastChecks e
  (({ s with yz := { s.yz with mcast := SMap.set (fun _ => []) s.yz.mcast e (if ok then (List.range 64).map (mcastGroup (s.mcastBytes e)) else []) } }).setFlag e F.YZF_EAS_STATUS_MCAST ok).setFlag e
    F.YZF_EAS_STATUS_CFG_ERR (!ok)

theorem exec_mcastLoad_at {s : State} {req : Requester} {e : Nat} (hopen : s.barOpen req F.YZF_EAS_MCAST_CTRL_LOAD.off = true) (hunit : s.unitAt req F.YZF_EAS_MCAST_CTRL_LOAD.off = e) :
    exec (.mcastLoad req) s = .next (if isVf req e then s.loadMcast e else s) := by
  change execMcastLoad req s = _
  rw [execMcastLoad, access_at _ hopen hunit]
  have hn : s.jobRanks e = match s.jobOf e with
      | some j => s.fld 0 (F.YZF_JOB_RANKS_COUNT j)
      | none => 0 := by unfold State.jobRanks; cases s.jobOf e <;> rfl
  cases isVf req e with
  | false => rfl
  | true => unfold State.loadMcast State.mcastChecks; rw [hn]; rfl

section Mcast

variable (s : State) (e : Nat)

theorem State.loadMcast_loaded : (s.loadMcast e).flag e F.YZF_EAS_STATUS_MCAST = s.mcastChecks e := by
  unfold State.loadMcast
  rw [State.flag_setFlag_apart _ _ _ _ _ _ (by decide) (by decide) (by decide)]
  exact State.flag_setFlag_same _ _ _ _ (by decide) (by decide)

theorem State.loadMcast_error : (s.loadMcast e).flag e F.YZF_EAS_STATUS_CFG_ERR = !s.mcastChecks e := State.flag_setFlag_same _ _ _ _ (by decide) (by decide)

theorem State.loadMcast_same : SMap.get (fun _ => []) (s.loadMcast e).yz.mcast e = if s.mcastChecks e then (List.range 64).map (mcastGroup (s.mcastBytes e)) else [] := SMap.get_set_same ..

theorem State.loadMcast_ne {f : Nat} (h : f ≠ e) : SMap.get (fun _ => []) (s.loadMcast e).yz.mcast f = SMap.get (fun _ => []) s.yz.mcast f := SMap.get_set_ne _ _ _ h

end Mcast

/-! ### Receivers that hold a window back (R409) -/

/-- The stream of a channel that a connection holds a packet of. -/
def YzConn.streamOf (c : YzConn) (ch : Nat) : Option (Nat × Nat) := (c.unacked ++ c.waiting).findSome? (fun x => x.stream.filter (fun k => decide (k.1 = ch)))

/-- The other receivers still in a stream. -/
def State.receivers (s : State) (ch r j : Nat) (k : Nat × Nat) : List Nat :=
  let desc := (((s.chan ch).exec.filter (fun x => decide (x.index = k.2))).map (·.desc)).getD ((((s.chan ch).drain.find? (fun d => decide (d.index = k.2))).map (·.desc)).getD [])
  (nth [] (SMap.get (fun _ => []) s.yz.mcast (s.chEasel ch)) (fieldLe desc 0x10 4 % 64)).filter (fun x =>
    decide (x ≠ r ∧ x ≠ s.selfRank j ∧ (s.rankEntry j x).2.2.1 = 0) && !s.yz.pruned.contains (k.1, k.2, x))

/-- A receiver alone holds a full window back. -/
abbrev State.pruneDue (s : State) (ch r j : Nat) (k : Nat × Nat) : Prop :=
  64 ≤ s.streamSpan k ∧ (s.yzConn j r).ofStream k = s.streamSpan k ∧ (s.receivers ch r j k).any (fun x => decide ((s.yzConn j x).ofStream k < s.streamSpan k))

theorem State.pruneDue_iff (s : State) (ch r j : Nat) (k : Nat × Nat) : s.pruneDue ch r j k ↔
    64 ≤ s.streamSpan k ∧ (s.yzConn j r).ofStream k = s.streamSpan k ∧ ∃ x ∈ s.receivers ch r j k, (s.yzConn j x).ofStream k < s.streamSpan k := by
  simp only [State.pruneDue, List.any_eq_true, decide_eq_true_eq]

/-- A receiver is dropped, counted and named. -/
def State.prune (s : State) (ch r j : Nat) (k : Nat × Nat) : State :=
  ((((s.dropReceiver j r k).incSat (s.chEasel ch) F.YZF_EAS_MISSED_COUNT 1).setFld (s.chEasel ch) F.YZF_EAS_MISSED_LAST_RANK r).noteStatus k.1 k.2 stMissed).yzKickAll

section Prune

variable {s : State} {ch : Fin 2048} {r : Fin 4096} {j : Nat} {k : Nat × Nat}

theorem exec_mcastPrune_jobless (h : s.jobOf (s.chEasel ch) = none) : exec (.mcastPrune ch r) s = .next s := by
  change execMcastPrune ch r s = _
  simp only [execMcastPrune, h]

/-- For a rank of the easel's job: the choices that remain. -/
theorem exec_mcastPrune_member (hj : s.jobOf (s.chEasel ch) = some j) : exec (.mcastPrune ch r) s = match (s.yzConn j r).streamOf ch with
    | none => .next s
    | some k => if s.pruneDue ch r j k then .next (s.prune ch r j k) else .next s := by
  have hsearch : (fun x : YzTx => x.stream.filter (fun k => decide (k.1 = ch.val))) = fun x => match x.stream with
      | some k => if k.1 = ch.val then some k else none
      | none => none := by
    funext x
    cases x.stream with
    | none => rfl
    | some k => simp only [Option.filter, decide_eq_true_eq]
  change execMcastPrune ch r s = _
  unfold execMcastPrune YzConn.streamOf
  dsimp only
  rw [hj, hsearch]
  rfl

end Prune

/-- Settles O53: each command by its rules above. -/
theorem fabricTimersAndMulticast : Obligations.FabricTimersAndMulticast := by
  intro s
  refine ⟨fun j r psn => ?packets, fun ch => ?fences, fun tag => ?ops, fun req e hopen hunit => ?tables, fun ch r => ?prune⟩
  case packets =>
    intro c i
    refine ⟨exec_retransmitTimeout_gone, fun x hx => ?_, fun path acked => ⟨fun hno => ?_, fun hw ha => ?_⟩⟩
    · intro y un ended
      have hended : s.requestEnded x.pkt = true ↔ ended := s.requestEnded_iff x.pkt
      have hexec : exec i s = _ := exec_retransmitTimeout_some hx
      rw [hexec]
      refine ⟨fun he => ?_, fun hne hp => ?_, fun p hne hp => ?_⟩
      · dsimp only; rw [if_pos (hended.mpr he)]
      · dsimp only; rw [if_neg (mt hended.mp hne), hp]; rfl
      · intro n w
        dsimp only
        rw [if_neg (mt hended.mp hne), hp]
        exact ⟨fun hn => congrArg _ (if_neg (Nat.not_le.mpr hn)), fun hn => congrArg _ (if_pos hn)⟩
    · refine if_neg ?_
      rw [Bool.and_eq_true]
      rintro ⟨hw, ha⟩
      rcases hno with h | h
      · exact Bool.false_ne_true (h.symm.trans hw)
      · exact Bool.false_ne_true (h.symm.trans ha)
    · exact if_pos (by rw [hw, ha]; rfl)
  case fences =>
    intro waits
    have hwaits : s.fenceWaits ch = true ↔ waits := s.fenceWaits_iff ch
    refine ⟨fun h => congrArg _ (if_neg (mt hwaits.mp h)), fun h => congrArg _ (if_pos (hwaits.mpr h)), fun x hx => ?_⟩
    exact ⟨s.fenceShown ch, s.fenceShown_count ch, s.fenceShown_channel ch ch.isLt, s.fenceShown_ranks ch, State.fenceTimeout_running hx false⟩
  case ops =>
    refine ⟨exec_opTimer_absent, fun o ho => ⟨exec_deadTimerExpiry_some ho, fun _ _ h => State.opDead_chan h false, fun _ _ h => State.opDead_emb h false, exec_retryAfterReissue_some ho,
      exec_genAheadReissue_some ho, exec_epochReissue_high ho, fun _ => exec_epochReissue_low ho, exec_epochReissue_other ho, fun h => if_pos h, fun h hd => (if_neg h).trans (if_pos hd),
      fun h hd => (if_neg h).trans (if_neg hd)⟩⟩
  case tables =>
    rw [exec_mcastLoad_at hopen hunit]
    refine ⟨fun hvf => by rw [hvf]; rfl, fun hvf => ?_⟩
    intro a bs n ok
    have hchecks : s.mcastChecks e = true ↔ ok := s.mcastChecks_iff e
    rw [hvf, if_pos rfl]
    refine ⟨_, rfl, rfl, ?_, ?_, fun hok => ?_, fun hbad => ?_, fun f hf => s.loadMcast_ne e hf⟩
    · rw [State.loadMcast_loaded, hchecks]
    · rw [State.loadMcast_error, Bool.not_eq_true', ← hchecks, Bool.not_eq_true]
    · exact (s.loadMcast_same e).trans (if_pos (hchecks.mpr hok))
    · exact (s.loadMcast_same e).trans (if_neg (mt hchecks.mp hbad))
  case prune =>
    intro e i
    refine ⟨exec_mcastPrune_jobless, fun j hj => ?_⟩
    intro c stream
    have hstream : (s.yzConn j r).streamOf ch = stream := rfl
    rw [exec_mcastPrune_member hj, hstream]
    refine ⟨fun hnone => by rw [hnone], fun k hk => ?_⟩
    intro desc others due
    have hdue : s.pruneDue ch r j k ↔ due := s.pruneDue_iff ch r j k
    rw [hk]
    exact ⟨fun hno => if_neg (mt hdue.mp hno), fun hyes => if_pos (hdue.mpr hyes)⟩

end Sys2Proof.Machine

/-! SUPPORT. What every step keeps (16 R463): a command's answer follows the state it runs on, and so does the step on an empty queue. -/
namespace Sys2Proof.Machine

/-- Taking the command from the front of the queue touches nothing the invariant speaks of. -/
theorem State.Inv.setPending {s : State} (h : s.Inv) (rest : List Instr) : State.Inv { s with pending := rest } :=
  ⟨h.mem, h.regs, h.poison, h.used, h.tod⟩

/-- A command keeps the invariant. -/
theorem exec_keeps_inv {c : Instr} {s t : State} (h : s.Inv) (ht : exec c s = .next t) : t.Inv := by
  obtain ⟨u, hu, hf⟩ := exec_answers c s
  obtain rfl : u = t := Host.Outcome.next.inj (hu.symm.trans ht)
  exact hf.inv h

/-- Settles O57: a command keeps the invariant by what it follows, the idle cycle likewise. -/
theorem everyStepKeepsTheInvariant : Obligations.EveryStepKeepsTheInvariant := by
  intro s t h ht
  unfold step at ht
  split at ht
  next => exact Host.Outcome.next.inj ht ▸ (State.tick_follows (State.Follows.refl s)).inv h
  next c rest _ => exact exec_keeps_inv (h.setPending rest) ht

end Sys2Proof.Machine

/-! SUPPORT. The time of day (16 R465, R466, R469, R479 to R481): steps that are set and that land, the frame offset, the fraction, an alarm and an edge at PPS_IN, and the statement about them. -/
namespace Sys2Proof.Machine

open Sys2Proof Sys2Proof.Laws

/-! ### A write that acts under a condition -/

/-- The access is open and the condition holds. -/
theorem State.access_acts {s t : State} {req : Requester} {off : Nat} {c : Prop} [Decidable c] (ho : s.barOpen req off = true) (hc : c) :
    s.access req off (fun _ => .next (if c then t else s)) = .next t := by
  rw [access_open _ ho, if_pos hc]

/-- The condition fails, whether or not the access is open. -/
theorem State.access_discards {s t : State} {req : Requester} {off : Nat} {c : Prop} [Decidable c] (hc : ¬ c) : s.access req off (fun _ => .next (if c then t else s)) = .next s := by
  unfold State.access
  rw [if_neg hc, ite_self]

/-! ### Steps (R465, R469) -/

/-- STEP_WAIT shows a step that is due, that the state permits and that cells hold up. -/
theorem State.flag_showStepWait (s : State) (due : Bool) : (s.showStepWait due).flag 0 F.TOD_STATE_STEP_WAIT = (due && s.mayStep && !s.noCellRuns) :=
  State.flag_setFlag_same _ _ _ _ (by decide) (by decide)

section Steps

variable {s : State} {req : Requester} (hrun : s.runs .s = true)
include hrun

theorem exec_todSet_pends (hm : req.manages = true) (ho : s.barOpen req F.TOD_CTRL_SET.off = true) (hsoft : s.softSource = true) (hmay : s.mayStep = true) :
    exec (.todSet req) s = .next ((s.pendStep (.set s.todSetValue)).showStepWait true) :=
  State.access_acts ho (by rw [hm, hrun, hsoft, hmay]; rfl)

theorem exec_todSetPps_pends (hm : req.manages = true) (ho : s.barOpen req F.TOD_CTRL_SET.off = true) (hsoft : s.softSource = true) :
    exec (.todSetPps req) s = .next (s.pendStep (.setPps s.todSetValue)) :=
  State.access_acts ho (by rw [hm, hrun, hsoft]; rfl)

/-- A step to a value that is due at a boundary lands, or waits for the cells. -/
theorem exec_todStep_due {v : Nat} (hmay : s.mayStep = true) (hdue : (s.tod : Int) % (1000 * 2 ^ 40) < (s.todIncr : Int)) (hstep : s.time.step = some (.set v)) :
    exec .todStep s = .next (if s.noCellRuns then s.landStep (v * 2 ^ 40) else s.showStepWait true) := by
  have hcrossed : s.crossed (1000 * 2 ^ 40) 0 = true := decide_eq_true (by rw [Int.sub_zero]; exact hdue)
  change execTodStep s = _
  simp only [execTodStep, hrun, hmay, hcrossed, hstep, Bool.and_self, if_true]

end Steps

/-- A write of TOD_CTRL.SET by anyone else, under a source that software does not set, or in a state that permits no step. -/
theorem exec_todSet_refused {s : State} {req : Requester} (h : req.manages = false ∨ s.softSource = false ∨ s.mayStep = false) : exec (.todSet req) s = .next s := by
  have hno : (req.manages && s.runs .s && s.softSource && s.mayStep) = false := by
    rcases h with h | h | h <;> rw [h] <;> simp
  exact State.access_discards (by rw [hno]; exact Bool.false_ne_true)

/-! ### The frame offset (R466) -/

/-- The number that a register of 32 bits holds in two's complement. -/
theorem sgn32_toNat (v : BitVec 32) : sgn32 v.toNat = v.toInt := by
  rw [BitVec.toInt_eq_toNat_cond]
  unfold sgn32 sext
  exact if_congr (by omega) rfl rfl

theorem exec_frameOffsetWrite_taken {s : State} {req : Requester} {v : BitVec 32} (hrun : s.runs .s = true) (hm : req.manages = true)
    (ho : s.barOpen req F.TOD_FRAME_OFS_NS.off = true) (hcells : s.noCellRuns = true) (hlo : -5000000 ≤ v.toInt) (hhi : v.toInt ≤ 5000000) :
    exec (.frameOffsetWrite req v) s = .next (s.setFld 0 F.TOD_FRAME_OFS_NS v.toNat) := by
  have hrange : (sgn32 v.toNat).natAbs ≤ 5000000 := by rw [sgn32_toNat]; omega
  exact State.access_acts ho (by rw [hm, hrun, hcells, decide_eq_true hrange]; rfl)

/-! ### The alarms (R480) -/

theorem alarmCfg_inWord (k : Fin 16) : (F.PTP_ALM_CFG_EN k).inWord = true := by
  rw [inWord_iff]; have := k.isLt; show 12 ≤ 32 ∧ 0x300208 + k.val * 16 < 0x4000000; omega

/-- An alarm that has come, with no period, to a channel that is not enabled: it shows as fired and in error, and is off. -/
def State.alarmSpent (s : State) (k : Nat) : State :=
  ((s.orFld 0 F.PTP_ALM_STATUS_FIRED (2 ^ k)).orFld 0 F.PTP_ALM_STATUS_ERR (2 ^ k)).setFlag 0 (F.PTP_ALM_CFG_EN k) false

theorem exec_alarmFire_spent {s : State} {k : Fin 16} (hrun : s.runs .s = true) (hen : s.flag 0 (F.PTP_ALM_CFG_EN k) = true)
    (hdue : s.fld64 0 (F.PTP_ALM_TIME_LO_NS k) (F.PTP_ALM_TIME_HI_NS k) ≤ s.nowNs) (hperiod : s.fld 0 (F.PTP_ALM_PERIOD_NS k) = 0)
    (hoff : s.flag (s.fld 0 (F.PTP_ALM_CFG_LINK k)) F.STR_CH_CFG_ENABLED = false) : exec (.alarmFire k) s = .next (s.alarmSpent k) := by
  change Host.Outcome.next (if s.runs .s then s.alarmGo k else s) = _
  simp only [State.alarmGo, hrun, hen, hdue, hperiod, hoff, decide_true, Bool.and_self, Bool.false_eq_true, if_true, if_false]
  rfl

/-- A read of a field of STATUS is not touched by the alarm's own register. -/
theorem alarmStatus_apart (k : Nat) {f : Fld} (hf : f.off = 0x300064) : f.apart (F.PTP_ALM_CFG_EN k) = true := by
  rw [apart_iff]; left; show f.off ≠ 0x300208 + k * 16; omega

theorem State.alarmSpent_fired (s : State) (k : Fin 16) : (s.alarmSpent k).fld 0 F.PTP_ALM_STATUS_FIRED = s.fld 0 F.PTP_ALM_STATUS_FIRED ||| 2 ^ k.val := by
  unfold State.alarmSpent
  rw [State.fld_setFlag_apart _ _ _ _ _ _ (alarmCfg_inWord k) (by decide) (alarmStatus_apart k rfl), State.fld_orFld_apart _ _ _ _ _ _ (by decide) (by decide) (by decide),
    State.fld_orFld_same _ _ _ _ (by decide) (Nat.pow_lt_pow_right (by decide) k.isLt)]

theorem State.alarmSpent_err (s : State) (k : Fin 16) : (s.alarmSpent k).fld 0 F.PTP_ALM_STATUS_ERR = s.fld 0 F.PTP_ALM_STATUS_ERR ||| 2 ^ k.val := by
  unfold State.alarmSpent
  rw [State.fld_setFlag_apart _ _ _ _ _ _ (alarmCfg_inWord k) (by decide) (alarmStatus_apart k rfl), State.fld_orFld_same _ _ _ _ (by decide) (Nat.pow_lt_pow_right (by decide) k.isLt),
    State.fld_orFld_apart _ _ _ _ _ _ (by decide) (by decide) (by decide)]

theorem State.alarmSpent_off (s : State) (k : Fin 16) : (s.alarmSpent k).flag 0 (F.PTP_ALM_CFG_EN k) = false :=
  State.flag_setFlag_same _ _ _ _ (alarmCfg_inWord k) Nat.one_ne_zero

/-! ### An edge at PPS_IN (R479) -/

/-- An edge is stamped and counted. -/
def State.edgeCounted (s : State) (stamp : Nat) : State := (s.setFld64 0 F.PTP_PPS_IN_LO_NS F.PTP_PPS_IN_HI_NS (stamp / 65536)).incWrap 0 F.PTP_PPS_IN_CNT_COUNT 1

/-- The moment of an edge is kept. -/
def State.edgeNow (s : State) : State := { s with time := { s.time with ppsAt := some s.nowNs } }

theorem State.edgeCounted_fld (s : State) (stamp : Nat) {f : Fld} (hw : f.inWord = true) (hf : f.apart F.PTP_PPS_IN_CNT_COUNT = true) :
    (s.edgeCounted stamp).fld 0 f = (s.setFld64 0 F.PTP_PPS_IN_LO_NS F.PTP_PPS_IN_HI_NS (stamp / 65536)).fld 0 f := fld_incWrap_apart _ _ _ _ _ _ (by decide) hw hf

theorem State.edgeCounted_source (s : State) (stamp : Nat) : (s.edgeCounted stamp).fld 0 F.TOD_CFG_SOURCE = s.fld 0 F.TOD_CFG_SOURCE :=
  (s.edgeCounted_fld stamp (by decide) (by decide)).trans (fld_setFld64_apart _ _ _ _ _ _ _ (by decide) (by decide) (by decide) (by decide) (by decide))

theorem State.edgeCounted_count (s : State) (stamp : Nat) : (s.edgeCounted stamp).fld 0 F.PTP_PPS_IN_CNT_COUNT = (s.fld 0 F.PTP_PPS_IN_CNT_COUNT + 1) % 2 ^ 32 := by
  unfold State.edgeCounted
  rw [fld_incWrap_same _ _ _ _ (by decide), fld_setFld64_apart _ _ _ _ _ _ _ (by decide) (by decide) (by decide) (by decide) (by decide)]

theorem State.edgeCounted_stamp (s : State) (stamp : Nat) : (s.edgeCounted stamp).fld64 0 F.PTP_PPS_IN_LO_NS F.PTP_PPS_IN_HI_NS = stamp / 65536 % 2 ^ 64 := by
  rw [← fld64_setFld64 s 0 F.PTP_PPS_IN_LO_NS F.PTP_PPS_IN_HI_NS (stamp / 65536) (by decide) (by decide) (by decide) rfl rfl]
  unfold State.fld64
  rw [s.edgeCounted_fld stamp (by decide) (by decide), s.edgeCounted_fld stamp (by decide) (by decide)]

/-- With no step that waits for an edge and another source, the edge is stamped, counted and kept. -/
theorem exec_ppsInEdge_noted {s : State} {stamp : Nat} (hrun : s.runs .s = true) (hstep : ∀ v, s.time.step ≠ some (.setPps v)) (hsrc : s.fld 0 F.TOD_CFG_SOURCE ≠ 2) :
    exec (.ppsInEdge stamp) s = .next (s.edgeCounted stamp).edgeNow := by
  have hnoted : (s.edgeCounted stamp).ppsSource stamp = (s.edgeCounted stamp).edgeNow := if_neg (by rw [s.edgeCounted_source stamp]; exact hsrc)
  rw [← hnoted]
  change execPpsInEdge stamp s = _
  unfold execPpsInEdge
  rw [hrun]
  cases hs : s.time.step with
  | none => rfl
  | some p =>
    cases p with
    | setPps v => exact absurd hs (hstep v)
    | set v => rfl
    | servo o => rfl

/-! ### The fraction (R481) -/

/-- A read of the fraction: the counter is held for the requester, and the fraction answered. -/
def State.fracRead (s : State) (req : Requester) : State :=
  (s.setCtx req { s.ctxOf req with todLo := some (BitVec.ofNat 32 s.nowNs), todHi := some (BitVec.ofNat 32 (s.nowNs / 2 ^ 32)) }).emit
    (.readData req F.TOD_NOW_FRAC_FRAC.off (BitVec.ofNat 32 (s.tod / 2 ^ 24 % 65536)))

theorem exec_todNowFracRead_open {s : State} {req : Requester} (ho : s.barOpen req F.TOD_NOW_FRAC_FRAC.off = true) : exec (.todNowFracRead req) s = .next (s.fracRead req) :=
  access_open (fun _ => .next (s.fracRead req)) ho

theorem State.fracRead_ctx (s : State) (req : Requester) :
    (s.fracRead req).ctxOf req = { s.ctxOf req with todLo := some (BitVec.ofNat 32 s.nowNs), todHi := some (BitVec.ofNat 32 (s.nowNs / 2 ^ 32)) } :=
  State.ctxOf_setCtx_same _ _ _

/-- Settles O24: each command by its rule above. -/
theorem timeOfDayStepsAreSetAndLand : Obligations.TimeOfDayStepsAreSetAndLand := by
  intro s hrun
  refine ⟨fun req hm ho hsoft hmay => ⟨_, exec_todSet_pends hrun hm ho hsoft hmay, rfl, ?set, rfl⟩, fun req h => exec_todSet_refused h,
    fun req hm ho hsoft => exec_todSetPps_pends hrun hm ho hsoft, fun v hmay hdue hstep => ?step,
    fun req v hm ho hcells hlo hhi => ⟨_, exec_frameOffsetWrite_taken hrun hm ho hcells hlo hhi, ?offset, rfl, rfl⟩,
    fun req ho => ⟨_, exec_todNowFracRead_open ho, rfl, by rw [State.fracRead_ctx], by rw [State.fracRead_ctx], rfl, rfl⟩,
    fun k hen hdue hperiod hoff => ⟨_, exec_alarmFire_spent hrun hen hdue hperiod hoff, s.alarmSpent_fired k, s.alarmSpent_err k, s.alarmSpent_off k⟩,
    fun stamp hstep hsrc => ⟨_, exec_ppsInEdge_noted hrun hstep hsrc, rfl, s.edgeCounted_count stamp, s.edgeCounted_stamp stamp, rfl⟩⟩
  case set =>
    rw [State.flag_showStepWait]
    have hpend : (s.pendStep (.set s.todSetValue)).mayStep = true := hmay
    rw [hpend]; rfl
  case step =>
    have hexec := exec_todStep_due hrun hmay hdue hstep
    refine ⟨fun hcells => hexec.trans (by rw [if_pos hcells]), fun hcells => ⟨s.showStepWait true, hexec.trans (by rw [hcells]; rfl), ?_, rfl, rfl⟩⟩
    rw [State.flag_showStepWait, hmay, hcells]; rfl
  case offset => exact (State.fld_setFld_same _ _ _ _ (by decide)).trans (Nat.mod_eq_of_lt v.isLt)

end Sys2Proof.Machine

/-! SUPPORT. The clock's states (16 R464, R467 to R469, R476, R478): what entering a state shows, the limits of holdover, a write of SOURCE, the 1 PPS output, the SyncE DPLL, and the statement about them. -/
namespace Sys2Proof.Machine

open Sys2Proof Sys2Proof.Laws

/-! ### The rate, TX_OK and the Announce fields -/

/-- The registers that a rate correction shows. -/
def rateOffs : List Nat := [F.TOD_FFO_PPT.off, F.TOD_INCR_LO_INCR.off, F.TOD_INCR_HI_INCR.off]

theorem State.setRate_frame (s : State) (ppt : Int) : State.RegsFrame rateOffs s (s.setRate ppt) :=
  (((State.RegsFrame.refl _ s).setFld _ F.TOD_FFO_PPT _ (by decide) (by decide)).setFld _ F.TOD_INCR_LO_INCR _ (by decide) (by decide)).setFld _ F.TOD_INCR_HI_INCR _ (by decide) (by decide)

/-- The rate of holdover is shown, and may draw a free value. -/
theorem State.holdRate_fld (s : State) {f : Fld} (hf : f.off < regSpan) (hn : f.off ∉ rateOffs) : s.holdRate.fld 0 f = s.fld 0 f := by
  unfold State.holdRate
  split
  · exact (State.setRate_frame s.draw.2 _).fld 0 f hf hn
  · exact (s.setRate_frame _).fld 0 f hf hn

theorem State.setRate_tod (s : State) (ppt : Int) : (s.setRate ppt).tod = s.tod := by rw [(s.setRate_frame ppt).rest]

theorem State.holdRate_tod (s : State) : s.holdRate.tod = s.tod := by
  unfold State.holdRate
  split
  · exact State.setRate_tod s.draw.2 _
  · exact s.setRate_tod _

theorem State.showAnnounce_frame (s : State) : State.RegsFrame [F.PTP_ANNOUNCE_CLASS.off] s s.showAnnounce :=
  (((State.RegsFrame.refl _ s).setFld _ F.PTP_ANNOUNCE_CLASS _ (by decide) (by decide)).setFld _ F.PTP_ANNOUNCE_ACCURACY _ (by decide) (by decide)).setFld _
    F.PTP_ANNOUNCE_STEPS_REMOVED _ (by decide) (by decide)

theorem State.fld_showTxOk (s : State) {f : Fld} (hw : f.inWord = true) (ha : f.apart F.TOD_STATE_TX_OK = true) : s.showTxOk.fld 0 f = s.fld 0 f :=
  State.fld_setFlag_apart _ _ _ _ _ _ (by decide) hw ha

theorem State.flag_showTxOk (s : State) : s.showTxOk.flag 0 F.TOD_STATE_TX_OK =
    decide (s.todSt = tsLocked ∨ (s.todSt = tsHoldover ∧ s.fld 0 F.TOD_STATE_HOLD_S < s.fld 0 F.TOD_CFG_TX_HOLD_S)) :=
  State.flag_setFlag_same _ _ _ _ (by decide) (by decide)

/-! ### Entering a state (R467) -/

/-- A state as its entry sets it, before the rate, TX_OK and the Announce fields follow. -/
def State.enterTod (s : State) (st : Nat) : State :=
  let wait := s.flag 0 F.TOD_STATE_STEP_WAIT && decide (keepStep st s.time.step ≠ none) && decide (st = tsFreerun ∨ st = tsAcquiring)
  { ((s.setFld 0 F.TOD_STATE_STATE st).setFld 0 F.TOD_STATE_HOLD_S 0).setFlag 0 F.TOD_STATE_STEP_WAIT wait with
    time := { s.time with
      holdFrom := s.nowNs
      step := keepStep st s.time.step
      inBand := if st = tsLocked then s.time.inBand else none
      stepped := if st = tsAcquiring then false else s.time.stepped } }

/-- The rate that a state begins with. -/
def State.enterRate (s : State) (st : Nat) : State := if st = tsHoldover then (s.enterTod st).holdRate else s.enterTod st

theorem State.setTod_eq (s : State) (st : Nat) : s.setTod st = (s.enterRate st).showTxOk.showAnnounce := rfl

theorem State.enterRate_fld (s : State) (st : Nat) {f : Fld} (hf : f.off < regSpan) (hn : f.off ∉ rateOffs) : (s.enterRate st).fld 0 f = (s.enterTod st).fld 0 f := by
  unfold State.enterRate
  split
  · exact State.holdRate_fld _ hf hn
  · rfl

theorem State.setTod_tod (s : State) (st : Nat) : (s.setTod st).tod = s.tod := by
  have hrate : (s.enterRate st).tod = s.tod := by
    unfold State.enterRate
    split
    · exact State.holdRate_tod _
    · rfl
  rw [State.setTod_eq, (State.showAnnounce_frame _).rest]
  exact hrate

/-- The fields of TOD_STATE but TX_OK, and the registers of the clock that its entry does not show. -/
theorem State.fld_setTod (s : State) (st : Nat) {f : Fld} (hw : f.inWord = true) (ha : f.apart F.TOD_STATE_TX_OK = true) (hn : f.off ∉ F.PTP_ANNOUNCE_CLASS.off :: rateOffs) :
    (s.setTod st).fld 0 f = (s.enterTod st).fld 0 f := by
  have hf : f.off < regSpan := ((inWord_iff f).mp hw).2
  rw [State.setTod_eq, (State.showAnnounce_frame _).fld 0 f hf (fun h => hn (List.mem_cons.mpr (Or.inl (List.mem_singleton.mp h)))), State.fld_showTxOk _ hw ha,
    State.enterRate_fld _ _ hf (fun h => hn (List.mem_cons_of_mem _ h))]

theorem State.enterTod_fld (s : State) (st : Nat) {f : Fld} (hw : f.inWord = true) (hs : f.apart F.TOD_STATE_STATE = true) (hh : f.apart F.TOD_STATE_HOLD_S = true)
    (hp : f.apart F.TOD_STATE_STEP_WAIT = true) : (s.enterTod st).fld 0 f = s.fld 0 f := by
  unfold State.enterTod
  rw [State.fld_upd, State.fld_setFlag_apart _ _ _ _ _ _ (by decide) hw hp, State.fld_setFld_apart _ _ _ _ _ _ (by decide) hw hh, State.fld_setFld_apart _ _ _ _ _ _ (by decide) hw hs]

theorem State.enterTod_todSt (s : State) (st : Nat) : (s.enterTod st).todSt = st % 4 := by
  unfold State.todSt State.enterTod
  rw [State.fld_upd, State.fld_setFlag_apart _ _ _ _ _ _ (by decide) (by decide) (by decide), State.fld_setFld_apart _ _ _ _ _ _ (by decide) (by decide) (by decide),
    State.fld_setFld_same _ _ _ _ (by decide)]
  rfl

theorem State.enterTod_holdS (s : State) (st : Nat) : (s.enterTod st).fld 0 F.TOD_STATE_HOLD_S = 0 := by
  unfold State.enterTod
  rw [State.fld_upd, State.fld_setFlag_apart _ _ _ _ _ _ (by decide) (by decide) (by decide), State.fld_setFld_same _ _ _ _ (by decide)]
  exact Nat.zero_mod _

theorem State.setTod_todSt (s : State) (st : Nat) : (s.setTod st).todSt = st % 4 := (s.fld_setTod st (by decide) (by decide) (by decide)).trans (s.enterTod_todSt st)

theorem State.setTod_holdS (s : State) (st : Nat) : (s.setTod st).fld 0 F.TOD_STATE_HOLD_S = 0 :=
  (s.fld_setTod st (by decide) (by decide) (by decide)).trans (s.enterTod_holdS st)

/-- A field of the clock's registers that no entry writes. -/
theorem State.setTod_fld (s : State) (st : Nat) {f : Fld} (hw : f.inWord = true) (hx : f.apart F.TOD_STATE_TX_OK = true) (hs : f.apart F.TOD_STATE_STATE = true)
    (hh : f.apart F.TOD_STATE_HOLD_S = true) (hp : f.apart F.TOD_STATE_STEP_WAIT = true) (hn : f.off ∉ F.PTP_ANNOUNCE_CLASS.off :: rateOffs) : (s.setTod st).fld 0 f = s.fld 0 f :=
  (s.fld_setTod st hw hx hn).trans (s.enterTod_fld st hw hs hh hp)

/-- TX_OK in a state just entered (R468). -/
theorem State.setTod_txOk (s : State) (st : Nat) : (s.setTod st).flag 0 F.TOD_STATE_TX_OK = decide (st % 4 = tsLocked ∨ (st % 4 = tsHoldover ∧ 0 < s.fld 0 F.TOD_CFG_TX_HOLD_S)) := by
  have hst : (s.enterRate st).todSt = st % 4 := (s.enterRate_fld st (by decide) (by decide)).trans (s.enterTod_todSt st)
  have hhold : (s.enterRate st).fld 0 F.TOD_STATE_HOLD_S = 0 := (s.enterRate_fld st (by decide) (by decide)).trans (s.enterTod_holdS st)
  have htx : (s.enterRate st).fld 0 F.TOD_CFG_TX_HOLD_S = s.fld 0 F.TOD_CFG_TX_HOLD_S :=
    (s.enterRate_fld st (by decide) (by decide)).trans (s.enterTod_fld st (by decide) (by decide) (by decide) (by decide))
  rw [State.setTod_eq, (State.showAnnounce_frame _).flag 0 F.TOD_STATE_TX_OK (by decide) (by decide), State.flag_showTxOk, hst, hhold, htx]

theorem State.setTod_txOk_locked (s : State) : (s.setTod tsLocked).flag 0 F.TOD_STATE_TX_OK = true := by rw [State.setTod_txOk]; rfl

theorem State.setTod_txOk_freerun (s : State) : (s.setTod tsFreerun).flag 0 F.TOD_STATE_TX_OK = false := by rw [State.setTod_txOk]; simp [tsFreerun, tsLocked, tsHoldover]

/-! ### LOCKED, and the loss of the source (R464, R467) -/

/-- The rate with which LOCKED begins touches neither the state nor TX_OK. -/
theorem State.lockAt_frame (s : State) (r : Int) : (s.lockAt r).tod = s.tod ∧ (s.lockAt r).time.lockRate = asU32 r ∧
    ∀ f : Fld, f.off < regSpan → f.off ∉ rateOffs → (s.lockAt r).fld 0 f = s.fld 0 f :=
  ⟨s.setRate_tod r, rfl, fun f hf hn => (s.setRate_frame r).fld 0 f hf hn⟩

theorem exec_todLocked_holds {s : State} {since : Nat} (hband : s.time.inBand = some since) (hst : s.todSt = tsAcquiring ∨ s.todSt = tsHoldover) (hten : since + 10 * secNs ≤ s.nowNs)
    (hvalid : s.srcValid (s.fld 0 F.TOD_CFG_SOURCE) = true) : exec .todLocked s = .next ((s.setTod tsLocked).lockAt (clip 200000 (sgn32 (s.fld 0 F.TOD_FFO_PPT)))) := by
  change execTodLocked s = _
  unfold execTodLocked
  rw [hband]
  exact congrArg _ (if_pos ⟨hst, hten, hvalid⟩)

section Lost

variable {s : State} (hlost : s.srcValid (s.fld 0 F.TOD_CFG_SOURCE) = false)
include hlost

theorem exec_sourceLost_acquiring (hst : s.todSt = tsAcquiring) : exec .sourceLost s = .next (s.setTod tsFreerun) :=
  congrArg Host.Outcome.next ((if_neg (by rw [hlost]; exact Bool.false_ne_true)).trans (if_pos hst))

theorem exec_sourceLost_locked (hst : s.todSt = tsLocked) : exec .sourceLost s = .next (s.setTod tsHoldover) :=
  congrArg Host.Outcome.next ((if_neg (by rw [hlost]; exact Bool.false_ne_true)).trans ((if_neg (by rw [hst]; decide)).trans (if_pos hst)))

theorem exec_sourceLost_other (ha : s.todSt ≠ tsAcquiring) (hl : s.todSt ≠ tsLocked) : exec .sourceLost s = .next { s with time := { s.time with inBand := none } } :=
  congrArg Host.Outcome.next ((if_neg (by rw [hlost]; exact Bool.false_ne_true)).trans ((if_neg ha).trans (if_neg hl)))

end Lost

/-! ### The limits of HOLDOVER (R467, R468) -/

/-- HOLD_S as HOLDOVER brings it to the present. -/
def State.holdShown (s : State) : State := s.setFld 0 F.TOD_STATE_HOLD_S (min ((s.nowNs - s.time.holdFrom) / secNs) 0xFFFF)

theorem State.showHold_holding {s : State} (h : s.todSt = tsHoldover) : s.showHold = s.holdShown.showTxOk := by
  unfold State.showHold; rw [if_pos h]; rfl

theorem State.holdShown_holdS {s : State} (h : s.nowNs < s.time.holdFrom + 65536 * secNs) : s.holdShown.fld 0 F.TOD_STATE_HOLD_S = (s.nowNs - s.time.holdFrom) / secNs := by
  have hlt : (s.nowNs - s.time.holdFrom) / secNs < 65536 := Nat.div_lt_of_lt_mul (by unfold secNs at *; omega)
  refine (State.fld_setFld_same _ _ _ _ (by decide)).trans ?_
  rw [Nat.min_eq_left (by omega)]
  exact Nat.mod_eq_of_lt hlt

theorem State.holdShown_fld (s : State) {f : Fld} (hw : f.inWord = true) (ha : f.apart F.TOD_STATE_HOLD_S = true) : s.holdShown.fld 0 f = s.fld 0 f :=
  State.fld_setFld_apart _ _ _ _ _ _ (by decide) hw ha

/-! ### A write of SOURCE (R469) -/

section Source

variable {s : State} {req : Requester} (hrun : s.runs .s = true) (hm : req.manages = true) (ho : s.barOpen req F.TOD_CFG_SOURCE.off = true) (hold : BitVec 16)
include hrun hm ho

theorem exec_todSourceWrite_discarded : exec (.todSourceWrite req 3 hold) s = .next (s.setFld 0 F.TOD_CFG_TX_HOLD_S hold.toNat).showTxOk := by
  have hthree : (3 : BitVec 2).toNat = 3 ∨ (3 : BitVec 2).toNat = s.fld 0 F.TOD_CFG_SOURCE := Or.inl rfl
  change execTodSourceWrite req 3 hold s = _
  rw [execTodSourceWrite, access_open _ ho, hm, hrun]
  exact (if_pos rfl).trans (if_pos hthree)

/-- The SOURCE that is written is shown as the source in force. -/
def State.sourceSet (s : State) (source : Nat) (hold : Nat) : State :=
  ((s.setFld 0 F.TOD_CFG_TX_HOLD_S hold).setFld 0 F.TOD_CFG_SOURCE source).setFld 0 F.TOD_STATE_SOURCE source

theorem exec_todSourceWrite_none (hsrc : s.fld 0 F.TOD_CFG_SOURCE ≠ 0) : exec (.todSourceWrite req 0 hold) s = .next ((s.sourceSet 0 hold.toNat).setTod tsFreerun) := by
  have hother : ¬ ((0 : BitVec 2).toNat = 3 ∨ (0 : BitVec 2).toNat = s.fld 0 F.TOD_CFG_SOURCE) := by
    rintro (h | h)
    · exact absurd h (by decide)
    · exact hsrc h.symm
  change execTodSourceWrite req 0 hold s = _
  rw [execTodSourceWrite, access_open _ ho, hm, hrun]
  exact (if_pos rfl).trans (if_neg hother)

end Source

theorem State.sourceSet_source (s : State) (source hold : Nat) : (s.sourceSet source hold).fld 0 F.TOD_CFG_SOURCE = source % 4 := by
  unfold State.sourceSet
  rw [State.fld_setFld_apart _ _ _ _ _ _ (by decide) (by decide) (by decide), State.fld_setFld_same _ _ _ _ (by decide)]
  rfl

theorem State.sourceSet_shown (s : State) (source hold : Nat) : (s.sourceSet source hold).fld 0 F.TOD_STATE_SOURCE = source % 4 := State.fld_setFld_same _ _ _ _ (by decide)

theorem State.sourceSet_hold (s : State) (source : Nat) (hold : BitVec 16) : (s.sourceSet source hold.toNat).fld 0 F.TOD_CFG_TX_HOLD_S = hold.toNat := by
  unfold State.sourceSet
  rw [State.fld_setFld_apart _ _ _ _ _ _ (by decide) (by decide) (by decide), State.fld_setFld_apart _ _ _ _ _ _ (by decide) (by decide) (by decide),
    State.fld_setFld_same _ _ _ _ (by decide)]
  exact Nat.mod_eq_of_lt hold.isLt

/-! ### The 1 PPS output (R478) -/

/-- The output rises, for the second that the counter has passed. -/
def State.ppsUp (s : State) : State :=
  { s.emit (.ppsOut true) with time := { s.time with ppsSec := some (s.ppsSecond s.nowNs), ppsEnd := some (s.nowNs + 1000 * s.fld 0 F.PTP_PPS_CFG_WIDTH_US) } }

theorem exec_ppsOutRise_due {s : State} (hpins : s.pinsTaken = true) (hen : s.flag 0 F.PTP_PPS_CFG_OUT_EN = true)
    (hok : s.flag 0 F.TOD_STATE_TX_OK = true ∨ s.flag 0 F.PTP_PPS_CFG_ALWAYS = true)
    (hdue : ((s.tod : Int) - sgn32 (s.fld 0 F.PTP_PPS_OFS_NS) * 2 ^ 40) % (secNs * 2 ^ 40) < (s.todIncr : Int)) (hnew : s.time.ppsSec ≠ some (s.ppsSecond s.nowNs)) :
    exec .ppsOutRise s = .next s.ppsUp := by
  have hcrossed : s.crossed (secNs * 2 ^ 40) (sgn32 (s.fld 0 F.PTP_PPS_OFS_NS) * 2 ^ 40) = true := decide_eq_true hdue
  exact if_pos (by rw [hpins, hen, hcrossed, decide_eq_true hnew, (Bool.or_eq_true _ _).mpr hok]; rfl)

/-- The output falls. -/
def State.ppsDown (s : State) : State := { s.emit (.ppsOut false) with time := { s.time with ppsEnd := none } }

theorem exec_ppsOutFall_due {s : State} {e : Nat} (he : s.time.ppsEnd = some e) (hdue : e ≤ s.nowNs) : exec .ppsOutFall s = .next s.ppsDown := by
  change execPpsOutFall s = _
  rw [execPpsOutFall, he]
  exact if_pos hdue

/-! ### The SyncE DPLL (R476) -/

/-- The DPLL reports its lock on an input. -/
def State.dpllLocked (s : State) : State := s.showSync.setFld 0 F.PTP_SYNCE_STATE_STATE 1

theorem State.showSync_input {s : State} {p : Nat} (h : s.syncInput = some p) :
    s.showSync = (s.setFld 0 F.PTP_SYNCE_STATE_SUB p).setFld 0 F.PTP_SYNCE_STATE_SSM ((s.ptpSub p).ql.getD 0) := by
  unfold State.showSync; rw [h]

theorem State.dpllLocked_state (s : State) : s.dpllLocked.fld 0 F.PTP_SYNCE_STATE_STATE = 1 := State.fld_setFld_same _ _ _ _ (by decide)

section Dpll

variable {s : State} {p : Nat} (hp : s.syncInput = some p)
include hp

theorem State.dpllLocked_sub : s.dpllLocked.fld 0 F.PTP_SYNCE_STATE_SUB = p % 32 := by
  unfold State.dpllLocked
  rw [State.showSync_input hp, State.fld_setFld_apart _ _ _ _ _ _ (by decide) (by decide) (by decide), State.fld_setFld_apart _ _ _ _ _ _ (by decide) (by decide) (by decide),
    State.fld_setFld_same _ _ _ _ (by decide)]
  rfl

theorem State.dpllLocked_todSt : s.dpllLocked.todSt = s.todSt := by
  unfold State.dpllLocked State.todSt
  rw [State.showSync_input hp, State.fld_setFld_apart _ _ _ _ _ _ (by decide) (by decide) (by decide), State.fld_setFld_apart _ _ _ _ _ _ (by decide) (by decide) (by decide),
    State.fld_setFld_apart _ _ _ _ _ _ (by decide) (by decide) (by decide)]

theorem exec_synceDpllLock_locks (hrun : s.runs .s = true) (hh : s.todSt ≠ tsHoldover) : exec (.synceDpllLock true) s = .next s.dpllLocked := by
  change execSynceDpllLock true s = _
  rw [execSynceDpllLock, hrun, hp]
  exact congrArg Host.Outcome.next (if_neg (by rw [← State.dpllLocked_todSt hp] at hh; exact hh))

end Dpll

theorem exec_synceDpllLock_ends {s : State} (hrun : s.runs .s = true) (hh : s.todSt ≠ tsHoldover) (hst : s.fld 0 F.PTP_SYNCE_STATE_STATE = 1) :
    exec (.synceDpllLock false) s = .next (s.setFld 0 F.PTP_SYNCE_STATE_STATE 2) := by
  have hkept : (s.setFld 0 F.PTP_SYNCE_STATE_STATE 2).todSt ≠ tsHoldover := by
    unfold State.todSt
    rw [State.fld_setFld_apart _ _ _ _ _ _ (by decide) (by decide) (by decide)]
    exact hh
  change execSynceDpllLock false s = _
  rw [execSynceDpllLock, hrun]
  exact (if_pos hst).trans (congrArg Host.Outcome.next (if_neg hkept))

/-- Settles O25: each command by its rule above. -/
theorem clockStatesFollowTheirSource : Obligations.ClockStatesFollowTheirSource := by
  intro s hrun
  refine ⟨fun since hband hst hten hvalid => ⟨_, exec_todLocked_holds hband hst hten hvalid, ?locked⟩,
    fun hlost => ⟨fun hst => ⟨_, exec_sourceLost_acquiring hlost hst, s.setTod_todSt _, s.setTod_txOk_freerun, s.setTod_tod _⟩,
      fun hst => ⟨_, exec_sourceLost_locked hlost hst, s.setTod_todSt _, s.setTod_holdS _, s.setTod_tod _⟩, exec_sourceLost_other hlost⟩,
    fun hst hlimit => ⟨_, congrArg Host.Outcome.next (if_pos ⟨hst, hlimit⟩), s.setTod_todSt _, s.setTod_tod _⟩, fun hst hlt => ?holding,
    fun req source hold hm ho => ⟨fun h3 => ?discarded, fun h0 hsrc => ?none⟩,
    fun hpins hen hok hdue hnew => ⟨_, exec_ppsOutRise_due hpins hen hok hdue hnew, rfl, rfl, rfl⟩, fun e he hdue => ⟨_, exec_ppsOutFall_due he hdue, rfl, rfl, rfl⟩,
    fun hh => ⟨fun p hp => ⟨_, exec_synceDpllLock_locks hp hrun hh, s.dpllLocked_state, State.dpllLocked_sub hp⟩, exec_synceDpllLock_ends hrun hh⟩⟩
  case locked =>
    obtain ⟨htod, hrate, hfld⟩ := (s.setTod tsLocked).lockAt_frame (clip 200000 (sgn32 (s.fld 0 F.TOD_FFO_PPT)))
    refine ⟨(hfld F.TOD_STATE_STATE (by decide) (by decide)).trans (s.setTod_todSt _), ?_, htod.trans (s.setTod_tod _), hrate⟩
    unfold State.flag
    rw [hfld F.TOD_STATE_TX_OK (by decide) (by decide)]
    exact s.setTod_txOk_locked
  case holding =>
    have hshown := State.holdShown_holdS hlt
    have hstate : s.holdShown.todSt = tsHoldover := (s.holdShown_fld (by decide) (by decide)).trans hst
    refine ⟨s.holdShown.showTxOk, congrArg _ (State.showHold_holding hst), (State.fld_showTxOk _ (by decide) (by decide)).trans hshown, ?_⟩
    rw [State.flag_showTxOk, hstate, hshown, s.holdShown_fld (by decide) (by decide)]
    simp [tsHoldover, tsLocked]
  case discarded =>
    subst h3
    refine ⟨_, exec_todSourceWrite_discarded hrun hm ho hold, ?_, ?_⟩
    · rw [State.fld_showTxOk _ (by decide) (by decide), State.fld_setFld_apart _ _ _ _ _ _ (by decide) (by decide) (by decide)]
    · rw [State.fld_showTxOk _ (by decide) (by decide), State.fld_setFld_same _ _ _ _ (by decide)]
      exact Nat.mod_eq_of_lt hold.isLt
  case none =>
    subst h0
    refine ⟨_, exec_todSourceWrite_none hrun hm ho hold hsrc, State.setTod_todSt _ _, ?_, ?_, ?_⟩
    · exact (State.setTod_fld _ _ (by decide) (by decide) (by decide) (by decide) (by decide) (by decide)).trans (s.sourceSet_source _ _)
    · exact (State.setTod_fld _ _ (by decide) (by decide) (by decide) (by decide) (by decide) (by decide)).trans (s.sourceSet_shown _ _)
    · exact (State.setTod_fld _ _ (by decide) (by decide) (by decide) (by decide) (by decide) (by decide)).trans (s.sourceSet_hold _ _)

end Sys2Proof.Machine

/-! SUPPORT. Attestation (20 R563, R564, R570; 17 R503, R504): when a request is answered, what each answers from the identity, and what the sessions become, and the statements about them. -/
namespace Sys2Proof.Machine

open Sys2Proof Sys2Proof.Laws

/-! ### When a request is answered (R563) -/

section Asked

variable {s : State} {sess : Option (Fin 4)} (hrun : s.cxlRuns = true)
include hrun

/-- Before sealing the answer is Busy. -/
theorem State.ask_unsealed (hseal : s.fld 0 F.CVS_STATE_STATE ≠ 2) (f : State → State) : s.ask sess f = .next (s.spdmError .busy) := by
  unfold State.ask
  rw [hrun]
  exact congrArg Host.Outcome.next (if_pos hseal)

/-- With the canvas sealed, outside a session or in a complete one. -/
theorem State.ask_sealed (hseal : s.fld 0 F.CVS_STATE_STATE = 2) (hsess : ∀ k, sess = some k → s.inSess k = true) (f : State → State) : s.ask sess f = .next (f s) := by
  unfold State.ask
  rw [hrun]
  refine congrArg Host.Outcome.next ((if_neg (not_not_intro hseal)).trans ?_)
  cases sess with
  | none => rfl
  | some k => exact if_pos (hsess k rfl)

end Asked

/-! ### Answers from the identity (R563, R564) -/

theorem exec_getDigests_chain {s : State} {sess : Option (Fin 4)} (hask : ∀ f : State → State, s.ask sess f = .next (f s)) (hc : s.boot.chain ≠ []) :
    exec (.getDigests sess) s = .next (s.spdm (.digests (sm3 (Config.spdmChain s.boot.chain)))) := by
  change execGetDigests sess s = _
  rw [execGetDigests, hask, if_neg hc]

theorem exec_getCertificate_chain {s : State} {sess : Option (Fin 4)} (hask : ∀ f : State → State, s.ask sess f = .next (f s)) (hc : s.boot.chain ≠ []) (offset len : Nat) :
    let c := Config.spdmChain s.boot.chain
    exec (.getCertificate sess 0 offset len) s = .next (if offset < c.length then s.spdm (.certificate ((c.drop offset).take len) (c.length - (offset + len))) else s.spdmError .refused) := by
  intro c
  change execGetCertificate sess 0 offset len s = _
  rw [execGetCertificate, hask, if_neg hc]
  by_cases hlt : offset < c.length
  · rw [if_pos hlt, if_neg (not_or.mpr ⟨not_not_intro rfl, Nat.not_le.mpr hlt⟩)]
  · rw [if_neg hlt, if_pos (Or.inr (Nat.not_lt.mp hlt))]

theorem exec_challenge_identity {s : State} {sess : Option (Fin 4)} (hask : ∀ f : State → State, s.ask sess f = .next (f s)) (hid : s.fld 0 F.TRU_ID_STATE = 1) :
    exec (.challenge sess 0) s = .next (s.spdm .challengeAuth) := by
  change execChallenge sess 0 s = _
  rw [execChallenge, hask, if_neg (not_not_intro hid), if_neg (not_not_intro rfl)]

/-- Of a list that numbers its entries from 1, those of one number. -/
theorem filter_numbered {α : Type} (g : Nat → α) {k : Nat} (hk : 1 ≤ k) (n : Nat) :
    ((List.range n).map (fun i => (i + 1, g i))).filter (fun p => decide (p.1 = k)) = if k ≤ n then [(k, g (k - 1))] else [] := by
  induction n with
  | zero => rw [if_neg (by omega)]; rfl
  | succ n ih =>
    rw [List.range_succ, List.map_append, List.filter_append, ih]
    by_cases h : k = n + 1
    · subst h; simp
    · by_cases hle : k ≤ n
      · simp [hle, Nat.le_succ_of_le hle, Ne.symm h]
      · simp [hle, Ne.symm h, show ¬ k ≤ n + 1 by omega]

section Measured

variable {s : State} {sess : Option (Fin 4)} (hask : ∀ f : State → State, s.ask sess f = .next (f s)) {index : Nat} {signed : Bool}
  (hsigned : signed = false ∨ s.fld 0 F.TRU_ID_STATE = 1)
include hask hsigned

/-- An unsigned answer, or one that the identity signs, goes by the index. -/
theorem exec_getMeasurements_index :
    exec (.getMeasurements sess index signed) s = .next (
      if index = 0 then s.spdm (.count 10)
      else if index = 0xFF then s.spdm (.measurements ((List.range 10).map (fun i => (i + 1, nth [] s.measurements i))) signed)
      else if 10 < index then s.spdmError .refused
      else s.spdm (.measurements (((List.range 10).map (fun i => (i + 1, nth [] s.measurements i))).filter (fun p => decide (p.1 = index))) signed)) := by
  have hmay : ¬ (signed && decide (s.fld 0 F.TRU_ID_STATE ≠ 1)) = true := by
    rw [Bool.and_eq_true, decide_eq_true_eq]
    rintro ⟨hs, hid⟩
    exact hsigned.elim (fun h => Bool.false_ne_true (h.symm.trans hs)) hid
  change execGetMeasurements sess index signed s = _
  rw [execGetMeasurements, hask, if_neg hmay]

theorem exec_getMeasurements_one (h1 : 1 ≤ index) (h10 : index ≤ 10) :
    exec (.getMeasurements sess index signed) s = .next (s.spdm (.measurements [(index, nth [] s.measurements (index - 1))] signed)) := by
  rw [exec_getMeasurements_index hask hsigned, if_neg (by omega), if_neg (by omega), if_neg (by omega), filter_numbered _ h1, if_pos h10]

end Measured

/-- Settles O19: each request by its rule above. -/
theorem spdmAnswersFromTheIdentity : Obligations.SpdmAnswersFromTheIdentity := by
  intro s sess hrun
  refine ⟨fun hseal hsess => ?sealed, fun hseal => State.ask_unsealed hrun hseal fun t => t.spdm .version⟩
  case sealed =>
    have hask := State.ask_sealed hrun hseal hsess
    refine ⟨hask fun t => t.spdm .version, hask fun t => t.spdm .capabilities, hask fun t => t.spdm .algorithms, exec_getDigests_chain hask, fun offset len hc => exec_getCertificate_chain hask hc offset len, exec_challenge_identity hask,
      fun index signed hsigned => ⟨fun h0 => ?count, exec_getMeasurements_one hask hsigned, fun hall => ?all⟩⟩
    case count => rw [exec_getMeasurements_index hask hsigned, if_pos h0]; rfl
    case all => rw [exec_getMeasurements_index hask hsigned, if_neg (by omega), if_pos hall]; rfl

/-! ### Sessions (R563, R570) -/

theorem State.setSess_shown (s : State) (l : List (Nat × Bool)) : (s.setSess l).fld 0 F.TRU_SPDM_SESSIONS = (l.filter (fun p => p.2)).length % 2 ^ F.TRU_SPDM_SESSIONS.width :=
  State.fld_setFld_same _ _ _ _ (by decide)

/-- A session that is ended is open no longer. -/
theorem State.inSess_setSess_ended (s : State) (k : Nat) : (s.setSess (s.tru.sess.filter (fun p => decide (p.1 ≠ k)))).inSess k = false := by
  refine List.any_eq_false.mpr fun p hp => ?_
  have hne : p.1 ≠ k := of_decide_eq_true (List.mem_filter.mp hp).2
  simp [hne]

section Sessions

variable {s : State} (hrun : s.cxlRuns = true) (hseal : s.fld 0 F.CVS_STATE_STATE = 2)
include hrun hseal

/-- A request outside any session. -/
theorem State.ask_outside (f : State → State) : s.ask none f = .next (f s) := State.ask_sealed hrun hseal (fun _ h => absurd h (Option.some_ne_none _).symm) f

/-- A request in a session that is complete. -/
theorem State.ask_inside {k : Fin 4} (hk : s.inSess k = true) (f : State → State) : s.ask (some k) f = .next (f s) :=
  State.ask_sealed hrun hseal (fun _ h => Option.some.inj h ▸ hk) f

theorem exec_keyExchange_opens {k : Nat} (hid : s.fld 0 F.TRU_ID_STATE = 1) (hk : (List.range 4).find? (fun k => !s.tru.sess.any (fun p => decide (p.1 = k))) = some k) :
    exec (.keyExchange 0) s = .next ((s.setSess (s.tru.sess ++ [(k, false)])).spdm (.keyExchange k)) := by
  change execKeyExchange 0 s = _
  rw [execKeyExchange, State.ask_outside hrun hseal, if_neg (not_not_intro hid), if_neg (not_not_intro rfl), hk]

section Finish

variable {sess : Fin 4} (hopen : s.tru.sess.contains (sess.val, false) = true)
include hopen

theorem exec_finish_good : exec (.finish sess true) s = .next ((s.setSess (s.tru.sess.map (fun p => if p.1 = sess.val then (p.1, true) else p))).spdm .finish) := by
  change execFinish sess true s = _
  rw [execFinish, State.ask_outside hrun hseal, hopen]
  rfl

theorem exec_finish_bad : exec (.finish sess false) s = .next ((s.setSess (s.tru.sess.filter (fun p => decide (p.1 ≠ sess.val)))).spdmError .refused) := by
  change execFinish sess false s = _
  rw [execFinish, State.ask_outside hrun hseal, hopen]
  rfl

end Finish

end Sessions

/-- The stream is keyed; CXL.cache and CXL.mem go on over stream 0. -/
theorem exec_ideKm_keys {s : State} {sess : Fin 4} (hask : ∀ f : State → State, s.ask (some sess) f = .next (f s)) (stream : Fin 4) :
    exec (.ideKm sess stream) s = .next (State.spdm
      (if stream.val = 0 then State.hostBack { s.setIde stream true with cxl := { (s.setIde stream true).cxl with stopped := false } } else s.setIde stream true) .ideKm) := by
  change execIdeKm sess stream s = _
  rw [execIdeKm, hask]

/-- Settles O20: each request by its rule above. -/
theorem spdmSessionsOpenAndClose : Obligations.SpdmSessionsOpenAndClose := by
  intro s hrun hseal
  refine ⟨fun k hid hk => ⟨_, exec_keyExchange_opens hrun hseal hid hk, rfl, rfl, rfl⟩,
    fun sess hopen => ⟨⟨_, exec_finish_good hrun hseal hopen, rfl, rfl, State.setSess_shown _ _⟩, ⟨_, exec_finish_bad hrun hseal hopen, rfl, rfl⟩⟩,
    fun sess hin => ?_⟩
  have hask := State.ask_inside hrun hseal hin
  have hpos : ∀ {stream : Fin 4}, stream ≠ 0 → ¬ stream.val = 0 := fun hne h => hne (Fin.ext h)
  refine ⟨⟨_, hask fun t => (t.setSess (t.tru.sess.filter (fun p => decide (p.1 ≠ sess.val)))).spdm .endSession, rfl, rfl, s.inSess_setSess_ended sess⟩,
    hask fun t => t.spdm .heartbeat, hask fun t => t.spdm .keyUpdate, fun stream hne => ?_, exec_ideKm_keys hask 0⟩
  rw [exec_ideKm_keys hask, if_neg (hpos hne)]
  rfl

end Sys2Proof.Machine

/-! SUPPORT. The host push (20 R556, R557; 03 R82): its start, the bytes of a window, its end, and the statement about them. -/
namespace Sys2Proof.Machine

open Sys2Proof Sys2Proof.Laws

/-! ### The start of a push (R556) -/

/-- A push begins with nothing of the image, and a request for its header. -/
def State.pushBegun (s : State) : State :=
  (((({ s.setSource 2 with boot := { s.boot with image := ⟨0, []⟩, stage := .header, want := [(0, 256)] } } : State).setFld 0 F.TRU_MBX_REQ_OFS_OFS 0).setFld 0
    F.TRU_MBX_REQ_LEN_LEN 256).setFld 0 F.TRU_MBX_STATUS_STATE 2)

theorem State.pushStart_waiting {s : State} {req : Requester} (hm : req.manages = true) (hst : s.fld 0 F.TRU_MBX_STATUS_STATE = 1) : s.pushStart req = s.pushBegun :=
  (if_pos (by rw [hm, hst]; rfl)).trans rfl

theorem State.pushBegun_state (s : State) : s.pushBegun.fld 0 F.TRU_MBX_STATUS_STATE = 2 := State.fld_setFld_same _ _ _ _ (by decide)

theorem State.pushBegun_len (s : State) : s.pushBegun.fld 0 F.TRU_MBX_REQ_LEN_LEN = 256 :=
  (State.fld_setFld_apart _ _ _ _ _ _ (by decide) (by decide) (by decide)).trans (State.fld_setFld_same _ _ _ _ (by decide))

theorem State.pushBegun_ofs (s : State) : s.pushBegun.fld 0 F.TRU_MBX_REQ_OFS_OFS = 0 :=
  (State.fld_setFld_apart _ _ _ _ _ _ (by decide) (by decide) (by decide)).trans
    ((State.fld_setFld_apart _ _ _ _ _ _ (by decide) (by decide) (by decide)).trans (State.fld_setFld_same _ _ _ _ (by decide)))

theorem State.setSource_boot (s : State) (src : Nat) : (s.setSource src).fld 0 F.TRU_BOOT_SOURCE = src % 4 :=
  (State.fld_setFld_apart _ _ _ _ _ _ (by decide) (by decide) (by decide)).trans (State.fld_setFld_same _ _ _ _ (by decide))

theorem State.pushBegun_source (s : State) : s.pushBegun.fld 0 F.TRU_BOOT_SOURCE = 2 := by
  unfold State.pushBegun
  rw [State.fld_setFld_apart _ _ _ _ _ _ (by decide) (by decide) (by decide), State.fld_setFld_apart _ _ _ _ _ _ (by decide) (by decide) (by decide),
    State.fld_setFld_apart _ _ _ _ _ _ (by decide) (by decide) (by decide)]
  exact s.setSource_boot 2

/-! ### The bytes of a window (R556) -/

theorem State.mbxTake_state (s : State) : s.mbxTake.fld 0 F.TRU_MBX_STATUS_STATE = 3 := State.fld_setFld_same _ _ _ _ (by decide)

/-- The bytes do not change whether the ROM takes them. -/
theorem State.mbxTake_pushInRom (s : State) : s.mbxTake.pushInRom = s.pushInRom := by
  have hsrc : s.mbxTake.fld 0 F.CVS_STATE_SOURCE = s.fld 0 F.CVS_STATE_SOURCE := State.fld_setFld_apart _ _ _ _ _ _ (by decide) (by decide) (by decide)
  unfold State.pushInRom
  rw [hsrc]
  rfl

theorem State.pushDone_posted {s : State} {req : Requester} (hm : req.manages = true) (hst : s.fld 0 F.TRU_MBX_STATUS_STATE = 2) :
    s.pushDone req = if s.pushInRom then s.mbxTake.romArrived else s.mbxTake.applyArrived := by
  rw [← s.mbxTake_pushInRom]
  exact if_pos (by rw [hm, hst]; rfl)

/-! ### The end of a push (R557) -/

/-- The ROM has dropped what it had received and waits for a new push. -/
def State.pushDropped (s : State) : State := { s.setFld 0 F.TRU_MBX_STATUS_STATE 1 with boot := { s.boot with image := ⟨0, []⟩, stage := .idle, want := [] } }

theorem State.pushInApply_of_pushInRom {s : State} (h : s.pushInRom = true) : s.pushInApply = false := by
  have hstage : s.boot.stage = .header ∨ s.boot.stage = .firmware := of_decide_eq_true (Bool.and_eq_true_iff.mp h).2
  refine Bool.and_eq_false_iff.mpr (Or.inr (decide_eq_false ?_))
  rintro ⟨-, hheader, hfirmware, -⟩
  exact hstage.elim hheader hfirmware

theorem State.pushEnd_inRom {s : State} (h : s.pushInRom = true) : s.pushEnd = s.pushDropped :=
  (if_neg (by rw [State.pushInApply_of_pushInRom h]; exact Bool.false_ne_true)).trans (if_pos h)

theorem State.pushEnd_inApply {s : State} (h : s.pushInApply = true) : s.pushEnd = s.applyRefuse 0x10 0 := if_pos h

section Ends

variable {s : State} {req : Requester} (ho : s.barOpen req F.TRU_MBX_CTRL_START.off = true)
include ho

theorem exec_pushStart_open : exec (.pushStart req) s = .next (s.pushStart req) := access_open (fun _ => .next (s.pushStart req)) ho

theorem exec_pushDone_open : exec (.pushDone req) s = .next (s.pushDone req) := access_open (fun _ => .next (s.pushDone req)) ho

theorem exec_pushAbort_ends (hm : req.manages = true) : exec (.pushAbort req) s = .next s.pushEnd :=
  (access_open (fun _ => .next (s.pushAbort req)) ho).trans (congrArg _ (if_pos hm))

end Ends

theorem exec_pushRequestTimeout_ends {s : State} (hst : s.fld 0 F.TRU_MBX_STATUS_STATE = 2) : exec .pushRequestTimeout s = .next s.pushEnd := congrArg Host.Outcome.next (if_pos hst)

/-- Settles O16: each command by its rule above. -/
theorem hostPushFillsTheMailbox : Obligations.HostPushFillsTheMailbox := by
  intro s req hm ho
  refine ⟨fun hst => ⟨_, (exec_pushStart_open ho).trans (congrArg _ (State.pushStart_waiting hm hst)), rfl, rfl, rfl, s.pushBegun_source, s.pushBegun_state, s.pushBegun_ofs,
      s.pushBegun_len, rfl, rfl⟩, fun hst => ?other, fun hst => ⟨rfl, rfl, s.mbxTake_state, fun hrom => ?rom, fun hrom => ?apply⟩,
    fun hrom => ⟨s.pushDropped, ?dropped, State.fld_setFld_same _ _ _ _ (by decide), rfl, rfl, rfl, fun hst => ?unanswered⟩, fun happ => ⟨?lost, fun hst => ?silent⟩⟩
  case other =>
    have hno : ¬ (req.manages && decide (s.fld 0 F.TRU_MBX_STATUS_STATE = 1)) = true := by rw [decide_eq_false hst, Bool.and_false]; exact Bool.false_ne_true
    exact (exec_pushStart_open ho).trans (congrArg _ (if_neg hno))
  case rom => rw [exec_pushDone_open ho, State.pushDone_posted hm hst, if_pos hrom]
  case apply => rw [exec_pushDone_open ho, State.pushDone_posted hm hst, if_neg (by rw [hrom]; exact Bool.false_ne_true)]
  case dropped => rw [exec_pushAbort_ends ho hm, State.pushEnd_inRom hrom]
  case unanswered => rw [exec_pushRequestTimeout_ends hst, State.pushEnd_inRom hrom]
  case lost => rw [exec_pushAbort_ends ho hm, State.pushEnd_inApply happ]
  case silent => rw [exec_pushRequestTimeout_ends hst, State.pushEnd_inApply happ]

end Sys2Proof.Machine

/-! SUPPORT. Rollback, the flash update and debug grants (20 R560 to R562, R565 to R568): one rule for each case of a command, and the statements about them. -/
namespace Sys2Proof.Machine

open Sys2Proof Sys2Proof.Laws

/-! ### Counting units of bytes leaves the other registers -/

/-- Only the register that counts changes. -/
theorem State.fld_countUnits (s : State) (u : Nat) {f : Fld} (unit n v : Nat) {g : Fld} (hf : f.inWord = true) (hg : g.inWord = true) (ha : g.apart f = true) :
    (s.countUnits u f unit n).fld v g = s.fld v g := fld_incWrap_apart _ _ _ _ _ _ hf hg ha

/-! ### Rollback (R560) -/

theorem exec_svnCommit_raises {s : State} {req : Requester} (hm : req.manages = true) (ho : s.barOpen req F.TRU_BOOT_CTRL_PUSH_NEXT.off = true)
    (hlt : s.fld 0 F.TRU_FUSE_SVN_MIN < s.fld 0 F.TRU_SVN_SVN) (hsrc : s.fld 0 F.TRU_BOOT_SOURCE = 1) (hres : s.fld 0 F.TRU_BOOT_RESULT = 1) :
    exec (.svnCommit req 0x3C) s = .next (s.setFld 0 F.TRU_FUSE_SVN_MIN (min (s.fld 0 F.TRU_SVN_SVN) 63)) :=
  State.access_acts ho (by rw [hm, decide_eq_true (⟨rfl, hlt, hsrc⟩ : (0x3C : BitVec 8).toNat = 0x3C ∧ _ ∧ _), decide_eq_true hres]; rfl)

theorem exec_svnCommit_discarded {s : State} {req : Requester} {key : BitVec 8} (h : s.fld 0 F.TRU_SVN_SVN ≤ s.fld 0 F.TRU_FUSE_SVN_MIN ∨ key ≠ 0x3C) :
    exec (.svnCommit req key) s = .next s := by
  have hno : ¬ (key.toNat = 0x3C ∧ s.fld 0 F.TRU_FUSE_SVN_MIN < s.fld 0 F.TRU_SVN_SVN ∧ s.fld 0 F.TRU_BOOT_SOURCE = 1) := fun ⟨hkey, hlt, _⟩ =>
    h.elim (fun hle => absurd hlt (Nat.not_lt.mpr hle)) (fun hne => hne (BitVec.eq_of_toNat_eq hkey))
  exact State.access_discards (by rw [decide_eq_false hno, Bool.and_false]; exact Bool.false_ne_true)

/-! ### The flash update (R561) -/

/-- A fetch is asked for. -/
def State.updateAsked (s : State) : State := (s.setFld 0 F.TRU_UPD_STATUS_CODE 1).setFld 0 F.TRU_UPD_STATUS_PERCENT 0

theorem exec_updateGo_asks {s : State} {req : Requester} (hm : req.manages = true) (ho : s.barOpen req F.TRU_UPD_CTRL_GO.off = true) (hseal : s.fld 0 F.CVS_STATE_STATE = 2)
    (hcode : s.fld 0 F.TRU_UPD_STATUS_CODE = 0 ∨ 3 < s.fld 0 F.TRU_UPD_STATUS_CODE) : exec (.updateGo req) s = .next s.updateAsked := by
  have hfree : ¬ (1 ≤ s.fld 0 F.TRU_UPD_STATUS_CODE ∧ s.fld 0 F.TRU_UPD_STATUS_CODE ≤ 3) := by omega
  refine (access_open (fun _ => .next (s.updateGo req)) ho).trans (congrArg _ (if_neg ?_))
  rw [hm, decide_eq_false hfree, decide_eq_false (not_not_intro hseal)]
  exact Bool.false_ne_true

theorem State.updateAsked_code (s : State) : s.updateAsked.fld 0 F.TRU_UPD_STATUS_CODE = 1 :=
  (State.fld_setFld_apart _ _ _ _ _ _ (by decide) (by decide) (by decide)).trans (State.fld_setFld_same _ _ _ _ (by decide))

theorem State.updateAsked_percent (s : State) : s.updateAsked.fld 0 F.TRU_UPD_STATUS_PERCENT = 0 := State.fld_setFld_same _ _ _ _ (by decide)

section UpdateFetch

variable {s : State} (image : Blob) {fail : Bool} (hcode : s.fld 0 F.TRU_UPD_STATUS_CODE = 1)
include hcode

theorem exec_updateFetchDone_unread (h : fail = true ∨ s.hostUp = false) : exec (.updateFetchDone image fail) s = .next (s.setFld 0 F.TRU_UPD_STATUS_CODE 0x18) := by
  have hunread : (fail || !s.hostUp) = true := by rcases h with h | h <;> rw [h] <;> simp
  exact congrArg Host.Outcome.next ((if_neg (not_not_intro hcode)).trans (if_pos hunread))

/-- An image that is read and not too long is judged. -/
theorem exec_updateFetchDone_judged (hfail : fail = false) (hup : s.hostUp = true)
    (hx : s.translates 0 (s.fld64 0 F.TRU_UPD_ADDR_LO_ADDR F.TRU_UPD_ADDR_HI_ADDR) = true) (hlen : s.fld 0 F.TRU_UPD_LEN_BYTES ≤ 0x7F00000) :
    let n := s.fld 0 F.TRU_UPD_LEN_BYTES
    let s1 := s.countUnits 0 F.CXL_EAS_HOST_RD_UNITS 65536 n
    exec (.updateFetchDone image fail) s = .next (match s1.updateFault (subBlob image 0 n) with
      | some c => s1.setFld 0 F.TRU_UPD_STATUS_CODE c
      | none => { s1.setFld 0 F.TRU_UPD_STATUS_CODE 3 with tru := { s1.tru with upd := subBlob image 0 n } }) := by
  intro n s1
  refine congrArg Host.Outcome.next ((if_neg (not_not_intro hcode)).trans ((if_neg ?_).trans ((if_neg ?_).trans (if_neg (Nat.not_lt.mpr hlen)))))
  · rw [hfail, hup]; exact Bool.false_ne_true
  · rw [hx]; exact Bool.false_ne_true

end UpdateFetch

/-- The flash has been programmed, and its read-back compared. -/
def State.updateProgrammed (s : State) (differs : Bool) : State :=
  { ((s.emit (.flash s.tru.upd)).setFld 0 F.TRU_UPD_STATUS_CODE (if differs then 0x19 else 4)).setFld 0 F.TRU_UPD_STATUS_PERCENT 100 with tru := { s.tru with upd := ⟨0, []⟩ } }

theorem exec_updateProgramDone_ends {s : State} (differs : Bool) (hcode : s.fld 0 F.TRU_UPD_STATUS_CODE = 3) : exec (.updateProgramDone differs) s = .next (s.updateProgrammed differs) :=
  congrArg Host.Outcome.next (if_neg (not_not_intro hcode))

theorem State.updateProgrammed_code (s : State) (differs : Bool) : (s.updateProgrammed differs).fld 0 F.TRU_UPD_STATUS_CODE = if differs then 0x19 else 4 := by
  refine (State.fld_setFld_apart _ _ _ _ _ _ (by decide) (by decide) (by decide)).trans ((State.fld_setFld_same _ _ _ _ (by decide)).trans ?_)
  cases differs <;> rfl

theorem State.updateProgrammed_percent (s : State) (differs : Bool) : (s.updateProgrammed differs).fld 0 F.TRU_UPD_STATUS_PERCENT = 100 :=
  State.fld_setFld_same _ _ _ _ (by decide)

/-- Settles O17: each command by its rule above. -/
theorem rollbackAndFlashUpdate : Obligations.RollbackAndFlashUpdate := by
  intro s
  refine ⟨fun req hm ho hlt hsrc hres => ⟨_, exec_svnCommit_raises hm ho hlt hsrc hres, ?min, State.fld_setFld_apart _ _ _ _ _ _ (by decide) (by decide) (by decide), rfl⟩,
    fun req key h => exec_svnCommit_discarded h,
    fun req hm ho hseal hcode => ⟨_, exec_updateGo_asks hm ho hseal hcode, s.updateAsked_code, s.updateAsked_percent, rfl⟩, fun image fail hcode => ?fetch,
    fun differs hcode => ⟨_, exec_updateProgramDone_ends differs hcode, rfl, s.updateProgrammed_code differs, s.updateProgrammed_percent differs, rfl⟩⟩
  case min => exact (State.fld_setFld_same _ _ _ _ (by decide)).trans (Nat.mod_eq_of_lt (by show min _ 63 < 64; omega))
  case fetch =>
    intro n
    refine ⟨exec_updateFetchDone_unread image hcode, fun hfail hup hx hlen => ?_⟩
    have hexec := exec_updateFetchDone_judged image hcode hfail hup hx hlen
    exact ⟨fun c hc => hexec.trans (by rw [hc]), fun hnone => hexec.trans (by rw [hnone])⟩

/-! ### Debug grants (R565 to R568) -/

theorem exec_grantGo_checks {s : State} {req : Requester} (hm : req.manages = true) (ho : s.barOpen req F.TRU_GRANT_CTRL_GO.off = true) (hseal : s.fld 0 F.CVS_STATE_STATE = 2) :
    exec (.grantGo req) s = .next (s.setFld 0 F.TRU_GRANT_STATUS_CODE 1) := State.access_acts ho (by rw [hm, decide_eq_true hseal]; rfl)

section Verdict

variable {s : State} (grant : Blob) {fail : Bool} (hcode : s.fld 0 F.TRU_GRANT_STATUS_CODE = 1)
include hcode

theorem exec_grantVerdict_unread (h : fail = true ∨ s.hostUp = false) : exec (.grantVerdict grant fail) s = .next (s.setFld 0 F.TRU_GRANT_STATUS_CODE 0x15) := by
  have hunread : (fail || !s.hostUp) = true := by rcases h with h | h <;> rw [h] <;> simp
  exact congrArg Host.Outcome.next ((if_neg (not_not_intro hcode)).trans (if_pos hunread))

/-- A grant that is read is judged. -/
theorem exec_grantVerdict_judged (hfail : fail = false) (hup : s.hostUp = true)
    (hx : s.translates 0 (s.fld64 0 F.TRU_GRANT_ADDR_LO_ADDR F.TRU_GRANT_ADDR_HI_ADDR) = true) :
    let s1 := s.countUnits 0 F.CXL_EAS_HOST_RD_UNITS 65536 256
    exec (.grantVerdict grant fail) s = .next (match s1.grantFault grant with
      | some c => s1.setFld 0 F.TRU_GRANT_STATUS_CODE c
      | none => s1.grantAccept grant) := by
  intro s1
  refine congrArg Host.Outcome.next ((if_neg (not_not_intro hcode)).trans ((if_neg ?_).trans (if_neg ?_)))
  · rw [hfail, hup]; exact Bool.false_ne_true
  · rw [hx]; exact Bool.false_ne_true

end Verdict

theorem State.grantAccept_code (s : State) (b : Blob) : (s.grantAccept b).fld 0 F.TRU_GRANT_STATUS_CODE = 2 :=
  (State.fld_setFld_apart _ _ _ _ _ _ (by decide) (by decide) (by decide)).trans
    ((State.fld_setFld_apart _ _ _ _ _ _ (by decide) (by decide) (by decide)).trans (State.fld_setFld_same _ _ _ _ (by decide)))

theorem State.grantAccept_left (s : State) (b : Blob) : (s.grantAccept b).fld 0 F.TRU_GRANT_LEFT_S = b.le 0x34 4 % 2 ^ F.TRU_GRANT_LEFT_S.width :=
  State.fld_setFld_same _ _ _ _ (by decide)

/-- With no other grant in force the debug chain takes the new one in, and memory stays. -/
theorem State.grantAccept_first {s : State} (h : s.granted = false) (b : Blob) : (s.grantAccept b).tru.chain = sm3 (s.tru.chain ++ sm3 (blobSlice b 0 256)) ∧ (s.grantAccept b).mem = s.mem := by
  unfold State.grantAccept
  rw [h]
  exact ⟨rfl, rfl⟩

/-- The powers of a grant are gone. -/
def State.powerless (s : State) : State := { s.dropPowers with tru := { s.tru with caps := 0 } }

/-- A grant in force has ended. -/
def State.grantEnded (s : State) : State := if s.powerless.fld 0 F.TRU_GRANT_STATUS_CODE = 1 then s.powerless else s.powerless.setFld 0 F.TRU_GRANT_STATUS_CODE 3

theorem State.endGrant_granted {s : State} (h : s.granted = true) : s.endGrant = s.grantEnded := if_pos h

theorem State.endGrant_none {s : State} (h : s.granted = false) : s.endGrant = s := if_neg (by rw [h]; exact Bool.false_ne_true)

theorem State.grantEnded_caps (s : State) : s.grantEnded.tru.caps = 0 := by unfold State.grantEnded; split <;> rfl

theorem State.powerless_left (s : State) : s.powerless.fld 0 F.TRU_GRANT_LEFT_S = 0 := (State.fld_upd s.dropPowers 0 _).trans (State.fld_setFld_same _ _ _ _ (by decide))

theorem State.grantEnded_left (s : State) : s.grantEnded.fld 0 F.TRU_GRANT_LEFT_S = 0 := by
  unfold State.grantEnded
  split
  · exact s.powerless_left
  · exact (State.fld_setFld_apart _ _ _ _ _ _ (by decide) (by decide) (by decide)).trans s.powerless_left

theorem State.grantEnded_granted (s : State) : s.grantEnded.granted = false := decide_eq_false (not_not_intro s.grantEnded_left)

/-- Settles O18: each command by its rule above. -/
theorem debugGrantsGiveAndTakePowers : Obligations.DebugGrantsGiveAndTakePowers := by
  intro s
  refine ⟨fun req hm ho hseal => exec_grantGo_checks hm ho hseal, fun grant fail hcode => ⟨exec_grantVerdict_unread grant hcode, fun hfail hup hx => ?verdict⟩,
    fun req hm ho hg => ⟨s.grantEnded, rfl, s.grantEnded_caps, s.grantEnded_granted, ?revoked, congrArg Host.Outcome.next (State.endGrant_granted hg)⟩,
    fun hg => congrArg Host.Outcome.next (State.endGrant_none hg), rfl⟩
  case verdict =>
    intro s1
    have hexec := exec_grantVerdict_judged grant hcode hfail hup hx
    refine ⟨fun c hc => hexec.trans (by rw [hc]), fun hnone =>
      ⟨_, hexec.trans (by rw [hnone]), s1.grantAccept_code grant, rfl, s1.grantAccept_left grant, fun hg => State.grantAccept_first ?_ grant⟩⟩
    have hleft : s1.fld 0 F.TRU_GRANT_LEFT_S = s.fld 0 F.TRU_GRANT_LEFT_S := s.fld_countUnits 0 _ _ 0 (by decide) (by decide) (by decide)
    exact (congrArg (fun n => decide (n ≠ 0)) hleft).trans hg
  case revoked =>
    rw [← State.endGrant_granted hg]
    exact (access_open (fun _ => .next (s.grantRevoke req)) ho).trans (congrArg _ (if_pos hm))

end Sys2Proof.Machine

/-! SUPPORT. Injection, fold windows, the health score and quarantine (21 R575, R580, R582, R583, R585): one rule for each, and the statement about them. -/
namespace Sys2Proof.Machine

open Sys2Proof Sys2Proof.Laws

/-! ### Injection points (R580) -/

/-- A point is armed from a fresh count. -/
def State.armed (s : State) (d : Nat) : State :=
  ((({ s with flt := { s.flt with injSeen := SMap.set (fun _ => 0) s.flt.injSeen d 0 } } : State).setFlag d F.FLT_INJSTAT_REFUSED false).setFlag d F.FLT_INJSTAT_ARMED true)

/-- Arming a point is refused. -/
def State.armRejected (s : State) (d : Nat) : State := (s.disarm d).setFlag d F.FLT_INJSTAT_REFUSED true

theorem exec_injectArm_at {s : State} {req : Requester} {d : Nat} (ho : s.barOpen req F.FLT_INJARM_ARM.off = true) (hd : s.unitAt req F.FLT_INJARM_ARM.off = d)
    (hm : req.manages = true) (hp : s.power powInject = true) : exec (.injectArm req) s = .next (if s.armRefused d then s.armRejected d else s.armed d) := by
  change execInjectArm req s = _
  rw [execInjectArm, access_at _ ho hd, hm, hp]
  dsimp only
  cases s.armRefused d <;> rfl

theorem exec_injectDisarm_at {s : State} {req : Requester} {d : Nat} (ho : s.barOpen req F.FLT_INJARM_ARM.off = true) (hd : s.unitAt req F.FLT_INJARM_ARM.off = d)
    (hm : req.manages = true) : exec (.injectDisarm req) s = .next (s.disarm d) := by
  change execInjectDisarm req s = _
  rw [execInjectDisarm, access_at _ ho hd, hm]
  rfl

theorem State.flag_disarm (s : State) (d : Nat) : (s.disarm d).flag d F.FLT_INJSTAT_ARMED = false := State.flag_setFlag_same _ _ _ _ (by decide) (by decide)

theorem State.flag_disarm_other (s : State) {d e : Nat} (h : e ≠ d) : (s.disarm d).flag e F.FLT_INJSTAT_ARMED = s.flag e F.FLT_INJSTAT_ARMED :=
  congrArg (fun n => decide (n ≠ 0)) (State.fld_setFld_unit _ _ _ _ (by decide) (by decide) h)

theorem State.armRejected_spec (s : State) (d : Nat) : (s.armRejected d).flag d F.FLT_INJSTAT_ARMED = false ∧ (s.armRejected d).flag d F.FLT_INJSTAT_REFUSED = true :=
  ⟨(State.flag_setFlag_apart _ _ _ _ _ _ (by decide) (by decide) (by decide)).trans (s.flag_disarm d), State.flag_setFlag_same _ _ _ _ (by decide) (by decide)⟩

theorem State.armed_spec (s : State) (d : Nat) :
    (s.armed d).flag d F.FLT_INJSTAT_ARMED = true ∧ (s.armed d).flag d F.FLT_INJSTAT_REFUSED = false ∧ SMap.get (fun _ => 0) (s.armed d).flt.injSeen d = 0 :=
  ⟨State.flag_setFlag_same _ _ _ _ (by decide) (by decide),
    (State.flag_setFlag_apart _ _ _ _ _ _ (by decide) (by decide) (by decide)).trans (State.flag_setFlag_same _ _ _ _ (by decide) (by decide)), SMap.get_set_same _ _ _ _⟩

theorem exec_foldWindowEnd_oldest {s : State} {r : FaultRec} {l : List FaultRec} (h : s.flt.folds = r :: l) :
    exec .foldWindowEnd s = .next (({ s with flt := { s.flt with folds := l } }).deliverFault r) := by
  change execFoldWindowEnd s = _
  rw [execFoldWindowEnd, h]

/-! ### The health score (R582, R583) -/

theorem pow600_eq (x : Nat) : pow600 x = x ^ 600 := (pow_mul x 200 3).symm

/-- The search keeps the answer between its last guess and the step above it. -/
theorem decayBits_spec (x : Nat) : ∀ b acc, 2 * acc ^ 600 ≤ x ^ 600 → x ^ 600 < 2 * (acc + 2 ^ b) ^ 600 →
    2 * decayBits x b acc ^ 600 ≤ x ^ 600 ∧ x ^ 600 < 2 * (decayBits x b acc + 1) ^ 600 := by
  intro b
  induction b with
  | zero => intro acc hlo hhi; exact ⟨hlo, hhi⟩
  | succ b ih =>
    intro acc hlo hhi
    unfold decayBits
    dsimp only
    rw [pow600_eq, pow600_eq]
    split
    next h => exact ih _ h (by rw [Nat.add_assoc, ← Nat.two_mul, ← Nat.pow_succ']; exact hhi)
    next h => exact ih _ hlo (Nat.not_le.mp h)

/-- The first guess spans the whole range of D; `m` stands for 2²⁴ and `n` for 600, which are not to be evaluated together. -/
theorem firstGuess_spans {x m n : Nat} (hx : x < m) (hn : n ≠ 0) : 2 * 0 ^ n ≤ x ^ n ∧ x ^ n < 2 * (0 + m) ^ n := by
  refine ⟨?_, ?_⟩
  · rw [zero_pow hn]; exact Nat.zero_le _
  · rw [Nat.zero_add]
    exact (Nat.pow_lt_pow_left hx hn).trans_le (Nat.le_mul_of_pos_left _ Nat.two_pos)

theorem decayD_spec {x : Nat} (hx : x < 2 ^ 24) : 2 * decayD x ^ 600 ≤ x ^ 600 ∧ x ^ 600 < 2 * (decayD x + 1) ^ 600 :=
  decayBits_spec x 24 0 (firstGuess_spans hx (by decide)).1 (firstGuess_spans hx (by decide)).2

theorem le_of_two_mul_pow_le {d x n : Nat} (hn : n ≠ 0) (h : 2 * d ^ n ≤ x ^ n) : d ≤ x :=
  (Nat.pow_le_pow_iff_left hn).mp ((Nat.le_mul_of_pos_left _ Nat.two_pos).trans h)

theorem decayD_le {x : Nat} (hx : x < 2 ^ 24) : decayD x ≤ x := le_of_two_mul_pow_le (by decide) (decayD_spec hx).1

/-- The band that an evaluation leaves: another one once the score has lain outside for 60 s. -/
def State.bandNext (s : State) (raw : Nat) : Nat := if 60 ≤ min (s.fld 0 F.FLT_HEALTH_DWELL_S + 1) 0xFFFF then bandOf raw else s.fld 0 F.FLT_HEALTH_BAND

/-- The raw score of an evaluation. -/
def State.rawNext (s : State) : Nat := min (capOf s.healthCaps) (1000 - decayD (s.fld 0 F.FLT_PENALTY_D) / 64)

/-- What an evaluation shows. -/
def State.evaluated (s : State) : State :=
  let dwell := min (s.fld 0 F.FLT_HEALTH_DWELL_S + 1) 0xFFFF
  let band := s.bandNext s.rawNext
  let r := bandRange band
  ((((((s.setFld 0 F.FLT_PENALTY_D (decayD (s.fld 0 F.FLT_PENALTY_D))).setFld 0 F.FLT_HEALTH_RAW_RAW s.rawNext).setFld 0 F.FLT_HEALTH_RAW_RAW_BAND (bandOf s.rawNext)).setFld
    0 F.FLT_HEALTH_RAW_CAP s.healthCaps).setFld 0 F.FLT_HEALTH_BAND band).setFld 0 F.FLT_HEALTH_SCORE (max r.1 (min r.2 s.rawNext))).setFld
    0 F.FLT_HEALTH_DWELL_S (if band = s.fld 0 F.FLT_HEALTH_BAND then dwell else 0)

theorem exec_healthEvaluation_eq (s : State) : exec .healthEvaluation s = .next s.evaluated := rfl

theorem bandOf_lt (n : Nat) : bandOf n < 4 := by unfold bandOf; split <;> [decide; (split <;> [decide; (split <;> decide)])]

theorem State.bandNext_lt (s : State) (raw : Nat) : s.bandNext raw < 4 := by
  unfold State.bandNext
  split
  · exact bandOf_lt raw
  · exact s.fld_lt 0 F.FLT_HEALTH_BAND

theorem bandRange_bounds (b : Nat) : (bandRange b).1 ≤ (bandRange b).2 ∧ (bandRange b).2 < 1024 := by
  rcases b with _ | _ | _ | b
  · exact ⟨by decide, by decide⟩
  · exact ⟨by decide, by decide⟩
  · exact ⟨by decide, by decide⟩
  · exact ⟨Nat.zero_le _, show 199 < 1024 by decide⟩

theorem State.rawNext_lt (s : State) : s.rawNext < 1024 := by unfold State.rawNext; omega

theorem State.evaluated_penalty (s : State) : s.evaluated.fld 0 F.FLT_PENALTY_D = decayD (s.fld 0 F.FLT_PENALTY_D) := by
  have hd : s.fld 0 F.FLT_PENALTY_D < 2 ^ 24 := s.fld_lt 0 F.FLT_PENALTY_D
  unfold State.evaluated
  simp (disch := decide) only [State.fld_setFld_apart, State.fld_setFld_same]
  exact Nat.mod_eq_of_lt ((decayD_le hd).trans_lt hd)

theorem State.evaluated_raw (s : State) : s.evaluated.fld 0 F.FLT_HEALTH_RAW_RAW = s.rawNext := by
  unfold State.evaluated
  simp (disch := decide) only [State.fld_setFld_apart, State.fld_setFld_same]
  exact Nat.mod_eq_of_lt s.rawNext_lt

theorem State.evaluated_band (s : State) : s.evaluated.fld 0 F.FLT_HEALTH_BAND = s.bandNext s.rawNext := by
  unfold State.evaluated
  simp (disch := decide) only [State.fld_setFld_apart, State.fld_setFld_same]
  exact Nat.mod_eq_of_lt (s.bandNext_lt _)

theorem State.evaluated_score (s : State) : s.evaluated.fld 0 F.FLT_HEALTH_SCORE = max (bandRange (s.bandNext s.rawNext)).1 (min (bandRange (s.bandNext s.rawNext)).2 s.rawNext) := by
  have hr := bandRange_bounds (s.bandNext s.rawNext)
  unfold State.evaluated
  simp (disch := decide) only [State.fld_setFld_apart, State.fld_setFld_same]
  exact Nat.mod_eq_of_lt (by show _ < 1024; omega)

theorem State.evaluated_dwell (s : State) : s.evaluated.fld 0 F.FLT_HEALTH_DWELL_S =
    if s.bandNext s.rawNext = s.fld 0 F.FLT_HEALTH_BAND then min (s.fld 0 F.FLT_HEALTH_DWELL_S + 1) 0xFFFF else 0 := by
  refine (State.fld_setFld_same _ _ _ _ (by decide)).trans (Nat.mod_eq_of_lt ?_)
  show _ < 65536
  split <;> omega

/-- Before 60 s the band stays. -/
theorem State.bandNext_young {s : State} (h : s.fld 0 F.FLT_HEALTH_DWELL_S + 1 < 60) (raw : Nat) : s.bandNext raw = s.fld 0 F.FLT_HEALTH_BAND := if_neg (by omega)

theorem State.bandNext_ripe {s : State} (h : 60 ≤ s.fld 0 F.FLT_HEALTH_DWELL_S + 1) (raw : Nat) : s.bandNext raw = bandOf raw := if_pos (by omega)

/-! ### Quarantine (R585) -/

/-- A loop over a list leaves what one of its steps makes and the others keep. -/
theorem forEach_makes {σ α : Type} (P : σ → Prop) (f : α → σ → σ) {a : α} (hset : ∀ t, P (f a t)) (hkeep : ∀ b t, P t → P (f b t)) :
    ∀ (l : List α) (s : σ), a ∈ l → P (forEach l f s) := by
  intro l
  induction l with
  | nil => intro s ha; exact absurd ha List.not_mem_nil
  | cons b l ih =>
    intro s ha
    rcases List.mem_cons.mp ha with rfl | ha
    · exact each_keep P f hkeep l _ (hset s)
    · exact ih (f b s) ha

theorem mem_tenants {e : Nat} (h0 : 0 < e) (h64 : e < 64) : e ∈ tenants := List.mem_filter.mpr ⟨List.mem_range.mpr h64, decide_eq_true (by omega)⟩

/-- A loop whose steps leave memory leaves it. -/
theorem forEach_mem {α : Type} {f : α → State → State} (hf : ∀ a t, (f a t).mem = t.mem) : ∀ (l : List α) (s : State), (forEach l f s).mem = s.mem := by
  intro l
  induction l with
  | nil => intro s; rfl
  | cons a l ih => intro s; exact (ih (f a s)).trans (hf a s)

/-- No easel carries the mark of quarantine. -/
def State.unmarkAll (s : State) : State := forEach tenants (fun e (t : State) => t.setFlag e F.EAS_LIFE_QUAR false) s

theorem State.flag_setFlag_unit (s : State) (u u' : Nat) {f : Fld} (v : Bool) (hf : f.inWord = true) (hu : u' ≠ u) : (s.setFlag u f v).flag u' f = s.flag u' f := by
  unfold State.flag
  rw [State.setFlag, State.fld_setFld_unit _ _ _ _ hf hf hu]

theorem State.unmarkAll_quar (s : State) {e : Nat} (h0 : 0 < e) (h64 : e < 64) : s.unmarkAll.flag e F.EAS_LIFE_QUAR = false := by
  unfold State.unmarkAll
  refine forEach_makes (fun t : State => t.flag e F.EAS_LIFE_QUAR = false) _ (fun t => State.flag_setFlag_same _ _ _ _ (by decide) (by decide)) (fun b t h => ?_) tenants s (mem_tenants h0 h64)
  by_cases hb : e = b
  · subst hb; exact State.flag_setFlag_same _ _ _ _ (by decide) (by decide)
  · exact (State.flag_setFlag_unit _ _ _ _ (by decide) hb).trans h

theorem State.unmarkAll_fld (s : State) (u : Nat) {f : Fld} (hw : f.inWord = true) (ha : f.apart F.EAS_LIFE_QUAR = true) : s.unmarkAll.fld u f = s.fld u f := by
  unfold State.unmarkAll
  exact each_keep (fun t : State => t.fld u f = s.fld u f) _ (fun _ _ h => (State.fld_setFlag_apart _ _ _ _ _ _ (by decide) hw ha).trans h) tenants s rfl

theorem State.unmarkAll_mem (s : State) : s.unmarkAll.mem = s.mem := forEach_mem (f := fun e (t : State) => t.setFlag e F.EAS_LIFE_QUAR false) (fun _ _ => rfl) tenants s

theorem State.fld_unholdEasel_apart (s : State) (e src u : Nat) {f : Fld} (hw : f.inWord = true) (ha : f.apart F.EAS_LIFE_HOLD = true) : (s.unholdEasel e src).fld u f = s.fld u f :=
  fld_clrFld_apart _ _ _ _ _ _ (by decide) hw ha

theorem State.unholdAll_released (s : State) {e : Nat} (h0 : 0 < e) (h64 : e < 64) : ((s.unholdAll holdReset).fld e F.EAS_LIFE_HOLD).testBit 3 = false := by
  unfold State.unholdAll
  refine forEach_makes (fun t : State => (t.fld e F.EAS_LIFE_HOLD).testBit 3 = false) (fun e t => State.unholdEasel t e holdReset) (fun t => t.testBit_fld_clrFld e 3 (by decide)) (fun b t h => ?_) tenants s
    (mem_tenants h0 h64)
  by_cases hb : e = b
  · subst hb; exact t.testBit_fld_clrFld e 3 (by decide)
  · rw [State.unholdEasel, State.clrFld, State.fld_setFld_unit _ _ _ _ (by decide) (by decide) hb]
    exact h

theorem State.unholdAll_fld (s : State) (src u : Nat) {f : Fld} (hw : f.inWord = true) (ha : f.apart F.EAS_LIFE_HOLD = true) : (s.unholdAll src).fld u f = s.fld u f := by
  unfold State.unholdAll
  exact each_keep (fun t : State => t.fld u f = s.fld u f) _ (fun _ _ h => (State.fld_unholdEasel_apart _ _ _ _ hw ha).trans h) tenants s rfl

theorem State.unholdAll_mem (s : State) (src : Nat) : (s.unholdAll src).mem = s.mem := forEach_mem (f := fun e (t : State) => t.unholdEasel e src) (fun _ _ => rfl) tenants s

/-- The device has left quarantine. -/
def State.quarantineLeft (s : State) : State := (s.unholdAll holdReset).unmarkAll.setFlag 0 F.FLT_HEALTH_QUARANTINED false

theorem State.quarantineLeft_fld (s : State) (u : Nat) {f : Fld} (hw : f.inWord = true) (ha : f.apart F.FLT_HEALTH_QUARANTINED = true) :
    s.quarantineLeft.fld u f = (s.unholdAll holdReset).unmarkAll.fld u f := State.fld_setFlag_apart _ _ _ _ _ _ (by decide) hw ha

theorem State.quarantineLeft_over (s : State) : s.quarantineLeft.flag 0 F.FLT_HEALTH_QUARANTINED = false := State.flag_setFlag_same _ _ _ _ (by decide) (by decide)

theorem State.quarantineLeft_mem (s : State) : s.quarantineLeft.mem = s.mem := by
  rw [State.quarantineLeft, State.setFlag_mem, State.unmarkAll_mem, State.unholdAll_mem]

theorem State.quarantineLeft_easel (s : State) {e : Nat} (h0 : 0 < e) (h64 : e < 64) :
    s.quarantineLeft.flag e F.EAS_LIFE_QUAR = false ∧ s.quarantineLeft.life e = s.life e ∧ (s.quarantineLeft.fld e F.EAS_LIFE_HOLD).testBit 3 = false := by
  refine ⟨?_, ?_, ?_⟩
  · rw [State.quarantineLeft, State.flag_setFlag_apart _ _ _ _ _ _ (by decide) (by decide) (by decide)]
    exact State.unmarkAll_quar _ h0 h64
  · rw [State.life, State.life, s.quarantineLeft_fld _ (by decide) (by decide), State.unmarkAll_fld _ _ (by decide) (by decide), s.unholdAll_fld _ _ (by decide) (by decide)]
  · rw [s.quarantineLeft_fld _ (by decide) (by decide), State.unmarkAll_fld _ _ (by decide) (by decide)]
    exact s.unholdAll_released h0 h64

section Quarantine

variable {s : State} {req : Requester} (ho : s.barOpen req F.FLT_QUAR_CTRL_ENTER.off = true)
include ho

theorem exec_quarantineEnter_key (hm : req.manages = true) (h : s.flag 0 F.FLT_HEALTH_QUARANTINED = false) :
    exec (.quarantineEnter req 0x51) s = .next (forEach tenants (fun e (t : State) => t.quarantineOne e) (s.setFlag 0 F.FLT_HEALTH_QUARANTINED true)) := by
  change execQuarantineEnter req 0x51 s = _
  rw [execQuarantineEnter, access_open _ ho, hm, h]
  rfl

theorem exec_quarantineLeave_key (hm : req.manages = true) (h : s.flag 0 F.FLT_HEALTH_QUARANTINED = true) : exec (.quarantineLeave req 0x51) s = .next s.quarantineLeft := by
  change execQuarantineLeave req 0x51 s = _
  rw [execQuarantineLeave, access_open _ ho, hm, h]
  rfl

theorem exec_quarantine_badKey {key : BitVec 8} (hk : key ≠ 0x51) : exec (.quarantineEnter req key) s = .next s ∧ exec (.quarantineLeave req key) s = .next s := by
  have hkey : decide (key.toNat = 0x51) = false := decide_eq_false fun h => hk (BitVec.eq_of_toNat_eq h)
  refine ⟨?_, ?_⟩
  · change execQuarantineEnter req key s = _
    rw [execQuarantineEnter, access_open _ ho, hkey, Bool.and_false]
    rfl
  · change execQuarantineLeave req key s = _
    rw [execQuarantineLeave, access_open _ ho, hkey, Bool.and_false]
    rfl

end Quarantine

/-- Settles O31: each command by its rule above. -/
theorem injectionHealthAndQuarantine : Obligations.InjectionHealthAndQuarantine := by
  intro s
  refine ⟨fun req d ho hd _ hm hp => ?arm, fun req d ho hd hm => ⟨_, exec_injectDisarm_at ho hd hm, s.flag_disarm d, fun e he => s.flag_disarm_other he, rfl⟩,
    fun r l h => exec_foldWindowEnd_oldest h, ⟨_, exec_healthEvaluation_eq s, ?health⟩,
    fun req hm ho => ⟨exec_quarantineEnter_key ho hm, fun h => ⟨_, exec_quarantineLeave_key ho hm h, s.quarantineLeft_over,
      fun e h0 h64 => s.quarantineLeft_easel h0 h64, s.quarantineLeft_mem⟩, fun key hk => exec_quarantine_badKey ho hk⟩⟩
  case arm =>
    have hexec := exec_injectArm_at ho hd hm hp
    exact ⟨fun h => ⟨_, hexec.trans (by rw [h]; rfl), s.armRejected_spec d⟩, fun h => ⟨_, hexec.trans (by rw [h]; rfl), s.armed_spec d⟩⟩
  case health =>
    have hdecay := decayD_spec (s.fld_lt 0 F.FLT_PENALTY_D)
    have hband := bandRange_bounds (s.bandNext s.rawNext)
    refine ⟨?_, fun hyoung => ?_, fun hripe => ?_, ?_, rfl, rfl⟩
    · rw [s.evaluated_penalty, s.evaluated_raw]
      exact ⟨hdecay.1, hdecay.2, rfl⟩
    · rw [s.evaluated_band, s.evaluated_dwell, State.bandNext_young hyoung, if_pos rfl]
      exact ⟨rfl, by omega⟩
    · rw [s.evaluated_band, s.evaluated_raw, State.bandNext_ripe hripe]
    · rw [s.evaluated_band, s.evaluated_score]
      exact ⟨by omega, by omega⟩

end Sys2Proof.Machine

/-! SUPPORT. CXL.mem requests, interrupts and IDE (17 R500 to R504; 18 R516): one rule for each way a request ends, and the statement about them. -/
namespace Sys2Proof.Machine

open Sys2Proof Sys2Proof.Laws

/-! ### Requests for memory (R500) -/

/-- The bytes that a request reads, if it reads. -/
def cxlReads : CxlMemOp → Option Nat
  | .read n => some n
  | .write _ => none

section Request

variable {s : State} {e : Fin 64} {off : Nat} {acc : CxlMemOp}

/-- A request is taken: the host is reached and it stays within one line. -/
theorem exec_cxlMemRequest_taken (hup : s.hostUp = true) (hoff : off < 2 ^ 39) (hline : off % 64 + cxlSize acc ≤ 64) :
    (!s.hostUp || decide (2 ^ 39 ≤ off ∨ 64 < off % 64 + cxlSize acc)) = false := by
  rw [hup, Bool.not_true, Bool.false_or]
  exact decide_eq_false (by omega)

theorem exec_cxlMemRequest_down (hup : s.hostUp = false) (ecc : Option EccEvent) : exec (.cxlMemRequest e off acc ecc) s = .next s :=
  if_pos (by rw [hup]; rfl)

theorem exec_cxlMemRequest_shut (ecc : Option EccEvent) (htaken : (!s.hostUp || decide (2 ^ 39 ≤ off ∨ 64 < off % 64 + cxlSize acc)) = false) (hshut : s.memShut e = true) :
    exec (.cxlMemRequest e off acc ecc) s = .next ((s.memRefuse e (cxlReads acc)).usageFault (if e.val = 0 then atelier else e) ukNone 0 off ufOutOfShare) :=
  (if_neg (by rw [htaken]; exact Bool.false_ne_true)).trans (if_pos hshut)

/-- A write within the share of an easel that runs. -/
theorem exec_cxlMemRequest_write {bs : List Nat} (ecc : Option EccEvent) (htaken : (!s.hostUp || decide (2 ^ 39 ≤ off ∨ 64 < off % 64 + cxlSize (.write bs))) = false)
    (hshut : s.memShut e = false) (hin : s.inShare e off bs.length = true) (hfrozen : s.frozen e = false) (hseq : s.seqOn e = false) :
    exec (.cxlMemRequest e off (.write bs) ecc) s = .next (((s.bondStore e off bs).st.countUnits e F.CXL_EAS_MEM_WR_UNITS 65536 bs.length).emit (.memResp e 0 [])) := by
  have hpaint : s.hitsUnderpainting e off bs.length = false := by rw [State.hitsUnderpainting, hseq, Bool.false_and]
  change execCxlMemRequest e off (.write bs) ecc s = _
  rw [execCxlMemRequest, htaken, hshut, show s.inShare e off (cxlSize (.write bs)) = true from hin, hfrozen, hpaint]
  rfl

/-- A read of clean memory within the share. -/
theorem exec_cxlMemRequest_read {n : Nat} (htaken : (!s.hostUp || decide (2 ^ 39 ≤ off ∨ 64 < off % 64 + cxlSize (.read n))) = false)
    (hshut : s.memShut e = false) (hin : s.inShare e off n = true) (hpoison : s.poison = []) (hseq : s.seqOn e = false)
    (harm : s.flag (s.stackOf e (off / 64 * 64 / 65536)) F.FLT_INJSTAT_ARMED = false) :
    exec (.cxlMemRequest e off (.read n) none) s =
      .next (((s.bondLoad e off n stPoison none).st.countUnits e F.CXL_EAS_MEM_RD_UNITS 65536 n).emit (.memResp e 0 (s.readBytes (bondKey e off) n))) := by
  obtain ⟨hok, hdata, hoff, -, -, -⟩ := load_clean s e off n stPoison hin hpoison hseq harm
  change execCxlMemRequest e off (.read n) none s = _
  rw [execCxlMemRequest, htaken, hshut, show s.inShare e off (cxlSize (.read n)) = true from hin]
  dsimp only
  rw [hok, State.masksAny_off hoff, hdata, view_id _ _ _ _ hoff]
  rfl

end Request

/-- What a store changes of the bytes of memory. -/
theorem State.bondStore_bytes {s t : State} {e a : Nat} {bs : List Nat} (hin : s.inShare e a bs.length = true) (hmem : t.mem = (s.bondStore e a bs).st.mem) :
    (∀ i, (h : i < bs.length) → t.byte (bondKey e a + i) = BitVec.ofNat 8 bs[i]) ∧ (∀ k, k < bondKey e a ∨ bondKey e a + bs.length ≤ k → t.byte k = s.byte k) := by
  have hbyte : ∀ k, t.byte k = (s.writeBytes (bondKey e a) bs).byte k := fun k => by unfold State.byte; rw [hmem, (store_mem s e a bs hin).1]
  exact ⟨fun i hi => (hbyte _).trans (State.byte_writeBytes_in _ _ _ _ hi), fun k hk => (hbyte k).trans (State.byte_writeBytes_out _ _ _ _ hk)⟩

/-! ### A usage fault leaves what has left the device -/

theorem State.fire_out (s : State) (fn vec : Nat) : (s.fire fn vec).out = s.out := by unfold State.fire; split <;> rfl

theorem State.faultRingWrite_out (s : State) (e : Nat) (r : FaultRec) : (s.faultRingWrite e r).out = s.out := State.fire_out _ _ _

theorem State.faultLost_out (s : State) (e : Nat) (r : FaultRec) : (s.faultLost e r).out = s.out := by unfold State.faultLost; dsimp only; split <;> rfl

theorem State.deliverFault_out (s : State) (r : FaultRec) : (s.deliverFault r).out = s.out := by
  unfold State.deliverFault
  split
  · exact State.faultRingWrite_out _ _ _
  · exact State.faultLost_out _ _ _

theorem State.usageFault_out (s : State) (e k u i c : Nat) : (s.usageFault e k u i c).out = s.out := State.deliverFault_out _ _

/-- A request that is refused everywhere is answered and changes no byte. -/
theorem State.memRefuse_answers (s : State) (e : Nat) : (∀ n, (s.memRefuse e (some n)).out = s.out ++ [.memResp e 2 (List.replicate n 0)]) ∧
    (s.memRefuse e none).out = s.out ++ [.memResp e 0 []] := ⟨fun _ => rfl, rfl⟩

theorem State.memRefuse_mem (s : State) (e : Nat) (read : Option Nat) : (s.memRefuse e read).mem = s.mem := by cases read <;> rfl

/-! ### Interrupts and IDE (R501 to R504) -/

theorem NSet.has_remove_self (x : Nat) (m : NSet) : NSet.has x (NSet.remove x m) = false := by simp [NSet.has, NSet.remove]

theorem State.fire_open {s : State} {fn vec : Nat} (h : NSet.has (vecKey fn vec) s.cxl.msixOpen = true) : s.fire fn vec = s.toHost fn (.msix fn vec) := if_pos h

/-- A moderated vector whose time has come has nothing unsignalled. -/
def State.signalled (s : State) (k : Nat) : State := { s with cxl := { s.cxl with unsignalled := SMap.set (fun _ => 0) s.cxl.unsignalled k 0 } }

theorem exec_msiModerationTimer_due {s : State} {e : Fin 64} {vec : Fin 2} (h : SMap.get (fun _ => 0) s.cxl.unsignalled (vecKey e vec) ≠ 0)
    (hopen : NSet.has (vecKey e vec) s.cxl.msixOpen = true) : exec (.msiModerationTimer e vec) s = .next ((s.signalled (vecKey e vec)).toHost e (.msix e vec)) :=
  (show exec (.msiModerationTimer e vec) s = .next ((s.signalled (vecKey e vec)).fire e vec) from if_neg h).trans (congrArg Host.Outcome.next (State.fire_open hopen))

/-- A vector that is unmasked and not pending. -/
def State.unmasked (s : State) (k : Nat) : State := { s with cxl := { s.cxl with msixOpen := NSet.add k s.cxl.msixOpen, msixPending := NSet.remove k s.cxl.msixPending } }

theorem exec_msixVectorUnmask_open {s : State} {fn : Fin 64} {vec : Fin 72} (hopen : s.ioOpen = true) (hvec : fn.val = 0 ∨ vec.val < 4) :
    exec (.msixVectorUnmask fn vec) s =
      .next (if NSet.has (vecKey fn vec) s.cxl.msixPending then (s.unmasked (vecKey fn vec)).toHost fn (.msix fn vec) else s.unmasked (vecKey fn vec)) := by
  have hgate : (!s.ioOpen || decide (fn.val ≠ 0 ∧ 4 ≤ vec.val)) = false := by
    rw [hopen, Bool.not_true, Bool.false_or]
    exact decide_eq_false (by omega)
  change execMsixVectorUnmask fn vec s = _
  rw [execMsixVectorUnmask, hgate]
  rfl

theorem State.ideSecure_setIde (s : State) (k : Fin 4) (b : Bool) : (s.setIde k b).ideSecure k = b := by
  have hfld : (s.setIde k b).fld 0 ⟨F.CXL_IDE_STATUS_CM_SECURE.off, k, 1⟩ = if b then 1 else 0 := by
    have hword : (⟨F.CXL_IDE_STATUS_CM_SECURE.off, k, 1⟩ : Fld).inWord = true := (inWord_iff _).mpr ⟨by dsimp only; omega, show F.CXL_IDE_STATUS_CM_SECURE.off < regSpan by decide⟩
    rw [State.setIde, State.setFlag, State.fld_setFld_same _ _ _ _ hword]
    cases b <;> rfl
  have hbit : (s.setIde k b).ideSecure k = decide ((s.setIde k b).fld 0 ⟨F.CXL_IDE_STATUS_CM_SECURE.off, k, 1⟩ % 2 = 1) := by
    unfold State.ideSecure State.fld fieldOf
    rw [Nat.testBit_eq_decide_div_mod_eq]
    simp
  rw [hbit, hfld]
  cases b <;> rfl

theorem exec_ideFailure_secure {s : State} {k : Fin 4} (h : s.ideSecure k = true) (harm : s.flag 174 F.FLT_INJSTAT_ARMED = false) :
    let u := ((s.setIde k false).incSat 0 F.CXL_IDE_STATUS_FAILS 1).detect 174 atelier ukNone 0 0 0 sevService false
    exec (.ideFailure k) s = .next { u with cxl := { u.cxl with stopped := u.cxl.stopped || decide (k.val = 0) } } := by
  intro u
  change execIdeFailure k s = _
  rw [execIdeFailure, if_pos h, inj_off _ _ _ harm]
  rfl

theorem exec_ideRequire_open {s : State} {req : Requester} (ho : s.barOpen req F.CXL_IDE_POLICY_REQUIRE.off = true) :
    exec (.ideRequire req) s = .next (if req.manages = true then s.setFlag 0 F.CXL_IDE_POLICY_REQUIRE true else s) := by
  change execIdeRequire req s = _
  rw [execIdeRequire, access_open _ ho]

/-- Settles O28: each command by its rule above. -/
theorem hostMemoryRequestsAndInterrupts : Obligations.HostMemoryRequestsAndInterrupts := by
  intro s e
  refine ⟨fun hup => ⟨fun off bs ecc hoff hline hshut hin hfrozen hseq => ?write, fun off n hoff hline hshut hin hpoison hseq harm => ?read, fun off acc ecc hoff hline hshut => ?shut⟩,
    fun hup off acc ecc => exec_cxlMemRequest_down hup ecc, fun vec hdue hopen => ⟨_, exec_msiModerationTimer_due hdue hopen, SMap.get_set_same .., SMap.get_set_same .., rfl⟩,
    fun vec hopen hvec => ⟨_, exec_msixVectorUnmask_open hopen hvec, ?unmask⟩, fun k hsec harm => ⟨exec_ideFailure_secure hsec harm, s.ideSecure_setIde k false⟩,
    fun req ho => exec_ideRequire_open ho⟩
  case write =>
    have htaken := exec_cxlMemRequest_taken (acc := .write bs) hup hoff hline
    obtain ⟨hbytes, hrest⟩ := State.bondStore_bytes hin (t := ((s.bondStore e off bs).st.countUnits e F.CXL_EAS_MEM_WR_UNITS 65536 bs.length).emit (.memResp e 0 [])) rfl
    exact ⟨_, exec_cxlMemRequest_write ecc htaken hshut hin hfrozen hseq, congrArg (· ++ [Output.memResp e 0 []]) (store_mem s e off bs hin).2.1, hbytes, hrest⟩
  case read =>
    have htaken := exec_cxlMemRequest_taken (acc := .read n) hup hoff hline
    obtain ⟨-, -, -, hmem, hout, -⟩ := load_clean s e off n stPoison hin hpoison hseq harm
    exact ⟨_, exec_cxlMemRequest_read htaken hshut hin hpoison hseq harm, congrArg (· ++ [Output.memResp e 0 _]) hout, hmem⟩
  case shut =>
    refine ⟨_, exec_cxlMemRequest_shut ecc (exec_cxlMemRequest_taken hup hoff hline) hshut, (deliver_mp _ _).1.trans (s.memRefuse_mem e _), ?_⟩
    rw [State.usageFault_out]
    cases acc with
    | read n => rw [cxlReads, (s.memRefuse_answers e).1]; exact List.mem_concat_self
    | write bs => rw [cxlReads, (s.memRefuse_answers e).2]; exact List.mem_concat_self
  case unmask =>
    cases hpend : NSet.has (vecKey e vec) s.cxl.msixPending with
    | true => exact ⟨NSet.has_add_self _ _, NSet.has_remove_self _ _, SMap.get_set_same .., rfl⟩
    | false => exact ⟨NSet.has_add_self _ _, NSet.has_remove_self _ _, rfl, rfl⟩

end Sys2Proof.Machine

/-! SUPPORT. Power states (19 R526 to R531): one rule for each entry and exit, and the statement about them. -/
namespace Sys2Proof.Machine

open Sys2Proof Sys2Proof.Laws

/-! ### Entries (R526, R529, R531) -/

section Tcore

variable {s : State} {core : Fin 48} (hidle : s.tcIdle core = true)
include hidle

theorem exec_tcClockGate_enters (hq : s.qRuns = true) (hheld : s.tcHeld core = false) (hawake : s.tcPower core = 0) (hbudget : exitGate ≤ s.leastBudget (s.tcEasels core)) :
    exec (.tcClockGate core) s = .next (s.setTcPower core 1) :=
  congrArg Host.Outcome.next (if_pos (by rw [hq, hheld, hidle, decide_eq_true ⟨hawake, hbudget⟩]; rfl))

theorem exec_tcPowerGate_enters (hgated : s.tcPower core = 1) (hbudget : exitPower ≤ s.leastBudget (s.tcEasels core)) (hwake : NSet.has core s.pow.waking = false) :
    exec (.tcPowerGate core) s = .next ((s.setTcore core 0 { s.tcore core with warm := [] }).setTcPower core 2) :=
  congrArg Host.Outcome.next (if_pos (by rw [hidle, decide_eq_true ⟨hgated, hbudget⟩, hwake]; rfl))

omit hidle in
/-- A budget below the exit time of clock gating keeps the T-core awake, for power gating takes longer still. -/
theorem exec_tcGates_stay (hbudget : s.leastBudget (s.tcEasels core) < exitGate) : exec (.tcClockGate core) s = .next s ∧ exec (.tcPowerGate core) s = .next s := by
  have hgate : decide (s.tcPower core = 0 ∧ exitGate ≤ s.leastBudget (s.tcEasels core)) = false := decide_eq_false fun h => absurd h.2 (Nat.not_le.mpr hbudget)
  have hpower : decide (s.tcPower core = 1 ∧ exitPower ≤ s.leastBudget (s.tcEasels core)) = false :=
    decide_eq_false fun h => absurd h.2 (Nat.not_le.mpr (hbudget.trans (by decide)))
  exact ⟨congrArg Host.Outcome.next (if_neg (by rw [hgate, Bool.and_false]; exact Bool.false_ne_true)),
    congrArg Host.Outcome.next (if_neg (by rw [hpower, Bool.and_false, Bool.false_and]; exact Bool.false_ne_true))⟩

end Tcore

/-- Every page of a stack is closed. -/
def State.pagesClosed (s : State) (k : Nat) : State := { s with bond := { s.bond with openRow := SMap.keep (fun j => decide (j / 1536 ≠ k)) s.bond.openRow } }

/-- A stack refreshes itself. -/
def State.selfRefresh (s : State) (k : Nat) : State := ((s.pagesClosed k).orFld 0 F.PWR_STK_SR_SR (2 ^ k)).setFld k F.MEM_STK_STATUS_STATE 4

theorem exec_stackSelfRefreshEntry_enters {s : State} {k : Fin 18} (hready : s.fld k F.MEM_STK_STATUS_STATE = 3) (hbudget : exitRefresh ≤ s.leastBudget (s.stackEasels k)) :
    exec (.stackSelfRefreshEntry k) s = .next (s.selfRefresh k) := congrArg Host.Outcome.next (if_pos (decide_eq_true ⟨hready, hbudget⟩))

theorem State.selfRefresh_state (s : State) (k : Nat) : (s.selfRefresh k).fld k F.MEM_STK_STATUS_STATE = 4 := State.fld_setFld_same _ _ _ _ (by decide)

theorem State.selfRefresh_sr (s : State) (k : Fin 18) : ((s.selfRefresh k).fld 0 F.PWR_STK_SR_SR).testBit k = true := by
  have hbit : 2 ^ k.val < 2 ^ F.PWR_STK_SR_SR.width := Nat.pow_lt_pow_right (by decide) k.isLt
  rw [State.selfRefresh, State.fld_setFld_apart _ _ _ _ _ _ (by decide) (by decide) (by decide), State.fld_orFld_same _ _ _ _ (by decide) hbit, Nat.testBit_or, Nat.testBit_two_pow_self, Bool.or_true]

theorem State.selfRefresh_pages (s : State) (k : Nat) {j : Nat} (hj : j / 1536 = k) : SMap.get (fun _ => 0) (s.selfRefresh k).bond.openRow j = 0 :=
  (get_keep (fun _ => 0) (fun j => decide (j / 1536 ≠ k)) s.bond.openRow j).trans (if_neg fun h => absurd hj (of_decide_eq_true h))

theorem exec_laneSleep_enters {s : State} {l : Fin 16} (hdirect : s.fld 0 (F.YZF_LINK_STATUS_MODE l) = 1) (hbudget : exitLane ≤ s.leastBudget (s.linkEasels l))
    (hup : s.flag 0 (F.YZF_LINK_STATUS_UP l) = true) (hbusy : s.linkBusy l = false) : exec (.laneSleep l) s = .next (s.orFld 0 F.PWR_LINK_SLEEP_SLEEP (2 ^ l.val)) :=
  congrArg Host.Outcome.next (if_pos (by rw [decide_eq_true ⟨hdirect, hbudget⟩, hup, hbusy]; rfl))

/-! ### Exits (R530) -/

section Asleep

variable {s : State} {res : PowRes} (hasleep : s.asleep (resNum res) = true)
include hasleep

/-- A peer's packet wakes links alone. -/
theorem exec_powerWake_starts {peer : Bool} (h : peer = false ∨ 128 ≤ resNum res) :
    exec (.powerWake res peer) s = .next { s with pow := { s.pow with waking := NSet.add (resNum res) s.pow.waking } } := by
  have hstarts : ¬(peer && decide (resNum res < 128)) = true := by
    rcases h with rfl | h
    · exact Bool.false_ne_true
    · rw [decide_eq_false (Nat.not_lt.mpr h), Bool.and_false]; exact Bool.false_ne_true
  exact (congrArg Host.Outcome.next (if_neg hstarts)).trans (congrArg Host.Outcome.next (if_pos hasleep))

theorem exec_wakeExitDone_waking (hwaking : NSet.has (resNum res) s.pow.waking = true) : exec (.wakeExitDone res) s = .next (s.endWake (resNum res)) :=
  congrArg Host.Outcome.next (if_pos (by rw [hwaking, hasleep]; rfl))

end Asleep

/-- The end of a stack's exit. -/
theorem State.endWake_stack (s : State) (k : Fin 18) :
    s.endWake (64 + k) =
      let t := (s.clrFld 0 F.PWR_STK_SR_SR (2 ^ k.val)).setFld k F.MEM_STK_STATUS_STATE 3
      { t.incWrap 0 F.PWR_WAKES_COUNT 1 with pow := { t.pow with waking := NSet.remove (64 + k) t.pow.waking } } := by
  unfold State.endWake
  rw [if_neg (show ¬64 + k.val < 64 by omega), if_pos (show 64 + k.val < 128 by omega), Nat.add_sub_cancel_left]

theorem State.endWake_stack_ready (s : State) (k : Fin 18) : (s.endWake (64 + k)).fld k F.MEM_STK_STATUS_STATE = 3 := by
  rw [s.endWake_stack]
  refine (State.fld_upd ..).trans ((fld_incWrap_apart _ _ _ _ _ _ (by decide) (by decide) (by decide)).trans (State.fld_setFld_same _ _ _ _ (by decide)))

theorem State.endWake_stack_counts (s : State) (k : Fin 18) : (s.endWake (64 + k)).fld 0 F.PWR_WAKES_COUNT = (s.fld 0 F.PWR_WAKES_COUNT + 1) % 2 ^ F.PWR_WAKES_COUNT.width := by
  rw [s.endWake_stack]
  refine (State.fld_upd ..).trans ((fld_incWrap_same _ _ _ _ (by decide)).trans ?_)
  rw [State.fld_setFld_apart _ _ _ _ _ _ (by decide) (by decide) (by decide), fld_clrFld_apart _ _ _ _ _ _ (by decide) (by decide) (by decide)]

theorem State.endWake_stack_wakes (s : State) (k : Fin 18) : NSet.has (64 + k.val) (s.endWake (64 + k)).pow.waking = false ∧ (s.endWake (64 + k)).mem = s.mem := by
  rw [s.endWake_stack]
  exact ⟨NSet.has_remove_self _ _, rfl⟩

/-- A budget is written by the easel's owner, or by management for a tenant (R527). -/
theorem exec_wakeBudgetWrite_writes {s : State} {req : Requester} {e : Nat} (us : BitVec 16) (ho : s.barOpen req F.PWR_EAS_WAKE_US.off = true) (hd : s.unitAt req F.PWR_EAS_WAKE_US.off = e)
    (he : e ≠ 0) (hwho : req.manages = true ∨ ownsEas req e = true) : exec (.wakeBudgetWrite req us) s = .next ((s.setFld e F.PWR_EAS_WAKE_US us.toNat).wakeOver) := by
  change execWakeBudgetWrite req us s = _
  rw [execWakeBudgetWrite, access_at _ ho hd]
  exact congrArg Host.Outcome.next (if_pos (by rw [decide_eq_true he, Bool.true_and, Bool.or_eq_true]; exact hwho))

/-- Settles O21: each command by its rule above. -/
theorem powerStatesAreEnteredAndLeft : Obligations.PowerStatesAreEnteredAndLeft := by
  intro s
  refine ⟨fun core hidle => ⟨exec_tcClockGate_enters hidle, exec_tcPowerGate_enters hidle, exec_tcGates_stay⟩,
    fun k hready hbudget => ⟨_, exec_stackSelfRefreshEntry_enters hready hbudget, s.selfRefresh_state k, s.selfRefresh_sr k, fun j hj => s.selfRefresh_pages k hj, rfl, rfl⟩,
    fun l hdirect hbudget hup hbusy => exec_laneSleep_enters hdirect hbudget hup hbusy, fun res peer hasleep => ⟨exec_powerWake_starts hasleep, exec_wakeExitDone_waking hasleep⟩,
    fun k hasleep hwaking => ⟨_, exec_wakeExitDone_waking (res := .stack k) hasleep hwaking, s.endWake_stack_ready k, (s.endWake_stack_wakes k).1, s.endWake_stack_counts k, (s.endWake_stack_wakes k).2⟩,
    fun req e us ho hd he hwho => exec_wakeBudgetWrite_writes us ho hd he hwho⟩

end Sys2Proof.Machine

/-! SUPPORT. PTP and ESMC messages (16 R470 to R476): one rule for each message that is taken or sent, and the statement about them. -/
namespace Sys2Proof.Machine

open Sys2Proof Sys2Proof.Laws

/-! ### The port's record, its queue and its counts -/

theorem State.ptpSub_setPtpSub (s : State) (sub : Nat) (v : PtpSub) : (s.setPtpSub sub v).ptpSub sub = v := SMap.get_set_same ..

theorem State.tbFrames_tbQueue (s : State) (sub : Nat) (f : TbFrame) : (s.tbQueue sub f).tbFrames sub = s.tbFrames sub ++ [f] := SMap.get_set_same ..

theorem rxCount_inWord (sub : Fin 32) : (F.PTP_SUB_RX_COUNT (sub % 4)).inWord = true :=
  (inWord_iff _).mpr ⟨show 0 + 32 ≤ 32 by decide, show 0x300118 + sub.val % 4 * 32 < regSpan by unfold regSpan; omega⟩

theorem mpd_inWord (sub : Fin 32) : (F.PTP_SUB_MPD_PS (sub % 4)).inWord = true :=
  (inWord_iff _).mpr ⟨show 0 + 32 ≤ 32 by decide, show 0x300110 + sub.val % 4 * 32 < regSpan by unfold regSpan; omega⟩

theorem State.fld_ptpCount (s : State) (sub : Fin 32) :
    (s.ptpCount sub).fld (sub / 4) (F.PTP_SUB_RX_COUNT (sub % 4)) = (s.fld (sub / 4) (F.PTP_SUB_RX_COUNT (sub % 4)) + 1) % 2 ^ (F.PTP_SUB_RX_COUNT (sub % 4)).width :=
  fld_incWrap_same _ _ _ _ (rxCount_inWord sub)

theorem asU32_lt (x : Int) : asU32 x < 2 ^ 32 := by unfold asU32; omega

/-- A port whose request has been answered. -/
def State.answered (s : State) (sub : Nat) : State := s.setPtpSub sub { s.ptpSub sub with reqTx := none }

/-! ### Messages taken (R470 to R475) -/

/-- Without PTP on a subport its messages are nothing. -/
theorem exec_ptpRx_off {s : State} {sub : Fin 32} (h : s.ptpOn sub = false) (d : List Nat) (stamp : Nat) :
    exec (.ptpSyncRx sub d stamp) s = .next s ∧ exec (.ptpFollowUpRx sub d) s = .next s ∧ exec (.ptpDelayReqRx sub d stamp) s = .next s ∧
      exec (.ptpDelayRespRx sub d) s = .next s ∧ exec (.ptpAnnounceRx sub d) s = .next s := by
  have hoff : ¬s.ptpOn sub = true := by rw [h]; exact Bool.false_ne_true
  exact ⟨if_neg hoff, if_neg hoff, if_neg hoff, if_neg hoff, if_neg hoff⟩

section Taken

variable {s : State} {sub : Fin 32} {d : List Nat} (hon : s.ptpOn sub = true) (hrel : s.relayed d = false) (hdom : s.ownDomain d = true)
include hon hrel hdom

/-- A one-step Sync at a slave port shows its origin itself. -/
theorem exec_ptpSyncRx_oneStep (stamp : Nat) (hslave : s.portSt sub = 9) (hone : mTwoStep d = false) :
    exec (.ptpSyncRx sub d stamp) s = .next ((s.ptpCount sub).setPtpSub sub { s.ptpSub sub with
      syncSeq := mSeq d, syncRx := s.tRx sub stamp - mCorr d, syncOrg := some (mStamp d), fwd := some (s.tRx sub stamp - mCorr d - mStamp d) }) := by
  change execPtpSyncRx sub d stamp s = _
  rw [execPtpSyncRx, if_pos hon, hrel, hdom, hslave, hone]
  rfl

theorem exec_ptpFollowUpRx_completes (hslave : s.portSt sub = 9) (hseq : (s.ptpSub sub).syncSeq = mSeq d) (horg : (s.ptpSub sub).syncOrg = none) :
    exec (.ptpFollowUpRx sub d) s = .next (s.setPtpSub sub { s.ptpSub sub with
      syncOrg := some (mStamp d + mCorr d), fwd := some ((s.ptpSub sub).syncRx - (mStamp d + mCorr d)) }) := by
  change execPtpFollowUpRx sub d s = _
  rw [execPtpFollowUpRx, if_pos hon, hrel]
  exact (if_neg Bool.false_ne_true).trans (if_pos (by rw [hdom, decide_eq_true ⟨hslave, hseq⟩, horg]; rfl))

/-- A Delay_Resp to the port's own request completes a pair. -/
theorem exec_ptpDelayRespRx_pairs {tx fwd : Int} (hslave : s.portSt sub = 9) (hseq : (s.ptpSub sub).reqSeq = mSeq d) (hreq : mRequester d = s.portId sub)
    (htx : (s.ptpSub sub).reqTx = some tx) (hfwd : (s.ptpSub sub).fwd = some fwd) :
    exec (.ptpDelayRespRx sub d) s = .next ((s.answered sub).ptpPair sub fwd (mStamp d - mCorr d - tx)) := by
  change execPtpDelayRespRx sub d s = _
  rw [execPtpDelayRespRx, if_pos hon, hrel]
  refine (if_neg Bool.false_ne_true).trans ((if_pos (by rw [hdom, decide_eq_true ⟨hslave, hseq, hreq⟩]; rfl)).trans ?_)
  split
  next x y hx hy =>
    cases htx.symm.trans hx
    cases hfwd.symm.trans hy
    rfl
  next hnone => exact (hnone tx fwd htx hfwd).elim

/-- A master port answers by a launch of the time block's own choosing. -/
theorem exec_ptpDelayReqRx_answers (stamp : Nat) (hmaster : s.portSt sub = 6) :
    exec (.ptpDelayReqRx sub d stamp) s = .next ((s.ptpCount sub).ownLaunch.2.tbQueue sub ⟨(s.ptpCount sub).ownLaunch.1,
      (s.ptpCount sub).ownLaunch.2.ptpFrame sub 9 (mSeq d) 0xFC (mCorr d - s.tRx sub stamp % 65536) (stampBytes (s.tRx sub stamp / 65536).toNat ++ mSource d), none⟩) := by
  change execPtpDelayReqRx sub d stamp s = _
  rw [execPtpDelayReqRx, if_pos hon, hrel, hdom, hmaster]
  rfl

theorem exec_ptpAnnounceRx_selects : exec (.ptpAnnounceRx sub d) s = .next ((s.setPtpSub sub { s.ptpSub sub with announce := d }).showPorts.showAnnounce) := by
  change execPtpAnnounceRx sub d s = _
  rw [execPtpAnnounceRx, if_pos hon, hrel, hdom]
  rfl

end Taken

/-- What a completed pair leaves where the clock does not follow PTP. -/
theorem State.ptpPair_unfollowed {s : State} (sub : Nat) (fwd back : Int) (hsource : s.fld 0 F.TOD_CFG_SOURCE ≠ 1) :
    s.ptpPair sub fwd back =
      let u := s.setFld (sub / 4) (F.PTP_SUB_MPD_PS (sub % 4)) (asU32 ((fwd + back) / 2 * 1000 / 65536))
      u.setPtpSub sub { u.ptpSub sub with pairAt := some s.nowNs } := if_neg hsource

theorem State.ptpPair_mpd {s : State} (sub : Fin 32) (fwd back : Int) (hsource : s.fld 0 F.TOD_CFG_SOURCE ≠ 1) :
    (s.ptpPair sub fwd back).fld (sub / 4) (F.PTP_SUB_MPD_PS (sub % 4)) = asU32 ((fwd + back) / 2 * 1000 / 65536) := by
  rw [State.ptpPair_unfollowed sub fwd back hsource]
  exact (State.fld_setFld_same s _ _ _ (mpd_inWord sub)).trans (Nat.mod_eq_of_lt (asU32_lt _))

theorem State.ptpPair_sub {s : State} (sub : Nat) (fwd back : Int) (hsource : s.fld 0 F.TOD_CFG_SOURCE ≠ 1) :
    (s.ptpPair sub fwd back).ptpSub sub = { s.ptpSub sub with pairAt := some s.nowNs } := by
  rw [State.ptpPair_unfollowed sub fwd back hsource]
  exact State.ptpSub_setPtpSub _ _ _

theorem State.ownLaunch_late (s : State) : s.nowNs + 1000 < s.ownLaunch.1 := by
  show s.nowNs + 1000 < s.nowNs + 1001 + Config.relayLead s.draw.1
  omega

/-! ### Messages sent (R473, R474, R476) -/

section Sent

variable {s : State} {sub : Fin 32} {launch : Nat}

/-- A launch time less than 1 µs off is refused. -/
theorem exec_ptpTx_soon (h : launch < s.nowNs + 1000) (event : Bool) : exec (.ptpSyncTx sub launch) s = .next s ∧ exec (.ptpDelayReqTx sub launch) s = .next s ∧
    exec (.ptpAnnounceTx sub launch) s = .next s ∧ exec (.esmcInfoTx sub launch event) s = .next s := by
  have hgate : ∀ b : Bool, ¬(b && s.launchOk launch) = true := fun b => by rw [State.launchOk, decide_eq_false (Nat.not_le.mpr h), Bool.and_false]; exact Bool.false_ne_true
  exact ⟨if_neg (hgate _), if_neg (hgate _), if_neg (hgate _), if_neg (hgate _)⟩

variable (hlaunch : s.nowNs + 1000 ≤ launch)
include hlaunch

theorem exec_esmcInfoTx_queues (hex : s.subExists sub = true) (hen : s.flag (sub / 4) (F.PTP_SUB_CFG_SYNCE_EN (sub % 4)) = true) (event : Bool) :
    exec (.esmcInfoTx sub launch event) s = .next (s.tbQueue sub ⟨launch, padTo 60 ([0x01, 0x80, 0xC2, 0, 0, 0x02] ++ s.subMac sub ++ [0x88, 0x09, 0x0A] ++
      Config.esmcPdu event (s.fld 0 F.PTP_SYNCE_STATE_SSM)), none⟩) := if_pos (by rw [hex, hen, State.launchOk, decide_eq_true hlaunch]; rfl)

variable (hon : s.ptpOn sub = true)
include hon

theorem exec_ptpSyncTx_queues (hmaster : s.portSt sub = 6) : exec (.ptpSyncTx sub launch) s =
    .next ((s.setPtpSub sub { s.ptpSub sub with txSeq := ((s.ptpSub sub).txSeq + 1) % 65536 }).eventTx sub launch 0 (s.ptpSub sub).txSeq 0xFC) :=
  if_pos (by rw [hon, hmaster, State.launchOk, decide_eq_true hlaunch]; rfl)

theorem exec_ptpDelayReqTx_queues (hslave : s.portSt sub = 9) : exec (.ptpDelayReqTx sub launch) s =
    .next ((s.setPtpSub sub { s.ptpSub sub with rqSeq := ((s.ptpSub sub).rqSeq + 1) % 65536 }).eventTx sub launch 1 (s.ptpSub sub).rqSeq 0x7F) :=
  if_pos (by rw [hon, hslave, State.launchOk, decide_eq_true hlaunch]; rfl)

theorem exec_ptpAnnounceTx_queues (hmaster : s.portSt sub = 6) : exec (.ptpAnnounceTx sub launch) s =
    .next ((s.setPtpSub sub { s.ptpSub sub with anSeq := ((s.ptpSub sub).anSeq + 1) % 65536 }).showAnnounce.tbQueue sub
      ⟨launch, s.ptpFrame sub 0xB (s.ptpSub sub).anSeq 0xFD 0 (Config.announce s.todSt s.parentAnnounce).2.2.2, none⟩) :=
  if_pos (by rw [hon, hmaster, State.launchOk, decide_eq_true hlaunch]; rfl)

end Sent

/-- An event message carries its launch time at the reference plane; the port's own record has no part in the frame. -/
theorem State.tbFrames_eventTx (s : State) (sub launch type seq interval : Nat) (v : PtpSub) :
    ((s.setPtpSub sub v).eventTx sub launch type seq interval).tbFrames sub = s.tbFrames sub ++
      [⟨launch, s.ptpFrame sub type seq interval 0 (stampBytes ((1000 * launch + s.txConst sub) / 1000)), some (((1000 * launch + s.txConst sub) / 1000 : Nat) : Int)⟩] :=
  State.tbFrames_tbQueue _ _ _

theorem State.showSync_rest (s : State) : s.showSync.time = s.time ∧ s.showSync.eth = s.eth := by
  unfold State.showSync
  split <;> exact ⟨rfl, rfl⟩

/-- Settles O26: each message by its rule above. -/
theorem ptpMessagesAreTakenAndSent : Obligations.PtpMessagesAreTakenAndSent := by
  intro s sub d
  refine ⟨fun hon hrel hdom => ⟨fun stamp hslave hone => ⟨_, exec_ptpSyncRx_oneStep hon hrel hdom stamp hslave hone, s.fld_ptpCount sub, ?fwd, rfl, rfl⟩,
      fun hslave hseq horg => ⟨_, exec_ptpFollowUpRx_completes hon hrel hdom hslave hseq horg, ?follow, rfl, rfl⟩,
      fun tx fwd hslave hseq hreq htx hfwd hsource => ⟨_, exec_ptpDelayRespRx_pairs hon hrel hdom hslave hseq hreq htx hfwd, State.ptpPair_mpd (s := s.answered sub) sub _ _ hsource, ?paired, ?asked⟩,
      fun stamp hmaster => ⟨_, _, exec_ptpDelayReqRx_answers hon hrel hdom stamp hmaster, State.tbFrames_tbQueue _ _ _, (s.ptpCount sub).ownLaunch_late, s.fld_ptpCount sub⟩,
      exec_ptpAnnounceRx_selects hon hrel hdom⟩,
    fun hoff stamp => exec_ptpRx_off hoff d stamp,
    fun launch hlaunch => ⟨fun hon hmaster => ⟨_, exec_ptpSyncTx_queues hlaunch hon hmaster, ?txSeq, State.tbFrames_eventTx _ _ _ _ _ _ _, rfl⟩,
      fun hon hslave => ⟨_, exec_ptpDelayReqTx_queues hlaunch hon hslave, ?rqSeq, State.tbFrames_eventTx _ _ _ _ _ _ _, rfl⟩,
      fun hon hmaster => ⟨_, _, exec_ptpAnnounceTx_queues hlaunch hon hmaster, ?anSeq, State.tbFrames_tbQueue _ _ _⟩,
      fun hex hen event => ⟨_, _, exec_esmcInfoTx_queues hlaunch hex hen event, State.tbFrames_tbQueue _ _ _, rfl, rfl⟩⟩,
    fun launch hsoon event => exec_ptpTx_soon hsoon event, fun hex => ⟨_, congrArg Host.Outcome.next (if_pos hex), ?ql, (State.showSync_rest _).2⟩⟩
  case fwd => rw [State.ptpSub_setPtpSub]
  case follow => rw [State.ptpSub_setPtpSub]
  case paired => rw [State.ptpPair_sub (s := s.answered sub) _ _ _ hsource]; rfl
  case asked => rw [State.ptpPair_sub (s := s.answered sub) _ _ _ hsource, State.answered, State.ptpSub_setPtpSub]
  case txSeq => exact congrArg PtpSub.txSeq (State.ptpSub_setPtpSub s sub _)
  case rqSeq => exact congrArg PtpSub.rqSeq (State.ptpSub_setPtpSub s sub _)
  case anSeq => exact congrArg PtpSub.anSeq (State.ptpSub_setPtpSub s sub _)
  case ql =>
    unfold State.ptpSub
    rw [(State.showSync_rest _).1]
    exact congrArg PtpSub.ql (State.ptpSub_setPtpSub s sub _)

end Sys2Proof.Machine

/-! SUPPORT. Ethernet frames received, transmit records checked, and links (14 R420, R421, R425, R426, R430, R431, R437; 18 R516): one rule for each, and the statement about them. -/
namespace Sys2Proof.Machine

open Sys2Proof Sys2Proof.Laws

/-! ### Sorting a received frame (R425) -/

/-- What a subport leaves of a frame once it is sorted. -/
def State.rxSorted (s : State) (sub stamp : Nat) (bytes : List Nat) : RxAct → State
  | .badFrame => s.incSat (sub / 4) (F.ETH_SUB_ERR_FCS (sub % 4)) 1
  | .control => s.incSat (sub / 4) (F.ETH_SUB_CTRL_CTRL (sub % 4)) 1
  | .ecpriOther => s.incSat (sub / 4) (F.ETH_SUB_CTRL_ECPRI_OTHER (sub % 4)) 1
  | .noFlow => s.incSat (sub / 4) (F.ETH_SUB_ERR_NOFLOW (sub % 4)) 1
  | .block => s
  | .flows fs b => forEach fs (fun f (t : State) => t.rxFlow sub stamp b bytes f) s

/-- The codewords of a port are counted; without an uncorrectable one and with no injection armed that is all. -/
def State.fecCounted (s : State) (port ce : Nat) : State := (s.incSat port F.ETH_PORT_FEC_CE_COUNT ce).incSat port F.ETH_PORT_FEC_UE_COUNT 0

theorem State.fecCount_clean {s : State} {port : Nat} (ce : Nat) (harm : s.flag (165 + port) F.FLT_INJSTAT_ARMED = false) : s.fecCount port ce 0 = s.fecCounted port ce := by
  rw [State.fecCount, inj_off _ _ _ harm]
  rfl

section Received

variable {s : State} {sub : Fin 32} {bytes : List Nat} {stamp ce : Nat}

theorem exec_ethFrameRx_away (fcs : Bool) (ue : Nat) (h : s.subExists sub = false ∨ s.subUp sub = false) : exec (.ethFrameRx sub bytes fcs stamp ce ue) s = .next s :=
  if_pos (by
    rcases h with h | h
    · rw [h]; rfl
    · rw [h]; exact Bool.or_true _)

variable (hex : s.subExists sub = true) (hup : s.subUp sub = true) (harm : s.flag (165 + sub.val / 4) F.FLT_INJSTAT_ARMED = false)
include hex hup harm

/-- A frame whose FCS holds is counted before it is sorted. -/
theorem exec_ethFrameRx_sorted (fcs : Bool) : exec (.ethFrameRx sub bytes fcs stamp ce 0) s =
    let u := s.fecCounted (sub.val / 4) ce
    let v := if fcs then u.incWrap (sub.val / 4) (F.ETH_SUB_RX_COUNT (sub.val % 4)) 1 else u
    .next (v.rxSorted sub stamp bytes (v.rxClassify sub bytes fcs)) := by
  change execEthFrameRx sub bytes fcs stamp ce 0 s = _
  rw [execEthFrameRx, hex, hup, State.fecCount_clean ce harm]
  dsimp only
  generalize (if fcs = true then (s.fecCounted (sub.val / 4) ce).incWrap (sub.val / 4) (F.ETH_SUB_RX_COUNT (sub.val % 4)) 1 else s.fecCounted (sub.val / 4) ce) = v
  cases v.rxClassify sub bytes fcs <;> rfl

end Received

section Classify

variable {s : State} {sub : Nat} {d : List Nat}

theorem State.rxClassify_badLength (h : d.length + 4 < 64 ∨ s.fld (sub / 4) F.ETH_PORT_CFG_MAX_FRAME < d.length + 4) : s.rxClassify sub d true = .badFrame :=
  if_pos (by
    rcases h with h | h
    · rw [decide_eq_true h]; rfl
    · rw [decide_eq_true h]; exact Bool.or_true _)

variable (hmin : 64 ≤ d.length + 4) (hmax : d.length + 4 ≤ s.fld (sub / 4) F.ETH_PORT_CFG_MAX_FRAME)
include hmin hmax

/-- A frame of a good length passes the first test. -/
theorem rxLength_good : ¬(!true || decide (d.length + 4 < 64) || decide (s.fld (sub / 4) F.ETH_PORT_CFG_MAX_FRAME < d.length + 4)) = true := by
  rw [decide_eq_false (Nat.not_lt.mpr hmin), decide_eq_false (Nat.not_lt.mpr hmax)]
  exact Bool.false_ne_true

theorem State.rxClassify_control (h : etherOf d = 0x8808) : s.rxClassify sub d true = .control :=
  (if_neg (rxLength_good hmin hmax)).trans (if_pos (.inr (.inr h)))

/-- A frame of an ordinary EtherType with one tag at most goes by VLAN and destination. -/
theorem State.rxClassify_ordinary (hty : etherOf d ∉ [0x8808, 0x88F7, 0x8809, 0xAEFE, s.fld 0 F.YZF_CFG_ETYPE]) (hstag : beAt d 12 2 ≠ 0x88A8)
    (hdouble : tagged d = true → beAt d 16 2 ≠ 0x8100) (hbcast : d.take 6 ≠ List.replicate 6 0xFF) :
    s.rxClassify sub d true = rxTo (s.rxFlows sub (fun f => decide (s.flowKind f = 3 ∧ s.fld f F.FLW_KEY_VID = vidOf d ∧ s.flowMac f = d.take 6))) false := by
  simp only [List.mem_cons, List.not_mem_nil, or_false, not_or] at hty
  obtain ⟨hctrl, hptp, hslow, hecpri, hyzf⟩ := hty
  have hone : ¬(beAt d 12 2 = 0x88A8 ∨ (tagged d = true ∧ beAt d 16 2 = 0x8100) ∨ etherOf d = 0x8808) := by
    rintro (h | ⟨htag, h⟩ | h)
    · exact hstag h
    · exact hdouble htag h
    · exact hctrl h
  unfold State.rxClassify
  dsimp only
  rw [if_neg (rxLength_good hmin hmax), if_neg hone, if_neg fun h => hyzf h.1, if_neg fun h => hptp h.1, if_neg hslow, if_neg fun h => hecpri h.1, if_neg hbcast]

end Classify

theorem rxCount_apart_maxFrame (i : Nat) : F.ETH_PORT_CFG_MAX_FRAME.apart (F.ETH_SUB_RX_COUNT i) = true := (apart_iff _ _).mpr (.inl (show 0x280100 ≠ 0x280140 + i * 16 by omega))

theorem rxCount_apart_etype (i : Fin 4) : F.YZF_CFG_ETYPE.apart (F.ETH_SUB_RX_COUNT i) = true :=
  (apart_iff _ _).mpr (.inl (show 0x240004 ≠ 0x280140 + i.val * 16 by omega))

theorem subRxCount_inWord {i : Nat} (h : i < 4) : (F.ETH_SUB_RX_COUNT i).inWord = true :=
  (inWord_iff _).mpr ⟨show 0 + 32 ≤ 32 by decide, show 0x280140 + i * 16 < regSpan by unfold regSpan; omega⟩

/-- A good frame's counts leave the longest frame and the EtherType of Yaroz. -/
theorem State.fld_goodFrame (s : State) (p ce u : Nat) {i : Nat} (hi : i < 4) :
    ((s.fecCounted p ce).incWrap p (F.ETH_SUB_RX_COUNT i) 1).fld u F.ETH_PORT_CFG_MAX_FRAME = s.fld u F.ETH_PORT_CFG_MAX_FRAME ∧
      ((s.fecCounted p ce).incWrap p (F.ETH_SUB_RX_COUNT i) 1).fld u F.YZF_CFG_ETYPE = s.fld u F.YZF_CFG_ETYPE := by
  refine ⟨?_, ?_⟩
  · rw [fld_incWrap_apart _ _ _ _ _ _ (subRxCount_inWord hi) (by decide) (rxCount_apart_maxFrame i), State.fecCounted, State.fld_incSat_apart _ _ _ _ _ _ (by decide) (by decide) (by decide),
      State.fld_incSat_apart _ _ _ _ _ _ (by decide) (by decide) (by decide)]
  · rw [fld_incWrap_apart _ _ _ _ _ _ (subRxCount_inWord hi) (by decide) (rxCount_apart_etype ⟨i, hi⟩), State.fecCounted, State.fld_incSat_apart _ _ _ _ _ _ (by decide) (by decide) (by decide),
      State.fld_incSat_apart _ _ _ _ _ _ (by decide) (by decide) (by decide)]

/-! ### A record is appended (R426; 18 R516) -/

theorem State.setPal_rest (s : State) (q : Nat) (v : PalQ) :
    (s.setPal q v).pal = SMap.set (fun _ => PalQ.empty) s.pal q v ∧ (s.setPal q v).mem = s.mem ∧ (s.setPal q v).out = s.out := by
  unfold State.setPal
  dsimp only
  split <;> exact ⟨rfl, rfl, rfl⟩

theorem State.palQ_setPal (s : State) (q r : Nat) (v : PalQ) : (s.setPal q v).palQ r = if r = q then v else s.palQ r := by
  rw [State.palQ, (s.setPal_rest q v).1, SMap.get_set]
  rfl

/-- A queue takes the bytes whole; the others stay. -/
theorem State.palAppend_takes {s : State} {q : Nat} {bs : List Nat} (hgrow : s.palCanGrow q { s.palQ q with bytes := (s.palQ q).bytes ++ bs }.held = true) :
    ∃ t, s.palAppend q bs = some t ∧ (t.palQ q).bytes = (s.palQ q).bytes ++ bs ∧ (∀ r, r ≠ q → t.palQ r = s.palQ r) ∧ t.mem = s.mem ∧ t.out = s.out :=
  ⟨_, if_pos hgrow, congrArg PalQ.bytes ((s.palQ_setPal q q _).trans (if_pos rfl)), fun r hr => (s.palQ_setPal q r _).trans (if_neg hr), (s.setPal_rest q _).2.1, (s.setPal_rest q _).2.2⟩

section Append

variable {s : State} {f : Nat}

/-- The easel of a flow takes no record. -/
def State.rxShut (s : State) (f : Nat) : Prop :=
  s.fld (s.flowEasel f) F.EAS_LIFE_STATE = lifeHeld ∨ s.fld (s.flowEasel f) F.EAS_LIFE_STATE = lifeClearing ∨ s.frozen (s.flowEasel f) = true

theorem State.rxAppend_shut {flags sub stamp : Nat} {d : List Nat} (h : s.rxShut f) : s.rxAppend f flags sub stamp d = s.incSat f F.FLW_RX_DROP_NOBUF 1 := if_pos h

theorem State.rxAppend_full {flags sub stamp : Nat} {d : List Nat} (h : s.palAppend (flowQ f) (rxRecord d flags sub (s.fld f F.FLW_FRAMES_COUNT) stamp) = none) :
    s.rxAppend f flags sub stamp d = s.incSat f F.FLW_RX_DROP_NOBUF 1 := by
  unfold State.rxAppend
  dsimp only
  rw [h, ite_self]

theorem State.rxAppend_takes {t : State} {flags sub stamp : Nat} {d : List Nat} (hopen : ¬s.rxShut f)
    (h : s.palAppend (flowQ f) (rxRecord d flags sub (s.fld f F.FLW_FRAMES_COUNT) stamp) = some t) : s.rxAppend f flags sub stamp d = t.incWrap f F.FLW_FRAMES_COUNT 1 :=
  (if_neg hopen).trans (by rw [h])

end Append

/-- The single flow found takes the frame as it is. -/
theorem State.rxSorted_single {s : State} {sub stamp f : Nat} {bytes : List Nat} {p : Nat → Bool} (hfs : s.rxFlows sub p = [f]) (hp : p f = true → s.flowKind f = 3) :
    s.rxSorted sub stamp bytes (rxTo (s.rxFlows sub p) false) = s.rxAppend f (if tagged bytes then 4 else 0) sub stamp bytes := by
  have hmem : f ∈ s.rxFlows sub p := by rw [hfs]; exact List.mem_singleton_self f
  have hkind : s.flowKind f = 3 := hp (by simpa using ((Bool.and_eq_true _ _).mp (List.mem_filter.mp hmem).2).2)
  have hnot : ¬s.flowKind f = 1 := by rw [hkind]; decide
  rw [hfs]
  exact if_neg hnot

theorem State.rxSorted_none {s : State} {sub stamp : Nat} {bytes fs : List Nat} (hfs : fs = []) :
    s.rxSorted sub stamp bytes (rxTo fs false) = s.incSat (sub / 4) (F.ETH_SUB_ERR_NOFLOW (sub % 4)) 1 := by
  rw [hfs]
  rfl

/-! ### Transmit records (R430, R431) -/

theorem State.palEcc_clean {s : State} (q code : Nat) (harm : s.flag 138 F.FLT_INJSTAT_ARMED = false) : s.palEcc q code ⟨.ok, 0, 0⟩ = s := by
  rw [State.palEcc, inj_off _ _ _ harm]
  rfl

theorem exec_txRecordHead_passes {s : State} {flow : Fin 8192} (ecc : Option EccEvent) (h : s.headRec flow = none ∨ s.flowTx flow = false ∨ NSet.has flow s.eth.checked = true) :
    exec (.txRecordHead flow ecc) s = .next s := by
  change execTxRecordHead flow ecc s = _
  unfold execTxRecordHead
  dsimp only
  split
  · rfl
  next _ hsome =>
    refine if_pos ?_
    rcases h with h | h | h
    · exact nomatch h.symm.trans hsome
    · rw [h]; rfl
    · rw [h]; exact Bool.or_true _

/-- The head record of a flow has passed its checks. -/
def State.txChecked (s : State) (f : Nat) : State := { s with eth := { s.eth with checked := NSet.add f s.eth.checked } }

/-- The head record of a flow is checked. -/
theorem exec_txRecordHead_checks {s : State} {flow : Fin 8192} {r : List Nat} {t : Nat} (hhead : s.headRec flow = some (r, t)) (htx : s.flowTx flow = true)
    (hnew : NSet.has flow s.eth.checked = false) (harm : s.flag 138 F.FLT_INJSTAT_ARMED = false) :
    exec (.txRecordHead flow none) s = if s.txBad flow r then .next (s.txRefuse flow F.FLW_TX_DROP_BAD)
      else if s.txSpoof flow r then .next (s.txRefuse flow F.FLW_TX_DROP_SPOOF)
      else .next (s.txChecked flow) := by
  change execTxRecordHead flow none s = _
  rw [execTxRecordHead, hhead, htx, hnew]
  dsimp only [Option.getD]
  rw [State.palEcc_clean _ _ harm, hhead]
  rfl

/-! ### Links (R420, R437) -/

/-- Taking a bit away leaves the others. -/
theorem testBit_sub_and_two_pow_ne (n : Nat) {i x : Nat} (h : x ≠ i) : (n - (n &&& 2 ^ i)).testBit x = n.testBit x := by
  rw [Nat.and_two_pow]
  cases hbit : n.testBit i with
  | false => simp
  | true =>
    have hle : 2 ^ i ≤ n := Nat.ge_two_pow_of_testBit hbit
    rw [Bool.toNat_true, Nat.one_mul]
    rcases Nat.lt_or_gt_of_ne h with hlt | hgt
    · have hlow := Nat.testBit_two_pow_add_gt hlt (n - 2 ^ i)
      rw [Nat.add_sub_cancel' hle] at hlow
      exact hlow.symm
    · obtain ⟨k, rfl⟩ := Nat.exists_eq_add_of_lt hgt
      have hodd : n / 2 ^ i % 2 = 1 := by simpa [Nat.testBit_eq_decide_div_mod_eq] using hbit
      have hstep : n / 2 ^ i = (n - 2 ^ i) / 2 ^ i + 1 := Nat.div_eq_sub_div (Nat.two_pow_pos i) hle
      have hhigh : (n - 2 ^ i) / 2 ^ (i + 1) = n / 2 ^ (i + 1) := by
        rw [Nat.pow_succ, ← Nat.div_div_eq_div_mul, ← Nat.div_div_eq_div_mul]
        omega
      have hdiv : ∀ m : Nat, m.testBit (i + k + 1) = (m / 2 ^ (i + 1)).testBit k := fun m => by rw [Nat.testBit_div_two_pow, show k + (i + 1) = i + k + 1 by omega]
      rw [hdiv, hdiv, hhigh]

/-- A link's bits are set or cleared. -/
def State.linkPut (s : State) (up : Bool) (u : Nat) (f : Fld) (m : Nat) : State := if up then s.orFld u f m else s.clrFld u f m

theorem State.setLink_eq (s : State) (sub : Nat) (up : Bool) : s.setLink sub up =
    let t := ((s.linkPut up 0 F.ETH_LINK_UP_UP (2 ^ sub)).linkPut up (sub / 4) F.ETH_PORT_LINK_UP (2 ^ (sub % 4))).linkPut up (sub / 4) F.ETH_PORT_LINK_FEC_ALIGN (2 ^ (sub % 4))
    if s.fld (sub / 4) F.ETH_PORT_CFG_MEDIA = 2 then t else t.linkPut up (sub / 4) F.ETH_PORT_LINK_AN_DONE (2 ^ (sub % 4)) := rfl

theorem State.fld_linkPut_apart (s : State) (up : Bool) (u m u' : Nat) {f g : Fld} (hf : f.inWord = true) (hg : g.inWord = true) (ha : g.apart f = true) :
    (s.linkPut up u f m).fld u' g = s.fld u' g := by
  cases up with
  | true => exact State.fld_orFld_apart _ _ _ _ _ _ hf hg ha
  | false => exact fld_clrFld_apart _ _ _ _ _ _ hf hg ha

theorem State.testBit_linkPut (s : State) (up : Bool) (u i x : Nat) {f : Fld} (hf : f.inWord = true) (hi : i < f.width) :
    ((s.linkPut up u f (2 ^ i)).fld u f).testBit x = if x = i then up else (s.fld u f).testBit x := by
  cases up with
  | true =>
    rw [State.linkPut, if_pos rfl, State.fld_orFld_same _ _ _ _ hf (Nat.pow_lt_pow_right Nat.one_lt_two hi), Nat.testBit_or, Nat.testBit_two_pow]
    by_cases hx : x = i
    · subst hx; simp
    · rw [decide_eq_false (Ne.symm hx), Bool.or_false, if_neg hx]
  | false =>
    rw [State.linkPut, if_neg Bool.false_ne_true]
    by_cases hx : x = i
    · subst hx; rw [State.testBit_fld_clrFld _ _ _ hf, if_pos rfl]
    · have hlt : s.fld u f - (s.fld u f &&& 2 ^ i) < 2 ^ f.width := (Nat.sub_le _ _).trans_lt (s.fld_lt u f)
      rw [State.clrFld, State.fld_setFld_same _ _ _ _ hf, Nat.mod_eq_of_lt hlt, testBit_sub_and_two_pow_ne _ hx, if_neg hx]

theorem State.subUp_setLink (s : State) (sub : Fin 32) (up : Bool) (x : Nat) : (s.setLink sub up).subUp x = if x = sub.val then up else s.subUp x := by
  have hport : (((s.linkPut up 0 F.ETH_LINK_UP_UP (2 ^ sub.val)).linkPut up (sub.val / 4) F.ETH_PORT_LINK_UP (2 ^ (sub.val % 4))).linkPut up (sub.val / 4) F.ETH_PORT_LINK_FEC_ALIGN
      (2 ^ (sub.val % 4))).fld 0 F.ETH_LINK_UP_UP = (s.linkPut up 0 F.ETH_LINK_UP_UP (2 ^ sub.val)).fld 0 F.ETH_LINK_UP_UP := by
    rw [State.fld_linkPut_apart _ _ _ _ _ (by decide) (by decide) (by decide), State.fld_linkPut_apart _ _ _ _ _ (by decide) (by decide) (by decide)]
  rw [State.setLink_eq, State.subUp]
  dsimp only
  split
  · rw [hport]; exact s.testBit_linkPut up 0 sub x (by decide) sub.isLt
  · rw [State.fld_linkPut_apart _ _ _ _ _ (by decide) (by decide) (by decide), hport]; exact s.testBit_linkPut up 0 sub x (by decide) sub.isLt

section Link

variable {s : State} {sub : Fin 32}

theorem exec_subportLinkDown_up (hup : s.subUp sub = true) : exec (.subportLinkDown sub) s =
    if sub.val % 4 = 0 ∧ s.ethPath (sub.val / 4) = true then .next (((s.setLink sub false).clrFld 0 F.YZF_STATUS_ETH_UP (2 ^ (sub.val / 4))).yzReroute (16 + sub.val / 4))
    else .next (s.setLink sub false) := if_pos hup

theorem exec_subportLinkDown_down (hup : s.subUp sub = false) : exec (.subportLinkDown sub) s = .next s := if_neg (by rw [hup]; exact Bool.false_ne_true)

theorem exec_subportLinkUp_down (hup : s.subUp sub = false) (hex : s.subExists sub = true) : exec (.subportLinkUp sub) s =
    if sub.val % 4 = 0 ∧ s.ethPath (sub.val / 4) = true then .next (((s.setLink sub true).orFld 0 F.YZF_STATUS_ETH_UP (2 ^ (sub.val / 4))).yzKickAll)
    else .next (s.setLink sub true) := if_pos (by rw [hex, hup]; rfl)

theorem exec_subportLinkUp_stays (h : s.subUp sub = true ∨ s.subExists sub = false) : exec (.subportLinkUp sub) s = .next s :=
  if_neg (by rcases h with h | h <;> simp [h])

end Link

/-- Settles O46: each command by its rule above. -/
theorem ethernetFramesAreSortedAndRecordsChecked : Obligations.EthernetFramesAreSortedAndRecordsChecked := by
  intro s
  refine ⟨fun sub bytes fcs stamp ce => ⟨fun ue h => exec_ethFrameRx_away fcs ue h, fun hex hup harm => ?received⟩, fun flow ecc => ⟨exec_txRecordHead_passes ecc, fun r t hhead htx hnew harm => ?checked⟩,
    fun sub => ⟨s.subUp_setLink sub, fun hup => ⟨fun hpath => (exec_subportLinkDown_up hup).trans (if_neg hpath), fun hpath => (exec_subportLinkDown_up hup).trans (if_pos hpath)⟩,
      fun hup => ⟨exec_subportLinkDown_down hup, fun hex => ⟨fun hpath => (exec_subportLinkUp_down hup hex).trans (if_neg hpath), fun hpath => (exec_subportLinkUp_down hup hex).trans (if_pos hpath)⟩⟩,
      exec_subportLinkUp_stays⟩⟩
  case received =>
    intro counted good len max
    have hexec := exec_ethFrameRx_sorted (bytes := bytes) (stamp := stamp) (ce := ce) hex hup harm
    obtain ⟨hmaxFrame, hetype⟩ : good.fld (sub.val / 4) F.ETH_PORT_CFG_MAX_FRAME = max ∧ good.fld 0 F.YZF_CFG_ETYPE = s.fld 0 F.YZF_CFG_ETYPE :=
      ⟨(s.fld_goodFrame _ _ _ (Nat.mod_lt _ (by decide))).1, (s.fld_goodFrame _ _ _ (Nat.mod_lt _ (by decide))).2⟩
    have hgood : exec (.ethFrameRx sub bytes true stamp ce 0) s = .next (good.rxSorted sub stamp bytes (good.rxClassify sub bytes true)) := hexec true
    refine ⟨?badFcs, ?badLength, ?goodLength⟩
    case badFcs => rintro rfl; exact hexec false
    case badLength =>
      rintro rfl hlen
      rw [hgood, State.rxClassify_badLength (by rw [hmaxFrame]; exact hlen)]
      rfl
    case goodLength =>
      rintro rfl hmin hmax
      refine ⟨fun hctrl => ?_, fun hty hstag hdouble hbcast => ?_⟩
      · rw [hgood, State.rxClassify_control hmin (by rw [hmaxFrame]; exact hmax) hctrl]
        rfl
      intro fs
      rw [hgood, State.rxClassify_ordinary hmin (by rw [hmaxFrame]; exact hmax) (by rw [hetype]; exact hty) hstag hdouble hbcast]
      refine ⟨fun hfs => congrArg Host.Outcome.next (State.rxSorted_none hfs), fun f hfs => ?_⟩
      intro e record shut
      rw [State.rxSorted_single hfs fun h => (of_decide_eq_true h).1]
      refine ⟨?dropped, fun hopen hgrow => ?taken⟩
      case dropped =>
        rintro (h | h)
        · rw [State.rxAppend_shut h]
        · rw [State.rxAppend_full h]
      case taken =>
        obtain ⟨t, htakes, hbytes, hothers, hmem, hout⟩ := State.palAppend_takes hgrow
        exact ⟨_, congrArg Host.Outcome.next (State.rxAppend_takes hopen htakes), hbytes, hothers, hmem, hout⟩
  case checked =>
    have hexec := exec_txRecordHead_checks hhead htx hnew harm
    refine ⟨fun hbad => ?_, fun hgood hspoof => ?_, fun hgood htrue => ⟨s.txChecked flow, ?_, NSet.has_add_self _ _, fun f hf => ?_, hhead, rfl, rfl, rfl⟩⟩
    · rw [hexec, if_pos hbad]
      rfl
    · rw [hexec, if_neg (by rw [hgood]; exact Bool.false_ne_true), if_pos hspoof]
      rfl
    · rw [hexec, if_neg (by rw [hgood]; exact Bool.false_ne_true), if_neg (by rw [htrue]; exact Bool.false_ne_true)]
    · rw [State.txChecked, NSet.has_add, decide_eq_false hf, Bool.false_or]

end Sys2Proof.Machine

/-! SUPPORT. Egress (14 R433 to R437; 15 R447 to R449, R454, R456 to R458; 02 R49, R50): launch frames, queued frames, shapers, samples, and the statement about them. -/
namespace Sys2Proof.Machine

open Sys2Proof Sys2Proof.Laws

/-! ### What a queue's operations leave of the line -/

/-- `t` has sent what `s` has and occupies its lines as `s` does, with the same memory. -/
structure State.WireKeep (s t : State) : Prop where
  mem : t.mem = s.mem
  out : t.out = s.out
  busy : t.eth.busy = s.eth.busy

namespace State.WireKeep

variable {s t : State}

theorem refl (s : State) : WireKeep s s := ⟨rfl, rfl, rfl⟩

theorem setFld (h : WireKeep s t) (u : Nat) (f : Fld) (v : Nat) : WireKeep s (t.setFld u f v) := ⟨h.mem, h.out, h.busy⟩

theorem incWrap (h : WireKeep s t) (u : Nat) (f : Fld) (n : Nat) : WireKeep s (t.incWrap u f n) := ⟨h.mem, h.out, h.busy⟩

theorem setReg (h : WireKeep s t) (u off : Nat) (w : BitVec 32) : WireKeep s (t.setReg u off w) := ⟨h.mem, h.out, h.busy⟩

theorem countUnits (h : WireKeep s t) (u : Nat) (f : Fld) (unit n : Nat) : WireKeep s (t.countUnits u f unit n) := ⟨h.mem, h.out, h.busy⟩

theorem flowCounts (h : WireKeep s t) (f : Nat) (add : Bool) : WireKeep s (t.flowCounts f add) := ⟨h.mem, h.out, h.busy⟩

theorem setFlowRegs (h : WireKeep s t) (f : Nat) (d : List Nat) : WireKeep s (t.setFlowRegs f d) := by
  unfold State.setFlowRegs
  iterate 16 refine setFld ?_ _ _ _
  exact h

theorem freed (h : WireKeep s t) (f : Nat) : WireKeep s { t with eth := { t.eth with freeing := NSet.remove f t.eth.freeing, checked := NSet.remove f t.eth.checked } } :=
  ⟨h.mem, h.out, h.busy⟩

theorem headGone (h : WireKeep s t) (f : Nat) : WireKeep s { t with eth := { t.eth with checked := NSet.remove f t.eth.checked, waited := SMap.set (fun _ => []) t.eth.waited f [] } } :=
  ⟨h.mem, h.out, h.busy⟩

theorem setPal (h : WireKeep s t) (q : Nat) (v : PalQ) : WireKeep s (t.setPal q v) := by
  unfold State.setPal
  dsimp only
  split <;> exact ⟨h.mem, h.out, h.busy⟩

theorem sendHeld (f : Nat) : ∀ (l : List (List Nat)) {t : State}, WireKeep s t → WireKeep s (sendHeld f l t) := by
  intro l
  induction l with
  | nil => intro t h; exact ⟨h.mem, h.out, h.busy⟩
  | cons r l ih =>
    intro t h
    unfold Machine.sendHeld
    split
    next u hu =>
      unfold State.palAppend at hu
      dsimp only at hu
      split at hu
      · exact ih (Option.some.inj hu ▸ h.setPal _ _)
      · exact nomatch hu
    next => exact ⟨h.mem, h.out, h.busy⟩

theorem clearFlow (h : WireKeep s t) (f : Nat) : WireKeep s (t.clearFlow f) := by
  have hcounts : WireKeep s ((((t.setFld f F.FLW_FRAMES_COUNT 0).setReg f F.FLW_RX_DROP_NOBUF.off 0).setReg f F.FLW_TX_DROP_BAD.off 0).setReg f F.FLW_LATE_COUNT.off 0) :=
    (((h.setFld _ _ _).setReg _ _ _).setReg _ _ _).setReg _ _ _
  have hbins := upto_keep (WireKeep s) 16 (fun i t => (t.setFld f (F.EGS_Q_DHIST_COUNT i) 0).setFld f (F.EGS_Q_LHIST_COUNT i) 0) (fun _ _ _ h => (h.setFld _ _ _).setFld _ _ _) _ hcounts
  exact (hbins.setReg _ _ _).setReg _ _ _

theorem freeFlow (h : WireKeep s t) (f : Nat) : WireKeep s (t.freeFlow f) := by
  unfold State.freeFlow
  split
  · exact ((((h.setPal (flowQ f) PalQ.empty).flowCounts f false).clearFlow f).setFlowRegs f _).freed f
  · exact h

theorem dropHead (h : WireKeep s t) (f : Nat) : WireKeep s (t.dropHead f) := by
  unfold State.dropHead
  split
  · exact h
  · exact (sendHeld f _ ((h.setPal _ _).headGone f)).freeFlow f

end State.WireKeep

/-- A frame leaves, and its subport is busy for its line time. -/
theorem State.WireKeep.sent {s t : State} {sub slot : Nat} {d : List Nat} (h : State.WireKeep (s.ethSend sub slot d) t) :
    t.out = s.out ++ [.ethFrame sub slot d] ∧ t.subBusy sub = s.slotTime sub slot + (d.length + 24) * s.subK sub ∧ (∀ x, x ≠ sub → t.subBusy x = s.subBusy x) ∧ t.mem = s.mem := by
  refine ⟨h.out, ?_, fun x hx => ?_, h.mem⟩
  · rw [State.subBusy, h.busy]; exact SMap.get_set_same ..
  · rw [State.subBusy, h.busy]; exact SMap.get_set_ne _ _ _ hx

/-! ### Launch frames (14 R434 to R437) -/

section Launch

variable {s : State} {sub : Fin 32}

theorem exec_launchFrameStart_starts {c : LaunchC} (hfirst : s.firstLaunch sub ((s.launchCands sub).filter (fun c => !s.launchLate sub c)) = some c) (hup : s.subUp sub = true)
    (hnow : s.slotTime sub (s.launchSlot sub c) ≤ hundOf s.tod) : exec (.launchFrameStart sub) s = .next (s.launchStart sub c) := by
  change execLaunchFrameStart sub s = _
  rw [execLaunchFrameStart, hfirst]
  exact if_pos (by rw [hup, decide_eq_true hnow]; rfl)

theorem exec_launchFrameStart_waits {c : LaunchC} (hfirst : s.firstLaunch sub ((s.launchCands sub).filter (fun c => !s.launchLate sub c)) = some c)
    (h : s.subUp sub = false ∨ hundOf s.tod < s.slotTime sub (s.launchSlot sub c)) : exec (.launchFrameStart sub) s = .next s := by
  change execLaunchFrameStart sub s = _
  rw [execLaunchFrameStart, hfirst]
  refine if_neg ?_
  rcases h with h | h
  · rw [h]; exact Bool.false_ne_true
  · rw [decide_eq_false (Nat.not_le.mpr h), Bool.and_false]; exact Bool.false_ne_true

/-- The frame of a flow's head record leaves, and the record goes. -/
theorem State.launchStart_sends {c : LaunchC} {f t : Nat} {r : List Nat} (hflow : c.flow = some f) (hhead : s.headRec f = some (r, t)) :
    State.WireKeep (s.ethSend sub (s.launchSlot sub c) (s.txFrame f r)) (s.launchStart sub c) := by
  unfold State.launchStart
  rw [hflow]
  dsimp only
  rw [hhead]
  dsimp only
  exact (((((State.WireKeep.refl _).setFld _ _ _).incWrap _ _ _).incWrap _ _ _).countUnits _ _ _ _).dropHead f

theorem exec_launchFrameDrop_drops {c : LaunchC} (h : (s.launchCands sub).find? (fun c => s.launchLate sub c || !s.subUp sub) = some c) :
    exec (.launchFrameDrop sub) s = .next (s.launchDrop sub c) := by
  change execLaunchFrameDrop sub s = _
  rw [execLaunchFrameDrop, h]

theorem exec_launchFrameDrop_none (h : (s.launchCands sub).find? (fun c => s.launchLate sub c || !s.subUp sub) = none) : exec (.launchFrameDrop sub) s = .next s := by
  change execLaunchFrameDrop sub s = _
  rw [execLaunchFrameDrop, h]

theorem State.launchDrop_flow {c : LaunchC} {f : Nat} (h : c.flow = some f) : s.launchDrop sub c = (s.incSat f F.FLW_LATE_COUNT 1).dropHead f := by
  unfold State.launchDrop
  rw [h]

theorem State.launchDrop_timeBlock {c : LaunchC} (h : c.flow = none) : s.launchDrop sub c = (s.tbPop sub).incSat (sub / 4) (F.PTP_SUB_LATE_COUNT (sub % 4)) 1 := by
  unfold State.launchDrop
  rw [h]

theorem lateCount_inWord : (F.PTP_SUB_LATE_COUNT (sub % 4)).inWord = true :=
  (inWord_iff _).mpr ⟨show 0 + 16 ≤ 32 by decide, show 0x30011C + sub.val % 4 * 32 < regSpan by unfold regSpan; omega⟩

end Launch

/-! ### Queued frames (15 R447, R448; 14 R434) -/

section Queued

variable {s : State} {sub : Fin 32} {slot : Nat}

theorem exec_queuedFrameStart_idle (h : s.subUp sub = false ∨ s.slotTime sub slot < s.subBusy sub ∨ hundOf s.tod < s.slotTime sub slot) : exec (.queuedFrameStart sub slot) s = .next s := by
  refine if_pos ?_
  rcases h with h | h | h
  · rw [h]; rfl
  · rw [decide_eq_true h, Bool.or_true, Bool.true_or]
  · rw [decide_eq_true h, Bool.or_true]

variable (hup : s.subUp sub = true) (hfree : s.subBusy sub ≤ s.slotTime sub slot) (hnow : s.slotTime sub slot ≤ hundOf s.tod)
include hup hfree hnow

/-- The line is idle in the slot, whose time has come. -/
theorem queuedSlot_open : ¬(!s.subUp sub || decide (s.slotTime sub slot < s.subBusy sub) || decide (hundOf s.tod < s.slotTime sub slot)) = true := by
  rw [hup, decide_eq_false (Nat.not_lt.mpr hfree), decide_eq_false (Nat.not_lt.mpr hnow)]
  exact Bool.false_ne_true

theorem exec_queuedFrameStart_ctrl {w : YzWait} {t : State} (h : s.ctrlTake sub slot = some (w, t)) : exec (.queuedFrameStart sub slot) s = .next (t.yzStart sub slot w) := by
  refine (if_neg (queuedSlot_open hup hfree hnow)).trans ?_
  rw [h]

theorem exec_queuedFrameStart_starts {c : QCand} {t : State} (hctrl : s.ctrlTake sub slot = none)
    (hpick : (s.noteWaits (s.allCands sub slot)).pickQueued sub ((s.allCands sub slot).filter (fun c => (s.shortNodes c).isEmpty)) = some (c, t)) :
    exec (.queuedFrameStart sub slot) s = .next (t.queuedStart sub slot c) :=
  (if_neg (queuedSlot_open hup hfree hnow)).trans (by simp only [hctrl, hpick])

theorem exec_queuedFrameStart_none (hctrl : s.ctrlTake sub slot = none)
    (hpick : (s.noteWaits (s.allCands sub slot)).pickQueued sub ((s.allCands sub slot).filter (fun c => (s.shortNodes c).isEmpty)) = none) :
    exec (.queuedFrameStart sub slot) s = .next (s.noteWaits (s.allCands sub slot)) :=
  (if_neg (queuedSlot_open hup hfree hnow)).trans (by simp only [hctrl, hpick])

end Queued

/-- An ACK, NAK or CREDIT that ends in time is taken. -/
theorem State.ctrlTake_some {s : State} {sub slot : Nat} {w : YzWait} (hport : sub % 4 = 0) (hw : (s.yzWaits (16 + sub / 4)).find? (fun w => decide (w.easel = 64)) = some w)
    (hends : s.endsInTime sub slot ⟨0, none, 64, s.yzFrameLen w.pkt + 20⟩ = true) :
    s.ctrlTake sub slot = some (w, s.setYzWaits (16 + sub / 4) ((s.yzWaits (16 + sub / 4)).erase w)) := by
  unfold State.ctrlTake State.yzTake
  rw [if_pos hport, hw]
  exact if_pos hends

/-- A control packet leaves, and its subport is busy for its line time. -/
theorem State.yzStart_ctrl {s : State} {sub slot path : Nat} {w : YzWait} (l : List YzWait) (hctrl : w.easel = 64) :
    let t := (s.setYzWaits path l).yzStart sub slot w
    t.out = s.out ++ [.yaroz (16 + sub / 4) w.pkt] ∧ t.yzWaits path = l ∧ t.subBusy sub = s.slotTime sub slot + (s.yzFrameLen w.pkt + 20) * s.subK sub ∧ t.mem = s.mem := by
  intro t
  have ht : t = (({ s.setYzWaits path l with eth := { (s.setYzWaits path l).eth with
      busy := SMap.set (fun _ => 0) s.eth.busy sub (s.slotTime sub slot + s.lineTime sub (s.yzFrameLen w.pkt + 20)) } } : State).emit (.yaroz (16 + sub / 4) w.pkt)).incWrap (sub / 4)
      (F.ETH_SUB_TX_COUNT (sub % 4)) 1 := if_neg (by omega)
  rw [ht]
  exact ⟨rfl, SMap.get_set_same .., SMap.get_set_same .., rfl⟩

theorem State.noteWaits_rest (s : State) (l : List QCand) : (s.noteWaits l).mem = s.mem ∧ (s.noteWaits l).out = s.out := by
  unfold State.noteWaits
  refine each_keep (fun t : State => t.mem = s.mem ∧ t.out = s.out) _ (fun c t h => ?_) l s ⟨rfl, rfl⟩
  dsimp only
  split
  · exact h
  next f _ =>
    refine each_keep (fun u : State => u.mem = s.mem ∧ u.out = s.out) _ (fun n u hu => ?_) _ t h
    split <;> exact hu

/-- With nothing that may start, no frame is picked. -/
theorem State.pickQueued_nil (s : State) (sub : Nat) : s.pickQueued sub [] = none := by
  have hes : (List.range 64).filter (fun e => ([] : List QCand).any (fun c => decide (c.easel = e))) = [] := List.filter_eq_nil_iff.mpr fun _ _ => Bool.false_ne_true
  have hactive : ((s.drrOf sub).follow []).active = [] := by
    unfold Drr.follow
    simp
  have hserve : ∀ size q, ((s.drrOf sub).follow []).serve size q drrFuel = none := fun size q => by
    unfold drrFuel
    rw [Drr.serve, hactive]
  unfold State.pickQueued
  rw [show s.radioPick sub [] = none from rfl]
  dsimp only
  rw [show ([] : List QCand).filter (fun c => !s.isRadioLeaf c) = [] from rfl, hes, hserve]

/-- The round robins of a RADIO leaf's frame move on. -/
def State.radioTurned (s : State) (sub : Nat) (c : QCand) : State := (s.setTurn (turnRadio sub (s.service c)) c.leaf).setTurn (turnFlow c.leaf) c.num

theorem State.pickQueued_radio {s : State} {sub : Nat} {l : List QCand} {c : QCand} (h : s.radioPick sub l = some c) : s.pickQueued sub l = some (c, s.radioTurned sub c) := by
  unfold State.pickQueued
  rw [h]
  rfl

/-- The registers that charging a path changes. -/
def chargedOffs : List Nat := [F.EGS_NODE_CREDIT_BITS.off, F.EGS_NODE_BYTES_LO_BYTES.off, F.EGS_NODE_BYTES_HI_BYTES.off, F.EGS_NODE_FRAMES_COUNT.off]

theorem State.chargePath_frame (s : State) (c : QCand) : State.RegsFrame chargedOffs s (s.chargePath c) := by
  unfold State.chargePath
  refine each_keep (State.RegsFrame chargedOffs s) _ (fun n t h => ?_) _ s (.refl _ _)
  have hcredit : State.RegsFrame chargedOffs s
      (if t.fld n F.EGS_NODE_RATE_MBPS = 0 then t else t.setFld n F.EGS_NODE_CREDIT_BITS (t.fld n F.EGS_NODE_CREDIT_BITS - 8 * c.bytes)) := by
    split
    · exact h
    · exact h.setFld _ _ _ (by decide) (by decide)
  exact ((hcredit.setFld _ _ _ (by decide) (by decide)).setFld _ _ _ (by decide) (by decide)).setFld _ _ _ (by decide) (by decide)

/-- The fields that a transmit frame is made by, beside its record. -/
def txFrameFlds : List Fld := [F.FLW_CFG_COMP, F.FLW_KEY_PCP, F.RAD_STATUS_CELLS, F.RAD_CELL_MAP_FLOW_BASE, F.RAD_CELL_CFG_CLASS, F.RAD_CELL_CFG_PRBS]

theorem State.txFrame_congr {s t : State} (h : ∀ f ∈ txFrameFlds, ∀ u, t.fld u f = s.fld u f) (f : Nat) (r : List Nat) : t.txFrame f r = s.txFrame f r := by
  have hcell : t.cellOfFlow f = s.cellOfFlow f := by
    unfold State.cellOfFlow State.cellCount State.cellFlowBase
    simp only [h F.RAD_STATUS_CELLS (by decide), h F.RAD_CELL_MAP_FLOW_BASE (by decide), h F.RAD_CELL_CFG_CLASS (by decide)]
  have hprbs : t.flowPrbs f = s.flowPrbs f := by
    unfold State.flowPrbs
    rw [hcell]
    cases s.cellOfFlow f with
    | none => rfl
    | some c => exact h F.RAD_CELL_CFG_PRBS (by decide) c
  unfold State.txFrame
  rw [hprbs, State.flowComp, h F.FLW_CFG_COMP (by decide), h F.FLW_KEY_PCP (by decide)]
  rfl

/-- A queued frame of a flow leaves after its path is charged. -/
theorem State.queuedStart_sends {s : State} {sub slot : Nat} {c : QCand} {f t : Nat} {r : List Nat} (hflow : c.flow = some f) (hhead : s.headRec f = some (r, t)) :
    State.WireKeep ((s.chargePath c).ethSend sub slot (s.txFrame f r)) (s.queuedStart sub slot c) := by
  have hframe := s.chargePath_frame c
  have hkept : (s.chargePath c).headRec f = some (r, t) := by
    rw [hframe.rest]; exact hhead
  have htx : (s.chargePath c).txFrame f r = s.txFrame f r :=
    State.txFrame_congr (fun g hg u => hframe.fld u g ((by decide : ∀ g ∈ txFrameFlds, g.off < regSpan) g hg) ((by decide : ∀ g ∈ txFrameFlds, g.off ∉ chargedOffs) g hg)) f r
  unfold State.queuedStart
  rw [hflow]
  dsimp only
  rw [hkept]
  dsimp only
  rw [htx]
  exact (((State.WireKeep.refl _).incWrap _ _ _).countUnits _ _ _ _).dropHead f

/-- The frame of a RADIO leaf's flow occupies the line. -/
theorem State.queuedStart_line {s : State} {sub slot : Nat} {c : QCand} {f t : Nat} {r : List Nat} (hflow : c.flow = some f) (hhead : s.headRec f = some (r, t)) :
    let u := (s.radioTurned sub c).queuedStart sub slot c
    u.out = s.out ++ [.ethFrame sub slot (s.txFrame f r)] ∧ u.subBusy sub = s.slotTime sub slot + ((s.txFrame f r).length + 24) * s.subK sub ∧ u.mem = s.mem := by
  have hframe := (s.radioTurned sub c).chargePath_frame c
  have htx : (s.radioTurned sub c).txFrame f r = s.txFrame f r := State.txFrame_congr (fun _ _ _ => rfl) f r
  have hk : ((s.radioTurned sub c).chargePath c).subK sub = s.subK sub := congrArg modeK (hframe.fld (sub / 4) F.ETH_PORT_CFG_MODE (by decide) (by decide))
  obtain ⟨hout, hbusy, -, hmem⟩ := (State.queuedStart_sends (s := s.radioTurned sub c) (sub := sub) (slot := slot) hflow hhead).sent
  rw [htx] at hout hbusy
  refine ⟨hout.trans (by rw [hframe.out]; rfl), hbusy.trans ?_, hmem.trans hframe.mem⟩
  rw [State.slotTime, State.slotTime, hk]

/-! ### Shapers (15 R449, R454) -/

theorem SMap.keys_rise {α : Type} [DecidableEq α] {d : Nat → α} : ∀ {m : SMap α}, SMap.wf d m = true → m.Pairwise (fun p q => p.1 < q.1) := by
  intro m
  induction m with
  | nil => intro _; exact List.Pairwise.nil
  | cons p r ih =>
    intro h
    obtain ⟨habove, -, hr⟩ := SMap.wf_cons.mp h
    exact List.Pairwise.cons (fun q hq => of_decide_eq_true (List.all_eq_true.mp habove q hq)) (ih hr)

/-- Each node in use is listed once. -/
theorem State.nodesUsed_nodup {s : State} (h : s.Inv) : s.nodesUsed.Nodup := by
  refine List.pairwise_map.mpr (((SMap.keys_rise h.regs).filter _).imp_of_mem fun {p q} hp hq hlt heq => ?_)
  have hmodp := of_decide_eq_true ((Bool.and_eq_true _ _).mp (List.mem_filter.mp hp).2).1
  have hmodq := of_decide_eq_true ((Bool.and_eq_true _ _).mp (List.mem_filter.mp hq).2).1
  have hkey : p.1 = q.1 := by rw [← Nat.div_add_mod p.1 regSpan, ← Nat.div_add_mod q.1 regSpan, heq, hmodp, hmodq]
  omega

/-- What a shaper's credit becomes at a refill. -/
def State.refilled (s : State) (n : Nat) : Nat := min (s.fld n F.EGS_NODE_CREDIT_BITS + s.fld n F.EGS_NODE_RATE_MBPS) (8 * s.fld n F.EGS_NODE_BURST_BYTES)

/-- One shaper is refilled. -/
def State.refillNode (s : State) (n : Nat) : State := s.setFld n F.EGS_NODE_CREDIT_BITS (s.refilled n)

theorem State.refill_frame (s : State) : State.RegsFrame [F.EGS_NODE_CREDIT_BITS.off] s s.refill :=
  each_keep (State.RegsFrame [F.EGS_NODE_CREDIT_BITS.off] s) (fun n (t : State) => t.refillNode n) (fun _ _ h => h.setFld _ _ _ (by decide) (by decide)) s.nodesUsed s (.refl _ _)

theorem State.refilled_refillNode {s : State} {n a : Nat} (h : n ≠ a) : (s.refillNode a).refilled n = s.refilled n := by
  unfold State.refilled State.refillNode
  rw [State.fld_setFld_unit _ _ _ _ (by decide) (by decide) h, State.fld_setFld_apart _ _ _ _ _ _ (by decide) (by decide) (by decide),
    State.fld_setFld_apart _ _ _ _ _ _ (by decide) (by decide) (by decide)]

/-- Shapers listed once each are refilled once each. -/
theorem State.credit_refillNodes : ∀ (l : List Nat) (s : State) (n : Nat), l.Nodup →
    (forEach l (fun n (t : State) => t.refillNode n) s).fld n F.EGS_NODE_CREDIT_BITS =
      if n ∈ l then s.refilled n % 2 ^ F.EGS_NODE_CREDIT_BITS.width else s.fld n F.EGS_NODE_CREDIT_BITS := by
  intro l
  induction l with
  | nil => intro s n _; rfl
  | cons a l ih =>
    intro s n hnodup
    obtain ⟨ha, hl⟩ := List.nodup_cons.mp hnodup
    refine (ih (s.refillNode a) n hl).trans ?_
    by_cases hn : n = a
    · subst hn
      rw [if_neg ha, if_pos List.mem_cons_self]
      exact State.fld_setFld_same _ _ _ _ (by decide)
    · rw [State.refilled_refillNode hn, State.refillNode, State.fld_setFld_unit _ _ _ _ (by decide) (by decide) hn]
      simp only [List.mem_cons, hn, false_or]

theorem State.refillRetouch_idle {s : State} (hparam : (s.fld 0 F.CVS_RT_PENDING_TYPES).testBit rtParam = false) (hflows : (s.fld 0 F.CVS_RT_PENDING_TYPES).testBit rtFlows = false) :
    s.refillRetouch = s := by
  have hfirst : (!(s.fld 0 F.CVS_RT_PENDING_TYPES).testBit rtParam) = true := by rw [hparam]; rfl
  unfold State.refillRetouch
  rw [if_pos hfirst]
  exact if_pos (by rw [hflows]; rfl)

theorem exec_shaperRefill_idleRetouch {s : State} (hpaced : s.paced = true) (hparam : (s.fld 0 F.CVS_RT_PENDING_TYPES).testBit rtParam = false)
    (hflows : (s.fld 0 F.CVS_RT_PENDING_TYPES).testBit rtFlows = false) : exec .shaperRefill s = .next (s.refill.incWrap 0 F.EGS_REFILLS_COUNT 1) :=
  congrArg Host.Outcome.next ((if_pos hpaced).trans (by rw [State.refillRetouch_idle hparam hflows]))

theorem exec_paced_off {s : State} (h : s.paced = false) : exec .shaperRefill s = .next s ∧ exec .queueSample s = .next s :=
  ⟨congrArg Host.Outcome.next (if_neg (by rw [h]; exact Bool.false_ne_true)), congrArg Host.Outcome.next (if_neg (by rw [h]; exact Bool.false_ne_true))⟩

theorem State.refillCounted_credit (s : State) (n : Nat) : (s.refill.incWrap 0 F.EGS_REFILLS_COUNT 1).fld n F.EGS_NODE_CREDIT_BITS = s.refill.fld n F.EGS_NODE_CREDIT_BITS :=
  fld_incWrap_apart _ _ _ _ _ _ (by decide) (by decide) (by decide)

/-! ### Samples (15 R456 to R458) -/

/-- The registers that samples change, and those that a clear does: bins and what a queue holds now. -/
def binOffs : List Nat := (List.range 16).map (fun i => (F.EGS_Q_DHIST_COUNT i).off) ++ (List.range 16).map (fun i => (F.EGS_Q_LHIST_COUNT i).off)

def sampleOffs : List Nat := F.EGS_Q_NOW_DEPTH.off :: F.EGS_Q_NOW_DELAY_NS.off :: binOffs

theorem histBin_lt (b v : Nat) : histBin b v < 16 := by unfold histBin; split <;> [decide; (split <;> [decide; omega])]

theorem State.delayBin_lt (s : State) (f : Nat) : s.delayBin f < 16 := by
  have := histBin_lt 7 (s.flowDelay f)
  unfold State.delayBin
  split <;> omega

theorem depthBin_mem {i : Nat} (h : i < 16) : (F.EGS_Q_DHIST_COUNT i).off ∈ binOffs := List.mem_append_left _ (List.mem_map_of_mem (List.mem_range.mpr h))

theorem delayBin_mem {i : Nat} (h : i < 16) : (F.EGS_Q_LHIST_COUNT i).off ∈ binOffs := List.mem_append_right _ (List.mem_map_of_mem (List.mem_range.mpr h))

theorem depthBin_off {i : Nat} (h : i < 16) : (F.EGS_Q_DHIST_COUNT i).off < regSpan := by show 0x2C0440 + i * 4 < 0x4000000; omega

theorem delayBin_off {i : Nat} (h : i < 16) : (F.EGS_Q_LHIST_COUNT i).off < regSpan := by show 0x2C0480 + i * 4 < 0x4000000; omega

theorem State.RegsFrame.sampleFlow {s t : State} (h : State.RegsFrame sampleOffs s t) (f : Nat) : State.RegsFrame sampleOffs s (t.sampleFlow f) := by
  have hnow := (h.setFld f F.EGS_Q_NOW_DEPTH (t.flowDepth f) (by decide) List.mem_cons_self).setFld f F.EGS_Q_NOW_DELAY_NS (min (t.flowDelay f) 0xFFFFFFFF) (by decide)
    (List.mem_cons_of_mem _ List.mem_cons_self)
  exact (hnow.setFld _ _ _ (depthBin_off (histBin_lt _ _)) (List.mem_cons_of_mem _ (List.mem_cons_of_mem _ (depthBin_mem (histBin_lt _ _))))).setFld _ _ _
    (delayBin_off (t.delayBin_lt f)) (List.mem_cons_of_mem _ (List.mem_cons_of_mem _ (delayBin_mem (t.delayBin_lt f))))

/-- A depth shown is that of the flow sampled; the other flows keep theirs. -/
theorem State.depth_sampleFlow (s : State) (f g : Nat) :
    (s.sampleFlow f).fld g F.EGS_Q_NOW_DEPTH = if g = f then s.flowDepth f % 2 ^ F.EGS_Q_NOW_DEPTH.width else s.fld g F.EGS_Q_NOW_DEPTH := by
  have hdepth : (F.EGS_Q_DHIST_COUNT (histBin 11 (s.flowDepth f))).inWord = true := (inWord_iff _).mpr ⟨show 0 + 32 ≤ 32 by decide, depthBin_off (histBin_lt _ _)⟩
  have hdelay : (F.EGS_Q_LHIST_COUNT (s.delayBin f)).inWord = true := (inWord_iff _).mpr ⟨show 0 + 32 ≤ 32 by decide, delayBin_off (s.delayBin_lt f)⟩
  have hdepthApart : F.EGS_Q_NOW_DEPTH.apart (F.EGS_Q_DHIST_COUNT (histBin 11 (s.flowDepth f))) = true := (apart_iff _ _).mpr (.inl (show 0x2C0404 ≠ 0x2C0440 + _ * 4 by omega))
  have hdelayApart : F.EGS_Q_NOW_DEPTH.apart (F.EGS_Q_LHIST_COUNT (s.delayBin f)) = true := (apart_iff _ _).mpr (.inl (show 0x2C0404 ≠ 0x2C0480 + _ * 4 by omega))
  rw [State.sampleFlow, State.fld_incSat_apart _ _ _ _ _ _ hdelay (by decide) hdelayApart, State.fld_incSat_apart _ _ _ _ _ _ hdepth (by decide) hdepthApart,
    State.fld_setFld_apart _ _ _ _ _ _ (by decide) (by decide) (by decide)]
  by_cases hg : g = f
  · subst hg; rw [if_pos rfl]; exact State.fld_setFld_same _ _ _ _ (by decide)
  · rw [if_neg hg]; exact State.fld_setFld_unit _ _ _ _ (by decide) (by decide) hg

theorem State.RegsFrame.flowDepth {offs : List Nat} {s t : State} (h : State.RegsFrame offs s t) (f : Nat) : t.flowDepth f = s.flowDepth f := by rw [h.rest]; rfl

/-- Every flow listed shows its depth after the samples. -/
theorem State.depth_sampleFlows (s : State) (f : Nat) : ∀ (l : List Nat) (t : State), State.RegsFrame sampleOffs s t → f ∈ l ∨ t.fld f F.EGS_Q_NOW_DEPTH = s.flowDepth f % 2 ^ F.EGS_Q_NOW_DEPTH.width →
    (forEach l (fun f (t : State) => t.sampleFlow f) t).fld f F.EGS_Q_NOW_DEPTH = s.flowDepth f % 2 ^ F.EGS_Q_NOW_DEPTH.width := by
  intro l
  induction l with
  | nil => intro t _ h; exact h.resolve_left List.not_mem_nil
  | cons a l ih =>
    intro t ht h
    refine ih (t.sampleFlow a) (ht.sampleFlow a) ?_
    by_cases hf : f = a
    · subst hf
      exact .inr ((t.depth_sampleFlow f f).trans ((if_pos rfl).trans (by rw [ht.flowDepth])))
    · exact h.imp (fun hmem => (List.mem_cons.mp hmem).resolve_left hf) fun hshown => (t.depth_sampleFlow a f).trans ((if_neg hf).trans hshown)

theorem State.sampleFlows_frame (s : State) : State.RegsFrame sampleOffs s (forEach s.flowsUsed (fun f (t : State) => t.sampleFlow f) s) :=
  each_keep (State.RegsFrame sampleOffs s) (fun f (t : State) => t.sampleFlow f) (fun _ _ h => h.sampleFlow _) s.flowsUsed s (.refl _ _)

/-- The bins of a flow are cleared. -/
def State.binsCleared (s : State) (flow n : Nat) : State := forUpto n (fun i (t : State) => (t.setFld flow (F.EGS_Q_DHIST_COUNT i) 0).setFld flow (F.EGS_Q_LHIST_COUNT i) 0) s

/-- The last number below `n + 1` or one before it. -/
theorem ite_last_or_before (p : Prop) [Decidable p] (i n a : Nat) : (if p ∧ i = n then 0 else if p ∧ i < n then 0 else a) = if p ∧ i < n + 1 then 0 else a := by
  by_cases hlast : p ∧ i = n
  · rw [if_pos hlast, if_pos ⟨hlast.1, by omega⟩]
  · rw [if_neg hlast]
    exact if_congr (and_congr_right fun hp => ⟨Nat.lt_succ_of_lt, fun h => Nat.lt_of_le_of_ne (Nat.le_of_lt_succ h) fun e => hlast ⟨hp, e⟩⟩) rfl rfl

section Bins

variable {i : Nat} (hi : i < 16)
include hi

theorem depthBin_inWord : (F.EGS_Q_DHIST_COUNT i).inWord = true := (inWord_iff _).mpr ⟨show 0 + 32 ≤ 32 by decide, depthBin_off hi⟩

theorem waitBin_inWord : (F.EGS_Q_LHIST_COUNT i).inWord = true := (inWord_iff _).mpr ⟨show 0 + 32 ≤ 32 by decide, delayBin_off hi⟩

/-- Clearing bin `j` of both histograms clears it and leaves the other bins. -/
theorem State.bins_clearBin {j : Nat} (hj : j < 16) (s : State) (flow g : Nat) :
    let t := (s.setFld flow (F.EGS_Q_DHIST_COUNT j) 0).setFld flow (F.EGS_Q_LHIST_COUNT j) 0
    t.fld g (F.EGS_Q_DHIST_COUNT i) = (if g = flow ∧ i = j then 0 else s.fld g (F.EGS_Q_DHIST_COUNT i)) ∧
      t.fld g (F.EGS_Q_LHIST_COUNT i) = (if g = flow ∧ i = j then 0 else s.fld g (F.EGS_Q_LHIST_COUNT i)) := by
  have hcross : ∀ {a b : Nat}, a < 16 → b < 16 → (F.EGS_Q_DHIST_COUNT a).off ≠ (F.EGS_Q_LHIST_COUNT b).off := fun {a b} ha hb => show 0x2C0440 + a * 4 ≠ 0x2C0480 + b * 4 by omega
  intro t
  refine ⟨?_, ?_⟩
  · refine (State.fld_setFld_apart _ _ _ _ _ _ (waitBin_inWord hj) (depthBin_inWord hi) ((apart_iff _ _).mpr (.inl (hcross hi hj)))).trans ?_
    by_cases hg : g = flow
    · by_cases hij : i = j
      · subst hg hij; rw [if_pos ⟨rfl, rfl⟩]; exact State.fld_setFld_same _ _ _ _ (depthBin_inWord hi)
      · rw [if_neg fun h => hij h.2]
        exact State.fld_setFld_apart _ _ _ _ _ _ (depthBin_inWord hj) (depthBin_inWord hi) ((apart_iff _ _).mpr (.inl (show 0x2C0440 + i * 4 ≠ 0x2C0440 + j * 4 by omega)))
    · rw [if_neg fun h => hg h.1]; exact State.fld_setFld_unit _ _ _ _ (depthBin_inWord hj) (depthBin_inWord hi) hg
  · by_cases hg : g = flow
    · by_cases hij : i = j
      · subst hg hij; rw [if_pos ⟨rfl, rfl⟩]; exact State.fld_setFld_same _ _ _ _ (waitBin_inWord hi)
      · rw [if_neg fun h => hij h.2]
        refine (State.fld_setFld_apart _ _ _ _ _ _ (waitBin_inWord hj) (waitBin_inWord hi) ((apart_iff _ _).mpr (.inl (show 0x2C0480 + i * 4 ≠ 0x2C0480 + j * 4 by omega)))).trans ?_
        exact State.fld_setFld_apart _ _ _ _ _ _ (depthBin_inWord hj) (waitBin_inWord hi) ((apart_iff _ _).mpr (.inl (hcross hj hi).symm))
    · rw [if_neg fun h => hg h.1]
      refine (State.fld_setFld_unit _ _ _ _ (waitBin_inWord hj) (waitBin_inWord hi) hg).trans ?_
      exact State.fld_setFld_apart _ _ _ _ _ _ (depthBin_inWord hj) (waitBin_inWord hi) ((apart_iff _ _).mpr (.inl (hcross hj hi).symm))

theorem State.bins_binsCleared (s : State) (flow g : Nat) : ∀ n, n ≤ 16 →
    (s.binsCleared flow n).fld g (F.EGS_Q_DHIST_COUNT i) = (if g = flow ∧ i < n then 0 else s.fld g (F.EGS_Q_DHIST_COUNT i)) ∧
      (s.binsCleared flow n).fld g (F.EGS_Q_LHIST_COUNT i) = (if g = flow ∧ i < n then 0 else s.fld g (F.EGS_Q_LHIST_COUNT i)) := by
  intro n
  induction n with
  | zero => intro _; exact ⟨(if_neg fun h => Nat.not_lt_zero i h.2).symm, (if_neg fun h => Nat.not_lt_zero i h.2).symm⟩
  | succ n ih =>
    intro hn
    obtain ⟨hdepth, hwait⟩ := ih (by omega)
    obtain ⟨hdepthStep, hwaitStep⟩ := State.bins_clearBin hi (show n < 16 by omega) (s.binsCleared flow n) flow g
    rw [State.binsCleared, forUpto_succ]
    refine ⟨hdepthStep.trans ?_, hwaitStep.trans ?_⟩
    · rw [hdepth, ite_last_or_before]
    · rw [hwait, ite_last_or_before]

end Bins

theorem State.binsCleared_rest (s : State) (flow n : Nat) : (s.binsCleared flow n).mem = s.mem ∧ (s.binsCleared flow n).out = s.out := by
  unfold State.binsCleared
  exact upto_keep (fun t : State => t.mem = s.mem ∧ t.out = s.out) n (fun i (t : State) => (t.setFld flow (F.EGS_Q_DHIST_COUNT i) 0).setFld flow (F.EGS_Q_LHIST_COUNT i) 0) (fun _ _ _ h => h) s ⟨rfl, rfl⟩

section Clear

variable {s : State} {req : Requester}

theorem exec_histogramClear_clears (ho : s.barOpen req F.EGS_Q_CTRL_CLEAR.off = true) :
    let flow := s.unitAt req F.EGS_Q_CTRL_CLEAR.off
    req.manages = true ∨ ownsEas req (s.flowEasel flow) = true → s.flowKind flow ≠ 0 → exec (.histogramClear req) s = .next (s.binsCleared flow 16) := by
  intro flow hwho hused
  have hmay : (mayClear req (s.flowEasel flow) && decide (s.flowKind flow ≠ 0)) = true := by
    rw [decide_eq_true hused, Bool.and_true, mayClear, Bool.or_eq_true]; exact hwho
  change execHistogramClear req s = _
  rw [execHistogramClear, access_open _ ho]
  exact if_pos hmay

theorem exec_histogramClear_shut (hmay : ¬(s.barOpen req F.EGS_Q_CTRL_CLEAR.off = true ∧ (req.manages = true ∨ ownsEas req (s.flowEasel (s.unitAt req F.EGS_Q_CTRL_CLEAR.off)) = true) ∧
    s.flowKind (s.unitAt req F.EGS_Q_CTRL_CLEAR.off) ≠ 0)) : exec (.histogramClear req) s = .next s := by
  change execHistogramClear req s = _
  rw [execHistogramClear]
  cases ho : s.barOpen req F.EGS_Q_CTRL_CLEAR.off with
  | false => exact access_shut _ ho
  | true =>
    rw [access_open _ ho]
    refine if_neg fun h => hmay ⟨ho, ?_⟩
    rw [mayClear, Bool.and_eq_true, Bool.or_eq_true] at h
    exact ⟨h.1, of_decide_eq_true h.2⟩

end Clear

/-- Settles O47: each command by its rule above. -/
theorem framesLeaveInTheirOrder : Obligations.FramesLeaveInTheirOrder := by
  intro s
  refine ⟨fun sub => ⟨fun c f r t hfirst hflow hhead => ⟨fun hup hnow => ?launched, exec_launchFrameStart_waits hfirst⟩, fun c hdrop => ⟨fun f hflow => ?dropped, fun hflow => ?droppedOwn⟩,
      exec_launchFrameDrop_none, fun slot => exec_queuedFrameStart_idle, fun slot hup hfree hnow => ⟨fun w hport hw hends => ?ctrl, fun hctrl => ⟨fun helig => ?none, fun c f r t hpick hflow hhead => ?radio⟩⟩⟩,
    fun hpaced hparam hflows hinv => ⟨_, exec_shaperRefill_idleRetouch hpaced hparam hflows, fun n hn => ?refilled, fun n hn => ?unused, ?refills, ?eth, ?mem, ?out⟩,
    fun hpaced => ⟨_, congrArg Host.Outcome.next (if_pos hpaced), ?samples, fun f hf => ?depth, ?sampled⟩, exec_paced_off, fun req => ?histogram⟩
  case launched =>
    obtain ⟨hout, hbusy, hothers, hmem⟩ := (State.launchStart_sends hflow hhead).sent
    exact ⟨_, exec_launchFrameStart_starts hfirst hup hnow, hout, hbusy, hothers, hmem⟩
  case dropped => rw [exec_launchFrameDrop_drops hdrop, State.launchDrop_flow hflow]
  case droppedOwn =>
    refine ⟨_, (exec_launchFrameDrop_drops hdrop).trans (congrArg Host.Outcome.next (State.launchDrop_timeBlock hflow)), SMap.get_set_same .., ?_, rfl⟩
    exact fld_incSat_same' _ _ _ _ lateCount_inWord
  case ctrl =>
    have hctrl : w.easel = 64 := of_decide_eq_true (List.find?_some (p := fun w : YzWait => decide (w.easel = 64)) hw)
    obtain ⟨hout, hwaits, hbusy, hmem⟩ := State.yzStart_ctrl (s := s) (sub := sub) (slot := slot) (path := 16 + sub.val / 4) ((s.yzWaits (16 + sub.val / 4)).erase w) hctrl
    exact ⟨_, exec_queuedFrameStart_ctrl hup hfree hnow (State.ctrlTake_some hport hw hends), hout, hwaits, hbusy, hmem⟩
  case none => exact exec_queuedFrameStart_none hup hfree hnow hctrl ((congrArg _ helig).trans (State.pickQueued_nil _ sub))
  case radio =>
    have hexec := exec_queuedFrameStart_starts hup hfree hnow hctrl (State.pickQueued_radio hpick)
    obtain ⟨hmem, hout⟩ := s.noteWaits_rest (s.allCands sub slot)
    obtain ⟨hsent, hbusy, hkept⟩ := State.queuedStart_line (s := s.noteWaits (s.allCands sub slot)) (sub := sub) (slot := slot) hflow hhead
    exact ⟨_, hexec, hbusy, hkept.trans hmem, hsent.trans (by rw [hout])⟩
  case refilled =>
    rw [State.refillCounted_credit]
    exact (State.credit_refillNodes s.nodesUsed s n (State.nodesUsed_nodup hinv)).trans (if_pos hn)
  case unused =>
    rw [State.refillCounted_credit]
    exact (State.credit_refillNodes s.nodesUsed s n (State.nodesUsed_nodup hinv)).trans (if_neg hn)
  case refills =>
    rw [fld_incWrap_same _ _ _ _ (by decide), s.refill_frame.fld _ _ (by decide) (by decide)]
  case eth => exact (show s.refill.eth = s.eth by rw [s.refill_frame.rest])
  case mem => exact s.refill_frame.mem
  case out => exact s.refill_frame.out
  case samples =>
    rw [State.queueSample, fld_incWrap_same _ _ _ _ (by decide), s.sampleFlows_frame.fld _ _ (by decide) (by decide)]
  case depth =>
    rw [State.queueSample, fld_incWrap_apart _ _ _ _ _ _ (by decide) (by decide) (by decide)]
    exact s.depth_sampleFlows f s.flowsUsed s (.refl _ _) (.inl hf)
  case sampled =>
    have hframe := s.sampleFlows_frame
    exact ⟨show (forEach s.flowsUsed _ s).eth = s.eth by rw [hframe.rest], show (forEach s.flowsUsed _ s).pal = s.pal by rw [hframe.rest], hframe.mem, hframe.out⟩
  case histogram =>
    intro flow may
    refine ⟨fun ⟨ho, hwho, hused⟩ => ?_, exec_histogramClear_shut⟩
    obtain ⟨hmem, hout⟩ := s.binsCleared_rest flow 16
    refine ⟨_, exec_histogramClear_clears ho hwho hused, fun i hi => ?_, fun g hg i hi => ?_, hmem, hout⟩
    · obtain ⟨hdepth, hwait⟩ := State.bins_binsCleared hi s flow flow 16 (Nat.le_refl _)
      exact ⟨hdepth.trans (if_pos ⟨rfl, hi⟩), hwait.trans (if_pos ⟨rfl, hi⟩)⟩
    · obtain ⟨hdepth, hwait⟩ := State.bins_binsCleared hi s flow g 16 (Nat.le_refl _)
      exact ⟨hdepth.trans (if_neg fun h => hg h.1), hwait.trans (if_neg fun h => hg h.1)⟩

end Sys2Proof.Machine

/-! SUPPORT. The ROM, apply, the training of the stacks and the start of easel 0 (20 R552 to R554; 02 R27, R30, R32, R33; 03 R78, R79, R81; 04 R114, R115): one rule for each, and the statement about
them. -/
namespace Sys2Proof.Machine

open Sys2Proof Sys2Proof.Laws

/-! ### The ROM (20 R552 to R554; 03 R81) -/

/-- What the recovery wait shows; nothing else of the boot block changes. -/
theorem State.romWait_shows (s : State) : s.romWait.flag 0 F.RST_BRINGUP_RECOVERY = true ∧ s.romWait.fld 0 F.TRU_MBX_STATUS_STATE = 1 :=
  ⟨(State.flag_setFld_apart _ _ _ _ _ _ (by decide) (by decide) (by decide)).trans (State.flag_setFlag_same _ _ _ _ (by decide) (by decide)), State.fld_setFld_same _ _ _ _ (by decide)⟩

theorem State.fld_romWait (s : State) (u : Nat) {f : Fld} (hw : f.inWord = true) (hr : f.apart F.RST_BRINGUP_RECOVERY = true) (hm : f.apart F.TRU_MBX_STATUS_STATE = true) :
    s.romWait.fld u f = s.fld u f := by
  rw [State.romWait, State.fld_setFld_apart _ _ _ _ _ _ (by decide) hw hm, State.fld_setFlag_apart _ _ _ _ _ _ (by decide) hw hr]

/-- The ROM waits for a push instead of reading the flash. -/
theorem State.romWait_push (s : State) :
    (s.setSource 2).romWait.fld 0 F.TRU_BOOT_SOURCE = 2 ∧ (s.setSource 2).romWait.flag 0 F.RST_BRINGUP_RECOVERY = true ∧ (s.setSource 2).romWait.fld 0 F.TRU_MBX_STATUS_STATE = 1 :=
  ⟨(State.fld_romWait _ _ (by decide) (by decide) (by decide)).trans (s.setSource_boot 2), State.romWait_shows _⟩

/-- A push that was asked for before the reset is waited for once. -/
theorem State.romWait_pushNext (s : State) : ((s.setFlag 0 F.TRU_BOOT_CTRL_PUSH_NEXT false).setSource 2).romWait.flag 0 F.TRU_BOOT_CTRL_PUSH_NEXT = false := by
  unfold State.flag
  rw [State.fld_romWait _ _ (by decide) (by decide) (by decide), State.setSource, State.fld_setFld_apart _ _ _ _ _ _ (by decide) (by decide) (by decide),
    State.fld_setFld_apart _ _ _ _ _ _ (by decide) (by decide) (by decide)]
  exact State.flag_setFlag_same s 0 _ false (by decide) (by decide)

/-- The flash fails with a code, and the ROM waits for a push. -/
theorem State.romWait_fault (s : State) {c : Nat} (hc : c < 32) :
    ((s.setSource 1).setFld 0 F.TRU_BOOT_RESULT c).romWait.fld 0 F.TRU_BOOT_RESULT = c ∧ ((s.setSource 1).setFld 0 F.TRU_BOOT_RESULT c).romWait.fld 0 F.TRU_BOOT_SOURCE = 1 := by
  rw [State.fld_romWait _ _ (by decide) (by decide) (by decide), State.fld_romWait _ _ (by decide) (by decide) (by decide), State.fld_setFld_same _ _ _ _ (by decide),
    State.fld_setFld_apart _ _ _ _ _ _ (by decide) (by decide) (by decide)]
  exact ⟨Nat.mod_eq_of_lt (show c < 256 by omega), s.setSource_boot 1⟩

/-- The registers of an accepted image. -/
theorem State.fld_romAccept (s : State) (img : Blob) (u : Nat) (f : Fld) : (s.romAccept img).fld u f =
    ((((s.setFld 0 F.TRU_BOOT_RESULT 1).setFld 0 F.TRU_SVN_SVN (imgSvn img)).setFlag 0 F.RST_BRINGUP_RECOVERY false).setFld 0 F.RST_BRINGUP_STEP 4).fld u f := rfl

theorem State.romAccept_shows (s : State) (img : Blob) :
    (s.romAccept img).boot.image = img ∧ (s.romAccept img).boot.stage = .checked ∧ (s.romAccept img).fld 0 F.TRU_BOOT_RESULT = 1 ∧ (s.romAccept img).fld 0 F.RST_BRINGUP_STEP = 4 := by
  refine ⟨rfl, rfl, ?_, (s.fld_romAccept img 0 _).trans (State.fld_setFld_same _ _ _ _ (by decide))⟩
  rw [State.fld_romAccept, State.fld_setFld_apart _ _ _ _ _ _ (by decide) (by decide) (by decide), State.fld_setFlag_apart _ _ _ _ _ _ (by decide) (by decide) (by decide),
    State.fld_setFld_apart _ _ _ _ _ _ (by decide) (by decide) (by decide)]
  exact State.fld_setFld_same _ _ _ _ (by decide)

theorem State.romAccept_source (s : State) (img : Blob) : (s.romAccept img).fld 0 F.TRU_BOOT_SOURCE = s.fld 0 F.TRU_BOOT_SOURCE := by
  rw [State.fld_romAccept, State.fld_setFld_apart _ _ _ _ _ _ (by decide) (by decide) (by decide), State.fld_setFlag_apart _ _ _ _ _ _ (by decide) (by decide) (by decide),
    State.fld_setFld_apart _ _ _ _ _ _ (by decide) (by decide) (by decide), State.fld_setFld_apart _ _ _ _ _ _ (by decide) (by decide) (by decide)]

section Flash

variable (s : State)

theorem State.romFlash_unread : s.romFlash none = ((s.setSource 1).setFld 0 F.TRU_BOOT_RESULT 0x10).romWait := rfl

variable {s : State} {b : Blob}

theorem State.romFlash_bad {c : Nat} (h : (s.setSource 1).imgFault b = some c) : s.romFlash (some b) = ((s.setSource 1).setFld 0 F.TRU_BOOT_RESULT c).romWait := by
  unfold State.romFlash
  dsimp only
  rw [h]

theorem State.romFlash_good (h : (s.setSource 1).imgFault b = none) : s.romFlash (some b) = (s.setSource 1).romAccept b := by
  unfold State.romFlash
  dsimp only
  rw [h]

/-- Whatever the flash delivers, it is the source. -/
theorem State.romFlash_source (flash : Option Blob) : (s.romFlash flash).fld 0 F.TRU_BOOT_SOURCE = 1 := by
  have hwait : ∀ c, ((s.setSource 1).setFld 0 F.TRU_BOOT_RESULT c).romWait.fld 0 F.TRU_BOOT_SOURCE = 1 := fun c => by
    rw [State.fld_romWait _ _ (by decide) (by decide) (by decide), State.fld_setFld_apart _ _ _ _ _ _ (by decide) (by decide) (by decide)]
    exact s.setSource_boot 1
  cases flash with
  | none => exact hwait 0x10
  | some b =>
    cases h : (s.setSource 1).imgFault b with
    | none => rw [State.romFlash_good h, State.romAccept_source]; exact s.setSource_boot 1
    | some c => rw [State.romFlash_bad h]; exact hwait c

end Flash

section Boot

variable {s : State} {flash ident : Option Blob} (hchip : s.rst.chipSrc = 0) (hstep : s.fld 0 F.RST_BRINGUP_STEP = 3) (hsource : s.fld 0 F.TRU_BOOT_SOURCE = 0)
include hchip hstep hsource

theorem exec_romBoot_step3 : exec (.romBoot flash ident) s =
    let s1 := s.deriveId ident
    .next (if s1.flag 0 F.TRU_BOOT_CTRL_PUSH_NEXT then ((s1.setFlag 0 F.TRU_BOOT_CTRL_PUSH_NEXT false).setSource 2).romWait
      else if (s1.fld 0 F.RST_LAST_SOURCES).testBit 9 then
        (if s1.fld 0 F.CVS_FLASH_TRIES_TRIES < 2 then (s1.incSat 0 F.CVS_FLASH_TRIES_TRIES 1).romFlash flash else (s1.setSource 2).romWait)
      else s1.romFlash flash) :=
  congrArg Host.Outcome.next (if_neg (by rw [hchip, hstep, hsource]; decide))

theorem exec_romBoot_pushNext (h : (s.deriveId ident).flag 0 F.TRU_BOOT_CTRL_PUSH_NEXT = true) :
    exec (.romBoot flash ident) s = .next (((s.deriveId ident).setFlag 0 F.TRU_BOOT_CTRL_PUSH_NEXT false).setSource 2).romWait :=
  (exec_romBoot_step3 hchip hstep hsource).trans (congrArg Host.Outcome.next (if_pos h))

variable (hnext : (s.deriveId ident).flag 0 F.TRU_BOOT_CTRL_PUSH_NEXT = false)
include hnext

theorem exec_romBoot_tried (hwdog : ((s.deriveId ident).fld 0 F.RST_LAST_SOURCES).testBit 9 = true) (htries : 2 ≤ (s.deriveId ident).fld 0 F.CVS_FLASH_TRIES_TRIES) :
    exec (.romBoot flash ident) s = .next ((s.deriveId ident).setSource 2).romWait := by
  refine (exec_romBoot_step3 hchip hstep hsource).trans (congrArg Host.Outcome.next ?_)
  exact (if_neg (by rw [hnext]; exact Bool.false_ne_true)).trans ((if_pos hwdog).trans (if_neg (Nat.not_lt.mpr htries)))

/-- The ROM reads the flash; after a watchdog's reset the try is counted. -/
theorem exec_romBoot_flash (htries : ((s.deriveId ident).fld 0 F.RST_LAST_SOURCES).testBit 9 = true → (s.deriveId ident).fld 0 F.CVS_FLASH_TRIES_TRIES < 2) :
    exec (.romBoot flash ident) s = .next ((if ((s.deriveId ident).fld 0 F.RST_LAST_SOURCES).testBit 9 then (s.deriveId ident).incSat 0 F.CVS_FLASH_TRIES_TRIES 1 else s.deriveId ident).romFlash
      flash) := by
  refine (exec_romBoot_step3 hchip hstep hsource).trans (congrArg Host.Outcome.next ?_)
  refine (if_neg (by rw [hnext]; exact Bool.false_ne_true)).trans ?_
  cases hwdog : ((s.deriveId ident).fld 0 F.RST_LAST_SOURCES).testBit 9 with
  | true => exact if_pos (htries hwdog)
  | false => rfl

end Boot

/-! ### Apply begins (02 R27; 20 R556) -/

/-- Phase 1 of apply. -/
def State.phaseOne (s : State) : State := (s.setFld 0 F.CVS_STATE_STATE 1).setFld 0 F.CVS_STATE_PHASE 1

theorem State.phaseOne_source (s : State) : s.phaseOne.fld 0 F.CVS_STATE_SOURCE = s.fld 0 F.CVS_STATE_SOURCE := by
  rw [State.phaseOne, State.fld_setFld_apart _ _ _ _ _ _ (by decide) (by decide) (by decide), State.fld_setFld_apart _ _ _ _ _ _ (by decide) (by decide) (by decide)]

section Begin

variable {s : State} (hchip : s.rst.chipSrc = 0) (hstage : s.boot.stage = .checked)
include hchip hstage

theorem applyBegin_ready : ¬(s.boot.stage ≠ .checked ∨ s.rst.chipSrc ≠ 0) := fun h => h.elim (· hstage) (· hchip)

theorem exec_applyBegin_flash (hsource : s.fld 0 F.CVS_STATE_SOURCE ≠ 2) (hall : imgCanvasAt s.boot.image + imgCanvasLen s.boot.image ≤ s.boot.image.len) :
    exec (.applyBegin false) s = .next ({ s.phaseOne with boot := { s.phaseOne.boot with stage := .ready } }.phaseCheck) := by
  refine congrArg Host.Outcome.next ((if_neg (applyBegin_ready hchip hstage)).trans ((if_neg (by rw [← s.phaseOne_source] at hsource; exact hsource)).trans (if_neg ?_)))
  rw [Bool.false_or]
  exact fun h => absurd hall (Nat.not_le.mpr (of_decide_eq_true h))

theorem exec_applyBegin_lost (hsource : s.fld 0 F.CVS_STATE_SOURCE ≠ 2) : exec (.applyBegin true) s = .next (s.phaseOne.applyRefuse cfSourceLost 0) :=
  congrArg Host.Outcome.next ((if_neg (applyBegin_ready hchip hstage)).trans ((if_neg (by rw [← s.phaseOne_source] at hsource; exact hsource)).trans (if_pos rfl)))

theorem exec_applyBegin_push (lost : Bool) (hsource : s.fld 0 F.CVS_STATE_SOURCE = 2) (hheader : s.phaseOne.headerRefusal s.phaseOne.canvas = none) :
    exec (.applyBegin lost) s = .next (s.phaseOne.mbxStage .table (s.phaseOne.cvChunks [(0x100, 48 * cvCount s.phaseOne.canvas)])) := by
  refine congrArg Host.Outcome.next ((if_neg (applyBegin_ready hchip hstage)).trans ((if_pos (by rw [← s.phaseOne_source] at hsource; exact hsource)).trans ?_))
  change (match s.phaseOne.headerRefusal s.phaseOne.canvas with
    | some x => s.phaseOne.applyRefuse x 0
    | none => s.phaseOne.mbxStage .table (s.phaseOne.cvChunks [(0x100, 48 * cvCount s.phaseOne.canvas)])) = _
  rw [hheader]

end Begin

/-! ### Training (04 R114, R115) -/

theorem State.state_stackTrained_other {s : State} {k j : Nat} (ok : Bool) (spares : Nat) (h : j ≠ k) :
    (s.stackTrained k ok spares).fld j F.MEM_STK_STATUS_STATE = s.fld j F.MEM_STK_STATUS_STATE := by
  unfold State.stackTrained
  split
  · rfl
  split
  · rw [State.fld_setFld_apart _ _ _ _ _ _ (by decide) (by decide) (by decide), State.fld_setFld_unit _ _ _ _ (by decide) (by decide) h]
  · rw [State.fld_setFld_unit _ _ _ _ (by decide) (by decide) h]

/-- A stack that trains is in INIT or has FAILED; one that does not stays. -/
theorem State.state_stackTrained (s : State) (k : Nat) (ok : Bool) (spares : Nat) :
    (s.stackTrained k ok spares).fld k F.MEM_STK_STATUS_STATE = if s.fld k F.MEM_STK_STATUS_STATE = 1 then (if ok then 2 else 5) else s.fld k F.MEM_STK_STATUS_STATE := by
  unfold State.stackTrained
  by_cases h : s.fld k F.MEM_STK_STATUS_STATE = 1
  · rw [if_neg (not_not.mpr h), if_pos h]
    cases ok with
    | true => exact (State.fld_setFld_apart _ _ _ _ _ _ (by decide) (by decide) (by decide)).trans (State.fld_setFld_same _ _ _ _ (by decide))
    | false => exact State.fld_setFld_same _ _ _ _ (by decide)
  · rw [if_pos h, if_neg h]

/-- The training of the first `n` stacks ends; the bits of `m` say which have trained. -/
def State.trainEnds (s : State) (m : Nat) (spares : List Nat) (n : Nat) : State := forUpto n (fun k (t : State) => t.stackTrained k (m.testBit k) (nth 0 spares k)) s

theorem State.state_trainEnds (s : State) (m : Nat) (spares : List Nat) (j : Nat) : ∀ n, (s.trainEnds m spares n).fld j F.MEM_STK_STATUS_STATE =
    if j < n ∧ s.fld j F.MEM_STK_STATUS_STATE = 1 then (if m.testBit j then 2 else 5) else s.fld j F.MEM_STK_STATUS_STATE := by
  intro n
  induction n with
  | zero => exact (if_neg fun h => Nat.not_lt_zero j h.1).symm
  | succ n ih =>
    rw [State.trainEnds, forUpto_succ]
    by_cases hj : j = n
    · subst hj
      refine (State.state_stackTrained _ _ _ _).trans ?_
      rw [show (forUpto j (fun k (t : State) => t.stackTrained k (m.testBit k) (nth 0 spares k)) s).fld j F.MEM_STK_STATUS_STATE = s.fld j F.MEM_STK_STATUS_STATE from
        ih.trans (if_neg fun h => Nat.lt_irrefl j h.1)]
      exact if_congr ⟨fun h => ⟨Nat.lt_succ_self j, h⟩, fun h => h.2⟩ rfl rfl
    · refine (State.state_stackTrained_other _ _ hj).trans (ih.trans ?_)
      exact if_congr (and_congr_left fun _ => ⟨fun h => Nat.lt_succ_of_lt h, fun h => Nat.lt_of_le_of_ne (Nat.le_of_lt_succ h) hj⟩) rfl rfl

theorem State.trainEnds_boot (s : State) (m : Nat) (spares : List Nat) (n : Nat) : (s.trainEnds m spares n).boot = s.boot := by
  unfold State.trainEnds
  refine upto_keep (fun t : State => t.boot = s.boot) n (fun k (t : State) => t.stackTrained k (m.testBit k) (nth 0 spares k)) (fun k _ t h => ?_) s rfl
  unfold State.stackTrained
  split
  · exact h
  split <;> exact h

/-- The stacks are filled with zeros, and phase 5 begins. -/
def State.memFilled (s : State) : State := (forUpto 18 (fun k (t : State) => t.stackFilled k) { s with mem := [], poison := [], used := [] }).setFld 0 F.CVS_STATE_PHASE 5

theorem State.memFilled_rest (s : State) : s.memFilled.mem = [] ∧ s.memFilled.poison = [] ∧ s.memFilled.used = [] ∧ s.memFilled.boot = s.boot := by
  obtain ⟨hmem, hpoison, hused, hboot⟩ := upto_keep (fun t : State => t.mem = [] ∧ t.poison = [] ∧ t.used = [] ∧ t.boot = s.boot) 18 (fun k (t : State) => t.stackFilled k)
    (fun _ _ _ h => h) { s with mem := [], poison := [], used := [] } ⟨rfl, rfl, rfl, rfl⟩
  rw [State.memFilled, State.setFld_mem, State.setFld_poison, State.setFld_used, State.setFld_boot]
  exact ⟨hmem, hpoison, hused, hboot⟩

section Training

variable {s : State} {spares : List Nat} (hchip : s.rst.chipSrc = 0) (hstate : s.fld 0 F.CVS_STATE_STATE = 1) (hphase : s.fld 0 F.CVS_STATE_PHASE = 4)
include hchip hstate hphase

theorem exec_stackTrainingDone_phase4 (trained : BitVec 18) (filled lost : Bool) : exec (.stackTrainingDone trained spares filled lost) s =
    let u := s.trainEnds trained.toNat spares 18
    .next (if (List.range 18).any (fun k => decide (u.fld k F.MEM_STK_STATUS_STATE = 5)) then u.applyRefuse cfTraining 0
      else if !filled then u
      else if u.memFilled.boot.stage = .late then u.memFilled.mbxStage .late (u.memFilled.wantPhase false)
      else if lost then u.memFilled.applyRefuse cfSourceLost 0
      else u.memFilled.phaseLate) :=
  congrArg Host.Outcome.next (if_neg (by rw [hstate, hphase, hchip]; decide))

/-- A stack that does not train refuses the canvas. -/
theorem exec_stackTrainingDone_fails {trained : BitVec 18} (filled lost : Bool) (hall : ∀ k, k < 18 → s.fld k F.MEM_STK_STATUS_STATE = 1) (hbad : trained ≠ BitVec.allOnes 18) :
    exec (.stackTrainingDone trained spares filled lost) s = .next ((s.trainEnds trained.toNat spares 18).applyRefuse cfTraining 0) := by
  obtain ⟨k, hk, hbit⟩ : ∃ k, k < 18 ∧ trained.toNat.testBit k = false := by
    by_contra hnone
    refine hbad (BitVec.eq_of_getLsbD_eq fun i hi => ?_)
    rw [BitVec.getLsbD_allOnes, decide_eq_true hi]
    exact eq_true_of_ne_false fun h => hnone ⟨i, hi, h⟩
  refine (exec_stackTrainingDone_phase4 hchip hstate hphase trained filled lost).trans (congrArg Host.Outcome.next (if_pos ?_))
  refine List.any_eq_true.mpr ⟨k, List.mem_range.mpr hk, decide_eq_true ?_⟩
  rw [s.state_trainEnds, if_pos ⟨hk, hall k hk⟩, hbit]
  rfl

omit hchip hstate hphase in
/-- When every interface has trained, a stack in TRAINING or INIT is in INIT. -/
theorem State.state_allTrained {k : Nat} (hk : k < 18) (h : s.fld k F.MEM_STK_STATUS_STATE = 1 ∨ s.fld k F.MEM_STK_STATUS_STATE = 2) :
    (s.trainEnds (2 ^ 18 - 1) spares 18).fld k F.MEM_STK_STATUS_STATE = 2 := by
  rw [s.state_trainEnds]
  rcases h with h | h
  · rw [if_pos ⟨hk, h⟩, Nat.testBit_two_pow_sub_one, decide_eq_true hk, if_pos rfl]
  · rw [if_neg fun hone => absurd (h.symm.trans hone.2) (by decide), h]

theorem exec_stackTrainingDone_trains (filled lost : Bool) (hall : ∀ k, k < 18 → s.fld k F.MEM_STK_STATUS_STATE = 1 ∨ s.fld k F.MEM_STK_STATUS_STATE = 2) :
    exec (.stackTrainingDone (BitVec.allOnes 18) spares filled lost) s =
      let u := s.trainEnds (2 ^ 18 - 1) spares 18
      .next (if !filled then u
        else if u.memFilled.boot.stage = .late then u.memFilled.mbxStage .late (u.memFilled.wantPhase false)
        else if lost then u.memFilled.applyRefuse cfSourceLost 0
        else u.memFilled.phaseLate) := by
  have hones : (BitVec.allOnes 18).toNat = 2 ^ 18 - 1 := by decide
  refine (exec_stackTrainingDone_phase4 hchip hstate hphase _ filled lost).trans ?_
  rw [hones]
  refine congrArg Host.Outcome.next (if_neg fun hfailed => ?_)
  obtain ⟨k, hk, h5⟩ := List.any_eq_true.mp hfailed
  exact absurd ((State.state_allTrained (List.mem_range.mp hk) (hall k (List.mem_range.mp hk))).symm.trans (of_decide_eq_true h5)) (by decide)

end Training

/-! ### Easel 0 (03 R78, R79) -/

/-- Easel 0 is ready, and bring-up goes on to step 10 or, with the CXL controller out of reset, 11. -/
def State.easel0Ready (s : State) (us : Nat) : State :=
  let s2 := (((forUpto 192 (fun n (t : State) => t.loadImage n) s).setLife 0 lifeReady).setFlag 0 F.RST_BRINGUP_RADIO_READY true).setFld 0 F.RST_READY_TIME_US us
  s2.setFld 0 F.RST_BRINGUP_STEP (if s2.flag 0 F.RST_DOMAIN_CXL then 10 else 11)

theorem exec_easel0Start_step9 {s : State} (us : BitVec 32) (hchip : s.rst.chipSrc = 0) (hsealed : s.fld 0 F.CVS_STATE_STATE = 2) (hstep : s.fld 0 F.RST_BRINGUP_STEP = 9) :
    exec (.easel0Start us) s = .next (forEach (s.easel0Ready us.toNat).stickyDets (fun d (t : State) => t.postFatal d.1 d.2.1 d.2.2) (s.easel0Ready us.toNat)) :=
  congrArg Host.Outcome.next (if_neg (by rw [hsealed, hstep, hchip]; decide))

theorem State.easel0Ready_shows (s : State) (us : BitVec 32) : let u := s.easel0Ready us.toNat
    u.flag 0 F.RST_BRINGUP_RADIO_READY = true ∧ u.fld 0 F.RST_READY_TIME_US = us.toNat ∧ u.life 0 = lifeReady ∧
      u.fld 0 F.RST_BRINGUP_STEP = if u.flag 0 F.RST_DOMAIN_CXL then 10 else 11 := by
  intro u
  unfold u State.easel0Ready
  dsimp only
  generalize forUpto 192 (fun n (t : State) => t.loadImage n) s = s1
  refine ⟨?_, ?_, ?_, ?_⟩
  · rw [State.flag_setFld_apart _ _ _ _ _ _ (by decide) (by decide) (by decide), State.flag_setFld_apart _ _ _ _ _ _ (by decide) (by decide) (by decide)]
    exact State.flag_setFlag_same _ _ _ _ (by decide) (by decide)
  · rw [State.fld_setFld_apart _ _ _ _ _ _ (by decide) (by decide) (by decide), State.fld_setFld_same _ _ _ _ (by decide)]
    exact Nat.mod_eq_of_lt us.isLt
  · rw [State.life, State.fld_setFld_apart _ _ _ _ _ _ (by decide) (by decide) (by decide), State.fld_setFld_apart _ _ _ _ _ _ (by decide) (by decide) (by decide),
      State.fld_setFlag_apart _ _ _ _ _ _ (by decide) (by decide) (by decide)]
    exact State.fld_setFld_same _ _ _ _ (by decide)
  · rw [State.fld_setFld_same _ _ _ _ (by decide), State.flag_setFld_apart _ _ _ F.RST_BRINGUP_STEP _ _ (by decide) (by decide) (by decide)]
    split <;> rfl

/-- Settles O13: each command by its rule above. -/
theorem romAndApplyBringTheCanvasIn : Obligations.RomAndApplyBringTheCanvasIn := by
  intro s hchip
  refine ⟨fun flash ident hstep hsource => ⟨fun hnext => ⟨_, exec_romBoot_pushNext hchip hstep hsource hnext, State.romWait_pushNext _, State.romWait_push _⟩,
      fun hnext hwdog htries => ⟨_, exec_romBoot_tried hchip hstep hsource hnext hwdog htries, State.romWait_push _⟩,
      fun hnext htries => ⟨_, exec_romBoot_flash hchip hstep hsource hnext htries, State.romFlash_source _, ?good, ?bad, ?unread⟩⟩,
    fun lost hstage => ⟨fun hsource hlost hall => ?begun, fun hsource hlost => ?lost, exec_applyBegin_push hchip hstage lost⟩,
    fun spares lost hstate hphase => ⟨fun hall => ⟨?trained, fun k hk => State.state_allTrained hk (.inl (hall k hk))⟩, fun hall hstage hlost => ?filled, fun hall hstage => ?filledPush,
      (State.memFilled_rest _).1, (State.memFilled_rest _).2.1, (State.memFilled_rest _).2.2.1, fun trained filled hall hbad => exec_stackTrainingDone_fails hchip hstate hphase filled lost hall hbad⟩,
    fun us hsealed hstep => ⟨s.easel0Ready us.toNat, exec_easel0Start_step9 us hchip hsealed hstep, s.easel0Ready_shows us⟩⟩
  case good =>
    rintro b rfl hgood
    rw [State.romFlash_good hgood]
    exact ⟨rfl, State.romAccept_shows _ b⟩
  case bad =>
    rintro b c rfl hbad hc
    rw [State.romFlash_bad hbad]
    exact ⟨(State.romWait_fault _ hc).1, State.romWait_shows _⟩
  case unread =>
    rintro rfl
    rw [State.romFlash_unread]
    exact ⟨(State.romWait_fault _ (by decide)).1, State.romWait_shows _⟩
  case begun =>
    subst hlost
    exact exec_applyBegin_flash hchip hstage hsource hall
  case lost =>
    subst hlost
    exact exec_applyBegin_lost hchip hstage hsource
  case trained => exact exec_stackTrainingDone_trains hchip hstate hphase false lost fun k hk => .inl (hall k hk)
  case filled =>
    subst hlost
    refine (exec_stackTrainingDone_trains hchip hstate hphase true false hall).trans (congrArg Host.Outcome.next ((if_neg Bool.false_ne_true).trans ((if_neg ?_).trans (if_neg Bool.false_ne_true))))
    rw [(State.memFilled_rest _).2.2.2, State.trainEnds_boot]
    exact hstage
  case filledPush =>
    refine (exec_stackTrainingDone_trains hchip hstate hphase true lost hall).trans (congrArg Host.Outcome.next ((if_neg Bool.false_ne_true).trans (if_pos ?_)))
    rw [(State.memFilled_rest _).2.2.2, State.trainEnds_boot]
    exact hstage

end Sys2Proof.Machine
